-- ==== Sys2Proof/Word.lean ====
section
/-!
DEFINITION. The plain number helpers of the model: register values are natural numbers below 2^width, and these read
and build them (R8: bit 0 is the least significant; R9: multi-byte fields are little-endian).
-/

namespace Sys2Proof

/-- A byte of a frame, a record or a memory. -/
abbrev Byte := BitVec 8

/-- `v` reduced to `w` bits. -/
def trunc (w v : Nat) : Nat := v % 2 ^ w

/-- Bits [hi:lo] of `v` (R8). -/
def bits (v hi lo : Nat) : Nat := v / 2 ^ lo % 2 ^ (hi + 1 - lo)

/-- Bit `n` of `v` (R8). -/
def bitOf (v n : Nat) : Bool := v / 2 ^ n % 2 == 1

/-- `v` with bit `n` set. -/
def setBit (v n : Nat) : Nat := if bitOf v n then v else v + 2 ^ n

/-- `v` with bit `n` clear. -/
def clrBit (v n : Nat) : Nat := if bitOf v n then v - 2 ^ n else v

/-- `v` with bit `n` equal to `b`. -/
def putBit (v n : Nat) (b : Bool) : Nat := if b then setBit v n else clrBit v n

/-- The signed value of the `w`-bit number `v` (two's complement). -/
def sgn (w v : Nat) : Int := if v % 2 ^ w < 2 ^ (w - 1) then (v % 2 ^ w : Nat) else ((v % 2 ^ w : Nat) : Int) - (2 ^ w : Nat)

/-- The `w`-bit two's complement form of `x`. -/
def usgn (w : Nat) (x : Int) : Nat := (x % ((2 ^ w : Nat) : Int)).toNat

/-- `x` limited to `lo` to `hi`. -/
def clampI (lo hi x : Int) : Int := if x < lo then lo else if hi < x then hi else x

/-- A flag as a one-bit value. -/
def b2n (b : Bool) : Nat := if b then 1 else 0

/-- Little-endian value of a byte list (R9). -/
def leNat : List Nat → Nat
  | [] => 0
  | b :: bs => b % 256 + 256 * leNat bs

/-- `n` little-endian bytes of `v` (R9). -/
def leBytes : Nat → Nat → List Nat
  | 0, _ => []
  | n + 1, v => v % 256 :: leBytes n (v / 256)

/-- The little-endian field of `n` bytes at offset `off` of a byte list; bytes past the end read as 0. -/
def leAt (bs : List Nat) (off n : Nat) : Nat := leNat (((bs.drop off).take n))

/-- `k` reversed within `w` bits. -/
def revBits : Nat → Nat → Nat
  | 0, _ => 0
  | w + 1, k => k % 2 * 2 ^ w + revBits w (k / 2)

/-- The integer square root, by a fixed number of halving steps on `fuel` bits. -/
def isqrtGo (n : Nat) : Nat → Nat → Nat
  | 0, r => r
  | f + 1, r => isqrtGo n f (if (r + 2 ^ f) * (r + 2 ^ f) ≤ n then r + 2 ^ f else r)

/-- The largest `r` with `r * r ≤ n`, for `n` below 2^128. -/
def isqrt (n : Nat) : Nat := isqrtGo n 64 0

/-- The nearest integer to the square root of `n`; an exact half cannot occur (`(r + 1/2)^2` is no integer). -/
def isqrtNear (n : Nat) : Nat := let r := isqrt n; if r * r + r < n then r + 1 else r

/-- `q` limited to `lo` to `hi`. -/
def clampQ (lo hi q : Rat) : Rat := max lo (min hi q)

/-- The first `n` binary digits of the angle of `(x, y)` in cycles, from 0 to 1, as the interval that they leave: each squaring doubles the
angle. -/
def turnBits : Nat → Int → Int → Rat × Rat
  | 0, _, _ => (0, 1)
  | n + 1, x, y =>
    let b : Rat := if y < 0 ∨ (y = 0 ∧ x < 0) then 1 / 2 else 0
    if y = 0 then (b, b)
    else let r := turnBits n (x * x - y * y) (2 * x * y); (b + r.1 / 2, b + r.2 / 2)

/-- The interval that holds `atan2 y x` in cycles, -1/2 to 1/2, 2^-8 wide; none is narrower at the origin. -/
def turnBounds (x y : Int) : Rat × Rat :=
  if x = 0 ∧ y = 0 then (-1 / 2, 1 / 2)
  else
    let r := turnBits 8 x y
    if 1 / 2 ≤ r.1 ∧ 1 / 2 < r.2 then (r.1 - 1, r.2 - 1) else r

/-- The interval that holds the square root of `n`: exact where `n` is a square. -/
def sqrtBounds (n : Nat) : Rat × Rat :=
  let r := isqrt (n * 2 ^ 16)
  ((r : Rat) / 256, if r * r = n * 2 ^ 16 then (r : Rat) / 256 else ((r : Rat) + 1) / 256)

/-- The largest integer not above `160 log10 q` for a positive `q`, within -64 to 1099: how many powers of ten from 10^-63 on `q^160` reaches. -/
def floorLog (q : Rat) : Int :=
  (((List.range 1163).filter (fun j => decide (10 ^ (j + 1) * q.den ^ 160 ≤ 10 ^ 64 * q.num.toNat ^ 160))).length : Int) - 64

/-- Round half away from zero of `a / b`, for a positive `b`. -/
def rdiv (a : Int) (b : Nat) : Int :=
  if 0 ≤ a then ((2 * a.toNat + b) / (2 * b) : Nat) else -(((2 * (-a).toNat + b) / (2 * b) : Nat) : Int)

/-- Smallest natural number not below `a / b`. -/
def cdiv (a b : Nat) : Nat := (a + b - 1) / b

end Sys2Proof
end

