-- ==== Sys2Proof/Syntax.lean ====
section
/-!
DEFINITION. The commands of the block: one constructor per row of spec/opcode_table.json, with the operands the rule gives it.
What a command cannot read from the state (the bytes of a frame, a level on a ball, a measured quantity, the outcome of a
cryptographic check) is an operand (log 8). `ini` is the initiator of R7 that makes a register access.
-/

namespace Sys2Proof

/-- The word of an on-die SRAM in which the code finds an error (R512, R623): Rook SRAM; fix engine SRAM, in the filter of an address or
elsewhere; the hot-start block; a retained key slot; MP SRAM. -/
inductive SramMem where
  | rook
  | fix (filter : Option Nat)
  | hotStart
  | keySlot (k : Nat)
  | mp
  deriving DecidableEq, Repr

/-- What a calibration channel measured in one second (R213, R214): it held code lock for the whole second, the delays of its loop at
1 kHz in ps, its C/N0 in 0.5 dB-Hz. -/
structure CalMeas where
  held : Bool
  loops : List Int
  cn0 : Nat
  deriving DecidableEq, Repr

/-- The base time solution of an epoch (R284): the FE_A entries with PR_VALID that it uses, its offset (GNSS minus local) and its standard
deviation in ns. -/
structure TimeSol where
  used : Nat
  off : Int
  sd : Nat
  deriving DecidableEq, Repr

/-- A signal that the hot-start block lets the firmware predict (R229): its code, PRN, Doppler in Hz and elevation in degrees. -/
structure SkySig where
  sig : Nat
  prn : Nat
  dopp : Int
  elev : Int
  deriving DecidableEq, Repr

/-- The seven accumulations of one integration (R236, R237), as I and Q, and what the NCOs hold at its end: the code phase (UQ16.16
chips) and the accumulated carrier phase (2^-32 cycle; R257). -/
structure Accums where
  pI : Int
  pQ : Int
  eI : Int
  eQ : Int
  lI : Int
  lQ : Int
  veI : Int
  veQ : Int
  vlI : Int
  vlQ : Int
  nI : Int
  nQ : Int
  pdI : Int
  pdQ : Int
  code : Nat
  carr : Int
  deriving DecidableEq, Repr

/-- What the NCOs and counters of a channel hold at the start of a strobe cycle (R259): code phase (UQ16.16 chips),
accumulated carrier phase (2^-32 cycle), transmit time (ms and 2^-32 ms), and the elevation the firmware holds for the
satellite (R265; -128 unknown). -/
structure ChLatch where
  ch : Nat
  code : Nat
  carr : Int
  txMs : Nat
  txFrac : Nat
  elev : Int
  deriving DecidableEq, Repr


/-- One decision slot of a channel's arbiter (R626 to R628): for each of the 16 requesters its inputs that request at the start of the slot,
and at its end (bit `j` for input `j` of a port; bit 0 for a plain requester). -/
structure ArbSlot where
  ch : Nat
  req : List Nat
  left : List Nat
  deriving DecidableEq, Repr

/-- The commands (spec/opcode_table.json). -/
inductive Instr where
  /-- AON_POR (R54): VBAT falls below 2.2 V and asserts the AON power-on reset, which covers every domain. -/
  | aonPor (mv cyc : Nat)
  /-- MAIN_POR (R54): A main rail falls below its power-on level, first power-up included, and asserts the main power-on reach. -/
  | mainPor (rail mv cyc : Nat)
  /-- BROWNOUT (R54): A valid main rail falls below its brown-out level after filtering and asserts a cold reset. -/
  | brownout (rail mv cyc : Nat)
  /-- TEST_MODE_ASSERT (R45): TEST_MODE goes high, and the device holds every reset reach except AON asserted. -/
  | testModeAssert (cyc : Nat)
  /-- THERMAL_TRIP (R73): The die sensor reaches 115 °C; a cold reset asserts and THERMTRIP_N is driven low until the sensor reads below 100 °C. -/
  | thermalTrip (celsius : Int) (cyc : Nat)
  /-- RESET_PIN (R71): Filtered RESET_N low asserts the RESET_PIN cold source. -/
  | resetPin (cyc : Nat)
  /-- WARM_PIN (R71): Filtered WARM_N low asserts the WARM_PIN warm source for as long as the ball stays low. -/
  | warmPin (cyc : Nat)
  /-- RESET_SOURCE_DEASSERT (R121): A reset source deasserts; a trim load starts where its reach covers the trim shadows, and domains no longer covered become eligible for release. -/
  | resetSourceDeassert (src : Nat) (mv : List Nat) (celsius : Int) (cyc : Nat)
  /-- RESET_RELEASE (R117): Once the release conditions hold, the covered domains are released in the fixed step order and RST_CAUSE and RST_SEEN are written. -/
  | resetRelease
  /-- TRIM_LOAD_COMPLETE (R132): The OTP trim read and CRC check end; on a match the shadows transfer to the live trims, and on a mismatch FAILS advances and the load restarts. -/
  | trimLoadComplete (misread : List (Nat × Nat)) (cyc : Nat)
  /-- STRAP_SAMPLE (R129): The CFGSENSE conversions end; the code is latched, or the sample is repeated, or code 0 is forced with UNSTABLE set. -/
  | strapSample (conv : List Nat)
  /-- RST_CTRL_SYS (R127): A keyed RST_CTRL write with SYS set by an application core asserts SW_SYS. -/
  | rstCtrlSys (ini data : Nat)
  /-- RST_CTRL_WARM (R127): A keyed RST_CTRL write with WARM set by an application core asserts SW_WARM. -/
  | rstCtrlWarm (ini data : Nat)
  /-- RST_CTRL_COLD (R127): A keyed RST_CTRL write with COLD set by Rook asserts ROOK_COLD. -/
  | rstCtrlCold (ini data : Nat)
  /-- JTAG_RESET_REQUEST (R111): A JTAG system-reset request asserts the JTAG source only while DBG_LOCK is clear or opened. -/
  | jtagResetRequest (cyc : Nat)
  /-- APP_WDOG_EXPIRY (R110): The application watchdog expires and asserts a system reset. -/
  | appWdogExpiry
  /-- MP_WDOG_EXPIRY (R110): The MP watchdog expires and asserts an MP reset. -/
  | mpWdogExpiry
  /-- MP_SW_RESET (R110): The MP software self-reset asserts an MP reset. -/
  | mpSwReset
  /-- SYSPLL_LOCK (R76): SYSPLL achieves lock with a reference in range, which satisfies a release condition. -/
  | syspllLock
  /-- SYSPLL_UNLOCK (R82): SYSPLL loses lock outside holdover for 10 µs with the reference present, and Rook issues a software cold reset. -/
  | syspllUnlock (cyc : Nat)
  /-- NETPLL_UNLOCK (R82): NETPLL loses lock outside holdover; NETPLL_UNLOCK is set and PD_NET is held in reset. -/
  | netpllUnlock
  /-- NETPLL_LOCK_RETRY (R77): Every 100 ms the device retries NETPLL lock while it is unlocked. -/
  | netpllLockRetry (locks : Bool)
  /-- PLL_HOLDOVER_ENTRY (R78): A missing reference edge freezes the PLL control word, and the PLL enters holdover. -/
  | pllHoldoverEntry (pll : Nat)
  /-- PLL_HOLDOVER_EXIT (R78): A presence window with edges back in range ends a holdover taken without REF_LOST, and the PLL pulls in. -/
  | pllHoldoverExit (pll edges : Nat)
  /-- REF_LOST (R80): Two bad presence windows set REF_LOST; the heartbeat stops, strobes cease and EFL transmission ends with the superframe. -/
  | refLost (edges1 edges2 : Nat)
  /-- REF_RESTORED (R81): After 1 s of good reference, the PLLs leave holdover and REF_RESTORED is set. -/
  | refRestored
  /-- REF_FREQ_CHECK (R83): Once per CLK_AON second, REF_OFFSET is updated and REF_FREQ_ERR is set or cleared. -/
  | refFreqCheck (edges : Nat) (xtalOk : Bool)
  /-- PD_CTRL_WRITE (R88): A PD_CTRL write starts a switch-on or switch-off sequence, or is refused whole with REFUSED set. -/
  | pdCtrlWrite (ini data : Nat)
  /-- PD_SWITCH_COMPLETE (R92): The last step of a domain switching sequence lands, ON updates, BUSY clears and any waiting write is applied. -/
  | pdSwitchComplete
  /-- NIGHT_GO (R96): A keyed NIGHT_GO write by Rook asserts the main power-on reach. -/
  | nightGo (ini data : Nat) (hot : List Nat) (hotCrc : Nat)
  /-- MAIN_EN_DROP (R96): At the next CLK_AON edge after NIGHT_GO, MAIN_EN is driven low. -/
  | mainEnDrop
  /-- NIGHT_MIN_HOLD_EXPIRY (R97): MAIN_EN has been low for 50 ms with a latched wake, and MAIN_EN is raised. -/
  | nightMinHoldExpiry
  /-- WAKE_PIN (R98): WAKE_N low in night mode raises MAIN_EN and records the cause. -/
  | wakePin (aon : Nat)
  /-- WAKE_TIMER_EXPIRY (R98): WAKE_TIMER seconds elapse in night mode and the device wakes. -/
  | wakeTimerExpiry
  /-- RAIL_WAKE_TIMEOUT (R99): The main rails are not valid 200 ms after MAIN_EN rises; MAIN_EN drops and RAIL_FAIL is set. -/
  | railWakeTimeout
  /-- RAIL_WAKE_RETRY (R99): 1 s after a failed wake attempt, MAIN_EN is raised again, up to three attempts. -/
  | railWakeRetry
  /-- PLY_RESOLUTION (R140): At cycle 999 of each ply, the events of that ply are resolved in rank order. -/
  | plyResolution (sns fb rwdog aon : Nat) (ctsHigh : List Nat) (arb : List ArbSlot)
  /-- PLY_LO_READ (R138): A read of PLY_LO captures the upper ply bits for that initiator's next PLY_HI read. -/
  | plyLoRead (ini : Nat)
  /-- CAST_OPEN (R146): OPEN takes the lowest free or final slot, assigns an ID and makes the writer the owner. -/
  | castOpen (ini : Nat)
  /-- CAST_STAGE (R147): STAGE appends one address, data and mask entry to an open castling. -/
  | castStage (ini id : Nat)
  /-- CAST_COMMIT (R149): COMMIT arms a castling with its WHEN condition, or refuses it as PAST. -/
  | castCommit (ini id cond : Nat)
  /-- CAST_ABORT (R156): ABORT from the owner ends an open or armed castling with no write. -/
  | castAbort (ini id : Nat)
  /-- CASTLING_LAND (R151): At the resolution point of the commit ply, the entries are checked and either all land or the castling is refused. -/
  | castlingLand
  /-- SEM_TAKE (R164): A TAKE write acquires a free semaphore for the writer. -/
  | semTake (ini n : Nat)
  /-- SEM_RELEASE (R165): A RELEASE write frees a semaphore held by the writer, or sets BAD_RELEASE. -/
  | semRelease (ini n : Nat)
  /-- REGISTER_WRITE (R680): A write to a register without a row of its own is judged by hard-wired rights, windows and domain state, and then stored. -/
  | registerWrite (ini addr data live : Nat)
  /-- LOCK_BIT_SET (R683): A W1S write sets a LOCK bit after applying the governed fields in the same write. -/
  | lockBitSet (ini addr data : Nat)
  /-- ECP_FRAME_RECEIVE (R182): A received ECP frame is validated step by step and dispatched to its opcode, or answered or dropped. -/
  | ecpFrameReceive (spi : Bool) (port ip udp dst : Nat) (frag : Bool) (frame : List Nat) (live : Nat) (sram : Option (List Nat)) (readBack : Bool) (err : Option (Bool × Nat × Nat))
  /-- SPI_WRITE_FRAME (R176): An SPI WRITE_FRAME transaction places one ECP frame in the receive buffer, or is discarded. -/
  | spiWriteFrame (bytes : List Nat)
  /-- SPI_READ_STATUS (R176): An SPI READ_STATUS returns the next frame size and buffer flags, and clears RX_OVERRUN. -/
  | spiReadStatus
  /-- SPI_READ_FRAME (R176): An SPI READ_FRAME clocks out the next outgoing frame, which leaves the queue only when read in full. -/
  | spiReadFrame (clocked : Nat)
  /-- NOP (R189): NOP echoes its payload. -/
  | nop (sess tag : Nat) (pay : List Nat)
  /-- STATUS (R191): STATUS returns role, run state, conditions, ply, SFN and reset cause. -/
  | status (sess tag : Nat)
  /-- SESSION_OPEN (R179): SESSION_OPEN opens an unauthenticated or a key-derived authenticated session. -/
  | sessionOpen (sess tag : Nat) (pay : List Nat)
  /-- SESSION_CLOSE (R178): SESSION_CLOSE closes the session after the response, discarding held results and streams. -/
  | sessionClose (sess tag : Nat)
  /-- SESSION_IDLE_TIMEOUT (R178): A session that has received no valid frame for 60 s closes. -/
  | sessionIdleTimeout (sess : Nat)
  /-- ECP_RESET (R189): The RESET opcode schedules HOST_SYS 1 ms after its response. -/
  | ecpReset (sess tag : Nat)
  /-- HOST_SYS_ASSERT (R189): 1 ms after the RESET response, the HOST_SYS system reset asserts. -/
  | hostSysAssert
  /-- NIGHT (R95): The NIGHT opcode asks Rook to enter night mode; it is denied unless the stop state is in force. -/
  | night (sess tag : Nat)
  /-- RESULT_GET (R186): RESULT_GET returns the held result of a tag, or IN_PROGRESS, or UNKNOWN_TAG. -/
  | resultGet (sess tag : Nat)
  /-- TAG_RETIRE (R188): TAG_RETIRE discards the held results of up to 64 tags. -/
  | tagRetire (sess tag : Nat) (pay : List Nat)
  /-- REG_READ (R192): REG_READ reads up to 256 consecutive registers and stops at the first failure. -/
  | regRead (sess tag : Nat) (pay : List Nat) (live : Nat)
  /-- REG_WRITE (R192): REG_WRITE applies up to 64 masked entries in order, each in a later ply, and stops at the first failing entry. -/
  | regWrite (sess tag : Nat) (pay : List Nat) (live : Nat)
  /-- STREAM_OPEN (R193): STREAM_OPEN opens a stream of the given type and returns its ID. -/
  | streamOpen (sess tag : Nat) (pay : List Nat)
  /-- STREAM_CLOSE (R193): STREAM_CLOSE closes a stream. -/
  | streamClose (sess tag : Nat) (pay : List Nat)
  /-- REQUEST_FINAL_RESPONSE (R184): A request answered IN_PROGRESS completes, and its final response is sent unasked. -/
  | requestFinalResponse (sess tag status : Nat) (pay : List Nat)
  /-- STREAM_MESSAGE_LOST (R195): A stream message misses its deadline and is lost; STREAM_LOST advances. -/
  | streamMessageLost (sess stream : Nat)
  /-- FE_LINK_DOWN (R203): The front-end link goes DOWN when EN is cleared or FE_x_CLK stops for 100 ns; dependent entries and channels are affected. -/
  | feLinkDown (f : Nat) (clkLost : Bool)
  /-- FE_LINK_LOCKED (R205): The link enters LOCKED; the FIFO is set, FIFO_LAT is reported and RELOCKS advances. -/
  | feLinkLocked (f fifoLat : Nat)
  /-- FE_STATUS_FRAME (R204): A 64-sample status frame is received; its fields update, or CRC_ERR advances and the link may return to HUNT. -/
  | feStatusFrame (f : Nat) (edges : List Nat)
  /-- FE_CTL_FRAME_APPLY (R202): The front end applies a valid CTL frame within 10 µs and reports its SEQ. -/
  | feCtlFrameApply (f err : Nat)
  /-- ANT_WINDOW_END (R209): At the end of each 100 ms window, the antenna current mean and state are updated. -/
  | antWindowEnd (f : Nat) (conv : List Nat)
  /-- ANT_BIAS_RETRY (R210): After RETRY_S seconds, the bias is reapplied for three windows. -/
  | antBiasRetry (f : Nat)
  /-- CAL_SECOND (R214): Each second, calibration loop delays are published or aged, and IFB and RX_DELAY are derived. -/
  | calSecond (f : Nat) (l1 l5 : CalMeas)
  /-- ACQ_ENTRY_SUBMIT (R225): A write of STATE 1 makes an entry PENDING and reserves its channel, or ends it in ERROR. -/
  | acqEntrySubmit (ini n : Nat)
  /-- ACQ_ENTRY_CANCEL (R224): A write of STATE 6 cancels an entry and releases its reservation. -/
  | acqEntryCancel (ini n : Nat)
  /-- ACQ_ENTRY_CLEAR (R224): A write of STATE 0 empties a final entry. -/
  | acqEntryClear (ini n : Nat)
  /-- ACQ_ENTRY_SELECT (R226): The free engine selects the next PENDING entry, reacquisitions first. -/
  | acqEntrySelect
  /-- ACQ_DWELL_END (R221): A dwell ends; a hit, a verification pass or failure, exhaustion or FOUND follows. -/
  | acqDwellEnd (stats : List Nat)
  /-- ACQ_LINK_WAIT_EXPIRY (R228): The link of a waiting entry is not LOCKED again within 1 s, and the entry ends NOT_FOUND with cause LINK. -/
  | acqLinkWaitExpiry
  /-- ACQ_ENGINE_DISABLE (R228): Clearing ACQ_CTRL.EN discards the dwell in progress and returns the entry to PENDING. -/
  | acqEngineDisable (ini data : Nat)
  /-- LOOP_UPDATE (R245): At an integration end, the loop processor updates its discriminators, filters, NCO rates and lock indicators. -/
  | loopUpdate (ch : Nat) (late : Bool) (acc : Accums) (secMism : Nat)
  /-- CH_START (R252): CH_CTRL START moves an IDLE channel into PULL_IN from the preset code and Doppler. -/
  | chStart (ini ch : Nat)
  /-- CH_STOP (R252): CH_CTRL STOP takes a running channel to IDLE with cause STOPPED. -/
  | chStop (ini ch : Nat)
  /-- PULL_IN_PLL_ON (R249): PULL_MS after entry to PULL_IN, PLL_ON is set. -/
  | pullInPllOn (ch : Nat)
  /-- PULL_IN_TIMEOUT (R248): PULL_MAX_MS passes without TRACK, and the channel goes IDLE with cause PULL_FAIL. -/
  | pullInTimeout (ch : Nat)
  /-- CN0_LOSS_TIMEOUT (R248): C/N0 stays below CN0_MIN for LOSS_MS, and the channel goes IDLE with cause CN0. -/
  | cn0LossTimeout (ch : Nat)
  /-- EPOCH_STROBE (R258): At each epoch multiple, the strobe latches all channels, and the strobe-sampled settings are taken into use. -/
  | epochStrobe (rxOff : Int) (latch : List ChLatch) (eph : List Nat)
  /-- OBS_FORM_DEADLINE (R260): 0.9 ms after the strobe, the header is written and unformed entries are written invalid with LATE advanced. -/
  | obsFormDeadline (unformed : List Nat)
  /-- OBS_RECORD_PUBLISH (R260): The record buffer is published by 1.0 ms; the fix engine is notified and the cores are interrupted. -/
  | obsRecordPublish (sol : Option TimeSol)
  /-- NAV_UNIT_DECODE (R270): A decoded navigation unit is written to the ring with its check result, and NAV_SYNC is updated. -/
  | navUnitDecode (ch kind check txMs : Nat) (inverted tow : Bool) (polarity : Option Bool) (utc : Option (Int × Option (Nat × Bool))) (payload : List Nat)
  /-- OBS_GET (R277): OBS_GET returns the header and entries of a held observation record. -/
  | obsGet (sess tag : Nat) (pay : List Nat)
  /-- NAV_GET (R278): NAV_GET returns navigation records from a cursor. -/
  | navGet (sess tag : Nat) (pay : List Nat)
  /-- SIGNALS_SET (R279): SIGNALS_SET sets the tracked signals per front end and the elevation mask. -/
  | signalsSet (sess tag : Nat) (pay : List Nat)
  /-- RTCM_SET (R279): RTCM_SET sets the station ID, the periods and the systems of RTCM output. -/
  | rtcmSet (sess tag : Nat) (pay : List Nat)
  /-- REF_SELECTION (R285): At each whole local second, the time source is selected and the offset removal or holdover is applied. -/
  | refSelection (e0 uF freq : Nat)
  /-- DOMAIN_OFFSET_SAMPLE (R288): A PTP domain offset sample is taken, its asymmetry filtered, or it is discarded as an outlier. -/
  | domainOffsetSample (d : Nat) (off pred : Int) (gmChanged : Bool) (e0 uF freq : Nat)
  /-- DOMAIN_FAULT_RECOVERY (R289): After 60 s of consistent samples, a faulted domain returns to TRACKING. -/
  | domainFaultRecovery (d : Nat)
  /-- DOMAIN_TRACKING (R311): A slave domain's servo has held lock for 30 s, and the domain becomes TRACKING. -/
  | domainTracking (d : Nat)
  /-- PTP_FOREIGN_MASTER (R310): A better foreign master sends the grandmaster port to PASSIVE and sets FOREIGN_BETTER. -/
  | ptpForeignMaster (port : Nat)
  /-- STEP_ANNOUNCE (R292): At the boundary after arming, an armed step is announced. -/
  | stepAnnounce
  /-- STEP_LAND (R292): The clock steps by delta at the announced boundary, TIME_GEN advances and a grid shift may be scheduled. -/
  | stepLand
  /-- STEP_CTRL_ARM (R293): A keyed STEP_CTRL ARM arms a step of STEP_S and STEP_NS; a backward step needs BACK. -/
  | stepCtrlArm (ini data : Nat)
  /-- STEP_CTRL_ACCEPT (R293): A keyed STEP_CTRL ACCEPT arms the pending backward correction. -/
  | stepCtrlAccept (ini data : Nat)
  /-- TIME_GET (R313): TIME_GET returns the clock, the flags, the error and the grid phase. -/
  | timeGet (sess tag : Nat)
  /-- TIME_STEP (R314): TIME_STEP arms a commanded step and answers when it lands. -/
  | timeStep (sess tag : Nat) (pay : List Nat)
  /-- PTP_SET (R315): PTP_SET configures the grandmaster and slave domains from the next whole second. -/
  | ptpSet (sess tag : Nat) (pay : List Nat)
  /-- LEAP_FLAG_SET (R282): 12 h before a leap-second day end, LEAP61 or LEAP59 is set. -/
  | leapFlagSet
  /-- LEAP_FLAG_CLEAR (R282): At the end of the leap day, the leap flag clears. -/
  | leapFlagClear
  /-- PPS_OUT_EDGE (R302): PPS_OUT_n rises at each whole second or epoch strobe plus its offset. -/
  | ppsOutEdge (n : Nat)
  /-- PPS_IN_EDGE (R303): A PPS_IN rising edge is timestamped and NEW is set. -/
  | ppsInEdge (dt : Nat)
  /-- ETH_FRAME_RECEIVE (R304): An Ethernet frame is received and timestamped at its start-frame delimiter. -/
  | ethFrameReceive (p dt : Nat) (bytes : List Nat)
  /-- ETH_FRAME_TRANSMIT (R306): A transmitted frame is timestamped into the queue, or the entry is dropped with OVF set. -/
  | ethFrameTransmit (p dt : Nat) (id : Option Nat) (reqAt : Option (Nat × Nat × Nat)) (bytes : List Nat)
  /-- TXTS_READ (R306): A read of ETH_TXTS_W0 removes and captures the oldest transmit timestamp. -/
  | txtsRead (ini p : Nat)
  /-- APPLY_REF (R319): APPLY_REF schedules the REF and BASE_ANT shadows for the next strobe. -/
  | applyRef (ini data : Nat)
  /-- APPLY_ORG (R320): APPLY_ORG schedules ORG for the next strobe, or is refused while a profile channel runs. -/
  | applyOrg (ini data : Nat)
  /-- FIX_SOLVE_START (R362): The free engine takes the first-ranked queued COR and begins its solve. -/
  | fixSolveStart
  /-- FIX_SOLVE_COMPLETE (R364): A solve completes with its filter update, ambiguity resolution, status, record and digest entry. -/
  | fixSolveComplete (dt : Nat)
  /-- BASE_MISSING_DECISION (R356): At T + 10 ms, an epoch with no base record is declared missing and its CORs are propagated. -/
  | baseMissingDecision
  /-- IFB_AGE_EXPIRY (R337): 600 s after the last joint publication, CAL_IFB stops being used and the ionosphere variances are reset. -/
  | ifbAgeExpiry
  /-- UPLINK_SLOT_END (R357): An uplink slot ends without an accepted COR, and a NO_COR record is written. -/
  | uplinkSlotEnd (addr : Nat)
  /-- SOL_GET (R370): SOL_GET returns a member's latest solution record. -/
  | solGet (sess tag : Nat) (pay : List Nat)
  /-- PRIO_SET (R370): PRIO_SET writes member solve priorities. -/
  | prioSet (sess tag : Nat) (pay : List Nat)
  /-- FILTER_RESET (R370): FILTER_RESET resets the named filters at the next strobe. -/
  | filterReset (sess tag : Nat) (pay : List Nat)
  /-- SUPERFRAME_BOUNDARY (R20): At each 100 ms boundary, the SFN advances and boundary-held writes, hop applies, handovers and shifts take effect. -/
  | superframeBoundary
  /-- CUT_OFF_C1 (R29): At C1, D1 is built, tasks are bound, track requests are taken and windows built, and host and metrology copies are produced. -/
  | cutOffC1
  /-- CUT_OFF_C2 (R365): At C2, unfinished solves are shed, D2 is built, the host and metrology copies are produced and a checkpoint may be captured. -/
  | cutOffC2
  /-- LANE_ENABLE (R372): Setting LANE_CFG.EN drives LANE_n_EN high and moves the lane to HUNT. -/
  | laneEnable (ini n data : Nat)
  /-- LANE_DISABLE (R372): Clearing EN takes the lane to OFF with the new profile, rate and power. -/
  | laneDisable (ini n data : Nat)
  /-- LANE_LINK_LOCKED (R374): 64 good words lock the lane link; RELOCKS advances and the lane enters CHECK. -/
  | laneLinkLocked (n : Nat)
  /-- LANE_LINK_LOST (R374): Bad words or a stopped clock drop the link, and the lane returns to HUNT. -/
  | laneLinkLost (n : Nat) (clkLost : Bool)
  /-- LANE_STATUS_FRAME (R376): A transceiver status frame updates RSSI, lock, alarm, capability words and CTL_ACK. -/
  | laneStatusFrame (n : Nat) (words : List Nat)
  /-- LANE_CAPS_CHECK (R379): Two equal capability cycles move the lane to READY or to FAULT with a cause. -/
  | laneCapsCheck (n : Nat)
  /-- TRX_CONTROL_APPLY (R377): The transceiver applies a pending control frame at the next APPLY word. -/
  | trxControlApply (n err : Nat)
  /-- LANE_FRAME_DECISION (R391): 20 µs before TXEN, the lane decides its frame against the budget accounts and sends or refuses it. -/
  | laneFrameDecision (n slot iv : Nat)
  /-- BUDGET_BUCKET_ROLL (R389): At each bucket boundary, the account history advances by one bucket. -/
  | budgetBucketRoll (m : Nat)
  /-- ACCOUNT_ENABLE (R394): A write setting account EN starts enforcement, with a starting history after a radio reset. -/
  | accountEnable (ini m data : Nat)
  /-- ACCOUNT_DISABLE (R394): A W0 write that clears EN ends enforcement and keeps the history. -/
  | accountDisable (ini m data : Nat)
  /-- AIR_FRAME_RECEIVE (R384): An air frame's sync and CRC are checked; it goes to the MAC or is counted as a CRC failure. -/
  | airFrameReceive (n syncErr : Nat) (psdu : List Nat) (rssi cfo iqG iqP : Int)
  /-- HOP_COMPUTE (R388): The next slot's channels are computed by the AES generator, or HOP_FAIL silences the lanes. -/
  | hopCompute (sub : Bool)
  /-- HOP_APPLY (R387): An APPLY write schedules the hop shadows for TARGET_SFN, or is refused. -/
  | hopApply (ini data : Nat)
  /-- UPLINK_RECEIVE (R411): A data-part frame from a member is checked, its items are processed and its COR is queued for solving. -/
  | uplinkReceive
  /-- ASSOC_REQ_RECEIVE (R433): The active unit answers a valid association request with an offer, a repeat or a refusal. -/
  | assocReqReceive
  /-- OFFER_LAPSE (R435): An offered address without an UPLINK within the limit returns to FREE. -/
  | offerLapse (a : Nat)
  /-- MEMBER_SILENCE_TIMEOUT (R436): RELEASE_S seconds without a valid frame release the member's address. -/
  | memberSilenceTimeout (a : Nat)
  /-- SLOT_OWNER_WRITE (R449): A slot-table OWNER write applies at once, is held for the boundary, or is refused. -/
  | slotOwnerWrite (ini b n q data : Nat)
  /-- FLOCK_WRITE (R437): A change to flock membership queues a FLOCK command to the member. -/
  | flockWrite (ini f w data : Nat)
  /-- NET_FORM (R451): NET_FORM releases all addresses and sets a new K0. -/
  | netForm (sess tag : Nat)
  /-- MEMBER_GET (R451): MEMBER_GET returns a member's table entry and capabilities. -/
  | memberGet (sess tag : Nat) (pay : List Nat)
  /-- MEMBER_RELEASE (R436): MEMBER_RELEASE releases an address. -/
  | memberRelease (sess tag : Nat) (pay : List Nat)
  /-- FLOCK_SET (R451): FLOCK_SET replaces, adds or removes flock members. -/
  | flockSet (sess tag : Nat) (pay : List Nat)
  /-- SLOT_SET (R451): SLOT_SET writes a slot-table owner under the slot rules. -/
  | slotSet (sess tag : Nat) (pay : List Nat)
  /-- MEMBER_ASSOC_ATTEMPT (R439): After its backoff, an unjoined member sends an association request. -/
  | memberAssocAttempt (m k lane draw : Nat) (eui caps joinKey : List Nat) (gnss : Bool)
  /-- MEMBER_ASSOC_RESPONSE (R438): A member receives an association response and enters JOINING or backs off. -/
  | memberAssocResponse (m k slot t : Nat) (mpdu : List Nat)
  /-- MEMBER_JOIN_TIMEOUT (R438): A joining member hears no Bellwether in time and returns to UNJOINED. -/
  | memberJoinTimeout (m t : Nat)
  /-- MEMBER_BELLWETHER_RECEIVE (R551): A member takes a valid Bellwether: claim, STOP_CLEAR, bank, guard timing and announcements. -/
  | memberBellwetherReceive (m k slot t : Nat) (mpdu : List Nat)
  /-- MEMBER_GUARD_CAP (R440): The receive guard reaches 2000 µs, and the member enters RELISTEN. -/
  | memberGuardCap (m t : Nat)
  /-- MEMBER_BEACON_TIMEOUT (R443): Without a STOP_CLEAR Bellwether by the bound, the member enters STOPPED. -/
  | memberBeaconTimeout (m t : Nat)
  /-- MEMBER_DIGEST_RECEIVE (R551): A member takes a digest from its higher source: ACK, solutions, windows and commands. -/
  | memberDigestReceive (m k slot t : Nat) (mpdu : List Nat)
  /-- MEMBER_ORDER_END (R467): A member's running order ends; it starts or discards the held order and reports. -/
  | memberOrderEnd (m k event result data : Nat)
  /-- MEMBER_WINDOW_EXHAUSTED (R29): A member reaches the last setpoint of its window with no fresh window and stops under its own limits. -/
  | memberWindowExhausted (m t : Nat)
  /-- MEMBER_STOP_FRAME_RECEIVE (R534): A member acts on a STOP, HOLD or RESUME stop-window frame. -/
  | memberStopFrameReceive (m k slot iv t : Nat) (mpdu : List Nat)
  /-- MEMBER_SSEQ_RESYNC (R427): After 3 s without stop-window frames, the member takes the Bellwether SSEQ as acted. -/
  | memberSseqResync (m t : Nat)
  /-- MEMBER_HOP_TARGET_MISSED (R444): A member reaches HOP_TARGET without both update parts and returns to UNJOINED. -/
  | memberHopTargetMissed (m k : Nat)
  /-- MEMBER_UPLINK_SEND (R424): A member sends its UPLINK with its COR, resending unacknowledged reports. -/
  | memberUplinkSend (m k slot t : Nat) (gnss : Bool) (cor : List Nat)
  /-- MEMBER_CLAIM_LAPSE (R550): A source's claim lapses after 30 beacon periods without its frames. -/
  | memberClaimLapse (m src t : Nat)
  /-- MEMBER_DOCK_CONFIRM (R503): A member confirms a dock contact change and reports it. -/
  | memberDockConfirm (m : Nat) (closed : Bool) (ms : Nat)
  /-- DISP_SUBMIT (R457): A GO write submits the banked descriptor, or stalls when the list is full. -/
  | dispSubmit (ini : Nat)
  /-- DISP_SUBMIT_STALL_EXPIRY (R457): A stalled submit finds no free descriptor within 64 cycles and ends FULL. -/
  | dispSubmitStallExpiry (ini : Nat)
  /-- TASK_SUBMIT (R458): TASK_SUBMIT submits a descriptor from the host, within HOST_MAX. -/
  | taskSubmit (sess tag : Nat) (pay : List Nat)
  /-- DISP_CANCEL (R460): A DISP_CANCEL write cancels a task as its state allows. -/
  | dispCancel (ini id : Nat)
  /-- TASK_CANCEL (R460): TASK_CANCEL cancels a task from the host. -/
  | taskCancel (sess tag : Nat) (pay : List Nat)
  /-- TASK_GET (R474): TASK_GET returns the state of a descriptor. -/
  | taskGet (sess tag : Nat) (pay : List Nat)
  /-- TASK_READY (R459): A pending task becomes READY at its READY_AT ply. -/
  | taskReady
  /-- DISP_TAKE (R462): A DISP_TAKE_c read gives a core the first eligible task, suspending its current one. -/
  | dispTake (ini c : Nat)
  /-- DISP_DONE (R462): A DISP_DONE_c write ends the core's running task with its outcome. -/
  | dispDone (ini c data : Nat)
  /-- TASK_LAPSE (R466): At boundary ACKED_BY + LAPSE_GRACE with no start reported, the task becomes LAPSED and may be requeued. -/
  | taskLapse (ix : Nat)
  /-- TRACK_LOAD (R478): TRACK_LOAD stores vertices into track memory. -/
  | trackLoad (sess tag : Nat) (pay : List Nat)
  /-- TRACK_SEAL (R477): TRACK_SEAL computes arcs and CRC, and seals the track. -/
  | trackSeal (sess tag : Nat) (pay : List Nat)
  /-- TRACK_FREE (R478): TRACK_FREE returns a track's run to the pool. -/
  | trackFree (sess tag : Nat) (pay : List Nat)
  /-- MOVE (R487): MOVE asks a channel to plan a profile to a target arc. -/
  | move (sess tag : Nat) (pay : List Nat)
  /-- HALT (R486): HALT asks a channel to decelerate to rest. -/
  | halt (sess tag : Nat) (pay : List Nat)
  /-- CHAN_RELEASE (R484): CHAN_RELEASE returns a held or faulted channel to IDLE. -/
  | chanRelease (sess tag : Nat) (pay : List Nat)
  /-- GEAR_ENGAGE (R498): GEAR_ENGAGE engages a gearing pair. -/
  | gearEngage (sess tag : Nat) (pay : List Nat)
  /-- GEAR_DISENGAGE (R498): GEAR_DISENGAGE sends the follower to STOPPING and the pair to OFF. -/
  | gearDisengage (sess tag : Nat) (pay : List Nat)
  /-- PROFILE_REST_REACHED (R489): A profile comes to rest; the channel becomes HELD and the MOVE ends. -/
  | profileRestReached (a : Nat)
  /-- DOCK_INPUT_CONFIRM (R502): A 3-ply window confirms a DOCK_k change and sets CHANGED. -/
  | dockInputConfirm (k : Nat) (l1 l2 l3 : Bool)
  /-- ESTOP_LOOP_OPEN (R519): A channel reads open in two counted samples, and the loop is confirmed open as a stop source. -/
  | estopLoopOpen (j : Nat)
  /-- LOOP_TEST_PULSE (R520): A channel's scheduled test pulse runs, and LOOP_TEST is latched on failure. -/
  | loopTestPulse (j : Nat) (sns : Bool)
  /-- LOOP_DISCREPANCY (R521): Channels of a loop disagree for DISC × 10 ms, and DISCREPANCY is latched. -/
  | loopDiscrepancy (n : Nat)
  /-- RELAY_FB_MISMATCH (R524): Relay feedback differs from the drive for FB_MS, and RELAY_FB is latched. -/
  | relayFbMismatch (n : Nat)
  /-- ROOK_SRAM_UE (R512): An uncorrectable Rook SRAM error latches SRAM_UE. -/
  | rookSramUe (mem : SramMem) (bits : Nat)
  /-- ROOK_CLOCK_FAULT (R514): Two plies with CLK_RWDOG counts out of range latch the CLOCK fault. -/
  | rookClockFault (count : Nat)
  /-- LOCKSTEP_MISMATCH (R512): The lockstep comparator finds a difference and asserts a Rook reset. -/
  | lockstepMismatch
  /-- WDOG_SVC_WRITE (R513): A WDOG_SVC write advances or completes the service sequence, or expires the watchdog. -/
  | wdogSvcWrite (ini data : Nat)
  /-- ROOK_WDOG_EXPIRY (R513): The Rook watchdog count reaches TIMEOUT and asserts a Rook reset. -/
  | rookWdogExpiry (cycles : Nat)
  /-- STOP_PORT_STOP (R516): A STOP_PORT STOP puts the stop state in force, or sets member stops. -/
  | stopPortStop (ini data : Nat)
  /-- STOP_PORT_HOLD (R532): A STOP_PORT HOLD queues a HOLD with the next SSEQ on the active unit. -/
  | stopPortHold (ini data : Nat)
  /-- STOP_PORT_RESUME (R533): A STOP_PORT RESUME queues a RESUME and clears member stops, refused while stopped. -/
  | stopPortResume (ini data : Nat)
  /-- STOP_PORT_RELEASE (R535): A STOP_PORT RELEASE requests a release, evaluated in the next ply. -/
  | stopPortRelease (ini data : Nat)
  /-- STOP_PORT_FAULT_CLEAR (R539): A STOP_PORT FAULT_CLEAR requests a fault clear evaluation. -/
  | stopPortFaultClear (ini data : Nat)
  /-- RELEASE_EVALUATION (R535): The release is evaluated against the blockers; the latch clears or BLOCKERS is reported. -/
  | releaseEvaluation
  /-- FAULT_CLEAR_EVALUATION (R539): Each latched fault whose cause is absent is cleared. -/
  | faultClearEvaluation
  /-- RELAY_RAISE (R536): In the ply after a release, the enabled relays are raised. -/
  | relayRaise
  /-- ROOK_FAULT_WRITE (R686): A Rook write of 1 to ROOK_FAULT acts as a FAULT_CLEAR confined to those faults. -/
  | rookFaultWrite (ini data : Nat)
  /-- STOP (R516): The STOP opcode requests a site or member stop. -/
  | stop (sess tag : Nat) (pay : List Nat)
  /-- STOP_RELEASE (R535): STOP_RELEASE requests a release and returns the blockers. -/
  | stopRelease (sess tag : Nat) (pay : List Nat)
  /-- HOLD (R532): The HOLD opcode issues a HOLD command. -/
  | hold (sess tag : Nat) (pay : List Nat)
  /-- RESUME (R533): The RESUME opcode issues a RESUME command. -/
  | resume (sess tag : Nat) (pay : List Nat)
  /-- STOP_STATUS (R542): STOP_STATUS returns the stop, fault, loop and relay state. -/
  | stopStatus (sess tag : Nat)
  /-- FAULT_CLEAR (R539): The FAULT_CLEAR opcode clears faults whose cause is absent. -/
  | faultClear (sess tag : Nat)
  /-- PAIR_ENABLE (R543): Setting PAIR_CTRL.EN turns ETH_5 into the pair link and closes its ECP and PTP use. -/
  | pairEnable (ini data : Nat)
  /-- HEARTBEAT_SEND (R546): Every 10 ms of the grid, the unit sends a HEARTBEAT. -/
  | heartbeatSend
  /-- HEARTBEAT_RECEIVE (R546): An accepted HEARTBEAT updates the partner state, SSEQ, PAIR_CTR, K0 and the key check. -/
  | heartbeatReceive (m : List Nat)
  /-- HEARTBEAT_LOST (R546): No heartbeat for 300 ms clears HB_OK and advances HB_LOST. -/
  | heartbeatLost
  /-- SAFETY_RECEIVE (R554): An accepted SAFETY message confirms PAIR stops, releases, HOLD and RESUME, and is acknowledged. -/
  | safetyReceive (m : List Nat)
  /-- SAFETY_ACK_RECEIVE (R554): A SAFETY_ACK ends the repetition of the matching SAFETY message. -/
  | safetyAckReceive (m : List Nat)
  /-- SAFETY_REPEAT (R554): Every 1 ms, an unacknowledged SAFETY message is repeated, up to 300 times. -/
  | safetyRepeat (j : Nat)
  /-- CKPT_DATA_RECEIVE (R559): The standby writes a checkpoint chunk into its spare buffer. -/
  | ckptDataReceive (m : List Nat)
  /-- CKPT_END_RECEIVE (R559): CKPT_END completes or discards the checkpoint; on success, the standby applies the MAC state. -/
  | ckptEndReceive (m : List Nat)
  /-- STANDBY_READY_TIMEOUT (R560): 3 s without a complete checkpoint clears READY_STANDBY. -/
  | standbyReadyTimeout
  /-- STARTUP_LISTEN_EXPIRY (R556): The startup listen ends without an active partner; a primary becomes active. -/
  | startupListenExpiry
  /-- SECONDARY_WAIT_EXPIRY (R556): A secondary's further 2 s listen ends and it becomes active. -/
  | secondaryWaitExpiry
  /-- TAKEOVER_DETECT (R561): Missing Bellwethers and a lost heartbeat together start a takeover. -/
  | takeoverDetect
  /-- CHECKPOINT_LOAD_COMPLETE (R562): The checkpoint load ends, and the fix, dispatch and track state are restored. -/
  | checkpointLoadComplete (ok : Bool)
  /-- PAIR_HANDOVER (R565): PAIR_HANDOVER schedules a commanded handover at superframe H, or is denied. -/
  | pairHandover (sess tag : Nat) (pay : List Nat)
  /-- HANDOVER_RECEIVE (R565): The standby takes a HANDOVER message, sets HANDOVER_PEND and answers. -/
  | handoverReceive (m : List Nat)
  /-- HANDOVER_ACK_RECEIVE (R565): The active unit takes HANDOVER_ACK and sets HANDOVER_PEND. -/
  | handoverAckReceive (m : List Nat)
  /-- DRILL_DAY_COUNT (R569): Each operating day without the active state advances DAYS_SINCE_ACTIVE and may set DRILL_DUE. -/
  | drillDayCount
  /-- PAIR_GET (R548): PAIR_GET returns the claims, status and checkpoint state. -/
  | pairGet (sess tag : Nat)
  /-- KEY_INFO (R575): KEY_INFO returns a slot's descriptor words and orphan status. -/
  | keyInfo (sess tag : Nat) (pay : List Nat)
  /-- KEY_GENERATE (R579): KEY_GENERATE fills an empty slot from the DRBG. -/
  | keyGenerate (sess tag : Nat) (pay : List Nat)
  /-- KEY_DERIVE (R578): KEY_DERIVE fills a slot by SP 800-108 derivation from a parent. -/
  | keyDerive (sess tag : Nat) (pay : List Nat)
  /-- KEY_WRAP_IMPORT (R581): KEY_WRAP_IMPORT unwraps a key into an empty slot. -/
  | keyWrapImport (sess tag : Nat) (pay : List Nat)
  /-- KEY_IMPORT_CLEAR (R580): An import in the clear by a core or the monitor fills a slot while IMPORT_EN is set. -/
  | keyImportClear (ini k typ use : Nat) (key : List Nat)
  /-- KEY_INVALIDATE (R582): KEY_INVALIDATE empties a slot, advances its GEN and orphans its descendants. -/
  | keyInvalidate (sess tag : Nat) (pay : List Nat)
  /-- KEY_ATTEST (R585): KEY_ATTEST returns a signed statement about a slot. -/
  | keyAttest (sess tag : Nat) (pay : List Nat)
  /-- KEY_CERT (R573): KEY_CERT returns part of the attestation certificate. -/
  | keyCert (sess tag : Nat) (pay : List Nat)
  /-- KEY_PUBLIC (R575): KEY_PUBLIC returns the public key of an ECDSA slot. -/
  | keyPublic (sess tag : Nat) (pay : List Nat)
  /-- TRNG_HEALTH_FAIL (R572): An entropy health test fails and TRNG_FAIL is set. -/
  | trngHealthFail (ok : Bool)
  /-- TAMPER_CONFIRM (R587): A confirmed tamper cause sets TAMPERED and empties every slot. -/
  | tamperConfirm (c : Nat) (vals : List Int) (busy : Nat)
  /-- TAMPER_CLEAR (R591): A keyed TAMPER_CTRL CLEAR clears TAMPERED when no enabled cause is live. -/
  | tamperClear (ini data live : Nat)
  /-- TAMPER_GET (R587): TAMPER_GET returns the tamper status and first-event time. -/
  | tamperGet (sess tag : Nat)
  /-- RECORD_SUBMIT (R596): A block submits an event record to the queue with its time stamps, or it is dropped. -/
  | recordSubmit (code source : Nat) (payload : List Nat)
  /-- RECORD_WRITE (R597): The recorder writes the next queued record to a ring with its SEQ and reads it back. -/
  | recordWrite (bad : Bool) (bits : Nat)
  /-- REC_RETEST (R602): A RETEST write starts a pattern test of the main ring. -/
  | recRetest (ini data : Nat)
  /-- REC_RETEST_COMPLETE (R602): The retest ends; on a pass MAIN_FAULT clears and writing returns to the main ring. -/
  | recRetestComplete (pass : Bool)
  /-- REC_RESTORE_WRITE (R593): The boot ROM restores the operating hours and power-cycle count through REC_RESTORE. -/
  | recRestoreWrite (ini data : Nat)
  /-- ANCHOR_WRITE (R593): The firmware writes the counter anchor at each hour multiple and at each PCC change. -/
  | anchorWrite
  /-- HOURS_FUSE_STEP (R593): The operating hours reach a multiple of STEP_H, and the next ladder fuse is blown. -/
  | hoursFuseStep (cycle : Bool)
  /-- REC_CURSOR_STEP (R604): A STEP write advances the reader's cursor index. -/
  | recCursorStep (ini : Nat)
  /-- REC_READ (R605): REC_READ returns records in SEQ order from a start SEQ. -/
  | recRead (sess tag : Nat) (pay : List Nat) (err : Option (Bool × Nat × Nat))
  /-- REC_STATUS (R605): REC_STATUS returns the recorder status and counts. -/
  | recStatus (sess tag : Nat)
  /-- MP_COPY_RECEIVE (R607): A cut-off message and its address events enter the MP buffer, or are dropped. -/
  | mpCopyReceive
  /-- MP_PROCESS_CUTOFF (R612): MP measures the eligible records of a buffered cut-off into the account totals. -/
  | mpProcessCutoff
  /-- MP_ADDRESS_EVENT (R610): MP maps or unmaps an address to its EUI's account. -/
  | mpAddressEvent
  /-- SEAL_CONFIRM (R608): A confirmed SEAL_N change updates the seal state and writes an event record. -/
  | sealConfirm (l1 l2 l3 : Bool)
  /-- MET_IDENT (R616): MET_IDENT recomputes the MP image CRC and returns its identity. -/
  | metIdent (sess tag : Nat) (sram : Option (List Nat))
  /-- MET_READ (R617): MET_READ returns an account's totals and billed figures. -/
  | metRead (sess tag : Nat) (pay : List Nat)
  /-- MET_PARAM_SET (R614): MET_PARAM_SET writes an audit record and changes a parameter with the seal open. -/
  | metParamSet (sess tag : Nat) (pay : List Nat) (readBack : Bool)
  /-- MET_AUDIT_READ (R615): MET_AUDIT_READ returns audit trail records. -/
  | metAuditRead (sess tag : Nat) (pay : List Nat)
  /-- DRAM_TRAINING_COMPLETE (R619): A DRAM channel finishes training as ready or failed. -/
  | dramTrainingComplete (c : Nat) (ok : Bool)
  /-- SCRUB_READ (R624): The scrubber reads and writes back the next burst. -/
  | scrubRead (c err word : Nat)
  /-- SCRUB_SWEEP_END (R624): A scrub sweep ends, SWEEPS advances and the sweep restarts. -/
  | scrubSweepEnd (c : Nat)
  /-- SCRUB_LATE (R624): The scrub period ends before the sweep, and SCRUB_LATE is set. -/
  | scrubLate (c : Nat)
  /-- ARB_STARVE (R630): A requester's wait reaches STARVE_LIMIT, and its STARVE bit and an interrupt are set. -/
  | arbStarve (c slot : Nat)
  /-- CRC_TAKE_WRITE (R633): A TAKE write acquires a free configurable CRC channel. -/
  | crcTakeWrite (ini k : Nat)
  /-- CRC_RELEASE_WRITE (R633): A RELEASE write frees the owner's CRC channel. -/
  | crcReleaseWrite (ini k : Nat)
  /-- CRC_CLEAR (R635): CLEAR loads INIT and zeroes BYTES. -/
  | crcClear (ini k : Nat)
  /-- CRC_FEED_WRITE (R635): A CRC_FEED or CRC_FEED_B write feeds bytes to the channel. -/
  | crcFeedWrite (ini k : Nat) (byte : Bool) (data : Nat)
  /-- CRC_STATE_RESTORE (R638): A STATE write restores a saved CRC context. -/
  | crcStateRestore (ini k : Nat) (high : Bool) (data : Nat)
  /-- CRC_SCAN_GO (R636): GO starts a memory scan into the channel. -/
  | crcScanGo (ini k : Nat)
  /-- CRC_SCAN_END (R636): A scan ends DONE or ERROR, and the owner is interrupted. -/
  | crcScanEnd (k cause addr : Nat) (bytes : List Nat)
  /-- CRC_SNOOP_FRAME (R637): A snooped frame's bytes are fed, with a per-frame result latched when PER_FRAME is set. -/
  | crcSnoopFrame (k : Nat) (bytes : List Nat)
  /-- CRC_TAKE (R633): CRC_TAKE takes a channel for the host. -/
  | crcTake (sess tag : Nat) (pay : List Nat)
  /-- CRC_CONFIG (R634): CRC_CONFIG sets a channel's parameters and clears it. -/
  | crcConfig (sess tag : Nat) (pay : List Nat)
  /-- CRC_FEED (R635): The CRC_FEED opcode feeds bytes to a host channel. -/
  | crcFeed (sess tag : Nat) (pay : List Nat)
  /-- CRC_SCAN (R636): CRC_SCAN runs a scan and returns the result. -/
  | crcScan (sess tag : Nat) (pay : List Nat)
  /-- CRC_GET (R634): CRC_GET returns a channel's result, state and counts. -/
  | crcGet (sess tag : Nat) (pay : List Nat)
  /-- CRC_RELEASE (R633): CRC_RELEASE frees a host channel. -/
  | crcRelease (sess tag : Nat) (pay : List Nat)
  /-- UART_RX_BYTE (R641): A received UART byte enters the RX FIFO with its error flags, or is discarded. -/
  | uartRxByte (k byte flags : Nat)
  /-- UART_DATA_WRITE (R641): A UART_DATA write queues a byte for transmission, or is dropped. -/
  | uartDataWrite (ini k byte : Nat)
  /-- UART_DATA_READ (R641): A UART_DATA read removes the oldest received byte. -/
  | uartDataRead (ini k : Nat)
  /-- UART_MONITOR_TAKE (R640): The monitor or recovery takes UART_0; its TX FIFO is emptied and the fixed settings apply. -/
  | uartMonitorTake (mon : Bool)
  /-- UART_MONITOR_RELEASE (R640): The monitor releases UART_0 and the stored settings apply. -/
  | uartMonitorRelease
  /-- I2C_GO (R643): GO runs an I2C write-then-read transaction. -/
  | i2cGo (ini k data : Nat)
  /-- I2C_TRANSACTION_END (R644): An I2C transaction ends with its RESULT and COUNT, and DONE is set. -/
  | i2cTransactionEnd (k result count : Nat) (rx : List Nat)
  /-- CAN_FRAME_RECEIVE (R647): A CAN frame passing a filter is stored in the RX FIFO, or dropped. -/
  | canFrameReceive (k ide fdf brs id dlc : Nat) (data : List Nat)
  /-- CAN_RX_POP (R647): POP removes the oldest received CAN frame. -/
  | canRxPop (ini k : Nat)
  /-- CAN_TX_GO (R648): GO copies the staging words into a transmit buffer and makes it pending. -/
  | canTxGo (ini k b : Nat)
  /-- CAN_TX_ABORT (R648): ABORT clears a pending buffer not on the bus. -/
  | canTxAbort (ini k b : Nat) (onBus : Bool)
  /-- CAN_TX_COMPLETE (R648): A sent frame clears PENDING and sets TXDONE. -/
  | canTxComplete (k b gos : Nat)
  /-- CAN_BUS_OFF (R649): The controller enters bus-off; BUS_OFF advances and an event record is written. -/
  | canBusOff (k rec tec : Nat)
  /-- CAN_BUS_OFF_RECOVERY (R649): After 128 × 11 recessive bits with AUTO_RECOVER set, the controller rejoins the bus. -/
  | canBusOffRecovery (k seen : Nat)
  /-- ADC_THRESHOLD_ENTRY (R653): N samples beyond a threshold enter LOW or HIGH, set the flag and interrupt. -/
  | adcThresholdEntry (n : Nat) (high : Bool) (codes : List Nat)
  /-- ADC_THRESHOLD_EXIT (R653): N samples back inside the hysteresis leave LOW or HIGH. -/
  | adcThresholdExit (n : Nat) (high : Bool) (codes : List Nat)
  /-- MDIO_GO (R654): GO runs one MDIO transaction. -/
  | mdioGo (ini data : Nat)
  /-- MDIO_COMPLETE (R654): An MDIO transaction ends and DONE is set. -/
  | mdioComplete (rdata : Nat)
  /-- CABLE_DIAG_GO (R655): A CABLE_CTRL GO starts a cable diagnosis, or is refused. -/
  | cableDiagGo (ini data : Nat) (profile : Bool)
  /-- CABLE_LINK_DOWN_EXPIRY (R655): A link down for 10 s starts an automatic cable diagnosis. -/
  | cableLinkDownExpiry (p : Nat) (profile : Bool)
  /-- CABLE_DIAG_COMPLETE (R656): A diagnosis run reports each pair's status and length. -/
  | cableDiagComplete (st len : List Nat)
  /-- BOOT_ROM_START (R664): Core 0 runs the boot ROM: slot selection, acceptance and the loading of Rook, MP and the main firmware. -/
  | bootRomStart
  /-- MAIN_FIRMWARE_START (R671): The main firmware selects its settings copy and loads its components. -/
  | mainFirmwareStart (alm moved : Nat) (sky : List SkySig)
  /-- COMPONENT_LOAD (R667): A component is verified and loaded at start, at a domain switch-on or after a partition reset. -/
  | componentLoad (typ : Nat)
  /-- UPD_BEGIN (R669): UPD_BEGIN opens an update transfer to the slot not booted. -/
  | updBegin (sess tag : Nat) (pay : List Nat)
  /-- UPD_DATA (R669): UPD_DATA writes image bytes in ascending order. -/
  | updData (sess tag : Nat) (pay : List Nat)
  /-- UPD_END (R669): UPD_END verifies the image and marks the slot NEW. -/
  | updEnd (sess tag : Nat) (pay : List Nat)
  /-- UPD_ACTIVATE (R669): UPD_ACTIVATE triggers ROOK_COLD to trial the NEW slot. -/
  | updActivate (sess tag : Nat)
  /-- UPD_CONFIRM (R669): UPD_CONFIRM marks the booted slot GOOD and raises MIN_SVN. -/
  | updConfirm (sess tag : Nat)
  /-- UPD_STATUS (R668): UPD_STATUS returns the descriptor in force and BOOT_STATUS. -/
  | updStatus (sess tag : Nat)
  /-- RECOVERY_HELLO (R674): HELLO returns serial, ROM version, strap and entry cause. -/
  | recoveryHello (pkt : List Nat)
  /-- RECOVERY_WRITE (R674): WRITE stores data into the target slot. -/
  | recoveryWrite (pkt : List Nat)
  /-- RECOVERY_VERIFY (R674): VERIFY checks the target slot for acceptance. -/
  | recoveryVerify (pkt : List Nat)
  /-- RECOVERY_COMMIT (R674): COMMIT marks a verified slot NEW with three tries. -/
  | recoveryCommit (pkt : List Nat)
  /-- RECOVERY_RESET (R674): RESET asserts the recovery reset with the reach of MONITOR. -/
  | recoveryReset (pkt : List Nat)
  /-- MON_INFO (R677): The monitor INFO command reports versions, slots, cause and state. -/
  | monInfo
  /-- MON_OPEN (R677): OPEN issues a challenge nonce. -/
  | monOpen
  /-- MON_RESP (R677): RESP verifies a signed response and opens the monitor, or counts a failure. -/
  | monResp (pub sig : List Nat) (minutes : Nat)
  /-- MON_RECOVER (R677): RECOVER writes REQ = 1 and requests a reset into recovery mode. -/
  | monRecover
  /-- MON_CLOSE (R677): CLOSE ends OPEN and releases UART_0. -/
  | monClose
  /-- MON_RD (R677): RD reads a register with the rights of 0x3E. -/
  | monRd (addr live : Nat)
  /-- MON_WR (R677): WR writes a register with the rights of 0x3E. -/
  | monWr (addr data : Nat)
  /-- MON_LOG (R677): LOG outputs event records from a SEQ. -/
  | monLog (seq count : Nat)
  /-- MON_KEYIMPORT (R677): KEYIMPORT performs an import in the clear. -/
  | monKeyimport (k typ use : Nat) (key : List Nat)
  /-- MON_TAMPERCLR (R677): TAMPERCLR has the main firmware write the tamper clear. -/
  | monTamperclr (live : Nat)
  /-- MON_RESET (R677): RESET asserts the MONITOR reset source. -/
  | monReset
  /-- MON_OPEN_EXPIRY (R677): The OPEN duration ends and the monitor locks. -/
  | monOpenExpiry
  /-- MON_IDLE_RELEASE (R675): After 60 s without a line while locked, the monitor releases UART_0. -/
  | monIdleRelease
  /-- MON_BREAK_TAKE (R675): RX held low for 100 ms makes the locked monitor take UART_0. -/
  | monBreakTake (ms : Nat)
  /-- PLL_PULL_RANGE_EDGE (R75): A present reference drifts to the edge of a locked PLL's pull range; the PLL freezes its control word there, enters holdover, and REF_LOST is set at once. -/
  | pllPullRangeEdge (pll : Nat)
  /-- ETH_LINK_CHANGE (R543): An Ethernet port's link comes up at a negotiated speed or goes down, updating LINK, SPEED and the timestamp corrections, setting PAIR_SLOW on a slow pair link, and starting the link-down time for cable diagnosis. -/
  | ethLinkChange (p : Nat) (up : Bool) (speed : Nat)
  /-- UNRECOVERABLE_FAULT (R160): An application core, or the MP core, halts on an unrecoverable fault and is treated as reset: its castlings abort, its semaphores and CRC channels are freed, and its running task is restarted. -/
  | unrecoverableFault (core : Nat)
  /-- CAN_ERROR_PASSIVE (R649): Bus errors drive a CAN controller's error counters across the ISO 11898-1 threshold into error passive, or back to error active, and an event record is written on entry to error passive. -/
  | canErrorPassive (k rec tec : Nat)
  /-- REGISTER_READ (R170): An on-chip initiator reads a register; the read is judged by hard-wired rights, windows and domain state, and its side effects apply: RC fields clear, LO reads capture the high word, and a denied read advances FW_VIOLATIONS and writes an event record. -/
  | registerRead (ini addr live : Nat)
  deriving DecidableEq, Repr

end Sys2Proof
end

