-- ==== Sys2Proof/Decode.lean ====
section
/-!
DEFINITION. The command that a word spells. spec/opcode_table.json gives no row any bits (every row's "fields" is
empty), so no word spells a command: commands enter the queue as they are (log 9).
-/

namespace Sys2Proof

/-- The command that the `nbits`-bit word `w` spells by the bits of spec/opcode_table.json: none, since no row has
bits. -/
def decodeTableWord (_nbits _w : Nat) : Option Instr := none

end Sys2Proof
end

