-- ==== Sys2Proof/Machine/Crc.lean ====
section
/-!
DEFINITION. The check values of R634, R200 and R381, computed bit by bit as R634 lays down.
-/

namespace Sys2Proof.Machine

/-- One bit of R634: shift in the message bit `b` (bit 0 of the number) and reduce by the polynomial. -/
def crcBit (w poly reg b : Nat) : Nat :=
  let fb := (reg / 2 ^ (w - 1) + b) % 2
  let r := reg * 2 % 2 ^ w
  if fb = 1 then r ^^^ (poly % 2 ^ w) else r

/-- The bits of one byte, from bit `n - 1` down. -/
def crcByteGo (w poly byte : Nat) : Nat → Nat → Nat
  | 0, reg => reg
  | n + 1, reg => crcByteGo w poly byte n (crcBit w poly reg (byte / 2 ^ n % 2))

/-- One byte of R634, reversed first with REFIN. -/
def crcByte (w poly : Nat) (refin : Bool) (reg byte : Nat) : Nat :=
  crcByteGo w poly (if refin then revBits 8 (byte % 256) else byte % 256) 8 reg

/-- The register after a list of bytes. -/
def crcFeed (w poly : Nat) (refin : Bool) (reg : Nat) (bs : List Nat) : Nat := bs.foldl (crcByte w poly refin) reg

/-- The last two steps of R634: reflection and XOROUT. -/
def crcFinish (w : Nat) (refout : Bool) (xorout reg : Nat) : Nat :=
  (if refout then revBits w reg else reg) ^^^ (xorout % 2 ^ w)

/-- The check value of R634 over a list of bytes. -/
def crcOf (w poly init : Nat) (refin refout : Bool) (xorout : Nat) (bs : List Nat) : Nat :=
  crcFinish w refout xorout (crcFeed w poly refin (init % 2 ^ w) bs)

/-- CRC-32C (R634). -/
def crc32c (bs : List Nat) : Nat := crcOf 32 0x1EDC6F41 0xFFFFFFFF true true 0xFFFFFFFF bs

/-- CRC-24Q (R634). -/
def crc24q (bs : List Nat) : Nat := crcOf 24 0x864CFB 0 false false 0 bs

/-- CRC-16/IBM-3740 (R381, R634). -/
def crc16 (bs : List Nat) : Nat := crcOf 16 0x1021 0xFFFF false false 0 bs

/-- CRC-8 of R200 (R634). -/
def crc8 (bs : List Nat) : Nat := crcOf 8 0x07 0 false false 0 bs

end Sys2Proof.Machine
end

