-- ==== Sys2Proof/Config.lean ====
section
/-!
DEFINITION. What an implementation fixes and what the spec leaves open. Every constant here has no body: a claim about
the model holds whatever its value. `freeValue` is applied to the counter `State.freeCtr`, which each use advances
(log 4); the others are functions of their operands that the spec names without giving their numbers.
-/

namespace Sys2Proof.Config

/-- A position output of the fix engine (R360): ECEF in 0.1 mm, site frame in mm, velocity in mm/s, standard deviations in
mm. -/
structure FixPos where
  x : Int := 0
  y : Int := 0
  z : Int := 0
  e : Int := 0
  n : Int := 0
  u : Int := 0
  ve : Int := 0
  vn : Int := 0
  vu : Int := 0
  sdH : Nat := 0
  sdV : Nat := 0
  deriving DecidableEq, Repr, Inhabited

/-- A single difference that enters a solve (R331): satellite, signal code, base elevation, code and phase in m. -/
structure FixObs where
  sv : Nat
  code : Nat
  elev : Int
  sdCode : Rat
  sdPhase : Option Rat
  deriving DecidableEq, Repr, Inhabited

/-- The square root of a rational, which the spec states over the reals (log 13). -/
opaque sqrtReal (q : Rat) : Rat

/-- The sine of the geodetic latitude on GRS 80 of a point `r` from the axis and `z` along it (R316, log 16). -/
opaque geodSinLat (r z : Rat) : Rat

/-- Position of a satellite in ECEF at GPS time `t`, in s since week 0, by the ephemeris in use for the epoch `e` (R330): the orbit models are of
the signals' interface control documents (log 16). -/
opaque satPos (sv : Nat) (e t : Rat) : Rat × Rat × Rat

/-- What the engine takes for the inverse of a singular matrix: the spec states none (log 16). -/
opaque singularInverse (m : List (List Rat)) : List (List Rat)

/-- The decorrelating matrix of a covariance (R347): more than one is reduced, and the spec does not say which (log 16). -/
opaque decorrelation (q : List (List Rat)) : List (List Int)

/-- The nodes that a search visits (R348): they depend on the order in which integers are tried, which the spec leaves open (log 16). -/
opaque searchNodes (a : List Rat) (q : List (List Rat)) : Nat

/-- What a profile depends on (R485 to R488, R501): the state it starts from in µm, µm/s and µm/s², the arc it is to
come to rest at (none: a deceleration to rest), the limits in µm units, the arc from which the homing speed holds with
that speed, and whether reverse is allowed. -/
structure PlanIn where
  s : Int
  v : Int
  a : Int
  target : Option Int
  vMax : Nat
  aMax : Nat
  jMax : Nat
  home : Option (Int × Nat)
  rev : Bool
  deriving DecidableEq, Repr, Inhabited

/-- A value the spec leaves open, one per use (log 4). -/
opaque freeValue : Nat → Nat

/-- Byte `i` of the root secret (R571), which no access reads. -/
opaque rootByte : Nat → Nat

/-- Byte `i` of the device's serial number in OTP, and of the attestation certificate with its length (R573, R585). -/
opaque serialByte : Nat → Nat
opaque certByte : Nat → Nat
opaque certLen : Nat

/-- The OTP words of the boot: vendor key hash and its revoke fuse for each index, the two debug key hashes, and the
version of the boot ROM (R662, R674, R677). -/
opaque vendorHash : Nat → List Nat
opaque vendorRevoked : Nat → Bool
opaque debugHash : Nat → List Nat
opaque romVersion : Nat

/-- The option DBG_LOCK of a trim image, whose place among words 0 to 254 the spec does not give (R132). -/
opaque trimDbgLock (words : List Nat) : Bool

/-- The settings blob (R670 to R672), whose catalogue is published apart from the spec (log 28): the WRITER that a copy's header names, whose
place R670 gives to the CRC too; the newest FORMAT that a firmware VERSION supports, a body migrated by it, and the role that a body
states. -/
opaque settingsWriter (copy : List Nat) : List Nat
opaque settingsFormat (version : List Nat) : Nat
opaque settingsMigrate (version body : List Nat) : List Nat
opaque settingsRole (body : List Nat) : Option Nat

/-- The numeric event codes of the published catalogue, for the groups other than 0x0A (R594; log 7). -/
opaque eventCode : Nat → Nat

/-- Whether the quotient `n / d`, where it is no integer, goes to the upper of its two neighbours: the spec states
exact formulas and no rounding (log 12). -/
opaque roundUp (n : Int) (d : Nat) : Bool

/-- One cell of an MSM7 message: satellite, signal ID, and what the record holds of it; no phase is the invalid value (R272, R273). -/
structure RtcmCell where
  sat : Nat
  sigId : Nat
  range : Nat
  phase : Option Int
  dopp : Nat
  cn0 : Nat
  lockMs : Nat
  half : Bool
  deriving DecidableEq, Repr, Inhabited

/-- What a message is encoded from (R272 to R274): its number, the station, the epoch time of its system, the header's indicators and
cells of an MSM, the ARP of a 1005, the settings body for a 1033. -/
structure RtcmIn where
  msg : Nat
  station : Nat
  epoch : Nat
  multi : Bool := false
  iods : Nat := 0
  steering : Nat := 1
  clock : Nat := 1
  smooth : Nat := 0
  smoothInt : Nat := 0
  cells : List RtcmCell := []
  arp : List Int := []
  desc : List Nat := []
  deriving DecidableEq, Repr, Inhabited

/-- The arctangent forms of R241 in cycles (`atan2 y x / 2π` and `atan (y / x) / 2π`); the spec states real-valued
functions and no arithmetic for them (log 13). -/
opaque atan2Cycles (y x : Int) : Rat
opaque atanCycles (y x : Int) : Rat

/-- `e_c` of R241 without its factor G: `(|E| − |L|) / (|E| + |L|)` of two squared envelopes (log 13). -/
opaque envelopeError (e2 l2 : Nat) : Rat

/-- The body of an RTCM message, between the transport header and the CRC: the bit layout, the quarter-cycle alignment and the
descriptors' form are of RTCM 10403.3, which is not part of the spec (log 27). -/
opaque rtcmEncode (m : RtcmIn) : List Nat

/-- What the settings blob holds for SIGNALS_SET and RTCM_SET: MASK_A, MASK_B, ELEV_MASK, STATION_ID, MSM_PERIOD, ARP_PERIOD, SYSTEMS
(R279, log 28). -/
opaque settingsGnss (body : List Nat) : List Nat

/-- The shipped profiles that the settings blob holds, as (profile, EIRP in mW, PMAX in dBm; the last two for profile 0), and the EIRP of a
member's transmitter in mW (R395, R396, log 28). -/
opaque settingsProfiles (body : List Nat) : List (Nat × Nat × Nat)
opaque memberEirp : Nat

/-- The uncertainty of the oscillator model that a hot-start block holds, in ppb (R229; the block's layout is not in the spec). -/
opaque hotOsc (block : List Nat) : Rat

/-- The delay of a CALTONE output, trimmed at final test, in ps (R211). -/
opaque calDelay (f : Nat) : Nat

/-- `160 · log10 q` (R242, log 13). -/
opaque log10x160 (q : Rat) : Rat

/-- `1 − exp(−x)` (R287: the gain of a filter of time constant 1000 s after x thousand seconds; log 13). -/
opaque expGain (x : Rat) : Rat

end Sys2Proof.Config

namespace Sys2Proof

/-- `n / d` as an integer: exact where it divides, else one of the two neighbours (log 12). -/
def quant (n : Int) (d : Nat) : Int :=
  n / (d : Int) + (if n % (d : Int) = 0 then 0 else if Config.roundUp n d then 1 else 0)

/-- A rational as an integer, by the same rule. -/
def quantQ (q : Rat) : Int := quant q.num q.den

end Sys2Proof
end

