-- ==== Sys2Proof/Machine/State.lean ====
section
/-!
DEFINITION. The state of the block: plain data only. Registers are held field by field in `State.regs` (every field of
every register table of the spec, `Machine/RegMap.lean`); beside them stand the queues, buffers, timers and internal
positions that the spec's rules name, one structure per unit. State.reset is the unit right after an AON power-on reset
has been released: every register at its reset value, no record, no session, no member, nothing pending.
-/

namespace Sys2Proof.Machine

/-- Access types of register fields (R11). -/
inductive Acc where
  | ro | rw | wo | w1c | w1s | rc | rwl | rwt
  deriving DecidableEq, Repr

/-- Where a register field's value is kept: the register's number in the map, its two instance numbers (for a banked
register the first is the initiator), and the field's lowest bit. -/
structure RKey where
  reg : Nat
  i : Nat
  j : Nat
  lo : Nat
  deriving DecidableEq, Repr

/-- One named field of a register: its key, width, reset value, access type (R11) and the range of its listed
encodings (R15). -/
structure Fld where
  key : RKey
  w : Nat
  rst : Nat
  acc : Acc
  vmin : Nat
  vmax : Nat
  deriving DecidableEq, Repr

/-- The owning initiators a register's description names (R169). -/
inductive Own where
  | apps | appsRook | rook | appsBoot | mp | boot | nobody | stopPort | r145
  deriving DecidableEq, Repr

/-- For which initiators a register is banked (R163, R457, R541, R604). -/
inductive BankKind where
  | single | cast | disp | every | stop
  deriving DecidableEq, Repr

/-- One row of the address map: a register, or an array of them with one or two instance numbers. The power domain is
that of R678 with the exceptions the chapters name. -/
structure RegRow where
  name : String
  id : Nat
  addr : Nat
  ni : Nat
  si : Nat
  i0 : Nat
  nj : Nat
  sj : Nat
  j0 : Nat
  own : Own
  bank : BankKind
  dom : Nat
  flds : Nat → Nat → List Fld

/-- What a reset reach puts into reset (the rows of R104, with R87's domains apart). -/
inductive Part where
  | aon | rook | mp | sys | cpuA | cpuB | fix | gnss | radio | net | rstctl | ply | dram
  deriving DecidableEq, Repr

/-- The seven reaches (R104). -/
inductive Reach where
  | aon | main | cold | sys | warm | rook | mp
  deriving DecidableEq, Repr

/-- The kinds of event record the blocks write (R594). The numeric codes of the group 0x0A are in the spec; those of
the other groups are in the published catalogue (log 7). -/
inductive Ev where
  | submitted (code : Nat)
  | logMedia | countersRestored | seqWrap | retestPass | retestFail
  | clkEvent | hotstartInvalid | roleMismatch
  | castRefused | castOwnerReset | fwViolation
  | feRelock | antChange | calStep | chLost | refSwitch | domFaulted | backPending | stepAnnounced
  | stepLanded | foreignBetter | baseSuspect | laneRelock | laneLost | laneOversize | hopFail | reserveLow
  | linkStall | dupRun | deviation | gearLost | dockChange | dockOutcome | stopRelease | rookFault | hbLost
  | keyMismatch | takeover | partnerSuspect | handoverAbort | claimEnd | drillDue | trngFail | keyImported
  | keyInvalidated | tamper | sfnNearEnd | sealChange | imageMismatch | siteAdc | canBusOff | canPassive
  | cableDiag | dramFail | eccUe | scrubLate | loadFail | settingsNone | sramUe | unmapped | internalError
  deriving DecidableEq, Repr

/-- An event record (R594), with its time stamps taken at entry (R596). -/
structure Rec where
  seq : Nat := 0
  ohSec : Nat := 0
  ohMs : Nat := 0
  pcc : Nat := 0
  civilValid : Bool := false
  back : Bool := false
  mediaFault : Bool := false
  reserve : Bool := false
  lostBefore : Bool := false
  ev : Ev := .logMedia
  ply : Nat := 0
  civilSec : Nat := 0
  timeGen : Nat := 0
  civilNs : Nat := 0
  source : Nat := 0
  wrap : Nat := 0
  payload : List Nat := []
  deriving DecidableEq, Repr

/-- A frame that a lane sends: interval, centre frequency in kHz, kbit/s, power in dBm, baseband shift in Hz, transmit imbalance correction
in register units, and the bytes from the preamble on, each least significant bit first (R380 to R382, R393, R398, R400). -/
structure AirTx where
  lane : Nat
  slot : Nat
  iv : Nat
  kHz : Nat
  rate : Nat
  power : Nat
  shift : Rat
  gain : Int
  phase : Int
  bytes : List Nat
  deriving DecidableEq, Repr

/-- What the device does to the world outside it, in order (the model's own trace, log 5). -/
inductive Output where
  | irqApps (k : Nat) | irqRook (k : Nat) | irqOwner (owner k : Nat)
  /-- An ECP frame sent over UDP: Ethernet port, address, UDP port, and the bytes of the frame with its trailer (R172). -/
  | ecp (port ip udp : Nat) (frame : List Nat)
  /-- The code an initiator that may not own castlings gets for an OPEN (R145). -/
  | castCode (ini code : Nat)
  /-- Bytes clocked out on the SPI host port by READ_STATUS or READ_FRAME. -/
  | spi (bytes : List Nat)
  /-- A pulse on PPS_OUT_n, its width in µs (R302). -/
  | pps (n width : Nat)
  /-- A received Ethernet frame handed to the firmware with its timestamp (R304). -/
  | ethRx (port sec ns frac gen : Nat) (bytes : List Nat)
  /-- A transmitted Ethernet frame. -/
  | ethTx (port : Nat) (bytes : List Nat)
  /-- A pair message on ETH_5, as the payload of its Ethernet frame (R544). -/
  | pair (payload : List Nat)
  /-- A frame on air. -/
  | air (x : AirTx)
  /-- A character that starts on a UART's TX ball (R639, R641). -/
  | uart (port byte : Nat)
  /-- A CAN frame sent (R648). -/
  | can (port : Nat) (ide fdf brs id dlc : Nat) (data : List Nat)
  /-- A transaction on an I2C bus: address, the bytes written, how many are read (R643). -/
  | i2c (k addr : Nat) (written : List Nat) (read : Nat)
  /-- A transaction on MDIO: clause 45, OP, PHY, register or device, data (R654). -/
  | mdio (c45 : Bool) (op phy reg data : Nat)
  /-- A recovery packet the boot ROM answers with (R674). -/
  | recovery (packet : List Nat)
  /-- What a monitor command answers, as values; the wording of a line is not in the spec. -/
  | mon (cmd : Nat) (vals : List Nat)
  /-- The value a register read returns to its initiator. -/
  | regValue (ini addr value : Nat)
  /-- An MPDU that member `m` sends: boundary of its superframe, lane, slot. -/
  | memberAir (m k lane slot : Nat) (mpdu : List Nat)
  /-- A CTL frame on a front-end link's control line, as the front end receives it (R201). -/
  | feCtl (f frame : Nat)
  /-- The interrupt to a loop processor that a strobe gives (R260). -/
  | irqLoop (p : Nat)
  /-- The words a lane sends on TXD with a control frame in their CTL bits, and the word with APPLY after them (R373, R375). -/
  | laneTx (n : Nat) (words : List Nat)
  deriving DecidableEq, Repr

/-- The reset controller (spec/04), which no reach short of cold resets. -/
structure RstState where
  /-- Sources asserted now, by index (R110). -/
  asserted : List Nat := []
  /-- Parts held in reset (R104, R120). -/
  held : List Part := []
  /-- An episode is in progress (R124). -/
  episode : Bool := false
  /-- Sources of the episode with the ply, or the window, of their first assertion, both counted from the episode's first
  assertion (R114, R125). -/
  seen : List (Nat × Nat) := []
  /-- The ply from which the episode's stamps count, and the stamp of that ply: the first assertion's, or, once the ply counter has
  restarted within the episode, ply 0 and the stamp after those given so far (R114). -/
  t0 : Nat := 0
  base : Nat := 0
  /-- Cycles of CLK_RWDOG from the episode's first assertion to the start of the trim load in progress (R132). -/
  loadAt : Nat := 0
  /-- The trim shadow registers, as the last complete read of OTP left them, and the image that the live trims hold; none while
  they hold their hard-wired safe values (R115, R132, R133). -/
  shadow : List Nat := []
  live : Option (List Nat) := none
  /-- The power-cycle count has advanced in this episode (R105). -/
  pccDone : Bool := false
  /-- CFGSENSE has been sampled in this episode (R129). -/
  strapDone : Bool := true
  /-- Strap samples taken so far without agreement (R129). -/
  strapTries : Nat := 0
  /-- Cores that are halted, by number (R119, R160). -/
  halted : List Nat := []
  deriving DecidableEq, Repr

/-- Clock and reference tracking (spec/03). -/
structure ClkState where
  /-- SYSPLL has locked since it was last restarted (R76). -/
  sysLocked : Bool := true
  /-- PLLs (0 SYSPLL, 1 NETPLL) that have left holdover and pull in to lock; their HOLD bits still read 1 (R78, R81, R82). -/
  pulling : List Nat := []
  /-- REF_LOST has been set and R81 has not ended it. -/
  refLost : Bool := false
  /-- Successive frequency windows beyond 1000 (R83). -/
  freqBad : Nat := 0
  /-- Successive frequency windows within 1000 (R83). -/
  freqGood : Nat := 0
  /-- EFL transmission ends at the end of this superframe (R80). -/
  txEndPending : Bool := false
  /-- EFL transmission has ended at a loss of reference (R80, R81). -/
  txEnded : Bool := false
  deriving DecidableEq, Repr

/-- Rails, pins and night mode (spec/02, spec/03); the part of the power state that no reset of the logic clears. -/
structure PwrState where
  /-- Rails above their release level: 0 VDD_CORE, 1 VDD_ROOK, 2 VDD_MP, 3 VDD_SERDES, 4 and 5 VDDQ of DDR_0 and DDR_1,
  6 VDD_IO18, 7 VDDA18, 8 VDD_IO33, 9 VBAT (R54). -/
  railValid : List Nat := [0, 1, 2, 3, 4, 5, 6, 7, 8, 9]
  /-- Main rails whose brown-out holds the BROWNOUT source (R54). -/
  brown : List Nat := []
  /-- MAIN_EN is driven high (R56, R96). -/
  mainEn : Bool := true
  /-- THERMTRIP_N is driven low (R73). -/
  thermTrip : Bool := false
  /-- NIGHT_GO has landed and the wake has not completed (R96, R97). -/
  night : Bool := false
  /-- MAIN_EN is to drop at the next CLK_AON edge (R96). -/
  dropPending : Bool := false
  /-- A wake source has been latched (R97). -/
  wakeLatched : Bool := false
  /-- A retry of the rails is due (R99). -/
  retryPending : Bool := false
  /-- MAIN_EN has been low for 50 ms since entry (R97). -/
  minHoldDone : Bool := false
  /-- CLK_AON cycles counted since the AON power-on, and that count when MAIN_EN last changed (R97 to R99, R101). -/
  aon : Nat := 0
  enAt : Nat := 0
  /-- CLK_AON cycles within the current second of the operating-hours counter (R592). -/
  aonCycles : Nat := 0
  /-- The operating hours, in s, at which the unit last was active or its last day since was counted (R569). -/
  dayFrom : Nat := 0
  /-- Hot-start block in the AON SRAM: valid flag, bytes, and the CRC-32C stored with it (R101). -/
  hotValid : Bool := false
  hotBytes : List Nat := []
  hotCrc : Nat := 0
  /-- The CLK_AON count at which the block was written (R102). -/
  hotAt : Nat := 0
  deriving DecidableEq, Repr

/-- Domain switching (R92), held in PD_SYS. -/
structure SwState where
  /-- Domains being switched, with their new state. -/
  switching : List (Nat × Bool) := []
  /-- Ply 0 of the sequence. -/
  start : Nat := 0
  /-- PD_CTRL writes that wait for BUSY to clear, in order: data and mask. -/
  waiting : List (Nat × Nat) := []
  deriving DecidableEq, Repr

/-- One staged entry of a castling (R147). -/
structure CastEntry where
  addr : Nat
  data : Nat
  mask : Nat
  deriving DecidableEq, Repr

/-- The castling unit beside its registers (spec/05). -/
structure CastState where
  /-- The 12-bit sequence of the last OPEN that took a slot; 0 before the first (R146). -/
  seq : Nat := 0
  /-- Staged entries by slot, in staged order (R147). -/
  entries : List (Nat × CastEntry) := []
  /-- Commit plies of ARMED castlings with WHEN 0 or 3, by slot (R150). -/
  commitAt : List (Nat × Nat) := []
  /-- The ply in which each ARMED castling's COMMIT landed, by slot (R150). -/
  armedIn : List (Nat × Nat) := []
  /-- ARMED slots in the order in which their COMMIT commands were taken (R154). -/
  order : List Nat := []
  /-- The upper half captured by each initiator's last PLY_LO read (R138). -/
  plyHi : List (Nat × Nat) := []
  /-- A superframe boundary lies in the current ply (R150, WHEN 1). -/
  boundaryNow : Bool := false
  /-- An epoch strobe lies in the current ply (R150, WHEN 2). -/
  strobeNow : Bool := false
  /-- Semaphores freed by an owner's reset in the current ply: a TAKE succeeds from the next ply (R166). -/
  freed : List Nat := []
  deriving DecidableEq, Repr

/-- A held result of a session (R185). -/
structure EcpHeld where
  tag : Nat
  op : Nat
  crc : Nat
  status : Nat
  payload : List Nat
  /-- It has been sent once in final form (R186). -/
  sent : Bool := true
  deriving DecidableEq, Repr

/-- A request answered IN_PROGRESS (R184, R190). -/
structure EcpOpen where
  tag : Nat
  op : Nat
  crc : Nat
  deriving DecidableEq, Repr

/-- A message of a stream awaiting transmission (R195): its STREAM_SEQ and body, and the last ply of its deadline; with none set, the
stream's next message ends it. -/
structure StreamMsg where
  seq : Nat
  body : List Nat
  dead : Option Nat := none
  deriving DecidableEq, Repr

/-- An open stream (R193, R194). -/
structure EcpStream where
  id : Nat
  typ : Nat
  param : Nat
  /-- STREAM_SEQ of the last message produced. -/
  seq : Nat := 0
  /-- Messages lost since the last one sent; stops at 0xFFFF. -/
  lost : Nat := 0
  queue : List StreamMsg := []
  deriving DecidableEq, Repr

/-- A session (R178): index 0 to 7 for UDP, 8 for SPI. -/
structure EcpSession where
  id : Nat
  /-- Ethernet port, source IPv4 address and UDP port; 0 for SPI. -/
  port : Nat := 0
  ip : Nat := 0
  udp : Nat := 0
  auth : Bool := false
  /-- Parent key slot of an authenticated session and its GEN at the derivation (R180). -/
  keySlot : Nat := 0
  keyGen : Nat := 0
  /-- The session key (R179). -/
  key : List Nat := []
  /-- The ply of the last valid frame (R178). -/
  lastAt : Nat := 0
  /-- Last accepted host SEQUENCE (R180, R181). -/
  hostSeq : Nat := 0
  /-- SEQUENCE of the last frame sent (R181). -/
  devSeq : Nat := 0
  held : List EcpHeld := []
  inProg : List EcpOpen := []
  streams : List EcpStream := []
  deriving DecidableEq, Repr

/-- An outgoing frame: its header fields and payload; the trailer is the CRC-32C, or with AUTH the HMAC (R172). -/
structure EcpFrame where
  op : Nat
  tag : Nat
  status : Nat
  flags : Nat
  seq : Nat
  payload : List Nat
  /-- The key of an HMAC trailer. -/
  key : List Nat := []
  deriving DecidableEq, Repr

/-- A REG_READ or REG_WRITE in progress (R192): it waits for one of its initiator before it, or its next entry for a later ply. -/
structure RegJob where
  /-- Its session and tag; a session that has closed gets no answer. -/
  sess : Option Nat
  tag : Nat
  ini : Nat
  write : Bool
  pay : List Nat
  /-- What register accesses take from outside (log 8). -/
  live : Nat
  /-- Entries applied, and the CAST_RESULT captured so far. -/
  k : Nat := 0
  cast : Nat := 0
  /-- The ply of its last entry, or of its arrival. -/
  at_ : Nat
  deriving DecidableEq, Repr

/-- The ECP engine beside its registers (spec/06). -/
structure EcpState where
  sessions : List EcpSession := []
  /-- SPI receive buffer, at most 4 frames (R177). -/
  spiRx : List (List Nat) := []
  /-- RX_OVERRUN (R176). -/
  spiOverrun : Bool := false
  /-- SPI outgoing queue, at most 16 frames, 8 of them for responses only (R177). -/
  spiOut : List EcpFrame := []
  /-- The ply in which a RESET response has been sent; HOST_SYS asserts 1 ms later (R189). -/
  resetPending : Option Nat := none
  /-- Register requests in progress, in order of arrival (R192). -/
  jobs : List RegJob := []
  /-- The session is to close after the response now being sent (R178). -/
  closing : Option Nat := none
  deriving DecidableEq, Repr

/-- One front-end link beside its registers (spec/07). -/
structure FeState where
  /-- FE_x_CLK shows edges (R203). -/
  clkOk : Bool := true
  /-- Consecutive status frames with a wrong SYNC or CRC (R203). -/
  badFrames : Nat := 0
  /-- In HUNT: the last samples with a correct FRM, up to 64; 64 of them have been seen; status frames after them with a correct SYNC
  and CRC (R203). -/
  frmRun : Nat := 0
  frmOk : Bool := false
  goodFrames : Nat := 0
  /-- The sums of the samples' components (I and Q of L1, then of L5) over each frame since the entry to LOCKED, newest first, at most
  the 16384 frames of 2^20 samples (R206). -/
  dcSums : List (Int × Int × Int × Int) := []
  /-- The samples of the last frame as the correlators take them; none: zero-valued and marked invalid (R203, R206). -/
  corr : List (Rat × Rat × Rat × Rat) := []
  /-- The ply in which CALTONE began, and the recorded start of its last period at the ball, in ps (R211). -/
  calAt : Option Nat := none
  calStart : Nat := 0
  /-- The ply of the last trip (R210). -/
  tripAt : Nat := 0
  /-- The antenna state of the last windows that differs from the reported one, and how many windows agree (R209). -/
  antCand : Nat := 0
  antCount : Nat := 0
  /-- The bias is tripped (R210). -/
  tripped : Bool := false
  /-- Windows of a bias retry still to come (R210). -/
  retry : Nat := 0
  /-- BIAS_EN has been written 0 since the trip (R210, RETRY_S = 0). -/
  biasLow : Bool := false
  /-- The link left LOCKED or relocked in the current second (R214). -/
  relocked : Bool := true
  /-- No value has been published since the last relock, per band (R216). -/
  first1 : Bool := true
  first5 : Bool := true
  /-- A joint publication is in use by the fix engine (R215, R337). -/
  ifbUse : Bool := false
  /-- The ply of the last joint publication (R337). -/
  ifbPly : Nat := 0
  deriving DecidableEq, Repr

/-- The place of a search entry in its search (R218, R222, R228). -/
structure AcqPos where
  /-- Dwell in the order of R218: bin order × passes + pass. -/
  dwell : Nat := 0
  verRun : Nat := 0
  verPass : Nat := 0
  deriving DecidableEq, Repr

/-- The acquisition engine beside its registers (spec/07). -/
structure AcqState where
  pos : List (Nat × AcqPos) := []
  /-- The ply since which the entry being served waits for its link (R228). -/
  waitAt : Option Nat := none
  deriving DecidableEq, Repr

/-- A channel's loop processor state (spec/08). The rule R245 is stated over real numbers; the model keeps its sums as
rationals. -/
structure ChState where
  acc1 : Rat := 0
  acc2 : Rat := 0
  accc : Rat := 0
  fCarr : Rat := 0
  fCode : Rat := 0
  /-- The previous prompt accumulation. -/
  prevI : Int := 0
  prevQ : Int := 0
  /-- |P|² and |N|² of the last integrations, newest first, at most 255 (R242). -/
  pow : List (Nat × Nat) := []
  /-- IP² − QP² and IP² + QP² of the last 20 integrations, newest first (R243). -/
  pli : List (Int × Int) := []
  bumpE : Nat := 0
  bumpL : Nat := 0
  /-- A bump since the last observation entry (R240). -/
  bumped : Bool := false
  /-- Sign changes counted at each position of the bit or symbol period (R253). -/
  signs : List Nat := []
  /-- Integrations since the bit count restarted (R253). -/
  signMs : Nat := 0
  /-- Secondary chips in succession since the start or the last update skipped, and whether the test over the first 200 has been made
  (R254). -/
  secChips : Nat := 0
  secTested : Bool := false
  /-- The ply of the entry to PULL_IN, and that since which the reported C/N0 of TRACK is below CN0_MIN (R248, R249). -/
  pullAt : Nat := 0
  lowAt : Option Nat := none
  /-- Consecutive navigation units that failed (R271). -/
  navFails : Nat := 0
  /-- What R256 and R267 have added to the NCO's accumulated phase, in 2^-32 cycle; the integer part is set (R267). -/
  phOff : Int := 0
  phSet : Bool := false
  /-- SLIP_CNT of the channel's previous entry (R265). -/
  prevSlip : Nat := 0
  deriving DecidableEq, Repr

/-- One entry of a base observation record (R265). -/
structure ObsEnt where
  ch : Nat
  sig : Nat
  fe : Nat
  prn : Nat
  elev : Int
  flags : Nat
  cn0 : Nat
  range : Nat
  phase : Int
  dopp : Nat
  lockMs : Nat
  txMs : Nat
  txFrac : Nat
  slip : Nat
  deriving DecidableEq, Repr

/-- A base observation record (R264). -/
structure ObsRec where
  week : Nat := 0
  ms : Nat := 0
  sfn : Nat := 0
  rxOff : Int := 0
  ply : Nat := 0
  flags : Nat := 0
  front : Nat := 0
  timeGen : Nat := 0
  seq : Nat := 0
  ents : List ObsEnt := []
  deriving DecidableEq, Repr

/-- A navigation record (R270). -/
structure NavRec where
  ch : Nat
  sig : Nat
  prn : Nat
  kind : Nat
  bits : Nat
  check : Nat
  inverted : Bool
  txMs : Nat
  seq : Nat
  payload : List Nat
  deriving DecidableEq, Repr

/-- A loss of lock that a reacquisition entry answers: the channel, the ply, its last code phase (UQ16.16 chips) and Doppler (2^-10 Hz)
(R232). -/
structure LossRec where
  ch : Nat
  ply : Nat
  code : Nat
  dopp : Int
  deriving DecidableEq, Repr

/-- An OBS_GET that waits for the record being formed (R277). -/
structure ObsWait where
  sess : Nat
  tag : Nat
  ms : Nat
  first : Nat
  count : Nat
  deriving DecidableEq, Repr

/-- The GNSS units beside their registers (spec/07, spec/08). -/
structure GnssState where
  fe0 : FeState := {}
  fe1 : FeState := {}
  acq : AcqState := {}
  ch : List (Nat × ChState) := []
  /-- The record being formed, and that its forming has ended, 0.9 ms after the strobe (R260). -/
  forming : Option ObsRec := none
  formed : Bool := false
  /-- RATE before a change that landed, and the ply of that (R258). -/
  rateWas : Option (Nat × Nat) := none
  /-- Losses without a FOUND since (R232). -/
  lost : List LossRec := []
  /-- A cold start without a FOUND so far, and the uncertainty of the oscillator model in ppb (R220, R229). -/
  cold : Bool := false
  osc : Rat := 0
  /-- Published records by buffer (R261). -/
  bufs : List (Nat × ObsRec) := []
  /-- The navigation ring, oldest first, at most 512 (R270). -/
  nav : List NavRec := []
  deriving DecidableEq, Repr

/-- What SIGNALS_SET and RTCM_SET have set, held until a system or wider reset (R279). -/
structure GnssCfg where
  maskA : Nat := 0
  maskB : Nat := 0
  elevMask : Nat := 0
  station : Nat := 0
  msmPeriod : Nat := 0
  arpPeriod : Nat := 0
  systems : Nat := 0
  /-- SIGNALS_SET and RTCM_SET have been taken since the last system or wider reset: the settings blob no longer applies. -/
  sigSet : Bool := false
  rtcmSet : Bool := false
  /-- OBS_GET requests that wait (R277). -/
  waits : List ObsWait := []
  deriving DecidableEq, Repr

/-- What the front ends outside the device hold: bits 16 to 47 of the CTL frame last applied (R202). -/
structure FeExt where
  ctl0 : Nat := 0x4D003000
  ctl1 : Nat := 0x4D003000
  deriving DecidableEq, Repr

/-- An armed step (R292). -/
structure StepArm where
  /-- The commanded change in ns; an automatic or accepted step takes the offset last measured. -/
  delta : Int := 0
  auto : Bool := false
  /-- The first step after a reset, which is not announced (R294). -/
  first : Bool := false
  announced : Bool := false
  /-- The request allows a negative step (R293). -/
  back : Bool := false
  /-- The local second in which it is armed; for a first step that of the first selection, once there is one (R292, R294). -/
  sec : Option Nat := none
  /-- The TIME_STEP request that is answered when the step lands (R314). -/
  req : Option (Nat × Nat) := none
  deriving DecidableEq, Repr

/-- Time holdover (R290): the ply of the entry, and the servo's uncertainties then in ns and ppb. -/
structure HoldRec where
  ply : Nat := 0
  e0 : Nat := 0
  uF : Nat := 0
  deriving DecidableEq, Repr

/-- A slave domain beside its registers (R287 to R289, R311). -/
structure DomSt where
  /-- Direction of the last discarded outlier, 0 for none (R288). -/
  out : Int := 0
  /-- The ply in which it began ACQUIRING (R311). -/
  acqAt : Nat := 0
  /-- The ply since which successive samples of a FAULTED domain differ by no more than JUMP_US (R289). -/
  calm : Option Nat := none
  /-- The last sample, in ns. -/
  last : Option Int := none
  /-- The asymmetry that the filter holds, and the ply of its last sample (R287). -/
  asym : Rat := 0
  asymAt : Option Nat := none
  deriving DecidableEq, Repr

/-- The time unit beside its registers (spec/09). -/
structure TimeState where
  /-- The local clock: TAI seconds, and units of 2^-29 ns within the second (R280). -/
  sec : Nat := 0
  fx : Nat := 0
  /-- The unit has a superframe grid (R685), and the index of the last boundary (R19). -/
  grid : Bool := false
  k : Nat := 0
  /-- GPS time by the local clock, in ns, of the start of the superframe in progress (R19, R297). -/
  gridNs : Int := 0
  /-- The clock captured by each initiator's last TIME_SEC_LO read (R283). -/
  cap : List (Nat × Nat × Nat) := []
  step : Option StepArm := none
  /-- The ply in which the last step landed (R296). -/
  stepPly : Option Nat := none
  hold : Option HoldRec := none
  /-- The pending backward correction in ns (R291). -/
  backD : Int := 0
  /-- A shift is to be scheduled from the next Bellwether sent (R298, R301). -/
  shiftWait : Bool := false
  /-- The phase that the announced shift removes (R298, R301). -/
  shiftPhi : Int := 0
  /-- TAI minus UTC (R282). -/
  utc : Int := 0
  /-- The end of the UTC day with an announced leap second, in TAI seconds, and whether the second is inserted (R282). -/
  leapAt : Option (Nat × Bool) := none
  domA : DomSt := {}
  domB : DomSt := {}
  /-- The offset last measured of each source, by its code: source minus local in ns, asymmetry not removed (R286). -/
  offs : List (Nat × Int) := []
  /-- The solution of the latest epoch makes GNSS usable (R284). -/
  gnssOk : Bool := false
  /-- The last edges of PPS_IN by the local clock in ns, newest first (R284). -/
  pps : List Int := []
  /-- The sources usable now, with the ply since when (R285). -/
  useSince : List (Nat × Nat) := []
  /-- The ply of the last selection at a whole second (R285). -/
  selPly : Option Nat := none
  /-- The PTP_SET bytes in force, and those that take effect at the next whole second (R315). -/
  ptp : List Nat := [0, 0, 128, 128, 0, 0, 0, 0, 0, 0, 0xFF, 1, 0xFF, 2, 100, 0]
  ptpNext : Option (List Nat) := none
  /-- Grandmaster ports in PASSIVE (R310). -/
  passive : List Nat := []
  deriving DecidableEq, Repr

/-- Whole nanoseconds of the local clock; `fx` counts units of 2^-29 ns within the second. -/
def TimeState.ns (t : TimeState) : Nat := t.fx / 2 ^ 29

/-- A transmit timestamp (R306). -/
structure TxTs where
  port : Nat
  id : Nat
  sec : Nat
  ns : Nat
  frac : Nat
  gen : Nat
  deriving DecidableEq, Repr

/-- The Ethernet MACs beside their registers (spec/09, spec/17). -/
structure EthState where
  /-- Transmit timestamps, oldest first, at most 16 for each port (R306). -/
  txts : List TxTs := []
  deriving DecidableEq, Repr

/-- A signal block of a COR with the rough range of its satellite (R323, R324): `pr` and `ph` are none where the block
marks them invalid. -/
structure CorSig where
  sv : Nat
  code : Nat
  rate : Int
  rough : Nat
  cn0 : Nat
  half : Bool
  slip : Nat
  ph : Option Int
  pr : Option Int
  deriving DecidableEq, Repr

/-- A parsed COR (R322). -/
structure Cor where
  clkValid : Bool
  antFault : Bool
  week : Nat
  ms : Nat
  clkOfs : Int
  antId : Nat
  sigs : List CorSig
  deriving DecidableEq, Repr

/-- A COR in the solve queue (R362): address, ply of entry, how long after the end of its slot that ply began in ns, the COR. -/
structure CorJob where
  addr : Nat
  ply : Nat
  late : Int
  cor : Cor
  deriving DecidableEq, Repr

/-- An ambiguity state of a filter (R338, R342, R350). -/
structure FixAmb where
  sv : Nat
  code : Nat
  /-- The member's SLIP in the last COR used, and the base LOCK_MS at the last epoch (R342). -/
  slip : Nat
  lockMs : Nat
  /-- Epochs since the signal was last used (R338). -/
  unused : Nat := 0
  /-- Epoch, in ms, of the last reset (R332). -/
  since : Nat := 0
  /-- Consecutive accepted epochs with the integer `int` (R350). -/
  run : Nat := 0
  int : Int := 0
  held : Bool := false
  deriving DecidableEq, Repr

/-- The name of a filter state (R338): an axis of position or velocity, the ambiguity of a signal, the ionosphere of a satellite. -/
inductive FixKey
  | pos (i : Nat)
  | vel (i : Nat)
  | amb (sv code : Nat)
  | iono (sv : Nat)
  deriving DecidableEq, Repr

/-- The state vector and the covariance, by row, in the order of the names (R338): m, m/s, cycles, m. -/
structure Kf where
  keys : List FixKey := []
  x : List Rat := []
  cov : List (List Rat) := []
  deriving DecidableEq, Repr

/-- A member's filter (R338 to R343). -/
structure Filter where
  started : Bool := false
  /-- Epoch of the last measurement update, in ms since week 0. -/
  last : Nat := 0
  amb : List FixAmb := []
  iono : List Nat := []
  /-- Reference satellite per signal code, for code and for phase (R332). -/
  refC : List (Nat × Nat) := []
  refP : List (Nat × Nat) := []
  /-- Geometry-free phase of each satellite at the last epoch, in m (R342 order 4). -/
  gf : List (Nat × Rat) := []
  kf : Kf := {}
  /-- The member's inter-frequency bias B_m in m (R336). -/
  bias : Rat := 0
  /-- Distance of the antenna from REF in m at the last update, and the epoch since which it is within BASE_KM (R343). -/
  dist : Rat := 0
  nearSince : Nat := 0
  restored : Bool := false
  /-- The ionosphere variances are to be set to IONO_SD² (R337). -/
  ionoReset : Bool := false
  deriving DecidableEq, Repr

/-- A solution record (R360). -/
structure SolRec where
  addr : Nat
  status : Nat := 0
  flags : Nat := 0
  ms : Nat := 0
  week : Nat := 0
  nsig : Nat := 0
  nfix : Nat := 0
  sfn : Nat := 0
  pos : Config.FixPos := {}
  ratio : Nat := 0
  age : Nat := 0
  solveUs : Nat := 0
  deriving DecidableEq, Repr

/-- The fix engine beside its registers (spec/10, spec/11). -/
structure FixState where
  queue : List CorJob := []
  /-- The solve in progress. -/
  cur : Option CorJob := none
  filters : List (Nat × Filter) := []
  /-- The filter of the integrity baseline (R345). -/
  integ : Filter := {}
  /-- The engine's registers as sampled at the last strobe (R344). -/
  smp : List (RKey × Nat) := []
  /-- REF, ORG and BASE_ANT in use (R319), in 0.1 mm. -/
  refPos : List Int := [0, 0, 0]
  orgPos : List Int := [0, 0, 0]
  baseAnt : Nat := 0
  /-- CAL_IFB as read at the last strobe, in ps; 0 while it is not used (R337). -/
  ifb : Int := 0
  /-- The ply in which APPLY_REF and APPLY_ORG landed, until the strobe takes them (R319). -/
  refAt : Option Nat := none
  orgAt : Option Nat := none
  /-- The base record of the current epoch, once published (R328), and the epoch's ephemerides (R330). -/
  base : Option ObsRec := none
  eph : List Nat := []
  /-- The epoch whose base record is missing (R356), as (week, ms). -/
  missing : Option (Nat × Nat) := none
  /-- Latest record of each member. -/
  recs : List (Nat × SolRec) := []
  /-- Records complete since the last cut-off, in order of writing (R28). -/
  done : List SolRec := []
  /-- Filters to reset at the next strobe; 0xFF for all (R370). -/
  resets : List Nat := []
  /-- Consecutive epochs of the integrity baseline beyond and within the limit (R345). -/
  integBad : Nat := 0
  integGood : Nat := 0
  deriving DecidableEq, Repr

/-- One lane beside its registers (spec/12). -/
structure LaneState where
  /-- State of the receive link: 0 DOWN, 1 HUNT, 2 LOCKED (R374). -/
  link : Nat := 0
  /-- The link clock shows edges (R374). -/
  clkOk : Bool := true
  /-- In HUNT: words in succession with a correct SYNC and CRC, up to 64. In LOCKED: whether each of the last 256 words was wrong, newest
  first, and that they end LOCKED (R374). -/
  good : Nat := 0
  recent : List Bool := []
  fallen : Bool := false
  /-- The samples of the words last received: I, Q, RXV, OVR; zero for a word with a wrong CRC (R373, R374). -/
  rx : List (Int × Int × Bool × Bool) := []
  /-- Capability words received in the cycle in progress, from index 0, and the last two complete cycles (R379). -/
  part : List Nat := []
  last : Option (List Nat) := none
  prev : Option (List Nat) := none
  /-- Bits 16 to 47 and the SEQ of the control frame being sent (R375). -/
  ctl : Nat := 0
  seq : Nat := 0
  /-- LO_OFS in Hz and the receive imbalance in register units, unrounded (R398, R400). -/
  lo : Rat := 0
  iqG : Rat := 0
  iqP : Rat := 0
  /-- The interval whose frame has been decided last: boundary, slot, interval (R391). -/
  dec : Option (Nat × Nat × Nat) := none
  deriving DecidableEq, Repr

/-- A budget account's history: ordinary and stop sums of the current bucket and of up to 59 before it, newest first
(R389). -/
structure AcctHist where
  cur : Nat × Nat := (0, 0)
  old : List (Nat × Nat) := []
  /-- EN has been set since the last reset covering PD_RADIO (R394). -/
  started : Bool := false
  /-- The ply of the last bucket boundary taken. -/
  rolled : Option Nat := none
  deriving DecidableEq, Repr

/-- Hop settings (R387): lanes, key slot, IV, the exclusion bitmaps and the lane profiles captured at the write. -/
structure HopSet where
  lanes : Nat
  keySlot : Nat
  iv : Nat
  excl : List Nat
  profs : List Nat
  ver : Nat
  /-- GEN of the key slot at the first computation under this apply, and that a computation under it has found no key
  (R386, R388). -/
  gen : Option Nat := none
  failed : Bool := false
  deriving DecidableEq, Repr

/-- A channel computed for a slot (R388): lane, boundary index, slot, channel. -/
structure HopChan where
  lane : Nat
  k : Nat
  slot : Nat
  ch : Nat
  deriving DecidableEq, Repr

/-- The radio beside its registers (spec/12). -/
structure RadioState where
  lanes : List (Nat × LaneState) := []
  accts : List (Nat × AcctHist) := []
  /-- Hop settings in force, and those pending with TARGET_SFN (R387). -/
  hop : Option HopSet := none
  pend : Option (HopSet × Nat) := none
  hopVer : Nat := 0
  /-- DSEQ last used for 0xFF, and that of the first HOP_UPDATE part of the pending apply (R414, R425). -/
  bseq : Nat := 0
  hopSeq : Nat := 0
  chans : List HopChan := []
  /-- The slot computed last, as boundary and slot, on the 2.4 GHz lanes and on the sub-GHz lanes (R388). -/
  hopAt0 : Option (Nat × Nat) := none
  hopAtS : Option (Nat × Nat) := none
  /-- MEMBER_CFO in Hz, unrounded (R398). -/
  mcfo : List (Nat × Rat) := []
  deriving DecidableEq, Repr

/-- A lane transceiver outside the device (R377): the control frame it holds as pending and the one last applied, each
as bits 16 to 47 with the SEQ. -/
structure TrxExt where
  pend : Option (Nat × Nat) := none
  cur : Option (Nat × Nat) := none
  deriving DecidableEq, Repr

/-- A CMD item waiting to be acknowledged (R421, R426). -/
structure MacCmd where
  dst : Nat
  dseq : Nat
  kind : Nat
  body : List Nat
  sends : Nat := 0
  deriving DecidableEq, Repr

/-- What the MAC holds of a member beside its MEMBER registers (spec/13). -/
structure MacMember where
  /-- The capability record (R431). -/
  caps : List Nat := []
  /-- LAST, or none while it is unsynced (R422). -/
  last : Option Nat := none
  /-- MSTATE of the last UPLINK (R415). -/
  mstate : Nat := 0
  /-- Superframe of the last frame that passed R411, and its ply. -/
  lastSfn : Nat := 0
  heard : Nat := 0
  dup : Nat := 0
  /-- DSEQ of the next CMD item to this address, and the items DACK has not reached, oldest first (R426). -/
  next : Nat := 1
  cmds : List MacCmd := []
  /-- COR_PART items of the long superframe `partM`: TOTAL, and the parts as (OFFSET, bytes) (R416). -/
  partM : Nat := 0
  total : Nat := 0
  parts : List (Nat × List Nat) := []
  /-- The slots last acknowledged for banks 0 and 1, as (lane, Q) (R448). -/
  told0 : Nat × Nat := (0, 127)
  told1 : Nat × Nat := (0, 127)
  /-- Boundary of the response that offered the address, and the ply of the offer (R434, R435). -/
  respK : Nat := 0
  offerPly : Nat := 0
  /-- The ply since which the local order slot is empty (R464). -/
  emptyPly : Nat := 0
  deriving DecidableEq, Repr

/-- An association response due (R432, R433): lane, boundary of its superframe or long superframe, EUI bytes, RESULT, the
offer. -/
structure AssocResp where
  lane : Nat
  k : Nat
  eui : List Nat
  result : Nat
  addr : Nat := 0
  slane : Nat := 0
  q : Nat := 0
  deriving DecidableEq, Repr

/-- A received MPDU on its way to the MAC: lane, boundary, slot, RSSI. -/
structure RxFrame where
  lane : Nat
  k : Nat
  slot : Nat
  rssi : Int
  mpdu : List Nat
  deriving DecidableEq, Repr

/-- Counts of one lane in the current superframe (R452). -/
structure LaneCount where
  upOk : Nat := 0
  upEmpty : Nat := 0
  micFail : Nat := 0
  dup : Nat := 0
  stray : Nat := 0
  refused : Nat := 0
  winDef : Nat := 0
  rssiMin : Int := 127
  deriving DecidableEq, Repr

/-- The MAC beside its registers (spec/13). -/
structure MacState where
  members : List (Nat × MacMember) := []
  /-- Released addresses with the ply of their release (R434). -/
  freed : List (Nat × Nat) := []
  /-- Held OWNER writes: bank, lane, Q, owner (R449). -/
  held : List (Nat × Nat × Nat × Nat) := []
  /-- RELEASE items, sent once, by lane (R436). -/
  once : List (Nat × MacCmd) := []
  resp : List AssocResp := []
  /-- Uplinks acknowledged by R422 in the superframe or long superframe: lane, slot (R423). -/
  acks : List (Nat × Nat) := []
  /-- Frames that passed their CRC and await the checks of R411. -/
  rx : List RxFrame := []
  cnt : List (Nat × LaneCount) := []
  /-- Members whose last window was deferred (R419). -/
  deferred : List Nat := []
  /-- Windows built at the last C1, and those kept for the sub-GHz lanes (R420, R490). -/
  wins : List (Nat × List Nat) := []
  /-- Windows that D2 of the sub-GHz lanes carries next, and the records of their members complete since the digest
  before (R420). -/
  subWins : List (Nat × List Nat) := []
  subDone : List SolRec := []
  /-- Digest bodies awaiting their slot: lane, CUT, body after the CLAIM and CUT fields. -/
  digests : List (Nat × Nat × List Nat) := []
  /-- Members whose COR of this superframe, or long superframe, was accepted (R357). -/
  corOk : List Nat := []
  /-- Members whose UPLINK passed R411 in it, on the active or the standby unit (R452). -/
  upFrom : List Nat := []
  /-- Members whose slot, or last part slot, of it has ended (R357, R452). -/
  slotDone : List Nat := []
  deriving DecidableEq, Repr

/-- A task descriptor (R453, R454, R456). -/
structure Task where
  id : Nat
  level : Nat
  flags : Nat
  mask : Nat
  target : Nat
  origin : Nat
  readyPly : Nat
  body : List Nat
  state : Nat := 1
  /-- Ply in which the submission was taken. -/
  sub : Nat := 0
  /-- A suspended tier C task (R462). -/
  susp : Bool := false
  cancelReq : Bool := false
  /-- Core initiator ID or member address; 0 when none (R473). -/
  exec : Nat := 0
  result : Nat := 0
  data : Nat := 0
  endPly : Nat := 0
  unknownEnd : Bool := false
  requeued : Bool := false
  /-- START_BY of the ASSIGN, DSEQ of the ASSIGN, ACKED_BY, and the RENEW outstanding as (DSEQ, START_BY) (R464, R466). -/
  startBy : Nat := 0
  assign : Nat := 0
  ackedBy : Nat := 0
  renew : Option (Nat × Nat) := none
  /-- It was requeued when it lapsed (R470). -/
  wasRequeued : Bool := false
  deriving DecidableEq, Repr

/-- The dispatcher beside its registers (spec/14). -/
structure DispState where
  /-- Descriptors ever allocated, by INDEX; those from `fresh` on have been free since reset (R455). -/
  tasks : List (Nat × Task) := []
  fresh : Nat := 0
  /-- Freed INDEX values, free longest first (R455). -/
  freed : List Nat := []
  /-- PENDING tasks in the order in which their submissions were taken, READY tasks in ready order, by INDEX (R459). -/
  pend : List Nat := []
  ready : List Nat := []
  /-- Initiators whose submit is stalled (R457). -/
  stalled : List Nat := []
  deriving DecidableEq, Repr

/-- A request for a channel, checked at receipt and taken at the next C1 (R486). -/
inductive TrkReq where
  | move (sess tag : Nat) (home : Bool) (dock track : Nat) (target : Int)
  | halt (sess tag : Nat)
  | engage (sess tag pair : Nat)
  | disengage (sess tag pair : Nat)
  deriving DecidableEq, Repr

/-- The MOVE in progress of a channel (R489, R501, R509). -/
structure MoveRec where
  sess : Nat
  tag : Nat
  home : Bool
  dock : Nat
  track : Nat
  target : Int
  deriving DecidableEq, Repr

/-- A profile channel beside its registers (spec/15). Arcs are in µm (R485). -/
structure PchState where
  /-- Tracks sealed in the member's slots 0 and 1 (R480 to R482). -/
  slot0 : Option Nat := none
  slot1 : Option Nat := none
  /-- The slot being loaded: slot, track, DSEQ of its SEAL item (R482). -/
  load : Option (Nat × Nat × Nat) := none
  /-- Requests waiting for a C1, in order of arrival. -/
  reqs : List TrkReq := []
  move : Option MoveRec := none
  /-- The plan in force, and the boundary index of its start (R485, R486). -/
  plan : Option (Config.PlanIn × Nat) := none
  /-- Commanded arcs by boundary index: those of the last two boundaries, the present and the next (R486, R497). -/
  arcs : List (Nat × Int) := []
  /-- Rest arc of a HELD or FAULT channel (R484). -/
  rest : Int := 0
  /-- The pair whose follower the channel is. -/
  pair : Nat := 0
  /-- The channel has sent a window since it left IDLE. -/
  windowed : Bool := false
  /-- The previous projection on the channel's track, in mm (R479). -/
  proj : Option Int := none
  /-- Epochs since the state was entered; consecutive epochs with STALL, SLIP and LATERAL windows left; consecutive
  epochs without FIXED or FLOAT; epochs back within the windows since a REPORT (R499, R500). -/
  epochs : Nat := 0
  stall : Nat := 0
  slip : Nat := 0
  lat : Nat := 0
  blind : Nat := 0
  quiet : Option Nat := none
  /-- The contact that DOCKED refers to (R504). -/
  dock : Nat := 0
  /-- The contact has closed since the MOVE was taken, and the channel stops for it (R504). -/
  docking : Bool := false
  /-- REASON and OUTCOME that the rest of a STOPPING channel gives (R484, R509); the target is behind (R488). -/
  reason : Nat := 0
  outcome : Nat := 0
  behind : Bool := false
  deriving DecidableEq, Repr

/-- The track engine beside its registers (spec/15). -/
structure TrkState where
  /-- Vertex memory in canonical form: word 3v + axis of entry v (R475). -/
  verts : List (Nat × Nat) := []
  pch : List (Nat × PchState) := []
  /-- The previous projection of each pair's master on MTRACK, in mm (R479). -/
  gear : List (Nat × Int) := []
  /-- Requests to Rook that take effect in the ply after the check: ply, member, response code (R500). -/
  rookReq : List (Nat × Nat × Nat) := []
  /-- The ply in which the last window of each DOCK input ended (R502). -/
  dockAt : List (Nat × Nat) := []
  deriving DecidableEq, Repr

/-- One channel of an e-stop loop (R519 to R522): consecutive open and closed counted samples (to 2), confirmed state
(0 none yet, 1 closed, 2 open), the ply since which every counted sample has read closed, a passed test since the loop
was last open, and the ply in which the drive fell for the test under way with the result so far. -/
structure EstopCh where
  openRun : Nat := 0
  closedRun : Nat := 0
  conf : Nat := 0
  since : Option Nat := none
  tested : Bool := false
  test : Option Nat := none
  testBad : Bool := false
  deriving DecidableEq, Repr

/-- A member stop or a HOLD or RESUME whose frames are being repeated (R525): CMD, SSEQ (none: the unit's current one),
TARGET, the members still concerned, and the sub-windows left per lane. -/
structure StopFrame where
  cmd : Nat
  sseq : Option Nat
  target : Nat
  members : List Nat
  left : List (Nat × Nat)
  deriving DecidableEq, Repr

/-- A request through STOP_PORT that is evaluated in a later ply (R535, R539): initiator, ply of landing, IGNORE_PAIR,
and the ECP request that is answered. -/
structure StopReq where
  ini : Nat
  ply : Nat
  ignorePair : Bool
  req : Option (Nat × Nat)
  /-- Its number in the order of arrival (R142, R143). -/
  n : Nat := 0
  deriving DecidableEq, Repr

/-- Rook beside its registers (spec/16). -/
structure RookState where
  ch : List (Nat × EstopCh) := []
  /-- Ply in which each loop was enabled; ply in which the test cycle began (R519, R520). -/
  enAt : List (Nat × Nat) := []
  cycle : Nat := 1
  /-- Ply since which the channels of a loop disagree, and since which a relay's feedback differs (R521, R524). -/
  disc : List (Nat × Nat) := []
  fbDiff : List (Nat × Nat) := []
  /-- Last samples of the 16 SNS and the 4 FB balls, and of CLK_RWDOG over the last two plies (R514, R539, R686). -/
  sns : Nat := 0
  fb : Nat := 0
  rw0 : Nat := 160
  rw1 : Nat := 160
  /-- Loops with a latched LOOP_TEST and a latched DISCREPANCY (R686). -/
  ltBits : Nat := 0
  dcBits : Nat := 0
  /-- Sub-windows left of the stop-all repetition, by lane; member stops, oldest first; HOLD and RESUME in SSEQ order
  (R525). -/
  rep : List (Nat × Nat) := []
  mstops : List StopFrame := []
  hr : List StopFrame := []
  /-- Members stopped, with the ply, for R540. -/
  mstopPly : List (Nat × Nat) := []
  /-- Ply of the last source confirmed (R535 blocker 4), and the IGNORE_PAIR of the last request. -/
  srcPly : Option Nat := none
  release : List StopReq := []
  /-- Requests taken so far. -/
  asks : Nat := 0
  clear : List StopReq := []
  /-- Relays rise in the next ply (R536). -/
  raiseAt : Option Nat := none
  /-- The watchdog runs; its count in CLK_RWDOG cycles; the last Rook write was 0xC35A to WDOG_SVC (R513). -/
  wdogOn : Bool := false
  wdog : Nat := 0
  svc : Bool := false
  deriving DecidableEq, Repr

/-- An unacknowledged SAFETY message (R554): the SEQs of its sendings, its body, the repeats sent, and the ply of the last sending. -/
structure SafetyMsg where
  seqs : List Nat
  body : List Nat
  repeats : Nat := 0
  ply : Nat := 0
  deriving DecidableEq, Repr

/-- A checkpoint buffer of the standby (R559): CKPT_SEQ, the chunks as (OFFSET, bytes) in order of arrival, and, once
complete, CAPTURE_SFN and the image. -/
structure CkptBuf where
  seq : Nat
  chunks : List (Nat × List Nat) := []
  sfn : Nat := 0
  image : List Nat := []
  deriving DecidableEq, Repr

/-- What a checkpoint holds (R558): the fix engine's filters and references, the dispatcher, the track engine, the member
table, slot banks, flocks, hop settings and K0. -/
structure CkptImage where
  filters : List (Nat × Filter)
  refPos : List Int
  orgPos : List Int
  baseAnt : Nat
  disp : DispState
  trk : TrkState
  members : List (Nat × MacMember)
  freed : List (Nat × Nat)
  hop : Option HopSet
  hopPend : Option (HopSet × Nat)
  regs : List (RKey × Nat)
  deriving DecidableEq, Repr

/-- The pair link beside its registers (spec/17). -/
structure PairState where
  /-- EPOCH of this unit, drawn at its first message since PD_NET left reset, and its message count (R544). -/
  epoch : Option Nat := none
  seq : Nat := 0
  /-- EPOCH and SEQ last accepted from the partner (R545). -/
  pEpoch : Option Nat := none
  pSeq : Nat := 0
  /-- Ply of the last HEARTBEAT accepted (R546), the STATE, SRC_OWN, PAIR_CTR and HOP_VER it carried. -/
  hbPly : Option Nat := none
  pState : Nat := 0
  pSrc : Nat := 0
  pCtr : Nat := 0
  /-- SSEQ of the partner's HOLD or RESUME last taken (R527). -/
  pHr : Option Nat := none
  safety : List SafetyMsg := []
  rx : Option CkptBuf := none
  ckpt : Option CkptBuf := none
  /-- Ply of the last complete checkpoint (R560). -/
  ckptPly : Option Nat := none
  /-- Run-state start: listening for a partner, the second wait of a secondary, an active partner heard (R556). -/
  listen : Bool := false
  wait : Bool := false
  /-- The ply in which the listening or the second wait began (R556). -/
  since : Nat := 0
  /-- The ply of the last HEARTBEAT sent (R546). -/
  hbTx : Option Nat := none
  heard : Bool := false
  /-- The unit becomes active, or yields, at the next boundary (R556, R562, R564). -/
  become : Bool := false
  yield : Bool := false
  /-- A checkpoint load is in progress, and after a takeover the work layer waits for the first boundary after it (R562,
  R563, R566). -/
  loading : Bool := false
  idle : Bool := false
  /-- Work-layer requests are answered NOT_ACTIVE since the capture of a handover (R566). -/
  frozen : Bool := false
  /-- Request of the handover, and the standby's load for it is complete (R565, R566). -/
  hoReq : Option (Nat × Nat) := none
  hoLoaded : Bool := false
  /-- Superframes, or long superframes, in succession without a valid Bellwether of the active unit, by lane; a Bellwether
  heard in the current one (R561). -/
  miss : List (Nat × Nat) := []
  bellHeard : List Nat := []
  /-- PARTNER_SUSPECT has been written (R561). -/
  suspect : Bool := false
  /-- Bank and hop version of the active unit that a standby's Bellwether copies (R552). -/
  copyBank : Nat := 0
  copyVer : Nat := 0
  deriving DecidableEq, Repr

/-- The key store beside its registers (spec/18): the key bytes of occupied slots, which no access reads (R575). -/
structure KsState where
  vals : List (Nat × List Nat) := []
  /-- A tamper event whose record waits for the event recorder (R589): its cause. -/
  tamperDue : Option Nat := none
  /-- A test of the entropy source has failed and has not passed since (R572). -/
  trngBad : Bool := false
  deriving DecidableEq, Repr

/-- The event recorder (spec/19); the rings survive every reset short of main power-on (R598). -/
structure RecState where
  /-- The write queue, oldest first, at most 64 records (R596). -/
  queue : List Rec := []
  /-- The next record written carries LOST_BEFORE (R597, R598). -/
  lostBefore : Bool := false
  /-- Main ring: (index, record) for every held entry. -/
  main : List (Nat × Rec) := []
  /-- Reserve ring: (index, record) for every held entry. -/
  reserve : List (Nat × Rec) := []
  /-- Reserve ring index of the next write (R599). -/
  resHead : Nat := 0
  /-- Index of the first record since the reserve ring was emptied, which is never overwritten (R599). -/
  resFirst : Option Nat := none
  /-- CIVIL_HWM as (seconds, nanoseconds) (R595). -/
  hwmSec : Nat := 0
  hwmNs : Nat := 0
  /-- First half of a REC_RESTORE pair has been written (R593). -/
  restoreHours : Option Nat := none
  /-- The ply in which the retest under way began (R602). -/
  retestAt : Nat := 0
  deriving DecidableEq, Repr

/-- What lies in the boot flash beside the images (R659, R660, R670): a valid descriptor copy, with the state, tries and
install count of slots A and B. -/
structure BootDesc where
  seq : Nat
  st0 : Nat := 0
  tries0 : Nat := 0
  img0 : Nat := 0
  st1 : Nat := 0
  tries1 : Nat := 0
  img1 : Nat := 0
  req : Nat := 0
  deriving DecidableEq, Repr

/-- A settings copy with its valid header (R670): FORMAT, STATE, GEN, WRITER, body. -/
structure SetCopy where
  format : Nat
  state : Nat
  gen : Nat
  writer : List Nat
  body : List Nat
  deriving DecidableEq, Repr

/-- The boot flash and the OTP fuses, outside every reset: the valid descriptor copies, the valid anchor copies as
(operating hours, power-cycle count), the valid settings copies, the bytes of slots A and B, the blown fuses of the two
ladders (R593, R659 to R663, R670). -/
structure FlashState where
  desc0 : Option BootDesc := none
  desc1 : Option BootDesc := none
  anchor0 : Option (Nat × Nat) := none
  anchor1 : Option (Nat × Nat) := none
  set0 : Option SetCopy := none
  set1 : Option SetCopy := none
  slot0 : List Nat := []
  slot1 : List Nat := []
  hoursFuses : Nat := 0
  cycleFuses : Nat := 0
  /-- The OTP trim region: words 0 to 254, and the CRC-32C of them in word 255 (R132). -/
  trims : List Nat := List.replicate 255 0 ++ [0xB641CDE2]
  deriving DecidableEq, Repr

/-- What the one-way path carries into MP (R606): a cut-off's records, an activation, a release. -/
inductive MpItem where
  | cut (recs : List SolRec)
  | act (addr : Nat) (eui : List Nat)
  | rel (addr : Nat) (eui : List Nat)
  deriving DecidableEq, Repr

/-- An MP account (R610, R612): EUI, totals, and the last eligible record as (time in ms, E, N). -/
structure MpAcct where
  eui : List Nat
  dist : Nat := 0
  workDist : Nat := 0
  workMs : Nat := 0
  area : Nat := 0
  last : Option (Nat × Int × Int) := none
  deriving DecidableEq, Repr

/-- The metrology partition beside its registers (spec/20). -/
structure MpState where
  /-- The core runs: its image has been loaded since the reset (R109). -/
  running : Bool := false
  /-- The image in MP SRAM. -/
  image : List Nat := []
  /-- Items on the path with the ply of their sending; the buffer; the last cut-off message was dropped (R607). -/
  wire : List (Nat × MpItem) := []
  buf : List MpItem := []
  dropping : Bool := false
  accts : List MpAcct := []
  /-- Addresses mapped to EUIs (R610). -/
  map : List (Nat × List Nat) := []
  /-- Ply since which the seal is confirmed open (R608, R614). -/
  sealSince : Option Nat := none
  deriving DecidableEq, Repr

/-- What the DRAM controller does and what DRAM holds that outlives a warm reset (R107, R559, R664 keeps its header beside): refresh
commands only, from a warm reset's assertion to the release of PD_SYS; the last complete checkpoint buffer. -/
structure DramState where
  refreshOnly : Bool := false
  ckpt : Option CkptBuf := none
  deriving DecidableEq, Repr

/-- A UART's FIFOs (R641): the bytes to send in chunks, each with whether it is an RTCM frame (R642); the received bytes
with their flags (bit 0 framing, bit 1 parity error); CLK_PER cycles the character being sent still takes. -/
structure UartState where
  tx : List (Bool × List Nat) := []
  rx : List (Nat × Nat) := []
  wait : Nat := 0
  deriving DecidableEq, Repr

/-- A CAN frame (R645): identifier format, FD format, bit-rate switching, identifier, DLC, data. -/
structure CanFrame where
  ide : Nat
  fdf : Nat
  brs : Nat
  id : Nat
  dlc : Nat
  data : List Nat
  deriving DecidableEq, Repr

/-- A CAN controller (R647, R648): received frames, oldest first, each with its filter and ply; transmit buffers, each with the number of
its GO; the GOs taken. -/
structure CanState where
  rx : List (CanFrame × Nat × Nat) := []
  tx : List (Nat × CanFrame × Nat) := []
  goes : Nat := 0
  deriving DecidableEq, Repr

/-- Site I/O beside its registers (spec/22). -/
structure SiteState where
  uarts : List (Nat × UartState) := []
  cans : List (Nat × CanState) := []
  /-- Channels of the ADC whose extremes have been loaded since the last read (R653). -/
  adcLoaded : List Nat := []
  /-- The port under cable diagnosis (R655). -/
  cable : Option Nat := none
  /-- Ply since which a port's link is down, and ply of its last automatic diagnosis (R655). -/
  downAt : List (Nat × Nat) := []
  autoAt : List (Nat × Nat) := []
  deriving DecidableEq, Repr

/-- A channel's arbiter (R626, R628, R629): the requester last granted in each class, the input each requester passed its last grant to, the
cycles that each has waited. Nothing granted yet: the next is the first (DESIGN CHOICE, log 127). -/
structure ArbState where
  ptr : List Nat := [15, 15, 15, 15]
  port : List Nat := List.replicate 16 15
  wait : List Nat := List.replicate 16 0
  deriving DecidableEq, Repr

/-- CRC_SCAN requests in progress: channel, session, TAG (R636), and the high words captured by reads of
their low words: address, initiator, value (R138). -/
structure UnitState where
  scans : List (Nat × Nat × Nat) := []
  hi : List (Nat × Nat × Nat) := []
  /-- ECC_INJ requests that wait for their writer's next word: channel, writer, bits (spec/21). -/
  inj : List (Nat × Nat × Nat) := []
  arb0 : ArbState := {}
  arb1 : ArbState := {}
  /-- The ply in which the sweep of a channel began, while its period runs (R624). -/
  sweeps : List (Nat × Nat) := []
  deriving DecidableEq, Repr

/-- An update transfer (R668, R669): session, target, slot or settings copy, announced length, bytes so far. -/
structure Transfer where
  sess : Nat
  settings : Bool
  slot : Nat
  len : Nat
  data : List Nat := []
  deriving DecidableEq, Repr

/-- Boot, update and monitor beside their registers (spec/23). -/
structure BootState where
  /-- Core 0 runs the boot ROM; otherwise the main firmware (R664). -/
  core0Rom : Bool := true
  /-- The main firmware has started (R671). -/
  started : Bool := false
  /-- The accepted header kept in DRAM (R664). -/
  header : Option (List Nat) := none
  /-- Component types loaded into the GNSS loop processors, the modem processors and the fix engine (R91, R667). -/
  loaded : List Nat := []
  /-- Settings copy in use, and the role it states (R131, R671). -/
  settings : Option Nat := none
  settingsRole : Option Nat := none
  upd : Option Transfer := none
  /-- ROOK_COLD is due from this ply on (R668). -/
  coldAt : Option Nat := none
  /-- Recovery: next OFFSET, and a VERIFY of the target slot has passed (R674). -/
  recNext : Nat := 0
  recOk : Bool := false
  /-- The monitor: nonce outstanding, failed responses in a row, ply at which OPEN ends, ply of the last line, the line
  and the SLIP packet being received (R675 to R677). -/
  nonce : Option (List Nat) := none
  fails : Nat := 0
  openEnd : Nat := 0
  lastLine : Nat := 0
  line : List Nat := []
  slip : Option (List Nat) := none
  deriving DecidableEq, Repr

/-! ## Members outside the unit (R438 to R445, R467, R481, R493, R534, R550, R551) -/

/-- A work order at a member (R465): TASK_ID, START_BY, LEVEL, BODY. -/
structure MemOrder where
  task : Nat
  startBy : Nat
  level : Nat := 0
  body : List Nat := []
  deriving DecidableEq, Repr

/-- The window a member follows (R29, R491, R493): GPS time in µs of its boundary T, its ten setpoints in mm for T + 100 ms to
T + 1000 ms, the track slot, END, HOME, HOLD. -/
structure MemWindow where
  base : Nat
  pts : List Int
  slot : Nat
  ended : Bool
  home : Bool
  hold : Bool
  deriving DecidableEq, Repr

/-- A track slot of a member (R480, R481). -/
structure MemTrack where
  verts : List (Int × Int × Int) := []
  closed : Bool := false
  deriving DecidableEq, Repr

/-- A HOP_UPDATE part as received (R421): version, TARGET_SFN, lane set, and the part's own bytes. -/
structure MemHopPart where
  ver : Nat
  target : Nat
  lanes : Nat
  data : List Nat
  deriving DecidableEq, Repr

/-- A member machine outside the unit, as far as the member rules of the spec describe it. Times are µs of GPS time as the
member's clock gives them (log 33). -/
structure MemDev where
  /-- EUI, capability record (R431), join key. -/
  eui : List Nat := []
  caps : List Nat := []
  joinKey : List Nat := []
  /-- 0 UNJOINED, 1 JOINING, 2 MEMBER, 3 RELISTEN (R438), and the conditions STOPPED and HOLDING. -/
  st : Nat := 0
  stopped : Bool := false
  holding : Bool := false
  /-- Attempts so far, request slots left to wait, the lane and boundary of the request in hand, and whether part 0 of an
  accepting response is in (R432, R439). -/
  tries : Nat := 0
  wait : Nat := 0
  asked : Option (Nat × Nat) := none
  half : Bool := false
  /-- What the response gave (R432): address, slots of banks 0 and 1 as (lane, Q), flocks, K0, hop settings, keys. -/
  addr : Nat := 0
  slot0 : Nat × Nat := (0, 255)
  slot1 : Nat × Nat := (0, 255)
  flocks : Nat := 0
  k0 : Nat := 0
  hopLanes : Nat := 0
  hopVer : Nat := 0
  excl : List Nat := []
  nwkKey : List Nat := []
  hopKey : List Nat := []
  hopIv : Nat := 0
  joinAt : Nat := 0
  /-- The bank last named (R442), RATE of the last Bellwether, the announced shift as (S, L) (R445). -/
  bank : Nat := 0
  rate : Nat := 0
  shift : Option (Nat × Nat) := none
  /-- The announced hop apply as (HOP_VER, TARGET_SFN), and the parts of it in hand (R444). -/
  hopAnn : Option (Nat × Nat) := none
  part0 : Option MemHopPart := none
  part1 : Option MemHopPart := none
  /-- Claims of sources 0xE0 and 0xE1, the time of each one's last valid Bellwether or DIGEST, STOP_CLEAR of each one's latest
  valid Bellwether (R534, R550). -/
  claim0 : Option Nat := none
  claim1 : Option Nat := none
  at0 : Nat := 0
  at1 : Nat := 0
  clear0 : Bool := false
  clear1 : Bool := false
  /-- First bit of the last valid Bellwether (R440); start of the superframe or long superframe of B0 (R443). -/
  bellAt : Nat := 0
  clearAt : Nat := 0
  /-- The SSEQ last acted on, the time of the last stop-window frame, and that the next Bellwether's SSEQ is taken (R427). -/
  acted : Option Nat := none
  stopAt : Nat := 0
  resync : Bool := false
  /-- The last DSEQ per (source, destination); an absent one is unsynced (R425). -/
  dseq : List ((Nat × Nat) × Nat) := []
  /-- SEQ last used; the UPLINK in flight as (SEQ, RPT items, boundary of its last sending); reports that wait; a STATE report is
  due (R422, R424, R469). -/
  seq : Nat := 0
  flight : Option (Nat × List (List Nat) × Nat) := none
  reports : List (List Nat) := []
  stateDue : Bool := false
  /-- The COR whose parts are being sent: long superframe, bytes, OFFSET of the next part (R416). -/
  cor : Option (Nat × List Nat × Nat) := none
  /-- The running order, the local slot, and the last two tasks ended (R467, R468). -/
  running : Option MemOrder := none
  held : Option MemOrder := none
  doneA : Nat := 0
  doneB : Nat := 0
  /-- Track slots 0 and 1; the window it follows; the latest digest entry of its own (R361). -/
  trk0 : MemTrack := {}
  trk1 : MemTrack := {}
  win : Option MemWindow := none
  sol : List Nat := []
  /-- Its dock contact: confirmed closed, confirmed changes (R503). -/
  dock : Bool := false
  dockCount : Nat := 0
  /-- What it has charged to the accounts of its lane's profile, as (account, bucket, µs), and the time of its first frame (R396). -/
  sent : List (Nat × Nat × Nat) := []
  bornAt : Option Nat := none
  /-- Frames discarded as malformed (R16). -/
  malformed : Nat := 0
  deriving DecidableEq, Repr

/-- The block's state. `pending` is the queue of waiting commands, first in, first out. -/
structure State where
  /-- Commands waiting, oldest first. -/
  pending : List Instr := []
  /-- What the device has done to the outside (log 5). -/
  out : List Output := []
  /-- How many free values have been used (log 4). -/
  freeCtr : Nat := 0
  /-- Register fields that differ from their reset values, keys rising. -/
  regs : List (RKey × Nat) := []
  /-- The 64-bit ply number (R137). -/
  ply : Nat := 0
  rst : RstState := {}
  clk : ClkState := {}
  pwr : PwrState := {}
  sw : SwState := {}
  cast : CastState := {}
  evr : RecState := {}
  time : TimeState := {}
  ecp : EcpState := {}
  boot : BootState := {}
  gnss : GnssState := {}
  gnssCfg : GnssCfg := {}
  feExt : FeExt := {}
  eth : EthState := {}
  fix : FixState := {}
  ks : KsState := {}
  radio : RadioState := {}
  /-- The lane transceivers outside the device (R377). -/
  trx : List (Nat × TrxExt) := []
  mac : MacState := {}
  disp : DispState := {}
  trk : TrkState := {}
  rook : RookState := {}
  pair : PairState := {}
  mp : MpState := {}
  /-- MP_STARTS, in PD_AON (R609). -/
  mpStarts : Nat := 0
  /-- The audit trail in OTP: each record as it reads back, with whether its CRC passes (R615). -/
  audit : List (Bool × List Nat) := []
  /-- The boot flash and the OTP fuses (R593, R659, R663). -/
  flash : FlashState := {}
  site : SiteState := {}
  dram : DramState := {}
  unit : UnitState := {}
  /-- The members outside the unit, by number. -/
  memDevs : List (Nat × MemDev) := []
  deriving DecidableEq, Repr

/-- Why the block would stop. No command of the table faults: every access the spec calls out has an outcome of its own
(refused, ignored, counted), so no meaning raises this; it stands for a state outside the model. Safe. -/
inductive Fault where
  /-- Raised by no command. Safe: stopping proves nothing false. -/
  | outside
  deriving DecidableEq, Repr

/-- Why a command would have no meaning. -/
inductive Refusal where
  /-- A command whose meaning is not written yet; raised by Machine/Dispatch.lean alone. Safe. -/
  | notModelled (mnemonic : String)
  deriving DecidableEq, Repr

/-- The unit right after reset (R17, R117): every register field at its reset value, since no value is listed; the
application cores other than core 0 halted, core 0 in the boot ROM (R119). -/
def State.reset : State :=
  { rst := { halted := [1, 2, 3, 4, 5, 6, 7, 8, 9, 10, 11, 12, 13, 14, 15] } }

end Sys2Proof.Machine
end

