-- ==== Sys2Proof/Machine/RegMap.lean ====
section
/-!
DEFINITION. The registers of the BZ-2560, field by field (one `Fld` per named field of every register table of
spec/03 to spec/23, in the tables' order), and the address map of spec/24 (R678) that places each register.
A field's arguments are the instance numbers its register carries (`LANE_CFG_EN n`, `SEM_HELD n`; for a register
banked per initiator the first argument is the initiator's ID). A reset value the spec gives as a dash is the
model's zero (DESIGN CHOICE, log 3).
-/

namespace Sys2Proof.Machine

/-- Fixed CRC channels 12 to 15 (R633, R634): the reflection flag. -/
def crcFixRef (k : Nat) : Nat := if k < 12 then 0 else if k = 13 then 0 else 1

/-- Fixed CRC channels (R633, R634): the width; 32 is the reset value of the others. -/
def crcFixW (k : Nat) : Nat := if k = 13 then 24 else 32

/-- Fixed CRC channels (R633, R634): the polynomial. -/
def crcFixPoly (k : Nat) : Nat := if k < 12 then 0 else if k = 13 then 0x864CFB else 0x1EDC6F41

/-- Fixed CRC channels (R633, R634): INIT, which equals XOROUT for both fixed algorithms. -/
def crcFixInit (k : Nat) : Nat := if k < 12 then 0 else if k = 13 then 0 else 0xFFFFFFFF

/-- A configuration field of a CRC channel: read-only on channels 12 to 15 (spec/21, CRC register table). -/
def crcCfgAcc (k : Nat) : Acc := if k < 12 then .rw else .ro

/-- Default HIGH thresholds of the rail-monitor ADC (R651); channel 15 has none (log 3). -/
def adcHighRst (n : Nat) : Nat :=
  [824, 824, 824, 927, 1260, 1260, 1890, 1854, 3465, 3600, 1050, 30, 1200, 1200, 612, 0].getD n 0

/-- Default LOW thresholds of the rail-monitor ADC (R651); channel 10 is -400 in 16-bit two's complement. -/
def adcLowRst (n : Nat) : Nat :=
  [776, 776, 776, 873, 1140, 1140, 1710, 1746, 3135, 2500, 65136, 0, 0, 0, 588, 0].getD n 0

end Sys2Proof.Machine

namespace Sys2Proof.Machine.R

/-! ## spec/03_clocks_and_power.md -/

abbrev CLK_STATUS_REF_OFFSET : Fld := ⟨⟨0, 0, 0, 16⟩, 16, 0, .ro, 0, 65535⟩
abbrev CLK_STATUS_AON_XTAL_OK : Fld := ⟨⟨0, 0, 0, 6⟩, 1, 1, .ro, 0, 1⟩
abbrev CLK_STATUS_REF_FREQ_ERR : Fld := ⟨⟨0, 0, 0, 5⟩, 1, 0, .ro, 0, 1⟩
abbrev CLK_STATUS_NETPLL_HOLD : Fld := ⟨⟨0, 0, 0, 4⟩, 1, 0, .ro, 0, 1⟩
abbrev CLK_STATUS_SYSPLL_HOLD : Fld := ⟨⟨0, 0, 0, 3⟩, 1, 0, .ro, 0, 1⟩
abbrev CLK_STATUS_NETPLL_LOCK : Fld := ⟨⟨0, 0, 0, 2⟩, 1, 1, .ro, 0, 1⟩
abbrev CLK_STATUS_SYSPLL_LOCK : Fld := ⟨⟨0, 0, 0, 1⟩, 1, 1, .ro, 0, 1⟩
abbrev CLK_STATUS_REF_PRESENT : Fld := ⟨⟨0, 0, 0, 0⟩, 1, 1, .ro, 0, 1⟩

abbrev CLK_EVENT_NETPLL_UNLOCK : Fld := ⟨⟨1, 0, 0, 3⟩, 1, 0, .w1c, 0, 1⟩
abbrev CLK_EVENT_REF_FREQ_ERR_S : Fld := ⟨⟨1, 0, 0, 2⟩, 1, 0, .w1c, 0, 1⟩
abbrev CLK_EVENT_REF_RESTORED : Fld := ⟨⟨1, 0, 0, 1⟩, 1, 0, .w1c, 0, 1⟩
abbrev CLK_EVENT_REF_LOST : Fld := ⟨⟨1, 0, 0, 0⟩, 1, 0, .w1c, 0, 1⟩

abbrev PD_CTRL_NET_ON : Fld := ⟨⟨2, 0, 0, 9⟩, 1, 1, .rw, 0, 1⟩
abbrev PD_CTRL_RADIO_ON : Fld := ⟨⟨2, 0, 0, 8⟩, 1, 1, .rw, 0, 1⟩
abbrev PD_CTRL_GNSS_ON : Fld := ⟨⟨2, 0, 0, 7⟩, 1, 1, .rw, 0, 1⟩
abbrev PD_CTRL_FIX_ON : Fld := ⟨⟨2, 0, 0, 6⟩, 1, 1, .rw, 0, 1⟩
abbrev PD_CTRL_CPU_B_ON : Fld := ⟨⟨2, 0, 0, 5⟩, 1, 1, .rw, 0, 1⟩

abbrev PD_STATUS_REFUSED : Fld := ⟨⟨3, 0, 0, 24⟩, 1, 0, .w1c, 0, 1⟩
abbrev PD_STATUS_BUSY : Fld := ⟨⟨3, 0, 0, 16⟩, 1, 0, .ro, 0, 1⟩
abbrev PD_STATUS_ON : Fld := ⟨⟨3, 0, 0, 0⟩, 10, 1023, .ro, 0, 1023⟩

abbrev NIGHT_CTRL_KEY : Fld := ⟨⟨4, 0, 0, 16⟩, 16, 0, .wo, 0, 65535⟩
abbrev NIGHT_CTRL_NIGHT_GO : Fld := ⟨⟨4, 0, 0, 0⟩, 1, 0, .wo, 0, 1⟩

abbrev WAKE_CAUSE_ATTEMPTS : Fld := ⟨⟨5, 0, 0, 8⟩, 2, 0, .ro, 0, 3⟩
abbrev WAKE_CAUSE_FROM_NIGHT : Fld := ⟨⟨5, 0, 0, 7⟩, 1, 0, .w1c, 0, 1⟩
abbrev WAKE_CAUSE_RAIL_FAIL : Fld := ⟨⟨5, 0, 0, 3⟩, 1, 0, .w1c, 0, 1⟩
abbrev WAKE_CAUSE_TAMPER : Fld := ⟨⟨5, 0, 0, 2⟩, 1, 0, .w1c, 0, 1⟩
abbrev WAKE_CAUSE_TIMER : Fld := ⟨⟨5, 0, 0, 1⟩, 1, 0, .w1c, 0, 1⟩
abbrev WAKE_CAUSE_PIN : Fld := ⟨⟨5, 0, 0, 0⟩, 1, 0, .w1c, 0, 1⟩

abbrev WAKE_TIMER_SECONDS : Fld := ⟨⟨6, 0, 0, 0⟩, 32, 0, .rw, 0, 4294967295⟩

/-! ## spec/04_reset_and_startup.md -/

abbrev RST_CAUSE_CAUSE : Fld := ⟨⟨7, 0, 0, 0⟩, 5, 0, .ro, 0, 31⟩

abbrev RST_SEEN_SEEN : Fld := ⟨⟨8, 0, 0, 0⟩, 19, 1, .ro, 0, 524287⟩

abbrev RST_CTRL_KEY : Fld := ⟨⟨9, 0, 0, 16⟩, 16, 0, .wo, 0, 65535⟩
abbrev RST_CTRL_COLD : Fld := ⟨⟨9, 0, 0, 2⟩, 1, 0, .wo, 0, 1⟩
abbrev RST_CTRL_WARM : Fld := ⟨⟨9, 0, 0, 1⟩, 1, 0, .wo, 0, 1⟩
abbrev RST_CTRL_SYS : Fld := ⟨⟨9, 0, 0, 0⟩, 1, 0, .wo, 0, 1⟩

abbrev STRAP_UNSTABLE : Fld := ⟨⟨10, 0, 0, 31⟩, 1, 0, .ro, 0, 1⟩
abbrev STRAP_RAW : Fld := ⟨⟨10, 0, 0, 12⟩, 4, 0, .ro, 0, 15⟩
abbrev STRAP_BOOT : Fld := ⟨⟨10, 0, 0, 8⟩, 2, 0, .ro, 0, 3⟩
abbrev STRAP_ROLE : Fld := ⟨⟨10, 0, 0, 5⟩, 1, 0, .ro, 0, 1⟩
abbrev STRAP_REC_IF : Fld := ⟨⟨10, 0, 0, 4⟩, 1, 0, .ro, 0, 1⟩
abbrev STRAP_CODE : Fld := ⟨⟨10, 0, 0, 0⟩, 4, 0, .ro, 0, 15⟩

abbrev TRIM_STATUS_WORD : Fld := ⟨⟨11, 0, 0, 16⟩, 8, 0, .ro, 0, 255⟩
abbrev TRIM_STATUS_ABORTS : Fld := ⟨⟨11, 0, 0, 12⟩, 4, 0, .ro, 0, 15⟩
abbrev TRIM_STATUS_FAILS : Fld := ⟨⟨11, 0, 0, 8⟩, 2, 0, .ro, 0, 3⟩
abbrev TRIM_STATUS_SAFE : Fld := ⟨⟨11, 0, 0, 2⟩, 1, 0, .ro, 0, 1⟩
abbrev TRIM_STATUS_LOADING : Fld := ⟨⟨11, 0, 0, 1⟩, 1, 0, .ro, 0, 1⟩
abbrev TRIM_STATUS_DONE : Fld := ⟨⟨11, 0, 0, 0⟩, 1, 0, .ro, 0, 1⟩

/-! ## spec/05_ply_and_castling.md -/

abbrev PLY_LO : Fld := ⟨⟨12, 0, 0, 0⟩, 32, 0, .ro, 0, 4294967295⟩

abbrev PLY_HI : Fld := ⟨⟨13, 0, 0, 0⟩, 32, 0, .ro, 0, 4294967295⟩

abbrev PLY_CYCLE_CYCLE : Fld := ⟨⟨14, 0, 0, 0⟩, 10, 0, .ro, 0, 1023⟩

abbrev CAST_CMD_ID (i : Nat) : Fld := ⟨⟨15, i, 0, 16⟩, 16, 0, .wo, 0, 65535⟩
abbrev CAST_CMD_WHEN (i : Nat) : Fld := ⟨⟨15, i, 0, 4⟩, 2, 0, .wo, 0, 3⟩
abbrev CAST_CMD_OP (i : Nat) : Fld := ⟨⟨15, i, 0, 0⟩, 3, 0, .wo, 1, 4⟩

abbrev CAST_ADDR_VALUE (i : Nat) : Fld := ⟨⟨16, i, 0, 0⟩, 32, 0, .rw, 0, 4294967295⟩

abbrev CAST_DATA_VALUE (i : Nat) : Fld := ⟨⟨17, i, 0, 0⟩, 32, 0, .rw, 0, 4294967295⟩

abbrev CAST_MASK_VALUE (i : Nat) : Fld := ⟨⟨18, i, 0, 0⟩, 32, 0, .rw, 0, 4294967295⟩

abbrev CAST_AT_LO_VALUE (i : Nat) : Fld := ⟨⟨19, i, 0, 0⟩, 32, 0, .rw, 0, 4294967295⟩

abbrev CAST_AT_HI_VALUE (i : Nat) : Fld := ⟨⟨20, i, 0, 0⟩, 32, 0, .rw, 0, 4294967295⟩

abbrev CAST_RESULT_ID (i : Nat) : Fld := ⟨⟨21, i, 0, 16⟩, 16, 0, .ro, 0, 65535⟩
abbrev CAST_RESULT_CODE (i : Nat) : Fld := ⟨⟨21, i, 0, 0⟩, 9, 0, .ro, 0, 511⟩

abbrev CAST_POOL_FREE_ENTRIES : Fld := ⟨⟨22, 0, 0, 16⟩, 11, 1024, .ro, 0, 2047⟩
abbrev CAST_POOL_OPEN : Fld := ⟨⟨22, 0, 0, 0⟩, 5, 0, .ro, 0, 31⟩

abbrev CAST_STAT_ID (i : Nat) : Fld := ⟨⟨23, i, 0, 16⟩, 16, 0, .ro, 0, 65535⟩
abbrev CAST_STAT_OWNER (i : Nat) : Fld := ⟨⟨23, i, 0, 8⟩, 6, 0, .ro, 0, 63⟩
abbrev CAST_STAT_STATE (i : Nat) : Fld := ⟨⟨23, i, 0, 0⟩, 3, 0, .ro, 0, 7⟩

abbrev CAST_INFO_ENTRIES (i : Nat) : Fld := ⟨⟨24, i, 0, 23⟩, 9, 0, .ro, 0, 511⟩
abbrev CAST_INFO_WHEN (i : Nat) : Fld := ⟨⟨24, i, 0, 21⟩, 2, 0, .ro, 0, 3⟩
abbrev CAST_INFO_CAUSE (i : Nat) : Fld := ⟨⟨24, i, 0, 16⟩, 3, 0, .ro, 0, 7⟩
abbrev CAST_INFO_FAIL_INDEX (i : Nat) : Fld := ⟨⟨24, i, 0, 8⟩, 8, 0, .ro, 0, 255⟩

abbrev SEM_HELD (i : Nat) : Fld := ⟨⟨25, i, 0, 31⟩, 1, 0, .ro, 0, 1⟩
abbrev SEM_OWNER_RESET (i : Nat) : Fld := ⟨⟨25, i, 0, 30⟩, 1, 0, .w1c, 0, 1⟩
abbrev SEM_BAD_RELEASE (i : Nat) : Fld := ⟨⟨25, i, 0, 29⟩, 1, 0, .w1c, 0, 1⟩
abbrev SEM_OWNER (i : Nat) : Fld := ⟨⟨25, i, 0, 8⟩, 6, 0, .ro, 0, 63⟩
abbrev SEM_RELEASE (i : Nat) : Fld := ⟨⟨25, i, 0, 1⟩, 1, 0, .wo, 0, 1⟩
abbrev SEM_TAKE (i : Nat) : Fld := ⟨⟨25, i, 0, 0⟩, 1, 0, .wo, 0, 1⟩

abbrev FW_BASE_ADDR (i : Nat) : Fld := ⟨⟨26, i, 0, 8⟩, 24, 0, .rwl, 0, 16777215⟩

abbrev FW_LIMIT_ADDR (i : Nat) : Fld := ⟨⟨27, i, 0, 8⟩, 24, 0, .rwl, 0, 16777215⟩

abbrev FW_RMASK_LO_MASK (i : Nat) : Fld := ⟨⟨28, i, 0, 0⟩, 32, 0, .rwl, 0, 4294967295⟩

abbrev FW_RMASK_HI_MASK (i : Nat) : Fld := ⟨⟨29, i, 0, 0⟩, 32, 0, .rwl, 0, 4294967295⟩

abbrev FW_WMASK_LO_MASK (i : Nat) : Fld := ⟨⟨30, i, 0, 0⟩, 32, 0, .rwl, 0, 4294967295⟩

abbrev FW_WMASK_HI_MASK (i : Nat) : Fld := ⟨⟨31, i, 0, 0⟩, 32, 0, .rwl, 0, 4294967295⟩

abbrev FW_CTRL_LOCK (i : Nat) : Fld := ⟨⟨32, i, 0, 31⟩, 1, 0, .w1s, 0, 1⟩
abbrev FW_CTRL_EN (i : Nat) : Fld := ⟨⟨32, i, 0, 0⟩, 1, 0, .rwl, 0, 1⟩

abbrev FW_STATUS_FW_VIOLATIONS : Fld := ⟨⟨33, 0, 0, 0⟩, 32, 0, .ro, 0, 4294967295⟩

/-! ## spec/06_command_protocol.md -/

abbrev ECP_CTRL_LOCK : Fld := ⟨⟨34, 0, 0, 31⟩, 1, 0, .w1s, 0, 1⟩
abbrev ECP_CTRL_ETH_EN : Fld := ⟨⟨34, 0, 0, 24⟩, 6, 0, .rwl, 0, 63⟩
abbrev ECP_CTRL_SPI_EN : Fld := ⟨⟨34, 0, 0, 23⟩, 1, 0, .rwl, 0, 1⟩
abbrev ECP_CTRL_AUTH_REQ : Fld := ⟨⟨34, 0, 0, 22⟩, 1, 1, .rwl, 0, 1⟩
abbrev ECP_CTRL_UDP_PORT : Fld := ⟨⟨34, 0, 0, 0⟩, 16, 18400, .rwl, 0, 65535⟩

abbrev ECP_STATE_STREAMS : Fld := ⟨⟨35, 0, 0, 24⟩, 5, 0, .ro, 0, 31⟩
abbrev ECP_STATE_SESSIONS : Fld := ⟨⟨35, 0, 0, 16⟩, 4, 0, .ro, 0, 15⟩
abbrev ECP_STATE_IN_PROGRESS : Fld := ⟨⟨35, 0, 0, 0⟩, 9, 0, .ro, 0, 511⟩

abbrev ECP_CNT_A_DROP_FRAME : Fld := ⟨⟨36, 0, 0, 16⟩, 16, 0, .rc, 0, 65535⟩
abbrev ECP_CNT_A_DROP_CHECK : Fld := ⟨⟨36, 0, 0, 0⟩, 16, 0, .rc, 0, 65535⟩

abbrev ECP_CNT_B_DROP_REPLAY : Fld := ⟨⟨37, 0, 0, 16⟩, 16, 0, .rc, 0, 65535⟩
abbrev ECP_CNT_B_QUEUE_FULL : Fld := ⟨⟨37, 0, 0, 0⟩, 16, 0, .rc, 0, 65535⟩

abbrev ECP_CNT_C_STREAM_LOST : Fld := ⟨⟨38, 0, 0, 16⟩, 16, 0, .rc, 0, 65535⟩
abbrev ECP_CNT_C_SESSION_FULL : Fld := ⟨⟨38, 0, 0, 0⟩, 16, 0, .rc, 0, 65535⟩

/-! ## spec/07_gnss_frontend_acquisition.md -/

abbrev FE_CTRL_EN (i : Nat) : Fld := ⟨⟨39, i, 0, 31⟩, 1, 0, .rw, 0, 1⟩
abbrev FE_CTRL_DC_REMOVE (i : Nat) : Fld := ⟨⟨39, i, 0, 30⟩, 1, 1, .rw, 0, 1⟩
abbrev FE_CTRL_BIAS_EN (i : Nat) : Fld := ⟨⟨39, i, 0, 29⟩, 1, 0, .rw, 0, 1⟩
abbrev FE_CTRL_AGC_L5 (i : Nat) : Fld := ⟨⟨39, i, 0, 28⟩, 1, 1, .rw, 0, 1⟩
abbrev FE_CTRL_AGC_L1 (i : Nat) : Fld := ⟨⟨39, i, 0, 27⟩, 1, 1, .rw, 0, 1⟩
abbrev FE_CTRL_FE_RESET (i : Nat) : Fld := ⟨⟨39, i, 0, 26⟩, 1, 0, .rw, 0, 1⟩
abbrev FE_CTRL_AGC_TARGET (i : Nat) : Fld := ⟨⟨39, i, 0, 16⟩, 8, 77, .rw, 0, 255⟩
abbrev FE_CTRL_GAIN_L5 (i : Nat) : Fld := ⟨⟨39, i, 0, 8⟩, 6, 0, .rw, 0, 63⟩
abbrev FE_CTRL_GAIN_L1 (i : Nat) : Fld := ⟨⟨39, i, 0, 0⟩, 6, 0, .rw, 0, 63⟩

abbrev FE_STATUS_LINK (i : Nat) : Fld := ⟨⟨40, i, 0, 30⟩, 2, 0, .ro, 0, 3⟩
abbrev FE_STATUS_CTL_PEND (i : Nat) : Fld := ⟨⟨40, i, 0, 29⟩, 1, 0, .ro, 0, 1⟩
abbrev FE_STATUS_FE_PLL_LOCK (i : Nat) : Fld := ⟨⟨40, i, 0, 28⟩, 1, 0, .ro, 0, 1⟩
abbrev FE_STATUS_BIAS_ON (i : Nat) : Fld := ⟨⟨40, i, 0, 27⟩, 1, 0, .ro, 0, 1⟩
abbrev FE_STATUS_OVR_L5 (i : Nat) : Fld := ⟨⟨40, i, 0, 26⟩, 1, 0, .ro, 0, 1⟩
abbrev FE_STATUS_OVR_L1 (i : Nat) : Fld := ⟨⟨40, i, 0, 25⟩, 1, 0, .ro, 0, 1⟩
abbrev FE_STATUS_TEMP (i : Nat) : Fld := ⟨⟨40, i, 0, 16⟩, 8, 0, .ro, 0, 255⟩
abbrev FE_STATUS_GAIN_L5 (i : Nat) : Fld := ⟨⟨40, i, 0, 8⟩, 6, 0, .ro, 0, 63⟩
abbrev FE_STATUS_GAIN_L1 (i : Nat) : Fld := ⟨⟨40, i, 0, 0⟩, 6, 0, .ro, 0, 63⟩

abbrev FE_LINK_CTL_SEQ (i : Nat) : Fld := ⟨⟨41, i, 0, 24⟩, 8, 0, .ro, 0, 255⟩
abbrev FE_LINK_CTL_ACK (i : Nat) : Fld := ⟨⟨41, i, 0, 16⟩, 8, 0, .ro, 0, 255⟩
abbrev FE_LINK_FIFO_LAT (i : Nat) : Fld := ⟨⟨41, i, 0, 0⟩, 16, 0, .ro, 0, 65535⟩

abbrev FE_CNT_ALIGN_ERR (i : Nat) : Fld := ⟨⟨42, i, 0, 16⟩, 16, 0, .rc, 0, 65535⟩
abbrev FE_CNT_CRC_ERR (i : Nat) : Fld := ⟨⟨42, i, 0, 8⟩, 8, 0, .rc, 0, 255⟩
abbrev FE_CNT_RELOCKS (i : Nat) : Fld := ⟨⟨42, i, 0, 0⟩, 8, 0, .rc, 0, 255⟩

abbrev FE_IF_L1_IF (i : Nat) : Fld := ⟨⟨43, i, 0, 0⟩, 32, 0, .rwt, 0, 4294967295⟩

abbrev FE_IF_L5_IF (i : Nat) : Fld := ⟨⟨44, i, 0, 0⟩, 32, 0, .rwt, 0, 4294967295⟩

abbrev ANT_CFG_AUTO_OFF (i : Nat) : Fld := ⟨⟨45, i, 0, 31⟩, 1, 0, .rw, 0, 1⟩
abbrev ANT_CFG_RETRY_S (i : Nat) : Fld := ⟨⟨45, i, 0, 24⟩, 7, 10, .rw, 0, 127⟩
abbrev ANT_CFG_SHORT_MA (i : Nat) : Fld := ⟨⟨45, i, 0, 12⟩, 12, 900, .rw, 0, 4095⟩
abbrev ANT_CFG_OPEN_MA (i : Nat) : Fld := ⟨⟨45, i, 0, 0⟩, 12, 50, .rw, 0, 4095⟩

abbrev ANT_STATUS_STATE (i : Nat) : Fld := ⟨⟨46, i, 0, 29⟩, 3, 0, .ro, 0, 7⟩
abbrev ANT_STATUS_CHANGED (i : Nat) : Fld := ⟨⟨46, i, 0, 28⟩, 1, 0, .w1c, 0, 1⟩
abbrev ANT_STATUS_TRIPS (i : Nat) : Fld := ⟨⟨46, i, 0, 16⟩, 8, 0, .rc, 0, 255⟩
abbrev ANT_STATUS_CURRENT (i : Nat) : Fld := ⟨⟨46, i, 0, 0⟩, 11, 0, .ro, 0, 2047⟩

abbrev CAL_CTRL_EN (i : Nat) : Fld := ⟨⟨47, i, 0, 31⟩, 1, 0, .rw, 0, 1⟩
abbrev CAL_CTRL_STEP (i : Nat) : Fld := ⟨⟨47, i, 0, 16⟩, 8, 20, .rw, 0, 255⟩
abbrev CAL_CTRL_INJ_SKEW (i : Nat) : Fld := ⟨⟨47, i, 0, 0⟩, 16, 0, .rw, 0, 65535⟩

abbrev CAL_FWD_FWD (i : Nat) : Fld := ⟨⟨48, i, 0, 0⟩, 32, 0, .rw, 0, 4294967295⟩

abbrev CAL_LOOP_L1_LOOP (i : Nat) : Fld := ⟨⟨49, i, 0, 0⟩, 32, 0, .ro, 0, 4294967295⟩

abbrev CAL_LOOP_L5_LOOP (i : Nat) : Fld := ⟨⟨50, i, 0, 0⟩, 32, 0, .ro, 0, 4294967295⟩

abbrev CAL_IFB_IFB (i : Nat) : Fld := ⟨⟨51, i, 0, 0⟩, 32, 0, .ro, 0, 4294967295⟩

abbrev CAL_RX_L1_RX_DELAY (i : Nat) : Fld := ⟨⟨52, i, 0, 0⟩, 32, 0, .ro, 0, 4294967295⟩

abbrev CAL_RX_L5_RX_DELAY (i : Nat) : Fld := ⟨⟨53, i, 0, 0⟩, 32, 0, .ro, 0, 4294967295⟩

abbrev CAL_STATUS_VALID_L1 (i : Nat) : Fld := ⟨⟨54, i, 0, 31⟩, 1, 0, .ro, 0, 1⟩
abbrev CAL_STATUS_VALID_L5 (i : Nat) : Fld := ⟨⟨54, i, 0, 30⟩, 1, 0, .ro, 0, 1⟩
abbrev CAL_STATUS_STEP (i : Nat) : Fld := ⟨⟨54, i, 0, 29⟩, 1, 0, .w1c, 0, 1⟩
abbrev CAL_STATUS_CN0_L5 (i : Nat) : Fld := ⟨⟨54, i, 0, 16⟩, 8, 0, .ro, 0, 255⟩
abbrev CAL_STATUS_CN0_L1 (i : Nat) : Fld := ⟨⟨54, i, 0, 8⟩, 8, 0, .ro, 0, 255⟩
abbrev CAL_STATUS_AGE (i : Nat) : Fld := ⟨⟨54, i, 0, 0⟩, 8, 0, .ro, 0, 255⟩

abbrev ACQ_CTRL_EN : Fld := ⟨⟨55, 0, 0, 31⟩, 1, 0, .rw, 0, 1⟩
abbrev ACQ_CTRL_VERIFY_N : Fld := ⟨⟨55, 0, 0, 12⟩, 4, 4, .rw, 0, 15⟩
abbrev ACQ_CTRL_VERIFY_M : Fld := ⟨⟨55, 0, 0, 8⟩, 4, 3, .rw, 0, 15⟩
abbrev ACQ_CTRL_EXCLUDE : Fld := ⟨⟨55, 0, 0, 0⟩, 8, 16, .rw, 0, 255⟩

abbrev ACQ_REFTOL_PPB : Fld := ⟨⟨56, 0, 0, 0⟩, 16, 2000, .rw, 0, 65535⟩

abbrev ACQ_STATUS_BUSY : Fld := ⟨⟨57, 0, 0, 31⟩, 1, 0, .ro, 0, 1⟩
abbrev ACQ_STATUS_ENTRY : Fld := ⟨⟨57, 0, 0, 0⟩, 6, 0, .ro, 0, 63⟩

abbrev ACQ_CNT_FOUND : Fld := ⟨⟨58, 0, 0, 16⟩, 16, 0, .rc, 0, 65535⟩
abbrev ACQ_CNT_VERIFY_FAIL : Fld := ⟨⟨58, 0, 0, 0⟩, 16, 0, .rc, 0, 65535⟩

abbrev ACQ_THRESH_THRESH (i : Nat) : Fld := ⟨⟨59, i, 0, 0⟩, 16, 0, .rw, 0, 65535⟩

abbrev ACQ_ENT_W0_REACQ (i : Nat) : Fld := ⟨⟨60, i, 0, 31⟩, 1, 0, .rw, 0, 1⟩
abbrev ACQ_ENT_W0_WIPE (i : Nat) : Fld := ⟨⟨60, i, 0, 30⟩, 1, 0, .rw, 0, 1⟩
abbrev ACQ_ENT_W0_FE (i : Nat) : Fld := ⟨⟨60, i, 0, 29⟩, 1, 0, .rw, 0, 1⟩
abbrev ACQ_ENT_W0_SIGNAL (i : Nat) : Fld := ⟨⟨60, i, 0, 25⟩, 4, 0, .rw, 0, 8⟩
abbrev ACQ_ENT_W0_PRN (i : Nat) : Fld := ⟨⟨60, i, 0, 17⟩, 8, 0, .rw, 0, 255⟩
abbrev ACQ_ENT_W0_CHANNEL (i : Nat) : Fld := ⟨⟨60, i, 0, 9⟩, 8, 0, .rw, 0, 255⟩
abbrev ACQ_ENT_W0_NNC (i : Nat) : Fld := ⟨⟨60, i, 0, 4⟩, 5, 0, .rw, 0, 31⟩
abbrev ACQ_ENT_W0_TCOH_MS (i : Nat) : Fld := ⟨⟨60, i, 0, 0⟩, 4, 0, .rw, 0, 15⟩

abbrev ACQ_ENT_W1_CODE_START (i : Nat) : Fld := ⟨⟨61, i, 0, 16⟩, 16, 0, .rw, 0, 65535⟩
abbrev ACQ_ENT_W1_CODE_CELLS (i : Nat) : Fld := ⟨⟨61, i, 0, 0⟩, 16, 0, .rw, 0, 65535⟩

abbrev ACQ_ENT_W2_DOPP_CENTRE (i : Nat) : Fld := ⟨⟨62, i, 0, 16⟩, 16, 0, .rw, 0, 65535⟩
abbrev ACQ_ENT_W2_DOPP_HALF (i : Nat) : Fld := ⟨⟨62, i, 0, 0⟩, 16, 0, .rw, 0, 65535⟩

abbrev ACQ_ENT_W3_STATE (i : Nat) : Fld := ⟨⟨63, i, 0, 29⟩, 3, 0, .rw, 0, 7⟩
abbrev ACQ_ENT_W3_CAUSE (i : Nat) : Fld := ⟨⟨63, i, 0, 26⟩, 3, 0, .ro, 0, 7⟩

abbrev ACQ_RES_W0_CELL (i : Nat) : Fld := ⟨⟨64, i, 0, 16⟩, 16, 0, .ro, 0, 65535⟩
abbrev ACQ_RES_W0_DOPP (i : Nat) : Fld := ⟨⟨64, i, 0, 0⟩, 16, 0, .ro, 0, 65535⟩

abbrev ACQ_RES_W1_PEAK (i : Nat) : Fld := ⟨⟨65, i, 0, 16⟩, 16, 0, .ro, 0, 65535⟩
abbrev ACQ_RES_W1_DWELLS (i : Nat) : Fld := ⟨⟨65, i, 0, 0⟩, 16, 0, .ro, 0, 65535⟩

/-! ## spec/08_gnss_tracking_observations.md -/

abbrev CH_CTRL_CMD (i : Nat) : Fld := ⟨⟨66, i, 0, 0⟩, 3, 0, .wo, 1, 2⟩

abbrev CH_CFG_BUMP_EN (i : Nat) : Fld := ⟨⟨67, i, 0, 31⟩, 1, 1, .rw, 0, 1⟩
abbrev CH_CFG_FE (i : Nat) : Fld := ⟨⟨67, i, 0, 30⟩, 1, 0, .rw, 0, 1⟩
abbrev CH_CFG_SIGNAL (i : Nat) : Fld := ⟨⟨67, i, 0, 26⟩, 4, 0, .rw, 0, 8⟩
abbrev CH_CFG_PRN (i : Nat) : Fld := ⟨⟨67, i, 0, 18⟩, 8, 0, .rw, 0, 255⟩
abbrev CH_CFG_TINT_MS (i : Nat) : Fld := ⟨⟨67, i, 0, 13⟩, 5, 1, .rw, 0, 31⟩

abbrev CH_SPACING_VEL (i : Nat) : Fld := ⟨⟨68, i, 0, 8⟩, 8, 32, .rwt, 4, 127⟩
abbrev CH_SPACING_EL (i : Nat) : Fld := ⟨⟨68, i, 0, 0⟩, 7, 32, .rwt, 4, 64⟩

abbrev CH_LOCK_PLI_ON (i : Nat) : Fld := ⟨⟨69, i, 0, 24⟩, 8, 205, .rw, 0, 255⟩
abbrev CH_LOCK_PLI_OFF (i : Nat) : Fld := ⟨⟨69, i, 0, 16⟩, 8, 154, .rw, 0, 255⟩
abbrev CH_LOCK_CN0_MIN (i : Nat) : Fld := ⟨⟨69, i, 0, 8⟩, 8, 50, .rw, 0, 255⟩
abbrev CH_LOCK_CN0_N (i : Nat) : Fld := ⟨⟨69, i, 0, 0⟩, 8, 100, .rw, 1, 255⟩

abbrev CH_TIME_PULL_MAX_MS (i : Nat) : Fld := ⟨⟨70, i, 0, 16⟩, 16, 1000, .rw, 0, 65535⟩
abbrev CH_TIME_PULL_MS (i : Nat) : Fld := ⟨⟨70, i, 0, 0⟩, 16, 50, .rw, 0, 65535⟩

abbrev CH_TIME2_BUMP_N (i : Nat) : Fld := ⟨⟨71, i, 0, 24⟩, 8, 20, .rw, 0, 255⟩
abbrev CH_TIME2_LOSS_MS (i : Nat) : Fld := ⟨⟨71, i, 0, 0⟩, 16, 500, .rw, 0, 65535⟩

abbrev CH_SET_CODE_CODE (i : Nat) : Fld := ⟨⟨72, i, 0, 0⟩, 32, 0, .rw, 0, 4294967295⟩

abbrev CH_SET_DOPP_DOPP (i : Nat) : Fld := ⟨⟨73, i, 0, 0⟩, 32, 0, .rw, 0, 4294967295⟩

abbrev CH_C1_COEF (i : Nat) : Fld := ⟨⟨74, i, 0, 0⟩, 32, 0, .rwt, 0, 4294967295⟩

abbrev CH_K1_COEF (i : Nat) : Fld := ⟨⟨75, i, 0, 0⟩, 32, 0, .rwt, 0, 4294967295⟩

abbrev CH_C2_COEF (i : Nat) : Fld := ⟨⟨76, i, 0, 0⟩, 32, 0, .rwt, 0, 4294967295⟩

abbrev CH_C3_COEF (i : Nat) : Fld := ⟨⟨77, i, 0, 0⟩, 32, 0, .rwt, 0, 4294967295⟩

abbrev CH_F1_COEF (i : Nat) : Fld := ⟨⟨78, i, 0, 0⟩, 32, 0, .rwt, 0, 4294967295⟩

abbrev CH_F2_COEF (i : Nat) : Fld := ⟨⟨79, i, 0, 0⟩, 32, 0, .rwt, 0, 4294967295⟩

abbrev CH_K2_COEF (i : Nat) : Fld := ⟨⟨80, i, 0, 0⟩, 32, 0, .rwt, 0, 4294967295⟩

abbrev CH_STATUS_STATE (i : Nat) : Fld := ⟨⟨81, i, 0, 29⟩, 3, 0, .ro, 0, 7⟩
abbrev CH_STATUS_LOST (i : Nat) : Fld := ⟨⟨81, i, 0, 28⟩, 1, 0, .w1c, 0, 1⟩
abbrev CH_STATUS_LOSS_CAUSE (i : Nat) : Fld := ⟨⟨81, i, 0, 25⟩, 3, 0, .ro, 0, 7⟩
abbrev CH_STATUS_TINT_NOW (i : Nat) : Fld := ⟨⟨81, i, 0, 20⟩, 5, 0, .ro, 0, 31⟩
abbrev CH_STATUS_TIME_LEVEL (i : Nat) : Fld := ⟨⟨81, i, 0, 18⟩, 2, 0, .ro, 0, 3⟩
abbrev CH_STATUS_CODE_LOCK (i : Nat) : Fld := ⟨⟨81, i, 0, 17⟩, 1, 0, .ro, 0, 1⟩
abbrev CH_STATUS_CARR_LOCK (i : Nat) : Fld := ⟨⟨81, i, 0, 16⟩, 1, 0, .ro, 0, 1⟩
abbrev CH_STATUS_BIT_SYNC (i : Nat) : Fld := ⟨⟨81, i, 0, 15⟩, 1, 0, .ro, 0, 1⟩
abbrev CH_STATUS_SEC_SYNC (i : Nat) : Fld := ⟨⟨81, i, 0, 14⟩, 1, 0, .ro, 0, 1⟩
abbrev CH_STATUS_NAV_SYNC (i : Nat) : Fld := ⟨⟨81, i, 0, 13⟩, 1, 0, .ro, 0, 1⟩
abbrev CH_STATUS_HALF_UNRES (i : Nat) : Fld := ⟨⟨81, i, 0, 12⟩, 1, 0, .ro, 0, 1⟩
abbrev CH_STATUS_PLL_ON (i : Nat) : Fld := ⟨⟨81, i, 0, 11⟩, 1, 0, .ro, 0, 1⟩

abbrev CH_CN0_PLI (i : Nat) : Fld := ⟨⟨82, i, 0, 16⟩, 16, 0, .ro, 0, 65535⟩
abbrev CH_CN0_CN0 (i : Nat) : Fld := ⟨⟨82, i, 0, 0⟩, 16, 0, .ro, 0, 65535⟩

abbrev CH_DOPP_DOPP (i : Nat) : Fld := ⟨⟨83, i, 0, 0⟩, 32, 0, .ro, 0, 4294967295⟩

abbrev CH_CODE_CODE (i : Nat) : Fld := ⟨⟨84, i, 0, 0⟩, 32, 0, .ro, 0, 4294967295⟩

abbrev CH_CARR_LO_PHASE (i : Nat) : Fld := ⟨⟨85, i, 0, 0⟩, 32, 0, .ro, 0, 4294967295⟩

abbrev CH_CARR_HI_PHASE (i : Nat) : Fld := ⟨⟨86, i, 0, 0⟩, 32, 0, .ro, 0, 4294967295⟩

abbrev CH_LOCKT_LOCK_MS (i : Nat) : Fld := ⟨⟨87, i, 0, 0⟩, 32, 0, .ro, 0, 4294967295⟩

abbrev CH_CNT_SLIP_CNT (i : Nat) : Fld := ⟨⟨88, i, 0, 16⟩, 16, 0, .ro, 0, 65535⟩
abbrev CH_CNT_BUMPS (i : Nat) : Fld := ⟨⟨88, i, 0, 8⟩, 8, 0, .rc, 0, 255⟩
abbrev CH_CNT_OVERRUN (i : Nat) : Fld := ⟨⟨88, i, 0, 0⟩, 8, 0, .rc, 0, 255⟩

abbrev ACC_P_I (i : Nat) : Fld := ⟨⟨89, i, 0, 16⟩, 16, 0, .ro, 0, 65535⟩
abbrev ACC_P_Q (i : Nat) : Fld := ⟨⟨89, i, 0, 0⟩, 16, 0, .ro, 0, 65535⟩

abbrev ACC_E_I (i : Nat) : Fld := ⟨⟨90, i, 0, 16⟩, 16, 0, .ro, 0, 65535⟩
abbrev ACC_E_Q (i : Nat) : Fld := ⟨⟨90, i, 0, 0⟩, 16, 0, .ro, 0, 65535⟩

abbrev ACC_L_I (i : Nat) : Fld := ⟨⟨91, i, 0, 16⟩, 16, 0, .ro, 0, 65535⟩
abbrev ACC_L_Q (i : Nat) : Fld := ⟨⟨91, i, 0, 0⟩, 16, 0, .ro, 0, 65535⟩

abbrev ACC_VE_I (i : Nat) : Fld := ⟨⟨92, i, 0, 16⟩, 16, 0, .ro, 0, 65535⟩
abbrev ACC_VE_Q (i : Nat) : Fld := ⟨⟨92, i, 0, 0⟩, 16, 0, .ro, 0, 65535⟩

abbrev ACC_VL_I (i : Nat) : Fld := ⟨⟨93, i, 0, 16⟩, 16, 0, .ro, 0, 65535⟩
abbrev ACC_VL_Q (i : Nat) : Fld := ⟨⟨93, i, 0, 0⟩, 16, 0, .ro, 0, 65535⟩

abbrev ACC_N_I (i : Nat) : Fld := ⟨⟨94, i, 0, 16⟩, 16, 0, .ro, 0, 65535⟩
abbrev ACC_N_Q (i : Nat) : Fld := ⟨⟨94, i, 0, 0⟩, 16, 0, .ro, 0, 65535⟩

abbrev ACC_PD_I (i : Nat) : Fld := ⟨⟨95, i, 0, 16⟩, 16, 0, .ro, 0, 65535⟩
abbrev ACC_PD_Q (i : Nat) : Fld := ⟨⟨95, i, 0, 0⟩, 16, 0, .ro, 0, 65535⟩

abbrev OBS_CTRL_EN : Fld := ⟨⟨96, 0, 0, 31⟩, 1, 0, .rwt, 0, 1⟩
abbrev OBS_CTRL_RATE : Fld := ⟨⟨96, 0, 0, 0⟩, 3, 3, .rwt, 0, 4⟩

abbrev OBS_STATUS_FORMING : Fld := ⟨⟨97, 0, 0, 31⟩, 1, 0, .ro, 0, 1⟩
abbrev OBS_STATUS_LATEST : Fld := ⟨⟨97, 0, 0, 0⟩, 2, 0, .ro, 0, 3⟩

abbrev OBS_SEQ_SEQ : Fld := ⟨⟨98, 0, 0, 0⟩, 32, 0, .ro, 0, 4294967295⟩

abbrev NAV_HEAD_SEQ : Fld := ⟨⟨99, 0, 0, 0⟩, 32, 0, .ro, 0, 4294967295⟩

abbrev BANK_CNT_OVERRUN (i : Nat) : Fld := ⟨⟨100, i, 0, 16⟩, 16, 0, .rc, 0, 65535⟩
abbrev BANK_CNT_LATE (i : Nat) : Fld := ⟨⟨100, i, 0, 0⟩, 16, 0, .rc, 0, 65535⟩

/-! ## spec/09_time_and_ptp.md -/

abbrev TIME_SEC_LO_SEC : Fld := ⟨⟨101, 0, 0, 0⟩, 32, 0, .ro, 0, 4294967295⟩

abbrev TIME_SEC_HI_SEC : Fld := ⟨⟨102, 0, 0, 0⟩, 16, 0, .ro, 0, 65535⟩

abbrev TIME_NS_NS : Fld := ⟨⟨103, 0, 0, 0⟩, 30, 0, .ro, 0, 1073741823⟩

abbrev TIME_FRAC_FRAC : Fld := ⟨⟨104, 0, 0, 0⟩, 16, 0, .ro, 0, 65535⟩

abbrev TIME_ADDEND_ADDEND : Fld := ⟨⟨105, 0, 0, 0⟩, 32, 671088640, .rwt, 0, 4294967295⟩

abbrev STEP_S_DELTA_S : Fld := ⟨⟨106, 0, 0, 0⟩, 32, 0, .rw, 0, 4294967295⟩

abbrev STEP_NS_DELTA_NS : Fld := ⟨⟨107, 0, 0, 0⟩, 32, 0, .rw, 0, 4294967295⟩

abbrev STEP_CTRL_KEY : Fld := ⟨⟨108, 0, 0, 16⟩, 16, 0, .wo, 0, 65535⟩
abbrev STEP_CTRL_ACCEPT : Fld := ⟨⟨108, 0, 0, 2⟩, 1, 0, .wo, 0, 1⟩
abbrev STEP_CTRL_BACK : Fld := ⟨⟨108, 0, 0, 1⟩, 1, 0, .wo, 0, 1⟩
abbrev STEP_CTRL_ARM : Fld := ⟨⟨108, 0, 0, 0⟩, 1, 0, .wo, 0, 1⟩

abbrev TIME_STATUS_TIME_GEN : Fld := ⟨⟨109, 0, 0, 16⟩, 16, 0, .ro, 0, 65535⟩
abbrev TIME_STATUS_SOURCE : Fld := ⟨⟨109, 0, 0, 12⟩, 4, 0, .ro, 0, 15⟩
abbrev TIME_STATUS_VALID : Fld := ⟨⟨109, 0, 0, 11⟩, 1, 0, .ro, 0, 1⟩
abbrev TIME_STATUS_HOLDOVER : Fld := ⟨⟨109, 0, 0, 10⟩, 1, 0, .ro, 0, 1⟩
abbrev TIME_STATUS_STEP_ARMED : Fld := ⟨⟨109, 0, 0, 9⟩, 1, 0, .ro, 0, 1⟩
abbrev TIME_STATUS_STEP_ANNOUNCED : Fld := ⟨⟨109, 0, 0, 8⟩, 1, 0, .ro, 0, 1⟩
abbrev TIME_STATUS_BACK_PENDING : Fld := ⟨⟨109, 0, 0, 7⟩, 1, 0, .ro, 0, 1⟩
abbrev TIME_STATUS_SHIFT_PENDING : Fld := ⟨⟨109, 0, 0, 6⟩, 1, 0, .ro, 0, 1⟩
abbrev TIME_STATUS_LEAP61 : Fld := ⟨⟨109, 0, 0, 5⟩, 1, 0, .ro, 0, 1⟩
abbrev TIME_STATUS_LEAP59 : Fld := ⟨⟨109, 0, 0, 4⟩, 1, 0, .ro, 0, 1⟩
abbrev TIME_STATUS_UTC_VALID : Fld := ⟨⟨109, 0, 0, 3⟩, 1, 0, .ro, 0, 1⟩

abbrev TIME_ERR_EST : Fld := ⟨⟨110, 0, 0, 0⟩, 32, 4294967295, .ro, 0, 4294967295⟩

abbrev SRC_OFFSET_D : Fld := ⟨⟨111, 0, 0, 0⟩, 32, 0, .ro, 0, 4294967295⟩

abbrev TIME_CNT_OUTLIER : Fld := ⟨⟨112, 0, 0, 16⟩, 16, 0, .rc, 0, 65535⟩
abbrev TIME_CNT_SWITCHES : Fld := ⟨⟨112, 0, 0, 0⟩, 16, 0, .rc, 0, 65535⟩

abbrev REF_CFG_JUMP_US : Fld := ⟨⟨113, 0, 0, 16⟩, 16, 100, .rw, 0, 65535⟩
abbrev REF_CFG_P1 : Fld := ⟨⟨113, 0, 0, 12⟩, 4, 1, .rw, 0, 4⟩
abbrev REF_CFG_P2 : Fld := ⟨⟨113, 0, 0, 8⟩, 4, 2, .rw, 0, 4⟩
abbrev REF_CFG_P3 : Fld := ⟨⟨113, 0, 0, 4⟩, 4, 3, .rw, 0, 4⟩
abbrev REF_CFG_P4 : Fld := ⟨⟨113, 0, 0, 0⟩, 4, 4, .rw, 0, 4⟩

abbrev HOLD_CFG_AGING : Fld := ⟨⟨114, 0, 0, 16⟩, 16, 256, .rw, 0, 65535⟩
abbrev HOLD_CFG_HOLD_SPEC : Fld := ⟨⟨114, 0, 0, 0⟩, 16, 1000, .rw, 0, 65535⟩

abbrev DOM_STATUS_STATE (i : Nat) : Fld := ⟨⟨115, i, 0, 30⟩, 2, 0, .ro, 0, 3⟩
abbrev DOM_STATUS_DOMAIN (i : Nat) : Fld := ⟨⟨115, i, 0, 0⟩, 8, 0, .ro, 0, 255⟩

abbrev DOM_OFFSET_OFFSET (i : Nat) : Fld := ⟨⟨116, i, 0, 0⟩, 32, 0, .ro, 0, 4294967295⟩

abbrev DOM_ASYM_ASYM (i : Nat) : Fld := ⟨⟨117, i, 0, 0⟩, 32, 0, .ro, 0, 4294967295⟩

abbrev PPSIN_OFFSET_OFFSET : Fld := ⟨⟨118, 0, 0, 0⟩, 32, 0, .ro, 0, 4294967295⟩

abbrev DOM_GM_STATUS_FOREIGN_BETTER : Fld := ⟨⟨119, 0, 0, 0⟩, 1, 0, .w1c, 0, 1⟩

abbrev GRID_PHASE_PHI : Fld := ⟨⟨120, 0, 0, 0⟩, 32, 0, .ro, 0, 4294967295⟩

abbrev SHIFT_SFN_S : Fld := ⟨⟨121, 0, 0, 0⟩, 32, 0, .ro, 0, 4294967295⟩

abbrev PPS_CFG_EN (i : Nat) : Fld := ⟨⟨122, i, 0, 31⟩, 1, 0, .rw, 0, 1⟩
abbrev PPS_CFG_MODE (i : Nat) : Fld := ⟨⟨122, i, 0, 29⟩, 2, 0, .rw, 0, 1⟩
abbrev PPS_CFG_WIDTH_US (i : Nat) : Fld := ⟨⟨122, i, 0, 0⟩, 19, 100000, .rw, 1, 500000⟩

abbrev PPS_OFS_OFS (i : Nat) : Fld := ⟨⟨123, i, 0, 0⟩, 32, 0, .rw, 0, 4294967295⟩

abbrev PPSIN_SEC_SEC : Fld := ⟨⟨124, 0, 0, 0⟩, 32, 0, .ro, 0, 4294967295⟩

abbrev PPSIN_NS_NEW : Fld := ⟨⟨125, 0, 0, 31⟩, 1, 0, .w1c, 0, 1⟩
abbrev PPSIN_NS_NS : Fld := ⟨⟨125, 0, 0, 0⟩, 30, 0, .ro, 0, 1073741823⟩

abbrev ETH_CFG_EN (i : Nat) : Fld := ⟨⟨126, i, 0, 31⟩, 1, 0, .rw, 0, 1⟩
abbrev ETH_CFG_AN_EN (i : Nat) : Fld := ⟨⟨126, i, 0, 30⟩, 1, 1, .rw, 0, 1⟩
abbrev ETH_CFG_SPEED (i : Nat) : Fld := ⟨⟨126, i, 0, 26⟩, 2, 0, .ro, 0, 3⟩
abbrev ETH_CFG_LINK (i : Nat) : Fld := ⟨⟨126, i, 0, 25⟩, 1, 0, .ro, 0, 1⟩

abbrev ETH_MAC_LO_MAC (i : Nat) : Fld := ⟨⟨127, i, 0, 0⟩, 32, 0, .rw, 0, 4294967295⟩

abbrev ETH_MAC_HI_MAC (i : Nat) : Fld := ⟨⟨128, i, 0, 0⟩, 16, 0, .rw, 0, 65535⟩

abbrev ETH_TS_CTRL_CORR_EN (i : Nat) : Fld := ⟨⟨129, i, 0, 31⟩, 1, 1, .rw, 0, 1⟩

abbrev ETH_CORR_EGRESS (i : Nat) : Fld := ⟨⟨130, i, 0, 16⟩, 16, 7200, .ro, 0, 65535⟩
abbrev ETH_CORR_INGRESS (i : Nat) : Fld := ⟨⟨130, i, 0, 0⟩, 16, 11200, .ro, 0, 65535⟩

abbrev ETH_TXTS_STATUS_OVF (i : Nat) : Fld := ⟨⟨131, i, 0, 31⟩, 1, 0, .w1c, 0, 1⟩
abbrev ETH_TXTS_STATUS_COUNT (i : Nat) : Fld := ⟨⟨131, i, 0, 16⟩, 5, 0, .ro, 0, 31⟩
abbrev ETH_TXTS_STATUS_OVF_CNT (i : Nat) : Fld := ⟨⟨131, i, 0, 0⟩, 16, 0, .rc, 0, 65535⟩

abbrev ETH_TXTS_W0_ID (i : Nat) : Fld := ⟨⟨132, i, 0, 16⟩, 16, 0, .ro, 0, 65535⟩
abbrev ETH_TXTS_W0_SEC_HI (i : Nat) : Fld := ⟨⟨132, i, 0, 0⟩, 16, 0, .ro, 0, 65535⟩

abbrev ETH_TXTS_W1_SEC_LO (i : Nat) : Fld := ⟨⟨133, i, 0, 0⟩, 32, 0, .ro, 0, 4294967295⟩

abbrev ETH_TXTS_W2_NS (i : Nat) : Fld := ⟨⟨134, i, 0, 0⟩, 30, 0, .ro, 0, 1073741823⟩

abbrev ETH_TXTS_W3_TIME_GEN (i : Nat) : Fld := ⟨⟨135, i, 0, 16⟩, 16, 0, .ro, 0, 65535⟩
abbrev ETH_TXTS_W3_FRAC (i : Nat) : Fld := ⟨⟨135, i, 0, 0⟩, 16, 0, .ro, 0, 65535⟩

/-! ## spec/10_fix_engine_model.md -/

abbrev FIX_CTRL_EN : Fld := ⟨⟨136, 0, 0, 31⟩, 1, 0, .rwt, 0, 1⟩
abbrev FIX_CTRL_IONO_EST : Fld := ⟨⟨136, 0, 0, 30⟩, 1, 0, .rwt, 0, 1⟩
abbrev FIX_CTRL_TROPO_EN : Fld := ⟨⟨136, 0, 0, 29⟩, 1, 1, .rwt, 0, 1⟩
abbrev FIX_CTRL_INTEG_EN : Fld := ⟨⟨136, 0, 0, 28⟩, 1, 0, .rwt, 0, 1⟩
abbrev FIX_CTRL_BASE_KM : Fld := ⟨⟨136, 0, 0, 16⟩, 8, 20, .rwt, 1, 255⟩
abbrev FIX_CTRL_REF_MIN_DEG : Fld := ⟨⟨136, 0, 0, 8⟩, 8, 15, .rwt, 0, 60⟩
abbrev FIX_CTRL_ELEV_MASK : Fld := ⟨⟨136, 0, 0, 0⟩, 8, 10, .rwt, 0, 30⟩

abbrev FIX_REF_VALUE (i : Nat) : Fld := ⟨⟨137, i, 0, 0⟩, 32, 0, .rw, 0, 4294967295⟩

abbrev FIX_ORG_VALUE (i : Nat) : Fld := ⟨⟨138, i, 0, 0⟩, 32, 0, .rw, 0, 4294967295⟩

abbrev FIX_REF_CTRL_APPLY_REF : Fld := ⟨⟨139, 0, 0, 31⟩, 1, 0, .wo, 0, 1⟩
abbrev FIX_REF_CTRL_APPLY_ORG : Fld := ⟨⟨139, 0, 0, 30⟩, 1, 0, .wo, 0, 1⟩
abbrev FIX_REF_CTRL_REFUSED : Fld := ⟨⟨139, 0, 0, 29⟩, 1, 0, .w1c, 0, 1⟩
abbrev FIX_REF_CTRL_PENDING : Fld := ⟨⟨139, 0, 0, 28⟩, 1, 0, .ro, 0, 1⟩
abbrev FIX_REF_CTRL_BASE_ANT : Fld := ⟨⟨139, 0, 0, 0⟩, 4, 0, .rw, 0, 15⟩

abbrev FIX_SIGMA_PHASE_A : Fld := ⟨⟨140, 0, 0, 24⟩, 8, 30, .rwt, 0, 255⟩
abbrev FIX_SIGMA_PHASE_B : Fld := ⟨⟨140, 0, 0, 16⟩, 8, 30, .rwt, 0, 255⟩
abbrev FIX_SIGMA_CODE_RATIO : Fld := ⟨⟨140, 0, 0, 0⟩, 16, 100, .rwt, 1, 1000⟩

abbrev FIX_PROC_Q_H : Fld := ⟨⟨141, 0, 0, 16⟩, 16, 25000, .rwt, 0, 65535⟩
abbrev FIX_PROC_Q_V : Fld := ⟨⟨141, 0, 0, 0⟩, 16, 2500, .rwt, 0, 65535⟩

abbrev FIX_INIT_POS_SD : Fld := ⟨⟨142, 0, 0, 16⟩, 16, 300, .rwt, 0, 65535⟩
abbrev FIX_INIT_AMB_SD : Fld := ⟨⟨142, 0, 0, 0⟩, 16, 300, .rwt, 0, 65535⟩

abbrev FIX_SLIP_GF_MM : Fld := ⟨⟨143, 0, 0, 24⟩, 8, 50, .rwt, 0, 255⟩
abbrev FIX_SLIP_GAP_MAX : Fld := ⟨⟨143, 0, 0, 16⟩, 8, 10, .rwt, 1, 255⟩
abbrev FIX_SLIP_INNOV_K : Fld := ⟨⟨143, 0, 0, 8⟩, 8, 5, .rwt, 3, 20⟩
abbrev FIX_SLIP_FILTER_GAP_S : Fld := ⟨⟨143, 0, 0, 0⟩, 8, 10, .rwt, 1, 255⟩

abbrev FIX_IONO_Q_ION : Fld := ⟨⟨144, 0, 0, 16⟩, 16, 10, .rwt, 0, 65535⟩
abbrev FIX_IONO_IONO_SD : Fld := ⟨⟨144, 0, 0, 0⟩, 16, 500, .rwt, 0, 65535⟩

abbrev FIX_INTEG_MM (i : Nat) : Fld := ⟨⟨145, i, 0, 0⟩, 32, 0, .rw, 0, 4294967295⟩

abbrev FIX_INTEG_CFG_LIMIT_MM : Fld := ⟨⟨146, 0, 0, 0⟩, 16, 30, .rw, 0, 65535⟩

abbrev FIX_INTEG_STATUS_BASE_SUSPECT : Fld := ⟨⟨147, 0, 0, 31⟩, 1, 0, .ro, 0, 1⟩

abbrev FIX_CNT_COR_MALFORMED : Fld := ⟨⟨148, 0, 0, 16⟩, 16, 0, .rc, 0, 65535⟩
abbrev FIX_CNT_COR_CLOCK : Fld := ⟨⟨148, 0, 0, 0⟩, 16, 0, .rc, 0, 65535⟩

abbrev FIX_CNT2_COR_EPOCH_MISMATCH : Fld := ⟨⟨149, 0, 0, 0⟩, 32, 0, .rc, 0, 4294967295⟩

abbrev ANT_W0_L1_E (i : Nat) : Fld := ⟨⟨150, i, 0, 16⟩, 16, 0, .rw, 0, 65535⟩
abbrev ANT_W0_L1_N (i : Nat) : Fld := ⟨⟨150, i, 0, 0⟩, 16, 0, .rw, 0, 65535⟩

abbrev ANT_W1_L1_U (i : Nat) : Fld := ⟨⟨151, i, 0, 16⟩, 16, 0, .rw, 0, 65535⟩
abbrev ANT_W1_L5_E (i : Nat) : Fld := ⟨⟨151, i, 0, 0⟩, 16, 0, .rw, 0, 65535⟩

abbrev ANT_W2_L5_N (i : Nat) : Fld := ⟨⟨152, i, 0, 16⟩, 16, 0, .rw, 0, 65535⟩
abbrev ANT_W2_L5_U (i : Nat) : Fld := ⟨⟨152, i, 0, 0⟩, 16, 0, .rw, 0, 65535⟩


/-! ## spec/11_fix_engine_operation.md -/

abbrev FIX_AR_RATIO_MIN : Fld := ⟨⟨154, 0, 0, 24⟩, 8, 48, .rwt, 16, 255⟩
abbrev FIX_AR_SEARCH_NODES : Fld := ⟨⟨154, 0, 0, 16⟩, 8, 16, .rwt, 1, 255⟩
abbrev FIX_AR_AR_MIN : Fld := ⟨⟨154, 0, 0, 8⟩, 8, 5, .rwt, 2, 48⟩
abbrev FIX_AR_HOLD_N : Fld := ⟨⟨154, 0, 0, 0⟩, 8, 5, .rwt, 0, 255⟩

abbrev FIX_AR2_FIX_RES_K : Fld := ⟨⟨155, 0, 0, 24⟩, 8, 4, .rwt, 2, 15⟩
abbrev FIX_AR2_PROP_MAX : Fld := ⟨⟨155, 0, 0, 16⟩, 8, 20, .rwt, 1, 255⟩

abbrev FIX_OVL_SHED : Fld := ⟨⟨156, 0, 0, 16⟩, 16, 0, .rc, 0, 65535⟩
abbrev FIX_OVL_LATE : Fld := ⟨⟨156, 0, 0, 0⟩, 16, 0, .rc, 0, 65535⟩

abbrev FIX_CNT3_BASE_MISSING : Fld := ⟨⟨157, 0, 0, 16⟩, 16, 0, .rc, 0, 65535⟩
abbrev FIX_CNT3_SEARCH_ABORT : Fld := ⟨⟨157, 0, 0, 0⟩, 16, 0, .rc, 0, 65535⟩

abbrev FIX_CNT4_FIX_LOST : Fld := ⟨⟨158, 0, 0, 16⟩, 16, 0, .rc, 0, 65535⟩
abbrev FIX_CNT4_FIX_REJECT : Fld := ⟨⟨158, 0, 0, 0⟩, 16, 0, .rc, 0, 65535⟩

abbrev FIX_LOAD_PEAK_US : Fld := ⟨⟨159, 0, 0, 0⟩, 16, 0, .rc, 0, 65535⟩

abbrev FIX_MEMBER_STATUS (i : Nat) : Fld := ⟨⟨160, i, 0, 29⟩, 3, 0, .ro, 0, 7⟩
abbrev FIX_MEMBER_HELD (i : Nat) : Fld := ⟨⟨160, i, 0, 28⟩, 1, 0, .ro, 0, 1⟩
abbrev FIX_MEMBER_NFIX (i : Nat) : Fld := ⟨⟨160, i, 0, 16⟩, 8, 0, .ro, 0, 255⟩
abbrev FIX_MEMBER_EPOCH_MISMATCH (i : Nat) : Fld := ⟨⟨160, i, 0, 8⟩, 8, 0, .rc, 0, 255⟩
abbrev FIX_MEMBER_PRIO (i : Nat) : Fld := ⟨⟨160, i, 0, 0⟩, 3, 4, .rwt, 0, 7⟩

/-! ## spec/12_field_link_radio.md -/

abbrev LANE_CFG_EN (i : Nat) : Fld := ⟨⟨161, i, 0, 31⟩, 1, 0, .rw, 0, 1⟩
abbrev LANE_CFG_PROFILE (i : Nat) : Fld := ⟨⟨161, i, 0, 29⟩, 2, 0, .rw, 0, 2⟩
abbrev LANE_CFG_RATE (i : Nat) : Fld := ⟨⟨161, i, 0, 28⟩, 1, 0, .rw, 0, 1⟩
abbrev LANE_CFG_PWR (i : Nat) : Fld := ⟨⟨161, i, 0, 16⟩, 5, 0, .rw, 0, 31⟩

abbrev LANE_STATUS_STATE (i : Nat) : Fld := ⟨⟨162, i, 0, 29⟩, 3, 0, .ro, 0, 7⟩
abbrev LANE_STATUS_CAUSE (i : Nat) : Fld := ⟨⟨162, i, 0, 26⟩, 3, 0, .ro, 0, 7⟩
abbrev LANE_STATUS_SYNTH_LOCK (i : Nat) : Fld := ⟨⟨162, i, 0, 25⟩, 1, 0, .ro, 0, 1⟩
abbrev LANE_STATUS_PA_ALARM (i : Nat) : Fld := ⟨⟨162, i, 0, 24⟩, 1, 0, .ro, 0, 1⟩
abbrev LANE_STATUS_RSSI (i : Nat) : Fld := ⟨⟨162, i, 0, 16⟩, 8, 0, .ro, 0, 255⟩
abbrev LANE_STATUS_LO_LIMIT (i : Nat) : Fld := ⟨⟨162, i, 0, 15⟩, 1, 0, .w1c, 0, 1⟩
abbrev LANE_STATUS_IQ_LIMIT (i : Nat) : Fld := ⟨⟨162, i, 0, 14⟩, 1, 0, .w1c, 0, 1⟩
abbrev LANE_STATUS_CTL_ACK (i : Nat) : Fld := ⟨⟨162, i, 0, 0⟩, 8, 0, .ro, 0, 255⟩

abbrev LANE_CAP_WORD_HI (i j : Nat) : Fld := ⟨⟨163, i, j, 16⟩, 16, 0, .ro, 0, 65535⟩
abbrev LANE_CAP_WORD_LO (i j : Nat) : Fld := ⟨⟨163, i, j, 0⟩, 16, 0, .ro, 0, 65535⟩

abbrev LANE_CNT_CRC_ERR (i : Nat) : Fld := ⟨⟨164, i, 0, 16⟩, 16, 0, .rc, 0, 65535⟩
abbrev LANE_CNT_RELOCKS (i : Nat) : Fld := ⟨⟨164, i, 0, 8⟩, 8, 0, .rc, 0, 255⟩
abbrev LANE_CNT_OVERSIZE (i : Nat) : Fld := ⟨⟨164, i, 0, 0⟩, 8, 0, .rc, 0, 255⟩

abbrev LANE_RX_RX_OK (i : Nat) : Fld := ⟨⟨165, i, 0, 16⟩, 16, 0, .rc, 0, 65535⟩
abbrev LANE_RX_RX_CRC_FAIL (i : Nat) : Fld := ⟨⟨165, i, 0, 0⟩, 16, 0, .rc, 0, 65535⟩

abbrev LANE_TRIM_LO_OFS (i : Nat) : Fld := ⟨⟨166, i, 0, 16⟩, 16, 0, .ro, 0, 65535⟩
abbrev LANE_TRIM_IQ_GAIN (i : Nat) : Fld := ⟨⟨166, i, 0, 8⟩, 8, 0, .ro, 0, 255⟩
abbrev LANE_TRIM_IQ_PHASE (i : Nat) : Fld := ⟨⟨166, i, 0, 0⟩, 8, 0, .ro, 0, 255⟩

abbrev LANE_TXIQ_TX_GAIN (i : Nat) : Fld := ⟨⟨167, i, 0, 8⟩, 8, 0, .rw, 0, 255⟩
abbrev LANE_TXIQ_TX_PHASE (i : Nat) : Fld := ⟨⟨167, i, 0, 0⟩, 8, 0, .rw, 0, 255⟩

abbrev HOP_CTRL_APPLY : Fld := ⟨⟨168, 0, 0, 31⟩, 1, 0, .wo, 0, 1⟩
abbrev HOP_CTRL_REFUSED : Fld := ⟨⟨168, 0, 0, 30⟩, 1, 0, .w1c, 0, 1⟩
abbrev HOP_CTRL_PENDING : Fld := ⟨⟨168, 0, 0, 29⟩, 1, 0, .ro, 0, 1⟩
abbrev HOP_CTRL_HOP_FAIL : Fld := ⟨⟨168, 0, 0, 28⟩, 1, 0, .w1c, 0, 1⟩
abbrev HOP_CTRL_LANES : Fld := ⟨⟨168, 0, 0, 16⟩, 8, 0, .rw, 0, 255⟩
abbrev HOP_CTRL_KEY_SLOT : Fld := ⟨⟨168, 0, 0, 0⟩, 9, 0, .rw, 0, 511⟩

abbrev HOP_TARGET_SFN : Fld := ⟨⟨169, 0, 0, 0⟩, 32, 0, .rw, 0, 4294967295⟩

abbrev HOP_IV_IV (i : Nat) : Fld := ⟨⟨170, i, 0, 0⟩, 32, 0, .rw, 0, 4294967295⟩

/-- Channels of a word of HOP_EXCL: 79, 35 and 64 in the three profiles (R371); bits beyond the last read 0. -/
def exclBits (j : Nat) : Nat := if j = 2 then 15 else if j = 4 then 3 else 32

abbrev HOP_EXCL_EXCL (i : Nat) : Fld := ⟨⟨171, i, 0, 0⟩, exclBits i, 0, .rw, 0, 2 ^ exclBits i - 1⟩

abbrev HOP_STATUS_N_2 : Fld := ⟨⟨172, 0, 0, 16⟩, 8, 0, .ro, 0, 255⟩
abbrev HOP_STATUS_N_1 : Fld := ⟨⟨172, 0, 0, 8⟩, 8, 0, .ro, 0, 255⟩
abbrev HOP_STATUS_N_0 : Fld := ⟨⟨172, 0, 0, 0⟩, 8, 0, .ro, 0, 255⟩

abbrev ACCT_CTRL_LOCK : Fld := ⟨⟨173, 0, 0, 31⟩, 1, 0, .w1s, 0, 1⟩

abbrev MEMBER_CFO_CFO (i : Nat) : Fld := ⟨⟨174, i, 0, 0⟩, 16, 0, .ro, 0, 65535⟩

abbrev ACCT_W0_EN (i : Nat) : Fld := ⟨⟨175, i, 0, 31⟩, 1, 0, .rwl, 0, 1⟩
abbrev ACCT_W0_PROFILE (i : Nat) : Fld := ⟨⟨175, i, 0, 29⟩, 2, 0, .rwl, 0, 2⟩
abbrev ACCT_W0_CH_HI (i : Nat) : Fld := ⟨⟨175, i, 0, 17⟩, 8, 0, .rwl, 0, 255⟩
abbrev ACCT_W0_CH_LO (i : Nat) : Fld := ⟨⟨175, i, 0, 9⟩, 8, 0, .rwl, 0, 255⟩
abbrev ACCT_W0_WEIGHT (i : Nat) : Fld := ⟨⟨175, i, 0, 0⟩, 9, 256, .rwl, 0, 511⟩

abbrev ACCT_W1_PMAX (i : Nat) : Fld := ⟨⟨176, i, 0, 24⟩, 8, 0, .rwl, 0, 255⟩
abbrev ACCT_W1_BUCKET_MS (i : Nat) : Fld := ⟨⟨176, i, 0, 0⟩, 24, 0, .rwl, 0, 16777215⟩

abbrev ACCT_W2_LIMIT_US (i : Nat) : Fld := ⟨⟨177, i, 0, 0⟩, 32, 0, .rwl, 0, 4294967295⟩

abbrev ACCT_W3_RESERVE_US (i : Nat) : Fld := ⟨⟨178, i, 0, 0⟩, 32, 0, .rwl, 0, 4294967295⟩

abbrev ACCT_W4_BEACON_RES_US (i : Nat) : Fld := ⟨⟨179, i, 0, 0⟩, 32, 0, .rwl, 0, 4294967295⟩

abbrev ACCT_W5_ORD_SUM (i : Nat) : Fld := ⟨⟨180, i, 0, 0⟩, 32, 0, .ro, 0, 4294967295⟩

abbrev ACCT_W6_STOP_SUM (i : Nat) : Fld := ⟨⟨181, i, 0, 0⟩, 32, 0, .ro, 0, 4294967295⟩

abbrev ACCT_W7_STOP_REFUSED (i : Nat) : Fld := ⟨⟨182, i, 0, 16⟩, 16, 0, .rc, 0, 65535⟩
abbrev ACCT_W7_ORD_REFUSED (i : Nat) : Fld := ⟨⟨182, i, 0, 0⟩, 16, 0, .rc, 0, 65535⟩

/-! ## spec/13_field_link_mac.md -/

abbrev MAC_CTRL_NET_EN : Fld := ⟨⟨183, 0, 0, 31⟩, 1, 0, .rw, 0, 1⟩
abbrev MAC_CTRL_ASSOC_EN : Fld := ⟨⟨183, 0, 0, 30⟩, 1, 0, .rw, 0, 1⟩
abbrev MAC_CTRL_RELEASE_S : Fld := ⟨⟨183, 0, 0, 16⟩, 8, 30, .rw, 1, 255⟩

abbrev MAC_KEYS_JOIN_KEY_SLOT : Fld := ⟨⟨184, 0, 0, 16⟩, 9, 0, .rw, 0, 511⟩
abbrev MAC_KEYS_NWK_KEY_SLOT : Fld := ⟨⟨184, 0, 0, 0⟩, 9, 0, .rw, 0, 511⟩

abbrev NET_K0_LO_K0 : Fld := ⟨⟨185, 0, 0, 0⟩, 32, 0, .ro, 0, 4294967295⟩

abbrev NET_K0_HI_VALID : Fld := ⟨⟨186, 0, 0, 31⟩, 1, 0, .ro, 0, 1⟩
abbrev NET_K0_HI_K0 : Fld := ⟨⟨186, 0, 0, 0⟩, 31, 0, .ro, 0, 2147483647⟩

abbrev SLOT_CTRL_BANK : Fld := ⟨⟨187, 0, 0, 31⟩, 1, 0, .rwt, 0, 1⟩
abbrev SLOT_CTRL_SLOT_WR_DEFERRED : Fld := ⟨⟨187, 0, 0, 30⟩, 1, 0, .w1c, 0, 1⟩
abbrev SLOT_CTRL_SLOT_WR_REFUSED : Fld := ⟨⟨187, 0, 0, 29⟩, 1, 0, .w1c, 0, 1⟩
abbrev SLOT_CTRL_HELD : Fld := ⟨⟨187, 0, 0, 16⟩, 5, 0, .ro, 0, 31⟩
abbrev SLOT_CTRL_SHADOW_UNACKED : Fld := ⟨⟨187, 0, 0, 0⟩, 8, 0, .ro, 0, 255⟩

abbrev MAC_CNT_A_MIC_FAIL : Fld := ⟨⟨188, 0, 0, 16⟩, 16, 0, .rc, 0, 65535⟩
abbrev MAC_CNT_A_MALFORMED : Fld := ⟨⟨188, 0, 0, 0⟩, 16, 0, .rc, 0, 65535⟩

abbrev MAC_CNT_B_DUP : Fld := ⟨⟨189, 0, 0, 16⟩, 16, 0, .rc, 0, 65535⟩
abbrev MAC_CNT_B_STALE : Fld := ⟨⟨189, 0, 0, 0⟩, 16, 0, .rc, 0, 65535⟩

abbrev MAC_CNT_C_STRAY : Fld := ⟨⟨190, 0, 0, 16⟩, 16, 0, .rc, 0, 65535⟩
abbrev MAC_CNT_C_COR_INCOMPLETE : Fld := ⟨⟨190, 0, 0, 0⟩, 16, 0, .rc, 0, 65535⟩

abbrev MAC_CNT_D_WIN_DEFERRED : Fld := ⟨⟨191, 0, 0, 16⟩, 16, 0, .rc, 0, 65535⟩
abbrev MAC_CNT_D_ASSOC_REQ : Fld := ⟨⟨191, 0, 0, 8⟩, 8, 0, .rc, 0, 255⟩
abbrev MAC_CNT_D_ASSOC_LAPSE : Fld := ⟨⟨191, 0, 0, 0⟩, 8, 0, .rc, 0, 255⟩

abbrev FLOCK_MEMBERS (i j : Nat) : Fld := ⟨⟨192, i, j, 0⟩, 32, 0, .rw, 0, 4294967295⟩

abbrev SLOT_KIND (i j : Nat) : Fld := ⟨⟨193, i, j, 8⟩, 8, 0, .ro, 0, 255⟩
abbrev SLOT_OWNER (i j : Nat) : Fld := ⟨⟨193, i, j, 0⟩, 8, 0, .rw, 0, 255⟩

abbrev MEMBER_W0_EUI (i : Nat) : Fld := ⟨⟨194, i, 0, 0⟩, 32, 0, .ro, 0, 4294967295⟩

abbrev MEMBER_W1_EUI (i : Nat) : Fld := ⟨⟨195, i, 0, 0⟩, 32, 0, .ro, 0, 4294967295⟩

abbrev MEMBER_W2_STATE (i : Nat) : Fld := ⟨⟨196, i, 0, 30⟩, 2, 0, .ro, 0, 3⟩
abbrev MEMBER_W2_LANE (i : Nat) : Fld := ⟨⟨196, i, 0, 27⟩, 3, 0, .ro, 0, 7⟩
abbrev MEMBER_W2_Q0 (i : Nat) : Fld := ⟨⟨196, i, 0, 20⟩, 7, 0, .ro, 0, 127⟩
abbrev MEMBER_W2_Q1 (i : Nat) : Fld := ⟨⟨196, i, 0, 13⟩, 7, 0, .ro, 0, 127⟩
abbrev MEMBER_W2_RSSI (i : Nat) : Fld := ⟨⟨196, i, 0, 0⟩, 8, 0, .ro, 0, 255⟩

abbrev MEMBER_W3_CAPS (i : Nat) : Fld := ⟨⟨197, i, 0, 0⟩, 32, 0, .ro, 0, 4294967295⟩

/-! ## spec/14_work_dispatch.md -/

abbrev DISP_CTRL_EN : Fld := ⟨⟨198, 0, 0, 31⟩, 1, 0, .rw, 0, 1⟩
abbrev DISP_CTRL_HOST_MAX : Fld := ⟨⟨198, 0, 0, 16⟩, 13, 3072, .rw, 0, 4096⟩
abbrev DISP_CTRL_PREFETCH_LIFE : Fld := ⟨⟨198, 0, 0, 8⟩, 8, 50, .rw, 10, 255⟩
abbrev DISP_CTRL_LAPSE_GRACE : Fld := ⟨⟨198, 0, 0, 0⟩, 8, 30, .rw, 0, 255⟩

abbrev DISP_STATUS_FREE : Fld := ⟨⟨199, 0, 0, 16⟩, 13, 4096, .ro, 0, 8191⟩
abbrev DISP_STATUS_READY : Fld := ⟨⟨199, 0, 0, 0⟩, 13, 0, .ro, 0, 8191⟩

abbrev DISP_CNT_FULL : Fld := ⟨⟨200, 0, 0, 16⟩, 16, 0, .rc, 0, 65535⟩
abbrev DISP_CNT_QUEUE_FULL : Fld := ⟨⟨200, 0, 0, 0⟩, 16, 0, .rc, 0, 65535⟩

abbrev DISP_CNT2_LAPSED : Fld := ⟨⟨201, 0, 0, 16⟩, 16, 0, .rc, 0, 65535⟩
abbrev DISP_CNT2_DUP_RUN : Fld := ⟨⟨201, 0, 0, 8⟩, 8, 0, .rc, 0, 255⟩
abbrev DISP_CNT2_RESTARTS : Fld := ⟨⟨201, 0, 0, 0⟩, 8, 0, .rc, 0, 255⟩

abbrev DISP_CNT3_FOREIGN : Fld := ⟨⟨202, 0, 0, 0⟩, 8, 0, .rc, 0, 255⟩

abbrev DISP_DESC_WORD (i j : Nat) : Fld := ⟨⟨203, i, j, 0⟩, 32, 0, .rw, 0, 4294967295⟩

abbrev DISP_SUBMIT_GO (i : Nat) : Fld := ⟨⟨204, i, 0, 0⟩, 1, 0, .wo, 0, 1⟩

abbrev DISP_CANCEL_ID (i : Nat) : Fld := ⟨⟨205, i, 0, 0⟩, 32, 0, .wo, 0, 4294967295⟩

abbrev DISP_RESULT_ID (i : Nat) : Fld := ⟨⟨206, i, 0, 0⟩, 32, 0, .ro, 0, 4294967295⟩

abbrev DISP_RESULT_CODE_CODE (i : Nat) : Fld := ⟨⟨207, i, 0, 0⟩, 3, 0, .ro, 0, 7⟩

abbrev DISP_CORE_EN (i : Nat) : Fld := ⟨⟨208, i, 0, 31⟩, 1, 1, .rw, 0, 1⟩
abbrev DISP_CORE_CANCEL (i : Nat) : Fld := ⟨⟨208, i, 0, 30⟩, 1, 0, .w1c, 0, 1⟩
abbrev DISP_CORE_TOOK_SUSP (i : Nat) : Fld := ⟨⟨208, i, 0, 29⟩, 1, 0, .ro, 0, 1⟩
abbrev DISP_CORE_PRE_TH (i : Nat) : Fld := ⟨⟨208, i, 0, 16⟩, 7, 8, .rw, 1, 64⟩
abbrev DISP_CORE_RUN_LEVEL (i : Nat) : Fld := ⟨⟨208, i, 0, 0⟩, 7, 64, .ro, 0, 127⟩

abbrev DISP_TAKE_ID (i : Nat) : Fld := ⟨⟨209, i, 0, 0⟩, 32, 0, .ro, 0, 4294967295⟩

abbrev DISP_RUN_ID (i : Nat) : Fld := ⟨⟨210, i, 0, 0⟩, 32, 0, .ro, 0, 4294967295⟩

abbrev DISP_DONE_OUTCOME (i : Nat) : Fld := ⟨⟨211, i, 0, 8⟩, 2, 0, .wo, 0, 2⟩
abbrev DISP_DONE_RESULT (i : Nat) : Fld := ⟨⟨211, i, 0, 0⟩, 8, 0, .wo, 0, 255⟩

abbrev DISP_MEMBER_W0_RUN_ID (i : Nat) : Fld := ⟨⟨212, i, 0, 0⟩, 32, 0, .ro, 0, 4294967295⟩

abbrev DISP_MEMBER_W1_SLOT_ID (i : Nat) : Fld := ⟨⟨213, i, 0, 0⟩, 32, 0, .ro, 0, 4294967295⟩

/-! ## spec/15_tracks_and_gearing.md -/

abbrev TRK_CTRL_EN : Fld := ⟨⟨214, 0, 0, 31⟩, 1, 0, .rw, 0, 1⟩
abbrev TRK_CTRL_GEAR_SD_MM : Fld := ⟨⟨214, 0, 0, 0⟩, 16, 50, .rw, 0, 65535⟩

abbrev TRK_STATUS_RUNNING : Fld := ⟨⟨215, 0, 0, 20⟩, 8, 0, .ro, 0, 255⟩
abbrev TRK_STATUS_FREE_VERTS : Fld := ⟨⟨215, 0, 0, 0⟩, 19, 262144, .ro, 0, 524287⟩

abbrev TRK_CNT_DEV_EVENTS : Fld := ⟨⟨216, 0, 0, 24⟩, 8, 0, .rc, 0, 255⟩
abbrev TRK_CNT_GEAR_LOST : Fld := ⟨⟨216, 0, 0, 16⟩, 8, 0, .rc, 0, 255⟩
abbrev TRK_CNT_DOCK_FAULT : Fld := ⟨⟨216, 0, 0, 8⟩, 8, 0, .rc, 0, 255⟩
abbrev TRK_CNT_BEHIND : Fld := ⟨⟨216, 0, 0, 0⟩, 8, 0, .rc, 0, 255⟩

abbrev DOCK_CFG_POLARITY : Fld := ⟨⟨217, 0, 0, 8⟩, 8, 0, .rw, 0, 255⟩
abbrev DOCK_CFG_EN : Fld := ⟨⟨217, 0, 0, 0⟩, 8, 0, .rw, 0, 255⟩

abbrev DOCK_STATE_CHANGED : Fld := ⟨⟨218, 0, 0, 8⟩, 8, 0, .w1c, 0, 255⟩
abbrev DOCK_STATE_CLOSED : Fld := ⟨⟨218, 0, 0, 0⟩, 8, 0, .ro, 0, 255⟩

abbrev PCH_W0_VMAX (i : Nat) : Fld := ⟨⟨219, i, 0, 16⟩, 16, 0, .rw, 0, 65535⟩
abbrev PCH_W0_AMAX (i : Nat) : Fld := ⟨⟨219, i, 0, 0⟩, 16, 0, .rw, 0, 65535⟩

abbrev PCH_W1_JMAX (i : Nat) : Fld := ⟨⟨220, i, 0, 16⟩, 16, 0, .rw, 0, 65535⟩
abbrev PCH_W1_HOME_V (i : Nat) : Fld := ⟨⟨220, i, 0, 0⟩, 16, 200, .rw, 0, 65535⟩

abbrev PCH_W2_LONG_MM (i : Nat) : Fld := ⟨⟨221, i, 0, 16⟩, 16, 500, .rw, 0, 65535⟩
abbrev PCH_W2_LAT_MM (i : Nat) : Fld := ⟨⟨221, i, 0, 0⟩, 16, 300, .rw, 0, 65535⟩

abbrev PCH_W3_DEV_RESP (i : Nat) : Fld := ⟨⟨222, i, 0, 29⟩, 3, 1, .rw, 0, 3⟩
abbrev PCH_W3_DOCK_RESP (i : Nat) : Fld := ⟨⟨222, i, 0, 26⟩, 3, 2, .rw, 0, 3⟩
abbrev PCH_W3_DEV_N (i : Nat) : Fld := ⟨⟨222, i, 0, 8⟩, 8, 3, .rw, 1, 255⟩
abbrev PCH_W3_DEV_BLIND (i : Nat) : Fld := ⟨⟨222, i, 0, 0⟩, 8, 20, .rw, 1, 255⟩

abbrev PCH_W4_APPROACH_MM (i : Nat) : Fld := ⟨⟨223, i, 0, 16⟩, 16, 2000, .rw, 0, 65535⟩
abbrev PCH_W4_OVER_MM (i : Nat) : Fld := ⟨⟨223, i, 0, 0⟩, 16, 200, .rw, 0, 65535⟩

abbrev PCH_W5_STATE (i : Nat) : Fld := ⟨⟨224, i, 0, 29⟩, 3, 0, .ro, 0, 7⟩
abbrev PCH_W5_REASON (i : Nat) : Fld := ⟨⟨224, i, 0, 26⟩, 3, 0, .ro, 0, 7⟩
abbrev PCH_W5_Q (i : Nat) : Fld := ⟨⟨224, i, 0, 24⟩, 2, 0, .ro, 0, 3⟩
abbrev PCH_W5_SLOT (i : Nat) : Fld := ⟨⟨224, i, 0, 23⟩, 1, 0, .ro, 0, 1⟩
abbrev PCH_W5_DOCKED (i : Nat) : Fld := ⟨⟨224, i, 0, 22⟩, 1, 0, .ro, 0, 1⟩
abbrev PCH_W5_GEAR_LIMITED (i : Nat) : Fld := ⟨⟨224, i, 0, 21⟩, 1, 0, .ro, 0, 1⟩
abbrev PCH_W5_TRACK (i : Nat) : Fld := ⟨⟨224, i, 0, 0⟩, 10, 0, .ro, 0, 1023⟩

abbrev PCH_W6_CMD_S (i : Nat) : Fld := ⟨⟨225, i, 0, 0⟩, 32, 0, .ro, 0, 4294967295⟩

abbrev PCH_W7_MEAS_S (i : Nat) : Fld := ⟨⟨226, i, 0, 0⟩, 32, 0, .ro, 0, 4294967295⟩

abbrev GEAR_W0_STATE (i : Nat) : Fld := ⟨⟨227, i, 0, 30⟩, 2, 0, .ro, 0, 3⟩
abbrev GEAR_W0_CAM (i : Nat) : Fld := ⟨⟨227, i, 0, 27⟩, 3, 0, .ro, 0, 7⟩
abbrev GEAR_W0_NPTS (i : Nat) : Fld := ⟨⟨227, i, 0, 24⟩, 3, 1, .rw, 0, 7⟩
abbrev GEAR_W0_MASTER (i : Nat) : Fld := ⟨⟨227, i, 0, 16⟩, 8, 0, .rw, 0, 255⟩
abbrev GEAR_W0_FOLLOWER (i : Nat) : Fld := ⟨⟨227, i, 0, 8⟩, 8, 0, .rw, 0, 255⟩

abbrev GEAR_W1_MTRACK (i : Nat) : Fld := ⟨⟨228, i, 0, 16⟩, 10, 0, .rw, 0, 1023⟩
abbrev GEAR_W1_FTRACK (i : Nat) : Fld := ⟨⟨228, i, 0, 0⟩, 10, 0, .rw, 0, 1023⟩

abbrev GEAR_W2_ORIGIN_M (i : Nat) : Fld := ⟨⟨229, i, 0, 0⟩, 32, 0, .rw, 0, 4294967295⟩

abbrev GEAR_W3_ORIGIN_F (i : Nat) : Fld := ⟨⟨230, i, 0, 0⟩, 32, 0, .rw, 0, 4294967295⟩

abbrev GEAR_W4_EXTRAP_MS (i : Nat) : Fld := ⟨⟨231, i, 0, 16⟩, 16, 300, .rw, 0, 65535⟩
abbrev GEAR_W4_LAG_MAX_MM (i : Nat) : Fld := ⟨⟨231, i, 0, 0⟩, 16, 1000, .rw, 0, 65535⟩

abbrev GEAR_W5_LAG (i : Nat) : Fld := ⟨⟨232, i, 0, 0⟩, 32, 0, .ro, 0, 4294967295⟩

abbrev GEAR_AT_AT (i j : Nat) : Fld := ⟨⟨233, i, j, 0⟩, 32, 0, .rw, 0, 4294967295⟩

abbrev GEAR_RATIO_RATIO (i j : Nat) : Fld := ⟨⟨234, i, j, 0⟩, 32, 0, .rw, 0, 4294967295⟩

abbrev TRK_T_W0_FIRST (i : Nat) : Fld := ⟨⟨235, i, 0, 0⟩, 18, 0, .ro, 0, 262143⟩

abbrev TRK_T_W1_STATE (i : Nat) : Fld := ⟨⟨236, i, 0, 30⟩, 2, 0, .ro, 0, 3⟩
abbrev TRK_T_W1_COUNT (i : Nat) : Fld := ⟨⟨236, i, 0, 16⟩, 13, 0, .ro, 0, 8191⟩

abbrev TRK_T_W2_LENGTH (i : Nat) : Fld := ⟨⟨237, i, 0, 0⟩, 32, 0, .ro, 0, 4294967295⟩

abbrev TRK_T_W3_CRC (i : Nat) : Fld := ⟨⟨238, i, 0, 0⟩, 32, 0, .ro, 0, 4294967295⟩

abbrev TRK_VERT_SEL_INDEX (i : Nat) : Fld := ⟨⟨239, i, 0, 0⟩, 18, 0, .rw, 0, 262143⟩

abbrev TRK_VERT_E_E (i : Nat) : Fld := ⟨⟨240, i, 0, 0⟩, 32, 0, .ro, 0, 4294967295⟩

abbrev TRK_VERT_N_N (i : Nat) : Fld := ⟨⟨241, i, 0, 0⟩, 32, 0, .ro, 0, 4294967295⟩

abbrev TRK_VERT_U_U (i : Nat) : Fld := ⟨⟨242, i, 0, 0⟩, 32, 0, .ro, 0, 4294967295⟩

/-! ## spec/16_rook_and_stop.md -/

abbrev STOP_PORT_KEY (i : Nat) : Fld := ⟨⟨243, i, 0, 16⟩, 16, 0, .wo, 0, 65535⟩
abbrev STOP_PORT_TARGET (i : Nat) : Fld := ⟨⟨243, i, 0, 8⟩, 8, 0, .wo, 0, 255⟩
abbrev STOP_PORT_IGNORE_PAIR (i : Nat) : Fld := ⟨⟨243, i, 0, 3⟩, 1, 0, .wo, 0, 1⟩
abbrev STOP_PORT_CMD (i : Nat) : Fld := ⟨⟨243, i, 0, 0⟩, 3, 0, .wo, 0, 7⟩

abbrev STOP_PORT_RES_BLOCKERS (i : Nat) : Fld := ⟨⟨244, i, 0, 8⟩, 8, 0, .ro, 0, 255⟩
abbrev STOP_PORT_RES_RESULT (i : Nat) : Fld := ⟨⟨244, i, 0, 0⟩, 3, 0, .ro, 0, 7⟩

abbrev ROOK_STATE_STOP : Fld := ⟨⟨245, 0, 0, 31⟩, 1, 1, .ro, 0, 1⟩
abbrev ROOK_STATE_HALTED : Fld := ⟨⟨245, 0, 0, 30⟩, 1, 1, .ro, 0, 1⟩
abbrev ROOK_STATE_FAULT : Fld := ⟨⟨245, 0, 0, 29⟩, 1, 0, .ro, 0, 1⟩
abbrev ROOK_STATE_RESERVE_LOW : Fld := ⟨⟨245, 0, 0, 28⟩, 1, 0, .ro, 0, 1⟩
abbrev ROOK_STATE_SRC_LATCHED : Fld := ⟨⟨245, 0, 0, 8⟩, 8, 64, .ro, 0, 255⟩
abbrev ROOK_STATE_BLOCKERS : Fld := ⟨⟨245, 0, 0, 0⟩, 8, 8, .ro, 0, 255⟩

abbrev ROOK_FAULT_RELAY : Fld := ⟨⟨246, 0, 0, 16⟩, 4, 0, .w1c, 0, 15⟩
abbrev ROOK_FAULT_LOOP : Fld := ⟨⟨246, 0, 0, 8⟩, 8, 0, .w1c, 0, 255⟩
abbrev ROOK_FAULT_CLOCK : Fld := ⟨⟨246, 0, 0, 5⟩, 1, 0, .w1c, 0, 1⟩
abbrev ROOK_FAULT_LOG_MEDIA : Fld := ⟨⟨246, 0, 0, 4⟩, 1, 0, .w1c, 0, 1⟩
abbrev ROOK_FAULT_RELAY_FB : Fld := ⟨⟨246, 0, 0, 3⟩, 1, 0, .w1c, 0, 1⟩
abbrev ROOK_FAULT_DISCREPANCY : Fld := ⟨⟨246, 0, 0, 2⟩, 1, 0, .w1c, 0, 1⟩
abbrev ROOK_FAULT_LOOP_TEST : Fld := ⟨⟨246, 0, 0, 1⟩, 1, 0, .w1c, 0, 1⟩
abbrev ROOK_FAULT_SRAM_UE : Fld := ⟨⟨246, 0, 0, 0⟩, 1, 0, .w1c, 0, 1⟩

abbrev LOOP_CFG_CLOSE : Fld := ⟨⟨247, 0, 0, 24⟩, 8, 50, .rwl, 1, 255⟩
abbrev LOOP_CFG_DISC : Fld := ⟨⟨247, 0, 0, 16⟩, 8, 50, .rwl, 1, 255⟩
abbrev LOOP_CFG_TEST_MS : Fld := ⟨⟨247, 0, 0, 8⟩, 8, 100, .rwl, 16, 250⟩
abbrev LOOP_CFG_EN : Fld := ⟨⟨247, 0, 0, 0⟩, 8, 0, .rwl, 0, 255⟩

abbrev LOOP_STATUS_OPEN : Fld := ⟨⟨248, 0, 0, 16⟩, 8, 0, .ro, 0, 255⟩
abbrev LOOP_STATUS_B_CLOSED : Fld := ⟨⟨248, 0, 0, 8⟩, 8, 0, .ro, 0, 255⟩
abbrev LOOP_STATUS_A_CLOSED : Fld := ⟨⟨248, 0, 0, 0⟩, 8, 0, .ro, 0, 255⟩

abbrev RELAY_CFG_FB_MS : Fld := ⟨⟨249, 0, 0, 8⟩, 8, 20, .rwl, 1, 255⟩
abbrev RELAY_CFG_FB_POL : Fld := ⟨⟨249, 0, 0, 4⟩, 4, 0, .rwl, 0, 15⟩
abbrev RELAY_CFG_EN : Fld := ⟨⟨249, 0, 0, 0⟩, 4, 0, .rwl, 0, 15⟩

abbrev RELAY_STATUS_FB : Fld := ⟨⟨250, 0, 0, 4⟩, 4, 0, .ro, 0, 15⟩
abbrev RELAY_STATUS_DRIVE : Fld := ⟨⟨250, 0, 0, 0⟩, 4, 0, .ro, 0, 15⟩

abbrev STOP_CFG_REPEAT_0 : Fld := ⟨⟨251, 0, 0, 24⟩, 8, 40, .rwl, 1, 255⟩
abbrev STOP_CFG_REPEAT_S : Fld := ⟨⟨251, 0, 0, 16⟩, 8, 10, .rwl, 1, 255⟩
abbrev STOP_CFG_HR_REPEAT : Fld := ⟨⟨251, 0, 0, 8⟩, 8, 8, .rwl, 1, 255⟩
abbrev STOP_CFG_MEMBER_SCOPE : Fld := ⟨⟨251, 0, 0, 0⟩, 1, 0, .rwl, 0, 1⟩

abbrev WDOG_CFG_MIN : Fld := ⟨⟨252, 0, 0, 8⟩, 8, 0, .rwl, 0, 255⟩
abbrev WDOG_CFG_TIMEOUT : Fld := ⟨⟨252, 0, 0, 0⟩, 8, 156, .rwl, 0, 255⟩

abbrev WDOG_SVC_KEY : Fld := ⟨⟨253, 0, 0, 0⟩, 16, 0, .wo, 0, 65535⟩

abbrev ROOK_SEQ_SSEQ : Fld := ⟨⟨254, 0, 0, 0⟩, 8, 0, .ro, 0, 255⟩

abbrev ROOK_CNT_STOP_EVENTS : Fld := ⟨⟨255, 0, 0, 16⟩, 16, 0, .rc, 0, 65535⟩
abbrev ROOK_CNT_STOP_UNSENT : Fld := ⟨⟨255, 0, 0, 0⟩, 16, 0, .rc, 0, 65535⟩

abbrev ROOK_CNT2_SRAM_CE : Fld := ⟨⟨256, 0, 0, 16⟩, 16, 0, .rc, 0, 65535⟩
abbrev ROOK_CNT2_QUEUE_FULL : Fld := ⟨⟨256, 0, 0, 0⟩, 16, 0, .rc, 0, 65535⟩

abbrev ROOK_LOCK_LOCK : Fld := ⟨⟨257, 0, 0, 31⟩, 1, 0, .w1s, 0, 1⟩

abbrev STOP_PLY_LO_PLY : Fld := ⟨⟨258, 0, 0, 0⟩, 32, 0, .ro, 0, 4294967295⟩

abbrev STOP_PLY_HI_PLY : Fld := ⟨⟨259, 0, 0, 0⟩, 32, 0, .ro, 0, 4294967295⟩

abbrev MSTOP_MEMBERS (i : Nat) : Fld := ⟨⟨260, i, 0, 0⟩, 32, 0, .ro, 0, 4294967295⟩

/-! ## spec/17_base_pair.md -/

abbrev PAIR_CTRL_LOCK : Fld := ⟨⟨261, 0, 0, 31⟩, 1, 0, .w1s, 0, 1⟩
abbrev PAIR_CTRL_EN : Fld := ⟨⟨261, 0, 0, 30⟩, 1, 0, .rwl, 0, 1⟩
abbrev PAIR_CTRL_KEY_SLOT : Fld := ⟨⟨261, 0, 0, 16⟩, 9, 0, .rwl, 0, 511⟩
abbrev PAIR_CTRL_DRILL_DAYS : Fld := ⟨⟨261, 0, 0, 8⟩, 8, 30, .rwl, 1, 255⟩

abbrev PAIR_STATUS_ACTIVE : Fld := ⟨⟨262, 0, 0, 31⟩, 1, 0, .ro, 0, 1⟩
abbrev PAIR_STATUS_LINK : Fld := ⟨⟨262, 0, 0, 30⟩, 1, 0, .ro, 0, 1⟩
abbrev PAIR_STATUS_PAIR_SLOW : Fld := ⟨⟨262, 0, 0, 29⟩, 1, 0, .ro, 0, 1⟩
abbrev PAIR_STATUS_HB_OK : Fld := ⟨⟨262, 0, 0, 28⟩, 1, 0, .ro, 0, 1⟩
abbrev PAIR_STATUS_PARTNER_ACTIVE : Fld := ⟨⟨262, 0, 0, 27⟩, 1, 0, .ro, 0, 1⟩
abbrev PAIR_STATUS_PARTNER_STOP : Fld := ⟨⟨262, 0, 0, 26⟩, 1, 0, .ro, 0, 1⟩
abbrev PAIR_STATUS_READY_STANDBY : Fld := ⟨⟨262, 0, 0, 25⟩, 1, 0, .ro, 0, 1⟩
abbrev PAIR_STATUS_KEY_MISMATCH : Fld := ⟨⟨262, 0, 0, 24⟩, 1, 0, .ro, 0, 1⟩
abbrev PAIR_STATUS_TAKEOVER_PEND : Fld := ⟨⟨262, 0, 0, 23⟩, 1, 0, .ro, 0, 1⟩
abbrev PAIR_STATUS_HANDOVER_PEND : Fld := ⟨⟨262, 0, 0, 22⟩, 1, 0, .ro, 0, 1⟩
abbrev PAIR_STATUS_DRILL_DUE : Fld := ⟨⟨262, 0, 0, 21⟩, 1, 0, .ro, 0, 1⟩
abbrev PAIR_STATUS_DAYS_SINCE_ACTIVE : Fld := ⟨⟨262, 0, 0, 0⟩, 16, 0, .ro, 0, 65535⟩

abbrev CLAIM : Fld := ⟨⟨263, 0, 0, 0⟩, 32, 0, .ro, 0, 4294967295⟩

abbrev PARTNER_CLAIM_CLAIM : Fld := ⟨⟨264, 0, 0, 0⟩, 32, 0, .ro, 0, 4294967295⟩

abbrev PAIR_CTR_CTR : Fld := ⟨⟨265, 0, 0, 0⟩, 31, 0, .ro, 0, 2147483647⟩

abbrev CKPT_SEQ_SEQ : Fld := ⟨⟨266, 0, 0, 0⟩, 32, 0, .ro, 0, 4294967295⟩

abbrev CKPT_SFN_CAPTURE_SFN : Fld := ⟨⟨267, 0, 0, 0⟩, 32, 0, .ro, 0, 4294967295⟩

abbrev HANDOVER_SFN_H : Fld := ⟨⟨268, 0, 0, 0⟩, 32, 0, .ro, 0, 4294967295⟩

abbrev PAIR_CNT_HB_DROP : Fld := ⟨⟨269, 0, 0, 16⟩, 16, 0, .rc, 0, 65535⟩
abbrev PAIR_CNT_CKPT_FAIL : Fld := ⟨⟨269, 0, 0, 0⟩, 16, 0, .rc, 0, 65535⟩

abbrev PAIR_CNT2_TAKEOVERS : Fld := ⟨⟨270, 0, 0, 24⟩, 8, 0, .rc, 0, 255⟩
abbrev PAIR_CNT2_YIELDS : Fld := ⟨⟨270, 0, 0, 16⟩, 8, 0, .rc, 0, 255⟩
abbrev PAIR_CNT2_HANDOVERS : Fld := ⟨⟨270, 0, 0, 8⟩, 8, 0, .rc, 0, 255⟩
abbrev PAIR_CNT2_HB_LOST : Fld := ⟨⟨270, 0, 0, 0⟩, 8, 0, .rc, 0, 255⟩

/-! ## spec/18_keys_and_tamper.md -/

abbrev KS_STATUS_TAMPERED : Fld := ⟨⟨271, 0, 0, 31⟩, 1, 0, .ro, 0, 1⟩
abbrev KS_STATUS_RETAINED_LOST : Fld := ⟨⟨271, 0, 0, 30⟩, 1, 1, .w1c, 0, 1⟩
abbrev KS_STATUS_TRNG_FAIL : Fld := ⟨⟨271, 0, 0, 29⟩, 1, 0, .ro, 0, 1⟩
abbrev KS_STATUS_ROOT_OK : Fld := ⟨⟨271, 0, 0, 28⟩, 1, 1, .ro, 0, 1⟩
abbrev KS_STATUS_USED : Fld := ⟨⟨271, 0, 0, 0⟩, 10, 0, .ro, 0, 1023⟩

abbrev KS_CTRL_LOCK : Fld := ⟨⟨272, 0, 0, 31⟩, 1, 0, .w1s, 0, 1⟩
abbrev KS_CTRL_IMPORT_EN : Fld := ⟨⟨272, 0, 0, 30⟩, 1, 1, .rwl, 0, 1⟩

abbrev KS_CNT_ORPHAN_ABORTS : Fld := ⟨⟨273, 0, 0, 16⟩, 16, 0, .rc, 0, 65535⟩
abbrev KS_CNT_TAMPER_ABORTS : Fld := ⟨⟨273, 0, 0, 0⟩, 16, 0, .rc, 0, 65535⟩

abbrev KS_CNT2_INVALIDATIONS : Fld := ⟨⟨274, 0, 0, 16⟩, 16, 0, .rc, 0, 65535⟩
abbrev KS_CNT2_IMPORTS : Fld := ⟨⟨274, 0, 0, 0⟩, 16, 0, .rc, 0, 65535⟩

abbrev KS_SLOT_W0_TYPE (i : Nat) : Fld := ⟨⟨275, i, 0, 29⟩, 3, 0, .ro, 0, 7⟩
abbrev KS_SLOT_W0_ORIGIN (i : Nat) : Fld := ⟨⟨275, i, 0, 26⟩, 3, 0, .ro, 0, 7⟩
abbrev KS_SLOT_W0_USE (i : Nat) : Fld := ⟨⟨275, i, 0, 20⟩, 6, 0, .ro, 0, 63⟩
abbrev KS_SLOT_W0_ORPHANED (i : Nat) : Fld := ⟨⟨275, i, 0, 19⟩, 1, 0, .ro, 0, 1⟩
abbrev KS_SLOT_W0_ROOT_PARENT (i : Nat) : Fld := ⟨⟨275, i, 0, 18⟩, 1, 0, .ro, 0, 1⟩
abbrev KS_SLOT_W0_PARENT (i : Nat) : Fld := ⟨⟨275, i, 0, 9⟩, 9, 0, .ro, 0, 511⟩
abbrev KS_SLOT_W0_DEPTH (i : Nat) : Fld := ⟨⟨275, i, 0, 5⟩, 4, 0, .ro, 0, 15⟩

abbrev KS_SLOT_W1_GEN (i : Nat) : Fld := ⟨⟨276, i, 0, 0⟩, 32, 0, .ro, 0, 4294967295⟩

abbrev KS_SLOT_W2_PGEN (i : Nat) : Fld := ⟨⟨277, i, 0, 0⟩, 32, 0, .ro, 0, 4294967295⟩

abbrev TAMPER_CFG_LOCK : Fld := ⟨⟨278, 0, 0, 31⟩, 1, 0, .w1s, 0, 1⟩
abbrev TAMPER_CFG_TEMP_EN : Fld := ⟨⟨278, 0, 0, 7⟩, 1, 1, .rwl, 0, 1⟩
abbrev TAMPER_CFG_VBAT_EN : Fld := ⟨⟨278, 0, 0, 6⟩, 1, 1, .rwl, 0, 1⟩
abbrev TAMPER_CFG_IN_EN : Fld := ⟨⟨278, 0, 0, 0⟩, 4, 0, .rwl, 0, 15⟩

abbrev TAMPER_STATUS_TAMPERED : Fld := ⟨⟨279, 0, 0, 31⟩, 1, 0, .ro, 0, 1⟩
abbrev TAMPER_STATUS_REFUSED : Fld := ⟨⟨279, 0, 0, 30⟩, 1, 0, .w1c, 0, 1⟩
abbrev TAMPER_STATUS_TEMP_HI : Fld := ⟨⟨279, 0, 0, 11⟩, 1, 0, .ro, 0, 1⟩
abbrev TAMPER_STATUS_TEMP_LO : Fld := ⟨⟨279, 0, 0, 10⟩, 1, 0, .ro, 0, 1⟩
abbrev TAMPER_STATUS_VBAT_HI : Fld := ⟨⟨279, 0, 0, 9⟩, 1, 0, .ro, 0, 1⟩
abbrev TAMPER_STATUS_VBAT_LO : Fld := ⟨⟨279, 0, 0, 8⟩, 1, 0, .ro, 0, 1⟩
abbrev TAMPER_STATUS_IN : Fld := ⟨⟨279, 0, 0, 4⟩, 4, 0, .ro, 0, 15⟩
abbrev TAMPER_STATUS_LIVE : Fld := ⟨⟨279, 0, 0, 0⟩, 4, 0, .ro, 0, 15⟩

abbrev TAMPER_OH_SECONDS : Fld := ⟨⟨280, 0, 0, 0⟩, 32, 0, .ro, 0, 4294967295⟩

abbrev TAMPER_MS_COUNT : Fld := ⟨⟨281, 0, 0, 16⟩, 16, 0, .ro, 0, 65535⟩
abbrev TAMPER_MS_MS : Fld := ⟨⟨281, 0, 0, 0⟩, 10, 0, .ro, 0, 1023⟩

abbrev TAMPER_CTRL_KEY : Fld := ⟨⟨282, 0, 0, 16⟩, 16, 0, .wo, 0, 65535⟩
abbrev TAMPER_CTRL_CLEAR : Fld := ⟨⟨282, 0, 0, 0⟩, 1, 0, .wo, 0, 1⟩

/-! ## spec/19_event_recorder.md -/

abbrev REC_CTRL_CIVIL_EN : Fld := ⟨⟨283, 0, 0, 31⟩, 1, 1, .rw, 0, 1⟩
abbrev REC_CTRL_RETEST : Fld := ⟨⟨283, 0, 0, 30⟩, 1, 0, .wo, 0, 1⟩

abbrev REC_STATUS_MAIN_FAULT : Fld := ⟨⟨284, 0, 0, 31⟩, 1, 0, .ro, 0, 1⟩
abbrev REC_STATUS_RES_FAULT : Fld := ⟨⟨284, 0, 0, 30⟩, 1, 0, .ro, 0, 1⟩
abbrev REC_STATUS_RETESTING : Fld := ⟨⟨284, 0, 0, 29⟩, 1, 0, .ro, 0, 1⟩
abbrev REC_STATUS_RESTORE_OPEN : Fld := ⟨⟨284, 0, 0, 28⟩, 1, 0, .ro, 0, 1⟩
abbrev REC_STATUS_RES_USED : Fld := ⟨⟨284, 0, 0, 0⟩, 9, 0, .ro, 0, 511⟩

abbrev REC_HEAD_INDEX : Fld := ⟨⟨285, 0, 0, 0⟩, 15, 0, .ro, 0, 32767⟩

abbrev REC_LAST_SEQ_SEQ : Fld := ⟨⟨286, 0, 0, 0⟩, 32, 0, .ro, 0, 4294967295⟩

abbrev REC_CNT_QUEUE_DROP : Fld := ⟨⟨287, 0, 0, 16⟩, 16, 0, .rc, 0, 65535⟩
abbrev REC_CNT_CE_COUNT : Fld := ⟨⟨287, 0, 0, 0⟩, 16, 0, .rc, 0, 65535⟩

abbrev REC_WRAP_WRAP : Fld := ⟨⟨288, 0, 0, 0⟩, 16, 0, .ro, 0, 65535⟩

abbrev REC_CURSOR_STEP (i : Nat) : Fld := ⟨⟨289, i, 0, 31⟩, 1, 0, .wo, 0, 1⟩
abbrev REC_CURSOR_RING (i : Nat) : Fld := ⟨⟨289, i, 0, 30⟩, 1, 0, .rw, 0, 1⟩
abbrev REC_CURSOR_INDEX (i : Nat) : Fld := ⟨⟨289, i, 0, 0⟩, 15, 0, .rw, 0, 32767⟩

abbrev REC_WIN_WORD (i j : Nat) : Fld := ⟨⟨290, i, j, 0⟩, 32, 0, .ro, 0, 4294967295⟩

abbrev REC_WIN_SEQ_SEQ (i : Nat) : Fld := ⟨⟨291, i, 0, 0⟩, 32, 0, .ro, 0, 4294967295⟩

abbrev REC_AON_OH_SECONDS : Fld := ⟨⟨292, 0, 0, 0⟩, 32, 0, .ro, 0, 4294967295⟩

abbrev REC_AON_MS_PCC : Fld := ⟨⟨293, 0, 0, 0⟩, 24, 0, .ro, 0, 16777215⟩

abbrev REC_AON_LOST_LOST_EVENTS : Fld := ⟨⟨294, 0, 0, 0⟩, 32, 0, .ro, 0, 4294967295⟩

abbrev REC_AON_SUB_MS : Fld := ⟨⟨295, 0, 0, 0⟩, 10, 0, .ro, 0, 1023⟩

abbrev REC_RESTORE_VALUE : Fld := ⟨⟨296, 0, 0, 0⟩, 32, 0, .wo, 0, 4294967295⟩

/-! ## spec/20_metrology_partition.md -/

abbrev MET_STATUS_SEAL_OPEN : Fld := ⟨⟨297, 0, 0, 31⟩, 1, 0, .ro, 0, 1⟩
abbrev MET_STATUS_ACCT_FULL : Fld := ⟨⟨297, 0, 0, 30⟩, 1, 0, .ro, 0, 1⟩
abbrev MET_STATUS_AUDIT_LOW : Fld := ⟨⟨297, 0, 0, 29⟩, 1, 0, .ro, 0, 1⟩
abbrev MET_STATUS_AUDIT_TORN : Fld := ⟨⟨297, 0, 0, 28⟩, 1, 0, .ro, 0, 1⟩
abbrev MET_STATUS_IMAGE_MISMATCH : Fld := ⟨⟨297, 0, 0, 27⟩, 1, 0, .ro, 0, 1⟩
abbrev MET_STATUS_AUDIT_CNT : Fld := ⟨⟨297, 0, 0, 0⟩, 12, 0, .ro, 0, 4095⟩

abbrev MET_STATUS2_AUDIT_FULL : Fld := ⟨⟨298, 0, 0, 31⟩, 1, 0, .ro, 0, 1⟩
abbrev MET_STATUS2_ACCOUNTS : Fld := ⟨⟨298, 0, 0, 0⟩, 11, 0, .ro, 0, 2047⟩

abbrev MET_SESSION_SESSION : Fld := ⟨⟨299, 0, 0, 0⟩, 32, 0, .ro, 0, 4294967295⟩

abbrev MET_CNT_COPY_DROP : Fld := ⟨⟨300, 0, 0, 0⟩, 32, 0, .rc, 0, 4294967295⟩

abbrev MET_CNT2_GAPS : Fld := ⟨⟨301, 0, 0, 16⟩, 16, 0, .rc, 0, 65535⟩
abbrev MET_CNT2_UNMEASURED : Fld := ⟨⟨301, 0, 0, 0⟩, 16, 0, .rc, 0, 65535⟩

abbrev MP_CRC_CRC : Fld := ⟨⟨302, 0, 0, 0⟩, 32, 0, .ro, 0, 4294967295⟩

abbrev MP_VERSION_TEXT (i : Nat) : Fld := ⟨⟨303, i, 0, 0⟩, 32, 0, .ro, 0, 4294967295⟩

/-! ## spec/21_memory_arbiters_crc.md -/

abbrev DDR_CFG_LOCK (i : Nat) : Fld := ⟨⟨304, i, 0, 31⟩, 1, 0, .w1s, 0, 1⟩
abbrev DDR_CFG_STATE (i : Nat) : Fld := ⟨⟨304, i, 0, 29⟩, 2, 0, .ro, 0, 3⟩
abbrev DDR_CFG_RANKS (i : Nat) : Fld := ⟨⟨304, i, 0, 24⟩, 2, 0, .rwl, 0, 2⟩
abbrev DDR_CFG_DENSITY (i : Nat) : Fld := ⟨⟨304, i, 0, 23⟩, 1, 0, .rwl, 0, 1⟩

abbrev ECC_CNT_CE (i : Nat) : Fld := ⟨⟨305, i, 0, 16⟩, 16, 0, .rc, 0, 65535⟩
abbrev ECC_CNT_UE (i : Nat) : Fld := ⟨⟨305, i, 0, 0⟩, 16, 0, .rc, 0, 65535⟩

abbrev ECC_CE_ADDR_LO_ADDR (i : Nat) : Fld := ⟨⟨306, i, 0, 0⟩, 32, 0, .ro, 0, 4294967295⟩

abbrev ECC_CE_ADDR_HI_ADDR (i : Nat) : Fld := ⟨⟨307, i, 0, 0⟩, 8, 0, .ro, 0, 255⟩

abbrev ECC_UE_ADDR_LO_ADDR (i : Nat) : Fld := ⟨⟨308, i, 0, 0⟩, 32, 0, .ro, 0, 4294967295⟩

abbrev ECC_UE_ADDR_HI_ADDR (i : Nat) : Fld := ⟨⟨309, i, 0, 0⟩, 8, 0, .ro, 0, 255⟩

abbrev ECC_STATUS_UE (i : Nat) : Fld := ⟨⟨310, i, 0, 31⟩, 1, 0, .w1c, 0, 1⟩
abbrev ECC_STATUS_SCRUB_LATE (i : Nat) : Fld := ⟨⟨310, i, 0, 30⟩, 1, 0, .w1c, 0, 1⟩
abbrev ECC_STATUS_SWEEPS (i : Nat) : Fld := ⟨⟨310, i, 0, 0⟩, 16, 0, .rc, 0, 65535⟩

abbrev SCRUB_CFG_EN (i : Nat) : Fld := ⟨⟨311, i, 0, 31⟩, 1, 1, .rw, 0, 1⟩
abbrev SCRUB_CFG_HOURS (i : Nat) : Fld := ⟨⟨311, i, 0, 0⟩, 8, 24, .rw, 1, 255⟩

abbrev SCRUB_POS_BURST (i : Nat) : Fld := ⟨⟨312, i, 0, 0⟩, 32, 0, .ro, 0, 4294967295⟩

abbrev ECC_INJ_BITS (i : Nat) : Fld := ⟨⟨313, i, 0, 30⟩, 2, 0, .wo, 0, 3⟩

abbrev ECC_SRAM_SRAM_CE : Fld := ⟨⟨314, 0, 0, 16⟩, 16, 0, .rc, 0, 65535⟩
abbrev ECC_SRAM_SRAM_UE : Fld := ⟨⟨314, 0, 0, 0⟩, 16, 0, .rc, 0, 65535⟩

abbrev ARB_CLASS_CLASS_15 (i : Nat) : Fld := ⟨⟨315, i, 0, 30⟩, 2, 2, .rwt, 0, 3⟩
abbrev ARB_CLASS_CLASS_14 (i : Nat) : Fld := ⟨⟨315, i, 0, 28⟩, 2, 3, .rwt, 0, 3⟩
abbrev ARB_CLASS_CLASS_13 (i : Nat) : Fld := ⟨⟨315, i, 0, 26⟩, 2, 3, .rwt, 0, 3⟩
abbrev ARB_CLASS_CLASS_12 (i : Nat) : Fld := ⟨⟨315, i, 0, 24⟩, 2, 2, .rwt, 0, 3⟩
abbrev ARB_CLASS_CLASS_11 (i : Nat) : Fld := ⟨⟨315, i, 0, 22⟩, 2, 0, .rwt, 0, 3⟩
abbrev ARB_CLASS_CLASS_10 (i : Nat) : Fld := ⟨⟨315, i, 0, 20⟩, 2, 1, .rwt, 0, 3⟩
abbrev ARB_CLASS_CLASS_9 (i : Nat) : Fld := ⟨⟨315, i, 0, 18⟩, 2, 3, .rwt, 0, 3⟩
abbrev ARB_CLASS_CLASS_8 (i : Nat) : Fld := ⟨⟨315, i, 0, 16⟩, 2, 1, .rwt, 0, 3⟩
abbrev ARB_CLASS_CLASS_7 (i : Nat) : Fld := ⟨⟨315, i, 0, 14⟩, 2, 1, .rwt, 0, 3⟩
abbrev ARB_CLASS_CLASS_6 (i : Nat) : Fld := ⟨⟨315, i, 0, 12⟩, 2, 0, .rwt, 0, 3⟩
abbrev ARB_CLASS_CLASS_5 (i : Nat) : Fld := ⟨⟨315, i, 0, 10⟩, 2, 0, .rwt, 0, 3⟩
abbrev ARB_CLASS_CLASS_4 (i : Nat) : Fld := ⟨⟨315, i, 0, 8⟩, 2, 1, .rwt, 0, 3⟩
abbrev ARB_CLASS_CLASS_3 (i : Nat) : Fld := ⟨⟨315, i, 0, 6⟩, 2, 1, .rwt, 0, 3⟩
abbrev ARB_CLASS_CLASS_2 (i : Nat) : Fld := ⟨⟨315, i, 0, 4⟩, 2, 1, .rwt, 0, 3⟩
abbrev ARB_CLASS_CLASS_1 (i : Nat) : Fld := ⟨⟨315, i, 0, 2⟩, 2, 2, .rwt, 0, 3⟩
abbrev ARB_CLASS_CLASS_0 (i : Nat) : Fld := ⟨⟨315, i, 0, 0⟩, 2, 2, .rwt, 0, 3⟩

abbrev ARB_CTRL_STARVE_LIMIT (i : Nat) : Fld := ⟨⟨316, i, 0, 0⟩, 24, 8192, .rw, 1, 16777215⟩

abbrev ARB_STARVE_STARVE (i : Nat) : Fld := ⟨⟨317, i, 0, 0⟩, 16, 0, .w1c, 0, 65535⟩

abbrev ARB_GRANT_LO_GRANT (i j : Nat) : Fld := ⟨⟨318, i, j, 0⟩, 32, 0, .ro, 0, 4294967295⟩

abbrev ARB_GRANT_HI_GRANT (i j : Nat) : Fld := ⟨⟨319, i, j, 0⟩, 16, 0, .ro, 0, 65535⟩

abbrev ARB_WAIT_LO_WAIT (i j : Nat) : Fld := ⟨⟨320, i, j, 0⟩, 32, 0, .ro, 0, 4294967295⟩

abbrev ARB_WAIT_HI_WAIT (i j : Nat) : Fld := ⟨⟨321, i, j, 0⟩, 16, 0, .ro, 0, 65535⟩

abbrev ARB_LONGEST_LONGEST (i j : Nat) : Fld := ⟨⟨322, i, j, 0⟩, 32, 0, .rc, 0, 4294967295⟩

abbrev ARB_VOID_VOID (i j : Nat) : Fld := ⟨⟨323, i, j, 0⟩, 32, 0, .rc, 0, 4294967295⟩

abbrev CRC_CTRL_TAKE (i : Nat) : Fld := ⟨⟨324, i, 0, 31⟩, 1, 0, .wo, 0, 1⟩
abbrev CRC_CTRL_RELEASE (i : Nat) : Fld := ⟨⟨324, i, 0, 30⟩, 1, 0, .wo, 0, 1⟩
abbrev CRC_CTRL_CLEAR (i : Nat) : Fld := ⟨⟨324, i, 0, 29⟩, 1, 0, .wo, 0, 1⟩
abbrev CRC_CTRL_REFIN (i : Nat) : Fld := ⟨⟨324, i, 0, 28⟩, 1, (crcFixRef i), (crcCfgAcc i), 0, 1⟩
abbrev CRC_CTRL_REFOUT (i : Nat) : Fld := ⟨⟨324, i, 0, 27⟩, 1, (crcFixRef i), (crcCfgAcc i), 0, 1⟩
abbrev CRC_CTRL_PER_FRAME (i : Nat) : Fld := ⟨⟨324, i, 0, 26⟩, 1, 0, (crcCfgAcc i), 0, 1⟩
abbrev CRC_CTRL_W (i : Nat) : Fld := ⟨⟨324, i, 0, 16⟩, 7, (crcFixW i), (crcCfgAcc i), 1, 64⟩
abbrev CRC_CTRL_OWNER (i : Nat) : Fld := ⟨⟨324, i, 0, 8⟩, 6, 0, .ro, 0, 63⟩
abbrev CRC_CTRL_SNOOP_SRC (i : Nat) : Fld := ⟨⟨324, i, 0, 0⟩, 6, 0, .rw, 0, 32⟩

abbrev CRC_POLY_LO_POLY (i : Nat) : Fld := ⟨⟨325, i, 0, 0⟩, 32, (crcFixPoly i), (crcCfgAcc i), 0, 4294967295⟩

abbrev CRC_POLY_HI_POLY (i : Nat) : Fld := ⟨⟨326, i, 0, 0⟩, 32, 0, (crcCfgAcc i), 0, 4294967295⟩

abbrev CRC_INIT_LO_INIT (i : Nat) : Fld := ⟨⟨327, i, 0, 0⟩, 32, (crcFixInit i), (crcCfgAcc i), 0, 4294967295⟩

abbrev CRC_INIT_HI_INIT (i : Nat) : Fld := ⟨⟨328, i, 0, 0⟩, 32, 0, (crcCfgAcc i), 0, 4294967295⟩

abbrev CRC_XOR_LO_XOROUT (i : Nat) : Fld := ⟨⟨329, i, 0, 0⟩, 32, (crcFixInit i), (crcCfgAcc i), 0, 4294967295⟩

abbrev CRC_XOR_HI_XOROUT (i : Nat) : Fld := ⟨⟨330, i, 0, 0⟩, 32, 0, (crcCfgAcc i), 0, 4294967295⟩

abbrev CRC_STATE_LO_STATE (i : Nat) : Fld := ⟨⟨331, i, 0, 0⟩, 32, 0, .rw, 0, 4294967295⟩

abbrev CRC_STATE_HI_STATE (i : Nat) : Fld := ⟨⟨332, i, 0, 0⟩, 32, 0, .rw, 0, 4294967295⟩

abbrev CRC_RESULT_LO_RESULT (i : Nat) : Fld := ⟨⟨333, i, 0, 0⟩, 32, 0, .ro, 0, 4294967295⟩

abbrev CRC_RESULT_HI_RESULT (i : Nat) : Fld := ⟨⟨334, i, 0, 0⟩, 32, 0, .ro, 0, 4294967295⟩

abbrev CRC_BYTES_LO_BYTES (i : Nat) : Fld := ⟨⟨335, i, 0, 0⟩, 32, 0, .ro, 0, 4294967295⟩

abbrev CRC_BYTES_HI_BYTES (i : Nat) : Fld := ⟨⟨336, i, 0, 0⟩, 32, 0, .ro, 0, 4294967295⟩

abbrev CRC_STATUS_BUSY (i : Nat) : Fld := ⟨⟨337, i, 0, 31⟩, 1, 0, .ro, 0, 1⟩
abbrev CRC_STATUS_DONE (i : Nat) : Fld := ⟨⟨337, i, 0, 30⟩, 1, 0, .w1c, 0, 1⟩
abbrev CRC_STATUS_ERROR (i : Nat) : Fld := ⟨⟨337, i, 0, 29⟩, 1, 0, .w1c, 0, 1⟩
abbrev CRC_STATUS_CAUSE (i : Nat) : Fld := ⟨⟨337, i, 0, 26⟩, 3, 0, .ro, 0, 7⟩
abbrev CRC_STATUS_FRAMES (i : Nat) : Fld := ⟨⟨337, i, 0, 0⟩, 26, 0, .ro, 0, 67108863⟩

abbrev CRC_SCAN_START_LO_START (i : Nat) : Fld := ⟨⟨338, i, 0, 0⟩, 32, 0, .rw, 0, 4294967295⟩

abbrev CRC_SCAN_START_HI_START (i : Nat) : Fld := ⟨⟨339, i, 0, 0⟩, 8, 0, .rw, 0, 255⟩

abbrev CRC_SCAN_LEN_LENGTH (i : Nat) : Fld := ⟨⟨340, i, 0, 0⟩, 32, 0, .rw, 1, 4294967295⟩

abbrev CRC_SCAN_GO_GO (i : Nat) : Fld := ⟨⟨341, i, 0, 0⟩, 1, 0, .wo, 0, 1⟩

abbrev CRC_FEED_DATA (i : Nat) : Fld := ⟨⟨342, i, 0, 0⟩, 32, 0, .wo, 0, 4294967295⟩

abbrev CRC_FEED_B_DATA (i : Nat) : Fld := ⟨⟨343, i, 0, 0⟩, 8, 0, .wo, 0, 255⟩

/-! ## spec/22_site_io_and_sensing.md -/

abbrev UART_CFG_FUNC (i : Nat) : Fld := ⟨⟨344, i, 0, 30⟩, 2, 0, .rw, 0, 2⟩
abbrev UART_CFG_FLOW (i : Nat) : Fld := ⟨⟨344, i, 0, 29⟩, 1, 0, .rw, 0, 1⟩
abbrev UART_CFG_PARITY (i : Nat) : Fld := ⟨⟨344, i, 0, 27⟩, 2, 0, .rw, 0, 2⟩
abbrev UART_CFG_STOP2 (i : Nat) : Fld := ⟨⟨344, i, 0, 26⟩, 1, 0, .rw, 0, 1⟩
abbrev UART_CFG_DIV (i : Nat) : Fld := ⟨⟨344, i, 0, 0⟩, 16, 868, .rw, 17, 65535⟩

abbrev UART_STATUS_OWNED (i : Nat) : Fld := ⟨⟨345, i, 0, 31⟩, 1, 0, .ro, 0, 1⟩
abbrev UART_STATUS_TX_USED (i : Nat) : Fld := ⟨⟨345, i, 0, 16⟩, 13, 0, .ro, 0, 8191⟩
abbrev UART_STATUS_RX_USED (i : Nat) : Fld := ⟨⟨345, i, 0, 0⟩, 11, 0, .ro, 0, 2047⟩

abbrev UART_DATA_PARITY_ERR (i : Nat) : Fld := ⟨⟨346, i, 0, 10⟩, 1, 0, .ro, 0, 1⟩
abbrev UART_DATA_FRAME_ERR (i : Nat) : Fld := ⟨⟨346, i, 0, 9⟩, 1, 0, .ro, 0, 1⟩
abbrev UART_DATA_VALID (i : Nat) : Fld := ⟨⟨346, i, 0, 8⟩, 1, 0, .ro, 0, 1⟩
abbrev UART_DATA_BYTE (i : Nat) : Fld := ⟨⟨346, i, 0, 0⟩, 8, 0, .rw, 0, 255⟩

abbrev UART_CNT_RX_OVR (i : Nat) : Fld := ⟨⟨347, i, 0, 24⟩, 8, 0, .rc, 0, 255⟩
abbrev UART_CNT_RX_ERR (i : Nat) : Fld := ⟨⟨347, i, 0, 16⟩, 8, 0, .rc, 0, 255⟩
abbrev UART_CNT_TX_DROP (i : Nat) : Fld := ⟨⟨347, i, 0, 8⟩, 8, 0, .rc, 0, 255⟩
abbrev UART_CNT_RTCM_DROP (i : Nat) : Fld := ⟨⟨347, i, 0, 0⟩, 8, 0, .rc, 0, 255⟩

abbrev I2C_CMD_GO (i : Nat) : Fld := ⟨⟨348, i, 0, 31⟩, 1, 0, .wo, 0, 1⟩
abbrev I2C_CMD_SPEED (i : Nat) : Fld := ⟨⟨348, i, 0, 29⟩, 2, 0, .rw, 0, 2⟩
abbrev I2C_CMD_ADDR (i : Nat) : Fld := ⟨⟨348, i, 0, 22⟩, 7, 0, .rw, 0, 127⟩
abbrev I2C_CMD_WLEN (i : Nat) : Fld := ⟨⟨348, i, 0, 12⟩, 6, 0, .rw, 0, 32⟩
abbrev I2C_CMD_RLEN (i : Nat) : Fld := ⟨⟨348, i, 0, 0⟩, 6, 0, .rw, 0, 32⟩

abbrev I2C_STATUS_BUSY (i : Nat) : Fld := ⟨⟨349, i, 0, 31⟩, 1, 0, .ro, 0, 1⟩
abbrev I2C_STATUS_DONE (i : Nat) : Fld := ⟨⟨349, i, 0, 30⟩, 1, 0, .w1c, 0, 1⟩
abbrev I2C_STATUS_RESULT (i : Nat) : Fld := ⟨⟨349, i, 0, 27⟩, 3, 0, .ro, 0, 7⟩
abbrev I2C_STATUS_COUNT (i : Nat) : Fld := ⟨⟨349, i, 0, 0⟩, 6, 0, .ro, 0, 63⟩

abbrev I2C_BUF_DATA (i j : Nat) : Fld := ⟨⟨350, i, j, 0⟩, 32, 0, .rw, 0, 4294967295⟩

abbrev CAN_CFG_EN (i : Nat) : Fld := ⟨⟨351, i, 0, 31⟩, 1, 0, .rw, 0, 1⟩
abbrev CAN_CFG_FD (i : Nat) : Fld := ⟨⟨351, i, 0, 30⟩, 1, 1, .rw, 0, 1⟩
abbrev CAN_CFG_AUTO_RECOVER (i : Nat) : Fld := ⟨⟨351, i, 0, 29⟩, 1, 1, .rw, 0, 1⟩
abbrev CAN_CFG_TDC_EN (i : Nat) : Fld := ⟨⟨351, i, 0, 28⟩, 1, 1, .rw, 0, 1⟩
abbrev CAN_CFG_TDCO (i : Nat) : Fld := ⟨⟨351, i, 0, 16⟩, 8, 0, .rw, 0, 255⟩

abbrev CAN_NBT_BRP (i : Nat) : Fld := ⟨⟨352, i, 0, 27⟩, 5, 0, .rw, 0, 31⟩
abbrev CAN_NBT_TSEG1 (i : Nat) : Fld := ⟨⟨352, i, 0, 19⟩, 8, 158, .rw, 0, 255⟩
abbrev CAN_NBT_TSEG2 (i : Nat) : Fld := ⟨⟨352, i, 0, 12⟩, 7, 39, .rw, 0, 127⟩
abbrev CAN_NBT_SJW (i : Nat) : Fld := ⟨⟨352, i, 0, 5⟩, 7, 39, .rw, 0, 127⟩

abbrev CAN_DBT_BRP (i : Nat) : Fld := ⟨⟨353, i, 0, 27⟩, 5, 1, .rw, 0, 31⟩
abbrev CAN_DBT_TSEG1 (i : Nat) : Fld := ⟨⟨353, i, 0, 22⟩, 5, 18, .rw, 0, 31⟩
abbrev CAN_DBT_TSEG2 (i : Nat) : Fld := ⟨⟨353, i, 0, 18⟩, 4, 4, .rw, 0, 15⟩
abbrev CAN_DBT_SJW (i : Nat) : Fld := ⟨⟨353, i, 0, 14⟩, 4, 4, .rw, 0, 15⟩

abbrev CAN_STATUS_STATE (i : Nat) : Fld := ⟨⟨354, i, 0, 30⟩, 2, 3, .ro, 0, 3⟩
abbrev CAN_STATUS_REC (i : Nat) : Fld := ⟨⟨354, i, 0, 16⟩, 8, 0, .ro, 0, 255⟩
abbrev CAN_STATUS_TEC (i : Nat) : Fld := ⟨⟨354, i, 0, 8⟩, 8, 0, .ro, 0, 255⟩
abbrev CAN_STATUS_RX_USED (i : Nat) : Fld := ⟨⟨354, i, 0, 0⟩, 7, 0, .ro, 0, 127⟩

abbrev CAN_CNT_RX_OVR (i : Nat) : Fld := ⟨⟨355, i, 0, 16⟩, 16, 0, .rc, 0, 65535⟩
abbrev CAN_CNT_BUS_OFF (i : Nat) : Fld := ⟨⟨355, i, 0, 8⟩, 8, 0, .rc, 0, 255⟩

abbrev CAN_FILT_ID_EN (i j : Nat) : Fld := ⟨⟨356, i, j, 31⟩, 1, 0, .rw, 0, 1⟩
abbrev CAN_FILT_ID_IDE (i j : Nat) : Fld := ⟨⟨356, i, j, 30⟩, 1, 0, .rw, 0, 1⟩
abbrev CAN_FILT_ID_ID (i j : Nat) : Fld := ⟨⟨356, i, j, 0⟩, 29, 0, .rw, 0, 536870911⟩

abbrev CAN_FILT_MASK_MASK (i j : Nat) : Fld := ⟨⟨357, i, j, 0⟩, 29, 0, .rw, 0, 536870911⟩

abbrev CAN_RX_W0_IDE (i : Nat) : Fld := ⟨⟨358, i, 0, 31⟩, 1, 0, .ro, 0, 1⟩
abbrev CAN_RX_W0_FDF (i : Nat) : Fld := ⟨⟨358, i, 0, 30⟩, 1, 0, .ro, 0, 1⟩
abbrev CAN_RX_W0_BRS (i : Nat) : Fld := ⟨⟨358, i, 0, 29⟩, 1, 0, .ro, 0, 1⟩
abbrev CAN_RX_W0_ID (i : Nat) : Fld := ⟨⟨358, i, 0, 0⟩, 29, 0, .ro, 0, 536870911⟩

abbrev CAN_RX_W1_FILTER (i : Nat) : Fld := ⟨⟨359, i, 0, 27⟩, 5, 0, .ro, 0, 31⟩
abbrev CAN_RX_W1_DLC (i : Nat) : Fld := ⟨⟨359, i, 0, 23⟩, 4, 0, .ro, 0, 15⟩
abbrev CAN_RX_W1_LEN (i : Nat) : Fld := ⟨⟨359, i, 0, 16⟩, 7, 0, .ro, 0, 127⟩

abbrev CAN_RX_W2_PLY (i : Nat) : Fld := ⟨⟨360, i, 0, 0⟩, 32, 0, .ro, 0, 4294967295⟩

abbrev CAN_RX_D_DATA (i j : Nat) : Fld := ⟨⟨361, i, j, 0⟩, 32, 0, .ro, 0, 4294967295⟩

abbrev CAN_RX_POP_POP (i : Nat) : Fld := ⟨⟨362, i, 0, 0⟩, 1, 0, .wo, 0, 1⟩

abbrev CAN_TX_W0_IDE (i : Nat) : Fld := ⟨⟨363, i, 0, 31⟩, 1, 0, .rw, 0, 1⟩
abbrev CAN_TX_W0_FDF (i : Nat) : Fld := ⟨⟨363, i, 0, 30⟩, 1, 0, .rw, 0, 1⟩
abbrev CAN_TX_W0_BRS (i : Nat) : Fld := ⟨⟨363, i, 0, 29⟩, 1, 0, .rw, 0, 1⟩
abbrev CAN_TX_W0_ID (i : Nat) : Fld := ⟨⟨363, i, 0, 0⟩, 29, 0, .rw, 0, 536870911⟩

abbrev CAN_TX_W1_DLC (i : Nat) : Fld := ⟨⟨364, i, 0, 0⟩, 4, 0, .rw, 0, 15⟩

abbrev CAN_TX_D_DATA (i j : Nat) : Fld := ⟨⟨365, i, j, 0⟩, 32, 0, .rw, 0, 4294967295⟩

abbrev CAN_TXCMD_GO (i : Nat) : Fld := ⟨⟨366, i, 0, 31⟩, 1, 0, .wo, 0, 1⟩
abbrev CAN_TXCMD_ABORT (i : Nat) : Fld := ⟨⟨366, i, 0, 30⟩, 1, 0, .wo, 0, 1⟩
abbrev CAN_TXCMD_BUF (i : Nat) : Fld := ⟨⟨366, i, 0, 0⟩, 5, 0, .wo, 0, 31⟩

abbrev CAN_TXPEND_PENDING (i : Nat) : Fld := ⟨⟨367, i, 0, 0⟩, 32, 0, .ro, 0, 4294967295⟩

abbrev CAN_TXDONE_SENT (i : Nat) : Fld := ⟨⟨368, i, 0, 0⟩, 32, 0, .w1c, 0, 4294967295⟩

abbrev ADC_CTRL_EN : Fld := ⟨⟨369, 0, 0, 31⟩, 1, 1, .rw, 0, 1⟩
abbrev ADC_CTRL_N : Fld := ⟨⟨369, 0, 0, 4⟩, 4, 4, .rw, 1, 15⟩

abbrev ADC_FLAGS_HIGH : Fld := ⟨⟨370, 0, 0, 16⟩, 16, 0, .w1c, 0, 65535⟩
abbrev ADC_FLAGS_LOW : Fld := ⟨⟨370, 0, 0, 0⟩, 16, 0, .w1c, 0, 65535⟩

abbrev ADC_LIVE_HIGH_NOW : Fld := ⟨⟨371, 0, 0, 16⟩, 16, 0, .ro, 0, 65535⟩
abbrev ADC_LIVE_LOW_NOW : Fld := ⟨⟨371, 0, 0, 0⟩, 16, 0, .ro, 0, 65535⟩

abbrev ADC_CH_W0_VALUE (i : Nat) : Fld := ⟨⟨372, i, 0, 16⟩, 16, 0, .ro, 0, 65535⟩
abbrev ADC_CH_W0_CODE (i : Nat) : Fld := ⟨⟨372, i, 0, 0⟩, 12, 0, .ro, 0, 4095⟩

abbrev ADC_CH_W1_HIGH (i : Nat) : Fld := ⟨⟨373, i, 0, 16⟩, 16, (adcHighRst i), .rw, 0, 65535⟩
abbrev ADC_CH_W1_LOW (i : Nat) : Fld := ⟨⟨373, i, 0, 0⟩, 16, (adcLowRst i), .rw, 0, 65535⟩

abbrev ADC_CH_W2_MAX (i : Nat) : Fld := ⟨⟨374, i, 0, 16⟩, 16, 0, .rc, 0, 65535⟩
abbrev ADC_CH_W2_MIN (i : Nat) : Fld := ⟨⟨374, i, 0, 0⟩, 16, 0, .rc, 0, 65535⟩

abbrev ADC_CH_W3_HYST (i : Nat) : Fld := ⟨⟨375, i, 0, 0⟩, 16, 20, .rw, 0, 65535⟩

abbrev MDIO_CMD_GO : Fld := ⟨⟨376, 0, 0, 31⟩, 1, 0, .wo, 0, 1⟩
abbrev MDIO_CMD_C45 : Fld := ⟨⟨376, 0, 0, 30⟩, 1, 0, .rw, 0, 1⟩
abbrev MDIO_CMD_OP : Fld := ⟨⟨376, 0, 0, 28⟩, 2, 0, .rw, 0, 3⟩
abbrev MDIO_CMD_PHY : Fld := ⟨⟨376, 0, 0, 23⟩, 5, 0, .rw, 0, 31⟩
abbrev MDIO_CMD_REG : Fld := ⟨⟨376, 0, 0, 18⟩, 5, 0, .rw, 0, 31⟩
abbrev MDIO_CMD_DATA : Fld := ⟨⟨376, 0, 0, 0⟩, 16, 0, .rw, 0, 65535⟩

abbrev MDIO_STATUS_BUSY : Fld := ⟨⟨377, 0, 0, 31⟩, 1, 0, .ro, 0, 1⟩
abbrev MDIO_STATUS_DONE : Fld := ⟨⟨377, 0, 0, 30⟩, 1, 0, .w1c, 0, 1⟩
abbrev MDIO_STATUS_RDATA : Fld := ⟨⟨377, 0, 0, 0⟩, 16, 0, .ro, 0, 65535⟩

abbrev MDIO_CFG_MDC_DIV : Fld := ⟨⟨378, 0, 0, 0⟩, 8, 20, .rw, 20, 255⟩

abbrev CABLE_CTRL_GO : Fld := ⟨⟨379, 0, 0, 31⟩, 1, 0, .wo, 0, 1⟩
abbrev CABLE_CTRL_FORCE : Fld := ⟨⟨379, 0, 0, 30⟩, 1, 0, .wo, 0, 1⟩
abbrev CABLE_CTRL_PORT : Fld := ⟨⟨379, 0, 0, 0⟩, 3, 0, .wo, 0, 5⟩

abbrev CABLE_W0_BUSY (i : Nat) : Fld := ⟨⟨380, i, 0, 31⟩, 1, 0, .ro, 0, 1⟩
abbrev CABLE_W0_DONE (i : Nat) : Fld := ⟨⟨380, i, 0, 30⟩, 1, 0, .w1c, 0, 1⟩
abbrev CABLE_W0_REFUSED (i : Nat) : Fld := ⟨⟨380, i, 0, 29⟩, 1, 0, .w1c, 0, 1⟩
abbrev CABLE_W0_ST_D (i : Nat) : Fld := ⟨⟨380, i, 0, 12⟩, 4, 5, .ro, 0, 15⟩
abbrev CABLE_W0_ST_C (i : Nat) : Fld := ⟨⟨380, i, 0, 8⟩, 4, 5, .ro, 0, 15⟩
abbrev CABLE_W0_ST_B (i : Nat) : Fld := ⟨⟨380, i, 0, 4⟩, 4, 5, .ro, 0, 15⟩
abbrev CABLE_W0_ST_A (i : Nat) : Fld := ⟨⟨380, i, 0, 0⟩, 4, 5, .ro, 0, 15⟩

abbrev CABLE_W1_LEN_B (i : Nat) : Fld := ⟨⟨381, i, 0, 16⟩, 16, 0, .ro, 0, 65535⟩
abbrev CABLE_W1_LEN_A (i : Nat) : Fld := ⟨⟨381, i, 0, 0⟩, 16, 0, .ro, 0, 65535⟩

abbrev CABLE_W2_LEN_D (i : Nat) : Fld := ⟨⟨382, i, 0, 16⟩, 16, 0, .ro, 0, 65535⟩
abbrev CABLE_W2_LEN_C (i : Nat) : Fld := ⟨⟨382, i, 0, 0⟩, 16, 0, .ro, 0, 65535⟩

abbrev CABLE_W3_OH_SEC (i : Nat) : Fld := ⟨⟨383, i, 0, 0⟩, 32, 0, .ro, 0, 4294967295⟩

abbrev SITE_IN_SEAL_N : Fld := ⟨⟨384, 0, 0, 8⟩, 1, 0, .ro, 0, 1⟩
abbrev SITE_IN_DOCK : Fld := ⟨⟨384, 0, 0, 0⟩, 8, 0, .ro, 0, 255⟩

/-! ## spec/23_boot_update_monitor.md -/

abbrev BOOT_STATUS_SLOT : Fld := ⟨⟨385, 0, 0, 31⟩, 1, 0, .ro, 0, 1⟩
abbrev BOOT_STATUS_TRIAL : Fld := ⟨⟨385, 0, 0, 30⟩, 1, 0, .ro, 0, 1⟩
abbrev BOOT_STATUS_LOAD_FAIL : Fld := ⟨⟨385, 0, 0, 29⟩, 1, 0, .w1c, 0, 1⟩
abbrev BOOT_STATUS_RECOVERY : Fld := ⟨⟨385, 0, 0, 28⟩, 1, 0, .ro, 0, 1⟩
abbrev BOOT_STATUS_CAUSE : Fld := ⟨⟨385, 0, 0, 24⟩, 4, 0, .ro, 0, 15⟩
abbrev BOOT_STATUS_MIN_SVN : Fld := ⟨⟨385, 0, 0, 0⟩, 8, 0, .ro, 0, 255⟩

abbrev MON_STATUS_DBG_LOCK : Fld := ⟨⟨386, 0, 0, 31⟩, 1, 0, .ro, 0, 1⟩
abbrev MON_STATUS_OPEN : Fld := ⟨⟨386, 0, 0, 30⟩, 1, 0, .ro, 0, 1⟩
abbrev MON_STATUS_HELD : Fld := ⟨⟨386, 0, 0, 29⟩, 1, 0, .ro, 0, 1⟩
abbrev MON_STATUS_LOCKOUT : Fld := ⟨⟨386, 0, 0, 28⟩, 1, 0, .ro, 0, 1⟩
abbrev MON_STATUS_MINUTES : Fld := ⟨⟨386, 0, 0, 0⟩, 9, 0, .ro, 0, 511⟩

/-! ## The record buffers and the navigation ring (R261, R270): what a word reads as stands in `GnssState`, not here -/

abbrev OBS_BUF_WORD (i j : Nat) : Fld := ⟨⟨387, i, j, 0⟩, 32, 0, .ro, 0, 4294967295⟩
abbrev NAV_RING_WORD (i j : Nat) : Fld := ⟨⟨388, i, j, 0⟩, 32, 0, .ro, 0, 4294967295⟩

end Sys2Proof.Machine.R

namespace Sys2Proof.Machine

open R

/-- The registers of block SYS (R678, base 0x40000000). -/
def rowsSYS : List RegRow :=
 [
  ⟨"CLK_STATUS", 0, 0x40000100, 1, 0, 0, 1, 0, 0, .nobody, .single, 3, fun _ _ => [CLK_STATUS_REF_OFFSET, CLK_STATUS_AON_XTAL_OK, CLK_STATUS_REF_FREQ_ERR, CLK_STATUS_NETPLL_HOLD, CLK_STATUS_SYSPLL_HOLD, CLK_STATUS_NETPLL_LOCK, CLK_STATUS_SYSPLL_LOCK, CLK_STATUS_REF_PRESENT]⟩,
  ⟨"CLK_EVENT", 1, 0x40000104, 1, 0, 0, 1, 0, 0, .appsRook, .single, 3, fun _ _ => [CLK_EVENT_NETPLL_UNLOCK, CLK_EVENT_REF_FREQ_ERR_S, CLK_EVENT_REF_RESTORED, CLK_EVENT_REF_LOST]⟩,
  ⟨"PD_CTRL", 2, 0x40000200, 1, 0, 0, 1, 0, 0, .apps, .single, 3, fun _ _ => [PD_CTRL_NET_ON, PD_CTRL_RADIO_ON, PD_CTRL_GNSS_ON, PD_CTRL_FIX_ON, PD_CTRL_CPU_B_ON]⟩,
  ⟨"PD_STATUS", 3, 0x40000204, 1, 0, 0, 1, 0, 0, .apps, .single, 3, fun _ _ => [PD_STATUS_REFUSED, PD_STATUS_BUSY, PD_STATUS_ON]⟩,
  ⟨"NIGHT_CTRL", 4, 0x40000800, 1, 0, 0, 1, 0, 0, .rook, .single, 0, fun _ _ => [NIGHT_CTRL_KEY, NIGHT_CTRL_NIGHT_GO]⟩,
  ⟨"WAKE_CAUSE", 5, 0x40000804, 1, 0, 0, 1, 0, 0, .apps, .single, 0, fun _ _ => [WAKE_CAUSE_ATTEMPTS, WAKE_CAUSE_FROM_NIGHT, WAKE_CAUSE_RAIL_FAIL, WAKE_CAUSE_TAMPER, WAKE_CAUSE_TIMER, WAKE_CAUSE_PIN]⟩,
  ⟨"WAKE_TIMER", 6, 0x40000808, 1, 0, 0, 1, 0, 0, .apps, .single, 0, fun _ _ => [WAKE_TIMER_SECONDS]⟩,
  ⟨"RST_CAUSE", 7, 0x40000300, 1, 0, 0, 1, 0, 0, .nobody, .single, 0, fun _ _ => [RST_CAUSE_CAUSE]⟩,
  ⟨"RST_SEEN", 8, 0x40000304, 1, 0, 0, 1, 0, 0, .nobody, .single, 0, fun _ _ => [RST_SEEN_SEEN]⟩,
  ⟨"RST_CTRL", 9, 0x40000308, 1, 0, 0, 1, 0, 0, .appsRook, .single, 3, fun _ _ => [RST_CTRL_KEY, RST_CTRL_COLD, RST_CTRL_WARM, RST_CTRL_SYS]⟩,
  ⟨"STRAP", 10, 0x40000310, 1, 0, 0, 1, 0, 0, .nobody, .single, 3, fun _ _ => [STRAP_UNSTABLE, STRAP_RAW, STRAP_BOOT, STRAP_ROLE, STRAP_REC_IF, STRAP_CODE]⟩,
  ⟨"TRIM_STATUS", 11, 0x40000320, 1, 0, 0, 1, 0, 0, .nobody, .single, 3, fun _ _ => [TRIM_STATUS_WORD, TRIM_STATUS_ABORTS, TRIM_STATUS_FAILS, TRIM_STATUS_SAFE, TRIM_STATUS_LOADING, TRIM_STATUS_DONE]⟩,
  ⟨"FW_BASE", 26, 0x40001000, 64, 32, 0, 1, 0, 0, .appsBoot, .single, 3, fun i _ => [FW_BASE_ADDR i]⟩,
  ⟨"FW_LIMIT", 27, 0x40001004, 64, 32, 0, 1, 0, 0, .appsBoot, .single, 3, fun i _ => [FW_LIMIT_ADDR i]⟩,
  ⟨"FW_RMASK_LO", 28, 0x40001008, 64, 32, 0, 1, 0, 0, .appsBoot, .single, 3, fun i _ => [FW_RMASK_LO_MASK i]⟩,
  ⟨"FW_RMASK_HI", 29, 0x4000100C, 64, 32, 0, 1, 0, 0, .appsBoot, .single, 3, fun i _ => [FW_RMASK_HI_MASK i]⟩,
  ⟨"FW_WMASK_LO", 30, 0x40001010, 64, 32, 0, 1, 0, 0, .appsBoot, .single, 3, fun i _ => [FW_WMASK_LO_MASK i]⟩,
  ⟨"FW_WMASK_HI", 31, 0x40001014, 64, 32, 0, 1, 0, 0, .appsBoot, .single, 3, fun i _ => [FW_WMASK_HI_MASK i]⟩,
  ⟨"FW_CTRL", 32, 0x40001018, 64, 32, 0, 1, 0, 0, .appsBoot, .single, 3, fun i _ => [FW_CTRL_LOCK i, FW_CTRL_EN i]⟩,
  ⟨"FW_STATUS", 33, 0x40001800, 1, 0, 0, 1, 0, 0, .nobody, .single, 3, fun _ _ => [FW_STATUS_FW_VIOLATIONS]⟩,
  ⟨"STOP_PORT", 243, 0x40000900, 1, 0, 0, 1, 0, 0, .stopPort, .stop, 3, fun i _ => [STOP_PORT_KEY i, STOP_PORT_TARGET i, STOP_PORT_IGNORE_PAIR i, STOP_PORT_CMD i]⟩,
  ⟨"STOP_PORT_RES", 244, 0x40000904, 1, 0, 0, 1, 0, 0, .stopPort, .stop, 3, fun i _ => [STOP_PORT_RES_BLOCKERS i, STOP_PORT_RES_RESULT i]⟩,
  ⟨"UART_CFG", 344, 0x40002000, 4, 64, 0, 1, 0, 0, .apps, .single, 3, fun i _ => [UART_CFG_FUNC i, UART_CFG_FLOW i, UART_CFG_PARITY i, UART_CFG_STOP2 i, UART_CFG_DIV i]⟩,
  ⟨"UART_STATUS", 345, 0x40002004, 4, 64, 0, 1, 0, 0, .apps, .single, 3, fun i _ => [UART_STATUS_OWNED i, UART_STATUS_TX_USED i, UART_STATUS_RX_USED i]⟩,
  ⟨"UART_DATA", 346, 0x40002008, 4, 64, 0, 1, 0, 0, .apps, .single, 3, fun i _ => [UART_DATA_PARITY_ERR i, UART_DATA_FRAME_ERR i, UART_DATA_VALID i, UART_DATA_BYTE i]⟩,
  ⟨"UART_CNT", 347, 0x4000200C, 4, 64, 0, 1, 0, 0, .apps, .single, 3, fun i _ => [UART_CNT_RX_OVR i, UART_CNT_RX_ERR i, UART_CNT_TX_DROP i, UART_CNT_RTCM_DROP i]⟩,
  ⟨"I2C_CMD", 348, 0x40002200, 2, 128, 0, 1, 0, 0, .apps, .single, 3, fun i _ => [I2C_CMD_GO i, I2C_CMD_SPEED i, I2C_CMD_ADDR i, I2C_CMD_WLEN i, I2C_CMD_RLEN i]⟩,
  ⟨"I2C_STATUS", 349, 0x40002204, 2, 128, 0, 1, 0, 0, .apps, .single, 3, fun i _ => [I2C_STATUS_BUSY i, I2C_STATUS_DONE i, I2C_STATUS_RESULT i, I2C_STATUS_COUNT i]⟩,
  ⟨"I2C_BUF", 350, 0x40002240, 2, 128, 0, 8, 4, 0, .apps, .single, 3, fun i j => [I2C_BUF_DATA i j]⟩,
  ⟨"CAN_CFG", 351, 0x40002400, 2, 1024, 0, 1, 0, 0, .apps, .single, 3, fun i _ => [CAN_CFG_EN i, CAN_CFG_FD i, CAN_CFG_AUTO_RECOVER i, CAN_CFG_TDC_EN i, CAN_CFG_TDCO i]⟩ ]

/-- The registers of block SYS (R678, base 0x40000000). -/
def rowsSYS1 : List RegRow :=
 [
  ⟨"CAN_NBT", 352, 0x40002404, 2, 1024, 0, 1, 0, 0, .apps, .single, 3, fun i _ => [CAN_NBT_BRP i, CAN_NBT_TSEG1 i, CAN_NBT_TSEG2 i, CAN_NBT_SJW i]⟩,
  ⟨"CAN_DBT", 353, 0x40002408, 2, 1024, 0, 1, 0, 0, .apps, .single, 3, fun i _ => [CAN_DBT_BRP i, CAN_DBT_TSEG1 i, CAN_DBT_TSEG2 i, CAN_DBT_SJW i]⟩,
  ⟨"CAN_STATUS", 354, 0x4000240C, 2, 1024, 0, 1, 0, 0, .apps, .single, 3, fun i _ => [CAN_STATUS_STATE i, CAN_STATUS_REC i, CAN_STATUS_TEC i, CAN_STATUS_RX_USED i]⟩,
  ⟨"CAN_CNT", 355, 0x40002410, 2, 1024, 0, 1, 0, 0, .apps, .single, 3, fun i _ => [CAN_CNT_RX_OVR i, CAN_CNT_BUS_OFF i]⟩,
  ⟨"CAN_FILT_ID", 356, 0x40002500, 2, 1024, 0, 32, 8, 0, .apps, .single, 3, fun i j => [CAN_FILT_ID_EN i j, CAN_FILT_ID_IDE i j, CAN_FILT_ID_ID i j]⟩,
  ⟨"CAN_FILT_MASK", 357, 0x40002504, 2, 1024, 0, 32, 8, 0, .apps, .single, 3, fun i j => [CAN_FILT_MASK_MASK i j]⟩,
  ⟨"CAN_RX_W0", 358, 0x40002600, 2, 1024, 0, 1, 0, 0, .apps, .single, 3, fun i _ => [CAN_RX_W0_IDE i, CAN_RX_W0_FDF i, CAN_RX_W0_BRS i, CAN_RX_W0_ID i]⟩,
  ⟨"CAN_RX_W1", 359, 0x40002604, 2, 1024, 0, 1, 0, 0, .apps, .single, 3, fun i _ => [CAN_RX_W1_FILTER i, CAN_RX_W1_DLC i, CAN_RX_W1_LEN i]⟩,
  ⟨"CAN_RX_W2", 360, 0x40002608, 2, 1024, 0, 1, 0, 0, .apps, .single, 3, fun i _ => [CAN_RX_W2_PLY i]⟩,
  ⟨"CAN_RX_D", 361, 0x4000260C, 2, 1024, 0, 16, 4, 0, .apps, .single, 3, fun i j => [CAN_RX_D_DATA i j]⟩,
  ⟨"CAN_RX_POP", 362, 0x4000264C, 2, 1024, 0, 1, 0, 0, .apps, .single, 3, fun i _ => [CAN_RX_POP_POP i]⟩,
  ⟨"CAN_TX_W0", 363, 0x40002700, 2, 1024, 0, 1, 0, 0, .apps, .single, 3, fun i _ => [CAN_TX_W0_IDE i, CAN_TX_W0_FDF i, CAN_TX_W0_BRS i, CAN_TX_W0_ID i]⟩,
  ⟨"CAN_TX_W1", 364, 0x40002704, 2, 1024, 0, 1, 0, 0, .apps, .single, 3, fun i _ => [CAN_TX_W1_DLC i]⟩,
  ⟨"CAN_TX_D", 365, 0x40002708, 2, 1024, 0, 16, 4, 0, .apps, .single, 3, fun i j => [CAN_TX_D_DATA i j]⟩,
  ⟨"CAN_TXCMD", 366, 0x40002748, 2, 1024, 0, 1, 0, 0, .apps, .single, 3, fun i _ => [CAN_TXCMD_GO i, CAN_TXCMD_ABORT i, CAN_TXCMD_BUF i]⟩,
  ⟨"CAN_TXPEND", 367, 0x4000274C, 2, 1024, 0, 1, 0, 0, .apps, .single, 3, fun i _ => [CAN_TXPEND_PENDING i]⟩,
  ⟨"CAN_TXDONE", 368, 0x40002750, 2, 1024, 0, 1, 0, 0, .apps, .single, 3, fun i _ => [CAN_TXDONE_SENT i]⟩,
  ⟨"ADC_CTRL", 369, 0x40003000, 1, 0, 0, 1, 0, 0, .apps, .single, 3, fun _ _ => [ADC_CTRL_EN, ADC_CTRL_N]⟩,
  ⟨"ADC_FLAGS", 370, 0x40003004, 1, 0, 0, 1, 0, 0, .apps, .single, 3, fun _ _ => [ADC_FLAGS_HIGH, ADC_FLAGS_LOW]⟩,
  ⟨"ADC_LIVE", 371, 0x40003008, 1, 0, 0, 1, 0, 0, .apps, .single, 3, fun _ _ => [ADC_LIVE_HIGH_NOW, ADC_LIVE_LOW_NOW]⟩,
  ⟨"ADC_CH_W0", 372, 0x40003010, 16, 16, 0, 1, 0, 0, .apps, .single, 3, fun i _ => [ADC_CH_W0_VALUE i, ADC_CH_W0_CODE i]⟩,
  ⟨"ADC_CH_W1", 373, 0x40003014, 16, 16, 0, 1, 0, 0, .apps, .single, 3, fun i _ => [ADC_CH_W1_HIGH i, ADC_CH_W1_LOW i]⟩,
  ⟨"ADC_CH_W2", 374, 0x40003018, 16, 16, 0, 1, 0, 0, .apps, .single, 3, fun i _ => [ADC_CH_W2_MAX i, ADC_CH_W2_MIN i]⟩,
  ⟨"ADC_CH_W3", 375, 0x4000301C, 16, 16, 0, 1, 0, 0, .apps, .single, 3, fun i _ => [ADC_CH_W3_HYST i]⟩,
  ⟨"MDIO_CMD", 376, 0x40003200, 1, 0, 0, 1, 0, 0, .apps, .single, 3, fun _ _ => [MDIO_CMD_GO, MDIO_CMD_C45, MDIO_CMD_OP, MDIO_CMD_PHY, MDIO_CMD_REG, MDIO_CMD_DATA]⟩,
  ⟨"MDIO_STATUS", 377, 0x40003204, 1, 0, 0, 1, 0, 0, .apps, .single, 3, fun _ _ => [MDIO_STATUS_BUSY, MDIO_STATUS_DONE, MDIO_STATUS_RDATA]⟩,
  ⟨"MDIO_CFG", 378, 0x40003208, 1, 0, 0, 1, 0, 0, .apps, .single, 3, fun _ _ => [MDIO_CFG_MDC_DIV]⟩,
  ⟨"CABLE_CTRL", 379, 0x40003210, 1, 0, 0, 1, 0, 0, .apps, .single, 3, fun _ _ => [CABLE_CTRL_GO, CABLE_CTRL_FORCE, CABLE_CTRL_PORT]⟩,
  ⟨"CABLE_W0", 380, 0x40003240, 6, 16, 0, 1, 0, 0, .apps, .single, 3, fun i _ => [CABLE_W0_BUSY i, CABLE_W0_DONE i, CABLE_W0_REFUSED i, CABLE_W0_ST_D i, CABLE_W0_ST_C i, CABLE_W0_ST_B i, CABLE_W0_ST_A i]⟩,
  ⟨"CABLE_W1", 381, 0x40003244, 6, 16, 0, 1, 0, 0, .apps, .single, 3, fun i _ => [CABLE_W1_LEN_B i, CABLE_W1_LEN_A i]⟩ ]

/-- The registers of block SYS (R678, base 0x40000000). -/
def rowsSYS2 : List RegRow :=
 [
  ⟨"CABLE_W2", 382, 0x40003248, 6, 16, 0, 1, 0, 0, .apps, .single, 3, fun i _ => [CABLE_W2_LEN_D i, CABLE_W2_LEN_C i]⟩,
  ⟨"CABLE_W3", 383, 0x4000324C, 6, 16, 0, 1, 0, 0, .apps, .single, 3, fun i _ => [CABLE_W3_OH_SEC i]⟩,
  ⟨"SITE_IN", 384, 0x40003400, 1, 0, 0, 1, 0, 0, .apps, .single, 3, fun _ _ => [SITE_IN_SEAL_N, SITE_IN_DOCK]⟩ ]

/-- The registers of block PLY (R678, base 0x40010000). -/
def rowsPLY : List RegRow :=
 [
  ⟨"PLY_LO", 12, 0x40010000, 1, 0, 0, 1, 0, 0, .nobody, .single, 3, fun _ _ => [PLY_LO]⟩,
  ⟨"PLY_HI", 13, 0x40010004, 1, 0, 0, 1, 0, 0, .nobody, .single, 3, fun _ _ => [PLY_HI]⟩,
  ⟨"PLY_CYCLE", 14, 0x40010008, 1, 0, 0, 1, 0, 0, .nobody, .single, 3, fun _ _ => [PLY_CYCLE_CYCLE]⟩,
  ⟨"CAST_CMD", 15, 0x40010100, 1, 0, 0, 1, 0, 0, .nobody, .cast, 3, fun i _ => [CAST_CMD_ID i, CAST_CMD_WHEN i, CAST_CMD_OP i]⟩,
  ⟨"CAST_ADDR", 16, 0x40010104, 1, 0, 0, 1, 0, 0, .nobody, .cast, 3, fun i _ => [CAST_ADDR_VALUE i]⟩,
  ⟨"CAST_DATA", 17, 0x40010108, 1, 0, 0, 1, 0, 0, .nobody, .cast, 3, fun i _ => [CAST_DATA_VALUE i]⟩,
  ⟨"CAST_MASK", 18, 0x4001010C, 1, 0, 0, 1, 0, 0, .nobody, .cast, 3, fun i _ => [CAST_MASK_VALUE i]⟩,
  ⟨"CAST_AT_LO", 19, 0x40010110, 1, 0, 0, 1, 0, 0, .nobody, .cast, 3, fun i _ => [CAST_AT_LO_VALUE i]⟩,
  ⟨"CAST_AT_HI", 20, 0x40010114, 1, 0, 0, 1, 0, 0, .nobody, .cast, 3, fun i _ => [CAST_AT_HI_VALUE i]⟩,
  ⟨"CAST_RESULT", 21, 0x40010118, 1, 0, 0, 1, 0, 0, .nobody, .cast, 3, fun i _ => [CAST_RESULT_ID i, CAST_RESULT_CODE i]⟩,
  ⟨"CAST_POOL", 22, 0x40010120, 1, 0, 0, 1, 0, 0, .nobody, .single, 3, fun _ _ => [CAST_POOL_FREE_ENTRIES, CAST_POOL_OPEN]⟩,
  ⟨"CAST_STAT", 23, 0x40010200, 16, 8, 0, 1, 0, 0, .nobody, .single, 3, fun i _ => [CAST_STAT_ID i, CAST_STAT_OWNER i, CAST_STAT_STATE i]⟩,
  ⟨"CAST_INFO", 24, 0x40010204, 16, 8, 0, 1, 0, 0, .nobody, .single, 3, fun i _ => [CAST_INFO_ENTRIES i, CAST_INFO_WHEN i, CAST_INFO_CAUSE i, CAST_INFO_FAIL_INDEX i]⟩,
  ⟨"SEM", 25, 0x40010400, 64, 4, 0, 1, 0, 0, .r145, .single, 3, fun i _ => [SEM_HELD i, SEM_OWNER_RESET i, SEM_BAD_RELEASE i, SEM_OWNER i, SEM_RELEASE i, SEM_TAKE i]⟩ ]

/-- The registers of block ECP (R678, base 0x40020000). -/
def rowsECP : List RegRow :=
 [
  ⟨"ECP_CTRL", 34, 0x40020000, 1, 0, 0, 1, 0, 0, .appsBoot, .single, 3, fun _ _ => [ECP_CTRL_LOCK, ECP_CTRL_ETH_EN, ECP_CTRL_SPI_EN, ECP_CTRL_AUTH_REQ, ECP_CTRL_UDP_PORT]⟩,
  ⟨"ECP_STATE", 35, 0x40020004, 1, 0, 0, 1, 0, 0, .appsBoot, .single, 3, fun _ _ => [ECP_STATE_STREAMS, ECP_STATE_SESSIONS, ECP_STATE_IN_PROGRESS]⟩,
  ⟨"ECP_CNT_A", 36, 0x40020010, 1, 0, 0, 1, 0, 0, .appsBoot, .single, 3, fun _ _ => [ECP_CNT_A_DROP_FRAME, ECP_CNT_A_DROP_CHECK]⟩,
  ⟨"ECP_CNT_B", 37, 0x40020014, 1, 0, 0, 1, 0, 0, .appsBoot, .single, 3, fun _ _ => [ECP_CNT_B_DROP_REPLAY, ECP_CNT_B_QUEUE_FULL]⟩,
  ⟨"ECP_CNT_C", 38, 0x40020018, 1, 0, 0, 1, 0, 0, .appsBoot, .single, 3, fun _ _ => [ECP_CNT_C_STREAM_LOST, ECP_CNT_C_SESSION_FULL]⟩ ]

/-- The registers of block FE (R678, base 0x40100000). -/
def rowsFE : List RegRow :=
 [
  ⟨"FE_CTRL", 39, 0x40100000, 2, 256, 0, 1, 0, 0, .apps, .single, 7, fun i _ => [FE_CTRL_EN i, FE_CTRL_DC_REMOVE i, FE_CTRL_BIAS_EN i, FE_CTRL_AGC_L5 i, FE_CTRL_AGC_L1 i, FE_CTRL_FE_RESET i, FE_CTRL_AGC_TARGET i, FE_CTRL_GAIN_L5 i, FE_CTRL_GAIN_L1 i]⟩,
  ⟨"FE_STATUS", 40, 0x40100004, 2, 256, 0, 1, 0, 0, .apps, .single, 7, fun i _ => [FE_STATUS_LINK i, FE_STATUS_CTL_PEND i, FE_STATUS_FE_PLL_LOCK i, FE_STATUS_BIAS_ON i, FE_STATUS_OVR_L5 i, FE_STATUS_OVR_L1 i, FE_STATUS_TEMP i, FE_STATUS_GAIN_L5 i, FE_STATUS_GAIN_L1 i]⟩,
  ⟨"FE_LINK", 41, 0x40100008, 2, 256, 0, 1, 0, 0, .apps, .single, 7, fun i _ => [FE_LINK_CTL_SEQ i, FE_LINK_CTL_ACK i, FE_LINK_FIFO_LAT i]⟩,
  ⟨"FE_CNT", 42, 0x4010000C, 2, 256, 0, 1, 0, 0, .apps, .single, 7, fun i _ => [FE_CNT_ALIGN_ERR i, FE_CNT_CRC_ERR i, FE_CNT_RELOCKS i]⟩,
  ⟨"FE_IF_L1", 43, 0x40100010, 2, 256, 0, 1, 0, 0, .apps, .single, 7, fun i _ => [FE_IF_L1_IF i]⟩,
  ⟨"FE_IF_L5", 44, 0x40100014, 2, 256, 0, 1, 0, 0, .apps, .single, 7, fun i _ => [FE_IF_L5_IF i]⟩,
  ⟨"ANT_CFG", 45, 0x40100020, 2, 256, 0, 1, 0, 0, .apps, .single, 7, fun i _ => [ANT_CFG_AUTO_OFF i, ANT_CFG_RETRY_S i, ANT_CFG_SHORT_MA i, ANT_CFG_OPEN_MA i]⟩,
  ⟨"ANT_STATUS", 46, 0x40100024, 2, 256, 0, 1, 0, 0, .apps, .single, 7, fun i _ => [ANT_STATUS_STATE i, ANT_STATUS_CHANGED i, ANT_STATUS_TRIPS i, ANT_STATUS_CURRENT i]⟩,
  ⟨"CAL_CTRL", 47, 0x40100040, 2, 256, 0, 1, 0, 0, .apps, .single, 7, fun i _ => [CAL_CTRL_EN i, CAL_CTRL_STEP i, CAL_CTRL_INJ_SKEW i]⟩,
  ⟨"CAL_FWD", 48, 0x40100044, 2, 256, 0, 1, 0, 0, .apps, .single, 7, fun i _ => [CAL_FWD_FWD i]⟩,
  ⟨"CAL_LOOP_L1", 49, 0x40100048, 2, 256, 0, 1, 0, 0, .apps, .single, 7, fun i _ => [CAL_LOOP_L1_LOOP i]⟩,
  ⟨"CAL_LOOP_L5", 50, 0x4010004C, 2, 256, 0, 1, 0, 0, .apps, .single, 7, fun i _ => [CAL_LOOP_L5_LOOP i]⟩,
  ⟨"CAL_IFB", 51, 0x40100050, 2, 256, 0, 1, 0, 0, .apps, .single, 7, fun i _ => [CAL_IFB_IFB i]⟩,
  ⟨"CAL_RX_L1", 52, 0x40100054, 2, 256, 0, 1, 0, 0, .apps, .single, 7, fun i _ => [CAL_RX_L1_RX_DELAY i]⟩,
  ⟨"CAL_RX_L5", 53, 0x40100058, 2, 256, 0, 1, 0, 0, .apps, .single, 7, fun i _ => [CAL_RX_L5_RX_DELAY i]⟩,
  ⟨"CAL_STATUS", 54, 0x4010005C, 2, 256, 0, 1, 0, 0, .apps, .single, 7, fun i _ => [CAL_STATUS_VALID_L1 i, CAL_STATUS_VALID_L5 i, CAL_STATUS_STEP i, CAL_STATUS_CN0_L5 i, CAL_STATUS_CN0_L1 i, CAL_STATUS_AGE i]⟩,
  ⟨"ACQ_CTRL", 55, 0x40100800, 1, 0, 0, 1, 0, 0, .apps, .single, 7, fun _ _ => [ACQ_CTRL_EN, ACQ_CTRL_VERIFY_N, ACQ_CTRL_VERIFY_M, ACQ_CTRL_EXCLUDE]⟩,
  ⟨"ACQ_REFTOL", 56, 0x40100804, 1, 0, 0, 1, 0, 0, .apps, .single, 7, fun _ _ => [ACQ_REFTOL_PPB]⟩,
  ⟨"ACQ_STATUS", 57, 0x40100808, 1, 0, 0, 1, 0, 0, .apps, .single, 7, fun _ _ => [ACQ_STATUS_BUSY, ACQ_STATUS_ENTRY]⟩,
  ⟨"ACQ_CNT", 58, 0x4010080C, 1, 0, 0, 1, 0, 0, .apps, .single, 7, fun _ _ => [ACQ_CNT_FOUND, ACQ_CNT_VERIFY_FAIL]⟩,
  ⟨"ACQ_THRESH", 59, 0x40100880, 20, 4, 1, 1, 0, 0, .apps, .single, 7, fun i _ => [ACQ_THRESH_THRESH i]⟩,
  ⟨"ACQ_ENT_W0", 60, 0x40101000, 64, 16, 0, 1, 0, 0, .apps, .single, 7, fun i _ => [ACQ_ENT_W0_REACQ i, ACQ_ENT_W0_WIPE i, ACQ_ENT_W0_FE i, ACQ_ENT_W0_SIGNAL i, ACQ_ENT_W0_PRN i, ACQ_ENT_W0_CHANNEL i, ACQ_ENT_W0_NNC i, ACQ_ENT_W0_TCOH_MS i]⟩,
  ⟨"ACQ_ENT_W1", 61, 0x40101004, 64, 16, 0, 1, 0, 0, .apps, .single, 7, fun i _ => [ACQ_ENT_W1_CODE_START i, ACQ_ENT_W1_CODE_CELLS i]⟩,
  ⟨"ACQ_ENT_W2", 62, 0x40101008, 64, 16, 0, 1, 0, 0, .apps, .single, 7, fun i _ => [ACQ_ENT_W2_DOPP_CENTRE i, ACQ_ENT_W2_DOPP_HALF i]⟩,
  ⟨"ACQ_ENT_W3", 63, 0x4010100C, 64, 16, 0, 1, 0, 0, .apps, .single, 7, fun i _ => [ACQ_ENT_W3_STATE i, ACQ_ENT_W3_CAUSE i]⟩,
  ⟨"ACQ_RES_W0", 64, 0x40102000, 64, 8, 0, 1, 0, 0, .apps, .single, 7, fun i _ => [ACQ_RES_W0_CELL i, ACQ_RES_W0_DOPP i]⟩,
  ⟨"ACQ_RES_W1", 65, 0x40102004, 64, 8, 0, 1, 0, 0, .apps, .single, 7, fun i _ => [ACQ_RES_W1_PEAK i, ACQ_RES_W1_DWELLS i]⟩ ]

/-- The registers of block CH (R678, base 0x40110000). -/
def rowsCH : List RegRow :=
 [
  ⟨"CH_CTRL", 66, 0x40110000, 256, 256, 0, 1, 0, 0, .apps, .single, 7, fun i _ => [CH_CTRL_CMD i]⟩,
  ⟨"CH_CFG", 67, 0x40110004, 256, 256, 0, 1, 0, 0, .apps, .single, 7, fun i _ => [CH_CFG_BUMP_EN i, CH_CFG_FE i, CH_CFG_SIGNAL i, CH_CFG_PRN i, CH_CFG_TINT_MS i]⟩,
  ⟨"CH_SPACING", 68, 0x40110008, 256, 256, 0, 1, 0, 0, .apps, .single, 7, fun i _ => [CH_SPACING_VEL i, CH_SPACING_EL i]⟩,
  ⟨"CH_LOCK", 69, 0x4011000C, 256, 256, 0, 1, 0, 0, .apps, .single, 7, fun i _ => [CH_LOCK_PLI_ON i, CH_LOCK_PLI_OFF i, CH_LOCK_CN0_MIN i, CH_LOCK_CN0_N i]⟩,
  ⟨"CH_TIME", 70, 0x40110010, 256, 256, 0, 1, 0, 0, .apps, .single, 7, fun i _ => [CH_TIME_PULL_MAX_MS i, CH_TIME_PULL_MS i]⟩,
  ⟨"CH_TIME2", 71, 0x40110014, 256, 256, 0, 1, 0, 0, .apps, .single, 7, fun i _ => [CH_TIME2_BUMP_N i, CH_TIME2_LOSS_MS i]⟩,
  ⟨"CH_SET_CODE", 72, 0x40110018, 256, 256, 0, 1, 0, 0, .apps, .single, 7, fun i _ => [CH_SET_CODE_CODE i]⟩,
  ⟨"CH_SET_DOPP", 73, 0x4011001C, 256, 256, 0, 1, 0, 0, .apps, .single, 7, fun i _ => [CH_SET_DOPP_DOPP i]⟩,
  ⟨"CH_C1", 74, 0x40110020, 256, 256, 0, 1, 0, 0, .apps, .single, 7, fun i _ => [CH_C1_COEF i]⟩,
  ⟨"CH_K1", 75, 0x40110034, 256, 256, 0, 1, 0, 0, .apps, .single, 7, fun i _ => [CH_K1_COEF i]⟩,
  ⟨"CH_C2", 76, 0x40110024, 256, 256, 0, 1, 0, 0, .apps, .single, 7, fun i _ => [CH_C2_COEF i]⟩,
  ⟨"CH_C3", 77, 0x40110028, 256, 256, 0, 1, 0, 0, .apps, .single, 7, fun i _ => [CH_C3_COEF i]⟩,
  ⟨"CH_F1", 78, 0x4011002C, 256, 256, 0, 1, 0, 0, .apps, .single, 7, fun i _ => [CH_F1_COEF i]⟩,
  ⟨"CH_F2", 79, 0x40110030, 256, 256, 0, 1, 0, 0, .apps, .single, 7, fun i _ => [CH_F2_COEF i]⟩,
  ⟨"CH_K2", 80, 0x40110038, 256, 256, 0, 1, 0, 0, .apps, .single, 7, fun i _ => [CH_K2_COEF i]⟩,
  ⟨"CH_STATUS", 81, 0x40110040, 256, 256, 0, 1, 0, 0, .apps, .single, 7, fun i _ => [CH_STATUS_STATE i, CH_STATUS_LOST i, CH_STATUS_LOSS_CAUSE i, CH_STATUS_TINT_NOW i, CH_STATUS_TIME_LEVEL i, CH_STATUS_CODE_LOCK i, CH_STATUS_CARR_LOCK i, CH_STATUS_BIT_SYNC i, CH_STATUS_SEC_SYNC i, CH_STATUS_NAV_SYNC i, CH_STATUS_HALF_UNRES i, CH_STATUS_PLL_ON i]⟩,
  ⟨"CH_CN0", 82, 0x40110044, 256, 256, 0, 1, 0, 0, .apps, .single, 7, fun i _ => [CH_CN0_PLI i, CH_CN0_CN0 i]⟩,
  ⟨"CH_DOPP", 83, 0x40110048, 256, 256, 0, 1, 0, 0, .apps, .single, 7, fun i _ => [CH_DOPP_DOPP i]⟩,
  ⟨"CH_CODE", 84, 0x4011004C, 256, 256, 0, 1, 0, 0, .apps, .single, 7, fun i _ => [CH_CODE_CODE i]⟩,
  ⟨"CH_CARR_LO", 85, 0x40110050, 256, 256, 0, 1, 0, 0, .apps, .single, 7, fun i _ => [CH_CARR_LO_PHASE i]⟩,
  ⟨"CH_CARR_HI", 86, 0x40110054, 256, 256, 0, 1, 0, 0, .apps, .single, 7, fun i _ => [CH_CARR_HI_PHASE i]⟩,
  ⟨"CH_LOCKT", 87, 0x40110058, 256, 256, 0, 1, 0, 0, .apps, .single, 7, fun i _ => [CH_LOCKT_LOCK_MS i]⟩,
  ⟨"CH_CNT", 88, 0x4011005C, 256, 256, 0, 1, 0, 0, .apps, .single, 7, fun i _ => [CH_CNT_SLIP_CNT i, CH_CNT_BUMPS i, CH_CNT_OVERRUN i]⟩,
  ⟨"ACC_P", 89, 0x40110080, 256, 256, 0, 1, 0, 0, .apps, .single, 7, fun i _ => [ACC_P_I i, ACC_P_Q i]⟩,
  ⟨"ACC_E", 90, 0x40110084, 256, 256, 0, 1, 0, 0, .apps, .single, 7, fun i _ => [ACC_E_I i, ACC_E_Q i]⟩,
  ⟨"ACC_L", 91, 0x40110088, 256, 256, 0, 1, 0, 0, .apps, .single, 7, fun i _ => [ACC_L_I i, ACC_L_Q i]⟩,
  ⟨"ACC_VE", 92, 0x4011008C, 256, 256, 0, 1, 0, 0, .apps, .single, 7, fun i _ => [ACC_VE_I i, ACC_VE_Q i]⟩,
  ⟨"ACC_VL", 93, 0x40110090, 256, 256, 0, 1, 0, 0, .apps, .single, 7, fun i _ => [ACC_VL_I i, ACC_VL_Q i]⟩,
  ⟨"ACC_N", 94, 0x40110094, 256, 256, 0, 1, 0, 0, .apps, .single, 7, fun i _ => [ACC_N_I i, ACC_N_Q i]⟩,
  ⟨"ACC_PD", 95, 0x40110098, 256, 256, 0, 1, 0, 0, .apps, .single, 7, fun i _ => [ACC_PD_I i, ACC_PD_Q i]⟩ ]

/-- The registers of block OBS (R678, base 0x40140000). -/
def rowsOBS : List RegRow :=
 [
  ⟨"OBS_CTRL", 96, 0x40140000, 1, 0, 0, 1, 0, 0, .apps, .single, 7, fun _ _ => [OBS_CTRL_EN, OBS_CTRL_RATE]⟩,
  ⟨"OBS_STATUS", 97, 0x40140004, 1, 0, 0, 1, 0, 0, .nobody, .single, 7, fun _ _ => [OBS_STATUS_FORMING, OBS_STATUS_LATEST]⟩,
  ⟨"OBS_SEQ", 98, 0x40140008, 1, 0, 0, 1, 0, 0, .nobody, .single, 7, fun _ _ => [OBS_SEQ_SEQ]⟩,
  ⟨"NAV_HEAD", 99, 0x40140010, 1, 0, 0, 1, 0, 0, .nobody, .single, 7, fun _ _ => [NAV_HEAD_SEQ]⟩,
  ⟨"BANK_CNT", 100, 0x40140100, 8, 4, 0, 1, 0, 0, .nobody, .single, 7, fun i _ => [BANK_CNT_OVERRUN i, BANK_CNT_LATE i]⟩,
  ⟨"OBS_BUF", 387, 0x40144000, 4, 0x4000, 0, 4096, 4, 0, .nobody, .single, 7, fun i j => [OBS_BUF_WORD i j]⟩,
  ⟨"NAV_RING", 388, 0x40160000, 512, 0x80, 0, 24, 4, 0, .nobody, .single, 7, fun i j => [NAV_RING_WORD i j]⟩ ]

/-- The registers of block TIME (R678, base 0x40600000). -/
def rowsTIME : List RegRow :=
 [
  ⟨"TIME_SEC_LO", 101, 0x40600000, 1, 0, 0, 1, 0, 0, .apps, .single, 3, fun _ _ => [TIME_SEC_LO_SEC]⟩,
  ⟨"TIME_SEC_HI", 102, 0x40600004, 1, 0, 0, 1, 0, 0, .apps, .single, 3, fun _ _ => [TIME_SEC_HI_SEC]⟩,
  ⟨"TIME_NS", 103, 0x40600008, 1, 0, 0, 1, 0, 0, .apps, .single, 3, fun _ _ => [TIME_NS_NS]⟩,
  ⟨"TIME_FRAC", 104, 0x4060000C, 1, 0, 0, 1, 0, 0, .apps, .single, 3, fun _ _ => [TIME_FRAC_FRAC]⟩,
  ⟨"TIME_ADDEND", 105, 0x40600010, 1, 0, 0, 1, 0, 0, .apps, .single, 3, fun _ _ => [TIME_ADDEND_ADDEND]⟩,
  ⟨"STEP_S", 106, 0x40600020, 1, 0, 0, 1, 0, 0, .apps, .single, 3, fun _ _ => [STEP_S_DELTA_S]⟩,
  ⟨"STEP_NS", 107, 0x40600024, 1, 0, 0, 1, 0, 0, .apps, .single, 3, fun _ _ => [STEP_NS_DELTA_NS]⟩,
  ⟨"STEP_CTRL", 108, 0x40600028, 1, 0, 0, 1, 0, 0, .apps, .single, 3, fun _ _ => [STEP_CTRL_KEY, STEP_CTRL_ACCEPT, STEP_CTRL_BACK, STEP_CTRL_ARM]⟩,
  ⟨"TIME_STATUS", 109, 0x40600030, 1, 0, 0, 1, 0, 0, .apps, .single, 3, fun _ _ => [TIME_STATUS_TIME_GEN, TIME_STATUS_SOURCE, TIME_STATUS_VALID, TIME_STATUS_HOLDOVER, TIME_STATUS_STEP_ARMED, TIME_STATUS_STEP_ANNOUNCED, TIME_STATUS_BACK_PENDING, TIME_STATUS_SHIFT_PENDING, TIME_STATUS_LEAP61, TIME_STATUS_LEAP59, TIME_STATUS_UTC_VALID]⟩,
  ⟨"TIME_ERR", 110, 0x40600034, 1, 0, 0, 1, 0, 0, .apps, .single, 3, fun _ _ => [TIME_ERR_EST]⟩,
  ⟨"SRC_OFFSET", 111, 0x40600038, 1, 0, 0, 1, 0, 0, .apps, .single, 3, fun _ _ => [SRC_OFFSET_D]⟩,
  ⟨"TIME_CNT", 112, 0x4060003C, 1, 0, 0, 1, 0, 0, .apps, .single, 3, fun _ _ => [TIME_CNT_OUTLIER, TIME_CNT_SWITCHES]⟩,
  ⟨"REF_CFG", 113, 0x40600040, 1, 0, 0, 1, 0, 0, .apps, .single, 3, fun _ _ => [REF_CFG_JUMP_US, REF_CFG_P1, REF_CFG_P2, REF_CFG_P3, REF_CFG_P4]⟩,
  ⟨"HOLD_CFG", 114, 0x40600044, 1, 0, 0, 1, 0, 0, .apps, .single, 3, fun _ _ => [HOLD_CFG_AGING, HOLD_CFG_HOLD_SPEC]⟩,
  ⟨"DOM_STATUS", 115, 0x40600050, 2, 4, 0, 1, 0, 0, .apps, .single, 3, fun i _ => [DOM_STATUS_STATE i, DOM_STATUS_DOMAIN i]⟩,
  ⟨"DOM_OFFSET", 116, 0x40600058, 2, 4, 0, 1, 0, 0, .apps, .single, 3, fun i _ => [DOM_OFFSET_OFFSET i]⟩,
  ⟨"DOM_ASYM", 117, 0x40600060, 2, 4, 0, 1, 0, 0, .apps, .single, 3, fun i _ => [DOM_ASYM_ASYM i]⟩,
  ⟨"PPSIN_OFFSET", 118, 0x40600068, 1, 0, 0, 1, 0, 0, .apps, .single, 3, fun _ _ => [PPSIN_OFFSET_OFFSET]⟩,
  ⟨"DOM_GM_STATUS", 119, 0x4060006C, 1, 0, 0, 1, 0, 0, .apps, .single, 3, fun _ _ => [DOM_GM_STATUS_FOREIGN_BETTER]⟩,
  ⟨"GRID_PHASE", 120, 0x40600070, 1, 0, 0, 1, 0, 0, .apps, .single, 3, fun _ _ => [GRID_PHASE_PHI]⟩,
  ⟨"SHIFT_SFN", 121, 0x40600074, 1, 0, 0, 1, 0, 0, .apps, .single, 3, fun _ _ => [SHIFT_SFN_S]⟩,
  ⟨"PPS_CFG", 122, 0x40600080, 2, 4, 0, 1, 0, 0, .apps, .single, 3, fun i _ => [PPS_CFG_EN i, PPS_CFG_MODE i, PPS_CFG_WIDTH_US i]⟩,
  ⟨"PPS_OFS", 123, 0x40600088, 2, 4, 0, 1, 0, 0, .apps, .single, 3, fun i _ => [PPS_OFS_OFS i]⟩,
  ⟨"PPSIN_SEC", 124, 0x40600090, 1, 0, 0, 1, 0, 0, .apps, .single, 3, fun _ _ => [PPSIN_SEC_SEC]⟩,
  ⟨"PPSIN_NS", 125, 0x40600094, 1, 0, 0, 1, 0, 0, .apps, .single, 3, fun _ _ => [PPSIN_NS_NEW, PPSIN_NS_NS]⟩ ]

/-- The registers of block ETH (R678, base 0x40610000). -/
def rowsETH : List RegRow :=
 [
  ⟨"ETH_CFG", 126, 0x40610000, 6, 4096, 0, 1, 0, 0, .apps, .single, 9, fun i _ => [ETH_CFG_EN i, ETH_CFG_AN_EN i, ETH_CFG_SPEED i, ETH_CFG_LINK i]⟩,
  ⟨"ETH_MAC_LO", 127, 0x40610008, 6, 4096, 0, 1, 0, 0, .apps, .single, 9, fun i _ => [ETH_MAC_LO_MAC i]⟩,
  ⟨"ETH_MAC_HI", 128, 0x4061000C, 6, 4096, 0, 1, 0, 0, .apps, .single, 9, fun i _ => [ETH_MAC_HI_MAC i]⟩,
  ⟨"ETH_TS_CTRL", 129, 0x40610400, 6, 4096, 0, 1, 0, 0, .apps, .single, 9, fun i _ => [ETH_TS_CTRL_CORR_EN i]⟩,
  ⟨"ETH_CORR", 130, 0x40610404, 6, 4096, 0, 1, 0, 0, .apps, .single, 9, fun i _ => [ETH_CORR_EGRESS i, ETH_CORR_INGRESS i]⟩,
  ⟨"ETH_TXTS_STATUS", 131, 0x40610408, 6, 4096, 0, 1, 0, 0, .apps, .single, 9, fun i _ => [ETH_TXTS_STATUS_OVF i, ETH_TXTS_STATUS_COUNT i, ETH_TXTS_STATUS_OVF_CNT i]⟩,
  ⟨"ETH_TXTS_W0", 132, 0x40610410, 6, 4096, 0, 1, 0, 0, .apps, .single, 9, fun i _ => [ETH_TXTS_W0_ID i, ETH_TXTS_W0_SEC_HI i]⟩,
  ⟨"ETH_TXTS_W1", 133, 0x40610414, 6, 4096, 0, 1, 0, 0, .apps, .single, 9, fun i _ => [ETH_TXTS_W1_SEC_LO i]⟩,
  ⟨"ETH_TXTS_W2", 134, 0x40610418, 6, 4096, 0, 1, 0, 0, .apps, .single, 9, fun i _ => [ETH_TXTS_W2_NS i]⟩,
  ⟨"ETH_TXTS_W3", 135, 0x4061041C, 6, 4096, 0, 1, 0, 0, .apps, .single, 9, fun i _ => [ETH_TXTS_W3_TIME_GEN i, ETH_TXTS_W3_FRAC i]⟩ ]

/-- The registers of block FIX (R678, base 0x40200000). -/
def rowsFIX : List RegRow :=
 [
  ⟨"FIX_CTRL", 136, 0x40200000, 1, 0, 0, 1, 0, 0, .apps, .single, 6, fun _ _ => [FIX_CTRL_EN, FIX_CTRL_IONO_EST, FIX_CTRL_TROPO_EN, FIX_CTRL_INTEG_EN, FIX_CTRL_BASE_KM, FIX_CTRL_REF_MIN_DEG, FIX_CTRL_ELEV_MASK]⟩,
  ⟨"FIX_REF", 137, 0x40200010, 6, 4, 0, 1, 0, 0, .apps, .single, 6, fun i _ => [FIX_REF_VALUE i]⟩,
  ⟨"FIX_ORG", 138, 0x40200030, 6, 4, 0, 1, 0, 0, .apps, .single, 6, fun i _ => [FIX_ORG_VALUE i]⟩,
  ⟨"FIX_REF_CTRL", 139, 0x40200050, 1, 0, 0, 1, 0, 0, .apps, .single, 6, fun _ _ => [FIX_REF_CTRL_APPLY_REF, FIX_REF_CTRL_APPLY_ORG, FIX_REF_CTRL_REFUSED, FIX_REF_CTRL_PENDING, FIX_REF_CTRL_BASE_ANT]⟩,
  ⟨"FIX_SIGMA", 140, 0x40200060, 1, 0, 0, 1, 0, 0, .apps, .single, 6, fun _ _ => [FIX_SIGMA_PHASE_A, FIX_SIGMA_PHASE_B, FIX_SIGMA_CODE_RATIO]⟩,
  ⟨"FIX_PROC", 141, 0x40200064, 1, 0, 0, 1, 0, 0, .apps, .single, 6, fun _ _ => [FIX_PROC_Q_H, FIX_PROC_Q_V]⟩,
  ⟨"FIX_INIT", 142, 0x40200068, 1, 0, 0, 1, 0, 0, .apps, .single, 6, fun _ _ => [FIX_INIT_POS_SD, FIX_INIT_AMB_SD]⟩,
  ⟨"FIX_SLIP", 143, 0x4020006C, 1, 0, 0, 1, 0, 0, .apps, .single, 6, fun _ _ => [FIX_SLIP_GF_MM, FIX_SLIP_GAP_MAX, FIX_SLIP_INNOV_K, FIX_SLIP_FILTER_GAP_S]⟩,
  ⟨"FIX_IONO", 144, 0x40200070, 1, 0, 0, 1, 0, 0, .apps, .single, 6, fun _ _ => [FIX_IONO_Q_ION, FIX_IONO_IONO_SD]⟩,
  ⟨"FIX_INTEG", 145, 0x40200080, 3, 4, 0, 1, 0, 0, .apps, .single, 6, fun i _ => [FIX_INTEG_MM i]⟩,
  ⟨"FIX_INTEG_CFG", 146, 0x4020008C, 1, 0, 0, 1, 0, 0, .apps, .single, 6, fun _ _ => [FIX_INTEG_CFG_LIMIT_MM]⟩,
  ⟨"FIX_INTEG_STATUS", 147, 0x40200090, 1, 0, 0, 1, 0, 0, .apps, .single, 6, fun _ _ => [FIX_INTEG_STATUS_BASE_SUSPECT]⟩,
  ⟨"FIX_CNT", 148, 0x402000B0, 1, 0, 0, 1, 0, 0, .apps, .single, 6, fun _ _ => [FIX_CNT_COR_MALFORMED, FIX_CNT_COR_CLOCK]⟩,
  ⟨"FIX_CNT2", 149, 0x402000B4, 1, 0, 0, 1, 0, 0, .apps, .single, 6, fun _ _ => [FIX_CNT2_COR_EPOCH_MISMATCH]⟩,
  ⟨"ANT_W0", 150, 0x40200200, 16, 16, 0, 1, 0, 0, .apps, .single, 6, fun i _ => [ANT_W0_L1_E i, ANT_W0_L1_N i]⟩,
  ⟨"ANT_W1", 151, 0x40200204, 16, 16, 0, 1, 0, 0, .apps, .single, 6, fun i _ => [ANT_W1_L1_U i, ANT_W1_L5_E i]⟩,
  ⟨"ANT_W2", 152, 0x40200208, 16, 16, 0, 1, 0, 0, .apps, .single, 6, fun i _ => [ANT_W2_L5_N i, ANT_W2_L5_U i]⟩,
  ⟨"ANT_W3", 153, 0x4020020C, 16, 16, 0, 1, 0, 0, .apps, .single, 6, fun _ _ => []⟩,
  ⟨"FIX_AR", 154, 0x40200100, 1, 0, 0, 1, 0, 0, .apps, .single, 6, fun _ _ => [FIX_AR_RATIO_MIN, FIX_AR_SEARCH_NODES, FIX_AR_AR_MIN, FIX_AR_HOLD_N]⟩,
  ⟨"FIX_AR2", 155, 0x40200104, 1, 0, 0, 1, 0, 0, .apps, .single, 6, fun _ _ => [FIX_AR2_FIX_RES_K, FIX_AR2_PROP_MAX]⟩,
  ⟨"FIX_OVL", 156, 0x40200120, 1, 0, 0, 1, 0, 0, .apps, .single, 6, fun _ _ => [FIX_OVL_SHED, FIX_OVL_LATE]⟩,
  ⟨"FIX_CNT3", 157, 0x40200124, 1, 0, 0, 1, 0, 0, .apps, .single, 6, fun _ _ => [FIX_CNT3_BASE_MISSING, FIX_CNT3_SEARCH_ABORT]⟩,
  ⟨"FIX_CNT4", 158, 0x40200128, 1, 0, 0, 1, 0, 0, .apps, .single, 6, fun _ _ => [FIX_CNT4_FIX_LOST, FIX_CNT4_FIX_REJECT]⟩,
  ⟨"FIX_LOAD", 159, 0x40200130, 1, 0, 0, 1, 0, 0, .apps, .single, 6, fun _ _ => [FIX_LOAD_PEAK_US]⟩,
  ⟨"FIX_MEMBER", 160, 0x40201004, 192, 4, 1, 1, 0, 0, .apps, .single, 6, fun i _ => [FIX_MEMBER_STATUS i, FIX_MEMBER_HELD i, FIX_MEMBER_NFIX i, FIX_MEMBER_EPOCH_MISMATCH i, FIX_MEMBER_PRIO i]⟩ ]

/-- The registers of block LANES (R678, base 0x40300000). -/
def rowsLANES : List RegRow :=
 [
  ⟨"LANE_CFG", 161, 0x40300000, 8, 4096, 0, 1, 0, 0, .apps, .single, 8, fun i _ => [LANE_CFG_EN i, LANE_CFG_PROFILE i, LANE_CFG_RATE i, LANE_CFG_PWR i]⟩,
  ⟨"LANE_STATUS", 162, 0x40300004, 8, 4096, 0, 1, 0, 0, .apps, .single, 8, fun i _ => [LANE_STATUS_STATE i, LANE_STATUS_CAUSE i, LANE_STATUS_SYNTH_LOCK i, LANE_STATUS_PA_ALARM i, LANE_STATUS_RSSI i, LANE_STATUS_LO_LIMIT i, LANE_STATUS_IQ_LIMIT i, LANE_STATUS_CTL_ACK i]⟩,
  ⟨"LANE_CAP", 163, 0x40300010, 8, 4096, 0, 4, 4, 0, .apps, .single, 8, fun i j => [LANE_CAP_WORD_HI i j, LANE_CAP_WORD_LO i j]⟩,
  ⟨"LANE_CNT", 164, 0x40300020, 8, 4096, 0, 1, 0, 0, .apps, .single, 8, fun i _ => [LANE_CNT_CRC_ERR i, LANE_CNT_RELOCKS i, LANE_CNT_OVERSIZE i]⟩,
  ⟨"LANE_RX", 165, 0x40300024, 8, 4096, 0, 1, 0, 0, .apps, .single, 8, fun i _ => [LANE_RX_RX_OK i, LANE_RX_RX_CRC_FAIL i]⟩,
  ⟨"LANE_TRIM", 166, 0x40300030, 8, 4096, 0, 1, 0, 0, .apps, .single, 8, fun i _ => [LANE_TRIM_LO_OFS i, LANE_TRIM_IQ_GAIN i, LANE_TRIM_IQ_PHASE i]⟩,
  ⟨"LANE_TXIQ", 167, 0x40300034, 8, 4096, 0, 1, 0, 0, .apps, .single, 8, fun i _ => [LANE_TXIQ_TX_GAIN i, LANE_TXIQ_TX_PHASE i]⟩,
  ⟨"HOP_CTRL", 168, 0x40308000, 1, 0, 0, 1, 0, 0, .apps, .single, 8, fun _ _ => [HOP_CTRL_APPLY, HOP_CTRL_REFUSED, HOP_CTRL_PENDING, HOP_CTRL_HOP_FAIL, HOP_CTRL_LANES, HOP_CTRL_KEY_SLOT]⟩,
  ⟨"HOP_TARGET", 169, 0x40308004, 1, 0, 0, 1, 0, 0, .apps, .single, 8, fun _ _ => [HOP_TARGET_SFN]⟩,
  ⟨"HOP_IV", 170, 0x40308010, 4, 4, 0, 1, 0, 0, .apps, .single, 8, fun i _ => [HOP_IV_IV i]⟩,
  ⟨"HOP_EXCL", 171, 0x40308020, 7, 4, 0, 1, 0, 0, .apps, .single, 8, fun i _ => [HOP_EXCL_EXCL i]⟩,
  ⟨"HOP_STATUS", 172, 0x40308040, 1, 0, 0, 1, 0, 0, .apps, .single, 8, fun _ _ => [HOP_STATUS_N_2, HOP_STATUS_N_1, HOP_STATUS_N_0]⟩,
  ⟨"ACCT_CTRL", 173, 0x40308100, 1, 0, 0, 1, 0, 0, .apps, .single, 8, fun _ _ => [ACCT_CTRL_LOCK]⟩,
  ⟨"MEMBER_CFO", 174, 0x40308804, 192, 4, 1, 1, 0, 0, .apps, .single, 8, fun i _ => [MEMBER_CFO_CFO i]⟩,
  ⟨"ACCT_W0", 175, 0x40309000, 128, 32, 0, 1, 0, 0, .apps, .single, 8, fun i _ => [ACCT_W0_EN i, ACCT_W0_PROFILE i, ACCT_W0_CH_HI i, ACCT_W0_CH_LO i, ACCT_W0_WEIGHT i]⟩,
  ⟨"ACCT_W1", 176, 0x40309004, 128, 32, 0, 1, 0, 0, .apps, .single, 8, fun i _ => [ACCT_W1_PMAX i, ACCT_W1_BUCKET_MS i]⟩,
  ⟨"ACCT_W2", 177, 0x40309008, 128, 32, 0, 1, 0, 0, .apps, .single, 8, fun i _ => [ACCT_W2_LIMIT_US i]⟩,
  ⟨"ACCT_W3", 178, 0x4030900C, 128, 32, 0, 1, 0, 0, .apps, .single, 8, fun i _ => [ACCT_W3_RESERVE_US i]⟩,
  ⟨"ACCT_W4", 179, 0x40309010, 128, 32, 0, 1, 0, 0, .apps, .single, 8, fun i _ => [ACCT_W4_BEACON_RES_US i]⟩,
  ⟨"ACCT_W5", 180, 0x40309014, 128, 32, 0, 1, 0, 0, .apps, .single, 8, fun i _ => [ACCT_W5_ORD_SUM i]⟩,
  ⟨"ACCT_W6", 181, 0x40309018, 128, 32, 0, 1, 0, 0, .apps, .single, 8, fun i _ => [ACCT_W6_STOP_SUM i]⟩,
  ⟨"ACCT_W7", 182, 0x4030901C, 128, 32, 0, 1, 0, 0, .apps, .single, 8, fun i _ => [ACCT_W7_STOP_REFUSED i, ACCT_W7_ORD_REFUSED i]⟩ ]

/-- The registers of block MAC (R678, base 0x40310000). -/
def rowsMAC : List RegRow :=
 [
  ⟨"MAC_CTRL", 183, 0x40310000, 1, 0, 0, 1, 0, 0, .apps, .single, 8, fun _ _ => [MAC_CTRL_NET_EN, MAC_CTRL_ASSOC_EN, MAC_CTRL_RELEASE_S]⟩,
  ⟨"MAC_KEYS", 184, 0x40310004, 1, 0, 0, 1, 0, 0, .apps, .single, 8, fun _ _ => [MAC_KEYS_JOIN_KEY_SLOT, MAC_KEYS_NWK_KEY_SLOT]⟩,
  ⟨"NET_K0_LO", 185, 0x40310008, 1, 0, 0, 1, 0, 0, .apps, .single, 0, fun _ _ => [NET_K0_LO_K0]⟩,
  ⟨"NET_K0_HI", 186, 0x4031000C, 1, 0, 0, 1, 0, 0, .apps, .single, 0, fun _ _ => [NET_K0_HI_VALID, NET_K0_HI_K0]⟩,
  ⟨"SLOT_CTRL", 187, 0x40310010, 1, 0, 0, 1, 0, 0, .apps, .single, 8, fun _ _ => [SLOT_CTRL_BANK, SLOT_CTRL_SLOT_WR_DEFERRED, SLOT_CTRL_SLOT_WR_REFUSED, SLOT_CTRL_HELD, SLOT_CTRL_SHADOW_UNACKED]⟩,
  ⟨"MAC_CNT_A", 188, 0x40310020, 1, 0, 0, 1, 0, 0, .apps, .single, 8, fun _ _ => [MAC_CNT_A_MIC_FAIL, MAC_CNT_A_MALFORMED]⟩,
  ⟨"MAC_CNT_B", 189, 0x40310024, 1, 0, 0, 1, 0, 0, .apps, .single, 8, fun _ _ => [MAC_CNT_B_DUP, MAC_CNT_B_STALE]⟩,
  ⟨"MAC_CNT_C", 190, 0x40310028, 1, 0, 0, 1, 0, 0, .apps, .single, 8, fun _ _ => [MAC_CNT_C_STRAY, MAC_CNT_C_COR_INCOMPLETE]⟩,
  ⟨"MAC_CNT_D", 191, 0x4031002C, 1, 0, 0, 1, 0, 0, .apps, .single, 8, fun _ _ => [MAC_CNT_D_WIN_DEFERRED, MAC_CNT_D_ASSOC_REQ, MAC_CNT_D_ASSOC_LAPSE]⟩,
  ⟨"FLOCK", 192, 0x40310400, 16, 32, 0, 6, 4, 0, .apps, .single, 8, fun i j => [FLOCK_MEMBERS i j]⟩,
  ⟨"SLOT", 193, 0x40311000, 16, 512, 0, 100, 4, 0, .apps, .single, 8, fun i j => [SLOT_KIND i j, SLOT_OWNER i j]⟩,
  ⟨"MEMBER_W0", 194, 0x40313010, 192, 16, 1, 1, 0, 0, .apps, .single, 8, fun i _ => [MEMBER_W0_EUI i]⟩,
  ⟨"MEMBER_W1", 195, 0x40313014, 192, 16, 1, 1, 0, 0, .apps, .single, 8, fun i _ => [MEMBER_W1_EUI i]⟩,
  ⟨"MEMBER_W2", 196, 0x40313018, 192, 16, 1, 1, 0, 0, .apps, .single, 8, fun i _ => [MEMBER_W2_STATE i, MEMBER_W2_LANE i, MEMBER_W2_Q0 i, MEMBER_W2_Q1 i, MEMBER_W2_RSSI i]⟩,
  ⟨"MEMBER_W3", 197, 0x4031301C, 192, 16, 1, 1, 0, 0, .apps, .single, 8, fun i _ => [MEMBER_W3_CAPS i]⟩ ]

/-- The registers of block DISP (R678, base 0x40400000). -/
def rowsDISP : List RegRow :=
 [
  ⟨"DISP_CTRL", 198, 0x40400000, 1, 0, 0, 1, 0, 0, .apps, .single, 3, fun _ _ => [DISP_CTRL_EN, DISP_CTRL_HOST_MAX, DISP_CTRL_PREFETCH_LIFE, DISP_CTRL_LAPSE_GRACE]⟩,
  ⟨"DISP_STATUS", 199, 0x40400004, 1, 0, 0, 1, 0, 0, .apps, .single, 3, fun _ _ => [DISP_STATUS_FREE, DISP_STATUS_READY]⟩,
  ⟨"DISP_CNT", 200, 0x40400008, 1, 0, 0, 1, 0, 0, .apps, .single, 3, fun _ _ => [DISP_CNT_FULL, DISP_CNT_QUEUE_FULL]⟩,
  ⟨"DISP_CNT2", 201, 0x4040000C, 1, 0, 0, 1, 0, 0, .apps, .single, 3, fun _ _ => [DISP_CNT2_LAPSED, DISP_CNT2_DUP_RUN, DISP_CNT2_RESTARTS]⟩,
  ⟨"DISP_CNT3", 202, 0x40400010, 1, 0, 0, 1, 0, 0, .apps, .single, 3, fun _ _ => [DISP_CNT3_FOREIGN]⟩,
  ⟨"DISP_DESC", 203, 0x40400100, 1, 0, 0, 16, 4, 0, .apps, .disp, 3, fun i j => [DISP_DESC_WORD i j]⟩,
  ⟨"DISP_SUBMIT", 204, 0x40400140, 1, 0, 0, 1, 0, 0, .apps, .disp, 3, fun i _ => [DISP_SUBMIT_GO i]⟩,
  ⟨"DISP_CANCEL", 205, 0x40400144, 1, 0, 0, 1, 0, 0, .apps, .disp, 3, fun i _ => [DISP_CANCEL_ID i]⟩,
  ⟨"DISP_RESULT", 206, 0x40400148, 1, 0, 0, 1, 0, 0, .apps, .disp, 3, fun i _ => [DISP_RESULT_ID i]⟩,
  ⟨"DISP_RESULT_CODE", 207, 0x4040014C, 1, 0, 0, 1, 0, 0, .apps, .disp, 3, fun i _ => [DISP_RESULT_CODE_CODE i]⟩,
  ⟨"DISP_CORE", 208, 0x40400400, 16, 16, 0, 1, 0, 0, .apps, .single, 3, fun i _ => [DISP_CORE_EN i, DISP_CORE_CANCEL i, DISP_CORE_TOOK_SUSP i, DISP_CORE_PRE_TH i, DISP_CORE_RUN_LEVEL i]⟩,
  ⟨"DISP_TAKE", 209, 0x40400404, 16, 16, 0, 1, 0, 0, .apps, .single, 3, fun i _ => [DISP_TAKE_ID i]⟩,
  ⟨"DISP_RUN", 210, 0x40400408, 16, 16, 0, 1, 0, 0, .apps, .single, 3, fun i _ => [DISP_RUN_ID i]⟩,
  ⟨"DISP_DONE", 211, 0x4040040C, 16, 16, 0, 1, 0, 0, .apps, .single, 3, fun i _ => [DISP_DONE_OUTCOME i, DISP_DONE_RESULT i]⟩,
  ⟨"DISP_MEMBER_W0", 212, 0x40401008, 192, 8, 1, 1, 0, 0, .apps, .single, 3, fun i _ => [DISP_MEMBER_W0_RUN_ID i]⟩,
  ⟨"DISP_MEMBER_W1", 213, 0x4040100C, 192, 8, 1, 1, 0, 0, .apps, .single, 3, fun i _ => [DISP_MEMBER_W1_SLOT_ID i]⟩ ]

/-- The registers of block TRK (R678, base 0x40410000). -/
def rowsTRK : List RegRow :=
 [
  ⟨"TRK_CTRL", 214, 0x40410000, 1, 0, 0, 1, 0, 0, .apps, .single, 3, fun _ _ => [TRK_CTRL_EN, TRK_CTRL_GEAR_SD_MM]⟩,
  ⟨"TRK_STATUS", 215, 0x40410004, 1, 0, 0, 1, 0, 0, .apps, .single, 3, fun _ _ => [TRK_STATUS_RUNNING, TRK_STATUS_FREE_VERTS]⟩,
  ⟨"TRK_CNT", 216, 0x40410008, 1, 0, 0, 1, 0, 0, .apps, .single, 3, fun _ _ => [TRK_CNT_DEV_EVENTS, TRK_CNT_GEAR_LOST, TRK_CNT_DOCK_FAULT, TRK_CNT_BEHIND]⟩,
  ⟨"DOCK_CFG", 217, 0x40410010, 1, 0, 0, 1, 0, 0, .apps, .single, 3, fun _ _ => [DOCK_CFG_POLARITY, DOCK_CFG_EN]⟩,
  ⟨"DOCK_STATE", 218, 0x40410014, 1, 0, 0, 1, 0, 0, .apps, .single, 3, fun _ _ => [DOCK_STATE_CHANGED, DOCK_STATE_CLOSED]⟩,
  ⟨"PCH_W0", 219, 0x40411020, 192, 32, 1, 1, 0, 0, .apps, .single, 3, fun i _ => [PCH_W0_VMAX i, PCH_W0_AMAX i]⟩,
  ⟨"PCH_W1", 220, 0x40411024, 192, 32, 1, 1, 0, 0, .apps, .single, 3, fun i _ => [PCH_W1_JMAX i, PCH_W1_HOME_V i]⟩,
  ⟨"PCH_W2", 221, 0x40411028, 192, 32, 1, 1, 0, 0, .apps, .single, 3, fun i _ => [PCH_W2_LONG_MM i, PCH_W2_LAT_MM i]⟩,
  ⟨"PCH_W3", 222, 0x4041102C, 192, 32, 1, 1, 0, 0, .apps, .single, 3, fun i _ => [PCH_W3_DEV_RESP i, PCH_W3_DOCK_RESP i, PCH_W3_DEV_N i, PCH_W3_DEV_BLIND i]⟩,
  ⟨"PCH_W4", 223, 0x40411030, 192, 32, 1, 1, 0, 0, .apps, .single, 3, fun i _ => [PCH_W4_APPROACH_MM i, PCH_W4_OVER_MM i]⟩,
  ⟨"PCH_W5", 224, 0x40411034, 192, 32, 1, 1, 0, 0, .apps, .single, 3, fun i _ => [PCH_W5_STATE i, PCH_W5_REASON i, PCH_W5_Q i, PCH_W5_SLOT i, PCH_W5_DOCKED i, PCH_W5_GEAR_LIMITED i, PCH_W5_TRACK i]⟩,
  ⟨"PCH_W6", 225, 0x40411038, 192, 32, 1, 1, 0, 0, .apps, .single, 3, fun i _ => [PCH_W6_CMD_S i]⟩,
  ⟨"PCH_W7", 226, 0x4041103C, 192, 32, 1, 1, 0, 0, .apps, .single, 3, fun i _ => [PCH_W7_MEAS_S i]⟩,
  ⟨"GEAR_W0", 227, 0x40414000, 64, 128, 0, 1, 0, 0, .apps, .single, 3, fun i _ => [GEAR_W0_STATE i, GEAR_W0_CAM i, GEAR_W0_NPTS i, GEAR_W0_MASTER i, GEAR_W0_FOLLOWER i]⟩,
  ⟨"GEAR_W1", 228, 0x40414004, 64, 128, 0, 1, 0, 0, .apps, .single, 3, fun i _ => [GEAR_W1_MTRACK i, GEAR_W1_FTRACK i]⟩,
  ⟨"GEAR_W2", 229, 0x40414008, 64, 128, 0, 1, 0, 0, .apps, .single, 3, fun i _ => [GEAR_W2_ORIGIN_M i]⟩,
  ⟨"GEAR_W3", 230, 0x4041400C, 64, 128, 0, 1, 0, 0, .apps, .single, 3, fun i _ => [GEAR_W3_ORIGIN_F i]⟩,
  ⟨"GEAR_W4", 231, 0x40414010, 64, 128, 0, 1, 0, 0, .apps, .single, 3, fun i _ => [GEAR_W4_EXTRAP_MS i, GEAR_W4_LAG_MAX_MM i]⟩,
  ⟨"GEAR_W5", 232, 0x40414014, 64, 128, 0, 1, 0, 0, .apps, .single, 3, fun i _ => [GEAR_W5_LAG i]⟩,
  ⟨"GEAR_AT", 233, 0x40414020, 64, 128, 0, 8, 8, 0, .apps, .single, 3, fun i j => [GEAR_AT_AT i j]⟩,
  ⟨"GEAR_RATIO", 234, 0x40414024, 64, 128, 0, 8, 8, 0, .apps, .single, 3, fun i j => [GEAR_RATIO_RATIO i j]⟩,
  ⟨"TRK_T_W0", 235, 0x40418000, 1024, 16, 0, 1, 0, 0, .apps, .single, 3, fun i _ => [TRK_T_W0_FIRST i]⟩,
  ⟨"TRK_T_W1", 236, 0x40418004, 1024, 16, 0, 1, 0, 0, .apps, .single, 3, fun i _ => [TRK_T_W1_STATE i, TRK_T_W1_COUNT i]⟩,
  ⟨"TRK_T_W2", 237, 0x40418008, 1024, 16, 0, 1, 0, 0, .apps, .single, 3, fun i _ => [TRK_T_W2_LENGTH i]⟩,
  ⟨"TRK_T_W3", 238, 0x4041800C, 1024, 16, 0, 1, 0, 0, .apps, .single, 3, fun i _ => [TRK_T_W3_CRC i]⟩,
  ⟨"TRK_VERT_SEL", 239, 0x40440000, 1, 0, 0, 1, 0, 0, .apps, .every, 3, fun i _ => [TRK_VERT_SEL_INDEX i]⟩,
  ⟨"TRK_VERT_E", 240, 0x40440004, 1, 0, 0, 1, 0, 0, .apps, .every, 3, fun i _ => [TRK_VERT_E_E i]⟩,
  ⟨"TRK_VERT_N", 241, 0x40440008, 1, 0, 0, 1, 0, 0, .apps, .every, 3, fun i _ => [TRK_VERT_N_N i]⟩,
  ⟨"TRK_VERT_U", 242, 0x4044000C, 1, 0, 0, 1, 0, 0, .apps, .every, 3, fun i _ => [TRK_VERT_U_U i]⟩ ]

/-- The registers of block ROOK (R678, base 0x40500000). -/
def rowsROOK : List RegRow :=
 [
  ⟨"ROOK_STATE", 245, 0x40500000, 1, 0, 0, 1, 0, 0, .rook, .single, 1, fun _ _ => [ROOK_STATE_STOP, ROOK_STATE_HALTED, ROOK_STATE_FAULT, ROOK_STATE_RESERVE_LOW, ROOK_STATE_SRC_LATCHED, ROOK_STATE_BLOCKERS]⟩,
  ⟨"ROOK_FAULT", 246, 0x40500004, 1, 0, 0, 1, 0, 0, .rook, .single, 1, fun _ _ => [ROOK_FAULT_RELAY, ROOK_FAULT_LOOP, ROOK_FAULT_CLOCK, ROOK_FAULT_LOG_MEDIA, ROOK_FAULT_RELAY_FB, ROOK_FAULT_DISCREPANCY, ROOK_FAULT_LOOP_TEST, ROOK_FAULT_SRAM_UE]⟩,
  ⟨"LOOP_CFG", 247, 0x40500010, 1, 0, 0, 1, 0, 0, .rook, .single, 1, fun _ _ => [LOOP_CFG_CLOSE, LOOP_CFG_DISC, LOOP_CFG_TEST_MS, LOOP_CFG_EN]⟩,
  ⟨"LOOP_STATUS", 248, 0x40500014, 1, 0, 0, 1, 0, 0, .rook, .single, 1, fun _ _ => [LOOP_STATUS_OPEN, LOOP_STATUS_B_CLOSED, LOOP_STATUS_A_CLOSED]⟩,
  ⟨"RELAY_CFG", 249, 0x40500018, 1, 0, 0, 1, 0, 0, .rook, .single, 1, fun _ _ => [RELAY_CFG_FB_MS, RELAY_CFG_FB_POL, RELAY_CFG_EN]⟩,
  ⟨"RELAY_STATUS", 250, 0x4050001C, 1, 0, 0, 1, 0, 0, .rook, .single, 1, fun _ _ => [RELAY_STATUS_FB, RELAY_STATUS_DRIVE]⟩,
  ⟨"STOP_CFG", 251, 0x40500020, 1, 0, 0, 1, 0, 0, .rook, .single, 1, fun _ _ => [STOP_CFG_REPEAT_0, STOP_CFG_REPEAT_S, STOP_CFG_HR_REPEAT, STOP_CFG_MEMBER_SCOPE]⟩,
  ⟨"WDOG_CFG", 252, 0x40500030, 1, 0, 0, 1, 0, 0, .rook, .single, 1, fun _ _ => [WDOG_CFG_MIN, WDOG_CFG_TIMEOUT]⟩,
  ⟨"WDOG_SVC", 253, 0x40500034, 1, 0, 0, 1, 0, 0, .rook, .single, 1, fun _ _ => [WDOG_SVC_KEY]⟩,
  ⟨"ROOK_SEQ", 254, 0x40500040, 1, 0, 0, 1, 0, 0, .rook, .single, 1, fun _ _ => [ROOK_SEQ_SSEQ]⟩,
  ⟨"ROOK_CNT", 255, 0x40500050, 1, 0, 0, 1, 0, 0, .rook, .single, 1, fun _ _ => [ROOK_CNT_STOP_EVENTS, ROOK_CNT_STOP_UNSENT]⟩,
  ⟨"ROOK_CNT2", 256, 0x40500054, 1, 0, 0, 1, 0, 0, .rook, .single, 1, fun _ _ => [ROOK_CNT2_SRAM_CE, ROOK_CNT2_QUEUE_FULL]⟩,
  ⟨"ROOK_LOCK", 257, 0x40500060, 1, 0, 0, 1, 0, 0, .rook, .single, 1, fun _ _ => [ROOK_LOCK_LOCK]⟩,
  ⟨"STOP_PLY_LO", 258, 0x40500070, 1, 0, 0, 1, 0, 0, .rook, .single, 1, fun _ _ => [STOP_PLY_LO_PLY]⟩,
  ⟨"STOP_PLY_HI", 259, 0x40500074, 1, 0, 0, 1, 0, 0, .rook, .single, 1, fun _ _ => [STOP_PLY_HI_PLY]⟩,
  ⟨"MSTOP", 260, 0x40500100, 6, 4, 0, 1, 0, 0, .rook, .single, 1, fun i _ => [MSTOP_MEMBERS i]⟩ ]

/-- The registers of block PAIR (R678, base 0x40510000). -/
def rowsPAIR : List RegRow :=
 [
  ⟨"PAIR_CTRL", 261, 0x40510000, 1, 0, 0, 1, 0, 0, .apps, .single, 3, fun _ _ => [PAIR_CTRL_LOCK, PAIR_CTRL_EN, PAIR_CTRL_KEY_SLOT, PAIR_CTRL_DRILL_DAYS]⟩,
  ⟨"PAIR_STATUS", 262, 0x40510004, 1, 0, 0, 1, 0, 0, .apps, .single, 3, fun _ _ => [PAIR_STATUS_ACTIVE, PAIR_STATUS_LINK, PAIR_STATUS_PAIR_SLOW, PAIR_STATUS_HB_OK, PAIR_STATUS_PARTNER_ACTIVE, PAIR_STATUS_PARTNER_STOP, PAIR_STATUS_READY_STANDBY, PAIR_STATUS_KEY_MISMATCH, PAIR_STATUS_TAKEOVER_PEND, PAIR_STATUS_HANDOVER_PEND, PAIR_STATUS_DRILL_DUE, PAIR_STATUS_DAYS_SINCE_ACTIVE]⟩,
  ⟨"CLAIM", 263, 0x40510008, 1, 0, 0, 1, 0, 0, .apps, .single, 3, fun _ _ => [CLAIM]⟩,
  ⟨"PARTNER_CLAIM", 264, 0x4051000C, 1, 0, 0, 1, 0, 0, .apps, .single, 3, fun _ _ => [PARTNER_CLAIM_CLAIM]⟩,
  ⟨"PAIR_CTR", 265, 0x40510010, 1, 0, 0, 1, 0, 0, .apps, .single, 0, fun _ _ => [PAIR_CTR_CTR]⟩,
  ⟨"CKPT_SEQ", 266, 0x40510014, 1, 0, 0, 1, 0, 0, .apps, .single, 3, fun _ _ => [CKPT_SEQ_SEQ]⟩,
  ⟨"CKPT_SFN", 267, 0x40510018, 1, 0, 0, 1, 0, 0, .apps, .single, 3, fun _ _ => [CKPT_SFN_CAPTURE_SFN]⟩,
  ⟨"HANDOVER_SFN", 268, 0x4051001C, 1, 0, 0, 1, 0, 0, .apps, .single, 3, fun _ _ => [HANDOVER_SFN_H]⟩,
  ⟨"PAIR_CNT", 269, 0x40510020, 1, 0, 0, 1, 0, 0, .apps, .single, 3, fun _ _ => [PAIR_CNT_HB_DROP, PAIR_CNT_CKPT_FAIL]⟩,
  ⟨"PAIR_CNT2", 270, 0x40510024, 1, 0, 0, 1, 0, 0, .apps, .single, 3, fun _ _ => [PAIR_CNT2_TAKEOVERS, PAIR_CNT2_YIELDS, PAIR_CNT2_HANDOVERS, PAIR_CNT2_HB_LOST]⟩ ]

/-- The registers of block KS (R678, base 0x40700000). -/
def rowsKS : List RegRow :=
 [
  ⟨"KS_STATUS", 271, 0x40700000, 1, 0, 0, 1, 0, 0, .apps, .single, 3, fun _ _ => [KS_STATUS_TAMPERED, KS_STATUS_RETAINED_LOST, KS_STATUS_TRNG_FAIL, KS_STATUS_ROOT_OK, KS_STATUS_USED]⟩,
  ⟨"KS_CTRL", 272, 0x40700004, 1, 0, 0, 1, 0, 0, .apps, .single, 3, fun _ _ => [KS_CTRL_LOCK, KS_CTRL_IMPORT_EN]⟩,
  ⟨"KS_CNT", 273, 0x40700008, 1, 0, 0, 1, 0, 0, .apps, .single, 3, fun _ _ => [KS_CNT_ORPHAN_ABORTS, KS_CNT_TAMPER_ABORTS]⟩,
  ⟨"KS_CNT2", 274, 0x4070000C, 1, 0, 0, 1, 0, 0, .apps, .single, 3, fun _ _ => [KS_CNT2_INVALIDATIONS, KS_CNT2_IMPORTS]⟩,
  ⟨"KS_SLOT_W0", 275, 0x40701000, 512, 16, 0, 1, 0, 0, .apps, .single, 3, fun i _ => [KS_SLOT_W0_TYPE i, KS_SLOT_W0_ORIGIN i, KS_SLOT_W0_USE i, KS_SLOT_W0_ORPHANED i, KS_SLOT_W0_ROOT_PARENT i, KS_SLOT_W0_PARENT i, KS_SLOT_W0_DEPTH i]⟩,
  ⟨"KS_SLOT_W1", 276, 0x40701004, 512, 16, 0, 1, 0, 0, .apps, .single, 3, fun i _ => [KS_SLOT_W1_GEN i]⟩,
  ⟨"KS_SLOT_W2", 277, 0x40701008, 512, 16, 0, 1, 0, 0, .apps, .single, 3, fun i _ => [KS_SLOT_W2_PGEN i]⟩ ]

/-- The registers of block TAMPER (R678, base 0x40710000). -/
def rowsTAMPER : List RegRow :=
 [
  ⟨"TAMPER_CFG", 278, 0x40710000, 1, 0, 0, 1, 0, 0, .apps, .single, 0, fun _ _ => [TAMPER_CFG_LOCK, TAMPER_CFG_TEMP_EN, TAMPER_CFG_VBAT_EN, TAMPER_CFG_IN_EN]⟩,
  ⟨"TAMPER_STATUS", 279, 0x40710004, 1, 0, 0, 1, 0, 0, .apps, .single, 0, fun _ _ => [TAMPER_STATUS_TAMPERED, TAMPER_STATUS_REFUSED, TAMPER_STATUS_TEMP_HI, TAMPER_STATUS_TEMP_LO, TAMPER_STATUS_VBAT_HI, TAMPER_STATUS_VBAT_LO, TAMPER_STATUS_IN, TAMPER_STATUS_LIVE]⟩,
  ⟨"TAMPER_OH", 280, 0x40710008, 1, 0, 0, 1, 0, 0, .apps, .single, 0, fun _ _ => [TAMPER_OH_SECONDS]⟩,
  ⟨"TAMPER_MS", 281, 0x4071000C, 1, 0, 0, 1, 0, 0, .apps, .single, 0, fun _ _ => [TAMPER_MS_COUNT, TAMPER_MS_MS]⟩,
  ⟨"TAMPER_CTRL", 282, 0x40710010, 1, 0, 0, 1, 0, 0, .apps, .single, 0, fun _ _ => [TAMPER_CTRL_KEY, TAMPER_CTRL_CLEAR]⟩ ]

/-- The registers of block REC (R678, base 0x40800000). -/
def rowsREC : List RegRow :=
 [
  ⟨"REC_CTRL", 283, 0x40800000, 1, 0, 0, 1, 0, 0, .apps, .single, 3, fun _ _ => [REC_CTRL_CIVIL_EN, REC_CTRL_RETEST]⟩,
  ⟨"REC_STATUS", 284, 0x40800004, 1, 0, 0, 1, 0, 0, .apps, .single, 3, fun _ _ => [REC_STATUS_MAIN_FAULT, REC_STATUS_RES_FAULT, REC_STATUS_RETESTING, REC_STATUS_RESTORE_OPEN, REC_STATUS_RES_USED]⟩,
  ⟨"REC_HEAD", 285, 0x40800008, 1, 0, 0, 1, 0, 0, .apps, .single, 3, fun _ _ => [REC_HEAD_INDEX]⟩,
  ⟨"REC_LAST_SEQ", 286, 0x4080000C, 1, 0, 0, 1, 0, 0, .apps, .single, 3, fun _ _ => [REC_LAST_SEQ_SEQ]⟩,
  ⟨"REC_CNT", 287, 0x40800010, 1, 0, 0, 1, 0, 0, .apps, .single, 3, fun _ _ => [REC_CNT_QUEUE_DROP, REC_CNT_CE_COUNT]⟩,
  ⟨"REC_WRAP", 288, 0x40800014, 1, 0, 0, 1, 0, 0, .apps, .single, 3, fun _ _ => [REC_WRAP_WRAP]⟩,
  ⟨"REC_CURSOR", 289, 0x40800020, 1, 0, 0, 1, 0, 0, .apps, .every, 3, fun i _ => [REC_CURSOR_STEP i, REC_CURSOR_RING i, REC_CURSOR_INDEX i]⟩,
  ⟨"REC_WIN", 290, 0x40800040, 1, 0, 0, 16, 4, 0, .apps, .every, 3, fun i j => [REC_WIN_WORD i j]⟩,
  ⟨"REC_WIN_SEQ", 291, 0x40800080, 1, 0, 0, 1, 0, 0, .apps, .every, 3, fun i _ => [REC_WIN_SEQ_SEQ i]⟩,
  ⟨"REC_AON_OH", 292, 0x40800100, 1, 0, 0, 1, 0, 0, .apps, .single, 0, fun _ _ => [REC_AON_OH_SECONDS]⟩,
  ⟨"REC_AON_MS", 293, 0x40800104, 1, 0, 0, 1, 0, 0, .apps, .single, 0, fun _ _ => [REC_AON_MS_PCC]⟩,
  ⟨"REC_AON_LOST", 294, 0x40800108, 1, 0, 0, 1, 0, 0, .apps, .single, 0, fun _ _ => [REC_AON_LOST_LOST_EVENTS]⟩,
  ⟨"REC_AON_SUB", 295, 0x4080010C, 1, 0, 0, 1, 0, 0, .apps, .single, 0, fun _ _ => [REC_AON_SUB_MS]⟩,
  ⟨"REC_RESTORE", 296, 0x40800110, 1, 0, 0, 1, 0, 0, .boot, .single, 3, fun _ _ => [REC_RESTORE_VALUE]⟩ ]

/-- The registers of block MET (R678, base 0x40810000). -/
def rowsMET : List RegRow :=
 [
  ⟨"MET_STATUS", 297, 0x40810000, 1, 0, 0, 1, 0, 0, .mp, .single, 2, fun _ _ => [MET_STATUS_SEAL_OPEN, MET_STATUS_ACCT_FULL, MET_STATUS_AUDIT_LOW, MET_STATUS_AUDIT_TORN, MET_STATUS_IMAGE_MISMATCH, MET_STATUS_AUDIT_CNT]⟩,
  ⟨"MET_STATUS2", 298, 0x40810004, 1, 0, 0, 1, 0, 0, .mp, .single, 2, fun _ _ => [MET_STATUS2_AUDIT_FULL, MET_STATUS2_ACCOUNTS]⟩,
  ⟨"MET_SESSION", 299, 0x40810008, 1, 0, 0, 1, 0, 0, .mp, .single, 2, fun _ _ => [MET_SESSION_SESSION]⟩,
  ⟨"MET_CNT", 300, 0x40810010, 1, 0, 0, 1, 0, 0, .mp, .single, 2, fun _ _ => [MET_CNT_COPY_DROP]⟩,
  ⟨"MET_CNT2", 301, 0x40810014, 1, 0, 0, 1, 0, 0, .mp, .single, 2, fun _ _ => [MET_CNT2_GAPS, MET_CNT2_UNMEASURED]⟩,
  ⟨"MP_CRC", 302, 0x40810020, 1, 0, 0, 1, 0, 0, .mp, .single, 2, fun _ _ => [MP_CRC_CRC]⟩,
  ⟨"MP_VERSION", 303, 0x40810030, 4, 4, 0, 1, 0, 0, .mp, .single, 2, fun i _ => [MP_VERSION_TEXT i]⟩ ]

/-- The registers of block DDR (R678, base 0x40900000). -/
def rowsDDR : List RegRow :=
 [
  ⟨"DDR_CFG", 304, 0x40900000, 2, 4096, 0, 1, 0, 0, .appsBoot, .single, 3, fun i _ => [DDR_CFG_LOCK i, DDR_CFG_STATE i, DDR_CFG_RANKS i, DDR_CFG_DENSITY i]⟩,
  ⟨"ECC_CNT", 305, 0x40900010, 2, 4096, 0, 1, 0, 0, .apps, .single, 3, fun i _ => [ECC_CNT_CE i, ECC_CNT_UE i]⟩,
  ⟨"ECC_CE_ADDR_LO", 306, 0x40900014, 2, 4096, 0, 1, 0, 0, .apps, .single, 3, fun i _ => [ECC_CE_ADDR_LO_ADDR i]⟩,
  ⟨"ECC_CE_ADDR_HI", 307, 0x40900018, 2, 4096, 0, 1, 0, 0, .apps, .single, 3, fun i _ => [ECC_CE_ADDR_HI_ADDR i]⟩,
  ⟨"ECC_UE_ADDR_LO", 308, 0x4090001C, 2, 4096, 0, 1, 0, 0, .apps, .single, 3, fun i _ => [ECC_UE_ADDR_LO_ADDR i]⟩,
  ⟨"ECC_UE_ADDR_HI", 309, 0x40900020, 2, 4096, 0, 1, 0, 0, .apps, .single, 3, fun i _ => [ECC_UE_ADDR_HI_ADDR i]⟩,
  ⟨"ECC_STATUS", 310, 0x40900024, 2, 4096, 0, 1, 0, 0, .apps, .single, 3, fun i _ => [ECC_STATUS_UE i, ECC_STATUS_SCRUB_LATE i, ECC_STATUS_SWEEPS i]⟩,
  ⟨"SCRUB_CFG", 311, 0x40900030, 2, 4096, 0, 1, 0, 0, .apps, .single, 3, fun i _ => [SCRUB_CFG_EN i, SCRUB_CFG_HOURS i]⟩,
  ⟨"SCRUB_POS", 312, 0x40900034, 2, 4096, 0, 1, 0, 0, .apps, .single, 3, fun i _ => [SCRUB_POS_BURST i]⟩,
  ⟨"ECC_INJ", 313, 0x40900040, 2, 4096, 0, 1, 0, 0, .apps, .single, 3, fun i _ => [ECC_INJ_BITS i]⟩,
  ⟨"ECC_SRAM", 314, 0x40908000, 1, 0, 0, 1, 0, 0, .apps, .single, 3, fun _ _ => [ECC_SRAM_SRAM_CE, ECC_SRAM_SRAM_UE]⟩ ]

/-- The registers of block ARB (R678, base 0x40910000). -/
def rowsARB : List RegRow :=
 [
  ⟨"ARB_CLASS", 315, 0x40910000, 2, 4096, 0, 1, 0, 0, .apps, .single, 3, fun i _ => [ARB_CLASS_CLASS_15 i, ARB_CLASS_CLASS_14 i, ARB_CLASS_CLASS_13 i, ARB_CLASS_CLASS_12 i, ARB_CLASS_CLASS_11 i, ARB_CLASS_CLASS_10 i, ARB_CLASS_CLASS_9 i, ARB_CLASS_CLASS_8 i, ARB_CLASS_CLASS_7 i, ARB_CLASS_CLASS_6 i, ARB_CLASS_CLASS_5 i, ARB_CLASS_CLASS_4 i, ARB_CLASS_CLASS_3 i, ARB_CLASS_CLASS_2 i, ARB_CLASS_CLASS_1 i, ARB_CLASS_CLASS_0 i]⟩,
  ⟨"ARB_CTRL", 316, 0x40910004, 2, 4096, 0, 1, 0, 0, .apps, .single, 3, fun i _ => [ARB_CTRL_STARVE_LIMIT i]⟩,
  ⟨"ARB_STARVE", 317, 0x40910008, 2, 4096, 0, 1, 0, 0, .apps, .single, 3, fun i _ => [ARB_STARVE_STARVE i]⟩,
  ⟨"ARB_GRANT_LO", 318, 0x40910100, 2, 4096, 0, 16, 32, 0, .apps, .single, 3, fun i j => [ARB_GRANT_LO_GRANT i j]⟩,
  ⟨"ARB_GRANT_HI", 319, 0x40910104, 2, 4096, 0, 16, 32, 0, .apps, .single, 3, fun i j => [ARB_GRANT_HI_GRANT i j]⟩,
  ⟨"ARB_WAIT_LO", 320, 0x40910108, 2, 4096, 0, 16, 32, 0, .apps, .single, 3, fun i j => [ARB_WAIT_LO_WAIT i j]⟩,
  ⟨"ARB_WAIT_HI", 321, 0x4091010C, 2, 4096, 0, 16, 32, 0, .apps, .single, 3, fun i j => [ARB_WAIT_HI_WAIT i j]⟩,
  ⟨"ARB_LONGEST", 322, 0x40910110, 2, 4096, 0, 16, 32, 0, .apps, .single, 3, fun i j => [ARB_LONGEST_LONGEST i j]⟩,
  ⟨"ARB_VOID", 323, 0x40910114, 2, 4096, 0, 16, 32, 0, .apps, .single, 3, fun i j => [ARB_VOID_VOID i j]⟩ ]

/-- The registers of block CRC (R678, base 0x40920000). -/
def rowsCRC : List RegRow :=
 [
  ⟨"CRC_CTRL", 324, 0x40920000, 16, 256, 0, 1, 0, 0, .r145, .single, 3, fun i _ => [CRC_CTRL_TAKE i, CRC_CTRL_RELEASE i, CRC_CTRL_CLEAR i, CRC_CTRL_REFIN i, CRC_CTRL_REFOUT i, CRC_CTRL_PER_FRAME i, CRC_CTRL_W i, CRC_CTRL_OWNER i, CRC_CTRL_SNOOP_SRC i]⟩,
  ⟨"CRC_POLY_LO", 325, 0x40920004, 16, 256, 0, 1, 0, 0, .r145, .single, 3, fun i _ => [CRC_POLY_LO_POLY i]⟩,
  ⟨"CRC_POLY_HI", 326, 0x40920008, 16, 256, 0, 1, 0, 0, .r145, .single, 3, fun i _ => [CRC_POLY_HI_POLY i]⟩,
  ⟨"CRC_INIT_LO", 327, 0x4092000C, 16, 256, 0, 1, 0, 0, .r145, .single, 3, fun i _ => [CRC_INIT_LO_INIT i]⟩,
  ⟨"CRC_INIT_HI", 328, 0x40920010, 16, 256, 0, 1, 0, 0, .r145, .single, 3, fun i _ => [CRC_INIT_HI_INIT i]⟩,
  ⟨"CRC_XOR_LO", 329, 0x40920014, 16, 256, 0, 1, 0, 0, .r145, .single, 3, fun i _ => [CRC_XOR_LO_XOROUT i]⟩,
  ⟨"CRC_XOR_HI", 330, 0x40920018, 16, 256, 0, 1, 0, 0, .r145, .single, 3, fun i _ => [CRC_XOR_HI_XOROUT i]⟩,
  ⟨"CRC_STATE_LO", 331, 0x4092001C, 16, 256, 0, 1, 0, 0, .r145, .single, 3, fun i _ => [CRC_STATE_LO_STATE i]⟩,
  ⟨"CRC_STATE_HI", 332, 0x40920020, 16, 256, 0, 1, 0, 0, .r145, .single, 3, fun i _ => [CRC_STATE_HI_STATE i]⟩,
  ⟨"CRC_RESULT_LO", 333, 0x40920024, 16, 256, 0, 1, 0, 0, .r145, .single, 3, fun i _ => [CRC_RESULT_LO_RESULT i]⟩,
  ⟨"CRC_RESULT_HI", 334, 0x40920028, 16, 256, 0, 1, 0, 0, .r145, .single, 3, fun i _ => [CRC_RESULT_HI_RESULT i]⟩,
  ⟨"CRC_BYTES_LO", 335, 0x4092002C, 16, 256, 0, 1, 0, 0, .r145, .single, 3, fun i _ => [CRC_BYTES_LO_BYTES i]⟩,
  ⟨"CRC_BYTES_HI", 336, 0x40920030, 16, 256, 0, 1, 0, 0, .r145, .single, 3, fun i _ => [CRC_BYTES_HI_BYTES i]⟩,
  ⟨"CRC_STATUS", 337, 0x40920034, 16, 256, 0, 1, 0, 0, .r145, .single, 3, fun i _ => [CRC_STATUS_BUSY i, CRC_STATUS_DONE i, CRC_STATUS_ERROR i, CRC_STATUS_CAUSE i, CRC_STATUS_FRAMES i]⟩,
  ⟨"CRC_SCAN_START_LO", 338, 0x40920038, 16, 256, 0, 1, 0, 0, .r145, .single, 3, fun i _ => [CRC_SCAN_START_LO_START i]⟩,
  ⟨"CRC_SCAN_START_HI", 339, 0x4092003C, 16, 256, 0, 1, 0, 0, .r145, .single, 3, fun i _ => [CRC_SCAN_START_HI_START i]⟩,
  ⟨"CRC_SCAN_LEN", 340, 0x40920040, 16, 256, 0, 1, 0, 0, .r145, .single, 3, fun i _ => [CRC_SCAN_LEN_LENGTH i]⟩,
  ⟨"CRC_SCAN_GO", 341, 0x40920044, 16, 256, 0, 1, 0, 0, .r145, .single, 3, fun i _ => [CRC_SCAN_GO_GO i]⟩,
  ⟨"CRC_FEED", 342, 0x40920048, 16, 256, 0, 1, 0, 0, .r145, .single, 3, fun i _ => [CRC_FEED_DATA i]⟩,
  ⟨"CRC_FEED_B", 343, 0x4092004C, 16, 256, 0, 1, 0, 0, .r145, .single, 3, fun i _ => [CRC_FEED_B_DATA i]⟩ ]

/-- The registers of block BOOT (R678, base 0x40A00000). -/
def rowsBOOT : List RegRow :=
 [
  ⟨"BOOT_STATUS", 385, 0x40A00000, 1, 0, 0, 1, 0, 0, .appsBoot, .single, 3, fun _ _ => [BOOT_STATUS_SLOT, BOOT_STATUS_TRIAL, BOOT_STATUS_LOAD_FAIL, BOOT_STATUS_RECOVERY, BOOT_STATUS_CAUSE, BOOT_STATUS_MIN_SVN]⟩,
  ⟨"MON_STATUS", 386, 0x40A00010, 1, 0, 0, 1, 0, 0, .nobody, .single, 3, fun _ _ => [MON_STATUS_DBG_LOCK, MON_STATUS_OPEN, MON_STATUS_HELD, MON_STATUS_LOCKOUT, MON_STATUS_MINUTES]⟩ ]

/-- Every register of the device (R678). -/
def regRows : List RegRow :=
  rowsSYS ++
  rowsSYS1 ++
  rowsSYS2 ++
  rowsPLY ++
  rowsECP ++
  rowsFE ++
  rowsCH ++
  rowsOBS ++
  rowsTIME ++
  rowsETH ++
  rowsFIX ++
  rowsLANES ++
  rowsMAC ++
  rowsDISP ++
  rowsTRK ++
  rowsROOK ++
  rowsPAIR ++
  rowsKS ++
  rowsTAMPER ++
  rowsREC ++
  rowsMET ++
  rowsDDR ++
  rowsARB ++
  rowsCRC ++
  rowsBOOT

/-- The part whose reset gives a register its reset value (R17, R104), by register number; the exceptions inside a
register are those of R678 and R681 (`regPart`). -/
def regPartNum (n : Nat) : Part :=
  if n ≤ 3 then .sys
  else if n ≤ 8 then .aon
  else if n ≤ 9 then .sys
  else if n ≤ 11 then .rstctl
  else if n ≤ 38 then .sys
  else if n ≤ 100 then .gnss
  else if n ≤ 125 then .sys
  else if n ≤ 135 then .net
  else if n ≤ 160 then .fix
  else if n ≤ 184 then .radio
  else if n ≤ 186 then .aon
  else if n ≤ 197 then .radio
  else if n ≤ 244 then .sys
  else if n ≤ 260 then .rook
  else if n ≤ 264 then .sys
  else if n ≤ 265 then .aon
  else if n ≤ 277 then .sys
  else if n ≤ 282 then .aon
  else if n ≤ 291 then .sys
  else if n ≤ 295 then .aon
  else if n ≤ 296 then .sys
  else if n ≤ 303 then .mp
  else if n ≤ 314 then .dram
  else .sys

/-- The part whose reset gives a field its reset value: key slots 0 to 127, RETAINED_LOST and DAYS_SINCE_ACTIVE lie in
PD_AON (R678). -/
def regPart (k : RKey) : Part :=
  if 275 ≤ k.reg ∧ k.reg ≤ 277 then (if k.i < 128 then .aon else .sys)
  else if k.reg = 271 ∧ k.lo = 30 then .aon
  else if k.reg = 262 ∧ k.lo = 0 then .aon
  else regPartNum k.reg

/-- Fields no reset of their part changes: those whose reset the spec gives as a dash (log 3), the recorder's
position and media-fault bits, which only a main or AON power-on clears (R598, R602, R603), TRIM_STATUS, which the trim
load itself writes (R132 to R135), and the slot booted and LOCKOUT, which last to the next cold or wider reach (spec/23). -/
def resetKeeps (k : RKey) : Bool :=
  (k.reg == 0 && k.lo == 6) ||
  (k.reg == 0 && k.lo == 2) ||
  (k.reg == 0 && k.lo == 0) ||
  (k.reg == 10 && k.lo == 31) ||
  (k.reg == 10 && k.lo == 12) ||
  (k.reg == 10 && k.lo == 8) ||
  (k.reg == 10 && k.lo == 5) ||
  (k.reg == 10 && k.lo == 4) ||
  (k.reg == 10 && k.lo == 0) ||
  (k.reg == 193 && k.lo == 8) ||
  (k.reg == 271 && k.lo == 28) ||
  (k.reg == 279 && k.lo == 0) ||
  (k.reg == 297 && k.lo == 0) ||
  (k.reg == 298 && k.lo == 31) ||
  (k.reg == 384 && k.lo == 8) ||
  (k.reg == 384 && k.lo == 0) ||
  (k.reg == 385 && k.lo == 0) ||
  (k.reg == 386 && k.lo == 31) ||
  (k.reg == 284 && k.lo == 31) ||
  (k.reg == 284 && k.lo == 30) ||
  (k.reg == 284 && k.lo == 0) ||
  (k.reg == 285 && k.lo == 0) ||
  (k.reg == 286 && k.lo == 0) ||
  (k.reg == 288 && k.lo == 0) ||
  (k.reg == 11 && k.lo == 16) ||
  (k.reg == 11 && k.lo == 12) ||
  (k.reg == 11 && k.lo == 8) ||
  (k.reg == 11 && k.lo == 2) ||
  (k.reg == 11 && k.lo == 1) ||
  (k.reg == 11 && k.lo == 0) ||
  (k.reg == 385 && k.lo == 31) ||
  (k.reg == 386 && k.lo == 28)

end Sys2Proof.Machine
end

