-- ==== Sys2Proof/Machine/Ops.lean ====
section
/-!
DEFINITION. The shared operations: reading and writing a register field (each register has one home, the list
`State.regs`), event records (R594 to R598), interrupts, free values, and the judgement of a register access (R679,
R680). The commands' meanings are written over these.
-/

namespace Sys2Proof.Machine

open R

/-! ## The register store -/

/-- The value kept for a key, or the reset value where none is listed (R17). -/
def regLookup : List (RKey × Nat) → RKey → Nat → Nat
  | [], _, d => d
  | (k, v) :: t, q, d => if k = q then v else regLookup t q d

/-- Order of keys in the store: by register, instances, lowest bit. -/
def RKey.lt (a b : RKey) : Bool :=
  a.reg < b.reg || (a.reg == b.reg && (a.i < b.i || (a.i == b.i && (a.j < b.j || (a.j == b.j && a.lo < b.lo)))))

/-- The store without a key. -/
def regErase (l : List (RKey × Nat)) (q : RKey) : List (RKey × Nat) := l.filter (fun e => e.1 ≠ q)

/-- The store with an entry put before the first larger key. -/
def regIns (q : RKey) (v : Nat) : List (RKey × Nat) → List (RKey × Nat)
  | [] => [(q, v)]
  | e :: t => if q.lt e.1 then (q, v) :: e :: t else e :: regIns q v t

/-- The current value of a field. -/
def State.get (s : State) (f : Fld) : Nat := regLookup s.regs f.key f.rst

/-- The current value of a one-bit field. -/
def State.bit (s : State) (f : Fld) : Bool := s.get f != 0

/-- The current value of a field that the spec calls signed. -/
def State.getS (s : State) (f : Fld) : Int := sgn f.w (s.get f)

/-- The field set to `v`, reduced to its width. A value equal to the reset value is not listed, so equal register
files are equal data. -/
def State.put (s : State) (f : Fld) (v : Nat) : State :=
  { s with regs := if v % 2 ^ f.w = f.rst then regErase s.regs f.key
                   else regIns f.key (v % 2 ^ f.w) (regErase s.regs f.key) }

/-- The field set to a signed value in two's complement. -/
def State.putS (s : State) (f : Fld) (x : Int) : State := s.put f (usgn f.w x)

/-- A counter advanced by `n`, stopping at its maximum. -/
def State.bump (s : State) (f : Fld) (n : Nat := 1) : State := s.put f (min (s.get f + n) (2 ^ f.w - 1))

/-- A bit of a field that holds one flag per instance. -/
def State.getBit (s : State) (f : Fld) (n : Nat) : Bool := bitOf (s.get f) n

/-- One bit of a field set to `b`. -/
def State.putBit (s : State) (f : Fld) (n : Nat) (b : Bool) : State := s.put f (Sys2Proof.putBit (s.get f) n b)

/-- A list of field updates, in order. -/
def State.puts (s : State) : List (Fld × Nat) → State
  | [] => s
  | (f, v) :: t => (s.put f v).puts t

/-! ## Free values, outputs and event records -/

/-- A value the spec leaves open (log 4). -/
def State.freeVal (s : State) : Nat := Config.freeValue s.freeCtr

/-- The free-value counter advanced past `n` values. -/
def State.useFree (s : State) (n : Nat := 1) : State := { s with freeCtr := s.freeCtr + n }

/-- An output appended to the trace (log 5). -/
def State.emit (s : State) (o : Output) : State := { s with out := s.out ++ [o] }

/-- Submit an event record: the time stamps and PLY are taken at entry (R596); a record that meets a full queue is
dropped, QUEUE_DROP advances and the next record written carries LOST_BEFORE (R597). While PD_SYS is in reset there is no
queue to enter. -/
def State.record (s : State) (e : Ev) (payload : List Nat := []) (source : Nat := 0) : State :=
  if s.rst.held.contains .sys then s
  else if 64 ≤ s.evr.queue.length then
    { s.bump REC_CNT_QUEUE_DROP with evr := { s.evr with lostBefore := true } }
  else
    let cv := s.bit REC_CTRL_CIVIL_EN && s.bit TIME_STATUS_VALID
    let r : Rec :=
      { ohSec := s.get REC_AON_OH_SECONDS, ohMs := s.get REC_AON_SUB_MS, pcc := s.get REC_AON_MS_PCC, civilValid := cv,
        ev := e, ply := s.ply, civilSec := if cv then s.time.sec else 0,
        timeGen := s.get TIME_STATUS_TIME_GEN, civilNs := if cv then s.time.ns else 0, source := source,
        payload := payload.take 24 }
    { s with evr := { s.evr with queue := s.evr.queue ++ [r] } }

/-! ## What holds for a time -/

/-- The ply since which something holds, kept in a list by number. -/
def heldSince (l : List (Nat × Nat)) (n ply : Nat) (now : Bool) : List (Nat × Nat) :=
  if !now then l.filter (fun (e : Nat × Nat) => e.1 ≠ n)
  else if l.any (fun e => e.1 == n) then l else l ++ [(n, ply)]

/-- It has held for `d` plies. -/
def heldFor (l : List (Nat × Nat)) (n ply d : Nat) : Bool :=
  match l.find? (fun e => e.1 == n) with | some e => decide (e.2 + d ≤ ply) | none => false

/-! ## The superframe number -/

/-- The K0 that NET_K0 holds (R685). -/
def State.k0 (s : State) : Nat := s.get NET_K0_LO_K0 + s.get NET_K0_HI_K0 * 2 ^ 32

/-- The unit has a current SFN: it holds a K0, the time unit has a grid, and boundary K0 has been reached (R685). -/
def State.hasSfn (s : State) : Bool := s.bit NET_K0_HI_VALID && s.time.grid && decide (s.k0 ≤ s.time.k)

/-- The current SFN, or 0xFFFF_FFFF without one (R19, R685); it does not wrap (R20). -/
def State.sfn (s : State) : Nat := if s.hasSfn then min (s.time.k - s.k0) 0xFFFFFFFF else 0xFFFFFFFF

/-- The SFN has reached the end margin (R20). -/
def State.sfnNearEnd (s : State) : Bool := s.hasSfn && decide (0xFFFFFFFF - 864000 ≤ s.time.k - s.k0)

/-- SFN_NEAR_END is logged when the SFN is first seen at or past the margin: `was` says that it lay there before (R20). -/
def State.logNearEnd (was : Bool) (s : State) : State :=
  if s.sfnNearEnd && !was then s.record .sfnNearEnd (leBytes 4 s.sfn) else s

/-- The settings blob states another role than the strap (R131). -/
def State.roleMismatch (s : State) : Bool :=
  match s.boot.settingsRole with
  | some r => r != s.get STRAP_ROLE
  | none => false

/-! ## Power domains and parts -/

/-- The part that a domain of R87 belongs to in R104. -/
def domPart : Nat → Part
  | 0 => .aon | 1 => .rook | 2 => .mp | 3 => .sys | 4 => .cpuA | 5 => .cpuB | 6 => .fix | 7 => .gnss | 8 => .radio
  | _ => .net

/-- A domain is off, or powered but held in reset (R89). -/
def State.domOff (s : State) (d : Nat) : Bool :=
  !bitOf (s.get PD_STATUS_ON) d || s.rst.held.contains (domPart d)

/-- An initiator's ID is that of an application core (R7). -/
def isApp (ini : Nat) : Bool := 0x10 ≤ ini && ini ≤ 0x1F

/-- The initiators that may own castlings, semaphores and CRC channels (R145, R164, R633). -/
def capable (ini : Nat) : Bool :=
  ini == 0x01 || ini == 0x02 || isApp ini || ini == 0x30 || ini == 0x31 || ini == 0x3E

/-! ## Judging a register access (R679, R680) -/

/-- An initiator is named as an owner of a register (R169). -/
def Own.names : Own → Nat → Bool
  | .apps, i => isApp i
  | .appsRook, i => isApp i || i == 0x30
  | .rook, i => i == 0x30
  | .appsBoot, i => isApp i || i == 0x3F
  | .mp, i => i == 0x31
  | .boot, i => i == 0x3F
  | .nobody, _ => false
  | .stopPort, i => i == 0x01 || i == 0x02 || isApp i
  | .r145, i => capable i

/-- A register is banked for an initiator (R163, R457, R541, R604). -/
def BankKind.holds : BankKind → Nat → Bool
  | .single, _ => false
  | .cast, i => capable i
  | .disp, i => isApp i || i == 0x21
  | .every, _ => true
  | .stop, i => i == 0x01 || i == 0x02 || isApp i

/-- The instance of a row at an address, if the address is one of its registers. -/
def RegRow.inst (r : RegRow) (a : Nat) : Option (Nat × Nat) :=
  if a < r.addr then none
  else
    let d := a - r.addr
    let i := if r.ni ≤ 1 then 0 else d / r.si
    let d' := d - i * (if r.ni ≤ 1 then 0 else r.si)
    let j := if r.nj ≤ 1 then 0 else d' / r.sj
    if i < r.ni ∧ j < r.nj ∧ d' = j * (if r.nj ≤ 1 then 0 else r.sj) then some (i + r.i0, j + r.j0) else none

/-- The register at an address (R678); none where R679 finds the address empty. -/
def findReg (a : Nat) : List RegRow → Option (RegRow × Nat × Nat)
  | [] => none
  | r :: t => match r.inst a with
    | some (i, j) => some (r, i, j)
    | none => findReg a t

/-- The lowest-numbered enabled firewall window that covers an address, searched from window `n` (R168, R169). -/
def State.fwWindow (s : State) (a : Nat) : Nat → Nat → Option Nat
  | 0, _ => none
  | k + 1, n =>
    if s.bit (FW_CTRL_EN n) && decide (s.get (FW_BASE_ADDR n) * 256 ≤ a ∧ a ≤ s.get (FW_LIMIT_ADDR n) * 256 + 255)
    then some n else s.fwWindow a k (n + 1)

/-! ## The next state of a command -/

/-- No relay is driven while the stop state is in force (R523). -/
def State.relayGate (s : State) : State := if s.bit ROOK_STATE_STOP then s.put RELAY_STATUS_DRIVE 0 else s

/-- What a command's meaning answers. -/
abbrev Out := Host.Outcome State Fault Refusal

/-- A command's next state; whatever the command did, R523 holds in it. -/
def fin (s : State) : Out := .next s.relayGate

/-- The outcome of judging an access (R151, R680). -/
inductive Verdict where
  | ok | badAddr | denied | off
  deriving DecidableEq, Repr

/-- Hard-wired write rights (R167): the Rook block takes writes only from 0x30, the metrology block only from 0x31. -/
def hardWrite (ini a : Nat) : Bool :=
  if 0x40500000 ≤ a ∧ a ≤ 0x4050FFFF then ini == 0x30
  else if 0x40810000 ≤ a ∧ a ≤ 0x40810FFF then ini == 0x31
  else true

/-- Rights of a window: bit `ini` of its write or read mask (R169). -/
def State.fwGrants (s : State) (n ini : Nat) (write : Bool) : Bool :=
  if ini < 32 then bitOf (s.get (if write then FW_WMASK_LO_MASK n else FW_RMASK_LO_MASK n)) ini
  else bitOf (s.get (if write then FW_WMASK_HI_MASK n else FW_RMASK_HI_MASK n)) (ini - 32)

/-- Default rights where no enabled window covers the address (R169). -/
def defaultRight (r : RegRow) (ini : Nat) (write : Bool) : Bool :=
  if ini == 0x01 || ini == 0x02 then false
  else if write then isApp ini || ini == 0x30 || ini == 0x3E || ini == 0x3F || r.own.names ini || r.bank.holds ini
  else true

/-- STOP_PORT is written, and one's own bank of STOP_PORT_RES read, whatever the windows (R541). -/
def stopPortRight (r : RegRow) (ini : Nat) : Bool := r.bank == .stop && r.bank.holds ini

/-- The domain of a register: key slots 0 to 127 lie in PD_AON (R678). -/
def RegRow.domAt (r : RegRow) (a : Nat) : Nat := if 0x40701000 ≤ a ∧ a < 0x40701800 then 0 else r.dom

/-- Judge an access to a register that exists, in the order of R680; Rook's block takes writes from Rook alone (R167, R511). -/
def State.judgeRow (s : State) (r : RegRow) (ini a : Nat) (write : Bool) : Verdict :=
  if write && !hardWrite ini a then .denied
  else if !stopPortRight r ini &&
      !(match s.fwWindow a 64 0 with
        | some n => s.fwGrants n ini write
        | none => defaultRight r ini write) then .denied
  else if s.domOff (r.domAt a) then .off
  else .ok

/-- Judge an access to an address (R679, R680). -/
def State.judge (s : State) (ini a : Nat) (write : Bool) : Verdict :=
  match findReg a regRows with
  | none => .badAddr
  | some (r, _, _) => s.judgeRow r ini a write

/-- A denied access advances FW_VIOLATIONS and writes an event record with the address and the initiator (R170). -/
def State.violation (s : State) (ini a : Nat) : State :=
  (s.bump FW_STATUS_FW_VIOLATIONS).record .fwViolation (leBytes 4 a ++ [ini]) ini

/-- A Rook write to any other register than WDOG_SVC cancels a 0xC35A (R513). -/
def State.rookWrote (s : State) (ini a : Nat) : State :=
  if ini == 0x30 && a != 0x40500034 then { s with rook := { s.rook with svc := false } } else s

/-- Run the effect of a register write that its row judges: an empty address and an off domain leave the state, a
denial is counted (R89, R170, R679). -/
def State.asWrite (s : State) (ini a : Nat) (k : State → State) : State :=
  let s := s.rookWrote ini a
  match s.judge ini a true with
  | .ok => k s
  | .denied => s.violation ini a
  | .badAddr | .off => s

/-- Run the effect of a register read that its row judges. -/
def State.asRead (s : State) (ini a : Nat) (k : State → State) : State :=
  match s.judge ini a false with
  | .ok => k s
  | .denied => s.violation ini a
  | .badAddr | .off => s

end Sys2Proof.Machine
end

