-- ==== Sys2Proof/Machine/DispBase.lean ====
section
/-!
DEFINITION. The dispatcher's descriptors by ID, a core's running task returning to the head of its level (spec/14), and what
a part does as it leaves reset.
-/

namespace Sys2Proof.Machine

open R

/-- INDEX of a task ID. -/
def taskIx (id : Nat) : Nat := id % 4096

/-- The descriptor at an INDEX, if it has ever been allocated. -/
def State.task (s : State) (ix : Nat) : Option Task := (s.disp.tasks.find? (fun e => e.1 == ix)).map (·.2)

/-- The task an ID names: its GEN is the descriptor's current one (R453). -/
def State.taskOf (s : State) (id : Nat) : Option Task :=
  match s.task (taskIx id) with
  | some t => if t.id = id then some t else none
  | none => none

/-- A descriptor replaced. -/
def State.setTask (s : State) (t : Task) : State :=
  { s with disp := { s.disp with
    tasks := s.disp.tasks.filter (fun (e : Nat × Task) => e.1 ≠ taskIx t.id) ++ [(taskIx t.id, t)] } }

/-- TIER of a task: M is true. -/
def Task.tierM (t : Task) : Bool := bitOf t.flags 0

/-- The running task of a core returns to the head of its level (R462). -/
def State.suspendTask (s : State) (c : Nat) (susp : Bool) : State :=
  match s.taskOf (s.get (DISP_RUN_ID c)) with
  | some t =>
    if t.state = 5 ∧ !t.tierM then
      let s := s.setTask { t with state := 2, susp := susp, exec := 0 }
      { s with disp := { s.disp with ready := taskIx t.id :: s.disp.ready } }
    else s
  | none => s

/-- A core that resets or faults: its running task returns with SUSPENDED clear, RESTARTS advances, the core is idle
(R462). -/
def State.coreLost (s : State) (c : Nat) : State :=
  if s.get (DISP_RUN_ID c) = 0 then s
  else ((s.suspendTask c false).puts [(DISP_RUN_ID c, 0), (DISP_CORE_RUN_LEVEL c, 64)]).bump DISP_CNT2_RESTARTS

/-! ## A cable diagnosis that ends with PD_NET (R656) -/

/-- Results of a run: a status and a length for each pair, and the operating hours (R656). -/
def State.cableResult (s : State) (p : Nat) (st len : List Nat) : State :=
  s.puts [(CABLE_W0_ST_A p, leAt st 0 1), (CABLE_W0_ST_B p, leAt st 1 1), (CABLE_W0_ST_C p, leAt st 2 1), (CABLE_W0_ST_D p, leAt st 3 1),
    (CABLE_W1_LEN_A p, len.getD 0 0), (CABLE_W1_LEN_B p, len.getD 1 0), (CABLE_W2_LEN_C p, len.getD 2 0), (CABLE_W2_LEN_D p, len.getD 3 0),
    (CABLE_W3_OH_SEC p, s.get REC_AON_OH_SECONDS), (CABLE_W0_BUSY p, 0), (CABLE_W0_DONE p, 1)]

/-- The end of a run, with its event record (R656). -/
def State.cableEnd (s : State) (st len : List Nat) : State :=
  match s.site.cable with
  | none => s
  | some p =>
    let s := { s with site := { s.site with cable := none } }
    (s.cableResult p st len).record .cableDiag ([p] ++ st ++ len.flatMap (leBytes 2))

/-! ## The audit trail and the metrology session (R609, R615) -/

/-- The status bits and counts of the trail (R615). -/
def State.auditStatus (s : State) : State :=
  let n := s.audit.length
  s.puts [(MET_STATUS_AUDIT_CNT, min n 0xFFF), (MET_STATUS2_AUDIT_FULL, b2n (decide (4096 ≤ n))),
    (MET_STATUS_AUDIT_LOW, b2n (decide (4000 ≤ n))), (MET_STATUS_AUDIT_TORN, b2n (s.audit.any (fun e => !e.1)))]

/-- A release of MP from reset begins a session (R609). -/
def State.mpRelease (s : State) : State :=
  let n := s.mpStarts + 1
  ({ s with mpStarts := n, mp := {} }.put MET_SESSION_SESSION ((s.get REC_AON_MS_PCC * 256 + n % 256) % 2 ^ 32)).auditStatus

end Sys2Proof.Machine
end

