-- ==== Sys2Proof/Machine/ResetCtl.lean ====
section
/-!
DEFINITION. Reset: which parts a reach covers (R104), what asserting a source does (R113 to R115, R120, R122), the
owners whose castlings, semaphores and CRC channels end with it (R159, R166, R633), and the release (R116, R117, R121,
R126, R136).
-/

namespace Sys2Proof.Machine

open R

/-- The reach of a source (R110). -/
def reachOf : Nat → Reach
  | 0 => .aon
  | 1 | 2 | 3 => .main
  | 4 | 5 | 6 | 7 => .cold
  | 8 | 9 => .rook
  | 10 | 11 | 12 | 13 | 14 => .sys
  | 15 | 16 => .warm
  | _ => .mp

/-- The parts every reach from warm outward covers (R104). -/
def warmParts : List Part := [.sys, .cpuA, .cpuB, .fix, .gnss, .radio, .net]

/-- The parts a reach puts into reset (R104). -/
def Reach.parts : Reach → List Part
  | .aon => [.aon, .rstctl, .rook, .mp, .ply] ++ warmParts ++ [.dram]
  | .main | .cold => [.rstctl, .rook, .mp, .ply] ++ warmParts ++ [.dram]
  | .sys => warmParts ++ [.dram]
  | .warm => warmParts
  | .rook => [.rook]
  | .mp => [.mp]

/-- Rank of a reach in cause recording, highest first (R125). -/
def Reach.rank : Reach → Nat
  | .aon => 0 | .main => 1 | .cold => 2 | .rook => 3 | .sys => 4 | .warm => 5 | .mp => 6

/-! ## Owners that reset or fault -/

/-- End one castling as ABORTED_OWNER_RESET, with its event record (R159); its entries are freed (R157). -/
def castOwnerReset (s : State) (n : Nat) : State :=
  let s := s.puts [(CAST_STAT_STATE n, 6), (CAST_INFO_CAUSE n, 0)]
  let s := { s with cast := { s.cast with
    entries := s.cast.entries.filter (fun e => e.1 ≠ n)
    commitAt := s.cast.commitAt.filter (fun e => e.1 ≠ n)
    armedIn := s.cast.armedIn.filter (fun e => e.1 ≠ n)
    order := s.cast.order.filter (· ≠ n) } }
  s.record .castOwnerReset (leBytes 2 (s.get (CAST_STAT_ID n)) ++ [s.get (CAST_STAT_OWNER n)])

/-- Slot `n` holds an OPEN or ARMED castling of `ini`. -/
def castHeldBy (s : State) (ini n : Nat) : Bool :=
  s.get (CAST_STAT_OWNER n) == ini && (s.get (CAST_STAT_STATE n) == 1 || s.get (CAST_STAT_STATE n) == 2)

/-- End every OPEN or ARMED castling of an initiator (R159). -/
def abortCastings (ini : Nat) (s : State) : State :=
  (List.range 16).foldl (fun s n => if castHeldBy s ini n then castOwnerReset s n else s) s

/-- Free an initiator's semaphores, setting OWNER_RESET in each (R166). -/
def freeSems (ini : Nat) (s : State) : State :=
  (List.range 64).foldl (fun s n =>
    if s.bit (SEM_HELD n) && s.get (SEM_OWNER n) == ini
    then ({ s with cast := { s.cast with freed := n :: s.cast.freed } }).puts
      [(SEM_HELD n, 0), (SEM_OWNER n, 0), (SEM_OWNER_RESET n, 1)] else s) s

/-- Free an initiator's CRC channels: a scan in progress ends ERROR with cause OWNER_RESET, a snoop stops (R633). -/
def freeCrcs (ini : Nat) (s : State) : State :=
  (List.range 12).foldl (fun s k =>
    if s.get (CRC_CTRL_OWNER k) == ini then
      let s := if s.bit (CRC_STATUS_BUSY k)
        then s.puts [(CRC_STATUS_BUSY k, 0), (CRC_STATUS_ERROR k, 1), (CRC_STATUS_CAUSE k, 4)] else s
      s.puts [(CRC_CTRL_OWNER k, 0), (CRC_CTRL_SNOOP_SRC k, 0)]
    else s) s

/-- What a reset or fault of an initiator ends: its castlings, its semaphores, its CRC channels and, for an application
core, its running task (R159, R160, R166, R462, R633). -/
def ownerReset (ini : Nat) (s : State) : State :=
  let s := if isApp ini then s.coreLost (ini - 0x10) else s
  if capable ini then freeCrcs ini (freeSems ini (abortCastings ini s)) else s

/-- The initiators that reset with a part, beside those that go with the castling unit itself; PD_CPU_B has 0x18 to 0x1F (R90, R159, R161). -/
def partOwners : Part → List Nat
  | .rook => [0x30]
  | .mp => [0x31]
  | .cpuB => [0x18, 0x19, 0x1A, 0x1B, 0x1C, 0x1D, 0x1E, 0x1F]
  | .cpuA => [0x10, 0x11, 0x12, 0x13, 0x14, 0x15, 0x16, 0x17]
  | _ => []

/-! ## Putting a part into reset -/

/-- Every register field of a part takes its reset value (R17), LOCK bits too (R171, R682), but for those that keep theirs. -/
def State.resetRegs (s : State) (p : Part) : State :=
  { s with regs := s.regs.filter (fun e => decide (regPart e.1 ≠ p) || resetKeeps e.1) }

/-- Records still queued when a reset of PD_SYS asserts are lost, and the first record after release carries
LOST_BEFORE; the rings, CIVIL_HWM apart (R595), stay (R598). -/
def recLoseQueue (r : RecState) : RecState :=
  { r with queue := [], lostBefore := r.lostBefore || !r.queue.isEmpty, hwmSec := 0, hwmNs := 0
           restoreHours := none }

/-- What an application firmware component loses with its domain (R91, R667). -/
def State.unload (s : State) (typ : Nat) : State := { s with boot := { s.boot with loaded := s.boot.loaded.filter (· ≠ typ) } }

/-- PD_SYS enters reset: what its blocks hold is lost, a switching sequence ends (R93), but the rings of the recorder (R598), the keys of slots 0 to 127
(R574, R590, R678), the accepted header in DRAM (R107, R664), the signals in force, which a warm reset leaves (R279), and the monitor's failures, which last to the next cold reset (R677). The
DRAM controller issues refresh commands alone until PD_SYS is released. -/
def State.resetSys (s : State) : State :=
  { s with sw := {}, cast := {}, evr := recLoseQueue s.evr, gnssCfg := { s.gnssCfg with waits := [] }, time := {}, ecp := {}, disp := {}, trk := {}
           pair := {}, site := {}, unit := {}
           ks := { s.ks with vals := s.ks.vals.filter (fun (e : Nat × List Nat) => e.1 < 128) }
           boot := { fails := s.boot.fails, header := s.boot.header }
           clk := { s.clk with txEndPending := false, txEnded := s.clk.refLost }
           dram := { s.dram with refreshOnly := true } }

/-- One part enters reset: its registers take their reset values and what else it holds is lost (R89, R104); DRAM loses its
contents with its controller (R107). What lies outside the device, in the flash and in OTP stays. -/
def State.enterReset (s : State) (p : Part) : State :=
  let s := s.resetRegs p
  match p with
  | .aon => { s with pwr := { railValid := s.pwr.railValid, mainEn := s.pwr.mainEn, thermTrip := s.pwr.thermTrip, brown := s.pwr.brown }
                     ks := { s.ks with vals := [] }, mpStarts := 0 }
  | .rstctl => { s with boot := { s.boot with fails := 0 } }.puts [(BOOT_STATUS_SLOT, 0), (MON_STATUS_LOCKOUT, 0)]
  | .sys => s.resetSys
  | .ply => { s with ply := 0 }
  | .rook => { s with rook := {} }
  | .mp => { s with mp := {} }
  | .gnss => { s with gnss := {} }.unload 4
  | .radio => { s with radio := {}, mac := {} }.unload 5
  | .fix => { s with fix := {} }.unload 6
  | .net => (({ s with eth := {}, pair := { s.pair with epoch := none, seq := 0 } }).cableEnd [5, 5, 5, 5] [0, 0, 0, 0])
  | .dram => { s with dram := {}, gnssCfg := {}, boot := { s.boot with header := none } }
  | .cpuA | .cpuB => s

/-- Add a part to those held in reset. -/
def State.hold (s : State) (p : Part) : State :=
  if s.rst.held.contains p then s else { s with rst := { s.rst with held := s.rst.held ++ [p] } }

/-- A part is put into reset and held (R113, R120). -/
def State.holdReset (s : State) (p : Part) : State :=
  (((partOwners p).foldl (fun s i => ownerReset i s) s).enterReset p).hold p

/-! ## Asserting a source -/

/-- An episode begins with the first assertion while nothing is asserted and no release is in progress (R124); FAILS
starts at 0 in an episode that begins while no load is in progress (R135), ABORTS counts within the episode. -/
def State.beginEpisode (s : State) : State :=
  if s.rst.episode then s
  else
    let s := { s with rst := { s.rst with episode := true, seen := [], pccDone := false, t0 := s.ply, base := 0 } }
    if s.bit TRIM_STATUS_LOADING then s else s.puts [(TRIM_STATUS_FAILS, 0), (TRIM_STATUS_ABORTS, 0)]

/-- The last word that a trim load has read `cyc` cycles after the episode's first assertion, at one word per 4 cycles of
CLK_RWDOG (R132). -/
def State.trimWord (s : State) (cyc : Nat) : Nat := min ((cyc - s.rst.loadAt) / 4) 255

/-- A reach that covers the trim shadows: the live trims take their hard-wired safe values, with DBG_LOCK set, a load in
progress is discarded and counted; the strap will be sampled again (R115, R129, R133, R134); both PLLs have to lock again, SYSPLL
with a reference in range (R76, R77). -/
def State.coverTrims (s : State) (r : Reach) (cyc : Nat) : State :=
  if r.parts.contains .rstctl then
    let s := if s.bit TRIM_STATUS_LOADING then (s.bump TRIM_STATUS_ABORTS).put TRIM_STATUS_WORD (s.trimWord cyc) else s
    let s := s.puts [(TRIM_STATUS_LOADING, 0), (TRIM_STATUS_DONE, 0), (TRIM_STATUS_SAFE, 0), (MON_STATUS_DBG_LOCK, 1),
      (CLK_STATUS_NETPLL_LOCK, 0)]
    { s with rst := { s.rst with strapDone := false, strapTries := 0, live := none }
             clk := { s.clk with sysLocked := false, refLost := false, pulling := [] } }
  else s

/-- The stamp of an assertion, counted from the episode's first: the ply, or, while the ply counter is in reset, the window
of 160 cycles of CLK_RWDOG (R114). -/
def State.stamp (s : State) (cyc : Nat) : Nat :=
  if s.rst.held.contains .ply then s.rst.base + cyc / 160 else s.rst.base + (s.ply - s.rst.t0)

/-- Assert a reset source (R110 to R115, R120). `cyc` counts the cycles of CLK_RWDOG since the episode's first assertion. -/
def State.assertSource (s : State) (src cyc : Nat) : State :=
  let s := s.beginEpisode
  let stamp := s.stamp cyc
  let s := { s with rst := { s.rst with
    asserted := if s.rst.asserted.contains src then s.rst.asserted else s.rst.asserted ++ [src]
    seen := if s.rst.seen.any (fun e => e.1 == src) then s.rst.seen else s.rst.seen ++ [(src, stamp)] } }
  ((reachOf src).parts.foldl (fun s p => s.holdReset p) (s.coverTrims (reachOf src) cyc))

/-- Deassert a source; where its reach covers the trim shadows and no other asserted source does, the trim load starts
at word 0 (R121, R132, R134). -/
def State.deassertSource (s : State) (src cyc : Nat) : State :=
  if s.rst.asserted.contains src then
    let s := { s with rst := { s.rst with asserted := s.rst.asserted.filter (· ≠ src) } }
    if (reachOf src).parts.contains .rstctl && !s.rst.asserted.any (fun x => (reachOf x).parts.contains .rstctl)
    then { s.puts [(TRIM_STATUS_LOADING, 1), (TRIM_STATUS_WORD, 0)] with rst := { s.rst with loadAt := cyc } } else s
  else s

/-! ## Release -/

/-- A part is covered by a source still asserted; overlaps resolve by it (R121 to R123). -/
def State.covered (s : State) (p : Part) : Bool := s.rst.asserted.any (fun x => (reachOf x).parts.contains p)

/-- The parts the safe trim state releases (R136). -/
def safeParts : List Part := [.aon, .rstctl, .sys, .dram, .ply, .net, .cpuA]

/-- A part's domain is switched off, or being switched (R89, R92). -/
def State.pdOff (s : State) (p : Part) : Bool :=
  (p == .cpuB && !s.bit PD_CTRL_CPU_B_ON) || (p == .fix && !s.bit PD_CTRL_FIX_ON) ||
  (p == .gnss && !s.bit PD_CTRL_GNSS_ON) || (p == .radio && !s.bit PD_CTRL_RADIO_ON) ||
  (p == .net && !s.bit PD_CTRL_NET_ON) || s.sw.switching.any (fun e => domPart e.1 == p)

/-- The held parts that a release now frees: those no asserted source covers; in the safe trim state only the steps of
R136; PD_NET only while NETPLL is locked (R77, R117 step 40); nothing of a cold or wider reach before the trim load,
the strap sample and SYSPLL lock (R116). -/
def State.eligible (s : State) : List Part :=
  let wide := s.rst.held.contains .rstctl
  let ready := (s.bit TRIM_STATUS_DONE || s.bit TRIM_STATUS_SAFE) && s.rst.strapDone && s.clk.sysLocked
  if wide && !ready then []
  else s.rst.held.filter (fun p => !s.covered p && !s.pdOff p && (!s.bit TRIM_STATUS_SAFE || safeParts.contains p)
         && (p != .net || s.bit CLK_STATUS_NETPLL_LOCK))

/-- A source comes before another in the choice of the cause: rank, then ply, then index (R125). -/
def causeBefore (a b : Nat × Nat) : Bool :=
  let ra := (reachOf a.1).rank
  let rb := (reachOf b.1).rank
  ra < rb || (ra == rb && (a.2 < b.2 || (a.2 == b.2 && a.1 < b.1)))

/-- The cause of the episode so far (R125). -/
def causeOf : List (Nat × Nat) → Nat
  | [] => 0
  | e :: t => (t.foldl (fun m x => if causeBefore x m then x else m) e).1

/-- The SEEN bits of the episode so far. -/
def seenBits (l : List (Nat × Nat)) : Nat := l.foldl (fun v e => setBit v e.1) 0

/-- Step 0 writes RST_CAUSE and RST_SEEN; after AON power-on they are 0 and bit 0 alone (R126). -/
def State.writeCause (s : State) : State :=
  if s.rst.seen.any (fun e => e.1 == 0) then s.puts [(RST_CAUSE_CAUSE, 0), (RST_SEEN_SEEN, 1)]
  else s.puts [(RST_CAUSE_CAUSE, causeOf s.rst.seen), (RST_SEEN_SEEN, seenBits s.rst.seen)]

/-- At the release of an episode of AON or main power-on rank the power-cycle count advances, and the recorder empties
both rings and restarts its sequence (R105, R596, R598, R602, R603). After an AON power-on the restore of the counters
opens (R593). -/
def State.powerCycle (s : State) : State :=
  if s.rst.pccDone then s
  else if (reachOf (s.get RST_CAUSE_CAUSE)).rank ≤ 1 then
    let s := s.bump REC_AON_MS_PCC
    let s := s.puts [(REC_STATUS_MAIN_FAULT, 0), (REC_STATUS_RES_FAULT, 0), (REC_STATUS_RES_USED, 0),
      (REC_HEAD_INDEX, 0), (REC_LAST_SEQ_SEQ, 0), (REC_WRAP_WRAP, 0),
      (REC_STATUS_RESTORE_OPEN, if s.get RST_CAUSE_CAUSE = 0 then 1 else 0)]
    { s with rst := { s.rst with pccDone := true }, evr := {} }
  else s

/-- What a part does as it leaves reset: core 0 in the boot ROM and the other cores halted (R117 step 72, R119), the cores of a
PD_CPU_B switched on while the main firmware runs released by it; stamps that go on from ply 0 (R114); the loop tests' cycle (R520);
a metrology session (R609);
the ports' links as down since then (R655); CLAIM with the unit bit (spec/17) and the tamper record that waited (R589). -/
def State.leaveReset (s : State) (p : Part) : State :=
  match p with
  | .cpuA => { s with rst := { s.rst with halted := [1, 2, 3, 4, 5, 6, 7, 8, 9, 10, 11, 12, 13, 14, 15] }
                      boot := { s.boot with core0Rom := true } }
  | .cpuB => if s.boot.started then { s with rst := { s.rst with halted := s.rst.halted.filter (· < 8) } } else s
  | .rook => { s with rook := { s.rook with cycle := s.ply + 1 } }
  | .mp => s.mpRelease
  | .net => { s with site := { s.site with downAt := (List.range 6).map (fun p => (p, s.ply)), autoAt := [] } }
  | .sys =>
    let s := { s.put CLAIM (s.get STRAP_ROLE) with dram := { s.dram with refreshOnly := false } }
    let s := if s.ks.trngBad then s.put KS_STATUS_TRNG_FAIL 1 else s
    match s.ks.tamperDue with
    | some c => ({ s with ks := { s.ks with tamperDue := none } }).record .tamper [c]
    | none => s
  | .ply => { s with rst := { s.rst with t0 := 0, base := s.rst.seen.foldl (fun m e => max m (e.2 + 1)) s.rst.base } }
  | .aon | .rstctl | .gnss | .radio | .fix | .dram => s

/-- Release the eligible parts in one sequence of R117, writing the cause (R121, R126); the episode ends when nothing
is asserted and nothing stays held but what R77 and R136 leave (R124). -/
def State.release (s : State) : State :=
  let ps := s.eligible
  if ps.isEmpty then s
  else
    let s := s.writeCause
    let s := { s with rst := { s.rst with held := s.rst.held.filter (fun p => !ps.contains p) } }
    let s := ps.foldl State.leaveReset s.powerCycle
    if s.rst.asserted.isEmpty && (s.bit TRIM_STATUS_SAFE || s.rst.held.all (fun p => p == .net || s.pdOff p))
    then { s with rst := { s.rst with episode := false } } else s

end Sys2Proof.Machine
end

