-- ==== Sys2Proof/Machine/Power.lean ====
section
/-!
DEFINITION. Rails and pins (spec/02), clocks, power domains and night mode (spec/03), reset, strap and trims (spec/04):
the meanings of the commands AON_POR to RAIL_WAKE_RETRY and of PLL_PULL_RANGE_EDGE.
-/

namespace Sys2Proof.Machine

open R

/-! ## Supply monitors and pins -/

/-- Brown-out levels of the main rails in mV (R54), by rail index. -/
def brownoutMv (rail : Nat) : Nat := [750, 750, 750, 845, 1100, 1100, 1650, 1700, 3000].getD rail 0

/-- Power-on levels of the main rails in mV (R54). -/
def powerOnMv (rail : Nat) : Nat := [500, 500, 500, 550, 700, 700, 1000, 1000, 1800].getD rail 0

/-- Release levels in mV (R54), VBAT as rail 9. -/
def releaseMv (rail : Nat) : Nat := [765, 765, 765, 860, 1120, 1120, 1680, 1720, 3050, 2400].getD rail 0

/-- A rail is above its release level, among the levels that the monitors read. -/
def railUp (mv : List Nat) (rail : Nat) : Bool := decide (releaseMv rail < mv.getD rail 0)

/-- A rail is no longer above its release level. -/
def State.railDown (s : State) (rail : Nat) : State :=
  { s with pwr := { s.pwr with railValid := s.pwr.railValid.filter (· ≠ rail) } }

/-- AON_POR: VBAT below 2.2 V raises an AON power-on (R54, R100). -/
def execAonPor (mv cyc : Nat) (s : State) : Out :=
  fin (if mv < 2200 then
    let s := (s.railDown 9).assertSource 0 cyc
    { s with pwr := { railValid := s.pwr.railValid, thermTrip := s.pwr.thermTrip, brown := s.pwr.brown } }
  else s)

/-- A valid main rail that falls below its brown-out level raises a brown-out while MAIN_EN is high (R54, R56). -/
def State.brownFall (s : State) (rail cyc : Nat) : State :=
  if s.pwr.railValid.contains rail && s.pwr.mainEn then
    (let t := s.railDown rail; { t with pwr := { t.pwr with brown := t.pwr.brown ++ [rail] } }).assertSource 4 cyc
  else s

/-- MAIN_POR: a main rail below its power-on level raises a main power-on (R54); a rail that was valid has fallen through its
brown-out level too, and both resets apply (R55). -/
def execMainPor (rail mv cyc : Nat) (s : State) : Out :=
  fin (if rail < 9 ∧ mv < powerOnMv rail then ((s.brownFall rail cyc).railDown rail).assertSource 1 cyc else s)

/-- BROWNOUT: a main rail that was valid falls below its brown-out level while MAIN_EN is high (R54, R56). -/
def execBrownout (rail mv cyc : Nat) (s : State) : Out :=
  fin (if rail < 9 ∧ mv < brownoutMv rail then s.brownFall rail cyc else s)

/-- TEST_MODE_ASSERT: while the ball is high every reach but AON is asserted (R45). -/
def execTestModeAssert (cyc : Nat) (s : State) : Out := fin (s.assertSource 3 cyc)

/-- THERMAL_TRIP: the sensor's reading has reached its trip level, 115 °C ± 3 °C: a cold reset, with THERMTRIP_N low until the source
deasserts (R73; log 118). -/
def execThermalTrip (celsius : Int) (cyc : Nat) (s : State) : Out :=
  fin (if celsius < 112 then s
    else let s := s.assertSource 5 cyc; { s with pwr := { s.pwr with thermTrip := true } })

/-- RESET_PIN: filtered RESET_N low (R71). -/
def execResetPin (cyc : Nat) (s : State) : Out := fin (s.assertSource 6 cyc)

/-- WARM_PIN: filtered WARM_N low; the source stays asserted as long as the ball stays low (R71, R112). -/
def execWarmPin (cyc : Nat) (s : State) : Out := fin (s.assertSource 15 cyc)

/-! ## The reset controller's own events -/

/-- The rails above their release levels are valid (R54). -/
def State.railsSeen (s : State) (mv : List Nat) : State :=
  { s with pwr := { s.pwr with railValid := (List.range 10).filter (fun r => s.pwr.railValid.contains r || railUp mv r) } }

/-- Every main rail is above its release level (R52, R56). -/
def mainRailsUp (mv : List Nat) : Bool := (List.range 9).all (railUp mv)

/-- What holds a source has ended: a monitor's rails are above their release levels again (R54), all main rails for MAIN_POR (R52)
and, after the wake, for NIGHT (R56, R97, R110); the sensor reads below 100 °C (R73). -/
def State.mayDeassert (s : State) (src : Nat) (mv : List Nat) (celsius : Int) : Bool :=
  match src with
  | 0 => railUp mv 9
  | 1 => s.pwr.mainEn && mainRailsUp mv
  | 2 => s.pwr.mainEn && !s.pwr.dropPending && mainRailsUp mv
  | 4 => s.pwr.brown.all (railUp mv)
  | 5 => decide (celsius < 100)
  | _ => true

/-- RESET_SOURCE_DEASSERT with the rail levels in mV and the sensor's reading (R54, R73, R112, R121). The end of NIGHT ends night mode. -/
def execResetSourceDeassert (src : Nat) (mv : List Nat) (celsius : Int) (cyc : Nat) (s : State) : Out :=
  fin (if s.mayDeassert src mv celsius && s.rst.asserted.contains src then
      let s := s.deassertSource src cyc
      match src with
      | 0 | 1 => s.railsSeen mv
      | 2 =>
        let s := s.railsSeen mv
        { s with pwr := { s.pwr with night := false, wakeLatched := false, minHoldDone := false, retryPending := false } }
      | 4 => let s := s.railsSeen mv; { s with pwr := { s.pwr with brown := [] } }
      | 5 => { s with pwr := { s.pwr with thermTrip := false } }
      | _ => s
    else s)

/-- RESET_RELEASE (R116, R117). -/
def execResetRelease (s : State) : Out := fin s.release

/-- The OTP trim region as a load reads it: the programmed words, but for those that are misread. -/
def trimRead (otp : List Nat) (misread : List (Nat × Nat)) : List Nat :=
  (List.range 256).map (fun i => match misread.find? (fun (e : Nat × Nat) => e.1 == i) with
    | some e => e.2
    | none => otp.getD i 0)

/-- Word 255 is the CRC-32C of words 0 to 254, each as four bytes (R9, R132). -/
def trimCrcOk (w : List Nat) : Bool := crc32c ((w.take 255).flatMap (leBytes 4)) == w.getD 255 0

/-- TRIM_LOAD_COMPLETE: words 0 to 255 have been read and checked. A match transfers the shadows to the live trims, DBG_LOCK among
them, and clears FAILS; a mismatch advances FAILS and restarts the load, and the third enters the safe trim state (R132, R133,
R135, R136). -/
def execTrimLoadComplete (misread : List (Nat × Nat)) (cyc : Nat) (s : State) : Out :=
  fin (if s.bit TRIM_STATUS_LOADING then
    let w := trimRead s.flash.trims misread
    let s := { s with rst := { s.rst with shadow := w } }
    if trimCrcOk w then
      ({ s with rst := { s.rst with live := some w } }).puts [(TRIM_STATUS_FAILS, 0), (TRIM_STATUS_LOADING, 0), (TRIM_STATUS_DONE, 1),
        (TRIM_STATUS_WORD, 255), (MON_STATUS_DBG_LOCK, b2n (Config.trimDbgLock w))]
    else if s.get TRIM_STATUS_FAILS + 1 < 3 then
      ({ s with rst := { s.rst with loadAt := cyc } }).puts [(TRIM_STATUS_FAILS, s.get TRIM_STATUS_FAILS + 1), (TRIM_STATUS_WORD, 0)]
    else
      s.puts [(TRIM_STATUS_FAILS, 3), (TRIM_STATUS_LOADING, 0), (TRIM_STATUS_SAFE, 1), (TRIM_STATUS_WORD, 255),
              (MON_STATUS_DBG_LOCK, 1)]
  else s)

/-- Boot source of a strap code (R128): 0 recovery, 1 A/B, 2 slot A only, 3 slot B only. -/
def strapBoot (code : Nat) : Nat :=
  if code = 0 ∨ 13 ≤ code then 0 else if code ≤ 4 then 1 else if code ≤ 8 then 2 else 3

/-- Role of a strap code (R128): 1 for secondary. -/
def strapRole (code : Nat) : Nat := [0, 0, 0, 1, 1, 0, 0, 1, 1, 0, 0, 1, 1, 0, 1, 1].getD code 0

/-- Recovery interface of a strap code (R128): 1 for ETH_0. -/
def strapRecIf (code : Nat) : Nat := [0, 0, 1, 0, 1, 0, 1, 0, 1, 0, 1, 0, 1, 1, 1, 0].getD code 0

/-- The strap code latched, with the raw value of the last conversion. -/
def State.latchStrap (s : State) (code raw unstable : Nat) : State :=
  let s := s.puts [(STRAP_CODE, code), (STRAP_BOOT, strapBoot code), (STRAP_ROLE, strapRole code),
    (STRAP_REC_IF, strapRecIf code), (STRAP_RAW, raw), (STRAP_UNSTABLE, unstable)]
  { s with rst := { s.rst with strapDone := true } }

/-- STRAP_SAMPLE: one sample of eight conversions after the trim load, or in the safe trim state. Eight equal
conversions are latched; the fourth sample without agreement latches code 0 with UNSTABLE; the code holds until the next sample (R129, R130). -/
def execStrapSample (conv : List Nat) (s : State) : Out :=
  fin (if !s.rst.strapDone && (s.bit TRIM_STATUS_DONE || s.bit TRIM_STATUS_SAFE) then
    let c := conv.headD 0 % 16
    let last := conv.getLastD 0 % 16
    if conv.length = 8 ∧ conv.all (fun x => x % 16 == c) then s.latchStrap c last 0
    else if s.rst.strapTries + 1 < 4 then
      let s := s.put STRAP_RAW last
      { s with rst := { s.rst with strapTries := s.rst.strapTries + 1 } }
    else s.latchStrap 0 last 1
  else s)

/-! ## Reset requests -/

/-- A write to RST_CTRL (R127): the key must match, every set field must be the writer's, and then every set field
asserts its source. -/
def State.rstCtrl (s : State) (ini data : Nat) : State :=
  if bits data 31 16 ≠ 0x5E7A then s
  else if (bitOf data 0 || bitOf data 1) && !isApp ini then s
  else if bitOf data 2 && ini != 0x30 then s
  else
    let s := if bitOf data 0 then s.assertSource 14 0 else s
    let s := if bitOf data 1 then s.assertSource 16 0 else s
    if bitOf data 2 then s.assertSource 7 0 else s

/-- RST_CTRL_SYS (R127). -/
def execRstCtrlSys (ini data : Nat) (s : State) : Out :=
  fin (if bitOf data 0 then s.asWrite ini 0x40000308 (fun s => s.rstCtrl ini data) else s)

/-- RST_CTRL_WARM (R127). -/
def execRstCtrlWarm (ini data : Nat) (s : State) : Out :=
  fin (if bitOf data 1 then s.asWrite ini 0x40000308 (fun s => s.rstCtrl ini data) else s)

/-- RST_CTRL_COLD (R127). -/
def execRstCtrlCold (ini data : Nat) (s : State) : Out :=
  fin (if bitOf data 2 then s.asWrite ini 0x40000308 (fun s => s.rstCtrl ini data) else s)

/-- JTAG_RESET_REQUEST: honoured only while DBG_LOCK is clear or opened (R111). -/
def execJtagResetRequest (cyc : Nat) (s : State) : Out :=
  fin (if !s.bit MON_STATUS_DBG_LOCK || s.bit MON_STATUS_OPEN then s.assertSource 11 cyc else s)

/-- APP_WDOG_EXPIRY (R110). -/
def execAppWdogExpiry (s : State) : Out := fin (s.assertSource 10 0)

/-- MP_WDOG_EXPIRY (R110). -/
def execMpWdogExpiry (s : State) : Out := fin (s.assertSource 17 0)

/-- MP_SW_RESET (R110). -/
def execMpSwReset (s : State) : Out := fin (s.assertSource 18 0)

/-! ## PLLs and the reference -/

/-- A CLK_EVENT bit set: an interrupt to the application cores and Rook, and an event record (R94). -/
def State.clkEvent (s : State) (f : Fld) : State :=
  (((s.put f 1).emit (.irqApps f.key.lo)).emit (.irqRook f.key.lo)).record .clkEvent [f.key.lo]

/-- The HOLD bit of a PLL: 0 SYSPLL, 1 NETPLL. -/
def pllHold (pll : Nat) : Fld := if pll = 0 then CLK_STATUS_SYSPLL_HOLD else CLK_STATUS_NETPLL_HOLD

/-- The LOCK bit of a PLL. -/
def pllLock (pll : Nat) : Fld := if pll = 0 then CLK_STATUS_SYSPLL_LOCK else CLK_STATUS_NETPLL_LOCK

/-- A PLL freezes its control word: a locked one is in holdover, and no longer pulls in (R78, R82). -/
def State.pllFreeze (s : State) (pll : Nat) : State :=
  if s.bit (pllLock pll) then { s.put (pllHold pll) 1 with clk := { s.clk with pulling := s.clk.pulling.filter (· ≠ pll) } } else s

/-- A PLL leaves holdover and pulls in to lock; its HOLD bit stays until it is locked again (R78, R81, R82). -/
def State.pllPull (s : State) (pll : Nat) : State :=
  if s.bit (pllHold pll) && !s.clk.pulling.contains pll
  then { s with clk := { s.clk with pulling := s.clk.pulling ++ [pll] } } else s

/-- A PLL that pulls in after holdover is locked again: its HOLD bit clears (R78). -/
def State.pllRelock (s : State) (pll : Nat) : State :=
  if s.clk.pulling.contains pll
  then { s.put (pllHold pll) 0 with clk := { s.clk with pulling := s.clk.pulling.filter (· ≠ pll) } } else s

/-- What the device does at REF_LOST (R78, R80): the locked PLLs hold, the heartbeat stops, EFL transmission ends with the
superframe in progress. -/
def State.refLost (s : State) : State :=
  if s.clk.refLost then s
  else
    let s := (s.pllFreeze 0).pllFreeze 1
    let s := { s with clk := { s.clk with refLost := true, txEndPending := true } }
    s.clkEvent CLK_EVENT_REF_LOST

/-- SYSPLL_LOCK: locked with a reference in range (R76), after a start or after the pull-in that follows a holdover (R78). -/
def execSyspllLock (s : State) : Out :=
  fin (let s := (s.pllRelock 0).puts [(CLK_STATUS_SYSPLL_LOCK, 1), (CLK_STATUS_REF_PRESENT, 1)]
       { s with clk := { s.clk with sysLocked := true } })

/-- SYSPLL_UNLOCK: a loss of lock outside holdover and pull-in with the reference present makes Rook issue a cold reset (R82). -/
def execSyspllUnlock (cyc : Nat) (s : State) : Out :=
  fin (if !s.bit CLK_STATUS_SYSPLL_HOLD && s.bit CLK_STATUS_REF_PRESENT then
    (s.put CLK_STATUS_SYSPLL_LOCK 0).assertSource 7 cyc else s)

/-- NETPLL_UNLOCK: the same loss of NETPLL sets NETPLL_UNLOCK and holds PD_NET in reset (R77, R82, R94). -/
def execNetpllUnlock (s : State) : Out :=
  fin (if !s.bit CLK_STATUS_NETPLL_HOLD && s.bit CLK_STATUS_REF_PRESENT && s.bit CLK_STATUS_NETPLL_LOCK then
    ((s.put CLK_STATUS_NETPLL_LOCK 0).clkEvent CLK_EVENT_NETPLL_UNLOCK).holdReset .net else s)

/-- NETPLL_LOCK_RETRY: while unlocked the device retries every 100 ms; a lock releases PD_NET once nothing else holds it
(R77, R117 step 40). A pull-in after holdover ends with the same report of lock (R78). -/
def execNetpllLockRetry (locks : Bool) (s : State) : Out :=
  fin (if s.clk.pulling.contains 1 && locks then s.pllRelock 1
  else if !s.bit CLK_STATUS_NETPLL_LOCK && locks then
    let s := s.put CLK_STATUS_NETPLL_LOCK 1
    if s.covered .net || s.rst.held.contains .sys || s.pdOff .net then s
    else if s.rst.held.contains .net then
      State.leaveReset { s with rst := { s.rst with held := s.rst.held.filter (· ≠ .net) } } .net
    else s
  else s)

/-- PLL_HOLDOVER_ENTRY: a missing edge freezes the control word of a locked PLL (R78, R82). -/
def execPllHoldoverEntry (pll : Nat) (s : State) : Out := fin (s.pllFreeze pll)

/-- PLL_HOLDOVER_EXIT: a window with 50 to 200 edges ends a holdover taken without REF_LOST, and the PLL pulls in; SYSPLL_LOCK or
NETPLL_LOCK_RETRY brings its lock (R78, R81; log 119). -/
def execPllHoldoverExit (pll edges : Nat) (s : State) : Out :=
  fin (if !s.clk.refLost && decide (50 ≤ edges ∧ edges ≤ 200) then (s.pllPull pll).put CLK_STATUS_REF_PRESENT 1 else s)

/-- REF_LOST: two windows in succession with fewer than 50 or more than 200 edges (R78, R80). -/
def execRefLost (edges1 edges2 : Nat) (s : State) : Out :=
  fin (if (edges1 < 50 ∨ 200 < edges1) ∧ (edges2 < 50 ∨ 200 < edges2) then
    (s.put CLK_STATUS_REF_PRESENT 0).refLost else s)

/-- REF_RESTORED: 1 s of good reference inside the pull ranges, with REF_FREQ_ERR clear (R81): the PLLs
leave holdover and pull in, their HOLD bits clearing with their locks (R78). Transmission stays ended until the application firmware issues a system reset. -/
def execRefRestored (s : State) : Out :=
  fin (if s.clk.refLost && !s.bit CLK_STATUS_REF_FREQ_ERR then
    let s := ((s.pllPull 0).pllPull 1).put CLK_STATUS_REF_PRESENT 1
    let s := { s with clk := { s.clk with refLost := false } }
    s.clkEvent CLK_EVENT_REF_RESTORED
  else s)

/-- REF_FREQ_CHECK: the count of REF_IN edges in one CLK_AON second, less 10 000 000, in 0.1 ppm; two successive windows
beyond 1000 set REF_FREQ_ERR and two within clear it (R83). Without the crystal REF_OFFSET reads 0x8000, and no window is counted:
the counts of successive windows stay, on which R83 is silent (DESIGN CHOICE, log 120). -/
def execRefFreqCheck (edges : Nat) (xtalOk : Bool) (s : State) : Out :=
  fin (if !xtalOk then s.puts [(CLK_STATUS_AON_XTAL_OK, 0), (CLK_STATUS_REF_OFFSET, 0x8000)]
    else
      let off : Int := (edges : Int) - 10000000
      let s := (s.put CLK_STATUS_AON_XTAL_OK 1).putS CLK_STATUS_REF_OFFSET (clampI (-32767) 32767 off)
      if 1000 < off ∨ off < -1000 then
        let s := { s with clk := { s.clk with freqBad := s.clk.freqBad + 1, freqGood := 0 } }
        if 2 ≤ s.clk.freqBad ∧ s.bit CLK_STATUS_REF_FREQ_ERR = false
        then (s.put CLK_STATUS_REF_FREQ_ERR 1).clkEvent CLK_EVENT_REF_FREQ_ERR_S else s
      else
        let s := { s with clk := { s.clk with freqGood := s.clk.freqGood + 1, freqBad := 0 } }
        if 2 ≤ s.clk.freqGood then s.put CLK_STATUS_REF_FREQ_ERR 0 else s)

/-- PLL_PULL_RANGE_EDGE: a present reference drifts to the edge of a locked PLL's range; the PLL holds and REF_LOST is
set at once (R75). -/
def execPllPullRangeEdge (pll : Nat) (s : State) : Out :=
  fin (if s.bit (pllLock pll) && s.bit CLK_STATUS_REF_PRESENT then (s.pllFreeze pll).refLost else s)

/-! ## Switching power domains -/

/-- The switchable domains (R87), 5 to 9, as bits of PD_CTRL. -/
def pdFld : Nat → Fld
  | 5 => PD_CTRL_CPU_B_ON
  | 6 => PD_CTRL_FIX_ON
  | 7 => PD_CTRL_GNSS_ON
  | 8 => PD_CTRL_RADIO_ON
  | _ => PD_CTRL_NET_ON

/-- A domain may be switched off now: FIX only while standby, GNSS, RADIO and NET only while NET_EN is clear (R87). -/
def State.mayOff (s : State) (d : Nat) : Bool :=
  if d = 5 then true
  else if d = 6 then !s.bit PAIR_STATUS_ACTIVE
  else !s.bit MAC_CTRL_NET_EN

/-- A PD_CTRL write refused whole by R88. -/
def State.pdRefused (s : State) (data : Nat) : Bool :=
  [5, 6, 7, 8, 9].any (fun d => s.bit (pdFld d) && !bitOf data d && !s.mayOff d)

/-- One domain's bit of an accepted PD_CTRL write: a cleared bit asserts the domain's reset at once (R89, R92). -/
def State.pdSwitch (data : Nat) (s : State) (d : Nat) : State :=
  if s.bit (pdFld d) == bitOf data d then s
  else
    let s := s.put (pdFld d) (b2n (bitOf data d))
    let s := (s.put PD_STATUS_BUSY 1)
    let s := { s with sw := { s.sw with switching := s.sw.switching ++ [(d, bitOf data d)], start := s.ply } }
    if bitOf data d then s else s.holdReset (domPart d)

/-- A PD_CTRL write as it is applied (R88, R92). -/
def State.pdApply (s : State) (data : Nat) : State :=
  if s.pdRefused data then s.put PD_STATUS_REFUSED 1
  else [5, 6, 7, 8, 9].foldl (State.pdSwitch data) s

/-- PD_CTRL_WRITE (R88, R92): a write while BUSY waits until BUSY clears. -/
def execPdCtrlWrite (ini data : Nat) (s : State) : Out :=
  fin (s.asWrite ini 0x40000200 (fun s =>
    if s.bit PD_STATUS_BUSY then { s with sw := { s.sw with waiting := s.sw.waiting ++ [(data, 2 ^ 32 - 1)] } } else s.pdApply data))

/-- The last step of one domain's sequence: ON follows, and a domain switched on leaves reset (R92), but for what R77 and, in the
safe trim state, R136 hold. -/
def State.pdFinish (s : State) (e : Nat × Bool) : State :=
  let s := s.putBit PD_STATUS_ON e.1 e.2
  if e.2 && !s.covered (domPart e.1) && (e.1 != 9 || s.bit CLK_STATUS_NETPLL_LOCK) &&
      (!s.bit TRIM_STATUS_SAFE || safeParts.contains (domPart e.1))
  then { s with rst := { s.rst with held := s.rst.held.filter (· ≠ domPart e.1) } }.leaveReset (domPart e.1) else s

/-- The word a masked write leaves in PD_CTRL. -/
def State.pdWord (s : State) (data mask : Nat) : Nat :=
  ([5, 6, 7, 8, 9].map (fun d => 2 ^ d * (if bitOf mask d then b2n (bitOf data d) else s.get (pdFld d)))).sum

/-- The waiting writes applied in order, up to one that starts a sequence of its own (R92). -/
def State.pdDrain : List (Nat × Nat) → State → State
  | [], s => s
  | e :: t, s =>
    if s.bit PD_STATUS_BUSY then { s with sw := { s.sw with waiting := e :: t } }
    else State.pdDrain t (s.pdApply (s.pdWord e.1 e.2))

/-- The last step of a domain's sequence has been reached: ply 5 to switch it off, ply 7 to switch it on (R92). -/
def State.pdDue (s : State) (e : Nat × Bool) : Bool := decide (s.sw.start + (if e.2 then 7 else 5) ≤ s.ply)

/-- PD_SWITCH_COMPLETE: the sequences whose last step has come end; with the last of them BUSY clears and the waiting writes are
applied (R92). -/
def execPdSwitchComplete (s : State) : Out :=
  fin (if s.bit PD_STATUS_BUSY then
    let due := s.sw.switching.filter s.pdDue
    let rest := s.sw.switching.filter (fun e => !s.pdDue e)
    let s := due.foldl State.pdFinish s
    if rest.isEmpty then State.pdDrain s.sw.waiting { s.put PD_STATUS_BUSY 0 with sw := {} }
    else { s with sw := { s.sw with switching := rest } }
  else s)

/-! ## Night mode -/

/-- `n` cycles of CLK_AON: the operating hours count them while MAIN_EN is high, milliseconds as floor(n × 1000 / 32768) of the cycles in
the second (R79, R592). The days that R569 counts begin with the last second in which the unit is active. -/
def State.aonPass (s : State) (n : Nat) : State :=
  let s := { s with pwr := { s.pwr with aon := s.pwr.aon + n } }
  if s.pwr.mainEn then
    let c := s.pwr.aonCycles + n
    let s := s.puts [(REC_AON_OH_SECONDS, min (s.get REC_AON_OH_SECONDS + c / 32768) 0xFFFFFFFF), (REC_AON_SUB_MS, c % 32768 * 1000 / 32768)]
    { s with pwr := { s.pwr with aonCycles := c % 32768
                                 dayFrom := if s.bit PAIR_STATUS_ACTIVE then s.get REC_AON_OH_SECONDS else s.pwr.dayFrom } }
  else s

/-- CLK_AON reaches `n` cycles after the last change of MAIN_EN. -/
def State.aonTo (s : State) (n : Nat) : State := s.aonPass (s.pwr.enAt + n - s.pwr.aon)

/-- MAIN_EN driven, with the CLK_AON count at which it changes. -/
def State.driveMain (s : State) (b : Bool) : State := { s with pwr := { s.pwr with mainEn := b, enAt := s.pwr.aon } }

/-- Enter night mode: the main power-on reach now, MAIN_EN low at the next CLK_AON edge (R96). -/
def State.nightGo (s : State) : State :=
  let s := s.assertSource 2 0
  { s with pwr := { s.pwr with night := true, dropPending := true, wakeLatched := false, minHoldDone := false } }

/-- NIGHT_GO: a keyed write of NIGHT_GO by Rook, made only while the stop state is in force and the crystal runs (R95,
R96). `hot` is the hot-start block that the application firmware has written before (R101), with its CRC-32C. -/
def execNightGo (ini data : Nat) (hot : List Nat) (hotCrc : Nat) (s : State) : Out :=
  fin (s.asWrite ini 0x40000800 (fun s =>
    if bits data 31 16 = 0x4E47 ∧ bitOf data 0 ∧ ini = 0x30 ∧ s.bit ROOK_STATE_STOP ∧ s.bit CLK_STATUS_AON_XTAL_OK then
      let s := { s with pwr := { s.pwr with hotValid := !hot.isEmpty, hotBytes := hot, hotCrc := hotCrc, hotAt := s.pwr.aon } }
      s.nightGo
    else s))

/-- MAIN_EN_DROP: at the next CLK_AON edge MAIN_EN goes low and the main rails with it (R96). -/
def execMainEnDrop (s : State) : Out :=
  fin (if s.pwr.dropPending then
    let s := (s.aonPass 1).driveMain false
    { s with pwr := { s.pwr with dropPending := false, railValid := s.pwr.railValid.filter (· == 9) } }
  else s)

/-- Raise MAIN_EN for a wake from night mode (R98); a new wake counts its failed attempts from 0 (R99). -/
def State.raiseMain (s : State) : State :=
  let s := (s.puts [(WAKE_CAUSE_FROM_NIGHT, 1), (WAKE_CAUSE_ATTEMPTS, 0)]).driveMain true
  { s with pwr := { s.pwr with wakeLatched := false, retryPending := false } }

/-- A wake source asserts (R97, R98): latched with its cause; it raises MAIN_EN once MAIN_EN has been low for 50 ms. One that asserts in
the 1 s before a retry raises MAIN_EN at once as a new wake, which counts its attempts from 0; R99 is silent on it (DESIGN CHOICE,
log 120). -/
def State.wake (s : State) (f : Fld) : State :=
  if s.pwr.night then
    let s := s.put f 1
    if s.pwr.mainEn = false ∧ s.pwr.minHoldDone then s.raiseMain
    else if s.pwr.mainEn && !s.pwr.dropPending then s
    else { s with pwr := { s.pwr with wakeLatched := true } }
  else s

/-- NIGHT_MIN_HOLD_EXPIRY: MAIN_EN has been low for 50 ms, 1639 cycles of CLK_AON; a latched wake raises it (R97). -/
def execNightMinHoldExpiry (s : State) : Out :=
  fin (if s.pwr.night && !s.pwr.mainEn then
    let s := s.aonTo 1639
    let s := { s with pwr := { s.pwr with minHoldDone := true } }
    if s.pwr.wakeLatched then s.raiseMain else s
  else s)

/-- WAKE_PIN: WAKE_N low in night mode (R98), `aon` cycles of CLK_AON after the last event that counted them. -/
def execWakePin (aon : Nat) (s : State) : Out := fin (if s.pwr.night then (s.aonPass aon).wake WAKE_CAUSE_PIN else s)

/-- WAKE_TIMER_EXPIRY: WAKE_TIMER seconds of CLK_AON after MAIN_EN went low; 0 disables the timer (R98). -/
def execWakeTimerExpiry (s : State) : Out :=
  fin (if s.get WAKE_TIMER_SECONDS = 0 ∨ s.pwr.mainEn then s else (s.aonTo (s.get WAKE_TIMER_SECONDS * 32768)).wake WAKE_CAUSE_TIMER)

/-- RAIL_WAKE_TIMEOUT: the main rails are not all above release 200 ms after MAIN_EN rose; after the third failure the
device stays in night mode until the next wake source (R99). -/
def execRailWakeTimeout (s : State) : Out :=
  fin (if s.pwr.night && s.pwr.mainEn && !s.pwr.dropPending then
    let n := s.get WAKE_CAUSE_ATTEMPTS + 1
    let s := ((s.puts [(WAKE_CAUSE_RAIL_FAIL, 1), (WAKE_CAUSE_ATTEMPTS, min n 3)]).aonTo 6554).driveMain false
    { s with pwr := { s.pwr with minHoldDone := true, retryPending := decide (n < 3) } }
  else s)

/-- RAIL_WAKE_RETRY: 1 s after a failed attempt MAIN_EN rises again (R99). -/
def execRailWakeRetry (s : State) : Out :=
  fin (if s.pwr.retryPending then
    let s := (s.aonTo 32768).driveMain true
    { s with pwr := { s.pwr with retryPending := false } }
  else s)

end Sys2Proof.Machine
end

