-- ==== Sys2Proof/Machine/Castling.lean ====
section
/-!
DEFINITION. The castling unit and the semaphores (spec/05): OPEN, STAGE, COMMIT, ABORT, the landing of a castling, TAKE
and RELEASE, and the captured read of PLY_LO.
-/

namespace Sys2Proof.Machine

open R

/-- Address of CAST_CMD (spec/05, R678). -/
def castCmdAddr : Nat := 0x40010100

/-- PLY_LO_READ: the read captures the upper half for this initiator (R138). -/
def State.capturePly (ini : Nat) (s : State) : State :=
  { s with cast := { s.cast with plyHi := (ini, s.ply / 2 ^ 32 % 2 ^ 32) :: s.cast.plyHi.filter (fun e => e.1 ≠ ini) } }

/-- The upper half an initiator's PLY_HI read returns: 0 before its first PLY_LO read (R138). -/
def State.plyHiOf (s : State) (ini : Nat) : Nat :=
  match s.cast.plyHi.find? (fun e => e.1 == ini) with
  | some e => e.2
  | none => 0

/-- PLY_LO_READ (R138). -/
def execPlyLoRead (ini : Nat) (s : State) : Out := fin (s.asRead ini 0x40010000 (State.capturePly ini))

/-! ## The slots -/

/-- A slot can take an OPEN: it is FREE or holds a castling in a final state (R146). -/
def State.castFree (s : State) (n : Nat) : Bool := s.get (CAST_STAT_STATE n) != 1 && s.get (CAST_STAT_STATE n) != 2

/-- Entries staged in a slot, in staged order. -/
def State.castEntries (s : State) (n : Nat) : List CastEntry :=
  (s.cast.entries.filter (fun e => e.1 == n)).map (·.2)

/-- The result of a command in the initiator's bank (R163). -/
def State.castResult (s : State) (ini id code : Nat) : State :=
  s.puts [(CAST_RESULT_ID ini, id), (CAST_RESULT_CODE ini, code)]

/-- End a castling in a final state: its entries are freed (R157). DESIGN CHOICE (log 121): the spec does not say what ENTRIES and
WHEN of CAST_INFO show after the outcome; they keep their last values until the slot is reused. -/
def State.castEnd (s : State) (n st cause failIx : Nat) : State :=
  let s := s.puts [(CAST_STAT_STATE n, st), (CAST_INFO_CAUSE n, cause), (CAST_INFO_FAIL_INDEX n, failIx)]
  { s with cast := { s.cast with
    entries := s.cast.entries.filter (fun e => e.1 ≠ n)
    commitAt := s.cast.commitAt.filter (fun e => e.1 ≠ n)
    armedIn := s.cast.armedIn.filter (fun e => e.1 ≠ n)
    order := s.cast.order.filter (· ≠ n) } }

/-- OPEN by a capable initiator: the lowest FREE or final slot, a new ID (R146), or NO_SLOT (R157). Any other has no bank of
CAST_RESULT; it is answered NOT_CAPABLE, and nothing changes (R145). DESIGN CHOICE (log 121): an OPEN refused with NO_SLOT names no
castling, and CAST_RESULT.ID reads 0 after it. -/
def State.castOpen (ini : Nat) (s : State) : State :=
  if !capable ini then s.emit (.castCode ini 8)
  else match (List.range 16).find? s.castFree with
    | none => s.castResult ini 0 1
    | some n =>
      let q := if s.cast.seq = 0xFFF then 1 else s.cast.seq + 1
      let id := q * 16 + n
      let s := s.puts [(CAST_STAT_ID n, id), (CAST_STAT_OWNER n, ini), (CAST_STAT_STATE n, 1), (CAST_INFO_ENTRIES n, 0),
        (CAST_INFO_WHEN n, 0), (CAST_INFO_CAUSE n, 0), (CAST_INFO_FAIL_INDEX n, 0)]
      ({ s with cast := { s.cast with seq := q } }).castResult ini id 0

/-- The checks of R148 on a STAGE, COMMIT or ABORT, in order; 0 when all pass. -/
def State.castCheck (s : State) (ini id : Nat) (abort : Bool) : Nat :=
  let n := id % 16
  let st := s.get (CAST_STAT_STATE n)
  if st = 0 ∨ s.get (CAST_STAT_ID n) ≠ id then 4
  else if s.get (CAST_STAT_OWNER n) ≠ ini then 5
  else if st = 6 then 9
  else if st = 1 ∨ (abort ∧ st = 2) then 0
  else 6

/-- STAGE: one entry from the initiator's bank (R147, R157). DESIGN CHOICE (log 121): the spec does not order ALIGN against
CASTLING_FULL and NO_ENTRY; ALIGN is judged first. -/
def State.castStage (ini id : Nat) (s : State) : State :=
  let n := id % 16
  let c := s.castCheck ini id false
  let a := s.get (CAST_ADDR_VALUE ini)
  if !capable ini then s
  else if c ≠ 0 then s.castResult ini id c
  else if a % 4 ≠ 0 then s.castResult ini id 7
  else if 256 ≤ (s.castEntries n).length then s.castResult ini id 3
  else if 1024 ≤ s.cast.entries.length then s.castResult ini id 2
  else
    let e : CastEntry := ⟨a, s.get (CAST_DATA_VALUE ini), s.get (CAST_MASK_VALUE ini)⟩
    let s := { s with cast := { s.cast with entries := s.cast.entries ++ [(n, e)] } }
    (s.put (CAST_INFO_ENTRIES n) (s.castEntries n).length).castResult ini id 0

/-- COMMIT: the castling is ARMED with its condition, or ends REFUSED with cause PAST (R149, R150). DESIGN CHOICE (log 121): the
spec does not say what CAST_INFO.WHEN shows after PAST, where the castling was never ARMED; it shows the 3 of the COMMIT. -/
def State.castCommit (ini id cond : Nat) (s : State) : State :=
  let n := id % 16
  let c := s.castCheck ini id false
  let at_ := s.get (CAST_AT_LO_VALUE ini) + s.get (CAST_AT_HI_VALUE ini) * 2 ^ 32
  if !capable ini then s
  else if c ≠ 0 then s.castResult ini id c
  else
    let s := s.put (CAST_INFO_WHEN n) cond
    if cond % 4 = 3 ∧ at_ ≤ s.ply then (s.castEnd n 4 6 0).castResult ini id 0
    else
      let s := s.put (CAST_STAT_STATE n) 2
      let s := { s with cast := { s.cast with
        commitAt := if cond % 4 = 0 then s.cast.commitAt ++ [(n, s.ply + 1)]
                    else if cond % 4 = 3 then s.cast.commitAt ++ [(n, at_)] else s.cast.commitAt
        armedIn := s.cast.armedIn ++ [(n, s.ply)]
        order := s.cast.order ++ [n] } }
      s.castResult ini id 0

/-- ABORT of an OPEN or ARMED castling by its owner (R156). -/
def State.castAbort (ini id : Nat) (s : State) : State :=
  let c := s.castCheck ini id true
  if !capable ini then s
  else if c ≠ 0 then s.castResult ini id c
  else (s.castEnd (id % 16) 5 0 0).castResult ini id 0

/-- CAST_OPEN (R145, R146). -/
def execCastOpen (ini : Nat) (s : State) : Out := fin (s.asWrite ini castCmdAddr (State.castOpen ini))

/-- CAST_STAGE (R147). -/
def execCastStage (ini id : Nat) (s : State) : Out := fin (s.asWrite ini castCmdAddr (State.castStage ini id))

/-- CAST_COMMIT (R149). -/
def execCastCommit (ini id cond : Nat) (s : State) : Out :=
  fin (s.asWrite ini castCmdAddr (State.castCommit ini id cond))

/-- CAST_ABORT (R156). -/
def execCastAbort (ini id : Nat) (s : State) : Out := fin (s.asWrite ini castCmdAddr (State.castAbort ini id))

/-! ## Landing -/

/-- An ARMED castling is due in the current ply (R150). -/
def State.castDue (s : State) (n : Nat) : Bool :=
  let armed := (s.cast.armedIn.find? (fun e => e.1 == n)).map (·.2)
  s.get (CAST_STAT_STATE n) == 2 &&
  (match armed with | some p => p < s.ply | none => false) &&
  (match s.get (CAST_INFO_WHEN n) with
    | 1 => s.cast.boundaryNow
    | 2 => s.cast.strobeNow
    | _ => (s.cast.commitAt.find? (fun e => e.1 == n)).map (·.2) == some s.ply)

/-- The bits that a field takes up in its word. -/
def fldBits (f : Fld) : Nat := (2 ^ f.w - 1) * 2 ^ f.key.lo

/-- The bits of a register that lie in RWT fields. -/
def rwtBits (fs : List Fld) : Nat :=
  fs.foldl (fun m f => if f.acc = .rwt then m ||| fldBits f else m) 0

/-- The check of one entry, in the order of R151: 0 passes, else the cause. No RWT field of the device has a LOCK bit
(R681), so cause LOCKED cannot arise. DESIGN CHOICE (log 121): the spec does not say whether an entry with MASK 0 at a register
that is not castling-capable (R158) fails; no mask bit of it is set over anything, so it passes. -/
def State.castEntryCause (s : State) (ini : Nat) (e : CastEntry) : Nat :=
  match findReg e.addr regRows with
  | none => 3
  | some (r, i, j) => match s.judgeRow r ini e.addr true with
    | .denied => 5
    | .off => 4
    | .badAddr => 3
    | .ok => if e.mask % 2 ^ 32 ||| rwtBits (r.flds i j) = rwtBits (r.flds i j) then 0 else 2

/-- The first failing entry and its cause. -/
def State.castFail (s : State) (ini : Nat) : List CastEntry → Nat → Option (Nat × Nat)
  | [], _ => none
  | e :: t, k => if s.castEntryCause ini e = 0 then s.castFail ini t (k + 1) else some (k, s.castEntryCause ini e)

/-- One field after a masked write: (old AND NOT mask) OR (data AND mask) (R153). -/
def maskedField (f : Fld) (old data mask : Nat) : Nat :=
  let m := mask / 2 ^ f.key.lo % 2 ^ f.w
  let d := data / 2 ^ f.key.lo % 2 ^ f.w
  (old &&& ((2 ^ f.w - 1) ^^^ m)) ||| (d &&& m)

/-- A field's bits in a word. -/
def Fld.of (f : Fld) (w : Nat) : Nat := w / 2 ^ f.key.lo % 2 ^ f.w

/-- The signals' PRN ranges (R196). -/
def prnOk (sig prn : Nat) : Bool :=
  match sig with
  | 0 | 1 => 1 ≤ prn && prn ≤ 32
  | 2 | 3 => 1 ≤ prn && prn ≤ 36
  | 4 | 5 => 19 ≤ prn && prn ≤ 63
  | 6 | 7 => 193 ≤ prn && prn ≤ 202
  | 8 => 120 ≤ prn && prn ≤ 158
  | _ => false

/-- The integration times that a signal admits after sync (R238, R239). -/
def tintOk (sig t : Nat) : Bool :=
  match sig with
  | 2 => [4, 8, 20].contains t
  | 4 => [10, 20].contains t
  | 8 => [1, 2].contains t
  | _ => [1, 2, 4, 5, 10, 20].contains t

/-- CLK_PER cycles of a CAN bit from the fields of CAN_NBT or CAN_DBT (R646). -/
def canBit (brp tseg1 tseg2 : Nat) : Nat := (brp + 1) * (1 + (tseg1 + 1) + (tseg2 + 1))

/-- The bits of register `id` that a reservation of `State.wordReserved` concerns: a write reserves nothing unless its mask covers one
of them. -/
def reservedBits : Nat → Nat
  | 55 => 0x0000FF00
  | 60 => 0x1FFE0000
  | 67 => 0x3FFFE000
  | 68 => 0x0000007F
  | 198 => fldBits DISP_CTRL_LAPSE_GRACE ||| fldBits DISP_CTRL_PREFETCH_LIFE
  | 252 => fldBits WDOG_CFG_TIMEOUT ||| fldBits WDOG_CFG_MIN
  | 289 => 0x40007FFF
  | 352 => 0xFFFFF000
  | 353 => 0xFFFC0000
  | 376 => 0x70000000
  | _ => 0xFFFFFFFF

/-- Reserved encodings of register `id`, instance `i`, as its word `w` would stand, where the reservation relates fields or
bounds a signed value (R15): IF magnitude, PRN and T_INT of a signal, EL on a BOC signal (R239), the clock rate (R281), PPS
offset, LAPSE_GRACE (R466), WDOG MIN (R513), the ring-1 cursor, the CAN bit times (R646), verification counts, OP of MDIO_CMD in
clause 22. -/
def State.wordAsReserved (s : State) (id i w : Nat) : Bool :=
  match id with
  | 43 | 44 => decide (1030792151 < (sgn 32 w).natAbs)
  | 55 => bits w 15 12 < 1 || 8 < bits w 15 12 || bits w 11 8 < 1 || bits w 15 12 < bits w 11 8
  | 60 => !prnOk ((ACQ_ENT_W0_SIGNAL i).of w) ((ACQ_ENT_W0_PRN i).of w)
  | 67 => !prnOk (bits w 29 26) (bits w 25 18) || !tintOk (bits w 29 26) (bits w 17 13)
  | 68 => (s.get (CH_CFG_SIGNAL i) == 2 || s.get (CH_CFG_SIGNAL i) == 4) && decide (32 < bits w 6 0)
  | 105 => decide (w < 670753096 ∨ 671424184 < w)
  | 123 => decide (500000000 < (sgn 32 w).natAbs)
  | 198 => decide (2 * Fld.of DISP_CTRL_LAPSE_GRACE w ≤ Fld.of DISP_CTRL_PREFETCH_LIFE w)
  | 252 => decide (Fld.of WDOG_CFG_TIMEOUT w ≤ Fld.of WDOG_CFG_MIN w)
  | 289 => bitOf w 30 && decide (256 ≤ bits w 14 0)
  | 352 => decide (canBit (bits w 31 27) (bits w 26 19) (bits w 18 12) < 100)
  | 353 => decide (canBit (bits w 31 27) (bits w 26 22) (bits w 21 18) < 20)
  | 376 => !bitOf w 30 && bits w 29 28 != 1 && bits w 29 28 != 2
  | _ => false

/-- A write under `mask` that would leave the word `w` carries a reserved encoding of `State.wordAsReserved` (R15): it covers a field
that the reservation concerns. -/
def State.wordReserved (s : State) (id i w mask : Nat) : Bool := mask &&& reservedBits id != 0 && s.wordAsReserved id i w

/-- A write of `data` under `mask` to the fields of a register, as the word it would leave: a WO, W1C or W1S field takes the
masked data, any other the merge (R153, R192). -/
def State.mergeWord (s : State) (fs : List Fld) (data mask : Nat) : Nat :=
  fs.foldl (fun v f => v + 2 ^ f.key.lo *
    (if f.acc = .wo ∨ f.acc = .w1c ∨ f.acc = .w1s then (data &&& mask) / 2 ^ f.key.lo % 2 ^ f.w
     else maskedField f (s.get f) data mask)) 0

/-- One entry lands on the RWT fields of its register; a result with a reserved encoding leaves the whole register
unchanged (R15, R153). -/
def State.castWrite (s : State) (e : CastEntry) : State :=
  match findReg e.addr regRows with
  | none => s
  | some (r, i, j) =>
    let fs := (r.flds i j).filter (fun f => f.acc = .rwt)
    let vs := fs.map (fun f => (f, maskedField f (s.get f) e.data e.mask))
    if vs.all (fun p => p.1.vmin ≤ p.2 && p.2 ≤ p.1.vmax) && !s.wordReserved r.id i (s.mergeWord (r.flds i j) e.data e.mask) e.mask
    then s.puts vs else s

/-- The outcome of one due castling (R151 to R153). -/
def State.castLand (s : State) (n : Nat) : State :=
  let ini := s.get (CAST_STAT_OWNER n)
  match s.castFail ini (s.castEntries n) 0 with
  | some (k, c) =>
    (s.castEnd n 4 c k).record .castRefused (leBytes 2 (s.get (CAST_STAT_ID n)) ++ [c, k])
  | none => ((s.castEntries n).foldl State.castWrite s).castEnd n 3 0 0

/-- Every castling due in this ply, in the order in which their COMMIT commands were taken (R154). -/
def State.castLandAll (s : State) : State :=
  (s.cast.order.filter s.castDue).foldl State.castLand s

/-! ## Semaphores -/

/-- TAKE: succeeds when the semaphore is free (R164), but not in the ply in which an owner's reset freed it (R166). -/
def State.semTake (ini n : Nat) (s : State) : State :=
  if capable ini && !s.bit (SEM_HELD n) && !s.cast.freed.contains n then s.puts [(SEM_HELD n, 1), (SEM_OWNER n, ini)] else s

/-- RELEASE: by the owner it frees the semaphore; from any other initiator, capable of owning one or not, it sets BAD_RELEASE
(R165). -/
def State.semRelease (ini n : Nat) (s : State) : State :=
  if s.bit (SEM_HELD n) && s.get (SEM_OWNER n) == ini then s.puts [(SEM_HELD n, 0), (SEM_OWNER n, 0)]
  else s.put (SEM_BAD_RELEASE n) 1

/-- SEM_TAKE (R164). -/
def execSemTake (ini n : Nat) (s : State) : Out :=
  fin (if n < 64 then s.asWrite ini (0x40010400 + 4 * n) (State.semTake ini n) else s)

/-- SEM_RELEASE (R165). -/
def execSemRelease (ini n : Nat) (s : State) : Out :=
  fin (if n < 64 then s.asWrite ini (0x40010400 + 4 * n) (State.semRelease ini n) else s)

end Sys2Proof.Machine
end

