-- ==== Sys2Proof/Machine/Crypto.lean ====
section
/-!
DEFINITION. The ciphers and hashes the spec names by their standards: AES (FIPS 197) in the hop generator (R385), in
KEYCHK (R546), in CCM (R408) and in AES-KW (R581); SHA-256 and HMAC-SHA-256 (R172, R544, R578). Bytes are numbers
below 256, a block is a list of 16 of them.
-/

namespace Sys2Proof.Machine

/-! ## AES -/

/-- The 256 entries of the S-box, entry 0 in the lowest byte. -/
def sboxTable : Nat := 0x16bb54b00f2d99416842e6bf0d89a18cdf2855cee9871e9b948ed9691198f8e19e1dc186b95735610ef6034866b53e708a8bbd4b1f74dde8c6b4a61c2e2578ba08ae7a65eaf4566ca94ed58d6d37c8e779e4959162acd3c25c2406490a3a32e0db0b5ede14b8ee4688902a22dc4f816073195d643d7ea7c41744975fec130ccdd2f3ff1021dab6bcf5389d928f40a351a89f3c507f02f94585334d43fbaaefd0cf584c4a39becb6a5bb1fc20ed00d153842fe329b3d63b52a05a6e1b1a2c830975b227ebe28012079a059618c323c7041531d871f1e5a534ccf73f362693fdb7c072a49cafa2d4adf04759fa7dc982ca76abd7fe2b670130c56f6bf27b777c63

/-- The inverse S-box, in the same form. -/
def invSboxTable : Nat := 0x7d0c2155631469e126d677ba7e042b17619953833cbbebc8b0f52aae4d3be0a0ef9cc9939f7ae52d0d4ab519a97f51605fec8027591012b131c7078833a8dd1ff45acd78fec0db9a2079d2c64b3e56fc1bbe18aa0e62b76f89c5291d711af1476edf751ce837f9e28535ade72274ac9673e6b4f0cecff297eadc674f4111913a6b8a130103bdafc1020f3fca8f1e2cd00645b3b80558e4f70ad3bc8c00abd890849d8da75746155edab9edfd5048706c92b6655dcc5ca4d41698688664f6f87225d18b6d49a25b76b224d92866a12e084ec3fa420b954cee3d23c2a632947b54cbe9dec444438e3487ff2f9b8239e37cfbd7f3819ea340bf38a53630d56a0952

/-- One byte through the S-box. -/
def subByte (x : Nat) : Nat := sboxTable / 256 ^ (x % 256) % 256

/-- One byte through the inverse S-box. -/
def invSubByte (x : Nat) : Nat := invSboxTable / 256 ^ (x % 256) % 256

/-- Multiplication by x in GF(2^8). -/
def xtime (a : Nat) : Nat := if 128 ≤ a then (2 * a % 256) ^^^ 0x1B else 2 * a

/-- Multiplication in GF(2^8) by a factor below 16. -/
def gmul (a k : Nat) : Nat :=
  let a2 := xtime a
  let a4 := xtime a2
  let a8 := xtime a4
  (if k % 2 = 1 then a else 0) ^^^ (if k / 2 % 2 = 1 then a2 else 0) ^^^ (if k / 4 % 2 = 1 then a4 else 0) ^^^
    (if k / 8 % 2 = 1 then a8 else 0)

/-- Bytewise exclusive or of two byte lists. -/
def xorBytes (a b : List Nat) : List Nat := List.zipWith (fun x y => x ^^^ y) a b

/-- Byte `i` of a list, 0 past its end. -/
def byteAt (l : List Nat) (i : Nat) : Nat := l.getD i 0

/-- ShiftRows on a block in column order. -/
def shiftRows (b : List Nat) : List Nat := (List.range 16).map (fun i => byteAt b ((i + 4 * (i % 4)) % 16))

/-- The inverse of ShiftRows. -/
def invShiftRows (b : List Nat) : List Nat := (List.range 16).map (fun i => byteAt b ((i + 12 * (i % 4)) % 16))

/-- MixColumns with the four coefficients of its first row. -/
def mixCols (c0 c1 c2 c3 : Nat) (b : List Nat) : List Nat :=
  (List.range 16).map (fun i =>
    let q := i / 4 * 4
    let r := i % 4
    gmul (byteAt b (q + r)) c0 ^^^ gmul (byteAt b (q + (r + 1) % 4)) c1 ^^^ gmul (byteAt b (q + (r + 2) % 4)) c2 ^^^
      gmul (byteAt b (q + (r + 3) % 4)) c3)

/-- The round constant of step `i` of the key schedule, from 1. -/
def rcon : Nat → Nat
  | 0 => 0
  | 1 => 1
  | i + 1 => xtime (rcon i)

/-- The next 4-byte word of the key schedule after the words `w` (newest first), for a key of `nk` words. -/
def nextKeyWord (nk : Nat) (w : List (List Nat)) : List Nat :=
  let i := w.length
  let t := w.headD []
  let t := if i % nk = 0 then
      xorBytes ([byteAt t 1, byteAt t 2, byteAt t 3, byteAt t 0].map subByte) [rcon (i / nk), 0, 0, 0]
    else if nk = 8 ∧ i % nk = 4 then t.map subByte else t
  xorBytes (w.getD (nk - 1) []) t

/-- The key schedule: `n` more words. -/
def keyWords (nk : Nat) : Nat → List (List Nat) → List (List Nat)
  | 0, w => w
  | n + 1, w => keyWords nk n (nextKeyWord nk w :: w)

/-- The bytes of the key schedule, round key after round key. -/
def keySchedule (key : List Nat) : List Nat :=
  let nk := key.length / 4
  ((keyWords nk (4 * (nk + 7) - nk) ((List.range nk).map (fun i => (key.drop (4 * i)).take 4)).reverse).reverse).flatten

/-- Round key `r`. -/
def roundKey (ks : List Nat) (r : Nat) : List Nat := (ks.drop (16 * r)).take 16

/-- The middle rounds, from round `r`, `n` of them. -/
def aesRounds (ks : List Nat) : Nat → Nat → List Nat → List Nat
  | 0, _, b => b
  | n + 1, r, b => aesRounds ks n (r + 1) (xorBytes (mixCols 2 3 1 1 (shiftRows (b.map subByte))) (roundKey ks r))

/-- AES encryption of one block under a 16- or 32-byte key (FIPS 197). -/
def aesEncrypt (key b : List Nat) : List Nat :=
  let ks := keySchedule key
  let nr := key.length / 4 + 6
  xorBytes (shiftRows ((aesRounds ks (nr - 1) 1 (xorBytes b (roundKey ks 0))).map subByte)) (roundKey ks nr)

/-- The middle rounds of decryption, from round `n` down to 1. -/
def aesInvRounds (ks : List Nat) : Nat → List Nat → List Nat
  | 0, b => b
  | n + 1, b => aesInvRounds ks n (mixCols 14 11 13 9 (xorBytes ((invShiftRows b).map invSubByte) (roundKey ks (n + 1))))

/-- AES decryption of one block (FIPS 197). -/
def aesDecrypt (key b : List Nat) : List Nat :=
  let ks := keySchedule key
  let nr := key.length / 4 + 6
  xorBytes ((invShiftRows (aesInvRounds ks (nr - 1) (xorBytes b (roundKey ks nr)))).map invSubByte) (roundKey ks 0)

/-- `n` big-endian bytes of a number. -/
def beBytes (n v : Nat) : List Nat := (leBytes n v).reverse

/-- The number of a big-endian byte list. -/
def beNat (l : List Nat) : Nat := leNat l.reverse

/-! ## AES-CCM: SP 800-38C with an 8-byte MIC, a 13-byte nonce and a 2-byte length field (R408) -/

/-- A byte list padded with zeros to whole blocks. -/
def padBlocks (l : List Nat) : List Nat := l ++ List.replicate ((16 - l.length % 16) % 16) 0

/-- CBC-MAC over `n` blocks of a padded list. -/
def cbcMac (key : List Nat) : Nat → List Nat → List Nat → List Nat
  | 0, _, x => x
  | n + 1, l, x => cbcMac key n (l.drop 16) (aesEncrypt key (xorBytes x (l.take 16)))

/-- The keystream block `i` of CCM. -/
def ccmStream (key nonce : List Nat) (i : Nat) : List Nat := aesEncrypt key (1 :: nonce ++ beBytes 2 i)

/-- The encrypted or decrypted payload of CCM. -/
def ccmCrypt (key nonce pay : List Nat) : List Nat :=
  xorBytes pay (((List.range (cdiv pay.length 16)).map (fun i => ccmStream key nonce (i + 1))).flatten)

/-- The 8-byte MIC over associated data and plaintext. -/
def ccmMic (key nonce aad pay : List Nat) : List Nat :=
  let b0 := (if aad.isEmpty then 0x19 else 0x59) :: nonce ++ beBytes 2 pay.length
  let l := b0 ++ (if aad.isEmpty then [] else padBlocks (beBytes 2 aad.length ++ aad)) ++ padBlocks pay
  (xorBytes (cbcMac key (l.length / 16) l (List.replicate 16 0)) (ccmStream key nonce 0)).take 8

/-! ## SHA-256 and HMAC -/

/-- The 64 round constants, the first in the lowest word. -/
def shaTable : Nat := 0xc67178f2bef9a3f7a4506ceb90befffa8cc7020884c8781478a5636f748f82ee682e6ff35b9cca4f4ed8aa4a391c0cb334b0bcb52748774c1e376c0819a4c116106aa070f40e3585d6990624d192e819c76c51a3c24b8b70a81a664ba2bfe8a192722c8581c2c92e766a0abb650a735453380d134d2c6dfc2e1b213827b70a851429296706ca6351d5a79147c6e00bf3bf597fc7b00327c8a831c66d983e515276f988da5cb0a9dc4a7484aa2de92c6f240ca1cc0fc19dc6efbe4786e49b69c1c19bf1749bdc06a780deb1fe72be5d74550c7dc3243185be12835b01d807aa98ab1c5ed5923f82a459f111f13956c25be9b5dba5b5c0fbcf71374491428a2f98

/-- A 32-bit word rotated right. -/
def rotr (n x : Nat) : Nat := x / 2 ^ n ||| (x * 2 ^ (32 - n) % 2 ^ 32)

/-- The message schedule: `n` more words, newest first. -/
def shaWords : Nat → List Nat → List Nat
  | 0, w => w
  | n + 1, w =>
    let a := byteAt w 14
    let b := byteAt w 1
    let s0 := rotr 7 a ^^^ rotr 18 a ^^^ a / 8
    let s1 := rotr 17 b ^^^ rotr 19 b ^^^ b / 1024
    shaWords n ((byteAt w 15 + s0 + byteAt w 6 + s1) % 2 ^ 32 :: w)

/-- One round on the eight working words. -/
def shaRound (k w : Nat) : List Nat → List Nat
  | [a, b, c, d, e, f, g, h] =>
    let t1 := h + (rotr 6 e ^^^ rotr 11 e ^^^ rotr 25 e) + ((e &&& f) ^^^ ((0xFFFFFFFF - e) &&& g)) + k + w
    let t2 := (rotr 2 a ^^^ rotr 13 a ^^^ rotr 22 a) + ((a &&& b) ^^^ (a &&& c) ^^^ (b &&& c))
    [(t1 + t2) % 2 ^ 32, a, b, c, (d + t1) % 2 ^ 32, e, f, g]
  | l => l

/-- The rounds over a schedule, from round `i`. -/
def shaRounds : List Nat → Nat → List Nat → List Nat
  | [], _, h => h
  | w :: t, i, h => shaRounds t (i + 1) (shaRound (shaTable / 2 ^ (32 * i) % 2 ^ 32) w h)

/-- One 64-byte block into the hash value. -/
def shaBlock (h b : List Nat) : List Nat :=
  let w := (List.range 16).map (fun i => beNat ((b.drop (4 * i)).take 4))
  List.zipWith (fun x y => (x + y) % 2 ^ 32) h (shaRounds (shaWords 48 w.reverse).reverse 0 h)

/-- `n` blocks. -/
def shaBlocks : Nat → List Nat → List Nat → List Nat
  | 0, _, h => h
  | n + 1, l, h => shaBlocks n (l.drop 64) (shaBlock h (l.take 64))

/-- SHA-256 of a byte list. -/
def sha256 (m : List Nat) : List Nat :=
  let l := m ++ 0x80 :: List.replicate ((119 - m.length % 64) % 64) 0 ++ beBytes 8 (8 * m.length)
  (shaBlocks (l.length / 64) l [1779033703, 3144134277, 1013904242, 2773480762, 1359893119, 2600822924, 528734635, 1541459225]).flatMap (beBytes 4)

/-- HMAC-SHA-256. -/
def hmac256 (key m : List Nat) : List Nat :=
  let k := if 64 < key.length then sha256 key else key
  let k := k ++ List.replicate (64 - k.length) 0
  sha256 (k.map (· ^^^ 0x5C) ++ sha256 (k.map (· ^^^ 0x36) ++ m))

/-- The derivation of R578: `bits` bits under a parent key. -/
def kdf (parent label context : List Nat) (bits : Nat) : List Nat :=
  (((List.range (cdiv bits 256)).flatMap (fun i =>
    hmac256 parent (beBytes 4 (i + 1) ++ label ++ 0 :: context ++ beBytes 4 bits)))).take (bits / 8)

/-! ## AES-KW (SP 800-38F) -/

/-- One unwrapping step `t` on the integrity register and the semiblocks. -/
def kwStep (key : List Nat) (n t : Nat) (st : List Nat × List (List Nat)) : List Nat × List (List Nat) :=
  let i := (t - 1) % n
  let b := aesDecrypt key (xorBytes st.1 (beBytes 8 t) ++ st.2.getD i [])
  (b.take 8, st.2.set i (b.drop 8))

/-- The key inside a wrapped key, or none where the integrity check fails (R581). -/
def kwUnwrap (key w : List Nat) : Option (List Nat) :=
  let n := w.length / 8 - 1
  let r := (List.range n).map (fun i => (w.drop (8 * (i + 1))).take 8)
  let st := ((List.range (6 * n)).reverse.map (· + 1)).foldl (fun st t => kwStep key n t st) (w.take 8, r)
  if st.1 = List.replicate 8 0xA6 then some st.2.flatten else none

end Sys2Proof.Machine
end

