-- ==== Sys2Proof/Machine/KeyUse.lean ====
section
/-!
DEFINITION. Using a key of the store (R576, R577, R583, R588): the lineage check, and the bytes a unit's operation runs
under. Bytes never leave the store but through the operations that name a slot.
-/

namespace Sys2Proof.Machine

open R

/-- The store is in the tampered state (R587, R588). -/
def State.tampered (s : State) : Bool := s.bit TAMPER_STATUS_TAMPERED

/-- The root secret (R571). -/
def rootKey : List Nat := (List.range 32).map (fun i => Config.rootByte i % 256)

/-- The lineage of a slot, through at most `n` ancestors, breaks (R576). A derived slot has a DEPTH of at most 8 (R577),
so nine steps reach the end of every lineage. -/
def State.lineageBroken (s : State) : Nat → Nat → Bool
  | 0, _ => false
  | n + 1, k =>
    s.get (KS_SLOT_W0_ORIGIN k) == 2 && !s.bit (KS_SLOT_W0_ROOT_PARENT k) &&
    (s.get (KS_SLOT_W1_GEN (s.get (KS_SLOT_W0_PARENT k))) != s.get (KS_SLOT_W2_PGEN k) ||
     s.lineageBroken n (s.get (KS_SLOT_W0_PARENT k)))

/-- A slot is orphaned (R576). -/
def State.orphaned (s : State) (k : Nat) : Bool := s.lineageBroken 9 k

/-- The bytes held in a slot. -/
def State.keyBytes (s : State) (k : Nat) : List Nat :=
  match s.ks.vals.find? (fun e => e.1 == k) with
  | some e => e.2
  | none => []

/-- Slot `k` holds a key of a type with a use bit set, and the store would let an operation run under it (R577, R583,
R588). -/
def State.keyUsable (s : State) (k typ use : Nat) : Bool :=
  !s.tampered && s.get (KS_SLOT_W0_TYPE k) == typ && bitOf (s.get (KS_SLOT_W0_USE k)) use &&
  s.get (KS_SLOT_W1_GEN k) != 0xFFFFFFFF && !s.orphaned k

/-- The key an operation runs under, or none where it ends with no output. -/
def State.useKey (s : State) (k typ use : Nat) : Option (List Nat) :=
  if s.keyUsable k typ use then some (s.keyBytes k) else none

/-- An operation that finds its key orphaned at a block boundary is counted (R583). -/
def State.keyAbort (s : State) (k typ use : Nat) : State :=
  if !s.tampered && s.get (KS_SLOT_W0_TYPE k) == typ && bitOf (s.get (KS_SLOT_W0_USE k)) use && s.orphaned k
  then s.bump KS_CNT_ORPHAN_ABORTS else s

end Sys2Proof.Machine
end

