-- ==== Sys2Proof/Machine/Ecp.lean ====
section
/-!
DEFINITION. Sessions, held results, responses and streams of the Exene Command Protocol (spec/06), and the system
opcodes. Every opcode's meaning runs through `ecpRun`, which makes the checks of R182 from step 5 on.
-/

namespace Sys2Proof.Machine

open R

/-! ## Status codes (R183) -/

namespace Ecp
abbrev OK : Nat := 0x0000
abbrev IN_PROGRESS : Nat := 0x0001
abbrev BAD_OPCODE : Nat := 0x0010
abbrev BAD_LENGTH : Nat := 0x0011
abbrev BAD_PARAM : Nat := 0x0012
abbrev BAD_VERSION : Nat := 0x0013
abbrev QUEUE_FULL : Nat := 0x0020
abbrev SESSION_FULL : Nat := 0x0021
abbrev DENIED : Nat := 0x0030
abbrev LOCKED : Nat := 0x0031
abbrev NOT_ACTIVE : Nat := 0x0032
abbrev NOT_READY : Nat := 0x0040
abbrev UNKNOWN_TAG : Nat := 0x0050
abbrev TAG_IN_USE : Nat := 0x0051
abbrev AUTH_FAIL : Nat := 0x0060
abbrev KEY_ORPHANED : Nat := 0x0070
abbrev TAMPERED : Nat := 0x0071
abbrev TARGET_BEHIND : Nat := 0x0080
abbrev ABORTED_OWNER_RESET : Nat := 0x0090
abbrev INTERNAL_ERROR : Nat := 0x00A0
end Ecp

/-- The statuses whose response becomes a held result (R183). -/
def heldStatus (st : Nat) : Bool :=
  [0x0000, 0x0012, 0x0030, 0x0031, 0x0040, 0x0070, 0x0071, 0x0080, 0x0090, 0x00A0].contains st

/-! ## Sessions -/

/-- The session with an index, if open. -/
def State.session (s : State) (id : Nat) : Option EcpSession := s.ecp.sessions.find? (fun x => x.id == id)

/-- A session replaced by its new form. -/
def State.setSession (s : State) (x : EcpSession) : State :=
  { s with ecp := { s.ecp with sessions := s.ecp.sessions.map (fun y => if y.id == x.id then x else y) } }

/-- What a closing session leaves beside its own data: an update transfer of it is abandoned (R668), and register requests of it
that are under way get no answer. -/
def State.leaveSession (s : State) (id : Nat) : State :=
  let boot := match s.boot.upd with
    | some u => if u.sess = id then { s.boot with upd := none } else s.boot
    | none => s.boot
  { s with boot := boot, ecp := { s.ecp with
      jobs := s.ecp.jobs.map (fun j => if j.sess = some id then { j with sess := none } else j) } }

/-- Close a session: its held results, its requests and its streams are discarded (R178). -/
def State.closeSession (s : State) (id : Nat) : State :=
  let s := s.leaveSession id
  { s with ecp := { s.ecp with sessions := s.ecp.sessions.filter (fun x => x.id ≠ id) } }

/-- The initiator of a session's requests: 0x01 over UDP, 0x02 over SPI (R175). -/
def sessIni (id : Nat) : Nat := if id = 8 then 0x02 else 0x01

/-- A session's key is orphaned: its parent slot no longer holds the key it was derived from, or is orphaned itself
(R180, R576). -/
def State.sessOrphaned (s : State) (x : EcpSession) : Bool :=
  x.auth && (s.get (KS_SLOT_W0_TYPE x.keySlot) == 0 || s.get (KS_SLOT_W1_GEN x.keySlot) != x.keyGen ||
    s.orphaned x.keySlot)

/-- A frame of a session can be authenticated, where it must be: the session key is in use (R583, R584, R588). -/
def State.sessSends (s : State) (x : EcpSession) : Bool := !x.auth || (!s.tampered && !s.sessOrphaned x)

/-- A frame that cannot be authenticated is not released; an orphaned key is counted (R583, R584). -/
def State.sessAbort (s : State) : State := if s.tampered then s else s.bump KS_CNT_ORPHAN_ABORTS

/-- Bytes of an outgoing frame, header and payload (R172). -/
def EcpFrame.bytes (f : EcpFrame) : List Nat :=
  [0x43, 0x45, 1, f.flags] ++ leBytes 2 f.op ++ leBytes 2 f.tag ++ leBytes 2 f.status ++ leBytes 2 f.payload.length ++
  leBytes 4 f.seq ++ f.payload

/-- Whole size of an outgoing frame, trailer included. -/
def EcpFrame.size (f : EcpFrame) : Nat := f.bytes.length + (if bitOf f.flags 1 then 16 else 4)

/-- A whole frame as it is sent: the trailer is the CRC-32C of the bytes before it, or with AUTH the first 16 bytes of their
HMAC-SHA-256 (R172). -/
def EcpFrame.wire (f : EcpFrame) : List Nat :=
  f.bytes ++ (if bitOf f.flags 1 then (hmac256 f.key f.bytes).take 16 else leBytes 4 (crc32c f.bytes))

/-- Put a frame on the wire: over UDP at once, over SPI into the outgoing queue, where a response finds room below 16
frames and a stream frame below 8 (R177). Answers whether it found room. DESIGN CHOICE (log 122): of the 16 places 8 are for
responses alone, and the spec does not say how the others are counted; a stream frame finds room while fewer than 8 frames of any
kind are queued. -/
def State.putFrame (s : State) (x : EcpSession) (f : EcpFrame) (isResp : Bool) : State × Bool :=
  if x.id = 8 then
    if s.ecp.spiOut.length < (if isResp then 16 else 8) then
      ({ s with ecp := { s.ecp with spiOut := s.ecp.spiOut ++ [f] } }, true)
    else (s, false)
  else (s.emit (.ecp x.port x.ip x.udp f.wire), true)

/-- Send a frame in a session under its next SEQUENCE; where that would pass 0xFFFF_FFFF the session closes instead
(R181). A status that is not held carries no payload (R183) but for IN_PROGRESS (R184). Under a session key that is no longer
in use nothing is sent (R584). DESIGN CHOICE (log 122): the spec does not say what becomes of a response that finds all 16 outgoing
places of the SPI port taken; it is dropped, its SEQUENCE used and its held result marked as sent. -/
def State.ecpSend (s : State) (id op tag status flags : Nat) (payload : List Nat) : State :=
  match s.session id with
  | none => s
  | some x =>
    if !s.sessSends x then s.sessAbort
    else if x.devSeq + 1 > 0xFFFFFFFF then s.closeSession id
    else
      let x' := { x with devSeq := x.devSeq + 1 }
      let fl := 1 + (if x.auth then 2 else 0) + flags
      let pl := if heldStatus status || status == 1 then payload else []
      (((s.setSession x').putFrame x' ⟨op, tag, status, fl, x'.devSeq, pl, x.key⟩ true).1)

/-- Keep a held result; beyond 1024 the oldest is discarded (R185). -/
def holdResult (x : EcpSession) (h : EcpHeld) : EcpSession :=
  let l := x.held.filter (fun y => y.tag ≠ h.tag) ++ [h]
  { x with held := l.drop (l.length - 1024) }

/-- The opcodes that leave no held result (R185). -/
def unheldOp (op : Nat) : Bool := op == 0x0100 || op == 0x0101 || op == 0x0106 || op == 0x0107

/-- Answer a request in final form, keeping its held result where R183 and R185 say so. INTERNAL_ERROR comes with an event
record (R183), whose form the spec leaves to the event catalogue. -/
def State.ecpFinal (s : State) (id op tag crc status : Nat) (payload : List Nat) : State :=
  let s := if status = Ecp.QUEUE_FULL then s.bump ECP_CNT_B_QUEUE_FULL else s
  let s := if status = Ecp.INTERNAL_ERROR then s.record .internalError (leBytes 2 op ++ leBytes 2 tag) else s
  let s := match s.session id with
    | none => s
    | some x => if heldStatus status && !unheldOp op
        then s.setSession (holdResult x ⟨tag, op, crc, status, payload, true⟩) else s
  s.ecpSend id op tag status 0 payload

/-- The completed part of a request in units of 1/1000: of a MOVE under way the distance covered as a share of the planned one
(R509), of any other none (R184; log 10). -/
def State.progress (s : State) (id tag : Nat) : Nat :=
  let mine := fun (e : Nat × PchState) => match e.2.move with | some m => m.sess == id && m.tag == tag | none => false
  match (s.trk.pch.find? mine).map (·.2) with
  | none => 0
  | some x => match x.plan, x.arcs.find? (fun e => e.1 == s.time.k) with
    | some (p, _), some (_, arc) => match p.target with
      | some g => min 999 ((arc - p.s).natAbs * 1000 / (g - p.s).natAbs)
      | none => 0
    | _, _ => 0

/-- The payload of IN_PROGRESS: the completed part, and the remaining time, unknown (R184; log 10). -/
def State.progressBytes (s : State) (id tag : Nat) : List Nat :=
  leBytes 2 (s.progress id tag) ++ [0, 0, 0xFF, 0xFF, 0xFF, 0xFF]

/-- What executing a request answers: a final status with its payload, or acceptance with the final response to
follow (R184): `progress` answers IN_PROGRESS at once, `wait` completes within the 2 ms of R184 and answers once, `slow`
answers IN_PROGRESS and then the final response. -/
inductive EcpAns where
  | final (status : Nat) (payload : List Nat)
  | progress
  | wait
  | slow (status : Nat) (payload : List Nat)

/-- Requests in progress on the whole device (R190). -/
def State.inProgAll (s : State) : Nat := s.ecp.sessions.foldl (fun n x => n + x.inProg.length) 0

/-- Neither a session nor the device takes another request in progress (R190). -/
def State.inProgFull (s : State) (x : EcpSession) : Bool := decide (64 ≤ x.inProg.length ∨ 256 ≤ s.inProgAll)

/-- A request becomes one in progress (R190). -/
def State.ecpOpen (s : State) (id tag op crc : Nat) : State :=
  match s.session id with
  | none => s
  | some x => s.setSession { x with inProg := x.inProg ++ [(⟨tag, op, crc⟩ : EcpOpen)] }

/-- A request in progress completes: its final response is sent unasked (R184). -/
def State.ecpComplete (s : State) (id tag status : Nat) (payload : List Nat) : State :=
  match s.session id with
  | none => s
  | some x => match x.inProg.find? (fun y => y.tag == tag) with
    | none => s
    | some y =>
      let s := s.setSession { x with inProg := x.inProg.filter (fun z => z.tag ≠ tag) }
      s.ecpFinal id y.op tag y.crc status payload

/-- The bytes of a request that its table gives as "bytes of 0", as offset and length; a table's "—" field is reserved and is not examined
(R14, R173; log 130). KEY_*, STOP_*, MEMBER_* and MET_* judge theirs in the order of their own checks, and UPD_* after AUTH_FAIL. -/
def padBytes (op : Nat) : List (Nat × Nat) :=
  match op with
  | 0x0F11 | 0x0400 | 0x0402 | 0x0704 | 0x0705 | 0x0706 | 0x0707 | 0x0B00 | 0x0B03 | 0x0B04 | 0x0B05 | 0x0D00 => [(1, 3)]
  | 0x0401 | 0x0B02 => [(1, 1)]
  | 0x0701 | 0x0702 => [(2, 2)]
  | 0x0703 => [(3, 1), (6, 2)]
  | 0x0A00 => [(5, 3)]
  | 0x0D01 => [(6, 2)]
  | _ => []

/-- The request's bytes of 0 are 0 (R183: BAD_PARAM for an encoding that is not allowed). -/
def padOk (op : Nat) (pay : List Nat) : Bool := (padBytes op).all (fun e => leAt pay e.1 e.2 == 0)

/-- A request of an open session is judged by steps 5 to 11 of R182 (length, authentication, a repeated TAG by R187, room, run state, bytes of 0) and
then executed by `h`: its session, its TAG and the payload bytes are as the opcode commands carry them. -/
def State.ecpRun (s : State) (op id tag : Nat) (pay : List Nat) (lenOk work : Bool)
    (h : State → State × EcpAns) : State :=
  match s.session id with
  | none => s
  | some x =>
    let crc := crc32c pay
    let x := { x with lastAt := s.ply }
    let s := s.setSession x
    if !lenOk then s.ecpSend id op tag Ecp.BAD_LENGTH 0 []
    else if s.bit ECP_CTRL_AUTH_REQ && !x.auth && !(op == 0x0100 || op == 0x0101 || op == 0x0102)
    then s.ecpSend id op tag Ecp.AUTH_FAIL 0 []
    else match x.inProg.find? (fun y => y.tag == tag), x.held.find? (fun y => y.tag == tag) with
    | some y, _ =>
      if y.op = op ∧ y.crc = crc then s.ecpSend id op tag Ecp.IN_PROGRESS 0 (s.progressBytes id tag)
      else s.ecpSend id op tag Ecp.TAG_IN_USE 0 []
    | none, some y =>
      if y.op = op ∧ y.crc = crc then s.ecpSend id op tag y.status 4 y.payload
      else s.ecpSend id op tag Ecp.TAG_IN_USE 0 []
    | none, none =>
      if s.inProgFull x then
        (s.bump ECP_CNT_B_QUEUE_FULL).ecpSend id op tag Ecp.QUEUE_FULL 0 []
      else if work && (!s.bit PAIR_STATUS_ACTIVE || s.pair.frozen) then s.ecpSend id op tag Ecp.NOT_ACTIVE 0 []
      else
        let r := if op / 256 == 0x0D || padOk op pay then h s else (s, .final Ecp.BAD_PARAM [])
        match r.2 with
        | .final st p => if unheldOp op then r.1.ecpSend id op tag st 0 p else r.1.ecpFinal id op tag crc st p
        | .progress => (r.1.ecpOpen id tag op crc).ecpSend id op tag Ecp.IN_PROGRESS 0 (r.1.progressBytes id tag)
        | .wait => r.1.ecpOpen id tag op crc
        | .slow st p => ((r.1.ecpOpen id tag op crc).ecpSend id op tag Ecp.IN_PROGRESS 0 (r.1.progressBytes id tag)).ecpComplete id tag st p

/-! ## Streams -/

/-- The stream message prefix (R194). -/
def streamPrefix (seq lost : Nat) : List Nat := leBytes 4 seq ++ leBytes 2 lost ++ [0, 0]

/-- The messages of a stream that `keep` holds on to; the others are lost (R195). Answers how many went. -/
def EcpStream.keepMsgs (t : EcpStream) (keep : StreamMsg → Bool) : EcpStream × Nat :=
  let q := t.queue.filter keep
  let n := t.queue.length - q.length
  ({ t with queue := q, lost := min (t.lost + n) 0xFFFF }, n)

/-- A message produced on one stream: it waits for transmission; one without a deadline of its own that still waits is lost, and
where 16 already wait the oldest is lost (R195). -/
def pushMsg (body : List Nat) (dead : Option Nat) (t : EcpStream) : EcpStream × Nat :=
  let r := t.keepMsgs (fun m => m.dead.isSome)
  let t := r.1
  let q := t.queue ++ [⟨t.seq + 1, body, dead⟩]
  let ovr := q.length - 16
  ({ t with seq := t.seq + 1, queue := q.drop ovr, lost := min (t.lost + ovr) 0xFFFF }, r.2 + ovr)

/-- A stream frame of a session can go: its key is in use (R584), and the Ethernet MAC of its port takes frames, with PD_NET out
of reset and the link up; the SPI queue always answers at once (R177, R195). -/
def State.canSend (s : State) (x : EcpSession) : Bool :=
  s.sessSends x && (x.id == 8 || (!s.domOff 9 && s.bit (ETH_CFG_LINK x.port)))

/-- Send the first waiting message of a stream (R194); over SPI a message that finds no room is lost (R195). -/
def State.sendMsg (s : State) (id sid : Nat) : State :=
  match s.session id with
  | none => s
  | some x => if !s.canSend x then s else match x.streams.find? (fun t => t.id == sid) with
    | none => s
    | some t => match t.queue with
      | [] => s
      | m :: rest =>
        if x.devSeq + 1 > 0xFFFFFFFF then s.closeSession id
        else
          let f : EcpFrame := ⟨0x0F12, sid, 0, 1 + (if x.auth then 2 else 0) + 8, x.devSeq + 1,
            streamPrefix m.seq t.lost ++ m.body, x.key⟩
          let r := s.putFrame x f false
          let t' := if r.2 then { t with queue := rest, lost := 0 }
                    else { t with queue := rest, lost := min (t.lost + 1) 0xFFFF }
          let x' := { x with devSeq := if r.2 then x.devSeq + 1 else x.devSeq
                             streams := x.streams.map (fun u => if u.id == sid then t' else u) }
          (if r.2 then r.1 else r.1.bump ECP_CNT_C_STREAM_LOST).setSession x'

/-- The messages of a stream whose deadline is over are lost (R195). -/
def State.expireStream (s : State) (e : Nat × Nat) : State :=
  match s.session e.1 with
  | none => s
  | some x => match x.streams.find? (fun t => t.id == e.2) with
    | none => s
    | some t =>
      let r := t.keepMsgs (fun m => match m.dead with | some d => decide (s.ply ≤ d) | none => true)
      (s.bump ECP_CNT_C_STREAM_LOST r.2).setSession { x with streams := x.streams.map (fun u => if u.id == e.2 then r.1 else u) }

/-- Send every waiting message of a stream that its deadline admits while the transport takes them (R195). -/
def State.drainStream (s : State) (e : Nat × Nat) : State :=
  (List.range 16).foldl (fun s _ => s.sendMsg e.1 e.2) (s.expireStream e)

/-- A message produced on one stream of a session; the transport takes it at once where it can (log 11). A frame that the
session key cannot release counts as in R583. -/
def State.streamPush (body : List Nat) (dead : Option Nat) (s : State) (e : Nat × Nat) : State :=
  match s.session e.1 with
  | none => s
  | some x => match x.streams.find? (fun t => t.id == e.2) with
    | none => s
    | some t =>
      let r := pushMsg body dead t
      let s := if s.sessSends x then s else s.sessAbort
      let s := s.setSession { x with streams := x.streams.map (fun u => if u.id == e.2 then r.1 else u) }
      (s.bump ECP_CNT_C_STREAM_LOST r.2).drainStream e

/-- The open streams of a type, as (session, stream). -/
def State.streamsOf (s : State) (typ : Nat) : List (Nat × Nat) :=
  s.ecp.sessions.flatMap (fun x => (x.streams.filter (fun t => t.typ == typ)).map (fun t => (x.id, t.id)))

/-- Produce one message on every open stream of a type, with the last ply of its deadline where the owning chapter sets one (R193 to
R195). -/
def State.produce (s : State) (typ : Nat) (body : List Nat) (dead : Option Nat) : State :=
  (s.streamsOf typ).foldl (State.streamPush body dead) s

/-- The messages that wait on every stream go where the transport takes them again (R195). -/
def State.drainAll (s : State) : State :=
  (s.ecp.sessions.flatMap (fun x => x.streams.map (fun t => (x.id, t.id)))).foldl State.drainStream s

/-! ## System opcodes -/

/-- NOP: the payload comes back (R189). -/
def execNop (sess tag : Nat) (pay : List Nat) (s : State) : Out :=
  fin (s.ecpRun 0x0100 sess tag pay (pay.length ≤ 1408) false (fun s => (s, .final Ecp.OK pay)))

/-- The condition bits of STATUS (R191). -/
def State.condBits (s : State) : Nat :=
  b2n s.sfnNearEnd + 2 * b2n s.roleMismatch + 4 * b2n (s.bit ROOK_STATE_STOP) + 8 * b2n (s.tampered) +
  16 * b2n s.clk.refLost + 32 * b2n (s.bit TIME_STATUS_HOLDOVER) + 64 * b2n (s.bit TRIM_STATUS_SAFE)

/-- The 32 bytes of STATUS (R191). -/
def State.statusBytes (s : State) : List Nat :=
  [s.get STRAP_ROLE, s.get PAIR_STATUS_ACTIVE, 0, 0] ++ leBytes 4 s.condBits ++ leBytes 8 s.ply ++ leBytes 4 s.sfn ++
  leBytes 2 (s.get TIME_STATUS_TIME_GEN) ++ [0, 0] ++ leBytes 4 (s.get RST_CAUSE_CAUSE) ++ leBytes 4 (s.get RST_SEEN_SEEN)

/-- STATUS (R191). -/
def execStatus (sess tag : Nat) (s : State) : Out :=
  fin (s.ecpRun 0x0101 sess tag [] true false (fun s => (s, .final Ecp.OK s.statusBytes)))

/-- Sixteen bytes of a free value: DEV_NONCE is drawn from the CTR_DRBG (R179). -/
def State.nonce16 (s : State) : List Nat := leBytes 16 s.freeVal

/-- The slot named by SESSION_OPEN holds an HMAC-SHA-256 key enabled for ECP use (R179, R575, R577). -/
def State.ecpKeyStatus (s : State) (slot : Nat) : Nat :=
  if s.tampered then Ecp.TAMPERED
  else if 512 ≤ slot ∨ s.get (KS_SLOT_W0_TYPE slot) ≠ 3 then Ecp.BAD_PARAM
  else if !bitOf (s.get (KS_SLOT_W0_USE slot)) 0 ∨ s.get (KS_SLOT_W1_GEN slot) = 0xFFFFFFFF then Ecp.DENIED
  else if s.orphaned slot then Ecp.KEY_ORPHANED
  else Ecp.OK

/-- The new session in the place of the one that carried a SESSION_OPEN; its sequence numbers start again (R179,
R181). -/
def newSession (x : EcpSession) (auth : Bool) (slot gen : Nat) (key : List Nat) : EcpSession :=
  { id := x.id, port := x.port, ip := x.ip, udp := x.udp, auth := auth, keySlot := slot, keyGen := gen, key := key, lastAt := x.lastAt }

/-- "ECP-SESSION" (R179). -/
def sessLabel : List Nat := [0x45, 0x43, 0x50, 0x2D, 0x53, 0x45, 0x53, 0x53, 0x49, 0x4F, 0x4E]

/-- SESSION_OPEN (R179; without fresh random bits NOT_READY, R572): a failure leaves the carrying session as it is; success replaces it and answers in the new
one. -/
def execSessionOpen (sess tag : Nat) (pay : List Nat) (s : State) : Out :=
  fin (s.ecpRun 0x0102 sess tag pay (pay.length == 20) false (fun s =>
    let slot := leAt pay 0 2
    let mode := leAt pay 2 1
    let st := if 2 ≤ mode then Ecp.BAD_PARAM else if mode = 0 then Ecp.OK else s.ecpKeyStatus slot
    if st ≠ Ecp.OK then (if st = Ecp.KEY_ORPHANED then s.keyAbort slot 3 0 else s, .final st [])
    else if s.bit KS_STATUS_TRNG_FAIL then (s, .final Ecp.NOT_READY [])
    else match s.session sess with
      | none => (s, .progress)
      | some x =>
        let n := s.nonce16
        let key := if mode = 1 then kdf (s.keyBytes slot) sessLabel ((pay.drop 4).take 16 ++ n) 256 else []
        let s := (s.useFree.leaveSession sess).setSession (newSession x (mode == 1) slot (s.get (KS_SLOT_W1_GEN slot)) key)
        (s, .final Ecp.OK ([sess, 0, 0, 0] ++ leBytes 4 1 ++ n))))

/-- SESSION_CLOSE: the session closes after the response (R178). -/
def execSessionClose (sess tag : Nat) (s : State) : Out :=
  fin (let t := s.ecpRun 0x0103 sess tag [] true false (fun s =>
         ({ s with ecp := { s.ecp with closing := some sess } }, .final Ecp.OK []))
       match t.ecp.closing with
       | some id => ({ t with ecp := { t.ecp with closing := none } }).closeSession id
       | none => t)

/-- SESSION_IDLE_TIMEOUT: 60 s without a valid frame (R178). -/
def execSessionIdleTimeout (sess : Nat) (s : State) : Out :=
  fin (match s.session sess with
    | some x => if x.lastAt + 6000000 ≤ s.ply then s.closeSession sess else s
    | none => s)

/-- ECP_RESET: HOST_SYS asserts 1 ms after the response (R189). -/
def execEcpReset (sess tag : Nat) (s : State) : Out :=
  fin (s.ecpRun 0x0104 sess tag [] true false (fun s =>
    ({ s with ecp := { s.ecp with resetPending := some s.ply } }, .final Ecp.OK [])))

/-- HOST_SYS_ASSERT, 1 ms after the response to RESET (R110, R189). -/
def execHostSysAssert (s : State) : Out :=
  fin (match s.ecp.resetPending with
    | some p => if p + 100 ≤ s.ply then ({ s with ecp := { s.ecp with resetPending := none } }).assertSource 13 0 else s
    | none => s)

/-- NIGHT: denied unless the stop state is in force and the crystal runs; Rook then makes its NIGHT_GO write, which is a
command of its own (R95). -/
def execNight (sess tag : Nat) (s : State) : Out :=
  fin (s.ecpRun 0x0105 sess tag [] true false (fun s =>
    (s, .final (if s.bit ROOK_STATE_STOP && s.bit CLK_STATUS_AON_XTAL_OK then Ecp.OK else Ecp.DENIED) [])))

/-- RESULT_GET: the held result of the header TAG, IN_PROGRESS, or UNKNOWN_TAG (R186). -/
def execResultGet (sess tag : Nat) (s : State) : Out :=
  fin (match s.session sess with
    | none => s
    | some x =>
      if s.bit ECP_CTRL_AUTH_REQ && !x.auth then s.ecpSend sess 0x0106 tag Ecp.AUTH_FAIL 0 []
      else if s.inProgFull x then (s.bump ECP_CNT_B_QUEUE_FULL).ecpSend sess 0x0106 tag Ecp.QUEUE_FULL 0 []
      else match x.inProg.find? (fun y => y.tag == tag), x.held.find? (fun y => y.tag == tag) with
      | some y, _ => s.ecpSend sess y.op tag Ecp.IN_PROGRESS 0 (s.progressBytes sess tag)
      | none, some y =>
        (s.setSession { x with held := x.held.map (fun z => if z.tag == tag then { z with sent := true } else z) }).ecpSend
          sess y.op tag y.status (if y.sent then 4 else 0) y.payload
      | none, none => s.ecpSend sess 0x0106 tag Ecp.UNKNOWN_TAG 0 [])

/-- Retire a list of tags: how many held a result, and how many did not (R188). -/
def retireTags : List Nat → EcpSession → Nat → Nat → EcpSession × Nat × Nat
  | [], x, a, b => (x, a, b)
  | t :: ts, x, a, b =>
    if x.held.any (fun y => y.tag == t) && !x.inProg.any (fun y => y.tag == t)
    then retireTags ts { x with held := x.held.filter (fun y => y.tag ≠ t) } (a + 1) b
    else retireTags ts x a (b + 1)

/-- TAG_RETIRE (R188). -/
def execTagRetire (sess tag : Nat) (pay : List Nat) (s : State) : Out :=
  let n := leAt pay 0 2
  fin (s.ecpRun 0x0107 sess tag pay (pay.length == 2 + 2 * n) false (fun s =>
    if n < 1 ∨ 64 < n then (s, .final Ecp.BAD_PARAM [])
    else match s.session sess with
      | none => (s, .progress)
      | some x =>
        let r := retireTags ((List.range n).map (fun k => leAt pay (2 + 2 * k) 2)) x 0 0
        (s.setSession r.1, .final Ecp.OK (leBytes 2 r.2.1 ++ leBytes 2 r.2.2))))

/-- The lowest stream ID, 1 to 255, that a session does not use. -/
def freeStreamId (x : EcpSession) : Nat :=
  (((List.range 255).map (· + 1)).find? (fun k => !x.streams.any (fun t => t.id == k))).getD 0

/-- Streams open on the whole device. -/
def State.streamCount (s : State) : Nat := s.ecp.sessions.foldl (fun n x => n + x.streams.length) 0

/-- STREAM_OPEN: every stream type of the device takes parameter 0 (R193, R276, R368, R452, R473, R605). -/
def execStreamOpen (sess tag : Nat) (pay : List Nat) (s : State) : Out :=
  fin (s.ecpRun 0x0F10 sess tag pay (pay.length == 6) false (fun s =>
    let typ := leAt pay 0 2
    let param := leAt pay 2 4
    match s.session sess with
    | none => (s, .progress)
    | some x =>
      if typ < 1 ∨ 5 < typ ∨ param ≠ 0 then (s, .final Ecp.BAD_PARAM [])
      else if 8 ≤ x.streams.length ∨ 16 ≤ s.streamCount then (s, .final Ecp.QUEUE_FULL [])
      else
        let id := freeStreamId x
        (s.setSession { x with streams := x.streams ++ [{ id := id, typ := typ, param := param }] },
         .final Ecp.OK [id, 0, 0, 0])))

/-- STREAM_CLOSE (R193). -/
def execStreamClose (sess tag : Nat) (pay : List Nat) (s : State) : Out :=
  fin (s.ecpRun 0x0F11 sess tag pay (pay.length == 4) false (fun s =>
    let id := leAt pay 0 1
    match s.session sess with
    | none => (s, .progress)
    | some x =>
      if x.streams.any (fun t => t.id == id) then
        (s.setSession { x with streams := x.streams.filter (fun t => t.id ≠ id) }, .final Ecp.OK [])
      else (s, .final Ecp.BAD_PARAM [])))

/-- REQUEST_FINAL_RESPONSE: a request in progress completes outside the state's own events, with the status and payload
the firmware gives it (R184). -/
def execRequestFinalResponse (sess tag status : Nat) (pay : List Nat) (s : State) : Out :=
  fin (s.ecpComplete sess tag status pay)

/-- STREAM_MESSAGE_LOST: the messages of a stream that have not been handed over by their deadlines (R195). -/
def execStreamMessageLost (sess stream : Nat) (s : State) : Out := fin (s.expireStream (sess, stream))

/-! ## The SPI host port -/

/-- The size of a frame by its header: 16 + LENGTH + trailer (R172, R176). -/
def frameSize (bytes : List Nat) : Nat := 16 + leAt bytes 10 2 + (if bitOf (leAt bytes 3 1) 1 then 16 else 4)

/-- SPI_WRITE_FRAME (R176, R177). -/
def execSpiWriteFrame (bytes : List Nat) (s : State) : Out :=
  fin (if !s.bit ECP_CTRL_SPI_EN then s
    else if 4 ≤ s.ecp.spiRx.length then
      let s := s.bump ECP_CNT_A_DROP_FRAME
      { s with ecp := { s.ecp with spiOverrun := true } }
    else if bytes.length ≠ frameSize bytes then s.bump ECP_CNT_A_DROP_FRAME
    else { s with ecp := { s.ecp with spiRx := s.ecp.spiRx ++ [bytes] } })

/-- SPI_READ_STATUS: size of the next frame, RX_READY and RX_OVERRUN, which clears (R176). -/
def execSpiReadStatus (s : State) : Out :=
  fin (if !s.bit ECP_CTRL_SPI_EN then s else
       let sz := match s.ecp.spiOut with | f :: _ => f.size | [] => 0
       let s := s.emit (.spi (leBytes 2 sz ++ [b2n (s.ecp.spiRx.length < 4) + 2 * b2n s.ecp.spiOverrun, 0]))
       { s with ecp := { s.ecp with spiOverrun := false } })

/-- SPI_READ_FRAME: as many bytes as are clocked after the turnaround byte, of the next frame and 0x00 beyond it; the frame leaves the
queue only when its full size has been clocked (R172, R176). -/
def execSpiReadFrame (clocked : Nat) (s : State) : Out :=
  let shown := fun (bs : List Nat) => Output.spi (bs.take clocked ++ List.replicate (clocked - bs.length) 0)
  fin (if !s.bit ECP_CTRL_SPI_EN then s else match s.ecp.spiOut with
    | [] => s.emit (shown [])
    | f :: rest =>
      let s := s.emit (shown f.wire)
      if f.size ≤ clocked then { s with ecp := { s.ecp with spiOut := rest } } else s)

end Sys2Proof.Machine
end

