-- ==== Sys2Proof/Machine/Gnss.lean ====
section
/-!
DEFINITION. The front-end links, the antenna feed, live calibration and the acquisition engine (spec/07), with the
channel transitions they cause (R223, R225, R250, R251).
-/

namespace Sys2Proof.Machine

open R

/-! ## State accessors -/

/-- The state of front end `f` (0 FE_A, 1 FE_B). -/
def State.feSt (s : State) (f : Nat) : FeState := if f = 0 then s.gnss.fe0 else s.gnss.fe1

/-- Front end `f` with new state. -/
def State.setFe (s : State) (f : Nat) (x : FeState) : State :=
  { s with gnss := if f = 0 then { s.gnss with fe0 := x } else { s.gnss with fe1 := x } }

/-- The loop state of a channel. -/
def State.chSt (s : State) (c : Nat) : ChState :=
  match s.gnss.ch.find? (fun e => e.1 == c) with
  | some e => e.2
  | none => {}

/-- A channel with new loop state. -/
def State.setCh (s : State) (c : Nat) (x : ChState) : State :=
  { s with gnss := { s.gnss with ch := s.gnss.ch.filter (fun e => e.1 ≠ c) ++ [(c, x)] } }

/-! ## Signals (R196) -/

/-- Code-phase cells of a signal. -/
def sigCells (c : Nat) : Nat := [2046, 20460, 16368, 20460, 40920, 20460, 2046, 20460, 2046].getD c 1

/-- Primary code period in ms. -/
def sigPrim (c : Nat) : Nat := [1, 1, 4, 1, 10, 1, 1, 1, 1].getD c 1

/-- The signal is in the L1 band. -/
def sigL1 (c : Nat) : Bool := c == 0 || c == 2 || c == 4 || c == 6 || c == 8

/-- The signal's replica is BOC(1,1), searched at quarter-chip cells (R196, R238). -/
def sigBoc (c : Nat) : Bool := c == 2 || c == 4

/-- The signal carries data on its tracked component: codes 0, 6 and 8 (R238, R241). -/
def sigData (c : Nat) : Bool := c == 0 || c == 6 || c == 8

/-- The system a signal belongs to: 0 GPS, 1 Galileo, 2 QZSS, 3 BeiDou, 4 SBAS. -/
def sigSys (c : Nat) : Nat := [0, 0, 1, 1, 3, 3, 2, 2, 4].getD c 5

/-- TCOH_MS is allowed for the signal, unaided or with WIPE (R196, R219). -/
def tcohOk (c t : Nat) (wipe : Bool) : Bool :=
  match c with
  | 0 | 6 => 1 ≤ t && t ≤ 10
  | 8 => t == 1 || t == 2
  | 2 => if wipe then t == 4 || t == 8 else t == 4
  | 4 => t == 10
  | _ => if wipe then 1 ≤ t && t ≤ 10 else t == 1

/-! ## Front-end links -/

/-- The bias the device sends (R210). -/
def State.biasOut (s : State) (f : Nat) : Bool :=
  s.bit (FE_CTRL_BIAS_EN f) && (!(s.feSt f).tripped || (s.feSt f).retry != 0)

/-- Bits 16 to 47 of the CTL frame being sent, without SEQ (R201). -/
def State.ctlFields (s : State) (f : Nat) : Nat :=
  s.get (FE_CTRL_GAIN_L1 f) + s.get (FE_CTRL_GAIN_L5 f) * 2 ^ 6 + s.get (FE_CTRL_AGC_L1 f) * 2 ^ 12 +
  s.get (FE_CTRL_AGC_L5 f) * 2 ^ 13 + b2n (s.biasOut f) * 2 ^ 14 + s.get (FE_CTRL_FE_RESET f) * 2 ^ 15 +
  s.get (FE_CTRL_AGC_TARGET f) * 2 ^ 24

/-- CTL_PEND: CTL_ACK differs from the SEQ sent. -/
def State.ctlPend (s : State) (f : Nat) : State :=
  s.put (FE_STATUS_CTL_PEND f) (b2n (s.get (FE_LINK_CTL_ACK f) != s.get (FE_LINK_CTL_SEQ f)))

/-- After a step from `s0`: SEQ advances when a CTL field has changed (R201). -/
def State.ctlAfter (s0 : State) (f : Nat) (s : State) : State :=
  if s.ctlFields f = s0.ctlFields f then s
  else (s.put (FE_LINK_CTL_SEQ f) ((s.get (FE_LINK_CTL_SEQ f) + 1) % 256)).ctlPend f

/-- Bit `n`.. of a frame as a list, first transmitted first. -/
def frameBits (v lo n : Nat) : List Nat := (List.range n).map (fun k => v / 2 ^ (lo + k) % 2)

/-- CRC-8 of R200 over frame bits 16 to 55, in transmission order. -/
def linkCrc (frame : Nat) : Nat := (frameBits frame 16 40).foldl (crcBit 8 0x07) 0

/-- The CTL frame being sent: SYNC, the fields, SEQ and the CRC (R201). -/
def State.ctlFrame (s : State) (f : Nat) : Nat :=
  let v := 0x5C93 + s.ctlFields f * 2 ^ 16 + s.get (FE_LINK_CTL_SEQ f) * 2 ^ 32
  v + revBits 8 (linkCrc v) * 2 ^ 56

/-- SYNC and CRC of a 64-bit frame are right; the remainder's x^7 coefficient is frame bit 56 (R200, R201). -/
def linkFrameOk (sync frame : Nat) : Bool :=
  bits frame 15 0 == sync && revBits 8 (bits frame 63 56) == linkCrc frame

/-- A channel in PULL_IN or TRACK. -/
def State.chRuns (s : State) (c : Nat) : Bool := s.get (CH_STATUS_STATE c) == 2 || s.get (CH_STATUS_STATE c) == 3

/-- A running channel goes to IDLE with a cause (R250): LOST, LOSS_CAUSE and the event record; its last code, Doppler
and carrier values stay. -/
def State.chLose (s : State) (c cause : Nat) : State :=
  if s.chRuns c then
    (s.puts [(CH_STATUS_STATE c, 0), (CH_STATUS_LOST c, 1), (CH_STATUS_LOSS_CAUSE c, cause)]).record .chLost [c, cause]
  else s

/-- The entry being served is ACTIVE or VERIFY. -/
def State.acqServing (s : State) : Option Nat :=
  (List.range 64).find? (fun n => s.get (ACQ_ENT_W3_STATE n) == 2 || s.get (ACQ_ENT_W3_STATE n) == 3)

/-! ## The list of search entries -/

/-- The place of an entry. -/
def State.acqPos (s : State) (n : Nat) : AcqPos :=
  match s.gnss.acq.pos.find? (fun e => e.1 == n) with
  | some e => e.2
  | none => {}

/-- An entry with a new place. -/
def State.setPos (s : State) (n : Nat) (p : AcqPos) : State :=
  { s with gnss := { s.gnss with acq := { s.gnss.acq with pos := s.gnss.acq.pos.filter (fun e => e.1 ≠ n) ++ [(n, p)] } } }

/-- Address of ACQ_ENT_n W3 (spec/07, R678). -/
def acqStateAddr (n : Nat) : Nat := 0x4010100C + 0x10 * n

/-- An entry breaks R219. -/
def State.acqBadParam (s : State) (n : Nat) : Bool :=
  let nnc := s.get (ACQ_ENT_W0_NNC n)
  !tcohOk (s.get (ACQ_ENT_W0_SIGNAL n)) (s.get (ACQ_ENT_W0_TCOH_MS n)) (s.bit (ACQ_ENT_W0_WIPE n)) ||
  nnc < 1 || 20 < nnc || s.get (ACQ_THRESH_THRESH nnc) == 0

/-- The entry has a state whose owner may rewrite it (R224). -/
def State.acqIdle (s : State) (n : Nat) : Bool :=
  s.get (ACQ_ENT_W3_STATE n) == 0 || 4 ≤ s.get (ACQ_ENT_W3_STATE n)

/-- Release the entry's reserved channel to IDLE (R225). -/
def State.acqUnreserve (s : State) (n : Nat) : State :=
  let c := s.get (ACQ_ENT_W0_CHANNEL n)
  if s.get (CH_STATUS_STATE c) = 1 then s.put (CH_STATUS_STATE c) 0 else s

/-- An entry leaves PENDING, ACTIVE or VERIFY for a final state without FOUND: the reservation is released and the engine
is free of it (R225). -/
def State.acqEnd (s : State) (n st cause : Nat) : State :=
  let served := s.get (ACQ_ENT_W3_STATE n) == 2 || s.get (ACQ_ENT_W3_STATE n) == 3
  let s := (s.acqUnreserve n).puts [(ACQ_ENT_W3_STATE n, st), (ACQ_ENT_W3_CAUSE n, cause)]
  let s := { s with gnss := { s.gnss with acq := { pos := s.gnss.acq.pos.filter (fun e => e.1 ≠ n)
                                                   waitAt := if served then none else s.gnss.acq.waitAt } } }
  if served then s.put ACQ_STATUS_BUSY 0 else s

/-- A write of STATE = 1 (R219, R224, R225). -/
def State.acqSubmit (n : Nat) (s : State) : State :=
  let c := s.get (ACQ_ENT_W0_CHANNEL n)
  if !s.acqIdle n then s
  else if s.acqBadParam n then s.puts [(ACQ_ENT_W3_STATE n, 7), (ACQ_ENT_W3_CAUSE n, 3)]
  else if s.get (CH_STATUS_STATE c) ≠ 0 then s.puts [(ACQ_ENT_W3_STATE n, 7), (ACQ_ENT_W3_CAUSE n, 4)]
  else (s.puts [(ACQ_ENT_W3_STATE n, 1), (ACQ_ENT_W3_CAUSE n, 0), (CH_STATUS_STATE c, 1),
    (ACQ_RES_W1_DWELLS n, 0)]).setPos n {}

/-- A write of STATE = 6; one that comes after the entry's end has no effect (R224, R225, R227). -/
def State.acqCancel (n : Nat) (s : State) : State := if s.acqIdle n then s else s.acqEnd n 6 0

/-- A write of STATE = 0 (R224). -/
def State.acqClear (n : Nat) (s : State) : State :=
  if 4 ≤ s.get (ACQ_ENT_W3_STATE n) then s.puts [(ACQ_ENT_W3_STATE n, 0), (ACQ_ENT_W3_CAUSE n, 0)] else s

/-- Passes per bin of an entry (R217). -/
def State.acqPasses (s : State) (n : Nat) : Nat :=
  let k := s.get (ACQ_ENT_W1_CODE_CELLS n)
  cdiv (if k = 0 then sigCells (s.get (ACQ_ENT_W0_SIGNAL n)) else k) 4096

/-- Bins of an entry: 2 ceil(DOPP_HALF / w) + 1 with w = 500 / TCOH_MS Hz (R218). -/
def State.acqBins (s : State) (n : Nat) : Nat :=
  2 * cdiv (s.get (ACQ_ENT_W2_DOPP_HALF n) * s.get (ACQ_ENT_W0_TCOH_MS n)) 500 + 1

/-- Bin index of the k-th visited bin: 0, +1, -1, +2, -2 and so on (R218). -/
def binOffset (k : Nat) : Int := if k % 2 = 1 then ((k + 1) / 2 : Nat) else -((k / 2 : Nat) : Int)

/-- The Doppler of a bin's centre in Hz, exactly (R218). -/
def State.acqBinHz (s : State) (n k : Nat) : Rat :=
  (s.getS (ACQ_ENT_W2_DOPP_CENTRE n) : Rat) + (binOffset k * 500 : Int) / (s.get (ACQ_ENT_W0_TCOH_MS n) : Rat)

/-! ## Reacquisition and aided entries (R231, R232) -/

/-- Cells to a chip (R196). -/
def sigSpacing (c : Nat) : Nat := if sigBoc c then 4 else 2

/-- Nominal chip rate in chips/s (R196). -/
def sigChip (c : Nat) : Nat := if sigL1 c then 1023000 else 10230000

/-- Band centre in Hz (R245). -/
def sigBand (c : Nat) : Nat := if sigL1 c then 1575420000 else 1176450000

/-- Primary code length in chips (R196). -/
def sigChips (c : Nat) : Nat := [1023, 10230, 4092, 10230, 10230, 10230, 1023, 10230, 1023].getD c 1

/-- The cell that a code phase in UQ16.16 chips lies in. -/
def sigCell (c code : Nat) : Nat := (quant ((code * sigSpacing c : Nat) : Int) 65536).toNat % sigCells c

/-- The NNC the firmware searches with: 4, or the smallest that has a threshold (log 14). -/
def State.acqNnc (s : State) : Option Nat :=
  if s.get (ACQ_THRESH_THRESH 4) != 0 then some 4
  else ((List.range 20).map (· + 1)).find? (fun k => s.get (ACQ_THRESH_THRESH k) != 0)

/-- A code window and a Doppler range of entry `n`: centre cell, half-width in cells (none: the whole code), Doppler centre and half in
Hz. -/
def State.acqWindow (s : State) (n sg cell : Nat) (half : Option Nat) (dopp : Int) (dHalf : Nat) : State :=
  let w := match half with
    | some h => ((cell + h * sigCells sg - h) % sigCells sg, if 2 * h + 1 < sigCells sg then 2 * h + 1 else 0)
    | none => (0, 0)
  (s.puts [(ACQ_ENT_W1_CODE_START n, w.1), (ACQ_ENT_W1_CODE_CELLS n, w.2), (ACQ_ENT_W2_DOPP_HALF n, min dHalf 65535)]).putS
    (ACQ_ENT_W2_DOPP_CENTRE n) dopp

/-- Word W0 of entry `n`, with the shortest dwell the signal allows. -/
def State.acqW0 (s : State) (n : Nat) (re : Bool) (fe sg prn ch nnc : Nat) : State :=
  s.puts [(ACQ_ENT_W0_REACQ n, b2n re), (ACQ_ENT_W0_WIPE n, 0), (ACQ_ENT_W0_FE n, fe), (ACQ_ENT_W0_SIGNAL n, sg), (ACQ_ENT_W0_PRN n, prn),
    (ACQ_ENT_W0_CHANNEL n, ch), (ACQ_ENT_W0_NNC n, nnc), (ACQ_ENT_W0_TCOH_MS n, sigPrim sg)]

/-- `f_c × U` in Hz for an uncertainty in ppb (R220). -/
def freqUnc (sg : Nat) (ppb : Rat) : Rat := (sigBand sg : Rat) * ppb / 1000000000

/-- Smallest natural number not below a rational. -/
def ceilQ (q : Rat) : Nat := cdiv q.num.toNat q.den

/-- The window of a reacquisition entry `t` plies after the loss: 2 chips and 0.5 chip a second about the propagated code phase, one bin
and 10 Hz a second about the last Doppler; after 10 s the signal is searched as in a warm start (R229, R232). -/
def State.reacqWindow (s : State) (n : Nat) (l : LossRec) : State :=
  let sg := s.get (CH_CFG_SIGNAL l.ch)
  let t : Rat := ((s.ply - l.ply : Nat) : Rat) / 100000
  let f : Rat := (l.dopp : Rat) / 1024
  let d := quantQ f
  if 10 < t then (s.put (ACQ_ENT_W0_REACQ n) 0).acqWindow n sg 0 none d (ceilQ (500 + freqUnc sg s.gnss.osc))
  else
    let chips := (l.code : Rat) / 65536 + (sigChip sg : Rat) * (1 + f / (sigBand sg : Rat)) * t
    let cell := (quantQ (chips * sigSpacing sg)).toNat % sigCells sg
    s.acqWindow n sg cell (some (ceilQ ((2 + t / 2) * sigSpacing sg))) d (ceilQ (500 / (sigPrim sg : Rat) + 10 * t))

/-- The loss that a channel's reacquisition answers. -/
def State.lossOf (s : State) (c : Nat) : Option LossRec := s.gnss.lost.find? (fun l => l.ch == c)

/-- A list of losses in place of the one held. -/
def State.withLost (s : State) (l : List LossRec) : State := { s with gnss := { s.gnss with lost := l } }

/-- The reacquisition entry of a loss, placed in the lowest entry open to it (R232, log 14). -/
def State.reacqEntry (s : State) (l : LossRec) : State :=
  match (List.range 64).find? s.acqIdle, s.acqNnc with
  | some n, some k =>
    ((s.acqW0 n true (s.get (CH_CFG_FE l.ch)) (s.get (CH_CFG_SIGNAL l.ch)) (s.get (CH_CFG_PRN l.ch)) l.ch k).reacqWindow n l).acqSubmit n
  | _, _ => s

/-- Channel `c` has reported loss of lock: the firmware places its reacquisition entry (R232). -/
def State.reacqPlace (s : State) (c : Nat) : State :=
  let l : LossRec := ⟨c, s.ply, s.get (CH_CODE_CODE c), s.getS (CH_DOPP_DOPP c)⟩
  (s.withLost (s.gnss.lost.filter (fun x => x.ch != c) ++ [l])).reacqEntry l

/-- A reacquisition entry has ended without FOUND: it is placed again with the window it has by then; once the search is that of a warm
start, nothing follows it (R232, log 14). -/
def State.reacqAgain (s : State) (n : Nat) : State :=
  match s.lossOf (s.get (ACQ_ENT_W0_CHANNEL n)) with
  | some l => if s.bit (ACQ_ENT_W0_REACQ n) then s.reacqEntry l else s.withLost (s.gnss.lost.erase l)
  | none => s

/-- The first channel of front end `f` that is IDLE, in the banks the firmware gives it: 0 to 3 for FE_A, 4 to 7 for FE_B (R235). -/
def State.freeCh (s : State) (f : Nat) : Option Nat :=
  ((List.range 128).map (· + 128 * f)).find? (fun c => s.get (CH_STATUS_STATE c) == 0 && (s.lossOf c).isNone)

/-- An entry for a signal on a channel that the firmware configures for it, in the lowest entry open to it (R229, R231). -/
def State.searchEntry (s : State) (f sg prn cell : Nat) (half : Option Nat) (dopp : Int) (dHalf : Nat) : State :=
  match (List.range 64).find? s.acqIdle, s.acqNnc, s.freeCh f with
  | some n, some k, some c =>
    let s := s.puts [(CH_CFG_FE c, f), (CH_CFG_SIGNAL c, sg), (CH_CFG_PRN c, prn), (CH_CFG_TINT_MS c, sigPrim sg)]
    ((s.acqW0 n false f sg prn c k).acqWindow n sg cell half dopp dHalf).acqSubmit n
  | _, _, _ => s

/-- SIGNALS_SET enables a signal on a front end (R279). -/
def State.sigOn (s : State) (f sg : Nat) : Bool := bitOf (if f = 0 then s.gnssCfg.maskA else s.gnssCfg.maskB) sg

/-- A signal is tracked, or an entry searches it. -/
def State.sigBusy (s : State) (f sg prn : Nat) : Bool :=
  (List.range 256).any (fun c => s.chRuns c && s.get (CH_CFG_FE c) == f && s.get (CH_CFG_SIGNAL c) == sg && s.get (CH_CFG_PRN c) == prn) ||
  (List.range 64).any (fun n => !s.acqIdle n && s.get (ACQ_ENT_W0_FE n) == f && s.get (ACQ_ENT_W0_SIGNAL n) == sg &&
    s.get (ACQ_ENT_W0_PRN n) == prn)

/-- The L5 partner of an L1-band signal (R196, R231). -/
def sigPartner (c : Nat) : Option Nat :=
  match c with | 0 => some 1 | 2 => some 3 | 4 => some 5 | 6 => some 7 | _ => none

/-- The aided entry for the L5 partner of channel `c`, which has just taken code lock: 41 cells about its code time modulo 1 ms, its
Doppler scaled to L5, one bin (R231). -/
def State.aidedEntry (s : State) (c : Nat) : State :=
  let f := s.get (CH_CFG_FE c)
  let prn := s.get (CH_CFG_PRN c)
  match sigPartner (s.get (CH_CFG_SIGNAL c)) with
  | none => s
  | some sg =>
    if s.sigOn f sg && !s.sigBusy f sg prn then
      let code := s.get (CH_CODE_CODE c) % (1023 * 65536)
      s.searchEntry f sg prn (sigCell sg (10 * code)) (some 20) (quantQ ((s.getS (CH_DOPP_DOPP c) : Rat) / 1024 * 117645 / 157542)) 500
    else s

/-! ## Front-end links, as states -/

/-- A link leaves LOCKED: its entry waits with its dwell discarded (R228), its running channels are lost and searched again (R232,
R251), its calibration restarts (R214, R216), and its samples are zero-valued and marked invalid (R203). -/
def State.feUnlock (f : Nat) (s : State) : State :=
  let s := s.setFe f { s.feSt f with badFrames := 0, relocked := true, first1 := true, first5 := true, corr := [], frmRun := 0
                                     frmOk := false, goodFrames := 0 }
  let s := match s.acqServing with
    | some n => if s.get (ACQ_ENT_W0_FE n) = f then
        let s := s.put ACQ_STATUS_BUSY 0
        { s with gnss := { s.gnss with acq := { s.gnss.acq with waitAt := some s.ply } } } else s
    | none => s
  (List.range 256).foldl (fun s c => if s.get (CH_CFG_FE c) = f ∧ s.chRuns c then (s.chLose c 3).reacqPlace c else s) s

/-- The link goes to DOWN (R203). -/
def State.feDown (f : Nat) (s : State) : State :=
  let was := s.get (FE_STATUS_LINK f)
  let s := s.put (FE_STATUS_LINK f) 0
  if was = 2 then s.feUnlock f else s

/-- The link goes from DOWN to HUNT where EN is set and the clock is present (R203). -/
def State.feHunt (f : Nat) (s : State) : State :=
  if s.get (FE_STATUS_LINK f) = 0 ∧ s.bit (FE_CTRL_EN f) ∧ (s.feSt f).clkOk then
    (s.put (FE_STATUS_LINK f) 1).setFe f { s.feSt f with frmRun := 0, frmOk := false, goodFrames := 0 }
  else s

/-- FE_LINK_DOWN: EN cleared, or no clock edge for 100 ns, which is held until a frame shows the clock again (R203). -/
def execFeLinkDown (f : Nat) (clkLost : Bool) (s : State) : Out :=
  fin (if f < 2 ∧ (clkLost ∨ !s.bit (FE_CTRL_EN f)) then
    (if clkLost then s.setFe f { s.feSt f with clkOk := false } else s).feDown f
  else s)

/-- A waiting entry goes on when its link is LOCKED again within 1 s: the dwell repeats, verification from its first (R228). -/
def State.acqResume (f : Nat) (s : State) : State :=
  match s.acqServing, s.gnss.acq.waitAt with
  | some n, some p => if s.get (ACQ_ENT_W0_FE n) == f then
      (if s.ply ≤ p + 100000 then
        let s := s.setPos n { s.acqPos n with verRun := 0, verPass := 0 }
        { s with gnss := { s.gnss with acq := { s.gnss.acq with waitAt := none } } }.put ACQ_STATUS_BUSY 1
      else (s.acqEnd n 5 2).reacqAgain n) else s
  | _, _ => s

/-- FE_LINK_LOCKED: from HUNT, after 64 samples with a correct FRM and three status frames with a correct SYNC and CRC; FIFO_LAT, RELOCKS,
the event record, and the waiting entry resumes (R203 to R206, R228). -/
def execFeLinkLocked (f fifoLat : Nat) (s : State) : Out :=
  fin (if f < 2 ∧ s.get (FE_STATUS_LINK f) = 1 ∧ 3 ≤ (s.feSt f).goodFrames then
    let s := s.puts [(FE_STATUS_LINK f, 2), (FE_LINK_FIFO_LAT f, fifoLat)]
    let s := (s.bump (FE_CNT_RELOCKS f)).record .feRelock [f]
    let s := s.setFe f { s.feSt f with badFrames := 0, relocked := true, first1 := true, first5 := true, dcSums := [] }
    s.acqResume f
  else s)

/-- The edges of each sample period, e0 to e3; an edge carries D0 to D3 in bits 0 to 3 and FRM in bit 4 (R198, R199). -/
def edgeQuads : List Nat → List (Nat × Nat × Nat × Nat)
  | a :: b :: c :: d :: t => (a, b, c, d) :: edgeQuads t
  | _ => []

/-- FRM is 1, 1, 0 on e0 to e2 (R199). -/
def frmGood (q : Nat × Nat × Nat × Nat) : Bool := bitOf q.1 4 && bitOf q.2.1 4 && !bitOf q.2.2.1 4

/-- The level that pair `d` carries in a sample period, most significant bit first (R198, R199). -/
def edgeLevel (d : Nat) (q : Nat × Nat × Nat × Nat) : Int :=
  let b := fun e => b2n (bitOf e d)
  2 * ((8 * b q.1 + 4 * b q.2.1 + 2 * b q.2.2.1 + b q.2.2.2 : Nat) : Int) - 15

/-- The status frame of 64 samples: bit k on e3 of sample k (R199, R200). -/
def statusBits (l : List (Nat × Nat × Nat × Nat)) : Nat := l.foldr (fun q v => b2n (bitOf q.2.2.2 4) + 2 * v) 0

/-- The samples of a frame: I and Q of L1, then of L5. -/
def frameLevels (l : List (Nat × Nat × Nat × Nat)) : List (Int × Int × Int × Int) :=
  l.map (fun q => (edgeLevel 0 q, edgeLevel 1 q, edgeLevel 2 q, edgeLevel 3 q))

/-- The sum of quadruples. -/
def sum4 (l : List (Int × Int × Int × Int)) : Int × Int × Int × Int :=
  l.foldl (fun a b => (a.1 + b.1, a.2.1 + b.2.1, a.2.2.1 + b.2.2.1, a.2.2.2 + b.2.2.2)) (0, 0, 0, 0)

/-- The DC estimate: the mean over the last 2^20 samples, or over those since the entry to LOCKED while they are fewer (R206). -/
def FeState.dcMean (x : FeState) : Rat × Rat × Rat × Rat :=
  let n : Rat := ((64 * x.dcSums.length : Nat) : Rat)
  let v := sum4 x.dcSums
  ((v.1 : Rat) / n, (v.2.1 : Rat) / n, (v.2.2.1 : Rat) / n, (v.2.2.2 : Rat) / n)

/-- A LOCKED link's samples go to the correlators, less the DC estimate with DC_REMOVE (R203, R206). -/
def State.feSamples (s : State) (f : Nat) (l : List (Int × Int × Int × Int)) : State :=
  let x := s.feSt f
  let x := { x with dcSums := (sum4 l :: x.dcSums).take 16384 }
  let m : Rat × Rat × Rat × Rat := if s.bit (FE_CTRL_DC_REMOVE f) then x.dcMean else (0, 0, 0, 0)
  s.setFe f { x with corr := l.map (fun v => ((v.1 : Rat) - m.1, (v.2.1 : Rat) - m.2.1, (v.2.2.1 : Rat) - m.2.2.1, (v.2.2.2 : Rat) - m.2.2.2)) }

/-- The fields of a good status frame (R200). -/
def State.feFields (s : State) (f frame : Nat) : State :=
  (s.puts [(FE_STATUS_GAIN_L1 f, bits frame 21 16), (FE_STATUS_GAIN_L5 f, bits frame 27 22),
    (FE_STATUS_OVR_L1 f, bits frame 28 28), (FE_STATUS_OVR_L5 f, bits frame 29 29),
    (FE_STATUS_FE_PLL_LOCK f, bits frame 30 30), (FE_STATUS_BIAS_ON f, bits frame 31 31),
    (FE_STATUS_TEMP f, bits frame 39 32), (FE_LINK_CTL_ACK f, bits frame 47 40)]).ctlPend f

/-- A frame in HUNT: 64 samples in succession with a correct FRM, then status frames with a correct SYNC and CRC (R203). -/
def State.huntFrame (s : State) (f : Nat) (l : List (Nat × Nat × Nat × Nat)) : State :=
  let x := s.feSt f
  let r := l.foldl (fun (r : Nat × Bool) q => let n := if frmGood q then min (r.1 + 1) 64 else 0; (n, r.2 || n == 64)) (x.frmRun, x.frmOk)
  s.setFe f { x with frmRun := r.1, frmOk := r.2
                     goodFrames := if x.frmOk && linkFrameOk 0x9A6C (statusBits l) then x.goodFrames + 1 else 0 }

/-- A frame of a LOCKED link (R203, R204, R206). -/
def State.lockedFrame (s : State) (f : Nat) (l : List (Nat × Nat × Nat × Nat)) : State :=
  let frame := statusBits l
  let viol := (l.filter (fun q => !frmGood q)).length
  let s := (s.feSamples f (frameLevels l)).bump (FE_CNT_ALIGN_ERR f) viol
  let s := if linkFrameOk 0x9A6C frame then (s.feFields f frame).setFe f { s.feSt f with badFrames := 0 }
    else (s.bump (FE_CNT_CRC_ERR f)).setFe f { s.feSt f with badFrames := (s.feSt f).badFrames + 1 }
  if 8 ≤ viol ∨ 4 ≤ (s.feSt f).badFrames then (s.put (FE_STATUS_LINK f) 1).feUnlock f else s

/-- FE_STATUS_FRAME: the 256 edges of one 64-sample frame (R198 to R204, R206). -/
def execFeStatusFrame (f : Nat) (edges : List Nat) (s : State) : Out :=
  fin (if f < 2 then
    let s := (s.setFe f { s.feSt f with clkOk := true }).feHunt f
    let l := edgeQuads edges
    if s.get (FE_STATUS_LINK f) = 2 then s.lockedFrame f l else if s.get (FE_STATUS_LINK f) = 1 then s.huntFrame f l else s
  else s)

/-- FE_CTL_FRAME_APPLY: the frame being sent reaches the front end with the bits of `err` inverted, which applies it only with SYNC and CRC
right; SEQ comes back as CTL_ACK in a later status frame (R201, R202). CTL is driven while EN is set. -/
def execFeCtlFrameApply (f err : Nat) (s : State) : Out :=
  fin (if f < 2 ∧ s.bit (FE_CTRL_EN f) then
    let frame := s.ctlFrame f ^^^ (err % 2 ^ 64)
    let s := s.emit (.feCtl f frame)
    if linkFrameOk 0x5C93 frame then
      { s with feExt := if f = 0 then { s.feExt with ctl0 := bits frame 47 16 } else { s.feExt with ctl1 := bits frame 47 16 } }
    else s
  else s)

/-! ## Antenna feed -/

/-- The state that a window's mean gives, with the hysteresis of the state in force (R209): 0 OFF, 1 NORMAL, 2 OPEN,
3 SHORT. -/
def antState (bias : Bool) (now mean openMa shortMa : Nat) : Nat :=
  if !bias then 0
  else if mean < openMa ∨ (now = 2 ∧ 10 * mean ≤ 11 * openMa) then 2
  else if shortMa < mean ∨ (now = 3 ∧ 9 * shortMa ≤ 10 * mean) then 3
  else 1

/-- The state filter of R209: a change needs three consecutive windows that agree. -/
def State.antFilter (s : State) (f new : Nat) : State :=
  let x := s.feSt f
  if new = s.get (ANT_STATUS_STATE f) then s.setFe f { x with antCand := new, antCount := 0 }
  else
    let n := if x.antCand = new then x.antCount + 1 else 1
    if n < 3 then s.setFe f { x with antCand := new, antCount := n }
    else
      let s := s.setFe f { x with antCand := new, antCount := 0 }
      (s.puts [(ANT_STATUS_STATE f, new), (ANT_STATUS_CHANGED f, 1)]).record .antChange [f, new]

/-- The bias trips (R210). -/
def State.antTripped (s : State) (f : Nat) : State :=
  (s.setFe f { s.feSt f with tripped := true, retry := 0, biasLow := false, tripAt := s.ply }).bump (ANT_STATUS_TRIPS f)

/-- The trip rule of R210 after a window, for the state before it. -/
def State.antTrip (s : State) (f before : Nat) : State :=
  let x := s.feSt f
  let now := s.get (ANT_STATUS_STATE f)
  if x.tripped then
    if x.retry = 0 then s
    else if x.retry = 1 then
      if now = 3 then s.antTripped f
      else s.setFe f { x with retry := 0, tripped := false }
    else s.setFe f { x with retry := x.retry - 1 }
  else if s.bit (ANT_CFG_AUTO_OFF f) && now == 3 && before != 3 then
    s.antTripped f
  else s

/-- ANT_WINDOW_END: the conversions of a 100 ms window, 12 bits over 0 to 1.2 V at 10 mV per mA, so that a step is 75/256 of 0.1 mA (R66,
R208 to R210). CURRENT takes the mean, and the state the exact one. -/
def execAntWindowEnd (f : Nat) (conv : List Nat) (s : State) : Out :=
  fin (if f < 2 ∧ conv ≠ [] then
    let before := s.get (ANT_STATUS_STATE f)
    let sum := 75 * (conv.map (· % 4096)).sum
    let one := 256 * conv.length
    let new := antState (s.bit (FE_STATUS_BIAS_ON f)) before sum (one * s.get (ANT_CFG_OPEN_MA f)) (one * s.get (ANT_CFG_SHORT_MA f))
    State.ctlAfter s f (((s.put (ANT_STATUS_CURRENT f) (quant (sum : Int) one).toNat).antFilter f new).antTrip f before)
  else s)

/-- ANT_BIAS_RETRY: RETRY_S seconds after a trip, BIAS_EN is sent for three windows; never with RETRY_S 0 (R210). -/
def execAntBiasRetry (f : Nat) (s : State) : Out :=
  fin (if f < 2 ∧ (s.feSt f).tripped ∧ (s.feSt f).retry = 0 ∧ s.get (ANT_CFG_RETRY_S f) ≠ 0 ∧
      (s.feSt f).tripAt + 100000 * s.get (ANT_CFG_RETRY_S f) ≤ s.ply then
    State.ctlAfter s f (s.setFe f { s.feSt f with retry := 3 })
  else s)

/-! ## Live calibration -/

/-- The seed of a CALTONE code (R211). -/
def calSeed (f : Nat) : Nat := if f = 0 then 0x0001 else 0x1A5F

/-- One chip of the code generator: the next state (R211). -/
def calNext (x : Nat) : Nat :=
  x * 2 % 2 ^ 14 + b2n ((bitOf x 13 != bitOf x 4) != (bitOf x 2 != bitOf x 0))

/-- Chip `n` of a CALTONE code (R211). -/
def calChipGo : Nat → Nat → Bool
  | 0, x => bitOf x 13
  | n + 1, x => calChipGo n (calNext x)
def calChip (f n : Nat) : Bool := calChipGo (n % 10000) (calSeed f)

/-- The chip on a CALTONE pair `cyc` cycles of CLK_GFE into the ply: 20 cycles each, from chip 0 at each start; none: high impedance
(R211). -/
def State.caltone (s : State) (f cyc : Nat) : Option Bool :=
  if s.bit (CAL_CTRL_EN f) then (s.feSt f).calAt.map (fun p => calChip f (((s.ply - p) * 2000 + cyc) / 20)) else none

/-- A period of the CALTONE code begins with ply `p`: its start, as the device records it, at the ball (R211). -/
def State.calBegin (s : State) (f p : Nat) : State := s.setFe f { s.feSt f with calStart := p * 10000000 + Config.calDelay f }

/-- CAL_CTRL has been written: CALTONE begins with the ply in which EN is set, or becomes high-impedance (R211). -/
def State.calHook (s0 s : State) (f : Nat) : State :=
  if s0.bit (CAL_CTRL_EN f) == s.bit (CAL_CTRL_EN f) then s
  else if s.bit (CAL_CTRL_EN f) then (s.setFe f { s.feSt f with calAt := some s.ply }).calBegin f s.ply
  else s.setFe f { s.feSt f with calAt := none }

/-- At the end of a ply, CALTONE starts again at chip 0 where 200 000 cycles of CLK_GFE are over (R211). -/
def State.calPly (s : State) (f : Nat) : State :=
  match (s.feSt f).calAt with
  | some p => if (s.ply + 1 - p) % 100 = 0 then s.calBegin f (s.ply + 1) else s
  | none => s

/-- The variance of every ionosphere state of every member is set to IONO_SD² (R337). -/
def State.ionoVarReset (s : State) : State :=
  { s with fix := { s.fix with filters := s.fix.filters.map (fun e => (e.1, { e.2 with ionoReset := true })) } }

/-- One band's second (R213, R214, R216): a valid value is published, with STEP against the value before it. -/
def State.calBand (s : State) (f : Nat) (loop vld cn0 : Fld) (first valid : Bool) (m : CalMeas) : State :=
  let s := s.put cn0 m.cn0
  if !valid then s.put vld 0
  else
    let v := quant m.loops.sum m.loops.length
    let d := v - s.getS loop
    let jump := !first && (decide ((s.get (CAL_CTRL_STEP f) : Int) * 100 < d) ||
      decide ((s.get (CAL_CTRL_STEP f) : Int) * 100 < -d))
    let s := (s.put vld 1).putS loop v
    if jump then ((s.put (CAL_STATUS_STEP f) 1).record .calStep [f]).ionoVarReset else s

/-- The derived values, when both bands publish in the same second (R215). -/
def State.calDerive (s : State) (f : Nat) : State :=
  let a := s.getS (CAL_LOOP_L1_LOOP f)
  let b := s.getS (CAL_LOOP_L5_LOOP f)
  let fwd : Int := s.get (CAL_FWD_FWD f)
  ((s.putS (CAL_IFB_IFB f) (a - b - s.getS (CAL_CTRL_INJ_SKEW f))).putS (CAL_RX_L1_RX_DELAY f) (a - fwd)).putS
    (CAL_RX_L5_RX_DELAY f) (b - fwd)

/-- A band's one-second value is valid (R214). A calibration channel runs while EN is set and the link is LOCKED, and its loop holds a
code it has acquired within 0 to 20 µs (R213). -/
def State.calValid (s : State) (f : Nat) (m : CalMeas) : Bool :=
  s.bit (CAL_CTRL_EN f) && s.get (FE_STATUS_LINK f) == 2 && !(s.feSt f).relocked && m.held && decide (80 ≤ m.cn0) &&
  !m.loops.isEmpty && m.loops.all (fun x => decide (0 ≤ x ∧ x ≤ 20000000))

/-- CAL_SECOND (R214 to R216). -/
def execCalSecond (f : Nat) (l1 l5 : CalMeas) (s : State) : Out :=
  fin (if f < 2 then
    let v1 := s.calValid f l1
    let v5 := s.calValid f l5
    let x := s.feSt f
    let s := s.calBand f (CAL_LOOP_L1_LOOP f) (CAL_STATUS_VALID_L1 f) (CAL_STATUS_CN0_L1 f) x.first1 v1 l1
    let s := s.calBand f (CAL_LOOP_L5_LOOP f) (CAL_STATUS_VALID_L5 f) (CAL_STATUS_CN0_L5 f) x.first5 v5 l5
    let s := if v1 || v5 then s.put (CAL_STATUS_AGE f) 0 else s.bump (CAL_STATUS_AGE f)
    let s := if v1 && v5 then s.calDerive f else s
    let s := if f = 0 ∧ v1 ∧ v5 ∧ !x.ifbUse then s.ionoVarReset else s
    s.setFe f { x with relocked := s.get (FE_STATUS_LINK f) != 2, first1 := x.first1 && !v1, first5 := x.first5 && !v5,
                       ifbUse := x.ifbUse || (v1 && v5), ifbPly := if v1 && v5 then s.ply else x.ifbPly }
  else s)

/-! ## The acquisition list -/

/-- ACQ_ENTRY_SUBMIT (R225). -/
def execAcqEntrySubmit (ini n : Nat) (s : State) : Out :=
  fin (if n < 64 then s.asWrite ini (acqStateAddr n) (State.acqSubmit n) else s)

/-- ACQ_ENTRY_CANCEL (R224). -/
def execAcqEntryCancel (ini n : Nat) (s : State) : Out :=
  fin (if n < 64 then s.asWrite ini (acqStateAddr n) (State.acqCancel n) else s)

/-- ACQ_ENTRY_CLEAR (R224). -/
def execAcqEntryClear (ini n : Nat) (s : State) : Out :=
  fin (if n < 64 then s.asWrite ini (acqStateAddr n) (State.acqClear n) else s)

/-- The entry the free engine takes: the lowest PENDING with REACQ, else the lowest PENDING (R226). -/
def State.acqNext (s : State) : Option Nat :=
  match (List.range 64).find? (fun n => s.get (ACQ_ENT_W3_STATE n) == 1 && s.bit (ACQ_ENT_W0_REACQ n)) with
  | some n => some n
  | none => (List.range 64).find? (fun n => s.get (ACQ_ENT_W3_STATE n) == 1)

/-- ACQ_ENTRY_SELECT (R226): the entry goes on from its place; a reacquisition entry that begins has the window of its age (R232); an
entry that breaks R219 by now ends ERROR (R225); without a LOCKED link it waits (R228, log 124). -/
def execAcqEntrySelect (s : State) : Out :=
  fin (match s.acqServing, s.acqNext with
    | none, some n =>
      if !s.bit ACQ_CTRL_EN then s
      else if s.acqBadParam n then s.acqEnd n 7 3
      else
        let s := match s.lossOf (s.get (ACQ_ENT_W0_CHANNEL n)) with
          | some l => if s.bit (ACQ_ENT_W0_REACQ n) && (s.acqPos n).dwell == 0 then s.reacqWindow n l else s
          | none => s
        let locked := s.get (FE_STATUS_LINK (s.get (ACQ_ENT_W0_FE n))) == 2
        let s := s.puts [(ACQ_ENT_W3_STATE n, 2), (ACQ_STATUS_ENTRY, n), (ACQ_STATUS_BUSY, b2n locked)]
        { s with gnss := { s.gnss with acq := { s.gnss.acq with waitAt := if locked then none else some s.ply } } }
    | _, _ => s)

/-- A channel leaves IDLE or RESERVED for PULL_IN from a code phase and a Doppler in Hz: everything the loop processor and the status hold
starts anew (R245, R248, R250). With WIPE, a signal with a secondary code begins in secondary sync, at level 1 and the T_INT that allows
(R239, R254, R255). A CARR_LOCK that clears here counts a slip (R244). -/
def State.chPullIn (s : State) (c code : Nat) (dopp : Rat) (wiped : Bool) : State :=
  let sg := s.get (CH_CFG_SIGNAL c)
  let sec := wiped && !sigData sg
  let t := s.get (CH_CFG_TINT_MS c)
  let slips := s.get (CH_CNT_SLIP_CNT c) + s.get (CH_STATUS_CARR_LOCK c)
  let s := s.puts [(CH_STATUS_STATE c, 2), (CH_STATUS_LOSS_CAUSE c, 0), (CH_STATUS_TINT_NOW c, if sec then t else min t (sigPrim sg)),
    (CH_STATUS_TIME_LEVEL c, b2n sec), (CH_STATUS_CODE_LOCK c, 0), (CH_STATUS_CARR_LOCK c, 0), (CH_STATUS_BIT_SYNC c, 0),
    (CH_STATUS_SEC_SYNC c, b2n sec), (CH_STATUS_NAV_SYNC c, 0), (CH_STATUS_HALF_UNRES c, b2n (sigData sg)),
    (CH_STATUS_PLL_ON c, 0), (CH_CN0_CN0 c, 0), (CH_CN0_PLI c, 0), (CH_LOCKT_LOCK_MS c, 0), (CH_CODE_CODE c, code),
    (CH_CARR_LO_PHASE c, 0), (CH_CARR_HI_PHASE c, 0), (CH_CNT_SLIP_CNT c, slips)]
  (s.putS (CH_DOPP_DOPP c) (quantQ (dopp * 1024))).setCh c { acc1 := dopp, fCarr := dopp, prevSlip := (s.chSt c).prevSlip, pullAt := s.ply }

/-- A search ends exhausted (R222). -/
def State.acqExhaust (s : State) (n : Nat) : State := (s.acqEnd n 5 1).reacqAgain n

/-- The next dwell of an entry, or its end with cause EXHAUSTED (R222). -/
def State.acqAdvance (s : State) (n : Nat) : State :=
  let p := s.acqPos n
  if s.acqPasses n * s.acqBins n ≤ p.dwell + 1 then s.acqExhaust n
  else (s.setPos n { dwell := p.dwell + 1 }).put (ACQ_ENT_W3_STATE n) 2

/-- DOPP_HALF of a search without better knowledge, for an uncertainty in ppb (R220). -/
def doppHalf (sg : Nat) (ppb : Rat) : Nat := ceilQ (5000 * (sigBand sg : Rat) / 1575420000 + freqUnc sg ppb)

/-- The first FOUND of a cold start: the entries that remain are built again with the uncertainty that is left once the oscillator's offset
is measured, a value the spec does not give (R229, log 124). -/
def State.coldRebuild (s : State) : State :=
  if s.gnss.cold then
    let u : Rat := s.freeVal
    let s := { s with gnss := { s.gnss with cold := false, osc := u } }.useFree
    (List.range 64).foldl (fun s n =>
      if s.get (ACQ_ENT_W3_STATE n) = 1 ∧ !s.bit (ACQ_ENT_W0_REACQ n) then
        ((s.acqCancel n).put (ACQ_ENT_W2_DOPP_HALF n) (min (doppHalf (s.get (ACQ_ENT_W0_SIGNAL n)) u) 65535)).acqSubmit n else s) s
  else s

/-- The M-th pass: the entry is FOUND and its channel starts from the hit cell's centre and the hit bin's (R222, R223). -/
def State.acqFound (s : State) (n : Nat) : State :=
  let c := s.get (ACQ_ENT_W0_CHANNEL n)
  let cell := s.get (ACQ_RES_W0_CELL n)
  let code := if sigBoc (s.get (ACQ_ENT_W0_SIGNAL n)) then cell * 2 ^ 14 else cell * 2 ^ 15
  let dopp := s.acqBinHz n ((s.acqPos n).dwell / s.acqPasses n)
  let s := (s.puts [(ACQ_ENT_W3_STATE n, 4), (ACQ_ENT_W3_CAUSE n, 0), (ACQ_STATUS_BUSY, 0)]).bump ACQ_CNT_FOUND
  let s := { s with gnss := { s.gnss with acq := { s.gnss.acq with pos := s.gnss.acq.pos.filter (fun e => e.1 ≠ n) } } }
  let s := s.withLost (s.gnss.lost.filter (fun x => x.ch != c))
  (s.chPullIn c code dopp (s.bit (ACQ_ENT_W0_WIPE n))).coldRebuild

/-- One verification dwell (R222). -/
def State.acqVerify (s : State) (n : Nat) (pass : Bool) : State :=
  let p := s.acqPos n
  let p := { p with verRun := p.verRun + 1, verPass := p.verPass + b2n pass }
  let m := s.get ACQ_CTRL_VERIFY_M
  let s := s.setPos n p
  if m ≤ p.verPass then s.acqFound n
  else if s.get ACQ_CTRL_VERIFY_N - p.verRun < m - p.verPass then (s.bump ACQ_CNT_VERIFY_FAIL).acqAdvance n
  else s

/-- The larger of two cells' statistics with its index; the first of equal ones. -/
def maxCell (l : List (Nat × Nat)) : Nat × Nat := l.foldl (fun a b => if a.2 < b.2 then b else a) (0, 0)

/-- A list without its `k` largest values. -/
def dropLargest : Nat → List Nat → List Nat
  | 0, l => l
  | k + 1, l => dropLargest k (l.erase (l.foldl max 0))

/-- The sum and the number of the cells that the noise estimate N is the mean of (R221). -/
def State.acqNoise (s : State) (stats : List Nat) : Nat × Nat :=
  let l := dropLargest (s.get ACQ_CTRL_EXCLUDE) stats
  (l.sum, l.length)

/-- S / N exceeds THRESH of the entry's NNC (R221). -/
def State.acqHit (s : State) (n v : Nat) (noise : Nat × Nat) : Bool :=
  decide (s.get (ACQ_THRESH_THRESH (s.get (ACQ_ENT_W0_NNC n))) * noise.1 < 256 * v * noise.2)

/-- S / N as UQ8.8, which stops at its maximum. -/
def peakOf (v : Nat) (noise : Nat × Nat) : Nat :=
  if noise.1 = 0 then 0xFFFF else min (quant ((256 * v * noise.2 : Nat) : Int) noise.1).toNat 0xFFFF

/-- The cells of the window in a dwell's block: pass `p` covers 4096 cells from CODE_START on, the last pass the remainder (R217). -/
def State.acqInWindow (s : State) (n p : Nat) : Nat :=
  let k := s.get (ACQ_ENT_W1_CODE_CELLS n)
  min 4096 ((if k = 0 then sigCells (s.get (ACQ_ENT_W0_SIGNAL n)) else k) - 4096 * p)

/-- A search dwell: the window cell with the largest S, and a hit or the next dwell (R217, R221, R222). -/
def State.acqSearch (s : State) (n : Nat) (stats : List Nat) : State :=
  let p := s.acqPos n
  let pass := p.dwell % s.acqPasses n
  let best := maxCell (((List.range stats.length).zip stats).take (s.acqInWindow n pass))
  let noise := s.acqNoise stats
  if s.acqHit n best.2 noise then
    let cell := (s.get (ACQ_ENT_W1_CODE_START n) + 4096 * pass + best.1) % sigCells (s.get (ACQ_ENT_W0_SIGNAL n))
    let s := s.puts [(ACQ_RES_W0_CELL n, cell), (ACQ_RES_W1_PEAK n, peakOf best.2 noise), (ACQ_ENT_W3_STATE n, 3)]
    (s.putS (ACQ_RES_W0_DOPP n) (quantQ (s.acqBinHz n (p.dwell / s.acqPasses n)))).setPos n { p with verRun := 0, verPass := 0 }
  else s.acqAdvance n

/-- A verification dwell's block is centred on the hit cell: it passes when that cell or a neighbour exceeds THRESH (R222). -/
def State.acqNear (s : State) (n : Nat) (stats : List Nat) : Bool :=
  let h := stats.length / 2
  s.acqHit n (((stats.drop (h - 1)).take 3).foldl max 0) (s.acqNoise stats)

/-- ACQ_DWELL_END: the detection statistics S of the block's cells, in the order of the block (R217, R221 to R223). -/
def execAcqDwellEnd (stats : List Nat) (s : State) : Out :=
  fin (match s.acqServing with
    | none => s
    | some n =>
      if !s.bit ACQ_STATUS_BUSY then s
      else
        let s := s.bump (ACQ_RES_W1_DWELLS n)
        if s.get (ACQ_ENT_W3_STATE n) = 3 then s.acqVerify n (s.acqNear n stats) else s.acqSearch n stats)

/-- ACQ_LINK_WAIT_EXPIRY: 1 s without the link (R228). -/
def execAcqLinkWaitExpiry (s : State) : Out :=
  fin (match s.acqServing, s.gnss.acq.waitAt with
    | some n, some p => if p + 100000 ≤ s.ply then (s.acqEnd n 5 2).reacqAgain n else s
    | _, _ => s)

/-! ## Starts (R101 to R103, R229) -/

/-- The hot-start block is valid: its flag is set and its CRC-32C matches (R101). -/
def State.hotOk (s : State) : Bool := s.pwr.hotValid && crc32c s.pwr.hotBytes == s.pwr.hotCrc

/-- The time uncertainty at wake in s: 1 ms and 20 ppm of the time since the block was written (R102). -/
def State.hotUnc (s : State) : Rat := 1 / 1000 + 20 / 1000000 * ((s.pwr.aon - s.pwr.hotAt : Nat) : Rat) / 32768

/-- The start type (R103, R229): 0 hot, 1 warm, 2 cold; `alm` days of almanac, the antenna `moved` m. -/
def State.startType (s : State) (alm moved : Nat) : Nat :=
  if !s.hotOk then 2
  else if s.hotUnc ≤ 2 ∧ alm ≤ 90 ∧ moved ≤ 1000 then 0
  else if s.hotUnc ≤ 60 ∧ alm ≤ 180 ∧ moved ≤ 100000 then 1
  else 2

/-- An item is put before the first that stands lower. -/
def skyIns (e : SkySig) : List SkySig → List SkySig
  | [] => [e]
  | g :: t => if g.elev < e.elev then e :: g :: t else g :: skyIns e t

/-- The signals that a start searches first: those of the L1 band predicted above 5°, in descending order of elevation, or in a cold start
GPS and QZSS L1 C/A, every PRN (R229, R235). -/
def startSignals (typ : Nat) (sky : List SkySig) : List SkySig :=
  if typ = 2 then (List.range 32).map (fun i => ⟨0, i + 1, 0, 0⟩) ++ (List.range 10).map (fun i => ⟨6, i + 193, 0, 0⟩)
  else (sky.filter (fun e => sigL1 e.sig && decide (5 < e.elev))).foldl (fun l e => skyIns e l) []

/-- DOPP_HALF of a start in Hz, for the uncertainty `ppb` (R220, R229). -/
def startHalf (typ sg : Nat) (ppb : Rat) : Nat :=
  if typ = 2 then doppHalf sg ppb else ceilQ ((if typ = 0 then 50 else 500) + freqUnc sg ppb)

/-- The thresholds of R221's table, where the firmware finds none. -/
def State.threshDefault (s : State) : State :=
  [(1, 0x0DD2), (2, 0x085A), (4, 0x0557)].foldl (fun s (e : Nat × Nat) =>
    if s.get (ACQ_THRESH_THRESH e.1) = 0 then s.put (ACQ_THRESH_THRESH e.1) e.2 else s) s

/-- The firmware's start: the start type from the hot-start block, HOTSTART_INVALID where the block is not, and the search list, FE_A's
entries first (R101, R229; log 124). -/
def State.gnssStart (s : State) (alm moved : Nat) (sky : List SkySig) : State :=
  let s := if s.hotOk then s else s.record .hotstartInvalid
  if s.domOff 7 then s
  else
    let typ := s.startType alm moved
    let u : Rat := if typ = 2 then s.get ACQ_REFTOL_PPB else Config.hotOsc s.pwr.hotBytes
    let s := { s.threshDefault with gnss := { s.threshDefault.gnss with cold := typ == 2, osc := u } }
    [0, 1].foldl (fun s f => (startSignals typ sky).foldl (fun s e =>
      if s.sigOn f e.sig && !s.sigBusy f e.sig e.prn then s.searchEntry f e.sig e.prn 0 none e.dopp (startHalf typ e.sig u) else s) s) s

/-- Clearing ACQ_CTRL.EN: the dwell is discarded and the entry returns to PENDING, keeping its place (R226, R228). -/
def State.acqDisable (s : State) : State :=
  match s.acqServing with
  | none => s
  | some n =>
    let s := s.puts [(ACQ_ENT_W3_STATE n, 1), (ACQ_STATUS_BUSY, 0)]
    let s := s.setPos n { s.acqPos n with verRun := 0, verPass := 0 }
    { s with gnss := { s.gnss with acq := { s.gnss.acq with waitAt := none } } }

/-- A write to ACQ_CTRL: VERIFY_M above VERIFY_N, or either outside 1 to 8, is a reserved encoding (R15). -/
def State.acqCtrl (data : Nat) (s : State) : State :=
  let n := bits data 15 12
  let m := bits data 11 8
  if n < 1 ∨ 8 < n ∨ m < 1 ∨ n < m then s
  else
    let was := s.bit ACQ_CTRL_EN
    let s := s.puts [(ACQ_CTRL_EN, bits data 31 31), (ACQ_CTRL_VERIFY_N, n), (ACQ_CTRL_VERIFY_M, m),
      (ACQ_CTRL_EXCLUDE, bits data 7 0)]
    if was && !bitOf data 31 then s.acqDisable else s

/-- ACQ_ENGINE_DISABLE: a write to ACQ_CTRL that clears EN (R228). -/
def execAcqEngineDisable (ini data : Nat) (s : State) : Out :=
  fin (if bitOf data 31 then s else s.asWrite ini 0x40100800 (State.acqCtrl data))

end Sys2Proof.Machine
end

