-- ==== Sys2Proof/Machine/Track.lean ====
section
/-!
DEFINITION. Tracking channels: the loop update of R241 to R245 with its lock indicators and synchronisation, starts,
stops and losses, navigation data, and the GNSS opcodes (spec/08). The strobe and the record are in Machine/Observe.lean.
-/

namespace Sys2Proof.Machine

open R

/-! ## The loop update -/

/-- Largest TINT_MS that the sync state allows, against CH_CFG.TINT_MS (R238, R239). -/
def State.tintNow (s : State) (c : Nat) : Nat :=
  let sg := s.get (CH_CFG_SIGNAL c)
  let t := s.get (CH_CFG_TINT_MS c)
  if s.bit (CH_STATUS_BIT_SYNC c) || s.bit (CH_STATUS_SEC_SYNC c) then t else min t (sigPrim sg)

/-- Total-power offset in dB/100 (R238). -/
def sigOffset (c : Nat) : Nat := [0, 301, 301, 301, 125, 301, 0, 301, 0].getD c 0

/-- The two-quadrant form of R241, within -1/4 to 1/4: with the denominator 0, the range limit with the numerator's sign. -/
def atanForm (y x : Int) : Rat :=
  if x = 0 then (if 0 < y then 1 / 4 else if y < 0 then -1 / 4 else clampQ (-1 / 4) (1 / 4) (Config.atanCycles y x))
  else
    let b := if 0 < x then turnBounds x y else turnBounds (-x) (-y)
    clampQ b.1 b.2 (Config.atanCycles y x)

/-- A phase or frequency angle of R241 in cycles: four-quadrant on pilots, two-quadrant on data components. The number is the
arctangent's within 2^-8 of a cycle (log 13). -/
def loopAngle (data : Bool) (y x : Int) : Rat :=
  if data then atanForm y x else clampQ (turnBounds x y).1 (turnBounds x y).2 (Config.atan2Cycles y x)

/-- Squared envelope of a tap. -/
def pow2 (i q : Int) : Nat := (i * i + q * q).toNat

/-- `(|E| − |L|) / (|E| + |L|)` of two squared envelopes, within what the square roots' bounds leave (R241, log 13). -/
def envError (e2 l2 : Nat) : Rat :=
  let e := sqrtBounds e2
  let l := sqrtBounds l2
  if e2 = 0 ∧ l2 = 0 then clampQ (-1) 1 (Config.envelopeError e2 l2)
  else clampQ ((e.1 - l.2) / (e.1 + l.2)) ((e.2 - l.1) / (e.2 + l.1)) (Config.envelopeError e2 l2)

/-- `e_c` of R241, with G for d = EL/64. -/
def codeError (boc : Bool) (el : Nat) (a : Accums) : Rat :=
  let d : Rat := (el : Rat) / 64
  (if boc then (2 - 3 * d) / 6 else (2 - d) / 2) * envError (pow2 a.eI a.eQ) (pow2 a.lI a.lQ)

/-- The filter equations of R245 with the coefficients scaled by TINT_NOW. -/
def State.loopFilter (s : State) (c : Nat) (x : ChState) (ep ef ec : Rat) : ChState :=
  let t : Rat := (s.get (CH_STATUS_TINT_NOW c) : Rat)
  let q16 := fun f => ((s.get f : Nat) : Rat) / 65536
  let q30 := fun f => ((s.get f : Nat) : Rat) / 1073741824
  let sg := s.get (CH_CFG_SIGNAL c)
  let a2 := x.acc2 + q30 (CH_C3_COEF c) * t * t * ep + q30 (CH_F2_COEF c) * t * t * ef
  let a1 := x.acc1 + a2 + q30 (CH_C2_COEF c) * t * ep + q30 (CH_F1_COEF c) * t * ef
  let f := a1 + q16 (CH_C1_COEF c) * ep
  let ac := x.accc + q30 (CH_K2_COEF c) * t * ec
  { x with acc2 := a2, acc1 := a1, fCarr := f, accc := ac
           fCode := (sigChip sg : Rat) * (1 + f / (sigBand sg : Rat)) + ac + q16 (CH_K1_COEF c) * ec }

/-- The discriminators of R241 and the filters of R245. -/
def State.loopStep (s : State) (c : Nat) (a : Accums) : State :=
  let x := s.chSt c
  let data := sigData (s.get (CH_CFG_SIGNAL c))
  let t : Rat := (s.get (CH_STATUS_TINT_NOW c) : Rat) / 1000
  let ep := if s.get (CH_STATUS_STATE c) = 2 ∧ s.get (CH_STATUS_PLL_ON c) = 0 then 0 else loopAngle data a.pQ a.pI
  let ef := loopAngle data (x.prevI * a.pQ - a.pI * x.prevQ) (x.prevI * a.pI + x.prevQ * a.pQ) / t
  let ec := codeError (sigBoc (s.get (CH_CFG_SIGNAL c))) (s.get (CH_SPACING_EL c)) a
  let y := s.loopFilter c x ep ef ec
  (s.putS (CH_DOPP_DOPP c) (quantQ (y.fCarr * 1024))).setCh c y

/-- The band's IF in Hz, of the channel's front end (R207): units of 100 MHz / 2^32. -/
def State.ifHz (s : State) (c : Nat) : Rat :=
  let f := s.get (CH_CFG_FE c)
  ((s.getS (if sigL1 (s.get (CH_CFG_SIGNAL c)) then FE_IF_L1_IF f else FE_IF_L5_IF f) : Int) : Rat) * 100000000 / 2 ^ 32

/-- The rate of a channel's carrier NCO in Hz: its band's IF plus its Doppler, so that a write of the IF is a frequency step at once
(R207, R245). -/
def State.ncoHz (s : State) (c : Nat) : Rat := s.ifHz c + (s.chSt c).fCarr

/-- The accumulations as the ACC registers hold them, saturated to 16 bits, and the NCOs as CH_CODE and CH_CARR show them (R257). -/
def State.putAccs (s : State) (c : Nat) (a : Accums) : State :=
  let p := fun (s : State) (f : Fld) (v : Int) => s.putS f (clampI (-32768) 32767 v)
  let s := p (p (p (p s (ACC_P_I c) a.pI) (ACC_P_Q c) a.pQ) (ACC_E_I c) a.eI) (ACC_E_Q c) a.eQ
  let s := p (p (p (p s (ACC_L_I c) a.lI) (ACC_L_Q c) a.lQ) (ACC_VE_I c) a.veI) (ACC_VE_Q c) a.veQ
  let s := p (p (p (p s (ACC_VL_I c) a.vlI) (ACC_VL_Q c) a.vlQ) (ACC_N_I c) a.nI) (ACC_N_Q c) a.nQ
  let s := p (p s (ACC_PD_I c) a.pdI) (ACC_PD_Q c) a.pdQ
  let ph := usgn 64 (a.carr + (s.chSt c).phOff)
  s.puts [(CH_CODE_CODE c, a.code % (sigChips (s.get (CH_CFG_SIGNAL c)) * 65536)), (CH_CARR_LO_PHASE c, ph % 2 ^ 32),
    (CH_CARR_HI_PHASE c, ph / 2 ^ 32)]

/-- The reported C/N0 of R242 in 1/16 dB-Hz; the logarithm lies between the integers about it (log 13). -/
def cn0Of (l : List (Nat × Nat)) (tMs off : Nat) : Nat :=
  let p := (l.map (·.1)).sum
  let n := (l.map (·.2)).sum
  if p ≤ n then 0
  else if n = 0 then 1023
  else
    let lin : Rat := ((p : Rat) - n) / ((n : Rat) * ((tMs : Rat) / 1000))
    let k : Rat := (floorLog lin : Int)
    (clampI 0 1023 (quantQ (clampQ k (k + 1) (Config.log10x160 lin) + (16 * off : Rat) / 100))).toNat

/-- C/N0, CODE_LOCK (R242, R243). -/
def State.loopPower (s : State) (c : Nat) (a : Accums) : State :=
  let x := s.chSt c
  let l := ((pow2 a.pI a.pQ, pow2 a.nI a.nQ) :: x.pow).take 255
  let v := cn0Of (l.take (s.get (CH_LOCK_CN0_N c))) (s.get (CH_STATUS_TINT_NOW c)) (sigOffset (s.get (CH_CFG_SIGNAL c)))
  (s.puts [(CH_CN0_CN0 c, v), (CH_STATUS_CODE_LOCK c, b2n (8 * s.get (CH_LOCK_CN0_MIN c) ≤ v))]).setCh c { x with pow := l }

/-- PLI and CARR_LOCK with the slip count and the lock time (R243, R244). -/
def State.loopLock (s : State) (c : Nat) (a : Accums) : State :=
  let x := s.chSt c
  let l := ((a.pI * a.pI - a.pQ * a.pQ, a.pI * a.pI + a.pQ * a.pQ) :: x.pli).take 20
  let num := (l.map (·.1)).sum
  let den := (l.map (·.2)).sum
  let s := s.putS (CH_CN0_PLI c) (if den = 0 then 0 else clampI (-32768) 32767 (quant (num * 32768) den.toNat))
  if s.bit (CH_STATUS_CARR_LOCK c) then
    if 256 * num < (s.get (CH_LOCK_PLI_OFF c) : Int) * den then
      (s.puts [(CH_STATUS_CARR_LOCK c, 0), (CH_CNT_SLIP_CNT c, s.get (CH_CNT_SLIP_CNT c) + 1),
        (CH_LOCKT_LOCK_MS c, 0)]).setCh c { x with pli := l, phSet := false }
    else (s.put (CH_LOCKT_LOCK_MS c) (s.get (CH_LOCKT_LOCK_MS c) + s.get (CH_STATUS_TINT_NOW c))).setCh c { x with pli := l }
  else if 0 < den ∧ (s.get (CH_LOCK_PLI_ON c) : Int) * den ≤ 256 * num then
    (s.puts [(CH_STATUS_CARR_LOCK c, 1), (CH_LOCKT_LOCK_MS c, 0)]).setCh c { x with pli := l }
  else s.setCh c { x with pli := l }

/-- TRACK is entered when CARR_LOCK is set with PLL_ON (R248). -/
def State.trackEntry (s : State) (c : Nat) : State :=
  if s.get (CH_STATUS_STATE c) = 2 ∧ s.bit (CH_STATUS_PLL_ON c) ∧ s.bit (CH_STATUS_CARR_LOCK c)
  then s.put (CH_STATUS_STATE c) 3 else s

/-- The ply since which the reported C/N0 of a channel in TRACK has been below CN0_MIN (R248). -/
def State.lowTrack (s : State) (c : Nat) : State :=
  let x := s.chSt c
  if s.get (CH_STATUS_STATE c) = 3 ∧ s.get (CH_CN0_CN0 c) < 8 * s.get (CH_LOCK_CN0_MIN c) then
    s.setCh c { x with lowAt := some (x.lowAt.getD s.ply) }
  else s.setCh c { x with lowAt := none }

/-- A step of the code phase by half a chip, early for VE, late for VL, within the primary code (R240). -/
def State.bump05 (s : State) (c : Nat) (early : Bool) : State :=
  let m := sigChips (s.get (CH_CFG_SIGNAL c)) * 65536
  let v := s.get (CH_CODE_CODE c)
  let x := s.chSt c
  ((s.put (CH_CODE_CODE c) ((if early then v + m - 32768 else v + 32768) % m)).bump (CH_CNT_BUMPS c)).setCh c
    { x with bumpE := 0, bumpL := 0, bumped := true }

/-- The bump count of a BOC channel (R240). -/
def State.codeBump (s : State) (c : Nat) (a : Accums) : State :=
  if sigBoc (s.get (CH_CFG_SIGNAL c)) && s.bit (CH_CFG_BUMP_EN c) then
    let x := s.chSt c
    let p := pow2 a.pI a.pQ
    let ve := decide (p < pow2 a.veI a.veQ)
    let vl := decide (p < pow2 a.vlI a.vlQ)
    let x := if !ve && !vl then { x with bumpE := x.bumpE - 1, bumpL := x.bumpL - 1 }
             else { x with bumpE := x.bumpE + b2n ve, bumpL := x.bumpL + b2n vl }
    let n := s.get (CH_TIME2_BUMP_N c)
    let s := s.setCh c x
    if n ≤ x.bumpE && ve then s.bump05 c true else if n ≤ x.bumpL && vl then s.bump05 c false else s
  else s

/-- Sync reached: TIME_LEVEL rises to 1 (R255). -/
def State.level1 (s : State) (c : Nat) : State := s.put (CH_STATUS_TIME_LEVEL c) (max 1 (s.get (CH_STATUS_TIME_LEVEL c)))

/-- The time of the bit count goes on by an integration; without a position that qualifies within 2 s it starts again (R253). -/
def State.bitTime (s : State) (c : Nat) (period : Nat) (l : List Nat) : State :=
  let x := s.chSt c
  let t := x.signMs + s.get (CH_STATUS_TINT_NOW c)
  if 2000 ≤ t then s.setCh c { x with signs := List.replicate period 0, signMs := 0 } else s.setCh c { x with signs := l, signMs := t }

/-- The bit or symbol period in ms (R253). -/
def bitPeriod (sg : Nat) : Nat := if sg = 8 then 2 else 20

/-- Bit or symbol sync from the prompt's sign changes (R253); an update that is skipped only lets the time go on. -/
def State.bitSync (s : State) (c : Nat) (a : Option Accums) : State :=
  let sg := s.get (CH_CFG_SIGNAL c)
  if sigData sg && !s.bit (CH_STATUS_BIT_SYNC c) then
    let x := s.chSt c
    let period := bitPeriod sg
    let l := if x.signs.length = period then x.signs else List.replicate period 0
    match a with
    | none => s.bitTime c period l
    | some a =>
      let l := if x.prevI * a.pI < 0 then l.set (x.signMs % period) (l.getD (x.signMs % period) 0 + 1) else l
      if 16 ≤ l.sum ∧ 6 * l.sum ≤ 10 * l.foldl max 0 then ((s.put (CH_STATUS_BIT_SYNC c) 1).level1 c).setCh c { x with signs := l }
      else s.bitTime c period l
  else s

/-- Secondary sync, once 200 secondary chips have been seen in succession: `m` is the number of mismatches of the best phase and polarity
over the last 200 (R254). A channel that began in sync loses it where the test over its first 200 fails. -/
def State.secSync (s : State) (c : Nat) (m : Nat) : State :=
  let sg := s.get (CH_CFG_SIGNAL c)
  if sigData sg then s
  else
    let x := s.chSt c
    let k := x.secChips + s.get (CH_STATUS_TINT_NOW c) / sigPrim sg
    if k < 200 then s.setCh c { x with secChips := k }
    else
      let s := s.setCh c { x with secChips := k, secTested := true }
      if m ≤ 2 then (s.put (CH_STATUS_SEC_SYNC c) 1).level1 c
      else if s.bit (CH_STATUS_SEC_SYNC c) && !x.secTested then s.puts [(CH_STATUS_SEC_SYNC c, 0), (CH_STATUS_TIME_LEVEL c, 0)]
      else s

/-- Two channels track the same satellite on the same front end (R255). -/
def State.sameSat (s : State) (a b : Nat) : Bool :=
  sigSys (s.get (CH_CFG_SIGNAL a)) == sigSys (s.get (CH_CFG_SIGNAL b)) &&
  s.get (CH_CFG_PRN a) == s.get (CH_CFG_PRN b) && s.get (CH_CFG_FE a) == s.get (CH_CFG_FE b)

/-- A channel in code lock takes level 2 from a running channel of its satellite that has it (R255). -/
def State.level2From (s : State) (c : Nat) : State :=
  if s.bit (CH_STATUS_CODE_LOCK c) && (List.range 256).any (fun d => s.chRuns d && s.get (CH_STATUS_TIME_LEVEL d) == 2 && s.sameSat c d)
  then s.put (CH_STATUS_TIME_LEVEL c) 2 else s

/-- An update that is skipped: the NCOs keep their rates and OVERRUN advances; the accumulations, the phases and the lock time go on, and a
run of secondary chips breaks (R234, R253, R254, R257). -/
def State.lateUpdate (s : State) (ch : Nat) (acc : Accums) : State :=
  let s := ((s.putAccs ch acc).bump (CH_CNT_OVERRUN ch)).bump (BANK_CNT_OVERRUN (ch / 32))
  let s := if s.bit (CH_STATUS_CARR_LOCK ch) then s.put (CH_LOCKT_LOCK_MS ch) (s.get (CH_LOCKT_LOCK_MS ch) + s.get (CH_STATUS_TINT_NOW ch)) else s
  let s := s.bitSync ch none
  s.setCh ch { s.chSt ch with secChips := 0 }

/-- An update that is made: the loops, the lock indicators, the channel's state, the bump, the synchronisation, and the entry for the L5
partner where code lock is new (R231, R240 to R245, R248, R253 to R255). -/
def State.loopUpdate (s : State) (ch : Nat) (acc : Accums) (secMism : Nat) : State :=
  let was := s.bit (CH_STATUS_CODE_LOCK ch)
  let s := (((((s.putAccs ch acc).loopStep ch acc).loopPower ch acc).loopLock ch acc).lowTrack ch).trackEntry ch
  let s := (((s.codeBump ch acc).bitSync ch (some acc)).secSync ch secMism).level2From ch
  let s := s.put (CH_STATUS_TINT_NOW ch) (s.tintNow ch)
  let s := s.setCh ch { s.chSt ch with prevI := acc.pI, prevQ := acc.pQ }
  if s.bit (CH_STATUS_CODE_LOCK ch) && !was then s.aidedEntry ch else s

/-- LOOP_UPDATE, where the loop processors hold their code (R91, log 32): an integration of a running channel ends with its accumulations
and the mismatches of its last 200 secondary chips; a late update is skipped and counted (R234, R245). -/
def execLoopUpdate (ch : Nat) (late : Bool) (acc : Accums) (secMism : Nat) (s : State) : Out :=
  fin (if ch < 256 ∧ s.chRuns ch ∧ s.boot.loaded.contains 4 then
    (if late then s.lateUpdate ch acc else s.loopUpdate ch acc secMism)
  else s)

/-! ## Starts, stops and losses -/

/-- START takes an IDLE channel into PULL_IN from the preset values (R245, R252). -/
def State.chStart (c : Nat) (s : State) : State :=
  if s.get (CH_STATUS_STATE c) = 0 then s.chPullIn c (s.get (CH_SET_CODE_CODE c)) ((s.getS (CH_SET_DOPP_DOPP c) : Rat) / 1024) false
  else s

/-- CH_START (R252). -/
def execChStart (ini ch : Nat) (s : State) : Out :=
  fin (if ch < 256 then s.asWrite ini (0x40110000 + 0x100 * ch) (State.chStart ch) else s)

/-- CH_STOP: no effect on an IDLE or RESERVED channel (R252). -/
def execChStop (ini ch : Nat) (s : State) : Out :=
  fin (if ch < 256 then s.asWrite ini (0x40110000 + 0x100 * ch) (fun s => s.chLose ch 4) else s)

/-- `ms` milliseconds are over since the channel entered PULL_IN (R249). -/
def State.pullDue (s : State) (ch ms : Nat) : Bool := decide ((s.chSt ch).pullAt + 100 * ms ≤ s.ply)

/-- PULL_IN_PLL_ON: PULL_MS after entry (R249). -/
def execPullInPllOn (ch : Nat) (s : State) : Out :=
  fin (if ch < 256 ∧ s.get (CH_STATUS_STATE ch) = 2 ∧ s.pullDue ch (s.get (CH_TIME_PULL_MS ch)) then
    (s.put (CH_STATUS_PLL_ON ch) 1).trackEntry ch else s)

/-- PULL_IN_TIMEOUT: PULL_MAX_MS without TRACK (R248, R249). -/
def execPullInTimeout (ch : Nat) (s : State) : Out :=
  fin (if ch < 256 ∧ s.get (CH_STATUS_STATE ch) = 2 ∧ s.pullDue ch (s.get (CH_TIME_PULL_MAX_MS ch)) then
    (s.chLose ch 2).reacqPlace ch else s)

/-- CN0_LOSS_TIMEOUT: the reported C/N0 has stayed below CN0_MIN for LOSS_MS (R248). -/
def execCn0LossTimeout (ch : Nat) (s : State) : Out :=
  fin (match (s.chSt ch).lowAt with
    | some p => if ch < 256 ∧ s.get (CH_STATUS_STATE ch) = 3 ∧ s.get (CH_CN0_CN0 ch) < 8 * s.get (CH_LOCK_CN0_MIN ch) ∧
        p + 100 * s.get (CH_TIME2_LOSS_MS ch) ≤ s.ply then (s.chLose ch 1).reacqPlace ch else s
    | none => s)

/-- RATE has been written: for the rest of the ply the rate before it stands (R258). -/
def State.rateHook (s0 s : State) : State :=
  if s0.get OBS_CTRL_RATE = s.get OBS_CTRL_RATE then s
  else match s.gnss.rateWas with
    | some (p, _) => if p = s.ply then s else { s with gnss := { s.gnss with rateWas := some (s.ply, s0.get OBS_CTRL_RATE) } }
    | none => { s with gnss := { s.gnss with rateWas := some (s.ply, s0.get OBS_CTRL_RATE) } }

/-! ## Navigation data -/

/-- The half-cycle correction of R256: half a cycle is added to the accumulated phase, the slip is counted and the lock
time restarts. -/
def State.halfCycle (s : State) (c : Nat) (inv : Bool) : State :=
  if s.bit (CH_STATUS_HALF_UNRES c) then
    let s := s.put (CH_STATUS_HALF_UNRES c) 0
    if inv then
      let v := s.get (CH_CARR_LO_PHASE c) + s.get (CH_CARR_HI_PHASE c) * 2 ^ 32 + 2 ^ 31
      (s.puts [(CH_CARR_LO_PHASE c, v % 2 ^ 32), (CH_CARR_HI_PHASE c, v / 2 ^ 32),
        (CH_CNT_SLIP_CNT c, s.get (CH_CNT_SLIP_CNT c) + 1), (CH_LOCKT_LOCK_MS c, 0)]).setCh c
          { s.chSt c with phOff := (s.chSt c).phOff + 2 ^ 31 }
    else s
  else s

/-- A decoded time of week gives level 2 to the channel and to the other running channels of its satellite on the same
front end (R255). -/
def State.level2 (s : State) (c : Nat) : State :=
  (List.range 256).foldl (fun s d =>
    if d = c ∨ (s.chRuns d ∧ s.sameSat c d ∧ s.bit (CH_STATUS_CODE_LOCK d)) then s.put (CH_STATUS_TIME_LEVEL d) 2 else s) s

/-- The record of a unit in the ring; the oldest of 512 is overwritten (R270). -/
def State.navWrite (s : State) (c kind bits check txMs : Nat) (inverted : Bool) (payload : List Nat) : State :=
  let r : NavRec := { ch := c, sig := s.get (CH_CFG_SIGNAL c) + 16 * s.get (CH_CFG_FE c), prn := s.get (CH_CFG_PRN c)
                      kind := kind, bits := bits, check := check, inverted := inverted
                      txMs := if s.get (CH_STATUS_TIME_LEVEL c) = 2 then txMs else 0xFFFFFFFF
                      seq := s.get NAV_HEAD_SEQ, payload := payload.take 80 }
  let l := s.gnss.nav ++ [r]
  { s with gnss := { s.gnss with nav := l.drop (l.length - 512) } }.put NAV_HEAD_SEQ (s.get NAV_HEAD_SEQ + 1)

/-- The kinds of unit that a signal carries (R268, R270). -/
def navKinds (sg : Nat) : List Nat := [[0], [1], [2], [3], [4, 5, 6], [7], [0], [1], [8]].getD sg []

/-- The bits of a unit (R268). -/
def navBits (kind : Nat) : Nat := [30, 300, 228, 238, 14, 600, 264, 288, 250].getD kind 0

/-- The first `n` bits of a payload, in transmission order, first bit in bit 7 of the first byte; the rest 0 (R270). -/
def navPayload : Nat → List Nat → List Nat
  | _, [] => []
  | n, b :: t => (if n < 8 then b % 256 / 2 ^ (8 - n) * 2 ^ (8 - n) else b % 256) :: navPayload (n - 8) t

/-- The outcome of a unit's check: an LDPC decoder alone can fail to converge (R268, R270). -/
def navCheck (kind check : Nat) : Nat :=
  if check = 0 then 0 else if check = 2 ∧ (kind = 5 ∨ kind = 6 ∨ kind = 7) then 2 else 1

/-- The payload delivered: an LNAV word that passes only with inverted polarity is inverted back (R269). -/
def navDeliver (kind : Nat) (inverted : Bool) (payload : List Nat) : List Nat :=
  navPayload (navBits kind) (if kind = 0 ∧ inverted then payload.map (fun b => 255 - b % 256) else payload)

/-- NAV_UNIT_DECODE: a unit as its channel's symbols gave it, with its check result, whether its inverted form passed, whether it gave the
time of week, the polarity of a preamble it confirmed, the UTC offset it carried and a leap second it announced (R255, R256, R268 to R271,
R282). Parity, Viterbi, BCH and LDPC decoding are of the signals' interface documents, outside the spec. -/
def execNavUnitDecode (ch kind check txMs : Nat) (inverted tow : Bool) (polarity : Option Bool)
    (utc : Option (Int × Option (Nat × Bool))) (payload : List Nat) (s : State) : Out :=
  fin (if ch < 256 ∧ s.chRuns ch ∧ (navKinds (s.get (CH_CFG_SIGNAL ch))).contains kind then
    let check := navCheck kind check
    let pass := check == 0
    let inv := inverted && kind == 0 && pass
    let s := match polarity with | some i => s.halfCycle ch i | none => s
    let s := if pass && tow then s.level2 ch else s
    let s := match utc with
      | some u => if pass && sigSys (s.get (CH_CFG_SIGNAL ch)) == 0
          then { s with time := { s.time with utc := u.1, leapAt := u.2 } }.put TIME_STATUS_UTC_VALID 1 else s
      | none => s
    if s.bit (CH_STATUS_NAV_SYNC ch) || pass then
      let s := (s.put (CH_STATUS_NAV_SYNC ch) 1).navWrite ch kind (navBits kind) check txMs inv (navDeliver kind inv payload)
      let n : Nat := if pass then 0 else (s.chSt ch).navFails + 1
      let s := s.setCh ch { s.chSt ch with navFails := n }
      if 3 ≤ n then (s.put (CH_STATUS_NAV_SYNC ch) 0).setCh ch { s.chSt ch with navFails := 0 } else s
    else s
  else s)

/-! ## Record bytes -/

/-- The 48 bytes of an entry (R265). -/
def ObsEnt.bytes (e : ObsEnt) : List Nat :=
  [e.ch, e.sig + 16 * e.fe, e.prn, usgn 8 e.elev] ++ leBytes 2 e.flags ++ leBytes 2 e.cn0 ++ leBytes 8 e.range ++
  leBytes 8 (usgn 64 e.phase) ++ leBytes 4 e.dopp ++ leBytes 4 e.lockMs ++ leBytes 4 e.txMs ++ leBytes 4 e.txFrac ++
  leBytes 2 e.slip ++ List.replicate 6 0

/-- The 32 bytes of a header (R264). -/
def ObsRec.header (r : ObsRec) : List Nat :=
  leBytes 2 r.week ++ leBytes 2 r.ents.length ++ leBytes 4 r.ms ++ leBytes 4 r.sfn ++ leBytes 4 (usgn 32 r.rxOff) ++
  leBytes 8 r.ply ++ [r.flags, r.front] ++ leBytes 2 r.timeGen ++ leBytes 4 r.seq

/-- Header and entries; the CRC-32C over them follows in the buffer (R264). -/
def ObsRec.bytes (r : ObsRec) : List Nat := r.header ++ r.ents.flatMap ObsEnt.bytes

/-- The 96 bytes of a navigation record (R270). -/
def NavRec.bytes (r : NavRec) : List Nat :=
  [r.ch, r.sig, r.prn, r.kind] ++ leBytes 2 r.bits ++ [r.check, b2n r.inverted] ++ leBytes 4 r.txMs ++ leBytes 4 r.seq ++
  (r.payload ++ List.replicate (80 - r.payload.length) 0)

/-! ## GNSS opcodes -/

/-- The response of OBS_GET for a record (R277). -/
def obsGetBytes (r : ObsRec) (first count : Nat) : List Nat :=
  r.header ++ ((r.ents.drop first).take count).flatMap ObsEnt.bytes

/-- OBS_GET (R277). -/
def execObsGet (sess tag : Nat) (pay : List Nat) (s : State) : Out :=
  fin (s.ecpRun 0x0300 sess tag pay (pay.length == 8) false (fun s =>
    let ms := leAt pay 0 4
    let first := leAt pay 4 2
    let count := leAt pay 6 1
    let wanted := fun (r : ObsRec) => ms == 0xFFFFFFFF || r.ms == ms
    if count < 1 ∨ 28 < count then (s, .final Ecp.BAD_PARAM [])
    else match s.gnss.forming with
      | some f => if ms ≠ 0xFFFFFFFF ∧ f.ms = ms then
          ({ s with gnssCfg := { s.gnssCfg with waits := s.gnssCfg.waits ++ [⟨sess, tag, ms, first, count⟩] } }, .progress)
        else match (s.gnss.bufs.filter (fun e => wanted e.2)).getLast? with
          | some e => (s, .final Ecp.OK (obsGetBytes e.2 first count))
          | none => (s, .final Ecp.BAD_PARAM [])
      | none => match (s.gnss.bufs.filter (fun e => wanted e.2)).getLast? with
        | some e => (s, .final Ecp.OK (obsGetBytes e.2 first count))
        | none => (s, .final Ecp.BAD_PARAM [])))

/-- NAV_GET (R278). -/
def execNavGet (sess tag : Nat) (pay : List Nat) (s : State) : Out :=
  fin (s.ecpRun 0x0301 sess tag pay (pay.length == 8) false (fun s =>
    let cur := leAt pay 0 4
    let count := leAt pay 4 1
    if count < 1 ∨ 14 < count then (s, .final Ecp.BAD_PARAM [])
    else
      let oldest := match s.gnss.nav with | r :: _ => r.seq | [] => s.get NAV_HEAD_SEQ
      let l := (s.gnss.nav.filter (fun r => decide (cur ≤ r.seq))).take count
      let skipped := if cur < oldest then oldest - cur else 0
      let next := match l.getLast? with | some r => r.seq + 1 | none => max cur oldest
      (s, .final Ecp.OK (leBytes 4 next ++ leBytes 4 skipped ++ l.flatMap NavRec.bytes))))

/-- Signal code of a channel is enabled for its front end (R279). -/
def State.chEnabled (s : State) (c : Nat) : Bool := s.sigOn (s.get (CH_CFG_FE c)) (s.get (CH_CFG_SIGNAL c))

/-- Stop the running channels of disabled signals (R279). -/
def State.stopDisabled (s : State) : State :=
  (List.range 256).foldl (fun s c => if s.chRuns c && !s.chEnabled c then s.chLose c 4 else s) s

/-- SIGNALS_SET (R279): answers the 8 bytes in force. -/
def execSignalsSet (sess tag : Nat) (pay : List Nat) (s : State) : Out :=
  fin (s.ecpRun 0x0302 sess tag pay (pay.length == 8) false (fun s =>
    let a := leAt pay 0 2
    let b := leAt pay 2 2
    let e := leAt pay 4 1
    if 512 ≤ a ∨ 512 ≤ b ∨ 30 < e then (s, .final Ecp.BAD_PARAM [])
    else
      let s := { s with gnssCfg := { s.gnssCfg with maskA := a, maskB := b, elevMask := e, sigSet := true } }
      (s.stopDisabled, .final Ecp.OK (leBytes 2 a ++ leBytes 2 b ++ [e, 0, 0, 0]))))

/-- The base epoch period in units of 100 ms (R258, R262). -/
def State.basePeriod (s : State) : Nat := [10, 5, 2, 1, 1].getD (s.get OBS_CTRL_RATE) 1

/-- RTCM_SET (R279): answers the 8 bytes in force. -/
def execRtcmSet (sess tag : Nat) (pay : List Nat) (s : State) : Out :=
  fin (s.ecpRun 0x0303 sess tag pay (pay.length == 8) false (fun s =>
    let id := leAt pay 0 2
    let m := leAt pay 2 2
    let a := leAt pay 4 2
    let y := leAt pay 6 1
    if 4095 < id ∨ 600 < m ∨ m % s.basePeriod ≠ 0 ∨ 60 < a ∨ 16 ≤ y then (s, .final Ecp.BAD_PARAM [])
    else
      let s := { s with gnssCfg := { s.gnssCfg with station := id, msmPeriod := m, arpPeriod := a, systems := y, rtcmSet := true } }
      (s, .final Ecp.OK (leBytes 2 id ++ leBytes 2 m ++ leBytes 2 a ++ [y, 0]))))

end Sys2Proof.Machine
end

