-- ==== Sys2Proof/Machine/Time.lean ====
section
/-!
DEFINITION. The time unit and the Ethernet timestamps (spec/09): source selection, holdover, steps, PTP domains, pulses
and the time opcodes.
-/

namespace Sys2Proof.Machine

open R

/-! ## Instants of the local clock -/

/-- The local clock at the start of the ply, in 2^-29 ns (R280). -/
def State.clk29 (s : State) : Int := (s.time.sec * (1000000000 * 2 ^ 29) + s.time.fx : Nat)

/-- What the clock advances by in the ply: 8000 cycles of CLK_TIME (R137, R280). -/
def State.plySpan (s : State) : Nat := 8000 * s.get TIME_ADDEND_ADDEND

/-- The clock reads `t` ns (TAI) at an instant of the ply. -/
def State.reaches (s : State) (t : Int) : Bool := decide (s.clk29 ≤ t * 2 ^ 29 ∧ t * 2 ^ 29 < s.clk29 + s.plySpan)

/-- The multiple of `period` ns, `ofs` ns on, that the clock passes in the ply, if it passes one: its ns without `ofs`. -/
def State.multipleHere (s : State) (period : Nat) (ofs : Int) : Option Int :=
  let unit : Int := period * 2 ^ 29
  let m := -((ofs * 2 ^ 29 - s.clk29) / unit) * period
  if s.reaches (m + ofs) then some m else none

/-- The whole local second that begins in the ply. -/
def State.secondHere (s : State) : Option Nat := (s.multipleHere 1000000000 0).map (fun m => (m / 1000000000).toNat)

/-- The local second of the ply: the one that begins in it, if one does. -/
def State.secNow (s : State) : Nat := s.secondHere.getD s.time.sec

/-- An armed step lands in the ply: that of boundary n + 2 of the second n in which it was armed, once announced; the first step that of
the next whole second after the first selection (R292, R294). -/
def State.stepDue (s : State) : Bool :=
  match s.time.step with
  | some a => (match a.sec with
    | some n => if a.first then decide (n + 1 ≤ s.secNow) else a.announced && decide (n + 2 ≤ s.secNow)
    | none => false)
  | none => false

/-- A step lands in the ply: no strobe and no PPS edge is issued in it (R296). -/
def State.stepPlyNow (s : State) : Bool := s.time.stepPly == some s.ply || s.stepDue

/-! ## Selection of the source -/

/-- The REF_CFG order (R285). -/
def State.refOrder (s : State) : List Nat := [s.get REF_CFG_P1, s.get REF_CFG_P2, s.get REF_CFG_P3, s.get REF_CFG_P4]

/-- The whole second nearest to an edge of PPS_IN. -/
def ppsSec (e : Int) : Int := (e + 500000000) / 1000000000

/-- An edge lies within ±100 ms of a whole local second (R284). -/
def ppsNear (e : Int) : Bool :=
  let d := e - ppsSec e * 1000000000
  decide (-100000000 ≤ d ∧ d ≤ 100000000)

/-- A pulse has arrived in each of the last 10 s, each within ±100 ms of a whole second (R284). -/
def State.ppsUsable (s : State) : Bool :=
  let n := (s.clk29 / 2 ^ 29 - 100000000) / 1000000000
  (List.range 10).all (fun (i : Nat) => s.time.pps.any (fun e => ppsNear e && ppsSec e == n - (i : Int))) &&
  s.time.pps.all (fun e => ppsNear e || decide (ppsSec e < n - 9))

/-- A source is usable (R284): GNSS by the solution of the latest epoch, a PTP domain while TRACKING, PPS_IN by its pulses. -/
def State.srcUsable (s : State) (c : Nat) : Bool :=
  match c with
  | 1 => s.time.gnssOk && !s.domOff 7 && !s.clk.refLost
  | 2 => s.get (DOM_STATUS_STATE 0) == 2
  | 3 => s.get (DOM_STATUS_STATE 1) == 2
  | 4 => s.ppsUsable
  | _ => false

/-- The sources usable now, each with the ply since when without a break (R285). -/
def State.srcTrack (s : State) : State :=
  { s with time := { s.time with useSince := [1, 2, 3, 4].foldl (fun l c => heldSince l c s.ply (s.srcUsable c)) s.time.useSince } }

/-- The selection of R285: the earliest source of the order that is usable and has been for 10 s without a break. -/
def State.srcPick (s : State) : Option Nat :=
  s.refOrder.find? (fun c => c != 0 && s.srcUsable c && heldFor s.time.useSince c s.ply 1000000)

/-- EST of R290 in ns after `t` seconds, for AGING in ppb per day as UQ8.8; it saturates at 32 bits. -/
def holdEst (h : HoldRec) (t : Rat) (aging : Nat) : Nat :=
  (clampI 0 0xFFFFFFFF (quantQ ((h.e0 : Rat) + (h.uF : Rat) * t + (aging : Rat) / 256 / 86400 * t * t / 2))).toNat

/-- TIME_ERR in time holdover (R290). -/
def State.holdErr (s : State) : State :=
  match s.time.hold with
  | some h => s.put TIME_ERR_EST (holdEst h (((s.ply - h.ply : Nat) : Rat) / 100000) (s.get HOLD_CFG_AGING))
  | none => s

/-- No source qualifies: holdover is entered, or goes on (R290). -/
def State.holdEnter (s : State) (e0 uF : Nat) : State :=
  let h : HoldRec := s.time.hold.getD { ply := s.ply, e0 := e0, uF := uF }
  (({ s with time := { s.time with hold := some h } }).put TIME_STATUS_HOLDOVER 1).holdErr

/-- Holdover ends (R291). -/
def State.holdLeave (s : State) (d : Int) : State :=
  if decide (d ≤ (s.get HOLD_CFG_HOLD_SPEC : Int)) && decide (-d ≤ (s.get HOLD_CFG_HOLD_SPEC : Int)) then
    ({ s with time := { s.time with hold := none } }).put TIME_STATUS_HOLDOVER 0
  else s.holdErr

/-- The source in force changes (R285). -/
def State.srcSet (s : State) (c : Nat) : State :=
  if s.get TIME_STATUS_SOURCE = c then s
  else ((s.put TIME_STATUS_SOURCE c).bump TIME_CNT_SWITCHES).record .refSwitch [c]

/-- The servo's new rate (R281, R291): the addend `freq` that keeps the source's rate, moved toward the source by no more than 200 ns per
second; a backward offset above 1 ms goes at 200 ns/s, a smaller one at a part of it that the spec leaves to the servo (log 15). -/
def State.slew (s : State) (d : Int) (freq : Nat) : State :=
  let m := (s.freeVal % 135 : Nat)
  let q : Int := if d < -1000000 then -(quant ((freq * 2 : Nat) : Int) 10000000) else if 0 < d then m else if d < 0 then -(m : Int) else 0
  (s.put TIME_ADDEND_ADDEND (clampI 670753096 671424184 (freq + clampI (-134) 134 q)).toNat).useFree

/-- Arm a step (R292): until the clock is valid it is the first step, which waits for the first selection (R294). -/
def State.armStep (s : State) (a : StepArm) : State :=
  let first := !s.bit TIME_STATUS_VALID
  { s with time := { s.time with step := some { a with first := first, sec := if first then none else some s.secNow } } }.put
    TIME_STATUS_STEP_ARMED 1

/-- The first selection after a reset: the first step, armed by it unless one waits, lands at the next whole second (R294). -/
def State.firstSel (s : State) : State :=
  let s := if s.time.step.isNone then s.armStep { auto := true } else s
  { s with time := { s.time with step := s.time.step.map (fun a => { a with sec := some (a.sec.getD s.secNow) }) } }

/-- The rules of R291 for an offset D in ns of the selected source; the first selection after a reset lets the first step land (R294). -/
def State.srcOffset (s : State) (d : Int) (freq : Nat) : State :=
  let s := s.putS SRC_OFFSET_D (clampI (-2147483648) 2147483647 d)
  let s := if d < -1000000 then s else ({ s with time := { s.time with backD := 0 } }).put TIME_STATUS_BACK_PENDING 0
  let s := s.holdLeave d
  if !s.bit TIME_STATUS_VALID then s.firstSel
  else if 1000000 < d then if s.time.step.isNone then s.armStep { auto := true } else s
  else if d < -1000000 then
    let was := s.bit TIME_STATUS_BACK_PENDING
    let s := { s with time := { s.time with backD := d } }.put TIME_STATUS_BACK_PENDING 1
    (if was then s else s.record .backPending []).slew d freq
  else s.slew d freq

/-- The offset last measured of a source, a PTP domain's with its asymmetry removed (R286, R287). -/
def State.srcD (s : State) (c : Nat) : Int :=
  let d := match s.time.offs.find? (fun e => e.1 == c) with | some e => e.2 | none => 0
  if c = 2 then d - s.getS (DOM_ASYM_ASYM 0) else if c = 3 then d - s.getS (DOM_ASYM_ASYM 1) else d

/-- An offset measured of a source. -/
def State.setOff (s : State) (c : Nat) (d : Int) : State :=
  { s with time := { s.time with offs := s.time.offs.filter (fun e => e.1 != c) ++ [(c, d)] } }

/-- A selection with its consequences (R285, R290, R291). -/
def State.select (s : State) (e0 uF freq : Nat) : State :=
  match s.srcPick with
  | none => (s.srcSet 0).holdEnter e0 uF
  | some c => (s.srcSet c).srcOffset (s.srcD c) freq

/-- A domain's state beside its registers. -/
def State.dom (s : State) (d : Nat) : DomSt := if d = 0 then s.time.domA else s.time.domB

/-- A domain's state set. -/
def State.setDom (s : State) (d : Nat) (x : DomSt) : State :=
  { s with time := if d = 0 then { s.time with domA := x } else { s.time with domB := x } }

/-- One domain as PTP_SET configures it (R311). -/
def State.ptpDomain (s : State) (d port num oldPort oldNum : Nat) : State :=
  if port = 0xFF then (s.puts [(DOM_STATUS_STATE d, 0), (DOM_STATUS_DOMAIN d, 0)]).setDom d {}
  else if port = oldPort ∧ num = oldNum then s
  else (s.puts [(DOM_STATUS_STATE d, 1), (DOM_STATUS_DOMAIN d, num), (DOM_ASYM_ASYM d, 0)]).setDom d { acqAt := s.ply }

/-- A PTP_SET that takes effect at a whole local second (R315). -/
def State.ptpApply (s : State) : State :=
  match s.time.ptpNext with
  | none => s
  | some p =>
    let o := s.time.ptp
    let s := (s.ptpDomain 0 (leAt p 10 1) (leAt p 11 1) (leAt o 10 1) (leAt o 11 1)).ptpDomain 1 (leAt p 12 1) (leAt p 13 1)
      (leAt o 12 1) (leAt o 13 1)
    let s := { s with time := { s.time with ptp := p, ptpNext := none, passive := [] } }
    s.put REF_CFG_JUMP_US (leAt p 14 2)

/-- REF_SELECTION: once at each whole local second (R285, R290, R291, R315). `e0` and `uF` are the servo's uncertainties, `freq` the addend
that keeps the source's rate. -/
def execRefSelection (e0 uF freq : Nat) (s : State) : Out :=
  fin (if s.secondHere.isSome && s.time.selPly != some s.ply then
    ({ s with time := { s.time with selPly := some s.ply } }.ptpApply.srcTrack).select e0 uF freq
  else s)

/-! ## PTP domains -/

/-- `1 − exp(−x)`, between `x − x²/2` and `x` up to 1 and from 1/2 to 1 beyond (R287, log 13). -/
def expGain (x : Rat) : Rat :=
  if x ≤ 1 then clampQ (x - x * x / 2) x (Config.expGain x) else clampQ (1 / 2) 1 (Config.expGain x)

/-- The asymmetry filter of R287 on a good sample, while GNSS is selected and the domain is TRACKING: time constant 1000 s over the plies
since the sample before. -/
def State.asymFilter (s : State) (d : Nat) (off : Int) : State :=
  let x := s.dom d
  if s.get TIME_STATUS_SOURCE = 1 ∧ s.get (DOM_STATUS_STATE d) = 2 then
    let dt : Rat := ((s.ply - x.asymAt.getD s.ply : Nat) : Rat) / 100000
    let a := x.asym + ((off : Rat) - x.asym) * expGain (dt / 1000)
    (s.setDom d { x with asym := a, asymAt := some s.ply }).putS (DOM_ASYM_ASYM d) (quantQ a)
  else s.setDom d { x with asymAt := none }

/-- A domain's offset is reported, and held for its source; no sample of a FAULTED domain is (R286, R288). -/
def State.domOffset (s : State) (d : Nat) (off : Int) : State :=
  let s := if s.get (DOM_STATUS_STATE d) = 3 then s else s.setOff (d + 2) off
  s.putS (DOM_OFFSET_OFFSET d) (clampI (-2147483648) 2147483647 (off - s.getS (DOM_ASYM_ASYM d)))

/-- A sample of a FAULTED domain: successive ones that differ by no more than JUMP_US keep its recovery going (R289). -/
def State.domCalm (s : State) (d : Nat) (off : Int) (j : Int) : State :=
  let x := s.dom d
  let ok := match x.last with | some v => decide (off - v ≤ j ∧ v - off ≤ j) | none => false
  s.setDom d { x with calm := if ok then some (x.calm.getD s.ply) else none, last := some off }

/-- DOMAIN_OFFSET_SAMPLE of domain A (0) or B (1): the sample and the servo's prediction, with what a selection made in the same ply takes
(R286 to R289). -/
def execDomainOffsetSample (d : Nat) (off pred : Int) (gmChanged : Bool) (e0 uF freq : Nat) (s : State) : Out :=
  fin (if d < 2 ∧ s.get (DOM_STATUS_STATE d) ≠ 0 then
    let s := if gmChanged then (s.put (DOM_ASYM_ASYM d) 0).setDom d { s.dom d with asym := 0, asymAt := none } else s
    let j : Int := s.get REF_CFG_JUMP_US * 1000
    let dir : Int := if j < off - pred then 1 else if j < pred - off then -1 else 0
    if s.get (DOM_STATUS_STATE d) = 3 then (s.domOffset d off).domCalm d off j
    else if dir = 0 then ((s.setDom d { s.dom d with out := 0 }).asymFilter d off).domOffset d off
    else
      let twice := (s.dom d).out == dir
      let s := (s.bump TIME_CNT_OUTLIER).setDom d { s.dom d with out := dir }
      if !twice then s
      else
        let s := ((s.put (DOM_STATUS_STATE d) 3).record .domFaulted [d]).setDom d { s.dom d with out := 0, calm := none, last := some off }
        let s := s.srcTrack
        if s.get TIME_STATUS_SOURCE = d + 2 then s.select e0 uF freq else s
  else s)

/-- DOMAIN_FAULT_RECOVERY: after 60 s of such samples (R289). -/
def execDomainFaultRecovery (d : Nat) (s : State) : Out :=
  fin (match (s.dom d).calm with
    | some p => if d < 2 ∧ s.get (DOM_STATUS_STATE d) = 3 ∧ p + 6000000 ≤ s.ply then
        ((s.put (DOM_STATUS_STATE d) 2).setDom d { s.dom d with out := 0, calm := none }).srcTrack else s
    | none => s)

/-- DOMAIN_TRACKING: the servo has held lock for 30 s, which it cannot have sooner than 30 s after it began (R311). -/
def execDomainTracking (d : Nat) (s : State) : Out :=
  fin (if d < 2 ∧ s.get (DOM_STATUS_STATE d) = 1 ∧ (s.dom d).acqAt + 3000000 ≤ s.ply then (s.put (DOM_STATUS_STATE d) 2).srcTrack else s)

/-- PTP_FOREIGN_MASTER: a grandmaster port enters PASSIVE (R310); the pair-link port is none (R543). -/
def execPtpForeignMaster (port : Nat) (s : State) : Out :=
  fin (if port < 6 ∧ bitOf (leAt s.time.ptp 0 1) port ∧ !(port == 5 && s.bit PAIR_CTRL_EN) ∧ !s.time.passive.contains port then
    let s := { s with time := { s.time with passive := s.time.passive ++ [port] } }
    (s.put DOM_GM_STATUS_FOREIGN_BETTER 1).record .foreignBetter [port]
  else s)

/-- The dataset of the grandmaster domain: clockClass, clockAccuracy, offsetScaledLogVariance, timeSource (R308). The
time source of a PTP reference is the one it reports. -/
def State.gmDataset (s : State) (reported : Nat) : List Nat :=
  if !s.bit TIME_STATUS_VALID then [248, 0xFE, 0xFFFF, 0xA0]
  else if s.bit TIME_STATUS_HOLDOVER then
    [if s.get TIME_ERR_EST ≤ s.get HOLD_CFG_HOLD_SPEC then 7 else 52, 0xFE, 0xFFFF, 0xA0]
  else if s.get TIME_STATUS_SOURCE = 1 then [6, 0x21, 0x4E5D, 0x20]
  else [6, 0xFE, 0xFFFF, reported]

/-! ## Steps -/

/-- STEP_ANNOUNCE: at boundary n + 1 (R292). -/
def execStepAnnounce (s : State) : Out :=
  fin (match s.time.step with
    | none => s
    | some a => if a.announced || a.first || !(match a.sec with | some n => decide (n + 1 ≤ s.secNow) | none => false) then s
      else
        let s := { s with time := { s.time with step := some { a with announced := true } } }
        (s.put TIME_STATUS_STEP_ANNOUNCED 1).record .stepAnnounced [])

/-- The clock moved by a number of ns. -/
def TimeState.move (t : TimeState) (d : Int) : TimeState :=
  let unit : Int := 1000000000 * 2 ^ 29
  let v : Int := (t.sec : Int) * unit + t.fx + d * 2 ^ 29
  { t with sec := (v / unit % 2 ^ 48).toNat, fx := (v % unit).toNat }

/-- A phase reduced into -50 ms to +50 ms (R297). -/
def phaseReduce (x : Int) : Int := let r := x % 100000000; if 50000000 < r then r - 100000000 else r

/-- GPS time of a local clock in ns since the start of GPS week 0: GPS is TAI less 19 s (R282); on the PTP timescale of
the clock (R280), which counts from 1970, week 0 starts at second 315 964 819 (log 18). -/
def TimeState.gpsNs (t : TimeState) : Int := ((t.sec : Int) - 315964819) * 1000000000 + t.ns

/-- The grid that the first valid clock gives: boundary k at GPS k × 100 ms (R19). -/
def TimeState.startGrid (t : TimeState) : TimeState :=
  { t with grid := true, k := (t.gpsNs / 100000000).toNat, gridNs := t.gpsNs / 100000000 * 100000000 }

/-- The grid phase after a step of `d` ns, and the shift it calls for (R297, R298, R301): the grid does not move, so its
boundaries have other times by the clock. -/
def State.stepPhase (s : State) (d : Int) : State :=
  if !s.time.grid then s
  else
    let phi := phaseReduce (s.getS GRID_PHASE_PHI + d)
    let s := { s with time := { s.time with gridNs := s.time.gridNs + d } }
    let s := s.putS GRID_PHASE_PHI phi
    if s.bit TIME_STATUS_SHIFT_PENDING then s
    else if 1000 < phi ∨ phi < -1000 then
      { s with time := { s.time with shiftWait := true } }.put TIME_STATUS_SHIFT_PENDING 1
    else s

/-- What the clock holds of its sources moves with a step: the offsets last measured and the edges of PPS_IN. -/
def TimeState.shiftOffs (t : TimeState) (d : Int) : TimeState :=
  { t with offs := t.offs.map (fun e => (e.1, e.2 - d)), pps := t.pps.map (· + d) }

/-- The Δ of an armed step: the commanded value, or D as last measured of the source in force (R292). -/
def State.stepDelta (s : State) (a : StepArm) : Int := if a.auto then s.srcD (s.get TIME_STATUS_SOURCE) else a.delta

/-- The step no longer stands armed. -/
def State.stepClear (s : State) : State :=
  { s with time := { s.time with step := none } }.puts [(TIME_STATUS_STEP_ARMED, 0), (TIME_STATUS_STEP_ANNOUNCED, 0)]

/-- The clock becomes its old value plus Δ; the first step gives the grid and sets VALID (R292, R294 to R298). -/
def State.stepTo (s : State) (a : StepArm) (d : Int) : State :=
  let old := s.time
  let near := s.sfnNearEnd
  let gen := (s.get TIME_STATUS_TIME_GEN + 1) % 65536
  let t := { (old.move d).shiftOffs d with stepPly := some s.ply, backD := if d < 0 then 0 else old.backD }
  let s := { s with time := if a.first then t.startGrid else t }.put TIME_STATUS_TIME_GEN gen
  let s := if d < 0 then s.put TIME_STATUS_BACK_PENDING 0 else s
  let s := if a.first then s.put TIME_STATUS_VALID 1 else s.stepPhase d
  let s := s.logNearEnd near
  let s := s.record .stepLanded (leBytes 6 old.sec ++ leBytes 4 old.ns ++ leBytes 6 s.time.sec ++ leBytes 4 s.time.ns ++ leBytes 2 gen)
  let s := if s.get TIME_STATUS_SOURCE = 0 then s
    else
      let r := s.srcD (s.get TIME_STATUS_SOURCE)
      (s.putS SRC_OFFSET_D (clampI (-2147483648) 2147483647 r)).holdLeave r
  match a.req with
  | some (id, tag) => s.ecpComplete id tag Ecp.OK (leBytes 8 old.sec ++ leBytes 2 gen ++ [0, 0])
  | none => s

/-- STEP_LAND, in the ply of its boundary (R292 to R298). An automatic step whose D has turned negative by then is not taken, since no
request of R293 asked for it (log 125). -/
def execStepLand (s : State) : Out :=
  fin (match s.time.step with
    | none => s
    | some a =>
      if !s.stepDue then s
      else
        let d := s.stepDelta a
        if a.auto && !a.back && !a.first && decide (d < 0) then s.stepClear else s.stepClear.stepTo a d)

/-- A step of DELTA_S, DELTA_NS is well formed (R314). -/
def deltaOk (ds dn : Int) : Bool :=
  decide (-1000000000 < dn ∧ dn < 1000000000) && (dn == 0 || ds == 0 || decide (0 < ds) == decide (0 < dn))

/-- The outcome of a step request (R293): none armed, and a negative step only with BACK, or the pending backward
correction. 0 arms, 1 is denied. -/
def State.stepDenied (s : State) (delta : Int) (back accept : Bool) : Bool :=
  s.time.step.isSome || (if accept then !s.bit TIME_STATUS_BACK_PENDING else decide (delta < 0) && !back)

/-- A keyed STEP_CTRL write (R293). ACCEPT disregards the deltas. -/
def State.stepCtrl (data : Nat) (s : State) : State :=
  let accept := bitOf data 2
  let back := bitOf data 1
  let ds := s.getS STEP_S_DELTA_S
  let dn := s.getS STEP_NS_DELTA_NS
  let delta := ds * 1000000000 + dn
  if bits data 31 16 ≠ 0x5354 ∨ (!accept ∧ !bitOf data 0) then s
  else if !accept && !deltaOk ds dn then s
  else if s.stepDenied delta back accept then s
  else if accept then s.armStep { delta := s.time.backD, auto := true, back := true }
  else s.armStep { delta := delta, back := back }

/-- STEP_CTRL_ARM (R293). -/
def execStepCtrlArm (ini data : Nat) (s : State) : Out :=
  fin (if bitOf data 0 then s.asWrite ini 0x40600028 (State.stepCtrl data) else s)

/-- STEP_CTRL_ACCEPT (R293). -/
def execStepCtrlAccept (ini data : Nat) (s : State) : Out :=
  fin (if bitOf data 2 then s.asWrite ini 0x40600028 (State.stepCtrl data) else s)

/-! ## Time opcodes -/

/-- The 32 bytes of TIME_GET (R313). -/
def State.timeBytes (s : State) : List Nat :=
  let fl := s.get TIME_STATUS_VALID + 2 * s.get TIME_STATUS_HOLDOVER + 4 * s.get TIME_STATUS_UTC_VALID +
    8 * s.get TIME_STATUS_LEAP61 + 16 * s.get TIME_STATUS_LEAP59 + 32 * s.get TIME_STATUS_STEP_ANNOUNCED +
    64 * s.get TIME_STATUS_BACK_PENDING + 128 * s.get TIME_STATUS_SHIFT_PENDING
  leBytes 8 s.time.sec ++ leBytes 4 s.time.ns ++ leBytes 2 (s.time.fx % 2 ^ 29 / 2 ^ 13) ++
  leBytes 2 (s.get TIME_STATUS_TIME_GEN) ++ leBytes 2 (usgn 16 s.time.utc) ++ leBytes 2 fl ++ leBytes 4 (s.get TIME_ERR_EST) ++
  [s.get TIME_STATUS_SOURCE, 0, 0, 0] ++ leBytes 4 (s.get GRID_PHASE_PHI)

/-- TIME_GET (R313). -/
def execTimeGet (sess tag : Nat) (s : State) : Out :=
  fin (s.ecpRun 0x0200 sess tag [] true false (fun s => (s, .final Ecp.OK s.timeBytes)))

/-- TIME_STEP (R314): IN_PROGRESS until the step lands. -/
def execTimeStep (sess tag : Nat) (pay : List Nat) (s : State) : Out :=
  fin (s.ecpRun 0x0201 sess tag pay (pay.length == 16) false (fun s =>
    let ds := sgn 64 (leAt pay 0 8)
    let dn := sgn 32 (leAt pay 8 4)
    let back := bitOf (leAt pay 12 1) 0
    let accept := bitOf (leAt pay 12 1) 1
    let delta := ds * 1000000000 + dn
    if !accept && !deltaOk ds dn then (s, .final Ecp.BAD_PARAM [])
    else if s.stepDenied delta back accept then (s, .final Ecp.DENIED [])
    else (s.armStep { delta := if accept then s.time.backD else delta, auto := accept, back := back || accept, req := some (sess, tag) },
      .progress)))

/-- PTP_SET's values are supported (R307, R315): no pair-link port, no two equal domain numbers. -/
def State.ptpOk (s : State) (p : List Nat) : Bool :=
  let b := fun k => leAt p k 1
  let port := fun k => b k == 0xFF || (decide (b k < 6) && !(b k == 5 && s.bit PAIR_CTRL_EN))
  decide (b 0 < 64) && !(bitOf (b 0) 5 && s.bit PAIR_CTRL_EN) && decide (b 1 < 128 ∧ b 11 < 128 ∧ b 13 < 128) &&
  b 1 != b 11 && b 1 != b 13 && b 11 != b 13 && decide (b 6 < 2) && decide (-1 ≤ sgn 8 (b 7) ∧ sgn 8 (b 7) ≤ 1) &&
  decide (b 8 ≤ 4 ∧ b 9 ≤ 5) && port 10 && port 12

/-- PTP_SET (R315). -/
def execPtpSet (sess tag : Nat) (pay : List Nat) (s : State) : Out :=
  fin (s.ecpRun 0x0202 sess tag pay (pay.length == 16) false (fun s =>
    if !s.ptpOk pay then (s, .final Ecp.BAD_PARAM [])
    else ({ s with time := { s.time with ptpNext := some pay } }, .final Ecp.OK pay)))

/-! ## UTC, pulses -/

/-- LEAP_FLAG_SET: 12 hours before the end of a UTC day that ends with an announced leap second (R282). -/
def execLeapFlagSet (s : State) : Out :=
  fin (match s.time.leapAt with
    | some (e, plus) => if s.bit TIME_STATUS_UTC_VALID ∧ e ≤ s.secNow + 43200 ∧ s.secNow < e then
        s.put (if plus then TIME_STATUS_LEAP61 else TIME_STATUS_LEAP59) 1 else s
    | none => s)

/-- LEAP_FLAG_CLEAR: at the end of that day; the current UTC offset is then one second more or less (R282). -/
def execLeapFlagClear (s : State) : Out :=
  fin (match s.time.leapAt with
    | some (e, plus) => if e ≤ s.secNow then
        { s with time := { s.time with utc := s.time.utc + (if plus then 1 else -1), leapAt := none } }.puts
          [(TIME_STATUS_LEAP61, 0), (TIME_STATUS_LEAP59, 0)] else s
    | none => s)

/-- The epoch period of a RATE in ms (R258). -/
def rateMs (r : Nat) : Nat := [1000, 500, 200, 100, 50].getD r 100

/-- Epoch period of OBS_CTRL.RATE in ms, the period before a change of RATE for the rest of its ply (R258). -/
def State.epochMs (s : State) : Nat :=
  match s.gnss.rateWas with
  | some (p, r) => rateMs (if p = s.ply then r else s.get OBS_CTRL_RATE)
  | none => rateMs (s.get OBS_CTRL_RATE)

/-- Strobes are issued: PD_GNSS on, no REF_LOST, not in the ply of a step (R263, R296). -/
def State.strobesOn (s : State) : Bool := !s.domOff 7 && !s.clk.refLost && !s.stepPlyNow

/-- Period of a pulse output in ns (R302). -/
def State.ppsPeriod (s : State) (n : Nat) : Nat := if s.get (PPS_CFG_MODE n) = 0 then 1000000000 else s.epochMs * 1000000

/-- PPS_OUT_EDGE: where the clock passes a whole second, or an epoch strobe in MODE 1, plus PPS_OFS in the ply; no edge in the ply of a step
(R296, R302). -/
def execPpsOutEdge (n : Nat) (s : State) : Out :=
  fin (if n < 2 ∧ s.bit (PPS_CFG_EN n) ∧ !s.stepPlyNow ∧ (s.get (PPS_CFG_MODE n) = 0 ∨ s.strobesOn) ∧
      (s.multipleHere (s.ppsPeriod n) (s.getS (PPS_OFS_OFS n))).isSome then
    s.emit (.pps n (min (s.get (PPS_CFG_WIDTH_US n)) (s.ppsPeriod n / 2000))) else s)

/-- The local clock `dt` ns after the start of the ply. -/
def State.clockAt (s : State) (dt : Nat) : TimeState := s.time.move dt

/-- PPS_IN_EDGE: the edge is timestamped `dt` ns into the ply; its offset is the nearest whole second's, source minus local (R284, R286,
R303). -/
def execPpsInEdge (dt : Nat) (s : State) : Out :=
  fin (let t := s.clockAt dt
       let e : Int := (t.sec * 1000000000 + t.ns : Nat)
       let off := ppsSec e * 1000000000 - e
       let s := s.puts [(PPSIN_SEC_SEC, t.sec % 2 ^ 32), (PPSIN_NS_NS, t.ns), (PPSIN_NS_NEW, 1)]
       let s := { s with time := { s.time with pps := (e :: s.time.pps).take 12 } }
       (s.setOff 4 off).putS PPSIN_OFFSET_OFFSET off)

/-! ## Ethernet timestamps -/

/-- The corrections at a port's speed (R305): egress, ingress. -/
def ethCorr (speed : Nat) : Nat × Nat := if speed = 2 then (96, 144) else if speed = 1 then (720, 1120) else (7200, 11200)

/-- A port carries frames: PD_NET is out of reset, the port is enabled and its link is up. -/
def State.ethUp (s : State) (p : Nat) : Bool := decide (p < 6) && !s.domOff 9 && s.bit (ETH_CFG_EN p) && s.bit (ETH_CFG_LINK p)

/-- ETH_FRAME_RECEIVE: the frame goes to the firmware with its timestamp, less the ingress correction (R304, R305). -/
def execEthFrameReceive (p dt : Nat) (bytes : List Nat) (s : State) : Out :=
  fin (if s.ethUp p then
    let c : Int := if s.bit (ETH_TS_CTRL_CORR_EN p) then (ethCorr (s.get (ETH_CFG_SPEED p))).2 else 0
    let t := s.time.move (dt - c)
    s.emit (.ethRx p t.sec t.ns (t.fx % 2 ^ 29 / 2 ^ 13) (s.get TIME_STATUS_TIME_GEN) bytes)
  else s)

/-- Entries a port's queue holds. -/
def State.txtsCount (s : State) (p : Nat) : Nat := (s.eth.txts.filter (fun t => t.port == p)).length

/-- Bytes `v` laid over a frame from offset `o` on. -/
def patch (bytes : List Nat) (o : Nat) (v : List Nat) : List Nat := bytes.take o ++ v.take (bytes.length - o) ++ bytes.drop (o + v.length)

/-- Where the PTP message of a frame begins, by the transport in force: after the Ethernet header with EtherType 0x88F7, or after the
IPv4 and UDP headers to port 319 or 320 (R307; layouts PRESUMED, log 126). -/
def State.ptpAt (s : State) (f : List Nat) : Option Nat :=
  if leAt s.time.ptp 6 1 = 0 then (if f.getD 12 0 = 0x88 ∧ f.getD 13 0 = 0xF7 then some 14 else none)
  else if f.getD 12 0 = 8 ∧ f.getD 13 0 = 0 ∧ f.getD 23 0 = 17 ∧ f.getD 36 0 = 1 ∧ (f.getD 37 0 = 0x3F ∨ f.getD 37 0 = 0x40) then some 42
  else none

/-- clockIdentity: the MAC address of ETH_0 with 0xFFFE after its third byte (R307). -/
def State.clockId (s : State) : List Nat :=
  let m := leBytes 4 (s.get (ETH_MAC_LO_MAC 0)) ++ leBytes 2 (s.get (ETH_MAC_HI_MAC 0))
  m.take 3 ++ [0xFF, 0xFE] ++ m.drop 3

/-- The dataset that an Announce of the grandmaster domain carries: the flags with the timescale, currentUtcOffset, the priorities, the
quality, the identity and timeSource (R308, R309). -/
def State.announceSet (s : State) (f : List Nat) (o : Nat) : List Nat :=
  let d := s.gmDataset (if f.getD (o + 63) 0 = 0x20 then 0x20 else 0x40)
  let flags := s.get TIME_STATUS_LEAP61 + 2 * s.get TIME_STATUS_LEAP59 + 4 * s.get TIME_STATUS_UTC_VALID + 8
  let g := patch (patch f (o + 7) [flags]) (o + 44) (beBytes 2 (usgn 16 s.time.utc))
  let g := patch g (o + 47) ([leAt s.time.ptp 2 1, d.getD 0 0, d.getD 1 0] ++ beBytes 2 (d.getD 2 0) ++ [leAt s.time.ptp 3 1] ++ s.clockId)
  patch g (o + 63) [d.getD 3 0]

/-- A correctionField, in 2^-16 ns, with a time added to it. -/
def addCorrection (f : List Nat) (o : Nat) (d : Int) : List Nat :=
  let v := leNat ((f.drop (o + 8)).take 8).reverse
  patch f (o + 8) (beBytes 8 (usgn 64 (sgn 64 v + d)))

/-- What the device writes into a PTP frame as it leaves port `p` with timestamp `t` (R308, R312): an Announce carries the dataset; in
one-step mode a Sync takes its originTimestamp, a Pdelay_Resp the time since its request (`reqAt`: seconds, ns and 2^-16 ns) in
correctionField, and over UDP such a frame has no checksum. A grandmaster port in PASSIVE sends neither Announce nor Sync (R310). -/
def State.ptpEgress (s : State) (p : Nat) (t : TimeState) (reqAt : Option (Nat × Nat × Nat)) (f : List Nat) : Option (List Nat) :=
  match s.ptpAt f with
  | none => some f
  | some o =>
    let typ := f.getD o 0 % 16
    let gm := bitOf (leAt s.time.ptp 0 1) p && f.getD (o + 4) 0 == leAt s.time.ptp 1 1
    let one := bitOf (leAt s.time.ptp 5 1) p
    let plain := fun (g : List Nat) => if o = 42 then patch g 40 [0, 0] else g
    if gm && s.time.passive.contains p && (typ == 0 || typ == 8 || typ == 11) then none
    else if typ = 11 then some (if gm then s.announceSet f o else f)
    else if one && typ == 0 then some (plain (patch f (o + 34) (beBytes 6 t.sec ++ beBytes 4 t.ns)))
    else if one && typ == 3 then
      (match reqAt with
      | some q =>
        let now : Int := (t.sec * 1000000000 + t.ns : Nat) * 2 ^ 16 + (t.fx % 2 ^ 29 / 2 ^ 13 : Nat)
        some (plain (addCorrection f o (now - ((q.1 * 1000000000 + q.2.1) * 2 ^ 16 + q.2.2 : Nat))))
      | none => some f)
    else some f

/-- ETH_FRAME_TRANSMIT: what the device writes at egress, and with a requested timestamp the queue takes an entry, or drops it with OVF
(R304 to R308, R312). -/
def execEthFrameTransmit (p dt : Nat) (id : Option Nat) (reqAt : Option (Nat × Nat × Nat)) (bytes : List Nat) (s : State) : Out :=
  fin (let c : Int := if s.bit (ETH_TS_CTRL_CORR_EN p) then (ethCorr (s.get (ETH_CFG_SPEED p))).1 else 0
    let t := s.time.move (dt + c)
    match (if s.ethUp p then s.ptpEgress p t reqAt bytes else none) with
    | none => s
    | some f =>
      let s := s.emit (.ethTx p f)
      match id with
      | none => s
      | some i =>
        if 16 ≤ s.txtsCount p then (s.bump (ETH_TXTS_STATUS_OVF_CNT p)).put (ETH_TXTS_STATUS_OVF p) 1
        else
          let e : TxTs := ⟨p, i % 65536, t.sec, t.ns, t.fx % 2 ^ 29 / 2 ^ 13, s.get TIME_STATUS_TIME_GEN⟩
          let s := { s with eth := { s.eth with txts := s.eth.txts ++ [e] } }
          s.put (ETH_TXTS_STATUS_COUNT p) (s.txtsCount p))

/-- A read of ETH_TXTS_W0 removes the oldest entry and captures it; an empty queue reads 0 (R306). -/
def State.txtsPop (p : Nat) (s : State) : State :=
  match s.eth.txts.find? (fun t => t.port == p) with
  | none => s.puts [(ETH_TXTS_W0_ID p, 0), (ETH_TXTS_W0_SEC_HI p, 0), (ETH_TXTS_W1_SEC_LO p, 0), (ETH_TXTS_W2_NS p, 0),
      (ETH_TXTS_W3_TIME_GEN p, 0), (ETH_TXTS_W3_FRAC p, 0)]
  | some t =>
    let s := { s with eth := { s.eth with txts := s.eth.txts.erase t } }
    s.puts [(ETH_TXTS_W0_ID p, t.id), (ETH_TXTS_W0_SEC_HI p, t.sec / 2 ^ 32), (ETH_TXTS_W1_SEC_LO p, t.sec),
      (ETH_TXTS_W2_NS p, t.ns), (ETH_TXTS_W3_TIME_GEN p, t.gen), (ETH_TXTS_W3_FRAC p, t.frac),
      (ETH_TXTS_STATUS_COUNT p, s.txtsCount p)]

/-- TXTS_READ (R306). -/
def execTxtsRead (ini p : Nat) (s : State) : Out :=
  fin (if p < 6 then s.asRead ini (0x40610410 + 0x1000 * p) (State.txtsPop p) else s)

end Sys2Proof.Machine
end

