-- ==== Sys2Proof/Machine/Slots.lean ====
section
/-!
DEFINITION. Where the clock stands in the superframe: slots, intervals and instants (spec/01, spec/09, spec/12).
-/

namespace Sys2Proof.Machine

open R

/-- Profile of lane `n`. -/
def State.prof (s : State) (n : Nat) : Nat := s.get (LANE_CFG_PROFILE n)

/-! ## Slots of a shifted superframe (R21, R22, R298, R299) -/

/-- Length of a slot, and of its stop window, in ns. -/
def slotNs (prof : Nat) : Nat := if prof = 0 then 2500000 else 10000000
def stopNs (prof : Nat) : Nat := if prof = 0 then 400000 else 3000000

/-- Length of slot `slot` of a superframe that lasts `len` ns; none where the superframe has no such slot. A last slot
shorter than its stop window and the one before it become two equal slots (R299). -/
def slotSpan (prof len slot : Nat) : Option Nat :=
  let n := len / slotNs prof
  let r := len % slotNs prof
  if r = 0 then (if slot < n then some (slotNs prof) else none)
  else if stopNs prof ≤ r then (if slot < n then some (slotNs prof) else if slot = n then some r else none)
  else if slot + 1 < n then some (slotNs prof)
  else if slot < n + 1 then some ((slotNs prof + r) / 2)
  else none

/-- The last two slots of such a superframe are equal (R299). -/
def slotHalved (prof len : Nat) : Bool := decide (0 < len % slotNs prof ∧ len % slotNs prof < stopNs prof)

/-- Where slot `slot` begins in such a superframe, in ns. -/
def slotStart (prof len slot : Nat) : Nat :=
  if slotHalved prof len && slot == len / slotNs prof then (slot - 1) * slotNs prof + (slotNs prof + len % slotNs prof) / 2
  else slot * slotNs prof

/-- The slot in progress `t` ns after the boundary. -/
def slotAt (prof len t : Nat) : Nat :=
  let n := len / slotNs prof
  if slotHalved prof len && decide ((n - 1) * slotNs prof ≤ t) then (if slotStart prof len n ≤ t then n else n - 1) else t / slotNs prof

/-- A shift has been scheduled (R298). -/
def State.shiftSet (s : State) : Bool := s.bit TIME_STATUS_SHIFT_PENDING && !s.time.shiftWait

/-- Length of superframe SFN in ns: L in superframe S of a shift (R298). -/
def State.superNs (s : State) (sfn : Nat) : Nat :=
  if s.shiftSet && sfn == s.get SHIFT_SFN_S then (100000000 - s.time.shiftPhi).toNat else 100000000

/-- A slot of full length, among those the slot plans of R23 and R402 name. -/
def State.slotFull (s : State) (prof sfn slot : Nat) : Bool :=
  slotSpan prof (s.superNs sfn) slot == some (slotNs prof) && decide (slot < if prof = 0 then 40 else 10)

/-! ## Now -/

/-- Time since the last superframe boundary by the local clock, in ns (R19, R297). -/
def State.sinceNs (s : State) : Nat := (s.time.gpsNs - s.time.gridNs).toNat

/-- A lane's current slot by the local clock (R19, R21, R297, R299). -/
def State.slotNow (s : State) (n : Nat) : Nat := slotAt (s.prof n) (s.superNs s.sfn) s.sinceNs

/-- The slot after the current one on the lanes of a profile: slot 0 of the next superframe after the last. -/
def State.slotNextOf (s : State) (prof : Nat) : Nat :=
  let q := slotAt prof (s.superNs s.sfn) s.sinceNs + 1
  if (slotSpan prof (s.superNs s.sfn) q).isSome then q else 0

/-- Where interval `iv` of a slot begins, in ns from the slot's start (R382): the stop sub-windows 0 and 1, the data part 2. -/
def ivStart (prof iv : Nat) : Nat := stopNs prof * iv / 2

/-- When TXEN rises in an interval, in ns from the slot's start (R382). -/
def txenNs (prof iv : Nat) : Nat := ivStart prof iv + (if prof ≠ 0 then 0 else if iv < 2 then 6000 else 16000)

/-- A lane's current interval (R382). -/
def State.ivNow (s : State) (n : Nat) : Nat :=
  let t := s.sinceNs - slotStart (s.prof n) (s.superNs s.sfn) (s.slotNow n)
  if t < ivStart (s.prof n) 1 then 0 else if t < ivStart (s.prof n) 2 then 1 else 2

/-- The ply that contains the instant `ns` after the boundary of the superframe in progress. -/
def State.instantNow (s : State) (ns : Int) : Bool :=
  s.time.grid && s.reaches (s.time.gridNs + ns + 315964819000000000)

/-- The end of slot `slot` of the superframe in progress, in ns after its boundary; none where it has no such slot. -/
def State.slotEnd (s : State) (n slot : Nat) : Option Nat :=
  (slotSpan (s.prof n) (s.superNs s.sfn) slot).map (fun d => slotStart (s.prof n) (s.superNs s.sfn) slot + d)

/-- The instant 20 µs before TXEN rises in an interval, in ns after the boundary in progress (R391); the first sub-window of slot 0 is that of
the superframe that follows. -/
def State.decisionNs (s : State) (n slot iv : Nat) : Int :=
  let start := if slot = 0 ∧ iv = 0 then s.superNs s.sfn else slotStart (s.prof n) (s.superNs s.sfn) slot
  (start + txenNs (s.prof n) iv : Nat) - 20000

/-- GPS week and millisecond of week that superframe `k` names as its start: the GPS multiple of 100 ms nearest to it
(R19, R300). -/
def State.startOf (s : State) (k : Nat) : Nat × Nat :=
  let ns := s.time.gridNs + ((k : Int) - (s.time.k : Int)) * 100000000
  let ms := ((ns + 50000000) / 100000000).toNat * 100
  (ms / 604800000, ms % 604800000)

end Sys2Proof.Machine
end

