-- ==== Sys2Proof/Machine/Lanes.lean ====
section
/-!
DEFINITION. Lanes, the hop generator and the transmit budgets (spec/12).
-/

namespace Sys2Proof.Machine

open R

/-! ## Profiles (R371, R380 to R383) -/

/-- Channels of a profile (R371). -/
def profChans : Nat → Nat
  | 0 => 79 | 1 => 35 | 2 => 64 | _ => 0

/-- Fewest allowed channels of a profile (R371). -/
def profFewest : Nat → Nat
  | 0 => 15 | 1 => 4 | _ => 50

/-- Centre of a channel in kHz (R371). -/
def chanKHz (prof ch : Nat) : Nat :=
  match prof with
  | 0 => 2402000 + 1000 * ch
  | 1 => 863100 + 200 * ch
  | _ => 902400 + 400 * ch

/-- Intervals of a slot (R382): 0 primary stop sub-window, 1 secondary stop sub-window, 2 data part. -/
abbrev ivData : Nat := 2

/-- Bits per second in units of 50 kbit/s at which an interval runs (R380): stop windows at the high rate. -/
def laneRate (prof rate iv : Nat) : Nat :=
  if prof = 0 then (if iv < 2 ∨ rate = 1 then 40 else 20) else (if iv < 2 ∨ rate = 1 then 2 else 1)

/-- PSDU bytes of an MPDU (R380): PHR, MPDU, CRC. -/
def psduLen (prof mpdu : Nat) : Nat := mpdu + (if prof = 0 then 4 else 3)

/-- The largest PSDU of an interval (R383). -/
def psduMax (prof rate iv : Nat) : Nat :=
  if prof = 0 then (if iv < 2 then 33 else if rate = 1 then 498 else 247)
  else (if iv < 2 then 14 else if rate = 1 then 78 else 36)

/-- TXEN duration of a frame in µs: preamble, sync word and PSDU at the rate, and the ramp on each side (R380, R382). -/
def txenUs (prof rate iv psdu : Nat) : Nat :=
  if prof = 0 then
    let bits := (if laneRate 0 rate iv = 40 then 64 else 32) + 32 + 8 * psdu
    (if laneRate 0 rate iv = 40 then bits / 2 else bits) + 8
  else
    let bits := (if iv < 2 then 16 else 32) + 16 + 8 * psdu
    bits * (if laneRate prof rate iv = 2 then 10 else 20) + 40

/-- The whitening state after one bit (R381). -/
def whitenNext (st : Nat) : Nat := st / 2 + (st + st / 32) % 2 * 256

/-- The whitening byte from a state, least significant bit first, and the state after it. -/
def whitenByte : Nat → Nat → Nat → Nat × Nat
  | 0, _, st => (0, st)
  | n + 1, k, st => let r := whitenByte n (k + 1) (whitenNext st); (st % 2 * 2 ^ k + r.1, r.2)

/-- A byte list whitened or de-whitened from a state (R381). -/
def whitenGo : List Nat → Nat → List Nat
  | [], _ => []
  | b :: t, st => let w := whitenByte 8 0 st; (b ^^^ w.1) :: whitenGo t w.2

/-- The PHR, MPDU and CRC whitened; the sequence starts afresh in every frame (R381). -/
def whiten (bs : List Nat) : List Nat := whitenGo bs 0x1FF

/-- The PHR of a frame (R380). -/
def phr (prof len : Nat) : List Nat := if prof = 0 then leBytes 2 len else [len]

/-- The PSDU of an MPDU before whitening: PHR, MPDU, CRC with its high byte first (R380, R381). -/
def psduOf (prof : Nat) (mpdu : List Nat) : List Nat :=
  let b := phr prof mpdu.length ++ mpdu
  b ++ beBytes 2 (crc16 b)

/-- The MPDU of a received PSDU, or none where the PHR or the CRC is wrong (R380, R381, R384). -/
def psduParse (prof : Nat) (air : List Nat) : Option (List Nat) :=
  let b := whiten air
  let h := if prof = 0 then 2 else 1
  let v := leAt b 0 h
  let len := if prof = 0 then v % 512 else v
  if b.length < h + 2 ∨ (prof = 0 ∧ v ≠ len) ∨ b.length ≠ h + len + 2 then none
  else if beNat (b.drop (h + len)) = crc16 (b.take (h + len)) then some ((b.drop h).take len) else none

/-! ## Lanes -/

/-- Lane `n` beside its registers. -/
def State.lane (s : State) (n : Nat) : LaneState :=
  match s.radio.lanes.find? (fun e => e.1 == n) with
  | some e => e.2
  | none => {}

/-- Lane `n` replaced. -/
def State.setLane (s : State) (n : Nat) (x : LaneState) : State :=
  { s with radio := { s.radio with lanes := s.radio.lanes.filter (fun (e : Nat × LaneState) => e.1 ≠ n) ++ [(n, x)] } }

/-- Lane `n` is in READY. -/
def State.laneReady (s : State) (n : Nat) : Bool := s.get (LANE_STATUS_STATE n) == 3

/-- The device sends another control frame where bits 16 to 47 change; SEQ advances (R375). -/
def State.setCtl (s : State) (n v : Nat) : State :=
  let x := s.lane n
  if x.ctl = v then s else s.setLane n { x with ctl := v, seq := (x.seq + 1) % 256 }

/-- Bits 16 to 47 of a control frame: FREQ, MODE, PWR (R375). -/
def ctlWord (khz mode pwr : Nat) : Nat := khz % 2 ^ 22 + mode * 2 ^ 22 + pwr % 32 * 2 ^ 24

/-! ## The lane link (R373 to R376) -/

/-- Bits `lo` to `lo + n − 1` of a word in transmission order, bit t0 in bit 0 of the word. -/
def wireBits (w lo n : Nat) : List Nat := (List.range n).map (fun k => w / 2 ^ (lo + k) % 2)

/-- An `n`-bit number sent most significant bit first from t`lo` on. -/
def wireNum (w lo n : Nat) : Nat := (wireBits w lo n).foldl (fun v b => 2 * v + b) 0

/-- The CRC-8 of a word, over t6 to t41 (R373). -/
def wireCrc (w : Nat) : Nat := (wireBits w 6 36).foldl (crcBit 8 0x07) 0

/-- SYNC of a word: 1, 1, 1, 1, 1, 0 (R373). -/
def wireSync (w : Nat) : Bool := w % 64 == 31

/-- CRC of a word, x^7 coefficient first (R373). -/
def wireCrcOk (w : Nat) : Bool := wireNum w 42 8 == wireCrc w

/-- A TXD word: I and Q within ±2047, the CTL, APPLY and TXEN bits, zeros and the CRC (R373). -/
def txdWord (i q : Int) (ctl apply txen : Bool) : Nat :=
  let c := fun (x : Int) => revBits 12 (usgn 12 (clampI (-2047) 2047 x))
  let w := 31 + c i * 2 ^ 6 + c q * 2 ^ 18 + b2n ctl * 2 ^ 30 + b2n apply * 2 ^ 31 + b2n txen * 2 ^ 32
  w + revBits 8 (wireCrc w) * 2 ^ 42

/-- The sample of a received word: I, Q, RXV and OVR; zero where the CRC is wrong (R373, R374). -/
def rxdSample (w : Nat) : Int × Int × Bool × Bool :=
  if wireCrcOk w then (sgn 12 (wireNum w 6 12), sgn 12 (wireNum w 18 12), bitOf w 31, bitOf w 32) else (0, 0, false, false)

/-- The control frame that a lane sends (R375). -/
def LaneState.ctlFrame (x : LaneState) : Nat :=
  let v := 0x3A5C + x.ctl % 2 ^ 32 * 2 ^ 16 + x.seq % 256 * 2 ^ 48
  v + revBits 8 (linkCrc v) * 2 ^ 56

/-- The 64 words that carry a control frame, without a sample to radiate, and the word with APPLY after them (R373, R375, R377). -/
def LaneState.ctlWords (x : LaneState) : List Nat :=
  (List.range 64).map (fun j => txdWord 0 0 (bitOf x.ctlFrame j) false false) ++ [txdWord 0 0 false true false]

/-- The status frame in the STS bits of a span of words (R376). -/
def stsFrame (words : List Nat) : Nat := words.foldr (fun w v => b2n (bitOf w 30) + 2 * v) 0

/-! ## Allowed lists and the hop generator (R385 to R388) -/

/-- The exclusion bitmaps of the shadows, by profile (HOP_EXCL). -/
def State.exclShadow (s : State) : List Nat :=
  let w := fun j => s.get (HOP_EXCL_EXCL j)
  [(w 0 + w 1 * 2 ^ 32 + w 2 * 2 ^ 64) % 2 ^ 79, (w 3 + w 4 * 2 ^ 32) % 2 ^ 35, w 5 + w 6 * 2 ^ 32]

/-- The channels of a profile that a bitmap does not exclude, ascending. -/
def allowedOf (prof excl : Nat) : List Nat := (List.range (profChans prof)).filter (fun c => !bitOf excl c)

/-- The allowed list of a profile: by the settings in force, or every channel before the first apply lands (R387). -/
def State.allowed (s : State) (prof : Nat) : List Nat :=
  match s.radio.hop with
  | some h => allowedOf prof (h.excl.getD prof 0)
  | none => allowedOf prof 0

/-- The join list of a profile (R429). -/
def joinList (prof : Nat) : List Nat :=
  (List.range (profChans prof)).filter (fun c => !(prof == 1 && (c == 28 || c == 31 || c == 33)))

/-- The first index from `i` on, round the list, whose channel is not taken; at most `n` steps (R385). -/
def freeIndex (allowed taken : List Nat) : Nat → Nat → Nat
  | 0, i => i
  | n + 1, i => if taken.contains (allowed.getD i 0) then freeIndex allowed taken n ((i + 1) % allowed.length) else i

/-- The first 32 bits of the generator's block for a lane (R385). -/
def hopWord (key : List Nat) (iv sfn slot lane : Nat) : Nat :=
  beNat ((aesEncrypt key (beBytes 16 ((iv + sfn * 512 + slot * 8 + lane) % 2 ^ 128))).take 4)

/-- The channels of a hop set in one slot, as (lane, channel) in lane order (R385). -/
def hopChannels (key : List Nat) (iv sfn slot : Nat) (allowed : List Nat) : List Nat → List Nat → List (Nat × Nat)
  | [], _ => []
  | l :: t, taken =>
    let i := freeIndex allowed taken allowed.length (hopWord key iv sfn slot l % allowed.length)
    let c := allowed.getD i 0
    (l, c) :: hopChannels key iv sfn slot allowed t (taken ++ [c])

/-- The lanes of a profile in a hop lane set, ascending (R385). -/
def hopSetOf (h : HopSet) (prof : Nat) : List Nat :=
  (List.range 8).filter (fun l => bitOf h.lanes l && h.profs.getD l 3 == prof)

/-- A hop set with its allowed list breaks R386. -/
def hopBreaks (h : HopSet) : Bool :=
  (List.range 3).any (fun p =>
    let m := (hopSetOf h p).length
    let n := (allowedOf p (h.excl.getD p 0)).length
    decide (n < m) || (decide (1 ≤ m) && decide (n < profFewest p)))

/-- Slot `q` of boundary `k` is an association slot of a profile (R402, R428). -/
def assocSlot (prof k slot : Nat) : Bool :=
  if prof = 0 then slot == 2
  else k % 10 == 0 && (slot == 2 || (slot == 9 && k / 10 % 2 == 1))

/-- The boundary whose superframe a slot computed or decided now belongs to: slot 0 is that of the next boundary, since
its channels are computed during the slot before and its first sub-window is decided before the boundary (R388, R391). -/
def State.nextK (s : State) (slot : Nat) : Nat := if slot = 0 then s.time.k + 1 else s.time.k

/-- The SFN of boundary `k`, where the unit has one (R19, R685). -/
def State.sfnAt (s : State) (k : Nat) : Option Nat :=
  if s.bit NET_K0_HI_VALID && s.time.grid && decide (s.k0 ≤ k) then some (min (k - s.k0) 0xFFFFFFFF) else none

/-- The hop key under which a slot's channels are computed: the key slot in force, or in an association slot the one
formed from the join key (R428). The key of an apply is the one its first computation finds; a computation that finds
none fails those that follow too, until another apply lands (R386, R388; log 110). -/
def State.hopKey (s : State) (h : HopSet) (assoc : Bool) : Option (List Nat) :=
  if assoc then (s.useKey (s.get MAC_KEYS_JOIN_KEY_SLOT) 1 2).map (fun j => aesEncrypt j (List.replicate 16 0x4A))
  else if h.failed ∨ (h.gen.isSome ∧ h.gen ≠ some (s.get (KS_SLOT_W1_GEN h.keySlot))) then none
  else s.useKey h.keySlot 1 2

/-- The channels of one profile for a slot: by R385, or by R428 in an association slot. -/
def State.slotChannels (h : HopSet) (key : List Nat) (prof k sfn slot : Nat) (assoc : Bool) : List (Nat × Nat) :=
  if assoc then hopChannels key 0 (k % 2 ^ 32) slot (joinList prof) (List.range 8) []
  else hopChannels key h.iv sfn slot (allowedOf prof (h.excl.getD prof 0)) (hopSetOf h prof) []

/-- The hop settings of the superframe of boundary `k`: pending ones from TARGET_SFN on (R387). -/
def State.hopFor (s : State) (k : Nat) : Option HopSet :=
  match s.radio.pend, s.sfnAt k with
  | some (h, t), some sfn => if t ≤ sfn then some h else s.radio.hop
  | _, _ => s.radio.hop

/-- The settings that `hopFor` names, with what a computation under them has found noted. -/
def State.hopMark (s : State) (k : Nat) (f : HopSet → HopSet) : State :=
  let now : State := { s with radio := { s.radio with hop := s.radio.hop.map f } }
  match s.radio.pend, s.sfnAt k with
  | some (h, t), some sfn => if t ≤ sfn then { s with radio := { s.radio with pend := some (f h, t) } } else now
  | _, _ => now

/-- What a computation notes: the key it ran under, or that it found none (R386, R388); an association slot's notes nothing. -/
def State.hopNote (s : State) (k : Nat) (assoc ok : Bool) : State :=
  if assoc then s
  else s.hopMark k (fun h => if ok then { h with gen := some (s.get (KS_SLOT_W1_GEN h.keySlot)) } else { h with failed := true })

/-- HOP_COMPUTE for one profile: the channels of the next slot, or HOP_FAIL and silence (R388). -/
def State.hopCompute (prof slot : Nat) (s : State) : State :=
  let k := s.nextK slot
  match s.hopFor k, s.sfnAt k with
  | some h, some sfn =>
    let mine := (List.range 8).filter (fun l => bitOf h.lanes l && s.prof l == prof)
    if mine.isEmpty then s
    else
      let assoc := assocSlot prof k slot
      let slotOf := if assoc then s.get MAC_KEYS_JOIN_KEY_SLOT else h.keySlot
      let s := { s with radio := { s.radio with
        chans := s.radio.chans.filter (fun (c : HopChan) => !(mine.contains c.lane && decide (c.k ≠ s.time.k ∨ c.slot = slot))) } }
      let found := s.hopKey h assoc
      let s := s.hopNote k assoc found.isSome
      match found with
      | none => ((s.keyAbort slotOf 1 2).put HOP_CTRL_HOP_FAIL 1).record .hopFail (leBytes 4 sfn ++ [slot, prof])
      | some key =>
        let cs := (State.slotChannels h key prof k sfn slot assoc).filter (fun e => mine.contains e.1)
        let s := { s with radio := { s.radio with
          chans := s.radio.chans ++ cs.map (fun (e : Nat × Nat) => ({ lane := e.1, k := k, slot := slot, ch := e.2 } : HopChan)) } }
        cs.foldl (fun s e => s.setCtl e.1 (ctlWord (chanKHz prof e.2) 1 (s.get (LANE_CFG_PWR e.1)))) s
  | _, _ => s

/-- HOP_COMPUTE: the channels of the next slot, computed once during the slot before, on the 2.4 GHz lanes or on the sub-GHz
lanes (R388). -/
def execHopCompute (sub : Bool) (s : State) : Out :=
  fin (let slot := s.slotNextOf (b2n sub)
    let at' := some (s.nextK slot, slot)
    if s.domOff 8 ∨ !s.time.grid then s
    else if sub then
      (if s.radio.hopAtS = at' then s
      else ({ s with radio := { s.radio with hopAtS := at' } }.hopCompute 1 slot).hopCompute 2 slot)
    else if s.radio.hopAt0 = at' then s
    else { s with radio := { s.radio with hopAt0 := at' } }.hopCompute 0 slot)

/-- The channel of a lane in a slot, as computed. -/
def State.chanOf (s : State) (n k slot : Nat) : Option Nat :=
  (s.radio.chans.find? (fun c => c.lane == n && c.k == k && c.slot == slot)).map (·.ch)

/-! ## Budget accounts (R389 to R395) -/

/-- Account `m`'s history. -/
def State.hist (s : State) (m : Nat) : AcctHist :=
  match s.radio.accts.find? (fun e => e.1 == m) with
  | some e => e.2
  | none => {}

/-- Ordinary and stop sum of a history (R389). -/
def AcctHist.ord (h : AcctHist) : Nat := h.cur.1 + (h.old.map (·.1)).sum
/-- Stop sum of a history (R389). -/
def AcctHist.stop (h : AcctHist) : Nat := h.cur.2 + (h.old.map (·.2)).sum

/-- Account `m`'s history replaced; its sums show in W5 and W6. -/
def State.setHist (s : State) (m : Nat) (h : AcctHist) : State :=
  ({ s with radio := { s.radio with accts := s.radio.accts.filter (fun (e : Nat × AcctHist) => e.1 ≠ m) ++ [(m, h)] } }).puts
    [(ACCT_W5_ORD_SUM m, h.ord), (ACCT_W6_STOP_SUM m, h.stop)]

/-- Account `m` is enforced and covers a channel of a profile (R389, R390). -/
def State.covers (s : State) (prof ch m : Nat) : Bool :=
  s.bit (ACCT_W0_EN m) && s.get (ACCT_W0_PROFILE m) == prof &&
  decide (s.get (ACCT_W0_CH_LO m) ≤ ch ∧ ch ≤ s.get (ACCT_W0_CH_HI m))

/-- The accounts that cover a channel. -/
def State.covering (s : State) (prof ch : Nat) : List Nat := (List.range 128).filter (s.covers prof ch)

/-- Classes of frames (R391). -/
inductive Cls where
  | stop | beacon | data
  deriving DecidableEq, Repr

/-- The charge of a frame (R390). -/
def State.charge (s : State) (m us : Nat) : Nat := cdiv (us * s.get (ACCT_W0_WEIGHT m)) 256

/-- Account `m` passes a frame (R391). -/
def State.acctOk (s : State) (c : Cls) (us m : Nat) : Bool :=
  let h := s.hist m
  match c with
  | .stop => decide (h.stop + s.charge m us ≤ s.get (ACCT_W3_RESERVE_US m))
  | .beacon => decide (h.ord + s.charge m us + s.get (ACCT_W3_RESERVE_US m) ≤ s.get (ACCT_W2_LIMIT_US m))
  | .data => decide (h.ord + s.charge m us + s.get (ACCT_W3_RESERVE_US m) + s.get (ACCT_W4_BEACON_RES_US m) ≤
      s.get (ACCT_W2_LIMIT_US m))

/-- A refusal counted in account `m` (R392). -/
def State.countRefusal (c : Cls) (s : State) (m : Nat) : State :=
  match c with
  | .stop => s.bump (ACCT_W7_STOP_REFUSED m)
  | _ => s.bump (ACCT_W7_ORD_REFUSED m)

/-- A charge to account `m`'s current bucket (R390). -/
def State.chargeAcct (c : Cls) (us : Nat) (s : State) (m : Nat) : State :=
  let h := s.hist m
  let v := s.charge m us
  s.setHist m { h with cur := match c with | .stop => (h.cur.1, h.cur.2 + v) | _ => (h.cur.1 + v, h.cur.2) }

/-- The budget test of a frame on a channel: charged to every covering account, or refused and counted in each refusing
one (R391, R392). -/
def State.budget (s : State) (c : Cls) (prof ch us : Nat) : State × Bool :=
  let l := s.covering prof ch
  let bad := l.filter (fun m => !s.acctOk c us m)
  if bad.isEmpty then (l.foldl (State.chargeAcct c us) s, true) else (bad.foldl (State.countRefusal c) s, false)

/-- The power of a frame: the lower of PWR and the lowest PMAX among its covering accounts (R393). -/
def State.power (s : State) (n ch : Nat) : Nat :=
  (s.covering (s.prof n) ch).foldl (fun p m => min p (s.get (ACCT_W1_PMAX m))) (s.get (LANE_CFG_PWR n))

/-- An account counts for RESERVE_LOW (R531). -/
def State.reserveLowAcct (s : State) (m : Nat) : Bool :=
  s.bit (ACCT_W0_EN m) && decide (3 * s.get (ACCT_W3_RESERVE_US m) ≤ 4 * (s.hist m).stop) &&
  (List.range 8).any (fun n => s.laneReady n && s.prof n == s.get (ACCT_W0_PROFILE m) &&
    (s.allowed (s.prof n)).any (fun ch => s.covers (s.prof n) ch m))

/-- RESERVE_LOW evaluated; a change writes an event record (R531). -/
def State.reserveLow (s : State) : State :=
  let b := (List.range 128).any s.reserveLowAcct
  if s.bit ROOK_STATE_RESERVE_LOW == b then s
  else (s.put ROOK_STATE_RESERVE_LOW (b2n b)).record .reserveLow [b2n b]

/-- BUDGET_BUCKET_ROLL: at a ply that is a multiple of BUCKET_MS × 100 the current bucket joins the 59 before it
(R389). -/
def execBudgetBucketRoll (m : Nat) (s : State) : Out :=
  fin (let b := s.get (ACCT_W1_BUCKET_MS m) * 100
    let h := s.hist m
    if m < 128 ∧ b ≠ 0 ∧ s.ply % b = 0 ∧ h.rolled ≠ some s.ply then
      (s.setHist m { h with cur := (0, 0), old := (h.cur :: h.old).take 59, rolled := some s.ply }).reserveLow
    else s)

/-! ## Lane states (R379) -/

/-- A lane goes to FAULT with a cause. -/
def State.laneFault (n cause : Nat) (s : State) : State :=
  s.puts [(LANE_STATUS_STATE n, 4), (LANE_STATUS_CAUSE n, cause)]

/-- A READY lane one of whose allowed channels no enabled account covers goes to FAULT (R393). -/
def State.noBudget (s : State) (n : Nat) : State :=
  if s.laneReady n && (s.allowed (s.prof n)).any (fun ch => (s.covering (s.prof n) ch).isEmpty) then s.laneFault n 5 else s

/-- R393 judged for every lane, and RESERVE_LOW after it. -/
def State.noBudgetAll (s : State) : State := ((List.range 8).foldl State.noBudget s).reserveLow

/-- A lane in the hop set in force whose profile differs from the one captured at the apply (R386). -/
def State.profLost (s : State) (n : Nat) : Bool :=
  match s.radio.hop with
  | some h => bitOf h.lanes n && h.profs.getD n 3 != s.prof n
  | none => false

/-- A lane enters HUNT: its capability cycles start again; the link is in HUNT where the clock runs (R374, R379). -/
def State.laneHunt (s : State) (n : Nat) : State :=
  let x := s.lane n
  (s.setLane n { x with link := if x.clkOk then 1 else 0, good := 0, part := [], last := none, prev := none }).put (LANE_STATUS_STATE n) 1

/-- A write to LANE_CFG that R372 takes. -/
def State.laneCfgPut (s : State) (n data : Nat) : State :=
  s.puts [(LANE_CFG_EN n, bits data 31 31), (LANE_CFG_PROFILE n, bits data 30 29), (LANE_CFG_RATE n, bits data 28 28),
    (LANE_CFG_PWR n, bits data 20 16)]

/-- A write to LANE_CFG is refused: it changes a setting of an enabled lane (R372). -/
def State.laneCfgDenied (s : State) (n data : Nat) : Bool :=
  s.bit (LANE_CFG_EN n) && bitOf data 31 &&
  (bits data 30 29 != s.prof n || bits data 28 28 != s.get (LANE_CFG_RATE n) || bits data 20 16 != s.get (LANE_CFG_PWR n))

/-- A write to LANE_CFG (R372, R379, R398). -/
def State.laneCfg (n data : Nat) (s : State) : State :=
  if bits data 30 29 = 3 ∨ s.laneCfgDenied n data then s
  else
    let was := s.bit (LANE_CFG_EN n)
    let s := s.laneCfgPut n data
    if !was && bitOf data 31 then
      let x := s.lane n
      ((s.setLane n { x with lo := 0, link := 0 }).puts [(LANE_TRIM_LO_OFS n, 0), (LANE_STATUS_CAUSE n, 0)]).laneHunt n
    else if was && !bitOf data 31 then
      (s.setLane n { s.lane n with link := 0, part := [], last := none, prev := none }).puts
        [(LANE_STATUS_STATE n, 0), (LANE_STATUS_CAUSE n, 0)]
    else s

/-- LANE_ENABLE: a LANE_CFG write that sets EN (R372). -/
def execLaneEnable (ini n data : Nat) (s : State) : Out :=
  fin (if n < 8 ∧ !s.bit (LANE_CFG_EN n) ∧ bitOf data 31 then s.asWrite ini (0x40300000 + 0x1000 * n) (State.laneCfg n data) else s)

/-- LANE_DISABLE: a LANE_CFG write that clears EN (R372). -/
def execLaneDisable (ini n data : Nat) (s : State) : Out :=
  fin (if n < 8 ∧ s.bit (LANE_CFG_EN n) ∧ !bitOf data 31 then
    (s.asWrite ini (0x40300000 + 0x1000 * n) (State.laneCfg n data)).reserveLow else s)

/-- LANE_LINK_LOCKED: after 64 good words in HUNT (R374, R379). -/
def execLaneLinkLocked (n : Nat) (s : State) : Out :=
  fin (let x := s.lane n
    if n < 8 ∧ s.bit (LANE_CFG_EN n) ∧ x.link = 1 ∧ 64 ≤ x.good then
      let s := (s.setLane n { x with link := 2, recent := [], fallen := false, part := [], last := none, prev := none }).bump (LANE_CNT_RELOCKS n)
      let s := s.record .laneRelock [n]
      if s.get (LANE_STATUS_STATE n) = 1 then s.put (LANE_STATUS_STATE n) 2 else s
    else s)

/-- LANE_LINK_LOST: bad words have ended LOCKED, or the clock has stopped (R374); from CHECK and READY the lane returns to HUNT
(R379). -/
def execLaneLinkLost (n : Nat) (clkLost : Bool) (s : State) : Out :=
  fin (let x := s.lane n
    if n < 8 ∧ (clkLost ∨ (x.link = 2 ∧ x.fallen)) then
      let st := s.get (LANE_STATUS_STATE n)
      let s := s.setLane n { x with clkOk := !clkLost, link := if clkLost then 0 else 1, good := 0, recent := [], fallen := false, rx := [] }
      let s := if st = 3 then s.record .laneLost [n] else s
      if st = 2 ∨ st = 3 then (s.laneHunt n).reserveLow else s
    else s)

/-- The six causes of R379 that a capability cycle decides, for the words of a cycle; 0 none. -/
def State.capsCause (s : State) (n : Nat) (w : List Nat) : Nat :=
  let v := fun i => w.getD i 0
  let prof := s.prof n
  if !bitOf (v 1) prof then 2
  else if (if prof = 0 then 36 else 180) < v 3 % 256 ∨ 10 < v 3 / 256 then 3
  else if v 2 % 256 < s.get (LANE_CFG_PWR n) ∨ s.get (LANE_CFG_PWR n) < v 2 / 256 then 4
  else if s.profLost n then 6
  else 0

/-- CHECK of a cycle of capability words (R378). -/
def capsCheckOk (w : List Nat) : Bool := w.getD 7 0 == crc16 ((w.take 7).flatMap (leBytes 2))

/-- LANE_CAPS_CHECK: two consecutive complete equal cycles with CHECK correct move the lane on (R379). -/
def execLaneCapsCheck (n : Nat) (s : State) : Out :=
  fin (let x := s.lane n
    match x.last, x.prev with
    | some a, some b =>
      if n < 8 ∧ s.get (LANE_STATUS_STATE n) = 2 ∧ a = b ∧ capsCheckOk a then
        let c := s.capsCause n a
        if c ≠ 0 then s.laneFault n c else (((s.put (LANE_STATUS_STATE n) 3).noBudget n)).reserveLow
      else s
    | _, _ => s)

/-- A capability word joins the cycle in progress; index 7 completes it (R376, R378). -/
def capPush (x : LaneState) (idx w : Nat) : LaneState :=
  let p := if idx = 0 then [w] else if x.part.length = idx then x.part ++ [w] else []
  if idx = 7 ∧ p.length = 8 then { x with part := [], last := some p, prev := x.last }
  else if p.isEmpty then { x with part := [], last := none, prev := none }
  else { x with part := p }

/-- One word in HUNT, counted while it is correct (R374). -/
def LaneState.huntWord (x : LaneState) (w : Nat) : LaneState :=
  { x with good := if wireSync w && wireCrcOk w then min (x.good + 1) 64 else 0 }

/-- One word in LOCKED: 4 wrong in succession, or 8 within 256, end it (R374). -/
def LaneState.lockWord (x : LaneState) (w : Nat) : LaneState :=
  let l := ((!(wireSync w && wireCrcOk w)) :: x.recent).take 256
  { x with recent := l
           fallen := x.fallen || (l.take 4 == [true, true, true, true]) || decide (8 ≤ (l.filter id).length) }

/-- The fields of a good status frame; in READY a changed capability word is a FAULT (R376, R378, R379). -/
def State.laneStatus (s : State) (n frame : Nat) : State :=
  let i := bits frame 28 26
  let w := bits frame 47 32
  let f := if i % 2 = 0 then LANE_CAP_WORD_LO n (i / 2) else LANE_CAP_WORD_HI n (i / 2)
  let old := s.get f
  let s := s.setLane n (capPush (s.lane n) i w)
  let s := s.puts [(LANE_STATUS_RSSI n, bits frame 23 16), (LANE_STATUS_SYNTH_LOCK n, bits frame 24 24),
    (LANE_STATUS_PA_ALARM n, bits frame 25 25), (LANE_STATUS_CTL_ACK n, bits frame 55 48), (f, w)]
  if s.laneReady n && w != old then (s.laneFault n 1).reserveLow else s

/-- LANE_STATUS_FRAME: the words of a span of RXD. They show the clock; in HUNT they are counted; in LOCKED each gives a sample and a wrong
CRC is counted, and the status frame in their STS bits changes fields where its SYNC and CRC are right (R373, R374, R376). -/
def execLaneStatusFrame (n : Nat) (words : List Nat) (s : State) : Out :=
  fin (if 8 ≤ n ∨ !s.bit (LANE_CFG_EN n) then s
    else
      let x := s.lane n
      let x := { x with clkOk := true, link := if x.link = 0 then 1 else x.link, good := if x.link = 0 then 0 else x.good }
      if x.link ≠ 2 then s.setLane n (words.foldl LaneState.huntWord x)
      else
        let y : LaneState := words.foldl LaneState.lockWord x
        let s := s.setLane n { y with rx := words.map rxdSample }
        let s := s.bump (LANE_CNT_CRC_ERR n) (words.filter (fun w => !wireCrcOk w)).length
        if linkFrameOk 0xC5A3 (stsFrame words) then s.laneStatus n (stsFrame words) else s)

/-- TRX_CONTROL_APPLY: the device sends its control frame and then the APPLY word; the transceiver receives the frame with the bits of `err`
inverted, and applies the last one it received correctly (R373, R375, R377). -/
def execTrxControlApply (n err : Nat) (s : State) : Out :=
  fin (let e : TrxExt := match s.trx.find? (fun e => e.1 == n) with | some e => e.2 | none => {}
    let x := s.lane n
    let p := if linkFrameOk 0x3A5C (x.ctlFrame ^^^ (err % 2 ^ 64)) then some (x.ctl, x.seq) else e.pend
    let c := match p with | some v => some v | none => e.cur
    if 8 ≤ n ∨ !s.bit (LANE_CFG_EN n) then s
    else
      let l : List (Nat × TrxExt) := s.trx.filter (fun (e : Nat × TrxExt) => e.1 ≠ n) ++ [(n, { pend := none, cur := c })]
      ({ s with trx := l }).emit (.laneTx n x.ctlWords))

/-! ## Account writes (R394) -/

/-- A write to W0 of account `m`, EN being clear, or one that only clears EN. -/
def State.acctW0Taken (s : State) (m data : Nat) : Bool :=
  if s.bit (ACCT_W0_EN m) then
    !bitOf data 31 && bits data 30 29 == s.get (ACCT_W0_PROFILE m) && bits data 24 17 == s.get (ACCT_W0_CH_HI m) &&
    bits data 16 9 == s.get (ACCT_W0_CH_LO m) && bits data 8 0 == s.get (ACCT_W0_WEIGHT m)
  else !(bitOf data 31 && s.get (ACCT_W1_BUCKET_MS m) == 0)

/-- The starting history: every bucket holds (LIMIT − RESERVE − BEACON_RES) / 60 ordinary, rounded up (R394). -/
def State.startHist (s : State) (m : Nat) : AcctHist :=
  let v := cdiv (s.get (ACCT_W2_LIMIT_US m) - s.get (ACCT_W3_RESERVE_US m) - s.get (ACCT_W4_BEACON_RES_US m)) 60
  { cur := (v, 0), old := List.replicate 59 (v, 0), started := true, rolled := (s.hist m).rolled }

/-- A write to word `w` of account `m` (0 to 4): locked by ACCT_CTRL.LOCK, refused while EN is set but for the clearing
of EN (R394); any word written has R393 judged. PROFILE 3 is reserved (R15). -/
def State.acctWrite (m w data : Nat) (s : State) : State :=
  if s.bit ACCT_CTRL_LOCK then s
  else match w with
  | 0 =>
    if bits data 30 29 = 3 ∨ !s.acctW0Taken m data then s
    else
      let starts := !s.bit (ACCT_W0_EN m) && bitOf data 31 && !(s.hist m).started
      let s := s.puts [(ACCT_W0_EN m, bits data 31 31), (ACCT_W0_PROFILE m, bits data 30 29),
        (ACCT_W0_CH_HI m, bits data 24 17), (ACCT_W0_CH_LO m, bits data 16 9), (ACCT_W0_WEIGHT m, bits data 8 0)]
      (if starts then s.setHist m (s.startHist m) else s).noBudgetAll
  | _ =>
    if s.bit (ACCT_W0_EN m) then s
    else
      (match w with
      | 1 => s.puts [(ACCT_W1_PMAX m, bits data 31 24), (ACCT_W1_BUCKET_MS m, bits data 23 0)]
      | 2 => s.put (ACCT_W2_LIMIT_US m) data
      | 3 => s.put (ACCT_W3_RESERVE_US m) data
      | _ => s.put (ACCT_W4_BEACON_RES_US m) data).noBudgetAll

/-- An account of the shipped profiles (R395): its channels, BUCKET_MS, LIMIT_US, WEIGHT and PMAX. -/
structure ShipAcct where
  lo : Nat
  hi : Nat
  bucket : Nat
  limit : Nat
  weight : Nat
  pmax : Nat
  deriving DecidableEq, Repr

/-- The accounts that the settings blob of a shipped profile fills; on profile 0 WEIGHT and PMAX follow from the EIRP in mW (R395). -/
def shipAccts (prof eirp pmax : Nat) : List ShipAcct :=
  match prof with
  | 0 => [⟨0, 78, 17, 100000, min (quant ((256 * eirp : Nat) : Int) 100).toNat 511, pmax⟩]
  | 1 => [⟨0, 9, 61017, 3600000, 256, 14⟩, ⟨10, 24, 61017, 36000000, 256, 14⟩, ⟨25, 27, 61017, 36000000, 256, 14⟩,
          ⟨29, 30, 61017, 3600000, 256, 14⟩, ⟨32, 32, 61017, 360000000, 256, 27⟩, ⟨34, 34, 61017, 36000000, 256, 14⟩]
  | _ => (List.range 64).map (fun c => ⟨c, c, 339, 400000, 256, 30⟩)

/-- Account `m` filled and set in force, with RESERVE and BEACON_RES a tenth of LIMIT each; one in force already stays (R394, R395). -/
def State.shipAcct (s : State) (m prof : Nat) (a : ShipAcct) : State :=
  if s.bit (ACCT_W0_EN m) then s
  else
    let s := s.puts [(ACCT_W0_EN m, 1), (ACCT_W0_PROFILE m, prof), (ACCT_W0_CH_HI m, a.hi), (ACCT_W0_CH_LO m, a.lo),
      (ACCT_W0_WEIGHT m, a.weight), (ACCT_W1_PMAX m, a.pmax), (ACCT_W1_BUCKET_MS m, a.bucket), (ACCT_W2_LIMIT_US m, a.limit),
      (ACCT_W3_RESERVE_US m, a.limit / 10), (ACCT_W4_BEACON_RES_US m, a.limit / 10)]
    if (s.hist m).started then s else s.setHist m (s.startHist m)

/-- The shipped profiles of the settings fill the accounts from 0 on, and profile 1 the exclusion list with channels 28, 31 and 33 (R395). -/
def State.shipProfiles (s : State) (l : List (Nat × Nat × Nat)) : State :=
  if s.domOff 8 then s
  else
    let rows := l.flatMap (fun e => (shipAccts e.1 e.2.1 e.2.2).map (fun a => (e.1, a)))
    let s := ((List.range rows.length).zip rows).foldl (fun s e => s.shipAcct e.1 e.2.1 e.2.2) s
    let s := if l.any (fun e => e.1 == 1) then s.puts [(HOP_EXCL_EXCL 3, s.get (HOP_EXCL_EXCL 3) ||| (2 ^ 28 + 2 ^ 31)),
      (HOP_EXCL_EXCL 4, s.get (HOP_EXCL_EXCL 4) ||| 2)] else s
    s.noBudgetAll

/-- ACCOUNT_ENABLE: a W0 write that sets EN (R394). -/
def execAccountEnable (ini m data : Nat) (s : State) : Out :=
  fin (if m < 128 ∧ bitOf data 31 then s.asWrite ini (0x40309000 + 0x20 * m) (State.acctWrite m 0 data) else s)

/-- ACCOUNT_DISABLE: a W0 write that clears EN (R394). -/
def execAccountDisable (ini m data : Nat) (s : State) : Out :=
  fin (if m < 128 ∧ !bitOf data 31 then s.asWrite ini (0x40309000 + 0x20 * m) (State.acctWrite m 0 data) else s)

/-! ## The hop apply (R387) -/

/-- The settings the shadows hold now, with the lane profiles in force at the write. -/
def State.hopShadow (s : State) (ver : Nat) : HopSet :=
  { lanes := s.get HOP_CTRL_LANES, keySlot := s.get HOP_CTRL_KEY_SLOT
    iv := (List.range 4).foldl (fun v j => v * 2 ^ 32 + s.get (HOP_IV_IV j)) 0
    excl := s.exclShadow, profs := (List.range 8).map s.prof, ver := ver }

/-- An apply is refused (R387). -/
def State.hopRefused (s : State) (h : HopSet) : Bool :=
  let t := s.get HOP_TARGET_SFN
  !s.hasSfn || decide (t < s.sfn + 9) || s.radio.pend.isSome || hopBreaks h ||
  (!((hopSetOf h 1).isEmpty && (hopSetOf h 2).isEmpty) && (t % 10 != 0 || decide (t < s.sfn + 20)))

/-- The DSEQ after `d`: 1 to 65535 and round. -/
def dseqNext (d : Nat) : Nat := if 65535 ≤ d then 1 else d + 1

/-- A write to HOP_CTRL: the W1C bits, the shadows, and an APPLY that is scheduled or refused (R387, R414). -/
def State.hopCtrl (data : Nat) (s : State) : State :=
  let s := if bitOf data 30 then s.put HOP_CTRL_REFUSED 0 else s
  let s := if bitOf data 28 then s.put HOP_CTRL_HOP_FAIL 0 else s
  let s := s.puts [(HOP_CTRL_LANES, bits data 23 16), (HOP_CTRL_KEY_SLOT, bits data 8 0)]
  if !bitOf data 31 then s
  else
    let v := (s.radio.hopVer + 1) % 65536
    let h := s.hopShadow v
    if s.hopRefused h then s.put HOP_CTRL_REFUSED 1
    else
      let d := dseqNext s.radio.bseq
      { s with radio := { s.radio with
        pend := some (h, s.get HOP_TARGET_SFN), hopVer := v, hopSeq := d, bseq := dseqNext d } }.put HOP_CTRL_PENDING 1

/-- HOP_APPLY: a HOP_CTRL write with APPLY (R387). -/
def execHopApply (ini data : Nat) (s : State) : Out :=
  fin (if bitOf data 31 then s.asWrite ini 0x40308000 (State.hopCtrl data) else s)

/-- Hop settings come into force: the N fields, the lanes whose profile has changed, and R393 (R386, R387, R393). -/
def State.hopLand (s : State) (h : HopSet) : State :=
  let n := fun p => (allowedOf p (h.excl.getD p 0)).length
  let s := { s with radio := { s.radio with hop := some h, pend := none } }
  let s := s.puts [(HOP_CTRL_PENDING, 0), (HOP_STATUS_N_0, n 0), (HOP_STATUS_N_1, n 1), (HOP_STATUS_N_2, n 2)]
  ((List.range 8).foldl (fun s l => if s.profLost l && s.get (LANE_STATUS_STATE l) != 0 then s.laneFault l 6 else s) s).noBudgetAll

end Sys2Proof.Machine
end

