-- ==== Sys2Proof/Machine/Members.lean ====
section
/-!
DEFINITION. The member table, the slot tables, the flocks and the CMD items queued for members (spec/13): what the MAC,
the dispatcher and the track engine share.
-/

namespace Sys2Proof.Machine

open R

/-! ## The member table -/

/-- What the MAC holds of address `a` beside its registers. -/
def State.mem (s : State) (a : Nat) : MacMember :=
  match s.mac.members.find? (fun e => e.1 == a) with
  | some e => e.2
  | none => {}

/-- It replaced. -/
def State.setMem (s : State) (a : Nat) (m : MacMember) : State :=
  { s with mac := { s.mac with members := s.mac.members.filter (fun (e : Nat × MacMember) => e.1 ≠ a) ++ [(a, m)] } }

/-- It forgotten. -/
def State.delMem (s : State) (a : Nat) : State :=
  { s with mac := { s.mac with members := s.mac.members.filter (fun (e : Nat × MacMember) => e.1 ≠ a) } }

/-- State of an address: 0 FREE, 1 OFFERED, 2 ACTIVE. -/
def State.memState (s : State) (a : Nat) : Nat := s.get (MEMBER_W2_STATE a)

/-- A short address (R370, R446). -/
def isAddr (a : Nat) : Bool := decide (1 ≤ a) && decide (a ≤ 0xC0)

/-- Every short address, ascending. -/
def allAddrs : List Nat := (List.range 192).map (· + 1)

/-- CAPS of a member (R431). -/
def State.caps (s : State) (a : Nat) : Nat := s.get (MEMBER_W3_CAPS a)

/-- The 8 bytes of a member's EUI. -/
def State.eui (s : State) (a : Nat) : List Nat := leBytes 4 (s.get (MEMBER_W0_EUI a)) ++ leBytes 4 (s.get (MEMBER_W1_EUI a))

/-- Reverse travel is allowed (R431, R485). -/
def State.reverseOk (s : State) (a : Nat) : Bool := bitOf (s.caps a) 2

/-! ## Flocks (R437) -/

/-- Address `a` is in flock `f`. -/
def State.inFlock (s : State) (f a : Nat) : Bool := s.getBit (FLOCK_MEMBERS f ((a - 1) / 32)) ((a - 1) % 32)

/-- The set of flocks of an address, bit f for flock f. -/
def State.flocksOf (s : State) (a : Nat) : Nat :=
  (List.range 16).foldl (fun v f => if s.inFlock f a then setBit v f else v) 0

/-- The addresses that a TARGET names now: a member, a flock, or all (R533, R437). -/
def State.targets (s : State) (t : Nat) : List Nat :=
  if t = 0xFF then allAddrs else if 0xD0 ≤ t then allAddrs.filter (s.inFlock (t - 0xD0)) else [t]

/-! ## CMD items (R421, R425, R426) -/

/-- Queue a CMD item for a member that holds an address; answers its DSEQ. -/
def State.queueCmd (s : State) (a kind : Nat) (body : List Nat) : State × Nat :=
  let m := s.mem a
  (s.setMem a { m with next := dseqNext m.next, cmds := m.cmds ++ [{ dst := a, dseq := m.next, kind := kind, body := body }] }, m.next)

/-- Queue a CMD item where the address is not FREE. -/
def State.sendCmd (s : State) (a kind : Nat) (body : List Nat) : State :=
  if s.memState a = 0 then s else (s.queueCmd a kind body).1

/-- The bytes of a CMD item (R406, R421). -/
def MacCmd.item (c : MacCmd) : List Nat := [0x04, 4 + c.body.length, c.dst] ++ leBytes 2 c.dseq ++ [c.kind] ++ c.body

/-- The items that a DACK reaches, and those it leaves (R426): all up to the one it names. -/
def dackSplit (d : Nat) : List MacCmd → List MacCmd × List MacCmd
  | [] => ([], [])
  | c :: t => if c.dseq = d then ([c], t) else ((c :: (dackSplit d t).1), (dackSplit d t).2)

/-- The split, where the DACK names an item of the queue; otherwise nothing is reached. -/
def dackTake (d : Nat) (l : List MacCmd) : List MacCmd × List MacCmd :=
  if l.any (fun c => c.dseq == d) then dackSplit d l else ([], l)

/-! ## Slot tables (R401, R402, R446, R448) -/

/-- KIND of entry `q` on a lane of a profile (R23, R402, R446). -/
def slotKind (prof q : Nat) : Nat :=
  if prof = 0 then
    if q = 0 then 2 else if q = 1 then 3 else if q = 2 then 4 else if q ≤ 37 then 1 else if q = 38 then 5
    else if q = 39 then 6 else 0
  else if q = 0 then 2 else if q = 1 then 3 else if q = 2 then 4
  else if (3 ≤ q ∧ q ≤ 8) ∨ (10 ≤ q ∧ q ≤ 12) then 1
  else if q = 9 then 8 else if q = 20 then 5 else if q = 21 ∨ q = 70 then 6
  else if [40, 50, 60, 80, 90].contains q then 7 else 0

/-- The entry that holds the OWNER of an uplink slot: on profiles 1 and 2 the first of its group (R446). -/
def groupSlot (prof q : Nat) : Nat :=
  if prof = 0 then q else if q ≤ 5 then 3 else if q ≤ 8 then 6 else 10

/-- Uplink entries whose OWNER can be written (R446). -/
def ownerSlots (prof rate : Nat) : List Nat :=
  if prof = 0 then (List.range 35).map (· + 3) else if rate = 1 then [3, 6, 10] else []

/-- OWNER of an entry (R446). -/
def State.owner (s : State) (b n q : Nat) : Nat :=
  if slotKind (s.prof n) q = 1 then s.get (SLOT_OWNER (8 * b + n) (groupSlot (s.prof n) q)) else 0

/-- The entry of an address in a bank, as (lane, q); (0, 127) where it has none. -/
def State.entryOf (s : State) (b a : Nat) : Nat × Nat :=
  match (List.range 8).findSome? (fun n =>
      ((ownerSlots (s.prof n) 1).find? (fun q => s.get (SLOT_OWNER (8 * b + n) q) == a)).map (fun q => (n, q))) with
  | some e => e
  | none => (0, 127)

/-- Members served on a lane in a bank. -/
def State.laneLoad (s : State) (b n : Nat) : Nat :=
  ((ownerSlots (s.prof n) 1).filter (fun q => s.get (SLOT_OWNER (8 * b + n) q) != 0)).length

/-- Most members of a lane (R401, R403). -/
def State.laneRoom (s : State) (n : Nat) : Nat :=
  match s.prof n, s.get (LANE_CFG_RATE n) with
  | 0, 1 => 24
  | 0, _ => 11
  | _, 1 => 3
  | _, _ => 0

/-- What the member was last told, or is being told, of its slot in a bank (R448). -/
def State.slotTold (s : State) (b a : Nat) : Nat × Nat :=
  let m := s.mem a
  match (m.cmds.filter (fun c => c.kind == 1 && leAt c.body 0 1 == b)).getLast? with
  | some c => (leAt c.body 1 1, if leAt c.body 2 1 = 0xFF then 127 else leAt c.body 2 1)
  | none => if b = 0 then m.told0 else m.told1

/-- A SLOT command where a member's entry of a bank differs from what it knows (R448). -/
def State.tellSlot (b : Nat) (s : State) (a : Nat) : State :=
  let e := s.entryOf b a
  if s.memState a = 2 ∧ e ≠ s.slotTold b a ∧ !(e.2 = 127 ∧ (s.slotTold b a).2 = 127) then
    s.sendCmd a 1 [b, e.1, if e.2 = 127 then 0xFF else e.2]
  else s

/-- The MEMBER registers follow the slot tables, and the SLOT commands with them (R448). -/
def State.syncSlots (s : State) (a : Nat) : State :=
  if s.memState a = 0 then s
  else
    let e0 := s.entryOf 0 a
    let e1 := s.entryOf 1 a
    let e := if s.get SLOT_CTRL_BANK = 0 then e0 else e1
    let s := s.puts [(MEMBER_W2_Q0 a, e0.2), (MEMBER_W2_Q1 a, e1.2)]
    let s := if e.2 = 127 then s else s.put (MEMBER_W2_LANE a) e.1
    (State.tellSlot 0 s a |> fun s => State.tellSlot 1 s a)

/-- Members with a SLOT command outstanding for the bank not in force (R448). -/
def State.shadowUnacked (s : State) : Nat :=
  let b := 1 - s.get SLOT_CTRL_BANK
  (allAddrs.filter (fun a => (s.mem a).cmds.any (fun c => c.kind == 1 && leAt c.body 0 1 == b))).length

/-! ## Long superframes and profiles -/

/-- The lane of a member works on the long superframe of R31. -/
def State.subLane (s : State) (n : Nat) : Bool := s.prof n != 0

/-- Count of one lane in the superframe changed (R452). -/
def State.laneCount (s : State) (n : Nat) (f : LaneCount → LaneCount) : State :=
  let c : LaneCount := match s.mac.cnt.find? (fun e => e.1 == n) with | some e => e.2 | none => {}
  { s with mac := { s.mac with cnt := s.mac.cnt.filter (fun (e : Nat × LaneCount) => e.1 ≠ n) ++ [(n, f c)] } }

/-! ## The one-way path into the metrology partition (R606, R607) -/

/-- Send an item to MP; only the active unit does. A cut-off message goes before the address events of its ply. -/
def State.mpSend (s : State) (i : MpItem) : State :=
  if !s.bit PAIR_STATUS_ACTIVE then s
  else
    let w := s.mp.wire
    let early := w.filter (fun (e : Nat × MpItem) => e.1 ≠ s.ply)
    let late := w.filter (fun (e : Nat × MpItem) => e.1 = s.ply)
    { s with mp := { s.mp with wire := match i with
      | .cut _ => early ++ (s.ply, i) :: late
      | _ => w ++ [(s.ply, i)] } }

end Sys2Proof.Machine
end

