-- ==== Sys2Proof/Machine/Downlink.lean ====
section
/-!
DEFINITION. The items and bodies of frames that a unit sends on the field link, and what makes them well formed (spec/13, R16): what a
member and a standby unit check.
-/

namespace Sys2Proof.Machine

/-- The items of a body as (TYPE, body), or none where they do not fit; the COR item alone has a 2-byte LEN (R406). -/
def parseItems : Nat → List Nat → Option (List (Nat × List Nat))
  | _, [] => some []
  | 0, _ => none
  | n + 1, t :: rest =>
    let h := if t = 0x20 then 2 else 1
    let len := leAt rest 0 h
    if rest.length < h + len then none
    else (parseItems n (rest.drop (h + len))).map (fun l => (t, (rest.drop h).take len) :: l)

/-- An ORDER body without a reserved encoding (R465). -/
def orderOk (b : List Nat) : Bool :=
  decide (leAt b 0 1 ≤ 2) && b.length == 12 + leAt b 10 1 && decide (b.length ≤ 48) && (leAt b 0 1 == 0 || leAt b 10 1 == 0)

/-- A TRACK item without a reserved encoding (R480). -/
def trackOk (b : List Nat) : Bool :=
  decide (leAt b 1 1 ≤ 1) &&
  (match leAt b 0 1 with
  | 0 => decide (1 ≤ leAt b 4 1 ∧ leAt b 4 1 ≤ 3) && b.length == 8 + 12 * leAt b 4 1
  | 1 => leAt b 4 1 == 0 && b.length == 16
  | _ => false)

/-- The windows of a WIN item as (ADDR, body); none where they do not fit or hold a reserved encoding (R406, R491). -/
def parseWins : Nat → List Nat → Option (List (Nat × List Nat))
  | _, [] => some []
  | 0, _ => none
  | n + 1, a :: rest =>
    if leAt rest 0 1 ≠ 15 ∨ rest.length < 16 ∨ leAt rest 1 1 % 4 = 3 then none
    else (parseWins n (rest.drop 16)).map (fun l => (a, (rest.drop 1).take 15) :: l)

/-- A destination that R7 lists for a member: a member address, a flock or 0xFF. -/
def isDst (x : Nat) : Bool := isAddr x || (decide (0xD0 ≤ x) && decide (x ≤ 0xDF)) || x == 0xFF

/-- A CMD item without a reserved encoding (R421). -/
def cmdOk (b : List Nat) : Bool :=
  let dst := leAt b 0 1
  let x := b.drop 4
  isDst dst && decide (4 ≤ b.length) &&
  (match leAt b 3 1 with
  | 1 => x.length == 3 && decide (leAt x 0 1 ≤ 1 ∧ leAt x 1 1 ≤ 7 ∧ (leAt x 2 1 = 0xFF ∨ leAt x 2 1 < 100))
  | 2 => x.length == 2
  | 3 => orderOk x
  | 4 => (leAt x 7 1 == 0 && x.length == 40) || (leAt x 7 1 == 1 && x.length == 31)
  | 5 => x.length == 1 && decide (leAt x 0 1 ≤ 3)
  | 6 => x.isEmpty
  | 7 => trackOk x
  | _ => false)

/-- A digest entry without a reserved encoding: its ADDR, and its status (R354, R361). -/
def solOk (e : List Nat) : Bool := isAddr (leAt e 0 1) && decide (leAt e 1 1 % 8 ≤ 4)

/-- An item of a digest is well formed (R406, R418, R423): CUT 3 carries only CMD items. -/
def downItemOk (prof cut : Nat) (i : Nat × List Nat) : Bool :=
  match i.1 with
  | 1 => cut != 3 && i.2.length == (if prof = 0 then 5 else 1)
  | 2 => cut != 3 && decide (12 ≤ i.2.length ∧ i.2.length ≤ 252) && i.2.length % 12 == 0 &&
    (List.range (i.2.length / 12)).all (fun j => solOk ((i.2.drop (12 * j)).take 12))
  | 3 => cut != 3 && (parseWins i.2.length i.2).isSome
  | 4 => cmdOk i.2
  | _ => false

/-- A Bellwether body without a reserved encoding: RATE, items that are CMD, on profile 0 alone (R16, R413). -/
def bellOk (prof : Nat) (b : List Nat) (items : List (Nat × List Nat)) : Bool :=
  decide (55 ≤ b.length) && decide (bits (leAt b 14 2) 10 8 ≤ 4) && items.all (fun i => i.1 == 4 && cmdOk i.2) &&
    (prof == 0 || b.length == 55)

/-- CUT of a slot that carries a digest (R404, R418). -/
def slotCut (prof q : Nat) : Option Nat :=
  match slotKind prof q with
  | 5 => some 1
  | 6 => some 2
  | 7 => some 3
  | _ => none

end Sys2Proof.Machine
end

