-- ==== Sys2Proof/Machine/PairLink.lean ====
section
/-!
DEFINITION. The messages of the pair link (spec/17): building and sending them, and the announcements of Rook (R554).
-/

namespace Sys2Proof.Machine

open R

/-- The unit bit: 0 primary, 1 secondary (R544, R548). -/
def State.unitBit (s : State) : Nat := s.get STRAP_ROLE

/-- MAGIC of a pair message (R544). -/
abbrev pairMagic : Nat := 0x5042

/-! ## Types of pair messages (R544) -/
namespace PairType
abbrev heartbeat : Nat := 1
abbrev safety : Nat := 2
abbrev safetyAck : Nat := 3
abbrev ckptData : Nat := 4
abbrev ckptEnd : Nat := 5
abbrev handover : Nat := 6
abbrev handoverAck : Nat := 7
end PairType

/-- The key of the pair link, or none where the unit can neither send nor accept (R545). -/
def State.pairKey (s : State) : Option (List Nat) := s.useKey (s.get PAIR_CTRL_KEY_SLOT) 3 5

/-- The pair link works: pair operation is enabled, PD_NET is out of reset and ETH_5 is linked (R543); an EPOCH is held
or can be drawn (R572). -/
def State.pairUp (s : State) : Bool :=
  s.bit PAIR_CTRL_EN && !s.domOff 9 && s.bit PAIR_STATUS_LINK && (s.pair.epoch.isSome || !s.bit KS_STATUS_TRNG_FAIL)

/-- The sender's EPOCH, drawn where PD_NET has left reset since the last message (R544). -/
def State.pairEpoch (s : State) : State × Nat :=
  match s.pair.epoch with
  | some e => (s, e)
  | none =>
    let e := s.freeVal % 2 ^ 32
    ({ s.useFree with pair := { s.pair with epoch := some e, seq := 0 } }, e)

/-- The bytes of a message before its MAC (R544). -/
def pairBytes (typ unit epoch seq sfn : Nat) (body : List Nat) : List Nat :=
  leBytes 2 pairMagic ++ [typ, unit] ++ leBytes 4 epoch ++ leBytes 4 seq ++ leBytes 4 sfn ++ leBytes 2 body.length ++
  [0, 0] ++ body

/-- The first 16 bytes of the HMAC over a message (R544). -/
def pairMac (key msg : List Nat) : List Nat := (hmac256 key msg).take 16

/-- Send a pair message; answers its SEQ, or none where the unit cannot send (R544, R545). -/
def State.pairSend (s : State) (typ : Nat) (body : List Nat) : State × Option Nat :=
  match s.pairKey with
  | none => (s.keyAbort (s.get PAIR_CTRL_KEY_SLOT) 3 5, none)
  | some key =>
    if !s.pairUp then (s, none)
    else
      let r := s.pairEpoch
      let n := r.1.pair.seq + 1
      let m := pairBytes typ s.unitBit r.2 n s.sfn body
      (({ r.1 with pair := { r.1.pair with seq := n } }).emit (.pair (m ++ pairMac key m)), some n)

/-- SRC_OWN: SRC_LATCHED without PAIR (R546). -/
def State.srcOwn (s : State) : Nat := clrBit (s.get ROOK_STATE_SRC_LATCHED) 5

/-- Announce an event of Rook: 1 stop entry, 2 release, 3 HOLD, 4 RESUME. The message waits for its acknowledgement
(R527, R554). -/
def State.safetySend (s : State) (event sseq target : Nat) : State :=
  if !s.bit PAIR_CTRL_EN then s
  else
    let body := [event, sseq, target, s.srcOwn] ++ leBytes 8 s.ply
    let r := s.pairSend PairType.safety body
    let m : SafetyMsg := { seqs := r.2.toList, body := body, ply := s.ply }
    { r.1 with pair := { r.1.pair with safety := r.1.pair.safety ++ [m] } }

/-- A sequence value is ahead of another: R427, taken by R553. -/
def sseqAhead (new old : Nat) : Bool :=
  let d := (new + 256 - old % 256) % 256
  decide (1 ≤ d) && decide (d ≤ 127)

end Sys2Proof.Machine
end

