-- ==== Sys2Proof/Machine/Linear.lean ====
section
/-!
DEFINITION. Real arithmetic of the fix engine: the spec states its filter over real numbers (spec/10, spec/11), which the model computes as
rationals; a square root is the constant of Config between its bounds (log 13, log 16). Vectors and matrices are lists of rows.
-/

namespace Sys2Proof.Machine

/-- A point or a direction in the Earth-centred, Earth-fixed frame, in m (R316). -/
structure V3 where
  x : Rat
  y : Rat
  z : Rat
  deriving DecidableEq, Repr

def V3.add (a b : V3) : V3 := ⟨a.x + b.x, a.y + b.y, a.z + b.z⟩
def V3.sub (a b : V3) : V3 := ⟨a.x - b.x, a.y - b.y, a.z - b.z⟩
def V3.scale (k : Rat) (a : V3) : V3 := ⟨k * a.x, k * a.y, k * a.z⟩
def V3.dot (a b : V3) : Rat := a.x * b.x + a.y * b.y + a.z * b.z

/-- Component 0 to 2. -/
def V3.axis (a : V3) (i : Nat) : Rat := if i = 0 then a.x else if i = 1 then a.y else a.z

/-- The absolute value. -/
def absQ (q : Rat) : Rat := if q < 0 then -q else q

/-- The square root of a non-negative number, within 2^-40 (log 13). -/
def sqrtR (q : Rat) : Rat :=
  let n := isqrtGo (q * 2 ^ 80).floor.toNat 256 0
  clampQ ((n : Rat) / 2 ^ 40) (((n : Rat) + 1) / 2 ^ 40) (Config.sqrtReal q)

/-- Put an element before the first that it does not exceed. -/
def insertBy {α : Type} (le : α → α → Bool) (x : α) : List α → List α
  | [] => [x]
  | y :: t => if le x y then x :: y :: t else y :: insertBy le x t

/-- A list in rising order, equal elements as they stood. -/
def sortBy {α : Type} (le : α → α → Bool) : List α → List α
  | [] => []
  | x :: t => insertBy le x (sortBy le t)

/-- Length. -/
def V3.len (a : V3) : Rat := sqrtR (a.dot a)

abbrev Vec := List Rat
abbrev Mat := List (List Rat)

def dotV (a b : Vec) : Rat := (List.zipWith (· * ·) a b).sum
def addV (a b : Vec) : Vec := List.zipWith (· + ·) a b
def subV (a b : Vec) : Vec := List.zipWith (· - ·) a b

/-- The element in row `i` and column `j`. -/
def elt (m : Mat) (i j : Nat) : Rat := (m.getD i []).getD j 0

def mulVec (m : Mat) (v : Vec) : Vec := m.map (fun r => dotV r v)
def addM (a b : Mat) : Mat := List.zipWith addV a b
def subM (a b : Mat) : Mat := List.zipWith subV a b

/-- The transpose of a matrix of `w` columns. -/
def transp (w : Nat) (m : Mat) : Mat := (List.range w).map (fun j => m.map (fun r => r.getD j 0))

/-- The product; `b` has `w` columns. -/
def mulM (w : Nat) (a b : Mat) : Mat := let t := transp w b; a.map (fun r => t.map (fun c => dotV r c))

/-- The identity of `n` rows. -/
def idM (n : Nat) : Mat := (List.range n).map (fun i => (List.range n).map (fun j => if i = j then (1 : Rat) else 0))

/-- Gauss–Jordan elimination of column `c` on: the rows that have their pivot, then the rest; with the product of the pivots, signed by the
row exchanges. None where no pivot is left. -/
def elimCols : Nat → Nat → Mat → Mat → Rat → Option (Mat × Rat)
  | 0, _, done, _, d => some (done, d)
  | f + 1, c, done, rest, d =>
    match rest.findIdx? (fun r => r.getD c 0 != 0) with
    | none => none
    | some k =>
      let p := rest.getD k []
      let v := p.getD c 0
      let p := p.map (· / v)
      let clear := fun (r : Vec) => let q := r.getD c 0; subV r (p.map (q * ·))
      elimCols f (c + 1) (done.map clear ++ [p]) ((rest.eraseIdx k).map clear) (d * v * (if k % 2 = 0 then 1 else -1))

/-- The inverse of an `n` by `n` matrix with its determinant, or none. -/
def invM (n : Nat) (m : Mat) : Option (Mat × Rat) :=
  (elimCols n 0 [] (List.zipWith (· ++ ·) m (idM n)) 1).map (fun e => (e.1.map (·.drop n), e.2))

/-- The inverse; of a singular matrix, whose inverse the spec does not state, a free value (log 16). -/
def inverse (m : Mat) : Mat := match invM m.length m with | some e => e.1 | none => Config.singularInverse m

end Sys2Proof.Machine
end

