-- ==== Sys2Proof/Machine/FixModel.lean ====
section
/-!
DEFINITION. The fix engine's model (spec/10): frames, the predicted difference, the float filter with its prediction and update, and the
integer search of spec/11. What it takes from other documents (a satellite's position, log 16) and what the spec does not fix (the
decorrelation, the number of nodes, log 16) are constants of Config.
-/

namespace Sys2Proof.Machine

/-! ## Frames (R316 to R318) -/

/-- GRS 80: the semi-major axis in m, and the first eccentricity squared. -/
def grsA : Rat := 6378137
def grsE2 : Rat := let f : Rat := 1000000000 / 298257222101; f * (2 - f)

/-- Sines and cosines of a point's geodetic latitude and longitude, and its ellipsoidal height (R316). -/
structure Geod where
  sLat : Rat
  cLat : Rat
  sLon : Rat
  cLon : Rat
  h : Rat

def geodetic (p : V3) : Geod :=
  let r := sqrtR (p.x * p.x + p.y * p.y)
  let s := clampQ (-1) 1 (Config.geodSinLat r p.z)
  let c := sqrtR (1 - s * s)
  { sLat := s, cLat := c, sLon := p.y / r, cLon := p.x / r, h := r * c + p.z * s - grsA * sqrtR (1 - grsE2 * s * s) }

/-- East, north and up at a point as directions (R318). -/
def Geod.axes (g : Geod) : List V3 :=
  [⟨-g.sLon, g.cLon, 0⟩, ⟨-g.sLat * g.cLon, -g.sLat * g.sLon, g.cLat⟩, ⟨g.cLat * g.cLon, g.cLat * g.sLon, g.sLat⟩]

/-- A difference in the local frame: E, N and U (R318). -/
def Geod.enu (g : Geod) (d : V3) : List Rat := g.axes.map (fun a => a.dot d)

/-- A local vector in ECEF. -/
def Geod.ecef (g : Geod) (v : List Rat) : V3 := (List.zipWith V3.scale v g.axes).foldl V3.add ⟨0, 0, 0⟩

/-- A position in units of 0.1 mm, in m (R317). -/
def ecefOf (l : List Int) : V3 := ⟨(l.getD 0 0 : Rat) / 10000, (l.getD 1 0 : Rat) / 10000, (l.getD 2 0 : Rat) / 10000⟩

/-- The phase centre of a band: the ARP plus the antenna entry's offset, rotated from ENU there (R317, R321, R335). -/
def phaseCentre (arp : V3) (ant : List Int) (l5 : Bool) : V3 :=
  let o := (if l5 then ant.drop 3 else ant.take 3).map (fun v => (v : Rat) / 10000)
  arp.add ((geodetic arp).ecef o)

/-! ## The predicted difference (R335) -/

/-- What the predictions of one epoch share: its time in s since week 0, the base's and the member's antenna entries, REF, TROPO_EN. -/
structure FixGeo where
  t : Rat
  base : V3
  antB : List Int
  antM : List Int
  tropo : Bool

/-- The satellite's position `tau` before the epoch, in the frame of the epoch: the Earth turns by the signal's lightTime (the rotation rate of
the ICDs, 7.2921151467e-5 rad/s; log 16). -/
def satAt (sv : Nat) (t tau : Rat) : V3 :=
  let p := Config.satPos sv t (t - tau)
  let w : Rat := 72921151467 / 1000000000000000 * tau
  let s := w - w * w * w / 6
  let c := 1 - w * w / 2
  ⟨c * p.1 + s * p.2.1, c * p.2.1 - s * p.1, p.2.2⟩

/-- The lightTime time from a satellite to a point, in s, by repeated substitution. -/
def lightTime (sv : Nat) (t : Rat) (p : V3) : Nat → Rat
  | 0 => 0
  | n + 1 => ((satAt sv t (lightTime sv t p n)).sub p).len / 299792458

/-- The satellite as a point's signal left it (R335). -/
def satSeen (sv : Nat) (t : Rat) (p : V3) : V3 := satAt sv t (lightTime sv t p 6)

/-- The direction from a point to a satellite. -/
def sightLine (sv : Nat) (t : Rat) (p : V3) : V3 := let d := (satSeen sv t p).sub p; d.scale (1 / d.len)

/-- The sine of a satellite's elevation at a point. -/
def sinElev (sv : Nat) (t : Rat) (p : V3) : Rat := ((geodetic p).axes.getD 2 ⟨0, 0, 0⟩).dot (sightLine sv t p)

/-- `exp (−x)` between its bounds (log 13). -/
def expNeg (x : Rat) : Rat :=
  let v := 1 - Config.expGain x
  if x < 0 then clampQ (1 - x + x * x / 2) (1 - x + x * x) v
  else if x ≤ 1 then clampQ (1 - x) (1 - x + x * x / 2) v else clampQ 0 (1 / 2) v

/-- The tropospheric delay `Z(h) M(el)` at a receiver (R335). -/
def tropoDelay (h sinEl : Rat) : Rat :=
  (23 / 10 : Rat) * expNeg (max (-500) h / 7400) * ((1001 / 1000) / sqrtR (2001 / 1000000 + sinEl * sinEl))

/-- Range and tropospheric delay from a receiver at `arp` to a satellite (R335). -/
def FixGeo.rangeTo (g : FixGeo) (sv : Nat) (l5 : Bool) (arp : V3) (ant : List Int) : Rat :=
  let p := phaseCentre arp ant l5
  ((satSeen sv g.t p).sub p).len + (if g.tropo then tropoDelay (geodetic p).h (sinElev sv g.t p) else 0)

/-- The predicted single difference, member less base, without ionosphere and ambiguity (R331, R335). -/
def FixGeo.single (g : FixGeo) (pos : V3) (sv : Nat) (l5 : Bool) : Rat :=
  g.rangeTo sv l5 pos g.antM - g.rangeTo sv l5 g.base g.antB

/-- `(1575.42 / f_band)²` (R335, R342). -/
def ionoScale (code : Nat) : Rat := if code % 2 = 0 then 1 else (157542 / 117645 : Rat) * (157542 / 117645)

/-! ## The filter's numbers (R338 to R342) -/

/-- Position, velocity, ambiguity and ionosphere states by name. -/
def posKeys : List FixKey := [.pos 0, .pos 1, .pos 2]
def velKeys : List FixKey := [.vel 0, .vel 1, .vel 2]

/-- Value of a state; one that is not held counts as 0 (R338). -/
def Kf.val (k : Kf) (a : FixKey) : Rat := match k.keys.findIdx? (· == a) with | some i => k.x.getD i 0 | none => 0

/-- Covariance of two states. -/
def Kf.covOf (k : Kf) (a b : FixKey) : Rat :=
  match k.keys.findIdx? (· == a), k.keys.findIdx? (· == b) with
  | some i, some j => elt k.cov i j
  | _, _ => 0

/-- The position, and the velocity. -/
def Kf.pos (k : Kf) : V3 := ⟨k.val (.pos 0), k.val (.pos 1), k.val (.pos 2)⟩
def Kf.vel (k : Kf) : V3 := ⟨k.val (.vel 0), k.val (.vel 1), k.val (.vel 2)⟩

/-- Only the states for which `p` holds: removal deletes rows and columns (R338). -/
def Kf.keep (k : Kf) (p : FixKey → Bool) : Kf :=
  let is := (List.range k.keys.length).filter (fun i => match k.keys[i]? with | some a => p a | none => false)
  { keys := k.keys.filter p, x := is.map (fun i => k.x.getD i 0), cov := is.map (fun i => is.map (fun j => elt k.cov i j)) }

/-- A state set to a value with a variance and no covariances, created where there is none (R342). -/
def Kf.start (k : Kf) (a : FixKey) (v var : Rat) : Kf :=
  let k := k.keep (· != a)
  { keys := k.keys ++ [a], x := k.x ++ [v]
    cov := k.cov.map (· ++ [0]) ++ [k.keys.map (fun _ => (0 : Rat)) ++ [var]] }

/-- The variance of every ionosphere state set (R337). -/
def Kf.ionoVar (k : Kf) (var : Rat) : Kf :=
  { k with cov := (List.range k.keys.length).map (fun i => (List.range k.keys.length).map (fun j =>
      if i = j then (match (k.keys.getD i (FixKey.pos 0)) with | FixKey.iono _ => var | _ => elt k.cov i j) else elt k.cov i j)) }

/-- The spectral density of the acceleration between two ECEF axes, in m²/s³: Q_H along east and north, Q_V along up (R339). -/
def accelDensity (g : Geod) (qh qv : Rat) (i j : Nat) : Rat :=
  ((List.zipWith (fun (a : V3) (q : Rat) => q * a.axis i * a.axis j)) g.axes [qh, qh, qv]).sum

/-- The process noise between two states over `dt` s (R339). -/
def processNoise (g : Geod) (qh qv qi dt : Rat) : FixKey → FixKey → Rat
  | .pos i, .pos j => accelDensity g qh qv i j * dt * dt * dt / 3
  | .pos i, .vel j => accelDensity g qh qv i j * dt * dt / 2
  | .vel i, .pos j => accelDensity g qh qv i j * dt * dt / 2
  | .vel i, .vel j => accelDensity g qh qv i j * dt
  | .iono a, .iono b => if a = b then qi * dt else 0
  | _, _ => 0

/-- How a state follows from another over `dt` s: position moves with velocity (R339). -/
def transition (dt : Rat) (a b : FixKey) : Rat :=
  if a = b then 1 else match a, b with | .pos i, .vel j => if i = j then dt else 0 | _, _ => 0

/-- The prediction over `dt` s (R339). -/
def Kf.predict (k : Kf) (qh qv qi dt : Rat) : Kf :=
  let n := k.keys.length
  let f := k.keys.map (fun a => k.keys.map (transition dt a))
  let q := k.keys.map (fun a => k.keys.map (processNoise (geodetic k.pos) qh qv qi dt a))
  { k with x := mulVec f k.x, cov := addM (mulM n (mulM n f k.cov) (transp n f)) q }

/-- One measurement: its coefficients by state, what is left of it after the prediction, and what says which others it correlates with: a
double difference of code or phase of a signal code, or a held integer. -/
structure FixMeas where
  coef : List (FixKey × Rat)
  res : Rat
  sv : Nat
  code : Nat
  phase : Bool
  hold : Bool
  /-- Variances of the satellite's own single difference, and of the reference's. -/
  own : Rat
  ref : Rat

/-- An element of `D R Dᵀ` (R341): the reference's variance in common, the satellite's own on the diagonal; a hold stands alone (R350). -/
def FixMeas.covar (a b : FixMeas) : Rat :=
  if a.hold || b.hold then (if a.hold && b.hold && a.sv == b.sv && a.code == b.code then a.own else 0)
  else if a.code == b.code && a.phase == b.phase then b.ref + (if a.sv == b.sv then a.own else 0) else 0

/-- The variance of a double difference (R349). -/
def FixMeas.var (a : FixMeas) : Rat := a.covar a

/-- Rows of measurement coefficients over the states held. -/
def measRows (keys : List FixKey) (ms : List FixMeas) : Mat :=
  ms.map (fun m => keys.map (fun k => match m.coef.find? (fun e => e.1 == k) with | some e => e.2 | none => 0))

/-- The innovation covariance of all measurements together. -/
def Kf.innovCov (k : Kf) (ms : List FixMeas) : Mat :=
  let n := k.keys.length
  let h := measRows k.keys ms
  addM (mulM ms.length (mulM n h k.cov) (transp n h)) (ms.map (fun a => ms.map a.covar))

/-- The update with all measurements in one step (R341). -/
def Kf.update (k : Kf) (ms : List FixMeas) : Kf :=
  let n := k.keys.length
  let h := measRows k.keys ms
  let gain := mulM ms.length (mulM ms.length k.cov (transp n h)) (inverse (k.innovCov ms))
  { k with x := addV k.x (mulVec gain (ms.map (·.res))), cov := subM k.cov (mulM n (mulM n gain h) k.cov) }

/-! ## Output (R318, R360) -/

/-- The standard deviation of a position from its covariance in the frame of `g`: horizontal and vertical, in m. -/
def posSd (g : Geod) (cov : Nat → Nat → Rat) : Rat × Rat :=
  let v := g.axes.map (fun a => ((List.range 3).map (fun i => ((List.range 3).map (fun j => a.axis i * a.axis j * cov i j)).sum)).sum)
  (sqrtR (v.getD 0 0 + v.getD 1 0), sqrtR (v.getD 2 0))

/-- A position, a velocity and a covariance as a record shows them: ECEF in 0.1 mm, the site frame to the nearest mm with halves away from
zero (R318), velocity in mm/s, standard deviations in mm (R360). -/
def fixPosOf (org : List Int) (p v : V3) (cov : Nat → Nat → Rat) : Config.FixPos :=
  let o := ecefOf org
  let g := geodetic o
  let mm := fun (q : Rat) => rdiv (q * 1000).num (q * 1000).den
  let d := g.enu (p.sub o)
  let w := g.enu v
  let sd := posSd g cov
  { x := quantQ (p.x * 10000), y := quantQ (p.y * 10000), z := quantQ (p.z * 10000)
    e := mm (d.getD 0 0), n := mm (d.getD 1 0), u := mm (d.getD 2 0)
    ve := quantQ (w.getD 0 0 * 1000), vn := quantQ (w.getD 1 0 * 1000), vu := quantQ (w.getD 2 0 * 1000)
    sdH := (quantQ (sd.1 * 1000)).toNat, sdV := (quantQ (sd.2 * 1000)).toNat }

/-- The float solution of a filter. -/
def Kf.output (k : Kf) (org : List Int) : Config.FixPos :=
  fixPosOf org k.pos k.vel (fun i j => k.covOf (.pos i) (.pos j))

/-! ## The integer search (R346 to R349) -/

/-- The nearest integer, a half rounding towards zero, and the second nearest (R347). -/
def nearInt (q : Rat) : Int := let n := (q + 1 / 2).floor; if q + 1 / 2 = n ∧ 0 < q then n - 1 else n
def nextInt (q : Rat) : Int := let n := nearInt q; if (n : Rat) < q then n + 1 else if q < n then n - 1 else if 0 < n then n - 1 else n + 1

/-- A float vector with its covariance, from the first index to the last. -/
structure Lattice where
  a : Vec
  q : Mat

/-- Mean and variance of the element `i` given the integers `z` of all elements above it (R347). -/
def Lattice.cond (l : Lattice) (i : Nat) (z : List Int) : Rat × Rat :=
  let js := (List.range z.length).map (· + i + 1)
  let row := js.map (fun j => elt l.q i j)
  let w := mulVec (inverse (js.map (fun j => js.map (fun m => elt l.q j m)))) row
  (l.a.getD i 0 + dotV w (List.zipWith (fun (z : Int) j => (z : Rat) - l.a.getD j 0) z js), elt l.q i i - dotV w row)

/-- The bootstrapped candidate from the last index to the first; `second` sends the first element rounded to its second nearest integer. -/
def Lattice.boot (l : Lattice) (second : Bool) : Nat → List Int → List Int
  | 0, z => z
  | i + 1, z =>
    let c := (l.cond i z).1
    l.boot second i ((if second && z.isEmpty then nextInt c else nearInt c) :: z)

/-- The squared norm `(z − ẑ)ᵀ Q⁻¹ (z − ẑ)`. -/
def Lattice.norm (l : Lattice) (z : List Int) : Rat :=
  let d := subV (z.map (fun v => (v : Rat))) l.a
  dotV d (mulVec (inverse l.q) d)

/-- The integers `v` with `(v − c)² ≤ b`, rising. -/
def intsNear (c b : Rat) : List Int :=
  if b < 0 then []
  else
    let r : Int := (isqrtGo b.ceil.toNat 256 0 : Nat) + 1
    ((List.range (2 * r + 2).toNat).map (fun k => c.floor - r + (k : Int))).filter (fun v => decide (((v : Rat) - c) * (v - c) ≤ b))

/-- Every integer vector within the ellipsoid of bound `chi`, from the last index to the first (R348). -/
def Lattice.within (l : Lattice) : Nat → Rat → List Int → List (List Int)
  | 0, _, z => [z]
  | i + 1, chi, z =>
    let c := l.cond i z
    (intsNear c.1 (chi * c.2)).flatMap (fun (v : Int) => l.within i (chi - ((v : Rat) - c.1) * (v - c.1) / c.2) (v :: z))

/-- Lexicographic order. -/
def lexLe : List Int → List Int → Bool
  | [], _ => true
  | _ :: _, [] => false
  | a :: s, b :: t => a < b || (a == b && lexLe s t)

/-- The two best candidates with their norms: the smaller norm, then the lexicographically smaller (R348). -/
def Lattice.best (l : Lattice) : Option ((Rat × List Int) × (Rat × List Int)) :=
  let n := l.a.length
  let chi := max (l.norm (l.boot false n [])) (l.norm (l.boot true n []))
  let c := (l.within n chi []).map (fun z => (l.norm z, z))
  let le := fun (x y : Rat × List Int) => decide (x.1 < y.1) || (x.1 == y.1 && lexLe x.2 y.2)
  match sortBy le c with
  | x :: y :: _ => some (x, y)
  | _ => none

/-- The decorrelation: the unimodular matrix of Config, where its conditional variances ascend towards the last index; none is better
fixed by the spec, and without one the identity stands (R347, log 16). -/
def decorr (q : Mat) : Mat :=
  let n := q.length
  let z : Mat := (Config.decorrelation q).map (fun r => r.map (fun (v : Int) => (v : Rat)))
  let t := mulM n (mulM n (transp n z) q) z
  let l : Lattice := ⟨List.replicate n 0, t⟩
  let d := (List.range n).map (fun i => (l.cond i (List.replicate (n - 1 - i) 0)).2)
  let unit : Bool := match invM n z with | some e => decide (e.2 = 1 ∨ e.2 = -1) | none => false
  if z.length = n ∧ z.all (fun r => r.length == n) ∧ unit ∧ (List.zipWith (fun a b => decide (a ≤ b)) d (d.drop 1)).all id
  then z else idM n

/-- What a search gives: the squared norms, the best integers in the order of the vector, the nodes visited. -/
structure SearchOut where
  best : Rat
  second : Rat
  ints : List Int
  nodes : Nat

/-- The search over a float vector with its covariance (R347 to R349). -/
def intSearch (a : Vec) (q : Mat) : Option SearchOut :=
  let n := a.length
  let z := decorr q
  let zt := transp n z
  let l : Lattice := ⟨mulVec zt a, mulM n (mulM n zt q) z⟩
  l.best.map (fun b =>
    { best := b.1.1, second := b.2.1, nodes := Config.searchNodes l.a l.q
      ints := (mulVec (inverse zt) (b.1.2.map (fun v => (v : Rat)))).map (fun v => v.floor) })

end Sys2Proof.Machine
end

