-- ==== Sys2Proof/Machine/Fix.lean ====
section
/-!
DEFINITION. The fix engine (spec/10, spec/11): the COR, its acceptance and matching, the filter's bookkeeping, integer
resolution and holds, statuses, records, the solve queue, and the fix opcodes. The arithmetic of the model is FixModel's.
-/

namespace Sys2Proof.Machine

open R

/-- A register field of the engine as sampled at the last strobe (R344). -/
def State.fixGet (s : State) (f : Fld) : Nat := regLookup s.fix.smp f.key f.rst

/-! ## The COR (R322 to R325) -/

/-- An SV value names a satellite (R323). -/
def svOk (sv : Nat) : Bool :=
  let p := sv % 64
  match sv / 64 with
  | 0 => 1 ≤ p && p ≤ 32
  | 1 => 1 ≤ p && p ≤ 36
  | 2 => 19 ≤ p && p ≤ 63
  | 3 => 1 ≤ p && p ≤ 10
  | _ => false

/-- Signal code of a system and band (R325). -/
def svCode (sv : Nat) (l5 : Bool) : Nat := 2 * (sv / 64) + b2n l5

/-- The SV value of a satellite tracked under a signal code with its PRN (R323). -/
def svOf (code prn : Nat) : Nat := 64 * (code / 2) + (if code / 2 = 3 then prn - 192 else prn)

/-- One satellite block as (SV, RATE, rough range in 2^-10 ms, SIGS), or none where it is reserved (R323). -/
def corSat (b : List Nat) : Option (Nat × Int × Nat × Nat) :=
  let v := leAt b 0 5
  let sv := v % 256
  let g := bits v 9 8
  if svOk sv ∧ g ≠ 0 then some (sv, sgn 12 (bits v 39 28), bits v 17 10 * 1024 + bits v 27 18, g) else none

/-- One signal block (R324). -/
def corSig (sv code : Nat) (rate : Int) (rough : Nat) (b : List Nat) : CorSig :=
  let v := leAt b 0 6
  { sv := sv, code := code, rate := rate, rough := rough, cn0 := bits v 47 42, half := bitOf v 41, slip := bits v 40 37
    ph := if bits v 36 15 = 0x200000 then none else some (sgn 22 (bits v 36 15))
    pr := if bits v 14 0 = 0x4000 then none else some (sgn 15 (bits v 14 0)) }

/-- The signal blocks of the satellites, in order, L1 band first. -/
def corSigs : List (Nat × Int × Nat × Nat) → List Nat → List CorSig
  | [], _ => []
  | (sv, rate, rough, g) :: t, b =>
    let l1 := if bitOf g 0 then [corSig sv (svCode sv false) rate rough b] else []
    let b1 := if bitOf g 0 then b.drop 6 else b
    let l5 := if bitOf g 1 then [corSig sv (svCode sv true) rate rough b1] else []
    let b2 := if bitOf g 1 then b1.drop 6 else b1
    l1 ++ l5 ++ corSigs t b2

/-- All of a list of options, or none. -/
def allSome {α : Type} : List (Option α) → Option (List α)
  | [] => some []
  | none :: _ => none
  | some x :: t => match allSome t with | some l => some (x :: l) | none => none

/-- No value of the list appears twice. -/
def noDup : List Nat → Bool
  | [] => true
  | x :: t => !t.contains x && noDup t

/-- Steps 1 and 2 of R328: the parsed COR, or none where it is malformed. -/
def parseCor (p : List Nat) : Option Cor :=
  let nsat := leAt p 1 1
  let nsig := leAt p 2 1
  if leAt p 0 1 ≠ 1 ∨ 24 < nsat ∨ 48 < nsig ∨ p.length ≠ 16 + 5 * nsat + 6 * nsig ∨ 16 ≤ leAt p 12 1 then none
  else match allSome ((List.range nsat).map (fun i => corSat ((p.drop (16 + 5 * i)).take 5))) with
    | none => none
    | some sats =>
      let n := (sats.map (fun x => x.2.2.2 % 2 + x.2.2.2 / 2)).sum
      if n ≠ nsig ∨ !noDup (sats.map (·.1)) then none
      else some { clkValid := bitOf (leAt p 3 1) 0, antFault := bitOf (leAt p 3 1) 1, week := leAt p 4 2
                  ms := leAt p 8 4, clkOfs := sgn 16 (leAt p 6 2), antId := leAt p 12 1
                  sigs := corSigs sats (p.drop (16 + 5 * nsat)) }

/-- c in m per ms (R327). -/
def cMs : Rat := 299792458 / 1000

/-- The pseudorange of a signal in m, referred to the GPS epoch (R327). -/
def corPr (c : Cor) (g : CorSig) (v : Int) : Rat :=
  ((g.rough : Rat) / 1024 + (v : Rat) / 16777216) * cMs - (g.rate : Rat) * c.clkOfs / 1000000000

/-- The phase range of a signal in m, referred to the GPS epoch (R327). -/
def corPh (c : Cor) (g : CorSig) (v : Int) : Rat :=
  ((g.rough : Rat) / 1024 + (v : Rat) / 536870912) * cMs - (g.rate : Rat) * c.clkOfs / 1000000000

/-- Wavelength of a signal's band in m (R245, R327). -/
def sigLambda (c : Nat) : Rat := 299792458 / (sigBand c : Rat)

/-- Base pseudorange of an entry in m, referred to the epoch (R334). -/
def basePr (r : ObsRec) (e : ObsEnt) : Rat :=
  let rate : Rat := -((sgn 32 e.dopp : Int) : Rat) / 1024 * sigLambda e.sig
  (e.range : Rat) / 10000 - rate * r.rxOff / 1000000000000

/-- Base phase range of an entry in m, by the same correction (R334). -/
def basePh (r : ObsRec) (e : ObsEnt) : Rat :=
  let rate : Rat := -((sgn 32 e.dopp : Int) : Rat) / 1024 * sigLambda e.sig
  (e.phase : Rat) / 4294967296 * sigLambda e.sig - rate * r.rxOff / 1000000000000

/-! ## Matching and differences (R329, R331) -/

/-- The FE_A base entry of a signal. -/
def baseEnt (r : ObsRec) (g : CorSig) : Option ObsEnt :=
  r.ents.find? (fun e => e.fe == 0 && e.sig == g.code && e.sig < 8 && svOf e.sig e.prn == g.sv)

/-- A signal's code is used (R329). -/
def State.codeUsed (s : State) (g : CorSig) (e : ObsEnt) : Bool :=
  g.pr.isSome && bitOf e.flags 7 && bitOf e.flags 0 && bitOf e.flags 2 && s.fix.eph.contains g.sv &&
  decide (((s.fixGet FIX_CTRL_ELEV_MASK : Nat) : Int) ≤ e.elev)

/-- A signal's phase is used (R329). -/
def phaseUsed (g : CorSig) (e : ObsEnt) : Bool := g.ph.isSome && !g.half && bitOf e.flags 3 && !bitOf e.flags 4

/-- The used signals of a COR with their entries and single differences (R329, R331). -/
def State.fixObs (s : State) (c : Cor) (r : ObsRec) : List (CorSig × ObsEnt × Config.FixObs) :=
  c.sigs.filterMap (fun g => match baseEnt r g with
    | none => none
    | some e => if !s.codeUsed g e then none
      else
        let sp := match g.ph with
          | some v => if phaseUsed g e then some (corPh c g v - basePh r e) else none
          | none => none
        some (g, e, { sv := g.sv, code := g.code, elev := e.elev, sdCode := corPr c g (g.pr.getD 0) - basePr r e
                      sdPhase := sp }))

/-! ## References and ambiguities -/

/-- The observation with the highest base elevation, equal elevations by the lower SV (R332). -/
def highest : List Config.FixObs → Option Config.FixObs
  | [] => none
  | o :: t => match highest t with
    | none => some o
    | some b => if b.elev < o.elev ∨ (b.elev = o.elev ∧ o.sv < b.sv) then some o else some b

/-- The reference of one signal code among its used observations, from the one in force (R332); `steady` says whose
phase has been continuous for at least 1 s. -/
def pickRef (old : Option Nat) (minDeg : Nat) (steady : Nat → Bool) (l : List Config.FixObs) : Option Nat :=
  let keep : Option Config.FixObs := match old with
    | some sv => l.find? (fun (o : Config.FixObs) => o.sv == sv && decide ((minDeg : Int) ≤ o.elev))
    | none => none
  match keep with
  | some o => some o.sv
  | none =>
    let best : Option Config.FixObs := match old with
      | none => highest l
      | some _ => match highest (l.filter (fun (o : Config.FixObs) => steady o.sv)) with
        | some o => some o
        | none => highest l
    best.map (fun o => o.sv)

/-- The references of every signal code. -/
def pickRefs (old : List (Nat × Nat)) (minDeg : Nat) (steady : Nat → Nat → Bool) (l : List Config.FixObs) :
    List (Nat × Nat) :=
  (List.range 8).filterMap (fun c =>
    let o := (old.find? (fun e => e.1 == c)).map (·.2)
    (pickRef o minDeg (steady c) (l.filter (fun x => x.code == c))).map (fun sv => (c, sv)))

/-- The phase observations whose signal code has at least two of them (R332, R338). -/
def ambObs (l : List (CorSig × ObsEnt × Config.FixObs)) : List (CorSig × ObsEnt × Config.FixObs) :=
  let p := l.filter (fun x => x.2.2.sdPhase.isSome)
  p.filter (fun x => 2 ≤ (p.filter (fun y => y.2.2.code == x.2.2.code)).length)

/-- The ambiguity of a signal. -/
def findAmb (l : List FixAmb) (sv code : Nat) : Option FixAmb := l.find? (fun a => a.sv == sv && a.code == code)

/-- The geometry-free phase of a satellite: its L1-band less its L5-band phase range (R342 order 4). -/
def gfPhase (l : List (CorSig × ObsEnt × Config.FixObs)) (sv : Nat) : Option Rat :=
  match l.find? (fun x => x.1.sv == sv && x.1.code % 2 == 0), l.find? (fun x => x.1.sv == sv && x.1.code % 2 == 1) with
  | some a, some b => match a.2.2.sdPhase, b.2.2.sdPhase with
    | some p, some q => some (p - q)
    | _, _ => none
  | _, _ => none

/-- An ambiguity is reset before the update (R342 orders 1 to 4). -/
def ambReset (f : Filter) (gfMm dt : Nat) (l : List (CorSig × ObsEnt × Config.FixObs)) (x : CorSig × ObsEnt × Config.FixObs) : Bool :=
  match findAmb f.amb x.1.sv x.1.code with
  | none => true
  | some a =>
    a.unused != 0 || a.slip != x.1.slip || bitOf x.2.1.flags 5 || decide (x.2.1.lockMs < a.lockMs) ||
    (match gfPhase l x.1.sv, (f.gf.find? (fun e => e.1 == x.1.sv)).map (·.2) with
      | some now, some was =>
        let d := now - was
        let lim : Rat := ((gfMm : Rat) + 4 * (dt : Rat) / 1000) / 1000
        decide (lim < d) || decide (lim < -d)
      | _, _ => false)

/-- The ambiguity states after the resets of an epoch: used ones refreshed, unused ones kept up to GAP_MAX epochs
(R338). -/
def ambNext (f : Filter) (epoch gapMax : Nat) (resets : List (Nat × Nat)) (l : List (CorSig × ObsEnt × Config.FixObs)) :
    List FixAmb :=
  let used := l.map (fun x =>
    let a : FixAmb := (findAmb f.amb x.1.sv x.1.code).getD { sv := x.1.sv, code := x.1.code, slip := 0, lockMs := 0 }
    if resets.contains (x.1.sv, x.1.code)
    then { sv := x.1.sv, code := x.1.code, slip := x.1.slip, lockMs := x.2.1.lockMs, since := epoch }
    else { a with slip := x.1.slip, lockMs := x.2.1.lockMs, unused := 0 })
  let gone := f.amb.filter (fun a => !l.any (fun x => x.1.sv == a.sv && x.1.code == a.code) && decide (a.unused + 1 ≤ gapMax))
  used ++ gone.map (fun a => { a with unused := a.unused + 1 })

/-- Holds after the resets and the reference changes of an epoch (R352). -/
def holdNext (f : Filter) (resets refP : List (Nat × Nat)) (l : List FixAmb) : List FixAmb :=
  l.map (fun a =>
    let was := (f.refP.find? (fun e => e.1 == a.code)).map (·.2)
    let now := (refP.find? (fun e => e.1 == a.code)).map (·.2)
    let free : FixAmb := { a with held := false, run := 0 }
    if resets.contains (a.sv, a.code) then free
    else match was, now with
      | some w, some n =>
        if resets.contains (w, a.code) then free
        else if w = n then a
        else match findAmb f.amb n a.code with
          | some b => if b.held then { a with int := a.int - b.int } else free
          | none => free
      | _, _ => free)

/-- The ionosphere satellites: both phases used, the 12 with the lowest base elevations (R338). -/
def ionoSats (l : List (CorSig × ObsEnt × Config.FixObs)) : List Nat :=
  let c := l.filter (fun x => x.1.code % 2 == 0 && (gfPhase l x.1.sv).isSome)
  ((sortBy (fun a b => decide (a.2.1.elev ≤ b.2.1.elev)) c).take 12).map (fun x => x.1.sv)

/-! ## Solutions -/

/-- A member's filter. -/
def State.filter (s : State) (a : Nat) : Filter :=
  match s.fix.filters.find? (fun e => e.1 == a) with
  | some e => e.2
  | none => {}

/-- A member's filter replaced. -/
def State.setFilter (s : State) (a : Nat) (f : Filter) : State :=
  { s with fix := { s.fix with filters := s.fix.filters.filter (fun e => e.1 ≠ a) ++ [(a, f)] } }

/-- An epoch as ms since week 0. -/
def epochAbs (week ms : Nat) : Nat := week * 604800000 + ms

/-- Status of an epoch without a measurement update, and AGE (R354): NONE or PROPAGATED. -/
def State.idleStatus (s : State) (f : Filter) (epoch : Nat) : Nat × Nat :=
  let age := epoch - f.last
  if !(s.fixGet FIX_CTRL_EN != 0) || !f.started || decide (s.fixGet FIX_AR2_PROP_MAX * 100 < age) then (0, age) else (1, age)

/-- A component within signed 32 bits (R318). -/
def sat32 (x : Int) : Int := clampI (-2147483648) 2147483647 x

/-- A component was out of range (R358). -/
def posSat (p : Config.FixPos) : Bool := sat32 p.e != p.e || sat32 p.n != p.n || sat32 p.u != p.u

/-- The position of a record: saturated components (R318, R360). -/
def posRec (p : Config.FixPos) : Config.FixPos :=
  { p with e := sat32 p.e, n := sat32 p.n, u := sat32 p.u, sdH := min p.sdH 0xFFFF, sdV := min p.sdV 0xFFFF }

/-- Write a record: it is the member's latest, and it is complete (R28, R360). -/
def State.putRec (s : State) (r : SolRec) : State :=
  let r : SolRec := if r.status = 0 then { r with pos := {}, ratio := 0 } else { r with pos := posRec r.pos }
  let s := { s with fix := { s.fix with recs := s.fix.recs.filter (fun (e : Nat × SolRec) => e.1 ≠ r.addr) ++ [(r.addr, r)]
                                        done := s.fix.done ++ [r] } }
  s.puts [(FIX_MEMBER_STATUS r.addr, r.status), (FIX_MEMBER_HELD r.addr, r.flags / 64 % 2), (FIX_MEMBER_NFIX r.addr, r.nfix),
    (FIX_LOAD_PEAK_US, max (s.get FIX_LOAD_PEAK_US) r.solveUs)]

/-- The flag bits every record carries (R353, R359, R360). -/
def State.recFlags (s : State) (f : Filter) (antFault : Bool) : Nat :=
  b2n (s.bit FIX_INTEG_STATUS_BASE_SUSPECT) + 4 * b2n antFault + 256 * b2n (!f.iono.isEmpty) + 512 * b2n f.restored

/-- The prediction over `ms` with the sampled noise (R339): Q_H and Q_V in 10 mm²/s³, Q_ION in mm²/s. -/
def State.predictBy (s : State) (k : Kf) (ms : Nat) : Kf :=
  k.predict ((s.fixGet FIX_PROC_Q_H : Rat) / 100000) ((s.fixGet FIX_PROC_Q_V : Rat) / 100000)
    ((s.fixGet FIX_IONO_Q_ION : Rat) / 1000000) ((ms : Rat) / 1000)

/-- A record without a measurement update (R354, R355): the prediction, with the cause bits given. -/
def State.idleRec (s : State) (addr week ms cause us : Nat) (antFault : Bool) : SolRec :=
  let f := s.filter addr
  let epoch := epochAbs week ms
  let st := s.idleStatus f epoch
  let p := if st.1 = 0 then {} else (s.predictBy f.kf st.2).output s.fix.orgPos
  { addr := addr, status := st.1, flags := s.recFlags f antFault + cause + 2 * b2n (st.1 != 0 && posSat p), ms := ms
    week := week, sfn := s.sfn, pos := p, age := min st.2 0xFFFF, solveUs := min us 0xFFFF }

/-! ## One solve -/

/-- One antenna table entry as six signed components (R321). -/
def State.antEntry (s : State) (k : Nat) : List Int :=
  [s.getS (ANT_W0_L1_E k), s.getS (ANT_W0_L1_N k), s.getS (ANT_W1_L1_U k), s.getS (ANT_W1_L5_E k), s.getS (ANT_W2_L5_N k),
   s.getS (ANT_W2_L5_U k)]

/-- What the predictions of an epoch share (R335). -/
def State.fixGeo (s : State) (week ms : Nat) (antM : List Int) : FixGeo :=
  { t := (epochAbs week ms : Rat) / 1000, base := ecefOf s.fix.refPos, antB := s.antEntry s.fix.baseAnt, antM := antM
    tropo := s.fixGet FIX_CTRL_TROPO_EN != 0 }

/-- The variance `2 σ²` of a single difference, from the elevation at the base (R341): PHASE_A and PHASE_B in 0.1 mm, σ_code CODE_RATIO times
σ_phase. -/
def State.sigVar (s : State) (g : FixGeo) (sv code : Nat) (phase : Bool) : Rat :=
  let e := sinElev sv g.t (phaseCentre g.base g.antB (code % 2 == 1))
  let a : Rat := (s.fixGet FIX_SIGMA_PHASE_A : Rat) / 10000
  let b : Rat := (s.fixGet FIX_SIGMA_PHASE_B : Rat) / 10000
  let r : Rat := if phase then 1 else s.fixGet FIX_SIGMA_CODE_RATIO
  2 * (r * r * (a * a + b * b / (e * e)))

/-- The double difference of a satellite against its reference, with what the states predict of it (R331, R335): code has the ionosphere with
positive sign, phase with negative sign and the ambiguities. -/
def State.ddMeas (s : State) (g : FixGeo) (k : Kf) (phase : Bool) (o r : Config.FixObs) : FixMeas :=
  let l5 := o.code % 2 == 1
  let q : Rat := if phase then -ionoScale o.code else ionoScale o.code
  let lam : Rat := if phase then sigLambda o.code else 0
  let sd := fun (x : Config.FixObs) => if phase then x.sdPhase.getD 0 else x.sdCode
  let pc := phaseCentre k.pos g.antM l5
  let e := (sightLine r.sv g.t pc).sub (sightLine o.sv g.t pc)
  let pred := g.single k.pos o.sv l5 - g.single k.pos r.sv l5 + q * (k.val (.iono o.sv) - k.val (.iono r.sv)) +
    lam * (k.val (.amb o.sv o.code) - k.val (.amb r.sv r.code))
  { coef := [(.pos 0, e.x), (.pos 1, e.y), (.pos 2, e.z), (.iono o.sv, q), (.iono r.sv, -q), (.amb o.sv o.code, lam),
      (.amb r.sv r.code, -lam)]
    res := sd o - sd r - pred, sv := o.sv, code := o.code, phase := phase, hold := false
    own := s.sigVar g o.sv o.code phase, ref := s.sigVar g r.sv r.code phase }

/-- The double differences of the observations against the references, within each signal code (R331, R332). -/
def State.ddAll (s : State) (g : FixGeo) (k : Kf) (phase : Bool) (refs : List (Nat × Nat)) (l : List Config.FixObs) : List FixMeas :=
  l.filterMap (fun o => match refs.find? (fun e => e.1 == o.code) with
    | none => none
    | some e => if e.2 = o.sv then none
      else (l.find? (fun r => r.code == o.code && r.sv == e.2)).map (s.ddMeas g k phase o))

/-- The least-squares position from the code double differences alone (R340), by repeated linearisation from REF (log 16). -/
def State.startPos (s : State) (g : FixGeo) (refs : List (Nat × Nat)) (l : List Config.FixObs) : Nat → V3
  | 0 => g.base
  | n + 1 =>
    let p := s.startPos g refs l n
    let ms := s.ddAll g { keys := posKeys, x := [p.x, p.y, p.z] } false refs l
    let h := measRows posKeys ms
    let a := mulM ms.length (transp 3 h) (inverse (ms.map (fun m => ms.map m.covar)))
    let d := mulVec (inverse (mulM 3 a h)) (mulVec a (ms.map (·.res)))
    ⟨p.x + d.getD 0 0, p.y + d.getD 1 0, p.z + d.getD 2 0⟩

/-- The filter that a position starts: POS_SD in each axis, velocity 0 with (5 m/s)² (R340). -/
def State.startKf (s : State) (p : V3) : Kf :=
  let v : Rat := (s.fixGet FIX_INIT_POS_SD : Rat) / 10
  let k := posKeys.foldl (fun k a => k.start a (match a with | .pos i => p.axis i | _ => 0) (v * v)) {}
  velKeys.foldl (fun k a => k.start a 0 25) k

/-- Everything a solve decides before the update (R329 to R343): the used signals, the start of the filter, the numbers at the epoch, the
resets, the references, the ambiguities, the ionosphere satellites. -/
structure SolvePrep where
  obs : List (CorSig × ObsEnt × Config.FixObs)
  start : Bool
  /-- The filter may run: at least 4 code double differences where it starts (R340). -/
  able : Bool
  kf : Kf
  far : Bool
  near : Nat
  resets : List (Nat × Nat)
  refC : List (Nat × Nat)
  refP : List (Nat × Nat)
  amb : List FixAmb
  iono : List Nat

/-- The phase observations of a preparation. -/
def SolvePrep.phase (p : SolvePrep) : List Config.FixObs := if p.far then [] else (ambObs p.obs).map (fun x => x.2.2)

/-- The preparation of a solve. Beyond BASE_KM, and until it has been within it for 10 s, a member is solved from code alone (R343). -/
def State.solvePrep (s : State) (f : Filter) (g : FixGeo) (epoch : Nat) (obs : List (CorSig × ObsEnt × Config.FixObs)) : SolvePrep :=
  let dt := epoch - f.last
  let start := !f.started || decide (s.fixGet FIX_SLIP_FILTER_GAP_S * 1000 < dt)
  let f := if start then { f with amb := [], refC := [], refP := [], gf := [] } else f
  let steady := fun code sv => match findAmb f.amb sv code with
    | some a => decide (a.since + 1000 ≤ epoch)
    | none => false
  let minDeg := s.fixGet FIX_CTRL_REF_MIN_DEG
  let codes := obs.map (fun x => x.2.2)
  let refC := pickRefs f.refC minDeg steady codes
  let able := !start || decide (4 ≤ (s.ddAll g {} false refC codes).length)
  let kf := if start then s.startKf (s.startPos g refC codes 8) else s.predictBy f.kf dt
  let dist := if start then (kf.pos.sub g.base).len else f.dist
  let beyond := decide ((s.fixGet FIX_CTRL_BASE_KM : Rat) * 1000 < dist)
  let far := beyond || decide (epoch < f.nearSince + 10000)
  let ph := if far then [] else ambObs obs
  let resets := (ph.filter (ambReset f (s.fixGet FIX_SLIP_GF_MM) dt ph)).map (fun x => (x.1.sv, x.1.code))
  let refP := pickRefs f.refP minDeg steady (ph.map (fun x => x.2.2))
  { obs := obs, start := start, able := able, kf := kf, far := far, near := if beyond then epoch else f.nearSince, resets := resets
    refC := refC, refP := refP
    amb := if far then [] else holdNext f resets refP (ambNext f epoch (s.fixGet FIX_SLIP_GAP_MAX) resets ph)
    iono := if s.fixGet FIX_CTRL_IONO_EST = 0 then [] else ionoSats ph }

/-! ## The geometry-free code and the bias (R336) -/

/-- The observation of a satellite in a band. -/
def bandObs (l : List (CorSig × ObsEnt × Config.FixObs)) (sv : Nat) (l5 : Bool) : Option Config.FixObs :=
  (l.find? (fun x => x.1.sv == sv && (x.1.code % 2 == 1) == l5)).map (fun x => x.2.2)

/-- The geometry-free code of a satellite less the base bias `CAL_IFB × c × 10⁻¹²`, from both its pseudoranges (R336). -/
def State.gfCode (s : State) (l : List (CorSig × ObsEnt × Config.FixObs)) (sv : Nat) : Option Rat :=
  match bandObs l sv false, bandObs l sv true with
  | some a, some b => some (a.sdCode - b.sdCode - (s.fix.ifb : Rat) * 299792458 / 1000000000000)
  | _, _ => none

/-- B_m after an epoch: the running mean, with a time constant of 300 s, over all satellites with no ambiguity reset, of GF less the
ionospheric term that the filter predicts (R336). -/
def State.biasNext (s : State) (bias : Rat) (dt : Nat) (k : Kf) (l : List (CorSig × ObsEnt × Config.FixObs))
    (resets : List (Nat × Nat)) : Rat :=
  let v := (l.filter (fun x => x.1.code % 2 == 0 && !resets.any (fun e => e.1 == x.1.sv))).filterMap (fun x =>
    (s.gfCode l x.1.sv).map (fun gf => gf - k.val (.iono x.1.sv) * (1 - ionoScale 1)))
  if v.isEmpty then bias else bias + (v.sum / v.length - bias) * expGain ((dt : Rat) / 300000)

/-! ## States, resets and the update (R337 to R342) -/

/-- An ambiguity set to what code and phase say, with AMB_SD² and no covariance (R342). -/
def State.ambStart (s : State) (l : List (CorSig × ObsEnt × Config.FixObs)) (k : Kf) (e : Nat × Nat) : Kf :=
  let sd : Rat := (s.fixGet FIX_INIT_AMB_SD : Rat) / 10
  match bandObs l e.1 (e.2 % 2 == 1) with
  | none => k
  | some o => k.start (.amb e.1 e.2)
      ((o.sdPhase.getD 0 - o.sdCode + 2 * k.val (.iono e.1) * ionoScale e.2) / sigLambda e.2) (sd * sd)

/-- The states of an epoch before its update: those no longer needed removed, ionosphere states and ambiguities started (R337, R338, R342). -/
def State.fixStates (s : State) (f : Filter) (p : SolvePrep) : Kf :=
  let sd : Rat := (s.fixGet FIX_IONO_IONO_SD : Rat) / 1000
  let bias := if p.start then 0 else f.bias
  let k := p.kf.keep (fun a => match a with
    | .amb sv c => p.amb.any (fun x => x.sv == sv && x.code == c)
    | .iono sv => p.iono.contains sv
    | _ => true)
  let k := if f.ionoReset then k.ionoVar (sd * sd) else k
  let k := p.iono.foldl (fun (k : Kf) sv => if k.keys.contains (.iono sv) then k
    else match s.gfCode p.obs sv with
      | some gf => k.start (.iono sv) ((gf - bias) / (1 - ionoScale 1)) (sd * sd)
      | none => k) k
  p.resets.foldl (s.ambStart p.obs) k

/-- The pseudo-measurement of a held integer against its reference, with 0.005 cycle (R350). -/
def holdMeas (k : Kf) (refP : List (Nat × Nat)) (h : Nat × Nat × Int) : Option FixMeas :=
  (refP.find? (fun e => e.1 == h.2.1)).map (fun e =>
    let a : FixKey := .amb h.1 h.2.1
    let r : FixKey := .amb e.2 h.2.1
    { coef := [(a, 1), (r, -1)], res := (h.2.2 : Rat) - (k.val a - k.val r), sv := h.1, code := h.2.1, phase := true, hold := true
      own := 25 / 1000000, ref := 0 })

/-- All measurements of an epoch: code, the phase of the signals that are not left out, and the holds (R341, R350). -/
def State.measAll (s : State) (g : FixGeo) (p : SolvePrep) (k : Kf) (holds : List (Nat × Nat × Int)) (out : List (Nat × Nat)) :
    List FixMeas :=
  s.ddAll g k false p.refC (p.obs.map (fun x => x.2.2)) ++
  (s.ddAll g k true p.refP p.phase).filter (fun m => !out.contains (m.sv, m.code)) ++
  (holds.filter (fun h => !out.contains (h.1, h.2.1))).filterMap (holdMeas k p.refP)

/-- The update in one step (R341), with the signals whose phase's normalised innovation exceeds INNOV_K: their ambiguities are reset and the
update is repeated without their phase (R342 order 5). -/
def State.fixUpdate (s : State) (g : FixGeo) (p : SolvePrep) (k : Kf) (holds : List (Nat × Nat × Int)) : Kf × List (Nat × Nat) :=
  let ms := s.measAll g p k holds []
  let cov := k.innovCov ms
  let lim : Rat := (s.fixGet FIX_SLIP_INNOV_K : Rat) * s.fixGet FIX_SLIP_INNOV_K
  let bad := (List.range ms.length).filterMap (fun i => match ms[i]? with
    | some m => if m.phase ∧ !m.hold ∧ lim * elt cov i i < m.res * m.res then some (m.sv, m.code) else none
    | none => none)
  if bad.isEmpty then (k.update ms, [])
  else
    let k := bad.foldl (s.ambStart p.obs) k
    (k.update (s.measAll g p k holds bad), bad)

/-! ## The fixed solution (R346 to R351) -/

/-- A state's value replaced. -/
def Kf.setVal (k : Kf) (a : FixKey) (v : Rat) : Kf :=
  { k with x := (List.range k.x.length).map (fun i => if k.keys[i]? = some a then v else k.x.getD i 0) }

/-- A filter with a position and with integers against the references in place of its own. -/
def Kf.withInts (k : Kf) (pos : V3) (refP : List (Nat × Nat)) (ints : List (Nat × Nat × Int)) : Kf :=
  let k := ints.foldl (fun (k : Kf) h => match refP.find? (fun e => e.1 == h.2.1) with
    | some e => k.setVal (.amb h.1 h.2.1) (k.val (.amb e.2 h.2.1) + h.2.2)
    | none => k) k
  ((k.setVal (.pos 0) pos.x).setVal (.pos 1) pos.y).setVal (.pos 2) pos.z

/-- Every phase double difference of the given ones, with fixed ambiguities at a position, is within FIX_RES_K standard deviations (R349). -/
def State.residOk (s : State) (g : FixGeo) (p : SolvePrep) (k : Kf) (pos : V3) (ints : List (Nat × Nat × Int))
    (which : FixMeas → Bool) : Bool :=
  let lim : Rat := (s.fixGet FIX_AR2_FIX_RES_K : Rat) * s.fixGet FIX_AR2_FIX_RES_K
  ((s.ddAll g (k.withInts pos p.refP ints) true p.refP p.phase).filter which).all (fun m => decide (m.res * m.res ≤ lim * m.var))

/-- The position fixed to integers with its covariance: `b̂ − Q_bâ Q_â⁻¹ (â − ǎ)` and `Q_b − Q_bâ Q_â⁻¹ Q_âb` (R349). -/
structure FixedPos where
  pos : V3
  cov : Nat → Nat → Rat

/-- The candidate vector's rows over the states (R346). -/
def candRows (k : Kf) (refP : List (Nat × Nat)) (l : List (Nat × Nat)) : Mat :=
  l.map (fun e =>
    let r := ((refP.find? (fun x => x.1 == e.2)).map (·.2)).getD 0
    k.keys.map (fun a => if a = .amb e.1 e.2 then (1 : Rat) else if a = .amb r e.2 then -1 else 0))

/-- The float vector of a list of candidates with its covariance (R346). -/
def candFloat (k : Kf) (refP : List (Nat × Nat)) (l : List (Nat × Nat)) : Vec × Mat :=
  let n := k.keys.length
  let t := candRows k refP l
  (mulVec t k.x, mulM l.length (mulM n t k.cov) (transp n t))

/-- The fixed position of the best integers (R349). -/
def fixedPos (k : Kf) (refP : List (Nat × Nat)) (l : List (Nat × Nat)) (ints : List Int) : FixedPos :=
  let n := k.keys.length
  let t := candRows k refP l
  let c := candFloat k refP l
  let b := posKeys.map (fun a => k.keys.map (k.covOf a))
  let qba := mulM l.length b (transp n t)
  let gain := mulM l.length qba (inverse c.2)
  let d := mulVec gain (subV c.1 (ints.map (fun v => (v : Rat))))
  let q := mulM 3 gain (transp l.length qba)
  { pos := k.pos.sub ⟨d.getD 0 0, d.getD 1 0, d.getD 2 0⟩, cov := fun i j => k.covOf (.pos i) (.pos j) - elt q i j }

/-- The held double-difference ambiguities. -/
def heldList (refP : List (Nat × Nat)) (l : List FixAmb) : List (Nat × Nat × Int) :=
  (l.filter (fun a => a.held && !refP.contains (a.code, a.sv))).map (fun a => (a.sv, a.code, a.int))

/-- The elements of the candidate vector (R346, R351): phase-used now, not the reference, not reset at this epoch, and
not held where the epoch has AR_MIN holds. -/
def searchList (p : SolvePrep) (byHold : Bool) : List (Nat × Nat) :=
  (p.amb.filter (fun a => a.unused == 0 && !p.refP.contains (a.code, a.sv) && !p.resets.contains (a.sv, a.code) &&
    !(byHold && a.held))).map (fun a => (a.sv, a.code))

/-- The outcome of a solve: the new filter, the record's fields, and what the counters advance by. -/
structure SolveRes where
  filter : Filter
  status : Nat
  /-- The solved ARP, and the record's position. -/
  arp : V3
  pos : Config.FixPos
  nsig : Nat
  nfix : Nat
  ratio : Nat
  flags : Nat
  abort : Bool
  reject : Bool
  lost : Bool

/-- The run of accepted epochs of an ambiguity, and its hold once HOLD_N is reached (R350). -/
def holdStep (holdN : Nat) (ints : List (Nat × Nat × Int)) (a : FixAmb) : FixAmb :=
  if a.held then a
  else match ints.find? (fun e => e.1 == a.sv && e.2.1 == a.code) with
    | none => { a with run := 0 }
    | some e =>
      let n := if a.run ≠ 0 ∧ a.int = e.2.2 then a.run + 1 else 1
      { a with run := n, int := e.2.2, held := holdN != 0 && decide (holdN ≤ n) }

/-- RATIO of the record: UQ8.8, the maximum when the best norm is 0 (R349, R360). -/
def ratioField (best second : Rat) : Nat :=
  if best = 0 then 0xFFFF else (clampI 0 0xFFFF (quantQ (second / best * 256))).toNat

/-- One solve (R338 to R353) of a filter with the used signals, the receiver's antenna entry and the epoch. None where the filter cannot start
(R340). -/
def State.solveWith (s : State) (f : Filter) (obs : List (CorSig × ObsEnt × Config.FixObs)) (antM : List Int) (week ms : Nat) :
    Option SolveRes :=
  let epoch := epochAbs week ms
  let g := s.fixGeo week ms antM
  let p := s.solvePrep f g epoch obs
  if !p.able then none
  else
    let suspect := s.bit FIX_INTEG_STATUS_BASE_SUSPECT
    let arMin := s.fixGet FIX_AR_AR_MIN
    let holds := heldList p.refP p.amb
    let u := s.fixUpdate g p (s.fixStates f p) holds
    let k := u.1
    let bad := u.2
    let holds := holds.filter (fun h => !bad.contains (h.1, h.2.1))
    let byHold := decide (arMin ≤ holds.length)
    let search := (searchList p byHold).filter (fun e => !bad.contains e)
    let ran := decide ((if byHold then 1 else arMin) ≤ search.length)
    let c := candFloat k p.refP search
    let o := (if ran then intSearch c.1 c.2 else none).getD { best := 0, second := 0, ints := [], nodes := 0 }
    let abort := ran && decide (s.fixGet FIX_AR_SEARCH_NODES * 256 < o.nodes)
    let cand := ran && !abort && decide (((s.fixGet FIX_AR_RATIO_MIN : Nat) : Rat) * o.best ≤ 16 * o.second)
    let ints := List.zipWith (fun (e : Nat × Nat) (v : Int) => (e.1, e.2, v)) search o.ints
    let fixed := fixedPos k p.refP search o.ints
    let whole := ints ++ (if byHold then holds else [])
    let ok := s.residOk g p k fixed.pos whole (fun m => whole.any (fun e => e.1 == m.sv && e.2.1 == m.code))
    let reject := cand && !ok
    let acc := cand && ok && !suspect
    let lost := byHold && !s.residOk g p k k.pos holds (fun m => !bad.contains (m.sv, m.code))
    let amb := p.amb.map (fun a =>
      if lost || bad.contains (a.sv, a.code) then { a with held := false, run := 0, since := epoch } else a)
    let amb := if suspect || lost then amb else if acc then amb.map (holdStep (s.fixGet FIX_AR_HOLD_N) ints)
      else amb.map (fun a => if a.held then a else { a with run := 0 })
    let kOut := if lost then (p.phase.map (fun x => (x.sv, x.code))).foldl (s.ambStart obs) k else k
    let phDd := p.phase.any (fun x => !p.refP.contains (x.code, x.sv) && !bad.contains (x.sv, x.code))
    let isFixed := !suspect && !lost && (acc || byHold)
    let st := if !phDd then 2 else if isFixed then 4 else 3
    let resets := p.resets ++ bad ++ (if lost then p.phase.map (fun x => (x.sv, x.code)) else [])
    some
      { filter := { f with started := true, last := epoch, amb := amb, iono := p.iono, refC := p.refC, refP := p.refP
                           gf := ((p.obs.filter (fun x => x.1.code % 2 == 0)).filterMap (fun x =>
                                    (gfPhase p.obs x.1.sv).map (fun v => (x.1.sv, v))))
                           kf := kOut, bias := s.biasNext (if p.start then 0 else f.bias) (epoch - f.last) k obs resets
                           dist := (k.pos.sub g.base).len, nearSince := p.near, restored := false, ionoReset := false }
        status := st
        arp := if st = 4 ∧ acc then fixed.pos else k.pos
        pos := if st = 4 ∧ acc then fixPosOf s.fix.orgPos fixed.pos k.vel fixed.cov else k.output s.fix.orgPos
        nsig := (obs.filter (fun x => 2 ≤ (obs.filter (fun y => y.1.code == x.1.code)).length)).length
        nfix := if st = 4 then (if acc then search.length else 0) + (if byHold then holds.length else 0) else holds.length
        ratio := if ran then ratioField o.best o.second else 0
        flags := 64 * b2n (byHold && !lost) + 128 * b2n abort + 256 * b2n (!p.iono.isEmpty) + 512 * b2n f.restored +
          1024 * b2n p.far + b2n suspect
        abort := abort, reject := reject, lost := lost }

/-- One solve of a member's COR against the base record. -/
def State.solve (s : State) (addr : Nat) (c : Cor) (r : ObsRec) : Option SolveRes :=
  (s.solveWith (s.filter addr) (s.fixObs c r) (s.antEntry c.antId) c.week c.ms).map (fun x =>
    { x with flags := x.flags + 4 * b2n c.antFault })

/-! ## Acceptance and the queue -/

/-- The outcome of steps 1 to 4 of R328 for a COR payload whose epoch must be (week, ms); a discarded COR advances its
count. -/
def State.corAccept (s : State) (addr week ms : Nat) (p : List Nat) : State × Option Cor :=
  match parseCor p with
  | none => (s.bump FIX_CNT_COR_MALFORMED, none)
  | some c =>
    if c.week ≠ week ∨ c.ms ≠ ms then
      ((s.bump FIX_CNT2_COR_EPOCH_MISMATCH).bump (FIX_MEMBER_EPOCH_MISMATCH addr), none)
    else if !c.clkValid then (s.bump FIX_CNT_COR_CLOCK, none)
    else (s, some c)

/-- A COR enters the queue in the ply in which the MAC hands it over, `late` ns after the end of its slot (on a sub-GHz lane of its last part's,
R366), and waits while another is solved (R362, R367); one of a missing base epoch is discarded with a NO_BASE record (R356). -/
def State.corEnqueue (s : State) (addr : Nat) (late : Int) (c : Cor) : State :=
  if s.fix.missing = some (c.week, c.ms) then s.putRec (s.idleRec addr c.week c.ms 16 (late / 1000).toNat c.antFault)
  else { s with fix := { s.fix with queue := s.fix.queue ++ [⟨addr, s.ply, late, c⟩] } }

/-- The time from the end of a COR's slot to an instant `dt` ns into the ply, in µs: SOLVE_US of a record written then (R360). -/
def State.jobUs (s : State) (j : CorJob) (dt : Int) : Nat := (((s.ply - j.ply : Nat) * 10000 + j.late + dt) / 1000).toNat

/-- The rank of a queued COR: PRIO as sampled, ply of entry, address (R362). -/
def State.jobBefore (s : State) (a b : CorJob) : Bool :=
  let pa := s.fixGet (FIX_MEMBER_PRIO a.addr)
  let pb := s.fixGet (FIX_MEMBER_PRIO b.addr)
  pa < pb || (pa == pb && (a.ply < b.ply || (a.ply == b.ply && a.addr < b.addr)))

/-- The queued COR that ranks first. -/
def State.jobFirst (s : State) : List CorJob → Option CorJob
  | [] => none
  | j :: t => match s.jobFirst t with
    | none => some j
    | some k => if s.jobBefore k j then some k else some j

/-- FIX_SOLVE_START: the free engine, its microcode loaded (R91, log 32), takes the first-ranked COR once its base record is
published (R328, R362). -/
def execFixSolveStart (s : State) : Out :=
  fin (match s.fix.cur, s.jobFirst s.fix.queue, s.fix.base with
    | none, some j, some r =>
      if s.boot.loaded.contains 6 ∧ s.fixGet FIX_CTRL_EN ≠ 0 ∧ r.week = j.cor.week ∧ r.ms = j.cor.ms then
        { s with fix := { s.fix with cur := some j, queue := s.fix.queue.erase j } }
      else s
    | _, _, _ => s)

/-- A solve completes with its record `dt` ns into the ply (R354, R360); a solve after its bound of R27 is LATE (R365). -/
def State.solveDone (s : State) (dt : Nat) : State :=
  match s.fix.cur, s.fix.base with
  | some j, some r =>
    let us := s.jobUs j dt
    let s := { s with fix := { s.fix with cur := none } }
    let s := if 2500 < us then s.bump FIX_OVL_LATE else s
    match s.solve j.addr j.cor r with
    | none => s.putRec (s.idleRec j.addr j.cor.week j.cor.ms 0 us j.cor.antFault)
    | some x =>
      let s := if x.abort then s.bump FIX_CNT3_SEARCH_ABORT else s
      let s := if x.reject then s.bump FIX_CNT4_FIX_REJECT else s
      let s := if x.lost then s.bump FIX_CNT4_FIX_LOST else s
      (s.setFilter j.addr x.filter).putRec
        { addr := j.addr, status := x.status, flags := x.flags + 2 * b2n (posSat x.pos), ms := j.cor.ms, week := j.cor.week
          nsig := x.nsig, nfix := x.nfix, sfn := s.sfn, pos := x.pos, ratio := x.ratio, age := 0, solveUs := min us 0xFFFF }
  | _, _ => s

/-- At C2, `dt` ns into the ply, the solve in progress and every queued COR give way: records with SHED, filters as they were (R365). -/
def State.shedAll (s : State) (dt : Int) : State :=
  let l : List CorJob := s.fix.cur.toList ++ s.fix.queue
  let s := { s with fix := { s.fix with cur := none, queue := [] } }
  l.foldl (fun s j => (s.bump FIX_OVL_SHED).putRec (s.idleRec j.addr j.cor.week j.cor.ms 8 (s.jobUs j dt) j.cor.antFault)) s

/-- IFB_AGE_EXPIRY: 600 s after the last joint publication of FE_A the base bias is taken as 0 (R337). -/
def execIfbAgeExpiry (s : State) : Out :=
  fin (if s.gnss.fe0.ifbUse ∧ s.gnss.fe0.ifbPly + 60000000 ≤ s.ply then (s.setFe 0 { s.feSt 0 with ifbUse := false }).ionoVarReset else s)

/-! ## Bytes -/

/-- The 80 bytes of a record (R360). -/
def SolRec.bytes (r : SolRec) : List Nat :=
  [r.addr, r.status] ++ leBytes 2 r.flags ++ leBytes 4 r.ms ++ leBytes 2 r.week ++ [r.nsig, r.nfix] ++ leBytes 4 r.sfn ++
  leBytes 8 (usgn 64 r.pos.x) ++ leBytes 8 (usgn 64 r.pos.y) ++ leBytes 8 (usgn 64 r.pos.z) ++ leBytes 4 (usgn 32 r.pos.e) ++
  leBytes 4 (usgn 32 r.pos.n) ++ leBytes 4 (usgn 32 r.pos.u) ++ leBytes 4 (usgn 32 r.pos.ve) ++
  leBytes 4 (usgn 32 r.pos.vn) ++ leBytes 4 (usgn 32 r.pos.vu) ++ leBytes 2 r.pos.sdH ++ leBytes 2 r.pos.sdV ++
  leBytes 2 r.ratio ++ leBytes 2 r.age ++ leBytes 2 r.solveUs ++ List.replicate 6 0

/-- SD_H class of a digest entry (R361). -/
def sdClass (status sd : Nat) : Nat :=
  if status = 0 then 7 else if sd ≤ 10 then 0 else if sd ≤ 20 then 1 else if sd ≤ 50 then 2 else if sd ≤ 100 then 3
  else if sd ≤ 300 then 4 else if sd ≤ 1000 then 5 else 6

/-- The 12 bytes of a digest entry (R361). -/
def SolRec.entry (r : SolRec) : List Nat :=
  let e := clampI (-134217728) 134217727 r.pos.e
  let n := clampI (-134217728) 134217727 r.pos.n
  let u := clampI (-8388608) 8388607 r.pos.u
  let cut := bitOf r.flags 1 || e != r.pos.e || n != r.pos.n || u != r.pos.u
  let pos : Nat := if r.status = 0 then 0 else usgn 28 e + usgn 28 n * 2 ^ 28 + usgn 24 u * 2 ^ 56
  [r.addr, r.status + 8 * (r.flags % 2) + 16 * b2n (r.status != 0 && cut) + 32 * sdClass r.status r.pos.sdH] ++ leBytes 10 pos

/-! ## Applying REF and ORG -/

/-- A profile channel runs: its state is not IDLE (R320, R484). -/
def State.pchRunning (s : State) : Bool := (List.range 192).any (fun a => s.get (PCH_W5_STATE (a + 1)) != 0)

/-- A write to FIX_REF_CTRL: BASE_ANT, the W1C REFUSED, and the two applies (R319, R320). -/
def State.refCtrl (data : Nat) (s : State) : State :=
  let s := s.put FIX_REF_CTRL_BASE_ANT (bits data 3 0)
  let s := if bitOf data 29 then s.put FIX_REF_CTRL_REFUSED 0 else s
  let s := if bitOf data 31 then { s with fix := { s.fix with refAt := some s.ply } }.put FIX_REF_CTRL_PENDING 1 else s
  if bitOf data 30 then
    if s.pchRunning then s.put FIX_REF_CTRL_REFUSED 1
    else { s with fix := { s.fix with orgAt := some s.ply } }.put FIX_REF_CTRL_PENDING 1
  else s

/-- APPLY_REF (R319). -/
def execApplyRef (ini data : Nat) (s : State) : Out :=
  fin (if bitOf data 31 then s.asWrite ini 0x40200050 (State.refCtrl data) else s)

/-- APPLY_ORG (R320). -/
def execApplyOrg (ini data : Nat) (s : State) : Out :=
  fin (if bitOf data 30 then s.asWrite ini 0x40200050 (State.refCtrl data) else s)

/-- A 64-bit shadow value in two words. -/
def State.shadow64 (s : State) (lo hi : Fld) : Int := sgn 64 (s.get lo + s.get hi * 2 ^ 32)

/-- Reset one filter (R340, R352). -/
def Filter.reset (f : Filter) : Filter := { dist := f.dist, nearSince := f.nearSince }

/-- What the engine takes into use at a strobe (R319, R320, R337, R344, R370): the shadows, the sampled registers, the
pending filter resets, the ephemerides. -/
def State.fixStrobe (eph : List Nat) (s : State) : State :=
  let landed := fun (o : Option Nat) => match o with | some p => decide (p < s.ply) | none => false
  let takeRef := landed s.fix.refAt
  let takeOrg := landed s.fix.orgAt
  let three := fun (g : Nat → Fld) => [s.shadow64 (g 0) (g 1), s.shadow64 (g 2) (g 3), s.shadow64 (g 4) (g 5)]
  let smp := s.regs.filter (fun e => regPart e.1 == .fix)
  let off := regLookup smp FIX_CTRL_EN.key FIX_CTRL_EN.rst == 0
  let all := takeRef || off || s.fix.resets.contains 0xFF
  let filters := s.fix.filters.map (fun e => if all || s.fix.resets.contains e.1 then (e.1, e.2.reset) else e)
  let s := { s with fix := { s.fix with
    refPos := if takeRef then three FIX_REF_VALUE else s.fix.refPos
    baseAnt := if takeRef then s.get FIX_REF_CTRL_BASE_ANT else s.fix.baseAnt
    orgPos := if takeOrg then three FIX_ORG_VALUE else s.fix.orgPos
    refAt := if takeRef then none else s.fix.refAt
    orgAt := if takeOrg then none else s.fix.orgAt
    ifb := if s.gnss.fe0.ifbUse then s.getS (CAL_IFB_IFB 0) else 0
    integ := if takeRef || off then s.fix.integ.reset else s.fix.integ
    smp := smp, filters := filters, resets := [], eph := eph, base := none
    integBad := if takeRef then 0 else s.fix.integBad
    integGood := if takeRef then 0 else s.fix.integGood } }
  s.put FIX_REF_CTRL_PENDING (b2n (s.fix.refAt.isSome || s.fix.orgAt.isSome))

/-! ## Fix opcodes -/

/-- A member address (R370). -/
def addrOk (a : Nat) : Bool := 1 ≤ a && a ≤ 0xC0

/-- SOL_GET (R370). -/
def execSolGet (sess tag : Nat) (pay : List Nat) (s : State) : Out :=
  fin (s.ecpRun 0x0400 sess tag pay (pay.length == 4) true (fun s =>
    let a := leAt pay 0 1
    if !addrOk a then (s, .final Ecp.BAD_PARAM [])
    else match s.fix.recs.find? (fun e => e.1 == a), s.get (MEMBER_W2_STATE a) with
      | some e, _ + 1 => (s, .final Ecp.OK e.2.bytes)
      | _, _ => (s, .final Ecp.OK (SolRec.bytes { addr := a }))))

/-- PRIO_SET (R370). -/
def execPrioSet (sess tag : Nat) (pay : List Nat) (s : State) : Out :=
  let n := leAt pay 0 1
  fin (s.ecpRun 0x0401 sess tag pay (pay.length == 2 + 2 * n) true (fun s =>
    let l : List (Nat × Nat) := (List.range n).map (fun k => (leAt pay (2 + 2 * k) 1, leAt pay (3 + 2 * k) 1))
    if n < 1 ∨ 64 < n ∨ l.any (fun e => !addrOk e.1 || 7 < e.2) then (s, .final Ecp.BAD_PARAM [])
    else (l.foldl (fun s e => s.put (FIX_MEMBER_PRIO e.1) e.2) s, .final Ecp.OK [])))

/-- FILTER_RESET (R370): at the next strobe. -/
def execFilterReset (sess tag : Nat) (pay : List Nat) (s : State) : Out :=
  fin (s.ecpRun 0x0402 sess tag pay (pay.length == 4) true (fun s =>
    let a := leAt pay 0 1
    if !addrOk a && a != 0xFF then (s, .final Ecp.BAD_PARAM [])
    else ({ s with fix := { s.fix with resets := s.fix.resets ++ [a] } }, .final Ecp.OK [])))

end Sys2Proof.Machine
end

