-- ==== Sys2Proof/Machine/Memory.lean ====
section
/-!
DEFINITION. An addressed memory: a list of (address, value) pairs in one canonical form, addresses strictly rising and
no value equal to 0, which an unlisted address reads as (log 6).
-/

namespace Sys2Proof.Machine

/-- A memory. -/
abbrev Mem := List (Nat × Nat)

/-- The value at an address; 0 where none is listed. -/
def Mem.get : Mem → Nat → Nat
  | [], _ => 0
  | (k, v) :: t, a => if k = a then v else Mem.get t a

/-- The memory with an address unlisted. -/
def Mem.erase : Mem → Nat → Mem
  | [], _ => []
  | (k, v) :: t, a => if k = a then t else (k, v) :: Mem.erase t a

/-- The memory with a value put before the first larger address. -/
def Mem.ins : Mem → Nat → Nat → Mem
  | [], a, v => [(a, v)]
  | (k, w) :: t, a, v => if a < k then (a, v) :: (k, w) :: t else (k, w) :: Mem.ins t a v

/-- A write: the value 0 unlists the address. -/
def Mem.put (m : Mem) (a v : Nat) : Mem := if v = 0 then m.erase a else (m.erase a).ins a v

/-- Consecutive writes from an address. -/
def Mem.putList : Mem → Nat → List Nat → Mem
  | m, _, [] => m
  | m, a, v :: t => Mem.putList (m.put a v) (a + 1) t

/-- Consecutive values from an address. -/
def Mem.getList (m : Mem) (a n : Nat) : List Nat := (List.range n).map (fun i => m.get (a + i))

/-- Every address of the list lies above a bound. -/
def Mem.above (b : Nat) : Mem → Bool
  | [] => true
  | e :: t => decide (b < e.1) && Mem.above b t

/-- The canonical form. -/
def Mem.wf : Mem → Bool
  | [] => true
  | e :: t => e.2 != 0 && Mem.above e.1 t && Mem.wf t

end Sys2Proof.Machine
end

