-- ==== Sys2Proof/Machine/Profile.lean ====
section
/-!
DEFINITION. Jerk-limited profiles of arc length (R485 to R488, R501), in µm and s: the phases of constant jerk that a channel's plan
consists of, and the commanded state at an instant. Square roots are those of the reals (log 13); a value that the engine holds is
rounded to 1 µm, 1 µm/s or 1 µm/s² (R485, log 17).
-/

namespace Sys2Proof.Machine

open Config (PlanIn)

/-- Arc, speed and acceleration. -/
structure Motion where
  s : Rat
  v : Rat
  a : Rat

/-- A phase: its duration and its jerk. -/
structure Phase where
  t : Rat
  j : Rat

/-- The motion after `t` seconds of constant jerk. -/
def Motion.after (m : Motion) (j t : Rat) : Motion :=
  { s := m.s + m.v * t + m.a * t * t / 2 + j * t * t * t / 6, v := m.v + m.a * t + j * t * t / 2, a := m.a + j * t }

/-- The motion after every phase of a list. -/
def Motion.run (m : Motion) (l : List Phase) : Motion := l.foldl (fun m p => m.after p.j p.t) m

/-- The motion at a time within a list of phases; it stays as it is after the last. -/
def Motion.at (m : Motion) : List Phase → Rat → Motion
  | [], _ => m
  | p :: l, t => if t ≤ p.t then m.after p.j t else (m.after p.j p.t).at l (t - p.t)

/-- The three phases that take a speed and acceleration to speed `w` with zero acceleration in the least time (R485). -/
def rampTo (aMax jMax : Rat) (m : Motion) (w : Rat) : List Phase :=
  let d : Rat := if m.v + m.a * absQ m.a / (2 * jMax) ≤ w then 1 else -1
  let a := d * m.a
  let dv := d * (w - m.v)
  let peak := sqrtR (jMax * dv + a * a / 2)
  if peak ≤ aMax then [⟨max 0 ((peak - a) / jMax), d * jMax⟩, ⟨peak / jMax, -d * jMax⟩]
  else [⟨(aMax - a) / jMax, d * jMax⟩, ⟨max 0 ((dv - (2 * aMax * aMax - a * a) / (2 * jMax)) / aMax), 0⟩, ⟨aMax / jMax, -d * jMax⟩]

/-- The phases to a speed and from there to another, without a cruise. -/
def viaSpeed (aMax jMax : Rat) (m : Motion) (w u : Rat) : List Phase :=
  let l := rampTo aMax jMax m w
  l ++ rampTo aMax jMax { m.run l with v := w, a := 0 } u

/-- The arc those phases end at. -/
def viaArc (aMax jMax : Rat) (m : Motion) (w u : Rat) : Rat := (m.run (viaSpeed aMax jMax m w u)).s

/-- The peak speed between `lo` and `hi` for which the phases end at arc `x`: halved `n` times (R485, log 17). -/
def peakSpeed (aMax jMax : Rat) (m : Motion) (u x : Rat) : Nat → Rat → Rat → Rat
  | 0, lo, _ => lo
  | n + 1, lo, hi =>
    let w := (lo + hi) / 2
    if viaArc aMax jMax m w u ≤ x then peakSpeed aMax jMax m u x n w hi else peakSpeed aMax jMax m u x n lo w

/-- The phases from a motion to arc `x` with speed `u` there and zero acceleration, in the least time between the speeds `lo` and `hi`: through
the fastest speed that the arc allows, with a cruise where that is a limit (R485). -/
def reachArc (aMax jMax lo hi : Rat) (m : Motion) (u x : Rat) : List Phase :=
  let cruise := fun (w : Rat) =>
    let l := rampTo aMax jMax m w
    let t := if w = 0 then 0 else (x - viaArc aMax jMax m w u) / w
    l ++ [⟨max 0 t, 0⟩] ++ rampTo aMax jMax { m.run l with v := w, a := 0 } u
  if viaArc aMax jMax m hi u ≤ x then cruise hi
  else if x ≤ viaArc aMax jMax m lo u then cruise lo
  else viaSpeed aMax jMax m (peakSpeed aMax jMax m u x 64 lo hi) u

/-- The fastest speed up to `hi` from which a rest at `x` is within reach of arc `s` (R501). -/
def restSpeed (aMax jMax s x hi : Rat) : Nat → Rat → Rat
  | 0, lo => lo
  | n + 1, lo =>
    let w := (lo + hi) / 2
    let fits := fun (w : Rat) => decide ((Motion.run ⟨s, w, 0⟩ (rampTo aMax jMax ⟨s, w, 0⟩ 0)).s ≤ x)
    if fits hi then hi else if fits w then restSpeed aMax jMax s x hi n w else restSpeed aMax jMax s x w n lo

/-- The motion a plan starts from. -/
def planFrom (p : PlanIn) : Motion := ⟨p.s, p.v, p.a⟩

/-- The phases of a plan: a deceleration to rest; the way to its arc; or, homing, the way to the arc from which the homing speed holds, at that
speed or at the one from which the rest is within reach, and from there to its arc (R485, R488, R501). -/
def planPhases (p : PlanIn) : List Phase :=
  let A : Rat := p.aMax
  let J : Rat := p.jMax
  let V : Rat := p.vMax
  let lo : Rat := if p.rev then -V else 0
  let m := planFrom p
  match p.target, p.home with
  | none, _ => rampTo A J m 0
  | some x, none => reachArc A J lo V m 0 x
  | some x, some (near, h) =>
    let u := min V (restSpeed A J near x h 64 0)
    if viaArc A J m u u ≤ near ∧ 0 < u then
      let l := reachArc A J lo V m u near
      l ++ reachArc A J (if p.rev then -(h : Rat) else 0) (min V h) ⟨near, u, 0⟩ 0 x
    else reachArc A J (if p.rev then -(min V h) else 0) (min V h) m 0 x

/-- The duration of a plan in s. -/
def planTime (p : PlanIn) : Rat := ((planPhases p).map Phase.t).sum

/-- The first whole ms at which a plan is at rest. -/
def planMs (p : PlanIn) : Nat := (planTime p * 1000).ceil.toNat

/-- The arc at which a deceleration at the limits comes to rest, in µm (R488). -/
def planStop (p : PlanIn) : Int := quantQ ((planFrom p).run (rampTo p.aMax p.jMax (planFrom p) 0)).s

/-- The commanded state at a time in ms after the start of a plan, held to 1 µm, 1 µm/s and 1 µm/s² (R485). -/
def planAt (p : PlanIn) (ms : Nat) : Int × Int × Int :=
  let m := (planFrom p).at (planPhases p) ((ms : Rat) / 1000)
  (quantQ m.s, quantQ m.v, quantQ m.a)

end Sys2Proof.Machine
end

