-- ==== Sys2Proof/Machine/Work.lean ====
section
/-!
DEFINITION. Work dispatch (spec/14): descriptors, submission, cancellation, the application cores' takes, binding to
members, reports, lapses and completions.
-/

namespace Sys2Proof.Machine

open R

/-! ## Descriptors (R453 to R456) -/

/-- A state in which the descriptor is in use. -/
def liveState (st : Nat) : Bool := 1 ≤ st && st ≤ 5

/-- Free descriptors (R455). -/
def State.dispFree (s : State) : Nat := 4096 - (s.disp.tasks.filter (fun e => liveState e.2.state)).length

/-- Descriptors in use that the host submitted (R458). -/
def State.hostTasks (s : State) : Nat :=
  (s.disp.tasks.filter (fun e => liveState e.2.state && (e.2.origin == 0x01 || e.2.origin == 0x02))).length

/-- The dispatcher dispatches: it is enabled, on the active unit (R32). -/
def State.dispRuns (s : State) : Bool := s.bit DISP_CTRL_EN && s.bit PAIR_STATUS_ACTIVE

/-- Tier C TARGET, tier M TARGET (R454). -/
def targetOk (tierM : Bool) (t : Nat) : Bool :=
  if tierM then t == 0 || isAddr t || (0xD0 ≤ t && t ≤ 0xDF) else t == 0

/-- A submitted descriptor is well formed (R454). -/
def descOk (ply : Nat) (b : List Nat) : Bool :=
  let fl := leAt b 5 1
  let m := bitOf fl 0
  decide (leAt b 4 1 ≤ 63) && decide (fl / 16 = 0) && decide (bits fl 3 2 ≠ 3) && leAt b 6 2 != 0 && targetOk m (leAt b 8 1) &&
  decide (leAt b 9 1 ≤ if m then 36 else 40) && (bits fl 3 2 != 2 || decide (ply < leAt b 16 8))

/-- The task of a submitted descriptor, without its ID. -/
def descTask (origin ply id : Nat) (b : List Nat) : Task :=
  { id := id, level := leAt b 4 1, flags := leAt b 5 1, mask := leAt b 6 2, target := leAt b 8 1, origin := origin
    readyPly := leAt b 16 8, body := (b.drop 24).take (leAt b 9 1), sub := ply }

/-- The INDEX that the next allocation takes: one never used, lowest first, else the one free longest (R455). -/
def State.nextIx (s : State) : Option Nat := if s.disp.fresh < 4096 then some s.disp.fresh else s.disp.freed.head?

/-- The GEN after the descriptor's present one (R453). -/
def State.nextGen (s : State) (ix : Nat) : Nat :=
  match s.task ix with
  | some t => if 0xFFFFF ≤ t.id / 4096 then 1 else t.id / 4096 + 1
  | none => 1

/-- Allocate a descriptor for a task; answers its ID (R453, R455). -/
def State.allocTask (s : State) (f : Nat → Task) : State × Option Nat :=
  match s.nextIx with
  | none => (s, none)
  | some ix =>
    let id := s.nextGen ix * 4096 + ix
    let s := if ix = s.disp.fresh then { s with disp := { s.disp with fresh := ix + 1 } }
      else { s with disp := { s.disp with freed := s.disp.freed.filter (· ≠ ix) } }
    (s.setTask (f id), some id)

/-- Submit a descriptor: the task is PENDING (R457, R459). -/
def State.submitDesc (s : State) (origin : Nat) (b : List Nat) : State × Option Nat :=
  let r := s.allocTask (fun id => descTask origin s.ply id b)
  match r.2 with
  | none => (s, none)
  | some id => ({ r.1 with disp := { r.1.disp with pend := r.1.disp.pend ++ [taskIx id] } }, some id)

/-- The banked descriptor words of an initiator as 64 bytes. -/
def State.bankDesc (s : State) (ini : Nat) : List Nat :=
  (List.range 16).flatMap (fun w => leBytes 4 (s.get (DISP_DESC_WORD ini w)))

/-- The result of a submit or cancel in the initiator's bank. -/
def State.dispResult (s : State) (ini id code : Nat) : State :=
  s.puts [(DISP_RESULT_ID ini, id), (DISP_RESULT_CODE_CODE ini, code)]

/-- A freed descriptor goes to the submit that has been stalled longest (R457). -/
def State.unstall (s : State) : State :=
  match s.disp.stalled with
  | [] => s
  | ini :: rest =>
    let s := { s with disp := { s.disp with stalled := rest } }
    match s.submitDesc ini (s.bankDesc ini) with
    | (s, some id) => s.dispResult ini id 0
    | (s, none) => s.dispResult ini 0 1

/-! ## Ends (R456, R473) -/

/-- A task reaches a final state: the completion message on every stream of type 5, and the descriptor is free (R456,
R473). -/
def State.endOnly (s : State) (t : Task) (st : Nat) : State :=
  let t := { t with state := st, endPly := s.ply }
  let ix := taskIx t.id
  let s := s.setTask t
  let s := { s with disp := { s.disp with
    pend := s.disp.pend.filter (· ≠ ix), ready := s.disp.ready.filter (· ≠ ix), freed := s.disp.freed ++ [ix] } }
  s.produce 5 (leBytes 4 t.id ++ [st, t.result, t.exec, b2n t.unknownEnd + 2 * b2n t.requeued] ++ leBytes 4 t.data ++
    leBytes 8 t.endPly) (some (s.ply + 10000))

/-- A task ends, and a stalled submit may take its descriptor (R456, R457, R473). -/
def State.endTask (s : State) (t : Task) (st : Nat) : State := (s.endOnly t st).unstall

/-- The local order slot of a member: its task ASSIGNED or HELD. -/
def State.slotTask (s : State) (a : Nat) : Option Task :=
  ((s.disp.tasks.find? (fun e => (e.2.state == 3 || e.2.state == 4) && e.2.exec == a && e.2.tierM))).map (·.2)

/-- The task RUNNING on a member. -/
def State.runTask (s : State) (a : Nat) : Option Task :=
  ((s.disp.tasks.find? (fun e => e.2.state == 5 && e.2.exec == a && e.2.tierM))).map (·.2)

/-- The member's local slot has become empty (R464). -/
def State.slotEmptied (s : State) (a : Nat) : State :=
  if (s.slotTask a).isNone then s.setMem a { s.mem a with emptyPly := s.ply } else s

/-- A held order lapses: LAPSED, and with REQUEUE a new task READY at the tail of its level in that ply, before any stalled submit takes a
descriptor (R466). -/
def State.lapseTask (s : State) (t : Task) : State :=
  let rq := bitOf t.flags 1
  let s := s.bump DISP_CNT2_LAPSED
  let s := s.endOnly { t with requeued := rq, wasRequeued := rq } 9
  let s := s.slotEmptied t.exec
  if rq then
    let r := s.allocTask (fun id => { id := id, level := t.level, flags := t.flags, mask := t.mask, target := t.target
                                      origin := t.origin, readyPly := t.readyPly, body := t.body, state := 2, sub := s.ply })
    match r.2 with
    | some id => { r.1 with disp := { r.1.disp with ready := r.1.disp.ready ++ [taskIx id] } }.unstall
    | none => r.1.unstall
  else s.unstall

/-! ## Submission (R457, R458) -/

/-- A GO write by a submitting initiator. -/
def State.dispSubmit (ini : Nat) (s : State) : State :=
  if !BankKind.disp.holds ini then s
  else if !descOk s.ply (s.bankDesc ini) then s.dispResult ini 0 2
  else match s.submitDesc ini (s.bankDesc ini) with
    | (s, some id) => s.dispResult ini id 0
    | (s, none) => { s with disp := { s.disp with stalled := s.disp.stalled ++ [ini] } }

/-- DISP_SUBMIT (R457). -/
def execDispSubmit (ini : Nat) (s : State) : Out := fin (s.asWrite ini 0x40400140 (State.dispSubmit ini))

/-- DISP_SUBMIT_STALL_EXPIRY: 64 CLK_FAB cycles without a free descriptor (R457). -/
def execDispSubmitStallExpiry (ini : Nat) (s : State) : Out :=
  fin (if s.disp.stalled.contains ini then
    (({ s with disp := { s.disp with stalled := s.disp.stalled.filter (· ≠ ini) } }).dispResult ini 0 1).bump DISP_CNT_FULL
    else s)

/-- TASK_SUBMIT: within HOST_MAX and with a free descriptor, else QUEUE_FULL (R458). -/
def execTaskSubmit (sess tag : Nat) (pay : List Nat) (s : State) : Out :=
  fin (s.ecpRun 0x0600 sess tag pay (pay.length == 64) true (fun s =>
    if !descOk s.ply pay then (s, .final Ecp.BAD_PARAM [])
    else if s.nextIx.isNone || decide (s.get DISP_CTRL_HOST_MAX ≤ s.hostTasks) then
      (s.bump DISP_CNT_QUEUE_FULL, .final Ecp.QUEUE_FULL [])
    else match s.submitDesc (sessIni sess) pay with
      | (s, some id) => (s, .final Ecp.OK (leBytes 4 id))
      | (s, none) => (s, .final Ecp.QUEUE_FULL [])))

/-! ## Becoming ready (R459) -/

/-- A PENDING task's READY_AT condition holds in this ply. -/
def State.taskDue (s : State) (t : Task) : Bool :=
  match bits t.flags 3 2 with
  | 0 => decide (t.sub < s.ply)
  | 1 => s.cast.boundaryNow && decide (t.sub < s.ply)
  | _ => decide (t.readyPly ≤ s.ply)

/-- Core `c` may take a task (R461). -/
def State.coreMay (s : State) (c : Nat) (t : Task) : Bool :=
  !t.tierM && bitOf t.mask c &&
  (s.get (DISP_CORE_RUN_LEVEL c) == 64 || decide (t.level + s.get (DISP_CORE_PRE_TH c) ≤ s.get (DISP_CORE_RUN_LEVEL c)))

/-- DISP_IRQ of core `c` (R461). -/
def State.dispIrq (s : State) (c : Nat) : Bool :=
  s.dispRuns && s.bit (DISP_CORE_EN c) &&
  s.disp.ready.any (fun ix => match s.task ix with | some t => s.coreMay c t | none => false)

/-- The cores whose DISP_IRQ has risen since `s0` are interrupted. -/
def State.raiseDisp (s0 s : State) : State :=
  (List.range 16).foldl (fun s c => if s.dispIrq c && !s0.dispIrq c then s.emit (.irqOwner (0x10 + c) 0) else s) s

/-- One PENDING task made READY. -/
def State.makeReady (s : State) (ix : Nat) : State :=
  match s.task ix with
  | some t => if t.state = 1 ∧ s.taskDue t then
      let s := s.setTask { t with state := 2 }
      { s with disp := { s.disp with pend := s.disp.pend.filter (· ≠ ix), ready := s.disp.ready ++ [ix] } } else s
  | none => s

/-- Every task whose condition holds, in the order in which the submissions were taken (R459). -/
def State.readyAll (s : State) : State :=
  if s.dispRuns then State.raiseDisp s (s.disp.pend.foldl State.makeReady s) else s

/-- TASK_READY (R459). -/
def execTaskReady (s : State) : Out := fin s.readyAll

/-! ## Cancellation (R460) -/

/-- A WITHDRAW order (R465). -/
def orderBytes (op level id startBy : Nat) (body : List Nat) : List Nat :=
  [op, level] ++ leBytes 4 id ++ leBytes 4 startBy ++ [body.length, 0] ++ body

/-- The effect of a cancel; false where it has none. -/
def State.cancelTask (s : State) (id : Nat) : State × Bool :=
  match s.taskOf id with
  | none => (s, false)
  | some t =>
    match t.state with
    | 1 | 2 => (s.endTask t 8, true)
    | 5 =>
      if t.tierM then
        ((s.setTask { t with cancelReq := true }).sendCmd t.exec 3 (orderBytes 2 t.level t.id 0 []), true)
      else
        let c := t.exec - 0x10
        (((s.setTask { t with cancelReq := true }).put (DISP_CORE_CANCEL c) 1).emit (.irqOwner t.exec 0), true)
    | 3 | 4 => ((s.setTask { t with cancelReq := true }).sendCmd t.exec 3 (orderBytes 2 t.level t.id 0 []), true)
    | _ => (s, false)

/-- A DISP_CANCEL write. -/
def State.dispCancel (ini id : Nat) (s : State) : State :=
  if !BankKind.disp.holds ini then s
  else
    let r := s.cancelTask id
    if r.2 then r.1.put (DISP_RESULT_CODE_CODE ini) 0 else r.1.put (DISP_RESULT_CODE_CODE ini) 3

/-- DISP_CANCEL (R460). -/
def execDispCancel (ini id : Nat) (s : State) : Out := fin (s.asWrite ini 0x40400144 (State.dispCancel ini id))

/-- TASK_CANCEL (R460). -/
def execTaskCancel (sess tag : Nat) (pay : List Nat) (s : State) : Out :=
  fin (s.ecpRun 0x0601 sess tag pay (pay.length == 4) true (fun s =>
    let r := s.cancelTask (leAt pay 0 4)
    if r.2 then (r.1, .final Ecp.OK [match r.1.taskOf (leAt pay 0 4) with | some t => t.state | none => 0, 0, 0, 0])
    else (s, .final Ecp.BAD_PARAM [])))

/-- TASK_GET (R474). -/
def execTaskGet (sess tag : Nat) (pay : List Nat) (s : State) : Out :=
  fin (s.ecpRun 0x0602 sess tag pay (pay.length == 4) true (fun s =>
    let id := leAt pay 0 4
    (s, .final Ecp.OK (match s.task (taskIx id) with
      | some t =>
        let st := if t.id = id then t.state else 0
        leBytes 4 t.id ++ [st, t.level, t.exec, t.result] ++ leBytes 4 t.data ++
          leBytes 4 (if st = 3 ∨ st = 4 then t.ackedBy else 0) ++ leBytes 8 (if 6 ≤ st then t.endPly else 0)
      | none => leBytes 4 (taskIx id) ++ List.replicate 20 0))))

/-! ## Tier C (R461, R462) -/

/-- Of two INDEX values in ready order, the earlier unless the later has the better level. -/
def State.bestReady (s : State) (c : Nat) : List Nat → Option Task
  | [] => none
  | ix :: t =>
    match s.task ix, s.bestReady c t with
    | some x, b => if s.coreMay c x then
        (match b with | some y => if y.level < x.level then some y else some x | none => some x) else b
    | none, b => b

/-- Core `c` takes its first eligible task (R462); what its read returns is DISP_TAKE_c's ID. -/
def State.dispTake (c : Nat) (s : State) : State :=
  if !(s.dispRuns && s.bit (DISP_CORE_EN c)) then s.put (DISP_TAKE_ID c) 0
  else match s.bestReady c s.disp.ready with
    | none => s.put (DISP_TAKE_ID c) 0
    | some t =>
      let s0 := s
      let s := { s with disp := { s.disp with ready := s.disp.ready.filter (· ≠ taskIx t.id) } }
      let s := s.suspendTask c true
      let s := s.setTask { t with state := 5, exec := 0x10 + c, susp := false }
      State.raiseDisp s0 (s.puts
        [(DISP_TAKE_ID c, t.id), (DISP_RUN_ID c, t.id), (DISP_CORE_RUN_LEVEL c, t.level), (DISP_CORE_TOOK_SUSP c, b2n t.susp)])

/-- DISP_TAKE (R462). -/
def execDispTake (ini c : Nat) (s : State) : Out :=
  fin (if c < 16 then s.asRead ini (0x40400404 + 0x10 * c) (State.dispTake c) else s)

/-- A DISP_DONE_c write ends the core's running task (R462); OUTCOME 3 is reserved. -/
def State.dispDone (c data : Nat) (s : State) : State :=
  match s.taskOf (s.get (DISP_RUN_ID c)) with
  | none => s
  | some t =>
    if bits data 9 8 = 3 ∨ t.state ≠ 5 then s
    else
      let s := s.puts [(DISP_RUN_ID c, 0), (DISP_CORE_RUN_LEVEL c, 64)]
      let d := s.get (DISP_DESC_WORD (0x10 + c) 0)
      State.raiseDisp s (s.endTask { t with result := bits data 7 0, data := d } (6 + bits data 9 8))

/-- DISP_DONE (R462). -/
def execDispDone (ini c data : Nat) (s : State) : Out :=
  fin (if c < 16 then s.asWrite ini (0x4040040C + 0x10 * c) (State.dispDone c data) else s)

/-! ## Tier M (R463 to R471) -/

/-- A member is eligible for a task (R463). -/
def State.eligibleFor (s : State) (t : Task) (a : Nat) : Bool :=
  s.memState a == 2 && decide (s.caps a / 65536 &&& t.mask = t.mask) &&
  (t.target == 0 || t.target == a || (decide (0xD0 ≤ t.target) && s.inFlock (t.target - 0xD0) a)) &&
  decide ((s.mem a).mstate % 4 = 0)

/-- The eligible member with an empty slot whose slot has been empty longest, ties by the lower address (R464). -/
def State.bindTo (s : State) (t : Task) : Option Nat :=
  allAddrs.foldl (fun b a =>
    if s.eligibleFor t a && (s.slotTask a).isNone then
      (match b with | some x => if (s.mem a).emptyPly < (s.mem x).emptyPly then some a else b | none => some a)
    else b) none

/-- Bind one READY task where a member exists (R464). -/
def State.bindTask (s : State) (ix : Nat) : State :=
  match s.task ix with
  | none => s
  | some t =>
    if t.state = 2 ∧ t.tierM then
      match s.bindTo t with
      | none => s
      | some a =>
        let by_ := s.sfn + s.get DISP_CTRL_PREFETCH_LIFE
        let r := s.queueCmd a 3 (orderBytes 0 t.level t.id by_ t.body)
        let s := r.1.setTask { t with state := 3, exec := a, startBy := by_, assign := r.2, ackedBy := 0, renew := none }
        { s with disp := { s.disp with ready := s.disp.ready.filter (· ≠ ix) } }
    else s

/-- The ready list in order of level, first come first served within a level (R459). -/
def State.readyOrder (s : State) : List Nat :=
  (List.range 64).flatMap (fun l => s.disp.ready.filter (fun ix => (s.task ix).any (fun t => t.level == l)))

/-- TASK_BIND at C1 (R464). -/
def State.bindAll (s : State) : State := if s.dispRuns then s.readyOrder.foldl State.bindTask s else s

/-- TASK_RENEW of one HELD task (R466). -/
def State.renewTask (s : State) (e : Nat × Task) : State :=
  let t := e.2
  let pl := s.get DISP_CTRL_PREFETCH_LIFE
  if t.state = 4 ∧ t.renew.isNone ∧ 2 * (t.ackedBy - s.sfn) ≤ pl then
    let r := s.queueCmd t.exec 3 (orderBytes 1 t.level t.id (s.sfn + pl) [])
    r.1.setTask { t with renew := some (r.2, s.sfn + pl) }
  else s

/-- TASK_RENEW at C1 (R466). -/
def State.renewAll (s : State) : State := if s.dispRuns then s.disp.tasks.foldl State.renewTask s else s

/-- Orders that a member's DACK now covers (R464, R466). -/
def State.orderAcked (a : Nat) (s : State) (c : MacCmd) : State :=
  if c.kind ≠ 3 then s
  else match s.taskOf (leAt c.body 2 4) with
    | none => s
    | some t =>
      if t.exec ≠ a then s
      else if t.state = 3 ∧ t.assign = c.dseq then s.setTask { t with state := 4, ackedBy := t.startBy }
      else match t.renew with
        | some (d, b) => if d = c.dseq then s.setTask { t with ackedBy := b, renew := none } else s
        | none => s

/-- TASK_LAPSE: at boundary ACKED_BY + LAPSE_GRACE with no start reported (R466). -/
def execTaskLapse (ix : Nat) (s : State) : Out :=
  fin (match s.task ix with
    | some t => if t.state = 4 ∧ s.hasSfn ∧ t.ackedBy + s.get DISP_CTRL_LAPSE_GRACE ≤ s.sfn then s.lapseTask t else s
    | none => s)

/-- A held task is reported started (R467, R468, R470). -/
def State.reportStart (s : State) (a id : Nat) : State :=
  match s.taskOf id with
  | none => s
  | some t =>
    if t.state = 9 then
      if t.wasRequeued then (s.bump DISP_CNT2_DUP_RUN).record .dupRun (leBytes 4 id ++ [a])
      else
        let s := { s with disp := { s.disp with freed := s.disp.freed.filter (· ≠ taskIx id) } }
        s.setTask { t with state := 5, exec := a }
    else if t.exec = a ∧ (t.state = 3 ∨ t.state = 4) then (s.setTask { t with state := 5 }).slotEmptied a
    else s

/-- A task is reported ended (R468, R470). -/
def State.reportEnd (s : State) (a id st result data : Nat) : State :=
  match s.taskOf id with
  | none => s
  | some t =>
    if t.state = 9 ∧ t.wasRequeued then (s.bump DISP_CNT2_DUP_RUN).record .dupRun (leBytes 4 id ++ [a])
    else if t.exec = a ∧ (t.state = 3 ∨ t.state = 4 ∨ t.state = 5) then
      (s.endTask { t with result := result, data := data } st).slotEmptied a
    else s

/-- A held order is reported discarded: cancelled where a WITHDRAW was queued, else lapsed (R460, R466, R467). -/
def State.reportDiscard (s : State) (a id : Nat) : State :=
  match s.taskOf id with
  | none => s
  | some t =>
    if t.exec = a ∧ (t.state = 3 ∨ t.state = 4) then
      if t.cancelReq then (s.endTask t 8).slotEmptied a else s.lapseTask t
    else s

/-- The reconciliation of one task bound to a member with its STATE report (R469): `run` and `held` are the tasks it
reports, `da` and `db` the last two ended. -/
def State.reconcileTask (a run held da db : Nat) (s : State) (t : Task) : State :=
  if t.id = da ∨ t.id = db then
    if liveState t.state ∧ (t.exec = a ∨ t.state ≤ 2) then
      (s.endTask { t with exec := a, unknownEnd := true, data := 0, result := 0 } 6).slotEmptied a else s
  else if t.id = run then
    if t.state = 2 ∨ ((t.state = 3 ∨ t.state = 4) ∧ t.exec = a) then
      let s := { s with disp := { s.disp with ready := s.disp.ready.filter (· ≠ taskIx t.id) } }
      (s.setTask { t with state := 5, exec := a }).slotEmptied a
    else s
  else if t.id = held then
    if t.state = 2 then
      let s := { s with disp := { s.disp with ready := s.disp.ready.filter (· ≠ taskIx t.id) } }
      s.setTask { t with state := 4, exec := a, ackedBy := s.sfn + s.get DISP_CTRL_PREFETCH_LIFE }
    else if t.state = 3 ∧ t.exec = a then s.setTask { t with state := 4, ackedBy := t.startBy }
    else s
  else if t.exec = a ∧ t.tierM ∧ (t.state = 3 ∨ t.state = 4) then s.lapseTask t
  else if t.exec = a ∧ t.tierM ∧ t.state = 5 then (s.endTask t 11)
  else s

/-- A task the member reports that this unit does not know is withdrawn (R469). -/
def State.foreignTask (a : Nat) (s : State) (id : Nat) : State :=
  let known : Bool := match s.taskOf id with | some t => liveState t.state || t.state == 9 | none => false
  if id == 0 || known then s else (s.bump DISP_CNT3_FOREIGN).sendCmd a 3 (orderBytes 2 0 id 0 [])

/-- MEMBER_REPORT_APPLY: one DONE report body from a member (R468, R470). -/
def State.doneReport (a : Nat) (b : List Nat) (s : State) : State :=
  let id := leAt b 2 4
  let nx := leAt b 6 4
  let res := leAt b 1 1
  let data := leAt b 18 4
  match leAt b 0 1 with
  | 1 => s.reportStart a id
  | 2 => (s.reportEnd a id 6 res data).reportStart a nx
  | 3 => (s.reportEnd a id 7 res data).reportStart a nx
  | 4 => (s.reportEnd a id 10 res data).reportStart a nx
  | 5 =>
    let s := [id, nx].foldl (State.foreignTask a) s
    (s.disp.tasks.map (·.2)).foldl (State.reconcileTask a id nx (leAt b 10 4) (leAt b 14 4)) s
  | 6 => s.reportDiscard a id
  | _ => s

/-- A DONE report body is well formed: 24 bytes, EVENT 1 to 6 (R16, R468). -/
def doneOk (b : List Nat) : Bool := b.length == 24 && decide (1 ≤ leAt b 0 1 ∧ leAt b 0 1 ≤ 6)

/-- A released address: its ASSIGNED and HELD tasks lapse, its RUNNING task is ABANDONED (R471). -/
def State.releaseTasks (s : State) (a : Nat) : State :=
  (s.disp.tasks.map (·.2)).foldl (fun s t =>
    if t.tierM ∧ t.exec = a then
      (if t.state = 3 ∨ t.state = 4 then s.lapseTask t else if t.state = 5 then s.endTask t 10 else s)
    else s) s

/-- The lapses that RELEASE and takeover leave aside come at their boundaries: every HELD task due (R466). -/
def State.lapseDue (s : State) : State :=
  (s.disp.tasks.map (·.2)).foldl (fun s t =>
    if t.state = 4 ∧ s.hasSfn ∧ t.ackedBy + s.get DISP_CTRL_LAPSE_GRACE ≤ s.sfn then s.lapseTask t else s) s

end Sys2Proof.Machine
end

