-- ==== Sys2Proof/Machine/Tracks.lean ====
section
/-!
DEFINITION. Tracks, profile channels, windows, gearing, deviation monitoring and depot homing (spec/15).
-/

namespace Sys2Proof.Machine

open R

/-! ## Track memory (R475 to R478) -/

/-- State of a track: 0 EMPTY, 1 LOADING, 2 SEALED (R477). -/
def State.trkState (s : State) (t : Nat) : Nat := s.get (TRK_T_W1_STATE t)

/-- The vertices of a track: E, N, U in mm (R475). -/
def State.trkVerts (s : State) (t : Nat) : List (Int × Int × Int) :=
  let first := s.get (TRK_T_W0_FIRST t)
  (List.range (s.get (TRK_T_W1_COUNT t))).map (fun i =>
    let g := fun k => sgn 32 (Mem.get s.trk.verts (3 * (first + i) + k))
    (g 0, g 1, g 2))

/-- Length of one segment: the integer nearest the root of the squared distance (R476). -/
def segLen (a b : Int × Int × Int) : Nat :=
  let e := b.1 - a.1
  let n := b.2.1 - a.2.1
  let u := b.2.2 - a.2.2
  isqrtNear (e * e + n * n + u * u).toNat

/-- Arc lengths of the vertices after the first, from arc `x` at vertex `v` (R476). -/
def arcsFrom (x : Nat) (v : Int × Int × Int) : List (Int × Int × Int) → List Nat
  | [] => []
  | w :: t => (x + segLen v w) :: arcsFrom (x + segLen v w) w t

/-- Arc lengths of a polyline's vertices (R476). -/
def arcsOf : List (Int × Int × Int) → List Nat
  | [] => []
  | v :: t => 0 :: arcsFrom 0 v t

/-- The position at an arc length (R476). -/
def positionGo (sArc : Nat) : List (Int × Int × Int) → List Nat → Int × Int × Int
  | v :: w :: t, a :: b :: u =>
    if sArc < b then
      let p := fun (x y : Int) => x + rdiv ((y - x) * (sArc - a : Nat)) (b - a)
      (p v.1 w.1, p v.2.1 w.2.1, p v.2.2 w.2.2)
    else positionGo sArc (w :: t) (b :: u)
  | [v], _ => v
  | _, _ => (0, 0, 0)

/-- Two consecutive vertices are equal (R476). -/
def twinVerts : List (Int × Int × Int) → Bool
  | v :: w :: t => v == w || twinVerts (w :: t)
  | _ => false

/-- The bytes of a track's vertices, in vertex order (R475, R477). -/
def vertBytes (l : List (Int × Int × Int)) : List Nat :=
  l.flatMap (fun v => leBytes 4 (usgn 32 v.1) ++ leBytes 4 (usgn 32 v.2.1) ++ leBytes 4 (usgn 32 v.2.2))

/-- A track's channel. -/
def State.pch (s : State) (a : Nat) : PchState :=
  match s.trk.pch.find? (fun e => e.1 == a) with
  | some e => e.2
  | none => {}

/-- A channel replaced. -/
def State.setPch (s : State) (a : Nat) (x : PchState) : State :=
  { s with trk := { s.trk with pch := s.trk.pch.filter (fun (e : Nat × PchState) => e.1 ≠ a) ++ [(a, x)] } }

/-- State of a channel (R484). -/
def State.pchState (s : State) (a : Nat) : Nat := s.get (PCH_W5_STATE a)

/-- A track is in use (R477). -/
def State.trkUsed (s : State) (t : Nat) : Bool :=
  allAddrs.any (fun a => (s.pchState a != 0 && (s.get (PCH_W5_TRACK a) == t || (s.pch a).move.map (·.track) == some t)) ||
    (s.pch a).slot0 == some t || (s.pch a).slot1 == some t) ||
  (List.range 64).any (fun p => s.get (GEAR_W0_STATE p) != 0 &&
    (s.get (GEAR_W1_MTRACK p) == t || s.get (GEAR_W1_FTRACK p) == t))

/-- The runs of entries that tracks other than `t` hold, as (first, count). -/
def State.trkRuns (s : State) (t : Nat) : List (Nat × Nat) :=
  (List.range 1024).filterMap (fun i =>
    if i ≠ t ∧ s.trkState i ≠ 0 then some (s.get (TRK_T_W0_FIRST i), s.get (TRK_T_W1_COUNT i)) else none)

/-- Free vertex entries. -/
def State.freeVerts (s : State) : Nat := 262144 - ((s.trkRuns 1024).map (·.2)).sum

/-- A run of `n` entries from `f` meets none of the runs held. -/
def runFree (l : List (Nat × Nat)) (f n : Nat) : Bool := l.all (fun r => decide (f + n ≤ r.1 ∨ r.1 + r.2 ≤ f))

/-- The lowest free run of `n` entries: it starts at 0 or where a held run ends (R478). -/
def lowestRun (l : List (Nat × Nat)) (n : Nat) : Option Nat :=
  ((0 :: l.map (fun r => r.1 + r.2)).filter (fun f => runFree l f n && decide (f + n ≤ 262144))).min?

/-- The vertices of a TRACK_LOAD stored. -/
def State.storeVerts (s : State) (t first : Nat) (bs : List Nat) : State :=
  let ws := (List.range (bs.length / 4)).map (fun i => leAt bs (4 * i) 4)
  { s with trk := { s.trk with verts := Mem.putList s.trk.verts (3 * (s.get (TRK_T_W0_FIRST t) + first)) ws } }

/-- TRACK_LOAD (R477, R478). A request that finds no run leaves the track as it is. -/
def execTrackLoad (sess tag : Nat) (pay : List Nat) (s : State) : Out :=
  fin (s.ecpRun 0x0700 sess tag pay (decide (8 ≤ pay.length) && pay.length == 8 + 12 * leAt pay 6 2) true (fun s =>
    let t := leAt pay 0 2
    let count := leAt pay 2 2
    let first := leAt pay 4 2
    let n := leAt pay 6 2
    if 1024 ≤ t ∨ count < 2 ∨ 4096 < count ∨ n < 1 ∨ 116 < n ∨ count < first + n then (s, .final Ecp.BAD_PARAM [])
    else if s.trkUsed t then (s, .final Ecp.DENIED [])
    else if first = 0 then
      match lowestRun (s.trkRuns t) count with
      | none => (s, .final Ecp.QUEUE_FULL [])
      | some f =>
        let s := s.puts [(TRK_T_W0_FIRST t, f), (TRK_T_W1_STATE t, 1), (TRK_T_W1_COUNT t, count), (TRK_T_W2_LENGTH t, 0),
          (TRK_T_W3_CRC t, 0)]
        (s.storeVerts t 0 (pay.drop 8), .final Ecp.OK [])
    else if s.trkState t ≠ 1 ∨ s.get (TRK_T_W1_COUNT t) ≠ count then (s, .final Ecp.BAD_PARAM [])
    else (s.storeVerts t first (pay.drop 8), .final Ecp.OK [])))

/-- TRACK_SEAL (R476, R477). -/
def execTrackSeal (sess tag : Nat) (pay : List Nat) (s : State) : Out :=
  fin (s.ecpRun 0x0701 sess tag pay (pay.length == 4) true (fun s =>
    let t := leAt pay 0 2
    let v := s.trkVerts t
    let len := (arcsOf v).getLast?.getD 0
    if 1024 ≤ t ∨ s.trkState t = 0 ∨ twinVerts v ∨ 2147483647 < len then (s, .final Ecp.BAD_PARAM [])
    else
      let c := crc32c (vertBytes v)
      (s.puts [(TRK_T_W1_STATE t, 2), (TRK_T_W2_LENGTH t, len), (TRK_T_W3_CRC t, c)],
        .final Ecp.OK (leBytes 4 len ++ leBytes 4 c))))

/-- TRACK_FREE (R477, R478). -/
def execTrackFree (sess tag : Nat) (pay : List Nat) (s : State) : Out :=
  fin (s.ecpRun 0x0702 sess tag pay (pay.length == 4) true (fun s =>
    let t := leAt pay 0 2
    if 1024 ≤ t then (s, .final Ecp.BAD_PARAM [])
    else if s.trkUsed t then (s, .final Ecp.DENIED [])
    else (s.puts [(TRK_T_W0_FIRST t, 0), (TRK_T_W1_STATE t, 0), (TRK_T_W1_COUNT t, 0), (TRK_T_W2_LENGTH t, 0),
      (TRK_T_W3_CRC t, 0)], .final Ecp.OK [])))

/-! ## Projection (R479) -/

/-- A projection: arc in mm (unrounded), squared horizontal distance, the point lies to the left, the segment's
direction. -/
structure Proj where
  arc : Rat
  d2 : Rat
  left : Bool
  dirE : Int
  dirN : Int

/-- The projection onto one segment that starts at arc `a`. -/
def projSeg (e n : Int) (v w : Int × Int × Int) (a len : Nat) : Proj :=
  let de := w.1 - v.1
  let dn := w.2.1 - v.2.1
  let l2 := de * de + dn * dn
  let dot := (e - v.1) * de + (n - v.2.1) * dn
  let t : Rat := if l2 = 0 then 0 else if dot ≤ 0 then 0 else if l2 ≤ dot then 1 else (dot : Rat) / l2
  let pe : Rat := (e : Rat) - v.1 - t * de
  let pn : Rat := (n : Rat) - v.2.1 - t * dn
  { arc := (a : Rat) + t * len, d2 := pe * pe + pn * pn, left := decide (0 < de * (n - v.2.1) - dn * (e - v.1)), dirE := de, dirN := dn }

/-- The nearest of two projections, the smaller arc between equally near ones. -/
def projNearer (p : Proj) : Option Proj → Proj
  | none => p
  | some q => if q.d2 < p.d2 ∨ (q.d2 = p.d2 ∧ q.arc < p.arc) then q else p

/-- The projection over the segments whose arc range overlaps the reference ± 5000 mm, or over all. -/
def projGo (e n : Int) (ref : Option Int) : List (Int × Int × Int) → List Nat → Option Proj
  | v :: w :: t, a :: b :: u =>
    let rest := projGo e n ref (w :: t) (b :: u)
    let inside : Bool := match ref with
      | some r => decide (((a : Nat) : Int) ≤ r + 5000 ∧ r - 5000 ≤ ((b : Nat) : Int))
      | none => true
    if inside then some (projNearer (projSeg e n v w a (b - a)) rest) else rest
  | _, _ => none

/-- The projection of a solution onto a track (R479). -/
def State.project (s : State) (t : Nat) (ref : Option Int) (e n : Int) : Option Proj :=
  let v := s.trkVerts t
  projGo e n ref v (arcsOf v)

/-- The latest record of a member with status FIXED or FLOAT. -/
def State.goodRec (s : State) (a : Nat) : Option SolRec :=
  match s.fix.recs.find? (fun e => e.1 == a) with
  | some e => if e.2.status = 3 ∨ e.2.status = 4 then some e.2 else none
  | none => none

/-- The start check of R487 on a track: the measured arc in mm. -/
def State.startArc (s : State) (a t : Nat) : Option Int :=
  match s.goodRec a with
  | none => none
  | some r => match s.project t none r.pos.e r.pos.n with
    | none => none
    | some p => if p.d2 ≤ ((s.get (PCH_W2_LAT_MM a) : Nat) : Rat) * (s.get (PCH_W2_LAT_MM a) : Nat) then some (quantQ p.arc) else none

/-! ## Limits and plans (R483, R485, R488, R501) -/

/-- The smallest of the limits that are set; 0 in a register sets none. -/
def limit (reg mem : Nat) : Nat := if reg = 0 then mem else min reg mem

/-- V, A and J of a channel in mm units (R483); VMAX, AMAX and JMAX of the record of R431. -/
def State.limV (s : State) (a : Nat) : Nat := min (limit (s.get (PCH_W0_VMAX a)) (leAt (s.mem a).caps 14 2)) 20000
def State.limA (s : State) (a : Nat) : Nat := limit (s.get (PCH_W0_AMAX a)) (leAt (s.mem a).caps 16 2)
def State.limJ (s : State) (a : Nat) : Nat := limit (s.get (PCH_W1_JMAX a)) (leAt (s.mem a).caps 18 2) * 10

/-- A limit of a channel works out to 0 (R483). -/
def State.limZero (s : State) (a : Nat) : Bool := s.limV a == 0 || s.limA a == 0 || s.limJ a == 0

/-- A plan of a channel from a state to an arc, or to rest (R485, R501). -/
def State.planOf (s : State) (a : Nat) (st : Int × Int × Int) (target : Option Int) (home : Option (Int × Nat)) : Config.PlanIn :=
  { s := st.1, v := st.2.1, a := st.2.2, target := target, vMax := s.limV a * 1000, aMax := s.limA a * 1000
    jMax := s.limJ a * 1000, home := home, rev := s.reverseOk a }

/-- The arc at which a plan rests. -/
def planRest (p : Config.PlanIn) : Int := match p.target with | some t => t | none => planStop p

/-- Commanded arc, speed and acceleration of a plan at boundary `j`, the plan having started at boundary `k0`. -/
def planEval (p : Config.PlanIn) (k0 j : Nat) : Int × Int × Int :=
  if j ≤ k0 then (p.s, p.v, p.a)
  else if planMs p ≤ (j - k0) * 100 then (planRest p, 0, 0)
  else planAt p ((j - k0) * 100)

/-- The commanded arc of a channel at a boundary, from those it keeps. -/
def PchState.arcAt (x : PchState) (j : Nat) : Int :=
  match x.arcs.find? (fun e => e.1 == j) with
  | some e => e.2
  | none => x.rest

/-- The commanded arc of a channel at a boundary: of its plan once that has begun, else as in the windows it has sent. -/
def PchState.arcCmd (x : PchState) (j : Nat) : Int :=
  match x.plan with
  | some (p, k0) => if k0 ≤ j then (planEval p k0 j).1 else x.arcAt j
  | none => x.arcAt j

/-- The commanded state of a channel at boundary `j`, the next one (R486): of its plan, or from the commanded arcs. -/
def PchState.cmdAt (x : PchState) (j : Nat) : Int × Int × Int :=
  match x.plan with
  | some (p, k0) => planEval p k0 j
  | none =>
    let v1 := (x.arcAt j - x.arcAt (j - 1)) * 10
    let v0 := (x.arcAt (j - 1) - x.arcAt (j - 2)) * 10
    if x.arcs.isEmpty then (x.rest, 0, 0) else (x.arcAt j, v1, (v1 - v0) * 10)

/-! ## Ending a MOVE (R509) -/

/-- The final payload of a MOVE. -/
def moveBytes (outcome st : Nat) (arcMm : Int) : List Nat := [outcome % 256, st, 0, 0] ++ leBytes 4 (usgn 32 arcMm)

/-- The MOVE in progress of a channel ends. -/
def State.endMove (s : State) (a status outcome : Nat) : State :=
  let x := s.pch a
  match x.move with
  | none => s
  | some m => (s.setPch a { x with move := none }).ecpComplete m.sess m.tag status
      (moveBytes outcome (s.pchState a) (rdiv x.rest 1000))

/-- A channel rests: HELD at an arc with a REASON (R484). -/
def State.holdPch (s : State) (a reason : Nat) (arc : Int) : State :=
  let x := s.pch a
  (s.setPch a { x with plan := none, rest := arc, arcs := [], docking := false, behind := false, epochs := 0 }).puts
    [(PCH_W5_STATE a, 6), (PCH_W5_REASON a, reason)]

/-- The latest measured arc of a channel, in µm. -/
def State.measUm (s : State) (a : Nat) : Int := s.getS (PCH_W7_MEAS_S a) * 1000

/-- A channel enters a moving state: the counts of R499 start again. -/
def State.enterPch (s : State) (a st reason : Nat) : State :=
  let x := s.pch a
  (s.setPch a { x with epochs := 0, stall := 0, slip := 0, lat := 0, blind := 0, quiet := none }).puts
    [(PCH_W5_STATE a, st), (PCH_W5_REASON a, reason)]

/-- A channel decelerates at its limits from its commanded state at the next boundary; REASON and OUTCOME follow at rest
(R484). -/
def State.stopPch (s : State) (a reason outcome : Nat) : State :=
  let x := s.pch a
  let j := s.time.k + 1
  let p := s.planOf a (x.cmdAt j) none none
  (s.setPch a { x with plan := some (p, j), rest := planStop p, reason := reason, outcome := outcome }).enterPch a 5 0

/-- A channel goes to FAULT, held at its latest measured arc; its MOVE ends with OUTCOME FAULT (R484, R500, R504). -/
def State.faultPch (s : State) (a : Nat) : State :=
  let s := s.holdPch a (s.get (PCH_W5_REASON a)) (s.measUm a)
  (s.put (PCH_W5_STATE a) 7).endMove a Ecp.OK 3

/-! ## Gearing pairs (R494, R498, R505) -/

/-- The pair that a channel follows becomes SUSPENDED or OFF. -/
def State.setPair (s : State) (p st : Nat) : State := s.put (GEAR_W0_STATE p) st

/-- Engaged pairs that name an address as master or follower. -/
def State.pairsOf (s : State) (a : Nat) : List Nat :=
  (List.range 64).filter (fun p => s.get (GEAR_W0_STATE p) != 0 &&
    (s.get (GEAR_W0_MASTER p) == a || s.get (GEAR_W0_FOLLOWER p) == a))

/-- A follower whose pair has gone stops with REASON GEAR_LOST. -/
def State.stopFollower (s : State) (p : Nat) : State :=
  let f := s.get (GEAR_W0_FOLLOWER p)
  if s.pchState f = 3 ∧ (s.pch f).pair = p then (s.stopPch f 7 2).put (PCH_W5_REASON f) 7 else s

/-- A master without a usable record: the pair is SUSPENDED and the follower stops (R498). -/
def State.gearLost (s : State) (p : Nat) : State :=
  (((s.stopFollower p).setPair p 2).bump TRK_CNT_GEAR_LOST).record .gearLost [p]

/-- A request that waits for a C1 while its channel is stopped: a MOVE ends with OUTCOME STOPPED and an engagement is
denied, since no channel resumes by itself (R505); the others stay. -/
def State.dropReq (a : Nat) (s : State) (r : TrkReq) : State :=
  match r with
  | .move sess tag _ _ _ _ => s.ecpComplete sess tag Ecp.OK (moveBytes 7 (s.pchState a) (rdiv (s.pch a).rest 1000))
  | .engage sess tag _ => s.ecpComplete sess tag Ecp.DENIED []
  | r => s.setPch a { s.pch a with reqs := (s.pch a).reqs ++ [r] }

/-- A channel that is stopped by R505: HELD with REASON STOP at its latest measured arc; its MOVE ends with OUTCOME
STOPPED. A channel in FAULT stays. -/
def State.stopHold (s : State) (a : Nat) : State :=
  if s.pchState a = 0 ∨ s.pchState a = 7 then s
  else
    let s := (s.holdPch a 6 (s.measUm a)).endMove a Ecp.OK 7
    (s.pch a).reqs.foldl (State.dropReq a) (s.setPch a { s.pch a with reqs := [] })

/-- R505 at the stop state: every running channel and every engaged pair. -/
def State.stopAllChannels (s : State) : State :=
  let s := allAddrs.foldl State.stopHold s
  (List.range 64).foldl (fun s p => if s.get (GEAR_W0_STATE p) = 1 then s.setPair p 2 else s) s

/-- R505 for one member whose MSTATE shows STOPPED or HOLDING. -/
def State.stopMember (s : State) (a : Nat) : State :=
  let s := s.stopHold a
  (s.pairsOf a).foldl (fun s p => if s.get (GEAR_W0_STATE p) = 1 then (s.stopFollower p).setPair p 2 else s) s

/-! ## Requests (R486, R487, R494, R498) -/

/-- A request answered IN_PROGRESS until it is taken at C1. -/
def State.queueReq (s : State) (a : Nat) (r : TrkReq) : State :=
  let x := s.pch a
  s.setPch a { x with reqs := x.reqs ++ [r] }

/-- The slot of a member that holds a track. -/
def PchState.slotOf (x : PchState) (t : Nat) : Option Nat :=
  if x.slot0 = some t then some 0 else if x.slot1 = some t then some 1 else none

/-- MOVE (R477, R483, R486, R509). -/
def execMove (sess tag : Nat) (pay : List Nat) (s : State) : Out :=
  fin (s.ecpRun 0x0703 sess tag pay (pay.length == 12) true (fun s =>
    let a := leAt pay 0 1
    let t := leAt pay 4 2
    let target := leAt pay 8 4
    if !isAddr a || decide (2 ≤ leAt pay 1 1) || decide (8 < leAt pay 2 1) || decide (1024 ≤ t) then (s, .final Ecp.BAD_PARAM [])
    else if s.trkState t ≠ 2 then (s, .final Ecp.DENIED [])
    else if s.get (TRK_T_W2_LENGTH t) < target then (s, .final Ecp.BAD_PARAM [])
    else if s.limZero a || s.pchState a == 7 then (s, .final Ecp.DENIED [])
    else (s.queueReq a (.move sess tag (leAt pay 1 1 == 1) (leAt pay 2 1) t target), .progress)))

/-- HALT (R486). -/
def execHalt (sess tag : Nat) (pay : List Nat) (s : State) : Out :=
  fin (s.ecpRun 0x0704 sess tag pay (pay.length == 4) true (fun s =>
    let a := leAt pay 0 1
    if !isAddr a then (s, .final Ecp.BAD_PARAM []) else (s.queueReq a (.halt sess tag), .progress)))

/-- CHAN_RELEASE (R484). -/
def execChanRelease (sess tag : Nat) (pay : List Nat) (s : State) : Out :=
  fin (s.ecpRun 0x0705 sess tag pay (pay.length == 4) true (fun s =>
    let a := leAt pay 0 1
    if !isAddr a then (s, .final Ecp.BAD_PARAM [])
    else if s.pchState a ≠ 6 ∧ s.pchState a ≠ 7 then (s, .final Ecp.DENIED [])
    else
      let x := s.pch a
      let s := s.setPch a { slot0 := x.slot0, slot1 := x.slot1, load := x.load, reqs := x.reqs }
      (s.puts [(PCH_W5_STATE a, 0), (PCH_W5_REASON a, 0), (PCH_W5_DOCKED a, 0), (PCH_W5_Q a, 0), (PCH_W5_GEAR_LIMITED a, 0)],
        .final Ecp.OK [])))

/-- The cam points of a pair rise (R494). -/
def State.camRises (s : State) (p : Nat) : Bool :=
  (List.range (s.get (GEAR_W0_NPTS p))).all (fun i => decide (s.getS (GEAR_AT_AT p i) ≤ s.getS (GEAR_AT_AT p (i + 1))))

/-- A pair may be engaged (R483, R494, R498). -/
def State.gearOk (s : State) (p : Nat) : Bool :=
  let m := s.get (GEAR_W0_MASTER p)
  let f := s.get (GEAR_W0_FOLLOWER p)
  isAddr m && isAddr f && m != f && bitOf (s.caps m) 4 && bitOf (s.caps f) 5 && s.camRises p && !s.limZero f &&
  s.trkState (s.get (GEAR_W1_MTRACK p)) == 2 && s.trkState (s.get (GEAR_W1_FTRACK p)) == 2 &&
  ((s.pch f).slotOf (s.get (GEAR_W1_FTRACK p))).isSome && (s.pchState f == 0 || s.pchState f == 6) &&
  (List.range 64).all (fun q => q == p || s.get (GEAR_W0_STATE q) != 1 ||
    (s.get (GEAR_W0_FOLLOWER q) != f && s.get (GEAR_W0_MASTER q) != f && s.get (GEAR_W0_FOLLOWER q) != m))

/-- GEAR_ENGAGE (R494, R498). -/
def execGearEngage (sess tag : Nat) (pay : List Nat) (s : State) : Out :=
  fin (s.ecpRun 0x0706 sess tag pay (pay.length == 4) true (fun s =>
    let p := leAt pay 0 1
    if 64 ≤ p then (s, .final Ecp.BAD_PARAM [])
    else if !s.gearOk p then (s, .final Ecp.DENIED [])
    else (s.queueReq (s.get (GEAR_W0_FOLLOWER p)) (.engage sess tag p), .progress)))

/-- GEAR_DISENGAGE (R498). -/
def execGearDisengage (sess tag : Nat) (pay : List Nat) (s : State) : Out :=
  fin (s.ecpRun 0x0707 sess tag pay (pay.length == 4) true (fun s =>
    let p := leAt pay 0 1
    if 64 ≤ p then (s, .final Ecp.BAD_PARAM [])
    else (s.queueReq (s.get (GEAR_W0_FOLLOWER p)) (.disengage sess tag p), .progress)))

/-! ## Loading a member's slot (R480, R482) -/

/-- The TRACK items of a load: VERTS of three vertices, then SEAL. -/
def State.trackItems (s : State) (t slot : Nat) : List (List Nat) :=
  let v := s.trkVerts t
  (List.range (cdiv v.length 3)).map (fun i =>
    let w := (v.drop (3 * i)).take 3
    [0, slot] ++ leBytes 2 (3 * i) ++ [w.length, 0, 0, 0] ++ vertBytes w) ++
  [[1, slot] ++ leBytes 2 v.length ++ [0, 0, 0, 0] ++ leBytes 4 (s.get (TRK_T_W2_LENGTH t)) ++ leBytes 4 (s.get (TRK_T_W3_CRC t))]

/-- Load a track into the slot that the member's latest window does not name. -/
def State.startLoad (s : State) (a t : Nat) : State :=
  let slot := 1 - s.get (PCH_W5_SLOT a)
  let r := (s.trackItems t slot).foldl (fun (r : State × Nat) b => r.1.queueCmd a 7 b) (s, 0)
  let x := r.1.pch a
  r.1.setPch a { x with load := some (slot, t, r.2), slot0 := if slot = 0 then none else x.slot0
                        slot1 := if slot = 1 then none else x.slot1 }

/-- A CMD item that DACK covers: the SEAL of a load completes it (R482). -/
def State.trackAcked (a : Nat) (s : State) (c : MacCmd) : State :=
  let x := s.pch a
  match x.load with
  | some (slot, t, d) =>
    if c.kind = 7 ∧ c.dseq = d then
      s.setPch a { x with load := none, slot0 := if slot = 0 then some t else x.slot0, slot1 := if slot = 1 then some t else x.slot1 }
    else s
  | none => s

/-! ## Taking requests at C1 (R486 to R488, R498) -/

/-- The target lies behind (R488). -/
def targetBehind (st : Int × Int × Int) (stop target : Int) : Bool :=
  if 0 ≤ st.2.1 then decide (target < stop) else false

/-- A MOVE planned from a commanded state at the next boundary (R488, R501). -/
def State.planMove (s : State) (a : Nat) (m : MoveRec) (st : Int × Int × Int) : State :=
  let j := s.time.k + 1
  let past : Int := if m.home then (s.get (PCH_W4_OVER_MM a) : Nat) else 0
  let goal := (m.target + past) * 1000
  let home := if m.home then some ((m.target - (s.get (PCH_W4_APPROACH_MM a) : Nat)) * 1000, s.get (PCH_W1_HOME_V a) * 1000) else none
  let stop := planStop (s.planOf a st none none)
  let x := s.pch a
  if targetBehind st stop goal && !s.reverseOk a then
    let p := s.planOf a st none none
    (s.setPch a { x with plan := some (p, j), rest := stop, behind := true, reason := 3, outcome := 0, docking := false }).enterPch a 5 0
  else
    let p := s.planOf a st (some goal) home
    (s.setPch a { x with plan := some (p, j), rest := goal, behind := false, docking := false, dock := m.dock }).enterPch a
      (if m.home then 4 else 2) 0

/-- A MOVE whose track the member holds, taken from rest or in motion. A new plan from IDLE or HELD needs the start check
of R487; without it the MOVE ends DENIED. -/
def State.beginMove (s : State) (a : Nat) (m : MoveRec) : State :=
  let x := s.pch a
  let st := s.pchState a
  let s := s.put (PCH_W5_SLOT a) ((x.slotOf m.track).getD 0)
  if st = 0 ∨ st = 1 ∨ st = 6 then
    match s.startArc a m.track with
    | none => s.endMove a Ecp.DENIED 0
    | some arc =>
      let s := s.puts [(PCH_W5_TRACK a, m.track), (PCH_W7_MEAS_S a, usgn 32 arc), (PCH_W5_DOCKED a, 0)]
      let s := s.setPch a { s.pch a with proj := some arc, rest := arc * 1000, arcs := [], plan := none }
      s.planMove a m (arc * 1000, 0, 0)
  else s.planMove a m (x.cmdAt (s.time.k + 1))

/-- A MOVE taken at C1 (R486, R487). -/
def State.takeMove (s : State) (a : Nat) (m : MoveRec) : State :=
  let st := s.pchState a
  let moving := st == 2 || st == 3 || st == 4 || st == 5
  let s := s.endMove a Ecp.OK 1
  let s := s.setPch a { s.pch a with move := some m }
  if st == 7 || (moving && s.get (PCH_W5_TRACK a) != m.track) then s.endMove a Ecp.DENIED 0
  else if ((s.pch a).slotOf m.track).isSome then
    let s := if st = 3 then s.setPair (s.pch a).pair 2 else s
    s.beginMove a m
  else
    let s := match (s.pch a).load with
      | some (_, t, _) => if t = m.track then s else s.startLoad a m.track
      | none => s.startLoad a m.track
    let s := if st = 0 then s.put (PCH_W5_TRACK a) m.track else s
    s.puts [(PCH_W5_STATE a, 1), (PCH_W5_REASON a, 0)]

/-- The usable record of a master: FIXED or FLOAT, SD_H within GEAR_SD_MM, not older than EXTRAP_MS at boundary T
(R495); with its projection, the predicted m(T) in mm and the speed along the segment. -/
def State.masterAt (s : State) (p : Nat) : Option (Rat × Rat × Int) :=
  let m := s.get (GEAR_W0_MASTER p)
  match s.goodRec m with
  | none => none
  | some r =>
    let age : Int := (s.time.k : Int) * 100 - epochAbs r.week r.ms
    if s.get TRK_CTRL_GEAR_SD_MM < r.pos.sdH ∨ (s.get (GEAR_W4_EXTRAP_MS p) : Int) < age then none
    else match s.project (s.get (GEAR_W1_MTRACK p)) ((s.trk.gear.find? (fun e => e.1 == p)).map (·.2)) r.pos.e r.pos.n with
      | none => none
      | some j =>
        let v : Rat := ((r.pos.ve * j.dirE + r.pos.vn * j.dirN : Int) : Rat) / sqrtR ((j.dirE * j.dirE + j.dirN * j.dirN : Int) : Rat)
        some (j.arc + v * age / 1000, v, quantQ j.arc)

/-- GEAR_ENGAGE taken: the follower becomes GEARED from its start arc; origins that read 0x8000_0000 are set (R498). -/
def State.takeEngage (s : State) (a p sess tag : Nat) : State :=
  match s.startArc a (s.get (GEAR_W1_FTRACK p)) with
  | none => s.ecpComplete sess tag Ecp.DENIED []
  | some arc =>
    let unset := s.get (GEAR_W3_ORIGIN_F p) == 0x80000000
    let mt := s.masterAt p
    if !s.gearOk p || (unset && mt.isNone) then s.ecpComplete sess tag Ecp.DENIED []
    else
      let s := if unset then match mt with
          | some (m, _, _) => s.puts [(GEAR_W3_ORIGIN_F p, usgn 32 arc), (GEAR_W2_ORIGIN_M p, usgn 32 (quantQ m))]
          | none => s
        else s
      let x := s.pch a
      let s := s.puts [(PCH_W5_TRACK a, s.get (GEAR_W1_FTRACK p)), (PCH_W5_SLOT a, (x.slotOf (s.get (GEAR_W1_FTRACK p))).getD 0),
        (PCH_W7_MEAS_S a, usgn 32 arc), (PCH_W5_DOCKED a, 0)]
      let s := s.setPch a { x with plan := none, arcs := [], rest := arc * 1000, pair := p, proj := some arc }
      let s := s.setPair p 1
      let s := { s with trk := { s.trk with gear := s.trk.gear.filter (fun (e : Nat × Int) => e.1 ≠ p) } }
      (s.enterPch a 3 0).ecpComplete sess tag Ecp.OK []

/-- One request taken (R486). -/
def State.takeReq (a : Nat) (s : State) (r : TrkReq) : State :=
  match r with
  | .move sess tag home dock track target => s.takeMove a ⟨sess, tag, home, dock, track, target⟩
  | .halt sess tag =>
    let st := s.pchState a
    let s := if st = 2 ∨ st = 3 ∨ st = 4 then
        let s := if st = 3 then s.setPair (s.pch a).pair 2 else s
        s.stopPch a 2 2
      else if st = 1 then
        if (s.pch a).windowed then (s.holdPch a 2 (s.pch a).rest).endMove a Ecp.OK 2
        else (s.put (PCH_W5_STATE a) 0).endMove a Ecp.OK 2
      else s
    s.ecpComplete sess tag Ecp.OK []
  | .engage sess tag p => s.takeEngage a p sess tag
  | .disengage sess tag p =>
    let s := if s.pchState a = 3 ∧ (s.pch a).pair = p then s.stopPch a 2 2 else s
    (s.setPair p 0).ecpComplete sess tag Ecp.OK []

/-- TRACK_REQUEST_TAKE for one channel at C1: its requests in order of arrival, then a load that has completed. -/
def State.takeReqs (s : State) (a : Nat) : State :=
  let l := (s.pch a).reqs
  let s := if l.isEmpty then s else l.foldl (State.takeReq a) (s.setPch a { s.pch a with reqs := [] })
  if s.pchState a = 1 then
    match (s.pch a).move with
    | some m => if ((s.pch a).slotOf m.track).isSome then s.beginMove a m else s
    | none => s
  else s

/-! ## Windows (R490 to R493) -/

/-- The quantum code that follows from the one in force and the window speed in mm/s (R492). -/
def quantumNext (q : Nat) (v : Rat) : Nat :=
  match q with
  | 0 => if 4000 < v then 2 else if 1000 < v then 1 else 0
  | 1 => if 4000 < v then 2 else if v < 900 then 0 else 1
  | _ => if v < 900 then 0 else if v < 3600 then 1 else 2

/-- The quantum of a code in mm (R491). -/
def quantumMm (q : Nat) : Nat := if q = 0 then 1 else if q = 1 then 4 else 16

/-- The largest step between successive arcs (µm). -/
def maxStep (prev : Int) : List Int → Nat
  | [] => 0
  | x :: t => max (x - prev).natAbs (maxStep x t)

/-- The nine deltas: the rounding error is carried forward (R492). -/
def deltas (q : Nat) (r : Int) : List Int → List Int
  | [] => []
  | x :: t => let d := rdiv (x - r * 1000) (q * 1000); d :: deltas q (r + q * d) t

/-- The 15 bytes of a window body, from ten commanded arcs in µm (R491). -/
def windowBytes (q flags slot : Nat) : List Int → List Nat
  | [] => []
  | s1 :: t =>
    let r := rdiv s1 1000
    [q + flags, slot] ++ leBytes 4 (usgn 32 r) ++ (deltas (quantumMm q) r t).map (usgn 8)

/-- The geared arcs of R496: the cam index, the origins, and the arcs for a list of master arcs (mm). -/
def State.camStep (s : State) (p npts : Nat) (st : Nat × Int × Int) (m : Rat) : Nat → Nat × Int × Int
  | 0 => st
  | n + 1 =>
    let (i, om, off) := st
    let g := fun (x : Rat) => (s.getS (GEAR_RATIO_RATIO p i) : Rat) / 65536 * (x - om) + off
    let up := s.getS (GEAR_AT_AT p (i + 1))
    let dn := s.getS (GEAR_AT_AT p i)
    if i + 1 < npts ∧ (up : Rat) ≤ m then s.camStep p npts (i + 1, up, quantQ (g up)) m n
    else if 0 < i ∧ m < dn then s.camStep p npts (i - 1, dn, quantQ (g dn)) m n
    else st

/-- The geared arcs in mm of ten master arcs, with the cam state at the end. -/
def State.camArcs (s : State) (p npts : Nat) : Nat × Int × Int → List Rat → List Rat × (Nat × Int × Int)
  | st, [] => ([], st)
  | st, m :: t =>
    let st := s.camStep p npts st m 8
    let g := (s.getS (GEAR_RATIO_RATIO p st.1) : Rat) / 65536 * (m - st.2.1) + st.2.2
    let r := s.camArcs p npts st t
    (g :: r.1, r.2)

/-- The follower's arcs of R497 in mm, from c, v, a, and whether a clamp acted. -/
def gearFollow (vMin vMax aMax jMax : Rat) : Rat × Rat × Rat → List Rat → List Rat × Bool
  | _, [] => ([], false)
  | (c, v, a), g :: t =>
    let vw := (g - c) * 10
    let aw := (vw - v) * 10
    let jw := (aw - a) * 10
    let j := clampQ (-jMax) jMax jw
    let aq := a + j / 10
    let a' := clampQ (-aMax) aMax aq
    let vq := v + a' / 10
    let v' := clampQ vMin vMax vq
    let c' := c + v' / 10
    let r := gearFollow vMin vMax aMax jMax (c', v', a') t
    (c' :: r.1, decide (j ≠ jw ∨ a' ≠ aq ∨ v' ≠ vq) || r.2)

/-! ## Deviation (R499, R500) -/

/-- The response of an event on a channel: a code of R500. -/
def State.devRespond (s : State) (a code : Nat) : State :=
  match code with
  | 0 => s.setPch a { s.pch a with quiet := some 0 }
  | 1 =>
    let s := { s with trk := { s.trk with rookReq := s.trk.rookReq ++ [(s.ply, a, 1)] } }
    let s := if s.pchState a = 3 then s.setPair (s.pch a).pair 2 else s
    if s.pchState a = 2 ∨ s.pchState a = 3 ∨ s.pchState a = 4 then s.stopPch a 4 7 else s
  | c =>
    let s := { s with trk := { s.trk with rookReq := s.trk.rookReq ++ [(s.ply, a, c)] } }
    let s := if s.pchState a = 3 then s.setPair (s.pch a).pair 2 else s
    s.faultPch a

/-- A deviation event: 1 STALL, 2 SLIP, 3 LATERAL, 4 BLIND, 5 GEAR_LAG (R497, R499, R500). -/
def State.deviation (s : State) (a kind : Nat) (eL d : Int) : State :=
  let s := (s.record .deviation ([a, kind] ++ leBytes 4 (usgn 32 eL) ++ leBytes 4 (usgn 32 d))).bump TRK_CNT_DEV_EVENTS
  s.devRespond a (s.get (PCH_W3_DEV_RESP a))

/-- A master's predicted arcs for ten setpoints (R495). -/
def State.masterArcs (s : State) (p : Nat) (mT v : Rat) : List Rat :=
  let m := s.get (GEAR_W0_MASTER p)
  let x := s.pch m
  (List.range 10).map (fun i =>
    if s.pchState m = 0 then mT + v * ((i + 1 : Nat) : Rat) / 10
    else
      mT + ((x.arcCmd (s.time.k + i + 1) - x.arcCmd s.time.k : Int) : Rat) / 1000)

/-- The ten arcs of a GEARED channel, its pair's registers brought up to date; none where the master is lost. -/
def State.gearWindow (s : State) (a : Nat) : State × Option (List Int) :=
  let x := s.pch a
  let p := x.pair
  match s.masterAt p with
  | none => (s.gearLost p, none)
  | some (mT, v, pj) =>
    let k := s.time.k
    let npts := s.get (GEAR_W0_NPTS p) + 1
    let g := s.camArcs p npts (s.get (GEAR_W0_CAM p), s.getS (GEAR_W2_ORIGIN_M p), s.getS (GEAR_W3_ORIGIN_F p)) (s.masterArcs p mT v)
    let c0 : Rat := (x.arcAt k : Rat) / 1000
    let c1 : Rat := (x.arcAt (k - 1) : Rat) / 1000
    let c2 : Rat := (x.arcAt (k - 2) : Rat) / 1000
    let v0 := (c0 - c1) * 10
    let v1 := (c1 - c2) * 10
    let vm : Rat := (s.limV a : Nat)
    let f := gearFollow (if s.reverseOk a then -vm else 0) vm (s.limA a : Nat) (s.limJ a : Nat) (c0, v0, (v0 - v1) * 10) g.1
    let lag := g.1.getLast?.getD 0 - f.1.getLast?.getD 0
    let s := { s with trk := { s.trk with gear := (p, pj) :: s.trk.gear.filter (fun (e : Nat × Int) => e.1 ≠ p) } }
    let s := s.puts [(GEAR_W0_CAM p, g.2.1), (GEAR_W2_ORIGIN_M p, usgn 32 g.2.2.1), (GEAR_W3_ORIGIN_F p, usgn 32 g.2.2.2),
      (GEAR_W5_LAG p, usgn 32 (quantQ lag)), (PCH_W5_GEAR_LIMITED a, b2n f.2)]
    let lim : Rat := (s.get (GEAR_W4_LAG_MAX_MM p) : Nat)
    let s := if lim < lag ∨ lag < -lim then s.deviation a 5 (quantQ lag) 0 else s
    (s, some (f.1.map (fun (c : Rat) => quantQ (c * 1000))))

/-- The ten commanded arcs of a channel that is not geared. -/
def State.planWindow (s : State) (a : Nat) : List Int :=
  let x := s.pch a
  (List.range 10).map (fun i => match x.plan with
    | some (p, k0) => (planEval p k0 (s.time.k + i + 1)).1
    | none => x.rest)

/-- The window of one channel at C1, and what it leaves for the next (R490, R492). -/
def State.putWindow (s : State) (a : Nat) (arcs : List Int) : State :=
  let x := s.pch a
  let k := s.time.k
  let st := s.pchState a
  let s0 := if x.windowed then x.arcAt k else x.rest
  let s0 : Int := if st = 3 ∨ x.arcs.any (fun e => e.1 == k) then s0 else match x.plan with | some (p, k0) => (planEval p k0 k).1 | none => x.rest
  let v : Rat := ((maxStep s0 arcs : Nat) : Rat) / 100
  let q := if x.windowed then quantumNext (s.get (PCH_W5_Q a)) v else quantumNext 0 v
  let still := st == 1 || st == 6 || st == 7
  let ends : Bool := match x.plan with
    | some (p, k0) => decide (planMs p ≤ (k + 10 - k0) * 100)
    | none => still
  let flags := 4 * b2n ends + 8 * b2n (st == 4) + 16 * b2n still
  let slot := s.get (PCH_W5_SLOT a)
  let s1 := arcs.headD 0
  let old := x.arcs.filter (fun (e : Nat × Int) => decide (k ≤ e.1 + 2 ∧ e.1 < k))
  let new := (List.range 10).zip arcs |>.map (fun (e : Nat × Int) => (k + 1 + e.1, e.2))
  let s := s.setPch a { x with windowed := true, arcs := old ++ (k, s0) :: new }
  let s := s.puts [(PCH_W5_Q a, q), (PCH_W6_CMD_S a, usgn 32 (rdiv s1 1000))]
  { s with mac := { s.mac with wins := s.mac.wins ++ [(a, windowBytes q flags slot arcs)] } }

/-- TRACK_WINDOW_BUILD for one channel: nothing for an IDLE channel, nor for one that loads from IDLE (R484, R490). -/
def State.buildWindow (s : State) (a : Nat) : State :=
  let st := s.pchState a
  if st = 0 ∨ (st = 1 ∧ !(s.pch a).windowed) then s
  else if st = 3 then
    match s.gearWindow a with
    | (s, some l) => if s.pchState a = 3 then s.putWindow a l else s.putWindow a (s.planWindow a)
    | (s, none) => s.putWindow a (s.planWindow a)
  else s.putWindow a (s.planWindow a)

/-- What the track engine does at C1 (R486, R490): requests, then windows. With EN clear it builds none for the superframe, and
members follow the windows they hold to their ends (R29). -/
def State.trkC1 (s : State) : State :=
  if !(s.bit TRK_CTRL_EN && s.bit PAIR_STATUS_ACTIVE) then { s with mac := { s.mac with wins := [] } }
  else
    let s := allAddrs.foldl State.takeReqs { s with mac := { s.mac with wins := [] } }
    allAddrs.foldl State.buildWindow s

/-- Counts of a deviation check, and its event (R499). `k` is the boundary of the epoch. -/
def State.devCheck (s : State) (a k : Nat) (good : Bool) (arc : Int) (d2 : Rat) (left : Bool) : State :=
  let x := s.pch a
  let st := s.pchState a
  if st ≠ 2 ∧ st ≠ 3 ∧ st ≠ 4 then s
  else
    let x := { x with epochs := x.epochs + 1 }
    if x.epochs ≤ 10 then s.setPch a x
    else if !good then
      let x := { x with blind := x.blind + 1, stall := 0, slip := 0, lat := 0 }
      let s := s.setPch a x
      if x.blind = s.get (PCH_W3_DEV_BLIND a) then s.deviation a 4 0 0 else s
    else
      let eL : Rat := (arc : Rat) - (x.arcAt k : Rat) / 1000
      let lg : Rat := (s.get (PCH_W2_LONG_MM a) : Nat)
      let lt : Rat := (s.get (PCH_W2_LAT_MM a) : Nat)
      let stall := decide (eL < -lg)
      let slip := decide (lg < eL)
      let lat := decide (lt * lt < d2)
      let x := { x with blind := 0, stall := if stall then x.stall + 1 else 0, slip := if slip then x.slip + 1 else 0
                        lat := if lat then x.lat + 1 else 0 }
      let n := s.get (PCH_W3_DEV_N a)
      let x := match x.quiet with
        | some q => if stall || slip || lat then { x with quiet := some 0 } else if n ≤ q + 1 then { x with quiet := none } else { x with quiet := some (q + 1) }
        | none => x
      let s := s.setPch a x
      let d : Int := (if left then 1 else -1) * (isqrtNear (quantQ d2).toNat : Nat)
      if x.quiet.isSome then s
      else if n ≤ x.stall then s.deviation a 1 (quantQ eL) d
      else if n ≤ x.slip then s.deviation a 2 (quantQ eL) d
      else if n ≤ x.lat then s.deviation a 3 (quantQ eL) d
      else s

/-- A record of a member is written: its channel's measured arc, and the deviation check (R479, R499). -/
def State.trkRecord (s : State) (r : SolRec) : State :=
  let a := r.addr
  if s.pchState a = 0 ∨ !isAddr a then s
  else
    let k := epochAbs r.week r.ms / 100
    if r.status = 3 ∨ r.status = 4 then
      match s.project (s.get (PCH_W5_TRACK a)) (s.pch a).proj r.pos.e r.pos.n with
      | none => s
      | some p =>
        let arc := quantQ p.arc
        let s := (s.setPch a { s.pch a with proj := some arc }).put (PCH_W7_MEAS_S a) (usgn 32 arc)
        s.devCheck a k true arc p.d2 p.left
    else s.devCheck a k false 0 0 false

/-- The records written since `s0` reach the track engine (R479, R499). -/
def State.trkNew (s0 s : State) : State := (s.fix.done.drop s0.fix.done.length).foldl State.trkRecord s

/-! ## Coming to rest (R488, R489, R504) -/

/-- The profile of a channel has come to rest by the local clock. -/
def State.atRest (s : State) (a : Nat) : Bool :=
  match (s.pch a).plan with
  | some (p, k0) => decide (k0 * 100 + planMs p ≤ s.time.k * 100 + s.sinceNs / 1000000)
  | none => false

/-- PROFILE_REST_REACHED (R484, R488, R489, R504). -/
def execProfileRestReached (a : Nat) (s : State) : Out :=
  fin (let x := s.pch a
    let st := s.pchState a
    if !isAddr a || !s.atRest a then s
    else match st with
    | 2 => (s.holdPch a 1 x.rest).endMove a Ecp.OK 0
    | 4 => ((s.holdPch a 5 x.rest).bump TRK_CNT_DOCK_FAULT).endMove a Ecp.OK 6
    | 5 =>
      if x.behind then
        let s := (s.holdPch a 3 x.rest).bump TRK_CNT_BEHIND
        (s.useFree).endMove a Ecp.TARGET_BEHIND s.freeVal
      else if x.docking then ((s.holdPch a 5 x.rest).put (PCH_W5_DOCKED a) 1).endMove a Ecp.OK 5
      else (s.holdPch a x.reason x.rest).endMove a Ecp.OK x.outcome
    | _ => s)

/-! ## Contacts (R501 to R504) -/

/-- DOCK_EARLY or DOCK_LOST: FAULT, with DOCK_RESP applied (R504). -/
def State.dockFault (s : State) (a kind : Nat) : State :=
  let s := (s.bump TRK_CNT_DOCK_FAULT).record .dockOutcome [a, kind]
  let code := s.get (PCH_W3_DOCK_RESP a)
  let s := if code = 0 then s else { s with trk := { s.trk with rookReq := s.trk.rookReq ++ [(s.ply, a, code)] } }
  s.faultPch a

/-- A confirmed contact of channel `a`: `input` for a device input (R504). -/
def State.dockOutcome (s : State) (a : Nat) (closed input : Bool) : State :=
  let x := s.pch a
  let st := s.pchState a
  if s.bit (PCH_W5_DOCKED a) then
    if closed then s else (s.record .dockOutcome [a, 4]).put (PCH_W5_DOCKED a) 0
  else if st = 4 then
    match x.move with
    | none => s
    | some m =>
      if !closed then s
      else if s.getS (PCH_W7_MEAS_S a) < m.target - (s.get (PCH_W4_APPROACH_MM a) : Nat) then s.dockFault a 1
      else if input then (s.stopPch a 5 5) |> fun s => s.setPch a { s.pch a with docking := true }
      else ((s.holdPch a 5 (s.measUm a)).put (PCH_W5_DOCKED a) 1).endMove a Ecp.OK 5
  else if st = 5 ∧ x.docking ∧ !closed then s.dockFault a 2
  else s

/-- DOCK_INPUT_CONFIRM, at the last ply of a window: the three samples of input `k`; the first opened it, the last decides; windows do not
overlap (R502). -/
def execDockInputConfirm (k : Nat) (l1 _l2 l3 : Bool) (s : State) : Out :=
  fin (let pol := s.getBit DOCK_CFG_POLARITY k
    let now := fun (l : Bool) => l == pol
    let was := s.getBit DOCK_STATE_CLOSED k
    let open' := s.trk.dockAt.any (fun e => e.1 == k && decide (s.ply < e.2 + 3))
    if 8 ≤ k ∨ !s.getBit DOCK_CFG_EN k ∨ now l1 = was ∨ open' then s
    else
      let s := { s with trk := { s.trk with dockAt := s.trk.dockAt.filter (fun (e : Nat × Nat) => e.1 ≠ k) ++ [(k, s.ply)] } }
      if now l3 = was then s
      else
      let c := now l3
      let s := ((s.putBit DOCK_STATE_CLOSED k c).putBit DOCK_STATE_CHANGED k true).record .dockChange [k, b2n c]
      allAddrs.foldl (fun s a => if (s.pchState a != 0) && (s.pch a).dock == k then s.dockOutcome a c true else s) s)

/-- A DOCK report of a member (R503, R504). -/
def State.dockReport (a : Nat) (b : List Nat) (s : State) : State :=
  if (s.pch a).dock = 8 then s.dockOutcome a (leAt b 0 1 == 1) false else s

/-- A DOCK report body is well formed (R16, R503). -/
def dockOk (b : List Nat) : Bool := b.length == 8 && decide (leAt b 0 1 ≤ 1)

/-! ## Release and takeover (R506, R507) -/

/-- A request that waits for a C1 while its channel's address is released (R506, R509). -/
def State.endReq (a : Nat) (s : State) (r : TrkReq) : State :=
  match r with
  | .move sess tag _ _ _ _ => s.ecpComplete sess tag Ecp.OK (moveBytes 4 (s.pchState a) (rdiv (s.pch a).rest 1000))
  | .halt sess tag => s.ecpComplete sess tag Ecp.OK []
  | .engage sess tag _ => s.ecpComplete sess tag Ecp.DENIED []
  | .disengage sess tag p => (s.setPair p 0).ecpComplete sess tag Ecp.OK []

/-- An address is released: its channel is IDLE, its pairs are OFF, its slots forgotten (R506). -/
def State.releasePch (s : State) (a : Nat) : State :=
  let s := (s.pairsOf a).foldl (fun s p => ((s.stopFollower p).setPair p 0)) s
  let s := s.endMove a Ecp.OK 4
  let s := (s.pch a).reqs.foldl (State.endReq a) s
  (s.setPch a {}).puts [(PCH_W5_STATE a, 0), (PCH_W5_REASON a, 0), (PCH_W5_DOCKED a, 0), (PCH_W5_Q a, 0), (PCH_W5_GEAR_LIMITED a, 0),
    (PCH_W5_SLOT a, 0)]

/-- A channel replanned after a takeover (R507). -/
def State.replanPch (s : State) (a : Nat) : State :=
  let x := s.pch a
  let st := s.pchState a
  if st ≠ 2 ∧ st ≠ 3 ∧ st ≠ 4 then s
  else match s.startArc a (s.get (PCH_W5_TRACK a)) with
    | none => s.holdPch a 6 (s.measUm a)
    | some arc =>
      let s := s.setPch a { x with proj := some arc, rest := arc * 1000, arcs := [], plan := none }
      match x.move with
      | some m => if st = 3 then s.enterPch a 3 0 else s.planMove a m (arc * 1000, 0, 0)
      | none => s.enterPch a st 0

end Sys2Proof.Machine
end

