-- ==== Sys2Proof/Machine/Rook.lean ====
section
/-!
DEFINITION. Rook (spec/16): the stop state and its sources, the e-stop loops, the relays, member stops, HOLD and RESUME,
release and fault clearing, the watchdog, STOP_PORT and the stop opcodes.
-/

namespace Sys2Proof.Machine

open R

/-- PD_ROOK is held in reset. -/
def State.rookHeld (s : State) : Bool := s.domOff 1

/-- The stop state is in force (R515, R541). -/
def State.stopped (s : State) : Bool := s.bit ROOK_STATE_STOP

/-- Rook's own state with `f` applied. -/
def State.withRook (s : State) (f : RookState → RookState) : State := { s with rook := f s.rook }

/-! ## The stop state (R515 to R518, R523, R525) -/

/-- Sub-windows a STOP frame is repeated for on lane `n` (R525). -/
def State.stopRepeat (s : State) (n : Nat) : Nat := if s.prof n = 0 then s.get STOP_CFG_REPEAT_0 else s.get STOP_CFG_REPEAT_S

/-- The repetition of the stop-all frame on every lane. -/
def State.stopAllLeft (s : State) : List (Nat × Nat) := (List.range 8).map (fun n => (n, s.stopRepeat n))

/-- The enabled lanes, each with its count of repetitions. -/
def State.laneLeft (s : State) (c : Nat → Nat) : List (Nat × Nat) :=
  ((List.range 8).filter (fun n => s.bit (LANE_CFG_EN n))).map (fun n => (n, c n))

/-- What an entry into the stop state does beside its source bit: counter, ply, relays, repetition, channels, and the
announcement (R505, R518, R523, R525, R527). -/
def State.beginStop (s : State) : State :=
  let s := (s.puts [(ROOK_STATE_STOP, 1), (STOP_PLY_LO_PLY, s.ply % 2 ^ 32), (STOP_PLY_HI_PLY, s.ply / 2 ^ 32),
    (RELAY_STATUS_DRIVE, 0)]).bump ROOK_CNT_STOP_EVENTS
  let s := s.withRook (fun r => { r with rep := s.stopAllLeft, raiseAt := none })
  (s.stopAllChannels).safetySend 1 (s.get ROOK_SEQ_SSEQ) 0xFF

/-- A confirmed stop source, by its bit of SRC_LATCHED (R516, R518). A Rook held in reset is in the stop state already
(R515, R540). -/
def State.enterStop (s : State) (src : Nat) : State :=
  if s.rookHeld then s
  else
    let was := s.stopped
    let s := (s.putBit ROOK_STATE_SRC_LATCHED src true).withRook (fun r => { r with srcPly := some s.ply })
    if was then s else s.beginStop

/-- A reset of Rook alone: the stop state is in force, with its frames due and the channels held (R505, R515, R525). -/
def State.rookReset (s : State) (src : Nat) : State :=
  let s := s.assertSource src 0
  (s.withRook (fun r => { r with rep := s.stopAllLeft })).stopAllChannels

/-! ## Member stops (R516, R533) -/

/-- A TARGET that STOP_PORT admits (R541). -/
def stopTargetOk (t : Nat) : Bool := t == 0xFF || isAddr t || (decide (0xD0 ≤ t) && decide (t ≤ 0xDF))

/-- MSTOP of an address set or cleared. -/
def State.putMstop (b : Bool) (s : State) (a : Nat) : State := s.putBit (MSTOP_MEMBERS ((a - 1) / 32)) ((a - 1) % 32) b

/-- MSTOP of an address. -/
def State.mstop (s : State) (a : Nat) : Bool := s.getBit (MSTOP_MEMBERS ((a - 1) / 32)) ((a - 1) % 32)

/-- A member stop of a TARGET other than 0xFF: the MSTOP bits, the STOP frame, the channels (R505, R516, R533). -/
def State.memberStop (s : State) (t : Nat) : State :=
  let l := s.targets t
  if s.rookHeld ∨ l.isEmpty then s
  else
    let s := l.foldl (State.putMstop true) s
    let f : StopFrame := { cmd := 1, sseq := none, target := t, members := l, left := s.laneLeft s.stopRepeat }
    let s := s.withRook (fun r => { r with
      mstops := r.mstops ++ [f], srcPly := some s.ply
      mstopPly := List.filter (fun (e : Nat × Nat) => e.2 == s.ply) r.mstopPly ++ l.map (fun a => (a, s.ply)) })
    l.foldl State.stopMember s

/-- A STOP of any TARGET through STOP_PORT or ECP (R516). -/
def State.stopTarget (s : State) (t : Nat) : State := if t = 0xFF then s.enterStop 1 else s.memberStop t

/-- A member's STOP_REQ report (R516, R517). -/
def State.memberStopReq (s : State) (a : Nat) : State :=
  if s.bit STOP_CFG_MEMBER_SCOPE then s.memberStop a else s.enterStop 2

/-- A member's MSTOP bit cleared: the STOP repetition due for it ends (R533). -/
def State.clearMstop (s : State) (a : Nat) : State :=
  let s := State.putMstop false s a
  let l := s.rook.mstops.map (fun (f : StopFrame) => { f with members := f.members.filter (fun m => m ≠ a) })
  s.withRook (fun r => { r with mstops := l.filter (fun (f : StopFrame) => !f.members.isEmpty) })

/-- The MSTOP bits that a RESUME of a TARGET clears; a member stopped in the same ply stays stopped (R533, R540). -/
def State.resumeClear (s : State) (t : Nat) : State :=
  ((s.targets t).filter (fun a => !s.rook.mstopPly.contains (a, s.ply))).foldl State.clearMstop s

/-! ## HOLD and RESUME (R525, R532) -/

/-- A frame put into SSEQ order (R525). -/
def insertHr (f : StopFrame) : List StopFrame → List StopFrame
  | [] => [f]
  | g :: t => if sseqAhead (g.sseq.getD 0) (f.sseq.getD 0) then f :: g :: t else g :: insertHr f t

/-- HOLD (2) or RESUME (3) queued with an SSEQ; false where 32 commands wait (R532). -/
def State.queueHr (s : State) (cmd sseq t : Nat) : State × Bool :=
  if 32 ≤ s.rook.hr.length then (s.bump ROOK_CNT2_QUEUE_FULL, false)
  else
    let f : StopFrame := { cmd := cmd, sseq := some sseq, target := t, members := [], left := s.laneLeft (fun _ => s.get STOP_CFG_HR_REPEAT) }
    (s.withRook (fun r => { r with hr := insertHr f r.hr }), true)

/-- A HOLD or RESUME of this unit; answers the RESULT of STOP_PORT_RES (R532, R533). -/
def State.ownHr (s : State) (cmd t : Nat) : State × Nat :=
  if !s.bit PAIR_STATUS_ACTIVE then (s, 4)
  else if cmd = 3 ∧ s.stopped then (s, 2)
  else
    let q := (s.get ROOK_SEQ_SSEQ + 1) % 256
    let r := s.queueHr cmd q t
    if !r.2 then (r.1, 3)
    else
      let s := r.1.put ROOK_SEQ_SSEQ q
      let s := if cmd = 3 then s.resumeClear t else s
      (s.safetySend (cmd + 1) q t, 0)

/-- The partner's HOLD or RESUME, repeated with its SSEQ (R527, R533); a Rook held in reset takes none (R541). -/
def State.partnerHr (s : State) (cmd sseq t : Nat) : State :=
  if s.rookHeld || (match s.pair.pHr with | some q => !sseqAhead sseq q | none => false) then s
  else
    let s := { s with pair := { s.pair with pHr := some sseq } }
    let r := s.queueHr cmd sseq t
    if r.2 ∧ cmd = 3 then r.1.resumeClear t else r.1

/-- ROOK_SEQ takes an accepted SSEQ that is ahead of it (R553). -/
def State.syncSseq (s : State) (q : Nat) : State :=
  if !s.rookHeld && sseqAhead q (s.get ROOK_SEQ_SSEQ) then s.put ROOK_SEQ_SSEQ q else s

/-- The track engine's requests of plies before this one: 1 HOLD, 2 STOP of the member, 3 STOP_ALL (R500, R516). The
stops come first. -/
def State.rookReqs (s : State) : State :=
  if s.rookHeld then s
  else
    let l := s.trk.rookReq.filter (fun e => decide (e.1 < s.ply))
    let s := { s with trk := { s.trk with rookReq := s.trk.rookReq.filter (fun (e : Nat × Nat × Nat) => !decide (e.1 < s.ply)) } }
    let s := l.foldl (fun s e => if e.2.2 = 3 then s.enterStop 3 else if e.2.2 = 2 then s.memberStop e.2.1 else s) s
    l.foldl (fun s e => if e.2.2 = 1 then (s.ownHr 2 e.2.1).1 else s) s

/-! ## Rook faults (R537, R686) -/

/-- A fault is latched (R537). -/
def State.anyFault (s : State) : Bool :=
  s.rook.ltBits != 0 || s.rook.dcBits != 0 || s.get ROOK_FAULT_RELAY != 0 || s.bit ROOK_FAULT_CLOCK ||
  s.bit ROOK_FAULT_LOG_MEDIA || s.bit ROOK_FAULT_SRAM_UE

/-- The summary bits follow the faults (R686). -/
def State.showFaults (s : State) : State :=
  s.puts [(ROOK_FAULT_LOOP, s.rook.ltBits ||| s.rook.dcBits), (ROOK_FAULT_LOOP_TEST, b2n (s.rook.ltBits != 0)),
    (ROOK_FAULT_DISCREPANCY, b2n (s.rook.dcBits != 0)), (ROOK_FAULT_RELAY_FB, b2n (s.get ROOK_FAULT_RELAY != 0)),
    (ROOK_STATE_FAULT, b2n s.anyFault)]

/-- ROOK_FAULT_N is driven low (R538). -/
def State.rookFaultLow (s : State) : Bool := s.anyFault || s.bit ROOK_STATE_HALTED || s.rookHeld

/-- What the latching of a fault brings: the summary, an event record with the kind (its bit in ROOK_FAULT) and the loop
or relay, the end of what Rook owns (R160), and the stop state (R516, R537). -/
def State.faultLatched (s : State) (kind unit : Nat) : State :=
  (ownerReset 0x30 ((s.showFaults).record .rookFault [kind, unit])).enterStop 4

/-- A single fault latched by its bit: SRAM_UE, LOG_MEDIA or CLOCK. -/
def State.latchFault (s : State) (f : Fld) (kind : Nat) : State :=
  if s.rookHeld ∨ s.bit f then s else (s.put f 1).faultLatched kind 0

/-- LOG_MEDIA is latched when the main ring fails (R537, R601). -/
def State.latchMedia (s : State) : State := s.latchFault ROOK_FAULT_LOG_MEDIA 4

/-! ## E-stop loops (R519 to R522) -/

/-- Channel `j`: loop j / 2, A even, B odd (R520). -/
def State.estop (s : State) (j : Nat) : EstopCh :=
  match s.rook.ch.find? (fun e => e.1 == j) with
  | some e => e.2
  | none => {}

/-- It replaced. -/
def State.setEstop (s : State) (j : Nat) (x : EstopCh) : State :=
  s.withRook (fun r => { r with ch := r.ch.filter (fun (e : Nat × EstopCh) => e.1 ≠ j) ++ [(j, x)] })

/-- Ply in which a loop was enabled. -/
def State.loopSince (s : State) (n : Nat) : Nat :=
  match s.rook.enAt.find? (fun e => e.1 == n) with | some e => e.2 | none => 0

/-- Loop `n` is enabled and its settling plies are over (R519). -/
def State.loopLive (s : State) (n : Nat) : Bool :=
  decide (n < 8) && s.getBit LOOP_CFG_EN n && !s.rookHeld && decide (s.loopSince n + 4 < s.ply)

/-- A channel's own test window is open (R520). -/
def State.underTest (s : State) (j : Nat) : Bool :=
  match (s.estop j).test with | some p => decide (s.ply ≤ p + 10) | none => false

/-- The device drives a channel high now (R519, R520). -/
def State.drvHigh (s : State) (j : Nat) : Bool :=
  s.getBit LOOP_CFG_EN (j / 2) && !s.rookHeld &&
  !(match (s.estop j).test with | some p => decide (s.ply < p + 6) | none => false)

/-- A channel reads closed by the last sample (R519). -/
def State.readsClosed (s : State) (j : Nat) : Bool := bitOf s.rook.sns j && s.drvHigh j

/-- The tests passed by both channels of a loop no longer count (R522, R539). -/
def State.dropTests (s : State) (n : Nat) : State :=
  let s := s.setEstop (2 * n) { s.estop (2 * n) with tested := false }
  s.setEstop (2 * n + 1) { s.estop (2 * n + 1) with tested := false }

/-- A channel is confirmed open: its loop is open, and a stop source (R516, R519). -/
def State.confirmOpen (s : State) (j : Nat) : State :=
  let s := s.setEstop j { s.estop j with openRun := 2, closedRun := 0, conf := 2, since := none }
  ((s.putBit LOOP_STATUS_OPEN (j / 2) true).dropTests (j / 2)).enterStop 0

/-- A counted sample of a channel (R519, R521). -/
def State.estopSample (s : State) (j : Nat) (closed : Bool) : State :=
  let x := s.estop j
  if closed then
    let run := min 2 (x.closedRun + 1)
    let s := s.setEstop j { x with openRun := 0, closedRun := run, conf := if run = 2 then 1 else x.conf
                                   since := match x.since with | some p => some p | none => some s.ply }
    s.putBit LOOP_STATUS_OPEN (j / 2) ((s.estop (2 * (j / 2))).conf == 2 || (s.estop (2 * (j / 2) + 1)).conf == 2)
  else if 1 ≤ x.openRun then (if x.conf = 2 then s.setEstop j { x with since := none } else s.confirmOpen j)
  else s.setEstop j { x with openRun := 1, closedRun := 0, since := none }

/-- A loop fault latched: kind 1 LOOP_TEST, 2 DISCREPANCY. A faulted loop is a LOOP source too (R516, R537, R686). -/
def State.latchLoop (s : State) (n kind : Nat) : State :=
  let v := if kind = 1 then s.rook.ltBits else s.rook.dcBits
  if s.rookHeld ∨ bitOf v n then s
  else
    let s := s.withRook (fun r => if kind = 1 then { r with ltBits := setBit r.ltBits n } else { r with dcBits := setBit r.dcBits n })
    ((s.dropTests n).enterStop 0).faultLatched kind n

/-- The samples of plies 4 and 5 of a channel's test have been read: both low, or not (R520, R522). A test passed while
the loop is open does not count. -/
def State.testDone (s : State) (j : Nat) (low : Bool) : State :=
  if low then (if s.getBit LOOP_STATUS_OPEN (j / 2) then s else s.setEstop j { s.estop j with tested := true })
  else s.latchLoop (j / 2) 1

/-- A loop counts as closed for a release (R522). -/
def State.loopClosed (s : State) (n : Nat) : Bool :=
  let ok := fun j => (s.estop j).tested &&
    (match (s.estop j).since with | some p => decide (p + s.get LOOP_CFG_CLOSE * 1000 ≤ s.ply) | none => false)
  ok (2 * n) && ok (2 * n + 1) && !bitOf (s.rook.ltBits ||| s.rook.dcBits) n

/-- ESTOP_LOOP_OPEN: channel `j` reads open in this ply as it did in its last counted sample (R519). -/
def execEstopLoopOpen (j : Nat) (s : State) : Out :=
  fin (if j < 16 ∧ s.loopLive (j / 2) ∧ !s.underTest j ∧ 1 ≤ (s.estop j).openRun ∧ (s.estop j).conf ≠ 2
    then s.confirmOpen j else s)

/-- LOOP_TEST_PULSE: the level of SNS in ply 5 of channel `j`'s test, which ends its samples (R520). -/
def execLoopTestPulse (j : Nat) (sns : Bool) (s : State) : Out :=
  let x := s.estop j
  fin (match x.test with
    | some p =>
      if j < 16 ∧ s.loopLive (j / 2) ∧ s.ply = p + 5
      then (s.setEstop j { x with testBad := x.testBad || sns }).testDone j (!(x.testBad || sns)) else s
    | none => s)

/-- LOOP_DISCREPANCY: the channels of loop `n` have disagreed, without a break, for DISC × 10 ms (R521). -/
def execLoopDiscrepancy (n : Nat) (s : State) : Out :=
  fin (if s.loopLive n ∧ heldFor s.rook.disc n s.ply (s.get LOOP_CFG_DISC * 1000) then s.latchLoop n 2 else s)

/-! ## Relays (R523, R524, R536) -/

/-- RLY_n_FB read through FB_POL: 1 means energised (R524). -/
def State.energised (s : State) (n : Nat) : Bool := bitOf s.rook.fb n != s.getBit RELAY_CFG_FB_POL n

/-- The drive of the relays outside the stop state (R523): between a release and the next ply it stays low (R536). -/
def State.relayDrive (s : State) : State :=
  if s.rookHeld ∨ s.stopped ∨ s.rook.raiseAt.isSome then s else s.put RELAY_STATUS_DRIVE (s.get RELAY_CFG_EN)

/-- RELAY_FB is latched for relay `n` (R524). -/
def State.latchRelay (s : State) (n : Nat) : State :=
  if s.rookHeld ∨ s.getBit ROOK_FAULT_RELAY n then s else (s.putBit ROOK_FAULT_RELAY n true).faultLatched 3 n

/-- RELAY_FB_MISMATCH: the feedback of relay `n` has differed from its drive for FB_MS without a break (R524). -/
def execRelayFbMismatch (n : Nat) (s : State) : Out :=
  fin (if n < 4 ∧ heldFor s.rook.fbDiff n s.ply (s.get RELAY_CFG_FB_MS * 100) then s.latchRelay n else s)

/-- RELAY_RAISE: in the ply after the release (R536). -/
def State.relayRaise (s : State) : State :=
  match s.rook.raiseAt with
  | some p => if p ≤ s.ply then (s.withRook (fun r => { r with raiseAt := none })).relayDrive else s
  | none => s

/-- RELAY_RAISE (R536). -/
def execRelayRaise (s : State) : Out := fin s.relayRaise

/-! ## SRAM, lockstep, clock and watchdog (R512 to R514) -/

/-- A word of Rook SRAM with `bits` bits in error: one or two are corrected and counted, more are detected (R512). -/
def State.rookSram (s : State) (bits : Nat) : State :=
  if bits = 0 ∨ s.rookHeld then s
  else if bits ≤ 2 then s.bump ROOK_CNT2_SRAM_CE
  else s.latchFault ROOK_FAULT_SRAM_UE 0

/-- A count of CLK_RWDOG cycles in a ply is out of range (R514). -/
def rwdogBad (n : Nat) : Bool := decide (n < 112) || decide (208 < n)

/-- ROOK_CLOCK_FAULT: `count` cycles of CLK_RWDOG in this ply, after the count of the ply before (R514). -/
def execRookClockFault (count : Nat) (s : State) : Out :=
  fin (if !s.rookHeld && rwdogBad s.rook.rw1 && rwdogBad count then s.latchFault ROOK_FAULT_CLOCK 5 else s)

/-- LOCKSTEP_MISMATCH: never while the pair is halted (R110, R512). -/
def execLockstepMismatch (s : State) : Out :=
  fin (if s.rookHeld ∨ s.bit ROOK_STATE_HALTED then s else s.rookReset 8)

/-- The watchdog expires (R110, R513). -/
def State.wdogExpire (s : State) : State := s.rookReset 9

/-- ROOK_WDOG_EXPIRY: with `cycles` of CLK_RWDOG since the last resolution point, the count since the last service reaches
TIMEOUT × 1024 (R513). -/
def execRookWdogExpiry (cycles : Nat) (s : State) : Out :=
  fin (if s.rook.wdogOn ∧ !s.rookHeld ∧ s.get WDOG_CFG_TIMEOUT * 1024 ≤ s.rook.wdog + cycles then s.wdogExpire else s)

/-- A write to WDOG_SVC that the block takes (R513). -/
def State.wdogSvc (data : Nat) (s : State) : State :=
  if !s.rook.wdogOn then s
  else
    let k := data % 65536
    if k = 0xC35A ∧ !s.rook.svc then s.withRook (fun r => { r with svc := true })
    else if k = 0x3CA5 ∧ s.rook.svc ∧ s.get WDOG_CFG_MIN * 1024 ≤ s.rook.wdog then
      s.withRook (fun r => { r with svc := false, wdog := 0 })
    else s.wdogExpire

/-- WDOG_SVC_WRITE (R513). -/
def execWdogSvcWrite (ini data : Nat) (s : State) : Out := fin (s.asWrite ini 0x40500034 (State.wdogSvc data))

/-- The core pair leaves its halt: the watchdog starts (R108, R513). -/
def State.rookStart (s : State) : State :=
  (s.put ROOK_STATE_HALTED 0).withRook (fun r => { r with wdogOn := true, wdog := 0, svc := false })

/-! ## Release (R535, R536, R555) -/

/-- The pair link is down: ETH_5 has no link, or no heartbeat arrives (R535). -/
def State.pairDown (s : State) : Bool := !s.bit PAIR_STATUS_LINK || !s.bit PAIR_STATUS_HB_OK

/-- The partner counts as still in the stop state (R555). -/
def State.partnerStopped (s : State) : Bool := s.bit PAIR_STATUS_PARTNER_STOP && s.pair.pSrc != 0

/-- BLOCKERS (R535). -/
def State.blockers (s : State) (ignorePair : Bool) : Nat :=
  b2n ((List.range 8).any (fun n => s.getBit LOOP_CFG_EN n && !s.loopClosed n)) + 2 * b2n s.anyFault +
  4 * b2n (s.partnerStopped && !(ignorePair && s.pairDown)) + 8 * b2n (s.bit ROOK_STATE_HALTED) +
  16 * b2n (s.rook.srcPly == some s.ply)

/-- A release evaluated; answers the blockers (R535, R536). -/
def State.tryRelease (s : State) (ignorePair : Bool) : State × Nat :=
  let b := s.blockers ignorePair
  if b ≠ 0 ∨ !s.stopped then (s, b)
  else
    let s := (s.puts [(ROOK_STATE_STOP, 0), (ROOK_STATE_SRC_LATCHED, 0)]).record .stopRelease
    let s := s.withRook (fun r => { r with rep := [], raiseAt := some (s.ply + 1) })
    (s.safetySend 2 (s.get ROOK_SEQ_SSEQ) 0xFF, 0)

/-- The answer to a request through STOP_PORT or ECP. -/
def State.stopAnswer (s : State) (r : StopReq) (result blockers status : Nat) (pay : List Nat) : State :=
  match r.req with
  | some (sess, tag) => s.ecpComplete sess tag status pay
  | none => s.puts [(STOP_PORT_RES_RESULT r.ini, result), (STOP_PORT_RES_BLOCKERS r.ini, blockers)]

/-- A release request evaluated (R535). -/
def State.evalRelease (s : State) (r : StopReq) : State :=
  let e := s.tryRelease r.ignorePair
  if e.2 = 0 then e.1.stopAnswer r 0 0 Ecp.OK [0, 0, 0, 0] else e.1.stopAnswer r 2 e.2 Ecp.DENIED [e.2, 0, 0, 0]

/-- The release requests of earlier plies evaluated, in order (R535). -/
def State.releases (s : State) : State :=
  let l := s.rook.release.filter (fun (r : StopReq) => decide (r.ply < s.ply))
  let s := s.withRook (fun r => { r with release := r.release.filter (fun (q : StopReq) => !decide (q.ply < s.ply)) })
  l.foldl State.evalRelease s

/-- RELEASE_EVALUATION (R535). -/
def execReleaseEvaluation (s : State) : Out := fin s.releases

/-- A release announced by the partner is followed at once where PAIR is the only source (R555). -/
def State.pairRelease (s : State) : State :=
  if s.stopped && s.get ROOK_STATE_SRC_LATCHED == 0x20 && !s.rookHeld then (s.tryRelease false).1 else s

/-! ## Clearing faults (R539, R686) -/

/-- The faults of loop `n` that a mask covers and whose cause is absent cleared; the loop has to pass its tests again
(R539, R686). -/
def State.clearLoop (mask : Nat) (s : State) (n : Nat) : State :=
  let a := s.readsClosed (2 * n)
  let b := s.readsClosed (2 * n + 1)
  let lt := bitOf s.rook.ltBits n && (bitOf mask (8 + n) || bitOf mask 1) && a && b
  let dc := bitOf s.rook.dcBits n && (bitOf mask (8 + n) || bitOf mask 2) && a == b
  let s := s.withRook (fun r => { r with ltBits := if lt then clrBit r.ltBits n else r.ltBits
                                         dcBits := if dc then clrBit r.dcBits n else r.dcBits })
  if lt || dc then s.dropTests n else s

/-- The fault of relay `n`, likewise. -/
def State.clearRelay (mask : Nat) (s : State) (n : Nat) : State :=
  if s.getBit ROOK_FAULT_RELAY n && (bitOf mask (16 + n) || bitOf mask 3) && s.energised n == s.getBit RELAY_STATUS_DRIVE n
  then s.putBit ROOK_FAULT_RELAY n false else s

/-- Every latched fault that a mask of ROOK_FAULT covers and whose cause is absent cleared (R539, R686). -/
def State.clearFaults (mask : Nat) (s : State) : State :=
  let s := (List.range 8).foldl (State.clearLoop mask) s
  let s := (List.range 4).foldl (State.clearRelay mask) s
  let s := if bitOf mask 4 && !s.bit REC_STATUS_MAIN_FAULT then s.put ROOK_FAULT_LOG_MEDIA 0 else s
  let s := if bitOf mask 5 && !rwdogBad s.rook.rw0 && !rwdogBad s.rook.rw1 then s.put ROOK_FAULT_CLOCK 0 else s
  s.showFaults

/-- ROOK_FAULT as a word (R686). -/
def State.faultWord (s : State) : Nat :=
  s.get ROOK_FAULT_RELAY * 65536 + s.get ROOK_FAULT_LOOP * 256 + s.get ROOK_FAULT_CLOCK * 32 + s.get ROOK_FAULT_LOG_MEDIA * 16 +
  s.get ROOK_FAULT_RELAY_FB * 8 + s.get ROOK_FAULT_DISCREPANCY * 4 + s.get ROOK_FAULT_LOOP_TEST * 2 + s.get ROOK_FAULT_SRAM_UE

/-- A fault-clear request evaluated (R539). -/
def State.evalClear (s : State) (r : StopReq) : State :=
  let s := State.clearFaults 0xFFFFFFFF s
  s.stopAnswer r 0 0 Ecp.OK (leBytes 4 s.faultWord)

/-- The fault-clear requests of earlier plies evaluated (R539). -/
def State.clears (s : State) : State :=
  let l := s.rook.clear.filter (fun (r : StopReq) => decide (r.ply < s.ply))
  let s := s.withRook (fun r => { r with clear := r.clear.filter (fun (q : StopReq) => !decide (q.ply < s.ply)) })
  l.foldl State.evalClear s

/-- FAULT_CLEAR_EVALUATION (R539). -/
def execFaultClearEvaluation (s : State) : Out := fin s.clears

/-- ROOK_FAULT_WRITE: a Rook write of ones (R686). -/
def execRookFaultWrite (ini data : Nat) (s : State) : Out := fin (s.asWrite ini 0x40500004 (State.clearFaults data))

/-! ## STOP_PORT (R541) -/

/-- A command of the stop logic; answers the RESULT (R516, R532, R535, R539, R541). -/
def State.stopCmd (s : State) (ini cmd t : Nat) (ignorePair : Bool) (req : Option (Nat × Nat)) : State × Nat :=
  let q : StopReq := { ini := ini, ply := s.ply, ignorePair := ignorePair, req := req, n := s.rook.asks }
  if s.rookHeld then (s, 5)
  else match cmd with
  | 1 => (s.stopTarget t, 0)
  | 2 => s.ownHr 2 t
  | 3 => s.ownHr 3 t
  | 4 => (s.withRook (fun r => { r with release := r.release ++ [q], asks := r.asks + 1 }), 1)
  | _ => (s.withRook (fun r => { r with clear := r.clear ++ [q], asks := r.asks + 1 }), 1)

/-- What an ECP REG_WRITE of STOP_PORT returns for fields that are not valid (R541, R684). -/
def stopPortFail (data : Nat) : Option Nat :=
  let cmd := bits data 2 0
  if bits data 31 16 ≠ 0x4B52 then some Ecp.DENIED
  else if cmd = 0 ∨ 6 ≤ cmd then some Ecp.BAD_PARAM
  else if cmd ≤ 3 ∧ !stopTargetOk (bits data 15 8) then some Ecp.BAD_PARAM
  else none

/-- A write to STOP_PORT (R541). -/
def State.stopPort (ini data : Nat) (s : State) : State :=
  if (stopPortFail data).isSome then s
  else
    let r := s.stopCmd ini (bits data 2 0) (bits data 15 8) (bitOf data 3) none
    r.1.puts [(STOP_PORT_RES_RESULT ini, r.2), (STOP_PORT_RES_BLOCKERS ini, 0)]

/-- A STOP_PORT write of one command by an initiator; writes from others are ignored (R541). -/
def State.stopPortRow (s : State) (cmd ini data : Nat) : State :=
  if Own.stopPort.names ini && bits data 2 0 == cmd then s.asWrite ini 0x40000900 (State.stopPort ini data) else s

/-- STOP_PORT_STOP (R516). -/
def execStopPortStop (ini data : Nat) (s : State) : Out := fin (s.stopPortRow 1 ini data)
/-- STOP_PORT_HOLD (R532). -/
def execStopPortHold (ini data : Nat) (s : State) : Out := fin (s.stopPortRow 2 ini data)
/-- STOP_PORT_RESUME (R533). -/
def execStopPortResume (ini data : Nat) (s : State) : Out := fin (s.stopPortRow 3 ini data)
/-- STOP_PORT_RELEASE (R535). -/
def execStopPortRelease (ini data : Nat) (s : State) : Out := fin (s.stopPortRow 4 ini data)
/-- STOP_PORT_FAULT_CLEAR (R539). -/
def execStopPortFaultClear (ini data : Nat) (s : State) : Out := fin (s.stopPortRow 5 ini data)

/-! ## Stop opcodes (R541, R542) -/

/-- The ECP status of a RESULT. -/
def resultStatus : Nat → Nat
  | 0 => Ecp.OK | 2 => Ecp.DENIED | 3 => Ecp.QUEUE_FULL | 4 => Ecp.NOT_ACTIVE | _ => Ecp.NOT_READY

/-- A stop opcode with a TARGET. -/
def State.ecpStopCmd (s : State) (sess cmd : Nat) (pay : List Nat) : State × EcpAns :=
  let t := leAt pay 0 1
  if !stopTargetOk t ∨ leAt pay 1 3 ≠ 0 then (s, .final Ecp.BAD_PARAM [])
  else
    let r := s.stopCmd (sessIni sess) cmd t false none
    (r.1, .final (resultStatus r.2) [])

/-- STOP (R516). -/
def execStop (sess tag : Nat) (pay : List Nat) (s : State) : Out :=
  fin (s.ecpRun 0x0800 sess tag pay (pay.length == 4) false (fun s => s.ecpStopCmd sess 1 pay))

/-- HOLD (R532). -/
def execHold (sess tag : Nat) (pay : List Nat) (s : State) : Out :=
  fin (s.ecpRun 0x0802 sess tag pay (pay.length == 4) true (fun s => s.ecpStopCmd sess 2 pay))

/-- RESUME (R533). -/
def execResume (sess tag : Nat) (pay : List Nat) (s : State) : Out :=
  fin (s.ecpRun 0x0803 sess tag pay (pay.length == 4) true (fun s => s.ecpStopCmd sess 3 pay))

/-- STOP_RELEASE: answered when the release is evaluated (R535). -/
def execStopRelease (sess tag : Nat) (pay : List Nat) (s : State) : Out :=
  fin (s.ecpRun 0x0801 sess tag pay (pay.length == 4) false (fun s =>
    if 2 ≤ leAt pay 0 1 ∨ leAt pay 1 3 ≠ 0 then (s, .final Ecp.BAD_PARAM [])
    else
      let r := s.stopCmd (sessIni sess) 4 0xFF (bitOf (leAt pay 0 1) 0) (some (sess, tag))
      if r.2 = 5 then (r.1, .final Ecp.NOT_READY []) else (r.1, .wait)))

/-- FAULT_CLEAR: answered when it is evaluated (R539). -/
def execFaultClear (sess tag : Nat) (s : State) : Out :=
  fin (s.ecpRun 0x0805 sess tag [] true false (fun s =>
    let r := s.stopCmd (sessIni sess) 5 0xFF false (some (sess, tag))
    if r.2 = 5 then (r.1, .final Ecp.NOT_READY []) else (r.1, .wait)))

/-- Members with MSTOP set. -/
def State.mstopCount (s : State) : Nat := (allAddrs.filter s.mstop).length

/-- The 32 bytes of STOP_STATUS (R542). -/
def State.stopStatus (s : State) : List Nat :=
  [s.get ROOK_STATE_STOP + 2 * s.get ROOK_STATE_HALTED + 4 * s.get ROOK_STATE_FAULT + 8 * s.get ROOK_STATE_RESERVE_LOW,
   s.get ROOK_STATE_SRC_LATCHED, s.blockers false, s.get ROOK_SEQ_SSEQ] ++ leBytes 4 s.faultWord ++
  [s.get LOOP_STATUS_OPEN, s.get ROOK_FAULT_LOOP, s.get RELAY_STATUS_DRIVE + 16 * s.get RELAY_STATUS_FB, s.mstopCount] ++
  leBytes 2 (s.get ROOK_CNT_STOP_EVENTS) ++ leBytes 2 (s.get ROOK_CNT_STOP_UNSENT) ++ leBytes 4 (s.get STOP_PLY_LO_PLY) ++
  leBytes 4 (s.get STOP_PLY_HI_PLY) ++ List.replicate 8 0

/-- STOP_STATUS (R542). -/
def execStopStatus (sess tag : Nat) (s : State) : Out :=
  fin (s.ecpRun 0x0804 sess tag [] true false (fun s =>
    if s.rookHeld then (s, .final Ecp.NOT_READY []) else (s, .final Ecp.OK s.stopStatus)))

end Sys2Proof.Machine
end

