-- ==== Sys2Proof/Machine/Mac.lean ====
section
/-!
DEFINITION. The coordinator's medium access (spec/13): slot tables, flocks, offers and releases, received uplinks and
association requests, and the field-link opcodes.
-/

namespace Sys2Proof.Machine

open R

/-! ## Owners of slots (R446, R448, R449) -/

/-- OWNER of an entry as it stands with the held writes. -/
def State.ownerEff (s : State) (b n q : Nat) : Nat :=
  match s.mac.held.find? (fun h => h.1 == b && h.2.1 == n && h.2.2.1 == q) with
  | some h => h.2.2.2
  | none => s.get (SLOT_OWNER (8 * b + n) q)

/-- An entry's OWNER written, with the SLOT commands that follow (R448). -/
def State.ownerApply (s : State) (b n q a : Nat) : State :=
  let old := s.get (SLOT_OWNER (8 * b + n) q)
  let s := s.put (SLOT_OWNER (8 * b + n) q) a
  let s := if old = 0 ∨ old = a then s else s.syncSlots old
  if a = 0 then s else s.syncSlots a

/-- The place of a lane in its slot plan now: the slot, or q = 10 j + s on the long superframe (R402). -/
def State.qNow (s : State) (n : Nat) : Nat :=
  if s.prof n = 0 then s.slotNow n else 10 * (s.time.k % 10) + s.slotNow n

/-- A write to an entry of the bank in force for the lane's current slot or the next one (R449). A group's OWNER is for
three slots. -/
def State.ownerHeld (s : State) (b n q : Nat) : Bool :=
  s.time.grid && s.get SLOT_CTRL_BANK == b &&
  (if s.prof n = 0 then [q] else [q, q + 1, q + 2]).any (fun x => x == s.qNow n || x == s.qNow n + 1)

/-- Apply or hold an OWNER write (R449); false where 16 writes are held already. -/
def State.ownerPut (s : State) (b n q a : Nat) : State × Bool :=
  let l := s.mac.held.filter (fun (h : Nat × Nat × Nat × Nat) => !(h.1 == b && h.2.1 == n && h.2.2.1 == q))
  if !s.ownerHeld b n q then (s.ownerApply b n q a, true)
  else if 16 ≤ l.length then (s.put SLOT_CTRL_SLOT_WR_REFUSED 1, false)
  else
    let l := l ++ [(b, n, q, a)]
    ({ s with mac := { s.mac with held := l } }.puts [(SLOT_CTRL_HELD, l.length), (SLOT_CTRL_SLOT_WR_DEFERRED, 1)], true)

/-- The member's record says that it supports a profile (R431). -/
def State.supports (s : State) (a prof : Nat) : Bool := bitOf (leAt (s.mem a).caps 7 1) prof

/-- The entries of a bank that address `a` owns, with the held writes. -/
def State.entriesOf (s : State) (b a : Nat) : List (Nat × Nat) :=
  (List.range 8).flatMap (fun n => ((ownerSlots (s.prof n) 1).filter (fun q => s.ownerEff b n q == a)).map (fun q => (n, q)))

/-- Another entry of a bank is address `a`'s, as it stands or as a held write will leave it. -/
def State.ownsOther (s : State) (b n q a : Nat) : Bool :=
  (List.range 8).any (fun m => (ownerSlots (s.prof m) 1).any (fun p =>
    (m, p) != (n, q) && (s.ownerEff b m p == a || s.get (SLOT_OWNER (8 * b + m) p) == a)))

/-- A write that R446 refuses. -/
def State.ownerRefused (s : State) (b n q a : Nat) : Bool :=
  a != 0 && (s.ownsOther b n q a || (s.memState a != 0 && !s.supports a (s.prof n)))

/-- A write of OWNER to entry `q` of a lane in a bank; answers its ECP status (R15, R446, R449). -/
def State.ownerWrite (s : State) (b n q a : Nat) : State × Nat :=
  if slotKind (s.prof n) q ≠ 1 ∨ groupSlot (s.prof n) q ≠ q then (s, Ecp.DENIED)
  else if a ≠ 0 ∧ !isAddr a then (s, Ecp.BAD_PARAM)
  else if s.ownerRefused b n q a then (s, Ecp.DENIED)
  else
    let r := s.ownerPut b n q a
    (r.1, if r.2 then Ecp.OK else Ecp.DENIED)

/-- SLOT_OWNER_WRITE: entry `q` of lane `n` in bank `b` (R449). -/
def execSlotOwnerWrite (ini b n q data : Nat) (s : State) : Out :=
  fin (if b < 2 ∧ n < 8 ∧ q < 100 then
    s.asWrite ini (0x40311000 + 0x1000 * b + 0x200 * n + 4 * q) (fun s => (s.ownerWrite b n q (data % 256)).1) else s)

/-- HELD_SLOT_WRITE_APPLY at a boundary, before the castlings (R449). -/
def State.applyHeld (s : State) : State :=
  if s.mac.held.isEmpty then s
  else
    let l := s.mac.held
    let s := { s with mac := { s.mac with held := [] } }
    let s := l.foldl (fun s h => s.ownerApply h.1 h.2.1 h.2.2.1 h.2.2.2) s
    s.put SLOT_CTRL_HELD 0

/-- BANK changes at a boundary: the LANE fields follow (R447). -/
def State.setBank (s : State) (b : Nat) : State := allAddrs.foldl State.syncSlots (s.put SLOT_CTRL_BANK b)

/-! ## Flocks (R437) -/

/-- A FLOCK register written: each member whose set changes is told. -/
def State.flockWrite (f w v : Nat) (s : State) : State :=
  let old := s.get (FLOCK_MEMBERS f w)
  let s := s.put (FLOCK_MEMBERS f w) v
  ((List.range 32).filter (fun j => bitOf old j != bitOf v j)).foldl
    (fun s j => s.sendCmd (32 * w + j + 1) 2 (leBytes 2 (s.flocksOf (32 * w + j + 1)))) s

/-- FLOCK_WRITE (R437). -/
def execFlockWrite (ini f w data : Nat) (s : State) : Out :=
  fin (if f < 16 ∧ w < 6 then s.asWrite ini (0x40310400 + 0x20 * f + 4 * w) (State.flockWrite f w (data % 2 ^ 32)) else s)

/-! ## Releasing an address (R435, R436) -/

/-- The MEMBER registers of a FREE address. -/
def State.clearMember (s : State) (a : Nat) : State :=
  s.puts [(MEMBER_W0_EUI a, 0), (MEMBER_W1_EUI a, 0), (MEMBER_W2_STATE a, 0), (MEMBER_W2_LANE a, 0), (MEMBER_W2_Q0 a, 0),
    (MEMBER_W2_Q1 a, 0), (MEMBER_W2_RSSI a, 0), (MEMBER_W3_CAPS a, 0)]

/-- The entries of an address in both banks cleared, by R449. -/
def State.clearEntries (s : State) (a : Nat) : State :=
  [0, 1].foldl (fun s b => (s.entriesOf b a).foldl (fun s e => (s.ownerPut b e.1 e.2 0).1) s) s

/-- The address is FREE from this ply on (R434). -/
def State.freeAddr (s : State) (a : Nat) : State :=
  let s := (s.clearMember a).delMem a
  { s with mac := { s.mac with freed := s.mac.freed.filter (fun (e : Nat × Nat) => e.1 ≠ a) ++ [(a, s.ply)] } }

/-- ADDRESS_RELEASE with a REASON (R359, R436, R471, R506): RELEASE is sent to the address once. -/
def State.releaseAddr (s : State) (a reason : Nat) : State :=
  if s.memState a = 0 then s
  else
    let c : MacCmd := { dst := a, dseq := (s.mem a).next, kind := 5, body := [reason] }
    let lane := s.get (MEMBER_W2_LANE a)
    let s := s.mpSend (.rel a (s.eui a))
    let s := ((s.releaseTasks a).releasePch a).clearEntries a
    let s := (List.range 16).foldl (fun s f => s.putBit (FLOCK_MEMBERS f ((a - 1) / 32)) ((a - 1) % 32) false) s
    let s := { s with fix := { s.fix with filters := s.fix.filters.filter (fun (e : Nat × Filter) => e.1 ≠ a) } }
    let s := s.freeAddr a
    { s with mac := { s.mac with once := s.mac.once ++ [(lane, c)] } }

/-- MEMBER_SILENCE_TIMEOUT: RELEASE_S seconds without a frame that passes R411 (R436). -/
def execMemberSilenceTimeout (a : Nat) (s : State) : Out :=
  fin (if isAddr a ∧ s.memState a = 2 ∧ (s.mem a).heard + s.get MAC_CTRL_RELEASE_S * 100000 ≤ s.ply then s.releaseAddr a 1 else s)

/-- OFFER_LAPSE: 20 superframes, or 3 long superframes, after the response (R435). -/
def execOfferLapse (a : Nat) (s : State) : Out :=
  fin (let n := if s.prof (s.get (MEMBER_W2_LANE a)) = 0 then 20 else 30
    if isAddr a ∧ s.memState a = 1 ∧ (s.mem a).respK + n ≤ s.time.k then
      ((s.clearEntries a).freeAddr a).bump MAC_CNT_D_ASSOC_LAPSE
    else s)

/-! ## Offers (R433, R434) -/

/-- An address has been FREE for 10 s (R434). -/
def State.freeLong (s : State) (a : Nat) : Bool :=
  s.memState a == 0 && (match s.mac.freed.find? (fun e => e.1 == a) with
    | some e => decide (e.2 + 1000000 ≤ s.ply)
    | none => true)

/-- The READY lanes whose profile a capability record names. -/
def State.lanesFor (s : State) (caps : List Nat) : List Nat :=
  (List.range 8).filter (fun n => s.laneReady n && bitOf (leAt caps 7 1) (s.prof n))

/-- The lanes below their limit (R401). -/
def State.roomy (s : State) (l : List Nat) : List Nat :=
  l.filter (fun n => decide (s.laneLoad (s.get SLOT_CTRL_BANK) n < s.laneRoom n))

/-- The lane with the fewest members, ties to the lower number. -/
def State.leastLane (s : State) (l : List Nat) : Option Nat :=
  l.foldl (fun b n => match b with
    | some m => if s.laneLoad (s.get SLOT_CTRL_BANK) n < s.laneLoad (s.get SLOT_CTRL_BANK) m then some n else b
    | none => some n) none

/-- The lowest uplink slot or group that is free in both banks. -/
def State.freeSlot (s : State) (n : Nat) : Option Nat :=
  (ownerSlots (s.prof n) (s.get (LANE_CFG_RATE n))).find? (fun q => s.ownerEff 0 n q == 0 && s.ownerEff 1 n q == 0)

/-- The boundary of the superframe, or long superframe, that carries the response to a request of boundary `k`
(R402, R428). -/
def respBoundary (prof k : Nat) : Nat := if prof = 0 then k + 1 else (k / 10 + 1) * 10

/-- A response queued. -/
def State.respond (s : State) (r : AssocResp) : State := { s with mac := { s.mac with resp := s.mac.resp ++ [r] } }

/-- The RESULT, and with 0 the lane and slot, of an offer to a record (R432, R434). -/
def State.offerPlace (s : State) (caps : List Nat) (addr : Option Nat) : Nat × Nat × Nat :=
  let l := s.lanesFor caps
  if l.isEmpty then (3, 0, 0)
  else if addr.isNone then (1, 0, 0)
  else match s.leastLane (s.roomy l) with
    | none => (2, 0, 0)
    | some n => match s.freeSlot n with
      | none => (2, 0, 0)
      | some q => (0, n, q)

/-- An offer of an address: the MEMBER entry and both bank entries, the record, LAST unsynced, MEMBER_CFO 0 (R398, R433,
R434). -/
def State.offer (s : State) (a n q respK : Nat) (eui caps : List Nat) : State :=
  let m : MacMember := { caps := caps, told0 := (n, q), told1 := (n, q), respK := respK, offerPly := s.ply, emptyPly := s.ply }
  let s := (s.setMem a m).puts [(MEMBER_W0_EUI a, leAt eui 0 4), (MEMBER_W1_EUI a, leAt eui 4 4), (MEMBER_W2_STATE a, 1),
    (MEMBER_W2_LANE a, n), (MEMBER_W2_Q0 a, q), (MEMBER_W2_Q1 a, q), (MEMBER_W2_RSSI a, 0), (MEMBER_W3_CAPS a, leAt caps 8 4)]
  let s := { s with mac := { s.mac with freed := s.mac.freed.filter (fun (e : Nat × Nat) => e.1 ≠ a) } }
  let s := { s with radio := { s.radio with mcfo := s.radio.mcfo.filter (fun (e : Nat × Rat) => e.1 ≠ a) } }.put (MEMBER_CFO_CFO a) 0
  ((s.ownerPut 0 n q a).1.ownerPut 1 n q a).1

/-- A new offer, or its refusal, in answer to a request; `a` is the address that is offered (R434). -/
def State.newOffer (s : State) (lane k : Nat) (eui caps : List Nat) (a : Option Nat) : State :=
  let rk := respBoundary (s.prof lane) k
  let p := s.offerPlace caps a
  if p.1 = 0 then
    ((s.offer (a.getD 0) p.2.1 p.2.2 rk eui caps)).respond
      { lane := lane, k := rk, eui := eui, result := 0, addr := a.getD 0, slane := p.2.1, q := p.2.2 }
  else s.respond { lane := lane, k := rk, eui := eui, result := p.1 }

/-- The address that an EUI holds. -/
def State.addrOf (s : State) (eui : List Nat) : Option Nat := allAddrs.find? (fun a => s.memState a != 0 && s.eui a == eui)

/-- A valid request from an EUI (R433). -/
def State.assocReq (s : State) (lane k : Nat) (eui caps : List Nat) : State :=
  match s.addrOf eui with
  | none => s.newOffer lane k eui caps (allAddrs.find? s.freeLong)
  | some a =>
    if s.memState a = 1 then
      let rk := respBoundary (s.prof lane) k
      let m := s.mem a
      let e := s.entryOf (s.get SLOT_CTRL_BANK) a
      ((s.setMem a { m with respK := rk, dup := min (m.dup + 1) 0xFFFF }).bump MAC_CNT_B_DUP).respond
        { lane := lane, k := rk, eui := eui, result := 0, addr := a, slane := e.1, q := e.2 }
    else (s.releaseAddr a 2).newOffer lane k eui caps (some a)

/-! ## Received frames -/

/-- The frames waiting for R411, the first taken off. -/
def State.rxTake (s : State) : Option RxFrame × State :=
  (s.mac.rx.head?, { s with mac := { s.mac with rx := s.mac.rx.tail } })

/-- The nonce of a data-part frame under the network key (R409). -/
def nwkNonce (sfn slot lane iv : Nat) (dir : Bool) (src : Nat) : List Nat :=
  leBytes 4 sfn ++ [slot, lane + 8 * iv + 32 * b2n dir, src] ++ List.replicate 6 0

/-- The nonce of an association frame under the join key (R410). -/
def joinNonce (k lane : Nat) (dir : Bool) (part : Nat) (eui : List Nat) : List Nat :=
  leBytes 4 k ++ [lane + 16 + 32 * b2n dir + 64 * part + 128] ++ eui

/-- An MPDU split into its associated data, encrypted part and MIC (R405, R408); none where its lengths do not fit. -/
def splitMpdu (m : List Nat) : Option (List Nat × List Nat × List Nat) :=
  let enc := if bitOf (leAt m 0 1) 4 then leAt m 5 1 else 0
  let h := if bitOf (leAt m 0 1) 4 then 6 else 5
  if m.length < h + enc + 8 then none
  else
    let n := m.length - 8 - enc
    some (m.take n, (m.drop n).take enc, m.drop (m.length - 8))

/-- The plaintext of an MPDU without its MIC, or none where the MIC is wrong (R408). -/
def openMpdu (key nonce m : List Nat) : Option (List Nat) :=
  match splitMpdu m with
  | none => none
  | some (aad, enc, mic) =>
    let p := ccmCrypt key nonce enc
    if ccmMic key nonce aad p = mic then some (aad ++ p) else none

/-- The boundary that R410 names for a lane: of the superframe, or of its long superframe. -/
def joinK (prof k : Nat) : Nat := if prof = 0 then k else k / 10 * 10

/-- A request is sent in this superframe: k even, or m even (R402, R428). -/
def reqSlot (prof k slot : Nat) : Bool :=
  slot == 2 && (if prof = 0 then k % 2 == 0 else k % 10 == 0 && k / 10 % 2 == 0)

/-- A capability record without a reserved encoding (R16, R431). -/
def capsOk (c : List Nat) : Bool :=
  c.length == 24 && decide (leAt c 6 1 ≤ 4) && decide (1 ≤ leAt c 12 1) && decide (leAt c 20 1 ≤ 4)

/-- ASSOC_REQ_RECEIVE: the frame that came in an association slot (R410, R411, R428, R430, R433). -/
def execAssocReqReceive (s : State) : Out :=
  fin (match s.rxTake with
    | (none, _) => s
    | (some f, t) =>
      let prof := s.prof f.lane
      if !assocSlot prof f.k f.slot then s
      else
        let m := f.mpdu
        let h := if bitOf (leAt m 0 1) 4 then 6 else 5
        if !reqSlot prof f.k f.slot ∨ leAt m 0 1 % 16 ≠ 3 ∨ leAt m 1 1 ≠ 0 ∨ leAt m 2 1 ≠ 0xFF ∨ leAt m 3 2 ≠ 0 ∨ m.length ≠ h + 40
        then t.bump MAC_CNT_A_MALFORMED
        else match s.useKey (s.get MAC_KEYS_JOIN_KEY_SLOT) 1 2 with
          | none => ((t.keyAbort (s.get MAC_KEYS_JOIN_KEY_SLOT) 1 2).bump MAC_CNT_A_MIC_FAIL).laneCount f.lane
              (fun c => { c with micFail := min (c.micFail + 1) 255 })
          | some key =>
            let eui := (m.drop h).take 8
            match openMpdu key (joinNonce (joinK prof f.k) f.lane false 0 eui) m with
            | none => (t.bump MAC_CNT_A_MIC_FAIL).laneCount f.lane (fun c => { c with micFail := min (c.micFail + 1) 255 })
            | some b =>
              let caps := (b.drop (h + 8)).take 24
              if !capsOk caps then t.bump MAC_CNT_A_MALFORMED
              else
                let s := t.bump MAC_CNT_D_ASSOC_REQ
                if s.bit PAIR_STATUS_ACTIVE && s.bit MAC_CTRL_ASSOC_EN && s.bit MAC_CTRL_NET_EN then s.assocReq f.lane f.k eui caps
                else s)

/-! ## Uplinks (R411, R415 to R417, R422) -/

/-- A report is well formed (R417). -/
def rptOk (b : List Nat) : Bool :=
  let d := b.drop 1
  match leAt b 0 1 with
  | 1 => capsOk d
  | 2 => d.length == 1
  | 3 => doneOk d
  | 4 => dockOk d
  | 5 => d.isEmpty && !b.isEmpty
  | _ => false

/-- An uplink item is well formed on a profile, in a part (R406, R416, R417). -/
def upItemOk (prof part : Nat) (i : Nat × List Nat) : Bool :=
  if i.1 = 0x20 then prof == 0
  else if i.1 = 0x21 then prof != 0 && decide (2 ≤ i.2.length ∧ leAt i.2 0 1 ≤ 165)
  else if i.1 = 0x24 then rptOk i.2 && part == 0
  else false

/-- A parsed UPLINK. -/
structure Uplink where
  addr : Nat
  dst : Nat
  seq : Nat
  dack : Nat
  mstate : Nat
  items : List (Nat × List Nat)
  deriving DecidableEq, Repr

/-- PART of an UPLINK (R415). -/
def Uplink.part (u : Uplink) : Nat := u.mstate / 16 % 4

/-- The body of an UPLINK after its MIC, or none where it is not well formed (R16, R404 to R406, R415). -/
def parseUplink (prof : Nat) (b : List Nat) : Option Uplink :=
  let h := if bitOf (leAt b 0 1) 4 then 6 else 5
  let part := leAt b (h + 2) 1 / 16 % 4
  if b.length < h + 3 ∨ 3 ≤ part ∨ (prof = 0 ∧ part ≠ 0) ∨ (leAt b 2 1 ≠ 0xE0 ∧ leAt b 2 1 ≠ 0xE1) then none
  else match parseItems b.length (b.drop (h + 3)) with
    | none => none
    | some l =>
      if l.all (upItemOk prof part) then
        some { addr := leAt b 1 1, dst := leAt b 2 1, seq := leAt b 3 2, dack := leAt b h 2, mstate := leAt b (h + 2) 1, items := l }
      else none

/-- A CMD item that DACK has reached: SLOT, ORDER and SEAL take effect (R448, R464, R482). -/
def State.cmdAcked (a : Nat) (s : State) (c : MacCmd) : State :=
  let m := s.mem a
  let e := (leAt c.body 1 1, if leAt c.body 2 1 = 0xFF then 127 else leAt c.body 2 1)
  let s := if c.kind = 1 then s.setMem a (if leAt c.body 0 1 = 0 then { m with told0 := e } else { m with told1 := e }) else s
  State.trackAcked a (State.orderAcked a s c) c

/-- DACK from a member that takes this unit as active (R425, R426). -/
def State.takeDack (s : State) (a dack : Nat) : State :=
  let m := s.mem a
  let r := dackTake dack m.cmds
  r.1.foldl (State.cmdAcked a) (s.setMem a { m with cmds := r.2 })

/-- An address becomes ACTIVE at its first UPLINK (R435). -/
def State.activate (s : State) (a : Nat) : State :=
  if s.memState a = 1 then
    ((s.setMem a { s.mem a with emptyPly := s.ply }).put (MEMBER_W2_STATE a) 2).mpSend (.act a (s.eui a))
  else s

/-- One delivered report (R417, R436, R470, R503). REASON of the RELEASE that answers a LEAVE is left open (log 4). -/
def State.deliver (a : Nat) (s : State) (i : Nat × List Nat) : State :=
  if i.1 ≠ 0x24 ∨ s.memState a = 0 then s
  else
    let d := i.2.drop 1
    match leAt i.2 0 1 with
    | 1 => (s.setMem a { s.mem a with caps := d }).put (MEMBER_W3_CAPS a) (leAt d 8 4)
    | 3 => s.doneReport a d
    | 4 => State.dockReport a d s
    | 5 => (s.useFree).releaseAddr a (s.freeVal % 256)
    | _ => s

/-- The SEQ after `q`. -/
def seqNext (q : Nat) : Nat := if 65535 ≤ q then 1 else q + 1

/-- RPT_SEQUENCE_CHECK (R422): the reports delivered or withheld, the acknowledgement noted. -/
def State.takeReports (s : State) (f : RxFrame) (u : Uplink) : State :=
  let m := s.mem u.addr
  let ack := (f.lane, if s.prof f.lane = 0 then f.slot else (groupSlot 1 (10 * (f.k % 10) + f.slot) / 3 - 1))
  if u.seq = 0 then s
  else if m.last.isNone ∨ m.last.map seqNext = some u.seq then
    let s := s.setMem u.addr { m with last := some u.seq }
    let s := { s with mac := { s.mac with acks := s.mac.acks ++ [ack] } }
    u.items.foldl (State.deliver u.addr) s
  else if m.last = some u.seq then
    let s := (s.setMem u.addr { m with dup := min (m.dup + 1) 0xFFFF }).bump MAC_CNT_B_DUP
    { s with mac := { s.mac with acks := s.mac.acks ++ [ack] } }.laneCount f.lane (fun c => { c with dup := min (c.dup + 1) 255 })
  else s.bump MAC_CNT_B_STALE

/-- How long after the end of slot `slot` of boundary `k` the clock is at the start of the ply, in ns. -/
def State.slotLate (s : State) (n k slot : Nat) : Int :=
  (s.sinceNs : Int) - (s.slotEnd n slot).getD 0 + ((s.time.k : Int) - k) * 100000000

/-- A complete COR of an address for the epoch of boundary `k` passes on to R328 (R26, R362); one that comes between a
takeover and the end of the load is discarded (R563). -/
def State.takeCor (s : State) (a k : Nat) (late : Int) (cor : List Nat) : State :=
  if s.pair.idle then s
  else
    let e := s.startOf k
    match s.corAccept a e.1 e.2 cor with
    | (s, none) => s
    | (s, some c) => s.trkNew (({ s with mac := { s.mac with corOk := s.mac.corOk ++ [a] } }).corEnqueue a late c)

/-- The parts of a COR joined in ascending order from OFFSET 0, or none where one is missing (R416). -/
def joinParts : List (Nat × List Nat) → List Nat → Option (List Nat)
  | [], acc => some acc
  | p :: t, acc => if p.1 = acc.length then joinParts t (acc ++ p.2) else none

/-- A COR_PART item (R416). -/
def State.takePart (s : State) (a k : Nat) (late : Int) (b : List Nat) : State :=
  let m := s.mem a
  let old := if m.partM = k / 10 ∧ m.total = leAt b 0 1 then m.parts else []
  let l := old ++ [(leAt b 1 1, b.drop 2)]
  let m := { m with partM := k / 10, total := leAt b 0 1, parts := l }
  match joinParts l [] with
  | some c => if c.length = leAt b 0 1 then (s.setMem a { m with parts := [], total := 0 }).takeCor a (k / 10 * 10) late c else s.setMem a m
  | none => s.setMem a m

/-- A COR or COR_PART item; every SEQ lets it pass (R422). -/
def State.takeCorItem (a k : Nat) (late : Int) (s : State) (i : Nat × List Nat) : State :=
  if s.memState a = 0 then s
  else if i.1 = 0x20 then s.takeCor a k late i.2
  else if i.1 = 0x21 then s.takePart a k late i.2
  else s

/-- What the last frame of a member that passed R411 leaves. -/
def State.heardFrom (s : State) (f : RxFrame) (u : Uplink) : State :=
  let m := s.mem u.addr
  let s := s.setMem u.addr { m with mstate := u.mstate, lastSfn := (s.sfnAt f.k).getD 0xFFFFFFFF, heard := s.ply }
  s.put (MEMBER_W2_RSSI u.addr) (usgn 8 f.rssi)

/-- STOP_REQ reports go to Rook on the active and the standby unit, whatever the SEQ (R517). -/
def State.stopReqs (s : State) (u : Uplink) : State :=
  u.items.foldl (fun s i => if i.1 = 0x24 ∧ leAt i.2 0 1 = 2 then s.memberStopReq u.addr else s) s

/-- An UPLINK that has passed steps 1 to 4 of R411, on the active unit (R415 to R417, R422, R505). -/
def State.takeUplink (s : State) (f : RxFrame) (u : Uplink) : State :=
  let s := (s.activate u.addr).heardFrom f u
  let s := if u.dst = 0xE0 + s.unitBit then s.takeDack u.addr u.dack else s
  let s := if u.mstate % 4 ≠ 0 then s.stopMember u.addr else s
  let s := u.items.foldl (State.takeCorItem u.addr f.k (s.slotLate f.lane f.k f.slot)) s
  s.takeReports f u

/-- A digest of the partner passes the checks of R411 or is counted; the unit itself uses nothing of it. -/
def State.takeDigest (s : State) (f : RxFrame) (cut : Nat) : State :=
  let src := leAt f.mpdu 1 1
  let h := if bitOf (leAt f.mpdu 0 1) 4 then 6 else 5
  let bad := (s.bump MAC_CNT_A_MIC_FAIL).laneCount f.lane (fun c => { c with micFail := min (c.micFail + 1) 255 })
  match s.useKey (s.get MAC_KEYS_NWK_KEY_SLOT) 1 2, s.sfnAt f.k with
  | some key, some sfn =>
    (match openMpdu key (nwkNonce sfn f.slot f.lane 2 true src) f.mpdu with
    | none => bad
    | some p =>
      let b := p.drop h
      match parseItems b.length (b.drop 5) with
      | some l => if leAt b 4 1 = cut ∧ l.all (downItemOk (s.prof f.lane) cut) then s else s.bump MAC_CNT_A_MALFORMED
      | none => s.bump MAC_CNT_A_MALFORMED)
  | _, _ => bad.keyAbort (s.get MAC_KEYS_NWK_KEY_SLOT) 1 2

/-- UPLINK_RECEIVE: the next frame of a data part that is no association slot (R411). A standby unit counts it and hands
on its STOP_REQ (R32). -/
def execUplinkReceive (s : State) : Out :=
  fin (match s.rxTake with
    | (none, _) => s
    | (some f, t) =>
      let prof := s.prof f.lane
      let q := if prof = 0 then f.slot else 10 * (f.k % 10) + f.slot
      let src := leAt f.mpdu 1 1
      if assocSlot prof f.k f.slot then s
      else if (slotCut prof q).isSome ∧ leAt f.mpdu 0 1 % 16 = 1 ∧ src = 0xE0 + (1 - s.unitBit) then t.takeDigest f ((slotCut prof q).getD 0)
      else if slotKind prof q ≠ 1 ∨ leAt f.mpdu 0 1 % 16 ≠ 2 then t.bump MAC_CNT_A_MALFORMED
      else if src = 0 ∨ s.owner (s.get SLOT_CTRL_BANK) f.lane q ≠ src then
        (t.bump MAC_CNT_C_STRAY).laneCount f.lane (fun c => { c with stray := min (c.stray + 1) 255 })
      else match s.useKey (s.get MAC_KEYS_NWK_KEY_SLOT) 1 2, s.sfnAt f.k with
        | some key, some sfn =>
          (match openMpdu key (nwkNonce sfn f.slot f.lane 2 false src) f.mpdu with
          | none => (t.bump MAC_CNT_A_MIC_FAIL).laneCount f.lane (fun c => { c with micFail := min (c.micFail + 1) 255 })
          | some b => match parseUplink prof b with
            | none => t.bump MAC_CNT_A_MALFORMED
            | some u =>
              let s := t.laneCount f.lane (fun c => { c with upOk := min (c.upOk + 1) 255, rssiMin := if f.rssi < c.rssiMin then f.rssi else c.rssiMin })
              let s := { s with mac := { s.mac with upFrom := s.mac.upFrom ++ [u.addr] } }
              let s := s.stopReqs u
              if s.bit PAIR_STATUS_ACTIVE then s.takeUplink f u else s)
        | _, _ => ((t.keyAbort (s.get MAC_KEYS_NWK_KEY_SLOT) 1 2).bump MAC_CNT_A_MIC_FAIL).laneCount f.lane
            (fun c => { c with micFail := min (c.micFail + 1) 255 }))

/-! ## Field-link opcodes (R451) -/

/-- The first multiple of 10 from `k` on. -/
def ceil10 (k : Nat) : Nat := (k + 9) / 10 * 10

/-- Every address is released, and counts as freed now (R434, R436). -/
def State.releaseAll (s : State) (reason : Nat) : State :=
  let s := allAddrs.foldl (fun s a => s.releaseAddr a reason) s
  { s with mac := { s.mac with freed := allAddrs.map (fun a => (a, s.ply)) } }

/-- K0 taken into NET_K0 (R685). -/
def State.setK0 (s : State) (k : Nat) : State :=
  s.puts [(NET_K0_LO_K0, k % 2 ^ 32), (NET_K0_HI_K0, k / 2 ^ 32), (NET_K0_HI_VALID, 1)]

/-- NET_FORM (R451, R549, R685). -/
def execNetForm (sess tag : Nat) (s : State) : Out :=
  fin (s.ecpRun 0x0500 sess tag [] true true (fun s =>
    if s.bit MAC_CTRL_NET_EN then (s, .final Ecp.DENIED [])
    else if !s.time.grid then (s, .final Ecp.NOT_READY [])
    else
      let k := ceil10 (s.time.k + 10)
      (((s.releaseAll 3).setK0 k).put PAIR_CTR_CTR 1, .final Ecp.OK (leBytes 8 k))))

/-- The 48 bytes of MEMBER_GET (R451). -/
def State.memberBytes (s : State) (a : Nat) : List Nat :=
  if s.memState a = 0 then List.replicate 48 0
  else
    let m := s.mem a
    s.eui a ++ [s.memState a, s.get (MEMBER_W2_LANE a), s.get (MEMBER_W2_Q0 a), s.get (MEMBER_W2_Q1 a),
      s.get (MEMBER_W2_RSSI a), m.mstate] ++ leBytes 2 (m.last.getD 0) ++ (m.caps ++ List.replicate (24 - m.caps.length) 0) ++
      leBytes 4 m.lastSfn ++ leBytes 2 m.dup ++ [0, 0]

/-- MEMBER_GET (R451). -/
def execMemberGet (sess tag : Nat) (pay : List Nat) (s : State) : Out :=
  fin (s.ecpRun 0x0501 sess tag pay (pay.length == 4) true (fun s =>
    let a := leAt pay 0 1
    if !isAddr a ∨ leAt pay 1 3 ≠ 0 then (s, .final Ecp.BAD_PARAM []) else (s, .final Ecp.OK (s.memberBytes a))))

/-- MEMBER_RELEASE (R436, R451). -/
def execMemberRelease (sess tag : Nat) (pay : List Nat) (s : State) : Out :=
  fin (s.ecpRun 0x0502 sess tag pay (pay.length == 4) true (fun s =>
    let a := leAt pay 0 1
    if !isAddr a ∨ leAt pay 1 3 ≠ 0 then (s, .final Ecp.BAD_PARAM []) else (s.releaseAddr a 0, .final Ecp.OK [])))

/-- The register of a flock after FLOCK_SET on its word `w`. -/
def State.flockNew (s : State) (f op w : Nat) (l : List Nat) : Nat :=
  let mask := (l.filter (fun a => (a - 1) / 32 == w)).foldl (fun v a => setBit v ((a - 1) % 32)) 0
  let old := s.get (FLOCK_MEMBERS f w)
  if op = 0 then mask else if op = 1 then old ||| mask else old - (old &&& mask)

/-- FLOCK_SET (R437, R451). -/
def execFlockSet (sess tag : Nat) (pay : List Nat) (s : State) : Out :=
  fin (s.ecpRun 0x0503 sess tag pay (decide (4 ≤ pay.length) && pay.length == 4 + leAt pay 2 1) true (fun s =>
    let f := leAt pay 0 1
    let op := leAt pay 1 1
    let l := pay.drop 4
    if 16 ≤ f ∨ 3 ≤ op ∨ 192 < leAt pay 2 1 ∨ leAt pay 3 1 ≠ 0 ∨ !l.all isAddr then (s, .final Ecp.BAD_PARAM [])
    else ((List.range 6).foldl (fun s w => State.flockWrite f w (s.flockNew f op w l) s) s, .final Ecp.OK [])))

/-- SLOT_SET (R446, R449, R451). -/
def execSlotSet (sess tag : Nat) (pay : List Nat) (s : State) : Out :=
  fin (s.ecpRun 0x0504 sess tag pay (pay.length == 4) true (fun s =>
    let b := leAt pay 0 1
    let n := leAt pay 1 1
    let q := leAt pay 2 1
    if 2 ≤ b ∨ 8 ≤ n ∨ 100 ≤ q then (s, .final Ecp.BAD_PARAM [])
    else
      let r := s.ownerWrite b n q (leAt pay 3 1)
      (r.1, .final r.2 [])))

end Sys2Proof.Machine
end

