-- ==== Sys2Proof/Machine/Air.lean ====
section
/-!
DEFINITION. Frames on air (spec/12, spec/13, spec/16): what a lane sends at each of its decision points, and what it does
with a frame it receives.
-/

namespace Sys2Proof.Machine

open R

/-! ## Shifts (R298, R301, R414) -/

/-- The first Bellwether sent after a step schedules the shift: S is 8 more than its SFN (R298, R301). -/
def State.shiftSchedule (s : State) (sfn : Nat) : State :=
  if s.time.shiftWait then
    { s with time := { s.time with shiftWait := false, shiftPhi := s.getS GRID_PHASE_PHI } }.put SHIFT_SFN_S (sfn + 8)
  else s

/-- Superframe SFN announces the shift (R298, R414). -/
def State.shiftAnn (s : State) (sfn : Nat) : Bool :=
  s.shiftSet && decide (s.get SHIFT_SFN_S ≤ sfn + 8 ∧ sfn ≤ s.get SHIFT_SFN_S)

/-! ## Sending (R383, R390 to R393, R408) -/

/-- A sealed data-part MPDU: MAC header, body, the last `enc` bytes encrypted, MIC (R405, R408). -/
def sealMpdu (key nonce : List Nat) (typ src : Nat) (body : List Nat) (enc : Nat) : List Nat :=
  let p := [typ + (if enc = 0 then 0 else 16), src, 0xFF, 0, 0] ++ (if enc = 0 then [] else [enc]) ++ body
  let n := p.length - enc
  p.take n ++ ccmCrypt key nonce (p.drop n) ++ ccmMic key nonce (p.take n) (p.drop n)

/-- The largest MPDU of an interval of lane `n` (R383). -/
def State.mpduMax (s : State) (n iv : Nat) : Nat :=
  psduMax (s.prof n) (s.get (LANE_CFG_RATE n)) iv - psduLen (s.prof n) 0

/-- The bytes of a frame on air: preamble, sync word, and the whitened PSDU (R380, R381). -/
def airBytes (prof rate iv : Nat) (mpdu : List Nat) : List Nat :=
  (if prof = 0 then List.replicate (if laneRate 0 rate iv = 40 then 8 else 4) 0x55 ++ leBytes 4 0x4D7A38E5
  else List.replicate (if iv < 2 then 2 else 4) 0x55 ++ leBytes 2 0xB2E5) ++ whiten (psduOf prof mpdu)

/-- A frame as lane `n` sends it, at the power of R393, shifted by −LO_OFS, with the transmit imbalance corrected (R380, R382, R393, R398,
R400). -/
def State.airTx (s : State) (n slot iv ch : Nat) (mpdu : List Nat) : AirTx :=
  { lane := n, slot := slot, iv := iv, kHz := chanKHz (s.prof n) ch, rate := 50 * laneRate (s.prof n) (s.get (LANE_CFG_RATE n)) iv
    power := s.power n ch, shift := -(s.lane n).lo, gain := s.getS (LANE_TXIQ_TX_GAIN n), phase := s.getS (LANE_TXIQ_TX_PHASE n)
    bytes := airBytes (s.prof n) (s.get (LANE_CFG_RATE n)) iv mpdu }

/-- Send a frame on a lane: not sent where it exceeds its interval or an account refuses it; otherwise charged and sent
at the power of R393 (R383, R391, R392). -/
def State.transmit (s : State) (n slot iv : Nat) (c : Cls) (ch : Nat) (mpdu : List Nat) : State × Bool :=
  let prof := s.prof n
  let rate := s.get (LANE_CFG_RATE n)
  if s.mpduMax n iv < mpdu.length then ((s.bump (LANE_CNT_OVERSIZE n)).record .laneOversize [n], false)
  else
    let r := s.budget c prof ch (txenUs prof rate iv (psduLen prof mpdu.length))
    if r.2 then (r.1.reserveLow.emit (.air (s.airTx n slot iv ch mpdu)), true)
    else (r.1.laneCount n (fun c => { c with refused := min (c.refused + 1) 255 }), false)

/-- The unit may send EFL frames in superframe `k` on lane `n`; answers the SFN and the channel (R80, R379, R387,
R685). -/
def State.onAir (s : State) (n k slot : Nat) : Option (Nat × Nat) :=
  if s.laneReady n && !s.clk.txEnded && !(s.clk.txEndPending && decide (s.time.k < k)) && !s.domOff 8 then
    match s.sfnAt k, s.chanOf n k slot with
    | some sfn, some ch => some (sfn, ch)
    | _, _ => none
  else none

/-! ## Stop-window frames (R407, R525, R526, R528) -/

/-- One repetition of a lane counted off. -/
def countOff (n : Nat) (l : List (Nat × Nat)) : List (Nat × Nat) := l.map (fun e => if e.1 = n then (e.1, e.2 - 1) else e)

/-- Lane `n` has a repetition left. -/
def leftOn (n : Nat) (l : List (Nat × Nat)) : Bool := l.any (fun e => e.1 == n && e.2 != 0)

/-- The first frame with a repetition left on a lane, and the list with that one counted off; a frame with none left on
any lane goes. -/
def takeFrame (n : Nat) : List StopFrame → Option StopFrame × List StopFrame
  | [] => (none, [])
  | f :: t =>
    if leftOn n f.left then
      let l := countOff n f.left
      (some f, if l.any (fun e => e.2 != 0) then { f with left := l } :: t else t)
    else let r := takeFrame n t; (r.1, f :: r.2)

/-- STOP_WINDOW_FRAME_SELECT: CMD, SSEQ and TARGET of the frame due on lane `n`, its repetition counted (R525, R526). -/
def State.stopSelect (s : State) (n : Nat) : State × Option (List Nat) :=
  let q := s.get ROOK_SEQ_SSEQ
  if leftOn n s.rook.rep then (s.withRook (fun r => { r with rep := countOff n r.rep }), some [1, q, 0xFF])
  else match takeFrame n s.rook.mstops with
    | (some f, l) => (s.withRook (fun r => { r with mstops := l }), some [1, q, f.target])
    | (none, _) => match takeFrame n s.rook.hr with
      | (some f, l) => (s.withRook (fun r => { r with hr := l }), some [f.cmd, f.sseq.getD 0, f.target])
      | (none, _) => (s, none)

/-- The decision of a unit's own stop sub-window (R525, R528). -/
def State.decideStop (s : State) (n slot iv k : Nat) : State :=
  if s.rookHeld then s
  else match s.stopSelect n with
    | (s, none) => s
    | (s, some body) =>
      let lost := s.bump ROOK_CNT_STOP_UNSENT
      match s.onAir n k slot, s.useKey (s.get MAC_KEYS_NWK_KEY_SLOT) 1 2 with
      | some (sfn, ch), some key =>
        let mic := ccmMic key (nwkNonce sfn slot n iv true (0xE0 + s.unitBit)) body []
        let r := s.transmit n slot iv .stop ch (body ++ mic)
        if r.2 then r.1 else r.1.bump ROOK_CNT_STOP_UNSENT
      | some _, none => lost.keyAbort (s.get MAC_KEYS_NWK_KEY_SLOT) 1 2
      | none, _ => lost

/-! ## Items of frames (R406, R414, R421) -/

/-- Send a data-part frame of this unit under the network key. -/
def State.sendNwk (s : State) (n slot : Nat) (c : Cls) (sfn ch typ : Nat) (body : List Nat) (enc : Nat) : State × Bool :=
  match s.useKey (s.get MAC_KEYS_NWK_KEY_SLOT) 1 2 with
  | none => (s.keyAbort (s.get MAC_KEYS_NWK_KEY_SLOT) 1 2, false)
  | some key =>
    let u := 0xE0 + s.unitBit
    s.transmit n slot ivData c ch (sealMpdu key (nwkNonce sfn slot n ivData true u) typ u body enc)

/-- The HOP_UPDATE part without keys, of a pending apply (R421). -/
def State.hopPart1 (s : State) (h : HopSet) (t : Nat) : List Nat :=
  MacCmd.item { dst := 0xFF, dseq := s.radio.hopSeq, kind := 4
                body := leBytes 2 h.ver ++ leBytes 4 t ++ [h.lanes, 1] ++ leBytes 10 (h.excl.getD 0 0) ++
                  leBytes 5 (h.excl.getD 1 0) ++ leBytes 8 (h.excl.getD 2 0) }

/-- The HOP_UPDATE part with KEY and IV, its last 32 bytes encrypted; none where the key slot releases no key (R421). -/
def State.hopPart0 (s : State) (h : HopSet) (t : Nat) : Option (List Nat) :=
  (s.useKey h.keySlot 1 2).map (fun key => MacCmd.item
    { dst := 0xFF, dseq := dseqNext s.radio.hopSeq, kind := 4, body := leBytes 2 h.ver ++ leBytes 4 t ++ [h.lanes, 0] ++ key ++ leBytes 16 h.iv })

/-- CMD items taken in order while they fit: the items with their sendings counted, the bytes, the room left (R426). -/
def fillCmds : Nat → List MacCmd → List MacCmd × List Nat × Nat
  | room, [] => ([], [], room)
  | room, c :: t =>
    if c.item.length ≤ room then
      let r := fillCmds (room - c.item.length) t
      ({ c with sends := c.sends + 1 } :: r.1, c.item ++ r.2.1, r.2.2)
    else (c :: t, [], room)

/-- The CMD items of one member, and LINK_STALL after 30 sendings without acknowledgement (R426). -/
def State.fillMember (x : State × List Nat × Nat) (a : Nat) : State × List Nat × Nat :=
  let m := x.1.mem a
  let r := fillCmds x.2.2 m.cmds
  let stall := (r.1.filter (fun c => c.sends == 30)).filter (fun c => (m.cmds.any (fun d => d.dseq == c.dseq && d.sends == 29)))
  let s := stall.foldl (fun (s : State) c => s.record .linkStall ([a] ++ leBytes 2 c.dseq ++ [c.kind])) (x.1.setMem a { m with cmds := r.1 })
  (s, x.2.1 ++ r.2.1, r.2.2)

/-- The RELEASE items of a lane, each sent once (R436). -/
def State.fillOnce (s : State) (n room : Nat) : State × List Nat × Nat :=
  let mine := (s.mac.once.filter (fun e => e.1 == n)).map (·.2)
  let r := fillCmds room mine
  let rest := r.1.filter (fun c => c.sends == 0)
  let l := s.mac.once.filter (fun (e : Nat × MacCmd) => e.1 ≠ n) ++ rest.map (fun c => (n, c))
  ({ s with mac := { s.mac with once := l } }, r.2.1, r.2.2)

/-- Members served on a lane, ascending. -/
def State.laneMembers (s : State) (n : Nat) : List Nat :=
  allAddrs.filter (fun a => s.memState a != 0 && s.get (MEMBER_W2_LANE a) == n)

/-- The CMD items of a digest of a lane: RELEASE items, then each member's in DSEQ order (R418, R419, R426). -/
def State.fillLane (s : State) (n room : Nat) : State × List Nat × Nat :=
  (s.laneMembers n).foldl State.fillMember (s.fillOnce n room)

/-! ## The Bellwether (R413, R414, R552) -/

/-- FLAGS of a Bellwether. -/
def State.bellFlags (s : State) (sfn : Nat) : Nat :=
  let act := s.bit PAIR_STATUS_ACTIVE
  b2n (!s.stopped) + 2 * b2n act + 4 * (if act then s.get SLOT_CTRL_BANK else s.pair.copyBank) + 8 * b2n (s.shiftAnn sfn) +
  16 * b2n s.radio.pend.isSome + 256 * s.get OBS_CTRL_RATE + 2048 * s.get TIME_STATUS_VALID

/-- The addresses OFFERED or ACTIVE, bit a - 1 for address a. -/
def State.addrMap (s : State) : Nat := allAddrs.foldl (fun v a => if s.memState a != 0 then v + 2 ^ (a - 1) else v) 0

/-- HOP_VER of a Bellwether: of the pending settings, else of those last scheduled; a standby unit copies its partner's
(R413, R552). -/
def State.bellHopVer (s : State) : Nat :=
  match s.radio.pend with
  | some (h, _) => h.ver
  | none => if s.bit PAIR_STATUS_ACTIVE then s.radio.hopVer else s.pair.copyVer

/-- The fixed fields of a Bellwether body (R413). -/
def State.bellFixed (s : State) (k sfn : Nat) : List Nat :=
  let e := s.startOf k
  let ann := s.shiftAnn sfn
  leBytes 4 (s.get CLAIM) ++ leBytes 4 sfn ++ leBytes 2 e.1 ++ leBytes 4 e.2 ++ leBytes 2 (s.bellFlags sfn) ++ [s.get ROOK_SEQ_SSEQ] ++
  leBytes 4 (if ann then s.get SHIFT_SFN_S else 0) ++
  leBytes 4 (if ann then (quant (100000000 - s.time.shiftPhi) 1000).toNat else 0) ++
  leBytes 4 (match s.radio.pend with | some (_, t) => t | none => 0) ++ leBytes 2 s.bellHopVer ++ leBytes 24 s.addrMap

/-- The items of a Bellwether with the number of bytes encrypted: on profile 0, while an apply is pending on the active
unit, the two HOP_UPDATE parts, the one with the keys last (R413, R414). -/
def State.bellItems (s : State) (prof : Nat) : List Nat × Nat :=
  match s.radio.pend with
  | some (h, t) =>
    if prof ≠ 0 ∨ !s.bit PAIR_STATUS_ACTIVE then ([], 0)
    else match s.hopPart0 h t with
      | some p => (s.hopPart1 h t ++ p, 32)
      | none => (s.hopPart1 h t, 0)
  | none => ([], 0)

/-- BELLWETHER_BUILD and its decision (R20, R391, R413). -/
def State.decideBell (s : State) (n slot k sfn ch : Nat) : State :=
  if sfn = 0xFFFFFFFF then s
  else
    let s1 := s.shiftSchedule sfn
    let it := s1.bellItems (s.prof n)
    let r := s.sendNwk n slot .beacon sfn ch 0 (s1.bellFixed k sfn ++ it.1) it.2
    if r.2 then r.1.shiftSchedule sfn else r.1

/-! ## Association responses (R410, R428, R429, R432) -/

/-- Part 0 of a response; its fields after RESULT are 0 where it does not accept (R432). -/
def State.respPart0 (s : State) (h : HopSet) (r : AssocResp) : List Nat :=
  r.eui ++ [0, r.result] ++ (if r.result ≠ 0 then List.replicate 26 0 else
    [r.addr, r.slane, r.q] ++ leBytes 2 (s.flocksOf r.addr) ++ leBytes 8 s.k0 ++ [h.lanes] ++ leBytes 2 h.ver ++
    leBytes 10 (h.excl.getD (s.prof r.slane) 0))

/-- The 48 encrypted bytes of part 1: network key, hop key, hop IV (R432). -/
def State.respKeys (s : State) (h : HopSet) : Option (List Nat) :=
  match s.useKey (s.get MAC_KEYS_NWK_KEY_SLOT) 1 2, s.useKey h.keySlot 1 2 with
  | some a, some b => some (a ++ b ++ leBytes 16 h.iv)
  | _, _ => none

/-- The response due on lane `n` in the association slot of boundary `k`. -/
def State.respDue (s : State) (n k : Nat) : Option AssocResp :=
  s.mac.resp.find? (fun r => r.lane == n && r.k == joinK (s.prof n) k)

/-- An association frame of this unit, under the join key (R410). -/
def State.sendJoin (s : State) (n slot k ch : Nat) (part : Nat) (eui body : List Nat) (enc : Nat) : State :=
  match s.useKey (s.get MAC_KEYS_JOIN_KEY_SLOT) 1 2 with
  | none => s.keyAbort (s.get MAC_KEYS_JOIN_KEY_SLOT) 1 2
  | some key =>
    (s.transmit n slot ivData .data ch (sealMpdu key (joinNonce (joinK (s.prof n) k) n true part eui) 4 (0xE0 + s.unitBit) body enc)).1

/-- The decision of an association response slot: both parts in one frame on profile 0, else part 0 in slot 2 and part 1
in slot 9; a channel that no enabled account covers carries none (R402, R428, R429, R432). -/
def State.decideResp (s : State) (n slot k ch : Nat) : State :=
  match s.respDue n k, s.radio.hop with
  | some r, some h =>
    let prof := s.prof n
    let last := prof == 0 || slot == 9 || r.result != 0
    let t := if last then { s with mac := { s.mac with resp := s.mac.resp.erase r } } else s
    if (s.covering prof ch).isEmpty then t
    else if r.result ≠ 0 then (if slot = 2 then t.sendJoin n slot k ch 0 r.eui (s.respPart0 h r) 0 else t)
    else match s.respKeys h with
      | none => t
      | some keys =>
        if prof = 0 then t.sendJoin n slot k ch 0 r.eui (s.respPart0 h r ++ r.eui ++ [1] ++ keys) 48
        else if slot = 2 then t.sendJoin n slot k ch 0 r.eui (s.respPart0 h r) 0
        else t.sendJoin n slot k ch 1 r.eui (r.eui ++ [1] ++ keys) 48
  | _, _ => s

/-! ## Digests (R418 to R420) -/

/-- Room for the items of a digest on a lane: the largest MPDU without header, CLAIM, CUT and MIC. -/
def State.digestRoom (s : State) (n : Nat) : Nat := s.mpduMax n ivData - 18

/-- SOL items of 1 to 21 entries while they fit, with the room left (R406). -/
def solItems : Nat → Nat → List SolRec → List Nat × Nat
  | 0, room, _ => ([], room)
  | f + 1, room, l =>
    let n := min 21 (min l.length ((room - 2) / 12))
    if n = 0 then ([], room)
    else
      let r := solItems f (room - 2 - 12 * n) (l.drop n)
      ([0x02, 12 * n] ++ (l.take n).flatMap SolRec.entry ++ r.1, r.2)

/-- WIN items while they fit, with the windows left out and the room left (R406, R419). A window body has 15 bytes, so an
item holds up to 15 windows. -/
def winItems : Nat → Nat → List (Nat × List Nat) → List Nat × List (Nat × List Nat) × Nat
  | 0, room, l => ([], l, room)
  | f + 1, room, l =>
    let n := min 15 (min l.length ((room - 2) / 17))
    if n = 0 then ([], l, room)
    else
      let r := winItems f (room - 2 - 17 * n) (l.drop n)
      ([0x03, 17 * n] ++ (l.take n).flatMap (fun w => [w.1, w.2.length] ++ w.2) ++ r.1, r.2)

/-- The ACK item of a lane: 5 bytes for the slots up to `last` on profile 0, 1 byte for the groups otherwise (R423). -/
def State.ackItem (s : State) (n last : Nat) : List Nat :=
  let l := (s.mac.acks.filter (fun e => e.1 == n)).map (·.2)
  if s.prof n = 0 then
    [0x01, 5] ++ leBytes 5 ((List.range 35).foldl (fun v i => if i + 3 ≤ last ∧ l.contains (i + 3) then setBit v i else v) 0)
  else [0x01, 1, (List.range 3).foldl (fun v g => if l.contains g then setBit v g else v) 0]

/-- The records among `recs` of a lane's members, ascending by address; of several of one member the latest. -/
def State.laneRecs (s : State) (n : Nat) (recs : List SolRec) : List SolRec :=
  (s.laneMembers n).filterMap (fun a => (recs.filter (fun r => r.addr == a)).getLast?)

/-- Items of a D1 (R418). -/
def State.d1Items (s : State) (n : Nat) (recs : List SolRec) : State × List Nat :=
  let ack := s.ackItem n 36
  let sol := solItems 16 (s.digestRoom n - ack.length) (s.laneRecs n recs)
  let r := s.fillLane n sol.2
  (r.1, ack ++ sol.1 ++ r.2.1)

/-- The windows of a lane's members: those deferred before come first, then by ascending address (R419). -/
def State.winOrder (s : State) (n : Nat) (wins : List (Nat × List Nat)) : List (Nat × List Nat) :=
  let l := (s.laneMembers n).filterMap (fun a => wins.find? (fun w => w.1 == a))
  l.filter (fun w => s.mac.deferred.contains w.1) ++ l.filter (fun w => !s.mac.deferred.contains w.1)

/-- Items of a D2; the windows left out are deferred (R419). -/
def State.d2Items (s : State) (n : Nat) (recs : List SolRec) (wins : List (Nat × List Nat)) : State × List Nat :=
  let ack := s.ackItem n 37
  let sol := solItems 16 (s.digestRoom n - ack.length) (s.laneRecs n recs)
  let l := s.winOrder n wins
  let w := winItems 16 sol.2 l
  let left : List Nat := w.2.1.map (·.1)
  let all : List Nat := l.map (·.1)
  let s := { s with mac := { s.mac with deferred := s.mac.deferred.filter (fun (a : Nat) => !all.contains a) ++ left } }
  let s := s.bump MAC_CNT_D_WIN_DEFERRED left.length
  let s := s.laneCount n (fun c => { c with winDef := min (c.winDef + left.length) 255 })
  let r := s.fillLane n w.2.2
  (r.1, ack ++ sol.1 ++ w.1 ++ r.2.1)

/-- Items of a DX, with the number of bytes encrypted: while an apply is pending one HOP_UPDATE part, in turn, the one
with the keys last in its frame (R414, R418). -/
def State.dxItems (s : State) (n q : Nat) : State × List Nat × Nat :=
  let room := s.digestRoom n
  match s.radio.pend with
  | some (h, t) =>
    let p := if q = 50 ∨ q = 80 then s.hopPart0 h t else none
    let it := p.getD (s.hopPart1 h t)
    let r := s.fillLane n (room - 1 - it.length)
    (r.1, r.2.1 ++ it, if p.isSome then 32 else 0)
  | none => let r := s.fillLane n room; (r.1, r.2.1, 0)

/-- Send a digest. -/
def State.sendDigest (s : State) (n slot sfn ch cut : Nat) (items : List Nat) (enc : Nat) : State :=
  (s.sendNwk n slot .data sfn ch 1 (leBytes 4 (s.get CLAIM) ++ [cut] ++ items) enc).1

/-- The digest stored for a lane at a cut-off (R28). -/
def State.storedDigest (s : State) (n cut : Nat) : Option (List Nat) :=
  (s.mac.digests.find? (fun d => d.1 == n && d.2.1 == cut)).map (·.2.2)

/-- A stored digest sent, and forgotten. -/
def State.decideStored (s : State) (n slot sfn ch cut : Nat) : State :=
  match s.storedDigest n cut with
  | none => s
  | some items =>
    ({ s with mac := { s.mac with digests := s.mac.digests.filter (fun (d : Nat × Nat × List Nat) => !(d.1 == n && d.2.1 == cut)) } }).sendDigest n slot sfn ch cut items 0

/-- D2 of a sub-GHz lane, filled at its decision (R420). -/
def State.decideSubD2 (s : State) (n slot sfn ch : Nat) : State :=
  let mine := fun (r : SolRec) => (s.laneMembers n).contains r.addr
  let r := s.d2Items n (s.mac.subDone.filter mine) s.mac.subWins
  let t := { r.1 with mac := { r.1.mac with subDone := r.1.mac.subDone.filter (fun (x : SolRec) => !mine x) } }
  t.sendDigest n slot sfn ch 2 r.2 0

/-! ## The decision (R391) -/

/-- The decision of a data part on profile 0 (R23, R404, R428). -/
def State.decideData0 (s : State) (n slot k sfn ch : Nat) : State :=
  let act := s.bit PAIR_STATUS_ACTIVE
  if slot = s.unitBit then s.decideBell n slot k sfn ch
  else if slot = 2 then (if act && k % 2 == 1 then s.decideResp n slot k ch else s)
  else if slot = 38 then (if act then s.decideStored n slot sfn ch 1 else s)
  else if slot = 39 then (if act then s.decideStored n slot sfn ch 2 else s)
  else s

/-- The decision of a data part on profiles 1 and 2 (R402, R403, R420). -/
def State.decideDataS (s : State) (n slot k sfn ch : Nat) : State :=
  let act := s.bit PAIR_STATUS_ACTIVE
  let q := 10 * (k % 10) + slot
  if s.get (LANE_CFG_RATE n) = 0 then s
  else if q = s.unitBit then s.decideBell n slot k sfn ch
  else if q = 2 ∨ q = 9 then (if act && k / 10 % 2 == 1 then s.decideResp n slot k ch else s)
  else if q = 20 then (if act then s.decideStored n slot sfn ch 1 else s)
  else if q = 21 ∨ q = 70 then (if act then s.decideSubD2 n slot sfn ch else s)
  else if slotKind 1 q = 7 then
    (if act then
      let r := s.dxItems n q
      if r.2.1.isEmpty then r.1 else r.1.sendDigest n slot sfn ch 3 r.2.1 r.2.2
    else s)
  else s

/-- LANE_FRAME_DECISION: at the ply that contains the instant 20 µs before TXEN rises in interval `iv` of slot `slot`
(R391). The first sub-window of slot 0 is decided before the boundary. A slot that is not of full length carries only
its stop window (R299). A data interval stays silent while the modem processors hold no code (R91, log 32). -/
def execLaneFrameDecision (n slot iv : Nat) (s : State) : Out :=
  fin (let k := if slot = 0 ∧ iv = 0 then s.time.k + 1 else s.time.k
    if 8 ≤ n ∨ ivData < iv ∨ !s.instantNow (s.decisionNs n slot iv) ∨ (s.lane n).dec = some (k, slot, iv) then s
    else
      let s := s.setLane n { s.lane n with dec := some (k, slot, iv) }
      if iv < 2 then (if iv = s.unitBit then s.decideStop n slot iv k else s)
      else if !s.bit MAC_CTRL_NET_EN ∨ !s.boot.loaded.contains 5 then s
      else match s.onAir n k slot with
        | none => s
        | some (sfn, ch) =>
          if !s.slotFull (s.prof n) sfn slot then s
          else if s.prof n = 0 then s.decideData0 n slot k sfn ch else s.decideDataS n slot k sfn ch)

/-! ## Received frames (R384, R397, R398, R400) -/

/-- A value moved a fraction of the way towards another, within limits; true where it was clamped. -/
def trimStep (x y f lim : Rat) : Rat × Bool :=
  let z := x + (y - x) * f
  if lim < z then (lim, true) else if z < -lim then (-lim, true) else (z, false)

/-- The receive imbalance of a lane after a frame's estimates, in register units (R400). -/
def State.trimIq (s : State) (n : Nat) (g p : Int) : State :=
  let x := s.lane n
  let a := trimStep x.iqG g (1 / 16) 75
  let b := trimStep x.iqP p (1 / 16) 100
  let s := (s.setLane n { x with iqG := a.1, iqP := b.1 }).puts
    [(LANE_TRIM_IQ_GAIN n, usgn 8 (quantQ a.1)), (LANE_TRIM_IQ_PHASE n, usgn 8 (quantQ b.1))]
  if a.2 || b.2 then s.put (LANE_STATUS_IQ_LIMIT n) 1 else s

/-- LO_OFS of a lane after a member frame with a carrier offset in Hz (R398). -/
def State.trimLo (s : State) (n : Nat) (cfo : Int) : State :=
  let x := s.lane n
  let z := decide (s.prof n = 0)
  let far : Rat := if z then 20000 else 4000
  if far < (cfo : Rat) - x.lo ∨ (cfo : Rat) - x.lo < -far then s
  else
    let a := trimStep x.lo cfo (1 / 64) (if z then 200000 else 40000)
    let s := (s.setLane n { x with lo := a.1 }).putS (LANE_TRIM_LO_OFS n) (quantQ (a.1 / 10))
    if a.2 then s.put (LANE_STATUS_LO_LIMIT n) 1 else s

/-- MEMBER_CFO of an address after a frame of it (R398). -/
def State.trimMember (s : State) (n a : Nat) (cfo : Int) : State :=
  let old : Rat := match s.radio.mcfo.find? (fun e => e.1 == a) with | some e => e.2 | none => 0
  let v := old + ((cfo : Rat) - (s.lane n).lo - old) / 4
  ({ s with radio := { s.radio with mcfo := s.radio.mcfo.filter (fun (e : Nat × Rat) => e.1 ≠ a) ++ [(a, v)] } }).putS
    (MEMBER_CFO_CFO a) (clampI (-32768) 32767 (quantQ (v / 10)))

/-- LIVE_RETRIM (R397, R398, R400). -/
def State.retrim (s : State) (n : Nat) (mpdu : List Nat) (cfo g p : Int) : State :=
  let s := s.trimIq n g p
  let typ := leAt mpdu 0 1 % 16
  if typ = 2 ∨ typ = 3 then
    let s := s.trimLo n cfo
    if isAddr (leAt mpdu 1 1) then s.trimMember n (leAt mpdu 1 1) cfo else s
  else s

/-- The Bellwether slot of the partner unit. -/
def State.partnerSlot (s : State) (n k slot : Nat) : Bool :=
  (if s.prof n = 0 then slot else 10 * (k % 10) + slot) == 1 - s.unitBit

/-- An active unit that learns of an active partner with a higher claim yields at the next boundary (R564). -/
def State.yieldDetect (s : State) (act : Bool) (claim : Nat) : State :=
  if s.bit PAIR_STATUS_ACTIVE && act && decide (s.get CLAIM < claim) then { s with pair := { s.pair with yield := true } } else s

/-- A Bellwether of the partner: heard for R561 where it comes from the active unit, found by R556, and the claim of R564. -/
def State.takeBell (s : State) (n slot sfn : Nat) (mpdu : List Nat) : State :=
  let p := 0xE0 + (1 - s.unitBit)
  let h := if bitOf (leAt mpdu 0 1) 4 then 6 else 5
  if leAt mpdu 0 1 % 16 ≠ 0 ∨ leAt mpdu 1 1 ≠ p then s.bump MAC_CNT_A_MALFORMED
  else match s.useKey (s.get MAC_KEYS_NWK_KEY_SLOT) 1 2 with
    | none => (s.keyAbort (s.get MAC_KEYS_NWK_KEY_SLOT) 1 2).bump MAC_CNT_A_MIC_FAIL
    | some key => match openMpdu key (nwkNonce sfn slot n ivData true p) mpdu with
      | none => s.bump MAC_CNT_A_MIC_FAIL
      | some b =>
        let items := parseItems b.length (b.drop (h + 55))
        if !(match items with | some l => bellOk (s.prof n) (b.drop h) l | none => false) then s.bump MAC_CNT_A_MALFORMED
        else
        let act := bitOf (leAt b (h + 14) 2) 1
        let s := if act then
            { s with pair := { s.pair with bellHeard := n :: s.pair.bellHeard, heard := s.pair.heard || s.pair.listen || s.pair.wait } } else s
        s.yieldDetect act (leAt b h 4)

/-- The receive pre-correction of a slot in Hz: MEMBER_CFO of the member that owns it (R398). -/
def State.preCorrection (s : State) (n slot : Nat) : Rat :=
  let q := if s.prof n = 0 then slot else 10 * (s.time.k % 10) + slot
  match s.radio.mcfo.find? (fun e => e.1 == s.owner (s.get SLOT_CTRL_BANK) n q) with
  | some e => e.2
  | none => 0

/-- A frame lies within the capture range about the pre-correction, after the shift by LO_OFS (R398). -/
def State.inCapture (s : State) (n slot : Nat) (cfo : Int) : Bool :=
  let d := (cfo : Rat) - (s.lane n).lo - s.preCorrection n slot
  let far : Rat := if s.prof n = 0 then 100000 else 10000
  decide (-far ≤ d) && decide (d ≤ far)

/-- AIR_FRAME_RECEIVE: a frame received on lane `n` in the interval in progress: the bit errors of its sync word, the
whitened PSDU, RSSI, CFO in units of 100 Hz, or of 10 Hz on profiles 1 and 2, and the imbalance estimates in register units (R384, R397,
R398). Nothing is received while the modem processors hold no code (R91, log 32). The unit receives no
stop-window frame of its partner. -/
def execAirFrameReceive (n syncErr : Nat) (psdu : List Nat) (rssi cfo iqG iqP : Int) (s : State) : Out :=
  fin (let hz := cfo * (if s.prof n = 0 then 100 else 10)
    let slot := s.slotNow n
    if 8 ≤ n ∨ !s.laneReady n ∨ !s.boot.loaded.contains 5 ∨ !s.time.grid ∨ (if s.prof n = 0 then 2 else 1) < syncErr ∨
      !s.inCapture n slot hz then s
    else match psduParse (s.prof n) psdu with
      | none => s.bump (LANE_RX_RX_CRC_FAIL n)
      | some mpdu =>
        let s := (s.bump (LANE_RX_RX_OK n)).retrim n mpdu hz iqG iqP
        let k := s.time.k
        if s.ivNow n ≠ ivData then s
        else if s.partnerSlot n k slot then
          (match s.sfnAt k with | some sfn => s.takeBell n slot sfn mpdu | none => s)
        else { s with mac := { s.mac with rx := s.mac.rx ++ [{ lane := n, k := k, slot := slot, rssi := rssi, mpdu := mpdu }] } })

end Sys2Proof.Machine
end

