-- ==== Sys2Proof/Machine/Checkpoint.lean ====
section
/-!
DEFINITION. Checkpoints (spec/17): what the active unit captures, and what a standby unit applies and loads. The spec
says what an image holds and not how it is laid out (log 19).
-/

namespace Sys2Proof

/-- The bytes of a checkpoint image, and the image that bytes stand for, uninterpreted (log 19). -/
opaque Config.ckptEncode (x : Machine.CkptImage) : List Nat
opaque Config.ckptDecode (b : List Nat) : Option Machine.CkptImage

end Sys2Proof

namespace Sys2Proof.Machine

open R

/-- The registers of the MAC that an image holds: the member table, the slot banks with BANK, the flocks, K0 (R558). -/
def ckptMac (k : RKey) : Bool :=
  [(MEMBER_W0_EUI 0).key.reg, (MEMBER_W1_EUI 0).key.reg, (MEMBER_W2_STATE 0).key.reg, (MEMBER_W3_CAPS 0).key.reg,
    (SLOT_OWNER 0 0).key.reg, (FLOCK_MEMBERS 0 0).key.reg, NET_K0_LO_K0.key.reg, NET_K0_HI_K0.key.reg].contains k.reg ||
  k == SLOT_CTRL_BANK.key

/-- The registers of the work layer that an image holds: tracks, channels, pairs (R558). -/
def ckptWork (k : RKey) : Bool :=
  [(TRK_T_W0_FIRST 0).key.reg, (TRK_T_W1_COUNT 0).key.reg, (TRK_T_W2_LENGTH 0).key.reg, (TRK_T_W3_CRC 0).key.reg,
    (PCH_W0_VMAX 0).key.reg, (PCH_W1_JMAX 0).key.reg, (PCH_W2_LAT_MM 0).key.reg, (PCH_W3_DEV_RESP 0).key.reg, (PCH_W4_OVER_MM 0).key.reg,
    (PCH_W5_STATE 0).key.reg, (PCH_W6_CMD_S 0).key.reg, (PCH_W7_MEAS_S 0).key.reg, (GEAR_W0_STATE 0).key.reg,
    (GEAR_W1_MTRACK 0).key.reg, (GEAR_W2_ORIGIN_M 0).key.reg, (GEAR_W3_ORIGIN_F 0).key.reg, (GEAR_W4_LAG_MAX_MM 0).key.reg,
    (GEAR_W5_LAG 0).key.reg, (GEAR_RATIO_RATIO 0 0).key.reg, (GEAR_AT_AT 0 0).key.reg].contains k.reg

/-- The registers that satisfy `p` take their values from a list. -/
def State.loadRegs (s : State) (p : RKey → Bool) (l : List (RKey × Nat)) : State :=
  { s with regs := (l.filter (fun e => p e.1)).foldl (fun r e => regIns e.1 e.2 (regErase r e.1)) (s.regs.filter (fun e => !p e.1)) }

/-- A member's record without the CMD queue and the sequence state (R558, R563). -/
def MacMember.plain (m : MacMember) (ply : Nat) : MacMember :=
  { m with last := none, next := 1, cmds := [], parts := [], total := 0, heard := ply, offerPly := ply, emptyPly := ply }

/-- A filter without its holds (R359, R558). -/
def Filter.plain (f : Filter) : Filter :=
  { f with amb := f.amb.map (fun a => { a with held := false, run := 0 }), restored := f.started }

/-- CHECKPOINT_CAPTURE: one image of this ply (R558). -/
def State.ckptImage (s : State) : CkptImage :=
  { filters := s.fix.filters.map (fun e => (e.1, e.2.plain)), refPos := s.fix.refPos, orgPos := s.fix.orgPos
    baseAnt := s.fix.baseAnt, disp := s.disp, trk := s.trk, members := s.mac.members.map (fun e => (e.1, e.2.plain 0))
    freed := s.mac.freed, hop := s.radio.hop, hopPend := s.radio.pend
    regs := s.regs.filter (fun e => ckptMac e.1 || ckptWork e.1) }

/-- A complete checkpoint applied to the standby unit's MAC: member table, slot banks, flocks, hop settings, K0 (R387,
R560). -/
def State.ckptApply (s : State) (x : CkptImage) : State :=
  let s := s.loadRegs ckptMac x.regs
  let s := { s with mac := { s.mac with members := x.members.map (fun (e : Nat × MacMember) => (e.1, e.2.plain s.ply)), freed := [] }
                    pair := { s.pair with copyBank := s.get SLOT_CTRL_BANK, copyVer := match x.hop with | some h => h.ver | none => 0 } }
  let s := match x.hop with
    | some h => s.hopLand { h with gen := none, failed := false }
    | none => { s with radio := { s.radio with hop := none } }
  match x.hopPend with
  | some (h, t) => { s with radio := { s.radio with pend := some ({ h with gen := none, failed := false }, t), hopVer := h.ver } }.put HOP_CTRL_PENDING 1
  | none => { s with radio := { s.radio with pend := none, hopVer := match x.hop with | some h => h.ver | none => 0 } }.put HOP_CTRL_PENDING 0

/-- A task of another unit's application core: no core of this unit runs it, so it is READY again (log 20). -/
def coreTask (t : Task) : Bool := t.state == 5 && !t.tierM

/-- The dispatcher's state as loaded. -/
def dispLoaded (d : DispState) : DispState :=
  let l := d.tasks.map (fun e => if coreTask e.2 then (e.1, { e.2 with state := 2, exec := 0, susp := false }) else e)
  let back := (d.tasks.filter (fun e => coreTask e.2)).map (·.1)
  { d with tasks := l, ready := back ++ d.ready, stalled := [] }

/-- The fix, dispatcher and track state loaded from a checkpoint; channels are replanned (R359, R507, R563). -/
def State.ckptLoad (s : State) (x : CkptImage) : State :=
  let s := s.loadRegs ckptWork x.regs
  let pch := x.trk.pch.map (fun (e : Nat × PchState) => (e.1, ({ e.2 with reqs := [], move := none, load := none } : PchState)))
  let s := { s with disp := dispLoaded x.disp, trk := { x.trk with rookReq := [], pch := pch }
                    fix := { s.fix with filters := x.filters, refPos := x.refPos, orgPos := x.orgPos, baseAnt := x.baseAnt
                                        queue := [], cur := none, done := [] } }
  allAddrs.foldl State.replanPch s

/-- What a new active unit's MAC starts with: LAST unsynced, DSEQ from 1, every FREE address long free (R434, R563). -/
def State.macRestart (s : State) : State :=
  { s with
    mac := { s.mac with members := s.mac.members.map (fun (e : Nat × MacMember) => (e.1, e.2.plain s.ply)), freed := [], once := []
                        resp := [], acks := [], deferred := [], wins := [], subWins := [], subDone := [], digests := [], corOk := [], upFrom := [] }
    radio := { s.radio with bseq := if s.radio.pend.isSome then 2 else 0, hopSeq := 1 } }

/-- No members (R557). -/
def State.noMembers (s : State) : State :=
  let s := s.loadRegs (fun k => ckptMac k && k != SLOT_CTRL_BANK.key && k.reg != NET_K0_LO_K0.key.reg && k.reg != NET_K0_HI_K0.key.reg) []
  { s with mac := { s.mac with members := [], freed := [] } }

end Sys2Proof.Machine
end

