-- ==== Sys2Proof/Machine/Pair.lean ====
section
/-!
DEFINITION. Base pair operation (spec/17): pair messages received, heartbeats, claims and run states, checkpoints,
takeover, commanded handover and the drill.
-/

namespace Sys2Proof.Machine

open R

/-- The pair state with `f` applied. -/
def State.withPair (s : State) (f : PairState → PairState) : State := { s with pair := f s.pair }

/-- The unit is active (R548). -/
def State.active (s : State) : Bool := s.bit PAIR_STATUS_ACTIVE

/-! ## Receiving (R544, R545) -/

/-- A pair message. -/
structure PairMsg where
  typ : Nat
  epoch : Nat
  seq : Nat
  sfn : Nat
  body : List Nat
  deriving DecidableEq, Repr

/-- The SFN check of R545. -/
def sfnNear (a b : Nat) : Bool := a == 0xFFFFFFFF || b == 0xFFFFFFFF || decide (a ≤ b + 1 ∧ b ≤ a + 1)

/-- The fixed length of a body; none where it varies (R546, R554, R559). -/
def bodyLenOk (typ n : Nat) : Bool :=
  match typ with
  | 1 => n == 32
  | 2 => n == 12
  | 3 => n == 4
  | 4 => decide (8 ≤ n ∧ n ≤ 1408)
  | 5 => n == 16
  | 6 => n == 4
  | 7 => n == 4
  | _ => false

/-- A message that R545 accepts, under a key. -/
def State.pairAccept (s : State) (key m : List Nat) : Option PairMsg :=
  let len := leAt m 16 2
  let typ := leAt m 2 1
  let x : PairMsg := { typ := typ, epoch := leAt m 4 4, seq := leAt m 8 4, sfn := leAt m 12 4, body := (m.drop 20).take len }
  if m.length ≠ 36 + len ∨ 1408 < len ∨ leAt m 0 2 ≠ pairMagic ∨ leAt m 18 2 ≠ 0 then none
  else if pairMac key (m.take (20 + len)) ≠ m.drop (20 + len) then none
  else if leAt m 3 1 ≠ 1 - s.unitBit ∨ !sfnNear x.sfn s.sfn then none
  else if s.pair.pEpoch = some x.epoch ∧ x.seq ≤ s.pair.pSeq then none
  else if !bodyLenOk typ len then none
  else some x

/-- The message taken where it is accepted and of a type; a message that R545 drops is counted. -/
def State.pairTake (s : State) (typ : Nat) (m : List Nat) : Option (State × PairMsg) × State :=
  if !s.bit PAIR_CTRL_EN ∨ s.domOff 9 then (none, s)
  else match s.pairKey with
    | none => (none, (s.keyAbort (s.get PAIR_CTRL_KEY_SLOT) 3 5).bump PAIR_CNT_HB_DROP)
    | some key => match s.pairAccept key m with
      | none => (none, s.bump PAIR_CNT_HB_DROP)
      | some x => if x.typ = typ then (some (s.withPair (fun p => { p with pEpoch := some x.epoch, pSeq := x.seq }), x), s) else (none, s)

/-- The effect of one received message of a type. -/
def State.onPair (s : State) (typ : Nat) (m : List Nat) (k : State → PairMsg → State) : State :=
  match s.pairTake typ m with
  | (some (t, x), _) => k t x
  | (none, t) => t

/-! ## READY_STANDBY (R560) -/

/-- REF_OK: the reference is not lost (log 21). -/
def State.refOk (s : State) : Bool := !s.clk.refLost

/-- A checkpoint has completed within the last 3 s. -/
def State.ckptFresh (s : State) : Bool := match s.pair.ckptPly with | some p => decide (s.ply < p + 300000) | none => false

/-- READY_STANDBY follows its conditions (R543, R547, R560). -/
def State.readyEval (s : State) : State :=
  let ok := s.bit PAIR_CTRL_EN && !s.active && s.pair.ckpt.isSome && s.ckptFresh && s.refOk && (List.range 8).any s.laneReady &&
    !s.bit PAIR_STATUS_KEY_MISMATCH && !s.bit PAIR_STATUS_PAIR_SLOW
  if s.bit PAIR_STATUS_READY_STANDBY == ok then s else s.put PAIR_STATUS_READY_STANDBY (b2n ok)

/-- STANDBY_READY_TIMEOUT (R560). -/
def execStandbyReadyTimeout (s : State) : Out := fin s.readyEval

/-! ## Work-layer requests of a unit that stops its work (R564, R566) -/

/-- An opcode of the work layer whose request can be in progress (R370, R451, R474, R508, R565). -/
def workOp (op : Nat) : Bool := [4, 5, 6, 7].contains (op / 256) || op == 0x0E01

/-- Work-layer requests in progress end with NOT_ACTIVE (R564). -/
def State.endWork (s : State) : State :=
  (s.ecp.sessions.flatMap (fun x => (x.inProg.filter (fun r => workOp r.op)).map (fun r => (x.id, r.tag)))).foldl
    (fun s e => s.ecpComplete e.1 e.2 Ecp.NOT_ACTIVE []) s

/-- The work layer stops: its requests end, nothing of it is left to send or to solve (R564). -/
def State.workStops (s : State) : State :=
  let s := s.endWork
  let pch := s.trk.pch.map (fun (e : Nat × PchState) => (e.1, ({ e.2 with reqs := [], move := none } : PchState)))
  { s with trk := { s.trk with pch := pch }, fix := { s.fix with queue := [], cur := none, done := [] }
           mac := { s.mac with digests := [], wins := [], subWins := [], subDone := [], resp := [], once := [] } }

/-! ## Handover (R565 to R567) -/

/-- A handover ends: the fields that mark it are cleared. -/
def State.handoverOver (s : State) : State :=
  (s.put PAIR_STATUS_HANDOVER_PEND 0).withPair (fun p => { p with frozen := false, hoReq := none, hoLoaded := false })

/-- HANDOVER_ABORT: a pending handover is abandoned; the active unit's request ends DENIED (R567). -/
def State.handoverAbort (s : State) : State :=
  if !s.bit PAIR_STATUS_HANDOVER_PEND && s.pair.hoReq.isNone then s
  else
    let r := s.pair.hoReq
    let s := s.handoverOver.record .handoverAbort []
    match r with
    | some (sess, tag) => s.ecpComplete sess tag Ecp.DENIED []
    | none => s

/-- H of a handover (R565). -/
def State.handoverAt (s : State) (n : Nat) : Nat := ceil10 (max n (s.sfn + 20))

/-- PAIR_HANDOVER (R565). -/
def execPairHandover (sess tag : Nat) (pay : List Nat) (s : State) : Out :=
  fin (s.ecpRun 0x0E01 sess tag pay (pay.length == 4) true (fun s =>
    if !bitOf s.pair.pState 2 || !s.bit PAIR_STATUS_HB_OK || s.bit PAIR_STATUS_PAIR_SLOW || s.bit PAIR_STATUS_KEY_MISMATCH ||
        s.bit PAIR_STATUS_HANDOVER_PEND || s.pair.hoReq.isSome then (s, .final Ecp.DENIED [])
    else
      let h := s.handoverAt (leAt pay 0 4)
      let s := (s.put HANDOVER_SFN_H h).withPair (fun p => { p with hoReq := some (sess, tag), hoLoaded := false })
      ((s.pairSend PairType.handover (leBytes 4 h)).1, .progress)))

/-- HANDOVER_RECEIVE on the standby unit (R565); the acknowledgement repeats H (log 22). -/
def execHandoverReceive (m : List Nat) (s : State) : Out :=
  fin (s.onPair PairType.handover m (fun s x =>
    if s.active then s
    else
      let h := leAt x.body 0 4
      let s := (s.puts [(HANDOVER_SFN_H, h), (PAIR_STATUS_HANDOVER_PEND, 1)]).withPair (fun p => { p with hoLoaded := false })
      (s.pairSend PairType.handoverAck (leBytes 4 h)).1))

/-- HANDOVER_ACK_RECEIVE on the active unit (R565). -/
def execHandoverAckReceive (m : List Nat) (s : State) : Out :=
  fin (s.onPair PairType.handoverAck m (fun s x =>
    if s.active ∧ s.pair.hoReq.isSome ∧ leAt x.body 0 4 = s.get HANDOVER_SFN_H then s.put PAIR_STATUS_HANDOVER_PEND 1 else s))

/-! ## Becoming active, and returning to standby (R548, R549, R556, R557, R562, R564, R566) -/

/-- The unit becomes active with PAIR_CTR and CLAIM raised; where PAIR_CTR would pass its end it writes CLAIM_END and does
not (R549). -/
def State.raiseClaim (s : State) : State :=
  let c := max (s.get PAIR_CTR_CTR) s.pair.pCtr + 1
  if 0x7FFFFFFF < c then s.record .claimEnd []
  else s.puts [(PAIR_CTR_CTR, c), (CLAIM, 2 * c + s.unitBit), (PAIR_STATUS_ACTIVE, 1), (PAIR_STATUS_READY_STANDBY, 0),
    (PAIR_STATUS_DAYS_SINCE_ACTIVE, 0), (PAIR_STATUS_DRILL_DUE, 0)]

/-- The unit becomes active at a boundary after a startup or a takeover; its work layer then waits for the load of the
checkpoint, or starts with no members (R557, R562, R563). -/
def State.becomeActive (s : State) : State :=
  let took := s.bit PAIR_STATUS_TAKEOVER_PEND
  let s := ((s.put PAIR_STATUS_TAKEOVER_PEND 0).withPair (fun p => { p with become := false, listen := false, wait := false })).raiseClaim
  if !s.active then s
  else
    let s := if took then s.bump PAIR_CNT2_TAKEOVERS else s
    if s.pair.ckpt.isSome then (s.macRestart).withPair (fun p => { p with loading := true, idle := true })
    else s.noMembers.macRestart

/-- The standby unit becomes active at boundary H; its work state is loaded (R566). -/
def State.handoverIn (s : State) : State :=
  let s := s.handoverOver.raiseClaim
  if s.active then (s.macRestart).bump PAIR_CNT2_HANDOVERS else s

/-- The active unit becomes standby (R548, R564). -/
def State.becomeStandby (s : State) : State :=
  let s := s.puts [(PAIR_STATUS_ACTIVE, 0), (CLAIM, s.unitBit)]
  (s.workStops).withPair (fun p => { p with loading := false, idle := false, frozen := false, ckpt := none, ckptPly := none, miss := [] })

/-- The active unit becomes standby at boundary H, and its request ends OK with H (R565, R566). -/
def State.handoverOut (s : State) : State :=
  let r := s.pair.hoReq
  let h := s.get HANDOVER_SFN_H
  let s := match r with
    | some (sess, tag) => s.ecpComplete sess tag Ecp.OK (leBytes 4 h)
    | none => s
  (s.handoverOver.becomeStandby).bump PAIR_CNT2_HANDOVERS

/-- A commanded handover at its boundary H (R566, R567). A unit whose partner has not answered, or whose load is not
complete, abandons it. -/
def State.handoverSwitch (s : State) : State :=
  if s.sfn ≠ s.get HANDOVER_SFN_H ∨ !s.hasSfn then s
  else if s.active then (if s.bit PAIR_STATUS_HANDOVER_PEND then s.handoverOut else s.handoverAbort)
  else if s.bit PAIR_STATUS_HANDOVER_PEND then (if s.pair.hoLoaded then s.handoverIn else s.handoverAbort)
  else s

/-- The run-state changes of a superframe boundary, one at most (R548, R556, R562, R564, R566, R570). The claim of an
active unit follows a PAIR_CTR that NET_FORM has set (R549). With pair operation
off the unit becomes active at the first boundary after NET_EN is set (R556). -/
def State.claimBoundary (s : State) : State :=
  let s := s.withPair (fun p => { p with idle := p.idle && p.loading })
  let s := if s.active then s.put CLAIM (2 * s.get PAIR_CTR_CTR + s.unitBit) else s
  if s.pair.yield then
    let s := s.withPair (fun p => { p with yield := false })
    if s.active then (s.handoverAbort.becomeStandby).bump PAIR_CNT2_YIELDS else s
  else if s.pair.become then s.becomeActive
  else if !s.bit PAIR_CTRL_EN && !s.active && s.bit MAC_CTRL_NET_EN then s.becomeActive
  else if s.bit PAIR_STATUS_HANDOVER_PEND || s.pair.hoReq.isSome then s.handoverSwitch
  else s

/-! ## Enabling the pair link, startup (R543, R556) -/

/-- PAIR_SLOW: ETH_5 is linked below 1000 Mb/s while it is the pair link (R543). -/
def State.pairSlow (s : State) : State :=
  let s := s.put PAIR_STATUS_LINK (s.get (ETH_CFG_LINK 5))
  let b := s.bit PAIR_CTRL_EN && s.bit (ETH_CFG_LINK 5) && decide (s.get (ETH_CFG_SPEED 5) < 2)
  (s.put PAIR_STATUS_PAIR_SLOW (b2n b)).readyEval

/-- ETH_5 becomes the pair link: its ECP sessions close, its PTP use ends, and a unit that is not active listens for a
partner (R543, R556). -/
def State.pairOn (s : State) : State :=
  let s := ((s.ecp.sessions.filter (fun x => x.id != 8 && x.port == 5)).map (·.id)).foldl State.closeSession s
  let p := s.time.ptp
  let off := fun (i d : Nat) (s : State) => if leAt p i 1 = 5 then s.puts [(DOM_STATUS_STATE d, 0), (DOM_STATUS_DOMAIN d, 0)] else s
  let s := (off 12 1) ((off 10 0) s)
  let q := (p.set 10 (if leAt p 10 1 = 5 then 0xFF else leAt p 10 1)).set 12 (if leAt p 12 1 = 5 then 0xFF else leAt p 12 1)
  let s := { s with time := { s.time with ptp := q } }
  let s := if s.active then s else s.withPair (fun p => { p with listen := true, heard := false, wait := false, since := s.ply })
  s.pairSlow

/-- A write to PAIR_CTRL (R11, R15, R543): DRILL_DAYS 0 is reserved; the RWL fields are locked by LOCK. -/
def State.pairCtrl (data : Nat) (s : State) : State :=
  if bits data 15 8 = 0 then s
  else
    let locked := s.bit PAIR_CTRL_LOCK
    let s := if bitOf data 31 then s.put PAIR_CTRL_LOCK 1 else s
    if locked then s
    else
      let was := s.bit PAIR_CTRL_EN
      let s := s.puts [(PAIR_CTRL_EN, bits data 30 30), (PAIR_CTRL_KEY_SLOT, bits data 24 16), (PAIR_CTRL_DRILL_DAYS, bits data 15 8)]
      if !was && bitOf data 30 then s.pairOn
      else if was && !bitOf data 30 then (s.pairSlow).withPair (fun p => { p with listen := false, wait := false }) else s

/-- PAIR_ENABLE: a PAIR_CTRL write that sets EN (R543). -/
def execPairEnable (ini data : Nat) (s : State) : Out :=
  fin (if bitOf data 30 ∧ !s.bit PAIR_CTRL_EN then s.asWrite ini 0x40510000 (State.pairCtrl data) else s)

/-- How long a unit listens for an active partner, in plies: 30 s where every enabled lane is of profile 1 or 2, 3 s otherwise (R556). -/
def State.listenPlies (s : State) : Nat :=
  let en := (List.range 8).filter (fun n => s.bit (LANE_CFG_EN n))
  if !en.isEmpty && en.all (fun n => s.prof n != 0) then 3000000 else 300000

/-- STARTUP_LISTEN_EXPIRY: no active partner was found in 3 s, or 30 s (R556). -/
def execStartupListenExpiry (s : State) : Out :=
  fin (if !s.pair.listen ∨ s.ply < s.pair.since + s.listenPlies then s
    else if s.pair.heard then s.withPair (fun p => { p with listen := false })
    else if s.unitBit = 0 then s.withPair (fun p => { p with listen := false, become := true })
    else s.withPair (fun p => { p with listen := false, wait := true, since := s.ply }))

/-- SECONDARY_WAIT_EXPIRY: a further 2 s (R556); a unit whose partner is active stays standby (R568). -/
def execSecondaryWaitExpiry (s : State) : Out :=
  fin (if !s.pair.wait ∨ s.ply < s.pair.since + 200000 then s else s.withPair (fun p => { p with wait := false, become := !p.heard }))

/-! ## Heartbeats (R546, R547) -/

/-- KEYCHK; 0 where the network key slot releases no key (log 23). -/
def State.keyChk (s : State) : List Nat :=
  match s.useKey (s.get MAC_KEYS_NWK_KEY_SLOT) 1 2 with
  | some k => (aesEncrypt k (List.replicate 16 0)).take 4
  | none => [0, 0, 0, 0]

/-- STATE of a heartbeat (R546). -/
def State.hbState (s : State) : Nat :=
  b2n s.active + 2 * b2n s.stopped + 4 * s.get PAIR_STATUS_READY_STANDBY + 8 * b2n s.refOk + 16 * s.get SLOT_CTRL_BANK +
  32 * s.get PAIR_STATUS_HANDOVER_PEND

/-- The 32 bytes of a heartbeat (R546). DESIGN CHOICE (log 123): the spec does not say what K0 an active unit without one sends; it
sends 0. -/
def State.hbBody (s : State) : List Nat :=
  leBytes 4 (s.get CLAIM) ++ [s.hbState, s.get ROOK_SEQ_SSEQ, s.srcOwn, 0] ++ leBytes 8 (if s.bit NET_K0_HI_VALID then s.k0 else 0) ++
  leBytes 4 (s.get CKPT_SEQ_SEQ) ++ s.keyChk ++ leBytes 4 (s.get PAIR_CTR_CTR) ++
  leBytes 2 (match s.radio.hop with | some h => h.ver | none => 0) ++ [0, 0]

/-- A heartbeat is due in this ply: one of every 10 ms of the superframe grid falls in it, and none has been sent in it (R546). -/
def State.hbDue (s : State) : Bool :=
  s.time.grid && (s.multipleHere 10000000 (s.time.gridNs + 315964819000000000)).isSome && s.pair.hbTx != some s.ply

/-- HEARTBEAT_SEND: at every 10 ms of the superframe grid (R546); from a loss of reference to the reset after its return
the unit sends none (R80, R81). -/
def execHeartbeatSend (s : State) : Out :=
  fin (if s.bit PAIR_CTRL_EN && s.hbDue && s.refOk && !s.clk.txEndPending && !s.clk.txEnded
    then (s.withPair (fun p => { p with hbTx := some s.ply })).pairSend PairType.heartbeat s.hbBody |>.1 else s)

/-- The key check of a heartbeat (R547). -/
def State.keyCheck (s : State) (k : List Nat) : State :=
  let bad := k != s.keyChk
  if bad == s.bit PAIR_STATUS_KEY_MISMATCH then s
  else
    let s := s.put PAIR_STATUS_KEY_MISMATCH (b2n bad)
    if bad then s.record .keyMismatch [] else s

/-- An accepted heartbeat (R546, R547, R549, R553 to R555, R564, R567, R685). A standby without a K0 takes that of an active partner
as sent, the 0 of one without a K0 too (DESIGN CHOICE, log 123). -/
def State.takeHb (s : State) (b : List Nat) : State :=
  let st := leAt b 4 1
  let act := bitOf st 0
  let ctr := leAt b 24 4
  let s := s.puts [(PARTNER_CLAIM_CLAIM, leAt b 0 4), (PAIR_STATUS_HB_OK, 1), (PAIR_STATUS_PARTNER_ACTIVE, b2n act),
    (PAIR_STATUS_PARTNER_STOP, b2n (bitOf st 1))]
  let s := s.withPair (fun p => { p with hbPly := some s.ply, pState := st, pSrc := leAt b 6 1, pCtr := ctr, suspect := false
                                         heard := p.heard || (act && (p.listen || p.wait)) })
  let s := if act then s.withPair (fun p => { p with copyBank := b2n (bitOf st 4), copyVer := leAt b 28 2 }) else s
  let near := s.sfnNearEnd
  let s := if act && !s.bit NET_K0_HI_VALID then (s.setK0 (leAt b 8 8 % 2 ^ 63)).logNearEnd near else s
  let s := if !s.active && decide (s.get PAIR_CTR_CTR < ctr) then s.put PAIR_CTR_CTR ctr else s
  let s := s.keyCheck ((b.drop 20).take 4)
  let s := if act then s.syncSseq (leAt b 5 1) else s
  let s := if bitOf st 1 then s.enterStop 5 else s
  let s := if s.active && s.bit PAIR_STATUS_HANDOVER_PEND && !bitOf st 5 then s.handoverAbort else s
  (s.yieldDetect act (leAt b 0 4)).readyEval

/-- HEARTBEAT_RECEIVE (R546). -/
def execHeartbeatReceive (m : List Nat) (s : State) : Out :=
  fin (s.onPair PairType.heartbeat m (fun s x => s.takeHb x.body))

/-- HEARTBEAT_LOST: 300 ms without an accepted heartbeat (R546, R567). -/
def execHeartbeatLost (s : State) : Out :=
  fin (let late := match s.pair.hbPly with | some p => decide (p + 30000 ≤ s.ply) | none => false
    if s.bit PAIR_STATUS_HB_OK && late then (((s.put PAIR_STATUS_HB_OK 0).bump PAIR_CNT2_HB_LOST).record .hbLost []).handoverAbort
    else s)

/-! ## Safety messages (R553 to R555) -/

/-- An accepted SAFETY message; it is acknowledged with its SEQ (log 22). -/
def State.takeSafety (s : State) (x : PairMsg) : State :=
  let ev := leAt x.body 0 1
  let q := leAt x.body 1 1
  let t := leAt x.body 2 1
  if ev = 0 ∨ 4 < ev then s.bump PAIR_CNT_HB_DROP
  else
    let s := (s.pairSend PairType.safetyAck (leBytes 4 x.seq)).1
    let s := (s.withPair (fun p => { p with pSrc := leAt x.body 3 1 })).syncSseq q
    match ev with
    | 1 => (s.put PAIR_STATUS_PARTNER_STOP 1).enterStop 5
    | 2 => (s.put PAIR_STATUS_PARTNER_STOP 0).pairRelease
    | e => s.partnerHr (e - 1) q t

/-- SAFETY_RECEIVE (R554). -/
def execSafetyReceive (m : List Nat) (s : State) : Out := fin (s.onPair PairType.safety m State.takeSafety)

/-- SAFETY_ACK_RECEIVE: the message whose SEQ it echoes is repeated no more (R554). -/
def execSafetyAckReceive (m : List Nat) (s : State) : Out :=
  fin (s.onPair PairType.safetyAck m (fun s x => s.withPair (fun p =>
    { p with safety := p.safety.filter (fun (e : SafetyMsg) => !e.seqs.contains (leAt x.body 0 4)) })))

/-- SAFETY_REPEAT: the `i`-th unacknowledged message, 1 ms after its last sending, at most 300 times (R554). -/
def execSafetyRepeat (i : Nat) (s : State) : Out :=
  fin (match s.pair.safety[i]? with
    | none => s
    | some e =>
      if s.ply < e.ply + 100 then s
      else if 300 ≤ e.repeats then s.withPair (fun p => { p with safety := p.safety.eraseIdx i })
      else
        let r := s.pairSend PairType.safety e.body
        r.1.withPair (fun p => { p with safety := p.safety.set i { e with seqs := e.seqs ++ r.2.toList, repeats := e.repeats + 1, ply := s.ply } }))

/-! ## Checkpoints (R558 to R560) -/

/-- The chunks of an image with their offsets. -/
def ckptChunks : Nat → Nat → List Nat → List (Nat × List Nat)
  | 0, _, _ => []
  | n + 1, off, b => if b.isEmpty then [] else (off, b.take 1400) :: ckptChunks n (off + 1400) (b.drop 1400)

/-- The active unit captures and sends a checkpoint at C2 of each tenth superframe; from the capture for a handover on its
work layer answers NOT_ACTIVE (R558, R559, R566). -/
def State.captureCkpt (s : State) : State :=
  if !s.active ∨ !s.bit PAIR_CTRL_EN ∨ s.bit PAIR_STATUS_PAIR_SLOW ∨ !s.hasSfn ∨ s.sfn % 10 ≠ 0 ∨ s.pair.idle then s
  else
    let img := Config.ckptEncode s.ckptImage
    let seq := (s.get CKPT_SEQ_SEQ + 1) % 2 ^ 32
    let freeze := s.bit PAIR_STATUS_HANDOVER_PEND && s.sfn + 10 == s.get HANDOVER_SFN_H
    let s := (s.puts [(CKPT_SEQ_SEQ, seq), (CKPT_SFN_CAPTURE_SFN, s.sfn)]).withPair (fun p => { p with frozen := p.frozen || freeze })
    let s := (ckptChunks (img.length / 1400 + 1) 0 img).foldl (fun s c =>
      (s.pairSend PairType.ckptData (leBytes 4 seq ++ leBytes 4 c.1 ++ c.2)).1) s
    (s.pairSend PairType.ckptEnd (leBytes 4 seq ++ leBytes 4 img.length ++ leBytes 4 (crc32c img) ++ leBytes 4 s.sfn)).1

/-- CKPT_DATA_RECEIVE: a chunk into the spare buffer (R559). -/
def execCkptDataReceive (m : List Nat) (s : State) : Out :=
  fin (s.onPair PairType.ckptData m (fun s x =>
    if s.active then s
    else
      let seq := leAt x.body 0 4
      let b : CkptBuf := match s.pair.rx with | some b => if b.seq = seq then b else { seq := seq } | none => { seq := seq }
      s.withPair (fun p => { p with rx := some { b with chunks := b.chunks ++ [(leAt x.body 4 4, x.body.drop 8)] } })))

/-- A complete checkpoint (R559, R560, R566): the MAC state is applied; the one of a pending handover is loaded. -/
def State.ckptDone (s : State) (b : CkptBuf) (x : CkptImage) : State :=
  let s := (s.puts [(CKPT_SEQ_SEQ, b.seq), (CKPT_SFN_CAPTURE_SFN, b.sfn)]).withPair (fun p => { p with rx := none, ckpt := some b, ckptPly := some s.ply })
  let s := { s with dram := { s.dram with ckpt := some b } }
  let s := (s.ckptApply x).logNearEnd s.sfnNearEnd
  let s := if s.bit PAIR_STATUS_HANDOVER_PEND && b.sfn + 10 == s.get HANDOVER_SFN_H then s.withPair (fun p => { p with loading := true }) else s
  s.readyEval

/-- CKPT_END_RECEIVE: SIZE, CRC and every OFFSET are checked; a buffer that fails is discarded and counted (R559). -/
def execCkptEndReceive (m : List Nat) (s : State) : Out :=
  fin (s.onPair PairType.ckptEnd m (fun s x =>
    if s.active then s
    else
      let fail := (s.withPair (fun p => { p with rx := none })).bump PAIR_CNT_CKPT_FAIL
      match s.pair.rx with
      | none => fail
      | some b =>
        match joinParts b.chunks [] with
        | none => fail
        | some img =>
          if b.seq ≠ leAt x.body 0 4 ∨ img.length ≠ leAt x.body 4 4 ∨ crc32c img ≠ leAt x.body 8 4 then fail
          else match Config.ckptDecode img with
            | none => fail
            | some y => s.ckptDone { b with chunks := [], sfn := leAt x.body 12 4, image := img } y))

/-- PD_FIX is powered and its microcode loaded for a load where it is off (R562). -/
def State.fixOn (s : State) : State :=
  if s.bit (pdFld 6) && bitOf (s.get PD_STATUS_ON) 6 then s
  else
    let s := (s.put (pdFld 6) 1).pdFinish (6, true)
    { s with boot := { s.boot with loaded := 6 :: s.boot.loaded.filter (· ≠ 6) } }

/-- CHECKPOINT_LOAD_COMPLETE: the load ends, and the fix, dispatch and track state are those of the checkpoint (R562,
R563, R566). A load that fails abandons a handover (R567); after a takeover the unit then starts with no members (log 24). -/
def execCheckpointLoadComplete (ok : Bool) (s : State) : Out :=
  fin (if !s.pair.loading then s
    else
      let s := s.withPair (fun p => { p with loading := false })
      match if ok then s.pair.ckpt.bind (fun b => Config.ckptDecode b.image) else none with
      | some x => (s.fixOn.ckptLoad x).withPair (fun p => { p with hoLoaded := p.hoLoaded || s.bit PAIR_STATUS_HANDOVER_PEND })
      | none => if s.active then s.noMembers else s.handoverAbort)

/-! ## Takeover (R561, R562) -/

/-- The active unit's Bellwether slot of this superframe, or long superframe, has ended on lane `n` by the local clock. -/
def State.bellOver (s : State) (n : Nat) : Bool :=
  let slot := 1 - s.unitBit
  decide ((slot + 1) * slotNs (s.prof n) ≤ s.sinceNs + (if s.prof n = 0 then 0 else (s.time.k % 10) * 100000000))

/-- Superframes in succession without a valid Bellwether of the active unit on lane `n` (R561). -/
def State.missed (s : State) (n : Nat) : Nat :=
  (match s.pair.miss.find? (fun e => e.1 == n) with | some e => e.2 | none => 0) +
  b2n (s.bellOver n && !s.pair.bellHeard.contains n)

/-- No READY lane has heard the active unit in 3 consecutive superframes (R561). -/
def State.bellsGone (s : State) : Bool := (List.range 8).all (fun n => !s.laneReady n || decide (3 ≤ s.missed n))

/-- A boundary closes the counts of the superframe, or of the long superframe, that it ends (R561). -/
def State.missBoundary (s : State) : State :=
  let ends := fun n => s.prof n == 0 || s.time.k % 10 == 9
  let l := (List.range 8).map (fun n =>
    let m := match s.pair.miss.find? (fun e => e.1 == n) with | some e => e.2 | none => 0
    (n, if !ends n then m else if s.pair.bellHeard.contains n then 0 else min 3 (m + 1)))
  s.withPair (fun p => { p with miss := l, bellHeard := p.bellHeard.filter (fun (n : Nat) => !ends n) })

/-- TAKEOVER_DETECT: judged at the resolution point of a ply on a standby unit (R561, R562). -/
def execTakeoverDetect (s : State) : Out :=
  fin (if !s.bit PAIR_CTRL_EN ∨ s.active ∨ s.pair.listen ∨ s.pair.wait ∨ s.bit PAIR_STATUS_TAKEOVER_PEND ∨ s.pair.become then s
    else
      let a := s.bellsGone
      let b := !s.bit PAIR_STATUS_HB_OK
      if a && b then ((s.put PAIR_STATUS_TAKEOVER_PEND 1).record .takeover []).withPair (fun p => { p with become := true })
      else if a || b then (if s.pair.suspect then s else (s.record .partnerSuspect []).withPair (fun p => { p with suspect := true }))
      else s.withPair (fun p => { p with suspect := false }))

/-! ## The drill, and PAIR_GET (R548, R569) -/

/-- DRILL_DAY_COUNT: a whole day of operating hours since the unit last was active (R569). -/
def execDrillDayCount (s : State) : Out :=
  fin (if s.active ∨ s.get REC_AON_OH_SECONDS < s.pwr.dayFrom + 86400 then s
    else
      let s := { s with pwr := { s.pwr with dayFrom := s.pwr.dayFrom + 86400 } }.bump PAIR_STATUS_DAYS_SINCE_ACTIVE
      if s.get PAIR_CTRL_DRILL_DAYS < s.get PAIR_STATUS_DAYS_SINCE_ACTIVE then (s.put PAIR_STATUS_DRILL_DUE 1).record .drillDue []
      else s)

/-- PAIR_STATUS as a word. -/
def State.pairStatus (s : State) : Nat :=
  [PAIR_STATUS_ACTIVE, PAIR_STATUS_LINK, PAIR_STATUS_PAIR_SLOW, PAIR_STATUS_HB_OK, PAIR_STATUS_PARTNER_ACTIVE, PAIR_STATUS_PARTNER_STOP,
    PAIR_STATUS_READY_STANDBY, PAIR_STATUS_KEY_MISMATCH, PAIR_STATUS_TAKEOVER_PEND, PAIR_STATUS_HANDOVER_PEND, PAIR_STATUS_DRILL_DUE,
    PAIR_STATUS_DAYS_SINCE_ACTIVE].foldl (fun v f => v + s.get f * 2 ^ f.key.lo) 0

/-- PAIR_GET. -/
def execPairGet (sess tag : Nat) (s : State) : Out :=
  fin (s.ecpRun 0x0E00 sess tag [] true false (fun s =>
    (s, .final Ecp.OK ([s.get CLAIM, s.get PARTNER_CLAIM_CLAIM, s.pairStatus, s.get CKPT_SEQ_SEQ, s.get CKPT_SFN_CAPTURE_SFN,
      s.get HANDOVER_SFN_H].flatMap (leBytes 4)))))

end Sys2Proof.Machine
end

