-- ==== Sys2Proof/Machine/Site.lean ====
section
/-!
DEFINITION. Site I/O and sensing (spec/22): UARTs, I2C masters, CAN FD controllers, the rail-monitor ADC, MDIO, cable
diagnosis, and the link of an Ethernet port.
-/

namespace Sys2Proof.Machine

open R

/-! ## UARTs (R639 to R642) -/

/-- The monitor or recovery mode holds UART_0: at all times while DBG_LOCK is clear, in recovery and the safe trim state,
and once the locked monitor has taken it (R673, R675). -/
def State.monHolds (s : State) : Bool :=
  !s.bit MON_STATUS_DBG_LOCK || s.bit MON_STATUS_HELD || s.bit BOOT_STATUS_RECOVERY || s.bit TRIM_STATUS_SAFE

/-- A UART is owned by the monitor, and its settings are not applied (R640). -/
def State.uartOwned (s : State) (k : Nat) : Bool := k == 0 && s.monHolds

/-- A UART's FIFOs. -/
def State.uart (s : State) (k : Nat) : UartState := match s.site.uarts.find? (fun e => e.1 == k) with | some e => e.2 | none => {}

/-- Bytes waiting in a TX FIFO. -/
def UartState.used (u : UartState) : Nat := (u.tx.map (fun c => c.2.length)).sum

/-- A UART's FIFOs replaced; the fill counts follow. -/
def State.setUart (s : State) (k : Nat) (u : UartState) : State :=
  let s := { s with site := { s.site with uarts := s.site.uarts.filter (fun (e : Nat × UartState) => e.1 ≠ k) ++ [(k, u)] } }
  s.puts [(UART_STATUS_TX_USED k, u.used), (UART_STATUS_RX_USED k, u.rx.length)]

/-- UART_RX_BYTE: `flags` bit 0 framing error, bit 1 parity error. Bytes for the monitor or recovery mode are routed by
R676: a packet between two 0xC0 to recovery mode, every other byte to the line buffer. -/
def execUartRxByte (k byte flags : Nat) (s : State) : Out :=
  fin (if 4 ≤ k ∨ s.domOff 3 then s
    else if s.uartOwned k then
      let rec0 := s.bit BOOT_STATUS_RECOVERY && s.get STRAP_REC_IF == 0
      let b := byte % 256
      match s.boot.slip with
      | some p => { s with boot := { s.boot with slip := if b = 0xC0 then none else some (p ++ [b]) } }
      | none =>
        if rec0 && b == 0xC0 then { s with boot := { s.boot with slip := some [] } }
        else if b = 13 then { s with boot := { s.boot with line := [], lastLine := s.ply } }
        else { s with boot := { s.boot with line := s.boot.line ++ [b] } }
    else if s.get (UART_CFG_FUNC k) ≠ 2 then s
    else
      let u := s.uart k
      let s := if flags % 4 = 0 then s else s.bump (UART_CNT_RX_ERR k)
      if 1024 ≤ u.rx.length then s.bump (UART_CNT_RX_OVR k)
      else s.setUart k { u with rx := u.rx ++ [(byte % 256, flags % 4)] })

/-- A byte written to UART_DATA (R641, R642). -/
def State.uartPut (k byte : Nat) (s : State) : State :=
  if s.get (UART_CFG_FUNC k) = 1 ∧ !s.uartOwned k then s
  else if 4096 ≤ (s.uart k).used then s.bump (UART_CNT_TX_DROP k)
  else s.setUart k { s.uart k with tx := (s.uart k).tx ++ [(false, [byte % 256])] }

/-- UART_DATA_WRITE (R641). -/
def execUartDataWrite (ini k byte : Nat) (s : State) : Out :=
  fin (if k < 4 then s.asWrite ini (0x40002008 + 0x40 * k) (State.uartPut k byte) else s)

/-- A read of UART_DATA removes the oldest received byte (R641). -/
def State.uartPop (k : Nat) (s : State) : State := s.setUart k { s.uart k with rx := (s.uart k).rx.drop 1 }

/-- What it shows: VALID with the byte and its flags, or zeros. -/
def State.uartHead (s : State) (k : Nat) : Nat :=
  match (s.uart k).rx with
  | (b, f) :: _ => b + 256 + f % 2 * 512 + f / 2 % 2 * 1024
  | [] => 0

/-- UART_DATA_READ (R641). -/
def execUartDataRead (ini k : Nat) (s : State) : Out :=
  fin (if k < 4 then s.asRead ini (0x40002008 + 0x40 * k) (State.uartPop k) else s)

/-- The hand-over of UART_0: the TX FIFO is emptied, and every RTCM frame in it counts as dropped (R640). -/
def State.uartTaken (s : State) : State :=
  let u := s.uart 0
  let n := (u.tx.filter (fun c => c.1)).length
  ((s.setUart 0 { u with tx := [] }).bump (UART_CNT_RTCM_DROP 0) n).put (UART_STATUS_OWNED 0) 1

/-- UART_MONITOR_TAKE: recovery mode takes UART_0, or the monitor while DBG_LOCK is clear, in recovery and in the safe trim state (R640,
R673, R675). Elsewhere the locked monitor takes it by MON_BREAK_TAKE. -/
def execUartMonitorTake (mon : Bool) (s : State) : Out :=
  let may := s.bit BOOT_STATUS_RECOVERY || (mon && (!s.bit MON_STATUS_DBG_LOCK || s.bit TRIM_STATUS_SAFE))
  fin (if s.domOff 3 ∨ !may then s
    else if mon then s.uartTaken.put MON_STATUS_HELD 1 else s.uartTaken)

/-- The monitor gives UART_0 up; the stored settings apply again, unless something else holds it (R640, R675). -/
def State.uartGiven (s : State) : State :=
  let s := s.put MON_STATUS_HELD 0
  if s.monHolds then s else s.put (UART_STATUS_OWNED 0) 0

/-- The locked monitor has had no line for 60 s (R675). -/
def State.monIdle (s : State) : Bool :=
  s.bit MON_STATUS_DBG_LOCK && !s.bit MON_STATUS_OPEN && s.bit MON_STATUS_HELD && decide (s.boot.lastLine + 6000000 ≤ s.ply)

/-- UART_MONITOR_RELEASE: recovery mode and the safe trim state keep it, and so does the monitor while DBG_LOCK is clear (R640, R675). -/
def execUartMonitorRelease (s : State) : Out := fin (if s.monIdle then s.uartGiven else s)

/-- An RTCM frame placed whole into the TX FIFO of every UART that puts out RTCM, or dropped there (R275, R642). -/
def State.uartRtcm (frame : List Nat) (s : State) : State :=
  (List.range 4).foldl (fun s k =>
    if s.get (UART_CFG_FUNC k) ≠ 1 ∨ s.uartOwned k then s
    else if 4096 < (s.uart k).used + frame.length then s.bump (UART_CNT_RTCM_DROP k)
    else s.setUart k { s.uart k with tx := (s.uart k).tx ++ [(true, frame)] }) s

/-- CLK_PER cycles of one character with the settings in force (R639, R640). -/
def State.uartCycles (s : State) (k : Nat) : Nat :=
  if s.uartOwned k then 8680
  else (10 + b2n (s.get (UART_CFG_PARITY k) != 0) + s.get (UART_CFG_STOP2 k)) * s.get (UART_CFG_DIV k)

/-- The first byte of the chunks, and what is left. -/
def txNext : List (Bool × List Nat) → Option (Nat × List (Bool × List Nat))
  | [] => none
  | (_, []) :: t => txNext t
  | (r, b :: l) :: t => some (b, if l.isEmpty then t else (r, l) :: t)

/-- Characters that start on a TX ball in `cyc` CLK_PER cycles (R641). -/
def State.uartSend (k : Nat) : Nat → Nat → State → State
  | 0, _, s => s
  | f + 1, cyc, s =>
    let u := s.uart k
    if cyc < u.wait then s.setUart k { u with wait := u.wait - cyc }
    else match txNext u.tx with
      | none => if u.wait = 0 then s else s.setUart k { u with wait := 0 }
      | some (b, t) =>
        State.uartSend k f (cyc - u.wait) ((s.setUart k { u with tx := t, wait := s.uartCycles k }).emit (.uart k b))

/-- One ply of a UART's output; with FLOW set a character starts only while CTS_N is low; OFF holds TX high (R639,
R641). -/
def State.uartPly (ctsHigh : List Nat) (s : State) (k : Nat) : State :=
  let off := !s.uartOwned k && (s.get (UART_CFG_FUNC k) == 0 || (s.bit (UART_CFG_FLOW k) && ctsHigh.contains k))
  if off ∨ ((s.uart k).tx.isEmpty ∧ (s.uart k).wait = 0) then s else State.uartSend k 8 1000 s

/-! ## I2C (R643, R644) -/

/-- A GO that has no effect (R643). -/
def State.i2cDenied (s : State) (k : Nat) : Bool := s.bit (I2C_STATUS_BUSY k)

/-- A write to I2C_CMD; a GO with WLEN and RLEN 0 is a reserved transaction (R15, R643). -/
def State.i2cCmd (k data : Nat) (s : State) : State :=
  if bitOf data 31 && (s.i2cDenied k || (bits data 17 12 == 0 && bits data 5 0 == 0)) then s
  else if bits data 30 29 = 3 ∨ 32 < bits data 17 12 ∨ 32 < bits data 5 0 then s
  else
    let s := s.puts [(I2C_CMD_SPEED k, bits data 30 29), (I2C_CMD_ADDR k, bits data 28 22), (I2C_CMD_WLEN k, bits data 17 12),
      (I2C_CMD_RLEN k, bits data 5 0)]
    if bitOf data 31 then s.put (I2C_STATUS_BUSY k) 1 else s

/-- I2C_GO (R643). -/
def execI2cGo (ini k data : Nat) (s : State) : Out :=
  fin (if k < 2 ∧ bitOf data 31 then s.asWrite ini (0x40002200 + 0x80 * k) (State.i2cCmd k data) else s)

/-- A byte of I2C_BUF set. -/
def State.i2cByte (k : Nat) (s : State) (e : Nat × Nat) : State :=
  let f := I2C_BUF_DATA k (e.1 / 4)
  let sh := 256 ^ (e.1 % 4)
  s.put f (s.get f - s.get f / sh % 256 * sh + e.2 % 256 * sh)

/-- An end of a transaction that R643 and R644 allow: written bytes come first, then read bytes; OK after all of them; ADDR_NACK at one of
its addresses; DATA_NACK within the written bytes; BUS_STUCK before it starts. -/
def i2cEndOk (wlen rlen result count read : Nat) : Bool :=
  decide (count ≤ wlen + rlen) && read == count - wlen && decide (read ≤ 32) &&
  match result with
  | 0 => count == wlen + rlen
  | 1 => count == 0 || (count == wlen && rlen != 0)
  | 2 => decide (count < wlen)
  | 3 | 4 => true
  | 5 => count == 0
  | _ => false

/-- The `n` first bytes of I2C_BUF. -/
def State.i2cBytes (s : State) (k n : Nat) : List Nat := ((List.range 8).flatMap (fun w => leBytes 4 (s.get (I2C_BUF_DATA k w)))).take n

/-- I2C_TRANSACTION_END: RESULT, the bytes transferred, the bytes read (R643, R644). COUNT has no room for all 64 bytes of the
longest transaction; its value then is free. -/
def execI2cTransactionEnd (k result count : Nat) (rx : List Nat) (s : State) : Out :=
  let wlen := s.get (I2C_CMD_WLEN k)
  fin (if 2 ≤ k ∨ !s.bit (I2C_STATUS_BUSY k) ∨ !i2cEndOk wlen (s.get (I2C_CMD_RLEN k)) result count rx.length then s
    else
      let s := if result = 5 then s else s.emit (.i2c k (s.get (I2C_CMD_ADDR k)) (s.i2cBytes k (min count wlen)) rx.length)
      let s := (rx.zipIdx.map (fun e => (e.2, e.1))).foldl (State.i2cByte k) s
      let s := s.puts [(I2C_STATUS_BUSY k, 0), (I2C_STATUS_DONE k, 1), (I2C_STATUS_RESULT k, result)]
      if count < 64 then s.put (I2C_STATUS_COUNT k) count else (s.put (I2C_STATUS_COUNT k) s.freeVal).useFree)

/-! ## CAN FD (R645 to R649) -/

/-- A controller's frames. -/
def State.can (s : State) (k : Nat) : CanState := match s.site.cans.find? (fun e => e.1 == k) with | some e => e.2 | none => {}

/-- Data bytes of a DLC (ISO 11898-1). -/
def dlcBytes (fdf dlc : Nat) : Nat := if fdf = 0 then min dlc 8 else [0, 1, 2, 3, 4, 5, 6, 7, 8, 12, 16, 20, 24, 32, 48, 64].getD dlc 0

/-- The window shows the oldest received frame; empty it reads as at reset (R647). -/
def State.canWindow (s : State) (k : Nat) : State :=
  let c := s.can k
  let s := s.put (CAN_STATUS_RX_USED k) c.rx.length
  let e := c.rx.headD (⟨0, 0, 0, 0, 0, []⟩, 0, 0)
  let s := s.puts [(CAN_RX_W0_IDE k, e.1.ide), (CAN_RX_W0_FDF k, e.1.fdf), (CAN_RX_W0_BRS k, e.1.brs), (CAN_RX_W0_ID k, e.1.id),
    (CAN_RX_W1_FILTER k, e.2.1), (CAN_RX_W1_DLC k, e.1.dlc), (CAN_RX_W1_LEN k, e.1.data.length), (CAN_RX_W2_PLY k, e.2.2)]
  (List.range 16).foldl (fun s w => s.put (CAN_RX_D_DATA k w) (leAt e.1.data (4 * w) 4)) s

/-- A controller's frames replaced. -/
def State.setCan (s : State) (k : Nat) (c : CanState) : State :=
  ({ s with site := { s.site with cans := s.site.cans.filter (fun (e : Nat × CanState) => e.1 ≠ k) ++ [(k, c)] } }).canWindow k

/-- A controller takes part in bus traffic (R649). -/
def State.canOn (s : State) (k : Nat) : Bool := decide (k < 2) && s.bit (CAN_CFG_EN k) && decide (s.get (CAN_STATUS_STATE k) < 2)

/-- The lowest enabled filter that a frame passes (R647). -/
def State.canFilter (s : State) (k ide id : Nat) : Option Nat :=
  (List.range 32).find? (fun f => s.bit (CAN_FILT_ID_EN k f) && s.get (CAN_FILT_ID_IDE k f) == ide &&
    ((id ^^^ s.get (CAN_FILT_ID_ID k f)) &&& s.get (CAN_FILT_MASK_MASK k f)) == 0)

/-- CAN_FRAME_RECEIVE of a data frame (R645, R647). -/
def execCanFrameReceive (k ide fdf brs id dlc : Nat) (data : List Nat) (s : State) : Out :=
  fin (if !s.canOn k ∨ 2 ≤ ide ∨ 2 ≤ fdf ∨ 2 ≤ brs ∨ 2 ^ 29 ≤ id ∨ data.length ≠ dlcBytes fdf dlc ∨ (fdf = 1 ∧ !s.bit (CAN_CFG_FD k)) then s
    else match s.canFilter k ide id with
      | none => s
      | some f =>
        let c := s.can k
        if 64 ≤ c.rx.length then s.bump (CAN_CNT_RX_OVR k)
        else s.setCan k { c with rx := c.rx ++ [(⟨ide, fdf, brs, id, dlc, data⟩, f, s.ply % 2 ^ 32)] })

/-- POP removes the oldest frame (R647). -/
def State.canPop (k : Nat) (s : State) : State := s.setCan k { s.can k with rx := (s.can k).rx.drop 1 }

/-- CAN_RX_POP (R647). -/
def execCanRxPop (ini k : Nat) (s : State) : Out :=
  fin (if k < 2 then s.asWrite ini (0x4000264C + 0x400 * k) (State.canPop k) else s)

/-- GO copies the staging words into a transmit buffer and makes it pending (R648). -/
def State.canGo (k b : Nat) (s : State) : State :=
  let fdf := s.get (CAN_TX_W0_FDF k)
  let dlc := s.get (CAN_TX_W1_DLC k)
  let data := ((List.range 16).flatMap (fun w => leBytes 4 (s.get (CAN_TX_D_DATA k w)))).take (dlcBytes fdf dlc)
  let f : CanFrame := ⟨s.get (CAN_TX_W0_IDE k), fdf, s.get (CAN_TX_W0_BRS k), s.get (CAN_TX_W0_ID k), dlc, data⟩
  let c := s.can k
  (s.setCan k { c with tx := c.tx.filter (fun (e : Nat × CanFrame × Nat) => e.1 ≠ b) ++ [(b, f, c.goes)], goes := c.goes + 1 }).putBit (CAN_TXPEND_PENDING k) b true

/-- A write to CAN_TXCMD; `onBus`: the frame of the buffer is on the bus (R648). -/
def State.canTxCmd (k b : Nat) (go abort onBus : Bool) (s : State) : State :=
  let s := if go then s.canGo k b else s
  if abort && !onBus then s.putBit (CAN_TXPEND_PENDING k) b false else s

/-- CAN_TX_GO (R648). -/
def execCanTxGo (ini k b : Nat) (s : State) : Out :=
  fin (if k < 2 ∧ b < 32 then s.asWrite ini (0x40002748 + 0x400 * k) (State.canTxCmd k b true false false) else s)

/-- CAN_TX_ABORT (R648, R658). -/
def execCanTxAbort (ini k b : Nat) (onBus : Bool) (s : State) : Out :=
  fin (if k < 2 ∧ b < 32 then s.asWrite ini (0x40002748 + 0x400 * k) (State.canTxCmd k b false true onBus) else s)

/-- The bits that arbitrate, as a number that wins where it is lower: base identifier, IDE, identifier extension (ISO 11898-1). PRESUMED
(log 129): a base identifier lies in bits 10 to 0 of ID. -/
def canRank (f : CanFrame) : Nat :=
  if f.ide = 0 then f.id % 2 ^ 11 * 2 ^ 19 else f.id / 2 ^ 18 * 2 ^ 19 + 2 ^ 18 + f.id % 2 ^ 18

/-- The pending buffer that is offered once `gos` GOs have been taken: the highest arbitration priority, and between equal identifiers the
lower index (R648). -/
def State.canOffer (s : State) (k gos : Nat) : Option (Nat × CanFrame × Nat) :=
  ((s.can k).tx.filter (fun e => s.getBit (CAN_TXPEND_PENDING k) e.1 && decide (e.2.2 < gos))).foldl (fun m e =>
    match m with
    | none => some e
    | some x => if canRank e.2.1 < canRank x.2.1 ∨ (canRank e.2.1 = canRank x.2.1 ∧ e.1 < x.1) then some e else some x) none

/-- CAN_TX_COMPLETE: the frame of a pending buffer has been sent; it was the one offered when the frame began, `gos` GOs having been taken
(R648). -/
def execCanTxComplete (k b gos : Nat) (s : State) : Out :=
  fin (if !s.canOn k ∨ 32 ≤ b then s
    else match s.canOffer k gos with
      | none => s
      | some (b', f, _) => if b' ≠ b then s else ((s.putBit (CAN_TXPEND_PENDING k) b false).putBit (CAN_TXDONE_SENT k) b true).emit
          (.can k f.ide f.fdf f.brs f.id f.dlc f.data))

/-- CAN_BUS_OFF: the transmit error counter passes 255 (ISO 11898-1, R649). TEC then shows 255, the most it holds. -/
def execCanBusOff (k rec tec : Nat) (s : State) : Out :=
  fin (if !s.canOn k ∨ tec < 256 then s
    else ((s.puts [(CAN_STATUS_STATE k, 2), (CAN_STATUS_REC k, rec), (CAN_STATUS_TEC k, 255)]).bump (CAN_CNT_BUS_OFF k)).record .canBusOff [k])

/-- CAN_BUS_OFF_RECOVERY: `seen` occurrences of 11 consecutive recessive bits, of which 128 let the controller rejoin (R649). -/
def execCanBusOffRecovery (k seen : Nat) (s : State) : Out :=
  fin (if k < 2 ∧ 128 ≤ seen ∧ s.bit (CAN_CFG_EN k) ∧ s.get (CAN_STATUS_STATE k) = 2 ∧ s.bit (CAN_CFG_AUTO_RECOVER k) then
    s.puts [(CAN_STATUS_STATE k, 0), (CAN_STATUS_REC k, 0), (CAN_STATUS_TEC k, 0)] else s)

/-- CAN_ERROR_PASSIVE: the error counters cross the threshold of ISO 11898-1, 128, either way (R649). -/
def execCanErrorPassive (k rec tec : Nat) (s : State) : Out :=
  fin (if !s.canOn k then s
    else
      let st := b2n (decide (128 ≤ rec ∨ 128 ≤ tec))
      let t := s.puts [(CAN_STATUS_STATE k, st), (CAN_STATUS_REC k, rec), (CAN_STATUS_TEC k, tec)]
      if st = 1 ∧ s.get (CAN_STATUS_STATE k) = 0 then t.record .canPassive [k] else t)

/-- EN set puts the controller on the bus, EN cleared takes it off (R649). -/
def State.canEn (k : Nat) (s : State) : State :=
  if !s.bit (CAN_CFG_EN k) then s.put (CAN_STATUS_STATE k) 3
  else if s.get (CAN_STATUS_STATE k) = 3 then s.puts [(CAN_STATUS_STATE k, 0), (CAN_STATUS_REC k, 0), (CAN_STATUS_TEC k, 0)]
  else s

/-! ## The rail-monitor ADC (R651 to R653) -/

/-- Full scale of a channel in mV (R651). -/
def adcScale (n : Nat) : Nat := [1200, 1200, 1200, 1200, 1600, 1600, 2400, 2400, 4800, 4800, 0, 1200, 1200, 1200, 1200].getD n 0

/-- `a / b` rounded to the nearest; halves go either way (log 12). -/
def roundDiv (a b : Nat) : Nat :=
  a / b + (if b < 2 * (a % b) then 1 else if 2 * (a % b) = b ∧ Config.roundUp a b then 1 else 0)

/-- VALUE of a conversion: mV, or 0.1 °C over -50 to 150 °C for channel 10 (R651, R652). -/
def adcValue (n code : Nat) : Int :=
  if n = 10 then -500 + (roundDiv (code * 2000) 4096 : Nat) else (roundDiv (code * adcScale n) 4096 : Nat)

/-- A threshold or extreme as a number: signed for channel 10 (R652). -/
def State.adcGet (s : State) (n : Nat) (f : Fld) : Int := if n = 10 then s.getS f else (s.get f : Nat)

/-- One conversion of a channel: CODE, VALUE, the extremes (R652, R653). -/
def State.adcSample (n : Nat) (s : State) (code : Nat) : State :=
  let v := adcValue n code
  let loaded := s.site.adcLoaded.contains n
  let hi := if loaded ∧ v ≤ s.adcGet n (ADC_CH_W2_MAX n) then s.adcGet n (ADC_CH_W2_MAX n) else v
  let lo := if loaded ∧ s.adcGet n (ADC_CH_W2_MIN n) ≤ v then s.adcGet n (ADC_CH_W2_MIN n) else v
  let s := { s with site := { s.site with adcLoaded := n :: s.site.adcLoaded.filter (· ≠ n) } }
  (((s.put (ADC_CH_W0_CODE n) code).putS (ADC_CH_W0_VALUE n) v).putS (ADC_CH_W2_MAX n) hi).putS (ADC_CH_W2_MIN n) lo

/-- Conversions of a channel are taken while the ADC runs (R651, R652). -/
def State.adcTakes (s : State) (n : Nat) (codes : List Nat) : Bool :=
  !s.domOff 3 && s.bit ADC_CTRL_EN && decide (n < 15) && codes.all (fun c => decide (c < 4096))

/-- The last N conversions all satisfy `p` (R653). -/
def State.adcRun (s : State) (codes : List Nat) (p : Nat → Bool) : Bool :=
  let m := s.get ADC_CTRL_N
  decide (codes ≠ [] ∧ m ≤ codes.length) && (codes.drop (codes.length - m)).all p

/-- The threshold state of a channel, and the sticky flags. -/
def adcLive (high : Bool) : Fld := if high then ADC_LIVE_HIGH_NOW else ADC_LIVE_LOW_NOW
def adcFlag (high : Bool) : Fld := if high then ADC_FLAGS_HIGH else ADC_FLAGS_LOW

/-- ADC_THRESHOLD_ENTRY: consecutive samples of a channel, the last N of which lie beyond the threshold (R653). -/
def execAdcThresholdEntry (n : Nat) (high : Bool) (codes : List Nat) (s : State) : Out :=
  fin (
    let above := fun (c : Nat) => if high then decide (s.adcGet n (ADC_CH_W1_HIGH n) < adcValue n c) else decide (adcValue n c < s.adcGet n (ADC_CH_W1_LOW n))
    if !s.adcTakes n codes then s
    else if s.getBit (adcLive high) n ∨ !s.adcRun codes above then codes.foldl (State.adcSample n) s
    else
      let s := codes.foldl (State.adcSample n) s
      let s := (s.putBit (adcLive high) n true).putBit (adcFlag high) n true
      (s.emit (.irqApps 370)).record .siteAdc ([n] ++ leBytes 2 (s.get (ADC_CH_W0_VALUE n))))

/-- ADC_THRESHOLD_EXIT: consecutive samples of a channel, the last N of which lie back inside the hysteresis (R653). -/
def execAdcThresholdExit (n : Nat) (high : Bool) (codes : List Nat) (s : State) : Out :=
  fin (
    let h : Int := (s.get (ADC_CH_W3_HYST n) : Nat)
    let back := fun (c : Nat) => if high then decide (adcValue n c < s.adcGet n (ADC_CH_W1_HIGH n) - h) else decide (s.adcGet n (ADC_CH_W1_LOW n) + h < adcValue n c)
    if !s.adcTakes n codes then s
    else if !s.getBit (adcLive high) n ∨ !s.adcRun codes back then codes.foldl (State.adcSample n) s
    else
      let s := (codes.foldl (State.adcSample n) s).putBit (adcLive high) n false
      s.record .siteAdc ([n] ++ leBytes 2 (s.get (ADC_CH_W0_VALUE n))))

/-! ## MDIO and cable diagnosis (R654 to R656) -/

/-- A GO that has no effect (R654). -/
def State.mdioDenied (s : State) : Bool := s.bit MDIO_STATUS_BUSY || s.site.cable.isSome

/-- A write to MDIO_CMD; clause 22 knows OP 1 and 2 only (R15, R654). -/
def State.mdioCmd (data : Nat) (s : State) : State :=
  let op := bits data 29 28
  if (!bitOf data 30 ∧ bitOf data 31 ∧ op ≠ 1 ∧ op ≠ 2) ∨ (bitOf data 31 ∧ s.mdioDenied) then s
  else
    let s := s.puts [(MDIO_CMD_C45, bits data 30 30), (MDIO_CMD_OP, op), (MDIO_CMD_PHY, bits data 27 23), (MDIO_CMD_REG, bits data 22 18),
      (MDIO_CMD_DATA, bits data 15 0)]
    if bitOf data 31 then (s.put MDIO_STATUS_BUSY 1).emit (.mdio (bitOf data 30) op (bits data 27 23) (bits data 22 18) (bits data 15 0)) else s

/-- MDIO_GO (R654). -/
def execMdioGo (ini data : Nat) (s : State) : Out :=
  fin (if bitOf data 31 then s.asWrite ini 0x40003200 (State.mdioCmd data) else s)

/-- MDIO_COMPLETE: a read brings RDATA (R654). -/
def execMdioComplete (rdata : Nat) (s : State) : Out :=
  fin (if !s.bit MDIO_STATUS_BUSY then s
    else
      let s := s.puts [(MDIO_STATUS_BUSY, 0), (MDIO_STATUS_DONE, 1)]
      if 2 ≤ s.get MDIO_CMD_OP then s.put MDIO_STATUS_RDATA rdata else s)

/-- The link of a port goes down or comes up at a speed: the timestamp corrections follow the speed, PAIR_SLOW and the time
of a link-down with it, and stream messages that waited for the link go (R195, R305, R543, R655). -/
def State.linkSet (s : State) (p : Nat) (up : Bool) (speed : Nat) : State :=
  let down := s.site.downAt.filter (fun (e : Nat × Nat) => e.1 ≠ p)
  let s := { s with site := { s.site with downAt := if up then down else
    (match s.site.downAt.find? (fun (e : Nat × Nat) => e.1 == p) with | some e => down ++ [e] | none => down ++ [(p, s.ply)]) } }
  let s := if up then
      (s.puts [(ETH_CFG_LINK p, 1), (ETH_CFG_SPEED p, speed), (ETH_CORR_EGRESS p, (ethCorr speed).1), (ETH_CORR_INGRESS p, (ethCorr speed).2)])
    else s.put (ETH_CFG_LINK p) 0
  let s := if p = 5 then s.pairSlow else s
  if up then s.drainAll else s

/-- ETH_LINK_CHANGE (R305, R543). -/
def execEthLinkChange (p : Nat) (up : Bool) (speed : Nat) (s : State) : Out :=
  fin (if 6 ≤ p ∨ s.domOff 9 ∨ 3 ≤ speed then s else s.linkSet p up speed)

/-- A request for a run is refused (R655). -/
def State.cableRefused (s : State) (p : Nat) (force profile : Bool) : Bool :=
  (s.bit (ETH_CFG_LINK p) && !force) || (p == 5 && s.bit PAIR_CTRL_EN) || !profile || s.site.cable.isSome

/-- A run starts, or is refused; the link is down for the run (R655). -/
def State.cableStart (p : Nat) (force profile : Bool) (s : State) : State :=
  if s.cableRefused p force profile then s.put (CABLE_W0_REFUSED p) 1
  else (({ s with site := { s.site with cable := some p } }).linkSet p false 0).put (CABLE_W0_BUSY p) 1

/-- A write to CABLE_CTRL; `profile`: the settings blob holds a PHY profile for the port (R655). -/
def State.cableCtrl (data : Nat) (profile : Bool) (s : State) : State :=
  if 6 ≤ bits data 2 0 ∨ !bitOf data 31 then s else s.cableStart (bits data 2 0) (bitOf data 30) profile

/-- CABLE_DIAG_GO (R655). -/
def execCableDiagGo (ini data : Nat) (profile : Bool) (s : State) : Out :=
  fin (if bitOf data 31 then s.asWrite ini 0x40003210 (State.cableCtrl data profile) else s)

/-- Ply since which a port's link is down: the release of PD_NET where it has not changed since. -/
def State.linkDownAt (s : State) (p : Nat) : Nat := match s.site.downAt.find? (fun (e : Nat × Nat) => e.1 == p) with | some e => e.2 | none => 0

/-- CABLE_LINK_DOWN_EXPIRY: an enabled port's link has been down for 10 s; after the first run of a release of PD_NET at most
one run per hour (R655). -/
def execCableLinkDownExpiry (p : Nat) (profile : Bool) (s : State) : Out :=
  fin (
    let last : Option (Nat × Nat) := s.site.autoAt.find? (fun (e : Nat × Nat) => e.1 == p)
    let due := match last with | some e => decide (e.2 + 360000000 ≤ s.ply) | none => true
    if 6 ≤ p ∨ s.domOff 9 ∨ !s.bit (ETH_CFG_EN p) ∨ s.bit (ETH_CFG_LINK p) ∨ s.ply < s.linkDownAt p + 1000000 ∨ !due then s
    else
      let s := { s with site := { s.site with autoAt := s.site.autoAt.filter (fun (e : Nat × Nat) => e.1 ≠ p) ++ [(p, s.ply)] } }
      s.cableStart p false profile)

/-- CABLE_DIAG_COMPLETE: a status and a length for each pair A to D (R656). -/
def execCableDiagComplete (st len : List Nat) (s : State) : Out :=
  fin (if st.length = 4 ∧ len.length = 4 ∧ st.all (fun x => decide (x ≤ 5)) then s.cableEnd st len else s)

end Sys2Proof.Machine
end

