-- ==== Sys2Proof/Machine/Balls.lean ====
section
/-!
DEFINITION. What the device drives on the balls that R59 lists, on HSPI_IRQ_N (R177) and UART_k_RTS_N (R641): a function of the state, which no command
reads. Pulses and frames on them are outputs (log 5).
-/

namespace Sys2Proof.Machine

open R

/-- What stands on a ball: a level, no drive, an SGMII output without swing, the reset or the refresh-only commands of JESD79-4, or the
unit's own signal. -/
inductive Level where
  | low | high | hiZ | noSwing | ddrReset | ddrRefresh | signal
  deriving DecidableEq, Repr

/-- The balls of R59, HSPI_IRQ_N and UART_k_RTS_N. -/
inductive Ball where
  | rly (n : Nat) | estopDrv (j : Nat) | laneEn (n : Nat) | ppsOut (n : Nat) | laneLvds (n : Nat) | feLvds (f : Nat) | caltone (f : Nat)
  | sgmiiTx (p : Nat) | ospiResetN | ddrResetN (c : Nat) | ddrCmd (c : Nat) | rookFaultN | mainEn | thermtripN | hspiIrqN | rtsN (k : Nat)
  deriving DecidableEq, Repr

/-- The rails that supply a ball (R47): 8 VDD_IO33, 6 VDD_IO18, 7 VDDA18, 3 VDD_SERDES, 4 and 5 VDDQ, 9 VBAT. -/
def Ball.rail : Ball → Nat
  | .rly _ | .estopDrv _ | .laneEn _ | .ppsOut _ | .rookFaultN | .thermtripN | .hspiIrqN | .rtsN _ => 8
  | .laneLvds _ | .feLvds _ | .ospiResetN => 6
  | .caltone _ => 7
  | .sgmiiTx _ => 3
  | .ddrResetN c | .ddrCmd c => 4 + c
  | .mainEn => 9

/-- The ball's supply is off: its rail is not valid, or MAIN_EN is low (R59). -/
def State.ballOff (s : State) (b : Ball) : Bool :=
  !s.pwr.railValid.contains b.rail || (b.rail != 9 && !s.pwr.mainEn)

/-- A level by a flag. -/
def Level.of (b : Bool) : Level := if b then .high else .low

/-- UART_k may take characters: with FLOW in force its RX FIFO has at least 64 bytes free (R640, R641). -/
def State.uartReady (s : State) (k : Nat) : Bool :=
  s.uartOwned k || !s.bit (UART_CFG_FLOW k) || decide ((s.uart k).rx.length + 64 ≤ 1024)

/-- What the device drives on a powered ball: the state of R59 while a reset covers its domain, else its own. -/
def State.ballOn (s : State) : Ball → Level
  | .rly n => if s.rookHeld then .low else .of (s.getBit RELAY_STATUS_DRIVE n)
  | .estopDrv j => if s.rookHeld then .low else .of (s.drvHigh j)
  | .laneEn n => if s.rst.held.contains .radio then .low else .of (s.bit (LANE_CFG_EN n))
  | .ppsOut _ => .low
  | .laneLvds n => if s.rst.held.contains .radio || !s.bit (LANE_CFG_EN n) then .hiZ else .signal
  | .feLvds _ => if s.rst.held.contains .gnss then .hiZ else .signal
  | .caltone f => if s.rst.held.contains .gnss || !s.bit (CAL_CTRL_EN f) then .hiZ else .signal
  | .sgmiiTx _ => if s.rst.held.contains .net then .noSwing else .signal
  | .ospiResetN | .ddrResetN _ => .of (!s.rst.held.contains .rstctl)
  | .ddrCmd _ => if s.rst.held.contains .dram then .ddrReset else if s.dram.refreshOnly then .ddrRefresh else .signal
  | .rookFaultN => if s.rookFaultLow then .low else .hiZ
  | .mainEn => .of s.pwr.mainEn
  | .thermtripN => if s.pwr.thermTrip then .low else .hiZ
  | .hspiIrqN => .of s.ecp.spiOut.isEmpty
  | .rtsN k => .of (!s.uartReady k)

/-- What stands on a ball (R59): without supply it is high-impedance, MAIN_EN of the always-on group apart. -/
def State.ball (s : State) (b : Ball) : Level := if s.ballOff b then .hiZ else s.ballOn b

end Sys2Proof.Machine
end

