-- ==== Sys2Proof/Machine/Curve.lean ====
section
/-!
DEFINITION. ECDSA over P-256 (FIPS 186), which R573, R575, R585 and the signature checks name.
-/

namespace Sys2Proof.Machine

/-- The field prime of P-256. -/
def p256p : Nat := 0xFFFFFFFF00000001000000000000000000000000FFFFFFFFFFFFFFFFFFFFFFFF
/-- The group order of P-256. -/
def p256n : Nat := 0xFFFFFFFF00000000FFFFFFFFFFFFFFFFBCE6FAADA7179E84F3B9CAC2FC632551
/-- The base point. -/
def p256g : Nat × Nat :=
  (0x6B17D1F2E12C4247F8BCE6E563A440F277037D812DEB33A0F4A13945D898C296,
   0x4FE342E2FE1A7F9B8EE7EB4A7C0F9E162BCE33576B315ECECBB6406837BF51F5)

/-- `b ^ e` modulo `m`, over the low `n` bits of `e`. -/
def powMod (m : Nat) : Nat → Nat → Nat → Nat
  | 0, _, _ => 1 % m
  | n + 1, b, e => (if e % 2 = 1 then b else 1) * powMod m n (b * b % m) (e / 2) % m

/-- The inverse modulo a prime below 2^256. -/
def invMod (m x : Nat) : Nat := powMod m 256 (x % m) (m - 2)

/-- The line through two points, or the tangent, of slope `l` at `a`: the third point mirrored. -/
def ecThird (l : Nat) (a b : Nat × Nat) : Nat × Nat :=
  let x := (l * l + 2 * p256p - a.1 - b.1) % p256p
  (x, (l * (a.1 + p256p - x) + p256p - a.2) % p256p)

/-- Addition of points; none is the point at infinity. -/
def ecAdd : Option (Nat × Nat) → Option (Nat × Nat) → Option (Nat × Nat)
  | none, b => b
  | a, none => a
  | some a, some b =>
    if a.1 = b.1 then
      (if a.2 = b.2 ∧ a.2 ≠ 0 then
        some (ecThird ((3 * a.1 * a.1 + p256p - 3) * invMod p256p (2 * a.2) % p256p) a b)
      else none)
    else some (ecThird ((b.2 + p256p - a.2) * invMod p256p (b.1 + p256p - a.1) % p256p) a b)

/-- A multiple of a point, over the low `n` bits of the factor. -/
def ecMul : Nat → Nat → Option (Nat × Nat) → Option (Nat × Nat)
  | 0, _, _ => none
  | n + 1, k, q => ecAdd (if k % 2 = 1 then q else none) (ecMul n (k / 2) (ecAdd q q))

/-- The private key formed from 320 bits (R578). -/
def ecdsaKey (bits : Nat) : Nat := bits % (p256n - 1) + 1

/-- The public key of a private key, X then Y, 32 bytes each, big-endian. -/
def ecdsaPublic (d : Nat) : List Nat :=
  match ecMul 256 d (some p256g) with
  | some (x, y) => beBytes 32 x ++ beBytes 32 y
  | none => List.replicate 64 0

/-- A signature of a digest with the nonce `k`: r then s, 32 bytes each, big-endian. -/
def ecdsaSign (d k : Nat) (digest : List Nat) : List Nat :=
  let r := match ecMul 256 k (some p256g) with | some (x, _) => x % p256n | none => 0
  let s := invMod p256n k * (beNat digest + r * d) % p256n
  beBytes 32 r ++ beBytes 32 s

/-- A signature verifies under a public key. -/
def ecdsaVerify (pub digest sig : List Nat) : Bool :=
  let r := beNat (sig.take 32)
  let s := beNat ((sig.drop 32).take 32)
  let q := (beNat (pub.take 32), beNat ((pub.drop 32).take 32))
  let w := invMod p256n s
  let u := ecAdd (ecMul 256 (beNat digest * w % p256n) (some p256g)) (ecMul 256 (r * w % p256n) (some q))
  decide (1 ≤ r ∧ r < p256n ∧ 1 ≤ s ∧ s < p256n) && (match u with | some (x, _) => x % p256n == r | none => false)

end Sys2Proof.Machine
end

