-- ==== Sys2Proof/Machine/Keys.lean ====
section
/-!
DEFINITION. The key store's operations and the tamper watch (spec/18).
-/

namespace Sys2Proof.Machine

open R

/-! ## Slots (R575 to R577) -/

/-- A slot is occupied. -/
def State.slotUsed (s : State) (k : Nat) : Bool := s.get (KS_SLOT_W0_TYPE k) != 0

/-- Occupied slots. -/
def State.slotsUsed (s : State) : Nat := ((List.range 512).filter s.slotUsed).length

/-- A TYPE and a USE that are listed (R575). -/
def keyParamOk (typ use : Nat) : Bool := decide (1 ≤ typ) && decide (typ ≤ 4) && decide (use < 64)

/-- Bytes of a key of a TYPE. -/
def keyLen (typ : Nat) : Nat := if typ = 1 then 16 else 32

/-- Bits drawn or derived for a key of a TYPE (R578, R579). -/
def keyBits (typ : Nat) : Nat := if typ = 1 then 128 else if typ = 4 then 320 else 256

/-- The key formed from those bits. -/
def keyForm (typ : Nat) (b : List Nat) : List Nat := if typ = 4 then beBytes 32 (ecdsaKey (beNat b)) else b

/-- GEN of a slot is at its end (R577). -/
def State.genMax (s : State) (k : Nat) : Bool := s.get (KS_SLOT_W1_GEN k) == 0xFFFFFFFF

/-- A slot filled (R575). -/
def State.fillSlot (s : State) (k typ use origin : Nat) (root : Bool) (parent pgen depth : Nat) (key : List Nat) : State :=
  ({ s with ks := { s.ks with vals := s.ks.vals.filter (fun (e : Nat × List Nat) => e.1 ≠ k) ++ [(k, key)] } }).puts
    [(KS_SLOT_W0_TYPE k, typ), (KS_SLOT_W0_ORIGIN k, origin), (KS_SLOT_W0_USE k, use), (KS_SLOT_W0_ROOT_PARENT k, b2n root),
     (KS_SLOT_W0_PARENT k, parent), (KS_SLOT_W0_DEPTH k, depth), (KS_SLOT_W2_PGEN k, pgen)]

/-- A slot emptied; its GEN advances by 1, at most to its end (R582, R587). -/
def State.emptySlot (s : State) (k : Nat) : State :=
  let g := min (s.get (KS_SLOT_W1_GEN k) + 1) 0xFFFFFFFF
  ({ s with ks := { s.ks with vals := s.ks.vals.filter (fun (e : Nat × List Nat) => e.1 ≠ k) } }).puts
    [(KS_SLOT_W0_TYPE k, 0), (KS_SLOT_W0_ORIGIN k, 0), (KS_SLOT_W0_USE k, 0), (KS_SLOT_W0_ROOT_PARENT k, 0),
     (KS_SLOT_W0_PARENT k, 0), (KS_SLOT_W0_DEPTH k, 0), (KS_SLOT_W2_PGEN k, 0), (KS_SLOT_W1_GEN k, g)]

/-- The target of a fill fails step 4 of R687. -/
def State.targetTaken (s : State) (k : Nat) : Bool := s.slotUsed k || s.genMax k

/-- KEY_GENERATE's status (R572, R687). -/
def State.genStatus (s : State) (k typ use : Nat) : Nat :=
  if s.tampered then Ecp.TAMPERED
  else if 512 ≤ k ∨ !keyParamOk typ use then Ecp.BAD_PARAM
  else if s.targetTaken k then Ecp.DENIED
  else if s.bit KS_STATUS_TRNG_FAIL then Ecp.NOT_READY
  else Ecp.OK

/-- A response of OK with GEN, or a refusal. -/
def State.genAnswer (s : State) (k : Nat) : State × EcpAns := (s, .final Ecp.OK (leBytes 4 (s.get (KS_SLOT_W1_GEN k))))

/-- KEY_GENERATE: the bits of the CTR_DRBG are a free value (R579). -/
def execKeyGenerate (sess tag : Nat) (pay : List Nat) (s : State) : Out :=
  fin (s.ecpRun 0x0901 sess tag pay (pay.length == 4) false (fun s =>
    let k := leAt pay 0 2
    let typ := leAt pay 2 1
    let st := s.genStatus k typ (leAt pay 3 1)
    if st ≠ Ecp.OK then (s, .final st [])
    else
      let key := keyForm typ (beBytes (keyBits typ / 8) s.freeVal)
      ((s.useFree).fillSlot k typ (leAt pay 3 1) 1 false 0 0 0 key).genAnswer k))

/-- KEY_DERIVE's status, in the order of R687. -/
def State.deriveStatus (s : State) (p k typ use llen clen : Nat) : Nat :=
  let root := p == 0xFFFF
  if s.tampered then Ecp.TAMPERED
  else if 512 ≤ k ∨ (512 ≤ p ∧ !root) ∨ !keyParamOk typ use ∨ llen < 1 ∨ 32 < llen ∨ 64 < clen then Ecp.BAD_PARAM
  else if !root ∧ s.get (KS_SLOT_W0_TYPE p) ≠ 3 then Ecp.BAD_PARAM
  else if s.targetTaken k then Ecp.DENIED
  else if !root ∧ (!bitOf (s.get (KS_SLOT_W0_USE p)) 1 ∨ s.genMax p) then Ecp.DENIED
  else if !root ∧ ((k < 128 ∧ 128 ≤ p) ∨ 8 ≤ s.get (KS_SLOT_W0_DEPTH p)) then Ecp.BAD_PARAM
  else if !root ∧ s.orphaned p then Ecp.KEY_ORPHANED
  else Ecp.OK

/-- KEY_DERIVE (R577, R578). -/
def execKeyDerive (sess tag : Nat) (pay : List Nat) (s : State) : Out :=
  fin (s.ecpRun 0x0902 sess tag pay (decide (8 ≤ pay.length) && pay.length == 8 + leAt pay 6 1 + leAt pay 7 1) false (fun s =>
    let p := leAt pay 0 2
    let k := leAt pay 2 2
    let typ := leAt pay 4 1
    let ll := leAt pay 6 1
    let st := s.deriveStatus p k typ (leAt pay 5 1) ll (leAt pay 7 1)
    if st ≠ Ecp.OK then (s, .final st [])
    else
      let root := p == 0xFFFF
      let par := if root then rootKey else s.keyBytes p
      let key := keyForm typ (kdf par ((pay.drop 8).take ll) (pay.drop (8 + ll)) (keyBits typ))
      (if root then s.fillSlot k typ (leAt pay 5 1) 2 true 0 0 1 key
       else s.fillSlot k typ (leAt pay 5 1) 2 false p (s.get (KS_SLOT_W1_GEN p)) (s.get (KS_SLOT_W0_DEPTH p) + 1) key).genAnswer k))

/-- KEY_WRAP_IMPORT's status up to the unwrapping, in the order of R687. -/
def State.wrapStatus (s : State) (w k typ use wlen : Nat) : Nat :=
  if s.tampered then Ecp.TAMPERED
  else if 512 ≤ w ∨ 512 ≤ k ∨ !keyParamOk typ use ∨ wlen ≠ keyLen typ + 8 then Ecp.BAD_PARAM
  else if s.get (KS_SLOT_W0_TYPE w) ≠ 2 then Ecp.BAD_PARAM
  else if s.targetTaken k then Ecp.DENIED
  else if !bitOf (s.get (KS_SLOT_W0_USE w)) 3 ∨ s.genMax w then Ecp.DENIED
  else if s.orphaned w then Ecp.KEY_ORPHANED
  else Ecp.OK

/-- KEY_WRAP_IMPORT (R581). -/
def execKeyWrapImport (sess tag : Nat) (pay : List Nat) (s : State) : Out :=
  fin (s.ecpRun 0x0903 sess tag pay (decide (8 ≤ pay.length) && pay.length == 8 + leAt pay 6 2) false (fun s =>
    let w := leAt pay 0 2
    let k := leAt pay 2 2
    let typ := leAt pay 4 1
    let st := s.wrapStatus w k typ (leAt pay 5 1) (leAt pay 6 2)
    if st ≠ Ecp.OK then (s, .final st [])
    else match kwUnwrap (s.keyBytes w) (pay.drop 8) with
      | none => (s, .final Ecp.BAD_PARAM [])
      | some key => (s.fillSlot k typ (leAt pay 5 1) 4 false 0 0 0 key).genAnswer k))

/-- The initiators of an import in the clear (R580). -/
def importIni (ini : Nat) : Bool := isApp ini || ini == 0x3E

/-- An import in the clear and its status (R580, R687). -/
def State.importClear (s : State) (ini k typ use : Nat) (key : List Nat) : State × Nat :=
  if s.tampered then (s, Ecp.TAMPERED)
  else if 512 ≤ k ∨ !keyParamOk typ use ∨ key.length ≠ keyLen typ then (s, Ecp.BAD_PARAM)
  else if s.targetTaken k ∨ !s.bit KS_CTRL_IMPORT_EN ∨ !importIni ini then (s, Ecp.DENIED)
  else (((s.fillSlot k typ use 3 false 0 0 0 key).bump KS_CNT2_IMPORTS).record .keyImported (leBytes 2 k ++ [ini]) ini, Ecp.OK)

/-- KEY_IMPORT_CLEAR by a core or the monitor (R580). -/
def execKeyImportClear (ini k typ use : Nat) (key : List Nat) (s : State) : Out := fin (s.importClear ini k typ use key).1

/-- KEY_INVALIDATE (R582). -/
def execKeyInvalidate (sess tag : Nat) (pay : List Nat) (s : State) : Out :=
  fin (s.ecpRun 0x0904 sess tag pay (pay.length == 4) false (fun s =>
    let k := leAt pay 0 2
    if s.tampered then (s, .final Ecp.TAMPERED [])
    else if 512 ≤ k ∨ leAt pay 2 2 ≠ 0 then (s, .final Ecp.BAD_PARAM [])
    else if s.genMax k then (s, .final Ecp.DENIED [])
    else (((s.emptySlot k).bump KS_CNT2_INVALIDATIONS).record .keyInvalidated (leBytes 2 k)).genAnswer k))

/-- W0 of a slot with ORPHANED evaluated now (R576). -/
def State.slotW0 (s : State) (k : Nat) : Nat :=
  s.get (KS_SLOT_W0_TYPE k) * 2 ^ 29 + s.get (KS_SLOT_W0_ORIGIN k) * 2 ^ 26 + s.get (KS_SLOT_W0_USE k) * 2 ^ 20 +
  b2n (s.orphaned k) * 2 ^ 19 + s.get (KS_SLOT_W0_ROOT_PARENT k) * 2 ^ 18 + s.get (KS_SLOT_W0_PARENT k) * 2 ^ 9 +
  s.get (KS_SLOT_W0_DEPTH k) * 2 ^ 5

/-- KEY_INFO (R575): it answers while TAMPERED is set. -/
def execKeyInfo (sess tag : Nat) (pay : List Nat) (s : State) : Out :=
  fin (s.ecpRun 0x0900 sess tag pay (pay.length == 4) false (fun s =>
    let k := leAt pay 0 2
    if 512 ≤ k ∨ leAt pay 2 2 ≠ 0 then (s, .final Ecp.BAD_PARAM [])
    else (s, .final Ecp.OK (leBytes 4 (s.slotW0 k) ++ leBytes 4 (s.get (KS_SLOT_W1_GEN k)) ++ leBytes 4 (s.get (KS_SLOT_W2_PGEN k)) ++
      [b2n (s.orphaned k), 0, 0, 0]))))

/-- The public key of a slot; zeros for other types. -/
def State.slotPublic (s : State) (k : Nat) : List Nat :=
  if s.get (KS_SLOT_W0_TYPE k) = 4 then ecdsaPublic (beNat (s.keyBytes k)) else List.replicate 64 0

/-- KEY_PUBLIC (R575, R577). -/
def execKeyPublic (sess tag : Nat) (pay : List Nat) (s : State) : Out :=
  fin (s.ecpRun 0x0907 sess tag pay (pay.length == 4) false (fun s =>
    let k := leAt pay 0 2
    if s.tampered then (s, .final Ecp.TAMPERED [])
    else if 512 ≤ k ∨ leAt pay 2 2 ≠ 0 then (s, .final Ecp.BAD_PARAM [])
    else if s.get (KS_SLOT_W0_TYPE k) ≠ 4 ∨ s.genMax k then (s, .final Ecp.DENIED [])
    else if s.orphaned k then (s, .final Ecp.KEY_ORPHANED [])
    else (s, .final Ecp.OK (s.slotPublic k))))

/-! ## Attestation (R573, R585) -/

/-- Every ancestor of a slot is DERIVED, GENERATED or ROOT, over at most `n` of them. -/
def State.rooted (s : State) : Nat → Nat → Bool
  | 0, _ => true
  | n + 1, k =>
    if s.get (KS_SLOT_W0_ORIGIN k) ≠ 2 ∨ s.bit (KS_SLOT_W0_ROOT_PARENT k) then true
    else
      let p := s.get (KS_SLOT_W0_PARENT k)
      (s.get (KS_SLOT_W0_ORIGIN p) == 1 || s.get (KS_SLOT_W0_ORIGIN p) == 2) && s.rooted n p

/-- Bytes 0 to 111 of a statement. -/
def State.attestBytes (s : State) (k : Nat) (nonce : List Nat) : List Nat :=
  leBytes 4 0x54415A42 ++ [1, s.get (KS_SLOT_W0_TYPE k), s.get (KS_SLOT_W0_ORIGIN k), s.get (KS_SLOT_W0_USE k)] ++ leBytes 2 k ++
  [s.get (KS_SLOT_W0_DEPTH k), b2n (s.rooted 9 k) + 2 * b2n (decide (k < 128))] ++ leBytes 4 (s.get (KS_SLOT_W1_GEN k)) ++ nonce ++
  leBytes 8 s.ply ++ (List.range 8).map (fun i => Config.serialByte i % 256) ++ s.slotPublic k

/-- The attestation key (R573). -/
def attestKey : Nat :=
  ecdsaKey (beNat (kdf rootKey [0x42, 0x5A, 0x2D, 0x41, 0x54, 0x54, 0x45, 0x53, 0x54] [] 320))

/-- KEY_ATTEST (R585); the signature's nonce is fresh random bits, a free value (R572). -/
def execKeyAttest (sess tag : Nat) (pay : List Nat) (s : State) : Out :=
  fin (s.ecpRun 0x0905 sess tag pay (pay.length == 20) false (fun s =>
    let k := leAt pay 0 2
    if s.tampered then (s, .final Ecp.TAMPERED [])
    else if 512 ≤ k ∨ leAt pay 2 2 ≠ 0 ∨ !s.slotUsed k then (s, .final Ecp.BAD_PARAM [])
    else if s.genMax k then (s, .final Ecp.DENIED [])
    else if s.orphaned k then (s, .final Ecp.KEY_ORPHANED [])
    else if s.bit KS_STATUS_TRNG_FAIL then (s, .final Ecp.NOT_READY [])
    else
      let b := s.attestBytes k (pay.drop 4)
      (s.useFree, .final Ecp.OK (b ++ ecdsaSign attestKey (ecdsaKey s.freeVal) (sha256 b)))))

/-- Length of the certificate (R573). -/
def certLength : Nat := min Config.certLen 1024

/-- KEY_CERT (R573): it answers while TAMPERED is set. -/
def execKeyCert (sess tag : Nat) (pay : List Nat) (s : State) : Out :=
  fin (s.ecpRun 0x0906 sess tag pay (pay.length == 4) false (fun s =>
    let off := leAt pay 0 2
    if leAt pay 2 2 ≠ 0 then (s, .final Ecp.BAD_PARAM [])
    else (s, .final Ecp.OK (leBytes 2 certLength ++ [0, 0] ++
      (List.range (certLength - off)).map (fun i => Config.certByte (off + i) % 256)))))

/-- TRNG_HEALTH_FAIL: the outcome of the health tests of the entropy source. TRNG_FAIL stays set after they pass again, until a reset that
covers PD_SYS (R572). -/
def execTrngHealthFail (ok : Bool) (s : State) : Out :=
  fin (if s.domOff 3 then s
    else if ok then { s with ks := { s.ks with trngBad := false } }
    else if s.bit KS_STATUS_TRNG_FAIL then { s with ks := { s.ks with trngBad := true } }
    else ({ s with ks := { s.ks with trngBad := true } }.put KS_STATUS_TRNG_FAIL 1).record .trngFail)

/-! ## Tamper (R586 to R591) -/

/-- A cause is enabled: 0 to 3 IN_k, 4 VBAT_LO, 5 VBAT_HI, 6 TEMP_LO, 7 TEMP_HI (R586). -/
def State.causeEn (s : State) (c : Nat) : Bool :=
  if c < 4 then s.getBit TAMPER_CFG_IN_EN c else if c < 6 then s.bit TAMPER_CFG_VBAT_EN else s.bit TAMPER_CFG_TEMP_EN

/-- The samples confirm a cause: levels of TAMPER_k (2 in a row high), mV of VBAT (8 in a row beyond a threshold), readings of the AON sensor
in 0.1 °C (2 in a row beyond one) (R586). -/
def confirmed (c : Nat) (vals : List Int) : Bool :=
  let run := fun (n : Nat) (p : Int → Bool) => n ≤ vals.length && (vals.drop (vals.length - n)).all p
  if c < 4 then run 2 (fun v => v == 1)
  else match c with
    | 4 => run 8 (fun v => decide (v < 2350))
    | 5 => run 8 (fun v => decide (3850 < v))
    | 6 => run 2 (fun v => decide (v < -550))
    | _ => run 2 (fun v => decide (1250 < v))

/-- The latched bit of a cause. -/
def State.latchCause (s : State) (c : Nat) : State :=
  match c with
  | 4 => s.put TAMPER_STATUS_VBAT_LO 1
  | 5 => s.put TAMPER_STATUS_VBAT_HI 1
  | 6 => s.put TAMPER_STATUS_TEMP_LO 1
  | 7 => s.put TAMPER_STATUS_TEMP_HI 1
  | _ => s.putBit TAMPER_STATUS_IN c true

/-- The event record, at once or once the recorder is released (R589). -/
def State.tamperRecord (s : State) (c : Nat) : State :=
  if s.domOff 3 then { s with ks := { s.ks with tamperDue := some c } } else s.record .tamper [c]

/-- Every slot is emptied and every internal key discarded; `busy` key operations in progress end TAMPERED and release nothing (R587,
R588). -/
def State.emptyStore (s : State) (busy : Nat) : State :=
  let s := ((List.range 512).filter s.slotUsed).foldl State.emptySlot s
  { s with ecp := { s.ecp with sessions := s.ecp.sessions.map (fun (x : EcpSession) => { x with key := [] }) } }.bump KS_CNT_TAMPER_ABORTS busy

/-- TAMPER_CONFIRM: the last samples of a cause, which confirm it or not; a confirmed enabled cause empties the store (R586, R587), and wakes
the unit in night mode (R97, R98). -/
def execTamperConfirm (c : Nat) (vals : List Int) (busy : Nat) (s : State) : Out :=
  fin (
    let s := if c < 4 then s.putBit TAMPER_STATUS_LIVE c (vals.getLast? == some 1) else s
    if 8 ≤ c ∨ !s.causeEn c ∨ !confirmed c vals then s
    else
      let s := if s.tampered then s
        else s.puts [(TAMPER_OH_SECONDS, s.get REC_AON_OH_SECONDS), (TAMPER_MS_MS, s.get REC_AON_SUB_MS)]
      let s := ((s.latchCause c).put TAMPER_STATUS_TAMPERED 1).bump TAMPER_MS_COUNT
      let s := s.emptyStore busy
      (s.tamperRecord c).wake WAKE_CAUSE_TAMPER)

/-- A write to TAMPER_CTRL; `live` holds the causes that are live, bit c for cause c (R591). -/
def State.tamperClear (ini live data : Nat) (s : State) : State :=
  let s := s.put TAMPER_STATUS_LIVE (live % 16)
  if bits data 31 16 ≠ 0x5443 ∨ !bitOf data 0 ∨ !isApp ini then s
  else if (List.range 8).any (fun c => bitOf live c && s.causeEn c) then s.put TAMPER_STATUS_REFUSED 1
  else s.puts [(TAMPER_STATUS_TAMPERED, 0), (TAMPER_STATUS_IN, 0), (TAMPER_STATUS_VBAT_LO, 0), (TAMPER_STATUS_VBAT_HI, 0),
    (TAMPER_STATUS_TEMP_LO, 0), (TAMPER_STATUS_TEMP_HI, 0)]

/-- Address of TAMPER_CTRL. -/
abbrev tamperCtrlAddr : Nat := 0x40710010

/-- TAMPER_CLEAR (R591). -/
def execTamperClear (ini data live : Nat) (s : State) : Out := fin (s.asWrite ini tamperCtrlAddr (State.tamperClear ini live data))

/-- TAMPER_STATUS as a word. -/
def State.tamperWord (s : State) : Nat :=
  s.get TAMPER_STATUS_TAMPERED * 2 ^ 31 + s.get TAMPER_STATUS_REFUSED * 2 ^ 30 + s.get TAMPER_STATUS_TEMP_HI * 2 ^ 11 +
  s.get TAMPER_STATUS_TEMP_LO * 2 ^ 10 + s.get TAMPER_STATUS_VBAT_HI * 2 ^ 9 + s.get TAMPER_STATUS_VBAT_LO * 2 ^ 8 +
  s.get TAMPER_STATUS_IN * 16 + s.get TAMPER_STATUS_LIVE

/-- TAMPER_GET (R587): it answers while TAMPERED is set. -/
def execTamperGet (sess tag : Nat) (s : State) : Out :=
  fin (s.ecpRun 0x0908 sess tag [] true false (fun s =>
    (s, .final Ecp.OK (leBytes 4 s.tamperWord ++ leBytes 4 (s.get TAMPER_OH_SECONDS) ++
      leBytes 4 (s.get TAMPER_MS_COUNT * 65536 + s.get TAMPER_MS_MS)))))

end Sys2Proof.Machine
end

