-- ==== Sys2Proof/Machine/Metrology.lean ====
section
/-!
DEFINITION. The metrology partition (spec/20): its input path, sessions, accounts, measurement, parameters, audit trail
and opcodes.
-/

namespace Sys2Proof.Machine

open R

/-! ## The audit trail (R613, R615) -/

/-- The newest valid record that sets a parameter; WIDTH is set for one EUI (R613). -/
def State.auditSets (s : State) (param : Nat) (eui : List Nat) : Option (List Nat) :=
  ((s.audit.filter (fun e => e.1 && leAt e.2 2 1 == param && (param != 1 || (e.2.drop 4).take 8 == eui))).getLast?).map (·.2)

/-- A parameter in force, or its default (R613). -/
def State.param (s : State) (param : Nat) (eui : List Nat) : Nat :=
  match s.auditSets param eui with
  | some b => leAt b 16 4
  | none => match param with | 2 => 500 | 3 => 1000 | 5 => 50 | 6 => 1 | _ => 0

/-- A value within the range of R613. -/
def paramOk (param v : Nat) : Bool :=
  match param with
  | 1 => decide (v ≤ 60000)
  | 2 => decide (1 ≤ v ∧ v ≤ 10000)
  | 3 => decide (100 ≤ v ∧ v ≤ 5000)
  | 4 => decide (v ≤ 1)
  | 5 => decide (1 ≤ v ∧ v ≤ 1000)
  | 6 => decide (v ≤ 2)
  | 7 => decide (v ≤ 1)
  | 8 => true
  | _ => false

/-! ## Sessions (R609, R613, R616) -/

/-- The image is loaded, and the MP core starts (R109, R616). -/
def State.mpStart (s : State) (image version : List Nat) : State :=
  let s := { s with mp := { s.mp with running := true, image := image } }
  let s := (List.range 4).foldl (fun s w => s.put (MP_VERSION_TEXT w) (leAt version (4 * w) 4)) s
  s.put MP_CRC_CRC (crc32c image)

/-- MP does not run: its domain is off or in reset, or its core is halted (R109). -/
def State.mpDown (s : State) : Bool := s.domOff 2 || !s.mp.running

/-! ## The input path (R607) -/

/-- Cut-off messages in the buffer. -/
def State.mpCuts (s : State) : Nat := (s.mp.buf.filter (fun i => match i with | .cut _ => true | _ => false)).length

/-- MP_COPY_RECEIVE: the first item on the path enters the buffer, or is dropped (R607). -/
def execMpCopyReceive (s : State) : Out :=
  fin (match s.mp.wire with
    | [] => s
    | (_, i) :: w =>
      let s := { s with mp := { s.mp with wire := w } }
      match i with
      | .cut recs =>
        if s.mpDown ∨ 8 ≤ s.mpCuts then ({ s with mp := { s.mp with dropping := true } }).bump MET_CNT_COPY_DROP recs.length
        else { s with mp := { s.mp with buf := s.mp.buf ++ [i], dropping := false } }
      | i => if s.mpDown || s.mp.dropping then s else { s with mp := { s.mp with buf := s.mp.buf ++ [i] } })

/-! ## Accounts (R610) -/

/-- The account of an EUI. -/
def State.acctOf (s : State) (eui : List Nat) : Option MpAcct := s.mp.accts.find? (fun a => a.eui == eui)

/-- An account replaced. -/
def State.setAcct (s : State) (a : MpAcct) : State :=
  { s with mp := { s.mp with accts := s.mp.accts.map (fun (b : MpAcct) => if b.eui = a.eui then a else b) } }

/-- An address mapped to its EUI, an account opened where one is free (R610). -/
def State.mpMap (s : State) (addr : Nat) (eui : List Nat) : State :=
  let s := { s with mp := { s.mp with map := s.mp.map.filter (fun (e : Nat × List Nat) => e.1 ≠ addr) ++ [(addr, eui)] } }
  if (s.acctOf eui).isSome then s
  else if 1024 ≤ s.mp.accts.length then s.put MET_STATUS_ACCT_FULL 1
  else { s with mp := { s.mp with accts := s.mp.accts ++ [({ eui := eui } : MpAcct)] } }.put MET_STATUS2_ACCOUNTS (s.mp.accts.length + 1)

/-- MP_ADDRESS_EVENT: the first item of the buffer, where it is an address event (R610). -/
def execMpAddressEvent (s : State) : Out :=
  fin (if s.mpDown then s
    else match s.mp.buf with
      | .act a e :: t => ({ s with mp := { s.mp with buf := t } }).mpMap a e
      | .rel a _ :: t => { s with mp := { s.mp with buf := t, map := s.mp.map.filter (fun (e : Nat × List Nat) => e.1 ≠ a) } }
      | _ => s)

/-! ## Measurement (R611, R612) -/

/-- A record is eligible (R611). -/
def State.eligibleRec (s : State) (r : SolRec) : Bool :=
  (r.status == 4 || (r.status == 3 && s.param 4 [] == 1)) && decide (r.pos.sdH ≤ s.param 5 []) && (r.flags &&& 59) == 0

/-- A total that stops at its maximum. -/
def sat64 (x : Nat) : Nat := min x (2 ^ 64 - 1)

/-- One eligible record of an account (R612). -/
def State.measure (s : State) (a : MpAcct) (r : SolRec) : State :=
  let t := r.week * 604800000 + r.ms
  match a.last with
  | none => s.setAcct { a with last := some (t, r.pos.e, r.pos.n) }
  | some (tp, e, n) =>
    if t ≤ tp then s
    else if s.param 3 [] < t - tp then
      (s.setAcct { a with last := some (t, r.pos.e, r.pos.n) }).bump MET_CNT2_GAPS
    else
      let dt := t - tp
      let d := isqrtNear ((r.pos.e - e) * (r.pos.e - e) + (r.pos.n - n) * (r.pos.n - n)).toNat
      let a := { a with dist := sat64 (a.dist + d), last := some (t, r.pos.e, r.pos.n) }
      s.setAcct (if s.param 2 [] * dt ≤ d * 1000 then
        { a with workDist := sat64 (a.workDist + d), workMs := sat64 (a.workMs + dt)
                 area := sat64 (a.area + d * s.param 1 a.eui) } else a)

/-- One record of a cut-off (R610 to R612). -/
def State.mpRecord (s : State) (r : SolRec) : State :=
  match s.mp.map.find? (fun e => e.1 == r.addr) with
  | none => s
  | some (_, eui) => match s.acctOf eui with
    | none => s.bump MET_CNT2_UNMEASURED
    | some a => if s.eligibleRec r then s.measure a r else s

/-- MP_PROCESS_CUTOFF: the first item of the buffer, where it is a cut-off message; after IMAGE_MISMATCH nothing is
measured (R612, R616). -/
def execMpProcessCutoff (s : State) : Out :=
  fin (if s.mpDown then s
    else match s.mp.buf with
      | .cut recs :: t =>
        let s := { s with mp := { s.mp with buf := t } }
        if s.bit MET_STATUS_IMAGE_MISMATCH then s else recs.foldl State.mpRecord s
      | _ => s)

/-! ## The seal (R608) -/

/-- SEAL_CONFIRM: the three samples of a window of SEAL_N; the first opened it, the last decides (R502, R608). -/
def execSealConfirm (l1 _l2 l3 : Bool) (s : State) : Out :=
  fin (let was := s.bit MET_STATUS_SEAL_OPEN
    if l1 == was || l3 == was then s
    else ({ s with mp := { s.mp with sealSince := if l3 then some s.ply else none } }.put MET_STATUS_SEAL_OPEN (b2n l3)).record
      .sealChange [b2n l3])

/-- The seal has been open throughout the 10 plies before (R614). -/
def State.sealOpen (s : State) : Bool :=
  s.bit MET_STATUS_SEAL_OPEN && (match s.mp.sealSince with | some p => decide (p + 10 ≤ s.ply) | none => false)

/-! ## Metrology opcodes (R614 to R617) -/

/-- A request of this group while MP does not run is not ready (R606; log 25). -/
def State.metRun (s : State) (op sess tag : Nat) (pay : List Nat) (lenOk : Bool) (k : State → State × EcpAns) : State :=
  s.ecpRun op sess tag pay lenOk false (fun s => if s.mpDown then (s, .final Ecp.NOT_READY []) else k s)

/-- MET_IDENT: the CRC is computed afresh from what MP SRAM holds, `sram` where that is not the image as loaded (R616). -/
def execMetIdent (sess tag : Nat) (sram : Option (List Nat)) (s : State) : Out :=
  fin (s.metRun 0x0C00 sess tag [] true (fun s =>
    let c := crc32c (sram.getD s.mp.image)
    let s := if c = s.get MP_CRC_CRC ∨ s.bit MET_STATUS_IMAGE_MISMATCH then s else (s.put MET_STATUS_IMAGE_MISMATCH 1).record .imageMismatch []
    (s, .slow Ecp.OK ((List.range 4).flatMap (fun w => leBytes 4 (s.get (MP_VERSION_TEXT w))) ++ leBytes 4 c ++
      leBytes 2 s.audit.length ++ [0, 0]))))

/-- A billed figure: rounded down; the spec states none beyond 32 bits (log 4). -/
def State.billed (s : State) (v unit : Nat) : Nat := if v / unit < 2 ^ 32 then v / unit else s.freeVal % 2 ^ 32

/-- The response of MET_READ without its CRC (R617). -/
def State.metBytes (s : State) (a : MpAcct) : List Nat :=
  let m := s.mp.map.find? (fun e => e.2 == a.eui)
  let ua := match s.param 6 [] with | 0 => 1000000 | 1 => 100000000 | _ => 10000000000
  let ud := if s.param 7 [] = 0 then 1000 else 10000
  leBytes 4 (s.get MET_SESSION_SESSION) ++ [b2n m.isSome + 2 * s.get MET_STATUS_IMAGE_MISMATCH, (m.map (·.1)).getD 0, 0, 0] ++
  [a.dist, a.workDist, a.workMs, a.area].flatMap (leBytes 8) ++ leBytes 4 (s.billed a.area ua) ++ leBytes 4 (s.useFree.billed a.workDist ud)

/-- MET_READ (R617). -/
def execMetRead (sess tag : Nat) (pay : List Nat) (s : State) : Out :=
  fin (s.metRun 0x0C01 sess tag pay (pay.length == 8) (fun s =>
    match s.acctOf pay with
    | none => (s, .final Ecp.BAD_PARAM [])
    | some a => let b := s.metBytes a; (s.useFree 2, .final Ecp.OK (b ++ leBytes 4 (crc32c b)))))

/-- The audit record of a change without its CRC (R615). -/
def State.auditBytes (s : State) (param : Nat) (eui : List Nat) (v : Nat) : List Nat :=
  leBytes 2 s.audit.length ++ [param, 0] ++ (if param = 1 ∨ param = 8 then eui else List.replicate 8 0) ++
  leBytes 4 (if param = 8 then 0 else s.param param eui) ++ leBytes 4 v ++ leBytes 4 (s.get REC_AON_OH_SECONDS) ++
  leBytes 4 (s.get MET_SESSION_SESSION)

/-- A change is applied: an account freed; every other parameter follows the trail (R613, R614). -/
def State.applyParam (s : State) (param : Nat) (eui : List Nat) : State :=
  if param = 8 then
    let l := s.mp.accts.filter (fun (a : MpAcct) => a.eui ≠ eui)
    { s with mp := { s.mp with accts := l } }.puts [(MET_STATUS2_ACCOUNTS, l.length), (MET_STATUS_ACCT_FULL, 0)]
  else s

/-- MET_PARAM_SET; `readBack` says whether the written record reads back with its CRC (R614, R615). A record that does not
is torn: what the array then holds is left open (log 4), nothing is applied, and the request ends INTERNAL_ERROR (log 26). -/
def execMetParamSet (sess tag : Nat) (pay : List Nat) (readBack : Bool) (s : State) : Out :=
  fin (s.metRun 0x0C02 sess tag pay (pay.length == 16) (fun s =>
    let p := leAt pay 0 1
    let eui := (pay.drop 4).take 8
    let v := leAt pay 12 4
    let acct := s.acctOf eui
    let mapped := s.mp.map.any (fun e => e.2 == eui)
    if !paramOk p v ∨ leAt pay 1 3 ≠ 0 ∨ ((p = 1 ∨ p = 8) ∧ acct.isNone) ∨ (p = 8 ∧ mapped) then (s, .final Ecp.BAD_PARAM [])
    else if !s.sealOpen then (s, .final Ecp.LOCKED [])
    else if 4096 ≤ s.audit.length then (s, .final Ecp.DENIED [])
    else
      let b := s.auditBytes p eui v
      let ix := s.audit.length
      if readBack then
        let s := ({ s with audit := s.audit ++ [(true, b ++ leBytes 4 (crc32c b))] }.applyParam p eui).auditStatus
        (s, .final Ecp.OK (leBytes 2 ix ++ [0, 0]))
      else (({ s with audit := s.audit ++ [(false, leBytes 32 s.freeVal)] }.useFree).auditStatus, .final Ecp.INTERNAL_ERROR [])))

/-- MET_AUDIT_READ: records FIRST to FIRST + COUNT - 1 (R615); a range beyond AUDIT_CNT has no records (R617). -/
def execMetAuditRead (sess tag : Nat) (pay : List Nat) (s : State) : Out :=
  fin (s.metRun 0x0C03 sess tag pay (pay.length == 4) (fun s =>
    let first := leAt pay 0 2
    let n := leAt pay 2 1
    if n < 1 ∨ 40 < n ∨ leAt pay 3 1 ≠ 0 ∨ s.audit.length < first + n then (s, .final Ecp.BAD_PARAM [])
    else (s, .final Ecp.OK (((s.audit.drop first).take n).flatMap (·.2)))))

end Sys2Proof.Machine
end

