-- ==== Sys2Proof/Machine/Cut.lean ====
section
/-!
DEFINITION. What happens at the ends of slots and superframes: a solve or an uplink slot completes, the cut-offs C1 and C2
(spec/01, spec/11, spec/13), and the superframe boundary (R20).
-/

namespace Sys2Proof.Machine

open R

/-! ## Solution records -/

/-- FIX_SOLVE_COMPLETE: the solve in progress ends `dt` ns into the ply (R364); its record reaches the track engine (R499). -/
def execFixSolveComplete (dt : Nat) (s : State) : Out := fin (s.trkNew (s.solveDone dt))

/-- BASE_MISSING_DECISION in the ply that contains T + 10 ms, where boundary T has an epoch at the rate in force (R356). -/
def execBaseMissingDecision (s : State) : Out :=
  fin (let e := s.startOf s.time.k
    let has : Bool := match s.fix.base with | some r => r.week == e.1 && r.ms == e.2 | none => false
    if !s.instantNow 10000000 ∨ e.2 % s.epochMs ≠ 0 ∨ has ∨ s.fix.missing = some e then s
    else
      let mine := fun (j : CorJob) => j.cor.week == e.1 && j.cor.ms == e.2
      let l := s.fix.queue.filter mine
      let t := { s with fix := { s.fix with missing := some e, queue := s.fix.queue.filter (fun (j : CorJob) => !mine j) } }
      let t := t.bump FIX_CNT3_BASE_MISSING
      s.trkNew (l.foldl (fun s j => s.putRec (s.idleRec j.addr e.1 e.2 16 (s.jobUs j 10000) j.cor.antFault)) t))

/-- A member is served on a sub-GHz lane (R401). -/
def State.subMember (s : State) (a : Nat) : Bool := s.subLane (s.get (MEMBER_W2_LANE a))

/-- The uplink slot of an entry, or the last of its group, ends in the ply (R401, R402). -/
def State.uplinkEnds (s : State) (n q : Nat) : Bool :=
  let last := if s.prof n = 0 then q else q + 2
  let slot := if s.prof n = 0 then last else last % 10
  (s.prof n == 0 || s.time.k % 10 == last / 10) && (match s.slotEnd n slot with | some t => s.instantNow t | none => false)

/-- UPLINK_SLOT_END: the uplink slot of an active member, or the last of its group, ends. Without a COR of the epoch that
was accepted the active unit writes a NO_COR record (R357); without a frame UP_EMPTY counts (R452). Between a takeover and
the end of the load no records are written (R563). -/
def execUplinkSlotEnd (addr : Nat) (s : State) : Out :=
  fin (let e := s.entryOf (s.get SLOT_CTRL_BANK) addr
    if !isAddr addr ∨ s.memState addr ≠ 2 ∨ e.2 = 127 ∨ s.mac.slotDone.contains addr ∨ !s.uplinkEnds e.1 e.2 then s
    else
      let t := { s with mac := { s.mac with slotDone := s.mac.slotDone ++ [addr] } }
      let t := if s.mac.upFrom.contains addr then t
        else t.laneCount (s.get (MEMBER_W2_LANE addr)) (fun c => { c with upEmpty := min (c.upEmpty + 1) 255 })
      if !s.active ∨ s.pair.idle ∨ s.mac.corOk.contains addr then t
      else
        let w := s.startOf (if s.prof e.1 = 0 then s.time.k else s.time.k / 10 * 10)
        t.trkNew (t.putRec (t.idleRec addr w.1 w.2 32 0 false)))

/-! ## The cut-offs (R28 to R30, R368, R369) -/

/-- The latest record among `l` of each member, in ascending short address. -/
def recsByAddr (l : List SolRec) : List SolRec :=
  allAddrs.filterMap (fun a => (l.filter (fun r => r.addr == a)).getLast?)

/-- The stream bodies of a cut-off: 17 records in each, or one body without records (R368). -/
def cutBodies (sfn cut : Nat) (recs : List SolRec) : List (List Nat) :=
  let parts := max 1 ((recs.length + 16) / 17)
  (List.range parts).map (fun i =>
    let l := (recs.drop (17 * i)).take 17
    leBytes 4 sfn ++ [cut, i, parts, l.length] ++ l.flatMap SolRec.bytes)

/-- A lane's digest takes its place for its slot. -/
def State.storeDigest (s : State) (n cut : Nat) (items : List Nat) : State :=
  let keep := fun (d : Nat × Nat × List Nat) => !(d.1 == n && d.2.1 == cut)
  { s with mac := { s.mac with digests := s.mac.digests.filter keep ++ [(n, cut, items)] } }

/-- The READY lanes of profile 0, and those of the other profiles that serve members (R401, R403). -/
def State.lanes0 (s : State) : List Nat := (List.range 8).filter (fun n => s.laneReady n && s.prof n == 0)
def State.lanesS (s : State) : List Nat :=
  (List.range 8).filter (fun n => s.laneReady n && s.prof n != 0 && s.get (LANE_CFG_RATE n) != 0)

/-- The records complete since the last cut-off leave as the host stream message, due 1 ms after it (R27), and as the metrology copy (R30, R368,
R369); those of sub-GHz members are kept for their lanes' digests (R420). -/
def State.sendCut (s : State) (cut : Nat) : State :=
  let recs := recsByAddr s.fix.done
  let sub := s.fix.done.filter (fun r => s.subMember r.addr)
  let s := (cutBodies s.sfn cut recs).foldl (fun s b => s.produce 1 b (some (s.ply + 100))) s
  let s := s.mpSend (.cut recs)
  { s with fix := { s.fix with done := [] }, mac := { s.mac with subDone := s.mac.subDone ++ sub } }

/-- D1 of a lane (R418). -/
def State.buildD1 (s : State) (n : Nat) : State :=
  let r := s.d1Items n s.fix.done
  r.1.storeDigest n 1 r.2

/-- D2 of a lane (R419). -/
def State.buildD2 (s : State) (n : Nat) : State :=
  let r := s.d2Items n s.fix.done s.mac.wins
  r.1.storeDigest n 2 r.2

/-- CUT_OFF_C1, in the ply that contains T + 95 ms: track requests and windows, tasks, D1, the message and the copy (R27 to
R30, R464, R486, R490). Windows of superframes 1 and 6 of a long superframe are those of its sub-GHz lanes (R420). -/
def execCutOffC1 (s : State) : Out :=
  fin (if !s.instantNow 95000000 ∨ !s.active ∨ s.pair.idle then s
    else
      let s := s.trkC1
      let s := if s.time.k % 5 = 1 then { s with mac := { s.mac with subWins := s.mac.wins } } else s
      let s := s.bindAll.renewAll
      let s := s.lanes0.foldl State.buildD1 s
      s.sendCut 1)

/-- CUT_OFF_C2, in the ply that contains T + 97.5 ms: unfinished solves give way, D2, the message, the copy, and a
checkpoint (R28, R30, R365, R419, R558). -/
def execCutOffC2 (s : State) : Out :=
  fin (if !s.instantNow 97500000 ∨ !s.active ∨ s.pair.idle then s
    else
      let s := s.trkNew (s.shedAll (97500000 - s.sinceNs))
      let s := s.lanes0.foldl State.buildD2 s
      (s.sendCut 2).captureCkpt)

/-! ## The superframe boundary (R20) -/

/-- The link counter message of the superframe that ends (R452). RSSI_MIN of a lane that took no UPLINK is not stated: a
free value. -/
def State.linkMessage (s : State) : State :=
  let one := fun (n : Nat) =>
    let c : LaneCount := match s.mac.cnt.find? (fun e => e.1 == n) with | some e => e.2 | none => {}
    [c.upOk, c.upEmpty, c.micFail, c.dup, c.stray, c.refused, c.winDef,
      if c.upOk = 0 then Config.freeValue (s.freeCtr + n) % 256 else usgn 8 c.rssiMin]
  let s := (s.produce 4 (leBytes 4 s.sfn ++ (List.range 8).flatMap one) (some (s.ply + 10000))).useFree 8
  { s with mac := { s.mac with cnt := [] } }

/-- Parts of CORs that the long superframe leaves incomplete are discarded (R416). -/
def State.dropParts (s : State) : State :=
  allAddrs.foldl (fun s a => if (s.mem a).parts.isEmpty then s
    else (s.setMem a { s.mem a with parts := [], total := 0 }).bump MAC_CNT_C_COR_INCOMPLETE) s

/-- What the MAC holds of the superframe that ends, and of the long superframe where `long` holds, is done with. -/
def State.macBoundary (s : State) (k : Nat) : State :=
  let long := k % 10 == 0
  let s := if long then s.dropParts else s
  let keepLane := fun (n : Nat) => s.subLane n && !long
  let keepAddr := fun (a : Nat) => s.subMember a && !long
  { s with mac := { s.mac with
    acks := s.mac.acks.filter (fun (e : Nat × Nat) => keepLane e.1)
    corOk := s.mac.corOk.filter keepAddr
    upFrom := s.mac.upFrom.filter keepAddr
    slotDone := s.mac.slotDone.filter keepAddr
    resp := s.mac.resp.filter (fun (r : AssocResp) => decide (k ≤ r.k + (if s.subLane r.lane then 9 else 0))) } }

/-- A shift ends with superframe S: its phase is removed; what a later step left is removed by a new shift (R298,
R301). -/
def State.shiftEnd (s : State) : State :=
  let phi := phaseReduce (s.getS GRID_PHASE_PHI - s.time.shiftPhi)
  let more := decide (1000 < phi ∨ phi < -1000)
  let s := { s with time := { s.time with shiftPhi := 0, shiftWait := more } }
  (s.putS GRID_PHASE_PHI phi).put TIME_STATUS_SHIFT_PENDING (b2n more)

/-- The grid moves on by the length of the superframe that ends (R19, R298). -/
def State.gridStep (s : State) : State :=
  let len := s.superNs s.sfn
  let ends := s.shiftSet && s.hasSfn && s.sfn == s.get SHIFT_SFN_S
  let s := if ends then s.shiftEnd else s
  { s with time := { s.time with k := s.time.k + 1, gridNs := s.time.gridNs + len } }

/-- Pending hop settings take effect from slot 0 of TARGET_SFN (R387). -/
def State.hopBoundary (s : State) : State :=
  match s.radio.pend with
  | some (h, t) => if s.hasSfn ∧ t ≤ s.sfn then s.hopLand h else s
  | none => s

/-- D1 of the sub-GHz lanes: the latest record of each member written in the long superframe and complete at the start of
q = 20 (R420). -/
def State.buildSubD1 (s : State) (n : Nat) : State :=
  let mine := fun (r : SolRec) => (s.laneMembers n).contains r.addr
  let l : List SolRec := ((s.fix.recs.map (fun e => e.2)).filter mine).filter (fun (r : SolRec) => r.sfn / 10 == s.sfn / 10)
  let r := s.d1Items n l
  let t := r.1.storeDigest n 1 r.2
  { t with mac := { t.mac with subDone := t.mac.subDone.filter (fun (x : SolRec) => !mine x) } }

/-- SUPERFRAME_BOUNDARY, in the ply that contains the boundary: the superframe in progress ends (link counters, heard
Bellwethers), held slot writes land, SFN and grid move on, hop settings, run states and shifts take effect, tasks lapse;
castlings with WHEN 1 land at the ply's resolution point (R20, R33, R80, R298, R387, R449, R452, R470, R561 to R566). -/
def execSuperframeBoundary (s : State) : Out :=
  fin (if !s.instantNow (s.superNs s.sfn) then s
    else
      let near := s.sfnNearEnd
      let s := s.missBoundary.linkMessage.applyHeld
      let s := s.gridStep
      let s := s.macBoundary s.time.k
      let s := s.logNearEnd near
      let s := if s.clk.txEndPending then { s with clk := { s.clk with txEndPending := false, txEnded := true } } else s
      let s := s.hopBoundary.claimBoundary.lapseDue
      let s := if s.active && !s.pair.idle && s.time.k % 10 == 2 then s.lanesS.foldl State.buildSubD1 s else s
      { s with cast := { s.cast with boundaryNow := true } })

end Sys2Proof.Machine
end

