-- ==== Sys2Proof/Machine/Observe.lean ====
section
/-!
DEFINITION. The epoch strobe, the base observation record and its RTCM output (spec/08), and the integrity baseline of
R345.
-/

namespace Sys2Proof.Machine

open R

/-! ## Entries (R265 to R267) -/

/-- Transmit time to signal travel, in 2^-32 ms, modulo one week: the epoch less the transmit time in GPS time, BeiDou
time having 14 s added (R266). -/
def travel (ms sig txMs txFrac : Nat) : Nat :=
  let tx : Int := (((if sigSys sig = 3 then txMs + 14000 else txMs) * 2 ^ 32 + txFrac : Nat) : Int)
  (((ms * 2 ^ 32 : Nat) : Int) - tx).emod ((604800000 * 2 ^ 32 : Nat) : Int) |>.toNat

/-- PSEUDORANGE in 0.1 mm (R266). -/
def pseudorange (d : Nat) : Nat := (quant ((d * 2997924580 : Nat) : Int) (2 ^ 32)).toNat

/-- The same range in cycles of a signal's band (R267: λ is c / f_band). -/
def rangeCycles (sig d : Nat) : Rat := ((d * sigBand sig : Nat) : Rat) / (1000 * 2 ^ 32 : Rat)

/-- Signed 64-bit phase. -/
def phase64 (x : Int) : Int := sgn 64 (usgn 64 x)

/-- The integer part of the phase is set at the first epoch with CARR_LOCK and TIME_LEVEL 2 (R267). -/
def State.phaseSet (s : State) (c d : Nat) (carr : Int) : ChState :=
  let x := s.chSt c
  if x.phSet || !s.bit (CH_STATUS_CARR_LOCK c) || s.get (CH_STATUS_TIME_LEVEL c) != 2 then x
  else
    let n := quantQ (rangeCycles (s.get (CH_CFG_SIGNAL c)) d - ((carr + x.phOff : Int) : Rat) / (2 ^ 32 : Rat))
    { x with phSet := true, phOff := x.phOff + n * 2 ^ 32 }

/-- FLAGS of an entry (R265). -/
def State.entFlags (s : State) (c : Nat) (x : ChState) : Nat :=
  let lvl := s.get (CH_STATUS_TIME_LEVEL c)
  let carr := s.bit (CH_STATUS_CARR_LOCK c)
  b2n (s.bit (CH_STATUS_CODE_LOCK c)) + 2 * b2n carr + 4 * b2n (lvl == 2) + 8 * b2n (carr && x.phSet) +
  16 * b2n (s.bit (CH_STATUS_HALF_UNRES c)) + 32 * b2n (s.get (CH_CNT_SLIP_CNT c) != x.prevSlip) +
  64 * b2n (s.get (CH_STATUS_STATE c) == 3) + 128 + 256 * lvl + 1024 * b2n x.bumped

/-- The period in ms that the transmit time of a signal is known modulo: the primary code at level 0; the bit, symbol or secondary code at
level 1; the week at level 2 (R238, R254, R255). -/
def txPeriod (sig lvl : Nat) : Nat :=
  if lvl = 0 then sigPrim sig
  else if lvl = 1 then [20, 20, 100, 100, 18000, 100, 20, 20, 2].getD sig 1
  else 604800000

/-- One channel is latched: its entry, and the registers that show its NCOs (R257, R259, R265). -/
def State.latchCh (ms : Nat) (r : State × List ObsEnt) (l : ChLatch) : State × List ObsEnt :=
  let s := r.1
  let c := l.ch
  let sig := s.get (CH_CFG_SIGNAL c)
  let d := travel ms sig l.txMs l.txFrac
  let x := s.phaseSet c d l.carr
  let fl := s.entFlags c x
  let ph := phase64 (l.carr + x.phOff)
  let e : ObsEnt :=
    { ch := c, sig := sig, fe := s.get (CH_CFG_FE c), prn := s.get (CH_CFG_PRN c), elev := l.elev, flags := fl
      cn0 := s.get (CH_CN0_CN0 c), range := if bitOf fl 2 then pseudorange d else 0, phase := if bitOf fl 3 then ph else 0
      dopp := s.get (CH_DOPP_DOPP c), lockMs := s.get (CH_LOCKT_LOCK_MS c), txMs := l.txMs % txPeriod sig (s.get (CH_STATUS_TIME_LEVEL c)), txFrac := l.txFrac
      slip := s.get (CH_CNT_SLIP_CNT c) }
  let s := s.puts [(CH_CODE_CODE c, l.code), (CH_CARR_LO_PHASE c, usgn 64 ph % 2 ^ 32), (CH_CARR_HI_PHASE c, usgn 64 ph / 2 ^ 32)]
  (s.setCh c { x with prevSlip := s.get (CH_CNT_SLIP_CNT c), bumped := false }, r.2 ++ [e])

/-- The latch operand holds every channel that is not IDLE once, in channel order, and none of them else (R259). -/
def State.latchOk (s : State) (latch : List ChLatch) : Bool :=
  latch.map (·.ch) == (List.range 256).filter (fun c => s.get (CH_STATUS_STATE c) != 0)

/-- FRONT of the header (R264). -/
def State.frontByte (s : State) : Nat :=
  s.get (ANT_STATUS_STATE 0) % 4 + 4 * (s.get (ANT_STATUS_STATE 1) % 4) + 16 * s.get (FE_STATUS_LINK 0) + 64 * s.get (FE_STATUS_LINK 1)

/-- The epoch of the ply in GPS ms: the multiple of the epoch period that the clock passes in it (R24, R258); GPS is TAI less 19 s, and its
week 0 begins at a whole second. -/
def State.epochHere (s : State) : Option Int :=
  (s.multipleHere (s.epochMs * 1000000) 0).map (fun m => m / 1000000 - 315964819000)

/-- The epoch whose strobe is issued in the ply (R258, R263, R296). -/
def State.strobeDue (s : State) : Option Int := if s.strobesOn then s.epochHere else none

/-- The ms of week and the week (16 bits) of an epoch. -/
def epochMsOf (e : Int) : Nat := (e % 604800000).toNat
def epochWeekOf (e : Int) : Nat := (e / 604800000 % 65536).toNat

/-- The record that a strobe begins (R259, R260, R262, R264, R265). -/
def State.obsLatch (week ms : Nat) (rxOff : Int) (latch : List ChLatch) (s : State) : State :=
  let r := latch.foldl (State.latchCh ms) (s, [])
  let f : ObsRec :=
    { week := week, ms := ms, sfn := s.sfn, rxOff := rxOff, ply := s.ply
      flags := b2n (ms % 100 == 50) + 2 * b2n (s.bit TIME_STATUS_VALID) + 4 * b2n (s.bit TIME_STATUS_HOLDOVER)
      front := s.frontByte, timeGen := s.get TIME_STATUS_TIME_GEN, seq := (s.get OBS_SEQ_SEQ + 1) % 2 ^ 32, ents := r.2 }
  let s := ({ r.1 with gnss := { r.1.gnss with forming := some f, formed := false } }).put OBS_STATUS_FORMING 1
  [0, 1, 2, 3].foldl (fun s p => s.emit (.irqLoop p)) s

/-- EPOCH_STROBE in the ply of an epoch, with the time unit's estimate of the latch offset, what the channels' NCOs hold, and the
ephemerides of the epoch (R24, R25, R258, R259, R319, R344). -/
def execEpochStrobe (rxOff : Int) (latch : List ChLatch) (eph : List Nat) (s : State) : Out :=
  fin (match s.strobeDue with
    | none => s
    | some e =>
      if !s.latchOk latch || s.cast.strobeNow then s
      else
        let ms := epochMsOf e
        let s := { s with cast := { s.cast with strobeNow := true } }
        let s := if ms % 100 = 50 ∨ s.domOff 6 then s else s.fixStrobe eph
        if s.bit OBS_CTRL_EN then s.obsLatch (epochWeekOf e) ms rxOff latch else s)

/-- OBS_FORM_DEADLINE, 0.9 ms after the strobe: the entries not formed are written with VALID clear, and LATE advances for their bank
(R260). -/
def execObsFormDeadline (unformed : List Nat) (s : State) : Out :=
  fin (match s.gnss.forming with
    | none => s
    | some r =>
      if s.ply < r.ply + 90 ∨ s.gnss.formed then s
      else
        let late := r.ents.filter (fun e => unformed.contains e.ch && bitOf e.flags 7)
        let ents := r.ents.map (fun e => if unformed.contains e.ch then { e with flags := Sys2Proof.putBit e.flags 7 false } else e)
        let s := { s with gnss := { s.gnss with forming := some { r with ents := ents }, formed := true } }
        late.foldl (fun s e => s.bump (BANK_CNT_LATE (e.ch / 32))) s)

/-! ## The integrity baseline (R345) -/

/-- The difference exceeds LIMIT_MM in some axis. -/
def State.integBeyond (s : State) (v : List Rat) : Bool :=
  (List.range 3).any (fun i =>
    let d := v.getD i 0 * 1000 - s.getS (FIX_INTEG_MM i)
    decide ((s.get FIX_INTEG_CFG_LIMIT_MM : Rat) < d) || decide ((s.get FIX_INTEG_CFG_LIMIT_MM : Rat) < -d))

/-- The FE_B entry of a record as a COR's signal with its single difference against the FE_A entry (R329, R345): both ranges are referred to
the epoch (DEDUCED, log 16: so that CLK_OFS is 0), and an entry with SLIP advances the slip count. -/
def State.integObs (s : State) (r : ObsRec) (e : ObsEnt) : Option (CorSig × ObsEnt × Config.FixObs) :=
  if e.fe ≠ 1 ∨ 8 ≤ e.sig ∨ !bitOf e.flags 7 then none
  else
    let sv := svOf e.sig e.prn
    let slip := match findAmb s.fix.integ.amb sv e.sig with | some a => a.slip | none => 0
    let g : CorSig := { sv := sv, code := e.sig, rate := 0, rough := 0, cn0 := 0, half := bitOf e.flags 4
                        slip := (slip + b2n (bitOf e.flags 5)) % 16
                        ph := if bitOf e.flags 3 then some 0 else none, pr := if bitOf e.flags 2 then some 0 else none }
    match baseEnt r g with
    | none => none
    | some a => if !s.codeUsed g a then none
      else some (g, a, { sv := sv, code := e.sig, elev := a.elev, sdCode := basePr r e - basePr r a
                         sdPhase := if phaseUsed g a then some (basePh r e - basePh r a) else none })

/-- The baseline's solve against a record, with the same antenna entry as the base (R345). -/
def State.integSolve (s : State) (r : ObsRec) : Option SolveRes :=
  s.solveWith s.fix.integ (r.ents.filterMap (s.integObs r)) (s.antEntry s.fix.baseAnt) r.week r.ms

/-- One epoch of the baseline: its fixed vector from FE_A to FE_B, E, N and U at REF, or none (R345). -/
def State.integJudge (v : Option (List Rat)) (s : State) : State :=
  match v with
  | none => { s with fix := { s.fix with integBad := 0, integGood := 0 } }
  | some d =>
    if s.integBeyond d then
      let n := s.fix.integBad + 1
      let s := { s with fix := { s.fix with integBad := n, integGood := 0 } }
      if 3 ≤ n ∧ !s.bit FIX_INTEG_STATUS_BASE_SUSPECT then (s.put FIX_INTEG_STATUS_BASE_SUSPECT 1).record .baseSuspect else s
    else
      let n := s.fix.integGood + 1
      let s := { s with fix := { s.fix with integBad := 0, integGood := n } }
      if 30 ≤ n then s.put FIX_INTEG_STATUS_BASE_SUSPECT 0 else s

/-- The baseline at a published base record (R345). -/
def State.integEpoch (r : ObsRec) (s : State) : State :=
  if s.fixGet FIX_CTRL_INTEG_EN = 0 ∨ s.fixGet FIX_CTRL_EN = 0 ∨ s.domOff 6 ∨ !s.boot.loaded.contains 6 then s
  else match s.integSolve r with
    | none => s.integJudge none
    | some x =>
      let base := ecefOf s.fix.refPos
      let v := (geodetic base).enu (x.arp.sub base)
      ({ s with fix := { s.fix with integ := x.filter } }).integJudge (if x.status = 4 then some v else none)

/-! ## RTCM (R272 to R276, R642) -/

/-- The transport frame around a message body: preamble, 10-bit length, CRC-24Q. -/
def rtcmFrame (body : List Nat) : List Nat :=
  let h := [0xD3, body.length / 256 % 4, body.length % 256] ++ body
  let c := crc24q h
  h ++ [c / 65536 % 256, c / 256 % 256, c % 256]

/-- The body of the settings copy in use (R670); none before one is. -/
def State.settingsBody (s : State) : List Nat :=
  match s.boot.settings with
  | some 0 => match s.flash.set0 with | some c => c.body | none => []
  | some 1 => match s.flash.set1 with | some c => c.body | none => []
  | _ => []

/-- The system of an MSM7 message, and the signal ID of a signal code (R272). -/
def msmSys (msg : Nat) : Nat := if msg = 1077 then 0 else if msg = 1097 then 1 else if msg = 1117 then 2 else 3
def msmSig (sig : Nat) : Nat := [2, 23, 2, 23, 31, 23, 2, 23, 0].getD sig 0

/-- An entry is a cell of a message: FE_A, VALID, CODE_LOCK and PR_VALID, at or above the elevation mask (R272). -/
def State.isCell (s : State) (msg : Nat) (e : ObsEnt) : Bool :=
  sigSys e.sig == msmSys msg && e.fe == 0 && bitOf e.flags 7 && bitOf e.flags 0 && bitOf e.flags 2 &&
  decide ((s.gnssCfg.elevMask : Int) ≤ e.elev)

/-- A cell takes its fields from the record; without PHASE_VALID the phase is the invalid value, and HALF_UNRES sets DF420 (R273). -/
def cellOf (e : ObsEnt) : Config.RtcmCell :=
  { sat := e.prn, sigId := msmSig e.sig, range := e.range, phase := if bitOf e.flags 3 then some e.phase else none, dopp := e.dopp
    cn0 := e.cn0, lockMs := e.lockMs, half := bitOf e.flags 4 }

/-- Lists of at most 64 (R274); one, if there is nothing. -/
def by64 : Nat → List Config.RtcmCell → List (List Config.RtcmCell)
  | 0, l => [l.take 64]
  | n + 1, l => if l.length ≤ 64 then [l] else l.take 64 :: by64 n (l.drop 64)

/-- The epoch time of a message's system: GPS ms of week, or BeiDou ms of week, 14 s behind (R266, R273). -/
def msmEpoch (msg ms : Nat) : Nat := if msg = 1127 then (ms + 604800000 - 14000) % 604800000 else ms

/-- The messages of number `msg` for a record; the multiple-message bit is set in every MSM of the epoch but the last (R273, R274). The
external clock indicator is 1 while SYSPLL is locked, and 2 in holdover. -/
def State.rtcmMsgs (s : State) (r : ObsRec) (last msg : Nat) : List Config.RtcmIn :=
  let base : Config.RtcmIn := { msg := msg, station := s.gnssCfg.station, epoch := msmEpoch msg r.ms, multi := false
                                clock := if s.bit CLK_STATUS_SYSPLL_HOLD then 2 else 1 }
  if msg = 1005 then [{ base with arp := s.fix.refPos }]
  else if msg = 1033 then [{ base with desc := s.settingsBody }]
  else
    let parts := by64 4 ((r.ents.filter (s.isCell msg)).map cellOf)
    (List.range parts.length).map (fun i =>
      { base with cells := parts.getD i [], multi := !(msg == last && i + 1 == parts.length) })

/-- The messages of an epoch in order (R274): MSM7 of the enabled systems at an MSM epoch, then 1005 and 1033 at a multiple
of ARP_PERIOD. DESIGN CHOICE (log 123): the spec does not say which epochs are MSM epochs; they are those that begin in a 100 ms unit
of the week whose number is a multiple of MSM_PERIOD, so that a half epoch feeds RTCM output as its boundary does (R24). -/
def State.rtcmDue (s : State) (ms : Nat) : List Nat :=
  let c := s.gnssCfg
  let msm := if c.msmPeriod ≠ 0 ∧ ms / 100 % c.msmPeriod = 0
    then ([(1077, 0), (1097, 1), (1117, 2), (1127, 3)].filter (fun (e : Nat × Nat) => bitOf c.systems e.2)).map (·.1) else []
  msm ++ (if c.arpPeriod ≠ 0 ∧ ms % (1000 * c.arpPeriod) = 0 then [1005, 1033] else [])

/-- One message's frames go to the streams of type 3, with the deadline 100 ms after the epoch, and to the UARTs (R275, R276, R642). -/
def State.rtcmSend (r : ObsRec) (last : Nat) (s : State) (msg : Nat) : State :=
  (s.rtcmMsgs r last msg).foldl (fun s m =>
    let f := rtcmFrame ((Config.rtcmEncode m).take 1023)
    (s.produce 3 (leBytes 4 r.ms ++ leBytes 2 msg ++ leBytes 2 f.length ++ f) (some (r.ply + 10000))).uartRtcm f) s

/-- Every message of an epoch (R274). -/
def State.rtcmEpoch (r : ObsRec) (s : State) : State :=
  let l := s.rtcmDue r.ms
  let last := ((l.filter (fun m => m != 1005 && m != 1033)).getLast?).getD 0
  l.foldl (State.rtcmSend r last) s

/-! ## Publication (R260, R261, R277) -/

/-- The OBS_GET requests that wait for the record are answered (R277). -/
def State.obsWaiters (r : ObsRec) (s : State) : State :=
  let l := s.gnssCfg.waits.filter (fun (w : ObsWait) => w.ms == r.ms)
  let s := { s with gnssCfg := { s.gnssCfg with waits := s.gnssCfg.waits.filter (fun (w : ObsWait) => w.ms != r.ms) } }
  l.foldl (fun s w => s.ecpComplete w.sess w.tag Ecp.OK (obsGetBytes r w.first w.count)) s

/-- Buffer of the next record: 0 for the first, then in turn (R261). -/
def State.nextBuf (s : State) : Nat := if s.gnss.bufs.isEmpty then 0 else (s.get OBS_STATUS_LATEST + 1) % 4

/-- The base time solution of the epoch: its offset is that of GNSS, which is usable with at least 4 FE_A entries with PR_VALID and a
standard deviation of at most 50 ns (R284, R286). -/
def State.timeSol (r : ObsRec) (sol : Option TimeSol) (s : State) : State :=
  match sol with
  | none => { s with time := { s.time with gnssOk := false } }.srcTrack
  | some x =>
    let n := (r.ents.filter (fun e => e.fe == 0 && bitOf e.flags 2 && bitOf e.flags 7)).length
    ({ s with time := { s.time with gnssOk := decide (4 ≤ x.used ∧ x.used ≤ n ∧ x.sd ≤ 50) } }.setOff 1 x.off).srcTrack

/-- OBS_RECORD_PUBLISH, once the record is formed, with the base time solution (R260 to R262, R274, R277, R284, R345). While PD_GNSS is off or REF_LOST is set no record is written (R263). -/
def execObsRecordPublish (sol : Option TimeSol) (s : State) : Out :=
  fin (match s.gnss.forming with
    | none => s
    | some r =>
      if !s.gnss.formed then s
      else if s.domOff 7 ∨ s.clk.refLost then
        { s with gnss := { s.gnss with forming := none, formed := false } }.put OBS_STATUS_FORMING 0
      else
        let b := s.nextBuf
        let half := bitOf r.flags 0
        let bufs := s.gnss.bufs.filter (fun (e : Nat × ObsRec) => e.1 ≠ b)
        let s := { s with gnss := { s.gnss with forming := none, formed := false, bufs := bufs ++ [(b, r)] } }
        let s := (s.puts [(OBS_STATUS_FORMING, 0), (OBS_STATUS_LATEST, b), (OBS_SEQ_SEQ, r.seq)]).emit (.irqApps OBS_SEQ_SEQ.key.reg)
        let s := if half then s else { s with fix := { s.fix with base := some r } }.integEpoch r
        ((s.obsWaiters r).timeSol r sol).rtcmEpoch r)

end Sys2Proof.Machine
end

