-- ==== Sys2Proof/Machine/Recorder.lean ====
section
/-!
DEFINITION. The event recorder (spec/19): records as bytes, the two rings, media faults, the counters with their anchor and
fuses, and the reading opcodes.
-/

namespace Sys2Proof.Machine

open R

/-! ## Records as bytes (R594) -/

/-- CODE of a record: the recorder's own codes are in the spec; the others are in the published catalogue (log 7). -/
def Ev.code : Ev → Nat
  | .submitted c => c
  | .logMedia => 0x0A01
  | .countersRestored => 0x0A02
  | .seqWrap => 0x0A03
  | .retestPass => 0x0A04
  | .retestFail => 0x0A05
  | e => Config.eventCode e.ctorIdx

/-- The 64 bytes of a record. -/
def Rec.bytes (r : Rec) : List Nat :=
  leBytes 4 r.seq ++ leBytes 4 r.ohSec ++ leBytes 2 r.ohMs ++ leBytes 3 r.pcc ++
  [b2n r.civilValid + 2 * b2n r.back + 4 * b2n r.mediaFault + 8 * b2n r.reserve + 16 * b2n r.lostBefore] ++
  leBytes 2 r.ev.code ++ leBytes 8 r.ply ++ leBytes 6 r.civilSec ++ leBytes 2 r.timeGen ++ leBytes 4 r.civilNs ++
  [r.source, r.payload.length] ++ leBytes 2 r.wrap ++ r.payload ++ List.replicate (24 - r.payload.length) 0

/-! ## Writing (R595 to R603) -/

/-- The recorder's data changed. -/
def State.withRec (s : State) (f : RecState → RecState) : State := { s with evr := f s.evr }

/-- SEQ of the next record, and whether it starts again at 1 (R596). -/
def State.nextSeq (s : State) : Nat × Bool :=
  let q := s.get REC_LAST_SEQ_SEQ
  if q = 0xFFFFFFFF then (1, true) else (q + 1, false)

/-- A record as it is written: its place in the sequence, BACK, LOST_BEFORE (R594 to R597). -/
def State.stampRec (s : State) (r : Rec) (seq wrap : Nat) : Rec :=
  { r with seq := seq, wrap := wrap, lostBefore := s.evr.lostBefore, mediaFault := s.bit REC_STATUS_MAIN_FAULT
           back := r.civilValid && decide (r.civilSec < s.evr.hwmSec ∨ (r.civilSec = s.evr.hwmSec ∧ r.civilNs < s.evr.hwmNs)) }

/-- What a written record leaves behind: the current SEQ and WRAP, CIVIL_HWM, and its message on the streams (R595, R596,
R605). -/
def State.written (s : State) (r : Rec) : State :=
  let later := decide (s.evr.hwmSec < r.civilSec ∨ (r.civilSec = s.evr.hwmSec ∧ s.evr.hwmNs < r.civilNs))
  let s := s.withRec (fun e => { e with lostBefore := false, hwmSec := if r.civilValid && later then r.civilSec else e.hwmSec
                                        hwmNs := if r.civilValid && later then r.civilNs else e.hwmNs })
  (s.puts [(REC_LAST_SEQ_SEQ, r.seq), (REC_WRAP_WRAP, r.wrap)]).produce 2 r.bytes (some (s.ply + 100000))

/-- The reserve ring's index after `i`, past the entry that is never overwritten (R599). -/
def RecState.resNext (e : RecState) (i : Nat) : Nat :=
  let n := (i + 1) % 256
  if e.resFirst = some n then (n + 1) % 256 else n

/-- A record put into the reserve ring (R599). -/
def State.putReserve (s : State) (r : Rec) : State :=
  let i := s.evr.resHead
  let s := s.withRec (fun e => { e with
    reserve := e.reserve.filter (fun (x : Nat × Rec) => x.1 ≠ i) ++ [(i, { r with reserve := true })]
    resFirst := if e.resFirst.isNone then some i else e.resFirst })
  (s.withRec (fun e => { e with resHead := e.resNext i })).put REC_STATUS_RES_USED s.evr.reserve.length

/-- A record goes to the reserve ring, whose read-back differs where `bad` holds: RES_FAULT is set, and a record that
neither ring can store counts as lost (R603). -/
def State.writeReserve (s : State) (r : Rec) (bad : Bool) : State :=
  if s.bit REC_STATUS_RES_FAULT ∨ bad then
    let s := s.put REC_STATUS_RES_FAULT 1
    if s.bit REC_STATUS_MAIN_FAULT then s.bump REC_AON_LOST_LOST_EVENTS else s.withRec (fun e => { e with lostBefore := true })
  else (s.putReserve r).written { r with reserve := true }

/-- A record without a place in the queue, stamped now. -/
def State.recNow (s : State) (ev : Ev) (payload : List Nat) : Rec :=
  match (s.withRec (fun e => { e with queue := [] })).record ev payload with
  | t => t.evr.queue.headD {}

/-- A media fault in the main ring at an index: MAIN_FAULT, a record LOG_MEDIA in the reserve ring, and the Rook fault
(R601). -/
def State.mainFault (s : State) (ix : Nat) : State :=
  let s := s.put REC_STATUS_MAIN_FAULT 1
  let q := s.nextSeq
  let w := s.get REC_WRAP_WRAP + (if q.2 then 1 else 0)
  (s.writeReserve (s.stampRec (s.recNow .logMedia (leBytes 2 ix)) q.1 (min w 0xFFFF)) false).latchMedia

/-- One record is written: to the main ring, or to the reserve ring while the main ring has failed or is tested (R596 to
R602). `bad`: the read-back differs. -/
def State.writeRec (s : State) (r0 : Rec) (bad : Bool) : State :=
  let q := s.nextSeq
  let w := min (s.get REC_WRAP_WRAP + (if q.2 then 1 else 0)) 0xFFFF
  let r := s.stampRec r0 q.1 w
  if s.bit REC_STATUS_MAIN_FAULT ∨ s.bit REC_STATUS_RETESTING then s.writeReserve r bad
  else
    let i := s.get REC_HEAD_INDEX
    let s := s.put REC_HEAD_INDEX ((i + 1) % 32768)
    if bad then
      let s := s.withRec (fun e => { e with main := e.main.filter (fun (x : Nat × Rec) => x.1 ≠ i) })
      let s := (s.put REC_LAST_SEQ_SEQ q.1).mainFault i
      let last := s.get REC_LAST_SEQ_SEQ
      (s.writeReserve { r with mediaFault := true } false).put REC_LAST_SEQ_SEQ last
    else (s.withRec (fun e => { e with main := e.main.filter (fun (x : Nat × Rec) => x.1 ≠ i) ++ [(i, r)] })).written r

/-- RECORD_SUBMIT: a block or the firmware submits a record (R596, R597). -/
def execRecordSubmit (code source : Nat) (payload : List Nat) (s : State) : Out :=
  fin (if s.domOff 3 then s else s.record (.submitted code) payload source)

/-- RECORD_WRITE: the next queued record; where SEQ starts again, a record SEQ_WRAP first (R596, R597). Its read-back differs where `bad`
holds, and shows `bits` bits in error: one or two are corrected and counted, more are a media fault (R600). -/
def execRecordWrite (bad : Bool) (bits : Nat) (s : State) : Out :=
  fin (if s.domOff 3 then s
    else match s.evr.queue with
    | [] => s
    | r :: rest =>
      let bad := bad || decide (3 ≤ bits)
      let s := if 1 ≤ bits ∧ bits ≤ 2 then s.bump REC_CNT_CE_COUNT else s
      if s.nextSeq.2 then s.writeRec (s.recNow .seqWrap []) bad
      else (s.withRec (fun e => { e with queue := rest })).writeRec r bad)

/-- A write to REC_CTRL (R595, R602). -/
def State.recCtrl (data : Nat) (s : State) : State :=
  let s := s.put REC_CTRL_CIVIL_EN (b2n (bitOf data 31))
  if bitOf data 30 then (s.put REC_STATUS_RETESTING 1).withRec (fun e => { e with retestAt := s.ply }) else s

/-- REC_RETEST (R602). -/
def execRecRetest (ini data : Nat) (s : State) : Out :=
  fin (if bitOf data 30 then s.asWrite ini 0x40800000 (State.recCtrl data) else s)

/-- REC_RETEST_COMPLETE: after 4 ms; after a pass the main ring is empty and used again (R602). -/
def execRecRetestComplete (pass : Bool) (s : State) : Out :=
  fin (if !s.bit REC_STATUS_RETESTING ∨ s.ply < s.evr.retestAt + 400 then s
    else if pass then
      ((s.puts [(REC_STATUS_RETESTING, 0), (REC_STATUS_MAIN_FAULT, 0)]).withRec (fun e => { e with main := [] })).record .retestPass
    else (s.put REC_STATUS_RETESTING 0).record .retestFail)

/-! ## Counters (R592, R593) -/

/-- A write to REC_RESTORE: operating hours, then the power-cycle count before the increment of R105, from 0x3F only, once,
and only values at or above those held. -/
def State.recRestore (ini data : Nat) (s : State) : State :=
  if ini ≠ 0x3F ∨ !s.bit REC_STATUS_RESTORE_OPEN then s
  else match s.evr.restoreHours with
    | none => if data < s.get REC_AON_OH_SECONDS then s else s.withRec (fun e => { e with restoreHours := some data })
    | some h =>
      if data + 1 < s.get REC_AON_MS_PCC then s
      else
        let s := s.withRec (fun e => { e with restoreHours := none })
        let s := s.puts [(REC_AON_OH_SECONDS, h), (REC_AON_SUB_MS, 0), (REC_AON_MS_PCC, min (data + 1) 0xFFFFFF),
          (REC_STATUS_RESTORE_OPEN, 0)]
        let s := { s with pwr := { s.pwr with aonCycles := 0, dayFrom := h } }
        s.withRec (fun e => { e with queue := s.recNow .countersRestored [] :: e.queue })

/-- REC_RESTORE_WRITE (R593). -/
def execRecRestoreWrite (ini data : Nat) (s : State) : Out := fin (s.asWrite ini 0x40800110 (State.recRestore ini data))

/-- The valid anchor with the larger operating hours (R593). -/
def FlashState.anchor (f : FlashState) : Option (Nat × Nat) :=
  match f.anchor0, f.anchor1 with
  | some a, some b => if a.1 ≤ b.1 then some b else some a
  | a, none => a
  | none, b => b

/-- The counters restored after an AON power-on: operating hours, and the count before the increment of R105 (R593). -/
def FlashState.restored (f : FlashState) : Nat × Nat :=
  match f.anchor with
  | some a => (max (a.1 + 3600) (f.hoursFuses * 3686400), max a.2 (f.cycleFuses * 16384))
  | none => ((f.hoursFuses + 1) * 3686400, (f.cycleFuses + 1) * 16384)

/-- The boot ROM restores the counters while RESTORE_OPEN is set (R593). -/
def State.restoreCounters (s : State) : State :=
  let v := s.flash.restored
  (s.recRestore 0x3F v.1).recRestore 0x3F v.2

/-- ANCHOR_WRITE: the firmware writes an anchor, over the older copy, when the hours have passed a multiple of 3600 s since
the last one, or the power-cycle count has changed (R593). -/
def execAnchorWrite (s : State) : Out :=
  fin (
    let h := s.get REC_AON_OH_SECONDS
    let p := s.get REC_AON_MS_PCC
    let due := match s.flash.anchor with
      | some a => decide (a.1 / 3600 < h / 3600 ∨ a.2 ≠ p)
      | none => true
    let first := match s.flash.anchor0, s.flash.anchor1 with
      | some a, some b => decide (a.1 ≤ b.1)
      | some _, none => false
      | none, _ => true
    if s.boot.core0Rom || !due then s
    else if first then { s with flash := { s.flash with anchor0 := some (h, p) } }
    else { s with flash := { s.flash with anchor1 := some (h, p) } })

/-- HOURS_FUSE_STEP: the next fuse of the hours ladder, or of the cycle ladder (R593). -/
def execHoursFuseStep (cycle : Bool) (s : State) : Out :=
  fin (
    let f := s.flash
    if cycle then
      (if (f.cycleFuses + 1) * 16384 ≤ s.get REC_AON_MS_PCC ∧ f.cycleFuses < 1024
       then { s with flash := { f with cycleFuses := f.cycleFuses + 1 } } else s)
    else if (f.hoursFuses + 1) * 3686400 ≤ s.get REC_AON_OH_SECONDS ∧ f.hoursFuses < 1024
    then { s with flash := { f with hoursFuses := f.hoursFuses + 1 } } else s)

/-! ## Reading (R604, R605) -/

/-- REC_CURSOR_STEP: the initiator's index moves on, modulo the ring size (R604). -/
def State.cursorStep (ini : Nat) (s : State) : State :=
  s.put (REC_CURSOR_INDEX ini) ((s.get (REC_CURSOR_INDEX ini) + 1) % (if s.bit (REC_CURSOR_RING ini) then 256 else 32768))

/-- REC_CURSOR_STEP (R604). -/
def execRecCursorStep (ini : Nat) (s : State) : Out := fin (s.asWrite ini 0x40800020 (State.cursorStep ini))

/-- The entry at an initiator's cursor (R604). -/
def State.cursorRec (s : State) (ini : Nat) : Option Rec :=
  let l := if s.bit (REC_CURSOR_RING ini) then s.evr.reserve else s.evr.main
  (l.find? (fun e => e.1 == s.get (REC_CURSOR_INDEX ini))).map (·.2)

/-- The bytes at the cursor: zeros for an empty entry. -/
def State.cursorBytes (s : State) (ini : Nat) : List Nat :=
  match s.cursorRec ini with | some r => r.bytes | none => List.replicate 64 0

/-- A reader's access that finds `bits` bits in error at an index of the main or the reserve ring: corrected and counted, or a media fault
(R600, R601, R603). -/
def State.ringError (s : State) (reserve : Bool) (i bits : Nat) : State :=
  if bits = 0 then s
  else if bits ≤ 2 then s.bump REC_CNT_CE_COUNT
  else if reserve then
    (s.put REC_STATUS_RES_FAULT 1).withRec (fun e => { e with reserve := e.reserve.filter (fun (x : Nat × Rec) => x.1 ≠ i) })
  else if s.bit REC_STATUS_MAIN_FAULT then s
  else (s.withRec (fun e => { e with main := e.main.filter (fun (x : Nat × Rec) => x.1 ≠ i) })).mainFault i

/-- The entry at an initiator's cursor read with `bits` bits in error (R600, R604). -/
def State.cursorError (s : State) (ini bits : Nat) : State :=
  s.ringError (s.bit (REC_CURSOR_RING ini)) (s.get (REC_CURSOR_INDEX ini)) bits

/-- A record put into a list that rises by SEQ. -/
def insertRec (r : Rec) : List Rec → List Rec
  | [] => [r]
  | x :: t => if r.seq < x.seq then r :: x :: t else if r.seq = x.seq then x :: t else x :: insertRec r t

/-- The records of the current WRAP of the current power cycle from a SEQ on, in SEQ order, from both rings (R605). -/
def State.heldRecs (s : State) (fromSeq : Nat) : List Rec :=
  let mine := fun (r : Rec) => r.wrap == s.get REC_WRAP_WRAP && r.pcc == s.get REC_AON_MS_PCC && decide (fromSeq ≤ r.seq)
  (((s.evr.main ++ s.evr.reserve).map (·.2)).filter mine).foldr insertRec []

/-- The response of REC_READ: the SEQ to go on from, the SEQ values no longer held, the records (R605). -/
def State.recReadBytes (s : State) (fromSeq count : Nat) : List Nat :=
  let l := (s.heldRecs fromSeq).take count
  let next := match l.getLast? with | some r => r.seq + 1 | none => max fromSeq (s.get REC_LAST_SEQ_SEQ + 1)
  let skipped := if fromSeq ≤ s.get REC_LAST_SEQ_SEQ then next - fromSeq - l.length else 0
  leBytes 4 next ++ leBytes 4 skipped ++ [l.length, 0, 0, 0] ++ l.flatMap Rec.bytes

/-- REC_READ. `err`: the access finds bits in error at an index of a ring (R600, R605). -/
def execRecRead (sess tag : Nat) (pay : List Nat) (err : Option (Bool × Nat × Nat)) (s : State) : Out :=
  fin (s.ecpRun 0x0A00 sess tag pay (pay.length == 8) false (fun s =>
    let n := leAt pay 4 1
    if n < 1 ∨ 21 < n then (s, .final Ecp.BAD_PARAM [])
    else
      let s := match err with | some (reserve, i, bits) => s.ringError reserve i bits | none => s
      (s, .final Ecp.OK (s.recReadBytes (leAt pay 0 4) n))))

/-- REC_STATUS as a word. -/
def State.recStatusWord (s : State) : Nat :=
  s.get REC_STATUS_MAIN_FAULT * 2 ^ 31 + s.get REC_STATUS_RES_FAULT * 2 ^ 30 + s.get REC_STATUS_RETESTING * 2 ^ 29 +
  s.get REC_STATUS_RESTORE_OPEN * 2 ^ 28 + s.get REC_STATUS_RES_USED

/-- REC_STATUS (R605). -/
def execRecStatus (sess tag : Nat) (s : State) : Out :=
  fin (s.ecpRun 0x0A01 sess tag [] true false (fun s =>
    (s, .final Ecp.OK (leBytes 4 s.recStatusWord ++ leBytes 4 (s.get REC_HEAD_INDEX) ++
      leBytes 4 (s.get REC_AON_LOST_LOST_EVENTS) ++ leBytes 4 (s.get REC_CNT_QUEUE_DROP)))))

end Sys2Proof.Machine
end

