-- ==== Sys2Proof/Machine/Boot.lean ====
section
/-!
DEFINITION. Images, the boot ROM, the start of the main firmware, updates over ECP, the settings blob and recovery mode
(spec/23). The monitor is in Machine/Monitor.lean.
-/

namespace Sys2Proof.Machine

open R

/-! ## The boot descriptor (R660) -/

/-- STATE_s, TRIES_s and IMG_SEQ_s of a descriptor. -/
def BootDesc.st (d : BootDesc) (k : Nat) : Nat := if k = 0 then d.st0 else d.st1
def BootDesc.tries (d : BootDesc) (k : Nat) : Nat := if k = 0 then d.tries0 else d.tries1
def BootDesc.img (d : BootDesc) (k : Nat) : Nat := if k = 0 then d.img0 else d.img1

/-- A slot's entry replaced. -/
def BootDesc.slot (d : BootDesc) (k st tries img : Nat) : BootDesc :=
  if k = 0 then { d with st0 := st, tries0 := tries, img0 := img } else { d with st1 := st, tries1 := tries, img1 := img }

/-- Copy 1 is the valid copy with the larger SEQ. -/
def FlashState.descNewer1 (f : FlashState) : Bool :=
  match f.desc0, f.desc1 with
  | some a, some b => decide (a.seq < b.seq)
  | none, some _ => true
  | _, none => false

/-- The descriptor in force; without a valid copy both slots count as EMPTY (log 29). -/
def FlashState.desc (f : FlashState) : BootDesc :=
  match f.desc0, f.desc1 with
  | none, none => { seq := 0 }
  | some a, none => a
  | none, some b => b
  | some a, some b => if a.seq < b.seq then b else a

/-- An update of the descriptor goes to the other copy with SEQ + 1 (R660). -/
def State.writeDesc (s : State) (g : BootDesc → BootDesc) : State :=
  let d := s.flash.desc
  let n : BootDesc := { g d with seq := d.seq + 1 }
  if s.flash.descNewer1 || s.flash.desc0.isNone then { s with flash := { s.flash with desc0 := some n } }
  else { s with flash := { s.flash with desc1 := some n } }

/-- A slot's STATE written, its other fields kept. -/
def State.writeSt (s : State) (k st : Nat) : State := s.writeDesc (fun d => d.slot k st (d.tries k) (d.img k))

/-- A slot written NEW with TRIES 3 and IMG_SEQ one above the larger existing value (R669). -/
def State.writeNew (s : State) (k : Nat) : State := s.writeDesc (fun d => d.slot k 1 3 (max d.img0 d.img1 + 1))

/-- The 32 bytes of the copy in force. -/
def BootDesc.bytes (d : BootDesc) : List Nat :=
  let b := leBytes 4 0x44525A42 ++ leBytes 4 d.seq ++ [d.st0, d.tries0, 0, 0] ++ leBytes 4 d.img0 ++
    [d.st1, d.tries1, 0, 0] ++ leBytes 4 d.img1 ++ [d.req, 0, 0, 0]
  b ++ leBytes 4 (crc32c b)

/-! ## Images (R661, R662) -/

/-- The bytes of slot A or B. -/
def State.slotBytes (s : State) (k : Nat) : List Nat := if k = 0 then s.flash.slot0 else s.flash.slot1

/-- Bytes written into a slot. -/
def State.setSlotBytes (s : State) (k : Nat) (b : List Nat) : State :=
  { s with flash := if k = 0 then { s.flash with slot0 := b } else { s.flash with slot1 := b } }

/-- A run of bytes. -/
def byteRun (b : List Nat) (off n : Nat) : List Nat := (b.drop off).take n

/-- VERSION and SVN of a header. -/
def imgVersion (h : List Nat) : List Nat := byteRun h 12 16
def imgSvn (h : List Nat) : Nat := leAt h 8 4

/-- Indices of the component entries, and the first of a type. -/
def compCount (h : List Nat) : Nat := leAt h 7 1
def compType (h : List Nat) (i : Nat) : Nat := leAt h (96 + 48 * i) 1
def compIdx (h : List Nat) (t : Nat) : Option Nat := (List.range (compCount h)).find? (fun i => compType h i == t)

/-- LENGTH of a component, and its bytes in a slot. -/
def compLen (h : List Nat) (i : Nat) : Nat := leAt h (96 + 48 * i + 8) 4
def compBytes (slot h : List Nat) (i : Nat) : List Nat := byteRun slot (leAt h (96 + 48 * i + 4) 4) (compLen h i)

/-- A component is accepted (R662). -/
def compOk (slot h : List Nat) (i : Nat) : Bool :=
  (compBytes slot h i).length == compLen h i && sha256 (compBytes slot h i) == byteRun h (96 + 48 * i + 16) 32

/-- A component of a type is accepted. -/
def typeOk (slot h : List Nat) (t : Nat) : Bool := match compIdx h t with | some i => compOk slot h i | none => false

/-- Largest length of the Rook and the MP component. -/
def typeFits (h : List Nat) (t n : Nat) : Bool := match compIdx h t with | some i => decide (compLen h i ≤ n) | none => false

/-- A header is accepted (R661, R662). -/
def State.headerOk (s : State) (h : List Nat) : Bool :=
  h.length == 4096 && leAt h 0 4 == 0x4D495A42 && leAt h 4 2 == 1 && decide (leAt h 6 1 < 4) &&
  decide (6 ≤ compCount h ∧ compCount h ≤ 8) && decide (leAt h 28 4 ≤ 25165824) &&
  sha256 (byteRun h 32 64) == Config.vendorHash (leAt h 6 1) && !Config.vendorRevoked (leAt h 6 1) &&
  ecdsaVerify (byteRun h 32 64) (sha256 (h.take 480)) (byteRun h 480 64) && decide (s.get BOOT_STATUS_MIN_SVN ≤ imgSvn h) &&
  [1, 2, 3, 4, 5, 6].all (fun t => ((List.range (compCount h)).filter (fun i => compType h i == t)).length == 1) &&
  typeFits h 1 524288 && typeFits h 2 262144

/-- The header of a slot. -/
def State.slotHeader (s : State) (k : Nat) : List Nat := (s.slotBytes k).take 4096

/-- A slot's header and every component are accepted (R669, R674). -/
def State.slotOk (s : State) (k : Nat) : Bool :=
  let h := s.slotHeader k
  s.headerOk h && (List.range (compCount h)).all (compOk (s.slotBytes k) h)

/-! ## The boot ROM (R664 to R666, R673) -/

/-- Recovery mode: the core pair stays halted, and recovery and the monitor hold UART_0 (R673, R675; log 30). -/
def State.enterRecovery (s : State) (cause : Nat) : State :=
  let s := s.puts [(BOOT_STATUS_RECOVERY, 1), (BOOT_STATUS_CAUSE, cause), (ROOK_STATE_HALTED, 1)]
  let s := s.withRook (fun r => { r with wdogOn := false })
  let s := { s with boot := { s.boot with recNext := 0, recOk := false } }
  (if s.bit (UART_STATUS_OWNED 0) then s else s.uartTaken).put MON_STATUS_HELD 1

/-- A NEW slot found with TRIES 0 is marked BAD (R665). -/
def State.spendSlot (s : State) (k : Nat) : State :=
  if s.flash.desc.st k = 1 ∧ s.flash.desc.tries k = 0 then s.writeSt k 3 else s

/-- The GOOD slot with the larger IMG_SEQ, or the only one (R665). -/
def BootDesc.bestGood (d : BootDesc) : Option Nat :=
  if d.st0 = 2 ∧ d.st1 = 2 then some (if d.img0 < d.img1 then 1 else 0)
  else if d.st0 = 2 then some 0 else if d.st1 = 2 then some 1 else none

/-- The slot selected by STRAP.BOOT (R665). -/
def State.selectSlot (s : State) : State × Option Nat :=
  match s.get STRAP_BOOT with
  | 0 => (s, none)
  | 1 =>
    let s := (s.spendSlot 0).spendSlot 1
    let d := s.flash.desc
    match [0, 1].find? (fun k => d.st k == 1 && d.tries k != 0) with
    | some k => (s.writeDesc (fun d => d.slot k 1 (d.tries k - 1) (d.img k)), some k)
    | none => (s, d.bestGood)
  | b => (s, if s.flash.desc.st (b - 2) = 0 ∨ s.flash.desc.st (b - 2) = 3 then none else some (b - 2))

/-- The main firmware is entered (R664 step 5); core 0 leaves the boot ROM, which ends the restore (R593). -/
def State.enterMain (s : State) (k : Nat) (h : List Nat) : State :=
  let s := { s with boot := { s.boot with core0Rom := false, started := false, header := some h, loaded := [] } }
  s.puts [(BOOT_STATUS_SLOT, k), (BOOT_STATUS_TRIAL, b2n (s.flash.desc.st k == 1)), (REC_STATUS_RESTORE_OPEN, 0)]

/-- A component written to its partition, which starts. -/
def State.partLoad (s : State) (slot h : List Nat) (t : Nat) : State :=
  match compIdx h t with
  | some i =>
    if t = 1 then (if s.rookHeld then s else s.rookStart)
    else if s.domOff 2 then s else s.mpStart (compBytes slot h i) (imgVersion h)
  | none => s

/-- Steps 2 to 5 of R664 for a slot; steps 3 and 4 are left out where the core pair runs (R666). Answers whether the main
firmware has been entered. -/
def State.bootSlot (s : State) (full : Bool) (k : Nat) : State × Bool :=
  let h := s.slotHeader k
  let b := s.slotBytes k
  if !s.headerOk h then (s, false)
  else if full && !typeOk b h 1 then (s, false)
  else
    let s := if full then s.partLoad b h 1 else s
    if full && !typeOk b h 2 then (s, false)
    else
      let s := if full then s.partLoad b h 2 else s
      if typeOk b h 3 then (s.enterMain k h, true) else (s, false)

/-- R664 from step 1: every failure marks a slot BAD, so two failures leave no candidate. -/
def State.bootLoop : Nat → State → State
  | 0, s => s.enterRecovery 2
  | n + 1, s =>
    match s.selectSlot with
    | (s, none) => s.enterRecovery (if s.get STRAP_BOOT = 0 then 1 else 2)
    | (s, some k) =>
      match s.bootSlot true k with
      | (s, true) => s
      | (s, false) => (s.writeSt k 3).bootLoop n

/-- Selection with the request of R665. -/
def State.bootSelect (s : State) : State :=
  if s.flash.desc.req = 1 then (s.writeDesc (fun d => { d with req := 0 })).enterRecovery 4 else s.bootLoop 3

/-- A start with the core pair running: the slot booted before, or the spent try of a NEW slot that the application watchdog
has reset (R666). -/
def State.bootAgain (s : State) : State :=
  let k := s.get BOOT_STATUS_SLOT
  if s.flash.desc.st k = 1 ∧ s.get RST_CAUSE_CAUSE = 10 then
    (s.writeDesc (fun d => d.slot k 1 (d.tries k - 1) (d.img k))).assertSource 7 0
  else match s.bootSlot false k with
    | (s, true) => s
    | (s, false) => (s.writeSt k 3).bootSelect

/-- BOOT_ROM_START, with the restore of the counters that comes first (R593, R664 to R666, R673). -/
def execBootRomStart (s : State) : Out :=
  fin (if !s.boot.core0Rom ∨ s.domOff 4 ∨ s.bit BOOT_STATUS_RECOVERY then s
    else
      let s := s.restoreCounters
      if s.bit TRIM_STATUS_SAFE then s.enterRecovery 3
      else if s.bit ROOK_STATE_HALTED then s.bootSelect else s.bootAgain)

/-! ## The main firmware (R667, R671, R672) -/

/-- A component is not accepted (R667). -/
def State.loadFailed (s : State) (t : Nat) : State := (s.put BOOT_STATUS_LOAD_FAIL 1).record .loadFail [t]

/-- A load of a component from the booted slot against the header kept in DRAM (R667). -/
def State.loadComp (s : State) (t : Nat) : State :=
  match s.boot.header with
  | none => s
  | some h =>
    let b := s.slotBytes (s.get BOOT_STATUS_SLOT)
    if !typeOk b h t then s.loadFailed t
    else if t ≤ 2 then s.partLoad b h t
    else { s with boot := { s.boot with loaded := t :: s.boot.loaded.filter (· ≠ t) } }

/-- The processors of a component have power and hold no code: the core pair and MP halted after a reset, the others not
loaded since their domain was switched on (R91, R667). -/
def State.loadDue (s : State) (t : Nat) : Bool :=
  match t with
  | 1 => !s.rookHeld && s.bit ROOK_STATE_HALTED
  | 2 => !s.domOff 2 && !s.mp.running
  | 4 => !s.domOff 7 && !s.boot.loaded.contains 4
  | 5 => !s.domOff 8 && !s.boot.loaded.contains 5
  | 6 => !s.domOff 6 && !s.boot.loaded.contains 6
  | _ => false

/-- COMPONENT_LOAD of component `typ` by the main firmware (R667). -/
def execComponentLoad (typ : Nat) (s : State) : Out := fin (if s.boot.started && s.loadDue typ then s.loadComp typ else s)

/-- A settings copy. -/
def State.setCopy (s : State) (k : Nat) : Option SetCopy := if k = 0 then s.flash.set0 else s.flash.set1

/-- A settings copy written. -/
def State.putCopy (s : State) (k : Nat) (c : Option SetCopy) : State :=
  { s with flash := if k = 0 then { s.flash with set0 := c } else { s.flash with set1 := c } }

/-- VERSION of the running main firmware. -/
def State.ownVersion (s : State) : List Nat := match s.boot.header with | some h => imgVersion h | none => []

/-- A copy qualifies: ACCEPTED, or PENDING with the firmware's own VERSION as its WRITER, and no newer FORMAT (R671). -/
def State.copyFits (s : State) (c : SetCopy) : Bool :=
  (c.state == 2 || (c.state == 1 && c.writer == s.ownVersion)) && decide (c.format ≤ Config.settingsFormat s.ownVersion)

/-- The copy in use: the larger GEN of those that qualify (R671). -/
def State.settingsPick (s : State) : Option (Nat × SetCopy) :=
  let fit := fun k => match s.setCopy k with | some c => if s.copyFits c then some c else none | none => none
  match fit 0, fit 1 with
  | some a, some b => if a.gen < b.gen then some (1, b) else some (0, a)
  | some a, none => some (0, a)
  | none, some b => some (1, b)
  | none, none => none

/-- A copy with an older FORMAT is migrated into the other one as PENDING (R672). -/
def State.settingsMigrate (s : State) (k : Nat) (c : SetCopy) : State :=
  let v := s.ownVersion
  if c.format < Config.settingsFormat v then
    s.putCopy (1 - k) (some { format := Config.settingsFormat v, state := 1, gen := c.gen + 1, writer := v
                              body := Config.settingsMigrate v c.body })
  else s

/-- The settings of a start; a blob that states the other role keeps EFL transmission off (R131, R671, R672). -/
def State.settingsStart (s : State) : State :=
  match s.settingsPick with
  | none => ({ s with boot := { s.boot with settings := none, settingsRole := none } }.put MAC_CTRL_NET_EN 0).record .settingsNone
  | some (k, c) =>
    let s := { s with boot := { s.boot with settings := some k, settingsRole := Config.settingsRole c.body } }.settingsMigrate k c
    if s.roleMismatch then (s.put MAC_CTRL_NET_EN 0).record .roleMismatch else s

/-- What the settings hold for SIGNALS_SET and RTCM_SET applies until a request has been taken since the last system or wider reset (R279). -/
def State.settingsSignals (s : State) : State :=
  let l := Config.settingsGnss s.settingsBody
  let v := fun i => l.getD i 0
  let g := s.gnssCfg
  let g := if g.sigSet then g else { g with maskA := v 0, maskB := v 1, elevMask := v 2 }
  { s with gnssCfg := if g.rtcmSet then g else { g with station := v 3, msmPeriod := v 4, arpPeriod := v 5, systems := v 6 } }

/-- What the settings of a copy in use bring: signals and RTCM output (R279), the accounts of the shipped profiles (R395). -/
def State.settingsUse (s : State) : State :=
  if s.boot.settings.isSome then s.settingsSignals.shipProfiles (Config.settingsProfiles s.settingsBody) else s

/-- MAIN_FIRMWARE_START: settings, the released cores, the components of the domains that are on, the GNSS start (R119, R229, R667, R671).
`alm` is the age of the almanac in days, `moved` the antenna's distance in m, `sky` the prediction from the hot-start block. -/
def execMainFirmwareStart (alm moved : Nat) (sky : List SkySig) (s : State) : Out :=
  fin (if s.boot.core0Rom ∨ s.boot.started ∨ s.domOff 4 then s
    else
      let s := s.settingsStart.settingsUse
      let s := { s with boot := { s.boot with started := true }
                        rst := { s.rst with halted := s.rst.halted.filter (fun c => s.domOff 5 && decide (8 ≤ c)) } }
      ([4, 5, 6].foldl (fun s t => if s.loadDue t then s.loadComp t else s) s).gnssStart alm moved sky)

/-! ## Update through ECP (R668, R669) -/

/-- A request of group 0x0D: AUTH_FAIL in an unauthenticated session (R668). -/
def State.updRun (s : State) (op sess tag : Nat) (pay : List Nat) (lenOk : Bool) (h : State → State × EcpAns) : State :=
  let auth := match s.session sess with | some x => x.auth | none => false
  s.ecpRun op sess tag pay lenOk false (fun s =>
    if !auth then (s, .final Ecp.AUTH_FAIL []) else if padOk op pay then h s else (s, .final Ecp.BAD_PARAM []))

/-- The slot that an update writes, and the settings copy (R669, R672). -/
def State.updSlot (s : State) : Nat := 1 - s.get BOOT_STATUS_SLOT
def State.updCopy (s : State) : Nat := match s.boot.settings with | some 0 => 1 | _ => 0

/-- UPD_BEGIN (R668, R669). -/
def execUpdBegin (sess tag : Nat) (pay : List Nat) (s : State) : Out :=
  fin (s.updRun 0x0D00 sess tag pay (pay.length == 8) (fun s =>
    let t := leAt pay 0 1
    let len := leAt pay 4 4
    let other := match s.boot.upd with | some u => u.sess != sess | none => false
    if 2 ≤ t ∨ len = 0 ∨ (if t = 0 then 25165824 else 1048576) < len then (s, .final Ecp.BAD_PARAM [])
    else if other then (s, .final Ecp.DENIED [])
    else
      let k := if t = 0 then s.updSlot else s.updCopy
      let s := if t = 0 then (s.writeDesc (fun d => d.slot k 0 0 (d.img k))).setSlotBytes k [] else s
      ({ s with boot := { s.boot with upd := some { sess := sess, settings := t == 1, slot := k, len := len } } },
        .final Ecp.OK [k, 0, 0, 0])))

/-- The open transfer of a session. -/
def State.updOf (s : State) (sess : Nat) : Option Transfer :=
  match s.boot.upd with | some u => if u.sess = sess then some u else none | none => none

/-- UPD_DATA: ascending, without gaps (R669). -/
def execUpdData (sess tag : Nat) (pay : List Nat) (s : State) : Out :=
  fin (s.updRun 0x0D01 sess tag pay (8 ≤ pay.length && pay.length == 8 + leAt pay 4 2) (fun s =>
    let off := leAt pay 0 4
    let n := leAt pay 4 2
    match s.updOf sess with
    | none => (s, .final Ecp.DENIED [])
    | some u =>
      if n < 1 ∨ 1400 < n ∨ off ≠ u.data.length ∨ u.len < off + n then (s, .final Ecp.BAD_PARAM [])
      else
        let d := u.data ++ pay.drop 8
        let s := { s with boot := { s.boot with upd := some { u with data := d } } }
        (if u.settings then s else s.setSlotBytes u.slot d, .final Ecp.OK [])))

/-- The header of a settings copy is valid: MAGIC, STATE, LENGTH and the CRC-32C over header and body, its own field read as 0 (R670). -/
def settingsValid (b : List Nat) : Bool :=
  decide (32 ≤ b.length) && leAt b 0 4 == 0x53545A42 && (leAt b 6 1 == 1 || leAt b 6 1 == 2) && leAt b 7 1 == 0 &&
  leAt b 12 4 == b.length - 32 && leAt b 28 4 == crc32c (b.take 28 ++ [0, 0, 0, 0] ++ b.drop 32)

/-- The end of a settings transfer: the copy is written ACCEPTED (R672); one without a valid header is no copy (R671). -/
def State.updSettings (s : State) (u : Transfer) : State :=
  s.putCopy u.slot (if settingsValid u.data then
      some { format := leAt u.data 4 2, state := 2, gen := leAt u.data 8 4, writer := Config.settingsWriter u.data, body := u.data.drop 32 }
    else none)

/-- UPD_END (R668, R669). -/
def execUpdEnd (sess tag : Nat) (pay : List Nat) (s : State) : Out :=
  fin (s.updRun 0x0D02 sess tag pay (pay.length == 4) (fun s =>
    match s.updOf sess with
    | none => (s, .final Ecp.DENIED [])
    | some u =>
      let s := { s with boot := { s.boot with upd := none } }
      if u.data.length ≠ u.len ∨ crc32c u.data ≠ leAt pay 0 4 then (s, .slow Ecp.BAD_PARAM [])
      else if u.settings then
        let s := s.updSettings u
        (s.useFree, .slow Ecp.OK (leBytes 20 s.freeVal))
      else if s.slotOk u.slot then
        (s.writeNew u.slot, .slow Ecp.OK (imgVersion (s.slotHeader u.slot) ++ leBytes 4 (imgSvn (s.slotHeader u.slot))))
      else (s, .slow Ecp.BAD_PARAM [])))

/-- UPD_ACTIVATE: ROOK_COLD follows 1 ms after the response (R668, R669). -/
def execUpdActivate (sess tag : Nat) (s : State) : Out :=
  fin (s.updRun 0x0D03 sess tag [] true (fun s =>
    if (s.flash.desc.st0 ≠ 1 ∧ s.flash.desc.st1 ≠ 1) ∨ s.bit PAIR_STATUS_HANDOVER_PEND then (s, .final Ecp.DENIED [])
    else ({ s with boot := { s.boot with coldAt := some (s.ply + 100) } }, .final Ecp.OK [])))

/-- Fuses are blown until MIN_SVN equals the confirmed SVN, up to 32 (R663). -/
def State.raiseSvn (s : State) (svn : Nat) : State :=
  if s.get BOOT_STATUS_MIN_SVN < svn then s.put BOOT_STATUS_MIN_SVN (max (s.get BOOT_STATUS_MIN_SVN) (min svn 32)) else s

/-- A PENDING settings copy of the running image is accepted (R669, R672). -/
def State.acceptCopy (s : State) (k : Nat) : State :=
  match s.setCopy k with
  | some c => if c.state = 1 ∧ c.writer = s.ownVersion then s.putCopy k (some { c with state := 2 }) else s
  | none => s

/-- UPD_CONFIRM (R663, R669). -/
def execUpdConfirm (sess tag : Nat) (s : State) : Out :=
  fin (s.updRun 0x0D04 sess tag [] true (fun s =>
    let k := s.get BOOT_STATUS_SLOT
    if s.flash.desc.st k ≠ 1 then (s, .final Ecp.DENIED [])
    else
      let svn := match s.boot.header with | some h => imgSvn h | none => 0
      let s := (((s.writeSt k 2).put BOOT_STATUS_TRIAL 0).raiseSvn svn)
      let s := (s.acceptCopy 0).acceptCopy 1
      (s, .final Ecp.OK [s.get BOOT_STATUS_MIN_SVN, 0, 0, 0])))

/-- BOOT_STATUS as a word. -/
def State.bootWord (s : State) : Nat :=
  s.get BOOT_STATUS_SLOT * 2 ^ 31 + s.get BOOT_STATUS_TRIAL * 2 ^ 30 + s.get BOOT_STATUS_LOAD_FAIL * 2 ^ 29 +
  s.get BOOT_STATUS_RECOVERY * 2 ^ 28 + s.get BOOT_STATUS_CAUSE * 2 ^ 24 + s.get BOOT_STATUS_MIN_SVN

/-- UPD_STATUS (R668). -/
def execUpdStatus (sess tag : Nat) (s : State) : Out :=
  fin (s.updRun 0x0D05 sess tag [] true (fun s => (s, .final Ecp.OK (s.flash.desc.bytes ++ leBytes 4 s.bootWord))))

/-! ## Recovery mode (R673, R674) -/

/-- A recovery packet of an operation that recovery mode takes: the framing fields and the CRC are right. -/
def State.recTakes (s : State) (op : Nat) (pkt : List Nat) : Bool :=
  s.bit BOOT_STATUS_RECOVERY && !s.domOff 4 && leAt pkt 0 2 == 0x5243 && leAt pkt 2 1 == op && decide (leAt pkt 12 2 ≤ 1024) &&
  pkt.length == 20 + leAt pkt 12 2 && crc32c (pkt.take (16 + leAt pkt 12 2)) == leAt pkt (16 + leAt pkt 12 2) 4

/-- The answer to a packet: the same OP, SEQ and OFFSET, with a STATUS and data. -/
def recAnswer (pkt : List Nat) (status : Nat) (data : List Nat) : List Nat :=
  let b := leBytes 2 0x5243 ++ [leAt pkt 2 1, status % 256] ++ byteRun pkt 4 8 ++ leBytes 2 data.length ++ [0, 0] ++ data
  b ++ leBytes 4 (crc32c b)

/-- Send the answer. -/
def State.recReply (s : State) (pkt : List Nat) (status : Nat) (data : List Nat) : State :=
  s.emit (.recovery (recAnswer pkt status data))

/-- STRAP as a word. -/
def State.strapWord (s : State) : Nat :=
  s.get STRAP_UNSTABLE * 2 ^ 31 + s.get STRAP_RAW * 2 ^ 12 + s.get STRAP_BOOT * 2 ^ 8 + s.get STRAP_ROLE * 2 ^ 5 +
  s.get STRAP_REC_IF * 2 ^ 4 + s.get STRAP_CODE

/-- The serial number. -/
def serialBytes : List Nat := (List.range 8).map (fun i => Config.serialByte i % 256)

/-- RECOVERY_HELLO (R674). -/
def execRecoveryHello (pkt : List Nat) (s : State) : Out :=
  fin (if s.recTakes 1 pkt then
    s.recReply pkt 0 (serialBytes ++ leBytes 4 Config.romVersion ++ leBytes 4 s.strapWord ++ [s.get BOOT_STATUS_CAUSE])
  else s)

/-- The target slot: the slot not GOOD, slot A when both are, or neither is, GOOD (R674; log 31). -/
def State.recTarget (s : State) : Nat := if s.flash.desc.st0 = 2 ∧ s.flash.desc.st1 ≠ 2 then 1 else 0

/-- RECOVERY_WRITE: in order, from OFFSET 0; the STATUS of a refused write is free (R674; log 31). -/
def execRecoveryWrite (pkt : List Nat) (s : State) : Out :=
  fin (if s.recTakes 2 pkt then
    let off := leAt pkt 8 4
    let d := byteRun pkt 16 (leAt pkt 12 2)
    if (off ≠ s.boot.recNext ∧ off ≠ 0) ∨ 25165824 < off + d.length then (s.recReply pkt s.freeVal []).useFree
    else
      let k := s.recTarget
      let s := s.setSlotBytes k ((s.slotBytes k).take off ++ d)
      let s := { s with boot := { s.boot with recNext := off + d.length, recOk := false } }
      s.recReply pkt 0 []
  else s)

/-- RECOVERY_VERIFY (R674). -/
def execRecoveryVerify (pkt : List Nat) (s : State) : Out :=
  fin (if s.recTakes 3 pkt then
    let ok := s.slotOk s.recTarget
    ({ s with boot := { s.boot with recOk := ok } }).recReply pkt (b2n !ok) []
  else s)

/-- RECOVERY_COMMIT: after a passed VERIFY (R674). -/
def execRecoveryCommit (pkt : List Nat) (s : State) : Out :=
  fin (if s.recTakes 4 pkt then
    if s.boot.recOk then (s.writeNew s.recTarget).recReply pkt 0 [] else (s.recReply pkt s.freeVal []).useFree
  else s)

/-- RECOVERY_RESET: the reach and index of MONITOR (R674). -/
def execRecoveryReset (pkt : List Nat) (s : State) : Out :=
  fin (if s.recTakes 5 pkt then (s.recReply pkt 0 []).assertSource 12 0 else s)

end Sys2Proof.Machine
end

