-- ==== Sys2Proof/Machine/Units.lean ====
section
/-!
DEFINITION. DRAM's address map, training and scrubbing, the arbiters, the CRC channels (spec/21), and an unrecoverable fault
of a core (R160).
-/

namespace Sys2Proof.Machine

open R

/-! ## DRAM (R618 to R624) -/

/-- Bytes of data that a channel holds: RANKS ranks of eight x8 devices of 8 Gb or 16 Gb, and two check devices (R65, R620); none
where it has no devices or has failed training (R619). -/
def State.dramSize (s : State) (c : Nat) : Nat :=
  if s.get (DDR_CFG_STATE c) = 3 then 0
  else min (2 ^ 34) (s.get (DDR_CFG_RANKS c) * (if s.bit (DDR_CFG_DENSITY c) then 2 ^ 34 else 2 ^ 33))

/-- The first address of DRAM. -/
def dramBase : Nat := 0x8000000000

/-- Channel and offset within it of an address (R618): 4 KiB blocks in turn where both channels are present with equal capacity, else channel
0 and then channel 1; none beyond what is populated. -/
def State.dramAt (s : State) (a : Nat) : Option (Nat × Nat) :=
  let o := a - dramBase
  let m := s.dramSize 0
  let n := s.dramSize 1
  if a < dramBase ∨ m + n ≤ o then none
  else if m = n then some (o / 4096 % 2, o / 8192 * 4096 + o % 4096)
  else if o < m then some (0, o) else some (1, o - m)

/-- The address of an offset of a channel (R618). -/
def State.dramAddr (s : State) (c o : Nat) : Nat :=
  if s.dramSize 0 = s.dramSize 1 then dramBase + o / 4096 * 8192 + c * 4096 + o % 4096
  else dramBase + (if c = 0 then 0 else s.dramSize 0) + o

/-- An access beyond the populated capacity touches nothing, ends with an error response and is recorded (R618). -/
def State.dramMiss (s : State) (a : Nat) : State := s.record .unmapped (leBytes 5 a)

/-- DRAM_TRAINING_COMPLETE of a channel with devices fitted (R619). -/
def execDramTrainingComplete (c : Nat) (ok : Bool) (s : State) : Out :=
  fin (if 2 ≤ c ∨ s.domOff 3 ∨ s.get (DDR_CFG_RANKS c) = 0 ∨ 2 ≤ s.get (DDR_CFG_STATE c) then s
    else if ok then s.put (DDR_CFG_STATE c) 2
    else (s.put (DDR_CFG_STATE c) 3).record .dramFail [c])

/-- A DRAM read of a word of channel `c` finds `err` bits in error: one or two are corrected and counted, three are
detected (R621). -/
def State.eccRead (s : State) (c err addr : Nat) : State :=
  if err = 0 then s
  else if err ≤ 2 then
    (s.bump (ECC_CNT_CE c)).puts [(ECC_CE_ADDR_LO_ADDR c, addr), (ECC_CE_ADDR_HI_ADDR c, addr / 2 ^ 32)]
  else
    let s := (s.bump (ECC_CNT_UE c)).puts [(ECC_UE_ADDR_LO_ADDR c, addr), (ECC_UE_ADDR_HI_ADDR c, addr / 2 ^ 32), (ECC_STATUS_UE c, 1)]
    (s.emit (.irqApps 310)).record .eccUe ([c] ++ leBytes 5 addr)

/-- The scrubber of a channel runs (R624). -/
def State.scrubs (s : State) (c : Nat) : Bool :=
  decide (c < 2) && !s.domOff 3 && s.bit (SCRUB_CFG_EN c) && s.get (DDR_CFG_STATE c) == 2

/-- The bursts of 64 bytes of a channel (R624). -/
def State.bursts (s : State) (c : Nat) : Nat := s.dramSize c / 64

/-- The ply in which the sweep of a channel began, set (R624). -/
def State.sweepFrom (s : State) (c : Nat) (p : Option Nat) : State :=
  let l := s.unit.sweeps.filter (fun (e : Nat × Nat) => e.1 ≠ c)
  { s with unit := { s.unit with sweeps := l ++ (p.toList.map (fun q => (c, q))) } }

/-- SCRUB_READ: the next burst in ascending order is read and written back, with `err` bits in error in its word `word` (R621, R622,
R624). -/
def execScrubRead (c err word : Nat) (s : State) : Out :=
  fin (let n := s.get (SCRUB_POS_BURST c)
    if !s.scrubs c ∨ s.bursts c ≤ n then s
    else
      let s := if n = 0 ∧ !s.unit.sweeps.any (fun e => e.1 == c) then s.sweepFrom c (some s.ply) else s
      (s.eccRead c err (s.dramAddr c (n * 64 + word % 8 * 8))).put (SCRUB_POS_BURST c) (n + 1))

/-- SCRUB_SWEEP_END: every burst has been read, and the next sweep begins (R624). -/
def execScrubSweepEnd (c : Nat) (s : State) : Out :=
  fin (if s.scrubs c ∧ s.bursts c ≤ s.get (SCRUB_POS_BURST c)
    then ((s.bump (ECC_STATUS_SWEEPS c)).put (SCRUB_POS_BURST c) 0).sweepFrom c (some s.ply) else s)

/-- SCRUB_LATE: the sweep's period of HOURS hours ends with bursts left, once per sweep (R624). -/
def execScrubLate (c : Nat) (s : State) : Out :=
  fin (match s.unit.sweeps.find? (fun e => e.1 == c) with
    | none => s
    | some (_, p) =>
      if s.scrubs c ∧ s.get (SCRUB_POS_BURST c) < s.bursts c ∧ p + s.get (SCRUB_CFG_HOURS c) * 360000000 ≤ s.ply
      then ((s.sweepFrom c none).put (ECC_STATUS_SCRUB_LATE c) 1).record .scrubLate [c] else s)

/-! ## The on-die SRAMs (R512, R623) -/

/-- What an uncorrectable error in an on-die SRAM other than Rook's and the recorder's brings, beside its count and record: the filter
reset at the next strobe, every filter for a word outside them; the hot-start block invalid; the retained key slot emptied; the MP core's
fault, out of which MP_WDOG brings it (R101, R160, R582, R623). -/
def State.sramLoss (s : State) : SramMem → State
  | .fix a => { s with fix := { s.fix with resets := s.fix.resets ++ [a.getD 0xFF] } }
  | .hotStart => { s with pwr := { s.pwr with hotValid := false } }
  | .keySlot k => if k < 128 then s.emptySlot k else s
  | .mp => (ownerReset 0x31 s).assertSource 17 0
  | .rook => s

/-- Number of an SRAM in its event record, with the filter or slot. -/
def sramTag : SramMem → List Nat
  | .rook => [0, 0, 0] | .fix a => [1] ++ leBytes 2 (a.getD 0xFF) | .hotStart => [2, 0, 0] | .keySlot k => [3] ++ leBytes 2 k
  | .mp => [4, 0, 0]

/-- ROOK_SRAM_UE: `bits` bits in error in a word of an on-die SRAM. Rook's keeps its own counts (R512, R623). -/
def execRookSramUe (mem : SramMem) (bits : Nat) (s : State) : Out :=
  fin (if mem = .rook then s.rookSram bits
    else if bits = 0 then s
    else if bits ≤ 2 then s.bump ECC_SRAM_SRAM_CE
    else ((s.sramLoss mem).bump ECC_SRAM_SRAM_UE).record .sramUe (sramTag mem))

/-! ## Arbiters (R625 to R631) -/

/-- The class of a requester, two bits of ARB_CLASS (R625, R631). -/
def State.arbClass (s : State) (c i : Nat) : Nat :=
  s.get (([ARB_CLASS_CLASS_0 c, ARB_CLASS_CLASS_1 c, ARB_CLASS_CLASS_2 c, ARB_CLASS_CLASS_3 c, ARB_CLASS_CLASS_4 c, ARB_CLASS_CLASS_5 c,
    ARB_CLASS_CLASS_6 c, ARB_CLASS_CLASS_7 c, ARB_CLASS_CLASS_8 c, ARB_CLASS_CLASS_9 c, ARB_CLASS_CLASS_10 c, ARB_CLASS_CLASS_11 c,
    ARB_CLASS_CLASS_12 c, ARB_CLASS_CLASS_13 c, ARB_CLASS_CLASS_14 c, ARB_CLASS_CLASS_15 c]).getD i (ARB_CLASS_CLASS_0 c))

/-- The arbiter of a channel. -/
def State.arb (s : State) (c : Nat) : ArbState := if c = 0 then s.unit.arb0 else s.unit.arb1
def State.setArb (s : State) (c : Nat) (a : ArbState) : State :=
  { s with unit := if c = 0 then { s.unit with arb0 := a } else { s.unit with arb1 := a } }

/-- The first after `p`, in ascending order with wrap, of `n` that want (R626, R628). -/
def nextFrom (n p : Nat) (want : Nat → Bool) : Option Nat := ((List.range n).map (fun k => (p + 1 + k) % n)).find? want

/-- A 48-bit count advances and wraps (R629). -/
def State.bump48 (s : State) (lo hi : Fld) (n : Nat) : State :=
  let v := (s.get lo + s.get hi * 2 ^ 32 + n) % 2 ^ 48
  s.puts [(lo, v), (hi, v / 2 ^ 32)]

/-- The wait of requester `i` goes on for `n` cycles of CLK_FAB: WAIT and LONGEST follow, and STARVE where it reaches the limit (R629, R630). -/
def State.arbWait (s : State) (c i n : Nat) : State :=
  let a := s.arb c
  let was := a.wait.getD i 0
  let now := was + n
  let s := (s.setArb c { a with wait := a.wait.set i now }).bump48 (ARB_WAIT_LO_WAIT c i) (ARB_WAIT_HI_WAIT c i) n
  let s := s.put (ARB_LONGEST_LONGEST c i) (max (s.get (ARB_LONGEST_LONGEST c i)) (min now 0xFFFFFFFF))
  if was < s.get (ARB_CTRL_STARVE_LIMIT c) ∧ s.get (ARB_CTRL_STARVE_LIMIT c) ≤ now
  then (s.putBit (ARB_STARVE_STARVE c) i true).emit (.irqApps 317) else s

/-- A wait is over. -/
def State.arbDone (s : State) (c i : Nat) : State := let a := s.arb c; s.setArb c { a with wait := a.wait.set i 0 }

/-- The requester that a decision grants: the lowest class that holds a request, then round robin after the class's pointer (R626). -/
def State.arbPick (s : State) (c : Nat) (req : List Nat) : Option Nat :=
  (List.range 4).findSome? (fun k =>
    nextFrom 16 ((s.arb c).ptr.getD k 15) (fun i => req.getD i 0 != 0 && s.arbClass c i == k))

/-- One decision slot (R626 to R629): the pointer moves to the granted requester; where it has withdrawn meanwhile the grant is void, else a
port passes it to the first of its inputs after the one it served last. A slot is two cycles, which every request waits. -/
def State.arbSlot (s : State) (d : ArbSlot) : State :=
  if 2 ≤ d.ch ∨ s.domOff 3 then s
  else match s.arbPick d.ch d.req with
    | none => s
    | some g =>
      let a := s.arb d.ch
      let s := s.setArb d.ch { a with ptr := a.ptr.set (s.arbClass d.ch g) g }
      let s := (List.range 16).foldl (fun s i => if d.req.getD i 0 = 0 then s else s.arbWait d.ch i 2) s
      let s := match nextFrom 16 ((s.arb d.ch).port.getD g 15) (bitOf (d.left.getD g 0)) with
        | none => s.bump (ARB_VOID_VOID d.ch g)
        | some k =>
          let a := s.arb d.ch
          ((s.setArb d.ch { a with port := a.port.set g k }).bump48 (ARB_GRANT_LO_GRANT d.ch g) (ARB_GRANT_HI_GRANT d.ch g) 1).arbDone d.ch g
      (List.range 16).foldl (fun s i => if d.left.getD i 0 = 0 then s.arbDone d.ch i else s) s

/-- ARB_STARVE: the wait of requester `i` goes on until it reaches STARVE_LIMIT cycles (R629, R630). -/
def execArbStarve (c i : Nat) (s : State) : Out :=
  fin (if 2 ≤ c ∨ 16 ≤ i ∨ s.domOff 3 then s
    else s.arbWait c i (s.get (ARB_CTRL_STARVE_LIMIT c) - (s.arb c).wait.getD i 0))

/-! ## CRC channels (R633 to R638) -/

/-- An initiator may configure and feed a channel (R633). -/
def State.crcMay (s : State) (ini k : Nat) : Bool :=
  if k < 12 then ini != 0 && s.get (CRC_CTRL_OWNER k) == ini
  else if k = 12 then ini == 0x3F || isApp ini
  else if k = 13 then isApp ini
  else if k = 14 then ini == 0x31
  else k == 15 && ini == 0x30

/-- Two words as one value. -/
def State.wide (s : State) (lo hi : Fld) : Nat := s.get lo + s.get hi * 2 ^ 32

/-- A value put into two words. -/
def State.putWide (s : State) (lo hi : Fld) (v : Nat) : State := s.puts [(lo, v), (hi, v / 2 ^ 32)]

/-- STATE of a channel: reg (R634). -/
def State.crcReg (s : State) (k : Nat) : Nat := s.wide (CRC_STATE_LO_STATE k) (CRC_STATE_HI_STATE k)

/-- reg set, and RESULT with it: the value over the bytes fed (R634). -/
def State.crcSet (s : State) (k reg : Nat) : State :=
  let v := crcFinish (s.get (CRC_CTRL_W k)) (s.bit (CRC_CTRL_REFOUT k)) (s.wide (CRC_XOR_LO_XOROUT k) (CRC_XOR_HI_XOROUT k)) reg
  (s.putWide (CRC_STATE_LO_STATE k) (CRC_STATE_HI_STATE k) reg).putWide (CRC_RESULT_LO_RESULT k) (CRC_RESULT_HI_RESULT k) v

/-- INIT as it is loaded into reg. -/
def State.crcInit (s : State) (k : Nat) : Nat :=
  s.wide (CRC_INIT_LO_INIT k) (CRC_INIT_HI_INIT k) % 2 ^ s.get (CRC_CTRL_W k)

/-- CLEAR (R635). -/
def State.crcClear (k : Nat) (s : State) : State :=
  ((s.crcSet k (s.crcInit k)).putWide (CRC_BYTES_LO_BYTES k) (CRC_BYTES_HI_BYTES k) 0).puts [(CRC_STATUS_DONE k, 0), (CRC_STATUS_ERROR k, 0)]

/-- Bytes fed to a channel (R634, R635). -/
def State.crcTake (k : Nat) (bs : List Nat) (s : State) : State :=
  let n := s.wide (CRC_BYTES_LO_BYTES k) (CRC_BYTES_HI_BYTES k) + bs.length
  let reg := crcFeed (s.get (CRC_CTRL_W k)) (s.wide (CRC_POLY_LO_POLY k) (CRC_POLY_HI_POLY k)) (s.bit (CRC_CTRL_REFIN k)) (s.crcReg k) bs
  (s.crcSet k reg).putWide (CRC_BYTES_LO_BYTES k) (CRC_BYTES_HI_BYTES k) n

/-- A scan or a snoop feeds the channel, so other feeds, configuration, CLEAR and restores are refused (R635). -/
def State.crcBusy (s : State) (k : Nat) : Bool := s.bit (CRC_STATUS_BUSY k) || s.get (CRC_CTRL_SNOOP_SRC k) != 0

/-- A write by its owner to a channel that takes it; other writes leave the channel unchanged (R633, R635). -/
def State.crcWrite (ini k : Nat) (f : State → State) (s : State) : State :=
  if s.crcMay ini k && !s.crcBusy k then f s else s

/-- TAKE and RELEASE (R633). -/
def State.crcAcquire (ini k : Nat) (s : State) : State :=
  if decide (k < 12) && capable ini && s.get (CRC_CTRL_OWNER k) == 0 then s.put (CRC_CTRL_OWNER k) ini else s
def State.crcFree (ini k : Nat) (s : State) : State :=
  if decide (k < 12) && s.crcMay ini k then s.puts [(CRC_CTRL_OWNER k, 0), (CRC_CTRL_SNOOP_SRC k, 0)] else s

/-- Address of a word of channel `k`. -/
def crcAddr (k off : Nat) : Nat := 0x40920000 + 0x100 * k + off

/-- A register write to a channel that exists. -/
def State.crcRow (s : State) (ini k off : Nat) (f : State → State) : State := if k < 16 then s.asWrite ini (crcAddr k off) f else s

/-- CRC_TAKE_WRITE (R633). -/
def execCrcTakeWrite (ini k : Nat) (s : State) : Out := fin (s.crcRow ini k 0 (State.crcAcquire ini k))
/-- CRC_RELEASE_WRITE (R633). -/
def execCrcReleaseWrite (ini k : Nat) (s : State) : Out := fin (s.crcRow ini k 0 (State.crcFree ini k))
/-- CRC_CLEAR (R635). -/
def execCrcClear (ini k : Nat) (s : State) : Out := fin (s.crcRow ini k 0 (State.crcWrite ini k (State.crcClear k)))

/-- CRC_FEED_WRITE: four bytes in ascending order, or one (R635). -/
def execCrcFeedWrite (ini k : Nat) (byte : Bool) (data : Nat) (s : State) : Out :=
  fin (s.crcRow ini k (if byte then 0x4C else 0x48)
    (State.crcWrite ini k (State.crcTake k (if byte then [data % 256] else leBytes 4 data))))

/-- A half of STATE written (R638). -/
def State.crcRestore (k : Nat) (high : Bool) (data : Nat) (s : State) : State :=
  let r := s.crcReg k
  s.crcSet k (if high then r % 2 ^ 32 + data % 2 ^ 32 * 2 ^ 32 else r / 2 ^ 32 * 2 ^ 32 + data % 2 ^ 32)

/-- CRC_STATE_RESTORE (R638). -/
def execCrcStateRestore (ini k : Nat) (high : Bool) (data : Nat) (s : State) : Out :=
  fin (s.crcRow ini k (if high then 0x20 else 0x1C) (State.crcWrite ini k (State.crcRestore k high data)))

/-- A write to CRC_CTRL by register: TAKE, RELEASE, CLEAR and the configuration; a write of SNOOP_SRC = 0 ends a snoop
(R633, R635). -/
def State.crcCtrl (ini k data : Nat) (s : State) : State :=
  let s := if bitOf data 31 then s.crcAcquire ini k else s
  if bitOf data 30 then s.crcFree ini k
  else if !s.crcMay ini k then s
  else if s.crcBusy k then
    (if !s.bit (CRC_STATUS_BUSY k) ∧ bits data 5 0 = 0 then s.put (CRC_CTRL_SNOOP_SRC k) 0 else s)
  else
    let cfg := [(CRC_CTRL_REFIN k, bits data 28 28), (CRC_CTRL_REFOUT k, bits data 27 27), (CRC_CTRL_PER_FRAME k, bits data 26 26),
      (CRC_CTRL_W k, bits data 22 16), (CRC_CTRL_SNOOP_SRC k, bits data 5 0)]
    let s := if k < 12 then s.puts cfg else s
    if bitOf data 29 then s.crcClear k else s

/-- GO starts a scan (R636). -/
def State.crcScan (k : Nat) (s : State) : State := s.puts [(CRC_STATUS_BUSY k, 1), (CRC_STATUS_CAUSE k, 0)]

/-- CRC_SCAN_GO (R636). -/
def execCrcScanGo (ini k : Nat) (s : State) : Out := fin (s.crcRow ini k 0x44 (State.crcWrite ini k (State.crcScan k)))

/-- The first address of a scan that DRAM does not populate (R618, R636). -/
def State.scanMiss (s : State) (k : Nat) : Option Nat :=
  let a := s.wide (CRC_SCAN_START_LO_START k) (CRC_SCAN_START_HI_START k)
  let e := a + s.get (CRC_SCAN_LEN_LENGTH k)
  let top := dramBase + s.dramSize 0 + s.dramSize 1
  if dramBase < e ∧ top < e then some (max a top) else none

/-- CRC_SCAN_END: cause 0 with the LENGTH bytes read, or 1 UE at the address `addr`, 2 FIREWALL, 3 UNMAPPED; a scan that reads beyond the
populated DRAM ends with 3. Then RESULT is not valid, and its value is free (R618, R621, R636). The owner is interrupted, and a CRC_SCAN
request is answered. -/
def execCrcScanEnd (k cause addr : Nat) (bytes : List Nat) (s : State) : Out :=
  fin (if 16 ≤ k ∨ !s.bit (CRC_STATUS_BUSY k) ∨ 4 ≤ cause ∨ (cause = 0 ∧ bytes.length ≠ s.get (CRC_SCAN_LEN_LENGTH k)) then s
    else
      let miss := s.scanMiss k
      let cause := if cause = 0 ∧ miss.isSome then 3 else cause
      let s := match miss with | some a => if cause = 3 then s.dramMiss a else s | none => s
      let s := match s.dramAt addr with | some (c, _) => if cause = 1 then s.eccRead c 3 addr else s | none => s
      let s := s.put (CRC_STATUS_BUSY k) 0
      let s := if cause = 0 then (s.crcTake k bytes).put (CRC_STATUS_DONE k) 1
        else ((s.putWide (CRC_RESULT_LO_RESULT k) (CRC_RESULT_HI_RESULT k) s.freeVal).useFree).puts
          [(CRC_STATUS_ERROR k, 1), (CRC_STATUS_CAUSE k, cause)]
      let s := s.emit (.irqOwner (s.get (CRC_CTRL_OWNER k)) 337)
      match s.unit.scans.find? (fun e => e.1 == k) with
      | none => s
      | some (_, sess, tag) =>
        let s := { s with unit := { s.unit with scans := s.unit.scans.filter (fun (e : Nat × Nat × Nat) => e.1 ≠ k) } }
        if cause = 0 then s.ecpComplete sess tag Ecp.OK (leBytes 8 (s.wide (CRC_RESULT_LO_RESULT k) (CRC_RESULT_HI_RESULT k)))
        else s.ecpComplete sess tag (if cause = 1 then Ecp.INTERNAL_ERROR else Ecp.BAD_PARAM) [])

/-- CRC_SNOOP_FRAME: the bytes of one frame of the selected stream (R637). -/
def execCrcSnoopFrame (k : Nat) (bytes : List Nat) (s : State) : Out :=
  fin (if 16 ≤ k ∨ s.get (CRC_CTRL_SNOOP_SRC k) = 0 then s
    else
      let s := s.crcTake k bytes
      if s.bit (CRC_CTRL_PER_FRAME k) then
        (s.putWide (CRC_STATE_LO_STATE k) (CRC_STATE_HI_STATE k) (s.crcInit k)).put (CRC_STATUS_FRAMES k) (s.get (CRC_STATUS_FRAMES k) + 1)
      else s)

/-! ## CRC opcodes -/

/-- A host opcode on a channel it has taken (R633). -/
def State.crcHost (s : State) (sess : Nat) (pay : List Nat) (f : Nat → State × EcpAns) : State × EcpAns :=
  let k := leAt pay 0 1
  if 12 ≤ k ∨ !s.crcMay (sessIni sess) k then (s, .final Ecp.DENIED []) else f k

/-- CRC_TAKE (R633). -/
def execCrcTake (sess tag : Nat) (pay : List Nat) (s : State) : Out :=
  fin (s.ecpRun 0x0B00 sess tag pay (pay.length == 4) false (fun s =>
    let k := leAt pay 0 1
    if 12 ≤ k ∨ s.get (CRC_CTRL_OWNER k) ≠ 0 then (s, .final Ecp.DENIED [])
    else (s.crcAcquire (sessIni sess) k, .final Ecp.OK [])))

/-- CRC_CONFIG (R634, R635). -/
def execCrcConfig (sess tag : Nat) (pay : List Nat) (s : State) : Out :=
  fin (s.ecpRun 0x0B01 sess tag pay (pay.length == 28) false (fun s => s.crcHost sess pay (fun k =>
    let w := leAt pay 1 1
    let fl := leAt pay 2 1
    let src := leAt pay 3 1
    if w < 1 ∨ 64 < w ∨ 8 ≤ fl ∨ 32 < src then (s, .final Ecp.BAD_PARAM [])
    else if s.bit (CRC_STATUS_BUSY k) ∨ (s.get (CRC_CTRL_SNOOP_SRC k) ≠ 0 ∧ src ≠ 0) then (s, .final Ecp.DENIED [])
    else
      let s := s.puts [(CRC_CTRL_REFIN k, fl % 2), (CRC_CTRL_REFOUT k, fl / 2 % 2), (CRC_CTRL_PER_FRAME k, fl / 4 % 2), (CRC_CTRL_W k, w),
        (CRC_CTRL_SNOOP_SRC k, src)]
      let s := s.putWide (CRC_POLY_LO_POLY k) (CRC_POLY_HI_POLY k) (leAt pay 4 8)
      let s := s.putWide (CRC_INIT_LO_INIT k) (CRC_INIT_HI_INIT k) (leAt pay 12 8)
      let s := s.putWide (CRC_XOR_LO_XOROUT k) (CRC_XOR_HI_XOROUT k) (leAt pay 20 8)
      (s.crcClear k, .final Ecp.OK []))))

/-- CRC_FEED (R635). -/
def execCrcFeed (sess tag : Nat) (pay : List Nat) (s : State) : Out :=
  fin (s.ecpRun 0x0B02 sess tag pay (4 ≤ pay.length && pay.length == 4 + leAt pay 2 2) false (fun s => s.crcHost sess pay (fun k =>
    if leAt pay 2 2 < 1 ∨ 1400 < leAt pay 2 2 then (s, .final Ecp.BAD_PARAM [])
    else if s.crcBusy k then (s, .final Ecp.DENIED [])
    else (s.crcTake k (pay.drop 4), .final Ecp.OK []))))

/-- CRC_SCAN (R636). -/
def execCrcScan (sess tag : Nat) (pay : List Nat) (s : State) : Out :=
  fin (s.ecpRun 0x0B03 sess tag pay (pay.length == 16) false (fun s => s.crcHost sess pay (fun k =>
    if leAt pay 12 4 = 0 ∨ 2 ^ 40 ≤ leAt pay 4 8 then (s, .final Ecp.BAD_PARAM [])
    else if s.crcBusy k then (s, .final Ecp.DENIED [])
    else
      let s := s.puts [(CRC_SCAN_START_LO_START k, leAt pay 4 8), (CRC_SCAN_START_HI_START k, leAt pay 4 8 / 2 ^ 32), (CRC_SCAN_LEN_LENGTH k, leAt pay 12 4)]
      ({ s.crcScan k with unit := { s.unit with scans := s.unit.scans ++ [(k, sess, tag)] } }, .progress))))

/-- CRC_STATUS as a word. -/
def State.crcStatus (s : State) (k : Nat) : Nat :=
  s.get (CRC_STATUS_BUSY k) * 2 ^ 31 + s.get (CRC_STATUS_DONE k) * 2 ^ 30 + s.get (CRC_STATUS_ERROR k) * 2 ^ 29 +
  s.get (CRC_STATUS_CAUSE k) * 2 ^ 26 + s.get (CRC_STATUS_FRAMES k)

/-- CRC_GET (R634). -/
def execCrcGet (sess tag : Nat) (pay : List Nat) (s : State) : Out :=
  fin (s.ecpRun 0x0B04 sess tag pay (pay.length == 4) false (fun s => s.crcHost sess pay (fun k =>
    (s, .final Ecp.OK (leBytes 8 (s.wide (CRC_RESULT_LO_RESULT k) (CRC_RESULT_HI_RESULT k)) ++ leBytes 8 (s.crcReg k) ++
      leBytes 8 (s.wide (CRC_BYTES_LO_BYTES k) (CRC_BYTES_HI_BYTES k)) ++ leBytes 4 (s.get (CRC_STATUS_FRAMES k)) ++ leBytes 4 (s.crcStatus k))))))

/-- CRC_RELEASE (R633). -/
def execCrcRelease (sess tag : Nat) (pay : List Nat) (s : State) : Out :=
  fin (s.ecpRun 0x0B05 sess tag pay (pay.length == 4) false (fun s => s.crcHost sess pay (fun k =>
    (s.crcFree (sessIni sess) k, .final Ecp.OK []))))

/-! ## Cores (R160) -/

/-- UNRECOVERABLE_FAULT: application core `core`, or the MP core as 16, halts and is treated as reset (R160). -/
def execUnrecoverableFault (core : Nat) (s : State) : Out :=
  fin (if core < 16 then
      if s.rst.halted.contains core then s
      else
        let s := ownerReset (0x10 + core) s
        { s with rst := { s.rst with halted := s.rst.halted ++ [core] } }
    else if core = 16 ∧ s.mp.running then
      let s := ownerReset 0x31 s
      { s with mp := { s.mp with running := false } }
    else s)

end Sys2Proof.Machine
end

