-- ==== Sys2Proof/Machine/RegAccess.lean ====
section
/-!
DEFINITION. Register accesses (spec/00 R11 to R15, R684; spec/05 R162 to R170; spec/24): what a write stores or does by the
register it meets, what a read returns and clears, LOCK bits, the landing of castlings with what follows their writes, and
REG_READ and REG_WRITE.

`live` carries what a register access shows or needs of the world outside the state (log 8): the levels of SITE_IN, the live
tamper causes for TAMPER_CTRL, the bits in error in a recorder entry that REC_WIN shows, bit 0 for "the frame of this buffer is on the
bus" (CAN_TXCMD) and for "the settings hold a PHY profile for the port" (CABLE_CTRL).
-/

namespace Sys2Proof.Machine

open R

/-! ## What follows a write -/

/-- EN and BIAS_EN of a front end have been written: the link leaves DOWN or goes to it, and a trip that no retry ends goes
with BIAS_EN written 0 and then 1 (R203, R210). -/
def State.feHook (s0 s : State) (f : Nat) : State :=
  let en0 := s0.bit (FE_CTRL_EN f)
  let en := s.bit (FE_CTRL_EN f)
  let s := if en0 && !en then s.feDown f else s.feHunt f
  let x := s.feSt f
  let s := if s.bit (FE_CTRL_BIAS_EN f) then
      (if x.tripped && x.biasLow && s.get (ANT_CFG_RETRY_S f) == 0 then s.setFe f { x with tripped := false, biasLow := false } else s)
    else if x.tripped then s.setFe f { x with biasLow := true } else s
  State.ctlAfter s0 f s

/-- EN of loop `n` has changed: its channels start again with the settling plies, or it is ignored (R519). -/
def State.loopHook (s0 s : State) (n : Nat) : State :=
  let was := s0.getBit LOOP_CFG_EN n
  let now := s.getBit LOOP_CFG_EN n
  if was == now then s
  else
    let s := s.withRook (fun r => { r with
      ch := r.ch.filter (fun (e : Nat × EstopCh) => e.1 / 2 ≠ n)
      disc := r.disc.filter (fun (e : Nat × Nat) => e.1 ≠ n)
      enAt := r.enAt.filter (fun (e : Nat × Nat) => e.1 ≠ n) ++ (if now then [(n, s.ply)] else []) })
    ((s.putBit LOOP_STATUS_OPEN n false).putBit LOOP_STATUS_A_CLOSED n false).putBit LOOP_STATUS_B_CLOSED n false

/-- A change of TEST_MS begins the test cycle again in the next ply (R520). -/
def State.testHook (s0 s : State) : State :=
  if s0.get LOOP_CFG_TEST_MS = s.get LOOP_CFG_TEST_MS then s
  else s.withRook (fun r => { r with cycle := s.ply + 1 })

/-- RANKS of a DRAM channel has been written: training begins where devices are fitted (R619). -/
def State.ddrHook (s0 s : State) (c : Nat) : State :=
  if s0.get (DDR_CFG_RANKS c) = s.get (DDR_CFG_RANKS c) then s
  else s.put (DDR_CFG_STATE c) (if s.get (DDR_CFG_RANKS c) = 0 then 0 else 1)

/-- EN of a CAN controller has been written (R649). -/
def State.canHook (s0 s : State) (k : Nat) : State := if s0.bit (CAN_CFG_EN k) == s.bit (CAN_CFG_EN k) then s else s.canEn k

/-- What a store to register `id` brings beside the stored bits. -/
def State.afterStore (s0 : State) (id : Nat) (s : State) : State :=
  match id with
  | 39 => [0, 1].foldl (State.feHook s0) s
  | 247 => State.testHook s0 ((List.range 8).foldl (State.loopHook s0) s)
  | 47 => [0, 1].foldl (State.calHook s0) s
  | 96 => s.rateHook s0
  | 249 => s.relayDrive
  | 304 => [0, 1].foldl (State.ddrHook s0) s
  | 351 => [0, 1].foldl (State.canHook s0) s
  | _ => s

/-! ## Castlings that land (R151 to R154, R447) -/

/-- BANK changes only by a castling at a superframe boundary (R447); one that lands elsewhere leaves it. -/
def State.bankHook (s0 s : State) : State :=
  let b := s.get SLOT_CTRL_BANK
  if s0.get SLOT_CTRL_BANK = b then s
  else if s0.cast.boundaryNow then s.setBank b else s.put SLOT_CTRL_BANK (s0.get SLOT_CTRL_BANK)

/-- Every castling due in the ply lands, with what follows the writes. -/
def State.castlings (s : State) : State := State.bankHook s s.castLandAll

/-- CASTLING_LAND (R151). -/
def execCastlingLand (s : State) : Out := fin s.castlings

/-! ## A write as the register takes it -/

/-- The LOCK bit that governs the RWL fields of a register (R681). -/
def lockOf (id i : Nat) : Option Fld :=
  if 26 ≤ id ∧ id ≤ 32 then some (FW_CTRL_LOCK i)
  else if 175 ≤ id ∧ id ≤ 179 then some ACCT_CTRL_LOCK
  else match id with
  | 34 => some ECP_CTRL_LOCK
  | 247 | 249 | 251 | 252 => some ROOK_LOCK_LOCK
  | 261 => some PAIR_CTRL_LOCK
  | 272 => some KS_CTRL_LOCK
  | 278 => some TAMPER_CFG_LOCK
  | 304 => some (DDR_CFG_LOCK i)
  | _ => none

/-- The key-store block takes writes as locked while TAMPERED is set (R588). -/
def State.ksLocked (s : State) (id : Nat) : Bool := decide (271 ≤ id ∧ id ≤ 277) && s.tampered

/-- A field is locked: its LOCK bit is set, until a reset of the LOCK bit's register (R12, R171, R588, R681). -/
def State.locked (s : State) (id i : Nat) (f : Fld) : Bool :=
  (f.acc != .ro && f.acc != .rc && s.ksLocked id) ||
  (f.acc == .rwl && (match lockOf id i with | some l => s.bit l | none => false))

/-- A field's value after a write of word `w` (R11), where the write changes it. -/
def State.fieldWrite (s : State) (id i w : Nat) (f : Fld) : Option (Fld × Nat) :=
  if s.locked id i f then none
  else match f.acc with
  | .rw | .rwl | .rwt => some (f, f.of w)
  | .w1c => some (f, s.get f &&& ((2 ^ f.w - 1) ^^^ f.of w))
  | .w1s => some (f, s.get f ||| f.of w)
  | .ro | .wo | .rc => none

/-- The plain store: governed fields first, then the LOCK bit, by the lock as it stood before the write (R683). -/
def State.store (s : State) (id i : Nat) (fs : List Fld) (w : Nat) : State :=
  State.afterStore s id (s.puts (fs.filterMap (s.fieldWrite id i w)))

/-- The KEY that bits 31 to 16 of a register must carry (R684). -/
def keyOf : Nat → Option Nat
  | 4 => some 0x4E47 | 9 => some 0x5E7A | 108 => some 0x5354 | 243 => some 0x4B52 | 282 => some 0x5443
  | _ => none

/-- A field under the mask carries an encoding that is not listed (R15). -/
def fldReserved (w mask : Nat) (f : Fld) : Bool := f.of mask != 0 && !(decide (f.vmin ≤ f.of w) && decide (f.of w ≤ f.vmax))

/-- The status of a result: done, or the code that refuses it. -/
def okIf (b : Bool) (code : Nat) (s t : State) : State × Nat := if b then (t, Ecp.OK) else (s, code)

/-- STATE of an acquisition entry written (R224). -/
def State.acqStateWrite (s : State) (n st : Nat) : State × Nat :=
  match st with
  | 1 => okIf (s.acqIdle n) Ecp.DENIED s (s.acqSubmit n)
  | 6 => okIf (!s.acqIdle n) Ecp.DENIED s (s.acqCancel n)
  | 0 => okIf (decide (4 ≤ s.get (ACQ_ENT_W3_STATE n))) Ecp.DENIED s (s.acqClear n)
  | _ => (s, Ecp.DENIED)

/-- A write to CAST_CMD by an initiator it is banked for: the castling unit's command, and R162's status of its result. A masked entry
that leaves OP out gives no command. -/
def State.castCmd (s : State) (ini w : Nat) : State × Nat :=
  let id := bits w 31 16
  let code := fun (t : State) => (t, if t.get (CAST_RESULT_CODE ini) = 9 then Ecp.ABORTED_OWNER_RESET else Ecp.OK)
  match bits w 2 0 with
  | 1 => code (s.castOpen ini)
  | 2 => code (s.castStage ini id)
  | 3 => code (s.castCommit ini id (bits w 5 4))
  | 4 => code (s.castAbort ini id)
  | _ => (s, Ecp.OK)

/-- A write to SEM_n: its flags, and TAKE or RELEASE, not both (R164, R165). -/
def State.semWrite (s : State) (ini n : Nat) (fs : List Fld) (w : Nat) : State :=
  let s := s.store 25 n fs w
  if bitOf w 0 == bitOf w 1 then s else if bitOf w 0 then s.semTake ini n else s.semRelease ini n

/-- CH_CTRL (R252). -/
def State.chCtrl (s : State) (c cmd : Nat) : State × Nat :=
  match cmd with
  | 1 => okIf (s.get (CH_STATUS_STATE c) == 0) Ecp.DENIED s (s.chStart c)
  | 2 => (s.chLose c 4, Ecp.OK)
  | _ => (s, Ecp.OK)

/-- STEP_CTRL (R293). -/
def State.stepWrite (s : State) (w : Nat) : State × Nat :=
  let acc := bitOf w 2
  let ds := s.getS STEP_S_DELTA_S
  let dn := s.getS STEP_NS_DELTA_NS
  if !acc && !bitOf w 0 then (s, Ecp.OK)
  else if !acc && !deltaOk ds dn then (s, Ecp.BAD_PARAM)
  else okIf (!s.stepDenied (ds * 1000000000 + dn) (bitOf w 1) acc) Ecp.DENIED s (s.stepCtrl w)

/-- A word W0 to W4 of an account (R394); BUCKET_MS 0 is reserved while EN is set. -/
def State.acctReg (s : State) (m k w : Nat) : State × Nat :=
  if k = 0 then
    (if !s.bit (ACCT_W0_EN m) && bitOf w 31 && s.get (ACCT_W1_BUCKET_MS m) == 0 then (s, Ecp.BAD_PARAM)
     else okIf (s.acctW0Taken m w) Ecp.DENIED s (s.acctWrite m 0 w))
  else okIf (!s.bit (ACCT_W0_EN m)) Ecp.DENIED s (s.acctWrite m k w)

/-- RST_CTRL with its key (R127). -/
def State.rstWrite (s : State) (ini w : Nat) : State × Nat :=
  okIf (!((bitOf w 0 || bitOf w 1) && !isApp ini) && !(bitOf w 2 && ini != 0x30)) Ecp.DENIED s (s.rstCtrl ini w)

/-- PD_CTRL (R88, R92). -/
def State.pdWrite (s : State) (w : Nat) : State × Nat :=
  (s.pdApply w, if s.pdRefused w then Ecp.DENIED else Ecp.OK)

/-- NIGHT_CTRL with its key: the hot-start block as the firmware has left it (R95, R96). -/
def State.nightWrite (s : State) (ini w : Nat) : State :=
  if bitOf w 0 ∧ ini = 0x30 ∧ s.bit ROOK_STATE_STOP ∧ s.bit CLK_STATUS_AON_XTAL_OK then s.nightGo else s

/-- A profile channel or gear pair takes its words (R510). -/
def State.pchFree (s : State) (a : Nat) : Bool := s.pchState a == 0 || s.pchState a == 6

/-- The writes to a CRC channel that only its owner makes (R633, R635). -/
def State.crcReg1 (s : State) (id ini k w : Nat) (fs : List Fld) : State × Nat :=
  let open1 := s.crcMay ini k && !s.crcBusy k
  match id with
  | 324 =>
    let free := decide (k < 12) && s.get (CRC_CTRL_OWNER k) == 0 && bitOf w 31
    okIf (free || open1 || (s.crcMay ini k && (bitOf w 30 || (!s.bit (CRC_STATUS_BUSY k) && bits w 5 0 == 0)))) Ecp.DENIED s (s.crcCtrl ini k w)
  | 331 => okIf open1 Ecp.DENIED s (s.crcRestore k false w)
  | 332 => okIf open1 Ecp.DENIED s (s.crcRestore k true w)
  | 337 => okIf (s.crcMay ini k) Ecp.DENIED s (s.store id k fs w)
  | 341 => okIf open1 Ecp.DENIED s (if bitOf w 0 then s.crcScan k else s)
  | 342 => okIf open1 Ecp.DENIED s (s.crcTake k (leBytes 4 w))
  | 343 => okIf open1 Ecp.DENIED s (s.crcTake k [w % 256])
  | _ => okIf open1 Ecp.DENIED s (s.store id k fs w)

/-- I2C_CMD (R643) and MDIO_CMD (R654). -/
def State.i2cWrite (s : State) (k w : Nat) : State × Nat :=
  if bitOf w 31 && bits w 17 12 == 0 && bits w 5 0 == 0 then (s, Ecp.BAD_PARAM)
  else okIf (!(bitOf w 31 && s.i2cDenied k)) Ecp.DENIED s (s.i2cCmd k w)
def State.mdioWrite (s : State) (w : Nat) : State × Nat :=
  okIf (!(bitOf w 31 && s.mdioDenied)) Ecp.DENIED s (s.mdioCmd w)

/-- SLOT_CTRL: a BANK write without a castling is refused (R447); the flags are taken. -/
def State.slotCtrl (s : State) (fs : List Fld) (w : Nat) : State × Nat :=
  let b := s.get SLOT_CTRL_BANK
  ((s.store 187 0 fs w).put SLOT_CTRL_BANK b, if bits w 31 31 = b then Ecp.OK else Ecp.DENIED)

/-- A recorder cursor: the fields, then STEP (R604). -/
def State.cursorWrite (s : State) (ini : Nat) (fs : List Fld) (w : Nat) : State :=
  let s := s.store 289 ini fs w
  if bitOf w 31 then s.cursorStep ini else s

/-- ECC_INJ acts only while DBG_LOCK is clear or the monitor is open: it waits for the writer's next word (spec/21). -/
def State.eccInj (s : State) (ini c w : Nat) : State :=
  if s.bit MON_STATUS_DBG_LOCK && !s.bit MON_STATUS_OPEN then s
  else
    let l := s.unit.inj.filter (fun (e : Nat × Nat × Nat) => !(e.1 == c && e.2.1 == ini))
    { s with unit := { s.unit with inj := if bits w 31 30 = 0 then l else l ++ [(c, ini, bits w 31 30)] } }

/-- LANE_CFG, whose clearing of EN can change RESERVE_LOW (R372, R531). -/
def State.laneWrite (s : State) (n w : Nat) : State × Nat :=
  okIf (!s.laneCfgDenied n w) Ecp.DENIED s (s.laneCfg n w).reserveLow

/-- HOP_CTRL: the shadows are stored even where the apply is refused (R387). -/
def State.hopWrite (s : State) (w : Nat) : State × Nat :=
  let t := s.hopCtrl w
  (t, if bitOf w 31 && t.radio.hopVer == s.radio.hopVer then Ecp.DENIED else Ecp.OK)

/-- FIX_REF_CTRL (R319, R320). -/
def State.refWrite (s : State) (w : Nat) : State × Nat :=
  (s.refCtrl w, if bitOf w 30 && s.pchRunning then Ecp.DENIED else Ecp.OK)

/-- CABLE_CTRL (R655). -/
def State.cableWrite (s : State) (w : Nat) (profile : Bool) : State × Nat :=
  (s.cableCtrl w profile, if bitOf w 31 && s.cableRefused (bits w 2 0) (bitOf w 30) profile then Ecp.DENIED else Ecp.OK)

/-- DISP_SUBMIT (R457). -/
def State.submitWrite (s : State) (ini w : Nat) : State × Nat :=
  okIf (BankKind.disp.holds ini) Ecp.DENIED s (if bitOf w 0 then s.dispSubmit ini else s)

/-- STOP_PORT: a TARGET that is not valid is a reserved encoding (R541). -/
def State.portWrite (s : State) (ini w : Nat) : State × Nat :=
  match stopPortFail w with | some c => (s, c) | none => (s.stopPort ini w, Ecp.OK)

/-- What the merged word `w` of a write does at register `id`, instances `i` and `j`, and its ECP status. -/
def State.regAct (s : State) (id i j ini w live : Nat) (fs : List Fld) : State × Nat :=
  match id with
  | 2 => s.pdWrite w
  | 4 => (s.nightWrite ini w, Ecp.OK)
  | 9 => s.rstWrite ini w
  | 15 => s.castCmd ini w
  | 25 => (s.semWrite ini i fs w, Ecp.OK)
  | 55 => (s.acqCtrl w, Ecp.OK)
  | 60 | 61 | 62 => okIf (s.acqIdle i) Ecp.DENIED s (s.store id i fs w)
  | 63 => s.acqStateWrite i (bits w 31 29)
  | 66 => s.chCtrl i (bits w 2 0)
  | 67 => okIf (s.get (CH_STATUS_STATE i) == 0) Ecp.DENIED s (s.store id i fs w)
  | 108 => s.stepWrite w
  | 139 => s.refWrite w
  | 161 => s.laneWrite i w
  | 168 => s.hopWrite w
  | 175 => s.acctReg i 0 w
  | 176 => s.acctReg i 1 w
  | 177 => s.acctReg i 2 w
  | 178 => s.acctReg i 3 w
  | 179 => s.acctReg i 4 w
  | 187 => s.slotCtrl fs w
  | 192 => (s.flockWrite i j w, Ecp.OK)
  | 193 => s.ownerWrite (i / 8) (i % 8) j (w % 256)
  | 204 => s.submitWrite ini w
  | 205 => okIf (BankKind.disp.holds ini) Ecp.DENIED s (s.dispCancel ini w)
  | 211 => (s.dispDone i w, Ecp.OK)
  | 219 | 220 => okIf (s.pchFree i) Ecp.DENIED s (s.store id i fs w)
  | 227 | 228 | 229 | 230 | 231 | 232 | 233 | 234 => okIf (s.get (GEAR_W0_STATE i) == 0) Ecp.DENIED s (s.store id i fs w)
  | 243 => s.portWrite ini w
  | 246 => (s.clearFaults w, Ecp.OK)
  | 253 => (s.wdogSvc w, Ecp.OK)
  | 261 => (s.pairCtrl w, Ecp.OK)
  | 282 => (s.tamperClear ini live w, Ecp.OK)
  | 283 => (s.recCtrl w, Ecp.OK)
  | 289 => (s.cursorWrite ini fs w, Ecp.OK)
  | 296 => (s.recRestore ini w, Ecp.OK)
  | 313 => (s.eccInj ini i w, Ecp.OK)
  | 324 | 325 | 326 | 327 | 328 | 329 | 330 | 331 | 332 | 337 | 338 | 339 | 340 | 341 | 342 | 343 => s.crcReg1 id ini i w fs
  | 346 => (s.uartPut i (w % 256), Ecp.OK)
  | 348 => s.i2cWrite i w
  | 362 => (if bitOf w 0 then s.canPop i else s, Ecp.OK)
  | 366 => (s.canTxCmd i (bits w 4 0) (bitOf w 31) (bitOf w 30) (bitOf live 0), Ecp.OK)
  | 376 => s.mdioWrite w
  | 379 => s.cableWrite w (bitOf live 0)
  | _ => (s.store id i fs w, Ecp.OK)

/-! ## Writes -/

/-- A write that the access rights admit: banks of others are ignored (R163); through ECP an RO or a locked field under the
mask refuses the entry (R12); then the key (R684); a mask that covers no field does nothing; reserved encodings (R15), and the register. -/
def State.regPut (s : State) (r : RegRow) (i j ini data mask live : Nat) (ecp : Bool) : State × Nat :=
  if r.bank ≠ .single ∧ !r.bank.holds ini then
    (if r.id = 15 ∧ bits (data &&& mask) 2 0 = 1 then (s.castOpen ini, Ecp.DENIED)
     else (s, if r.id = 204 ∨ r.id = 205 then Ecp.DENIED else Ecp.OK))
  else
    let i := if r.bank = .single then i else ini
    let fs := r.flds i j
    let hit := fs.filter (fun f => f.of mask != 0)
    let w := s.mergeWord fs data mask
    if ecp && hit.any (s.locked r.id i) then (s, Ecp.LOCKED)
    else if ecp && hit.any (fun f => f.acc == .ro) then (s, Ecp.DENIED)
    else if (match keyOf r.id with | some k => bits w 31 16 != k | none => false) then (s, Ecp.DENIED)
    else if hit.isEmpty then (s, Ecp.OK)
    else if hit.any (fun f => f.acc != .ro && f.acc != .rc && !s.locked r.id i f && fldReserved w mask f) || s.wordReserved r.id i w mask
    then (s, Ecp.BAD_PARAM)
    else if r.id = 2 ∧ s.bit PD_STATUS_BUSY then ({ s with sw := { s.sw with waiting := s.sw.waiting ++ [(data, mask)] } }, Ecp.OK)
    else s.regAct r.id i j ini w live fs

/-- A write to an address: the order of R679 and R680, then the register. -/
def State.regWrite (s : State) (ini a data mask live : Nat) (ecp : Bool) : State × Nat :=
  let s := s.rookWrote ini a
  if a % 4 ≠ 0 then (s, Ecp.BAD_PARAM)
  else match findReg a regRows with
  | none => (s, Ecp.BAD_PARAM)
  | some (r, i, j) =>
    match s.judgeRow r ini a true with
    | .denied => (s.violation ini a, Ecp.DENIED)
    | .off => (s, Ecp.NOT_READY)
    | .badAddr => (s, Ecp.BAD_PARAM)
    | .ok => s.regPut r i j ini data mask live ecp

/-- REGISTER_WRITE: a write by an on-chip initiator (R680). -/
def execRegisterWrite (ini addr data live : Nat) (s : State) : Out :=
  fin (s.regWrite ini addr (data % 2 ^ 32) 0xFFFFFFFF live false).1

/-- LOCK_BIT_SET: a write of a LOCK bit of R681; the governed fields of the same write land first (R683). -/
def execLockBitSet (ini addr data : Nat) (s : State) : Out :=
  fin (match findReg addr regRows with
    | none => s
    | some (r, i, j) =>
      if (r.flds i j).any (fun f => f.acc == .w1s) ∧ bitOf data 31
      then (s.regWrite ini addr (data % 2 ^ 32) 0xFFFFFFFF 0 false).1 else s)

/-! ## Reads -/

/-- The registers whose low word captures the high word in the manner of R138, which lies 4 bytes above it. -/
def capLo (id : Nat) : Bool := [85, 258, 318, 320, 331].contains id
def capHi (id : Nat) : Bool := [86, 259, 319, 321, 332].contains id

/-- The half captured for an initiator; 0 before its first read of the low word (R138). -/
def State.captured (s : State) (ini a : Nat) : Nat :=
  match s.unit.hi.find? (fun e => e.1 == a && e.2.1 == ini) with | some e => e.2.2 | none => 0

/-- It captured: the value of the word at `a`. -/
def State.capture (s : State) (ini a v : Nat) : State :=
  { s with unit := { s.unit with hi := s.unit.hi.filter (fun (e : Nat × Nat × Nat) => !(e.1 == a && e.2.1 == ini)) ++ [(a, ini, v)] } }

/-- The fields of a register as they are kept, WO fields as 0 (R11). -/
def State.plainWord (s : State) (fs : List Fld) : Nat :=
  fs.foldl (fun v f => v + 2 ^ f.key.lo * (if f.acc = .wo then 0 else s.get f)) 0

/-- A field's kept value replaced by `v` in a word. -/
def setFld (w : Nat) (f : Fld) (old v : Nat) : Nat := w - 2 ^ f.key.lo * old + 2 ^ f.key.lo * (v % 2 ^ f.w)

/-- The clock captured for an initiator (R283). -/
def State.timeCap (s : State) (ini : Nat) : Nat × Nat :=
  match s.time.cap.find? (fun e => e.1 == ini) with | some e => e.2 | none => (0, 0)

/-- A vertex coordinate shown in an initiator's window (R475). -/
def State.vertWord (s : State) (ini axis : Nat) : Nat := Mem.get s.trk.verts (3 * s.get (TRK_VERT_SEL_INDEX ini) + axis)

/-- Minutes of OPEN left. -/
def State.monMinutes (s : State) : Nat := if s.bit MON_STATUS_OPEN then cdiv (s.boot.openEnd - s.ply) 6000000 else 0

/-- A word of a record buffer (R261, R264): header and entries, then the CRC-32C. -/
def State.obsWord (s : State) (b j : Nat) : Nat :=
  match s.gnss.bufs.find? (fun e => e.1 == b) with
  | some e => let bs := e.2.bytes; leAt (bs ++ leBytes 4 (crc32c bs)) (4 * j) 4
  | none => 0

/-- A word of the navigation ring: the record whose SEQ names its place (R270). -/
def State.navWord (s : State) (i j : Nat) : Nat :=
  match s.gnss.nav.find? (fun r => r.seq % 512 == i) with
  | some r => leAt r.bytes (4 * j) 4
  | none => 0

/-- What a register shows beside the fields kept for it: values that follow other state, banked and captured words. -/
def State.readWord (s : State) (id i j ini a live : Nat) (fs : List Fld) : Nat :=
  let w := s.plainWord fs
  match id with
  | 12 => s.ply % 2 ^ 32
  | 13 => s.plyHiOf ini
  | 14 => s.freeVal % 1000
  | 22 => (1024 - s.cast.entries.length) * 2 ^ 16 +
      ((List.range 16).filter (fun n => s.get (CAST_STAT_STATE n) == 1 || s.get (CAST_STAT_STATE n) == 2)).length
  | 34 => if s.bit PAIR_CTRL_EN then setFld w ECP_CTRL_ETH_EN (s.get ECP_CTRL_ETH_EN) (s.get ECP_CTRL_ETH_EN % 32) else w
  | 35 => s.streamCount * 2 ^ 24 + s.ecp.sessions.length * 2 ^ 16 + s.inProgAll
  | 101 => (s.timeCap ini).1 % 2 ^ 32
  | 102 => (s.timeCap ini).1 / 2 ^ 32
  | 103 => (s.timeCap ini).2 / 2 ^ 29
  | 104 => (s.timeCap ini).2 % 2 ^ 29 / 2 ^ 13
  | 187 => w + s.shadowUnacked
  | 193 => slotKind (s.prof (i % 8)) j * 256 + s.owner (i / 8) (i % 8) j
  | 199 => s.dispFree * 2 ^ 16 + s.disp.ready.length
  | 212 => match s.runTask i with | some t => t.id | none => 0
  | 213 => match s.slotTask i with | some t => t.id | none => 0
  | 215 => ((List.range 192).filter (fun a => s.pchState (a + 1) != 0)).length * 2 ^ 20 + s.freeVerts
  | 240 => s.vertWord ini 0
  | 241 => s.vertWord ini 1
  | 242 => s.vertWord ini 2
  | 245 => setFld w ROOK_STATE_BLOCKERS (s.get ROOK_STATE_BLOCKERS) (s.blockers false)
  | 271 => setFld (setFld w KS_STATUS_TAMPERED (s.get KS_STATUS_TAMPERED) (b2n s.tampered)) KS_STATUS_USED (s.get KS_STATUS_USED)
      ((List.range 512).filter s.slotUsed).length
  | 275 => s.slotW0 i
  | 290 => leAt (s.cursorBytes ini) (4 * j) 4
  | 291 => leAt (s.cursorBytes ini) 0 4
  | 346 => s.uartHead i
  | 384 => live % 2 ^ 9
  | 386 => setFld (setFld w MON_STATUS_MINUTES (s.get MON_STATUS_MINUTES) s.monMinutes) MON_STATUS_HELD (s.get MON_STATUS_HELD)
      (b2n s.monHolds)
  | 387 => s.obsWord i j
  | 388 => s.navWord i j
  | _ => if capHi id then s.captured ini a else w

/-- What a read does: RC fields clear, and the reads that capture, remove or take (R11, R138, R283, R306, R462, R641). -/
def State.readEffect (s : State) (id i ini a : Nat) (fs : List Fld) : State :=
  let s := s.puts ((fs.filter (fun f => f.acc == .rc && id != 374)).map (fun f => (f, 0)))
  match id with
  | 12 => s.capturePly ini
  | 14 => s.useFree
  | 346 => s.uartPop i
  | 374 => { s with site := { s.site with adcLoaded := s.site.adcLoaded.filter (· ≠ i) } }
  | _ => if capLo id then (match findReg (a + 4) regRows with
      | some (r, i', j') => s.capture ini (a + 4) (s.plainWord (r.flds i' j'))
      | none => s) else s

/-- The reads whose effect decides what they return: the clock's capture, the transmit timestamp queue, DISP_TAKE; and a recorder entry
that shows `live` bits in error (R600). -/
def State.readFirst (s : State) (id i ini live : Nat) : State :=
  match id with
  | 101 =>
    let cap := s.time.cap.filter (fun (e : Nat × Nat × Nat) => e.1 ≠ ini)
    { s with time := { s.time with cap := cap ++ [(ini, s.time.sec, s.time.fx)] } }
  | 132 => s.txtsPop i
  | 209 => s.dispTake i
  | 290 => s.cursorError ini live
  | _ => s

/-- A read that the access rights admit: another's bank reads 0 (R163). -/
def State.regGet (s : State) (r : RegRow) (i j ini a live : Nat) : State × Nat :=
  if r.bank ≠ .single ∧ !r.bank.holds ini then (s, 0)
  else
    let i := if r.bank = .single then i else ini
    let fs := r.flds i j
    let s := s.readFirst r.id i ini live
    (s.readEffect r.id i ini a fs, s.readWord r.id i j ini a live fs)

/-- A read of an address: the value, 0 where it is not granted, and its ECP status (R89, R170, R679, R680). -/
def State.regRead (s : State) (ini a live : Nat) : State × Nat × Nat :=
  if a % 4 ≠ 0 then (s, 0, Ecp.BAD_PARAM)
  else match findReg a regRows with
  | none => (s, 0, Ecp.BAD_PARAM)
  | some (r, i, j) =>
    match s.judgeRow r ini a false with
    | .denied => (s.violation ini a, 0, Ecp.DENIED)
    | .off => (s, 0, Ecp.NOT_READY)
    | .badAddr => (s, 0, Ecp.BAD_PARAM)
    | .ok => let x := s.regGet r i j ini a live; (x.1, x.2, Ecp.OK)

/-- REGISTER_READ: a read by an on-chip initiator; the value goes to it (R170). -/
def execRegisterRead (ini addr live : Nat) (s : State) : Out :=
  let r := s.regRead ini addr live
  fin (r.1.emit (.regValue ini addr r.2.1))

/-! ## REG_READ and REG_WRITE (R192) -/

/-- Registers read in order until the first failure: the state, the words, the status. -/
def State.readRun (ini live : Nat) : Nat → Nat → State → List Nat → State × List Nat × Nat
  | 0, _, s, ws => (s, ws, Ecp.OK)
  | n + 1, a, s, ws =>
    let r := s.regRead ini a live
    if r.2.2 = Ecp.OK then State.readRun ini live n (a + 4) r.1 (ws ++ leBytes 4 r.2.1) else (r.1, ws, r.2.2)

/-- A register request joins those of its initiator that are under way (R192). -/
def State.regQueue (s : State) (j : RegJob) : State := { s with ecp := { s.ecp with jobs := s.ecp.jobs ++ [j] } }

/-- A register request of the initiator is under way, and another one waits for it (R192). -/
def State.regBusy (s : State) (ini : Nat) : Bool := s.ecp.jobs.any (fun j => j.ini == ini)

/-- REG_READ (R192). -/
def execRegRead (sess tag : Nat) (pay : List Nat) (live : Nat) (s : State) : Out :=
  fin (s.ecpRun 0x0F00 sess tag pay (pay.length == 8) false (fun s =>
    let n := leAt pay 4 2
    if n < 1 ∨ 256 < n ∨ leAt pay 0 4 % 4 ≠ 0 then (s, .final Ecp.BAD_PARAM [])
    else if s.regBusy (sessIni sess) then
      (s.regQueue { sess := some sess, tag := tag, ini := sessIni sess, write := false, pay := pay, live := live, at_ := s.ply }, .wait)
    else
      let r := State.readRun (sessIni sess) live n (leAt pay 0 4) s []
      (r.1, .final r.2.2 r.2.1)))

/-- Entry `k` of a REG_WRITE: the state, the CAST_RESULT captured after a CAST_CMD entry that the castling unit took, the status. -/
def State.writeEntry (ini live : Nat) (pay : List Nat) (k cr : Nat) (s : State) : State × Nat × Nat :=
  let a := leAt pay (4 + 12 * k) 4
  let r := s.regWrite ini a (leAt pay (8 + 12 * k) 4) (leAt pay (12 + 12 * k) 4) live true
  let took := a == castCmdAddr && [Ecp.OK, Ecp.ABORTED_OWNER_RESET].contains r.2
  (r.1, if took then r.1.get (CAST_RESULT_ID ini) * 65536 + r.1.get (CAST_RESULT_CODE ini) else cr, r.2)

/-- The response of a REG_WRITE that has applied `k` entries (R192). -/
def writeBytes (k cr st : Nat) : List Nat := leBytes 2 k ++ leBytes 2 (if st = Ecp.OK then 0xFFFF else k) ++ leBytes 4 cr

/-- What entry `k` of a REG_WRITE leads to: the status and payload of its final response, where it is the last or fails. -/
def State.writeStep (ini live : Nat) (pay : List Nat) (k cr : Nat) (s : State) : State × Nat × Option (Nat × List Nat) :=
  let r := s.writeEntry ini live pay k cr
  (r.1, r.2.1,
    if r.2.2 ≠ Ecp.OK then some (r.2.2, writeBytes k r.2.1 r.2.2)
    else if leAt pay 0 2 ≤ k + 1 then some (Ecp.OK, writeBytes (k + 1) r.2.1 Ecp.OK)
    else none)

/-- REG_WRITE: its first entry, where no register request of its initiator is under way; each later entry follows in a later ply
(R192, `State.regJobs`). -/
def execRegWrite (sess tag : Nat) (pay : List Nat) (live : Nat) (s : State) : Out :=
  let n := leAt pay 0 2
  let ini := sessIni sess
  fin (s.ecpRun 0x0F01 sess tag pay (pay.length == 4 + 12 * n) false (fun s =>
    let job : RegJob := { sess := some sess, tag := tag, ini := ini, write := true, pay := pay, live := live, at_ := s.ply }
    if n < 1 ∨ 64 < n then (s, .final Ecp.BAD_PARAM [])
    else if s.regBusy ini then (s.regQueue job, .wait)
    else
      let r := s.writeStep ini live pay 0 0
      match r.2.2 with
      | some a => (r.1, .final a.1 a.2)
      | none => (r.1.regQueue { job with k := 1, cast := r.2.1 }, .wait)))

/-- A register request ends: it leaves the others, and its final response goes to its session (R192). -/
def State.endJob (s : State) (j : RegJob) (st : Nat) (pay : List Nat) : State :=
  let s := { s with ecp := { s.ecp with jobs := s.ecp.jobs.filter (fun g => !(g.sess == j.sess && g.tag == j.tag && g.ini == j.ini)) } }
  match j.sess with
  | some id => s.ecpComplete id j.tag st pay
  | none => s

/-- The next entry of a register request under way, or the whole of one that waited, in a ply after that of its last entry (R192). -/
def State.stepJob (s : State) (j : RegJob) : State :=
  if s.ply ≤ j.at_ then s
  else if j.write then
    let r := s.writeStep j.ini j.live j.pay j.k j.cast
    match r.2.2 with
    | some a => r.1.endJob j a.1 a.2
    | none => { r.1 with ecp := { r.1.ecp with
        jobs := r.1.ecp.jobs.map (fun g => if g = j then { j with k := j.k + 1, cast := r.2.1, at_ := s.ply } else g) } }
  else
    let r := State.readRun j.ini j.live (leAt j.pay 4 2) (leAt j.pay 0 4) s []
    r.1.endJob j r.2.2 r.2.1

/-- The ordinary accesses that a ply takes before its resolution point for the register requests under way: of each initiator the
oldest one (R155, R192). -/
def State.regJobs (s : State) : State :=
  [0x01, 0x02].foldl (fun s ini => match s.ecp.jobs.find? (fun j => j.ini == ini) with | some j => s.stepJob j | none => s) s

end Sys2Proof.Machine
end

