-- ==== Sys2Proof/Machine/Monitor.lean ====
section
/-!
DEFINITION. The Doivo monitor (spec/23, R675 to R677). A command arrives as the event it is; the wording of its line and of
the answer is not in the spec, so an answer is a list of values (log 8).
-/

namespace Sys2Proof.Machine

open R

/-- The monitor serves: core 0 runs, the monitor holds UART_0, and the boot ROM in recovery or the safe trim state or the main
firmware provides it (R675). -/
def State.monServes (s : State) : Bool :=
  !s.domOff 4 && s.monHolds && (s.boot.started || s.bit BOOT_STATUS_RECOVERY || s.bit TRIM_STATUS_SAFE)

/-- OPEN: opened, or DBG_LOCK clear (R677). -/
def State.monOpen (s : State) : Bool := !s.bit MON_STATUS_DBG_LOCK || s.bit MON_STATUS_OPEN

/-- A line has been received (R675). -/
def State.monLine (s : State) : State := { s with boot := { s.boot with lastLine := s.ply } }

/-- A command of level L, and one of level Open. -/
def State.monRun (s : State) (f : State → State) : State := if s.monServes then f s.monLine else s
def State.monRunOpen (s : State) (f : State → State) : State := if s.monServes && s.monOpen then f s.monLine else s

/-- One register read with the rights of 0x3E, its value appended. -/
def State.monRead (live : Nat) (r : State × List Nat) (a : Nat) : State × List Nat :=
  let x := r.1.regRead 0x3E a live
  (x.1, r.2 ++ [x.2.1])

/-- MON_INFO: serial, versions, slot states, RST_CAUSE, STRAP, TRIM_STATUS, ROOK_STATE (R677). -/
def execMonInfo (s : State) : Out :=
  fin (s.monRun (fun s =>
    let r := [0x40000300, 0x40000310, 0x40000320, 0x40500000].foldl (State.monRead 0) (s, [])
    r.1.emit (.mon 1 (serialBytes ++ [Config.romVersion] ++ s.ownVersion ++ [s.flash.desc.st0, s.flash.desc.st1] ++ r.2))))

/-- MON_OPEN: a nonce and the serial; refused while locked out, and without fresh random bits (R572, R677). -/
def execMonOpen (s : State) : Out :=
  fin (s.monRun (fun s =>
    if s.bit MON_STATUS_LOCKOUT || s.bit KS_STATUS_TRNG_FAIL then s
    else
      let n := s.nonce16
      let s := s.useFree
      ({ s with boot := { s.boot with nonce := some n } }).emit (.mon 2 (n ++ serialBytes))))

/-- The response verifies: the key is one of the two hashed in OTP, and it signs nonce, serial and duration (R677). -/
def respOk (nonce pub sig : List Nat) (minutes : Nat) : Bool :=
  decide (1 ≤ minutes ∧ minutes ≤ 480) && [0, 1].any (fun i => sha256 pub == Config.debugHash i) &&
  ecdsaVerify pub (sha256 (nonce ++ serialBytes ++ leBytes 4 minutes)) sig

/-- A failed response; the third in a row locks OPEN out. -/
def State.respFail (s : State) : State :=
  let n := s.boot.fails + 1
  let s := { s with boot := { s.boot with fails := n } }
  if 3 ≤ n then s.put MON_STATUS_LOCKOUT 1 else s

/-- MON_RESP (R677). -/
def execMonResp (pub sig : List Nat) (minutes : Nat) (s : State) : Out :=
  fin (s.monRun (fun s =>
    if s.bit MON_STATUS_LOCKOUT then s
    else
      let ok := match s.boot.nonce with | some n => respOk n pub sig minutes | none => false
      let s := { s with boot := { s.boot with nonce := none } }
      if ok then
        { s with boot := { s.boot with fails := 0, openEnd := s.ply + minutes * 6000000 } }.put MON_STATUS_OPEN 1
      else s.respFail))

/-- MON_RECOVER: without effect while the boot ROM provides the monitor; else the request of R665 and a reset through Rook, or
MONITOR where the core pair is halted (R677). -/
def execMonRecover (s : State) : Out :=
  fin (s.monRun (fun s =>
    if s.boot.core0Rom then s
    else
      let s := s.writeDesc (fun d => { d with req := 1 })
      s.assertSource (if s.rookHeld ∨ s.bit ROOK_STATE_HALTED then 12 else 7) 0))

/-- OPEN ends (R677). -/
def State.monLock (s : State) : State := s.put MON_STATUS_OPEN 0

/-- MON_CLOSE (R675, R677). -/
def execMonClose (s : State) : Out := fin (s.monRun (fun s => s.monLock.uartGiven))

/-- MON_RD (R677). -/
def execMonRd (addr live : Nat) (s : State) : Out :=
  fin (s.monRunOpen (fun s =>
    let r := State.monRead live (s, []) addr
    r.1.emit (.mon 6 r.2)))

/-- MON_WR (R677). -/
def execMonWr (addr data : Nat) (s : State) : Out :=
  fin (s.monRunOpen (fun s => (s.regWrite 0x3E addr (data % 2 ^ 32) 0xFFFFFFFF 0 false).1))

/-- MON_LOG: event records from a SEQ (R605, R677). -/
def execMonLog (seq count : Nat) (s : State) : Out :=
  fin (s.monRunOpen (fun s => s.emit (.mon 8 (((s.heldRecs seq).take count).flatMap Rec.bytes))))

/-- MON_KEYIMPORT (R580, R677). -/
def execMonKeyimport (k typ use : Nat) (key : List Nat) (s : State) : Out :=
  fin (s.monRunOpen (fun s => (s.importClear 0x3E k typ use key).1))

/-- MON_TAMPERCLR: the main firmware writes TAMPER_CTRL (R591, R677). -/
def execMonTamperclr (live : Nat) (s : State) : Out :=
  fin (s.monRunOpen (fun s =>
    if s.boot.core0Rom ∨ !s.boot.started then s else (s.regWrite 0x10 tamperCtrlAddr 0x54430001 0xFFFFFFFF live false).1))

/-- MON_RESET: the MONITOR reset source (R110, R677). -/
def execMonReset (s : State) : Out := fin (s.monRunOpen (fun s => s.assertSource 12 0))

/-- MON_OPEN_EXPIRY: the duration is over (R677). -/
def execMonOpenExpiry (s : State) : Out := fin (if s.bit MON_STATUS_OPEN ∧ s.boot.openEnd ≤ s.ply then s.monLock else s)

/-- MON_IDLE_RELEASE: 60 s without a line while locked (R675). -/
def execMonIdleRelease (s : State) : Out :=
  fin (if s.monIdle then s.uartGiven else s)

/-- MON_BREAK_TAKE: RX of UART_0 held low for `ms` (R675). -/
def execMonBreakTake (ms : Nat) (s : State) : Out :=
  fin (if s.domOff 3 ∨ !s.bit MON_STATUS_DBG_LOCK ∨ s.monHolds ∨ ms < 100 ∨ !s.boot.started then s
    else (s.uartTaken.put MON_STATUS_HELD 1).monLine)

end Sys2Proof.Machine
end

