-- ==== Sys2Proof/Machine/EcpRx.lean ====
section
/-!
DEFINITION. A request frame as it arrives over UDP or the SPI host port (R172 to R182): the checks before the opcode, and the
opcode's own command.
-/

namespace Sys2Proof.Machine

open R

/-- An opcode without a payload: any payload gives BAD_LENGTH (R182). -/
def State.noPay (s : State) (sess op tag : Nat) (pay : List Nat) (f : State → Out) : Out :=
  if pay.isEmpty then f s else fin (s.ecpSend sess op tag Ecp.BAD_LENGTH 0 [])

/-- Facts from outside that single opcodes take: a live register value, the bytes of MP SRAM, the read-back of an audit record,
an uncorrectable word. -/
structure EcpFacts where
  live : Nat
  sram : Option (List Nat)
  readBack : Bool
  err : Option (Bool × Nat × Nat)

/-- The opcodes of groups 0x01 to 0x05 (R189). -/
def State.ecpGroupA (s : State) (op sess tag : Nat) (pay : List Nat) : Option Out :=
  match op with
  | 0x0100 => some (execNop sess tag pay s)
  | 0x0101 => some (s.noPay sess op tag pay (execStatus sess tag))
  | 0x0102 => some (execSessionOpen sess tag pay s)
  | 0x0103 => some (s.noPay sess op tag pay (execSessionClose sess tag))
  | 0x0104 => some (s.noPay sess op tag pay (execEcpReset sess tag))
  | 0x0105 => some (s.noPay sess op tag pay (execNight sess tag))
  | 0x0106 => some (s.noPay sess op tag pay (execResultGet sess tag))
  | 0x0107 => some (execTagRetire sess tag pay s)
  | 0x0200 => some (s.noPay sess op tag pay (execTimeGet sess tag))
  | 0x0201 => some (execTimeStep sess tag pay s)
  | 0x0202 => some (execPtpSet sess tag pay s)
  | 0x0300 => some (execObsGet sess tag pay s)
  | 0x0301 => some (execNavGet sess tag pay s)
  | 0x0302 => some (execSignalsSet sess tag pay s)
  | 0x0303 => some (execRtcmSet sess tag pay s)
  | 0x0400 => some (execSolGet sess tag pay s)
  | 0x0401 => some (execPrioSet sess tag pay s)
  | 0x0402 => some (execFilterReset sess tag pay s)
  | 0x0500 => some (s.noPay sess op tag pay (execNetForm sess tag))
  | 0x0501 => some (execMemberGet sess tag pay s)
  | 0x0502 => some (execMemberRelease sess tag pay s)
  | 0x0503 => some (execFlockSet sess tag pay s)
  | 0x0504 => some (execSlotSet sess tag pay s)
  | _ => none

/-- The opcodes of groups 0x06 to 0x09 (R189). -/
def State.ecpGroupB (s : State) (op sess tag : Nat) (pay : List Nat) : Option Out :=
  match op with
  | 0x0600 => some (execTaskSubmit sess tag pay s)
  | 0x0601 => some (execTaskCancel sess tag pay s)
  | 0x0602 => some (execTaskGet sess tag pay s)
  | 0x0700 => some (execTrackLoad sess tag pay s)
  | 0x0701 => some (execTrackSeal sess tag pay s)
  | 0x0702 => some (execTrackFree sess tag pay s)
  | 0x0703 => some (execMove sess tag pay s)
  | 0x0704 => some (execHalt sess tag pay s)
  | 0x0705 => some (execChanRelease sess tag pay s)
  | 0x0706 => some (execGearEngage sess tag pay s)
  | 0x0707 => some (execGearDisengage sess tag pay s)
  | 0x0800 => some (execStop sess tag pay s)
  | 0x0801 => some (execStopRelease sess tag pay s)
  | 0x0802 => some (execHold sess tag pay s)
  | 0x0803 => some (execResume sess tag pay s)
  | 0x0804 => some (s.noPay sess op tag pay (execStopStatus sess tag))
  | 0x0805 => some (s.noPay sess op tag pay (execFaultClear sess tag))
  | 0x0900 => some (execKeyInfo sess tag pay s)
  | 0x0901 => some (execKeyGenerate sess tag pay s)
  | 0x0902 => some (execKeyDerive sess tag pay s)
  | 0x0903 => some (execKeyWrapImport sess tag pay s)
  | 0x0904 => some (execKeyInvalidate sess tag pay s)
  | 0x0905 => some (execKeyAttest sess tag pay s)
  | 0x0906 => some (execKeyCert sess tag pay s)
  | 0x0907 => some (execKeyPublic sess tag pay s)
  | 0x0908 => some (s.noPay sess op tag pay (execTamperGet sess tag))
  | _ => none

/-- The opcodes of groups 0x0A to 0x0F (R189). -/
def State.ecpGroupC (s : State) (x : EcpFacts) (op sess tag : Nat) (pay : List Nat) : Option Out :=
  match op with
  | 0x0A00 => some (execRecRead sess tag pay x.err s)
  | 0x0A01 => some (s.noPay sess op tag pay (execRecStatus sess tag))
  | 0x0B00 => some (execCrcTake sess tag pay s)
  | 0x0B01 => some (execCrcConfig sess tag pay s)
  | 0x0B02 => some (execCrcFeed sess tag pay s)
  | 0x0B03 => some (execCrcScan sess tag pay s)
  | 0x0B04 => some (execCrcGet sess tag pay s)
  | 0x0B05 => some (execCrcRelease sess tag pay s)
  | 0x0C00 => some (s.noPay sess op tag pay (execMetIdent sess tag x.sram))
  | 0x0C01 => some (execMetRead sess tag pay s)
  | 0x0C02 => some (execMetParamSet sess tag pay x.readBack s)
  | 0x0C03 => some (execMetAuditRead sess tag pay s)
  | 0x0D00 => some (execUpdBegin sess tag pay s)
  | 0x0D01 => some (execUpdData sess tag pay s)
  | 0x0D02 => some (execUpdEnd sess tag pay s)
  | 0x0D03 => some (s.noPay sess op tag pay (execUpdActivate sess tag))
  | 0x0D04 => some (s.noPay sess op tag pay (execUpdConfirm sess tag))
  | 0x0D05 => some (s.noPay sess op tag pay (execUpdStatus sess tag))
  | 0x0E00 => some (s.noPay sess op tag pay (execPairGet sess tag))
  | 0x0E01 => some (execPairHandover sess tag pay s)
  | 0x0F00 => some (execRegRead sess tag pay x.live s)
  | 0x0F01 => some (execRegWrite sess tag pay x.live s)
  | 0x0F10 => some (execStreamOpen sess tag pay s)
  | 0x0F11 => some (execStreamClose sess tag pay s)
  | _ => none

/-- Steps 5 to 11 of R182: the command of the opcode, or BAD_OPCODE. -/
def State.ecpDispatch (s : State) (x : EcpFacts) (op sess tag : Nat) (pay : List Nat) : Out :=
  match s.ecpGroupA op sess tag pay with
  | some r => r
  | none => match s.ecpGroupB op sess tag pay with
    | some r => r
    | none => match s.ecpGroupC x op sess tag pay with
      | some r => r
      | none => fin (s.ecpSend sess op tag Ecp.BAD_OPCODE 0 [])

/-- Where a request comes from: the SPI host port, or an Ethernet port with a source address and UDP port. -/
structure EcpSource where
  spi : Bool
  port : Nat
  ip : Nat
  udp : Nat

/-- The open session of a source (R178). -/
def State.sessFrom (s : State) (e : EcpSource) : Option EcpSession :=
  s.ecp.sessions.find? (fun x => if e.spi then x.id == 8 else x.id != 8 && x.port == e.port && x.ip == e.ip && x.udp == e.udp)

/-- The session index that a new session of a source takes (R178). DESIGN CHOICE (log 122): the spec does not say which of the free
indices 0 to 7; the lowest. -/
def State.sessRoom (s : State) (e : EcpSource) : Option Nat :=
  if e.spi then some 8 else (List.range 8).find? (fun i => (s.session i).isNone)

/-- An answer in no session, or of a session that closes: a CRC trailer, AUTH clear (R178, R180). -/
def State.plainAnswer (s : State) (e : EcpSource) (op tag status seq : Nat) : State :=
  if e.spi then
    (if s.ecp.spiOut.length < 16 then
      { s with ecp := { s.ecp with spiOut := s.ecp.spiOut ++ [(⟨op, tag, status, 1, seq, [], []⟩ : EcpFrame)] } } else s)
  else s.emit (.ecp e.port e.ip e.udp (⟨op, tag, status, 1, seq, [], []⟩ : EcpFrame).wire)

/-- What step 2 of R182 finds: a frame that goes on, or what becomes of one that does not (R180). -/
inductive EcpCheck where
  | pass
  | badCheck
  | replay
  | closed (status : Nat)

/-- Step 2 of R182: the trailer, and in an authenticated session AUTH, SEQUENCE and the session key (R172, R179, R180). -/
def State.ecpTrailer (s : State) (x : Option EcpSession) (f : List Nat) : EcpCheck :=
  let auth := bitOf (leAt f 3 1) 1
  let n := 16 + leAt f 10 2
  let crcOk := !auth && leAt f n 4 == crc32c (f.take n)
  match x with
  | none => if crcOk then .pass else .badCheck
  | some y =>
    if !y.auth then (if crcOk then .pass else .badCheck)
    else if s.tampered then .closed Ecp.TAMPERED
    else if s.sessOrphaned y then .closed Ecp.KEY_ORPHANED
    else if !auth || f.drop n != (hmac256 y.key (f.take n)).take 16 then .badCheck
    else if leAt f 12 4 ≤ y.hostSeq then .replay
    else .pass

/-- A frame that has passed step 4, in its session: the session's time and SEQUENCE, then the opcode (R180, R182). -/
def State.ecpAccept (s : State) (facts : EcpFacts) (x : EcpSession) (f : List Nat) : Out :=
  let s := s.setSession { x with lastAt := s.ply, hostSeq := if x.auth then leAt f 12 4 else x.hostSeq }
  let op := leAt f 4 2
  let tag := leAt f 6 2
  let len := leAt f 10 2
  if leAt f 2 1 ≠ 1 then fin (s.ecpSend x.id op tag Ecp.BAD_VERSION 0 [])
  else if 1408 < len then fin (s.ecpSend x.id op tag Ecp.BAD_LENGTH 0 [])
  else s.ecpDispatch facts op x.id tag ((f.drop 16).take len)

/-- A frame whose source has no session: BAD_VERSION, SESSION_FULL, or a new session (R178, R182). -/
def State.ecpFirst (s : State) (facts : EcpFacts) (e : EcpSource) (f : List Nat) : Out :=
  let op := leAt f 4 2
  let tag := leAt f 6 2
  if leAt f 2 1 ≠ 1 then fin (s.plainAnswer e op tag Ecp.BAD_VERSION 0)
  else match s.sessRoom e with
    | none => fin ((s.bump ECP_CNT_C_SESSION_FULL).plainAnswer e op tag Ecp.SESSION_FULL 0)
    | some i =>
      let x : EcpSession := if e.spi then { id := i } else { id := i, port := e.port, ip := e.ip, udp := e.udp }
      State.ecpAccept { s with ecp := { s.ecp with sessions := s.ecp.sessions ++ [x] } } facts x f

/-- A whole frame from a source, in the order of R182. -/
def State.ecpFrame (s : State) (facts : EcpFacts) (e : EcpSource) (f : List Nat) : Out :=
  if f.length < 20 ∨ leAt f 0 2 ≠ 0x4543 ∨ f.length ≠ frameSize f then fin (s.bump ECP_CNT_A_DROP_FRAME)
  else
    let x := s.sessFrom e
    match s.ecpTrailer x f with
    | .badCheck => fin (s.bump ECP_CNT_A_DROP_CHECK)
    | .replay => fin (s.bump ECP_CNT_B_DROP_REPLAY)
    | .closed st =>
      match x with
      | none => fin s
      | some y =>
        let s := (if st = Ecp.KEY_ORPHANED then s.sessAbort else s).closeSession y.id
        fin (if 0xFFFFFFFF ≤ y.devSeq then s else s.plainAnswer e (leAt f 4 2) (leAt f 6 2) st (y.devSeq + 1))
    | .pass =>
      match x with
      | some y => s.ecpAccept facts y f
      | none => s.ecpFirst facts e f

/-- ECP is served over UDP on this Ethernet port and UDP port (R174). -/
def State.ecpServed (s : State) (port dst : Nat) : Bool :=
  decide (port ≤ 5) && bitOf (s.get ECP_CTRL_ETH_EN) port && !(port == 5 && s.bit PAIR_CTRL_EN) &&
  dst == s.get ECP_CTRL_UDP_PORT && !s.domOff 9

/-- ECP_FRAME_RECEIVE (R174, R177, R182): with `spi` the oldest frame of the SPI receive buffer, else the bytes of one datagram
to UDP port `dst` of Ethernet port `port`, `frag` where it came as IP fragments. The other operands are the facts of EcpFacts. -/
def execEcpFrameReceive (spi : Bool) (port ip udp dst : Nat) (frag : Bool) (frame : List Nat) (live : Nat)
    (sram : Option (List Nat)) (readBack : Bool) (err : Option (Bool × Nat × Nat)) (s : State) : Out :=
  let facts : EcpFacts := { live := live, sram := sram, readBack := readBack, err := err }
  if s.rst.held.contains .sys then fin s
  else if spi then
    match s.ecp.spiRx with
    | [] => fin s
    | f :: rest => State.ecpFrame { s with ecp := { s.ecp with spiRx := rest } } facts { spi := true, port := 0, ip := 0, udp := 0 } f
  else if !s.ecpServed port dst then fin s
  else if frag then fin (s.bump ECP_CNT_A_DROP_FRAME)
  else s.ecpFrame facts { spi := false, port := port, ip := ip, udp := udp } frame

end Sys2Proof.Machine
end

