-- ==== Sys2Proof/Machine/MemberDev.lean ====
section
/-!
DEFINITION. The members' side of the field link: what a member outside the unit does at each of the commands MEMBER_ASSOC_ATTEMPT
to MEMBER_DOCK_CONFIRM (R438 to R445, R467, R481, R493, R503, R534, R550, R551). Times `t` are µs of GPS time, `k` is a boundary
index (log 33).
-/

namespace Sys2Proof.Machine

open R

/-! ## The member's record -/

/-- Member `m`. -/
def State.memDev (s : State) (m : Nat) : MemDev :=
  match s.memDevs.find? (fun (e : Nat × MemDev) => e.1 == m) with
  | some e => e.2
  | none => {}

/-- Member `m` replaced. -/
def State.setMemDev (s : State) (m : Nat) (d : MemDev) : State :=
  { s with memDevs := s.memDevs.filter (fun (e : Nat × MemDev) => e.1 ≠ m) ++ [(m, d)] }

/-- SFN of boundary `k` by the K0 the member was given (R19, R432). -/
def MemDev.sfn (d : MemDev) (k : Nat) : Nat := k - d.k0

/-- The slot in force, as (lane, Q): that of the bank last named (R442). -/
def MemDev.slot (d : MemDev) : Nat × Nat := if d.bank = 0 then d.slot0 else d.slot1

/-- DRIFT of its record, in 0.1 ppm (R431). -/
def MemDev.drift (d : MemDev) : Nat := leAt d.caps 12 1

/-- The claim held for source `u`, 0 for 0xE0 and 1 for 0xE1. -/
def MemDev.claim (d : MemDev) (u : Nat) : Option Nat := if u = 0 then d.claim0 else d.claim1

/-- The higher source (R550). -/
def MemDev.higher (d : MemDev) : Option Nat :=
  match d.claim0, d.claim1 with
  | some a, some b => if b < a then some 0 else some 1
  | some _, none => some 0
  | none, some _ => some 1
  | none, none => none

/-- The claim of the unit that it takes as active. -/
def MemDev.topClaim (d : MemDev) : Option Nat := d.higher.bind d.claim

/-- It comes to rest under its own limits: it follows no window (R29, R534). -/
def MemDev.rest (d : MemDev) : MemDev := { d with win := none }

/-- It stops under its own limits and returns to UNJOINED; claims are forgotten (R550), reports in flight wait again. Its
orders, tracks and the conditions STOPPED and HOLDING stay (log 34). -/
def MemDev.leave (d : MemDev) : MemDev :=
  let back : List (List Nat) := match d.flight with | some f => f.2.1 | none => []
  { d with st := 0, win := none, claim0 := none, claim1 := none, tries := 0, wait := 0, asked := none, half := false, addr := 0
           slot0 := (0, 255), slot1 := (0, 255), flocks := 0, dseq := [], hopAnn := none, part0 := none, part1 := none
           shift := none, flight := none, reports := back ++ d.reports, cor := none, stateDue := false }

/-- It enters STOPPED: its own stop function, and the window is discarded (R443, R534). -/
def MemDev.halt (d : MemDev) : MemDev := { d with stopped := true, win := none }

/-! ## Reports and orders (R417, R467 to R469) -/

/-- A report queued, as an RPT item (R406, R417). -/
def MemDev.report (d : MemDev) (kind : Nat) (body : List Nat) : MemDev :=
  { d with reports := d.reports ++ [([0x24, 1 + body.length, kind] : List Nat) ++ body] }

/-- A DONE report (R468). -/
def MemDev.doneRpt (d : MemDev) (event result task next a b data : Nat) : MemDev :=
  d.report 3 ([event, result % 256] ++ leBytes 4 task ++ leBytes 4 next ++ leBytes 4 a ++ leBytes 4 b ++ leBytes 4 data ++ [0, 0])

/-- TASK_ID of an order, 0 when none. -/
def orderId (o : Option MemOrder) : Nat := match o with | some x => x.task | none => 0

/-- A STATE report (R468, R469). -/
def MemDev.stateRpt (d : MemDev) : MemDev := d.doneRpt 5 0 (orderId d.running) (orderId d.held) d.doneA d.doneB 0

/-- An order may be started now: before START_BY, neither STOPPED nor HOLDING (R467). -/
def MemDev.mayStart (d : MemDev) (sfn : Nat) (o : MemOrder) : Bool := decide (sfn < o.startBy) && !d.stopped && !d.holding

/-- A held order whose START_BY has begun is discarded unstarted (R467). -/
def MemDev.expire (d : MemDev) (sfn : Nat) : MemDev :=
  match d.held with
  | some o => if sfn < o.startBy then d else { d with held := none }.doneRpt 6 0 o.task 0 0 0 0
  | none => d

/-- MEMBER_ORDER_RECEIVE, ASSIGN (R467). -/
def MemDev.assign (d : MemDev) (sfn : Nat) (o : MemOrder) : MemDev :=
  let other : Bool := match d.held with | some h => h.task != o.task | none => false
  if other then d.stateRpt
  else if d.running.isNone && d.mayStart sfn o then { d with running := some o, held := none }.doneRpt 1 0 o.task 0 0 0 0
  else { d with held := some o }.expire sfn

/-- The running order ends with an event; the held order starts in its place under the conditions of ASSIGN (R467, R468). -/
def MemDev.orderEnd (d : MemDev) (sfn event result data : Nat) : MemDev :=
  match d.running with
  | none => d
  | some r =>
    let d := { d with running := none, doneB := d.doneA, doneA := r.task }
    match d.held with
    | some h =>
      if d.mayStart sfn h then { d with running := some h, held := none }.doneRpt event result r.task h.task 0 0 data
      else (d.doneRpt event result r.task 0 0 0 data).expire sfn
    | none => d.doneRpt event result r.task 0 0 0 data

/-- MEMBER_ORDER_RECEIVE, WITHDRAW (R467). -/
def MemDev.withdraw (d : MemDev) (sfn task : Nat) : MemDev :=
  if orderId d.running = task ∧ d.running.isSome then d.rest.orderEnd sfn 4 0 0
  else if orderId d.held = task ∧ d.held.isSome then { d with held := none }.doneRpt 6 0 task 0 0 0 0
  else d

/-- MEMBER_ORDER_RECEIVE (R465, R467). -/
def MemDev.order (d : MemDev) (sfn : Nat) (b : List Nat) : MemDev :=
  let id := leAt b 2 4
  match leAt b 0 1 with
  | 0 => d.assign sfn { task := id, startBy := leAt b 6 4, level := leAt b 1 1, body := b.drop 12 }
  | 1 =>
    match d.held with
    | some h => if h.task = id then { d with held := some { h with startBy := leAt b 6 4 } } else d
    | none => d
  | _ => d.withdraw sfn id

/-! ## Tracks and windows (R476, R480, R481, R491, R493) -/

/-- A track slot. -/
def MemDev.trk (d : MemDev) (j : Nat) : MemTrack := if j = 0 then d.trk0 else d.trk1

/-- A track slot replaced. -/
def MemDev.setTrk (d : MemDev) (j : Nat) (x : MemTrack) : MemDev := if j = 0 then { d with trk0 := x } else { d with trk1 := x }

/-- The vertices carried by a VERTS item. -/
def trackVerts (b : List Nat) : List (Int × Int × Int) :=
  (List.range (leAt b 4 1)).map (fun i =>
    (sgn 32 (leAt b (8 + 12 * i) 4), sgn 32 (leAt b (12 + 12 * i) 4), sgn 32 (leAt b (16 + 12 * i) 4)))

/-- MEMBER_TRACK_ITEM (R481). A VERTS that does not follow empties the slot, and its own vertices are not stored (log 35). -/
def MemDev.track (d : MemDev) (b : List Nat) : MemDev :=
  let j := leAt b 1 1
  let x := d.trk j
  let first := leAt b 2 2
  if leAt b 0 1 = 0 then
    if first = 0 then d.setTrk j { verts := trackVerts b }
    else if first = x.verts.length then d.setTrk j { verts := x.verts ++ trackVerts b }
    else d.setTrk j {}
  else
    let len := (arcsOf x.verts).getLast?.getD 0
    if first = x.verts.length ∧ first ≠ 0 ∧ leAt b 8 4 = len ∧ leAt b 12 4 = crc32c (vertBytes x.verts) then
      d.setTrk j { x with closed := true }
    else d.setTrk j {}

/-- The quantum of a window's FLAGS (R491). -/
def winQuantum (flags : Nat) : Int := match flags % 4 with | 0 => 1 | 1 => 4 | _ => 16

/-- Setpoints rebuilt: S1, then S1 plus q times the running sum of the deltas (R493). -/
def winPoints (q acc : Int) : List Nat → List Int
  | [] => [acc]
  | b :: t => acc :: winPoints q (acc + q * sgn 8 b) t

/-- A window of boundary `k` taken: not by a member that is STOPPED or HOLDING (R534), and not where it names an empty slot
(R481). -/
def MemDev.window (d : MemDev) (k : Nat) (b : List Nat) : MemDev :=
  let f := leAt b 0 1
  let j := leAt b 1 1 % 2
  if d.stopped ∨ d.holding ∨ !(d.trk j).closed then d
  else { d with win := some { base := k * 100000, pts := winPoints (winQuantum f) (sgn 32 (leAt b 2 4)) ((b.drop 6).take 9), slot := j
                              ended := bitOf f 2, home := bitOf f 3, hold := bitOf f 4 } }

/-- Its position at an arc of a window's slot (R476, R493). -/
def MemDev.place (d : MemDev) (w : MemWindow) (arc : Nat) : Int × Int × Int :=
  positionGo arc (d.trk w.slot).verts (arcsOf (d.trk w.slot).verts)

/-! ## Items and commands of a downlink frame (R406, R421, R425) -/

/-- It accepts frames for its own address, its flocks and 0xFF (R437). -/
def MemDev.accepts (d : MemDev) (dst : Nat) : Bool :=
  dst == d.addr || dst == 0xFF || (decide (0xD0 ≤ dst) && decide (dst ≤ 0xDF) && bitOf d.flocks (dst - 0xD0))

/-- The last DSEQ of a source for a destination. -/
def MemDev.lastDseq (d : MemDev) (u dst : Nat) : Option Nat :=
  (d.dseq.find? (fun (e : (Nat × Nat) × Nat) => e.1 == (u, dst))).map (·.2)

/-- MEMBER_CMD_ACCEPT: accepted or discarded by DSEQ (R425). -/
def MemDev.fresh (d : MemDev) (u dst q : Nat) : Bool :=
  match d.lastDseq u dst with
  | none => true
  | some l => if dst = d.addr then q == seqNext l else
      decide (1 ≤ (q + 65536 - l) % 65536) && decide ((q + 65536 - l) % 65536 ≤ 32767)

/-- An accepted command takes effect in superframe `sfn` (R421). -/
def MemDev.command (d : MemDev) (sfn kind : Nat) (b : List Nat) : MemDev :=
  match kind with
  | 1 => let e := (leAt b 1 1, leAt b 2 1); if leAt b 0 1 = 0 then { d with slot0 := e } else { d with slot1 := e }
  | 2 => { d with flocks := leAt b 0 2 }
  | 3 => d.order sfn b
  | 4 =>
    let p : MemHopPart := { ver := leAt b 0 2, target := leAt b 2 4, lanes := leAt b 6 1, data := b.drop 8 }
    if leAt b 7 1 = 0 then { d with part0 := some p } else { d with part1 := some p }
  | 5 => d.leave
  | 6 => d.report 1 d.caps
  | _ => d.track b

/-- A CMD item from source `u` (R421, R425, R437). -/
def MemDev.cmd (u sfn : Nat) (d : MemDev) (b : List Nat) : MemDev :=
  let dst := leAt b 0 1
  let q := leAt b 1 2
  if d.st < 2 ∨ !d.accepts dst ∨ !d.fresh u dst q then d
  else
    let d := { d with dseq := d.dseq.filter (fun (e : (Nat × Nat) × Nat) => e.1 != (u, dst)) ++ [((u, dst), q)] }
    d.command sfn (leAt b 3 1) (b.drop 4)

/-- The frame in flight is acknowledged: an ACK bit of the superframe of its last sending (R423, R424). -/
def MemDev.ack (d : MemDev) (prof k : Nat) (b : List Nat) : MemDev :=
  match d.flight with
  | none => d
  | some f =>
    let same : Bool := if prof = 0 then f.2.2 == k else f.2.2 / 10 == k / 10
    let bit : Bool := if prof = 0 then bitOf (leAt b 0 5) (d.slot.2 - 3) else bitOf (leAt b 0 1) (groupSlot 1 d.slot.2 / 3 - 1)
    if same && bit then { d with flight := none } else d

/-- One item of a digest from the higher source (R406, R551). Windows on profiles 1 and 2 were built at C1 of the superframe
before (R420). -/
def MemDev.item (prof u k sfn : Nat) (d : MemDev) (i : Nat × List Nat) : MemDev :=
  match i.1 with
  | 1 => d.ack prof k i.2
  | 2 =>
    match ((List.range (i.2.length / 12)).map (fun j => (i.2.drop (12 * j)).take 12)).find? (fun e => leAt e 0 1 == d.addr) with
    | some e => { d with sol := e }
    | none => d
  | 3 =>
    match ((parseWins i.2.length i.2).getD []).find? (fun e => e.1 == d.addr) with
    | some e => d.window (if prof = 0 then k else k - 1) e.2
    | none => d
  | _ => MemDev.cmd u sfn d i.2

/-! ## Its transmit budgets (R390, R391, R394, R396) -/

/-- The member's accounts: the shipped values of its lane's profile, which no command of the spec changes (R395, R396). -/
def memAccts (prof : Nat) : List ShipAcct := shipAccts prof Config.memberEirp 0

/-- The ordinary sum of account `i` over bucket `b` and the 59 before it, with the starting history up to the bucket of its first frame
(R389, R394). -/
def MemDev.acctSum (d : MemDev) (a : ShipAcct) (i b : Nat) : Nat :=
  let born := d.bornAt.getD 0 / (1000 * a.bucket)
  let v := cdiv (a.limit - 2 * (a.limit / 10)) 60
  ((d.sent.filter (fun e => e.1 == i && decide (e.2.1 ≤ b ∧ b < e.2.1 + 60))).map (fun e => e.2.2)).sum + v * (min 60 (born + 60 - b))

/-- A DATA frame of `us` µs on a channel at time `t`: charged to every account that covers it, or refused (R390, R391, R396). -/
def MemDev.budget (d : MemDev) (prof ch us t : Nat) : Option MemDev :=
  let d := { d with bornAt := some (d.bornAt.getD t) }
  let l := ((List.range (memAccts prof).length).zip (memAccts prof)).filter (fun e => decide (e.2.lo ≤ ch ∧ ch ≤ e.2.hi))
  let row := fun (e : Nat × ShipAcct) => (e.1, t / (1000 * e.2.bucket), cdiv (us * e.2.weight) 256)
  if l.all (fun e => decide (d.acctSum e.2 e.1 (row e).2.1 + (row e).2.2 ≤ e.2.limit - 2 * (e.2.limit / 10))) then
    some { d with sent := d.sent ++ l.map row }
  else none

/-- Its channel in a slot, by the hop settings it holds; in an association slot by those of R428. -/
def State.memChan (s : State) (d : MemDev) (lane k slot : Nat) (assoc : Bool) : Nat :=
  let prof := s.prof lane
  let cs := if assoc then
      hopChannels (aesEncrypt d.joinKey (List.replicate 16 0x4A)) 0 (k % 2 ^ 32) slot (joinList prof) (List.range 8) []
    else hopChannels d.hopKey d.hopIv (d.sfn k) slot (allowedOf prof (leAt d.excl 0 10))
      ((List.range 8).filter (fun l => bitOf d.hopLanes l && s.prof l == prof)) []
  match cs.find? (fun e => e.1 == lane) with | some e => e.2 | none => 0

/-- It sends an MPDU in a data part where its accounts allow; a refused frame is not sent (R392, R396). Its accounts begin, with their
starting history, at its first frame, sent or refused (R394; log 41). -/
def State.memSend (s : State) (m : Nat) (before after : MemDev) (k lane slot t : Nat) (assoc : Bool) (mpdu : List Nat) : State :=
  let prof := s.prof lane
  let us := txenUs prof (s.get (LANE_CFG_RATE lane)) ivData (psduLen prof mpdu.length)
  match after.budget prof (s.memChan before lane k slot assoc) us t with
  | some d => (s.setMemDev m d).emit (.memberAir m k lane slot mpdu)
  | none => s.setMemDev m { before with bornAt := some (before.bornAt.getD t) }

/-! ## Association (R428 to R430, R438, R439) -/

/-- The request slot of a superframe, or long superframe: slot 2 (R428). -/
def execMemberAssocAttempt (m k lane draw : Nat) (eui caps joinKey : List Nat) (gnss : Bool) (s : State) : Out :=
  fin (let d := s.memDev m
    if d.st ≠ 0 ∨ 8 ≤ lane ∨ !reqSlot (s.prof lane) k 2 ∨ eui.length ≠ 8 ∨ !capsOk caps then s
    else
      let d := { d with eui := eui, caps := caps, joinKey := joinKey }
      let d := if d.asked.isSome then { d with asked := none, half := false, wait := draw % 2 ^ (min d.tries 6) } else d
      if d.wait ≠ 0 then s.setMemDev m { d with wait := d.wait - 1 }
      else if !gnss then s.setMemDev m d
      else
        let nonce := joinNonce (joinK (s.prof lane) k) lane false 0 eui
        let p : List Nat := ([3, 0, 0xFF, 0, 0] : List Nat) ++ eui ++ caps
        s.memSend m d { d with tries := d.tries + 1, asked := some (lane, k) } k lane 2 (k * 100000) true (p ++ ccmMic joinKey nonce p []))

/-- What part 0 of an accepting response gives (R432). -/
def MemDev.takePart0 (d : MemDev) (b : List Nat) : MemDev :=
  let e := (leAt b 11 1, leAt b 12 1)
  { d with addr := leAt b 10 1, slot0 := e, slot1 := e, flocks := leAt b 13 2, k0 := leAt b 15 8, hopLanes := leAt b 23 1
           hopVer := leAt b 24 2, excl := (b.drop 26).take 10, half := true }

/-- What part 1 gives: the keys, and with them JOINING (R432, R438). -/
def MemDev.takePart1 (d : MemDev) (t : Nat) (b : List Nat) : MemDev :=
  { d with nwkKey := (b.drop 9).take 16, hopKey := (b.drop 25).take 16, hopIv := leAt b 41 16, st := 1, joinAt := t, asked := none
           half := false, tries := 0, wait := 0, resync := true, acted := none, stopAt := t, seq := 0, bank := 0 }

/-- A response body whose EUI is its own: part 0, with part 1 after it on profile 0 (R432, R439). -/
def MemDev.takeResp (d : MemDev) (prof t : Nat) (b : List Nat) : MemDev :=
  if leAt b 8 1 = 1 then (if d.half ∧ b.length = 57 then d.takePart1 t b else d)
  else
    match leAt b 9 1 with
    | 0 => if prof = 0 then (d.takePart0 b).takePart1 t (b.drop 36) else d.takePart0 b
    | 3 => d
    | _ => { d with tries := 6 }

/-- A response body is well formed (R16, R432). -/
def assocBodyOk (prof : Nat) (b : List Nat) : Bool :=
  if leAt b 8 1 = 1 then prof != 0 && b.length == 57
  else leAt b 8 1 == 0 && decide (leAt b 9 1 ≤ 4) &&
    (if leAt b 9 1 = 0 then b.length == (if prof = 0 then 93 else 36) && isAddr (leAt b 10 1) && decide (leAt b 11 1 ≤ 7)
     else b.length == 36)

/-- MEMBER_ASSOC_RESPONSE: a frame in the response slot of its request (R402, R410, R428, R432, R438, R439). -/
def execMemberAssocResponse (m k slot t : Nat) (mpdu : List Nat) (s : State) : Out :=
  fin (let d := s.memDev m
    match d.asked with
    | none => s
    | some (lane, kq) =>
      let prof := s.prof lane
      let part := if prof ≠ 0 ∧ slot = 9 then 1 else 0
      if d.st ≠ 0 ∨ joinK prof k ≠ respBoundary prof kq ∨ !(slot == 2 || part == 1) then s
      else
        let h := if bitOf (leAt mpdu 0 1) 4 then 6 else 5
        match openMpdu d.joinKey (joinNonce (joinK prof k) lane true part d.eui) mpdu with
        | none => s
        | some b =>
          if leAt mpdu 0 1 % 16 ≠ 4 ∨ (b.drop h).take 8 ≠ d.eui then s
          else if !assocBodyOk prof (b.drop h) then s.setMemDev m { d with malformed := d.malformed + 1 }
          else s.setMemDev m (d.takeResp prof t (b.drop h)))

/-- Length in µs of `n` superframes of a lane's profile, or of as many long superframes (R435, R438, R550). -/
def beaconUs (prof n : Nat) : Nat := (if prof = 0 then 100000 else 1000000) * n

/-- MEMBER_JOIN_TIMEOUT: no Bellwether within 20 superframes, or 3 long superframes (R438). -/
def execMemberJoinTimeout (m t : Nat) (s : State) : Out :=
  fin (let d := s.memDev m
    let lim := if s.prof d.slot.1 = 0 then 2000000 else 3000000
    if d.st = 1 ∧ d.joinAt + lim ≤ t then s.setMemDev m d.leave else s)

/-! ## Claims, Bellwethers and digests (R412, R413, R425, R427, R436, R440, R442, R443, R550, R551) -/

/-- CLAIM of a valid Bellwether or DIGEST from source `u`: a changed one makes that source's numbers unsynced (R425), and a
change of the active unit's claim calls for a STATE report (R469, R551). -/
def MemDev.takeClaim (d : MemDev) (u claim t : Nat) : MemDev :=
  let top := d.topClaim
  let d := if d.claim u = some claim then d else { d with dseq := d.dseq.filter (fun (e : (Nat × Nat) × Nat) => e.1.1 != u) }
  let d := if u = 0 then { d with claim0 := some claim, at0 := t } else { d with claim1 := some claim, at1 := t }
  { d with stateDue := d.stateDue || d.topClaim != top }

/-- Hop settings whose both parts are in hand come into use at their target (R387, R444). -/
def MemDev.hopNow (d : MemDev) (sfn : Nat) : MemDev :=
  match d.part0, d.part1 with
  | some a, some b =>
    if a.ver = b.ver ∧ a.target ≤ sfn then
      { d with hopVer := a.ver, hopLanes := a.lanes, hopKey := a.data.take 16, hopIv := leAt a.data 16 16, excl := b.data
               hopAnn := none, part0 := none, part1 := none }
    else d
  | _, _ => d

/-- The fields every valid Bellwether gives, from either source: guard timing, STOP_CLEAR, SSEQ (R427, R440, R443, R551). A
Bellwether with STOP_CLEAR clear counts as a STOP frame. -/
def MemDev.bellAny (d : MemDev) (prof u k t : Nat) (clear : Bool) (sseq : Nat) : MemDev :=
  let d := { d with bellAt := t, st := 2 }
  let d := if u = 0 then { d with clear0 := clear } else { d with clear1 := clear }
  let d := if d.resync then { d with acted := some sseq, resync := false, stopAt := t } else d
  if clear then { d with clearAt := joinK prof k * 100000 } else d.halt

/-- The fields it takes from its higher source alone: BANK, RATE, the announcements, ADDR_MAP, items (R436, R442, R444, R445,
R551). -/
def MemDev.bellHigh (d : MemDev) (u sfn : Nat) (b : List Nat) (items : List (Nat × List Nat)) : MemDev :=
  let f := leAt b 14 2
  let d := { d with bank := b2n (bitOf f 2), rate := bits f 10 8 }
  let d := if bitOf f 3 then { d with shift := some (leAt b 17 4, leAt b 21 4) } else d
  let d := if bitOf f 4 then { d with hopAnn := some (leAt b 29 2, leAt b 25 4) } else d
  if bitOf (leAt b 31 24) (d.addr - 1) then items.foldl (fun d i => MemDev.cmd u sfn d i.2) d else d.leave

/-- The source of a Bellwether slot: slot 0 the primary, slot 1 the secondary (R23, R402). -/
def bellSource (prof k slot : Nat) : Option Nat :=
  if prof = 0 ∨ k % 10 = 0 then (if slot = 0 then some 0 else if slot = 1 then some 1 else none) else none

/-- MEMBER_BELLWETHER_RECEIVE: a data-part frame in a Bellwether slot of its lane (R412, R438, R551). -/
def execMemberBellwetherReceive (m k slot t : Nat) (mpdu : List Nat) (s : State) : Out :=
  fin (let d := s.memDev m
    let lane := d.slot.1
    let prof := s.prof lane
    match bellSource prof k slot with
    | none => s
    | some u =>
      if d.st = 0 then s
      else if leAt mpdu 0 1 % 16 ≠ 0 ∨ leAt mpdu 1 1 ≠ 0xE0 + u then s.setMemDev m { d with malformed := d.malformed + 1 }
      else
        let h := if bitOf (leAt mpdu 0 1) 4 then 6 else 5
        let sfn := d.sfn k
        match openMpdu d.nwkKey (nwkNonce sfn slot lane ivData true (0xE0 + u)) mpdu with
        | none => s
        | some p =>
          let b := p.drop h
          match parseItems b.length (b.drop 55) with
          | none => s.setMemDev m { d with malformed := d.malformed + 1 }
          | some items =>
            if !bellOk prof b items then s.setMemDev m { d with malformed := d.malformed + 1 }
            else
              let d := (d.takeClaim u (leAt b 0 4) t).bellAny prof u k t (bitOf (leAt b 14 2) 0) (leAt b 16 1)
              let d := if d.higher = some u then d.bellHigh u sfn b items else d
              s.setMemDev m ((d.hopNow sfn).expire sfn))

/-- MEMBER_DIGEST_RECEIVE: its claim is taken, and its items where the source is the higher one (R418, R550, R551). -/
def execMemberDigestReceive (m k slot t : Nat) (mpdu : List Nat) (s : State) : Out :=
  fin (let d := s.memDev m
    let lane := d.slot.1
    let prof := s.prof lane
    match slotCut prof (if prof = 0 then slot else 10 * (k % 10) + slot) with
    | none => s
    | some cut =>
      let src := leAt mpdu 1 1
      if d.st < 2 then s
      else if leAt mpdu 0 1 % 16 ≠ 1 ∨ (src ≠ 0xE0 ∧ src ≠ 0xE1) then s.setMemDev m { d with malformed := d.malformed + 1 }
      else
        let h := if bitOf (leAt mpdu 0 1) 4 then 6 else 5
        let sfn := d.sfn k
        match openMpdu d.nwkKey (nwkNonce sfn slot lane ivData true src) mpdu with
        | none => s
        | some p =>
          let b := p.drop h
          match parseItems b.length (b.drop 5) with
          | none => s.setMemDev m { d with malformed := d.malformed + 1 }
          | some items =>
            if leAt b 4 1 ≠ cut ∨ !items.all (downItemOk prof cut) then s.setMemDev m { d with malformed := d.malformed + 1 }
            else
              let u := src - 0xE0
              let d := d.takeClaim u (leAt b 0 4) t
              let d := if d.higher = some u then items.foldl (MemDev.item prof u k sfn) d else d
              s.setMemDev m ((d.hopNow sfn).expire sfn))

/-- MEMBER_CLAIM_LAPSE: 30 beacon periods without a valid Bellwether or DIGEST of a source (R550). -/
def execMemberClaimLapse (m src t : Nat) (s : State) : Out :=
  fin (let d := s.memDev m
    let seen := if src = 0 then d.at0 else d.at1
    if src ≤ 1 ∧ (d.claim src).isSome ∧ seen + beaconUs (s.prof d.slot.1) 30 ≤ t then
      let top := d.topClaim
      let e := if src = 0 then { d with claim0 := none } else { d with claim1 := none }
      s.setMemDev m { e with stateDue := e.stateDue || (e.topClaim != top && e.topClaim.isSome) }
    else s)

/-! ## Guard, beacon and hop timers (R440, R443, R444) -/

/-- MEMBER_GUARD_CAP: 40 + 2 D t reaches 2000 µs; nothing is sent until a valid Bellwether (R440). -/
def execMemberGuardCap (m t : Nat) (s : State) : Out :=
  fin (let d := s.memDev m
    if d.st = 2 ∧ 1960 * 10000000 ≤ 2 * d.drift * (t - d.bellAt) then s.setMemDev m { d with st := 3 } else s)

/-- MEMBER_BEACON_TIMEOUT (R443). -/
def execMemberBeaconTimeout (m t : Nat) (s : State) : Out :=
  fin (let d := s.memDev m
    let lim := if s.prof d.slot.1 = 0 then 305000 else 3020000
    if 2 ≤ d.st ∧ !d.stopped ∧ d.clearAt + lim ≤ t then s.setMemDev m d.halt else s)

/-- MEMBER_HOP_TARGET_MISSED: HOP_TARGET comes without both parts of the announced version (R444). -/
def execMemberHopTargetMissed (m k : Nat) (s : State) : Out :=
  fin (let d := s.memDev m
    match d.hopAnn with
    | none => s
    | some (ver, target) =>
      let has := fun (p : Option MemHopPart) => match p with | some x => x.ver == ver | none => false
      if target ≤ d.sfn k ∧ !(has d.part0 && has d.part1) then s.setMemDev m d.leave else s)

/-! ## Orders, windows, dock (R29, R467, R503) -/

/-- MEMBER_ORDER_END: the running order is COMPLETED (2) or FAILED (3), with the maker's RESULT and DATA (R467, R468). -/
def execMemberOrderEnd (m k event result data : Nat) (s : State) : Out :=
  fin (let d := s.memDev m
    if (event = 2 ∨ event = 3) ∧ d.running.isSome then s.setMemDev m (d.orderEnd (d.sfn k) event result data) else s)

/-- MEMBER_WINDOW_EXHAUSTED: the last setpoint, T + 1000 ms, with no fresh window (R29, R493). -/
def execMemberWindowExhausted (m t : Nat) (s : State) : Out :=
  fin (let d := s.memDev m
    match d.win with
    | some w => if w.base + 1000000 ≤ t then s.setMemDev m d.rest else s
    | none => s)

/-- MEMBER_DOCK_CONFIRM: a confirmed change is reported with the GPS time of confirmation (R503); with HOME in its window a
contact that closes brings it to rest (R504). -/
def execMemberDockConfirm (m : Nat) (closed : Bool) (ms : Nat) (s : State) : Out :=
  fin (let d := s.memDev m
    if closed = d.dock then s
    else
      let n := (d.dockCount + 1) % 256
      let home : Bool := match d.win with | some w => w.home | none => false
      let d := { d with dock := closed, dockCount := n }.report 4 (([b2n closed, n] : List Nat) ++ leBytes 4 ms ++ [0, 0])
      s.setMemDev m (if closed && home then d.rest else d))

/-! ## Stop-window frames (R407, R409, R427, R533, R534) -/

/-- SSEQ is ahead of the last one acted on (R427). -/
def MemDev.ahead (d : MemDev) (q : Nat) : Bool :=
  match d.acted with
  | none => true
  | some l => decide (1 ≤ (q + 256 - l) % 256) && decide ((q + 256 - l) % 256 ≤ 127)

/-- STOP_CLEAR of the latest valid Bellwether from the higher source (R534). -/
def MemDev.topClear (d : MemDev) : Bool :=
  match d.higher with
  | some 0 => d.clear0
  | some _ => d.clear1
  | none => false

/-- A valid stop-window command addressed to it (R427, R534). A STOP leaves the last acted SSEQ alone (log 36). -/
def MemDev.stopCmd (d : MemDev) (cmd q : Nat) : MemDev :=
  match cmd with
  | 1 => d.halt
  | 2 => if !d.ahead q then d else if d.stopped then { d with acted := some q } else { d.rest with holding := true, acted := some q }
  | _ => if d.ahead q && d.topClear then { d with stopped := false, holding := false, acted := some q } else d

/-- MEMBER_STOP_FRAME_RECEIVE: a frame in a stop sub-window of its lane; a reserved CMD or TARGET makes it malformed (R16, R407,
R412, R534). -/
def execMemberStopFrameReceive (m k slot iv t : Nat) (mpdu : List Nat) (s : State) : Out :=
  fin (let d := s.memDev m
    let lane := d.slot.1
    if d.st < 2 ∨ 2 ≤ iv ∨ mpdu.length ≠ 11 then s
    else
      let cmd := leAt mpdu 0 1 % 16
      let aad := mpdu.take 3
      if ccmMic d.nwkKey (nwkNonce (d.sfn k) slot lane iv true (0xE0 + iv)) aad [] ≠ mpdu.drop 3 then s
      else if cmd = 0 ∨ 3 < cmd ∨ !isDst (leAt mpdu 2 1) then s.setMemDev m { d with malformed := d.malformed + 1 }
      else
        let d := { d with stopAt := t, resync := false }
        s.setMemDev m (if d.accepts (leAt mpdu 2 1) then d.stopCmd cmd (leAt mpdu 1 1) else d))

/-- MEMBER_SSEQ_RESYNC: after 3 s without a stop-window frame the SSEQ of the next Bellwether is taken (R427). -/
def execMemberSseqResync (m t : Nat) (s : State) : Out :=
  fin (let d := s.memDev m
    if 2 ≤ d.st ∧ d.stopAt + 3000000 ≤ t then s.setMemDev m { d with resync := true } else s)

/-! ## Uplinks (R24, R26, R405, R409, R415, R416, R422, R424, R441, R445) -/

/-- A COR without its last satellite block and that satellite's signal blocks (R322 to R324, R416). -/
def corDrop (c : List Nat) : List Nat :=
  let n := leAt c 1 1
  let g := leAt c 2 1
  let sigs := bits (leAt c (16 + 5 * (n - 1) + 1) 1) 1 0
  let j := sigs % 2 + sigs / 2
  [leAt c 0 1, n - 1, g - j] ++ (c.take (16 + 5 * (n - 1))).drop 3 ++ ((c.drop (16 + 5 * n)).take (6 * (g - j)))

/-- Satellites left out until the COR fits (R416); which ones is the member's own choice, here the last (log 37). -/
def corFit (room : Nat) : Nat → List Nat → List Nat
  | 0, c => c
  | f + 1, c => if c.length ≤ room ∨ leAt c 1 1 = 0 then c else corFit room f (corDrop c)

/-- The boundary is one at which it measures (R24). -/
def measures (prof rate k : Nat) : Bool :=
  if prof ≠ 0 then k % 10 == 0
  else match rate with
    | 0 => k % 10 == 0
    | 1 => k % 5 == 0
    | 2 => k % 2 == 0
    | _ => true

/-- The reports of a new frame: as many waiting ones, in order, as fit. -/
def takeRpts (room : Nat) : List (List Nat) → List (List Nat) × List (List Nat)
  | [] => ([], [])
  | r :: t => if r.length ≤ room then (let x := takeRpts (room - r.length) t; (r :: x.1, x.2)) else ([], r :: t)

/-- The RPT items of an UPLINK that may carry them, with its SEQ: the frame in flight again, or new reports under the next
SEQ (R422, R424). -/
def MemDev.rpts (d : MemDev) (k room : Nat) : MemDev × Nat × List Nat :=
  match d.flight with
  | some f => ({ d with flight := some (f.1, f.2.1, k) }, f.1, f.2.1.flatten)
  | none =>
    let d := if d.stateDue then { d.stateRpt with stateDue := false } else d
    let x := takeRpts room d.reports
    if x.1.isEmpty then (d, 0, [])
    else ({ d with seq := seqNext d.seq, flight := some (seqNext d.seq, x.1, k), reports := x.2 }, seqNext d.seq, x.1.flatten)

/-- MSTATE (R415). -/
def MemDev.mstate (d : MemDev) (gnss : Bool) (part : Nat) : Nat := b2n d.stopped + 2 * b2n d.holding + 4 * b2n gnss + 16 * part

/-- DACK: the last in-order DSEQ for its own address from the unit in DST (R415). -/
def MemDev.dack (d : MemDev) (u : Nat) : Nat := (d.lastDseq u d.addr).getD 0

/-- The COR bytes of part `part`, and what is left to send: a new COR at part 0, 3 slots' room for it (R416). -/
def MemDev.corPart (d : MemDev) (k part room full : Nat) (cor : List Nat) : MemDev × List Nat :=
  let d := if part = 0 ∧ !cor.isEmpty then { d with cor := some (k / 10, corFit (min 165 (room + 2 * full)) 24 cor, 0) } else d
  match d.cor with
  | none => (d, [])
  | some (m, c, o) =>
    if m ≠ k / 10 ∨ c.length ≤ o then ({ d with cor := none }, [])
    else
      let x := (c.drop o).take room
      ({ d with cor := some (m, c, o + x.length) }, [0x21, 2 + x.length, c.length, o] ++ x)

/-- The items of an UPLINK (R416, R417, R422): reports, then the COR or its part. -/
def MemDev.upItems (d : MemDev) (prof k part max : Nat) (cor : List Nat) : MemDev × Nat × List Nat :=
  let room := max - 16
  if prof = 0 then
    let x := d.rpts k room
    let c := if cor.isEmpty ∨ room < x.2.2.length + 19 then [] else
      let c := corFit (room - 3 - x.2.2.length) 24 cor
      [0x20] ++ leBytes 2 c.length ++ c
    (x.1, x.2.1, x.2.2 ++ c)
  else
    let x := if part = 0 then d.rpts k room else (d, 0, [])
    let y := x.1.corPart k part (room - 4 - x.2.2.length) (room - 4) cor
    (y.1, x.2.1, x.2.2 ++ y.2)

/-- Length in ns of a superframe by the announced shift (R445). -/
def MemDev.superNs (d : MemDev) (sfn : Nat) : Nat :=
  match d.shift with
  | some (S, len) => if S = sfn then len * 1000 else 100000000
  | none => 100000000

/-- MEMBER_UPLINK_SEND: in its slot of the bank in force, with the COR of the epoch (none: `cor` empty) (R24, R26, R424, R441,
R445). -/
def execMemberUplinkSend (m k slot t : Nat) (gnss : Bool) (cor : List Nat) (s : State) : Out :=
  fin (let d := s.memDev m
    let lane := d.slot.1
    let prof := s.prof lane
    let q := if prof = 0 then slot else 10 * (k % 10) + slot
    let part := if prof = 0 then 0 else q - d.slot.2
    match d.higher with
    | none => s
    | some u =>
      if d.st ≠ 2 ∨ d.slot.2 = 255 ∨ q < d.slot.2 ∨ (if prof = 0 then 0 else 2) < q - d.slot.2 then s
      else if slotSpan prof (d.superNs (d.sfn k)) slot ≠ some (slotNs prof) ∨ (!gnss ∧ 300000000 < 2 * d.drift * (t - d.bellAt)) then s
      else
        let max := s.mpduMax lane ivData
        let c := if measures prof d.rate (k - (if prof = 0 then 0 else k % 10)) then cor else []
        let x := d.upItems prof k part max c
        let sfn := d.sfn k
        let p : List Nat := ([2, d.addr, 0xE0 + u] : List Nat) ++ leBytes 2 x.2.1 ++ leBytes 2 (d.dack u) ++ [d.mstate gnss part] ++ x.2.2
        s.memSend m d x.1 k lane slot t false (p ++ ccmMic d.nwkKey (nwkNonce sfn slot lane ivData false d.addr) p []))

end Sys2Proof.Machine
end

