-- ==== Sys2Proof/Machine/PlyRes.lean ====
section
/-!
DEFINITION. The resolution point of a ply (R137, R139 to R144): Rook's samples and timers, the requests that wait for a later
ply, tasks made ready, castlings, and the advance of the ply number and of the local clock.
-/

namespace Sys2Proof.Machine

open R

/-! ## E-stop loops in one ply (R519 to R521) -/

/-- The slot of channel `j` in the test cycle begins in this ply (R520). -/
def State.testSlot (s : State) (j : Nat) : Bool :=
  let t := s.get LOOP_CFG_TEST_MS
  decide (s.rook.cycle ≤ s.ply) && (s.ply - s.rook.cycle) % (t * 100) == j * t * 100 / 16

/-- A test begins, or one whose window is over ends (R520). -/
def State.testStart (s : State) (j : Nat) : State :=
  let x := s.estop j
  if s.testSlot j && s.loopLive (j / 2) then s.setEstop j { x with test := some s.ply, testBad := false }
  else match x.test with
    | some p => if p + 10 < s.ply then s.setEstop j { x with test := none } else s
    | none => s

/-- The samples of plies 4 and 5 of a test under way (R520). -/
def State.testSample (s : State) (j : Nat) : State :=
  let x := s.estop j
  match x.test with
  | none => s
  | some p =>
    let bad := x.testBad || bitOf s.rook.sns j
    if s.ply = p + 4 then s.setEstop j { x with testBad := bad }
    else if s.ply = p + 5 then (s.setEstop j { x with testBad := bad }).testDone j (!bad)
    else s

/-- Channel `j` in this ply: its test, or a counted sample (R519, R520). -/
def State.channelPly (s : State) (j : Nat) : State :=
  let s := s.testStart j
  if s.loopLive (j / 2) then
    (if s.underTest j then s.testSample j else s.estopSample j (s.readsClosed j))
  else s

/-- One channel of loop `n` is confirmed open and the other confirmed closed (R521). -/
def State.disagree (s : State) (n : Nat) : Bool :=
  let a := (s.estop (2 * n)).conf
  let b := (s.estop (2 * n + 1)).conf
  (a == 1 && b == 2) || (a == 2 && b == 1)

/-- DISCREPANCY of loop `n` after DISC × 10 ms (R521). -/
def State.discPly (s : State) (n : Nat) : State :=
  let s := s.withRook (fun r => { r with disc := heldSince r.disc n s.ply (s.loopLive n && s.disagree n) })
  if heldFor s.rook.disc n s.ply (s.get LOOP_CFG_DISC * 1000) then s.latchLoop n 2 else s

/-- A_CLOSED and B_CLOSED of loop `n` show the last samples. -/
def State.showLoop (s : State) (n : Nat) : State :=
  (s.putBit LOOP_STATUS_A_CLOSED n (s.getBit LOOP_CFG_EN n && s.readsClosed (2 * n))).putBit LOOP_STATUS_B_CLOSED n
    (s.getBit LOOP_CFG_EN n && s.readsClosed (2 * n + 1))

/-- RELAY_FB of relay `n` after FB_MS (R524). -/
def State.relayPly (s : State) (n : Nat) : State :=
  let s := s.withRook (fun r => { r with fbDiff := heldSince r.fbDiff n s.ply (s.energised n != s.getBit RELAY_STATUS_DRIVE n) })
  let s := s.putBit RELAY_STATUS_FB n (s.energised n)
  if heldFor s.rook.fbDiff n s.ply (s.get RELAY_CFG_FB_MS * 100) then s.latchRelay n else s

/-! ## Rook in one ply -/

/-- Rank 1: the watchdog's count, and its expiry (R110, R141, R513). -/
def State.wdogPly (s : State) (rwdog : Nat) : State :=
  if s.rookHeld ∨ !s.rook.wdogOn then s
  else
    let s := s.withRook (fun r => { r with wdog := r.wdog + rwdog })
    if s.get WDOG_CFG_TIMEOUT * 1024 ≤ s.rook.wdog then s.wdogExpire else s

/-- Rank 3: the loops, then the track engine's requests (R500, R516, R519 to R521). -/
def State.stopPly (s : State) (sns fb : Nat) : State :=
  if s.rookHeld then s
  else
    let s := s.withRook (fun r => { r with sns := sns, fb := fb })
    let s := (List.range 16).foldl State.channelPly s
    ((List.range 8).foldl State.showLoop s).rookReqs

/-- The requests of earlier plies evaluated in the order of arrival, RELEASE (false) and FAULT_CLEAR (true) (R142, R535,
R539). -/
def insertAsk (e : Bool × StopReq) : List (Bool × StopReq) → List (Bool × StopReq)
  | [] => [e]
  | g :: t => if e.2.n < g.2.n then e :: g :: t else g :: insertAsk e t

/-- RELEASE and FAULT_CLEAR requests of earlier plies, evaluated (R535, R539). -/
def State.asks (s : State) : State :=
  let due := fun (q : StopReq) => decide (q.ply < s.ply)
  let l : List (Bool × StopReq) := (s.rook.clear.filter due).foldl (fun l q => insertAsk (true, q) l)
    ((s.rook.release.filter due).map (fun q => (false, q)))
  let s := s.withRook (fun r => { r with release := r.release.filter (fun q => !due q), clear := r.clear.filter (fun q => !due q) })
  l.foldl (fun s e => if e.1 then s.evalClear e.2 else s.evalRelease e.2) s

/-- Rank 4: discrepancies, relay feedback, CLK_RWDOG, then the requests (R514, R521, R524, R535, R539). -/
def State.faultPly (s : State) (rwdog : Nat) : State :=
  if s.rookHeld then s
  else
    let s := (List.range 8).foldl State.discPly s
    let s := (List.range 4).foldl State.relayPly s
    let s := s.withRook (fun r => { r with rw0 := r.rw1, rw1 := rwdog })
    let s := if rwdogBad s.rook.rw0 && rwdogBad s.rook.rw1 then s.latchFault ROOK_FAULT_CLOCK 5 else s
    s.asks.relayRaise

/-! ## The ply -/

/-- Rank 1: a cold reset that an update asked for (R110, R669). -/
def State.coldPly (s : State) : State :=
  match s.boot.coldAt with
  | some p => if p ≤ s.ply then ({ s with boot := { s.boot with coldAt := none } }).assertSource 7 0 else s
  | none => s

/-- The local clock over the 8000 cycles of CLK_TIME in a ply (R137, R280). -/
def TimeState.plyTick (t : TimeState) (addend : Nat) : TimeState :=
  let v := t.fx + 8000 * addend
  { t with sec := (t.sec + v / (1000000000 * 2 ^ 29)) % 2 ^ 48, fx := v % (1000000000 * 2 ^ 29) }

/-- The ply ends: nothing of it is left for the next, and the clock goes on, with the addend of this ply, while PD_SYS is out of
reset. A reset in the ply that covers the ply counter leaves it at 0 (R106). -/
def State.plyEnd (addend : Nat) (s : State) : State :=
  let s := { s with cast := { s.cast with boundaryNow := false, strobeNow := false, freed := [] } }
  let s := if s.domOff 3 then s else { s with time := s.time.plyTick addend }
  { s with ply := if s.rst.held.contains .ply then s.ply else s.ply + 1 }

/-- PLY_RESOLUTION with the samples of the ply (R139): SNS of the 16 channels, FB of the four relays, the counts of CLK_RWDOG
and CLK_AON cycles; the UARTs whose CTS reads high; and the decision slots of the DRAM arbiters in which a request stood. The ranks follow R142; events with a command of their own have been taken
by it. What lands takes effect from the next ply on, so the clock runs through this one with the addend it began with (R140). While
the ply counter is held in reset there is no ply, and CLK_AON alone counts. Before the resolution point the ply takes one entry of
each register request under way (R192). -/
def execPlyResolution (sns fb rwdog aon : Nat) (ctsHigh : List Nat) (arb : List ArbSlot) (s : State) : Out :=
  fin (let addend := s.get TIME_ADDEND_ADDEND
    let s := s.aonPass aon
    if s.rst.held.contains .ply then s
    else
      let s := arb.foldl State.arbSlot s
      let s := ((s.regJobs.coldPly.wdogPly rwdog).stopPly sns fb).faultPly rwdog
      let s := [0, 1].foldl State.calPly s.readyAll.castlings.readyEval
      ((List.range 4).foldl (State.uartPly ctsHigh) s).srcTrack.plyEnd addend)

end Sys2Proof.Machine
end

