-- ==== Sys2Proof/Machine/Dispatch.lean ====
section
/-!
DEFINITION. One arm per command, in the order of spec/opcode_table.json: a direct call of its meaning.
-/

namespace Sys2Proof.Machine

def exec (i : Instr) (s : State) : Host.Outcome State Fault Refusal :=
  match i with
  | .aonPor mv cyc => Sys2Proof.Machine.execAonPor mv cyc s
  | .mainPor rail mv cyc => Sys2Proof.Machine.execMainPor rail mv cyc s
  | .brownout rail mv cyc => Sys2Proof.Machine.execBrownout rail mv cyc s
  | .testModeAssert cyc => Sys2Proof.Machine.execTestModeAssert cyc s
  | .thermalTrip celsius cyc => Sys2Proof.Machine.execThermalTrip celsius cyc s
  | .resetPin cyc => Sys2Proof.Machine.execResetPin cyc s
  | .warmPin cyc => Sys2Proof.Machine.execWarmPin cyc s
  | .resetSourceDeassert src mv celsius cyc => Sys2Proof.Machine.execResetSourceDeassert src mv celsius cyc s
  | .resetRelease => Sys2Proof.Machine.execResetRelease s
  | .trimLoadComplete misread cyc => Sys2Proof.Machine.execTrimLoadComplete misread cyc s
  | .strapSample conv => Sys2Proof.Machine.execStrapSample conv s
  | .rstCtrlSys ini data => Sys2Proof.Machine.execRstCtrlSys ini data s
  | .rstCtrlWarm ini data => Sys2Proof.Machine.execRstCtrlWarm ini data s
  | .rstCtrlCold ini data => Sys2Proof.Machine.execRstCtrlCold ini data s
  | .jtagResetRequest cyc => Sys2Proof.Machine.execJtagResetRequest cyc s
  | .appWdogExpiry => Sys2Proof.Machine.execAppWdogExpiry s
  | .mpWdogExpiry => Sys2Proof.Machine.execMpWdogExpiry s
  | .mpSwReset => Sys2Proof.Machine.execMpSwReset s
  | .syspllLock => Sys2Proof.Machine.execSyspllLock s
  | .syspllUnlock cyc => Sys2Proof.Machine.execSyspllUnlock cyc s
  | .netpllUnlock => Sys2Proof.Machine.execNetpllUnlock s
  | .netpllLockRetry locks => Sys2Proof.Machine.execNetpllLockRetry locks s
  | .pllHoldoverEntry pll => Sys2Proof.Machine.execPllHoldoverEntry pll s
  | .pllHoldoverExit pll edges => Sys2Proof.Machine.execPllHoldoverExit pll edges s
  | .refLost edges1 edges2 => Sys2Proof.Machine.execRefLost edges1 edges2 s
  | .refRestored => Sys2Proof.Machine.execRefRestored s
  | .refFreqCheck edges xtalOk => Sys2Proof.Machine.execRefFreqCheck edges xtalOk s
  | .pdCtrlWrite ini data => Sys2Proof.Machine.execPdCtrlWrite ini data s
  | .pdSwitchComplete => Sys2Proof.Machine.execPdSwitchComplete s
  | .nightGo ini data hot hotCrc => Sys2Proof.Machine.execNightGo ini data hot hotCrc s
  | .mainEnDrop => Sys2Proof.Machine.execMainEnDrop s
  | .nightMinHoldExpiry => Sys2Proof.Machine.execNightMinHoldExpiry s
  | .wakePin aon => Sys2Proof.Machine.execWakePin aon s
  | .wakeTimerExpiry => Sys2Proof.Machine.execWakeTimerExpiry s
  | .railWakeTimeout => Sys2Proof.Machine.execRailWakeTimeout s
  | .railWakeRetry => Sys2Proof.Machine.execRailWakeRetry s
  | .plyResolution sns fb rwdog aon ctsHigh arb => Sys2Proof.Machine.execPlyResolution sns fb rwdog aon ctsHigh arb s
  | .plyLoRead ini => Sys2Proof.Machine.execPlyLoRead ini s
  | .castOpen ini => Sys2Proof.Machine.execCastOpen ini s
  | .castStage ini id => Sys2Proof.Machine.execCastStage ini id s
  | .castCommit ini id cond => Sys2Proof.Machine.execCastCommit ini id cond s
  | .castAbort ini id => Sys2Proof.Machine.execCastAbort ini id s
  | .castlingLand => Sys2Proof.Machine.execCastlingLand s
  | .semTake ini n => Sys2Proof.Machine.execSemTake ini n s
  | .semRelease ini n => Sys2Proof.Machine.execSemRelease ini n s
  | .registerWrite ini addr data live => Sys2Proof.Machine.execRegisterWrite ini addr data live s
  | .lockBitSet ini addr data => Sys2Proof.Machine.execLockBitSet ini addr data s
  | .ecpFrameReceive spi port ip udp dst frag frame live sram readBack err => Sys2Proof.Machine.execEcpFrameReceive spi port ip udp dst frag frame live sram readBack err s
  | .spiWriteFrame bytes => Sys2Proof.Machine.execSpiWriteFrame bytes s
  | .spiReadStatus => Sys2Proof.Machine.execSpiReadStatus s
  | .spiReadFrame clocked => Sys2Proof.Machine.execSpiReadFrame clocked s
  | .nop sess tag pay => Sys2Proof.Machine.execNop sess tag pay s
  | .status sess tag => Sys2Proof.Machine.execStatus sess tag s
  | .sessionOpen sess tag pay => Sys2Proof.Machine.execSessionOpen sess tag pay s
  | .sessionClose sess tag => Sys2Proof.Machine.execSessionClose sess tag s
  | .sessionIdleTimeout sess => Sys2Proof.Machine.execSessionIdleTimeout sess s
  | .ecpReset sess tag => Sys2Proof.Machine.execEcpReset sess tag s
  | .hostSysAssert => Sys2Proof.Machine.execHostSysAssert s
  | .night sess tag => Sys2Proof.Machine.execNight sess tag s
  | .resultGet sess tag => Sys2Proof.Machine.execResultGet sess tag s
  | .tagRetire sess tag pay => Sys2Proof.Machine.execTagRetire sess tag pay s
  | .regRead sess tag pay live => Sys2Proof.Machine.execRegRead sess tag pay live s
  | .regWrite sess tag pay live => Sys2Proof.Machine.execRegWrite sess tag pay live s
  | .streamOpen sess tag pay => Sys2Proof.Machine.execStreamOpen sess tag pay s
  | .streamClose sess tag pay => Sys2Proof.Machine.execStreamClose sess tag pay s
  | .requestFinalResponse sess tag status pay => Sys2Proof.Machine.execRequestFinalResponse sess tag status pay s
  | .streamMessageLost sess stream => Sys2Proof.Machine.execStreamMessageLost sess stream s
  | .feLinkDown f clkLost => Sys2Proof.Machine.execFeLinkDown f clkLost s
  | .feLinkLocked f fifoLat => Sys2Proof.Machine.execFeLinkLocked f fifoLat s
  | .feStatusFrame f edges => Sys2Proof.Machine.execFeStatusFrame f edges s
  | .feCtlFrameApply f err => Sys2Proof.Machine.execFeCtlFrameApply f err s
  | .antWindowEnd f conv => Sys2Proof.Machine.execAntWindowEnd f conv s
  | .antBiasRetry f => Sys2Proof.Machine.execAntBiasRetry f s
  | .calSecond f l1 l5 => Sys2Proof.Machine.execCalSecond f l1 l5 s
  | .acqEntrySubmit ini n => Sys2Proof.Machine.execAcqEntrySubmit ini n s
  | .acqEntryCancel ini n => Sys2Proof.Machine.execAcqEntryCancel ini n s
  | .acqEntryClear ini n => Sys2Proof.Machine.execAcqEntryClear ini n s
  | .acqEntrySelect => Sys2Proof.Machine.execAcqEntrySelect s
  | .acqDwellEnd stats => Sys2Proof.Machine.execAcqDwellEnd stats s
  | .acqLinkWaitExpiry => Sys2Proof.Machine.execAcqLinkWaitExpiry s
  | .acqEngineDisable ini data => Sys2Proof.Machine.execAcqEngineDisable ini data s
  | .loopUpdate ch late acc secMism => Sys2Proof.Machine.execLoopUpdate ch late acc secMism s
  | .chStart ini ch => Sys2Proof.Machine.execChStart ini ch s
  | .chStop ini ch => Sys2Proof.Machine.execChStop ini ch s
  | .pullInPllOn ch => Sys2Proof.Machine.execPullInPllOn ch s
  | .pullInTimeout ch => Sys2Proof.Machine.execPullInTimeout ch s
  | .cn0LossTimeout ch => Sys2Proof.Machine.execCn0LossTimeout ch s
  | .epochStrobe rxOff latch eph => Sys2Proof.Machine.execEpochStrobe rxOff latch eph s
  | .obsFormDeadline unformed => Sys2Proof.Machine.execObsFormDeadline unformed s
  | .obsRecordPublish sol => Sys2Proof.Machine.execObsRecordPublish sol s
  | .navUnitDecode ch kind check txMs inverted tow polarity utc payload => Sys2Proof.Machine.execNavUnitDecode ch kind check txMs inverted tow polarity utc payload s
  | .obsGet sess tag pay => Sys2Proof.Machine.execObsGet sess tag pay s
  | .navGet sess tag pay => Sys2Proof.Machine.execNavGet sess tag pay s
  | .signalsSet sess tag pay => Sys2Proof.Machine.execSignalsSet sess tag pay s
  | .rtcmSet sess tag pay => Sys2Proof.Machine.execRtcmSet sess tag pay s
  | .refSelection e0 uF freq => Sys2Proof.Machine.execRefSelection e0 uF freq s
  | .domainOffsetSample d off pred gmChanged e0 uF freq => Sys2Proof.Machine.execDomainOffsetSample d off pred gmChanged e0 uF freq s
  | .domainFaultRecovery d => Sys2Proof.Machine.execDomainFaultRecovery d s
  | .domainTracking d => Sys2Proof.Machine.execDomainTracking d s
  | .ptpForeignMaster port => Sys2Proof.Machine.execPtpForeignMaster port s
  | .stepAnnounce => Sys2Proof.Machine.execStepAnnounce s
  | .stepLand => Sys2Proof.Machine.execStepLand s
  | .stepCtrlArm ini data => Sys2Proof.Machine.execStepCtrlArm ini data s
  | .stepCtrlAccept ini data => Sys2Proof.Machine.execStepCtrlAccept ini data s
  | .timeGet sess tag => Sys2Proof.Machine.execTimeGet sess tag s
  | .timeStep sess tag pay => Sys2Proof.Machine.execTimeStep sess tag pay s
  | .ptpSet sess tag pay => Sys2Proof.Machine.execPtpSet sess tag pay s
  | .leapFlagSet => Sys2Proof.Machine.execLeapFlagSet s
  | .leapFlagClear => Sys2Proof.Machine.execLeapFlagClear s
  | .ppsOutEdge n => Sys2Proof.Machine.execPpsOutEdge n s
  | .ppsInEdge dt => Sys2Proof.Machine.execPpsInEdge dt s
  | .ethFrameReceive p dt bytes => Sys2Proof.Machine.execEthFrameReceive p dt bytes s
  | .ethFrameTransmit p dt id reqAt bytes => Sys2Proof.Machine.execEthFrameTransmit p dt id reqAt bytes s
  | .txtsRead ini p => Sys2Proof.Machine.execTxtsRead ini p s
  | .applyRef ini data => Sys2Proof.Machine.execApplyRef ini data s
  | .applyOrg ini data => Sys2Proof.Machine.execApplyOrg ini data s
  | .fixSolveStart => Sys2Proof.Machine.execFixSolveStart s
  | .fixSolveComplete dt => Sys2Proof.Machine.execFixSolveComplete dt s
  | .baseMissingDecision => Sys2Proof.Machine.execBaseMissingDecision s
  | .ifbAgeExpiry => Sys2Proof.Machine.execIfbAgeExpiry s
  | .uplinkSlotEnd addr => Sys2Proof.Machine.execUplinkSlotEnd addr s
  | .solGet sess tag pay => Sys2Proof.Machine.execSolGet sess tag pay s
  | .prioSet sess tag pay => Sys2Proof.Machine.execPrioSet sess tag pay s
  | .filterReset sess tag pay => Sys2Proof.Machine.execFilterReset sess tag pay s
  | .superframeBoundary => Sys2Proof.Machine.execSuperframeBoundary s
  | .cutOffC1 => Sys2Proof.Machine.execCutOffC1 s
  | .cutOffC2 => Sys2Proof.Machine.execCutOffC2 s
  | .laneEnable ini n data => Sys2Proof.Machine.execLaneEnable ini n data s
  | .laneDisable ini n data => Sys2Proof.Machine.execLaneDisable ini n data s
  | .laneLinkLocked n => Sys2Proof.Machine.execLaneLinkLocked n s
  | .laneLinkLost n clkLost => Sys2Proof.Machine.execLaneLinkLost n clkLost s
  | .laneStatusFrame n words => Sys2Proof.Machine.execLaneStatusFrame n words s
  | .laneCapsCheck n => Sys2Proof.Machine.execLaneCapsCheck n s
  | .trxControlApply n err => Sys2Proof.Machine.execTrxControlApply n err s
  | .laneFrameDecision n slot iv => Sys2Proof.Machine.execLaneFrameDecision n slot iv s
  | .budgetBucketRoll m => Sys2Proof.Machine.execBudgetBucketRoll m s
  | .accountEnable ini m data => Sys2Proof.Machine.execAccountEnable ini m data s
  | .accountDisable ini m data => Sys2Proof.Machine.execAccountDisable ini m data s
  | .airFrameReceive n syncErr psdu rssi cfo iqG iqP => Sys2Proof.Machine.execAirFrameReceive n syncErr psdu rssi cfo iqG iqP s
  | .hopCompute sub => Sys2Proof.Machine.execHopCompute sub s
  | .hopApply ini data => Sys2Proof.Machine.execHopApply ini data s
  | .uplinkReceive => Sys2Proof.Machine.execUplinkReceive s
  | .assocReqReceive => Sys2Proof.Machine.execAssocReqReceive s
  | .offerLapse a => Sys2Proof.Machine.execOfferLapse a s
  | .memberSilenceTimeout a => Sys2Proof.Machine.execMemberSilenceTimeout a s
  | .slotOwnerWrite ini b n q data => Sys2Proof.Machine.execSlotOwnerWrite ini b n q data s
  | .flockWrite ini f w data => Sys2Proof.Machine.execFlockWrite ini f w data s
  | .netForm sess tag => Sys2Proof.Machine.execNetForm sess tag s
  | .memberGet sess tag pay => Sys2Proof.Machine.execMemberGet sess tag pay s
  | .memberRelease sess tag pay => Sys2Proof.Machine.execMemberRelease sess tag pay s
  | .flockSet sess tag pay => Sys2Proof.Machine.execFlockSet sess tag pay s
  | .slotSet sess tag pay => Sys2Proof.Machine.execSlotSet sess tag pay s
  | .memberAssocAttempt m k lane draw eui caps joinKey gnss => Sys2Proof.Machine.execMemberAssocAttempt m k lane draw eui caps joinKey gnss s
  | .memberAssocResponse m k slot t mpdu => Sys2Proof.Machine.execMemberAssocResponse m k slot t mpdu s
  | .memberJoinTimeout m t => Sys2Proof.Machine.execMemberJoinTimeout m t s
  | .memberBellwetherReceive m k slot t mpdu => Sys2Proof.Machine.execMemberBellwetherReceive m k slot t mpdu s
  | .memberGuardCap m t => Sys2Proof.Machine.execMemberGuardCap m t s
  | .memberBeaconTimeout m t => Sys2Proof.Machine.execMemberBeaconTimeout m t s
  | .memberDigestReceive m k slot t mpdu => Sys2Proof.Machine.execMemberDigestReceive m k slot t mpdu s
  | .memberOrderEnd m k event result data => Sys2Proof.Machine.execMemberOrderEnd m k event result data s
  | .memberWindowExhausted m t => Sys2Proof.Machine.execMemberWindowExhausted m t s
  | .memberStopFrameReceive m k slot iv t mpdu => Sys2Proof.Machine.execMemberStopFrameReceive m k slot iv t mpdu s
  | .memberSseqResync m t => Sys2Proof.Machine.execMemberSseqResync m t s
  | .memberHopTargetMissed m k => Sys2Proof.Machine.execMemberHopTargetMissed m k s
  | .memberUplinkSend m k slot t gnss cor => Sys2Proof.Machine.execMemberUplinkSend m k slot t gnss cor s
  | .memberClaimLapse m src t => Sys2Proof.Machine.execMemberClaimLapse m src t s
  | .memberDockConfirm m closed ms => Sys2Proof.Machine.execMemberDockConfirm m closed ms s
  | .dispSubmit ini => Sys2Proof.Machine.execDispSubmit ini s
  | .dispSubmitStallExpiry ini => Sys2Proof.Machine.execDispSubmitStallExpiry ini s
  | .taskSubmit sess tag pay => Sys2Proof.Machine.execTaskSubmit sess tag pay s
  | .dispCancel ini id => Sys2Proof.Machine.execDispCancel ini id s
  | .taskCancel sess tag pay => Sys2Proof.Machine.execTaskCancel sess tag pay s
  | .taskGet sess tag pay => Sys2Proof.Machine.execTaskGet sess tag pay s
  | .taskReady => Sys2Proof.Machine.execTaskReady s
  | .dispTake ini c => Sys2Proof.Machine.execDispTake ini c s
  | .dispDone ini c data => Sys2Proof.Machine.execDispDone ini c data s
  | .taskLapse ix => Sys2Proof.Machine.execTaskLapse ix s
  | .trackLoad sess tag pay => Sys2Proof.Machine.execTrackLoad sess tag pay s
  | .trackSeal sess tag pay => Sys2Proof.Machine.execTrackSeal sess tag pay s
  | .trackFree sess tag pay => Sys2Proof.Machine.execTrackFree sess tag pay s
  | .move sess tag pay => Sys2Proof.Machine.execMove sess tag pay s
  | .halt sess tag pay => Sys2Proof.Machine.execHalt sess tag pay s
  | .chanRelease sess tag pay => Sys2Proof.Machine.execChanRelease sess tag pay s
  | .gearEngage sess tag pay => Sys2Proof.Machine.execGearEngage sess tag pay s
  | .gearDisengage sess tag pay => Sys2Proof.Machine.execGearDisengage sess tag pay s
  | .profileRestReached a => Sys2Proof.Machine.execProfileRestReached a s
  | .dockInputConfirm k l1 l2 l3 => Sys2Proof.Machine.execDockInputConfirm k l1 l2 l3 s
  | .estopLoopOpen j => Sys2Proof.Machine.execEstopLoopOpen j s
  | .loopTestPulse j sns => Sys2Proof.Machine.execLoopTestPulse j sns s
  | .loopDiscrepancy n => Sys2Proof.Machine.execLoopDiscrepancy n s
  | .relayFbMismatch n => Sys2Proof.Machine.execRelayFbMismatch n s
  | .rookSramUe mem bits => Sys2Proof.Machine.execRookSramUe mem bits s
  | .rookClockFault count => Sys2Proof.Machine.execRookClockFault count s
  | .lockstepMismatch => Sys2Proof.Machine.execLockstepMismatch s
  | .wdogSvcWrite ini data => Sys2Proof.Machine.execWdogSvcWrite ini data s
  | .rookWdogExpiry cycles => Sys2Proof.Machine.execRookWdogExpiry cycles s
  | .stopPortStop ini data => Sys2Proof.Machine.execStopPortStop ini data s
  | .stopPortHold ini data => Sys2Proof.Machine.execStopPortHold ini data s
  | .stopPortResume ini data => Sys2Proof.Machine.execStopPortResume ini data s
  | .stopPortRelease ini data => Sys2Proof.Machine.execStopPortRelease ini data s
  | .stopPortFaultClear ini data => Sys2Proof.Machine.execStopPortFaultClear ini data s
  | .releaseEvaluation => Sys2Proof.Machine.execReleaseEvaluation s
  | .faultClearEvaluation => Sys2Proof.Machine.execFaultClearEvaluation s
  | .relayRaise => Sys2Proof.Machine.execRelayRaise s
  | .rookFaultWrite ini data => Sys2Proof.Machine.execRookFaultWrite ini data s
  | .stop sess tag pay => Sys2Proof.Machine.execStop sess tag pay s
  | .stopRelease sess tag pay => Sys2Proof.Machine.execStopRelease sess tag pay s
  | .hold sess tag pay => Sys2Proof.Machine.execHold sess tag pay s
  | .resume sess tag pay => Sys2Proof.Machine.execResume sess tag pay s
  | .stopStatus sess tag => Sys2Proof.Machine.execStopStatus sess tag s
  | .faultClear sess tag => Sys2Proof.Machine.execFaultClear sess tag s
  | .pairEnable ini data => Sys2Proof.Machine.execPairEnable ini data s
  | .heartbeatSend => Sys2Proof.Machine.execHeartbeatSend s
  | .heartbeatReceive m => Sys2Proof.Machine.execHeartbeatReceive m s
  | .heartbeatLost => Sys2Proof.Machine.execHeartbeatLost s
  | .safetyReceive m => Sys2Proof.Machine.execSafetyReceive m s
  | .safetyAckReceive m => Sys2Proof.Machine.execSafetyAckReceive m s
  | .safetyRepeat j => Sys2Proof.Machine.execSafetyRepeat j s
  | .ckptDataReceive m => Sys2Proof.Machine.execCkptDataReceive m s
  | .ckptEndReceive m => Sys2Proof.Machine.execCkptEndReceive m s
  | .standbyReadyTimeout => Sys2Proof.Machine.execStandbyReadyTimeout s
  | .startupListenExpiry => Sys2Proof.Machine.execStartupListenExpiry s
  | .secondaryWaitExpiry => Sys2Proof.Machine.execSecondaryWaitExpiry s
  | .takeoverDetect => Sys2Proof.Machine.execTakeoverDetect s
  | .checkpointLoadComplete ok => Sys2Proof.Machine.execCheckpointLoadComplete ok s
  | .pairHandover sess tag pay => Sys2Proof.Machine.execPairHandover sess tag pay s
  | .handoverReceive m => Sys2Proof.Machine.execHandoverReceive m s
  | .handoverAckReceive m => Sys2Proof.Machine.execHandoverAckReceive m s
  | .drillDayCount => Sys2Proof.Machine.execDrillDayCount s
  | .pairGet sess tag => Sys2Proof.Machine.execPairGet sess tag s
  | .keyInfo sess tag pay => Sys2Proof.Machine.execKeyInfo sess tag pay s
  | .keyGenerate sess tag pay => Sys2Proof.Machine.execKeyGenerate sess tag pay s
  | .keyDerive sess tag pay => Sys2Proof.Machine.execKeyDerive sess tag pay s
  | .keyWrapImport sess tag pay => Sys2Proof.Machine.execKeyWrapImport sess tag pay s
  | .keyImportClear ini k typ use key => Sys2Proof.Machine.execKeyImportClear ini k typ use key s
  | .keyInvalidate sess tag pay => Sys2Proof.Machine.execKeyInvalidate sess tag pay s
  | .keyAttest sess tag pay => Sys2Proof.Machine.execKeyAttest sess tag pay s
  | .keyCert sess tag pay => Sys2Proof.Machine.execKeyCert sess tag pay s
  | .keyPublic sess tag pay => Sys2Proof.Machine.execKeyPublic sess tag pay s
  | .trngHealthFail ok => Sys2Proof.Machine.execTrngHealthFail ok s
  | .tamperConfirm c vals busy => Sys2Proof.Machine.execTamperConfirm c vals busy s
  | .tamperClear ini data live => Sys2Proof.Machine.execTamperClear ini data live s
  | .tamperGet sess tag => Sys2Proof.Machine.execTamperGet sess tag s
  | .recordSubmit code source payload => Sys2Proof.Machine.execRecordSubmit code source payload s
  | .recordWrite bad bits => Sys2Proof.Machine.execRecordWrite bad bits s
  | .recRetest ini data => Sys2Proof.Machine.execRecRetest ini data s
  | .recRetestComplete pass => Sys2Proof.Machine.execRecRetestComplete pass s
  | .recRestoreWrite ini data => Sys2Proof.Machine.execRecRestoreWrite ini data s
  | .anchorWrite => Sys2Proof.Machine.execAnchorWrite s
  | .hoursFuseStep cycle => Sys2Proof.Machine.execHoursFuseStep cycle s
  | .recCursorStep ini => Sys2Proof.Machine.execRecCursorStep ini s
  | .recRead sess tag pay err => Sys2Proof.Machine.execRecRead sess tag pay err s
  | .recStatus sess tag => Sys2Proof.Machine.execRecStatus sess tag s
  | .mpCopyReceive => Sys2Proof.Machine.execMpCopyReceive s
  | .mpProcessCutoff => Sys2Proof.Machine.execMpProcessCutoff s
  | .mpAddressEvent => Sys2Proof.Machine.execMpAddressEvent s
  | .sealConfirm l1 l2 l3 => Sys2Proof.Machine.execSealConfirm l1 l2 l3 s
  | .metIdent sess tag sram => Sys2Proof.Machine.execMetIdent sess tag sram s
  | .metRead sess tag pay => Sys2Proof.Machine.execMetRead sess tag pay s
  | .metParamSet sess tag pay readBack => Sys2Proof.Machine.execMetParamSet sess tag pay readBack s
  | .metAuditRead sess tag pay => Sys2Proof.Machine.execMetAuditRead sess tag pay s
  | .dramTrainingComplete c ok => Sys2Proof.Machine.execDramTrainingComplete c ok s
  | .scrubRead c err word => Sys2Proof.Machine.execScrubRead c err word s
  | .scrubSweepEnd c => Sys2Proof.Machine.execScrubSweepEnd c s
  | .scrubLate c => Sys2Proof.Machine.execScrubLate c s
  | .arbStarve c slot => Sys2Proof.Machine.execArbStarve c slot s
  | .crcTakeWrite ini k => Sys2Proof.Machine.execCrcTakeWrite ini k s
  | .crcReleaseWrite ini k => Sys2Proof.Machine.execCrcReleaseWrite ini k s
  | .crcClear ini k => Sys2Proof.Machine.execCrcClear ini k s
  | .crcFeedWrite ini k byte data => Sys2Proof.Machine.execCrcFeedWrite ini k byte data s
  | .crcStateRestore ini k high data => Sys2Proof.Machine.execCrcStateRestore ini k high data s
  | .crcScanGo ini k => Sys2Proof.Machine.execCrcScanGo ini k s
  | .crcScanEnd k cause addr bytes => Sys2Proof.Machine.execCrcScanEnd k cause addr bytes s
  | .crcSnoopFrame k bytes => Sys2Proof.Machine.execCrcSnoopFrame k bytes s
  | .crcTake sess tag pay => Sys2Proof.Machine.execCrcTake sess tag pay s
  | .crcConfig sess tag pay => Sys2Proof.Machine.execCrcConfig sess tag pay s
  | .crcFeed sess tag pay => Sys2Proof.Machine.execCrcFeed sess tag pay s
  | .crcScan sess tag pay => Sys2Proof.Machine.execCrcScan sess tag pay s
  | .crcGet sess tag pay => Sys2Proof.Machine.execCrcGet sess tag pay s
  | .crcRelease sess tag pay => Sys2Proof.Machine.execCrcRelease sess tag pay s
  | .uartRxByte k byte flags => Sys2Proof.Machine.execUartRxByte k byte flags s
  | .uartDataWrite ini k byte => Sys2Proof.Machine.execUartDataWrite ini k byte s
  | .uartDataRead ini k => Sys2Proof.Machine.execUartDataRead ini k s
  | .uartMonitorTake mon => Sys2Proof.Machine.execUartMonitorTake mon s
  | .uartMonitorRelease => Sys2Proof.Machine.execUartMonitorRelease s
  | .i2cGo ini k data => Sys2Proof.Machine.execI2cGo ini k data s
  | .i2cTransactionEnd k result count rx => Sys2Proof.Machine.execI2cTransactionEnd k result count rx s
  | .canFrameReceive k ide fdf brs id dlc data => Sys2Proof.Machine.execCanFrameReceive k ide fdf brs id dlc data s
  | .canRxPop ini k => Sys2Proof.Machine.execCanRxPop ini k s
  | .canTxGo ini k b => Sys2Proof.Machine.execCanTxGo ini k b s
  | .canTxAbort ini k b onBus => Sys2Proof.Machine.execCanTxAbort ini k b onBus s
  | .canTxComplete k b gos => Sys2Proof.Machine.execCanTxComplete k b gos s
  | .canBusOff k rec tec => Sys2Proof.Machine.execCanBusOff k rec tec s
  | .canBusOffRecovery k seen => Sys2Proof.Machine.execCanBusOffRecovery k seen s
  | .adcThresholdEntry n high codes => Sys2Proof.Machine.execAdcThresholdEntry n high codes s
  | .adcThresholdExit n high codes => Sys2Proof.Machine.execAdcThresholdExit n high codes s
  | .mdioGo ini data => Sys2Proof.Machine.execMdioGo ini data s
  | .mdioComplete rdata => Sys2Proof.Machine.execMdioComplete rdata s
  | .cableDiagGo ini data profile => Sys2Proof.Machine.execCableDiagGo ini data profile s
  | .cableLinkDownExpiry p profile => Sys2Proof.Machine.execCableLinkDownExpiry p profile s
  | .cableDiagComplete st len => Sys2Proof.Machine.execCableDiagComplete st len s
  | .bootRomStart => Sys2Proof.Machine.execBootRomStart s
  | .mainFirmwareStart alm moved sky => Sys2Proof.Machine.execMainFirmwareStart alm moved sky s
  | .componentLoad typ => Sys2Proof.Machine.execComponentLoad typ s
  | .updBegin sess tag pay => Sys2Proof.Machine.execUpdBegin sess tag pay s
  | .updData sess tag pay => Sys2Proof.Machine.execUpdData sess tag pay s
  | .updEnd sess tag pay => Sys2Proof.Machine.execUpdEnd sess tag pay s
  | .updActivate sess tag => Sys2Proof.Machine.execUpdActivate sess tag s
  | .updConfirm sess tag => Sys2Proof.Machine.execUpdConfirm sess tag s
  | .updStatus sess tag => Sys2Proof.Machine.execUpdStatus sess tag s
  | .recoveryHello pkt => Sys2Proof.Machine.execRecoveryHello pkt s
  | .recoveryWrite pkt => Sys2Proof.Machine.execRecoveryWrite pkt s
  | .recoveryVerify pkt => Sys2Proof.Machine.execRecoveryVerify pkt s
  | .recoveryCommit pkt => Sys2Proof.Machine.execRecoveryCommit pkt s
  | .recoveryReset pkt => Sys2Proof.Machine.execRecoveryReset pkt s
  | .monInfo => Sys2Proof.Machine.execMonInfo s
  | .monOpen => Sys2Proof.Machine.execMonOpen s
  | .monResp pub sig minutes => Sys2Proof.Machine.execMonResp pub sig minutes s
  | .monRecover => Sys2Proof.Machine.execMonRecover s
  | .monClose => Sys2Proof.Machine.execMonClose s
  | .monRd addr live => Sys2Proof.Machine.execMonRd addr live s
  | .monWr addr data => Sys2Proof.Machine.execMonWr addr data s
  | .monLog seq count => Sys2Proof.Machine.execMonLog seq count s
  | .monKeyimport k typ use key => Sys2Proof.Machine.execMonKeyimport k typ use key s
  | .monTamperclr live => Sys2Proof.Machine.execMonTamperclr live s
  | .monReset => Sys2Proof.Machine.execMonReset s
  | .monOpenExpiry => Sys2Proof.Machine.execMonOpenExpiry s
  | .monIdleRelease => Sys2Proof.Machine.execMonIdleRelease s
  | .monBreakTake ms => Sys2Proof.Machine.execMonBreakTake ms s
  | .pllPullRangeEdge pll => Sys2Proof.Machine.execPllPullRangeEdge pll s
  | .ethLinkChange p up speed => Sys2Proof.Machine.execEthLinkChange p up speed s
  | .unrecoverableFault core => Sys2Proof.Machine.execUnrecoverableFault core s
  | .canErrorPassive k rec tec => Sys2Proof.Machine.execCanErrorPassive k rec tec s
  | .registerRead ini addr live => Sys2Proof.Machine.execRegisterRead ini addr live s

end Sys2Proof.Machine
end

