-- ==== Sys2Proof/Safety.lean ====
section
/-!
DEFINITION. What counts as a safe run, and the vocabulary of the statements about commands: that a command completes, which
parts of the state it may touch, what a reset source does, and what an accepted ECP request is answered with.
-/

namespace Sys2Proof.Machine

open R

/-- The stop state is in force (R509): every relay is down whenever it is (R523). -/
def State.stopSafe (s : State) : Bool := !s.bit ROOK_STATE_STOP || s.get RELAY_STATUS_DRIVE == 0

/-- The command completes from `s`, and its next state has the property. -/
def Does (c : Instr) (s : State) (P : State → Prop) : Prop := ∃ t, exec c s = .next t ∧ P t

/-- No register field but those listed differs between two states. -/
def RegsBut (l : List Fld) (s t : State) : Prop := ∀ f : Fld, (∀ g ∈ l, g.key ≠ f.key) → t.get f = s.get f

/-- Nothing but registers differs. -/
def OnlyRegs (s t : State) : Prop := t = { s with regs := t.regs }

/-- Nothing but registers and the event recorder differs. -/
def OnlyRegsEvr (s t : State) : Prop := t = { s with regs := t.regs, evr := t.evr }

/-- The fields hold the values listed. -/
abbrev Reads (t : State) (l : List (Fld × Nat)) : Prop := l.all (fun e => t.get e.1 == e.2) = true

/-- A counter's value after it advances by `n`, stopping at its maximum. -/
abbrev State.adv (s : State) (f : Fld) (n : Nat := 1) : Nat := min (s.get f + n) (2 ^ f.w - 1)

/-! ## Reset sources (R104, R110, R113, R120) -/

/-- A source is asserted and every part of its reach is held in reset. -/
abbrev Asserted (src : Nat) (t : State) : Prop :=
  t.rst.asserted.contains src = true ∧ (reachOf src).parts.all (fun p => t.rst.held.contains p) = true

/-- What asserting a source leaves: what was asserted and held; the queue, the outputs; the flash, the audit trail
and the fuses, the members and the parts outside the device; and, unless the reach covers it, PD_AON. -/
def AssertFrame (src : Nat) (s t : State) : Prop :=
  (∀ x ∈ s.rst.asserted, x ∈ t.rst.asserted) ∧ (∀ p ∈ s.rst.held, p ∈ t.rst.held) ∧
  t.pending = s.pending ∧ t.out = s.out ∧ t.flash = s.flash ∧ t.audit = s.audit ∧
  t.memDevs = s.memDevs ∧ t.trx = s.trx ∧ t.feExt = s.feExt ∧
  (Part.aon ∉ (reachOf src).parts → ∀ f : Fld, regPart f.key = .aon → t.get f = s.get f)

/-- A write access that is judged to be in order (R680), made by another initiator than Rook. -/
abbrev MayWrite (s : State) (ini a : Nat) : Prop := ini ≠ 0x30 ∧ s.judge ini a true = .ok

/-- A read access that is judged to be in order (R680). -/
abbrev MayRead (s : State) (ini a : Nat) : Prop := s.judge ini a false = .ok

/-! ## Stops (R505, R515 to R518, R523, R525) -/

/-- Stop source `src` is confirmed: the stop state is in force with that source latched and every relay down. An entry counts, notes
its ply, makes the stop-all frame due on every lane and holds every running channel; a source found in force starts nothing again. -/
abbrev StopOn (src : Nat) (s t : State) : Prop :=
  Reads t [(ROOK_STATE_STOP, 1), (RELAY_STATUS_DRIVE, 0)] ∧ t.getBit ROOK_STATE_SRC_LATCHED src = true ∧
  (if s.stopped then Reads t [(ROOK_CNT_STOP_EVENTS, s.get ROOK_CNT_STOP_EVENTS), (STOP_PLY_LO_PLY, s.get STOP_PLY_LO_PLY)] ∧ t.rook.rep = s.rook.rep
   else Reads t [(ROOK_CNT_STOP_EVENTS, s.adv ROOK_CNT_STOP_EVENTS), (STOP_PLY_LO_PLY, s.ply % 2 ^ 32), (STOP_PLY_HI_PLY, s.ply / 2 ^ 32)] ∧
     t.rook.rep = s.stopAllLeft ∧ allAddrs.all (fun a => s.pchState a == 0 || s.pchState a == 7 || (t.pchState a == 6 && t.get (PCH_W5_REASON a) == 6)) = true)

/-- No channel runs, and Rook owns no castling, semaphore or CRC channel (R160, R505). -/
abbrev State.calm (s : State) : Prop :=
  (∀ a ∈ allAddrs, s.pchState a = 0 ∨ s.pchState a = 7) ∧ ownerReset 0x30 s = s

/-- The registers that an entry into the stop state may write on a calm device: the stop state, the state of each gearing pair, and
the count of orphaned keys, which the announcement may find. -/
def stopRegs : List Fld :=
  [ROOK_STATE_STOP, ROOK_STATE_SRC_LATCHED, STOP_PLY_LO_PLY, STOP_PLY_HI_PLY, RELAY_STATUS_DRIVE, ROOK_CNT_STOP_EVENTS, KS_CNT_ORPHAN_ABORTS] ++
    (List.range 64).map GEAR_W0_STATE

/-- What a confirmed stop source leaves beside the registers `l`: time, observations, fixes, resets, members and the recorder's ring;
on a calm device all but Rook, the pair link's announcement and, where `ev` says so, the recorder's queue. -/
def StopKeeps (l : List Fld) (ev : Bool) (s t : State) : Prop :=
  (t.time = s.time ∧ t.gnss = s.gnss ∧ t.fix = s.fix ∧ t.rst = s.rst ∧ t.memDevs = s.memDevs ∧ t.flash = s.flash) ∧
  (s.calm → (ev = true ∨ t.evr = s.evr) ∧ RegsBut (l ++ stopRegs) s t ∧
    t = { s with regs := t.regs, rook := t.rook, pair := t.pair, out := t.out, freeCtr := t.freeCtr, evr := t.evr })

/-! ## Registers that a write only stores to, and a read only shows -/

/-- Registers whose writes do more than store, or whose stores bring more, by number. -/
def actRegs : List Nat :=
  [2, 4, 9, 15, 25, 39, 47, 55, 60, 61, 62, 63, 66, 67, 96, 108, 139, 161, 168, 175, 176, 177, 178, 179, 187, 192, 193, 204, 205, 211, 219, 220,
   227, 228, 229, 230, 231, 232, 233, 234, 243, 246, 247, 249, 253, 261, 282, 283, 289, 296, 304, 313, 324, 325, 326, 327, 328, 329,
   330, 331, 332, 337, 338, 339, 340, 341, 342, 343, 346, 348, 351, 362, 366, 376, 379]

/-- Registers whose reads do more than show their fields, or show more, by number. -/
def showRegs : List Nat :=
  [12, 13, 14, 22, 34, 35, 85, 86, 101, 102, 103, 104, 132, 187, 193, 199, 209, 212, 213, 215, 240, 241, 242, 245, 258, 259, 271, 275, 290,
   291, 318, 319, 320, 321, 331, 332, 346, 374, 384, 386, 387, 388]

/-- The write of a whole word to a register that nothing refuses: its key, where it has one, its encodings (R15, R684). -/
def State.wordTaken (s : State) (r : RegRow) (i j w mask : Nat) : Bool :=
  (match keyOf r.id with | some k => bits w 31 16 == k | none => true) && !s.wordReserved r.id i w mask &&
  (r.flds i j).all (fun f => f.acc == .ro || f.acc == .rc || s.locked r.id i f || !fldReserved w mask f)

/-- The registers that show the oldest received frame of a CAN controller (R647). -/
def canWin (k : Nat) : List Fld :=
  [CAN_STATUS_RX_USED k, CAN_RX_W0_IDE k, CAN_RX_W0_FDF k, CAN_RX_W0_BRS k, CAN_RX_W0_ID k, CAN_RX_W1_FILTER k, CAN_RX_W1_DLC k,
    CAN_RX_W1_LEN k, CAN_RX_W2_PLY k] ++ (List.range 16).map (CAN_RX_D_DATA k)

/-- The window of a CAN controller shows the oldest of the frames `l`, or zeros where there is none (R647). -/
def canShows (t : State) (k : Nat) (l : List (CanFrame × Nat × Nat)) : Bool :=
  let e := l.headD (⟨0, 0, 0, 0, 0, []⟩, 0, 0)
  [(CAN_RX_W0_IDE k, e.1.ide), (CAN_RX_W0_FDF k, e.1.fdf), (CAN_RX_W0_BRS k, e.1.brs), (CAN_RX_W0_ID k, e.1.id), (CAN_RX_W1_FILTER k, e.2.1),
    (CAN_RX_W1_DLC k, e.1.dlc), (CAN_RX_W1_LEN k, e.1.data.length), (CAN_RX_W2_PLY k, e.2.2)].all (fun x => t.get x.1 == x.2 % 2 ^ x.1.w) &&
  (List.range 16).all (fun w => t.get (CAN_RX_D_DATA k w) == leAt e.1.data (4 * w) 4)

/-! ## ECP requests (R172 to R190) -/

/-- A request of an open session passes steps 7 to 10 of R182, and its answer can be sent: the session is authenticated where that
is asked for, the TAG is free, the in-progress limits have room, the unit is active where the opcode needs the work layer, the
SEQUENCE of the session is not used up (R181), its key is in use (R584) and the SPI queue has room (R177). -/
def State.accepts (s : State) (op id tag : Nat) (work : Bool) : Bool :=
  match s.session id with
  | none => false
  | some x =>
    !(s.bit ECP_CTRL_AUTH_REQ && !x.auth && !(op == 0x0100 || op == 0x0101 || op == 0x0102)) &&
    !x.inProg.any (fun y => y.tag == tag) && !x.held.any (fun y => y.tag == tag) &&
    decide (x.inProg.length < 64) && decide (s.inProgAll < 256) &&
    (!work || (s.bit PAIR_STATUS_ACTIVE && !s.pair.frozen)) &&
    decide (x.devSeq < 0xFFFFFFFF) && s.sessSends x && (id != 8 || decide (s.ecp.spiOut.length < 16))

/-- An answer in a session can be sent: its SEQUENCE is not used up (R181), its key is in use (R584) and the SPI queue has room (R177). -/
def State.room (s : State) (id : Nat) : Bool :=
  match s.session id with
  | none => false
  | some x => decide (x.devSeq < 0xFFFFFFFF) && s.sessSends x && (id != 8 || decide (s.ecp.spiOut.length < 16))

/-- The session after the final answer to a request, `n` frames later: the result held under its TAG where R183 and R185 say so, nothing
else but its streams and the time of its last frame touched. -/
def answeredSession (x y : EcpSession) (n op tag status crc : Nat) (pl : List Nat) : Bool :=
  let held := if unheldOp op || !heldStatus status then x.held else (holdResult x ⟨tag, op, crc, status, pl, true⟩).held
  decide (y = { x with devSeq := x.devSeq + n, held := held, streams := y.streams, lastAt := y.lastAt })

/-- Nothing of the ECP unit but session `id` and the outgoing queue of the SPI port differs, and perhaps the RESET that waits. -/
def onlySession (s t : State) (id : Nat) : Bool :=
  decide (t.ecp = { s.ecp with sessions := t.ecp.sessions, spiOut := t.ecp.spiOut, resetPending := t.ecp.resetPending }) &&
  decide (t.ecp.sessions.filter (fun z => z.id ≠ id) = s.ecp.sessions.filter (fun z => z.id ≠ id))

/-- From `s` to `t`, after the outputs `pre`, the frames go out on the transport of a session: over UDP at once, over SPI into the
outgoing queue (R177). -/
def sends (s t : State) (x : EcpSession) (pre : List Output) (fs : List EcpFrame) : Bool :=
  if x.id = 8 then decide (t.out = s.out ++ pre) && decide (t.ecp.spiOut = s.ecp.spiOut ++ fs)
  else decide (t.out = s.out ++ pre ++ fs.map (fun f => .ecp x.port x.ip x.udp f.wire)) && decide (t.ecp.spiOut = s.ecp.spiOut)

/-- The flags of a session's response: RESP, and AUTH in an authenticated session (R172). -/
abbrev respFlags (x : EcpSession) : Nat := 1 + (if x.auth then 2 else 0)

/-- From `s` to `t` the session sends, after the outputs `pre`, one response: opcode, TAG, status and payload under its next
SEQUENCE, RESP and AUTH in its flags (R172, R181), on its transport; the result is held under its TAG where R183 and R185 say so, and no
other session is touched. `crc` is the CRC-32C of the request's payload. -/
def answers (s t : State) (pre : List Output) (op id tag status crc : Nat) (pl : List Nat) : Bool :=
  match s.session id, t.session id with
  | some x, some y => answeredSession x y 1 op tag status crc pl && onlySession s t id &&
      sends s t x pre [⟨op, tag, status, respFlags x, x.devSeq + 1, pl, x.key⟩]
  | _, _ => false

/-- From `s` to `t` the session sends two responses to one request under its next two SEQUENCE numbers: IN_PROGRESS, and the final one,
whose result is held where R183 says so (R184). -/
def answersLater (s t : State) (op id tag status crc : Nat) (pl : List Nat) : Bool :=
  match s.session id, t.session id with
  | some x, some y => answeredSession x y 2 op tag status crc pl && onlySession s t id &&
      sends s t x [] [⟨op, tag, Ecp.IN_PROGRESS, respFlags x, x.devSeq + 1, s.progressBytes id tag, x.key⟩,
        ⟨op, tag, status, respFlags x, x.devSeq + 2, pl, x.key⟩]
  | _, _ => false

/-- From `s` to `t` a request is accepted and under way: its session has it among the requests in progress, no other session is touched,
and IN_PROGRESS with the payload `pl` is sent after the outputs `pre`; with none, its final response comes within 2 ms (R184). -/
def opens (s t : State) (pre : List Output) (op id tag crc : Nat) (pl : Option (List Nat)) : Bool :=
  match s.session id, t.session id with
  | some x, some y =>
    decide (y = { x with devSeq := x.devSeq + (if pl.isSome then 1 else 0), inProg := x.inProg ++ [⟨tag, op, crc⟩], streams := y.streams, lastAt := y.lastAt }) &&
      onlySession s t id && sends s t x pre (pl.toList.map (fun b => ⟨op, tag, Ecp.IN_PROGRESS, respFlags x, x.devSeq + 1, b, x.key⟩))
  | _, _ => false

/-! ## Search entries and channels (R219 to R257) -/

/-- The registers that placing search entry `n` writes, beside its channel's state. -/
def entryRegs (n : Nat) : List Fld :=
  [ACQ_ENT_W0_REACQ n, ACQ_ENT_W0_WIPE n, ACQ_ENT_W0_FE n, ACQ_ENT_W0_SIGNAL n, ACQ_ENT_W0_PRN n, ACQ_ENT_W0_CHANNEL n, ACQ_ENT_W0_NNC n,
    ACQ_ENT_W0_TCOH_MS n, ACQ_ENT_W1_CODE_START n, ACQ_ENT_W1_CODE_CELLS n, ACQ_ENT_W2_DOPP_HALF n, ACQ_ENT_W2_DOPP_CENTRE n,
    ACQ_ENT_W3_STATE n, ACQ_ENT_W3_CAUSE n, ACQ_RES_W1_DWELLS n]

/-- The registers that losing channels and searching them again may write. -/
def lossRegs : List Fld :=
  (List.range 64).flatMap entryRegs ++
    (List.range 256).flatMap (fun c => [CH_STATUS_STATE c, CH_STATUS_LOST c, CH_STATUS_LOSS_CAUSE c]) ++ [REC_CNT_QUEUE_DROP]

/-- The registers of a channel that its start writes (R245, R250). -/
def startRegs (c : Nat) : List Fld :=
  [CH_STATUS_STATE c, CH_STATUS_LOSS_CAUSE c, CH_STATUS_TINT_NOW c, CH_STATUS_TIME_LEVEL c, CH_STATUS_CODE_LOCK c, CH_STATUS_CARR_LOCK c,
    CH_STATUS_BIT_SYNC c, CH_STATUS_SEC_SYNC c, CH_STATUS_NAV_SYNC c, CH_STATUS_HALF_UNRES c, CH_STATUS_PLL_ON c, CH_CN0_CN0 c, CH_CN0_PLI c,
    CH_LOCKT_LOCK_MS c, CH_CODE_CODE c, CH_CARR_LO_PHASE c, CH_CARR_HI_PHASE c, CH_CNT_SLIP_CNT c, CH_DOPP_DOPP c]

/-- The registers that show a channel's accumulations and NCOs (R257). -/
def accRegs (c : Nat) : List Fld :=
  [ACC_P_I c, ACC_P_Q c, ACC_E_I c, ACC_E_Q c, ACC_L_I c, ACC_L_Q c, ACC_VE_I c, ACC_VE_Q c, ACC_VL_I c, ACC_VL_Q c, ACC_N_I c, ACC_N_Q c,
    ACC_PD_I c, ACC_PD_Q c, CH_CODE_CODE c, CH_CARR_LO_PHASE c, CH_CARR_HI_PHASE c]

/-- The registers of a channel that an update may write (R240 to R244, R253 to R257). -/
def updateRegs (c : Nat) : List Fld :=
  accRegs c ++ [CH_DOPP_DOPP c, CH_CN0_CN0 c, CH_CN0_PLI c, CH_STATUS_CODE_LOCK c, CH_STATUS_CARR_LOCK c, CH_CNT_SLIP_CNT c,
    CH_LOCKT_LOCK_MS c, CH_STATUS_STATE c, CH_CNT_BUMPS c, CH_STATUS_BIT_SYNC c, CH_STATUS_SEC_SYNC c, CH_STATUS_TIME_LEVEL c,
    CH_STATUS_TINT_NOW c]

/-- The ACC registers of a channel show an integration, each limited to 16 bits (R257). -/
abbrev AccShown (c : Nat) (a : Accums) (t : State) : Prop :=
  [(ACC_P_I c, a.pI), (ACC_P_Q c, a.pQ), (ACC_E_I c, a.eI), (ACC_E_Q c, a.eQ), (ACC_L_I c, a.lI), (ACC_L_Q c, a.lQ), (ACC_VE_I c, a.veI),
    (ACC_VE_Q c, a.veQ), (ACC_VL_I c, a.vlI), (ACC_VL_Q c, a.vlQ), (ACC_N_I c, a.nI), (ACC_N_Q c, a.nQ), (ACC_PD_I c, a.pdI),
    (ACC_PD_Q c, a.pdQ)].all (fun e => t.getS e.1 == clampI (-32768) 32767 e.2) = true

/-- The loop filters of a channel after an update in time: the discriminators of R241, with no phase error in PULL_IN before PLL_ON
(R249), and the equations of R245. -/
def State.filtersNext (s : State) (c : Nat) (a : Accums) : ChState :=
  let x := s.chSt c
  let data := sigData (s.get (CH_CFG_SIGNAL c))
  let t : Rat := (s.get (CH_STATUS_TINT_NOW c) : Rat) / 1000
  let ep := if s.get (CH_STATUS_STATE c) = 2 ∧ s.get (CH_STATUS_PLL_ON c) = 0 then 0 else loopAngle data a.pQ a.pI
  s.loopFilter c x ep (loopAngle data (x.prevI * a.pQ - a.pI * x.prevQ) (x.prevI * a.pI + x.prevQ * a.pQ) / t)
    (codeError (sigBoc (s.get (CH_CFG_SIGNAL c))) (s.get (CH_SPACING_EL c)) a)

/-- The reported C/N0 after an update in time (R242). -/
def State.cn0Next (s : State) (c : Nat) (a : Accums) : Nat :=
  cn0Of ((((pow2 a.pI a.pQ, pow2 a.nI a.nQ) :: (s.chSt c).pow).take 255).take (s.get (CH_LOCK_CN0_N c))) (s.get (CH_STATUS_TINT_NOW c))
    (sigOffset (s.get (CH_CFG_SIGNAL c)))

/-- The sums of IP² − QP² and IP² + QP² after an update in time (R243). -/
def State.pliNext (s : State) (c : Nat) (a : Accums) : Int × Int :=
  let l := ((a.pI * a.pI - a.pQ * a.pQ, a.pI * a.pI + a.pQ * a.pQ) :: (s.chSt c).pli).take 20
  ((l.map (·.1)).sum, (l.map (·.2)).sum)

/-- An update in time loses carrier lock, or takes it (R243). -/
def State.carrLost (s : State) (c : Nat) (a : Accums) : Bool :=
  s.bit (CH_STATUS_CARR_LOCK c) && decide (256 * (s.pliNext c a).1 < (s.get (CH_LOCK_PLI_OFF c) : Int) * (s.pliNext c a).2)
def State.carrGot (s : State) (c : Nat) (a : Accums) : Bool :=
  !s.bit (CH_STATUS_CARR_LOCK c) &&
    decide (0 < (s.pliNext c a).2 ∧ (s.get (CH_LOCK_PLI_ON c) : Int) * (s.pliNext c a).2 ≤ 256 * (s.pliNext c a).1)

/-! ## Solution records (R28, R360, R499) -/

/-- A record as it is written: no position and no ratio under NONE, and the fields of R318 and R360 limited. -/
def SolRec.shown (r : SolRec) : SolRec := if r.status = 0 then { r with pos := {}, ratio := 0 } else { r with pos := posRec r.pos }

/-- The latest records of the members after the records of a list are written. -/
def recsAfter (recs : List (Nat × SolRec)) (l : List SolRec) : List (Nat × SolRec) :=
  l.foldl (fun a (r : SolRec) => a.filter (fun (e : Nat × SolRec) => e.1 ≠ r.addr) ++ [(r.addr, r.shown)]) recs

/-- The registers that show a member's latest record. -/
def recRegs (a : Nat) : List Fld := [FIX_MEMBER_STATUS a, FIX_MEMBER_HELD a, FIX_MEMBER_NFIX a, FIX_LOAD_PEAK_US]

/-- The records of a list are written in order, and then reach the track engine. -/
def State.recorded (s : State) (l : List SolRec) : State := l.foldl (fun s r => s.trkRecord r.shown) (l.foldl State.putRec s)

/-- The counts of a solve (R346, R349, R351). -/
def State.solveCounts (s : State) (x : SolveRes) : State :=
  let s := if x.abort then s.bump FIX_CNT3_SEARCH_ABORT else s
  let s := if x.reject then s.bump FIX_CNT4_FIX_REJECT else s
  if x.lost then s.bump FIX_CNT4_FIX_LOST else s

/-- No record of the list finds a running profile channel. -/
def State.quietFor (s : State) (l : List SolRec) : Bool := l.all (fun r => s.pchState r.addr == 0 || !isAddr r.addr)

/-! ## Lanes and budgets (R372 to R394, R531) -/

/-- RESERVE_LOW is judged anew on the state that results; after the records that lead to `u`, a change writes one (R531). -/
abbrev ReserveJudged (u t : State) : Prop :=
  t.bit ROOK_STATE_RESERVE_LOW = (List.range 128).any t.reserveLowAcct ∧
  t.evr = (if u.bit ROOK_STATE_RESERVE_LOW = t.bit ROOK_STATE_RESERVE_LOW then u else u.record .reserveLow [b2n (t.bit ROOK_STATE_RESERVE_LOW)]).evr

/-- Some allowed channel of a lane's profile is covered by no enabled account. -/
abbrev State.uncovered (s : State) (n : Nat) : Bool := (s.allowed (s.prof n)).any (fun ch => (s.covering (s.prof n) ch).isEmpty)

/-- R393 is judged for every lane on the accounts that result: a READY lane with an uncovered channel goes to FAULT with cause 5, and no
other lane changes state. -/
abbrev LanesJudged (s t : State) : Prop :=
  (List.range 8).all (fun l => if s.laneReady l && t.uncovered l then t.get (LANE_STATUS_STATE l) == 4 && t.get (LANE_STATUS_CAUSE l) == 5
    else t.get (LANE_STATUS_STATE l) == s.get (LANE_STATUS_STATE l) && t.get (LANE_STATUS_CAUSE l) == s.get (LANE_STATUS_CAUSE l)) = true

/-- The registers that show lane states. -/
def laneStateRegs : List Fld := (List.range 8).flatMap (fun l => [LANE_STATUS_STATE l, LANE_STATUS_CAUSE l])

/-- The channels computed for the lanes of a profile in a slot of boundary `k` under a hop set with its key (R385, R388, R428). -/
def State.slotPicks (s : State) (h : HopSet) (key : List Nat) (prof k sfn slot : Nat) : List (Nat × Nat) :=
  (State.slotChannels h key prof k sfn slot (assocSlot prof k slot)).filter (fun e => bitOf h.lanes e.1 && s.prof e.1 == prof)

/-- The computed channels without those that a computation for a profile forgets: of its lanes, those not of the superframe in progress, and
those of the slot computed. -/
def State.chansKept (s : State) (h : HopSet) (prof slot : Nat) : List HopChan :=
  s.radio.chans.filter (fun (c : HopChan) =>
    !(decide (c.lane < 8) && bitOf h.lanes c.lane && s.prof c.lane == prof && decide (c.k ≠ s.time.k ∨ c.slot = slot)))

/-! ## Frames on air (R383, R390 to R393, R531) -/

/-- The registers of the budgets that a charge or a refusal may write (R389, R392, R531). -/
def acctRegs : List Fld :=
  (List.range 128).flatMap (fun m => [ACCT_W5_ORD_SUM m, ACCT_W6_STOP_SUM m, ACCT_W7_STOP_REFUSED m, ACCT_W7_ORD_REFUSED m]) ++
    [ROOK_STATE_RESERVE_LOW, REC_CNT_QUEUE_DROP]

/-- The air time of an MPDU in an interval of a lane, in µs (R380, R382). -/
def State.airUs (s : State) (n iv : Nat) (mpdu : List Nat) : Nat :=
  txenUs (s.prof n) (s.get (LANE_CFG_RATE n)) iv (psduLen (s.prof n) mpdu.length)

/-- A frame fits its interval, and every account that covers its channel passes it (R383, R391). -/
def State.mayTransmit (s : State) (n iv : Nat) (c : Cls) (ch : Nat) (mpdu : List Nat) : Bool :=
  decide (mpdu.length ≤ s.mpduMax n iv) && (s.budget c (s.prof n) ch (s.airUs n iv mpdu)).2

/-- From `z` a frame leaves on a lane, and nothing but this differs in `t`: it is on air at the power of R393, every covering account is charged
and shows its sums, and RESERVE_LOW is judged anew. -/
abbrev FrameSent (z t : State) (n slot iv : Nat) (c : Cls) (ch : Nat) (mpdu : List Nat) : Prop :=
  t.out = z.out ++ [Output.air (z.airTx n slot iv ch mpdu)] ∧ t.radio = (z.budget c (z.prof n) ch (z.airUs n iv mpdu)).1.radio ∧
  ReserveJudged z t ∧ (z.covering (z.prof n) ch).all (fun m =>
    t.get (ACCT_W5_ORD_SUM m) == (t.hist m).ord % 2 ^ 32 && t.get (ACCT_W6_STOP_SUM m) == (t.hist m).stop % 2 ^ 32) = true ∧
  t = { z with regs := t.regs, radio := t.radio, evr := t.evr, out := t.out }

/-- From `z` a frame is not sent (R383, R392): a frame too long counts in OVERSIZE and is recorded; a refusal counts in each refusing account and
in the link counters; nothing else differs in `t` but the registers `l`. -/
abbrev FrameKept (z t : State) (n iv : Nat) (c : Cls) (ch : Nat) (mpdu : List Nat) : Prop :=
  if mpdu.length ≤ z.mpduMax n iv then
    ((z.covering (z.prof n) ch).filter (fun m => !z.acctOk c (z.airUs n iv mpdu) m)).all (fun m => match c with
      | .stop => t.get (ACCT_W7_STOP_REFUSED m) == z.adv (ACCT_W7_STOP_REFUSED m)
      | _ => t.get (ACCT_W7_ORD_REFUSED m) == z.adv (ACCT_W7_ORD_REFUSED m)) = true ∧
    t.mac = (z.laneCount n (fun x => { x with refused := min (x.refused + 1) 255 })).mac ∧ t = { z with regs := t.regs, mac := t.mac }
  else t.get (LANE_CNT_OVERSIZE n) = z.adv (LANE_CNT_OVERSIZE n) ∧ t.evr = (z.record .laneOversize [n]).evr ∧ t = { z with regs := t.regs, evr := t.evr }

end Sys2Proof.Machine
end

