-- ==== Sys2Proof/Certificates/Slice0/Obligations.lean ====
section
/-!
DEFINITION. The statements for the provers. Each docstring names the rules of the spec that its statement formalises, or, where it
rests on a choice of the model, the log entry.
-/

open Sys2Proof Sys2Proof.Machine Sys2Proof.Machine.R

/-- For every state whose queue is c followed by rest, step answers exactly what exec answers for c on the same state with
the queue rest. The queue is the block model's own. (Rests on: spec/00_scope.md, spec/INDEX.md.) -/
def Obligations.StepRunsTheFrontCommand : Prop :=
    ∀ (s : State) (c : Instr) (rest : List Instr), s.pending = c :: rest → step s = exec c { s with pending := rest }

/-- For every state with an empty queue, step answers that state. This is the model's own convention (log 1), no rule of
the spec. (Rests on: spec/00_scope.md.) -/
def Obligations.EmptyQueueIdles : Prop :=
    ∀ s : State, s.pending = [] → step s = .next s

/-- For every state, step answers a next state: there is no fault and no refusal, whatever command stands at the front of
the queue. (Rests on: spec/00_scope.md, spec/95_what_each_step_holds.md.) -/
def Obligations.EveryCommandCompletes : Prop :=
    ∀ s : State, ∃ t : State, step s = .next t

/-- If no relay drive is set while ROOK_STATE.STOP is set (State.stopSafe), then the same holds in the state after any
step, whatever the command: R523 removes the drive in the ply in which the stop state comes into force and no command
restores it while STOP is set. (Rests on: R509, R523.) -/
def Obligations.StopStateKeepsRelaysDown : Prop :=
    ∀ s t : State, step s = .next t → s.stopSafe = true → t.stopSafe = true

/-- State.reset meets the invariant State.stopSafe, with ROOK_STATE.STOP set (R108) and RELAY_STATUS.DRIVE 0. (Rests on:
R108, R523.) -/
def Obligations.ResetStateIsStopSafe : Prop :=
    State.reset.stopSafe = true ∧ State.reset.bit ROOK_STATE_STOP = true ∧ State.reset.get RELAY_STATUS_DRIVE = 0

/-- VBAT below 2.2 V (R54) asserts AON_POR; a main rail below its power-on level asserts MAIN_POR, and BROWNOUT too where
the rail was valid with MAIN_EN high (R55); a valid main rail below its brown-out level with MAIN_EN high asserts
BROWNOUT; TEST_MODE, a sensor reading of 115 °C or more (with THERMTRIP_N driven), RESET_N and WARM_N assert their
sources. In each case every part that R104 gives the reach is held, nothing asserted or held before is released, the
flash, the audit trail and what lies outside the device stay, and PD_AON keeps its registers unless the reach covers
it. (Rests on: R104, R110, R113, R120, R54, R45, R73, R71.) -/
def Obligations.SupplyAndPinSourcesAssertTheirReach : Prop :=
    (∀ (s : State) (mv cyc : Nat),
      mv < 2200 →
      Does (.aonPor mv cyc) s (fun t =>
        Asserted 0 t ∧
        t.pwr.railValid.contains 9 = false ∧
        AssertFrame 0 s t)) ∧
    (∀ (s : State) (rail mv cyc : Nat),
      rail < 9 →
      mv < powerOnMv rail →
      Does (.mainPor rail mv cyc) s (fun t =>
        Asserted 1 t ∧
        t.pwr.railValid.contains rail = false ∧
        (s.pwr.railValid.contains rail = true ∧ s.pwr.mainEn = true → Asserted 4 t) ∧
        AssertFrame 1 s t)) ∧
    (∀ (s : State) (rail mv cyc : Nat),
      rail < 9 →
      mv < brownoutMv rail →
      s.pwr.railValid.contains rail = true →
      s.pwr.mainEn = true →
      Does (.brownout rail mv cyc) s (fun t =>
        Asserted 4 t ∧
        t.pwr.railValid.contains rail = false ∧
        AssertFrame 4 s t)) ∧
    (∀ (s : State) (cyc : Nat),
      Does (.testModeAssert cyc) s (fun t =>
        Asserted 3 t ∧
        AssertFrame 3 s t)) ∧
    (∀ (s : State) (celsius : Int) (cyc : Nat),
      115 ≤ celsius →
      Does (.thermalTrip celsius cyc) s (fun t =>
        Asserted 5 t ∧
        t.pwr.thermTrip = true ∧
        AssertFrame 5 s t)) ∧
    (∀ (s : State) (cyc : Nat),
      Does (.resetPin cyc) s (fun t =>
        Asserted 6 t ∧
        AssertFrame 6 s t)) ∧
    (∀ (s : State) (cyc : Nat),
      Does (.warmPin cyc) s (fun t =>
        Asserted 15 t ∧
        AssertFrame 15 s t))

/-- A granted RST_CTRL write with key 0x5E7A asserts SW_SYS for SYS and SW_WARM for WARM by an application core (COLD
clear), and ROOK_COLD for COLD by Rook (SYS and WARM clear); JTAG asserts its source while DBG_LOCK is clear or opened
(R111); the watchdogs and the MP self-reset assert theirs; SYSPLL lost outside holdover with the reference present
asserts ROOK_COLD (R82). The parts of each reach are held; the frame is that of asserting a source. (Rests on: R110,
R111, R127, R82, R113.) -/
def Obligations.SoftwareAndWatchdogResetsAssertTheirReach : Prop :=
    (∀ (s : State) (ini data : Nat),
      isApp ini = true →
      s.judge ini 0x40000308 true = .ok →
      bits data 31 16 = 0x5E7A →
      bitOf data 0 = true →
      bitOf data 2 = false →
      Does (.rstCtrlSys ini data) s (fun t =>
        Asserted 14 t ∧
        AssertFrame 14 s t)) ∧
    (∀ (s : State) (ini data : Nat),
      isApp ini = true →
      s.judge ini 0x40000308 true = .ok →
      bits data 31 16 = 0x5E7A →
      bitOf data 1 = true →
      bitOf data 2 = false →
      Does (.rstCtrlWarm ini data) s (fun t =>
        Asserted 16 t ∧
        AssertFrame 16 s t)) ∧
    (∀ (s : State) (data : Nat),
      s.judge 0x30 0x40000308 true = .ok →
      bits data 31 16 = 0x5E7A →
      bitOf data 0 = false →
      bitOf data 1 = false →
      bitOf data 2 = true →
      Does (.rstCtrlCold 0x30 data) s (fun t =>
        Asserted 7 t ∧
        AssertFrame 7 s t)) ∧
    (∀ (s : State) (cyc : Nat),
      s.bit MON_STATUS_DBG_LOCK = false ∨ s.bit MON_STATUS_OPEN = true →
      Does (.jtagResetRequest cyc) s (fun t =>
        Asserted 11 t ∧
        AssertFrame 11 s t)) ∧
    (∀ (s : State),
      Does (.appWdogExpiry) s (fun t =>
        Asserted 10 t ∧
        AssertFrame 10 s t)) ∧
    (∀ (s : State),
      Does (.mpWdogExpiry) s (fun t =>
        Asserted 17 t ∧
        AssertFrame 17 s t)) ∧
    (∀ (s : State),
      Does (.mpSwReset) s (fun t =>
        Asserted 18 t ∧
        AssertFrame 18 s t)) ∧
    (∀ (s : State) (cyc : Nat),
      s.bit CLK_STATUS_SYSPLL_HOLD = false →
      s.bit CLK_STATUS_REF_PRESENT = true →
      Does (.syspllUnlock cyc) s (fun t =>
        Asserted 7 t ∧
        AssertFrame 7 s t))

/-- An asserted source whose cause has ended (its rails above their release levels, R54; the sensor below 100 °C, R73)
leaves the asserted set alone smaller, and starts the trim load at word 0 where its reach covers the trim shadows and
no other asserted source does; while the cause lasts nothing changes. A release frees exactly the eligible parts
(R116, R121) and writes RST_CAUSE and RST_SEEN from the sources of the episode (R125), or 0 and bit 0 alone after an
AON power-on (R126). A trim load that matches sets DONE, makes the words live and takes DBG_LOCK from them; a mismatch
advances FAILS and restarts at word 0; the third enters the safe trim state with DBG_LOCK set. Eight equal conversions
latch the strap code with its boot source, role and interface; the fourth sample without agreement latches code 0 with
UNSTABLE, and an earlier one is taken again. (Rests on: R54, R73, R116, R117, R121, R125, R126, R129, R132, R135,
R136, R128.) -/
def Obligations.ResetReleaseAndTrimLoad : Prop :=
    (∀ (s : State) (src : Nat) (mv : List Nat) (celsius : Int) (cyc : Nat),
      s.stopSafe = true →
      s.mayDeassert src mv celsius = true →
      s.rst.asserted.contains src = true →
      Does (.resetSourceDeassert src mv celsius cyc) s (fun t =>
        t.rst = { s.rst with asserted := s.rst.asserted.filter (· ≠ src), loadAt := if ((reachOf src).parts.contains .rstctl = true ∧ s.rst.asserted.all (fun x => x == src || !(reachOf x).parts.contains .rstctl) = true) then cyc else s.rst.loadAt } ∧
        (((reachOf src).parts.contains .rstctl = true ∧ s.rst.asserted.all (fun x => x == src || !(reachOf x).parts.contains .rstctl) = true) → Reads t [(TRIM_STATUS_LOADING, 1), (TRIM_STATUS_WORD, 0)]) ∧
        (src = 2 → t.pwr.night = false) ∧
        (src = 4 → t.pwr.brown = []) ∧
        (src = 5 → t.pwr = { s.pwr with thermTrip := false }) ∧
        (src = 3 ∨ 5 < src → t.pwr = s.pwr) ∧
        RegsBut (if ((reachOf src).parts.contains .rstctl = true ∧ s.rst.asserted.all (fun x => x == src || !(reachOf x).parts.contains .rstctl) = true) then [TRIM_STATUS_LOADING, TRIM_STATUS_WORD] else []) s t ∧
        t = { s with regs := t.regs, rst := t.rst, pwr := t.pwr })) ∧
    (∀ (s : State) (src : Nat) (mv : List Nat) (celsius : Int) (cyc : Nat),
      s.stopSafe = true →
      s.mayDeassert src mv celsius = false →
      Does (.resetSourceDeassert src mv celsius cyc) s (fun t =>
        t = s)) ∧
    (∀ (s : State),
      s.eligible.isEmpty = false →
      s.rst.seen.any (fun e => e.1 == 0 || 19 ≤ e.1) = false →
      Does (.resetRelease) s (fun t =>
        t.rst.held = s.rst.held.filter (fun p => !s.eligible.contains p) ∧
        t.get RST_CAUSE_CAUSE = causeOf s.rst.seen ∧
        t.get RST_SEEN_SEEN = seenBits s.rst.seen % 2 ^ 19 ∧
        t.rst.asserted = s.rst.asserted ∧
        t.ply = s.ply ∧
        t.flash = s.flash ∧
        t.audit = s.audit ∧
        t.memDevs = s.memDevs ∧
        t.trx = s.trx ∧
        t.feExt = s.feExt ∧
        t.time = s.time ∧
        t.ecp = s.ecp ∧
        t.pwr = s.pwr)) ∧
    (∀ (s : State),
      s.eligible.isEmpty = false →
      s.rst.seen.any (fun e => e.1 == 0) = true →
      Does (.resetRelease) s (fun t =>
        t.rst.held = s.rst.held.filter (fun p => !s.eligible.contains p) ∧
        Reads t [(RST_CAUSE_CAUSE, 0), (RST_SEEN_SEEN, 1)] ∧
        t.rst.asserted = s.rst.asserted ∧
        t.ply = s.ply ∧
        t.flash = s.flash ∧
        t.audit = s.audit ∧
        t.memDevs = s.memDevs ∧
        t.trx = s.trx ∧
        t.feExt = s.feExt ∧
        t.time = s.time ∧
        t.ecp = s.ecp ∧
        t.pwr = s.pwr)) ∧
    (∀ (s : State) (misread : List (Nat × Nat)) (cyc : Nat),
      s.stopSafe = true →
      s.bit TRIM_STATUS_LOADING = true →
      trimCrcOk (trimRead s.flash.trims misread) = true →
      Does (.trimLoadComplete misread cyc) s (fun t =>
        Reads t [(TRIM_STATUS_FAILS, 0), (TRIM_STATUS_LOADING, 0), (TRIM_STATUS_DONE, 1), (TRIM_STATUS_WORD, 255)] ∧
        t.rst = { s.rst with shadow := trimRead s.flash.trims misread, live := some (trimRead s.flash.trims misread) } ∧
        RegsBut [TRIM_STATUS_FAILS, TRIM_STATUS_LOADING, TRIM_STATUS_DONE, TRIM_STATUS_WORD, MON_STATUS_DBG_LOCK] s t ∧
        t = { s with regs := t.regs, rst := t.rst } ∧
        t.bit MON_STATUS_DBG_LOCK = Config.trimDbgLock (trimRead s.flash.trims misread))) ∧
    (∀ (s : State) (misread : List (Nat × Nat)) (cyc : Nat),
      s.stopSafe = true →
      s.bit TRIM_STATUS_LOADING = true →
      trimCrcOk (trimRead s.flash.trims misread) = false →
      s.get TRIM_STATUS_FAILS < 2 →
      Does (.trimLoadComplete misread cyc) s (fun t =>
        Reads t [(TRIM_STATUS_FAILS, s.get TRIM_STATUS_FAILS + 1), (TRIM_STATUS_WORD, 0), (TRIM_STATUS_LOADING, s.get TRIM_STATUS_LOADING)] ∧
        t.rst = { s.rst with shadow := trimRead s.flash.trims misread, loadAt := cyc } ∧
        RegsBut [TRIM_STATUS_FAILS, TRIM_STATUS_WORD] s t ∧
        t = { s with regs := t.regs, rst := t.rst })) ∧
    (∀ (s : State) (misread : List (Nat × Nat)) (cyc : Nat),
      s.stopSafe = true →
      s.bit TRIM_STATUS_LOADING = true →
      trimCrcOk (trimRead s.flash.trims misread) = false →
      2 ≤ s.get TRIM_STATUS_FAILS →
      Does (.trimLoadComplete misread cyc) s (fun t =>
        Reads t [(TRIM_STATUS_FAILS, 3), (TRIM_STATUS_LOADING, 0), (TRIM_STATUS_SAFE, 1), (TRIM_STATUS_WORD, 255), (MON_STATUS_DBG_LOCK, 1)] ∧
        t.rst = { s.rst with shadow := trimRead s.flash.trims misread } ∧
        RegsBut [TRIM_STATUS_FAILS, TRIM_STATUS_LOADING, TRIM_STATUS_WORD, TRIM_STATUS_SAFE, MON_STATUS_DBG_LOCK] s t ∧
        t = { s with regs := t.regs, rst := t.rst })) ∧
    (∀ (s : State) (conv : List Nat) (c : Nat),
      s.stopSafe = true →
      s.rst.strapDone = false →
      s.bit TRIM_STATUS_DONE = true ∨ s.bit TRIM_STATUS_SAFE = true →
      c < 16 →
      conv = List.replicate 8 c →
      Does (.strapSample conv) s (fun t =>
        Reads t [(STRAP_CODE, c), (STRAP_BOOT, strapBoot c), (STRAP_ROLE, strapRole c), (STRAP_REC_IF, strapRecIf c), (STRAP_RAW, c), (STRAP_UNSTABLE, 0)] ∧
        t.rst = { s.rst with strapDone := true } ∧
        RegsBut [STRAP_CODE, STRAP_BOOT, STRAP_ROLE, STRAP_REC_IF, STRAP_RAW, STRAP_UNSTABLE] s t ∧
        t = { s with regs := t.regs, rst := t.rst })) ∧
    (∀ (s : State) (conv : List Nat),
      s.stopSafe = true →
      s.rst.strapDone = false →
      s.bit TRIM_STATUS_DONE = true ∨ s.bit TRIM_STATUS_SAFE = true →
      conv.length = 8 →
      conv.all (fun x => x % 16 == conv.headD 0 % 16) = false →
      3 ≤ s.rst.strapTries →
      Does (.strapSample conv) s (fun t =>
        Reads t [(STRAP_CODE, 0), (STRAP_BOOT, 0), (STRAP_ROLE, 0), (STRAP_REC_IF, 0), (STRAP_RAW, conv.getLastD 0 % 16), (STRAP_UNSTABLE, 1)] ∧
        t.rst = { s.rst with strapDone := true } ∧
        RegsBut [STRAP_CODE, STRAP_BOOT, STRAP_ROLE, STRAP_REC_IF, STRAP_RAW, STRAP_UNSTABLE] s t ∧
        t = { s with regs := t.regs, rst := t.rst })) ∧
    (∀ (s : State) (conv : List Nat),
      s.stopSafe = true →
      s.rst.strapDone = false →
      s.bit TRIM_STATUS_DONE = true ∨ s.bit TRIM_STATUS_SAFE = true →
      conv.length = 8 →
      conv.all (fun x => x % 16 == conv.headD 0 % 16) = false →
      s.rst.strapTries < 3 →
      Does (.strapSample conv) s (fun t =>
        Reads t [(STRAP_RAW, conv.getLastD 0 % 16)] ∧
        t.rst = { s.rst with strapTries := s.rst.strapTries + 1 } ∧
        RegsBut [STRAP_RAW] s t ∧
        t = { s with regs := t.regs, rst := t.rst }))

/-- SYSPLL_LOCK satisfies the release condition and ends a pull-in after holdover; NETPLL lost outside holdover sets
NETPLL_UNLOCK, interrupts the application cores and Rook and holds PD_NET, a retry that locks releases it, and one
that ends a pull-in clears NETPLL_HOLD; a missing edge holds a locked PLL and a good window ends a holdover taken
without REF_LOST, the PLL pulling in until it is locked again; two bad windows, or the edge of the pull range, set
REF_LOST with the locked PLLs held and transmission to end with the superframe; 1 s of good reference sets
REF_RESTORED; the frequency check states the offset in 0.1 ppm and two windows beyond 1000 set REF_FREQ_ERR, two
within clear it, and without the crystal REF_OFFSET reads 0x8000. (Rests on: R75, R76, R77, R78, R80, R81, R82, R83,
R94.) -/
def Obligations.ClocksAndReference : Prop :=
    (∀ (s : State),
      s.stopSafe = true →
      Does (.syspllLock) s (fun t =>
        Reads t [(CLK_STATUS_SYSPLL_LOCK, 1), (CLK_STATUS_REF_PRESENT, 1), (CLK_STATUS_SYSPLL_HOLD, if s.clk.pulling.contains 0 then 0 else s.get CLK_STATUS_SYSPLL_HOLD)] ∧
        t.clk = { s.clk with sysLocked := true, pulling := s.clk.pulling.filter (· ≠ 0) } ∧
        RegsBut [CLK_STATUS_SYSPLL_LOCK, CLK_STATUS_REF_PRESENT, CLK_STATUS_SYSPLL_HOLD] s t ∧
        t = { s with regs := t.regs, clk := t.clk })) ∧
    (∀ (s : State),
      s.bit CLK_STATUS_NETPLL_HOLD = false →
      s.bit CLK_STATUS_REF_PRESENT = true →
      s.bit CLK_STATUS_NETPLL_LOCK = true →
      Does (.netpllUnlock) s (fun t =>
        Reads t [(CLK_STATUS_NETPLL_LOCK, 0), (CLK_EVENT_NETPLL_UNLOCK, 1)] ∧
        t.rst.held.contains .net = true ∧
        t.out = s.out ++ [.irqApps CLK_EVENT_NETPLL_UNLOCK.key.lo, .irqRook CLK_EVENT_NETPLL_UNLOCK.key.lo] ∧
        t.rst.asserted = s.rst.asserted ∧
        t.ply = s.ply ∧
        t.rook = s.rook ∧
        t.time = s.time ∧
        t.clk = s.clk ∧
        t.trk = s.trk ∧
        t.ecp = s.ecp ∧
        t.gnss = s.gnss ∧
        t.flash = s.flash)) ∧
    (∀ (s : State),
      s.stopSafe = true →
      s.clk.pulling.contains 1 = false →
      s.bit CLK_STATUS_NETPLL_LOCK = false →
      s.covered .net = false →
      s.rst.held.contains .sys = false →
      s.pdOff .net = false →
      Does (.netpllLockRetry true) s (fun t =>
        Reads t [(CLK_STATUS_NETPLL_LOCK, 1)] ∧
        t.rst = { s.rst with held := s.rst.held.filter (· ≠ Part.net) } ∧
        RegsBut [CLK_STATUS_NETPLL_LOCK] s t ∧
        t = { s with regs := t.regs, rst := t.rst, site := t.site })) ∧
    (∀ (s : State),
      s.stopSafe = true →
      s.clk.pulling.contains 1 = true →
      Does (.netpllLockRetry true) s (fun t =>
        Reads t [(CLK_STATUS_NETPLL_HOLD, 0)] ∧
        t.clk = { s.clk with pulling := s.clk.pulling.filter (· ≠ 1) } ∧
        RegsBut [CLK_STATUS_NETPLL_HOLD] s t ∧
        t = { s with regs := t.regs, clk := t.clk })) ∧
    (∀ (s : State) (pll : Nat),
      s.stopSafe = true →
      s.bit (pllLock pll) = true →
      Does (.pllHoldoverEntry pll) s (fun t =>
        Reads t [(pllHold pll, 1)] ∧
        t.clk = { s.clk with pulling := s.clk.pulling.filter (· ≠ pll) } ∧
        RegsBut [pllHold pll] s t ∧
        t = { s with regs := t.regs, clk := t.clk })) ∧
    (∀ (s : State) (pll edges : Nat),
      s.stopSafe = true →
      s.clk.refLost = false →
      50 ≤ edges →
      edges ≤ 200 →
      s.bit (pllHold pll) = true →
      s.clk.pulling.contains pll = false →
      Does (.pllHoldoverExit pll edges) s (fun t =>
        Reads t [(CLK_STATUS_REF_PRESENT, 1)] ∧
        t.clk = { s.clk with pulling := s.clk.pulling ++ [pll] } ∧
        RegsBut [CLK_STATUS_REF_PRESENT] s t ∧
        t = { s with regs := t.regs, clk := t.clk })) ∧
    (∀ (s : State) (edges1 edges2 : Nat),
      s.stopSafe = true →
      edges1 < 50 ∨ 200 < edges1 →
      edges2 < 50 ∨ 200 < edges2 →
      s.clk.refLost = false →
      Does (.refLost edges1 edges2) s (fun t =>
        Reads t [(CLK_STATUS_REF_PRESENT, 0), (CLK_EVENT_REF_LOST, 1)] ∧
        (t.get CLK_STATUS_SYSPLL_HOLD = if s.bit CLK_STATUS_SYSPLL_LOCK then 1 else s.get CLK_STATUS_SYSPLL_HOLD) ∧
        (t.get CLK_STATUS_NETPLL_HOLD = if s.bit CLK_STATUS_NETPLL_LOCK then 1 else s.get CLK_STATUS_NETPLL_HOLD) ∧
        t.clk = { s.clk with refLost := true, txEndPending := true, pulling := s.clk.pulling.filter (fun p => !(p == 0 && s.bit CLK_STATUS_SYSPLL_LOCK) && !(p == 1 && s.bit CLK_STATUS_NETPLL_LOCK)) } ∧
        t.out = s.out ++ [.irqApps CLK_EVENT_REF_LOST.key.lo, .irqRook CLK_EVENT_REF_LOST.key.lo] ∧
        t.evr = (s.record .clkEvent [CLK_EVENT_REF_LOST.key.lo]).evr ∧
        RegsBut [CLK_STATUS_REF_PRESENT, CLK_STATUS_SYSPLL_HOLD, CLK_STATUS_NETPLL_HOLD, CLK_EVENT_REF_LOST, REC_CNT_QUEUE_DROP] s t ∧
        t = { s with regs := t.regs, clk := t.clk, out := t.out, evr := t.evr })) ∧
    (∀ (s : State) (pll : Nat),
      s.stopSafe = true →
      pll < 2 →
      s.bit (pllLock pll) = true →
      s.bit CLK_STATUS_REF_PRESENT = true →
      s.clk.refLost = false →
      Does (.pllPullRangeEdge pll) s (fun t =>
        Reads t [(CLK_EVENT_REF_LOST, 1)] ∧
        (t.get CLK_STATUS_SYSPLL_HOLD = if s.bit CLK_STATUS_SYSPLL_LOCK then 1 else s.get CLK_STATUS_SYSPLL_HOLD) ∧
        (t.get CLK_STATUS_NETPLL_HOLD = if s.bit CLK_STATUS_NETPLL_LOCK then 1 else s.get CLK_STATUS_NETPLL_HOLD) ∧
        t.clk = { s.clk with refLost := true, txEndPending := true, pulling := s.clk.pulling.filter (fun p => !(p == 0 && s.bit CLK_STATUS_SYSPLL_LOCK) && !(p == 1 && s.bit CLK_STATUS_NETPLL_LOCK)) } ∧
        t.out = s.out ++ [.irqApps CLK_EVENT_REF_LOST.key.lo, .irqRook CLK_EVENT_REF_LOST.key.lo] ∧
        RegsBut [CLK_STATUS_SYSPLL_HOLD, CLK_STATUS_NETPLL_HOLD, CLK_EVENT_REF_LOST, REC_CNT_QUEUE_DROP] s t ∧
        t = { s with regs := t.regs, clk := t.clk, out := t.out, evr := t.evr })) ∧
    (∀ (s : State),
      s.stopSafe = true →
      s.clk.refLost = true →
      s.bit CLK_STATUS_REF_FREQ_ERR = false →
      Does (.refRestored) s (fun t =>
        Reads t [(CLK_STATUS_REF_PRESENT, 1), (CLK_EVENT_REF_RESTORED, 1)] ∧
        t.clk = { s.clk with refLost := false, pulling := t.clk.pulling } ∧
        (s.bit CLK_STATUS_SYSPLL_HOLD = true → t.clk.pulling.contains 0 = true) ∧
        (s.bit CLK_STATUS_NETPLL_HOLD = true → t.clk.pulling.contains 1 = true) ∧
        t.clk.pulling.filter (fun p => !(p == 0 && s.bit CLK_STATUS_SYSPLL_HOLD) && !(p == 1 && s.bit CLK_STATUS_NETPLL_HOLD)) = s.clk.pulling.filter (fun p => !(p == 0 && s.bit CLK_STATUS_SYSPLL_HOLD) && !(p == 1 && s.bit CLK_STATUS_NETPLL_HOLD)) ∧
        t.out = s.out ++ [.irqApps CLK_EVENT_REF_RESTORED.key.lo, .irqRook CLK_EVENT_REF_RESTORED.key.lo] ∧
        RegsBut [CLK_STATUS_REF_PRESENT, CLK_EVENT_REF_RESTORED, REC_CNT_QUEUE_DROP] s t ∧
        t = { s with regs := t.regs, clk := t.clk, out := t.out, evr := t.evr })) ∧
    (∀ (s : State) (edges : Nat),
      s.stopSafe = true →
      Does (.refFreqCheck edges false) s (fun t =>
        Reads t [(CLK_STATUS_AON_XTAL_OK, 0), (CLK_STATUS_REF_OFFSET, 0x8000)] ∧
        RegsBut [CLK_STATUS_AON_XTAL_OK, CLK_STATUS_REF_OFFSET] s t ∧
        OnlyRegs s t)) ∧
    (∀ (s : State) (edges : Nat),
      s.stopSafe = true →
      9999000 ≤ edges →
      edges ≤ 10001000 →
      Does (.refFreqCheck edges true) s (fun t =>
        Reads t [(CLK_STATUS_AON_XTAL_OK, 1), (CLK_STATUS_REF_FREQ_ERR, if 1 ≤ s.clk.freqGood then 0 else s.get CLK_STATUS_REF_FREQ_ERR)] ∧
        t.getS CLK_STATUS_REF_OFFSET = (edges : Int) - 10000000 ∧
        t.clk = { s.clk with freqGood := s.clk.freqGood + 1, freqBad := 0 } ∧
        RegsBut [CLK_STATUS_AON_XTAL_OK, CLK_STATUS_REF_OFFSET, CLK_STATUS_REF_FREQ_ERR] s t ∧
        t = { s with regs := t.regs, clk := t.clk })) ∧
    (∀ (s : State) (edges : Nat),
      s.stopSafe = true →
      edges < 9999000 ∨ 10001000 < edges →
      1 ≤ s.clk.freqBad →
      s.bit CLK_STATUS_REF_FREQ_ERR = false →
      Does (.refFreqCheck edges true) s (fun t =>
        Reads t [(CLK_STATUS_AON_XTAL_OK, 1), (CLK_STATUS_REF_FREQ_ERR, 1), (CLK_EVENT_REF_FREQ_ERR_S, 1)] ∧
        t.getS CLK_STATUS_REF_OFFSET = clampI (-32767) 32767 ((edges : Int) - 10000000) ∧
        t.clk = { s.clk with freqBad := s.clk.freqBad + 1, freqGood := 0 } ∧
        t.out = s.out ++ [.irqApps CLK_EVENT_REF_FREQ_ERR_S.key.lo, .irqRook CLK_EVENT_REF_FREQ_ERR_S.key.lo] ∧
        RegsBut [CLK_STATUS_AON_XTAL_OK, CLK_STATUS_REF_OFFSET, CLK_STATUS_REF_FREQ_ERR, CLK_EVENT_REF_FREQ_ERR_S, REC_CNT_QUEUE_DROP] s t ∧
        t = { s with regs := t.regs, clk := t.clk, out := t.out, evr := t.evr }))

/-- A granted PD_CTRL write while BUSY waits; one that R88 refuses changes nothing but REFUSED; an accepted one gives
every switchable domain the bit written, holds the reset of each domain switched off, and starts the sequences, with
BUSY set. The last step of a switching sequence (ply 5 off, ply 7 on) updates ON and clears BUSY. Rook's keyed
NIGHT_GO write in the stop state with the crystal running asserts the NIGHT source and keeps the hot-start block;
MAIN_EN falls at the next AON edge; after 50 ms a latched wake raises it; the wake pin and the wake timer raise it
with their cause, or are latched before; a wake whose rails do not come in 200 ms lowers it and counts an attempt, and
a retry 1 s later raises it again. The operating hours count the CLK_AON cycles that pass while MAIN_EN is high (R79).
(Rests on: R79, R88, R92, R95, R96, R97, R98, R99, R101.) -/
def Obligations.PowerDomainsAndNightMode : Prop :=
    (∀ (s : State) (ini data : Nat),
      s.stopSafe = true →
      MayWrite s ini 0x40000200 →
      s.bit PD_STATUS_BUSY = true →
      Does (.pdCtrlWrite ini data) s (fun t =>
        t.sw = { s.sw with waiting := s.sw.waiting ++ [(data, 2 ^ 32 - 1)] } ∧
        RegsBut [] s t ∧
        t = { s with regs := t.regs, sw := t.sw })) ∧
    (∀ (s : State) (ini data : Nat),
      s.stopSafe = true →
      MayWrite s ini 0x40000200 →
      s.bit PD_STATUS_BUSY = false →
      s.pdRefused data = true →
      Does (.pdCtrlWrite ini data) s (fun t =>
        Reads t [(PD_STATUS_REFUSED, 1)] ∧
        RegsBut [PD_STATUS_REFUSED] s t ∧
        OnlyRegs s t)) ∧
    (∀ (s : State) (ini data : Nat),
      MayWrite s ini 0x40000200 →
      s.bit PD_STATUS_BUSY = false →
      s.pdRefused data = false →
      Does (.pdCtrlWrite ini data) s (fun t =>
        [5, 6, 7, 8, 9].all (fun d => t.bit (pdFld d) == bitOf data d) = true ∧
        t.sw.switching = s.sw.switching ++ ([5, 6, 7, 8, 9].filter (fun d => s.bit (pdFld d) != bitOf data d)).map (fun d => (d, bitOf data d)) ∧
        [5, 6, 7, 8, 9].all (fun d => s.bit (pdFld d) == bitOf data d || bitOf data d || t.rst.held.contains (domPart d)) = true ∧
        t.bit PD_STATUS_BUSY = [5, 6, 7, 8, 9].any (fun d => s.bit (pdFld d) != bitOf data d) ∧
        t.rst.asserted = s.rst.asserted ∧
        t.ply = s.ply ∧
        t.rook = s.rook ∧
        t.time = s.time ∧
        t.flash = s.flash ∧
        t.ecp = s.ecp ∧
        t.memDevs = s.memDevs ∧
        t.clk = s.clk ∧
        t.pwr = s.pwr)) ∧
    (∀ (s : State) (d : Nat) (b : Bool),
      s.stopSafe = true →
      s.bit PD_STATUS_BUSY = true →
      5 ≤ d →
      d ≤ 9 →
      s.sw.switching = [(d, b)] →
      s.sw.waiting = [] →
      s.sw.start + (if b then 7 else 5) ≤ s.ply →
      Does (.pdSwitchComplete) s (fun t =>
        t.get PD_STATUS_BUSY = 0 ∧
        t.getBit PD_STATUS_ON d = b ∧
        t.sw = {} ∧
        (b = true ∧ s.covered (domPart d) = false ∧ (d ≠ 9 ∨ s.bit CLK_STATUS_NETPLL_LOCK = true) ∧ s.bit TRIM_STATUS_SAFE = false → t.rst.held.contains (domPart d) = false) ∧
        (b = false → t.rst = s.rst) ∧
        RegsBut [PD_STATUS_BUSY, PD_STATUS_ON] s t ∧
        t = { s with regs := t.regs, sw := t.sw, rst := t.rst, site := t.site })) ∧
    (∀ (s : State) (data crc : Nat) (blk : List Nat),
      s.judge 0x30 0x40000800 true = .ok →
      bits data 31 16 = 0x4E47 →
      bitOf data 0 = true →
      s.bit ROOK_STATE_STOP = true →
      s.bit CLK_STATUS_AON_XTAL_OK = true →
      Does (.nightGo 0x30 data blk crc) s (fun t =>
        Asserted 2 t ∧
        t.pwr = { s.pwr with night := true, dropPending := true, wakeLatched := false, minHoldDone := false, hotValid := !blk.isEmpty, hotBytes := blk, hotCrc := crc, hotAt := s.pwr.aon } ∧
        AssertFrame 2 s t)) ∧
    (∀ (s : State),
      s.stopSafe = true →
      s.pwr.dropPending = true →
      Does (.mainEnDrop) s (fun t =>
        t.pwr = { (s.aonPass 1).pwr with dropPending := false, mainEn := false, enAt := s.pwr.aon + 1, railValid := s.pwr.railValid.filter (· == 9) } ∧
        (s.pwr.mainEn = true → Reads t [(REC_AON_OH_SECONDS, min (s.get REC_AON_OH_SECONDS + (s.pwr.aonCycles + 1) / 32768) 0xFFFFFFFF), (REC_AON_SUB_MS, (s.pwr.aonCycles + 1) % 32768 * 1000 / 32768)]) ∧
        RegsBut [REC_AON_OH_SECONDS, REC_AON_SUB_MS] s t ∧
        t = { s with regs := t.regs, pwr := t.pwr })) ∧
    (∀ (s : State),
      s.stopSafe = true →
      s.pwr.night = true →
      s.pwr.mainEn = false →
      s.pwr.wakeLatched = true →
      Does (.nightMinHoldExpiry) s (fun t =>
        Reads t [(WAKE_CAUSE_FROM_NIGHT, 1), (WAKE_CAUSE_ATTEMPTS, 0)] ∧
        t.pwr = { s.pwr with minHoldDone := true, mainEn := true, wakeLatched := false, retryPending := false, aon := (s.pwr.aon + (s.pwr.enAt + 1639 - s.pwr.aon)), enAt := (s.pwr.aon + (s.pwr.enAt + 1639 - s.pwr.aon)) } ∧
        RegsBut [WAKE_CAUSE_FROM_NIGHT, WAKE_CAUSE_ATTEMPTS] s t ∧
        t = { s with regs := t.regs, pwr := t.pwr })) ∧
    (∀ (s : State) (aon : Nat),
      s.stopSafe = true →
      s.pwr.night = true →
      s.pwr.mainEn = false →
      s.pwr.minHoldDone = true →
      Does (.wakePin aon) s (fun t =>
        Reads t [(WAKE_CAUSE_PIN, 1), (WAKE_CAUSE_FROM_NIGHT, 1), (WAKE_CAUSE_ATTEMPTS, 0)] ∧
        t.pwr = { s.pwr with mainEn := true, wakeLatched := false, retryPending := false, aon := s.pwr.aon + aon, enAt := s.pwr.aon + aon } ∧
        RegsBut [WAKE_CAUSE_PIN, WAKE_CAUSE_FROM_NIGHT, WAKE_CAUSE_ATTEMPTS] s t ∧
        t = { s with regs := t.regs, pwr := t.pwr })) ∧
    (∀ (s : State) (aon : Nat),
      s.stopSafe = true →
      s.pwr.night = true →
      s.pwr.mainEn = false →
      s.pwr.minHoldDone = false →
      Does (.wakePin aon) s (fun t =>
        Reads t [(WAKE_CAUSE_PIN, 1)] ∧
        t.pwr = { s.pwr with wakeLatched := true, aon := s.pwr.aon + aon } ∧
        RegsBut [WAKE_CAUSE_PIN] s t ∧
        t = { s with regs := t.regs, pwr := t.pwr })) ∧
    (∀ (s : State),
      s.stopSafe = true →
      0 < s.get WAKE_TIMER_SECONDS →
      s.pwr.night = true →
      s.pwr.mainEn = false →
      s.pwr.minHoldDone = true →
      Does (.wakeTimerExpiry) s (fun t =>
        Reads t [(WAKE_CAUSE_TIMER, 1), (WAKE_CAUSE_FROM_NIGHT, 1), (WAKE_CAUSE_ATTEMPTS, 0)] ∧
        t.pwr = { s.pwr with mainEn := true, wakeLatched := false, retryPending := false, aon := (s.pwr.aon + (s.pwr.enAt + s.get WAKE_TIMER_SECONDS * 32768 - s.pwr.aon)), enAt := (s.pwr.aon + (s.pwr.enAt + s.get WAKE_TIMER_SECONDS * 32768 - s.pwr.aon)) } ∧
        RegsBut [WAKE_CAUSE_TIMER, WAKE_CAUSE_FROM_NIGHT, WAKE_CAUSE_ATTEMPTS] s t ∧
        t = { s with regs := t.regs, pwr := t.pwr })) ∧
    (∀ (s : State),
      s.stopSafe = true →
      s.pwr.night = true →
      s.pwr.mainEn = true →
      s.pwr.dropPending = false →
      Does (.railWakeTimeout) s (fun t =>
        Reads t [(WAKE_CAUSE_RAIL_FAIL, 1), (WAKE_CAUSE_ATTEMPTS, min (s.get WAKE_CAUSE_ATTEMPTS + 1) 3)] ∧
        (s.pwr.mainEn = true → Reads t [(REC_AON_OH_SECONDS, min (s.get REC_AON_OH_SECONDS + (s.pwr.aonCycles + (s.pwr.enAt + 6554 - s.pwr.aon)) / 32768) 0xFFFFFFFF), (REC_AON_SUB_MS, (s.pwr.aonCycles + (s.pwr.enAt + 6554 - s.pwr.aon)) % 32768 * 1000 / 32768)]) ∧
        t.pwr = { (s.aonTo 6554).pwr with mainEn := false, enAt := (s.pwr.aon + (s.pwr.enAt + 6554 - s.pwr.aon)), minHoldDone := true, retryPending := decide (s.get WAKE_CAUSE_ATTEMPTS + 1 < 3) } ∧
        RegsBut [WAKE_CAUSE_RAIL_FAIL, WAKE_CAUSE_ATTEMPTS, REC_AON_OH_SECONDS, REC_AON_SUB_MS] s t ∧
        t = { s with regs := t.regs, pwr := t.pwr })) ∧
    (∀ (s : State),
      s.stopSafe = true →
      s.pwr.retryPending = true →
      s.pwr.mainEn = false →
      Does (.railWakeRetry) s (fun t =>
        t.pwr = { s.pwr with retryPending := false, mainEn := true, aon := (s.pwr.aon + (s.pwr.enAt + 32768 - s.pwr.aon)), enAt := (s.pwr.aon + (s.pwr.enAt + 32768 - s.pwr.aon)) } ∧
        RegsBut [] s t ∧
        t = { s with regs := t.regs, pwr := t.pwr }))

/-- A granted PLY_LO read captures the upper half of the ply number for its initiator. OPEN takes the lowest slot that is
FREE or final, with ID sequence times 16 plus slot, and makes the writer its owner; with no such slot the result is
NO_SLOT, and an initiator that may own no castling is answered NOT_CAPABLE. STAGE appends the entry of the writer's
bank; COMMIT arms the castling with WHEN 0 for the next ply, with WHEN 1 and 2 for the boundary and the strobe, with
WHEN 3 for its ply, or refuses a past ply with cause 6 (PAST); ABORT ends an OPEN or ARMED castling. A STAGE, COMMIT
or ABORT that fails a check of R148 only writes its code. Each result is in the writer's bank. (Rests on: R138, R145,
R146, R147, R148, R149, R150, R156, R157, R163.) -/
def Obligations.CastlingsOpenStageCommitAbort : Prop :=
    (∀ (s : State) (ini : Nat),
      s.stopSafe = true →
      MayRead s ini 0x40010000 →
      Does (.plyLoRead ini) s (fun t =>
        t.plyHiOf ini = s.ply / 2 ^ 32 % 2 ^ 32 ∧
        t.cast = { s.cast with plyHi := (ini, s.ply / 2 ^ 32 % 2 ^ 32) :: s.cast.plyHi.filter (fun e => e.1 ≠ ini) } ∧
        RegsBut [] s t ∧
        t = { s with regs := t.regs, cast := t.cast })) ∧
    (∀ (s : State) (ini n : Nat),
      s.stopSafe = true →
      MayWrite s ini 0x40010100 →
      capable ini = true →
      (List.range 16).find? s.castFree = some n →
      s.cast.seq ≤ 0xFFF →
      Does (.castOpen ini) s (fun t =>
        Reads t [(CAST_STAT_ID n, (if s.cast.seq = 0xFFF then 1 else s.cast.seq + 1) * 16 + n), (CAST_STAT_OWNER n, ini), (CAST_STAT_STATE n, 1), (CAST_INFO_ENTRIES n, 0), (CAST_INFO_WHEN n, 0), (CAST_INFO_CAUSE n, 0), (CAST_INFO_FAIL_INDEX n, 0), (CAST_RESULT_ID ini, (if s.cast.seq = 0xFFF then 1 else s.cast.seq + 1) * 16 + n), (CAST_RESULT_CODE ini, 0)] ∧
        t.cast = { s.cast with seq := (if s.cast.seq = 0xFFF then 1 else s.cast.seq + 1) } ∧
        RegsBut [CAST_STAT_ID n, CAST_STAT_OWNER n, CAST_STAT_STATE n, CAST_INFO_ENTRIES n, CAST_INFO_WHEN n, CAST_INFO_CAUSE n, CAST_INFO_FAIL_INDEX n, CAST_RESULT_ID ini, CAST_RESULT_CODE ini] s t ∧
        t = { s with regs := t.regs, cast := t.cast })) ∧
    (∀ (s : State) (ini : Nat),
      s.stopSafe = true →
      MayWrite s ini 0x40010100 →
      capable ini = true →
      (List.range 16).all (fun n => s.get (CAST_STAT_STATE n) == 1 || s.get (CAST_STAT_STATE n) == 2) = true →
      Does (.castOpen ini) s (fun t =>
        Reads t [(CAST_RESULT_CODE ini, 1)] ∧
        RegsBut [CAST_RESULT_ID ini, CAST_RESULT_CODE ini] s t ∧
        OnlyRegs s t)) ∧
    (∀ (s : State) (ini : Nat),
      s.stopSafe = true →
      MayWrite s ini 0x40010100 →
      capable ini = false →
      Does (.castOpen ini) s (fun t =>
        t.out = s.out ++ [.castCode ini 8] ∧
        RegsBut [] s t ∧
        t = { s with regs := t.regs, out := t.out })) ∧
    (∀ (s : State) (ini id : Nat),
      s.stopSafe = true →
      MayWrite s ini 0x40010100 →
      capable ini = true →
      s.get (CAST_STAT_STATE (id % 16)) = 1 →
      s.get (CAST_STAT_ID (id % 16)) = id →
      s.get (CAST_STAT_OWNER (id % 16)) = ini →
      id < 65536 →
      s.get (CAST_ADDR_VALUE ini) % 4 = 0 →
      (s.castEntries (id % 16)).length < 256 →
      s.cast.entries.length < 1024 →
      Does (.castStage ini id) s (fun t =>
        t.cast = { s.cast with entries := s.cast.entries ++ [(id % 16, ⟨s.get (CAST_ADDR_VALUE ini), s.get (CAST_DATA_VALUE ini), s.get (CAST_MASK_VALUE ini)⟩)] } ∧
        Reads t [(CAST_INFO_ENTRIES (id % 16), (s.castEntries (id % 16)).length + 1), (CAST_RESULT_ID ini, id), (CAST_RESULT_CODE ini, 0)] ∧
        RegsBut [CAST_INFO_ENTRIES (id % 16), CAST_RESULT_ID ini, CAST_RESULT_CODE ini] s t ∧
        t = { s with regs := t.regs, cast := t.cast })) ∧
    (∀ (s : State) (ini id : Nat),
      s.stopSafe = true →
      MayWrite s ini 0x40010100 →
      capable ini = true →
      s.castCheck ini id false ≠ 0 →
      id < 65536 →
      Does (.castStage ini id) s (fun t =>
        Reads t [(CAST_RESULT_ID ini, id), (CAST_RESULT_CODE ini, s.castCheck ini id false)] ∧
        RegsBut [CAST_RESULT_ID ini, CAST_RESULT_CODE ini] s t ∧
        OnlyRegs s t)) ∧
    (∀ (s : State) (ini id : Nat),
      s.stopSafe = true →
      MayWrite s ini 0x40010100 →
      capable ini = true →
      s.get (CAST_STAT_STATE (id % 16)) = 1 →
      s.get (CAST_STAT_ID (id % 16)) = id →
      s.get (CAST_STAT_OWNER (id % 16)) = ini →
      id < 65536 →
      Does (.castCommit ini id 0) s (fun t =>
        Reads t [(CAST_STAT_STATE (id % 16), 2), (CAST_INFO_WHEN (id % 16), 0), (CAST_RESULT_ID ini, id), (CAST_RESULT_CODE ini, 0)] ∧
        t.cast = { s.cast with commitAt := s.cast.commitAt ++ [(id % 16, s.ply + 1)], armedIn := s.cast.armedIn ++ [(id % 16, s.ply)], order := s.cast.order ++ [id % 16] } ∧
        RegsBut [CAST_STAT_STATE (id % 16), CAST_INFO_WHEN (id % 16), CAST_RESULT_ID ini, CAST_RESULT_CODE ini] s t ∧
        t = { s with regs := t.regs, cast := t.cast })) ∧
    (∀ (s : State) (ini id cond : Nat),
      s.stopSafe = true →
      MayWrite s ini 0x40010100 →
      capable ini = true →
      s.get (CAST_STAT_STATE (id % 16)) = 1 →
      s.get (CAST_STAT_ID (id % 16)) = id →
      s.get (CAST_STAT_OWNER (id % 16)) = ini →
      id < 65536 →
      cond = 1 ∨ cond = 2 →
      Does (.castCommit ini id cond) s (fun t =>
        Reads t [(CAST_STAT_STATE (id % 16), 2), (CAST_INFO_WHEN (id % 16), cond), (CAST_RESULT_ID ini, id), (CAST_RESULT_CODE ini, 0)] ∧
        t.cast = { s.cast with armedIn := s.cast.armedIn ++ [(id % 16, s.ply)], order := s.cast.order ++ [id % 16] } ∧
        RegsBut [CAST_STAT_STATE (id % 16), CAST_INFO_WHEN (id % 16), CAST_RESULT_ID ini, CAST_RESULT_CODE ini] s t ∧
        t = { s with regs := t.regs, cast := t.cast })) ∧
    (∀ (s : State) (ini id p : Nat),
      s.stopSafe = true →
      MayWrite s ini 0x40010100 →
      capable ini = true →
      s.get (CAST_STAT_STATE (id % 16)) = 1 →
      s.get (CAST_STAT_ID (id % 16)) = id →
      s.get (CAST_STAT_OWNER (id % 16)) = ini →
      id < 65536 →
      p = s.get (CAST_AT_LO_VALUE ini) + s.get (CAST_AT_HI_VALUE ini) * 2 ^ 32 →
      s.ply < p →
      Does (.castCommit ini id 3) s (fun t =>
        Reads t [(CAST_STAT_STATE (id % 16), 2), (CAST_INFO_WHEN (id % 16), 3), (CAST_RESULT_ID ini, id), (CAST_RESULT_CODE ini, 0)] ∧
        t.cast = { s.cast with commitAt := s.cast.commitAt ++ [(id % 16, p)], armedIn := s.cast.armedIn ++ [(id % 16, s.ply)], order := s.cast.order ++ [id % 16] } ∧
        RegsBut [CAST_STAT_STATE (id % 16), CAST_INFO_WHEN (id % 16), CAST_RESULT_ID ini, CAST_RESULT_CODE ini] s t ∧
        t = { s with regs := t.regs, cast := t.cast })) ∧
    (∀ (s : State) (ini id : Nat),
      s.stopSafe = true →
      MayWrite s ini 0x40010100 →
      capable ini = true →
      s.get (CAST_STAT_STATE (id % 16)) = 1 →
      s.get (CAST_STAT_ID (id % 16)) = id →
      s.get (CAST_STAT_OWNER (id % 16)) = ini →
      id < 65536 →
      s.get (CAST_AT_LO_VALUE ini) + s.get (CAST_AT_HI_VALUE ini) * 2 ^ 32 ≤ s.ply →
      Does (.castCommit ini id 3) s (fun t =>
        Reads t [(CAST_STAT_STATE (id % 16), 4), (CAST_INFO_CAUSE (id % 16), 6), (CAST_RESULT_ID ini, id), (CAST_RESULT_CODE ini, 0)] ∧
        t.cast = { s.cast with entries := s.cast.entries.filter (fun e => e.1 ≠ (id % 16)), commitAt := s.cast.commitAt.filter (fun e => e.1 ≠ (id % 16)), armedIn := s.cast.armedIn.filter (fun e => e.1 ≠ (id % 16)), order := s.cast.order.filter (· ≠ (id % 16)) } ∧
        RegsBut [CAST_STAT_STATE (id % 16), CAST_INFO_WHEN (id % 16), CAST_INFO_CAUSE (id % 16), CAST_INFO_FAIL_INDEX (id % 16), CAST_RESULT_ID ini, CAST_RESULT_CODE ini] s t ∧
        t = { s with regs := t.regs, cast := t.cast })) ∧
    (∀ (s : State) (ini id cond : Nat),
      s.stopSafe = true →
      MayWrite s ini 0x40010100 →
      capable ini = true →
      s.castCheck ini id false ≠ 0 →
      id < 65536 →
      Does (.castCommit ini id cond) s (fun t =>
        Reads t [(CAST_RESULT_ID ini, id), (CAST_RESULT_CODE ini, s.castCheck ini id false)] ∧
        RegsBut [CAST_RESULT_ID ini, CAST_RESULT_CODE ini] s t ∧
        OnlyRegs s t)) ∧
    (∀ (s : State) (ini id : Nat),
      s.stopSafe = true →
      MayWrite s ini 0x40010100 →
      capable ini = true →
      s.get (CAST_STAT_STATE (id % 16)) = 1 ∨ s.get (CAST_STAT_STATE (id % 16)) = 2 →
      s.get (CAST_STAT_ID (id % 16)) = id →
      s.get (CAST_STAT_OWNER (id % 16)) = ini →
      id < 65536 →
      Does (.castAbort ini id) s (fun t =>
        Reads t [(CAST_STAT_STATE (id % 16), 5), (CAST_INFO_CAUSE (id % 16), 0), (CAST_RESULT_ID ini, id), (CAST_RESULT_CODE ini, 0)] ∧
        t.cast = { s.cast with entries := s.cast.entries.filter (fun e => e.1 ≠ (id % 16)), commitAt := s.cast.commitAt.filter (fun e => e.1 ≠ (id % 16)), armedIn := s.cast.armedIn.filter (fun e => e.1 ≠ (id % 16)), order := s.cast.order.filter (· ≠ (id % 16)) } ∧
        RegsBut [CAST_STAT_STATE (id % 16), CAST_INFO_CAUSE (id % 16), CAST_INFO_FAIL_INDEX (id % 16), CAST_RESULT_ID ini, CAST_RESULT_CODE ini] s t ∧
        t = { s with regs := t.regs, cast := t.cast })) ∧
    (∀ (s : State) (ini id : Nat),
      s.stopSafe = true →
      MayWrite s ini 0x40010100 →
      capable ini = true →
      s.castCheck ini id true ≠ 0 →
      id < 65536 →
      Does (.castAbort ini id) s (fun t =>
        Reads t [(CAST_RESULT_ID ini, id), (CAST_RESULT_CODE ini, s.castCheck ini id true)] ∧
        RegsBut [CAST_RESULT_ID ini, CAST_RESULT_CODE ini] s t ∧
        OnlyRegs s t))

/-- With one castling due: where an entry fails its checks the castling ends REFUSED with the index and cause of the first
failing entry, an event record is submitted, and no register but the slot's own changes; where every entry passes it
ends LANDED, away from a superframe boundary with every register but SLOT_CTRL.BANK (R447) as the entries' writes
leave it, and an entry on TIME_ADDEND gives it the old value merged with the data under the mask. (Rests on: R150,
R151, R152, R153, R157.) -/
def Obligations.CastlingsLandOrAreRefusedWhole : Prop :=
    (∀ (s : State) (n k c : Nat),
      s.stopSafe = true →
      s.cast.order.filter s.castDue = [n] →
      s.castFail (s.get (CAST_STAT_OWNER n)) (s.castEntries n) 0 = some (k, c) →
      k < 256 →
      Does (.castlingLand) s (fun t =>
        Reads t [(CAST_STAT_STATE n, 4), (CAST_INFO_CAUSE n, c), (CAST_INFO_FAIL_INDEX n, k)] ∧
        t.cast = { s.cast with entries := s.cast.entries.filter (fun e => e.1 ≠ n), commitAt := s.cast.commitAt.filter (fun e => e.1 ≠ n), armedIn := s.cast.armedIn.filter (fun e => e.1 ≠ n), order := s.cast.order.filter (· ≠ n) } ∧
        t.evr = (s.record .castRefused (leBytes 2 (s.get (CAST_STAT_ID n)) ++ [c, k])).evr ∧
        RegsBut [CAST_STAT_STATE n, CAST_INFO_CAUSE n, CAST_INFO_FAIL_INDEX n, REC_CNT_QUEUE_DROP] s t ∧
        t = { s with regs := t.regs, cast := t.cast, evr := t.evr })) ∧
    (∀ (s : State) (n : Nat),
      s.stopSafe = true →
      s.cast.order.filter s.castDue = [n] →
      s.castFail (s.get (CAST_STAT_OWNER n)) (s.castEntries n) 0 = none →
      s.cast.boundaryNow = false →
      Does (.castlingLand) s (fun t =>
        Reads t [(CAST_STAT_STATE n, 3), (CAST_INFO_CAUSE n, 0), (CAST_INFO_FAIL_INDEX n, 0), (SLOT_CTRL_BANK, s.get SLOT_CTRL_BANK)] ∧
        t.cast = { s.cast with entries := s.cast.entries.filter (fun e => e.1 ≠ n), commitAt := s.cast.commitAt.filter (fun e => e.1 ≠ n), armedIn := s.cast.armedIn.filter (fun e => e.1 ≠ n), order := s.cast.order.filter (· ≠ n) } ∧
        RegsBut [CAST_STAT_STATE n, CAST_INFO_CAUSE n, CAST_INFO_FAIL_INDEX n, SLOT_CTRL_BANK] ((s.castEntries n).foldl State.castWrite s) t ∧
        t = { s with regs := t.regs, cast := t.cast })) ∧
    (∀ (s : State) (n d m : Nat),
      s.cast.order.filter s.castDue = [n] →
      s.castEntries n = [⟨0x40600010, d, m⟩] →
      s.castFail (s.get (CAST_STAT_OWNER n)) (s.castEntries n) 0 = none →
      s.wordReserved 105 0 (maskedField TIME_ADDEND_ADDEND (s.get TIME_ADDEND_ADDEND) d m) m = false →
      Does (.castlingLand) s (fun t =>
        Reads t [(CAST_STAT_STATE n, 3), (TIME_ADDEND_ADDEND, maskedField TIME_ADDEND_ADDEND (s.get TIME_ADDEND_ADDEND) d m)]))

/-- A granted TAKE by an initiator of R145 makes it the owner of a free semaphore and does nothing to a held one, whoever
holds it. In the ply in which an owner's reset freed the semaphore a TAKE does nothing; that this holds for the former
owner too is the model's choice (log 114). Nothing else changes. (Rests on: R164, R166.) -/
def Obligations.SemaphoreTakeSucceedsWhenFree : Prop :=
    (∀ (s : State) (ini n : Nat),
      s.stopSafe = true →
      n < 64 →
      MayWrite s ini (0x40010400 + 4 * n) →
      capable ini = true →
      s.bit (SEM_HELD n) = false →
      s.cast.freed.contains n = false →
      Does (.semTake ini n) s (fun t =>
        Reads t [(SEM_HELD n, 1), (SEM_OWNER n, ini)] ∧
        RegsBut [SEM_HELD n, SEM_OWNER n] s t ∧
        OnlyRegs s t)) ∧
    (∀ (s : State) (ini n : Nat),
      s.stopSafe = true →
      n < 64 →
      MayWrite s ini (0x40010400 + 4 * n) →
      capable ini = true →
      s.cast.freed.contains n = true →
      Does (.semTake ini n) s (fun t =>
        Reads t [(SEM_HELD n, s.get (SEM_HELD n)), (SEM_OWNER n, s.get (SEM_OWNER n))] ∧
        RegsBut [] s t ∧
        OnlyRegs s t)) ∧
    (∀ (s : State) (ini n : Nat),
      s.stopSafe = true →
      n < 64 →
      MayWrite s ini (0x40010400 + 4 * n) →
      capable ini = true →
      s.bit (SEM_HELD n) = true →
      Does (.semTake ini n) s (fun t =>
        Reads t [(SEM_HELD n, s.get (SEM_HELD n)), (SEM_OWNER n, s.get (SEM_OWNER n))] ∧
        RegsBut [] s t ∧
        OnlyRegs s t))

/-- A granted RELEASE frees the semaphore for its owner; from any other initiator, also on a free semaphore, it only sets
BAD_RELEASE. A write of both bits leaves the semaphore and the flags. Nothing else changes. (Rules: R165.) -/
def Obligations.SemaphoreReleaseByItsOwnerAlone : Prop :=
    (∀ (s : State) (ini n : Nat),
      s.stopSafe = true →
      n < 64 →
      MayWrite s ini (0x40010400 + 4 * n) →
      s.bit (SEM_HELD n) = true →
      s.get (SEM_OWNER n) = ini →
      Does (.semRelease ini n) s (fun t =>
        Reads t [(SEM_HELD n, 0), (SEM_OWNER n, 0)] ∧
        RegsBut [SEM_HELD n, SEM_OWNER n] s t ∧
        OnlyRegs s t)) ∧
    (∀ (s : State) (ini n : Nat),
      s.stopSafe = true →
      n < 64 →
      MayWrite s ini (0x40010400 + 4 * n) →
      s.bit (SEM_HELD n) = false ∨ s.get (SEM_OWNER n) ≠ ini →
      Does (.semRelease ini n) s (fun t =>
        Reads t [(SEM_BAD_RELEASE n, 1)] ∧
        RegsBut [SEM_BAD_RELEASE n] s t ∧
        OnlyRegs s t)) ∧
    (∀ (s : State) (ini n live : Nat),
      s.stopSafe = true →
      n < 64 →
      MayWrite s ini (0x40010400 + 4 * n) →
      Does (.registerWrite ini (0x40010400 + 4 * n) 3 live) s (fun t =>
        Reads t [(SEM_HELD n, s.get (SEM_HELD n)), (SEM_OWNER n, s.get (SEM_OWNER n)), (SEM_BAD_RELEASE n, s.get (SEM_BAD_RELEASE n)), (SEM_OWNER_RESET n, s.get (SEM_OWNER_RESET n))] ∧
        RegsBut [] s t ∧
        OnlyRegs s t))

/-- For every register whose write only stores: a granted write of a word that no key, no reserved encoding refuses leaves
each field as its access type and its lock say (RW stored, W1C cleared where written 1, W1S set, RO, WO and locked
fields left), and changes nothing else. A write of a LOCK bit is such a write. A granted read of a register that only
shows its fields answers the word of its fields, WO ones as 0, and clears its RC fields. In a register banked per
initiator both meet the initiator's own bank; an initiator without one writes nothing and reads 0 (R163). (Rests on:
R11, R12, R15, R163, R680, R681, R683, R684.) -/
def Obligations.RegistersStoreAndShowTheirFields : Prop :=
    (∀ (s : State) (ini addr data live : Nat) (r : RegRow) (i j : Nat),
      s.stopSafe = true →
      MayWrite s ini addr →
      addr % 4 = 0 →
      findReg addr regRows = some (r, i, j) →
      r.bank = .single ∨ r.bank.holds ini = true →
      actRegs.contains r.id = false →
      s.wordTaken r (if r.bank = .single then i else ini) j (s.mergeWord (r.flds (if r.bank = .single then i else ini) j) (data % 2 ^ 32) 0xFFFFFFFF) 0xFFFFFFFF = true →
      Does (.registerWrite ini addr data live) s (fun t =>
        (∀ g : Fld, t.get g = (s.puts ((r.flds (if r.bank = .single then i else ini) j).filterMap (s.fieldWrite r.id (if r.bank = .single then i else ini) (s.mergeWord (r.flds (if r.bank = .single then i else ini) j) (data % 2 ^ 32) 0xFFFFFFFF)))).get g) ∧
        OnlyRegs s t)) ∧
    (∀ (s : State) (ini addr data live : Nat) (r : RegRow) (i j : Nat),
      s.stopSafe = true →
      MayWrite s ini addr →
      addr % 4 = 0 →
      findReg addr regRows = some (r, i, j) →
      r.bank ≠ .single →
      r.bank.holds ini = false →
      r.id ≠ 15 →
      Does (.registerWrite ini addr data live) s (fun t =>
        t = s)) ∧
    (∀ (s : State) (ini addr data : Nat) (r : RegRow) (i j : Nat),
      s.stopSafe = true →
      MayWrite s ini addr →
      addr % 4 = 0 →
      findReg addr regRows = some (r, i, j) →
      r.bank = .single ∨ r.bank.holds ini = true →
      actRegs.contains r.id = false →
      s.wordTaken r (if r.bank = .single then i else ini) j (s.mergeWord (r.flds (if r.bank = .single then i else ini) j) (data % 2 ^ 32) 0xFFFFFFFF) 0xFFFFFFFF = true →
      (r.flds i j).any (fun f => f.acc == .w1s) = true →
      bitOf data 31 = true →
      Does (.lockBitSet ini addr data) s (fun t =>
        (∀ g : Fld, t.get g = (s.puts ((r.flds (if r.bank = .single then i else ini) j).filterMap (s.fieldWrite r.id (if r.bank = .single then i else ini) (s.mergeWord (r.flds (if r.bank = .single then i else ini) j) (data % 2 ^ 32) 0xFFFFFFFF)))).get g) ∧
        OnlyRegs s t)) ∧
    (∀ (s : State) (ini addr live : Nat) (r : RegRow) (i j : Nat),
      s.stopSafe = true →
      MayRead s ini addr →
      addr % 4 = 0 →
      findReg addr regRows = some (r, i, j) →
      r.bank = .single ∨ r.bank.holds ini = true →
      showRegs.contains r.id = false →
      Does (.registerRead ini addr live) s (fun t =>
        t.out = s.out ++ [.regValue ini addr (s.plainWord (r.flds (if r.bank = .single then i else ini) j))] ∧
        (∀ g : Fld, t.get g = (s.puts (((r.flds (if r.bank = .single then i else ini) j).filter (fun f => f.acc == .rc)).map (fun f => (f, 0)))).get g) ∧
        t = { s with regs := t.regs, out := t.out })) ∧
    (∀ (s : State) (ini addr live : Nat) (r : RegRow) (i j : Nat),
      s.stopSafe = true →
      MayRead s ini addr →
      addr % 4 = 0 →
      findReg addr regRows = some (r, i, j) →
      r.bank ≠ .single →
      r.bank.holds ini = false →
      Does (.registerRead ini addr live) s (fun t =>
        t = { s with out := s.out ++ [.regValue ini addr 0] }))

/-- While the ply counter is out of reset, no update asks for a cold reset and no register request is under way,
PLY_RESOLUTION with any samples and counts answers a state whose ply number is 1 greater, in which no superframe
boundary, no epoch strobe and no freed semaphore is noted for the next ply; the flash is unchanged. While the ply
counter is held in reset the ply number stays. (Rests on: R137, R139, R150.) -/
def Obligations.PlyResolutionAdvancesThePly : Prop :=
    (∀ (s : State) (sns fb rwdog aon : Nat) (ctsHigh : List Nat) (arb : List ArbSlot),
      s.rst.held.contains .ply = false →
      s.boot.coldAt = none →
      s.ecp.jobs = [] →
      Does (.plyResolution sns fb rwdog aon ctsHigh arb) s (fun t =>
        t.ply = s.ply + 1 ∧
        t.cast.boundaryNow = false ∧ t.cast.strobeNow = false ∧ t.cast.freed = [] ∧
        t.flash = s.flash)) ∧
    (∀ (s : State) (sns fb rwdog aon : Nat) (ctsHigh : List Nat) (arb : List ArbSlot),
      s.stopSafe = true →
      s.rst.held.contains .ply = true →
      Does (.plyResolution sns fb rwdog aon ctsHigh arb) s (fun t =>
        t.pwr.aon = s.pwr.aon + aon ∧
        RegsBut [REC_AON_OH_SECONDS, REC_AON_SUB_MS] s t ∧
        t = { s with regs := t.regs, pwr := t.pwr }))

/-- Where the judgement of R680 denies an access, a read answers 0 and a write leaves every register; both advance
FW_VIOLATIONS and submit an event record with the address and the initiator; nothing else changes. Through ECP an
entry of REG_WRITE or REG_READ so denied has the status DENIED. (Rules: R170.) -/
def Obligations.DeniedAccessesAreCountedAndNothingElse : Prop :=
    (∀ (s : State) (ini addr live : Nat),
      s.stopSafe = true →
      addr % 4 = 0 →
      s.judge ini addr false = .denied →
      Does (.registerRead ini addr live) s (fun t =>
        t.out = s.out ++ [.regValue ini addr 0] ∧
        Reads t [(FW_STATUS_FW_VIOLATIONS, s.adv FW_STATUS_FW_VIOLATIONS)] ∧
        t.evr = (s.record .fwViolation (leBytes 4 addr ++ [ini]) ini).evr ∧
        RegsBut [FW_STATUS_FW_VIOLATIONS, REC_CNT_QUEUE_DROP] s t ∧
        t = { s with regs := t.regs, out := t.out, evr := t.evr })) ∧
    (∀ (s : State) (ini addr data live : Nat),
      s.stopSafe = true →
      ini ≠ 0x30 →
      addr % 4 = 0 →
      s.judge ini addr true = .denied →
      Does (.registerWrite ini addr data live) s (fun t =>
        Reads t [(FW_STATUS_FW_VIOLATIONS, s.adv FW_STATUS_FW_VIOLATIONS)] ∧
        t.evr = (s.record .fwViolation (leBytes 4 addr ++ [ini]) ini).evr ∧
        RegsBut [FW_STATUS_FW_VIOLATIONS, REC_CNT_QUEUE_DROP] s t ∧
        OnlyRegsEvr s t)) ∧
    (∀ (s : State) (ini addr data mask live : Nat), ini ≠ 0x30 → addr % 4 = 0 → s.judge ini addr true = .denied →
      (s.regWrite ini addr data mask live true).2 = Ecp.DENIED) ∧
    (∀ (s : State) (ini addr live : Nat), addr % 4 = 0 → s.judge ini addr false = .denied → (s.regRead ini addr live).2.2 = Ecp.DENIED)

/-- A datagram to the ECP port of a served Ethernet port that is whole, has its MAGIC, size and CRC, VERSION 1 and at most
1408 payload bytes, from the source of an open unauthenticated session, runs the opcode of its header with its TAG and
payload, and so does the oldest frame of the SPI receive buffer; NOP is answered with its payload. With SPI_EN set, a
whole frame written over SPI enters the receive buffer while it has room, and beyond 4 frames sets RX_OVERRUN and is
counted; READ_STATUS answers the size of the next outgoing frame with RX_READY and RX_OVERRUN, which clears;
READ_FRAME shows as many bytes of the next frame as are clocked, 0x00 beyond it, and removes it once all of it has
been clocked. (Rests on: R172, R174, R176, R177, R178, R180, R182, R184.) -/
def Obligations.EcpFramesReachTheirOpcode : Prop :=
    (∀ (s : State) (p a u dst : Nat) (frame : List Nat) (live : Nat) (sram : Option (List Nat)) (readBack : Bool) (err : Option (Bool × Nat × Nat)) (x : EcpSession),
      s.rst.held.contains .sys = false →
      s.ecpServed p dst = true →
      s.sessFrom { spi := false, port := p, ip := a, udp := u } = some x →
      20 ≤ frame.length →
      leAt frame 0 2 = 0x4543 →
      frame.length = frameSize frame →
      x.auth = false →
      bitOf (leAt frame 3 1) 1 = false →
      leAt frame (16 + leAt frame 10 2) 4 = crc32c (frame.take (16 + leAt frame 10 2)) →
      leAt frame 2 1 = 1 →
      leAt frame 10 2 ≤ 1408 →
      s.session x.id = some x →
      leAt frame 4 2 = 0x0100 →
      s.accepts 0x0100 x.id (leAt frame 6 2) false = true →
      Does (.ecpFrameReceive false p a u dst false frame live sram readBack err) s (fun t =>
        answers s t [] 0x0100 x.id (leAt frame 6 2) Ecp.OK 0 ((frame.drop 16).take (leAt frame 10 2)) = true ∧
        t = { s with regs := t.regs, ecp := t.ecp, out := t.out })) ∧
    (∀ (s : State) (bytes : List Nat),
      s.stopSafe = true →
      s.bit ECP_CTRL_SPI_EN = true →
      bytes.length = frameSize bytes →
      s.ecp.spiRx.length < 4 →
      Does (.spiWriteFrame bytes) s (fun t =>
        t.ecp = { s.ecp with spiRx := s.ecp.spiRx ++ [bytes] } ∧
        RegsBut [] s t ∧
        t = { s with regs := t.regs, ecp := t.ecp })) ∧
    (∀ (s : State) (bytes : List Nat),
      s.stopSafe = true →
      s.bit ECP_CTRL_SPI_EN = true →
      4 ≤ s.ecp.spiRx.length →
      Does (.spiWriteFrame bytes) s (fun t =>
        t.ecp = { s.ecp with spiOverrun := true } ∧
        Reads t [(ECP_CNT_A_DROP_FRAME, s.adv ECP_CNT_A_DROP_FRAME)] ∧
        RegsBut [ECP_CNT_A_DROP_FRAME] s t ∧
        t = { s with regs := t.regs, ecp := t.ecp })) ∧
    (∀ (s : State),
      s.stopSafe = true →
      s.bit ECP_CTRL_SPI_EN = true →
      Does (.spiReadStatus) s (fun t =>
        t.out = s.out ++ [.spi (leBytes 2 ((s.ecp.spiOut.head?.map EcpFrame.size).getD 0) ++ [b2n (s.ecp.spiRx.length < 4) + 2 * b2n s.ecp.spiOverrun, 0])] ∧
        t.ecp = { s.ecp with spiOverrun := false } ∧
        RegsBut [] s t ∧
        t = { s with regs := t.regs, ecp := t.ecp, out := t.out })) ∧
    (∀ (s : State) (f : EcpFrame) (rest : List EcpFrame) (clocked : Nat),
      s.stopSafe = true →
      s.bit ECP_CTRL_SPI_EN = true →
      s.ecp.spiOut = f :: rest →
      f.size ≤ clocked →
      Does (.spiReadFrame clocked) s (fun t =>
        t.out = s.out ++ [.spi (f.wire.take clocked ++ List.replicate (clocked - f.wire.length) 0)] ∧
        t.ecp = { s.ecp with spiOut := rest } ∧
        RegsBut [] s t ∧
        t = { s with regs := t.regs, ecp := t.ecp, out := t.out })) ∧
    (∀ (s : State) (f : EcpFrame) (rest : List EcpFrame) (clocked : Nat),
      s.stopSafe = true →
      s.bit ECP_CTRL_SPI_EN = true →
      s.ecp.spiOut = f :: rest →
      clocked < f.size →
      Does (.spiReadFrame clocked) s (fun t =>
        t.out = s.out ++ [.spi (f.wire.take clocked ++ List.replicate (clocked - f.wire.length) 0)] ∧
        RegsBut [] s t ∧
        t = { s with regs := t.regs, out := t.out })) ∧
    (∀ (s : State) (clocked : Nat),
      s.stopSafe = true →
      s.bit ECP_CTRL_SPI_EN = true →
      s.ecp.spiOut = [] →
      Does (.spiReadFrame clocked) s (fun t =>
        t.out = s.out ++ [.spi (List.replicate clocked 0)] ∧
        RegsBut [] s t ∧
        t = { s with regs := t.regs, out := t.out })) ∧
    (∀ (s : State) (p a u dst live : Nat) (frame : List Nat) (sram : Option (List Nat)) (readBack : Bool) (err : Option (Bool × Nat × Nat)) (x : EcpSession),
      s.rst.held.contains .sys = false → s.ecpServed p dst = true → s.sessFrom { spi := false, port := p, ip := a, udp := u } = some x → 20 ≤ frame.length → leAt frame 0 2 = 0x4543 → frame.length = frameSize frame → x.auth = false → bitOf (leAt frame 3 1) 1 = false → leAt frame (16 + leAt frame 10 2) 4 = crc32c (frame.take (16 + leAt frame 10 2)) → leAt frame 2 1 = 1 → leAt frame 10 2 ≤ 1408 → s.session x.id = some x →
      exec (.ecpFrameReceive false p a u dst false frame live sram readBack err) s =
        State.ecpDispatch (s.setSession { x with lastAt := s.ply }) { live := live, sram := sram, readBack := readBack, err := err } (leAt frame 4 2) x.id (leAt frame 6 2) ((frame.drop 16).take (leAt frame 10 2))) ∧
    (∀ (s : State) (p a u dst live : Nat) (g frame : List Nat) (rest : List (List Nat)) (frag : Bool) (sram : Option (List Nat)) (readBack : Bool) (err : Option (Bool × Nat × Nat)) (x : EcpSession),
      s.rst.held.contains .sys = false → s.ecp.spiRx = frame :: rest → x.id = 8 → 20 ≤ frame.length → leAt frame 0 2 = 0x4543 → frame.length = frameSize frame → x.auth = false → bitOf (leAt frame 3 1) 1 = false → leAt frame (16 + leAt frame 10 2) 4 = crc32c (frame.take (16 + leAt frame 10 2)) → leAt frame 2 1 = 1 → leAt frame 10 2 ≤ 1408 → s.session x.id = some x →
      exec (.ecpFrameReceive true p a u dst frag g live sram readBack err) s =
        State.ecpDispatch (State.setSession { s with ecp := { s.ecp with spiRx := rest } } { x with lastAt := s.ply }) { live := live, sram := sram, readBack := readBack, err := err } (leAt frame 4 2) 8 (leAt frame 6 2) ((frame.drop 16).take (leAt frame 10 2)))

/-- An accepted NOP answers its payload and STATUS the 32 bytes of R191. SESSION_OPEN with MODE 0 replaces the carrying
session by a new unauthenticated one, whose first frame is the answer under SEQUENCE 1; with MODE 1 and an HMAC key
enabled for ECP the new session is authenticated under the key derived from the slot. SESSION_CLOSE answers and
closes; 60 s without a frame close. RESET answers and notes HOST_SYS, which asserts its reach 1 ms later. NIGHT in the
stop state with the crystal running answers OK, else DENIED. The answer carries the next SEQUENCE of the session on
its transport. (Rests on: R178, R179, R181, R183, R185, R189, R191, R95, R110.) -/
def Obligations.EcpSystemOpcodesAnswer : Prop :=
    (∀ (s : State) (sess tag : Nat) (pay : List Nat),
      s.stopSafe = true →
      s.accepts 0x0100 sess tag false = true →
      pay.length ≤ 1408 →
      Does (.nop sess tag pay) s (fun t =>
        answers s t [] 0x0100 sess tag Ecp.OK (crc32c pay) pay = true ∧
        RegsBut [] s t ∧
        t = { s with regs := t.regs, ecp := t.ecp, out := t.out })) ∧
    (∀ (s : State) (sess tag : Nat),
      s.stopSafe = true →
      s.accepts 0x0101 sess tag false = true →
      Does (.status sess tag) s (fun t =>
        answers s t [] 0x0101 sess tag Ecp.OK (crc32c []) s.statusBytes = true ∧
        RegsBut [] s t ∧
        t = { s with regs := t.regs, ecp := t.ecp, out := t.out })) ∧
    (∀ (s : State) (sess tag : Nat) (pay : List Nat) (x : EcpSession),
      s.accepts 0x0102 sess tag false = true →
      s.session sess = some x →
      pay.length = 20 →
      leAt pay 2 1 = 0 →
      s.bit KS_STATUS_TRNG_FAIL = false →
      Does (.sessionOpen sess tag pay) s (fun t =>
        (t.session sess).any (fun y => !y.auth && y.devSeq == 1 && y.streams.isEmpty && y.inProg.isEmpty && y.port == x.port && y.ip == x.ip && y.udp == x.udp) = true ∧
        t.freeCtr = s.freeCtr + 1 ∧
        sends s t x [] [⟨0x0102, tag, Ecp.OK, 1, 1, [sess, 0, 0, 0] ++ leBytes 4 1 ++ leBytes 16 s.freeVal, []⟩] = true ∧
        t = { s with regs := t.regs, ecp := t.ecp, out := t.out, freeCtr := t.freeCtr, boot := t.boot })) ∧
    (∀ (s : State) (sess tag : Nat) (pay : List Nat) (x : EcpSession),
      s.accepts 0x0102 sess tag false = true →
      s.session sess = some x →
      pay.length = 20 →
      leAt pay 2 1 = 1 →
      s.ecpKeyStatus (leAt pay 0 2) = Ecp.OK →
      s.bit KS_STATUS_TRNG_FAIL = false →
      Does (.sessionOpen sess tag pay) s (fun t =>
        (t.session sess).map (fun (y : EcpSession) => (y.auth, y.devSeq, y.keySlot)) = some (true, 1, leAt pay 0 2) ∧
        (t.session sess).map (fun (y : EcpSession) => y.key) = some (kdf (s.keyBytes (leAt pay 0 2)) sessLabel ((pay.drop 4).take 16 ++ leBytes 16 s.freeVal) 256) ∧
        t.freeCtr = s.freeCtr + 1 ∧
        sends s t x [] [⟨0x0102, tag, Ecp.OK, 3, 1, [sess, 0, 0, 0] ++ leBytes 4 1 ++ leBytes 16 s.freeVal, kdf (s.keyBytes (leAt pay 0 2)) sessLabel ((pay.drop 4).take 16 ++ leBytes 16 s.freeVal) 256⟩] = true ∧
        t = { s with regs := t.regs, ecp := t.ecp, out := t.out, freeCtr := t.freeCtr, boot := t.boot })) ∧
    (∀ (s : State) (sess tag : Nat) (x : EcpSession),
      s.accepts 0x0103 sess tag false = true →
      s.session sess = some x →
      s.ecp.closing = none →
      Does (.sessionClose sess tag) s (fun t =>
        t.ecp.sessions = s.ecp.sessions.filter (fun z => z.id ≠ sess) ∧
        sends s t x [] [⟨0x0103, tag, Ecp.OK, respFlags x, x.devSeq + 1, [], x.key⟩] = true ∧
        t = { s with regs := t.regs, ecp := t.ecp, out := t.out, boot := t.boot })) ∧
    (∀ (s : State) (sess : Nat) (x : EcpSession),
      s.stopSafe = true →
      s.session sess = some x →
      x.lastAt + 6000000 ≤ s.ply →
      Does (.sessionIdleTimeout sess) s (fun t =>
        t.ecp = { s.ecp with sessions := s.ecp.sessions.filter (fun z => z.id ≠ sess), jobs := t.ecp.jobs } ∧
        RegsBut [] s t ∧
        t = { s with regs := t.regs, ecp := t.ecp, boot := t.boot })) ∧
    (∀ (s : State) (sess tag : Nat),
      s.stopSafe = true →
      s.accepts 0x0104 sess tag false = true →
      Does (.ecpReset sess tag) s (fun t =>
        answers s t [] 0x0104 sess tag Ecp.OK (crc32c []) [] = true ∧
        t.ecp.resetPending = some s.ply ∧
        RegsBut [] s t ∧
        t = { s with regs := t.regs, ecp := t.ecp, out := t.out })) ∧
    (∀ (s : State) (p : Nat),
      s.ecp.resetPending = some p →
      p + 100 ≤ s.ply →
      Does (.hostSysAssert) s (fun t =>
        Asserted 13 t ∧
        AssertFrame 13 s t)) ∧
    (∀ (s : State) (sess tag : Nat),
      s.stopSafe = true →
      s.accepts 0x0105 sess tag false = true →
      s.bit ROOK_STATE_STOP = true →
      s.bit CLK_STATUS_AON_XTAL_OK = true →
      Does (.night sess tag) s (fun t =>
        answers s t [] 0x0105 sess tag Ecp.OK (crc32c []) [] = true ∧
        RegsBut [] s t ∧
        t = { s with regs := t.regs, ecp := t.ecp, out := t.out })) ∧
    (∀ (s : State) (sess tag : Nat),
      s.stopSafe = true →
      s.accepts 0x0105 sess tag false = true →
      (s.bit ROOK_STATE_STOP && s.bit CLK_STATUS_AON_XTAL_OK) = false →
      Does (.night sess tag) s (fun t =>
        answers s t [] 0x0105 sess tag Ecp.DENIED (crc32c []) [] = true ∧
        RegsBut [] s t ∧
        t = { s with regs := t.regs, ecp := t.ecp, out := t.out }))

/-- RESULT_GET answers the held result of its TAG with REPEAT set once it has been sent, IN_PROGRESS for a request under
way and UNKNOWN_TAG for any other TAG; TAG_RETIRE discards the held results of the tags it lists that are not in
progress, and answers how many it did and did not; REG_READ of a register that only shows its fields answers its word,
and REG_WRITE of one entry on a register that only stores applies it and answers 1 entry applied, FAIL 0xFFFF, where
no register request of the initiator is under way; STREAM_OPEN adds a stream under the lowest free ID and STREAM_CLOSE
removes it; a request in progress that completes is answered with its opcode and is held; the messages whose deadline
has passed are lost, and advance STREAM_LOST and the LOST count of their stream. (Rests on: R184, R186, R187, R188,
R192, R193, R194, R195.) -/
def Obligations.EcpResultsRegistersAndStreams : Prop :=
    (∀ (s : State) (sess tag : Nat) (x : EcpSession) (y : EcpHeld),
      s.session sess = some x →
      s.bit ECP_CTRL_AUTH_REQ = false ∨ x.auth = true →
      s.inProgFull x = false →
      s.sessSends x = true →
      x.devSeq < 0xFFFFFFFF →
      sess = 8 → s.ecp.spiOut.length < 16 →
      x.inProg.find? (fun z => z.tag == tag) = none →
      x.held.find? (fun z => z.tag == tag) = some y →
      heldStatus y.status = true →
      Does (.resultGet sess tag) s (fun t =>
        sends s t x [] [⟨y.op, tag, y.status, respFlags x + (if y.sent then 4 else 0), x.devSeq + 1, y.payload, x.key⟩] = true ∧
        t.session sess = some { x with devSeq := x.devSeq + 1, held := x.held.map (fun z => if z.tag == tag then { z with sent := true } else z) } ∧
        onlySession s t sess = true ∧
        t = { s with ecp := t.ecp, out := t.out })) ∧
    (∀ (s : State) (sess tag : Nat) (x : EcpSession) (y : EcpOpen),
      s.session sess = some x →
      s.bit ECP_CTRL_AUTH_REQ = false ∨ x.auth = true →
      s.inProgFull x = false →
      s.sessSends x = true →
      x.devSeq < 0xFFFFFFFF →
      sess = 8 → s.ecp.spiOut.length < 16 →
      x.inProg.find? (fun z => z.tag == tag) = some y →
      Does (.resultGet sess tag) s (fun t =>
        sends s t x [] [⟨y.op, tag, Ecp.IN_PROGRESS, respFlags x, x.devSeq + 1, s.progressBytes sess tag, x.key⟩] = true ∧
        t.session sess = some { x with devSeq := x.devSeq + 1 } ∧
        onlySession s t sess = true ∧
        t = { s with ecp := t.ecp, out := t.out })) ∧
    (∀ (s : State) (sess tag : Nat) (x : EcpSession),
      s.session sess = some x →
      s.bit ECP_CTRL_AUTH_REQ = false ∨ x.auth = true →
      s.inProgFull x = false →
      s.sessSends x = true →
      x.devSeq < 0xFFFFFFFF →
      sess = 8 → s.ecp.spiOut.length < 16 →
      x.inProg.find? (fun z => z.tag == tag) = none →
      x.held.find? (fun z => z.tag == tag) = none →
      Does (.resultGet sess tag) s (fun t =>
        sends s t x [] [⟨0x0106, tag, Ecp.UNKNOWN_TAG, respFlags x, x.devSeq + 1, [], x.key⟩] = true ∧
        t.session sess = some { x with devSeq := x.devSeq + 1 } ∧
        onlySession s t sess = true ∧
        t = { s with ecp := t.ecp, out := t.out })) ∧
    (∀ (s : State) (sess tag n : Nat) (pay : List Nat) (x : EcpSession),
      s.accepts 0x0107 sess tag false = true →
      s.session sess = some x →
      n = leAt pay 0 2 →
      1 ≤ n →
      n ≤ 64 →
      pay.length = 2 + 2 * n →
      Does (.tagRetire sess tag pay) s (fun t =>
        (t.session sess).map (fun (y : EcpSession) => y.held) = some (x.held.filter (fun h => !(((List.range n).map (fun k => leAt pay (2 + 2 * k) 2)).contains h.tag && !x.inProg.any (fun z => z.tag == h.tag)))) ∧
        sends s t x [] [⟨0x0107, tag, Ecp.OK, respFlags x, x.devSeq + 1, leBytes 2 (retireTags ((List.range n).map (fun k => leAt pay (2 + 2 * k) 2)) x 0 0).2.1 ++ leBytes 2 (retireTags ((List.range n).map (fun k => leAt pay (2 + 2 * k) 2)) x 0 0).2.2, x.key⟩] = true ∧
        onlySession s t sess = true ∧
        t = { s with ecp := t.ecp, out := t.out })) ∧
    (∀ (s : State) (sess tag a live : Nat) (r : RegRow) (i j : Nat),
      s.stopSafe = true →
      s.accepts 0x0F00 sess tag false = true →
      s.regBusy (sessIni sess) = false →
      MayRead s (sessIni sess) a →
      a % 4 = 0 →
      a < 2 ^ 32 →
      findReg a regRows = some (r, i, j) →
      r.bank = .single ∨ r.bank.holds (sessIni sess) = true →
      showRegs.contains r.id = false →
      Does (.regRead sess tag ((leBytes 4 a ++ [1, 0, 0, 0])) live) s (fun t =>
        answers s t [] 0x0F00 sess tag Ecp.OK (crc32c (leBytes 4 a ++ [1, 0, 0, 0])) (leBytes 4 (s.plainWord (r.flds (if r.bank = .single then i else sessIni sess) j))) = true ∧
        (∀ g : Fld, t.get g = (s.puts (((r.flds (if r.bank = .single then i else sessIni sess) j).filter (fun f => f.acc == .rc)).map (fun f => (f, 0)))).get g) ∧
        t = { s with regs := t.regs, ecp := t.ecp, out := t.out })) ∧
    (∀ (s : State) (sess tag a data mask live : Nat) (r : RegRow) (i j : Nat),
      s.stopSafe = true →
      s.accepts 0x0F01 sess tag false = true →
      s.regBusy (sessIni sess) = false →
      s.judge (sessIni sess) a true = .ok →
      a % 4 = 0 →
      a < 2 ^ 32 →
      data < 2 ^ 32 →
      mask < 2 ^ 32 →
      findReg a regRows = some (r, i, j) →
      r.bank = .single ∨ r.bank.holds (sessIni sess) = true →
      actRegs.contains r.id = false →
      (r.flds (if r.bank = .single then i else sessIni sess) j).all (fun f => f.of mask == 0 || (f.acc != .ro && !s.locked r.id (if r.bank = .single then i else sessIni sess) f)) = true →
      s.wordTaken r (if r.bank = .single then i else sessIni sess) j (s.mergeWord (r.flds (if r.bank = .single then i else sessIni sess) j) data mask) mask = true →
      Does (.regWrite sess tag (([1, 0, 0, 0] ++ leBytes 4 a ++ leBytes 4 data ++ leBytes 4 mask)) live) s (fun t =>
        answers s t [] 0x0F01 sess tag Ecp.OK (crc32c ([1, 0, 0, 0] ++ leBytes 4 a ++ leBytes 4 data ++ leBytes 4 mask)) [1, 0, 0xFF, 0xFF, 0, 0, 0, 0] = true ∧
        (∀ g : Fld, t.get g = (s.puts ((r.flds (if r.bank = .single then i else sessIni sess) j).filterMap (s.fieldWrite r.id (if r.bank = .single then i else sessIni sess) (s.mergeWord (r.flds (if r.bank = .single then i else sessIni sess) j) data mask)))).get g) ∧
        t = { s with regs := t.regs, ecp := t.ecp, out := t.out })) ∧
    (∀ (s : State) (sess tag : Nat) (ty : Nat) (x : EcpSession),
      s.stopSafe = true →
      s.accepts 0x0F10 sess tag false = true →
      1 ≤ ty →
      ty ≤ 5 →
      s.session sess = some x →
      x.streams.length < 8 →
      s.streamCount < 16 →
      Does (.streamOpen sess tag ([ty, 0, 0, 0, 0, 0])) s (fun t =>
        answers s t [] 0x0F10 sess tag Ecp.OK (crc32c [ty, 0, 0, 0, 0, 0]) [freeStreamId x, 0, 0, 0] = true ∧
        (t.session sess).map (fun (y : EcpSession) => y.streams) = some (x.streams ++ [{ id := freeStreamId x, typ := ty, param := 0 }]) ∧
        RegsBut [] s t ∧
        t = { s with regs := t.regs, ecp := t.ecp, out := t.out })) ∧
    (∀ (s : State) (sess tag : Nat) (k : Nat) (x : EcpSession),
      s.stopSafe = true →
      s.accepts 0x0F11 sess tag false = true →
      k < 256 →
      s.session sess = some x →
      x.streams.any (fun u => u.id == k) = true →
      Does (.streamClose sess tag ([k, 0, 0, 0])) s (fun t =>
        answers s t [] 0x0F11 sess tag Ecp.OK (crc32c [k, 0, 0, 0]) [] = true ∧
        (t.session sess).map (fun (y : EcpSession) => y.streams) = some (x.streams.filter (fun u => u.id ≠ k)) ∧
        RegsBut [] s t ∧
        t = { s with regs := t.regs, ecp := t.ecp, out := t.out })) ∧
    (∀ (s : State) (sess tag st : Nat) (pay : List Nat) (x : EcpSession) (y : EcpOpen),
      s.stopSafe = true →
      s.session sess = some x →
      x.inProg.find? (fun z => z.tag == tag) = some y →
      heldStatus st = true →
      st ≠ Ecp.INTERNAL_ERROR →
      unheldOp y.op = false →
      s.sessSends x = true →
      x.devSeq < 0xFFFFFFFF →
      sess = 8 → s.ecp.spiOut.length < 16 →
      Does (.requestFinalResponse sess tag st pay) s (fun t =>
        sends s t x [] [⟨y.op, tag, st, respFlags x, x.devSeq + 1, pay, x.key⟩] = true ∧
        t.session sess = some { x with devSeq := x.devSeq + 1, inProg := x.inProg.filter (fun z => z.tag ≠ tag), held := (holdResult x ⟨tag, y.op, y.crc, st, pay, true⟩).held } ∧
        onlySession s t sess = true ∧
        RegsBut [] s t ∧
        t = { s with regs := t.regs, ecp := t.ecp, out := t.out })) ∧
    (∀ (s : State) (sess stream n : Nat) (x : EcpSession) (u : EcpStream),
      s.stopSafe = true →
      s.session sess = some x →
      x.streams.find? (fun z => z.id == stream) = some u →
      n = (u.queue.filter (fun m => m.dead.any (· < s.ply))).length →
      Does (.streamMessageLost sess stream) s (fun t =>
        Reads t [(ECP_CNT_C_STREAM_LOST, s.adv ECP_CNT_C_STREAM_LOST n)] ∧
        (t.session sess).map (fun (y : EcpSession) => y.streams.find? (fun z => z.id == stream)) = some (some { u with queue := u.queue.filter (fun m => !m.dead.any (· < s.ply)), lost := min (u.lost + n) 0xFFFF }) ∧
        onlySession s t sess = true ∧
        RegsBut [ECP_CNT_C_STREAM_LOST] s t ∧
        t = { s with regs := t.regs, ecp := t.ecp }))

/-- A lost clock or a cleared EN takes a link to DOWN; from LOCKED, every running channel of its front end is lost with
cause 3 and no other channel changes state, and the entry being served for it waits, BUSY clear. From HUNT, three good
frames after 64 good samples lock the link: the latency is shown, RELOCKS counts, the event is recorded, and an entry
that has waited no more than 1 s goes on. In LOCKED a good frame shows its fields and the violations count in
ALIGN_ERR, a bad one counts in CRC_ERR, and the fourth bad one in a row or 8 violations take the link to HUNT, losing
the channels as above; the samples less the DC estimate go to the correlators. In HUNT, 64 good samples and good
frames are counted; a frame on a DOWN link with EN set takes it to HUNT, and with EN clear changes only that the clock
is present. The CTL frame being sent reaches the front end while EN is set, and a good one is applied. Beside lost
channels with their search entries and event records, nothing else changes. (Rests on: R199, R200, R201, R202, R203,
R204, R205, R206, R228, R251.) -/
def Obligations.FrontEndLinks : Prop :=
    (∀ (s : State) (f : Nat) (lost : Bool),
      s.stopSafe = true →
      f < 2 →
      lost = true ∨ s.bit (FE_CTRL_EN f) = false →
      s.get (FE_STATUS_LINK f) ≠ 2 →
      Does (.feLinkDown f lost) s (fun t =>
        Reads t [(FE_STATUS_LINK f, 0)] ∧
        t.feSt f = { s.feSt f with clkOk := (s.feSt f).clkOk && !lost } ∧
        RegsBut [FE_STATUS_LINK f] s t ∧
        t = { (s.setFe f (t.feSt f)) with regs := t.regs })) ∧
    (∀ (s : State) (f : Nat) (lost : Bool),
      s.stopSafe = true →
      f < 2 →
      lost = true ∨ s.bit (FE_CTRL_EN f) = false →
      s.get (FE_STATUS_LINK f) = 2 →
      Does (.feLinkDown f lost) s (fun t =>
        Reads t [(FE_STATUS_LINK f, 0)] ∧
        (List.range 256).all (fun d => !(s.chRuns d && s.get (CH_CFG_FE d) == f) || (decide (t.get (CH_STATUS_STATE d) ≤ 1) && t.get (CH_STATUS_LOST d) == 1 && t.get (CH_STATUS_LOSS_CAUSE d) == 3)) = true ∧
        (List.range 256).all (fun d => (s.chRuns d && s.get (CH_CFG_FE d) == f) || t.get (CH_STATUS_STATE d) == s.get (CH_STATUS_STATE d)) = true ∧
        t.feSt f = { s.feSt f with clkOk := (s.feSt f).clkOk && !lost, badFrames := 0, relocked := true, first1 := true, first5 := true, corr := [], frmRun := 0, frmOk := false, goodFrames := 0 } ∧
        t.gnss.acq.waitAt = (match s.acqServing with | some n => if s.get (ACQ_ENT_W0_FE n) = f then some s.ply else s.gnss.acq.waitAt | none => s.gnss.acq.waitAt) ∧
        s.acqServing.all (fun n => s.get (ACQ_ENT_W0_FE n) != f || t.get ACQ_STATUS_BUSY == 0) = true ∧
        RegsBut (FE_STATUS_LINK f :: ACQ_STATUS_BUSY :: lossRegs) s t ∧
        t = { (s.setFe f (t.feSt f)) with regs := t.regs, evr := t.evr, gnss := { (s.setFe f (t.feSt f)).gnss with acq := t.gnss.acq, lost := t.gnss.lost } })) ∧
    (∀ (s : State) (f lat : Nat),
      s.stopSafe = true →
      f < 2 →
      lat < 65536 →
      s.get (FE_STATUS_LINK f) = 1 →
      3 ≤ (s.feSt f).goodFrames →
      s.acqServing = none ∨ s.gnss.acq.waitAt = none →
      Does (.feLinkLocked f lat) s (fun t =>
        Reads t [(FE_STATUS_LINK f, 2), (FE_LINK_FIFO_LAT f, lat), (FE_CNT_RELOCKS f, s.adv (FE_CNT_RELOCKS f))] ∧
        t.evr = (s.record .feRelock [f]).evr ∧
        t.feSt f = { s.feSt f with badFrames := 0, relocked := true, first1 := true, first5 := true, dcSums := [] } ∧
        RegsBut [FE_STATUS_LINK f, FE_LINK_FIFO_LAT f, FE_CNT_RELOCKS f, REC_CNT_QUEUE_DROP] s t ∧
        t = { (s.setFe f (t.feSt f)) with regs := t.regs, evr := t.evr })) ∧
    (∀ (s : State) (f lat n p : Nat),
      s.stopSafe = true →
      f < 2 →
      lat < 65536 →
      s.get (FE_STATUS_LINK f) = 1 →
      3 ≤ (s.feSt f).goodFrames →
      s.acqServing = some n →
      s.get (ACQ_ENT_W0_FE n) = f →
      s.gnss.acq.waitAt = some p →
      s.ply ≤ p + 100000 →
      Does (.feLinkLocked f lat) s (fun t =>
        Reads t [(FE_STATUS_LINK f, 2), (FE_LINK_FIFO_LAT f, lat), (FE_CNT_RELOCKS f, s.adv (FE_CNT_RELOCKS f)), (ACQ_STATUS_BUSY, 1)] ∧
        t.evr = (s.record .feRelock [f]).evr ∧
        t.feSt f = { s.feSt f with badFrames := 0, relocked := true, first1 := true, first5 := true, dcSums := [] } ∧
        t.gnss.acq.waitAt = none ∧
        t.acqPos n = { s.acqPos n with verRun := 0, verPass := 0 } ∧
        RegsBut [FE_STATUS_LINK f, FE_LINK_FIFO_LAT f, FE_CNT_RELOCKS f, ACQ_STATUS_BUSY, REC_CNT_QUEUE_DROP] s t ∧
        t = { (s.setFe f (t.feSt f)) with regs := t.regs, evr := t.evr, gnss := { (s.setFe f (t.feSt f)).gnss with acq := { s.gnss.acq with pos := t.gnss.acq.pos, waitAt := none } } })) ∧
    (∀ (s : State) (f frame viol : Nat) (edges : List Nat) (l : List (Nat × Nat × Nat × Nat)) (m : Rat × Rat × Rat × Rat),
      s.stopSafe = true →
      f < 2 →
      l = edgeQuads edges →
      frame = statusBits l →
      viol = (l.filter (fun q => !frmGood q)).length →
      s.get (FE_STATUS_LINK f) = 2 →
      linkFrameOk 0x9A6C frame = true →
      viol < 8 →
      m = (if s.bit (FE_CTRL_DC_REMOVE f) then ({ s.feSt f with dcSums := ((sum4 (frameLevels l) :: (s.feSt f).dcSums).take 16384) } : FeState).dcMean else (0, 0, 0, 0)) →
      Does (.feStatusFrame f edges) s (fun t =>
        Reads t [(FE_STATUS_GAIN_L1 f, bits frame 21 16), (FE_STATUS_GAIN_L5 f, bits frame 27 22), (FE_STATUS_OVR_L1 f, bits frame 28 28), (FE_STATUS_OVR_L5 f, bits frame 29 29), (FE_STATUS_FE_PLL_LOCK f, bits frame 30 30), (FE_STATUS_BIAS_ON f, bits frame 31 31), (FE_STATUS_TEMP f, bits frame 39 32), (FE_LINK_CTL_ACK f, bits frame 47 40), (FE_STATUS_CTL_PEND f, b2n (bits frame 47 40 != s.get (FE_LINK_CTL_SEQ f))), (FE_CNT_ALIGN_ERR f, s.adv (FE_CNT_ALIGN_ERR f) viol)] ∧
        t.feSt f = { s.feSt f with clkOk := true, badFrames := 0, dcSums := ((sum4 (frameLevels l) :: (s.feSt f).dcSums).take 16384), corr := ((frameLevels l).map (fun v => ((v.1 : Rat) - m.1, (v.2.1 : Rat) - m.2.1, (v.2.2.1 : Rat) - m.2.2.1, (v.2.2.2 : Rat) - m.2.2.2))) } ∧
        RegsBut [FE_STATUS_GAIN_L1 f, FE_STATUS_GAIN_L5 f, FE_STATUS_OVR_L1 f, FE_STATUS_OVR_L5 f, FE_STATUS_FE_PLL_LOCK f, FE_STATUS_BIAS_ON f, FE_STATUS_TEMP f, FE_LINK_CTL_ACK f, FE_STATUS_CTL_PEND f, FE_CNT_ALIGN_ERR f] s t ∧
        t = { (s.setFe f (t.feSt f)) with regs := t.regs })) ∧
    (∀ (s : State) (f frame viol : Nat) (edges : List Nat) (l : List (Nat × Nat × Nat × Nat)) (m : Rat × Rat × Rat × Rat),
      s.stopSafe = true →
      f < 2 →
      l = edgeQuads edges →
      frame = statusBits l →
      viol = (l.filter (fun q => !frmGood q)).length →
      s.get (FE_STATUS_LINK f) = 2 →
      linkFrameOk 0x9A6C frame = false →
      viol < 8 →
      (s.feSt f).badFrames < 3 →
      m = (if s.bit (FE_CTRL_DC_REMOVE f) then ({ s.feSt f with dcSums := ((sum4 (frameLevels l) :: (s.feSt f).dcSums).take 16384) } : FeState).dcMean else (0, 0, 0, 0)) →
      Does (.feStatusFrame f edges) s (fun t =>
        Reads t [(FE_CNT_CRC_ERR f, s.adv (FE_CNT_CRC_ERR f)), (FE_CNT_ALIGN_ERR f, s.adv (FE_CNT_ALIGN_ERR f) viol)] ∧
        t.feSt f = { s.feSt f with clkOk := true, badFrames := (s.feSt f).badFrames + 1, dcSums := ((sum4 (frameLevels l) :: (s.feSt f).dcSums).take 16384), corr := ((frameLevels l).map (fun v => ((v.1 : Rat) - m.1, (v.2.1 : Rat) - m.2.1, (v.2.2.1 : Rat) - m.2.2.1, (v.2.2.2 : Rat) - m.2.2.2))) } ∧
        RegsBut [FE_CNT_CRC_ERR f, FE_CNT_ALIGN_ERR f] s t ∧
        t = { (s.setFe f (t.feSt f)) with regs := t.regs })) ∧
    (∀ (s : State) (f frame viol : Nat) (edges : List Nat) (l : List (Nat × Nat × Nat × Nat)),
      s.stopSafe = true →
      f < 2 →
      l = edgeQuads edges →
      frame = statusBits l →
      viol = (l.filter (fun q => !frmGood q)).length →
      s.get (FE_STATUS_LINK f) = 2 →
      8 ≤ viol ∨ (linkFrameOk 0x9A6C frame = false ∧ 3 ≤ (s.feSt f).badFrames) →
      Does (.feStatusFrame f edges) s (fun t =>
        Reads t [(FE_STATUS_LINK f, 1), (FE_CNT_ALIGN_ERR f, s.adv (FE_CNT_ALIGN_ERR f) viol), (FE_CNT_CRC_ERR f, if linkFrameOk 0x9A6C frame then s.get (FE_CNT_CRC_ERR f) else s.adv (FE_CNT_CRC_ERR f))] ∧
        (List.range 256).all (fun d => !(s.chRuns d && s.get (CH_CFG_FE d) == f) || (decide (t.get (CH_STATUS_STATE d) ≤ 1) && t.get (CH_STATUS_LOST d) == 1 && t.get (CH_STATUS_LOSS_CAUSE d) == 3)) = true ∧
        (List.range 256).all (fun d => (s.chRuns d && s.get (CH_CFG_FE d) == f) || t.get (CH_STATUS_STATE d) == s.get (CH_STATUS_STATE d)) = true ∧
        t.feSt f = { s.feSt f with clkOk := true, dcSums := ((sum4 (frameLevels l) :: (s.feSt f).dcSums).take 16384), badFrames := 0, relocked := true, first1 := true, first5 := true, corr := [], frmRun := 0, frmOk := false, goodFrames := 0 } ∧
        t.gnss.acq.waitAt = (match s.acqServing with | some n => if s.get (ACQ_ENT_W0_FE n) = f then some s.ply else s.gnss.acq.waitAt | none => s.gnss.acq.waitAt) ∧
        RegsBut ([FE_STATUS_LINK f, ACQ_STATUS_BUSY, FE_CNT_CRC_ERR f, FE_CNT_ALIGN_ERR f, FE_STATUS_GAIN_L1 f, FE_STATUS_GAIN_L5 f, FE_STATUS_OVR_L1 f, FE_STATUS_OVR_L5 f, FE_STATUS_FE_PLL_LOCK f, FE_STATUS_BIAS_ON f, FE_STATUS_TEMP f, FE_LINK_CTL_ACK f, FE_STATUS_CTL_PEND f] ++ lossRegs) s t ∧
        t = { (s.setFe f (t.feSt f)) with regs := t.regs, evr := t.evr, gnss := { (s.setFe f (t.feSt f)).gnss with acq := t.gnss.acq, lost := t.gnss.lost } })) ∧
    (∀ (s : State) (f frame : Nat) (edges : List Nat) (l : List (Nat × Nat × Nat × Nat)),
      s.stopSafe = true →
      f < 2 →
      l = edgeQuads edges →
      frame = statusBits l →
      s.get (FE_STATUS_LINK f) = 1 →
      l.length = 64 →
      l.all frmGood = true →
      Does (.feStatusFrame f edges) s (fun t =>
        t.feSt f = { s.feSt f with clkOk := true, frmRun := 64, frmOk := true, goodFrames := if (s.feSt f).frmOk && linkFrameOk 0x9A6C frame then (s.feSt f).goodFrames + 1 else 0 } ∧
        RegsBut [] s t ∧
        t = { (s.setFe f (t.feSt f)) with regs := t.regs })) ∧
    (∀ (s : State) (f frame : Nat) (edges : List Nat) (l : List (Nat × Nat × Nat × Nat)),
      s.stopSafe = true →
      f < 2 →
      l = edgeQuads edges →
      frame = statusBits l →
      s.get (FE_STATUS_LINK f) = 0 →
      s.bit (FE_CTRL_EN f) = true →
      l.length = 64 →
      l.all frmGood = true →
      Does (.feStatusFrame f edges) s (fun t =>
        Reads t [(FE_STATUS_LINK f, 1)] ∧
        t.feSt f = { s.feSt f with clkOk := true, frmRun := 64, frmOk := true, goodFrames := 0 } ∧
        RegsBut [FE_STATUS_LINK f] s t ∧
        t = { (s.setFe f (t.feSt f)) with regs := t.regs })) ∧
    (∀ (s : State) (f : Nat) (edges : List Nat),
      s.stopSafe = true →
      f < 2 →
      s.get (FE_STATUS_LINK f) = 0 →
      s.bit (FE_CTRL_EN f) = false →
      Does (.feStatusFrame f edges) s (fun t =>
        t.feSt f = { s.feSt f with clkOk := true } ∧
        RegsBut [] s t ∧
        t = { (s.setFe f (t.feSt f)) with regs := t.regs })) ∧
    (∀ (s : State) (f err frame : Nat),
      s.stopSafe = true →
      f < 2 →
      s.bit (FE_CTRL_EN f) = true →
      frame = s.ctlFrame f ^^^ (err % 2 ^ 64) →
      Does (.feCtlFrameApply f err) s (fun t =>
        t.out = s.out ++ [.feCtl f frame] ∧
        t.feExt = (if linkFrameOk 0x5C93 frame then (if f = 0 then { s.feExt with ctl0 := bits frame 47 16 } else { s.feExt with ctl1 := bits frame 47 16 }) else s.feExt) ∧
        RegsBut [] s t ∧
        t = { s with regs := t.regs, feExt := t.feExt, out := t.out }))

/-- A window shows the mean of its conversions in CURRENT. A window that gives the reported state restarts the count of
windows that agree; the third in a row that agree on another state changes it, sets CHANGED and is recorded; where
AUTO_OFF is set and that state is SHORT, the bias trips: TRIPS counts and BIAS_EN is sent as 0 under the next SEQ.
RETRY_S seconds after the trip the bias is sent again for three windows. A calibration second valid in both bands,
with no step, publishes both loop delays, IFB and RX delays with AGE 0; one valid in one band publishes that band's,
and a step beyond STEP from the value before it sets CAL_STATUS.STEP, is recorded, and resets the ionosphere variance
of every filter; one valid in none clears both VALID bits and AGE advances. Nothing else changes. (Rests on: R208,
R209, R210, R213, R214, R215, R216, R337.) -/
def Obligations.AntennaFeedsAndLiveCalibration : Prop :=
    (∀ (s : State) (f sum one : Nat) (conv : List Nat) (new : Nat),
      s.stopSafe = true →
      f < 2 →
      conv ≠ [] →
      sum = 75 * (conv.map (· % 4096)).sum →
      one = 256 * conv.length →
      new = antState (s.bit (FE_STATUS_BIAS_ON f)) (s.get (ANT_STATUS_STATE f)) sum (one * s.get (ANT_CFG_OPEN_MA f)) (one * s.get (ANT_CFG_SHORT_MA f)) →
      new ≠ s.get (ANT_STATUS_STATE f) →
      (s.feSt f).antCand = new →
      (s.feSt f).antCount = 2 →
      (s.feSt f).tripped = false →
      s.bit (ANT_CFG_AUTO_OFF f) = false ∨ new ≠ 3 →
      Does (.antWindowEnd f conv) s (fun t =>
        Reads t [(ANT_STATUS_CURRENT f, (quant (sum : Int) one).toNat % 2 ^ (ANT_STATUS_CURRENT f).w), (ANT_STATUS_STATE f, new), (ANT_STATUS_CHANGED f, 1)] ∧
        t.evr = (s.record .antChange [f, new]).evr ∧
        t.feSt f = { s.feSt f with antCount := 0 } ∧
        RegsBut [ANT_STATUS_CURRENT f, ANT_STATUS_STATE f, ANT_STATUS_CHANGED f, REC_CNT_QUEUE_DROP] s t ∧
        t = { (s.setFe f (t.feSt f)) with regs := t.regs, evr := t.evr })) ∧
    (∀ (s : State) (f sum one : Nat) (conv : List Nat) (new : Nat),
      s.stopSafe = true →
      f < 2 →
      conv ≠ [] →
      sum = 75 * (conv.map (· % 4096)).sum →
      one = 256 * conv.length →
      new = antState (s.bit (FE_STATUS_BIAS_ON f)) (s.get (ANT_STATUS_STATE f)) sum (one * s.get (ANT_CFG_OPEN_MA f)) (one * s.get (ANT_CFG_SHORT_MA f)) →
      new ≠ s.get (ANT_STATUS_STATE f) →
      (s.feSt f).antCand ≠ new ∨ (s.feSt f).antCount + 1 < 3 →
      (s.feSt f).tripped = false →
      Does (.antWindowEnd f conv) s (fun t =>
        Reads t [(ANT_STATUS_CURRENT f, (quant (sum : Int) one).toNat % 2 ^ (ANT_STATUS_CURRENT f).w)] ∧
        t.feSt f = { s.feSt f with antCand := new, antCount := if (s.feSt f).antCand = new then (s.feSt f).antCount + 1 else 1 } ∧
        RegsBut [ANT_STATUS_CURRENT f] s t ∧
        t = { (s.setFe f (t.feSt f)) with regs := t.regs })) ∧
    (∀ (s : State) (f sum one : Nat) (conv : List Nat),
      s.stopSafe = true →
      f < 2 →
      conv ≠ [] →
      sum = 75 * (conv.map (· % 4096)).sum →
      one = 256 * conv.length →
      antState (s.bit (FE_STATUS_BIAS_ON f)) (s.get (ANT_STATUS_STATE f)) sum (one * s.get (ANT_CFG_OPEN_MA f)) (one * s.get (ANT_CFG_SHORT_MA f)) = s.get (ANT_STATUS_STATE f) →
      (s.feSt f).tripped = false →
      Does (.antWindowEnd f conv) s (fun t =>
        Reads t [(ANT_STATUS_CURRENT f, (quant (sum : Int) one).toNat % 2 ^ (ANT_STATUS_CURRENT f).w)] ∧
        t.feSt f = { s.feSt f with antCand := s.get (ANT_STATUS_STATE f), antCount := 0 } ∧
        RegsBut [ANT_STATUS_CURRENT f] s t ∧
        t = { (s.setFe f (t.feSt f)) with regs := t.regs })) ∧
    (∀ (s : State) (f sum one : Nat) (conv : List Nat),
      s.stopSafe = true →
      f < 2 →
      conv ≠ [] →
      sum = 75 * (conv.map (· % 4096)).sum →
      one = 256 * conv.length →
      antState (s.bit (FE_STATUS_BIAS_ON f)) (s.get (ANT_STATUS_STATE f)) sum (one * s.get (ANT_CFG_OPEN_MA f)) (one * s.get (ANT_CFG_SHORT_MA f)) = 3 →
      s.get (ANT_STATUS_STATE f) ≠ 3 →
      (s.feSt f).antCand = 3 →
      (s.feSt f).antCount = 2 →
      (s.feSt f).tripped = false →
      s.bit (ANT_CFG_AUTO_OFF f) = true →
      s.bit (FE_CTRL_BIAS_EN f) = true →
      Does (.antWindowEnd f conv) s (fun t =>
        Reads t [(ANT_STATUS_CURRENT f, (quant (sum : Int) one).toNat % 2 ^ (ANT_STATUS_CURRENT f).w), (ANT_STATUS_STATE f, 3), (ANT_STATUS_CHANGED f, 1), (ANT_STATUS_TRIPS f, s.adv (ANT_STATUS_TRIPS f)), (FE_LINK_CTL_SEQ f, (s.get (FE_LINK_CTL_SEQ f) + 1) % 256), (FE_STATUS_CTL_PEND f, b2n (s.get (FE_LINK_CTL_ACK f) != (s.get (FE_LINK_CTL_SEQ f) + 1) % 256))] ∧
        t.evr = (s.record .antChange [f, 3]).evr ∧
        t.biasOut f = false ∧
        t.feSt f = { s.feSt f with antCount := 0, tripped := true, retry := 0, biasLow := false, tripAt := s.ply } ∧
        RegsBut [ANT_STATUS_CURRENT f, ANT_STATUS_STATE f, ANT_STATUS_CHANGED f, ANT_STATUS_TRIPS f, FE_LINK_CTL_SEQ f, FE_STATUS_CTL_PEND f, REC_CNT_QUEUE_DROP] s t ∧
        t = { (s.setFe f (t.feSt f)) with regs := t.regs, evr := t.evr })) ∧
    (∀ (s : State) (f : Nat),
      s.stopSafe = true →
      f < 2 →
      (s.feSt f).tripped = true →
      (s.feSt f).retry = 0 →
      s.get (ANT_CFG_RETRY_S f) ≠ 0 →
      (s.feSt f).tripAt + 100000 * s.get (ANT_CFG_RETRY_S f) ≤ s.ply →
      Does (.antBiasRetry f) s (fun t =>
        t.feSt f = { s.feSt f with retry := 3 } ∧
        t.biasOut f = s.bit (FE_CTRL_BIAS_EN f) ∧
        Reads t [(FE_LINK_CTL_SEQ f, if s.bit (FE_CTRL_BIAS_EN f) then (s.get (FE_LINK_CTL_SEQ f) + 1) % 256 else s.get (FE_LINK_CTL_SEQ f)), (FE_STATUS_CTL_PEND f, if s.bit (FE_CTRL_BIAS_EN f) then b2n (s.get (FE_LINK_CTL_ACK f) != (s.get (FE_LINK_CTL_SEQ f) + 1) % 256) else s.get (FE_STATUS_CTL_PEND f))] ∧
        RegsBut [FE_LINK_CTL_SEQ f, FE_STATUS_CTL_PEND f] s t ∧
        t = { (s.setFe f (t.feSt f)) with regs := t.regs })) ∧
    (∀ (s : State) (f : Nat) (l1 l5 : CalMeas) (q1 q5 : Int),
      s.stopSafe = true →
      f < 2 →
      q1 = quant l1.loops.sum l1.loops.length →
      q5 = quant l5.loops.sum l5.loops.length →
      s.calValid f l1 = true →
      s.calValid f l5 = true →
      ¬((s.feSt f).first1 = false ∧ ((s.get (CAL_CTRL_STEP f) : Int) * 100 < q1 - s.getS (CAL_LOOP_L1_LOOP f) ∨ (s.get (CAL_CTRL_STEP f) : Int) * 100 < s.getS (CAL_LOOP_L1_LOOP f) - q1)) →
      ¬((s.feSt f).first5 = false ∧ ((s.get (CAL_CTRL_STEP f) : Int) * 100 < q5 - s.getS (CAL_LOOP_L5_LOOP f) ∨ (s.get (CAL_CTRL_STEP f) : Int) * 100 < s.getS (CAL_LOOP_L5_LOOP f) - q5)) →
      Does (.calSecond f l1 l5) s (fun t =>
        Reads t [(CAL_STATUS_VALID_L1 f, 1), (CAL_STATUS_VALID_L5 f, 1), (CAL_STATUS_AGE f, 0), (CAL_LOOP_L1_LOOP f, usgn 32 q1), (CAL_LOOP_L5_LOOP f, usgn 32 q5), (CAL_IFB_IFB f, usgn 32 (q1 - q5 - s.getS (CAL_CTRL_INJ_SKEW f))), (CAL_RX_L1_RX_DELAY f, usgn 32 (q1 - (s.get (CAL_FWD_FWD f) : Int))), (CAL_RX_L5_RX_DELAY f, usgn 32 (q5 - (s.get (CAL_FWD_FWD f) : Int))), (CAL_STATUS_CN0_L1 f, l1.cn0 % 256), (CAL_STATUS_CN0_L5 f, l5.cn0 % 256)] ∧
        t.feSt f = { s.feSt f with relocked := false, first1 := false, first5 := false, ifbUse := true, ifbPly := s.ply } ∧
        RegsBut [CAL_LOOP_L1_LOOP f, CAL_LOOP_L5_LOOP f, CAL_STATUS_VALID_L1 f, CAL_STATUS_VALID_L5 f, CAL_STATUS_CN0_L1 f, CAL_STATUS_CN0_L5 f, CAL_STATUS_AGE f, CAL_IFB_IFB f, CAL_RX_L1_RX_DELAY f, CAL_RX_L5_RX_DELAY f] s t ∧
        t = { (s.setFe f (t.feSt f)) with regs := t.regs, fix := { s.fix with filters := if f = 0 ∧ !(s.feSt f).ifbUse then s.fix.filters.map (fun (e : Nat × Filter) => (e.1, { e.2 with ionoReset := true })) else s.fix.filters } })) ∧
    (∀ (s : State) (f : Nat) (l1 l5 : CalMeas) (q1 : Int),
      s.stopSafe = true →
      f < 2 →
      q1 = quant l1.loops.sum l1.loops.length →
      s.calValid f l1 = true →
      s.calValid f l5 = false →
      Does (.calSecond f l1 l5) s (fun t =>
        Reads t [(CAL_STATUS_VALID_L1 f, 1), (CAL_STATUS_VALID_L5 f, 0), (CAL_STATUS_AGE f, 0), (CAL_STATUS_STEP f, if ((s.feSt f).first1 = false ∧ ((s.get (CAL_CTRL_STEP f) : Int) * 100 < q1 - s.getS (CAL_LOOP_L1_LOOP f) ∨ (s.get (CAL_CTRL_STEP f) : Int) * 100 < s.getS (CAL_LOOP_L1_LOOP f) - q1)) then 1 else s.get (CAL_STATUS_STEP f)), (CAL_LOOP_L1_LOOP f, usgn 32 q1), (CAL_STATUS_CN0_L1 f, l1.cn0 % 256), (CAL_STATUS_CN0_L5 f, l5.cn0 % 256)] ∧
        t.evr = (if ((s.feSt f).first1 = false ∧ ((s.get (CAL_CTRL_STEP f) : Int) * 100 < q1 - s.getS (CAL_LOOP_L1_LOOP f) ∨ (s.get (CAL_CTRL_STEP f) : Int) * 100 < s.getS (CAL_LOOP_L1_LOOP f) - q1)) then (s.record .calStep [f]).evr else s.evr) ∧
        t.feSt f = { s.feSt f with relocked := false, first1 := false } ∧
        RegsBut [CAL_LOOP_L1_LOOP f, CAL_STATUS_VALID_L1 f, CAL_STATUS_VALID_L5 f, CAL_STATUS_CN0_L1 f, CAL_STATUS_CN0_L5 f, CAL_STATUS_AGE f, CAL_STATUS_STEP f, REC_CNT_QUEUE_DROP] s t ∧
        t = { (s.setFe f (t.feSt f)) with regs := t.regs, evr := t.evr, fix := { s.fix with filters := if ((s.feSt f).first1 = false ∧ ((s.get (CAL_CTRL_STEP f) : Int) * 100 < q1 - s.getS (CAL_LOOP_L1_LOOP f) ∨ (s.get (CAL_CTRL_STEP f) : Int) * 100 < s.getS (CAL_LOOP_L1_LOOP f) - q1)) then s.fix.filters.map (fun (e : Nat × Filter) => (e.1, { e.2 with ionoReset := true })) else s.fix.filters } })) ∧
    (∀ (s : State) (f : Nat) (l1 l5 : CalMeas) (q5 : Int),
      s.stopSafe = true →
      f < 2 →
      q5 = quant l5.loops.sum l5.loops.length →
      s.calValid f l5 = true →
      s.calValid f l1 = false →
      Does (.calSecond f l1 l5) s (fun t =>
        Reads t [(CAL_STATUS_VALID_L5 f, 1), (CAL_STATUS_VALID_L1 f, 0), (CAL_STATUS_AGE f, 0), (CAL_STATUS_STEP f, if ((s.feSt f).first5 = false ∧ ((s.get (CAL_CTRL_STEP f) : Int) * 100 < q5 - s.getS (CAL_LOOP_L5_LOOP f) ∨ (s.get (CAL_CTRL_STEP f) : Int) * 100 < s.getS (CAL_LOOP_L5_LOOP f) - q5)) then 1 else s.get (CAL_STATUS_STEP f)), (CAL_LOOP_L5_LOOP f, usgn 32 q5), (CAL_STATUS_CN0_L1 f, l1.cn0 % 256), (CAL_STATUS_CN0_L5 f, l5.cn0 % 256)] ∧
        t.evr = (if ((s.feSt f).first5 = false ∧ ((s.get (CAL_CTRL_STEP f) : Int) * 100 < q5 - s.getS (CAL_LOOP_L5_LOOP f) ∨ (s.get (CAL_CTRL_STEP f) : Int) * 100 < s.getS (CAL_LOOP_L5_LOOP f) - q5)) then (s.record .calStep [f]).evr else s.evr) ∧
        t.feSt f = { s.feSt f with relocked := false, first5 := false } ∧
        RegsBut [CAL_LOOP_L5_LOOP f, CAL_STATUS_VALID_L1 f, CAL_STATUS_VALID_L5 f, CAL_STATUS_CN0_L1 f, CAL_STATUS_CN0_L5 f, CAL_STATUS_AGE f, CAL_STATUS_STEP f, REC_CNT_QUEUE_DROP] s t ∧
        t = { (s.setFe f (t.feSt f)) with regs := t.regs, evr := t.evr, fix := { s.fix with filters := if ((s.feSt f).first5 = false ∧ ((s.get (CAL_CTRL_STEP f) : Int) * 100 < q5 - s.getS (CAL_LOOP_L5_LOOP f) ∨ (s.get (CAL_CTRL_STEP f) : Int) * 100 < s.getS (CAL_LOOP_L5_LOOP f) - q5)) then s.fix.filters.map (fun (e : Nat × Filter) => (e.1, { e.2 with ionoReset := true })) else s.fix.filters } })) ∧
    (∀ (s : State) (f : Nat) (l1 l5 : CalMeas),
      s.stopSafe = true →
      f < 2 →
      s.calValid f l1 = false →
      s.calValid f l5 = false →
      Does (.calSecond f l1 l5) s (fun t =>
        Reads t [(CAL_STATUS_VALID_L1 f, 0), (CAL_STATUS_VALID_L5 f, 0), (CAL_STATUS_AGE f, s.adv (CAL_STATUS_AGE f)), (CAL_STATUS_CN0_L1 f, l1.cn0 % 256), (CAL_STATUS_CN0_L5 f, l5.cn0 % 256)] ∧
        t.feSt f = { s.feSt f with relocked := s.get (FE_STATUS_LINK f) != 2 } ∧
        RegsBut [CAL_STATUS_VALID_L1 f, CAL_STATUS_VALID_L5 f, CAL_STATUS_CN0_L1 f, CAL_STATUS_CN0_L5 f, CAL_STATUS_AGE f] s t ∧
        t = { (s.setFe f (t.feSt f)) with regs := t.regs }))

/-- A granted submission of an idle entry makes it PENDING and its channel RESERVED where its parameters are in order and
the channel is IDLE; bad parameters end it ERROR with cause 3, and a channel in use with cause 4; a submission of an
open entry changes nothing. A cancellation ends an open entry CANCELLED, releases its channel and frees the engine; it
changes nothing on another. A final entry can be cleared. The free engine takes the lowest PENDING entry, REACQ first:
ERROR with cause 3 where its parameters are bad by now, else ACTIVE, waiting where its link is not LOCKED; a
reacquisition entry that begins has the window of its age. 1 s of waiting ends the entry with cause 2. Clearing EN
stores the engine's controls and returns the entry being served to PENDING with its place. Nothing else changes.
(Rests on: R219, R222, R224, R225, R226, R228, R232.) -/
def Obligations.AcquisitionEntries : Prop :=
    (∀ (s : State) (ini n : Nat),
      s.stopSafe = true →
      n < 64 →
      MayWrite s ini (acqStateAddr n) →
      s.acqIdle n = true →
      s.acqBadParam n = false →
      s.get (CH_STATUS_STATE (s.get (ACQ_ENT_W0_CHANNEL n))) = 0 →
      Does (.acqEntrySubmit ini n) s (fun t =>
        Reads t [(ACQ_ENT_W3_STATE n, 1), (ACQ_ENT_W3_CAUSE n, 0), (CH_STATUS_STATE (s.get (ACQ_ENT_W0_CHANNEL n)), 1), (ACQ_RES_W1_DWELLS n, 0)] ∧
        RegsBut [ACQ_ENT_W3_STATE n, ACQ_ENT_W3_CAUSE n, CH_STATUS_STATE (s.get (ACQ_ENT_W0_CHANNEL n)), ACQ_RES_W1_DWELLS n] s t ∧
        t = { (s.setPos n {}) with regs := t.regs })) ∧
    (∀ (s : State) (ini n : Nat),
      s.stopSafe = true →
      n < 64 →
      MayWrite s ini (acqStateAddr n) →
      s.acqIdle n = true →
      s.acqBadParam n = true ∨ s.get (CH_STATUS_STATE (s.get (ACQ_ENT_W0_CHANNEL n))) ≠ 0 →
      Does (.acqEntrySubmit ini n) s (fun t =>
        Reads t [(ACQ_ENT_W3_STATE n, 7), (ACQ_ENT_W3_CAUSE n, if s.acqBadParam n then 3 else 4)] ∧
        RegsBut [ACQ_ENT_W3_STATE n, ACQ_ENT_W3_CAUSE n] s t ∧
        OnlyRegs s t)) ∧
    (∀ (s : State) (ini n : Nat),
      s.stopSafe = true →
      n < 64 →
      MayWrite s ini (acqStateAddr n) →
      s.acqIdle n = false →
      Does (.acqEntrySubmit ini n) s (fun t =>
        Reads t [(ACQ_ENT_W3_STATE n, s.get (ACQ_ENT_W3_STATE n))] ∧
        RegsBut [] s t ∧
        OnlyRegs s t)) ∧
    (∀ (s : State) (ini n : Nat),
      s.stopSafe = true →
      n < 64 →
      MayWrite s ini (acqStateAddr n) →
      s.get (ACQ_ENT_W3_STATE n) = 2 ∨ s.get (ACQ_ENT_W3_STATE n) = 3 →
      Does (.acqEntryCancel ini n) s (fun t =>
        Reads t [(ACQ_ENT_W3_STATE n, 6), (ACQ_ENT_W3_CAUSE n, 0), (ACQ_STATUS_BUSY, 0), (CH_STATUS_STATE (s.get (ACQ_ENT_W0_CHANNEL n)), if s.get (CH_STATUS_STATE (s.get (ACQ_ENT_W0_CHANNEL n))) = 1 then 0 else s.get (CH_STATUS_STATE (s.get (ACQ_ENT_W0_CHANNEL n))))] ∧
        RegsBut [ACQ_ENT_W3_STATE n, ACQ_ENT_W3_CAUSE n, CH_STATUS_STATE (s.get (ACQ_ENT_W0_CHANNEL n)), ACQ_STATUS_BUSY] s t ∧
        t = { s with regs := t.regs, gnss := { s.gnss with acq := { pos := s.gnss.acq.pos.filter (fun (e : Nat × AcqPos) => e.1 ≠ n), waitAt := none } } })) ∧
    (∀ (s : State) (ini n : Nat),
      s.stopSafe = true →
      n < 64 →
      MayWrite s ini (acqStateAddr n) →
      s.get (ACQ_ENT_W3_STATE n) = 1 →
      Does (.acqEntryCancel ini n) s (fun t =>
        Reads t [(ACQ_ENT_W3_STATE n, 6), (ACQ_ENT_W3_CAUSE n, 0), (CH_STATUS_STATE (s.get (ACQ_ENT_W0_CHANNEL n)), if s.get (CH_STATUS_STATE (s.get (ACQ_ENT_W0_CHANNEL n))) = 1 then 0 else s.get (CH_STATUS_STATE (s.get (ACQ_ENT_W0_CHANNEL n))))] ∧
        RegsBut [ACQ_ENT_W3_STATE n, ACQ_ENT_W3_CAUSE n, CH_STATUS_STATE (s.get (ACQ_ENT_W0_CHANNEL n))] s t ∧
        t = { s with regs := t.regs, gnss := { s.gnss with acq := { pos := s.gnss.acq.pos.filter (fun (e : Nat × AcqPos) => e.1 ≠ n), waitAt := s.gnss.acq.waitAt } } })) ∧
    (∀ (s : State) (ini n : Nat),
      s.stopSafe = true →
      n < 64 →
      MayWrite s ini (acqStateAddr n) →
      s.acqIdle n = true →
      Does (.acqEntryCancel ini n) s (fun t =>
        Reads t [(ACQ_ENT_W3_STATE n, s.get (ACQ_ENT_W3_STATE n))] ∧
        RegsBut [] s t ∧
        OnlyRegs s t)) ∧
    (∀ (s : State) (ini n : Nat),
      s.stopSafe = true →
      n < 64 →
      MayWrite s ini (acqStateAddr n) →
      4 ≤ s.get (ACQ_ENT_W3_STATE n) →
      Does (.acqEntryClear ini n) s (fun t =>
        Reads t [(ACQ_ENT_W3_STATE n, 0), (ACQ_ENT_W3_CAUSE n, 0)] ∧
        RegsBut [ACQ_ENT_W3_STATE n, ACQ_ENT_W3_CAUSE n] s t ∧
        OnlyRegs s t)) ∧
    (∀ (s : State) (ini n : Nat),
      s.stopSafe = true →
      n < 64 →
      MayWrite s ini (acqStateAddr n) →
      s.get (ACQ_ENT_W3_STATE n) < 4 →
      Does (.acqEntryClear ini n) s (fun t =>
        Reads t [(ACQ_ENT_W3_STATE n, s.get (ACQ_ENT_W3_STATE n))] ∧
        RegsBut [] s t ∧
        OnlyRegs s t)) ∧
    (∀ (s : State) (n : Nat),
      s.stopSafe = true →
      s.acqServing = none →
      s.acqNext = some n →
      s.bit ACQ_CTRL_EN = true →
      s.acqBadParam n = false →
      s.lossOf (s.get (ACQ_ENT_W0_CHANNEL n)) = none ∨ s.bit (ACQ_ENT_W0_REACQ n) = false ∨ (s.acqPos n).dwell ≠ 0 →
      Does (.acqEntrySelect) s (fun t =>
        Reads t [(ACQ_ENT_W3_STATE n, 2), (ACQ_STATUS_ENTRY, n), (ACQ_STATUS_BUSY, b2n (s.get (FE_STATUS_LINK (s.get (ACQ_ENT_W0_FE n))) == 2))] ∧
        RegsBut [ACQ_ENT_W3_STATE n, ACQ_STATUS_ENTRY, ACQ_STATUS_BUSY] s t ∧
        t = { s with regs := t.regs, gnss := { s.gnss with acq := { s.gnss.acq with waitAt := if s.get (FE_STATUS_LINK (s.get (ACQ_ENT_W0_FE n))) = 2 then none else some s.ply } } })) ∧
    (∀ (s : State) (n : Nat) (l : LossRec),
      s.stopSafe = true →
      s.acqServing = none →
      s.acqNext = some n →
      s.bit ACQ_CTRL_EN = true →
      s.acqBadParam n = false →
      s.lossOf (s.get (ACQ_ENT_W0_CHANNEL n)) = some l →
      s.bit (ACQ_ENT_W0_REACQ n) = true →
      (s.acqPos n).dwell = 0 →
      Does (.acqEntrySelect) s (fun t =>
        Reads t [(ACQ_ENT_W3_STATE n, 2), (ACQ_STATUS_ENTRY, n), (ACQ_STATUS_BUSY, b2n (s.get (FE_STATUS_LINK (s.get (ACQ_ENT_W0_FE n))) == 2)), (ACQ_ENT_W0_REACQ n, (s.reacqWindow n l).get (ACQ_ENT_W0_REACQ n)), (ACQ_ENT_W1_CODE_START n, (s.reacqWindow n l).get (ACQ_ENT_W1_CODE_START n)), (ACQ_ENT_W1_CODE_CELLS n, (s.reacqWindow n l).get (ACQ_ENT_W1_CODE_CELLS n)), (ACQ_ENT_W2_DOPP_HALF n, (s.reacqWindow n l).get (ACQ_ENT_W2_DOPP_HALF n)), (ACQ_ENT_W2_DOPP_CENTRE n, (s.reacqWindow n l).get (ACQ_ENT_W2_DOPP_CENTRE n))] ∧
        RegsBut [ACQ_ENT_W3_STATE n, ACQ_STATUS_ENTRY, ACQ_STATUS_BUSY, ACQ_ENT_W0_REACQ n, ACQ_ENT_W1_CODE_START n, ACQ_ENT_W1_CODE_CELLS n, ACQ_ENT_W2_DOPP_HALF n, ACQ_ENT_W2_DOPP_CENTRE n] s t ∧
        t = { s with regs := t.regs, gnss := { s.gnss with acq := { s.gnss.acq with waitAt := if s.get (FE_STATUS_LINK (s.get (ACQ_ENT_W0_FE n))) = 2 then none else some s.ply } } })) ∧
    (∀ (s : State) (n : Nat),
      s.stopSafe = true →
      s.acqServing = none →
      s.acqNext = some n →
      s.bit ACQ_CTRL_EN = true →
      s.acqBadParam n = true →
      Does (.acqEntrySelect) s (fun t =>
        Reads t [(ACQ_ENT_W3_STATE n, 7), (ACQ_ENT_W3_CAUSE n, 3), (CH_STATUS_STATE (s.get (ACQ_ENT_W0_CHANNEL n)), if s.get (CH_STATUS_STATE (s.get (ACQ_ENT_W0_CHANNEL n))) = 1 then 0 else s.get (CH_STATUS_STATE (s.get (ACQ_ENT_W0_CHANNEL n))))] ∧
        RegsBut [ACQ_ENT_W3_STATE n, ACQ_ENT_W3_CAUSE n, CH_STATUS_STATE (s.get (ACQ_ENT_W0_CHANNEL n))] s t ∧
        t = { s with regs := t.regs, gnss := { s.gnss with acq := { pos := s.gnss.acq.pos.filter (fun (e : Nat × AcqPos) => e.1 ≠ n), waitAt := s.gnss.acq.waitAt } } })) ∧
    (∀ (s : State) (n p : Nat),
      s.stopSafe = true →
      s.acqServing = some n →
      s.gnss.acq.waitAt = some p →
      p + 100000 ≤ s.ply →
      s.lossOf (s.get (ACQ_ENT_W0_CHANNEL n)) = none →
      Does (.acqLinkWaitExpiry) s (fun t =>
        Reads t [(ACQ_ENT_W3_STATE n, 5), (ACQ_ENT_W3_CAUSE n, 2), (ACQ_STATUS_BUSY, 0), (CH_STATUS_STATE (s.get (ACQ_ENT_W0_CHANNEL n)), if s.get (CH_STATUS_STATE (s.get (ACQ_ENT_W0_CHANNEL n))) = 1 then 0 else s.get (CH_STATUS_STATE (s.get (ACQ_ENT_W0_CHANNEL n))))] ∧
        RegsBut [ACQ_ENT_W3_STATE n, ACQ_ENT_W3_CAUSE n, CH_STATUS_STATE (s.get (ACQ_ENT_W0_CHANNEL n)), ACQ_STATUS_BUSY] s t ∧
        t = { s with regs := t.regs, gnss := { s.gnss with acq := { pos := s.gnss.acq.pos.filter (fun (e : Nat × AcqPos) => e.1 ≠ n), waitAt := none } } })) ∧
    (∀ (s : State) (ini data n : Nat),
      s.stopSafe = true →
      MayWrite s ini 0x40100800 →
      bitOf data 31 = false →
      1 ≤ bits data 11 8 →
      bits data 11 8 ≤ bits data 15 12 →
      bits data 15 12 ≤ 8 →
      s.bit ACQ_CTRL_EN = true →
      s.acqServing = some n →
      Does (.acqEngineDisable ini data) s (fun t =>
        Reads t [(ACQ_CTRL_EN, 0), (ACQ_CTRL_VERIFY_N, bits data 15 12), (ACQ_CTRL_VERIFY_M, bits data 11 8), (ACQ_CTRL_EXCLUDE, bits data 7 0), (ACQ_ENT_W3_STATE n, 1), (ACQ_STATUS_BUSY, 0)] ∧
        t.gnss.acq.waitAt = none ∧
        t.acqPos n = { s.acqPos n with verRun := 0, verPass := 0 } ∧
        RegsBut [ACQ_CTRL_EN, ACQ_CTRL_VERIFY_N, ACQ_CTRL_VERIFY_M, ACQ_CTRL_EXCLUDE, ACQ_ENT_W3_STATE n, ACQ_STATUS_BUSY] s t ∧
        t = { s with regs := t.regs, gnss := { s.gnss with acq := { (s.setPos n { s.acqPos n with verRun := 0, verPass := 0 }).gnss.acq with waitAt := none } } })) ∧
    (∀ (s : State) (ini data : Nat),
      s.stopSafe = true →
      MayWrite s ini 0x40100800 →
      bitOf data 31 = false →
      1 ≤ bits data 11 8 →
      bits data 11 8 ≤ bits data 15 12 →
      bits data 15 12 ≤ 8 →
      s.bit ACQ_CTRL_EN = false ∨ s.acqServing = none →
      Does (.acqEngineDisable ini data) s (fun t =>
        Reads t [(ACQ_CTRL_EN, 0), (ACQ_CTRL_VERIFY_N, bits data 15 12), (ACQ_CTRL_VERIFY_M, bits data 11 8), (ACQ_CTRL_EXCLUDE, bits data 7 0)] ∧
        RegsBut [ACQ_CTRL_EN, ACQ_CTRL_VERIFY_N, ACQ_CTRL_VERIFY_M, ACQ_CTRL_EXCLUDE] s t ∧
        OnlyRegs s t))

/-- A search dwell whose largest window statistic exceeds the threshold notes the cell, the peak and the bin's Doppler and
goes to VERIFY; another goes to the next dwell in the order of bins and passes, and the last one ends the entry with
cause 1 and releases its channel. A verification dwell counts; the M-th pass finds the entry, and its channel enters
PULL_IN from the cell's centre and the bin's, in secondary sync where WIPE was used on a signal with a secondary code;
when M can no longer be reached, VERIFY_FAIL counts and the search goes on. The first FOUND of a cold start gives each
PENDING entry that is no reacquisition the Doppler range of the uncertainty that is left, a free value (log 124).
Nothing else changes. (Rests on: R217, R218, R221, R222, R223, R229, R255.) -/
def Obligations.AcquisitionDwells : Prop :=
    (∀ (s : State) (n k : Nat) (stats : List Nat) (p : AcqPos) (best : Nat × Nat),
      s.stopSafe = true →
      s.acqServing = some n →
      s.bit ACQ_STATUS_BUSY = true →
      s.get (ACQ_ENT_W3_STATE n) = 2 →
      p = s.acqPos n →
      k = s.acqPasses n →
      best = maxCell (((List.range stats.length).zip stats).take (s.acqInWindow n (p.dwell % k))) →
      s.acqHit n best.2 (s.acqNoise stats) = true →
      Does (.acqDwellEnd stats) s (fun t =>
        Reads t [(ACQ_ENT_W3_STATE n, 3), (ACQ_RES_W0_CELL n, (s.get (ACQ_ENT_W1_CODE_START n) + 4096 * (p.dwell % k) + best.1) % sigCells (s.get (ACQ_ENT_W0_SIGNAL n)) % 2 ^ 16), (ACQ_RES_W1_PEAK n, peakOf best.2 (s.acqNoise stats)), (ACQ_RES_W0_DOPP n, usgn 16 (quantQ (s.acqBinHz n (p.dwell / k)))), (ACQ_RES_W1_DWELLS n, s.adv (ACQ_RES_W1_DWELLS n))] ∧
        RegsBut [ACQ_ENT_W3_STATE n, ACQ_RES_W0_CELL n, ACQ_RES_W1_PEAK n, ACQ_RES_W1_DWELLS n, ACQ_RES_W0_DOPP n] s t ∧
        t = { (s.setPos n { p with verRun := 0, verPass := 0 }) with regs := t.regs })) ∧
    (∀ (s : State) (n k : Nat) (stats : List Nat) (p : AcqPos) (best : Nat × Nat),
      s.stopSafe = true →
      s.acqServing = some n →
      s.bit ACQ_STATUS_BUSY = true →
      s.get (ACQ_ENT_W3_STATE n) = 2 →
      p = s.acqPos n →
      k = s.acqPasses n →
      best = maxCell (((List.range stats.length).zip stats).take (s.acqInWindow n (p.dwell % k))) →
      s.acqHit n best.2 (s.acqNoise stats) = false →
      p.dwell + 1 < k * s.acqBins n →
      Does (.acqDwellEnd stats) s (fun t =>
        Reads t [(ACQ_ENT_W3_STATE n, 2), (ACQ_RES_W1_DWELLS n, s.adv (ACQ_RES_W1_DWELLS n))] ∧
        RegsBut [ACQ_RES_W1_DWELLS n, ACQ_ENT_W3_STATE n] s t ∧
        t = { (s.setPos n { dwell := p.dwell + 1 }) with regs := t.regs })) ∧
    (∀ (s : State) (n k : Nat) (stats : List Nat) (p : AcqPos) (best : Nat × Nat),
      s.stopSafe = true →
      s.acqServing = some n →
      s.bit ACQ_STATUS_BUSY = true →
      s.get (ACQ_ENT_W3_STATE n) = 2 →
      p = s.acqPos n →
      k = s.acqPasses n →
      best = maxCell (((List.range stats.length).zip stats).take (s.acqInWindow n (p.dwell % k))) →
      s.acqHit n best.2 (s.acqNoise stats) = false →
      k * s.acqBins n ≤ p.dwell + 1 →
      s.lossOf (s.get (ACQ_ENT_W0_CHANNEL n)) = none →
      Does (.acqDwellEnd stats) s (fun t =>
        Reads t [(ACQ_ENT_W3_STATE n, 5), (ACQ_ENT_W3_CAUSE n, 1), (ACQ_STATUS_BUSY, 0), (CH_STATUS_STATE (s.get (ACQ_ENT_W0_CHANNEL n)), if s.get (CH_STATUS_STATE (s.get (ACQ_ENT_W0_CHANNEL n))) = 1 then 0 else s.get (CH_STATUS_STATE (s.get (ACQ_ENT_W0_CHANNEL n)))), (ACQ_RES_W1_DWELLS n, s.adv (ACQ_RES_W1_DWELLS n))] ∧
        RegsBut [ACQ_ENT_W3_STATE n, ACQ_ENT_W3_CAUSE n, CH_STATUS_STATE (s.get (ACQ_ENT_W0_CHANNEL n)), ACQ_STATUS_BUSY, ACQ_RES_W1_DWELLS n] s t ∧
        t = { s with regs := t.regs, gnss := { s.gnss with acq := { pos := s.gnss.acq.pos.filter (fun (e : Nat × AcqPos) => e.1 ≠ n), waitAt := none } } })) ∧
    (∀ (s : State) (n : Nat) (stats : List Nat) (p : AcqPos) (pass : Bool),
      s.stopSafe = true →
      s.acqServing = some n →
      s.bit ACQ_STATUS_BUSY = true →
      s.get (ACQ_ENT_W3_STATE n) = 3 →
      p = s.acqPos n →
      pass = s.acqNear n stats →
      p.verPass + b2n pass < s.get ACQ_CTRL_VERIFY_M →
      s.get ACQ_CTRL_VERIFY_M - (p.verPass + b2n pass) ≤ s.get ACQ_CTRL_VERIFY_N - (p.verRun + 1) →
      Does (.acqDwellEnd stats) s (fun t =>
        Reads t [(ACQ_RES_W1_DWELLS n, s.adv (ACQ_RES_W1_DWELLS n))] ∧
        RegsBut [ACQ_RES_W1_DWELLS n] s t ∧
        t = { (s.setPos n { p with verRun := p.verRun + 1, verPass := p.verPass + b2n pass }) with regs := t.regs })) ∧
    (∀ (s : State) (n : Nat) (stats : List Nat) (p : AcqPos) (pass : Bool),
      s.stopSafe = true →
      s.acqServing = some n →
      s.bit ACQ_STATUS_BUSY = true →
      s.get (ACQ_ENT_W3_STATE n) = 3 →
      p = s.acqPos n →
      pass = s.acqNear n stats →
      p.verPass + b2n pass < s.get ACQ_CTRL_VERIFY_M →
      s.get ACQ_CTRL_VERIFY_N - (p.verRun + 1) < s.get ACQ_CTRL_VERIFY_M - (p.verPass + b2n pass) →
      p.dwell + 1 < s.acqPasses n * s.acqBins n →
      Does (.acqDwellEnd stats) s (fun t =>
        Reads t [(ACQ_RES_W1_DWELLS n, s.adv (ACQ_RES_W1_DWELLS n)), (ACQ_CNT_VERIFY_FAIL, s.adv ACQ_CNT_VERIFY_FAIL), (ACQ_ENT_W3_STATE n, 2)] ∧
        RegsBut [ACQ_RES_W1_DWELLS n, ACQ_CNT_VERIFY_FAIL, ACQ_ENT_W3_STATE n] s t ∧
        t = { (s.setPos n { dwell := p.dwell + 1 }) with regs := t.regs })) ∧
    (∀ (s : State) (n c : Nat) (stats : List Nat) (p : AcqPos) (dopp : Rat),
      s.stopSafe = true →
      s.acqServing = some n →
      s.bit ACQ_STATUS_BUSY = true →
      s.get (ACQ_ENT_W3_STATE n) = 3 →
      p = s.acqPos n →
      c = s.get (ACQ_ENT_W0_CHANNEL n) →
      dopp = s.acqBinHz n (p.dwell / s.acqPasses n) →
      s.acqNear n stats = true →
      s.get ACQ_CTRL_VERIFY_M ≤ p.verPass + 1 →
      s.gnss.cold = false →
      Does (.acqDwellEnd stats) s (fun t =>
        Reads t [(ACQ_ENT_W3_STATE n, 4), (ACQ_ENT_W3_CAUSE n, 0), (ACQ_STATUS_BUSY, 0), (ACQ_CNT_FOUND, s.adv ACQ_CNT_FOUND), (ACQ_RES_W1_DWELLS n, s.adv (ACQ_RES_W1_DWELLS n))] ∧
        Reads t [(CH_STATUS_STATE c, 2), (CH_STATUS_LOSS_CAUSE c, 0), (CH_STATUS_TINT_NOW c, if (s.bit (ACQ_ENT_W0_WIPE n) && !sigData (s.get (CH_CFG_SIGNAL c))) then s.get (CH_CFG_TINT_MS c) % 32 else min (s.get (CH_CFG_TINT_MS c)) (sigPrim (s.get (CH_CFG_SIGNAL c))) % 32), (CH_STATUS_TIME_LEVEL c, b2n (s.bit (ACQ_ENT_W0_WIPE n) && !sigData (s.get (CH_CFG_SIGNAL c)))), (CH_STATUS_SEC_SYNC c, b2n (s.bit (ACQ_ENT_W0_WIPE n) && !sigData (s.get (CH_CFG_SIGNAL c)))), (CH_STATUS_HALF_UNRES c, b2n (sigData (s.get (CH_CFG_SIGNAL c)))), (CH_STATUS_CODE_LOCK c, 0), (CH_STATUS_CARR_LOCK c, 0), (CH_STATUS_BIT_SYNC c, 0), (CH_STATUS_NAV_SYNC c, 0), (CH_STATUS_PLL_ON c, 0), (CH_CN0_CN0 c, 0), (CH_CN0_PLI c, 0), (CH_LOCKT_LOCK_MS c, 0), (CH_CARR_LO_PHASE c, 0), (CH_CARR_HI_PHASE c, 0), (CH_CODE_CODE c, (s.get (ACQ_RES_W0_CELL n) * (if sigBoc (s.get (ACQ_ENT_W0_SIGNAL n)) then 2 ^ 14 else 2 ^ 15)) % 2 ^ 32), (CH_DOPP_DOPP c, usgn 32 (quantQ (dopp * 1024))), (CH_CNT_SLIP_CNT c, (s.get (CH_CNT_SLIP_CNT c) + s.get (CH_STATUS_CARR_LOCK c)) % 2 ^ 16)] ∧
        RegsBut ([ACQ_ENT_W3_STATE n, ACQ_ENT_W3_CAUSE n, ACQ_STATUS_BUSY, ACQ_CNT_FOUND, ACQ_RES_W1_DWELLS n] ++ startRegs c) s t ∧
        t = { (s.setCh c { acc1 := dopp, fCarr := dopp, prevSlip := (s.chSt c).prevSlip, pullAt := s.ply }) with regs := t.regs, gnss := { (s.setCh c { acc1 := dopp, fCarr := dopp, prevSlip := (s.chSt c).prevSlip, pullAt := s.ply }).gnss with acq := { pos := s.gnss.acq.pos.filter (fun (e : Nat × AcqPos) => e.1 ≠ n), waitAt := s.gnss.acq.waitAt }, lost := s.gnss.lost.filter (fun (x : LossRec) => x.ch != c) } })) ∧
    (∀ (s : State) (n c : Nat) (stats : List Nat) (p : AcqPos) (dopp : Rat),
      s.stopSafe = true →
      s.acqServing = some n →
      s.bit ACQ_STATUS_BUSY = true →
      s.get (ACQ_ENT_W3_STATE n) = 3 →
      p = s.acqPos n →
      c = s.get (ACQ_ENT_W0_CHANNEL n) →
      dopp = s.acqBinHz n (p.dwell / s.acqPasses n) →
      s.acqNear n stats = true →
      s.get ACQ_CTRL_VERIFY_M ≤ p.verPass + 1 →
      s.gnss.cold = true →
      Does (.acqDwellEnd stats) s (fun t =>
        Reads t [(ACQ_ENT_W3_STATE n, 4), (ACQ_ENT_W3_CAUSE n, 0), (ACQ_STATUS_BUSY, 0), (ACQ_CNT_FOUND, s.adv ACQ_CNT_FOUND), (ACQ_RES_W1_DWELLS n, s.adv (ACQ_RES_W1_DWELLS n))] ∧
        t.gnss.cold = false ∧
        t.gnss.osc = (s.freeVal : Rat) ∧
        t.freeCtr = s.freeCtr + 1 ∧
        (List.range 64).all (fun m => m == n || s.get (ACQ_ENT_W3_STATE m) != 1 || s.bit (ACQ_ENT_W0_REACQ m) || t.get (ACQ_ENT_W2_DOPP_HALF m) == min (doppHalf (s.get (ACQ_ENT_W0_SIGNAL m)) s.freeVal) 65535) = true ∧
        RegsBut (([ACQ_ENT_W3_STATE n, ACQ_ENT_W3_CAUSE n, ACQ_STATUS_BUSY, ACQ_CNT_FOUND, ACQ_RES_W1_DWELLS n] ++ startRegs c) ++ lossRegs) s t ∧
        t = { (s.setCh c { acc1 := dopp, fCarr := dopp, prevSlip := (s.chSt c).prevSlip, pullAt := s.ply }) with regs := t.regs, freeCtr := t.freeCtr, gnss := { (s.setCh c { acc1 := dopp, fCarr := dopp, prevSlip := (s.chSt c).prevSlip, pullAt := s.ply }).gnss with acq := t.gnss.acq, cold := t.gnss.cold, osc := t.gnss.osc, lost := s.gnss.lost.filter (fun (x : LossRec) => x.ch != c) } }))

/-- An update of a running channel shows its accumulations, limited to 16 bits, steps the filters on the discriminators,
shows the Doppler and the C/N0, sets CODE_LOCK by CN0_MIN and CARR_LOCK by PLI, counts a slip and restarts the lock
time at a loss of carrier lock, and enters TRACK with PLL_ON; it writes no other register than its channel's, unless
code lock is new on a signal with an L5 partner: then, where that is enabled and not searched and an entry and a
channel are free, a 41-cell entry for it is placed. A late update shows the accumulations and the NCOs, counts in both
OVERRUN counts, lets the lock time go on and keeps the filters. Nothing else changes. (Rests on: R231, R234, R239,
R240, R241, R242, R243, R244, R245, R248, R257.) -/
def Obligations.TrackingUpdates : Prop :=
    (∀ (s : State) (ch mism : Nat) (acc : Accums),
      s.stopSafe = true →
      ch < 256 →
      s.chRuns ch = true →
      s.boot.loaded.contains 4 = true →
      s.bit (CH_STATUS_CODE_LOCK ch) = true ∨ sigPartner (s.get (CH_CFG_SIGNAL ch)) = none ∨ s.cn0Next ch acc < 8 * s.get (CH_LOCK_CN0_MIN ch) →
      Does (.loopUpdate ch false acc mism) s (fun t =>
        AccShown ch acc t ∧
        ((t.chSt ch).acc1, (t.chSt ch).acc2, (t.chSt ch).accc, (t.chSt ch).fCarr, (t.chSt ch).fCode) = ((s.filtersNext ch acc).acc1, (s.filtersNext ch acc).acc2, (s.filtersNext ch acc).accc, (s.filtersNext ch acc).fCarr, (s.filtersNext ch acc).fCode) ∧
        ((t.chSt ch).prevI, (t.chSt ch).prevQ) = (acc.pI, acc.pQ) ∧
        Reads t [(CH_DOPP_DOPP ch, usgn 32 (quantQ ((s.filtersNext ch acc).fCarr * 1024))), (CH_CN0_CN0 ch, s.cn0Next ch acc), (CH_STATUS_CODE_LOCK ch, b2n (8 * s.get (CH_LOCK_CN0_MIN ch) ≤ s.cn0Next ch acc)), (CH_CN0_PLI ch, if (s.pliNext ch acc).2 = 0 then 0 else usgn 16 (clampI (-32768) 32767 (quant ((s.pliNext ch acc).1 * 32768) (s.pliNext ch acc).2.toNat))), (CH_STATUS_CARR_LOCK ch, if s.carrLost ch acc then 0 else if s.carrGot ch acc then 1 else s.get (CH_STATUS_CARR_LOCK ch)), (CH_CNT_SLIP_CNT ch, if s.carrLost ch acc then (s.get (CH_CNT_SLIP_CNT ch) + 1) % 2 ^ 16 else s.get (CH_CNT_SLIP_CNT ch)), (CH_LOCKT_LOCK_MS ch, if s.carrLost ch acc || s.carrGot ch acc then 0 else if s.bit (CH_STATUS_CARR_LOCK ch) then (s.get (CH_LOCKT_LOCK_MS ch) + s.get (CH_STATUS_TINT_NOW ch)) % 2 ^ 32 else s.get (CH_LOCKT_LOCK_MS ch)), (CH_STATUS_STATE ch, if s.bit (CH_STATUS_PLL_ON ch) && !s.carrLost ch acc && (s.carrGot ch acc || s.bit (CH_STATUS_CARR_LOCK ch)) then 3 else s.get (CH_STATUS_STATE ch))] ∧
        RegsBut (updateRegs ch) s t ∧
        t = { s.setCh ch (t.chSt ch) with regs := t.regs })) ∧
    (∀ (s : State) (ch mism : Nat) (acc : Accums) (n k c sg : Nat),
      s.stopSafe = true →
      ch < 256 →
      s.chRuns ch = true →
      s.boot.loaded.contains 4 = true →
      s.bit (CH_STATUS_CODE_LOCK ch) = false →
      8 * s.get (CH_LOCK_CN0_MIN ch) ≤ s.cn0Next ch acc →
      sigPartner (s.get (CH_CFG_SIGNAL ch)) = some sg →
      s.sigOn (s.get (CH_CFG_FE ch)) sg = true →
      s.sigBusy (s.get (CH_CFG_FE ch)) sg (s.get (CH_CFG_PRN ch)) = false →
      (List.range 64).find? s.acqIdle = some n →
      s.acqNnc = some k →
      s.freeCh (s.get (CH_CFG_FE ch)) = some c →
      Does (.loopUpdate ch false acc mism) s (fun t =>
        AccShown ch acc t ∧
        ((t.chSt ch).acc1, (t.chSt ch).acc2, (t.chSt ch).accc, (t.chSt ch).fCarr, (t.chSt ch).fCode) = ((s.filtersNext ch acc).acc1, (s.filtersNext ch acc).acc2, (s.filtersNext ch acc).accc, (s.filtersNext ch acc).fCarr, (s.filtersNext ch acc).fCode) ∧
        ((t.chSt ch).prevI, (t.chSt ch).prevQ) = (acc.pI, acc.pQ) ∧
        Reads t [(CH_DOPP_DOPP ch, usgn 32 (quantQ ((s.filtersNext ch acc).fCarr * 1024))), (CH_CN0_CN0 ch, s.cn0Next ch acc), (CH_STATUS_CODE_LOCK ch, b2n (8 * s.get (CH_LOCK_CN0_MIN ch) ≤ s.cn0Next ch acc)), (CH_CN0_PLI ch, if (s.pliNext ch acc).2 = 0 then 0 else usgn 16 (clampI (-32768) 32767 (quant ((s.pliNext ch acc).1 * 32768) (s.pliNext ch acc).2.toNat))), (CH_STATUS_CARR_LOCK ch, if s.carrLost ch acc then 0 else if s.carrGot ch acc then 1 else s.get (CH_STATUS_CARR_LOCK ch)), (CH_CNT_SLIP_CNT ch, if s.carrLost ch acc then (s.get (CH_CNT_SLIP_CNT ch) + 1) % 2 ^ 16 else s.get (CH_CNT_SLIP_CNT ch)), (CH_LOCKT_LOCK_MS ch, if s.carrLost ch acc || s.carrGot ch acc then 0 else if s.bit (CH_STATUS_CARR_LOCK ch) then (s.get (CH_LOCKT_LOCK_MS ch) + s.get (CH_STATUS_TINT_NOW ch)) % 2 ^ 32 else s.get (CH_LOCKT_LOCK_MS ch)), (CH_STATUS_STATE ch, if s.bit (CH_STATUS_PLL_ON ch) && !s.carrLost ch acc && (s.carrGot ch acc || s.bit (CH_STATUS_CARR_LOCK ch)) then 3 else s.get (CH_STATUS_STATE ch))] ∧
        Reads t [(ACQ_ENT_W3_STATE n, 1), (CH_STATUS_STATE c, 1), (ACQ_ENT_W0_REACQ n, 0), (ACQ_ENT_W0_FE n, s.get (CH_CFG_FE ch) % 2), (ACQ_ENT_W0_SIGNAL n, sg), (ACQ_ENT_W0_PRN n, s.get (CH_CFG_PRN ch) % 256), (ACQ_ENT_W0_CHANNEL n, c), (ACQ_ENT_W0_NNC n, k), (ACQ_ENT_W1_CODE_CELLS n, 41), (ACQ_ENT_W1_CODE_START n, (sigCell sg (10 * (t.get (CH_CODE_CODE ch) % (1023 * 65536))) + 20 * sigCells sg - 20) % sigCells sg), (ACQ_ENT_W2_DOPP_HALF n, 500), (ACQ_ENT_W2_DOPP_CENTRE n, usgn 16 (quantQ ((t.getS (CH_DOPP_DOPP ch) : Rat) / 1024 * 117645 / 157542))), (CH_CFG_SIGNAL c, sg), (CH_CFG_FE c, s.get (CH_CFG_FE ch) % 2), (CH_CFG_PRN c, s.get (CH_CFG_PRN ch) % 256), (CH_CFG_TINT_MS c, sigPrim sg)] ∧
        RegsBut (updateRegs ch ++ entryRegs n ++ [CH_STATUS_STATE c, CH_CFG_SIGNAL c, CH_CFG_FE c, CH_CFG_PRN c, CH_CFG_TINT_MS c]) s t ∧
        t = { (s.setCh ch (t.chSt ch)).setPos n {} with regs := t.regs })) ∧
    (∀ (s : State) (ch mism : Nat) (acc : Accums),
      s.stopSafe = true →
      ch < 256 →
      s.chRuns ch = true →
      s.boot.loaded.contains 4 = true →
      Does (.loopUpdate ch true acc mism) s (fun t =>
        AccShown ch acc t ∧
        Reads t [(CH_CODE_CODE ch, acc.code % (sigChips (s.get (CH_CFG_SIGNAL ch)) * 65536) % 2 ^ 32), (CH_CARR_LO_PHASE ch, usgn 64 (acc.carr + (s.chSt ch).phOff) % 2 ^ 32), (CH_CARR_HI_PHASE ch, usgn 64 (acc.carr + (s.chSt ch).phOff) / 2 ^ 32)] ∧
        Reads t [(CH_CNT_OVERRUN ch, s.adv (CH_CNT_OVERRUN ch)), (BANK_CNT_OVERRUN (ch / 32), s.adv (BANK_CNT_OVERRUN (ch / 32))), (CH_LOCKT_LOCK_MS ch, if s.bit (CH_STATUS_CARR_LOCK ch) then (s.get (CH_LOCKT_LOCK_MS ch) + s.get (CH_STATUS_TINT_NOW ch)) % 2 ^ 32 else s.get (CH_LOCKT_LOCK_MS ch))] ∧
        t.chSt ch = { s.chSt ch with secChips := 0, signs := (t.chSt ch).signs, signMs := (t.chSt ch).signMs } ∧
        RegsBut (accRegs ch ++ [CH_CNT_OVERRUN ch, BANK_CNT_OVERRUN (ch / 32), CH_LOCKT_LOCK_MS ch]) s t ∧
        t = { s.setCh ch (t.chSt ch) with regs := t.regs }))

/-- START takes an IDLE channel into PULL_IN from its preset code and Doppler and does nothing to another; STOP takes a
running one to IDLE with LOST, cause 4 and an event record, and does nothing to another; PULL_MS after the entry
PLL_ON is set, and with carrier lock TRACK is entered; PULL_MAX_MS after the entry, or after LOSS_MS below CN0_MIN,
the channel is lost with causes 2 and 1, the loss is kept, and its reacquisition entry is placed where an entry is
idle and a threshold set. A unit of the channel's signal that passes sets NAV_SYNC and enters the ring under the next
SEQ, one that fails enters it with its check only while NAV_SYNC is set, and the third failure in a row clears
NAV_SYNC; a time of week gives TIME_LEVEL 2 to the channel and to the other running channels of its satellite in code
lock; an inverted preamble adds half a cycle, counts a slip and restarts the lock time while HALF_UNRES is set; a GPS
UTC offset sets UTC_VALID. Nothing else changes. (Rests on: R232, R245, R248, R249, R250, R252, R255, R256, R268,
R269, R270, R271.) -/
def Obligations.TrackingStartsLossesAndData : Prop :=
    (∀ (s : State) (ini ch : Nat),
      s.stopSafe = true →
      ch < 256 →
      MayWrite s ini (0x40110000 + 0x100 * ch) →
      s.get (CH_STATUS_STATE ch) = 0 →
      Does (.chStart ini ch) s (fun t =>
        Reads t [(CH_STATUS_STATE ch, 2), (CH_STATUS_LOSS_CAUSE ch, 0), (CH_STATUS_TINT_NOW ch, if (false && !sigData (s.get (CH_CFG_SIGNAL ch))) then s.get (CH_CFG_TINT_MS ch) % 32 else min (s.get (CH_CFG_TINT_MS ch)) (sigPrim (s.get (CH_CFG_SIGNAL ch))) % 32), (CH_STATUS_TIME_LEVEL ch, b2n (false && !sigData (s.get (CH_CFG_SIGNAL ch)))), (CH_STATUS_SEC_SYNC ch, b2n (false && !sigData (s.get (CH_CFG_SIGNAL ch)))), (CH_STATUS_HALF_UNRES ch, b2n (sigData (s.get (CH_CFG_SIGNAL ch)))), (CH_STATUS_CODE_LOCK ch, 0), (CH_STATUS_CARR_LOCK ch, 0), (CH_STATUS_BIT_SYNC ch, 0), (CH_STATUS_NAV_SYNC ch, 0), (CH_STATUS_PLL_ON ch, 0), (CH_CN0_CN0 ch, 0), (CH_CN0_PLI ch, 0), (CH_LOCKT_LOCK_MS ch, 0), (CH_CARR_LO_PHASE ch, 0), (CH_CARR_HI_PHASE ch, 0), (CH_CODE_CODE ch, (s.get (CH_SET_CODE_CODE ch)) % 2 ^ 32), (CH_DOPP_DOPP ch, usgn 32 (quantQ (((s.getS (CH_SET_DOPP_DOPP ch) : Rat) / 1024) * 1024))), (CH_CNT_SLIP_CNT ch, (s.get (CH_CNT_SLIP_CNT ch) + s.get (CH_STATUS_CARR_LOCK ch)) % 2 ^ 16)] ∧
        RegsBut (startRegs ch) s t ∧
        t = { s.setCh ch { acc1 := ((s.getS (CH_SET_DOPP_DOPP ch) : Rat) / 1024), fCarr := ((s.getS (CH_SET_DOPP_DOPP ch) : Rat) / 1024), prevSlip := (s.chSt ch).prevSlip, pullAt := s.ply } with regs := t.regs })) ∧
    (∀ (s : State) (ini ch : Nat),
      s.stopSafe = true →
      ch < 256 →
      MayWrite s ini (0x40110000 + 0x100 * ch) →
      s.get (CH_STATUS_STATE ch) ≠ 0 →
      Does (.chStart ini ch) s (fun t =>
        Reads t [(CH_STATUS_STATE ch, s.get (CH_STATUS_STATE ch))] ∧
        RegsBut [] s t ∧
        OnlyRegs s t)) ∧
    (∀ (s : State) (ini ch : Nat),
      s.stopSafe = true →
      ch < 256 →
      MayWrite s ini (0x40110000 + 0x100 * ch) →
      s.chRuns ch = true →
      Does (.chStop ini ch) s (fun t =>
        Reads t [(CH_STATUS_STATE ch, 0), (CH_STATUS_LOST ch, 1), (CH_STATUS_LOSS_CAUSE ch, 4)] ∧
        t.evr = (s.record .chLost [ch, 4]).evr ∧
        RegsBut [CH_STATUS_STATE ch, CH_STATUS_LOST ch, CH_STATUS_LOSS_CAUSE ch, REC_CNT_QUEUE_DROP] s t ∧
        OnlyRegsEvr s t)) ∧
    (∀ (s : State) (ini ch : Nat),
      s.stopSafe = true →
      ch < 256 →
      MayWrite s ini (0x40110000 + 0x100 * ch) →
      s.chRuns ch = false →
      Does (.chStop ini ch) s (fun t =>
        Reads t [(CH_STATUS_STATE ch, s.get (CH_STATUS_STATE ch))] ∧
        RegsBut [] s t ∧
        OnlyRegs s t)) ∧
    (∀ (s : State) (ch : Nat),
      s.stopSafe = true →
      ch < 256 →
      s.get (CH_STATUS_STATE ch) = 2 →
      (s.chSt ch).pullAt + 100 * s.get (CH_TIME_PULL_MS ch) ≤ s.ply →
      Does (.pullInPllOn ch) s (fun t =>
        Reads t [(CH_STATUS_PLL_ON ch, 1), (CH_STATUS_STATE ch, if s.bit (CH_STATUS_CARR_LOCK ch) then 3 else 2)] ∧
        RegsBut [CH_STATUS_PLL_ON ch, CH_STATUS_STATE ch] s t ∧
        OnlyRegs s t)) ∧
    (∀ (s : State) (ch : Nat),
      s.stopSafe = true →
      ch < 256 →
      s.get (CH_STATUS_STATE ch) = 2 →
      (s.chSt ch).pullAt + 100 * s.get (CH_TIME_PULL_MAX_MS ch) ≤ s.ply →
      (List.range 64).find? s.acqIdle = none ∨ s.acqNnc = none →
      Does (.pullInTimeout ch) s (fun t =>
        Reads t [(CH_STATUS_STATE ch, 0), (CH_STATUS_LOST ch, 1), (CH_STATUS_LOSS_CAUSE ch, 2)] ∧
        t.evr = (s.record .chLost [ch, 2]).evr ∧
        RegsBut [CH_STATUS_STATE ch, CH_STATUS_LOST ch, CH_STATUS_LOSS_CAUSE ch, REC_CNT_QUEUE_DROP] s t ∧
        t = { s with regs := t.regs, evr := t.evr, gnss := { s.gnss with lost := (s.gnss.lost.filter (fun (x : LossRec) => x.ch != ch) ++ [⟨ch, s.ply, s.get (CH_CODE_CODE ch), s.getS (CH_DOPP_DOPP ch)⟩]) } })) ∧
    (∀ (s : State) (ch n k : Nat),
      s.stopSafe = true →
      ch < 256 →
      s.get (CH_STATUS_STATE ch) = 2 →
      (s.chSt ch).pullAt + 100 * s.get (CH_TIME_PULL_MAX_MS ch) ≤ s.ply →
      (List.range 64).find? s.acqIdle = some n →
      s.acqNnc = some k →
      Does (.pullInTimeout ch) s (fun t =>
        Reads t [(CH_STATUS_STATE ch, 1), (CH_STATUS_LOST ch, 1), (CH_STATUS_LOSS_CAUSE ch, 2), (ACQ_ENT_W3_STATE n, 1), (ACQ_ENT_W3_CAUSE n, 0), (ACQ_ENT_W0_REACQ n, 1), (ACQ_ENT_W0_WIPE n, 0), (ACQ_ENT_W0_FE n, s.get (CH_CFG_FE ch) % 2), (ACQ_ENT_W0_SIGNAL n, s.get (CH_CFG_SIGNAL ch) % 16), (ACQ_ENT_W0_PRN n, s.get (CH_CFG_PRN ch) % 256), (ACQ_ENT_W0_CHANNEL n, ch), (ACQ_ENT_W0_NNC n, k), (ACQ_ENT_W0_TCOH_MS n, sigPrim (s.get (CH_CFG_SIGNAL ch))), (ACQ_ENT_W2_DOPP_HALF n, ceilQ (500 / (sigPrim (s.get (CH_CFG_SIGNAL ch)) : Rat))), (ACQ_ENT_W2_DOPP_CENTRE n, usgn 16 (quantQ ((s.getS (CH_DOPP_DOPP ch) : Rat) / 1024))), (ACQ_RES_W1_DWELLS n, 0)] ∧
        t.evr = (s.record .chLost [ch, 2]).evr ∧
        RegsBut ([CH_STATUS_STATE ch, CH_STATUS_LOST ch, CH_STATUS_LOSS_CAUSE ch] ++ [REC_CNT_QUEUE_DROP] ++ entryRegs n) s t ∧
        t = { s with regs := t.regs, evr := t.evr, gnss := { (s.setPos n {}).gnss with lost := (s.gnss.lost.filter (fun (x : LossRec) => x.ch != ch) ++ [⟨ch, s.ply, s.get (CH_CODE_CODE ch), s.getS (CH_DOPP_DOPP ch)⟩]) } })) ∧
    (∀ (s : State) (ch : Nat) (p : Nat),
      s.stopSafe = true →
      ch < 256 →
      s.get (CH_STATUS_STATE ch) = 3 →
      s.get (CH_CN0_CN0 ch) < 8 * s.get (CH_LOCK_CN0_MIN ch) →
      (s.chSt ch).lowAt = some p →
      p + 100 * s.get (CH_TIME2_LOSS_MS ch) ≤ s.ply →
      (List.range 64).find? s.acqIdle = none ∨ s.acqNnc = none →
      Does (.cn0LossTimeout ch) s (fun t =>
        Reads t [(CH_STATUS_STATE ch, 0), (CH_STATUS_LOST ch, 1), (CH_STATUS_LOSS_CAUSE ch, 1)] ∧
        t.evr = (s.record .chLost [ch, 1]).evr ∧
        RegsBut [CH_STATUS_STATE ch, CH_STATUS_LOST ch, CH_STATUS_LOSS_CAUSE ch, REC_CNT_QUEUE_DROP] s t ∧
        t = { s with regs := t.regs, evr := t.evr, gnss := { s.gnss with lost := (s.gnss.lost.filter (fun (x : LossRec) => x.ch != ch) ++ [⟨ch, s.ply, s.get (CH_CODE_CODE ch), s.getS (CH_DOPP_DOPP ch)⟩]) } })) ∧
    (∀ (s : State) (ch n k : Nat) (p : Nat),
      s.stopSafe = true →
      ch < 256 →
      s.get (CH_STATUS_STATE ch) = 3 →
      s.get (CH_CN0_CN0 ch) < 8 * s.get (CH_LOCK_CN0_MIN ch) →
      (s.chSt ch).lowAt = some p →
      p + 100 * s.get (CH_TIME2_LOSS_MS ch) ≤ s.ply →
      (List.range 64).find? s.acqIdle = some n →
      s.acqNnc = some k →
      Does (.cn0LossTimeout ch) s (fun t =>
        Reads t [(CH_STATUS_STATE ch, 1), (CH_STATUS_LOST ch, 1), (CH_STATUS_LOSS_CAUSE ch, 1), (ACQ_ENT_W3_STATE n, 1), (ACQ_ENT_W3_CAUSE n, 0), (ACQ_ENT_W0_REACQ n, 1), (ACQ_ENT_W0_WIPE n, 0), (ACQ_ENT_W0_FE n, s.get (CH_CFG_FE ch) % 2), (ACQ_ENT_W0_SIGNAL n, s.get (CH_CFG_SIGNAL ch) % 16), (ACQ_ENT_W0_PRN n, s.get (CH_CFG_PRN ch) % 256), (ACQ_ENT_W0_CHANNEL n, ch), (ACQ_ENT_W0_NNC n, k), (ACQ_ENT_W0_TCOH_MS n, sigPrim (s.get (CH_CFG_SIGNAL ch))), (ACQ_ENT_W2_DOPP_HALF n, ceilQ (500 / (sigPrim (s.get (CH_CFG_SIGNAL ch)) : Rat))), (ACQ_ENT_W2_DOPP_CENTRE n, usgn 16 (quantQ ((s.getS (CH_DOPP_DOPP ch) : Rat) / 1024))), (ACQ_RES_W1_DWELLS n, 0)] ∧
        t.evr = (s.record .chLost [ch, 1]).evr ∧
        RegsBut ([CH_STATUS_STATE ch, CH_STATUS_LOST ch, CH_STATUS_LOSS_CAUSE ch] ++ [REC_CNT_QUEUE_DROP] ++ entryRegs n) s t ∧
        t = { s with regs := t.regs, evr := t.evr, gnss := { (s.setPos n {}).gnss with lost := (s.gnss.lost.filter (fun (x : LossRec) => x.ch != ch) ++ [⟨ch, s.ply, s.get (CH_CODE_CODE ch), s.getS (CH_DOPP_DOPP ch)⟩]) } })) ∧
    (∀ (s : State) (ch kind txMs : Nat) (inv tow : Bool) (pl : List Nat),
      s.stopSafe = true →
      ch < 256 →
      s.chRuns ch = true →
      (navKinds (s.get (CH_CFG_SIGNAL ch))).contains kind = true →
      Does (.navUnitDecode ch kind 0 txMs inv tow none none pl) s (fun t =>
        Reads t [(CH_STATUS_NAV_SYNC ch, 1), (NAV_HEAD_SEQ, (s.get NAV_HEAD_SEQ + 1) % 2 ^ 32)] ∧
        (List.range 256).all (fun d => t.get (CH_STATUS_TIME_LEVEL d) == (if tow && (d == ch || (s.chRuns d && s.sameSat ch d && s.bit (CH_STATUS_CODE_LOCK d))) then 2 else s.get (CH_STATUS_TIME_LEVEL d))) = true ∧
        RegsBut ([CH_STATUS_NAV_SYNC ch, NAV_HEAD_SEQ] ++ (List.range 256).map CH_STATUS_TIME_LEVEL) s t ∧
        t = { s with regs := t.regs, gnss := { (s.setCh ch { s.chSt ch with navFails := 0 }).gnss with nav := (s.gnss.nav ++ [({ ch := ch, sig := s.get (CH_CFG_SIGNAL ch) + 16 * s.get (CH_CFG_FE ch), prn := s.get (CH_CFG_PRN ch), kind := kind, bits := navBits kind, check := 0, inverted := inv && kind == 0, txMs := if tow || s.get (CH_STATUS_TIME_LEVEL ch) == 2 then txMs else 0xFFFFFFFF, seq := s.get NAV_HEAD_SEQ, payload := (navDeliver kind (inv && kind == 0) pl).take 80 } : NavRec)]).drop (s.gnss.nav.length + 1 - 512) } })) ∧
    (∀ (s : State) (ch kind txMs : Nat) (inv tow : Bool) (pl : List Nat) (i : Bool),
      s.stopSafe = true →
      ch < 256 →
      s.chRuns ch = true →
      (navKinds (s.get (CH_CFG_SIGNAL ch))).contains kind = true →
      s.bit (CH_STATUS_HALF_UNRES ch) = true →
      Does (.navUnitDecode ch kind 0 txMs inv tow (some i) none pl) s (fun t =>
        Reads t [(CH_STATUS_NAV_SYNC ch, 1), (NAV_HEAD_SEQ, (s.get NAV_HEAD_SEQ + 1) % 2 ^ 32), (CH_STATUS_HALF_UNRES ch, 0), (CH_CARR_LO_PHASE ch, if i then (s.get (CH_CARR_LO_PHASE ch) + s.get (CH_CARR_HI_PHASE ch) * 2 ^ 32 + 2 ^ 31) % 2 ^ 32 else s.get (CH_CARR_LO_PHASE ch)), (CH_CARR_HI_PHASE ch, if i then (s.get (CH_CARR_LO_PHASE ch) + s.get (CH_CARR_HI_PHASE ch) * 2 ^ 32 + 2 ^ 31) / 2 ^ 32 % 2 ^ 32 else s.get (CH_CARR_HI_PHASE ch)), (CH_CNT_SLIP_CNT ch, if i then (s.get (CH_CNT_SLIP_CNT ch) + 1) % 2 ^ 16 else s.get (CH_CNT_SLIP_CNT ch)), (CH_LOCKT_LOCK_MS ch, if i then 0 else s.get (CH_LOCKT_LOCK_MS ch))] ∧
        (List.range 256).all (fun d => t.get (CH_STATUS_TIME_LEVEL d) == (if tow && (d == ch || (s.chRuns d && s.sameSat ch d && s.bit (CH_STATUS_CODE_LOCK d))) then 2 else s.get (CH_STATUS_TIME_LEVEL d))) = true ∧
        RegsBut (([CH_STATUS_NAV_SYNC ch, NAV_HEAD_SEQ] ++ (List.range 256).map CH_STATUS_TIME_LEVEL) ++ [CH_STATUS_HALF_UNRES ch, CH_CARR_LO_PHASE ch, CH_CARR_HI_PHASE ch, CH_CNT_SLIP_CNT ch, CH_LOCKT_LOCK_MS ch]) s t ∧
        t = { s with regs := t.regs, gnss := { (s.setCh ch { s.chSt ch with navFails := 0, phOff := (s.chSt ch).phOff + (if i then 2 ^ 31 else 0) }).gnss with nav := (s.gnss.nav ++ [({ ch := ch, sig := s.get (CH_CFG_SIGNAL ch) + 16 * s.get (CH_CFG_FE ch), prn := s.get (CH_CFG_PRN ch), kind := kind, bits := navBits kind, check := 0, inverted := inv && kind == 0, txMs := if tow || s.get (CH_STATUS_TIME_LEVEL ch) == 2 then txMs else 0xFFFFFFFF, seq := s.get NAV_HEAD_SEQ, payload := (navDeliver kind (inv && kind == 0) pl).take 80 } : NavRec)]).drop (s.gnss.nav.length + 1 - 512) } })) ∧
    (∀ (s : State) (ch kind txMs : Nat) (inv tow : Bool) (pl : List Nat) (u : Int × Option (Nat × Bool)),
      s.stopSafe = true →
      ch < 256 →
      s.chRuns ch = true →
      (navKinds (s.get (CH_CFG_SIGNAL ch))).contains kind = true →
      sigSys (s.get (CH_CFG_SIGNAL ch)) = 0 →
      Does (.navUnitDecode ch kind 0 txMs inv tow none (some u) pl) s (fun t =>
        Reads t [(CH_STATUS_NAV_SYNC ch, 1), (NAV_HEAD_SEQ, (s.get NAV_HEAD_SEQ + 1) % 2 ^ 32), (TIME_STATUS_UTC_VALID, 1)] ∧
        (List.range 256).all (fun d => t.get (CH_STATUS_TIME_LEVEL d) == (if tow && (d == ch || (s.chRuns d && s.sameSat ch d && s.bit (CH_STATUS_CODE_LOCK d))) then 2 else s.get (CH_STATUS_TIME_LEVEL d))) = true ∧
        RegsBut (TIME_STATUS_UTC_VALID :: ([CH_STATUS_NAV_SYNC ch, NAV_HEAD_SEQ] ++ (List.range 256).map CH_STATUS_TIME_LEVEL)) s t ∧
        t = { s with regs := t.regs, time := { s.time with utc := u.1, leapAt := u.2 }, gnss := { (s.setCh ch { s.chSt ch with navFails := 0 }).gnss with nav := (s.gnss.nav ++ [({ ch := ch, sig := s.get (CH_CFG_SIGNAL ch) + 16 * s.get (CH_CFG_FE ch), prn := s.get (CH_CFG_PRN ch), kind := kind, bits := navBits kind, check := 0, inverted := inv && kind == 0, txMs := if tow || s.get (CH_STATUS_TIME_LEVEL ch) == 2 then txMs else 0xFFFFFFFF, seq := s.get NAV_HEAD_SEQ, payload := (navDeliver kind (inv && kind == 0) pl).take 80 } : NavRec)]).drop (s.gnss.nav.length + 1 - 512) } })) ∧
    (∀ (s : State) (ch kind txMs : Nat) (inv tow : Bool) (pl : List Nat) (check : Nat),
      s.stopSafe = true →
      ch < 256 →
      s.chRuns ch = true →
      (navKinds (s.get (CH_CFG_SIGNAL ch))).contains kind = true →
      check ≠ 0 →
      s.bit (CH_STATUS_NAV_SYNC ch) = true →
      Does (.navUnitDecode ch kind check txMs inv tow none none pl) s (fun t =>
        Reads t [(CH_STATUS_NAV_SYNC ch, if 3 ≤ (s.chSt ch).navFails + 1 then 0 else 1), (NAV_HEAD_SEQ, (s.get NAV_HEAD_SEQ + 1) % 2 ^ 32)] ∧
        RegsBut [CH_STATUS_NAV_SYNC ch, NAV_HEAD_SEQ] s t ∧
        t = { s with regs := t.regs, gnss := { (s.setCh ch { s.chSt ch with navFails := if 3 ≤ (s.chSt ch).navFails + 1 then 0 else (s.chSt ch).navFails + 1 }).gnss with nav := (s.gnss.nav ++ [({ ch := ch, sig := s.get (CH_CFG_SIGNAL ch) + 16 * s.get (CH_CFG_FE ch), prn := s.get (CH_CFG_PRN ch), kind := kind, bits := navBits kind, check := navCheck kind check, inverted := false, txMs := if s.get (CH_STATUS_TIME_LEVEL ch) = 2 then txMs else 0xFFFFFFFF, seq := s.get NAV_HEAD_SEQ, payload := (navDeliver kind (false) pl).take 80 } : NavRec)]).drop (s.gnss.nav.length + 1 - 512) } })) ∧
    (∀ (s : State) (ch kind check txMs : Nat) (inv tow : Bool) (pl : List Nat),
      s.stopSafe = true →
      ch < 256 →
      s.chRuns ch = true →
      (navKinds (s.get (CH_CFG_SIGNAL ch))).contains kind = true →
      check ≠ 0 →
      s.bit (CH_STATUS_NAV_SYNC ch) = false →
      Does (.navUnitDecode ch kind check txMs inv tow none none pl) s (fun t =>
        Reads t [(CH_STATUS_NAV_SYNC ch, 0)] ∧
        RegsBut [] s t ∧
        OnlyRegs s t))

/-- In the ply of an epoch the strobe is noted; with OBS_CTRL.EN it begins the record of the next SEQ with one entry for
each channel that is not IDLE, shows their NCOs and interrupts the four loop processors, and where the fix engine is
on and the epoch is no half epoch it takes its inputs. 0.9 ms later the entries not formed have VALID clear and LATE
advances for their banks. A formed record is shown in the next buffer under its SEQ with an interrupt; with PD_GNSS
off or REF_LOST it is dropped and SEQ stays. Away from the baseline and RTCM, publication changes nothing else but the
base of the fix and the offset and usability of GNSS time, and answers the one request that waits for it. An accepted
OBS_GET answers the entries asked for of the record of its epoch or of the latest, waits where that record is being
formed, and is refused without a record or outside 1 to 28; NAV_GET answers the records from its cursor; SIGNALS_SET
and RTCM_SET take and answer the settings in range and refuse others, and a signal that is no longer enabled stops its
channels. Nothing else changes. (Rests on: R258, R259, R260, R261, R262, R263, R264, R270, R277, R278, R279, R284.) -/
def Obligations.EpochsRecordsAndGnssOpcodes : Prop :=
    (∀ (s : State) (e rx : Int) (latch : List ChLatch) (eph : List Nat),
      s.stopSafe = true →
      s.strobeDue = some e →
      s.latchOk latch = true →
      s.cast.strobeNow = false →
      s.bit OBS_CTRL_EN = true →
      Does (.epochStrobe rx latch eph) s (fun t =>
        t.gnss.forming = some ({ week := epochWeekOf e, ms := epochMsOf e, sfn := s.sfn, rxOff := rx, ply := s.ply, flags := b2n (epochMsOf e % 100 == 50) + 2 * b2n (s.bit TIME_STATUS_VALID) + 4 * b2n (s.bit TIME_STATUS_HOLDOVER), front := s.frontByte, timeGen := s.get TIME_STATUS_TIME_GEN, seq := (s.get OBS_SEQ_SEQ + 1) % 2 ^ 32, ents := (latch.foldl (State.latchCh (epochMsOf e)) (s, [])).2 } : ObsRec) ∧
        t.gnss.formed = false ∧
        Reads t [(OBS_STATUS_FORMING, 1)] ∧
        (List.range latch.length).all (fun i => let l := latch.getD i ⟨0, 0, 0, 0, 0, 0⟩; t.get (CH_CODE_CODE l.ch) == l.code % 2 ^ 32) = true ∧
        t.out = s.out ++ [.irqLoop 0, .irqLoop 1, .irqLoop 2, .irqLoop 3] ∧
        t.fix = (if epochMsOf e % 100 = 50 ∨ s.domOff 6 = true then s else s.fixStrobe eph).fix ∧
        RegsBut ([OBS_STATUS_FORMING, FIX_REF_CTRL_PENDING] ++ latch.flatMap (fun l => [CH_CODE_CODE l.ch, CH_CARR_LO_PHASE l.ch, CH_CARR_HI_PHASE l.ch])) s t ∧
        t = { s with regs := t.regs, cast := { s.cast with strobeNow := true }, out := t.out, fix := t.fix, gnss := { s.gnss with forming := t.gnss.forming, formed := false, ch := t.gnss.ch } })) ∧
    (∀ (s : State) (e rx : Int) (latch : List ChLatch) (eph : List Nat),
      s.stopSafe = true →
      s.strobeDue = some e →
      s.latchOk latch = true →
      s.cast.strobeNow = false →
      s.bit OBS_CTRL_EN = false →
      Does (.epochStrobe rx latch eph) s (fun t =>
        t.fix = (if epochMsOf e % 100 = 50 ∨ s.domOff 6 = true then s else s.fixStrobe eph).fix ∧
        RegsBut [FIX_REF_CTRL_PENDING] s t ∧
        t = { s with regs := t.regs, cast := { s.cast with strobeNow := true }, fix := t.fix })) ∧
    (∀ (s : State) (un : List Nat) (r : ObsRec) (late : List ObsEnt),
      s.stopSafe = true →
      s.gnss.forming = some r →
      r.ply + 90 ≤ s.ply →
      s.gnss.formed = false →
      late = r.ents.filter (fun x => un.contains x.ch && bitOf x.flags 7) →
      Does (.obsFormDeadline un) s (fun t =>
        (List.range 8).all (fun b => t.get (BANK_CNT_LATE b) == (let k := (late.filter (fun x => x.ch / 32 == b)).length; if k = 0 then s.get (BANK_CNT_LATE b) else s.adv (BANK_CNT_LATE b) k)) = true ∧
        RegsBut (late.map (fun x => BANK_CNT_LATE (x.ch / 32))) s t ∧
        t = { s with regs := t.regs, gnss := { s.gnss with formed := true, forming := some { r with ents := r.ents.map (fun x => if un.contains x.ch then { x with flags := Sys2Proof.putBit x.flags 7 false } else x) } } })) ∧
    (∀ (s : State) (sol : Option TimeSol) (r : ObsRec),
      s.stopSafe = true →
      s.gnss.forming = some r →
      s.gnss.formed = true →
      s.domOff 7 = false →
      s.clk.refLost = false →
      bitOf r.flags 0 = true ∨ s.fixGet FIX_CTRL_INTEG_EN = 0 ∨ s.fixGet FIX_CTRL_EN = 0 ∨ s.domOff 6 = true ∨ s.boot.loaded.contains 6 = false →
      s.gnssCfg.waits.all (fun (w : ObsWait) => w.ms != r.ms) = true →
      s.rtcmDue r.ms = [] →
      Does (.obsRecordPublish sol) s (fun t =>
        Reads t [(OBS_STATUS_FORMING, 0), (OBS_STATUS_LATEST, s.nextBuf % 4), (OBS_SEQ_SEQ, r.seq % 2 ^ 32)] ∧
        t.out = s.out ++ [.irqApps OBS_SEQ_SEQ.key.reg] ∧
        t.time = (s.timeSol r sol).time ∧
        t.time.gnssOk = sol.any (fun x => decide (4 ≤ x.used ∧ x.used ≤ (r.ents.filter (fun e => e.fe == 0 && bitOf e.flags 2 && bitOf e.flags 7)).length ∧ x.sd ≤ 50)) ∧
        t.time.offs = (match sol with | some x => s.time.offs.filter (fun e => e.1 != 1) ++ [(1, x.off)] | none => s.time.offs) ∧
        RegsBut [OBS_STATUS_FORMING, OBS_STATUS_LATEST, OBS_SEQ_SEQ] s t ∧
        t = { s with regs := t.regs, out := t.out, time := t.time, gnss := { s.gnss with forming := none, formed := false, bufs := s.gnss.bufs.filter (fun (x : Nat × ObsRec) => x.1 ≠ s.nextBuf) ++ [(s.nextBuf, r)] }, fix := if bitOf r.flags 0 then s.fix else { s.fix with base := some r } })) ∧
    (∀ (s : State) (sol : Option TimeSol) (r : ObsRec) (w : ObsWait) (x : EcpSession) (y : EcpOpen),
      s.stopSafe = true →
      s.gnss.forming = some r →
      s.gnss.formed = true →
      s.domOff 7 = false →
      s.clk.refLost = false →
      bitOf r.flags 0 = true ∨ s.fixGet FIX_CTRL_INTEG_EN = 0 ∨ s.fixGet FIX_CTRL_EN = 0 ∨ s.domOff 6 = true ∨ s.boot.loaded.contains 6 = false →
      s.gnssCfg.waits.filter (fun (z : ObsWait) => z.ms == r.ms) = [w] →
      s.rtcmDue r.ms = [] →
      s.session w.sess = some x →
      x.inProg.find? (fun z => z.tag == w.tag) = some y →
      unheldOp y.op = false →
      s.sessSends x = true →
      x.devSeq < 0xFFFFFFFF →
      w.sess = 8 → s.ecp.spiOut.length < 16 →
      Does (.obsRecordPublish sol) s (fun t =>
        Reads t [(OBS_STATUS_FORMING, 0), (OBS_STATUS_LATEST, s.nextBuf % 4), (OBS_SEQ_SEQ, r.seq % 2 ^ 32)] ∧
        sends s t x [.irqApps OBS_SEQ_SEQ.key.reg] [⟨y.op, w.tag, Ecp.OK, respFlags x, x.devSeq + 1, obsGetBytes r w.first w.count, x.key⟩] = true ∧
        t.session w.sess = some { x with devSeq := x.devSeq + 1, inProg := x.inProg.filter (fun z => z.tag ≠ w.tag), held := (holdResult x ⟨w.tag, y.op, y.crc, Ecp.OK, obsGetBytes r w.first w.count, true⟩).held } ∧
        onlySession s t w.sess = true ∧
        RegsBut [OBS_STATUS_FORMING, OBS_STATUS_LATEST, OBS_SEQ_SEQ] s t ∧
        t = { s with regs := t.regs, out := t.out, ecp := t.ecp, time := t.time, gnssCfg := { s.gnssCfg with waits := s.gnssCfg.waits.filter (fun (w : ObsWait) => w.ms != r.ms) }, gnss := { s.gnss with forming := none, formed := false, bufs := s.gnss.bufs.filter (fun (x : Nat × ObsRec) => x.1 ≠ s.nextBuf) ++ [(s.nextBuf, r)] }, fix := if bitOf r.flags 0 then s.fix else { s.fix with base := some r } })) ∧
    (∀ (s : State) (sol : Option TimeSol) (r : ObsRec),
      s.gnss.forming = some r →
      s.gnss.formed = true →
      s.domOff 7 = false →
      s.clk.refLost = false →
      Does (.obsRecordPublish sol) s (fun t =>
        t.gnss.forming = none ∧
        t.gnss.bufs = s.gnss.bufs.filter (fun (x : Nat × ObsRec) => x.1 ≠ s.nextBuf) ++ [(s.nextBuf, r)] ∧
        t.ply = s.ply ∧
        t.rook = s.rook ∧
        t.rst = s.rst ∧
        t.memDevs = s.memDevs)) ∧
    (∀ (s : State) (sol : Option TimeSol) (r : ObsRec),
      s.stopSafe = true →
      s.gnss.forming = some r →
      s.gnss.formed = true →
      s.domOff 7 = true ∨ s.clk.refLost = true →
      Does (.obsRecordPublish sol) s (fun t =>
        Reads t [(OBS_STATUS_FORMING, 0)] ∧
        RegsBut [OBS_STATUS_FORMING] s t ∧
        t = { s with regs := t.regs, gnss := { s.gnss with forming := none, formed := false } })) ∧
    (∀ (s : State) (sess tag : Nat) (ms a cnt b : Nat) (r : ObsRec),
      s.stopSafe = true →
      s.accepts 0x0300 sess tag false = true →
      ms < 2 ^ 32 →
      a < 65536 →
      cnt < 256 →
      1 ≤ cnt →
      cnt ≤ 28 →
      s.gnss.forming.all (fun f => ms == 0xFFFFFFFF || f.ms != ms) = true →
      (s.gnss.bufs.filter (fun (x : Nat × ObsRec) => ms == 0xFFFFFFFF || x.2.ms == ms)).getLast? = some (b, r) →
      Does (.obsGet sess tag ((leBytes 4 ms ++ leBytes 2 a ++ [cnt, 0]))) s (fun t =>
        answers s t [] 0x0300 sess tag Ecp.OK (crc32c (leBytes 4 ms ++ leBytes 2 a ++ [cnt, 0])) (obsGetBytes r a cnt) = true ∧
        RegsBut [] s t ∧
        t = { s with regs := t.regs, ecp := t.ecp, out := t.out })) ∧
    (∀ (s : State) (sess tag : Nat) (ms a cnt : Nat),
      s.stopSafe = true →
      s.accepts 0x0300 sess tag false = true →
      ms < 2 ^ 32 →
      a < 65536 →
      cnt < 256 →
      cnt = 0 ∨ 28 < cnt ∨ (s.gnss.forming.all (fun f => ms == 0xFFFFFFFF || f.ms != ms) = true ∧ (s.gnss.bufs.filter (fun (x : Nat × ObsRec) => ms == 0xFFFFFFFF || x.2.ms == ms)).getLast? = none) →
      Does (.obsGet sess tag ((leBytes 4 ms ++ leBytes 2 a ++ [cnt, 0]))) s (fun t =>
        answers s t [] 0x0300 sess tag Ecp.BAD_PARAM (crc32c (leBytes 4 ms ++ leBytes 2 a ++ [cnt, 0])) [] = true ∧
        RegsBut [] s t ∧
        t = { s with regs := t.regs, ecp := t.ecp, out := t.out })) ∧
    (∀ (s : State) (sess tag : Nat) (ms a cnt : Nat) (r : ObsRec),
      s.stopSafe = true →
      s.accepts 0x0300 sess tag false = true →
      ms < 2 ^ 32 →
      a < 65536 →
      cnt < 256 →
      1 ≤ cnt →
      cnt ≤ 28 →
      s.gnss.forming = some r →
      ms ≠ 0xFFFFFFFF →
      r.ms = ms →
      Does (.obsGet sess tag ((leBytes 4 ms ++ leBytes 2 a ++ [cnt, 0]))) s (fun t =>
        opens s t [] 0x0300 sess tag (crc32c (leBytes 4 ms ++ leBytes 2 a ++ [cnt, 0])) (some (s.progressBytes sess tag)) = true ∧
        t.gnssCfg = { s.gnssCfg with waits := s.gnssCfg.waits ++ [⟨sess, tag, ms, a, cnt⟩] } ∧
        RegsBut [] s t ∧
        t = { s with regs := t.regs, gnssCfg := t.gnssCfg, ecp := t.ecp, out := t.out })) ∧
    (∀ (s : State) (sess tag : Nat) (cur cnt : Nat) (l : List NavRec),
      s.stopSafe = true →
      s.accepts 0x0301 sess tag false = true →
      cur < 2 ^ 32 →
      1 ≤ cnt →
      cnt ≤ 14 →
      l = ((s.gnss.nav.filter (fun r => decide (cur ≤ r.seq))).take cnt) →
      Does (.navGet sess tag ((leBytes 4 cur ++ [cnt, 0, 0, 0]))) s (fun t =>
        answers s t [] 0x0301 sess tag Ecp.OK (crc32c (leBytes 4 cur ++ [cnt, 0, 0, 0])) (leBytes 4 (match l.getLast? with | some r => r.seq + 1 | none => max cur (match s.gnss.nav with | r :: _ => r.seq | [] => s.get NAV_HEAD_SEQ)) ++ leBytes 4 ((match s.gnss.nav with | r :: _ => r.seq | [] => s.get NAV_HEAD_SEQ) - cur) ++ l.flatMap NavRec.bytes) = true ∧
        RegsBut [] s t ∧
        t = { s with regs := t.regs, ecp := t.ecp, out := t.out })) ∧
    (∀ (s : State) (sess tag : Nat) (cur cnt : Nat),
      s.stopSafe = true →
      s.accepts 0x0301 sess tag false = true →
      cur < 2 ^ 32 →
      cnt < 256 →
      cnt = 0 ∨ 14 < cnt →
      Does (.navGet sess tag ((leBytes 4 cur ++ [cnt, 0, 0, 0]))) s (fun t =>
        answers s t [] 0x0301 sess tag Ecp.BAD_PARAM (crc32c (leBytes 4 cur ++ [cnt, 0, 0, 0])) [] = true ∧
        RegsBut [] s t ∧
        t = { s with regs := t.regs, ecp := t.ecp, out := t.out })) ∧
    (∀ (s : State) (sess tag : Nat) (a b el : Nat),
      s.stopSafe = true →
      s.accepts 0x0302 sess tag false = true →
      a < 512 →
      b < 512 →
      el ≤ 30 →
      Does (.signalsSet sess tag ((leBytes 2 a ++ leBytes 2 b ++ [el, 0, 0, 0]))) s (fun t =>
        answers s t [] 0x0302 sess tag Ecp.OK (crc32c (leBytes 2 a ++ leBytes 2 b ++ [el, 0, 0, 0])) (leBytes 2 a ++ leBytes 2 b ++ [el, 0, 0, 0]) = true ∧
        t.gnssCfg = { s.gnssCfg with maskA := a, maskB := b, elevMask := el, sigSet := true } ∧
        (List.range 256).all (fun c => if s.chRuns c && !bitOf (if s.get (CH_CFG_FE c) = 0 then a else b) (s.get (CH_CFG_SIGNAL c)) then t.get (CH_STATUS_STATE c) == 0 && t.get (CH_STATUS_LOST c) == 1 && t.get (CH_STATUS_LOSS_CAUSE c) == 4 else t.get (CH_STATUS_STATE c) == s.get (CH_STATUS_STATE c)) = true ∧
        RegsBut ((List.range 256).flatMap (fun c => [CH_STATUS_STATE c, CH_STATUS_LOST c, CH_STATUS_LOSS_CAUSE c]) ++ [REC_CNT_QUEUE_DROP]) s t ∧
        t = { s with regs := t.regs, gnssCfg := t.gnssCfg, ecp := t.ecp, out := t.out, evr := t.evr })) ∧
    (∀ (s : State) (sess tag : Nat) (a b el : Nat),
      s.stopSafe = true →
      s.accepts 0x0302 sess tag false = true →
      a < 65536 →
      b < 65536 →
      el < 256 →
      512 ≤ a ∨ 512 ≤ b ∨ 30 < el →
      Does (.signalsSet sess tag ((leBytes 2 a ++ leBytes 2 b ++ [el, 0, 0, 0]))) s (fun t =>
        answers s t [] 0x0302 sess tag Ecp.BAD_PARAM (crc32c (leBytes 2 a ++ leBytes 2 b ++ [el, 0, 0, 0])) [] = true ∧
        RegsBut [] s t ∧
        t = { s with regs := t.regs, ecp := t.ecp, out := t.out })) ∧
    (∀ (s : State) (sess tag : Nat) (st m a y : Nat),
      s.stopSafe = true →
      s.accepts 0x0303 sess tag false = true →
      st ≤ 4095 →
      m ≤ 600 →
      m % s.basePeriod = 0 →
      a ≤ 60 →
      y < 16 →
      Does (.rtcmSet sess tag ((leBytes 2 st ++ leBytes 2 m ++ leBytes 2 a ++ [y, 0]))) s (fun t =>
        answers s t [] 0x0303 sess tag Ecp.OK (crc32c (leBytes 2 st ++ leBytes 2 m ++ leBytes 2 a ++ [y, 0])) (leBytes 2 st ++ leBytes 2 m ++ leBytes 2 a ++ [y, 0]) = true ∧
        t.gnssCfg = { s.gnssCfg with station := st, msmPeriod := m, arpPeriod := a, systems := y, rtcmSet := true } ∧
        RegsBut [] s t ∧
        t = { s with regs := t.regs, gnssCfg := t.gnssCfg, ecp := t.ecp, out := t.out })) ∧
    (∀ (s : State) (sess tag : Nat) (st m a y : Nat),
      s.stopSafe = true →
      s.accepts 0x0303 sess tag false = true →
      st < 65536 →
      m < 65536 →
      a < 65536 →
      y < 256 →
      4095 < st ∨ 600 < m ∨ m % s.basePeriod ≠ 0 ∨ 60 < a ∨ 16 ≤ y →
      Does (.rtcmSet sess tag ((leBytes 2 st ++ leBytes 2 m ++ leBytes 2 a ++ [y, 0]))) s (fun t =>
        answers s t [] 0x0303 sess tag Ecp.BAD_PARAM (crc32c (leBytes 2 st ++ leBytes 2 m ++ leBytes 2 a ++ [y, 0])) [] = true ∧
        RegsBut [] s t ∧
        t = { s with regs := t.regs, ecp := t.ecp, out := t.out }))

/-- At a whole local second, once, the first source of REF_CFG that has been usable for 10 s becomes SOURCE, SWITCHES and
a record following a change, and its offset shows in SRC_OFFSET, limited to 32 bits. On a valid clock an offset of at
most 1 ms is slewed at no more than 200 ns/s about the source's rate within the allowed range, the part taken a free
value (log 15), and a larger one backward shows BACK_PENDING and is slewed at 200 ns/s; a larger one forward arms a
step where none is armed; the first selection of a clock that is not valid arms the first step. One within HOLD_SPEC
ends holdover. With no source SOURCE is 0 and holdover is entered or goes on with its estimated error. A PTP_SET that
waits takes effect first: its bytes, JUMP_US and each domain as it configures it, no port PASSIVE. Nothing else
changes. (Rests on: R285, R286, R290, R291, R292, R294, R315.) -/
def Obligations.TimeSelectionAndHoldover : Prop :=
    (∀ (s : State) (e0 uF freq c : Nat) (d : Int),
      s.stopSafe = true →
      s.secondHere.isSome = true →
      s.time.selPly ≠ some s.ply →
      s.time.ptpNext = none →
      s.srcTrack.srcPick = some c →
      c < 5 →
      s.srcD c = d →
      s.bit TIME_STATUS_VALID = true →
      -1000000 ≤ d →
      d ≤ 1000000 →
      Does (.refSelection e0 uF freq) s (fun t =>
        Reads t [(TIME_STATUS_SOURCE, c), (TIME_CNT_SWITCHES, if s.get TIME_STATUS_SOURCE = c then s.get TIME_CNT_SWITCHES else s.adv TIME_CNT_SWITCHES), (SRC_OFFSET_D, usgn 32 d), (TIME_STATUS_BACK_PENDING, 0), (TIME_STATUS_HOLDOVER, if (d ≤ (s.get HOLD_CFG_HOLD_SPEC : Int) ∧ -d ≤ (s.get HOLD_CFG_HOLD_SPEC : Int)) then 0 else s.get TIME_STATUS_HOLDOVER), (TIME_ERR_EST, if (d ≤ (s.get HOLD_CFG_HOLD_SPEC : Int) ∧ -d ≤ (s.get HOLD_CFG_HOLD_SPEC : Int)) then s.get TIME_ERR_EST else (match s.time.hold with | some h => holdEst h (((s.ply - h.ply : Nat) : Rat) / 100000) (s.get HOLD_CFG_AGING) | none => s.get TIME_ERR_EST)), (TIME_ADDEND_ADDEND, (clampI 670753096 671424184 ((freq : Int) + clampI (-134) 134 (if 0 < d then ((s.freeVal % 135 : Nat) : Int) else if d < 0 then -((s.freeVal % 135 : Nat) : Int) else 0))).toNat)] ∧
        t.evr = (if s.get TIME_STATUS_SOURCE = c then s else s.record .refSwitch [c]).evr ∧
        RegsBut [TIME_STATUS_SOURCE, TIME_CNT_SWITCHES, REC_CNT_QUEUE_DROP, SRC_OFFSET_D, TIME_STATUS_BACK_PENDING, TIME_STATUS_HOLDOVER, TIME_ERR_EST, TIME_ADDEND_ADDEND] s t ∧
        t = { s with regs := t.regs, evr := t.evr, freeCtr := s.freeCtr + 1, time := { s.time with selPly := some s.ply, useSince := ([1, 2, 3, 4].foldl (fun l c => heldSince l c s.ply (s.srcUsable c)) s.time.useSince), backD := 0, hold := (if (d ≤ (s.get HOLD_CFG_HOLD_SPEC : Int) ∧ -d ≤ (s.get HOLD_CFG_HOLD_SPEC : Int)) then none else s.time.hold) } })) ∧
    (∀ (s : State) (e0 uF freq c : Nat) (d : Int),
      s.stopSafe = true →
      s.secondHere.isSome = true →
      s.time.selPly ≠ some s.ply →
      s.time.ptpNext = none →
      s.srcTrack.srcPick = some c →
      c < 5 →
      s.srcD c = d →
      s.bit TIME_STATUS_VALID = true →
      d < -1000000 →
      Does (.refSelection e0 uF freq) s (fun t =>
        Reads t [(TIME_STATUS_SOURCE, c), (TIME_CNT_SWITCHES, if s.get TIME_STATUS_SOURCE = c then s.get TIME_CNT_SWITCHES else s.adv TIME_CNT_SWITCHES), (SRC_OFFSET_D, usgn 32 (clampI (-2147483648) 2147483647 d)), (TIME_STATUS_BACK_PENDING, 1), (TIME_STATUS_HOLDOVER, if (d ≤ (s.get HOLD_CFG_HOLD_SPEC : Int) ∧ -d ≤ (s.get HOLD_CFG_HOLD_SPEC : Int)) then 0 else s.get TIME_STATUS_HOLDOVER), (TIME_ERR_EST, if (d ≤ (s.get HOLD_CFG_HOLD_SPEC : Int) ∧ -d ≤ (s.get HOLD_CFG_HOLD_SPEC : Int)) then s.get TIME_ERR_EST else (match s.time.hold with | some h => holdEst h (((s.ply - h.ply : Nat) : Rat) / 100000) (s.get HOLD_CFG_AGING) | none => s.get TIME_ERR_EST)), (TIME_ADDEND_ADDEND, (clampI 670753096 671424184 ((freq : Int) + clampI (-134) 134 (-(quant ((freq * 2 : Nat) : Int) 10000000)))).toNat)] ∧
        t.evr = (if s.bit TIME_STATUS_BACK_PENDING then (if s.get TIME_STATUS_SOURCE = c then s else s.record .refSwitch [c]) else (if s.get TIME_STATUS_SOURCE = c then s else s.record .refSwitch [c]).record .backPending []).evr ∧
        RegsBut [TIME_STATUS_SOURCE, TIME_CNT_SWITCHES, REC_CNT_QUEUE_DROP, SRC_OFFSET_D, TIME_STATUS_BACK_PENDING, TIME_STATUS_HOLDOVER, TIME_ERR_EST, TIME_ADDEND_ADDEND] s t ∧
        t = { s with regs := t.regs, evr := t.evr, freeCtr := s.freeCtr + 1, time := { s.time with selPly := some s.ply, useSince := ([1, 2, 3, 4].foldl (fun l c => heldSince l c s.ply (s.srcUsable c)) s.time.useSince), backD := d, hold := (if (d ≤ (s.get HOLD_CFG_HOLD_SPEC : Int) ∧ -d ≤ (s.get HOLD_CFG_HOLD_SPEC : Int)) then none else s.time.hold) } })) ∧
    (∀ (s : State) (e0 uF freq c : Nat) (d : Int),
      s.stopSafe = true →
      s.secondHere.isSome = true →
      s.time.selPly ≠ some s.ply →
      s.time.ptpNext = none →
      s.srcTrack.srcPick = some c →
      c < 5 →
      s.srcD c = d →
      s.time.step = none →
      s.bit TIME_STATUS_VALID = true →
      1000000 < d →
      Does (.refSelection e0 uF freq) s (fun t =>
        Reads t [(TIME_STATUS_SOURCE, c), (TIME_CNT_SWITCHES, if s.get TIME_STATUS_SOURCE = c then s.get TIME_CNT_SWITCHES else s.adv TIME_CNT_SWITCHES), (SRC_OFFSET_D, usgn 32 (clampI (-2147483648) 2147483647 d)), (TIME_STATUS_BACK_PENDING, 0), (TIME_STATUS_HOLDOVER, if (d ≤ (s.get HOLD_CFG_HOLD_SPEC : Int) ∧ -d ≤ (s.get HOLD_CFG_HOLD_SPEC : Int)) then 0 else s.get TIME_STATUS_HOLDOVER), (TIME_ERR_EST, if (d ≤ (s.get HOLD_CFG_HOLD_SPEC : Int) ∧ -d ≤ (s.get HOLD_CFG_HOLD_SPEC : Int)) then s.get TIME_ERR_EST else (match s.time.hold with | some h => holdEst h (((s.ply - h.ply : Nat) : Rat) / 100000) (s.get HOLD_CFG_AGING) | none => s.get TIME_ERR_EST)), (TIME_STATUS_STEP_ARMED, 1)] ∧
        t.evr = (if s.get TIME_STATUS_SOURCE = c then s else s.record .refSwitch [c]).evr ∧
        RegsBut [TIME_STATUS_SOURCE, TIME_CNT_SWITCHES, REC_CNT_QUEUE_DROP, SRC_OFFSET_D, TIME_STATUS_BACK_PENDING, TIME_STATUS_HOLDOVER, TIME_ERR_EST, TIME_STATUS_STEP_ARMED] s t ∧
        t = { s with regs := t.regs, evr := t.evr, time := { s.time with selPly := some s.ply, useSince := ([1, 2, 3, 4].foldl (fun l c => heldSince l c s.ply (s.srcUsable c)) s.time.useSince), backD := 0, hold := (if (d ≤ (s.get HOLD_CFG_HOLD_SPEC : Int) ∧ -d ≤ (s.get HOLD_CFG_HOLD_SPEC : Int)) then none else s.time.hold), step := some { auto := true, first := false, sec := some s.secNow } } })) ∧
    (∀ (s : State) (e0 uF freq c : Nat) (d : Int),
      s.stopSafe = true →
      s.secondHere.isSome = true →
      s.time.selPly ≠ some s.ply →
      s.time.ptpNext = none →
      s.srcTrack.srcPick = some c →
      c < 5 →
      s.srcD c = d →
      s.time.step = none →
      s.bit TIME_STATUS_VALID = false →
      Does (.refSelection e0 uF freq) s (fun t =>
        Reads t [(TIME_STATUS_SOURCE, c), (TIME_CNT_SWITCHES, if s.get TIME_STATUS_SOURCE = c then s.get TIME_CNT_SWITCHES else s.adv TIME_CNT_SWITCHES), (SRC_OFFSET_D, usgn 32 (clampI (-2147483648) 2147483647 d)), (TIME_STATUS_BACK_PENDING, if d < -1000000 then s.get TIME_STATUS_BACK_PENDING else 0), (TIME_STATUS_HOLDOVER, if (d ≤ (s.get HOLD_CFG_HOLD_SPEC : Int) ∧ -d ≤ (s.get HOLD_CFG_HOLD_SPEC : Int)) then 0 else s.get TIME_STATUS_HOLDOVER), (TIME_ERR_EST, if (d ≤ (s.get HOLD_CFG_HOLD_SPEC : Int) ∧ -d ≤ (s.get HOLD_CFG_HOLD_SPEC : Int)) then s.get TIME_ERR_EST else (match s.time.hold with | some h => holdEst h (((s.ply - h.ply : Nat) : Rat) / 100000) (s.get HOLD_CFG_AGING) | none => s.get TIME_ERR_EST)), (TIME_STATUS_STEP_ARMED, 1)] ∧
        t.evr = (if s.get TIME_STATUS_SOURCE = c then s else s.record .refSwitch [c]).evr ∧
        RegsBut [TIME_STATUS_SOURCE, TIME_CNT_SWITCHES, REC_CNT_QUEUE_DROP, SRC_OFFSET_D, TIME_STATUS_BACK_PENDING, TIME_STATUS_HOLDOVER, TIME_ERR_EST, TIME_STATUS_STEP_ARMED] s t ∧
        t = { s with regs := t.regs, evr := t.evr, time := { s.time with selPly := some s.ply, useSince := ([1, 2, 3, 4].foldl (fun l c => heldSince l c s.ply (s.srcUsable c)) s.time.useSince), backD := if d < -1000000 then s.time.backD else 0, hold := (if (d ≤ (s.get HOLD_CFG_HOLD_SPEC : Int) ∧ -d ≤ (s.get HOLD_CFG_HOLD_SPEC : Int)) then none else s.time.hold), step := some { auto := true, first := true, sec := some s.secNow } } })) ∧
    (∀ (s : State) (e0 uF freq : Nat) (h : HoldRec),
      s.stopSafe = true →
      s.secondHere.isSome = true →
      s.time.selPly ≠ some s.ply →
      s.time.ptpNext = none →
      s.srcTrack.srcPick = none →
      h = s.time.hold.getD { ply := s.ply, e0 := e0, uF := uF } →
      Does (.refSelection e0 uF freq) s (fun t =>
        Reads t [(TIME_STATUS_SOURCE, 0), (TIME_CNT_SWITCHES, if s.get TIME_STATUS_SOURCE = 0 then s.get TIME_CNT_SWITCHES else s.adv TIME_CNT_SWITCHES), (TIME_STATUS_HOLDOVER, 1), (TIME_ERR_EST, holdEst h (((s.ply - h.ply : Nat) : Rat) / 100000) (s.get HOLD_CFG_AGING))] ∧
        t.evr = (if s.get TIME_STATUS_SOURCE = 0 then s else s.record .refSwitch [0]).evr ∧
        RegsBut [TIME_STATUS_SOURCE, TIME_CNT_SWITCHES, REC_CNT_QUEUE_DROP, TIME_STATUS_HOLDOVER, TIME_ERR_EST] s t ∧
        t = { s with regs := t.regs, evr := t.evr, time := { s.time with selPly := some s.ply, useSince := ([1, 2, 3, 4].foldl (fun l c => heldSince l c s.ply (s.srcUsable c)) s.time.useSince), hold := some h } })) ∧
    (∀ (s : State) (e0 uF freq : Nat) (p : List Nat) (h : HoldRec),
      s.stopSafe = true →
      s.secondHere.isSome = true →
      s.time.selPly ≠ some s.ply →
      s.time.ptpNext = some p →
      ({ s with time := { s.time with selPly := some s.ply } } : State).ptpApply.srcTrack.srcPick = none →
      h = s.time.hold.getD { ply := s.ply, e0 := e0, uF := uF } →
      Does (.refSelection e0 uF freq) s (fun t =>
        Reads t [(REF_CFG_JUMP_US, leAt p 14 2), (TIME_STATUS_SOURCE, 0), (TIME_STATUS_HOLDOVER, 1), (DOM_STATUS_STATE 0, if leAt p 10 1 = 0xFF then 0 else if leAt p 10 1 = leAt s.time.ptp 10 1 ∧ leAt p 11 1 = leAt s.time.ptp 11 1 then s.get (DOM_STATUS_STATE 0) else 1), (DOM_STATUS_STATE 1, if leAt p 12 1 = 0xFF then 0 else if leAt p 12 1 = leAt s.time.ptp 12 1 ∧ leAt p 13 1 = leAt s.time.ptp 13 1 then s.get (DOM_STATUS_STATE 1) else 1), (DOM_STATUS_DOMAIN 0, if leAt p 10 1 = 0xFF then 0 else if leAt p 10 1 = leAt s.time.ptp 10 1 ∧ leAt p 11 1 = leAt s.time.ptp 11 1 then s.get (DOM_STATUS_DOMAIN 0) else leAt p 11 1), (DOM_STATUS_DOMAIN 1, if leAt p 12 1 = 0xFF then 0 else if leAt p 12 1 = leAt s.time.ptp 12 1 ∧ leAt p 13 1 = leAt s.time.ptp 13 1 then s.get (DOM_STATUS_DOMAIN 1) else leAt p 13 1)] ∧
        RegsBut [TIME_STATUS_SOURCE, TIME_CNT_SWITCHES, REC_CNT_QUEUE_DROP, TIME_STATUS_HOLDOVER, TIME_ERR_EST, REF_CFG_JUMP_US, DOM_STATUS_STATE 0, DOM_STATUS_STATE 1, DOM_STATUS_DOMAIN 0, DOM_STATUS_DOMAIN 1, DOM_ASYM_ASYM 0, DOM_ASYM_ASYM 1] s t ∧
        t = { s with regs := t.regs, evr := t.evr, time := { s.time with selPly := some s.ply, useSince := t.time.useSince, hold := some h, ptp := p, ptpNext := none, passive := [], domA := t.time.domA, domB := t.time.domB } }))

/-- A sample of a domain within JUMP_US of its prediction clears its outlier, is held for its source and shown less the
asymmetry, which the filter follows while GNSS is selected and the domain is TRACKING; a grandmaster change clears the
asymmetry first. One further off counts as an outlier and is noted; the second in a row to the same side makes the
domain FAULTED, recorded, and where the domain was the source and no other qualifies, holdover follows at once. A
FAULTED domain's samples are shown, not held; 60 s of successive samples within JUMP_US bring it back to TRACKING. A
domain ACQUIRING for at least 30 s becomes TRACKING. A better foreign master is noted once for a port. The leap flag
is set within 12 h of the end of an announced day while UTC is valid, and is cleared at its end with the offset
stepped. Nothing else changes. (Rests on: R282, R286, R287, R288, R289, R310, R311.) -/
def Obligations.TimeDomains : Prop :=
    (∀ (s : State) (d e0 uF freq : Nat) (off pred : Int) (gm : Bool) (D : DomSt),
      s.stopSafe = true →
      d < 2 →
      D = (if gm then { s.dom d with asym := 0, asymAt := none } else s.dom d) →
      s.get (DOM_STATUS_STATE d) = 1 ∨ s.get (DOM_STATUS_STATE d) = 2 →
      s.get TIME_STATUS_SOURCE ≠ 1 ∨ s.get (DOM_STATUS_STATE d) = 1 →
      off - pred ≤ (s.get REF_CFG_JUMP_US : Int) * 1000 →
      pred - off ≤ (s.get REF_CFG_JUMP_US : Int) * 1000 →
      Does (.domainOffsetSample d off pred gm e0 uF freq) s (fun t =>
        Reads t [(DOM_OFFSET_OFFSET d, usgn 32 (clampI (-2147483648) 2147483647 (off - (if gm then 0 else s.getS (DOM_ASYM_ASYM d))))), (DOM_ASYM_ASYM d, if gm then 0 else s.get (DOM_ASYM_ASYM d))] ∧
        RegsBut [DOM_OFFSET_OFFSET d, DOM_ASYM_ASYM d] s t ∧
        t = { s.setDom d { D with out := 0, asymAt := none } with regs := t.regs, time := { (s.setDom d { D with out := 0, asymAt := none }).time with offs := s.time.offs.filter (fun e => e.1 != d + 2) ++ [(d + 2, off)] } })) ∧
    (∀ (s : State) (d e0 uF freq : Nat) (off pred : Int) (gm : Bool) (D : DomSt),
      s.stopSafe = true →
      d < 2 →
      D = (if gm then { s.dom d with asym := 0, asymAt := none } else s.dom d) →
      s.get (DOM_STATUS_STATE d) = 2 →
      s.get TIME_STATUS_SOURCE = 1 →
      off - pred ≤ (s.get REF_CFG_JUMP_US : Int) * 1000 →
      pred - off ≤ (s.get REF_CFG_JUMP_US : Int) * 1000 →
      Does (.domainOffsetSample d off pred gm e0 uF freq) s (fun t =>
        Reads t [(DOM_ASYM_ASYM d, usgn 32 (quantQ (D.asym + ((off : Rat) - D.asym) * expGain (((s.ply - D.asymAt.getD s.ply : Nat) : Rat) / 100000 / 1000)))), (DOM_OFFSET_OFFSET d, usgn 32 (clampI (-2147483648) 2147483647 (off - sgn 32 (usgn 32 (quantQ (D.asym + ((off : Rat) - D.asym) * expGain (((s.ply - D.asymAt.getD s.ply : Nat) : Rat) / 100000 / 1000)))))))] ∧
        RegsBut [DOM_OFFSET_OFFSET d, DOM_ASYM_ASYM d] s t ∧
        t = { s.setDom d { D with out := 0, asym := (D.asym + ((off : Rat) - D.asym) * expGain (((s.ply - D.asymAt.getD s.ply : Nat) : Rat) / 100000 / 1000)), asymAt := some s.ply } with regs := t.regs, time := { (s.setDom d { D with out := 0, asym := (D.asym + ((off : Rat) - D.asym) * expGain (((s.ply - D.asymAt.getD s.ply : Nat) : Rat) / 100000 / 1000)), asymAt := some s.ply }).time with offs := s.time.offs.filter (fun e => e.1 != d + 2) ++ [(d + 2, off)] } })) ∧
    (∀ (s : State) (d e0 uF freq : Nat) (off pred : Int) (gm : Bool) (D : DomSt) (dir : Int),
      s.stopSafe = true →
      d < 2 →
      D = (if gm then { s.dom d with asym := 0, asymAt := none } else s.dom d) →
      s.get (DOM_STATUS_STATE d) = 1 ∨ s.get (DOM_STATUS_STATE d) = 2 →
      D.out ≠ dir →
      (dir = 1 ∧ (s.get REF_CFG_JUMP_US : Int) * 1000 < off - pred) ∨ (dir = -1 ∧ (s.get REF_CFG_JUMP_US : Int) * 1000 < pred - off) →
      Does (.domainOffsetSample d off pred gm e0 uF freq) s (fun t =>
        Reads t [(TIME_CNT_OUTLIER, s.adv TIME_CNT_OUTLIER), (DOM_ASYM_ASYM d, if gm then 0 else s.get (DOM_ASYM_ASYM d))] ∧
        RegsBut [TIME_CNT_OUTLIER, DOM_ASYM_ASYM d] s t ∧
        t = { s.setDom d { D with out := dir } with regs := t.regs })) ∧
    (∀ (s : State) (d e0 uF freq : Nat) (off pred : Int) (gm : Bool) (D : DomSt) (dir : Int),
      s.stopSafe = true →
      d < 2 →
      D = (if gm then { s.dom d with asym := 0, asymAt := none } else s.dom d) →
      s.get (DOM_STATUS_STATE d) = 1 ∨ s.get (DOM_STATUS_STATE d) = 2 →
      D.out = dir →
      s.get TIME_STATUS_SOURCE ≠ d + 2 →
      (dir = 1 ∧ (s.get REF_CFG_JUMP_US : Int) * 1000 < off - pred) ∨ (dir = -1 ∧ (s.get REF_CFG_JUMP_US : Int) * 1000 < pred - off) →
      Does (.domainOffsetSample d off pred gm e0 uF freq) s (fun t =>
        Reads t [(TIME_CNT_OUTLIER, s.adv TIME_CNT_OUTLIER), (DOM_STATUS_STATE d, 3), (DOM_ASYM_ASYM d, if gm then 0 else s.get (DOM_ASYM_ASYM d))] ∧
        t.evr = (s.record .domFaulted [d]).evr ∧
        RegsBut [TIME_CNT_OUTLIER, DOM_STATUS_STATE d, DOM_ASYM_ASYM d, REC_CNT_QUEUE_DROP] s t ∧
        t = { s.setDom d { D with out := 0, calm := none, last := some off } with regs := t.regs, evr := t.evr, time := { (s.setDom d { D with out := 0, calm := none, last := some off }).time with useSince := ([1, 2, 3, 4].foldl (fun l c => heldSince l c s.ply (s.srcUsable c && c != d + 2)) s.time.useSince) } })) ∧
    (∀ (s : State) (d e0 uF freq : Nat) (off pred : Int) (gm : Bool) (D : DomSt) (dir : Int) (h : HoldRec) (z : State),
      s.stopSafe = true →
      d < 2 →
      D = (if gm then { s.dom d with asym := 0, asymAt := none } else s.dom d) →
      s.get (DOM_STATUS_STATE d) = 1 ∨ s.get (DOM_STATUS_STATE d) = 2 →
      D.out = dir →
      s.get TIME_STATUS_SOURCE = d + 2 →
      z = (s.put (DOM_STATUS_STATE d) 3).srcTrack →
      z.srcPick = none →
      h = s.time.hold.getD { ply := s.ply, e0 := e0, uF := uF } →
      (dir = 1 ∧ (s.get REF_CFG_JUMP_US : Int) * 1000 < off - pred) ∨ (dir = -1 ∧ (s.get REF_CFG_JUMP_US : Int) * 1000 < pred - off) →
      Does (.domainOffsetSample d off pred gm e0 uF freq) s (fun t =>
        Reads t [(TIME_CNT_OUTLIER, s.adv TIME_CNT_OUTLIER), (DOM_STATUS_STATE d, 3), (DOM_ASYM_ASYM d, if gm then 0 else s.get (DOM_ASYM_ASYM d)), (TIME_STATUS_SOURCE, 0), (TIME_CNT_SWITCHES, s.adv TIME_CNT_SWITCHES), (TIME_STATUS_HOLDOVER, 1), (TIME_ERR_EST, holdEst h (((s.ply - h.ply : Nat) : Rat) / 100000) (s.get HOLD_CFG_AGING))] ∧
        t.evr = ((s.record .domFaulted [d]).record .refSwitch [0]).evr ∧
        RegsBut [TIME_CNT_OUTLIER, DOM_STATUS_STATE d, DOM_ASYM_ASYM d, REC_CNT_QUEUE_DROP, TIME_STATUS_SOURCE, TIME_CNT_SWITCHES, TIME_STATUS_HOLDOVER, TIME_ERR_EST] s t ∧
        t = { s.setDom d { D with out := 0, calm := none, last := some off } with regs := t.regs, evr := t.evr, time := { (s.setDom d { D with out := 0, calm := none, last := some off }).time with useSince := z.time.useSince, hold := some h } })) ∧
    (∀ (s : State) (d e0 uF freq : Nat) (off pred : Int) (gm : Bool) (D : DomSt),
      s.stopSafe = true →
      d < 2 →
      D = (if gm then { s.dom d with asym := 0, asymAt := none } else s.dom d) →
      s.get (DOM_STATUS_STATE d) = 3 →
      Does (.domainOffsetSample d off pred gm e0 uF freq) s (fun t =>
        Reads t [(DOM_OFFSET_OFFSET d, usgn 32 (clampI (-2147483648) 2147483647 (off - (if gm then 0 else s.getS (DOM_ASYM_ASYM d))))), (DOM_ASYM_ASYM d, if gm then 0 else s.get (DOM_ASYM_ASYM d))] ∧
        RegsBut [DOM_OFFSET_OFFSET d, DOM_ASYM_ASYM d] s t ∧
        t = { s.setDom d { D with calm := if D.last.any (fun v => decide (off - v ≤ (s.get REF_CFG_JUMP_US : Int) * 1000 ∧ v - off ≤ (s.get REF_CFG_JUMP_US : Int) * 1000)) then some (D.calm.getD s.ply) else none, last := some off } with regs := t.regs })) ∧
    (∀ (s : State) (d p : Nat),
      s.stopSafe = true →
      d < 2 →
      s.get (DOM_STATUS_STATE d) = 3 →
      (s.dom d).calm = some p →
      p + 6000000 ≤ s.ply →
      Does (.domainFaultRecovery d) s (fun t =>
        Reads t [(DOM_STATUS_STATE d, 2)] ∧
        RegsBut [DOM_STATUS_STATE d] s t ∧
        t = { s.setDom d { s.dom d with out := 0, calm := none } with regs := t.regs, time := { (s.setDom d { s.dom d with out := 0, calm := none }).time with useSince := ([1, 2, 3, 4].foldl (fun l c => heldSince l c s.ply (s.srcUsable c || c == d + 2)) s.time.useSince) } })) ∧
    (∀ (s : State) (d : Nat),
      s.stopSafe = true →
      d < 2 →
      s.get (DOM_STATUS_STATE d) = 1 →
      (s.dom d).acqAt + 3000000 ≤ s.ply →
      Does (.domainTracking d) s (fun t =>
        Reads t [(DOM_STATUS_STATE d, 2)] ∧
        RegsBut [DOM_STATUS_STATE d] s t ∧
        t = { s with regs := t.regs, time := { s.time with useSince := ([1, 2, 3, 4].foldl (fun l c => heldSince l c s.ply (s.srcUsable c || c == d + 2)) s.time.useSince) } })) ∧
    (∀ (s : State) (port : Nat),
      s.stopSafe = true →
      port < 6 →
      bitOf (leAt s.time.ptp 0 1) port = true →
      (port == 5 && s.bit PAIR_CTRL_EN) = false →
      s.time.passive.contains port = false →
      Does (.ptpForeignMaster port) s (fun t =>
        Reads t [(DOM_GM_STATUS_FOREIGN_BETTER, 1)] ∧
        t.time = { s.time with passive := s.time.passive ++ [port] } ∧
        t.evr = (s.record .foreignBetter [port]).evr ∧
        RegsBut [DOM_GM_STATUS_FOREIGN_BETTER, REC_CNT_QUEUE_DROP] s t ∧
        t = { s with regs := t.regs, time := t.time, evr := t.evr })) ∧
    (∀ (s : State) (e : Nat) (plus : Bool),
      s.stopSafe = true →
      s.time.leapAt = some (e, plus) →
      s.bit TIME_STATUS_UTC_VALID = true →
      e ≤ s.secNow + 43200 →
      s.secNow < e →
      Does (.leapFlagSet) s (fun t =>
        Reads t [(TIME_STATUS_LEAP61, if plus then 1 else s.get TIME_STATUS_LEAP61), (TIME_STATUS_LEAP59, if plus then s.get TIME_STATUS_LEAP59 else 1)] ∧
        RegsBut [TIME_STATUS_LEAP61, TIME_STATUS_LEAP59] s t ∧
        OnlyRegs s t)) ∧
    (∀ (s : State) (e : Nat) (plus : Bool),
      s.stopSafe = true →
      s.time.leapAt = some (e, plus) →
      e ≤ s.secNow →
      Does (.leapFlagClear) s (fun t =>
        Reads t [(TIME_STATUS_LEAP61, 0), (TIME_STATUS_LEAP59, 0)] ∧
        t.time = { s.time with utc := s.time.utc + (if plus then 1 else -1), leapAt := none } ∧
        RegsBut [TIME_STATUS_LEAP61, TIME_STATUS_LEAP59] s t ∧
        t = { s with regs := t.regs, time := t.time }))

/-- A keyed STEP_CTRL write arms a step of DELTA_S and DELTA_NS when none is armed and a negative one has BACK; ACCEPT
arms the pending backward correction; a write refused or without the key or a bit changes nothing. An armed step is
announced at the boundary after the second in which it was armed, once, and lands at the next: the clock becomes its
old value plus the step, TIME_GEN advances, the offsets and edges held move with it, the grid does not, so its phase
by the clock changes by the step and beyond 1 us asks for a shift; a negative step clears BACK_PENDING; what is left
of the source's offset shows and may end holdover. The first step of a clock makes it valid and starts the grid. An
automatic step whose offset has turned negative is not taken (the model's choice, log 125). A TIME_STEP that armed it
is answered. TIME_GET answers the clock and status; TIME_STEP arms a step and stays in progress, or is denied or
refused; PTP_SET is answered and waits for the whole second, or is refused. Nothing else changes. (Rests on: R291,
R292, R293, R294, R295, R297, R298, R313, R314, R315.) -/
def Obligations.StepsAreArmedAnnouncedAndLand : Prop :=
    (∀ (s : State) (ini data : Nat) (dl : Int),
      s.stopSafe = true →
      MayWrite s ini 0x40600028 →
      bits data 31 16 = 0x5354 →
      bitOf data 0 = true →
      bitOf data 2 = false →
      dl = s.getS STEP_S_DELTA_S * 1000000000 + s.getS STEP_NS_DELTA_NS →
      deltaOk (s.getS STEP_S_DELTA_S) (s.getS STEP_NS_DELTA_NS) = true →
      s.time.step = none →
      bitOf data 1 = true ∨ 0 ≤ dl →
      Does (.stepCtrlArm ini data) s (fun t =>
        Reads t [(TIME_STATUS_STEP_ARMED, 1)] ∧
        t.time = { s.time with step := some { delta := dl, back := bitOf data 1, first := !s.bit TIME_STATUS_VALID, sec := if s.bit TIME_STATUS_VALID then some s.secNow else none } } ∧
        RegsBut [TIME_STATUS_STEP_ARMED] s t ∧
        t = { s with regs := t.regs, time := t.time })) ∧
    (∀ (s : State) (ini data : Nat) (dl : Int),
      s.stopSafe = true →
      MayWrite s ini 0x40600028 →
      bitOf data 0 = true →
      bitOf data 2 = false →
      dl = s.getS STEP_S_DELTA_S * 1000000000 + s.getS STEP_NS_DELTA_NS →
      bits data 31 16 ≠ 0x5354 ∨ deltaOk (s.getS STEP_S_DELTA_S) (s.getS STEP_NS_DELTA_NS) = false ∨ s.time.step.isSome = true ∨ (bitOf data 1 = false ∧ dl < 0) →
      Does (.stepCtrlArm ini data) s (fun t =>
        Reads t [(TIME_STATUS_STEP_ARMED, s.get TIME_STATUS_STEP_ARMED)] ∧
        RegsBut [] s t ∧
        OnlyRegs s t)) ∧
    (∀ (s : State) (ini data : Nat),
      s.stopSafe = true →
      MayWrite s ini 0x40600028 →
      bits data 31 16 = 0x5354 →
      bitOf data 2 = true →
      s.time.step = none →
      s.bit TIME_STATUS_BACK_PENDING = true →
      Does (.stepCtrlAccept ini data) s (fun t =>
        Reads t [(TIME_STATUS_STEP_ARMED, 1)] ∧
        t.time = { s.time with step := some { delta := s.time.backD, auto := true, back := true, first := !s.bit TIME_STATUS_VALID, sec := if s.bit TIME_STATUS_VALID then some s.secNow else none } } ∧
        RegsBut [TIME_STATUS_STEP_ARMED] s t ∧
        t = { s with regs := t.regs, time := t.time })) ∧
    (∀ (s : State) (ini data : Nat),
      s.stopSafe = true →
      MayWrite s ini 0x40600028 →
      bitOf data 2 = true →
      bits data 31 16 ≠ 0x5354 ∨ s.time.step.isSome = true ∨ s.bit TIME_STATUS_BACK_PENDING = false →
      Does (.stepCtrlAccept ini data) s (fun t =>
        Reads t [(TIME_STATUS_STEP_ARMED, s.get TIME_STATUS_STEP_ARMED)] ∧
        RegsBut [] s t ∧
        OnlyRegs s t)) ∧
    (∀ (s : State) (a : StepArm) (n : Nat),
      s.stopSafe = true →
      s.time.step = some a →
      a.announced = false →
      a.first = false →
      a.sec = some n →
      n + 1 ≤ s.secNow →
      Does (.stepAnnounce) s (fun t =>
        Reads t [(TIME_STATUS_STEP_ANNOUNCED, 1)] ∧
        t.time = { s.time with step := some { a with announced := true } } ∧
        t.evr = (s.record .stepAnnounced []).evr ∧
        RegsBut [TIME_STATUS_STEP_ANNOUNCED, REC_CNT_QUEUE_DROP] s t ∧
        t = { s with regs := t.regs, time := t.time, evr := t.evr })) ∧
    (∀ (s : State) (a : StepArm) (d r : Int),
      s.stopSafe = true →
      s.time.step = some a →
      s.stepDue = true →
      d = (if a.auto then s.srcD (s.get TIME_STATUS_SOURCE) else a.delta) →
      r = ({ s with time := { s.time with offs := s.time.offs.map (fun e => (e.1, e.2 - d)) } } : State).srcD (s.get TIME_STATUS_SOURCE) →
      a.first = false →
      a.auto = false ∨ a.back = true ∨ 0 ≤ d →
      a.req = none →
      Does (.stepLand) s (fun t =>
        Reads t [(TIME_STATUS_STEP_ARMED, 0), (TIME_STATUS_STEP_ANNOUNCED, 0), (TIME_STATUS_TIME_GEN, (s.get TIME_STATUS_TIME_GEN + 1) % 65536), (TIME_STATUS_BACK_PENDING, if d < 0 then 0 else s.get TIME_STATUS_BACK_PENDING), (SRC_OFFSET_D, if s.get TIME_STATUS_SOURCE = 0 then s.get SRC_OFFSET_D else usgn 32 (clampI (-2147483648) 2147483647 r)), (TIME_STATUS_HOLDOVER, if s.get TIME_STATUS_SOURCE ≠ 0 ∧ (r ≤ (s.get HOLD_CFG_HOLD_SPEC : Int) ∧ -r ≤ (s.get HOLD_CFG_HOLD_SPEC : Int)) then 0 else s.get TIME_STATUS_HOLDOVER), (TIME_ERR_EST, if s.get TIME_STATUS_SOURCE = 0 ∨ (r ≤ (s.get HOLD_CFG_HOLD_SPEC : Int) ∧ -r ≤ (s.get HOLD_CFG_HOLD_SPEC : Int)) then s.get TIME_ERR_EST else (match s.time.hold with | some h => holdEst h (((s.ply - h.ply : Nat) : Rat) / 100000) (s.get HOLD_CFG_AGING) | none => s.get TIME_ERR_EST)), (GRID_PHASE_PHI, if s.time.grid then usgn 32 (phaseReduce (s.getS GRID_PHASE_PHI + d)) else s.get GRID_PHASE_PHI), (TIME_STATUS_SHIFT_PENDING, if s.time.grid ∧ (1000 < phaseReduce (s.getS GRID_PHASE_PHI + d) ∨ phaseReduce (s.getS GRID_PHASE_PHI + d) < -1000) then 1 else s.get TIME_STATUS_SHIFT_PENDING)] ∧
        s.rst.held.contains .sys = false → s.evr.queue.length + 2 ≤ 64 → (t.evr.queue.getLast?).map (fun (x : Rec) => (x.ev, x.payload)) = some (.stepLanded, leBytes 6 s.time.sec ++ leBytes 4 s.time.ns ++ leBytes 6 t.time.sec ++ leBytes 4 t.time.ns ++ leBytes 2 ((s.get TIME_STATUS_TIME_GEN + 1) % 65536)) ∧
        RegsBut [TIME_STATUS_STEP_ARMED, TIME_STATUS_STEP_ANNOUNCED, TIME_STATUS_TIME_GEN, TIME_STATUS_BACK_PENDING, SRC_OFFSET_D, TIME_STATUS_HOLDOVER, TIME_ERR_EST, REC_CNT_QUEUE_DROP, GRID_PHASE_PHI, TIME_STATUS_SHIFT_PENDING] s t ∧
        t = { s with regs := t.regs, evr := t.evr, time := { s.time with sec := (s.time.move d).sec, fx := (s.time.move d).fx, step := none, stepPly := some s.ply, backD := if d < 0 then 0 else s.time.backD, offs := s.time.offs.map (fun e => (e.1, e.2 - d)), pps := s.time.pps.map (· + d), hold := (if s.get TIME_STATUS_SOURCE ≠ 0 ∧ (r ≤ (s.get HOLD_CFG_HOLD_SPEC : Int) ∧ -r ≤ (s.get HOLD_CFG_HOLD_SPEC : Int)) then none else s.time.hold), gridNs := if s.time.grid then s.time.gridNs + d else s.time.gridNs, shiftWait := if s.time.grid ∧ s.bit TIME_STATUS_SHIFT_PENDING = false ∧ (1000 < phaseReduce (s.getS GRID_PHASE_PHI + d) ∨ phaseReduce (s.getS GRID_PHASE_PHI + d) < -1000) then true else s.time.shiftWait } })) ∧
    (∀ (s : State) (a : StepArm) (d r : Int) (id tag : Nat) (x : EcpSession) (y : EcpOpen),
      s.stopSafe = true →
      s.time.step = some a →
      s.stepDue = true →
      d = (if a.auto then s.srcD (s.get TIME_STATUS_SOURCE) else a.delta) →
      r = ({ s with time := { s.time with offs := s.time.offs.map (fun e => (e.1, e.2 - d)) } } : State).srcD (s.get TIME_STATUS_SOURCE) →
      a.first = false →
      a.auto = false ∨ a.back = true ∨ 0 ≤ d →
      a.req = some (id, tag) →
      s.session id = some x →
      x.inProg.find? (fun z => z.tag == tag) = some y →
      unheldOp y.op = false →
      s.sessSends x = true →
      x.devSeq < 0xFFFFFFFF →
      id = 8 → s.ecp.spiOut.length < 16 →
      Does (.stepLand) s (fun t =>
        Reads t [(TIME_STATUS_STEP_ARMED, 0), (TIME_STATUS_STEP_ANNOUNCED, 0), (TIME_STATUS_TIME_GEN, (s.get TIME_STATUS_TIME_GEN + 1) % 65536), (TIME_STATUS_BACK_PENDING, if d < 0 then 0 else s.get TIME_STATUS_BACK_PENDING), (SRC_OFFSET_D, if s.get TIME_STATUS_SOURCE = 0 then s.get SRC_OFFSET_D else usgn 32 (clampI (-2147483648) 2147483647 r)), (TIME_STATUS_HOLDOVER, if s.get TIME_STATUS_SOURCE ≠ 0 ∧ (r ≤ (s.get HOLD_CFG_HOLD_SPEC : Int) ∧ -r ≤ (s.get HOLD_CFG_HOLD_SPEC : Int)) then 0 else s.get TIME_STATUS_HOLDOVER), (TIME_ERR_EST, if s.get TIME_STATUS_SOURCE = 0 ∨ (r ≤ (s.get HOLD_CFG_HOLD_SPEC : Int) ∧ -r ≤ (s.get HOLD_CFG_HOLD_SPEC : Int)) then s.get TIME_ERR_EST else (match s.time.hold with | some h => holdEst h (((s.ply - h.ply : Nat) : Rat) / 100000) (s.get HOLD_CFG_AGING) | none => s.get TIME_ERR_EST)), (GRID_PHASE_PHI, if s.time.grid then usgn 32 (phaseReduce (s.getS GRID_PHASE_PHI + d)) else s.get GRID_PHASE_PHI), (TIME_STATUS_SHIFT_PENDING, if s.time.grid ∧ (1000 < phaseReduce (s.getS GRID_PHASE_PHI + d) ∨ phaseReduce (s.getS GRID_PHASE_PHI + d) < -1000) then 1 else s.get TIME_STATUS_SHIFT_PENDING)] ∧
        sends s t x [] [⟨y.op, tag, Ecp.OK, respFlags x, x.devSeq + 1, leBytes 8 s.time.sec ++ leBytes 2 ((s.get TIME_STATUS_TIME_GEN + 1) % 65536) ++ [0, 0], x.key⟩] = true ∧
        t.session id = some { x with devSeq := x.devSeq + 1, inProg := x.inProg.filter (fun z => z.tag ≠ tag), held := (holdResult x ⟨tag, y.op, y.crc, Ecp.OK, leBytes 8 s.time.sec ++ leBytes 2 ((s.get TIME_STATUS_TIME_GEN + 1) % 65536) ++ [0, 0], true⟩).held } ∧
        onlySession s t id = true ∧
        RegsBut [TIME_STATUS_STEP_ARMED, TIME_STATUS_STEP_ANNOUNCED, TIME_STATUS_TIME_GEN, TIME_STATUS_BACK_PENDING, SRC_OFFSET_D, TIME_STATUS_HOLDOVER, TIME_ERR_EST, REC_CNT_QUEUE_DROP, GRID_PHASE_PHI, TIME_STATUS_SHIFT_PENDING] s t ∧
        t = { s with regs := t.regs, evr := t.evr, out := t.out, ecp := t.ecp, time := { s.time with sec := (s.time.move d).sec, fx := (s.time.move d).fx, step := none, stepPly := some s.ply, backD := if d < 0 then 0 else s.time.backD, offs := s.time.offs.map (fun e => (e.1, e.2 - d)), pps := s.time.pps.map (· + d), hold := (if s.get TIME_STATUS_SOURCE ≠ 0 ∧ (r ≤ (s.get HOLD_CFG_HOLD_SPEC : Int) ∧ -r ≤ (s.get HOLD_CFG_HOLD_SPEC : Int)) then none else s.time.hold), gridNs := if s.time.grid then s.time.gridNs + d else s.time.gridNs, shiftWait := if s.time.grid ∧ s.bit TIME_STATUS_SHIFT_PENDING = false ∧ (1000 < phaseReduce (s.getS GRID_PHASE_PHI + d) ∨ phaseReduce (s.getS GRID_PHASE_PHI + d) < -1000) then true else s.time.shiftWait } })) ∧
    (∀ (s : State) (a : StepArm) (d r : Int),
      s.stopSafe = true →
      s.time.step = some a →
      s.stepDue = true →
      d = (if a.auto then s.srcD (s.get TIME_STATUS_SOURCE) else a.delta) →
      r = ({ s with time := { s.time with offs := s.time.offs.map (fun e => (e.1, e.2 - d)) } } : State).srcD (s.get TIME_STATUS_SOURCE) →
      a.first = true →
      a.req = none →
      Does (.stepLand) s (fun t =>
        Reads t [(TIME_STATUS_STEP_ARMED, 0), (TIME_STATUS_STEP_ANNOUNCED, 0), (TIME_STATUS_TIME_GEN, (s.get TIME_STATUS_TIME_GEN + 1) % 65536), (TIME_STATUS_BACK_PENDING, if d < 0 then 0 else s.get TIME_STATUS_BACK_PENDING), (SRC_OFFSET_D, if s.get TIME_STATUS_SOURCE = 0 then s.get SRC_OFFSET_D else usgn 32 (clampI (-2147483648) 2147483647 r)), (TIME_STATUS_HOLDOVER, if s.get TIME_STATUS_SOURCE ≠ 0 ∧ (r ≤ (s.get HOLD_CFG_HOLD_SPEC : Int) ∧ -r ≤ (s.get HOLD_CFG_HOLD_SPEC : Int)) then 0 else s.get TIME_STATUS_HOLDOVER), (TIME_ERR_EST, if s.get TIME_STATUS_SOURCE = 0 ∨ (r ≤ (s.get HOLD_CFG_HOLD_SPEC : Int) ∧ -r ≤ (s.get HOLD_CFG_HOLD_SPEC : Int)) then s.get TIME_ERR_EST else (match s.time.hold with | some h => holdEst h (((s.ply - h.ply : Nat) : Rat) / 100000) (s.get HOLD_CFG_AGING) | none => s.get TIME_ERR_EST)), (TIME_STATUS_VALID, 1)] ∧
        s.rst.held.contains .sys = false → s.evr.queue.length + 2 ≤ 64 → (t.evr.queue.getLast?).map (fun (x : Rec) => (x.ev, x.payload)) = some (.stepLanded, leBytes 6 s.time.sec ++ leBytes 4 s.time.ns ++ leBytes 6 t.time.sec ++ leBytes 4 t.time.ns ++ leBytes 2 ((s.get TIME_STATUS_TIME_GEN + 1) % 65536)) ∧
        RegsBut [TIME_STATUS_STEP_ARMED, TIME_STATUS_STEP_ANNOUNCED, TIME_STATUS_TIME_GEN, TIME_STATUS_BACK_PENDING, SRC_OFFSET_D, TIME_STATUS_HOLDOVER, TIME_ERR_EST, REC_CNT_QUEUE_DROP, TIME_STATUS_VALID] s t ∧
        t = { s with regs := t.regs, evr := t.evr, time := { s.time with sec := (s.time.move d).sec, fx := (s.time.move d).fx, step := none, stepPly := some s.ply, backD := if d < 0 then 0 else s.time.backD, offs := s.time.offs.map (fun e => (e.1, e.2 - d)), pps := s.time.pps.map (· + d), hold := (if s.get TIME_STATUS_SOURCE ≠ 0 ∧ (r ≤ (s.get HOLD_CFG_HOLD_SPEC : Int) ∧ -r ≤ (s.get HOLD_CFG_HOLD_SPEC : Int)) then none else s.time.hold), grid := true, k := ((s.time.move d).gpsNs / 100000000).toNat, gridNs := (s.time.move d).gpsNs / 100000000 * 100000000 } })) ∧
    (∀ (s : State) (a : StepArm),
      s.stopSafe = true →
      s.time.step = some a →
      s.stepDue = true →
      a.auto = true →
      a.back = false →
      a.first = false →
      s.srcD (s.get TIME_STATUS_SOURCE) < 0 →
      Does (.stepLand) s (fun t =>
        Reads t [(TIME_STATUS_STEP_ARMED, 0), (TIME_STATUS_STEP_ANNOUNCED, 0)] ∧
        RegsBut [TIME_STATUS_STEP_ARMED, TIME_STATUS_STEP_ANNOUNCED] s t ∧
        t = { s with regs := t.regs, time := { s.time with step := none } })) ∧
    (∀ (s : State) (sess tag : Nat),
      s.stopSafe = true →
      s.accepts 0x0200 sess tag false = true →
      Does (.timeGet sess tag) s (fun t =>
        answers s t [] 0x0200 sess tag Ecp.OK (crc32c []) s.timeBytes = true ∧
        RegsBut [] s t ∧
        t = { s with regs := t.regs, ecp := t.ecp, out := t.out })) ∧
    (∀ (s : State) (sess tag : Nat) (ds dn : Int) (fl : Nat),
      s.stopSafe = true →
      s.accepts 0x0201 sess tag false = true →
      -(2 ^ 63) ≤ ds →
      ds < 2 ^ 63 →
      -(2 ^ 31) ≤ dn →
      dn < 2 ^ 31 →
      fl < 256 →
      bitOf fl 1 = true ∨ deltaOk ds dn = true →
      s.stepDenied (if bitOf fl 1 then s.time.backD else ds * 1000000000 + dn) (bitOf fl 0) (bitOf fl 1) = false →
      Does (.timeStep sess tag ((leBytes 8 (usgn 64 ds) ++ leBytes 4 (usgn 32 dn) ++ [fl, 0, 0, 0]))) s (fun t =>
        opens s t [] 0x0201 sess tag (crc32c (leBytes 8 (usgn 64 ds) ++ leBytes 4 (usgn 32 dn) ++ [fl, 0, 0, 0])) (some (s.progressBytes sess tag)) = true ∧
        Reads t [(TIME_STATUS_STEP_ARMED, 1)] ∧
        t.time = { s.time with step := some { delta := (if bitOf fl 1 then s.time.backD else ds * 1000000000 + dn), auto := bitOf fl 1, back := bitOf fl 0 || bitOf fl 1, req := some (sess, tag), first := !s.bit TIME_STATUS_VALID, sec := if s.bit TIME_STATUS_VALID then some s.secNow else none } } ∧
        RegsBut [TIME_STATUS_STEP_ARMED] s t ∧
        t = { s with regs := t.regs, time := t.time, ecp := t.ecp, out := t.out })) ∧
    (∀ (s : State) (sess tag : Nat) (ds dn : Int) (fl : Nat),
      s.stopSafe = true →
      s.accepts 0x0201 sess tag false = true →
      -(2 ^ 63) ≤ ds →
      ds < 2 ^ 63 →
      -(2 ^ 31) ≤ dn →
      dn < 2 ^ 31 →
      fl < 256 →
      bitOf fl 1 = true ∨ deltaOk ds dn = true →
      s.stepDenied (ds * 1000000000 + dn) (bitOf fl 0) (bitOf fl 1) = true →
      Does (.timeStep sess tag ((leBytes 8 (usgn 64 ds) ++ leBytes 4 (usgn 32 dn) ++ [fl, 0, 0, 0]))) s (fun t =>
        answers s t [] 0x0201 sess tag Ecp.DENIED (crc32c (leBytes 8 (usgn 64 ds) ++ leBytes 4 (usgn 32 dn) ++ [fl, 0, 0, 0])) [] = true ∧
        RegsBut [] s t ∧
        t = { s with regs := t.regs, ecp := t.ecp, out := t.out })) ∧
    (∀ (s : State) (sess tag : Nat) (ds dn : Int) (fl : Nat),
      s.stopSafe = true →
      s.accepts 0x0201 sess tag false = true →
      -(2 ^ 63) ≤ ds →
      ds < 2 ^ 63 →
      -(2 ^ 31) ≤ dn →
      dn < 2 ^ 31 →
      fl < 256 →
      bitOf fl 1 = false →
      deltaOk ds dn = false →
      Does (.timeStep sess tag ((leBytes 8 (usgn 64 ds) ++ leBytes 4 (usgn 32 dn) ++ [fl, 0, 0, 0]))) s (fun t =>
        answers s t [] 0x0201 sess tag Ecp.BAD_PARAM (crc32c (leBytes 8 (usgn 64 ds) ++ leBytes 4 (usgn 32 dn) ++ [fl, 0, 0, 0])) [] = true ∧
        RegsBut [] s t ∧
        t = { s with regs := t.regs, ecp := t.ecp, out := t.out })) ∧
    (∀ (s : State) (sess tag : Nat) (pay : List Nat),
      s.stopSafe = true →
      s.accepts 0x0202 sess tag false = true →
      pay.length = 16 →
      s.ptpOk pay = true →
      Does (.ptpSet sess tag pay) s (fun t =>
        answers s t [] 0x0202 sess tag Ecp.OK (crc32c pay) pay = true ∧
        t.time = { s.time with ptpNext := some pay } ∧
        RegsBut [] s t ∧
        t = { s with regs := t.regs, time := t.time, ecp := t.ecp, out := t.out })) ∧
    (∀ (s : State) (sess tag : Nat) (pay : List Nat),
      s.stopSafe = true →
      s.accepts 0x0202 sess tag false = true →
      pay.length = 16 →
      s.ptpOk pay = false →
      Does (.ptpSet sess tag pay) s (fun t =>
        answers s t [] 0x0202 sess tag Ecp.BAD_PARAM (crc32c pay) [] = true ∧
        RegsBut [] s t ∧
        t = { s with regs := t.regs, ecp := t.ecp, out := t.out }))

/-- An enabled pulse output sends its edge, of the programmed width and at most half the period, in the ply in which the
clock passes its instant, unless a step lands in it or, in MODE 1, strobes are not issued; the pulse input latches the
clock at its edge, with NEW set, keeps the edge and its offset to the nearest whole second. A received frame goes to
the firmware with the clock at its arrival, the ingress correction of the speed taken off where CORR_EN is set, and
TIME_GEN; a frame sent with a timestamp request adds an entry with the egress correction, or sets OVF when 16 wait; in
one-step mode a Sync leaves with its originTimestamp; a PASSIVE grandmaster port sends no Sync. A read of TXTS_W0
removes the oldest entry of its port and shows it, or shows 0. Nothing else changes. (Rests on: R284, R286, R296,
R302, R303, R304, R305, R306, R310, R312.) -/
def Obligations.PulsesAndTimestamps : Prop :=
    (∀ (s : State) (n : Nat),
      s.stopSafe = true →
      n < 2 →
      s.bit (PPS_CFG_EN n) = true →
      s.stepPlyNow = false →
      s.get (PPS_CFG_MODE n) = 0 ∨ s.strobesOn = true →
      (s.multipleHere (s.ppsPeriod n) (s.getS (PPS_OFS_OFS n))).isSome = true →
      Does (.ppsOutEdge n) s (fun t =>
        t.out = s.out ++ [Output.pps n (min (s.get (PPS_CFG_WIDTH_US n)) (s.ppsPeriod n / 2000))] ∧
        RegsBut [] s t ∧
        t = { s with regs := t.regs, out := t.out })) ∧
    (∀ (s : State) (dt : Nat) (t0 : TimeState) (e off : Int),
      s.stopSafe = true →
      t0 = s.time.move dt →
      e = ((t0.sec * 1000000000 + t0.ns : Nat) : Int) →
      off = ppsSec e * 1000000000 - e →
      Does (.ppsInEdge dt) s (fun t =>
        Reads t [(PPSIN_SEC_SEC, t0.sec % 2 ^ 32), (PPSIN_NS_NS, t0.ns), (PPSIN_NS_NEW, 1), (PPSIN_OFFSET_OFFSET, usgn 32 off)] ∧
        RegsBut [PPSIN_SEC_SEC, PPSIN_NS_NS, PPSIN_NS_NEW, PPSIN_OFFSET_OFFSET] s t ∧
        t = { s with regs := t.regs, time := { s.time with pps := (e :: s.time.pps).take 12, offs := s.time.offs.filter (fun x => x.1 != 4) ++ [(4, off)] } })) ∧
    (∀ (s : State) (p dt : Nat) (bytes : List Nat) (u : TimeState),
      s.stopSafe = true →
      s.ethUp p = true →
      u = s.time.move ((dt : Int) - (if s.bit (ETH_TS_CTRL_CORR_EN p) then ((ethCorr (s.get (ETH_CFG_SPEED p))).2 : Int) else 0)) →
      Does (.ethFrameReceive p dt bytes) s (fun t =>
        t.out = s.out ++ [Output.ethRx p u.sec u.ns (u.fx % 2 ^ 29 / 2 ^ 13) (s.get TIME_STATUS_TIME_GEN) bytes] ∧
        RegsBut [] s t ∧
        t = { s with regs := t.regs, out := t.out })) ∧
    (∀ (s : State) (p dt : Nat) (rq : Option (Nat × Nat × Nat)) (bytes f : List Nat) (u : TimeState),
      s.stopSafe = true →
      s.ethUp p = true →
      u = s.time.move ((dt : Int) + (if s.bit (ETH_TS_CTRL_CORR_EN p) then ((ethCorr (s.get (ETH_CFG_SPEED p))).1 : Int) else 0)) →
      s.ptpEgress p u rq bytes = some f →
      Does (.ethFrameTransmit p dt none rq bytes) s (fun t =>
        t.out = s.out ++ [Output.ethTx p f] ∧
        RegsBut [] s t ∧
        t = { s with regs := t.regs, out := t.out })) ∧
    (∀ (s : State) (p dt : Nat) (rq : Option (Nat × Nat × Nat)) (bytes f : List Nat) (u : TimeState) (i : Nat),
      s.stopSafe = true →
      s.ethUp p = true →
      u = s.time.move ((dt : Int) + (if s.bit (ETH_TS_CTRL_CORR_EN p) then ((ethCorr (s.get (ETH_CFG_SPEED p))).1 : Int) else 0)) →
      s.ptpEgress p u rq bytes = some f →
      s.txtsCount p < 16 →
      Does (.ethFrameTransmit p dt (some i) rq bytes) s (fun t =>
        t.out = s.out ++ [Output.ethTx p f] ∧
        t.eth = { s.eth with txts := s.eth.txts ++ [(⟨p, i % 65536, u.sec, u.ns, u.fx % 2 ^ 29 / 2 ^ 13, s.get TIME_STATUS_TIME_GEN⟩ : TxTs)] } ∧
        Reads t [(ETH_TXTS_STATUS_COUNT p, s.txtsCount p + 1)] ∧
        RegsBut [ETH_TXTS_STATUS_COUNT p] s t ∧
        t = { s with regs := t.regs, out := t.out, eth := t.eth })) ∧
    (∀ (s : State) (p dt : Nat) (rq : Option (Nat × Nat × Nat)) (bytes f : List Nat) (u : TimeState) (i : Nat),
      s.stopSafe = true →
      s.ethUp p = true →
      u = s.time.move ((dt : Int) + (if s.bit (ETH_TS_CTRL_CORR_EN p) then ((ethCorr (s.get (ETH_CFG_SPEED p))).1 : Int) else 0)) →
      s.ptpEgress p u rq bytes = some f →
      16 ≤ s.txtsCount p →
      Does (.ethFrameTransmit p dt (some i) rq bytes) s (fun t =>
        t.out = s.out ++ [Output.ethTx p f] ∧
        Reads t [(ETH_TXTS_STATUS_OVF p, 1), (ETH_TXTS_STATUS_OVF_CNT p, s.adv (ETH_TXTS_STATUS_OVF_CNT p))] ∧
        RegsBut [ETH_TXTS_STATUS_OVF p, ETH_TXTS_STATUS_OVF_CNT p] s t ∧
        t = { s with regs := t.regs, out := t.out })) ∧
    (∀ (s : State) (p dt o : Nat) (rq : Option (Nat × Nat × Nat)) (bytes : List Nat) (u : TimeState),
      s.stopSafe = true →
      s.ethUp p = true →
      u = s.time.move ((dt : Int) + (if s.bit (ETH_TS_CTRL_CORR_EN p) then ((ethCorr (s.get (ETH_CFG_SPEED p))).1 : Int) else 0)) →
      s.ptpAt bytes = some o →
      bytes.getD o 0 % 16 = 0 →
      bitOf (leAt s.time.ptp 5 1) p = true →
      s.time.passive.contains p = false →
      o = 14 →
      Does (.ethFrameTransmit p dt none rq bytes) s (fun t =>
        t.out = s.out ++ [Output.ethTx p (patch bytes (o + 34) (beBytes 6 u.sec ++ beBytes 4 u.ns))] ∧
        RegsBut [] s t ∧
        t = { s with regs := t.regs, out := t.out })) ∧
    (∀ (s : State) (p dt o : Nat) (i : Option Nat) (rq : Option (Nat × Nat × Nat)) (bytes : List Nat),
      s.stopSafe = true →
      s.ptpAt bytes = some o →
      bytes.getD o 0 % 16 = 0 ∨ bytes.getD o 0 % 16 = 8 ∨ bytes.getD o 0 % 16 = 11 →
      bitOf (leAt s.time.ptp 0 1) p = true →
      bytes.getD (o + 4) 0 = leAt s.time.ptp 1 1 →
      s.time.passive.contains p = true →
      Does (.ethFrameTransmit p dt i rq bytes) s (fun t =>
        t.out = s.out ∧
        RegsBut [] s t ∧
        t = { s with regs := t.regs })) ∧
    (∀ (s : State) (ini p : Nat) (e : TxTs),
      s.stopSafe = true →
      p < 6 →
      MayRead s ini (0x40610410 + 0x1000 * p) →
      s.eth.txts.find? (fun (x : TxTs) => x.port == p) = some e →
      Does (.txtsRead ini p) s (fun t =>
        t.eth = { s.eth with txts := s.eth.txts.erase e } ∧
        Reads t [(ETH_TXTS_W0_ID p, e.id % 65536), (ETH_TXTS_W0_SEC_HI p, e.sec / 2 ^ 32 % 65536), (ETH_TXTS_W1_SEC_LO p, e.sec % 2 ^ 32), (ETH_TXTS_W2_NS p, e.ns % 2 ^ 30), (ETH_TXTS_W3_TIME_GEN p, e.gen % 65536), (ETH_TXTS_W3_FRAC p, e.frac % 65536), (ETH_TXTS_STATUS_COUNT p, t.txtsCount p % 32)] ∧
        RegsBut [ETH_TXTS_W0_ID p, ETH_TXTS_W0_SEC_HI p, ETH_TXTS_W1_SEC_LO p, ETH_TXTS_W2_NS p, ETH_TXTS_W3_TIME_GEN p, ETH_TXTS_W3_FRAC p, ETH_TXTS_STATUS_COUNT p] s t ∧
        t = { s with regs := t.regs, eth := t.eth })) ∧
    (∀ (s : State) (ini p : Nat),
      s.stopSafe = true →
      p < 6 →
      MayRead s ini (0x40610410 + 0x1000 * p) →
      s.eth.txts.find? (fun (x : TxTs) => x.port == p) = none →
      Does (.txtsRead ini p) s (fun t =>
        Reads t [(ETH_TXTS_W0_ID p, 0), (ETH_TXTS_W0_SEC_HI p, 0), (ETH_TXTS_W1_SEC_LO p, 0), (ETH_TXTS_W2_NS p, 0), (ETH_TXTS_W3_TIME_GEN p, 0), (ETH_TXTS_W3_FRAC p, 0)] ∧
        RegsBut [ETH_TXTS_W0_ID p, ETH_TXTS_W0_SEC_HI p, ETH_TXTS_W1_SEC_LO p, ETH_TXTS_W2_NS p, ETH_TXTS_W3_TIME_GEN p, ETH_TXTS_W3_FRAC p] s t ∧
        OnlyRegs s t))

/-- APPLY_REF and APPLY_ORG mark the shadows for the next strobe, with PENDING until then, in one write or in two; ORG is
refused while a profile runs, and REFUSED is cleared by writing 1. The free engine takes the first-ranked COR of the
epoch whose base record is published. A solve that completes frees the engine; one later than 2500 us counts in LATE.
A filter that cannot start leaves a record without an update and stays as it was; a solve leaves the new filter, its
record and the counts of aborted searches, rejected fixes and lost fixes. 10 ms after the boundary of an epoch without
a base record BASE_MISSING counts and every queued COR of the epoch ends in a record with NO_BASE. The record shows in
the member's registers and PEAK_US and reaches the track engine, which does nothing for a channel that is IDLE. After
600 s the joint bias is no longer used. The opcodes read a record, set priorities and ask for filter resets, or are
refused. Nothing else changes. (Rests on: R27, R319, R320, R328, R337, R354, R356, R360, R362, R364, R365, R370.) -/
def Obligations.FixEngineQueueAndRecords : Prop :=
    (∀ (s : State) (ini data : Nat),
      s.stopSafe = true →
      MayWrite s ini 0x40200050 →
      bitOf data 31 = true →
      Does (.applyRef ini data) s (fun t =>
        Reads t [(FIX_REF_CTRL_BASE_ANT, bits data 3 0), (FIX_REF_CTRL_PENDING, if bitOf data 31 = true ∨ (bitOf data 30 = true ∧ s.pchRunning = false) then 1 else s.get FIX_REF_CTRL_PENDING), (FIX_REF_CTRL_REFUSED, if bitOf data 30 = true ∧ s.pchRunning = true then 1 else if bitOf data 29 = true then 0 else s.get FIX_REF_CTRL_REFUSED)] ∧
        t.fix = { s.fix with refAt := if bitOf data 31 = true then some s.ply else s.fix.refAt, orgAt := if bitOf data 30 = true ∧ s.pchRunning = false then some s.ply else s.fix.orgAt } ∧
        RegsBut [FIX_REF_CTRL_PENDING, FIX_REF_CTRL_REFUSED, FIX_REF_CTRL_BASE_ANT] s t ∧
        t = { s with regs := t.regs, fix := t.fix })) ∧
    (∀ (s : State) (ini data : Nat),
      s.stopSafe = true →
      MayWrite s ini 0x40200050 →
      bitOf data 30 = true →
      Does (.applyOrg ini data) s (fun t =>
        Reads t [(FIX_REF_CTRL_BASE_ANT, bits data 3 0), (FIX_REF_CTRL_PENDING, if bitOf data 31 = true ∨ (bitOf data 30 = true ∧ s.pchRunning = false) then 1 else s.get FIX_REF_CTRL_PENDING), (FIX_REF_CTRL_REFUSED, if bitOf data 30 = true ∧ s.pchRunning = true then 1 else if bitOf data 29 = true then 0 else s.get FIX_REF_CTRL_REFUSED)] ∧
        t.fix = { s.fix with refAt := if bitOf data 31 = true then some s.ply else s.fix.refAt, orgAt := if bitOf data 30 = true ∧ s.pchRunning = false then some s.ply else s.fix.orgAt } ∧
        RegsBut [FIX_REF_CTRL_PENDING, FIX_REF_CTRL_REFUSED, FIX_REF_CTRL_BASE_ANT] s t ∧
        t = { s with regs := t.regs, fix := t.fix })) ∧
    (∀ (s : State) (ini data : Nat),
      s.stopSafe = true →
      MayWrite s ini 0x40200050 →
      bitOf data 30 = true →
      s.pchRunning = true →
      Does (.applyOrg ini data) s (fun t =>
        Reads t [(FIX_REF_CTRL_REFUSED, 1)] ∧
        t.fix.orgAt = s.fix.orgAt ∧
        RegsBut [FIX_REF_CTRL_PENDING, FIX_REF_CTRL_REFUSED, FIX_REF_CTRL_BASE_ANT] s t ∧
        t = { s with regs := t.regs, fix := t.fix })) ∧
    (∀ (s : State) (j : CorJob) (r : ObsRec),
      s.stopSafe = true →
      s.fix.cur = none →
      s.jobFirst s.fix.queue = some j →
      s.fix.base = some r →
      s.boot.loaded.contains 6 = true →
      s.fixGet FIX_CTRL_EN ≠ 0 →
      r.week = j.cor.week →
      r.ms = j.cor.ms →
      Does (.fixSolveStart) s (fun t =>
        t.fix = { s.fix with cur := some j, queue := s.fix.queue.erase j } ∧
        RegsBut [] s t ∧
        t = { s with regs := t.regs, fix := t.fix })) ∧
    (∀ (s : State),
      s.stopSafe = true →
      s.fix.cur.isSome = true ∨ s.jobFirst s.fix.queue = none ∨ s.fix.base = none ∨ s.boot.loaded.contains 6 = false ∨ s.fixGet FIX_CTRL_EN = 0 →
      Does (.fixSolveStart) s (fun t =>
        t.fix = s.fix ∧
        RegsBut [] s t ∧
        OnlyRegs s t)) ∧
    (∀ (s : State) (dt us : Nat) (j : CorJob) (r : ObsRec) (z : State) (y : SolRec),
      s.stopSafe = true →
      s.fix.cur = some j →
      s.fix.base = some r →
      us = s.jobUs j dt →
      z = (if 2500 < us then State.bump { s with fix := { s.fix with cur := none } } FIX_OVL_LATE else { s with fix := { s.fix with cur := none } }) →
      z.solve j.addr j.cor r = none →
      y = z.idleRec j.addr j.cor.week j.cor.ms 0 us j.cor.antFault →
      s.pchState j.addr = 0 ∨ isAddr j.addr = false →
      Does (.fixSolveComplete dt) s (fun t =>
        t.fix = { s.fix with cur := none, recs := recsAfter s.fix.recs [y], done := s.fix.done ++ [y.shown] } ∧
        Reads t [(FIX_OVL_LATE, if 2500 < us then s.adv FIX_OVL_LATE else s.get FIX_OVL_LATE), (FIX_MEMBER_STATUS j.addr, y.status % 8), (FIX_MEMBER_HELD j.addr, bits y.flags 6 6), (FIX_MEMBER_NFIX j.addr, y.nfix % 256), (FIX_LOAD_PEAK_US, max (s.get FIX_LOAD_PEAK_US) y.solveUs % 65536)] ∧
        RegsBut (FIX_OVL_LATE :: recRegs j.addr) s t ∧
        t = { s with regs := t.regs, fix := t.fix })) ∧
    (∀ (s : State) (dt us : Nat) (j : CorJob) (r : ObsRec) (z : State) (y : SolRec),
      s.stopSafe = true →
      s.fix.cur = some j →
      s.fix.base = some r →
      us = s.jobUs j dt →
      z = (if 2500 < us then State.bump { s with fix := { s.fix with cur := none } } FIX_OVL_LATE else { s with fix := { s.fix with cur := none } }) →
      z.solve j.addr j.cor r = none →
      y = z.idleRec j.addr j.cor.week j.cor.ms 0 us j.cor.antFault →
      Does (.fixSolveComplete dt) s (fun t =>
        t = z.recorded [y])) ∧
    (∀ (s : State) (dt us : Nat) (j : CorJob) (r : ObsRec) (z : State) (y : SolRec) (x : SolveRes),
      s.stopSafe = true →
      s.fix.cur = some j →
      s.fix.base = some r →
      us = s.jobUs j dt →
      z = (if 2500 < us then State.bump { s with fix := { s.fix with cur := none } } FIX_OVL_LATE else { s with fix := { s.fix with cur := none } }) →
      z.solve j.addr j.cor r = some x →
      y = { addr := j.addr, status := x.status, flags := x.flags + 2 * b2n (posSat x.pos), ms := j.cor.ms, week := j.cor.week, nsig := x.nsig, nfix := x.nfix, sfn := s.sfn, pos := x.pos, ratio := x.ratio, age := 0, solveUs := min us 0xFFFF } →
      s.pchState j.addr = 0 ∨ isAddr j.addr = false →
      Does (.fixSolveComplete dt) s (fun t =>
        t.fix = { s.fix with cur := none, filters := s.fix.filters.filter (fun e => e.1 ≠ j.addr) ++ [(j.addr, x.filter)], recs := recsAfter s.fix.recs [y], done := s.fix.done ++ [y.shown] } ∧
        Reads t [(FIX_OVL_LATE, if 2500 < us then s.adv FIX_OVL_LATE else s.get FIX_OVL_LATE), (FIX_CNT3_SEARCH_ABORT, if x.abort then s.adv FIX_CNT3_SEARCH_ABORT else s.get FIX_CNT3_SEARCH_ABORT), (FIX_CNT4_FIX_REJECT, if x.reject then s.adv FIX_CNT4_FIX_REJECT else s.get FIX_CNT4_FIX_REJECT), (FIX_CNT4_FIX_LOST, if x.lost then s.adv FIX_CNT4_FIX_LOST else s.get FIX_CNT4_FIX_LOST), (FIX_MEMBER_STATUS j.addr, y.status % 8), (FIX_MEMBER_HELD j.addr, bits y.flags 6 6), (FIX_MEMBER_NFIX j.addr, y.nfix % 256), (FIX_LOAD_PEAK_US, max (s.get FIX_LOAD_PEAK_US) y.solveUs % 65536)] ∧
        RegsBut ([FIX_OVL_LATE, FIX_CNT3_SEARCH_ABORT, FIX_CNT4_FIX_REJECT, FIX_CNT4_FIX_LOST] ++ recRegs j.addr) s t ∧
        t = { s with regs := t.regs, fix := t.fix })) ∧
    (∀ (s : State) (dt us : Nat) (j : CorJob) (r : ObsRec) (z : State) (y : SolRec) (x : SolveRes) (u : State),
      s.stopSafe = true →
      s.fix.cur = some j →
      s.fix.base = some r →
      us = s.jobUs j dt →
      z = (if 2500 < us then State.bump { s with fix := { s.fix with cur := none } } FIX_OVL_LATE else { s with fix := { s.fix with cur := none } }) →
      z.solve j.addr j.cor r = some x →
      y = { addr := j.addr, status := x.status, flags := x.flags + 2 * b2n (posSat x.pos), ms := j.cor.ms, week := j.cor.week, nsig := x.nsig, nfix := x.nfix, sfn := s.sfn, pos := x.pos, ratio := x.ratio, age := 0, solveUs := min us 0xFFFF } →
      u = (z.solveCounts x).setFilter j.addr x.filter →
      Does (.fixSolveComplete dt) s (fun t =>
        t = u.recorded [y])) ∧
    (∀ (s : State) (dt : Nat),
      s.stopSafe = true →
      s.fix.cur = none ∨ s.fix.base = none →
      Does (.fixSolveComplete dt) s (fun t =>
        t.fix = s.fix ∧
        RegsBut [] s t ∧
        OnlyRegs s t)) ∧
    (∀ (s : State) (e : Nat × Nat) (l : List SolRec),
      s.stopSafe = true →
      e = s.startOf s.time.k →
      s.instantNow 10000000 = true →
      e.2 % s.epochMs = 0 →
      s.fix.base.all (fun r => !(r.week == e.1 && r.ms == e.2)) = true →
      s.fix.missing ≠ some e →
      l = (s.fix.queue.filter (fun j => (j.cor.week == e.1 && j.cor.ms == e.2))).map (fun j => s.idleRec j.addr e.1 e.2 16 (s.jobUs j 10000) j.cor.antFault) →
      s.quietFor l = true →
      Does (.baseMissingDecision) s (fun t =>
        t.fix = { s.fix with missing := some e, queue := s.fix.queue.filter (fun j => !(j.cor.week == e.1 && j.cor.ms == e.2)), recs := recsAfter s.fix.recs l, done := s.fix.done ++ l.map SolRec.shown } ∧
        Reads t [(FIX_CNT3_BASE_MISSING, s.adv FIX_CNT3_BASE_MISSING)] ∧
        l.all (fun x => (l.filter (fun y => y.addr == x.addr)).length != 1 || (t.get (FIX_MEMBER_STATUS x.addr) == x.status % 8 && t.get (FIX_MEMBER_NFIX x.addr) == 0)) = true ∧
        RegsBut (FIX_CNT3_BASE_MISSING :: l.flatMap (fun x => recRegs x.addr)) s t ∧
        t = { s with regs := t.regs, fix := t.fix })) ∧
    (∀ (s : State) (e : Nat × Nat) (l : List SolRec),
      s.stopSafe = true →
      e = s.startOf s.time.k →
      s.instantNow 10000000 = true →
      e.2 % s.epochMs = 0 →
      s.fix.base.all (fun r => !(r.week == e.1 && r.ms == e.2)) = true →
      s.fix.missing ≠ some e →
      l = (s.fix.queue.filter (fun j => (j.cor.week == e.1 && j.cor.ms == e.2))).map (fun j => s.idleRec j.addr e.1 e.2 16 (s.jobUs j 10000) j.cor.antFault) →
      Does (.baseMissingDecision) s (fun t =>
        t = (({ s with fix := { s.fix with missing := some e, queue := s.fix.queue.filter (fun j => !(j.cor.week == e.1 && j.cor.ms == e.2)) } }).bump FIX_CNT3_BASE_MISSING).recorded l)) ∧
    (∀ (s : State) (e : Nat × Nat),
      s.stopSafe = true →
      e = s.startOf s.time.k →
      s.instantNow 10000000 = false ∨ e.2 % s.epochMs ≠ 0 ∨ s.fix.base.any (fun r => r.week == e.1 && r.ms == e.2) = true ∨ s.fix.missing = some e →
      Does (.baseMissingDecision) s (fun t =>
        t.fix = s.fix ∧
        RegsBut [] s t ∧
        OnlyRegs s t)) ∧
    (∀ (s : State),
      s.stopSafe = true →
      s.gnss.fe0.ifbUse = true →
      s.gnss.fe0.ifbPly + 60000000 ≤ s.ply →
      Does (.ifbAgeExpiry) s (fun t =>
        t.gnss = { s.gnss with fe0 := { s.gnss.fe0 with ifbUse := false } } ∧
        t.fix = { s.fix with filters := s.fix.filters.map (fun (x : Nat × Filter) => (x.1, { x.2 with ionoReset := true })) } ∧
        RegsBut [] s t ∧
        t = { s with regs := t.regs, gnss := t.gnss, fix := t.fix })) ∧
    (∀ (s : State),
      s.stopSafe = true →
      s.gnss.fe0.ifbUse = false ∨ s.ply < s.gnss.fe0.ifbPly + 60000000 →
      Does (.ifbAgeExpiry) s (fun t =>
        t.gnss = s.gnss ∧
        RegsBut [] s t ∧
        OnlyRegs s t)) ∧
    (∀ (s : State) (sess tag : Nat) (a : Nat) (r : SolRec),
      s.stopSafe = true →
      s.accepts 0x0400 sess tag true = true →
      addrOk a = true →
      s.fix.recs.find? (fun (x : Nat × SolRec) => x.1 == a) = some (a, r) →
      s.get (MEMBER_W2_STATE a) ≠ 0 →
      Does (.solGet sess tag ([a, 0, 0, 0])) s (fun t =>
        answers s t [] 0x0400 sess tag Ecp.OK (crc32c [a, 0, 0, 0]) r.bytes = true ∧
        RegsBut [] s t ∧
        t = { s with regs := t.regs, ecp := t.ecp, out := t.out })) ∧
    (∀ (s : State) (sess tag : Nat) (a : Nat),
      s.stopSafe = true →
      s.accepts 0x0400 sess tag true = true →
      addrOk a = true →
      s.fix.recs.all (fun (x : Nat × SolRec) => x.1 != a) = true ∨ s.get (MEMBER_W2_STATE a) = 0 →
      Does (.solGet sess tag ([a, 0, 0, 0])) s (fun t =>
        answers s t [] 0x0400 sess tag Ecp.OK (crc32c [a, 0, 0, 0]) (SolRec.bytes { addr := a }) = true ∧
        RegsBut [] s t ∧
        t = { s with regs := t.regs, ecp := t.ecp, out := t.out })) ∧
    (∀ (s : State) (sess tag : Nat) (a : Nat),
      s.stopSafe = true →
      s.accepts 0x0400 sess tag true = true →
      a < 256 →
      addrOk a = false →
      Does (.solGet sess tag ([a, 0, 0, 0])) s (fun t =>
        answers s t [] 0x0400 sess tag Ecp.BAD_PARAM (crc32c [a, 0, 0, 0]) [] = true ∧
        RegsBut [] s t ∧
        t = { s with regs := t.regs, ecp := t.ecp, out := t.out })) ∧
    (∀ (s : State) (sess tag : Nat) (n : Nat) (ps : List (Nat × Nat)),
      s.stopSafe = true →
      s.accepts 0x0401 sess tag true = true →
      n = ps.length →
      1 ≤ n →
      n ≤ 64 →
      ps.all (fun e => addrOk e.1 && decide (e.2 ≤ 7)) = true →
      Does (.prioSet sess tag (([n, 0] ++ ps.flatMap (fun e => [e.1, e.2])))) s (fun t =>
        answers s t [] 0x0401 sess tag Ecp.OK (crc32c ([n, 0] ++ ps.flatMap (fun e => [e.1, e.2]))) [] = true ∧
        ps.all (fun e => t.get (FIX_MEMBER_PRIO e.1) == ((ps.filter (fun x => x.1 == e.1)).getLast?.getD e).2) = true ∧
        RegsBut (ps.map (fun e => FIX_MEMBER_PRIO e.1)) s t ∧
        t = { s with regs := t.regs, ecp := t.ecp, out := t.out })) ∧
    (∀ (s : State) (sess tag : Nat) (n : Nat) (ps : List (Nat × Nat)),
      s.stopSafe = true →
      s.accepts 0x0401 sess tag true = true →
      n = ps.length →
      n < 256 →
      ps.all (fun e => decide (e.1 < 256 ∧ e.2 < 256)) = true →
      n = 0 ∨ 64 < n ∨ ps.any (fun e => !addrOk e.1 || decide (7 < e.2)) = true →
      Does (.prioSet sess tag (([n, 0] ++ ps.flatMap (fun e => [e.1, e.2])))) s (fun t =>
        answers s t [] 0x0401 sess tag Ecp.BAD_PARAM (crc32c ([n, 0] ++ ps.flatMap (fun e => [e.1, e.2]))) [] = true ∧
        RegsBut [] s t ∧
        t = { s with regs := t.regs, ecp := t.ecp, out := t.out })) ∧
    (∀ (s : State) (sess tag : Nat) (a : Nat),
      s.stopSafe = true →
      s.accepts 0x0402 sess tag true = true →
      addrOk a = true ∨ a = 0xFF →
      Does (.filterReset sess tag ([a, 0, 0, 0])) s (fun t =>
        answers s t [] 0x0402 sess tag Ecp.OK (crc32c [a, 0, 0, 0]) [] = true ∧
        t.fix = { s.fix with resets := s.fix.resets ++ [a] } ∧
        RegsBut [] s t ∧
        t = { s with regs := t.regs, fix := t.fix, ecp := t.ecp, out := t.out })) ∧
    (∀ (s : State) (sess tag : Nat) (a : Nat),
      s.stopSafe = true →
      s.accepts 0x0402 sess tag true = true →
      a < 255 →
      addrOk a = false →
      Does (.filterReset sess tag ([a, 0, 0, 0])) s (fun t =>
        answers s t [] 0x0402 sess tag Ecp.BAD_PARAM (crc32c [a, 0, 0, 0]) [] = true ∧
        RegsBut [] s t ∧
        t = { s with regs := t.regs, ecp := t.ecp, out := t.out }))

/-- A LANE_CFG write that sets EN of a disabled lane takes it to HUNT with LO_OFS and CAUSE 0; one that clears EN takes it
to state 0; PROFILE 3 is refused. After 64 good words a link in HUNT locks: RELOCKS counts, the event is recorded, and
a lane in HUNT goes to CHECK. A lost link takes CHECK and READY back to HUNT, a loss in READY recorded. Two equal
complete capability cycles with CHECK correct make the lane READY, or FAULT with the cause found, 5 where an allowed
channel is covered by no account. The words of a span are counted in HUNT; in LOCKED each gives its sample, a wrong
CRC counts, and a good status frame shows its fields and its capability word; one that changes a word in READY is
FAULT with cause 1. RESERVE_LOW is judged anew where a lane's state may change. The device sends a control frame and
the APPLY word, and the transceiver applies the last control frame it received correctly. Nothing else changes. (Rests
on: R372, R373, R374, R375, R376, R377, R378, R379, R393, R398, R531.) -/
def Obligations.LanesLockCheckAndFault : Prop :=
    (∀ (s : State) (ini n data : Nat),
      s.stopSafe = true →
      n < 8 →
      MayWrite s ini (0x40300000 + 0x1000 * n) →
      s.bit (LANE_CFG_EN n) = false →
      bitOf data 31 = true →
      bits data 30 29 ≠ 3 →
      Does (.laneEnable ini n data) s (fun t =>
        Reads t [(LANE_CFG_EN n, 1), (LANE_CFG_PROFILE n, bits data 30 29), (LANE_CFG_RATE n, bits data 28 28), (LANE_CFG_PWR n, bits data 20 16), (LANE_STATUS_STATE n, 1), (LANE_STATUS_CAUSE n, 0), (LANE_TRIM_LO_OFS n, 0)] ∧
        t.lane n = { s.lane n with lo := 0, link := if (s.lane n).clkOk then 1 else 0, good := 0, part := [], last := none, prev := none } ∧
        RegsBut [LANE_CFG_EN n, LANE_CFG_PROFILE n, LANE_CFG_RATE n, LANE_CFG_PWR n, LANE_TRIM_LO_OFS n, LANE_STATUS_STATE n, LANE_STATUS_CAUSE n] s t ∧
        t = { s.setLane n (t.lane n) with regs := t.regs })) ∧
    (∀ (s : State) (ini n data : Nat),
      s.stopSafe = true →
      MayWrite s ini (0x40300000 + 0x1000 * n) →
      8 ≤ n ∨ s.bit (LANE_CFG_EN n) = true ∨ bitOf data 31 = false ∨ bits data 30 29 = 3 →
      Does (.laneEnable ini n data) s (fun t =>
        t.radio = s.radio ∧
        RegsBut [] s t ∧
        OnlyRegs s t)) ∧
    (∀ (s : State) (ini n data : Nat),
      s.stopSafe = true →
      n < 8 →
      MayWrite s ini (0x40300000 + 0x1000 * n) →
      s.bit (LANE_CFG_EN n) = true →
      bitOf data 31 = false →
      bits data 30 29 ≠ 3 →
      Does (.laneDisable ini n data) s (fun t =>
        Reads t [(LANE_CFG_EN n, 0), (LANE_CFG_PROFILE n, bits data 30 29), (LANE_CFG_RATE n, bits data 28 28), (LANE_CFG_PWR n, bits data 20 16), (LANE_STATUS_STATE n, 0), (LANE_STATUS_CAUSE n, 0)] ∧
        t.lane n = { s.lane n with link := 0, part := [], last := none, prev := none } ∧
        ReserveJudged s t ∧
        RegsBut [LANE_CFG_EN n, LANE_CFG_PROFILE n, LANE_CFG_RATE n, LANE_CFG_PWR n, LANE_STATUS_STATE n, LANE_STATUS_CAUSE n, ROOK_STATE_RESERVE_LOW, REC_CNT_QUEUE_DROP] s t ∧
        t = { s.setLane n (t.lane n) with regs := t.regs, evr := t.evr })) ∧
    (∀ (s : State) (ini n data : Nat),
      s.stopSafe = true →
      MayWrite s ini (0x40300000 + 0x1000 * n) →
      n < 8 →
      s.bit (LANE_CFG_EN n) = true →
      bitOf data 31 = false →
      bits data 30 29 = 3 →
      Does (.laneDisable ini n data) s (fun t =>
        ReserveJudged s t ∧
        RegsBut [ROOK_STATE_RESERVE_LOW, REC_CNT_QUEUE_DROP] s t ∧
        t = { s with regs := t.regs, evr := t.evr })) ∧
    (∀ (s : State) (ini n data : Nat),
      s.stopSafe = true →
      8 ≤ n ∨ s.bit (LANE_CFG_EN n) = false ∨ bitOf data 31 = true →
      Does (.laneDisable ini n data) s (fun t =>
        t.radio = s.radio ∧
        RegsBut [] s t ∧
        OnlyRegs s t)) ∧
    (∀ (s : State) (n : Nat),
      s.stopSafe = true →
      n < 8 →
      s.bit (LANE_CFG_EN n) = true →
      (s.lane n).link = 1 →
      64 ≤ (s.lane n).good →
      Does (.laneLinkLocked n) s (fun t =>
        Reads t [(LANE_CNT_RELOCKS n, s.adv (LANE_CNT_RELOCKS n)), (LANE_STATUS_STATE n, if s.get (LANE_STATUS_STATE n) = 1 then 2 else s.get (LANE_STATUS_STATE n))] ∧
        t.lane n = { s.lane n with link := 2, recent := [], fallen := false, part := [], last := none, prev := none } ∧
        t.evr = (s.record .laneRelock [n]).evr ∧
        RegsBut [LANE_CNT_RELOCKS n, LANE_STATUS_STATE n, REC_CNT_QUEUE_DROP] s t ∧
        t = { s.setLane n (t.lane n) with regs := t.regs, evr := t.evr })) ∧
    (∀ (s : State) (n : Nat),
      s.stopSafe = true →
      8 ≤ n ∨ s.bit (LANE_CFG_EN n) = false ∨ (s.lane n).link ≠ 1 ∨ (s.lane n).good < 64 →
      Does (.laneLinkLocked n) s (fun t =>
        t.radio = s.radio ∧
        RegsBut [] s t ∧
        OnlyRegs s t)) ∧
    (∀ (s : State) (n : Nat) (cl : Bool) (u : State),
      s.stopSafe = true →
      n < 8 →
      cl = true ∨ ((s.lane n).link = 2 ∧ (s.lane n).fallen = true) →
      s.get (LANE_STATUS_STATE n) = 2 ∨ s.get (LANE_STATUS_STATE n) = 3 →
      u = (if s.get (LANE_STATUS_STATE n) = 3 then s.record .laneLost [n] else s) →
      Does (.laneLinkLost n cl) s (fun t =>
        Reads t [(LANE_STATUS_STATE n, 1)] ∧
        t.lane n = { s.lane n with clkOk := !cl, link := if cl then 0 else 1, recent := [], fallen := false, rx := [], good := 0, part := [], last := none, prev := none } ∧
        ReserveJudged u t ∧
        RegsBut [LANE_STATUS_STATE n, ROOK_STATE_RESERVE_LOW, REC_CNT_QUEUE_DROP] s t ∧
        t = { s.setLane n (t.lane n) with regs := t.regs, evr := t.evr })) ∧
    (∀ (s : State) (n : Nat) (cl : Bool),
      s.stopSafe = true →
      n < 8 →
      cl = true ∨ ((s.lane n).link = 2 ∧ (s.lane n).fallen = true) →
      s.get (LANE_STATUS_STATE n) ≠ 2 →
      s.get (LANE_STATUS_STATE n) ≠ 3 →
      Does (.laneLinkLost n cl) s (fun t =>
        t.lane n = { s.lane n with clkOk := !cl, link := if cl then 0 else 1, good := 0, recent := [], fallen := false, rx := [] } ∧
        RegsBut [] s t ∧
        t = { s.setLane n (t.lane n) with regs := t.regs })) ∧
    (∀ (s : State) (n : Nat) (cl : Bool),
      s.stopSafe = true →
      8 ≤ n ∨ (cl = false ∧ ((s.lane n).link ≠ 2 ∨ (s.lane n).fallen = false)) →
      Does (.laneLinkLost n cl) s (fun t =>
        t.radio = s.radio ∧
        RegsBut [] s t ∧
        OnlyRegs s t)) ∧
    (∀ (s : State) (n : Nat) (a : List Nat),
      s.stopSafe = true →
      n < 8 →
      (s.lane n).last = some a →
      (s.lane n).prev = some a →
      s.get (LANE_STATUS_STATE n) = 2 →
      capsCheckOk a = true →
      s.capsCause n a = 0 →
      Does (.laneCapsCheck n) s (fun t =>
        Reads t [(LANE_STATUS_STATE n, if s.uncovered n then 4 else 3), (LANE_STATUS_CAUSE n, if s.uncovered n then 5 else s.get (LANE_STATUS_CAUSE n))] ∧
        ReserveJudged s t ∧
        RegsBut [LANE_STATUS_STATE n, LANE_STATUS_CAUSE n, ROOK_STATE_RESERVE_LOW, REC_CNT_QUEUE_DROP] s t ∧
        t = { s with regs := t.regs, evr := t.evr })) ∧
    (∀ (s : State) (n : Nat) (a : List Nat),
      s.stopSafe = true →
      n < 8 →
      (s.lane n).last = some a →
      (s.lane n).prev = some a →
      s.get (LANE_STATUS_STATE n) = 2 →
      capsCheckOk a = true →
      s.capsCause n a ≠ 0 →
      Does (.laneCapsCheck n) s (fun t =>
        Reads t [(LANE_STATUS_STATE n, 4), (LANE_STATUS_CAUSE n, s.capsCause n a)] ∧
        RegsBut [LANE_STATUS_STATE n, LANE_STATUS_CAUSE n] s t ∧
        OnlyRegs s t)) ∧
    (∀ (s : State) (n : Nat),
      s.stopSafe = true →
      8 ≤ n ∨ s.get (LANE_STATUS_STATE n) ≠ 2 ∨ (s.lane n).last = none ∨ (s.lane n).last ≠ (s.lane n).prev ∨ (s.lane n).last.all (fun a => !capsCheckOk a) = true →
      Does (.laneCapsCheck n) s (fun t =>
        t.radio = s.radio ∧
        RegsBut [] s t ∧
        OnlyRegs s t)) ∧
    (∀ (s : State) (n : Nat) (words : List Nat),
      s.stopSafe = true →
      n < 8 →
      s.bit (LANE_CFG_EN n) = true →
      (s.lane n).link ≠ 2 →
      Does (.laneStatusFrame n words) s (fun t =>
        t.lane n = words.foldl LaneState.huntWord { s.lane n with clkOk := true, link := if (s.lane n).link = 0 then 1 else (s.lane n).link, good := if (s.lane n).link = 0 then 0 else (s.lane n).good } ∧
        RegsBut [] s t ∧
        t = { s.setLane n (t.lane n) with regs := t.regs })) ∧
    (∀ (s : State) (n fr : Nat) (words : List Nat) (y : LaneState),
      s.stopSafe = true →
      n < 8 →
      s.bit (LANE_CFG_EN n) = true →
      (s.lane n).link = 2 →
      fr = stsFrame words →
      y = { words.foldl LaneState.lockWord { s.lane n with clkOk := true } with rx := words.map rxdSample } →
      linkFrameOk 0xC5A3 fr = false →
      Does (.laneStatusFrame n words) s (fun t =>
        Reads t [(LANE_CNT_CRC_ERR n, s.adv (LANE_CNT_CRC_ERR n) (words.filter (fun w => !wireCrcOk w)).length)] ∧
        t.lane n = y ∧
        RegsBut [LANE_CNT_CRC_ERR n] s t ∧
        t = { s.setLane n (t.lane n) with regs := t.regs })) ∧
    (∀ (s : State) (n fr : Nat) (words : List Nat) (y : LaneState),
      s.stopSafe = true →
      n < 8 →
      s.bit (LANE_CFG_EN n) = true →
      (s.lane n).link = 2 →
      fr = stsFrame words →
      y = { words.foldl LaneState.lockWord { s.lane n with clkOk := true } with rx := words.map rxdSample } →
      linkFrameOk 0xC5A3 fr = true →
      s.laneReady n = false ∨ s.get (if bits fr 28 26 % 2 = 0 then LANE_CAP_WORD_LO n (bits fr 28 26 / 2) else LANE_CAP_WORD_HI n (bits fr 28 26 / 2)) = bits fr 47 32 →
      Does (.laneStatusFrame n words) s (fun t =>
        Reads t [(LANE_CNT_CRC_ERR n, s.adv (LANE_CNT_CRC_ERR n) (words.filter (fun w => !wireCrcOk w)).length), (LANE_STATUS_RSSI n, bits fr 23 16), (LANE_STATUS_SYNTH_LOCK n, bits fr 24 24), (LANE_STATUS_PA_ALARM n, bits fr 25 25), (LANE_STATUS_CTL_ACK n, bits fr 55 48), ((if bits fr 28 26 % 2 = 0 then LANE_CAP_WORD_LO n (bits fr 28 26 / 2) else LANE_CAP_WORD_HI n (bits fr 28 26 / 2)), bits fr 47 32)] ∧
        t.lane n = capPush y (bits fr 28 26) (bits fr 47 32) ∧
        RegsBut [LANE_CNT_CRC_ERR n, LANE_STATUS_RSSI n, LANE_STATUS_SYNTH_LOCK n, LANE_STATUS_PA_ALARM n, LANE_STATUS_CTL_ACK n, (if bits fr 28 26 % 2 = 0 then LANE_CAP_WORD_LO n (bits fr 28 26 / 2) else LANE_CAP_WORD_HI n (bits fr 28 26 / 2))] s t ∧
        t = { s.setLane n (t.lane n) with regs := t.regs })) ∧
    (∀ (s : State) (n fr : Nat) (words : List Nat) (y : LaneState),
      s.stopSafe = true →
      n < 8 →
      s.bit (LANE_CFG_EN n) = true →
      (s.lane n).link = 2 →
      fr = stsFrame words →
      y = { words.foldl LaneState.lockWord { s.lane n with clkOk := true } with rx := words.map rxdSample } →
      linkFrameOk 0xC5A3 fr = true →
      s.laneReady n = true →
      s.get (if bits fr 28 26 % 2 = 0 then LANE_CAP_WORD_LO n (bits fr 28 26 / 2) else LANE_CAP_WORD_HI n (bits fr 28 26 / 2)) ≠ bits fr 47 32 →
      Does (.laneStatusFrame n words) s (fun t =>
        Reads t [(LANE_CNT_CRC_ERR n, s.adv (LANE_CNT_CRC_ERR n) (words.filter (fun w => !wireCrcOk w)).length), (LANE_STATUS_RSSI n, bits fr 23 16), (LANE_STATUS_SYNTH_LOCK n, bits fr 24 24), (LANE_STATUS_PA_ALARM n, bits fr 25 25), (LANE_STATUS_CTL_ACK n, bits fr 55 48), ((if bits fr 28 26 % 2 = 0 then LANE_CAP_WORD_LO n (bits fr 28 26 / 2) else LANE_CAP_WORD_HI n (bits fr 28 26 / 2)), bits fr 47 32), (LANE_STATUS_STATE n, 4), (LANE_STATUS_CAUSE n, 1)] ∧
        t.lane n = capPush y (bits fr 28 26) (bits fr 47 32) ∧
        ReserveJudged s t ∧
        RegsBut [LANE_CNT_CRC_ERR n, LANE_STATUS_RSSI n, LANE_STATUS_SYNTH_LOCK n, LANE_STATUS_PA_ALARM n, LANE_STATUS_CTL_ACK n, (if bits fr 28 26 % 2 = 0 then LANE_CAP_WORD_LO n (bits fr 28 26 / 2) else LANE_CAP_WORD_HI n (bits fr 28 26 / 2)), LANE_STATUS_STATE n, LANE_STATUS_CAUSE n, ROOK_STATE_RESERVE_LOW, REC_CNT_QUEUE_DROP] s t ∧
        t = { s.setLane n (t.lane n) with regs := t.regs, evr := t.evr })) ∧
    (∀ (s : State) (n : Nat) (words : List Nat),
      s.stopSafe = true →
      8 ≤ n ∨ s.bit (LANE_CFG_EN n) = false →
      Does (.laneStatusFrame n words) s (fun t =>
        t.radio = s.radio ∧
        RegsBut [] s t ∧
        OnlyRegs s t)) ∧
    (∀ (s : State) (n err : Nat) (e : TrxExt) (p : Option (Nat × Nat)),
      s.stopSafe = true →
      n < 8 →
      s.bit (LANE_CFG_EN n) = true →
      e = ((s.trx.find? (fun (x : Nat × TrxExt) => x.1 == n)).map (·.2)).getD {} →
      p = (if linkFrameOk 0x3A5C ((s.lane n).ctlFrame ^^^ (err % 2 ^ 64)) then some ((s.lane n).ctl, (s.lane n).seq) else e.pend) →
      Does (.trxControlApply n err) s (fun t =>
        t.trx = s.trx.filter (fun (x : Nat × TrxExt) => x.1 ≠ n) ++ [(n, { pend := none, cur := p.orElse (fun _ => e.cur) })] ∧
        t.out = s.out ++ [Output.laneTx n (s.lane n).ctlWords] ∧
        RegsBut [] s t ∧
        t = { s with regs := t.regs, trx := t.trx, out := t.out })) ∧
    (∀ (s : State) (n err : Nat),
      s.stopSafe = true →
      8 ≤ n ∨ s.bit (LANE_CFG_EN n) = false →
      Does (.trxControlApply n err) s (fun t =>
        t.trx = s.trx ∧
        RegsBut [] s t ∧
        OnlyRegs s t))

/-- Once during a slot the channels of the next slot are computed for the lanes of the hop set on profile 0, or on the
sub-GHz profiles, with the hop key of its superframe, or the key formed from the join key in an association slot, and
each lane's control word is set to its channel; without the key HOP_FAIL is set, an event record written and no
channel given. An apply that breaks no rule is PENDING with the shadows captured under the next version, and one that
does is REFUSED; both W1C bits clear in the same write. A bucket roll empties the current bucket into the 59 before it
and shows the sums; an account enabled for the first time starts with its share of the limit in every bucket; clearing
EN keeps its history; a locked or refused write changes nothing. After an account is written every lane and
RESERVE_LOW are judged anew. Nothing else changes. (Rests on: R385, R386, R387, R388, R389, R390, R393, R394, R428,
R531.) -/
def Obligations.HopsAndTransmitBudgets : Prop :=
    (∀ (s : State) (slot k sfn : Nat) (h : HopSet) (key : List Nat) (cs : List (Nat × Nat)),
      s.stopSafe = true →
      s.domOff 8 = false →
      s.time.grid = true →
      slot = s.slotNextOf 0 →
      k = s.nextK slot →
      s.hopFor k = some h →
      s.sfnAt k = some sfn →
      s.radio.hopAt0 ≠ some (k, slot) →
      (List.range 8).any (fun l => bitOf h.lanes l && s.prof l == 0) = true →
      s.hopKey h (assocSlot 0 k slot) = some key →
      cs = s.slotPicks h key 0 k sfn slot →
      Does (.hopCompute false) s (fun t =>
        t.radio = { (s.hopNote k (assocSlot 0 k slot) true).radio with hopAt0 := some (k, slot), chans := s.chansKept h 0 slot ++ cs.map (fun e => ({ lane := e.1, k := k, slot := slot, ch := e.2 } : HopChan)), lanes := (cs.foldl (fun u e => u.setCtl e.1 (ctlWord (chanKHz 0 e.2) 1 (s.get (LANE_CFG_PWR e.1)))) s).radio.lanes } ∧
        cs.all (fun e => (cs.filter (fun x => x.1 == e.1)).length != 1 || (t.lane e.1).ctl == ctlWord (chanKHz 0 e.2) 1 (s.get (LANE_CFG_PWR e.1))) = true ∧
        RegsBut [] s t ∧
        t = { s with regs := t.regs, radio := t.radio })) ∧
    (∀ (s : State) (slot k sfn : Nat) (h : HopSet),
      s.stopSafe = true →
      s.domOff 8 = false →
      s.time.grid = true →
      slot = s.slotNextOf 0 →
      k = s.nextK slot →
      s.hopFor k = some h →
      s.sfnAt k = some sfn →
      s.radio.hopAt0 ≠ some (k, slot) →
      (List.range 8).any (fun l => bitOf h.lanes l && s.prof l == 0) = true →
      s.hopKey h (assocSlot 0 k slot) = none →
      Does (.hopCompute false) s (fun t =>
        Reads t [(HOP_CTRL_HOP_FAIL, 1), (KS_CNT_ORPHAN_ABORTS, (s.keyAbort (if assocSlot 0 k slot then s.get MAC_KEYS_JOIN_KEY_SLOT else h.keySlot) 1 2).get KS_CNT_ORPHAN_ABORTS)] ∧
        t.radio = { (s.hopNote k (assocSlot 0 k slot) false).radio with hopAt0 := some (k, slot), chans := s.chansKept h 0 slot } ∧
        t.evr = ((s.keyAbort (if assocSlot 0 k slot then s.get MAC_KEYS_JOIN_KEY_SLOT else h.keySlot) 1 2).record .hopFail (leBytes 4 sfn ++ [slot, 0])).evr ∧
        RegsBut [HOP_CTRL_HOP_FAIL, KS_CNT_ORPHAN_ABORTS, REC_CNT_QUEUE_DROP] s t ∧
        t = { s with regs := t.regs, radio := t.radio, evr := t.evr, ks := t.ks })) ∧
    (∀ (s : State) (slot k sfn : Nat) (h : HopSet) (key : List Nat) (cs : List (Nat × Nat)) (p : Nat),
      s.stopSafe = true →
      s.domOff 8 = false →
      s.time.grid = true →
      slot = s.slotNextOf 1 →
      k = s.nextK slot →
      s.hopFor k = some h →
      s.sfnAt k = some sfn →
      p = 1 ∨ p = 2 →
      (List.range 8).all (fun l => !bitOf h.lanes l || s.prof l != 3 - p) = true →
      s.radio.hopAtS ≠ some (k, slot) →
      (List.range 8).any (fun l => bitOf h.lanes l && s.prof l == p) = true →
      s.hopKey h (assocSlot p k slot) = some key →
      cs = s.slotPicks h key p k sfn slot →
      Does (.hopCompute true) s (fun t =>
        t.radio = { (s.hopNote k (assocSlot p k slot) true).radio with hopAtS := some (k, slot), chans := s.chansKept h p slot ++ cs.map (fun e => ({ lane := e.1, k := k, slot := slot, ch := e.2 } : HopChan)), lanes := (cs.foldl (fun u e => u.setCtl e.1 (ctlWord (chanKHz p e.2) 1 (s.get (LANE_CFG_PWR e.1)))) s).radio.lanes } ∧
        cs.all (fun e => (cs.filter (fun x => x.1 == e.1)).length != 1 || (t.lane e.1).ctl == ctlWord (chanKHz p e.2) 1 (s.get (LANE_CFG_PWR e.1))) = true ∧
        RegsBut [] s t ∧
        t = { s with regs := t.regs, radio := t.radio })) ∧
    (∀ (s : State) (slot k sfn : Nat) (h : HopSet) (p : Nat),
      s.stopSafe = true →
      s.domOff 8 = false →
      s.time.grid = true →
      slot = s.slotNextOf 1 →
      k = s.nextK slot →
      s.hopFor k = some h →
      s.sfnAt k = some sfn →
      p = 1 ∨ p = 2 →
      (List.range 8).all (fun l => !bitOf h.lanes l || s.prof l != 3 - p) = true →
      s.radio.hopAtS ≠ some (k, slot) →
      (List.range 8).any (fun l => bitOf h.lanes l && s.prof l == p) = true →
      s.hopKey h (assocSlot p k slot) = none →
      Does (.hopCompute true) s (fun t =>
        Reads t [(HOP_CTRL_HOP_FAIL, 1), (KS_CNT_ORPHAN_ABORTS, (s.keyAbort (if assocSlot p k slot then s.get MAC_KEYS_JOIN_KEY_SLOT else h.keySlot) 1 2).get KS_CNT_ORPHAN_ABORTS)] ∧
        t.radio = { (s.hopNote k (assocSlot p k slot) false).radio with hopAtS := some (k, slot), chans := s.chansKept h p slot } ∧
        t.evr = ((s.keyAbort (if assocSlot p k slot then s.get MAC_KEYS_JOIN_KEY_SLOT else h.keySlot) 1 2).record .hopFail (leBytes 4 sfn ++ [slot, p])).evr ∧
        RegsBut [HOP_CTRL_HOP_FAIL, KS_CNT_ORPHAN_ABORTS, REC_CNT_QUEUE_DROP] s t ∧
        t = { s with regs := t.regs, radio := t.radio, evr := t.evr, ks := t.ks })) ∧
    (∀ (s : State) (slot k : Nat) (sub : Bool),
      s.stopSafe = true →
      s.domOff 8 = false →
      s.time.grid = true →
      slot = s.slotNextOf (b2n sub) →
      k = s.nextK slot →
      (if sub then s.radio.hopAtS else s.radio.hopAt0) ≠ some (k, slot) →
      s.hopFor k = none ∨ s.sfnAt k = none ∨ (s.hopFor k).any (fun h => (List.range 8).any (fun l => bitOf h.lanes l && (if sub then s.prof l == 1 || s.prof l == 2 else s.prof l == 0))) = false →
      Does (.hopCompute sub) s (fun t =>
        t.radio = (if sub then { s.radio with hopAtS := some (k, slot) } else { s.radio with hopAt0 := some (k, slot) }) ∧
        RegsBut [] s t ∧
        t = { s with regs := t.regs, radio := t.radio })) ∧
    (∀ (s : State) (slot k : Nat),
      s.stopSafe = true →
      s.domOff 8 = false →
      s.time.grid = true →
      slot = s.slotNextOf 1 →
      k = s.nextK slot →
      s.radio.hopAtS ≠ some (k, slot) →
      Does (.hopCompute true) s (fun t =>
        t = State.hopCompute 2 slot (State.hopCompute 1 slot { s with radio := { s.radio with hopAtS := some (k, slot) } }))) ∧
    (∀ (s : State) (sub : Bool),
      s.stopSafe = true →
      s.domOff 8 = true ∨ s.time.grid = false ∨ (if sub then s.radio.hopAtS = some (s.nextK (s.slotNextOf 1), s.slotNextOf 1) else s.radio.hopAt0 = some (s.nextK (s.slotNextOf 0), s.slotNextOf 0)) →
      Does (.hopCompute sub) s (fun t =>
        t.radio = s.radio ∧
        RegsBut [] s t ∧
        OnlyRegs s t)) ∧
    (∀ (s : State) (ini data : Nat) (h : HopSet),
      s.stopSafe = true →
      MayWrite s ini 0x40308000 →
      bitOf data 31 = true →
      h = (s.puts [(HOP_CTRL_LANES, bits data 23 16), (HOP_CTRL_KEY_SLOT, bits data 8 0)]).hopShadow ((s.radio.hopVer + 1) % 65536) →
      (s.puts [(HOP_CTRL_LANES, bits data 23 16), (HOP_CTRL_KEY_SLOT, bits data 8 0)]).hopRefused h = false →
      Does (.hopApply ini data) s (fun t =>
        Reads t [(HOP_CTRL_PENDING, 1), (HOP_CTRL_REFUSED, if bitOf data 30 then 0 else s.get HOP_CTRL_REFUSED), (HOP_CTRL_LANES, bits data 23 16), (HOP_CTRL_KEY_SLOT, bits data 8 0), (HOP_CTRL_HOP_FAIL, if bitOf data 28 then 0 else s.get HOP_CTRL_HOP_FAIL)] ∧
        t.radio = { s.radio with pend := some (h, s.get HOP_TARGET_SFN), hopVer := (s.radio.hopVer + 1) % 65536, hopSeq := dseqNext s.radio.bseq, bseq := dseqNext (dseqNext s.radio.bseq) } ∧
        RegsBut [HOP_CTRL_PENDING, HOP_CTRL_LANES, HOP_CTRL_KEY_SLOT, HOP_CTRL_REFUSED, HOP_CTRL_HOP_FAIL] s t ∧
        t = { s with regs := t.regs, radio := t.radio })) ∧
    (∀ (s : State) (ini data : Nat) (h : HopSet),
      s.stopSafe = true →
      MayWrite s ini 0x40308000 →
      bitOf data 31 = true →
      h = (s.puts [(HOP_CTRL_LANES, bits data 23 16), (HOP_CTRL_KEY_SLOT, bits data 8 0)]).hopShadow ((s.radio.hopVer + 1) % 65536) →
      (s.puts [(HOP_CTRL_LANES, bits data 23 16), (HOP_CTRL_KEY_SLOT, bits data 8 0)]).hopRefused h = true →
      Does (.hopApply ini data) s (fun t =>
        Reads t [(HOP_CTRL_REFUSED, 1), (HOP_CTRL_LANES, bits data 23 16), (HOP_CTRL_KEY_SLOT, bits data 8 0), (HOP_CTRL_HOP_FAIL, if bitOf data 28 then 0 else s.get HOP_CTRL_HOP_FAIL)] ∧
        RegsBut [HOP_CTRL_LANES, HOP_CTRL_KEY_SLOT, HOP_CTRL_REFUSED, HOP_CTRL_HOP_FAIL] s t ∧
        t = { s with regs := t.regs })) ∧
    (∀ (s : State) (m : Nat) (h : AcctHist),
      s.stopSafe = true →
      m < 128 →
      s.get (ACCT_W1_BUCKET_MS m) ≠ 0 →
      s.ply % (s.get (ACCT_W1_BUCKET_MS m) * 100) = 0 →
      (s.hist m).rolled ≠ some s.ply →
      h = { s.hist m with cur := (0, 0), old := ((s.hist m).cur :: (s.hist m).old).take 59, rolled := some s.ply } →
      Does (.budgetBucketRoll m) s (fun t =>
        t.hist m = h ∧
        Reads t [(ACCT_W5_ORD_SUM m, (h).ord % 2 ^ 32), (ACCT_W6_STOP_SUM m, (h).stop % 2 ^ 32)] ∧
        ReserveJudged s t ∧
        RegsBut [ACCT_W5_ORD_SUM m, ACCT_W6_STOP_SUM m, ROOK_STATE_RESERVE_LOW, REC_CNT_QUEUE_DROP] s t ∧
        t = { s.setHist m h with regs := t.regs, evr := t.evr })) ∧
    (∀ (s : State) (m : Nat),
      s.stopSafe = true →
      128 ≤ m ∨ s.get (ACCT_W1_BUCKET_MS m) = 0 ∨ s.ply % (s.get (ACCT_W1_BUCKET_MS m) * 100) ≠ 0 ∨ (s.hist m).rolled = some s.ply →
      Does (.budgetBucketRoll m) s (fun t =>
        t.radio = s.radio ∧
        RegsBut [] s t ∧
        OnlyRegs s t)) ∧
    (∀ (s : State) (ini m data : Nat),
      s.stopSafe = true →
      m < 128 →
      MayWrite s ini (0x40309000 + 0x20 * m) →
      bitOf data 31 = true →
      bits data 30 29 ≠ 3 →
      s.bit ACCT_CTRL_LOCK = false →
      s.bit (ACCT_W0_EN m) = false →
      s.get (ACCT_W1_BUCKET_MS m) ≠ 0 →
      (s.hist m).started = false →
      Does (.accountEnable ini m data) s (fun t =>
        Reads t [(ACCT_W0_EN m, 1), (ACCT_W0_PROFILE m, bits data 30 29), (ACCT_W0_CH_HI m, bits data 24 17), (ACCT_W0_CH_LO m, bits data 16 9), (ACCT_W0_WEIGHT m, bits data 8 0), (ACCT_W5_ORD_SUM m, (s.startHist m).ord % 2 ^ 32), (ACCT_W6_STOP_SUM m, (s.startHist m).stop % 2 ^ 32)] ∧
        t.hist m = s.startHist m ∧
        LanesJudged s t ∧
        ReserveJudged s t ∧
        RegsBut ([ACCT_W0_EN m, ACCT_W0_PROFILE m, ACCT_W0_CH_HI m, ACCT_W0_CH_LO m, ACCT_W0_WEIGHT m, ACCT_W5_ORD_SUM m, ACCT_W6_STOP_SUM m, ROOK_STATE_RESERVE_LOW, REC_CNT_QUEUE_DROP] ++ laneStateRegs) s t ∧
        t = { s.setHist m (s.startHist m) with regs := t.regs, evr := t.evr })) ∧
    (∀ (s : State) (ini m data : Nat),
      s.stopSafe = true →
      m < 128 →
      MayWrite s ini (0x40309000 + 0x20 * m) →
      bitOf data 31 = true →
      bits data 30 29 ≠ 3 →
      s.bit ACCT_CTRL_LOCK = false →
      s.bit (ACCT_W0_EN m) = false →
      s.get (ACCT_W1_BUCKET_MS m) ≠ 0 →
      (s.hist m).started = true →
      Does (.accountEnable ini m data) s (fun t =>
        Reads t [(ACCT_W0_EN m, 1), (ACCT_W0_PROFILE m, bits data 30 29), (ACCT_W0_CH_HI m, bits data 24 17), (ACCT_W0_CH_LO m, bits data 16 9), (ACCT_W0_WEIGHT m, bits data 8 0)] ∧
        LanesJudged s t ∧
        ReserveJudged s t ∧
        RegsBut ([ACCT_W0_EN m, ACCT_W0_PROFILE m, ACCT_W0_CH_HI m, ACCT_W0_CH_LO m, ACCT_W0_WEIGHT m, ROOK_STATE_RESERVE_LOW, REC_CNT_QUEUE_DROP] ++ laneStateRegs) s t ∧
        t = { s with regs := t.regs, evr := t.evr })) ∧
    (∀ (s : State) (ini m data : Nat),
      s.stopSafe = true →
      m < 128 →
      MayWrite s ini (0x40309000 + 0x20 * m) →
      bitOf data 31 = false ∨ bits data 30 29 = 3 ∨ s.bit ACCT_CTRL_LOCK = true ∨ s.bit (ACCT_W0_EN m) = true ∨ s.get (ACCT_W1_BUCKET_MS m) = 0 →
      Does (.accountEnable ini m data) s (fun t =>
        t.radio = s.radio ∧
        RegsBut [] s t ∧
        OnlyRegs s t)) ∧
    (∀ (s : State) (ini m data : Nat),
      s.stopSafe = true →
      m < 128 →
      MayWrite s ini (0x40309000 + 0x20 * m) →
      bitOf data 31 = false →
      bits data 30 29 ≠ 3 →
      s.bit ACCT_CTRL_LOCK = false →
      s.acctW0Taken m data = true →
      Does (.accountDisable ini m data) s (fun t =>
        Reads t [(ACCT_W0_EN m, 0), (ACCT_W0_PROFILE m, bits data 30 29), (ACCT_W0_CH_HI m, bits data 24 17), (ACCT_W0_CH_LO m, bits data 16 9), (ACCT_W0_WEIGHT m, bits data 8 0)] ∧
        t.radio = s.radio ∧
        LanesJudged s t ∧
        ReserveJudged s t ∧
        RegsBut ([ACCT_W0_EN m, ACCT_W0_PROFILE m, ACCT_W0_CH_HI m, ACCT_W0_CH_LO m, ACCT_W0_WEIGHT m, ROOK_STATE_RESERVE_LOW, REC_CNT_QUEUE_DROP] ++ laneStateRegs) s t ∧
        t = { s with regs := t.regs, evr := t.evr })) ∧
    (∀ (s : State) (ini m data : Nat),
      s.stopSafe = true →
      m < 128 →
      MayWrite s ini (0x40309000 + 0x20 * m) →
      bitOf data 31 = true ∨ bits data 30 29 = 3 ∨ s.bit ACCT_CTRL_LOCK = true ∨ s.acctW0Taken m data = false →
      Does (.accountDisable ini m data) s (fun t =>
        t.radio = s.radio ∧
        RegsBut [] s t ∧
        OnlyRegs s t))

/-- At the instant of R391, once per interval, a lane decides; it stays silent in the other unit's stop sub-window, while
Rook is in reset or has nothing to send, and in a data part with NET_EN clear, no microcode, no channel or a slot not
of full length. A frame that fits its interval and passes every account of its channel goes on air at the power of
R393 with the charge and RESERVE_LOW brought up to date; one that does not is kept and counted. The unit's own stop
sub-window carries the stop repetition, else the oldest member stop, else the oldest HOLD or RESUME with one left on
the lane, under the network key; one not sent counts STOP_UNSENT. The unit's Bellwether slot carries its Bellwether,
and sending it schedules a waiting shift. On an active unit slots 38 and 39 of profile 0 and q = 20 carry the stored
digest, which is then forgotten, and slot 2 the response due, refused or accepted. The other places of a superframe
send what the decision of their profile gives. Nothing else changes. (Rests on: R299, R383, R384, R388, R391, R392,
R393, R404, R405, R408, R413, R525.) -/
def Obligations.FramesOnTheAir : Prop :=
    (∀ (s : State) (n slot iv k : Nat),
      s.stopSafe = true →
      k = (if slot = 0 ∧ iv = 0 then s.time.k + 1 else s.time.k) →
      8 ≤ n ∨ 2 < iv ∨ s.instantNow (s.decisionNs n slot iv) = false ∨ (s.lane n).dec = some (k, slot, iv) →
      Does (.laneFrameDecision n slot iv) s (fun t =>
        t = s)) ∧
    (∀ (s : State) (n slot iv k : Nat),
      s.stopSafe = true →
      iv ≤ 2 →
      k = (if slot = 0 ∧ iv = 0 then s.time.k + 1 else s.time.k) →
      n < 8 →
      s.instantNow (s.decisionNs n slot iv) = true →
      (s.lane n).dec ≠ some (k, slot, iv) →
      (iv < 2 ∧ (iv ≠ s.unitBit ∨ s.rookHeld = true ∨ (s.stopSelect n).2 = none)) ∨ (iv = 2 ∧ (s.bit MAC_CTRL_NET_EN = false ∨ s.boot.loaded.contains 5 = false ∨ s.onAir n k slot = none ∨ (s.onAir n k slot).all (fun e => !s.slotFull (s.prof n) e.1 slot) = true)) →
      Does (.laneFrameDecision n slot iv) s (fun t =>
        t = s.setLane n { s.lane n with dec := some (k, slot, iv) })) ∧
    (∀ (s : State) (n slot iv k : Nat) (z u : State) (body : List Nat) (sfn ch : Nat) (key : List Nat),
      s.stopSafe = true →
      iv < 2 →
      iv = s.unitBit →
      k = (if slot = 0 ∧ iv = 0 then s.time.k + 1 else s.time.k) →
      n < 8 →
      s.instantNow (s.decisionNs n slot iv) = true →
      (s.lane n).dec ≠ some (k, slot, iv) →
      z = s.setLane n { s.lane n with dec := some (k, slot, iv) } →
      s.rookHeld = false →
      z.stopSelect n = (u, some body) →
      s.onAir n k slot = some (sfn, ch) →
      s.useKey (s.get MAC_KEYS_NWK_KEY_SLOT) 1 2 = some key →
      u.mayTransmit n iv .stop ch (body ++ ccmMic key (nwkNonce sfn slot n iv true (0xE0 + s.unitBit)) body []) = true →
      Does (.laneFrameDecision n slot iv) s (fun t =>
        FrameSent u t n slot iv .stop ch (body ++ ccmMic key (nwkNonce sfn slot n iv true (0xE0 + s.unitBit)) body []) ∧
        (!leftOn n s.rook.rep || decide (body = [1, s.get ROOK_SEQ_SSEQ, 0xFF] ∧ t.rook = { s.rook with rep := countOff n s.rook.rep })) = true ∧
        (match leftOn n s.rook.rep, takeFrame n s.rook.mstops with | false, (some f, l) => decide (body = [1, s.get ROOK_SEQ_SSEQ, f.target] ∧ t.rook = { s.rook with mstops := l }) | _, _ => true) = true ∧
        (match leftOn n s.rook.rep, takeFrame n s.rook.mstops, takeFrame n s.rook.hr with | false, (none, _), (some f, l) => decide (body = [f.cmd, f.sseq.getD 0, f.target] ∧ t.rook = { s.rook with hr := l }) | _, _, _ => true) = true ∧
        RegsBut acctRegs s t ∧
        t = { z with regs := t.regs, rook := t.rook, radio := t.radio, evr := t.evr, out := t.out })) ∧
    (∀ (s : State) (n slot iv k : Nat) (z u : State) (body : List Nat) (sfn ch : Nat) (key : List Nat) (w : State),
      s.stopSafe = true →
      iv < 2 →
      iv = s.unitBit →
      k = (if slot = 0 ∧ iv = 0 then s.time.k + 1 else s.time.k) →
      n < 8 →
      s.instantNow (s.decisionNs n slot iv) = true →
      (s.lane n).dec ≠ some (k, slot, iv) →
      z = s.setLane n { s.lane n with dec := some (k, slot, iv) } →
      s.rookHeld = false →
      z.stopSelect n = (u, some body) →
      s.onAir n k slot = some (sfn, ch) →
      s.useKey (s.get MAC_KEYS_NWK_KEY_SLOT) 1 2 = some key →
      u.mayTransmit n iv .stop ch (body ++ ccmMic key (nwkNonce sfn slot n iv true (0xE0 + s.unitBit)) body []) = false →
      w = u.bump ROOK_CNT_STOP_UNSENT →
      Does (.laneFrameDecision n slot iv) s (fun t =>
        FrameKept w t n iv .stop ch (body ++ ccmMic key (nwkNonce sfn slot n iv true (0xE0 + s.unitBit)) body []) ∧
        (!leftOn n s.rook.rep || decide (body = [1, s.get ROOK_SEQ_SSEQ, 0xFF] ∧ t.rook = { s.rook with rep := countOff n s.rook.rep })) = true ∧
        (match leftOn n s.rook.rep, takeFrame n s.rook.mstops with | false, (some f, l) => decide (body = [1, s.get ROOK_SEQ_SSEQ, f.target] ∧ t.rook = { s.rook with mstops := l }) | _, _ => true) = true ∧
        (match leftOn n s.rook.rep, takeFrame n s.rook.mstops, takeFrame n s.rook.hr with | false, (none, _), (some f, l) => decide (body = [f.cmd, f.sseq.getD 0, f.target] ∧ t.rook = { s.rook with hr := l }) | _, _, _ => true) = true ∧
        RegsBut ([ROOK_CNT_STOP_UNSENT, LANE_CNT_OVERSIZE n] ++ acctRegs) s t ∧
        t = { z with regs := t.regs, rook := t.rook, mac := t.mac, evr := t.evr })) ∧
    (∀ (s : State) (n slot iv k : Nat) (z u : State) (body : List Nat),
      s.stopSafe = true →
      iv < 2 →
      iv = s.unitBit →
      k = (if slot = 0 ∧ iv = 0 then s.time.k + 1 else s.time.k) →
      n < 8 →
      s.instantNow (s.decisionNs n slot iv) = true →
      (s.lane n).dec ≠ some (k, slot, iv) →
      z = s.setLane n { s.lane n with dec := some (k, slot, iv) } →
      s.rookHeld = false →
      z.stopSelect n = (u, some body) →
      s.onAir n k slot = none ∨ s.useKey (s.get MAC_KEYS_NWK_KEY_SLOT) 1 2 = none →
      Does (.laneFrameDecision n slot iv) s (fun t =>
        Reads t [(ROOK_CNT_STOP_UNSENT, s.adv ROOK_CNT_STOP_UNSENT), (KS_CNT_ORPHAN_ABORTS, if (s.onAir n k slot).isSome then (s.keyAbort (s.get MAC_KEYS_NWK_KEY_SLOT) 1 2).get KS_CNT_ORPHAN_ABORTS else s.get KS_CNT_ORPHAN_ABORTS)] ∧
        (!leftOn n s.rook.rep || decide (body = [1, s.get ROOK_SEQ_SSEQ, 0xFF] ∧ t.rook = { s.rook with rep := countOff n s.rook.rep })) = true ∧
        (match leftOn n s.rook.rep, takeFrame n s.rook.mstops with | false, (some f, l) => decide (body = [1, s.get ROOK_SEQ_SSEQ, f.target] ∧ t.rook = { s.rook with mstops := l }) | _, _ => true) = true ∧
        (match leftOn n s.rook.rep, takeFrame n s.rook.mstops, takeFrame n s.rook.hr with | false, (none, _), (some f, l) => decide (body = [f.cmd, f.sseq.getD 0, f.target] ∧ t.rook = { s.rook with hr := l }) | _, _, _ => true) = true ∧
        RegsBut [ROOK_CNT_STOP_UNSENT, KS_CNT_ORPHAN_ABORTS] s t ∧
        t = { z with regs := t.regs, rook := t.rook })) ∧
    (∀ (s : State) (n slot sfn ch : Nat) (z : State) (key mpdu : List Nat) (x : State),
      s.stopSafe = true →
      s.instantNow (s.decisionNs n slot 2) = true →
      n < 8 →
      (s.lane n).dec ≠ some (s.time.k, slot, 2) →
      z = s.setLane n { s.lane n with dec := some (s.time.k, slot, 2) } →
      s.bit MAC_CTRL_NET_EN = true →
      s.boot.loaded.contains 5 = true →
      s.onAir n s.time.k slot = some (sfn, ch) →
      s.slotFull (s.prof n) sfn slot = true →
      (s.prof n = 0 ∧ slot = s.unitBit) ∨ (s.prof n ≠ 0 ∧ s.get (LANE_CFG_RATE n) ≠ 0 ∧ 10 * (s.time.k % 10) + slot = s.unitBit) →
      sfn ≠ 0xFFFFFFFF →
      s.useKey (s.get MAC_KEYS_NWK_KEY_SLOT) 1 2 = some key →
      x = z.shiftSchedule sfn →
      mpdu = sealMpdu key (nwkNonce sfn slot n 2 true (0xE0 + s.unitBit)) 0 (0xE0 + s.unitBit) ((x.bellFixed s.time.k sfn ++ (x.bellItems (s.prof n)).1)) (x.bellItems (s.prof n)).2 →
      z.mayTransmit n 2 .beacon ch mpdu = true →
      Does (.laneFrameDecision n slot 2) s (fun t =>
        FrameSent x t n slot 2 .beacon ch mpdu ∧
        (!s.time.shiftWait || decide (t.get SHIFT_SFN_S = (sfn + 8) % 2 ^ 32 ∧ t.time = { s.time with shiftWait := false, shiftPhi := s.getS GRID_PHASE_PHI })) = true ∧
        RegsBut (SHIFT_SFN_S :: acctRegs) s t ∧
        t = { z with regs := t.regs, time := t.time, radio := t.radio, evr := t.evr, out := t.out })) ∧
    (∀ (s : State) (n slot sfn ch : Nat) (z : State) (key mpdu : List Nat) (x : State),
      s.stopSafe = true →
      s.instantNow (s.decisionNs n slot 2) = true →
      n < 8 →
      (s.lane n).dec ≠ some (s.time.k, slot, 2) →
      z = s.setLane n { s.lane n with dec := some (s.time.k, slot, 2) } →
      s.bit MAC_CTRL_NET_EN = true →
      s.boot.loaded.contains 5 = true →
      s.onAir n s.time.k slot = some (sfn, ch) →
      s.slotFull (s.prof n) sfn slot = true →
      (s.prof n = 0 ∧ slot = s.unitBit) ∨ (s.prof n ≠ 0 ∧ s.get (LANE_CFG_RATE n) ≠ 0 ∧ 10 * (s.time.k % 10) + slot = s.unitBit) →
      sfn ≠ 0xFFFFFFFF →
      s.useKey (s.get MAC_KEYS_NWK_KEY_SLOT) 1 2 = some key →
      x = z.shiftSchedule sfn →
      mpdu = sealMpdu key (nwkNonce sfn slot n 2 true (0xE0 + s.unitBit)) 0 (0xE0 + s.unitBit) ((x.bellFixed s.time.k sfn ++ (x.bellItems (s.prof n)).1)) (x.bellItems (s.prof n)).2 →
      z.mayTransmit n 2 .beacon ch mpdu = false →
      Does (.laneFrameDecision n slot 2) s (fun t =>
        FrameKept z t n 2 .beacon ch mpdu ∧
        RegsBut (LANE_CNT_OVERSIZE n :: acctRegs) s t ∧
        t = { z with regs := t.regs, mac := t.mac, evr := t.evr })) ∧
    (∀ (s : State) (n slot sfn ch : Nat) (z : State) (cut : Nat) (items key mpdu : List Nat) (x : State),
      s.stopSafe = true →
      s.instantNow (s.decisionNs n slot 2) = true →
      n < 8 →
      (s.lane n).dec ≠ some (s.time.k, slot, 2) →
      z = s.setLane n { s.lane n with dec := some (s.time.k, slot, 2) } →
      s.bit MAC_CTRL_NET_EN = true →
      s.boot.loaded.contains 5 = true →
      s.onAir n s.time.k slot = some (sfn, ch) →
      s.slotFull (s.prof n) sfn slot = true →
      s.bit PAIR_STATUS_ACTIVE = true →
      (s.prof n = 0 ∧ ((cut = 1 ∧ slot = 38) ∨ (cut = 2 ∧ slot = 39))) ∨ (s.prof n ≠ 0 ∧ s.get (LANE_CFG_RATE n) ≠ 0 ∧ cut = 1 ∧ 10 * (s.time.k % 10) + slot = 20) →
      s.storedDigest n cut = some items →
      s.useKey (s.get MAC_KEYS_NWK_KEY_SLOT) 1 2 = some key →
      x = { z with mac := { s.mac with digests := s.mac.digests.filter (fun (d : Nat × Nat × List Nat) => !(d.1 == n && d.2.1 == cut)) } } →
      mpdu = sealMpdu key (nwkNonce sfn slot n 2 true (0xE0 + s.unitBit)) 1 (0xE0 + s.unitBit) (leBytes 4 (s.get CLAIM) ++ [cut] ++ items) 0 →
      z.mayTransmit n 2 .data ch mpdu = true →
      Does (.laneFrameDecision n slot 2) s (fun t =>
        FrameSent x t n slot 2 .data ch mpdu ∧
        RegsBut acctRegs s t ∧
        t = { x with regs := t.regs, radio := t.radio, evr := t.evr, out := t.out })) ∧
    (∀ (s : State) (n slot sfn ch : Nat) (z : State) (r : AssocResp) (h : HopSet) (enc : Nat) (kj keys body mpdu : List Nat) (x : State),
      s.stopSafe = true →
      s.instantNow (s.decisionNs n slot 2) = true →
      n < 8 →
      (s.lane n).dec ≠ some (s.time.k, slot, 2) →
      z = s.setLane n { s.lane n with dec := some (s.time.k, slot, 2) } →
      s.bit MAC_CTRL_NET_EN = true →
      s.boot.loaded.contains 5 = true →
      s.onAir n s.time.k slot = some (sfn, ch) →
      s.slotFull (s.prof n) sfn slot = true →
      s.bit PAIR_STATUS_ACTIVE = true →
      s.prof n = 0 →
      slot = 2 →
      s.unitBit < 2 →
      s.time.k % 2 = 1 →
      s.respDue n s.time.k = some r →
      s.radio.hop = some h →
      (s.covering 0 ch).isEmpty = false →
      r.result ≠ 0 ∨ s.respKeys h = some keys →
      s.useKey (s.get MAC_KEYS_JOIN_KEY_SLOT) 1 2 = some kj →
      body = (if r.result ≠ 0 then s.respPart0 h r else s.respPart0 h r ++ r.eui ++ [1] ++ keys) →
      enc = (if r.result ≠ 0 then 0 else 48) →
      x = { z with mac := { s.mac with resp := s.mac.resp.erase r } } →
      mpdu = sealMpdu kj (joinNonce s.time.k n true 0 r.eui) 4 (0xE0 + s.unitBit) body enc →
      z.mayTransmit n 2 .data ch mpdu = true →
      Does (.laneFrameDecision n slot 2) s (fun t =>
        FrameSent x t n slot 2 .data ch mpdu ∧
        RegsBut acctRegs s t ∧
        t = { x with regs := t.regs, radio := t.radio, evr := t.evr, out := t.out })) ∧
    (∀ (s : State) (n slot sfn ch : Nat) (z : State),
      s.stopSafe = true →
      s.instantNow (s.decisionNs n slot 2) = true →
      n < 8 →
      (s.lane n).dec ≠ some (s.time.k, slot, 2) →
      z = s.setLane n { s.lane n with dec := some (s.time.k, slot, 2) } →
      s.bit MAC_CTRL_NET_EN = true →
      s.boot.loaded.contains 5 = true →
      s.onAir n s.time.k slot = some (sfn, ch) →
      s.slotFull (s.prof n) sfn slot = true →
      Does (.laneFrameDecision n slot 2) s (fun t =>
        t = (if s.prof n = 0 then z.decideData0 n slot s.time.k sfn ch else z.decideDataS n slot s.time.k sfn ch)))

/-- A frame in the capture range of a READY lane with at most the allowed sync errors counts RX_CRC_FAIL where its PHR or
CRC is wrong, and else RX_OK and trims the lane; a frame of the partner's Bellwether slot tells of its claim and, from
an active partner, that it is heard; another frame of a data part waits for the MAC, and one of a stop sub-window goes
no further. Of the waiting frames the MAC takes the first: in an association slot it is not an uplink; a frame that is
no uplink, or is not well formed, counts A_MALFORMED, one of another source than the owner C_STRAY, one with a wrong
MIC A_MIC_FAIL, and a good digest of the partner nothing. A good uplink counts for its lane and its slot is no longer
empty; on the active unit it marks the member ACTIVE and heard with its RSSI and state, and its COR enters the fix
queue; a standby unit uses only its stop requests. Nothing else changes. (Rests on: R32, R384, R397, R398, R400, R411,
R415, R416, R417, R422, R435, R564.) -/
def Obligations.FramesReceived : Prop :=
    (∀ (s : State) (n syncErr : Nat) (psdu : List Nat) (rssi cfo iqG iqP : Int),
      s.stopSafe = true →
      8 ≤ n ∨ s.laneReady n = false ∨ s.boot.loaded.contains 5 = false ∨ s.time.grid = false ∨ (if s.prof n = 0 then 2 else 1) < syncErr ∨ s.inCapture n (s.slotNow n) (cfo * (if s.prof n = 0 then 100 else 10)) = false →
      Does (.airFrameReceive n syncErr psdu rssi cfo iqG iqP) s (fun t =>
        t = s)) ∧
    (∀ (s : State) (n syncErr slot : Nat) (psdu : List Nat) (rssi cfo iqG iqP hz : Int),
      s.stopSafe = true →
      n < 8 →
      s.laneReady n = true →
      s.boot.loaded.contains 5 = true →
      s.time.grid = true →
      syncErr ≤ (if s.prof n = 0 then 2 else 1) →
      hz = cfo * (if s.prof n = 0 then 100 else 10) →
      slot = s.slotNow n →
      s.inCapture n slot hz = true →
      psduParse (s.prof n) psdu = none →
      Does (.airFrameReceive n syncErr psdu rssi cfo iqG iqP) s (fun t =>
        Reads t [(LANE_RX_RX_CRC_FAIL n, s.adv (LANE_RX_RX_CRC_FAIL n))] ∧
        RegsBut [LANE_RX_RX_CRC_FAIL n] s t ∧
        OnlyRegs s t)) ∧
    (∀ (s : State) (n syncErr slot : Nat) (psdu mpdu : List Nat) (rssi cfo iqG iqP hz : Int),
      s.stopSafe = true →
      n < 8 →
      s.laneReady n = true →
      s.boot.loaded.contains 5 = true →
      s.time.grid = true →
      syncErr ≤ (if s.prof n = 0 then 2 else 1) →
      hz = cfo * (if s.prof n = 0 then 100 else 10) →
      slot = s.slotNow n →
      s.inCapture n slot hz = true →
      psduParse (s.prof n) psdu = some mpdu →
      s.ivNow n = 2 →
      s.partnerSlot n s.time.k slot = false →
      Does (.airFrameReceive n syncErr psdu rssi cfo iqG iqP) s (fun t =>
        t = { (State.retrim (s.bump (LANE_RX_RX_OK n)) n mpdu hz iqG iqP) with mac := { s.mac with rx := s.mac.rx ++ [{ lane := n, k := s.time.k, slot := slot, rssi := rssi, mpdu := mpdu }] } } ∧
        Reads t [(LANE_RX_RX_OK n, s.adv (LANE_RX_RX_OK n))] ∧
        (let a := trimStep (s.lane n).iqG iqG (1 / 16) 75; let b := trimStep (s.lane n).iqP iqP (1 / 16) 100; (t.lane n).iqG = a.1 ∧ (t.lane n).iqP = b.1 ∧ Reads t [(LANE_TRIM_IQ_GAIN n, usgn 8 (quantQ a.1)), (LANE_TRIM_IQ_PHASE n, usgn 8 (quantQ b.1)), (LANE_STATUS_IQ_LIMIT n, if a.2 || b.2 then 1 else s.get (LANE_STATUS_IQ_LIMIT n))]) ∧
        RegsBut [LANE_RX_RX_OK n, LANE_TRIM_IQ_GAIN n, LANE_TRIM_IQ_PHASE n, LANE_STATUS_IQ_LIMIT n, LANE_TRIM_LO_OFS n, LANE_STATUS_LO_LIMIT n, MEMBER_CFO_CFO (leAt mpdu 1 1)] s t ∧
        t = { s with regs := t.regs, radio := { s.radio with lanes := t.radio.lanes, mcfo := t.radio.mcfo }, mac := t.mac })) ∧
    (∀ (s : State) (n syncErr slot : Nat) (psdu mpdu : List Nat) (rssi cfo iqG iqP hz : Int),
      s.stopSafe = true →
      n < 8 →
      s.laneReady n = true →
      s.boot.loaded.contains 5 = true →
      s.time.grid = true →
      syncErr ≤ (if s.prof n = 0 then 2 else 1) →
      hz = cfo * (if s.prof n = 0 then 100 else 10) →
      slot = s.slotNow n →
      s.inCapture n slot hz = true →
      psduParse (s.prof n) psdu = some mpdu →
      s.ivNow n ≠ 2 →
      Does (.airFrameReceive n syncErr psdu rssi cfo iqG iqP) s (fun t =>
        t = (State.retrim (s.bump (LANE_RX_RX_OK n)) n mpdu hz iqG iqP) ∧
        Reads t [(LANE_RX_RX_OK n, s.adv (LANE_RX_RX_OK n))] ∧
        (let a := trimStep (s.lane n).iqG iqG (1 / 16) 75; let b := trimStep (s.lane n).iqP iqP (1 / 16) 100; (t.lane n).iqG = a.1 ∧ (t.lane n).iqP = b.1 ∧ Reads t [(LANE_TRIM_IQ_GAIN n, usgn 8 (quantQ a.1)), (LANE_TRIM_IQ_PHASE n, usgn 8 (quantQ b.1)), (LANE_STATUS_IQ_LIMIT n, if a.2 || b.2 then 1 else s.get (LANE_STATUS_IQ_LIMIT n))]) ∧
        RegsBut [LANE_RX_RX_OK n, LANE_TRIM_IQ_GAIN n, LANE_TRIM_IQ_PHASE n, LANE_STATUS_IQ_LIMIT n, LANE_TRIM_LO_OFS n, LANE_STATUS_LO_LIMIT n, MEMBER_CFO_CFO (leAt mpdu 1 1)] s t ∧
        t = { s with regs := t.regs, radio := { s.radio with lanes := t.radio.lanes, mcfo := t.radio.mcfo } })) ∧
    (∀ (s : State) (n syncErr slot : Nat) (psdu mpdu : List Nat) (rssi cfo iqG iqP hz : Int) (sfn p h : Nat) (key b : List Nat) (items : List (Nat × List Nat)) (act : Bool),
      s.stopSafe = true →
      n < 8 →
      s.laneReady n = true →
      s.boot.loaded.contains 5 = true →
      s.time.grid = true →
      syncErr ≤ (if s.prof n = 0 then 2 else 1) →
      hz = cfo * (if s.prof n = 0 then 100 else 10) →
      slot = s.slotNow n →
      s.inCapture n slot hz = true →
      psduParse (s.prof n) psdu = some mpdu →
      s.ivNow n = 2 →
      s.partnerSlot n s.time.k slot = true →
      s.sfnAt s.time.k = some sfn →
      leAt mpdu 0 1 % 16 = 0 →
      p = 0xE0 + (1 - s.unitBit) →
      leAt mpdu 1 1 = p →
      h = (if bitOf (leAt mpdu 0 1) 4 then 6 else 5) →
      s.useKey (s.get MAC_KEYS_NWK_KEY_SLOT) 1 2 = some key →
      openMpdu key (nwkNonce sfn slot n 2 true p) mpdu = some b →
      parseItems b.length (b.drop (h + 55)) = some items →
      bellOk (s.prof n) (b.drop h) items = true →
      act = bitOf (leAt b (h + 14) 2) 1 →
      Does (.airFrameReceive n syncErr psdu rssi cfo iqG iqP) s (fun t =>
        t.pair = { s.pair with bellHeard := if act then n :: s.pair.bellHeard else s.pair.bellHeard, heard := if act then s.pair.heard || s.pair.listen || s.pair.wait else s.pair.heard, yield := s.pair.yield || (s.bit PAIR_STATUS_ACTIVE && act && decide (s.get CLAIM < leAt b h 4)) } ∧
        Reads t [(LANE_RX_RX_OK n, s.adv (LANE_RX_RX_OK n))] ∧
        (let a := trimStep (s.lane n).iqG iqG (1 / 16) 75; let b := trimStep (s.lane n).iqP iqP (1 / 16) 100; (t.lane n).iqG = a.1 ∧ (t.lane n).iqP = b.1 ∧ Reads t [(LANE_TRIM_IQ_GAIN n, usgn 8 (quantQ a.1)), (LANE_TRIM_IQ_PHASE n, usgn 8 (quantQ b.1)), (LANE_STATUS_IQ_LIMIT n, if a.2 || b.2 then 1 else s.get (LANE_STATUS_IQ_LIMIT n))]) ∧
        RegsBut [LANE_RX_RX_OK n, LANE_TRIM_IQ_GAIN n, LANE_TRIM_IQ_PHASE n, LANE_STATUS_IQ_LIMIT n, LANE_TRIM_LO_OFS n, LANE_STATUS_LO_LIMIT n, MEMBER_CFO_CFO (leAt mpdu 1 1)] s t ∧
        t = { (State.retrim (s.bump (LANE_RX_RX_OK n)) n mpdu hz iqG iqP) with pair := t.pair })) ∧
    (∀ (s : State) (n syncErr slot : Nat) (psdu mpdu : List Nat) (rssi cfo iqG iqP hz : Int),
      s.stopSafe = true →
      n < 8 →
      s.laneReady n = true →
      s.boot.loaded.contains 5 = true →
      s.time.grid = true →
      syncErr ≤ (if s.prof n = 0 then 2 else 1) →
      hz = cfo * (if s.prof n = 0 then 100 else 10) →
      slot = s.slotNow n →
      s.inCapture n slot hz = true →
      psduParse (s.prof n) psdu = some mpdu →
      s.ivNow n = 2 →
      s.partnerSlot n s.time.k slot = true →
      Does (.airFrameReceive n syncErr psdu rssi cfo iqG iqP) s (fun t =>
        t = (match s.sfnAt s.time.k with | some sfn => (State.retrim (s.bump (LANE_RX_RX_OK n)) n mpdu hz iqG iqP).takeBell n slot sfn mpdu | none => (State.retrim (s.bump (LANE_RX_RX_OK n)) n mpdu hz iqG iqP)))) ∧
    (∀ (s : State) (f : RxFrame) (rest : List RxFrame),
      s.stopSafe = true →
      (s.mac.rx = []) ∨ (s.mac.rx = f :: rest ∧ assocSlot (s.prof f.lane) f.k f.slot = true) →
      Does (.uplinkReceive) s (fun t =>
        t = s)) ∧
    (∀ (s : State) (f : RxFrame) (rest : List RxFrame) (q : Nat),
      s.stopSafe = true →
      s.mac.rx = f :: rest →
      assocSlot (s.prof f.lane) f.k f.slot = false →
      q = (if s.prof f.lane = 0 then f.slot else 10 * (f.k % 10) + f.slot) →
      ¬((slotCut (s.prof f.lane) q).isSome = true ∧ leAt f.mpdu 0 1 % 16 = 1 ∧ leAt f.mpdu 1 1 = 0xE0 + (1 - s.unitBit)) →
      slotKind (s.prof f.lane) q ≠ 1 ∨ leAt f.mpdu 0 1 % 16 ≠ 2 →
      Does (.uplinkReceive) s (fun t =>
        Reads t [(MAC_CNT_A_MALFORMED, s.adv MAC_CNT_A_MALFORMED)] ∧
        t.mac = { s.mac with rx := rest } ∧
        RegsBut [MAC_CNT_A_MALFORMED] s t ∧
        t = { s with regs := t.regs, mac := t.mac })) ∧
    (∀ (s : State) (f : RxFrame) (rest : List RxFrame) (q : Nat) (z : State),
      s.stopSafe = true →
      s.mac.rx = f :: rest →
      assocSlot (s.prof f.lane) f.k f.slot = false →
      q = (if s.prof f.lane = 0 then f.slot else 10 * (f.k % 10) + f.slot) →
      ¬((slotCut (s.prof f.lane) q).isSome = true ∧ leAt f.mpdu 0 1 % 16 = 1 ∧ leAt f.mpdu 1 1 = 0xE0 + (1 - s.unitBit)) →
      slotKind (s.prof f.lane) q = 1 →
      leAt f.mpdu 0 1 % 16 = 2 →
      z = { s with mac := { s.mac with rx := rest } } →
      leAt f.mpdu 1 1 = 0 ∨ s.owner (s.get SLOT_CTRL_BANK) f.lane q ≠ leAt f.mpdu 1 1 →
      Does (.uplinkReceive) s (fun t =>
        Reads t [(MAC_CNT_C_STRAY, s.adv MAC_CNT_C_STRAY)] ∧
        t.mac = (z.laneCount f.lane (fun c => { c with stray := min (c.stray + 1) 255 })).mac ∧
        RegsBut [MAC_CNT_C_STRAY] s t ∧
        t = { s with regs := t.regs, mac := t.mac })) ∧
    (∀ (s : State) (f : RxFrame) (rest : List RxFrame) (key : List Nat) (sfn q : Nat) (z : State),
      s.stopSafe = true →
      s.mac.rx = f :: rest →
      assocSlot (s.prof f.lane) f.k f.slot = false →
      q = (if s.prof f.lane = 0 then f.slot else 10 * (f.k % 10) + f.slot) →
      ¬((slotCut (s.prof f.lane) q).isSome = true ∧ leAt f.mpdu 0 1 % 16 = 1 ∧ leAt f.mpdu 1 1 = 0xE0 + (1 - s.unitBit)) →
      slotKind (s.prof f.lane) q = 1 →
      leAt f.mpdu 0 1 % 16 = 2 →
      leAt f.mpdu 1 1 ≠ 0 →
      s.owner (s.get SLOT_CTRL_BANK) f.lane q = leAt f.mpdu 1 1 →
      z = { s with mac := { s.mac with rx := rest } } →
      s.useKey (s.get MAC_KEYS_NWK_KEY_SLOT) 1 2 = some key →
      s.sfnAt f.k = some sfn →
      openMpdu key (nwkNonce sfn f.slot f.lane 2 false (leAt f.mpdu 1 1)) f.mpdu = none →
      Does (.uplinkReceive) s (fun t =>
        Reads t [(MAC_CNT_A_MIC_FAIL, s.adv MAC_CNT_A_MIC_FAIL)] ∧
        t.mac = (z.laneCount f.lane (fun c => { c with micFail := min (c.micFail + 1) 255 })).mac ∧
        RegsBut [MAC_CNT_A_MIC_FAIL] s t ∧
        t = { s with regs := t.regs, mac := t.mac })) ∧
    (∀ (s : State) (f : RxFrame) (rest : List RxFrame) (q : Nat) (z : State),
      s.stopSafe = true →
      s.mac.rx = f :: rest →
      assocSlot (s.prof f.lane) f.k f.slot = false →
      q = (if s.prof f.lane = 0 then f.slot else 10 * (f.k % 10) + f.slot) →
      ¬((slotCut (s.prof f.lane) q).isSome = true ∧ leAt f.mpdu 0 1 % 16 = 1 ∧ leAt f.mpdu 1 1 = 0xE0 + (1 - s.unitBit)) →
      slotKind (s.prof f.lane) q = 1 →
      leAt f.mpdu 0 1 % 16 = 2 →
      leAt f.mpdu 1 1 ≠ 0 →
      s.owner (s.get SLOT_CTRL_BANK) f.lane q = leAt f.mpdu 1 1 →
      z = { s with mac := { s.mac with rx := rest } } →
      s.useKey (s.get MAC_KEYS_NWK_KEY_SLOT) 1 2 = none ∨ s.sfnAt f.k = none →
      Does (.uplinkReceive) s (fun t =>
        Reads t [(MAC_CNT_A_MIC_FAIL, s.adv MAC_CNT_A_MIC_FAIL), (KS_CNT_ORPHAN_ABORTS, (s.keyAbort (s.get MAC_KEYS_NWK_KEY_SLOT) 1 2).get KS_CNT_ORPHAN_ABORTS)] ∧
        t.mac = (z.laneCount f.lane (fun c => { c with micFail := min (c.micFail + 1) 255 })).mac ∧
        RegsBut [MAC_CNT_A_MIC_FAIL, KS_CNT_ORPHAN_ABORTS] s t ∧
        t = { s with regs := t.regs, mac := t.mac })) ∧
    (∀ (s : State) (f : RxFrame) (rest : List RxFrame) (key b : List Nat) (sfn q : Nat),
      s.stopSafe = true →
      s.mac.rx = f :: rest →
      assocSlot (s.prof f.lane) f.k f.slot = false →
      q = (if s.prof f.lane = 0 then f.slot else 10 * (f.k % 10) + f.slot) →
      ¬((slotCut (s.prof f.lane) q).isSome = true ∧ leAt f.mpdu 0 1 % 16 = 1 ∧ leAt f.mpdu 1 1 = 0xE0 + (1 - s.unitBit)) →
      slotKind (s.prof f.lane) q = 1 →
      leAt f.mpdu 0 1 % 16 = 2 →
      leAt f.mpdu 1 1 ≠ 0 →
      s.owner (s.get SLOT_CTRL_BANK) f.lane q = leAt f.mpdu 1 1 →
      s.useKey (s.get MAC_KEYS_NWK_KEY_SLOT) 1 2 = some key →
      s.sfnAt f.k = some sfn →
      openMpdu key (nwkNonce sfn f.slot f.lane 2 false (leAt f.mpdu 1 1)) f.mpdu = some b →
      parseUplink (s.prof f.lane) b = none →
      Does (.uplinkReceive) s (fun t =>
        Reads t [(MAC_CNT_A_MALFORMED, s.adv MAC_CNT_A_MALFORMED)] ∧
        t.mac = { s.mac with rx := rest } ∧
        RegsBut [MAC_CNT_A_MALFORMED] s t ∧
        t = { s with regs := t.regs, mac := t.mac })) ∧
    (∀ (s : State) (f : RxFrame) (rest : List RxFrame) (q : Nat) (z : State),
      s.stopSafe = true →
      s.mac.rx = f :: rest →
      assocSlot (s.prof f.lane) f.k f.slot = false →
      q = (if s.prof f.lane = 0 then f.slot else 10 * (f.k % 10) + f.slot) →
      (slotCut (s.prof f.lane) q).isSome = true →
      leAt f.mpdu 0 1 % 16 = 1 →
      leAt f.mpdu 1 1 = 0xE0 + (1 - s.unitBit) →
      z = { s with mac := { s.mac with rx := rest } } →
      Does (.uplinkReceive) s (fun t =>
        t = z.takeDigest f ((slotCut (s.prof f.lane) q).getD 0) ∧
        t.mac.rx = rest ∧
        RegsBut [MAC_CNT_A_MIC_FAIL, MAC_CNT_A_MALFORMED, KS_CNT_ORPHAN_ABORTS] s t ∧
        t = { s with regs := t.regs, mac := t.mac })) ∧
    (∀ (s : State) (f : RxFrame) (rest : List RxFrame) (u : Uplink) (key b : List Nat) (sfn q : Nat) (z : State),
      s.stopSafe = true →
      s.mac.rx = f :: rest →
      assocSlot (s.prof f.lane) f.k f.slot = false →
      q = (if s.prof f.lane = 0 then f.slot else 10 * (f.k % 10) + f.slot) →
      ¬((slotCut (s.prof f.lane) q).isSome = true ∧ leAt f.mpdu 0 1 % 16 = 1 ∧ leAt f.mpdu 1 1 = 0xE0 + (1 - s.unitBit)) →
      slotKind (s.prof f.lane) q = 1 →
      leAt f.mpdu 0 1 % 16 = 2 →
      leAt f.mpdu 1 1 ≠ 0 →
      s.owner (s.get SLOT_CTRL_BANK) f.lane q = leAt f.mpdu 1 1 →
      s.useKey (s.get MAC_KEYS_NWK_KEY_SLOT) 1 2 = some key →
      s.sfnAt f.k = some sfn →
      openMpdu key (nwkNonce sfn f.slot f.lane 2 false (leAt f.mpdu 1 1)) f.mpdu = some b →
      parseUplink (s.prof f.lane) b = some u →
      z = State.laneCount { s with mac := { s.mac with rx := rest, upFrom := s.mac.upFrom ++ [u.addr] } } f.lane (fun c => { c with upOk := min (c.upOk + 1) 255, rssiMin := if f.rssi < c.rssiMin then f.rssi else c.rssiMin }) →
      s.bit PAIR_STATUS_ACTIVE = false →
      u.items.all (fun i => !(i.1 == 0x24 && leAt i.2 0 1 == 2)) = true →
      Does (.uplinkReceive) s (fun t =>
        t = z ∧
        RegsBut [] s t ∧
        t = { s with regs := t.regs, mac := t.mac })) ∧
    (∀ (s : State) (f : RxFrame) (rest : List RxFrame) (u : Uplink) (key b : List Nat) (sfn q : Nat) (z : State),
      s.stopSafe = true →
      s.mac.rx = f :: rest →
      assocSlot (s.prof f.lane) f.k f.slot = false →
      q = (if s.prof f.lane = 0 then f.slot else 10 * (f.k % 10) + f.slot) →
      ¬((slotCut (s.prof f.lane) q).isSome = true ∧ leAt f.mpdu 0 1 % 16 = 1 ∧ leAt f.mpdu 1 1 = 0xE0 + (1 - s.unitBit)) →
      slotKind (s.prof f.lane) q = 1 →
      leAt f.mpdu 0 1 % 16 = 2 →
      leAt f.mpdu 1 1 ≠ 0 →
      s.owner (s.get SLOT_CTRL_BANK) f.lane q = leAt f.mpdu 1 1 →
      s.useKey (s.get MAC_KEYS_NWK_KEY_SLOT) 1 2 = some key →
      s.sfnAt f.k = some sfn →
      openMpdu key (nwkNonce sfn f.slot f.lane 2 false (leAt f.mpdu 1 1)) f.mpdu = some b →
      parseUplink (s.prof f.lane) b = some u →
      z = State.laneCount { s with mac := { s.mac with rx := rest, upFrom := s.mac.upFrom ++ [u.addr] } } f.lane (fun c => { c with upOk := min (c.upOk + 1) 255, rssiMin := if f.rssi < c.rssiMin then f.rssi else c.rssiMin }) →
      Does (.uplinkReceive) s (fun t =>
        t = (if s.bit PAIR_STATUS_ACTIVE then (z.stopReqs u).takeUplink f u else z.stopReqs u))) ∧
    (∀ (s : State) (f : RxFrame) (rest : List RxFrame) (u : Uplink) (key b : List Nat) (sfn q : Nat) (z : State),
      s.stopSafe = true →
      s.mac.rx = f :: rest →
      assocSlot (s.prof f.lane) f.k f.slot = false →
      q = (if s.prof f.lane = 0 then f.slot else 10 * (f.k % 10) + f.slot) →
      ¬((slotCut (s.prof f.lane) q).isSome = true ∧ leAt f.mpdu 0 1 % 16 = 1 ∧ leAt f.mpdu 1 1 = 0xE0 + (1 - s.unitBit)) →
      slotKind (s.prof f.lane) q = 1 →
      leAt f.mpdu 0 1 % 16 = 2 →
      leAt f.mpdu 1 1 ≠ 0 →
      s.owner (s.get SLOT_CTRL_BANK) f.lane q = leAt f.mpdu 1 1 →
      s.useKey (s.get MAC_KEYS_NWK_KEY_SLOT) 1 2 = some key →
      s.sfnAt f.k = some sfn →
      openMpdu key (nwkNonce sfn f.slot f.lane 2 false (leAt f.mpdu 1 1)) f.mpdu = some b →
      parseUplink (s.prof f.lane) b = some u →
      z = State.laneCount { s with mac := { s.mac with rx := rest, upFrom := s.mac.upFrom ++ [u.addr] } } f.lane (fun c => { c with upOk := min (c.upOk + 1) 255, rssiMin := if f.rssi < c.rssiMin then f.rssi else c.rssiMin }) →
      isAddr u.addr = true →
      u.items = [] →
      u.seq = 0 →
      u.mstate % 4 = 0 →
      s.bit PAIR_STATUS_ACTIVE = true →
      s.memState u.addr = 2 →
      u.dst ≠ 0xE0 + s.unitBit ∨ (s.mem u.addr).cmds = [] →
      Does (.uplinkReceive) s (fun t =>
        Reads t [(MEMBER_W2_RSSI u.addr, usgn 8 f.rssi)] ∧
        t.mem u.addr = { s.mem u.addr with mstate := u.mstate, lastSfn := sfn, heard := s.ply } ∧
        RegsBut [MEMBER_W2_RSSI u.addr] s t ∧
        t = { z.setMem u.addr (t.mem u.addr) with regs := t.regs })) ∧
    (∀ (s : State) (f : RxFrame) (rest : List RxFrame) (u : Uplink) (key b : List Nat) (sfn q : Nat) (z : State) (cor : List Nat) (co : Cor),
      s.stopSafe = true →
      s.mac.rx = f :: rest →
      assocSlot (s.prof f.lane) f.k f.slot = false →
      q = (if s.prof f.lane = 0 then f.slot else 10 * (f.k % 10) + f.slot) →
      ¬((slotCut (s.prof f.lane) q).isSome = true ∧ leAt f.mpdu 0 1 % 16 = 1 ∧ leAt f.mpdu 1 1 = 0xE0 + (1 - s.unitBit)) →
      slotKind (s.prof f.lane) q = 1 →
      leAt f.mpdu 0 1 % 16 = 2 →
      leAt f.mpdu 1 1 ≠ 0 →
      s.owner (s.get SLOT_CTRL_BANK) f.lane q = leAt f.mpdu 1 1 →
      s.useKey (s.get MAC_KEYS_NWK_KEY_SLOT) 1 2 = some key →
      s.sfnAt f.k = some sfn →
      openMpdu key (nwkNonce sfn f.slot f.lane 2 false (leAt f.mpdu 1 1)) f.mpdu = some b →
      parseUplink (s.prof f.lane) b = some u →
      z = State.laneCount { s with mac := { s.mac with rx := rest, upFrom := s.mac.upFrom ++ [u.addr] } } f.lane (fun c => { c with upOk := min (c.upOk + 1) 255, rssiMin := if f.rssi < c.rssiMin then f.rssi else c.rssiMin }) →
      isAddr u.addr = true →
      u.items = [(0x20, cor)] →
      u.seq = 0 →
      u.mstate % 4 = 0 →
      s.bit PAIR_STATUS_ACTIVE = true →
      s.memState u.addr = 2 →
      s.pair.idle = false →
      parseCor cor = some co →
      co.week = (s.startOf f.k).1 →
      co.ms = (s.startOf f.k).2 →
      co.clkValid = true →
      s.fix.missing ≠ some (co.week, co.ms) →
      u.dst ≠ 0xE0 + s.unitBit ∨ (s.mem u.addr).cmds = [] →
      Does (.uplinkReceive) s (fun t =>
        t.fix = { s.fix with queue := s.fix.queue ++ [(⟨u.addr, s.ply, s.slotLate f.lane f.k f.slot, co⟩ : CorJob)] } ∧
        t.mac.corOk = s.mac.corOk ++ [u.addr] ∧
        Reads t [(MEMBER_W2_RSSI u.addr, usgn 8 f.rssi)] ∧
        t.mem u.addr = { s.mem u.addr with mstate := u.mstate, lastSfn := sfn, heard := s.ply } ∧
        RegsBut [MEMBER_W2_RSSI u.addr] s t ∧
        t = { z with regs := t.regs, fix := t.fix, mac := { (z.setMem u.addr (t.mem u.addr)).mac with corOk := t.mac.corOk } }))

/-- Of the waiting frames the first of an association slot is judged: one that is no request in a request slot, or has a
reserved encoding, counts A_MALFORMED, one with a wrong MIC A_MIC_FAIL, and a valid one ASSOC_REQ; the active unit
with the network and association enabled answers it. An EUI that holds no address is offered the lowest address FREE
for 10 s with a lane and a slot, in state OFFERED, or refused, and the response is queued; one already OFFERED gets
its response again; one ACTIVE is released and offered its address anew. A member silent for RELEASE_S is FREE: its
registers read 0, its channel is IDLE, it is in no flock, its filter is gone and RELEASE is sent to it once; an offer
that lapses is FREE and counted. A write of OWNER lands at once, is held for the current and the next slot, or is
refused; a FLOCK word lands and each ACTIVE or OFFERED member whose set changes is told. The end of the uplink slot of
an active member, once, counts UP_EMPTY where no frame of it came and on an active unit leaves a NO_COR record where
no COR of it was accepted. Nothing else changes. (Rests on: R357, R410, R411, R433, R434, R435, R436, R437, R446,
R448, R449, R452.) -/
def Obligations.AssociationReleaseAndSlots : Prop :=
    (∀ (s : State) (f : RxFrame) (rest : List RxFrame),
      s.stopSafe = true →
      (s.mac.rx = []) ∨ (s.mac.rx = f :: rest ∧ assocSlot (s.prof f.lane) f.k f.slot = false) →
      Does (.assocReqReceive) s (fun t =>
        t = s)) ∧
    (∀ (s : State) (f : RxFrame) (rest : List RxFrame) (h : Nat),
      s.stopSafe = true →
      s.mac.rx = f :: rest →
      assocSlot (s.prof f.lane) f.k f.slot = true →
      h = (if bitOf (leAt f.mpdu 0 1) 4 then 6 else 5) →
      reqSlot (s.prof f.lane) f.k f.slot = false ∨ leAt f.mpdu 0 1 % 16 ≠ 3 ∨ leAt f.mpdu 1 1 ≠ 0 ∨ leAt f.mpdu 2 1 ≠ 0xFF ∨ leAt f.mpdu 3 2 ≠ 0 ∨ f.mpdu.length ≠ h + 40 →
      Does (.assocReqReceive) s (fun t =>
        Reads t [(MAC_CNT_A_MALFORMED, s.adv MAC_CNT_A_MALFORMED)] ∧
        t.mac = { s.mac with rx := rest } ∧
        RegsBut [MAC_CNT_A_MALFORMED] s t ∧
        t = { s with regs := t.regs, mac := t.mac })) ∧
    (∀ (s : State) (f : RxFrame) (rest : List RxFrame) (h : Nat) (z : State),
      s.stopSafe = true →
      s.mac.rx = f :: rest →
      assocSlot (s.prof f.lane) f.k f.slot = true →
      h = (if bitOf (leAt f.mpdu 0 1) 4 then 6 else 5) →
      reqSlot (s.prof f.lane) f.k f.slot = true →
      leAt f.mpdu 0 1 % 16 = 3 →
      leAt f.mpdu 1 1 = 0 →
      leAt f.mpdu 2 1 = 0xFF →
      leAt f.mpdu 3 2 = 0 →
      f.mpdu.length = h + 40 →
      z = { s with mac := { s.mac with rx := rest } } →
      s.useKey (s.get MAC_KEYS_JOIN_KEY_SLOT) 1 2 = none →
      Does (.assocReqReceive) s (fun t =>
        Reads t [(MAC_CNT_A_MIC_FAIL, s.adv MAC_CNT_A_MIC_FAIL), (KS_CNT_ORPHAN_ABORTS, (s.keyAbort (s.get MAC_KEYS_JOIN_KEY_SLOT) 1 2).get KS_CNT_ORPHAN_ABORTS)] ∧
        t.mac = (z.laneCount f.lane (fun c => { c with micFail := min (c.micFail + 1) 255 })).mac ∧
        RegsBut [MAC_CNT_A_MIC_FAIL, KS_CNT_ORPHAN_ABORTS] s t ∧
        t = { s with regs := t.regs, mac := t.mac })) ∧
    (∀ (s : State) (f : RxFrame) (rest : List RxFrame) (h : Nat) (key eui : List Nat) (z : State),
      s.stopSafe = true →
      s.mac.rx = f :: rest →
      assocSlot (s.prof f.lane) f.k f.slot = true →
      h = (if bitOf (leAt f.mpdu 0 1) 4 then 6 else 5) →
      reqSlot (s.prof f.lane) f.k f.slot = true →
      leAt f.mpdu 0 1 % 16 = 3 →
      leAt f.mpdu 1 1 = 0 →
      leAt f.mpdu 2 1 = 0xFF →
      leAt f.mpdu 3 2 = 0 →
      f.mpdu.length = h + 40 →
      z = { s with mac := { s.mac with rx := rest } } →
      eui = (f.mpdu.drop h).take 8 →
      s.useKey (s.get MAC_KEYS_JOIN_KEY_SLOT) 1 2 = some key →
      openMpdu key (joinNonce (joinK (s.prof f.lane) f.k) f.lane false 0 eui) f.mpdu = none →
      Does (.assocReqReceive) s (fun t =>
        Reads t [(MAC_CNT_A_MIC_FAIL, s.adv MAC_CNT_A_MIC_FAIL)] ∧
        t.mac = (z.laneCount f.lane (fun c => { c with micFail := min (c.micFail + 1) 255 })).mac ∧
        RegsBut [MAC_CNT_A_MIC_FAIL] s t ∧
        t = { s with regs := t.regs, mac := t.mac })) ∧
    (∀ (s : State) (f : RxFrame) (rest : List RxFrame) (h : Nat) (key b eui caps : List Nat),
      s.stopSafe = true →
      s.mac.rx = f :: rest →
      assocSlot (s.prof f.lane) f.k f.slot = true →
      h = (if bitOf (leAt f.mpdu 0 1) 4 then 6 else 5) →
      reqSlot (s.prof f.lane) f.k f.slot = true →
      leAt f.mpdu 0 1 % 16 = 3 →
      leAt f.mpdu 1 1 = 0 →
      leAt f.mpdu 2 1 = 0xFF →
      leAt f.mpdu 3 2 = 0 →
      f.mpdu.length = h + 40 →
      eui = (f.mpdu.drop h).take 8 →
      s.useKey (s.get MAC_KEYS_JOIN_KEY_SLOT) 1 2 = some key →
      openMpdu key (joinNonce (joinK (s.prof f.lane) f.k) f.lane false 0 eui) f.mpdu = some b →
      caps = (b.drop (h + 8)).take 24 →
      capsOk caps = false →
      Does (.assocReqReceive) s (fun t =>
        Reads t [(MAC_CNT_A_MALFORMED, s.adv MAC_CNT_A_MALFORMED)] ∧
        t.mac = { s.mac with rx := rest } ∧
        RegsBut [MAC_CNT_A_MALFORMED] s t ∧
        t = { s with regs := t.regs, mac := t.mac })) ∧
    (∀ (s : State) (f : RxFrame) (rest : List RxFrame) (h : Nat) (key b eui caps : List Nat),
      s.stopSafe = true →
      s.mac.rx = f :: rest →
      assocSlot (s.prof f.lane) f.k f.slot = true →
      h = (if bitOf (leAt f.mpdu 0 1) 4 then 6 else 5) →
      reqSlot (s.prof f.lane) f.k f.slot = true →
      leAt f.mpdu 0 1 % 16 = 3 →
      leAt f.mpdu 1 1 = 0 →
      leAt f.mpdu 2 1 = 0xFF →
      leAt f.mpdu 3 2 = 0 →
      f.mpdu.length = h + 40 →
      eui = (f.mpdu.drop h).take 8 →
      s.useKey (s.get MAC_KEYS_JOIN_KEY_SLOT) 1 2 = some key →
      openMpdu key (joinNonce (joinK (s.prof f.lane) f.k) f.lane false 0 eui) f.mpdu = some b →
      caps = (b.drop (h + 8)).take 24 →
      capsOk caps = true →
      s.bit PAIR_STATUS_ACTIVE = false ∨ s.bit MAC_CTRL_ASSOC_EN = false ∨ s.bit MAC_CTRL_NET_EN = false →
      Does (.assocReqReceive) s (fun t =>
        Reads t [(MAC_CNT_D_ASSOC_REQ, s.adv MAC_CNT_D_ASSOC_REQ)] ∧
        t.mac = { s.mac with rx := rest } ∧
        RegsBut [MAC_CNT_D_ASSOC_REQ] s t ∧
        t = { s with regs := t.regs, mac := t.mac })) ∧
    (∀ (s : State) (f : RxFrame) (rest : List RxFrame) (h : Nat) (key b eui caps : List Nat) (r : Nat) (z : State),
      s.stopSafe = true →
      s.mac.rx = f :: rest →
      assocSlot (s.prof f.lane) f.k f.slot = true →
      h = (if bitOf (leAt f.mpdu 0 1) 4 then 6 else 5) →
      reqSlot (s.prof f.lane) f.k f.slot = true →
      leAt f.mpdu 0 1 % 16 = 3 →
      leAt f.mpdu 1 1 = 0 →
      leAt f.mpdu 2 1 = 0xFF →
      leAt f.mpdu 3 2 = 0 →
      f.mpdu.length = h + 40 →
      eui = (f.mpdu.drop h).take 8 →
      s.useKey (s.get MAC_KEYS_JOIN_KEY_SLOT) 1 2 = some key →
      openMpdu key (joinNonce (joinK (s.prof f.lane) f.k) f.lane false 0 eui) f.mpdu = some b →
      caps = (b.drop (h + 8)).take 24 →
      capsOk caps = true →
      s.bit PAIR_STATUS_ACTIVE = true →
      s.bit MAC_CTRL_ASSOC_EN = true →
      s.bit MAC_CTRL_NET_EN = true →
      z = State.bump { s with mac := { s.mac with rx := rest } } MAC_CNT_D_ASSOC_REQ →
      s.addrOf eui = none →
      (z.offerPlace caps (allAddrs.find? s.freeLong)).1 = r →
      r ≠ 0 →
      Does (.assocReqReceive) s (fun t =>
        Reads t [(MAC_CNT_D_ASSOC_REQ, s.adv MAC_CNT_D_ASSOC_REQ)] ∧
        t.mac = { s.mac with rx := rest, resp := s.mac.resp ++ [{ lane := f.lane, k := respBoundary (s.prof f.lane) f.k, eui := eui, result := r }] } ∧
        RegsBut [MAC_CNT_D_ASSOC_REQ] s t ∧
        t = { s with regs := t.regs, mac := t.mac })) ∧
    (∀ (s : State) (f : RxFrame) (rest : List RxFrame) (h : Nat) (key b eui caps : List Nat) (a n q : Nat) (z : State),
      s.stopSafe = true →
      s.mac.rx = f :: rest →
      assocSlot (s.prof f.lane) f.k f.slot = true →
      h = (if bitOf (leAt f.mpdu 0 1) 4 then 6 else 5) →
      reqSlot (s.prof f.lane) f.k f.slot = true →
      leAt f.mpdu 0 1 % 16 = 3 →
      leAt f.mpdu 1 1 = 0 →
      leAt f.mpdu 2 1 = 0xFF →
      leAt f.mpdu 3 2 = 0 →
      f.mpdu.length = h + 40 →
      eui = (f.mpdu.drop h).take 8 →
      s.useKey (s.get MAC_KEYS_JOIN_KEY_SLOT) 1 2 = some key →
      openMpdu key (joinNonce (joinK (s.prof f.lane) f.k) f.lane false 0 eui) f.mpdu = some b →
      caps = (b.drop (h + 8)).take 24 →
      capsOk caps = true →
      s.bit PAIR_STATUS_ACTIVE = true →
      s.bit MAC_CTRL_ASSOC_EN = true →
      s.bit MAC_CTRL_NET_EN = true →
      z = State.bump { s with mac := { s.mac with rx := rest } } MAC_CNT_D_ASSOC_REQ →
      s.addrOf eui = none →
      allAddrs.find? s.freeLong = some a →
      z.offerPlace caps (some a) = (0, n, q) →
      Does (.assocReqReceive) s (fun t =>
        t = (z.offer a n q (respBoundary (s.prof f.lane) f.k) eui caps).respond { lane := f.lane, k := respBoundary (s.prof f.lane) f.k, eui := eui, result := 0, addr := a, slane := n, q := q } ∧
        Reads t [(MEMBER_W2_STATE a, 1), (MEMBER_W0_EUI a, leAt eui 0 4 % 2 ^ 32), (MEMBER_W1_EUI a, leAt eui 4 4 % 2 ^ 32), (MAC_CNT_D_ASSOC_REQ, s.adv MAC_CNT_D_ASSOC_REQ)] ∧
        (t.mem a).caps = caps ∧
        t.mac.rx = rest ∧
        t = { s with regs := t.regs, mac := t.mac, radio := { s.radio with mcfo := t.radio.mcfo } })) ∧
    (∀ (s : State) (f : RxFrame) (rest : List RxFrame) (h : Nat) (key b eui caps : List Nat) (a : Nat) (m : MacMember),
      s.stopSafe = true →
      s.mac.rx = f :: rest →
      assocSlot (s.prof f.lane) f.k f.slot = true →
      h = (if bitOf (leAt f.mpdu 0 1) 4 then 6 else 5) →
      reqSlot (s.prof f.lane) f.k f.slot = true →
      leAt f.mpdu 0 1 % 16 = 3 →
      leAt f.mpdu 1 1 = 0 →
      leAt f.mpdu 2 1 = 0xFF →
      leAt f.mpdu 3 2 = 0 →
      f.mpdu.length = h + 40 →
      eui = (f.mpdu.drop h).take 8 →
      s.useKey (s.get MAC_KEYS_JOIN_KEY_SLOT) 1 2 = some key →
      openMpdu key (joinNonce (joinK (s.prof f.lane) f.k) f.lane false 0 eui) f.mpdu = some b →
      caps = (b.drop (h + 8)).take 24 →
      capsOk caps = true →
      s.bit PAIR_STATUS_ACTIVE = true →
      s.bit MAC_CTRL_ASSOC_EN = true →
      s.bit MAC_CTRL_NET_EN = true →
      s.addrOf eui = some a →
      s.memState a = 1 →
      m = { s.mem a with respK := respBoundary (s.prof f.lane) f.k, dup := min ((s.mem a).dup + 1) 0xFFFF } →
      Does (.assocReqReceive) s (fun t =>
        Reads t [(MAC_CNT_D_ASSOC_REQ, s.adv MAC_CNT_D_ASSOC_REQ), (MAC_CNT_B_DUP, s.adv MAC_CNT_B_DUP)] ∧
        t.mac = { (s.setMem a m).mac with rx := rest, resp := s.mac.resp ++ [{ lane := f.lane, k := respBoundary (s.prof f.lane) f.k, eui := eui, result := 0, addr := a, slane := (s.entryOf (s.get SLOT_CTRL_BANK) a).1, q := (s.entryOf (s.get SLOT_CTRL_BANK) a).2 }] } ∧
        RegsBut [MAC_CNT_D_ASSOC_REQ, MAC_CNT_B_DUP] s t ∧
        t = { s with regs := t.regs, mac := t.mac })) ∧
    (∀ (s : State) (f : RxFrame) (rest : List RxFrame) (h : Nat) (key b eui caps : List Nat) (a : Nat) (z : State),
      s.stopSafe = true →
      s.mac.rx = f :: rest →
      assocSlot (s.prof f.lane) f.k f.slot = true →
      h = (if bitOf (leAt f.mpdu 0 1) 4 then 6 else 5) →
      reqSlot (s.prof f.lane) f.k f.slot = true →
      leAt f.mpdu 0 1 % 16 = 3 →
      leAt f.mpdu 1 1 = 0 →
      leAt f.mpdu 2 1 = 0xFF →
      leAt f.mpdu 3 2 = 0 →
      f.mpdu.length = h + 40 →
      eui = (f.mpdu.drop h).take 8 →
      s.useKey (s.get MAC_KEYS_JOIN_KEY_SLOT) 1 2 = some key →
      openMpdu key (joinNonce (joinK (s.prof f.lane) f.k) f.lane false 0 eui) f.mpdu = some b →
      caps = (b.drop (h + 8)).take 24 →
      capsOk caps = true →
      s.bit PAIR_STATUS_ACTIVE = true →
      s.bit MAC_CTRL_ASSOC_EN = true →
      s.bit MAC_CTRL_NET_EN = true →
      z = State.bump { s with mac := { s.mac with rx := rest } } MAC_CNT_D_ASSOC_REQ →
      s.addrOf eui = some a →
      s.memState a ≠ 1 →
      Does (.assocReqReceive) s (fun t =>
        t = (z.releaseAddr a 2).newOffer f.lane f.k eui caps (some a))) ∧
    (∀ (s : State) (a : Nat),
      s.stopSafe = true →
      isAddr a = true →
      s.memState a = 2 →
      (s.mem a).heard + s.get MAC_CTRL_RELEASE_S * 100000 ≤ s.ply →
      Does (.memberSilenceTimeout a) s (fun t =>
        t = s.releaseAddr a 1 ∧
        Reads t [(MEMBER_W0_EUI a, 0), (MEMBER_W1_EUI a, 0), (MEMBER_W2_STATE a, 0), (MEMBER_W2_LANE a, 0), (MEMBER_W2_Q0 a, 0), (MEMBER_W2_Q1 a, 0), (MEMBER_W2_RSSI a, 0), (MEMBER_W3_CAPS a, 0)] ∧
        s.mac.once.isPrefixOf t.mac.once = true ∧
        t.mac.once.getLast? = some (s.get (MEMBER_W2_LANE a), { dst := a, dseq := (s.mem a).next, kind := 5, body := [1] }) ∧
        t.flocksOf a = 0 ∧
        t.mac.freed.getLast? = some (a, s.ply) ∧
        t.pchState a = 0 ∧
        t.fix.filters = s.fix.filters.filter (fun e => e.1 ≠ a))) ∧
    (∀ (s : State) (a : Nat) (c : MacCmd),
      s.stopSafe = true →
      isAddr a = true →
      s.memState a = 2 →
      (s.mem a).heard + s.get MAC_CTRL_RELEASE_S * 100000 ≤ s.ply →
      c = { dst := a, dseq := (s.mem a).next, kind := 5, body := [1] } →
      s.disp.tasks = [] →
      (s.pch a).move = none →
      (s.pch a).reqs = [] →
      s.pairsOf a = [] →
      s.entriesOf 0 a = [] →
      s.entriesOf 1 a = [] →
      Does (.memberSilenceTimeout a) s (fun t =>
        t.mac = { s.mac with members := s.mac.members.filter (fun e => e.1 ≠ a), freed := s.mac.freed.filter (fun e => e.1 ≠ a) ++ [(a, s.ply)], once := s.mac.once ++ [(s.get (MEMBER_W2_LANE a), c)] } ∧
        t.fix = { s.fix with filters := s.fix.filters.filter (fun e => e.1 ≠ a) } ∧
        t.mp = (s.mpSend (.rel a (s.eui a))).mp ∧
        (List.range 16).all (fun g => t.get (FLOCK_MEMBERS g ((a - 1) / 32)) == putBit (s.get (FLOCK_MEMBERS g ((a - 1) / 32))) ((a - 1) % 32) false % 2 ^ 32) = true ∧
        RegsBut ([MEMBER_W0_EUI a, MEMBER_W1_EUI a, MEMBER_W2_STATE a, MEMBER_W2_LANE a, MEMBER_W2_Q0 a, MEMBER_W2_Q1 a, MEMBER_W2_RSSI a, MEMBER_W3_CAPS a, PCH_W5_STATE a, PCH_W5_REASON a, PCH_W5_DOCKED a, PCH_W5_Q a, PCH_W5_GEAR_LIMITED a, PCH_W5_SLOT a] ++ (List.range 16).map (fun g => FLOCK_MEMBERS g ((a - 1) / 32))) s t ∧
        t = { s.setPch a {} with regs := t.regs, mac := t.mac, fix := t.fix, mp := t.mp })) ∧
    (∀ (s : State) (a : Nat),
      s.stopSafe = true →
      isAddr a = false ∨ s.memState a ≠ 2 ∨ s.ply < (s.mem a).heard + s.get MAC_CTRL_RELEASE_S * 100000 →
      Does (.memberSilenceTimeout a) s (fun t =>
        t = s)) ∧
    (∀ (s : State) (a : Nat),
      s.stopSafe = true →
      isAddr a = true →
      s.memState a = 1 →
      (s.mem a).respK + (if s.prof (s.get (MEMBER_W2_LANE a)) = 0 then 20 else 30) ≤ s.time.k →
      Does (.offerLapse a) s (fun t =>
        t = ((s.clearEntries a).freeAddr a).bump MAC_CNT_D_ASSOC_LAPSE ∧
        Reads t [(MEMBER_W0_EUI a, 0), (MEMBER_W1_EUI a, 0), (MEMBER_W2_STATE a, 0), (MEMBER_W2_LANE a, 0), (MEMBER_W2_Q0 a, 0), (MEMBER_W2_Q1 a, 0), (MEMBER_W2_RSSI a, 0), (MEMBER_W3_CAPS a, 0)] ∧
        Reads t [(MAC_CNT_D_ASSOC_LAPSE, s.adv MAC_CNT_D_ASSOC_LAPSE)] ∧
        t.mac.freed.getLast? = some (a, s.ply) ∧
        (List.range 16).all (fun i => (List.range 100).all (fun q => s.ownerEff (i / 8) (i % 8) q == a || t.get (SLOT_OWNER i q) == s.get (SLOT_OWNER i q))) = true ∧
        t = { s with regs := t.regs, mac := t.mac })) ∧
    (∀ (s : State) (a : Nat),
      s.stopSafe = true →
      isAddr a = false ∨ s.memState a ≠ 1 ∨ s.time.k < (s.mem a).respK + (if s.prof (s.get (MEMBER_W2_LANE a)) = 0 then 20 else 30) →
      Does (.offerLapse a) s (fun t =>
        t = s)) ∧
    (∀ (s : State) (ini b n q data a : Nat),
      s.stopSafe = true →
      b < 2 →
      n < 8 →
      q < 100 →
      MayWrite s ini (0x40311000 + 0x1000 * b + 0x200 * n + 4 * q) →
      a = data % 256 →
      slotKind (s.prof n) q = 1 →
      groupSlot (s.prof n) q = q →
      a = 0 ∨ isAddr a = true →
      s.ownerRefused b n q a = false →
      s.ownerHeld b n q = false →
      Does (.slotOwnerWrite ini b n q data) s (fun t =>
        Reads t [(SLOT_OWNER (8 * b + n) q, a)] ∧
        t = s.ownerApply b n q a ∧
        RegsBut [SLOT_OWNER (8 * b + n) q, MEMBER_W2_LANE (a), MEMBER_W2_LANE (s.get (SLOT_OWNER (8 * b + n) q)), MEMBER_W2_Q0 (a), MEMBER_W2_Q0 (s.get (SLOT_OWNER (8 * b + n) q)), MEMBER_W2_Q1 (a), MEMBER_W2_Q1 (s.get (SLOT_OWNER (8 * b + n) q))] s t ∧
        t = { s with regs := t.regs, mac := { s.mac with members := t.mac.members } })) ∧
    (∀ (s : State) (ini b n q data a : Nat) (l : List (Nat × Nat × Nat × Nat)),
      s.stopSafe = true →
      b < 2 →
      n < 8 →
      q < 100 →
      MayWrite s ini (0x40311000 + 0x1000 * b + 0x200 * n + 4 * q) →
      a = data % 256 →
      slotKind (s.prof n) q = 1 →
      groupSlot (s.prof n) q = q →
      a = 0 ∨ isAddr a = true →
      s.ownerRefused b n q a = false →
      s.ownerHeld b n q = true →
      l = s.mac.held.filter (fun h => !(h.1 == b && h.2.1 == n && h.2.2.1 == q)) →
      l.length < 16 →
      Does (.slotOwnerWrite ini b n q data) s (fun t =>
        t.mac = { s.mac with held := l ++ [(b, n, q, a)] } ∧
        Reads t [(SLOT_CTRL_HELD, l.length + 1), (SLOT_CTRL_SLOT_WR_DEFERRED, 1)] ∧
        RegsBut [SLOT_CTRL_HELD, SLOT_CTRL_SLOT_WR_DEFERRED] s t ∧
        t = { s with regs := t.regs, mac := t.mac })) ∧
    (∀ (s : State) (ini b n q data a : Nat) (l : List (Nat × Nat × Nat × Nat)),
      s.stopSafe = true →
      b < 2 →
      n < 8 →
      q < 100 →
      MayWrite s ini (0x40311000 + 0x1000 * b + 0x200 * n + 4 * q) →
      a = data % 256 →
      slotKind (s.prof n) q = 1 →
      groupSlot (s.prof n) q = q →
      a = 0 ∨ isAddr a = true →
      s.ownerRefused b n q a = false →
      s.ownerHeld b n q = true →
      l = s.mac.held.filter (fun h => !(h.1 == b && h.2.1 == n && h.2.2.1 == q)) →
      16 ≤ l.length →
      Does (.slotOwnerWrite ini b n q data) s (fun t =>
        Reads t [(SLOT_CTRL_SLOT_WR_REFUSED, 1)] ∧
        RegsBut [SLOT_CTRL_SLOT_WR_REFUSED] s t ∧
        t = { s with regs := t.regs })) ∧
    (∀ (s : State) (ini b n q data a : Nat),
      s.stopSafe = true →
      MayWrite s ini (0x40311000 + 0x1000 * b + 0x200 * n + 4 * q) →
      a = data % 256 →
      2 ≤ b ∨ 8 ≤ n ∨ 100 ≤ q ∨ slotKind (s.prof n) q ≠ 1 ∨ groupSlot (s.prof n) q ≠ q ∨ (a ≠ 0 ∧ isAddr a = false) ∨ s.ownerRefused b n q a = true →
      Does (.slotOwnerWrite ini b n q data) s (fun t =>
        t = s)) ∧
    (∀ (s : State) (ini g w data : Nat),
      s.stopSafe = true →
      g < 16 →
      w < 6 →
      MayWrite s ini (0x40310400 + 0x20 * g + 4 * w) →
      Does (.flockWrite ini g w data) s (fun t =>
        Reads t [(FLOCK_MEMBERS g w, data % 2 ^ 32)] ∧
        (List.range 32).all (fun j => !(bitOf (s.get (FLOCK_MEMBERS g w)) j != bitOf (data % 2 ^ 32) j && s.memState (32 * w + j + 1) != 0) || decide (t.mem (32 * w + j + 1) = { s.mem (32 * w + j + 1) with next := dseqNext (s.mem (32 * w + j + 1)).next, cmds := (s.mem (32 * w + j + 1)).cmds ++ [{ dst := 32 * w + j + 1, dseq := (s.mem (32 * w + j + 1)).next, kind := 2, body := leBytes 2 (t.flocksOf (32 * w + j + 1)) }] })) = true ∧
        (List.range 256).all (fun c => (decide (32 * w < c ∧ c ≤ 32 * w + 32) && bitOf (s.get (FLOCK_MEMBERS g w)) (c - 32 * w - 1) != bitOf (data % 2 ^ 32) (c - 32 * w - 1) && s.memState c != 0) || decide (t.mem c = s.mem c)) = true ∧
        RegsBut [FLOCK_MEMBERS g w] s t ∧
        t = { s with regs := t.regs, mac := { s.mac with members := t.mac.members } })) ∧
    (∀ (s : State) (a : Nat) (e : Nat × Nat) (z u : State) (w : Nat × Nat) (y : SolRec),
      s.stopSafe = true →
      e = s.entryOf (s.get SLOT_CTRL_BANK) a →
      isAddr a = true →
      s.memState a = 2 →
      e.2 ≠ 127 →
      s.mac.slotDone.contains a = false →
      s.uplinkEnds e.1 e.2 = true →
      z = { s with mac := { s.mac with slotDone := s.mac.slotDone ++ [a] } } →
      u = (if s.mac.upFrom.contains a then z else z.laneCount (s.get (MEMBER_W2_LANE a)) (fun c => { c with upEmpty := min (c.upEmpty + 1) 255 })) →
      s.active = true →
      s.pair.idle = false →
      s.mac.corOk.contains a = false →
      w = s.startOf (if s.prof e.1 = 0 then s.time.k else s.time.k / 10 * 10) →
      y = u.idleRec a w.1 w.2 32 0 false →
      Does (.uplinkSlotEnd a) s (fun t =>
        t = u.recorded [y])) ∧
    (∀ (s : State) (a : Nat) (e : Nat × Nat) (z u : State) (w : Nat × Nat) (y : SolRec),
      s.stopSafe = true →
      e = s.entryOf (s.get SLOT_CTRL_BANK) a →
      isAddr a = true →
      s.memState a = 2 →
      e.2 ≠ 127 →
      s.mac.slotDone.contains a = false →
      s.uplinkEnds e.1 e.2 = true →
      z = { s with mac := { s.mac with slotDone := s.mac.slotDone ++ [a] } } →
      u = (if s.mac.upFrom.contains a then z else z.laneCount (s.get (MEMBER_W2_LANE a)) (fun c => { c with upEmpty := min (c.upEmpty + 1) 255 })) →
      s.active = true →
      s.pair.idle = false →
      s.mac.corOk.contains a = false →
      w = s.startOf (if s.prof e.1 = 0 then s.time.k else s.time.k / 10 * 10) →
      y = u.idleRec a w.1 w.2 32 0 false →
      s.pchState a = 0 →
      Does (.uplinkSlotEnd a) s (fun t =>
        t.fix = { s.fix with recs := recsAfter s.fix.recs [y], done := s.fix.done ++ [y.shown] } ∧
        Reads t [(FIX_MEMBER_STATUS a, y.status), (FIX_MEMBER_NFIX a, 0)] ∧
        RegsBut (recRegs a) s t ∧
        t = { u with regs := t.regs, fix := t.fix })) ∧
    (∀ (s : State) (a : Nat) (e : Nat × Nat) (z u : State),
      s.stopSafe = true →
      e = s.entryOf (s.get SLOT_CTRL_BANK) a →
      isAddr a = true →
      s.memState a = 2 →
      e.2 ≠ 127 →
      s.mac.slotDone.contains a = false →
      s.uplinkEnds e.1 e.2 = true →
      z = { s with mac := { s.mac with slotDone := s.mac.slotDone ++ [a] } } →
      u = (if s.mac.upFrom.contains a then z else z.laneCount (s.get (MEMBER_W2_LANE a)) (fun c => { c with upEmpty := min (c.upEmpty + 1) 255 })) →
      s.active = false ∨ s.pair.idle = true ∨ s.mac.corOk.contains a = true →
      Does (.uplinkSlotEnd a) s (fun t =>
        t = u)) ∧
    (∀ (s : State) (a : Nat) (e : Nat × Nat),
      s.stopSafe = true →
      e = s.entryOf (s.get SLOT_CTRL_BANK) a →
      isAddr a = false ∨ s.memState a ≠ 2 ∨ e.2 = 127 ∨ s.mac.slotDone.contains a = true ∨ s.uplinkEnds e.1 e.2 = false →
      Does (.uplinkSlotEnd a) s (fun t =>
        t = s))

/-- An accepted NET_FORM on a disabled network with a grid leaves every address FREE, sets K0 to the first multiple of ten
at least ten boundaries ahead and answers it, and sets the pair counter to 1; on an enabled network it is DENIED,
without a grid NOT_READY. MEMBER_GET answers the bytes of an address; MEMBER_RELEASE frees it; FLOCK_SET replaces,
adds or removes addresses of a flock; SLOT_SET writes an owner as a register write does and answers its status. A
payload out of range is answered BAD_PARAM. Nothing else changes, but that a release ends tasks and moves of its
member, whose open requests are answered too. (Rests on: R436, R437, R446, R449, R451, R549, R685.) -/
def Obligations.FieldLinkOpcodes : Prop :=
    (∀ (s : State) (sess tag : Nat) (k : Nat) (u : State),
      s.accepts 0x0500 sess tag true = true →
      s.bit MAC_CTRL_NET_EN = false →
      s.time.grid = true →
      k = ceil10 (s.time.k + 10) →
      s.disp.tasks = [] →
      allAddrs.all (fun a => (s.pch a).move.isNone && (s.pch a).reqs.isEmpty) = true →
      u = ((s.releaseAll 3).setK0 k).put PAIR_CTR_CTR 1 →
      Does (.netForm sess tag) s (fun t =>
        answers s t [] 0x0500 sess tag Ecp.OK (crc32c []) (leBytes 8 k) = true ∧
        t = { u with ecp := t.ecp, out := t.out } ∧
        Reads t [(NET_K0_LO_K0, k % 2 ^ 32), (NET_K0_HI_VALID, 1), (PAIR_CTR_CTR, 1)] ∧
        allAddrs.all (fun a => t.memState a == 0) = true)) ∧
    (∀ (s : State) (sess tag k : Nat),
      s.stopSafe = true →
      s.accepts 0x0500 sess tag true = true →
      s.bit MAC_CTRL_NET_EN = false →
      s.time.grid = true →
      k = ceil10 (s.time.k + 10) →
      Does (.netForm sess tag) s (fun t =>
        allAddrs.all (fun (a : Nat) => t.memState a == 0) = true ∧
        Reads t [(NET_K0_LO_K0, k % 2 ^ 32), (NET_K0_HI_VALID, 1), (PAIR_CTR_CTR, 1)] ∧
        t.time = s.time ∧
        t.rst = s.rst ∧
        t.gnss = s.gnss ∧
        t.rook.mstops = s.rook.mstops)) ∧
    (∀ (s : State) (sess tag : Nat),
      s.stopSafe = true →
      s.accepts 0x0500 sess tag true = true →
      s.bit MAC_CTRL_NET_EN = true →
      Does (.netForm sess tag) s (fun t =>
        answers s t [] 0x0500 sess tag Ecp.DENIED (crc32c []) [] = true ∧
        RegsBut [] s t ∧
        t = { s with regs := t.regs, ecp := t.ecp, out := t.out })) ∧
    (∀ (s : State) (sess tag : Nat),
      s.stopSafe = true →
      s.accepts 0x0500 sess tag true = true →
      s.bit MAC_CTRL_NET_EN = false →
      s.time.grid = false →
      Does (.netForm sess tag) s (fun t =>
        answers s t [] 0x0500 sess tag Ecp.NOT_READY (crc32c []) [] = true ∧
        RegsBut [] s t ∧
        t = { s with regs := t.regs, ecp := t.ecp, out := t.out })) ∧
    (∀ (s : State) (sess tag : Nat) (a : Nat),
      s.stopSafe = true →
      s.accepts 0x0501 sess tag true = true →
      isAddr a = true →
      Does (.memberGet sess tag ([a, 0, 0, 0])) s (fun t =>
        answers s t [] 0x0501 sess tag Ecp.OK (crc32c [a, 0, 0, 0]) (s.memberBytes a) = true ∧
        RegsBut [] s t ∧
        t = { s with regs := t.regs, ecp := t.ecp, out := t.out })) ∧
    (∀ (s : State) (sess tag : Nat) (a b : Nat),
      s.stopSafe = true →
      s.accepts 0x0501 sess tag true = true →
      a < 256 →
      b < 256 →
      isAddr a = false ∨ b ≠ 0 →
      Does (.memberGet sess tag ([a, b, 0, 0])) s (fun t =>
        answers s t [] 0x0501 sess tag Ecp.BAD_PARAM (crc32c [a, b, 0, 0]) [] = true ∧
        RegsBut [] s t ∧
        t = { s with regs := t.regs, ecp := t.ecp, out := t.out })) ∧
    (∀ (s : State) (sess tag : Nat) (a : Nat) (u : State),
      s.accepts 0x0502 sess tag true = true →
      isAddr a = true →
      s.memState a ≠ 0 →
      (s.pch a).move = none →
      (s.pch a).reqs = [] →
      s.disp.tasks = [] →
      u = s.releaseAddr a 0 →
      Does (.memberRelease sess tag ([a, 0, 0, 0])) s (fun t =>
        answers s t [] 0x0502 sess tag Ecp.OK (crc32c [a, 0, 0, 0]) [] = true ∧
        t = { u with ecp := t.ecp, out := t.out } ∧
        Reads t [(MEMBER_W0_EUI a, 0), (MEMBER_W1_EUI a, 0), (MEMBER_W2_STATE a, 0), (MEMBER_W2_LANE a, 0), (MEMBER_W2_Q0 a, 0), (MEMBER_W2_Q1 a, 0), (MEMBER_W2_RSSI a, 0), (MEMBER_W3_CAPS a, 0)] ∧
        t.mac.freed.getLast? = some (a, s.ply))) ∧
    (∀ (s : State) (sess tag a : Nat),
      s.stopSafe = true →
      s.accepts 0x0502 sess tag true = true →
      isAddr a = true →
      s.memState a ≠ 0 →
      Does (.memberRelease sess tag [a, 0, 0, 0]) s (fun t =>
        Reads t [(MEMBER_W0_EUI a, 0), (MEMBER_W1_EUI a, 0), (MEMBER_W2_STATE a, 0), (MEMBER_W2_LANE a, 0), (MEMBER_W2_Q0 a, 0), (MEMBER_W2_Q1 a, 0), (MEMBER_W2_RSSI a, 0), (MEMBER_W3_CAPS a, 0)] ∧
        t.mac.freed.getLast? = some (a, s.ply) ∧
        t.mac.once.getLast? = some (s.get (MEMBER_W2_LANE a), { dst := a, dseq := (s.mem a).next, kind := 5, body := [0] }) ∧
        t.pchState a = 0 ∧
        t.time = s.time ∧
        t.rst = s.rst ∧
        t.gnss = s.gnss)) ∧
    (∀ (s : State) (sess tag : Nat) (a : Nat),
      s.stopSafe = true →
      s.accepts 0x0502 sess tag true = true →
      isAddr a = true →
      s.memState a = 0 →
      Does (.memberRelease sess tag ([a, 0, 0, 0])) s (fun t =>
        answers s t [] 0x0502 sess tag Ecp.OK (crc32c [a, 0, 0, 0]) [] = true ∧
        RegsBut [] s t ∧
        t = { s with regs := t.regs, ecp := t.ecp, out := t.out })) ∧
    (∀ (s : State) (sess tag : Nat) (a b : Nat),
      s.stopSafe = true →
      s.accepts 0x0502 sess tag true = true →
      a < 256 →
      b < 256 →
      isAddr a = false ∨ b ≠ 0 →
      Does (.memberRelease sess tag ([a, b, 0, 0])) s (fun t =>
        answers s t [] 0x0502 sess tag Ecp.BAD_PARAM (crc32c [a, b, 0, 0]) [] = true ∧
        RegsBut [] s t ∧
        t = { s with regs := t.regs, ecp := t.ecp, out := t.out })) ∧
    (∀ (s : State) (sess tag : Nat) (g op n : Nat) (l : List Nat),
      s.stopSafe = true →
      s.accepts 0x0503 sess tag true = true →
      g < 16 →
      op < 3 →
      n = l.length →
      n ≤ 192 →
      l.all isAddr = true →
      Does (.flockSet sess tag (([g, op, n, 0] ++ l))) s (fun t =>
        answers s t [] 0x0503 sess tag Ecp.OK (crc32c ([g, op, n, 0] ++ l)) [] = true ∧
        (List.range 6).all (fun w => t.get (FLOCK_MEMBERS g w) == s.flockNew g op w l % 2 ^ 32) = true ∧
        allAddrs.all (fun c => s.memState c != 0 || decide (t.mem c = s.mem c)) = true ∧
        allAddrs.all (fun c => !(s.memState c != 0 && s.inFlock g c != t.inFlock g c) || decide (t.mem c = { s.mem c with next := dseqNext (s.mem c).next, cmds := (s.mem c).cmds ++ [{ dst := c, dseq := (s.mem c).next, kind := 2, body := leBytes 2 (t.flocksOf c) }] })) = true ∧
        RegsBut [FLOCK_MEMBERS g 0, FLOCK_MEMBERS g 1, FLOCK_MEMBERS g 2, FLOCK_MEMBERS g 3, FLOCK_MEMBERS g 4, FLOCK_MEMBERS g 5] s t ∧
        t = { s with regs := t.regs, mac := t.mac, ecp := t.ecp, out := t.out } ∧
        t.mac = { s.mac with members := t.mac.members })) ∧
    (∀ (s : State) (sess tag : Nat) (g op n r : Nat) (l : List Nat),
      s.stopSafe = true →
      s.accepts 0x0503 sess tag true = true →
      g < 256 →
      op < 256 →
      r < 256 →
      n = l.length →
      n < 256 →
      16 ≤ g ∨ 3 ≤ op ∨ 192 < n ∨ r ≠ 0 ∨ l.all isAddr = false →
      Does (.flockSet sess tag (([g, op, n, r] ++ l))) s (fun t =>
        answers s t [] 0x0503 sess tag Ecp.BAD_PARAM (crc32c ([g, op, n, r] ++ l)) [] = true ∧
        RegsBut [] s t ∧
        t = { s with regs := t.regs, ecp := t.ecp, out := t.out })) ∧
    (∀ (s : State) (sess tag : Nat) (b n q a : Nat) (u : State),
      s.accepts 0x0504 sess tag true = true →
      b < 2 →
      n < 8 →
      q < 100 →
      a < 256 →
      u = (s.ownerWrite b n q a).1 →
      Does (.slotSet sess tag ([b, n, q, a])) s (fun t =>
        answers s t [] 0x0504 sess tag (s.ownerWrite b n q a).2 (crc32c [b, n, q, a]) [] = true ∧
        t = { u with ecp := t.ecp, out := t.out })) ∧
    (∀ (s : State) (sess tag : Nat) (b n q a : Nat),
      s.accepts 0x0504 sess tag true = true →
      b < 2 →
      n < 8 →
      q < 100 →
      slotKind (s.prof n) q = 1 →
      groupSlot (s.prof n) q = q →
      a = 0 ∨ isAddr a = true →
      s.ownerRefused b n q a = false →
      s.ownerHeld b n q = false →
      Does (.slotSet sess tag ([b, n, q, a])) s (fun t =>
        answers s t [] 0x0504 sess tag Ecp.OK (crc32c [b, n, q, a]) [] = true ∧
        Reads t [(SLOT_OWNER (8 * b + n) q, a)] ∧
        t = { s with regs := t.regs, mac := { s.mac with members := t.mac.members }, ecp := t.ecp, out := t.out })) ∧
    (∀ (s : State) (sess tag : Nat) (b n q a : Nat),
      s.stopSafe = true →
      s.accepts 0x0504 sess tag true = true →
      b < 256 →
      n < 256 →
      q < 256 →
      a < 256 →
      2 ≤ b ∨ 8 ≤ n ∨ 100 ≤ q →
      Does (.slotSet sess tag ([b, n, q, a])) s (fun t =>
        answers s t [] 0x0504 sess tag Ecp.BAD_PARAM (crc32c [b, n, q, a]) [] = true ∧
        RegsBut [] s t ∧
        t = { s with regs := t.regs, ecp := t.ecp, out := t.out }))

/-- At C1 and C2 on an active unit the records complete since the last cut-off leave: none waits, the metrology copy holds
the latest record of each member, every READY lane of profile 0 has its digest stored, and the host stream gets its
messages. At C1 the track engine builds its windows and tasks are bound and renewed before the digests; at C2 the
solve in progress and every queued COR first give way, so that the engine is free with an empty queue, and a
checkpoint follows. At the boundary the superframe ends: the superframe number goes on by one and the grid by the
length of the superframe, the lanes' counters leave as a message and restart, held slot writes land, pending hop
settings whose superframe has come are in force, a pending end of transmission takes effect, and castlings that wait
for a boundary may land; claims, lapses and the sub-GHz digests follow. Away from their instants, and the cut-offs on
a unit that is not active or still loads, the commands change nothing. (Rests on: R20, R27, R28, R30, R298, R365,
R368, R387, R420, R447, R449, R558.) -/
def Obligations.CutOffsAndTheSuperframeBoundary : Prop :=
    (∀ (s : State),
      s.stopSafe = true →
      s.instantNow 95000000 = true →
      s.active = true →
      s.pair.idle = false →
      Does (.cutOffC1) s (fun t =>
        t.fix.done = [] ∧
        t.fix.queue = s.fix.queue ∧
        t.fix.cur = s.fix.cur ∧
        (!s.bit PAIR_STATUS_ACTIVE || t.mp.wire.any (fun (x : Nat × MpItem) => x.2 == MpItem.cut (recsByAddr s.fix.done))) = true ∧
        s.lanes0.all (fun (n : Nat) => (t.storedDigest n 1).isSome) = true ∧
        t.time = s.time ∧
        t.rst = s.rst ∧
        t.gnss = s.gnss ∧
        t.pair = s.pair ∧
        t.memDevs = s.memDevs)) ∧
    (∀ (s : State) (u v : State),
      s.stopSafe = true →
      s.instantNow 95000000 = true →
      s.active = true →
      s.pair.idle = false →
      u = (if s.time.k % 5 = 1 then { s.trkC1 with mac := { s.trkC1.mac with subWins := s.trkC1.mac.wins } } else s.trkC1) →
      v = u.bindAll.renewAll →
      Does (.cutOffC1) s (fun t =>
        t = (v.lanes0.foldl State.buildD1 v).sendCut 1)) ∧
    (∀ (s : State),
      s.stopSafe = true →
      s.instantNow 95000000 = false ∨ s.active = false ∨ s.pair.idle = true →
      Does (.cutOffC1) s (fun t =>
        t = s)) ∧
    (∀ (s : State),
      s.stopSafe = true →
      s.instantNow 97500000 = true →
      s.active = true →
      s.pair.idle = false →
      Does (.cutOffC2) s (fun t =>
        t.fix.done = [] ∧
        t.fix.cur = none ∧
        t.fix.queue = [] ∧
        (!s.bit PAIR_STATUS_ACTIVE || t.mp.wire.any (fun (x : Nat × MpItem) => x.2 == MpItem.cut (recsByAddr (s.shedAll (97500000 - s.sinceNs)).fix.done))) = true ∧
        s.lanes0.all (fun (n : Nat) => (t.storedDigest n 2).isSome) = true ∧
        t.time = s.time ∧
        t.rst = s.rst ∧
        t.gnss = s.gnss ∧
        t.memDevs = s.memDevs ∧
        Reads t [(FIX_OVL_SHED, s.adv FIX_OVL_SHED (s.fix.cur.toList ++ s.fix.queue).length)])) ∧
    (∀ (s : State) (u : State),
      s.stopSafe = true →
      s.instantNow 97500000 = true →
      s.active = true →
      s.pair.idle = false →
      u = s.trkNew (s.shedAll (97500000 - s.sinceNs)) →
      Does (.cutOffC2) s (fun t =>
        t = ((u.lanes0.foldl State.buildD2 u).sendCut 2).captureCkpt)) ∧
    (∀ (s : State),
      s.stopSafe = true →
      s.instantNow 97500000 = false ∨ s.active = false ∨ s.pair.idle = true →
      Does (.cutOffC2) s (fun t =>
        t = s)) ∧
    (∀ (s : State),
      s.stopSafe = true →
      s.instantNow (s.superNs s.sfn) = true →
      Does (.superframeBoundary) s (fun t =>
        t.time.k = s.time.k + 1 ∧
        t.time.gridNs = s.time.gridNs + s.superNs s.sfn ∧
        (t.time.sec, t.time.fx, t.time.grid) = (s.time.sec, s.time.fx, s.time.grid) ∧
        t.mac.held = [] ∧
        t.mac.cnt = [] ∧
        t.clk = { s.clk with txEnded := s.clk.txEnded || s.clk.txEndPending, txEndPending := false } ∧
        t.cast = { s.cast with boundaryNow := true } ∧
        t.ply = s.ply ∧
        t.rst = s.rst ∧
        t.gnss = s.gnss ∧
        t.memDevs = s.memDevs ∧
        t.pwr = s.pwr ∧
        t.flash = s.flash)) ∧
    (∀ (s : State) (u v w : State),
      s.stopSafe = true →
      s.instantNow (s.superNs s.sfn) = true →
      u = s.missBoundary.linkMessage.applyHeld.gridStep →
      v = State.logNearEnd s.sfnNearEnd (u.macBoundary u.time.k) →
      w = State.lapseDue (State.claimBoundary (State.hopBoundary { v with clk := { s.clk with txEnded := s.clk.txEnded || s.clk.txEndPending, txEndPending := false } })) →
      Does (.superframeBoundary) s (fun t =>
        t = (let x := if w.active && !w.pair.idle && w.time.k % 10 == 2 then w.lanesS.foldl State.buildSubD1 w else w; { x with cast := { x.cast with boundaryNow := true } }))) ∧
    (∀ (s : State) (b n q a : Nat),
      s.stopSafe = true →
      s.instantNow (s.superNs s.sfn) = true →
      s.mac.held = [(b, n, q, a)] →
      a < 256 →
      b < 2 →
      n < 8 →
      q < 128 →
      s.pair.yield = false →
      s.active = true →
      s.bit PAIR_STATUS_HANDOVER_PEND = false →
      s.pair.hoReq = none →
      s.pair.become = false →
      Does (.superframeBoundary) s (fun t =>
        Reads t [(SLOT_OWNER (8 * b + n) q, a), (SLOT_CTRL_HELD, 0)])) ∧
    (∀ (s : State) (h : HopSet) (g : Nat),
      s.stopSafe = true →
      s.instantNow (s.superNs s.sfn) = true →
      s.radio.pend = some (h, g) →
      s.hasSfn = true →
      s.sfn < 0xFFFFFFFF →
      g ≤ s.sfn + 1 →
      s.pair.yield = false →
      s.active = true →
      s.bit PAIR_STATUS_HANDOVER_PEND = false →
      s.pair.hoReq = none →
      s.pair.become = false →
      Does (.superframeBoundary) s (fun t =>
        t.radio.hop = some h ∧
        t.radio.pend = none ∧
        Reads t [(HOP_CTRL_PENDING, 0), (HOP_STATUS_N_0, (allowedOf 0 (h.excl.getD 0 0)).length)])) ∧
    (∀ (s : State),
      s.stopSafe = true →
      s.instantNow (s.superNs s.sfn) = false →
      Does (.superframeBoundary) s (fun t =>
        t = s))

/-- An UNJOINED member in a request slot: it sends its request under the join key and notes it, where its accounts allow
the frame; it sends nothing where they do not, without GNSS time, or while a wait drawn after an unanswered request
runs; off a request slot nothing changes. A response in the response slot of its request, to its own EUI: part 0 gives
address, slots, flocks and hop settings, part 1 the keys, and with them (profile 0: in one frame) the member is
JOINING; a result other than 0 and 3 makes it wait longer; a malformed one is counted. A valid Bellwether: claim and
times of its source, guard timing, STOP_CLEAR and, in resynchronisation, SSEQ; one with STOP_CLEAR clear stops the
member; from the higher source also BANK, RATE and the announcements, and a member whose ADDR_MAP bit is clear leaves;
CMD items, hop settings whose target has come and held orders past START_BY follow as the operations say; a malformed
one is counted, one that does not open changes nothing. The join timeout, the guard cap, the beacon timeout, a missed
hop target, a lapsed claim and 3 s without a stop frame have their effects, and before their times change nothing. No
other member changes. (Rests on: R16, R390, R391, R396, R402, R410, R412, R413, R425, R427, R428, R430, R432, R436,
R438, R439, R440, R442, R443, R444, R550, R551.) -/
def Obligations.MembersJoinListenAndLeave : Prop :=
    (∀ (s : State) (m : Nat) (d : MemDev) (k lane draw : Nat) (eui caps jk : List Nat) (e : MemDev),
      s.stopSafe = true →
      s.memDev m = d →
      d.st = 0 →
      lane < 8 →
      reqSlot (s.prof lane) k 2 = true →
      eui.length = 8 →
      capsOk caps = true →
      e = (if d.asked.isSome = true then { d with eui := eui, caps := caps, joinKey := jk, asked := none, half := false, wait := draw % 2 ^ (min d.tries 6) } else { d with eui := eui, caps := caps, joinKey := jk }) →
      e.wait = 0 →
      (MemDev.budget { e with tries := e.tries + 1, asked := some (lane, k) } (s.prof lane) (s.memChan e lane k 2 true) (txenUs (s.prof lane) (s.get (LANE_CFG_RATE lane)) ivData (psduLen (s.prof lane) ([3, 0, 0xFF, 0, 0] ++ eui ++ caps ++ ccmMic jk (joinNonce (joinK (s.prof lane) k) lane false 0 eui) ([3, 0, 0xFF, 0, 0] ++ eui ++ caps) [] : List Nat).length)) (k * 100000)).isSome = true →
      Does (.memberAssocAttempt m k lane draw eui caps jk true) s (fun t =>
        t.memDev m = { e with tries := e.tries + 1, asked := some (lane, k), bornAt := some (e.bornAt.getD (k * 100000)), sent := ((MemDev.budget { e with tries := e.tries + 1, asked := some (lane, k) } (s.prof lane) (s.memChan e lane k 2 true) (txenUs (s.prof lane) (s.get (LANE_CFG_RATE lane)) ivData (psduLen (s.prof lane) ([3, 0, 0xFF, 0, 0] ++ eui ++ caps ++ ccmMic jk (joinNonce (joinK (s.prof lane) k) lane false 0 eui) ([3, 0, 0xFF, 0, 0] ++ eui ++ caps) [] : List Nat).length)) (k * 100000)).getD {}).sent } ∧
        t.out = s.out ++ [Output.memberAir m k lane 2 ([3, 0, 0xFF, 0, 0] ++ eui ++ caps ++ ccmMic jk (joinNonce (joinK (s.prof lane) k) lane false 0 eui) ([3, 0, 0xFF, 0, 0] ++ eui ++ caps) [] : List Nat)] ∧
        RegsBut [] s t ∧
        t = { s with regs := t.regs, memDevs := t.memDevs, out := t.out } ∧
        (∀ x : Nat, x ≠ m → t.memDev x = s.memDev x))) ∧
    (∀ (s : State) (m : Nat) (d : MemDev) (k lane draw : Nat) (eui caps jk : List Nat) (e : MemDev),
      s.stopSafe = true →
      s.memDev m = d →
      d.st = 0 →
      lane < 8 →
      reqSlot (s.prof lane) k 2 = true →
      eui.length = 8 →
      capsOk caps = true →
      e = (if d.asked.isSome = true then { d with eui := eui, caps := caps, joinKey := jk, asked := none, half := false, wait := draw % 2 ^ (min d.tries 6) } else { d with eui := eui, caps := caps, joinKey := jk }) →
      e.wait = 0 →
      MemDev.budget { e with tries := e.tries + 1, asked := some (lane, k) } (s.prof lane) (s.memChan e lane k 2 true) (txenUs (s.prof lane) (s.get (LANE_CFG_RATE lane)) ivData (psduLen (s.prof lane) ([3, 0, 0xFF, 0, 0] ++ eui ++ caps ++ ccmMic jk (joinNonce (joinK (s.prof lane) k) lane false 0 eui) ([3, 0, 0xFF, 0, 0] ++ eui ++ caps) [] : List Nat).length)) (k * 100000) = none →
      Does (.memberAssocAttempt m k lane draw eui caps jk true) s (fun t =>
        t.memDev m = { e with bornAt := some (e.bornAt.getD (k * 100000)) } ∧
        RegsBut [] s t ∧
        t = { s with regs := t.regs, memDevs := t.memDevs } ∧
        (∀ x : Nat, x ≠ m → t.memDev x = s.memDev x))) ∧
    (∀ (s : State) (m : Nat) (d : MemDev) (k lane draw : Nat) (eui caps jk : List Nat) (e : MemDev) (gn : Bool),
      s.stopSafe = true →
      s.memDev m = d →
      d.st = 0 →
      lane < 8 →
      reqSlot (s.prof lane) k 2 = true →
      eui.length = 8 →
      capsOk caps = true →
      e = (if d.asked.isSome = true then { d with eui := eui, caps := caps, joinKey := jk, asked := none, half := false, wait := draw % 2 ^ (min d.tries 6) } else { d with eui := eui, caps := caps, joinKey := jk }) →
      e.wait ≠ 0 →
      Does (.memberAssocAttempt m k lane draw eui caps jk gn) s (fun t =>
        t.memDev m = { e with wait := e.wait - 1 } ∧
        RegsBut [] s t ∧
        t = { s with regs := t.regs, memDevs := t.memDevs } ∧
        (∀ x : Nat, x ≠ m → t.memDev x = s.memDev x))) ∧
    (∀ (s : State) (m : Nat) (d : MemDev) (k lane draw : Nat) (eui caps jk : List Nat) (e : MemDev),
      s.stopSafe = true →
      s.memDev m = d →
      d.st = 0 →
      lane < 8 →
      reqSlot (s.prof lane) k 2 = true →
      eui.length = 8 →
      capsOk caps = true →
      e = (if d.asked.isSome = true then { d with eui := eui, caps := caps, joinKey := jk, asked := none, half := false, wait := draw % 2 ^ (min d.tries 6) } else { d with eui := eui, caps := caps, joinKey := jk }) →
      e.wait = 0 →
      Does (.memberAssocAttempt m k lane draw eui caps jk false) s (fun t =>
        t.memDev m = e ∧
        RegsBut [] s t ∧
        t = { s with regs := t.regs, memDevs := t.memDevs } ∧
        (∀ x : Nat, x ≠ m → t.memDev x = s.memDev x))) ∧
    (∀ (s : State) (m : Nat) (d : MemDev) (k lane draw : Nat) (eui caps jk : List Nat) (gn : Bool),
      s.stopSafe = true →
      s.memDev m = d →
      d.st ≠ 0 ∨ 8 ≤ lane ∨ reqSlot (s.prof lane) k 2 = false ∨ eui.length ≠ 8 ∨ capsOk caps = false →
      Does (.memberAssocAttempt m k lane draw eui caps jk gn) s (fun t =>
        t = s)) ∧
    (∀ (s : State) (m : Nat) (d : MemDev) (k slot t0 lane kq pt : Nat) (f p b : List Nat),
      s.stopSafe = true →
      s.memDev m = d →
      d.st = 0 →
      d.asked = some (lane, kq) →
      joinK (s.prof lane) k = respBoundary (s.prof lane) kq →
      pt = (if s.prof lane ≠ 0 ∧ slot = 9 then 1 else 0) →
      slot = 2 ∨ pt = 1 →
      openMpdu d.joinKey (joinNonce (joinK (s.prof lane) k) lane true pt d.eui) f = some p →
      b = p.drop (if bitOf (leAt f 0 1) 4 then 6 else 5) →
      leAt f 0 1 % 16 = 4 →
      b.take 8 = d.eui →
      assocBodyOk (s.prof lane) b = true →
      leAt b 8 1 = 0 →
      leAt b 9 1 = 0 →
      s.prof lane = 0 →
      Does (.memberAssocResponse m k slot t0 f) s (fun t =>
        t.memDev m = { d with addr := leAt b 10 1, slot0 := (leAt b 11 1, leAt b 12 1), slot1 := (leAt b 11 1, leAt b 12 1), flocks := leAt b 13 2, k0 := leAt b 15 8, hopLanes := leAt b 23 1, hopVer := leAt b 24 2, excl := (b.drop 26).take 10, nwkKey := ((b.drop 36).drop 9).take 16, hopKey := ((b.drop 36).drop 25).take 16, hopIv := leAt (b.drop 36) 41 16, st := 1, joinAt := t0, asked := none, half := false, tries := 0, wait := 0, resync := true, acted := none, stopAt := t0, seq := 0, bank := 0 } ∧
        RegsBut [] s t ∧
        t = { s with regs := t.regs, memDevs := t.memDevs } ∧
        (∀ x : Nat, x ≠ m → t.memDev x = s.memDev x))) ∧
    (∀ (s : State) (m : Nat) (d : MemDev) (k slot t0 lane kq pt : Nat) (f p b : List Nat),
      s.stopSafe = true →
      s.memDev m = d →
      d.st = 0 →
      d.asked = some (lane, kq) →
      joinK (s.prof lane) k = respBoundary (s.prof lane) kq →
      pt = (if s.prof lane ≠ 0 ∧ slot = 9 then 1 else 0) →
      slot = 2 ∨ pt = 1 →
      openMpdu d.joinKey (joinNonce (joinK (s.prof lane) k) lane true pt d.eui) f = some p →
      b = p.drop (if bitOf (leAt f 0 1) 4 then 6 else 5) →
      leAt f 0 1 % 16 = 4 →
      b.take 8 = d.eui →
      assocBodyOk (s.prof lane) b = true →
      leAt b 8 1 = 0 →
      leAt b 9 1 = 0 →
      s.prof lane ≠ 0 →
      Does (.memberAssocResponse m k slot t0 f) s (fun t =>
        t.memDev m = { d with addr := leAt b 10 1, slot0 := (leAt b 11 1, leAt b 12 1), slot1 := (leAt b 11 1, leAt b 12 1), flocks := leAt b 13 2, k0 := leAt b 15 8, hopLanes := leAt b 23 1, hopVer := leAt b 24 2, excl := (b.drop 26).take 10, half := true } ∧
        RegsBut [] s t ∧
        t = { s with regs := t.regs, memDevs := t.memDevs } ∧
        (∀ x : Nat, x ≠ m → t.memDev x = s.memDev x))) ∧
    (∀ (s : State) (m : Nat) (d : MemDev) (k slot t0 lane kq pt : Nat) (f p b : List Nat),
      s.stopSafe = true →
      s.memDev m = d →
      d.st = 0 →
      d.asked = some (lane, kq) →
      joinK (s.prof lane) k = respBoundary (s.prof lane) kq →
      pt = (if s.prof lane ≠ 0 ∧ slot = 9 then 1 else 0) →
      slot = 2 ∨ pt = 1 →
      openMpdu d.joinKey (joinNonce (joinK (s.prof lane) k) lane true pt d.eui) f = some p →
      b = p.drop (if bitOf (leAt f 0 1) 4 then 6 else 5) →
      leAt f 0 1 % 16 = 4 →
      b.take 8 = d.eui →
      assocBodyOk (s.prof lane) b = true →
      leAt b 8 1 = 1 →
      d.half = true →
      Does (.memberAssocResponse m k slot t0 f) s (fun t =>
        t.memDev m = { d with nwkKey := (b.drop 9).take 16, hopKey := (b.drop 25).take 16, hopIv := leAt b 41 16, st := 1, joinAt := t0, asked := none, half := false, tries := 0, wait := 0, resync := true, acted := none, stopAt := t0, seq := 0, bank := 0 } ∧
        RegsBut [] s t ∧
        t = { s with regs := t.regs, memDevs := t.memDevs } ∧
        (∀ x : Nat, x ≠ m → t.memDev x = s.memDev x))) ∧
    (∀ (s : State) (m : Nat) (d : MemDev) (k slot t0 lane kq pt : Nat) (f p b : List Nat),
      s.stopSafe = true →
      s.memDev m = d →
      d.st = 0 →
      d.asked = some (lane, kq) →
      joinK (s.prof lane) k = respBoundary (s.prof lane) kq →
      pt = (if s.prof lane ≠ 0 ∧ slot = 9 then 1 else 0) →
      slot = 2 ∨ pt = 1 →
      openMpdu d.joinKey (joinNonce (joinK (s.prof lane) k) lane true pt d.eui) f = some p →
      b = p.drop (if bitOf (leAt f 0 1) 4 then 6 else 5) →
      leAt f 0 1 % 16 = 4 →
      b.take 8 = d.eui →
      assocBodyOk (s.prof lane) b = true →
      (leAt b 8 1 = 1 ∧ d.half = false) ∨ (leAt b 8 1 = 0 ∧ leAt b 9 1 = 3) →
      Does (.memberAssocResponse m k slot t0 f) s (fun t =>
        t.memDev m = d ∧
        RegsBut [] s t ∧
        t = { s with regs := t.regs, memDevs := t.memDevs } ∧
        (∀ x : Nat, x ≠ m → t.memDev x = s.memDev x))) ∧
    (∀ (s : State) (m : Nat) (d : MemDev) (k slot t0 lane kq pt : Nat) (f p b : List Nat),
      s.stopSafe = true →
      s.memDev m = d →
      d.st = 0 →
      d.asked = some (lane, kq) →
      joinK (s.prof lane) k = respBoundary (s.prof lane) kq →
      pt = (if s.prof lane ≠ 0 ∧ slot = 9 then 1 else 0) →
      slot = 2 ∨ pt = 1 →
      openMpdu d.joinKey (joinNonce (joinK (s.prof lane) k) lane true pt d.eui) f = some p →
      b = p.drop (if bitOf (leAt f 0 1) 4 then 6 else 5) →
      leAt f 0 1 % 16 = 4 →
      b.take 8 = d.eui →
      assocBodyOk (s.prof lane) b = true →
      leAt b 8 1 = 0 →
      leAt b 9 1 ≠ 0 →
      leAt b 9 1 ≠ 3 →
      Does (.memberAssocResponse m k slot t0 f) s (fun t =>
        t.memDev m = { d with tries := 6 } ∧
        RegsBut [] s t ∧
        t = { s with regs := t.regs, memDevs := t.memDevs } ∧
        (∀ x : Nat, x ≠ m → t.memDev x = s.memDev x))) ∧
    (∀ (s : State) (m : Nat) (d : MemDev) (k slot t0 lane kq pt : Nat) (f p b : List Nat),
      s.stopSafe = true →
      s.memDev m = d →
      d.st = 0 →
      d.asked = some (lane, kq) →
      joinK (s.prof lane) k = respBoundary (s.prof lane) kq →
      pt = (if s.prof lane ≠ 0 ∧ slot = 9 then 1 else 0) →
      slot = 2 ∨ pt = 1 →
      openMpdu d.joinKey (joinNonce (joinK (s.prof lane) k) lane true pt d.eui) f = some p →
      b = p.drop (if bitOf (leAt f 0 1) 4 then 6 else 5) →
      leAt f 0 1 % 16 = 4 →
      b.take 8 = d.eui →
      assocBodyOk (s.prof lane) b = false →
      Does (.memberAssocResponse m k slot t0 f) s (fun t =>
        t.memDev m = { d with malformed := d.malformed + 1 } ∧
        RegsBut [] s t ∧
        t = { s with regs := t.regs, memDevs := t.memDevs } ∧
        (∀ x : Nat, x ≠ m → t.memDev x = s.memDev x))) ∧
    (∀ (s : State) (m : Nat) (d : MemDev) (k slot t0 lane kq pt : Nat) (f p b : List Nat),
      s.stopSafe = true →
      s.memDev m = d →
      d.st = 0 →
      d.asked = some (lane, kq) →
      joinK (s.prof lane) k = respBoundary (s.prof lane) kq →
      pt = (if s.prof lane ≠ 0 ∧ slot = 9 then 1 else 0) →
      slot = 2 ∨ pt = 1 →
      openMpdu d.joinKey (joinNonce (joinK (s.prof lane) k) lane true pt d.eui) f = some p →
      b = p.drop (if bitOf (leAt f 0 1) 4 then 6 else 5) →
      leAt f 0 1 % 16 ≠ 4 ∨ b.take 8 ≠ d.eui →
      Does (.memberAssocResponse m k slot t0 f) s (fun t =>
        t = s)) ∧
    (∀ (s : State) (m : Nat) (d : MemDev) (k slot t0 lane kq pt : Nat) (f : List Nat),
      s.stopSafe = true →
      s.memDev m = d →
      d.asked = some (lane, kq) →
      pt = (if s.prof lane ≠ 0 ∧ slot = 9 then 1 else 0) →
      d.st ≠ 0 ∨ joinK (s.prof lane) k ≠ respBoundary (s.prof lane) kq ∨ (slot ≠ 2 ∧ pt ≠ 1) ∨ openMpdu d.joinKey (joinNonce (joinK (s.prof lane) k) lane true pt d.eui) f = none →
      Does (.memberAssocResponse m k slot t0 f) s (fun t =>
        t = s)) ∧
    (∀ (s : State) (m : Nat) (d : MemDev) (k slot t0 : Nat) (f : List Nat),
      s.stopSafe = true →
      s.memDev m = d →
      d.asked = none →
      Does (.memberAssocResponse m k slot t0 f) s (fun t =>
        t = s)) ∧
    (∀ (s : State) (m : Nat) (d : MemDev) (t0 : Nat),
      s.stopSafe = true →
      s.memDev m = d →
      d.st = 1 →
      d.joinAt + (if s.prof d.slot.1 = 0 then 2000000 else 3000000) ≤ t0 →
      Does (.memberJoinTimeout m t0) s (fun t =>
        t.memDev m = MemDev.leave (d) ∧
        ((t.memDev m).st, (t.memDev m).addr, (t.memDev m).win, (t.memDev m).claim0, (t.memDev m).claim1) = (0, 0, none, none, none) ∧
        RegsBut [] s t ∧
        t = { s with regs := t.regs, memDevs := t.memDevs } ∧
        (∀ x : Nat, x ≠ m → t.memDev x = s.memDev x))) ∧
    (∀ (s : State) (m : Nat) (d : MemDev) (t0 : Nat),
      s.stopSafe = true →
      s.memDev m = d →
      d.st ≠ 1 ∨ t0 < d.joinAt + (if s.prof d.slot.1 = 0 then 2000000 else 3000000) →
      Does (.memberJoinTimeout m t0) s (fun t =>
        t = s)) ∧
    (∀ (s : State) (m : Nat) (d : MemDev) (k slot u t0 g : Nat) (f p b : List Nat) (items : List (Nat × List Nat)) (e : MemDev),
      s.stopSafe = true →
      s.memDev m = d →
      bellSource (s.prof d.slot.1) k slot = some u →
      d.st ≠ 0 →
      leAt f 0 1 % 16 = 0 →
      leAt f 1 1 = 0xE0 + u →
      openMpdu d.nwkKey (nwkNonce (d.sfn k) slot d.slot.1 ivData true (0xE0 + u)) f = some p →
      b = p.drop (if bitOf (leAt f 0 1) 4 then 6 else 5) →
      parseItems b.length (b.drop 55) = some items →
      bellOk (s.prof d.slot.1) b items = true →
      g = leAt b 14 2 →
      e = { d with claim0 := (if u = 0 then some (leAt b 0 4) else d.claim0), at0 := (if u = 0 then t0 else d.at0), claim1 := (if u = 0 then d.claim1 else some (leAt b 0 4)), at1 := (if u = 0 then d.at1 else t0), dseq := (if d.claim u = some (leAt b 0 4) then d.dseq else d.dseq.filter (fun (x : (Nat × Nat) × Nat) => x.1.1 != u)), stateDue := (d.stateDue || (if u = 0 then { d with claim0 := some (leAt b 0 4) } else { d with claim1 := some (leAt b 0 4) } : MemDev).topClaim != d.topClaim), st := 2, bellAt := t0, clear0 := (if u = 0 then bitOf g 0 else d.clear0), clear1 := (if u = 0 then d.clear1 else bitOf g 0), acted := (if d.resync = true then some (leAt b 16 1) else d.acted), resync := false, stopAt := (if d.resync = true then t0 else d.stopAt), clearAt := (if bitOf g 0 = true then joinK (s.prof d.slot.1) k * 100000 else d.clearAt), stopped := (d.stopped || !bitOf g 0), win := (if bitOf g 0 = true then d.win else none) } →
      e.higher = some u →
      bitOf (leAt b 31 24) (d.addr - 1) = true →
      items = [] →
      d.part0 = none →
      d.held = none →
      Does (.memberBellwetherReceive m k slot t0 f) s (fun t =>
        t.memDev m = { e with bank := b2n (bitOf g 2), rate := bits g 10 8, shift := (if bitOf g 3 = true then some (leAt b 17 4, leAt b 21 4) else d.shift), hopAnn := (if bitOf g 4 = true then some (leAt b 29 2, leAt b 25 4) else d.hopAnn) } ∧
        RegsBut [] s t ∧
        t = { s with regs := t.regs, memDevs := t.memDevs } ∧
        (∀ x : Nat, x ≠ m → t.memDev x = s.memDev x))) ∧
    (∀ (s : State) (m : Nat) (d : MemDev) (k slot u t0 g : Nat) (f p b : List Nat) (items : List (Nat × List Nat)) (e : MemDev),
      s.stopSafe = true →
      s.memDev m = d →
      bellSource (s.prof d.slot.1) k slot = some u →
      d.st ≠ 0 →
      leAt f 0 1 % 16 = 0 →
      leAt f 1 1 = 0xE0 + u →
      openMpdu d.nwkKey (nwkNonce (d.sfn k) slot d.slot.1 ivData true (0xE0 + u)) f = some p →
      b = p.drop (if bitOf (leAt f 0 1) 4 then 6 else 5) →
      parseItems b.length (b.drop 55) = some items →
      bellOk (s.prof d.slot.1) b items = true →
      g = leAt b 14 2 →
      e = { d with claim0 := (if u = 0 then some (leAt b 0 4) else d.claim0), at0 := (if u = 0 then t0 else d.at0), claim1 := (if u = 0 then d.claim1 else some (leAt b 0 4)), at1 := (if u = 0 then d.at1 else t0), dseq := (if d.claim u = some (leAt b 0 4) then d.dseq else d.dseq.filter (fun (x : (Nat × Nat) × Nat) => x.1.1 != u)), stateDue := (d.stateDue || (if u = 0 then { d with claim0 := some (leAt b 0 4) } else { d with claim1 := some (leAt b 0 4) } : MemDev).topClaim != d.topClaim), st := 2, bellAt := t0, clear0 := (if u = 0 then bitOf g 0 else d.clear0), clear1 := (if u = 0 then d.clear1 else bitOf g 0), acted := (if d.resync = true then some (leAt b 16 1) else d.acted), resync := false, stopAt := (if d.resync = true then t0 else d.stopAt), clearAt := (if bitOf g 0 = true then joinK (s.prof d.slot.1) k * 100000 else d.clearAt), stopped := (d.stopped || !bitOf g 0), win := (if bitOf g 0 = true then d.win else none) } →
      e.higher = some u →
      bitOf (leAt b 31 24) (d.addr - 1) = false →
      d.held = none →
      Does (.memberBellwetherReceive m k slot t0 f) s (fun t =>
        t.memDev m = MemDev.leave ({ e with bank := b2n (bitOf g 2), rate := bits g 10 8, shift := (if bitOf g 3 = true then some (leAt b 17 4, leAt b 21 4) else d.shift), hopAnn := (if bitOf g 4 = true then some (leAt b 29 2, leAt b 25 4) else d.hopAnn) }) ∧
        ((t.memDev m).st, (t.memDev m).addr, (t.memDev m).win, (t.memDev m).claim0, (t.memDev m).claim1) = (0, 0, none, none, none) ∧
        RegsBut [] s t ∧
        t = { s with regs := t.regs, memDevs := t.memDevs } ∧
        (∀ x : Nat, x ≠ m → t.memDev x = s.memDev x))) ∧
    (∀ (s : State) (m : Nat) (d : MemDev) (k slot u t0 g : Nat) (f p b : List Nat) (items : List (Nat × List Nat)) (e : MemDev),
      s.stopSafe = true →
      s.memDev m = d →
      bellSource (s.prof d.slot.1) k slot = some u →
      d.st ≠ 0 →
      leAt f 0 1 % 16 = 0 →
      leAt f 1 1 = 0xE0 + u →
      openMpdu d.nwkKey (nwkNonce (d.sfn k) slot d.slot.1 ivData true (0xE0 + u)) f = some p →
      b = p.drop (if bitOf (leAt f 0 1) 4 then 6 else 5) →
      parseItems b.length (b.drop 55) = some items →
      bellOk (s.prof d.slot.1) b items = true →
      g = leAt b 14 2 →
      e = { d with claim0 := (if u = 0 then some (leAt b 0 4) else d.claim0), at0 := (if u = 0 then t0 else d.at0), claim1 := (if u = 0 then d.claim1 else some (leAt b 0 4)), at1 := (if u = 0 then d.at1 else t0), dseq := (if d.claim u = some (leAt b 0 4) then d.dseq else d.dseq.filter (fun (x : (Nat × Nat) × Nat) => x.1.1 != u)), stateDue := (d.stateDue || (if u = 0 then { d with claim0 := some (leAt b 0 4) } else { d with claim1 := some (leAt b 0 4) } : MemDev).topClaim != d.topClaim), st := 2, bellAt := t0, clear0 := (if u = 0 then bitOf g 0 else d.clear0), clear1 := (if u = 0 then d.clear1 else bitOf g 0), acted := (if d.resync = true then some (leAt b 16 1) else d.acted), resync := false, stopAt := (if d.resync = true then t0 else d.stopAt), clearAt := (if bitOf g 0 = true then joinK (s.prof d.slot.1) k * 100000 else d.clearAt), stopped := (d.stopped || !bitOf g 0), win := (if bitOf g 0 = true then d.win else none) } →
      e.higher ≠ some u →
      d.part0 = none →
      d.held = none →
      Does (.memberBellwetherReceive m k slot t0 f) s (fun t =>
        t.memDev m = e ∧
        RegsBut [] s t ∧
        t = { s with regs := t.regs, memDevs := t.memDevs } ∧
        (∀ x : Nat, x ≠ m → t.memDev x = s.memDev x))) ∧
    (∀ (s : State) (m : Nat) (d : MemDev) (k slot u t0 g : Nat) (f p b : List Nat) (items : List (Nat × List Nat)) (e : MemDev),
      s.stopSafe = true →
      s.memDev m = d →
      bellSource (s.prof d.slot.1) k slot = some u →
      d.st ≠ 0 →
      leAt f 0 1 % 16 = 0 →
      leAt f 1 1 = 0xE0 + u →
      openMpdu d.nwkKey (nwkNonce (d.sfn k) slot d.slot.1 ivData true (0xE0 + u)) f = some p →
      b = p.drop (if bitOf (leAt f 0 1) 4 then 6 else 5) →
      parseItems b.length (b.drop 55) = some items →
      bellOk (s.prof d.slot.1) b items = true →
      g = leAt b 14 2 →
      e = { d with claim0 := (if u = 0 then some (leAt b 0 4) else d.claim0), at0 := (if u = 0 then t0 else d.at0), claim1 := (if u = 0 then d.claim1 else some (leAt b 0 4)), at1 := (if u = 0 then d.at1 else t0), dseq := (if d.claim u = some (leAt b 0 4) then d.dseq else d.dseq.filter (fun (x : (Nat × Nat) × Nat) => x.1.1 != u)), stateDue := (d.stateDue || (if u = 0 then { d with claim0 := some (leAt b 0 4) } else { d with claim1 := some (leAt b 0 4) } : MemDev).topClaim != d.topClaim), st := 2, bellAt := t0, clear0 := (if u = 0 then bitOf g 0 else d.clear0), clear1 := (if u = 0 then d.clear1 else bitOf g 0), acted := (if d.resync = true then some (leAt b 16 1) else d.acted), resync := false, stopAt := (if d.resync = true then t0 else d.stopAt), clearAt := (if bitOf g 0 = true then joinK (s.prof d.slot.1) k * 100000 else d.clearAt), stopped := (d.stopped || !bitOf g 0), win := (if bitOf g 0 = true then d.win else none) } →
      e.higher = some u →
      bitOf (leAt b 31 24) (d.addr - 1) = true →
      Does (.memberBellwetherReceive m k slot t0 f) s (fun t =>
        t.memDev m = ((items.foldl (fun (y : MemDev) (i : Nat × List Nat) => MemDev.cmd u (d.sfn k) y i.2) { e with bank := b2n (bitOf g 2), rate := bits g 10 8, shift := (if bitOf g 3 = true then some (leAt b 17 4, leAt b 21 4) else d.shift), hopAnn := (if bitOf g 4 = true then some (leAt b 29 2, leAt b 25 4) else d.hopAnn) }).hopNow (d.sfn k)).expire (d.sfn k) ∧
        RegsBut [] s t ∧
        t = { s with regs := t.regs, memDevs := t.memDevs } ∧
        (∀ x : Nat, x ≠ m → t.memDev x = s.memDev x))) ∧
    (∀ (s : State) (m : Nat) (d : MemDev) (k slot u t0 g : Nat) (f p b : List Nat) (items : List (Nat × List Nat)) (e : MemDev) (hp hq : MemHopPart),
      s.stopSafe = true →
      s.memDev m = d →
      bellSource (s.prof d.slot.1) k slot = some u →
      d.st ≠ 0 →
      leAt f 0 1 % 16 = 0 →
      leAt f 1 1 = 0xE0 + u →
      openMpdu d.nwkKey (nwkNonce (d.sfn k) slot d.slot.1 ivData true (0xE0 + u)) f = some p →
      b = p.drop (if bitOf (leAt f 0 1) 4 then 6 else 5) →
      parseItems b.length (b.drop 55) = some items →
      bellOk (s.prof d.slot.1) b items = true →
      g = leAt b 14 2 →
      e = { d with claim0 := (if u = 0 then some (leAt b 0 4) else d.claim0), at0 := (if u = 0 then t0 else d.at0), claim1 := (if u = 0 then d.claim1 else some (leAt b 0 4)), at1 := (if u = 0 then d.at1 else t0), dseq := (if d.claim u = some (leAt b 0 4) then d.dseq else d.dseq.filter (fun (x : (Nat × Nat) × Nat) => x.1.1 != u)), stateDue := (d.stateDue || (if u = 0 then { d with claim0 := some (leAt b 0 4) } else { d with claim1 := some (leAt b 0 4) } : MemDev).topClaim != d.topClaim), st := 2, bellAt := t0, clear0 := (if u = 0 then bitOf g 0 else d.clear0), clear1 := (if u = 0 then d.clear1 else bitOf g 0), acted := (if d.resync = true then some (leAt b 16 1) else d.acted), resync := false, stopAt := (if d.resync = true then t0 else d.stopAt), clearAt := (if bitOf g 0 = true then joinK (s.prof d.slot.1) k * 100000 else d.clearAt), stopped := (d.stopped || !bitOf g 0), win := (if bitOf g 0 = true then d.win else none) } →
      e.higher = some u →
      bitOf (leAt b 31 24) (d.addr - 1) = true →
      items = [] →
      d.part0 = some hp →
      d.part1 = some hq →
      hp.ver = hq.ver →
      hp.target ≤ d.sfn k →
      d.held = none →
      Does (.memberBellwetherReceive m k slot t0 f) s (fun t =>
        t.memDev m = { e with bank := b2n (bitOf g 2), rate := bits g 10 8, shift := (if bitOf g 3 = true then some (leAt b 17 4, leAt b 21 4) else d.shift), hopVer := hp.ver, hopLanes := hp.lanes, hopKey := hp.data.take 16, hopIv := leAt hp.data 16 16, excl := hq.data, hopAnn := none, part0 := none, part1 := none } ∧
        RegsBut [] s t ∧
        t = { s with regs := t.regs, memDevs := t.memDevs } ∧
        (∀ x : Nat, x ≠ m → t.memDev x = s.memDev x))) ∧
    (∀ (s : State) (m : Nat) (d : MemDev) (k slot u t0 g : Nat) (f p b : List Nat) (items : List (Nat × List Nat)) (e : MemDev) (o : MemOrder),
      s.stopSafe = true →
      s.memDev m = d →
      bellSource (s.prof d.slot.1) k slot = some u →
      d.st ≠ 0 →
      leAt f 0 1 % 16 = 0 →
      leAt f 1 1 = 0xE0 + u →
      openMpdu d.nwkKey (nwkNonce (d.sfn k) slot d.slot.1 ivData true (0xE0 + u)) f = some p →
      b = p.drop (if bitOf (leAt f 0 1) 4 then 6 else 5) →
      parseItems b.length (b.drop 55) = some items →
      bellOk (s.prof d.slot.1) b items = true →
      g = leAt b 14 2 →
      e = { d with claim0 := (if u = 0 then some (leAt b 0 4) else d.claim0), at0 := (if u = 0 then t0 else d.at0), claim1 := (if u = 0 then d.claim1 else some (leAt b 0 4)), at1 := (if u = 0 then d.at1 else t0), dseq := (if d.claim u = some (leAt b 0 4) then d.dseq else d.dseq.filter (fun (x : (Nat × Nat) × Nat) => x.1.1 != u)), stateDue := (d.stateDue || (if u = 0 then { d with claim0 := some (leAt b 0 4) } else { d with claim1 := some (leAt b 0 4) } : MemDev).topClaim != d.topClaim), st := 2, bellAt := t0, clear0 := (if u = 0 then bitOf g 0 else d.clear0), clear1 := (if u = 0 then d.clear1 else bitOf g 0), acted := (if d.resync = true then some (leAt b 16 1) else d.acted), resync := false, stopAt := (if d.resync = true then t0 else d.stopAt), clearAt := (if bitOf g 0 = true then joinK (s.prof d.slot.1) k * 100000 else d.clearAt), stopped := (d.stopped || !bitOf g 0), win := (if bitOf g 0 = true then d.win else none) } →
      e.higher ≠ some u →
      d.part0 = none →
      d.held = some o →
      o.startBy ≤ d.sfn k →
      Does (.memberBellwetherReceive m k slot t0 f) s (fun t =>
        t.memDev m = MemDev.doneRpt { e with held := none } 6 0 o.task 0 0 0 0 ∧
        RegsBut [] s t ∧
        t = { s with regs := t.regs, memDevs := t.memDevs } ∧
        (∀ x : Nat, x ≠ m → t.memDev x = s.memDev x))) ∧
    (∀ (s : State) (m : Nat) (d : MemDev) (k slot u t0 : Nat) (f : List Nat),
      s.stopSafe = true →
      s.memDev m = d →
      bellSource (s.prof d.slot.1) k slot = some u →
      d.st ≠ 0 →
      leAt f 0 1 % 16 ≠ 0 ∨ leAt f 1 1 ≠ 0xE0 + u →
      Does (.memberBellwetherReceive m k slot t0 f) s (fun t =>
        t.memDev m = { d with malformed := d.malformed + 1 } ∧
        RegsBut [] s t ∧
        t = { s with regs := t.regs, memDevs := t.memDevs } ∧
        (∀ x : Nat, x ≠ m → t.memDev x = s.memDev x))) ∧
    (∀ (s : State) (m : Nat) (d : MemDev) (k slot u t0 : Nat) (f p b : List Nat),
      s.stopSafe = true →
      s.memDev m = d →
      bellSource (s.prof d.slot.1) k slot = some u →
      d.st ≠ 0 →
      leAt f 0 1 % 16 = 0 →
      leAt f 1 1 = 0xE0 + u →
      openMpdu d.nwkKey (nwkNonce (d.sfn k) slot d.slot.1 ivData true (0xE0 + u)) f = some p →
      b = p.drop (if bitOf (leAt f 0 1) 4 then 6 else 5) →
      parseItems b.length (b.drop 55) = none →
      Does (.memberBellwetherReceive m k slot t0 f) s (fun t =>
        t.memDev m = { d with malformed := d.malformed + 1 } ∧
        RegsBut [] s t ∧
        t = { s with regs := t.regs, memDevs := t.memDevs } ∧
        (∀ x : Nat, x ≠ m → t.memDev x = s.memDev x))) ∧
    (∀ (s : State) (m : Nat) (d : MemDev) (k slot u t0 : Nat) (f p b : List Nat) (items : List (Nat × List Nat)),
      s.stopSafe = true →
      s.memDev m = d →
      bellSource (s.prof d.slot.1) k slot = some u →
      d.st ≠ 0 →
      leAt f 0 1 % 16 = 0 →
      leAt f 1 1 = 0xE0 + u →
      openMpdu d.nwkKey (nwkNonce (d.sfn k) slot d.slot.1 ivData true (0xE0 + u)) f = some p →
      b = p.drop (if bitOf (leAt f 0 1) 4 then 6 else 5) →
      parseItems b.length (b.drop 55) = some items →
      bellOk (s.prof d.slot.1) b items = false →
      Does (.memberBellwetherReceive m k slot t0 f) s (fun t =>
        t.memDev m = { d with malformed := d.malformed + 1 } ∧
        RegsBut [] s t ∧
        t = { s with regs := t.regs, memDevs := t.memDevs } ∧
        (∀ x : Nat, x ≠ m → t.memDev x = s.memDev x))) ∧
    (∀ (s : State) (m : Nat) (d : MemDev) (k slot t0 : Nat) (f : List Nat),
      s.stopSafe = true →
      s.memDev m = d →
      bellSource (s.prof d.slot.1) k slot = none ∨ d.st = 0 →
      Does (.memberBellwetherReceive m k slot t0 f) s (fun t =>
        t = s)) ∧
    (∀ (s : State) (m : Nat) (d : MemDev) (k slot u t0 : Nat) (f : List Nat),
      s.stopSafe = true →
      s.memDev m = d →
      bellSource (s.prof d.slot.1) k slot = some u →
      leAt f 0 1 % 16 = 0 →
      leAt f 1 1 = 0xE0 + u →
      openMpdu d.nwkKey (nwkNonce (d.sfn k) slot d.slot.1 ivData true (0xE0 + u)) f = none →
      Does (.memberBellwetherReceive m k slot t0 f) s (fun t =>
        t = s)) ∧
    (∀ (s : State) (m : Nat) (d : MemDev) (src t0 : Nat) (e : MemDev),
      s.stopSafe = true →
      s.memDev m = d →
      src ≤ 1 →
      (d.claim src).isSome = true →
      (if src = 0 then d.at0 else d.at1) + (if s.prof d.slot.1 = 0 then 3000000 else 30000000) ≤ t0 →
      e = (if src = 0 then { d with claim0 := none } else { d with claim1 := none }) →
      Does (.memberClaimLapse m src t0) s (fun t =>
        t.memDev m = { e with stateDue := (d.stateDue || (e.topClaim != d.topClaim && e.topClaim.isSome)) } ∧
        RegsBut [] s t ∧
        t = { s with regs := t.regs, memDevs := t.memDevs } ∧
        (∀ x : Nat, x ≠ m → t.memDev x = s.memDev x))) ∧
    (∀ (s : State) (m : Nat) (d : MemDev) (src t0 : Nat),
      s.stopSafe = true →
      s.memDev m = d →
      1 < src ∨ d.claim src = none ∨ t0 < (if src = 0 then d.at0 else d.at1) + (if s.prof d.slot.1 = 0 then 3000000 else 30000000) →
      Does (.memberClaimLapse m src t0) s (fun t =>
        t = s)) ∧
    (∀ (s : State) (m : Nat) (d : MemDev) (t0 : Nat),
      s.stopSafe = true →
      s.memDev m = d →
      d.st = 2 →
      2000 * 10000000 ≤ 40 * 10000000 + 2 * leAt d.caps 12 1 * (t0 - d.bellAt) →
      Does (.memberGuardCap m t0) s (fun t =>
        t.memDev m = { d with st := 3 } ∧
        RegsBut [] s t ∧
        t = { s with regs := t.regs, memDevs := t.memDevs } ∧
        (∀ x : Nat, x ≠ m → t.memDev x = s.memDev x))) ∧
    (∀ (s : State) (m : Nat) (d : MemDev) (t0 : Nat),
      s.stopSafe = true →
      s.memDev m = d →
      d.st ≠ 2 ∨ 40 * 10000000 + 2 * leAt d.caps 12 1 * (t0 - d.bellAt) < 2000 * 10000000 →
      Does (.memberGuardCap m t0) s (fun t =>
        t = s)) ∧
    (∀ (s : State) (m : Nat) (d : MemDev) (t0 : Nat),
      s.stopSafe = true →
      s.memDev m = d →
      2 ≤ d.st →
      d.stopped = false →
      d.clearAt + (if s.prof d.slot.1 = 0 then 305000 else 3020000) ≤ t0 →
      Does (.memberBeaconTimeout m t0) s (fun t =>
        t.memDev m = { d with stopped := true, win := none } ∧
        RegsBut [] s t ∧
        t = { s with regs := t.regs, memDevs := t.memDevs } ∧
        (∀ x : Nat, x ≠ m → t.memDev x = s.memDev x))) ∧
    (∀ (s : State) (m : Nat) (d : MemDev) (t0 : Nat),
      s.stopSafe = true →
      s.memDev m = d →
      d.st < 2 ∨ d.stopped = true ∨ t0 < d.clearAt + (if s.prof d.slot.1 = 0 then 305000 else 3020000) →
      Does (.memberBeaconTimeout m t0) s (fun t =>
        t = s)) ∧
    (∀ (s : State) (m : Nat) (d : MemDev) (k ver tg : Nat),
      s.stopSafe = true →
      s.memDev m = d →
      d.hopAnn = some (ver, tg) →
      tg ≤ d.sfn k →
      (∀ x ∈ d.part0, x.ver ≠ ver) ∨ (∀ x ∈ d.part1, x.ver ≠ ver) →
      Does (.memberHopTargetMissed m k) s (fun t =>
        t.memDev m = MemDev.leave (d) ∧
        (t.memDev m).st = 0 ∧
        RegsBut [] s t ∧
        t = { s with regs := t.regs, memDevs := t.memDevs } ∧
        (∀ x : Nat, x ≠ m → t.memDev x = s.memDev x))) ∧
    (∀ (s : State) (m : Nat) (d : MemDev) (k ver tg : Nat) (hp hq : MemHopPart),
      s.stopSafe = true →
      s.memDev m = d →
      d.hopAnn = some (ver, tg) →
      d.sfn k < tg ∨ (d.part0 = some hp ∧ d.part1 = some hq ∧ hp.ver = ver ∧ hq.ver = ver) →
      Does (.memberHopTargetMissed m k) s (fun t =>
        t = s)) ∧
    (∀ (s : State) (m : Nat) (d : MemDev) (k : Nat),
      s.stopSafe = true →
      s.memDev m = d →
      d.hopAnn = none →
      Does (.memberHopTargetMissed m k) s (fun t =>
        t = s)) ∧
    (∀ (s : State) (m : Nat) (d : MemDev) (t0 : Nat),
      s.stopSafe = true →
      s.memDev m = d →
      2 ≤ d.st →
      d.stopAt + 3000000 ≤ t0 →
      Does (.memberSseqResync m t0) s (fun t =>
        t.memDev m = { d with resync := true } ∧
        RegsBut [] s t ∧
        t = { s with regs := t.regs, memDevs := t.memDevs } ∧
        (∀ x : Nat, x ≠ m → t.memDev x = s.memDev x))) ∧
    (∀ (s : State) (m : Nat) (d : MemDev) (t0 : Nat),
      s.stopSafe = true →
      s.memDev m = d →
      d.st < 2 ∨ t0 < d.stopAt + 3000000 →
      Does (.memberSseqResync m t0) s (fun t =>
        t = s))

/-- A running order that ends is reported and becomes the last task done; the held order starts in its place where it may,
stays, or is discarded unstarted with its report when START_BY has come. A window used up is followed no more. A stop-
window frame that opens: a reserved CMD or TARGET is counted malformed; otherwise the time of the frame is taken, and
if it is for the member a STOP stops it and discards its window, a HOLD ahead of the last SSEQ acted on holds it (a
STOPPED member notes the SSEQ alone), a RESUME ahead, with STOP_CLEAR of the higher source, ends STOPPED and HOLDING,
and one not ahead does nothing more. A dock change is counted and reported with its time, and with HOME in the window
a closing contact brings the member to rest. A valid digest: claim and time of its source; from the higher source an
ACK in the superframe of its last sending ends the frame in flight, a window for its address in a sealed slot is
followed unless it is STOPPED or HOLDING, the record of its address in a SOL is kept, a fresh command is taken up with
its DSEQ and any other discarded; several items, hop settings and held orders follow in order as the operations say.
In its slot, with GNSS time or within 15 us of drift, the member sends its uplink under the network key with DACK, its
state and its items, where its accounts allow; otherwise nothing is sent. No other member changes. (Rests on: R16,
R29, R391, R396, R415, R418, R422, R423, R424, R425, R427, R441, R467, R468, R481, R491, R493, R503, R504, R534.) -/
def Obligations.MembersWorkStopAndReport : Prop :=
    (∀ (s : State) (m : Nat) (d : MemDev) (k ev res dat : Nat) (r : MemOrder),
      s.stopSafe = true →
      s.memDev m = d →
      ev = 2 ∨ ev = 3 →
      d.running = some r →
      d.held = none →
      Does (.memberOrderEnd m k ev res dat) s (fun t =>
        t.memDev m = { d with running := none, doneA := r.task, doneB := d.doneA, reports := d.reports ++ [([0x24, 25, 3, ev, res % 256] : List Nat) ++ leBytes 4 r.task ++ leBytes 4 0 ++ leBytes 4 0 ++ leBytes 4 0 ++ leBytes 4 dat ++ [0, 0]] } ∧
        RegsBut [] s t ∧
        t = { s with regs := t.regs, memDevs := t.memDevs } ∧
        (∀ x : Nat, x ≠ m → t.memDev x = s.memDev x))) ∧
    (∀ (s : State) (m : Nat) (d : MemDev) (k ev res dat : Nat) (r : MemOrder) (h : MemOrder),
      s.stopSafe = true →
      s.memDev m = d →
      ev = 2 ∨ ev = 3 →
      d.running = some r →
      d.held = some h →
      d.sfn k < h.startBy ∧ d.stopped = false ∧ d.holding = false →
      Does (.memberOrderEnd m k ev res dat) s (fun t =>
        t.memDev m = { d with running := some h, held := none, doneA := r.task, doneB := d.doneA, reports := d.reports ++ [([0x24, 25, 3, ev, res % 256] : List Nat) ++ leBytes 4 r.task ++ leBytes 4 h.task ++ leBytes 4 0 ++ leBytes 4 0 ++ leBytes 4 dat ++ [0, 0]] } ∧
        RegsBut [] s t ∧
        t = { s with regs := t.regs, memDevs := t.memDevs } ∧
        (∀ x : Nat, x ≠ m → t.memDev x = s.memDev x))) ∧
    (∀ (s : State) (m : Nat) (d : MemDev) (k ev res dat : Nat) (r : MemOrder) (h : MemOrder),
      s.stopSafe = true →
      s.memDev m = d →
      ev = 2 ∨ ev = 3 →
      d.running = some r →
      d.held = some h →
      d.sfn k < h.startBy →
      d.stopped = true ∨ d.holding = true →
      Does (.memberOrderEnd m k ev res dat) s (fun t =>
        t.memDev m = { d with running := none, doneA := r.task, doneB := d.doneA, reports := d.reports ++ [([0x24, 25, 3, ev, res % 256] : List Nat) ++ leBytes 4 r.task ++ leBytes 4 0 ++ leBytes 4 0 ++ leBytes 4 0 ++ leBytes 4 dat ++ [0, 0]] } ∧
        RegsBut [] s t ∧
        t = { s with regs := t.regs, memDevs := t.memDevs } ∧
        (∀ x : Nat, x ≠ m → t.memDev x = s.memDev x))) ∧
    (∀ (s : State) (m : Nat) (d : MemDev) (k ev res dat : Nat) (r : MemOrder) (h : MemOrder),
      s.stopSafe = true →
      s.memDev m = d →
      ev = 2 ∨ ev = 3 →
      d.running = some r →
      d.held = some h →
      h.startBy ≤ d.sfn k →
      Does (.memberOrderEnd m k ev res dat) s (fun t =>
        t.memDev m = { d with running := none, held := none, doneA := r.task, doneB := d.doneA, reports := d.reports ++ [([0x24, 25, 3, ev, res % 256] : List Nat) ++ leBytes 4 r.task ++ leBytes 4 0 ++ leBytes 4 0 ++ leBytes 4 0 ++ leBytes 4 dat ++ [0, 0]] ++ [([0x24, 25, 3, 6, 0] : List Nat) ++ leBytes 4 h.task ++ leBytes 4 0 ++ leBytes 4 0 ++ leBytes 4 0 ++ leBytes 4 0 ++ [0, 0]] } ∧
        RegsBut [] s t ∧
        t = { s with regs := t.regs, memDevs := t.memDevs } ∧
        (∀ x : Nat, x ≠ m → t.memDev x = s.memDev x))) ∧
    (∀ (s : State) (m : Nat) (d : MemDev) (k ev res dat : Nat),
      s.stopSafe = true →
      s.memDev m = d →
      (ev ≠ 2 ∧ ev ≠ 3) ∨ d.running = none →
      Does (.memberOrderEnd m k ev res dat) s (fun t =>
        t = s)) ∧
    (∀ (s : State) (m : Nat) (d : MemDev) (t0 : Nat) (w : MemWindow),
      s.stopSafe = true →
      s.memDev m = d →
      d.win = some w →
      w.base + 1000000 ≤ t0 →
      Does (.memberWindowExhausted m t0) s (fun t =>
        t.memDev m = { d with win := none } ∧
        RegsBut [] s t ∧
        t = { s with regs := t.regs, memDevs := t.memDevs } ∧
        (∀ x : Nat, x ≠ m → t.memDev x = s.memDev x))) ∧
    (∀ (s : State) (m : Nat) (d : MemDev) (t0 : Nat),
      s.stopSafe = true →
      s.memDev m = d →
      d.win = none ∨ (d.win.any (fun (w : MemWindow) => decide (t0 < w.base + 1000000))) = true →
      Does (.memberWindowExhausted m t0) s (fun t =>
        t = s)) ∧
    (∀ (s : State) (m : Nat) (d : MemDev) (k slot iv t0 : Nat) (f : List Nat),
      s.stopSafe = true →
      s.memDev m = d →
      2 ≤ d.st →
      iv < 2 →
      f.length = 11 →
      ccmMic d.nwkKey (nwkNonce (d.sfn k) slot d.slot.1 iv true (0xE0 + iv)) (f.take 3) [] = f.drop 3 →
      isDst (leAt f 2 1) = true →
      d.accepts (leAt f 2 1) = true →
      leAt f 0 1 % 16 = 1 →
      Does (.memberStopFrameReceive m k slot iv t0 f) s (fun t =>
        t.memDev m = { d with stopAt := t0, resync := false, stopped := true, win := none } ∧
        RegsBut [] s t ∧
        t = { s with regs := t.regs, memDevs := t.memDevs } ∧
        (∀ x : Nat, x ≠ m → t.memDev x = s.memDev x))) ∧
    (∀ (s : State) (m : Nat) (d : MemDev) (k slot iv t0 : Nat) (f : List Nat),
      s.stopSafe = true →
      s.memDev m = d →
      2 ≤ d.st →
      iv < 2 →
      f.length = 11 →
      ccmMic d.nwkKey (nwkNonce (d.sfn k) slot d.slot.1 iv true (0xE0 + iv)) (f.take 3) [] = f.drop 3 →
      isDst (leAt f 2 1) = true →
      d.accepts (leAt f 2 1) = true →
      leAt f 0 1 % 16 = 2 →
      d.ahead (leAt f 1 1) = true →
      d.stopped = false →
      Does (.memberStopFrameReceive m k slot iv t0 f) s (fun t =>
        t.memDev m = { d with stopAt := t0, resync := false, win := none, holding := true, acted := some (leAt f 1 1) } ∧
        RegsBut [] s t ∧
        t = { s with regs := t.regs, memDevs := t.memDevs } ∧
        (∀ x : Nat, x ≠ m → t.memDev x = s.memDev x))) ∧
    (∀ (s : State) (m : Nat) (d : MemDev) (k slot iv t0 : Nat) (f : List Nat),
      s.stopSafe = true →
      s.memDev m = d →
      2 ≤ d.st →
      iv < 2 →
      f.length = 11 →
      ccmMic d.nwkKey (nwkNonce (d.sfn k) slot d.slot.1 iv true (0xE0 + iv)) (f.take 3) [] = f.drop 3 →
      isDst (leAt f 2 1) = true →
      d.accepts (leAt f 2 1) = true →
      leAt f 0 1 % 16 = 2 →
      d.ahead (leAt f 1 1) = true →
      d.stopped = true →
      Does (.memberStopFrameReceive m k slot iv t0 f) s (fun t =>
        t.memDev m = { d with stopAt := t0, resync := false, acted := some (leAt f 1 1) } ∧
        RegsBut [] s t ∧
        t = { s with regs := t.regs, memDevs := t.memDevs } ∧
        (∀ x : Nat, x ≠ m → t.memDev x = s.memDev x))) ∧
    (∀ (s : State) (m : Nat) (d : MemDev) (k slot iv t0 : Nat) (f : List Nat),
      s.stopSafe = true →
      s.memDev m = d →
      2 ≤ d.st →
      iv < 2 →
      f.length = 11 →
      ccmMic d.nwkKey (nwkNonce (d.sfn k) slot d.slot.1 iv true (0xE0 + iv)) (f.take 3) [] = f.drop 3 →
      isDst (leAt f 2 1) = true →
      d.accepts (leAt f 2 1) = true →
      leAt f 0 1 % 16 = 3 →
      d.ahead (leAt f 1 1) = true →
      d.topClear = true →
      Does (.memberStopFrameReceive m k slot iv t0 f) s (fun t =>
        t.memDev m = { d with stopAt := t0, resync := false, stopped := false, holding := false, acted := some (leAt f 1 1) } ∧
        RegsBut [] s t ∧
        t = { s with regs := t.regs, memDevs := t.memDevs } ∧
        (∀ x : Nat, x ≠ m → t.memDev x = s.memDev x))) ∧
    (∀ (s : State) (m : Nat) (d : MemDev) (k slot iv t0 : Nat) (f : List Nat),
      s.stopSafe = true →
      s.memDev m = d →
      2 ≤ d.st →
      iv < 2 →
      f.length = 11 →
      ccmMic d.nwkKey (nwkNonce (d.sfn k) slot d.slot.1 iv true (0xE0 + iv)) (f.take 3) [] = f.drop 3 →
      isDst (leAt f 2 1) = true →
      d.accepts (leAt f 2 1) = true →
      (leAt f 0 1 % 16 = 2 ∧ d.ahead (leAt f 1 1) = false) ∨ (leAt f 0 1 % 16 = 3 ∧ (d.ahead (leAt f 1 1) = false ∨ d.topClear = false)) →
      Does (.memberStopFrameReceive m k slot iv t0 f) s (fun t =>
        t.memDev m = { d with stopAt := t0, resync := false } ∧
        RegsBut [] s t ∧
        t = { s with regs := t.regs, memDevs := t.memDevs } ∧
        (∀ x : Nat, x ≠ m → t.memDev x = s.memDev x))) ∧
    (∀ (s : State) (m : Nat) (d : MemDev) (k slot iv t0 : Nat) (f : List Nat),
      s.stopSafe = true →
      s.memDev m = d →
      2 ≤ d.st →
      iv < 2 →
      f.length = 11 →
      ccmMic d.nwkKey (nwkNonce (d.sfn k) slot d.slot.1 iv true (0xE0 + iv)) (f.take 3) [] = f.drop 3 →
      1 ≤ leAt f 0 1 % 16 ∧ leAt f 0 1 % 16 ≤ 3 →
      isDst (leAt f 2 1) = true →
      d.accepts (leAt f 2 1) = false →
      Does (.memberStopFrameReceive m k slot iv t0 f) s (fun t =>
        t.memDev m = { d with stopAt := t0, resync := false } ∧
        RegsBut [] s t ∧
        t = { s with regs := t.regs, memDevs := t.memDevs } ∧
        (∀ x : Nat, x ≠ m → t.memDev x = s.memDev x))) ∧
    (∀ (s : State) (m : Nat) (d : MemDev) (k slot iv t0 : Nat) (f : List Nat),
      s.stopSafe = true →
      s.memDev m = d →
      2 ≤ d.st →
      iv < 2 →
      f.length = 11 →
      ccmMic d.nwkKey (nwkNonce (d.sfn k) slot d.slot.1 iv true (0xE0 + iv)) (f.take 3) [] = f.drop 3 →
      leAt f 0 1 % 16 = 0 ∨ 3 < leAt f 0 1 % 16 ∨ isDst (leAt f 2 1) = false →
      Does (.memberStopFrameReceive m k slot iv t0 f) s (fun t =>
        t.memDev m = { d with malformed := d.malformed + 1 } ∧
        RegsBut [] s t ∧
        t = { s with regs := t.regs, memDevs := t.memDevs } ∧
        (∀ x : Nat, x ≠ m → t.memDev x = s.memDev x))) ∧
    (∀ (s : State) (m : Nat) (d : MemDev) (k slot iv t0 : Nat) (f : List Nat),
      s.stopSafe = true →
      s.memDev m = d →
      d.st < 2 ∨ 2 ≤ iv ∨ f.length ≠ 11 ∨ ccmMic d.nwkKey (nwkNonce (d.sfn k) slot d.slot.1 iv true (0xE0 + iv)) (f.take 3) [] ≠ f.drop 3 →
      Does (.memberStopFrameReceive m k slot iv t0 f) s (fun t =>
        t = s)) ∧
    (∀ (s : State) (m : Nat) (d : MemDev) (c : Bool) (ms : Nat),
      s.stopSafe = true →
      s.memDev m = d →
      c ≠ d.dock →
      Does (.memberDockConfirm m c ms) s (fun t =>
        t.memDev m = { d with dock := c, dockCount := (d.dockCount + 1) % 256, win := (if c = true ∧ d.win.any (fun (w : MemWindow) => w.home) = true then none else d.win), reports := d.reports ++ [([0x24, 9, 4, b2n c, (d.dockCount + 1) % 256] : List Nat) ++ leBytes 4 ms ++ [0, 0]] } ∧
        RegsBut [] s t ∧
        t = { s with regs := t.regs, memDevs := t.memDevs } ∧
        (∀ x : Nat, x ≠ m → t.memDev x = s.memDev x))) ∧
    (∀ (s : State) (m : Nat) (d : MemDev) (c : Bool) (ms : Nat),
      s.stopSafe = true →
      s.memDev m = d →
      c = d.dock →
      Does (.memberDockConfirm m c ms) s (fun t =>
        t = s)) ∧
    (∀ (s : State) (m : Nat) (d : MemDev) (k slot cut u t0 : Nat) (f p b : List Nat) (items : List (Nat × List Nat)) (e : MemDev),
      s.stopSafe = true →
      s.memDev m = d →
      slotCut (s.prof d.slot.1) (if s.prof d.slot.1 = 0 then slot else 10 * (k % 10) + slot) = some cut →
      2 ≤ d.st →
      leAt f 0 1 % 16 = 1 →
      leAt f 1 1 = 0xE0 + u →
      u < 2 →
      openMpdu d.nwkKey (nwkNonce (d.sfn k) slot d.slot.1 ivData true (0xE0 + u)) f = some p →
      b = p.drop (if bitOf (leAt f 0 1) 4 then 6 else 5) →
      parseItems b.length (b.drop 5) = some items →
      leAt b 4 1 = cut →
      items.all (downItemOk (s.prof d.slot.1) cut) = true →
      e = { d with claim0 := (if u = 0 then some (leAt b 0 4) else d.claim0), at0 := (if u = 0 then t0 else d.at0), claim1 := (if u = 0 then d.claim1 else some (leAt b 0 4)), at1 := (if u = 0 then d.at1 else t0), dseq := (if d.claim u = some (leAt b 0 4) then d.dseq else d.dseq.filter (fun (x : (Nat × Nat) × Nat) => x.1.1 != u)), stateDue := (d.stateDue || (if u = 0 then { d with claim0 := some (leAt b 0 4) } else { d with claim1 := some (leAt b 0 4) } : MemDev).topClaim != d.topClaim) } →
      e.higher ≠ some u →
      d.part0 = none →
      d.held = none →
      Does (.memberDigestReceive m k slot t0 f) s (fun t =>
        t.memDev m = e ∧
        RegsBut [] s t ∧
        t = { s with regs := t.regs, memDevs := t.memDevs } ∧
        (∀ x : Nat, x ≠ m → t.memDev x = s.memDev x))) ∧
    (∀ (s : State) (m : Nat) (d : MemDev) (k slot cut u t0 : Nat) (f p b : List Nat) (items : List (Nat × List Nat)) (e : MemDev) (c : List Nat) (fl : Nat × List (List Nat) × Nat),
      s.stopSafe = true →
      s.memDev m = d →
      slotCut (s.prof d.slot.1) (if s.prof d.slot.1 = 0 then slot else 10 * (k % 10) + slot) = some cut →
      2 ≤ d.st →
      leAt f 0 1 % 16 = 1 →
      leAt f 1 1 = 0xE0 + u →
      u < 2 →
      openMpdu d.nwkKey (nwkNonce (d.sfn k) slot d.slot.1 ivData true (0xE0 + u)) f = some p →
      b = p.drop (if bitOf (leAt f 0 1) 4 then 6 else 5) →
      parseItems b.length (b.drop 5) = some items →
      leAt b 4 1 = cut →
      items.all (downItemOk (s.prof d.slot.1) cut) = true →
      e = { d with claim0 := (if u = 0 then some (leAt b 0 4) else d.claim0), at0 := (if u = 0 then t0 else d.at0), claim1 := (if u = 0 then d.claim1 else some (leAt b 0 4)), at1 := (if u = 0 then d.at1 else t0), dseq := (if d.claim u = some (leAt b 0 4) then d.dseq else d.dseq.filter (fun (x : (Nat × Nat) × Nat) => x.1.1 != u)), stateDue := (d.stateDue || (if u = 0 then { d with claim0 := some (leAt b 0 4) } else { d with claim1 := some (leAt b 0 4) } : MemDev).topClaim != d.topClaim) } →
      e.higher = some u →
      items = [(1, c)] →
      d.flight = some fl →
      (if s.prof d.slot.1 = 0 then fl.2.2 = k else fl.2.2 / 10 = k / 10) →
      (if s.prof d.slot.1 = 0 then bitOf (leAt c 0 5) (d.slot.2 - 3) else bitOf (leAt c 0 1) (groupSlot 1 d.slot.2 / 3 - 1)) = true →
      d.part0 = none →
      d.held = none →
      Does (.memberDigestReceive m k slot t0 f) s (fun t =>
        t.memDev m = { e with flight := none } ∧
        RegsBut [] s t ∧
        t = { s with regs := t.regs, memDevs := t.memDevs } ∧
        (∀ x : Nat, x ≠ m → t.memDev x = s.memDev x))) ∧
    (∀ (s : State) (m : Nat) (d : MemDev) (k slot cut u t0 : Nat) (f p b : List Nat) (items : List (Nat × List Nat)) (e : MemDev) (c : List Nat) (w : Nat × List Nat),
      s.stopSafe = true →
      s.memDev m = d →
      slotCut (s.prof d.slot.1) (if s.prof d.slot.1 = 0 then slot else 10 * (k % 10) + slot) = some cut →
      2 ≤ d.st →
      leAt f 0 1 % 16 = 1 →
      leAt f 1 1 = 0xE0 + u →
      u < 2 →
      openMpdu d.nwkKey (nwkNonce (d.sfn k) slot d.slot.1 ivData true (0xE0 + u)) f = some p →
      b = p.drop (if bitOf (leAt f 0 1) 4 then 6 else 5) →
      parseItems b.length (b.drop 5) = some items →
      leAt b 4 1 = cut →
      items.all (downItemOk (s.prof d.slot.1) cut) = true →
      e = { d with claim0 := (if u = 0 then some (leAt b 0 4) else d.claim0), at0 := (if u = 0 then t0 else d.at0), claim1 := (if u = 0 then d.claim1 else some (leAt b 0 4)), at1 := (if u = 0 then d.at1 else t0), dseq := (if d.claim u = some (leAt b 0 4) then d.dseq else d.dseq.filter (fun (x : (Nat × Nat) × Nat) => x.1.1 != u)), stateDue := (d.stateDue || (if u = 0 then { d with claim0 := some (leAt b 0 4) } else { d with claim1 := some (leAt b 0 4) } : MemDev).topClaim != d.topClaim) } →
      e.higher = some u →
      items = [(3, c)] →
      ((parseWins c.length c).getD []).find? (fun (y : Nat × List Nat) => y.1 == d.addr) = some w →
      d.stopped = false →
      d.holding = false →
      (d.trk (leAt w.2 1 1 % 2)).closed = true →
      d.part0 = none →
      d.held = none →
      Does (.memberDigestReceive m k slot t0 f) s (fun t =>
        t.memDev m = { e with win := some { base := (if s.prof d.slot.1 = 0 then k else k - 1) * 100000, pts := winPoints (winQuantum (leAt w.2 0 1)) (sgn 32 (leAt w.2 2 4)) ((w.2.drop 6).take 9), slot := leAt w.2 1 1 % 2, ended := bitOf (leAt w.2 0 1) 2, home := bitOf (leAt w.2 0 1) 3, hold := bitOf (leAt w.2 0 1) 4 } } ∧
        RegsBut [] s t ∧
        t = { s with regs := t.regs, memDevs := t.memDevs } ∧
        (∀ x : Nat, x ≠ m → t.memDev x = s.memDev x))) ∧
    (∀ (s : State) (m : Nat) (d : MemDev) (k slot cut u t0 : Nat) (f p b : List Nat) (items : List (Nat × List Nat)) (e : MemDev) (c : List Nat) (w : Nat × List Nat),
      s.stopSafe = true →
      s.memDev m = d →
      slotCut (s.prof d.slot.1) (if s.prof d.slot.1 = 0 then slot else 10 * (k % 10) + slot) = some cut →
      2 ≤ d.st →
      leAt f 0 1 % 16 = 1 →
      leAt f 1 1 = 0xE0 + u →
      u < 2 →
      openMpdu d.nwkKey (nwkNonce (d.sfn k) slot d.slot.1 ivData true (0xE0 + u)) f = some p →
      b = p.drop (if bitOf (leAt f 0 1) 4 then 6 else 5) →
      parseItems b.length (b.drop 5) = some items →
      leAt b 4 1 = cut →
      items.all (downItemOk (s.prof d.slot.1) cut) = true →
      e = { d with claim0 := (if u = 0 then some (leAt b 0 4) else d.claim0), at0 := (if u = 0 then t0 else d.at0), claim1 := (if u = 0 then d.claim1 else some (leAt b 0 4)), at1 := (if u = 0 then d.at1 else t0), dseq := (if d.claim u = some (leAt b 0 4) then d.dseq else d.dseq.filter (fun (x : (Nat × Nat) × Nat) => x.1.1 != u)), stateDue := (d.stateDue || (if u = 0 then { d with claim0 := some (leAt b 0 4) } else { d with claim1 := some (leAt b 0 4) } : MemDev).topClaim != d.topClaim) } →
      e.higher = some u →
      items = [(3, c)] →
      ((parseWins c.length c).getD []).find? (fun (y : Nat × List Nat) => y.1 == d.addr) = some w →
      d.stopped = true ∨ d.holding = true ∨ (d.trk (leAt w.2 1 1 % 2)).closed = false →
      d.part0 = none →
      d.held = none →
      Does (.memberDigestReceive m k slot t0 f) s (fun t =>
        t.memDev m = e ∧
        RegsBut [] s t ∧
        t = { s with regs := t.regs, memDevs := t.memDevs } ∧
        (∀ x : Nat, x ≠ m → t.memDev x = s.memDev x))) ∧
    (∀ (s : State) (m : Nat) (d : MemDev) (k slot cut u t0 : Nat) (f p b : List Nat) (items : List (Nat × List Nat)) (e : MemDev) (c w : List Nat),
      s.stopSafe = true →
      s.memDev m = d →
      slotCut (s.prof d.slot.1) (if s.prof d.slot.1 = 0 then slot else 10 * (k % 10) + slot) = some cut →
      2 ≤ d.st →
      leAt f 0 1 % 16 = 1 →
      leAt f 1 1 = 0xE0 + u →
      u < 2 →
      openMpdu d.nwkKey (nwkNonce (d.sfn k) slot d.slot.1 ivData true (0xE0 + u)) f = some p →
      b = p.drop (if bitOf (leAt f 0 1) 4 then 6 else 5) →
      parseItems b.length (b.drop 5) = some items →
      leAt b 4 1 = cut →
      items.all (downItemOk (s.prof d.slot.1) cut) = true →
      e = { d with claim0 := (if u = 0 then some (leAt b 0 4) else d.claim0), at0 := (if u = 0 then t0 else d.at0), claim1 := (if u = 0 then d.claim1 else some (leAt b 0 4)), at1 := (if u = 0 then d.at1 else t0), dseq := (if d.claim u = some (leAt b 0 4) then d.dseq else d.dseq.filter (fun (x : (Nat × Nat) × Nat) => x.1.1 != u)), stateDue := (d.stateDue || (if u = 0 then { d with claim0 := some (leAt b 0 4) } else { d with claim1 := some (leAt b 0 4) } : MemDev).topClaim != d.topClaim) } →
      e.higher = some u →
      items = [(2, c)] →
      ((List.range (c.length / 12)).map (fun j => (c.drop (12 * j)).take 12)).find? (fun y => leAt y 0 1 == d.addr) = some w →
      d.part0 = none →
      d.held = none →
      Does (.memberDigestReceive m k slot t0 f) s (fun t =>
        t.memDev m = { e with sol := w } ∧
        RegsBut [] s t ∧
        t = { s with regs := t.regs, memDevs := t.memDevs } ∧
        (∀ x : Nat, x ≠ m → t.memDev x = s.memDev x))) ∧
    (∀ (s : State) (m : Nat) (d : MemDev) (k slot cut u t0 : Nat) (f p b : List Nat) (items : List (Nat × List Nat)) (e : MemDev) (c : List Nat),
      s.stopSafe = true →
      s.memDev m = d →
      slotCut (s.prof d.slot.1) (if s.prof d.slot.1 = 0 then slot else 10 * (k % 10) + slot) = some cut →
      2 ≤ d.st →
      leAt f 0 1 % 16 = 1 →
      leAt f 1 1 = 0xE0 + u →
      u < 2 →
      openMpdu d.nwkKey (nwkNonce (d.sfn k) slot d.slot.1 ivData true (0xE0 + u)) f = some p →
      b = p.drop (if bitOf (leAt f 0 1) 4 then 6 else 5) →
      parseItems b.length (b.drop 5) = some items →
      leAt b 4 1 = cut →
      items.all (downItemOk (s.prof d.slot.1) cut) = true →
      e = { d with claim0 := (if u = 0 then some (leAt b 0 4) else d.claim0), at0 := (if u = 0 then t0 else d.at0), claim1 := (if u = 0 then d.claim1 else some (leAt b 0 4)), at1 := (if u = 0 then d.at1 else t0), dseq := (if d.claim u = some (leAt b 0 4) then d.dseq else d.dseq.filter (fun (x : (Nat × Nat) × Nat) => x.1.1 != u)), stateDue := (d.stateDue || (if u = 0 then { d with claim0 := some (leAt b 0 4) } else { d with claim1 := some (leAt b 0 4) } : MemDev).topClaim != d.topClaim) } →
      e.higher = some u →
      items = [(4, c)] →
      leAt c 0 1 = d.addr →
      d.accepts d.addr = true →
      e.fresh u d.addr (leAt c 1 2) = true →
      leAt c 3 1 = 2 →
      d.part0 = none →
      d.held = none →
      Does (.memberDigestReceive m k slot t0 f) s (fun t =>
        t.memDev m = { e with dseq := e.dseq.filter (fun (y : (Nat × Nat) × Nat) => y.1 != (u, d.addr)) ++ [((u, d.addr), leAt c 1 2)], flocks := leAt c 4 2 } ∧
        RegsBut [] s t ∧
        t = { s with regs := t.regs, memDevs := t.memDevs } ∧
        (∀ x : Nat, x ≠ m → t.memDev x = s.memDev x))) ∧
    (∀ (s : State) (m : Nat) (d : MemDev) (k slot cut u t0 : Nat) (f p b : List Nat) (items : List (Nat × List Nat)) (e : MemDev) (c : List Nat),
      s.stopSafe = true →
      s.memDev m = d →
      slotCut (s.prof d.slot.1) (if s.prof d.slot.1 = 0 then slot else 10 * (k % 10) + slot) = some cut →
      2 ≤ d.st →
      leAt f 0 1 % 16 = 1 →
      leAt f 1 1 = 0xE0 + u →
      u < 2 →
      openMpdu d.nwkKey (nwkNonce (d.sfn k) slot d.slot.1 ivData true (0xE0 + u)) f = some p →
      b = p.drop (if bitOf (leAt f 0 1) 4 then 6 else 5) →
      parseItems b.length (b.drop 5) = some items →
      leAt b 4 1 = cut →
      items.all (downItemOk (s.prof d.slot.1) cut) = true →
      e = { d with claim0 := (if u = 0 then some (leAt b 0 4) else d.claim0), at0 := (if u = 0 then t0 else d.at0), claim1 := (if u = 0 then d.claim1 else some (leAt b 0 4)), at1 := (if u = 0 then d.at1 else t0), dseq := (if d.claim u = some (leAt b 0 4) then d.dseq else d.dseq.filter (fun (x : (Nat × Nat) × Nat) => x.1.1 != u)), stateDue := (d.stateDue || (if u = 0 then { d with claim0 := some (leAt b 0 4) } else { d with claim1 := some (leAt b 0 4) } : MemDev).topClaim != d.topClaim) } →
      e.higher = some u →
      items = [(4, c)] →
      e.accepts (leAt c 0 1) = false ∨ e.fresh u (leAt c 0 1) (leAt c 1 2) = false →
      d.part0 = none →
      d.held = none →
      Does (.memberDigestReceive m k slot t0 f) s (fun t =>
        t.memDev m = e ∧
        RegsBut [] s t ∧
        t = { s with regs := t.regs, memDevs := t.memDevs } ∧
        (∀ x : Nat, x ≠ m → t.memDev x = s.memDev x))) ∧
    (∀ (s : State) (m : Nat) (d : MemDev) (k slot cut u t0 : Nat) (f p b : List Nat) (items : List (Nat × List Nat)) (e : MemDev),
      s.stopSafe = true →
      s.memDev m = d →
      slotCut (s.prof d.slot.1) (if s.prof d.slot.1 = 0 then slot else 10 * (k % 10) + slot) = some cut →
      2 ≤ d.st →
      leAt f 0 1 % 16 = 1 →
      leAt f 1 1 = 0xE0 + u →
      u < 2 →
      openMpdu d.nwkKey (nwkNonce (d.sfn k) slot d.slot.1 ivData true (0xE0 + u)) f = some p →
      b = p.drop (if bitOf (leAt f 0 1) 4 then 6 else 5) →
      parseItems b.length (b.drop 5) = some items →
      leAt b 4 1 = cut →
      items.all (downItemOk (s.prof d.slot.1) cut) = true →
      e = { d with claim0 := (if u = 0 then some (leAt b 0 4) else d.claim0), at0 := (if u = 0 then t0 else d.at0), claim1 := (if u = 0 then d.claim1 else some (leAt b 0 4)), at1 := (if u = 0 then d.at1 else t0), dseq := (if d.claim u = some (leAt b 0 4) then d.dseq else d.dseq.filter (fun (x : (Nat × Nat) × Nat) => x.1.1 != u)), stateDue := (d.stateDue || (if u = 0 then { d with claim0 := some (leAt b 0 4) } else { d with claim1 := some (leAt b 0 4) } : MemDev).topClaim != d.topClaim) } →
      e.higher = some u →
      Does (.memberDigestReceive m k slot t0 f) s (fun t =>
        t.memDev m = ((items.foldl (MemDev.item (s.prof d.slot.1) u k (d.sfn k)) e).hopNow (d.sfn k)).expire (d.sfn k) ∧
        RegsBut [] s t ∧
        t = { s with regs := t.regs, memDevs := t.memDevs } ∧
        (∀ x : Nat, x ≠ m → t.memDev x = s.memDev x))) ∧
    (∀ (s : State) (m : Nat) (d : MemDev) (k slot cut t0 : Nat) (f : List Nat),
      s.stopSafe = true →
      s.memDev m = d →
      slotCut (s.prof d.slot.1) (if s.prof d.slot.1 = 0 then slot else 10 * (k % 10) + slot) = some cut →
      2 ≤ d.st →
      leAt f 0 1 % 16 ≠ 1 ∨ (leAt f 1 1 ≠ 0xE0 ∧ leAt f 1 1 ≠ 0xE1) →
      Does (.memberDigestReceive m k slot t0 f) s (fun t =>
        t.memDev m = { d with malformed := d.malformed + 1 } ∧
        RegsBut [] s t ∧
        t = { s with regs := t.regs, memDevs := t.memDevs } ∧
        (∀ x : Nat, x ≠ m → t.memDev x = s.memDev x))) ∧
    (∀ (s : State) (m : Nat) (d : MemDev) (k slot cut u t0 : Nat) (f p b : List Nat),
      s.stopSafe = true →
      s.memDev m = d →
      slotCut (s.prof d.slot.1) (if s.prof d.slot.1 = 0 then slot else 10 * (k % 10) + slot) = some cut →
      2 ≤ d.st →
      leAt f 0 1 % 16 = 1 →
      leAt f 1 1 = 0xE0 + u →
      u < 2 →
      openMpdu d.nwkKey (nwkNonce (d.sfn k) slot d.slot.1 ivData true (0xE0 + u)) f = some p →
      b = p.drop (if bitOf (leAt f 0 1) 4 then 6 else 5) →
      parseItems b.length (b.drop 5) = none →
      Does (.memberDigestReceive m k slot t0 f) s (fun t =>
        t.memDev m = { d with malformed := d.malformed + 1 } ∧
        RegsBut [] s t ∧
        t = { s with regs := t.regs, memDevs := t.memDevs } ∧
        (∀ x : Nat, x ≠ m → t.memDev x = s.memDev x))) ∧
    (∀ (s : State) (m : Nat) (d : MemDev) (k slot cut u t0 : Nat) (f p b : List Nat) (items : List (Nat × List Nat)),
      s.stopSafe = true →
      s.memDev m = d →
      slotCut (s.prof d.slot.1) (if s.prof d.slot.1 = 0 then slot else 10 * (k % 10) + slot) = some cut →
      2 ≤ d.st →
      leAt f 0 1 % 16 = 1 →
      leAt f 1 1 = 0xE0 + u →
      u < 2 →
      openMpdu d.nwkKey (nwkNonce (d.sfn k) slot d.slot.1 ivData true (0xE0 + u)) f = some p →
      b = p.drop (if bitOf (leAt f 0 1) 4 then 6 else 5) →
      parseItems b.length (b.drop 5) = some items →
      leAt b 4 1 ≠ cut ∨ items.all (downItemOk (s.prof d.slot.1) cut) = false →
      Does (.memberDigestReceive m k slot t0 f) s (fun t =>
        t.memDev m = { d with malformed := d.malformed + 1 } ∧
        RegsBut [] s t ∧
        t = { s with regs := t.regs, memDevs := t.memDevs } ∧
        (∀ x : Nat, x ≠ m → t.memDev x = s.memDev x))) ∧
    (∀ (s : State) (m : Nat) (d : MemDev) (k slot t0 : Nat) (f : List Nat),
      s.stopSafe = true →
      s.memDev m = d →
      slotCut (s.prof d.slot.1) (if s.prof d.slot.1 = 0 then slot else 10 * (k % 10) + slot) = none ∨ d.st < 2 →
      Does (.memberDigestReceive m k slot t0 f) s (fun t =>
        t = s)) ∧
    (∀ (s : State) (m : Nat) (d : MemDev) (k slot u t0 : Nat) (f : List Nat),
      s.stopSafe = true →
      s.memDev m = d →
      leAt f 0 1 % 16 = 1 →
      u < 2 →
      leAt f 1 1 = 0xE0 + u →
      openMpdu d.nwkKey (nwkNonce (d.sfn k) slot d.slot.1 ivData true (0xE0 + u)) f = none →
      Does (.memberDigestReceive m k slot t0 f) s (fun t =>
        t = s)) ∧
    (∀ (s : State) (m : Nat) (d : MemDev) (k slot t0 u q pt : Nat) (g : Bool) (cor : List Nat) (x : MemDev × Nat × List Nat),
      s.stopSafe = true →
      s.memDev m = d →
      d.st = 2 →
      d.higher = some u →
      d.slot.2 ≠ 255 →
      q = (if s.prof d.slot.1 = 0 then slot else 10 * (k % 10) + slot) →
      d.slot.2 ≤ q →
      q - d.slot.2 ≤ (if s.prof d.slot.1 = 0 then 0 else 2) →
      pt = (if s.prof d.slot.1 = 0 then 0 else q - d.slot.2) →
      slotSpan (s.prof d.slot.1) (d.superNs (d.sfn k)) slot = some (slotNs (s.prof d.slot.1)) →
      g = true ∨ 2 * leAt d.caps 12 1 * (t0 - d.bellAt) ≤ 300000000 →
      x = d.upItems (s.prof d.slot.1) k pt (s.mpduMax d.slot.1 ivData) (if measures (s.prof d.slot.1) d.rate (k - (if s.prof d.slot.1 = 0 then 0 else k % 10)) = true then cor else []) →
      (MemDev.budget x.1 (s.prof d.slot.1) (s.memChan d d.slot.1 k slot false) (txenUs (s.prof d.slot.1) (s.get (LANE_CFG_RATE d.slot.1)) ivData (psduLen (s.prof d.slot.1) (([2, d.addr, 0xE0 + u] ++ leBytes 2 x.2.1 ++ leBytes 2 (d.dack u) ++ [b2n d.stopped + 2 * b2n d.holding + 4 * b2n g + 16 * pt] ++ x.2.2 : List Nat) ++ ccmMic d.nwkKey (nwkNonce (d.sfn k) slot d.slot.1 ivData false d.addr) ([2, d.addr, 0xE0 + u] ++ leBytes 2 x.2.1 ++ leBytes 2 (d.dack u) ++ [b2n d.stopped + 2 * b2n d.holding + 4 * b2n g + 16 * pt] ++ x.2.2 : List Nat) []).length)) t0).isSome = true →
      Does (.memberUplinkSend m k slot t0 g cor) s (fun t =>
        t.memDev m = { x.1 with bornAt := some (x.1.bornAt.getD t0), sent := ((MemDev.budget x.1 (s.prof d.slot.1) (s.memChan d d.slot.1 k slot false) (txenUs (s.prof d.slot.1) (s.get (LANE_CFG_RATE d.slot.1)) ivData (psduLen (s.prof d.slot.1) (([2, d.addr, 0xE0 + u] ++ leBytes 2 x.2.1 ++ leBytes 2 (d.dack u) ++ [b2n d.stopped + 2 * b2n d.holding + 4 * b2n g + 16 * pt] ++ x.2.2 : List Nat) ++ ccmMic d.nwkKey (nwkNonce (d.sfn k) slot d.slot.1 ivData false d.addr) ([2, d.addr, 0xE0 + u] ++ leBytes 2 x.2.1 ++ leBytes 2 (d.dack u) ++ [b2n d.stopped + 2 * b2n d.holding + 4 * b2n g + 16 * pt] ++ x.2.2 : List Nat) []).length)) t0).getD {}).sent } ∧
        t.out = s.out ++ [Output.memberAir m k d.slot.1 slot (([2, d.addr, 0xE0 + u] ++ leBytes 2 x.2.1 ++ leBytes 2 (d.dack u) ++ [b2n d.stopped + 2 * b2n d.holding + 4 * b2n g + 16 * pt] ++ x.2.2 : List Nat) ++ ccmMic d.nwkKey (nwkNonce (d.sfn k) slot d.slot.1 ivData false d.addr) ([2, d.addr, 0xE0 + u] ++ leBytes 2 x.2.1 ++ leBytes 2 (d.dack u) ++ [b2n d.stopped + 2 * b2n d.holding + 4 * b2n g + 16 * pt] ++ x.2.2 : List Nat) [])] ∧
        RegsBut [] s t ∧
        t = { s with regs := t.regs, memDevs := t.memDevs, out := t.out } ∧
        (∀ x : Nat, x ≠ m → t.memDev x = s.memDev x))) ∧
    (∀ (s : State) (m : Nat) (d : MemDev) (k slot t0 u q pt : Nat) (g : Bool) (cor : List Nat) (x : MemDev × Nat × List Nat),
      s.stopSafe = true →
      s.memDev m = d →
      d.st = 2 →
      d.higher = some u →
      d.slot.2 ≠ 255 →
      q = (if s.prof d.slot.1 = 0 then slot else 10 * (k % 10) + slot) →
      d.slot.2 ≤ q →
      q - d.slot.2 ≤ (if s.prof d.slot.1 = 0 then 0 else 2) →
      pt = (if s.prof d.slot.1 = 0 then 0 else q - d.slot.2) →
      slotSpan (s.prof d.slot.1) (d.superNs (d.sfn k)) slot = some (slotNs (s.prof d.slot.1)) →
      g = true ∨ 2 * leAt d.caps 12 1 * (t0 - d.bellAt) ≤ 300000000 →
      x = d.upItems (s.prof d.slot.1) k pt (s.mpduMax d.slot.1 ivData) (if measures (s.prof d.slot.1) d.rate (k - (if s.prof d.slot.1 = 0 then 0 else k % 10)) = true then cor else []) →
      MemDev.budget x.1 (s.prof d.slot.1) (s.memChan d d.slot.1 k slot false) (txenUs (s.prof d.slot.1) (s.get (LANE_CFG_RATE d.slot.1)) ivData (psduLen (s.prof d.slot.1) (([2, d.addr, 0xE0 + u] ++ leBytes 2 x.2.1 ++ leBytes 2 (d.dack u) ++ [b2n d.stopped + 2 * b2n d.holding + 4 * b2n g + 16 * pt] ++ x.2.2 : List Nat) ++ ccmMic d.nwkKey (nwkNonce (d.sfn k) slot d.slot.1 ivData false d.addr) ([2, d.addr, 0xE0 + u] ++ leBytes 2 x.2.1 ++ leBytes 2 (d.dack u) ++ [b2n d.stopped + 2 * b2n d.holding + 4 * b2n g + 16 * pt] ++ x.2.2 : List Nat) []).length)) t0 = none →
      Does (.memberUplinkSend m k slot t0 g cor) s (fun t =>
        t.memDev m = { d with bornAt := some (d.bornAt.getD t0) } ∧
        RegsBut [] s t ∧
        t = { s with regs := t.regs, memDevs := t.memDevs } ∧
        (∀ x : Nat, x ≠ m → t.memDev x = s.memDev x))) ∧
    (∀ (s : State) (m : Nat) (d : MemDev) (k slot t0 q : Nat) (g : Bool) (cor : List Nat),
      s.stopSafe = true →
      s.memDev m = d →
      q = (if s.prof d.slot.1 = 0 then slot else 10 * (k % 10) + slot) →
      d.higher = none ∨ d.st ≠ 2 ∨ d.slot.2 = 255 ∨ q < d.slot.2 ∨ (if s.prof d.slot.1 = 0 then 0 else 2) < q - d.slot.2 ∨ slotSpan (s.prof d.slot.1) (d.superNs (d.sfn k)) slot ≠ some (slotNs (s.prof d.slot.1)) ∨ (g = false ∧ 300000000 < 2 * leAt d.caps 12 1 * (t0 - d.bellAt)) →
      Does (.memberUplinkSend m k slot t0 g cor) s (fun t =>
        t = s))

/-- A submission with a well-formed descriptor takes the next INDEX under its next GEN and is PENDING at the end of the
pending list, with its ID and code 0 in the result registers; a malformed one reads code 2; one without a free
descriptor stalls, and when the stall expires reads code 1 and counts FULL. At TASK_READY every PENDING task whose
condition holds becomes READY in order, and each core that may then take one is interrupted. An enabled core takes its
first eligible task of the best level and runs it, a task it was running returning to the head of its level; with
nothing to take it reads 0. DONE ends the running task with its result; OUTCOME 3, or no running task, changes
nothing. A cancel of a task that has not started ends it CANCELLED; a running tier C task and its core are told to
stop, a tier M task bound to a member is sent WITHDRAW, and any other ID is refused. A HELD task past ACKED_BY and the
grace is LAPSED and counted, and with REQUEUE a new task of the same content is READY. Every end frees the descriptor,
sends the completion message on each stream of type 5, and the longest stalled submit takes the freed descriptor. The
host opcodes do the same through ECP, with QUEUE_FULL where no descriptor is free or HOST_MAX is reached. Nothing else
changes. (Rests on: R453, R454, R455, R456, R457, R458, R459, R460, R461, R462, R466, R473, R474.) -/
def Obligations.WorkIsSubmittedTakenAndEnded : Prop :=
    (∀ (s : State) (ini ix : Nat),
      s.stopSafe = true →
      MayWrite s ini 0x40400140 →
      BankKind.disp.holds ini = true →
      descOk s.ply (s.bankDesc ini) = true →
      s.nextIx = some ix →
      ix < 4096 →
      s.nextGen ix < 2 ^ 20 →
      Does (.dispSubmit ini) s (fun t =>
        Reads t [(DISP_RESULT_ID ini, s.nextGen ix * 4096 + ix), (DISP_RESULT_CODE_CODE ini, 0)] ∧
        t.disp = { s.disp with tasks := s.disp.tasks.filter (fun (e : Nat × Task) => e.1 ≠ ix) ++ [(ix, descTask (ini) s.ply (s.nextGen ix * 4096 + ix) (s.bankDesc ini))], fresh := (if ix = s.disp.fresh then ix + 1 else s.disp.fresh), freed := (if ix = s.disp.fresh then s.disp.freed else s.disp.freed.filter (fun (x : Nat) => x ≠ ix)), pend := s.disp.pend ++ [ix] } ∧
        RegsBut [DISP_RESULT_ID ini, DISP_RESULT_CODE_CODE ini] s t ∧
        t = { s with regs := t.regs, disp := t.disp })) ∧
    (∀ (s : State) (ini : Nat),
      s.stopSafe = true →
      MayWrite s ini 0x40400140 →
      BankKind.disp.holds ini = true →
      descOk s.ply (s.bankDesc ini) = false →
      Does (.dispSubmit ini) s (fun t =>
        Reads t [(DISP_RESULT_ID ini, 0), (DISP_RESULT_CODE_CODE ini, 2)] ∧
        RegsBut [DISP_RESULT_ID ini, DISP_RESULT_CODE_CODE ini] s t ∧
        OnlyRegs s t)) ∧
    (∀ (s : State) (ini : Nat),
      s.stopSafe = true →
      MayWrite s ini 0x40400140 →
      BankKind.disp.holds ini = true →
      descOk s.ply (s.bankDesc ini) = true →
      s.nextIx = none →
      Does (.dispSubmit ini) s (fun t =>
        t.disp = { s.disp with stalled := s.disp.stalled ++ [ini] } ∧
        RegsBut [] s t ∧
        t = { s with regs := t.regs, disp := t.disp })) ∧
    (∀ (s : State) (ini : Nat),
      s.stopSafe = true →
      MayWrite s ini 0x40400140 →
      BankKind.disp.holds ini = false →
      Does (.dispSubmit ini) s (fun t =>
        t = s)) ∧
    (∀ (s : State) (ini : Nat),
      s.stopSafe = true →
      s.disp.stalled.contains ini = true →
      Does (.dispSubmitStallExpiry ini) s (fun t =>
        Reads t [(DISP_RESULT_ID ini, 0), (DISP_RESULT_CODE_CODE ini, 1), (DISP_CNT_FULL, s.adv DISP_CNT_FULL)] ∧
        t.disp = { s.disp with stalled := s.disp.stalled.filter (fun (x : Nat) => x ≠ ini) } ∧
        RegsBut [DISP_RESULT_ID ini, DISP_RESULT_CODE_CODE ini, DISP_CNT_FULL] s t ∧
        t = { s with regs := t.regs, disp := t.disp })) ∧
    (∀ (s : State) (ini : Nat),
      s.stopSafe = true →
      s.disp.stalled.contains ini = false →
      Does (.dispSubmitStallExpiry ini) s (fun t =>
        t = s)) ∧
    (∀ (s : State) (ix : Nat) (k : Task),
      s.stopSafe = true →
      s.dispRuns = true →
      s.disp.pend = [ix] →
      s.task ix = some k →
      taskIx k.id = ix →
      k.state = 1 →
      (if bits k.flags 3 2 = 0 then k.sub < s.ply else if bits k.flags 3 2 = 1 then s.cast.boundaryNow = true ∧ k.sub < s.ply else k.readyPly ≤ s.ply) →
      Does (.taskReady) s (fun t =>
        t.task ix = some { k with state := 2 } ∧
        t.disp.pend = [] ∧
        t.disp.ready = s.disp.ready ++ [ix] ∧
        t.out = s.out ++ ((List.range 16).filter (fun i => t.dispIrq i && !s.dispIrq i)).map (fun i => Output.irqOwner (0x10 + i) 0) ∧
        RegsBut [] s t ∧
        t = { s with regs := t.regs, disp := t.disp, out := t.out } ∧
        (∀ x : Nat, x ≠ ix → t.task x = s.task x))) ∧
    (∀ (s : State) (u : State),
      s.stopSafe = true →
      s.dispRuns = true →
      u = s.disp.pend.foldl State.makeReady s →
      Does (.taskReady) s (fun t =>
        t.out = s.out ++ ((List.range 16).filter (fun i => t.dispIrq i && !s.dispIrq i)).map (fun i => Output.irqOwner (0x10 + i) 0) ∧
        t = { u with out := t.out } ∧
        u.regs = s.regs ∧
        u = { s with disp := { s.disp with tasks := u.disp.tasks, pend := u.disp.pend, ready := u.disp.ready } })) ∧
    (∀ (s : State),
      s.stopSafe = true →
      s.dispRuns = false ∨ s.disp.pend.any (fun (x : Nat) => (s.task x).any (fun (k : Task) => k.state == 1 && s.taskDue k)) = false →
      Does (.taskReady) s (fun t =>
        t = s)) ∧
    (∀ (s : State) (ini c : Nat) (k : Task),
      s.stopSafe = true →
      c < 16 →
      MayRead s ini (0x40400404 + 0x10 * c) →
      s.dispRuns = true →
      s.bit (DISP_CORE_EN c) = true →
      s.taskOf (s.get (DISP_RUN_ID c)) = none →
      s.bestReady c s.disp.ready = some k →
      k.id < 2 ^ 32 →
      k.level < 64 →
      Does (.dispTake ini c) s (fun t =>
        Reads t [(DISP_TAKE_ID c, k.id), (DISP_RUN_ID c, k.id), (DISP_CORE_RUN_LEVEL c, k.level), (DISP_CORE_TOOK_SUSP c, b2n k.susp)] ∧
        t.disp = { s.disp with ready := s.disp.ready.filter (fun (x : Nat) => x ≠ taskIx k.id), tasks := s.disp.tasks.filter (fun (e : Nat × Task) => e.1 ≠ taskIx k.id) ++ [(taskIx k.id, { k with state := 5, exec := 0x10 + c, susp := false })] } ∧
        t.out = s.out ++ ((List.range 16).filter (fun i => t.dispIrq i && !s.dispIrq i)).map (fun i => Output.irqOwner (0x10 + i) 0) ∧
        RegsBut [DISP_TAKE_ID c, DISP_RUN_ID c, DISP_CORE_RUN_LEVEL c, DISP_CORE_TOOK_SUSP c] s t ∧
        t = { s with regs := t.regs, disp := t.disp, out := t.out })) ∧
    (∀ (s : State) (ini c : Nat) (k : Task) (z u : State),
      s.stopSafe = true →
      c < 16 →
      MayRead s ini (0x40400404 + 0x10 * c) →
      s.dispRuns = true →
      s.bit (DISP_CORE_EN c) = true →
      s.bestReady c s.disp.ready = some k →
      z = State.suspendTask { s with disp := { s.disp with ready := s.disp.ready.filter (fun (x : Nat) => x ≠ taskIx k.id) } } c true →
      u = State.puts (State.setTask z { k with state := 5, exec := 0x10 + c, susp := false }) [(DISP_TAKE_ID c, k.id), (DISP_RUN_ID c, k.id), (DISP_CORE_RUN_LEVEL c, k.level), (DISP_CORE_TOOK_SUSP c, b2n k.susp)] →
      Does (.dispTake ini c) s (fun t =>
        t = { u with out := t.out } ∧
        t.out = s.out ++ ((List.range 16).filter (fun i => t.dispIrq i && !s.dispIrq i)).map (fun i => Output.irqOwner (0x10 + i) 0))) ∧
    (∀ (s : State) (ini c : Nat),
      s.stopSafe = true →
      c < 16 →
      MayRead s ini (0x40400404 + 0x10 * c) →
      s.dispRuns = false ∨ s.bit (DISP_CORE_EN c) = false ∨ s.bestReady c s.disp.ready = none →
      Does (.dispTake ini c) s (fun t =>
        Reads t [(DISP_TAKE_ID c, 0)] ∧
        RegsBut [DISP_TAKE_ID c] s t ∧
        OnlyRegs s t)) ∧
    (∀ (s : State) (ini c data : Nat) (k : Task) (u : State),
      s.stopSafe = true →
      c < 16 →
      MayWrite s ini (0x4040040C + 0x10 * c) →
      s.taskOf (s.get (DISP_RUN_ID c)) = some k →
      k.state = 5 →
      bits data 9 8 ≠ 3 →
      u = State.unstall (State.produce (State.setTask { (State.puts s [(DISP_RUN_ID c, 0), (DISP_CORE_RUN_LEVEL c, 64)]) with disp := { s.disp with pend := s.disp.pend.filter (fun (x : Nat) => x ≠ taskIx k.id), ready := s.disp.ready.filter (fun (x : Nat) => x ≠ taskIx k.id), freed := s.disp.freed ++ [taskIx k.id] } } ({ k with result := bits data 7 0, data := s.get (DISP_DESC_WORD (0x10 + c) 0), state := 6 + bits data 9 8, endPly := s.ply })) 5 (leBytes 4 k.id ++ [6 + bits data 9 8, bits data 7 0, k.exec, b2n k.unknownEnd + 2 * b2n k.requeued] ++ leBytes 4 (s.get (DISP_DESC_WORD (0x10 + c) 0)) ++ leBytes 8 s.ply) (some (s.ply + 10000))) →
      Does (.dispDone ini c data) s (fun t =>
        t = { u with out := t.out } ∧
        t.out = u.out ++ ((List.range 16).filter (fun i => t.dispIrq i && !(State.puts s [(DISP_RUN_ID c, 0), (DISP_CORE_RUN_LEVEL c, 64)]).dispIrq i)).map (fun i => Output.irqOwner (0x10 + i) 0))) ∧
    (∀ (s : State) (ini c data : Nat) (k : Task),
      s.stopSafe = true →
      c < 16 →
      MayWrite s ini (0x4040040C + 0x10 * c) →
      s.taskOf (s.get (DISP_RUN_ID c)) = some k →
      k.state = 5 →
      bits data 9 8 ≠ 3 →
      s.disp.stalled = [] →
      s.streamsOf 5 = [] →
      Does (.dispDone ini c data) s (fun t =>
        Reads t [(DISP_RUN_ID c, 0), (DISP_CORE_RUN_LEVEL c, 64)] ∧
        t.taskOf k.id = some { k with result := bits data 7 0, data := s.get (DISP_DESC_WORD (0x10 + c) 0), state := 6 + bits data 9 8, endPly := s.ply } ∧
        t.disp.freed = s.disp.freed ++ [taskIx k.id] ∧
        RegsBut [DISP_RUN_ID c, DISP_CORE_RUN_LEVEL c] s t ∧
        t = { s with regs := t.regs, disp := t.disp, out := t.out })) ∧
    (∀ (s : State) (ini c data : Nat),
      s.stopSafe = true →
      c < 16 →
      MayWrite s ini (0x4040040C + 0x10 * c) →
      s.taskOf (s.get (DISP_RUN_ID c)) = none ∨ bits data 9 8 = 3 ∨ (s.taskOf (s.get (DISP_RUN_ID c))).any (fun (k : Task) => k.state != 5) = true →
      Does (.dispDone ini c data) s (fun t =>
        t = s)) ∧
    (∀ (s : State) (ini id : Nat) (k : Task),
      s.stopSafe = true →
      MayWrite s ini 0x40400144 →
      BankKind.disp.holds ini = true →
      s.taskOf id = some k →
      k.state = 1 ∨ k.state = 2 →
      Does (.dispCancel ini id) s (fun t =>
        t = State.put (State.unstall (State.produce (State.setTask { s with disp := { s.disp with pend := s.disp.pend.filter (fun (x : Nat) => x ≠ taskIx k.id), ready := s.disp.ready.filter (fun (x : Nat) => x ≠ taskIx k.id), freed := s.disp.freed ++ [taskIx k.id] } } ({ k with state := 8, endPly := s.ply })) 5 (leBytes 4 k.id ++ [8, k.result, k.exec, b2n k.unknownEnd + 2 * b2n k.requeued] ++ leBytes 4 (k.data) ++ leBytes 8 s.ply) (some (s.ply + 10000)))) (DISP_RESULT_CODE_CODE ini) 0)) ∧
    (∀ (s : State) (ini id : Nat) (k : Task),
      s.stopSafe = true →
      MayWrite s ini 0x40400144 →
      BankKind.disp.holds ini = true →
      s.taskOf id = some k →
      k.state = 1 ∨ k.state = 2 →
      s.disp.stalled = [] →
      s.streamsOf 5 = [] →
      Does (.dispCancel ini id) s (fun t =>
        Reads t [(DISP_RESULT_CODE_CODE ini, 0)] ∧
        t.taskOf id = some { k with state := 8, endPly := s.ply } ∧
        (t.disp.pend.contains (taskIx id) || t.disp.ready.contains (taskIx id)) = false ∧
        RegsBut [DISP_RESULT_CODE_CODE ini] s t ∧
        t = { s with regs := t.regs, disp := t.disp })) ∧
    (∀ (s : State) (ini id c : Nat) (k : Task),
      s.stopSafe = true →
      MayWrite s ini 0x40400144 →
      BankKind.disp.holds ini = true →
      s.taskOf id = some k →
      k.state = 5 →
      k.tierM = false →
      k.exec = 0x10 + c →
      c < 16 →
      Does (.dispCancel ini id) s (fun t =>
        Reads t [(DISP_RESULT_CODE_CODE ini, 0), (DISP_CORE_CANCEL c, 1)] ∧
        t.disp = { s.disp with tasks := s.disp.tasks.filter (fun (e : Nat × Task) => e.1 ≠ taskIx id) ++ [(taskIx id, { k with cancelReq := true })] } ∧
        t.out = s.out ++ [Output.irqOwner (0x10 + c) 0] ∧
        RegsBut [DISP_RESULT_CODE_CODE ini, DISP_CORE_CANCEL c] s t ∧
        t = { s with regs := t.regs, disp := t.disp, out := t.out })) ∧
    (∀ (s : State) (ini id : Nat) (k : Task),
      s.stopSafe = true →
      MayWrite s ini 0x40400144 →
      BankKind.disp.holds ini = true →
      s.taskOf id = some k →
      k.state = 3 ∨ k.state = 4 ∨ (k.state = 5 ∧ k.tierM = true) →
      Does (.dispCancel ini id) s (fun t =>
        t = State.put (State.sendCmd (State.setTask s { k with cancelReq := true }) k.exec 3 ([2, k.level] ++ leBytes 4 k.id ++ leBytes 4 0 ++ [0, 0])) (DISP_RESULT_CODE_CODE ini) 0)) ∧
    (∀ (s : State) (ini id : Nat),
      s.stopSafe = true →
      MayWrite s ini 0x40400144 →
      BankKind.disp.holds ini = true →
      s.taskOf id = none ∨ (s.taskOf id).any (fun (k : Task) => k.state == 0 || decide (5 < k.state)) = true →
      Does (.dispCancel ini id) s (fun t =>
        Reads t [(DISP_RESULT_CODE_CODE ini, 3)] ∧
        RegsBut [DISP_RESULT_CODE_CODE ini] s t ∧
        OnlyRegs s t)) ∧
    (∀ (s : State) (ini id : Nat),
      s.stopSafe = true →
      MayWrite s ini 0x40400144 →
      BankKind.disp.holds ini = false →
      Does (.dispCancel ini id) s (fun t =>
        t = s)) ∧
    (∀ (s : State) (sess tag : Nat) (ix : Nat) (pl : List Nat),
      s.stopSafe = true →
      s.accepts 0x0600 sess tag true = true →
      pl.length = 64 →
      descOk s.ply pl = true →
      s.hostTasks < s.get DISP_CTRL_HOST_MAX →
      s.nextIx = some ix →
      ix < 4096 →
      s.nextGen ix < 2 ^ 20 →
      Does (.taskSubmit sess tag (pl)) s (fun t =>
        answers s t [] 0x0600 sess tag Ecp.OK (crc32c (pl)) (leBytes 4 (s.nextGen ix * 4096 + ix)) = true ∧
        t.disp = { s.disp with tasks := s.disp.tasks.filter (fun (e : Nat × Task) => e.1 ≠ ix) ++ [(ix, descTask (sessIni sess) s.ply (s.nextGen ix * 4096 + ix) (pl))], fresh := (if ix = s.disp.fresh then ix + 1 else s.disp.fresh), freed := (if ix = s.disp.fresh then s.disp.freed else s.disp.freed.filter (fun (x : Nat) => x ≠ ix)), pend := s.disp.pend ++ [ix] } ∧
        RegsBut [] s t ∧
        t = { s with regs := t.regs, disp := t.disp, ecp := t.ecp, out := t.out })) ∧
    (∀ (s : State) (sess tag : Nat) (pl : List Nat),
      s.stopSafe = true →
      s.accepts 0x0600 sess tag true = true →
      pl.length = 64 →
      descOk s.ply pl = true →
      s.nextIx = none ∨ s.get DISP_CTRL_HOST_MAX ≤ s.hostTasks →
      Does (.taskSubmit sess tag (pl)) s (fun t =>
        answers s t [] 0x0600 sess tag Ecp.QUEUE_FULL (crc32c (pl)) [] = true ∧
        Reads t [(DISP_CNT_QUEUE_FULL, s.adv DISP_CNT_QUEUE_FULL)] ∧
        RegsBut [DISP_CNT_QUEUE_FULL, ECP_CNT_B_QUEUE_FULL] s t ∧
        t = { s with regs := t.regs, ecp := t.ecp, out := t.out })) ∧
    (∀ (s : State) (sess tag : Nat) (pl : List Nat),
      s.stopSafe = true →
      s.accepts 0x0600 sess tag true = true →
      pl.length = 64 →
      descOk s.ply pl = false →
      Does (.taskSubmit sess tag (pl)) s (fun t =>
        answers s t [] 0x0600 sess tag Ecp.BAD_PARAM (crc32c (pl)) [] = true ∧
        RegsBut [] s t ∧
        t = { s with regs := t.regs, ecp := t.ecp, out := t.out })) ∧
    (∀ (s : State) (sess tag : Nat) (id : Nat) (k : Task) (u : State),
      s.accepts 0x0601 sess tag true = true →
      id < 2 ^ 32 →
      s.taskOf id = some k →
      k.state = 1 ∨ k.state = 2 →
      u = State.unstall (State.produce (State.setTask { s with disp := { s.disp with pend := s.disp.pend.filter (fun (x : Nat) => x ≠ taskIx k.id), ready := s.disp.ready.filter (fun (x : Nat) => x ≠ taskIx k.id), freed := s.disp.freed ++ [taskIx k.id] } } ({ k with state := 8, endPly := s.ply })) 5 (leBytes 4 k.id ++ [8, k.result, k.exec, b2n k.unknownEnd + 2 * b2n k.requeued] ++ leBytes 4 (k.data) ++ leBytes 8 s.ply) (some (s.ply + 10000))) →
      u.room sess = true →
      Does (.taskCancel sess tag (leBytes 4 id)) s (fun t =>
        answers u t [] 0x0601 sess tag Ecp.OK (crc32c (leBytes 4 id)) [match u.taskOf id with | some x => x.state | none => 0, 0, 0, 0] = true ∧
        t = { u with ecp := t.ecp, out := t.out })) ∧
    (∀ (s : State) (sess tag : Nat) (id : Nat) (k : Task),
      s.stopSafe = true →
      s.accepts 0x0601 sess tag true = true →
      id < 2 ^ 32 →
      s.taskOf id = some k →
      k.state = 1 ∨ k.state = 2 →
      s.disp.stalled = [] →
      s.streamsOf 5 = [] →
      Does (.taskCancel sess tag (leBytes 4 id)) s (fun t =>
        answers s t [] 0x0601 sess tag Ecp.OK (crc32c (leBytes 4 id)) [8, 0, 0, 0] = true ∧
        t.taskOf id = some { k with state := 8, endPly := s.ply } ∧
        RegsBut [] s t ∧
        t = { s with regs := t.regs, disp := t.disp, ecp := t.ecp, out := t.out })) ∧
    (∀ (s : State) (sess tag : Nat) (id c : Nat) (k : Task),
      s.stopSafe = true →
      s.accepts 0x0601 sess tag true = true →
      id < 2 ^ 32 →
      s.taskOf id = some k →
      k.state = 5 →
      k.tierM = false →
      k.exec = 0x10 + c →
      c < 16 →
      Does (.taskCancel sess tag (leBytes 4 id)) s (fun t =>
        answers s t [Output.irqOwner (0x10 + c) 0] 0x0601 sess tag Ecp.OK (crc32c (leBytes 4 id)) [5, 0, 0, 0] = true ∧
        t.taskOf id = some { k with cancelReq := true } ∧
        Reads t [(DISP_CORE_CANCEL c, 1)] ∧
        RegsBut [DISP_CORE_CANCEL c] s t ∧
        t = { s with regs := t.regs, disp := t.disp, ecp := t.ecp, out := t.out })) ∧
    (∀ (s : State) (sess tag : Nat) (id : Nat) (k : Task) (u : State),
      s.accepts 0x0601 sess tag true = true →
      id < 2 ^ 32 →
      s.taskOf id = some k →
      k.state = 3 ∨ k.state = 4 ∨ (k.state = 5 ∧ k.tierM = true) →
      u = State.sendCmd (State.setTask s { k with cancelReq := true }) k.exec 3 ([2, k.level] ++ leBytes 4 k.id ++ leBytes 4 0 ++ [0, 0]) →
      Does (.taskCancel sess tag (leBytes 4 id)) s (fun t =>
        answers s t [] 0x0601 sess tag Ecp.OK (crc32c (leBytes 4 id)) [k.state, 0, 0, 0] = true ∧
        t = { u with ecp := t.ecp, out := t.out })) ∧
    (∀ (s : State) (sess tag : Nat) (id : Nat),
      s.stopSafe = true →
      s.accepts 0x0601 sess tag true = true →
      id < 2 ^ 32 →
      s.taskOf id = none ∨ (s.taskOf id).any (fun (k : Task) => k.state == 0 || decide (5 < k.state)) = true →
      Does (.taskCancel sess tag (leBytes 4 id)) s (fun t =>
        answers s t [] 0x0601 sess tag Ecp.BAD_PARAM (crc32c (leBytes 4 id)) [] = true ∧
        RegsBut [] s t ∧
        t = { s with regs := t.regs, ecp := t.ecp, out := t.out })) ∧
    (∀ (s : State) (sess tag : Nat) (id st : Nat) (k : Task),
      s.stopSafe = true →
      s.accepts 0x0602 sess tag true = true →
      id < 2 ^ 32 →
      s.task (taskIx id) = some k →
      st = (if k.id = id then k.state else 0) →
      Does (.taskGet sess tag (leBytes 4 id)) s (fun t =>
        answers s t [] 0x0602 sess tag Ecp.OK (crc32c (leBytes 4 id)) (leBytes 4 k.id ++ [st, k.level, k.exec, k.result] ++ leBytes 4 k.data ++ leBytes 4 (if st = 3 ∨ st = 4 then k.ackedBy else 0) ++ leBytes 8 (if 6 ≤ st then k.endPly else 0)) = true ∧
        RegsBut [] s t ∧
        t = { s with regs := t.regs, ecp := t.ecp, out := t.out })) ∧
    (∀ (s : State) (sess tag : Nat) (id : Nat),
      s.stopSafe = true →
      s.accepts 0x0602 sess tag true = true →
      id < 2 ^ 32 →
      s.task (taskIx id) = none →
      Does (.taskGet sess tag (leBytes 4 id)) s (fun t =>
        answers s t [] 0x0602 sess tag Ecp.OK (crc32c (leBytes 4 id)) (leBytes 4 (taskIx id) ++ List.replicate 20 0) = true ∧
        RegsBut [] s t ∧
        t = { s with regs := t.regs, ecp := t.ecp, out := t.out })) ∧
    (∀ (s : State) (ix : Nat) (k : Task) (u : State),
      s.stopSafe = true →
      s.task ix = some k →
      k.state = 4 →
      s.hasSfn = true →
      k.ackedBy + s.get DISP_CTRL_LAPSE_GRACE ≤ s.sfn →
      bitOf k.flags 1 = false →
      u = State.slotEmptied (State.produce (State.setTask { State.bump s DISP_CNT2_LAPSED with disp := { s.disp with pend := s.disp.pend.filter (fun (x : Nat) => x ≠ taskIx k.id), ready := s.disp.ready.filter (fun (x : Nat) => x ≠ taskIx k.id), freed := s.disp.freed ++ [taskIx k.id] } } ({ k with requeued := bitOf k.flags 1, wasRequeued := bitOf k.flags 1, state := 9, endPly := s.ply })) 5 (leBytes 4 k.id ++ [9, k.result, k.exec, b2n k.unknownEnd + 2 * b2n (bitOf k.flags 1)] ++ leBytes 4 k.data ++ leBytes 8 s.ply) (some (s.ply + 10000))) k.exec →
      Does (.taskLapse ix) s (fun t =>
        t = u.unstall)) ∧
    (∀ (s : State) (ix iy : Nat) (k : Task) (u : State),
      s.stopSafe = true →
      s.task ix = some k →
      k.state = 4 →
      s.hasSfn = true →
      k.ackedBy + s.get DISP_CTRL_LAPSE_GRACE ≤ s.sfn →
      bitOf k.flags 1 = true →
      u = State.slotEmptied (State.produce (State.setTask { State.bump s DISP_CNT2_LAPSED with disp := { s.disp with pend := s.disp.pend.filter (fun (x : Nat) => x ≠ taskIx k.id), ready := s.disp.ready.filter (fun (x : Nat) => x ≠ taskIx k.id), freed := s.disp.freed ++ [taskIx k.id] } } ({ k with requeued := bitOf k.flags 1, wasRequeued := bitOf k.flags 1, state := 9, endPly := s.ply })) 5 (leBytes 4 k.id ++ [9, k.result, k.exec, b2n k.unknownEnd + 2 * b2n (bitOf k.flags 1)] ++ leBytes 4 k.data ++ leBytes 8 s.ply) (some (s.ply + 10000))) k.exec →
      u.nextIx = some iy →
      Does (.taskLapse ix) s (fun t =>
        t = State.unstall (let z : State := State.setTask { u with disp := { u.disp with fresh := (if iy = u.disp.fresh then iy + 1 else u.disp.fresh), freed := (if iy = u.disp.fresh then u.disp.freed else u.disp.freed.filter (fun (x : Nat) => x ≠ iy)) } } { id := u.nextGen iy * 4096 + iy, level := k.level, flags := k.flags, mask := k.mask, target := k.target, origin := k.origin, readyPly := k.readyPly, body := k.body, state := 2, sub := s.ply }; { z with disp := { z.disp with ready := z.disp.ready ++ [taskIx (u.nextGen iy * 4096 + iy)] } }))) ∧
    (∀ (s : State) (ix : Nat) (k : Task),
      s.stopSafe = true →
      s.task ix = some k →
      k.state = 4 →
      s.hasSfn = true →
      k.ackedBy + s.get DISP_CTRL_LAPSE_GRACE ≤ s.sfn →
      taskIx k.id = ix →
      bitOf k.flags 1 = false →
      s.disp.stalled = [] →
      s.streamsOf 5 = [] →
      Does (.taskLapse ix) s (fun t =>
        Reads t [(DISP_CNT2_LAPSED, s.adv DISP_CNT2_LAPSED)] ∧
        t.task ix = some { k with requeued := false, wasRequeued := false, state := 9, endPly := s.ply } ∧
        t.disp.freed = s.disp.freed ++ [ix] ∧
        RegsBut [DISP_CNT2_LAPSED] s t ∧
        t = { s with regs := t.regs, disp := t.disp, mac := t.mac })) ∧
    (∀ (s : State) (ix : Nat),
      s.stopSafe = true →
      s.task ix = none ∨ s.hasSfn = false ∨ (s.task ix).any (fun (k : Task) => decide (k.state ≠ 4 ∨ s.sfn < k.ackedBy + s.get DISP_CTRL_LAPSE_GRACE)) = true →
      Does (.taskLapse ix) s (fun t =>
        t = s))

/-- A TRACK_LOAD of the first vertices takes the lowest free run, a later one stores behind them: the vertices sent are
those read back, no other vertex changes, and the track is LOADING; a used track is DENIED, none free answers
QUEUE_FULL, a load that does not fit BAD_PARAM. A seal of a loaded track without equal neighbours makes it SEALED with
its length and CRC, which it answers, and otherwise answers BAD_PARAM; an unused track can be freed, a used one not.
MOVE, HALT, GEAR_ENGAGE and GEAR_DISENGAGE that pass their checks wait for C1 in progress, and answer DENIED or
BAD_PARAM otherwise; CHAN_RELEASE returns a HELD or FAULT channel to IDLE. A channel whose plan has come to rest is
HELD with its REASON at its arc: REACHED from MOVING, DOCK and a dock fault from HOMING; from STOPPING BEHIND with its
count, DOCK and docked, or the REASON it stops for; and its MOVE ends with the status and OUTCOME of that. A confirmed
dock input changes CLOSED, sets CHANGED and is recorded, and each channel of that input takes its dock outcome; a
window that ends as it began, or opens within another, changes no state of an input. Nothing else changes. (Rests on:
R475, R476, R477, R478, R483, R484, R486, R488, R494, R498, R502, R509.) -/
def Obligations.TracksChannelsAndGears : Prop :=
    (∀ (s : State) (sess tag : Nat) (k n f : Nat) (l : List (Int × Int × Int)) (g : Nat),
      s.stopSafe = true →
      s.accepts 0x0700 sess tag true = true →
      k < 1024 →
      2 ≤ n →
      n ≤ 4096 →
      1 ≤ l.length →
      l.length ≤ 116 →
      f + l.length ≤ n →
      (∀ p ∈ l, -(2 ^ 31) ≤ p.1 ∧ p.1 < 2 ^ 31 ∧ -(2 ^ 31) ≤ p.2.1 ∧ p.2.1 < 2 ^ 31 ∧ -(2 ^ 31) ≤ p.2.2 ∧ p.2.2 < 2 ^ 31) →
      s.trkUsed k = false →
      f = 0 →
      lowestRun (s.trkRuns k) n = some g →
      g + n ≤ 262144 →
      Mem.wf s.trk.verts = true →
      Does (.trackLoad sess tag ((leBytes 2 k ++ leBytes 2 n ++ leBytes 2 f ++ leBytes 2 l.length ++ vertBytes l))) s (fun t =>
        answers s t [] 0x0700 sess tag Ecp.OK (crc32c (leBytes 2 k ++ leBytes 2 n ++ leBytes 2 f ++ leBytes 2 l.length ++ vertBytes l)) [] = true ∧
        Reads t [(TRK_T_W1_STATE k, 1), (TRK_T_W0_FIRST k, g), (TRK_T_W1_COUNT k, n), (TRK_T_W2_LENGTH k, 0), (TRK_T_W3_CRC k, 0)] ∧
        (t.trkVerts k).take l.length = l ∧
        t.trk = { s.trk with verts := t.trk.verts } ∧
        RegsBut [TRK_T_W0_FIRST k, TRK_T_W1_STATE k, TRK_T_W1_COUNT k, TRK_T_W2_LENGTH k, TRK_T_W3_CRC k] s t ∧
        t = { s with regs := t.regs, trk := t.trk, ecp := t.ecp, out := t.out } ∧
        (∀ i : Nat, i < 3 * (g + f) ∨ 3 * (g + f + l.length) ≤ i → Mem.get t.trk.verts i = Mem.get s.trk.verts i))) ∧
    (∀ (s : State) (sess tag : Nat) (k n f : Nat) (l : List (Int × Int × Int)),
      s.stopSafe = true →
      s.accepts 0x0700 sess tag true = true →
      k < 1024 →
      2 ≤ n →
      n ≤ 4096 →
      1 ≤ l.length →
      l.length ≤ 116 →
      f + l.length ≤ n →
      (∀ p ∈ l, -(2 ^ 31) ≤ p.1 ∧ p.1 < 2 ^ 31 ∧ -(2 ^ 31) ≤ p.2.1 ∧ p.2.1 < 2 ^ 31 ∧ -(2 ^ 31) ≤ p.2.2 ∧ p.2.2 < 2 ^ 31) →
      s.trkUsed k = false →
      f ≠ 0 →
      s.trkState k = 1 →
      s.get (TRK_T_W1_COUNT k) = n →
      Mem.wf s.trk.verts = true →
      Does (.trackLoad sess tag ((leBytes 2 k ++ leBytes 2 n ++ leBytes 2 f ++ leBytes 2 l.length ++ vertBytes l))) s (fun t =>
        answers s t [] 0x0700 sess tag Ecp.OK (crc32c (leBytes 2 k ++ leBytes 2 n ++ leBytes 2 f ++ leBytes 2 l.length ++ vertBytes l)) [] = true ∧
        ((t.trkVerts k).drop f).take l.length = l ∧
        t.trk = { s.trk with verts := t.trk.verts } ∧
        RegsBut [] s t ∧
        t = { s with regs := t.regs, trk := t.trk, ecp := t.ecp, out := t.out } ∧
        (∀ i : Nat, i < 3 * (s.get (TRK_T_W0_FIRST k) + f) ∨ 3 * (s.get (TRK_T_W0_FIRST k) + f + l.length) ≤ i → Mem.get t.trk.verts i = Mem.get s.trk.verts i))) ∧
    (∀ (s : State) (sess tag : Nat) (k n f : Nat) (l : List (Int × Int × Int)),
      s.stopSafe = true →
      s.accepts 0x0700 sess tag true = true →
      k < 1024 →
      2 ≤ n →
      n ≤ 4096 →
      1 ≤ l.length →
      l.length ≤ 116 →
      f + l.length ≤ n →
      (∀ p ∈ l, -(2 ^ 31) ≤ p.1 ∧ p.1 < 2 ^ 31 ∧ -(2 ^ 31) ≤ p.2.1 ∧ p.2.1 < 2 ^ 31 ∧ -(2 ^ 31) ≤ p.2.2 ∧ p.2.2 < 2 ^ 31) →
      s.trkUsed k = true →
      Does (.trackLoad sess tag ((leBytes 2 k ++ leBytes 2 n ++ leBytes 2 f ++ leBytes 2 l.length ++ vertBytes l))) s (fun t =>
        answers s t [] 0x0700 sess tag Ecp.DENIED (crc32c (leBytes 2 k ++ leBytes 2 n ++ leBytes 2 f ++ leBytes 2 l.length ++ vertBytes l)) [] = true ∧
        RegsBut [] s t ∧
        t = { s with regs := t.regs, ecp := t.ecp, out := t.out })) ∧
    (∀ (s : State) (sess tag : Nat) (k n f : Nat) (l : List (Int × Int × Int)),
      s.stopSafe = true →
      s.accepts 0x0700 sess tag true = true →
      k < 1024 →
      2 ≤ n →
      n ≤ 4096 →
      1 ≤ l.length →
      l.length ≤ 116 →
      f + l.length ≤ n →
      (∀ p ∈ l, -(2 ^ 31) ≤ p.1 ∧ p.1 < 2 ^ 31 ∧ -(2 ^ 31) ≤ p.2.1 ∧ p.2.1 < 2 ^ 31 ∧ -(2 ^ 31) ≤ p.2.2 ∧ p.2.2 < 2 ^ 31) →
      s.trkUsed k = false →
      f = 0 →
      lowestRun (s.trkRuns k) n = none →
      Does (.trackLoad sess tag ((leBytes 2 k ++ leBytes 2 n ++ leBytes 2 f ++ leBytes 2 l.length ++ vertBytes l))) s (fun t =>
        answers s t [] 0x0700 sess tag Ecp.QUEUE_FULL (crc32c (leBytes 2 k ++ leBytes 2 n ++ leBytes 2 f ++ leBytes 2 l.length ++ vertBytes l)) [] = true ∧
        Reads t [(ECP_CNT_B_QUEUE_FULL, s.adv ECP_CNT_B_QUEUE_FULL)] ∧
        RegsBut [ECP_CNT_B_QUEUE_FULL] s t ∧
        t = { s with regs := t.regs, ecp := t.ecp, out := t.out })) ∧
    (∀ (s : State) (sess tag : Nat) (k n f : Nat) (l : List (Int × Int × Int)),
      s.stopSafe = true →
      s.accepts 0x0700 sess tag true = true →
      k < 1024 →
      2 ≤ n →
      n ≤ 4096 →
      1 ≤ l.length →
      l.length ≤ 116 →
      f + l.length ≤ n →
      (∀ p ∈ l, -(2 ^ 31) ≤ p.1 ∧ p.1 < 2 ^ 31 ∧ -(2 ^ 31) ≤ p.2.1 ∧ p.2.1 < 2 ^ 31 ∧ -(2 ^ 31) ≤ p.2.2 ∧ p.2.2 < 2 ^ 31) →
      s.trkUsed k = false →
      f ≠ 0 →
      s.trkState k ≠ 1 ∨ s.get (TRK_T_W1_COUNT k) ≠ n →
      Does (.trackLoad sess tag ((leBytes 2 k ++ leBytes 2 n ++ leBytes 2 f ++ leBytes 2 l.length ++ vertBytes l))) s (fun t =>
        answers s t [] 0x0700 sess tag Ecp.BAD_PARAM (crc32c (leBytes 2 k ++ leBytes 2 n ++ leBytes 2 f ++ leBytes 2 l.length ++ vertBytes l)) [] = true ∧
        RegsBut [] s t ∧
        t = { s with regs := t.regs, ecp := t.ecp, out := t.out })) ∧
    (∀ (s : State) (sess tag : Nat) (k n f : Nat) (l : List (Int × Int × Int)),
      s.stopSafe = true →
      s.accepts 0x0700 sess tag true = true →
      k < 2 ^ 16 →
      n < 2 ^ 16 →
      f < 2 ^ 16 →
      l.length < 2 ^ 16 →
      1024 ≤ k ∨ n < 2 ∨ 4096 < n ∨ l.length < 1 ∨ 116 < l.length ∨ n < f + l.length →
      Does (.trackLoad sess tag ((leBytes 2 k ++ leBytes 2 n ++ leBytes 2 f ++ leBytes 2 l.length ++ vertBytes l))) s (fun t =>
        answers s t [] 0x0700 sess tag Ecp.BAD_PARAM (crc32c (leBytes 2 k ++ leBytes 2 n ++ leBytes 2 f ++ leBytes 2 l.length ++ vertBytes l)) [] = true ∧
        RegsBut [] s t ∧
        t = { s with regs := t.regs, ecp := t.ecp, out := t.out })) ∧
    (∀ (s : State) (sess tag : Nat) (k len : Nat),
      s.stopSafe = true →
      s.accepts 0x0701 sess tag true = true →
      k < 1024 →
      s.trkState k ≠ 0 →
      twinVerts (s.trkVerts k) = false →
      len = (arcsOf (s.trkVerts k)).getLast?.getD 0 →
      len ≤ 2147483647 →
      Does (.trackSeal sess tag ((leBytes 2 k ++ [0, 0]))) s (fun t =>
        answers s t [] 0x0701 sess tag Ecp.OK (crc32c (leBytes 2 k ++ [0, 0])) (leBytes 4 len ++ leBytes 4 (crc32c (vertBytes (s.trkVerts k)))) = true ∧
        Reads t [(TRK_T_W1_STATE k, 2), (TRK_T_W2_LENGTH k, len), (TRK_T_W3_CRC k, crc32c (vertBytes (s.trkVerts k)))] ∧
        RegsBut [TRK_T_W1_STATE k, TRK_T_W2_LENGTH k, TRK_T_W3_CRC k] s t ∧
        t = { s with regs := t.regs, ecp := t.ecp, out := t.out })) ∧
    (∀ (s : State) (sess tag : Nat) (k len : Nat),
      s.stopSafe = true →
      s.accepts 0x0701 sess tag true = true →
      k < 2 ^ 16 →
      len = (arcsOf (s.trkVerts k)).getLast?.getD 0 →
      1024 ≤ k ∨ s.trkState k = 0 ∨ twinVerts (s.trkVerts k) = true ∨ 2147483647 < len →
      Does (.trackSeal sess tag ((leBytes 2 k ++ [0, 0]))) s (fun t =>
        answers s t [] 0x0701 sess tag Ecp.BAD_PARAM (crc32c (leBytes 2 k ++ [0, 0])) [] = true ∧
        RegsBut [] s t ∧
        t = { s with regs := t.regs, ecp := t.ecp, out := t.out })) ∧
    (∀ (s : State) (sess tag : Nat) (k : Nat),
      s.stopSafe = true →
      s.accepts 0x0702 sess tag true = true →
      k < 1024 →
      s.trkUsed k = false →
      Does (.trackFree sess tag ((leBytes 2 k ++ [0, 0]))) s (fun t =>
        answers s t [] 0x0702 sess tag Ecp.OK (crc32c (leBytes 2 k ++ [0, 0])) [] = true ∧
        Reads t [(TRK_T_W0_FIRST k, 0), (TRK_T_W1_STATE k, 0), (TRK_T_W1_COUNT k, 0), (TRK_T_W2_LENGTH k, 0), (TRK_T_W3_CRC k, 0)] ∧
        RegsBut [TRK_T_W0_FIRST k, TRK_T_W1_STATE k, TRK_T_W1_COUNT k, TRK_T_W2_LENGTH k, TRK_T_W3_CRC k] s t ∧
        t = { s with regs := t.regs, ecp := t.ecp, out := t.out })) ∧
    (∀ (s : State) (sess tag : Nat) (k : Nat),
      s.stopSafe = true →
      s.accepts 0x0702 sess tag true = true →
      k < 1024 →
      s.trkUsed k = true →
      Does (.trackFree sess tag ((leBytes 2 k ++ [0, 0]))) s (fun t =>
        answers s t [] 0x0702 sess tag Ecp.DENIED (crc32c (leBytes 2 k ++ [0, 0])) [] = true ∧
        RegsBut [] s t ∧
        t = { s with regs := t.regs, ecp := t.ecp, out := t.out })) ∧
    (∀ (s : State) (sess tag : Nat) (k : Nat),
      s.stopSafe = true →
      s.accepts 0x0702 sess tag true = true →
      k < 2 ^ 16 →
      1024 ≤ k →
      Does (.trackFree sess tag ((leBytes 2 k ++ [0, 0]))) s (fun t =>
        answers s t [] 0x0702 sess tag Ecp.BAD_PARAM (crc32c (leBytes 2 k ++ [0, 0])) [] = true ∧
        RegsBut [] s t ∧
        t = { s with regs := t.regs, ecp := t.ecp, out := t.out })) ∧
    (∀ (s : State) (sess tag : Nat) (a hm d k tg : Nat),
      s.stopSafe = true →
      s.accepts 0x0703 sess tag true = true →
      isAddr a = true →
      hm ≤ 1 →
      d ≤ 8 →
      k < 1024 →
      tg < 2 ^ 32 →
      s.trkState k = 2 →
      tg ≤ s.get (TRK_T_W2_LENGTH k) →
      s.limZero a = false →
      s.pchState a ≠ 7 →
      Does (.move sess tag (([a, hm, d, 0] ++ leBytes 2 k ++ [0, 0] ++ leBytes 4 tg))) s (fun t =>
        opens s t [] 0x0703 sess tag (crc32c ([a, hm, d, 0] ++ leBytes 2 k ++ [0, 0] ++ leBytes 4 tg)) (some (t.progressBytes sess tag)) = true ∧
        t.pch a = { s.pch a with reqs := (s.pch a).reqs ++ [.move sess tag (hm == 1) d k (tg : Int)] } ∧
        RegsBut [] s t ∧
        t = { s with regs := t.regs, trk := t.trk, ecp := t.ecp, out := t.out } ∧
        (∀ x : Nat, x ≠ a → t.pch x = s.pch x))) ∧
    (∀ (s : State) (sess tag : Nat) (a hm d k tg : Nat),
      s.stopSafe = true →
      s.accepts 0x0703 sess tag true = true →
      isAddr a = true →
      hm ≤ 1 →
      d ≤ 8 →
      k < 1024 →
      tg < 2 ^ 32 →
      s.trkState k ≠ 2 ∨ (tg ≤ s.get (TRK_T_W2_LENGTH k) ∧ (s.limZero a = true ∨ s.pchState a = 7)) →
      Does (.move sess tag (([a, hm, d, 0] ++ leBytes 2 k ++ [0, 0] ++ leBytes 4 tg))) s (fun t =>
        answers s t [] 0x0703 sess tag Ecp.DENIED (crc32c ([a, hm, d, 0] ++ leBytes 2 k ++ [0, 0] ++ leBytes 4 tg)) [] = true ∧
        RegsBut [] s t ∧
        t = { s with regs := t.regs, ecp := t.ecp, out := t.out })) ∧
    (∀ (s : State) (sess tag : Nat) (a hm d k tg : Nat),
      s.stopSafe = true →
      s.accepts 0x0703 sess tag true = true →
      a < 256 →
      hm < 256 →
      d < 256 →
      k < 2 ^ 16 →
      tg < 2 ^ 32 →
      isAddr a = false ∨ 1 < hm ∨ 8 < d ∨ 1024 ≤ k ∨ (s.trkState k = 2 ∧ s.get (TRK_T_W2_LENGTH k) < tg) →
      Does (.move sess tag (([a, hm, d, 0] ++ leBytes 2 k ++ [0, 0] ++ leBytes 4 tg))) s (fun t =>
        answers s t [] 0x0703 sess tag Ecp.BAD_PARAM (crc32c ([a, hm, d, 0] ++ leBytes 2 k ++ [0, 0] ++ leBytes 4 tg)) [] = true ∧
        RegsBut [] s t ∧
        t = { s with regs := t.regs, ecp := t.ecp, out := t.out })) ∧
    (∀ (s : State) (sess tag : Nat) (a : Nat),
      s.stopSafe = true →
      s.accepts 0x0704 sess tag true = true →
      isAddr a = true →
      Does (.halt sess tag ([a, 0, 0, 0])) s (fun t =>
        opens s t [] 0x0704 sess tag (crc32c [a, 0, 0, 0]) (some (t.progressBytes sess tag)) = true ∧
        t.pch a = { s.pch a with reqs := (s.pch a).reqs ++ [.halt sess tag] } ∧
        RegsBut [] s t ∧
        t = { s with regs := t.regs, trk := t.trk, ecp := t.ecp, out := t.out } ∧
        (∀ x : Nat, x ≠ a → t.pch x = s.pch x))) ∧
    (∀ (s : State) (sess tag : Nat) (a : Nat),
      s.stopSafe = true →
      s.accepts 0x0704 sess tag true = true →
      a < 256 →
      isAddr a = false →
      Does (.halt sess tag ([a, 0, 0, 0])) s (fun t =>
        answers s t [] 0x0704 sess tag Ecp.BAD_PARAM (crc32c [a, 0, 0, 0]) [] = true ∧
        RegsBut [] s t ∧
        t = { s with regs := t.regs, ecp := t.ecp, out := t.out })) ∧
    (∀ (s : State) (sess tag : Nat) (a : Nat),
      s.stopSafe = true →
      s.accepts 0x0705 sess tag true = true →
      isAddr a = true →
      s.pchState a = 6 ∨ s.pchState a = 7 →
      Does (.chanRelease sess tag ([a, 0, 0, 0])) s (fun t =>
        answers s t [] 0x0705 sess tag Ecp.OK (crc32c [a, 0, 0, 0]) [] = true ∧
        Reads t [(PCH_W5_STATE a, 0), (PCH_W5_REASON a, 0), (PCH_W5_DOCKED a, 0), (PCH_W5_Q a, 0), (PCH_W5_GEAR_LIMITED a, 0)] ∧
        t.pch a = { slot0 := (s.pch a).slot0, slot1 := (s.pch a).slot1, load := (s.pch a).load, reqs := (s.pch a).reqs } ∧
        RegsBut [PCH_W5_STATE a, PCH_W5_REASON a, PCH_W5_DOCKED a, PCH_W5_Q a, PCH_W5_GEAR_LIMITED a] s t ∧
        t = { s with regs := t.regs, trk := t.trk, ecp := t.ecp, out := t.out } ∧
        (∀ x : Nat, x ≠ a → t.pch x = s.pch x))) ∧
    (∀ (s : State) (sess tag : Nat) (a : Nat),
      s.stopSafe = true →
      s.accepts 0x0705 sess tag true = true →
      isAddr a = true →
      s.pchState a ≠ 6 →
      s.pchState a ≠ 7 →
      Does (.chanRelease sess tag ([a, 0, 0, 0])) s (fun t =>
        answers s t [] 0x0705 sess tag Ecp.DENIED (crc32c [a, 0, 0, 0]) [] = true ∧
        RegsBut [] s t ∧
        t = { s with regs := t.regs, ecp := t.ecp, out := t.out })) ∧
    (∀ (s : State) (sess tag : Nat) (a : Nat),
      s.stopSafe = true →
      s.accepts 0x0705 sess tag true = true →
      a < 256 →
      isAddr a = false →
      Does (.chanRelease sess tag ([a, 0, 0, 0])) s (fun t =>
        answers s t [] 0x0705 sess tag Ecp.BAD_PARAM (crc32c [a, 0, 0, 0]) [] = true ∧
        RegsBut [] s t ∧
        t = { s with regs := t.regs, ecp := t.ecp, out := t.out })) ∧
    (∀ (s : State) (sess tag : Nat) (p : Nat),
      s.stopSafe = true →
      s.accepts 0x0706 sess tag true = true →
      p < 64 →
      s.gearOk p = true →
      Does (.gearEngage sess tag ([p, 0, 0, 0])) s (fun t =>
        opens s t [] 0x0706 sess tag (crc32c [p, 0, 0, 0]) (some (t.progressBytes sess tag)) = true ∧
        t.pch (s.get (GEAR_W0_FOLLOWER p)) = { s.pch (s.get (GEAR_W0_FOLLOWER p)) with reqs := (s.pch (s.get (GEAR_W0_FOLLOWER p))).reqs ++ [.engage sess tag p] } ∧
        RegsBut [] s t ∧
        t = { s with regs := t.regs, trk := t.trk, ecp := t.ecp, out := t.out } ∧
        (∀ x : Nat, x ≠ s.get (GEAR_W0_FOLLOWER p) → t.pch x = s.pch x))) ∧
    (∀ (s : State) (sess tag : Nat) (p : Nat),
      s.stopSafe = true →
      s.accepts 0x0706 sess tag true = true →
      p < 64 →
      s.gearOk p = false →
      Does (.gearEngage sess tag ([p, 0, 0, 0])) s (fun t =>
        answers s t [] 0x0706 sess tag Ecp.DENIED (crc32c [p, 0, 0, 0]) [] = true ∧
        RegsBut [] s t ∧
        t = { s with regs := t.regs, ecp := t.ecp, out := t.out })) ∧
    (∀ (s : State) (sess tag : Nat) (p : Nat),
      s.stopSafe = true →
      s.accepts 0x0706 sess tag true = true →
      p < 256 →
      64 ≤ p →
      Does (.gearEngage sess tag ([p, 0, 0, 0])) s (fun t =>
        answers s t [] 0x0706 sess tag Ecp.BAD_PARAM (crc32c [p, 0, 0, 0]) [] = true ∧
        RegsBut [] s t ∧
        t = { s with regs := t.regs, ecp := t.ecp, out := t.out })) ∧
    (∀ (s : State) (sess tag : Nat) (p : Nat),
      s.stopSafe = true →
      s.accepts 0x0707 sess tag true = true →
      p < 64 →
      Does (.gearDisengage sess tag ([p, 0, 0, 0])) s (fun t =>
        opens s t [] 0x0707 sess tag (crc32c [p, 0, 0, 0]) (some (t.progressBytes sess tag)) = true ∧
        t.pch (s.get (GEAR_W0_FOLLOWER p)) = { s.pch (s.get (GEAR_W0_FOLLOWER p)) with reqs := (s.pch (s.get (GEAR_W0_FOLLOWER p))).reqs ++ [.disengage sess tag p] } ∧
        RegsBut [] s t ∧
        t = { s with regs := t.regs, trk := t.trk, ecp := t.ecp, out := t.out } ∧
        (∀ x : Nat, x ≠ s.get (GEAR_W0_FOLLOWER p) → t.pch x = s.pch x))) ∧
    (∀ (s : State) (sess tag : Nat) (p : Nat),
      s.stopSafe = true →
      s.accepts 0x0707 sess tag true = true →
      p < 256 →
      64 ≤ p →
      Does (.gearDisengage sess tag ([p, 0, 0, 0])) s (fun t =>
        answers s t [] 0x0707 sess tag Ecp.BAD_PARAM (crc32c [p, 0, 0, 0]) [] = true ∧
        RegsBut [] s t ∧
        t = { s with regs := t.regs, ecp := t.ecp, out := t.out })) ∧
    (∀ (s : State) (a k0 : Nat) (p : Config.PlanIn) (x : PchState),
      s.stopSafe = true →
      isAddr a = true →
      x = s.pch a →
      x.plan = some (p, k0) →
      k0 * 100 + planMs p ≤ s.time.k * 100 + s.sinceNs / 1000000 →
      s.pchState a = 2 →
      x.move = none →
      Does (.profileRestReached a) s (fun t =>
        Reads t [(PCH_W5_STATE a, 6), (PCH_W5_REASON a, 1)] ∧
        t.pch a = { x with plan := none, arcs := [], docking := false, behind := false, epochs := 0 } ∧
        RegsBut [PCH_W5_STATE a, PCH_W5_REASON a] s t ∧
        t = { s with regs := t.regs, trk := t.trk } ∧
        (∀ x : Nat, x ≠ a → t.pch x = s.pch x))) ∧
    (∀ (s : State) (a k0 : Nat) (p : Config.PlanIn) (x : PchState),
      s.stopSafe = true →
      isAddr a = true →
      x = s.pch a →
      x.plan = some (p, k0) →
      k0 * 100 + planMs p ≤ s.time.k * 100 + s.sinceNs / 1000000 →
      s.pchState a = 4 →
      x.move = none →
      Does (.profileRestReached a) s (fun t =>
        Reads t [(PCH_W5_STATE a, 6), (PCH_W5_REASON a, 5)] ∧
        t.pch a = { x with plan := none, arcs := [], docking := false, behind := false, epochs := 0 } ∧
        Reads t [(TRK_CNT_DOCK_FAULT, s.adv TRK_CNT_DOCK_FAULT)] ∧
        RegsBut [PCH_W5_STATE a, PCH_W5_REASON a, TRK_CNT_DOCK_FAULT] s t ∧
        t = { s with regs := t.regs, trk := t.trk } ∧
        (∀ x : Nat, x ≠ a → t.pch x = s.pch x))) ∧
    (∀ (s : State) (a k0 : Nat) (p : Config.PlanIn) (x : PchState),
      s.stopSafe = true →
      isAddr a = true →
      x = s.pch a →
      x.plan = some (p, k0) →
      k0 * 100 + planMs p ≤ s.time.k * 100 + s.sinceNs / 1000000 →
      s.pchState a = 5 →
      x.behind = true →
      x.move = none →
      Does (.profileRestReached a) s (fun t =>
        Reads t [(PCH_W5_STATE a, 6), (PCH_W5_REASON a, 3)] ∧
        Reads t [(TRK_CNT_BEHIND, s.adv TRK_CNT_BEHIND)] ∧
        t.pch a = { x with plan := none, arcs := [], docking := false, behind := false, epochs := 0 } ∧
        t.freeCtr = s.freeCtr + 1 ∧
        RegsBut [PCH_W5_STATE a, PCH_W5_REASON a, TRK_CNT_BEHIND] s t ∧
        t = { s with regs := t.regs, trk := t.trk, freeCtr := t.freeCtr } ∧
        (∀ x : Nat, x ≠ a → t.pch x = s.pch x))) ∧
    (∀ (s : State) (a k0 : Nat) (p : Config.PlanIn) (x : PchState),
      s.stopSafe = true →
      isAddr a = true →
      x = s.pch a →
      x.plan = some (p, k0) →
      k0 * 100 + planMs p ≤ s.time.k * 100 + s.sinceNs / 1000000 →
      s.pchState a = 5 →
      x.behind = false →
      x.docking = true →
      x.move = none →
      Does (.profileRestReached a) s (fun t =>
        Reads t [(PCH_W5_STATE a, 6), (PCH_W5_REASON a, 5)] ∧
        t.pch a = { x with plan := none, arcs := [], docking := false, behind := false, epochs := 0 } ∧
        Reads t [(PCH_W5_DOCKED a, 1)] ∧
        RegsBut [PCH_W5_STATE a, PCH_W5_REASON a, PCH_W5_DOCKED a] s t ∧
        t = { s with regs := t.regs, trk := t.trk } ∧
        (∀ x : Nat, x ≠ a → t.pch x = s.pch x))) ∧
    (∀ (s : State) (a k0 : Nat) (p : Config.PlanIn) (x : PchState),
      s.stopSafe = true →
      isAddr a = true →
      x = s.pch a →
      x.plan = some (p, k0) →
      k0 * 100 + planMs p ≤ s.time.k * 100 + s.sinceNs / 1000000 →
      s.pchState a = 5 →
      x.behind = false →
      x.docking = false →
      x.reason < 16 →
      x.move = none →
      Does (.profileRestReached a) s (fun t =>
        Reads t [(PCH_W5_STATE a, 6), (PCH_W5_REASON a, x.reason)] ∧
        t.pch a = { x with plan := none, arcs := [], docking := false, behind := false, epochs := 0 } ∧
        RegsBut [PCH_W5_STATE a, PCH_W5_REASON a] s t ∧
        t = { s with regs := t.regs, trk := t.trk } ∧
        (∀ x : Nat, x ≠ a → t.pch x = s.pch x))) ∧
    (∀ (s : State) (a k0 : Nat) (p : Config.PlanIn) (x : PchState) (u : State) (mv : MoveRec) (y : EcpSession) (o : EcpOpen),
      s.stopSafe = true →
      isAddr a = true →
      x = s.pch a →
      x.plan = some (p, k0) →
      k0 * 100 + planMs p ≤ s.time.k * 100 + s.sinceNs / 1000000 →
      s.pchState a = 2 →
      x.move = some mv →
      u = State.setPch (State.puts s [(PCH_W5_STATE a, 6), (PCH_W5_REASON a, 1)]) a { { x with plan := none, arcs := [], docking := false, behind := false, epochs := 0 } with move := none } →
      s.session mv.sess = some y →
      y.inProg.find? (fun (z : EcpOpen) => z.tag == mv.tag) = some o →
      unheldOp o.op = false →
      y.devSeq < 0xFFFFFFFF →
      s.sessSends y = true →
      mv.sess ≠ 8 ∨ s.ecp.spiOut.length < 16 →
      Does (.profileRestReached a) s (fun t =>
        sends u t y [] [⟨o.op, mv.tag, Ecp.OK, respFlags y, y.devSeq + 1, (moveBytes 0 6 (rdiv x.rest 1000)), y.key⟩] = true ∧
        t.session mv.sess = some { y with devSeq := y.devSeq + 1, inProg := y.inProg.filter (fun z => z.tag ≠ mv.tag), held := (holdResult y ⟨mv.tag, o.op, o.crc, Ecp.OK, (moveBytes 0 6 (rdiv x.rest 1000)), true⟩).held } ∧
        onlySession u t mv.sess = true ∧
        t = { u with ecp := t.ecp, out := t.out } ∧
        t.regs = u.regs)) ∧
    (∀ (s : State) (a k0 : Nat) (p : Config.PlanIn) (x : PchState) (u : State) (mv : MoveRec) (y : EcpSession) (o : EcpOpen),
      s.stopSafe = true →
      isAddr a = true →
      x = s.pch a →
      x.plan = some (p, k0) →
      k0 * 100 + planMs p ≤ s.time.k * 100 + s.sinceNs / 1000000 →
      s.pchState a = 4 →
      x.move = some mv →
      u = State.setPch (State.bump (State.puts s [(PCH_W5_STATE a, 6), (PCH_W5_REASON a, 5)]) TRK_CNT_DOCK_FAULT) a { { x with plan := none, arcs := [], docking := false, behind := false, epochs := 0 } with move := none } →
      s.session mv.sess = some y →
      y.inProg.find? (fun (z : EcpOpen) => z.tag == mv.tag) = some o →
      unheldOp o.op = false →
      y.devSeq < 0xFFFFFFFF →
      s.sessSends y = true →
      mv.sess ≠ 8 ∨ s.ecp.spiOut.length < 16 →
      Does (.profileRestReached a) s (fun t =>
        sends u t y [] [⟨o.op, mv.tag, Ecp.OK, respFlags y, y.devSeq + 1, (moveBytes 6 6 (rdiv x.rest 1000)), y.key⟩] = true ∧
        t.session mv.sess = some { y with devSeq := y.devSeq + 1, inProg := y.inProg.filter (fun z => z.tag ≠ mv.tag), held := (holdResult y ⟨mv.tag, o.op, o.crc, Ecp.OK, (moveBytes 6 6 (rdiv x.rest 1000)), true⟩).held } ∧
        onlySession u t mv.sess = true ∧
        t = { u with ecp := t.ecp, out := t.out } ∧
        t.regs = u.regs)) ∧
    (∀ (s : State) (a k0 : Nat) (p : Config.PlanIn) (x : PchState) (u : State) (mv : MoveRec) (y : EcpSession) (o : EcpOpen),
      s.stopSafe = true →
      isAddr a = true →
      x = s.pch a →
      x.plan = some (p, k0) →
      k0 * 100 + planMs p ≤ s.time.k * 100 + s.sinceNs / 1000000 →
      s.pchState a = 5 →
      x.behind = true →
      x.move = some mv →
      u = State.setPch (State.useFree (State.bump (State.puts s [(PCH_W5_STATE a, 6), (PCH_W5_REASON a, 3)]) TRK_CNT_BEHIND)) a { { x with plan := none, arcs := [], docking := false, behind := false, epochs := 0 } with move := none } →
      s.session mv.sess = some y →
      y.inProg.find? (fun (z : EcpOpen) => z.tag == mv.tag) = some o →
      unheldOp o.op = false →
      y.devSeq < 0xFFFFFFFF →
      s.sessSends y = true →
      mv.sess ≠ 8 ∨ s.ecp.spiOut.length < 16 →
      Does (.profileRestReached a) s (fun t =>
        sends u t y [] [⟨o.op, mv.tag, Ecp.TARGET_BEHIND, respFlags y, y.devSeq + 1, (moveBytes s.freeVal 6 (rdiv x.rest 1000)), y.key⟩] = true ∧
        t.session mv.sess = some { y with devSeq := y.devSeq + 1, inProg := y.inProg.filter (fun z => z.tag ≠ mv.tag), held := (holdResult y ⟨mv.tag, o.op, o.crc, Ecp.TARGET_BEHIND, (moveBytes s.freeVal 6 (rdiv x.rest 1000)), true⟩).held } ∧
        onlySession u t mv.sess = true ∧
        t = { u with ecp := t.ecp, out := t.out } ∧
        t.regs = u.regs)) ∧
    (∀ (s : State) (a k0 : Nat) (p : Config.PlanIn) (x : PchState) (u : State) (mv : MoveRec) (y : EcpSession) (o : EcpOpen),
      s.stopSafe = true →
      isAddr a = true →
      x = s.pch a →
      x.plan = some (p, k0) →
      k0 * 100 + planMs p ≤ s.time.k * 100 + s.sinceNs / 1000000 →
      s.pchState a = 5 →
      x.behind = false →
      x.docking = true →
      x.move = some mv →
      u = State.setPch (State.puts s [(PCH_W5_STATE a, 6), (PCH_W5_REASON a, 5), (PCH_W5_DOCKED a, 1)]) a { { x with plan := none, arcs := [], docking := false, behind := false, epochs := 0 } with move := none } →
      s.session mv.sess = some y →
      y.inProg.find? (fun (z : EcpOpen) => z.tag == mv.tag) = some o →
      unheldOp o.op = false →
      y.devSeq < 0xFFFFFFFF →
      s.sessSends y = true →
      mv.sess ≠ 8 ∨ s.ecp.spiOut.length < 16 →
      Does (.profileRestReached a) s (fun t =>
        sends u t y [] [⟨o.op, mv.tag, Ecp.OK, respFlags y, y.devSeq + 1, (moveBytes 5 6 (rdiv x.rest 1000)), y.key⟩] = true ∧
        t.session mv.sess = some { y with devSeq := y.devSeq + 1, inProg := y.inProg.filter (fun z => z.tag ≠ mv.tag), held := (holdResult y ⟨mv.tag, o.op, o.crc, Ecp.OK, (moveBytes 5 6 (rdiv x.rest 1000)), true⟩).held } ∧
        onlySession u t mv.sess = true ∧
        t = { u with ecp := t.ecp, out := t.out } ∧
        t.regs = u.regs)) ∧
    (∀ (s : State) (a k0 : Nat) (p : Config.PlanIn) (x : PchState) (u : State) (mv : MoveRec) (y : EcpSession) (o : EcpOpen),
      s.stopSafe = true →
      isAddr a = true →
      x = s.pch a →
      x.plan = some (p, k0) →
      k0 * 100 + planMs p ≤ s.time.k * 100 + s.sinceNs / 1000000 →
      s.pchState a = 5 →
      x.behind = false →
      x.docking = false →
      x.move = some mv →
      u = State.setPch (State.puts s [(PCH_W5_STATE a, 6), (PCH_W5_REASON a, x.reason)]) a { { x with plan := none, arcs := [], docking := false, behind := false, epochs := 0 } with move := none } →
      s.session mv.sess = some y →
      y.inProg.find? (fun (z : EcpOpen) => z.tag == mv.tag) = some o →
      unheldOp o.op = false →
      y.devSeq < 0xFFFFFFFF →
      s.sessSends y = true →
      mv.sess ≠ 8 ∨ s.ecp.spiOut.length < 16 →
      Does (.profileRestReached a) s (fun t =>
        sends u t y [] [⟨o.op, mv.tag, Ecp.OK, respFlags y, y.devSeq + 1, (moveBytes x.outcome 6 (rdiv x.rest 1000)), y.key⟩] = true ∧
        t.session mv.sess = some { y with devSeq := y.devSeq + 1, inProg := y.inProg.filter (fun z => z.tag ≠ mv.tag), held := (holdResult y ⟨mv.tag, o.op, o.crc, Ecp.OK, (moveBytes x.outcome 6 (rdiv x.rest 1000)), true⟩).held } ∧
        onlySession u t mv.sess = true ∧
        t = { u with ecp := t.ecp, out := t.out } ∧
        t.regs = u.regs)) ∧
    (∀ (s : State) (a : Nat),
      s.stopSafe = true →
      isAddr a = false ∨ s.atRest a = false ∨ (s.pchState a ≠ 2 ∧ s.pchState a ≠ 4 ∧ s.pchState a ≠ 5) →
      Does (.profileRestReached a) s (fun t =>
        t = s)) ∧
    (∀ (s : State) (k : Nat) (l1 l2 l3 pol : Bool),
      s.stopSafe = true →
      k < 8 →
      s.getBit DOCK_CFG_EN k = true →
      pol = s.getBit DOCK_CFG_POLARITY k →
      (l1 == pol) ≠ s.getBit DOCK_STATE_CLOSED k →
      (l3 == pol) ≠ s.getBit DOCK_STATE_CLOSED k →
      s.trk.dockAt.any (fun (e : Nat × Nat) => e.1 == k && decide (s.ply < e.2 + 3)) = false →
      allAddrs.all (fun (a : Nat) => s.pchState a == 0 || (s.pch a).dock != k) = true →
      Does (.dockInputConfirm k l1 l2 l3) s (fun t =>
        t.getBit DOCK_STATE_CLOSED k = (l3 == pol) ∧
        t.getBit DOCK_STATE_CHANGED k = true ∧
        t.evr = (s.record .dockChange [k, b2n (l3 == pol)]).evr ∧
        t.trk = { s.trk with dockAt := s.trk.dockAt.filter (fun (e : Nat × Nat) => e.1 ≠ k) ++ [(k, s.ply)] } ∧
        (List.range 8).all (fun j => j == k || t.getBit DOCK_STATE_CLOSED j == s.getBit DOCK_STATE_CLOSED j && t.getBit DOCK_STATE_CHANGED j == s.getBit DOCK_STATE_CHANGED j) = true ∧
        RegsBut [DOCK_STATE_CLOSED, DOCK_STATE_CHANGED, REC_CNT_QUEUE_DROP] s t ∧
        t = { s with regs := t.regs, trk := t.trk, evr := t.evr })) ∧
    (∀ (s : State) (k : Nat) (l1 l2 l3 pol : Bool) (u v : State),
      s.stopSafe = true →
      k < 8 →
      s.getBit DOCK_CFG_EN k = true →
      pol = s.getBit DOCK_CFG_POLARITY k →
      (l1 == pol) ≠ s.getBit DOCK_STATE_CLOSED k →
      (l3 == pol) ≠ s.getBit DOCK_STATE_CLOSED k →
      s.trk.dockAt.any (fun (e : Nat × Nat) => e.1 == k && decide (s.ply < e.2 + 3)) = false →
      u = { s with trk := { s.trk with dockAt := s.trk.dockAt.filter (fun (e : Nat × Nat) => e.1 ≠ k) ++ [(k, s.ply)] } } →
      v = State.record (State.putBit (State.putBit u DOCK_STATE_CLOSED k (l3 == pol)) DOCK_STATE_CHANGED k true) .dockChange [k, b2n (l3 == pol)] →
      Does (.dockInputConfirm k l1 l2 l3) s (fun t =>
        t = allAddrs.foldl (fun (x : State) (a : Nat) => if x.pchState a ≠ 0 ∧ (x.pch a).dock = k then x.dockOutcome a (l3 == pol) true else x) v)) ∧
    (∀ (s : State) (k : Nat) (l1 l2 l3 pol : Bool),
      s.stopSafe = true →
      k < 8 →
      s.getBit DOCK_CFG_EN k = true →
      pol = s.getBit DOCK_CFG_POLARITY k →
      (l1 == pol) ≠ s.getBit DOCK_STATE_CLOSED k →
      (l3 == pol) = s.getBit DOCK_STATE_CLOSED k →
      s.trk.dockAt.any (fun (e : Nat × Nat) => e.1 == k && decide (s.ply < e.2 + 3)) = false →
      Does (.dockInputConfirm k l1 l2 l3) s (fun t =>
        t.trk = { s.trk with dockAt := s.trk.dockAt.filter (fun (e : Nat × Nat) => e.1 ≠ k) ++ [(k, s.ply)] } ∧
        RegsBut [] s t ∧
        t = { s with regs := t.regs, trk := t.trk })) ∧
    (∀ (s : State) (k : Nat) (l1 l2 l3 : Bool),
      s.stopSafe = true →
      8 ≤ k ∨ s.getBit DOCK_CFG_EN k = false ∨ (l1 == s.getBit DOCK_CFG_POLARITY k) = s.getBit DOCK_STATE_CLOSED k ∨ s.trk.dockAt.any (fun (e : Nat × Nat) => e.1 == k && decide (s.ply < e.2 + 3)) = true →
      Does (.dockInputConfirm k l1 l2 l3) s (fun t =>
        t = s))

/-- A channel of a live loop found open again outside its test is confirmed open: its loop is open, its tests are dropped
and it is stop source LOOP. The last sample of a test ends it: low throughout on a closed loop it counts as passed,
and a high sample latches the loop's LOOP_TEST fault. A discrepancy and a feedback mismatch that have lasted their
time, an uncorrectable Rook SRAM error and two CLK_RWDOG counts out of range in a row latch their faults, with the
summary bits and a record; each fault is source FAULT, a loop fault source LOOP too. A fault latched already, a loop
not live and a cause that has not lasted change nothing more. One or two bits in error of an SRAM are corrected and
counted; more in another SRAM than Rook's are counted and recorded with the loss R623 names. A lockstep mismatch of a
running pair and a watchdog expiry assert their sources, which puts the stop state in force by RESET. A service
sequence restarts the watchdog; any other value expires it; before the start it does nothing. (Rests on: R110, R512,
R513, R514, R515, R516, R518, R519, R520, R521, R524, R623.) -/
def Obligations.StopSourcesOfRookAndItsFaults : Prop :=
    (∀ (s : State) (j : Nat),
      s.stopSafe = true →
      j < 16 →
      s.loopLive (j / 2) = true →
      s.underTest j = false →
      1 ≤ (s.estop j).openRun →
      (s.estop j).conf ≠ 2 →
      Does (.estopLoopOpen j) s (fun t =>
        StopOn 0 s t ∧
        t = State.enterStop (State.dropTests (State.putBit (State.setEstop s j { s.estop j with openRun := 2, closedRun := 0, conf := 2, since := none }) LOOP_STATUS_OPEN (j / 2) true) (j / 2)) 0 ∧
        t.getBit LOOP_STATUS_OPEN (j / 2) = true ∧
        ((t.estop j).conf, (t.estop j).tested, (t.estop j).since) = (2, false, none) ∧
        (∀ x : Nat, x < 8 → x ≠ j / 2 → t.getBit LOOP_STATUS_OPEN x = s.getBit LOOP_STATUS_OPEN x) ∧
        StopKeeps [LOOP_STATUS_OPEN] false s t)) ∧
    (∀ (s : State) (j : Nat),
      s.stopSafe = true →
      16 ≤ j ∨ s.loopLive (j / 2) = false ∨ s.underTest j = true ∨ (s.estop j).openRun = 0 ∨ (s.estop j).conf = 2 →
      Does (.estopLoopOpen j) s (fun t =>
        t = s)) ∧
    (∀ (s : State) (j p : Nat),
      s.stopSafe = true →
      j < 16 →
      s.loopLive (j / 2) = true →
      (s.estop j).test = some p →
      s.ply = p + 5 →
      (s.estop j).testBad = false →
      s.getBit LOOP_STATUS_OPEN (j / 2) = false →
      Does (.loopTestPulse j false) s (fun t =>
        t.estop j = { s.estop j with tested := true } ∧
        t.rook = { s.rook with ch := t.rook.ch } ∧
        RegsBut [] s t ∧
        t = { s with regs := t.regs, rook := t.rook } ∧
        (∀ x : Nat, x ≠ j → t.estop x = s.estop x))) ∧
    (∀ (s : State) (j p : Nat),
      s.stopSafe = true →
      j < 16 →
      s.loopLive (j / 2) = true →
      (s.estop j).test = some p →
      s.ply = p + 5 →
      (s.estop j).testBad = false →
      s.getBit LOOP_STATUS_OPEN (j / 2) = true →
      Does (.loopTestPulse j false) s (fun t =>
        t.estop j = s.estop j ∧
        t.rook = { s.rook with ch := t.rook.ch } ∧
        RegsBut [] s t ∧
        t = { s with regs := t.regs, rook := t.rook } ∧
        (∀ x : Nat, x ≠ j → t.estop x = s.estop x))) ∧
    (∀ (s : State) (j p : Nat) (sns : Bool),
      s.stopSafe = true →
      j < 16 →
      s.loopLive (j / 2) = true →
      (s.estop j).test = some p →
      s.ply = p + 5 →
      ((s.estop j).testBad || sns) = true →
      bitOf s.rook.ltBits (j / 2) = false →
      Does (.loopTestPulse j sns) s (fun t =>
        StopOn 0 s t ∧
        StopOn 4 s t ∧
        t.rook.ltBits = setBit s.rook.ltBits (j / 2) ∧
        t.rook.dcBits = s.rook.dcBits ∧
        Reads t [(ROOK_FAULT_LOOP_TEST, 1), (ROOK_STATE_FAULT, 1), (ROOK_FAULT_LOOP, t.rook.ltBits ||| t.rook.dcBits)] ∧
        (s.rst.held.contains .sys ∨ 64 ≤ s.evr.queue.length ∨ (t.evr.queue.dropLast = s.evr.queue ∧ t.evr.queue.getLast?.map (fun (r : Rec) => (r.ev, r.payload)) = some (Ev.rookFault, [1, j / 2]))) ∧
        t = (let z := State.setEstop s j { s.estop j with testBad := true }; State.faultLatched (State.enterStop (State.dropTests { z with rook := { z.rook with ltBits := setBit z.rook.ltBits (j / 2) } } (j / 2)) 0) 1 (j / 2)) ∧
        StopKeeps [ROOK_FAULT_LOOP, ROOK_FAULT_LOOP_TEST, ROOK_FAULT_DISCREPANCY, ROOK_FAULT_RELAY_FB, ROOK_STATE_FAULT, REC_CNT_QUEUE_DROP] true s t)) ∧
    (∀ (s : State) (j p : Nat) (sns : Bool),
      s.stopSafe = true →
      j < 16 →
      s.loopLive (j / 2) = true →
      (s.estop j).test = some p →
      s.ply = p + 5 →
      ((s.estop j).testBad || sns) = true →
      bitOf s.rook.ltBits (j / 2) = true →
      Does (.loopTestPulse j sns) s (fun t =>
        t.estop j = { s.estop j with testBad := true } ∧
        t.rook = { s.rook with ch := t.rook.ch } ∧
        RegsBut [] s t ∧
        t = { s with regs := t.regs, rook := t.rook } ∧
        (∀ x : Nat, x ≠ j → t.estop x = s.estop x))) ∧
    (∀ (s : State) (j : Nat) (sns : Bool),
      s.stopSafe = true →
      16 ≤ j ∨ s.loopLive (j / 2) = false ∨ (s.estop j).test = none ∨ (s.estop j).test.any (fun (p : Nat) => s.ply != p + 5) = true →
      Does (.loopTestPulse j sns) s (fun t =>
        t = s)) ∧
    (∀ (s : State) (n : Nat),
      s.stopSafe = true →
      s.loopLive n = true →
      heldFor s.rook.disc n s.ply (s.get LOOP_CFG_DISC * 1000) = true →
      bitOf s.rook.dcBits n = false →
      Does (.loopDiscrepancy n) s (fun t =>
        StopOn 0 s t ∧
        StopOn 4 s t ∧
        t.rook.dcBits = setBit s.rook.dcBits n ∧
        t.rook.ltBits = s.rook.ltBits ∧
        Reads t [(ROOK_FAULT_DISCREPANCY, 1), (ROOK_STATE_FAULT, 1), (ROOK_FAULT_LOOP, t.rook.ltBits ||| t.rook.dcBits)] ∧
        (s.rst.held.contains .sys ∨ 64 ≤ s.evr.queue.length ∨ (t.evr.queue.dropLast = s.evr.queue ∧ t.evr.queue.getLast?.map (fun (r : Rec) => (r.ev, r.payload)) = some (Ev.rookFault, [2, n]))) ∧
        t = State.faultLatched (State.enterStop (State.dropTests { s with rook := { s.rook with dcBits := setBit s.rook.dcBits n } } n) 0) 2 n ∧
        StopKeeps [ROOK_FAULT_LOOP, ROOK_FAULT_LOOP_TEST, ROOK_FAULT_DISCREPANCY, ROOK_FAULT_RELAY_FB, ROOK_STATE_FAULT, REC_CNT_QUEUE_DROP] true s t)) ∧
    (∀ (s : State) (n : Nat),
      s.stopSafe = true →
      s.loopLive n = false ∨ heldFor s.rook.disc n s.ply (s.get LOOP_CFG_DISC * 1000) = false ∨ bitOf s.rook.dcBits n = true →
      Does (.loopDiscrepancy n) s (fun t =>
        t = s)) ∧
    (∀ (s : State) (n : Nat),
      s.stopSafe = true →
      n < 4 →
      heldFor s.rook.fbDiff n s.ply (s.get RELAY_CFG_FB_MS * 100) = true →
      s.rookHeld = false →
      s.getBit ROOK_FAULT_RELAY n = false →
      Does (.relayFbMismatch n) s (fun t =>
        StopOn 4 s t ∧
        t.getBit ROOK_FAULT_RELAY n = true ∧
        Reads t [(ROOK_FAULT_RELAY_FB, 1), (ROOK_STATE_FAULT, 1)] ∧
        (s.rst.held.contains .sys ∨ 64 ≤ s.evr.queue.length ∨ (t.evr.queue.dropLast = s.evr.queue ∧ t.evr.queue.getLast?.map (fun (r : Rec) => (r.ev, r.payload)) = some (Ev.rookFault, [3, n]))) ∧
        t = State.faultLatched (State.putBit s ROOK_FAULT_RELAY n true) 3 n ∧
        (∀ x : Nat, x < 4 → x ≠ n → t.getBit ROOK_FAULT_RELAY x = s.getBit ROOK_FAULT_RELAY x) ∧
        StopKeeps [ROOK_FAULT_LOOP, ROOK_FAULT_LOOP_TEST, ROOK_FAULT_DISCREPANCY, ROOK_FAULT_RELAY_FB, ROOK_STATE_FAULT, REC_CNT_QUEUE_DROP, ROOK_FAULT_RELAY] true s t)) ∧
    (∀ (s : State) (n : Nat),
      s.stopSafe = true →
      4 ≤ n ∨ heldFor s.rook.fbDiff n s.ply (s.get RELAY_CFG_FB_MS * 100) = false ∨ s.rookHeld = true ∨ s.getBit ROOK_FAULT_RELAY n = true →
      Does (.relayFbMismatch n) s (fun t =>
        t = s)) ∧
    (∀ (s : State) (bits : Nat),
      s.stopSafe = true →
      2 < bits →
      s.rookHeld = false →
      s.bit ROOK_FAULT_SRAM_UE = false →
      Does (.rookSramUe .rook bits) s (fun t =>
        StopOn 4 s t ∧
        Reads t [(ROOK_FAULT_SRAM_UE, 1), (ROOK_STATE_FAULT, 1)] ∧
        (s.rst.held.contains .sys ∨ 64 ≤ s.evr.queue.length ∨ (t.evr.queue.dropLast = s.evr.queue ∧ t.evr.queue.getLast?.map (fun (r : Rec) => (r.ev, r.payload)) = some (Ev.rookFault, [0, 0]))) ∧
        t = State.faultLatched (s.put ROOK_FAULT_SRAM_UE 1) 0 0 ∧
        StopKeeps [ROOK_FAULT_LOOP, ROOK_FAULT_LOOP_TEST, ROOK_FAULT_DISCREPANCY, ROOK_FAULT_RELAY_FB, ROOK_STATE_FAULT, REC_CNT_QUEUE_DROP, ROOK_FAULT_SRAM_UE] true s t)) ∧
    (∀ (s : State) (bits : Nat),
      s.stopSafe = true →
      1 ≤ bits ∧ bits ≤ 2 →
      s.rookHeld = false →
      Does (.rookSramUe .rook bits) s (fun t =>
        Reads t [(ROOK_CNT2_SRAM_CE, s.adv ROOK_CNT2_SRAM_CE)] ∧
        RegsBut [ROOK_CNT2_SRAM_CE] s t ∧
        OnlyRegs s t)) ∧
    (∀ (s : State) (bits : Nat),
      s.stopSafe = true →
      bits = 0 ∨ s.rookHeld = true ∨ (2 < bits ∧ s.bit ROOK_FAULT_SRAM_UE = true) →
      Does (.rookSramUe .rook bits) s (fun t =>
        t = s)) ∧
    (∀ (s : State) (m : SramMem) (bits : Nat),
      s.stopSafe = true →
      m ≠ .rook →
      1 ≤ bits ∧ bits ≤ 2 →
      Does (.rookSramUe m bits) s (fun t =>
        Reads t [(ECC_SRAM_SRAM_CE, s.adv ECC_SRAM_SRAM_CE)] ∧
        RegsBut [ECC_SRAM_SRAM_CE] s t ∧
        OnlyRegs s t)) ∧
    (∀ (s : State) (m : SramMem),
      s.stopSafe = true →
      m ≠ .rook →
      Does (.rookSramUe m 0) s (fun t =>
        t = s)) ∧
    (∀ (s : State) (bits : Nat) (a : Option Nat),
      s.stopSafe = true →
      2 < bits →
      Does (.rookSramUe (.fix a) bits) s (fun t =>
        t.fix = { s.fix with resets := s.fix.resets ++ [a.getD 0xFF] } ∧
        Reads t [(ECC_SRAM_SRAM_UE, s.adv ECC_SRAM_SRAM_UE)] ∧
        t.evr = (s.record .sramUe ([1] ++ leBytes 2 (a.getD 0xFF))).evr ∧
        RegsBut [ECC_SRAM_SRAM_UE, REC_CNT_QUEUE_DROP] s t ∧
        t = { s with regs := t.regs, fix := t.fix, evr := t.evr })) ∧
    (∀ (s : State) (bits : Nat),
      s.stopSafe = true →
      2 < bits →
      Does (.rookSramUe .hotStart bits) s (fun t =>
        t.pwr = { s.pwr with hotValid := false } ∧
        Reads t [(ECC_SRAM_SRAM_UE, s.adv ECC_SRAM_SRAM_UE)] ∧
        t.evr = (s.record .sramUe [2, 0, 0]).evr ∧
        RegsBut [ECC_SRAM_SRAM_UE, REC_CNT_QUEUE_DROP] s t ∧
        t = { s with regs := t.regs, pwr := t.pwr, evr := t.evr })) ∧
    (∀ (s : State) (bits k : Nat),
      s.stopSafe = true →
      2 < bits →
      k < 128 →
      Does (.rookSramUe (.keySlot k) bits) s (fun t =>
        t = State.record (State.bump (State.emptySlot s k) ECC_SRAM_SRAM_UE) .sramUe ([3] ++ leBytes 2 k) ∧
        Reads t [(KS_SLOT_W0_TYPE k, 0)])) ∧
    (∀ (s : State) (bits : Nat),
      s.stopSafe = true →
      2 < bits →
      Does (.rookSramUe .mp bits) s (fun t =>
        Asserted 17 t ∧
        t = State.record (State.bump (State.assertSource (ownerReset 0x31 s) 17 0) ECC_SRAM_SRAM_UE) .sramUe [4, 0, 0])) ∧
    (∀ (s : State) (n : Nat),
      s.stopSafe = true →
      s.rookHeld = false →
      s.rook.rw1 < 112 ∨ 208 < s.rook.rw1 →
      n < 112 ∨ 208 < n →
      s.bit ROOK_FAULT_CLOCK = false →
      Does (.rookClockFault n) s (fun t =>
        StopOn 4 s t ∧
        Reads t [(ROOK_FAULT_CLOCK, 1), (ROOK_STATE_FAULT, 1)] ∧
        (s.rst.held.contains .sys ∨ 64 ≤ s.evr.queue.length ∨ (t.evr.queue.dropLast = s.evr.queue ∧ t.evr.queue.getLast?.map (fun (r : Rec) => (r.ev, r.payload)) = some (Ev.rookFault, [5, 0]))) ∧
        t = State.faultLatched (s.put ROOK_FAULT_CLOCK 1) 5 0 ∧
        StopKeeps [ROOK_FAULT_LOOP, ROOK_FAULT_LOOP_TEST, ROOK_FAULT_DISCREPANCY, ROOK_FAULT_RELAY_FB, ROOK_STATE_FAULT, REC_CNT_QUEUE_DROP, ROOK_FAULT_CLOCK] true s t)) ∧
    (∀ (s : State) (n : Nat),
      s.stopSafe = true →
      s.rookHeld = true ∨ (112 ≤ s.rook.rw1 ∧ s.rook.rw1 ≤ 208) ∨ (112 ≤ n ∧ n ≤ 208) ∨ s.bit ROOK_FAULT_CLOCK = true →
      Does (.rookClockFault n) s (fun t =>
        t = s)) ∧
    (∀ (s : State),
      s.stopSafe = true →
      s.rookHeld = false →
      s.bit ROOK_STATE_HALTED = false →
      Does (.lockstepMismatch) s (fun t =>
        Asserted 8 t ∧
        Reads t [(ROOK_STATE_STOP, 1), (ROOK_STATE_SRC_LATCHED, 0x40), (RELAY_STATUS_DRIVE, 0), (ROOK_CNT_STOP_EVENTS, 0)] ∧
        t.rook.rep = t.stopAllLeft ∧
        allAddrs.all (fun a => s.pchState a == 0 || s.pchState a == 7 || t.pchState a == 6) = true ∧
        t = (let z := s.assertSource 8 0; State.stopAllChannels { z with rook := { z.rook with rep := z.stopAllLeft } }) ∧
        (∀ x ∈ s.rst.asserted, x ∈ t.rst.asserted) ∧ t.pending = s.pending ∧ t.memDevs = s.memDevs ∧ t.flash = s.flash ∧
        ((∀ a ∈ allAddrs, s.pchState a = 0 ∨ s.pchState a = 7) → AssertFrame 8 s t))) ∧
    (∀ (s : State),
      s.stopSafe = true →
      s.rookHeld = true ∨ s.bit ROOK_STATE_HALTED = true →
      Does (.lockstepMismatch) s (fun t =>
        t = s)) ∧
    (∀ (s : State) (n : Nat),
      s.stopSafe = true →
      s.rookHeld = false →
      s.rook.wdogOn = true →
      s.get WDOG_CFG_TIMEOUT * 1024 ≤ s.rook.wdog + n →
      Does (.rookWdogExpiry n) s (fun t =>
        Asserted 9 t ∧
        Reads t [(ROOK_STATE_STOP, 1), (ROOK_STATE_SRC_LATCHED, 0x40), (RELAY_STATUS_DRIVE, 0), (ROOK_CNT_STOP_EVENTS, 0)] ∧
        t.rook.rep = t.stopAllLeft ∧
        allAddrs.all (fun a => s.pchState a == 0 || s.pchState a == 7 || t.pchState a == 6) = true ∧
        t = (let z := s.assertSource 9 0; State.stopAllChannels { z with rook := { z.rook with rep := z.stopAllLeft } }) ∧
        (∀ x ∈ s.rst.asserted, x ∈ t.rst.asserted) ∧ t.pending = s.pending ∧ t.memDevs = s.memDevs ∧ t.flash = s.flash ∧
        ((∀ a ∈ allAddrs, s.pchState a = 0 ∨ s.pchState a = 7) → AssertFrame 9 s t))) ∧
    (∀ (s : State) (n : Nat),
      s.stopSafe = true →
      s.rookHeld = true ∨ s.rook.wdogOn = false ∨ s.rook.wdog + n < s.get WDOG_CFG_TIMEOUT * 1024 →
      Does (.rookWdogExpiry n) s (fun t =>
        t = s)) ∧
    (∀ (s : State) (ini data : Nat),
      s.stopSafe = true →
      s.judge ini 0x40500034 true = .ok →
      s.rook.wdogOn = true →
      data % 65536 = 0xC35A →
      s.rook.svc = false →
      Does (.wdogSvcWrite ini data) s (fun t =>
        t.rook = { s.rook with svc := true } ∧
        RegsBut [] s t ∧
        t = { s with regs := t.regs, rook := t.rook })) ∧
    (∀ (s : State) (ini data : Nat),
      s.stopSafe = true →
      s.judge ini 0x40500034 true = .ok →
      s.rook.wdogOn = true →
      data % 65536 = 0x3CA5 →
      s.rook.svc = true →
      s.get WDOG_CFG_MIN * 1024 ≤ s.rook.wdog →
      Does (.wdogSvcWrite ini data) s (fun t =>
        t.rook = { s.rook with svc := false, wdog := 0 } ∧
        RegsBut [] s t ∧
        t = { s with regs := t.regs, rook := t.rook })) ∧
    (∀ (s : State) (ini data : Nat),
      s.stopSafe = true →
      s.judge ini 0x40500034 true = .ok →
      s.rook.wdogOn = true →
      (data % 65536 ≠ 0xC35A ∨ s.rook.svc = true) ∧ (data % 65536 ≠ 0x3CA5 ∨ s.rook.svc = false ∨ s.rook.wdog < s.get WDOG_CFG_MIN * 1024) →
      Does (.wdogSvcWrite ini data) s (fun t =>
        Asserted 9 t ∧
        Reads t [(ROOK_STATE_STOP, 1), (ROOK_STATE_SRC_LATCHED, 0x40), (RELAY_STATUS_DRIVE, 0), (ROOK_CNT_STOP_EVENTS, 0)] ∧
        t.rook.rep = t.stopAllLeft ∧
        allAddrs.all (fun a => s.pchState a == 0 || s.pchState a == 7 || t.pchState a == 6) = true ∧
        t = (let z := s.assertSource 9 0; State.stopAllChannels { z with rook := { z.rook with rep := z.stopAllLeft } }) ∧
        (∀ x ∈ s.rst.asserted, x ∈ t.rst.asserted) ∧ t.pending = s.pending ∧ t.memDevs = s.memDevs ∧ t.flash = s.flash ∧
        ((∀ a ∈ allAddrs, s.pchState a = 0 ∨ s.pchState a = 7) → AssertFrame 9 s t))) ∧
    (∀ (s : State) (ini data : Nat),
      s.stopSafe = true →
      s.judge ini 0x40500034 true = .ok →
      s.rook.wdogOn = false →
      Does (.wdogSvcWrite ini data) s (fun t =>
        t = s))

/-- The release requests of earlier plies are evaluated in order. One evaluated with no blocker in the stop state ends it:
its sources and its repetition are cleared, a record is written, the release is announced to the partner, and the
answer is OK; outside the stop state the answer is OK and nothing else changes; with a blocker it is refused with
BLOCKERS and changes nothing else. The relays stay low until the next ply, when every enabled one rises. The fault-
clear requests of earlier plies, and a Rook write of ones confined to what they cover, clear each fault of each loop
and relay, LOG_MEDIA and CLOCK whose cause is absent, never SRAM_UE; a loop of which a fault is cleared has to pass
its tests again, and the summary bits follow. Without a request of an earlier ply nothing changes. (Rests on: R523,
R528, R535, R536, R538, R539, R541, R686.) -/
def Obligations.ReleasesRelaysAndFaultClearing : Prop :=
    (∀ (s : State) (r : StopReq),
      s.stopSafe = true →
      s.rook.release.filter (fun (q : StopReq) => decide (q.ply < s.ply)) = [r] →
      r.req = none →
      r.ini < 64 →
      s.stopped = true →
      s.blockers r.ignorePair = 0 →
      Does (.releaseEvaluation) s (fun t =>
        Reads t [(ROOK_STATE_STOP, 0), (ROOK_STATE_SRC_LATCHED, 0), (STOP_PORT_RES_RESULT r.ini, 0), (STOP_PORT_RES_BLOCKERS r.ini, 0), (RELAY_STATUS_DRIVE, s.get RELAY_STATUS_DRIVE)] ∧
        t.rook = { s.rook with release := s.rook.release.filter (fun (q : StopReq) => !decide (q.ply < s.ply)), rep := [], raiseAt := some (s.ply + 1) } ∧
        (s.rst.held.contains .sys ∨ 64 ≤ s.evr.queue.length ∨ t.evr.queue.getLast?.map (fun (x : Rec) => x.ev) = some Ev.stopRelease) ∧
        RegsBut [ROOK_STATE_STOP, ROOK_STATE_SRC_LATCHED, STOP_PORT_RES_RESULT r.ini, STOP_PORT_RES_BLOCKERS r.ini, KS_CNT_ORPHAN_ABORTS, REC_CNT_QUEUE_DROP] s t ∧
        t = { s with regs := t.regs, rook := t.rook, pair := t.pair, out := t.out, freeCtr := t.freeCtr, evr := t.evr })) ∧
    (∀ (s : State) (r : StopReq),
      s.stopSafe = true →
      s.rook.release.filter (fun (q : StopReq) => decide (q.ply < s.ply)) = [r] →
      r.req = none →
      r.ini < 64 →
      s.blockers r.ignorePair ≠ 0 →
      Does (.releaseEvaluation) s (fun t =>
        Reads t [(STOP_PORT_RES_RESULT r.ini, 2), (STOP_PORT_RES_BLOCKERS r.ini, s.blockers r.ignorePair), (ROOK_STATE_STOP, s.get ROOK_STATE_STOP)] ∧
        t.rook = { s.rook with release := s.rook.release.filter (fun (q : StopReq) => !decide (q.ply < s.ply)) } ∧
        RegsBut [STOP_PORT_RES_RESULT r.ini, STOP_PORT_RES_BLOCKERS r.ini] s t ∧
        t = { s with regs := t.regs, rook := t.rook })) ∧
    (∀ (s : State) (r : StopReq),
      s.stopSafe = true →
      s.rook.release.filter (fun (q : StopReq) => decide (q.ply < s.ply)) = [r] →
      r.req = none →
      r.ini < 64 →
      s.blockers r.ignorePair = 0 →
      s.stopped = false →
      Does (.releaseEvaluation) s (fun t =>
        Reads t [(STOP_PORT_RES_RESULT r.ini, 0), (STOP_PORT_RES_BLOCKERS r.ini, 0)] ∧
        t.rook = { s.rook with release := s.rook.release.filter (fun (q : StopReq) => !decide (q.ply < s.ply)) } ∧
        RegsBut [STOP_PORT_RES_RESULT r.ini, STOP_PORT_RES_BLOCKERS r.ini] s t ∧
        t = { s with regs := t.regs, rook := t.rook })) ∧
    (∀ (s : State),
      s.stopSafe = true →
      Does (.releaseEvaluation) s (fun t =>
        t = (s.rook.release.filter (fun (q : StopReq) => decide (q.ply < s.ply))).foldl State.evalRelease { s with rook := { s.rook with release := s.rook.release.filter (fun (q : StopReq) => !decide (q.ply < s.ply)) } })) ∧
    (∀ (s : State) (p : Nat),
      s.stopSafe = true →
      s.rook.raiseAt = some p →
      p ≤ s.ply →
      s.rookHeld = false →
      s.stopped = false →
      Does (.relayRaise) s (fun t =>
        Reads t [(RELAY_STATUS_DRIVE, s.get RELAY_CFG_EN)] ∧
        t.rook = { s.rook with raiseAt := none } ∧
        RegsBut [RELAY_STATUS_DRIVE] s t ∧
        t = { s with regs := t.regs, rook := t.rook })) ∧
    (∀ (s : State) (p : Nat),
      s.stopSafe = true →
      s.rook.raiseAt = some p →
      p ≤ s.ply →
      s.rookHeld = true ∨ s.stopped = true →
      Does (.relayRaise) s (fun t =>
        t.rook = { s.rook with raiseAt := none } ∧
        RegsBut [] s t ∧
        t = { s with regs := t.regs, rook := t.rook })) ∧
    (∀ (s : State),
      s.stopSafe = true →
      s.rook.raiseAt = none ∨ s.rook.raiseAt.any (fun (p : Nat) => decide (s.ply < p)) = true →
      Does (.relayRaise) s (fun t =>
        t = s)) ∧
    (∀ (s : State) (r : StopReq),
      s.stopSafe = true →
      s.rook.clear.filter (fun (q : StopReq) => decide (q.ply < s.ply)) = [r] →
      r.req = none →
      r.ini < 64 →
      Does (.faultClearEvaluation) s (fun t =>
        ((List.range 8).all (fun n => bitOf t.rook.ltBits n == (bitOf s.rook.ltBits n && !((bitOf 0xFFFFFFFF (8 + n) || bitOf 0xFFFFFFFF 1) && s.readsClosed (2 * n) && s.readsClosed (2 * n + 1)))) = true) ∧
        ((List.range 8).all (fun n => bitOf t.rook.dcBits n == (bitOf s.rook.dcBits n && !((bitOf 0xFFFFFFFF (8 + n) || bitOf 0xFFFFFFFF 2) && s.readsClosed (2 * n) == s.readsClosed (2 * n + 1)))) = true) ∧
        ((List.range 4).all (fun n => t.getBit ROOK_FAULT_RELAY n == (s.getBit ROOK_FAULT_RELAY n && !((bitOf 0xFFFFFFFF (16 + n) || bitOf 0xFFFFFFFF 3) && s.energised n == s.getBit RELAY_STATUS_DRIVE n))) = true) ∧
        Reads t [(ROOK_FAULT_SRAM_UE, s.get ROOK_FAULT_SRAM_UE), (ROOK_FAULT_LOG_MEDIA, if bitOf 0xFFFFFFFF 4 && !s.bit REC_STATUS_MAIN_FAULT then 0 else s.get ROOK_FAULT_LOG_MEDIA), (ROOK_FAULT_CLOCK, if bitOf 0xFFFFFFFF 5 && !rwdogBad s.rook.rw0 && !rwdogBad s.rook.rw1 then 0 else s.get ROOK_FAULT_CLOCK), (ROOK_FAULT_LOOP, t.rook.ltBits ||| t.rook.dcBits), (ROOK_FAULT_LOOP_TEST, b2n (t.rook.ltBits != 0)), (ROOK_FAULT_DISCREPANCY, b2n (t.rook.dcBits != 0)), (ROOK_FAULT_RELAY_FB, b2n (t.get ROOK_FAULT_RELAY != 0)), (ROOK_STATE_FAULT, b2n t.anyFault)] ∧
        (List.range 16).all (fun j => decide (t.estop j = { s.estop j with tested := (s.estop j).tested && bitOf t.rook.ltBits (j / 2) == bitOf s.rook.ltBits (j / 2) && bitOf t.rook.dcBits (j / 2) == bitOf s.rook.dcBits (j / 2) })) = true ∧
        Reads t [(STOP_PORT_RES_RESULT r.ini, 0), (STOP_PORT_RES_BLOCKERS r.ini, 0)] ∧
        t.rook = { s.rook with ltBits := t.rook.ltBits, dcBits := t.rook.dcBits, ch := t.rook.ch, clear := s.rook.clear.filter (fun (q : StopReq) => !decide (q.ply < s.ply)) } ∧
        RegsBut [ROOK_FAULT_RELAY, ROOK_FAULT_LOG_MEDIA, ROOK_FAULT_CLOCK, ROOK_FAULT_LOOP, ROOK_FAULT_LOOP_TEST, ROOK_FAULT_DISCREPANCY, ROOK_FAULT_RELAY_FB, ROOK_STATE_FAULT, STOP_PORT_RES_RESULT r.ini, STOP_PORT_RES_BLOCKERS r.ini] s t ∧
        t = { s with regs := t.regs, rook := t.rook })) ∧
    (∀ (s : State),
      s.stopSafe = true →
      Does (.faultClearEvaluation) s (fun t =>
        t = (s.rook.clear.filter (fun (q : StopReq) => decide (q.ply < s.ply))).foldl State.evalClear { s with rook := { s.rook with clear := s.rook.clear.filter (fun (q : StopReq) => !decide (q.ply < s.ply)) } })) ∧
    (∀ (s : State) (ini data : Nat),
      s.stopSafe = true →
      s.judge ini 0x40500004 true = .ok →
      Does (.rookFaultWrite ini data) s (fun t =>
        ((List.range 8).all (fun n => bitOf t.rook.ltBits n == (bitOf s.rook.ltBits n && !((bitOf data (8 + n) || bitOf data 1) && s.readsClosed (2 * n) && s.readsClosed (2 * n + 1)))) = true) ∧
        ((List.range 8).all (fun n => bitOf t.rook.dcBits n == (bitOf s.rook.dcBits n && !((bitOf data (8 + n) || bitOf data 2) && s.readsClosed (2 * n) == s.readsClosed (2 * n + 1)))) = true) ∧
        ((List.range 4).all (fun n => t.getBit ROOK_FAULT_RELAY n == (s.getBit ROOK_FAULT_RELAY n && !((bitOf data (16 + n) || bitOf data 3) && s.energised n == s.getBit RELAY_STATUS_DRIVE n))) = true) ∧
        Reads t [(ROOK_FAULT_SRAM_UE, s.get ROOK_FAULT_SRAM_UE), (ROOK_FAULT_LOG_MEDIA, if bitOf data 4 && !s.bit REC_STATUS_MAIN_FAULT then 0 else s.get ROOK_FAULT_LOG_MEDIA), (ROOK_FAULT_CLOCK, if bitOf data 5 && !rwdogBad s.rook.rw0 && !rwdogBad s.rook.rw1 then 0 else s.get ROOK_FAULT_CLOCK), (ROOK_FAULT_LOOP, t.rook.ltBits ||| t.rook.dcBits), (ROOK_FAULT_LOOP_TEST, b2n (t.rook.ltBits != 0)), (ROOK_FAULT_DISCREPANCY, b2n (t.rook.dcBits != 0)), (ROOK_FAULT_RELAY_FB, b2n (t.get ROOK_FAULT_RELAY != 0)), (ROOK_STATE_FAULT, b2n t.anyFault)] ∧
        (List.range 16).all (fun j => decide (t.estop j = { s.estop j with tested := (s.estop j).tested && bitOf t.rook.ltBits (j / 2) == bitOf s.rook.ltBits (j / 2) && bitOf t.rook.dcBits (j / 2) == bitOf s.rook.dcBits (j / 2) })) = true ∧
        t.rook = { s.rook with ltBits := t.rook.ltBits, dcBits := t.rook.dcBits, ch := t.rook.ch, svc := (if ini = 0x30 then false else s.rook.svc) } ∧
        RegsBut [ROOK_FAULT_RELAY, ROOK_FAULT_LOG_MEDIA, ROOK_FAULT_CLOCK, ROOK_FAULT_LOOP, ROOK_FAULT_LOOP_TEST, ROOK_FAULT_DISCREPANCY, ROOK_FAULT_RELAY_FB, ROOK_STATE_FAULT] s t ∧
        t = { s with regs := t.regs, rook := t.rook }))

/-- A STOP_PORT write of an owner with its KEY and a TARGET that STOP_PORT admits lands: STOP to all is source HOST and
answers OK; STOP to a member or flock sets MSTOP of each member it names, queues the STOP frame, holds their channels
and leaves the stop state and the relays; HOLD and RESUME on the active unit take the next SSEQ, queue their frame,
announce it and, for RESUME, clear MSTOP of the members named that were not stopped in this ply; without the claim
they answer NOT_ACTIVE, beyond 32 waiting QUEUE_FULL, a RESUME in the stop state DENIED. RELEASE and FAULT_CLEAR wait
for their evaluation and answer PENDING. A write of another, without the KEY or with another TARGET changes nothing; a
held Rook answers NOT_READY. The opcodes do the same and answer by status; STOP_RELEASE and FAULT_CLEAR are answered
at their evaluation. STOP_STATUS answers its 32 bytes. (Rests on: R516, R525, R532, R533, R535, R536, R539, R540,
R541, R542, R684.) -/
def Obligations.StopPortCommandsLand : Prop :=
    (∀ (s : State) (ini data : Nat),
      s.stopSafe = true →
      Own.stopPort.names ini = true →
      ini < 64 →
      s.judge ini 0x40000900 true = .ok →
      bits data 2 0 = 1 →
      bits data 31 16 = 0x4B52 →
      s.rookHeld = false →
      bits data 15 8 = 0xFF →
      Does (.stopPortStop ini data) s (fun t =>
        StopOn 1 s t ∧
        Reads t [(STOP_PORT_RES_RESULT ini, 0), (STOP_PORT_RES_BLOCKERS ini, 0)] ∧
        t = State.puts (State.enterStop s 1) [(STOP_PORT_RES_RESULT ini, 0), (STOP_PORT_RES_BLOCKERS ini, 0)] ∧
        StopKeeps [STOP_PORT_RES_RESULT ini, STOP_PORT_RES_BLOCKERS ini] false s t)) ∧
    (∀ (s : State) (ini data : Nat),
      s.stopSafe = true →
      Own.stopPort.names ini = true →
      ini < 64 →
      s.judge ini 0x40000900 true = .ok →
      bits data 2 0 = 1 →
      bits data 31 16 = 0x4B52 →
      s.rookHeld = false →
      bits data 15 8 ≠ 0xFF →
      stopTargetOk (bits data 15 8) = true →
      s.targets (bits data 15 8) ≠ [] →
      Does (.stopPortStop ini data) s (fun t =>
        (s.targets (bits data 15 8)).all t.mstop = true ∧
        t.rook = { s.rook with mstops := s.rook.mstops ++ [{ cmd := 1, sseq := none, target := (bits data 15 8), members := s.targets (bits data 15 8), left := s.laneLeft s.stopRepeat }], srcPly := some s.ply, mstopPly := s.rook.mstopPly.filter (fun (e : Nat × Nat) => e.2 == s.ply) ++ (s.targets (bits data 15 8)).map (fun (a : Nat) => (a, s.ply)) } ∧
        Reads t [(ROOK_STATE_STOP, s.get ROOK_STATE_STOP), (ROOK_STATE_SRC_LATCHED, s.get ROOK_STATE_SRC_LATCHED), (RELAY_STATUS_DRIVE, s.get RELAY_STATUS_DRIVE), (ROOK_CNT_STOP_EVENTS, s.get ROOK_CNT_STOP_EVENTS)] ∧
        (s.targets (bits data 15 8)).all (fun a => s.pchState a == 0 || s.pchState a == 7 || t.pchState a == 6) = true ∧
        Reads t [(STOP_PORT_RES_RESULT ini, 0), (STOP_PORT_RES_BLOCKERS ini, 0)] ∧
        t = State.puts (State.memberStop s (bits data 15 8)) [(STOP_PORT_RES_RESULT ini, 0), (STOP_PORT_RES_BLOCKERS ini, 0)] ∧
        t.time = s.time ∧
        t.rst = s.rst ∧
        t.gnss = s.gnss ∧
        t.fix = s.fix ∧
        (∀ a ∈ allAddrs, a ∉ s.targets (bits data 15 8) → t.mstop a = s.mstop a) ∧
        ((∀ a ∈ allAddrs, s.pchState a = 0 ∨ s.pchState a = 7) → RegsBut ([STOP_PORT_RES_RESULT ini, STOP_PORT_RES_BLOCKERS ini] ++ (List.range 6).map MSTOP_MEMBERS ++ (List.range 64).map GEAR_W0_STATE) s t))) ∧
    (∀ (s : State) (ini data : Nat),
      s.stopSafe = true →
      Own.stopPort.names ini = true →
      ini < 64 →
      s.judge ini 0x40000900 true = .ok →
      bits data 2 0 = 1 →
      bits data 31 16 = 0x4B52 →
      s.rookHeld = false →
      bits data 15 8 ≠ 0xFF →
      stopTargetOk (bits data 15 8) = true →
      s.targets (bits data 15 8) = [] →
      Does (.stopPortStop ini data) s (fun t =>
        Reads t [(STOP_PORT_RES_RESULT ini, 0), (STOP_PORT_RES_BLOCKERS ini, 0)] ∧
        RegsBut [STOP_PORT_RES_RESULT ini, STOP_PORT_RES_BLOCKERS ini] s t ∧
        OnlyRegs s t)) ∧
    (∀ (s : State) (ini data : Nat),
      s.stopSafe = true →
      ini ≠ 0x30 →
      Own.stopPort.names ini = false ∨ bits data 2 0 ≠ 1 ∨ s.judge ini 0x40000900 true = .badAddr ∨ s.judge ini 0x40000900 true = .off ∨ (s.judge ini 0x40000900 true = .ok ∧ ini ≠ 0x30 ∧ (bits data 31 16 ≠ 0x4B52 ∨ stopTargetOk (bits data 15 8) = false)) →
      Does (.stopPortStop ini data) s (fun t =>
        t = s)) ∧
    (∀ (s : State) (ini data : Nat),
      s.stopSafe = true →
      Own.stopPort.names ini = true →
      ini < 64 →
      s.judge ini 0x40000900 true = .ok →
      bits data 2 0 = 1 →
      bits data 31 16 = 0x4B52 →
      stopTargetOk (bits data 15 8) = true →
      s.rookHeld = true →
      Does (.stopPortStop ini data) s (fun t =>
        Reads t [(STOP_PORT_RES_RESULT ini, 5), (STOP_PORT_RES_BLOCKERS ini, 0)] ∧
        RegsBut [STOP_PORT_RES_RESULT ini, STOP_PORT_RES_BLOCKERS ini] s t ∧
        OnlyRegs s t)) ∧
    (∀ (s : State) (ini data : Nat),
      s.stopSafe = true →
      Own.stopPort.names ini = true →
      ini < 64 →
      s.judge ini 0x40000900 true = .ok →
      bits data 2 0 = 2 →
      bits data 31 16 = 0x4B52 →
      s.rookHeld = false →
      stopTargetOk (bits data 15 8) = true →
      s.bit PAIR_STATUS_ACTIVE = true →
      s.rook.hr.length < 32 →
      Does (.stopPortHold ini data) s (fun t =>
        t = State.puts (State.safetySend (State.put { s with rook := { s.rook with hr := insertHr { cmd := 2, sseq := some ((s.get ROOK_SEQ_SSEQ + 1) % 256), target := (bits data 15 8), members := [], left := s.laneLeft (fun _ => s.get STOP_CFG_HR_REPEAT) } s.rook.hr } } ROOK_SEQ_SSEQ ((s.get ROOK_SEQ_SSEQ + 1) % 256)) 3 ((s.get ROOK_SEQ_SSEQ + 1) % 256) (bits data 15 8)) [(STOP_PORT_RES_RESULT ini, 0), (STOP_PORT_RES_BLOCKERS ini, 0)] ∧
        t.rook.hr = insertHr { cmd := 2, sseq := some ((s.get ROOK_SEQ_SSEQ + 1) % 256), target := (bits data 15 8), members := [], left := s.laneLeft (fun _ => s.get STOP_CFG_HR_REPEAT) } s.rook.hr ∧
        Reads t [(ROOK_SEQ_SSEQ, (s.get ROOK_SEQ_SSEQ + 1) % 256), (STOP_PORT_RES_RESULT ini, 0), (STOP_PORT_RES_BLOCKERS ini, 0)] ∧
        RegsBut [ROOK_SEQ_SSEQ, KS_CNT_ORPHAN_ABORTS, STOP_PORT_RES_RESULT ini, STOP_PORT_RES_BLOCKERS ini] s t ∧
        t = { s with regs := t.regs, rook := t.rook, pair := t.pair, out := t.out, freeCtr := t.freeCtr })) ∧
    (∀ (s : State) (ini data : Nat),
      s.stopSafe = true →
      Own.stopPort.names ini = true →
      ini < 64 →
      s.judge ini 0x40000900 true = .ok →
      bits data 2 0 = 2 →
      bits data 31 16 = 0x4B52 →
      s.rookHeld = false →
      stopTargetOk (bits data 15 8) = true →
      s.bit PAIR_STATUS_ACTIVE = false →
      Does (.stopPortHold ini data) s (fun t =>
        Reads t [(STOP_PORT_RES_RESULT ini, 4), (STOP_PORT_RES_BLOCKERS ini, 0)] ∧
        RegsBut [STOP_PORT_RES_RESULT ini, STOP_PORT_RES_BLOCKERS ini] s t ∧
        OnlyRegs s t)) ∧
    (∀ (s : State) (ini data : Nat),
      s.stopSafe = true →
      Own.stopPort.names ini = true →
      ini < 64 →
      s.judge ini 0x40000900 true = .ok →
      bits data 2 0 = 2 →
      bits data 31 16 = 0x4B52 →
      s.rookHeld = false →
      stopTargetOk (bits data 15 8) = true →
      s.bit PAIR_STATUS_ACTIVE = true →
      32 ≤ s.rook.hr.length →
      Does (.stopPortHold ini data) s (fun t =>
        Reads t [(STOP_PORT_RES_RESULT ini, 3), (STOP_PORT_RES_BLOCKERS ini, 0)] ∧
        Reads t [(ROOK_CNT2_QUEUE_FULL, s.adv ROOK_CNT2_QUEUE_FULL)] ∧
        RegsBut [ROOK_CNT2_QUEUE_FULL, STOP_PORT_RES_RESULT ini, STOP_PORT_RES_BLOCKERS ini] s t ∧
        OnlyRegs s t)) ∧
    (∀ (s : State) (ini data : Nat),
      s.stopSafe = true →
      ini ≠ 0x30 →
      Own.stopPort.names ini = false ∨ bits data 2 0 ≠ 2 ∨ s.judge ini 0x40000900 true = .badAddr ∨ s.judge ini 0x40000900 true = .off ∨ (s.judge ini 0x40000900 true = .ok ∧ ini ≠ 0x30 ∧ (bits data 31 16 ≠ 0x4B52 ∨ stopTargetOk (bits data 15 8) = false)) →
      Does (.stopPortHold ini data) s (fun t =>
        t = s)) ∧
    (∀ (s : State) (ini data : Nat),
      s.stopSafe = true →
      Own.stopPort.names ini = true →
      ini < 64 →
      s.judge ini 0x40000900 true = .ok →
      bits data 2 0 = 2 →
      bits data 31 16 = 0x4B52 →
      stopTargetOk (bits data 15 8) = true →
      s.rookHeld = true →
      Does (.stopPortHold ini data) s (fun t =>
        Reads t [(STOP_PORT_RES_RESULT ini, 5), (STOP_PORT_RES_BLOCKERS ini, 0)] ∧
        RegsBut [STOP_PORT_RES_RESULT ini, STOP_PORT_RES_BLOCKERS ini] s t ∧
        OnlyRegs s t)) ∧
    (∀ (s : State) (ini data : Nat),
      s.stopSafe = true →
      Own.stopPort.names ini = true →
      ini < 64 →
      s.judge ini 0x40000900 true = .ok →
      bits data 2 0 = 3 →
      bits data 31 16 = 0x4B52 →
      s.rookHeld = false →
      stopTargetOk (bits data 15 8) = true →
      s.bit PAIR_STATUS_ACTIVE = true →
      s.stopped = false →
      s.rook.hr.length < 32 →
      Does (.stopPortResume ini data) s (fun t =>
        t = State.puts (State.safetySend (State.resumeClear (State.put { s with rook := { s.rook with hr := insertHr { cmd := 3, sseq := some ((s.get ROOK_SEQ_SSEQ + 1) % 256), target := (bits data 15 8), members := [], left := s.laneLeft (fun _ => s.get STOP_CFG_HR_REPEAT) } s.rook.hr } } ROOK_SEQ_SSEQ ((s.get ROOK_SEQ_SSEQ + 1) % 256)) (bits data 15 8)) 4 ((s.get ROOK_SEQ_SSEQ + 1) % 256) (bits data 15 8)) [(STOP_PORT_RES_RESULT ini, 0), (STOP_PORT_RES_BLOCKERS ini, 0)] ∧
        t.rook.hr = insertHr { cmd := 3, sseq := some ((s.get ROOK_SEQ_SSEQ + 1) % 256), target := (bits data 15 8), members := [], left := s.laneLeft (fun _ => s.get STOP_CFG_HR_REPEAT) } s.rook.hr ∧
        Reads t [(ROOK_SEQ_SSEQ, (s.get ROOK_SEQ_SSEQ + 1) % 256), (STOP_PORT_RES_RESULT ini, 0), (STOP_PORT_RES_BLOCKERS ini, 0)] ∧
        allAddrs.all (fun a => t.mstop a == (s.mstop a && !((s.targets (bits data 15 8)).contains a && !s.rook.mstopPly.contains (a, s.ply)))) = true ∧
        RegsBut [ROOK_SEQ_SSEQ, KS_CNT_ORPHAN_ABORTS, MSTOP_MEMBERS 0, MSTOP_MEMBERS 1, MSTOP_MEMBERS 2, MSTOP_MEMBERS 3, MSTOP_MEMBERS 4, MSTOP_MEMBERS 5, STOP_PORT_RES_RESULT ini, STOP_PORT_RES_BLOCKERS ini] s t ∧
        t = { s with regs := t.regs, rook := t.rook, pair := t.pair, out := t.out, freeCtr := t.freeCtr })) ∧
    (∀ (s : State) (ini data : Nat),
      s.stopSafe = true →
      Own.stopPort.names ini = true →
      ini < 64 →
      s.judge ini 0x40000900 true = .ok →
      bits data 2 0 = 3 →
      bits data 31 16 = 0x4B52 →
      s.rookHeld = false →
      stopTargetOk (bits data 15 8) = true →
      s.bit PAIR_STATUS_ACTIVE = true →
      s.stopped = true →
      Does (.stopPortResume ini data) s (fun t =>
        Reads t [(STOP_PORT_RES_RESULT ini, 2), (STOP_PORT_RES_BLOCKERS ini, 0)] ∧
        RegsBut [STOP_PORT_RES_RESULT ini, STOP_PORT_RES_BLOCKERS ini] s t ∧
        OnlyRegs s t)) ∧
    (∀ (s : State) (ini data : Nat),
      s.stopSafe = true →
      Own.stopPort.names ini = true →
      ini < 64 →
      s.judge ini 0x40000900 true = .ok →
      bits data 2 0 = 3 →
      bits data 31 16 = 0x4B52 →
      s.rookHeld = false →
      stopTargetOk (bits data 15 8) = true →
      s.bit PAIR_STATUS_ACTIVE = false →
      Does (.stopPortResume ini data) s (fun t =>
        Reads t [(STOP_PORT_RES_RESULT ini, 4), (STOP_PORT_RES_BLOCKERS ini, 0)] ∧
        RegsBut [STOP_PORT_RES_RESULT ini, STOP_PORT_RES_BLOCKERS ini] s t ∧
        OnlyRegs s t)) ∧
    (∀ (s : State) (ini data : Nat),
      s.stopSafe = true →
      Own.stopPort.names ini = true →
      ini < 64 →
      s.judge ini 0x40000900 true = .ok →
      bits data 2 0 = 3 →
      bits data 31 16 = 0x4B52 →
      s.rookHeld = false →
      stopTargetOk (bits data 15 8) = true →
      s.bit PAIR_STATUS_ACTIVE = true →
      s.stopped = false →
      32 ≤ s.rook.hr.length →
      Does (.stopPortResume ini data) s (fun t =>
        Reads t [(STOP_PORT_RES_RESULT ini, 3), (STOP_PORT_RES_BLOCKERS ini, 0)] ∧
        Reads t [(ROOK_CNT2_QUEUE_FULL, s.adv ROOK_CNT2_QUEUE_FULL)] ∧
        RegsBut [ROOK_CNT2_QUEUE_FULL, STOP_PORT_RES_RESULT ini, STOP_PORT_RES_BLOCKERS ini] s t ∧
        OnlyRegs s t)) ∧
    (∀ (s : State) (ini data : Nat),
      s.stopSafe = true →
      ini ≠ 0x30 →
      Own.stopPort.names ini = false ∨ bits data 2 0 ≠ 3 ∨ s.judge ini 0x40000900 true = .badAddr ∨ s.judge ini 0x40000900 true = .off ∨ (s.judge ini 0x40000900 true = .ok ∧ ini ≠ 0x30 ∧ (bits data 31 16 ≠ 0x4B52 ∨ stopTargetOk (bits data 15 8) = false)) →
      Does (.stopPortResume ini data) s (fun t =>
        t = s)) ∧
    (∀ (s : State) (ini data : Nat),
      s.stopSafe = true →
      Own.stopPort.names ini = true →
      ini < 64 →
      s.judge ini 0x40000900 true = .ok →
      bits data 2 0 = 3 →
      bits data 31 16 = 0x4B52 →
      stopTargetOk (bits data 15 8) = true →
      s.rookHeld = true →
      Does (.stopPortResume ini data) s (fun t =>
        Reads t [(STOP_PORT_RES_RESULT ini, 5), (STOP_PORT_RES_BLOCKERS ini, 0)] ∧
        RegsBut [STOP_PORT_RES_RESULT ini, STOP_PORT_RES_BLOCKERS ini] s t ∧
        OnlyRegs s t)) ∧
    (∀ (s : State) (ini data : Nat),
      s.stopSafe = true →
      Own.stopPort.names ini = true →
      ini < 64 →
      s.judge ini 0x40000900 true = .ok →
      bits data 2 0 = 4 →
      bits data 31 16 = 0x4B52 →
      s.rookHeld = false →
      Does (.stopPortRelease ini data) s (fun t =>
        t.rook = { s.rook with release := s.rook.release ++ [{ ini := ini, ply := s.ply, ignorePair := bitOf data 3, req := none, n := s.rook.asks }], asks := s.rook.asks + 1 } ∧
        Reads t [(STOP_PORT_RES_RESULT ini, 1), (STOP_PORT_RES_BLOCKERS ini, 0)] ∧
        RegsBut [STOP_PORT_RES_RESULT ini, STOP_PORT_RES_BLOCKERS ini] s t ∧
        t = { s with regs := t.regs, rook := t.rook })) ∧
    (∀ (s : State) (ini data : Nat),
      s.stopSafe = true →
      ini ≠ 0x30 →
      Own.stopPort.names ini = false ∨ bits data 2 0 ≠ 4 ∨ s.judge ini 0x40000900 true = .badAddr ∨ s.judge ini 0x40000900 true = .off ∨ (s.judge ini 0x40000900 true = .ok ∧ ini ≠ 0x30 ∧ (bits data 31 16 ≠ 0x4B52)) →
      Does (.stopPortRelease ini data) s (fun t =>
        t = s)) ∧
    (∀ (s : State) (ini data : Nat),
      s.stopSafe = true →
      Own.stopPort.names ini = true →
      ini < 64 →
      s.judge ini 0x40000900 true = .ok →
      bits data 2 0 = 4 →
      bits data 31 16 = 0x4B52 →
      s.rookHeld = true →
      Does (.stopPortRelease ini data) s (fun t =>
        Reads t [(STOP_PORT_RES_RESULT ini, 5), (STOP_PORT_RES_BLOCKERS ini, 0)] ∧
        RegsBut [STOP_PORT_RES_RESULT ini, STOP_PORT_RES_BLOCKERS ini] s t ∧
        OnlyRegs s t)) ∧
    (∀ (s : State) (ini data : Nat),
      s.stopSafe = true →
      Own.stopPort.names ini = true →
      ini < 64 →
      s.judge ini 0x40000900 true = .ok →
      bits data 2 0 = 5 →
      bits data 31 16 = 0x4B52 →
      s.rookHeld = false →
      Does (.stopPortFaultClear ini data) s (fun t =>
        t.rook = { s.rook with clear := s.rook.clear ++ [{ ini := ini, ply := s.ply, ignorePair := bitOf data 3, req := none, n := s.rook.asks }], asks := s.rook.asks + 1 } ∧
        Reads t [(STOP_PORT_RES_RESULT ini, 1), (STOP_PORT_RES_BLOCKERS ini, 0)] ∧
        RegsBut [STOP_PORT_RES_RESULT ini, STOP_PORT_RES_BLOCKERS ini] s t ∧
        t = { s with regs := t.regs, rook := t.rook })) ∧
    (∀ (s : State) (ini data : Nat),
      s.stopSafe = true →
      ini ≠ 0x30 →
      Own.stopPort.names ini = false ∨ bits data 2 0 ≠ 5 ∨ s.judge ini 0x40000900 true = .badAddr ∨ s.judge ini 0x40000900 true = .off ∨ (s.judge ini 0x40000900 true = .ok ∧ ini ≠ 0x30 ∧ (bits data 31 16 ≠ 0x4B52)) →
      Does (.stopPortFaultClear ini data) s (fun t =>
        t = s)) ∧
    (∀ (s : State) (ini data : Nat),
      s.stopSafe = true →
      Own.stopPort.names ini = true →
      ini < 64 →
      s.judge ini 0x40000900 true = .ok →
      bits data 2 0 = 5 →
      bits data 31 16 = 0x4B52 →
      s.rookHeld = true →
      Does (.stopPortFaultClear ini data) s (fun t =>
        Reads t [(STOP_PORT_RES_RESULT ini, 5), (STOP_PORT_RES_BLOCKERS ini, 0)] ∧
        RegsBut [STOP_PORT_RES_RESULT ini, STOP_PORT_RES_BLOCKERS ini] s t ∧
        OnlyRegs s t)) ∧
    (∀ (s : State) (sess tag : Nat) (u : State),
      s.accepts 0x0800 sess tag false = true →
      s.stopSafe = true →
      s.rookHeld = false →
      u = State.enterStop s 1 →
      u.room sess = true →
      Does (.stop sess tag ([0xFF, 0, 0, 0])) s (fun t =>
        answers u t [] 0x0800 sess tag Ecp.OK (crc32c [0xFF, 0, 0, 0]) [] = true ∧
        t = { u with ecp := t.ecp, out := t.out } ∧
        StopOn 1 s t)) ∧
    (∀ (s : State) (sess tag : Nat) (tg : Nat) (u : State),
      s.accepts 0x0800 sess tag false = true →
      s.stopSafe = true →
      s.rookHeld = false →
      stopTargetOk tg = true →
      tg ≠ 0xFF →
      u = State.memberStop s tg →
      u.room sess = true →
      Does (.stop sess tag ([tg, 0, 0, 0])) s (fun t =>
        answers u t [] 0x0800 sess tag Ecp.OK (crc32c [tg, 0, 0, 0]) [] = true ∧
        t = { u with ecp := t.ecp, out := t.out } ∧
        (s.targets tg).all t.mstop = true ∧
        (s.targets tg = [] ∨ t.rook.mstops = s.rook.mstops ++ [{ cmd := 1, sseq := none, target := tg, members := s.targets tg, left := s.laneLeft s.stopRepeat }]))) ∧
    (∀ (s : State) (sess tag : Nat) (a b c d : Nat),
      s.stopSafe = true →
      s.accepts 0x0800 sess tag false = true →
      a < 256 →
      b < 256 →
      c < 256 →
      d < 256 →
      stopTargetOk a = false ∨ b ≠ 0 ∨ c ≠ 0 ∨ d ≠ 0 →
      Does (.stop sess tag ([a, b, c, d])) s (fun t =>
        answers s t [] 0x0800 sess tag Ecp.BAD_PARAM (crc32c [a, b, c, d]) [] = true ∧
        RegsBut [] s t ∧
        t = { s with regs := t.regs, ecp := t.ecp, out := t.out })) ∧
    (∀ (s : State) (sess tag : Nat) (tg : Nat),
      s.stopSafe = true →
      s.accepts 0x0800 sess tag false = true →
      stopTargetOk tg = true →
      s.rookHeld = true →
      Does (.stop sess tag ([tg, 0, 0, 0])) s (fun t =>
        answers s t [] 0x0800 sess tag Ecp.NOT_READY (crc32c [tg, 0, 0, 0]) [] = true ∧
        RegsBut [] s t ∧
        t = { s with regs := t.regs, ecp := t.ecp, out := t.out })) ∧
    (∀ (s : State) (sess tag : Nat) (tg : Nat) (u : State),
      s.accepts 0x0802 sess tag true = true →
      s.stopSafe = true →
      s.rookHeld = false →
      stopTargetOk tg = true →
      s.rook.hr.length < 32 →
      u = State.safetySend (State.put { s with rook := { s.rook with hr := insertHr { cmd := 2, sseq := some ((s.get ROOK_SEQ_SSEQ + 1) % 256), target := tg, members := [], left := s.laneLeft (fun _ => s.get STOP_CFG_HR_REPEAT) } s.rook.hr } } ROOK_SEQ_SSEQ ((s.get ROOK_SEQ_SSEQ + 1) % 256)) 3 ((s.get ROOK_SEQ_SSEQ + 1) % 256) tg →
      u.room sess = true →
      Does (.hold sess tag ([tg, 0, 0, 0])) s (fun t =>
        answers u t [] 0x0802 sess tag Ecp.OK (crc32c [tg, 0, 0, 0]) [] = true ∧
        t = { u with ecp := t.ecp, out := t.out } ∧
        t.rook.hr = insertHr { cmd := 2, sseq := some ((s.get ROOK_SEQ_SSEQ + 1) % 256), target := tg, members := [], left := s.laneLeft (fun _ => s.get STOP_CFG_HR_REPEAT) } s.rook.hr ∧
        Reads t [(ROOK_SEQ_SSEQ, (s.get ROOK_SEQ_SSEQ + 1) % 256)])) ∧
    (∀ (s : State) (sess tag : Nat) (a b c d : Nat),
      s.stopSafe = true →
      s.accepts 0x0802 sess tag true = true →
      a < 256 →
      b < 256 →
      c < 256 →
      d < 256 →
      stopTargetOk a = false ∨ b ≠ 0 ∨ c ≠ 0 ∨ d ≠ 0 →
      Does (.hold sess tag ([a, b, c, d])) s (fun t =>
        answers s t [] 0x0802 sess tag Ecp.BAD_PARAM (crc32c [a, b, c, d]) [] = true ∧
        RegsBut [] s t ∧
        t = { s with regs := t.regs, ecp := t.ecp, out := t.out })) ∧
    (∀ (s : State) (sess tag : Nat) (tg : Nat),
      s.stopSafe = true →
      s.accepts 0x0802 sess tag true = true →
      stopTargetOk tg = true →
      s.rookHeld = true →
      Does (.hold sess tag ([tg, 0, 0, 0])) s (fun t =>
        answers s t [] 0x0802 sess tag Ecp.NOT_READY (crc32c [tg, 0, 0, 0]) [] = true ∧
        RegsBut [] s t ∧
        t = { s with regs := t.regs, ecp := t.ecp, out := t.out })) ∧
    (∀ (s : State) (sess tag : Nat) (tg : Nat),
      s.stopSafe = true →
      s.accepts 0x0802 sess tag true = true →
      stopTargetOk tg = true →
      s.rookHeld = false →
      32 ≤ s.rook.hr.length →
      Does (.hold sess tag ([tg, 0, 0, 0])) s (fun t =>
        answers s t [] 0x0802 sess tag Ecp.QUEUE_FULL (crc32c [tg, 0, 0, 0]) [] = true ∧
        Reads t [(ROOK_CNT2_QUEUE_FULL, s.adv ROOK_CNT2_QUEUE_FULL), (ECP_CNT_B_QUEUE_FULL, s.adv ECP_CNT_B_QUEUE_FULL)] ∧
        RegsBut [ROOK_CNT2_QUEUE_FULL, ECP_CNT_B_QUEUE_FULL] s t ∧
        t = { s with regs := t.regs, ecp := t.ecp, out := t.out })) ∧
    (∀ (s : State) (sess tag : Nat) (tg : Nat) (u : State),
      s.accepts 0x0803 sess tag true = true →
      s.stopSafe = true →
      s.rookHeld = false →
      stopTargetOk tg = true →
      s.stopped = false →
      s.rook.hr.length < 32 →
      u = State.safetySend (State.resumeClear (State.put { s with rook := { s.rook with hr := insertHr { cmd := 3, sseq := some ((s.get ROOK_SEQ_SSEQ + 1) % 256), target := tg, members := [], left := s.laneLeft (fun _ => s.get STOP_CFG_HR_REPEAT) } s.rook.hr } } ROOK_SEQ_SSEQ ((s.get ROOK_SEQ_SSEQ + 1) % 256)) tg) 4 ((s.get ROOK_SEQ_SSEQ + 1) % 256) tg →
      u.room sess = true →
      Does (.resume sess tag ([tg, 0, 0, 0])) s (fun t =>
        answers u t [] 0x0803 sess tag Ecp.OK (crc32c [tg, 0, 0, 0]) [] = true ∧
        t = { u with ecp := t.ecp, out := t.out } ∧
        t.rook.hr = insertHr { cmd := 3, sseq := some ((s.get ROOK_SEQ_SSEQ + 1) % 256), target := tg, members := [], left := s.laneLeft (fun _ => s.get STOP_CFG_HR_REPEAT) } s.rook.hr ∧
        Reads t [(ROOK_SEQ_SSEQ, (s.get ROOK_SEQ_SSEQ + 1) % 256)] ∧
        allAddrs.all (fun a => t.mstop a == (s.mstop a && !((s.targets tg).contains a && !s.rook.mstopPly.contains (a, s.ply)))) = true)) ∧
    (∀ (s : State) (sess tag : Nat) (tg : Nat),
      s.stopSafe = true →
      s.accepts 0x0803 sess tag true = true →
      s.rookHeld = false →
      stopTargetOk tg = true →
      s.stopped = true →
      Does (.resume sess tag ([tg, 0, 0, 0])) s (fun t =>
        answers s t [] 0x0803 sess tag Ecp.DENIED (crc32c [tg, 0, 0, 0]) [] = true ∧
        RegsBut [] s t ∧
        t = { s with regs := t.regs, ecp := t.ecp, out := t.out })) ∧
    (∀ (s : State) (sess tag : Nat) (a b c d : Nat),
      s.stopSafe = true →
      s.accepts 0x0803 sess tag true = true →
      a < 256 →
      b < 256 →
      c < 256 →
      d < 256 →
      stopTargetOk a = false ∨ b ≠ 0 ∨ c ≠ 0 ∨ d ≠ 0 →
      Does (.resume sess tag ([a, b, c, d])) s (fun t =>
        answers s t [] 0x0803 sess tag Ecp.BAD_PARAM (crc32c [a, b, c, d]) [] = true ∧
        RegsBut [] s t ∧
        t = { s with regs := t.regs, ecp := t.ecp, out := t.out })) ∧
    (∀ (s : State) (sess tag : Nat) (tg : Nat),
      s.stopSafe = true →
      s.accepts 0x0803 sess tag true = true →
      stopTargetOk tg = true →
      s.rookHeld = true →
      Does (.resume sess tag ([tg, 0, 0, 0])) s (fun t =>
        answers s t [] 0x0803 sess tag Ecp.NOT_READY (crc32c [tg, 0, 0, 0]) [] = true ∧
        RegsBut [] s t ∧
        t = { s with regs := t.regs, ecp := t.ecp, out := t.out })) ∧
    (∀ (s : State) (sess tag : Nat) (tg : Nat),
      s.stopSafe = true →
      s.accepts 0x0803 sess tag true = true →
      stopTargetOk tg = true →
      s.rookHeld = false →
      32 ≤ s.rook.hr.length →
      s.stopped = false →
      Does (.resume sess tag ([tg, 0, 0, 0])) s (fun t =>
        answers s t [] 0x0803 sess tag Ecp.QUEUE_FULL (crc32c [tg, 0, 0, 0]) [] = true ∧
        Reads t [(ROOK_CNT2_QUEUE_FULL, s.adv ROOK_CNT2_QUEUE_FULL), (ECP_CNT_B_QUEUE_FULL, s.adv ECP_CNT_B_QUEUE_FULL)] ∧
        RegsBut [ROOK_CNT2_QUEUE_FULL, ECP_CNT_B_QUEUE_FULL] s t ∧
        t = { s with regs := t.regs, ecp := t.ecp, out := t.out })) ∧
    (∀ (s : State) (sess tag : Nat) (ip : Nat),
      s.stopSafe = true →
      s.accepts 0x0801 sess tag false = true →
      ip < 2 →
      s.rookHeld = false →
      Does (.stopRelease sess tag ([ip, 0, 0, 0])) s (fun t =>
        opens s t [] 0x0801 sess tag (crc32c [ip, 0, 0, 0]) none = true ∧
        t.rook = { s.rook with release := s.rook.release ++ [{ ini := (sessIni sess), ply := s.ply, ignorePair := bitOf ip 0, req := some (sess, tag), n := s.rook.asks }], asks := s.rook.asks + 1 } ∧
        RegsBut [] s t ∧
        t = { s with regs := t.regs, rook := t.rook, ecp := t.ecp, out := t.out })) ∧
    (∀ (s : State) (sess tag : Nat) (a b c d : Nat),
      s.stopSafe = true →
      s.accepts 0x0801 sess tag false = true →
      a < 256 →
      b < 256 →
      c < 256 →
      d < 256 →
      2 ≤ a ∨ b ≠ 0 ∨ c ≠ 0 ∨ d ≠ 0 →
      Does (.stopRelease sess tag ([a, b, c, d])) s (fun t =>
        answers s t [] 0x0801 sess tag Ecp.BAD_PARAM (crc32c [a, b, c, d]) [] = true ∧
        RegsBut [] s t ∧
        t = { s with regs := t.regs, ecp := t.ecp, out := t.out })) ∧
    (∀ (s : State) (sess tag : Nat) (ip : Nat),
      s.stopSafe = true →
      s.accepts 0x0801 sess tag false = true →
      ip < 2 →
      s.rookHeld = true →
      Does (.stopRelease sess tag ([ip, 0, 0, 0])) s (fun t =>
        answers s t [] 0x0801 sess tag Ecp.NOT_READY (crc32c [ip, 0, 0, 0]) [] = true ∧
        RegsBut [] s t ∧
        t = { s with regs := t.regs, ecp := t.ecp, out := t.out })) ∧
    (∀ (s : State) (sess tag : Nat),
      s.stopSafe = true →
      s.accepts 0x0805 sess tag false = true →
      s.rookHeld = false →
      Does (.faultClear sess tag) s (fun t =>
        opens s t [] 0x0805 sess tag (crc32c []) none = true ∧
        t.rook = { s.rook with clear := s.rook.clear ++ [{ ini := (sessIni sess), ply := s.ply, ignorePair := false, req := some (sess, tag), n := s.rook.asks }], asks := s.rook.asks + 1 } ∧
        RegsBut [] s t ∧
        t = { s with regs := t.regs, rook := t.rook, ecp := t.ecp, out := t.out })) ∧
    (∀ (s : State) (sess tag : Nat),
      s.stopSafe = true →
      s.accepts 0x0805 sess tag false = true →
      s.rookHeld = true →
      Does (.faultClear sess tag) s (fun t =>
        answers s t [] 0x0805 sess tag Ecp.NOT_READY (crc32c []) [] = true ∧
        RegsBut [] s t ∧
        t = { s with regs := t.regs, ecp := t.ecp, out := t.out })) ∧
    (∀ (s : State) (r : StopReq) (sess tag : Nat) (x : EcpSession) (y : EcpOpen) (u : State),
      s.stopSafe = true →
      s.rook.release.filter (fun (q : StopReq) => decide (q.ply < s.ply)) = [r] →
      r.req = some (sess, tag) →
      s.blockers r.ignorePair = 0 →
      s.stopped = true →
      u = State.safetySend (let z : State := State.record (State.puts { s with rook := { s.rook with release := s.rook.release.filter (fun (q : StopReq) => !decide (q.ply < s.ply)) } } [(ROOK_STATE_STOP, 0), (ROOK_STATE_SRC_LATCHED, 0)]) .stopRelease; { z with rook := { z.rook with rep := [], raiseAt := some (s.ply + 1) } }) 2 (s.get ROOK_SEQ_SSEQ) 0xFF →
      s.session sess = some x →
      x.inProg.find? (fun (z : EcpOpen) => z.tag == tag) = some y →
      x.devSeq < 0xFFFFFFFF →
      s.sessSends x = true →
      sess ≠ 8 ∨ s.ecp.spiOut.length < 16 →
      unheldOp y.op = false →
      Does (.releaseEvaluation) s (fun t =>
        sends u t x [] [⟨y.op, tag, Ecp.OK, respFlags x, x.devSeq + 1, [0, 0, 0, 0], x.key⟩] = true ∧
        t.session sess = some { x with devSeq := x.devSeq + 1, inProg := x.inProg.filter (fun z => z.tag ≠ tag), held := (holdResult x ⟨tag, y.op, y.crc, Ecp.OK, [0, 0, 0, 0], true⟩).held } ∧
        onlySession u t sess = true ∧
        t = { u with ecp := t.ecp, out := t.out })) ∧
    (∀ (s : State) (r : StopReq) (sess tag : Nat) (x : EcpSession) (y : EcpOpen) (u : State),
      s.stopSafe = true →
      s.rook.release.filter (fun (q : StopReq) => decide (q.ply < s.ply)) = [r] →
      r.req = some (sess, tag) →
      s.blockers r.ignorePair = 0 →
      s.stopped = false →
      u = { s with rook := { s.rook with release := s.rook.release.filter (fun (q : StopReq) => !decide (q.ply < s.ply)) } } →
      s.session sess = some x →
      x.inProg.find? (fun (z : EcpOpen) => z.tag == tag) = some y →
      x.devSeq < 0xFFFFFFFF →
      s.sessSends x = true →
      sess ≠ 8 ∨ s.ecp.spiOut.length < 16 →
      unheldOp y.op = false →
      Does (.releaseEvaluation) s (fun t =>
        sends u t x [] [⟨y.op, tag, Ecp.OK, respFlags x, x.devSeq + 1, [0, 0, 0, 0], x.key⟩] = true ∧
        t.session sess = some { x with devSeq := x.devSeq + 1, inProg := x.inProg.filter (fun z => z.tag ≠ tag), held := (holdResult x ⟨tag, y.op, y.crc, Ecp.OK, [0, 0, 0, 0], true⟩).held } ∧
        onlySession u t sess = true ∧
        t = { u with ecp := t.ecp, out := t.out })) ∧
    (∀ (s : State) (r : StopReq) (sess tag : Nat) (x : EcpSession) (y : EcpOpen) (u : State),
      s.stopSafe = true →
      s.rook.clear.filter (fun (q : StopReq) => decide (q.ply < s.ply)) = [r] →
      r.req = some (sess, tag) →
      u = State.clearFaults 0xFFFFFFFF ({ s with rook := { s.rook with clear := s.rook.clear.filter (fun (q : StopReq) => !decide (q.ply < s.ply)) } }) →
      s.session sess = some x →
      x.inProg.find? (fun (z : EcpOpen) => z.tag == tag) = some y →
      x.devSeq < 0xFFFFFFFF →
      s.sessSends x = true →
      sess ≠ 8 ∨ s.ecp.spiOut.length < 16 →
      unheldOp y.op = false →
      Does (.faultClearEvaluation) s (fun t =>
        sends u t x [] [⟨y.op, tag, Ecp.OK, respFlags x, x.devSeq + 1, (leBytes 4 u.faultWord), x.key⟩] = true ∧
        t.session sess = some { x with devSeq := x.devSeq + 1, inProg := x.inProg.filter (fun z => z.tag ≠ tag), held := (holdResult x ⟨tag, y.op, y.crc, Ecp.OK, (leBytes 4 u.faultWord), true⟩).held } ∧
        onlySession u t sess = true ∧
        t = { u with ecp := t.ecp, out := t.out })) ∧
    (∀ (s : State) (r : StopReq) (sess tag : Nat) (x : EcpSession) (y : EcpOpen) (u : State),
      s.stopSafe = true →
      s.rook.release.filter (fun (q : StopReq) => decide (q.ply < s.ply)) = [r] →
      r.req = some (sess, tag) →
      s.blockers r.ignorePair ≠ 0 →
      u = { s with rook := { s.rook with release := s.rook.release.filter (fun (q : StopReq) => !decide (q.ply < s.ply)) } } →
      s.session sess = some x →
      x.inProg.find? (fun (z : EcpOpen) => z.tag == tag) = some y →
      x.devSeq < 0xFFFFFFFF →
      s.sessSends x = true →
      sess ≠ 8 ∨ s.ecp.spiOut.length < 16 →
      unheldOp y.op = false →
      Does (.releaseEvaluation) s (fun t =>
        sends u t x [] [⟨y.op, tag, Ecp.DENIED, respFlags x, x.devSeq + 1, [s.blockers r.ignorePair, 0, 0, 0], x.key⟩] = true ∧
        t.session sess = some { x with devSeq := x.devSeq + 1, inProg := x.inProg.filter (fun z => z.tag ≠ tag), held := (holdResult x ⟨tag, y.op, y.crc, Ecp.DENIED, [s.blockers r.ignorePair, 0, 0, 0], true⟩).held } ∧
        onlySession u t sess = true ∧
        t = { u with ecp := t.ecp, out := t.out })) ∧
    (∀ (s : State) (sess tag : Nat),
      s.stopSafe = true →
      s.accepts 0x0804 sess tag false = true →
      s.rookHeld = false →
      Does (.stopStatus sess tag) s (fun t =>
        answers s t [] 0x0804 sess tag Ecp.OK (crc32c []) s.stopStatus = true ∧
        s.stopStatus.length = 32 ∧
        s.stopStatus.take 4 = [s.get ROOK_STATE_STOP + 2 * s.get ROOK_STATE_HALTED + 4 * s.get ROOK_STATE_FAULT + 8 * s.get ROOK_STATE_RESERVE_LOW, s.get ROOK_STATE_SRC_LATCHED, s.blockers false, s.get ROOK_SEQ_SSEQ] ∧
        (s.stopStatus.drop 8).take 4 = [s.get LOOP_STATUS_OPEN, s.get ROOK_FAULT_LOOP, s.get RELAY_STATUS_DRIVE + 16 * s.get RELAY_STATUS_FB, (allAddrs.filter s.mstop).length] ∧
        RegsBut [] s t ∧
        t = { s with regs := t.regs, ecp := t.ecp, out := t.out })) ∧
    (∀ (s : State) (sess tag : Nat),
      s.stopSafe = true →
      s.accepts 0x0804 sess tag false = true →
      s.rookHeld = true →
      Does (.stopStatus sess tag) s (fun t =>
        answers s t [] 0x0804 sess tag Ecp.NOT_READY (crc32c []) [] = true ∧
        RegsBut [] s t ∧
        t = { s with regs := t.regs, ecp := t.ecp, out := t.out }))

/-- A PAIR_CTRL write that sets EN stores its fields, closes the ECP sessions on ETH_5, takes it from PTP and starts the
listen of a unit that is not active. A heartbeat due carries the 32 bytes of R546 with the next SEQ under the MAC;
with nothing due none is sent. A message the link does not take counts HB_DROP. An accepted heartbeat sets HB_OK and
the partner's fields, raises PAIR_CTR of a standby unit, compares KEYCHK, follows the SSEQ and takes the K0 of an
active partner and marks a yield to a higher claim; STOP in it is source PAIR. 300 ms without one clear HB_OK, count,
and abandon a handover. A SAFETY message is acknowledged and acts as a stop, a release or a HOLD or RESUME; an
acknowledgement ends its repeats; 1 ms after its last sending it is repeated under a new SEQ, and after 300 no more.
(Rests on: R543, R544, R545, R546, R547, R549, R553, R554, R555, R556, R564, R567.) -/
def Obligations.PairLinkHeartbeatsAndAnnouncements : Prop :=
    (∀ (s : State) (ini data : Nat),
      s.stopSafe = true →
      MayWrite s ini 0x40510000 →
      bits data 15 8 ≠ 0 →
      s.bit PAIR_CTRL_LOCK = false →
      bitOf data 30 = true →
      s.bit PAIR_CTRL_EN = false →
      Does (.pairEnable ini data) s (fun t =>
        Reads t [(PAIR_CTRL_EN, 1), (PAIR_CTRL_KEY_SLOT, bits data 24 16 % 2 ^ PAIR_CTRL_KEY_SLOT.w), (PAIR_CTRL_DRILL_DAYS, bits data 15 8), (PAIR_CTRL_LOCK, b2n (bitOf data 31)), (PAIR_STATUS_LINK, s.get (ETH_CFG_LINK 5)), (PAIR_STATUS_PAIR_SLOW, b2n (s.bit (ETH_CFG_LINK 5) && decide (s.get (ETH_CFG_SPEED 5) < 2)))] ∧
        t.ecp.sessions.all (fun y => y.id == 8 || y.port != 5) = true ∧
        t.ecp.sessions = s.ecp.sessions.filter (fun y => y.id == 8 || y.port != 5) ∧
        t.pair = (if s.active then s.pair else { s.pair with listen := true, heard := false, wait := false, since := s.ply }) ∧
        t.time = { s.time with ptp := ((s.time.ptp.set 10 (if leAt s.time.ptp 10 1 = 5 then 0xFF else leAt s.time.ptp 10 1)).set 12 (if leAt s.time.ptp 12 1 = 5 then 0xFF else leAt s.time.ptp 12 1)) } ∧
        t = State.pairCtrl data s ∧
        t.gnss = s.gnss ∧
        t.fix = s.fix ∧
        t.rst = s.rst ∧
        t.rook = s.rook ∧
        (s.ecp.sessions.all (fun y => y.id == 8 || y.port != 5) = true → RegsBut [PAIR_CTRL_EN, PAIR_CTRL_KEY_SLOT, PAIR_CTRL_DRILL_DAYS, PAIR_CTRL_LOCK, PAIR_STATUS_LINK, PAIR_STATUS_PAIR_SLOW, PAIR_STATUS_READY_STANDBY, DOM_STATUS_STATE 0, DOM_STATUS_DOMAIN 0, DOM_STATUS_STATE 1, DOM_STATUS_DOMAIN 1] s t ∧ t = { s with regs := t.regs, pair := t.pair, time := t.time }))) ∧
    (∀ (s : State) (ini data : Nat),
      s.stopSafe = true →
      bitOf data 30 = false ∨ s.bit PAIR_CTRL_EN = true ∨ (MayWrite s ini 0x40510000 ∧ (bits data 15 8 = 0 ∨ s.bit PAIR_CTRL_LOCK = true)) →
      Does (.pairEnable ini data) s (fun t =>
        t = s)) ∧
    (∀ (s : State) (e : Nat) (key : List Nat),
      s.stopSafe = true →
      s.bit PAIR_CTRL_EN = true →
      s.hbDue = true →
      s.clk.refLost = false →
      s.clk.txEndPending = false →
      s.clk.txEnded = false →
      s.pairKey = some key →
      s.pairUp = true →
      s.pair.epoch = some e →
      Does (.heartbeatSend) s (fun t =>
        t.out = s.out ++ [Output.pair (pairBytes PairType.heartbeat s.unitBit e (s.pair.seq + 1) s.sfn (s.hbBody) ++ pairMac key (pairBytes PairType.heartbeat s.unitBit e (s.pair.seq + 1) s.sfn (s.hbBody)))] ∧
        t.pair = { s.pair with seq := s.pair.seq + 1, hbTx := some s.ply } ∧
        s.hbBody.length = 32 ∧
        s.hbBody.take 8 = leBytes 4 (s.get CLAIM) ++ [s.hbState, s.get ROOK_SEQ_SSEQ, s.srcOwn, 0] ∧
        (s.hbBody.drop 16).take 4 = leBytes 4 (s.get CKPT_SEQ_SEQ) ∧
        (s.hbBody.drop 24).take 4 = leBytes 4 (s.get PAIR_CTR_CTR) ∧
        RegsBut [] s t ∧
        t = { s with regs := t.regs, pair := t.pair, out := t.out })) ∧
    (∀ (s : State) (key : List Nat),
      s.stopSafe = true →
      s.bit PAIR_CTRL_EN = true →
      s.hbDue = true →
      s.clk.refLost = false →
      s.clk.txEndPending = false →
      s.clk.txEnded = false →
      s.pairKey = some key →
      s.pairUp = true →
      s.pair.epoch = none →
      Does (.heartbeatSend) s (fun t =>
        t.out = s.out ++ [Output.pair (pairBytes PairType.heartbeat s.unitBit (s.freeVal % 2 ^ 32) 1 s.sfn (s.hbBody) ++ pairMac key (pairBytes PairType.heartbeat s.unitBit (s.freeVal % 2 ^ 32) 1 s.sfn (s.hbBody)))] ∧
        t.pair = { s.pair with epoch := some (s.freeVal % 2 ^ 32), seq := 1, hbTx := some s.ply } ∧
        t.freeCtr = s.freeCtr + 1 ∧
        RegsBut [] s t ∧
        t = { s with regs := t.regs, pair := t.pair, out := t.out, freeCtr := t.freeCtr })) ∧
    (∀ (s : State) (key : List Nat),
      s.stopSafe = true →
      s.bit PAIR_CTRL_EN = true →
      s.hbDue = true →
      s.clk.refLost = false →
      s.clk.txEndPending = false →
      s.clk.txEnded = false →
      s.pairKey = some key →
      s.pairUp = false →
      Does (.heartbeatSend) s (fun t =>
        t.pair = { s.pair with hbTx := some s.ply } ∧
        RegsBut [] s t ∧
        t = { s with regs := t.regs, pair := t.pair })) ∧
    (∀ (s : State),
      s.stopSafe = true →
      s.bit PAIR_CTRL_EN = true →
      s.hbDue = true →
      s.clk.refLost = false →
      s.clk.txEndPending = false →
      s.clk.txEnded = false →
      s.pairKey = none →
      Does (.heartbeatSend) s (fun t =>
        t = State.keyAbort { s with pair := { s.pair with hbTx := some s.ply } } (s.get PAIR_CTRL_KEY_SLOT) 3 5)) ∧
    (∀ (s : State),
      s.stopSafe = true →
      s.bit PAIR_CTRL_EN = false ∨ s.hbDue = false ∨ s.clk.refLost = true ∨ s.clk.txEndPending = true ∨ s.clk.txEnded = true →
      Does (.heartbeatSend) s (fun t =>
        t = s)) ∧
    (∀ (s : State) (m key : List Nat) (x : PairMsg),
      s.stopSafe = true →
      s.bit PAIR_CTRL_EN = true →
      s.domOff 9 = false →
      s.pairKey = some key →
      s.pairAccept key m = some x →
      x.typ = PairType.heartbeat →
      bitOf (leAt x.body 4 1) 1 = false →
      s.bit PAIR_STATUS_HANDOVER_PEND = false →
      Does (.heartbeatReceive m) s (fun t =>
        Reads t [(PARTNER_CLAIM_CLAIM, leAt x.body 0 4), (PAIR_STATUS_HB_OK, 1), (PAIR_STATUS_PARTNER_ACTIVE, b2n (bitOf (leAt x.body 4 1) 0)), (PAIR_STATUS_PARTNER_STOP, 0), (PAIR_CTR_CTR, if !s.active && decide (s.get PAIR_CTR_CTR < leAt x.body 24 4) then leAt x.body 24 4 % 2 ^ PAIR_CTR_CTR.w else s.get PAIR_CTR_CTR), (PAIR_STATUS_KEY_MISMATCH, b2n ((x.body.drop 20).take 4 != s.keyChk)), (ROOK_SEQ_SSEQ, if bitOf (leAt x.body 4 1) 0 && !s.rookHeld && sseqAhead (leAt x.body 5 1) (s.get ROOK_SEQ_SSEQ) then leAt x.body 5 1 else s.get ROOK_SEQ_SSEQ), (NET_K0_HI_VALID, if bitOf (leAt x.body 4 1) 0 then 1 else s.get NET_K0_HI_VALID)] ∧
        t.k0 = (if bitOf (leAt x.body 4 1) 0 && !s.bit NET_K0_HI_VALID then leAt x.body 8 8 % 2 ^ 63 else s.k0) ∧
        (t.pair.hbPly, t.pair.pState, t.pair.pSrc, t.pair.pCtr, t.pair.pEpoch, t.pair.pSeq, t.pair.suspect) = (some s.ply, leAt x.body 4 1, leAt x.body 6 1, leAt x.body 24 4, some x.epoch, x.seq, false) ∧
        t.pair.heard = (s.pair.heard || (bitOf (leAt x.body 4 1) 0 && (s.pair.listen || s.pair.wait))) ∧
        (t.pair.copyBank, t.pair.copyVer) = (if bitOf (leAt x.body 4 1) 0 then (b2n (bitOf (leAt x.body 4 1) 4), leAt x.body 28 2) else (s.pair.copyBank, s.pair.copyVer)) ∧
        t.pair.yield = (s.pair.yield || s.active && bitOf (leAt x.body 4 1) 0 && decide (s.get CLAIM < leAt x.body 0 4)) ∧
        t = State.takeHb { s with pair := { s.pair with pEpoch := some x.epoch, pSeq := x.seq } } x.body ∧
        RegsBut [PARTNER_CLAIM_CLAIM, PAIR_STATUS_HB_OK, PAIR_STATUS_PARTNER_ACTIVE, PAIR_STATUS_PARTNER_STOP, PAIR_CTR_CTR, PAIR_STATUS_KEY_MISMATCH, ROOK_SEQ_SSEQ, NET_K0_LO_K0, NET_K0_HI_K0, NET_K0_HI_VALID, PAIR_STATUS_READY_STANDBY, REC_CNT_QUEUE_DROP] s t ∧
        t = { s with regs := t.regs, pair := t.pair, evr := t.evr })) ∧
    (∀ (s : State) (m key : List Nat) (x : PairMsg),
      s.stopSafe = true →
      s.bit PAIR_CTRL_EN = true →
      s.domOff 9 = false →
      s.pairKey = some key →
      s.pairAccept key m = some x →
      x.typ = PairType.heartbeat →
      bitOf (leAt x.body 4 1) 1 = true →
      s.rookHeld = false →
      s.bit PAIR_STATUS_HANDOVER_PEND = false →
      Does (.heartbeatReceive m) s (fun t =>
        Reads t [(PARTNER_CLAIM_CLAIM, leAt x.body 0 4), (PAIR_STATUS_HB_OK, 1), (PAIR_STATUS_PARTNER_ACTIVE, b2n (bitOf (leAt x.body 4 1) 0)), (PAIR_STATUS_PARTNER_STOP, 1), (PAIR_CTR_CTR, if !s.active && decide (s.get PAIR_CTR_CTR < leAt x.body 24 4) then leAt x.body 24 4 % 2 ^ PAIR_CTR_CTR.w else s.get PAIR_CTR_CTR), (PAIR_STATUS_KEY_MISMATCH, b2n ((x.body.drop 20).take 4 != s.keyChk)), (ROOK_SEQ_SSEQ, if bitOf (leAt x.body 4 1) 0 && !s.rookHeld && sseqAhead (leAt x.body 5 1) (s.get ROOK_SEQ_SSEQ) then leAt x.body 5 1 else s.get ROOK_SEQ_SSEQ), (NET_K0_HI_VALID, if bitOf (leAt x.body 4 1) 0 then 1 else s.get NET_K0_HI_VALID)] ∧
        StopOn 5 s t ∧
        t.k0 = (if bitOf (leAt x.body 4 1) 0 && !s.bit NET_K0_HI_VALID then leAt x.body 8 8 % 2 ^ 63 else s.k0) ∧
        (t.pair.hbPly, t.pair.pState, t.pair.pSrc, t.pair.pCtr, t.pair.pEpoch, t.pair.pSeq, t.pair.suspect) = (some s.ply, leAt x.body 4 1, leAt x.body 6 1, leAt x.body 24 4, some x.epoch, x.seq, false) ∧
        t.pair.heard = (s.pair.heard || (bitOf (leAt x.body 4 1) 0 && (s.pair.listen || s.pair.wait))) ∧
        (t.pair.copyBank, t.pair.copyVer) = (if bitOf (leAt x.body 4 1) 0 then (b2n (bitOf (leAt x.body 4 1) 4), leAt x.body 28 2) else (s.pair.copyBank, s.pair.copyVer)) ∧
        t.pair.yield = (s.pair.yield || s.active && bitOf (leAt x.body 4 1) 0 && decide (s.get CLAIM < leAt x.body 0 4)) ∧
        t = State.takeHb { s with pair := { s.pair with pEpoch := some x.epoch, pSeq := x.seq } } x.body ∧
        StopKeeps [PARTNER_CLAIM_CLAIM, PAIR_STATUS_HB_OK, PAIR_STATUS_PARTNER_ACTIVE, PAIR_STATUS_PARTNER_STOP, PAIR_CTR_CTR, PAIR_STATUS_KEY_MISMATCH, ROOK_SEQ_SSEQ, NET_K0_LO_K0, NET_K0_HI_K0, NET_K0_HI_VALID, PAIR_STATUS_READY_STANDBY, REC_CNT_QUEUE_DROP] true s t)) ∧
    (∀ (s : State) (m key : List Nat) (x : PairMsg),
      s.stopSafe = true →
      s.bit PAIR_CTRL_EN = true →
      s.domOff 9 = false →
      s.pairKey = some key →
      s.pairAccept key m = some x →
      x.typ = PairType.heartbeat →
      s.bit PAIR_STATUS_HANDOVER_PEND = true →
      Does (.heartbeatReceive m) s (fun t =>
        t = State.takeHb { s with pair := { s.pair with pEpoch := some x.epoch, pSeq := x.seq } } x.body ∧
        Reads t [(PARTNER_CLAIM_CLAIM, leAt x.body 0 4), (PAIR_STATUS_HB_OK, 1), (PAIR_STATUS_PARTNER_ACTIVE, b2n (bitOf (leAt x.body 4 1) 0)), (PAIR_STATUS_PARTNER_STOP, b2n (bitOf (leAt x.body 4 1) 1)), (PAIR_STATUS_HANDOVER_PEND, b2n (!(s.active && !bitOf (leAt x.body 4 1) 5)))] ∧
        (s.active = true ∧ bitOf (leAt x.body 4 1) 5 = false → (t.pair.hoReq, t.pair.frozen, t.pair.hoLoaded) = (none, false, false)))) ∧
    (∀ (s : State) (m key : List Nat) (x : PairMsg),
      s.stopSafe = true →
      s.bit PAIR_CTRL_EN = true →
      s.domOff 9 = false →
      s.pairKey = some key →
      s.pairAccept key m = some x →
      x.typ = PairType.heartbeat →
      bitOf (leAt x.body 4 1) 1 = true →
      s.rookHeld = true →
      Does (.heartbeatReceive m) s (fun t =>
        t = State.takeHb { s with pair := { s.pair with pEpoch := some x.epoch, pSeq := x.seq } } x.body ∧
        Reads t [(PARTNER_CLAIM_CLAIM, leAt x.body 0 4), (PAIR_STATUS_HB_OK, 1), (PAIR_STATUS_PARTNER_STOP, 1), (ROOK_STATE_STOP, s.get ROOK_STATE_STOP), (ROOK_STATE_SRC_LATCHED, s.get ROOK_STATE_SRC_LATCHED), (ROOK_SEQ_SSEQ, s.get ROOK_SEQ_SSEQ)])) ∧
    (∀ (s : State) (m : List Nat),
      s.stopSafe = true →
      s.bit PAIR_CTRL_EN = false ∨ s.domOff 9 = true →
      Does (.heartbeatReceive m) s (fun t =>
        t = s)) ∧
    (∀ (s : State) (m key : List Nat) (x : PairMsg),
      s.stopSafe = true →
      s.pairKey = some key →
      s.pairAccept key m = some x →
      x.typ ≠ PairType.heartbeat →
      Does (.heartbeatReceive m) s (fun t =>
        t = s)) ∧
    (∀ (s : State) (m key : List Nat),
      s.stopSafe = true →
      s.bit PAIR_CTRL_EN = true →
      s.domOff 9 = false →
      s.pairKey = some key →
      s.pairAccept key m = none →
      Does (.heartbeatReceive m) s (fun t =>
        Reads t [(PAIR_CNT_HB_DROP, s.adv PAIR_CNT_HB_DROP)] ∧
        RegsBut [PAIR_CNT_HB_DROP] s t ∧
        OnlyRegs s t)) ∧
    (∀ (s : State) (m : List Nat),
      s.stopSafe = true →
      s.bit PAIR_CTRL_EN = true →
      s.domOff 9 = false →
      s.pairKey = none →
      Does (.heartbeatReceive m) s (fun t =>
        t = State.bump (s.keyAbort (s.get PAIR_CTRL_KEY_SLOT) 3 5) PAIR_CNT_HB_DROP ∧
        Reads t [(PAIR_CNT_HB_DROP, s.adv PAIR_CNT_HB_DROP)])) ∧
    (∀ (s : State) (p : Nat),
      s.stopSafe = true →
      s.bit PAIR_STATUS_HB_OK = true →
      s.pair.hbPly = some p →
      p + 30000 ≤ s.ply →
      s.pair.hoReq = none →
      Does (.heartbeatLost) s (fun t =>
        Reads t [(PAIR_STATUS_HB_OK, 0), (PAIR_CNT2_HB_LOST, s.adv PAIR_CNT2_HB_LOST), (PAIR_STATUS_HANDOVER_PEND, 0)] ∧
        t.pair = (if s.bit PAIR_STATUS_HANDOVER_PEND then { s.pair with frozen := false, hoReq := none, hoLoaded := false } else s.pair) ∧
        t.evr = (if s.bit PAIR_STATUS_HANDOVER_PEND then State.record (State.handoverOver (State.record (State.bump (State.put s PAIR_STATUS_HB_OK 0) PAIR_CNT2_HB_LOST) .hbLost [])) .handoverAbort [] else State.record (State.bump (State.put s PAIR_STATUS_HB_OK 0) PAIR_CNT2_HB_LOST) .hbLost []).evr ∧
        RegsBut [PAIR_STATUS_HB_OK, PAIR_CNT2_HB_LOST, PAIR_STATUS_HANDOVER_PEND, REC_CNT_QUEUE_DROP] s t ∧
        t = { s with regs := t.regs, pair := t.pair, evr := t.evr })) ∧
    (∀ (s : State) (p sess tag : Nat) (x : EcpSession) (y : EcpOpen) (u : State),
      s.stopSafe = true →
      s.bit PAIR_STATUS_HB_OK = true →
      s.pair.hbPly = some p →
      p + 30000 ≤ s.ply →
      s.pair.hoReq = some (sess, tag) →
      u = State.record (State.handoverOver (State.record (State.bump (State.put s PAIR_STATUS_HB_OK 0) PAIR_CNT2_HB_LOST) .hbLost [])) .handoverAbort [] →
      s.session sess = some x →
      x.inProg.find? (fun (z : EcpOpen) => z.tag == tag) = some y →
      x.devSeq < 0xFFFFFFFF →
      s.sessSends x = true →
      sess ≠ 8 ∨ s.ecp.spiOut.length < 16 →
      unheldOp y.op = false →
      Does (.heartbeatLost) s (fun t =>
        sends u t x [] [⟨y.op, tag, Ecp.DENIED, respFlags x, x.devSeq + 1, [], x.key⟩] = true ∧
        t.session sess = some { x with devSeq := x.devSeq + 1, inProg := x.inProg.filter (fun z => z.tag ≠ tag), held := (holdResult x ⟨tag, y.op, y.crc, Ecp.DENIED, [], true⟩).held } ∧
        onlySession u t sess = true ∧
        Reads t [(PAIR_STATUS_HB_OK, 0), (PAIR_CNT2_HB_LOST, s.adv PAIR_CNT2_HB_LOST), (PAIR_STATUS_HANDOVER_PEND, 0)] ∧
        t.pair = { s.pair with frozen := false, hoReq := none, hoLoaded := false } ∧
        t = { u with ecp := t.ecp, out := t.out })) ∧
    (∀ (s : State),
      s.stopSafe = true →
      s.bit PAIR_STATUS_HB_OK = false ∨ s.pair.hbPly.any (fun (p : Nat) => decide (p + 30000 ≤ s.ply)) = false →
      Does (.heartbeatLost) s (fun t =>
        t = s)) ∧
    (∀ (s : State) (m key : List Nat) (x : PairMsg) (e : Nat),
      s.stopSafe = true →
      s.bit PAIR_CTRL_EN = true →
      s.domOff 9 = false →
      s.pairKey = some key →
      s.pairAccept key m = some x →
      x.typ = PairType.safety →
      leAt x.body 0 1 = 1 →
      s.rookHeld = false →
      Does (.safetyReceive m) s (fun t =>
        StopOn 5 s t ∧
        Reads t [(PAIR_STATUS_PARTNER_STOP, 1)] ∧
        Reads t [(ROOK_SEQ_SSEQ, if !s.rookHeld && sseqAhead (leAt x.body 1 1) (s.get ROOK_SEQ_SSEQ) then leAt x.body 1 1 else s.get ROOK_SEQ_SSEQ)] ∧
        t.pair.pSrc = leAt x.body 3 1 ∧
        ((s.pairUp = true ∧ s.pair.epoch = some e) → (t.out.drop s.out.length).head? = some (Output.pair (pairBytes PairType.safetyAck s.unitBit e (s.pair.seq + 1) s.sfn (leBytes 4 x.seq) ++ pairMac key (pairBytes PairType.safetyAck s.unitBit e (s.pair.seq + 1) s.sfn (leBytes 4 x.seq))))) ∧
        t = State.takeSafety { s with pair := { s.pair with pEpoch := some x.epoch, pSeq := x.seq } } x ∧
        StopKeeps [PAIR_STATUS_PARTNER_STOP, ROOK_SEQ_SSEQ] false s t)) ∧
    (∀ (s : State) (m key : List Nat) (x : PairMsg) (e : Nat),
      s.stopSafe = true →
      s.bit PAIR_CTRL_EN = true →
      s.domOff 9 = false →
      s.pairKey = some key →
      s.pairAccept key m = some x →
      x.typ = PairType.safety →
      leAt x.body 0 1 = 2 →
      s.rookHeld = false →
      s.stopped = true →
      s.get ROOK_STATE_SRC_LATCHED = 0x20 →
      (s.put PAIR_STATUS_PARTNER_STOP 0).blockers false = 0 →
      Does (.safetyReceive m) s (fun t =>
        Reads t [(PAIR_STATUS_PARTNER_STOP, 0), (ROOK_STATE_STOP, 0), (ROOK_STATE_SRC_LATCHED, 0), (RELAY_STATUS_DRIVE, s.get RELAY_STATUS_DRIVE)] ∧
        Reads t [(ROOK_SEQ_SSEQ, if !s.rookHeld && sseqAhead (leAt x.body 1 1) (s.get ROOK_SEQ_SSEQ) then leAt x.body 1 1 else s.get ROOK_SEQ_SSEQ)] ∧
        t.rook = { s.rook with rep := [], raiseAt := some (s.ply + 1) } ∧
        t.pair.pSrc = leAt x.body 3 1 ∧
        ((s.pairUp = true ∧ s.pair.epoch = some e) → (t.out.drop s.out.length).head? = some (Output.pair (pairBytes PairType.safetyAck s.unitBit e (s.pair.seq + 1) s.sfn (leBytes 4 x.seq) ++ pairMac key (pairBytes PairType.safetyAck s.unitBit e (s.pair.seq + 1) s.sfn (leBytes 4 x.seq))))) ∧
        t = State.takeSafety { s with pair := { s.pair with pEpoch := some x.epoch, pSeq := x.seq } } x ∧
        RegsBut [PAIR_STATUS_PARTNER_STOP, ROOK_STATE_STOP, ROOK_STATE_SRC_LATCHED, ROOK_SEQ_SSEQ, KS_CNT_ORPHAN_ABORTS, REC_CNT_QUEUE_DROP] s t ∧
        t = { s with regs := t.regs, rook := t.rook, pair := t.pair, out := t.out, freeCtr := t.freeCtr, evr := t.evr })) ∧
    (∀ (s : State) (m key : List Nat) (x : PairMsg) (e : Nat),
      s.stopSafe = true →
      s.bit PAIR_CTRL_EN = true →
      s.domOff 9 = false →
      s.pairKey = some key →
      s.pairAccept key m = some x →
      x.typ = PairType.safety →
      leAt x.body 0 1 = 2 →
      s.rookHeld = true ∨ s.stopped = false ∨ s.get ROOK_STATE_SRC_LATCHED ≠ 0x20 →
      Does (.safetyReceive m) s (fun t =>
        Reads t [(PAIR_STATUS_PARTNER_STOP, 0), (ROOK_STATE_STOP, s.get ROOK_STATE_STOP), (ROOK_STATE_SRC_LATCHED, s.get ROOK_STATE_SRC_LATCHED)] ∧
        Reads t [(ROOK_SEQ_SSEQ, if !s.rookHeld && sseqAhead (leAt x.body 1 1) (s.get ROOK_SEQ_SSEQ) then leAt x.body 1 1 else s.get ROOK_SEQ_SSEQ)] ∧
        t.pair.pSrc = leAt x.body 3 1 ∧
        ((s.pairUp = true ∧ s.pair.epoch = some e) → (t.out.drop s.out.length).head? = some (Output.pair (pairBytes PairType.safetyAck s.unitBit e (s.pair.seq + 1) s.sfn (leBytes 4 x.seq) ++ pairMac key (pairBytes PairType.safetyAck s.unitBit e (s.pair.seq + 1) s.sfn (leBytes 4 x.seq))))) ∧
        t = State.takeSafety { s with pair := { s.pair with pEpoch := some x.epoch, pSeq := x.seq } } x ∧
        RegsBut [PAIR_STATUS_PARTNER_STOP, ROOK_SEQ_SSEQ, KS_CNT_ORPHAN_ABORTS] s t ∧
        t = { s with regs := t.regs, pair := t.pair, out := t.out, freeCtr := t.freeCtr })) ∧
    (∀ (s : State) (m key : List Nat) (x : PairMsg) (e : Nat),
      s.stopSafe = true →
      s.bit PAIR_CTRL_EN = true →
      s.domOff 9 = false →
      s.pairKey = some key →
      s.pairAccept key m = some x →
      x.typ = PairType.safety →
      leAt x.body 0 1 = 2 →
      s.rookHeld = false →
      s.stopped = true →
      s.get ROOK_STATE_SRC_LATCHED = 0x20 →
      (s.put PAIR_STATUS_PARTNER_STOP 0).blockers false ≠ 0 →
      Does (.safetyReceive m) s (fun t =>
        Reads t [(PAIR_STATUS_PARTNER_STOP, 0), (ROOK_STATE_STOP, 1), (ROOK_STATE_SRC_LATCHED, 0x20)] ∧
        Reads t [(ROOK_SEQ_SSEQ, if !s.rookHeld && sseqAhead (leAt x.body 1 1) (s.get ROOK_SEQ_SSEQ) then leAt x.body 1 1 else s.get ROOK_SEQ_SSEQ)] ∧
        t.pair.pSrc = leAt x.body 3 1 ∧
        ((s.pairUp = true ∧ s.pair.epoch = some e) → (t.out.drop s.out.length).head? = some (Output.pair (pairBytes PairType.safetyAck s.unitBit e (s.pair.seq + 1) s.sfn (leBytes 4 x.seq) ++ pairMac key (pairBytes PairType.safetyAck s.unitBit e (s.pair.seq + 1) s.sfn (leBytes 4 x.seq))))) ∧
        t = State.takeSafety { s with pair := { s.pair with pEpoch := some x.epoch, pSeq := x.seq } } x ∧
        t.rst = s.rst ∧
        t.time = s.time ∧
        t.gnss = s.gnss)) ∧
    (∀ (s : State) (m key : List Nat) (x : PairMsg) (e : Nat),
      s.stopSafe = true →
      s.bit PAIR_CTRL_EN = true →
      s.domOff 9 = false →
      s.pairKey = some key →
      s.pairAccept key m = some x →
      x.typ = PairType.safety →
      leAt x.body 0 1 = 3 →
      s.rookHeld = false →
      s.pair.pHr.all (fun (q : Nat) => sseqAhead (leAt x.body 1 1) q) = true →
      s.rook.hr.length < 32 →
      Does (.safetyReceive m) s (fun t =>
        t.rook.hr = insertHr { cmd := 2, sseq := some (leAt x.body 1 1), target := leAt x.body 2 1, members := [], left := s.laneLeft (fun _ => s.get STOP_CFG_HR_REPEAT) } s.rook.hr ∧
        Reads t [(ROOK_SEQ_SSEQ, if !s.rookHeld && sseqAhead (leAt x.body 1 1) (s.get ROOK_SEQ_SSEQ) then leAt x.body 1 1 else s.get ROOK_SEQ_SSEQ)] ∧
        t.pair.pSrc = leAt x.body 3 1 ∧
        t.pair.pHr = some (leAt x.body 1 1) ∧
        ((s.pairUp = true ∧ s.pair.epoch = some e) → (t.out.drop s.out.length).head? = some (Output.pair (pairBytes PairType.safetyAck s.unitBit e (s.pair.seq + 1) s.sfn (leBytes 4 x.seq) ++ pairMac key (pairBytes PairType.safetyAck s.unitBit e (s.pair.seq + 1) s.sfn (leBytes 4 x.seq))))) ∧
        t = State.takeSafety { s with pair := { s.pair with pEpoch := some x.epoch, pSeq := x.seq } } x ∧
        RegsBut [ROOK_SEQ_SSEQ, KS_CNT_ORPHAN_ABORTS] s t ∧
        t = { s with regs := t.regs, rook := { s.rook with hr := t.rook.hr }, pair := t.pair, out := t.out, freeCtr := t.freeCtr })) ∧
    (∀ (s : State) (m key : List Nat) (x : PairMsg) (e : Nat),
      s.stopSafe = true →
      s.bit PAIR_CTRL_EN = true →
      s.domOff 9 = false →
      s.pairKey = some key →
      s.pairAccept key m = some x →
      x.typ = PairType.safety →
      leAt x.body 0 1 = 4 →
      s.rookHeld = false →
      s.pair.pHr.all (fun (q : Nat) => sseqAhead (leAt x.body 1 1) q) = true →
      s.rook.hr.length < 32 →
      Does (.safetyReceive m) s (fun t =>
        t.rook.hr = insertHr { cmd := 3, sseq := some (leAt x.body 1 1), target := leAt x.body 2 1, members := [], left := s.laneLeft (fun _ => s.get STOP_CFG_HR_REPEAT) } s.rook.hr ∧
        Reads t [(ROOK_SEQ_SSEQ, if !s.rookHeld && sseqAhead (leAt x.body 1 1) (s.get ROOK_SEQ_SSEQ) then leAt x.body 1 1 else s.get ROOK_SEQ_SSEQ)] ∧
        t.pair.pSrc = leAt x.body 3 1 ∧
        t.pair.pHr = some (leAt x.body 1 1) ∧
        allAddrs.all (fun a => t.mstop a == (s.mstop a && !((s.targets (leAt x.body 2 1)).contains a && !s.rook.mstopPly.contains (a, s.ply)))) = true ∧
        ((s.pairUp = true ∧ s.pair.epoch = some e) → (t.out.drop s.out.length).head? = some (Output.pair (pairBytes PairType.safetyAck s.unitBit e (s.pair.seq + 1) s.sfn (leBytes 4 x.seq) ++ pairMac key (pairBytes PairType.safetyAck s.unitBit e (s.pair.seq + 1) s.sfn (leBytes 4 x.seq))))) ∧
        t = State.takeSafety { s with pair := { s.pair with pEpoch := some x.epoch, pSeq := x.seq } } x ∧
        RegsBut [ROOK_SEQ_SSEQ, KS_CNT_ORPHAN_ABORTS, MSTOP_MEMBERS 0, MSTOP_MEMBERS 1, MSTOP_MEMBERS 2, MSTOP_MEMBERS 3, MSTOP_MEMBERS 4, MSTOP_MEMBERS 5] s t ∧
        t = { s with regs := t.regs, rook := { s.rook with hr := t.rook.hr }, pair := t.pair, out := t.out, freeCtr := t.freeCtr })) ∧
    (∀ (s : State) (m key : List Nat) (x : PairMsg) (e : Nat),
      s.stopSafe = true →
      s.bit PAIR_CTRL_EN = true →
      s.domOff 9 = false →
      s.pairKey = some key →
      s.pairAccept key m = some x →
      x.typ = PairType.safety →
      leAt x.body 0 1 = 3 ∨ leAt x.body 0 1 = 4 →
      s.rookHeld = true ∨ s.pair.pHr.any (fun (q : Nat) => !sseqAhead (leAt x.body 1 1) q) = true →
      Does (.safetyReceive m) s (fun t =>
        t.rook = s.rook ∧
        Reads t [(ROOK_SEQ_SSEQ, if !s.rookHeld && sseqAhead (leAt x.body 1 1) (s.get ROOK_SEQ_SSEQ) then leAt x.body 1 1 else s.get ROOK_SEQ_SSEQ)] ∧
        t.pair.pSrc = leAt x.body 3 1 ∧
        t.pair.pHr = s.pair.pHr ∧
        ((s.pairUp = true ∧ s.pair.epoch = some e) → (t.out.drop s.out.length).head? = some (Output.pair (pairBytes PairType.safetyAck s.unitBit e (s.pair.seq + 1) s.sfn (leBytes 4 x.seq) ++ pairMac key (pairBytes PairType.safetyAck s.unitBit e (s.pair.seq + 1) s.sfn (leBytes 4 x.seq))))) ∧
        t = State.takeSafety { s with pair := { s.pair with pEpoch := some x.epoch, pSeq := x.seq } } x ∧
        RegsBut [ROOK_SEQ_SSEQ, KS_CNT_ORPHAN_ABORTS] s t ∧
        t = { s with regs := t.regs, pair := t.pair, out := t.out, freeCtr := t.freeCtr })) ∧
    (∀ (s : State) (m key : List Nat) (x : PairMsg) (e : Nat),
      s.stopSafe = true →
      s.bit PAIR_CTRL_EN = true →
      s.domOff 9 = false →
      s.pairKey = some key →
      s.pairAccept key m = some x →
      x.typ = PairType.safety →
      leAt x.body 0 1 = 3 ∨ leAt x.body 0 1 = 4 →
      s.rookHeld = false →
      s.pair.pHr.all (fun (q : Nat) => sseqAhead (leAt x.body 1 1) q) = true →
      32 ≤ s.rook.hr.length →
      Does (.safetyReceive m) s (fun t =>
        t.rook = s.rook ∧
        Reads t [(ROOK_SEQ_SSEQ, if !s.rookHeld && sseqAhead (leAt x.body 1 1) (s.get ROOK_SEQ_SSEQ) then leAt x.body 1 1 else s.get ROOK_SEQ_SSEQ)] ∧
        t.pair.pSrc = leAt x.body 3 1 ∧
        t.pair.pHr = some (leAt x.body 1 1) ∧
        Reads t [(ROOK_CNT2_QUEUE_FULL, s.adv ROOK_CNT2_QUEUE_FULL)] ∧
        ((s.pairUp = true ∧ s.pair.epoch = some e) → (t.out.drop s.out.length).head? = some (Output.pair (pairBytes PairType.safetyAck s.unitBit e (s.pair.seq + 1) s.sfn (leBytes 4 x.seq) ++ pairMac key (pairBytes PairType.safetyAck s.unitBit e (s.pair.seq + 1) s.sfn (leBytes 4 x.seq))))) ∧
        t = State.takeSafety { s with pair := { s.pair with pEpoch := some x.epoch, pSeq := x.seq } } x ∧
        RegsBut [ROOK_SEQ_SSEQ, KS_CNT_ORPHAN_ABORTS, ROOK_CNT2_QUEUE_FULL] s t ∧
        t = { s with regs := t.regs, pair := t.pair, out := t.out, freeCtr := t.freeCtr })) ∧
    (∀ (s : State) (m key : List Nat) (x : PairMsg),
      s.stopSafe = true →
      s.bit PAIR_CTRL_EN = true →
      s.domOff 9 = false →
      s.pairKey = some key →
      s.pairAccept key m = some x →
      x.typ = PairType.safety →
      leAt x.body 0 1 = 1 →
      s.rookHeld = true →
      Does (.safetyReceive m) s (fun t =>
        t = State.takeSafety { s with pair := { s.pair with pEpoch := some x.epoch, pSeq := x.seq } } x ∧
        Reads t [(PAIR_STATUS_PARTNER_STOP, 1), (ROOK_STATE_STOP, s.get ROOK_STATE_STOP), (ROOK_SEQ_SSEQ, s.get ROOK_SEQ_SSEQ)] ∧
        t.rook = s.rook ∧
        t.pair.pSrc = leAt x.body 3 1)) ∧
    (∀ (s : State) (m key : List Nat) (x : PairMsg),
      s.stopSafe = true →
      s.bit PAIR_CTRL_EN = true →
      s.domOff 9 = false →
      s.pairKey = some key →
      s.pairAccept key m = some x →
      x.typ = PairType.safety →
      leAt x.body 0 1 = 0 ∨ 4 < leAt x.body 0 1 →
      Does (.safetyReceive m) s (fun t =>
        Reads t [(PAIR_CNT_HB_DROP, s.adv PAIR_CNT_HB_DROP)] ∧
        t.pair = { s.pair with pEpoch := some x.epoch, pSeq := x.seq } ∧
        RegsBut [PAIR_CNT_HB_DROP] s t ∧
        t = { s with regs := t.regs, pair := t.pair })) ∧
    (∀ (s : State) (m : List Nat),
      s.stopSafe = true →
      s.bit PAIR_CTRL_EN = false ∨ s.domOff 9 = true →
      Does (.safetyReceive m) s (fun t =>
        t = s)) ∧
    (∀ (s : State) (m key : List Nat) (x : PairMsg),
      s.stopSafe = true →
      s.pairKey = some key →
      s.pairAccept key m = some x →
      x.typ ≠ PairType.safety →
      Does (.safetyReceive m) s (fun t =>
        t = s)) ∧
    (∀ (s : State) (m key : List Nat),
      s.stopSafe = true →
      s.bit PAIR_CTRL_EN = true →
      s.domOff 9 = false →
      s.pairKey = some key →
      s.pairAccept key m = none →
      Does (.safetyReceive m) s (fun t =>
        Reads t [(PAIR_CNT_HB_DROP, s.adv PAIR_CNT_HB_DROP)] ∧
        RegsBut [PAIR_CNT_HB_DROP] s t ∧
        OnlyRegs s t)) ∧
    (∀ (s : State) (m : List Nat),
      s.stopSafe = true →
      s.bit PAIR_CTRL_EN = true →
      s.domOff 9 = false →
      s.pairKey = none →
      Does (.safetyReceive m) s (fun t =>
        t = State.bump (s.keyAbort (s.get PAIR_CTRL_KEY_SLOT) 3 5) PAIR_CNT_HB_DROP ∧
        Reads t [(PAIR_CNT_HB_DROP, s.adv PAIR_CNT_HB_DROP)])) ∧
    (∀ (s : State) (m key : List Nat) (x : PairMsg),
      s.stopSafe = true →
      s.bit PAIR_CTRL_EN = true →
      s.domOff 9 = false →
      s.pairKey = some key →
      s.pairAccept key m = some x →
      x.typ = PairType.safetyAck →
      Does (.safetyAckReceive m) s (fun t =>
        t.pair = { s.pair with pEpoch := some x.epoch, pSeq := x.seq, safety := s.pair.safety.filter (fun y => !y.seqs.contains (leAt x.body 0 4)) } ∧
        RegsBut [] s t ∧
        t = { s with regs := t.regs, pair := t.pair })) ∧
    (∀ (s : State) (m : List Nat),
      s.stopSafe = true →
      s.bit PAIR_CTRL_EN = false ∨ s.domOff 9 = true →
      Does (.safetyAckReceive m) s (fun t =>
        t = s)) ∧
    (∀ (s : State) (m key : List Nat) (x : PairMsg),
      s.stopSafe = true →
      s.pairKey = some key →
      s.pairAccept key m = some x →
      x.typ ≠ PairType.safetyAck →
      Does (.safetyAckReceive m) s (fun t =>
        t = s)) ∧
    (∀ (s : State) (m key : List Nat),
      s.stopSafe = true →
      s.bit PAIR_CTRL_EN = true →
      s.domOff 9 = false →
      s.pairKey = some key →
      s.pairAccept key m = none →
      Does (.safetyAckReceive m) s (fun t =>
        Reads t [(PAIR_CNT_HB_DROP, s.adv PAIR_CNT_HB_DROP)] ∧
        RegsBut [PAIR_CNT_HB_DROP] s t ∧
        OnlyRegs s t)) ∧
    (∀ (s : State) (m : List Nat),
      s.stopSafe = true →
      s.bit PAIR_CTRL_EN = true →
      s.domOff 9 = false →
      s.pairKey = none →
      Does (.safetyAckReceive m) s (fun t =>
        t = State.bump (s.keyAbort (s.get PAIR_CTRL_KEY_SLOT) 3 5) PAIR_CNT_HB_DROP ∧
        Reads t [(PAIR_CNT_HB_DROP, s.adv PAIR_CNT_HB_DROP)])) ∧
    (∀ (s : State) (i e : Nat) (y : SafetyMsg) (key : List Nat),
      s.stopSafe = true →
      s.pair.safety[i]? = some y →
      y.ply + 100 ≤ s.ply →
      y.repeats < 300 →
      s.pairKey = some key →
      s.pairUp = true →
      s.pair.epoch = some e →
      Does (.safetyRepeat i) s (fun t =>
        t.out = s.out ++ [Output.pair (pairBytes PairType.safety s.unitBit e (s.pair.seq + 1) s.sfn (y.body) ++ pairMac key (pairBytes PairType.safety s.unitBit e (s.pair.seq + 1) s.sfn (y.body)))] ∧
        t.pair = { s.pair with seq := s.pair.seq + 1, safety := s.pair.safety.set i { y with seqs := y.seqs ++ [s.pair.seq + 1], repeats := y.repeats + 1, ply := s.ply } } ∧
        RegsBut [] s t ∧
        t = { s with regs := t.regs, pair := t.pair, out := t.out })) ∧
    (∀ (s : State) (i : Nat) (y : SafetyMsg) (key : List Nat),
      s.stopSafe = true →
      s.pair.safety[i]? = some y →
      y.ply + 100 ≤ s.ply →
      y.repeats < 300 →
      s.pairKey = some key →
      s.pairUp = true →
      s.pair.epoch = none →
      Does (.safetyRepeat i) s (fun t =>
        t.out = s.out ++ [Output.pair (pairBytes PairType.safety s.unitBit (s.freeVal % 2 ^ 32) 1 s.sfn (y.body) ++ pairMac key (pairBytes PairType.safety s.unitBit (s.freeVal % 2 ^ 32) 1 s.sfn (y.body)))] ∧
        t.pair = { s.pair with epoch := some (s.freeVal % 2 ^ 32), seq := 1, safety := s.pair.safety.set i { y with seqs := y.seqs ++ [1], repeats := y.repeats + 1, ply := s.ply } } ∧
        t.freeCtr = s.freeCtr + 1 ∧
        RegsBut [] s t ∧
        t = { s with regs := t.regs, pair := t.pair, out := t.out, freeCtr := t.freeCtr })) ∧
    (∀ (s : State) (i : Nat) (y : SafetyMsg) (key : List Nat),
      s.stopSafe = true →
      s.pair.safety[i]? = some y →
      y.ply + 100 ≤ s.ply →
      y.repeats < 300 →
      s.pairKey = some key →
      s.pairUp = false →
      Does (.safetyRepeat i) s (fun t =>
        t.pair = { s.pair with safety := s.pair.safety.set i { y with seqs := y.seqs, repeats := y.repeats + 1, ply := s.ply } } ∧
        RegsBut [] s t ∧
        t = { s with regs := t.regs, pair := t.pair })) ∧
    (∀ (s : State) (i : Nat) (y : SafetyMsg),
      s.stopSafe = true →
      s.pair.safety[i]? = some y →
      y.ply + 100 ≤ s.ply →
      y.repeats < 300 →
      s.pairKey = none →
      Does (.safetyRepeat i) s (fun t =>
        t = (let z := s.keyAbort (s.get PAIR_CTRL_KEY_SLOT) 3 5; { z with pair := { s.pair with safety := s.pair.safety.set i { y with seqs := y.seqs, repeats := y.repeats + 1, ply := s.ply } } }))) ∧
    (∀ (s : State) (i : Nat) (y : SafetyMsg),
      s.stopSafe = true →
      s.pair.safety[i]? = some y →
      y.ply + 100 ≤ s.ply →
      300 ≤ y.repeats →
      Does (.safetyRepeat i) s (fun t =>
        t.pair = { s.pair with safety := s.pair.safety.eraseIdx i } ∧
        RegsBut [] s t ∧
        t = { s with regs := t.regs, pair := t.pair })) ∧
    (∀ (s : State) (i : Nat),
      s.stopSafe = true →
      s.pair.safety[i]?.all (fun (y : SafetyMsg) => decide (s.ply < y.ply + 100)) = true →
      Does (.safetyRepeat i) s (fun t =>
        t = s))

/-- A listen of 3 s, or 30 s with long superframes only, that finds no active partner makes a primary active at the next
boundary and a secondary wait 2 s more; the wait decides likewise. READY_STANDBY follows its conditions. With no
Bellwether and no heartbeat a standby sets TAKEOVER_PEND and becomes active at the boundary; with one of the two
missing it writes PARTNER_SUSPECT once. A checkpoint chunk goes into the spare buffer; at CKPT_END a bad SEQ, size,
CRC or offset discards it with CKPT_FAIL, a good image becomes the checkpoint. A load that ends marks it.
PAIR_HANDOVER names H and sends HANDOVER, refused where R565 says; the standby notes H and acknowledges; the
acknowledgement sets HANDOVER_PEND. Whole days since the unit was active count, and DRILL_DUE is set beyond
DRILL_DAYS. A message the link does not take counts HB_DROP, and one with nothing to act on only advances EPOCH and
SEQ. (Rests on: R543, R544, R545, R556, R557, R559, R560, R561, R562, R565, R567, R569.) -/
def Obligations.RunStateCheckpointsAndHandover : Prop :=
    (∀ (s : State),
      s.stopSafe = true →
      s.pair.listen = true →
      s.pair.since + (if (List.range 8).any (fun n => s.bit (LANE_CFG_EN n)) && (List.range 8).all (fun n => !s.bit (LANE_CFG_EN n) || s.prof n != 0) then 3000000 else 300000) ≤ s.ply →
      s.pair.heard = true →
      Does (.startupListenExpiry) s (fun t =>
        t.pair = { s.pair with listen := false } ∧
        RegsBut [] s t ∧
        t = { s with regs := t.regs, pair := t.pair })) ∧
    (∀ (s : State),
      s.stopSafe = true →
      s.pair.listen = true →
      s.pair.since + (if (List.range 8).any (fun n => s.bit (LANE_CFG_EN n)) && (List.range 8).all (fun n => !s.bit (LANE_CFG_EN n) || s.prof n != 0) then 3000000 else 300000) ≤ s.ply →
      s.pair.heard = false →
      s.unitBit = 0 →
      Does (.startupListenExpiry) s (fun t =>
        t.pair = { s.pair with listen := false, become := true } ∧
        RegsBut [] s t ∧
        t = { s with regs := t.regs, pair := t.pair })) ∧
    (∀ (s : State),
      s.stopSafe = true →
      s.pair.listen = true →
      s.pair.since + (if (List.range 8).any (fun n => s.bit (LANE_CFG_EN n)) && (List.range 8).all (fun n => !s.bit (LANE_CFG_EN n) || s.prof n != 0) then 3000000 else 300000) ≤ s.ply →
      s.pair.heard = false →
      s.unitBit ≠ 0 →
      Does (.startupListenExpiry) s (fun t =>
        t.pair = { s.pair with listen := false, wait := true, since := s.ply } ∧
        RegsBut [] s t ∧
        t = { s with regs := t.regs, pair := t.pair })) ∧
    (∀ (s : State),
      s.stopSafe = true →
      s.pair.listen = false ∨ s.ply < s.pair.since + (if (List.range 8).any (fun n => s.bit (LANE_CFG_EN n)) && (List.range 8).all (fun n => !s.bit (LANE_CFG_EN n) || s.prof n != 0) then 3000000 else 300000) →
      Does (.startupListenExpiry) s (fun t =>
        t = s)) ∧
    (∀ (s : State),
      s.stopSafe = true →
      s.pair.wait = true →
      s.pair.since + 200000 ≤ s.ply →
      Does (.secondaryWaitExpiry) s (fun t =>
        t.pair = { s.pair with wait := false, become := !s.pair.heard } ∧
        RegsBut [] s t ∧
        t = { s with regs := t.regs, pair := t.pair })) ∧
    (∀ (s : State),
      s.stopSafe = true →
      s.pair.wait = false ∨ s.ply < s.pair.since + 200000 →
      Does (.secondaryWaitExpiry) s (fun t =>
        t = s)) ∧
    (∀ (s : State),
      s.stopSafe = true →
      Does (.standbyReadyTimeout) s (fun t =>
        Reads t [(PAIR_STATUS_READY_STANDBY, b2n (s.bit PAIR_CTRL_EN && !s.active && s.pair.ckpt.isSome && s.ckptFresh && s.refOk && (List.range 8).any s.laneReady && !s.bit PAIR_STATUS_KEY_MISMATCH && !s.bit PAIR_STATUS_PAIR_SLOW))] ∧
        RegsBut [PAIR_STATUS_READY_STANDBY] s t ∧
        OnlyRegs s t)) ∧
    (∀ (s : State),
      s.stopSafe = true →
      s.bit PAIR_CTRL_EN = true →
      s.active = false →
      s.pair.listen = false →
      s.pair.wait = false →
      s.bit PAIR_STATUS_TAKEOVER_PEND = false →
      s.pair.become = false →
      s.bellsGone = true →
      s.bit PAIR_STATUS_HB_OK = false →
      Does (.takeoverDetect) s (fun t =>
        Reads t [(PAIR_STATUS_TAKEOVER_PEND, 1)] ∧
        t.pair = { s.pair with become := true } ∧
        t.evr = (s.record .takeover []).evr ∧
        RegsBut [PAIR_STATUS_TAKEOVER_PEND, REC_CNT_QUEUE_DROP] s t ∧
        t = { s with regs := t.regs, pair := t.pair, evr := t.evr })) ∧
    (∀ (s : State),
      s.stopSafe = true →
      s.bit PAIR_CTRL_EN = true →
      s.active = false →
      s.pair.listen = false →
      s.pair.wait = false →
      s.bit PAIR_STATUS_TAKEOVER_PEND = false →
      s.pair.become = false →
      s.bellsGone ≠ !s.bit PAIR_STATUS_HB_OK →
      s.pair.suspect = false →
      Does (.takeoverDetect) s (fun t =>
        t.pair = { s.pair with suspect := true } ∧
        t.evr = (s.record .partnerSuspect []).evr ∧
        RegsBut [REC_CNT_QUEUE_DROP] s t ∧
        t = { s with regs := t.regs, pair := t.pair, evr := t.evr })) ∧
    (∀ (s : State),
      s.stopSafe = true →
      s.bit PAIR_CTRL_EN = true →
      s.active = false →
      s.pair.listen = false →
      s.pair.wait = false →
      s.bit PAIR_STATUS_TAKEOVER_PEND = false →
      s.pair.become = false →
      s.bellsGone = false →
      s.bit PAIR_STATUS_HB_OK = true →
      Does (.takeoverDetect) s (fun t =>
        t.pair = { s.pair with suspect := false } ∧
        RegsBut [] s t ∧
        t = { s with regs := t.regs, pair := t.pair })) ∧
    (∀ (s : State),
      s.stopSafe = true →
      s.bit PAIR_CTRL_EN = false ∨ s.active = true ∨ s.pair.listen = true ∨ s.pair.wait = true ∨ s.bit PAIR_STATUS_TAKEOVER_PEND = true ∨ s.pair.become = true ∨ (s.bellsGone ≠ !s.bit PAIR_STATUS_HB_OK ∧ s.pair.suspect = true) →
      Does (.takeoverDetect) s (fun t =>
        t = s)) ∧
    (∀ (s : State) (m key : List Nat) (x : PairMsg),
      s.stopSafe = true →
      s.bit PAIR_CTRL_EN = true →
      s.domOff 9 = false →
      s.pairKey = some key →
      s.pairAccept key m = some x →
      x.typ = PairType.ckptData →
      s.active = false →
      s.pair.rx.map (fun y => y.seq) ≠ some (leAt x.body 0 4) →
      Does (.ckptDataReceive m) s (fun t =>
        t.pair = { s.pair with pEpoch := some x.epoch, pSeq := x.seq, rx := some { seq := leAt x.body 0 4, chunks := [(leAt x.body 4 4, x.body.drop 8)], sfn := 0, image := [] } } ∧
        RegsBut [] s t ∧
        t = { s with regs := t.regs, pair := t.pair })) ∧
    (∀ (s : State) (m key : List Nat) (x : PairMsg) (b : CkptBuf),
      s.stopSafe = true →
      s.bit PAIR_CTRL_EN = true →
      s.domOff 9 = false →
      s.pairKey = some key →
      s.pairAccept key m = some x →
      x.typ = PairType.ckptData →
      s.active = false →
      s.pair.rx = some b →
      b.seq = leAt x.body 0 4 →
      Does (.ckptDataReceive m) s (fun t =>
        t.pair = { s.pair with pEpoch := some x.epoch, pSeq := x.seq, rx := some { b with chunks := b.chunks ++ [(leAt x.body 4 4, x.body.drop 8)] } } ∧
        RegsBut [] s t ∧
        t = { s with regs := t.regs, pair := t.pair })) ∧
    (∀ (s : State) (m key : List Nat) (x : PairMsg),
      s.stopSafe = true →
      s.bit PAIR_CTRL_EN = true →
      s.domOff 9 = false →
      s.pairKey = some key →
      s.pairAccept key m = some x →
      x.typ = PairType.ckptData →
      s.active = true →
      Does (.ckptDataReceive m) s (fun t =>
        t.pair = { s.pair with pEpoch := some x.epoch, pSeq := x.seq } ∧
        RegsBut [] s t ∧
        t = { s with regs := t.regs, pair := t.pair })) ∧
    (∀ (s : State) (m : List Nat),
      s.stopSafe = true →
      s.bit PAIR_CTRL_EN = false ∨ s.domOff 9 = true →
      Does (.ckptDataReceive m) s (fun t =>
        t = s)) ∧
    (∀ (s : State) (m key : List Nat) (x : PairMsg),
      s.stopSafe = true →
      s.pairKey = some key →
      s.pairAccept key m = some x →
      x.typ ≠ PairType.ckptData →
      Does (.ckptDataReceive m) s (fun t =>
        t = s)) ∧
    (∀ (s : State) (m key : List Nat),
      s.stopSafe = true →
      s.bit PAIR_CTRL_EN = true →
      s.domOff 9 = false →
      s.pairKey = some key →
      s.pairAccept key m = none →
      Does (.ckptDataReceive m) s (fun t =>
        Reads t [(PAIR_CNT_HB_DROP, s.adv PAIR_CNT_HB_DROP)] ∧
        RegsBut [PAIR_CNT_HB_DROP] s t ∧
        OnlyRegs s t)) ∧
    (∀ (s : State) (m : List Nat),
      s.stopSafe = true →
      s.bit PAIR_CTRL_EN = true →
      s.domOff 9 = false →
      s.pairKey = none →
      Does (.ckptDataReceive m) s (fun t =>
        t = State.bump (s.keyAbort (s.get PAIR_CTRL_KEY_SLOT) 3 5) PAIR_CNT_HB_DROP ∧
        Reads t [(PAIR_CNT_HB_DROP, s.adv PAIR_CNT_HB_DROP)])) ∧
    (∀ (s : State) (m key : List Nat) (x : PairMsg),
      s.stopSafe = true →
      s.bit PAIR_CTRL_EN = true →
      s.domOff 9 = false →
      s.pairKey = some key →
      s.pairAccept key m = some x →
      x.typ = PairType.ckptEnd →
      s.active = false →
      (match s.pair.rx with | none => true | some b => (match joinParts b.chunks [] with | none => true | some img => b.seq != leAt x.body 0 4 || img.length != leAt x.body 4 4 || crc32c img != leAt x.body 8 4)) = true →
      Does (.ckptEndReceive m) s (fun t =>
        t.pair = { s.pair with pEpoch := some x.epoch, pSeq := x.seq, rx := none } ∧
        Reads t [(PAIR_CNT_CKPT_FAIL, s.adv PAIR_CNT_CKPT_FAIL)] ∧
        RegsBut [PAIR_CNT_CKPT_FAIL] s t ∧
        t = { s with regs := t.regs, pair := t.pair })) ∧
    (∀ (s : State) (m key : List Nat) (x : PairMsg) (b : CkptBuf) (img : List Nat),
      s.stopSafe = true →
      s.bit PAIR_CTRL_EN = true →
      s.domOff 9 = false →
      s.pairKey = some key →
      s.pairAccept key m = some x →
      x.typ = PairType.ckptEnd →
      s.active = false →
      s.pair.rx = some b →
      joinParts b.chunks [] = some img →
      b.seq = leAt x.body 0 4 →
      img.length = leAt x.body 4 4 →
      crc32c img = leAt x.body 8 4 →
      Does (.ckptEndReceive m) s (fun t =>
        t = (match Config.ckptDecode img with | some y => State.ckptDone { s with pair := { s.pair with pEpoch := some x.epoch, pSeq := x.seq } } { b with chunks := [], sfn := leAt x.body 12 4, image := img } y | none => State.bump { s with pair := { s.pair with pEpoch := some x.epoch, pSeq := x.seq, rx := none } } PAIR_CNT_CKPT_FAIL) ∧
        (if (Config.ckptDecode img).isSome then (t.pair.rx, t.pair.ckpt, t.pair.ckptPly, t.dram.ckpt) = (none, some { b with chunks := [], sfn := leAt x.body 12 4, image := img }, some s.ply, some { b with chunks := [], sfn := leAt x.body 12 4, image := img }) ∧ Reads t [(CKPT_SEQ_SEQ, b.seq % 2 ^ 32), (CKPT_SFN_CAPTURE_SFN, leAt x.body 12 4)] else t.pair = { s.pair with pEpoch := some x.epoch, pSeq := x.seq, rx := none } ∧ Reads t [(PAIR_CNT_CKPT_FAIL, s.adv PAIR_CNT_CKPT_FAIL)]) ∧
        t.time = s.time ∧
        t.gnss = s.gnss ∧
        t.fix = s.fix ∧
        t.disp = s.disp ∧
        t.trk = s.trk ∧
        t.rook = s.rook ∧
        t.rst = s.rst ∧
        t.ecp = s.ecp ∧
        t.out = s.out)) ∧
    (∀ (s : State) (m key : List Nat) (x : PairMsg),
      s.stopSafe = true →
      s.bit PAIR_CTRL_EN = true →
      s.domOff 9 = false →
      s.pairKey = some key →
      s.pairAccept key m = some x →
      x.typ = PairType.ckptEnd →
      s.active = true →
      Does (.ckptEndReceive m) s (fun t =>
        t.pair = { s.pair with pEpoch := some x.epoch, pSeq := x.seq } ∧
        RegsBut [] s t ∧
        t = { s with regs := t.regs, pair := t.pair })) ∧
    (∀ (s : State) (m : List Nat),
      s.stopSafe = true →
      s.bit PAIR_CTRL_EN = false ∨ s.domOff 9 = true →
      Does (.ckptEndReceive m) s (fun t =>
        t = s)) ∧
    (∀ (s : State) (m key : List Nat) (x : PairMsg),
      s.stopSafe = true →
      s.pairKey = some key →
      s.pairAccept key m = some x →
      x.typ ≠ PairType.ckptEnd →
      Does (.ckptEndReceive m) s (fun t =>
        t = s)) ∧
    (∀ (s : State) (m key : List Nat),
      s.stopSafe = true →
      s.bit PAIR_CTRL_EN = true →
      s.domOff 9 = false →
      s.pairKey = some key →
      s.pairAccept key m = none →
      Does (.ckptEndReceive m) s (fun t =>
        Reads t [(PAIR_CNT_HB_DROP, s.adv PAIR_CNT_HB_DROP)] ∧
        RegsBut [PAIR_CNT_HB_DROP] s t ∧
        OnlyRegs s t)) ∧
    (∀ (s : State) (m : List Nat),
      s.stopSafe = true →
      s.bit PAIR_CTRL_EN = true →
      s.domOff 9 = false →
      s.pairKey = none →
      Does (.ckptEndReceive m) s (fun t =>
        t = State.bump (s.keyAbort (s.get PAIR_CTRL_KEY_SLOT) 3 5) PAIR_CNT_HB_DROP ∧
        Reads t [(PAIR_CNT_HB_DROP, s.adv PAIR_CNT_HB_DROP)])) ∧
    (∀ (s : State) (b : CkptBuf),
      s.stopSafe = true →
      s.pair.loading = true →
      s.pair.ckpt = some b →
      Does (.checkpointLoadComplete true) s (fun t =>
        t = (match Config.ckptDecode b.image with | some x => (let z := State.ckptLoad (State.fixOn { s with pair := { s.pair with loading := false } }) x; { z with pair := { z.pair with hoLoaded := z.pair.hoLoaded || s.bit PAIR_STATUS_HANDOVER_PEND } }) | none => if s.active then State.noMembers { s with pair := { s.pair with loading := false } } else State.handoverAbort { s with pair := { s.pair with loading := false } }) ∧
        t.pair.loading = false ∧
        (Config.ckptDecode b.image).all (fun x => decide (t.fix.filters = x.filters ∧ t.disp = dispLoaded x.disp ∧ t.mac = s.mac ∧ bitOf (t.get PD_STATUS_ON) 6 = true)) = true ∧
        (Config.ckptDecode b.image = none → t.disp = s.disp ∧ (s.active = true → t.mac = { s.mac with members := [], freed := [] })) ∧
        t.rook = s.rook ∧
        t.gnss = s.gnss ∧
        (s.active = true → t.out = s.out))) ∧
    (∀ (s : State) (ok : Bool),
      s.stopSafe = true →
      s.pair.loading = true →
      s.active = true →
      ok = false ∨ s.pair.ckpt = none →
      Does (.checkpointLoadComplete ok) s (fun t =>
        t.pair = { s.pair with loading := false } ∧
        t.mac = { s.mac with members := [], freed := [] } ∧
        (List.range 192).all (fun a => t.get (MEMBER_W2_STATE a) == 0 && t.get (SLOT_OWNER 0 a) == 0 && t.get (SLOT_OWNER 1 a) == 0) = true ∧
        Reads t [(NET_K0_HI_VALID, s.get NET_K0_HI_VALID), (NET_K0_LO_K0, s.get NET_K0_LO_K0), (SLOT_CTRL_BANK, s.get SLOT_CTRL_BANK)] ∧
        t = State.noMembers { s with pair := { s.pair with loading := false } } ∧
        t = { s with regs := t.regs, pair := t.pair, mac := t.mac })) ∧
    (∀ (s : State) (ok : Bool),
      s.stopSafe = true →
      s.pair.loading = true →
      s.active = false →
      ok = false ∨ s.pair.ckpt = none →
      s.bit PAIR_STATUS_HANDOVER_PEND = true →
      s.pair.hoReq = none →
      Does (.checkpointLoadComplete ok) s (fun t =>
        t.pair = { s.pair with loading := false, frozen := false, hoReq := none, hoLoaded := false } ∧
        Reads t [(PAIR_STATUS_HANDOVER_PEND, 0)] ∧
        t.evr = (s.record .handoverAbort []).evr ∧
        RegsBut [PAIR_STATUS_HANDOVER_PEND, REC_CNT_QUEUE_DROP] s t ∧
        t = { s with regs := t.regs, pair := t.pair, evr := t.evr })) ∧
    (∀ (s : State) (ok : Bool),
      s.stopSafe = true →
      s.pair.loading = true →
      s.active = false →
      ok = false ∨ s.pair.ckpt = none →
      s.bit PAIR_STATUS_HANDOVER_PEND = false →
      s.pair.hoReq = none →
      Does (.checkpointLoadComplete ok) s (fun t =>
        t.pair = { s.pair with loading := false } ∧
        RegsBut [] s t ∧
        t = { s with regs := t.regs, pair := t.pair })) ∧
    (∀ (s : State) (ok : Bool),
      s.stopSafe = true →
      s.pair.loading = false →
      Does (.checkpointLoadComplete ok) s (fun t =>
        t = s)) ∧
    (∀ (s : State) (sess tag : Nat) (n e : Nat) (key : List Nat),
      s.stopSafe = true →
      s.accepts 0x0E01 sess tag true = true →
      s.pairKey = some key →
      s.pairUp = true →
      s.pair.epoch = some e →
      n < 2 ^ 32 →
      bitOf s.pair.pState 2 = true →
      s.bit PAIR_STATUS_HB_OK = true →
      s.bit PAIR_STATUS_PAIR_SLOW = false →
      s.bit PAIR_STATUS_KEY_MISMATCH = false →
      s.bit PAIR_STATUS_HANDOVER_PEND = false →
      s.pair.hoReq = none →
      s.handoverAt n < 2 ^ 32 →
      Does (.pairHandover sess tag (leBytes 4 n)) s (fun t =>
        opens s t [Output.pair (pairBytes PairType.handover s.unitBit e (s.pair.seq + 1) s.sfn (leBytes 4 (s.handoverAt n)) ++ pairMac key (pairBytes PairType.handover s.unitBit e (s.pair.seq + 1) s.sfn (leBytes 4 (s.handoverAt n))))] 0x0E01 sess tag (crc32c (leBytes 4 n)) (some (t.progressBytes sess tag)) = true ∧
        Reads t [(HANDOVER_SFN_H, s.handoverAt n)] ∧
        t.pair = { s.pair with seq := s.pair.seq + 1, hoReq := some (sess, tag), hoLoaded := false } ∧
        s.handoverAt n % 10 = 0 ∧ n ≤ s.handoverAt n ∧ s.sfn + 20 ≤ s.handoverAt n ∧ s.handoverAt n < max n (s.sfn + 20) + 10 ∧
        t.ecp.sessions.any (fun (z : EcpSession) => z.id == sess && z.inProg.any (fun (q : EcpOpen) => q.tag == tag && q.op == 0x0E01)) = true ∧
        RegsBut [HANDOVER_SFN_H] s t ∧
        t = { s with regs := t.regs, pair := t.pair, ecp := t.ecp, out := t.out })) ∧
    (∀ (s : State) (sess tag : Nat) (n : Nat) (key : List Nat),
      s.stopSafe = true →
      s.accepts 0x0E01 sess tag true = true →
      s.pairKey = some key →
      s.pairUp = false →
      n < 2 ^ 32 →
      bitOf s.pair.pState 2 = true →
      s.bit PAIR_STATUS_HB_OK = true →
      s.bit PAIR_STATUS_PAIR_SLOW = false →
      s.bit PAIR_STATUS_KEY_MISMATCH = false →
      s.bit PAIR_STATUS_HANDOVER_PEND = false →
      s.pair.hoReq = none →
      s.handoverAt n < 2 ^ 32 →
      Does (.pairHandover sess tag (leBytes 4 n)) s (fun t =>
        opens s t [] 0x0E01 sess tag (crc32c (leBytes 4 n)) (some (t.progressBytes sess tag)) = true ∧
        Reads t [(HANDOVER_SFN_H, s.handoverAt n)] ∧
        t.pair = { s.pair with hoReq := some (sess, tag), hoLoaded := false } ∧
        s.handoverAt n % 10 = 0 ∧ n ≤ s.handoverAt n ∧ s.sfn + 20 ≤ s.handoverAt n ∧ s.handoverAt n < max n (s.sfn + 20) + 10 ∧
        t.ecp.sessions.any (fun (z : EcpSession) => z.id == sess && z.inProg.any (fun (q : EcpOpen) => q.tag == tag && q.op == 0x0E01)) = true ∧
        RegsBut [HANDOVER_SFN_H] s t ∧
        t = { s with regs := t.regs, pair := t.pair, ecp := t.ecp, out := t.out })) ∧
    (∀ (s : State) (sess tag : Nat) (n : Nat),
      s.stopSafe = true →
      s.accepts 0x0E01 sess tag true = true →
      bitOf s.pair.pState 2 = false ∨ s.bit PAIR_STATUS_HB_OK = false ∨ s.bit PAIR_STATUS_PAIR_SLOW = true ∨ s.bit PAIR_STATUS_KEY_MISMATCH = true ∨ s.bit PAIR_STATUS_HANDOVER_PEND = true ∨ s.pair.hoReq.isSome = true →
      Does (.pairHandover sess tag (leBytes 4 n)) s (fun t =>
        answers s t [] 0x0E01 sess tag Ecp.DENIED (crc32c (leBytes 4 n)) [] = true ∧
        RegsBut [] s t ∧
        t = { s with regs := t.regs, ecp := t.ecp, out := t.out })) ∧
    (∀ (s : State) (m key : List Nat) (x : PairMsg) (e : Nat),
      s.stopSafe = true →
      s.bit PAIR_CTRL_EN = true →
      s.domOff 9 = false →
      s.pairKey = some key →
      s.pairAccept key m = some x →
      x.typ = PairType.handover →
      s.active = false →
      s.pairUp = true →
      s.pair.epoch = some e →
      Does (.handoverReceive m) s (fun t =>
        Reads t [(HANDOVER_SFN_H, leAt x.body 0 4), (PAIR_STATUS_HANDOVER_PEND, 1)] ∧
        t.pair = { s.pair with pEpoch := some x.epoch, pSeq := x.seq, hoLoaded := false, seq := s.pair.seq + 1 } ∧
        t.out = s.out ++ [Output.pair (pairBytes PairType.handoverAck s.unitBit e (s.pair.seq + 1) s.sfn (leBytes 4 (leAt x.body 0 4)) ++ pairMac key (pairBytes PairType.handoverAck s.unitBit e (s.pair.seq + 1) s.sfn (leBytes 4 (leAt x.body 0 4))))] ∧
        RegsBut [HANDOVER_SFN_H, PAIR_STATUS_HANDOVER_PEND] s t ∧
        t = { s with regs := t.regs, pair := t.pair, out := t.out })) ∧
    (∀ (s : State) (m key : List Nat) (x : PairMsg),
      s.stopSafe = true →
      s.bit PAIR_CTRL_EN = true →
      s.domOff 9 = false →
      s.pairKey = some key →
      s.pairAccept key m = some x →
      x.typ = PairType.handover →
      s.active = false →
      s.pairUp = true →
      s.pair.epoch = none →
      Does (.handoverReceive m) s (fun t =>
        Reads t [(HANDOVER_SFN_H, leAt x.body 0 4), (PAIR_STATUS_HANDOVER_PEND, 1)] ∧
        t.pair = { s.pair with pEpoch := some x.epoch, pSeq := x.seq, hoLoaded := false, epoch := some (s.freeVal % 2 ^ 32), seq := 1 } ∧
        t.out = s.out ++ [Output.pair (pairBytes PairType.handoverAck s.unitBit (s.freeVal % 2 ^ 32) 1 s.sfn (leBytes 4 (leAt x.body 0 4)) ++ pairMac key (pairBytes PairType.handoverAck s.unitBit (s.freeVal % 2 ^ 32) 1 s.sfn (leBytes 4 (leAt x.body 0 4))))] ∧
        t.freeCtr = s.freeCtr + 1 ∧
        RegsBut [HANDOVER_SFN_H, PAIR_STATUS_HANDOVER_PEND] s t ∧
        t = { s with regs := t.regs, pair := t.pair, out := t.out, freeCtr := t.freeCtr })) ∧
    (∀ (s : State) (m key : List Nat) (x : PairMsg),
      s.stopSafe = true →
      s.bit PAIR_CTRL_EN = true →
      s.domOff 9 = false →
      s.pairKey = some key →
      s.pairAccept key m = some x →
      x.typ = PairType.handover →
      s.active = false →
      s.pairUp = false →
      Does (.handoverReceive m) s (fun t =>
        Reads t [(HANDOVER_SFN_H, leAt x.body 0 4), (PAIR_STATUS_HANDOVER_PEND, 1)] ∧
        t.pair = { s.pair with pEpoch := some x.epoch, pSeq := x.seq, hoLoaded := false } ∧
        RegsBut [HANDOVER_SFN_H, PAIR_STATUS_HANDOVER_PEND] s t ∧
        t = { s with regs := t.regs, pair := t.pair })) ∧
    (∀ (s : State) (m key : List Nat) (x : PairMsg),
      s.stopSafe = true →
      s.bit PAIR_CTRL_EN = true →
      s.domOff 9 = false →
      s.pairKey = some key →
      s.pairAccept key m = some x →
      x.typ = PairType.handover →
      s.active = true →
      Does (.handoverReceive m) s (fun t =>
        t.pair = { s.pair with pEpoch := some x.epoch, pSeq := x.seq } ∧
        RegsBut [] s t ∧
        t = { s with regs := t.regs, pair := t.pair })) ∧
    (∀ (s : State) (m : List Nat),
      s.stopSafe = true →
      s.bit PAIR_CTRL_EN = false ∨ s.domOff 9 = true →
      Does (.handoverReceive m) s (fun t =>
        t = s)) ∧
    (∀ (s : State) (m key : List Nat) (x : PairMsg),
      s.stopSafe = true →
      s.pairKey = some key →
      s.pairAccept key m = some x →
      x.typ ≠ PairType.handover →
      Does (.handoverReceive m) s (fun t =>
        t = s)) ∧
    (∀ (s : State) (m key : List Nat),
      s.stopSafe = true →
      s.bit PAIR_CTRL_EN = true →
      s.domOff 9 = false →
      s.pairKey = some key →
      s.pairAccept key m = none →
      Does (.handoverReceive m) s (fun t =>
        Reads t [(PAIR_CNT_HB_DROP, s.adv PAIR_CNT_HB_DROP)] ∧
        RegsBut [PAIR_CNT_HB_DROP] s t ∧
        OnlyRegs s t)) ∧
    (∀ (s : State) (m : List Nat),
      s.stopSafe = true →
      s.bit PAIR_CTRL_EN = true →
      s.domOff 9 = false →
      s.pairKey = none →
      Does (.handoverReceive m) s (fun t =>
        t = State.bump (s.keyAbort (s.get PAIR_CTRL_KEY_SLOT) 3 5) PAIR_CNT_HB_DROP ∧
        Reads t [(PAIR_CNT_HB_DROP, s.adv PAIR_CNT_HB_DROP)])) ∧
    (∀ (s : State) (m key : List Nat) (x : PairMsg),
      s.stopSafe = true →
      s.bit PAIR_CTRL_EN = true →
      s.domOff 9 = false →
      s.pairKey = some key →
      s.pairAccept key m = some x →
      x.typ = PairType.handoverAck →
      s.active = true →
      s.pair.hoReq.isSome = true →
      leAt x.body 0 4 = s.get HANDOVER_SFN_H →
      Does (.handoverAckReceive m) s (fun t =>
        Reads t [(PAIR_STATUS_HANDOVER_PEND, 1)] ∧
        t.pair = { s.pair with pEpoch := some x.epoch, pSeq := x.seq } ∧
        RegsBut [PAIR_STATUS_HANDOVER_PEND] s t ∧
        t = { s with regs := t.regs, pair := t.pair })) ∧
    (∀ (s : State) (m key : List Nat) (x : PairMsg),
      s.stopSafe = true →
      s.bit PAIR_CTRL_EN = true →
      s.domOff 9 = false →
      s.pairKey = some key →
      s.pairAccept key m = some x →
      x.typ = PairType.handoverAck →
      s.active = false ∨ s.pair.hoReq = none ∨ leAt x.body 0 4 ≠ s.get HANDOVER_SFN_H →
      Does (.handoverAckReceive m) s (fun t =>
        t.pair = { s.pair with pEpoch := some x.epoch, pSeq := x.seq } ∧
        RegsBut [] s t ∧
        t = { s with regs := t.regs, pair := t.pair })) ∧
    (∀ (s : State) (m : List Nat),
      s.stopSafe = true →
      s.bit PAIR_CTRL_EN = false ∨ s.domOff 9 = true →
      Does (.handoverAckReceive m) s (fun t =>
        t = s)) ∧
    (∀ (s : State) (m key : List Nat) (x : PairMsg),
      s.stopSafe = true →
      s.pairKey = some key →
      s.pairAccept key m = some x →
      x.typ ≠ PairType.handoverAck →
      Does (.handoverAckReceive m) s (fun t =>
        t = s)) ∧
    (∀ (s : State) (m key : List Nat),
      s.stopSafe = true →
      s.bit PAIR_CTRL_EN = true →
      s.domOff 9 = false →
      s.pairKey = some key →
      s.pairAccept key m = none →
      Does (.handoverAckReceive m) s (fun t =>
        Reads t [(PAIR_CNT_HB_DROP, s.adv PAIR_CNT_HB_DROP)] ∧
        RegsBut [PAIR_CNT_HB_DROP] s t ∧
        OnlyRegs s t)) ∧
    (∀ (s : State) (m : List Nat),
      s.stopSafe = true →
      s.bit PAIR_CTRL_EN = true →
      s.domOff 9 = false →
      s.pairKey = none →
      Does (.handoverAckReceive m) s (fun t =>
        t = State.bump (s.keyAbort (s.get PAIR_CTRL_KEY_SLOT) 3 5) PAIR_CNT_HB_DROP ∧
        Reads t [(PAIR_CNT_HB_DROP, s.adv PAIR_CNT_HB_DROP)])) ∧
    (∀ (s : State),
      s.stopSafe = true →
      s.active = false →
      s.pwr.dayFrom + 86400 ≤ s.get REC_AON_OH_SECONDS →
      s.adv PAIR_STATUS_DAYS_SINCE_ACTIVE ≤ s.get PAIR_CTRL_DRILL_DAYS →
      Does (.drillDayCount) s (fun t =>
        Reads t [(PAIR_STATUS_DAYS_SINCE_ACTIVE, s.adv PAIR_STATUS_DAYS_SINCE_ACTIVE)] ∧
        t.pwr = { s.pwr with dayFrom := s.pwr.dayFrom + 86400 } ∧
        RegsBut [PAIR_STATUS_DAYS_SINCE_ACTIVE] s t ∧
        t = { s with regs := t.regs, pwr := t.pwr })) ∧
    (∀ (s : State),
      s.stopSafe = true →
      s.active = false →
      s.pwr.dayFrom + 86400 ≤ s.get REC_AON_OH_SECONDS →
      s.get PAIR_CTRL_DRILL_DAYS < s.adv PAIR_STATUS_DAYS_SINCE_ACTIVE →
      Does (.drillDayCount) s (fun t =>
        Reads t [(PAIR_STATUS_DAYS_SINCE_ACTIVE, s.adv PAIR_STATUS_DAYS_SINCE_ACTIVE), (PAIR_STATUS_DRILL_DUE, 1)] ∧
        t.evr = (s.record .drillDue []).evr ∧
        t.pwr = { s.pwr with dayFrom := s.pwr.dayFrom + 86400 } ∧
        RegsBut [PAIR_STATUS_DAYS_SINCE_ACTIVE, PAIR_STATUS_DRILL_DUE, REC_CNT_QUEUE_DROP] s t ∧
        t = { s with regs := t.regs, pwr := t.pwr, evr := t.evr })) ∧
    (∀ (s : State),
      s.stopSafe = true →
      s.active = true ∨ s.get REC_AON_OH_SECONDS < s.pwr.dayFrom + 86400 →
      Does (.drillDayCount) s (fun t =>
        t = s)) ∧
    (∀ (s : State) (sess tag : Nat),
      s.stopSafe = true →
      s.accepts 0x0E00 sess tag false = true →
      Does (.pairGet sess tag) s (fun t =>
        answers s t [] 0x0E00 sess tag Ecp.OK (crc32c []) ([s.get CLAIM, s.get PARTNER_CLAIM_CLAIM, s.pairStatus, s.get CKPT_SEQ_SEQ, s.get CKPT_SFN_CAPTURE_SFN, s.get HANDOVER_SFN_H].flatMap (leBytes 4)) = true ∧
        RegsBut [] s t ∧
        t = { s with regs := t.regs, ecp := t.ecp, out := t.out }))

/-- Each of the four fills of an empty slot with parameters in range and its checks passed stores the key with its ORIGIN,
parent, PGEN and DEPTH, and answers its GEN: generated bits, derived bits of R578, an unwrapped key, or a key in the
clear, which is counted and recorded. Where a check of R687 fails, the first that does gives the status, and nothing
changes. KEY_INVALIDATE empties the slot, advances GEN, counts and records; where the key of the session that asks for
it depends on the slot, no answer is released. KEY_INFO answers the slot's words with ORPHANED, KEY_PUBLIC the public
key of an ECDSA slot, KEY_ATTEST the statement with its signature, KEY_CERT the certificate from OFFSET. (The bits
drawn, the root and the certificate are free values: log 4.) (Rests on: R572, R575, R576, R577, R578, R579, R580,
R581, R582, R585, R588, R687.) -/
def Obligations.KeysAreFilledUsedAndInvalidated : Prop :=
    (∀ (s : State) (sess tag : Nat) (k typ use : Nat),
      s.stopSafe = true →
      s.accepts 0x0901 sess tag false = true →
      s.tampered = false →
      k < 512 →
      1 ≤ typ ∧ typ ≤ 4 →
      use < 64 →
      s.get (KS_SLOT_W0_TYPE k) = 0 →
      s.get (KS_SLOT_W1_GEN k) ≠ 0xFFFFFFFF →
      s.bit KS_STATUS_TRNG_FAIL = false →
      Does (.keyGenerate sess tag ((leBytes 2 k ++ [typ, use]))) s (fun t =>
        answers s t [] 0x0901 sess tag Ecp.OK (crc32c (leBytes 2 k ++ [typ, use])) (leBytes 4 (s.get (KS_SLOT_W1_GEN k))) = true ∧
        Reads t [(KS_SLOT_W0_TYPE k, typ), (KS_SLOT_W0_ORIGIN k, 1), (KS_SLOT_W0_USE k, use), (KS_SLOT_W0_ROOT_PARENT k, 0), (KS_SLOT_W0_PARENT k, 0), (KS_SLOT_W0_DEPTH k, 0), (KS_SLOT_W2_PGEN k, 0)] ∧
        t.keyBytes k = keyForm typ (beBytes (keyBits typ / 8) s.freeVal) ∧
        RegsBut [KS_SLOT_W0_TYPE k, KS_SLOT_W0_ORIGIN k, KS_SLOT_W0_USE k, KS_SLOT_W0_ROOT_PARENT k, KS_SLOT_W0_PARENT k, KS_SLOT_W0_DEPTH k, KS_SLOT_W2_PGEN k] s t ∧
        t = { s with regs := t.regs, ks := t.ks, freeCtr := t.freeCtr, ecp := t.ecp, out := t.out } ∧
        (∀ j : Nat, j ≠ k → t.keyBytes j = s.keyBytes j))) ∧
    (∀ (s : State) (sess tag : Nat) (k typ use : Nat) (st : Nat),
      s.stopSafe = true →
      s.accepts 0x0901 sess tag false = true →
      k < 65536 →
      typ < 256 →
      use < 256 →
      st = (if s.tampered = true then Ecp.TAMPERED else if (512 ≤ k ∨ typ = 0 ∨ 4 < typ ∨ 64 ≤ use) then Ecp.BAD_PARAM else if (s.get (KS_SLOT_W0_TYPE k) ≠ 0 ∨ s.get (KS_SLOT_W1_GEN k) = 0xFFFFFFFF) then Ecp.DENIED else if s.bit KS_STATUS_TRNG_FAIL = true then Ecp.NOT_READY else Ecp.OK) →
      st ≠ Ecp.OK →
      Does (.keyGenerate sess tag ((leBytes 2 k ++ [typ, use]))) s (fun t =>
        answers s t [] 0x0901 sess tag st (crc32c (leBytes 2 k ++ [typ, use])) [] = true ∧
        RegsBut [] s t ∧
        t = { s with regs := t.regs, ecp := t.ecp, out := t.out })) ∧
    (∀ (s : State) (sess tag : Nat) (p k typ use : Nat) (label ctx : List Nat),
      s.stopSafe = true →
      s.accepts 0x0902 sess tag false = true →
      s.tampered = false →
      k < 512 →
      1 ≤ typ ∧ typ ≤ 4 →
      use < 64 →
      s.get (KS_SLOT_W0_TYPE k) = 0 →
      s.get (KS_SLOT_W1_GEN k) ≠ 0xFFFFFFFF →
      p < 512 →
      1 ≤ label.length ∧ label.length ≤ 32 →
      ctx.length ≤ 64 →
      s.get (KS_SLOT_W0_TYPE p) = 3 →
      bitOf (s.get (KS_SLOT_W0_USE p)) 1 = true →
      s.get (KS_SLOT_W1_GEN p) ≠ 0xFFFFFFFF →
      128 ≤ k ∨ p < 128 →
      s.get (KS_SLOT_W0_DEPTH p) < 8 →
      s.orphaned p = false →
      Does (.keyDerive sess tag ((leBytes 2 p ++ leBytes 2 k ++ [typ, use, label.length, ctx.length] ++ label ++ ctx))) s (fun t =>
        answers s t [] 0x0902 sess tag Ecp.OK (crc32c (leBytes 2 p ++ leBytes 2 k ++ [typ, use, label.length, ctx.length] ++ label ++ ctx)) (leBytes 4 (s.get (KS_SLOT_W1_GEN k))) = true ∧
        Reads t [(KS_SLOT_W0_TYPE k, typ), (KS_SLOT_W0_ORIGIN k, 2), (KS_SLOT_W0_USE k, use), (KS_SLOT_W0_ROOT_PARENT k, 0), (KS_SLOT_W0_PARENT k, p), (KS_SLOT_W0_DEPTH k, s.get (KS_SLOT_W0_DEPTH p) + 1), (KS_SLOT_W2_PGEN k, s.get (KS_SLOT_W1_GEN p))] ∧
        t.keyBytes k = keyForm typ (kdf (s.keyBytes p) label ctx (keyBits typ)) ∧
        RegsBut [KS_SLOT_W0_TYPE k, KS_SLOT_W0_ORIGIN k, KS_SLOT_W0_USE k, KS_SLOT_W0_ROOT_PARENT k, KS_SLOT_W0_PARENT k, KS_SLOT_W0_DEPTH k, KS_SLOT_W2_PGEN k] s t ∧
        t = { s with regs := t.regs, ks := t.ks, ecp := t.ecp, out := t.out } ∧
        (∀ j : Nat, j ≠ k → t.keyBytes j = s.keyBytes j))) ∧
    (∀ (s : State) (sess tag : Nat) (k typ use : Nat) (label ctx : List Nat),
      s.stopSafe = true →
      s.accepts 0x0902 sess tag false = true →
      s.tampered = false →
      k < 512 →
      1 ≤ typ ∧ typ ≤ 4 →
      use < 64 →
      s.get (KS_SLOT_W0_TYPE k) = 0 →
      s.get (KS_SLOT_W1_GEN k) ≠ 0xFFFFFFFF →
      1 ≤ label.length ∧ label.length ≤ 32 →
      ctx.length ≤ 64 →
      Does (.keyDerive sess tag ((leBytes 2 0xFFFF ++ leBytes 2 k ++ [typ, use, label.length, ctx.length] ++ label ++ ctx))) s (fun t =>
        answers s t [] 0x0902 sess tag Ecp.OK (crc32c (leBytes 2 0xFFFF ++ leBytes 2 k ++ [typ, use, label.length, ctx.length] ++ label ++ ctx)) (leBytes 4 (s.get (KS_SLOT_W1_GEN k))) = true ∧
        Reads t [(KS_SLOT_W0_TYPE k, typ), (KS_SLOT_W0_ORIGIN k, 2), (KS_SLOT_W0_USE k, use), (KS_SLOT_W0_ROOT_PARENT k, 1), (KS_SLOT_W0_PARENT k, 0), (KS_SLOT_W0_DEPTH k, 1), (KS_SLOT_W2_PGEN k, 0)] ∧
        t.keyBytes k = keyForm typ (kdf rootKey label ctx (keyBits typ)) ∧
        RegsBut [KS_SLOT_W0_TYPE k, KS_SLOT_W0_ORIGIN k, KS_SLOT_W0_USE k, KS_SLOT_W0_ROOT_PARENT k, KS_SLOT_W0_PARENT k, KS_SLOT_W0_DEPTH k, KS_SLOT_W2_PGEN k] s t ∧
        t = { s with regs := t.regs, ks := t.ks, ecp := t.ecp, out := t.out } ∧
        (∀ j : Nat, j ≠ k → t.keyBytes j = s.keyBytes j))) ∧
    (∀ (s : State) (sess tag : Nat) (p k typ use : Nat) (label ctx : List Nat) (st : Nat),
      s.stopSafe = true →
      s.accepts 0x0902 sess tag false = true →
      k < 65536 →
      typ < 256 →
      use < 256 →
      p < 65536 →
      label.length < 256 →
      ctx.length < 256 →
      st = (if s.tampered = true then Ecp.TAMPERED else if (512 ≤ k ∨ (512 ≤ p ∧ p ≠ 0xFFFF) ∨ label.length = 0 ∨ 32 < label.length ∨ 64 < ctx.length ∨ typ = 0 ∨ 4 < typ ∨ 64 ≤ use) then Ecp.BAD_PARAM else if (p ≠ 0xFFFF ∧ s.get (KS_SLOT_W0_TYPE p) ≠ 3) then Ecp.BAD_PARAM else if (s.get (KS_SLOT_W0_TYPE k) ≠ 0 ∨ s.get (KS_SLOT_W1_GEN k) = 0xFFFFFFFF) then Ecp.DENIED else if (p ≠ 0xFFFF ∧ (bitOf (s.get (KS_SLOT_W0_USE p)) 1 = false ∨ s.get (KS_SLOT_W1_GEN p) = 0xFFFFFFFF)) then Ecp.DENIED else if (p ≠ 0xFFFF ∧ ((k < 128 ∧ 128 ≤ p) ∨ 8 ≤ s.get (KS_SLOT_W0_DEPTH p))) then Ecp.BAD_PARAM else if (p ≠ 0xFFFF ∧ s.orphaned p = true) then Ecp.KEY_ORPHANED else Ecp.OK) →
      st ≠ Ecp.OK →
      Does (.keyDerive sess tag ((leBytes 2 p ++ leBytes 2 k ++ [typ, use, label.length, ctx.length] ++ label ++ ctx))) s (fun t =>
        answers s t [] 0x0902 sess tag st (crc32c (leBytes 2 p ++ leBytes 2 k ++ [typ, use, label.length, ctx.length] ++ label ++ ctx)) [] = true ∧
        RegsBut [] s t ∧
        t = { s with regs := t.regs, ecp := t.ecp, out := t.out })) ∧
    (∀ (s : State) (sess tag : Nat) (w k typ use : Nat) (wk key : List Nat),
      s.stopSafe = true →
      s.accepts 0x0903 sess tag false = true →
      s.tampered = false →
      k < 512 →
      1 ≤ typ ∧ typ ≤ 4 →
      use < 64 →
      s.get (KS_SLOT_W0_TYPE k) = 0 →
      s.get (KS_SLOT_W1_GEN k) ≠ 0xFFFFFFFF →
      w < 512 →
      wk.length = keyLen typ + 8 →
      s.get (KS_SLOT_W0_TYPE w) = 2 →
      bitOf (s.get (KS_SLOT_W0_USE w)) 3 = true →
      s.get (KS_SLOT_W1_GEN w) ≠ 0xFFFFFFFF →
      s.orphaned w = false →
      kwUnwrap (s.keyBytes w) wk = some key →
      Does (.keyWrapImport sess tag ((leBytes 2 w ++ leBytes 2 k ++ [typ, use] ++ leBytes 2 wk.length ++ wk))) s (fun t =>
        answers s t [] 0x0903 sess tag Ecp.OK (crc32c (leBytes 2 w ++ leBytes 2 k ++ [typ, use] ++ leBytes 2 wk.length ++ wk)) (leBytes 4 (s.get (KS_SLOT_W1_GEN k))) = true ∧
        Reads t [(KS_SLOT_W0_TYPE k, typ), (KS_SLOT_W0_ORIGIN k, 4), (KS_SLOT_W0_USE k, use), (KS_SLOT_W0_ROOT_PARENT k, 0), (KS_SLOT_W0_PARENT k, 0), (KS_SLOT_W0_DEPTH k, 0), (KS_SLOT_W2_PGEN k, 0)] ∧
        t.keyBytes k = key ∧
        RegsBut [KS_SLOT_W0_TYPE k, KS_SLOT_W0_ORIGIN k, KS_SLOT_W0_USE k, KS_SLOT_W0_ROOT_PARENT k, KS_SLOT_W0_PARENT k, KS_SLOT_W0_DEPTH k, KS_SLOT_W2_PGEN k] s t ∧
        t = { s with regs := t.regs, ks := t.ks, ecp := t.ecp, out := t.out } ∧
        (∀ j : Nat, j ≠ k → t.keyBytes j = s.keyBytes j))) ∧
    (∀ (s : State) (sess tag : Nat) (w k typ use : Nat) (wk : List Nat),
      s.stopSafe = true →
      s.accepts 0x0903 sess tag false = true →
      s.tampered = false →
      k < 512 →
      1 ≤ typ ∧ typ ≤ 4 →
      use < 64 →
      s.get (KS_SLOT_W0_TYPE k) = 0 →
      s.get (KS_SLOT_W1_GEN k) ≠ 0xFFFFFFFF →
      w < 512 →
      wk.length = keyLen typ + 8 →
      s.get (KS_SLOT_W0_TYPE w) = 2 →
      bitOf (s.get (KS_SLOT_W0_USE w)) 3 = true →
      s.get (KS_SLOT_W1_GEN w) ≠ 0xFFFFFFFF →
      s.orphaned w = false →
      kwUnwrap (s.keyBytes w) wk = none →
      Does (.keyWrapImport sess tag ((leBytes 2 w ++ leBytes 2 k ++ [typ, use] ++ leBytes 2 wk.length ++ wk))) s (fun t =>
        answers s t [] 0x0903 sess tag Ecp.BAD_PARAM (crc32c (leBytes 2 w ++ leBytes 2 k ++ [typ, use] ++ leBytes 2 wk.length ++ wk)) [] = true ∧
        RegsBut [] s t ∧
        t = { s with regs := t.regs, ecp := t.ecp, out := t.out })) ∧
    (∀ (s : State) (sess tag : Nat) (w k typ use : Nat) (wk : List Nat) (st : Nat),
      s.stopSafe = true →
      s.accepts 0x0903 sess tag false = true →
      k < 65536 →
      typ < 256 →
      use < 256 →
      w < 65536 →
      wk.length < 65536 →
      st = (if s.tampered = true then Ecp.TAMPERED else if (512 ≤ w ∨ 512 ≤ k ∨ wk.length ≠ keyLen typ + 8 ∨ typ = 0 ∨ 4 < typ ∨ 64 ≤ use) then Ecp.BAD_PARAM else if s.get (KS_SLOT_W0_TYPE w) ≠ 2 then Ecp.BAD_PARAM else if (s.get (KS_SLOT_W0_TYPE k) ≠ 0 ∨ s.get (KS_SLOT_W1_GEN k) = 0xFFFFFFFF) then Ecp.DENIED else if (bitOf (s.get (KS_SLOT_W0_USE w)) 3 = false ∨ s.get (KS_SLOT_W1_GEN w) = 0xFFFFFFFF) then Ecp.DENIED else if s.orphaned w = true then Ecp.KEY_ORPHANED else Ecp.OK) →
      st ≠ Ecp.OK →
      Does (.keyWrapImport sess tag ((leBytes 2 w ++ leBytes 2 k ++ [typ, use] ++ leBytes 2 wk.length ++ wk))) s (fun t =>
        answers s t [] 0x0903 sess tag st (crc32c (leBytes 2 w ++ leBytes 2 k ++ [typ, use] ++ leBytes 2 wk.length ++ wk)) [] = true ∧
        RegsBut [] s t ∧
        t = { s with regs := t.regs, ecp := t.ecp, out := t.out })) ∧
    (∀ (s : State) (ini k typ use : Nat) (key : List Nat),
      s.stopSafe = true →
      s.tampered = false →
      k < 512 →
      1 ≤ typ ∧ typ ≤ 4 →
      use < 64 →
      s.get (KS_SLOT_W0_TYPE k) = 0 →
      s.get (KS_SLOT_W1_GEN k) ≠ 0xFFFFFFFF →
      importIni ini = true →
      s.bit KS_CTRL_IMPORT_EN = true →
      key.length = keyLen typ →
      Does (.keyImportClear ini k typ use key) s (fun t =>
        Reads t [(KS_SLOT_W0_TYPE k, typ), (KS_SLOT_W0_ORIGIN k, 3), (KS_SLOT_W0_USE k, use), (KS_SLOT_W0_ROOT_PARENT k, 0), (KS_SLOT_W0_PARENT k, 0), (KS_SLOT_W0_DEPTH k, 0), (KS_SLOT_W2_PGEN k, 0)] ∧
        t.keyBytes k = key ∧
        Reads t [(KS_CNT2_IMPORTS, s.adv KS_CNT2_IMPORTS)] ∧
        t.evr = (s.record .keyImported (leBytes 2 k ++ [ini]) ini).evr ∧
        RegsBut [KS_SLOT_W0_TYPE k, KS_SLOT_W0_ORIGIN k, KS_SLOT_W0_USE k, KS_SLOT_W0_ROOT_PARENT k, KS_SLOT_W0_PARENT k, KS_SLOT_W0_DEPTH k, KS_SLOT_W2_PGEN k, KS_CNT2_IMPORTS, REC_CNT_QUEUE_DROP] s t ∧
        t = { s with regs := t.regs, ks := t.ks, evr := t.evr } ∧
        (∀ j : Nat, j ≠ k → t.keyBytes j = s.keyBytes j))) ∧
    (∀ (s : State) (ini k typ use : Nat) (key : List Nat),
      s.stopSafe = true →
      s.tampered = true ∨ 512 ≤ k ∨ typ = 0 ∨ 4 < typ ∨ 64 ≤ use ∨ key.length ≠ keyLen typ ∨ s.get (KS_SLOT_W0_TYPE k) ≠ 0 ∨ s.get (KS_SLOT_W1_GEN k) = 0xFFFFFFFF ∨ s.bit KS_CTRL_IMPORT_EN = false ∨ (isApp ini = false ∧ ini ≠ 0x3E) →
      Does (.keyImportClear ini k typ use key) s (fun t =>
        t = s)) ∧
    (∀ (s : State) (sess tag : Nat) (k : Nat),
      s.stopSafe = true →
      s.accepts 0x0904 sess tag false = true →
      s.tampered = false →
      k < 512 →
      s.get (KS_SLOT_W1_GEN k) ≠ 0xFFFFFFFF →
      (s.session sess).all (fun (x : EcpSession) => (s.emptySlot k).sessSends x) = true →
      Does (.keyInvalidate sess tag ((leBytes 2 k ++ [0, 0]))) s (fun t =>
        answers s t [] 0x0904 sess tag Ecp.OK (crc32c (leBytes 2 k ++ [0, 0])) (leBytes 4 (s.get (KS_SLOT_W1_GEN k) + 1)) = true ∧
        Reads t [(KS_SLOT_W0_TYPE k, 0), (KS_SLOT_W0_ORIGIN k, 0), (KS_SLOT_W0_USE k, 0), (KS_SLOT_W0_ROOT_PARENT k, 0), (KS_SLOT_W0_PARENT k, 0), (KS_SLOT_W0_DEPTH k, 0), (KS_SLOT_W2_PGEN k, 0)] ∧
        Reads t [(KS_SLOT_W1_GEN k, s.get (KS_SLOT_W1_GEN k) + 1), (KS_CNT2_INVALIDATIONS, s.adv KS_CNT2_INVALIDATIONS)] ∧
        t.keyBytes k = [] ∧
        t.evr = (s.record .keyInvalidated (leBytes 2 k)).evr ∧
        RegsBut [KS_SLOT_W0_TYPE k, KS_SLOT_W0_ORIGIN k, KS_SLOT_W0_USE k, KS_SLOT_W0_ROOT_PARENT k, KS_SLOT_W0_PARENT k, KS_SLOT_W0_DEPTH k, KS_SLOT_W2_PGEN k, KS_SLOT_W1_GEN k, KS_CNT2_INVALIDATIONS, REC_CNT_QUEUE_DROP] s t ∧
        t = { s with regs := t.regs, ks := t.ks, ecp := t.ecp, out := t.out, evr := t.evr } ∧
        (∀ j : Nat, j ≠ k → t.keyBytes j = s.keyBytes j))) ∧
    (∀ (s : State) (sess tag k : Nat),
      s.stopSafe = true →
      s.accepts 0x0904 sess tag false = true →
      s.tampered = false →
      k < 512 →
      s.get (KS_SLOT_W1_GEN k) ≠ 0xFFFFFFFF →
      (s.session sess).any (fun (x : EcpSession) => !(s.emptySlot k).sessSends x) = true →
      Does (.keyInvalidate sess tag ((leBytes 2 k ++ [0, 0]))) s (fun t =>
        Reads t [(KS_SLOT_W0_TYPE k, 0), (KS_SLOT_W0_ORIGIN k, 0), (KS_SLOT_W0_USE k, 0), (KS_SLOT_W0_ROOT_PARENT k, 0), (KS_SLOT_W0_PARENT k, 0), (KS_SLOT_W0_DEPTH k, 0), (KS_SLOT_W2_PGEN k, 0)] ∧
        Reads t [(KS_SLOT_W1_GEN k, s.get (KS_SLOT_W1_GEN k) + 1), (KS_CNT2_INVALIDATIONS, s.adv KS_CNT2_INVALIDATIONS)] ∧
        t.out = s.out ∧ t.ecp.spiOut = s.ecp.spiOut ∧
        onlySession s t sess = true ∧
        RegsBut [KS_SLOT_W0_TYPE k, KS_SLOT_W0_ORIGIN k, KS_SLOT_W0_USE k, KS_SLOT_W0_ROOT_PARENT k, KS_SLOT_W0_PARENT k, KS_SLOT_W0_DEPTH k, KS_SLOT_W2_PGEN k, KS_SLOT_W1_GEN k, KS_CNT2_INVALIDATIONS, KS_CNT_ORPHAN_ABORTS, REC_CNT_QUEUE_DROP] s t ∧
        t = { s with regs := t.regs, ks := t.ks, ecp := t.ecp, evr := t.evr })) ∧
    (∀ (s : State) (sess tag : Nat) (k z : Nat) (st : Nat),
      s.stopSafe = true →
      s.accepts 0x0904 sess tag false = true →
      k < 65536 →
      z < 65536 →
      st = (if s.tampered = true then Ecp.TAMPERED else if (512 ≤ k ∨ z ≠ 0) then Ecp.BAD_PARAM else if s.get (KS_SLOT_W1_GEN k) = 0xFFFFFFFF then Ecp.DENIED else Ecp.OK) →
      st ≠ Ecp.OK →
      Does (.keyInvalidate sess tag ((leBytes 2 k ++ leBytes 2 z))) s (fun t =>
        answers s t [] 0x0904 sess tag st (crc32c (leBytes 2 k ++ leBytes 2 z)) [] = true ∧
        RegsBut [] s t ∧
        t = { s with regs := t.regs, ecp := t.ecp, out := t.out })) ∧
    (∀ (s : State) (sess tag : Nat) (k : Nat) (nonce : List Nat),
      s.stopSafe = true →
      s.accepts 0x0905 sess tag false = true →
      s.tampered = false →
      k < 512 →
      nonce.length = 16 →
      s.get (KS_SLOT_W0_TYPE k) ≠ 0 →
      s.get (KS_SLOT_W1_GEN k) ≠ 0xFFFFFFFF →
      s.orphaned k = false →
      s.bit KS_STATUS_TRNG_FAIL = false →
      Does (.keyAttest sess tag ((leBytes 2 k ++ [0, 0] ++ nonce))) s (fun t =>
        answers s t [] 0x0905 sess tag Ecp.OK (crc32c (leBytes 2 k ++ [0, 0] ++ nonce)) (s.attestBytes k nonce ++ ecdsaSign attestKey (ecdsaKey s.freeVal) (sha256 (s.attestBytes k nonce))) = true ∧
        (s.attestBytes k nonce).take 32 = leBytes 4 0x54415A42 ++ [1, s.get (KS_SLOT_W0_TYPE k), s.get (KS_SLOT_W0_ORIGIN k), s.get (KS_SLOT_W0_USE k)] ++ leBytes 2 k ++ [s.get (KS_SLOT_W0_DEPTH k), b2n (s.rooted 9 k) + 2 * b2n (decide (k < 128))] ++ leBytes 4 (s.get (KS_SLOT_W1_GEN k)) ++ nonce ∧
        RegsBut [] s t ∧
        t = { s with regs := t.regs, freeCtr := t.freeCtr, ecp := t.ecp, out := t.out })) ∧
    (∀ (s : State) (sess tag : Nat) (k z : Nat) (nonce : List Nat) (st : Nat),
      s.stopSafe = true →
      s.accepts 0x0905 sess tag false = true →
      k < 65536 →
      z < 65536 →
      nonce.length = 16 →
      st = (if s.tampered = true then Ecp.TAMPERED else if (512 ≤ k ∨ z ≠ 0 ∨ s.get (KS_SLOT_W0_TYPE k) = 0) then Ecp.BAD_PARAM else if s.get (KS_SLOT_W1_GEN k) = 0xFFFFFFFF then Ecp.DENIED else if s.orphaned k = true then Ecp.KEY_ORPHANED else if s.bit KS_STATUS_TRNG_FAIL = true then Ecp.NOT_READY else Ecp.OK) →
      st ≠ Ecp.OK →
      Does (.keyAttest sess tag ((leBytes 2 k ++ leBytes 2 z ++ nonce))) s (fun t =>
        answers s t [] 0x0905 sess tag st (crc32c (leBytes 2 k ++ leBytes 2 z ++ nonce)) [] = true ∧
        RegsBut [] s t ∧
        t = { s with regs := t.regs, ecp := t.ecp, out := t.out })) ∧
    (∀ (s : State) (sess tag : Nat) (off : Nat),
      s.stopSafe = true →
      s.accepts 0x0906 sess tag false = true →
      off < 65536 →
      Does (.keyCert sess tag ((leBytes 2 off ++ [0, 0]))) s (fun t =>
        answers s t [] 0x0906 sess tag Ecp.OK (crc32c (leBytes 2 off ++ [0, 0])) (leBytes 2 certLength ++ [0, 0] ++ (List.range (certLength - off)).map (fun i => Config.certByte (off + i) % 256)) = true ∧
        RegsBut [] s t ∧
        t = { s with regs := t.regs, ecp := t.ecp, out := t.out })) ∧
    (∀ (s : State) (sess tag : Nat) (off z : Nat),
      s.stopSafe = true →
      s.accepts 0x0906 sess tag false = true →
      off < 65536 →
      z < 65536 →
      z ≠ 0 →
      Does (.keyCert sess tag ((leBytes 2 off ++ leBytes 2 z))) s (fun t =>
        answers s t [] 0x0906 sess tag Ecp.BAD_PARAM (crc32c (leBytes 2 off ++ leBytes 2 z)) [] = true ∧
        RegsBut [] s t ∧
        t = { s with regs := t.regs, ecp := t.ecp, out := t.out })) ∧
    (∀ (s : State) (sess tag : Nat) (k : Nat),
      s.stopSafe = true →
      s.accepts 0x0900 sess tag false = true →
      k < 512 →
      Does (.keyInfo sess tag ((leBytes 2 k ++ [0, 0]))) s (fun t =>
        answers s t [] 0x0900 sess tag Ecp.OK (crc32c (leBytes 2 k ++ [0, 0])) (leBytes 4 (s.slotW0 k) ++ leBytes 4 (s.get (KS_SLOT_W1_GEN k)) ++ leBytes 4 (s.get (KS_SLOT_W2_PGEN k)) ++ [b2n (s.orphaned k), 0, 0, 0]) = true ∧
        RegsBut [] s t ∧
        t = { s with regs := t.regs, ecp := t.ecp, out := t.out })) ∧
    (∀ (s : State) (sess tag : Nat) (k z : Nat),
      s.stopSafe = true →
      s.accepts 0x0900 sess tag false = true →
      k < 65536 →
      z < 65536 →
      512 ≤ k ∨ z ≠ 0 →
      Does (.keyInfo sess tag ((leBytes 2 k ++ leBytes 2 z))) s (fun t =>
        answers s t [] 0x0900 sess tag Ecp.BAD_PARAM (crc32c (leBytes 2 k ++ leBytes 2 z)) [] = true ∧
        RegsBut [] s t ∧
        t = { s with regs := t.regs, ecp := t.ecp, out := t.out })) ∧
    (∀ (s : State) (sess tag : Nat) (k : Nat),
      s.stopSafe = true →
      s.accepts 0x0907 sess tag false = true →
      s.tampered = false →
      k < 512 →
      s.get (KS_SLOT_W0_TYPE k) = 4 →
      s.get (KS_SLOT_W1_GEN k) ≠ 0xFFFFFFFF →
      s.orphaned k = false →
      Does (.keyPublic sess tag ((leBytes 2 k ++ [0, 0]))) s (fun t =>
        answers s t [] 0x0907 sess tag Ecp.OK (crc32c (leBytes 2 k ++ [0, 0])) (ecdsaPublic (beNat (s.keyBytes k))) = true ∧
        RegsBut [] s t ∧
        t = { s with regs := t.regs, ecp := t.ecp, out := t.out })) ∧
    (∀ (s : State) (sess tag : Nat) (k z : Nat) (st : Nat),
      s.stopSafe = true →
      s.accepts 0x0907 sess tag false = true →
      k < 65536 →
      z < 65536 →
      st = (if s.tampered = true then Ecp.TAMPERED else if (512 ≤ k ∨ z ≠ 0) then Ecp.BAD_PARAM else if (s.get (KS_SLOT_W0_TYPE k) ≠ 4 ∨ s.get (KS_SLOT_W1_GEN k) = 0xFFFFFFFF) then Ecp.DENIED else if s.orphaned k = true then Ecp.KEY_ORPHANED else Ecp.OK) →
      st ≠ Ecp.OK →
      Does (.keyPublic sess tag ((leBytes 2 k ++ leBytes 2 z))) s (fun t =>
        answers s t [] 0x0907 sess tag st (crc32c (leBytes 2 k ++ leBytes 2 z)) [] = true ∧
        RegsBut [] s t ∧
        t = { s with regs := t.regs, ecp := t.ecp, out := t.out }))

/-- The last samples of a cause confirm it or not. A confirmed enabled cause sets TAMPERED and its latched bit, counts it
and the key operations that end, notes the operating hours of the first event, empties every slot with the GEN of each
occupied one advanced, discards the session keys, leaves the stop state and the relays, writes a record and, in night
mode, wakes the unit; a cause not enabled or not confirmed only shows in LIVE. A clear by an application core with the
key succeeds when no enabled cause is live and sets REFUSED otherwise; a wrong key clears nothing. TAMPER_GET answers
its three words. A failed entropy test sets TRNG_FAIL with a record, and tests that pass again leave it. A seal input
confirmed by the samples shows in SEAL_OPEN and writes a record. An anchor due goes over the older copy; a fuse of the
hours or cycle ladder is blown when its count is reached. (Rests on: R97, R98, R572, R586, R587, R588, R589, R591,
R593, R608.) -/
def Obligations.TamperEmptiesTheKeyStore : Prop :=
    (∀ (s : State) (c busy : Nat) (vals : List Int),
      s.stopSafe = true →
      c < 8 →
      s.pwr.night = false →
      (if c < 4 then s.getBit TAMPER_CFG_IN_EN c = true else if c < 6 then s.bit TAMPER_CFG_VBAT_EN = true else s.bit TAMPER_CFG_TEMP_EN = true) →
      (if c < 4 then (2 ≤ vals.length ∧ (vals.drop (vals.length - 2)).all (fun v => v == 1) = true) else if c = 4 then (8 ≤ vals.length ∧ (vals.drop (vals.length - 8)).all (fun v => decide (v < 2350)) = true) else if c = 5 then (8 ≤ vals.length ∧ (vals.drop (vals.length - 8)).all (fun v => decide (3850 < v)) = true) else if c = 6 then (2 ≤ vals.length ∧ (vals.drop (vals.length - 2)).all (fun v => decide (v < -550)) = true) else (2 ≤ vals.length ∧ (vals.drop (vals.length - 2)).all (fun v => decide (1250 < v)) = true)) →
      Does (.tamperConfirm c vals busy) s (fun t =>
        Reads t [(TAMPER_STATUS_TAMPERED, 1), (TAMPER_MS_COUNT, s.adv TAMPER_MS_COUNT), (KS_CNT_TAMPER_ABORTS, s.adv KS_CNT_TAMPER_ABORTS busy), (TAMPER_OH_SECONDS, if s.tampered then s.get TAMPER_OH_SECONDS else s.get REC_AON_OH_SECONDS), (TAMPER_MS_MS, if s.tampered then s.get TAMPER_MS_MS else s.get REC_AON_SUB_MS), (ROOK_STATE_STOP, s.get ROOK_STATE_STOP), (RELAY_STATUS_DRIVE, s.get RELAY_STATUS_DRIVE)] ∧
        bitOf (t.get (match c with | 4 => TAMPER_STATUS_VBAT_LO | 5 => TAMPER_STATUS_VBAT_HI | 6 => TAMPER_STATUS_TEMP_LO | 7 => TAMPER_STATUS_TEMP_HI | _ => TAMPER_STATUS_IN)) (if c < 4 then c else 0) = true ∧
        (c < 4 → t.getBit TAMPER_STATUS_LIVE c = true) ∧
        ((List.range 512).all (fun k => t.get (KS_SLOT_W0_TYPE k) == 0 && (t.get (KS_SLOT_W1_GEN k) == if s.get (KS_SLOT_W0_TYPE k) = 0 then s.get (KS_SLOT_W1_GEN k) else min (s.get (KS_SLOT_W1_GEN k) + 1) 0xFFFFFFFF))) = true ∧
        t.ecp = { s.ecp with sessions := s.ecp.sessions.map (fun (x : EcpSession) => { x with key := [] }) } ∧
        t.ks = { s.ks with vals := t.ks.vals, tamperDue := t.ks.tamperDue } ∧
        (∀ k : Nat, k < 512 → s.get (KS_SLOT_W0_TYPE k) ≠ 0 → t.keyBytes k = []) ∧
        (if s.domOff 3 then t.ks.tamperDue = some c ∧ t.evr = s.evr else t.ks.tamperDue = s.ks.tamperDue ∧ t.evr = (s.record .tamper [c]).evr) ∧
        RegsBut ([TAMPER_STATUS_TAMPERED, TAMPER_STATUS_IN, TAMPER_STATUS_VBAT_LO, TAMPER_STATUS_VBAT_HI, TAMPER_STATUS_TEMP_LO, TAMPER_STATUS_TEMP_HI, TAMPER_STATUS_LIVE, TAMPER_OH_SECONDS, TAMPER_MS_MS, TAMPER_MS_COUNT, KS_CNT_TAMPER_ABORTS, REC_CNT_QUEUE_DROP] ++ (List.range 512).flatMap (fun k => [KS_SLOT_W0_TYPE k, KS_SLOT_W0_ORIGIN k, KS_SLOT_W0_USE k, KS_SLOT_W0_ROOT_PARENT k, KS_SLOT_W0_PARENT k, KS_SLOT_W0_DEPTH k, KS_SLOT_W2_PGEN k, KS_SLOT_W1_GEN k])) s t ∧
        t = { s with regs := t.regs, ks := t.ks, evr := t.evr, ecp := t.ecp })) ∧
    (∀ (s : State) (c busy : Nat) (vals : List Int),
      s.stopSafe = true →
      c < 8 →
      s.pwr.night = true →
      (if c < 4 then s.getBit TAMPER_CFG_IN_EN c = true else if c < 6 then s.bit TAMPER_CFG_VBAT_EN = true else s.bit TAMPER_CFG_TEMP_EN = true) →
      (if c < 4 then (2 ≤ vals.length ∧ (vals.drop (vals.length - 2)).all (fun v => v == 1) = true) else if c = 4 then (8 ≤ vals.length ∧ (vals.drop (vals.length - 8)).all (fun v => decide (v < 2350)) = true) else if c = 5 then (8 ≤ vals.length ∧ (vals.drop (vals.length - 8)).all (fun v => decide (3850 < v)) = true) else if c = 6 then (2 ≤ vals.length ∧ (vals.drop (vals.length - 2)).all (fun v => decide (v < -550)) = true) else (2 ≤ vals.length ∧ (vals.drop (vals.length - 2)).all (fun v => decide (1250 < v)) = true)) →
      Does (.tamperConfirm c vals busy) s (fun t =>
        t.pwr.night = true ∧
        t.bit WAKE_CAUSE_TAMPER = true ∧
        (s.pwr.mainEn = false ∧ s.pwr.minHoldDone = false → t.pwr = { s.pwr with wakeLatched := true }) ∧
        (s.pwr.mainEn = false ∧ s.pwr.minHoldDone = true → t.pwr.mainEn = true) ∧
        Reads t [(TAMPER_STATUS_TAMPERED, 1), (TAMPER_MS_COUNT, s.adv TAMPER_MS_COUNT), (KS_CNT_TAMPER_ABORTS, s.adv KS_CNT_TAMPER_ABORTS busy), (TAMPER_OH_SECONDS, if s.tampered then s.get TAMPER_OH_SECONDS else s.get REC_AON_OH_SECONDS), (TAMPER_MS_MS, if s.tampered then s.get TAMPER_MS_MS else s.get REC_AON_SUB_MS), (ROOK_STATE_STOP, s.get ROOK_STATE_STOP), (RELAY_STATUS_DRIVE, s.get RELAY_STATUS_DRIVE)] ∧
        ((List.range 512).all (fun k => t.get (KS_SLOT_W0_TYPE k) == 0 && (t.get (KS_SLOT_W1_GEN k) == if s.get (KS_SLOT_W0_TYPE k) = 0 then s.get (KS_SLOT_W1_GEN k) else min (s.get (KS_SLOT_W1_GEN k) + 1) 0xFFFFFFFF))) = true ∧
        t.ecp = { s.ecp with sessions := s.ecp.sessions.map (fun (x : EcpSession) => { x with key := [] }) } ∧
        t = (let u := (if c < 4 then s.putBit TAMPER_STATUS_LIVE c (vals.getLast? == some 1) else s); let u := State.bump (State.put (State.latchCause (if s.tampered then u else u.puts [(TAMPER_OH_SECONDS, s.get REC_AON_OH_SECONDS), (TAMPER_MS_MS, s.get REC_AON_SUB_MS)]) c) TAMPER_STATUS_TAMPERED 1) TAMPER_MS_COUNT; State.wake (State.tamperRecord (u.emptyStore busy) c) WAKE_CAUSE_TAMPER))) ∧
    (∀ (s : State) (c busy : Nat) (vals : List Int),
      s.stopSafe = true →
      c < 4 →
      ¬ ((if c < 4 then s.getBit TAMPER_CFG_IN_EN c = true else if c < 6 then s.bit TAMPER_CFG_VBAT_EN = true else s.bit TAMPER_CFG_TEMP_EN = true)) ∨ ¬ (if c < 4 then (2 ≤ vals.length ∧ (vals.drop (vals.length - 2)).all (fun v => v == 1) = true) else if c = 4 then (8 ≤ vals.length ∧ (vals.drop (vals.length - 8)).all (fun v => decide (v < 2350)) = true) else if c = 5 then (8 ≤ vals.length ∧ (vals.drop (vals.length - 8)).all (fun v => decide (3850 < v)) = true) else if c = 6 then (2 ≤ vals.length ∧ (vals.drop (vals.length - 2)).all (fun v => decide (v < -550)) = true) else (2 ≤ vals.length ∧ (vals.drop (vals.length - 2)).all (fun v => decide (1250 < v)) = true)) →
      Does (.tamperConfirm c vals busy) s (fun t =>
        t.getBit TAMPER_STATUS_LIVE c = (vals.getLast? == some 1) ∧
        RegsBut [TAMPER_STATUS_LIVE] s t ∧
        OnlyRegs s t ∧
        (∀ d : Nat, d < 4 → d ≠ c → t.getBit TAMPER_STATUS_LIVE d = s.getBit TAMPER_STATUS_LIVE d))) ∧
    (∀ (s : State) (c busy : Nat) (vals : List Int),
      s.stopSafe = true →
      8 ≤ c ∨ (4 ≤ c ∧ (¬ (if c < 4 then s.getBit TAMPER_CFG_IN_EN c = true else if c < 6 then s.bit TAMPER_CFG_VBAT_EN = true else s.bit TAMPER_CFG_TEMP_EN = true) ∨ ¬ (if c < 4 then (2 ≤ vals.length ∧ (vals.drop (vals.length - 2)).all (fun v => v == 1) = true) else if c = 4 then (8 ≤ vals.length ∧ (vals.drop (vals.length - 8)).all (fun v => decide (v < 2350)) = true) else if c = 5 then (8 ≤ vals.length ∧ (vals.drop (vals.length - 8)).all (fun v => decide (3850 < v)) = true) else if c = 6 then (2 ≤ vals.length ∧ (vals.drop (vals.length - 2)).all (fun v => decide (v < -550)) = true) else (2 ≤ vals.length ∧ (vals.drop (vals.length - 2)).all (fun v => decide (1250 < v)) = true)))) →
      Does (.tamperConfirm c vals busy) s (fun t =>
        t = s)) ∧
    (∀ (s : State) (ini data live : Nat),
      s.stopSafe = true →
      MayWrite s ini 0x40710010 →
      isApp ini = true →
      bits data 31 16 = 0x5443 →
      bitOf data 0 = true →
      (List.range 8).any (fun c => bitOf live c && s.causeEn c) = false →
      Does (.tamperClear ini data live) s (fun t =>
        Reads t [(TAMPER_STATUS_TAMPERED, 0), (TAMPER_STATUS_IN, 0), (TAMPER_STATUS_VBAT_LO, 0), (TAMPER_STATUS_VBAT_HI, 0), (TAMPER_STATUS_TEMP_LO, 0), (TAMPER_STATUS_TEMP_HI, 0), (TAMPER_STATUS_LIVE, live % 16)] ∧
        RegsBut [TAMPER_STATUS_TAMPERED, TAMPER_STATUS_IN, TAMPER_STATUS_VBAT_LO, TAMPER_STATUS_VBAT_HI, TAMPER_STATUS_TEMP_LO, TAMPER_STATUS_TEMP_HI, TAMPER_STATUS_LIVE] s t ∧
        OnlyRegs s t)) ∧
    (∀ (s : State) (ini data live : Nat),
      s.stopSafe = true →
      MayWrite s ini 0x40710010 →
      isApp ini = true →
      bits data 31 16 = 0x5443 →
      bitOf data 0 = true →
      (List.range 8).any (fun c => bitOf live c && s.causeEn c) = true →
      Does (.tamperClear ini data live) s (fun t =>
        Reads t [(TAMPER_STATUS_REFUSED, 1), (TAMPER_STATUS_LIVE, live % 16)] ∧
        RegsBut [TAMPER_STATUS_REFUSED, TAMPER_STATUS_LIVE] s t ∧
        OnlyRegs s t)) ∧
    (∀ (s : State) (ini data live : Nat),
      s.stopSafe = true →
      MayWrite s ini 0x40710010 →
      bits data 31 16 ≠ 0x5443 ∨ bitOf data 0 = false ∨ isApp ini = false →
      Does (.tamperClear ini data live) s (fun t =>
        Reads t [(TAMPER_STATUS_LIVE, live % 16)] ∧
        RegsBut [TAMPER_STATUS_LIVE] s t ∧
        OnlyRegs s t)) ∧
    (∀ (s : State) (sess tag : Nat),
      s.stopSafe = true →
      s.accepts 0x0908 sess tag false = true →
      Does (.tamperGet sess tag) s (fun t =>
        answers s t [] 0x0908 sess tag Ecp.OK (crc32c []) (leBytes 4 s.tamperWord ++ leBytes 4 (s.get TAMPER_OH_SECONDS) ++ leBytes 4 (s.get TAMPER_MS_COUNT * 65536 + s.get TAMPER_MS_MS)) = true ∧
        s.tamperWord = s.get TAMPER_STATUS_TAMPERED * 2 ^ 31 + s.get TAMPER_STATUS_REFUSED * 2 ^ 30 + s.get TAMPER_STATUS_TEMP_HI * 2 ^ 11 + s.get TAMPER_STATUS_TEMP_LO * 2 ^ 10 + s.get TAMPER_STATUS_VBAT_HI * 2 ^ 9 + s.get TAMPER_STATUS_VBAT_LO * 2 ^ 8 + s.get TAMPER_STATUS_IN * 16 + s.get TAMPER_STATUS_LIVE ∧
        RegsBut [] s t ∧
        t = { s with regs := t.regs, ecp := t.ecp, out := t.out })) ∧
    (∀ (s : State),
      s.stopSafe = true →
      s.domOff 3 = false →
      s.bit KS_STATUS_TRNG_FAIL = false →
      Does (.trngHealthFail false) s (fun t =>
        Reads t [(KS_STATUS_TRNG_FAIL, 1)] ∧
        t.ks = { s.ks with trngBad := true } ∧
        t.evr = (s.record .trngFail).evr ∧
        RegsBut [KS_STATUS_TRNG_FAIL, REC_CNT_QUEUE_DROP] s t ∧
        t = { s with regs := t.regs, ks := t.ks, evr := t.evr })) ∧
    (∀ (s : State),
      s.stopSafe = true →
      s.domOff 3 = false →
      s.bit KS_STATUS_TRNG_FAIL = true →
      Does (.trngHealthFail false) s (fun t =>
        t.ks = { s.ks with trngBad := true } ∧
        RegsBut [] s t ∧
        t = { s with regs := t.regs, ks := t.ks })) ∧
    (∀ (s : State),
      s.stopSafe = true →
      s.domOff 3 = false →
      Does (.trngHealthFail true) s (fun t =>
        t.ks = { s.ks with trngBad := false } ∧
        RegsBut [] s t ∧
        t = { s with regs := t.regs, ks := t.ks })) ∧
    (∀ (s : State) (ok : Bool),
      s.stopSafe = true →
      s.domOff 3 = true →
      Does (.trngHealthFail ok) s (fun t =>
        t = s)) ∧
    (∀ (s : State) (a b c : Bool),
      s.stopSafe = true →
      a ≠ s.bit MET_STATUS_SEAL_OPEN →
      c ≠ s.bit MET_STATUS_SEAL_OPEN →
      Does (.sealConfirm a b c) s (fun t =>
        Reads t [(MET_STATUS_SEAL_OPEN, b2n c)] ∧
        t.mp = { s.mp with sealSince := if c then some s.ply else none } ∧
        t.evr = (s.record .sealChange [b2n c]).evr ∧
        RegsBut [MET_STATUS_SEAL_OPEN, REC_CNT_QUEUE_DROP] s t ∧
        t = { s with regs := t.regs, mp := t.mp, evr := t.evr })) ∧
    (∀ (s : State) (a b c : Bool),
      s.stopSafe = true →
      a = s.bit MET_STATUS_SEAL_OPEN ∨ c = s.bit MET_STATUS_SEAL_OPEN →
      Does (.sealConfirm a b c) s (fun t =>
        t = s)) ∧
    (∀ (s : State),
      s.stopSafe = true →
      s.boot.core0Rom = false →
      (match s.flash.anchor with | some a => decide (a.1 / 3600 < s.get REC_AON_OH_SECONDS / 3600 ∨ a.2 ≠ s.get REC_AON_MS_PCC) | none => true) = true →
      Does (.anchorWrite) s (fun t =>
        t.flash = (if (match s.flash.anchor0, s.flash.anchor1 with | some a, some b => decide (a.1 ≤ b.1) | some _, none => false | none, _ => true) then { s.flash with anchor0 := some (s.get REC_AON_OH_SECONDS, s.get REC_AON_MS_PCC) } else { s.flash with anchor1 := some (s.get REC_AON_OH_SECONDS, s.get REC_AON_MS_PCC) }) ∧
        RegsBut [] s t ∧
        t = { s with regs := t.regs, flash := t.flash })) ∧
    (∀ (s : State),
      s.stopSafe = true →
      s.boot.core0Rom = true ∨ (match s.flash.anchor with | some a => decide (a.1 / 3600 < s.get REC_AON_OH_SECONDS / 3600 ∨ a.2 ≠ s.get REC_AON_MS_PCC) | none => true) = false →
      Does (.anchorWrite) s (fun t =>
        t = s)) ∧
    (∀ (s : State),
      s.stopSafe = true →
      (s.flash.hoursFuses + 1) * 3686400 ≤ s.get REC_AON_OH_SECONDS →
      s.flash.hoursFuses < 1024 →
      Does (.hoursFuseStep false) s (fun t =>
        t.flash = { s.flash with hoursFuses := s.flash.hoursFuses + 1 } ∧
        RegsBut [] s t ∧
        t = { s with regs := t.regs, flash := t.flash })) ∧
    (∀ (s : State),
      s.stopSafe = true →
      (s.flash.cycleFuses + 1) * 16384 ≤ s.get REC_AON_MS_PCC →
      s.flash.cycleFuses < 1024 →
      Does (.hoursFuseStep true) s (fun t =>
        t.flash = { s.flash with cycleFuses := s.flash.cycleFuses + 1 } ∧
        RegsBut [] s t ∧
        t = { s with regs := t.regs, flash := t.flash })) ∧
    (∀ (s : State) (cy : Bool),
      s.stopSafe = true →
      (cy = false ∧ (s.get REC_AON_OH_SECONDS < (s.flash.hoursFuses + 1) * 3686400 ∨ 1024 ≤ s.flash.hoursFuses)) ∨ (cy = true ∧ (s.get REC_AON_MS_PCC < (s.flash.cycleFuses + 1) * 16384 ∨ 1024 ≤ s.flash.cycleFuses)) →
      Does (.hoursFuseStep cy) s (fun t =>
        t = s))

/-- A submitted record enters the queue with its stamps, or is dropped with QUEUE_DROP and LOST_BEFORE. The next queued
record takes the next SEQ and goes to the main ring at HEAD, which advances modulo its size, and CIVIL_HWM follows;
one or two bits in error are corrected and counted; a read-back that differs sets MAIN_FAULT, is stop source FAULT
through LOG_MEDIA, and puts the record with its SEQ in the reserve ring; after a fault, or in a retest, records go
there; where neither ring can store it, LOST_EVENTS advances; beyond the last SEQ a SEQ_WRAP record starts again at 1.
A retest passed empties the main ring and clears MAIN_FAULT. REC_RESTORE takes the hours and then the count from 0x3F
once, never below those held. The cursor steps modulo its ring. REC_READ and REC_STATUS answer what is held; a
reader's access in error is corrected or a media fault. (Rests on: R593, R594, R595, R596, R597, R599, R600, R601,
R602, R603, R604, R605.) -/
def Obligations.RecordsEnterAndReachTheRings : Prop :=
    (∀ (s : State) (code src : Nat) (p : List Nat) (cv : Bool),
      s.stopSafe = true →
      s.domOff 3 = false →
      s.evr.queue.length < 64 →
      cv = (s.bit REC_CTRL_CIVIL_EN && s.bit TIME_STATUS_VALID) →
      Does (.recordSubmit code src p) s (fun t =>
        t.evr = { s.evr with queue := s.evr.queue ++ [({ seq := 0, ohSec := s.get REC_AON_OH_SECONDS, ohMs := s.get REC_AON_SUB_MS, pcc := s.get REC_AON_MS_PCC, civilValid := cv, ev := .submitted code, ply := s.ply, civilSec := if cv then s.time.sec else 0, timeGen := s.get TIME_STATUS_TIME_GEN, civilNs := if cv then s.time.ns else 0, source := src, payload := p.take 24 } : Rec)] } ∧
        RegsBut [] s t ∧
        OnlyRegsEvr s t)) ∧
    (∀ (s : State) (code src : Nat) (p : List Nat),
      s.stopSafe = true →
      s.domOff 3 = false →
      64 ≤ s.evr.queue.length →
      Does (.recordSubmit code src p) s (fun t =>
        t.evr = { s.evr with lostBefore := true } ∧
        Reads t [(REC_CNT_QUEUE_DROP, s.adv REC_CNT_QUEUE_DROP)] ∧
        RegsBut [REC_CNT_QUEUE_DROP] s t ∧
        OnlyRegsEvr s t)) ∧
    (∀ (s : State) (code src : Nat) (p : List Nat),
      s.stopSafe = true →
      s.domOff 3 = true →
      Does (.recordSubmit code src p) s (fun t =>
        t = s)) ∧
    (∀ (s : State) (r : Rec) (rest : List Rec) (q bits : Nat) (bad : Bool),
      s.stopSafe = true →
      s.domOff 3 = false →
      s.evr.queue = r :: rest →
      q = s.get REC_LAST_SEQ_SEQ + 1 →
      q ≤ 0xFFFFFFFF →
      bad = false →
      bits ≤ 2 →
      s.bit REC_STATUS_MAIN_FAULT = false →
      s.bit REC_STATUS_RETESTING = false →
      Does (.recordWrite bad bits) s (fun t =>
        t.evr.main = s.evr.main.filter (fun (x : Nat × Rec) => x.1 ≠ s.get REC_HEAD_INDEX) ++ [(s.get REC_HEAD_INDEX, ({ r with seq := q, wrap := s.get REC_WRAP_WRAP, lostBefore := s.evr.lostBefore, mediaFault := s.bit REC_STATUS_MAIN_FAULT, back := r.civilValid && decide (r.civilSec < s.evr.hwmSec ∨ (r.civilSec = s.evr.hwmSec ∧ r.civilNs < s.evr.hwmNs)) } : Rec))] ∧
        t.evr = { s.evr with main := t.evr.main, queue := rest, lostBefore := false, hwmSec := t.evr.hwmSec, hwmNs := t.evr.hwmNs } ∧
        (t.evr.hwmSec, t.evr.hwmNs) = (if (r.civilValid && decide (s.evr.hwmSec < r.civilSec ∨ (r.civilSec = s.evr.hwmSec ∧ s.evr.hwmNs < r.civilNs))) then (r.civilSec, r.civilNs) else (s.evr.hwmSec, s.evr.hwmNs)) ∧
        Reads t [(REC_LAST_SEQ_SEQ, q), (REC_HEAD_INDEX, (s.get REC_HEAD_INDEX + 1) % 32768), (REC_WRAP_WRAP, s.get REC_WRAP_WRAP), (REC_CNT_CE_COUNT, if 1 ≤ bits ∧ bits ≤ 2 then s.adv REC_CNT_CE_COUNT else s.get REC_CNT_CE_COUNT)] ∧
        t = State.writeRec (let z : State := (if 1 ≤ bits ∧ bits ≤ 2 then State.bump s REC_CNT_CE_COUNT else s); { z with evr := { z.evr with queue := rest } }) r (bad || decide (3 ≤ bits)) ∧
        t.rook = s.rook ∧
        t.time = s.time ∧
        t.rst = s.rst ∧
        (s.ecp.sessions.all (fun x => x.streams.isEmpty) = true → RegsBut [REC_LAST_SEQ_SEQ, REC_HEAD_INDEX, REC_CNT_CE_COUNT] s t ∧ t = { s with regs := t.regs, evr := t.evr }))) ∧
    (∀ (s : State) (r : Rec) (rest : List Rec) (q bits : Nat) (bad : Bool),
      s.stopSafe = true →
      s.domOff 3 = false →
      s.evr.queue = r :: rest →
      q = s.get REC_LAST_SEQ_SEQ + 1 →
      q ≤ 0xFFFFFFFF →
      bad = true ∨ 3 ≤ bits →
      q < 0xFFFFFFFF →
      s.bit REC_STATUS_MAIN_FAULT = false →
      s.bit REC_STATUS_RETESTING = false →
      s.bit REC_STATUS_RES_FAULT = false →
      s.rookHeld = false →
      s.bit ROOK_FAULT_LOG_MEDIA = false →
      Does (.recordWrite bad bits) s (fun t =>
        StopOn 4 s t ∧
        Reads t [(REC_STATUS_MAIN_FAULT, 1), (ROOK_FAULT_LOG_MEDIA, 1), (REC_LAST_SEQ_SEQ, q + 1), (REC_HEAD_INDEX, (s.get REC_HEAD_INDEX + 1) % 32768), (REC_CNT_CE_COUNT, if 1 ≤ bits ∧ bits ≤ 2 then s.adv REC_CNT_CE_COUNT else s.get REC_CNT_CE_COUNT)] ∧
        t.evr.main = s.evr.main.filter (fun (x : Nat × Rec) => x.1 ≠ s.get REC_HEAD_INDEX) ∧
        t.evr.reserve.any (fun x => x.2.seq == q && x.2.reserve && x.2.mediaFault && x.2.ohSec == r.ohSec && x.2.payload == r.payload) = true ∧
        t.evr.reserve.any (fun x => x.2.seq == q + 1 && x.2.ev == .logMedia && x.2.payload == leBytes 2 (s.get REC_HEAD_INDEX)) = true ∧
        t = State.writeRec (let z : State := (if 1 ≤ bits ∧ bits ≤ 2 then State.bump s REC_CNT_CE_COUNT else s); { z with evr := { z.evr with queue := rest } }) r (bad || decide (3 ≤ bits)) ∧
        t.time = s.time ∧
        t.rst = s.rst ∧
        t.gnss = s.gnss)) ∧
    (∀ (s : State) (r : Rec) (rest : List Rec) (q bits : Nat) (bad : Bool),
      s.stopSafe = true →
      s.domOff 3 = false →
      s.evr.queue = r :: rest →
      q = s.get REC_LAST_SEQ_SEQ + 1 →
      q ≤ 0xFFFFFFFF →
      bad = false →
      bits ≤ 2 →
      s.bit REC_STATUS_MAIN_FAULT = true ∨ s.bit REC_STATUS_RETESTING = true →
      s.bit REC_STATUS_RES_FAULT = false →
      Does (.recordWrite bad bits) s (fun t =>
        t.evr.reserve = s.evr.reserve.filter (fun (x : Nat × Rec) => x.1 ≠ s.evr.resHead) ++ [(s.evr.resHead, ({ r with seq := q, wrap := s.get REC_WRAP_WRAP, lostBefore := s.evr.lostBefore, mediaFault := s.bit REC_STATUS_MAIN_FAULT, back := r.civilValid && decide (r.civilSec < s.evr.hwmSec ∨ (r.civilSec = s.evr.hwmSec ∧ r.civilNs < s.evr.hwmNs)), reserve := true } : Rec))] ∧
        t.evr.resFirst = (if s.evr.resFirst.isNone then some s.evr.resHead else s.evr.resFirst) ∧
        t.evr.resHead = (if t.evr.resFirst = some ((s.evr.resHead + 1) % 256) then ((s.evr.resHead + 1) % 256 + 1) % 256 else (s.evr.resHead + 1) % 256) ∧
        t.evr = { s.evr with reserve := t.evr.reserve, resHead := t.evr.resHead, resFirst := t.evr.resFirst, queue := rest, lostBefore := false, hwmSec := t.evr.hwmSec, hwmNs := t.evr.hwmNs } ∧
        (t.evr.hwmSec, t.evr.hwmNs) = (if (r.civilValid && decide (s.evr.hwmSec < r.civilSec ∨ (r.civilSec = s.evr.hwmSec ∧ s.evr.hwmNs < r.civilNs))) then (r.civilSec, r.civilNs) else (s.evr.hwmSec, s.evr.hwmNs)) ∧
        Reads t [(REC_LAST_SEQ_SEQ, q), (REC_STATUS_RES_USED, t.evr.reserve.length % 2 ^ REC_STATUS_RES_USED.w), (REC_CNT_CE_COUNT, if 1 ≤ bits ∧ bits ≤ 2 then s.adv REC_CNT_CE_COUNT else s.get REC_CNT_CE_COUNT)] ∧
        t = State.writeRec (let z : State := (if 1 ≤ bits ∧ bits ≤ 2 then State.bump s REC_CNT_CE_COUNT else s); { z with evr := { z.evr with queue := rest } }) r (bad || decide (3 ≤ bits)) ∧
        t.rook = s.rook ∧
        t.time = s.time ∧
        t.rst = s.rst ∧
        (s.ecp.sessions.all (fun x => x.streams.isEmpty) = true → RegsBut [REC_LAST_SEQ_SEQ, REC_STATUS_RES_USED, REC_CNT_CE_COUNT] s t ∧ t = { s with regs := t.regs, evr := t.evr }))) ∧
    (∀ (s : State) (r : Rec) (rest : List Rec) (q bits : Nat) (bad : Bool),
      s.stopSafe = true →
      s.domOff 3 = false →
      s.evr.queue = r :: rest →
      q = s.get REC_LAST_SEQ_SEQ + 1 →
      q ≤ 0xFFFFFFFF →
      s.bit REC_STATUS_MAIN_FAULT = true →
      s.bit REC_STATUS_RES_FAULT = true ∨ bad = true ∨ 3 ≤ bits →
      Does (.recordWrite bad bits) s (fun t =>
        t.evr = { s.evr with queue := rest } ∧
        Reads t [(REC_AON_LOST_LOST_EVENTS, s.adv REC_AON_LOST_LOST_EVENTS), (REC_LAST_SEQ_SEQ, s.get REC_LAST_SEQ_SEQ), (REC_STATUS_RES_FAULT, 1), (REC_CNT_CE_COUNT, if 1 ≤ bits ∧ bits ≤ 2 then s.adv REC_CNT_CE_COUNT else s.get REC_CNT_CE_COUNT)] ∧
        RegsBut [REC_AON_LOST_LOST_EVENTS, REC_STATUS_RES_FAULT, REC_CNT_CE_COUNT] s t ∧
        OnlyRegsEvr s t)) ∧
    (∀ (s : State) (r : Rec) (rest : List Rec) (q bits : Nat) (bad : Bool),
      s.stopSafe = true →
      s.domOff 3 = false →
      s.evr.queue = r :: rest →
      q = s.get REC_LAST_SEQ_SEQ + 1 →
      q ≤ 0xFFFFFFFF →
      s.bit REC_STATUS_MAIN_FAULT = false →
      s.bit REC_STATUS_RETESTING = true →
      s.bit REC_STATUS_RES_FAULT = true ∨ bad = true ∨ 3 ≤ bits →
      Does (.recordWrite bad bits) s (fun t =>
        t.evr = { s.evr with queue := rest, lostBefore := true } ∧
        Reads t [(REC_LAST_SEQ_SEQ, s.get REC_LAST_SEQ_SEQ), (REC_STATUS_RES_FAULT, 1), (REC_CNT_CE_COUNT, if 1 ≤ bits ∧ bits ≤ 2 then s.adv REC_CNT_CE_COUNT else s.get REC_CNT_CE_COUNT)] ∧
        RegsBut [REC_STATUS_RES_FAULT, REC_CNT_CE_COUNT] s t ∧
        OnlyRegsEvr s t)) ∧
    (∀ (s : State) (r : Rec) (rest : List Rec) (bits : Nat) (bad : Bool),
      s.stopSafe = true →
      s.domOff 3 = false →
      s.evr.queue = r :: rest →
      s.get REC_LAST_SEQ_SEQ = 0xFFFFFFFF →
      s.get REC_WRAP_WRAP < 0xFFFF →
      s.bit REC_STATUS_MAIN_FAULT = false →
      s.bit REC_STATUS_RETESTING = false →
      bad = false →
      bits ≤ 2 →
      Does (.recordWrite bad bits) s (fun t =>
        t.evr.main.getLast?.map (fun x => (x.1, x.2.seq, x.2.wrap, x.2.ev.code)) = some (s.get REC_HEAD_INDEX, 1, s.get REC_WRAP_WRAP + 1, 0x0A03) ∧
        t.evr.queue = s.evr.queue ∧
        Reads t [(REC_LAST_SEQ_SEQ, 1), (REC_WRAP_WRAP, s.get REC_WRAP_WRAP + 1), (REC_HEAD_INDEX, (s.get REC_HEAD_INDEX + 1) % 32768), (REC_CNT_CE_COUNT, if 1 ≤ bits ∧ bits ≤ 2 then s.adv REC_CNT_CE_COUNT else s.get REC_CNT_CE_COUNT)] ∧
        t.rook = s.rook ∧
        t.time = s.time)) ∧
    (∀ (s : State) (bits : Nat) (bad : Bool) (r : Rec) (rest : List Rec),
      s.stopSafe = true →
      s.domOff 3 = false →
      s.evr.queue = r :: rest →
      s.get REC_LAST_SEQ_SEQ = 0xFFFFFFFF →
      Does (.recordWrite bad bits) s (fun t =>
        t = State.writeRec (if 1 ≤ bits ∧ bits ≤ 2 then State.bump s REC_CNT_CE_COUNT else s) (s.recNow .seqWrap []) (bad || decide (3 ≤ bits)) ∧
        t.evr.queue = s.evr.queue)) ∧
    (∀ (s : State) (r : Rec) (rest : List Rec) (q bits : Nat) (bad : Bool),
      s.stopSafe = true →
      s.domOff 3 = false →
      s.evr.queue = r :: rest →
      q = s.get REC_LAST_SEQ_SEQ + 1 →
      q ≤ 0xFFFFFFFF →
      Does (.recordWrite bad bits) s (fun t =>
        t = State.writeRec (let z : State := (if 1 ≤ bits ∧ bits ≤ 2 then State.bump s REC_CNT_CE_COUNT else s); { z with evr := { z.evr with queue := rest } }) r (bad || decide (3 ≤ bits)))) ∧
    (∀ (s : State) (bits : Nat) (bad : Bool),
      s.stopSafe = true →
      s.domOff 3 = true ∨ s.evr.queue = [] →
      Does (.recordWrite bad bits) s (fun t =>
        t = s)) ∧
    (∀ (s : State) (ini data : Nat),
      s.stopSafe = true →
      MayWrite s ini 0x40800000 →
      bitOf data 30 = true →
      Does (.recRetest ini data) s (fun t =>
        Reads t [(REC_STATUS_RETESTING, 1), (REC_CTRL_CIVIL_EN, b2n (bitOf data 31))] ∧
        t.evr = { s.evr with retestAt := s.ply } ∧
        RegsBut [REC_STATUS_RETESTING, REC_CTRL_CIVIL_EN] s t ∧
        OnlyRegsEvr s t)) ∧
    (∀ (s : State) (ini data : Nat),
      s.stopSafe = true →
      bitOf data 30 = false →
      Does (.recRetest ini data) s (fun t =>
        t = s)) ∧
    (∀ (s : State) (p : Bool),
      s.stopSafe = true →
      s.bit REC_STATUS_RETESTING = true →
      s.evr.retestAt + 400 ≤ s.ply →
      p = true →
      Does (.recRetestComplete p) s (fun t =>
        Reads t [(REC_STATUS_RETESTING, 0), (REC_STATUS_MAIN_FAULT, 0)] ∧
        t.evr = { (s.record .retestPass).evr with main := [] } ∧
        RegsBut [REC_STATUS_RETESTING, REC_STATUS_MAIN_FAULT, REC_CNT_QUEUE_DROP] s t ∧
        OnlyRegsEvr s t)) ∧
    (∀ (s : State) (p : Bool),
      s.stopSafe = true →
      s.bit REC_STATUS_RETESTING = true →
      s.evr.retestAt + 400 ≤ s.ply →
      p = false →
      Does (.recRetestComplete p) s (fun t =>
        Reads t [(REC_STATUS_RETESTING, 0), (REC_STATUS_MAIN_FAULT, s.get REC_STATUS_MAIN_FAULT)] ∧
        t.evr = (s.record .retestFail).evr ∧
        RegsBut [REC_STATUS_RETESTING, REC_CNT_QUEUE_DROP] s t ∧
        OnlyRegsEvr s t)) ∧
    (∀ (s : State) (p : Bool),
      s.stopSafe = true →
      s.bit REC_STATUS_RETESTING = false ∨ s.ply < s.evr.retestAt + 400 →
      Does (.recRetestComplete p) s (fun t =>
        t = s)) ∧
    (∀ (s : State) (data : Nat),
      s.stopSafe = true →
      s.judge 0x3F 0x40800110 true = .ok →
      s.bit REC_STATUS_RESTORE_OPEN = true →
      s.evr.restoreHours = none →
      s.get REC_AON_OH_SECONDS ≤ data →
      Does (.recRestoreWrite 0x3F data) s (fun t =>
        t.evr = { s.evr with restoreHours := some data } ∧
        RegsBut [] s t ∧
        OnlyRegsEvr s t)) ∧
    (∀ (s : State) (data h : Nat),
      s.stopSafe = true →
      s.judge 0x3F 0x40800110 true = .ok →
      s.bit REC_STATUS_RESTORE_OPEN = true →
      s.evr.restoreHours = some h →
      h < 2 ^ 32 →
      s.get REC_AON_MS_PCC ≤ data + 1 →
      Does (.recRestoreWrite 0x3F data) s (fun t =>
        Reads t [(REC_AON_OH_SECONDS, h), (REC_AON_SUB_MS, 0), (REC_AON_MS_PCC, min (data + 1) 0xFFFFFF), (REC_STATUS_RESTORE_OPEN, 0)] ∧
        t.pwr = { s.pwr with aonCycles := 0, dayFrom := h } ∧
        t.evr = { s.evr with restoreHours := none, queue := t.evr.queue } ∧
        (s.rst.held.contains .sys ∨ (t.evr.queue.map (fun (y : Rec) => (y.ev.code, y.ohSec)) = (0x0A02, h) :: s.evr.queue.map (fun (y : Rec) => (y.ev.code, y.ohSec)))) ∧
        RegsBut [REC_AON_OH_SECONDS, REC_AON_SUB_MS, REC_AON_MS_PCC, REC_STATUS_RESTORE_OPEN] s t ∧
        t = { s with regs := t.regs, evr := t.evr, pwr := t.pwr })) ∧
    (∀ (s : State) (ini data : Nat),
      s.stopSafe = true →
      MayWrite s ini 0x40800110 →
      ini ≠ 0x3F ∨ s.bit REC_STATUS_RESTORE_OPEN = false ∨ (s.evr.restoreHours = none ∧ data < s.get REC_AON_OH_SECONDS) ∨ (s.evr.restoreHours.isSome = true ∧ data + 1 < s.get REC_AON_MS_PCC) →
      Does (.recRestoreWrite ini data) s (fun t =>
        t = s)) ∧
    (∀ (s : State) (ini : Nat),
      s.stopSafe = true →
      MayWrite s ini 0x40800020 →
      Does (.recCursorStep ini) s (fun t =>
        Reads t [(REC_CURSOR_INDEX ini, (s.get (REC_CURSOR_INDEX ini) + 1) % (if s.bit (REC_CURSOR_RING ini) then 256 else 32768))] ∧
        RegsBut [REC_CURSOR_INDEX ini] s t ∧
        OnlyRegs s t)) ∧
    (∀ (s : State) (sess tag : Nat) (q n : Nat),
      s.stopSafe = true →
      s.accepts 0x0A00 sess tag false = true →
      q < 2 ^ 32 →
      1 ≤ n ∧ n ≤ 21 →
      Does (.recRead sess tag ((leBytes 4 q ++ [n, 0, 0, 0])) none) s (fun t =>
        answers s t [] 0x0A00 sess tag Ecp.OK (crc32c (leBytes 4 q ++ [n, 0, 0, 0])) (s.recReadBytes q n) = true ∧
        RegsBut [] s t ∧
        t = { s with regs := t.regs, ecp := t.ecp, out := t.out })) ∧
    (∀ (s : State) (sess tag : Nat) (q n a b c : Nat) (err : Option (Bool × Nat × Nat)),
      s.stopSafe = true →
      s.accepts 0x0A00 sess tag false = true →
      q < 2 ^ 32 →
      n < 256 →
      n = 0 ∨ 21 < n →
      Does (.recRead sess tag ((leBytes 4 q ++ [n, a, b, c])) err) s (fun t =>
        answers s t [] 0x0A00 sess tag Ecp.BAD_PARAM (crc32c (leBytes 4 q ++ [n, a, b, c])) [] = true ∧
        RegsBut [] s t ∧
        t = { s with regs := t.regs, ecp := t.ecp, out := t.out })) ∧
    (∀ (s : State) (sess tag q n : Nat) (rv : Bool) (i bits : Nat) (u : State),
      s.stopSafe = true →
      s.accepts 0x0A00 sess tag false = true →
      q < 2 ^ 32 →
      1 ≤ n ∧ n ≤ 21 →
      u = State.ringError s rv i bits →
      u.room sess = true →
      rv = false →
      3 ≤ bits →
      s.bit REC_STATUS_MAIN_FAULT = false →
      s.bit REC_STATUS_RES_FAULT = false →
      s.rookHeld = false →
      s.bit ROOK_FAULT_LOG_MEDIA = false →
      Does (.recRead sess tag ((leBytes 4 q ++ [n, 0, 0, 0])) (some (rv, i, bits))) s (fun t =>
        answers u t [] 0x0A00 sess tag Ecp.OK (crc32c (leBytes 4 q ++ [n, 0, 0, 0])) (u.recReadBytes q n) = true ∧
        StopOn 4 s t ∧
        Reads t [(REC_STATUS_MAIN_FAULT, 1), (ROOK_FAULT_LOG_MEDIA, 1)] ∧
        t.evr.main = s.evr.main.filter (fun (x : Nat × Rec) => x.1 ≠ i) ∧
        t = { u with ecp := t.ecp, out := t.out } ∧
        t.time = s.time ∧
        t.rst = s.rst ∧
        t.gnss = s.gnss)) ∧
    (∀ (s : State) (sess tag q n : Nat) (rv : Bool) (i bits : Nat) (u : State),
      s.stopSafe = true →
      s.accepts 0x0A00 sess tag false = true →
      q < 2 ^ 32 →
      1 ≤ n ∧ n ≤ 21 →
      u = State.ringError s rv i bits →
      u.room sess = true →
      rv = true →
      3 ≤ bits →
      Does (.recRead sess tag ((leBytes 4 q ++ [n, 0, 0, 0])) (some (rv, i, bits))) s (fun t =>
        answers u t [] 0x0A00 sess tag Ecp.OK (crc32c (leBytes 4 q ++ [n, 0, 0, 0])) (u.recReadBytes q n) = true ∧
        Reads t [(REC_STATUS_RES_FAULT, 1)] ∧
        t.evr = { s.evr with reserve := s.evr.reserve.filter (fun (x : Nat × Rec) => x.1 ≠ i) } ∧
        t = { u with ecp := t.ecp, out := t.out } ∧
        RegsBut [REC_STATUS_RES_FAULT] s t ∧
        t = { s with regs := t.regs, evr := t.evr, ecp := t.ecp, out := t.out })) ∧
    (∀ (s : State) (sess tag q n : Nat) (rv : Bool) (i bits : Nat) (u : State),
      s.stopSafe = true →
      s.accepts 0x0A00 sess tag false = true →
      q < 2 ^ 32 →
      1 ≤ n ∧ n ≤ 21 →
      u = State.ringError s rv i bits →
      u.room sess = true →
      bits ≤ 2 →
      Does (.recRead sess tag ((leBytes 4 q ++ [n, 0, 0, 0])) (some (rv, i, bits))) s (fun t =>
        answers u t [] 0x0A00 sess tag Ecp.OK (crc32c (leBytes 4 q ++ [n, 0, 0, 0])) (u.recReadBytes q n) = true ∧
        Reads t [(REC_CNT_CE_COUNT, if bits = 0 then s.get REC_CNT_CE_COUNT else s.adv REC_CNT_CE_COUNT)] ∧
        t = { u with ecp := t.ecp, out := t.out } ∧
        RegsBut [REC_CNT_CE_COUNT] s t ∧
        t = { s with regs := t.regs, ecp := t.ecp, out := t.out })) ∧
    (∀ (s : State) (sess tag q n : Nat) (rv : Bool) (i bits : Nat) (u : State),
      s.stopSafe = true →
      s.accepts 0x0A00 sess tag false = true →
      q < 2 ^ 32 →
      1 ≤ n ∧ n ≤ 21 →
      u = State.ringError s rv i bits →
      u.room sess = true →
      Does (.recRead sess tag ((leBytes 4 q ++ [n, 0, 0, 0])) (some (rv, i, bits))) s (fun t =>
        answers u t [] 0x0A00 sess tag Ecp.OK (crc32c (leBytes 4 q ++ [n, 0, 0, 0])) (u.recReadBytes q n) = true ∧
        t = { u with ecp := t.ecp, out := t.out })) ∧
    (∀ (s : State) (sess tag : Nat),
      s.stopSafe = true →
      s.accepts 0x0A01 sess tag false = true →
      Does (.recStatus sess tag) s (fun t =>
        answers s t [] 0x0A01 sess tag Ecp.OK (crc32c []) (leBytes 4 s.recStatusWord ++ leBytes 4 (s.get REC_HEAD_INDEX) ++ leBytes 4 (s.get REC_AON_LOST_LOST_EVENTS) ++ leBytes 4 (s.get REC_CNT_QUEUE_DROP)) = true ∧
        s.recStatusWord = s.get REC_STATUS_MAIN_FAULT * 2 ^ 31 + s.get REC_STATUS_RES_FAULT * 2 ^ 30 + s.get REC_STATUS_RETESTING * 2 ^ 29 + s.get REC_STATUS_RESTORE_OPEN * 2 ^ 28 + s.get REC_STATUS_RES_USED ∧
        RegsBut [] s t ∧
        t = { s with regs := t.regs, ecp := t.ecp, out := t.out }))

/-- An item on the path enters the buffer while the partition runs and fewer than 8 cut-offs wait, otherwise it is dropped
with its records counted, and so are the address events up to the next cut-off that enters. An activation maps the
address and opens an account where one is free; a release unmaps it. A cut-off's records are taken in order: an
eligible record within GAP_MS adds its distance, and at working speed also work distance, time and area; beyond GAP_MS
it only counts a gap and moves p; an unmapped address is ignored. MET_PARAM_SET with the seal open writes the audit
record and the parameter is in force; with it closed it is LOCKED; a torn record ends INTERNAL_ERROR (log 26); freeing
an account takes it out; a trail of 4096 records takes none. MET_IDENT, MET_READ and MET_AUDIT_READ answer their
contents. While the partition does not run the requests are NOT_READY (log 25). (Rests on: R607, R610, R611, R612,
R613, R614, R615, R616, R617.) -/
def Obligations.MetrologyMeasuresAndKeepsItsTrail : Prop :=
    (∀ (s : State) (p : Nat) (rc : List SolRec) (w : List (Nat × MpItem)),
      s.stopSafe = true →
      s.mpDown = false →
      s.mp.wire = (p, .cut rc) :: w →
      s.mpCuts < 8 →
      Does (.mpCopyReceive) s (fun t =>
        t.mp = { s.mp with wire := w, buf := s.mp.buf ++ [.cut rc], dropping := false } ∧
        RegsBut [] s t ∧
        t = { s with regs := t.regs, mp := t.mp })) ∧
    (∀ (s : State) (p : Nat) (rc : List SolRec) (w : List (Nat × MpItem)),
      s.stopSafe = true →
      s.mpDown = true ∨ 8 ≤ s.mpCuts →
      s.mp.wire = (p, .cut rc) :: w →
      Does (.mpCopyReceive) s (fun t =>
        t.mp = { s.mp with wire := w, dropping := true } ∧
        Reads t [(MET_CNT_COPY_DROP, s.adv MET_CNT_COPY_DROP rc.length)] ∧
        RegsBut [MET_CNT_COPY_DROP] s t ∧
        t = { s with regs := t.regs, mp := t.mp })) ∧
    (∀ (s : State) (p a : Nat) (eui : List Nat) (w : List (Nat × MpItem)),
      s.stopSafe = true →
      s.mpDown = false →
      s.mp.wire = (p, .act a eui) :: w →
      s.mp.dropping = false →
      Does (.mpCopyReceive) s (fun t =>
        t.mp = { s.mp with wire := w, buf := s.mp.buf ++ [.act a eui] } ∧
        RegsBut [] s t ∧
        t = { s with regs := t.regs, mp := t.mp })) ∧
    (∀ (s : State) (p a : Nat) (eui : List Nat) (w : List (Nat × MpItem)),
      s.stopSafe = true →
      s.mpDown = false →
      s.mp.wire = (p, .rel a eui) :: w →
      s.mp.dropping = false →
      Does (.mpCopyReceive) s (fun t =>
        t.mp = { s.mp with wire := w, buf := s.mp.buf ++ [.rel a eui] } ∧
        RegsBut [] s t ∧
        t = { s with regs := t.regs, mp := t.mp })) ∧
    (∀ (s : State) (p : Nat) (i : MpItem) (w : List (Nat × MpItem)),
      s.stopSafe = true →
      s.mpDown = true ∨ s.mp.dropping = true →
      s.mp.wire = (p, i) :: w →
      (match i with | .cut _ => false | _ => true) = true →
      Does (.mpCopyReceive) s (fun t =>
        t.mp = { s.mp with wire := w } ∧
        RegsBut [] s t ∧
        t = { s with regs := t.regs, mp := t.mp })) ∧
    (∀ (s : State),
      s.stopSafe = true →
      s.mp.wire = [] →
      Does (.mpCopyReceive) s (fun t =>
        t = s)) ∧
    (∀ (s : State) (a : Nat) (eui : List Nat) (tl : List MpItem),
      s.stopSafe = true →
      s.mpDown = false →
      s.mp.buf = .act a eui :: tl →
      (s.acctOf eui).isSome = true →
      Does (.mpAddressEvent) s (fun t =>
        t.mp = { s.mp with buf := tl, map := s.mp.map.filter (fun (e : Nat × List Nat) => e.1 ≠ a) ++ [(a, eui)] } ∧
        RegsBut [] s t ∧
        t = { s with regs := t.regs, mp := t.mp })) ∧
    (∀ (s : State),
      s.stopSafe = true →
      s.mpDown = true ∨ (match s.mp.buf with | .act _ _ :: _ => false | .rel _ _ :: _ => false | _ => true) = true →
      Does (.mpAddressEvent) s (fun t =>
        t = s)) ∧
    (∀ (s : State) (a : Nat) (eui : List Nat) (tl : List MpItem),
      s.stopSafe = true →
      s.mpDown = false →
      s.mp.buf = .act a eui :: tl →
      s.acctOf eui = none →
      s.mp.accts.length < 1024 →
      Does (.mpAddressEvent) s (fun t =>
        t.mp = { s.mp with buf := tl, map := s.mp.map.filter (fun (e : Nat × List Nat) => e.1 ≠ a) ++ [(a, eui)], accts := s.mp.accts ++ [{ eui := eui }] } ∧
        Reads t [(MET_STATUS2_ACCOUNTS, s.mp.accts.length + 1)] ∧
        RegsBut [MET_STATUS2_ACCOUNTS] s t ∧
        t = { s with regs := t.regs, mp := t.mp })) ∧
    (∀ (s : State) (a : Nat) (eui : List Nat) (tl : List MpItem),
      s.stopSafe = true →
      s.mpDown = false →
      s.mp.buf = .act a eui :: tl →
      s.acctOf eui = none →
      1024 ≤ s.mp.accts.length →
      Does (.mpAddressEvent) s (fun t =>
        t.mp = { s.mp with buf := tl, map := s.mp.map.filter (fun (e : Nat × List Nat) => e.1 ≠ a) ++ [(a, eui)] } ∧
        Reads t [(MET_STATUS_ACCT_FULL, 1)] ∧
        RegsBut [MET_STATUS_ACCT_FULL] s t ∧
        t = { s with regs := t.regs, mp := t.mp })) ∧
    (∀ (s : State) (a : Nat) (eui : List Nat) (tl : List MpItem),
      s.stopSafe = true →
      s.mpDown = false →
      s.mp.buf = .rel a eui :: tl →
      Does (.mpAddressEvent) s (fun t =>
        t.mp = { s.mp with buf := tl, map := s.mp.map.filter (fun (e : Nat × List Nat) => e.1 ≠ a) } ∧
        RegsBut [] s t ∧
        t = { s with regs := t.regs, mp := t.mp })) ∧
    (∀ (s : State) (rc : List SolRec) (tl : List MpItem),
      s.stopSafe = true →
      s.mpDown = false →
      s.mp.buf = .cut rc :: tl →
      s.bit MET_STATUS_IMAGE_MISMATCH = false →
      Does (.mpProcessCutoff) s (fun t =>
        t = rc.foldl State.mpRecord { s with mp := { s.mp with buf := tl } } ∧
        RegsBut [MET_CNT2_GAPS, MET_CNT2_UNMEASURED] s t ∧
        t = { s with regs := t.regs, mp := t.mp })) ∧
    (∀ (s : State) (r : SolRec) (tl : List MpItem) (eui : List Nat) (a : MpAcct) (tp : Nat) (e n : Int),
      s.stopSafe = true →
      s.mpDown = false →
      s.mp.buf = .cut [r] :: tl →
      s.bit MET_STATUS_IMAGE_MISMATCH = false →
      s.mp.map.find? (fun (z : Nat × List Nat) => z.1 == r.addr) = some (r.addr, eui) →
      s.acctOf eui = some a →
      (r.status = 4 ∨ (r.status = 3 ∧ s.param 4 [] = 1)) ∧ r.pos.sdH ≤ s.param 5 [] ∧ r.flags &&& 59 = 0 →
      s.mp.accts.all (fun b => b.eui != eui || b == a) = true →
      a.last = some (tp, e, n) →
      tp < (r.week * 604800000 + r.ms) →
      (r.week * 604800000 + r.ms) - tp ≤ s.param 3 [] →
      s.param 2 [] * ((r.week * 604800000 + r.ms) - tp) ≤ (isqrtNear ((r.pos.e - e) * (r.pos.e - e) + (r.pos.n - n) * (r.pos.n - n)).toNat) * 1000 →
      Does (.mpProcessCutoff) s (fun t =>
        t.acctOf eui = some { a with dist := min (a.dist + (isqrtNear ((r.pos.e - e) * (r.pos.e - e) + (r.pos.n - n) * (r.pos.n - n)).toNat)) (2 ^ 64 - 1), workDist := min (a.workDist + (isqrtNear ((r.pos.e - e) * (r.pos.e - e) + (r.pos.n - n) * (r.pos.n - n)).toNat)) (2 ^ 64 - 1), workMs := min (a.workMs + ((r.week * 604800000 + r.ms) - tp)) (2 ^ 64 - 1), area := min (a.area + (isqrtNear ((r.pos.e - e) * (r.pos.e - e) + (r.pos.n - n) * (r.pos.n - n)).toNat) * s.param 1 eui) (2 ^ 64 - 1), last := some ((r.week * 604800000 + r.ms), r.pos.e, r.pos.n) } ∧
        t.mp = { s.mp with buf := tl, accts := t.mp.accts } ∧
        RegsBut [] s t ∧
        t = { s with regs := t.regs, mp := t.mp } ∧
        (∀ f : List Nat, f ≠ eui → t.acctOf f = s.acctOf f))) ∧
    (∀ (s : State) (r : SolRec) (tl : List MpItem) (eui : List Nat) (a : MpAcct) (tp : Nat) (e n : Int),
      s.stopSafe = true →
      s.mpDown = false →
      s.mp.buf = .cut [r] :: tl →
      s.bit MET_STATUS_IMAGE_MISMATCH = false →
      s.mp.map.find? (fun (z : Nat × List Nat) => z.1 == r.addr) = some (r.addr, eui) →
      s.acctOf eui = some a →
      (r.status = 4 ∨ (r.status = 3 ∧ s.param 4 [] = 1)) ∧ r.pos.sdH ≤ s.param 5 [] ∧ r.flags &&& 59 = 0 →
      s.mp.accts.all (fun b => b.eui != eui || b == a) = true →
      a.last = some (tp, e, n) →
      tp < (r.week * 604800000 + r.ms) →
      (r.week * 604800000 + r.ms) - tp ≤ s.param 3 [] →
      (isqrtNear ((r.pos.e - e) * (r.pos.e - e) + (r.pos.n - n) * (r.pos.n - n)).toNat) * 1000 < s.param 2 [] * ((r.week * 604800000 + r.ms) - tp) →
      Does (.mpProcessCutoff) s (fun t =>
        t.acctOf eui = some { a with dist := min (a.dist + (isqrtNear ((r.pos.e - e) * (r.pos.e - e) + (r.pos.n - n) * (r.pos.n - n)).toNat)) (2 ^ 64 - 1), last := some ((r.week * 604800000 + r.ms), r.pos.e, r.pos.n) } ∧
        t.mp = { s.mp with buf := tl, accts := t.mp.accts } ∧
        RegsBut [] s t ∧
        t = { s with regs := t.regs, mp := t.mp } ∧
        (∀ f : List Nat, f ≠ eui → t.acctOf f = s.acctOf f))) ∧
    (∀ (s : State) (r : SolRec) (tl : List MpItem) (eui : List Nat) (a : MpAcct) (tp : Nat) (e n : Int),
      s.stopSafe = true →
      s.mpDown = false →
      s.mp.buf = .cut [r] :: tl →
      s.bit MET_STATUS_IMAGE_MISMATCH = false →
      s.mp.map.find? (fun (z : Nat × List Nat) => z.1 == r.addr) = some (r.addr, eui) →
      s.acctOf eui = some a →
      (r.status = 4 ∨ (r.status = 3 ∧ s.param 4 [] = 1)) ∧ r.pos.sdH ≤ s.param 5 [] ∧ r.flags &&& 59 = 0 →
      s.mp.accts.all (fun b => b.eui != eui || b == a) = true →
      a.last = some (tp, e, n) →
      tp < (r.week * 604800000 + r.ms) →
      s.param 3 [] < (r.week * 604800000 + r.ms) - tp →
      Does (.mpProcessCutoff) s (fun t =>
        t.acctOf eui = some { a with last := some ((r.week * 604800000 + r.ms), r.pos.e, r.pos.n) } ∧
        Reads t [(MET_CNT2_GAPS, s.adv MET_CNT2_GAPS)] ∧
        t.mp = { s.mp with buf := tl, accts := t.mp.accts } ∧
        RegsBut [MET_CNT2_GAPS] s t ∧
        t = { s with regs := t.regs, mp := t.mp } ∧
        (∀ f : List Nat, f ≠ eui → t.acctOf f = s.acctOf f))) ∧
    (∀ (s : State) (r : SolRec) (tl : List MpItem) (eui : List Nat) (a : MpAcct),
      s.stopSafe = true →
      s.mpDown = false →
      s.mp.buf = .cut [r] :: tl →
      s.bit MET_STATUS_IMAGE_MISMATCH = false →
      s.mp.map.find? (fun (z : Nat × List Nat) => z.1 == r.addr) = some (r.addr, eui) →
      s.acctOf eui = some a →
      (r.status = 4 ∨ (r.status = 3 ∧ s.param 4 [] = 1)) ∧ r.pos.sdH ≤ s.param 5 [] ∧ r.flags &&& 59 = 0 →
      s.mp.accts.all (fun b => b.eui != eui || b == a) = true →
      a.last = none →
      Does (.mpProcessCutoff) s (fun t =>
        t.acctOf eui = some { a with last := some ((r.week * 604800000 + r.ms), r.pos.e, r.pos.n) } ∧
        t.mp = { s.mp with buf := tl, accts := t.mp.accts } ∧
        RegsBut [] s t ∧
        t = { s with regs := t.regs, mp := t.mp } ∧
        (∀ f : List Nat, f ≠ eui → t.acctOf f = s.acctOf f))) ∧
    (∀ (s : State) (r : SolRec) (tl : List MpItem) (eui : List Nat) (a : MpAcct),
      s.stopSafe = true →
      s.mpDown = false →
      s.mp.buf = .cut [r] :: tl →
      s.bit MET_STATUS_IMAGE_MISMATCH = false →
      s.mp.map.find? (fun (z : Nat × List Nat) => z.1 == r.addr) = some (r.addr, eui) →
      s.acctOf eui = some a →
      ¬ ((r.status = 4 ∨ (r.status = 3 ∧ s.param 4 [] = 1)) ∧ r.pos.sdH ≤ s.param 5 [] ∧ r.flags &&& 59 = 0) ∨ a.last.any (fun (z : Nat × Int × Int) => decide ((r.week * 604800000 + r.ms) ≤ z.1)) = true →
      Does (.mpProcessCutoff) s (fun t =>
        t.mp = { s.mp with buf := tl } ∧
        RegsBut [] s t ∧
        t = { s with regs := t.regs, mp := t.mp })) ∧
    (∀ (s : State) (r : SolRec) (tl : List MpItem) (eui : List Nat),
      s.stopSafe = true →
      s.mpDown = false →
      s.mp.buf = .cut [r] :: tl →
      s.bit MET_STATUS_IMAGE_MISMATCH = false →
      s.mp.map.find? (fun (z : Nat × List Nat) => z.1 == r.addr) = some (r.addr, eui) →
      s.acctOf eui = none →
      Does (.mpProcessCutoff) s (fun t =>
        t.mp = { s.mp with buf := tl } ∧
        Reads t [(MET_CNT2_UNMEASURED, s.adv MET_CNT2_UNMEASURED)] ∧
        RegsBut [MET_CNT2_UNMEASURED] s t ∧
        t = { s with regs := t.regs, mp := t.mp })) ∧
    (∀ (s : State) (rc : List SolRec) (tl : List MpItem),
      s.stopSafe = true →
      s.mpDown = false →
      s.mp.buf = .cut rc :: tl →
      s.bit MET_STATUS_IMAGE_MISMATCH = true ∨ rc.all (fun r => !s.mp.map.any (fun z => z.1 == r.addr)) = true →
      Does (.mpProcessCutoff) s (fun t =>
        t.mp = { s.mp with buf := tl } ∧
        RegsBut [] s t ∧
        t = { s with regs := t.regs, mp := t.mp })) ∧
    (∀ (s : State),
      s.stopSafe = true →
      s.mpDown = true ∨ (match s.mp.buf with | .cut _ :: _ => false | _ => true) = true →
      Does (.mpProcessCutoff) s (fun t =>
        t = s)) ∧
    (∀ (s : State) (sess tag : Nat) (x : EcpSession),
      s.stopSafe = true →
      s.accepts 0x0C00 sess tag false = true →
      s.mpDown = false →
      crc32c s.mp.image = s.get MP_CRC_CRC ∨ s.bit MET_STATUS_IMAGE_MISMATCH = true →
      s.session sess = some x →
      x.devSeq + 1 < 0xFFFFFFFF →
      sess ≠ 8 ∨ s.ecp.spiOut.length < 15 →
      Does (.metIdent sess tag none) s (fun t =>
        answersLater s t 0x0C00 sess tag Ecp.OK (crc32c []) ((List.range 4).flatMap (fun w => leBytes 4 (s.get (MP_VERSION_TEXT w))) ++ leBytes 4 (crc32c s.mp.image) ++ leBytes 2 s.audit.length ++ [0, 0]) = true ∧
        RegsBut [] s t ∧
        t = { s with regs := t.regs, ecp := t.ecp, out := t.out })) ∧
    (∀ (s : State) (sess tag : Nat) (x : EcpSession) (m : List Nat),
      s.stopSafe = true →
      s.accepts 0x0C00 sess tag false = true →
      s.mpDown = false →
      crc32c m ≠ s.get MP_CRC_CRC →
      s.bit MET_STATUS_IMAGE_MISMATCH = false →
      s.session sess = some x →
      x.devSeq + 1 < 0xFFFFFFFF →
      sess ≠ 8 ∨ s.ecp.spiOut.length < 15 →
      Does (.metIdent sess tag (some m)) s (fun t =>
        answersLater s t 0x0C00 sess tag Ecp.OK (crc32c []) ((List.range 4).flatMap (fun w => leBytes 4 (s.get (MP_VERSION_TEXT w))) ++ leBytes 4 (crc32c m) ++ leBytes 2 s.audit.length ++ [0, 0]) = true ∧
        Reads t [(MET_STATUS_IMAGE_MISMATCH, 1)] ∧
        t.evr = (s.record .imageMismatch []).evr ∧
        RegsBut [MET_STATUS_IMAGE_MISMATCH, REC_CNT_QUEUE_DROP] s t ∧
        t = { s with regs := t.regs, ecp := t.ecp, out := t.out, evr := t.evr })) ∧
    (∀ (s : State) (sess tag : Nat) (m : Option (List Nat)),
      s.stopSafe = true →
      s.accepts 0x0C00 sess tag false = true →
      s.mpDown = true →
      Does (.metIdent sess tag m) s (fun t =>
        answers s t [] 0x0C00 sess tag Ecp.NOT_READY (crc32c []) [] = true ∧
        RegsBut [] s t ∧
        t = { s with regs := t.regs, ecp := t.ecp, out := t.out })) ∧
    (∀ (s : State) (sess tag : Nat) (pay : List Nat),
      s.stopSafe = true →
      s.accepts 0x0C01 sess tag false = true →
      s.mpDown = true →
      pay.length = 8 →
      Does (.metRead sess tag pay) s (fun t =>
        answers s t [] 0x0C01 sess tag Ecp.NOT_READY (crc32c pay) [] = true ∧
        RegsBut [] s t ∧
        t = { s with regs := t.regs, ecp := t.ecp, out := t.out })) ∧
    (∀ (s : State) (sess tag : Nat) (pay : List Nat) (g : Bool),
      s.stopSafe = true →
      s.accepts 0x0C02 sess tag false = true →
      s.mpDown = true →
      pay.length = 16 →
      Does (.metParamSet sess tag pay g) s (fun t =>
        answers s t [] 0x0C02 sess tag Ecp.NOT_READY (crc32c pay) [] = true ∧
        RegsBut [] s t ∧
        t = { s with regs := t.regs, ecp := t.ecp, out := t.out })) ∧
    (∀ (s : State) (sess tag : Nat) (pay : List Nat),
      s.stopSafe = true →
      s.accepts 0x0C03 sess tag false = true →
      s.mpDown = true →
      pay.length = 4 →
      Does (.metAuditRead sess tag pay) s (fun t =>
        answers s t [] 0x0C03 sess tag Ecp.NOT_READY (crc32c pay) [] = true ∧
        RegsBut [] s t ∧
        t = { s with regs := t.regs, ecp := t.ecp, out := t.out })) ∧
    (∀ (s : State) (sess tag : Nat) (eui : List Nat) (a : MpAcct),
      s.stopSafe = true →
      s.accepts 0x0C01 sess tag false = true →
      s.mpDown = false →
      eui.length = 8 →
      s.acctOf eui = some a →
      Does (.metRead sess tag (eui)) s (fun t =>
        answers s t [] 0x0C01 sess tag Ecp.OK (crc32c (eui)) (s.metBytes a ++ leBytes 4 (crc32c (s.metBytes a))) = true ∧
        ((s.metBytes a).drop 8).take 32 = [a.dist, a.workDist, a.workMs, a.area].flatMap (leBytes 8) ∧
        (s.metBytes a).take 8 = leBytes 4 (s.get MET_SESSION_SESSION) ++ [b2n (s.mp.map.any (fun e => e.2 == eui)) + 2 * s.get MET_STATUS_IMAGE_MISMATCH, ((s.mp.map.find? (fun e => e.2 == eui)).map (·.1)).getD 0, 0, 0] ∧
        (a.area / (match s.param 6 [] with | 0 => 1000000 | 1 => 100000000 | _ => 10000000000) < 2 ^ 32 → ((s.metBytes a).drop 40).take 4 = leBytes 4 (a.area / (match s.param 6 [] with | 0 => 1000000 | 1 => 100000000 | _ => 10000000000))) ∧
        (a.workDist / (if s.param 7 [] = 0 then 1000 else 10000) < 2 ^ 32 → (s.metBytes a).drop 44 = leBytes 4 (a.workDist / (if s.param 7 [] = 0 then 1000 else 10000))) ∧
        RegsBut [] s t ∧
        t = { s with regs := t.regs, freeCtr := t.freeCtr, ecp := t.ecp, out := t.out })) ∧
    (∀ (s : State) (sess tag : Nat) (eui : List Nat),
      s.stopSafe = true →
      s.accepts 0x0C01 sess tag false = true →
      s.mpDown = false →
      eui.length = 8 →
      s.acctOf eui = none →
      Does (.metRead sess tag (eui)) s (fun t =>
        answers s t [] 0x0C01 sess tag Ecp.BAD_PARAM (crc32c (eui)) [] = true ∧
        RegsBut [] s t ∧
        t = { s with regs := t.regs, ecp := t.ecp, out := t.out })) ∧
    (∀ (s : State) (sess tag : Nat) (p v : Nat) (eui : List Nat),
      s.stopSafe = true →
      s.accepts 0x0C02 sess tag false = true →
      s.mpDown = false →
      p < 8 →
      paramOk p v = true →
      eui.length = 8 →
      v < 2 ^ 32 →
      p = 1 → (s.acctOf eui).isSome = true →
      s.sealOpen = true →
      s.audit.length < 4096 →
      Does (.metParamSet sess tag (([p, 0, 0, 0] ++ eui ++ leBytes 4 v)) true) s (fun t =>
        answers s t [] 0x0C02 sess tag Ecp.OK (crc32c ([p, 0, 0, 0] ++ eui ++ leBytes 4 v)) (leBytes 2 s.audit.length ++ [0, 0]) = true ∧
        t.audit = s.audit ++ [(true, (leBytes 2 s.audit.length ++ [p, 0] ++ (if p = 1 ∨ p = 8 then eui else List.replicate 8 0) ++ leBytes 4 (if p = 8 then 0 else s.param p eui) ++ leBytes 4 v ++ leBytes 4 (s.get REC_AON_OH_SECONDS) ++ leBytes 4 (s.get MET_SESSION_SESSION)) ++ leBytes 4 (crc32c (leBytes 2 s.audit.length ++ [p, 0] ++ (if p = 1 ∨ p = 8 then eui else List.replicate 8 0) ++ leBytes 4 (if p = 8 then 0 else s.param p eui) ++ leBytes 4 v ++ leBytes 4 (s.get REC_AON_OH_SECONDS) ++ leBytes 4 (s.get MET_SESSION_SESSION))))] ∧
        t.param p eui = v ∧
        Reads t [(MET_STATUS_AUDIT_CNT, min (s.audit.length + 1) 0xFFF), (MET_STATUS_AUDIT_LOW, b2n (decide (4000 ≤ s.audit.length + 1))), (MET_STATUS2_AUDIT_FULL, b2n (decide (4096 ≤ s.audit.length + 1)))] ∧
        RegsBut [MET_STATUS_AUDIT_CNT, MET_STATUS2_AUDIT_FULL, MET_STATUS_AUDIT_LOW, MET_STATUS_AUDIT_TORN] s t ∧
        t = { s with regs := t.regs, audit := t.audit, ecp := t.ecp, out := t.out })) ∧
    (∀ (s : State) (sess tag : Nat) (v : Nat) (eui : List Nat),
      s.stopSafe = true →
      s.accepts 0x0C02 sess tag false = true →
      s.mpDown = false →
      eui.length = 8 →
      v < 2 ^ 32 →
      (s.acctOf eui).isSome = true →
      s.mp.map.any (fun e => e.2 == eui) = false →
      s.sealOpen = true →
      s.audit.length < 4096 →
      Does (.metParamSet sess tag (([8, 0, 0, 0] ++ eui ++ leBytes 4 v)) true) s (fun t =>
        answers s t [] 0x0C02 sess tag Ecp.OK (crc32c ([8, 0, 0, 0] ++ eui ++ leBytes 4 v)) (leBytes 2 s.audit.length ++ [0, 0]) = true ∧
        t.audit = s.audit ++ [(true, (leBytes 2 s.audit.length ++ [8, 0] ++ eui ++ leBytes 4 0 ++ leBytes 4 v ++ leBytes 4 (s.get REC_AON_OH_SECONDS) ++ leBytes 4 (s.get MET_SESSION_SESSION)) ++ leBytes 4 (crc32c (leBytes 2 s.audit.length ++ [8, 0] ++ eui ++ leBytes 4 0 ++ leBytes 4 v ++ leBytes 4 (s.get REC_AON_OH_SECONDS) ++ leBytes 4 (s.get MET_SESSION_SESSION))))] ∧
        t.mp = { s.mp with accts := s.mp.accts.filter (fun (a : MpAcct) => a.eui ≠ eui) } ∧
        Reads t [(MET_STATUS_AUDIT_CNT, min (s.audit.length + 1) 0xFFF), (MET_STATUS_AUDIT_LOW, b2n (decide (4000 ≤ s.audit.length + 1))), (MET_STATUS2_AUDIT_FULL, b2n (decide (4096 ≤ s.audit.length + 1)))] ∧
        Reads t [(MET_STATUS2_ACCOUNTS, t.mp.accts.length % 2 ^ MET_STATUS2_ACCOUNTS.w), (MET_STATUS_ACCT_FULL, 0)] ∧
        RegsBut [MET_STATUS_AUDIT_CNT, MET_STATUS2_AUDIT_FULL, MET_STATUS_AUDIT_LOW, MET_STATUS_AUDIT_TORN, MET_STATUS2_ACCOUNTS, MET_STATUS_ACCT_FULL] s t ∧
        t = { s with regs := t.regs, audit := t.audit, mp := t.mp, ecp := t.ecp, out := t.out })) ∧
    (∀ (s : State) (sess tag : Nat) (p v : Nat) (eui : List Nat) (g : Bool),
      s.stopSafe = true →
      s.accepts 0x0C02 sess tag false = true →
      s.mpDown = false →
      p < 9 →
      paramOk p v = true →
      eui.length = 8 →
      v < 2 ^ 32 →
      p = 1 ∨ p = 8 → (s.acctOf eui).isSome = true →
      p = 8 → s.mp.map.any (fun e => e.2 == eui) = false →
      s.sealOpen = false →
      Does (.metParamSet sess tag (([p, 0, 0, 0] ++ eui ++ leBytes 4 v)) g) s (fun t =>
        answers s t [] 0x0C02 sess tag Ecp.LOCKED (crc32c ([p, 0, 0, 0] ++ eui ++ leBytes 4 v)) [] = true ∧
        RegsBut [] s t ∧
        t = { s with regs := t.regs, ecp := t.ecp, out := t.out })) ∧
    (∀ (s : State) (sess tag : Nat) (p v : Nat) (eui : List Nat) (g : Bool),
      s.stopSafe = true →
      s.accepts 0x0C02 sess tag false = true →
      s.mpDown = false →
      p < 9 →
      paramOk p v = true →
      eui.length = 8 →
      v < 2 ^ 32 →
      p = 1 ∨ p = 8 → (s.acctOf eui).isSome = true →
      p = 8 → s.mp.map.any (fun e => e.2 == eui) = false →
      s.sealOpen = true →
      4096 ≤ s.audit.length →
      Does (.metParamSet sess tag (([p, 0, 0, 0] ++ eui ++ leBytes 4 v)) g) s (fun t =>
        answers s t [] 0x0C02 sess tag Ecp.DENIED (crc32c ([p, 0, 0, 0] ++ eui ++ leBytes 4 v)) [] = true ∧
        RegsBut [] s t ∧
        t = { s with regs := t.regs, ecp := t.ecp, out := t.out })) ∧
    (∀ (s : State) (sess tag : Nat) (p v x : Nat) (eui : List Nat) (g : Bool),
      s.stopSafe = true →
      s.accepts 0x0C02 sess tag false = true →
      s.mpDown = false →
      p < 256 →
      v < 2 ^ 32 →
      x < 2 ^ 24 →
      eui.length = 8 →
      paramOk p v = false ∨ x ≠ 0 ∨ ((p = 1 ∨ p = 8) ∧ s.acctOf eui = none) ∨ (p = 8 ∧ s.mp.map.any (fun e => e.2 == eui) = true) →
      Does (.metParamSet sess tag (([p] ++ leBytes 3 x ++ eui ++ leBytes 4 v)) g) s (fun t =>
        answers s t [] 0x0C02 sess tag Ecp.BAD_PARAM (crc32c ([p] ++ leBytes 3 x ++ eui ++ leBytes 4 v)) [] = true ∧
        RegsBut [] s t ∧
        t = { s with regs := t.regs, ecp := t.ecp, out := t.out })) ∧
    (∀ (s : State) (sess tag : Nat) (p v : Nat) (eui : List Nat),
      s.stopSafe = true →
      s.accepts 0x0C02 sess tag false = true →
      s.mpDown = false →
      p < 9 →
      paramOk p v = true →
      eui.length = 8 →
      v < 2 ^ 32 →
      p = 1 ∨ p = 8 → (s.acctOf eui).isSome = true →
      p = 8 → s.mp.map.any (fun e => e.2 == eui) = false →
      s.sealOpen = true →
      s.audit.length < 4096 →
      Does (.metParamSet sess tag (([p, 0, 0, 0] ++ eui ++ leBytes 4 v)) false) s (fun t =>
        answers s t [] 0x0C02 sess tag Ecp.INTERNAL_ERROR (crc32c ([p, 0, 0, 0] ++ eui ++ leBytes 4 v)) [] = true ∧
        Reads t [(MET_STATUS_AUDIT_TORN, 1)] ∧
        t.audit.length = s.audit.length + 1 ∧
        t.audit.take s.audit.length = s.audit ∧
        t.audit.getLast?.map (·.1) = some false ∧
        t.evr = (s.record .internalError (leBytes 2 0x0C02 ++ leBytes 2 tag)).evr ∧
        (p ≠ 8 → t.param p eui = s.param p eui) ∧
        RegsBut [MET_STATUS_AUDIT_CNT, MET_STATUS2_AUDIT_FULL, MET_STATUS_AUDIT_LOW, MET_STATUS_AUDIT_TORN, REC_CNT_QUEUE_DROP] s t ∧
        t = { s with regs := t.regs, audit := t.audit, freeCtr := t.freeCtr, ecp := t.ecp, out := t.out, evr := t.evr })) ∧
    (∀ (s : State) (sess tag : Nat) (q n : Nat),
      s.stopSafe = true →
      s.accepts 0x0C03 sess tag false = true →
      s.mpDown = false →
      1 ≤ n ∧ n ≤ 40 →
      q + n ≤ s.audit.length →
      q < 65536 →
      Does (.metAuditRead sess tag ((leBytes 2 q ++ [n, 0]))) s (fun t =>
        answers s t [] 0x0C03 sess tag Ecp.OK (crc32c (leBytes 2 q ++ [n, 0])) (((s.audit.drop q).take n).flatMap (·.2)) = true ∧
        RegsBut [] s t ∧
        t = { s with regs := t.regs, ecp := t.ecp, out := t.out })) ∧
    (∀ (s : State) (sess tag : Nat) (q n z : Nat),
      s.stopSafe = true →
      s.accepts 0x0C03 sess tag false = true →
      s.mpDown = false →
      q < 65536 →
      n < 256 →
      z < 256 →
      n = 0 ∨ 40 < n ∨ z ≠ 0 ∨ s.audit.length < q + n →
      Does (.metAuditRead sess tag ((leBytes 2 q ++ [n, z]))) s (fun t =>
        answers s t [] 0x0C03 sess tag Ecp.BAD_PARAM (crc32c (leBytes 2 q ++ [n, z])) [] = true ∧
        RegsBut [] s t ∧
        t = { s with regs := t.regs, ecp := t.ecp, out := t.out }))

/-- A free channel of 0 to 11 is taken by a capable initiator and freed by its owner, its snoop ending; any other TAKE or
RELEASE that is judged in order changes nothing, as any write does to a channel above 15. CLEAR loads INIT, zeroes
BYTES and clears DONE and ERROR. A feed of four bytes or one advances reg by R634, shows RESULT and adds to BYTES; a
restored half of STATE continues the computation; GO sets BUSY. By an initiator that may not, or while a scan is BUSY
or a snoop set, these change nothing. Rook has channel 15 alone, and its write also cancels a half-done watchdog
service (R513). A scan that reads its LENGTH bytes feeds them, sets DONE, clears BUSY, interrupts the owner and
answers the request of CRC_SCAN with RESULT. One that meets an uncorrectable error, a denied or an unpopulated address
sets ERROR with its cause, records the ECC error or the address, interrupts the owner and answers INTERNAL_ERROR with
its event record or BAD_PARAM; reg and BYTES stay and RESULT is free (log 4). A snooped frame is fed, and with
PER_FRAME it latches RESULT, counts and reloads INIT. CRC_TAKE, CRC_CONFIG, CRC_FEED, CRC_SCAN, CRC_GET and
CRC_RELEASE do the same for the session: DENIED on a channel above 11 or not its own, and while a scan or snoop feeds
it but for the CRC_CONFIG that ends a snoop; BAD_PARAM for a W, flag, source, length or address out of range and for a
byte of 0 that is not 0. (Rests on: R633, R634, R635, R636, R637, R638, R14, R183.) -/
def Obligations.CheckValuesFollowTheirBytes : Prop :=
    (∀ (s : State) (ini k : Nat),
      s.stopSafe = true →
      k < 16 →
      MayWrite s ini (crcAddr k 0) →
      k < 12 →
      capable ini = true →
      s.get (CRC_CTRL_OWNER k) = 0 →
      Does (.crcTakeWrite ini k) s (fun t =>
        Reads t [(CRC_CTRL_OWNER k, ini)] ∧
        RegsBut [CRC_CTRL_OWNER k] s t ∧
        OnlyRegs s t)) ∧
    (∀ (s : State) (ini k : Nat),
      s.stopSafe = true →
      16 ≤ k ∨ (MayWrite s ini (crcAddr k 0) ∧ (12 ≤ k ∨ capable ini = false ∨ s.get (CRC_CTRL_OWNER k) ≠ 0)) →
      Does (.crcTakeWrite ini k) s (fun t =>
        t = s)) ∧
    (∀ (s : State),
      s.stopSafe = true →
      s.judge 0x30 (crcAddr 15 0) true = .ok →
      Does (.crcTakeWrite 0x30 15) s (fun t =>
        t = s.rookWrote 0x30 (crcAddr 15 0))) ∧
    (∀ (s : State) (ini k : Nat),
      s.stopSafe = true →
      k < 16 →
      MayWrite s ini (crcAddr k 0) →
      k < 12 →
      s.crcMay ini k = true →
      Does (.crcReleaseWrite ini k) s (fun t =>
        Reads t [(CRC_CTRL_OWNER k, 0), (CRC_CTRL_SNOOP_SRC k, 0)] ∧
        RegsBut [CRC_CTRL_OWNER k, CRC_CTRL_SNOOP_SRC k] s t ∧
        OnlyRegs s t)) ∧
    (∀ (s : State) (ini k : Nat),
      s.stopSafe = true →
      16 ≤ k ∨ (MayWrite s ini (crcAddr k 0) ∧ (12 ≤ k ∨ s.crcMay ini k = false)) →
      Does (.crcReleaseWrite ini k) s (fun t =>
        t = s)) ∧
    (∀ (s : State),
      s.stopSafe = true →
      s.judge 0x30 (crcAddr 15 0) true = .ok →
      Does (.crcReleaseWrite 0x30 15) s (fun t =>
        t = s.rookWrote 0x30 (crcAddr 15 0))) ∧
    (∀ (s : State) (ini k : Nat),
      s.stopSafe = true →
      k < 16 →
      MayWrite s ini (crcAddr k 0) →
      s.crcMay ini k = true →
      s.crcBusy k = false →
      Does (.crcClear ini k) s (fun t =>
        t.crcReg k = (s.crcInit k) % 2 ^ 64 ∧
        t.wide (CRC_RESULT_LO_RESULT k) (CRC_RESULT_HI_RESULT k) = (crcFinish (s.get (CRC_CTRL_W k)) (s.bit (CRC_CTRL_REFOUT k)) (s.wide (CRC_XOR_LO_XOROUT k) (CRC_XOR_HI_XOROUT k)) (s.crcInit k)) % 2 ^ 64 ∧
        Reads t [(CRC_BYTES_LO_BYTES k, 0), (CRC_BYTES_HI_BYTES k, 0), (CRC_STATUS_DONE k, 0), (CRC_STATUS_ERROR k, 0)] ∧
        RegsBut [CRC_STATE_LO_STATE k, CRC_STATE_HI_STATE k, CRC_RESULT_LO_RESULT k, CRC_RESULT_HI_RESULT k, CRC_BYTES_LO_BYTES k, CRC_BYTES_HI_BYTES k, CRC_STATUS_DONE k, CRC_STATUS_ERROR k] s t ∧
        OnlyRegs s t)) ∧
    (∀ (s : State) (ini k : Nat),
      s.stopSafe = true →
      16 ≤ k ∨ (MayWrite s ini (crcAddr k 0) ∧ (s.crcMay ini k = false ∨ s.crcBusy k = true)) →
      Does (.crcClear ini k) s (fun t =>
        t = s)) ∧
    (∀ (s : State),
      s.stopSafe = true →
      s.judge 0x30 (crcAddr 15 0) true = .ok →
      Does (.crcClear 0x30 15) s (fun t =>
        t = (if s.crcBusy 15 = true then s.rookWrote 0x30 (crcAddr 15 0) else State.crcClear 15 (s.rookWrote 0x30 (crcAddr 15 0))))) ∧
    (∀ (s : State) (ini k data : Nat),
      s.stopSafe = true →
      k < 16 →
      MayWrite s ini (crcAddr k 0x48) →
      s.crcMay ini k = true →
      s.crcBusy k = false →
      Does (.crcFeedWrite ini k false data) s (fun t =>
        t.crcReg k = (crcFeed (s.get (CRC_CTRL_W k)) (s.wide (CRC_POLY_LO_POLY k) (CRC_POLY_HI_POLY k)) (s.bit (CRC_CTRL_REFIN k)) (s.crcReg k) (leBytes 4 data)) % 2 ^ 64 ∧
        t.wide (CRC_RESULT_LO_RESULT k) (CRC_RESULT_HI_RESULT k) = (crcFinish (s.get (CRC_CTRL_W k)) (s.bit (CRC_CTRL_REFOUT k)) (s.wide (CRC_XOR_LO_XOROUT k) (CRC_XOR_HI_XOROUT k)) (crcFeed (s.get (CRC_CTRL_W k)) (s.wide (CRC_POLY_LO_POLY k) (CRC_POLY_HI_POLY k)) (s.bit (CRC_CTRL_REFIN k)) (s.crcReg k) (leBytes 4 data))) % 2 ^ 64 ∧
        t.wide (CRC_BYTES_LO_BYTES k) (CRC_BYTES_HI_BYTES k) = (s.wide (CRC_BYTES_LO_BYTES k) (CRC_BYTES_HI_BYTES k) + 4) % 2 ^ 64 ∧
        RegsBut [CRC_STATE_LO_STATE k, CRC_STATE_HI_STATE k, CRC_RESULT_LO_RESULT k, CRC_RESULT_HI_RESULT k, CRC_BYTES_LO_BYTES k, CRC_BYTES_HI_BYTES k] s t ∧
        OnlyRegs s t)) ∧
    (∀ (s : State) (ini k data : Nat),
      s.stopSafe = true →
      k < 16 →
      MayWrite s ini (crcAddr k 0x4C) →
      s.crcMay ini k = true →
      s.crcBusy k = false →
      Does (.crcFeedWrite ini k true data) s (fun t =>
        t.crcReg k = (crcFeed (s.get (CRC_CTRL_W k)) (s.wide (CRC_POLY_LO_POLY k) (CRC_POLY_HI_POLY k)) (s.bit (CRC_CTRL_REFIN k)) (s.crcReg k) [data % 256]) % 2 ^ 64 ∧
        t.wide (CRC_RESULT_LO_RESULT k) (CRC_RESULT_HI_RESULT k) = (crcFinish (s.get (CRC_CTRL_W k)) (s.bit (CRC_CTRL_REFOUT k)) (s.wide (CRC_XOR_LO_XOROUT k) (CRC_XOR_HI_XOROUT k)) (crcFeed (s.get (CRC_CTRL_W k)) (s.wide (CRC_POLY_LO_POLY k) (CRC_POLY_HI_POLY k)) (s.bit (CRC_CTRL_REFIN k)) (s.crcReg k) [data % 256])) % 2 ^ 64 ∧
        t.wide (CRC_BYTES_LO_BYTES k) (CRC_BYTES_HI_BYTES k) = (s.wide (CRC_BYTES_LO_BYTES k) (CRC_BYTES_HI_BYTES k) + 1) % 2 ^ 64 ∧
        RegsBut [CRC_STATE_LO_STATE k, CRC_STATE_HI_STATE k, CRC_RESULT_LO_RESULT k, CRC_RESULT_HI_RESULT k, CRC_BYTES_LO_BYTES k, CRC_BYTES_HI_BYTES k] s t ∧
        OnlyRegs s t)) ∧
    (∀ (s : State) (ini k data : Nat) (byte : Bool),
      s.stopSafe = true →
      16 ≤ k ∨ (MayWrite s ini (crcAddr k (if byte = true then 0x4C else 0x48)) ∧ (s.crcMay ini k = false ∨ s.crcBusy k = true)) →
      Does (.crcFeedWrite ini k byte data) s (fun t =>
        t = s)) ∧
    (∀ (s : State) (data : Nat) (byte : Bool),
      s.stopSafe = true →
      s.judge 0x30 (crcAddr 15 (if byte = true then 0x4C else 0x48)) true = .ok →
      Does (.crcFeedWrite 0x30 15 byte data) s (fun t =>
        t = (if s.crcBusy 15 = true then s.rookWrote 0x30 (crcAddr 15 (if byte = true then 0x4C else 0x48)) else State.crcTake 15 (if byte = true then [data % 256] else leBytes 4 data) (s.rookWrote 0x30 (crcAddr 15 (if byte = true then 0x4C else 0x48)))))) ∧
    (∀ (s : State) (ini k data : Nat),
      s.stopSafe = true →
      k < 16 →
      MayWrite s ini (crcAddr k 0x20) →
      s.crcMay ini k = true →
      s.crcBusy k = false →
      Does (.crcStateRestore ini k true data) s (fun t =>
        t.crcReg k = (s.crcReg k % 2 ^ 32 + data % 2 ^ 32 * 2 ^ 32) % 2 ^ 64 ∧
        t.wide (CRC_RESULT_LO_RESULT k) (CRC_RESULT_HI_RESULT k) = (crcFinish (s.get (CRC_CTRL_W k)) (s.bit (CRC_CTRL_REFOUT k)) (s.wide (CRC_XOR_LO_XOROUT k) (CRC_XOR_HI_XOROUT k)) (s.crcReg k % 2 ^ 32 + data % 2 ^ 32 * 2 ^ 32)) % 2 ^ 64 ∧
        t.wide (CRC_BYTES_LO_BYTES k) (CRC_BYTES_HI_BYTES k) = (s.wide (CRC_BYTES_LO_BYTES k) (CRC_BYTES_HI_BYTES k) + 0) % 2 ^ 64 ∧
        RegsBut [CRC_STATE_LO_STATE k, CRC_STATE_HI_STATE k, CRC_RESULT_LO_RESULT k, CRC_RESULT_HI_RESULT k] s t ∧
        OnlyRegs s t)) ∧
    (∀ (s : State) (ini k data : Nat),
      s.stopSafe = true →
      k < 16 →
      MayWrite s ini (crcAddr k 0x1C) →
      s.crcMay ini k = true →
      s.crcBusy k = false →
      Does (.crcStateRestore ini k false data) s (fun t =>
        t.crcReg k = (s.crcReg k / 2 ^ 32 * 2 ^ 32 + data % 2 ^ 32) % 2 ^ 64 ∧
        t.wide (CRC_RESULT_LO_RESULT k) (CRC_RESULT_HI_RESULT k) = (crcFinish (s.get (CRC_CTRL_W k)) (s.bit (CRC_CTRL_REFOUT k)) (s.wide (CRC_XOR_LO_XOROUT k) (CRC_XOR_HI_XOROUT k)) (s.crcReg k / 2 ^ 32 * 2 ^ 32 + data % 2 ^ 32)) % 2 ^ 64 ∧
        t.wide (CRC_BYTES_LO_BYTES k) (CRC_BYTES_HI_BYTES k) = (s.wide (CRC_BYTES_LO_BYTES k) (CRC_BYTES_HI_BYTES k) + 0) % 2 ^ 64 ∧
        RegsBut [CRC_STATE_LO_STATE k, CRC_STATE_HI_STATE k, CRC_RESULT_LO_RESULT k, CRC_RESULT_HI_RESULT k] s t ∧
        OnlyRegs s t)) ∧
    (∀ (s : State) (ini k data : Nat) (high : Bool),
      s.stopSafe = true →
      16 ≤ k ∨ (MayWrite s ini (crcAddr k (if high = true then 0x20 else 0x1C)) ∧ (s.crcMay ini k = false ∨ s.crcBusy k = true)) →
      Does (.crcStateRestore ini k high data) s (fun t =>
        t = s)) ∧
    (∀ (s : State) (data : Nat) (high : Bool),
      s.stopSafe = true →
      s.judge 0x30 (crcAddr 15 (if high = true then 0x20 else 0x1C)) true = .ok →
      Does (.crcStateRestore 0x30 15 high data) s (fun t =>
        t = (if s.crcBusy 15 = true then s.rookWrote 0x30 (crcAddr 15 (if high = true then 0x20 else 0x1C)) else State.crcRestore 15 high data (s.rookWrote 0x30 (crcAddr 15 (if high = true then 0x20 else 0x1C)))))) ∧
    (∀ (s : State) (ini k : Nat),
      s.stopSafe = true →
      k < 16 →
      MayWrite s ini (crcAddr k 0x44) →
      s.crcMay ini k = true →
      s.crcBusy k = false →
      Does (.crcScanGo ini k) s (fun t =>
        Reads t [(CRC_STATUS_BUSY k, 1), (CRC_STATUS_CAUSE k, 0)] ∧
        RegsBut [CRC_STATUS_BUSY k, CRC_STATUS_CAUSE k] s t ∧
        OnlyRegs s t)) ∧
    (∀ (s : State) (ini k : Nat),
      s.stopSafe = true →
      16 ≤ k ∨ (MayWrite s ini (crcAddr k 0x44) ∧ (s.crcMay ini k = false ∨ s.crcBusy k = true)) →
      Does (.crcScanGo ini k) s (fun t =>
        t = s)) ∧
    (∀ (s : State),
      s.stopSafe = true →
      s.judge 0x30 (crcAddr 15 0x44) true = .ok →
      Does (.crcScanGo 0x30 15) s (fun t =>
        t = (if s.crcBusy 15 = true then s.rookWrote 0x30 (crcAddr 15 0x44) else State.crcScan 15 (s.rookWrote 0x30 (crcAddr 15 0x44))))) ∧
    (∀ (s : State) (k addr : Nat) (bs : List Nat),
      s.stopSafe = true →
      k < 16 →
      s.bit (CRC_STATUS_BUSY k) = true →
      bs.length = s.get (CRC_SCAN_LEN_LENGTH k) →
      s.scanMiss k = none →
      (s.unit.scans.find? (fun e => e.1 == k)).all (fun e => (s.session e.2.1).all (fun x => (x.inProg.find? (fun (z : EcpOpen) => z.tag == e.2.2)).isNone)) = true →
      Does (.crcScanEnd k 0 addr bs) s (fun t =>
        t.crcReg k = (crcFeed (s.get (CRC_CTRL_W k)) (s.wide (CRC_POLY_LO_POLY k) (CRC_POLY_HI_POLY k)) (s.bit (CRC_CTRL_REFIN k)) (s.crcReg k) bs) % 2 ^ 64 ∧
        t.wide (CRC_RESULT_LO_RESULT k) (CRC_RESULT_HI_RESULT k) = (crcFinish (s.get (CRC_CTRL_W k)) (s.bit (CRC_CTRL_REFOUT k)) (s.wide (CRC_XOR_LO_XOROUT k) (CRC_XOR_HI_XOROUT k)) (crcFeed (s.get (CRC_CTRL_W k)) (s.wide (CRC_POLY_LO_POLY k) (CRC_POLY_HI_POLY k)) (s.bit (CRC_CTRL_REFIN k)) (s.crcReg k) bs)) % 2 ^ 64 ∧
        t.wide (CRC_BYTES_LO_BYTES k) (CRC_BYTES_HI_BYTES k) = (s.wide (CRC_BYTES_LO_BYTES k) (CRC_BYTES_HI_BYTES k) + bs.length) % 2 ^ 64 ∧
        Reads t [(CRC_STATUS_BUSY k, 0), (CRC_STATUS_DONE k, 1)] ∧
        t.out = s.out ++ [Output.irqOwner (s.get (CRC_CTRL_OWNER k)) 337] ∧
        t.unit = { s.unit with scans := s.unit.scans.filter (fun (e : Nat × Nat × Nat) => e.1 ≠ k) } ∧
        RegsBut [CRC_STATE_LO_STATE k, CRC_STATE_HI_STATE k, CRC_RESULT_LO_RESULT k, CRC_RESULT_HI_RESULT k, CRC_BYTES_LO_BYTES k, CRC_BYTES_HI_BYTES k, CRC_STATUS_BUSY k, CRC_STATUS_DONE k] s t ∧
        t = { s with regs := t.regs, out := t.out, unit := t.unit })) ∧
    (∀ (s : State) (k addr : Nat) (bs : List Nat) (sess tag : Nat) (x : EcpSession) (y : EcpOpen),
      s.stopSafe = true →
      k < 16 →
      s.bit (CRC_STATUS_BUSY k) = true →
      bs.length = s.get (CRC_SCAN_LEN_LENGTH k) →
      s.scanMiss k = none →
      s.unit.scans.find? (fun e => e.1 == k) = some (k, sess, tag) →
      s.session sess = some x →
      x.inProg.find? (fun (z : EcpOpen) => z.tag == tag) = some y →
      x.devSeq < 0xFFFFFFFF →
      s.sessSends x = true →
      sess ≠ 8 ∨ s.ecp.spiOut.length < 16 →
      unheldOp y.op = false →
      Does (.crcScanEnd k 0 addr bs) s (fun t =>
        t.crcReg k = (crcFeed (s.get (CRC_CTRL_W k)) (s.wide (CRC_POLY_LO_POLY k) (CRC_POLY_HI_POLY k)) (s.bit (CRC_CTRL_REFIN k)) (s.crcReg k) bs) % 2 ^ 64 ∧
        t.wide (CRC_RESULT_LO_RESULT k) (CRC_RESULT_HI_RESULT k) = (crcFinish (s.get (CRC_CTRL_W k)) (s.bit (CRC_CTRL_REFOUT k)) (s.wide (CRC_XOR_LO_XOROUT k) (CRC_XOR_HI_XOROUT k)) (crcFeed (s.get (CRC_CTRL_W k)) (s.wide (CRC_POLY_LO_POLY k) (CRC_POLY_HI_POLY k)) (s.bit (CRC_CTRL_REFIN k)) (s.crcReg k) bs)) % 2 ^ 64 ∧
        t.wide (CRC_BYTES_LO_BYTES k) (CRC_BYTES_HI_BYTES k) = (s.wide (CRC_BYTES_LO_BYTES k) (CRC_BYTES_HI_BYTES k) + bs.length) % 2 ^ 64 ∧
        Reads t [(CRC_STATUS_BUSY k, 0), (CRC_STATUS_DONE k, 1)] ∧
        t.unit = { s.unit with scans := s.unit.scans.filter (fun (e : Nat × Nat × Nat) => e.1 ≠ k) } ∧
        sends s t x [Output.irqOwner (s.get (CRC_CTRL_OWNER k)) 337] [⟨y.op, tag, Ecp.OK, respFlags x, x.devSeq + 1, (leBytes 8 ((crcFinish (s.get (CRC_CTRL_W k)) (s.bit (CRC_CTRL_REFOUT k)) (s.wide (CRC_XOR_LO_XOROUT k) (CRC_XOR_HI_XOROUT k)) (crcFeed (s.get (CRC_CTRL_W k)) (s.wide (CRC_POLY_LO_POLY k) (CRC_POLY_HI_POLY k)) (s.bit (CRC_CTRL_REFIN k)) (s.crcReg k) bs)) % 2 ^ 64)), x.key⟩] = true ∧
        t.session sess = some { x with devSeq := x.devSeq + 1, inProg := x.inProg.filter (fun z => z.tag ≠ tag), held := (holdResult x ⟨tag, y.op, y.crc, Ecp.OK, (leBytes 8 ((crcFinish (s.get (CRC_CTRL_W k)) (s.bit (CRC_CTRL_REFOUT k)) (s.wide (CRC_XOR_LO_XOROUT k) (CRC_XOR_HI_XOROUT k)) (crcFeed (s.get (CRC_CTRL_W k)) (s.wide (CRC_POLY_LO_POLY k) (CRC_POLY_HI_POLY k)) (s.bit (CRC_CTRL_REFIN k)) (s.crcReg k) bs)) % 2 ^ 64)), true⟩).held } ∧
        onlySession s t sess = true ∧
        RegsBut [CRC_STATE_LO_STATE k, CRC_STATE_HI_STATE k, CRC_RESULT_LO_RESULT k, CRC_RESULT_HI_RESULT k, CRC_BYTES_LO_BYTES k, CRC_BYTES_HI_BYTES k, CRC_STATUS_BUSY k, CRC_STATUS_DONE k] s t ∧
        t = { s with regs := t.regs, out := t.out, unit := t.unit, ecp := t.ecp })) ∧
    (∀ (s : State) (k cause addr cc : Nat) (bs : List Nat) (u : State),
      s.stopSafe = true →
      k < 16 →
      s.bit (CRC_STATUS_BUSY k) = true →
      (cause = 0 ∧ bs.length = s.get (CRC_SCAN_LEN_LENGTH k) ∧ s.scanMiss k ≠ none) ∨ (1 ≤ cause ∧ cause ≤ 3) →
      cc = (if cause = 0 then 3 else cause) →
      u = (if cc = 3 then (match s.scanMiss k with | some a => s.record .unmapped (leBytes 5 a) | none => s) else if cc = 1 then (match s.dramAt addr with | some (c, _) => s.eccRead c 3 addr | none => s) else s) →
      (s.unit.scans.find? (fun e => e.1 == k)).all (fun e => (s.session e.2.1).all (fun x => (x.inProg.find? (fun (z : EcpOpen) => z.tag == e.2.2)).isNone)) = true →
      Does (.crcScanEnd k cause addr bs) s (fun t =>
        Reads t [(CRC_STATUS_BUSY k, 0), (CRC_STATUS_ERROR k, 1), (CRC_STATUS_CAUSE k, cc)] ∧
        t.out = u.out ++ [Output.irqOwner (s.get (CRC_CTRL_OWNER k)) 337] ∧
        t.crcReg k = s.crcReg k ∧
        RegsBut [CRC_RESULT_LO_RESULT k, CRC_RESULT_HI_RESULT k, CRC_STATUS_BUSY k, CRC_STATUS_ERROR k, CRC_STATUS_CAUSE k] u t ∧
        t = { u with regs := t.regs, out := t.out, freeCtr := t.freeCtr, unit := { u.unit with scans := u.unit.scans.filter (fun (e : Nat × Nat × Nat) => e.1 ≠ k) } })) ∧
    (∀ (s : State) (k cause addr cc : Nat) (bs : List Nat) (u : State) (sess tag : Nat) (x : EcpSession) (y : EcpOpen),
      s.stopSafe = true →
      k < 16 →
      s.bit (CRC_STATUS_BUSY k) = true →
      (cause = 0 ∧ bs.length = s.get (CRC_SCAN_LEN_LENGTH k) ∧ s.scanMiss k ≠ none) ∨ (1 ≤ cause ∧ cause ≤ 3) →
      cc = (if cause = 0 then 3 else cause) →
      u = (if cc = 3 then (match s.scanMiss k with | some a => s.record .unmapped (leBytes 5 a) | none => s) else if cc = 1 then (match s.dramAt addr with | some (c, _) => s.eccRead c 3 addr | none => s) else s) →
      s.unit.scans.find? (fun e => e.1 == k) = some (k, sess, tag) →
      s.session sess = some x →
      x.inProg.find? (fun (z : EcpOpen) => z.tag == tag) = some y →
      x.devSeq < 0xFFFFFFFF →
      s.sessSends x = true →
      sess ≠ 8 ∨ s.ecp.spiOut.length < 16 →
      unheldOp y.op = false →
      cc ≠ 1 →
      Does (.crcScanEnd k cause addr bs) s (fun t =>
        Reads t [(CRC_STATUS_BUSY k, 0), (CRC_STATUS_ERROR k, 1), (CRC_STATUS_CAUSE k, cc)] ∧
        sends u t x [Output.irqOwner (s.get (CRC_CTRL_OWNER k)) 337] [⟨y.op, tag, Ecp.BAD_PARAM, respFlags x, x.devSeq + 1, [], x.key⟩] = true ∧
        t.session sess = some { x with devSeq := x.devSeq + 1, inProg := x.inProg.filter (fun z => z.tag ≠ tag), held := (holdResult x ⟨tag, y.op, y.crc, Ecp.BAD_PARAM, [], true⟩).held } ∧
        onlySession u t sess = true ∧
        t.crcReg k = s.crcReg k ∧
        t.evr = u.evr ∧
        RegsBut [CRC_RESULT_LO_RESULT k, CRC_RESULT_HI_RESULT k, CRC_STATUS_BUSY k, CRC_STATUS_ERROR k, CRC_STATUS_CAUSE k] u t ∧
        t = { u with regs := t.regs, out := t.out, freeCtr := t.freeCtr, ecp := t.ecp, evr := t.evr, unit := { u.unit with scans := u.unit.scans.filter (fun (e : Nat × Nat × Nat) => e.1 ≠ k) } })) ∧
    (∀ (s : State) (k cause addr cc : Nat) (bs : List Nat) (u : State) (sess tag : Nat) (x : EcpSession) (y : EcpOpen),
      s.stopSafe = true →
      k < 16 →
      s.bit (CRC_STATUS_BUSY k) = true →
      (cause = 0 ∧ bs.length = s.get (CRC_SCAN_LEN_LENGTH k) ∧ s.scanMiss k ≠ none) ∨ (1 ≤ cause ∧ cause ≤ 3) →
      cc = (if cause = 0 then 3 else cause) →
      u = (if cc = 3 then (match s.scanMiss k with | some a => s.record .unmapped (leBytes 5 a) | none => s) else if cc = 1 then (match s.dramAt addr with | some (c, _) => s.eccRead c 3 addr | none => s) else s) →
      s.unit.scans.find? (fun e => e.1 == k) = some (k, sess, tag) →
      s.session sess = some x →
      x.inProg.find? (fun (z : EcpOpen) => z.tag == tag) = some y →
      x.devSeq < 0xFFFFFFFF →
      s.sessSends x = true →
      sess ≠ 8 ∨ s.ecp.spiOut.length < 16 →
      unheldOp y.op = false →
      cc = 1 →
      Does (.crcScanEnd k cause addr bs) s (fun t =>
        Reads t [(CRC_STATUS_BUSY k, 0), (CRC_STATUS_ERROR k, 1), (CRC_STATUS_CAUSE k, cc)] ∧
        sends u t x [Output.irqOwner (s.get (CRC_CTRL_OWNER k)) 337] [⟨y.op, tag, Ecp.INTERNAL_ERROR, respFlags x, x.devSeq + 1, [], x.key⟩] = true ∧
        t.session sess = some { x with devSeq := x.devSeq + 1, inProg := x.inProg.filter (fun z => z.tag ≠ tag), held := (holdResult x ⟨tag, y.op, y.crc, Ecp.INTERNAL_ERROR, [], true⟩).held } ∧
        onlySession u t sess = true ∧
        t.crcReg k = s.crcReg k ∧
        t.evr = (u.record .internalError (leBytes 2 y.op ++ leBytes 2 tag)).evr ∧
        t.get REC_CNT_QUEUE_DROP = (u.record .internalError (leBytes 2 y.op ++ leBytes 2 tag)).get REC_CNT_QUEUE_DROP ∧
        RegsBut [CRC_RESULT_LO_RESULT k, CRC_RESULT_HI_RESULT k, CRC_STATUS_BUSY k, CRC_STATUS_ERROR k, CRC_STATUS_CAUSE k, REC_CNT_QUEUE_DROP] u t ∧
        t = { u with regs := t.regs, out := t.out, freeCtr := t.freeCtr, ecp := t.ecp, evr := t.evr, unit := { u.unit with scans := u.unit.scans.filter (fun (e : Nat × Nat × Nat) => e.1 ≠ k) } })) ∧
    (∀ (s : State) (k cause addr : Nat) (bs : List Nat),
      s.stopSafe = true →
      16 ≤ k ∨ s.bit (CRC_STATUS_BUSY k) = false ∨ 4 ≤ cause ∨ (cause = 0 ∧ bs.length ≠ s.get (CRC_SCAN_LEN_LENGTH k)) →
      Does (.crcScanEnd k cause addr bs) s (fun t =>
        t = s)) ∧
    (∀ (s : State) (k : Nat) (bs : List Nat),
      s.stopSafe = true →
      k < 16 →
      s.get (CRC_CTRL_SNOOP_SRC k) ≠ 0 →
      s.bit (CRC_CTRL_PER_FRAME k) = false →
      Does (.crcSnoopFrame k bs) s (fun t =>
        t.crcReg k = (crcFeed (s.get (CRC_CTRL_W k)) (s.wide (CRC_POLY_LO_POLY k) (CRC_POLY_HI_POLY k)) (s.bit (CRC_CTRL_REFIN k)) (s.crcReg k) bs) % 2 ^ 64 ∧
        t.wide (CRC_RESULT_LO_RESULT k) (CRC_RESULT_HI_RESULT k) = (crcFinish (s.get (CRC_CTRL_W k)) (s.bit (CRC_CTRL_REFOUT k)) (s.wide (CRC_XOR_LO_XOROUT k) (CRC_XOR_HI_XOROUT k)) (crcFeed (s.get (CRC_CTRL_W k)) (s.wide (CRC_POLY_LO_POLY k) (CRC_POLY_HI_POLY k)) (s.bit (CRC_CTRL_REFIN k)) (s.crcReg k) bs)) % 2 ^ 64 ∧
        t.wide (CRC_BYTES_LO_BYTES k) (CRC_BYTES_HI_BYTES k) = (s.wide (CRC_BYTES_LO_BYTES k) (CRC_BYTES_HI_BYTES k) + bs.length) % 2 ^ 64 ∧
        RegsBut [CRC_STATE_LO_STATE k, CRC_STATE_HI_STATE k, CRC_RESULT_LO_RESULT k, CRC_RESULT_HI_RESULT k, CRC_BYTES_LO_BYTES k, CRC_BYTES_HI_BYTES k] s t ∧
        OnlyRegs s t)) ∧
    (∀ (s : State) (k : Nat) (bs : List Nat),
      s.stopSafe = true →
      k < 16 →
      s.get (CRC_CTRL_SNOOP_SRC k) ≠ 0 →
      s.bit (CRC_CTRL_PER_FRAME k) = true →
      Does (.crcSnoopFrame k bs) s (fun t =>
        t.crcReg k = s.crcInit k % 2 ^ 64 ∧
        t.wide (CRC_RESULT_LO_RESULT k) (CRC_RESULT_HI_RESULT k) = (crcFinish (s.get (CRC_CTRL_W k)) (s.bit (CRC_CTRL_REFOUT k)) (s.wide (CRC_XOR_LO_XOROUT k) (CRC_XOR_HI_XOROUT k)) (crcFeed (s.get (CRC_CTRL_W k)) (s.wide (CRC_POLY_LO_POLY k) (CRC_POLY_HI_POLY k)) (s.bit (CRC_CTRL_REFIN k)) (s.crcReg k) bs)) % 2 ^ 64 ∧
        t.wide (CRC_BYTES_LO_BYTES k) (CRC_BYTES_HI_BYTES k) = (s.wide (CRC_BYTES_LO_BYTES k) (CRC_BYTES_HI_BYTES k) + bs.length) % 2 ^ 64 ∧
        Reads t [(CRC_STATUS_FRAMES k, (s.get (CRC_STATUS_FRAMES k) + 1) % 2 ^ (CRC_STATUS_FRAMES k).w)] ∧
        RegsBut [CRC_STATE_LO_STATE k, CRC_STATE_HI_STATE k, CRC_RESULT_LO_RESULT k, CRC_RESULT_HI_RESULT k, CRC_BYTES_LO_BYTES k, CRC_BYTES_HI_BYTES k, CRC_STATUS_FRAMES k] s t ∧
        OnlyRegs s t)) ∧
    (∀ (s : State) (k : Nat) (bs : List Nat),
      s.stopSafe = true →
      16 ≤ k ∨ s.get (CRC_CTRL_SNOOP_SRC k) = 0 →
      Does (.crcSnoopFrame k bs) s (fun t =>
        t = s)) ∧
    (∀ (s : State) (sess tag : Nat) (k : Nat),
      s.stopSafe = true →
      s.accepts 0x0B00 sess tag false = true →
      k < 12 →
      s.get (CRC_CTRL_OWNER k) = 0 →
      Does (.crcTake sess tag ([k, 0, 0, 0])) s (fun t =>
        answers s t [] 0x0B00 sess tag Ecp.OK (crc32c [k, 0, 0, 0]) [] = true ∧
        Reads t [(CRC_CTRL_OWNER k, sessIni sess)] ∧
        RegsBut [CRC_CTRL_OWNER k] s t ∧
        t = { s with regs := t.regs, ecp := t.ecp, out := t.out })) ∧
    (∀ (s : State) (sess tag : Nat) (k : Nat),
      s.stopSafe = true →
      s.accepts 0x0B00 sess tag false = true →
      12 ≤ k ∨ s.get (CRC_CTRL_OWNER k) ≠ 0 →
      k < 256 →
      Does (.crcTake sess tag ([k, 0, 0, 0])) s (fun t =>
        answers s t [] 0x0B00 sess tag Ecp.DENIED (crc32c [k, 0, 0, 0]) [] = true ∧
        RegsBut [] s t ∧
        t = { s with regs := t.regs, ecp := t.ecp, out := t.out })) ∧
    (∀ (s : State) (sess tag : Nat) (k p q : Nat),
      s.stopSafe = true →
      s.accepts 0x0B00 sess tag false = true →
      p + q ≠ 0 →
      p < 256 →
      q < 65536 →
      Does (.crcTake sess tag (([k, p] ++ leBytes 2 q))) s (fun t =>
        answers s t [] 0x0B00 sess tag Ecp.BAD_PARAM (crc32c ([k, p] ++ leBytes 2 q)) [] = true ∧
        RegsBut [] s t ∧
        t = { s with regs := t.regs, ecp := t.ecp, out := t.out })) ∧
    (∀ (s : State) (sess tag : Nat) (k w fl src po ini xo : Nat),
      s.stopSafe = true →
      s.accepts 0x0B01 sess tag false = true →
      k < 12 →
      s.crcMay (sessIni sess) k = true →
      1 ≤ w ∧ w ≤ 64 →
      fl < 8 →
      src ≤ 32 →
      po < 2 ^ 64 →
      ini < 2 ^ 64 →
      xo < 2 ^ 64 →
      s.bit (CRC_STATUS_BUSY k) = false →
      s.get (CRC_CTRL_SNOOP_SRC k) = 0 ∨ src = 0 →
      Does (.crcConfig sess tag (([k, w, fl, src] ++ leBytes 8 po ++ leBytes 8 ini ++ leBytes 8 xo))) s (fun t =>
        answers s t [] 0x0B01 sess tag Ecp.OK (crc32c ([k, w, fl, src] ++ leBytes 8 po ++ leBytes 8 ini ++ leBytes 8 xo)) [] = true ∧
        Reads t [(CRC_CTRL_W k, w), (CRC_CTRL_REFIN k, fl % 2), (CRC_CTRL_REFOUT k, fl / 2 % 2), (CRC_CTRL_PER_FRAME k, fl / 4 % 2), (CRC_CTRL_SNOOP_SRC k, src), (CRC_BYTES_LO_BYTES k, 0), (CRC_BYTES_HI_BYTES k, 0), (CRC_STATUS_DONE k, 0), (CRC_STATUS_ERROR k, 0)] ∧
        (t.wide (CRC_POLY_LO_POLY k) (CRC_POLY_HI_POLY k), t.wide (CRC_INIT_LO_INIT k) (CRC_INIT_HI_INIT k), t.wide (CRC_XOR_LO_XOROUT k) (CRC_XOR_HI_XOROUT k)) = (po, ini, xo) ∧
        t.crcReg k = ini % 2 ^ w ∧
        t.wide (CRC_RESULT_LO_RESULT k) (CRC_RESULT_HI_RESULT k) = crcFinish w (fl / 2 % 2 == 1) xo (ini % 2 ^ w) % 2 ^ 64 ∧
        RegsBut [CRC_CTRL_W k, CRC_CTRL_REFIN k, CRC_CTRL_REFOUT k, CRC_CTRL_PER_FRAME k, CRC_CTRL_SNOOP_SRC k, CRC_POLY_LO_POLY k, CRC_POLY_HI_POLY k, CRC_INIT_LO_INIT k, CRC_INIT_HI_INIT k, CRC_XOR_LO_XOROUT k, CRC_XOR_HI_XOROUT k, CRC_STATUS_DONE k, CRC_STATUS_ERROR k, CRC_STATE_LO_STATE k, CRC_STATE_HI_STATE k, CRC_RESULT_LO_RESULT k, CRC_RESULT_HI_RESULT k, CRC_BYTES_LO_BYTES k, CRC_BYTES_HI_BYTES k] s t ∧
        t = { s with regs := t.regs, ecp := t.ecp, out := t.out })) ∧
    (∀ (s : State) (sess tag : Nat) (k w fl src po ini xo : Nat),
      s.stopSafe = true →
      s.accepts 0x0B01 sess tag false = true →
      k < 12 →
      s.crcMay (sessIni sess) k = true →
      w = 0 ∨ 64 < w ∨ 8 ≤ fl ∨ 32 < src →
      w < 256 →
      fl < 256 →
      src < 256 →
      Does (.crcConfig sess tag (([k, w, fl, src] ++ leBytes 8 po ++ leBytes 8 ini ++ leBytes 8 xo))) s (fun t =>
        answers s t [] 0x0B01 sess tag Ecp.BAD_PARAM (crc32c ([k, w, fl, src] ++ leBytes 8 po ++ leBytes 8 ini ++ leBytes 8 xo)) [] = true ∧
        RegsBut [] s t ∧
        t = { s with regs := t.regs, ecp := t.ecp, out := t.out })) ∧
    (∀ (s : State) (sess tag : Nat) (k w fl src po ini xo : Nat),
      s.stopSafe = true →
      s.accepts 0x0B01 sess tag false = true →
      k < 12 →
      s.crcMay (sessIni sess) k = true →
      1 ≤ w ∧ w ≤ 64 →
      fl < 8 →
      src ≤ 32 →
      s.bit (CRC_STATUS_BUSY k) = true ∨ (s.get (CRC_CTRL_SNOOP_SRC k) ≠ 0 ∧ src ≠ 0) →
      Does (.crcConfig sess tag (([k, w, fl, src] ++ leBytes 8 po ++ leBytes 8 ini ++ leBytes 8 xo))) s (fun t =>
        answers s t [] 0x0B01 sess tag Ecp.DENIED (crc32c ([k, w, fl, src] ++ leBytes 8 po ++ leBytes 8 ini ++ leBytes 8 xo)) [] = true ∧
        RegsBut [] s t ∧
        t = { s with regs := t.regs, ecp := t.ecp, out := t.out })) ∧
    (∀ (s : State) (sess tag : Nat) (k w fl src po ini xo : Nat),
      s.stopSafe = true →
      s.accepts 0x0B01 sess tag false = true →
      k < 256 →
      12 ≤ k ∨ s.crcMay (sessIni sess) k = false →
      Does (.crcConfig sess tag (([k, w, fl, src] ++ leBytes 8 po ++ leBytes 8 ini ++ leBytes 8 xo))) s (fun t =>
        answers s t [] 0x0B01 sess tag Ecp.DENIED (crc32c ([k, w, fl, src] ++ leBytes 8 po ++ leBytes 8 ini ++ leBytes 8 xo)) [] = true ∧
        RegsBut [] s t ∧
        t = { s with regs := t.regs, ecp := t.ecp, out := t.out })) ∧
    (∀ (s : State) (sess tag : Nat) (k : Nat) (bs : List Nat),
      s.stopSafe = true →
      s.accepts 0x0B02 sess tag false = true →
      k < 12 →
      s.crcMay (sessIni sess) k = true →
      1 ≤ bs.length ∧ bs.length ≤ 1400 →
      s.crcBusy k = false →
      Does (.crcFeed sess tag (([k, 0] ++ leBytes 2 bs.length ++ bs))) s (fun t =>
        answers s t [] 0x0B02 sess tag Ecp.OK (crc32c ([k, 0] ++ leBytes 2 bs.length ++ bs)) [] = true ∧
        t.crcReg k = (crcFeed (s.get (CRC_CTRL_W k)) (s.wide (CRC_POLY_LO_POLY k) (CRC_POLY_HI_POLY k)) (s.bit (CRC_CTRL_REFIN k)) (s.crcReg k) bs) % 2 ^ 64 ∧
        t.wide (CRC_RESULT_LO_RESULT k) (CRC_RESULT_HI_RESULT k) = (crcFinish (s.get (CRC_CTRL_W k)) (s.bit (CRC_CTRL_REFOUT k)) (s.wide (CRC_XOR_LO_XOROUT k) (CRC_XOR_HI_XOROUT k)) (crcFeed (s.get (CRC_CTRL_W k)) (s.wide (CRC_POLY_LO_POLY k) (CRC_POLY_HI_POLY k)) (s.bit (CRC_CTRL_REFIN k)) (s.crcReg k) bs)) % 2 ^ 64 ∧
        t.wide (CRC_BYTES_LO_BYTES k) (CRC_BYTES_HI_BYTES k) = (s.wide (CRC_BYTES_LO_BYTES k) (CRC_BYTES_HI_BYTES k) + bs.length) % 2 ^ 64 ∧
        RegsBut [CRC_STATE_LO_STATE k, CRC_STATE_HI_STATE k, CRC_RESULT_LO_RESULT k, CRC_RESULT_HI_RESULT k, CRC_BYTES_LO_BYTES k, CRC_BYTES_HI_BYTES k] s t ∧
        t = { s with regs := t.regs, ecp := t.ecp, out := t.out })) ∧
    (∀ (s : State) (sess tag : Nat) (k : Nat) (bs : List Nat),
      s.stopSafe = true →
      s.accepts 0x0B02 sess tag false = true →
      k < 12 →
      s.crcMay (sessIni sess) k = true →
      bs.length = 0 ∨ 1400 < bs.length →
      bs.length < 65536 →
      Does (.crcFeed sess tag (([k, 0] ++ leBytes 2 bs.length ++ bs))) s (fun t =>
        answers s t [] 0x0B02 sess tag Ecp.BAD_PARAM (crc32c ([k, 0] ++ leBytes 2 bs.length ++ bs)) [] = true ∧
        RegsBut [] s t ∧
        t = { s with regs := t.regs, ecp := t.ecp, out := t.out })) ∧
    (∀ (s : State) (sess tag : Nat) (k : Nat) (bs : List Nat),
      s.stopSafe = true →
      s.accepts 0x0B02 sess tag false = true →
      k < 12 →
      s.crcMay (sessIni sess) k = true →
      1 ≤ bs.length ∧ bs.length ≤ 1400 →
      s.crcBusy k = true →
      Does (.crcFeed sess tag (([k, 0] ++ leBytes 2 bs.length ++ bs))) s (fun t =>
        answers s t [] 0x0B02 sess tag Ecp.DENIED (crc32c ([k, 0] ++ leBytes 2 bs.length ++ bs)) [] = true ∧
        RegsBut [] s t ∧
        t = { s with regs := t.regs, ecp := t.ecp, out := t.out })) ∧
    (∀ (s : State) (sess tag : Nat) (k : Nat) (bs : List Nat),
      s.stopSafe = true →
      s.accepts 0x0B02 sess tag false = true →
      k < 256 →
      12 ≤ k ∨ s.crcMay (sessIni sess) k = false →
      bs.length < 65536 →
      Does (.crcFeed sess tag (([k, 0] ++ leBytes 2 bs.length ++ bs))) s (fun t =>
        answers s t [] 0x0B02 sess tag Ecp.DENIED (crc32c ([k, 0] ++ leBytes 2 bs.length ++ bs)) [] = true ∧
        RegsBut [] s t ∧
        t = { s with regs := t.regs, ecp := t.ecp, out := t.out })) ∧
    (∀ (s : State) (sess tag : Nat) (k p : Nat) (bs : List Nat),
      s.stopSafe = true →
      s.accepts 0x0B02 sess tag false = true →
      0 < p →
      p < 256 →
      bs.length < 65536 →
      Does (.crcFeed sess tag (([k, p] ++ leBytes 2 bs.length ++ bs))) s (fun t =>
        answers s t [] 0x0B02 sess tag Ecp.BAD_PARAM (crc32c ([k, p] ++ leBytes 2 bs.length ++ bs)) [] = true ∧
        RegsBut [] s t ∧
        t = { s with regs := t.regs, ecp := t.ecp, out := t.out })) ∧
    (∀ (s : State) (sess tag : Nat) (k a n : Nat),
      s.stopSafe = true →
      s.accepts 0x0B03 sess tag false = true →
      k < 12 →
      s.crcMay (sessIni sess) k = true →
      1 ≤ n ∧ n < 2 ^ 32 →
      a < 2 ^ 40 →
      s.crcBusy k = false →
      Does (.crcScan sess tag (([k, 0, 0, 0] ++ leBytes 8 a ++ leBytes 4 n))) s (fun t =>
        opens s t [] 0x0B03 sess tag (crc32c ([k, 0, 0, 0] ++ leBytes 8 a ++ leBytes 4 n)) (some (t.progressBytes sess tag)) = true ∧
        Reads t [(CRC_STATUS_BUSY k, 1), (CRC_STATUS_CAUSE k, 0), (CRC_SCAN_START_LO_START k, a % 2 ^ 32), (CRC_SCAN_START_HI_START k, a / 2 ^ 32), (CRC_SCAN_LEN_LENGTH k, n)] ∧
        t.unit = { s.unit with scans := s.unit.scans ++ [(k, sess, tag)] } ∧
        RegsBut [CRC_STATUS_BUSY k, CRC_STATUS_CAUSE k, CRC_SCAN_START_LO_START k, CRC_SCAN_START_HI_START k, CRC_SCAN_LEN_LENGTH k] s t ∧
        t = { s with regs := t.regs, unit := t.unit, ecp := t.ecp, out := t.out })) ∧
    (∀ (s : State) (sess tag : Nat) (k a n : Nat),
      s.stopSafe = true →
      s.accepts 0x0B03 sess tag false = true →
      k < 12 →
      s.crcMay (sessIni sess) k = true →
      n = 0 ∨ 2 ^ 40 ≤ a →
      n < 2 ^ 32 →
      a < 2 ^ 64 →
      Does (.crcScan sess tag (([k, 0, 0, 0] ++ leBytes 8 a ++ leBytes 4 n))) s (fun t =>
        answers s t [] 0x0B03 sess tag Ecp.BAD_PARAM (crc32c ([k, 0, 0, 0] ++ leBytes 8 a ++ leBytes 4 n)) [] = true ∧
        RegsBut [] s t ∧
        t = { s with regs := t.regs, ecp := t.ecp, out := t.out })) ∧
    (∀ (s : State) (sess tag : Nat) (k a n : Nat),
      s.stopSafe = true →
      s.accepts 0x0B03 sess tag false = true →
      k < 12 →
      s.crcMay (sessIni sess) k = true →
      1 ≤ n ∧ n < 2 ^ 32 →
      a < 2 ^ 40 →
      s.crcBusy k = true →
      Does (.crcScan sess tag (([k, 0, 0, 0] ++ leBytes 8 a ++ leBytes 4 n))) s (fun t =>
        answers s t [] 0x0B03 sess tag Ecp.DENIED (crc32c ([k, 0, 0, 0] ++ leBytes 8 a ++ leBytes 4 n)) [] = true ∧
        RegsBut [] s t ∧
        t = { s with regs := t.regs, ecp := t.ecp, out := t.out })) ∧
    (∀ (s : State) (sess tag : Nat) (k a n : Nat),
      s.stopSafe = true →
      s.accepts 0x0B03 sess tag false = true →
      k < 256 →
      12 ≤ k ∨ s.crcMay (sessIni sess) k = false →
      Does (.crcScan sess tag (([k, 0, 0, 0] ++ leBytes 8 a ++ leBytes 4 n))) s (fun t =>
        answers s t [] 0x0B03 sess tag Ecp.DENIED (crc32c ([k, 0, 0, 0] ++ leBytes 8 a ++ leBytes 4 n)) [] = true ∧
        RegsBut [] s t ∧
        t = { s with regs := t.regs, ecp := t.ecp, out := t.out })) ∧
    (∀ (s : State) (sess tag : Nat) (k p q a n : Nat),
      s.stopSafe = true →
      s.accepts 0x0B03 sess tag false = true →
      p + q ≠ 0 →
      p < 256 →
      q < 65536 →
      Does (.crcScan sess tag (([k, p] ++ leBytes 2 q ++ leBytes 8 a ++ leBytes 4 n))) s (fun t =>
        answers s t [] 0x0B03 sess tag Ecp.BAD_PARAM (crc32c ([k, p] ++ leBytes 2 q ++ leBytes 8 a ++ leBytes 4 n)) [] = true ∧
        RegsBut [] s t ∧
        t = { s with regs := t.regs, ecp := t.ecp, out := t.out })) ∧
    (∀ (s : State) (sess tag : Nat) (k : Nat),
      s.stopSafe = true →
      s.accepts 0x0B04 sess tag false = true →
      k < 12 →
      s.crcMay (sessIni sess) k = true →
      Does (.crcGet sess tag ([k, 0, 0, 0])) s (fun t =>
        answers s t [] 0x0B04 sess tag Ecp.OK (crc32c [k, 0, 0, 0]) (leBytes 8 (s.wide (CRC_RESULT_LO_RESULT k) (CRC_RESULT_HI_RESULT k)) ++ leBytes 8 (s.crcReg k) ++ leBytes 8 (s.wide (CRC_BYTES_LO_BYTES k) (CRC_BYTES_HI_BYTES k)) ++ leBytes 4 (s.get (CRC_STATUS_FRAMES k)) ++ leBytes 4 (s.crcStatus k)) = true ∧
        RegsBut [] s t ∧
        t = { s with regs := t.regs, ecp := t.ecp, out := t.out })) ∧
    (∀ (s : State) (sess tag : Nat) (k : Nat),
      s.stopSafe = true →
      s.accepts 0x0B04 sess tag false = true →
      k < 256 →
      12 ≤ k ∨ s.crcMay (sessIni sess) k = false →
      Does (.crcGet sess tag ([k, 0, 0, 0])) s (fun t =>
        answers s t [] 0x0B04 sess tag Ecp.DENIED (crc32c [k, 0, 0, 0]) [] = true ∧
        RegsBut [] s t ∧
        t = { s with regs := t.regs, ecp := t.ecp, out := t.out })) ∧
    (∀ (s : State) (sess tag : Nat) (k p q : Nat),
      s.stopSafe = true →
      s.accepts 0x0B04 sess tag false = true →
      p + q ≠ 0 →
      p < 256 →
      q < 65536 →
      Does (.crcGet sess tag (([k, p] ++ leBytes 2 q))) s (fun t =>
        answers s t [] 0x0B04 sess tag Ecp.BAD_PARAM (crc32c ([k, p] ++ leBytes 2 q)) [] = true ∧
        RegsBut [] s t ∧
        t = { s with regs := t.regs, ecp := t.ecp, out := t.out })) ∧
    (∀ (s : State) (sess tag : Nat) (k : Nat),
      s.stopSafe = true →
      s.accepts 0x0B05 sess tag false = true →
      k < 12 →
      s.crcMay (sessIni sess) k = true →
      Does (.crcRelease sess tag ([k, 0, 0, 0])) s (fun t =>
        answers s t [] 0x0B05 sess tag Ecp.OK (crc32c [k, 0, 0, 0]) [] = true ∧
        Reads t [(CRC_CTRL_OWNER k, 0), (CRC_CTRL_SNOOP_SRC k, 0)] ∧
        RegsBut [CRC_CTRL_OWNER k, CRC_CTRL_SNOOP_SRC k] s t ∧
        t = { s with regs := t.regs, ecp := t.ecp, out := t.out })) ∧
    (∀ (s : State) (sess tag : Nat) (k : Nat),
      s.stopSafe = true →
      s.accepts 0x0B05 sess tag false = true →
      k < 256 →
      12 ≤ k ∨ s.crcMay (sessIni sess) k = false →
      Does (.crcRelease sess tag ([k, 0, 0, 0])) s (fun t =>
        answers s t [] 0x0B05 sess tag Ecp.DENIED (crc32c [k, 0, 0, 0]) [] = true ∧
        RegsBut [] s t ∧
        t = { s with regs := t.regs, ecp := t.ecp, out := t.out })) ∧
    (∀ (s : State) (sess tag : Nat) (k p q : Nat),
      s.stopSafe = true →
      s.accepts 0x0B05 sess tag false = true →
      p + q ≠ 0 →
      p < 256 →
      q < 65536 →
      Does (.crcRelease sess tag (([k, p] ++ leBytes 2 q))) s (fun t =>
        answers s t [] 0x0B05 sess tag Ecp.BAD_PARAM (crc32c ([k, p] ++ leBytes 2 q)) [] = true ∧
        RegsBut [] s t ∧
        t = { s with regs := t.regs, ecp := t.ecp, out := t.out })) ∧
    (crc32c [0x31, 0x32, 0x33, 0x34, 0x35, 0x36, 0x37, 0x38, 0x39] = 0xE3069283 ∧ crc24q [0x31, 0x32, 0x33, 0x34, 0x35, 0x36, 0x37, 0x38, 0x39] = 0xCDE703 ∧
    crc16 [0x31, 0x32, 0x33, 0x34, 0x35, 0x36, 0x37, 0x38, 0x39] = 0x29B1 ∧ crc8 [0x31, 0x32, 0x33, 0x34, 0x35, 0x36, 0x37, 0x38, 0x39] = 0xF4)

/-- A channel with devices ends training ready, or failed with a record. An address that a scrub reads is that of its
burst and word by the map of R618, which leads back to its channel and offset. A scrub moves to the next burst, starts
the period of a sweep with the first, and counts and locates a corrected error, or an uncorrectable one with interrupt
and record; the end of a sweep, once every burst is read, counts and starts the next; a sweep unfinished after HOURS
is marked and recorded, once. A wait that goes on to STARVE_LIMIT adds to WAIT and LONGEST, and marks the requester
and interrupts the cores where it had not reached the limit. While the ADC runs every conversion shows in CODE, VALUE,
MAX and MIN; N samples beyond a threshold set its state and flag, interrupt and record; N samples back end it with a
record. An MDIO GO puts its transaction on the bus unless one or a cable diagnosis runs or its clause-22 OP is
reserved, and its completion brings RDATA of a read. A cable run starts with the link down, or is refused; its end
stores the results with a record; a link down for 10 s starts one, at most once per hour. A link change sets LINK,
SPEED, the corrections and, on ETH_5, the pair status (State.pairSlow), and stream messages that waited for a link
that comes up go (State.drainAll). Where its conditions do not hold each of these commands changes nothing. (Rests on:
R305, R195, R543, R618, R619, R621, R624, R629, R630, R653, R654, R655.) -/
def Obligations.MemoryArbitersSensorsAndLinks : Prop :=
    (∀ (s : State) (c : Nat),
      s.stopSafe = true →
      c < 2 →
      s.domOff 3 = false →
      s.get (DDR_CFG_RANKS c) ≠ 0 →
      s.get (DDR_CFG_STATE c) < 2 →
      Does (.dramTrainingComplete c true) s (fun t =>
        Reads t [(DDR_CFG_STATE c, 2)] ∧
        RegsBut [DDR_CFG_STATE c] s t ∧
        OnlyRegs s t)) ∧
    (∀ (s : State) (c : Nat),
      s.stopSafe = true →
      c < 2 →
      s.domOff 3 = false →
      s.get (DDR_CFG_RANKS c) ≠ 0 →
      s.get (DDR_CFG_STATE c) < 2 →
      Does (.dramTrainingComplete c false) s (fun t =>
        Reads t [(DDR_CFG_STATE c, 3)] ∧
        RegsBut [DDR_CFG_STATE c] ((s.record .dramFail [c])) t ∧
        t = { (s.record .dramFail [c]) with regs := t.regs })) ∧
    (∀ (s : State) (c : Nat) (ok : Bool),
      s.stopSafe = true →
      2 ≤ c ∨ s.domOff 3 = true ∨ s.get (DDR_CFG_RANKS c) = 0 ∨ 2 ≤ s.get (DDR_CFG_STATE c) →
      Does (.dramTrainingComplete c ok) s (fun t =>
        t = s)) ∧
    (∀ (s : State) (c err word n a : Nat),
      s.stopSafe = true →
      s.scrubs c = true →
      n = s.get (SCRUB_POS_BURST c) →
      n < s.bursts c →
      a = s.dramAddr c (n * 64 + word % 8 * 8) →
      err = 0 →
      Does (.scrubRead c err word) s (fun t =>
        Reads t [(SCRUB_POS_BURST c, (n + 1) % 2 ^ (SCRUB_POS_BURST c).w)] ∧
        t.unit = (if n = 0 ∧ s.unit.sweeps.any (fun e => e.1 == c) = false then { s.unit with sweeps := s.unit.sweeps.filter (fun (e : Nat × Nat) => e.1 ≠ c) ++ [(c, s.ply)] } else s.unit) ∧
        RegsBut [SCRUB_POS_BURST c] s t ∧
        t = { s with regs := t.regs, unit := t.unit })) ∧
    (∀ (s : State) (c err word n a : Nat),
      s.stopSafe = true →
      s.scrubs c = true →
      n = s.get (SCRUB_POS_BURST c) →
      n < s.bursts c →
      a = s.dramAddr c (n * 64 + word % 8 * 8) →
      1 ≤ err ∧ err ≤ 2 →
      Does (.scrubRead c err word) s (fun t =>
        Reads t [(SCRUB_POS_BURST c, (n + 1) % 2 ^ (SCRUB_POS_BURST c).w), (ECC_CNT_CE c, s.adv (ECC_CNT_CE c)), (ECC_CE_ADDR_LO_ADDR c, a % 2 ^ 32), (ECC_CE_ADDR_HI_ADDR c, a / 2 ^ 32)] ∧
        t.unit = (if n = 0 ∧ s.unit.sweeps.any (fun e => e.1 == c) = false then { s.unit with sweeps := s.unit.sweeps.filter (fun (e : Nat × Nat) => e.1 ≠ c) ++ [(c, s.ply)] } else s.unit) ∧
        RegsBut [SCRUB_POS_BURST c, ECC_CNT_CE c, ECC_CE_ADDR_LO_ADDR c, ECC_CE_ADDR_HI_ADDR c] s t ∧
        t = { s with regs := t.regs, unit := t.unit })) ∧
    (∀ (s : State) (c err word n a : Nat),
      s.stopSafe = true →
      s.scrubs c = true →
      n = s.get (SCRUB_POS_BURST c) →
      n < s.bursts c →
      a = s.dramAddr c (n * 64 + word % 8 * 8) →
      3 ≤ err →
      Does (.scrubRead c err word) s (fun t =>
        Reads t [(SCRUB_POS_BURST c, (n + 1) % 2 ^ (SCRUB_POS_BURST c).w), (ECC_CNT_UE c, s.adv (ECC_CNT_UE c)), (ECC_UE_ADDR_LO_ADDR c, a % 2 ^ 32), (ECC_UE_ADDR_HI_ADDR c, a / 2 ^ 32), (ECC_STATUS_UE c, 1)] ∧
        t.out = s.out ++ [Output.irqApps 310] ∧
        t.unit = (if n = 0 ∧ s.unit.sweeps.any (fun e => e.1 == c) = false then { s.unit with sweeps := s.unit.sweeps.filter (fun (e : Nat × Nat) => e.1 ≠ c) ++ [(c, s.ply)] } else s.unit) ∧
        RegsBut [SCRUB_POS_BURST c, ECC_CNT_UE c, ECC_UE_ADDR_LO_ADDR c, ECC_UE_ADDR_HI_ADDR c, ECC_STATUS_UE c] ((s.record .eccUe ([c] ++ leBytes 5 a))) t ∧
        t = { (s.record .eccUe ([c] ++ leBytes 5 a)) with regs := t.regs, out := t.out, unit := t.unit })) ∧
    (∀ (s : State) (c err word : Nat),
      s.stopSafe = true →
      s.scrubs c = false ∨ s.bursts c ≤ s.get (SCRUB_POS_BURST c) →
      Does (.scrubRead c err word) s (fun t =>
        t = s)) ∧
    (∀ (s : State) (c : Nat),
      s.stopSafe = true →
      s.scrubs c = true →
      s.bursts c ≤ s.get (SCRUB_POS_BURST c) →
      Does (.scrubSweepEnd c) s (fun t =>
        Reads t [(ECC_STATUS_SWEEPS c, s.adv (ECC_STATUS_SWEEPS c)), (SCRUB_POS_BURST c, 0)] ∧
        t.unit = { s.unit with sweeps := s.unit.sweeps.filter (fun (e : Nat × Nat) => e.1 ≠ c) ++ [(c, s.ply)] } ∧
        RegsBut [ECC_STATUS_SWEEPS c, SCRUB_POS_BURST c] s t ∧
        t = { s with regs := t.regs, unit := t.unit })) ∧
    (∀ (s : State) (c : Nat),
      s.stopSafe = true →
      s.scrubs c = false ∨ s.get (SCRUB_POS_BURST c) < s.bursts c →
      Does (.scrubSweepEnd c) s (fun t =>
        t = s)) ∧
    (∀ (s : State) (c p : Nat),
      s.stopSafe = true →
      s.unit.sweeps.find? (fun e => e.1 == c) = some (c, p) →
      s.scrubs c = true →
      s.get (SCRUB_POS_BURST c) < s.bursts c →
      p + s.get (SCRUB_CFG_HOURS c) * 360000000 ≤ s.ply →
      Does (.scrubLate c) s (fun t =>
        Reads t [(ECC_STATUS_SCRUB_LATE c, 1)] ∧
        t.unit = { s.unit with sweeps := s.unit.sweeps.filter (fun (e : Nat × Nat) => e.1 ≠ c) } ∧
        RegsBut [ECC_STATUS_SCRUB_LATE c] ((s.record .scrubLate [c])) t ∧
        t = { (s.record .scrubLate [c]) with regs := t.regs, unit := t.unit })) ∧
    (∀ (s : State) (c : Nat),
      s.stopSafe = true →
      (s.unit.sweeps.find? (fun e => e.1 == c)).all (fun e => decide (s.scrubs c = false ∨ s.bursts c ≤ s.get (SCRUB_POS_BURST c) ∨ s.ply < e.2 + s.get (SCRUB_CFG_HOURS c) * 360000000)) = true →
      Does (.scrubLate c) s (fun t =>
        t = s)) ∧
    (∀ (s : State) (c i n was : Nat),
      s.stopSafe = true →
      c < 2 →
      i < 16 →
      s.domOff 3 = false →
      was = (s.arb c).wait.getD i 0 →
      n = s.get (ARB_CTRL_STARVE_LIMIT c) - was →
      was < s.get (ARB_CTRL_STARVE_LIMIT c) →
      Does (.arbStarve c i) s (fun t =>
        t.wide (ARB_WAIT_LO_WAIT c i) (ARB_WAIT_HI_WAIT c i) = (s.wide (ARB_WAIT_LO_WAIT c i) (ARB_WAIT_HI_WAIT c i) + n) % 2 ^ 48 ∧
        Reads t [(ARB_LONGEST_LONGEST c i, max (s.get (ARB_LONGEST_LONGEST c i)) (min (was + n) 0xFFFFFFFF))] ∧
        t.unit = (s.setArb c { s.arb c with wait := (s.arb c).wait.set i (was + n) }).unit ∧
        t.getBit (ARB_STARVE_STARVE c) i = true ∧
        t.out = s.out ++ [Output.irqApps 317] ∧
        (List.range 16).all (fun x => x == i || t.getBit (ARB_STARVE_STARVE c) x == s.getBit (ARB_STARVE_STARVE c) x) = true ∧
        RegsBut [ARB_STARVE_STARVE c, ARB_WAIT_LO_WAIT c i, ARB_WAIT_HI_WAIT c i, ARB_LONGEST_LONGEST c i] s t ∧
        t = { s with regs := t.regs, out := t.out, unit := t.unit })) ∧
    (∀ (s : State) (c i n was : Nat),
      s.stopSafe = true →
      c < 2 →
      i < 16 →
      s.domOff 3 = false →
      was = (s.arb c).wait.getD i 0 →
      n = s.get (ARB_CTRL_STARVE_LIMIT c) - was →
      s.get (ARB_CTRL_STARVE_LIMIT c) ≤ was →
      Does (.arbStarve c i) s (fun t =>
        t.wide (ARB_WAIT_LO_WAIT c i) (ARB_WAIT_HI_WAIT c i) = (s.wide (ARB_WAIT_LO_WAIT c i) (ARB_WAIT_HI_WAIT c i) + n) % 2 ^ 48 ∧
        Reads t [(ARB_LONGEST_LONGEST c i, max (s.get (ARB_LONGEST_LONGEST c i)) (min (was + n) 0xFFFFFFFF))] ∧
        t.unit = (s.setArb c { s.arb c with wait := (s.arb c).wait.set i (was + n) }).unit ∧
        RegsBut [ARB_WAIT_LO_WAIT c i, ARB_WAIT_HI_WAIT c i, ARB_LONGEST_LONGEST c i] s t ∧
        t = { s with regs := t.regs, unit := t.unit })) ∧
    (∀ (s : State) (c i : Nat),
      s.stopSafe = true →
      2 ≤ c ∨ 16 ≤ i ∨ s.domOff 3 = true →
      Does (.arbStarve c i) s (fun t =>
        t = s)) ∧
    (∀ (s : State) (n c0 c : Nat) (codes : List Nat) (high : Bool),
      s.stopSafe = true →
      s.adcTakes n codes = true →
      codes.head? = some c0 →
      codes.getLast? = some c →
      s.getBit (adcLive high) n = false →
      s.get ADC_CTRL_N ≤ codes.length →
      (codes.drop (codes.length - s.get ADC_CTRL_N)).all (fun x => if high = true then decide (s.adcGet n (ADC_CH_W1_HIGH n) < adcValue n x) else decide (adcValue n x < s.adcGet n (ADC_CH_W1_LOW n))) = true →
      Does (.adcThresholdEntry n high codes) s (fun t =>
        Reads t [(ADC_CH_W0_CODE n, c)] ∧
        t.adcGet n (ADC_CH_W0_VALUE n) = adcValue n c ∧
        t.adcGet n (ADC_CH_W2_MAX n) = (codes.map (adcValue n)).foldl max (if s.site.adcLoaded.contains n then s.adcGet n (ADC_CH_W2_MAX n) else adcValue n c0) ∧
        t.adcGet n (ADC_CH_W2_MIN n) = (codes.map (adcValue n)).foldl min (if s.site.adcLoaded.contains n then s.adcGet n (ADC_CH_W2_MIN n) else adcValue n c0) ∧
        t.site = { s.site with adcLoaded := n :: s.site.adcLoaded.filter (· ≠ n) } ∧
        t.getBit (adcLive high) n = true ∧
        t.getBit (adcFlag high) n = true ∧
        (List.range 15).all (fun x => x == n || t.getBit (adcLive high) x == s.getBit (adcLive high) x) = true ∧
        (List.range 15).all (fun x => x == n || t.getBit (adcFlag high) x == s.getBit (adcFlag high) x) = true ∧
        t.out = s.out ++ [Output.irqApps 370] ∧
        RegsBut [adcLive high, adcFlag high, ADC_CH_W0_CODE n, ADC_CH_W0_VALUE n, ADC_CH_W2_MAX n, ADC_CH_W2_MIN n] ((s.record .siteAdc ([n] ++ leBytes 2 (adcValue n c % 65536).toNat))) t ∧
        t = { (s.record .siteAdc ([n] ++ leBytes 2 (adcValue n c % 65536).toNat)) with regs := t.regs, site := t.site, out := t.out })) ∧
    (∀ (s : State) (codes : List Nat) (n : Nat),
      s.stopSafe = true →
      s.adcTakes n codes = true →
      s.getBit ADC_LIVE_LOW_NOW n = false →
      codes.getLast? = some 0 →
      s.get ADC_CTRL_N = 1 →
      0 < s.adcGet n (ADC_CH_W1_LOW n) →
      Does (.adcThresholdEntry n false codes) s (fun t =>
        t.getBit ADC_LIVE_LOW_NOW n = true ∧
        t.getBit ADC_FLAGS_LOW n = true)) ∧
    (∀ (s : State) (n c0 c : Nat) (codes : List Nat) (high : Bool),
      s.stopSafe = true →
      s.adcTakes n codes = true →
      codes.head? = some c0 →
      codes.getLast? = some c →
      s.getBit (adcLive high) n = true ∨ codes.length < s.get ADC_CTRL_N ∨ (codes.drop (codes.length - s.get ADC_CTRL_N)).all (fun x => if high = true then decide (s.adcGet n (ADC_CH_W1_HIGH n) < adcValue n x) else decide (adcValue n x < s.adcGet n (ADC_CH_W1_LOW n))) = false →
      Does (.adcThresholdEntry n high codes) s (fun t =>
        Reads t [(ADC_CH_W0_CODE n, c)] ∧
        t.adcGet n (ADC_CH_W0_VALUE n) = adcValue n c ∧
        t.adcGet n (ADC_CH_W2_MAX n) = (codes.map (adcValue n)).foldl max (if s.site.adcLoaded.contains n then s.adcGet n (ADC_CH_W2_MAX n) else adcValue n c0) ∧
        t.adcGet n (ADC_CH_W2_MIN n) = (codes.map (adcValue n)).foldl min (if s.site.adcLoaded.contains n then s.adcGet n (ADC_CH_W2_MIN n) else adcValue n c0) ∧
        t.site = { s.site with adcLoaded := n :: s.site.adcLoaded.filter (· ≠ n) } ∧
        RegsBut [ADC_CH_W0_CODE n, ADC_CH_W0_VALUE n, ADC_CH_W2_MAX n, ADC_CH_W2_MIN n] s t ∧
        t = { s with regs := t.regs, site := t.site })) ∧
    (∀ (s : State) (n : Nat) (high : Bool) (codes : List Nat),
      s.stopSafe = true →
      s.adcTakes n codes = false ∨ codes = [] →
      Does (.adcThresholdEntry n high codes) s (fun t =>
        t = s)) ∧
    (∀ (s : State) (n c0 c : Nat) (codes : List Nat) (high : Bool),
      s.stopSafe = true →
      s.adcTakes n codes = true →
      codes.head? = some c0 →
      codes.getLast? = some c →
      s.getBit (adcLive high) n = true →
      s.get ADC_CTRL_N ≤ codes.length →
      (codes.drop (codes.length - s.get ADC_CTRL_N)).all (fun x => if high = true then decide (adcValue n x < s.adcGet n (ADC_CH_W1_HIGH n) - (s.get (ADC_CH_W3_HYST n) : Int)) else decide (s.adcGet n (ADC_CH_W1_LOW n) + (s.get (ADC_CH_W3_HYST n) : Int) < adcValue n x)) = true →
      Does (.adcThresholdExit n high codes) s (fun t =>
        Reads t [(ADC_CH_W0_CODE n, c)] ∧
        t.adcGet n (ADC_CH_W0_VALUE n) = adcValue n c ∧
        t.adcGet n (ADC_CH_W2_MAX n) = (codes.map (adcValue n)).foldl max (if s.site.adcLoaded.contains n then s.adcGet n (ADC_CH_W2_MAX n) else adcValue n c0) ∧
        t.adcGet n (ADC_CH_W2_MIN n) = (codes.map (adcValue n)).foldl min (if s.site.adcLoaded.contains n then s.adcGet n (ADC_CH_W2_MIN n) else adcValue n c0) ∧
        t.site = { s.site with adcLoaded := n :: s.site.adcLoaded.filter (· ≠ n) } ∧
        t.getBit (adcLive high) n = false ∧
        (List.range 15).all (fun x => x == n || t.getBit (adcLive high) x == s.getBit (adcLive high) x) = true ∧
        RegsBut [adcLive high, ADC_CH_W0_CODE n, ADC_CH_W0_VALUE n, ADC_CH_W2_MAX n, ADC_CH_W2_MIN n] ((s.record .siteAdc ([n] ++ leBytes 2 (adcValue n c % 65536).toNat))) t ∧
        t = { (s.record .siteAdc ([n] ++ leBytes 2 (adcValue n c % 65536).toNat)) with regs := t.regs, site := t.site })) ∧
    (∀ (s : State) (n c0 c : Nat) (codes : List Nat) (high : Bool),
      s.stopSafe = true →
      s.adcTakes n codes = true →
      codes.head? = some c0 →
      codes.getLast? = some c →
      s.getBit (adcLive high) n = false ∨ codes.length < s.get ADC_CTRL_N ∨ (codes.drop (codes.length - s.get ADC_CTRL_N)).all (fun x => if high = true then decide (adcValue n x < s.adcGet n (ADC_CH_W1_HIGH n) - (s.get (ADC_CH_W3_HYST n) : Int)) else decide (s.adcGet n (ADC_CH_W1_LOW n) + (s.get (ADC_CH_W3_HYST n) : Int) < adcValue n x)) = false →
      Does (.adcThresholdExit n high codes) s (fun t =>
        Reads t [(ADC_CH_W0_CODE n, c)] ∧
        t.adcGet n (ADC_CH_W0_VALUE n) = adcValue n c ∧
        t.adcGet n (ADC_CH_W2_MAX n) = (codes.map (adcValue n)).foldl max (if s.site.adcLoaded.contains n then s.adcGet n (ADC_CH_W2_MAX n) else adcValue n c0) ∧
        t.adcGet n (ADC_CH_W2_MIN n) = (codes.map (adcValue n)).foldl min (if s.site.adcLoaded.contains n then s.adcGet n (ADC_CH_W2_MIN n) else adcValue n c0) ∧
        t.site = { s.site with adcLoaded := n :: s.site.adcLoaded.filter (· ≠ n) } ∧
        RegsBut [ADC_CH_W0_CODE n, ADC_CH_W0_VALUE n, ADC_CH_W2_MAX n, ADC_CH_W2_MIN n] s t ∧
        t = { s with regs := t.regs, site := t.site })) ∧
    (∀ (s : State) (n : Nat) (high : Bool) (codes : List Nat),
      s.stopSafe = true →
      s.adcTakes n codes = false ∨ codes = [] →
      Does (.adcThresholdExit n high codes) s (fun t =>
        t = s)) ∧
    (∀ (s : State) (ini data : Nat),
      s.stopSafe = true →
      MayWrite s ini 0x40003200 →
      bitOf data 31 = true →
      s.mdioDenied = false →
      bitOf data 30 = true ∨ bits data 29 28 = 1 ∨ bits data 29 28 = 2 →
      Does (.mdioGo ini data) s (fun t =>
        Reads t [(MDIO_STATUS_BUSY, 1), (MDIO_CMD_C45, bits data 30 30), (MDIO_CMD_OP, bits data 29 28), (MDIO_CMD_PHY, bits data 27 23), (MDIO_CMD_REG, bits data 22 18), (MDIO_CMD_DATA, bits data 15 0)] ∧
        t.out = s.out ++ [Output.mdio (bitOf data 30) (bits data 29 28) (bits data 27 23) (bits data 22 18) (bits data 15 0)] ∧
        RegsBut [MDIO_STATUS_BUSY, MDIO_CMD_C45, MDIO_CMD_OP, MDIO_CMD_PHY, MDIO_CMD_REG, MDIO_CMD_DATA] s t ∧
        t = { s with regs := t.regs, out := t.out })) ∧
    (∀ (s : State) (ini data : Nat),
      s.stopSafe = true →
      bitOf data 31 = false ∨ (MayWrite s ini 0x40003200 ∧ (s.mdioDenied = true ∨ (bitOf data 30 = false ∧ (bits data 29 28 = 0 ∨ bits data 29 28 = 3)))) →
      Does (.mdioGo ini data) s (fun t =>
        t = s)) ∧
    (∀ (s : State) (d : Nat),
      s.stopSafe = true →
      s.bit MDIO_STATUS_BUSY = true →
      Does (.mdioComplete d) s (fun t =>
        Reads t [(MDIO_STATUS_BUSY, 0), (MDIO_STATUS_DONE, 1), (MDIO_STATUS_RDATA, if 2 ≤ s.get MDIO_CMD_OP then d % 65536 else s.get MDIO_STATUS_RDATA)] ∧
        RegsBut [MDIO_STATUS_BUSY, MDIO_STATUS_DONE, MDIO_STATUS_RDATA] s t ∧
        OnlyRegs s t)) ∧
    (∀ (s : State) (d : Nat),
      s.stopSafe = true →
      s.bit MDIO_STATUS_BUSY = false →
      Does (.mdioComplete d) s (fun t =>
        t = s)) ∧
    (∀ (s : State) (data : Nat) (ini p : Nat) (fo pr : Bool),
      s.stopSafe = true →
      MayWrite s ini 0x40003210 →
      bitOf data 31 = true →
      p = bits data 2 0 →
      p < 6 →
      fo = bitOf data 30 →
      s.cableRefused p fo pr = false →
      Does (.cableDiagGo ini data pr) s (fun t =>
        Reads t [(CABLE_W0_BUSY p, 1), (ETH_CFG_LINK p, 0)] ∧
        t.site.cable = some p ∧
        t.linkDownAt p = (if s.site.downAt.any (fun e => e.1 == p) = true then s.linkDownAt p else s.ply) ∧
        t = (State.linkSet { s with site := { s.site with cable := some p } } p false 0).put (CABLE_W0_BUSY p) 1)) ∧
    (∀ (s : State) (data : Nat) (ini p : Nat) (fo pr : Bool),
      s.stopSafe = true →
      MayWrite s ini 0x40003210 →
      bitOf data 31 = true →
      p = bits data 2 0 →
      p < 6 →
      fo = bitOf data 30 →
      s.cableRefused p fo pr = true →
      Does (.cableDiagGo ini data pr) s (fun t =>
        Reads t [(CABLE_W0_REFUSED p, 1)] ∧
        RegsBut [CABLE_W0_REFUSED p] s t ∧
        OnlyRegs s t)) ∧
    (∀ (s : State) (data ini : Nat) (pr : Bool),
      s.stopSafe = true →
      bitOf data 31 = false ∨ (MayWrite s ini 0x40003210 ∧ 6 ≤ bits data 2 0) →
      Does (.cableDiagGo ini data pr) s (fun t =>
        t = s)) ∧
    (∀ (s : State) (p : Nat) (pr : Bool),
      s.stopSafe = true →
      p < 6 →
      s.domOff 9 = false →
      s.bit (ETH_CFG_EN p) = true →
      s.bit (ETH_CFG_LINK p) = false →
      s.linkDownAt p + 1000000 ≤ s.ply →
      (s.site.autoAt.find? (fun (e : Nat × Nat) => e.1 == p)).all (fun e => decide (e.2 + 360000000 ≤ s.ply)) = true →
      s.cableRefused p false pr = false →
      Does (.cableLinkDownExpiry p pr) s (fun t =>
        Reads t [(CABLE_W0_BUSY p, 1), (ETH_CFG_LINK p, 0)] ∧
        t.site.cable = some p ∧
        t.linkDownAt p = (if s.site.downAt.any (fun e => e.1 == p) = true then s.linkDownAt p else s.ply) ∧
        t = (State.linkSet { s with site := { s.site with cable := some p, autoAt := s.site.autoAt.filter (fun (e : Nat × Nat) => e.1 ≠ p) ++ [(p, s.ply)] } } p false 0).put (CABLE_W0_BUSY p) 1)) ∧
    (∀ (s : State) (p : Nat) (pr : Bool),
      s.stopSafe = true →
      p < 6 →
      s.domOff 9 = false →
      s.bit (ETH_CFG_EN p) = true →
      s.bit (ETH_CFG_LINK p) = false →
      s.linkDownAt p + 1000000 ≤ s.ply →
      (s.site.autoAt.find? (fun (e : Nat × Nat) => e.1 == p)).all (fun e => decide (e.2 + 360000000 ≤ s.ply)) = true →
      s.cableRefused p false pr = true →
      Does (.cableLinkDownExpiry p pr) s (fun t =>
        Reads t [(CABLE_W0_REFUSED p, 1)] ∧
        t.site = { s.site with autoAt := s.site.autoAt.filter (fun (e : Nat × Nat) => e.1 ≠ p) ++ [(p, s.ply)] } ∧
        RegsBut [CABLE_W0_REFUSED p] s t ∧
        t = { s with regs := t.regs, site := t.site })) ∧
    (∀ (s : State) (p : Nat) (pr : Bool),
      s.stopSafe = true →
      6 ≤ p ∨ s.domOff 9 = true ∨ s.bit (ETH_CFG_EN p) = false ∨ s.bit (ETH_CFG_LINK p) = true ∨ s.ply < s.linkDownAt p + 1000000 ∨ (s.site.autoAt.find? (fun (e : Nat × Nat) => e.1 == p)).any (fun e => decide (s.ply < e.2 + 360000000)) = true →
      Does (.cableLinkDownExpiry p pr) s (fun t =>
        t = s)) ∧
    (∀ (s : State) (p : Nat) (st len : List Nat),
      s.stopSafe = true →
      s.site.cable = some p →
      st.length = 4 →
      len.length = 4 →
      st.all (fun x => decide (x ≤ 5)) = true →
      Does (.cableDiagComplete st len) s (fun t =>
        Reads t [(CABLE_W0_ST_A p, st.getD 0 0), (CABLE_W0_ST_B p, st.getD 1 0), (CABLE_W0_ST_C p, st.getD 2 0), (CABLE_W0_ST_D p, st.getD 3 0), (CABLE_W1_LEN_A p, len.getD 0 0 % 65536), (CABLE_W1_LEN_B p, len.getD 1 0 % 65536), (CABLE_W2_LEN_C p, len.getD 2 0 % 65536), (CABLE_W2_LEN_D p, len.getD 3 0 % 65536), (CABLE_W3_OH_SEC p, s.get REC_AON_OH_SECONDS), (CABLE_W0_BUSY p, 0), (CABLE_W0_DONE p, 1)] ∧
        t.site = { s.site with cable := none } ∧
        RegsBut [CABLE_W0_ST_A p, CABLE_W0_ST_B p, CABLE_W0_ST_C p, CABLE_W0_ST_D p, CABLE_W1_LEN_A p, CABLE_W1_LEN_B p, CABLE_W2_LEN_C p, CABLE_W2_LEN_D p, CABLE_W3_OH_SEC p, CABLE_W0_BUSY p, CABLE_W0_DONE p] ((s.record .cableDiag ([p] ++ st ++ len.flatMap (leBytes 2)))) t ∧
        t = { (s.record .cableDiag ([p] ++ st ++ len.flatMap (leBytes 2))) with regs := t.regs, site := t.site })) ∧
    (∀ (s : State) (st len : List Nat),
      s.stopSafe = true →
      s.site.cable = none ∨ st.length ≠ 4 ∨ len.length ≠ 4 ∨ st.all (fun x => decide (x ≤ 5)) = false →
      Does (.cableDiagComplete st len) s (fun t =>
        t = s)) ∧
    (∀ (s : State) (p sp : Nat) (u : State),
      s.stopSafe = true →
      p < 6 →
      s.domOff 9 = false →
      sp < 3 →
      p ≠ 5 →
      u = State.puts { s with site := { s.site with downAt := s.site.downAt.filter (fun (e : Nat × Nat) => e.1 ≠ p) } } [(ETH_CFG_LINK p, 1), (ETH_CFG_SPEED p, sp), (ETH_CORR_EGRESS p, if sp = 2 then 96 else if sp = 1 then 720 else 7200), (ETH_CORR_INGRESS p, if sp = 2 then 144 else if sp = 1 then 1120 else 11200)] →
      Does (.ethLinkChange p true sp) s (fun t =>
        Reads t [(ETH_CFG_LINK p, 1), (ETH_CFG_SPEED p, sp), (ETH_CORR_EGRESS p, if sp = 2 then 96 else if sp = 1 then 720 else 7200), (ETH_CORR_INGRESS p, if sp = 2 then 144 else if sp = 1 then 1120 else 11200)] ∧
        t = u.drainAll)) ∧
    (∀ (s : State) (p sp : Nat) (u : State),
      s.stopSafe = true →
      p < 6 →
      s.domOff 9 = false →
      sp < 3 →
      p = 5 →
      u = State.puts { s with site := { s.site with downAt := s.site.downAt.filter (fun (e : Nat × Nat) => e.1 ≠ p) } } [(ETH_CFG_LINK p, 1), (ETH_CFG_SPEED p, sp), (ETH_CORR_EGRESS p, if sp = 2 then 96 else if sp = 1 then 720 else 7200), (ETH_CORR_INGRESS p, if sp = 2 then 144 else if sp = 1 then 1120 else 11200)] →
      Does (.ethLinkChange p true sp) s (fun t =>
        Reads t [(ETH_CFG_LINK 5, 1), (ETH_CFG_SPEED 5, sp), (PAIR_STATUS_LINK, 1), (PAIR_STATUS_PAIR_SLOW, b2n (s.bit PAIR_CTRL_EN && decide (sp < 2)))] ∧
        t = u.pairSlow.drainAll)) ∧
    (∀ (s : State) (p sp : Nat) (u : State),
      s.stopSafe = true →
      p < 6 →
      s.domOff 9 = false →
      sp < 3 →
      p ≠ 5 →
      u = State.put { s with site := { s.site with downAt := s.site.downAt.filter (fun (e : Nat × Nat) => e.1 ≠ p) ++ [(p, if s.site.downAt.any (fun e => e.1 == p) = true then s.linkDownAt p else s.ply)] } } (ETH_CFG_LINK p) 0 →
      Does (.ethLinkChange p false sp) s (fun t =>
        Reads t [(ETH_CFG_LINK p, 0), (ETH_CFG_SPEED p, s.get (ETH_CFG_SPEED p))] ∧
        t = u)) ∧
    (∀ (s : State) (p sp : Nat) (u : State),
      s.stopSafe = true →
      p < 6 →
      s.domOff 9 = false →
      sp < 3 →
      p = 5 →
      u = State.put { s with site := { s.site with downAt := s.site.downAt.filter (fun (e : Nat × Nat) => e.1 ≠ p) ++ [(p, if s.site.downAt.any (fun e => e.1 == p) = true then s.linkDownAt p else s.ply)] } } (ETH_CFG_LINK p) 0 →
      Does (.ethLinkChange p false sp) s (fun t =>
        Reads t [(ETH_CFG_LINK 5, 0), (PAIR_STATUS_LINK, 0), (PAIR_STATUS_PAIR_SLOW, 0)] ∧
        t = u.pairSlow)) ∧
    (∀ (s : State) (p sp : Nat) (up : Bool),
      s.stopSafe = true →
      6 ≤ p ∨ s.domOff 9 = true ∨ 3 ≤ sp →
      Does (.ethLinkChange p up sp) s (fun t =>
        t = s)) ∧
    (∀ (s : State) (c o : Nat), c < 2 → o < s.dramSize c → s.dramAt (s.dramAddr c o) = some (c, o))

/-- A received byte of a GENERAL UART enters the RX FIFO with its error flags and RX_ERR counts it, or is discarded with
RX_OVR where the FIFO is full; on UART_0 held by the monitor or recovery mode it joins the line, or the packet between
two 0xC0 in recovery over UART_0; of another UART it is ignored. Written bytes enter the TX FIFO, or are dropped with
TX_DROP, and are ignored with FUNC 1; a read removes the oldest byte; the fill counts follow. A hand-over to the
monitor or recovery mode empties UART_0's TX FIFO and counts the RTCM frames in it; the locked monitor gives it up
after 60 s. An I2C GO starts a transaction, with no effect while BUSY or on a reserved encoding; its end, where R643
and R644 allow it (i2cEndOk), shows what went over the bus, RESULT, COUNT (free at 64, which it cannot hold) and the
bytes read. A CAN frame that passes an enabled filter enters the RX FIFO with the lowest such filter and its ply, or
is discarded with RX_OVR; the window shows the oldest frame and POP removes it; GO makes a buffer pending with the
staged frame, ABORT clears it unless on the bus, and a sent frame, the pending one of highest priority, is done. Bus-
off and error passive set STATE and are recorded, and bus-off ends after 128 times 11 recessive bits. Where its
conditions do not hold each of these commands changes nothing. (Rests on: R640, R641, R642, R643, R644, R645, R647,
R648, R649, R675, R676.) -/
def Obligations.SerialBusesMoveTheirBytes : Prop :=
    (∀ (s : State) (k b fl : Nat),
      s.stopSafe = true →
      k < 4 →
      s.domOff 3 = false →
      s.uartOwned k = false →
      s.get (UART_CFG_FUNC k) = 2 →
      (s.uart k).rx.length < 1024 →
      Does (.uartRxByte k b fl) s (fun t =>
        t.site = { s.site with uarts := s.site.uarts.filter (fun (e : Nat × UartState) => e.1 ≠ k) ++ [(k, { s.uart k with rx := (s.uart k).rx ++ [(b % 256, fl % 4)] })] } ∧
        Reads t [(UART_STATUS_TX_USED k, (s.uart k).used % 2 ^ (UART_STATUS_TX_USED k).w), (UART_STATUS_RX_USED k, ((s.uart k).rx.length + 1) % 2 ^ (UART_STATUS_RX_USED k).w)] ∧
        Reads t [(UART_CNT_RX_ERR k, if fl % 4 = 0 then s.get (UART_CNT_RX_ERR k) else s.adv (UART_CNT_RX_ERR k))] ∧
        RegsBut [UART_STATUS_TX_USED k, UART_STATUS_RX_USED k, UART_CNT_RX_ERR k] s t ∧
        t = { s with regs := t.regs, site := t.site })) ∧
    (∀ (s : State) (k b fl : Nat),
      s.stopSafe = true →
      k < 4 →
      s.domOff 3 = false →
      s.uartOwned k = false →
      s.get (UART_CFG_FUNC k) = 2 →
      1024 ≤ (s.uart k).rx.length →
      Does (.uartRxByte k b fl) s (fun t =>
        Reads t [(UART_CNT_RX_OVR k, s.adv (UART_CNT_RX_OVR k)), (UART_CNT_RX_ERR k, if fl % 4 = 0 then s.get (UART_CNT_RX_ERR k) else s.adv (UART_CNT_RX_ERR k))] ∧
        RegsBut [UART_CNT_RX_OVR k, UART_CNT_RX_ERR k] s t ∧
        OnlyRegs s t)) ∧
    (∀ (s : State) (k b fl : Nat),
      s.stopSafe = true →
      4 ≤ k ∨ s.domOff 3 = true ∨ (s.uartOwned k = false ∧ s.get (UART_CFG_FUNC k) ≠ 2) →
      Does (.uartRxByte k b fl) s (fun t =>
        t = s)) ∧
    (∀ (s : State) (b fl : Nat),
      s.stopSafe = true →
      s.domOff 3 = false →
      s.uartOwned 0 = true →
      s.boot.slip = none →
      b % 256 ≠ 13 →
      b % 256 ≠ 0xC0 ∨ ¬ (s.bit BOOT_STATUS_RECOVERY = true ∧ s.get STRAP_REC_IF = 0) →
      Does (.uartRxByte 0 b fl) s (fun t =>
        t.boot = { s.boot with line := s.boot.line ++ [b % 256] } ∧
        RegsBut [] s t ∧
        t = { s with regs := t.regs, boot := t.boot })) ∧
    (∀ (s : State) (b fl : Nat),
      s.stopSafe = true →
      s.domOff 3 = false →
      s.uartOwned 0 = true →
      s.boot.slip = none →
      b % 256 = 13 →
      Does (.uartRxByte 0 b fl) s (fun t =>
        t.boot = { s.boot with line := [], lastLine := s.ply } ∧
        RegsBut [] s t ∧
        t = { s with regs := t.regs, boot := t.boot })) ∧
    (∀ (s : State) (b fl : Nat),
      s.stopSafe = true →
      s.domOff 3 = false →
      s.uartOwned 0 = true →
      s.boot.slip = none →
      b % 256 = 0xC0 →
      s.bit BOOT_STATUS_RECOVERY = true ∧ s.get STRAP_REC_IF = 0 →
      Does (.uartRxByte 0 b fl) s (fun t =>
        t.boot = { s.boot with slip := some [] } ∧
        RegsBut [] s t ∧
        t = { s with regs := t.regs, boot := t.boot })) ∧
    (∀ (s : State) (b fl : Nat) (p : List Nat),
      s.stopSafe = true →
      s.domOff 3 = false →
      s.uartOwned 0 = true →
      s.boot.slip = some p →
      Does (.uartRxByte 0 b fl) s (fun t =>
        t.boot = { s.boot with slip := if b % 256 = 0xC0 then none else some (p ++ [b % 256]) } ∧
        RegsBut [] s t ∧
        t = { s with regs := t.regs, boot := t.boot })) ∧
    (∀ (s : State) (ini k b : Nat),
      s.stopSafe = true →
      k < 4 →
      MayWrite s ini (0x40002008 + 0x40 * k) →
      s.get (UART_CFG_FUNC k) ≠ 1 ∨ s.uartOwned k = true →
      (s.uart k).used < 4096 →
      Does (.uartDataWrite ini k b) s (fun t =>
        t.site = { s.site with uarts := s.site.uarts.filter (fun (e : Nat × UartState) => e.1 ≠ k) ++ [(k, { s.uart k with tx := (s.uart k).tx ++ [(false, [b % 256])] })] } ∧
        Reads t [(UART_STATUS_TX_USED k, ((s.uart k).used + 1) % 2 ^ (UART_STATUS_TX_USED k).w), (UART_STATUS_RX_USED k, (s.uart k).rx.length % 2 ^ (UART_STATUS_RX_USED k).w)] ∧
        RegsBut [UART_STATUS_TX_USED k, UART_STATUS_RX_USED k] s t ∧
        t = { s with regs := t.regs, site := t.site })) ∧
    (∀ (s : State) (ini k b : Nat),
      s.stopSafe = true →
      k < 4 →
      MayWrite s ini (0x40002008 + 0x40 * k) →
      s.get (UART_CFG_FUNC k) ≠ 1 ∨ s.uartOwned k = true →
      4096 ≤ (s.uart k).used →
      Does (.uartDataWrite ini k b) s (fun t =>
        Reads t [(UART_CNT_TX_DROP k, s.adv (UART_CNT_TX_DROP k))] ∧
        RegsBut [UART_CNT_TX_DROP k] s t ∧
        OnlyRegs s t)) ∧
    (∀ (s : State) (ini k b : Nat),
      s.stopSafe = true →
      4 ≤ k ∨ (MayWrite s ini (0x40002008 + 0x40 * k) ∧ s.get (UART_CFG_FUNC k) = 1 ∧ s.uartOwned k = false) →
      Does (.uartDataWrite ini k b) s (fun t =>
        t = s)) ∧
    (∀ (s : State) (ini k : Nat),
      s.stopSafe = true →
      k < 4 →
      MayRead s ini (0x40002008 + 0x40 * k) →
      Does (.uartDataRead ini k) s (fun t =>
        t.site = { s.site with uarts := s.site.uarts.filter (fun (e : Nat × UartState) => e.1 ≠ k) ++ [(k, { s.uart k with rx := (s.uart k).rx.drop 1 })] } ∧
        Reads t [(UART_STATUS_TX_USED k, (s.uart k).used % 2 ^ (UART_STATUS_TX_USED k).w), (UART_STATUS_RX_USED k, ((s.uart k).rx.length - 1) % 2 ^ (UART_STATUS_RX_USED k).w)] ∧
        RegsBut [UART_STATUS_TX_USED k, UART_STATUS_RX_USED k] s t ∧
        t = { s with regs := t.regs, site := t.site })) ∧
    (∀ (s : State) (ini k : Nat),
      s.stopSafe = true →
      4 ≤ k →
      Does (.uartDataRead ini k) s (fun t =>
        t = s)) ∧
    (∀ (s : State) (m : Bool),
      s.stopSafe = true →
      s.domOff 3 = false →
      s.bit BOOT_STATUS_RECOVERY = true ∨ (m = true ∧ (s.bit MON_STATUS_DBG_LOCK = false ∨ s.bit TRIM_STATUS_SAFE = true)) →
      Does (.uartMonitorTake m) s (fun t =>
        t.site = { s.site with uarts := s.site.uarts.filter (fun (e : Nat × UartState) => e.1 ≠ 0) ++ [(0, { s.uart 0 with tx := [] })] } ∧
        Reads t [(UART_STATUS_OWNED 0, 1), (UART_STATUS_TX_USED 0, 0), (UART_STATUS_RX_USED 0, (s.uart 0).rx.length % 2 ^ (UART_STATUS_RX_USED 0).w), (MON_STATUS_HELD, if m = true then 1 else s.get MON_STATUS_HELD), (UART_CNT_RTCM_DROP 0, s.adv (UART_CNT_RTCM_DROP 0) ((s.uart 0).tx.filter (fun c => c.1)).length)] ∧
        RegsBut [UART_STATUS_OWNED 0, UART_STATUS_TX_USED 0, UART_STATUS_RX_USED 0, UART_CNT_RTCM_DROP 0, MON_STATUS_HELD] s t ∧
        t = { s with regs := t.regs, site := t.site })) ∧
    (∀ (s : State) (m : Bool),
      s.stopSafe = true →
      s.domOff 3 = true ∨ ¬ (s.bit BOOT_STATUS_RECOVERY = true ∨ (m = true ∧ (s.bit MON_STATUS_DBG_LOCK = false ∨ s.bit TRIM_STATUS_SAFE = true))) →
      Does (.uartMonitorTake m) s (fun t =>
        t = s)) ∧
    (∀ (s : State),
      s.stopSafe = true →
      s.monIdle = true →
      Does (.uartMonitorRelease) s (fun t =>
        Reads t [(MON_STATUS_HELD, 0), (UART_STATUS_OWNED 0, if (s.bit BOOT_STATUS_RECOVERY || s.bit TRIM_STATUS_SAFE) = true then s.get (UART_STATUS_OWNED 0) else 0)] ∧
        RegsBut [MON_STATUS_HELD, UART_STATUS_OWNED 0] s t ∧
        OnlyRegs s t)) ∧
    (∀ (s : State),
      s.stopSafe = true →
      s.monIdle = false →
      Does (.uartMonitorRelease) s (fun t =>
        t = s)) ∧
    (∀ (s : State) (ini k data : Nat),
      s.stopSafe = true →
      k < 2 →
      MayWrite s ini (0x40002200 + 0x80 * k) →
      bitOf data 31 = true →
      s.bit (I2C_STATUS_BUSY k) = false →
      bits data 30 29 ≠ 3 →
      bits data 17 12 ≤ 32 ∧ bits data 5 0 ≤ 32 →
      bits data 17 12 ≠ 0 ∨ bits data 5 0 ≠ 0 →
      Does (.i2cGo ini k data) s (fun t =>
        Reads t [(I2C_STATUS_BUSY k, 1), (I2C_CMD_SPEED k, bits data 30 29), (I2C_CMD_ADDR k, bits data 28 22), (I2C_CMD_WLEN k, bits data 17 12), (I2C_CMD_RLEN k, bits data 5 0)] ∧
        RegsBut [I2C_STATUS_BUSY k, I2C_CMD_SPEED k, I2C_CMD_ADDR k, I2C_CMD_WLEN k, I2C_CMD_RLEN k] s t ∧
        OnlyRegs s t)) ∧
    (∀ (s : State) (ini k data : Nat),
      s.stopSafe = true →
      2 ≤ k ∨ bitOf data 31 = false ∨ (MayWrite s ini (0x40002200 + 0x80 * k) ∧ (s.bit (I2C_STATUS_BUSY k) = true ∨ (bits data 17 12 = 0 ∧ bits data 5 0 = 0) ∨ bits data 30 29 = 3 ∨ 32 < bits data 17 12 ∨ 32 < bits data 5 0)) →
      Does (.i2cGo ini k data) s (fun t =>
        t = s)) ∧
    (∀ (s : State) (k res n : Nat) (rx : List Nat),
      s.stopSafe = true →
      k < 2 →
      s.bit (I2C_STATUS_BUSY k) = true →
      i2cEndOk (s.get (I2C_CMD_WLEN k)) (s.get (I2C_CMD_RLEN k)) res n rx.length = true →
      n < 64 →
      Does (.i2cTransactionEnd k res n rx) s (fun t =>
        Reads t [(I2C_STATUS_BUSY k, 0), (I2C_STATUS_DONE k, 1), (I2C_STATUS_RESULT k, res), (I2C_STATUS_COUNT k, n)] ∧
        (List.range 32).all (fun i => t.get (I2C_BUF_DATA k (i / 4)) / 256 ^ (i % 4) % 256 == (if i < rx.length then rx.getD i 0 % 256 else s.get (I2C_BUF_DATA k (i / 4)) / 256 ^ (i % 4) % 256)) = true ∧
        t.out = (if res = 5 then s.out else s.out ++ [Output.i2c k (s.get (I2C_CMD_ADDR k)) (s.i2cBytes k (min n (s.get (I2C_CMD_WLEN k)))) rx.length]) ∧
        RegsBut ([I2C_STATUS_BUSY k, I2C_STATUS_DONE k, I2C_STATUS_RESULT k, I2C_STATUS_COUNT k] ++ (List.range 8).map (I2C_BUF_DATA k)) s t ∧
        t = { s with regs := t.regs, out := t.out })) ∧
    (∀ (s : State) (k res n : Nat) (rx : List Nat),
      s.stopSafe = true →
      k < 2 →
      s.bit (I2C_STATUS_BUSY k) = true →
      i2cEndOk (s.get (I2C_CMD_WLEN k)) (s.get (I2C_CMD_RLEN k)) res n rx.length = true →
      64 ≤ n →
      Does (.i2cTransactionEnd k res n rx) s (fun t =>
        Reads t [(I2C_STATUS_BUSY k, 0), (I2C_STATUS_DONE k, 1), (I2C_STATUS_RESULT k, res)] ∧
        (List.range 32).all (fun i => t.get (I2C_BUF_DATA k (i / 4)) / 256 ^ (i % 4) % 256 == (if i < rx.length then rx.getD i 0 % 256 else s.get (I2C_BUF_DATA k (i / 4)) / 256 ^ (i % 4) % 256)) = true ∧
        t.out = (if res = 5 then s.out else s.out ++ [Output.i2c k (s.get (I2C_CMD_ADDR k)) (s.i2cBytes k (min n (s.get (I2C_CMD_WLEN k)))) rx.length]) ∧
        RegsBut ([I2C_STATUS_BUSY k, I2C_STATUS_DONE k, I2C_STATUS_RESULT k, I2C_STATUS_COUNT k] ++ (List.range 8).map (I2C_BUF_DATA k)) s t ∧
        t = { s with regs := t.regs, out := t.out, freeCtr := t.freeCtr })) ∧
    (∀ (s : State) (k res n : Nat) (rx : List Nat),
      s.stopSafe = true →
      2 ≤ k ∨ s.bit (I2C_STATUS_BUSY k) = false ∨ i2cEndOk (s.get (I2C_CMD_WLEN k)) (s.get (I2C_CMD_RLEN k)) res n rx.length = false →
      Does (.i2cTransactionEnd k res n rx) s (fun t =>
        t = s)) ∧
    (∀ (s : State) (k ide fdf brs id dlc f : Nat) (d : List Nat),
      s.stopSafe = true →
      s.canOn k = true →
      ide < 2 →
      fdf < 2 →
      brs < 2 →
      id < 2 ^ 29 →
      d.length = dlcBytes fdf dlc →
      fdf = 0 ∨ s.bit (CAN_CFG_FD k) = true →
      s.canFilter k ide id = some f →
      (s.can k).rx.length < 64 →
      Does (.canFrameReceive k ide fdf brs id dlc d) s (fun t =>
        t.site = { s.site with cans := s.site.cans.filter (fun (e : Nat × CanState) => e.1 ≠ k) ++ [(k, { s.can k with rx := (s.can k).rx ++ [(⟨ide, fdf, brs, id, dlc, d⟩, f, s.ply % 2 ^ 32)] })] } ∧
        Reads t [(CAN_STATUS_RX_USED k, (s.can k).rx.length + 1)] ∧
        canShows t k ((s.can k).rx ++ [(⟨ide, fdf, brs, id, dlc, d⟩, f, s.ply % 2 ^ 32)]) = true ∧
        RegsBut (canWin k) s t ∧
        t = { s with regs := t.regs, site := t.site })) ∧
    (∀ (s : State) (k ide fdf brs id dlc f : Nat) (d : List Nat),
      s.stopSafe = true →
      s.canOn k = true →
      ide < 2 →
      fdf < 2 →
      brs < 2 →
      id < 2 ^ 29 →
      d.length = dlcBytes fdf dlc →
      fdf = 0 ∨ s.bit (CAN_CFG_FD k) = true →
      s.canFilter k ide id = some f →
      64 ≤ (s.can k).rx.length →
      Does (.canFrameReceive k ide fdf brs id dlc d) s (fun t =>
        Reads t [(CAN_CNT_RX_OVR k, s.adv (CAN_CNT_RX_OVR k))] ∧
        RegsBut [CAN_CNT_RX_OVR k] s t ∧
        OnlyRegs s t)) ∧
    (∀ (s : State) (k ide fdf brs id dlc : Nat) (d : List Nat),
      s.stopSafe = true →
      s.canOn k = false ∨ 2 ≤ ide ∨ 2 ≤ fdf ∨ 2 ≤ brs ∨ 2 ^ 29 ≤ id ∨ d.length ≠ dlcBytes fdf dlc ∨ (fdf = 1 ∧ s.bit (CAN_CFG_FD k) = false) ∨ s.canFilter k ide id = none →
      Does (.canFrameReceive k ide fdf brs id dlc d) s (fun t =>
        t = s)) ∧
    (∀ (s : State) (ini k : Nat),
      s.stopSafe = true →
      k < 2 →
      MayWrite s ini (0x4000264C + 0x400 * k) →
      Does (.canRxPop ini k) s (fun t =>
        t.site = { s.site with cans := s.site.cans.filter (fun (e : Nat × CanState) => e.1 ≠ k) ++ [(k, { s.can k with rx := (s.can k).rx.drop 1 })] } ∧
        Reads t [(CAN_STATUS_RX_USED k, ((s.can k).rx.length - 1) % 2 ^ (CAN_STATUS_RX_USED k).w)] ∧
        canShows t k ((s.can k).rx.drop 1) = true ∧
        RegsBut (canWin k) s t ∧
        t = { s with regs := t.regs, site := t.site })) ∧
    (∀ (s : State) (ini k : Nat),
      s.stopSafe = true →
      2 ≤ k →
      Does (.canRxPop ini k) s (fun t =>
        t = s)) ∧
    (∀ (s : State) (ini k b : Nat),
      s.stopSafe = true →
      k < 2 →
      b < 32 →
      MayWrite s ini (0x40002748 + 0x400 * k) →
      Does (.canTxGo ini k b) s (fun t =>
        t.getBit (CAN_TXPEND_PENDING k) b = true ∧
        (List.range 32).all (fun x => x == b || t.getBit (CAN_TXPEND_PENDING k) x == s.getBit (CAN_TXPEND_PENDING k) x) = true ∧
        t.site = { s.site with cans := s.site.cans.filter (fun (e : Nat × CanState) => e.1 ≠ k) ++ [(k, { s.can k with tx := (s.can k).tx.filter (fun (e : Nat × CanFrame × Nat) => e.1 ≠ b) ++ [(b, ({ ide := s.get (CAN_TX_W0_IDE k), fdf := s.get (CAN_TX_W0_FDF k), brs := s.get (CAN_TX_W0_BRS k), id := s.get (CAN_TX_W0_ID k), dlc := s.get (CAN_TX_W1_DLC k), data := ((List.range 16).flatMap (fun w => leBytes 4 (s.get (CAN_TX_D_DATA k w)))).take (dlcBytes (s.get (CAN_TX_W0_FDF k)) (s.get (CAN_TX_W1_DLC k))) } : CanFrame), (s.can k).goes)], goes := (s.can k).goes + 1 })] } ∧
        Reads t [(CAN_STATUS_RX_USED k, (s.can k).rx.length % 2 ^ (CAN_STATUS_RX_USED k).w)] ∧
        canShows t k (s.can k).rx = true ∧
        RegsBut (canWin k ++ [CAN_TXPEND_PENDING k]) s t ∧
        t = { s with regs := t.regs, site := t.site })) ∧
    (∀ (s : State) (ini k b : Nat),
      s.stopSafe = true →
      2 ≤ k ∨ 32 ≤ b →
      Does (.canTxGo ini k b) s (fun t =>
        t = s)) ∧
    (∀ (s : State) (ini k b : Nat),
      s.stopSafe = true →
      k < 2 →
      b < 32 →
      MayWrite s ini (0x40002748 + 0x400 * k) →
      Does (.canTxAbort ini k b false) s (fun t =>
        t.getBit (CAN_TXPEND_PENDING k) b = false ∧
        (List.range 32).all (fun x => x == b || t.getBit (CAN_TXPEND_PENDING k) x == s.getBit (CAN_TXPEND_PENDING k) x) = true ∧
        RegsBut [CAN_TXPEND_PENDING k] s t ∧
        OnlyRegs s t)) ∧
    (∀ (s : State) (ini k b : Nat) (ob : Bool),
      s.stopSafe = true →
      2 ≤ k ∨ 32 ≤ b ∨ (MayWrite s ini (0x40002748 + 0x400 * k) ∧ ob = true) →
      Does (.canTxAbort ini k b ob) s (fun t =>
        t = s)) ∧
    (∀ (s : State) (k b g n : Nat) (f : CanFrame),
      s.stopSafe = true →
      s.canOn k = true →
      b < 32 →
      s.canOffer k g = some (b, f, n) →
      Does (.canTxComplete k b g) s (fun t =>
        t.getBit (CAN_TXPEND_PENDING k) b = false ∧
        t.getBit (CAN_TXDONE_SENT k) b = true ∧
        t.out = s.out ++ [Output.can k f.ide f.fdf f.brs f.id f.dlc f.data] ∧
        (List.range 32).all (fun x => x == b || t.getBit (CAN_TXPEND_PENDING k) x == s.getBit (CAN_TXPEND_PENDING k) x) = true ∧
        (List.range 32).all (fun x => x == b || t.getBit (CAN_TXDONE_SENT k) x == s.getBit (CAN_TXDONE_SENT k) x) = true ∧
        RegsBut [CAN_TXPEND_PENDING k, CAN_TXDONE_SENT k] s t ∧
        t = { s with regs := t.regs, out := t.out })) ∧
    (∀ (s : State) (k b g : Nat),
      s.stopSafe = true →
      s.canOn k = false ∨ 32 ≤ b ∨ (s.canOffer k g).all (fun e => e.1 != b) = true →
      Does (.canTxComplete k b g) s (fun t =>
        t = s)) ∧
    (∀ (s : State) (k rec tec : Nat),
      s.stopSafe = true →
      s.canOn k = true →
      256 ≤ tec →
      Does (.canBusOff k rec tec) s (fun t =>
        Reads t [(CAN_STATUS_STATE k, 2), (CAN_STATUS_REC k, rec % 2 ^ (CAN_STATUS_REC k).w), (CAN_STATUS_TEC k, 255), (CAN_CNT_BUS_OFF k, s.adv (CAN_CNT_BUS_OFF k))] ∧
        RegsBut [CAN_STATUS_STATE k, CAN_STATUS_REC k, CAN_STATUS_TEC k, CAN_CNT_BUS_OFF k] ((s.record .canBusOff [k])) t ∧
        t = { (s.record .canBusOff [k]) with regs := t.regs })) ∧
    (∀ (s : State) (k rec tec : Nat),
      s.stopSafe = true →
      s.canOn k = false ∨ tec < 256 →
      Does (.canBusOff k rec tec) s (fun t =>
        t = s)) ∧
    (∀ (s : State) (k n : Nat),
      s.stopSafe = true →
      k < 2 →
      128 ≤ n →
      s.bit (CAN_CFG_EN k) = true →
      s.get (CAN_STATUS_STATE k) = 2 →
      s.bit (CAN_CFG_AUTO_RECOVER k) = true →
      Does (.canBusOffRecovery k n) s (fun t =>
        Reads t [(CAN_STATUS_STATE k, 0), (CAN_STATUS_REC k, 0), (CAN_STATUS_TEC k, 0)] ∧
        RegsBut [CAN_STATUS_STATE k, CAN_STATUS_REC k, CAN_STATUS_TEC k] s t ∧
        OnlyRegs s t)) ∧
    (∀ (s : State) (k n : Nat),
      s.stopSafe = true →
      2 ≤ k ∨ n < 128 ∨ s.bit (CAN_CFG_EN k) = false ∨ s.get (CAN_STATUS_STATE k) ≠ 2 ∨ s.bit (CAN_CFG_AUTO_RECOVER k) = false →
      Does (.canBusOffRecovery k n) s (fun t =>
        t = s)) ∧
    (∀ (s : State) (k rec tec : Nat),
      s.stopSafe = true →
      s.canOn k = true →
      128 ≤ rec ∨ 128 ≤ tec →
      s.get (CAN_STATUS_STATE k) = 0 →
      Does (.canErrorPassive k rec tec) s (fun t =>
        Reads t [(CAN_STATUS_STATE k, 1), (CAN_STATUS_REC k, rec % 2 ^ (CAN_STATUS_REC k).w), (CAN_STATUS_TEC k, tec % 2 ^ (CAN_STATUS_TEC k).w)] ∧
        RegsBut [CAN_STATUS_STATE k, CAN_STATUS_REC k, CAN_STATUS_TEC k] ((s.record .canPassive [k])) t ∧
        t = { (s.record .canPassive [k]) with regs := t.regs })) ∧
    (∀ (s : State) (k rec tec : Nat),
      s.stopSafe = true →
      s.canOn k = true →
      (rec < 128 ∧ tec < 128) ∨ s.get (CAN_STATUS_STATE k) = 1 →
      Does (.canErrorPassive k rec tec) s (fun t =>
        Reads t [(CAN_STATUS_STATE k, if 128 ≤ rec ∨ 128 ≤ tec then 1 else 0), (CAN_STATUS_REC k, rec % 2 ^ (CAN_STATUS_REC k).w), (CAN_STATUS_TEC k, tec % 2 ^ (CAN_STATUS_TEC k).w)] ∧
        RegsBut [CAN_STATUS_STATE k, CAN_STATUS_REC k, CAN_STATUS_TEC k] s t ∧
        OnlyRegs s t)) ∧
    (∀ (s : State) (k rec tec : Nat),
      s.stopSafe = true →
      s.canOn k = false →
      Does (.canErrorPassive k rec tec) s (fun t =>
        t = s)) ∧
    (∀ (s : State) (k g : Nat) (e : Nat × CanFrame × Nat), s.canOffer k g = some e →
      e ∈ (s.can k).tx ∧ s.getBit (CAN_TXPEND_PENDING k) e.1 = true ∧ e.2.2 < g ∧
        ∀ x ∈ (s.can k).tx, s.getBit (CAN_TXPEND_PENDING k) x.1 = true → x.2.2 < g →
          canRank e.2.1 < canRank x.2.1 ∨ (canRank e.2.1 = canRank x.2.1 ∧ e.1 ≤ x.1))

/-- The ROM first restores the counters (State.restoreCounters). In the safe trim state, with REQ set, with STRAP.BOOT 0,
or with no slot to select, it enters recovery with the cause: the core pair halted and UART_0 taken. A slot that R665
selects (State.selectSlot) is booted (State.bootSlot): the main firmware is entered when header, Rook, MP and main
components are accepted, otherwise the slot is BAD and selection goes on; with a slot named by the strap, recovery
follows. With the core pair running, the spent try of a NEW slot is counted and ROOK_COLD asserts, else the slot
booted before is booted again. The main firmware starts once: settings (without a copy that qualifies NET_EN stays
clear, with a record), released cores, the loads due, the GNSS start (State.gnssStart). A component due is loaded,
starting Rook or MP, or marked LOAD_FAIL with a record. Recovery packets are answered and act: WRITE in order to the
target, else with a free STATUS; VERIFY; COMMIT after a pass, else with a free STATUS; RESET as MONITOR. A core's
fault halts it and frees what it owns. Where its conditions do not hold each of these commands changes nothing. (What
an OTP hash accepts is a free value: log 4.) (Rests on: R110, R160, R229, R593, R664, R665, R666, R667, R671, R673,
R674.) -/
def Obligations.BootRecoveryAndComponentLoads : Prop :=
    (∀ (s : State) (u : State),
      s.stopSafe = true →
      s.boot.core0Rom = true →
      s.domOff 4 = false →
      s.bit BOOT_STATUS_RECOVERY = false →
      u = s.restoreCounters →
      s.bit TRIM_STATUS_SAFE = true →
      Does (.bootRomStart) s (fun t =>
        Reads t [(BOOT_STATUS_RECOVERY, 1), (BOOT_STATUS_CAUSE, 3), (ROOK_STATE_HALTED, 1), (MON_STATUS_HELD, 1), (UART_STATUS_OWNED 0, 1), (ROOK_STATE_STOP, s.get ROOK_STATE_STOP)] ∧
        t = u.enterRecovery 3)) ∧
    (∀ (s : State) (u : State),
      s.stopSafe = true →
      s.boot.core0Rom = true →
      s.domOff 4 = false →
      s.bit BOOT_STATUS_RECOVERY = false →
      u = s.restoreCounters →
      s.bit TRIM_STATUS_SAFE = false →
      s.bit ROOK_STATE_HALTED = true →
      s.flash.desc.req = 1 →
      Does (.bootRomStart) s (fun t =>
        Reads t [(BOOT_STATUS_RECOVERY, 1), (BOOT_STATUS_CAUSE, 4), (ROOK_STATE_HALTED, 1), (MON_STATUS_HELD, 1), (UART_STATUS_OWNED 0, 1), (ROOK_STATE_STOP, s.get ROOK_STATE_STOP)] ∧
        t.flash.desc = { s.flash.desc with req := 0, seq := s.flash.desc.seq + 1 } ∧
        t = State.enterRecovery (u.writeDesc (fun d => { d with req := 0 })) 4)) ∧
    (∀ (s : State) (u : State),
      s.stopSafe = true →
      s.boot.core0Rom = true →
      s.domOff 4 = false →
      s.bit BOOT_STATUS_RECOVERY = false →
      u = s.restoreCounters →
      s.bit TRIM_STATUS_SAFE = false →
      s.bit ROOK_STATE_HALTED = true →
      s.flash.desc.req ≠ 1 →
      s.get STRAP_BOOT = 0 →
      Does (.bootRomStart) s (fun t =>
        Reads t [(BOOT_STATUS_RECOVERY, 1), (BOOT_STATUS_CAUSE, 1), (ROOK_STATE_HALTED, 1), (MON_STATUS_HELD, 1), (UART_STATUS_OWNED 0, 1), (ROOK_STATE_STOP, s.get ROOK_STATE_STOP)] ∧
        t.flash = s.flash ∧
        t = u.enterRecovery 1)) ∧
    (∀ (s : State) (u : State),
      s.stopSafe = true →
      s.boot.core0Rom = true →
      s.domOff 4 = false →
      s.bit BOOT_STATUS_RECOVERY = false →
      u = s.restoreCounters →
      s.bit TRIM_STATUS_SAFE = false →
      s.bit ROOK_STATE_HALTED = true →
      s.flash.desc.req ≠ 1 →
      s.get STRAP_BOOT ≠ 0 →
      u.selectSlot.2 = none →
      Does (.bootRomStart) s (fun t =>
        Reads t [(BOOT_STATUS_RECOVERY, 1), (BOOT_STATUS_CAUSE, 2), (ROOK_STATE_HALTED, 1), (MON_STATUS_HELD, 1), (UART_STATUS_OWNED 0, 1), (ROOK_STATE_STOP, s.get ROOK_STATE_STOP)] ∧
        t = u.selectSlot.1.enterRecovery 2)) ∧
    (∀ (s : State) (u : State) (k : Nat),
      s.stopSafe = true →
      s.boot.core0Rom = true →
      s.domOff 4 = false →
      s.bit BOOT_STATUS_RECOVERY = false →
      u = s.restoreCounters →
      s.bit TRIM_STATUS_SAFE = false →
      s.bit ROOK_STATE_HALTED = true →
      s.flash.desc.req ≠ 1 →
      k < 2 →
      s.get STRAP_BOOT = k + 2 →
      s.flash.desc.st k ≠ 0 ∧ s.flash.desc.st k ≠ 3 →
      Does (.bootRomStart) s (fun t =>
        t = (if (u.bootSlot true k).2 = true then (u.bootSlot true k).1 else State.enterRecovery ((u.bootSlot true k).1.writeSt k 3) 2) ∧
        (if (s.headerOk (s.slotHeader k) && typeOk (s.slotBytes k) (s.slotHeader k) 1 && typeOk (s.slotBytes k) (s.slotHeader k) 2 && typeOk (s.slotBytes k) (s.slotHeader k) 3) = true then (t.boot.core0Rom = false ∧ t.boot.header = some (s.slotHeader k) ∧ t.boot.started = false ∧ t.boot.loaded = [] ∧ Reads t [(BOOT_STATUS_SLOT, k), (BOOT_STATUS_TRIAL, b2n (s.flash.desc.st k == 1)), (REC_STATUS_RESTORE_OPEN, 0)] ∧ t.flash = s.flash) else (t.flash.desc.st k = 3 ∧ Reads t [(BOOT_STATUS_RECOVERY, 1), (BOOT_STATUS_CAUSE, 2)])))) ∧
    (∀ (s : State) (u : State) (k : Nat) (v : State),
      s.stopSafe = true →
      s.boot.core0Rom = true →
      s.domOff 4 = false →
      s.bit BOOT_STATUS_RECOVERY = false →
      u = s.restoreCounters →
      s.bit TRIM_STATUS_SAFE = false →
      s.bit ROOK_STATE_HALTED = true →
      s.flash.desc.req ≠ 1 →
      u.selectSlot.2 = some k →
      v = u.selectSlot.1 →
      Does (.bootRomStart) s (fun t =>
        t = (if (v.bootSlot true k).2 = true then (v.bootSlot true k).1 else State.bootLoop 2 ((v.bootSlot true k).1.writeSt k 3)))) ∧
    (∀ (s : State) (u : State) (k : Nat),
      s.stopSafe = true →
      s.boot.core0Rom = true →
      s.domOff 4 = false →
      s.bit BOOT_STATUS_RECOVERY = false →
      u = s.restoreCounters →
      s.bit TRIM_STATUS_SAFE = false →
      s.bit ROOK_STATE_HALTED = false →
      k = s.get BOOT_STATUS_SLOT →
      s.flash.desc.st k = 1 →
      u.get RST_CAUSE_CAUSE = 10 →
      Does (.bootRomStart) s (fun t =>
        t.flash.desc = { s.flash.desc.slot k 1 (s.flash.desc.tries k - 1) (s.flash.desc.img k) with seq := s.flash.desc.seq + 1 } ∧
        Asserted 7 t ∧
        t = State.relayGate (State.assertSource (u.writeDesc (fun d => d.slot k 1 (d.tries k - 1) (d.img k))) 7 0))) ∧
    (∀ (s : State) (u : State) (k : Nat),
      s.stopSafe = true →
      s.boot.core0Rom = true →
      s.domOff 4 = false →
      s.bit BOOT_STATUS_RECOVERY = false →
      u = s.restoreCounters →
      s.bit TRIM_STATUS_SAFE = false →
      s.bit ROOK_STATE_HALTED = false →
      k = s.get BOOT_STATUS_SLOT →
      s.flash.desc.st k ≠ 1 ∨ u.get RST_CAUSE_CAUSE ≠ 10 →
      Does (.bootRomStart) s (fun t =>
        t = (if (u.bootSlot false k).2 = true then (u.bootSlot false k).1 else State.bootSelect ((u.bootSlot false k).1.writeSt k 3)))) ∧
    (∀ (s : State),
      s.stopSafe = true →
      s.boot.core0Rom = false ∨ s.domOff 4 = true ∨ s.bit BOOT_STATUS_RECOVERY = true →
      Does (.bootRomStart) s (fun t =>
        t = s)) ∧
    (∀ (s : State) (alm moved : Nat) (sky : List SkySig) (u v : State),
      s.stopSafe = true →
      s.boot.core0Rom = false →
      s.boot.started = false →
      s.domOff 4 = false →
      s.settingsPick = none →
      u = State.record { s.put MAC_CTRL_NET_EN 0 with boot := { s.boot with settings := none, settingsRole := none } } .settingsNone →
      v = { u with boot := { u.boot with started := true }, rst := { u.rst with halted := u.rst.halted.filter (fun x => s.domOff 5 && decide (8 ≤ x)) } } →
      Does (.mainFirmwareStart alm moved sky) s (fun t =>
        t.boot.started = true ∧
        (t.boot.settings, t.boot.settingsRole) = (none, none) ∧
        t.rst.halted = s.rst.halted.filter (fun x => s.domOff 5 && decide (8 ≤ x)) ∧
        Reads t [(MAC_CTRL_NET_EN, 0)] ∧
        t = State.gnssStart ([4, 5, 6].foldl (fun w x => if w.loadDue x then w.loadComp x else w) v) alm moved sky)) ∧
    (∀ (s : State) (alm moved k : Nat) (sky : List SkySig) (c : SetCopy),
      s.stopSafe = true →
      s.boot.core0Rom = false →
      s.boot.started = false →
      s.domOff 4 = false →
      s.settingsPick = some (k, c) →
      Does (.mainFirmwareStart alm moved sky) s (fun t =>
        t.boot.started = true ∧
        (t.boot.settings, t.boot.settingsRole) = (some k, Config.settingsRole c.body) ∧
        t.rst.halted = s.rst.halted.filter (fun x => s.domOff 5 && decide (8 ≤ x)) ∧
        t = State.gnssStart ([4, 5, 6].foldl (fun w x => if w.loadDue x then w.loadComp x else w) { s.settingsStart.settingsUse with boot := { s.settingsStart.settingsUse.boot with started := true }, rst := { s.settingsStart.settingsUse.rst with halted := s.settingsStart.settingsUse.rst.halted.filter (fun x => s.domOff 5 && decide (8 ≤ x)) } }) alm moved sky)) ∧
    (∀ (s : State) (alm moved : Nat) (sky : List SkySig),
      s.stopSafe = true →
      s.boot.core0Rom = true ∨ s.boot.started = true ∨ s.domOff 4 = true →
      Does (.mainFirmwareStart alm moved sky) s (fun t =>
        t = s)) ∧
    (∀ (s : State) (c : Nat) (h b : List Nat),
      s.stopSafe = true →
      3 ≤ c →
      s.boot.started = true →
      s.loadDue c = true →
      s.boot.header = some h →
      b = s.slotBytes (s.get BOOT_STATUS_SLOT) →
      typeOk b h c = true →
      Does (.componentLoad c) s (fun t =>
        t.boot = { s.boot with loaded := c :: s.boot.loaded.filter (· ≠ c) } ∧
        RegsBut [] s t ∧
        t = { s with regs := t.regs, boot := t.boot })) ∧
    (∀ (s : State) (c : Nat) (h b : List Nat),
      s.stopSafe = true →
      c = 1 →
      s.boot.started = true →
      s.loadDue c = true →
      s.boot.header = some h →
      b = s.slotBytes (s.get BOOT_STATUS_SLOT) →
      typeOk b h c = true →
      Does (.componentLoad c) s (fun t =>
        Reads t [(ROOK_STATE_HALTED, 0), (ROOK_STATE_STOP, s.get ROOK_STATE_STOP)] ∧
        t.rook.wdogOn = true ∧
        t = s.rookStart)) ∧
    (∀ (s : State) (c : Nat) (h b : List Nat) (i : Nat),
      s.stopSafe = true →
      c = 2 →
      s.boot.started = true →
      s.loadDue c = true →
      s.boot.header = some h →
      b = s.slotBytes (s.get BOOT_STATUS_SLOT) →
      typeOk b h c = true →
      compIdx h c = some i →
      Does (.componentLoad c) s (fun t =>
        t.mp = { s.mp with running := true, image := compBytes b h i } ∧
        Reads t [(MP_CRC_CRC, crc32c (compBytes b h i) % 2 ^ 32)] ∧
        (List.range 4).all (fun w => t.get (MP_VERSION_TEXT w) == leAt (imgVersion h) (4 * w) 4) = true ∧
        RegsBut [MP_CRC_CRC, MP_VERSION_TEXT 0, MP_VERSION_TEXT 1, MP_VERSION_TEXT 2, MP_VERSION_TEXT 3] s t ∧
        t = { s with regs := t.regs, mp := t.mp })) ∧
    (∀ (s : State) (c : Nat) (h b : List Nat),
      s.stopSafe = true →
      s.boot.started = true →
      s.loadDue c = true →
      s.boot.header = some h →
      b = s.slotBytes (s.get BOOT_STATUS_SLOT) →
      typeOk b h c = false →
      Does (.componentLoad c) s (fun t =>
        Reads t [(BOOT_STATUS_LOAD_FAIL, 1)] ∧
        RegsBut [BOOT_STATUS_LOAD_FAIL] ((s.record .loadFail [c])) t ∧
        t = { (s.record .loadFail [c]) with regs := t.regs })) ∧
    (∀ (s : State) (c : Nat),
      s.stopSafe = true →
      s.boot.started = false ∨ s.loadDue c = false ∨ s.boot.header = none →
      Does (.componentLoad c) s (fun t =>
        t = s)) ∧
    (∀ (s : State) (c : Nat) (u : State),
      s.stopSafe = true →
      c < 16 →
      s.rst.halted.contains c = false →
      u = ownerReset (0x10 + c) s →
      Does (.unrecoverableFault c) s (fun t =>
        (List.range 64).all (fun n => !(s.bit (SEM_HELD n) && s.get (SEM_OWNER n) == 0x10 + c) || (t.get (SEM_HELD n) == 0 && t.get (SEM_OWNER_RESET n) == 1)) = true ∧
        (List.range 12).all (fun k => s.get (CRC_CTRL_OWNER k) != 0x10 + c || t.get (CRC_CTRL_OWNER k) == 0) = true ∧
        t = { u with rst := { u.rst with halted := u.rst.halted ++ [c] } })) ∧
    (∀ (s : State) (u : State),
      s.stopSafe = true →
      s.mp.running = true →
      u = ownerReset 0x31 s →
      Does (.unrecoverableFault 16) s (fun t =>
        (List.range 64).all (fun n => !(s.bit (SEM_HELD n) && s.get (SEM_OWNER n) == 0x31) || (t.get (SEM_HELD n) == 0 && t.get (SEM_OWNER_RESET n) == 1)) = true ∧
        (List.range 12).all (fun k => s.get (CRC_CTRL_OWNER k) != 0x31 || t.get (CRC_CTRL_OWNER k) == 0) = true ∧
        t = { u with mp := { u.mp with running := false } })) ∧
    (∀ (s : State) (c : Nat),
      s.stopSafe = true →
      (c < 16 ∧ s.rst.halted.contains c = true) ∨ (c = 16 ∧ s.mp.running = false) ∨ 16 < c →
      Does (.unrecoverableFault c) s (fun t =>
        t = s)) ∧
    (∀ (s : State) (pkt : List Nat),
      s.stopSafe = true →
      s.recTakes 1 pkt = true →
      Does (.recoveryHello pkt) s (fun t =>
        t.out = s.out ++ [Output.recovery (recAnswer pkt (0) (serialBytes ++ leBytes 4 Config.romVersion ++ leBytes 4 s.strapWord ++ [s.get BOOT_STATUS_CAUSE]))] ∧
        RegsBut [] s t ∧
        t = { s with regs := t.regs, out := t.out })) ∧
    (∀ (s : State) (pkt : List Nat) (off n : Nat),
      s.stopSafe = true →
      s.recTakes 2 pkt = true →
      off = leAt pkt 8 4 →
      n = leAt pkt 12 2 →
      off = s.boot.recNext ∨ off = 0 →
      off + n ≤ 25165824 →
      Does (.recoveryWrite pkt) s (fun t =>
        t.slotBytes s.recTarget = (s.slotBytes s.recTarget).take off ++ byteRun pkt 16 n ∧
        t.slotBytes (1 - s.recTarget) = s.slotBytes (1 - s.recTarget) ∧
        t.boot = { s.boot with recNext := off + n, recOk := false } ∧
        t.flash = { s.flash with slot0 := t.flash.slot0, slot1 := t.flash.slot1 } ∧
        t.out = s.out ++ [Output.recovery (recAnswer pkt (0) [])] ∧
        RegsBut [] s t ∧
        t = { s with regs := t.regs, flash := t.flash, boot := t.boot, out := t.out })) ∧
    (∀ (s : State) (pkt : List Nat) (off n : Nat),
      s.stopSafe = true →
      s.recTakes 2 pkt = true →
      off = leAt pkt 8 4 →
      n = leAt pkt 12 2 →
      (off ≠ s.boot.recNext ∧ off ≠ 0) ∨ 25165824 < off + n →
      Does (.recoveryWrite pkt) s (fun t =>
        ∃ st : Nat, t = { s with out := s.out ++ [Output.recovery (recAnswer pkt st [])], freeCtr := t.freeCtr })) ∧
    (∀ (s : State) (pkt : List Nat),
      s.stopSafe = true →
      s.recTakes 1 pkt = false →
      Does (.recoveryHello pkt) s (fun t =>
        t = s)) ∧
    (∀ (s : State) (pkt : List Nat),
      s.stopSafe = true →
      s.recTakes 2 pkt = false →
      Does (.recoveryWrite pkt) s (fun t =>
        t = s)) ∧
    (∀ (s : State) (pkt : List Nat),
      s.stopSafe = true →
      s.recTakes 3 pkt = false →
      Does (.recoveryVerify pkt) s (fun t =>
        t = s)) ∧
    (∀ (s : State) (pkt : List Nat),
      s.stopSafe = true →
      s.recTakes 4 pkt = false →
      Does (.recoveryCommit pkt) s (fun t =>
        t = s)) ∧
    (∀ (s : State) (pkt : List Nat),
      s.stopSafe = true →
      s.recTakes 5 pkt = false →
      Does (.recoveryReset pkt) s (fun t =>
        t = s)) ∧
    (∀ (s : State) (pkt : List Nat),
      s.stopSafe = true →
      s.recTakes 3 pkt = true →
      Does (.recoveryVerify pkt) s (fun t =>
        t.boot = { s.boot with recOk := s.slotOk s.recTarget } ∧
        t.out = s.out ++ [Output.recovery (recAnswer pkt (b2n (!s.slotOk s.recTarget)) [])] ∧
        RegsBut [] s t ∧
        t = { s with regs := t.regs, boot := t.boot, out := t.out })) ∧
    (∀ (s : State) (pkt : List Nat),
      s.stopSafe = true →
      s.recTakes 4 pkt = true →
      s.boot.recOk = true →
      Does (.recoveryCommit pkt) s (fun t =>
        t.flash.desc = { s.flash.desc.slot s.recTarget 1 3 (max s.flash.desc.img0 s.flash.desc.img1 + 1) with seq := s.flash.desc.seq + 1 } ∧
        t.flash = (s.writeNew s.recTarget).flash ∧
        t.out = s.out ++ [Output.recovery (recAnswer pkt (0) [])] ∧
        RegsBut [] s t ∧
        t = { s with regs := t.regs, flash := t.flash, out := t.out })) ∧
    (∀ (s : State) (pkt : List Nat),
      s.stopSafe = true →
      s.recTakes 4 pkt = true →
      s.boot.recOk = false →
      Does (.recoveryCommit pkt) s (fun t =>
        ∃ st : Nat, t = { s with out := s.out ++ [Output.recovery (recAnswer pkt st [])], freeCtr := t.freeCtr })) ∧
    (∀ (s : State) (pkt : List Nat),
      s.stopSafe = true →
      s.recTakes 5 pkt = true →
      Does (.recoveryReset pkt) s (fun t =>
        Asserted 12 t ∧
        t.out = s.out ++ [Output.recovery (recAnswer pkt (0) [])] ∧
        AssertFrame 12 { s with out := t.out } t))

/-- No opcode of the group runs in an unauthenticated session (AUTH_FAIL). UPD_BEGIN opens the one transfer: of an image
for the slot not booted, which is written EMPTY, or of a settings copy; a target above 1, a length of 0 or beyond the
slot or the copy, or a byte of 0 that is not 0 is BAD_PARAM, and another session's open transfer denies it. UPD_DATA
takes the next bytes and no others (BAD_PARAM), and is denied without a transfer of the session, as UPD_END is.
UPD_END with the right length and CRC makes an accepted slot NEW with TRIES 3 and IMG_SEQ one above the larger and
answers its VERSION and SVN, or writes the settings copy ACCEPTED where its header is valid (settingsValid; the
answer's 20 bytes are free, log 28); otherwise BAD_PARAM; the transfer is over. UPD_ACTIVATE arms ROOK_COLD for 1 ms
later while a slot is NEW and no handover is pending, else DENIED. UPD_CONFIRM writes the booted NEW slot GOOD, clears
TRIAL, raises MIN_SVN up to 32 and accepts its PENDING settings, else DENIED. UPD_STATUS answers the descriptor in
force and BOOT_STATUS. (What an OTP hash accepts is free: log 4; the settings' WRITER: log 28.) (Rests on: R660, R663,
R668, R669, R670, R671, R672, R183.) -/
def Obligations.UpdatesAreWrittenAndConfirmed : Prop :=
    (∀ (s : State) (sess tag : Nat) (n : Nat),
      s.stopSafe = true →
      s.accepts 0x0D00 sess tag false = true →
      (s.session sess).map (fun (y : EcpSession) => y.auth) = some true →
      1 ≤ n ∧ n ≤ 25165824 →
      (s.boot.upd.all (fun (u : Transfer) => u.sess == sess)) = true →
      Does (.updBegin sess tag (([0, 0, 0, 0] ++ leBytes 4 n))) s (fun t =>
        answers s t [] 0x0D00 sess tag Ecp.OK (crc32c ([0, 0, 0, 0] ++ leBytes 4 n)) [s.updSlot, 0, 0, 0] = true ∧
        t.boot = { s.boot with upd := some { sess := sess, settings := false, slot := s.updSlot, len := n } } ∧
        t.flash.desc = { s.flash.desc.slot s.updSlot 0 0 (s.flash.desc.img s.updSlot) with seq := s.flash.desc.seq + 1 } ∧
        t.slotBytes s.updSlot = [] ∧
        t.slotBytes (1 - s.updSlot) = s.slotBytes (1 - s.updSlot) ∧
        t.flash = { s.flash with desc0 := t.flash.desc0, desc1 := t.flash.desc1, slot0 := t.flash.slot0, slot1 := t.flash.slot1 } ∧
        RegsBut [] s t ∧
        t = { s with regs := t.regs, boot := t.boot, flash := t.flash, ecp := t.ecp, out := t.out })) ∧
    (∀ (s : State) (sess tag : Nat) (n : Nat),
      s.stopSafe = true →
      s.accepts 0x0D00 sess tag false = true →
      (s.session sess).map (fun (y : EcpSession) => y.auth) = some true →
      1 ≤ n ∧ n ≤ 1048576 →
      (s.boot.upd.all (fun (u : Transfer) => u.sess == sess)) = true →
      Does (.updBegin sess tag (([1, 0, 0, 0] ++ leBytes 4 n))) s (fun t =>
        answers s t [] 0x0D00 sess tag Ecp.OK (crc32c ([1, 0, 0, 0] ++ leBytes 4 n)) [s.updCopy, 0, 0, 0] = true ∧
        t.boot = { s.boot with upd := some { sess := sess, settings := true, slot := s.updCopy, len := n } } ∧
        RegsBut [] s t ∧
        t = { s with regs := t.regs, boot := t.boot, ecp := t.ecp, out := t.out })) ∧
    (∀ (s : State) (sess tag : Nat) (n tg : Nat),
      s.stopSafe = true →
      s.accepts 0x0D00 sess tag false = true →
      (s.session sess).map (fun (y : EcpSession) => y.auth) = some true →
      tg < 256 →
      n < 2 ^ 32 →
      2 ≤ tg ∨ n = 0 ∨ (if tg = 0 then 25165824 else 1048576) < n →
      Does (.updBegin sess tag (([tg, 0, 0, 0] ++ leBytes 4 n))) s (fun t =>
        answers s t [] 0x0D00 sess tag Ecp.BAD_PARAM (crc32c ([tg, 0, 0, 0] ++ leBytes 4 n)) [] = true ∧
        RegsBut [] s t ∧
        t = { s with regs := t.regs, ecp := t.ecp, out := t.out })) ∧
    (∀ (s : State) (sess tag : Nat) (n tg p q : Nat),
      s.stopSafe = true →
      s.accepts 0x0D00 sess tag false = true →
      (s.session sess).map (fun (y : EcpSession) => y.auth) = some true →
      p + q ≠ 0 →
      p < 256 →
      q < 65536 →
      Does (.updBegin sess tag (([tg, p] ++ leBytes 2 q ++ leBytes 4 n))) s (fun t =>
        answers s t [] 0x0D00 sess tag Ecp.BAD_PARAM (crc32c ([tg, p] ++ leBytes 2 q ++ leBytes 4 n)) [] = true ∧
        RegsBut [] s t ∧
        t = { s with regs := t.regs, ecp := t.ecp, out := t.out })) ∧
    (∀ (s : State) (sess tag : Nat) (n tg : Nat),
      s.stopSafe = true →
      s.accepts 0x0D00 sess tag false = true →
      (s.session sess).map (fun (y : EcpSession) => y.auth) = some true →
      tg < 2 →
      1 ≤ n ∧ n ≤ (if tg = 0 then 25165824 else 1048576) →
      s.boot.upd.any (fun (u : Transfer) => u.sess != sess) = true →
      Does (.updBegin sess tag (([tg, 0, 0, 0] ++ leBytes 4 n))) s (fun t =>
        answers s t [] 0x0D00 sess tag Ecp.DENIED (crc32c ([tg, 0, 0, 0] ++ leBytes 4 n)) [] = true ∧
        RegsBut [] s t ∧
        t = { s with regs := t.regs, ecp := t.ecp, out := t.out })) ∧
    (∀ (s : State) (sess tag : Nat) (u : Transfer) (d : List Nat),
      s.stopSafe = true →
      s.accepts 0x0D01 sess tag false = true →
      (s.session sess).map (fun (y : EcpSession) => y.auth) = some true →
      s.updOf sess = some u →
      u.settings = false →
      1 ≤ d.length ∧ d.length ≤ 1400 →
      u.data.length + d.length ≤ u.len →
      u.len < 2 ^ 32 →
      Does (.updData sess tag ((leBytes 4 u.data.length ++ leBytes 2 d.length ++ [0, 0] ++ d))) s (fun t =>
        answers s t [] 0x0D01 sess tag Ecp.OK (crc32c (leBytes 4 u.data.length ++ leBytes 2 d.length ++ [0, 0] ++ d)) [] = true ∧
        t.boot = { s.boot with upd := some { u with data := u.data ++ d } } ∧
        t.flash = (if u.slot = 0 then { s.flash with slot0 := u.data ++ d } else { s.flash with slot1 := u.data ++ d }) ∧
        RegsBut [] s t ∧
        t = { s with regs := t.regs, boot := t.boot, flash := t.flash, ecp := t.ecp, out := t.out })) ∧
    (∀ (s : State) (sess tag : Nat) (u : Transfer) (d : List Nat),
      s.stopSafe = true →
      s.accepts 0x0D01 sess tag false = true →
      (s.session sess).map (fun (y : EcpSession) => y.auth) = some true →
      s.updOf sess = some u →
      u.settings = true →
      1 ≤ d.length ∧ d.length ≤ 1400 →
      u.data.length + d.length ≤ u.len →
      u.len < 2 ^ 32 →
      Does (.updData sess tag ((leBytes 4 u.data.length ++ leBytes 2 d.length ++ [0, 0] ++ d))) s (fun t =>
        answers s t [] 0x0D01 sess tag Ecp.OK (crc32c (leBytes 4 u.data.length ++ leBytes 2 d.length ++ [0, 0] ++ d)) [] = true ∧
        t.boot = { s.boot with upd := some { u with data := u.data ++ d } } ∧
        RegsBut [] s t ∧
        t = { s with regs := t.regs, boot := t.boot, ecp := t.ecp, out := t.out })) ∧
    (∀ (s : State) (sess tag : Nat) (u : Transfer) (d : List Nat) (off : Nat),
      s.stopSafe = true →
      s.accepts 0x0D01 sess tag false = true →
      (s.session sess).map (fun (y : EcpSession) => y.auth) = some true →
      s.updOf sess = some u →
      d.length < 65536 →
      off < 2 ^ 32 →
      d.length = 0 ∨ 1400 < d.length ∨ off ≠ u.data.length ∨ u.len < off + d.length →
      Does (.updData sess tag ((leBytes 4 off ++ leBytes 2 d.length ++ [0, 0] ++ d))) s (fun t =>
        answers s t [] 0x0D01 sess tag Ecp.BAD_PARAM (crc32c (leBytes 4 off ++ leBytes 2 d.length ++ [0, 0] ++ d)) [] = true ∧
        RegsBut [] s t ∧
        t = { s with regs := t.regs, ecp := t.ecp, out := t.out })) ∧
    (∀ (s : State) (sess tag : Nat) (d : List Nat) (off z : Nat),
      s.stopSafe = true →
      s.accepts 0x0D01 sess tag false = true →
      (s.session sess).map (fun (y : EcpSession) => y.auth) = some true →
      d.length < 65536 →
      z ≠ 0 →
      z < 65536 →
      Does (.updData sess tag ((leBytes 4 off ++ leBytes 2 d.length ++ leBytes 2 z ++ d))) s (fun t =>
        answers s t [] 0x0D01 sess tag Ecp.BAD_PARAM (crc32c (leBytes 4 off ++ leBytes 2 d.length ++ leBytes 2 z ++ d)) [] = true ∧
        RegsBut [] s t ∧
        t = { s with regs := t.regs, ecp := t.ecp, out := t.out })) ∧
    (∀ (s : State) (sess tag : Nat) (d : List Nat) (off : Nat),
      s.stopSafe = true →
      s.accepts 0x0D01 sess tag false = true →
      (s.session sess).map (fun (y : EcpSession) => y.auth) = some true →
      s.updOf sess = none →
      d.length < 65536 →
      Does (.updData sess tag ((leBytes 4 off ++ leBytes 2 d.length ++ [0, 0] ++ d))) s (fun t =>
        answers s t [] 0x0D01 sess tag Ecp.DENIED (crc32c (leBytes 4 off ++ leBytes 2 d.length ++ [0, 0] ++ d)) [] = true ∧
        RegsBut [] s t ∧
        t = { s with regs := t.regs, ecp := t.ecp, out := t.out })) ∧
    (∀ (s : State) (sess tag : Nat) (x : EcpSession) (u : Transfer) (c : Nat),
      s.stopSafe = true →
      s.accepts 0x0D02 sess tag false = true →
      (s.session sess).map (fun (y : EcpSession) => y.auth) = some true →
      s.session sess = some x →
      x.devSeq + 1 < 0xFFFFFFFF →
      sess ≠ 8 ∨ s.ecp.spiOut.length < 15 →
      s.updOf sess = some u →
      c < 2 ^ 32 →
      u.settings = false →
      u.data.length = u.len →
      crc32c u.data = c →
      Does (.updEnd sess tag (leBytes 4 c)) s (fun t =>
        (if s.slotOk u.slot = true then (answersLater s t 0x0D02 sess tag Ecp.OK (crc32c (leBytes 4 c)) (imgVersion (s.slotHeader u.slot) ++ leBytes 4 (imgSvn (s.slotHeader u.slot))) = true ∧ t.flash.desc = { s.flash.desc.slot u.slot 1 3 (max s.flash.desc.img0 s.flash.desc.img1 + 1) with seq := s.flash.desc.seq + 1 }) else (answersLater s t 0x0D02 sess tag Ecp.BAD_PARAM (crc32c (leBytes 4 c)) [] = true ∧ t.flash = s.flash)) ∧
        t.flash = { s.flash with desc0 := t.flash.desc0, desc1 := t.flash.desc1 } ∧
        t = { s with boot := { s.boot with upd := none }, flash := t.flash, ecp := t.ecp, out := t.out })) ∧
    (∀ (s : State) (sess tag : Nat) (x : EcpSession) (u : Transfer) (c : Nat),
      s.stopSafe = true →
      s.accepts 0x0D02 sess tag false = true →
      (s.session sess).map (fun (y : EcpSession) => y.auth) = some true →
      s.session sess = some x →
      x.devSeq + 1 < 0xFFFFFFFF →
      sess ≠ 8 ∨ s.ecp.spiOut.length < 15 →
      s.updOf sess = some u →
      c < 2 ^ 32 →
      u.data.length ≠ u.len ∨ crc32c u.data ≠ c →
      Does (.updEnd sess tag (leBytes 4 c)) s (fun t =>
        answersLater s t 0x0D02 sess tag Ecp.BAD_PARAM (crc32c (leBytes 4 c)) [] = true ∧
        t.flash = s.flash ∧
        t = { s with boot := { s.boot with upd := none }, flash := t.flash, ecp := t.ecp, out := t.out })) ∧
    (∀ (s : State) (sess tag : Nat) (x : EcpSession) (u : Transfer) (c : Nat),
      s.stopSafe = true →
      s.accepts 0x0D02 sess tag false = true →
      (s.session sess).map (fun (y : EcpSession) => y.auth) = some true →
      s.session sess = some x →
      x.devSeq + 1 < 0xFFFFFFFF →
      sess ≠ 8 ∨ s.ecp.spiOut.length < 15 →
      s.updOf sess = some u →
      c < 2 ^ 32 →
      u.settings = true →
      u.data.length = u.len →
      crc32c u.data = c →
      Does (.updEnd sess tag (leBytes 4 c)) s (fun t =>
        ∃ w : Nat, answersLater s t 0x0D02 sess tag Ecp.OK (crc32c (leBytes 4 c)) (leBytes 20 w) = true ∧
        t.setCopy u.slot = (if settingsValid u.data = true then some ({ format := leAt u.data 4 2, state := 2, gen := leAt u.data 8 4, writer := Config.settingsWriter u.data, body := u.data.drop 32 } : SetCopy) else none) ∧
        t.flash = (if u.slot = 0 then { s.flash with set0 := t.flash.set0 } else { s.flash with set1 := t.flash.set1 }) ∧
        t = { s with boot := { s.boot with upd := none }, flash := t.flash, ecp := t.ecp, out := t.out, freeCtr := t.freeCtr })) ∧
    (∀ (s : State) (sess tag : Nat) (c : Nat),
      s.stopSafe = true →
      s.accepts 0x0D02 sess tag false = true →
      (s.session sess).map (fun (y : EcpSession) => y.auth) = some true →
      s.updOf sess = none →
      Does (.updEnd sess tag (leBytes 4 c)) s (fun t =>
        answers s t [] 0x0D02 sess tag Ecp.DENIED (crc32c (leBytes 4 c)) [] = true ∧
        RegsBut [] s t ∧
        t = { s with regs := t.regs, ecp := t.ecp, out := t.out })) ∧
    (∀ (s : State) (sess tag : Nat),
      s.stopSafe = true →
      s.accepts 0x0D03 sess tag false = true →
      (s.session sess).map (fun (y : EcpSession) => y.auth) = some true →
      s.flash.desc.st0 = 1 ∨ s.flash.desc.st1 = 1 →
      s.bit PAIR_STATUS_HANDOVER_PEND = false →
      Does (.updActivate sess tag) s (fun t =>
        answers s t [] 0x0D03 sess tag Ecp.OK (crc32c []) [] = true ∧
        t.boot = { s.boot with coldAt := some (s.ply + 100) } ∧
        RegsBut [] s t ∧
        t = { s with regs := t.regs, boot := t.boot, ecp := t.ecp, out := t.out })) ∧
    (∀ (s : State) (sess tag : Nat),
      s.stopSafe = true →
      s.accepts 0x0D03 sess tag false = true →
      (s.session sess).map (fun (y : EcpSession) => y.auth) = some true →
      (s.flash.desc.st0 ≠ 1 ∧ s.flash.desc.st1 ≠ 1) ∨ s.bit PAIR_STATUS_HANDOVER_PEND = true →
      Does (.updActivate sess tag) s (fun t =>
        answers s t [] 0x0D03 sess tag Ecp.DENIED (crc32c []) [] = true ∧
        RegsBut [] s t ∧
        t = { s with regs := t.regs, ecp := t.ecp, out := t.out })) ∧
    (∀ (s : State) (sess tag : Nat) (v k : Nat),
      s.stopSafe = true →
      s.accepts 0x0D04 sess tag false = true →
      (s.session sess).map (fun (y : EcpSession) => y.auth) = some true →
      k = s.get BOOT_STATUS_SLOT →
      s.flash.desc.st k = 1 →
      v = max (s.get BOOT_STATUS_MIN_SVN) (min ((s.boot.header.map imgSvn).getD 0) 32) →
      Does (.updConfirm sess tag) s (fun t =>
        answers s t [] 0x0D04 sess tag Ecp.OK (crc32c []) [v, 0, 0, 0] = true ∧
        Reads t [(BOOT_STATUS_TRIAL, 0), (BOOT_STATUS_MIN_SVN, v)] ∧
        t.flash.desc = { s.flash.desc.slot k 2 (s.flash.desc.tries k) (s.flash.desc.img k) with seq := s.flash.desc.seq + 1 } ∧
        t.setCopy 0 = (s.setCopy 0).map (fun (c : SetCopy) => if c.state = 1 ∧ c.writer = s.ownVersion then { c with state := 2 } else c) ∧
        t.setCopy 1 = (s.setCopy 1).map (fun (c : SetCopy) => if c.state = 1 ∧ c.writer = s.ownVersion then { c with state := 2 } else c) ∧
        t.flash = { s.flash with desc0 := t.flash.desc0, desc1 := t.flash.desc1, set0 := t.flash.set0, set1 := t.flash.set1 } ∧
        RegsBut [BOOT_STATUS_TRIAL, BOOT_STATUS_MIN_SVN] s t ∧
        t = { s with regs := t.regs, flash := t.flash, ecp := t.ecp, out := t.out })) ∧
    (∀ (s : State) (sess tag : Nat),
      s.stopSafe = true →
      s.accepts 0x0D04 sess tag false = true →
      (s.session sess).map (fun (y : EcpSession) => y.auth) = some true →
      s.flash.desc.st (s.get BOOT_STATUS_SLOT) ≠ 1 →
      Does (.updConfirm sess tag) s (fun t =>
        answers s t [] 0x0D04 sess tag Ecp.DENIED (crc32c []) [] = true ∧
        RegsBut [] s t ∧
        t = { s with regs := t.regs, ecp := t.ecp, out := t.out })) ∧
    (∀ (s : State) (sess tag : Nat),
      s.stopSafe = true →
      s.accepts 0x0D05 sess tag false = true →
      (s.session sess).map (fun (y : EcpSession) => y.auth) = some true →
      Does (.updStatus sess tag) s (fun t =>
        answers s t [] 0x0D05 sess tag Ecp.OK (crc32c []) (s.flash.desc.bytes ++ leBytes 4 s.bootWord) = true ∧
        RegsBut [] s t ∧
        t = { s with regs := t.regs, ecp := t.ecp, out := t.out })) ∧
    (∀ (s : State) (sess tag : Nat) (n tg p q : Nat),
      s.stopSafe = true →
      s.accepts 0x0D00 sess tag false = true →
      (s.session sess).map (fun (y : EcpSession) => y.auth) = some false →
      Does (.updBegin sess tag (([tg, p] ++ leBytes 2 q ++ leBytes 4 n))) s (fun t =>
        answers s t [] 0x0D00 sess tag Ecp.AUTH_FAIL (crc32c ([tg, p] ++ leBytes 2 q ++ leBytes 4 n)) [] = true ∧
        RegsBut [] s t ∧
        t = { s with regs := t.regs, ecp := t.ecp, out := t.out })) ∧
    (∀ (s : State) (sess tag : Nat) (d : List Nat) (off z : Nat),
      s.stopSafe = true →
      s.accepts 0x0D01 sess tag false = true →
      (s.session sess).map (fun (y : EcpSession) => y.auth) = some false →
      d.length < 65536 →
      Does (.updData sess tag ((leBytes 4 off ++ leBytes 2 d.length ++ leBytes 2 z ++ d))) s (fun t =>
        answers s t [] 0x0D01 sess tag Ecp.AUTH_FAIL (crc32c (leBytes 4 off ++ leBytes 2 d.length ++ leBytes 2 z ++ d)) [] = true ∧
        RegsBut [] s t ∧
        t = { s with regs := t.regs, ecp := t.ecp, out := t.out })) ∧
    (∀ (s : State) (sess tag : Nat) (c : Nat),
      s.stopSafe = true →
      s.accepts 0x0D02 sess tag false = true →
      (s.session sess).map (fun (y : EcpSession) => y.auth) = some false →
      Does (.updEnd sess tag (leBytes 4 c)) s (fun t =>
        answers s t [] 0x0D02 sess tag Ecp.AUTH_FAIL (crc32c (leBytes 4 c)) [] = true ∧
        RegsBut [] s t ∧
        t = { s with regs := t.regs, ecp := t.ecp, out := t.out })) ∧
    (∀ (s : State) (sess tag : Nat),
      s.stopSafe = true →
      s.accepts 0x0D03 sess tag false = true →
      (s.session sess).map (fun (y : EcpSession) => y.auth) = some false →
      Does (.updActivate sess tag) s (fun t =>
        answers s t [] 0x0D03 sess tag Ecp.AUTH_FAIL (crc32c []) [] = true ∧
        RegsBut [] s t ∧
        t = { s with regs := t.regs, ecp := t.ecp, out := t.out })) ∧
    (∀ (s : State) (sess tag : Nat),
      s.stopSafe = true →
      s.accepts 0x0D04 sess tag false = true →
      (s.session sess).map (fun (y : EcpSession) => y.auth) = some false →
      Does (.updConfirm sess tag) s (fun t =>
        answers s t [] 0x0D04 sess tag Ecp.AUTH_FAIL (crc32c []) [] = true ∧
        RegsBut [] s t ∧
        t = { s with regs := t.regs, ecp := t.ecp, out := t.out })) ∧
    (∀ (s : State) (sess tag : Nat),
      s.stopSafe = true →
      s.accepts 0x0D05 sess tag false = true →
      (s.session sess).map (fun (y : EcpSession) => y.auth) = some false →
      Does (.updStatus sess tag) s (fun t =>
        answers s t [] 0x0D05 sess tag Ecp.AUTH_FAIL (crc32c []) [] = true ∧
        RegsBut [] s t ∧
        t = { s with regs := t.regs, ecp := t.ecp, out := t.out }))

/-- While the monitor serves, INFO answers identity and states; OPEN gives a nonce unless locked out or without random
bits; a response that verifies opens for its duration, one that does not counts as failed and the third in a row locks
OPEN out, its nonce used up either way; RECOVER writes REQ and asserts ROOK_COLD, or MONITOR where the core pair is
halted or held in reset, and does nothing but note its line under the boot ROM; CLOSE ends OPEN and gives UART_0 up.
Opened, RD is a register read with the rights of 0x3E and answers the value, WR a write with them, LOG answers the
records held from a SEQ, KEYIMPORT an import in the clear, TAMPERCLR a write to TAMPER_CTRL by core 0 of the main
firmware, RESET the MONITOR source. A command not allowed at its level, or while the monitor does not serve, changes
nothing. OPEN expires with its duration; 60 s without a line give UART_0 up; a break of 100 ms takes it; before that
nothing changes. (Nonces and OTP hashes are free values: log 4.) (Rests on: R110, R572, R580, R591, R605, R640, R665,
R675, R677.) -/
def Obligations.MonitorServesItsCommands : Prop :=
    (∀ (s : State),
      s.stopSafe = true →
      s.monServes = true →
      Does (.monInfo) s (fun t =>
        RegsBut [] s t ∧
        t = { s with regs := t.regs, boot := t.boot, out := t.out } ∧
        t.boot = { s.boot with lastLine := s.ply } ∧
        t.out = s.out ++ [Output.mon 1 (serialBytes ++ [Config.romVersion] ++ s.ownVersion ++ [s.flash.desc.st0, s.flash.desc.st1] ++ (([0x40000300, 0x40000310, 0x40000320, 0x40500000] : List Nat).foldl (State.monRead 0) (s, [])).2)])) ∧
    (∀ (s : State),
      s.stopSafe = true →
      s.monServes = false →
      Does (.monInfo) s (fun t =>
        t = s)) ∧
    (∀ (s : State),
      s.stopSafe = true →
      s.monServes = true →
      s.bit MON_STATUS_LOCKOUT = false →
      s.bit KS_STATUS_TRNG_FAIL = false →
      Does (.monOpen) s (fun t =>
        RegsBut [] s t ∧
        t = { s with regs := t.regs, boot := t.boot, out := t.out, freeCtr := t.freeCtr } ∧
        t.boot = { s.boot with lastLine := s.ply, nonce := some s.nonce16 } ∧
        t.out = s.out ++ [Output.mon 2 (s.nonce16 ++ serialBytes)])) ∧
    (∀ (s : State),
      s.stopSafe = true →
      s.monServes = true →
      s.bit MON_STATUS_LOCKOUT = true ∨ s.bit KS_STATUS_TRNG_FAIL = true →
      Does (.monOpen) s (fun t =>
        t.boot = { s.boot with lastLine := s.ply } ∧
        RegsBut [] s t ∧
        t = { s with regs := t.regs, boot := t.boot })) ∧
    (∀ (s : State),
      s.stopSafe = true →
      s.monServes = false →
      Does (.monOpen) s (fun t =>
        t = s)) ∧
    (∀ (s : State) (pub sig n : List Nat) (m : Nat),
      s.stopSafe = true →
      s.monServes = true →
      s.bit MON_STATUS_LOCKOUT = false →
      s.boot.nonce = some n →
      Does (.monResp pub sig m) s (fun t =>
        RegsBut [MON_STATUS_OPEN, MON_STATUS_LOCKOUT] s t ∧
        t = { s with regs := t.regs, boot := t.boot } ∧
        (if respOk n pub sig m = true then (t.boot = { s.boot with lastLine := s.ply, nonce := none, fails := 0, openEnd := s.ply + m * 6000000 } ∧ Reads t [(MON_STATUS_OPEN, 1), (MON_STATUS_LOCKOUT, 0)]) else (t.boot = { s.boot with lastLine := s.ply, nonce := none, fails := s.boot.fails + 1 } ∧ Reads t [(MON_STATUS_OPEN, s.get MON_STATUS_OPEN), (MON_STATUS_LOCKOUT, if 3 ≤ s.boot.fails + 1 then 1 else s.get MON_STATUS_LOCKOUT)])))) ∧
    (∀ (s : State) (pub sig : List Nat) (m : Nat),
      s.stopSafe = true →
      s.monServes = true →
      s.bit MON_STATUS_LOCKOUT = false →
      s.boot.nonce = none ∨ m = 0 ∨ 480 < m →
      Does (.monResp pub sig m) s (fun t =>
        t.boot = { s.boot with lastLine := s.ply, nonce := none, fails := s.boot.fails + 1 } ∧
        Reads t [(MON_STATUS_OPEN, s.get MON_STATUS_OPEN), (MON_STATUS_LOCKOUT, if 3 ≤ s.boot.fails + 1 then 1 else s.get MON_STATUS_LOCKOUT)] ∧
        RegsBut [MON_STATUS_LOCKOUT] s t ∧
        t = { s with regs := t.regs, boot := t.boot })) ∧
    (∀ (s : State) (pub sig : List Nat) (m : Nat),
      s.stopSafe = true →
      s.monServes = true →
      s.bit MON_STATUS_LOCKOUT = true →
      Does (.monResp pub sig m) s (fun t =>
        t.boot = { s.boot with lastLine := s.ply } ∧
        RegsBut [] s t ∧
        t = { s with regs := t.regs, boot := t.boot })) ∧
    (∀ (s : State) (pub sig : List Nat) (m : Nat),
      s.stopSafe = true →
      s.monServes = false →
      Does (.monResp pub sig m) s (fun t =>
        t = s)) ∧
    (∀ (s : State) (src : Nat),
      s.stopSafe = true →
      s.monServes = true →
      s.boot.core0Rom = false →
      src = (if s.rookHeld ∨ s.bit ROOK_STATE_HALTED then 12 else 7) →
      Does (.monRecover) s (fun t =>
        Asserted src t ∧
        t.flash.desc = { s.flash.desc with req := 1, seq := s.flash.desc.seq + 1 } ∧
        AssertFrame src { s with flash := t.flash } t)) ∧
    (∀ (s : State),
      s.stopSafe = true →
      s.monServes = true →
      s.boot.core0Rom = true →
      Does (.monRecover) s (fun t =>
        t.boot = { s.boot with lastLine := s.ply } ∧
        RegsBut [] s t ∧
        t = { s with regs := t.regs, boot := t.boot })) ∧
    (∀ (s : State),
      s.stopSafe = true →
      s.monServes = false →
      Does (.monRecover) s (fun t =>
        t = s)) ∧
    (∀ (s : State),
      s.stopSafe = true →
      s.monServes = true →
      Does (.monClose) s (fun t =>
        Reads t [(MON_STATUS_OPEN, 0), (MON_STATUS_HELD, 0), (UART_STATUS_OWNED 0, if (s.put MON_STATUS_HELD 0).monHolds = true then s.get (UART_STATUS_OWNED 0) else 0)] ∧
        t.boot = { s.boot with lastLine := s.ply } ∧
        RegsBut [MON_STATUS_OPEN, MON_STATUS_HELD, UART_STATUS_OWNED 0] s t ∧
        t = { s with regs := t.regs, boot := t.boot })) ∧
    (∀ (s : State),
      s.stopSafe = true →
      s.monServes = false →
      Does (.monClose) s (fun t =>
        t = s)) ∧
    (∀ (s : State) (addr live : Nat),
      s.stopSafe = true →
      s.monServes = true →
      s.monOpen = true →
      Does (.monRd addr live) s (fun t =>
        t = { (s.monLine.regRead 0x3E addr live).1 with out := (s.monLine.regRead 0x3E addr live).1.out ++ [Output.mon 6 [(s.monLine.regRead 0x3E addr live).2.1]] })) ∧
    (∀ (s : State) (addr live : Nat),
      s.stopSafe = true →
      s.monServes = false ∨ s.monOpen = false →
      Does (.monRd addr live) s (fun t =>
        t = s)) ∧
    (∀ (s : State) (addr data : Nat),
      s.stopSafe = true →
      s.monServes = true →
      s.monOpen = true →
      Does (.monWr addr data) s (fun t =>
        (match exec (.registerWrite 0x3E addr data 0) s.monLine with | .next u => decide (t = u) | _ => false) = true)) ∧
    (∀ (s : State) (addr data : Nat),
      s.stopSafe = true →
      s.monServes = false ∨ s.monOpen = false →
      Does (.monWr addr data) s (fun t =>
        t = s)) ∧
    (∀ (s : State) (q n : Nat),
      s.stopSafe = true →
      s.monServes = true →
      s.monOpen = true →
      Does (.monLog q n) s (fun t =>
        t.boot = { s.boot with lastLine := s.ply } ∧
        t.out = s.out ++ [Output.mon 8 (((s.heldRecs q).take n).flatMap Rec.bytes)] ∧
        RegsBut [] s t ∧
        t = { s with regs := t.regs, boot := t.boot, out := t.out })) ∧
    (∀ (s : State) (q n : Nat),
      s.stopSafe = true →
      s.monServes = false ∨ s.monOpen = false →
      Does (.monLog q n) s (fun t =>
        t = s)) ∧
    (∀ (s : State) (k typ use : Nat) (key : List Nat),
      s.stopSafe = true →
      s.monServes = true →
      s.monOpen = true →
      Does (.monKeyimport k typ use key) s (fun t =>
        t = (s.monLine.importClear 0x3E k typ use key).1 ∧
        (match exec (.keyImportClear 0x3E k typ use key) s.monLine with | .next u => decide (t = u) | _ => false) = true)) ∧
    (∀ (s : State) (k typ use : Nat) (key : List Nat),
      s.stopSafe = true →
      s.monServes = false ∨ s.monOpen = false →
      Does (.monKeyimport k typ use key) s (fun t =>
        t = s)) ∧
    (∀ (s : State) (live : Nat),
      s.stopSafe = true →
      s.monServes = true →
      s.monOpen = true →
      s.boot.core0Rom = false →
      s.boot.started = true →
      s.judge 0x10 tamperCtrlAddr true = .ok →
      (List.range 8).any (fun c => bitOf live c && s.causeEn c) = false →
      Does (.monTamperclr live) s (fun t =>
        Reads t [(TAMPER_STATUS_TAMPERED, 0), (TAMPER_STATUS_IN, 0), (TAMPER_STATUS_VBAT_LO, 0), (TAMPER_STATUS_VBAT_HI, 0), (TAMPER_STATUS_TEMP_LO, 0), (TAMPER_STATUS_TEMP_HI, 0), (TAMPER_STATUS_LIVE, live % 16)] ∧
        t.boot = { s.boot with lastLine := s.ply } ∧
        RegsBut [TAMPER_STATUS_TAMPERED, TAMPER_STATUS_IN, TAMPER_STATUS_VBAT_LO, TAMPER_STATUS_VBAT_HI, TAMPER_STATUS_TEMP_LO, TAMPER_STATUS_TEMP_HI, TAMPER_STATUS_LIVE] s t ∧
        t = { s with regs := t.regs, boot := t.boot })) ∧
    (∀ (s : State) (live : Nat),
      s.stopSafe = true →
      s.monServes = true →
      s.monOpen = true →
      s.boot.core0Rom = false →
      s.boot.started = true →
      Does (.monTamperclr live) s (fun t =>
        t = (s.monLine.regWrite 0x10 tamperCtrlAddr 0x54430001 0xFFFFFFFF live false).1)) ∧
    (∀ (s : State) (live : Nat),
      s.stopSafe = true →
      s.monServes = true →
      s.monOpen = true →
      s.boot.core0Rom = true ∨ s.boot.started = false →
      Does (.monTamperclr live) s (fun t =>
        t.boot = { s.boot with lastLine := s.ply } ∧
        RegsBut [] s t ∧
        t = { s with regs := t.regs, boot := t.boot })) ∧
    (∀ (s : State) (live : Nat),
      s.stopSafe = true →
      s.monServes = false ∨ s.monOpen = false →
      Does (.monTamperclr live) s (fun t =>
        t = s)) ∧
    (∀ (s : State),
      s.stopSafe = true →
      s.monServes = true →
      s.monOpen = true →
      Does (.monReset) s (fun t =>
        Asserted 12 t ∧
        AssertFrame 12 s t)) ∧
    (∀ (s : State),
      s.stopSafe = true →
      s.monServes = false ∨ s.monOpen = false →
      Does (.monReset) s (fun t =>
        t = s)) ∧
    (∀ (s : State),
      s.stopSafe = true →
      s.bit MON_STATUS_OPEN = true →
      s.boot.openEnd ≤ s.ply →
      Does (.monOpenExpiry) s (fun t =>
        Reads t [(MON_STATUS_OPEN, 0)] ∧
        RegsBut [MON_STATUS_OPEN] s t ∧
        OnlyRegs s t)) ∧
    (∀ (s : State),
      s.stopSafe = true →
      s.bit MON_STATUS_OPEN = false ∨ s.ply < s.boot.openEnd →
      Does (.monOpenExpiry) s (fun t =>
        t = s)) ∧
    (∀ (s : State),
      s.stopSafe = true →
      s.bit MON_STATUS_DBG_LOCK = true →
      s.bit MON_STATUS_OPEN = false →
      s.bit MON_STATUS_HELD = true →
      s.boot.lastLine + 6000000 ≤ s.ply →
      Does (.monIdleRelease) s (fun t =>
        Reads t [(MON_STATUS_HELD, 0), (UART_STATUS_OWNED 0, if (s.put MON_STATUS_HELD 0).monHolds = true then s.get (UART_STATUS_OWNED 0) else 0)] ∧
        RegsBut [MON_STATUS_HELD, UART_STATUS_OWNED 0] s t ∧
        OnlyRegs s t)) ∧
    (∀ (s : State),
      s.stopSafe = true →
      s.bit MON_STATUS_DBG_LOCK = false ∨ s.bit MON_STATUS_OPEN = true ∨ s.bit MON_STATUS_HELD = false ∨ s.ply < s.boot.lastLine + 6000000 →
      Does (.monIdleRelease) s (fun t =>
        t = s)) ∧
    (∀ (s : State) (ms : Nat),
      s.stopSafe = true →
      s.domOff 3 = false →
      s.bit MON_STATUS_DBG_LOCK = true →
      s.monHolds = false →
      100 ≤ ms →
      s.boot.started = true →
      Does (.monBreakTake ms) s (fun t =>
        Reads t [(MON_STATUS_HELD, 1), (UART_STATUS_OWNED 0, 1), (UART_STATUS_TX_USED 0, 0), (UART_STATUS_RX_USED 0, (s.uart 0).rx.length % 2 ^ (UART_STATUS_RX_USED 0).w), (UART_CNT_RTCM_DROP 0, s.adv (UART_CNT_RTCM_DROP 0) ((s.uart 0).tx.filter (fun c => c.1)).length)] ∧
        t.site = { s.site with uarts := s.site.uarts.filter (fun (e : Nat × UartState) => e.1 ≠ 0) ++ [(0, { s.uart 0 with tx := [] })] } ∧
        t.boot = { s.boot with lastLine := s.ply } ∧
        RegsBut [MON_STATUS_HELD, UART_STATUS_OWNED 0, UART_STATUS_TX_USED 0, UART_STATUS_RX_USED 0, UART_CNT_RTCM_DROP 0] s t ∧
        t = { s with regs := t.regs, boot := t.boot, site := t.site })) ∧
    (∀ (s : State) (ms : Nat),
      s.stopSafe = true →
      s.domOff 3 = true ∨ s.bit MON_STATUS_DBG_LOCK = false ∨ s.monHolds = true ∨ ms < 100 ∨ s.boot.started = false →
      Does (.monBreakTake ms) s (fun t =>
        t = s))

/-- STREAM_CLOSE, SOL_GET, PRIO_SET, FILTER_RESET, TRACK_SEAL, TRACK_FREE, MOVE, HALT, CHAN_RELEASE, GEAR_ENGAGE,
GEAR_DISENGAGE and REC_READ are answered BAD_PARAM where one of the bytes that the table of the opcode gives as "bytes
of 0" is not 0, and then change nothing but their session. (The model's reading: log 130.) (Rests on: R183, R193,
R370, R484, R509, R605.) -/
def Obligations.BytesOfZeroAreJudged : Prop :=
    (∀ (s : State) (sess tag : Nat) (a p q : Nat),
      s.stopSafe = true →
      s.accepts 0x0F11 sess tag false = true →
      p + q ≠ 0 →
      p < 256 →
      q < 65536 →
      Does (.streamClose sess tag (([a, p] ++ leBytes 2 q))) s (fun t =>
        answers s t [] 0x0F11 sess tag Ecp.BAD_PARAM (crc32c ([a, p] ++ leBytes 2 q)) [] = true ∧
        RegsBut [] s t ∧
        t = { s with regs := t.regs, ecp := t.ecp, out := t.out })) ∧
    (∀ (s : State) (sess tag : Nat) (a p q : Nat),
      s.stopSafe = true →
      s.accepts 0x0400 sess tag true = true →
      p + q ≠ 0 →
      p < 256 →
      q < 65536 →
      Does (.solGet sess tag (([a, p] ++ leBytes 2 q))) s (fun t =>
        answers s t [] 0x0400 sess tag Ecp.BAD_PARAM (crc32c ([a, p] ++ leBytes 2 q)) [] = true ∧
        RegsBut [] s t ∧
        t = { s with regs := t.regs, ecp := t.ecp, out := t.out })) ∧
    (∀ (s : State) (sess tag : Nat) (a p q : Nat),
      s.stopSafe = true →
      s.accepts 0x0402 sess tag true = true →
      p + q ≠ 0 →
      p < 256 →
      q < 65536 →
      Does (.filterReset sess tag (([a, p] ++ leBytes 2 q))) s (fun t =>
        answers s t [] 0x0402 sess tag Ecp.BAD_PARAM (crc32c ([a, p] ++ leBytes 2 q)) [] = true ∧
        RegsBut [] s t ∧
        t = { s with regs := t.regs, ecp := t.ecp, out := t.out })) ∧
    (∀ (s : State) (sess tag : Nat) (a p q : Nat),
      s.stopSafe = true →
      s.accepts 0x0704 sess tag true = true →
      p + q ≠ 0 →
      p < 256 →
      q < 65536 →
      Does (.halt sess tag (([a, p] ++ leBytes 2 q))) s (fun t =>
        answers s t [] 0x0704 sess tag Ecp.BAD_PARAM (crc32c ([a, p] ++ leBytes 2 q)) [] = true ∧
        RegsBut [] s t ∧
        t = { s with regs := t.regs, ecp := t.ecp, out := t.out })) ∧
    (∀ (s : State) (sess tag : Nat) (a p q : Nat),
      s.stopSafe = true →
      s.accepts 0x0705 sess tag true = true →
      p + q ≠ 0 →
      p < 256 →
      q < 65536 →
      Does (.chanRelease sess tag (([a, p] ++ leBytes 2 q))) s (fun t =>
        answers s t [] 0x0705 sess tag Ecp.BAD_PARAM (crc32c ([a, p] ++ leBytes 2 q)) [] = true ∧
        RegsBut [] s t ∧
        t = { s with regs := t.regs, ecp := t.ecp, out := t.out })) ∧
    (∀ (s : State) (sess tag : Nat) (a p q : Nat),
      s.stopSafe = true →
      s.accepts 0x0706 sess tag true = true →
      p + q ≠ 0 →
      p < 256 →
      q < 65536 →
      Does (.gearEngage sess tag (([a, p] ++ leBytes 2 q))) s (fun t =>
        answers s t [] 0x0706 sess tag Ecp.BAD_PARAM (crc32c ([a, p] ++ leBytes 2 q)) [] = true ∧
        RegsBut [] s t ∧
        t = { s with regs := t.regs, ecp := t.ecp, out := t.out })) ∧
    (∀ (s : State) (sess tag : Nat) (a p q : Nat),
      s.stopSafe = true →
      s.accepts 0x0707 sess tag true = true →
      p + q ≠ 0 →
      p < 256 →
      q < 65536 →
      Does (.gearDisengage sess tag (([a, p] ++ leBytes 2 q))) s (fun t =>
        answers s t [] 0x0707 sess tag Ecp.BAD_PARAM (crc32c ([a, p] ++ leBytes 2 q)) [] = true ∧
        RegsBut [] s t ∧
        t = { s with regs := t.regs, ecp := t.ecp, out := t.out })) ∧
    (∀ (s : State) (sess tag : Nat) (n p : Nat) (l : List Nat),
      s.stopSafe = true →
      s.accepts 0x0401 sess tag true = true →
      0 < p →
      p < 256 →
      l.length = 2 * n →
      n < 256 →
      Does (.prioSet sess tag (([n, p] ++ l))) s (fun t =>
        answers s t [] 0x0401 sess tag Ecp.BAD_PARAM (crc32c ([n, p] ++ l)) [] = true ∧
        RegsBut [] s t ∧
        t = { s with regs := t.regs, ecp := t.ecp, out := t.out })) ∧
    (∀ (s : State) (sess tag : Nat) (k q : Nat),
      s.stopSafe = true →
      s.accepts 0x0701 sess tag true = true →
      0 < q →
      q < 65536 →
      Does (.trackSeal sess tag ((leBytes 2 k ++ leBytes 2 q))) s (fun t =>
        answers s t [] 0x0701 sess tag Ecp.BAD_PARAM (crc32c (leBytes 2 k ++ leBytes 2 q)) [] = true ∧
        RegsBut [] s t ∧
        t = { s with regs := t.regs, ecp := t.ecp, out := t.out })) ∧
    (∀ (s : State) (sess tag : Nat) (k q : Nat),
      s.stopSafe = true →
      s.accepts 0x0702 sess tag true = true →
      0 < q →
      q < 65536 →
      Does (.trackFree sess tag ((leBytes 2 k ++ leBytes 2 q))) s (fun t =>
        answers s t [] 0x0702 sess tag Ecp.BAD_PARAM (crc32c (leBytes 2 k ++ leBytes 2 q)) [] = true ∧
        RegsBut [] s t ∧
        t = { s with regs := t.regs, ecp := t.ecp, out := t.out })) ∧
    (∀ (s : State) (sess tag : Nat) (a f d k g p q : Nat),
      s.stopSafe = true →
      s.accepts 0x0703 sess tag true = true →
      p + q ≠ 0 →
      p < 256 →
      q < 65536 →
      Does (.move sess tag (([a, f, d, p] ++ leBytes 2 k ++ leBytes 2 q ++ leBytes 4 g))) s (fun t =>
        answers s t [] 0x0703 sess tag Ecp.BAD_PARAM (crc32c ([a, f, d, p] ++ leBytes 2 k ++ leBytes 2 q ++ leBytes 4 g)) [] = true ∧
        RegsBut [] s t ∧
        t = { s with regs := t.regs, ecp := t.ecp, out := t.out })) ∧
    (∀ (s : State) (sess tag : Nat) (f n p q : Nat) (err : Option (Bool × Nat × Nat)),
      s.stopSafe = true →
      s.accepts 0x0A00 sess tag false = true →
      p + q ≠ 0 →
      p < 256 →
      q < 65536 →
      Does (.recRead sess tag ((leBytes 4 f ++ [n, p] ++ leBytes 2 q)) err) s (fun t =>
        answers s t [] 0x0A00 sess tag Ecp.BAD_PARAM (crc32c (leBytes 4 f ++ [n, p] ++ leBytes 2 q)) [] = true ∧
        RegsBut [] s t ∧
        t = { s with regs := t.regs, ecp := t.ecp, out := t.out }))
end

