-- ==== Sys2Proof/Laws/Mem.lean ====
section
/-!
SUPPORT. Laws of the addressed memories: every operation keeps the canonical form (Mem.wf), and a read after a write.
-/

namespace Sys2Proof.Machine

theorem Mem.above_mono {m : Mem} {a b : Nat} (h : a ≤ b) (hb : Mem.above b m = true) : Mem.above a m = true := by
  induction m with
  | nil => rfl
  | cons e t ih =>
    simp only [Mem.above, Bool.and_eq_true, decide_eq_true_eq] at *
    exact ⟨by omega, ih hb.2⟩

theorem Mem.above_erase {m : Mem} {a b : Nat} (h : Mem.above b m = true) : Mem.above b (m.erase a) = true := by
  induction m with
  | nil => rfl
  | cons e t ih =>
    obtain ⟨k, v⟩ := e
    simp only [Mem.above, Bool.and_eq_true, decide_eq_true_eq] at h
    unfold Mem.erase
    split
    · exact h.2
    · simp [Mem.above, h.1, ih h.2]

/-- Unlisting an address keeps the canonical form. -/
theorem Mem.wf_erase {m : Mem} {a : Nat} (h : m.wf = true) : (m.erase a).wf = true := by
  induction m with
  | nil => rfl
  | cons e t ih =>
    obtain ⟨k, v⟩ := e
    simp only [Mem.wf, Bool.and_eq_true] at h
    unfold Mem.erase
    split
    · exact h.2
    · simp only [Mem.wf, Bool.and_eq_true]
      exact ⟨⟨h.1.1, Mem.above_erase h.1.2⟩, ih h.2⟩

/-- An address is not listed. -/
def Mem.lacks (m : Mem) (a : Nat) : Prop := ∀ e ∈ m, e.1 ≠ a

theorem Mem.above_lacks {m : Mem} {a b : Nat} (h : Mem.above b m = true) (hab : a ≤ b) : m.lacks a := by
  induction m with
  | nil => intro e he; simp at he
  | cons x t ih =>
    simp only [Mem.above, Bool.and_eq_true, decide_eq_true_eq] at h
    intro e he
    rcases List.mem_cons.mp he with rfl | he
    · omega
    · exact ih h.2 e he

theorem Mem.erase_lacks {m : Mem} {a : Nat} (h : m.wf = true) : (m.erase a).lacks a := by
  induction m with
  | nil => intro e he; simp [Mem.erase] at he
  | cons x t ih =>
    obtain ⟨k, v⟩ := x
    simp only [Mem.wf, Bool.and_eq_true] at h
    unfold Mem.erase
    split
    · rename_i hk; subst hk; exact Mem.above_lacks h.1.2 (Nat.le_refl _)
    · rename_i hk
      intro e he
      rcases List.mem_cons.mp he with rfl | he
      · exact hk
      · exact ih h.2 e he

theorem Mem.above_ins {m : Mem} {a b v : Nat} (h : Mem.above b m = true) (hab : b < a) : Mem.above b (m.ins a v) = true := by
  induction m with
  | nil => simp [Mem.ins, Mem.above, hab]
  | cons e t ih =>
    obtain ⟨k, w⟩ := e
    simp only [Mem.above, Bool.and_eq_true, decide_eq_true_eq] at h
    unfold Mem.ins
    split
    · simp [Mem.above, hab, h.1, h.2]
    · simp [Mem.above, h.1, ih h.2]

/-- Putting a value that is not 0 at an address that is not listed keeps the canonical form. -/
theorem Mem.wf_ins {m : Mem} {a v : Nat} (h : m.wf = true) (hl : m.lacks a) (hv : v ≠ 0) : (m.ins a v).wf = true := by
  induction m with
  | nil => simp [Mem.ins, Mem.wf, Mem.above, hv]
  | cons e t ih =>
    obtain ⟨k, w⟩ := e
    have hk : k ≠ a := hl (k, w) (by simp)
    have h' := h
    simp only [Mem.wf, Bool.and_eq_true] at h
    unfold Mem.ins
    split
    · rename_i hak
      simp only [Mem.wf, Bool.and_eq_true]
      refine ⟨⟨by simpa using hv, ?_⟩, by simpa [Mem.wf] using h'⟩
      simp only [Mem.above, Bool.and_eq_true, decide_eq_true_eq]
      exact ⟨hak, Mem.above_mono (by omega) h.1.2⟩
    · rename_i hak
      simp only [Mem.wf, Bool.and_eq_true]
      exact ⟨⟨h.1.1, Mem.above_ins h.1.2 (by omega)⟩, ih h.2 (fun e he => hl e (by simp [he]))⟩

/-- A write keeps the canonical form. -/
theorem Mem.wf_put {m : Mem} {a v : Nat} (h : m.wf = true) : (m.put a v).wf = true := by
  unfold Mem.put
  split
  · exact Mem.wf_erase h
  · rename_i hv; exact Mem.wf_ins (Mem.wf_erase h) (Mem.erase_lacks h) hv

/-- Consecutive writes keep the canonical form. -/
theorem Mem.wf_putList {l : List Nat} {m : Mem} {a : Nat} (h : m.wf = true) : (m.putList a l).wf = true := by
  induction l generalizing m a with
  | nil => exact h
  | cons v t ih => exact ih (Mem.wf_put h)

theorem Mem.get_erase_self {m : Mem} {a : Nat} (h : m.wf = true) : (m.erase a).get a = 0 := by
  have hl := Mem.erase_lacks (a := a) h
  generalize m.erase a = n at hl
  induction n with
  | nil => rfl
  | cons e t ih =>
    obtain ⟨k, v⟩ := e
    have hk : k ≠ a := hl (k, v) (by simp)
    simp only [Mem.get, hk, if_false]
    exact ih (fun e he => hl e (by simp [he]))

theorem Mem.get_ins_self {m : Mem} {a v : Nat} (h : m.lacks a) : (m.ins a v).get a = v := by
  induction m with
  | nil => simp [Mem.ins, Mem.get]
  | cons e t ih =>
    obtain ⟨k, w⟩ := e
    have hk : k ≠ a := h (k, w) (by simp)
    unfold Mem.ins
    split
    · simp [Mem.get]
    · simp only [Mem.get, hk, if_false]
      exact ih (fun e he => h e (by simp [he]))

/-- A read after a write to the same address gives the value written. -/
theorem Mem.get_put_self {m : Mem} {a v : Nat} (h : m.wf = true) : (m.put a v).get a = v := by
  unfold Mem.put
  split
  · rename_i hv; rw [hv]; exact Mem.get_erase_self h
  · exact Mem.get_ins_self (Mem.erase_lacks h)

theorem Mem.get_erase_ne {m : Mem} {a b : Nat} (h : a ≠ b) : (m.erase a).get b = m.get b := by
  induction m with
  | nil => rfl
  | cons e t ih =>
    obtain ⟨k, v⟩ := e
    unfold Mem.erase
    by_cases hk : k = a
    · subst hk; simp [Mem.get, h]
    · simp [hk, Mem.get, ih]

theorem Mem.get_ins_ne {m : Mem} {a b v : Nat} (h : a ≠ b) : (m.ins a v).get b = m.get b := by
  induction m with
  | nil => simp [Mem.ins, Mem.get, h]
  | cons e t ih =>
    obtain ⟨k, w⟩ := e
    unfold Mem.ins
    split
    · simp [Mem.get, h]
    · simp [Mem.get, ih]

/-- A write leaves every other address alone. -/
theorem Mem.get_put_ne {m : Mem} {a b v : Nat} (h : a ≠ b) : (m.put a v).get b = m.get b := by
  unfold Mem.put
  split
  · exact Mem.get_erase_ne h
  · rw [Mem.get_ins_ne h, Mem.get_erase_ne h]

end Sys2Proof.Machine
end

