-- ==== Sys2Proof/Laws/Regs.lean ====
section
/-!
SUPPORT. Laws of the register store: a read after a write, and what a write leaves alone.
-/

namespace Sys2Proof.Machine

theorem regLookup_erase_self (l : List (RKey × Nat)) (q : RKey) (d : Nat) : regLookup (regErase l q) q d = d := by
  induction l with
  | nil => rfl
  | cons e t ih =>
    unfold regErase at *
    by_cases h : e.1 = q
    · simpa [List.filter, h] using ih
    · simp [List.filter, h, regLookup]; simpa using ih

theorem regLookup_erase_ne (l : List (RKey × Nat)) {q k : RKey} (d : Nat) (h : q ≠ k) :
    regLookup (regErase l q) k d = regLookup l k d := by
  induction l with
  | nil => rfl
  | cons e t ih =>
    unfold regErase at *
    obtain ⟨a, v⟩ := e
    by_cases hq : a = q
    · subst hq
      simpa [List.filter, regLookup, h] using ih
    · by_cases hk : a = k
      · subst hk; simp [List.filter, hq, regLookup]
      · simp [List.filter, hq, regLookup, hk]; simpa using ih

theorem regLookup_ins_self (l : List (RKey × Nat)) (q : RKey) (v d : Nat) (h : ∀ e ∈ l, e.1 ≠ q) :
    regLookup (regIns q v l) q d = v := by
  induction l with
  | nil => simp [regIns, regLookup]
  | cons e t ih =>
    obtain ⟨a, w⟩ := e
    have ha : a ≠ q := h (a, w) (by simp)
    unfold regIns
    split
    · simp [regLookup]
    · simp [regLookup, ha]; exact ih (fun e he => h e (by simp [he]))

theorem regLookup_ins_ne (l : List (RKey × Nat)) {q k : RKey} (v d : Nat) (h : q ≠ k) :
    regLookup (regIns q v l) k d = regLookup l k d := by
  induction l with
  | nil => simp [regIns, regLookup, h]
  | cons e t ih =>
    obtain ⟨a, w⟩ := e
    unfold regIns
    split
    · simp [regLookup, h]
    · by_cases hk : a = k <;> simp [regLookup, hk, ih]

theorem regErase_ne (l : List (RKey × Nat)) (q : RKey) : ∀ e ∈ regErase l q, e.1 ≠ q := by
  intro e he
  simpa [regErase] using (List.mem_filter.mp he).2

/-- Keys of different registers differ; rfl proves the premise, with instance numbers left open. -/
theorem RKey.ne_of_reg {a b : RKey} (h : Nat.beq a.reg b.reg = false) : a ≠ b := by
  intro e; subst e; simp at h

/-- Keys with different lowest bits differ. -/
theorem RKey.ne_of_lo {a b : RKey} (h : Nat.beq a.lo b.lo = false) : a ≠ b := by
  intro e; subst e; simp at h

/-- Keys of different instances differ. -/
theorem RKey.ne_of_i {a b : RKey} (h : a.i ≠ b.i) : a ≠ b := by
  intro e; subst e; exact h rfl

/-- Keys of different second instances differ. -/
theorem RKey.ne_of_j {a b : RKey} (h : a.j ≠ b.j) : a ≠ b := by
  intro e; subst e; exact h rfl

/-- A field reads as written, reduced to its width. -/
@[simp] theorem State.get_put_self (s : State) (f : Fld) (v : Nat) : (s.put f v).get f = v % 2 ^ f.w := by
  unfold State.put State.get
  by_cases h : v % 2 ^ f.w = f.rst
  · simp only [h, if_true]; exact regLookup_erase_self _ _ _
  · simp only [h, if_false]; exact regLookup_ins_self _ _ _ _ (regErase_ne _ _)

/-- A write leaves every field with another key alone. -/
theorem State.get_put_ne (s : State) (f g : Fld) (v : Nat) (h : f.key ≠ g.key) : (s.put f v).get g = s.get g := by
  unfold State.put State.get
  by_cases hv : v % 2 ^ f.w = f.rst
  · simp only [hv, if_true]; exact regLookup_erase_ne _ _ h
  · simp only [hv, if_false]; rw [regLookup_ins_ne _ _ _ h]; exact regLookup_erase_ne _ _ h

/-- The same for a one-bit reading. -/
theorem State.bit_put_ne (s : State) (f g : Fld) (v : Nat) (h : f.key ≠ g.key) : (s.put f v).bit g = s.bit g := by
  simp [State.bit, State.get_put_ne s f g v h]

/-- A list of writes leaves a field alone whose key none of them has. -/
theorem State.get_puts_ne (l : List (Fld × Nat)) (s : State) (g : Fld) (h : ∀ e ∈ l, e.1.key ≠ g.key) :
    (s.puts l).get g = s.get g := by
  induction l generalizing s with
  | nil => rfl
  | cons e t ih =>
    obtain ⟨f, v⟩ := e
    show ((s.put f v).puts t).get g = s.get g
    rw [ih (s.put f v) (fun e he => h e (by simp [he]))]
    exact State.get_put_ne s f g v (h (f, v) (by simp))

@[simp] theorem State.puts_nil (s : State) : s.puts [] = s := rfl
@[simp] theorem State.puts_cons (s : State) (f : Fld) (v : Nat) (t : List (Fld × Nat)) :
    s.puts ((f, v) :: t) = (s.put f v).puts t := rfl

end Sys2Proof.Machine
end

