-- ==== Sys2Proof/Laws/State.lean ====
section
/-!
SUPPORT. One lemma per field of State for each of the shared updates of Machine/Ops.lean: what the update leaves alone, true by
rfl, so that no later proof unfolds a record update.
-/

namespace Sys2Proof.Machine

@[simp] theorem State.put_pending (s : State) (f : Fld) (v : Nat) : (s.put f v).pending = s.pending := rfl
@[simp] theorem State.put_out (s : State) (f : Fld) (v : Nat) : (s.put f v).out = s.out := rfl
@[simp] theorem State.put_freeCtr (s : State) (f : Fld) (v : Nat) : (s.put f v).freeCtr = s.freeCtr := rfl
@[simp] theorem State.put_ply (s : State) (f : Fld) (v : Nat) : (s.put f v).ply = s.ply := rfl
@[simp] theorem State.put_rst (s : State) (f : Fld) (v : Nat) : (s.put f v).rst = s.rst := rfl
@[simp] theorem State.put_clk (s : State) (f : Fld) (v : Nat) : (s.put f v).clk = s.clk := rfl
@[simp] theorem State.put_pwr (s : State) (f : Fld) (v : Nat) : (s.put f v).pwr = s.pwr := rfl
@[simp] theorem State.put_sw (s : State) (f : Fld) (v : Nat) : (s.put f v).sw = s.sw := rfl
@[simp] theorem State.put_cast (s : State) (f : Fld) (v : Nat) : (s.put f v).cast = s.cast := rfl
@[simp] theorem State.put_evr (s : State) (f : Fld) (v : Nat) : (s.put f v).evr = s.evr := rfl
@[simp] theorem State.put_time (s : State) (f : Fld) (v : Nat) : (s.put f v).time = s.time := rfl
@[simp] theorem State.put_ecp (s : State) (f : Fld) (v : Nat) : (s.put f v).ecp = s.ecp := rfl
@[simp] theorem State.put_boot (s : State) (f : Fld) (v : Nat) : (s.put f v).boot = s.boot := rfl
@[simp] theorem State.put_gnss (s : State) (f : Fld) (v : Nat) : (s.put f v).gnss = s.gnss := rfl
@[simp] theorem State.put_gnssCfg (s : State) (f : Fld) (v : Nat) : (s.put f v).gnssCfg = s.gnssCfg := rfl
@[simp] theorem State.put_feExt (s : State) (f : Fld) (v : Nat) : (s.put f v).feExt = s.feExt := rfl
@[simp] theorem State.put_eth (s : State) (f : Fld) (v : Nat) : (s.put f v).eth = s.eth := rfl
@[simp] theorem State.put_fix (s : State) (f : Fld) (v : Nat) : (s.put f v).fix = s.fix := rfl
@[simp] theorem State.put_ks (s : State) (f : Fld) (v : Nat) : (s.put f v).ks = s.ks := rfl
@[simp] theorem State.put_radio (s : State) (f : Fld) (v : Nat) : (s.put f v).radio = s.radio := rfl
@[simp] theorem State.put_trx (s : State) (f : Fld) (v : Nat) : (s.put f v).trx = s.trx := rfl
@[simp] theorem State.put_mac (s : State) (f : Fld) (v : Nat) : (s.put f v).mac = s.mac := rfl
@[simp] theorem State.put_disp (s : State) (f : Fld) (v : Nat) : (s.put f v).disp = s.disp := rfl
@[simp] theorem State.put_trk (s : State) (f : Fld) (v : Nat) : (s.put f v).trk = s.trk := rfl
@[simp] theorem State.put_rook (s : State) (f : Fld) (v : Nat) : (s.put f v).rook = s.rook := rfl
@[simp] theorem State.put_pair (s : State) (f : Fld) (v : Nat) : (s.put f v).pair = s.pair := rfl
@[simp] theorem State.put_mp (s : State) (f : Fld) (v : Nat) : (s.put f v).mp = s.mp := rfl
@[simp] theorem State.put_mpStarts (s : State) (f : Fld) (v : Nat) : (s.put f v).mpStarts = s.mpStarts := rfl
@[simp] theorem State.put_audit (s : State) (f : Fld) (v : Nat) : (s.put f v).audit = s.audit := rfl
@[simp] theorem State.put_flash (s : State) (f : Fld) (v : Nat) : (s.put f v).flash = s.flash := rfl
@[simp] theorem State.put_site (s : State) (f : Fld) (v : Nat) : (s.put f v).site = s.site := rfl
@[simp] theorem State.put_dram (s : State) (f : Fld) (v : Nat) : (s.put f v).dram = s.dram := rfl
@[simp] theorem State.put_unit (s : State) (f : Fld) (v : Nat) : (s.put f v).unit = s.unit := rfl
@[simp] theorem State.put_memDevs (s : State) (f : Fld) (v : Nat) : (s.put f v).memDevs = s.memDevs := rfl

@[simp] theorem State.putS_pending (s : State) (f : Fld) (x : Int) : (s.putS f x).pending = s.pending := rfl
@[simp] theorem State.putS_out (s : State) (f : Fld) (x : Int) : (s.putS f x).out = s.out := rfl
@[simp] theorem State.putS_freeCtr (s : State) (f : Fld) (x : Int) : (s.putS f x).freeCtr = s.freeCtr := rfl
@[simp] theorem State.putS_ply (s : State) (f : Fld) (x : Int) : (s.putS f x).ply = s.ply := rfl
@[simp] theorem State.putS_rst (s : State) (f : Fld) (x : Int) : (s.putS f x).rst = s.rst := rfl
@[simp] theorem State.putS_clk (s : State) (f : Fld) (x : Int) : (s.putS f x).clk = s.clk := rfl
@[simp] theorem State.putS_pwr (s : State) (f : Fld) (x : Int) : (s.putS f x).pwr = s.pwr := rfl
@[simp] theorem State.putS_sw (s : State) (f : Fld) (x : Int) : (s.putS f x).sw = s.sw := rfl
@[simp] theorem State.putS_cast (s : State) (f : Fld) (x : Int) : (s.putS f x).cast = s.cast := rfl
@[simp] theorem State.putS_evr (s : State) (f : Fld) (x : Int) : (s.putS f x).evr = s.evr := rfl
@[simp] theorem State.putS_time (s : State) (f : Fld) (x : Int) : (s.putS f x).time = s.time := rfl
@[simp] theorem State.putS_ecp (s : State) (f : Fld) (x : Int) : (s.putS f x).ecp = s.ecp := rfl
@[simp] theorem State.putS_boot (s : State) (f : Fld) (x : Int) : (s.putS f x).boot = s.boot := rfl
@[simp] theorem State.putS_gnss (s : State) (f : Fld) (x : Int) : (s.putS f x).gnss = s.gnss := rfl
@[simp] theorem State.putS_gnssCfg (s : State) (f : Fld) (x : Int) : (s.putS f x).gnssCfg = s.gnssCfg := rfl
@[simp] theorem State.putS_feExt (s : State) (f : Fld) (x : Int) : (s.putS f x).feExt = s.feExt := rfl
@[simp] theorem State.putS_eth (s : State) (f : Fld) (x : Int) : (s.putS f x).eth = s.eth := rfl
@[simp] theorem State.putS_fix (s : State) (f : Fld) (x : Int) : (s.putS f x).fix = s.fix := rfl
@[simp] theorem State.putS_ks (s : State) (f : Fld) (x : Int) : (s.putS f x).ks = s.ks := rfl
@[simp] theorem State.putS_radio (s : State) (f : Fld) (x : Int) : (s.putS f x).radio = s.radio := rfl
@[simp] theorem State.putS_trx (s : State) (f : Fld) (x : Int) : (s.putS f x).trx = s.trx := rfl
@[simp] theorem State.putS_mac (s : State) (f : Fld) (x : Int) : (s.putS f x).mac = s.mac := rfl
@[simp] theorem State.putS_disp (s : State) (f : Fld) (x : Int) : (s.putS f x).disp = s.disp := rfl
@[simp] theorem State.putS_trk (s : State) (f : Fld) (x : Int) : (s.putS f x).trk = s.trk := rfl
@[simp] theorem State.putS_rook (s : State) (f : Fld) (x : Int) : (s.putS f x).rook = s.rook := rfl
@[simp] theorem State.putS_pair (s : State) (f : Fld) (x : Int) : (s.putS f x).pair = s.pair := rfl
@[simp] theorem State.putS_mp (s : State) (f : Fld) (x : Int) : (s.putS f x).mp = s.mp := rfl
@[simp] theorem State.putS_mpStarts (s : State) (f : Fld) (x : Int) : (s.putS f x).mpStarts = s.mpStarts := rfl
@[simp] theorem State.putS_audit (s : State) (f : Fld) (x : Int) : (s.putS f x).audit = s.audit := rfl
@[simp] theorem State.putS_flash (s : State) (f : Fld) (x : Int) : (s.putS f x).flash = s.flash := rfl
@[simp] theorem State.putS_site (s : State) (f : Fld) (x : Int) : (s.putS f x).site = s.site := rfl
@[simp] theorem State.putS_dram (s : State) (f : Fld) (x : Int) : (s.putS f x).dram = s.dram := rfl
@[simp] theorem State.putS_unit (s : State) (f : Fld) (x : Int) : (s.putS f x).unit = s.unit := rfl
@[simp] theorem State.putS_memDevs (s : State) (f : Fld) (x : Int) : (s.putS f x).memDevs = s.memDevs := rfl

@[simp] theorem State.bump_pending (s : State) (f : Fld) (n : Nat) : (s.bump f n).pending = s.pending := rfl
@[simp] theorem State.bump_out (s : State) (f : Fld) (n : Nat) : (s.bump f n).out = s.out := rfl
@[simp] theorem State.bump_freeCtr (s : State) (f : Fld) (n : Nat) : (s.bump f n).freeCtr = s.freeCtr := rfl
@[simp] theorem State.bump_ply (s : State) (f : Fld) (n : Nat) : (s.bump f n).ply = s.ply := rfl
@[simp] theorem State.bump_rst (s : State) (f : Fld) (n : Nat) : (s.bump f n).rst = s.rst := rfl
@[simp] theorem State.bump_clk (s : State) (f : Fld) (n : Nat) : (s.bump f n).clk = s.clk := rfl
@[simp] theorem State.bump_pwr (s : State) (f : Fld) (n : Nat) : (s.bump f n).pwr = s.pwr := rfl
@[simp] theorem State.bump_sw (s : State) (f : Fld) (n : Nat) : (s.bump f n).sw = s.sw := rfl
@[simp] theorem State.bump_cast (s : State) (f : Fld) (n : Nat) : (s.bump f n).cast = s.cast := rfl
@[simp] theorem State.bump_evr (s : State) (f : Fld) (n : Nat) : (s.bump f n).evr = s.evr := rfl
@[simp] theorem State.bump_time (s : State) (f : Fld) (n : Nat) : (s.bump f n).time = s.time := rfl
@[simp] theorem State.bump_ecp (s : State) (f : Fld) (n : Nat) : (s.bump f n).ecp = s.ecp := rfl
@[simp] theorem State.bump_boot (s : State) (f : Fld) (n : Nat) : (s.bump f n).boot = s.boot := rfl
@[simp] theorem State.bump_gnss (s : State) (f : Fld) (n : Nat) : (s.bump f n).gnss = s.gnss := rfl
@[simp] theorem State.bump_gnssCfg (s : State) (f : Fld) (n : Nat) : (s.bump f n).gnssCfg = s.gnssCfg := rfl
@[simp] theorem State.bump_feExt (s : State) (f : Fld) (n : Nat) : (s.bump f n).feExt = s.feExt := rfl
@[simp] theorem State.bump_eth (s : State) (f : Fld) (n : Nat) : (s.bump f n).eth = s.eth := rfl
@[simp] theorem State.bump_fix (s : State) (f : Fld) (n : Nat) : (s.bump f n).fix = s.fix := rfl
@[simp] theorem State.bump_ks (s : State) (f : Fld) (n : Nat) : (s.bump f n).ks = s.ks := rfl
@[simp] theorem State.bump_radio (s : State) (f : Fld) (n : Nat) : (s.bump f n).radio = s.radio := rfl
@[simp] theorem State.bump_trx (s : State) (f : Fld) (n : Nat) : (s.bump f n).trx = s.trx := rfl
@[simp] theorem State.bump_mac (s : State) (f : Fld) (n : Nat) : (s.bump f n).mac = s.mac := rfl
@[simp] theorem State.bump_disp (s : State) (f : Fld) (n : Nat) : (s.bump f n).disp = s.disp := rfl
@[simp] theorem State.bump_trk (s : State) (f : Fld) (n : Nat) : (s.bump f n).trk = s.trk := rfl
@[simp] theorem State.bump_rook (s : State) (f : Fld) (n : Nat) : (s.bump f n).rook = s.rook := rfl
@[simp] theorem State.bump_pair (s : State) (f : Fld) (n : Nat) : (s.bump f n).pair = s.pair := rfl
@[simp] theorem State.bump_mp (s : State) (f : Fld) (n : Nat) : (s.bump f n).mp = s.mp := rfl
@[simp] theorem State.bump_mpStarts (s : State) (f : Fld) (n : Nat) : (s.bump f n).mpStarts = s.mpStarts := rfl
@[simp] theorem State.bump_audit (s : State) (f : Fld) (n : Nat) : (s.bump f n).audit = s.audit := rfl
@[simp] theorem State.bump_flash (s : State) (f : Fld) (n : Nat) : (s.bump f n).flash = s.flash := rfl
@[simp] theorem State.bump_site (s : State) (f : Fld) (n : Nat) : (s.bump f n).site = s.site := rfl
@[simp] theorem State.bump_dram (s : State) (f : Fld) (n : Nat) : (s.bump f n).dram = s.dram := rfl
@[simp] theorem State.bump_unit (s : State) (f : Fld) (n : Nat) : (s.bump f n).unit = s.unit := rfl
@[simp] theorem State.bump_memDevs (s : State) (f : Fld) (n : Nat) : (s.bump f n).memDevs = s.memDevs := rfl

@[simp] theorem State.putBit_pending (s : State) (f : Fld) (n : Nat) (b : Bool) : (s.putBit f n b).pending = s.pending := rfl
@[simp] theorem State.putBit_out (s : State) (f : Fld) (n : Nat) (b : Bool) : (s.putBit f n b).out = s.out := rfl
@[simp] theorem State.putBit_freeCtr (s : State) (f : Fld) (n : Nat) (b : Bool) : (s.putBit f n b).freeCtr = s.freeCtr := rfl
@[simp] theorem State.putBit_ply (s : State) (f : Fld) (n : Nat) (b : Bool) : (s.putBit f n b).ply = s.ply := rfl
@[simp] theorem State.putBit_rst (s : State) (f : Fld) (n : Nat) (b : Bool) : (s.putBit f n b).rst = s.rst := rfl
@[simp] theorem State.putBit_clk (s : State) (f : Fld) (n : Nat) (b : Bool) : (s.putBit f n b).clk = s.clk := rfl
@[simp] theorem State.putBit_pwr (s : State) (f : Fld) (n : Nat) (b : Bool) : (s.putBit f n b).pwr = s.pwr := rfl
@[simp] theorem State.putBit_sw (s : State) (f : Fld) (n : Nat) (b : Bool) : (s.putBit f n b).sw = s.sw := rfl
@[simp] theorem State.putBit_cast (s : State) (f : Fld) (n : Nat) (b : Bool) : (s.putBit f n b).cast = s.cast := rfl
@[simp] theorem State.putBit_evr (s : State) (f : Fld) (n : Nat) (b : Bool) : (s.putBit f n b).evr = s.evr := rfl
@[simp] theorem State.putBit_time (s : State) (f : Fld) (n : Nat) (b : Bool) : (s.putBit f n b).time = s.time := rfl
@[simp] theorem State.putBit_ecp (s : State) (f : Fld) (n : Nat) (b : Bool) : (s.putBit f n b).ecp = s.ecp := rfl
@[simp] theorem State.putBit_boot (s : State) (f : Fld) (n : Nat) (b : Bool) : (s.putBit f n b).boot = s.boot := rfl
@[simp] theorem State.putBit_gnss (s : State) (f : Fld) (n : Nat) (b : Bool) : (s.putBit f n b).gnss = s.gnss := rfl
@[simp] theorem State.putBit_gnssCfg (s : State) (f : Fld) (n : Nat) (b : Bool) : (s.putBit f n b).gnssCfg = s.gnssCfg := rfl
@[simp] theorem State.putBit_feExt (s : State) (f : Fld) (n : Nat) (b : Bool) : (s.putBit f n b).feExt = s.feExt := rfl
@[simp] theorem State.putBit_eth (s : State) (f : Fld) (n : Nat) (b : Bool) : (s.putBit f n b).eth = s.eth := rfl
@[simp] theorem State.putBit_fix (s : State) (f : Fld) (n : Nat) (b : Bool) : (s.putBit f n b).fix = s.fix := rfl
@[simp] theorem State.putBit_ks (s : State) (f : Fld) (n : Nat) (b : Bool) : (s.putBit f n b).ks = s.ks := rfl
@[simp] theorem State.putBit_radio (s : State) (f : Fld) (n : Nat) (b : Bool) : (s.putBit f n b).radio = s.radio := rfl
@[simp] theorem State.putBit_trx (s : State) (f : Fld) (n : Nat) (b : Bool) : (s.putBit f n b).trx = s.trx := rfl
@[simp] theorem State.putBit_mac (s : State) (f : Fld) (n : Nat) (b : Bool) : (s.putBit f n b).mac = s.mac := rfl
@[simp] theorem State.putBit_disp (s : State) (f : Fld) (n : Nat) (b : Bool) : (s.putBit f n b).disp = s.disp := rfl
@[simp] theorem State.putBit_trk (s : State) (f : Fld) (n : Nat) (b : Bool) : (s.putBit f n b).trk = s.trk := rfl
@[simp] theorem State.putBit_rook (s : State) (f : Fld) (n : Nat) (b : Bool) : (s.putBit f n b).rook = s.rook := rfl
@[simp] theorem State.putBit_pair (s : State) (f : Fld) (n : Nat) (b : Bool) : (s.putBit f n b).pair = s.pair := rfl
@[simp] theorem State.putBit_mp (s : State) (f : Fld) (n : Nat) (b : Bool) : (s.putBit f n b).mp = s.mp := rfl
@[simp] theorem State.putBit_mpStarts (s : State) (f : Fld) (n : Nat) (b : Bool) : (s.putBit f n b).mpStarts = s.mpStarts := rfl
@[simp] theorem State.putBit_audit (s : State) (f : Fld) (n : Nat) (b : Bool) : (s.putBit f n b).audit = s.audit := rfl
@[simp] theorem State.putBit_flash (s : State) (f : Fld) (n : Nat) (b : Bool) : (s.putBit f n b).flash = s.flash := rfl
@[simp] theorem State.putBit_site (s : State) (f : Fld) (n : Nat) (b : Bool) : (s.putBit f n b).site = s.site := rfl
@[simp] theorem State.putBit_dram (s : State) (f : Fld) (n : Nat) (b : Bool) : (s.putBit f n b).dram = s.dram := rfl
@[simp] theorem State.putBit_unit (s : State) (f : Fld) (n : Nat) (b : Bool) : (s.putBit f n b).unit = s.unit := rfl
@[simp] theorem State.putBit_memDevs (s : State) (f : Fld) (n : Nat) (b : Bool) : (s.putBit f n b).memDevs = s.memDevs := rfl

@[simp] theorem State.emit_pending (s : State) (o : Output) : (s.emit o).pending = s.pending := rfl
@[simp] theorem State.emit_freeCtr (s : State) (o : Output) : (s.emit o).freeCtr = s.freeCtr := rfl
@[simp] theorem State.emit_regs (s : State) (o : Output) : (s.emit o).regs = s.regs := rfl
@[simp] theorem State.emit_ply (s : State) (o : Output) : (s.emit o).ply = s.ply := rfl
@[simp] theorem State.emit_rst (s : State) (o : Output) : (s.emit o).rst = s.rst := rfl
@[simp] theorem State.emit_clk (s : State) (o : Output) : (s.emit o).clk = s.clk := rfl
@[simp] theorem State.emit_pwr (s : State) (o : Output) : (s.emit o).pwr = s.pwr := rfl
@[simp] theorem State.emit_sw (s : State) (o : Output) : (s.emit o).sw = s.sw := rfl
@[simp] theorem State.emit_cast (s : State) (o : Output) : (s.emit o).cast = s.cast := rfl
@[simp] theorem State.emit_evr (s : State) (o : Output) : (s.emit o).evr = s.evr := rfl
@[simp] theorem State.emit_time (s : State) (o : Output) : (s.emit o).time = s.time := rfl
@[simp] theorem State.emit_ecp (s : State) (o : Output) : (s.emit o).ecp = s.ecp := rfl
@[simp] theorem State.emit_boot (s : State) (o : Output) : (s.emit o).boot = s.boot := rfl
@[simp] theorem State.emit_gnss (s : State) (o : Output) : (s.emit o).gnss = s.gnss := rfl
@[simp] theorem State.emit_gnssCfg (s : State) (o : Output) : (s.emit o).gnssCfg = s.gnssCfg := rfl
@[simp] theorem State.emit_feExt (s : State) (o : Output) : (s.emit o).feExt = s.feExt := rfl
@[simp] theorem State.emit_eth (s : State) (o : Output) : (s.emit o).eth = s.eth := rfl
@[simp] theorem State.emit_fix (s : State) (o : Output) : (s.emit o).fix = s.fix := rfl
@[simp] theorem State.emit_ks (s : State) (o : Output) : (s.emit o).ks = s.ks := rfl
@[simp] theorem State.emit_radio (s : State) (o : Output) : (s.emit o).radio = s.radio := rfl
@[simp] theorem State.emit_trx (s : State) (o : Output) : (s.emit o).trx = s.trx := rfl
@[simp] theorem State.emit_mac (s : State) (o : Output) : (s.emit o).mac = s.mac := rfl
@[simp] theorem State.emit_disp (s : State) (o : Output) : (s.emit o).disp = s.disp := rfl
@[simp] theorem State.emit_trk (s : State) (o : Output) : (s.emit o).trk = s.trk := rfl
@[simp] theorem State.emit_rook (s : State) (o : Output) : (s.emit o).rook = s.rook := rfl
@[simp] theorem State.emit_pair (s : State) (o : Output) : (s.emit o).pair = s.pair := rfl
@[simp] theorem State.emit_mp (s : State) (o : Output) : (s.emit o).mp = s.mp := rfl
@[simp] theorem State.emit_mpStarts (s : State) (o : Output) : (s.emit o).mpStarts = s.mpStarts := rfl
@[simp] theorem State.emit_audit (s : State) (o : Output) : (s.emit o).audit = s.audit := rfl
@[simp] theorem State.emit_flash (s : State) (o : Output) : (s.emit o).flash = s.flash := rfl
@[simp] theorem State.emit_site (s : State) (o : Output) : (s.emit o).site = s.site := rfl
@[simp] theorem State.emit_dram (s : State) (o : Output) : (s.emit o).dram = s.dram := rfl
@[simp] theorem State.emit_unit (s : State) (o : Output) : (s.emit o).unit = s.unit := rfl
@[simp] theorem State.emit_memDevs (s : State) (o : Output) : (s.emit o).memDevs = s.memDevs := rfl

@[simp] theorem State.useFree_pending (s : State) (n : Nat) : (s.useFree n).pending = s.pending := rfl
@[simp] theorem State.useFree_out (s : State) (n : Nat) : (s.useFree n).out = s.out := rfl
@[simp] theorem State.useFree_regs (s : State) (n : Nat) : (s.useFree n).regs = s.regs := rfl
@[simp] theorem State.useFree_ply (s : State) (n : Nat) : (s.useFree n).ply = s.ply := rfl
@[simp] theorem State.useFree_rst (s : State) (n : Nat) : (s.useFree n).rst = s.rst := rfl
@[simp] theorem State.useFree_clk (s : State) (n : Nat) : (s.useFree n).clk = s.clk := rfl
@[simp] theorem State.useFree_pwr (s : State) (n : Nat) : (s.useFree n).pwr = s.pwr := rfl
@[simp] theorem State.useFree_sw (s : State) (n : Nat) : (s.useFree n).sw = s.sw := rfl
@[simp] theorem State.useFree_cast (s : State) (n : Nat) : (s.useFree n).cast = s.cast := rfl
@[simp] theorem State.useFree_evr (s : State) (n : Nat) : (s.useFree n).evr = s.evr := rfl
@[simp] theorem State.useFree_time (s : State) (n : Nat) : (s.useFree n).time = s.time := rfl
@[simp] theorem State.useFree_ecp (s : State) (n : Nat) : (s.useFree n).ecp = s.ecp := rfl
@[simp] theorem State.useFree_boot (s : State) (n : Nat) : (s.useFree n).boot = s.boot := rfl
@[simp] theorem State.useFree_gnss (s : State) (n : Nat) : (s.useFree n).gnss = s.gnss := rfl
@[simp] theorem State.useFree_gnssCfg (s : State) (n : Nat) : (s.useFree n).gnssCfg = s.gnssCfg := rfl
@[simp] theorem State.useFree_feExt (s : State) (n : Nat) : (s.useFree n).feExt = s.feExt := rfl
@[simp] theorem State.useFree_eth (s : State) (n : Nat) : (s.useFree n).eth = s.eth := rfl
@[simp] theorem State.useFree_fix (s : State) (n : Nat) : (s.useFree n).fix = s.fix := rfl
@[simp] theorem State.useFree_ks (s : State) (n : Nat) : (s.useFree n).ks = s.ks := rfl
@[simp] theorem State.useFree_radio (s : State) (n : Nat) : (s.useFree n).radio = s.radio := rfl
@[simp] theorem State.useFree_trx (s : State) (n : Nat) : (s.useFree n).trx = s.trx := rfl
@[simp] theorem State.useFree_mac (s : State) (n : Nat) : (s.useFree n).mac = s.mac := rfl
@[simp] theorem State.useFree_disp (s : State) (n : Nat) : (s.useFree n).disp = s.disp := rfl
@[simp] theorem State.useFree_trk (s : State) (n : Nat) : (s.useFree n).trk = s.trk := rfl
@[simp] theorem State.useFree_rook (s : State) (n : Nat) : (s.useFree n).rook = s.rook := rfl
@[simp] theorem State.useFree_pair (s : State) (n : Nat) : (s.useFree n).pair = s.pair := rfl
@[simp] theorem State.useFree_mp (s : State) (n : Nat) : (s.useFree n).mp = s.mp := rfl
@[simp] theorem State.useFree_mpStarts (s : State) (n : Nat) : (s.useFree n).mpStarts = s.mpStarts := rfl
@[simp] theorem State.useFree_audit (s : State) (n : Nat) : (s.useFree n).audit = s.audit := rfl
@[simp] theorem State.useFree_flash (s : State) (n : Nat) : (s.useFree n).flash = s.flash := rfl
@[simp] theorem State.useFree_site (s : State) (n : Nat) : (s.useFree n).site = s.site := rfl
@[simp] theorem State.useFree_dram (s : State) (n : Nat) : (s.useFree n).dram = s.dram := rfl
@[simp] theorem State.useFree_unit (s : State) (n : Nat) : (s.useFree n).unit = s.unit := rfl
@[simp] theorem State.useFree_memDevs (s : State) (n : Nat) : (s.useFree n).memDevs = s.memDevs := rfl

@[simp] theorem State.emit_out (s : State) (o : Output) : (s.emit o).out = s.out ++ [o] := rfl
@[simp] theorem State.useFree_freeCtr (s : State) (n : Nat) : (s.useFree n).freeCtr = s.freeCtr + n := rfl
@[simp] theorem State.get_emit (s : State) (o : Output) (g : Fld) : (s.emit o).get g = s.get g := rfl
@[simp] theorem State.bit_emit (s : State) (o : Output) (g : Fld) : (s.emit o).bit g = s.bit g := rfl
@[simp] theorem State.get_useFree (s : State) (n : Nat) (g : Fld) : (s.useFree n).get g = s.get g := rfl
@[simp] theorem State.bit_useFree (s : State) (n : Nat) (g : Fld) : (s.useFree n).bit g = s.bit g := rfl

end Sys2Proof.Machine
end

