-- ==== Sys2Proof/Laws/Ops.lean ====
section
/-!
SUPPORT. What each shared operation of Machine/Ops.lean can do, said once: lists of field writes, the relay gate every command
ends with, event records, and register accesses that are granted, denied or go nowhere.
-/

namespace Sys2Proof.Machine

open R

/-! ## Lists of field writes change registers alone -/

theorem State.puts_eq (l : List (Fld × Nat)) (s : State) : s.puts l = { s with regs := (s.puts l).regs } := by
  induction l generalizing s with
  | nil => rfl
  | cons e t ih => obtain ⟨f, v⟩ := e; rw [State.puts_cons, ih (s.put f v)]; rfl

@[simp] theorem State.puts_pending (s : State) (l : List (Fld × Nat)) : (s.puts l).pending = s.pending := by rw [State.puts_eq]
@[simp] theorem State.puts_out (s : State) (l : List (Fld × Nat)) : (s.puts l).out = s.out := by rw [State.puts_eq]
@[simp] theorem State.puts_freeCtr (s : State) (l : List (Fld × Nat)) : (s.puts l).freeCtr = s.freeCtr := by rw [State.puts_eq]
@[simp] theorem State.puts_ply (s : State) (l : List (Fld × Nat)) : (s.puts l).ply = s.ply := by rw [State.puts_eq]
@[simp] theorem State.puts_rst (s : State) (l : List (Fld × Nat)) : (s.puts l).rst = s.rst := by rw [State.puts_eq]
@[simp] theorem State.puts_clk (s : State) (l : List (Fld × Nat)) : (s.puts l).clk = s.clk := by rw [State.puts_eq]
@[simp] theorem State.puts_pwr (s : State) (l : List (Fld × Nat)) : (s.puts l).pwr = s.pwr := by rw [State.puts_eq]
@[simp] theorem State.puts_sw (s : State) (l : List (Fld × Nat)) : (s.puts l).sw = s.sw := by rw [State.puts_eq]
@[simp] theorem State.puts_cast (s : State) (l : List (Fld × Nat)) : (s.puts l).cast = s.cast := by rw [State.puts_eq]
@[simp] theorem State.puts_evr (s : State) (l : List (Fld × Nat)) : (s.puts l).evr = s.evr := by rw [State.puts_eq]
@[simp] theorem State.puts_time (s : State) (l : List (Fld × Nat)) : (s.puts l).time = s.time := by rw [State.puts_eq]
@[simp] theorem State.puts_ecp (s : State) (l : List (Fld × Nat)) : (s.puts l).ecp = s.ecp := by rw [State.puts_eq]
@[simp] theorem State.puts_boot (s : State) (l : List (Fld × Nat)) : (s.puts l).boot = s.boot := by rw [State.puts_eq]
@[simp] theorem State.puts_gnss (s : State) (l : List (Fld × Nat)) : (s.puts l).gnss = s.gnss := by rw [State.puts_eq]
@[simp] theorem State.puts_gnssCfg (s : State) (l : List (Fld × Nat)) : (s.puts l).gnssCfg = s.gnssCfg := by rw [State.puts_eq]
@[simp] theorem State.puts_feExt (s : State) (l : List (Fld × Nat)) : (s.puts l).feExt = s.feExt := by rw [State.puts_eq]
@[simp] theorem State.puts_eth (s : State) (l : List (Fld × Nat)) : (s.puts l).eth = s.eth := by rw [State.puts_eq]
@[simp] theorem State.puts_fix (s : State) (l : List (Fld × Nat)) : (s.puts l).fix = s.fix := by rw [State.puts_eq]
@[simp] theorem State.puts_ks (s : State) (l : List (Fld × Nat)) : (s.puts l).ks = s.ks := by rw [State.puts_eq]
@[simp] theorem State.puts_radio (s : State) (l : List (Fld × Nat)) : (s.puts l).radio = s.radio := by rw [State.puts_eq]
@[simp] theorem State.puts_trx (s : State) (l : List (Fld × Nat)) : (s.puts l).trx = s.trx := by rw [State.puts_eq]
@[simp] theorem State.puts_mac (s : State) (l : List (Fld × Nat)) : (s.puts l).mac = s.mac := by rw [State.puts_eq]
@[simp] theorem State.puts_disp (s : State) (l : List (Fld × Nat)) : (s.puts l).disp = s.disp := by rw [State.puts_eq]
@[simp] theorem State.puts_trk (s : State) (l : List (Fld × Nat)) : (s.puts l).trk = s.trk := by rw [State.puts_eq]
@[simp] theorem State.puts_rook (s : State) (l : List (Fld × Nat)) : (s.puts l).rook = s.rook := by rw [State.puts_eq]
@[simp] theorem State.puts_pair (s : State) (l : List (Fld × Nat)) : (s.puts l).pair = s.pair := by rw [State.puts_eq]
@[simp] theorem State.puts_mp (s : State) (l : List (Fld × Nat)) : (s.puts l).mp = s.mp := by rw [State.puts_eq]
@[simp] theorem State.puts_mpStarts (s : State) (l : List (Fld × Nat)) : (s.puts l).mpStarts = s.mpStarts := by rw [State.puts_eq]
@[simp] theorem State.puts_audit (s : State) (l : List (Fld × Nat)) : (s.puts l).audit = s.audit := by rw [State.puts_eq]
@[simp] theorem State.puts_flash (s : State) (l : List (Fld × Nat)) : (s.puts l).flash = s.flash := by rw [State.puts_eq]
@[simp] theorem State.puts_site (s : State) (l : List (Fld × Nat)) : (s.puts l).site = s.site := by rw [State.puts_eq]
@[simp] theorem State.puts_dram (s : State) (l : List (Fld × Nat)) : (s.puts l).dram = s.dram := by rw [State.puts_eq]
@[simp] theorem State.puts_unit (s : State) (l : List (Fld × Nat)) : (s.puts l).unit = s.unit := by rw [State.puts_eq]
@[simp] theorem State.puts_memDevs (s : State) (l : List (Fld × Nat)) : (s.puts l).memDevs = s.memDevs := by rw [State.puts_eq]

/-! ## The relay gate (R523) -/

/-- The gate changes nothing, or lowers the drive of the relays. -/
theorem State.relayGate_cases (s : State) :
    (s.bit ROOK_STATE_STOP = false ∧ s.relayGate = s) ∨ (s.bit ROOK_STATE_STOP = true ∧ s.relayGate = s.put RELAY_STATUS_DRIVE 0) := by
  unfold State.relayGate
  cases h : s.bit ROOK_STATE_STOP <;> simp

@[simp] theorem State.relayGate_pending (s : State) : s.relayGate.pending = s.pending := by
  rcases s.relayGate_cases with h | h <;> simp [h.2]
@[simp] theorem State.relayGate_out (s : State) : s.relayGate.out = s.out := by
  rcases s.relayGate_cases with h | h <;> simp [h.2]
@[simp] theorem State.relayGate_freeCtr (s : State) : s.relayGate.freeCtr = s.freeCtr := by
  rcases s.relayGate_cases with h | h <;> simp [h.2]
@[simp] theorem State.relayGate_ply (s : State) : s.relayGate.ply = s.ply := by
  rcases s.relayGate_cases with h | h <;> simp [h.2]
@[simp] theorem State.relayGate_rst (s : State) : s.relayGate.rst = s.rst := by
  rcases s.relayGate_cases with h | h <;> simp [h.2]
@[simp] theorem State.relayGate_clk (s : State) : s.relayGate.clk = s.clk := by
  rcases s.relayGate_cases with h | h <;> simp [h.2]
@[simp] theorem State.relayGate_pwr (s : State) : s.relayGate.pwr = s.pwr := by
  rcases s.relayGate_cases with h | h <;> simp [h.2]
@[simp] theorem State.relayGate_sw (s : State) : s.relayGate.sw = s.sw := by
  rcases s.relayGate_cases with h | h <;> simp [h.2]
@[simp] theorem State.relayGate_cast (s : State) : s.relayGate.cast = s.cast := by
  rcases s.relayGate_cases with h | h <;> simp [h.2]
@[simp] theorem State.relayGate_evr (s : State) : s.relayGate.evr = s.evr := by
  rcases s.relayGate_cases with h | h <;> simp [h.2]
@[simp] theorem State.relayGate_time (s : State) : s.relayGate.time = s.time := by
  rcases s.relayGate_cases with h | h <;> simp [h.2]
@[simp] theorem State.relayGate_ecp (s : State) : s.relayGate.ecp = s.ecp := by
  rcases s.relayGate_cases with h | h <;> simp [h.2]
@[simp] theorem State.relayGate_boot (s : State) : s.relayGate.boot = s.boot := by
  rcases s.relayGate_cases with h | h <;> simp [h.2]
@[simp] theorem State.relayGate_gnss (s : State) : s.relayGate.gnss = s.gnss := by
  rcases s.relayGate_cases with h | h <;> simp [h.2]
@[simp] theorem State.relayGate_gnssCfg (s : State) : s.relayGate.gnssCfg = s.gnssCfg := by
  rcases s.relayGate_cases with h | h <;> simp [h.2]
@[simp] theorem State.relayGate_feExt (s : State) : s.relayGate.feExt = s.feExt := by
  rcases s.relayGate_cases with h | h <;> simp [h.2]
@[simp] theorem State.relayGate_eth (s : State) : s.relayGate.eth = s.eth := by
  rcases s.relayGate_cases with h | h <;> simp [h.2]
@[simp] theorem State.relayGate_fix (s : State) : s.relayGate.fix = s.fix := by
  rcases s.relayGate_cases with h | h <;> simp [h.2]
@[simp] theorem State.relayGate_ks (s : State) : s.relayGate.ks = s.ks := by
  rcases s.relayGate_cases with h | h <;> simp [h.2]
@[simp] theorem State.relayGate_radio (s : State) : s.relayGate.radio = s.radio := by
  rcases s.relayGate_cases with h | h <;> simp [h.2]
@[simp] theorem State.relayGate_trx (s : State) : s.relayGate.trx = s.trx := by
  rcases s.relayGate_cases with h | h <;> simp [h.2]
@[simp] theorem State.relayGate_mac (s : State) : s.relayGate.mac = s.mac := by
  rcases s.relayGate_cases with h | h <;> simp [h.2]
@[simp] theorem State.relayGate_disp (s : State) : s.relayGate.disp = s.disp := by
  rcases s.relayGate_cases with h | h <;> simp [h.2]
@[simp] theorem State.relayGate_trk (s : State) : s.relayGate.trk = s.trk := by
  rcases s.relayGate_cases with h | h <;> simp [h.2]
@[simp] theorem State.relayGate_rook (s : State) : s.relayGate.rook = s.rook := by
  rcases s.relayGate_cases with h | h <;> simp [h.2]
@[simp] theorem State.relayGate_pair (s : State) : s.relayGate.pair = s.pair := by
  rcases s.relayGate_cases with h | h <;> simp [h.2]
@[simp] theorem State.relayGate_mp (s : State) : s.relayGate.mp = s.mp := by
  rcases s.relayGate_cases with h | h <;> simp [h.2]
@[simp] theorem State.relayGate_mpStarts (s : State) : s.relayGate.mpStarts = s.mpStarts := by
  rcases s.relayGate_cases with h | h <;> simp [h.2]
@[simp] theorem State.relayGate_audit (s : State) : s.relayGate.audit = s.audit := by
  rcases s.relayGate_cases with h | h <;> simp [h.2]
@[simp] theorem State.relayGate_flash (s : State) : s.relayGate.flash = s.flash := by
  rcases s.relayGate_cases with h | h <;> simp [h.2]
@[simp] theorem State.relayGate_site (s : State) : s.relayGate.site = s.site := by
  rcases s.relayGate_cases with h | h <;> simp [h.2]
@[simp] theorem State.relayGate_dram (s : State) : s.relayGate.dram = s.dram := by
  rcases s.relayGate_cases with h | h <;> simp [h.2]
@[simp] theorem State.relayGate_unit (s : State) : s.relayGate.unit = s.unit := by
  rcases s.relayGate_cases with h | h <;> simp [h.2]
@[simp] theorem State.relayGate_memDevs (s : State) : s.relayGate.memDevs = s.memDevs := by
  rcases s.relayGate_cases with h | h <;> simp [h.2]

/-- The gate leaves every field but the drive of the relays. -/
theorem State.get_relayGate (s : State) (f : Fld) (h : RELAY_STATUS_DRIVE.key ≠ f.key) : s.relayGate.get f = s.get f := by
  rcases s.relayGate_cases with g | g
  · rw [g.2]
  · rw [g.2]; exact State.get_put_ne s _ f 0 h

/-- In the stop state no relay is driven after the gate. -/
theorem State.relayGate_drive (s : State) (h : s.relayGate.bit ROOK_STATE_STOP = true) : s.relayGate.get RELAY_STATUS_DRIVE = 0 := by
  rcases s.relayGate_cases with g | g
  · rw [g.2] at h; rw [g.1] at h; cases h
  · rw [g.2]; simp

/-! ## Event records (R594 to R598) -/

/-- A record changes the queue of the recorder, or with a full queue its count of drops. -/
theorem State.record_cases (s : State) (e : Ev) (p : List Nat) (src : Nat) :
    s.record e p src = s ∨ (∃ q, s.record e p src = { s with evr := q }) ∨
    (∃ q, s.record e p src = { s.bump REC_CNT_QUEUE_DROP with evr := q }) := by
  unfold State.record
  split
  · exact Or.inl rfl
  · split
    · exact Or.inr (Or.inr ⟨_, rfl⟩)
    · exact Or.inr (Or.inl ⟨_, rfl⟩)

/-- A record leaves every field but QUEUE_DROP. -/
theorem State.get_record (s : State) (e : Ev) (p : List Nat) (src : Nat) (f : Fld) (h : REC_CNT_QUEUE_DROP.key ≠ f.key) :
    (s.record e p src).get f = s.get f := by
  rcases s.record_cases e p src with g | ⟨q, g⟩ | ⟨q, g⟩
  · rw [g]
  · rw [g]; rfl
  · rw [g]; exact State.get_put_ne s _ f _ h

/-! ## Register accesses (R89, R170, R679, R680) -/

theorem State.judgeRow_rook (s : State) (f : RookState) (r : RegRow) (ini a : Nat) (w : Bool) :
    State.judgeRow { s with rook := f } r ini a w = s.judgeRow r ini a w := rfl

/-- A granted write runs its effect; a Rook write to another register than WDOG_SVC first cancels a pending service (R513). -/
theorem State.asWrite_ok (s : State) (ini a : Nat) (k : State → State) (h : s.judge ini a true = .ok) :
    s.asWrite ini a k = k (s.rookWrote ini a) := by
  have g : (s.rookWrote ini a).judge ini a true = .ok := by
    unfold State.rookWrote
    split
    · exact h
    · exact h
  unfold State.asWrite
  simp [g]

/-- A write by another initiator than Rook cancels nothing. -/
theorem State.rookWrote_other (s : State) (ini a : Nat) (h : ini ≠ 0x30) : s.rookWrote ini a = s := by
  unfold State.rookWrote
  simp [h]

/-- A granted read runs its effect. -/
theorem State.asRead_ok (s : State) (ini a : Nat) (k : State → State) (h : s.judge ini a false = .ok) :
    s.asRead ini a k = k s := by
  unfold State.asRead
  simp [h]

/-- A read that is denied is counted and recorded (R170). -/
theorem State.asRead_denied (s : State) (ini a : Nat) (k : State → State) (h : s.judge ini a false = .denied) :
    s.asRead ini a k = s.violation ini a := by
  unfold State.asRead
  simp [h]

end Sys2Proof.Machine
end

