-- ==== Sys2Proof/Laws/Reset.lean ====
section
/-!
SUPPORT. What asserting a reset source does, said once (R104, R110, R113, R120): the source is asserted, every part of its reach
is held, nothing is released, PD_AON's registers stay unless the reach covers them, and what lies outside the reset stays.
-/

namespace Sys2Proof.Machine

open R

/-! ## Folds -/

/-- A relation that is reflexive and transitive and that each step keeps holds across a fold. -/
theorem foldl_rel {α β : Type} (r : α → α → Prop) (hr : ∀ a, r a a) (ht : ∀ a b c, r a b → r b c → r a c)
    (f : α → β → α) (hf : ∀ a b, r a (f a b)) (l : List β) (a : α) : r a (l.foldl f a) := by
  induction l generalizing a with
  | nil => exact hr a
  | cons x xs ih => exact ht _ _ _ (hf a x) (ih (f a x))

/-! ## What an initiator's reset ends (R159, R166, R462, R633) -/

/-- Two states agree but for what an initiator owns: registers outside PD_AON, castlings, records, descriptors. -/
structure OwnerKeeps (s t : State) : Prop where
  aon : ∀ f : Fld, regPart f.key = .aon → t.get f = s.get f
  rest : t = { s with regs := t.regs, cast := t.cast, evr := t.evr, disp := t.disp }

theorem OwnerKeeps.refl (s : State) : OwnerKeeps s s := ⟨fun _ _ => rfl, rfl⟩

theorem OwnerKeeps.trans {a b c : State} (h : OwnerKeeps a b) (g : OwnerKeeps b c) : OwnerKeeps a c := by
  refine ⟨fun f hf => (g.aon f hf).trans (h.aon f hf), ?_⟩
  have := g.rest; rw [this]; rw [h.rest]

theorem OwnerKeeps.put (s : State) (f : Fld) (v : Nat) (h : regPart f.key ≠ .aon) : OwnerKeeps s (s.put f v) := by
  refine ⟨fun g hg => State.get_put_ne s f g v ?_, rfl⟩
  intro e; rw [e] at h; exact h hg

theorem OwnerKeeps.puts (l : List (Fld × Nat)) (s : State) (h : ∀ e ∈ l, regPart e.1.key ≠ .aon) : OwnerKeeps s (s.puts l) := by
  induction l generalizing s with
  | nil => exact .refl s
  | cons e t ih =>
    obtain ⟨f, v⟩ := e
    exact (OwnerKeeps.put s f v (h (f, v) (by simp))).trans (ih _ (fun e he => h e (by simp [he])))

theorem OwnerKeeps.record (s : State) (e : Ev) (p : List Nat) (src : Nat) : OwnerKeeps s (s.record e p src) := by
  refine ⟨fun f hf => State.get_record s e p src f ?_, ?_⟩
  · intro g; rw [← g] at hf; simp [regPart, regPartNum] at hf
  · rcases s.record_cases e p src with g | ⟨q, g⟩ | ⟨q, g⟩ <;> (rw [g]; try rfl)

theorem castOwnerReset_keeps (s : State) (n : Nat) : OwnerKeeps s (castOwnerReset s n) := by
  unfold castOwnerReset
  refine OwnerKeeps.trans ?_ (OwnerKeeps.record _ _ _ _)
  refine (OwnerKeeps.puts [(CAST_STAT_STATE n, 6), (CAST_INFO_CAUSE n, 0)] s ?_).trans ⟨fun _ _ => rfl, rfl⟩
  simp [regPart, regPartNum]

theorem abortCastings_keeps (ini : Nat) (s : State) : OwnerKeeps s (abortCastings ini s) := by
  apply foldl_rel _ OwnerKeeps.refl (fun _ _ _ => OwnerKeeps.trans)
  intro a n; split
  · exact castOwnerReset_keeps a n
  · exact .refl a

theorem freeSems_keeps (ini : Nat) (s : State) : OwnerKeeps s (freeSems ini s) := by
  apply foldl_rel _ OwnerKeeps.refl (fun _ _ _ => OwnerKeeps.trans)
  intro a n; split
  · have h : OwnerKeeps a { a with cast := { a.cast with freed := n :: a.cast.freed } } := ⟨fun _ _ => rfl, rfl⟩
    refine h.trans (OwnerKeeps.puts _ _ ?_)
    simp [regPart, regPartNum]
  · exact .refl a

theorem freeCrcs_keeps (ini : Nat) (s : State) : OwnerKeeps s (freeCrcs ini s) := by
  apply foldl_rel _ OwnerKeeps.refl (fun _ _ _ => OwnerKeeps.trans)
  intro a n; split
  · split
    · refine OwnerKeeps.trans (OwnerKeeps.puts _ a ?_) (OwnerKeeps.puts _ _ ?_) <;> simp [regPart, regPartNum]
    · apply OwnerKeeps.puts; simp [regPart, regPartNum]
  · exact .refl a

theorem coreLost_keeps (s : State) (c : Nat) : OwnerKeeps s (s.coreLost c) := by
  unfold State.coreLost
  split
  · exact .refl s
  · refine OwnerKeeps.trans (b := s.suspendTask c false) ?_ ?_
    · unfold State.suspendTask
      split
      · split <;> exact ⟨fun _ _ => rfl, rfl⟩
      · exact .refl s
    · refine OwnerKeeps.trans (OwnerKeeps.puts _ _ ?_) (OwnerKeeps.put _ _ _ ?_) <;> simp [regPart, regPartNum]

theorem ownerReset_keeps (ini : Nat) (s : State) : OwnerKeeps s (ownerReset ini s) := by
  have h : ∀ s : State, OwnerKeeps s (if capable ini then freeCrcs ini (freeSems ini (abortCastings ini s)) else s) := by
    intro s; split
    · exact ((abortCastings_keeps ini s).trans (freeSems_keeps ini _)).trans (freeCrcs_keeps ini _)
    · exact .refl s
  have g : OwnerKeeps s (if isApp ini then s.coreLost (ini - 0x10) else s) := by
    split
    · exact coreLost_keeps s _
    · exact .refl s
  have := h (if isApp ini then s.coreLost (ini - 0x10) else s)
  unfold ownerReset
  generalize (if isApp ini then s.coreLost (ini - 0x10) else s) = a at *
  exact g.trans this

/-! ## A part enters reset (R89, R104, R120) -/

/-- What a reset of the logic of other parts than PD_AON keeps: PD_AON's registers, the parts already held, what is asserted, and
what lies outside the device. -/
structure ResetKeeps (s t : State) : Prop where
  held : ∀ p ∈ s.rst.held, p ∈ t.rst.held
  asserted : t.rst.asserted = s.rst.asserted
  outside : t.pending = s.pending ∧ t.out = s.out ∧ t.flash = s.flash ∧ t.audit = s.audit ∧
    t.memDevs = s.memDevs ∧ t.trx = s.trx ∧ t.feExt = s.feExt

theorem ResetKeeps.refl (s : State) : ResetKeeps s s := ⟨fun _ h => h, rfl, rfl, rfl, rfl, rfl, rfl, rfl, rfl⟩

theorem ResetKeeps.trans {a b c : State} (h : ResetKeeps a b) (g : ResetKeeps b c) : ResetKeeps a c := by
  refine ⟨fun p hp => g.held p (h.held p hp), g.asserted.trans h.asserted, ?_⟩
  have := h.outside; have := g.outside; simp_all

theorem ResetKeeps.of_owner {s t : State} (h : OwnerKeeps s t) : ResetKeeps s t := by
  have := h.rest
  rw [this]
  exact ⟨fun _ h => h, rfl, rfl, rfl, rfl, rfl, rfl, rfl, rfl⟩

theorem cableEnd_keeps (s : State) (st len : List Nat) : ResetKeeps s (s.cableEnd st len) ∧
    ∀ f : Fld, regPart f.key = .aon → (s.cableEnd st len).get f = s.get f := by
  unfold State.cableEnd
  split
  · exact ⟨.refl s, fun _ _ => rfl⟩
  · rename_i p _
    have hs : ResetKeeps s { s with site := { s.site with cable := none } } :=
      ⟨fun _ h => h, rfl, rfl, rfl, rfl, rfl, rfl, rfl, rfl⟩
    have hg : ∀ f : Fld, State.get { s with site := { s.site with cable := none } } f = s.get f := fun _ => rfl
    dsimp only
    generalize ({ s with site := { s.site with cable := none } } : State) = u at *
    have h : OwnerKeeps u ((u.cableResult p st len).record .cableDiag ([p] ++ st ++ len.flatMap (leBytes 2))) := by
      refine OwnerKeeps.trans ?_ (OwnerKeeps.record _ _ _ _)
      unfold State.cableResult
      apply OwnerKeeps.puts; simp [regPart, regPartNum]
    exact ⟨hs.trans (.of_owner h), fun f hf => (h.aon f hf).trans (hg f)⟩

theorem enterReset_keeps (s : State) (p : Part) : ResetKeeps s (s.enterReset p) := by
  cases p
  case net =>
    refine ResetKeeps.trans (b := { s.resetRegs .net with eth := {}, pair := { s.pair with epoch := none, seq := 0 } })
      ⟨fun _ h => h, rfl, rfl, rfl, rfl, rfl, rfl, rfl, rfl⟩ (cableEnd_keeps _ [5, 5, 5, 5] [0, 0, 0, 0]).1
  all_goals exact ⟨fun _ h => h, rfl, rfl, rfl, rfl, rfl, rfl, rfl, rfl⟩

theorem State.hold_keeps (s : State) (p : Part) : ResetKeeps s (s.hold p) := by
  unfold State.hold
  split
  · exact .refl s
  · exact ⟨fun q h => by simp [h], rfl, rfl, rfl, rfl, rfl, rfl, rfl, rfl⟩

theorem State.holdReset_keeps (s : State) (p : Part) : ResetKeeps s (s.holdReset p) := by
  unfold State.holdReset
  refine ResetKeeps.trans (ResetKeeps.trans ?_ (enterReset_keeps _ _)) (State.hold_keeps _ _)
  exact foldl_rel _ ResetKeeps.refl (fun _ _ _ => ResetKeeps.trans) _ (fun a i => .of_owner (ownerReset_keeps i a)) _ _

/-- The part is held afterwards (R120). -/
theorem State.holdReset_held (s : State) (p : Part) : p ∈ (s.holdReset p).rst.held := by
  unfold State.holdReset State.hold
  split
  · rename_i h; simpa using h
  · simp

theorem foldl_holdReset (l : List Part) (s : State) :
    ResetKeeps s (l.foldl (fun s p => s.holdReset p) s) ∧ ∀ p ∈ l, p ∈ (l.foldl (fun s p => s.holdReset p) s).rst.held := by
  induction l generalizing s with
  | nil => exact ⟨.refl s, fun p h => by simp at h⟩
  | cons q t ih =>
    refine ⟨(State.holdReset_keeps s q).trans (ih _).1, fun p h => ?_⟩
    rcases List.mem_cons.mp h with e | e
    · subst e; exact (ih (s.holdReset p)).1.held p (s.holdReset_held p)
    · exact (ih _).2 p e

/-! ## Asserting a source (R110 to R115) -/

theorem State.beginEpisode_keeps (s : State) : ResetKeeps s s.beginEpisode := by
  unfold State.beginEpisode
  split
  · exact .refl s
  · dsimp only; split <;> exact ⟨fun _ h => h, rfl, rfl, rfl, rfl, rfl, rfl, rfl, rfl⟩

theorem State.coverTrims_keeps (s : State) (r : Reach) (cyc : Nat) : ResetKeeps s (s.coverTrims r cyc) := by
  unfold State.coverTrims
  split
  · have hp : ∀ u : State, ResetKeeps u (u.puts [(TRIM_STATUS_LOADING, 0), (TRIM_STATUS_DONE, 0), (TRIM_STATUS_SAFE, 0),
        (MON_STATUS_DBG_LOCK, 1), (CLK_STATUS_NETPLL_LOCK, 0)]) :=
      fun u => .of_owner (OwnerKeeps.puts _ u (by simp [regPart, regPartNum]))
    have hr : ∀ u : State, ResetKeeps u { u with
        rst := { u.rst with strapDone := false, strapTries := 0, live := none }
        clk := { u.clk with sysLocked := false, refLost := false, pulling := [] } } :=
      fun u => ⟨fun _ h => h, rfl, rfl, rfl, rfl, rfl, rfl, rfl, rfl⟩
    have ha : ResetKeeps s ((s.bump TRIM_STATUS_ABORTS).put TRIM_STATUS_WORD (s.trimWord cyc)) :=
      .of_owner ((OwnerKeeps.put s TRIM_STATUS_ABORTS _ (by simp [regPart, regPartNum])).trans
        (OwnerKeeps.put _ TRIM_STATUS_WORD _ (by simp [regPart, regPartNum])))
    dsimp only
    split
    · exact (ha.trans (hp _)).trans (hr _)
    · exact (hp s).trans (hr _)
  · exact .refl s

/-- Asserting a source: it is asserted, nothing asserted before ends, every part of its reach is held, nothing held is
released, and what lies outside the device stays. -/
theorem State.assertSource_spec (s : State) (src win : Nat) :
    src ∈ (s.assertSource src win).rst.asserted ∧
    (∀ x ∈ s.rst.asserted, x ∈ (s.assertSource src win).rst.asserted) ∧
    (∀ p ∈ (reachOf src).parts, p ∈ (s.assertSource src win).rst.held) ∧
    (∀ p ∈ s.rst.held, p ∈ (s.assertSource src win).rst.held) ∧
    (s.assertSource src win).pending = s.pending ∧ (s.assertSource src win).out = s.out ∧
    (s.assertSource src win).flash = s.flash ∧
    (s.assertSource src win).audit = s.audit ∧ (s.assertSource src win).memDevs = s.memDevs ∧
    (s.assertSource src win).trx = s.trx ∧ (s.assertSource src win).feExt = s.feExt := by
  unfold State.assertSource
  dsimp only
  have hb := s.beginEpisode_keeps
  generalize s.beginEpisode = b at *
  have hc := State.coverTrims_keeps { b with rst := { b.rst with
    asserted := if b.rst.asserted.contains src then b.rst.asserted else b.rst.asserted ++ [src]
    seen := if b.rst.seen.any (fun e => e.1 == src) then b.rst.seen
      else b.rst.seen ++ [(src, b.stamp win)] } } (reachOf src) win
  have hf := foldl_holdReset (reachOf src).parts (State.coverTrims { b with rst := { b.rst with
    asserted := if b.rst.asserted.contains src then b.rst.asserted else b.rst.asserted ++ [src]
    seen := if b.rst.seen.any (fun e => e.1 == src) then b.rst.seen
      else b.rst.seen ++ [(src, b.stamp win)] } } (reachOf src) win)
  have ha := hf.1.asserted.trans hc.asserted
  refine ⟨?_, ?_, hf.2, fun p hp => hf.1.held p (hc.held p (hb.held p hp)), ?_⟩
  · rw [ha]; dsimp only; split
    · rename_i h; simpa using h
    · simp
  · intro x hx
    rw [ha]; dsimp only
    rw [← hb.asserted] at hx
    split <;> simp [hx]
  · have h1 := hb.outside
    have h2 := hc.outside
    have h3 := hf.1.outside
    simp_all

/-! ## Registers (R17, R104) -/

theorem regLookup_filter (l : List (RKey × Nat)) (q : RKey) (d : Nat) (f : RKey → Bool) (h : f q = true) :
    regLookup (l.filter (fun e => f e.1)) q d = regLookup l q d := by
  induction l with
  | nil => rfl
  | cons e t ih =>
    obtain ⟨k, v⟩ := e
    by_cases hk : f k = true
    · by_cases hq : k = q
      · subst hq; simp [hk, regLookup]
      · simp [hk, regLookup, hq, ih]
    · have : k ≠ q := by intro e; subst e; exact hk h
      simp [hk, regLookup, this, ih]

theorem regLookup_absent (l : List (RKey × Nat)) (q : RKey) (d : Nat) (h : ∀ e ∈ l, e.1 ≠ q) : regLookup l q d = d := by
  induction l with
  | nil => rfl
  | cons e t ih =>
    obtain ⟨k, v⟩ := e
    have : k ≠ q := h (k, v) (by simp)
    simp [regLookup, this, ih (fun e he => h e (by simp [he]))]

/-- A reset of a part leaves the registers of the other parts. -/
theorem State.get_resetRegs_other (s : State) (p : Part) (f : Fld) (h : regPart f.key ≠ p) : (s.resetRegs p).get f = s.get f := by
  unfold State.resetRegs State.get
  exact regLookup_filter s.regs f.key f.rst (fun k => decide (regPart k ≠ p) || resetKeeps k) (by simp [h])

/-- A reset of a part gives its registers their reset values, but for those that keep theirs (R17). -/
theorem State.get_resetRegs_self (s : State) (p : Part) (f : Fld) (h : regPart f.key = p) (k : resetKeeps f.key = false) :
    (s.resetRegs p).get f = f.rst := by
  unfold State.resetRegs State.get
  apply regLookup_absent
  intro e he
  have := (List.mem_filter.mp he).2
  intro g
  simp [g, h, k] at this

/-- A part other than PD_AON enters reset: PD_AON's registers stay. -/
theorem State.get_enterReset_aon (s : State) (p : Part) (f : Fld) (hp : p ≠ .aon) (h : regPart f.key = .aon) :
    (s.enterReset p).get f = s.get f := by
  have hr : (s.resetRegs p).get f = s.get f := State.get_resetRegs_other s p f (by rw [h]; exact fun e => hp e.symm)
  cases p
  case aon => exact absurd rfl hp
  case rstctl =>
    refine Eq.trans ?_ hr
    refine (OwnerKeeps.puts [(BOOT_STATUS_SLOT, 0), (MON_STATUS_LOCKOUT, 0)]
      { s.resetRegs .rstctl with boot := { (s.resetRegs .rstctl).boot with fails := 0 } } ?_).aon f h
    simp [regPart, regPartNum]
  case net =>
    refine Eq.trans ?_ hr
    exact (cableEnd_keeps { s.resetRegs .net with eth := {}, pair := { s.pair with epoch := none, seq := 0 } }
      [5, 5, 5, 5] [0, 0, 0, 0]).2 f h
  all_goals exact hr

theorem State.get_holdReset_aon (s : State) (p : Part) (f : Fld) (hp : p ≠ .aon) (h : regPart f.key = .aon) :
    (s.holdReset p).get f = s.get f := by
  have ho : ∀ (l : List Nat) (s : State), (l.foldl (fun s i => ownerReset i s) s).get f = s.get f := by
    intro l
    induction l with
    | nil => intro s; rfl
    | cons i t ih => intro s; exact (ih (ownerReset i s)).trans ((ownerReset_keeps i s).aon f h)
  have hh : ∀ s : State, (s.hold p).get f = s.get f := by
    intro s; unfold State.hold; split <;> rfl
  unfold State.holdReset
  rw [hh, State.get_enterReset_aon _ p f hp h, ho]

/-- A source whose reach leaves PD_AON alone leaves PD_AON's registers (R104). -/
theorem State.assertSource_aon (s : State) (src win : Nat) (f : Fld) (hr : .aon ∉ (reachOf src).parts) (h : regPart f.key = .aon) :
    (s.assertSource src win).get f = s.get f := by
  have hf : ∀ (l : List Part) (s : State), .aon ∉ l → (l.foldl (fun s p => s.holdReset p) s).get f = s.get f := by
    intro l
    induction l with
    | nil => intro s _; rfl
    | cons p t ih =>
      intro s hl
      simp only [List.mem_cons, not_or] at hl
      exact (ih (s.holdReset p) hl.2).trans (State.get_holdReset_aon s p f (fun e => hl.1 e.symm) h)
  have hb : s.beginEpisode.get f = s.get f := by
    unfold State.beginEpisode
    split
    · rfl
    · dsimp only
      split
      · rfl
      · refine (OwnerKeeps.puts [(TRIM_STATUS_FAILS, 0), (TRIM_STATUS_ABORTS, 0)] _ ?_).aon f h
        simp [regPart, regPartNum]
  have hc : ∀ (s : State) (r : Reach) (cyc : Nat), (s.coverTrims r cyc).get f = s.get f := by
    intro s r cyc
    unfold State.coverTrims
    split
    · dsimp only
      have hp : ∀ u : State, (u.puts [(TRIM_STATUS_LOADING, 0), (TRIM_STATUS_DONE, 0), (TRIM_STATUS_SAFE, 0), (MON_STATUS_DBG_LOCK, 1),
          (CLK_STATUS_NETPLL_LOCK, 0)]).get f = u.get f := by
        intro u
        refine (OwnerKeeps.puts _ u ?_).aon f h
        simp [regPart, regPartNum]
      split
      · refine (hp _).trans ?_
        refine ((OwnerKeeps.put _ TRIM_STATUS_WORD _ (by simp [regPart, regPartNum])).aon f h).trans ?_
        exact (OwnerKeeps.put s TRIM_STATUS_ABORTS _ (by simp [regPart, regPartNum])).aon f h
      · exact hp s
    · rfl
  unfold State.assertSource
  dsimp only
  rw [hf _ _ hr, hc]
  exact hb

end Sys2Proof.Machine
end

