-- ==== Sys2Proof/WellFormed.lean ====
section
/-!
DEFINITION. Which commands are well formed: every operand lies in the range the spec gives it. A block that receives a command
outside these ranges is not described by the spec; the meanings leave the state as it is or read such an operand as absent.
-/

namespace Sys2Proof

/-- The initiator IDs of R7. -/
def iniOk (ini : Nat) : Bool :=
  ini == 0x01 || ini == 0x02 || (decide (0x10 ≤ ini) && decide (ini ≤ 0x1F)) || ini == 0x20 || ini == 0x21 || ini == 0x30 ||
  ini == 0x31 || ini == 0x3E || ini == 0x3F

/-- A 32-bit word (R8). -/
def wordOk (w : Nat) : Bool := decide (w < 4294967296)

/-- Bytes. -/
def bytesOk (l : List Nat) : Bool := l.all (fun b => decide (b < 256))

/-- The payload of a request: at most 1408 bytes (R172). -/
def payOk (l : List Nat) : Bool := bytesOk l && decide (l.length ≤ 1408)

/-- A member's short address, 0x01 to 0xC0. -/
def addrOk (a : Nat) : Bool := decide (1 ≤ a) && decide (a ≤ 0xC0)

/-- A command's operands lie in the ranges the spec gives them. -/
def WellFormed (i : Instr) : Bool :=
  match i with
  | .aonPor _ _ => true
  | .mainPor rail _ _ => decide (rail < 10)
  | .brownout rail _ _ => decide (rail < 10)
  | .testModeAssert _ => true
  | .thermalTrip _ _ => true
  | .resetPin _ => true
  | .warmPin _ => true
  | .resetSourceDeassert src _ _ _ => decide (src < 19)
  | .resetRelease => true
  | .trimLoadComplete _ _ => true
  | .strapSample conv => conv.all (fun c => decide (c < 4096))
  | .rstCtrlSys ini data => iniOk ini && wordOk data
  | .rstCtrlWarm ini data => iniOk ini && wordOk data
  | .rstCtrlCold ini data => iniOk ini && wordOk data
  | .jtagResetRequest _ => true
  | .appWdogExpiry => true
  | .mpWdogExpiry => true
  | .mpSwReset => true
  | .syspllLock => true
  | .syspllUnlock _ => true
  | .netpllUnlock => true
  | .netpllLockRetry _ => true
  | .pllHoldoverEntry pll => decide (pll < 2)
  | .pllHoldoverExit pll _ => decide (pll < 2)
  | .refLost _ _ => true
  | .refRestored => true
  | .refFreqCheck _ _ => true
  | .pdCtrlWrite ini data => iniOk ini && wordOk data
  | .pdSwitchComplete => true
  | .nightGo ini data hot hotCrc => iniOk ini && wordOk data && bytesOk hot && decide (hotCrc < 4294967296)
  | .mainEnDrop => true
  | .nightMinHoldExpiry => true
  | .wakePin _ => true
  | .wakeTimerExpiry => true
  | .railWakeTimeout => true
  | .railWakeRetry => true
  | .plyResolution sns fb _ _ ctsHigh _ => decide (sns < 65536) && decide (fb < 16) && ctsHigh.all (fun c => decide (c < 4))
  | .plyLoRead ini => iniOk ini
  | .castOpen ini => iniOk ini
  | .castStage ini id => iniOk ini && decide (id < 65536)
  | .castCommit ini id cond => iniOk ini && decide (id < 65536) && decide (cond < 4)
  | .castAbort ini id => iniOk ini && decide (id < 65536)
  | .castlingLand => true
  | .semTake ini n => iniOk ini && decide (n < 64)
  | .semRelease ini n => iniOk ini && decide (n < 64)
  | .registerWrite ini addr data _ => iniOk ini && wordOk addr && wordOk data
  | .lockBitSet ini addr data => iniOk ini && wordOk addr && wordOk data
  | .ecpFrameReceive _ _ ip udp dst _ frame _ _ _ _ => decide (ip < 4294967296) && decide (udp < 65536) && decide (dst < 65536) && bytesOk frame
  | .spiWriteFrame bytes => bytesOk bytes
  | .spiReadStatus => true
  | .spiReadFrame _ => true
  | .nop sess tag pay => decide (sess ≤ 8) && decide (tag < 65536) && payOk pay
  | .status sess tag => decide (sess ≤ 8) && decide (tag < 65536)
  | .sessionOpen sess tag pay => decide (sess ≤ 8) && decide (tag < 65536) && payOk pay
  | .sessionClose sess tag => decide (sess ≤ 8) && decide (tag < 65536)
  | .sessionIdleTimeout sess => decide (sess ≤ 8)
  | .ecpReset sess tag => decide (sess ≤ 8) && decide (tag < 65536)
  | .hostSysAssert => true
  | .night sess tag => decide (sess ≤ 8) && decide (tag < 65536)
  | .resultGet sess tag => decide (sess ≤ 8) && decide (tag < 65536)
  | .tagRetire sess tag pay => decide (sess ≤ 8) && decide (tag < 65536) && payOk pay
  | .regRead sess tag pay _ => decide (sess ≤ 8) && decide (tag < 65536) && payOk pay
  | .regWrite sess tag pay _ => decide (sess ≤ 8) && decide (tag < 65536) && payOk pay
  | .streamOpen sess tag pay => decide (sess ≤ 8) && decide (tag < 65536) && payOk pay
  | .streamClose sess tag pay => decide (sess ≤ 8) && decide (tag < 65536) && payOk pay
  | .requestFinalResponse sess tag status pay => decide (sess ≤ 8) && decide (tag < 65536) && decide (status < 65536) && payOk pay
  | .streamMessageLost sess stream => decide (sess ≤ 8) && decide (stream < 256)
  | .feLinkDown f _ => decide (f < 2)
  | .feLinkLocked f _ => decide (f < 2)
  | .feStatusFrame f edges => decide (f < 2) && edges.all (fun c => decide (c < 32))
  | .feCtlFrameApply f _ => decide (f < 2)
  | .antWindowEnd f conv => decide (f < 2) && conv.all (fun c => decide (c < 4096))
  | .antBiasRetry f => decide (f < 2)
  | .calSecond f _ _ => decide (f < 2)
  | .acqEntrySubmit ini n => iniOk ini && decide (n < 64)
  | .acqEntryCancel ini n => iniOk ini && decide (n < 64)
  | .acqEntryClear ini n => iniOk ini && decide (n < 64)
  | .acqEntrySelect => true
  | .acqDwellEnd _ => true
  | .acqLinkWaitExpiry => true
  | .acqEngineDisable ini data => iniOk ini && wordOk data
  | .loopUpdate ch _ _ _ => decide (ch < 256)
  | .chStart ini ch => iniOk ini && decide (ch < 256)
  | .chStop ini ch => iniOk ini && decide (ch < 256)
  | .pullInPllOn ch => decide (ch < 256)
  | .pullInTimeout ch => decide (ch < 256)
  | .cn0LossTimeout ch => decide (ch < 256)
  | .epochStrobe _ _ _ => true
  | .obsFormDeadline unformed => unformed.all (fun c => decide (c < 256))
  | .obsRecordPublish _ => true
  | .navUnitDecode ch _ _ _ _ _ _ _ payload => decide (ch < 256) && bytesOk payload
  | .obsGet sess tag pay => decide (sess ≤ 8) && decide (tag < 65536) && payOk pay
  | .navGet sess tag pay => decide (sess ≤ 8) && decide (tag < 65536) && payOk pay
  | .signalsSet sess tag pay => decide (sess ≤ 8) && decide (tag < 65536) && payOk pay
  | .rtcmSet sess tag pay => decide (sess ≤ 8) && decide (tag < 65536) && payOk pay
  | .refSelection _ _ _ => true
  | .domainOffsetSample d _ _ _ _ _ _ => decide (d < 2)
  | .domainFaultRecovery d => decide (d < 2)
  | .domainTracking d => decide (d < 2)
  | .ptpForeignMaster port => decide (port < 6)
  | .stepAnnounce => true
  | .stepLand => true
  | .stepCtrlArm ini data => iniOk ini && wordOk data
  | .stepCtrlAccept ini data => iniOk ini && wordOk data
  | .timeGet sess tag => decide (sess ≤ 8) && decide (tag < 65536)
  | .timeStep sess tag pay => decide (sess ≤ 8) && decide (tag < 65536) && payOk pay
  | .ptpSet sess tag pay => decide (sess ≤ 8) && decide (tag < 65536) && payOk pay
  | .leapFlagSet => true
  | .leapFlagClear => true
  | .ppsOutEdge n => decide (n < 2)
  | .ppsInEdge _ => true
  | .ethFrameReceive p _ bytes => decide (p < 6) && bytesOk bytes
  | .ethFrameTransmit p _ _ _ bytes => decide (p < 6) && bytesOk bytes
  | .txtsRead ini p => iniOk ini && decide (p < 6)
  | .applyRef ini data => iniOk ini && wordOk data
  | .applyOrg ini data => iniOk ini && wordOk data
  | .fixSolveStart => true
  | .fixSolveComplete _ => true
  | .baseMissingDecision => true
  | .ifbAgeExpiry => true
  | .uplinkSlotEnd addr => addrOk addr
  | .solGet sess tag pay => decide (sess ≤ 8) && decide (tag < 65536) && payOk pay
  | .prioSet sess tag pay => decide (sess ≤ 8) && decide (tag < 65536) && payOk pay
  | .filterReset sess tag pay => decide (sess ≤ 8) && decide (tag < 65536) && payOk pay
  | .superframeBoundary => true
  | .cutOffC1 => true
  | .cutOffC2 => true
  | .laneEnable ini n data => iniOk ini && decide (n < 8) && wordOk data
  | .laneDisable ini n data => iniOk ini && decide (n < 8) && wordOk data
  | .laneLinkLocked n => decide (n < 8)
  | .laneLinkLost n _ => decide (n < 8)
  | .laneStatusFrame n words => decide (n < 8) && words.all (fun c => decide (c < 1125899906842624))
  | .laneCapsCheck n => decide (n < 8)
  | .trxControlApply n _ => decide (n < 8)
  | .laneFrameDecision n _ iv => decide (n < 8) && decide (iv < 3)
  | .budgetBucketRoll m => decide (m < 128)
  | .accountEnable ini m data => iniOk ini && decide (m < 128) && wordOk data
  | .accountDisable ini m data => iniOk ini && decide (m < 128) && wordOk data
  | .airFrameReceive n _ psdu _ _ _ _ => decide (n < 8) && bytesOk psdu
  | .hopCompute _ => true
  | .hopApply ini data => iniOk ini && wordOk data
  | .uplinkReceive => true
  | .assocReqReceive => true
  | .offerLapse a => addrOk a
  | .memberSilenceTimeout a => addrOk a
  | .slotOwnerWrite ini b n q data => iniOk ini && decide (b < 2) && decide (n < 8) && decide (q < 100) && wordOk data
  | .flockWrite ini f w data => iniOk ini && decide (f < 16) && decide (w < 6) && wordOk data
  | .netForm sess tag => decide (sess ≤ 8) && decide (tag < 65536)
  | .memberGet sess tag pay => decide (sess ≤ 8) && decide (tag < 65536) && payOk pay
  | .memberRelease sess tag pay => decide (sess ≤ 8) && decide (tag < 65536) && payOk pay
  | .flockSet sess tag pay => decide (sess ≤ 8) && decide (tag < 65536) && payOk pay
  | .slotSet sess tag pay => decide (sess ≤ 8) && decide (tag < 65536) && payOk pay
  | .memberAssocAttempt _ _ lane _ eui caps joinKey _ => decide (lane < 8) && bytesOk eui && bytesOk caps && bytesOk joinKey
  | .memberAssocResponse _ _ _ _ mpdu => bytesOk mpdu
  | .memberJoinTimeout _ _ => true
  | .memberBellwetherReceive _ _ _ _ mpdu => bytesOk mpdu
  | .memberGuardCap _ _ => true
  | .memberBeaconTimeout _ _ => true
  | .memberDigestReceive _ _ _ _ mpdu => bytesOk mpdu
  | .memberOrderEnd _ _ event _ data => (decide (2 ≤ event) && decide (event ≤ 3)) && wordOk data
  | .memberWindowExhausted _ _ => true
  | .memberStopFrameReceive _ _ _ iv _ mpdu => decide (iv < 2) && bytesOk mpdu
  | .memberSseqResync _ _ => true
  | .memberHopTargetMissed _ _ => true
  | .memberUplinkSend _ _ _ _ _ cor => bytesOk cor
  | .memberClaimLapse _ src _ => decide (src < 2)
  | .memberDockConfirm _ _ _ => true
  | .dispSubmit ini => iniOk ini
  | .dispSubmitStallExpiry ini => iniOk ini
  | .taskSubmit sess tag pay => decide (sess ≤ 8) && decide (tag < 65536) && payOk pay
  | .dispCancel ini id => iniOk ini && decide (id < 4294967296)
  | .taskCancel sess tag pay => decide (sess ≤ 8) && decide (tag < 65536) && payOk pay
  | .taskGet sess tag pay => decide (sess ≤ 8) && decide (tag < 65536) && payOk pay
  | .taskReady => true
  | .dispTake ini c => iniOk ini && decide (c < 16)
  | .dispDone ini c data => iniOk ini && decide (c < 16) && wordOk data
  | .taskLapse ix => decide (ix < 4096)
  | .trackLoad sess tag pay => decide (sess ≤ 8) && decide (tag < 65536) && payOk pay
  | .trackSeal sess tag pay => decide (sess ≤ 8) && decide (tag < 65536) && payOk pay
  | .trackFree sess tag pay => decide (sess ≤ 8) && decide (tag < 65536) && payOk pay
  | .move sess tag pay => decide (sess ≤ 8) && decide (tag < 65536) && payOk pay
  | .halt sess tag pay => decide (sess ≤ 8) && decide (tag < 65536) && payOk pay
  | .chanRelease sess tag pay => decide (sess ≤ 8) && decide (tag < 65536) && payOk pay
  | .gearEngage sess tag pay => decide (sess ≤ 8) && decide (tag < 65536) && payOk pay
  | .gearDisengage sess tag pay => decide (sess ≤ 8) && decide (tag < 65536) && payOk pay
  | .profileRestReached a => addrOk a
  | .dockInputConfirm k _ _ _ => decide (k < 8)
  | .estopLoopOpen j => decide (j < 16)
  | .loopTestPulse j _ => decide (j < 16)
  | .loopDiscrepancy n => decide (n < 8)
  | .relayFbMismatch n => decide (n < 4)
  | .rookSramUe _ bits => decide (bits < 4)
  | .rookClockFault _ => true
  | .lockstepMismatch => true
  | .wdogSvcWrite ini data => iniOk ini && wordOk data
  | .rookWdogExpiry _ => true
  | .stopPortStop ini data => iniOk ini && wordOk data
  | .stopPortHold ini data => iniOk ini && wordOk data
  | .stopPortResume ini data => iniOk ini && wordOk data
  | .stopPortRelease ini data => iniOk ini && wordOk data
  | .stopPortFaultClear ini data => iniOk ini && wordOk data
  | .releaseEvaluation => true
  | .faultClearEvaluation => true
  | .relayRaise => true
  | .rookFaultWrite ini data => iniOk ini && wordOk data
  | .stop sess tag pay => decide (sess ≤ 8) && decide (tag < 65536) && payOk pay
  | .stopRelease sess tag pay => decide (sess ≤ 8) && decide (tag < 65536) && payOk pay
  | .hold sess tag pay => decide (sess ≤ 8) && decide (tag < 65536) && payOk pay
  | .resume sess tag pay => decide (sess ≤ 8) && decide (tag < 65536) && payOk pay
  | .stopStatus sess tag => decide (sess ≤ 8) && decide (tag < 65536)
  | .faultClear sess tag => decide (sess ≤ 8) && decide (tag < 65536)
  | .pairEnable ini data => iniOk ini && wordOk data
  | .heartbeatSend => true
  | .heartbeatReceive m => bytesOk m
  | .heartbeatLost => true
  | .safetyReceive m => bytesOk m
  | .safetyAckReceive m => bytesOk m
  | .safetyRepeat _ => true
  | .ckptDataReceive m => bytesOk m
  | .ckptEndReceive m => bytesOk m
  | .standbyReadyTimeout => true
  | .startupListenExpiry => true
  | .secondaryWaitExpiry => true
  | .takeoverDetect => true
  | .checkpointLoadComplete _ => true
  | .pairHandover sess tag pay => decide (sess ≤ 8) && decide (tag < 65536) && payOk pay
  | .handoverReceive m => bytesOk m
  | .handoverAckReceive m => bytesOk m
  | .drillDayCount => true
  | .pairGet sess tag => decide (sess ≤ 8) && decide (tag < 65536)
  | .keyInfo sess tag pay => decide (sess ≤ 8) && decide (tag < 65536) && payOk pay
  | .keyGenerate sess tag pay => decide (sess ≤ 8) && decide (tag < 65536) && payOk pay
  | .keyDerive sess tag pay => decide (sess ≤ 8) && decide (tag < 65536) && payOk pay
  | .keyWrapImport sess tag pay => decide (sess ≤ 8) && decide (tag < 65536) && payOk pay
  | .keyImportClear ini k _ _ key => iniOk ini && decide (k < 512) && bytesOk key
  | .keyInvalidate sess tag pay => decide (sess ≤ 8) && decide (tag < 65536) && payOk pay
  | .keyAttest sess tag pay => decide (sess ≤ 8) && decide (tag < 65536) && payOk pay
  | .keyCert sess tag pay => decide (sess ≤ 8) && decide (tag < 65536) && payOk pay
  | .keyPublic sess tag pay => decide (sess ≤ 8) && decide (tag < 65536) && payOk pay
  | .trngHealthFail _ => true
  | .tamperConfirm c _ _ => decide (c < 8)
  | .tamperClear ini data _ => iniOk ini && wordOk data
  | .tamperGet sess tag => decide (sess ≤ 8) && decide (tag < 65536)
  | .recordSubmit code source payload => decide (code < 65536) && decide (source < 256) && bytesOk payload
  | .recordWrite _ bits => decide (bits < 4)
  | .recRetest ini data => iniOk ini && wordOk data
  | .recRetestComplete _ => true
  | .recRestoreWrite ini data => iniOk ini && wordOk data
  | .anchorWrite => true
  | .hoursFuseStep _ => true
  | .recCursorStep ini => iniOk ini
  | .recRead sess tag pay _ => decide (sess ≤ 8) && decide (tag < 65536) && payOk pay
  | .recStatus sess tag => decide (sess ≤ 8) && decide (tag < 65536)
  | .mpCopyReceive => true
  | .mpProcessCutoff => true
  | .mpAddressEvent => true
  | .sealConfirm _ _ _ => true
  | .metIdent sess tag _ => decide (sess ≤ 8) && decide (tag < 65536)
  | .metRead sess tag pay => decide (sess ≤ 8) && decide (tag < 65536) && payOk pay
  | .metParamSet sess tag pay _ => decide (sess ≤ 8) && decide (tag < 65536) && payOk pay
  | .metAuditRead sess tag pay => decide (sess ≤ 8) && decide (tag < 65536) && payOk pay
  | .dramTrainingComplete c _ => decide (c < 2)
  | .scrubRead c err word => decide (c < 2) && decide (err < 4) && decide (word < 8)
  | .scrubSweepEnd c => decide (c < 2)
  | .scrubLate c => decide (c < 2)
  | .arbStarve c slot => decide (c < 2) && decide (slot < 16)
  | .crcTakeWrite ini k => iniOk ini && decide (k < 16)
  | .crcReleaseWrite ini k => iniOk ini && decide (k < 16)
  | .crcClear ini k => iniOk ini && decide (k < 16)
  | .crcFeedWrite ini k _ data => iniOk ini && decide (k < 16) && wordOk data
  | .crcStateRestore ini k _ data => iniOk ini && decide (k < 16) && wordOk data
  | .crcScanGo ini k => iniOk ini && decide (k < 16)
  | .crcScanEnd k cause addr bytes => decide (k < 16) && decide (cause < 4) && decide (addr < 1099511627776) && bytesOk bytes
  | .crcSnoopFrame k bytes => decide (k < 16) && bytesOk bytes
  | .crcTake sess tag pay => decide (sess ≤ 8) && decide (tag < 65536) && payOk pay
  | .crcConfig sess tag pay => decide (sess ≤ 8) && decide (tag < 65536) && payOk pay
  | .crcFeed sess tag pay => decide (sess ≤ 8) && decide (tag < 65536) && payOk pay
  | .crcScan sess tag pay => decide (sess ≤ 8) && decide (tag < 65536) && payOk pay
  | .crcGet sess tag pay => decide (sess ≤ 8) && decide (tag < 65536) && payOk pay
  | .crcRelease sess tag pay => decide (sess ≤ 8) && decide (tag < 65536) && payOk pay
  | .uartRxByte k byte flags => decide (k < 4) && decide (byte < 256) && decide (flags < 4)
  | .uartDataWrite ini k byte => iniOk ini && decide (k < 4) && decide (byte < 256)
  | .uartDataRead ini k => iniOk ini && decide (k < 4)
  | .uartMonitorTake _ => true
  | .uartMonitorRelease => true
  | .i2cGo ini k data => iniOk ini && decide (k < 2) && wordOk data
  | .i2cTransactionEnd k result _ rx => decide (k < 2) && decide (result < 6) && bytesOk rx
  | .canFrameReceive k ide fdf brs id dlc data => decide (k < 2) && decide (ide < 2) && decide (fdf < 2) && decide (brs < 2) && decide (id < 536870912) && decide (dlc < 16) && bytesOk data
  | .canRxPop ini k => iniOk ini && decide (k < 2)
  | .canTxGo ini k b => iniOk ini && decide (k < 2) && decide (b < 32)
  | .canTxAbort ini k b _ => iniOk ini && decide (k < 2) && decide (b < 32)
  | .canTxComplete k b _ => decide (k < 2) && decide (b < 32)
  | .canBusOff k _ _ => decide (k < 2)
  | .canBusOffRecovery k _ => decide (k < 2)
  | .adcThresholdEntry n _ codes => decide (n < 15) && codes.all (fun c => decide (c < 4096))
  | .adcThresholdExit n _ codes => decide (n < 15) && codes.all (fun c => decide (c < 4096))
  | .mdioGo ini data => iniOk ini && wordOk data
  | .mdioComplete rdata => decide (rdata < 65536)
  | .cableDiagGo ini data _ => iniOk ini && wordOk data
  | .cableLinkDownExpiry p _ => decide (p < 6)
  | .cableDiagComplete _ _ => true
  | .bootRomStart => true
  | .mainFirmwareStart _ _ _ => true
  | .componentLoad typ => (decide (1 ≤ typ) && decide (typ ≤ 8))
  | .updBegin sess tag pay => decide (sess ≤ 8) && decide (tag < 65536) && payOk pay
  | .updData sess tag pay => decide (sess ≤ 8) && decide (tag < 65536) && payOk pay
  | .updEnd sess tag pay => decide (sess ≤ 8) && decide (tag < 65536) && payOk pay
  | .updActivate sess tag => decide (sess ≤ 8) && decide (tag < 65536)
  | .updConfirm sess tag => decide (sess ≤ 8) && decide (tag < 65536)
  | .updStatus sess tag => decide (sess ≤ 8) && decide (tag < 65536)
  | .recoveryHello pkt => bytesOk pkt
  | .recoveryWrite pkt => bytesOk pkt
  | .recoveryVerify pkt => bytesOk pkt
  | .recoveryCommit pkt => bytesOk pkt
  | .recoveryReset pkt => bytesOk pkt
  | .monInfo => true
  | .monOpen => true
  | .monResp pub sig _ => bytesOk pub && bytesOk sig
  | .monRecover => true
  | .monClose => true
  | .monRd addr _ => wordOk addr
  | .monWr addr data => wordOk addr && wordOk data
  | .monLog _ _ => true
  | .monKeyimport k _ _ key => decide (k < 512) && bytesOk key
  | .monTamperclr _ => true
  | .monReset => true
  | .monOpenExpiry => true
  | .monIdleRelease => true
  | .monBreakTake _ => true
  | .pllPullRangeEdge pll => decide (pll < 2)
  | .ethLinkChange p _ speed => decide (p < 6) && decide (speed < 3)
  | .unrecoverableFault core => decide (core < 16)
  | .canErrorPassive k _ _ => decide (k < 2)
  | .registerRead ini addr _ => iniOk ini && wordOk addr

end Sys2Proof
end

