-- ==== Sys2Proof/Tests/Slice0.lean ====
section
/-!
SUPPORT. The model's own tests: for each clause of each statement a small state and operands that meet its hypotheses, with the
effect evaluated on them; and terms that WellFormed accepts and refuses. Expected values come from the rules of the spec.
-/

namespace Sys2Proof.Tests

open Sys2Proof Sys2Proof.Machine Sys2Proof.Machine.R

set_option maxRecDepth 1000000
set_option Elab.async false

/-- The state at reset, with register fields set. -/
def at_ (l : List (Fld × Nat)) : State := State.reset.puts l

abbrev wReset : State := State.reset

def wStrap (n : Nat) : State :=
  { at_ [(TRIM_STATUS_DONE, 1)] with rst := { State.reset.rst with strapDone := false, strapTries := n } }

/-- The rows of WAKE_TIMER, FW_CTRL and CAST_DATA in the address map. -/
abbrev wTimerRow : RegRow := ⟨"WAKE_TIMER", 6, 0x40000808, 1, 0, 0, 1, 0, 0, .apps, .single, 0, fun _ _ => [WAKE_TIMER_SECONDS]⟩
abbrev wFwRow : RegRow :=
  ⟨"FW_CTRL", 32, 0x40001018, 64, 32, 0, 1, 0, 0, .appsBoot, .single, 3, fun i _ => [FW_CTRL_LOCK i, FW_CTRL_EN i]⟩
abbrev wBankRow : RegRow := ⟨"CAST_DATA", 17, 0x40010108, 1, 0, 0, 1, 0, 0, .nobody, .cast, 3, fun i _ => [CAST_DATA_VALUE i]⟩

/-- A session alone, on a state that asks for no authentication. -/
def withSess0 (x : EcpSession) (s : State) : State :=
  let s := s.put ECP_CTRL_AUTH_REQ 0
  { s with ecp := { s.ecp with sessions := [x] } }

/-- An open UDP session 3 and the SPI session. -/
def withSess (s : State) : State :=
  let s := s.put ECP_CTRL_AUTH_REQ 0
  { s with ecp := { s.ecp with sessions := [{ id := 3, port := 1, ip := 0x0A000001, udp := 5000, devSeq := 7 }, { id := 8 }] } }

abbrev wSess : State := withSess State.reset

/-- The same on an active unit. -/
abbrev wAct : State := withSess (at_ [(PAIR_STATUS_ACTIVE, 1)])

/-- Window 0 of the firewall opens WAKE_TIMER to initiator 0x01. -/
abbrev wEcpReg : State :=
  withSess (at_ [(WAKE_TIMER_SECONDS, 0x3C), (FW_CTRL_EN 0, 1), (FW_BASE_ADDR 0, 0x400008), (FW_LIMIT_ADDR 0, 0x400008),
    (FW_WMASK_LO_MASK 0, 2), (FW_RMASK_LO_MASK 0, 2)])

/-- A NOP request with TAG 9 and no payload. -/
def wNop : List Nat :=
  let h := [0x43, 0x45, 1, 0, 0x00, 0x01, 9, 0, 0, 0, 0, 0, 0, 0, 0, 0]
  h ++ leBytes 4 (crc32c h)

/-- Slot 5 holds an HMAC key enabled for ECP. -/
def wEcpKey : State :=
  { at_ [(KS_SLOT_W0_TYPE 5, 3), (KS_SLOT_W0_USE 5, 1), (KS_SLOT_W1_GEN 5, 1)] with ks := { vals := [(5, List.replicate 32 7)] } }

/-- A 64-bit link frame with its SYNC, its fields from bit 16 on, and the CRC-8 of R200. -/
def wLinkFrame (sync body : Nat) : Nat := sync + body * 2 ^ 16 + revBits 8 (linkCrc (sync + body * 2 ^ 16)) * 2 ^ 56


/-- A running device: every domain on and out of reset, with register fields set. -/
def wRun (l : List (Fld × Nat)) : State :=
  { at_ ((PD_STATUS_ON, 0x3FF) :: l) with rst := { State.reset.rst with held := [], asserted := [] } }

/-- Port 1 up at 1 Gbit/s with its timestamps corrected. -/
abbrev wNet : State := wRun [(ETH_CFG_EN 1, 1), (ETH_CFG_LINK 1, 1), (ETH_CFG_SPEED 1, 2), (ETH_TS_CTRL_CORR_EN 1, 1)]

/-- A network on the air: lane 4 READY on profile 0 at boundary 1001, the network key in slot 5, the join key in slot 6, channel 33 in
every slot, one account that covers the band. -/
def wMac (l : List (Fld × Nat)) : State :=
  { wRun ([(ECP_CTRL_AUTH_REQ, 0), (NET_K0_HI_VALID, 1), (KS_SLOT_W0_TYPE 5, 1), (KS_SLOT_W0_USE 5, 4), (KS_SLOT_W1_GEN 5, 1), (KS_SLOT_W0_TYPE 6, 1),
      (KS_SLOT_W0_USE 6, 4), (KS_SLOT_W1_GEN 6, 1), (MAC_KEYS_NWK_KEY_SLOT, 5), (MAC_KEYS_JOIN_KEY_SLOT, 6), (LANE_CFG_EN 4, 1),
      (LANE_CFG_RATE 4, 1), (LANE_STATUS_STATE 4, 3), (MAC_CTRL_NET_EN, 1), (MAC_CTRL_ASSOC_EN, 1), (PAIR_STATUS_ACTIVE, 1), (ACCT_W0_EN 0, 1),
      (ACCT_W0_CH_HI 0, 78), (ACCT_W0_WEIGHT 0, 256), (ACCT_W2_LIMIT_US 0, 1000000), (ACCT_W3_RESERVE_US 0, 100000)] ++ l) with
    ks := { vals := [(5, List.replicate 16 7), (6, List.replicate 16 9)] }
    boot := { loaded := [4, 5, 6] }
    ecp := { State.reset.ecp with sessions := [{ id := 3, port := 1, ip := 0x0A000001, udp := 5000, devSeq := 7 }] }
    time := { State.reset.time with grid := true, k := 1001, sec := 315964919, gridNs := 100100000000 }
    radio := { chans := (List.range 40).map (fun q => { lane := 4, k := 1001, slot := q, ch := 33 }) } }

/-- The same network `ns` ns after the boundary. -/
def wMacAt (ns : Nat) (l : List (Fld × Nat)) : State := { wMac l with time := { (wMac l).time with fx := (100000000 + ns) * 2 ^ 29 } }

/-- An uplink of address `a` to unit 0 in slot `q` of lane 4 under the network key: header, MSTATE, items, MIC. -/
def wUp (k a q seq mstate : Nat) (items : List Nat) : RxFrame :=
  let p := [2, a, 0xE0] ++ leBytes 2 seq ++ [0, 0, mstate] ++ items
  { lane := 4, k := k, slot := q, rssi := -61, mpdu := p ++ ccmMic (List.replicate 16 7) (nwkNonce k q 4 2 false a) p [] }

/-- A capability record that names profile 0 and 1 byte 12. -/
def wCaps : List Nat := [1, 2, 3, 4, 5, 6, 1, 1, 7, 0, 0, 0, 1] ++ List.replicate 11 0

/-- An association request of an EUI in slot 2 of lane 4 at boundary 1000, under the join key. -/
def wJoin : RxFrame :=
  let p := [3, 0, 0xFF, 0, 0] ++ [9, 8, 7, 6, 5, 4, 3, 2] ++ wCaps
  { lane := 4, k := 1000, slot := 2, rssi := -70, mpdu := p ++ ccmMic (List.replicate 16 9) (joinNonce 1000 4 false 0 [9, 8, 7, 6, 5, 4, 3, 2]) p [] }

/-- The same request with another capability record. -/
def wJoinCaps (caps : List Nat) : RxFrame :=
  let p := [3, 0, 0xFF, 0, 0] ++ [9, 8, 7, 6, 5, 4, 3, 2] ++ caps
  { wJoin with mpdu := p ++ ccmMic (List.replicate 16 9) (joinNonce 1000 4 false 0 [9, 8, 7, 6, 5, 4, 3, 2]) p [] }

/-- A COR item of 16 bytes without satellites, for millisecond 100000 of GPS week 0, its clock valid. -/
def wCor : List Nat := [0x20, 16, 0] ++ [1, 0, 0, 1, 0, 0, 0, 0] ++ leBytes 4 100000 ++ [0, 0, 0, 0]

/-- A member of lane 4, slot 7, address 9, that takes the primary as active. -/
def dMem : MemDev :=
  { eui := [9, 8, 7, 6, 5, 4, 3, 2], caps := wCaps, joinKey := List.replicate 16 9, st := 2, addr := 9, slot0 := (4, 7), slot1 := (4, 7),
    nwkKey := List.replicate 16 7, claim0 := some 2, bellAt := 100000000, clearAt := 100000000, at0 := 100000000 }

/-- A network with one member, number 2. -/
def wMem (d : MemDev) : State := { wMac [] with memDevs := [(2, d)] }

/-- The Bellwether of the primary at boundary `k` on lane 4: claim 4, FLAGS, SSEQ, an ADDR_MAP. -/
def bellBody (k flags sseq map : Nat) : List Nat :=
  leBytes 4 4 ++ leBytes 4 k ++ leBytes 2 0 ++ leBytes 4 (100 * k) ++ leBytes 2 flags ++ [sseq] ++ leBytes 14 0 ++ leBytes 24 map

def wBell (k flags sseq map : Nat) : List Nat :=
  sealMpdu (List.replicate 16 7) (nwkNonce k 0 4 2 true 0xE0) 0 0xE0 (bellBody k flags sseq map) 0

/-- A D1 of the primary at boundary `k` on lane 4 with items. -/
def wDigest (k : Nat) (items : List Nat) : List Nat :=
  sealMpdu (List.replicate 16 7) (nwkNonce k 38 4 2 true 0xE0) 1 0xE0 (leBytes 4 2 ++ [1] ++ items) 0

/-- An accepting response to the request of boundary 1000, on profile 0: address 9, lane 4, slot 7. -/
def respBody : List Nat :=
  [9, 8, 7, 6, 5, 4, 3, 2] ++ [0, 0] ++ ([9, 4, 7] ++ leBytes 2 5 ++ leBytes 8 0 ++ [0x10] ++ leBytes 2 3 ++ leBytes 10 0) ++
    [9, 8, 7, 6, 5, 4, 3, 2] ++ [1] ++ (List.replicate 16 7 ++ List.replicate 16 8 ++ List.replicate 16 6)

def wResp : List Nat := sealMpdu (List.replicate 16 9) (joinNonce 1001 4 true 0 [9, 8, 7, 6, 5, 4, 3, 2]) 4 0xE0 respBody 48

/-- A stop-window frame of the primary at boundary 1001 in slot 7 of lane 4. -/
def wStopFrame (cmd sseq target : Nat) : List Nat :=
  [cmd, sseq, target] ++ ccmMic (List.replicate 16 7) (nwkNonce 1001 7 4 0 true 0xE0) [cmd, sseq, target] []

/-- Channel 9 with a state and its record beside the registers, at boundary `k`. -/
def wCh (st k : Nat) (x : PchState) : State :=
  { withSess (at_ [(PAIR_STATUS_ACTIVE, 1), (PCH_W5_STATE 9, st)]) with
    trk := { pch := [(9, x)] }, time := { State.reset.time with grid := true, k := k } }

/-- Track 3 of two vertices, sealed, with channel 9 ready to move on it. -/
abbrev wTrack : State :=
  withSess { at_ [(PAIR_STATUS_ACTIVE, 1), (TRK_T_W0_FIRST 3, 6), (TRK_T_W1_STATE 3, 2), (TRK_T_W1_COUNT 3, 2), (TRK_T_W2_LENGTH 3, 5000),
      (PCH_W0_VMAX 9, 1000), (PCH_W0_AMAX 9, 1000), (PCH_W1_JMAX 9, 100), (PCH_W0_VMAX 8, 1000), (PCH_W0_AMAX 8, 1000), (PCH_W1_JMAX 8, 100),
      (MEMBER_W3_CAPS 8, 0x20), (MEMBER_W3_CAPS 9, 0x10), (GEAR_W0_MASTER 5, 9), (GEAR_W0_FOLLOWER 5, 8), (GEAR_W1_MTRACK 5, 3),
      (GEAR_W1_FTRACK 5, 3)] with
    trk := { verts := Mem.putList [] 18 [0, 0, 0, 3000, 4000, 0], pch := [(8, { slot0 := some 3 })] }
    mac := { members := [(8, { caps := List.replicate 24 1 }), (9, { caps := List.replicate 24 1 })] } }

/-- A primary unit on a working pair link whose key is in slot 7. -/
def wPair (l : List (Fld × Nat)) : State :=
  { wRun ([(ECP_CTRL_AUTH_REQ, 0), (PAIR_CTRL_EN, 1), (PAIR_CTRL_KEY_SLOT, 7), (PAIR_STATUS_LINK, 1), (KS_SLOT_W0_TYPE 7, 3), (KS_SLOT_W0_USE 7, 32),
      (KS_SLOT_W1_GEN 7, 1), (ROOK_SEQ_SSEQ, 5), (PCH_W5_STATE 9, 0)] ++ l) with
    ks := { vals := [(7, List.replicate 32 3)] }
    ply := 50000
    ecp := { State.reset.ecp with sessions := [{ id := 3, port := 1, ip := 0x0A000001, udp := 5000, devSeq := 7 }] }
    pair := { State.reset.pair with epoch := some 77, seq := 4, pEpoch := some 88, pSeq := 3, hbPly := some 20000 } }

/-- A message of the partner, number 4 of its EPOCH, without a current SFN. -/
def wPairMsg (typ : Nat) (body : List Nat) : List Nat :=
  let m := pairBytes typ 1 88 4 0xFFFFFFFF body
  m ++ pairMac (List.replicate 32 3) m

/-- A heartbeat body: claim 9, STATE, SSEQ 6, SRC_OWN, takeover counter 4. -/
def wHb (st src : Nat) : List Nat := leBytes 4 9 ++ [st, 6, src, 0] ++ leBytes 12 0 ++ [0, 0, 0, 0] ++ leBytes 4 4 ++ [0, 0, 0, 0]

abbrev wKey7 : List Nat := List.replicate 32 3

/-- A header with one component of a type, of length 0, with its SHA-256. -/
def wHdr (typ : Nat) : List Nat := List.replicate 7 0 ++ [1] ++ List.replicate 88 0 ++ [typ] ++ List.replicate 15 0 ++ sha256 []

/-- The main firmware runs from slot B on that header; descriptor: A GOOD, B NEW. -/
def wFirm (typ : Nat) (l : List (Fld × Nat)) : State :=
  { wRun ([(BOOT_STATUS_SLOT, 1), (BOOT_STATUS_TRIAL, 1), (ECP_CTRL_AUTH_REQ, 0), (MON_STATUS_HELD, 1), (UART_STATUS_OWNED 0, 1), (KS_SLOT_W0_TYPE 7, 3)] ++ l) with
    boot := { core0Rom := false, started := true, header := some (wHdr typ) }
    flash := { desc0 := some { seq := 5, st0 := 2, img0 := 3, st1 := 1, tries1 := 2, img1 := 4 } }
    ply := 7000000
    ecp := { State.reset.ecp with sessions := [{ id := 3, port := 1, ip := 0x0A000001, udp := 5000, devSeq := 7, auth := true, key := [1, 2], keySlot := 7 }] } }

/-- The device in recovery mode. -/
def wRecov : State :=
  { wRun [(BOOT_STATUS_RECOVERY, 1), (BOOT_STATUS_CAUSE, 2)] with flash := { desc1 := some { seq := 5, st0 := 2, img0 := 3, st1 := 3, img1 := 9 }, slot1 := [1, 2, 3, 4] } }

/-- A recovery packet: OP, OFFSET, data. -/
def wPkt (op off : Nat) (d : List Nat) : List Nat :=
  let b := leBytes 2 0x5243 ++ [op, 0] ++ leBytes 4 0x11223344 ++ leBytes 4 off ++ leBytes 2 d.length ++ [0, 0] ++ d
  b ++ leBytes 4 (crc32c b)
theorem test_aonPor : ((2199 < 2200)) ∧ (match exec (.aonPor 2199 0) wReset with
    | .next t => decide ((Asserted 0 t) ∧ (t.pwr.railValid.contains 9 = false))
    | _ => false) = true := by decide +kernel

theorem test_mainPor : ((4 < 9) ∧ (699 < powerOnMv 4)) ∧ (match exec (.mainPor 4 699 0) wReset with
    | .next t => decide ((Asserted 1 t) ∧ (t.pwr.railValid.contains 4 = false) ∧ ((wReset.pwr.railValid.contains 4 = true ∧ wReset.pwr.mainEn = true → Asserted 4 t)))
    | _ => false) = true := by decide +kernel

theorem test_brownout : ((8 < 9) ∧ (2999 < brownoutMv 8) ∧ (wReset.pwr.railValid.contains 8 = true) ∧ (wReset.pwr.mainEn = true)) ∧ (match exec (.brownout 8 2999 0) wReset with
    | .next t => decide ((Asserted 4 t) ∧ (t.pwr.railValid.contains 8 = false))
    | _ => false) = true := by decide +kernel

theorem test_testModeAssert : (True) ∧ (match exec (.testModeAssert 320) wReset with
    | .next t => decide ((Asserted 3 t))
    | _ => false) = true := by decide +kernel

theorem test_thermalTrip : ((115 ≤ 115)) ∧ (match exec (.thermalTrip 115 3) wReset with
    | .next t => decide ((Asserted 5 t) ∧ (t.pwr.thermTrip = true))
    | _ => false) = true := by decide +kernel

theorem test_resetPin : (True) ∧ (match exec (.resetPin 0) wReset with
    | .next t => decide ((Asserted 6 t))
    | _ => false) = true := by decide +kernel

theorem test_warmPin : (True) ∧ (match exec (.warmPin 0) wReset with
    | .next t => decide ((Asserted 15 t))
    | _ => false) = true := by decide +kernel

theorem test_rstCtrlSys : ((isApp 0x10 = true) ∧ (wReset.judge 0x10 0x40000308 true = .ok) ∧ (bits 0x5E7A0003 31 16 = 0x5E7A) ∧ (bitOf 0x5E7A0003 0 = true) ∧ (bitOf 0x5E7A0003 2 = false)) ∧ (match exec (.rstCtrlSys 0x10 0x5E7A0003) wReset with
    | .next t => decide ((Asserted 14 t))
    | _ => false) = true := by decide +kernel

theorem test_rstCtrlWarm : ((isApp 0x1F = true) ∧ (wReset.judge 0x1F 0x40000308 true = .ok) ∧ (bits 0x5E7A0002 31 16 = 0x5E7A) ∧ (bitOf 0x5E7A0002 1 = true) ∧ (bitOf 0x5E7A0002 2 = false)) ∧ (match exec (.rstCtrlWarm 0x1F 0x5E7A0002) wReset with
    | .next t => decide ((Asserted 16 t))
    | _ => false) = true := by decide +kernel

theorem test_rstCtrlCold : ((wReset.judge 0x30 0x40000308 true = .ok) ∧ (bits 0x5E7A0004 31 16 = 0x5E7A) ∧ (bitOf 0x5E7A0004 0 = false) ∧ (bitOf 0x5E7A0004 1 = false) ∧ (bitOf 0x5E7A0004 2 = true)) ∧ (match exec (.rstCtrlCold 0x30 0x5E7A0004) wReset with
    | .next t => decide ((Asserted 7 t))
    | _ => false) = true := by decide +kernel

def w_jtagResetRequest : State := at_ [(MON_STATUS_DBG_LOCK, 0)]

theorem test_jtagResetRequest : ((w_jtagResetRequest.bit MON_STATUS_DBG_LOCK = false ∨ w_jtagResetRequest.bit MON_STATUS_OPEN = true)) ∧ (match exec (.jtagResetRequest 0) w_jtagResetRequest with
    | .next t => decide ((Asserted 11 t))
    | _ => false) = true := by decide +kernel

theorem test_appWdogExpiry : (True) ∧ (match exec (.appWdogExpiry) wReset with
    | .next t => decide ((Asserted 10 t))
    | _ => false) = true := by decide +kernel

theorem test_mpWdogExpiry : (True) ∧ (match exec (.mpWdogExpiry) wReset with
    | .next t => decide ((Asserted 17 t))
    | _ => false) = true := by decide +kernel

theorem test_mpSwReset : (True) ∧ (match exec (.mpSwReset) wReset with
    | .next t => decide ((Asserted 18 t))
    | _ => false) = true := by decide +kernel

def w_syspllUnlock : State := at_ [(CLK_STATUS_REF_PRESENT, 1)]

theorem test_syspllUnlock : ((w_syspllUnlock.bit CLK_STATUS_SYSPLL_HOLD = false) ∧ (w_syspllUnlock.bit CLK_STATUS_REF_PRESENT = true)) ∧ (match exec (.syspllUnlock 9) w_syspllUnlock with
    | .next t => decide ((Asserted 7 t))
    | _ => false) = true := by decide +kernel

def w_resetSourceDeassert : State := { wReset with rst := { wReset.rst with asserted := [6, 10] } }

theorem test_resetSourceDeassert : ((w_resetSourceDeassert.stopSafe = true) ∧ (w_resetSourceDeassert.mayDeassert 6 ([] : List Nat) 25 = true) ∧ (w_resetSourceDeassert.rst.asserted.contains 6 = true)) ∧ (match exec (.resetSourceDeassert 6 ([] : List Nat) 25 400) w_resetSourceDeassert with
    | .next t => decide ((t.rst = { w_resetSourceDeassert.rst with asserted := w_resetSourceDeassert.rst.asserted.filter (· ≠ 6), loadAt := if ((reachOf 6).parts.contains .rstctl = true ∧ w_resetSourceDeassert.rst.asserted.all (fun x => x == 6 || !(reachOf x).parts.contains .rstctl) = true) then 400 else w_resetSourceDeassert.rst.loadAt }) ∧ ((((reachOf 6).parts.contains .rstctl = true ∧ w_resetSourceDeassert.rst.asserted.all (fun x => x == 6 || !(reachOf x).parts.contains .rstctl) = true) → Reads t [(TRIM_STATUS_LOADING, 1), (TRIM_STATUS_WORD, 0)])) ∧ ((6 = 2 → t.pwr.night = false)) ∧ ((6 = 4 → t.pwr.brown = [])) ∧ ((6 = 5 → t.pwr = { w_resetSourceDeassert.pwr with thermTrip := false })) ∧ ((6 = 3 ∨ 5 < 6 → t.pwr = w_resetSourceDeassert.pwr)))
    | _ => false) = true := by decide +kernel

def w_resetSourceDeassert_held : State := { wReset with rst := { wReset.rst with asserted := [5] } }

theorem test_resetSourceDeassert_held : ((w_resetSourceDeassert_held.stopSafe = true) ∧ (w_resetSourceDeassert_held.mayDeassert 5 ([] : List Nat) 100 = false)) ∧ (match exec (.resetSourceDeassert 5 ([] : List Nat) 100 400) w_resetSourceDeassert_held with
    | .next t => decide ((t = w_resetSourceDeassert_held))
    | _ => false) = true := by decide +kernel

def w_resetRelease : State := { wReset with rst := { wReset.rst with held := [.rook], seen := [(8, 3), (9, 2)] } }

theorem test_resetRelease : ((w_resetRelease.eligible.isEmpty = false) ∧ (w_resetRelease.rst.seen.any (fun e => e.1 == 0 || 19 ≤ e.1) = false)) ∧ (match exec (.resetRelease) w_resetRelease with
    | .next t => decide ((t.rst.held = w_resetRelease.rst.held.filter (fun p => !w_resetRelease.eligible.contains p)) ∧ (t.get RST_CAUSE_CAUSE = causeOf w_resetRelease.rst.seen) ∧ (t.get RST_SEEN_SEEN = seenBits w_resetRelease.rst.seen % 2 ^ 19))
    | _ => false) = true := by decide +kernel

def w_resetRelease_aon : State := { (at_ [(TRIM_STATUS_DONE, 1)]) with clk := { wReset.clk with sysLocked := true }, rst := { wReset.rst with strapDone := true, held := [.aon, .rstctl, .sys], seen := [(0, 0), (6, 1)] } }

theorem test_resetRelease_aon : ((w_resetRelease_aon.eligible.isEmpty = false) ∧ (w_resetRelease_aon.rst.seen.any (fun e => e.1 == 0) = true)) ∧ (match exec (.resetRelease) w_resetRelease_aon with
    | .next t => decide ((t.rst.held = w_resetRelease_aon.rst.held.filter (fun p => !w_resetRelease_aon.eligible.contains p)) ∧ (Reads t [(RST_CAUSE_CAUSE, 0), (RST_SEEN_SEEN, 1)]))
    | _ => false) = true := by decide +kernel

def w_trimLoadComplete : State := at_ [(TRIM_STATUS_LOADING, 1), (TRIM_STATUS_FAILS, 1)]

theorem test_trimLoadComplete : (w_trimLoadComplete.stopSafe = true) ∧ (w_trimLoadComplete.bit TRIM_STATUS_LOADING = true) ∧ (trimCrcOk (trimRead w_trimLoadComplete.flash.trims ([(255, crc32c (List.replicate 1020 0))] : List (Nat × Nat))) = true) := by decide +kernel

def w_trimLoadComplete_mismatch : State := at_ [(TRIM_STATUS_LOADING, 1), (TRIM_STATUS_FAILS, 1)]

theorem test_trimLoadComplete_mismatch : ((w_trimLoadComplete_mismatch.stopSafe = true) ∧ (w_trimLoadComplete_mismatch.bit TRIM_STATUS_LOADING = true) ∧ (trimCrcOk (trimRead w_trimLoadComplete_mismatch.flash.trims ([(3, 7)] : List (Nat × Nat))) = false) ∧ (w_trimLoadComplete_mismatch.get TRIM_STATUS_FAILS < 2)) ∧ (match exec (.trimLoadComplete ([(3, 7)] : List (Nat × Nat)) 1024) w_trimLoadComplete_mismatch with
    | .next t => decide ((Reads t [(TRIM_STATUS_FAILS, w_trimLoadComplete_mismatch.get TRIM_STATUS_FAILS + 1), (TRIM_STATUS_WORD, 0), (TRIM_STATUS_LOADING, w_trimLoadComplete_mismatch.get TRIM_STATUS_LOADING)]) ∧ (t.rst = { w_trimLoadComplete_mismatch.rst with shadow := trimRead w_trimLoadComplete_mismatch.flash.trims ([(3, 7)] : List (Nat × Nat)), loadAt := 1024 }))
    | _ => false) = true := by decide +kernel

def w_trimLoadComplete_safe : State := at_ [(TRIM_STATUS_LOADING, 1), (TRIM_STATUS_FAILS, 2)]

theorem test_trimLoadComplete_safe : ((w_trimLoadComplete_safe.stopSafe = true) ∧ (w_trimLoadComplete_safe.bit TRIM_STATUS_LOADING = true) ∧ (trimCrcOk (trimRead w_trimLoadComplete_safe.flash.trims ([(3, 7)] : List (Nat × Nat))) = false) ∧ (2 ≤ w_trimLoadComplete_safe.get TRIM_STATUS_FAILS)) ∧ (match exec (.trimLoadComplete ([(3, 7)] : List (Nat × Nat)) 1024) w_trimLoadComplete_safe with
    | .next t => decide ((Reads t [(TRIM_STATUS_FAILS, 3), (TRIM_STATUS_LOADING, 0), (TRIM_STATUS_SAFE, 1), (TRIM_STATUS_WORD, 255), (MON_STATUS_DBG_LOCK, 1)]) ∧ (t.rst = { w_trimLoadComplete_safe.rst with shadow := trimRead w_trimLoadComplete_safe.flash.trims ([(3, 7)] : List (Nat × Nat)) }))
    | _ => false) = true := by decide +kernel

def w_strapSample : State := wStrap 0

theorem test_strapSample : ((w_strapSample.stopSafe = true) ∧ (w_strapSample.rst.strapDone = false) ∧ (w_strapSample.bit TRIM_STATUS_DONE = true ∨ w_strapSample.bit TRIM_STATUS_SAFE = true) ∧ (7 < 16) ∧ (([7, 7, 7, 7, 7, 7, 7, 7] : List Nat) = List.replicate 8 7)) ∧ (match exec (.strapSample ([7, 7, 7, 7, 7, 7, 7, 7] : List Nat)) w_strapSample with
    | .next t => decide ((Reads t [(STRAP_CODE, 7), (STRAP_BOOT, strapBoot 7), (STRAP_ROLE, strapRole 7), (STRAP_REC_IF, strapRecIf 7), (STRAP_RAW, 7), (STRAP_UNSTABLE, 0)]) ∧ (t.rst = { w_strapSample.rst with strapDone := true }))
    | _ => false) = true := by decide +kernel

def w_strapSample_unstable : State := wStrap 3

theorem test_strapSample_unstable : ((w_strapSample_unstable.stopSafe = true) ∧ (w_strapSample_unstable.rst.strapDone = false) ∧ (w_strapSample_unstable.bit TRIM_STATUS_DONE = true ∨ w_strapSample_unstable.bit TRIM_STATUS_SAFE = true) ∧ (([7, 7, 7, 7, 7, 7, 7, 8] : List Nat).length = 8) ∧ (([7, 7, 7, 7, 7, 7, 7, 8] : List Nat).all (fun x => x % 16 == ([7, 7, 7, 7, 7, 7, 7, 8] : List Nat).headD 0 % 16) = false) ∧ (3 ≤ w_strapSample_unstable.rst.strapTries)) ∧ (match exec (.strapSample ([7, 7, 7, 7, 7, 7, 7, 8] : List Nat)) w_strapSample_unstable with
    | .next t => decide ((Reads t [(STRAP_CODE, 0), (STRAP_BOOT, 0), (STRAP_ROLE, 0), (STRAP_REC_IF, 0), (STRAP_RAW, ([7, 7, 7, 7, 7, 7, 7, 8] : List Nat).getLastD 0 % 16), (STRAP_UNSTABLE, 1)]) ∧ (t.rst = { w_strapSample_unstable.rst with strapDone := true }))
    | _ => false) = true := by decide +kernel

def w_strapSample_again : State := wStrap 2

theorem test_strapSample_again : ((w_strapSample_again.stopSafe = true) ∧ (w_strapSample_again.rst.strapDone = false) ∧ (w_strapSample_again.bit TRIM_STATUS_DONE = true ∨ w_strapSample_again.bit TRIM_STATUS_SAFE = true) ∧ (([7, 7, 7, 7, 7, 7, 7, 8] : List Nat).length = 8) ∧ (([7, 7, 7, 7, 7, 7, 7, 8] : List Nat).all (fun x => x % 16 == ([7, 7, 7, 7, 7, 7, 7, 8] : List Nat).headD 0 % 16) = false) ∧ (w_strapSample_again.rst.strapTries < 3)) ∧ (match exec (.strapSample ([7, 7, 7, 7, 7, 7, 7, 8] : List Nat)) w_strapSample_again with
    | .next t => decide ((Reads t [(STRAP_RAW, ([7, 7, 7, 7, 7, 7, 7, 8] : List Nat).getLastD 0 % 16)]) ∧ (t.rst = { w_strapSample_again.rst with strapTries := w_strapSample_again.rst.strapTries + 1 }))
    | _ => false) = true := by decide +kernel

def w_syspllLock : State := { (at_ [(CLK_STATUS_SYSPLL_HOLD, 1)]) with clk := { pulling := [0] } }

theorem test_syspllLock : ((w_syspllLock.stopSafe = true)) ∧ (match exec (.syspllLock) w_syspllLock with
    | .next t => decide ((Reads t [(CLK_STATUS_SYSPLL_LOCK, 1), (CLK_STATUS_REF_PRESENT, 1), (CLK_STATUS_SYSPLL_HOLD, if w_syspllLock.clk.pulling.contains 0 then 0 else w_syspllLock.get CLK_STATUS_SYSPLL_HOLD)]) ∧ (t.clk = { w_syspllLock.clk with sysLocked := true, pulling := w_syspllLock.clk.pulling.filter (· ≠ 0) }))
    | _ => false) = true := by decide +kernel

def w_netpllUnlock : State := at_ [(CLK_STATUS_REF_PRESENT, 1), (CLK_STATUS_NETPLL_LOCK, 1)]

theorem test_netpllUnlock : ((w_netpllUnlock.bit CLK_STATUS_NETPLL_HOLD = false) ∧ (w_netpllUnlock.bit CLK_STATUS_REF_PRESENT = true) ∧ (w_netpllUnlock.bit CLK_STATUS_NETPLL_LOCK = true)) ∧ (match exec (.netpllUnlock) w_netpllUnlock with
    | .next t => decide ((Reads t [(CLK_STATUS_NETPLL_LOCK, 0), (CLK_EVENT_NETPLL_UNLOCK, 1)]) ∧ (t.rst.held.contains .net = true) ∧ (t.out = w_netpllUnlock.out ++ [.irqApps CLK_EVENT_NETPLL_UNLOCK.key.lo, .irqRook CLK_EVENT_NETPLL_UNLOCK.key.lo]))
    | _ => false) = true := by decide +kernel

def w_netpllLockRetry : State := { (at_ [(CLK_STATUS_NETPLL_LOCK, 0)]) with rst := { wReset.rst with held := [Part.net] } }

theorem test_netpllLockRetry : ((w_netpllLockRetry.stopSafe = true) ∧ (w_netpllLockRetry.clk.pulling.contains 1 = false) ∧ (w_netpllLockRetry.bit CLK_STATUS_NETPLL_LOCK = false) ∧ (w_netpllLockRetry.covered .net = false) ∧ (w_netpllLockRetry.rst.held.contains .sys = false) ∧ (w_netpllLockRetry.pdOff .net = false)) ∧ (match exec (.netpllLockRetry true) w_netpllLockRetry with
    | .next t => decide ((Reads t [(CLK_STATUS_NETPLL_LOCK, 1)]) ∧ (t.rst = { w_netpllLockRetry.rst with held := w_netpllLockRetry.rst.held.filter (· ≠ Part.net) }))
    | _ => false) = true := by decide +kernel

def w_netpllLockRetry_pullIn : State := { (at_ [(CLK_STATUS_NETPLL_LOCK, 1), (CLK_STATUS_NETPLL_HOLD, 1)]) with clk := { pulling := [1] } }

theorem test_netpllLockRetry_pullIn : ((w_netpllLockRetry_pullIn.stopSafe = true) ∧ (w_netpllLockRetry_pullIn.clk.pulling.contains 1 = true)) ∧ (match exec (.netpllLockRetry true) w_netpllLockRetry_pullIn with
    | .next t => decide ((Reads t [(CLK_STATUS_NETPLL_HOLD, 0)]) ∧ (t.clk = { w_netpllLockRetry_pullIn.clk with pulling := w_netpllLockRetry_pullIn.clk.pulling.filter (· ≠ 1) }))
    | _ => false) = true := by decide +kernel

def w_pllHoldoverEntry : State := at_ [(CLK_STATUS_NETPLL_LOCK, 1)]

theorem test_pllHoldoverEntry : ((w_pllHoldoverEntry.stopSafe = true) ∧ (w_pllHoldoverEntry.bit (pllLock 1) = true)) ∧ (match exec (.pllHoldoverEntry 1) w_pllHoldoverEntry with
    | .next t => decide ((Reads t [(pllHold 1, 1)]) ∧ (t.clk = { w_pllHoldoverEntry.clk with pulling := w_pllHoldoverEntry.clk.pulling.filter (· ≠ 1) }))
    | _ => false) = true := by decide +kernel

def w_pllHoldoverExit : State := at_ [(CLK_STATUS_SYSPLL_HOLD, 1)]

theorem test_pllHoldoverExit : ((w_pllHoldoverExit.stopSafe = true) ∧ (w_pllHoldoverExit.clk.refLost = false) ∧ (50 ≤ 50) ∧ (50 ≤ 200) ∧ (w_pllHoldoverExit.bit (pllHold 0) = true) ∧ (w_pllHoldoverExit.clk.pulling.contains 0 = false)) ∧ (match exec (.pllHoldoverExit 0 50) w_pllHoldoverExit with
    | .next t => decide ((Reads t [(CLK_STATUS_REF_PRESENT, 1)]) ∧ (t.clk = { w_pllHoldoverExit.clk with pulling := w_pllHoldoverExit.clk.pulling ++ [0] }))
    | _ => false) = true := by decide +kernel

def w_refLost : State := at_ [(CLK_STATUS_NETPLL_LOCK, 1), (CLK_STATUS_REF_PRESENT, 1)]

theorem test_refLost : ((w_refLost.stopSafe = true) ∧ (49 < 50 ∨ 200 < 49) ∧ (201 < 50 ∨ 200 < 201) ∧ (w_refLost.clk.refLost = false)) ∧ (match exec (.refLost 49 201) w_refLost with
    | .next t => decide ((Reads t [(CLK_STATUS_REF_PRESENT, 0), (CLK_EVENT_REF_LOST, 1)]) ∧ ((t.get CLK_STATUS_SYSPLL_HOLD = if w_refLost.bit CLK_STATUS_SYSPLL_LOCK then 1 else w_refLost.get CLK_STATUS_SYSPLL_HOLD)) ∧ ((t.get CLK_STATUS_NETPLL_HOLD = if w_refLost.bit CLK_STATUS_NETPLL_LOCK then 1 else w_refLost.get CLK_STATUS_NETPLL_HOLD)) ∧ (t.clk = { w_refLost.clk with refLost := true, txEndPending := true, pulling := w_refLost.clk.pulling.filter (fun p => !(p == 0 && w_refLost.bit CLK_STATUS_SYSPLL_LOCK) && !(p == 1 && w_refLost.bit CLK_STATUS_NETPLL_LOCK)) }) ∧ (t.out = w_refLost.out ++ [.irqApps CLK_EVENT_REF_LOST.key.lo, .irqRook CLK_EVENT_REF_LOST.key.lo]) ∧ (t.evr = (w_refLost.record .clkEvent [CLK_EVENT_REF_LOST.key.lo]).evr))
    | _ => false) = true := by decide +kernel

def w_pllPullRangeEdge : State := at_ [(CLK_STATUS_SYSPLL_LOCK, 1), (CLK_STATUS_REF_PRESENT, 1)]

theorem test_pllPullRangeEdge : ((w_pllPullRangeEdge.stopSafe = true) ∧ (0 < 2) ∧ (w_pllPullRangeEdge.bit (pllLock 0) = true) ∧ (w_pllPullRangeEdge.bit CLK_STATUS_REF_PRESENT = true) ∧ (w_pllPullRangeEdge.clk.refLost = false)) ∧ (match exec (.pllPullRangeEdge 0) w_pllPullRangeEdge with
    | .next t => decide ((Reads t [(CLK_EVENT_REF_LOST, 1)]) ∧ ((t.get CLK_STATUS_SYSPLL_HOLD = if w_pllPullRangeEdge.bit CLK_STATUS_SYSPLL_LOCK then 1 else w_pllPullRangeEdge.get CLK_STATUS_SYSPLL_HOLD)) ∧ ((t.get CLK_STATUS_NETPLL_HOLD = if w_pllPullRangeEdge.bit CLK_STATUS_NETPLL_LOCK then 1 else w_pllPullRangeEdge.get CLK_STATUS_NETPLL_HOLD)) ∧ (t.clk = { w_pllPullRangeEdge.clk with refLost := true, txEndPending := true, pulling := w_pllPullRangeEdge.clk.pulling.filter (fun p => !(p == 0 && w_pllPullRangeEdge.bit CLK_STATUS_SYSPLL_LOCK) && !(p == 1 && w_pllPullRangeEdge.bit CLK_STATUS_NETPLL_LOCK)) }) ∧ (t.out = w_pllPullRangeEdge.out ++ [.irqApps CLK_EVENT_REF_LOST.key.lo, .irqRook CLK_EVENT_REF_LOST.key.lo]))
    | _ => false) = true := by decide +kernel

def w_refRestored : State := { (at_ [(CLK_STATUS_SYSPLL_HOLD, 1)]) with clk := { refLost := true } }

theorem test_refRestored : ((w_refRestored.stopSafe = true) ∧ (w_refRestored.clk.refLost = true) ∧ (w_refRestored.bit CLK_STATUS_REF_FREQ_ERR = false)) ∧ (match exec (.refRestored) w_refRestored with
    | .next t => decide ((Reads t [(CLK_STATUS_REF_PRESENT, 1), (CLK_EVENT_REF_RESTORED, 1)]) ∧ (t.clk = { w_refRestored.clk with refLost := false, pulling := t.clk.pulling }) ∧ ((w_refRestored.bit CLK_STATUS_SYSPLL_HOLD = true → t.clk.pulling.contains 0 = true)) ∧ ((w_refRestored.bit CLK_STATUS_NETPLL_HOLD = true → t.clk.pulling.contains 1 = true)) ∧ (t.clk.pulling.filter (fun p => !(p == 0 && w_refRestored.bit CLK_STATUS_SYSPLL_HOLD) && !(p == 1 && w_refRestored.bit CLK_STATUS_NETPLL_HOLD)) = w_refRestored.clk.pulling.filter (fun p => !(p == 0 && w_refRestored.bit CLK_STATUS_SYSPLL_HOLD) && !(p == 1 && w_refRestored.bit CLK_STATUS_NETPLL_HOLD))) ∧ (t.out = w_refRestored.out ++ [.irqApps CLK_EVENT_REF_RESTORED.key.lo, .irqRook CLK_EVENT_REF_RESTORED.key.lo]))
    | _ => false) = true := by decide +kernel

theorem test_refFreqCheck_noXtal : ((wReset.stopSafe = true)) ∧ (match exec (.refFreqCheck 10000000 false) wReset with
    | .next t => decide ((Reads t [(CLK_STATUS_AON_XTAL_OK, 0), (CLK_STATUS_REF_OFFSET, 0x8000)]))
    | _ => false) = true := by decide +kernel

def w_refFreqCheck : State := { (at_ [(CLK_STATUS_REF_FREQ_ERR, 1)]) with clk := { freqGood := 1 } }

theorem test_refFreqCheck : ((w_refFreqCheck.stopSafe = true) ∧ (9999000 ≤ 9999000) ∧ (9999000 ≤ 10001000)) ∧ (match exec (.refFreqCheck 9999000 true) w_refFreqCheck with
    | .next t => decide ((Reads t [(CLK_STATUS_AON_XTAL_OK, 1), (CLK_STATUS_REF_FREQ_ERR, if 1 ≤ w_refFreqCheck.clk.freqGood then 0 else w_refFreqCheck.get CLK_STATUS_REF_FREQ_ERR)]) ∧ (t.getS CLK_STATUS_REF_OFFSET = (9999000 : Int) - 10000000) ∧ (t.clk = { w_refFreqCheck.clk with freqGood := w_refFreqCheck.clk.freqGood + 1, freqBad := 0 }))
    | _ => false) = true := by decide +kernel

def w_refFreqCheck_err : State := { wReset with clk := { freqBad := 1 } }

theorem test_refFreqCheck_err : ((w_refFreqCheck_err.stopSafe = true) ∧ (10001001 < 9999000 ∨ 10001000 < 10001001) ∧ (1 ≤ w_refFreqCheck_err.clk.freqBad) ∧ (w_refFreqCheck_err.bit CLK_STATUS_REF_FREQ_ERR = false)) ∧ (match exec (.refFreqCheck 10001001 true) w_refFreqCheck_err with
    | .next t => decide ((Reads t [(CLK_STATUS_AON_XTAL_OK, 1), (CLK_STATUS_REF_FREQ_ERR, 1), (CLK_EVENT_REF_FREQ_ERR_S, 1)]) ∧ (t.getS CLK_STATUS_REF_OFFSET = clampI (-32767) 32767 ((10001001 : Int) - 10000000)) ∧ (t.clk = { w_refFreqCheck_err.clk with freqBad := w_refFreqCheck_err.clk.freqBad + 1, freqGood := 0 }) ∧ (t.out = w_refFreqCheck_err.out ++ [.irqApps CLK_EVENT_REF_FREQ_ERR_S.key.lo, .irqRook CLK_EVENT_REF_FREQ_ERR_S.key.lo]))
    | _ => false) = true := by decide +kernel

def w_pdCtrlWrite_busy : State := at_ [(PD_STATUS_BUSY, 1)]

theorem test_pdCtrlWrite_busy : ((w_pdCtrlWrite_busy.stopSafe = true) ∧ (MayWrite w_pdCtrlWrite_busy 0x10 0x40000200) ∧ (w_pdCtrlWrite_busy.bit PD_STATUS_BUSY = true)) ∧ (match exec (.pdCtrlWrite 0x10 0x3E0) w_pdCtrlWrite_busy with
    | .next t => decide ((t.sw = { w_pdCtrlWrite_busy.sw with waiting := w_pdCtrlWrite_busy.sw.waiting ++ [(0x3E0, 2 ^ 32 - 1)] }))
    | _ => false) = true := by decide +kernel

def w_pdCtrlWrite_refused : State := at_ [(MAC_CTRL_NET_EN, 1)]

theorem test_pdCtrlWrite_refused : ((w_pdCtrlWrite_refused.stopSafe = true) ∧ (MayWrite w_pdCtrlWrite_refused 0x10 0x40000200) ∧ (w_pdCtrlWrite_refused.bit PD_STATUS_BUSY = false) ∧ (w_pdCtrlWrite_refused.pdRefused 0x160 = true)) ∧ (match exec (.pdCtrlWrite 0x10 0x160) w_pdCtrlWrite_refused with
    | .next t => decide ((Reads t [(PD_STATUS_REFUSED, 1)]))
    | _ => false) = true := by decide +kernel

theorem test_pdCtrlWrite : ((MayWrite wReset 0x10 0x40000200) ∧ (wReset.bit PD_STATUS_BUSY = false) ∧ (wReset.pdRefused 0x3C0 = false)) ∧ (match exec (.pdCtrlWrite 0x10 0x3C0) wReset with
    | .next t => decide (([5, 6, 7, 8, 9].all (fun d => t.bit (pdFld d) == bitOf 0x3C0 d) = true) ∧ (t.sw.switching = wReset.sw.switching ++ ([5, 6, 7, 8, 9].filter (fun d => wReset.bit (pdFld d) != bitOf 0x3C0 d)).map (fun d => (d, bitOf 0x3C0 d))) ∧ ([5, 6, 7, 8, 9].all (fun d => wReset.bit (pdFld d) == bitOf 0x3C0 d || bitOf 0x3C0 d || t.rst.held.contains (domPart d)) = true) ∧ (t.bit PD_STATUS_BUSY = [5, 6, 7, 8, 9].any (fun d => wReset.bit (pdFld d) != bitOf 0x3C0 d)))
    | _ => false) = true := by decide +kernel

def w_pdSwitchComplete : State := { (at_ [(PD_STATUS_BUSY, 1)]) with ply := 12, sw := { switching := [(5, false)], start := 7 } }

theorem test_pdSwitchComplete : ((w_pdSwitchComplete.stopSafe = true) ∧ (w_pdSwitchComplete.bit PD_STATUS_BUSY = true) ∧ (5 ≤ 5) ∧ (5 ≤ 9) ∧ (w_pdSwitchComplete.sw.switching = [(5, false)]) ∧ (w_pdSwitchComplete.sw.waiting = []) ∧ (w_pdSwitchComplete.sw.start + (if false then 7 else 5) ≤ w_pdSwitchComplete.ply)) ∧ (match exec (.pdSwitchComplete) w_pdSwitchComplete with
    | .next t => decide ((t.get PD_STATUS_BUSY = 0) ∧ (t.getBit PD_STATUS_ON 5 = false) ∧ (t.sw = {}) ∧ ((false = true ∧ w_pdSwitchComplete.covered (domPart 5) = false ∧ (5 ≠ 9 ∨ w_pdSwitchComplete.bit CLK_STATUS_NETPLL_LOCK = true) ∧ w_pdSwitchComplete.bit TRIM_STATUS_SAFE = false → t.rst.held.contains (domPart 5) = false)) ∧ ((false = false → t.rst = w_pdSwitchComplete.rst)))
    | _ => false) = true := by decide +kernel

def w_nightGo : State := at_ [(CLK_STATUS_AON_XTAL_OK, 1)]

theorem test_nightGo : ((w_nightGo.judge 0x30 0x40000800 true = .ok) ∧ (bits 0x4E470001 31 16 = 0x4E47) ∧ (bitOf 0x4E470001 0 = true) ∧ (w_nightGo.bit ROOK_STATE_STOP = true) ∧ (w_nightGo.bit CLK_STATUS_AON_XTAL_OK = true)) ∧ (match exec (.nightGo 0x30 0x4E470001 ([1] : List Nat) 5) w_nightGo with
    | .next t => decide ((Asserted 2 t) ∧ (t.pwr = { w_nightGo.pwr with night := true, dropPending := true, wakeLatched := false, minHoldDone := false, hotValid := !([1] : List Nat).isEmpty, hotBytes := ([1] : List Nat), hotCrc := 5, hotAt := w_nightGo.pwr.aon }))
    | _ => false) = true := by decide +kernel

def w_mainEnDrop : State := { wReset with pwr := { night := true, dropPending := true } }

theorem test_mainEnDrop : ((w_mainEnDrop.stopSafe = true) ∧ (w_mainEnDrop.pwr.dropPending = true)) ∧ (match exec (.mainEnDrop) w_mainEnDrop with
    | .next t => decide ((t.pwr = { (w_mainEnDrop.aonPass 1).pwr with dropPending := false, mainEn := false, enAt := w_mainEnDrop.pwr.aon + 1, railValid := w_mainEnDrop.pwr.railValid.filter (· == 9) }) ∧ ((w_mainEnDrop.pwr.mainEn = true → Reads t [(REC_AON_OH_SECONDS, min (w_mainEnDrop.get REC_AON_OH_SECONDS + (w_mainEnDrop.pwr.aonCycles + 1) / 32768) 0xFFFFFFFF), (REC_AON_SUB_MS, (w_mainEnDrop.pwr.aonCycles + 1) % 32768 * 1000 / 32768)])))
    | _ => false) = true := by decide +kernel

def w_nightMinHoldExpiry : State := { wReset with pwr := { night := true, mainEn := false, wakeLatched := true } }

theorem test_nightMinHoldExpiry : ((w_nightMinHoldExpiry.stopSafe = true) ∧ (w_nightMinHoldExpiry.pwr.night = true) ∧ (w_nightMinHoldExpiry.pwr.mainEn = false) ∧ (w_nightMinHoldExpiry.pwr.wakeLatched = true)) ∧ (match exec (.nightMinHoldExpiry) w_nightMinHoldExpiry with
    | .next t => decide ((Reads t [(WAKE_CAUSE_FROM_NIGHT, 1), (WAKE_CAUSE_ATTEMPTS, 0)]) ∧ (t.pwr = { w_nightMinHoldExpiry.pwr with minHoldDone := true, mainEn := true, wakeLatched := false, retryPending := false, aon := (w_nightMinHoldExpiry.pwr.aon + (w_nightMinHoldExpiry.pwr.enAt + 1639 - w_nightMinHoldExpiry.pwr.aon)), enAt := (w_nightMinHoldExpiry.pwr.aon + (w_nightMinHoldExpiry.pwr.enAt + 1639 - w_nightMinHoldExpiry.pwr.aon)) }))
    | _ => false) = true := by decide +kernel

def w_wakePin : State := { wReset with pwr := { night := true, mainEn := false, minHoldDone := true } }

theorem test_wakePin : ((w_wakePin.stopSafe = true) ∧ (w_wakePin.pwr.night = true) ∧ (w_wakePin.pwr.mainEn = false) ∧ (w_wakePin.pwr.minHoldDone = true)) ∧ (match exec (.wakePin 5) w_wakePin with
    | .next t => decide ((Reads t [(WAKE_CAUSE_PIN, 1), (WAKE_CAUSE_FROM_NIGHT, 1), (WAKE_CAUSE_ATTEMPTS, 0)]) ∧ (t.pwr = { w_wakePin.pwr with mainEn := true, wakeLatched := false, retryPending := false, aon := w_wakePin.pwr.aon + 5, enAt := w_wakePin.pwr.aon + 5 }))
    | _ => false) = true := by decide +kernel

def w_wakePin_latched : State := { wReset with pwr := { night := true, mainEn := false } }

theorem test_wakePin_latched : ((w_wakePin_latched.stopSafe = true) ∧ (w_wakePin_latched.pwr.night = true) ∧ (w_wakePin_latched.pwr.mainEn = false) ∧ (w_wakePin_latched.pwr.minHoldDone = false)) ∧ (match exec (.wakePin 5) w_wakePin_latched with
    | .next t => decide ((Reads t [(WAKE_CAUSE_PIN, 1)]) ∧ (t.pwr = { w_wakePin_latched.pwr with wakeLatched := true, aon := w_wakePin_latched.pwr.aon + 5 }))
    | _ => false) = true := by decide +kernel

def w_wakeTimerExpiry : State := { (at_ [(WAKE_TIMER_SECONDS, 60)]) with pwr := { night := true, mainEn := false, minHoldDone := true } }

theorem test_wakeTimerExpiry : ((w_wakeTimerExpiry.stopSafe = true) ∧ (0 < w_wakeTimerExpiry.get WAKE_TIMER_SECONDS) ∧ (w_wakeTimerExpiry.pwr.night = true) ∧ (w_wakeTimerExpiry.pwr.mainEn = false) ∧ (w_wakeTimerExpiry.pwr.minHoldDone = true)) ∧ (match exec (.wakeTimerExpiry) w_wakeTimerExpiry with
    | .next t => decide ((Reads t [(WAKE_CAUSE_TIMER, 1), (WAKE_CAUSE_FROM_NIGHT, 1), (WAKE_CAUSE_ATTEMPTS, 0)]) ∧ (t.pwr = { w_wakeTimerExpiry.pwr with mainEn := true, wakeLatched := false, retryPending := false, aon := (w_wakeTimerExpiry.pwr.aon + (w_wakeTimerExpiry.pwr.enAt + w_wakeTimerExpiry.get WAKE_TIMER_SECONDS * 32768 - w_wakeTimerExpiry.pwr.aon)), enAt := (w_wakeTimerExpiry.pwr.aon + (w_wakeTimerExpiry.pwr.enAt + w_wakeTimerExpiry.get WAKE_TIMER_SECONDS * 32768 - w_wakeTimerExpiry.pwr.aon)) }))
    | _ => false) = true := by decide +kernel

def w_railWakeTimeout : State := { wReset with pwr := { night := true } }

theorem test_railWakeTimeout : ((w_railWakeTimeout.stopSafe = true) ∧ (w_railWakeTimeout.pwr.night = true) ∧ (w_railWakeTimeout.pwr.mainEn = true) ∧ (w_railWakeTimeout.pwr.dropPending = false)) ∧ (match exec (.railWakeTimeout) w_railWakeTimeout with
    | .next t => decide ((Reads t [(WAKE_CAUSE_RAIL_FAIL, 1), (WAKE_CAUSE_ATTEMPTS, min (w_railWakeTimeout.get WAKE_CAUSE_ATTEMPTS + 1) 3)]) ∧ ((w_railWakeTimeout.pwr.mainEn = true → Reads t [(REC_AON_OH_SECONDS, min (w_railWakeTimeout.get REC_AON_OH_SECONDS + (w_railWakeTimeout.pwr.aonCycles + (w_railWakeTimeout.pwr.enAt + 6554 - w_railWakeTimeout.pwr.aon)) / 32768) 0xFFFFFFFF), (REC_AON_SUB_MS, (w_railWakeTimeout.pwr.aonCycles + (w_railWakeTimeout.pwr.enAt + 6554 - w_railWakeTimeout.pwr.aon)) % 32768 * 1000 / 32768)])) ∧ (t.pwr = { (w_railWakeTimeout.aonTo 6554).pwr with mainEn := false, enAt := (w_railWakeTimeout.pwr.aon + (w_railWakeTimeout.pwr.enAt + 6554 - w_railWakeTimeout.pwr.aon)), minHoldDone := true, retryPending := decide (w_railWakeTimeout.get WAKE_CAUSE_ATTEMPTS + 1 < 3) }))
    | _ => false) = true := by decide +kernel

def w_railWakeRetry : State := { wReset with pwr := { night := true, mainEn := false, retryPending := true } }

theorem test_railWakeRetry : ((w_railWakeRetry.stopSafe = true) ∧ (w_railWakeRetry.pwr.retryPending = true) ∧ (w_railWakeRetry.pwr.mainEn = false)) ∧ (match exec (.railWakeRetry) w_railWakeRetry with
    | .next t => decide ((t.pwr = { w_railWakeRetry.pwr with retryPending := false, mainEn := true, aon := (w_railWakeRetry.pwr.aon + (w_railWakeRetry.pwr.enAt + 32768 - w_railWakeRetry.pwr.aon)), enAt := (w_railWakeRetry.pwr.aon + (w_railWakeRetry.pwr.enAt + 32768 - w_railWakeRetry.pwr.aon)) }))
    | _ => false) = true := by decide +kernel

def w_plyLoRead : State := { wReset with ply := 0x700000005 }

theorem test_plyLoRead : ((w_plyLoRead.stopSafe = true) ∧ (MayRead w_plyLoRead 0x11 0x40010000)) ∧ (match exec (.plyLoRead 0x11) w_plyLoRead with
    | .next t => decide ((t.plyHiOf 0x11 = w_plyLoRead.ply / 2 ^ 32 % 2 ^ 32) ∧ (t.cast = { w_plyLoRead.cast with plyHi := (0x11, w_plyLoRead.ply / 2 ^ 32 % 2 ^ 32) :: w_plyLoRead.cast.plyHi.filter (fun e => e.1 ≠ 0x11) }))
    | _ => false) = true := by decide +kernel

def w_castOpen : State := { (at_ [(CAST_STAT_STATE 0, 1), (CAST_STAT_STATE 1, 2)]) with cast := { seq := 0xFFF } }

theorem test_castOpen : ((w_castOpen.stopSafe = true) ∧ (MayWrite w_castOpen 0x10 0x40010100) ∧ (capable 0x10 = true) ∧ ((List.range 16).find? w_castOpen.castFree = some 2) ∧ (w_castOpen.cast.seq ≤ 0xFFF)) ∧ (match exec (.castOpen 0x10) w_castOpen with
    | .next t => decide ((Reads t [(CAST_STAT_ID 2, (if w_castOpen.cast.seq = 0xFFF then 1 else w_castOpen.cast.seq + 1) * 16 + 2), (CAST_STAT_OWNER 2, 0x10), (CAST_STAT_STATE 2, 1), (CAST_INFO_ENTRIES 2, 0), (CAST_INFO_WHEN 2, 0), (CAST_INFO_CAUSE 2, 0), (CAST_INFO_FAIL_INDEX 2, 0), (CAST_RESULT_ID 0x10, (if w_castOpen.cast.seq = 0xFFF then 1 else w_castOpen.cast.seq + 1) * 16 + 2), (CAST_RESULT_CODE 0x10, 0)]) ∧ (t.cast = { w_castOpen.cast with seq := (if w_castOpen.cast.seq = 0xFFF then 1 else w_castOpen.cast.seq + 1) }))
    | _ => false) = true := by decide +kernel

def w_castOpen_noSlot : State := at_ ((List.range 16).map (fun n => (CAST_STAT_STATE n, 1)))

theorem test_castOpen_noSlot : ((w_castOpen_noSlot.stopSafe = true) ∧ (MayWrite w_castOpen_noSlot 0x10 0x40010100) ∧ (capable 0x10 = true) ∧ ((List.range 16).all (fun n => w_castOpen_noSlot.get (CAST_STAT_STATE n) == 1 || w_castOpen_noSlot.get (CAST_STAT_STATE n) == 2) = true)) ∧ (match exec (.castOpen 0x10) w_castOpen_noSlot with
    | .next t => decide ((Reads t [(CAST_RESULT_CODE 0x10, 1)]))
    | _ => false) = true := by decide +kernel

theorem test_castOpen_notCapable : ((wReset.stopSafe = true) ∧ (MayWrite wReset 0x3F 0x40010100) ∧ (capable 0x3F = false)) ∧ (match exec (.castOpen 0x3F) wReset with
    | .next t => decide ((t.out = wReset.out ++ [.castCode 0x3F 8]))
    | _ => false) = true := by decide +kernel

def w_castStage : State := { (at_ [(CAST_STAT_STATE 2, 1), (CAST_STAT_ID 2, 0x12), (CAST_STAT_OWNER 2, 0x10), (CAST_ADDR_VALUE 0x10, 0x40100014), (CAST_DATA_VALUE 0x10, 5), (CAST_MASK_VALUE 0x10, 7)]) with cast := { seq := 1 } }

theorem test_castStage : ((w_castStage.stopSafe = true) ∧ (MayWrite w_castStage 0x10 0x40010100) ∧ (capable 0x10 = true) ∧ (w_castStage.get (CAST_STAT_STATE (0x12 % 16)) = 1) ∧ (w_castStage.get (CAST_STAT_ID (0x12 % 16)) = 0x12) ∧ (w_castStage.get (CAST_STAT_OWNER (0x12 % 16)) = 0x10) ∧ (0x12 < 65536) ∧ (w_castStage.get (CAST_ADDR_VALUE 0x10) % 4 = 0) ∧ ((w_castStage.castEntries (0x12 % 16)).length < 256) ∧ (w_castStage.cast.entries.length < 1024)) ∧ (match exec (.castStage 0x10 0x12) w_castStage with
    | .next t => decide ((t.cast = { w_castStage.cast with entries := w_castStage.cast.entries ++ [(0x12 % 16, ⟨w_castStage.get (CAST_ADDR_VALUE 0x10), w_castStage.get (CAST_DATA_VALUE 0x10), w_castStage.get (CAST_MASK_VALUE 0x10)⟩)] }) ∧ (Reads t [(CAST_INFO_ENTRIES (0x12 % 16), (w_castStage.castEntries (0x12 % 16)).length + 1), (CAST_RESULT_ID 0x10, 0x12), (CAST_RESULT_CODE 0x10, 0)]))
    | _ => false) = true := by decide +kernel

def w_castStage_check : State := { (at_ [(CAST_STAT_STATE 2, 1), (CAST_STAT_ID 2, 0x12), (CAST_STAT_OWNER 2, 0x10), (CAST_ADDR_VALUE 0x10, 0x40100014), (CAST_DATA_VALUE 0x10, 5), (CAST_MASK_VALUE 0x10, 7)]) with cast := { seq := 1 } }

theorem test_castStage_check : ((w_castStage_check.stopSafe = true) ∧ (MayWrite w_castStage_check 0x11 0x40010100) ∧ (capable 0x11 = true) ∧ (w_castStage_check.castCheck 0x11 0x12 false ≠ 0) ∧ (0x12 < 65536)) ∧ (match exec (.castStage 0x11 0x12) w_castStage_check with
    | .next t => decide ((Reads t [(CAST_RESULT_ID 0x11, 0x12), (CAST_RESULT_CODE 0x11, w_castStage_check.castCheck 0x11 0x12 false)]))
    | _ => false) = true := by decide +kernel

def w_castCommit : State := { (at_ [(CAST_STAT_STATE 2, 1), (CAST_STAT_ID 2, 0x12), (CAST_STAT_OWNER 2, 0x10), (CAST_ADDR_VALUE 0x10, 0x40100014), (CAST_DATA_VALUE 0x10, 5), (CAST_MASK_VALUE 0x10, 7)]) with cast := { seq := 1 } }

theorem test_castCommit : ((w_castCommit.stopSafe = true) ∧ (MayWrite w_castCommit 0x10 0x40010100) ∧ (capable 0x10 = true) ∧ (w_castCommit.get (CAST_STAT_STATE (0x12 % 16)) = 1) ∧ (w_castCommit.get (CAST_STAT_ID (0x12 % 16)) = 0x12) ∧ (w_castCommit.get (CAST_STAT_OWNER (0x12 % 16)) = 0x10) ∧ (0x12 < 65536)) ∧ (match exec (.castCommit 0x10 0x12 0) w_castCommit with
    | .next t => decide ((Reads t [(CAST_STAT_STATE (0x12 % 16), 2), (CAST_INFO_WHEN (0x12 % 16), 0), (CAST_RESULT_ID 0x10, 0x12), (CAST_RESULT_CODE 0x10, 0)]) ∧ (t.cast = { w_castCommit.cast with commitAt := w_castCommit.cast.commitAt ++ [(0x12 % 16, w_castCommit.ply + 1)], armedIn := w_castCommit.cast.armedIn ++ [(0x12 % 16, w_castCommit.ply)], order := w_castCommit.cast.order ++ [0x12 % 16] }))
    | _ => false) = true := by decide +kernel

def w_castCommit_event : State := { (at_ [(CAST_STAT_STATE 2, 1), (CAST_STAT_ID 2, 0x12), (CAST_STAT_OWNER 2, 0x10), (CAST_ADDR_VALUE 0x10, 0x40100014), (CAST_DATA_VALUE 0x10, 5), (CAST_MASK_VALUE 0x10, 7)]) with cast := { seq := 1 } }

theorem test_castCommit_event : ((w_castCommit_event.stopSafe = true) ∧ (MayWrite w_castCommit_event 0x10 0x40010100) ∧ (capable 0x10 = true) ∧ (w_castCommit_event.get (CAST_STAT_STATE (0x12 % 16)) = 1) ∧ (w_castCommit_event.get (CAST_STAT_ID (0x12 % 16)) = 0x12) ∧ (w_castCommit_event.get (CAST_STAT_OWNER (0x12 % 16)) = 0x10) ∧ (0x12 < 65536) ∧ (1 = 1 ∨ 1 = 2)) ∧ (match exec (.castCommit 0x10 0x12 1) w_castCommit_event with
    | .next t => decide ((Reads t [(CAST_STAT_STATE (0x12 % 16), 2), (CAST_INFO_WHEN (0x12 % 16), 1), (CAST_RESULT_ID 0x10, 0x12), (CAST_RESULT_CODE 0x10, 0)]) ∧ (t.cast = { w_castCommit_event.cast with armedIn := w_castCommit_event.cast.armedIn ++ [(0x12 % 16, w_castCommit_event.ply)], order := w_castCommit_event.cast.order ++ [0x12 % 16] }))
    | _ => false) = true := by decide +kernel

def w_castCommit_at : State := ({ (at_ [(CAST_STAT_STATE 2, 1), (CAST_STAT_ID 2, 0x12), (CAST_STAT_OWNER 2, 0x10), (CAST_ADDR_VALUE 0x10, 0x40100014), (CAST_DATA_VALUE 0x10, 5), (CAST_MASK_VALUE 0x10, 7)]) with cast := { seq := 1 } } : State).put (CAST_AT_LO_VALUE 0x10) 5

theorem test_castCommit_at : ((w_castCommit_at.stopSafe = true) ∧ (MayWrite w_castCommit_at 0x10 0x40010100) ∧ (capable 0x10 = true) ∧ (w_castCommit_at.get (CAST_STAT_STATE (0x12 % 16)) = 1) ∧ (w_castCommit_at.get (CAST_STAT_ID (0x12 % 16)) = 0x12) ∧ (w_castCommit_at.get (CAST_STAT_OWNER (0x12 % 16)) = 0x10) ∧ (0x12 < 65536) ∧ (5 = w_castCommit_at.get (CAST_AT_LO_VALUE 0x10) + w_castCommit_at.get (CAST_AT_HI_VALUE 0x10) * 2 ^ 32) ∧ (w_castCommit_at.ply < 5)) ∧ (match exec (.castCommit 0x10 0x12 3) w_castCommit_at with
    | .next t => decide ((Reads t [(CAST_STAT_STATE (0x12 % 16), 2), (CAST_INFO_WHEN (0x12 % 16), 3), (CAST_RESULT_ID 0x10, 0x12), (CAST_RESULT_CODE 0x10, 0)]) ∧ (t.cast = { w_castCommit_at.cast with commitAt := w_castCommit_at.cast.commitAt ++ [(0x12 % 16, 5)], armedIn := w_castCommit_at.cast.armedIn ++ [(0x12 % 16, w_castCommit_at.ply)], order := w_castCommit_at.cast.order ++ [0x12 % 16] }))
    | _ => false) = true := by decide +kernel

def w_castCommit_past : State := { (at_ [(CAST_STAT_STATE 2, 1), (CAST_STAT_ID 2, 0x12), (CAST_STAT_OWNER 2, 0x10), (CAST_ADDR_VALUE 0x10, 0x40100014), (CAST_DATA_VALUE 0x10, 5), (CAST_MASK_VALUE 0x10, 7)]) with cast := { seq := 1 } }

theorem test_castCommit_past : ((w_castCommit_past.stopSafe = true) ∧ (MayWrite w_castCommit_past 0x10 0x40010100) ∧ (capable 0x10 = true) ∧ (w_castCommit_past.get (CAST_STAT_STATE (0x12 % 16)) = 1) ∧ (w_castCommit_past.get (CAST_STAT_ID (0x12 % 16)) = 0x12) ∧ (w_castCommit_past.get (CAST_STAT_OWNER (0x12 % 16)) = 0x10) ∧ (0x12 < 65536) ∧ (w_castCommit_past.get (CAST_AT_LO_VALUE 0x10) + w_castCommit_past.get (CAST_AT_HI_VALUE 0x10) * 2 ^ 32 ≤ w_castCommit_past.ply)) ∧ (match exec (.castCommit 0x10 0x12 3) w_castCommit_past with
    | .next t => decide ((Reads t [(CAST_STAT_STATE (0x12 % 16), 4), (CAST_INFO_CAUSE (0x12 % 16), 6), (CAST_RESULT_ID 0x10, 0x12), (CAST_RESULT_CODE 0x10, 0)]) ∧ (t.cast = { w_castCommit_past.cast with entries := w_castCommit_past.cast.entries.filter (fun e => e.1 ≠ (0x12 % 16)), commitAt := w_castCommit_past.cast.commitAt.filter (fun e => e.1 ≠ (0x12 % 16)), armedIn := w_castCommit_past.cast.armedIn.filter (fun e => e.1 ≠ (0x12 % 16)), order := w_castCommit_past.cast.order.filter (· ≠ (0x12 % 16)) }))
    | _ => false) = true := by decide +kernel

def w_castCommit_check : State := { (at_ [(CAST_STAT_STATE 2, 1), (CAST_STAT_ID 2, 0x12), (CAST_STAT_OWNER 2, 0x10), (CAST_ADDR_VALUE 0x10, 0x40100014), (CAST_DATA_VALUE 0x10, 5), (CAST_MASK_VALUE 0x10, 7)]) with cast := { seq := 1 } }

theorem test_castCommit_check : ((w_castCommit_check.stopSafe = true) ∧ (MayWrite w_castCommit_check 0x11 0x40010100) ∧ (capable 0x11 = true) ∧ (w_castCommit_check.castCheck 0x11 0x12 false ≠ 0) ∧ (0x12 < 65536)) ∧ (match exec (.castCommit 0x11 0x12 0) w_castCommit_check with
    | .next t => decide ((Reads t [(CAST_RESULT_ID 0x11, 0x12), (CAST_RESULT_CODE 0x11, w_castCommit_check.castCheck 0x11 0x12 false)]))
    | _ => false) = true := by decide +kernel

def w_castAbort : State := { (at_ [(CAST_STAT_STATE 2, 1), (CAST_STAT_ID 2, 0x12), (CAST_STAT_OWNER 2, 0x10), (CAST_ADDR_VALUE 0x10, 0x40100014), (CAST_DATA_VALUE 0x10, 5), (CAST_MASK_VALUE 0x10, 7)]) with cast := { seq := 1 } }

theorem test_castAbort : ((w_castAbort.stopSafe = true) ∧ (MayWrite w_castAbort 0x10 0x40010100) ∧ (capable 0x10 = true) ∧ (w_castAbort.get (CAST_STAT_STATE (0x12 % 16)) = 1 ∨ w_castAbort.get (CAST_STAT_STATE (0x12 % 16)) = 2) ∧ (w_castAbort.get (CAST_STAT_ID (0x12 % 16)) = 0x12) ∧ (w_castAbort.get (CAST_STAT_OWNER (0x12 % 16)) = 0x10) ∧ (0x12 < 65536)) ∧ (match exec (.castAbort 0x10 0x12) w_castAbort with
    | .next t => decide ((Reads t [(CAST_STAT_STATE (0x12 % 16), 5), (CAST_INFO_CAUSE (0x12 % 16), 0), (CAST_RESULT_ID 0x10, 0x12), (CAST_RESULT_CODE 0x10, 0)]) ∧ (t.cast = { w_castAbort.cast with entries := w_castAbort.cast.entries.filter (fun e => e.1 ≠ (0x12 % 16)), commitAt := w_castAbort.cast.commitAt.filter (fun e => e.1 ≠ (0x12 % 16)), armedIn := w_castAbort.cast.armedIn.filter (fun e => e.1 ≠ (0x12 % 16)), order := w_castAbort.cast.order.filter (· ≠ (0x12 % 16)) }))
    | _ => false) = true := by decide +kernel

def w_castAbort_check : State := { (at_ [(CAST_STAT_STATE 2, 1), (CAST_STAT_ID 2, 0x12), (CAST_STAT_OWNER 2, 0x10), (CAST_ADDR_VALUE 0x10, 0x40100014), (CAST_DATA_VALUE 0x10, 5), (CAST_MASK_VALUE 0x10, 7)]) with cast := { seq := 1 } }

theorem test_castAbort_check : ((w_castAbort_check.stopSafe = true) ∧ (MayWrite w_castAbort_check 0x11 0x40010100) ∧ (capable 0x11 = true) ∧ (w_castAbort_check.castCheck 0x11 0x12 true ≠ 0) ∧ (0x12 < 65536)) ∧ (match exec (.castAbort 0x11 0x12) w_castAbort_check with
    | .next t => decide ((Reads t [(CAST_RESULT_ID 0x11, 0x12), (CAST_RESULT_CODE 0x11, w_castAbort_check.castCheck 0x11 0x12 true)]))
    | _ => false) = true := by decide +kernel

def w_castlingLand_refused : State := { (at_ [(CAST_STAT_STATE 2, 2), (CAST_STAT_ID 2, 0x12), (CAST_STAT_OWNER 2, 0x10)]) with ply := 9, cast := { entries := [(2, ⟨0x40010008, 0x05, 0x07⟩)], commitAt := [(2, 9)], armedIn := [(2, 8)], order := [2] } }

theorem test_castlingLand_refused : ((w_castlingLand_refused.stopSafe = true) ∧ (w_castlingLand_refused.cast.order.filter w_castlingLand_refused.castDue = [2]) ∧ (w_castlingLand_refused.castFail (w_castlingLand_refused.get (CAST_STAT_OWNER 2)) (w_castlingLand_refused.castEntries 2) 0 = some (0, 2)) ∧ (0 < 256)) ∧ (match exec (.castlingLand) w_castlingLand_refused with
    | .next t => decide ((Reads t [(CAST_STAT_STATE 2, 4), (CAST_INFO_CAUSE 2, 2), (CAST_INFO_FAIL_INDEX 2, 0)]) ∧ (t.cast = { w_castlingLand_refused.cast with entries := w_castlingLand_refused.cast.entries.filter (fun e => e.1 ≠ 2), commitAt := w_castlingLand_refused.cast.commitAt.filter (fun e => e.1 ≠ 2), armedIn := w_castlingLand_refused.cast.armedIn.filter (fun e => e.1 ≠ 2), order := w_castlingLand_refused.cast.order.filter (· ≠ 2) }) ∧ (t.evr = (w_castlingLand_refused.record .castRefused (leBytes 2 (w_castlingLand_refused.get (CAST_STAT_ID 2)) ++ [2, 0])).evr))
    | _ => false) = true := by decide +kernel

def w_castlingLand : State := { (at_ [(CAST_STAT_STATE 2, 2), (CAST_STAT_ID 2, 0x12), (CAST_STAT_OWNER 2, 0x10)]) with ply := 9, cast := { entries := [(2, ⟨0x40600010, 0x05, 0x07⟩)], commitAt := [(2, 9)], armedIn := [(2, 8)], order := [2] } }

theorem test_castlingLand : ((w_castlingLand.stopSafe = true) ∧ (w_castlingLand.cast.order.filter w_castlingLand.castDue = [2]) ∧ (w_castlingLand.castFail (w_castlingLand.get (CAST_STAT_OWNER 2)) (w_castlingLand.castEntries 2) 0 = none) ∧ (w_castlingLand.cast.boundaryNow = false)) ∧ (match exec (.castlingLand) w_castlingLand with
    | .next t => decide ((Reads t [(CAST_STAT_STATE 2, 3), (CAST_INFO_CAUSE 2, 0), (CAST_INFO_FAIL_INDEX 2, 0), (SLOT_CTRL_BANK, w_castlingLand.get SLOT_CTRL_BANK)]) ∧ (t.cast = { w_castlingLand.cast with entries := w_castlingLand.cast.entries.filter (fun e => e.1 ≠ 2), commitAt := w_castlingLand.cast.commitAt.filter (fun e => e.1 ≠ 2), armedIn := w_castlingLand.cast.armedIn.filter (fun e => e.1 ≠ 2), order := w_castlingLand.cast.order.filter (· ≠ 2) }))
    | _ => false) = true := by decide +kernel

def w_castlingLand_addend : State := { (at_ [(CAST_STAT_STATE 2, 2), (CAST_STAT_ID 2, 0x12), (CAST_STAT_OWNER 2, 0x10)]) with ply := 9, cast := { entries := [(2, ⟨0x40600010, 0x05, 0x07⟩)], commitAt := [(2, 9)], armedIn := [(2, 8)], order := [2] } }

theorem test_castlingLand_addend : ((w_castlingLand_addend.cast.order.filter w_castlingLand_addend.castDue = [2]) ∧ (w_castlingLand_addend.castEntries 2 = [⟨0x40600010, 5, 7⟩]) ∧ (w_castlingLand_addend.castFail (w_castlingLand_addend.get (CAST_STAT_OWNER 2)) (w_castlingLand_addend.castEntries 2) 0 = none) ∧ (w_castlingLand_addend.wordReserved 105 0 (maskedField TIME_ADDEND_ADDEND (w_castlingLand_addend.get TIME_ADDEND_ADDEND) 5 7) 7 = false)) ∧ (match exec (.castlingLand) w_castlingLand_addend with
    | .next t => decide ((Reads t [(CAST_STAT_STATE 2, 3), (TIME_ADDEND_ADDEND, maskedField TIME_ADDEND_ADDEND (w_castlingLand_addend.get TIME_ADDEND_ADDEND) 5 7)]))
    | _ => false) = true := by decide +kernel

theorem test_semTake : ((wReset.stopSafe = true) ∧ (63 < 64) ∧ (MayWrite wReset 0x1F (0x40010400 + 4 * 63)) ∧ (capable 0x1F = true) ∧ (wReset.bit (SEM_HELD 63) = false) ∧ (wReset.cast.freed.contains 63 = false)) ∧ (match exec (.semTake 0x1F 63) wReset with
    | .next t => decide ((Reads t [(SEM_HELD 63, 1), (SEM_OWNER 63, 0x1F)]))
    | _ => false) = true := by decide +kernel

def w_semTake_freed : State := { wReset with cast := { freed := [7] } }

theorem test_semTake_freed : ((w_semTake_freed.stopSafe = true) ∧ (7 < 64) ∧ (MayWrite w_semTake_freed 0x13 (0x40010400 + 4 * 7)) ∧ (capable 0x13 = true) ∧ (w_semTake_freed.cast.freed.contains 7 = true)) ∧ (match exec (.semTake 0x13 7) w_semTake_freed with
    | .next t => decide ((Reads t [(SEM_HELD 7, w_semTake_freed.get (SEM_HELD 7)), (SEM_OWNER 7, w_semTake_freed.get (SEM_OWNER 7))]))
    | _ => false) = true := by decide +kernel

def w_semTake_held : State := at_ [(SEM_HELD 0, 1), (SEM_OWNER 0, 0x10)]

theorem test_semTake_held : ((w_semTake_held.stopSafe = true) ∧ (0 < 64) ∧ (MayWrite w_semTake_held 0x10 (0x40010400 + 4 * 0)) ∧ (capable 0x10 = true) ∧ (w_semTake_held.bit (SEM_HELD 0) = true)) ∧ (match exec (.semTake 0x10 0) w_semTake_held with
    | .next t => decide ((Reads t [(SEM_HELD 0, w_semTake_held.get (SEM_HELD 0)), (SEM_OWNER 0, w_semTake_held.get (SEM_OWNER 0))]))
    | _ => false) = true := by decide +kernel

def w_semRelease : State := at_ [(SEM_HELD 5, 1), (SEM_OWNER 5, 0x12)]

theorem test_semRelease : ((w_semRelease.stopSafe = true) ∧ (5 < 64) ∧ (MayWrite w_semRelease 0x12 (0x40010400 + 4 * 5)) ∧ (w_semRelease.bit (SEM_HELD 5) = true) ∧ (w_semRelease.get (SEM_OWNER 5) = 0x12)) ∧ (match exec (.semRelease 0x12 5) w_semRelease with
    | .next t => decide ((Reads t [(SEM_HELD 5, 0), (SEM_OWNER 5, 0)]))
    | _ => false) = true := by decide +kernel

def w_semRelease_other : State := at_ [(SEM_HELD 5, 1), (SEM_OWNER 5, 0x12)]

theorem test_semRelease_other : ((w_semRelease_other.stopSafe = true) ∧ (5 < 64) ∧ (MayWrite w_semRelease_other 0x13 (0x40010400 + 4 * 5)) ∧ (w_semRelease_other.bit (SEM_HELD 5) = false ∨ w_semRelease_other.get (SEM_OWNER 5) ≠ 0x13)) ∧ (match exec (.semRelease 0x13 5) w_semRelease_other with
    | .next t => decide ((Reads t [(SEM_BAD_RELEASE 5, 1)]))
    | _ => false) = true := by decide +kernel

def w_registerWrite_semBoth : State := at_ [(SEM_BAD_RELEASE 5, 1)]

theorem test_registerWrite_semBoth : ((w_registerWrite_semBoth.stopSafe = true) ∧ (5 < 64) ∧ (MayWrite w_registerWrite_semBoth 0x13 (0x40010400 + 4 * 5))) ∧ (match exec (.registerWrite 0x13 (0x40010400 + 4 * 5) 3 0) w_registerWrite_semBoth with
    | .next t => decide ((Reads t [(SEM_HELD 5, w_registerWrite_semBoth.get (SEM_HELD 5)), (SEM_OWNER 5, w_registerWrite_semBoth.get (SEM_OWNER 5)), (SEM_BAD_RELEASE 5, w_registerWrite_semBoth.get (SEM_BAD_RELEASE 5)), (SEM_OWNER_RESET 5, w_registerWrite_semBoth.get (SEM_OWNER_RESET 5))]))
    | _ => false) = true := by decide +kernel

theorem test_findReg_wakeTimer : findReg 0x40000808 regRows = some (wTimerRow, 0, 0) := rfl

theorem test_findReg_fwCtrl : findReg 0x40001098 regRows = some (wFwRow, 4, 0) := rfl

theorem test_findReg_castData : findReg 0x40010108 regRows = some (wBankRow, 0, 0) := rfl

theorem test_wordTaken : wReset.wordTaken wTimerRow 0 0 (wReset.mergeWord [WAKE_TIMER_SECONDS] (0x1E % 2 ^ 32) 0xFFFFFFFF) 0xFFFFFFFF = true ∧
    wReset.wordTaken wFwRow 4 0 (wReset.mergeWord [FW_CTRL_LOCK 4, FW_CTRL_EN 4] (0x80000001 % 2 ^ 32) 0xFFFFFFFF) 0xFFFFFFFF = true := by decide +kernel

theorem test_banks : (MayWrite wReset 0x3F 0x40010108 ∧ MayRead wReset 0x3F 0x40010108 ∧ wBankRow.bank ≠ .single ∧ wBankRow.bank.holds 0x3F = false) ∧
    (match exec (.registerWrite 0x3F 0x40010108 5 0) wReset with | .next t => decide (t = wReset) | _ => false) = true ∧
    (match exec (.registerWrite 0x10 0x40010108 5 0) wReset with | .next t => decide (t.get (CAST_DATA_VALUE 0x10) = 5) | _ => false) = true ∧
    (match exec (.registerRead 0x3F 0x40010108 0) wReset with | .next t => decide (t.out = [.regValue 0x3F 0x40010108 0]) | _ => false) = true := by decide +kernel

theorem test_store_and_show : (MayWrite wReset 0x10 0x40000808 ∧ MayRead wReset 0x10 0x40000808 ∧ MayWrite wReset 0x10 0x40001098 ∧ actRegs.contains 6 = false ∧
    actRegs.contains 32 = false ∧ showRegs.contains 6 = false) ∧
    (match exec (.registerWrite 0x10 0x40000808 0x1E 0) wReset with
    | .next t => decide (t.get WAKE_TIMER_SECONDS = 0x1E)
    | _ => false) = true ∧
    (match exec (.lockBitSet 0x10 0x40001098 0x80000001) wReset with
    | .next t => decide (t.bit (FW_CTRL_LOCK 4) = true ∧ t.bit (FW_CTRL_EN 4) = true)
    | _ => false) = true ∧
    (match exec (.registerRead 0x10 0x40000808 0) (at_ [(WAKE_TIMER_SECONDS, 60)]) with
    | .next t => decide (t.out = [.regValue 0x10 0x40000808 60])
    | _ => false) = true := by decide +kernel

def w_plyResolution : State := { wReset with ply := 41, cast := { boundaryNow := true, strobeNow := true } }

theorem test_plyResolution : ((w_plyResolution.rst.held.contains .ply = false) ∧ (w_plyResolution.boot.coldAt = none) ∧ (w_plyResolution.ecp.jobs = [])) ∧ (match exec (.plyResolution 0xFFFF 0 160 0 ([] : List Nat) ([] : List ArbSlot)) w_plyResolution with
    | .next t => decide ((t.ply = w_plyResolution.ply + 1) ∧ (t.cast.boundaryNow = false ∧ t.cast.strobeNow = false ∧ t.cast.freed = []))
    | _ => false) = true := by decide +kernel

def w_plyResolution_held : State := { wReset with rst := { wReset.rst with held := [.ply] } }

theorem test_plyResolution_held : ((w_plyResolution_held.stopSafe = true) ∧ (w_plyResolution_held.rst.held.contains .ply = true)) ∧ (match exec (.plyResolution 0 0 0 3 ([] : List Nat) ([] : List ArbSlot)) w_plyResolution_held with
    | .next t => decide ((t.pwr.aon = w_plyResolution_held.pwr.aon + 3))
    | _ => false) = true := by decide +kernel

theorem test_registerRead_denied : ((wReset.stopSafe = true) ∧ (0x40001018 % 4 = 0) ∧ (wReset.judge 1 0x40001018 false = .denied)) ∧ (match exec (.registerRead 1 0x40001018 0) wReset with
    | .next t => decide ((t.out = wReset.out ++ [.regValue 1 0x40001018 0]) ∧ (Reads t [(FW_STATUS_FW_VIOLATIONS, wReset.adv FW_STATUS_FW_VIOLATIONS)]) ∧ (t.evr = (wReset.record .fwViolation (leBytes 4 0x40001018 ++ [1]) 1).evr))
    | _ => false) = true := by decide +kernel

theorem test_registerWrite_denied : ((wReset.stopSafe = true) ∧ (1 ≠ 0x30) ∧ (0x40001018 % 4 = 0) ∧ (wReset.judge 1 0x40001018 true = .denied)) ∧ (match exec (.registerWrite 1 0x40001018 1 0) wReset with
    | .next t => decide ((Reads t [(FW_STATUS_FW_VIOLATIONS, wReset.adv FW_STATUS_FW_VIOLATIONS)]) ∧ (t.evr = (wReset.record .fwViolation (leBytes 4 0x40001018 ++ [1]) 1).evr))
    | _ => false) = true := by decide +kernel

def w_ecpFrameReceive : State := withSess (at_ [(ECP_CTRL_ETH_EN, 2)])

theorem test_ecpFrameReceive : ((w_ecpFrameReceive.rst.held.contains .sys = false) ∧ (w_ecpFrameReceive.ecpServed 1 (wSess.get ECP_CTRL_UDP_PORT) = true) ∧ (w_ecpFrameReceive.sessFrom { spi := false, port := 1, ip := 0x0A000001, udp := 5000 } = some ({ id := 3, port := 1, ip := 0x0A000001, udp := 5000, devSeq := 7 } : EcpSession)) ∧ (20 ≤ (wNop : List Nat).length) ∧ (leAt (wNop : List Nat) 0 2 = 0x4543) ∧ ((wNop : List Nat).length = frameSize (wNop : List Nat)) ∧ (({ id := 3, port := 1, ip := 0x0A000001, udp := 5000, devSeq := 7 } : EcpSession).auth = false) ∧ (bitOf (leAt (wNop : List Nat) 3 1) 1 = false) ∧ (leAt (wNop : List Nat) (16 + leAt (wNop : List Nat) 10 2) 4 = crc32c ((wNop : List Nat).take (16 + leAt (wNop : List Nat) 10 2))) ∧ (leAt (wNop : List Nat) 2 1 = 1) ∧ (leAt (wNop : List Nat) 10 2 ≤ 1408) ∧ (w_ecpFrameReceive.session ({ id := 3, port := 1, ip := 0x0A000001, udp := 5000, devSeq := 7 } : EcpSession).id = some ({ id := 3, port := 1, ip := 0x0A000001, udp := 5000, devSeq := 7 } : EcpSession)) ∧ (leAt (wNop : List Nat) 4 2 = 0x0100) ∧ (w_ecpFrameReceive.accepts 0x0100 ({ id := 3, port := 1, ip := 0x0A000001, udp := 5000, devSeq := 7 } : EcpSession).id (leAt (wNop : List Nat) 6 2) false = true)) ∧ (match exec (.ecpFrameReceive false 1 0x0A000001 5000 (wSess.get ECP_CTRL_UDP_PORT) false (wNop : List Nat) 0 (none : Option (List Nat)) true (none : Option (Bool × Nat × Nat))) w_ecpFrameReceive with
    | .next t => decide ((answers w_ecpFrameReceive t [] 0x0100 ({ id := 3, port := 1, ip := 0x0A000001, udp := 5000, devSeq := 7 } : EcpSession).id (leAt (wNop : List Nat) 6 2) Ecp.OK 0 (((wNop : List Nat).drop 16).take (leAt (wNop : List Nat) 10 2)) = true))
    | _ => false) = true := by decide +kernel

def w_spiWriteFrame : State := at_ [(ECP_CTRL_SPI_EN, 1)]

theorem test_spiWriteFrame : ((w_spiWriteFrame.stopSafe = true) ∧ (w_spiWriteFrame.bit ECP_CTRL_SPI_EN = true) ∧ ((wNop : List Nat).length = frameSize (wNop : List Nat)) ∧ (w_spiWriteFrame.ecp.spiRx.length < 4)) ∧ (match exec (.spiWriteFrame (wNop : List Nat)) w_spiWriteFrame with
    | .next t => decide ((t.ecp = { w_spiWriteFrame.ecp with spiRx := w_spiWriteFrame.ecp.spiRx ++ [(wNop : List Nat)] }))
    | _ => false) = true := by decide +kernel

def w_spiWriteFrame_overrun : State := { (at_ [(ECP_CTRL_SPI_EN, 1)]) with ecp := { spiRx := [[1], [2], [3], [4]] } }

theorem test_spiWriteFrame_overrun : ((w_spiWriteFrame_overrun.stopSafe = true) ∧ (w_spiWriteFrame_overrun.bit ECP_CTRL_SPI_EN = true) ∧ (4 ≤ w_spiWriteFrame_overrun.ecp.spiRx.length)) ∧ (match exec (.spiWriteFrame (wNop : List Nat)) w_spiWriteFrame_overrun with
    | .next t => decide ((t.ecp = { w_spiWriteFrame_overrun.ecp with spiOverrun := true }) ∧ (Reads t [(ECP_CNT_A_DROP_FRAME, w_spiWriteFrame_overrun.adv ECP_CNT_A_DROP_FRAME)]))
    | _ => false) = true := by decide +kernel

def w_spiReadStatus : State := { (at_ [(ECP_CTRL_SPI_EN, 1)]) with ecp := { spiOut := [⟨0x0100, 1, 0, 1, 1, [5], []⟩], spiOverrun := true } }

theorem test_spiReadStatus : ((w_spiReadStatus.stopSafe = true) ∧ (w_spiReadStatus.bit ECP_CTRL_SPI_EN = true)) ∧ (match exec (.spiReadStatus) w_spiReadStatus with
    | .next t => decide ((t.out = w_spiReadStatus.out ++ [.spi (leBytes 2 ((w_spiReadStatus.ecp.spiOut.head?.map EcpFrame.size).getD 0) ++ [b2n (w_spiReadStatus.ecp.spiRx.length < 4) + 2 * b2n w_spiReadStatus.ecp.spiOverrun, 0])]) ∧ (t.ecp = { w_spiReadStatus.ecp with spiOverrun := false }))
    | _ => false) = true := by decide +kernel

def w_spiReadFrame : State := { (at_ [(ECP_CTRL_SPI_EN, 1)]) with ecp := { spiOut := [⟨0x0100, 1, 0, 1, 1, [5], []⟩], spiOverrun := true } }

theorem test_spiReadFrame : ((w_spiReadFrame.stopSafe = true) ∧ (w_spiReadFrame.bit ECP_CTRL_SPI_EN = true) ∧ (w_spiReadFrame.ecp.spiOut = (⟨0x0100, 1, 0, 1, 1, [5], []⟩ : EcpFrame) :: ([] : List EcpFrame)) ∧ ((⟨0x0100, 1, 0, 1, 1, [5], []⟩ : EcpFrame).size ≤ 21)) ∧ (match exec (.spiReadFrame 21) w_spiReadFrame with
    | .next t => decide ((t.out = w_spiReadFrame.out ++ [.spi ((⟨0x0100, 1, 0, 1, 1, [5], []⟩ : EcpFrame).wire.take 21 ++ List.replicate (21 - (⟨0x0100, 1, 0, 1, 1, [5], []⟩ : EcpFrame).wire.length) 0)]) ∧ (t.ecp = { w_spiReadFrame.ecp with spiOut := ([] : List EcpFrame) }))
    | _ => false) = true := by decide +kernel

def w_spiReadFrame_short : State := { (at_ [(ECP_CTRL_SPI_EN, 1)]) with ecp := { spiOut := [⟨0x0100, 1, 0, 1, 1, [5], []⟩], spiOverrun := true } }

theorem test_spiReadFrame_short : ((w_spiReadFrame_short.stopSafe = true) ∧ (w_spiReadFrame_short.bit ECP_CTRL_SPI_EN = true) ∧ (w_spiReadFrame_short.ecp.spiOut = (⟨0x0100, 1, 0, 1, 1, [5], []⟩ : EcpFrame) :: ([] : List EcpFrame)) ∧ (7 < (⟨0x0100, 1, 0, 1, 1, [5], []⟩ : EcpFrame).size)) ∧ (match exec (.spiReadFrame 7) w_spiReadFrame_short with
    | .next t => decide ((t.out = w_spiReadFrame_short.out ++ [.spi ((⟨0x0100, 1, 0, 1, 1, [5], []⟩ : EcpFrame).wire.take 7 ++ List.replicate (7 - (⟨0x0100, 1, 0, 1, 1, [5], []⟩ : EcpFrame).wire.length) 0)]))
    | _ => false) = true := by decide +kernel

def w_spiReadFrame_empty : State := at_ [(ECP_CTRL_SPI_EN, 1)]

theorem test_spiReadFrame_empty : ((w_spiReadFrame_empty.stopSafe = true) ∧ (w_spiReadFrame_empty.bit ECP_CTRL_SPI_EN = true) ∧ (w_spiReadFrame_empty.ecp.spiOut = [])) ∧ (match exec (.spiReadFrame 3) w_spiReadFrame_empty with
    | .next t => decide ((t.out = w_spiReadFrame_empty.out ++ [.spi (List.replicate 3 0)]))
    | _ => false) = true := by decide +kernel

theorem test_ecpFrame_spi : (wSess.rst.held.contains .sys = false ∧ 20 ≤ wNop.length ∧ leAt wNop 0 2 = 0x4543 ∧ wNop.length = frameSize wNop ∧ bitOf (leAt wNop 3 1) 1 = false ∧
    leAt wNop (16 + leAt wNop 10 2) 4 = crc32c (wNop.take (16 + leAt wNop 10 2)) ∧ leAt wNop 2 1 = 1 ∧ wSess.session 8 = some ({ id := 8 } : EcpSession)) ∧
    (match exec (.ecpFrameReceive true 0 0 0 0 false [] 0 none true none) { wSess with ecp := { wSess.ecp with spiRx := [wNop] } } with
    | .next t => decide (t.ecp.spiRx = [] ∧ t.ecp.spiOut = [⟨0x0100, 9, 0, 1, 1, [], []⟩])
    | _ => false) = true := by decide +kernel

theorem test_nop : ((wSess.stopSafe = true) ∧ (wSess.accepts 0x0100 3 9 false = true) ∧ (([7, 8] : List Nat).length ≤ 1408)) ∧ (match exec (.nop 3 9 ([7, 8] : List Nat)) wSess with
    | .next t => decide ((answers wSess t [] 0x0100 3 9 Ecp.OK (crc32c ([7, 8] : List Nat)) ([7, 8] : List Nat) = true))
    | _ => false) = true := by decide +kernel

theorem test_status : ((wSess.stopSafe = true) ∧ (wSess.accepts 0x0101 3 9 false = true)) ∧ (match exec (.status 3 9) wSess with
    | .next t => decide ((answers wSess t [] 0x0101 3 9 Ecp.OK (crc32c []) wSess.statusBytes = true))
    | _ => false) = true := by decide +kernel

theorem test_sessionOpen : ((wSess.accepts 0x0102 3 9 false = true) ∧ (wSess.session 3 = some ({ id := 3, port := 1, ip := 0x0A000001, udp := 5000, devSeq := 7 } : EcpSession)) ∧ ((List.replicate 20 0 : List Nat).length = 20) ∧ (leAt (List.replicate 20 0 : List Nat) 2 1 = 0) ∧ (wSess.bit KS_STATUS_TRNG_FAIL = false)) ∧ (match exec (.sessionOpen 3 9 (List.replicate 20 0 : List Nat)) wSess with
    | .next t => decide (((t.session 3).any (fun y => !y.auth && y.devSeq == 1 && y.streams.isEmpty && y.inProg.isEmpty && y.port == ({ id := 3, port := 1, ip := 0x0A000001, udp := 5000, devSeq := 7 } : EcpSession).port && y.ip == ({ id := 3, port := 1, ip := 0x0A000001, udp := 5000, devSeq := 7 } : EcpSession).ip && y.udp == ({ id := 3, port := 1, ip := 0x0A000001, udp := 5000, devSeq := 7 } : EcpSession).udp) = true))
    | _ => false) = true := by decide +kernel

def w_sessionOpen_auth : State := withSess wEcpKey

theorem test_sessionOpen_auth : (w_sessionOpen_auth.accepts 0x0102 3 9 false = true) ∧ (w_sessionOpen_auth.session 3 = some ({ id := 3, port := 1, ip := 0x0A000001, udp := 5000, devSeq := 7 } : EcpSession)) ∧ (([5, 0, 1] ++ List.replicate 17 0 : List Nat).length = 20) ∧ (leAt ([5, 0, 1] ++ List.replicate 17 0 : List Nat) 2 1 = 1) ∧ (w_sessionOpen_auth.ecpKeyStatus (leAt ([5, 0, 1] ++ List.replicate 17 0 : List Nat) 0 2) = Ecp.OK) ∧ (w_sessionOpen_auth.bit KS_STATUS_TRNG_FAIL = false) := by decide +kernel

theorem test_sessionClose : ((wSess.accepts 0x0103 3 9 false = true) ∧ (wSess.session 3 = some ({ id := 3, port := 1, ip := 0x0A000001, udp := 5000, devSeq := 7 } : EcpSession)) ∧ (wSess.ecp.closing = none)) ∧ (match exec (.sessionClose 3 9) wSess with
    | .next t => decide ((t.ecp.sessions = wSess.ecp.sessions.filter (fun z => z.id ≠ 3)) ∧ (sends wSess t ({ id := 3, port := 1, ip := 0x0A000001, udp := 5000, devSeq := 7 } : EcpSession) [] [⟨0x0103, 9, Ecp.OK, respFlags ({ id := 3, port := 1, ip := 0x0A000001, udp := 5000, devSeq := 7 } : EcpSession), ({ id := 3, port := 1, ip := 0x0A000001, udp := 5000, devSeq := 7 } : EcpSession).devSeq + 1, [], ({ id := 3, port := 1, ip := 0x0A000001, udp := 5000, devSeq := 7 } : EcpSession).key⟩] = true))
    | _ => false) = true := by decide +kernel

def w_sessionIdleTimeout : State := { wSess with ply := 6000000 }

theorem test_sessionIdleTimeout : ((w_sessionIdleTimeout.stopSafe = true) ∧ (w_sessionIdleTimeout.session 8 = some ({ id := 8 } : EcpSession)) ∧ (({ id := 8 } : EcpSession).lastAt + 6000000 ≤ w_sessionIdleTimeout.ply)) ∧ (match exec (.sessionIdleTimeout 8) w_sessionIdleTimeout with
    | .next t => decide ((t.ecp = { w_sessionIdleTimeout.ecp with sessions := w_sessionIdleTimeout.ecp.sessions.filter (fun z => z.id ≠ 8), jobs := t.ecp.jobs }))
    | _ => false) = true := by decide +kernel

theorem test_ecpReset : ((wSess.stopSafe = true) ∧ (wSess.accepts 0x0104 3 9 false = true)) ∧ (match exec (.ecpReset 3 9) wSess with
    | .next t => decide ((answers wSess t [] 0x0104 3 9 Ecp.OK (crc32c []) [] = true) ∧ (t.ecp.resetPending = some wSess.ply))
    | _ => false) = true := by decide +kernel

def w_hostSysAssert : State := { wReset with ply := 300, ecp := { resetPending := some 200 } }

theorem test_hostSysAssert : ((w_hostSysAssert.ecp.resetPending = some 200) ∧ (200 + 100 ≤ w_hostSysAssert.ply)) ∧ (match exec (.hostSysAssert) w_hostSysAssert with
    | .next t => decide ((Asserted 13 t))
    | _ => false) = true := by decide +kernel

def w_night : State := withSess (at_ [(CLK_STATUS_AON_XTAL_OK, 1)])

theorem test_night : ((w_night.stopSafe = true) ∧ (w_night.accepts 0x0105 3 9 false = true) ∧ (w_night.bit ROOK_STATE_STOP = true) ∧ (w_night.bit CLK_STATUS_AON_XTAL_OK = true)) ∧ (match exec (.night 3 9) w_night with
    | .next t => decide ((answers w_night t [] 0x0105 3 9 Ecp.OK (crc32c []) [] = true))
    | _ => false) = true := by decide +kernel

def w_night_denied : State := withSess (at_ [(CLK_STATUS_AON_XTAL_OK, 0)])

theorem test_night_denied : ((w_night_denied.stopSafe = true) ∧ (w_night_denied.accepts 0x0105 3 9 false = true) ∧ ((w_night_denied.bit ROOK_STATE_STOP && w_night_denied.bit CLK_STATUS_AON_XTAL_OK) = false)) ∧ (match exec (.night 3 9) w_night_denied with
    | .next t => decide ((answers w_night_denied t [] 0x0105 3 9 Ecp.DENIED (crc32c []) [] = true))
    | _ => false) = true := by decide +kernel

def w_resultGet : State := withSess0 { id := 3, port := 1, ip := 0x0A000001, udp := 5000, devSeq := 7, held := [{ tag := 4, op := 0x0300, crc := 1, status := 0, payload := [1] }] } State.reset

theorem test_resultGet : ((w_resultGet.session 3 = some ({ id := 3, port := 1, ip := 0x0A000001, udp := 5000, devSeq := 7, held := [{ tag := 4, op := 0x0300, crc := 1, status := 0, payload := [1] }] } : EcpSession)) ∧ (w_resultGet.bit ECP_CTRL_AUTH_REQ = false ∨ ({ id := 3, port := 1, ip := 0x0A000001, udp := 5000, devSeq := 7, held := [{ tag := 4, op := 0x0300, crc := 1, status := 0, payload := [1] }] } : EcpSession).auth = true) ∧ (w_resultGet.inProgFull ({ id := 3, port := 1, ip := 0x0A000001, udp := 5000, devSeq := 7, held := [{ tag := 4, op := 0x0300, crc := 1, status := 0, payload := [1] }] } : EcpSession) = false) ∧ (w_resultGet.sessSends ({ id := 3, port := 1, ip := 0x0A000001, udp := 5000, devSeq := 7, held := [{ tag := 4, op := 0x0300, crc := 1, status := 0, payload := [1] }] } : EcpSession) = true) ∧ (({ id := 3, port := 1, ip := 0x0A000001, udp := 5000, devSeq := 7, held := [{ tag := 4, op := 0x0300, crc := 1, status := 0, payload := [1] }] } : EcpSession).devSeq < 0xFFFFFFFF) ∧ (3 = 8 → w_resultGet.ecp.spiOut.length < 16) ∧ (({ id := 3, port := 1, ip := 0x0A000001, udp := 5000, devSeq := 7, held := [{ tag := 4, op := 0x0300, crc := 1, status := 0, payload := [1] }] } : EcpSession).inProg.find? (fun z => z.tag == 4) = none) ∧ (({ id := 3, port := 1, ip := 0x0A000001, udp := 5000, devSeq := 7, held := [{ tag := 4, op := 0x0300, crc := 1, status := 0, payload := [1] }] } : EcpSession).held.find? (fun z => z.tag == 4) = some ({ tag := 4, op := 0x0300, crc := 1, status := 0, payload := [1] } : EcpHeld)) ∧ (heldStatus ({ tag := 4, op := 0x0300, crc := 1, status := 0, payload := [1] } : EcpHeld).status = true)) ∧ (match exec (.resultGet 3 4) w_resultGet with
    | .next t => decide ((sends w_resultGet t ({ id := 3, port := 1, ip := 0x0A000001, udp := 5000, devSeq := 7, held := [{ tag := 4, op := 0x0300, crc := 1, status := 0, payload := [1] }] } : EcpSession) [] [⟨({ tag := 4, op := 0x0300, crc := 1, status := 0, payload := [1] } : EcpHeld).op, 4, ({ tag := 4, op := 0x0300, crc := 1, status := 0, payload := [1] } : EcpHeld).status, respFlags ({ id := 3, port := 1, ip := 0x0A000001, udp := 5000, devSeq := 7, held := [{ tag := 4, op := 0x0300, crc := 1, status := 0, payload := [1] }] } : EcpSession) + (if ({ tag := 4, op := 0x0300, crc := 1, status := 0, payload := [1] } : EcpHeld).sent then 4 else 0), ({ id := 3, port := 1, ip := 0x0A000001, udp := 5000, devSeq := 7, held := [{ tag := 4, op := 0x0300, crc := 1, status := 0, payload := [1] }] } : EcpSession).devSeq + 1, ({ tag := 4, op := 0x0300, crc := 1, status := 0, payload := [1] } : EcpHeld).payload, ({ id := 3, port := 1, ip := 0x0A000001, udp := 5000, devSeq := 7, held := [{ tag := 4, op := 0x0300, crc := 1, status := 0, payload := [1] }] } : EcpSession).key⟩] = true) ∧ (t.session 3 = some { ({ id := 3, port := 1, ip := 0x0A000001, udp := 5000, devSeq := 7, held := [{ tag := 4, op := 0x0300, crc := 1, status := 0, payload := [1] }] } : EcpSession) with devSeq := ({ id := 3, port := 1, ip := 0x0A000001, udp := 5000, devSeq := 7, held := [{ tag := 4, op := 0x0300, crc := 1, status := 0, payload := [1] }] } : EcpSession).devSeq + 1, held := ({ id := 3, port := 1, ip := 0x0A000001, udp := 5000, devSeq := 7, held := [{ tag := 4, op := 0x0300, crc := 1, status := 0, payload := [1] }] } : EcpSession).held.map (fun z => if z.tag == 4 then { z with sent := true } else z) }))
    | _ => false) = true := by decide +kernel

def w_resultGet_open : State := withSess0 { id := 3, port := 1, ip := 0x0A000001, udp := 5000, devSeq := 7, inProg := [{ tag := 4, op := 0x0300, crc := 1 }] } State.reset

theorem test_resultGet_open : ((w_resultGet_open.session 3 = some ({ id := 3, port := 1, ip := 0x0A000001, udp := 5000, devSeq := 7, inProg := [{ tag := 4, op := 0x0300, crc := 1 }] } : EcpSession)) ∧ (w_resultGet_open.bit ECP_CTRL_AUTH_REQ = false ∨ ({ id := 3, port := 1, ip := 0x0A000001, udp := 5000, devSeq := 7, inProg := [{ tag := 4, op := 0x0300, crc := 1 }] } : EcpSession).auth = true) ∧ (w_resultGet_open.inProgFull ({ id := 3, port := 1, ip := 0x0A000001, udp := 5000, devSeq := 7, inProg := [{ tag := 4, op := 0x0300, crc := 1 }] } : EcpSession) = false) ∧ (w_resultGet_open.sessSends ({ id := 3, port := 1, ip := 0x0A000001, udp := 5000, devSeq := 7, inProg := [{ tag := 4, op := 0x0300, crc := 1 }] } : EcpSession) = true) ∧ (({ id := 3, port := 1, ip := 0x0A000001, udp := 5000, devSeq := 7, inProg := [{ tag := 4, op := 0x0300, crc := 1 }] } : EcpSession).devSeq < 0xFFFFFFFF) ∧ (3 = 8 → w_resultGet_open.ecp.spiOut.length < 16) ∧ (({ id := 3, port := 1, ip := 0x0A000001, udp := 5000, devSeq := 7, inProg := [{ tag := 4, op := 0x0300, crc := 1 }] } : EcpSession).inProg.find? (fun z => z.tag == 4) = some ({ tag := 4, op := 0x0300, crc := 1 } : EcpOpen))) ∧ (match exec (.resultGet 3 4) w_resultGet_open with
    | .next t => decide ((sends w_resultGet_open t ({ id := 3, port := 1, ip := 0x0A000001, udp := 5000, devSeq := 7, inProg := [{ tag := 4, op := 0x0300, crc := 1 }] } : EcpSession) [] [⟨({ tag := 4, op := 0x0300, crc := 1 } : EcpOpen).op, 4, Ecp.IN_PROGRESS, respFlags ({ id := 3, port := 1, ip := 0x0A000001, udp := 5000, devSeq := 7, inProg := [{ tag := 4, op := 0x0300, crc := 1 }] } : EcpSession), ({ id := 3, port := 1, ip := 0x0A000001, udp := 5000, devSeq := 7, inProg := [{ tag := 4, op := 0x0300, crc := 1 }] } : EcpSession).devSeq + 1, w_resultGet_open.progressBytes 3 4, ({ id := 3, port := 1, ip := 0x0A000001, udp := 5000, devSeq := 7, inProg := [{ tag := 4, op := 0x0300, crc := 1 }] } : EcpSession).key⟩] = true) ∧ (t.session 3 = some { ({ id := 3, port := 1, ip := 0x0A000001, udp := 5000, devSeq := 7, inProg := [{ tag := 4, op := 0x0300, crc := 1 }] } : EcpSession) with devSeq := ({ id := 3, port := 1, ip := 0x0A000001, udp := 5000, devSeq := 7, inProg := [{ tag := 4, op := 0x0300, crc := 1 }] } : EcpSession).devSeq + 1 }))
    | _ => false) = true := by decide +kernel

def w_resultGet_unknown : State := withSess0 { id := 3, port := 1, ip := 0x0A000001, udp := 5000, devSeq := 7, held := [{ tag := 4, op := 0x0300, crc := 1, status := 0, payload := [1] }] } State.reset

theorem test_resultGet_unknown : ((w_resultGet_unknown.session 3 = some ({ id := 3, port := 1, ip := 0x0A000001, udp := 5000, devSeq := 7, held := [{ tag := 4, op := 0x0300, crc := 1, status := 0, payload := [1] }] } : EcpSession)) ∧ (w_resultGet_unknown.bit ECP_CTRL_AUTH_REQ = false ∨ ({ id := 3, port := 1, ip := 0x0A000001, udp := 5000, devSeq := 7, held := [{ tag := 4, op := 0x0300, crc := 1, status := 0, payload := [1] }] } : EcpSession).auth = true) ∧ (w_resultGet_unknown.inProgFull ({ id := 3, port := 1, ip := 0x0A000001, udp := 5000, devSeq := 7, held := [{ tag := 4, op := 0x0300, crc := 1, status := 0, payload := [1] }] } : EcpSession) = false) ∧ (w_resultGet_unknown.sessSends ({ id := 3, port := 1, ip := 0x0A000001, udp := 5000, devSeq := 7, held := [{ tag := 4, op := 0x0300, crc := 1, status := 0, payload := [1] }] } : EcpSession) = true) ∧ (({ id := 3, port := 1, ip := 0x0A000001, udp := 5000, devSeq := 7, held := [{ tag := 4, op := 0x0300, crc := 1, status := 0, payload := [1] }] } : EcpSession).devSeq < 0xFFFFFFFF) ∧ (3 = 8 → w_resultGet_unknown.ecp.spiOut.length < 16) ∧ (({ id := 3, port := 1, ip := 0x0A000001, udp := 5000, devSeq := 7, held := [{ tag := 4, op := 0x0300, crc := 1, status := 0, payload := [1] }] } : EcpSession).inProg.find? (fun z => z.tag == 5) = none) ∧ (({ id := 3, port := 1, ip := 0x0A000001, udp := 5000, devSeq := 7, held := [{ tag := 4, op := 0x0300, crc := 1, status := 0, payload := [1] }] } : EcpSession).held.find? (fun z => z.tag == 5) = none)) ∧ (match exec (.resultGet 3 5) w_resultGet_unknown with
    | .next t => decide ((sends w_resultGet_unknown t ({ id := 3, port := 1, ip := 0x0A000001, udp := 5000, devSeq := 7, held := [{ tag := 4, op := 0x0300, crc := 1, status := 0, payload := [1] }] } : EcpSession) [] [⟨0x0106, 5, Ecp.UNKNOWN_TAG, respFlags ({ id := 3, port := 1, ip := 0x0A000001, udp := 5000, devSeq := 7, held := [{ tag := 4, op := 0x0300, crc := 1, status := 0, payload := [1] }] } : EcpSession), ({ id := 3, port := 1, ip := 0x0A000001, udp := 5000, devSeq := 7, held := [{ tag := 4, op := 0x0300, crc := 1, status := 0, payload := [1] }] } : EcpSession).devSeq + 1, [], ({ id := 3, port := 1, ip := 0x0A000001, udp := 5000, devSeq := 7, held := [{ tag := 4, op := 0x0300, crc := 1, status := 0, payload := [1] }] } : EcpSession).key⟩] = true) ∧ (t.session 3 = some { ({ id := 3, port := 1, ip := 0x0A000001, udp := 5000, devSeq := 7, held := [{ tag := 4, op := 0x0300, crc := 1, status := 0, payload := [1] }] } : EcpSession) with devSeq := ({ id := 3, port := 1, ip := 0x0A000001, udp := 5000, devSeq := 7, held := [{ tag := 4, op := 0x0300, crc := 1, status := 0, payload := [1] }] } : EcpSession).devSeq + 1 }))
    | _ => false) = true := by decide +kernel

def w_tagRetire : State := withSess0 { id := 3, port := 1, ip := 0x0A000001, udp := 5000, devSeq := 7, held := [{ tag := 4, op := 0x0300, crc := 1, status := 0, payload := [1] }] } State.reset

theorem test_tagRetire : ((w_tagRetire.accepts 0x0107 3 9 false = true) ∧ (w_tagRetire.session 3 = some ({ id := 3, port := 1, ip := 0x0A000001, udp := 5000, devSeq := 7, held := [{ tag := 4, op := 0x0300, crc := 1, status := 0, payload := [1] }] } : EcpSession)) ∧ (1 = leAt ([1, 0, 4, 0] : List Nat) 0 2) ∧ (1 ≤ 1) ∧ (1 ≤ 64) ∧ (([1, 0, 4, 0] : List Nat).length = 2 + 2 * 1)) ∧ (match exec (.tagRetire 3 9 ([1, 0, 4, 0] : List Nat)) w_tagRetire with
    | .next t => decide (((t.session 3).map (fun (y : EcpSession) => y.held) = some (({ id := 3, port := 1, ip := 0x0A000001, udp := 5000, devSeq := 7, held := [{ tag := 4, op := 0x0300, crc := 1, status := 0, payload := [1] }] } : EcpSession).held.filter (fun h => !(((List.range 1).map (fun k => leAt ([1, 0, 4, 0] : List Nat) (2 + 2 * k) 2)).contains h.tag && !({ id := 3, port := 1, ip := 0x0A000001, udp := 5000, devSeq := 7, held := [{ tag := 4, op := 0x0300, crc := 1, status := 0, payload := [1] }] } : EcpSession).inProg.any (fun z => z.tag == h.tag))))) ∧ (sends w_tagRetire t ({ id := 3, port := 1, ip := 0x0A000001, udp := 5000, devSeq := 7, held := [{ tag := 4, op := 0x0300, crc := 1, status := 0, payload := [1] }] } : EcpSession) [] [⟨0x0107, 9, Ecp.OK, respFlags ({ id := 3, port := 1, ip := 0x0A000001, udp := 5000, devSeq := 7, held := [{ tag := 4, op := 0x0300, crc := 1, status := 0, payload := [1] }] } : EcpSession), ({ id := 3, port := 1, ip := 0x0A000001, udp := 5000, devSeq := 7, held := [{ tag := 4, op := 0x0300, crc := 1, status := 0, payload := [1] }] } : EcpSession).devSeq + 1, leBytes 2 (retireTags ((List.range 1).map (fun k => leAt ([1, 0, 4, 0] : List Nat) (2 + 2 * k) 2)) ({ id := 3, port := 1, ip := 0x0A000001, udp := 5000, devSeq := 7, held := [{ tag := 4, op := 0x0300, crc := 1, status := 0, payload := [1] }] } : EcpSession) 0 0).2.1 ++ leBytes 2 (retireTags ((List.range 1).map (fun k => leAt ([1, 0, 4, 0] : List Nat) (2 + 2 * k) 2)) ({ id := 3, port := 1, ip := 0x0A000001, udp := 5000, devSeq := 7, held := [{ tag := 4, op := 0x0300, crc := 1, status := 0, payload := [1] }] } : EcpSession) 0 0).2.2, ({ id := 3, port := 1, ip := 0x0A000001, udp := 5000, devSeq := 7, held := [{ tag := 4, op := 0x0300, crc := 1, status := 0, payload := [1] }] } : EcpSession).key⟩] = true))
    | _ => false) = true := by decide +kernel

theorem test_streamOpen : ((wSess.stopSafe = true) ∧ (wSess.accepts 0x0F10 3 9 false = true) ∧ (1 ≤ 3) ∧ (3 ≤ 5) ∧ (wSess.session 3 = some ({ id := 3, port := 1, ip := 0x0A000001, udp := 5000, devSeq := 7 } : EcpSession)) ∧ (({ id := 3, port := 1, ip := 0x0A000001, udp := 5000, devSeq := 7 } : EcpSession).streams.length < 8) ∧ (wSess.streamCount < 16)) ∧ (match exec (.streamOpen 3 9 ([3, 0, 0, 0, 0, 0])) wSess with
    | .next t => decide ((answers wSess t [] 0x0F10 3 9 Ecp.OK (crc32c [3, 0, 0, 0, 0, 0]) [freeStreamId ({ id := 3, port := 1, ip := 0x0A000001, udp := 5000, devSeq := 7 } : EcpSession), 0, 0, 0] = true) ∧ ((t.session 3).map (fun (y : EcpSession) => y.streams) = some (({ id := 3, port := 1, ip := 0x0A000001, udp := 5000, devSeq := 7 } : EcpSession).streams ++ [{ id := freeStreamId ({ id := 3, port := 1, ip := 0x0A000001, udp := 5000, devSeq := 7 } : EcpSession), typ := 3, param := 0 }])))
    | _ => false) = true := by decide +kernel

def w_streamClose : State := withSess0 { id := 3, port := 1, ip := 0x0A000001, udp := 5000, devSeq := 7, streams := [{ id := 2, typ := 1, param := 0, seq := 5, queue := [⟨4, [1], some 2⟩, ⟨5, [2], some 9⟩, ⟨6, [2], none⟩] }] } State.reset

theorem test_streamClose : ((w_streamClose.stopSafe = true) ∧ (w_streamClose.accepts 0x0F11 3 9 false = true) ∧ (2 < 256) ∧ (w_streamClose.session 3 = some ({ id := 3, port := 1, ip := 0x0A000001, udp := 5000, devSeq := 7, streams := [{ id := 2, typ := 1, param := 0, seq := 5, queue := [⟨4, [1], some 2⟩, ⟨5, [2], some 9⟩, ⟨6, [2], none⟩] }] } : EcpSession)) ∧ (({ id := 3, port := 1, ip := 0x0A000001, udp := 5000, devSeq := 7, streams := [{ id := 2, typ := 1, param := 0, seq := 5, queue := [⟨4, [1], some 2⟩, ⟨5, [2], some 9⟩, ⟨6, [2], none⟩] }] } : EcpSession).streams.any (fun u => u.id == 2) = true)) ∧ (match exec (.streamClose 3 9 ([2, 0, 0, 0])) w_streamClose with
    | .next t => decide ((answers w_streamClose t [] 0x0F11 3 9 Ecp.OK (crc32c [2, 0, 0, 0]) [] = true) ∧ ((t.session 3).map (fun (y : EcpSession) => y.streams) = some (({ id := 3, port := 1, ip := 0x0A000001, udp := 5000, devSeq := 7, streams := [{ id := 2, typ := 1, param := 0, seq := 5, queue := [⟨4, [1], some 2⟩, ⟨5, [2], some 9⟩, ⟨6, [2], none⟩] }] } : EcpSession).streams.filter (fun u => u.id ≠ 2))))
    | _ => false) = true := by decide +kernel

def w_requestFinalResponse : State := withSess0 { id := 3, port := 1, ip := 0x0A000001, udp := 5000, devSeq := 7, inProg := [{ tag := 4, op := 0x0300, crc := 1 }] } State.reset

theorem test_requestFinalResponse : ((w_requestFinalResponse.stopSafe = true) ∧ (w_requestFinalResponse.session 3 = some ({ id := 3, port := 1, ip := 0x0A000001, udp := 5000, devSeq := 7, inProg := [{ tag := 4, op := 0x0300, crc := 1 }] } : EcpSession)) ∧ (({ id := 3, port := 1, ip := 0x0A000001, udp := 5000, devSeq := 7, inProg := [{ tag := 4, op := 0x0300, crc := 1 }] } : EcpSession).inProg.find? (fun z => z.tag == 4) = some ({ tag := 4, op := 0x0300, crc := 1 } : EcpOpen)) ∧ (heldStatus 0 = true) ∧ (0 ≠ Ecp.INTERNAL_ERROR) ∧ (unheldOp ({ tag := 4, op := 0x0300, crc := 1 } : EcpOpen).op = false) ∧ (w_requestFinalResponse.sessSends ({ id := 3, port := 1, ip := 0x0A000001, udp := 5000, devSeq := 7, inProg := [{ tag := 4, op := 0x0300, crc := 1 }] } : EcpSession) = true) ∧ (({ id := 3, port := 1, ip := 0x0A000001, udp := 5000, devSeq := 7, inProg := [{ tag := 4, op := 0x0300, crc := 1 }] } : EcpSession).devSeq < 0xFFFFFFFF) ∧ (3 = 8 → w_requestFinalResponse.ecp.spiOut.length < 16)) ∧ (match exec (.requestFinalResponse 3 4 0 ([9] : List Nat)) w_requestFinalResponse with
    | .next t => decide ((sends w_requestFinalResponse t ({ id := 3, port := 1, ip := 0x0A000001, udp := 5000, devSeq := 7, inProg := [{ tag := 4, op := 0x0300, crc := 1 }] } : EcpSession) [] [⟨({ tag := 4, op := 0x0300, crc := 1 } : EcpOpen).op, 4, 0, respFlags ({ id := 3, port := 1, ip := 0x0A000001, udp := 5000, devSeq := 7, inProg := [{ tag := 4, op := 0x0300, crc := 1 }] } : EcpSession), ({ id := 3, port := 1, ip := 0x0A000001, udp := 5000, devSeq := 7, inProg := [{ tag := 4, op := 0x0300, crc := 1 }] } : EcpSession).devSeq + 1, ([9] : List Nat), ({ id := 3, port := 1, ip := 0x0A000001, udp := 5000, devSeq := 7, inProg := [{ tag := 4, op := 0x0300, crc := 1 }] } : EcpSession).key⟩] = true) ∧ (t.session 3 = some { ({ id := 3, port := 1, ip := 0x0A000001, udp := 5000, devSeq := 7, inProg := [{ tag := 4, op := 0x0300, crc := 1 }] } : EcpSession) with devSeq := ({ id := 3, port := 1, ip := 0x0A000001, udp := 5000, devSeq := 7, inProg := [{ tag := 4, op := 0x0300, crc := 1 }] } : EcpSession).devSeq + 1, inProg := ({ id := 3, port := 1, ip := 0x0A000001, udp := 5000, devSeq := 7, inProg := [{ tag := 4, op := 0x0300, crc := 1 }] } : EcpSession).inProg.filter (fun z => z.tag ≠ 4), held := (holdResult ({ id := 3, port := 1, ip := 0x0A000001, udp := 5000, devSeq := 7, inProg := [{ tag := 4, op := 0x0300, crc := 1 }] } : EcpSession) ⟨4, ({ tag := 4, op := 0x0300, crc := 1 } : EcpOpen).op, ({ tag := 4, op := 0x0300, crc := 1 } : EcpOpen).crc, 0, ([9] : List Nat), true⟩).held }) ∧ (onlySession w_requestFinalResponse t 3 = true))
    | _ => false) = true := by decide +kernel

def w_streamMessageLost : State := { (withSess0 { id := 3, port := 1, ip := 0x0A000001, udp := 5000, devSeq := 7, streams := [{ id := 2, typ := 1, param := 0, seq := 5, queue := [⟨4, [1], some 2⟩, ⟨5, [2], some 9⟩, ⟨6, [2], none⟩] }] } State.reset) with ply := 5 }

theorem test_streamMessageLost : ((w_streamMessageLost.stopSafe = true) ∧ (w_streamMessageLost.session 3 = some ({ id := 3, port := 1, ip := 0x0A000001, udp := 5000, devSeq := 7, streams := [{ id := 2, typ := 1, param := 0, seq := 5, queue := [⟨4, [1], some 2⟩, ⟨5, [2], some 9⟩, ⟨6, [2], none⟩] }] } : EcpSession)) ∧ (({ id := 3, port := 1, ip := 0x0A000001, udp := 5000, devSeq := 7, streams := [{ id := 2, typ := 1, param := 0, seq := 5, queue := [⟨4, [1], some 2⟩, ⟨5, [2], some 9⟩, ⟨6, [2], none⟩] }] } : EcpSession).streams.find? (fun z => z.id == 2) = some ({ id := 2, typ := 1, param := 0, seq := 5, queue := [⟨4, [1], some 2⟩, ⟨5, [2], some 9⟩, ⟨6, [2], none⟩] } : EcpStream)) ∧ (1 = (({ id := 2, typ := 1, param := 0, seq := 5, queue := [⟨4, [1], some 2⟩, ⟨5, [2], some 9⟩, ⟨6, [2], none⟩] } : EcpStream).queue.filter (fun m => m.dead.any (· < w_streamMessageLost.ply))).length)) ∧ (match exec (.streamMessageLost 3 2) w_streamMessageLost with
    | .next t => decide ((Reads t [(ECP_CNT_C_STREAM_LOST, w_streamMessageLost.adv ECP_CNT_C_STREAM_LOST 1)]) ∧ ((t.session 3).map (fun (y : EcpSession) => y.streams.find? (fun z => z.id == 2)) = some (some { ({ id := 2, typ := 1, param := 0, seq := 5, queue := [⟨4, [1], some 2⟩, ⟨5, [2], some 9⟩, ⟨6, [2], none⟩] } : EcpStream) with queue := ({ id := 2, typ := 1, param := 0, seq := 5, queue := [⟨4, [1], some 2⟩, ⟨5, [2], some 9⟩, ⟨6, [2], none⟩] } : EcpStream).queue.filter (fun m => !m.dead.any (· < w_streamMessageLost.ply)), lost := min (({ id := 2, typ := 1, param := 0, seq := 5, queue := [⟨4, [1], some 2⟩, ⟨5, [2], some 9⟩, ⟨6, [2], none⟩] } : EcpStream).lost + 1) 0xFFFF })) ∧ (onlySession w_streamMessageLost t 3 = true))
    | _ => false) = true := by decide +kernel

theorem test_ecp_registers : (wEcpReg.stopSafe = true ∧ wEcpReg.accepts 0x0F00 3 9 false = true ∧ wEcpReg.accepts 0x0F01 3 9 false = true ∧ wEcpReg.regBusy (sessIni 3) = false ∧
      MayRead wEcpReg (sessIni 3) 0x40000808 ∧ wEcpReg.judge (sessIni 3) 0x40000808 true = .ok ∧
      [WAKE_TIMER_SECONDS].all (fun f => f.of 0xFF == 0 || (f.acc != .ro && !wEcpReg.locked 6 0 f)) = true ∧
      wEcpReg.wordTaken wTimerRow 0 0 (wEcpReg.mergeWord [WAKE_TIMER_SECONDS] 0x1E 0xFF) 0xFF = true) ∧
    (match exec (.regRead 3 9 (leBytes 4 0x40000808 ++ [1, 0, 0, 0]) 0) wEcpReg with
    | .next t => answers wEcpReg t [] 0x0F00 3 9 Ecp.OK (crc32c (leBytes 4 0x40000808 ++ [1, 0, 0, 0])) (leBytes 4 0x3C)
    | _ => false) = true ∧
    (match exec (.regWrite 3 9 ([1, 0, 0, 0] ++ leBytes 4 0x40000808 ++ leBytes 4 0x1E ++ leBytes 4 0xFF) 0) wEcpReg with
    | .next t => decide (t.get WAKE_TIMER_SECONDS = 0x1E)
    | _ => false) = true := by decide +kernel

def w_feLinkDown : State := at_ [(FE_STATUS_LINK 1, 1), (FE_CTRL_EN 1, 1)]

theorem test_feLinkDown : ((w_feLinkDown.stopSafe = true) ∧ (1 < 2) ∧ (true = true ∨ w_feLinkDown.bit (FE_CTRL_EN 1) = false) ∧ (w_feLinkDown.get (FE_STATUS_LINK 1) ≠ 2)) ∧ (match exec (.feLinkDown 1 true) w_feLinkDown with
    | .next t => decide ((Reads t [(FE_STATUS_LINK 1, 0)]) ∧ (t.feSt 1 = { w_feLinkDown.feSt 1 with clkOk := (w_feLinkDown.feSt 1).clkOk && !true }))
    | _ => false) = true := by decide +kernel

def w_feLinkDown_channels : State := at_ [(FE_STATUS_LINK 0, 2), (FE_CTRL_EN 0, 0), (CH_STATUS_STATE 200, 3), (ACQ_ENT_W3_STATE 4, 2), (ACQ_STATUS_BUSY, 1)]

theorem test_feLinkDown_channels : ((w_feLinkDown_channels.stopSafe = true) ∧ (0 < 2) ∧ (false = true ∨ w_feLinkDown_channels.bit (FE_CTRL_EN 0) = false) ∧ (w_feLinkDown_channels.get (FE_STATUS_LINK 0) = 2)) ∧ (match exec (.feLinkDown 0 false) w_feLinkDown_channels with
    | .next t => decide ((Reads t [(FE_STATUS_LINK 0, 0)]) ∧ ((List.range 256).all (fun d => !(w_feLinkDown_channels.chRuns d && w_feLinkDown_channels.get (CH_CFG_FE d) == 0) || (decide (t.get (CH_STATUS_STATE d) ≤ 1) && t.get (CH_STATUS_LOST d) == 1 && t.get (CH_STATUS_LOSS_CAUSE d) == 3)) = true) ∧ ((List.range 256).all (fun d => (w_feLinkDown_channels.chRuns d && w_feLinkDown_channels.get (CH_CFG_FE d) == 0) || t.get (CH_STATUS_STATE d) == w_feLinkDown_channels.get (CH_STATUS_STATE d)) = true) ∧ (t.feSt 0 = { w_feLinkDown_channels.feSt 0 with clkOk := (w_feLinkDown_channels.feSt 0).clkOk && !false, badFrames := 0, relocked := true, first1 := true, first5 := true, corr := [], frmRun := 0, frmOk := false, goodFrames := 0 }) ∧ (t.gnss.acq.waitAt = (match w_feLinkDown_channels.acqServing with | some n => if w_feLinkDown_channels.get (ACQ_ENT_W0_FE n) = 0 then some w_feLinkDown_channels.ply else w_feLinkDown_channels.gnss.acq.waitAt | none => w_feLinkDown_channels.gnss.acq.waitAt)) ∧ (w_feLinkDown_channels.acqServing.all (fun n => w_feLinkDown_channels.get (ACQ_ENT_W0_FE n) != 0 || t.get ACQ_STATUS_BUSY == 0) = true))
    | _ => false) = true := by decide +kernel

def w_feLinkLocked : State := { (at_ [(FE_STATUS_LINK 1, 1), (FE_CTRL_EN 1, 1)]) with gnss := { fe1 := { goodFrames := 3 } } }

theorem test_feLinkLocked : ((w_feLinkLocked.stopSafe = true) ∧ (1 < 2) ∧ (37 < 65536) ∧ (w_feLinkLocked.get (FE_STATUS_LINK 1) = 1) ∧ (3 ≤ (w_feLinkLocked.feSt 1).goodFrames) ∧ (w_feLinkLocked.acqServing = none ∨ w_feLinkLocked.gnss.acq.waitAt = none)) ∧ (match exec (.feLinkLocked 1 37) w_feLinkLocked with
    | .next t => decide ((Reads t [(FE_STATUS_LINK 1, 2), (FE_LINK_FIFO_LAT 1, 37), (FE_CNT_RELOCKS 1, w_feLinkLocked.adv (FE_CNT_RELOCKS 1))]) ∧ (t.evr = (w_feLinkLocked.record .feRelock [1]).evr) ∧ (t.feSt 1 = { w_feLinkLocked.feSt 1 with badFrames := 0, relocked := true, first1 := true, first5 := true, dcSums := [] }))
    | _ => false) = true := by decide +kernel

def w_feLinkLocked_resume : State := { (at_ [(FE_STATUS_LINK 1, 1), (FE_CTRL_EN 1, 1), (ACQ_ENT_W3_STATE 4, 2), (ACQ_ENT_W0_FE 4, 1)]) with gnss := { fe1 := { goodFrames := 3 }, acq := { waitAt := some 0 } } }

theorem test_feLinkLocked_resume : ((w_feLinkLocked_resume.stopSafe = true) ∧ (1 < 2) ∧ (37 < 65536) ∧ (w_feLinkLocked_resume.get (FE_STATUS_LINK 1) = 1) ∧ (3 ≤ (w_feLinkLocked_resume.feSt 1).goodFrames) ∧ (w_feLinkLocked_resume.acqServing = some 4) ∧ (w_feLinkLocked_resume.get (ACQ_ENT_W0_FE 4) = 1) ∧ (w_feLinkLocked_resume.gnss.acq.waitAt = some 0) ∧ (w_feLinkLocked_resume.ply ≤ 0 + 100000)) ∧ (match exec (.feLinkLocked 1 37) w_feLinkLocked_resume with
    | .next t => decide ((Reads t [(FE_STATUS_LINK 1, 2), (FE_LINK_FIFO_LAT 1, 37), (FE_CNT_RELOCKS 1, w_feLinkLocked_resume.adv (FE_CNT_RELOCKS 1)), (ACQ_STATUS_BUSY, 1)]) ∧ (t.evr = (w_feLinkLocked_resume.record .feRelock [1]).evr) ∧ (t.feSt 1 = { w_feLinkLocked_resume.feSt 1 with badFrames := 0, relocked := true, first1 := true, first5 := true, dcSums := [] }) ∧ (t.gnss.acq.waitAt = none) ∧ (t.acqPos 4 = { w_feLinkLocked_resume.acqPos 4 with verRun := 0, verPass := 0 }))
    | _ => false) = true := by decide +kernel

def w_feStatusFrame : State := at_ [(FE_STATUS_LINK 0, 2)]

theorem test_feStatusFrame : ((w_feStatusFrame.stopSafe = true) ∧ (0 < 2) ∧ ((edgeQuads ((List.range 64).flatMap (fun k => [0x10, 0x10, 0, 16 * (wLinkFrame 0x9A6C 0x5AC3 / 2 ^ k % 2)])) : List (Nat × Nat × Nat × Nat)) = edgeQuads ((List.range 64).flatMap (fun k => [0x10, 0x10, 0, 16 * (wLinkFrame 0x9A6C 0x5AC3 / 2 ^ k % 2)]) : List Nat)) ∧ ((statusBits (edgeQuads ((List.range 64).flatMap (fun k => [0x10, 0x10, 0, 16 * (wLinkFrame 0x9A6C 0x5AC3 / 2 ^ k % 2)])))) = statusBits (edgeQuads ((List.range 64).flatMap (fun k => [0x10, 0x10, 0, 16 * (wLinkFrame 0x9A6C 0x5AC3 / 2 ^ k % 2)])) : List (Nat × Nat × Nat × Nat))) ∧ ((((edgeQuads ((List.range 64).flatMap (fun k => [0x10, 0x10, 0, 16 * (wLinkFrame 0x9A6C 0x5AC3 / 2 ^ k % 2)]))).filter (fun q => !frmGood q)).length) = ((edgeQuads ((List.range 64).flatMap (fun k => [0x10, 0x10, 0, 16 * (wLinkFrame 0x9A6C 0x5AC3 / 2 ^ k % 2)])) : List (Nat × Nat × Nat × Nat)).filter (fun q => !frmGood q)).length) ∧ (w_feStatusFrame.get (FE_STATUS_LINK 0) = 2) ∧ (linkFrameOk 0x9A6C (statusBits (edgeQuads ((List.range 64).flatMap (fun k => [0x10, 0x10, 0, 16 * (wLinkFrame 0x9A6C 0x5AC3 / 2 ^ k % 2)])))) = true) ∧ ((((edgeQuads ((List.range 64).flatMap (fun k => [0x10, 0x10, 0, 16 * (wLinkFrame 0x9A6C 0x5AC3 / 2 ^ k % 2)]))).filter (fun q => !frmGood q)).length) < 8) ∧ (((({ dcSums := [sum4 (frameLevels (edgeQuads ((List.range 64).flatMap (fun k => [0x10, 0x10, 0, 16 * (wLinkFrame 0x9A6C 0x5AC3 / 2 ^ k % 2)]))))] } : FeState).dcMean) : Rat × Rat × Rat × Rat) = (if w_feStatusFrame.bit (FE_CTRL_DC_REMOVE 0) then ({ w_feStatusFrame.feSt 0 with dcSums := ((sum4 (frameLevels (edgeQuads ((List.range 64).flatMap (fun k => [0x10, 0x10, 0, 16 * (wLinkFrame 0x9A6C 0x5AC3 / 2 ^ k % 2)])) : List (Nat × Nat × Nat × Nat))) :: (w_feStatusFrame.feSt 0).dcSums).take 16384) } : FeState).dcMean else (0, 0, 0, 0)))) ∧ (match exec (.feStatusFrame 0 ((List.range 64).flatMap (fun k => [0x10, 0x10, 0, 16 * (wLinkFrame 0x9A6C 0x5AC3 / 2 ^ k % 2)]) : List Nat)) w_feStatusFrame with
    | .next t => decide ((Reads t [(FE_STATUS_GAIN_L1 0, bits (statusBits (edgeQuads ((List.range 64).flatMap (fun k => [0x10, 0x10, 0, 16 * (wLinkFrame 0x9A6C 0x5AC3 / 2 ^ k % 2)])))) 21 16), (FE_STATUS_GAIN_L5 0, bits (statusBits (edgeQuads ((List.range 64).flatMap (fun k => [0x10, 0x10, 0, 16 * (wLinkFrame 0x9A6C 0x5AC3 / 2 ^ k % 2)])))) 27 22), (FE_STATUS_OVR_L1 0, bits (statusBits (edgeQuads ((List.range 64).flatMap (fun k => [0x10, 0x10, 0, 16 * (wLinkFrame 0x9A6C 0x5AC3 / 2 ^ k % 2)])))) 28 28), (FE_STATUS_OVR_L5 0, bits (statusBits (edgeQuads ((List.range 64).flatMap (fun k => [0x10, 0x10, 0, 16 * (wLinkFrame 0x9A6C 0x5AC3 / 2 ^ k % 2)])))) 29 29), (FE_STATUS_FE_PLL_LOCK 0, bits (statusBits (edgeQuads ((List.range 64).flatMap (fun k => [0x10, 0x10, 0, 16 * (wLinkFrame 0x9A6C 0x5AC3 / 2 ^ k % 2)])))) 30 30), (FE_STATUS_BIAS_ON 0, bits (statusBits (edgeQuads ((List.range 64).flatMap (fun k => [0x10, 0x10, 0, 16 * (wLinkFrame 0x9A6C 0x5AC3 / 2 ^ k % 2)])))) 31 31), (FE_STATUS_TEMP 0, bits (statusBits (edgeQuads ((List.range 64).flatMap (fun k => [0x10, 0x10, 0, 16 * (wLinkFrame 0x9A6C 0x5AC3 / 2 ^ k % 2)])))) 39 32), (FE_LINK_CTL_ACK 0, bits (statusBits (edgeQuads ((List.range 64).flatMap (fun k => [0x10, 0x10, 0, 16 * (wLinkFrame 0x9A6C 0x5AC3 / 2 ^ k % 2)])))) 47 40), (FE_STATUS_CTL_PEND 0, b2n (bits (statusBits (edgeQuads ((List.range 64).flatMap (fun k => [0x10, 0x10, 0, 16 * (wLinkFrame 0x9A6C 0x5AC3 / 2 ^ k % 2)])))) 47 40 != w_feStatusFrame.get (FE_LINK_CTL_SEQ 0))), (FE_CNT_ALIGN_ERR 0, w_feStatusFrame.adv (FE_CNT_ALIGN_ERR 0) (((edgeQuads ((List.range 64).flatMap (fun k => [0x10, 0x10, 0, 16 * (wLinkFrame 0x9A6C 0x5AC3 / 2 ^ k % 2)]))).filter (fun q => !frmGood q)).length))]) ∧ (t.feSt 0 = { w_feStatusFrame.feSt 0 with clkOk := true, badFrames := 0, dcSums := ((sum4 (frameLevels (edgeQuads ((List.range 64).flatMap (fun k => [0x10, 0x10, 0, 16 * (wLinkFrame 0x9A6C 0x5AC3 / 2 ^ k % 2)])) : List (Nat × Nat × Nat × Nat))) :: (w_feStatusFrame.feSt 0).dcSums).take 16384), corr := ((frameLevels (edgeQuads ((List.range 64).flatMap (fun k => [0x10, 0x10, 0, 16 * (wLinkFrame 0x9A6C 0x5AC3 / 2 ^ k % 2)])) : List (Nat × Nat × Nat × Nat))).map (fun v => ((v.1 : Rat) - ((({ dcSums := [sum4 (frameLevels (edgeQuads ((List.range 64).flatMap (fun k => [0x10, 0x10, 0, 16 * (wLinkFrame 0x9A6C 0x5AC3 / 2 ^ k % 2)]))))] } : FeState).dcMean) : Rat × Rat × Rat × Rat).1, (v.2.1 : Rat) - ((({ dcSums := [sum4 (frameLevels (edgeQuads ((List.range 64).flatMap (fun k => [0x10, 0x10, 0, 16 * (wLinkFrame 0x9A6C 0x5AC3 / 2 ^ k % 2)]))))] } : FeState).dcMean) : Rat × Rat × Rat × Rat).2.1, (v.2.2.1 : Rat) - ((({ dcSums := [sum4 (frameLevels (edgeQuads ((List.range 64).flatMap (fun k => [0x10, 0x10, 0, 16 * (wLinkFrame 0x9A6C 0x5AC3 / 2 ^ k % 2)]))))] } : FeState).dcMean) : Rat × Rat × Rat × Rat).2.2.1, (v.2.2.2 : Rat) - ((({ dcSums := [sum4 (frameLevels (edgeQuads ((List.range 64).flatMap (fun k => [0x10, 0x10, 0, 16 * (wLinkFrame 0x9A6C 0x5AC3 / 2 ^ k % 2)]))))] } : FeState).dcMean) : Rat × Rat × Rat × Rat).2.2.2))) }))
    | _ => false) = true := by decide +kernel

def w_feStatusFrame_bad : State := at_ [(FE_STATUS_LINK 0, 2)]

theorem test_feStatusFrame_bad : ((w_feStatusFrame_bad.stopSafe = true) ∧ (0 < 2) ∧ ((edgeQuads ((List.range 64).flatMap (fun k => [0x10, 0x10, 0, 16 * (5 / 2 ^ k % 2)])) : List (Nat × Nat × Nat × Nat)) = edgeQuads ((List.range 64).flatMap (fun k => [0x10, 0x10, 0, 16 * (5 / 2 ^ k % 2)]) : List Nat)) ∧ ((statusBits (edgeQuads ((List.range 64).flatMap (fun k => [0x10, 0x10, 0, 16 * (5 / 2 ^ k % 2)])))) = statusBits (edgeQuads ((List.range 64).flatMap (fun k => [0x10, 0x10, 0, 16 * (5 / 2 ^ k % 2)])) : List (Nat × Nat × Nat × Nat))) ∧ ((((edgeQuads ((List.range 64).flatMap (fun k => [0x10, 0x10, 0, 16 * (5 / 2 ^ k % 2)]))).filter (fun q => !frmGood q)).length) = ((edgeQuads ((List.range 64).flatMap (fun k => [0x10, 0x10, 0, 16 * (5 / 2 ^ k % 2)])) : List (Nat × Nat × Nat × Nat)).filter (fun q => !frmGood q)).length) ∧ (w_feStatusFrame_bad.get (FE_STATUS_LINK 0) = 2) ∧ (linkFrameOk 0x9A6C (statusBits (edgeQuads ((List.range 64).flatMap (fun k => [0x10, 0x10, 0, 16 * (5 / 2 ^ k % 2)])))) = false) ∧ ((((edgeQuads ((List.range 64).flatMap (fun k => [0x10, 0x10, 0, 16 * (5 / 2 ^ k % 2)]))).filter (fun q => !frmGood q)).length) < 8) ∧ ((w_feStatusFrame_bad.feSt 0).badFrames < 3) ∧ (((({ dcSums := [sum4 (frameLevels (edgeQuads ((List.range 64).flatMap (fun k => [0x10, 0x10, 0, 16 * (5 / 2 ^ k % 2)]))))] } : FeState).dcMean) : Rat × Rat × Rat × Rat) = (if w_feStatusFrame_bad.bit (FE_CTRL_DC_REMOVE 0) then ({ w_feStatusFrame_bad.feSt 0 with dcSums := ((sum4 (frameLevels (edgeQuads ((List.range 64).flatMap (fun k => [0x10, 0x10, 0, 16 * (5 / 2 ^ k % 2)])) : List (Nat × Nat × Nat × Nat))) :: (w_feStatusFrame_bad.feSt 0).dcSums).take 16384) } : FeState).dcMean else (0, 0, 0, 0)))) ∧ (match exec (.feStatusFrame 0 ((List.range 64).flatMap (fun k => [0x10, 0x10, 0, 16 * (5 / 2 ^ k % 2)]) : List Nat)) w_feStatusFrame_bad with
    | .next t => decide ((Reads t [(FE_CNT_CRC_ERR 0, w_feStatusFrame_bad.adv (FE_CNT_CRC_ERR 0)), (FE_CNT_ALIGN_ERR 0, w_feStatusFrame_bad.adv (FE_CNT_ALIGN_ERR 0) (((edgeQuads ((List.range 64).flatMap (fun k => [0x10, 0x10, 0, 16 * (5 / 2 ^ k % 2)]))).filter (fun q => !frmGood q)).length))]) ∧ (t.feSt 0 = { w_feStatusFrame_bad.feSt 0 with clkOk := true, badFrames := (w_feStatusFrame_bad.feSt 0).badFrames + 1, dcSums := ((sum4 (frameLevels (edgeQuads ((List.range 64).flatMap (fun k => [0x10, 0x10, 0, 16 * (5 / 2 ^ k % 2)])) : List (Nat × Nat × Nat × Nat))) :: (w_feStatusFrame_bad.feSt 0).dcSums).take 16384), corr := ((frameLevels (edgeQuads ((List.range 64).flatMap (fun k => [0x10, 0x10, 0, 16 * (5 / 2 ^ k % 2)])) : List (Nat × Nat × Nat × Nat))).map (fun v => ((v.1 : Rat) - ((({ dcSums := [sum4 (frameLevels (edgeQuads ((List.range 64).flatMap (fun k => [0x10, 0x10, 0, 16 * (5 / 2 ^ k % 2)]))))] } : FeState).dcMean) : Rat × Rat × Rat × Rat).1, (v.2.1 : Rat) - ((({ dcSums := [sum4 (frameLevels (edgeQuads ((List.range 64).flatMap (fun k => [0x10, 0x10, 0, 16 * (5 / 2 ^ k % 2)]))))] } : FeState).dcMean) : Rat × Rat × Rat × Rat).2.1, (v.2.2.1 : Rat) - ((({ dcSums := [sum4 (frameLevels (edgeQuads ((List.range 64).flatMap (fun k => [0x10, 0x10, 0, 16 * (5 / 2 ^ k % 2)]))))] } : FeState).dcMean) : Rat × Rat × Rat × Rat).2.2.1, (v.2.2.2 : Rat) - ((({ dcSums := [sum4 (frameLevels (edgeQuads ((List.range 64).flatMap (fun k => [0x10, 0x10, 0, 16 * (5 / 2 ^ k % 2)]))))] } : FeState).dcMean) : Rat × Rat × Rat × Rat).2.2.2))) }))
    | _ => false) = true := by decide +kernel

def w_feStatusFrame_hunt : State := { (at_ [(FE_STATUS_LINK 0, 2), (CH_STATUS_STATE 200, 3)]) with gnss := { fe0 := { badFrames := 3 } } }

theorem test_feStatusFrame_hunt : ((w_feStatusFrame_hunt.stopSafe = true) ∧ (0 < 2) ∧ ((edgeQuads ((List.range 64).flatMap (fun k => [0x10, 0x10, 0, 16 * (5 / 2 ^ k % 2)])) : List (Nat × Nat × Nat × Nat)) = edgeQuads ((List.range 64).flatMap (fun k => [0x10, 0x10, 0, 16 * (5 / 2 ^ k % 2)]) : List Nat)) ∧ ((statusBits (edgeQuads ((List.range 64).flatMap (fun k => [0x10, 0x10, 0, 16 * (5 / 2 ^ k % 2)])))) = statusBits (edgeQuads ((List.range 64).flatMap (fun k => [0x10, 0x10, 0, 16 * (5 / 2 ^ k % 2)])) : List (Nat × Nat × Nat × Nat))) ∧ ((((edgeQuads ((List.range 64).flatMap (fun k => [0x10, 0x10, 0, 16 * (5 / 2 ^ k % 2)]))).filter (fun q => !frmGood q)).length) = ((edgeQuads ((List.range 64).flatMap (fun k => [0x10, 0x10, 0, 16 * (5 / 2 ^ k % 2)])) : List (Nat × Nat × Nat × Nat)).filter (fun q => !frmGood q)).length) ∧ (w_feStatusFrame_hunt.get (FE_STATUS_LINK 0) = 2) ∧ (8 ≤ (((edgeQuads ((List.range 64).flatMap (fun k => [0x10, 0x10, 0, 16 * (5 / 2 ^ k % 2)]))).filter (fun q => !frmGood q)).length) ∨ (linkFrameOk 0x9A6C (statusBits (edgeQuads ((List.range 64).flatMap (fun k => [0x10, 0x10, 0, 16 * (5 / 2 ^ k % 2)])))) = false ∧ 3 ≤ (w_feStatusFrame_hunt.feSt 0).badFrames))) ∧ (match exec (.feStatusFrame 0 ((List.range 64).flatMap (fun k => [0x10, 0x10, 0, 16 * (5 / 2 ^ k % 2)]) : List Nat)) w_feStatusFrame_hunt with
    | .next t => decide ((Reads t [(FE_STATUS_LINK 0, 1), (FE_CNT_ALIGN_ERR 0, w_feStatusFrame_hunt.adv (FE_CNT_ALIGN_ERR 0) (((edgeQuads ((List.range 64).flatMap (fun k => [0x10, 0x10, 0, 16 * (5 / 2 ^ k % 2)]))).filter (fun q => !frmGood q)).length)), (FE_CNT_CRC_ERR 0, if linkFrameOk 0x9A6C (statusBits (edgeQuads ((List.range 64).flatMap (fun k => [0x10, 0x10, 0, 16 * (5 / 2 ^ k % 2)])))) then w_feStatusFrame_hunt.get (FE_CNT_CRC_ERR 0) else w_feStatusFrame_hunt.adv (FE_CNT_CRC_ERR 0))]) ∧ ((List.range 256).all (fun d => !(w_feStatusFrame_hunt.chRuns d && w_feStatusFrame_hunt.get (CH_CFG_FE d) == 0) || (decide (t.get (CH_STATUS_STATE d) ≤ 1) && t.get (CH_STATUS_LOST d) == 1 && t.get (CH_STATUS_LOSS_CAUSE d) == 3)) = true) ∧ ((List.range 256).all (fun d => (w_feStatusFrame_hunt.chRuns d && w_feStatusFrame_hunt.get (CH_CFG_FE d) == 0) || t.get (CH_STATUS_STATE d) == w_feStatusFrame_hunt.get (CH_STATUS_STATE d)) = true) ∧ (t.feSt 0 = { w_feStatusFrame_hunt.feSt 0 with clkOk := true, dcSums := ((sum4 (frameLevels (edgeQuads ((List.range 64).flatMap (fun k => [0x10, 0x10, 0, 16 * (5 / 2 ^ k % 2)])) : List (Nat × Nat × Nat × Nat))) :: (w_feStatusFrame_hunt.feSt 0).dcSums).take 16384), badFrames := 0, relocked := true, first1 := true, first5 := true, corr := [], frmRun := 0, frmOk := false, goodFrames := 0 }) ∧ (t.gnss.acq.waitAt = (match w_feStatusFrame_hunt.acqServing with | some n => if w_feStatusFrame_hunt.get (ACQ_ENT_W0_FE n) = 0 then some w_feStatusFrame_hunt.ply else w_feStatusFrame_hunt.gnss.acq.waitAt | none => w_feStatusFrame_hunt.gnss.acq.waitAt)))
    | _ => false) = true := by decide +kernel

def w_feStatusFrame_hunted : State := { (at_ [(FE_STATUS_LINK 0, 1)]) with gnss := { fe0 := { frmOk := true, goodFrames := 2 } } }

theorem test_feStatusFrame_hunted : ((w_feStatusFrame_hunted.stopSafe = true) ∧ (0 < 2) ∧ ((edgeQuads ((List.range 64).flatMap (fun k => [0x10, 0x10, 0, 16 * (wLinkFrame 0x9A6C 0x5AC3 / 2 ^ k % 2)])) : List (Nat × Nat × Nat × Nat)) = edgeQuads ((List.range 64).flatMap (fun k => [0x10, 0x10, 0, 16 * (wLinkFrame 0x9A6C 0x5AC3 / 2 ^ k % 2)]) : List Nat)) ∧ ((statusBits (edgeQuads ((List.range 64).flatMap (fun k => [0x10, 0x10, 0, 16 * (wLinkFrame 0x9A6C 0x5AC3 / 2 ^ k % 2)])))) = statusBits (edgeQuads ((List.range 64).flatMap (fun k => [0x10, 0x10, 0, 16 * (wLinkFrame 0x9A6C 0x5AC3 / 2 ^ k % 2)])) : List (Nat × Nat × Nat × Nat))) ∧ (w_feStatusFrame_hunted.get (FE_STATUS_LINK 0) = 1) ∧ ((edgeQuads ((List.range 64).flatMap (fun k => [0x10, 0x10, 0, 16 * (wLinkFrame 0x9A6C 0x5AC3 / 2 ^ k % 2)])) : List (Nat × Nat × Nat × Nat)).length = 64) ∧ ((edgeQuads ((List.range 64).flatMap (fun k => [0x10, 0x10, 0, 16 * (wLinkFrame 0x9A6C 0x5AC3 / 2 ^ k % 2)])) : List (Nat × Nat × Nat × Nat)).all frmGood = true)) ∧ (match exec (.feStatusFrame 0 ((List.range 64).flatMap (fun k => [0x10, 0x10, 0, 16 * (wLinkFrame 0x9A6C 0x5AC3 / 2 ^ k % 2)]) : List Nat)) w_feStatusFrame_hunted with
    | .next t => decide ((t.feSt 0 = { w_feStatusFrame_hunted.feSt 0 with clkOk := true, frmRun := 64, frmOk := true, goodFrames := if (w_feStatusFrame_hunted.feSt 0).frmOk && linkFrameOk 0x9A6C (statusBits (edgeQuads ((List.range 64).flatMap (fun k => [0x10, 0x10, 0, 16 * (wLinkFrame 0x9A6C 0x5AC3 / 2 ^ k % 2)])))) then (w_feStatusFrame_hunted.feSt 0).goodFrames + 1 else 0 }))
    | _ => false) = true := by decide +kernel

def w_feStatusFrame_back : State := { (at_ [(FE_STATUS_LINK 0, 0), (FE_CTRL_EN 0, 1)]) with gnss := { fe0 := { clkOk := false, frmRun := 9 } } }

theorem test_feStatusFrame_back : ((w_feStatusFrame_back.stopSafe = true) ∧ (0 < 2) ∧ ((edgeQuads ((List.range 64).flatMap (fun k => [0x10, 0x10, 0, 16 * (wLinkFrame 0x9A6C 0x5AC3 / 2 ^ k % 2)])) : List (Nat × Nat × Nat × Nat)) = edgeQuads ((List.range 64).flatMap (fun k => [0x10, 0x10, 0, 16 * (wLinkFrame 0x9A6C 0x5AC3 / 2 ^ k % 2)]) : List Nat)) ∧ ((statusBits (edgeQuads ((List.range 64).flatMap (fun k => [0x10, 0x10, 0, 16 * (wLinkFrame 0x9A6C 0x5AC3 / 2 ^ k % 2)])))) = statusBits (edgeQuads ((List.range 64).flatMap (fun k => [0x10, 0x10, 0, 16 * (wLinkFrame 0x9A6C 0x5AC3 / 2 ^ k % 2)])) : List (Nat × Nat × Nat × Nat))) ∧ (w_feStatusFrame_back.get (FE_STATUS_LINK 0) = 0) ∧ (w_feStatusFrame_back.bit (FE_CTRL_EN 0) = true) ∧ ((edgeQuads ((List.range 64).flatMap (fun k => [0x10, 0x10, 0, 16 * (wLinkFrame 0x9A6C 0x5AC3 / 2 ^ k % 2)])) : List (Nat × Nat × Nat × Nat)).length = 64) ∧ ((edgeQuads ((List.range 64).flatMap (fun k => [0x10, 0x10, 0, 16 * (wLinkFrame 0x9A6C 0x5AC3 / 2 ^ k % 2)])) : List (Nat × Nat × Nat × Nat)).all frmGood = true)) ∧ (match exec (.feStatusFrame 0 ((List.range 64).flatMap (fun k => [0x10, 0x10, 0, 16 * (wLinkFrame 0x9A6C 0x5AC3 / 2 ^ k % 2)]) : List Nat)) w_feStatusFrame_back with
    | .next t => decide ((Reads t [(FE_STATUS_LINK 0, 1)]) ∧ (t.feSt 0 = { w_feStatusFrame_back.feSt 0 with clkOk := true, frmRun := 64, frmOk := true, goodFrames := 0 }))
    | _ => false) = true := by decide +kernel

def w_feStatusFrame_down : State := at_ [(FE_CTRL_EN 0, 0)]

theorem test_feStatusFrame_down : ((w_feStatusFrame_down.stopSafe = true) ∧ (0 < 2) ∧ (w_feStatusFrame_down.get (FE_STATUS_LINK 0) = 0) ∧ (w_feStatusFrame_down.bit (FE_CTRL_EN 0) = false)) ∧ (match exec (.feStatusFrame 0 ((List.range 64).flatMap (fun k => [0x10, 0x10, 0, 16 * (wLinkFrame 0x9A6C 0x5AC3 / 2 ^ k % 2)]) : List Nat)) w_feStatusFrame_down with
    | .next t => decide ((t.feSt 0 = { w_feStatusFrame_down.feSt 0 with clkOk := true }))
    | _ => false) = true := by decide +kernel

def w_feCtlFrameApply : State := at_ [(FE_CTRL_EN 1, 1), (FE_CTRL_GAIN_L1 1, 9)]

theorem test_feCtlFrameApply : ((w_feCtlFrameApply.stopSafe = true) ∧ (1 < 2) ∧ (w_feCtlFrameApply.bit (FE_CTRL_EN 1) = true) ∧ (((at_ [(FE_CTRL_EN 1, 1), (FE_CTRL_GAIN_L1 1, 9)]).ctlFrame 1) = w_feCtlFrameApply.ctlFrame 1 ^^^ (0 % 2 ^ 64))) ∧ (match exec (.feCtlFrameApply 1 0) w_feCtlFrameApply with
    | .next t => decide ((t.out = w_feCtlFrameApply.out ++ [.feCtl 1 ((at_ [(FE_CTRL_EN 1, 1), (FE_CTRL_GAIN_L1 1, 9)]).ctlFrame 1)]) ∧ (t.feExt = (if linkFrameOk 0x5C93 ((at_ [(FE_CTRL_EN 1, 1), (FE_CTRL_GAIN_L1 1, 9)]).ctlFrame 1) then (if 1 = 0 then { w_feCtlFrameApply.feExt with ctl0 := bits ((at_ [(FE_CTRL_EN 1, 1), (FE_CTRL_GAIN_L1 1, 9)]).ctlFrame 1) 47 16 } else { w_feCtlFrameApply.feExt with ctl1 := bits ((at_ [(FE_CTRL_EN 1, 1), (FE_CTRL_GAIN_L1 1, 9)]).ctlFrame 1) 47 16 }) else w_feCtlFrameApply.feExt)))
    | _ => false) = true := by decide +kernel

def w_antWindowEnd : State := { (at_ [(FE_STATUS_BIAS_ON 0, 1), (ANT_CFG_AUTO_OFF 0, 0), (ANT_CFG_OPEN_MA 0, 50), (ANT_CFG_SHORT_MA 0, 1500)]) with gnss := { fe0 := { antCand := 1, antCount := 2 } } }

theorem test_antWindowEnd : ((w_antWindowEnd.stopSafe = true) ∧ (0 < 2) ∧ (([1024, 1024] : List Nat) ≠ []) ∧ (153600 = 75 * (([1024, 1024] : List Nat).map (· % 4096)).sum) ∧ (512 = 256 * ([1024, 1024] : List Nat).length) ∧ (1 = antState (w_antWindowEnd.bit (FE_STATUS_BIAS_ON 0)) (w_antWindowEnd.get (ANT_STATUS_STATE 0)) 153600 (512 * w_antWindowEnd.get (ANT_CFG_OPEN_MA 0)) (512 * w_antWindowEnd.get (ANT_CFG_SHORT_MA 0))) ∧ (1 ≠ w_antWindowEnd.get (ANT_STATUS_STATE 0)) ∧ ((w_antWindowEnd.feSt 0).antCand = 1) ∧ ((w_antWindowEnd.feSt 0).antCount = 2) ∧ ((w_antWindowEnd.feSt 0).tripped = false) ∧ (w_antWindowEnd.bit (ANT_CFG_AUTO_OFF 0) = false ∨ 1 ≠ 3)) ∧ (match exec (.antWindowEnd 0 ([1024, 1024] : List Nat)) w_antWindowEnd with
    | .next t => decide ((Reads t [(ANT_STATUS_CURRENT 0, (quant (153600 : Int) 512).toNat % 2 ^ (ANT_STATUS_CURRENT 0).w), (ANT_STATUS_STATE 0, 1), (ANT_STATUS_CHANGED 0, 1)]) ∧ (t.evr = (w_antWindowEnd.record .antChange [0, 1]).evr) ∧ (t.feSt 0 = { w_antWindowEnd.feSt 0 with antCount := 0 }))
    | _ => false) = true := by decide +kernel

def w_antWindowEnd_count : State := at_ [(FE_STATUS_BIAS_ON 0, 1), (ANT_CFG_AUTO_OFF 0, 0), (ANT_CFG_OPEN_MA 0, 50), (ANT_CFG_SHORT_MA 0, 1500)]

theorem test_antWindowEnd_count : ((w_antWindowEnd_count.stopSafe = true) ∧ (0 < 2) ∧ (([1024, 1024] : List Nat) ≠ []) ∧ (153600 = 75 * (([1024, 1024] : List Nat).map (· % 4096)).sum) ∧ (512 = 256 * ([1024, 1024] : List Nat).length) ∧ (1 = antState (w_antWindowEnd_count.bit (FE_STATUS_BIAS_ON 0)) (w_antWindowEnd_count.get (ANT_STATUS_STATE 0)) 153600 (512 * w_antWindowEnd_count.get (ANT_CFG_OPEN_MA 0)) (512 * w_antWindowEnd_count.get (ANT_CFG_SHORT_MA 0))) ∧ (1 ≠ w_antWindowEnd_count.get (ANT_STATUS_STATE 0)) ∧ ((w_antWindowEnd_count.feSt 0).antCand ≠ 1 ∨ (w_antWindowEnd_count.feSt 0).antCount + 1 < 3) ∧ ((w_antWindowEnd_count.feSt 0).tripped = false)) ∧ (match exec (.antWindowEnd 0 ([1024, 1024] : List Nat)) w_antWindowEnd_count with
    | .next t => decide ((Reads t [(ANT_STATUS_CURRENT 0, (quant (153600 : Int) 512).toNat % 2 ^ (ANT_STATUS_CURRENT 0).w)]) ∧ (t.feSt 0 = { w_antWindowEnd_count.feSt 0 with antCand := 1, antCount := if (w_antWindowEnd_count.feSt 0).antCand = 1 then (w_antWindowEnd_count.feSt 0).antCount + 1 else 1 }))
    | _ => false) = true := by decide +kernel

theorem test_antWindowEnd_same : ((wReset.stopSafe = true) ∧ (0 < 2) ∧ (([256, 256] : List Nat) ≠ []) ∧ (38400 = 75 * (([256, 256] : List Nat).map (· % 4096)).sum) ∧ (512 = 256 * ([256, 256] : List Nat).length) ∧ (antState (wReset.bit (FE_STATUS_BIAS_ON 0)) (wReset.get (ANT_STATUS_STATE 0)) 38400 (512 * wReset.get (ANT_CFG_OPEN_MA 0)) (512 * wReset.get (ANT_CFG_SHORT_MA 0)) = wReset.get (ANT_STATUS_STATE 0)) ∧ ((wReset.feSt 0).tripped = false)) ∧ (match exec (.antWindowEnd 0 ([256, 256] : List Nat)) wReset with
    | .next t => decide ((Reads t [(ANT_STATUS_CURRENT 0, (quant (38400 : Int) 512).toNat % 2 ^ (ANT_STATUS_CURRENT 0).w)]) ∧ (t.feSt 0 = { wReset.feSt 0 with antCand := wReset.get (ANT_STATUS_STATE 0), antCount := 0 }))
    | _ => false) = true := by decide +kernel

def w_antWindowEnd_trip : State := { (at_ [(FE_STATUS_BIAS_ON 0, 1), (FE_CTRL_BIAS_EN 0, 1), (ANT_CFG_AUTO_OFF 0, 1), (ANT_CFG_OPEN_MA 0, 50), (ANT_CFG_SHORT_MA 0, 1000)]) with gnss := { fe0 := { antCand := 3, antCount := 2 } } }

theorem test_antWindowEnd_trip : ((w_antWindowEnd_trip.stopSafe = true) ∧ (0 < 2) ∧ (([3840, 3840] : List Nat) ≠ []) ∧ (576000 = 75 * (([3840, 3840] : List Nat).map (· % 4096)).sum) ∧ (512 = 256 * ([3840, 3840] : List Nat).length) ∧ (antState (w_antWindowEnd_trip.bit (FE_STATUS_BIAS_ON 0)) (w_antWindowEnd_trip.get (ANT_STATUS_STATE 0)) 576000 (512 * w_antWindowEnd_trip.get (ANT_CFG_OPEN_MA 0)) (512 * w_antWindowEnd_trip.get (ANT_CFG_SHORT_MA 0)) = 3) ∧ (w_antWindowEnd_trip.get (ANT_STATUS_STATE 0) ≠ 3) ∧ ((w_antWindowEnd_trip.feSt 0).antCand = 3) ∧ ((w_antWindowEnd_trip.feSt 0).antCount = 2) ∧ ((w_antWindowEnd_trip.feSt 0).tripped = false) ∧ (w_antWindowEnd_trip.bit (ANT_CFG_AUTO_OFF 0) = true) ∧ (w_antWindowEnd_trip.bit (FE_CTRL_BIAS_EN 0) = true)) ∧ (match exec (.antWindowEnd 0 ([3840, 3840] : List Nat)) w_antWindowEnd_trip with
    | .next t => decide ((Reads t [(ANT_STATUS_CURRENT 0, (quant (576000 : Int) 512).toNat % 2 ^ (ANT_STATUS_CURRENT 0).w), (ANT_STATUS_STATE 0, 3), (ANT_STATUS_CHANGED 0, 1), (ANT_STATUS_TRIPS 0, w_antWindowEnd_trip.adv (ANT_STATUS_TRIPS 0)), (FE_LINK_CTL_SEQ 0, (w_antWindowEnd_trip.get (FE_LINK_CTL_SEQ 0) + 1) % 256), (FE_STATUS_CTL_PEND 0, b2n (w_antWindowEnd_trip.get (FE_LINK_CTL_ACK 0) != (w_antWindowEnd_trip.get (FE_LINK_CTL_SEQ 0) + 1) % 256))]) ∧ (t.evr = (w_antWindowEnd_trip.record .antChange [0, 3]).evr) ∧ (t.biasOut 0 = false) ∧ (t.feSt 0 = { w_antWindowEnd_trip.feSt 0 with antCount := 0, tripped := true, retry := 0, biasLow := false, tripAt := w_antWindowEnd_trip.ply }))
    | _ => false) = true := by decide +kernel

def w_antBiasRetry : State := { (at_ [(ANT_CFG_RETRY_S 0, 5), (FE_CTRL_BIAS_EN 0, 1)]) with ply := 500000, gnss := { fe0 := { tripped := true } } }

theorem test_antBiasRetry : ((w_antBiasRetry.stopSafe = true) ∧ (0 < 2) ∧ ((w_antBiasRetry.feSt 0).tripped = true) ∧ ((w_antBiasRetry.feSt 0).retry = 0) ∧ (w_antBiasRetry.get (ANT_CFG_RETRY_S 0) ≠ 0) ∧ ((w_antBiasRetry.feSt 0).tripAt + 100000 * w_antBiasRetry.get (ANT_CFG_RETRY_S 0) ≤ w_antBiasRetry.ply)) ∧ (match exec (.antBiasRetry 0) w_antBiasRetry with
    | .next t => decide ((t.feSt 0 = { w_antBiasRetry.feSt 0 with retry := 3 }) ∧ (t.biasOut 0 = w_antBiasRetry.bit (FE_CTRL_BIAS_EN 0)) ∧ (Reads t [(FE_LINK_CTL_SEQ 0, if w_antBiasRetry.bit (FE_CTRL_BIAS_EN 0) then (w_antBiasRetry.get (FE_LINK_CTL_SEQ 0) + 1) % 256 else w_antBiasRetry.get (FE_LINK_CTL_SEQ 0)), (FE_STATUS_CTL_PEND 0, if w_antBiasRetry.bit (FE_CTRL_BIAS_EN 0) then b2n (w_antBiasRetry.get (FE_LINK_CTL_ACK 0) != (w_antBiasRetry.get (FE_LINK_CTL_SEQ 0) + 1) % 256) else w_antBiasRetry.get (FE_STATUS_CTL_PEND 0))]))
    | _ => false) = true := by decide +kernel

def w_calSecond : State := { (at_ [(CAL_CTRL_EN 1, 1), (FE_STATUS_LINK 1, 2), (CAL_CTRL_INJ_SKEW 1, 0xFFFE)]) with gnss := { fe1 := { relocked := false } } }

theorem test_calSecond : ((w_calSecond.stopSafe = true) ∧ (1 < 2) ∧ (7 = quant ({ held := true, loops := [6, 8], cn0 := 90 } : CalMeas).loops.sum ({ held := true, loops := [6, 8], cn0 := 90 } : CalMeas).loops.length) ∧ (100 = quant ({ held := true, loops := [100], cn0 := 80 } : CalMeas).loops.sum ({ held := true, loops := [100], cn0 := 80 } : CalMeas).loops.length) ∧ (w_calSecond.calValid 1 ({ held := true, loops := [6, 8], cn0 := 90 } : CalMeas) = true) ∧ (w_calSecond.calValid 1 ({ held := true, loops := [100], cn0 := 80 } : CalMeas) = true) ∧ (¬((w_calSecond.feSt 1).first1 = false ∧ ((w_calSecond.get (CAL_CTRL_STEP 1) : Int) * 100 < 7 - w_calSecond.getS (CAL_LOOP_L1_LOOP 1) ∨ (w_calSecond.get (CAL_CTRL_STEP 1) : Int) * 100 < w_calSecond.getS (CAL_LOOP_L1_LOOP 1) - 7))) ∧ (¬((w_calSecond.feSt 1).first5 = false ∧ ((w_calSecond.get (CAL_CTRL_STEP 1) : Int) * 100 < 100 - w_calSecond.getS (CAL_LOOP_L5_LOOP 1) ∨ (w_calSecond.get (CAL_CTRL_STEP 1) : Int) * 100 < w_calSecond.getS (CAL_LOOP_L5_LOOP 1) - 100)))) ∧ (match exec (.calSecond 1 ({ held := true, loops := [6, 8], cn0 := 90 } : CalMeas) ({ held := true, loops := [100], cn0 := 80 } : CalMeas)) w_calSecond with
    | .next t => decide ((Reads t [(CAL_STATUS_VALID_L1 1, 1), (CAL_STATUS_VALID_L5 1, 1), (CAL_STATUS_AGE 1, 0), (CAL_LOOP_L1_LOOP 1, usgn 32 7), (CAL_LOOP_L5_LOOP 1, usgn 32 100), (CAL_IFB_IFB 1, usgn 32 (7 - 100 - w_calSecond.getS (CAL_CTRL_INJ_SKEW 1))), (CAL_RX_L1_RX_DELAY 1, usgn 32 (7 - (w_calSecond.get (CAL_FWD_FWD 1) : Int))), (CAL_RX_L5_RX_DELAY 1, usgn 32 (100 - (w_calSecond.get (CAL_FWD_FWD 1) : Int))), (CAL_STATUS_CN0_L1 1, ({ held := true, loops := [6, 8], cn0 := 90 } : CalMeas).cn0 % 256), (CAL_STATUS_CN0_L5 1, ({ held := true, loops := [100], cn0 := 80 } : CalMeas).cn0 % 256)]) ∧ (t.feSt 1 = { w_calSecond.feSt 1 with relocked := false, first1 := false, first5 := false, ifbUse := true, ifbPly := w_calSecond.ply }))
    | _ => false) = true := by decide +kernel

def w_calSecond_l1 : State := { (at_ [(CAL_CTRL_EN 1, 1), (FE_STATUS_LINK 1, 2), (CAL_CTRL_STEP 1, 0)]) with gnss := { fe1 := { relocked := false, first1 := false } } }

theorem test_calSecond_l1 : ((w_calSecond_l1.stopSafe = true) ∧ (1 < 2) ∧ (7 = quant ({ held := true, loops := [6, 8], cn0 := 90 } : CalMeas).loops.sum ({ held := true, loops := [6, 8], cn0 := 90 } : CalMeas).loops.length) ∧ (w_calSecond_l1.calValid 1 ({ held := true, loops := [6, 8], cn0 := 90 } : CalMeas) = true) ∧ (w_calSecond_l1.calValid 1 ({ held := false, loops := [], cn0 := 80 } : CalMeas) = false)) ∧ (match exec (.calSecond 1 ({ held := true, loops := [6, 8], cn0 := 90 } : CalMeas) ({ held := false, loops := [], cn0 := 80 } : CalMeas)) w_calSecond_l1 with
    | .next t => decide ((Reads t [(CAL_STATUS_VALID_L1 1, 1), (CAL_STATUS_VALID_L5 1, 0), (CAL_STATUS_AGE 1, 0), (CAL_STATUS_STEP 1, if ((w_calSecond_l1.feSt 1).first1 = false ∧ ((w_calSecond_l1.get (CAL_CTRL_STEP 1) : Int) * 100 < 7 - w_calSecond_l1.getS (CAL_LOOP_L1_LOOP 1) ∨ (w_calSecond_l1.get (CAL_CTRL_STEP 1) : Int) * 100 < w_calSecond_l1.getS (CAL_LOOP_L1_LOOP 1) - 7)) then 1 else w_calSecond_l1.get (CAL_STATUS_STEP 1)), (CAL_LOOP_L1_LOOP 1, usgn 32 7), (CAL_STATUS_CN0_L1 1, ({ held := true, loops := [6, 8], cn0 := 90 } : CalMeas).cn0 % 256), (CAL_STATUS_CN0_L5 1, ({ held := false, loops := [], cn0 := 80 } : CalMeas).cn0 % 256)]) ∧ (t.evr = (if ((w_calSecond_l1.feSt 1).first1 = false ∧ ((w_calSecond_l1.get (CAL_CTRL_STEP 1) : Int) * 100 < 7 - w_calSecond_l1.getS (CAL_LOOP_L1_LOOP 1) ∨ (w_calSecond_l1.get (CAL_CTRL_STEP 1) : Int) * 100 < w_calSecond_l1.getS (CAL_LOOP_L1_LOOP 1) - 7)) then (w_calSecond_l1.record .calStep [1]).evr else w_calSecond_l1.evr)) ∧ (t.feSt 1 = { w_calSecond_l1.feSt 1 with relocked := false, first1 := false }))
    | _ => false) = true := by decide +kernel

def w_calSecond_l5 : State := { (at_ [(CAL_CTRL_EN 1, 1), (FE_STATUS_LINK 1, 2), (CAL_CTRL_STEP 1, 20)]) with gnss := { fe1 := { relocked := false } } }

theorem test_calSecond_l5 : ((w_calSecond_l5.stopSafe = true) ∧ (1 < 2) ∧ (100 = quant ({ held := true, loops := [100], cn0 := 80 } : CalMeas).loops.sum ({ held := true, loops := [100], cn0 := 80 } : CalMeas).loops.length) ∧ (w_calSecond_l5.calValid 1 ({ held := true, loops := [100], cn0 := 80 } : CalMeas) = true) ∧ (w_calSecond_l5.calValid 1 ({ held := false, loops := [], cn0 := 80 } : CalMeas) = false)) ∧ (match exec (.calSecond 1 ({ held := false, loops := [], cn0 := 80 } : CalMeas) ({ held := true, loops := [100], cn0 := 80 } : CalMeas)) w_calSecond_l5 with
    | .next t => decide ((Reads t [(CAL_STATUS_VALID_L5 1, 1), (CAL_STATUS_VALID_L1 1, 0), (CAL_STATUS_AGE 1, 0), (CAL_STATUS_STEP 1, if ((w_calSecond_l5.feSt 1).first5 = false ∧ ((w_calSecond_l5.get (CAL_CTRL_STEP 1) : Int) * 100 < 100 - w_calSecond_l5.getS (CAL_LOOP_L5_LOOP 1) ∨ (w_calSecond_l5.get (CAL_CTRL_STEP 1) : Int) * 100 < w_calSecond_l5.getS (CAL_LOOP_L5_LOOP 1) - 100)) then 1 else w_calSecond_l5.get (CAL_STATUS_STEP 1)), (CAL_LOOP_L5_LOOP 1, usgn 32 100), (CAL_STATUS_CN0_L1 1, ({ held := false, loops := [], cn0 := 80 } : CalMeas).cn0 % 256), (CAL_STATUS_CN0_L5 1, ({ held := true, loops := [100], cn0 := 80 } : CalMeas).cn0 % 256)]) ∧ (t.evr = (if ((w_calSecond_l5.feSt 1).first5 = false ∧ ((w_calSecond_l5.get (CAL_CTRL_STEP 1) : Int) * 100 < 100 - w_calSecond_l5.getS (CAL_LOOP_L5_LOOP 1) ∨ (w_calSecond_l5.get (CAL_CTRL_STEP 1) : Int) * 100 < w_calSecond_l5.getS (CAL_LOOP_L5_LOOP 1) - 100)) then (w_calSecond_l5.record .calStep [1]).evr else w_calSecond_l5.evr)) ∧ (t.feSt 1 = { w_calSecond_l5.feSt 1 with relocked := false, first5 := false }))
    | _ => false) = true := by decide +kernel

def w_calSecond_none : State := at_ [(CAL_STATUS_VALID_L1 0, 1), (CAL_LOOP_L1_LOOP 0, 9)]

theorem test_calSecond_none : ((w_calSecond_none.stopSafe = true) ∧ (0 < 2) ∧ (w_calSecond_none.calValid 0 ({ held := true, loops := [6, 8], cn0 := 90 } : CalMeas) = false) ∧ (w_calSecond_none.calValid 0 ({ held := true, loops := [100], cn0 := 80 } : CalMeas) = false)) ∧ (match exec (.calSecond 0 ({ held := true, loops := [6, 8], cn0 := 90 } : CalMeas) ({ held := true, loops := [100], cn0 := 80 } : CalMeas)) w_calSecond_none with
    | .next t => decide ((Reads t [(CAL_STATUS_VALID_L1 0, 0), (CAL_STATUS_VALID_L5 0, 0), (CAL_STATUS_AGE 0, w_calSecond_none.adv (CAL_STATUS_AGE 0)), (CAL_STATUS_CN0_L1 0, ({ held := true, loops := [6, 8], cn0 := 90 } : CalMeas).cn0 % 256), (CAL_STATUS_CN0_L5 0, ({ held := true, loops := [100], cn0 := 80 } : CalMeas).cn0 % 256)]) ∧ (t.feSt 0 = { w_calSecond_none.feSt 0 with relocked := w_calSecond_none.get (FE_STATUS_LINK 0) != 2 }))
    | _ => false) = true := by decide +kernel

def w_acqEntrySubmit : State := at_ [(ACQ_ENT_W3_STATE 63, 0), (ACQ_ENT_W0_CHANNEL 63, 7), (CH_STATUS_STATE 7, 0), (ACQ_ENT_W0_NNC 63, 1), (ACQ_ENT_W0_TCOH_MS 63, 1), (ACQ_THRESH_THRESH 1, 640), (ACQ_ENT_W2_DOPP_HALF 63, 1000)]

theorem test_acqEntrySubmit : ((w_acqEntrySubmit.stopSafe = true) ∧ (63 < 64) ∧ (MayWrite w_acqEntrySubmit 0x10 (acqStateAddr 63)) ∧ (w_acqEntrySubmit.acqIdle 63 = true) ∧ (w_acqEntrySubmit.acqBadParam 63 = false) ∧ (w_acqEntrySubmit.get (CH_STATUS_STATE (w_acqEntrySubmit.get (ACQ_ENT_W0_CHANNEL 63))) = 0)) ∧ (match exec (.acqEntrySubmit 0x10 63) w_acqEntrySubmit with
    | .next t => decide ((Reads t [(ACQ_ENT_W3_STATE 63, 1), (ACQ_ENT_W3_CAUSE 63, 0), (CH_STATUS_STATE (w_acqEntrySubmit.get (ACQ_ENT_W0_CHANNEL 63)), 1), (ACQ_RES_W1_DWELLS 63, 0)]))
    | _ => false) = true := by decide +kernel

theorem test_acqEntrySubmit_bad : ((wReset.stopSafe = true) ∧ (0 < 64) ∧ (MayWrite wReset 0x10 (acqStateAddr 0)) ∧ (wReset.acqIdle 0 = true) ∧ (wReset.acqBadParam 0 = true ∨ wReset.get (CH_STATUS_STATE (wReset.get (ACQ_ENT_W0_CHANNEL 0))) ≠ 0)) ∧ (match exec (.acqEntrySubmit 0x10 0) wReset with
    | .next t => decide ((Reads t [(ACQ_ENT_W3_STATE 0, 7), (ACQ_ENT_W3_CAUSE 0, if wReset.acqBadParam 0 then 3 else 4)]))
    | _ => false) = true := by decide +kernel

def w_acqEntrySubmit_open : State := at_ [(ACQ_ENT_W3_STATE 4, 2), (ACQ_ENT_W0_CHANNEL 4, 7), (CH_STATUS_STATE 7, 1), (ACQ_ENT_W0_NNC 4, 1), (ACQ_ENT_W0_TCOH_MS 4, 1), (ACQ_THRESH_THRESH 1, 640), (ACQ_ENT_W2_DOPP_HALF 4, 1000)]

theorem test_acqEntrySubmit_open : ((w_acqEntrySubmit_open.stopSafe = true) ∧ (4 < 64) ∧ (MayWrite w_acqEntrySubmit_open 0x10 (acqStateAddr 4)) ∧ (w_acqEntrySubmit_open.acqIdle 4 = false)) ∧ (match exec (.acqEntrySubmit 0x10 4) w_acqEntrySubmit_open with
    | .next t => decide ((Reads t [(ACQ_ENT_W3_STATE 4, w_acqEntrySubmit_open.get (ACQ_ENT_W3_STATE 4))]))
    | _ => false) = true := by decide +kernel

def w_acqEntryCancel : State := at_ [(ACQ_ENT_W3_STATE 4, 2), (ACQ_ENT_W0_CHANNEL 4, 7), (CH_STATUS_STATE 7, 1), (ACQ_ENT_W0_NNC 4, 1), (ACQ_ENT_W0_TCOH_MS 4, 1), (ACQ_THRESH_THRESH 1, 640), (ACQ_ENT_W2_DOPP_HALF 4, 1000)]

theorem test_acqEntryCancel : ((w_acqEntryCancel.stopSafe = true) ∧ (4 < 64) ∧ (MayWrite w_acqEntryCancel 0x10 (acqStateAddr 4)) ∧ (w_acqEntryCancel.get (ACQ_ENT_W3_STATE 4) = 2 ∨ w_acqEntryCancel.get (ACQ_ENT_W3_STATE 4) = 3)) ∧ (match exec (.acqEntryCancel 0x10 4) w_acqEntryCancel with
    | .next t => decide ((Reads t [(ACQ_ENT_W3_STATE 4, 6), (ACQ_ENT_W3_CAUSE 4, 0), (ACQ_STATUS_BUSY, 0), (CH_STATUS_STATE (w_acqEntryCancel.get (ACQ_ENT_W0_CHANNEL 4)), if w_acqEntryCancel.get (CH_STATUS_STATE (w_acqEntryCancel.get (ACQ_ENT_W0_CHANNEL 4))) = 1 then 0 else w_acqEntryCancel.get (CH_STATUS_STATE (w_acqEntryCancel.get (ACQ_ENT_W0_CHANNEL 4))))]))
    | _ => false) = true := by decide +kernel

def w_acqEntryCancel_pending : State := at_ [(ACQ_ENT_W3_STATE 4, 1), (ACQ_ENT_W0_CHANNEL 4, 7), (CH_STATUS_STATE 7, 1), (ACQ_ENT_W0_NNC 4, 1), (ACQ_ENT_W0_TCOH_MS 4, 1), (ACQ_THRESH_THRESH 1, 640), (ACQ_ENT_W2_DOPP_HALF 4, 1000)]

theorem test_acqEntryCancel_pending : ((w_acqEntryCancel_pending.stopSafe = true) ∧ (4 < 64) ∧ (MayWrite w_acqEntryCancel_pending 0x10 (acqStateAddr 4)) ∧ (w_acqEntryCancel_pending.get (ACQ_ENT_W3_STATE 4) = 1)) ∧ (match exec (.acqEntryCancel 0x10 4) w_acqEntryCancel_pending with
    | .next t => decide ((Reads t [(ACQ_ENT_W3_STATE 4, 6), (ACQ_ENT_W3_CAUSE 4, 0), (CH_STATUS_STATE (w_acqEntryCancel_pending.get (ACQ_ENT_W0_CHANNEL 4)), if w_acqEntryCancel_pending.get (CH_STATUS_STATE (w_acqEntryCancel_pending.get (ACQ_ENT_W0_CHANNEL 4))) = 1 then 0 else w_acqEntryCancel_pending.get (CH_STATUS_STATE (w_acqEntryCancel_pending.get (ACQ_ENT_W0_CHANNEL 4))))]))
    | _ => false) = true := by decide +kernel

def w_acqEntryCancel_idle : State := at_ [(ACQ_ENT_W3_STATE 4, 5), (ACQ_ENT_W0_CHANNEL 4, 7), (CH_STATUS_STATE 7, 0), (ACQ_ENT_W0_NNC 4, 1), (ACQ_ENT_W0_TCOH_MS 4, 1), (ACQ_THRESH_THRESH 1, 640), (ACQ_ENT_W2_DOPP_HALF 4, 1000)]

theorem test_acqEntryCancel_idle : ((w_acqEntryCancel_idle.stopSafe = true) ∧ (4 < 64) ∧ (MayWrite w_acqEntryCancel_idle 0x10 (acqStateAddr 4)) ∧ (w_acqEntryCancel_idle.acqIdle 4 = true)) ∧ (match exec (.acqEntryCancel 0x10 4) w_acqEntryCancel_idle with
    | .next t => decide ((Reads t [(ACQ_ENT_W3_STATE 4, w_acqEntryCancel_idle.get (ACQ_ENT_W3_STATE 4))]))
    | _ => false) = true := by decide +kernel

def w_acqEntryClear : State := at_ [(ACQ_ENT_W3_STATE 4, 5), (ACQ_ENT_W0_CHANNEL 4, 7), (CH_STATUS_STATE 7, 0), (ACQ_ENT_W0_NNC 4, 1), (ACQ_ENT_W0_TCOH_MS 4, 1), (ACQ_THRESH_THRESH 1, 640), (ACQ_ENT_W2_DOPP_HALF 4, 1000)]

theorem test_acqEntryClear : ((w_acqEntryClear.stopSafe = true) ∧ (4 < 64) ∧ (MayWrite w_acqEntryClear 0x10 (acqStateAddr 4)) ∧ (4 ≤ w_acqEntryClear.get (ACQ_ENT_W3_STATE 4))) ∧ (match exec (.acqEntryClear 0x10 4) w_acqEntryClear with
    | .next t => decide ((Reads t [(ACQ_ENT_W3_STATE 4, 0), (ACQ_ENT_W3_CAUSE 4, 0)]))
    | _ => false) = true := by decide +kernel

def w_acqEntryClear_open : State := at_ [(ACQ_ENT_W3_STATE 4, 2), (ACQ_ENT_W0_CHANNEL 4, 7), (CH_STATUS_STATE 7, 1), (ACQ_ENT_W0_NNC 4, 1), (ACQ_ENT_W0_TCOH_MS 4, 1), (ACQ_THRESH_THRESH 1, 640), (ACQ_ENT_W2_DOPP_HALF 4, 1000)]

theorem test_acqEntryClear_open : ((w_acqEntryClear_open.stopSafe = true) ∧ (4 < 64) ∧ (MayWrite w_acqEntryClear_open 0x10 (acqStateAddr 4)) ∧ (w_acqEntryClear_open.get (ACQ_ENT_W3_STATE 4) < 4)) ∧ (match exec (.acqEntryClear 0x10 4) w_acqEntryClear_open with
    | .next t => decide ((Reads t [(ACQ_ENT_W3_STATE 4, w_acqEntryClear_open.get (ACQ_ENT_W3_STATE 4))]))
    | _ => false) = true := by decide +kernel

def w_acqEntrySelect : State := at_ [(ACQ_CTRL_EN, 1), (ACQ_ENT_W3_STATE 3, 1), (ACQ_ENT_W3_STATE 9, 1), (ACQ_ENT_W0_REACQ 9, 1), (FE_STATUS_LINK 0, 2), (ACQ_ENT_W0_NNC 9, 1), (ACQ_ENT_W0_TCOH_MS 9, 1), (ACQ_THRESH_THRESH 1, 640)]

theorem test_acqEntrySelect : ((w_acqEntrySelect.stopSafe = true) ∧ (w_acqEntrySelect.acqServing = none) ∧ (w_acqEntrySelect.acqNext = some 9) ∧ (w_acqEntrySelect.bit ACQ_CTRL_EN = true) ∧ (w_acqEntrySelect.acqBadParam 9 = false) ∧ (w_acqEntrySelect.lossOf (w_acqEntrySelect.get (ACQ_ENT_W0_CHANNEL 9)) = none ∨ w_acqEntrySelect.bit (ACQ_ENT_W0_REACQ 9) = false ∨ (w_acqEntrySelect.acqPos 9).dwell ≠ 0)) ∧ (match exec (.acqEntrySelect) w_acqEntrySelect with
    | .next t => decide ((Reads t [(ACQ_ENT_W3_STATE 9, 2), (ACQ_STATUS_ENTRY, 9), (ACQ_STATUS_BUSY, b2n (w_acqEntrySelect.get (FE_STATUS_LINK (w_acqEntrySelect.get (ACQ_ENT_W0_FE 9))) == 2))]))
    | _ => false) = true := by decide +kernel

def w_acqEntrySelect_reacq : State := { (at_ [(ACQ_CTRL_EN, 1), (ACQ_ENT_W3_STATE 9, 1), (ACQ_ENT_W0_REACQ 9, 1), (ACQ_ENT_W0_NNC 9, 1), (ACQ_ENT_W0_TCOH_MS 9, 1), (ACQ_THRESH_THRESH 1, 640)]) with gnss := { lost := [⟨0, 0, 65536, 0⟩] } }

theorem test_acqEntrySelect_reacq : (w_acqEntrySelect_reacq.stopSafe = true) ∧ (w_acqEntrySelect_reacq.acqServing = none) ∧ (w_acqEntrySelect_reacq.acqNext = some 9) ∧ (w_acqEntrySelect_reacq.bit ACQ_CTRL_EN = true) ∧ (w_acqEntrySelect_reacq.acqBadParam 9 = false) ∧ (w_acqEntrySelect_reacq.lossOf (w_acqEntrySelect_reacq.get (ACQ_ENT_W0_CHANNEL 9)) = some (⟨0, 0, 65536, 0⟩ : LossRec)) ∧ (w_acqEntrySelect_reacq.bit (ACQ_ENT_W0_REACQ 9) = true) ∧ ((w_acqEntrySelect_reacq.acqPos 9).dwell = 0) := by decide +kernel

def w_acqEntrySelect_bad : State := at_ [(ACQ_CTRL_EN, 1), (ACQ_ENT_W3_STATE 9, 1)]

theorem test_acqEntrySelect_bad : ((w_acqEntrySelect_bad.stopSafe = true) ∧ (w_acqEntrySelect_bad.acqServing = none) ∧ (w_acqEntrySelect_bad.acqNext = some 9) ∧ (w_acqEntrySelect_bad.bit ACQ_CTRL_EN = true) ∧ (w_acqEntrySelect_bad.acqBadParam 9 = true)) ∧ (match exec (.acqEntrySelect) w_acqEntrySelect_bad with
    | .next t => decide ((Reads t [(ACQ_ENT_W3_STATE 9, 7), (ACQ_ENT_W3_CAUSE 9, 3), (CH_STATUS_STATE (w_acqEntrySelect_bad.get (ACQ_ENT_W0_CHANNEL 9)), if w_acqEntrySelect_bad.get (CH_STATUS_STATE (w_acqEntrySelect_bad.get (ACQ_ENT_W0_CHANNEL 9))) = 1 then 0 else w_acqEntrySelect_bad.get (CH_STATUS_STATE (w_acqEntrySelect_bad.get (ACQ_ENT_W0_CHANNEL 9))))]))
    | _ => false) = true := by decide +kernel

def w_acqLinkWaitExpiry : State := { (at_ [(ACQ_ENT_W3_STATE 4, 2), (ACQ_ENT_W0_CHANNEL 4, 7), (CH_STATUS_STATE 7, 1), (ACQ_ENT_W0_NNC 4, 1), (ACQ_ENT_W0_TCOH_MS 4, 1), (ACQ_THRESH_THRESH 1, 640), (ACQ_ENT_W2_DOPP_HALF 4, 1000)]) with ply := 100003, gnss := { acq := { waitAt := some 3 } } }

theorem test_acqLinkWaitExpiry : ((w_acqLinkWaitExpiry.stopSafe = true) ∧ (w_acqLinkWaitExpiry.acqServing = some 4) ∧ (w_acqLinkWaitExpiry.gnss.acq.waitAt = some 3) ∧ (3 + 100000 ≤ w_acqLinkWaitExpiry.ply) ∧ (w_acqLinkWaitExpiry.lossOf (w_acqLinkWaitExpiry.get (ACQ_ENT_W0_CHANNEL 4)) = none)) ∧ (match exec (.acqLinkWaitExpiry) w_acqLinkWaitExpiry with
    | .next t => decide ((Reads t [(ACQ_ENT_W3_STATE 4, 5), (ACQ_ENT_W3_CAUSE 4, 2), (ACQ_STATUS_BUSY, 0), (CH_STATUS_STATE (w_acqLinkWaitExpiry.get (ACQ_ENT_W0_CHANNEL 4)), if w_acqLinkWaitExpiry.get (CH_STATUS_STATE (w_acqLinkWaitExpiry.get (ACQ_ENT_W0_CHANNEL 4))) = 1 then 0 else w_acqLinkWaitExpiry.get (CH_STATUS_STATE (w_acqLinkWaitExpiry.get (ACQ_ENT_W0_CHANNEL 4))))]))
    | _ => false) = true := by decide +kernel

def w_acqEngineDisable : State := at_ [(ACQ_ENT_W3_STATE 4, 2), (ACQ_ENT_W0_CHANNEL 4, 7), (CH_STATUS_STATE 7, 1), (ACQ_ENT_W0_NNC 4, 1), (ACQ_ENT_W0_TCOH_MS 4, 1), (ACQ_THRESH_THRESH 1, 640), (ACQ_ENT_W2_DOPP_HALF 4, 1000), (ACQ_STATUS_BUSY, 1), (ACQ_CTRL_EN, 1)]

theorem test_acqEngineDisable : ((w_acqEngineDisable.stopSafe = true) ∧ (MayWrite w_acqEngineDisable 0x10 0x40100800) ∧ (bitOf 0x2200 31 = false) ∧ (1 ≤ bits 0x2200 11 8) ∧ (bits 0x2200 11 8 ≤ bits 0x2200 15 12) ∧ (bits 0x2200 15 12 ≤ 8) ∧ (w_acqEngineDisable.bit ACQ_CTRL_EN = true) ∧ (w_acqEngineDisable.acqServing = some 4)) ∧ (match exec (.acqEngineDisable 0x10 0x2200) w_acqEngineDisable with
    | .next t => decide ((Reads t [(ACQ_CTRL_EN, 0), (ACQ_CTRL_VERIFY_N, bits 0x2200 15 12), (ACQ_CTRL_VERIFY_M, bits 0x2200 11 8), (ACQ_CTRL_EXCLUDE, bits 0x2200 7 0), (ACQ_ENT_W3_STATE 4, 1), (ACQ_STATUS_BUSY, 0)]) ∧ (t.gnss.acq.waitAt = none) ∧ (t.acqPos 4 = { w_acqEngineDisable.acqPos 4 with verRun := 0, verPass := 0 }))
    | _ => false) = true := by decide +kernel

def w_acqEngineDisable_free : State := at_ [(ACQ_CTRL_EN, 1)]

theorem test_acqEngineDisable_free : ((w_acqEngineDisable_free.stopSafe = true) ∧ (MayWrite w_acqEngineDisable_free 0x10 0x40100800) ∧ (bitOf 0x2201 31 = false) ∧ (1 ≤ bits 0x2201 11 8) ∧ (bits 0x2201 11 8 ≤ bits 0x2201 15 12) ∧ (bits 0x2201 15 12 ≤ 8) ∧ (w_acqEngineDisable_free.bit ACQ_CTRL_EN = false ∨ w_acqEngineDisable_free.acqServing = none)) ∧ (match exec (.acqEngineDisable 0x10 0x2201) w_acqEngineDisable_free with
    | .next t => decide ((Reads t [(ACQ_CTRL_EN, 0), (ACQ_CTRL_VERIFY_N, bits 0x2201 15 12), (ACQ_CTRL_VERIFY_M, bits 0x2201 11 8), (ACQ_CTRL_EXCLUDE, bits 0x2201 7 0)]))
    | _ => false) = true := by decide +kernel

def w_acqDwellEnd_hit : State := at_ [(ACQ_ENT_W3_STATE 4, 2), (ACQ_ENT_W0_CHANNEL 4, 7), (CH_STATUS_STATE 7, 1), (ACQ_ENT_W0_NNC 4, 1), (ACQ_ENT_W0_TCOH_MS 4, 1), (ACQ_THRESH_THRESH 1, 640), (ACQ_ENT_W2_DOPP_HALF 4, 1000), (ACQ_STATUS_BUSY, 1), (ACQ_CTRL_EXCLUDE, 1)]

theorem test_acqDwellEnd_hit : ((w_acqDwellEnd_hit.stopSafe = true) ∧ (w_acqDwellEnd_hit.acqServing = some 4) ∧ (w_acqDwellEnd_hit.bit ACQ_STATUS_BUSY = true) ∧ (w_acqDwellEnd_hit.get (ACQ_ENT_W3_STATE 4) = 2) ∧ (({} : AcqPos) = w_acqDwellEnd_hit.acqPos 4) ∧ (1 = w_acqDwellEnd_hit.acqPasses 4) ∧ (((2, 1200) : Nat × Nat) = maxCell (((List.range ([100, 3, 1200, 1, 196] : List Nat).length).zip ([100, 3, 1200, 1, 196] : List Nat)).take (w_acqDwellEnd_hit.acqInWindow 4 (({} : AcqPos).dwell % 1)))) ∧ (w_acqDwellEnd_hit.acqHit 4 ((2, 1200) : Nat × Nat).2 (w_acqDwellEnd_hit.acqNoise ([100, 3, 1200, 1, 196] : List Nat)) = true)) ∧ (match exec (.acqDwellEnd ([100, 3, 1200, 1, 196] : List Nat)) w_acqDwellEnd_hit with
    | .next t => decide ((Reads t [(ACQ_ENT_W3_STATE 4, 3), (ACQ_RES_W0_CELL 4, (w_acqDwellEnd_hit.get (ACQ_ENT_W1_CODE_START 4) + 4096 * (({} : AcqPos).dwell % 1) + ((2, 1200) : Nat × Nat).1) % sigCells (w_acqDwellEnd_hit.get (ACQ_ENT_W0_SIGNAL 4)) % 2 ^ 16), (ACQ_RES_W1_PEAK 4, peakOf ((2, 1200) : Nat × Nat).2 (w_acqDwellEnd_hit.acqNoise ([100, 3, 1200, 1, 196] : List Nat))), (ACQ_RES_W0_DOPP 4, usgn 16 (quantQ (w_acqDwellEnd_hit.acqBinHz 4 (({} : AcqPos).dwell / 1)))), (ACQ_RES_W1_DWELLS 4, w_acqDwellEnd_hit.adv (ACQ_RES_W1_DWELLS 4))]))
    | _ => false) = true := by decide +kernel

def w_acqDwellEnd_next : State := at_ [(ACQ_ENT_W3_STATE 4, 2), (ACQ_ENT_W0_CHANNEL 4, 7), (CH_STATUS_STATE 7, 1), (ACQ_ENT_W0_NNC 4, 1), (ACQ_ENT_W0_TCOH_MS 4, 1), (ACQ_THRESH_THRESH 1, 640), (ACQ_ENT_W2_DOPP_HALF 4, 1000), (ACQ_STATUS_BUSY, 1), (ACQ_CTRL_EXCLUDE, 1)]

theorem test_acqDwellEnd_next : ((w_acqDwellEnd_next.stopSafe = true) ∧ (w_acqDwellEnd_next.acqServing = some 4) ∧ (w_acqDwellEnd_next.bit ACQ_STATUS_BUSY = true) ∧ (w_acqDwellEnd_next.get (ACQ_ENT_W3_STATE 4) = 2) ∧ (({} : AcqPos) = w_acqDwellEnd_next.acqPos 4) ∧ (1 = w_acqDwellEnd_next.acqPasses 4) ∧ (((2, 90) : Nat × Nat) = maxCell (((List.range ([80, 80, 90, 80, 80] : List Nat).length).zip ([80, 80, 90, 80, 80] : List Nat)).take (w_acqDwellEnd_next.acqInWindow 4 (({} : AcqPos).dwell % 1)))) ∧ (w_acqDwellEnd_next.acqHit 4 ((2, 90) : Nat × Nat).2 (w_acqDwellEnd_next.acqNoise ([80, 80, 90, 80, 80] : List Nat)) = false) ∧ (({} : AcqPos).dwell + 1 < 1 * w_acqDwellEnd_next.acqBins 4)) ∧ (match exec (.acqDwellEnd ([80, 80, 90, 80, 80] : List Nat)) w_acqDwellEnd_next with
    | .next t => decide ((Reads t [(ACQ_ENT_W3_STATE 4, 2), (ACQ_RES_W1_DWELLS 4, w_acqDwellEnd_next.adv (ACQ_RES_W1_DWELLS 4))]))
    | _ => false) = true := by decide +kernel

def w_acqDwellEnd_exhausted : State := { (at_ [(ACQ_ENT_W3_STATE 4, 2), (ACQ_ENT_W0_CHANNEL 4, 7), (CH_STATUS_STATE 7, 1), (ACQ_ENT_W0_NNC 4, 1), (ACQ_ENT_W0_TCOH_MS 4, 1), (ACQ_THRESH_THRESH 1, 640), (ACQ_ENT_W2_DOPP_HALF 4, 1000), (ACQ_STATUS_BUSY, 1), (ACQ_CTRL_EXCLUDE, 1)]) with gnss := { acq := { pos := [(4, { dwell := 4 })] } } }

theorem test_acqDwellEnd_exhausted : ((w_acqDwellEnd_exhausted.stopSafe = true) ∧ (w_acqDwellEnd_exhausted.acqServing = some 4) ∧ (w_acqDwellEnd_exhausted.bit ACQ_STATUS_BUSY = true) ∧ (w_acqDwellEnd_exhausted.get (ACQ_ENT_W3_STATE 4) = 2) ∧ (({ dwell := 4 } : AcqPos) = w_acqDwellEnd_exhausted.acqPos 4) ∧ (1 = w_acqDwellEnd_exhausted.acqPasses 4) ∧ (((2, 90) : Nat × Nat) = maxCell (((List.range ([80, 80, 90, 80, 80] : List Nat).length).zip ([80, 80, 90, 80, 80] : List Nat)).take (w_acqDwellEnd_exhausted.acqInWindow 4 (({ dwell := 4 } : AcqPos).dwell % 1)))) ∧ (w_acqDwellEnd_exhausted.acqHit 4 ((2, 90) : Nat × Nat).2 (w_acqDwellEnd_exhausted.acqNoise ([80, 80, 90, 80, 80] : List Nat)) = false) ∧ (1 * w_acqDwellEnd_exhausted.acqBins 4 ≤ ({ dwell := 4 } : AcqPos).dwell + 1) ∧ (w_acqDwellEnd_exhausted.lossOf (w_acqDwellEnd_exhausted.get (ACQ_ENT_W0_CHANNEL 4)) = none)) ∧ (match exec (.acqDwellEnd ([80, 80, 90, 80, 80] : List Nat)) w_acqDwellEnd_exhausted with
    | .next t => decide ((Reads t [(ACQ_ENT_W3_STATE 4, 5), (ACQ_ENT_W3_CAUSE 4, 1), (ACQ_STATUS_BUSY, 0), (CH_STATUS_STATE (w_acqDwellEnd_exhausted.get (ACQ_ENT_W0_CHANNEL 4)), if w_acqDwellEnd_exhausted.get (CH_STATUS_STATE (w_acqDwellEnd_exhausted.get (ACQ_ENT_W0_CHANNEL 4))) = 1 then 0 else w_acqDwellEnd_exhausted.get (CH_STATUS_STATE (w_acqDwellEnd_exhausted.get (ACQ_ENT_W0_CHANNEL 4)))), (ACQ_RES_W1_DWELLS 4, w_acqDwellEnd_exhausted.adv (ACQ_RES_W1_DWELLS 4))]))
    | _ => false) = true := by decide +kernel

def w_acqDwellEnd_verify : State := at_ [(ACQ_ENT_W3_STATE 4, 3), (ACQ_ENT_W0_CHANNEL 4, 7), (CH_STATUS_STATE 7, 1), (ACQ_ENT_W0_NNC 4, 1), (ACQ_ENT_W0_TCOH_MS 4, 1), (ACQ_THRESH_THRESH 1, 640), (ACQ_ENT_W2_DOPP_HALF 4, 1000), (ACQ_STATUS_BUSY, 1), (ACQ_CTRL_EXCLUDE, 1), (ACQ_CTRL_VERIFY_M, 2), (ACQ_CTRL_VERIFY_N, 3)]

theorem test_acqDwellEnd_verify : ((w_acqDwellEnd_verify.stopSafe = true) ∧ (w_acqDwellEnd_verify.acqServing = some 4) ∧ (w_acqDwellEnd_verify.bit ACQ_STATUS_BUSY = true) ∧ (w_acqDwellEnd_verify.get (ACQ_ENT_W3_STATE 4) = 3) ∧ (({} : AcqPos) = w_acqDwellEnd_verify.acqPos 4) ∧ (false = w_acqDwellEnd_verify.acqNear 4 ([80, 80, 90, 80, 80] : List Nat)) ∧ (({} : AcqPos).verPass + b2n false < w_acqDwellEnd_verify.get ACQ_CTRL_VERIFY_M) ∧ (w_acqDwellEnd_verify.get ACQ_CTRL_VERIFY_M - (({} : AcqPos).verPass + b2n false) ≤ w_acqDwellEnd_verify.get ACQ_CTRL_VERIFY_N - (({} : AcqPos).verRun + 1))) ∧ (match exec (.acqDwellEnd ([80, 80, 90, 80, 80] : List Nat)) w_acqDwellEnd_verify with
    | .next t => decide ((Reads t [(ACQ_RES_W1_DWELLS 4, w_acqDwellEnd_verify.adv (ACQ_RES_W1_DWELLS 4))]))
    | _ => false) = true := by decide +kernel

def w_acqDwellEnd_fail : State := at_ [(ACQ_ENT_W3_STATE 4, 3), (ACQ_ENT_W0_CHANNEL 4, 7), (CH_STATUS_STATE 7, 1), (ACQ_ENT_W0_NNC 4, 1), (ACQ_ENT_W0_TCOH_MS 4, 1), (ACQ_THRESH_THRESH 1, 640), (ACQ_ENT_W2_DOPP_HALF 4, 1000), (ACQ_STATUS_BUSY, 1), (ACQ_CTRL_EXCLUDE, 1), (ACQ_CTRL_VERIFY_M, 2), (ACQ_CTRL_VERIFY_N, 2)]

theorem test_acqDwellEnd_fail : ((w_acqDwellEnd_fail.stopSafe = true) ∧ (w_acqDwellEnd_fail.acqServing = some 4) ∧ (w_acqDwellEnd_fail.bit ACQ_STATUS_BUSY = true) ∧ (w_acqDwellEnd_fail.get (ACQ_ENT_W3_STATE 4) = 3) ∧ (({} : AcqPos) = w_acqDwellEnd_fail.acqPos 4) ∧ (false = w_acqDwellEnd_fail.acqNear 4 ([80, 80, 90, 80, 80] : List Nat)) ∧ (({} : AcqPos).verPass + b2n false < w_acqDwellEnd_fail.get ACQ_CTRL_VERIFY_M) ∧ (w_acqDwellEnd_fail.get ACQ_CTRL_VERIFY_N - (({} : AcqPos).verRun + 1) < w_acqDwellEnd_fail.get ACQ_CTRL_VERIFY_M - (({} : AcqPos).verPass + b2n false)) ∧ (({} : AcqPos).dwell + 1 < w_acqDwellEnd_fail.acqPasses 4 * w_acqDwellEnd_fail.acqBins 4)) ∧ (match exec (.acqDwellEnd ([80, 80, 90, 80, 80] : List Nat)) w_acqDwellEnd_fail with
    | .next t => decide ((Reads t [(ACQ_RES_W1_DWELLS 4, w_acqDwellEnd_fail.adv (ACQ_RES_W1_DWELLS 4)), (ACQ_CNT_VERIFY_FAIL, w_acqDwellEnd_fail.adv ACQ_CNT_VERIFY_FAIL), (ACQ_ENT_W3_STATE 4, 2)]))
    | _ => false) = true := by decide +kernel

def w_acqDwellEnd_found : State := at_ [(ACQ_ENT_W3_STATE 4, 3), (ACQ_ENT_W0_CHANNEL 4, 7), (CH_STATUS_STATE 7, 1), (ACQ_ENT_W0_NNC 4, 1), (ACQ_ENT_W0_TCOH_MS 4, 1), (ACQ_THRESH_THRESH 1, 640), (ACQ_ENT_W2_DOPP_HALF 4, 1000), (ACQ_STATUS_BUSY, 1), (ACQ_CTRL_EXCLUDE, 1), (ACQ_CTRL_VERIFY_M, 1), (ACQ_RES_W0_CELL 4, 100)]

theorem test_acqDwellEnd_found : ((w_acqDwellEnd_found.stopSafe = true) ∧ (w_acqDwellEnd_found.acqServing = some 4) ∧ (w_acqDwellEnd_found.bit ACQ_STATUS_BUSY = true) ∧ (w_acqDwellEnd_found.get (ACQ_ENT_W3_STATE 4) = 3) ∧ (({} : AcqPos) = w_acqDwellEnd_found.acqPos 4) ∧ (7 = w_acqDwellEnd_found.get (ACQ_ENT_W0_CHANNEL 4)) ∧ ((0 : Rat) = w_acqDwellEnd_found.acqBinHz 4 (({} : AcqPos).dwell / w_acqDwellEnd_found.acqPasses 4)) ∧ (w_acqDwellEnd_found.acqNear 4 ([80, 80, 1000, 80, 80] : List Nat) = true) ∧ (w_acqDwellEnd_found.get ACQ_CTRL_VERIFY_M ≤ ({} : AcqPos).verPass + 1) ∧ (w_acqDwellEnd_found.gnss.cold = false)) ∧ (match exec (.acqDwellEnd ([80, 80, 1000, 80, 80] : List Nat)) w_acqDwellEnd_found with
    | .next t => decide ((Reads t [(ACQ_ENT_W3_STATE 4, 4), (ACQ_ENT_W3_CAUSE 4, 0), (ACQ_STATUS_BUSY, 0), (ACQ_CNT_FOUND, w_acqDwellEnd_found.adv ACQ_CNT_FOUND), (ACQ_RES_W1_DWELLS 4, w_acqDwellEnd_found.adv (ACQ_RES_W1_DWELLS 4))]) ∧ (Reads t [(CH_STATUS_STATE 7, 2), (CH_STATUS_LOSS_CAUSE 7, 0), (CH_STATUS_TINT_NOW 7, if (w_acqDwellEnd_found.bit (ACQ_ENT_W0_WIPE 4) && !sigData (w_acqDwellEnd_found.get (CH_CFG_SIGNAL 7))) then w_acqDwellEnd_found.get (CH_CFG_TINT_MS 7) % 32 else min (w_acqDwellEnd_found.get (CH_CFG_TINT_MS 7)) (sigPrim (w_acqDwellEnd_found.get (CH_CFG_SIGNAL 7))) % 32), (CH_STATUS_TIME_LEVEL 7, b2n (w_acqDwellEnd_found.bit (ACQ_ENT_W0_WIPE 4) && !sigData (w_acqDwellEnd_found.get (CH_CFG_SIGNAL 7)))), (CH_STATUS_SEC_SYNC 7, b2n (w_acqDwellEnd_found.bit (ACQ_ENT_W0_WIPE 4) && !sigData (w_acqDwellEnd_found.get (CH_CFG_SIGNAL 7)))), (CH_STATUS_HALF_UNRES 7, b2n (sigData (w_acqDwellEnd_found.get (CH_CFG_SIGNAL 7)))), (CH_STATUS_CODE_LOCK 7, 0), (CH_STATUS_CARR_LOCK 7, 0), (CH_STATUS_BIT_SYNC 7, 0), (CH_STATUS_NAV_SYNC 7, 0), (CH_STATUS_PLL_ON 7, 0), (CH_CN0_CN0 7, 0), (CH_CN0_PLI 7, 0), (CH_LOCKT_LOCK_MS 7, 0), (CH_CARR_LO_PHASE 7, 0), (CH_CARR_HI_PHASE 7, 0), (CH_CODE_CODE 7, (w_acqDwellEnd_found.get (ACQ_RES_W0_CELL 4) * (if sigBoc (w_acqDwellEnd_found.get (ACQ_ENT_W0_SIGNAL 4)) then 2 ^ 14 else 2 ^ 15)) % 2 ^ 32), (CH_DOPP_DOPP 7, usgn 32 (quantQ ((0 : Rat) * 1024))), (CH_CNT_SLIP_CNT 7, (w_acqDwellEnd_found.get (CH_CNT_SLIP_CNT 7) + w_acqDwellEnd_found.get (CH_STATUS_CARR_LOCK 7)) % 2 ^ 16)]))
    | _ => false) = true := by decide +kernel

def w_acqDwellEnd_cold : State := { (at_ [(ACQ_ENT_W3_STATE 4, 3), (ACQ_ENT_W0_CHANNEL 4, 7), (CH_STATUS_STATE 7, 1), (ACQ_ENT_W0_NNC 4, 1), (ACQ_ENT_W0_TCOH_MS 4, 1), (ACQ_THRESH_THRESH 1, 640), (ACQ_ENT_W2_DOPP_HALF 4, 1000), (ACQ_STATUS_BUSY, 1), (ACQ_CTRL_EXCLUDE, 1), (ACQ_CTRL_VERIFY_M, 1), (ACQ_RES_W0_CELL 4, 100)]) with gnss := { cold := true } }

theorem test_acqDwellEnd_cold : (w_acqDwellEnd_cold.stopSafe = true) ∧ (w_acqDwellEnd_cold.acqServing = some 4) ∧ (w_acqDwellEnd_cold.bit ACQ_STATUS_BUSY = true) ∧ (w_acqDwellEnd_cold.get (ACQ_ENT_W3_STATE 4) = 3) ∧ (({} : AcqPos) = w_acqDwellEnd_cold.acqPos 4) ∧ (7 = w_acqDwellEnd_cold.get (ACQ_ENT_W0_CHANNEL 4)) ∧ ((0 : Rat) = w_acqDwellEnd_cold.acqBinHz 4 (({} : AcqPos).dwell / w_acqDwellEnd_cold.acqPasses 4)) ∧ (w_acqDwellEnd_cold.acqNear 4 ([80, 80, 1000, 80, 80] : List Nat) = true) ∧ (w_acqDwellEnd_cold.get ACQ_CTRL_VERIFY_M ≤ ({} : AcqPos).verPass + 1) ∧ (w_acqDwellEnd_cold.gnss.cold = true) := by decide +kernel

def w_loopUpdate : State := { (at_ [(CH_STATUS_STATE 5, 3), (CH_STATUS_TINT_NOW 5, 1), (CH_STATUS_CODE_LOCK 5, 1)]) with boot := { loaded := [4] } }

theorem test_loopUpdate : (w_loopUpdate.stopSafe = true) ∧ (5 < 256) ∧ (w_loopUpdate.chRuns 5 = true) ∧ (w_loopUpdate.boot.loaded.contains 4 = true) ∧ (w_loopUpdate.bit (CH_STATUS_CODE_LOCK 5) = true ∨ sigPartner (w_loopUpdate.get (CH_CFG_SIGNAL 5)) = none ∨ w_loopUpdate.cn0Next 5 (⟨40000, 0, 1, 2, 3, 4, 5, 6, 7, 8, 9, 10, 11, 12, 65536, 7⟩ : Accums) < 8 * w_loopUpdate.get (CH_LOCK_CN0_MIN 5)) := by decide +kernel

def w_loopUpdate_aided : State := { (at_ [(CH_STATUS_STATE 5, 3), (CH_STATUS_TINT_NOW 5, 1), (ACQ_THRESH_THRESH 1, 640)]) with boot := { loaded := [4] }, gnssCfg := { maskA := 2 } }

theorem test_loopUpdate_aided : (w_loopUpdate_aided.stopSafe = true) ∧ (5 < 256) ∧ (w_loopUpdate_aided.chRuns 5 = true) ∧ (w_loopUpdate_aided.boot.loaded.contains 4 = true) ∧ (w_loopUpdate_aided.bit (CH_STATUS_CODE_LOCK 5) = false) ∧ (8 * w_loopUpdate_aided.get (CH_LOCK_CN0_MIN 5) ≤ w_loopUpdate_aided.cn0Next 5 (⟨40000, 0, 1, 2, 3, 4, 5, 6, 7, 8, 0, 0, 11, 12, 65536, 7⟩ : Accums)) ∧ (sigPartner (w_loopUpdate_aided.get (CH_CFG_SIGNAL 5)) = some 1) ∧ (w_loopUpdate_aided.sigOn (w_loopUpdate_aided.get (CH_CFG_FE 5)) 1 = true) ∧ (w_loopUpdate_aided.sigBusy (w_loopUpdate_aided.get (CH_CFG_FE 5)) 1 (w_loopUpdate_aided.get (CH_CFG_PRN 5)) = false) ∧ ((List.range 64).find? w_loopUpdate_aided.acqIdle = some 0) ∧ (w_loopUpdate_aided.acqNnc = some 1) ∧ (w_loopUpdate_aided.freeCh (w_loopUpdate_aided.get (CH_CFG_FE 5)) = some 0) := by decide +kernel

def w_loopUpdate_late : State := { (at_ [(CH_STATUS_STATE 255, 2), (CH_STATUS_CARR_LOCK 255, 1), (CH_STATUS_TINT_NOW 255, 4)]) with boot := { loaded := [4] } }

theorem test_loopUpdate_late : ((w_loopUpdate_late.stopSafe = true) ∧ (255 < 256) ∧ (w_loopUpdate_late.chRuns 255 = true) ∧ (w_loopUpdate_late.boot.loaded.contains 4 = true)) ∧ (match exec (.loopUpdate 255 true (⟨40000, 0, 1, 2, 3, 4, 5, 6, 7, 8, 9, 10, 11, 12, 65536, 7⟩ : Accums) 0) w_loopUpdate_late with
    | .next t => decide ((AccShown 255 (⟨40000, 0, 1, 2, 3, 4, 5, 6, 7, 8, 9, 10, 11, 12, 65536, 7⟩ : Accums) t) ∧ (Reads t [(CH_CODE_CODE 255, (⟨40000, 0, 1, 2, 3, 4, 5, 6, 7, 8, 9, 10, 11, 12, 65536, 7⟩ : Accums).code % (sigChips (w_loopUpdate_late.get (CH_CFG_SIGNAL 255)) * 65536) % 2 ^ 32), (CH_CARR_LO_PHASE 255, usgn 64 ((⟨40000, 0, 1, 2, 3, 4, 5, 6, 7, 8, 9, 10, 11, 12, 65536, 7⟩ : Accums).carr + (w_loopUpdate_late.chSt 255).phOff) % 2 ^ 32), (CH_CARR_HI_PHASE 255, usgn 64 ((⟨40000, 0, 1, 2, 3, 4, 5, 6, 7, 8, 9, 10, 11, 12, 65536, 7⟩ : Accums).carr + (w_loopUpdate_late.chSt 255).phOff) / 2 ^ 32)]) ∧ (Reads t [(CH_CNT_OVERRUN 255, w_loopUpdate_late.adv (CH_CNT_OVERRUN 255)), (BANK_CNT_OVERRUN (255 / 32), w_loopUpdate_late.adv (BANK_CNT_OVERRUN (255 / 32))), (CH_LOCKT_LOCK_MS 255, if w_loopUpdate_late.bit (CH_STATUS_CARR_LOCK 255) then (w_loopUpdate_late.get (CH_LOCKT_LOCK_MS 255) + w_loopUpdate_late.get (CH_STATUS_TINT_NOW 255)) % 2 ^ 32 else w_loopUpdate_late.get (CH_LOCKT_LOCK_MS 255))]) ∧ (t.chSt 255 = { w_loopUpdate_late.chSt 255 with secChips := 0, signs := (t.chSt 255).signs, signMs := (t.chSt 255).signMs }))
    | _ => false) = true := by decide +kernel

def w_chStart : State := at_ [(CH_SET_CODE_CODE 9, 777)]

theorem test_chStart : ((w_chStart.stopSafe = true) ∧ (9 < 256) ∧ (MayWrite w_chStart 0x10 (0x40110000 + 0x100 * 9)) ∧ (w_chStart.get (CH_STATUS_STATE 9) = 0)) ∧ (match exec (.chStart 0x10 9) w_chStart with
    | .next t => decide ((Reads t [(CH_STATUS_STATE 9, 2), (CH_STATUS_LOSS_CAUSE 9, 0), (CH_STATUS_TINT_NOW 9, if (false && !sigData (w_chStart.get (CH_CFG_SIGNAL 9))) then w_chStart.get (CH_CFG_TINT_MS 9) % 32 else min (w_chStart.get (CH_CFG_TINT_MS 9)) (sigPrim (w_chStart.get (CH_CFG_SIGNAL 9))) % 32), (CH_STATUS_TIME_LEVEL 9, b2n (false && !sigData (w_chStart.get (CH_CFG_SIGNAL 9)))), (CH_STATUS_SEC_SYNC 9, b2n (false && !sigData (w_chStart.get (CH_CFG_SIGNAL 9)))), (CH_STATUS_HALF_UNRES 9, b2n (sigData (w_chStart.get (CH_CFG_SIGNAL 9)))), (CH_STATUS_CODE_LOCK 9, 0), (CH_STATUS_CARR_LOCK 9, 0), (CH_STATUS_BIT_SYNC 9, 0), (CH_STATUS_NAV_SYNC 9, 0), (CH_STATUS_PLL_ON 9, 0), (CH_CN0_CN0 9, 0), (CH_CN0_PLI 9, 0), (CH_LOCKT_LOCK_MS 9, 0), (CH_CARR_LO_PHASE 9, 0), (CH_CARR_HI_PHASE 9, 0), (CH_CODE_CODE 9, (w_chStart.get (CH_SET_CODE_CODE 9)) % 2 ^ 32), (CH_DOPP_DOPP 9, usgn 32 (quantQ (((w_chStart.getS (CH_SET_DOPP_DOPP 9) : Rat) / 1024) * 1024))), (CH_CNT_SLIP_CNT 9, (w_chStart.get (CH_CNT_SLIP_CNT 9) + w_chStart.get (CH_STATUS_CARR_LOCK 9)) % 2 ^ 16)]))
    | _ => false) = true := by decide +kernel

def w_chStart_busy : State := at_ [(CH_STATUS_STATE 9, 3)]

theorem test_chStart_busy : ((w_chStart_busy.stopSafe = true) ∧ (9 < 256) ∧ (MayWrite w_chStart_busy 0x10 (0x40110000 + 0x100 * 9)) ∧ (w_chStart_busy.get (CH_STATUS_STATE 9) ≠ 0)) ∧ (match exec (.chStart 0x10 9) w_chStart_busy with
    | .next t => decide ((Reads t [(CH_STATUS_STATE 9, w_chStart_busy.get (CH_STATUS_STATE 9))]))
    | _ => false) = true := by decide +kernel

def w_chStop : State := at_ [(CH_STATUS_STATE 9, 3)]

theorem test_chStop : ((w_chStop.stopSafe = true) ∧ (9 < 256) ∧ (MayWrite w_chStop 0x10 (0x40110000 + 0x100 * 9)) ∧ (w_chStop.chRuns 9 = true)) ∧ (match exec (.chStop 0x10 9) w_chStop with
    | .next t => decide ((Reads t [(CH_STATUS_STATE 9, 0), (CH_STATUS_LOST 9, 1), (CH_STATUS_LOSS_CAUSE 9, 4)]) ∧ (t.evr = (w_chStop.record .chLost [9, 4]).evr))
    | _ => false) = true := by decide +kernel

def w_chStop_idle : State := at_ [(CH_STATUS_STATE 9, 1)]

theorem test_chStop_idle : ((w_chStop_idle.stopSafe = true) ∧ (9 < 256) ∧ (MayWrite w_chStop_idle 0x10 (0x40110000 + 0x100 * 9)) ∧ (w_chStop_idle.chRuns 9 = false)) ∧ (match exec (.chStop 0x10 9) w_chStop_idle with
    | .next t => decide ((Reads t [(CH_STATUS_STATE 9, w_chStop_idle.get (CH_STATUS_STATE 9))]))
    | _ => false) = true := by decide +kernel

def w_pullInPllOn : State := { (at_ [(CH_STATUS_STATE 9, 2), (CH_STATUS_CARR_LOCK 9, 1)]) with ply := 5000 }

theorem test_pullInPllOn : ((w_pullInPllOn.stopSafe = true) ∧ (9 < 256) ∧ (w_pullInPllOn.get (CH_STATUS_STATE 9) = 2) ∧ ((w_pullInPllOn.chSt 9).pullAt + 100 * w_pullInPllOn.get (CH_TIME_PULL_MS 9) ≤ w_pullInPllOn.ply)) ∧ (match exec (.pullInPllOn 9) w_pullInPllOn with
    | .next t => decide ((Reads t [(CH_STATUS_PLL_ON 9, 1), (CH_STATUS_STATE 9, if w_pullInPllOn.bit (CH_STATUS_CARR_LOCK 9) then 3 else 2)]))
    | _ => false) = true := by decide +kernel

def w_pullInTimeout : State := { (at_ [(CH_STATUS_STATE 9, 2)]) with ply := 200000 }

theorem test_pullInTimeout : ((w_pullInTimeout.stopSafe = true) ∧ (9 < 256) ∧ (w_pullInTimeout.get (CH_STATUS_STATE 9) = 2) ∧ ((w_pullInTimeout.chSt 9).pullAt + 100 * w_pullInTimeout.get (CH_TIME_PULL_MAX_MS 9) ≤ w_pullInTimeout.ply) ∧ ((List.range 64).find? w_pullInTimeout.acqIdle = none ∨ w_pullInTimeout.acqNnc = none)) ∧ (match exec (.pullInTimeout 9) w_pullInTimeout with
    | .next t => decide ((Reads t [(CH_STATUS_STATE 9, 0), (CH_STATUS_LOST 9, 1), (CH_STATUS_LOSS_CAUSE 9, 2)]) ∧ (t.evr = (w_pullInTimeout.record .chLost [9, 2]).evr))
    | _ => false) = true := by decide +kernel

def w_pullInTimeout_again : State := { (at_ [(CH_STATUS_STATE 9, 2), (ACQ_THRESH_THRESH 1, 640)]) with ply := 200000 }

theorem test_pullInTimeout_again : (w_pullInTimeout_again.stopSafe = true) ∧ (9 < 256) ∧ (w_pullInTimeout_again.get (CH_STATUS_STATE 9) = 2) ∧ ((w_pullInTimeout_again.chSt 9).pullAt + 100 * w_pullInTimeout_again.get (CH_TIME_PULL_MAX_MS 9) ≤ w_pullInTimeout_again.ply) ∧ ((List.range 64).find? w_pullInTimeout_again.acqIdle = some 0) ∧ (w_pullInTimeout_again.acqNnc = some 1) := by decide +kernel

def w_cn0LossTimeout : State := { (at_ [(CH_STATUS_STATE 9, 3), (CH_LOCK_CN0_MIN 9, 50), (CH_CN0_CN0 9, 399)]) with ply := 200000, gnss := { ch := [(9, { lowAt := some 3 })] } }

theorem test_cn0LossTimeout : ((w_cn0LossTimeout.stopSafe = true) ∧ (9 < 256) ∧ (w_cn0LossTimeout.get (CH_STATUS_STATE 9) = 3) ∧ (w_cn0LossTimeout.get (CH_CN0_CN0 9) < 8 * w_cn0LossTimeout.get (CH_LOCK_CN0_MIN 9)) ∧ ((w_cn0LossTimeout.chSt 9).lowAt = some 3) ∧ (3 + 100 * w_cn0LossTimeout.get (CH_TIME2_LOSS_MS 9) ≤ w_cn0LossTimeout.ply) ∧ ((List.range 64).find? w_cn0LossTimeout.acqIdle = none ∨ w_cn0LossTimeout.acqNnc = none)) ∧ (match exec (.cn0LossTimeout 9) w_cn0LossTimeout with
    | .next t => decide ((Reads t [(CH_STATUS_STATE 9, 0), (CH_STATUS_LOST 9, 1), (CH_STATUS_LOSS_CAUSE 9, 1)]) ∧ (t.evr = (w_cn0LossTimeout.record .chLost [9, 1]).evr))
    | _ => false) = true := by decide +kernel

def w_cn0LossTimeout_again : State := { (at_ [(CH_STATUS_STATE 9, 3), (CH_LOCK_CN0_MIN 9, 50), (CH_CN0_CN0 9, 399), (ACQ_THRESH_THRESH 1, 640)]) with ply := 200000, gnss := { ch := [(9, { lowAt := some 3 })] } }

theorem test_cn0LossTimeout_again : (w_cn0LossTimeout_again.stopSafe = true) ∧ (9 < 256) ∧ (w_cn0LossTimeout_again.get (CH_STATUS_STATE 9) = 3) ∧ (w_cn0LossTimeout_again.get (CH_CN0_CN0 9) < 8 * w_cn0LossTimeout_again.get (CH_LOCK_CN0_MIN 9)) ∧ ((w_cn0LossTimeout_again.chSt 9).lowAt = some 3) ∧ (3 + 100 * w_cn0LossTimeout_again.get (CH_TIME2_LOSS_MS 9) ≤ w_cn0LossTimeout_again.ply) ∧ ((List.range 64).find? w_cn0LossTimeout_again.acqIdle = some 0) ∧ (w_cn0LossTimeout_again.acqNnc = some 1) := by decide +kernel

def w_navUnitDecode : State := at_ [(CH_STATUS_STATE 9, 3), (CH_CFG_PRN 9, 7), (CH_STATUS_STATE 8, 3), (CH_CFG_PRN 8, 7), (CH_STATUS_CODE_LOCK 8, 1), (CH_STATUS_HALF_UNRES 9, 1), (CH_CARR_LO_PHASE 9, 0x80000001)]

theorem test_navUnitDecode : ((w_navUnitDecode.stopSafe = true) ∧ (9 < 256) ∧ (w_navUnitDecode.chRuns 9 = true) ∧ ((navKinds (w_navUnitDecode.get (CH_CFG_SIGNAL 9))).contains 0 = true)) ∧ (match exec (.navUnitDecode 9 0 0 6000 true true none none ([1, 2] : List Nat)) w_navUnitDecode with
    | .next t => decide ((Reads t [(CH_STATUS_NAV_SYNC 9, 1), (NAV_HEAD_SEQ, (w_navUnitDecode.get NAV_HEAD_SEQ + 1) % 2 ^ 32)]) ∧ ((List.range 256).all (fun d => t.get (CH_STATUS_TIME_LEVEL d) == (if true && (d == 9 || (w_navUnitDecode.chRuns d && w_navUnitDecode.sameSat 9 d && w_navUnitDecode.bit (CH_STATUS_CODE_LOCK d))) then 2 else w_navUnitDecode.get (CH_STATUS_TIME_LEVEL d))) = true))
    | _ => false) = true := by decide +kernel

def w_navUnitDecode_half : State := at_ [(CH_STATUS_STATE 9, 3), (CH_CFG_PRN 9, 7), (CH_STATUS_STATE 8, 3), (CH_CFG_PRN 8, 7), (CH_STATUS_CODE_LOCK 8, 1), (CH_STATUS_HALF_UNRES 9, 1), (CH_CARR_LO_PHASE 9, 0x80000001)]

theorem test_navUnitDecode_half : ((w_navUnitDecode_half.stopSafe = true) ∧ (9 < 256) ∧ (w_navUnitDecode_half.chRuns 9 = true) ∧ ((navKinds (w_navUnitDecode_half.get (CH_CFG_SIGNAL 9))).contains 0 = true) ∧ (w_navUnitDecode_half.bit (CH_STATUS_HALF_UNRES 9) = true)) ∧ (match exec (.navUnitDecode 9 0 0 6000 true true (some true) none ([1, 2] : List Nat)) w_navUnitDecode_half with
    | .next t => decide ((Reads t [(CH_STATUS_NAV_SYNC 9, 1), (NAV_HEAD_SEQ, (w_navUnitDecode_half.get NAV_HEAD_SEQ + 1) % 2 ^ 32), (CH_STATUS_HALF_UNRES 9, 0), (CH_CARR_LO_PHASE 9, if true then (w_navUnitDecode_half.get (CH_CARR_LO_PHASE 9) + w_navUnitDecode_half.get (CH_CARR_HI_PHASE 9) * 2 ^ 32 + 2 ^ 31) % 2 ^ 32 else w_navUnitDecode_half.get (CH_CARR_LO_PHASE 9)), (CH_CARR_HI_PHASE 9, if true then (w_navUnitDecode_half.get (CH_CARR_LO_PHASE 9) + w_navUnitDecode_half.get (CH_CARR_HI_PHASE 9) * 2 ^ 32 + 2 ^ 31) / 2 ^ 32 % 2 ^ 32 else w_navUnitDecode_half.get (CH_CARR_HI_PHASE 9)), (CH_CNT_SLIP_CNT 9, if true then (w_navUnitDecode_half.get (CH_CNT_SLIP_CNT 9) + 1) % 2 ^ 16 else w_navUnitDecode_half.get (CH_CNT_SLIP_CNT 9)), (CH_LOCKT_LOCK_MS 9, if true then 0 else w_navUnitDecode_half.get (CH_LOCKT_LOCK_MS 9))]) ∧ ((List.range 256).all (fun d => t.get (CH_STATUS_TIME_LEVEL d) == (if true && (d == 9 || (w_navUnitDecode_half.chRuns d && w_navUnitDecode_half.sameSat 9 d && w_navUnitDecode_half.bit (CH_STATUS_CODE_LOCK d))) then 2 else w_navUnitDecode_half.get (CH_STATUS_TIME_LEVEL d))) = true))
    | _ => false) = true := by decide +kernel

def w_navUnitDecode_utc : State := at_ [(CH_STATUS_STATE 9, 3), (CH_CFG_PRN 9, 7), (CH_STATUS_STATE 8, 3), (CH_CFG_PRN 8, 7), (CH_STATUS_CODE_LOCK 8, 1), (CH_STATUS_HALF_UNRES 9, 1), (CH_CARR_LO_PHASE 9, 0x80000001)]

theorem test_navUnitDecode_utc : ((w_navUnitDecode_utc.stopSafe = true) ∧ (9 < 256) ∧ (w_navUnitDecode_utc.chRuns 9 = true) ∧ ((navKinds (w_navUnitDecode_utc.get (CH_CFG_SIGNAL 9))).contains 0 = true) ∧ (sigSys (w_navUnitDecode_utc.get (CH_CFG_SIGNAL 9)) = 0)) ∧ (match exec (.navUnitDecode 9 0 0 6000 true true none (some ((-18, none) : Int × Option (Nat × Bool))) ([1, 2] : List Nat)) w_navUnitDecode_utc with
    | .next t => decide ((Reads t [(CH_STATUS_NAV_SYNC 9, 1), (NAV_HEAD_SEQ, (w_navUnitDecode_utc.get NAV_HEAD_SEQ + 1) % 2 ^ 32), (TIME_STATUS_UTC_VALID, 1)]) ∧ ((List.range 256).all (fun d => t.get (CH_STATUS_TIME_LEVEL d) == (if true && (d == 9 || (w_navUnitDecode_utc.chRuns d && w_navUnitDecode_utc.sameSat 9 d && w_navUnitDecode_utc.bit (CH_STATUS_CODE_LOCK d))) then 2 else w_navUnitDecode_utc.get (CH_STATUS_TIME_LEVEL d))) = true))
    | _ => false) = true := by decide +kernel

def w_navUnitDecode_fail : State := { (at_ [(CH_STATUS_STATE 9, 3), (CH_CFG_PRN 9, 7), (CH_STATUS_STATE 8, 3), (CH_CFG_PRN 8, 7), (CH_STATUS_CODE_LOCK 8, 1), (CH_STATUS_HALF_UNRES 9, 1), (CH_CARR_LO_PHASE 9, 0x80000001), (CH_STATUS_NAV_SYNC 9, 1)]) with gnss := { ch := [(9, { navFails := 2 })] } }

theorem test_navUnitDecode_fail : ((w_navUnitDecode_fail.stopSafe = true) ∧ (9 < 256) ∧ (w_navUnitDecode_fail.chRuns 9 = true) ∧ ((navKinds (w_navUnitDecode_fail.get (CH_CFG_SIGNAL 9))).contains 0 = true) ∧ (1 ≠ 0) ∧ (w_navUnitDecode_fail.bit (CH_STATUS_NAV_SYNC 9) = true)) ∧ (match exec (.navUnitDecode 9 0 1 6000 true true none none ([1, 2] : List Nat)) w_navUnitDecode_fail with
    | .next t => decide ((Reads t [(CH_STATUS_NAV_SYNC 9, if 3 ≤ (w_navUnitDecode_fail.chSt 9).navFails + 1 then 0 else 1), (NAV_HEAD_SEQ, (w_navUnitDecode_fail.get NAV_HEAD_SEQ + 1) % 2 ^ 32)]))
    | _ => false) = true := by decide +kernel

def w_navUnitDecode_lostSync : State := at_ [(CH_STATUS_STATE 9, 3), (CH_CFG_PRN 9, 7), (CH_STATUS_STATE 8, 3), (CH_CFG_PRN 8, 7), (CH_STATUS_CODE_LOCK 8, 1), (CH_STATUS_HALF_UNRES 9, 1), (CH_CARR_LO_PHASE 9, 0x80000001)]

theorem test_navUnitDecode_lostSync : ((w_navUnitDecode_lostSync.stopSafe = true) ∧ (9 < 256) ∧ (w_navUnitDecode_lostSync.chRuns 9 = true) ∧ ((navKinds (w_navUnitDecode_lostSync.get (CH_CFG_SIGNAL 9))).contains 0 = true) ∧ (1 ≠ 0) ∧ (w_navUnitDecode_lostSync.bit (CH_STATUS_NAV_SYNC 9) = false)) ∧ (match exec (.navUnitDecode 9 0 1 6000 true true none none ([1, 2] : List Nat)) w_navUnitDecode_lostSync with
    | .next t => decide ((Reads t [(CH_STATUS_NAV_SYNC 9, 0)]))
    | _ => false) = true := by decide +kernel

def w_epochStrobe : State := { (at_ [(OBS_CTRL_EN, 1), (PD_STATUS_ON, 0x3BF), (CH_STATUS_STATE 9, 3)]) with rst := { State.reset.rst with held := [] } }

theorem test_epochStrobe : (w_epochStrobe.stopSafe = true) ∧ (w_epochStrobe.strobeDue = some (-315964819000 : Int)) ∧ (w_epochStrobe.latchOk ([⟨9, 5, 0, 300, 0, 10⟩] : List ChLatch) = true) ∧ (w_epochStrobe.cast.strobeNow = false) ∧ (w_epochStrobe.bit OBS_CTRL_EN = true) := by decide +kernel

def w_epochStrobe_off : State := { (at_ [(OBS_CTRL_EN, 0), (PD_STATUS_ON, 0x3BF), (CH_STATUS_STATE 9, 3)]) with rst := { State.reset.rst with held := [] } }

theorem test_epochStrobe_off : ((w_epochStrobe_off.stopSafe = true) ∧ (w_epochStrobe_off.strobeDue = some (-315964819000 : Int)) ∧ (w_epochStrobe_off.latchOk ([⟨9, 5, 0, 300, 0, 10⟩] : List ChLatch) = true) ∧ (w_epochStrobe_off.cast.strobeNow = false) ∧ (w_epochStrobe_off.bit OBS_CTRL_EN = false)) ∧ (match exec (.epochStrobe (-3 : Int) ([⟨9, 5, 0, 300, 0, 10⟩] : List ChLatch) ([] : List Nat)) w_epochStrobe_off with
    | .next t => decide ((t.fix = (if epochMsOf (-315964819000 : Int) % 100 = 50 ∨ w_epochStrobe_off.domOff 6 = true then w_epochStrobe_off else w_epochStrobe_off.fixStrobe ([] : List Nat)).fix))
    | _ => false) = true := by decide +kernel

def w_obsFormDeadline : State := { wReset with ply := 90, gnss := { forming := some { ents := [⟨40, 0, 0, 1, 0, 0x87, 0, 0, 0, 0, 0, 0, 0, 0⟩] } } }

theorem test_obsFormDeadline : ((w_obsFormDeadline.stopSafe = true) ∧ (w_obsFormDeadline.gnss.forming = some ({ ents := [⟨40, 0, 0, 1, 0, 0x87, 0, 0, 0, 0, 0, 0, 0, 0⟩] } : ObsRec)) ∧ (({ ents := [⟨40, 0, 0, 1, 0, 0x87, 0, 0, 0, 0, 0, 0, 0, 0⟩] } : ObsRec).ply + 90 ≤ w_obsFormDeadline.ply) ∧ (w_obsFormDeadline.gnss.formed = false) ∧ (([⟨40, 0, 0, 1, 0, 0x87, 0, 0, 0, 0, 0, 0, 0, 0⟩] : List ObsEnt) = ({ ents := [⟨40, 0, 0, 1, 0, 0x87, 0, 0, 0, 0, 0, 0, 0, 0⟩] } : ObsRec).ents.filter (fun x => ([40] : List Nat).contains x.ch && bitOf x.flags 7))) ∧ (match exec (.obsFormDeadline ([40] : List Nat)) w_obsFormDeadline with
    | .next t => decide (((List.range 8).all (fun b => t.get (BANK_CNT_LATE b) == (let k := (([⟨40, 0, 0, 1, 0, 0x87, 0, 0, 0, 0, 0, 0, 0, 0⟩] : List ObsEnt).filter (fun x => x.ch / 32 == b)).length; if k = 0 then w_obsFormDeadline.get (BANK_CNT_LATE b) else w_obsFormDeadline.adv (BANK_CNT_LATE b) k)) = true))
    | _ => false) = true := by decide +kernel

def w_obsRecordPublish : State := { wRun [(OBS_STATUS_LATEST, 3), (ECP_CTRL_AUTH_REQ, 0)] with gnss := { forming := some { ms := 400, seq := 6 }, formed := true, bufs := [(3, { seq := 5 })] }, ecp := { State.reset.ecp with sessions := [] } }

theorem test_obsRecordPublish : ((w_obsRecordPublish.stopSafe = true) ∧ (w_obsRecordPublish.gnss.forming = some ({ ms := 400, seq := 6 } : ObsRec)) ∧ (w_obsRecordPublish.gnss.formed = true) ∧ (w_obsRecordPublish.domOff 7 = false) ∧ (w_obsRecordPublish.clk.refLost = false) ∧ (bitOf ({ ms := 400, seq := 6 } : ObsRec).flags 0 = true ∨ w_obsRecordPublish.fixGet FIX_CTRL_INTEG_EN = 0 ∨ w_obsRecordPublish.fixGet FIX_CTRL_EN = 0 ∨ w_obsRecordPublish.domOff 6 = true ∨ w_obsRecordPublish.boot.loaded.contains 6 = false) ∧ (w_obsRecordPublish.gnssCfg.waits.all (fun (w : ObsWait) => w.ms != ({ ms := 400, seq := 6 } : ObsRec).ms) = true) ∧ (w_obsRecordPublish.rtcmDue ({ ms := 400, seq := 6 } : ObsRec).ms = [])) ∧ (match exec (.obsRecordPublish (none : Option TimeSol)) w_obsRecordPublish with
    | .next t => decide ((Reads t [(OBS_STATUS_FORMING, 0), (OBS_STATUS_LATEST, w_obsRecordPublish.nextBuf % 4), (OBS_SEQ_SEQ, ({ ms := 400, seq := 6 } : ObsRec).seq % 2 ^ 32)]) ∧ (t.out = w_obsRecordPublish.out ++ [.irqApps OBS_SEQ_SEQ.key.reg]) ∧ (t.time = (w_obsRecordPublish.timeSol ({ ms := 400, seq := 6 } : ObsRec) (none : Option TimeSol)).time) ∧ (t.time.gnssOk = (none : Option TimeSol).any (fun x => decide (4 ≤ x.used ∧ x.used ≤ (({ ms := 400, seq := 6 } : ObsRec).ents.filter (fun e => e.fe == 0 && bitOf e.flags 2 && bitOf e.flags 7)).length ∧ x.sd ≤ 50))) ∧ (t.time.offs = (match (none : Option TimeSol) with | some x => w_obsRecordPublish.time.offs.filter (fun e => e.1 != 1) ++ [(1, x.off)] | none => w_obsRecordPublish.time.offs)))
    | _ => false) = true := by decide +kernel

def w_obsRecordPublish_waiter : State := { wRun [(OBS_STATUS_LATEST, 3), (ECP_CTRL_AUTH_REQ, 0)] with gnss := { forming := some { ms := 400, seq := 6 }, formed := true, bufs := [(3, { seq := 5 })] }, ecp := { State.reset.ecp with sessions := [{ id := 3, port := 1, ip := 0x0A000001, udp := 5000, devSeq := 7, inProg := [{ tag := 4, op := 0x0300, crc := 1 }] }] }, gnssCfg := { waits := [⟨3, 4, 400, 0, 1⟩] } }

theorem test_obsRecordPublish_waiter : ((w_obsRecordPublish_waiter.stopSafe = true) ∧ (w_obsRecordPublish_waiter.gnss.forming = some ({ ms := 400, seq := 6 } : ObsRec)) ∧ (w_obsRecordPublish_waiter.gnss.formed = true) ∧ (w_obsRecordPublish_waiter.domOff 7 = false) ∧ (w_obsRecordPublish_waiter.clk.refLost = false) ∧ (bitOf ({ ms := 400, seq := 6 } : ObsRec).flags 0 = true ∨ w_obsRecordPublish_waiter.fixGet FIX_CTRL_INTEG_EN = 0 ∨ w_obsRecordPublish_waiter.fixGet FIX_CTRL_EN = 0 ∨ w_obsRecordPublish_waiter.domOff 6 = true ∨ w_obsRecordPublish_waiter.boot.loaded.contains 6 = false) ∧ (w_obsRecordPublish_waiter.gnssCfg.waits.filter (fun (z : ObsWait) => z.ms == ({ ms := 400, seq := 6 } : ObsRec).ms) = [(⟨3, 4, 400, 0, 1⟩ : ObsWait)]) ∧ (w_obsRecordPublish_waiter.rtcmDue ({ ms := 400, seq := 6 } : ObsRec).ms = []) ∧ (w_obsRecordPublish_waiter.session (⟨3, 4, 400, 0, 1⟩ : ObsWait).sess = some ({ id := 3, port := 1, ip := 0x0A000001, udp := 5000, devSeq := 7, inProg := [{ tag := 4, op := 0x0300, crc := 1 }] } : EcpSession)) ∧ (({ id := 3, port := 1, ip := 0x0A000001, udp := 5000, devSeq := 7, inProg := [{ tag := 4, op := 0x0300, crc := 1 }] } : EcpSession).inProg.find? (fun z => z.tag == (⟨3, 4, 400, 0, 1⟩ : ObsWait).tag) = some ({ tag := 4, op := 0x0300, crc := 1 } : EcpOpen)) ∧ (unheldOp ({ tag := 4, op := 0x0300, crc := 1 } : EcpOpen).op = false) ∧ (w_obsRecordPublish_waiter.sessSends ({ id := 3, port := 1, ip := 0x0A000001, udp := 5000, devSeq := 7, inProg := [{ tag := 4, op := 0x0300, crc := 1 }] } : EcpSession) = true) ∧ (({ id := 3, port := 1, ip := 0x0A000001, udp := 5000, devSeq := 7, inProg := [{ tag := 4, op := 0x0300, crc := 1 }] } : EcpSession).devSeq < 0xFFFFFFFF) ∧ ((⟨3, 4, 400, 0, 1⟩ : ObsWait).sess = 8 → w_obsRecordPublish_waiter.ecp.spiOut.length < 16)) ∧ (match exec (.obsRecordPublish (none : Option TimeSol)) w_obsRecordPublish_waiter with
    | .next t => decide ((Reads t [(OBS_STATUS_FORMING, 0), (OBS_STATUS_LATEST, w_obsRecordPublish_waiter.nextBuf % 4), (OBS_SEQ_SEQ, ({ ms := 400, seq := 6 } : ObsRec).seq % 2 ^ 32)]) ∧ (sends w_obsRecordPublish_waiter t ({ id := 3, port := 1, ip := 0x0A000001, udp := 5000, devSeq := 7, inProg := [{ tag := 4, op := 0x0300, crc := 1 }] } : EcpSession) [.irqApps OBS_SEQ_SEQ.key.reg] [⟨({ tag := 4, op := 0x0300, crc := 1 } : EcpOpen).op, (⟨3, 4, 400, 0, 1⟩ : ObsWait).tag, Ecp.OK, respFlags ({ id := 3, port := 1, ip := 0x0A000001, udp := 5000, devSeq := 7, inProg := [{ tag := 4, op := 0x0300, crc := 1 }] } : EcpSession), ({ id := 3, port := 1, ip := 0x0A000001, udp := 5000, devSeq := 7, inProg := [{ tag := 4, op := 0x0300, crc := 1 }] } : EcpSession).devSeq + 1, obsGetBytes ({ ms := 400, seq := 6 } : ObsRec) (⟨3, 4, 400, 0, 1⟩ : ObsWait).first (⟨3, 4, 400, 0, 1⟩ : ObsWait).count, ({ id := 3, port := 1, ip := 0x0A000001, udp := 5000, devSeq := 7, inProg := [{ tag := 4, op := 0x0300, crc := 1 }] } : EcpSession).key⟩] = true) ∧ (t.session (⟨3, 4, 400, 0, 1⟩ : ObsWait).sess = some { ({ id := 3, port := 1, ip := 0x0A000001, udp := 5000, devSeq := 7, inProg := [{ tag := 4, op := 0x0300, crc := 1 }] } : EcpSession) with devSeq := ({ id := 3, port := 1, ip := 0x0A000001, udp := 5000, devSeq := 7, inProg := [{ tag := 4, op := 0x0300, crc := 1 }] } : EcpSession).devSeq + 1, inProg := ({ id := 3, port := 1, ip := 0x0A000001, udp := 5000, devSeq := 7, inProg := [{ tag := 4, op := 0x0300, crc := 1 }] } : EcpSession).inProg.filter (fun z => z.tag ≠ (⟨3, 4, 400, 0, 1⟩ : ObsWait).tag), held := (holdResult ({ id := 3, port := 1, ip := 0x0A000001, udp := 5000, devSeq := 7, inProg := [{ tag := 4, op := 0x0300, crc := 1 }] } : EcpSession) ⟨(⟨3, 4, 400, 0, 1⟩ : ObsWait).tag, ({ tag := 4, op := 0x0300, crc := 1 } : EcpOpen).op, ({ tag := 4, op := 0x0300, crc := 1 } : EcpOpen).crc, Ecp.OK, obsGetBytes ({ ms := 400, seq := 6 } : ObsRec) (⟨3, 4, 400, 0, 1⟩ : ObsWait).first (⟨3, 4, 400, 0, 1⟩ : ObsWait).count, true⟩).held }) ∧ (onlySession w_obsRecordPublish_waiter t (⟨3, 4, 400, 0, 1⟩ : ObsWait).sess = true))
    | _ => false) = true := by decide +kernel

def w_obsRecordPublish_any : State := { wRun [(OBS_STATUS_LATEST, 3), (ECP_CTRL_AUTH_REQ, 0)] with gnss := { forming := some { ms := 400, seq := 6 }, formed := true, bufs := [(3, { seq := 5 })] }, ecp := { State.reset.ecp with sessions := [] } }

theorem test_obsRecordPublish_any : ((w_obsRecordPublish_any.gnss.forming = some ({ ms := 400, seq := 6 } : ObsRec)) ∧ (w_obsRecordPublish_any.gnss.formed = true) ∧ (w_obsRecordPublish_any.domOff 7 = false) ∧ (w_obsRecordPublish_any.clk.refLost = false)) ∧ (match exec (.obsRecordPublish (none : Option TimeSol)) w_obsRecordPublish_any with
    | .next t => decide ((t.gnss.forming = none) ∧ (t.gnss.bufs = w_obsRecordPublish_any.gnss.bufs.filter (fun (x : Nat × ObsRec) => x.1 ≠ w_obsRecordPublish_any.nextBuf) ++ [(w_obsRecordPublish_any.nextBuf, ({ ms := 400, seq := 6 } : ObsRec))]))
    | _ => false) = true := by decide +kernel

def w_obsRecordPublish_dropped : State := { wReset with clk := { State.reset.clk with refLost := true }, gnss := { forming := some { ms := 400, seq := 6 }, formed := true } }

theorem test_obsRecordPublish_dropped : ((w_obsRecordPublish_dropped.stopSafe = true) ∧ (w_obsRecordPublish_dropped.gnss.forming = some ({ ms := 400, seq := 6 } : ObsRec)) ∧ (w_obsRecordPublish_dropped.gnss.formed = true) ∧ (w_obsRecordPublish_dropped.domOff 7 = true ∨ w_obsRecordPublish_dropped.clk.refLost = true)) ∧ (match exec (.obsRecordPublish (none : Option TimeSol)) w_obsRecordPublish_dropped with
    | .next t => decide ((Reads t [(OBS_STATUS_FORMING, 0)]))
    | _ => false) = true := by decide +kernel

def w_obsGet : State := { wSess with gnss := { bufs := [(2, { ms := 400, seq := 5 })] } }

theorem test_obsGet : ((w_obsGet.stopSafe = true) ∧ (w_obsGet.accepts 0x0300 3 9 false = true) ∧ (400 < 2 ^ 32) ∧ (0 < 65536) ∧ (1 < 256) ∧ (1 ≤ 1) ∧ (1 ≤ 28) ∧ (w_obsGet.gnss.forming.all (fun f => 400 == 0xFFFFFFFF || f.ms != 400) = true) ∧ ((w_obsGet.gnss.bufs.filter (fun (x : Nat × ObsRec) => 400 == 0xFFFFFFFF || x.2.ms == 400)).getLast? = some (2, ({ ms := 400, seq := 5 } : ObsRec)))) ∧ (match exec (.obsGet 3 9 ((leBytes 4 400 ++ leBytes 2 0 ++ [1, 0]))) w_obsGet with
    | .next t => decide ((answers w_obsGet t [] 0x0300 3 9 Ecp.OK (crc32c (leBytes 4 400 ++ leBytes 2 0 ++ [1, 0])) (obsGetBytes ({ ms := 400, seq := 5 } : ObsRec) 0 1) = true))
    | _ => false) = true := by decide +kernel

theorem test_obsGet_bad : ((wSess.stopSafe = true) ∧ (wSess.accepts 0x0300 3 9 false = true) ∧ (400 < 2 ^ 32) ∧ (0 < 65536) ∧ (1 < 256) ∧ (1 = 0 ∨ 28 < 1 ∨ (wSess.gnss.forming.all (fun f => 400 == 0xFFFFFFFF || f.ms != 400) = true ∧ (wSess.gnss.bufs.filter (fun (x : Nat × ObsRec) => 400 == 0xFFFFFFFF || x.2.ms == 400)).getLast? = none))) ∧ (match exec (.obsGet 3 9 ((leBytes 4 400 ++ leBytes 2 0 ++ [1, 0]))) wSess with
    | .next t => decide ((answers wSess t [] 0x0300 3 9 Ecp.BAD_PARAM (crc32c (leBytes 4 400 ++ leBytes 2 0 ++ [1, 0])) [] = true))
    | _ => false) = true := by decide +kernel

def w_obsGet_wait : State := { wSess with gnss := { forming := some { ms := 400, seq := 5 } } }

theorem test_obsGet_wait : ((w_obsGet_wait.stopSafe = true) ∧ (w_obsGet_wait.accepts 0x0300 3 9 false = true) ∧ (400 < 2 ^ 32) ∧ (0 < 65536) ∧ (1 < 256) ∧ (1 ≤ 1) ∧ (1 ≤ 28) ∧ (w_obsGet_wait.gnss.forming = some ({ ms := 400, seq := 5 } : ObsRec)) ∧ (400 ≠ 0xFFFFFFFF) ∧ (({ ms := 400, seq := 5 } : ObsRec).ms = 400)) ∧ (match exec (.obsGet 3 9 ((leBytes 4 400 ++ leBytes 2 0 ++ [1, 0]))) w_obsGet_wait with
    | .next t => decide ((opens w_obsGet_wait t [] 0x0300 3 9 (crc32c (leBytes 4 400 ++ leBytes 2 0 ++ [1, 0])) (some (w_obsGet_wait.progressBytes 3 9)) = true) ∧ (t.gnssCfg = { w_obsGet_wait.gnssCfg with waits := w_obsGet_wait.gnssCfg.waits ++ [⟨3, 9, 400, 0, 1⟩] }))
    | _ => false) = true := by decide +kernel

def w_navGet : State := { wSess with gnss := { nav := [⟨1, 0, 2, 1, 300, 0, false, 5, 8, [1]⟩] } }

theorem test_navGet : ((w_navGet.stopSafe = true) ∧ (w_navGet.accepts 0x0301 3 9 false = true) ∧ (3 < 2 ^ 32) ∧ (1 ≤ 2) ∧ (2 ≤ 14) ∧ (([⟨1, 0, 2, 1, 300, 0, false, 5, 8, [1]⟩] : List NavRec) = ((w_navGet.gnss.nav.filter (fun r => decide (3 ≤ r.seq))).take 2))) ∧ (match exec (.navGet 3 9 ((leBytes 4 3 ++ [2, 0, 0, 0]))) w_navGet with
    | .next t => decide ((answers w_navGet t [] 0x0301 3 9 Ecp.OK (crc32c (leBytes 4 3 ++ [2, 0, 0, 0])) (leBytes 4 (match ([⟨1, 0, 2, 1, 300, 0, false, 5, 8, [1]⟩] : List NavRec).getLast? with | some r => r.seq + 1 | none => max 3 (match w_navGet.gnss.nav with | r :: _ => r.seq | [] => w_navGet.get NAV_HEAD_SEQ)) ++ leBytes 4 ((match w_navGet.gnss.nav with | r :: _ => r.seq | [] => w_navGet.get NAV_HEAD_SEQ) - 3) ++ ([⟨1, 0, 2, 1, 300, 0, false, 5, 8, [1]⟩] : List NavRec).flatMap NavRec.bytes) = true))
    | _ => false) = true := by decide +kernel

theorem test_navGet_bad : ((wSess.stopSafe = true) ∧ (wSess.accepts 0x0301 3 9 false = true) ∧ (3 < 2 ^ 32) ∧ (15 < 256) ∧ (15 = 0 ∨ 14 < 15)) ∧ (match exec (.navGet 3 9 ((leBytes 4 3 ++ [15, 0, 0, 0]))) wSess with
    | .next t => decide ((answers wSess t [] 0x0301 3 9 Ecp.BAD_PARAM (crc32c (leBytes 4 3 ++ [15, 0, 0, 0])) [] = true))
    | _ => false) = true := by decide +kernel

def w_signalsSet : State := withSess (at_ [(CH_STATUS_STATE 9, 3), (CH_STATUS_STATE 8, 3), (CH_CFG_SIGNAL 8, 1)])

theorem test_signalsSet : ((w_signalsSet.stopSafe = true) ∧ (w_signalsSet.accepts 0x0302 3 9 false = true) ∧ (510 < 512) ∧ (257 < 512) ∧ (30 ≤ 30)) ∧ (match exec (.signalsSet 3 9 ((leBytes 2 510 ++ leBytes 2 257 ++ [30, 0, 0, 0]))) w_signalsSet with
    | .next t => decide ((answers w_signalsSet t [] 0x0302 3 9 Ecp.OK (crc32c (leBytes 2 510 ++ leBytes 2 257 ++ [30, 0, 0, 0])) (leBytes 2 510 ++ leBytes 2 257 ++ [30, 0, 0, 0]) = true) ∧ (t.gnssCfg = { w_signalsSet.gnssCfg with maskA := 510, maskB := 257, elevMask := 30, sigSet := true }) ∧ ((List.range 256).all (fun c => if w_signalsSet.chRuns c && !bitOf (if w_signalsSet.get (CH_CFG_FE c) = 0 then 510 else 257) (w_signalsSet.get (CH_CFG_SIGNAL c)) then t.get (CH_STATUS_STATE c) == 0 && t.get (CH_STATUS_LOST c) == 1 && t.get (CH_STATUS_LOSS_CAUSE c) == 4 else t.get (CH_STATUS_STATE c) == w_signalsSet.get (CH_STATUS_STATE c)) = true))
    | _ => false) = true := by decide +kernel

theorem test_signalsSet_bad : ((wSess.stopSafe = true) ∧ (wSess.accepts 0x0302 3 9 false = true) ∧ (511 < 65536) ∧ (257 < 65536) ∧ (31 < 256) ∧ (512 ≤ 511 ∨ 512 ≤ 257 ∨ 30 < 31)) ∧ (match exec (.signalsSet 3 9 ((leBytes 2 511 ++ leBytes 2 257 ++ [31, 0, 0, 0]))) wSess with
    | .next t => decide ((answers wSess t [] 0x0302 3 9 Ecp.BAD_PARAM (crc32c (leBytes 2 511 ++ leBytes 2 257 ++ [31, 0, 0, 0])) [] = true))
    | _ => false) = true := by decide +kernel

theorem test_rtcmSet : ((wSess.stopSafe = true) ∧ (wSess.accepts 0x0303 3 9 false = true) ∧ (4095 ≤ 4095) ∧ (10 ≤ 600) ∧ (10 % wSess.basePeriod = 0) ∧ (60 ≤ 60) ∧ (15 < 16)) ∧ (match exec (.rtcmSet 3 9 ((leBytes 2 4095 ++ leBytes 2 10 ++ leBytes 2 60 ++ [15, 0]))) wSess with
    | .next t => decide ((answers wSess t [] 0x0303 3 9 Ecp.OK (crc32c (leBytes 2 4095 ++ leBytes 2 10 ++ leBytes 2 60 ++ [15, 0])) (leBytes 2 4095 ++ leBytes 2 10 ++ leBytes 2 60 ++ [15, 0]) = true) ∧ (t.gnssCfg = { wSess.gnssCfg with station := 4095, msmPeriod := 10, arpPeriod := 60, systems := 15, rtcmSet := true }))
    | _ => false) = true := by decide +kernel

theorem test_rtcmSet_bad : ((wSess.stopSafe = true) ∧ (wSess.accepts 0x0303 3 9 false = true) ∧ (4096 < 65536) ∧ (10 < 65536) ∧ (60 < 65536) ∧ (15 < 256) ∧ (4095 < 4096 ∨ 600 < 10 ∨ 10 % wSess.basePeriod ≠ 0 ∨ 60 < 60 ∨ 16 ≤ 15)) ∧ (match exec (.rtcmSet 3 9 ((leBytes 2 4096 ++ leBytes 2 10 ++ leBytes 2 60 ++ [15, 0]))) wSess with
    | .next t => decide ((answers wSess t [] 0x0303 3 9 Ecp.BAD_PARAM (crc32c (leBytes 2 4096 ++ leBytes 2 10 ++ leBytes 2 60 ++ [15, 0])) [] = true))
    | _ => false) = true := by decide +kernel

def w_refSelection : State := { (at_ [(TIME_STATUS_VALID, 1), (REF_CFG_P1, 1), (REF_CFG_P2, 2), (TIME_STATUS_HOLDOVER, 1), (HOLD_CFG_HOLD_SPEC, 1500), (DOM_STATUS_STATE 0, 2), (DOM_ASYM_ASYM 0, 5)]) with ply := 2000000, time := { State.reset.time with useSince := [(2, 3)], offs := [(1, 7), (2, -500)] } }

theorem test_refSelection : (w_refSelection.stopSafe = true) ∧ (w_refSelection.secondHere.isSome = true) ∧ (w_refSelection.time.selPly ≠ some w_refSelection.ply) ∧ (w_refSelection.time.ptpNext = none) ∧ (w_refSelection.srcTrack.srcPick = some 2) ∧ (2 < 5) ∧ (w_refSelection.srcD 2 = (-505 : Int)) ∧ (w_refSelection.bit TIME_STATUS_VALID = true) ∧ (-1000000 ≤ (-505 : Int)) ∧ ((-505 : Int) ≤ 1000000) := by decide +kernel

def w_refSelection_back : State := { (at_ [(TIME_STATUS_VALID, 1), (REF_CFG_P1, 1), (REF_CFG_P2, 2), (TIME_STATUS_HOLDOVER, 1), (HOLD_CFG_HOLD_SPEC, 1500), (DOM_STATUS_STATE 0, 2), (DOM_ASYM_ASYM 0, 5)]) with ply := 2000000, time := { State.reset.time with useSince := [(2, 3)], offs := [(1, 7), (2, -2000000)] } }

theorem test_refSelection_back : (w_refSelection_back.stopSafe = true) ∧ (w_refSelection_back.secondHere.isSome = true) ∧ (w_refSelection_back.time.selPly ≠ some w_refSelection_back.ply) ∧ (w_refSelection_back.time.ptpNext = none) ∧ (w_refSelection_back.srcTrack.srcPick = some 2) ∧ (2 < 5) ∧ (w_refSelection_back.srcD 2 = (-2000005 : Int)) ∧ (w_refSelection_back.bit TIME_STATUS_VALID = true) ∧ ((-2000005 : Int) < -1000000) := by decide +kernel

def w_refSelection_forward : State := { (at_ [(TIME_STATUS_VALID, 1), (REF_CFG_P1, 1), (REF_CFG_P2, 2), (TIME_STATUS_HOLDOVER, 1), (HOLD_CFG_HOLD_SPEC, 1500), (DOM_STATUS_STATE 0, 2), (DOM_ASYM_ASYM 0, 5)]) with ply := 2000000, time := { State.reset.time with useSince := [(2, 3)], offs := [(1, 7), (2, 2000000)] } }

theorem test_refSelection_forward : ((w_refSelection_forward.stopSafe = true) ∧ (w_refSelection_forward.secondHere.isSome = true) ∧ (w_refSelection_forward.time.selPly ≠ some w_refSelection_forward.ply) ∧ (w_refSelection_forward.time.ptpNext = none) ∧ (w_refSelection_forward.srcTrack.srcPick = some 2) ∧ (2 < 5) ∧ (w_refSelection_forward.srcD 2 = 1999995) ∧ (w_refSelection_forward.time.step = none) ∧ (w_refSelection_forward.bit TIME_STATUS_VALID = true) ∧ (1000000 < 1999995)) ∧ (match exec (.refSelection 0 0 671088640) w_refSelection_forward with
    | .next t => decide ((Reads t [(TIME_STATUS_SOURCE, 2), (TIME_CNT_SWITCHES, if w_refSelection_forward.get TIME_STATUS_SOURCE = 2 then w_refSelection_forward.get TIME_CNT_SWITCHES else w_refSelection_forward.adv TIME_CNT_SWITCHES), (SRC_OFFSET_D, usgn 32 (clampI (-2147483648) 2147483647 1999995)), (TIME_STATUS_BACK_PENDING, 0), (TIME_STATUS_HOLDOVER, if (1999995 ≤ (w_refSelection_forward.get HOLD_CFG_HOLD_SPEC : Int) ∧ -1999995 ≤ (w_refSelection_forward.get HOLD_CFG_HOLD_SPEC : Int)) then 0 else w_refSelection_forward.get TIME_STATUS_HOLDOVER), (TIME_ERR_EST, if (1999995 ≤ (w_refSelection_forward.get HOLD_CFG_HOLD_SPEC : Int) ∧ -1999995 ≤ (w_refSelection_forward.get HOLD_CFG_HOLD_SPEC : Int)) then w_refSelection_forward.get TIME_ERR_EST else (match w_refSelection_forward.time.hold with | some h => holdEst h (((w_refSelection_forward.ply - h.ply : Nat) : Rat) / 100000) (w_refSelection_forward.get HOLD_CFG_AGING) | none => w_refSelection_forward.get TIME_ERR_EST)), (TIME_STATUS_STEP_ARMED, 1)]) ∧ (t.evr = (if w_refSelection_forward.get TIME_STATUS_SOURCE = 2 then w_refSelection_forward else w_refSelection_forward.record .refSwitch [2]).evr))
    | _ => false) = true := by decide +kernel

def w_refSelection_first : State := { (at_ [(TIME_STATUS_VALID, 0), (REF_CFG_P1, 1), (REF_CFG_P2, 2), (TIME_STATUS_HOLDOVER, 1), (HOLD_CFG_HOLD_SPEC, 1500), (DOM_STATUS_STATE 0, 2), (DOM_ASYM_ASYM 0, 5)]) with ply := 2000000, time := { State.reset.time with useSince := [(2, 3)], offs := [(1, 7), (2, -2000000)] } }

theorem test_refSelection_first : ((w_refSelection_first.stopSafe = true) ∧ (w_refSelection_first.secondHere.isSome = true) ∧ (w_refSelection_first.time.selPly ≠ some w_refSelection_first.ply) ∧ (w_refSelection_first.time.ptpNext = none) ∧ (w_refSelection_first.srcTrack.srcPick = some 2) ∧ (2 < 5) ∧ (w_refSelection_first.srcD 2 = (-2000005 : Int)) ∧ (w_refSelection_first.time.step = none) ∧ (w_refSelection_first.bit TIME_STATUS_VALID = false)) ∧ (match exec (.refSelection 0 0 671088640) w_refSelection_first with
    | .next t => decide ((Reads t [(TIME_STATUS_SOURCE, 2), (TIME_CNT_SWITCHES, if w_refSelection_first.get TIME_STATUS_SOURCE = 2 then w_refSelection_first.get TIME_CNT_SWITCHES else w_refSelection_first.adv TIME_CNT_SWITCHES), (SRC_OFFSET_D, usgn 32 (clampI (-2147483648) 2147483647 (-2000005 : Int))), (TIME_STATUS_BACK_PENDING, if (-2000005 : Int) < -1000000 then w_refSelection_first.get TIME_STATUS_BACK_PENDING else 0), (TIME_STATUS_HOLDOVER, if ((-2000005 : Int) ≤ (w_refSelection_first.get HOLD_CFG_HOLD_SPEC : Int) ∧ -(-2000005 : Int) ≤ (w_refSelection_first.get HOLD_CFG_HOLD_SPEC : Int)) then 0 else w_refSelection_first.get TIME_STATUS_HOLDOVER), (TIME_ERR_EST, if ((-2000005 : Int) ≤ (w_refSelection_first.get HOLD_CFG_HOLD_SPEC : Int) ∧ -(-2000005 : Int) ≤ (w_refSelection_first.get HOLD_CFG_HOLD_SPEC : Int)) then w_refSelection_first.get TIME_ERR_EST else (match w_refSelection_first.time.hold with | some h => holdEst h (((w_refSelection_first.ply - h.ply : Nat) : Rat) / 100000) (w_refSelection_first.get HOLD_CFG_AGING) | none => w_refSelection_first.get TIME_ERR_EST)), (TIME_STATUS_STEP_ARMED, 1)]) ∧ (t.evr = (if w_refSelection_first.get TIME_STATUS_SOURCE = 2 then w_refSelection_first else w_refSelection_first.record .refSwitch [2]).evr))
    | _ => false) = true := by decide +kernel

def w_refSelection_none : State := at_ [(TIME_STATUS_SOURCE, 1), (REF_CFG_P1, 1)]

theorem test_refSelection_none : (w_refSelection_none.stopSafe = true) ∧ (w_refSelection_none.secondHere.isSome = true) ∧ (w_refSelection_none.time.selPly ≠ some w_refSelection_none.ply) ∧ (w_refSelection_none.time.ptpNext = none) ∧ (w_refSelection_none.srcTrack.srcPick = none) ∧ (({ ply := 0, e0 := 40, uF := 30 } : HoldRec) = w_refSelection_none.time.hold.getD { ply := w_refSelection_none.ply, e0 := 40, uF := 30 }) := by decide +kernel

def w_refSelection_ptp : State := { (at_ [(DOM_STATUS_STATE 0, 2)]) with time := { State.reset.time with ptp := [0, 0, 128, 128, 0, 0, 0, 0, 0, 0, 2, 1, 3, 2, 100, 0], ptpNext := some [0, 0, 128, 128, 0, 0, 0, 0, 0, 0, 0xFF, 1, 4, 2, 44, 1] } }

theorem test_refSelection_ptp : (w_refSelection_ptp.stopSafe = true) ∧ (w_refSelection_ptp.secondHere.isSome = true) ∧ (w_refSelection_ptp.time.selPly ≠ some w_refSelection_ptp.ply) ∧ (w_refSelection_ptp.time.ptpNext = some ([0, 0, 128, 128, 0, 0, 0, 0, 0, 0, 0xFF, 1, 4, 2, 44, 1] : List Nat)) ∧ (({ w_refSelection_ptp with time := { w_refSelection_ptp.time with selPly := some w_refSelection_ptp.ply } } : State).ptpApply.srcTrack.srcPick = none) ∧ (({ ply := 0, e0 := 40, uF := 30 } : HoldRec) = w_refSelection_ptp.time.hold.getD { ply := w_refSelection_ptp.ply, e0 := 40, uF := 30 }) := by decide +kernel

def w_domainOffsetSample : State := at_ [(DOM_STATUS_STATE 1, 2), (REF_CFG_JUMP_US, 100), (DOM_ASYM_ASYM 1, 20)]

theorem test_domainOffsetSample : ((w_domainOffsetSample.stopSafe = true) ∧ (1 < 2) ∧ (({} : DomSt) = (if false then { w_domainOffsetSample.dom 1 with asym := 0, asymAt := none } else w_domainOffsetSample.dom 1)) ∧ (w_domainOffsetSample.get (DOM_STATUS_STATE 1) = 1 ∨ w_domainOffsetSample.get (DOM_STATUS_STATE 1) = 2) ∧ (w_domainOffsetSample.get TIME_STATUS_SOURCE ≠ 1 ∨ w_domainOffsetSample.get (DOM_STATUS_STATE 1) = 1) ∧ (100000 - 0 ≤ (w_domainOffsetSample.get REF_CFG_JUMP_US : Int) * 1000) ∧ (0 - 100000 ≤ (w_domainOffsetSample.get REF_CFG_JUMP_US : Int) * 1000)) ∧ (match exec (.domainOffsetSample 1 100000 0 false 0 0 0) w_domainOffsetSample with
    | .next t => decide ((Reads t [(DOM_OFFSET_OFFSET 1, usgn 32 (clampI (-2147483648) 2147483647 (100000 - (if false then 0 else w_domainOffsetSample.getS (DOM_ASYM_ASYM 1))))), (DOM_ASYM_ASYM 1, if false then 0 else w_domainOffsetSample.get (DOM_ASYM_ASYM 1))]))
    | _ => false) = true := by decide +kernel

def w_domainOffsetSample_filter : State := at_ [(DOM_STATUS_STATE 1, 2), (REF_CFG_JUMP_US, 100), (TIME_STATUS_SOURCE, 1)]

theorem test_domainOffsetSample_filter : (w_domainOffsetSample_filter.stopSafe = true) ∧ (1 < 2) ∧ (({} : DomSt) = (if false then { w_domainOffsetSample_filter.dom 1 with asym := 0, asymAt := none } else w_domainOffsetSample_filter.dom 1)) ∧ (w_domainOffsetSample_filter.get (DOM_STATUS_STATE 1) = 2) ∧ (w_domainOffsetSample_filter.get TIME_STATUS_SOURCE = 1) ∧ (500 - 0 ≤ (w_domainOffsetSample_filter.get REF_CFG_JUMP_US : Int) * 1000) ∧ (0 - 500 ≤ (w_domainOffsetSample_filter.get REF_CFG_JUMP_US : Int) * 1000) := by decide +kernel

def w_domainOffsetSample_first : State := at_ [(DOM_STATUS_STATE 0, 1), (REF_CFG_JUMP_US, 100)]

theorem test_domainOffsetSample_first : ((w_domainOffsetSample_first.stopSafe = true) ∧ (0 < 2) ∧ (({} : DomSt) = (if false then { w_domainOffsetSample_first.dom 0 with asym := 0, asymAt := none } else w_domainOffsetSample_first.dom 0)) ∧ (w_domainOffsetSample_first.get (DOM_STATUS_STATE 0) = 1 ∨ w_domainOffsetSample_first.get (DOM_STATUS_STATE 0) = 2) ∧ (({} : DomSt).out ≠ 1) ∧ ((1 = 1 ∧ (w_domainOffsetSample_first.get REF_CFG_JUMP_US : Int) * 1000 < 100001 - 0) ∨ (1 = -1 ∧ (w_domainOffsetSample_first.get REF_CFG_JUMP_US : Int) * 1000 < 0 - 100001))) ∧ (match exec (.domainOffsetSample 0 100001 0 false 0 0 0) w_domainOffsetSample_first with
    | .next t => decide ((Reads t [(TIME_CNT_OUTLIER, w_domainOffsetSample_first.adv TIME_CNT_OUTLIER), (DOM_ASYM_ASYM 0, if false then 0 else w_domainOffsetSample_first.get (DOM_ASYM_ASYM 0))]))
    | _ => false) = true := by decide +kernel

def w_domainOffsetSample_second : State := { (at_ [(DOM_STATUS_STATE 0, 1), (REF_CFG_JUMP_US, 100)]) with time := { State.reset.time with domA := { out := 1 } } }

theorem test_domainOffsetSample_second : ((w_domainOffsetSample_second.stopSafe = true) ∧ (0 < 2) ∧ (({ out := 1 } : DomSt) = (if false then { w_domainOffsetSample_second.dom 0 with asym := 0, asymAt := none } else w_domainOffsetSample_second.dom 0)) ∧ (w_domainOffsetSample_second.get (DOM_STATUS_STATE 0) = 1 ∨ w_domainOffsetSample_second.get (DOM_STATUS_STATE 0) = 2) ∧ (({ out := 1 } : DomSt).out = 1) ∧ (w_domainOffsetSample_second.get TIME_STATUS_SOURCE ≠ 0 + 2) ∧ ((1 = 1 ∧ (w_domainOffsetSample_second.get REF_CFG_JUMP_US : Int) * 1000 < 100001 - 0) ∨ (1 = -1 ∧ (w_domainOffsetSample_second.get REF_CFG_JUMP_US : Int) * 1000 < 0 - 100001))) ∧ (match exec (.domainOffsetSample 0 100001 0 false 0 0 0) w_domainOffsetSample_second with
    | .next t => decide ((Reads t [(TIME_CNT_OUTLIER, w_domainOffsetSample_second.adv TIME_CNT_OUTLIER), (DOM_STATUS_STATE 0, 3), (DOM_ASYM_ASYM 0, if false then 0 else w_domainOffsetSample_second.get (DOM_ASYM_ASYM 0))]) ∧ (t.evr = (w_domainOffsetSample_second.record .domFaulted [0]).evr))
    | _ => false) = true := by decide +kernel

def w_domainOffsetSample_source : State := { (at_ [(DOM_STATUS_STATE 0, 2), (REF_CFG_JUMP_US, 100), (TIME_STATUS_SOURCE, 2)]) with time := { State.reset.time with domA := { out := 1 } } }

theorem test_domainOffsetSample_source : (w_domainOffsetSample_source.stopSafe = true) ∧ (0 < 2) ∧ (({ out := 1 } : DomSt) = (if false then { w_domainOffsetSample_source.dom 0 with asym := 0, asymAt := none } else w_domainOffsetSample_source.dom 0)) ∧ (w_domainOffsetSample_source.get (DOM_STATUS_STATE 0) = 1 ∨ w_domainOffsetSample_source.get (DOM_STATUS_STATE 0) = 2) ∧ (({ out := 1 } : DomSt).out = 1) ∧ (w_domainOffsetSample_source.get TIME_STATUS_SOURCE = 0 + 2) ∧ (((State.put { (at_ [(DOM_STATUS_STATE 0, 2), (REF_CFG_JUMP_US, 100), (TIME_STATUS_SOURCE, 2)]) with time := { State.reset.time with domA := { out := 1 } } } (DOM_STATUS_STATE 0) 3).srcTrack : State) = (w_domainOffsetSample_source.put (DOM_STATUS_STATE 0) 3).srcTrack) ∧ (((State.put { (at_ [(DOM_STATUS_STATE 0, 2), (REF_CFG_JUMP_US, 100), (TIME_STATUS_SOURCE, 2)]) with time := { State.reset.time with domA := { out := 1 } } } (DOM_STATUS_STATE 0) 3).srcTrack : State).srcPick = none) ∧ (({ ply := 0, e0 := 0, uF := 0 } : HoldRec) = w_domainOffsetSample_source.time.hold.getD { ply := w_domainOffsetSample_source.ply, e0 := 0, uF := 0 }) ∧ ((1 = 1 ∧ (w_domainOffsetSample_source.get REF_CFG_JUMP_US : Int) * 1000 < 100001 - 0) ∨ (1 = -1 ∧ (w_domainOffsetSample_source.get REF_CFG_JUMP_US : Int) * 1000 < 0 - 100001)) := by decide +kernel

def w_domainOffsetSample_faulted : State := { (at_ [(DOM_STATUS_STATE 1, 3), (REF_CFG_JUMP_US, 100)]) with ply := 7, time := { State.reset.time with domB := { last := some 5 } } }

theorem test_domainOffsetSample_faulted : ((w_domainOffsetSample_faulted.stopSafe = true) ∧ (1 < 2) ∧ (({ last := some 5 } : DomSt) = (if false then { w_domainOffsetSample_faulted.dom 1 with asym := 0, asymAt := none } else w_domainOffsetSample_faulted.dom 1)) ∧ (w_domainOffsetSample_faulted.get (DOM_STATUS_STATE 1) = 3)) ∧ (match exec (.domainOffsetSample 1 60 0 false 0 0 0) w_domainOffsetSample_faulted with
    | .next t => decide ((Reads t [(DOM_OFFSET_OFFSET 1, usgn 32 (clampI (-2147483648) 2147483647 (60 - (if false then 0 else w_domainOffsetSample_faulted.getS (DOM_ASYM_ASYM 1))))), (DOM_ASYM_ASYM 1, if false then 0 else w_domainOffsetSample_faulted.get (DOM_ASYM_ASYM 1))]))
    | _ => false) = true := by decide +kernel

def w_domainFaultRecovery : State := { (at_ [(DOM_STATUS_STATE 1, 3)]) with ply := 6000001, time := { State.reset.time with domB := { calm := some 1 } } }

theorem test_domainFaultRecovery : ((w_domainFaultRecovery.stopSafe = true) ∧ (1 < 2) ∧ (w_domainFaultRecovery.get (DOM_STATUS_STATE 1) = 3) ∧ ((w_domainFaultRecovery.dom 1).calm = some 1) ∧ (1 + 6000000 ≤ w_domainFaultRecovery.ply)) ∧ (match exec (.domainFaultRecovery 1) w_domainFaultRecovery with
    | .next t => decide ((Reads t [(DOM_STATUS_STATE 1, 2)]))
    | _ => false) = true := by decide +kernel

def w_domainTracking : State := { (at_ [(DOM_STATUS_STATE 1, 1)]) with ply := 3000000 }

theorem test_domainTracking : ((w_domainTracking.stopSafe = true) ∧ (1 < 2) ∧ (w_domainTracking.get (DOM_STATUS_STATE 1) = 1) ∧ ((w_domainTracking.dom 1).acqAt + 3000000 ≤ w_domainTracking.ply)) ∧ (match exec (.domainTracking 1) w_domainTracking with
    | .next t => decide ((Reads t [(DOM_STATUS_STATE 1, 2)]))
    | _ => false) = true := by decide +kernel

def w_ptpForeignMaster : State := { wReset with time := { State.reset.time with ptp := [4] } }

theorem test_ptpForeignMaster : ((w_ptpForeignMaster.stopSafe = true) ∧ (2 < 6) ∧ (bitOf (leAt w_ptpForeignMaster.time.ptp 0 1) 2 = true) ∧ ((2 == 5 && w_ptpForeignMaster.bit PAIR_CTRL_EN) = false) ∧ (w_ptpForeignMaster.time.passive.contains 2 = false)) ∧ (match exec (.ptpForeignMaster 2) w_ptpForeignMaster with
    | .next t => decide ((Reads t [(DOM_GM_STATUS_FOREIGN_BETTER, 1)]) ∧ (t.time = { w_ptpForeignMaster.time with passive := w_ptpForeignMaster.time.passive ++ [2] }) ∧ (t.evr = (w_ptpForeignMaster.record .foreignBetter [2]).evr))
    | _ => false) = true := by decide +kernel

def w_leapFlagSet : State := { (at_ [(TIME_STATUS_UTC_VALID, 1)]) with time := { State.reset.time with leapAt := some (43200, true) } }

theorem test_leapFlagSet : ((w_leapFlagSet.stopSafe = true) ∧ (w_leapFlagSet.time.leapAt = some (43200, true)) ∧ (w_leapFlagSet.bit TIME_STATUS_UTC_VALID = true) ∧ (43200 ≤ w_leapFlagSet.secNow + 43200) ∧ (w_leapFlagSet.secNow < 43200)) ∧ (match exec (.leapFlagSet) w_leapFlagSet with
    | .next t => decide ((Reads t [(TIME_STATUS_LEAP61, if true then 1 else w_leapFlagSet.get TIME_STATUS_LEAP61), (TIME_STATUS_LEAP59, if true then w_leapFlagSet.get TIME_STATUS_LEAP59 else 1)]))
    | _ => false) = true := by decide +kernel

def w_leapFlagClear : State := { (at_ [(TIME_STATUS_LEAP61, 1)]) with time := { State.reset.time with sec := 9, leapAt := some (9, true) } }

theorem test_leapFlagClear : ((w_leapFlagClear.stopSafe = true) ∧ (w_leapFlagClear.time.leapAt = some (9, true)) ∧ (9 ≤ w_leapFlagClear.secNow)) ∧ (match exec (.leapFlagClear) w_leapFlagClear with
    | .next t => decide ((Reads t [(TIME_STATUS_LEAP61, 0), (TIME_STATUS_LEAP59, 0)]) ∧ (t.time = { w_leapFlagClear.time with utc := w_leapFlagClear.time.utc + (if true then 1 else -1), leapAt := none }))
    | _ => false) = true := by decide +kernel

def w_stepCtrlArm : State := at_ [(STEP_S_DELTA_S, 2 ^ 32 - 3), (STEP_NS_DELTA_NS, 0)]

theorem test_stepCtrlArm : ((w_stepCtrlArm.stopSafe = true) ∧ (MayWrite w_stepCtrlArm 0x10 0x40600028) ∧ (bits 0x53540003 31 16 = 0x5354) ∧ (bitOf 0x53540003 0 = true) ∧ (bitOf 0x53540003 2 = false) ∧ ((-3000000000 : Int) = w_stepCtrlArm.getS STEP_S_DELTA_S * 1000000000 + w_stepCtrlArm.getS STEP_NS_DELTA_NS) ∧ (deltaOk (w_stepCtrlArm.getS STEP_S_DELTA_S) (w_stepCtrlArm.getS STEP_NS_DELTA_NS) = true) ∧ (w_stepCtrlArm.time.step = none) ∧ (bitOf 0x53540003 1 = true ∨ 0 ≤ (-3000000000 : Int))) ∧ (match exec (.stepCtrlArm 0x10 0x53540003) w_stepCtrlArm with
    | .next t => decide ((Reads t [(TIME_STATUS_STEP_ARMED, 1)]) ∧ (t.time = { w_stepCtrlArm.time with step := some { delta := (-3000000000 : Int), back := bitOf 0x53540003 1, first := !w_stepCtrlArm.bit TIME_STATUS_VALID, sec := if w_stepCtrlArm.bit TIME_STATUS_VALID then some w_stepCtrlArm.secNow else none } }))
    | _ => false) = true := by decide +kernel

def w_stepCtrlArm_refused : State := at_ [(STEP_S_DELTA_S, 2 ^ 32 - 3), (STEP_NS_DELTA_NS, 0)]

theorem test_stepCtrlArm_refused : ((w_stepCtrlArm_refused.stopSafe = true) ∧ (MayWrite w_stepCtrlArm_refused 0x10 0x40600028) ∧ (bitOf 0x53540001 0 = true) ∧ (bitOf 0x53540001 2 = false) ∧ ((-3000000000 : Int) = w_stepCtrlArm_refused.getS STEP_S_DELTA_S * 1000000000 + w_stepCtrlArm_refused.getS STEP_NS_DELTA_NS) ∧ (bits 0x53540001 31 16 ≠ 0x5354 ∨ deltaOk (w_stepCtrlArm_refused.getS STEP_S_DELTA_S) (w_stepCtrlArm_refused.getS STEP_NS_DELTA_NS) = false ∨ w_stepCtrlArm_refused.time.step.isSome = true ∨ (bitOf 0x53540001 1 = false ∧ (-3000000000 : Int) < 0))) ∧ (match exec (.stepCtrlArm 0x10 0x53540001) w_stepCtrlArm_refused with
    | .next t => decide ((Reads t [(TIME_STATUS_STEP_ARMED, w_stepCtrlArm_refused.get TIME_STATUS_STEP_ARMED)]))
    | _ => false) = true := by decide +kernel

def w_stepCtrlAccept : State := { (at_ [(TIME_STATUS_BACK_PENDING, 1)]) with time := { State.reset.time with backD := -2000000 } }

theorem test_stepCtrlAccept : ((w_stepCtrlAccept.stopSafe = true) ∧ (MayWrite w_stepCtrlAccept 0x10 0x40600028) ∧ (bits 0x53540004 31 16 = 0x5354) ∧ (bitOf 0x53540004 2 = true) ∧ (w_stepCtrlAccept.time.step = none) ∧ (w_stepCtrlAccept.bit TIME_STATUS_BACK_PENDING = true)) ∧ (match exec (.stepCtrlAccept 0x10 0x53540004) w_stepCtrlAccept with
    | .next t => decide ((Reads t [(TIME_STATUS_STEP_ARMED, 1)]) ∧ (t.time = { w_stepCtrlAccept.time with step := some { delta := w_stepCtrlAccept.time.backD, auto := true, back := true, first := !w_stepCtrlAccept.bit TIME_STATUS_VALID, sec := if w_stepCtrlAccept.bit TIME_STATUS_VALID then some w_stepCtrlAccept.secNow else none } }))
    | _ => false) = true := by decide +kernel

theorem test_stepCtrlAccept_refused : ((wReset.stopSafe = true) ∧ (MayWrite wReset 0x10 0x40600028) ∧ (bitOf 0x53540004 2 = true) ∧ (bits 0x53540004 31 16 ≠ 0x5354 ∨ wReset.time.step.isSome = true ∨ wReset.bit TIME_STATUS_BACK_PENDING = false)) ∧ (match exec (.stepCtrlAccept 0x10 0x53540004) wReset with
    | .next t => decide ((Reads t [(TIME_STATUS_STEP_ARMED, wReset.get TIME_STATUS_STEP_ARMED)]))
    | _ => false) = true := by decide +kernel

def w_stepAnnounce : State := { wReset with time := { State.reset.time with sec := 8, step := some { delta := 5, sec := some 7 } } }

theorem test_stepAnnounce : ((w_stepAnnounce.stopSafe = true) ∧ (w_stepAnnounce.time.step = some ({ delta := 5, sec := some 7 } : StepArm)) ∧ (({ delta := 5, sec := some 7 } : StepArm).announced = false) ∧ (({ delta := 5, sec := some 7 } : StepArm).first = false) ∧ (({ delta := 5, sec := some 7 } : StepArm).sec = some 7) ∧ (7 + 1 ≤ w_stepAnnounce.secNow)) ∧ (match exec (.stepAnnounce) w_stepAnnounce with
    | .next t => decide ((Reads t [(TIME_STATUS_STEP_ANNOUNCED, 1)]) ∧ (t.time = { w_stepAnnounce.time with step := some { ({ delta := 5, sec := some 7 } : StepArm) with announced := true } }) ∧ (t.evr = (w_stepAnnounce.record .stepAnnounced []).evr))
    | _ => false) = true := by decide +kernel

def w_stepLand : State := { (at_ [(TIME_STATUS_TIME_GEN, 65535)]) with time := { State.reset.time with sec := 100, fx := 5, step := some { delta := -70000000, announced := true, sec := some 90 } } }

theorem test_stepLand : ((w_stepLand.stopSafe = true) ∧ (w_stepLand.time.step = some ({ delta := -70000000, announced := true, sec := some 90 } : StepArm)) ∧ (w_stepLand.stepDue = true) ∧ ((-70000000 : Int) = (if ({ delta := -70000000, announced := true, sec := some 90 } : StepArm).auto then w_stepLand.srcD (w_stepLand.get TIME_STATUS_SOURCE) else ({ delta := -70000000, announced := true, sec := some 90 } : StepArm).delta)) ∧ (0 = ({ w_stepLand with time := { w_stepLand.time with offs := w_stepLand.time.offs.map (fun e => (e.1, e.2 - (-70000000 : Int))) } } : State).srcD (w_stepLand.get TIME_STATUS_SOURCE)) ∧ (({ delta := -70000000, announced := true, sec := some 90 } : StepArm).first = false) ∧ (({ delta := -70000000, announced := true, sec := some 90 } : StepArm).auto = false ∨ ({ delta := -70000000, announced := true, sec := some 90 } : StepArm).back = true ∨ 0 ≤ (-70000000 : Int)) ∧ (({ delta := -70000000, announced := true, sec := some 90 } : StepArm).req = none)) ∧ (match exec (.stepLand) w_stepLand with
    | .next t => decide ((Reads t [(TIME_STATUS_STEP_ARMED, 0), (TIME_STATUS_STEP_ANNOUNCED, 0), (TIME_STATUS_TIME_GEN, (w_stepLand.get TIME_STATUS_TIME_GEN + 1) % 65536), (TIME_STATUS_BACK_PENDING, if (-70000000 : Int) < 0 then 0 else w_stepLand.get TIME_STATUS_BACK_PENDING), (SRC_OFFSET_D, if w_stepLand.get TIME_STATUS_SOURCE = 0 then w_stepLand.get SRC_OFFSET_D else usgn 32 (clampI (-2147483648) 2147483647 0)), (TIME_STATUS_HOLDOVER, if w_stepLand.get TIME_STATUS_SOURCE ≠ 0 ∧ (0 ≤ (w_stepLand.get HOLD_CFG_HOLD_SPEC : Int) ∧ -0 ≤ (w_stepLand.get HOLD_CFG_HOLD_SPEC : Int)) then 0 else w_stepLand.get TIME_STATUS_HOLDOVER), (TIME_ERR_EST, if w_stepLand.get TIME_STATUS_SOURCE = 0 ∨ (0 ≤ (w_stepLand.get HOLD_CFG_HOLD_SPEC : Int) ∧ -0 ≤ (w_stepLand.get HOLD_CFG_HOLD_SPEC : Int)) then w_stepLand.get TIME_ERR_EST else (match w_stepLand.time.hold with | some h => holdEst h (((w_stepLand.ply - h.ply : Nat) : Rat) / 100000) (w_stepLand.get HOLD_CFG_AGING) | none => w_stepLand.get TIME_ERR_EST)), (GRID_PHASE_PHI, if w_stepLand.time.grid then usgn 32 (phaseReduce (w_stepLand.getS GRID_PHASE_PHI + (-70000000 : Int))) else w_stepLand.get GRID_PHASE_PHI), (TIME_STATUS_SHIFT_PENDING, if w_stepLand.time.grid ∧ (1000 < phaseReduce (w_stepLand.getS GRID_PHASE_PHI + (-70000000 : Int)) ∨ phaseReduce (w_stepLand.getS GRID_PHASE_PHI + (-70000000 : Int)) < -1000) then 1 else w_stepLand.get TIME_STATUS_SHIFT_PENDING)]) ∧ (w_stepLand.rst.held.contains .sys = false → w_stepLand.evr.queue.length + 2 ≤ 64 → (t.evr.queue.getLast?).map (fun (x : Rec) => (x.ev, x.payload)) = some (.stepLanded, leBytes 6 w_stepLand.time.sec ++ leBytes 4 w_stepLand.time.ns ++ leBytes 6 t.time.sec ++ leBytes 4 t.time.ns ++ leBytes 2 ((w_stepLand.get TIME_STATUS_TIME_GEN + 1) % 65536))))
    | _ => false) = true := by decide +kernel

def w_stepLand_req : State := { (at_ [(TIME_STATUS_TIME_GEN, 65535), (ECP_CTRL_AUTH_REQ, 0)]) with time := { State.reset.time with sec := 100, fx := 5, step := some { delta := -70000000, announced := true, sec := some 90, req := some (3, 4) } }, ecp := { State.reset.ecp with sessions := [{ id := 3, port := 1, ip := 0x0A000001, udp := 5000, devSeq := 7, inProg := [{ tag := 4, op := 0x0201, crc := 1 }] }] } }

theorem test_stepLand_req : ((w_stepLand_req.stopSafe = true) ∧ (w_stepLand_req.time.step = some ({ delta := -70000000, announced := true, sec := some 90, req := some (3, 4) } : StepArm)) ∧ (w_stepLand_req.stepDue = true) ∧ ((-70000000 : Int) = (if ({ delta := -70000000, announced := true, sec := some 90, req := some (3, 4) } : StepArm).auto then w_stepLand_req.srcD (w_stepLand_req.get TIME_STATUS_SOURCE) else ({ delta := -70000000, announced := true, sec := some 90, req := some (3, 4) } : StepArm).delta)) ∧ (0 = ({ w_stepLand_req with time := { w_stepLand_req.time with offs := w_stepLand_req.time.offs.map (fun e => (e.1, e.2 - (-70000000 : Int))) } } : State).srcD (w_stepLand_req.get TIME_STATUS_SOURCE)) ∧ (({ delta := -70000000, announced := true, sec := some 90, req := some (3, 4) } : StepArm).first = false) ∧ (({ delta := -70000000, announced := true, sec := some 90, req := some (3, 4) } : StepArm).auto = false ∨ ({ delta := -70000000, announced := true, sec := some 90, req := some (3, 4) } : StepArm).back = true ∨ 0 ≤ (-70000000 : Int)) ∧ (({ delta := -70000000, announced := true, sec := some 90, req := some (3, 4) } : StepArm).req = some (3, 4)) ∧ (w_stepLand_req.session 3 = some ({ id := 3, port := 1, ip := 0x0A000001, udp := 5000, devSeq := 7, inProg := [{ tag := 4, op := 0x0201, crc := 1 }] } : EcpSession)) ∧ (({ id := 3, port := 1, ip := 0x0A000001, udp := 5000, devSeq := 7, inProg := [{ tag := 4, op := 0x0201, crc := 1 }] } : EcpSession).inProg.find? (fun z => z.tag == 4) = some ({ tag := 4, op := 0x0201, crc := 1 } : EcpOpen)) ∧ (unheldOp ({ tag := 4, op := 0x0201, crc := 1 } : EcpOpen).op = false) ∧ (w_stepLand_req.sessSends ({ id := 3, port := 1, ip := 0x0A000001, udp := 5000, devSeq := 7, inProg := [{ tag := 4, op := 0x0201, crc := 1 }] } : EcpSession) = true) ∧ (({ id := 3, port := 1, ip := 0x0A000001, udp := 5000, devSeq := 7, inProg := [{ tag := 4, op := 0x0201, crc := 1 }] } : EcpSession).devSeq < 0xFFFFFFFF) ∧ (3 = 8 → w_stepLand_req.ecp.spiOut.length < 16)) ∧ (match exec (.stepLand) w_stepLand_req with
    | .next t => decide ((Reads t [(TIME_STATUS_STEP_ARMED, 0), (TIME_STATUS_STEP_ANNOUNCED, 0), (TIME_STATUS_TIME_GEN, (w_stepLand_req.get TIME_STATUS_TIME_GEN + 1) % 65536), (TIME_STATUS_BACK_PENDING, if (-70000000 : Int) < 0 then 0 else w_stepLand_req.get TIME_STATUS_BACK_PENDING), (SRC_OFFSET_D, if w_stepLand_req.get TIME_STATUS_SOURCE = 0 then w_stepLand_req.get SRC_OFFSET_D else usgn 32 (clampI (-2147483648) 2147483647 0)), (TIME_STATUS_HOLDOVER, if w_stepLand_req.get TIME_STATUS_SOURCE ≠ 0 ∧ (0 ≤ (w_stepLand_req.get HOLD_CFG_HOLD_SPEC : Int) ∧ -0 ≤ (w_stepLand_req.get HOLD_CFG_HOLD_SPEC : Int)) then 0 else w_stepLand_req.get TIME_STATUS_HOLDOVER), (TIME_ERR_EST, if w_stepLand_req.get TIME_STATUS_SOURCE = 0 ∨ (0 ≤ (w_stepLand_req.get HOLD_CFG_HOLD_SPEC : Int) ∧ -0 ≤ (w_stepLand_req.get HOLD_CFG_HOLD_SPEC : Int)) then w_stepLand_req.get TIME_ERR_EST else (match w_stepLand_req.time.hold with | some h => holdEst h (((w_stepLand_req.ply - h.ply : Nat) : Rat) / 100000) (w_stepLand_req.get HOLD_CFG_AGING) | none => w_stepLand_req.get TIME_ERR_EST)), (GRID_PHASE_PHI, if w_stepLand_req.time.grid then usgn 32 (phaseReduce (w_stepLand_req.getS GRID_PHASE_PHI + (-70000000 : Int))) else w_stepLand_req.get GRID_PHASE_PHI), (TIME_STATUS_SHIFT_PENDING, if w_stepLand_req.time.grid ∧ (1000 < phaseReduce (w_stepLand_req.getS GRID_PHASE_PHI + (-70000000 : Int)) ∨ phaseReduce (w_stepLand_req.getS GRID_PHASE_PHI + (-70000000 : Int)) < -1000) then 1 else w_stepLand_req.get TIME_STATUS_SHIFT_PENDING)]) ∧ (sends w_stepLand_req t ({ id := 3, port := 1, ip := 0x0A000001, udp := 5000, devSeq := 7, inProg := [{ tag := 4, op := 0x0201, crc := 1 }] } : EcpSession) [] [⟨({ tag := 4, op := 0x0201, crc := 1 } : EcpOpen).op, 4, Ecp.OK, respFlags ({ id := 3, port := 1, ip := 0x0A000001, udp := 5000, devSeq := 7, inProg := [{ tag := 4, op := 0x0201, crc := 1 }] } : EcpSession), ({ id := 3, port := 1, ip := 0x0A000001, udp := 5000, devSeq := 7, inProg := [{ tag := 4, op := 0x0201, crc := 1 }] } : EcpSession).devSeq + 1, leBytes 8 w_stepLand_req.time.sec ++ leBytes 2 ((w_stepLand_req.get TIME_STATUS_TIME_GEN + 1) % 65536) ++ [0, 0], ({ id := 3, port := 1, ip := 0x0A000001, udp := 5000, devSeq := 7, inProg := [{ tag := 4, op := 0x0201, crc := 1 }] } : EcpSession).key⟩] = true) ∧ (t.session 3 = some { ({ id := 3, port := 1, ip := 0x0A000001, udp := 5000, devSeq := 7, inProg := [{ tag := 4, op := 0x0201, crc := 1 }] } : EcpSession) with devSeq := ({ id := 3, port := 1, ip := 0x0A000001, udp := 5000, devSeq := 7, inProg := [{ tag := 4, op := 0x0201, crc := 1 }] } : EcpSession).devSeq + 1, inProg := ({ id := 3, port := 1, ip := 0x0A000001, udp := 5000, devSeq := 7, inProg := [{ tag := 4, op := 0x0201, crc := 1 }] } : EcpSession).inProg.filter (fun z => z.tag ≠ 4), held := (holdResult ({ id := 3, port := 1, ip := 0x0A000001, udp := 5000, devSeq := 7, inProg := [{ tag := 4, op := 0x0201, crc := 1 }] } : EcpSession) ⟨4, ({ tag := 4, op := 0x0201, crc := 1 } : EcpOpen).op, ({ tag := 4, op := 0x0201, crc := 1 } : EcpOpen).crc, Ecp.OK, leBytes 8 w_stepLand_req.time.sec ++ leBytes 2 ((w_stepLand_req.get TIME_STATUS_TIME_GEN + 1) % 65536) ++ [0, 0], true⟩).held }) ∧ (onlySession w_stepLand_req t 3 = true))
    | _ => false) = true := by decide +kernel

def w_stepLand_first : State := { wReset with time := { State.reset.time with sec := 5, offs := [(1, 1500000000000000123)], step := some { auto := true, first := true, sec := some 4 } } }

theorem test_stepLand_first : ((w_stepLand_first.stopSafe = true) ∧ (w_stepLand_first.time.step = some ({ auto := true, first := true, sec := some 4 } : StepArm)) ∧ (w_stepLand_first.stepDue = true) ∧ (0 = (if ({ auto := true, first := true, sec := some 4 } : StepArm).auto then w_stepLand_first.srcD (w_stepLand_first.get TIME_STATUS_SOURCE) else ({ auto := true, first := true, sec := some 4 } : StepArm).delta)) ∧ (0 = ({ w_stepLand_first with time := { w_stepLand_first.time with offs := w_stepLand_first.time.offs.map (fun e => (e.1, e.2 - 0)) } } : State).srcD (w_stepLand_first.get TIME_STATUS_SOURCE)) ∧ (({ auto := true, first := true, sec := some 4 } : StepArm).first = true) ∧ (({ auto := true, first := true, sec := some 4 } : StepArm).req = none)) ∧ (match exec (.stepLand) w_stepLand_first with
    | .next t => decide ((Reads t [(TIME_STATUS_STEP_ARMED, 0), (TIME_STATUS_STEP_ANNOUNCED, 0), (TIME_STATUS_TIME_GEN, (w_stepLand_first.get TIME_STATUS_TIME_GEN + 1) % 65536), (TIME_STATUS_BACK_PENDING, if 0 < 0 then 0 else w_stepLand_first.get TIME_STATUS_BACK_PENDING), (SRC_OFFSET_D, if w_stepLand_first.get TIME_STATUS_SOURCE = 0 then w_stepLand_first.get SRC_OFFSET_D else usgn 32 (clampI (-2147483648) 2147483647 0)), (TIME_STATUS_HOLDOVER, if w_stepLand_first.get TIME_STATUS_SOURCE ≠ 0 ∧ (0 ≤ (w_stepLand_first.get HOLD_CFG_HOLD_SPEC : Int) ∧ -0 ≤ (w_stepLand_first.get HOLD_CFG_HOLD_SPEC : Int)) then 0 else w_stepLand_first.get TIME_STATUS_HOLDOVER), (TIME_ERR_EST, if w_stepLand_first.get TIME_STATUS_SOURCE = 0 ∨ (0 ≤ (w_stepLand_first.get HOLD_CFG_HOLD_SPEC : Int) ∧ -0 ≤ (w_stepLand_first.get HOLD_CFG_HOLD_SPEC : Int)) then w_stepLand_first.get TIME_ERR_EST else (match w_stepLand_first.time.hold with | some h => holdEst h (((w_stepLand_first.ply - h.ply : Nat) : Rat) / 100000) (w_stepLand_first.get HOLD_CFG_AGING) | none => w_stepLand_first.get TIME_ERR_EST)), (TIME_STATUS_VALID, 1)]) ∧ (w_stepLand_first.rst.held.contains .sys = false → w_stepLand_first.evr.queue.length + 2 ≤ 64 → (t.evr.queue.getLast?).map (fun (x : Rec) => (x.ev, x.payload)) = some (.stepLanded, leBytes 6 w_stepLand_first.time.sec ++ leBytes 4 w_stepLand_first.time.ns ++ leBytes 6 t.time.sec ++ leBytes 4 t.time.ns ++ leBytes 2 ((w_stepLand_first.get TIME_STATUS_TIME_GEN + 1) % 65536))))
    | _ => false) = true := by decide +kernel

def w_stepLand_dropped : State := { (at_ [(TIME_STATUS_TIME_GEN, 65535), (TIME_STATUS_SOURCE, 2), (DOM_ASYM_ASYM 0, 5)]) with time := { State.reset.time with sec := 100, fx := 5, step := some { auto := true, announced := true, sec := some 90 } } }

theorem test_stepLand_dropped : ((w_stepLand_dropped.stopSafe = true) ∧ (w_stepLand_dropped.time.step = some ({ auto := true, announced := true, sec := some 90 } : StepArm)) ∧ (w_stepLand_dropped.stepDue = true) ∧ (({ auto := true, announced := true, sec := some 90 } : StepArm).auto = true) ∧ (({ auto := true, announced := true, sec := some 90 } : StepArm).back = false) ∧ (({ auto := true, announced := true, sec := some 90 } : StepArm).first = false) ∧ (w_stepLand_dropped.srcD (w_stepLand_dropped.get TIME_STATUS_SOURCE) < 0)) ∧ (match exec (.stepLand) w_stepLand_dropped with
    | .next t => decide ((Reads t [(TIME_STATUS_STEP_ARMED, 0), (TIME_STATUS_STEP_ANNOUNCED, 0)]))
    | _ => false) = true := by decide +kernel

def w_timeGet : State := withSess (at_ [(TIME_STATUS_VALID, 1), (TIME_STATUS_SOURCE, 2)])

theorem test_timeGet : ((w_timeGet.stopSafe = true) ∧ (w_timeGet.accepts 0x0200 3 9 false = true)) ∧ (match exec (.timeGet 3 9) w_timeGet with
    | .next t => decide ((answers w_timeGet t [] 0x0200 3 9 Ecp.OK (crc32c []) w_timeGet.timeBytes = true))
    | _ => false) = true := by decide +kernel

theorem test_timeStep : ((wSess.stopSafe = true) ∧ (wSess.accepts 0x0201 3 9 false = true) ∧ (-(2 ^ 63) ≤ (-2 : Int)) ∧ ((-2 : Int) < 2 ^ 63) ∧ (-(2 ^ 31) ≤ (-5 : Int)) ∧ ((-5 : Int) < 2 ^ 31) ∧ (1 < 256) ∧ (bitOf 1 1 = true ∨ deltaOk (-2 : Int) (-5 : Int) = true) ∧ (wSess.stepDenied (if bitOf 1 1 then wSess.time.backD else (-2 : Int) * 1000000000 + (-5 : Int)) (bitOf 1 0) (bitOf 1 1) = false)) ∧ (match exec (.timeStep 3 9 ((leBytes 8 (usgn 64 (-2 : Int)) ++ leBytes 4 (usgn 32 (-5 : Int)) ++ [1, 0, 0, 0]))) wSess with
    | .next t => decide ((opens wSess t [] 0x0201 3 9 (crc32c (leBytes 8 (usgn 64 (-2 : Int)) ++ leBytes 4 (usgn 32 (-5 : Int)) ++ [1, 0, 0, 0])) (some (wSess.progressBytes 3 9)) = true) ∧ (Reads t [(TIME_STATUS_STEP_ARMED, 1)]) ∧ (t.time = { wSess.time with step := some { delta := (if bitOf 1 1 then wSess.time.backD else (-2 : Int) * 1000000000 + (-5 : Int)), auto := bitOf 1 1, back := bitOf 1 0 || bitOf 1 1, req := some (3, 9), first := !wSess.bit TIME_STATUS_VALID, sec := if wSess.bit TIME_STATUS_VALID then some wSess.secNow else none } }))
    | _ => false) = true := by decide +kernel

def w_timeStep_denied : State := { wSess with time := { State.reset.time with step := some {} } }

theorem test_timeStep_denied : ((w_timeStep_denied.stopSafe = true) ∧ (w_timeStep_denied.accepts 0x0201 3 9 false = true) ∧ (-(2 ^ 63) ≤ (-2 : Int)) ∧ ((-2 : Int) < 2 ^ 63) ∧ (-(2 ^ 31) ≤ (-5 : Int)) ∧ ((-5 : Int) < 2 ^ 31) ∧ (0 < 256) ∧ (bitOf 0 1 = true ∨ deltaOk (-2 : Int) (-5 : Int) = true) ∧ (w_timeStep_denied.stepDenied ((-2 : Int) * 1000000000 + (-5 : Int)) (bitOf 0 0) (bitOf 0 1) = true)) ∧ (match exec (.timeStep 3 9 ((leBytes 8 (usgn 64 (-2 : Int)) ++ leBytes 4 (usgn 32 (-5 : Int)) ++ [0, 0, 0, 0]))) w_timeStep_denied with
    | .next t => decide ((answers w_timeStep_denied t [] 0x0201 3 9 Ecp.DENIED (crc32c (leBytes 8 (usgn 64 (-2 : Int)) ++ leBytes 4 (usgn 32 (-5 : Int)) ++ [0, 0, 0, 0])) [] = true))
    | _ => false) = true := by decide +kernel

theorem test_timeStep_bad : ((wSess.stopSafe = true) ∧ (wSess.accepts 0x0201 3 9 false = true) ∧ (-(2 ^ 63) ≤ (-2 : Int)) ∧ ((-2 : Int) < 2 ^ 63) ∧ (-(2 ^ 31) ≤ 5) ∧ (5 < 2 ^ 31) ∧ (0 < 256) ∧ (bitOf 0 1 = false) ∧ (deltaOk (-2 : Int) 5 = false)) ∧ (match exec (.timeStep 3 9 ((leBytes 8 (usgn 64 (-2 : Int)) ++ leBytes 4 (usgn 32 5) ++ [0, 0, 0, 0]))) wSess with
    | .next t => decide ((answers wSess t [] 0x0201 3 9 Ecp.BAD_PARAM (crc32c (leBytes 8 (usgn 64 (-2 : Int)) ++ leBytes 4 (usgn 32 5) ++ [0, 0, 0, 0])) [] = true))
    | _ => false) = true := by decide +kernel

theorem test_ptpSet : ((wSess.stopSafe = true) ∧ (wSess.accepts 0x0202 3 9 false = true) ∧ (([3, 1, 0, 0, 0, 0, 0, 0, 0, 0, 255, 2, 1, 3, 100, 0] : List Nat).length = 16) ∧ (wSess.ptpOk ([3, 1, 0, 0, 0, 0, 0, 0, 0, 0, 255, 2, 1, 3, 100, 0] : List Nat) = true)) ∧ (match exec (.ptpSet 3 9 ([3, 1, 0, 0, 0, 0, 0, 0, 0, 0, 255, 2, 1, 3, 100, 0] : List Nat)) wSess with
    | .next t => decide ((answers wSess t [] 0x0202 3 9 Ecp.OK (crc32c ([3, 1, 0, 0, 0, 0, 0, 0, 0, 0, 255, 2, 1, 3, 100, 0] : List Nat)) ([3, 1, 0, 0, 0, 0, 0, 0, 0, 0, 255, 2, 1, 3, 100, 0] : List Nat) = true) ∧ (t.time = { wSess.time with ptpNext := some ([3, 1, 0, 0, 0, 0, 0, 0, 0, 0, 255, 2, 1, 3, 100, 0] : List Nat) }))
    | _ => false) = true := by decide +kernel

theorem test_ptpSet_bad : ((wSess.stopSafe = true) ∧ (wSess.accepts 0x0202 3 9 false = true) ∧ (([3, 1, 0, 0, 0, 0, 0, 0, 0, 0, 255, 1, 1, 3, 100, 0] : List Nat).length = 16) ∧ (wSess.ptpOk ([3, 1, 0, 0, 0, 0, 0, 0, 0, 0, 255, 1, 1, 3, 100, 0] : List Nat) = false)) ∧ (match exec (.ptpSet 3 9 ([3, 1, 0, 0, 0, 0, 0, 0, 0, 0, 255, 1, 1, 3, 100, 0] : List Nat)) wSess with
    | .next t => decide ((answers wSess t [] 0x0202 3 9 Ecp.BAD_PARAM (crc32c ([3, 1, 0, 0, 0, 0, 0, 0, 0, 0, 255, 1, 1, 3, 100, 0] : List Nat)) [] = true))
    | _ => false) = true := by decide +kernel

def w_ppsOutEdge : State := at_ [(PPS_CFG_EN 1, 1), (PPS_CFG_WIDTH_US 1, 700000)]

theorem test_ppsOutEdge : ((w_ppsOutEdge.stopSafe = true) ∧ (1 < 2) ∧ (w_ppsOutEdge.bit (PPS_CFG_EN 1) = true) ∧ (w_ppsOutEdge.stepPlyNow = false) ∧ (w_ppsOutEdge.get (PPS_CFG_MODE 1) = 0 ∨ w_ppsOutEdge.strobesOn = true) ∧ ((w_ppsOutEdge.multipleHere (w_ppsOutEdge.ppsPeriod 1) (w_ppsOutEdge.getS (PPS_OFS_OFS 1))).isSome = true)) ∧ (match exec (.ppsOutEdge 1) w_ppsOutEdge with
    | .next t => decide ((t.out = w_ppsOutEdge.out ++ [Output.pps 1 (min (w_ppsOutEdge.get (PPS_CFG_WIDTH_US 1)) (w_ppsOutEdge.ppsPeriod 1 / 2000))]))
    | _ => false) = true := by decide +kernel

def w_ppsInEdge : State := { wReset with time := { State.reset.time with sec := 99, fx := 999999999 * 2 ^ 29 } }

theorem test_ppsInEdge : ((w_ppsInEdge.stopSafe = true) ∧ ((TimeState.move { State.reset.time with sec := 99, fx := 999999999 * 2 ^ 29 } 7 : TimeState) = w_ppsInEdge.time.move 7) ∧ (100000000006 = (((TimeState.move { State.reset.time with sec := 99, fx := 999999999 * 2 ^ 29 } 7 : TimeState).sec * 1000000000 + (TimeState.move { State.reset.time with sec := 99, fx := 999999999 * 2 ^ 29 } 7 : TimeState).ns : Nat) : Int)) ∧ ((-6 : Int) = ppsSec 100000000006 * 1000000000 - 100000000006)) ∧ (match exec (.ppsInEdge 7) w_ppsInEdge with
    | .next t => decide ((Reads t [(PPSIN_SEC_SEC, (TimeState.move { State.reset.time with sec := 99, fx := 999999999 * 2 ^ 29 } 7 : TimeState).sec % 2 ^ 32), (PPSIN_NS_NS, (TimeState.move { State.reset.time with sec := 99, fx := 999999999 * 2 ^ 29 } 7 : TimeState).ns), (PPSIN_NS_NEW, 1), (PPSIN_OFFSET_OFFSET, usgn 32 (-6 : Int))]))
    | _ => false) = true := by decide +kernel

theorem test_ethFrameReceive : ((wNet.stopSafe = true) ∧ (wNet.ethUp 1 = true) ∧ ((wNet.time.move 56 : TimeState) = wNet.time.move ((200 : Int) - (if wNet.bit (ETH_TS_CTRL_CORR_EN 1) then ((ethCorr (wNet.get (ETH_CFG_SPEED 1))).2 : Int) else 0)))) ∧ (match exec (.ethFrameReceive 1 200 ([1, 2] : List Nat)) wNet with
    | .next t => decide ((t.out = wNet.out ++ [Output.ethRx 1 (wNet.time.move 56 : TimeState).sec (wNet.time.move 56 : TimeState).ns ((wNet.time.move 56 : TimeState).fx % 2 ^ 29 / 2 ^ 13) (wNet.get TIME_STATUS_TIME_GEN) ([1, 2] : List Nat)]))
    | _ => false) = true := by decide +kernel

theorem test_ethFrameTransmit : ((wNet.stopSafe = true) ∧ (wNet.ethUp 1 = true) ∧ ((wNet.time.move 296 : TimeState) = wNet.time.move ((200 : Int) + (if wNet.bit (ETH_TS_CTRL_CORR_EN 1) then ((ethCorr (wNet.get (ETH_CFG_SPEED 1))).1 : Int) else 0))) ∧ (wNet.ptpEgress 1 (wNet.time.move 296 : TimeState) (none : Option (Nat × Nat × Nat)) ([1, 2] : List Nat) = some ([1, 2] : List Nat))) ∧ (match exec (.ethFrameTransmit 1 200 none (none : Option (Nat × Nat × Nat)) ([1, 2] : List Nat)) wNet with
    | .next t => decide ((t.out = wNet.out ++ [Output.ethTx 1 ([1, 2] : List Nat)]))
    | _ => false) = true := by decide +kernel

theorem test_ethFrameTransmit_stamp : ((wNet.stopSafe = true) ∧ (wNet.ethUp 1 = true) ∧ ((wNet.time.move 296 : TimeState) = wNet.time.move ((200 : Int) + (if wNet.bit (ETH_TS_CTRL_CORR_EN 1) then ((ethCorr (wNet.get (ETH_CFG_SPEED 1))).1 : Int) else 0))) ∧ (wNet.ptpEgress 1 (wNet.time.move 296 : TimeState) (none : Option (Nat × Nat × Nat)) ([1, 2] : List Nat) = some ([1, 2] : List Nat)) ∧ (wNet.txtsCount 1 < 16)) ∧ (match exec (.ethFrameTransmit 1 200 (some 65537) (none : Option (Nat × Nat × Nat)) ([1, 2] : List Nat)) wNet with
    | .next t => decide ((t.out = wNet.out ++ [Output.ethTx 1 ([1, 2] : List Nat)]) ∧ (t.eth = { wNet.eth with txts := wNet.eth.txts ++ [(⟨1, 65537 % 65536, (wNet.time.move 296 : TimeState).sec, (wNet.time.move 296 : TimeState).ns, (wNet.time.move 296 : TimeState).fx % 2 ^ 29 / 2 ^ 13, wNet.get TIME_STATUS_TIME_GEN⟩ : TxTs)] }) ∧ (Reads t [(ETH_TXTS_STATUS_COUNT 1, wNet.txtsCount 1 + 1)]))
    | _ => false) = true := by decide +kernel

def w_ethFrameTransmit_full : State := { wNet with eth := { txts := List.replicate 16 ⟨1, 0, 0, 0, 0, 0⟩ } }

theorem test_ethFrameTransmit_full : ((w_ethFrameTransmit_full.stopSafe = true) ∧ (w_ethFrameTransmit_full.ethUp 1 = true) ∧ ((wNet.time.move 296 : TimeState) = w_ethFrameTransmit_full.time.move ((200 : Int) + (if w_ethFrameTransmit_full.bit (ETH_TS_CTRL_CORR_EN 1) then ((ethCorr (w_ethFrameTransmit_full.get (ETH_CFG_SPEED 1))).1 : Int) else 0))) ∧ (w_ethFrameTransmit_full.ptpEgress 1 (wNet.time.move 296 : TimeState) (none : Option (Nat × Nat × Nat)) ([1, 2] : List Nat) = some ([1, 2] : List Nat)) ∧ (16 ≤ w_ethFrameTransmit_full.txtsCount 1)) ∧ (match exec (.ethFrameTransmit 1 200 (some 65537) (none : Option (Nat × Nat × Nat)) ([1, 2] : List Nat)) w_ethFrameTransmit_full with
    | .next t => decide ((t.out = w_ethFrameTransmit_full.out ++ [Output.ethTx 1 ([1, 2] : List Nat)]) ∧ (Reads t [(ETH_TXTS_STATUS_OVF 1, 1), (ETH_TXTS_STATUS_OVF_CNT 1, w_ethFrameTransmit_full.adv (ETH_TXTS_STATUS_OVF_CNT 1))]))
    | _ => false) = true := by decide +kernel

def w_ethFrameTransmit_oneStep : State := { wNet with time := { State.reset.time with ptp := [0, 0, 128, 128, 0, 2, 0] } }

theorem test_ethFrameTransmit_oneStep : ((w_ethFrameTransmit_oneStep.stopSafe = true) ∧ (w_ethFrameTransmit_oneStep.ethUp 1 = true) ∧ ((TimeState.move { State.reset.time with ptp := [0, 0, 128, 128, 0, 2, 0] } 296 : TimeState) = w_ethFrameTransmit_oneStep.time.move ((200 : Int) + (if w_ethFrameTransmit_oneStep.bit (ETH_TS_CTRL_CORR_EN 1) then ((ethCorr (w_ethFrameTransmit_oneStep.get (ETH_CFG_SPEED 1))).1 : Int) else 0))) ∧ (w_ethFrameTransmit_oneStep.ptpAt (List.replicate 12 0 ++ [0x88, 0xF7] ++ [0] ++ List.replicate 50 0 : List Nat) = some 14) ∧ ((List.replicate 12 0 ++ [0x88, 0xF7] ++ [0] ++ List.replicate 50 0 : List Nat).getD 14 0 % 16 = 0) ∧ (bitOf (leAt w_ethFrameTransmit_oneStep.time.ptp 5 1) 1 = true) ∧ (w_ethFrameTransmit_oneStep.time.passive.contains 1 = false) ∧ (14 = 14)) ∧ (match exec (.ethFrameTransmit 1 200 none (none : Option (Nat × Nat × Nat)) (List.replicate 12 0 ++ [0x88, 0xF7] ++ [0] ++ List.replicate 50 0 : List Nat)) w_ethFrameTransmit_oneStep with
    | .next t => decide ((t.out = w_ethFrameTransmit_oneStep.out ++ [Output.ethTx 1 (patch (List.replicate 12 0 ++ [0x88, 0xF7] ++ [0] ++ List.replicate 50 0 : List Nat) (14 + 34) (beBytes 6 (TimeState.move { State.reset.time with ptp := [0, 0, 128, 128, 0, 2, 0] } 296 : TimeState).sec ++ beBytes 4 (TimeState.move { State.reset.time with ptp := [0, 0, 128, 128, 0, 2, 0] } 296 : TimeState).ns))]))
    | _ => false) = true := by decide +kernel

def w_ethFrameTransmit_passive : State := { wNet with time := { State.reset.time with ptp := [2, 0, 128, 128, 0, 2, 0], passive := [1] } }

theorem test_ethFrameTransmit_passive : ((w_ethFrameTransmit_passive.stopSafe = true) ∧ (w_ethFrameTransmit_passive.ptpAt (List.replicate 12 0 ++ [0x88, 0xF7] ++ [0] ++ List.replicate 50 0 : List Nat) = some 14) ∧ ((List.replicate 12 0 ++ [0x88, 0xF7] ++ [0] ++ List.replicate 50 0 : List Nat).getD 14 0 % 16 = 0 ∨ (List.replicate 12 0 ++ [0x88, 0xF7] ++ [0] ++ List.replicate 50 0 : List Nat).getD 14 0 % 16 = 8 ∨ (List.replicate 12 0 ++ [0x88, 0xF7] ++ [0] ++ List.replicate 50 0 : List Nat).getD 14 0 % 16 = 11) ∧ (bitOf (leAt w_ethFrameTransmit_passive.time.ptp 0 1) 1 = true) ∧ ((List.replicate 12 0 ++ [0x88, 0xF7] ++ [0] ++ List.replicate 50 0 : List Nat).getD (14 + 4) 0 = leAt w_ethFrameTransmit_passive.time.ptp 1 1) ∧ (w_ethFrameTransmit_passive.time.passive.contains 1 = true)) ∧ (match exec (.ethFrameTransmit 1 200 (none : Option Nat) (none : Option (Nat × Nat × Nat)) (List.replicate 12 0 ++ [0x88, 0xF7] ++ [0] ++ List.replicate 50 0 : List Nat)) w_ethFrameTransmit_passive with
    | .next t => decide ((t.out = w_ethFrameTransmit_passive.out))
    | _ => false) = true := by decide +kernel

def w_txtsRead : State := { wNet with eth := { txts := [⟨0, 1, 2, 3, 4, 5⟩, ⟨1, 77, 2 ^ 32 + 9, 3, 4, 5⟩, ⟨1, 8, 0, 0, 0, 0⟩] } }

theorem test_txtsRead : ((w_txtsRead.stopSafe = true) ∧ (1 < 6) ∧ (MayRead w_txtsRead 0x10 (0x40610410 + 0x1000 * 1)) ∧ (w_txtsRead.eth.txts.find? (fun (x : TxTs) => x.port == 1) = some (⟨1, 77, 2 ^ 32 + 9, 3, 4, 5⟩ : TxTs))) ∧ (match exec (.txtsRead 0x10 1) w_txtsRead with
    | .next t => decide ((t.eth = { w_txtsRead.eth with txts := w_txtsRead.eth.txts.erase (⟨1, 77, 2 ^ 32 + 9, 3, 4, 5⟩ : TxTs) }) ∧ (Reads t [(ETH_TXTS_W0_ID 1, (⟨1, 77, 2 ^ 32 + 9, 3, 4, 5⟩ : TxTs).id % 65536), (ETH_TXTS_W0_SEC_HI 1, (⟨1, 77, 2 ^ 32 + 9, 3, 4, 5⟩ : TxTs).sec / 2 ^ 32 % 65536), (ETH_TXTS_W1_SEC_LO 1, (⟨1, 77, 2 ^ 32 + 9, 3, 4, 5⟩ : TxTs).sec % 2 ^ 32), (ETH_TXTS_W2_NS 1, (⟨1, 77, 2 ^ 32 + 9, 3, 4, 5⟩ : TxTs).ns % 2 ^ 30), (ETH_TXTS_W3_TIME_GEN 1, (⟨1, 77, 2 ^ 32 + 9, 3, 4, 5⟩ : TxTs).gen % 65536), (ETH_TXTS_W3_FRAC 1, (⟨1, 77, 2 ^ 32 + 9, 3, 4, 5⟩ : TxTs).frac % 65536), (ETH_TXTS_STATUS_COUNT 1, t.txtsCount 1 % 32)]))
    | _ => false) = true := by decide +kernel

theorem test_txtsRead_empty : ((wNet.stopSafe = true) ∧ (1 < 6) ∧ (MayRead wNet 0x10 (0x40610410 + 0x1000 * 1)) ∧ (wNet.eth.txts.find? (fun (x : TxTs) => x.port == 1) = none)) ∧ (match exec (.txtsRead 0x10 1) wNet with
    | .next t => decide ((Reads t [(ETH_TXTS_W0_ID 1, 0), (ETH_TXTS_W0_SEC_HI 1, 0), (ETH_TXTS_W1_SEC_LO 1, 0), (ETH_TXTS_W2_NS 1, 0), (ETH_TXTS_W3_TIME_GEN 1, 0), (ETH_TXTS_W3_FRAC 1, 0)]))
    | _ => false) = true := by decide +kernel

def w_applyRef : State := at_ [(FIX_REF_CTRL_REFUSED, 1)]

theorem test_applyRef : ((w_applyRef.stopSafe = true) ∧ (MayWrite w_applyRef 0x10 0x40200050) ∧ (bitOf 0xA0000007 31 = true)) ∧ (match exec (.applyRef 0x10 0xA0000007) w_applyRef with
    | .next t => decide ((Reads t [(FIX_REF_CTRL_BASE_ANT, bits 0xA0000007 3 0), (FIX_REF_CTRL_PENDING, if bitOf 0xA0000007 31 = true ∨ (bitOf 0xA0000007 30 = true ∧ w_applyRef.pchRunning = false) then 1 else w_applyRef.get FIX_REF_CTRL_PENDING), (FIX_REF_CTRL_REFUSED, if bitOf 0xA0000007 30 = true ∧ w_applyRef.pchRunning = true then 1 else if bitOf 0xA0000007 29 = true then 0 else w_applyRef.get FIX_REF_CTRL_REFUSED)]) ∧ (t.fix = { w_applyRef.fix with refAt := if bitOf 0xA0000007 31 = true then some w_applyRef.ply else w_applyRef.fix.refAt, orgAt := if bitOf 0xA0000007 30 = true ∧ w_applyRef.pchRunning = false then some w_applyRef.ply else w_applyRef.fix.orgAt }))
    | _ => false) = true := by decide +kernel

theorem test_applyOrg : ((wReset.stopSafe = true) ∧ (MayWrite wReset 0x10 0x40200050) ∧ (bitOf 0x40000003 30 = true)) ∧ (match exec (.applyOrg 0x10 0x40000003) wReset with
    | .next t => decide ((Reads t [(FIX_REF_CTRL_BASE_ANT, bits 0x40000003 3 0), (FIX_REF_CTRL_PENDING, if bitOf 0x40000003 31 = true ∨ (bitOf 0x40000003 30 = true ∧ wReset.pchRunning = false) then 1 else wReset.get FIX_REF_CTRL_PENDING), (FIX_REF_CTRL_REFUSED, if bitOf 0x40000003 30 = true ∧ wReset.pchRunning = true then 1 else if bitOf 0x40000003 29 = true then 0 else wReset.get FIX_REF_CTRL_REFUSED)]) ∧ (t.fix = { wReset.fix with refAt := if bitOf 0x40000003 31 = true then some wReset.ply else wReset.fix.refAt, orgAt := if bitOf 0x40000003 30 = true ∧ wReset.pchRunning = false then some wReset.ply else wReset.fix.orgAt }))
    | _ => false) = true := by decide +kernel

def w_applyOrg_refused : State := at_ [(PCH_W5_STATE 192, 2)]

theorem test_applyOrg_refused : ((w_applyOrg_refused.stopSafe = true) ∧ (MayWrite w_applyOrg_refused 0x10 0x40200050) ∧ (bitOf 0x40000003 30 = true) ∧ (w_applyOrg_refused.pchRunning = true)) ∧ (match exec (.applyOrg 0x10 0x40000003) w_applyOrg_refused with
    | .next t => decide ((Reads t [(FIX_REF_CTRL_REFUSED, 1)]) ∧ (t.fix.orgAt = w_applyOrg_refused.fix.orgAt))
    | _ => false) = true := by decide +kernel

def w_fixSolveStart : State := { (at_ []) with boot := { loaded := [6] }, fix := { State.reset.fix with smp := [(FIX_CTRL_EN.key, 1)], base := some { week := 2200, ms := 400 }, queue := [⟨5, 10, 0, ⟨true, false, 2200, 400, 0, 0, []⟩⟩, ⟨4, 9, 0, ⟨true, false, 2200, 400, 0, 0, []⟩⟩] } }

theorem test_fixSolveStart : ((w_fixSolveStart.stopSafe = true) ∧ (w_fixSolveStart.fix.cur = none) ∧ (w_fixSolveStart.jobFirst w_fixSolveStart.fix.queue = some (⟨4, 9, 0, ⟨true, false, 2200, 400, 0, 0, []⟩⟩ : CorJob)) ∧ (w_fixSolveStart.fix.base = some ({ week := 2200, ms := 400 } : ObsRec)) ∧ (w_fixSolveStart.boot.loaded.contains 6 = true) ∧ (w_fixSolveStart.fixGet FIX_CTRL_EN ≠ 0) ∧ (({ week := 2200, ms := 400 } : ObsRec).week = (⟨4, 9, 0, ⟨true, false, 2200, 400, 0, 0, []⟩⟩ : CorJob).cor.week) ∧ (({ week := 2200, ms := 400 } : ObsRec).ms = (⟨4, 9, 0, ⟨true, false, 2200, 400, 0, 0, []⟩⟩ : CorJob).cor.ms)) ∧ (match exec (.fixSolveStart) w_fixSolveStart with
    | .next t => decide ((t.fix = { w_fixSolveStart.fix with cur := some (⟨4, 9, 0, ⟨true, false, 2200, 400, 0, 0, []⟩⟩ : CorJob), queue := w_fixSolveStart.fix.queue.erase (⟨4, 9, 0, ⟨true, false, 2200, 400, 0, 0, []⟩⟩ : CorJob) }))
    | _ => false) = true := by decide +kernel

theorem test_fixSolveStart_waits : ((wReset.stopSafe = true) ∧ (wReset.fix.cur.isSome = true ∨ wReset.jobFirst wReset.fix.queue = none ∨ wReset.fix.base = none ∨ wReset.boot.loaded.contains 6 = false ∨ wReset.fixGet FIX_CTRL_EN = 0)) ∧ (match exec (.fixSolveStart) wReset with
    | .next t => decide ((t.fix = wReset.fix))
    | _ => false) = true := by decide +kernel

def w_fixSolveComplete : State := { (at_ []) with ply := 10, fix := { State.reset.fix with cur := some ⟨5, 10, 0, ⟨true, false, 2200, 400, 0, 0, []⟩⟩, base := some { week := 2200, ms := 400 } } }

theorem test_fixSolveComplete : ((w_fixSolveComplete.stopSafe = true) ∧ (w_fixSolveComplete.fix.cur = some (⟨5, 10, 0, ⟨true, false, 2200, 400, 0, 0, []⟩⟩ : CorJob)) ∧ (w_fixSolveComplete.fix.base = some ({ week := 2200, ms := 400 } : ObsRec)) ∧ (2501 = w_fixSolveComplete.jobUs (⟨5, 10, 0, ⟨true, false, 2200, 400, 0, 0, []⟩⟩ : CorJob) 2501000) ∧ (((State.bump { (at_ []) with ply := 10, fix := { State.reset.fix with base := some { week := 2200, ms := 400 } } } FIX_OVL_LATE) : State) = (if 2500 < 2501 then State.bump { w_fixSolveComplete with fix := { w_fixSolveComplete.fix with cur := none } } FIX_OVL_LATE else { w_fixSolveComplete with fix := { w_fixSolveComplete.fix with cur := none } })) ∧ (((State.bump { (at_ []) with ply := 10, fix := { State.reset.fix with base := some { week := 2200, ms := 400 } } } FIX_OVL_LATE) : State).solve (⟨5, 10, 0, ⟨true, false, 2200, 400, 0, 0, []⟩⟩ : CorJob).addr (⟨5, 10, 0, ⟨true, false, 2200, 400, 0, 0, []⟩⟩ : CorJob).cor ({ week := 2200, ms := 400 } : ObsRec) = none) ∧ ((State.idleRec (State.bump { (at_ []) with ply := 10, fix := { State.reset.fix with base := some { week := 2200, ms := 400 } } } FIX_OVL_LATE) 5 2200 400 0 2501 false : SolRec) = ((State.bump { (at_ []) with ply := 10, fix := { State.reset.fix with base := some { week := 2200, ms := 400 } } } FIX_OVL_LATE) : State).idleRec (⟨5, 10, 0, ⟨true, false, 2200, 400, 0, 0, []⟩⟩ : CorJob).addr (⟨5, 10, 0, ⟨true, false, 2200, 400, 0, 0, []⟩⟩ : CorJob).cor.week (⟨5, 10, 0, ⟨true, false, 2200, 400, 0, 0, []⟩⟩ : CorJob).cor.ms 0 2501 (⟨5, 10, 0, ⟨true, false, 2200, 400, 0, 0, []⟩⟩ : CorJob).cor.antFault) ∧ (w_fixSolveComplete.pchState (⟨5, 10, 0, ⟨true, false, 2200, 400, 0, 0, []⟩⟩ : CorJob).addr = 0 ∨ isAddr (⟨5, 10, 0, ⟨true, false, 2200, 400, 0, 0, []⟩⟩ : CorJob).addr = false)) ∧ (match exec (.fixSolveComplete 2501000) w_fixSolveComplete with
    | .next t => decide ((t.fix = { w_fixSolveComplete.fix with cur := none, recs := recsAfter w_fixSolveComplete.fix.recs [(State.idleRec (State.bump { (at_ []) with ply := 10, fix := { State.reset.fix with base := some { week := 2200, ms := 400 } } } FIX_OVL_LATE) 5 2200 400 0 2501 false : SolRec)], done := w_fixSolveComplete.fix.done ++ [(State.idleRec (State.bump { (at_ []) with ply := 10, fix := { State.reset.fix with base := some { week := 2200, ms := 400 } } } FIX_OVL_LATE) 5 2200 400 0 2501 false : SolRec).shown] }) ∧ (Reads t [(FIX_OVL_LATE, if 2500 < 2501 then w_fixSolveComplete.adv FIX_OVL_LATE else w_fixSolveComplete.get FIX_OVL_LATE), (FIX_MEMBER_STATUS (⟨5, 10, 0, ⟨true, false, 2200, 400, 0, 0, []⟩⟩ : CorJob).addr, (State.idleRec (State.bump { (at_ []) with ply := 10, fix := { State.reset.fix with base := some { week := 2200, ms := 400 } } } FIX_OVL_LATE) 5 2200 400 0 2501 false : SolRec).status % 8), (FIX_MEMBER_HELD (⟨5, 10, 0, ⟨true, false, 2200, 400, 0, 0, []⟩⟩ : CorJob).addr, bits (State.idleRec (State.bump { (at_ []) with ply := 10, fix := { State.reset.fix with base := some { week := 2200, ms := 400 } } } FIX_OVL_LATE) 5 2200 400 0 2501 false : SolRec).flags 6 6), (FIX_MEMBER_NFIX (⟨5, 10, 0, ⟨true, false, 2200, 400, 0, 0, []⟩⟩ : CorJob).addr, (State.idleRec (State.bump { (at_ []) with ply := 10, fix := { State.reset.fix with base := some { week := 2200, ms := 400 } } } FIX_OVL_LATE) 5 2200 400 0 2501 false : SolRec).nfix % 256), (FIX_LOAD_PEAK_US, max (w_fixSolveComplete.get FIX_LOAD_PEAK_US) (State.idleRec (State.bump { (at_ []) with ply := 10, fix := { State.reset.fix with base := some { week := 2200, ms := 400 } } } FIX_OVL_LATE) 5 2200 400 0 2501 false : SolRec).solveUs % 65536)]))
    | _ => false) = true := by decide +kernel

def w_fixSolveComplete_running : State := { (at_ [(PCH_W5_STATE 5, 2)]) with ply := 10, fix := { State.reset.fix with cur := some ⟨5, 10, 0, ⟨true, false, 2200, 400, 0, 0, []⟩⟩, base := some { week := 2200, ms := 400 } } }

theorem test_fixSolveComplete_running : ((w_fixSolveComplete_running.stopSafe = true) ∧ (w_fixSolveComplete_running.fix.cur = some (⟨5, 10, 0, ⟨true, false, 2200, 400, 0, 0, []⟩⟩ : CorJob)) ∧ (w_fixSolveComplete_running.fix.base = some ({ week := 2200, ms := 400 } : ObsRec)) ∧ (2501 = w_fixSolveComplete_running.jobUs (⟨5, 10, 0, ⟨true, false, 2200, 400, 0, 0, []⟩⟩ : CorJob) 2501000) ∧ (((State.bump { (at_ [(PCH_W5_STATE 5, 2)]) with ply := 10, fix := { State.reset.fix with base := some { week := 2200, ms := 400 } } } FIX_OVL_LATE) : State) = (if 2500 < 2501 then State.bump { w_fixSolveComplete_running with fix := { w_fixSolveComplete_running.fix with cur := none } } FIX_OVL_LATE else { w_fixSolveComplete_running with fix := { w_fixSolveComplete_running.fix with cur := none } })) ∧ (((State.bump { (at_ [(PCH_W5_STATE 5, 2)]) with ply := 10, fix := { State.reset.fix with base := some { week := 2200, ms := 400 } } } FIX_OVL_LATE) : State).solve (⟨5, 10, 0, ⟨true, false, 2200, 400, 0, 0, []⟩⟩ : CorJob).addr (⟨5, 10, 0, ⟨true, false, 2200, 400, 0, 0, []⟩⟩ : CorJob).cor ({ week := 2200, ms := 400 } : ObsRec) = none) ∧ ((State.idleRec (State.bump { (at_ [(PCH_W5_STATE 5, 2)]) with ply := 10, fix := { State.reset.fix with base := some { week := 2200, ms := 400 } } } FIX_OVL_LATE) 5 2200 400 0 2501 false : SolRec) = ((State.bump { (at_ [(PCH_W5_STATE 5, 2)]) with ply := 10, fix := { State.reset.fix with base := some { week := 2200, ms := 400 } } } FIX_OVL_LATE) : State).idleRec (⟨5, 10, 0, ⟨true, false, 2200, 400, 0, 0, []⟩⟩ : CorJob).addr (⟨5, 10, 0, ⟨true, false, 2200, 400, 0, 0, []⟩⟩ : CorJob).cor.week (⟨5, 10, 0, ⟨true, false, 2200, 400, 0, 0, []⟩⟩ : CorJob).cor.ms 0 2501 (⟨5, 10, 0, ⟨true, false, 2200, 400, 0, 0, []⟩⟩ : CorJob).cor.antFault)) ∧ (match exec (.fixSolveComplete 2501000) w_fixSolveComplete_running with
    | .next t => decide ((t = ((State.bump { (at_ [(PCH_W5_STATE 5, 2)]) with ply := 10, fix := { State.reset.fix with base := some { week := 2200, ms := 400 } } } FIX_OVL_LATE) : State).recorded [(State.idleRec (State.bump { (at_ [(PCH_W5_STATE 5, 2)]) with ply := 10, fix := { State.reset.fix with base := some { week := 2200, ms := 400 } } } FIX_OVL_LATE) 5 2200 400 0 2501 false : SolRec)]))
    | _ => false) = true := by decide +kernel

theorem test_fixSolveComplete_idle : ((wReset.stopSafe = true) ∧ (wReset.fix.cur = none ∨ wReset.fix.base = none)) ∧ (match exec (.fixSolveComplete 7) wReset with
    | .next t => decide ((t.fix = wReset.fix))
    | _ => false) = true := by decide +kernel

def w_baseMissingDecision : State := { (at_ []) with ply := 1000, time := { State.reset.time with grid := true, k := 100, gridNs := 10000000000, sec := 315964829, fx := 9995000 * 2 ^ 29 }, fix := { State.reset.fix with queue := [⟨5, 990, 0, ⟨true, false, 0, 10000, 0, 0, []⟩⟩, ⟨5, 10, 0, ⟨true, false, 2200, 400, 0, 0, []⟩⟩] } }

theorem test_baseMissingDecision : ((w_baseMissingDecision.stopSafe = true) ∧ (((0, 10000) : Nat × Nat) = w_baseMissingDecision.startOf w_baseMissingDecision.time.k) ∧ (w_baseMissingDecision.instantNow 10000000 = true) ∧ (((0, 10000) : Nat × Nat).2 % w_baseMissingDecision.epochMs = 0) ∧ (w_baseMissingDecision.fix.base.all (fun r => !(r.week == ((0, 10000) : Nat × Nat).1 && r.ms == ((0, 10000) : Nat × Nat).2)) = true) ∧ (w_baseMissingDecision.fix.missing ≠ some ((0, 10000) : Nat × Nat)) ∧ (([State.idleRec { (at_ []) with ply := 1000, time := { State.reset.time with grid := true, k := 100, gridNs := 10000000000, sec := 315964829, fx := 9995000 * 2 ^ 29 }, fix := { State.reset.fix with queue := [] } } 5 0 10000 16 110 false] : List SolRec) = (w_baseMissingDecision.fix.queue.filter (fun j => (j.cor.week == ((0, 10000) : Nat × Nat).1 && j.cor.ms == ((0, 10000) : Nat × Nat).2))).map (fun j => w_baseMissingDecision.idleRec j.addr ((0, 10000) : Nat × Nat).1 ((0, 10000) : Nat × Nat).2 16 (w_baseMissingDecision.jobUs j 10000) j.cor.antFault)) ∧ (w_baseMissingDecision.quietFor ([State.idleRec { (at_ []) with ply := 1000, time := { State.reset.time with grid := true, k := 100, gridNs := 10000000000, sec := 315964829, fx := 9995000 * 2 ^ 29 }, fix := { State.reset.fix with queue := [] } } 5 0 10000 16 110 false] : List SolRec) = true)) ∧ (match exec (.baseMissingDecision) w_baseMissingDecision with
    | .next t => decide ((t.fix = { w_baseMissingDecision.fix with missing := some ((0, 10000) : Nat × Nat), queue := w_baseMissingDecision.fix.queue.filter (fun j => !(j.cor.week == ((0, 10000) : Nat × Nat).1 && j.cor.ms == ((0, 10000) : Nat × Nat).2)), recs := recsAfter w_baseMissingDecision.fix.recs ([State.idleRec { (at_ []) with ply := 1000, time := { State.reset.time with grid := true, k := 100, gridNs := 10000000000, sec := 315964829, fx := 9995000 * 2 ^ 29 }, fix := { State.reset.fix with queue := [] } } 5 0 10000 16 110 false] : List SolRec), done := w_baseMissingDecision.fix.done ++ ([State.idleRec { (at_ []) with ply := 1000, time := { State.reset.time with grid := true, k := 100, gridNs := 10000000000, sec := 315964829, fx := 9995000 * 2 ^ 29 }, fix := { State.reset.fix with queue := [] } } 5 0 10000 16 110 false] : List SolRec).map SolRec.shown }) ∧ (Reads t [(FIX_CNT3_BASE_MISSING, w_baseMissingDecision.adv FIX_CNT3_BASE_MISSING)]) ∧ (([State.idleRec { (at_ []) with ply := 1000, time := { State.reset.time with grid := true, k := 100, gridNs := 10000000000, sec := 315964829, fx := 9995000 * 2 ^ 29 }, fix := { State.reset.fix with queue := [] } } 5 0 10000 16 110 false] : List SolRec).all (fun x => (([State.idleRec { (at_ []) with ply := 1000, time := { State.reset.time with grid := true, k := 100, gridNs := 10000000000, sec := 315964829, fx := 9995000 * 2 ^ 29 }, fix := { State.reset.fix with queue := [] } } 5 0 10000 16 110 false] : List SolRec).filter (fun y => y.addr == x.addr)).length != 1 || (t.get (FIX_MEMBER_STATUS x.addr) == x.status % 8 && t.get (FIX_MEMBER_NFIX x.addr) == 0)) = true))
    | _ => false) = true := by decide +kernel

def w_baseMissingDecision_running : State := { (at_ [(PCH_W5_STATE 5, 2)]) with ply := 1000, time := { State.reset.time with grid := true, k := 100, gridNs := 10000000000, sec := 315964829, fx := 9995000 * 2 ^ 29 }, fix := { State.reset.fix with queue := [⟨5, 990, 0, ⟨true, false, 0, 10000, 0, 0, []⟩⟩, ⟨5, 10, 0, ⟨true, false, 2200, 400, 0, 0, []⟩⟩] } }

theorem test_baseMissingDecision_running : ((w_baseMissingDecision_running.stopSafe = true) ∧ (((0, 10000) : Nat × Nat) = w_baseMissingDecision_running.startOf w_baseMissingDecision_running.time.k) ∧ (w_baseMissingDecision_running.instantNow 10000000 = true) ∧ (((0, 10000) : Nat × Nat).2 % w_baseMissingDecision_running.epochMs = 0) ∧ (w_baseMissingDecision_running.fix.base.all (fun r => !(r.week == ((0, 10000) : Nat × Nat).1 && r.ms == ((0, 10000) : Nat × Nat).2)) = true) ∧ (w_baseMissingDecision_running.fix.missing ≠ some ((0, 10000) : Nat × Nat)) ∧ (([State.idleRec { (at_ []) with ply := 1000, time := { State.reset.time with grid := true, k := 100, gridNs := 10000000000, sec := 315964829, fx := 9995000 * 2 ^ 29 }, fix := { State.reset.fix with queue := [] } } 5 0 10000 16 110 false] : List SolRec) = (w_baseMissingDecision_running.fix.queue.filter (fun j => (j.cor.week == ((0, 10000) : Nat × Nat).1 && j.cor.ms == ((0, 10000) : Nat × Nat).2))).map (fun j => w_baseMissingDecision_running.idleRec j.addr ((0, 10000) : Nat × Nat).1 ((0, 10000) : Nat × Nat).2 16 (w_baseMissingDecision_running.jobUs j 10000) j.cor.antFault))) ∧ (match exec (.baseMissingDecision) w_baseMissingDecision_running with
    | .next t => decide ((t = (({ w_baseMissingDecision_running with fix := { w_baseMissingDecision_running.fix with missing := some ((0, 10000) : Nat × Nat), queue := w_baseMissingDecision_running.fix.queue.filter (fun j => !(j.cor.week == ((0, 10000) : Nat × Nat).1 && j.cor.ms == ((0, 10000) : Nat × Nat).2)) } }).bump FIX_CNT3_BASE_MISSING).recorded ([State.idleRec { (at_ []) with ply := 1000, time := { State.reset.time with grid := true, k := 100, gridNs := 10000000000, sec := 315964829, fx := 9995000 * 2 ^ 29 }, fix := { State.reset.fix with queue := [] } } 5 0 10000 16 110 false] : List SolRec)))
    | _ => false) = true := by decide +kernel

def w_baseMissingDecision_none : State := { (at_ []) with ply := 1000, time := { State.reset.time with grid := true, k := 100, gridNs := 10000000000, sec := 315964829, fx := 9995000 * 2 ^ 29 }, fix := { State.reset.fix with base := some { week := 0, ms := 10000 } } }

theorem test_baseMissingDecision_none : ((w_baseMissingDecision_none.stopSafe = true) ∧ (((0, 10000) : Nat × Nat) = w_baseMissingDecision_none.startOf w_baseMissingDecision_none.time.k) ∧ (w_baseMissingDecision_none.instantNow 10000000 = false ∨ ((0, 10000) : Nat × Nat).2 % w_baseMissingDecision_none.epochMs ≠ 0 ∨ w_baseMissingDecision_none.fix.base.any (fun r => r.week == ((0, 10000) : Nat × Nat).1 && r.ms == ((0, 10000) : Nat × Nat).2) = true ∨ w_baseMissingDecision_none.fix.missing = some ((0, 10000) : Nat × Nat))) ∧ (match exec (.baseMissingDecision) w_baseMissingDecision_none with
    | .next t => decide ((t.fix = w_baseMissingDecision_none.fix))
    | _ => false) = true := by decide +kernel

def w_ifbAgeExpiry : State := { wReset with ply := 60000007, gnss := { fe0 := { ifbUse := true, ifbPly := 7 } }, fix := { State.reset.fix with filters := [(3, {})] } }

theorem test_ifbAgeExpiry : ((w_ifbAgeExpiry.stopSafe = true) ∧ (w_ifbAgeExpiry.gnss.fe0.ifbUse = true) ∧ (w_ifbAgeExpiry.gnss.fe0.ifbPly + 60000000 ≤ w_ifbAgeExpiry.ply)) ∧ (match exec (.ifbAgeExpiry) w_ifbAgeExpiry with
    | .next t => decide ((t.gnss = { w_ifbAgeExpiry.gnss with fe0 := { w_ifbAgeExpiry.gnss.fe0 with ifbUse := false } }) ∧ (t.fix = { w_ifbAgeExpiry.fix with filters := w_ifbAgeExpiry.fix.filters.map (fun (x : Nat × Filter) => (x.1, { x.2 with ionoReset := true })) }))
    | _ => false) = true := by decide +kernel

theorem test_ifbAgeExpiry_early : ((wReset.stopSafe = true) ∧ (wReset.gnss.fe0.ifbUse = false ∨ wReset.ply < wReset.gnss.fe0.ifbPly + 60000000)) ∧ (match exec (.ifbAgeExpiry) wReset with
    | .next t => decide ((t.gnss = wReset.gnss))
    | _ => false) = true := by decide +kernel

def w_solGet : State := { withSess (at_ [(PAIR_STATUS_ACTIVE, 1), (MEMBER_W2_STATE 9, 2)]) with fix := { State.reset.fix with recs := [(8, { addr := 8 }), (9, { addr := 9, status := 4, ms := 400 })] } }

theorem test_solGet : ((w_solGet.stopSafe = true) ∧ (w_solGet.accepts 0x0400 3 9 true = true) ∧ (addrOk 9 = true) ∧ (w_solGet.fix.recs.find? (fun (x : Nat × SolRec) => x.1 == 9) = some (9, ({ addr := 9, status := 4, ms := 400 } : SolRec))) ∧ (w_solGet.get (MEMBER_W2_STATE 9) ≠ 0)) ∧ (match exec (.solGet 3 9 ([9, 0, 0, 0])) w_solGet with
    | .next t => decide ((answers w_solGet t [] 0x0400 3 9 Ecp.OK (crc32c [9, 0, 0, 0]) ({ addr := 9, status := 4, ms := 400 } : SolRec).bytes = true))
    | _ => false) = true := by decide +kernel

theorem test_solGet_none : ((wAct.stopSafe = true) ∧ (wAct.accepts 0x0400 3 9 true = true) ∧ (addrOk 9 = true) ∧ (wAct.fix.recs.all (fun (x : Nat × SolRec) => x.1 != 9) = true ∨ wAct.get (MEMBER_W2_STATE 9) = 0)) ∧ (match exec (.solGet 3 9 ([9, 0, 0, 0])) wAct with
    | .next t => decide ((answers wAct t [] 0x0400 3 9 Ecp.OK (crc32c [9, 0, 0, 0]) (SolRec.bytes { addr := 9 }) = true))
    | _ => false) = true := by decide +kernel

theorem test_solGet_bad : ((wAct.stopSafe = true) ∧ (wAct.accepts 0x0400 3 9 true = true) ∧ (193 < 256) ∧ (addrOk 193 = false)) ∧ (match exec (.solGet 3 9 ([193, 0, 0, 0])) wAct with
    | .next t => decide ((answers wAct t [] 0x0400 3 9 Ecp.BAD_PARAM (crc32c [193, 0, 0, 0]) [] = true))
    | _ => false) = true := by decide +kernel

theorem test_prioSet : ((wAct.stopSafe = true) ∧ (wAct.accepts 0x0401 3 9 true = true) ∧ (3 = ([(192, 7), (1, 3), (192, 5)] : List (Nat × Nat)).length) ∧ (1 ≤ 3) ∧ (3 ≤ 64) ∧ (([(192, 7), (1, 3), (192, 5)] : List (Nat × Nat)).all (fun e => addrOk e.1 && decide (e.2 ≤ 7)) = true)) ∧ (match exec (.prioSet 3 9 (([3, 0] ++ ([(192, 7), (1, 3), (192, 5)] : List (Nat × Nat)).flatMap (fun e => [e.1, e.2])))) wAct with
    | .next t => decide ((answers wAct t [] 0x0401 3 9 Ecp.OK (crc32c ([3, 0] ++ ([(192, 7), (1, 3), (192, 5)] : List (Nat × Nat)).flatMap (fun e => [e.1, e.2]))) [] = true) ∧ (([(192, 7), (1, 3), (192, 5)] : List (Nat × Nat)).all (fun e => t.get (FIX_MEMBER_PRIO e.1) == ((([(192, 7), (1, 3), (192, 5)] : List (Nat × Nat)).filter (fun x => x.1 == e.1)).getLast?.getD e).2) = true))
    | _ => false) = true := by decide +kernel

theorem test_prioSet_bad : ((wAct.stopSafe = true) ∧ (wAct.accepts 0x0401 3 9 true = true) ∧ (2 = ([(192, 7), (1, 8)] : List (Nat × Nat)).length) ∧ (2 < 256) ∧ (([(192, 7), (1, 8)] : List (Nat × Nat)).all (fun e => decide (e.1 < 256 ∧ e.2 < 256)) = true) ∧ (2 = 0 ∨ 64 < 2 ∨ ([(192, 7), (1, 8)] : List (Nat × Nat)).any (fun e => !addrOk e.1 || decide (7 < e.2)) = true)) ∧ (match exec (.prioSet 3 9 (([2, 0] ++ ([(192, 7), (1, 8)] : List (Nat × Nat)).flatMap (fun e => [e.1, e.2])))) wAct with
    | .next t => decide ((answers wAct t [] 0x0401 3 9 Ecp.BAD_PARAM (crc32c ([2, 0] ++ ([(192, 7), (1, 8)] : List (Nat × Nat)).flatMap (fun e => [e.1, e.2]))) [] = true))
    | _ => false) = true := by decide +kernel

theorem test_filterReset : ((wAct.stopSafe = true) ∧ (wAct.accepts 0x0402 3 9 true = true) ∧ (addrOk 255 = true ∨ 255 = 0xFF)) ∧ (match exec (.filterReset 3 9 ([255, 0, 0, 0])) wAct with
    | .next t => decide ((answers wAct t [] 0x0402 3 9 Ecp.OK (crc32c [255, 0, 0, 0]) [] = true) ∧ (t.fix = { wAct.fix with resets := wAct.fix.resets ++ [255] }))
    | _ => false) = true := by decide +kernel

theorem test_filterReset_bad : ((wAct.stopSafe = true) ∧ (wAct.accepts 0x0402 3 9 true = true) ∧ (0 < 255) ∧ (addrOk 0 = false)) ∧ (match exec (.filterReset 3 9 ([0, 0, 0, 0])) wAct with
    | .next t => decide ((answers wAct t [] 0x0402 3 9 Ecp.BAD_PARAM (crc32c [0, 0, 0, 0]) [] = true))
    | _ => false) = true := by decide +kernel

def w_fixSolveComplete_solved : State := { (at_ [(PCH_W5_STATE 5, 0)]) with ply := 10, fix := { State.reset.fix with cur := some ⟨5, 10, 0, ⟨true, false, 2200, 400, 0, 0, []⟩⟩, base := some { week := 2200, ms := 400 }, filters := [(5, { started := true, last := epochAbs 2200 300 })] } }

theorem test_fixSolveComplete_solved :
    (w_fixSolveComplete_solved.fix.cur = some ⟨5, 10, 0, ⟨true, false, 2200, 400, 0, 0, []⟩⟩ ∧ w_fixSolveComplete_solved.jobUs ⟨5, 10, 0, ⟨true, false, 2200, 400, 0, 0, []⟩⟩ 2501000 = 2501 ∧ w_fixSolveComplete_solved.pchState 5 = 0) ∧
    ∃ x, State.solve (State.bump { w_fixSolveComplete_solved with fix := { w_fixSolveComplete_solved.fix with cur := none } } FIX_OVL_LATE) 5
      ⟨true, false, 2200, 400, 0, 0, []⟩ { week := 2200, ms := 400 } = some x :=
  ⟨by decide +kernel, _, by rfl⟩

def w_fixSolveComplete_solvedRunning : State := { (at_ [(PCH_W5_STATE 5, 2)]) with ply := 10, fix := { State.reset.fix with cur := some ⟨5, 10, 0, ⟨true, false, 2200, 400, 0, 0, []⟩⟩, base := some { week := 2200, ms := 400 }, filters := [(5, { started := true, last := epochAbs 2200 300 })] } }

theorem test_fixSolveComplete_solvedRunning :
    (w_fixSolveComplete_solvedRunning.fix.cur = some ⟨5, 10, 0, ⟨true, false, 2200, 400, 0, 0, []⟩⟩ ∧ w_fixSolveComplete_solvedRunning.jobUs ⟨5, 10, 0, ⟨true, false, 2200, 400, 0, 0, []⟩⟩ 2501000 = 2501 ∧ w_fixSolveComplete_solvedRunning.pchState 5 = 2) ∧
    ∃ x, State.solve (State.bump { w_fixSolveComplete_solvedRunning with fix := { w_fixSolveComplete_solvedRunning.fix with cur := none } } FIX_OVL_LATE) 5
      ⟨true, false, 2200, 400, 0, 0, []⟩ { week := 2200, ms := 400 } = some x :=
  ⟨by decide +kernel, _, by rfl⟩

def w_laneEnable : State := { wReset with radio := { lanes := [(7, { lo := 5, clkOk := true, part := [3] })] } }

theorem test_laneEnable : ((w_laneEnable.stopSafe = true) ∧ (7 < 8) ∧ (MayWrite w_laneEnable 0x10 (0x40300000 + 0x1000 * 7)) ∧ (w_laneEnable.bit (LANE_CFG_EN 7) = false) ∧ (bitOf 0xB0150000 31 = true) ∧ (bits 0xB0150000 30 29 ≠ 3)) ∧ (match exec (.laneEnable 0x10 7 0xB0150000) w_laneEnable with
    | .next t => decide ((Reads t [(LANE_CFG_EN 7, 1), (LANE_CFG_PROFILE 7, bits 0xB0150000 30 29), (LANE_CFG_RATE 7, bits 0xB0150000 28 28), (LANE_CFG_PWR 7, bits 0xB0150000 20 16), (LANE_STATUS_STATE 7, 1), (LANE_STATUS_CAUSE 7, 0), (LANE_TRIM_LO_OFS 7, 0)]) ∧ (t.lane 7 = { w_laneEnable.lane 7 with lo := 0, link := if (w_laneEnable.lane 7).clkOk then 1 else 0, good := 0, part := [], last := none, prev := none }))
    | _ => false) = true := by decide +kernel

theorem test_laneEnable_refused : ((wReset.stopSafe = true) ∧ (MayWrite wReset 0x10 (0x40300000 + 0x1000 * 7)) ∧ (8 ≤ 7 ∨ wReset.bit (LANE_CFG_EN 7) = true ∨ bitOf 0xF0150000 31 = false ∨ bits 0xF0150000 30 29 = 3)) ∧ (match exec (.laneEnable 0x10 7 0xF0150000) wReset with
    | .next t => decide ((t.radio = wReset.radio))
    | _ => false) = true := by decide +kernel

def w_laneDisable : State := { (at_ [(LANE_CFG_EN 7, 1), (LANE_STATUS_STATE 7, 4), (LANE_STATUS_CAUSE 7, 5)]) with radio := { lanes := [(7, { link := 2 })] } }

theorem test_laneDisable : ((w_laneDisable.stopSafe = true) ∧ (7 < 8) ∧ (MayWrite w_laneDisable 0x10 (0x40300000 + 0x1000 * 7)) ∧ (w_laneDisable.bit (LANE_CFG_EN 7) = true) ∧ (bitOf 0x20150000 31 = false) ∧ (bits 0x20150000 30 29 ≠ 3)) ∧ (match exec (.laneDisable 0x10 7 0x20150000) w_laneDisable with
    | .next t => decide ((Reads t [(LANE_CFG_EN 7, 0), (LANE_CFG_PROFILE 7, bits 0x20150000 30 29), (LANE_CFG_RATE 7, bits 0x20150000 28 28), (LANE_CFG_PWR 7, bits 0x20150000 20 16), (LANE_STATUS_STATE 7, 0), (LANE_STATUS_CAUSE 7, 0)]) ∧ (t.lane 7 = { w_laneDisable.lane 7 with link := 0, part := [], last := none, prev := none }) ∧ (ReserveJudged w_laneDisable t))
    | _ => false) = true := by decide +kernel

def w_laneDisable_reserved : State := at_ [(LANE_CFG_EN 7, 1), (LANE_STATUS_STATE 7, 3)]

theorem test_laneDisable_reserved : ((w_laneDisable_reserved.stopSafe = true) ∧ (MayWrite w_laneDisable_reserved 0x10 (0x40300000 + 0x1000 * 7)) ∧ (7 < 8) ∧ (w_laneDisable_reserved.bit (LANE_CFG_EN 7) = true) ∧ (bitOf 0x60150000 31 = false) ∧ (bits 0x60150000 30 29 = 3)) ∧ (match exec (.laneDisable 0x10 7 0x60150000) w_laneDisable_reserved with
    | .next t => decide ((ReserveJudged w_laneDisable_reserved t))
    | _ => false) = true := by decide +kernel

theorem test_laneDisable_none : ((wReset.stopSafe = true) ∧ (8 ≤ 7 ∨ wReset.bit (LANE_CFG_EN 7) = false ∨ bitOf 0xF0150000 31 = true)) ∧ (match exec (.laneDisable 0x10 7 0xF0150000) wReset with
    | .next t => decide ((t.radio = wReset.radio))
    | _ => false) = true := by decide +kernel

def w_laneLinkLocked : State := { (at_ [(LANE_CFG_EN 3, 1), (LANE_STATUS_STATE 3, 1)]) with radio := { lanes := [(3, { link := 1, good := 64, part := [1] })] } }

theorem test_laneLinkLocked : ((w_laneLinkLocked.stopSafe = true) ∧ (3 < 8) ∧ (w_laneLinkLocked.bit (LANE_CFG_EN 3) = true) ∧ ((w_laneLinkLocked.lane 3).link = 1) ∧ (64 ≤ (w_laneLinkLocked.lane 3).good)) ∧ (match exec (.laneLinkLocked 3) w_laneLinkLocked with
    | .next t => decide ((Reads t [(LANE_CNT_RELOCKS 3, w_laneLinkLocked.adv (LANE_CNT_RELOCKS 3)), (LANE_STATUS_STATE 3, if w_laneLinkLocked.get (LANE_STATUS_STATE 3) = 1 then 2 else w_laneLinkLocked.get (LANE_STATUS_STATE 3))]) ∧ (t.lane 3 = { w_laneLinkLocked.lane 3 with link := 2, recent := [], fallen := false, part := [], last := none, prev := none }) ∧ (t.evr = (w_laneLinkLocked.record .laneRelock [3]).evr))
    | _ => false) = true := by decide +kernel

theorem test_laneLinkLocked_early : ((wReset.stopSafe = true) ∧ (8 ≤ 3 ∨ wReset.bit (LANE_CFG_EN 3) = false ∨ (wReset.lane 3).link ≠ 1 ∨ (wReset.lane 3).good < 64)) ∧ (match exec (.laneLinkLocked 3) wReset with
    | .next t => decide ((t.radio = wReset.radio))
    | _ => false) = true := by decide +kernel

def w_laneLinkLost : State := { (at_ [(LANE_CFG_EN 3, 1), (LANE_STATUS_STATE 3, 3)]) with radio := { lanes := [(3, { link := 2 })] } }

theorem test_laneLinkLost : ((w_laneLinkLost.stopSafe = true) ∧ (3 < 8) ∧ (true = true ∨ ((w_laneLinkLost.lane 3).link = 2 ∧ (w_laneLinkLost.lane 3).fallen = true)) ∧ (w_laneLinkLost.get (LANE_STATUS_STATE 3) = 2 ∨ w_laneLinkLost.get (LANE_STATUS_STATE 3) = 3) ∧ ((State.record { (at_ [(LANE_CFG_EN 3, 1), (LANE_STATUS_STATE 3, 3)]) with radio := { lanes := [(3, { link := 2 })] } } .laneLost [3] : State) = (if w_laneLinkLost.get (LANE_STATUS_STATE 3) = 3 then w_laneLinkLost.record .laneLost [3] else w_laneLinkLost))) ∧ (match exec (.laneLinkLost 3 true) w_laneLinkLost with
    | .next t => decide ((Reads t [(LANE_STATUS_STATE 3, 1)]) ∧ (t.lane 3 = { w_laneLinkLost.lane 3 with clkOk := !true, link := if true then 0 else 1, recent := [], fallen := false, rx := [], good := 0, part := [], last := none, prev := none }) ∧ (ReserveJudged (State.record { (at_ [(LANE_CFG_EN 3, 1), (LANE_STATUS_STATE 3, 3)]) with radio := { lanes := [(3, { link := 2 })] } } .laneLost [3] : State) t))
    | _ => false) = true := by decide +kernel

def w_laneLinkLost_other : State := { (at_ [(LANE_CFG_EN 3, 1), (LANE_STATUS_STATE 3, 4)]) with radio := { lanes := [(3, { link := 2, fallen := true })] } }

theorem test_laneLinkLost_other : ((w_laneLinkLost_other.stopSafe = true) ∧ (3 < 8) ∧ (false = true ∨ ((w_laneLinkLost_other.lane 3).link = 2 ∧ (w_laneLinkLost_other.lane 3).fallen = true)) ∧ (w_laneLinkLost_other.get (LANE_STATUS_STATE 3) ≠ 2) ∧ (w_laneLinkLost_other.get (LANE_STATUS_STATE 3) ≠ 3)) ∧ (match exec (.laneLinkLost 3 false) w_laneLinkLost_other with
    | .next t => decide ((t.lane 3 = { w_laneLinkLost_other.lane 3 with clkOk := !false, link := if false then 0 else 1, good := 0, recent := [], fallen := false, rx := [] }))
    | _ => false) = true := by decide +kernel

theorem test_laneLinkLost_none : ((wReset.stopSafe = true) ∧ (8 ≤ 3 ∨ (false = false ∧ ((wReset.lane 3).link ≠ 2 ∨ (wReset.lane 3).fallen = false)))) ∧ (match exec (.laneLinkLost 3 false) wReset with
    | .next t => decide ((t.radio = wReset.radio))
    | _ => false) = true := by decide +kernel

def w_laneCapsCheck : State := { (at_ [(LANE_CFG_EN 3, 1), (LANE_STATUS_STATE 3, 2), (ACCT_W0_EN 0, 1), (ACCT_W0_CH_HI 0, 78)]) with radio := { lanes := [(3, { last := some ([1, 1, 31, 36, 0, 0, 0, crc16 ([1, 1, 31, 36, 0, 0, 0].flatMap (leBytes 2))] : List Nat), prev := some ([1, 1, 31, 36, 0, 0, 0, crc16 ([1, 1, 31, 36, 0, 0, 0].flatMap (leBytes 2))] : List Nat) })] } }

theorem test_laneCapsCheck : ((w_laneCapsCheck.stopSafe = true) ∧ (3 < 8) ∧ ((w_laneCapsCheck.lane 3).last = some (([1, 1, 31, 36, 0, 0, 0, crc16 ([1, 1, 31, 36, 0, 0, 0].flatMap (leBytes 2))] : List Nat) : List Nat)) ∧ ((w_laneCapsCheck.lane 3).prev = some (([1, 1, 31, 36, 0, 0, 0, crc16 ([1, 1, 31, 36, 0, 0, 0].flatMap (leBytes 2))] : List Nat) : List Nat)) ∧ (w_laneCapsCheck.get (LANE_STATUS_STATE 3) = 2) ∧ (capsCheckOk (([1, 1, 31, 36, 0, 0, 0, crc16 ([1, 1, 31, 36, 0, 0, 0].flatMap (leBytes 2))] : List Nat) : List Nat) = true) ∧ (w_laneCapsCheck.capsCause 3 (([1, 1, 31, 36, 0, 0, 0, crc16 ([1, 1, 31, 36, 0, 0, 0].flatMap (leBytes 2))] : List Nat) : List Nat) = 0)) ∧ (match exec (.laneCapsCheck 3) w_laneCapsCheck with
    | .next t => decide ((Reads t [(LANE_STATUS_STATE 3, if w_laneCapsCheck.uncovered 3 then 4 else 3), (LANE_STATUS_CAUSE 3, if w_laneCapsCheck.uncovered 3 then 5 else w_laneCapsCheck.get (LANE_STATUS_CAUSE 3))]) ∧ (ReserveJudged w_laneCapsCheck t))
    | _ => false) = true := by decide +kernel

def w_laneCapsCheck_fault : State := { (at_ [(LANE_CFG_EN 3, 1), (LANE_CFG_PROFILE 3, 1), (LANE_STATUS_STATE 3, 2)]) with radio := { lanes := [(3, { last := some ([1, 1, 31, 36, 0, 0, 0, crc16 ([1, 1, 31, 36, 0, 0, 0].flatMap (leBytes 2))] : List Nat), prev := some ([1, 1, 31, 36, 0, 0, 0, crc16 ([1, 1, 31, 36, 0, 0, 0].flatMap (leBytes 2))] : List Nat) })] } }

theorem test_laneCapsCheck_fault : ((w_laneCapsCheck_fault.stopSafe = true) ∧ (3 < 8) ∧ ((w_laneCapsCheck_fault.lane 3).last = some (([1, 1, 31, 36, 0, 0, 0, crc16 ([1, 1, 31, 36, 0, 0, 0].flatMap (leBytes 2))] : List Nat) : List Nat)) ∧ ((w_laneCapsCheck_fault.lane 3).prev = some (([1, 1, 31, 36, 0, 0, 0, crc16 ([1, 1, 31, 36, 0, 0, 0].flatMap (leBytes 2))] : List Nat) : List Nat)) ∧ (w_laneCapsCheck_fault.get (LANE_STATUS_STATE 3) = 2) ∧ (capsCheckOk (([1, 1, 31, 36, 0, 0, 0, crc16 ([1, 1, 31, 36, 0, 0, 0].flatMap (leBytes 2))] : List Nat) : List Nat) = true) ∧ (w_laneCapsCheck_fault.capsCause 3 (([1, 1, 31, 36, 0, 0, 0, crc16 ([1, 1, 31, 36, 0, 0, 0].flatMap (leBytes 2))] : List Nat) : List Nat) ≠ 0)) ∧ (match exec (.laneCapsCheck 3) w_laneCapsCheck_fault with
    | .next t => decide ((Reads t [(LANE_STATUS_STATE 3, 4), (LANE_STATUS_CAUSE 3, w_laneCapsCheck_fault.capsCause 3 (([1, 1, 31, 36, 0, 0, 0, crc16 ([1, 1, 31, 36, 0, 0, 0].flatMap (leBytes 2))] : List Nat) : List Nat))]))
    | _ => false) = true := by decide +kernel

theorem test_laneCapsCheck_none : ((wReset.stopSafe = true) ∧ (8 ≤ 3 ∨ wReset.get (LANE_STATUS_STATE 3) ≠ 2 ∨ (wReset.lane 3).last = none ∨ (wReset.lane 3).last ≠ (wReset.lane 3).prev ∨ (wReset.lane 3).last.all (fun a => !capsCheckOk a) = true)) ∧ (match exec (.laneCapsCheck 3) wReset with
    | .next t => decide ((t.radio = wReset.radio))
    | _ => false) = true := by decide +kernel

def w_laneStatusFrame_hunt : State := at_ [(LANE_CFG_EN 3, 1)]

theorem test_laneStatusFrame_hunt : ((w_laneStatusFrame_hunt.stopSafe = true) ∧ (3 < 8) ∧ (w_laneStatusFrame_hunt.bit (LANE_CFG_EN 3) = true) ∧ ((w_laneStatusFrame_hunt.lane 3).link ≠ 2)) ∧ (match exec (.laneStatusFrame 3 ([31 + revBits 8 (wireCrc 31) * 2 ^ 42] : List Nat)) w_laneStatusFrame_hunt with
    | .next t => decide ((t.lane 3 = ([31 + revBits 8 (wireCrc 31) * 2 ^ 42] : List Nat).foldl LaneState.huntWord { w_laneStatusFrame_hunt.lane 3 with clkOk := true, link := if (w_laneStatusFrame_hunt.lane 3).link = 0 then 1 else (w_laneStatusFrame_hunt.lane 3).link, good := if (w_laneStatusFrame_hunt.lane 3).link = 0 then 0 else (w_laneStatusFrame_hunt.lane 3).good }))
    | _ => false) = true := by decide +kernel

def w_laneStatusFrame_bad : State := { (at_ [(LANE_CFG_EN 3, 1), (LANE_STATUS_STATE 3, 2)]) with radio := { lanes := [(3, { link := 2 })] } }

theorem test_laneStatusFrame_bad : ((w_laneStatusFrame_bad.stopSafe = true) ∧ (3 < 8) ∧ (w_laneStatusFrame_bad.bit (LANE_CFG_EN 3) = true) ∧ ((w_laneStatusFrame_bad.lane 3).link = 2) ∧ ((stsFrame ([31, 31, 5])) = stsFrame ([31, 31, 5] : List Nat)) ∧ (({ ([31, 31, 5]).foldl LaneState.lockWord ({ link := 2, clkOk := true } : LaneState) with rx := ([31, 31, 5]).map rxdSample } : LaneState) = { ([31, 31, 5] : List Nat).foldl LaneState.lockWord { w_laneStatusFrame_bad.lane 3 with clkOk := true } with rx := ([31, 31, 5] : List Nat).map rxdSample }) ∧ (linkFrameOk 0xC5A3 (stsFrame ([31, 31, 5])) = false)) ∧ (match exec (.laneStatusFrame 3 ([31, 31, 5] : List Nat)) w_laneStatusFrame_bad with
    | .next t => decide ((Reads t [(LANE_CNT_CRC_ERR 3, w_laneStatusFrame_bad.adv (LANE_CNT_CRC_ERR 3) (([31, 31, 5] : List Nat).filter (fun w => !wireCrcOk w)).length)]) ∧ (t.lane 3 = ({ ([31, 31, 5]).foldl LaneState.lockWord ({ link := 2, clkOk := true } : LaneState) with rx := ([31, 31, 5]).map rxdSample } : LaneState)))
    | _ => false) = true := by decide +kernel

def w_laneStatusFrame : State := { (at_ [(LANE_CFG_EN 3, 1), (LANE_STATUS_STATE 3, 2)]) with radio := { lanes := [(3, { link := 2 })] } }

theorem test_laneStatusFrame : ((w_laneStatusFrame.stopSafe = true) ∧ (3 < 8) ∧ (w_laneStatusFrame.bit (LANE_CFG_EN 3) = true) ∧ ((w_laneStatusFrame.lane 3).link = 2) ∧ ((stsFrame ((List.range 64).map (fun j => 31 + (wLinkFrame 0xC5A3 0x5AC314F1A9) / 2 ^ j % 2 * 2 ^ 30 + revBits 8 (wireCrc (31 + (wLinkFrame 0xC5A3 0x5AC314F1A9) / 2 ^ j % 2 * 2 ^ 30)) * 2 ^ 42))) = stsFrame ((List.range 64).map (fun j => 31 + (wLinkFrame 0xC5A3 0x5AC314F1A9) / 2 ^ j % 2 * 2 ^ 30 + revBits 8 (wireCrc (31 + (wLinkFrame 0xC5A3 0x5AC314F1A9) / 2 ^ j % 2 * 2 ^ 30)) * 2 ^ 42) : List Nat)) ∧ (({ ((List.range 64).map (fun j => 31 + (wLinkFrame 0xC5A3 0x5AC314F1A9) / 2 ^ j % 2 * 2 ^ 30 + revBits 8 (wireCrc (31 + (wLinkFrame 0xC5A3 0x5AC314F1A9) / 2 ^ j % 2 * 2 ^ 30)) * 2 ^ 42)).foldl LaneState.lockWord ({ link := 2, clkOk := true } : LaneState) with rx := ((List.range 64).map (fun j => 31 + (wLinkFrame 0xC5A3 0x5AC314F1A9) / 2 ^ j % 2 * 2 ^ 30 + revBits 8 (wireCrc (31 + (wLinkFrame 0xC5A3 0x5AC314F1A9) / 2 ^ j % 2 * 2 ^ 30)) * 2 ^ 42)).map rxdSample } : LaneState) = { ((List.range 64).map (fun j => 31 + (wLinkFrame 0xC5A3 0x5AC314F1A9) / 2 ^ j % 2 * 2 ^ 30 + revBits 8 (wireCrc (31 + (wLinkFrame 0xC5A3 0x5AC314F1A9) / 2 ^ j % 2 * 2 ^ 30)) * 2 ^ 42) : List Nat).foldl LaneState.lockWord { w_laneStatusFrame.lane 3 with clkOk := true } with rx := ((List.range 64).map (fun j => 31 + (wLinkFrame 0xC5A3 0x5AC314F1A9) / 2 ^ j % 2 * 2 ^ 30 + revBits 8 (wireCrc (31 + (wLinkFrame 0xC5A3 0x5AC314F1A9) / 2 ^ j % 2 * 2 ^ 30)) * 2 ^ 42) : List Nat).map rxdSample }) ∧ (linkFrameOk 0xC5A3 (stsFrame ((List.range 64).map (fun j => 31 + (wLinkFrame 0xC5A3 0x5AC314F1A9) / 2 ^ j % 2 * 2 ^ 30 + revBits 8 (wireCrc (31 + (wLinkFrame 0xC5A3 0x5AC314F1A9) / 2 ^ j % 2 * 2 ^ 30)) * 2 ^ 42))) = true) ∧ (w_laneStatusFrame.laneReady 3 = false ∨ w_laneStatusFrame.get (if bits (stsFrame ((List.range 64).map (fun j => 31 + (wLinkFrame 0xC5A3 0x5AC314F1A9) / 2 ^ j % 2 * 2 ^ 30 + revBits 8 (wireCrc (31 + (wLinkFrame 0xC5A3 0x5AC314F1A9) / 2 ^ j % 2 * 2 ^ 30)) * 2 ^ 42))) 28 26 % 2 = 0 then LANE_CAP_WORD_LO 3 (bits (stsFrame ((List.range 64).map (fun j => 31 + (wLinkFrame 0xC5A3 0x5AC314F1A9) / 2 ^ j % 2 * 2 ^ 30 + revBits 8 (wireCrc (31 + (wLinkFrame 0xC5A3 0x5AC314F1A9) / 2 ^ j % 2 * 2 ^ 30)) * 2 ^ 42))) 28 26 / 2) else LANE_CAP_WORD_HI 3 (bits (stsFrame ((List.range 64).map (fun j => 31 + (wLinkFrame 0xC5A3 0x5AC314F1A9) / 2 ^ j % 2 * 2 ^ 30 + revBits 8 (wireCrc (31 + (wLinkFrame 0xC5A3 0x5AC314F1A9) / 2 ^ j % 2 * 2 ^ 30)) * 2 ^ 42))) 28 26 / 2)) = bits (stsFrame ((List.range 64).map (fun j => 31 + (wLinkFrame 0xC5A3 0x5AC314F1A9) / 2 ^ j % 2 * 2 ^ 30 + revBits 8 (wireCrc (31 + (wLinkFrame 0xC5A3 0x5AC314F1A9) / 2 ^ j % 2 * 2 ^ 30)) * 2 ^ 42))) 47 32)) ∧ (match exec (.laneStatusFrame 3 ((List.range 64).map (fun j => 31 + (wLinkFrame 0xC5A3 0x5AC314F1A9) / 2 ^ j % 2 * 2 ^ 30 + revBits 8 (wireCrc (31 + (wLinkFrame 0xC5A3 0x5AC314F1A9) / 2 ^ j % 2 * 2 ^ 30)) * 2 ^ 42) : List Nat)) w_laneStatusFrame with
    | .next t => decide ((Reads t [(LANE_CNT_CRC_ERR 3, w_laneStatusFrame.adv (LANE_CNT_CRC_ERR 3) (((List.range 64).map (fun j => 31 + (wLinkFrame 0xC5A3 0x5AC314F1A9) / 2 ^ j % 2 * 2 ^ 30 + revBits 8 (wireCrc (31 + (wLinkFrame 0xC5A3 0x5AC314F1A9) / 2 ^ j % 2 * 2 ^ 30)) * 2 ^ 42) : List Nat).filter (fun w => !wireCrcOk w)).length), (LANE_STATUS_RSSI 3, bits (stsFrame ((List.range 64).map (fun j => 31 + (wLinkFrame 0xC5A3 0x5AC314F1A9) / 2 ^ j % 2 * 2 ^ 30 + revBits 8 (wireCrc (31 + (wLinkFrame 0xC5A3 0x5AC314F1A9) / 2 ^ j % 2 * 2 ^ 30)) * 2 ^ 42))) 23 16), (LANE_STATUS_SYNTH_LOCK 3, bits (stsFrame ((List.range 64).map (fun j => 31 + (wLinkFrame 0xC5A3 0x5AC314F1A9) / 2 ^ j % 2 * 2 ^ 30 + revBits 8 (wireCrc (31 + (wLinkFrame 0xC5A3 0x5AC314F1A9) / 2 ^ j % 2 * 2 ^ 30)) * 2 ^ 42))) 24 24), (LANE_STATUS_PA_ALARM 3, bits (stsFrame ((List.range 64).map (fun j => 31 + (wLinkFrame 0xC5A3 0x5AC314F1A9) / 2 ^ j % 2 * 2 ^ 30 + revBits 8 (wireCrc (31 + (wLinkFrame 0xC5A3 0x5AC314F1A9) / 2 ^ j % 2 * 2 ^ 30)) * 2 ^ 42))) 25 25), (LANE_STATUS_CTL_ACK 3, bits (stsFrame ((List.range 64).map (fun j => 31 + (wLinkFrame 0xC5A3 0x5AC314F1A9) / 2 ^ j % 2 * 2 ^ 30 + revBits 8 (wireCrc (31 + (wLinkFrame 0xC5A3 0x5AC314F1A9) / 2 ^ j % 2 * 2 ^ 30)) * 2 ^ 42))) 55 48), ((if bits (stsFrame ((List.range 64).map (fun j => 31 + (wLinkFrame 0xC5A3 0x5AC314F1A9) / 2 ^ j % 2 * 2 ^ 30 + revBits 8 (wireCrc (31 + (wLinkFrame 0xC5A3 0x5AC314F1A9) / 2 ^ j % 2 * 2 ^ 30)) * 2 ^ 42))) 28 26 % 2 = 0 then LANE_CAP_WORD_LO 3 (bits (stsFrame ((List.range 64).map (fun j => 31 + (wLinkFrame 0xC5A3 0x5AC314F1A9) / 2 ^ j % 2 * 2 ^ 30 + revBits 8 (wireCrc (31 + (wLinkFrame 0xC5A3 0x5AC314F1A9) / 2 ^ j % 2 * 2 ^ 30)) * 2 ^ 42))) 28 26 / 2) else LANE_CAP_WORD_HI 3 (bits (stsFrame ((List.range 64).map (fun j => 31 + (wLinkFrame 0xC5A3 0x5AC314F1A9) / 2 ^ j % 2 * 2 ^ 30 + revBits 8 (wireCrc (31 + (wLinkFrame 0xC5A3 0x5AC314F1A9) / 2 ^ j % 2 * 2 ^ 30)) * 2 ^ 42))) 28 26 / 2)), bits (stsFrame ((List.range 64).map (fun j => 31 + (wLinkFrame 0xC5A3 0x5AC314F1A9) / 2 ^ j % 2 * 2 ^ 30 + revBits 8 (wireCrc (31 + (wLinkFrame 0xC5A3 0x5AC314F1A9) / 2 ^ j % 2 * 2 ^ 30)) * 2 ^ 42))) 47 32)]) ∧ (t.lane 3 = capPush ({ ((List.range 64).map (fun j => 31 + (wLinkFrame 0xC5A3 0x5AC314F1A9) / 2 ^ j % 2 * 2 ^ 30 + revBits 8 (wireCrc (31 + (wLinkFrame 0xC5A3 0x5AC314F1A9) / 2 ^ j % 2 * 2 ^ 30)) * 2 ^ 42)).foldl LaneState.lockWord ({ link := 2, clkOk := true } : LaneState) with rx := ((List.range 64).map (fun j => 31 + (wLinkFrame 0xC5A3 0x5AC314F1A9) / 2 ^ j % 2 * 2 ^ 30 + revBits 8 (wireCrc (31 + (wLinkFrame 0xC5A3 0x5AC314F1A9) / 2 ^ j % 2 * 2 ^ 30)) * 2 ^ 42)).map rxdSample } : LaneState) (bits (stsFrame ((List.range 64).map (fun j => 31 + (wLinkFrame 0xC5A3 0x5AC314F1A9) / 2 ^ j % 2 * 2 ^ 30 + revBits 8 (wireCrc (31 + (wLinkFrame 0xC5A3 0x5AC314F1A9) / 2 ^ j % 2 * 2 ^ 30)) * 2 ^ 42))) 28 26) (bits (stsFrame ((List.range 64).map (fun j => 31 + (wLinkFrame 0xC5A3 0x5AC314F1A9) / 2 ^ j % 2 * 2 ^ 30 + revBits 8 (wireCrc (31 + (wLinkFrame 0xC5A3 0x5AC314F1A9) / 2 ^ j % 2 * 2 ^ 30)) * 2 ^ 42))) 47 32)))
    | _ => false) = true := by decide +kernel

def w_laneStatusFrame_fault : State := { (at_ [(LANE_CFG_EN 3, 1), (LANE_STATUS_STATE 3, 3)]) with radio := { lanes := [(3, { link := 2 })] } }

theorem test_laneStatusFrame_fault : ((w_laneStatusFrame_fault.stopSafe = true) ∧ (3 < 8) ∧ (w_laneStatusFrame_fault.bit (LANE_CFG_EN 3) = true) ∧ ((w_laneStatusFrame_fault.lane 3).link = 2) ∧ ((stsFrame ((List.range 64).map (fun j => 31 + (wLinkFrame 0xC5A3 0x5AC314F1A9) / 2 ^ j % 2 * 2 ^ 30 + revBits 8 (wireCrc (31 + (wLinkFrame 0xC5A3 0x5AC314F1A9) / 2 ^ j % 2 * 2 ^ 30)) * 2 ^ 42))) = stsFrame ((List.range 64).map (fun j => 31 + (wLinkFrame 0xC5A3 0x5AC314F1A9) / 2 ^ j % 2 * 2 ^ 30 + revBits 8 (wireCrc (31 + (wLinkFrame 0xC5A3 0x5AC314F1A9) / 2 ^ j % 2 * 2 ^ 30)) * 2 ^ 42) : List Nat)) ∧ (({ ((List.range 64).map (fun j => 31 + (wLinkFrame 0xC5A3 0x5AC314F1A9) / 2 ^ j % 2 * 2 ^ 30 + revBits 8 (wireCrc (31 + (wLinkFrame 0xC5A3 0x5AC314F1A9) / 2 ^ j % 2 * 2 ^ 30)) * 2 ^ 42)).foldl LaneState.lockWord ({ link := 2, clkOk := true } : LaneState) with rx := ((List.range 64).map (fun j => 31 + (wLinkFrame 0xC5A3 0x5AC314F1A9) / 2 ^ j % 2 * 2 ^ 30 + revBits 8 (wireCrc (31 + (wLinkFrame 0xC5A3 0x5AC314F1A9) / 2 ^ j % 2 * 2 ^ 30)) * 2 ^ 42)).map rxdSample } : LaneState) = { ((List.range 64).map (fun j => 31 + (wLinkFrame 0xC5A3 0x5AC314F1A9) / 2 ^ j % 2 * 2 ^ 30 + revBits 8 (wireCrc (31 + (wLinkFrame 0xC5A3 0x5AC314F1A9) / 2 ^ j % 2 * 2 ^ 30)) * 2 ^ 42) : List Nat).foldl LaneState.lockWord { w_laneStatusFrame_fault.lane 3 with clkOk := true } with rx := ((List.range 64).map (fun j => 31 + (wLinkFrame 0xC5A3 0x5AC314F1A9) / 2 ^ j % 2 * 2 ^ 30 + revBits 8 (wireCrc (31 + (wLinkFrame 0xC5A3 0x5AC314F1A9) / 2 ^ j % 2 * 2 ^ 30)) * 2 ^ 42) : List Nat).map rxdSample }) ∧ (linkFrameOk 0xC5A3 (stsFrame ((List.range 64).map (fun j => 31 + (wLinkFrame 0xC5A3 0x5AC314F1A9) / 2 ^ j % 2 * 2 ^ 30 + revBits 8 (wireCrc (31 + (wLinkFrame 0xC5A3 0x5AC314F1A9) / 2 ^ j % 2 * 2 ^ 30)) * 2 ^ 42))) = true) ∧ (w_laneStatusFrame_fault.laneReady 3 = true) ∧ (w_laneStatusFrame_fault.get (if bits (stsFrame ((List.range 64).map (fun j => 31 + (wLinkFrame 0xC5A3 0x5AC314F1A9) / 2 ^ j % 2 * 2 ^ 30 + revBits 8 (wireCrc (31 + (wLinkFrame 0xC5A3 0x5AC314F1A9) / 2 ^ j % 2 * 2 ^ 30)) * 2 ^ 42))) 28 26 % 2 = 0 then LANE_CAP_WORD_LO 3 (bits (stsFrame ((List.range 64).map (fun j => 31 + (wLinkFrame 0xC5A3 0x5AC314F1A9) / 2 ^ j % 2 * 2 ^ 30 + revBits 8 (wireCrc (31 + (wLinkFrame 0xC5A3 0x5AC314F1A9) / 2 ^ j % 2 * 2 ^ 30)) * 2 ^ 42))) 28 26 / 2) else LANE_CAP_WORD_HI 3 (bits (stsFrame ((List.range 64).map (fun j => 31 + (wLinkFrame 0xC5A3 0x5AC314F1A9) / 2 ^ j % 2 * 2 ^ 30 + revBits 8 (wireCrc (31 + (wLinkFrame 0xC5A3 0x5AC314F1A9) / 2 ^ j % 2 * 2 ^ 30)) * 2 ^ 42))) 28 26 / 2)) ≠ bits (stsFrame ((List.range 64).map (fun j => 31 + (wLinkFrame 0xC5A3 0x5AC314F1A9) / 2 ^ j % 2 * 2 ^ 30 + revBits 8 (wireCrc (31 + (wLinkFrame 0xC5A3 0x5AC314F1A9) / 2 ^ j % 2 * 2 ^ 30)) * 2 ^ 42))) 47 32)) ∧ (match exec (.laneStatusFrame 3 ((List.range 64).map (fun j => 31 + (wLinkFrame 0xC5A3 0x5AC314F1A9) / 2 ^ j % 2 * 2 ^ 30 + revBits 8 (wireCrc (31 + (wLinkFrame 0xC5A3 0x5AC314F1A9) / 2 ^ j % 2 * 2 ^ 30)) * 2 ^ 42) : List Nat)) w_laneStatusFrame_fault with
    | .next t => decide ((Reads t [(LANE_CNT_CRC_ERR 3, w_laneStatusFrame_fault.adv (LANE_CNT_CRC_ERR 3) (((List.range 64).map (fun j => 31 + (wLinkFrame 0xC5A3 0x5AC314F1A9) / 2 ^ j % 2 * 2 ^ 30 + revBits 8 (wireCrc (31 + (wLinkFrame 0xC5A3 0x5AC314F1A9) / 2 ^ j % 2 * 2 ^ 30)) * 2 ^ 42) : List Nat).filter (fun w => !wireCrcOk w)).length), (LANE_STATUS_RSSI 3, bits (stsFrame ((List.range 64).map (fun j => 31 + (wLinkFrame 0xC5A3 0x5AC314F1A9) / 2 ^ j % 2 * 2 ^ 30 + revBits 8 (wireCrc (31 + (wLinkFrame 0xC5A3 0x5AC314F1A9) / 2 ^ j % 2 * 2 ^ 30)) * 2 ^ 42))) 23 16), (LANE_STATUS_SYNTH_LOCK 3, bits (stsFrame ((List.range 64).map (fun j => 31 + (wLinkFrame 0xC5A3 0x5AC314F1A9) / 2 ^ j % 2 * 2 ^ 30 + revBits 8 (wireCrc (31 + (wLinkFrame 0xC5A3 0x5AC314F1A9) / 2 ^ j % 2 * 2 ^ 30)) * 2 ^ 42))) 24 24), (LANE_STATUS_PA_ALARM 3, bits (stsFrame ((List.range 64).map (fun j => 31 + (wLinkFrame 0xC5A3 0x5AC314F1A9) / 2 ^ j % 2 * 2 ^ 30 + revBits 8 (wireCrc (31 + (wLinkFrame 0xC5A3 0x5AC314F1A9) / 2 ^ j % 2 * 2 ^ 30)) * 2 ^ 42))) 25 25), (LANE_STATUS_CTL_ACK 3, bits (stsFrame ((List.range 64).map (fun j => 31 + (wLinkFrame 0xC5A3 0x5AC314F1A9) / 2 ^ j % 2 * 2 ^ 30 + revBits 8 (wireCrc (31 + (wLinkFrame 0xC5A3 0x5AC314F1A9) / 2 ^ j % 2 * 2 ^ 30)) * 2 ^ 42))) 55 48), ((if bits (stsFrame ((List.range 64).map (fun j => 31 + (wLinkFrame 0xC5A3 0x5AC314F1A9) / 2 ^ j % 2 * 2 ^ 30 + revBits 8 (wireCrc (31 + (wLinkFrame 0xC5A3 0x5AC314F1A9) / 2 ^ j % 2 * 2 ^ 30)) * 2 ^ 42))) 28 26 % 2 = 0 then LANE_CAP_WORD_LO 3 (bits (stsFrame ((List.range 64).map (fun j => 31 + (wLinkFrame 0xC5A3 0x5AC314F1A9) / 2 ^ j % 2 * 2 ^ 30 + revBits 8 (wireCrc (31 + (wLinkFrame 0xC5A3 0x5AC314F1A9) / 2 ^ j % 2 * 2 ^ 30)) * 2 ^ 42))) 28 26 / 2) else LANE_CAP_WORD_HI 3 (bits (stsFrame ((List.range 64).map (fun j => 31 + (wLinkFrame 0xC5A3 0x5AC314F1A9) / 2 ^ j % 2 * 2 ^ 30 + revBits 8 (wireCrc (31 + (wLinkFrame 0xC5A3 0x5AC314F1A9) / 2 ^ j % 2 * 2 ^ 30)) * 2 ^ 42))) 28 26 / 2)), bits (stsFrame ((List.range 64).map (fun j => 31 + (wLinkFrame 0xC5A3 0x5AC314F1A9) / 2 ^ j % 2 * 2 ^ 30 + revBits 8 (wireCrc (31 + (wLinkFrame 0xC5A3 0x5AC314F1A9) / 2 ^ j % 2 * 2 ^ 30)) * 2 ^ 42))) 47 32), (LANE_STATUS_STATE 3, 4), (LANE_STATUS_CAUSE 3, 1)]) ∧ (t.lane 3 = capPush ({ ((List.range 64).map (fun j => 31 + (wLinkFrame 0xC5A3 0x5AC314F1A9) / 2 ^ j % 2 * 2 ^ 30 + revBits 8 (wireCrc (31 + (wLinkFrame 0xC5A3 0x5AC314F1A9) / 2 ^ j % 2 * 2 ^ 30)) * 2 ^ 42)).foldl LaneState.lockWord ({ link := 2, clkOk := true } : LaneState) with rx := ((List.range 64).map (fun j => 31 + (wLinkFrame 0xC5A3 0x5AC314F1A9) / 2 ^ j % 2 * 2 ^ 30 + revBits 8 (wireCrc (31 + (wLinkFrame 0xC5A3 0x5AC314F1A9) / 2 ^ j % 2 * 2 ^ 30)) * 2 ^ 42)).map rxdSample } : LaneState) (bits (stsFrame ((List.range 64).map (fun j => 31 + (wLinkFrame 0xC5A3 0x5AC314F1A9) / 2 ^ j % 2 * 2 ^ 30 + revBits 8 (wireCrc (31 + (wLinkFrame 0xC5A3 0x5AC314F1A9) / 2 ^ j % 2 * 2 ^ 30)) * 2 ^ 42))) 28 26) (bits (stsFrame ((List.range 64).map (fun j => 31 + (wLinkFrame 0xC5A3 0x5AC314F1A9) / 2 ^ j % 2 * 2 ^ 30 + revBits 8 (wireCrc (31 + (wLinkFrame 0xC5A3 0x5AC314F1A9) / 2 ^ j % 2 * 2 ^ 30)) * 2 ^ 42))) 47 32)) ∧ (ReserveJudged w_laneStatusFrame_fault t))
    | _ => false) = true := by decide +kernel

theorem test_laneStatusFrame_none : ((wReset.stopSafe = true) ∧ (8 ≤ 3 ∨ wReset.bit (LANE_CFG_EN 3) = false)) ∧ (match exec (.laneStatusFrame 3 ([31] : List Nat)) wReset with
    | .next t => decide ((t.radio = wReset.radio))
    | _ => false) = true := by decide +kernel

def w_trxControlApply : State := { (at_ [(LANE_CFG_EN 3, 1)]) with radio := { lanes := [(3, { ctl := 77, seq := 4 })] }, trx := [(3, { pend := some (5, 6) })] }

theorem test_trxControlApply : ((w_trxControlApply.stopSafe = true) ∧ (3 < 8) ∧ (w_trxControlApply.bit (LANE_CFG_EN 3) = true) ∧ (({ pend := some (5, 6) } : TrxExt) = ((w_trxControlApply.trx.find? (fun (x : Nat × TrxExt) => x.1 == 3)).map (·.2)).getD {}) ∧ ((some (77, 4) : Option (Nat × Nat)) = (if linkFrameOk 0x3A5C ((w_trxControlApply.lane 3).ctlFrame ^^^ (0 % 2 ^ 64)) then some ((w_trxControlApply.lane 3).ctl, (w_trxControlApply.lane 3).seq) else ({ pend := some (5, 6) } : TrxExt).pend))) ∧ (match exec (.trxControlApply 3 0) w_trxControlApply with
    | .next t => decide ((t.trx = w_trxControlApply.trx.filter (fun (x : Nat × TrxExt) => x.1 ≠ 3) ++ [(3, { pend := none, cur := (some (77, 4) : Option (Nat × Nat)).orElse (fun _ => ({ pend := some (5, 6) } : TrxExt).cur) })]) ∧ (t.out = w_trxControlApply.out ++ [Output.laneTx 3 (w_trxControlApply.lane 3).ctlWords]))
    | _ => false) = true := by decide +kernel

theorem test_trxControlApply_none : ((wReset.stopSafe = true) ∧ (8 ≤ 3 ∨ wReset.bit (LANE_CFG_EN 3) = false)) ∧ (match exec (.trxControlApply 3 5) wReset with
    | .next t => decide ((t.trx = wReset.trx))
    | _ => false) = true := by decide +kernel

def w_hopCompute : State := { wRun [(NET_K0_HI_VALID, 1), (KS_SLOT_W0_TYPE 5, 1), (KS_SLOT_W0_USE 5, 4), (KS_SLOT_W1_GEN 5, 1)] with ks := { vals := [(5, List.replicate 16 7)] }, time := { State.reset.time with grid := true, k := 1000, sec := 315964819, gridNs := 0 }, radio := { hop := some { lanes := 0x90, keySlot := 5, iv := 1, excl := [0, 0, 0], profs := List.replicate 8 0, ver := 1 } } }

theorem test_hopCompute : ((w_hopCompute.stopSafe = true) ∧ (w_hopCompute.domOff 8 = false) ∧ (w_hopCompute.time.grid = true) ∧ (1 = w_hopCompute.slotNextOf 0) ∧ (1000 = w_hopCompute.nextK 1) ∧ (w_hopCompute.hopFor 1000 = some ({ lanes := 0x90, keySlot := 5, iv := 1, excl := [0, 0, 0], profs := List.replicate 8 0, ver := 1 } : HopSet)) ∧ (w_hopCompute.sfnAt 1000 = some 1000) ∧ (w_hopCompute.radio.hopAt0 ≠ some (1000, 1)) ∧ ((List.range 8).any (fun l => bitOf ({ lanes := 0x90, keySlot := 5, iv := 1, excl := [0, 0, 0], profs := List.replicate 8 0, ver := 1 } : HopSet).lanes l && w_hopCompute.prof l == 0) = true) ∧ (w_hopCompute.hopKey ({ lanes := 0x90, keySlot := 5, iv := 1, excl := [0, 0, 0], profs := List.replicate 8 0, ver := 1 } : HopSet) (assocSlot 0 1000 1) = some (List.replicate 16 7 : List Nat)) ∧ ((State.slotPicks ({ wRun [(NET_K0_HI_VALID, 1), (KS_SLOT_W0_TYPE 5, 1), (KS_SLOT_W0_USE 5, 4), (KS_SLOT_W1_GEN 5, 1)] with ks := { vals := [(5, List.replicate 16 7)] }, time := { State.reset.time with grid := true, k := 1000, sec := 315964819, gridNs := 0 }, radio := { hop := some { lanes := 0x90, keySlot := 5, iv := 1, excl := [0, 0, 0], profs := List.replicate 8 0, ver := 1 } } }) { lanes := 0x90, keySlot := 5, iv := 1, excl := [0, 0, 0], profs := List.replicate 8 0, ver := 1 } (List.replicate 16 7) 0 1000 1000 1 : List (Nat × Nat)) = w_hopCompute.slotPicks ({ lanes := 0x90, keySlot := 5, iv := 1, excl := [0, 0, 0], profs := List.replicate 8 0, ver := 1 } : HopSet) (List.replicate 16 7 : List Nat) 0 1000 1000 1)) ∧ (match exec (.hopCompute false) w_hopCompute with
    | .next t => decide ((t.radio = { (w_hopCompute.hopNote 1000 (assocSlot 0 1000 1) true).radio with hopAt0 := some (1000, 1), chans := w_hopCompute.chansKept ({ lanes := 0x90, keySlot := 5, iv := 1, excl := [0, 0, 0], profs := List.replicate 8 0, ver := 1 } : HopSet) 0 1 ++ (State.slotPicks ({ wRun [(NET_K0_HI_VALID, 1), (KS_SLOT_W0_TYPE 5, 1), (KS_SLOT_W0_USE 5, 4), (KS_SLOT_W1_GEN 5, 1)] with ks := { vals := [(5, List.replicate 16 7)] }, time := { State.reset.time with grid := true, k := 1000, sec := 315964819, gridNs := 0 }, radio := { hop := some { lanes := 0x90, keySlot := 5, iv := 1, excl := [0, 0, 0], profs := List.replicate 8 0, ver := 1 } } }) { lanes := 0x90, keySlot := 5, iv := 1, excl := [0, 0, 0], profs := List.replicate 8 0, ver := 1 } (List.replicate 16 7) 0 1000 1000 1 : List (Nat × Nat)).map (fun e => ({ lane := e.1, k := 1000, slot := 1, ch := e.2 } : HopChan)), lanes := ((State.slotPicks ({ wRun [(NET_K0_HI_VALID, 1), (KS_SLOT_W0_TYPE 5, 1), (KS_SLOT_W0_USE 5, 4), (KS_SLOT_W1_GEN 5, 1)] with ks := { vals := [(5, List.replicate 16 7)] }, time := { State.reset.time with grid := true, k := 1000, sec := 315964819, gridNs := 0 }, radio := { hop := some { lanes := 0x90, keySlot := 5, iv := 1, excl := [0, 0, 0], profs := List.replicate 8 0, ver := 1 } } }) { lanes := 0x90, keySlot := 5, iv := 1, excl := [0, 0, 0], profs := List.replicate 8 0, ver := 1 } (List.replicate 16 7) 0 1000 1000 1 : List (Nat × Nat)).foldl (fun u e => u.setCtl e.1 (ctlWord (chanKHz 0 e.2) 1 (w_hopCompute.get (LANE_CFG_PWR e.1)))) w_hopCompute).radio.lanes }) ∧ ((State.slotPicks ({ wRun [(NET_K0_HI_VALID, 1), (KS_SLOT_W0_TYPE 5, 1), (KS_SLOT_W0_USE 5, 4), (KS_SLOT_W1_GEN 5, 1)] with ks := { vals := [(5, List.replicate 16 7)] }, time := { State.reset.time with grid := true, k := 1000, sec := 315964819, gridNs := 0 }, radio := { hop := some { lanes := 0x90, keySlot := 5, iv := 1, excl := [0, 0, 0], profs := List.replicate 8 0, ver := 1 } } }) { lanes := 0x90, keySlot := 5, iv := 1, excl := [0, 0, 0], profs := List.replicate 8 0, ver := 1 } (List.replicate 16 7) 0 1000 1000 1 : List (Nat × Nat)).all (fun e => ((State.slotPicks ({ wRun [(NET_K0_HI_VALID, 1), (KS_SLOT_W0_TYPE 5, 1), (KS_SLOT_W0_USE 5, 4), (KS_SLOT_W1_GEN 5, 1)] with ks := { vals := [(5, List.replicate 16 7)] }, time := { State.reset.time with grid := true, k := 1000, sec := 315964819, gridNs := 0 }, radio := { hop := some { lanes := 0x90, keySlot := 5, iv := 1, excl := [0, 0, 0], profs := List.replicate 8 0, ver := 1 } } }) { lanes := 0x90, keySlot := 5, iv := 1, excl := [0, 0, 0], profs := List.replicate 8 0, ver := 1 } (List.replicate 16 7) 0 1000 1000 1 : List (Nat × Nat)).filter (fun x => x.1 == e.1)).length != 1 || (t.lane e.1).ctl == ctlWord (chanKHz 0 e.2) 1 (w_hopCompute.get (LANE_CFG_PWR e.1))) = true))
    | _ => false) = true := by decide +kernel

def w_hopCompute_fail : State := { wRun [(NET_K0_HI_VALID, 1)] with ks := { vals := [(5, List.replicate 16 7)] }, time := { State.reset.time with grid := true, k := 1000, sec := 315964819, gridNs := 0 }, radio := { hop := some { lanes := 0x90, keySlot := 5, iv := 1, excl := [0, 0, 0], profs := List.replicate 8 0, ver := 1 } } }

theorem test_hopCompute_fail : ((w_hopCompute_fail.stopSafe = true) ∧ (w_hopCompute_fail.domOff 8 = false) ∧ (w_hopCompute_fail.time.grid = true) ∧ (1 = w_hopCompute_fail.slotNextOf 0) ∧ (1000 = w_hopCompute_fail.nextK 1) ∧ (w_hopCompute_fail.hopFor 1000 = some ({ lanes := 0x90, keySlot := 5, iv := 1, excl := [0, 0, 0], profs := List.replicate 8 0, ver := 1 } : HopSet)) ∧ (w_hopCompute_fail.sfnAt 1000 = some 1000) ∧ (w_hopCompute_fail.radio.hopAt0 ≠ some (1000, 1)) ∧ ((List.range 8).any (fun l => bitOf ({ lanes := 0x90, keySlot := 5, iv := 1, excl := [0, 0, 0], profs := List.replicate 8 0, ver := 1 } : HopSet).lanes l && w_hopCompute_fail.prof l == 0) = true) ∧ (w_hopCompute_fail.hopKey ({ lanes := 0x90, keySlot := 5, iv := 1, excl := [0, 0, 0], profs := List.replicate 8 0, ver := 1 } : HopSet) (assocSlot 0 1000 1) = none)) ∧ (match exec (.hopCompute false) w_hopCompute_fail with
    | .next t => decide ((Reads t [(HOP_CTRL_HOP_FAIL, 1), (KS_CNT_ORPHAN_ABORTS, (w_hopCompute_fail.keyAbort (if assocSlot 0 1000 1 then w_hopCompute_fail.get MAC_KEYS_JOIN_KEY_SLOT else ({ lanes := 0x90, keySlot := 5, iv := 1, excl := [0, 0, 0], profs := List.replicate 8 0, ver := 1 } : HopSet).keySlot) 1 2).get KS_CNT_ORPHAN_ABORTS)]) ∧ (t.radio = { (w_hopCompute_fail.hopNote 1000 (assocSlot 0 1000 1) false).radio with hopAt0 := some (1000, 1), chans := w_hopCompute_fail.chansKept ({ lanes := 0x90, keySlot := 5, iv := 1, excl := [0, 0, 0], profs := List.replicate 8 0, ver := 1 } : HopSet) 0 1 }) ∧ (t.evr = ((w_hopCompute_fail.keyAbort (if assocSlot 0 1000 1 then w_hopCompute_fail.get MAC_KEYS_JOIN_KEY_SLOT else ({ lanes := 0x90, keySlot := 5, iv := 1, excl := [0, 0, 0], profs := List.replicate 8 0, ver := 1 } : HopSet).keySlot) 1 2).record .hopFail (leBytes 4 1000 ++ [1, 0])).evr))
    | _ => false) = true := by decide +kernel

def w_hopCompute_sub : State := { wRun [(NET_K0_HI_VALID, 1), (KS_SLOT_W0_TYPE 5, 1), (KS_SLOT_W0_USE 5, 4), (KS_SLOT_W1_GEN 5, 1), (LANE_CFG_PROFILE 4, 1), (LANE_CFG_PROFILE 7, 1)] with ks := { vals := [(5, List.replicate 16 7)] }, time := { State.reset.time with grid := true, k := 1000, sec := 315964819, gridNs := 0 }, radio := { hop := some { lanes := 0x90, keySlot := 5, iv := 1, excl := [0, 0, 0], profs := List.replicate 8 1, ver := 1 } } }

theorem test_hopCompute_sub : ((w_hopCompute_sub.stopSafe = true) ∧ (w_hopCompute_sub.domOff 8 = false) ∧ (w_hopCompute_sub.time.grid = true) ∧ (1 = w_hopCompute_sub.slotNextOf 1) ∧ (1000 = w_hopCompute_sub.nextK 1) ∧ (w_hopCompute_sub.hopFor 1000 = some ({ lanes := 0x90, keySlot := 5, iv := 1, excl := [0, 0, 0], profs := List.replicate 8 1, ver := 1 } : HopSet)) ∧ (w_hopCompute_sub.sfnAt 1000 = some 1000) ∧ (1 = 1 ∨ 1 = 2) ∧ ((List.range 8).all (fun l => !bitOf ({ lanes := 0x90, keySlot := 5, iv := 1, excl := [0, 0, 0], profs := List.replicate 8 1, ver := 1 } : HopSet).lanes l || w_hopCompute_sub.prof l != 3 - 1) = true) ∧ (w_hopCompute_sub.radio.hopAtS ≠ some (1000, 1)) ∧ ((List.range 8).any (fun l => bitOf ({ lanes := 0x90, keySlot := 5, iv := 1, excl := [0, 0, 0], profs := List.replicate 8 1, ver := 1 } : HopSet).lanes l && w_hopCompute_sub.prof l == 1) = true) ∧ (w_hopCompute_sub.hopKey ({ lanes := 0x90, keySlot := 5, iv := 1, excl := [0, 0, 0], profs := List.replicate 8 1, ver := 1 } : HopSet) (assocSlot 1 1000 1) = some (List.replicate 16 7 : List Nat)) ∧ ((State.slotPicks ({ wRun [(NET_K0_HI_VALID, 1), (KS_SLOT_W0_TYPE 5, 1), (KS_SLOT_W0_USE 5, 4), (KS_SLOT_W1_GEN 5, 1), (LANE_CFG_PROFILE 4, 1), (LANE_CFG_PROFILE 7, 1)] with ks := { vals := [(5, List.replicate 16 7)] }, time := { State.reset.time with grid := true, k := 1000, sec := 315964819, gridNs := 0 }, radio := { hop := some { lanes := 0x90, keySlot := 5, iv := 1, excl := [0, 0, 0], profs := List.replicate 8 1, ver := 1 } } }) { lanes := 0x90, keySlot := 5, iv := 1, excl := [0, 0, 0], profs := List.replicate 8 1, ver := 1 } (List.replicate 16 7) 1 1000 1000 1 : List (Nat × Nat)) = w_hopCompute_sub.slotPicks ({ lanes := 0x90, keySlot := 5, iv := 1, excl := [0, 0, 0], profs := List.replicate 8 1, ver := 1 } : HopSet) (List.replicate 16 7 : List Nat) 1 1000 1000 1)) ∧ (match exec (.hopCompute true) w_hopCompute_sub with
    | .next t => decide ((t.radio = { (w_hopCompute_sub.hopNote 1000 (assocSlot 1 1000 1) true).radio with hopAtS := some (1000, 1), chans := w_hopCompute_sub.chansKept ({ lanes := 0x90, keySlot := 5, iv := 1, excl := [0, 0, 0], profs := List.replicate 8 1, ver := 1 } : HopSet) 1 1 ++ (State.slotPicks ({ wRun [(NET_K0_HI_VALID, 1), (KS_SLOT_W0_TYPE 5, 1), (KS_SLOT_W0_USE 5, 4), (KS_SLOT_W1_GEN 5, 1), (LANE_CFG_PROFILE 4, 1), (LANE_CFG_PROFILE 7, 1)] with ks := { vals := [(5, List.replicate 16 7)] }, time := { State.reset.time with grid := true, k := 1000, sec := 315964819, gridNs := 0 }, radio := { hop := some { lanes := 0x90, keySlot := 5, iv := 1, excl := [0, 0, 0], profs := List.replicate 8 1, ver := 1 } } }) { lanes := 0x90, keySlot := 5, iv := 1, excl := [0, 0, 0], profs := List.replicate 8 1, ver := 1 } (List.replicate 16 7) 1 1000 1000 1 : List (Nat × Nat)).map (fun e => ({ lane := e.1, k := 1000, slot := 1, ch := e.2 } : HopChan)), lanes := ((State.slotPicks ({ wRun [(NET_K0_HI_VALID, 1), (KS_SLOT_W0_TYPE 5, 1), (KS_SLOT_W0_USE 5, 4), (KS_SLOT_W1_GEN 5, 1), (LANE_CFG_PROFILE 4, 1), (LANE_CFG_PROFILE 7, 1)] with ks := { vals := [(5, List.replicate 16 7)] }, time := { State.reset.time with grid := true, k := 1000, sec := 315964819, gridNs := 0 }, radio := { hop := some { lanes := 0x90, keySlot := 5, iv := 1, excl := [0, 0, 0], profs := List.replicate 8 1, ver := 1 } } }) { lanes := 0x90, keySlot := 5, iv := 1, excl := [0, 0, 0], profs := List.replicate 8 1, ver := 1 } (List.replicate 16 7) 1 1000 1000 1 : List (Nat × Nat)).foldl (fun u e => u.setCtl e.1 (ctlWord (chanKHz 1 e.2) 1 (w_hopCompute_sub.get (LANE_CFG_PWR e.1)))) w_hopCompute_sub).radio.lanes }) ∧ ((State.slotPicks ({ wRun [(NET_K0_HI_VALID, 1), (KS_SLOT_W0_TYPE 5, 1), (KS_SLOT_W0_USE 5, 4), (KS_SLOT_W1_GEN 5, 1), (LANE_CFG_PROFILE 4, 1), (LANE_CFG_PROFILE 7, 1)] with ks := { vals := [(5, List.replicate 16 7)] }, time := { State.reset.time with grid := true, k := 1000, sec := 315964819, gridNs := 0 }, radio := { hop := some { lanes := 0x90, keySlot := 5, iv := 1, excl := [0, 0, 0], profs := List.replicate 8 1, ver := 1 } } }) { lanes := 0x90, keySlot := 5, iv := 1, excl := [0, 0, 0], profs := List.replicate 8 1, ver := 1 } (List.replicate 16 7) 1 1000 1000 1 : List (Nat × Nat)).all (fun e => ((State.slotPicks ({ wRun [(NET_K0_HI_VALID, 1), (KS_SLOT_W0_TYPE 5, 1), (KS_SLOT_W0_USE 5, 4), (KS_SLOT_W1_GEN 5, 1), (LANE_CFG_PROFILE 4, 1), (LANE_CFG_PROFILE 7, 1)] with ks := { vals := [(5, List.replicate 16 7)] }, time := { State.reset.time with grid := true, k := 1000, sec := 315964819, gridNs := 0 }, radio := { hop := some { lanes := 0x90, keySlot := 5, iv := 1, excl := [0, 0, 0], profs := List.replicate 8 1, ver := 1 } } }) { lanes := 0x90, keySlot := 5, iv := 1, excl := [0, 0, 0], profs := List.replicate 8 1, ver := 1 } (List.replicate 16 7) 1 1000 1000 1 : List (Nat × Nat)).filter (fun x => x.1 == e.1)).length != 1 || (t.lane e.1).ctl == ctlWord (chanKHz 1 e.2) 1 (w_hopCompute_sub.get (LANE_CFG_PWR e.1))) = true))
    | _ => false) = true := by decide +kernel

def w_hopCompute_sub_fail : State := { wRun [(NET_K0_HI_VALID, 1), (KS_SLOT_W0_TYPE 5, 2), (KS_SLOT_W0_USE 5, 4), (KS_SLOT_W1_GEN 5, 1), (LANE_CFG_PROFILE 4, 1), (LANE_CFG_PROFILE 7, 1)] with ks := { vals := [(5, List.replicate 16 7)] }, time := { State.reset.time with grid := true, k := 1000, sec := 315964819, gridNs := 0 }, radio := { hop := some { lanes := 0x90, keySlot := 5, iv := 1, excl := [0, 0, 0], profs := List.replicate 8 1, ver := 1 } } }

theorem test_hopCompute_sub_fail : ((w_hopCompute_sub_fail.stopSafe = true) ∧ (w_hopCompute_sub_fail.domOff 8 = false) ∧ (w_hopCompute_sub_fail.time.grid = true) ∧ (1 = w_hopCompute_sub_fail.slotNextOf 1) ∧ (1000 = w_hopCompute_sub_fail.nextK 1) ∧ (w_hopCompute_sub_fail.hopFor 1000 = some ({ lanes := 0x90, keySlot := 5, iv := 1, excl := [0, 0, 0], profs := List.replicate 8 1, ver := 1 } : HopSet)) ∧ (w_hopCompute_sub_fail.sfnAt 1000 = some 1000) ∧ (1 = 1 ∨ 1 = 2) ∧ ((List.range 8).all (fun l => !bitOf ({ lanes := 0x90, keySlot := 5, iv := 1, excl := [0, 0, 0], profs := List.replicate 8 1, ver := 1 } : HopSet).lanes l || w_hopCompute_sub_fail.prof l != 3 - 1) = true) ∧ (w_hopCompute_sub_fail.radio.hopAtS ≠ some (1000, 1)) ∧ ((List.range 8).any (fun l => bitOf ({ lanes := 0x90, keySlot := 5, iv := 1, excl := [0, 0, 0], profs := List.replicate 8 1, ver := 1 } : HopSet).lanes l && w_hopCompute_sub_fail.prof l == 1) = true) ∧ (w_hopCompute_sub_fail.hopKey ({ lanes := 0x90, keySlot := 5, iv := 1, excl := [0, 0, 0], profs := List.replicate 8 1, ver := 1 } : HopSet) (assocSlot 1 1000 1) = none)) ∧ (match exec (.hopCompute true) w_hopCompute_sub_fail with
    | .next t => decide ((Reads t [(HOP_CTRL_HOP_FAIL, 1), (KS_CNT_ORPHAN_ABORTS, (w_hopCompute_sub_fail.keyAbort (if assocSlot 1 1000 1 then w_hopCompute_sub_fail.get MAC_KEYS_JOIN_KEY_SLOT else ({ lanes := 0x90, keySlot := 5, iv := 1, excl := [0, 0, 0], profs := List.replicate 8 1, ver := 1 } : HopSet).keySlot) 1 2).get KS_CNT_ORPHAN_ABORTS)]) ∧ (t.radio = { (w_hopCompute_sub_fail.hopNote 1000 (assocSlot 1 1000 1) false).radio with hopAtS := some (1000, 1), chans := w_hopCompute_sub_fail.chansKept ({ lanes := 0x90, keySlot := 5, iv := 1, excl := [0, 0, 0], profs := List.replicate 8 1, ver := 1 } : HopSet) 1 1 }) ∧ (t.evr = ((w_hopCompute_sub_fail.keyAbort (if assocSlot 1 1000 1 then w_hopCompute_sub_fail.get MAC_KEYS_JOIN_KEY_SLOT else ({ lanes := 0x90, keySlot := 5, iv := 1, excl := [0, 0, 0], profs := List.replicate 8 1, ver := 1 } : HopSet).keySlot) 1 2).record .hopFail (leBytes 4 1000 ++ [1, 1])).evr))
    | _ => false) = true := by decide +kernel

def w_hopCompute_nobody : State := { wRun [(NET_K0_HI_VALID, 1), (KS_SLOT_W0_TYPE 5, 1), (KS_SLOT_W0_USE 5, 4), (KS_SLOT_W1_GEN 5, 1)] with ks := { vals := [(5, List.replicate 16 7)] }, time := { State.reset.time with grid := true, k := 1000, sec := 315964819, gridNs := 0 }, radio := { hop := some { lanes := 0x90, keySlot := 5, iv := 1, excl := [0, 0, 0], profs := List.replicate 8 0, ver := 1 } } }

theorem test_hopCompute_nobody : ((w_hopCompute_nobody.stopSafe = true) ∧ (w_hopCompute_nobody.domOff 8 = false) ∧ (w_hopCompute_nobody.time.grid = true) ∧ (1 = w_hopCompute_nobody.slotNextOf (b2n true)) ∧ (1000 = w_hopCompute_nobody.nextK 1) ∧ ((if true then w_hopCompute_nobody.radio.hopAtS else w_hopCompute_nobody.radio.hopAt0) ≠ some (1000, 1)) ∧ (w_hopCompute_nobody.hopFor 1000 = none ∨ w_hopCompute_nobody.sfnAt 1000 = none ∨ (w_hopCompute_nobody.hopFor 1000).any (fun h => (List.range 8).any (fun l => bitOf h.lanes l && (if true then w_hopCompute_nobody.prof l == 1 || w_hopCompute_nobody.prof l == 2 else w_hopCompute_nobody.prof l == 0))) = false)) ∧ (match exec (.hopCompute true) w_hopCompute_nobody with
    | .next t => decide ((t.radio = (if true then { w_hopCompute_nobody.radio with hopAtS := some (1000, 1) } else { w_hopCompute_nobody.radio with hopAt0 := some (1000, 1) })))
    | _ => false) = true := by decide +kernel

def w_hopCompute_both : State := { wRun [(NET_K0_HI_VALID, 1), (KS_SLOT_W0_TYPE 5, 1), (KS_SLOT_W0_USE 5, 4), (KS_SLOT_W1_GEN 5, 1), (LANE_CFG_PROFILE 4, 1), (LANE_CFG_PROFILE 7, 1), (LANE_CFG_PROFILE 4, 2)] with ks := { vals := [(5, List.replicate 16 7)] }, time := { State.reset.time with grid := true, k := 1000, sec := 315964819, gridNs := 0 }, radio := { hop := some { lanes := 0x90, keySlot := 5, iv := 1, excl := [0, 0, 0], profs := List.replicate 8 1, ver := 1 } } }

theorem test_hopCompute_both : (w_hopCompute_both.stopSafe = true) ∧ (w_hopCompute_both.domOff 8 = false) ∧ (w_hopCompute_both.time.grid = true) ∧ (1 = w_hopCompute_both.slotNextOf 1) ∧ (1000 = w_hopCompute_both.nextK 1) ∧ (w_hopCompute_both.radio.hopAtS ≠ some (1000, 1)) := by decide +kernel

theorem test_hopCompute_done : ((wReset.stopSafe = true) ∧ (wReset.domOff 8 = true ∨ wReset.time.grid = false ∨ (if true then wReset.radio.hopAtS = some (wReset.nextK (wReset.slotNextOf 1), wReset.slotNextOf 1) else wReset.radio.hopAt0 = some (wReset.nextK (wReset.slotNextOf 0), wReset.slotNextOf 0)))) ∧ (match exec (.hopCompute true) wReset with
    | .next t => decide ((t.radio = wReset.radio))
    | _ => false) = true := by decide +kernel

def w_hopApply : State := { wRun [(NET_K0_HI_VALID, 1), (HOP_TARGET_SFN, 1009)] with time := { State.reset.time with grid := true, k := 1000 } }

theorem test_hopApply : ((w_hopApply.stopSafe = true) ∧ (MayWrite w_hopApply 0x10 0x40308000) ∧ (bitOf 0xD0900005 31 = true) ∧ ((({ wRun [(NET_K0_HI_VALID, 1), (HOP_TARGET_SFN, 1009), (HOP_CTRL_LANES, 0x90), (HOP_CTRL_KEY_SLOT, 5)] with time := { State.reset.time with grid := true, k := 1000 } }).hopShadow 1 : HopSet) = (w_hopApply.puts [(HOP_CTRL_LANES, bits 0xD0900005 23 16), (HOP_CTRL_KEY_SLOT, bits 0xD0900005 8 0)]).hopShadow ((w_hopApply.radio.hopVer + 1) % 65536)) ∧ ((w_hopApply.puts [(HOP_CTRL_LANES, bits 0xD0900005 23 16), (HOP_CTRL_KEY_SLOT, bits 0xD0900005 8 0)]).hopRefused (({ wRun [(NET_K0_HI_VALID, 1), (HOP_TARGET_SFN, 1009), (HOP_CTRL_LANES, 0x90), (HOP_CTRL_KEY_SLOT, 5)] with time := { State.reset.time with grid := true, k := 1000 } }).hopShadow 1 : HopSet) = false)) ∧ (match exec (.hopApply 0x10 0xD0900005) w_hopApply with
    | .next t => decide ((Reads t [(HOP_CTRL_PENDING, 1), (HOP_CTRL_REFUSED, if bitOf 0xD0900005 30 then 0 else w_hopApply.get HOP_CTRL_REFUSED), (HOP_CTRL_LANES, bits 0xD0900005 23 16), (HOP_CTRL_KEY_SLOT, bits 0xD0900005 8 0), (HOP_CTRL_HOP_FAIL, if bitOf 0xD0900005 28 then 0 else w_hopApply.get HOP_CTRL_HOP_FAIL)]) ∧ (t.radio = { w_hopApply.radio with pend := some ((({ wRun [(NET_K0_HI_VALID, 1), (HOP_TARGET_SFN, 1009), (HOP_CTRL_LANES, 0x90), (HOP_CTRL_KEY_SLOT, 5)] with time := { State.reset.time with grid := true, k := 1000 } }).hopShadow 1 : HopSet), w_hopApply.get HOP_TARGET_SFN), hopVer := (w_hopApply.radio.hopVer + 1) % 65536, hopSeq := dseqNext w_hopApply.radio.bseq, bseq := dseqNext (dseqNext w_hopApply.radio.bseq) }))
    | _ => false) = true := by decide +kernel

def w_hopApply_refused : State := { wRun [(NET_K0_HI_VALID, 1), (HOP_TARGET_SFN, 1008)] with time := { State.reset.time with grid := true, k := 1000 } }

theorem test_hopApply_refused : ((w_hopApply_refused.stopSafe = true) ∧ (MayWrite w_hopApply_refused 0x10 0x40308000) ∧ (bitOf 0x80900005 31 = true) ∧ ((({ wRun [(NET_K0_HI_VALID, 1), (HOP_TARGET_SFN, 1008), (HOP_CTRL_LANES, 0x90), (HOP_CTRL_KEY_SLOT, 5)] with time := { State.reset.time with grid := true, k := 1000 } }).hopShadow 1 : HopSet) = (w_hopApply_refused.puts [(HOP_CTRL_LANES, bits 0x80900005 23 16), (HOP_CTRL_KEY_SLOT, bits 0x80900005 8 0)]).hopShadow ((w_hopApply_refused.radio.hopVer + 1) % 65536)) ∧ ((w_hopApply_refused.puts [(HOP_CTRL_LANES, bits 0x80900005 23 16), (HOP_CTRL_KEY_SLOT, bits 0x80900005 8 0)]).hopRefused (({ wRun [(NET_K0_HI_VALID, 1), (HOP_TARGET_SFN, 1008), (HOP_CTRL_LANES, 0x90), (HOP_CTRL_KEY_SLOT, 5)] with time := { State.reset.time with grid := true, k := 1000 } }).hopShadow 1 : HopSet) = true)) ∧ (match exec (.hopApply 0x10 0x80900005) w_hopApply_refused with
    | .next t => decide ((Reads t [(HOP_CTRL_REFUSED, 1), (HOP_CTRL_LANES, bits 0x80900005 23 16), (HOP_CTRL_KEY_SLOT, bits 0x80900005 8 0), (HOP_CTRL_HOP_FAIL, if bitOf 0x80900005 28 then 0 else w_hopApply_refused.get HOP_CTRL_HOP_FAIL)]))
    | _ => false) = true := by decide +kernel

def w_budgetBucketRoll : State := { (at_ [(ACCT_W1_BUCKET_MS 127, 60)]) with ply := 12000, radio := { accts := [(127, { cur := (5, 6), old := List.replicate 58 (1, 0) ++ [(100, 200)] })] } }

theorem test_budgetBucketRoll : ((w_budgetBucketRoll.stopSafe = true) ∧ (127 < 128) ∧ (w_budgetBucketRoll.get (ACCT_W1_BUCKET_MS 127) ≠ 0) ∧ (w_budgetBucketRoll.ply % (w_budgetBucketRoll.get (ACCT_W1_BUCKET_MS 127) * 100) = 0) ∧ ((w_budgetBucketRoll.hist 127).rolled ≠ some w_budgetBucketRoll.ply) ∧ (({ cur := (0, 0), old := (5, 6) :: List.replicate 58 (1, 0), rolled := some 12000 } : AcctHist) = { w_budgetBucketRoll.hist 127 with cur := (0, 0), old := ((w_budgetBucketRoll.hist 127).cur :: (w_budgetBucketRoll.hist 127).old).take 59, rolled := some w_budgetBucketRoll.ply })) ∧ (match exec (.budgetBucketRoll 127) w_budgetBucketRoll with
    | .next t => decide ((t.hist 127 = ({ cur := (0, 0), old := (5, 6) :: List.replicate 58 (1, 0), rolled := some 12000 } : AcctHist)) ∧ (Reads t [(ACCT_W5_ORD_SUM 127, (({ cur := (0, 0), old := (5, 6) :: List.replicate 58 (1, 0), rolled := some 12000 } : AcctHist)).ord % 2 ^ 32), (ACCT_W6_STOP_SUM 127, (({ cur := (0, 0), old := (5, 6) :: List.replicate 58 (1, 0), rolled := some 12000 } : AcctHist)).stop % 2 ^ 32)]) ∧ (ReserveJudged w_budgetBucketRoll t))
    | _ => false) = true := by decide +kernel

theorem test_budgetBucketRoll_none : ((wReset.stopSafe = true) ∧ (128 ≤ 127 ∨ wReset.get (ACCT_W1_BUCKET_MS 127) = 0 ∨ wReset.ply % (wReset.get (ACCT_W1_BUCKET_MS 127) * 100) ≠ 0 ∨ (wReset.hist 127).rolled = some wReset.ply)) ∧ (match exec (.budgetBucketRoll 127) wReset with
    | .next t => decide ((t.radio = wReset.radio))
    | _ => false) = true := by decide +kernel

def w_accountEnable : State := at_ [(ACCT_W1_BUCKET_MS 1, 1000), (ACCT_W2_LIMIT_US 1, 36000), (ACCT_W3_RESERVE_US 1, 3600)]

theorem test_accountEnable : ((w_accountEnable.stopSafe = true) ∧ (1 < 128) ∧ (MayWrite w_accountEnable 0x10 (0x40309000 + 0x20 * 1)) ∧ (bitOf 0x809C0100 31 = true) ∧ (bits 0x809C0100 30 29 ≠ 3) ∧ (w_accountEnable.bit ACCT_CTRL_LOCK = false) ∧ (w_accountEnable.bit (ACCT_W0_EN 1) = false) ∧ (w_accountEnable.get (ACCT_W1_BUCKET_MS 1) ≠ 0) ∧ ((w_accountEnable.hist 1).started = false)) ∧ (match exec (.accountEnable 0x10 1 0x809C0100) w_accountEnable with
    | .next t => decide ((Reads t [(ACCT_W0_EN 1, 1), (ACCT_W0_PROFILE 1, bits 0x809C0100 30 29), (ACCT_W0_CH_HI 1, bits 0x809C0100 24 17), (ACCT_W0_CH_LO 1, bits 0x809C0100 16 9), (ACCT_W0_WEIGHT 1, bits 0x809C0100 8 0), (ACCT_W5_ORD_SUM 1, (w_accountEnable.startHist 1).ord % 2 ^ 32), (ACCT_W6_STOP_SUM 1, (w_accountEnable.startHist 1).stop % 2 ^ 32)]) ∧ (t.hist 1 = w_accountEnable.startHist 1) ∧ (LanesJudged w_accountEnable t) ∧ (ReserveJudged w_accountEnable t))
    | _ => false) = true := by decide +kernel

def w_accountEnable_again : State := { (at_ [(ACCT_W1_BUCKET_MS 1, 1000)]) with radio := { accts := [(1, { started := true })] } }

theorem test_accountEnable_again : ((w_accountEnable_again.stopSafe = true) ∧ (1 < 128) ∧ (MayWrite w_accountEnable_again 0x10 (0x40309000 + 0x20 * 1)) ∧ (bitOf 0x809C0100 31 = true) ∧ (bits 0x809C0100 30 29 ≠ 3) ∧ (w_accountEnable_again.bit ACCT_CTRL_LOCK = false) ∧ (w_accountEnable_again.bit (ACCT_W0_EN 1) = false) ∧ (w_accountEnable_again.get (ACCT_W1_BUCKET_MS 1) ≠ 0) ∧ ((w_accountEnable_again.hist 1).started = true)) ∧ (match exec (.accountEnable 0x10 1 0x809C0100) w_accountEnable_again with
    | .next t => decide ((Reads t [(ACCT_W0_EN 1, 1), (ACCT_W0_PROFILE 1, bits 0x809C0100 30 29), (ACCT_W0_CH_HI 1, bits 0x809C0100 24 17), (ACCT_W0_CH_LO 1, bits 0x809C0100 16 9), (ACCT_W0_WEIGHT 1, bits 0x809C0100 8 0)]) ∧ (LanesJudged w_accountEnable_again t) ∧ (ReserveJudged w_accountEnable_again t))
    | _ => false) = true := by decide +kernel

def w_accountEnable_refused : State := at_ [(ACCT_W1_BUCKET_MS 1, 1000), (ACCT_CTRL_LOCK, 1)]

theorem test_accountEnable_refused : ((w_accountEnable_refused.stopSafe = true) ∧ (1 < 128) ∧ (MayWrite w_accountEnable_refused 0x10 (0x40309000 + 0x20 * 1)) ∧ (bitOf 0x809C0100 31 = false ∨ bits 0x809C0100 30 29 = 3 ∨ w_accountEnable_refused.bit ACCT_CTRL_LOCK = true ∨ w_accountEnable_refused.bit (ACCT_W0_EN 1) = true ∨ w_accountEnable_refused.get (ACCT_W1_BUCKET_MS 1) = 0)) ∧ (match exec (.accountEnable 0x10 1 0x809C0100) w_accountEnable_refused with
    | .next t => decide ((t.radio = w_accountEnable_refused.radio))
    | _ => false) = true := by decide +kernel

def w_accountDisable : State := at_ [(ACCT_W0_EN 1, 1), (ACCT_W0_CH_HI 1, 78), (ACCT_W0_WEIGHT 1, 256), (LANE_STATUS_STATE 2, 3)]

theorem test_accountDisable : ((w_accountDisable.stopSafe = true) ∧ (1 < 128) ∧ (MayWrite w_accountDisable 0x10 (0x40309000 + 0x20 * 1)) ∧ (bitOf 0x009C0100 31 = false) ∧ (bits 0x009C0100 30 29 ≠ 3) ∧ (w_accountDisable.bit ACCT_CTRL_LOCK = false) ∧ (w_accountDisable.acctW0Taken 1 0x009C0100 = true)) ∧ (match exec (.accountDisable 0x10 1 0x009C0100) w_accountDisable with
    | .next t => decide ((Reads t [(ACCT_W0_EN 1, 0), (ACCT_W0_PROFILE 1, bits 0x009C0100 30 29), (ACCT_W0_CH_HI 1, bits 0x009C0100 24 17), (ACCT_W0_CH_LO 1, bits 0x009C0100 16 9), (ACCT_W0_WEIGHT 1, bits 0x009C0100 8 0)]) ∧ (t.radio = w_accountDisable.radio) ∧ (LanesJudged w_accountDisable t) ∧ (ReserveJudged w_accountDisable t))
    | _ => false) = true := by decide +kernel

def w_accountDisable_refused : State := at_ [(ACCT_W0_EN 1, 1), (ACCT_W0_CH_HI 1, 78), (ACCT_W0_WEIGHT 1, 256)]

theorem test_accountDisable_refused : ((w_accountDisable_refused.stopSafe = true) ∧ (1 < 128) ∧ (MayWrite w_accountDisable_refused 0x10 (0x40309000 + 0x20 * 1)) ∧ (bitOf 0x009C0200 31 = true ∨ bits 0x009C0200 30 29 = 3 ∨ w_accountDisable_refused.bit ACCT_CTRL_LOCK = true ∨ w_accountDisable_refused.acctW0Taken 1 0x009C0200 = false)) ∧ (match exec (.accountDisable 0x10 1 0x009C0200) w_accountDisable_refused with
    | .next t => decide ((t.radio = w_accountDisable_refused.radio))
    | _ => false) = true := by decide +kernel

theorem test_laneFrameDecision_none : ((wReset.stopSafe = true) ∧ (1 = (if 0 = 0 ∧ 0 = 0 then wReset.time.k + 1 else wReset.time.k)) ∧ (8 ≤ 4 ∨ 2 < 0 ∨ wReset.instantNow (wReset.decisionNs 4 0 0) = false ∨ (wReset.lane 4).dec = some (1, 0, 0))) ∧ (match exec (.laneFrameDecision 4 0 0) wReset with
    | .next t => decide ((t = wReset))
    | _ => false) = true := by decide +kernel

def w_laneFrameDecision_silent : State := wMacAt 17486000 []

theorem test_laneFrameDecision_silent : ((w_laneFrameDecision_silent.stopSafe = true) ∧ (0 ≤ 2) ∧ (1001 = (if 7 = 0 ∧ 0 = 0 then w_laneFrameDecision_silent.time.k + 1 else w_laneFrameDecision_silent.time.k)) ∧ (4 < 8) ∧ (w_laneFrameDecision_silent.instantNow (w_laneFrameDecision_silent.decisionNs 4 7 0) = true) ∧ ((w_laneFrameDecision_silent.lane 4).dec ≠ some (1001, 7, 0)) ∧ ((0 < 2 ∧ (0 ≠ w_laneFrameDecision_silent.unitBit ∨ w_laneFrameDecision_silent.rookHeld = true ∨ (w_laneFrameDecision_silent.stopSelect 4).2 = none)) ∨ (0 = 2 ∧ (w_laneFrameDecision_silent.bit MAC_CTRL_NET_EN = false ∨ w_laneFrameDecision_silent.boot.loaded.contains 5 = false ∨ w_laneFrameDecision_silent.onAir 4 1001 7 = none ∨ (w_laneFrameDecision_silent.onAir 4 1001 7).all (fun e => !w_laneFrameDecision_silent.slotFull (w_laneFrameDecision_silent.prof 4) e.1 7) = true)))) ∧ (match exec (.laneFrameDecision 4 7 0) w_laneFrameDecision_silent with
    | .next t => decide ((t = w_laneFrameDecision_silent.setLane 4 { w_laneFrameDecision_silent.lane 4 with dec := some (1001, 7, 0) }))
    | _ => false) = true := by decide +kernel

def w_laneFrameDecision_stop : State := { wMacAt 17486000 [] with rook := { State.reset.rook with rep := [(4, 60)] } }

theorem test_laneFrameDecision_stop : ((w_laneFrameDecision_stop.stopSafe = true) ∧ (0 < 2) ∧ (0 = w_laneFrameDecision_stop.unitBit) ∧ (1001 = (if 7 = 0 ∧ 0 = 0 then w_laneFrameDecision_stop.time.k + 1 else w_laneFrameDecision_stop.time.k)) ∧ (4 < 8) ∧ (w_laneFrameDecision_stop.instantNow (w_laneFrameDecision_stop.decisionNs 4 7 0) = true) ∧ ((w_laneFrameDecision_stop.lane 4).dec ≠ some (1001, 7, 0)) ∧ (((State.setLane ({ wMacAt 17486000 [] with rook := { State.reset.rook with rep := [(4, 60)] } }) 4 { State.lane ({ wMacAt 17486000 [] with rook := { State.reset.rook with rep := [(4, 60)] } }) 4 with dec := some (1001, 7, 0) }) : State) = w_laneFrameDecision_stop.setLane 4 { w_laneFrameDecision_stop.lane 4 with dec := some (1001, 7, 0) }) ∧ (w_laneFrameDecision_stop.rookHeld = false) ∧ (((State.setLane ({ wMacAt 17486000 [] with rook := { State.reset.rook with rep := [(4, 60)] } }) 4 { State.lane ({ wMacAt 17486000 [] with rook := { State.reset.rook with rep := [(4, 60)] } }) 4 with dec := some (1001, 7, 0) }) : State).stopSelect 4 = (((State.stopSelect (State.setLane ({ wMacAt 17486000 [] with rook := { State.reset.rook with rep := [(4, 60)] } }) 4 { State.lane ({ wMacAt 17486000 [] with rook := { State.reset.rook with rep := [(4, 60)] } }) 4 with dec := some (1001, 7, 0) }) 4).1 : State), some ([1, 0, 0xFF] : List Nat))) ∧ (w_laneFrameDecision_stop.onAir 4 1001 7 = some (1001, 33)) ∧ (w_laneFrameDecision_stop.useKey (w_laneFrameDecision_stop.get MAC_KEYS_NWK_KEY_SLOT) 1 2 = some (List.replicate 16 7 : List Nat)) ∧ (((State.stopSelect (State.setLane ({ wMacAt 17486000 [] with rook := { State.reset.rook with rep := [(4, 60)] } }) 4 { State.lane ({ wMacAt 17486000 [] with rook := { State.reset.rook with rep := [(4, 60)] } }) 4 with dec := some (1001, 7, 0) }) 4).1 : State).mayTransmit 4 0 .stop 33 (([1, 0, 0xFF] : List Nat) ++ ccmMic (List.replicate 16 7 : List Nat) (nwkNonce 1001 7 4 0 true (0xE0 + w_laneFrameDecision_stop.unitBit)) ([1, 0, 0xFF] : List Nat) []) = true)) ∧ (match exec (.laneFrameDecision 4 7 0) w_laneFrameDecision_stop with
    | .next t => decide ((FrameSent ((State.stopSelect (State.setLane ({ wMacAt 17486000 [] with rook := { State.reset.rook with rep := [(4, 60)] } }) 4 { State.lane ({ wMacAt 17486000 [] with rook := { State.reset.rook with rep := [(4, 60)] } }) 4 with dec := some (1001, 7, 0) }) 4).1 : State) t 4 7 0 .stop 33 (([1, 0, 0xFF] : List Nat) ++ ccmMic (List.replicate 16 7 : List Nat) (nwkNonce 1001 7 4 0 true (0xE0 + w_laneFrameDecision_stop.unitBit)) ([1, 0, 0xFF] : List Nat) [])) ∧ ((!leftOn 4 w_laneFrameDecision_stop.rook.rep || decide (([1, 0, 0xFF] : List Nat) = [1, w_laneFrameDecision_stop.get ROOK_SEQ_SSEQ, 0xFF] ∧ t.rook = { w_laneFrameDecision_stop.rook with rep := countOff 4 w_laneFrameDecision_stop.rook.rep })) = true) ∧ ((match leftOn 4 w_laneFrameDecision_stop.rook.rep, takeFrame 4 w_laneFrameDecision_stop.rook.mstops with | false, (some f, l) => decide (([1, 0, 0xFF] : List Nat) = [1, w_laneFrameDecision_stop.get ROOK_SEQ_SSEQ, f.target] ∧ t.rook = { w_laneFrameDecision_stop.rook with mstops := l }) | _, _ => true) = true) ∧ ((match leftOn 4 w_laneFrameDecision_stop.rook.rep, takeFrame 4 w_laneFrameDecision_stop.rook.mstops, takeFrame 4 w_laneFrameDecision_stop.rook.hr with | false, (none, _), (some f, l) => decide (([1, 0, 0xFF] : List Nat) = [f.cmd, f.sseq.getD 0, f.target] ∧ t.rook = { w_laneFrameDecision_stop.rook with hr := l }) | _, _, _ => true) = true))
    | _ => false) = true := by decide +kernel

def w_laneFrameDecision_stopRefused : State := { wMacAt 17486000 [(ACCT_W3_RESERVE_US 0, 0)] with rook := { State.reset.rook with mstops := [{ target := 9, cmd := 1, sseq := none, left := [(4, 60)], members := [9] }] } }

theorem test_laneFrameDecision_stopRefused : ((w_laneFrameDecision_stopRefused.stopSafe = true) ∧ (0 < 2) ∧ (0 = w_laneFrameDecision_stopRefused.unitBit) ∧ (1001 = (if 7 = 0 ∧ 0 = 0 then w_laneFrameDecision_stopRefused.time.k + 1 else w_laneFrameDecision_stopRefused.time.k)) ∧ (4 < 8) ∧ (w_laneFrameDecision_stopRefused.instantNow (w_laneFrameDecision_stopRefused.decisionNs 4 7 0) = true) ∧ ((w_laneFrameDecision_stopRefused.lane 4).dec ≠ some (1001, 7, 0)) ∧ (((State.setLane ({ wMacAt 17486000 [(ACCT_W3_RESERVE_US 0, 0)] with rook := { State.reset.rook with mstops := [{ target := 9, cmd := 1, sseq := none, left := [(4, 60)], members := [9] }] } }) 4 { State.lane ({ wMacAt 17486000 [(ACCT_W3_RESERVE_US 0, 0)] with rook := { State.reset.rook with mstops := [{ target := 9, cmd := 1, sseq := none, left := [(4, 60)], members := [9] }] } }) 4 with dec := some (1001, 7, 0) }) : State) = w_laneFrameDecision_stopRefused.setLane 4 { w_laneFrameDecision_stopRefused.lane 4 with dec := some (1001, 7, 0) }) ∧ (w_laneFrameDecision_stopRefused.rookHeld = false) ∧ (((State.setLane ({ wMacAt 17486000 [(ACCT_W3_RESERVE_US 0, 0)] with rook := { State.reset.rook with mstops := [{ target := 9, cmd := 1, sseq := none, left := [(4, 60)], members := [9] }] } }) 4 { State.lane ({ wMacAt 17486000 [(ACCT_W3_RESERVE_US 0, 0)] with rook := { State.reset.rook with mstops := [{ target := 9, cmd := 1, sseq := none, left := [(4, 60)], members := [9] }] } }) 4 with dec := some (1001, 7, 0) }) : State).stopSelect 4 = (((State.stopSelect (State.setLane ({ wMacAt 17486000 [(ACCT_W3_RESERVE_US 0, 0)] with rook := { State.reset.rook with mstops := [{ target := 9, cmd := 1, sseq := none, left := [(4, 60)], members := [9] }] } }) 4 { State.lane ({ wMacAt 17486000 [(ACCT_W3_RESERVE_US 0, 0)] with rook := { State.reset.rook with mstops := [{ target := 9, cmd := 1, sseq := none, left := [(4, 60)], members := [9] }] } }) 4 with dec := some (1001, 7, 0) }) 4).1 : State), some ([1, 0, 9] : List Nat))) ∧ (w_laneFrameDecision_stopRefused.onAir 4 1001 7 = some (1001, 33)) ∧ (w_laneFrameDecision_stopRefused.useKey (w_laneFrameDecision_stopRefused.get MAC_KEYS_NWK_KEY_SLOT) 1 2 = some (List.replicate 16 7 : List Nat)) ∧ (((State.stopSelect (State.setLane ({ wMacAt 17486000 [(ACCT_W3_RESERVE_US 0, 0)] with rook := { State.reset.rook with mstops := [{ target := 9, cmd := 1, sseq := none, left := [(4, 60)], members := [9] }] } }) 4 { State.lane ({ wMacAt 17486000 [(ACCT_W3_RESERVE_US 0, 0)] with rook := { State.reset.rook with mstops := [{ target := 9, cmd := 1, sseq := none, left := [(4, 60)], members := [9] }] } }) 4 with dec := some (1001, 7, 0) }) 4).1 : State).mayTransmit 4 0 .stop 33 (([1, 0, 9] : List Nat) ++ ccmMic (List.replicate 16 7 : List Nat) (nwkNonce 1001 7 4 0 true (0xE0 + w_laneFrameDecision_stopRefused.unitBit)) ([1, 0, 9] : List Nat) []) = false) ∧ ((State.bump (State.stopSelect (State.setLane ({ wMacAt 17486000 [(ACCT_W3_RESERVE_US 0, 0)] with rook := { State.reset.rook with mstops := [{ target := 9, cmd := 1, sseq := none, left := [(4, 60)], members := [9] }] } }) 4 { State.lane ({ wMacAt 17486000 [(ACCT_W3_RESERVE_US 0, 0)] with rook := { State.reset.rook with mstops := [{ target := 9, cmd := 1, sseq := none, left := [(4, 60)], members := [9] }] } }) 4 with dec := some (1001, 7, 0) }) 4).1 ROOK_CNT_STOP_UNSENT : State) = ((State.stopSelect (State.setLane ({ wMacAt 17486000 [(ACCT_W3_RESERVE_US 0, 0)] with rook := { State.reset.rook with mstops := [{ target := 9, cmd := 1, sseq := none, left := [(4, 60)], members := [9] }] } }) 4 { State.lane ({ wMacAt 17486000 [(ACCT_W3_RESERVE_US 0, 0)] with rook := { State.reset.rook with mstops := [{ target := 9, cmd := 1, sseq := none, left := [(4, 60)], members := [9] }] } }) 4 with dec := some (1001, 7, 0) }) 4).1 : State).bump ROOK_CNT_STOP_UNSENT)) ∧ (match exec (.laneFrameDecision 4 7 0) w_laneFrameDecision_stopRefused with
    | .next t => decide ((FrameKept (State.bump (State.stopSelect (State.setLane ({ wMacAt 17486000 [(ACCT_W3_RESERVE_US 0, 0)] with rook := { State.reset.rook with mstops := [{ target := 9, cmd := 1, sseq := none, left := [(4, 60)], members := [9] }] } }) 4 { State.lane ({ wMacAt 17486000 [(ACCT_W3_RESERVE_US 0, 0)] with rook := { State.reset.rook with mstops := [{ target := 9, cmd := 1, sseq := none, left := [(4, 60)], members := [9] }] } }) 4 with dec := some (1001, 7, 0) }) 4).1 ROOK_CNT_STOP_UNSENT : State) t 4 0 .stop 33 (([1, 0, 9] : List Nat) ++ ccmMic (List.replicate 16 7 : List Nat) (nwkNonce 1001 7 4 0 true (0xE0 + w_laneFrameDecision_stopRefused.unitBit)) ([1, 0, 9] : List Nat) [])) ∧ ((!leftOn 4 w_laneFrameDecision_stopRefused.rook.rep || decide (([1, 0, 9] : List Nat) = [1, w_laneFrameDecision_stopRefused.get ROOK_SEQ_SSEQ, 0xFF] ∧ t.rook = { w_laneFrameDecision_stopRefused.rook with rep := countOff 4 w_laneFrameDecision_stopRefused.rook.rep })) = true) ∧ ((match leftOn 4 w_laneFrameDecision_stopRefused.rook.rep, takeFrame 4 w_laneFrameDecision_stopRefused.rook.mstops with | false, (some f, l) => decide (([1, 0, 9] : List Nat) = [1, w_laneFrameDecision_stopRefused.get ROOK_SEQ_SSEQ, f.target] ∧ t.rook = { w_laneFrameDecision_stopRefused.rook with mstops := l }) | _, _ => true) = true) ∧ ((match leftOn 4 w_laneFrameDecision_stopRefused.rook.rep, takeFrame 4 w_laneFrameDecision_stopRefused.rook.mstops, takeFrame 4 w_laneFrameDecision_stopRefused.rook.hr with | false, (none, _), (some f, l) => decide (([1, 0, 9] : List Nat) = [f.cmd, f.sseq.getD 0, f.target] ∧ t.rook = { w_laneFrameDecision_stopRefused.rook with hr := l }) | _, _, _ => true) = true))
    | _ => false) = true := by decide +kernel

def w_laneFrameDecision_stopUnsent : State := { wMacAt 17486000 [(LANE_STATUS_STATE 4, 2)] with rook := { State.reset.rook with hr := [{ target := 9, cmd := 2, sseq := some 3, left := [(4, 60)], members := [9] }] } }

theorem test_laneFrameDecision_stopUnsent : ((w_laneFrameDecision_stopUnsent.stopSafe = true) ∧ (0 < 2) ∧ (0 = w_laneFrameDecision_stopUnsent.unitBit) ∧ (1001 = (if 7 = 0 ∧ 0 = 0 then w_laneFrameDecision_stopUnsent.time.k + 1 else w_laneFrameDecision_stopUnsent.time.k)) ∧ (4 < 8) ∧ (w_laneFrameDecision_stopUnsent.instantNow (w_laneFrameDecision_stopUnsent.decisionNs 4 7 0) = true) ∧ ((w_laneFrameDecision_stopUnsent.lane 4).dec ≠ some (1001, 7, 0)) ∧ (((State.setLane ({ wMacAt 17486000 [(LANE_STATUS_STATE 4, 2)] with rook := { State.reset.rook with hr := [{ target := 9, cmd := 2, sseq := some 3, left := [(4, 60)], members := [9] }] } }) 4 { State.lane ({ wMacAt 17486000 [(LANE_STATUS_STATE 4, 2)] with rook := { State.reset.rook with hr := [{ target := 9, cmd := 2, sseq := some 3, left := [(4, 60)], members := [9] }] } }) 4 with dec := some (1001, 7, 0) }) : State) = w_laneFrameDecision_stopUnsent.setLane 4 { w_laneFrameDecision_stopUnsent.lane 4 with dec := some (1001, 7, 0) }) ∧ (w_laneFrameDecision_stopUnsent.rookHeld = false) ∧ (((State.setLane ({ wMacAt 17486000 [(LANE_STATUS_STATE 4, 2)] with rook := { State.reset.rook with hr := [{ target := 9, cmd := 2, sseq := some 3, left := [(4, 60)], members := [9] }] } }) 4 { State.lane ({ wMacAt 17486000 [(LANE_STATUS_STATE 4, 2)] with rook := { State.reset.rook with hr := [{ target := 9, cmd := 2, sseq := some 3, left := [(4, 60)], members := [9] }] } }) 4 with dec := some (1001, 7, 0) }) : State).stopSelect 4 = (((State.stopSelect (State.setLane ({ wMacAt 17486000 [(LANE_STATUS_STATE 4, 2)] with rook := { State.reset.rook with hr := [{ target := 9, cmd := 2, sseq := some 3, left := [(4, 60)], members := [9] }] } }) 4 { State.lane ({ wMacAt 17486000 [(LANE_STATUS_STATE 4, 2)] with rook := { State.reset.rook with hr := [{ target := 9, cmd := 2, sseq := some 3, left := [(4, 60)], members := [9] }] } }) 4 with dec := some (1001, 7, 0) }) 4).1 : State), some ([2, 3, 9] : List Nat))) ∧ (w_laneFrameDecision_stopUnsent.onAir 4 1001 7 = none ∨ w_laneFrameDecision_stopUnsent.useKey (w_laneFrameDecision_stopUnsent.get MAC_KEYS_NWK_KEY_SLOT) 1 2 = none)) ∧ (match exec (.laneFrameDecision 4 7 0) w_laneFrameDecision_stopUnsent with
    | .next t => decide ((Reads t [(ROOK_CNT_STOP_UNSENT, w_laneFrameDecision_stopUnsent.adv ROOK_CNT_STOP_UNSENT), (KS_CNT_ORPHAN_ABORTS, if (w_laneFrameDecision_stopUnsent.onAir 4 1001 7).isSome then (w_laneFrameDecision_stopUnsent.keyAbort (w_laneFrameDecision_stopUnsent.get MAC_KEYS_NWK_KEY_SLOT) 1 2).get KS_CNT_ORPHAN_ABORTS else w_laneFrameDecision_stopUnsent.get KS_CNT_ORPHAN_ABORTS)]) ∧ ((!leftOn 4 w_laneFrameDecision_stopUnsent.rook.rep || decide (([2, 3, 9] : List Nat) = [1, w_laneFrameDecision_stopUnsent.get ROOK_SEQ_SSEQ, 0xFF] ∧ t.rook = { w_laneFrameDecision_stopUnsent.rook with rep := countOff 4 w_laneFrameDecision_stopUnsent.rook.rep })) = true) ∧ ((match leftOn 4 w_laneFrameDecision_stopUnsent.rook.rep, takeFrame 4 w_laneFrameDecision_stopUnsent.rook.mstops with | false, (some f, l) => decide (([2, 3, 9] : List Nat) = [1, w_laneFrameDecision_stopUnsent.get ROOK_SEQ_SSEQ, f.target] ∧ t.rook = { w_laneFrameDecision_stopUnsent.rook with mstops := l }) | _, _ => true) = true) ∧ ((match leftOn 4 w_laneFrameDecision_stopUnsent.rook.rep, takeFrame 4 w_laneFrameDecision_stopUnsent.rook.mstops, takeFrame 4 w_laneFrameDecision_stopUnsent.rook.hr with | false, (none, _), (some f, l) => decide (([2, 3, 9] : List Nat) = [f.cmd, f.sseq.getD 0, f.target] ∧ t.rook = { w_laneFrameDecision_stopUnsent.rook with hr := l }) | _, _, _ => true) = true))
    | _ => false) = true := by decide +kernel

def w_laneFrameDecision_bell : State := wMacAt 396000 []

theorem test_laneFrameDecision_bell : ((w_laneFrameDecision_bell.stopSafe = true) ∧ (w_laneFrameDecision_bell.instantNow (w_laneFrameDecision_bell.decisionNs 4 0 2) = true) ∧ (4 < 8) ∧ ((w_laneFrameDecision_bell.lane 4).dec ≠ some (w_laneFrameDecision_bell.time.k, 0, 2)) ∧ (((State.setLane (wMacAt 396000 []) 4 { State.lane (wMacAt 396000 []) 4 with dec := some (1001, 0, 2) }) : State) = w_laneFrameDecision_bell.setLane 4 { w_laneFrameDecision_bell.lane 4 with dec := some (w_laneFrameDecision_bell.time.k, 0, 2) }) ∧ (w_laneFrameDecision_bell.bit MAC_CTRL_NET_EN = true) ∧ (w_laneFrameDecision_bell.boot.loaded.contains 5 = true) ∧ (w_laneFrameDecision_bell.onAir 4 w_laneFrameDecision_bell.time.k 0 = some (1001, 33)) ∧ (w_laneFrameDecision_bell.slotFull (w_laneFrameDecision_bell.prof 4) 1001 0 = true) ∧ ((w_laneFrameDecision_bell.prof 4 = 0 ∧ 0 = w_laneFrameDecision_bell.unitBit) ∨ (w_laneFrameDecision_bell.prof 4 ≠ 0 ∧ w_laneFrameDecision_bell.get (LANE_CFG_RATE 4) ≠ 0 ∧ 10 * (w_laneFrameDecision_bell.time.k % 10) + 0 = w_laneFrameDecision_bell.unitBit)) ∧ (1001 ≠ 0xFFFFFFFF) ∧ (w_laneFrameDecision_bell.useKey (w_laneFrameDecision_bell.get MAC_KEYS_NWK_KEY_SLOT) 1 2 = some (List.replicate 16 7 : List Nat)) ∧ (((State.setLane (wMacAt 396000 []) 4 { State.lane (wMacAt 396000 []) 4 with dec := some (1001, 0, 2) }) : State) = ((State.setLane (wMacAt 396000 []) 4 { State.lane (wMacAt 396000 []) 4 with dec := some (1001, 0, 2) }) : State).shiftSchedule 1001) ∧ ((sealMpdu (List.replicate 16 7) (nwkNonce 1001 0 4 2 true 0xE0) 0 0xE0 (State.bellFixed (wMacAt 396000 []) 1001 1001) 0 : List Nat) = sealMpdu (List.replicate 16 7 : List Nat) (nwkNonce 1001 0 4 2 true (0xE0 + w_laneFrameDecision_bell.unitBit)) 0 (0xE0 + w_laneFrameDecision_bell.unitBit) ((((State.setLane (wMacAt 396000 []) 4 { State.lane (wMacAt 396000 []) 4 with dec := some (1001, 0, 2) }) : State).bellFixed w_laneFrameDecision_bell.time.k 1001 ++ (((State.setLane (wMacAt 396000 []) 4 { State.lane (wMacAt 396000 []) 4 with dec := some (1001, 0, 2) }) : State).bellItems (w_laneFrameDecision_bell.prof 4)).1)) (((State.setLane (wMacAt 396000 []) 4 { State.lane (wMacAt 396000 []) 4 with dec := some (1001, 0, 2) }) : State).bellItems (w_laneFrameDecision_bell.prof 4)).2) ∧ (((State.setLane (wMacAt 396000 []) 4 { State.lane (wMacAt 396000 []) 4 with dec := some (1001, 0, 2) }) : State).mayTransmit 4 2 .beacon 33 (sealMpdu (List.replicate 16 7) (nwkNonce 1001 0 4 2 true 0xE0) 0 0xE0 (State.bellFixed (wMacAt 396000 []) 1001 1001) 0 : List Nat) = true)) ∧ (match exec (.laneFrameDecision 4 0 2) w_laneFrameDecision_bell with
    | .next t => decide ((FrameSent ((State.setLane (wMacAt 396000 []) 4 { State.lane (wMacAt 396000 []) 4 with dec := some (1001, 0, 2) }) : State) t 4 0 2 .beacon 33 (sealMpdu (List.replicate 16 7) (nwkNonce 1001 0 4 2 true 0xE0) 0 0xE0 (State.bellFixed (wMacAt 396000 []) 1001 1001) 0 : List Nat)) ∧ ((!w_laneFrameDecision_bell.time.shiftWait || decide (t.get SHIFT_SFN_S = (1001 + 8) % 2 ^ 32 ∧ t.time = { w_laneFrameDecision_bell.time with shiftWait := false, shiftPhi := w_laneFrameDecision_bell.getS GRID_PHASE_PHI })) = true))
    | _ => false) = true := by decide +kernel

def w_laneFrameDecision_bellKept : State := wMacAt 396000 [(ACCT_W2_LIMIT_US 0, 0)]

theorem test_laneFrameDecision_bellKept : ((w_laneFrameDecision_bellKept.stopSafe = true) ∧ (w_laneFrameDecision_bellKept.instantNow (w_laneFrameDecision_bellKept.decisionNs 4 0 2) = true) ∧ (4 < 8) ∧ ((w_laneFrameDecision_bellKept.lane 4).dec ≠ some (w_laneFrameDecision_bellKept.time.k, 0, 2)) ∧ (((State.setLane (wMacAt 396000 [(ACCT_W2_LIMIT_US 0, 0)]) 4 { State.lane (wMacAt 396000 [(ACCT_W2_LIMIT_US 0, 0)]) 4 with dec := some (1001, 0, 2) }) : State) = w_laneFrameDecision_bellKept.setLane 4 { w_laneFrameDecision_bellKept.lane 4 with dec := some (w_laneFrameDecision_bellKept.time.k, 0, 2) }) ∧ (w_laneFrameDecision_bellKept.bit MAC_CTRL_NET_EN = true) ∧ (w_laneFrameDecision_bellKept.boot.loaded.contains 5 = true) ∧ (w_laneFrameDecision_bellKept.onAir 4 w_laneFrameDecision_bellKept.time.k 0 = some (1001, 33)) ∧ (w_laneFrameDecision_bellKept.slotFull (w_laneFrameDecision_bellKept.prof 4) 1001 0 = true) ∧ ((w_laneFrameDecision_bellKept.prof 4 = 0 ∧ 0 = w_laneFrameDecision_bellKept.unitBit) ∨ (w_laneFrameDecision_bellKept.prof 4 ≠ 0 ∧ w_laneFrameDecision_bellKept.get (LANE_CFG_RATE 4) ≠ 0 ∧ 10 * (w_laneFrameDecision_bellKept.time.k % 10) + 0 = w_laneFrameDecision_bellKept.unitBit)) ∧ (1001 ≠ 0xFFFFFFFF) ∧ (w_laneFrameDecision_bellKept.useKey (w_laneFrameDecision_bellKept.get MAC_KEYS_NWK_KEY_SLOT) 1 2 = some (List.replicate 16 7 : List Nat)) ∧ (((State.setLane (wMacAt 396000 [(ACCT_W2_LIMIT_US 0, 0)]) 4 { State.lane (wMacAt 396000 [(ACCT_W2_LIMIT_US 0, 0)]) 4 with dec := some (1001, 0, 2) }) : State) = ((State.setLane (wMacAt 396000 [(ACCT_W2_LIMIT_US 0, 0)]) 4 { State.lane (wMacAt 396000 [(ACCT_W2_LIMIT_US 0, 0)]) 4 with dec := some (1001, 0, 2) }) : State).shiftSchedule 1001) ∧ ((sealMpdu (List.replicate 16 7) (nwkNonce 1001 0 4 2 true 0xE0) 0 0xE0 (State.bellFixed (wMacAt 396000 [(ACCT_W2_LIMIT_US 0, 0)]) 1001 1001) 0 : List Nat) = sealMpdu (List.replicate 16 7 : List Nat) (nwkNonce 1001 0 4 2 true (0xE0 + w_laneFrameDecision_bellKept.unitBit)) 0 (0xE0 + w_laneFrameDecision_bellKept.unitBit) ((((State.setLane (wMacAt 396000 [(ACCT_W2_LIMIT_US 0, 0)]) 4 { State.lane (wMacAt 396000 [(ACCT_W2_LIMIT_US 0, 0)]) 4 with dec := some (1001, 0, 2) }) : State).bellFixed w_laneFrameDecision_bellKept.time.k 1001 ++ (((State.setLane (wMacAt 396000 [(ACCT_W2_LIMIT_US 0, 0)]) 4 { State.lane (wMacAt 396000 [(ACCT_W2_LIMIT_US 0, 0)]) 4 with dec := some (1001, 0, 2) }) : State).bellItems (w_laneFrameDecision_bellKept.prof 4)).1)) (((State.setLane (wMacAt 396000 [(ACCT_W2_LIMIT_US 0, 0)]) 4 { State.lane (wMacAt 396000 [(ACCT_W2_LIMIT_US 0, 0)]) 4 with dec := some (1001, 0, 2) }) : State).bellItems (w_laneFrameDecision_bellKept.prof 4)).2) ∧ (((State.setLane (wMacAt 396000 [(ACCT_W2_LIMIT_US 0, 0)]) 4 { State.lane (wMacAt 396000 [(ACCT_W2_LIMIT_US 0, 0)]) 4 with dec := some (1001, 0, 2) }) : State).mayTransmit 4 2 .beacon 33 (sealMpdu (List.replicate 16 7) (nwkNonce 1001 0 4 2 true 0xE0) 0 0xE0 (State.bellFixed (wMacAt 396000 [(ACCT_W2_LIMIT_US 0, 0)]) 1001 1001) 0 : List Nat) = false)) ∧ (match exec (.laneFrameDecision 4 0 2) w_laneFrameDecision_bellKept with
    | .next t => decide ((FrameKept ((State.setLane (wMacAt 396000 [(ACCT_W2_LIMIT_US 0, 0)]) 4 { State.lane (wMacAt 396000 [(ACCT_W2_LIMIT_US 0, 0)]) 4 with dec := some (1001, 0, 2) }) : State) t 4 2 .beacon 33 (sealMpdu (List.replicate 16 7) (nwkNonce 1001 0 4 2 true 0xE0) 0 0xE0 (State.bellFixed (wMacAt 396000 [(ACCT_W2_LIMIT_US 0, 0)]) 1001 1001) 0 : List Nat)))
    | _ => false) = true := by decide +kernel

def w_laneFrameDecision_digest : State := { wMacAt 95396000 [] with mac := { digests := [(4, 1, [1, 5, 0, 0, 0, 0, 0])] } }

theorem test_laneFrameDecision_digest : ((w_laneFrameDecision_digest.stopSafe = true) ∧ (w_laneFrameDecision_digest.instantNow (w_laneFrameDecision_digest.decisionNs 4 38 2) = true) ∧ (4 < 8) ∧ ((w_laneFrameDecision_digest.lane 4).dec ≠ some (w_laneFrameDecision_digest.time.k, 38, 2)) ∧ (((State.setLane ({ wMacAt 95396000 [] with mac := { digests := [(4, 1, [1, 5, 0, 0, 0, 0, 0])] } }) 4 { State.lane ({ wMacAt 95396000 [] with mac := { digests := [(4, 1, [1, 5, 0, 0, 0, 0, 0])] } }) 4 with dec := some (1001, 38, 2) }) : State) = w_laneFrameDecision_digest.setLane 4 { w_laneFrameDecision_digest.lane 4 with dec := some (w_laneFrameDecision_digest.time.k, 38, 2) }) ∧ (w_laneFrameDecision_digest.bit MAC_CTRL_NET_EN = true) ∧ (w_laneFrameDecision_digest.boot.loaded.contains 5 = true) ∧ (w_laneFrameDecision_digest.onAir 4 w_laneFrameDecision_digest.time.k 38 = some (1001, 33)) ∧ (w_laneFrameDecision_digest.slotFull (w_laneFrameDecision_digest.prof 4) 1001 38 = true) ∧ (w_laneFrameDecision_digest.bit PAIR_STATUS_ACTIVE = true) ∧ ((w_laneFrameDecision_digest.prof 4 = 0 ∧ ((1 = 1 ∧ 38 = 38) ∨ (1 = 2 ∧ 38 = 39))) ∨ (w_laneFrameDecision_digest.prof 4 ≠ 0 ∧ w_laneFrameDecision_digest.get (LANE_CFG_RATE 4) ≠ 0 ∧ 1 = 1 ∧ 10 * (w_laneFrameDecision_digest.time.k % 10) + 38 = 20)) ∧ (w_laneFrameDecision_digest.storedDigest 4 1 = some ([1, 5, 0, 0, 0, 0, 0] : List Nat)) ∧ (w_laneFrameDecision_digest.useKey (w_laneFrameDecision_digest.get MAC_KEYS_NWK_KEY_SLOT) 1 2 = some (List.replicate 16 7 : List Nat)) ∧ (({ (State.setLane ({ wMacAt 95396000 [] with mac := { digests := [(4, 1, [1, 5, 0, 0, 0, 0, 0])] } }) 4 { State.lane ({ wMacAt 95396000 [] with mac := { digests := [(4, 1, [1, 5, 0, 0, 0, 0, 0])] } }) 4 with dec := some (1001, 38, 2) }) with mac := {} } : State) = { ((State.setLane ({ wMacAt 95396000 [] with mac := { digests := [(4, 1, [1, 5, 0, 0, 0, 0, 0])] } }) 4 { State.lane ({ wMacAt 95396000 [] with mac := { digests := [(4, 1, [1, 5, 0, 0, 0, 0, 0])] } }) 4 with dec := some (1001, 38, 2) }) : State) with mac := { w_laneFrameDecision_digest.mac with digests := w_laneFrameDecision_digest.mac.digests.filter (fun (d : Nat × Nat × List Nat) => !(d.1 == 4 && d.2.1 == 1)) } }) ∧ ((sealMpdu (List.replicate 16 7) (nwkNonce 1001 38 4 2 true 0xE0) 1 0xE0 (leBytes 4 0 ++ [1] ++ [1, 5, 0, 0, 0, 0, 0]) 0 : List Nat) = sealMpdu (List.replicate 16 7 : List Nat) (nwkNonce 1001 38 4 2 true (0xE0 + w_laneFrameDecision_digest.unitBit)) 1 (0xE0 + w_laneFrameDecision_digest.unitBit) (leBytes 4 (w_laneFrameDecision_digest.get CLAIM) ++ [1] ++ ([1, 5, 0, 0, 0, 0, 0] : List Nat)) 0) ∧ (((State.setLane ({ wMacAt 95396000 [] with mac := { digests := [(4, 1, [1, 5, 0, 0, 0, 0, 0])] } }) 4 { State.lane ({ wMacAt 95396000 [] with mac := { digests := [(4, 1, [1, 5, 0, 0, 0, 0, 0])] } }) 4 with dec := some (1001, 38, 2) }) : State).mayTransmit 4 2 .data 33 (sealMpdu (List.replicate 16 7) (nwkNonce 1001 38 4 2 true 0xE0) 1 0xE0 (leBytes 4 0 ++ [1] ++ [1, 5, 0, 0, 0, 0, 0]) 0 : List Nat) = true)) ∧ (match exec (.laneFrameDecision 4 38 2) w_laneFrameDecision_digest with
    | .next t => decide ((FrameSent ({ (State.setLane ({ wMacAt 95396000 [] with mac := { digests := [(4, 1, [1, 5, 0, 0, 0, 0, 0])] } }) 4 { State.lane ({ wMacAt 95396000 [] with mac := { digests := [(4, 1, [1, 5, 0, 0, 0, 0, 0])] } }) 4 with dec := some (1001, 38, 2) }) with mac := {} } : State) t 4 38 2 .data 33 (sealMpdu (List.replicate 16 7) (nwkNonce 1001 38 4 2 true 0xE0) 1 0xE0 (leBytes 4 0 ++ [1] ++ [1, 5, 0, 0, 0, 0, 0]) 0 : List Nat)))
    | _ => false) = true := by decide +kernel

def w_laneFrameDecision_resp : State := { wMacAt 5396000 [] with mac := { resp := [{ lane := 4, k := 1001, eui := [1, 2, 3, 4, 5, 6, 7, 8], result := 2 }] }, radio := { (wMac []).radio with hop := some { lanes := 0x90, keySlot := 5, iv := 1, excl := [0, 0, 0], profs := List.replicate 8 0, ver := 1 } } }

theorem test_laneFrameDecision_resp : ((w_laneFrameDecision_resp.stopSafe = true) ∧ (w_laneFrameDecision_resp.instantNow (w_laneFrameDecision_resp.decisionNs 4 2 2) = true) ∧ (4 < 8) ∧ ((w_laneFrameDecision_resp.lane 4).dec ≠ some (w_laneFrameDecision_resp.time.k, 2, 2)) ∧ (((State.setLane ({ wMacAt 5396000 [] with mac := { resp := [{ lane := 4, k := 1001, eui := [1, 2, 3, 4, 5, 6, 7, 8], result := 2 }] }, radio := { (wMac []).radio with hop := some { lanes := 0x90, keySlot := 5, iv := 1, excl := [0, 0, 0], profs := List.replicate 8 0, ver := 1 } } }) 4 { State.lane ({ wMacAt 5396000 [] with mac := { resp := [{ lane := 4, k := 1001, eui := [1, 2, 3, 4, 5, 6, 7, 8], result := 2 }] }, radio := { (wMac []).radio with hop := some { lanes := 0x90, keySlot := 5, iv := 1, excl := [0, 0, 0], profs := List.replicate 8 0, ver := 1 } } }) 4 with dec := some (1001, 2, 2) }) : State) = w_laneFrameDecision_resp.setLane 4 { w_laneFrameDecision_resp.lane 4 with dec := some (w_laneFrameDecision_resp.time.k, 2, 2) }) ∧ (w_laneFrameDecision_resp.bit MAC_CTRL_NET_EN = true) ∧ (w_laneFrameDecision_resp.boot.loaded.contains 5 = true) ∧ (w_laneFrameDecision_resp.onAir 4 w_laneFrameDecision_resp.time.k 2 = some (1001, 33)) ∧ (w_laneFrameDecision_resp.slotFull (w_laneFrameDecision_resp.prof 4) 1001 2 = true) ∧ (w_laneFrameDecision_resp.bit PAIR_STATUS_ACTIVE = true) ∧ (w_laneFrameDecision_resp.prof 4 = 0) ∧ (2 = 2) ∧ (w_laneFrameDecision_resp.unitBit < 2) ∧ (w_laneFrameDecision_resp.time.k % 2 = 1) ∧ (w_laneFrameDecision_resp.respDue 4 w_laneFrameDecision_resp.time.k = some ({ lane := 4, k := 1001, eui := [1, 2, 3, 4, 5, 6, 7, 8], result := 2 } : AssocResp)) ∧ (w_laneFrameDecision_resp.radio.hop = some ({ lanes := 0x90, keySlot := 5, iv := 1, excl := [0, 0, 0], profs := List.replicate 8 0, ver := 1 } : HopSet)) ∧ ((w_laneFrameDecision_resp.covering 0 33).isEmpty = false) ∧ (({ lane := 4, k := 1001, eui := [1, 2, 3, 4, 5, 6, 7, 8], result := 2 } : AssocResp).result ≠ 0 ∨ w_laneFrameDecision_resp.respKeys ({ lanes := 0x90, keySlot := 5, iv := 1, excl := [0, 0, 0], profs := List.replicate 8 0, ver := 1 } : HopSet) = some ([] : List Nat)) ∧ (w_laneFrameDecision_resp.useKey (w_laneFrameDecision_resp.get MAC_KEYS_JOIN_KEY_SLOT) 1 2 = some (List.replicate 16 9 : List Nat)) ∧ (([1, 2, 3, 4, 5, 6, 7, 8] ++ [0, 2] ++ List.replicate 26 0 : List Nat) = (if ({ lane := 4, k := 1001, eui := [1, 2, 3, 4, 5, 6, 7, 8], result := 2 } : AssocResp).result ≠ 0 then w_laneFrameDecision_resp.respPart0 ({ lanes := 0x90, keySlot := 5, iv := 1, excl := [0, 0, 0], profs := List.replicate 8 0, ver := 1 } : HopSet) ({ lane := 4, k := 1001, eui := [1, 2, 3, 4, 5, 6, 7, 8], result := 2 } : AssocResp) else w_laneFrameDecision_resp.respPart0 ({ lanes := 0x90, keySlot := 5, iv := 1, excl := [0, 0, 0], profs := List.replicate 8 0, ver := 1 } : HopSet) ({ lane := 4, k := 1001, eui := [1, 2, 3, 4, 5, 6, 7, 8], result := 2 } : AssocResp) ++ ({ lane := 4, k := 1001, eui := [1, 2, 3, 4, 5, 6, 7, 8], result := 2 } : AssocResp).eui ++ [1] ++ ([] : List Nat))) ∧ (0 = (if ({ lane := 4, k := 1001, eui := [1, 2, 3, 4, 5, 6, 7, 8], result := 2 } : AssocResp).result ≠ 0 then 0 else 48)) ∧ (({ (State.setLane ({ wMacAt 5396000 [] with mac := { resp := [{ lane := 4, k := 1001, eui := [1, 2, 3, 4, 5, 6, 7, 8], result := 2 }] }, radio := { (wMac []).radio with hop := some { lanes := 0x90, keySlot := 5, iv := 1, excl := [0, 0, 0], profs := List.replicate 8 0, ver := 1 } } }) 4 { State.lane ({ wMacAt 5396000 [] with mac := { resp := [{ lane := 4, k := 1001, eui := [1, 2, 3, 4, 5, 6, 7, 8], result := 2 }] }, radio := { (wMac []).radio with hop := some { lanes := 0x90, keySlot := 5, iv := 1, excl := [0, 0, 0], profs := List.replicate 8 0, ver := 1 } } }) 4 with dec := some (1001, 2, 2) }) with mac := {} } : State) = { ((State.setLane ({ wMacAt 5396000 [] with mac := { resp := [{ lane := 4, k := 1001, eui := [1, 2, 3, 4, 5, 6, 7, 8], result := 2 }] }, radio := { (wMac []).radio with hop := some { lanes := 0x90, keySlot := 5, iv := 1, excl := [0, 0, 0], profs := List.replicate 8 0, ver := 1 } } }) 4 { State.lane ({ wMacAt 5396000 [] with mac := { resp := [{ lane := 4, k := 1001, eui := [1, 2, 3, 4, 5, 6, 7, 8], result := 2 }] }, radio := { (wMac []).radio with hop := some { lanes := 0x90, keySlot := 5, iv := 1, excl := [0, 0, 0], profs := List.replicate 8 0, ver := 1 } } }) 4 with dec := some (1001, 2, 2) }) : State) with mac := { w_laneFrameDecision_resp.mac with resp := w_laneFrameDecision_resp.mac.resp.erase ({ lane := 4, k := 1001, eui := [1, 2, 3, 4, 5, 6, 7, 8], result := 2 } : AssocResp) } }) ∧ ((sealMpdu (List.replicate 16 9) (joinNonce 1001 4 true 0 [1, 2, 3, 4, 5, 6, 7, 8]) 4 0xE0 ([1, 2, 3, 4, 5, 6, 7, 8] ++ [0, 2] ++ List.replicate 26 0) 0 : List Nat) = sealMpdu (List.replicate 16 9 : List Nat) (joinNonce w_laneFrameDecision_resp.time.k 4 true 0 ({ lane := 4, k := 1001, eui := [1, 2, 3, 4, 5, 6, 7, 8], result := 2 } : AssocResp).eui) 4 (0xE0 + w_laneFrameDecision_resp.unitBit) ([1, 2, 3, 4, 5, 6, 7, 8] ++ [0, 2] ++ List.replicate 26 0 : List Nat) 0) ∧ (((State.setLane ({ wMacAt 5396000 [] with mac := { resp := [{ lane := 4, k := 1001, eui := [1, 2, 3, 4, 5, 6, 7, 8], result := 2 }] }, radio := { (wMac []).radio with hop := some { lanes := 0x90, keySlot := 5, iv := 1, excl := [0, 0, 0], profs := List.replicate 8 0, ver := 1 } } }) 4 { State.lane ({ wMacAt 5396000 [] with mac := { resp := [{ lane := 4, k := 1001, eui := [1, 2, 3, 4, 5, 6, 7, 8], result := 2 }] }, radio := { (wMac []).radio with hop := some { lanes := 0x90, keySlot := 5, iv := 1, excl := [0, 0, 0], profs := List.replicate 8 0, ver := 1 } } }) 4 with dec := some (1001, 2, 2) }) : State).mayTransmit 4 2 .data 33 (sealMpdu (List.replicate 16 9) (joinNonce 1001 4 true 0 [1, 2, 3, 4, 5, 6, 7, 8]) 4 0xE0 ([1, 2, 3, 4, 5, 6, 7, 8] ++ [0, 2] ++ List.replicate 26 0) 0 : List Nat) = true)) ∧ (match exec (.laneFrameDecision 4 2 2) w_laneFrameDecision_resp with
    | .next t => decide ((FrameSent ({ (State.setLane ({ wMacAt 5396000 [] with mac := { resp := [{ lane := 4, k := 1001, eui := [1, 2, 3, 4, 5, 6, 7, 8], result := 2 }] }, radio := { (wMac []).radio with hop := some { lanes := 0x90, keySlot := 5, iv := 1, excl := [0, 0, 0], profs := List.replicate 8 0, ver := 1 } } }) 4 { State.lane ({ wMacAt 5396000 [] with mac := { resp := [{ lane := 4, k := 1001, eui := [1, 2, 3, 4, 5, 6, 7, 8], result := 2 }] }, radio := { (wMac []).radio with hop := some { lanes := 0x90, keySlot := 5, iv := 1, excl := [0, 0, 0], profs := List.replicate 8 0, ver := 1 } } }) 4 with dec := some (1001, 2, 2) }) with mac := {} } : State) t 4 2 2 .data 33 (sealMpdu (List.replicate 16 9) (joinNonce 1001 4 true 0 [1, 2, 3, 4, 5, 6, 7, 8]) 4 0xE0 ([1, 2, 3, 4, 5, 6, 7, 8] ++ [0, 2] ++ List.replicate 26 0) 0 : List Nat)))
    | _ => false) = true := by decide +kernel

def w_laneFrameDecision_data : State := wMacAt 7896000 []

theorem test_laneFrameDecision_data : ((w_laneFrameDecision_data.stopSafe = true) ∧ (w_laneFrameDecision_data.instantNow (w_laneFrameDecision_data.decisionNs 4 3 2) = true) ∧ (4 < 8) ∧ ((w_laneFrameDecision_data.lane 4).dec ≠ some (w_laneFrameDecision_data.time.k, 3, 2)) ∧ (((State.setLane (wMacAt 7896000 []) 4 { State.lane (wMacAt 7896000 []) 4 with dec := some (1001, 3, 2) }) : State) = w_laneFrameDecision_data.setLane 4 { w_laneFrameDecision_data.lane 4 with dec := some (w_laneFrameDecision_data.time.k, 3, 2) }) ∧ (w_laneFrameDecision_data.bit MAC_CTRL_NET_EN = true) ∧ (w_laneFrameDecision_data.boot.loaded.contains 5 = true) ∧ (w_laneFrameDecision_data.onAir 4 w_laneFrameDecision_data.time.k 3 = some (1001, 33)) ∧ (w_laneFrameDecision_data.slotFull (w_laneFrameDecision_data.prof 4) 1001 3 = true)) ∧ (match exec (.laneFrameDecision 4 3 2) w_laneFrameDecision_data with
    | .next t => decide ((t = (if w_laneFrameDecision_data.prof 4 = 0 then ((State.setLane (wMacAt 7896000 []) 4 { State.lane (wMacAt 7896000 []) 4 with dec := some (1001, 3, 2) }) : State).decideData0 4 3 w_laneFrameDecision_data.time.k 1001 33 else ((State.setLane (wMacAt 7896000 []) 4 { State.lane (wMacAt 7896000 []) 4 with dec := some (1001, 3, 2) }) : State).decideDataS 4 3 w_laneFrameDecision_data.time.k 1001 33)))
    | _ => false) = true := by decide +kernel

def w_airFrameReceive_none : State := wMacAt 19000000 []

theorem test_airFrameReceive_none : ((w_airFrameReceive_none.stopSafe = true) ∧ (8 ≤ 4 ∨ w_airFrameReceive_none.laneReady 4 = false ∨ w_airFrameReceive_none.boot.loaded.contains 5 = false ∨ w_airFrameReceive_none.time.grid = false ∨ (if w_airFrameReceive_none.prof 4 = 0 then 2 else 1) < 3 ∨ w_airFrameReceive_none.inCapture 4 (w_airFrameReceive_none.slotNow 4) (0 * (if w_airFrameReceive_none.prof 4 = 0 then 100 else 10)) = false)) ∧ (match exec (.airFrameReceive 4 3 ([1] : List Nat) 0 0 0 0) w_airFrameReceive_none with
    | .next t => decide ((t = w_airFrameReceive_none))
    | _ => false) = true := by decide +kernel

def w_airFrameReceive_bad : State := wMacAt 19000000 []

theorem test_airFrameReceive_bad : ((w_airFrameReceive_bad.stopSafe = true) ∧ (4 < 8) ∧ (w_airFrameReceive_bad.laneReady 4 = true) ∧ (w_airFrameReceive_bad.boot.loaded.contains 5 = true) ∧ (w_airFrameReceive_bad.time.grid = true) ∧ (1 ≤ (if w_airFrameReceive_bad.prof 4 = 0 then 2 else 1)) ∧ (0 = 0 * (if w_airFrameReceive_bad.prof 4 = 0 then 100 else 10)) ∧ (7 = w_airFrameReceive_bad.slotNow 4) ∧ (w_airFrameReceive_bad.inCapture 4 7 0 = true) ∧ (psduParse (w_airFrameReceive_bad.prof 4) ([1, 2, 3, 4] : List Nat) = none)) ∧ (match exec (.airFrameReceive 4 1 ([1, 2, 3, 4] : List Nat) (-60 : Int) 0 10 (-20 : Int)) w_airFrameReceive_bad with
    | .next t => decide ((Reads t [(LANE_RX_RX_CRC_FAIL 4, w_airFrameReceive_bad.adv (LANE_RX_RX_CRC_FAIL 4))]))
    | _ => false) = true := by decide +kernel

def w_airFrameReceive : State := wMacAt 19000000 []

theorem test_airFrameReceive : (w_airFrameReceive.stopSafe = true) ∧ (4 < 8) ∧ (w_airFrameReceive.laneReady 4 = true) ∧ (w_airFrameReceive.boot.loaded.contains 5 = true) ∧ (w_airFrameReceive.time.grid = true) ∧ (1 ≤ (if w_airFrameReceive.prof 4 = 0 then 2 else 1)) ∧ (0 = 0 * (if w_airFrameReceive.prof 4 = 0 then 100 else 10)) ∧ (7 = w_airFrameReceive.slotNow 4) ∧ (w_airFrameReceive.inCapture 4 7 0 = true) ∧ (psduParse (w_airFrameReceive.prof 4) (whiten (psduOf 0 [1, 2, 3]) : List Nat) = some ([1, 2, 3] : List Nat)) ∧ (w_airFrameReceive.ivNow 4 = 2) ∧ (w_airFrameReceive.partnerSlot 4 w_airFrameReceive.time.k 7 = false) := by decide +kernel

def w_airFrameReceive_stopWindow : State := wMacAt 17600000 []

theorem test_airFrameReceive_stopWindow : (w_airFrameReceive_stopWindow.stopSafe = true) ∧ (4 < 8) ∧ (w_airFrameReceive_stopWindow.laneReady 4 = true) ∧ (w_airFrameReceive_stopWindow.boot.loaded.contains 5 = true) ∧ (w_airFrameReceive_stopWindow.time.grid = true) ∧ (1 ≤ (if w_airFrameReceive_stopWindow.prof 4 = 0 then 2 else 1)) ∧ (0 = 0 * (if w_airFrameReceive_stopWindow.prof 4 = 0 then 100 else 10)) ∧ (7 = w_airFrameReceive_stopWindow.slotNow 4) ∧ (w_airFrameReceive_stopWindow.inCapture 4 7 0 = true) ∧ (psduParse (w_airFrameReceive_stopWindow.prof 4) (whiten (psduOf 0 [1, 2, 3]) : List Nat) = some ([1, 2, 3] : List Nat)) ∧ (w_airFrameReceive_stopWindow.ivNow 4 ≠ 2) := by decide +kernel

def w_airFrameReceive_bell : State := wMacAt 3500000 []

theorem test_airFrameReceive_bell : (w_airFrameReceive_bell.stopSafe = true) ∧ (4 < 8) ∧ (w_airFrameReceive_bell.laneReady 4 = true) ∧ (w_airFrameReceive_bell.boot.loaded.contains 5 = true) ∧ (w_airFrameReceive_bell.time.grid = true) ∧ (1 ≤ (if w_airFrameReceive_bell.prof 4 = 0 then 2 else 1)) ∧ (0 = 0 * (if w_airFrameReceive_bell.prof 4 = 0 then 100 else 10)) ∧ (1 = w_airFrameReceive_bell.slotNow 4) ∧ (w_airFrameReceive_bell.inCapture 4 1 0 = true) ∧ (psduParse (w_airFrameReceive_bell.prof 4) (whiten (psduOf 0 (sealMpdu (List.replicate 16 7) (nwkNonce 1001 1 4 2 true 0xE1) 0 0xE1 (bellBody 1001 3 0 0) 0)) : List Nat) = some (sealMpdu (List.replicate 16 7) (nwkNonce 1001 1 4 2 true 0xE1) 0 0xE1 (bellBody 1001 3 0 0) 0 : List Nat)) ∧ (w_airFrameReceive_bell.ivNow 4 = 2) ∧ (w_airFrameReceive_bell.partnerSlot 4 w_airFrameReceive_bell.time.k 1 = true) ∧ (w_airFrameReceive_bell.sfnAt w_airFrameReceive_bell.time.k = some 1001) ∧ (leAt (sealMpdu (List.replicate 16 7) (nwkNonce 1001 1 4 2 true 0xE1) 0 0xE1 (bellBody 1001 3 0 0) 0 : List Nat) 0 1 % 16 = 0) ∧ (225 = 0xE0 + (1 - w_airFrameReceive_bell.unitBit)) ∧ (leAt (sealMpdu (List.replicate 16 7) (nwkNonce 1001 1 4 2 true 0xE1) 0 0xE1 (bellBody 1001 3 0 0) 0 : List Nat) 1 1 = 225) ∧ (5 = (if bitOf (leAt (sealMpdu (List.replicate 16 7) (nwkNonce 1001 1 4 2 true 0xE1) 0 0xE1 (bellBody 1001 3 0 0) 0 : List Nat) 0 1) 4 then 6 else 5)) ∧ (w_airFrameReceive_bell.useKey (w_airFrameReceive_bell.get MAC_KEYS_NWK_KEY_SLOT) 1 2 = some (List.replicate 16 7 : List Nat)) ∧ (openMpdu (List.replicate 16 7 : List Nat) (nwkNonce 1001 1 4 2 true 225) (sealMpdu (List.replicate 16 7) (nwkNonce 1001 1 4 2 true 0xE1) 0 0xE1 (bellBody 1001 3 0 0) 0 : List Nat) = some ([0, 0xE1, 0xFF, 0, 0] ++ bellBody 1001 3 0 0 : List Nat)) ∧ (parseItems ([0, 0xE1, 0xFF, 0, 0] ++ bellBody 1001 3 0 0 : List Nat).length (([0, 0xE1, 0xFF, 0, 0] ++ bellBody 1001 3 0 0 : List Nat).drop (5 + 55)) = some ([] : List (Nat × List Nat))) ∧ (bellOk (w_airFrameReceive_bell.prof 4) (([0, 0xE1, 0xFF, 0, 0] ++ bellBody 1001 3 0 0 : List Nat).drop 5) ([] : List (Nat × List Nat)) = true) ∧ (true = bitOf (leAt ([0, 0xE1, 0xFF, 0, 0] ++ bellBody 1001 3 0 0 : List Nat) (5 + 14) 2) 1) := by decide +kernel

def w_airFrameReceive_partner : State := wMacAt 3500000 []

theorem test_airFrameReceive_partner : (w_airFrameReceive_partner.stopSafe = true) ∧ (4 < 8) ∧ (w_airFrameReceive_partner.laneReady 4 = true) ∧ (w_airFrameReceive_partner.boot.loaded.contains 5 = true) ∧ (w_airFrameReceive_partner.time.grid = true) ∧ (1 ≤ (if w_airFrameReceive_partner.prof 4 = 0 then 2 else 1)) ∧ (0 = 0 * (if w_airFrameReceive_partner.prof 4 = 0 then 100 else 10)) ∧ (1 = w_airFrameReceive_partner.slotNow 4) ∧ (w_airFrameReceive_partner.inCapture 4 1 0 = true) ∧ (psduParse (w_airFrameReceive_partner.prof 4) (whiten (psduOf 0 [1, 2, 3]) : List Nat) = some ([1, 2, 3] : List Nat)) ∧ (w_airFrameReceive_partner.ivNow 4 = 2) ∧ (w_airFrameReceive_partner.partnerSlot 4 w_airFrameReceive_partner.time.k 1 = true) := by decide +kernel

def w_uplinkReceive_none : State := wMac []

theorem test_uplinkReceive_none : ((w_uplinkReceive_none.stopSafe = true) ∧ ((w_uplinkReceive_none.mac.rx = []) ∨ (w_uplinkReceive_none.mac.rx = (wUp 1000 8 7 0 0 [] : RxFrame) :: ([] : List RxFrame) ∧ assocSlot (w_uplinkReceive_none.prof (wUp 1000 8 7 0 0 [] : RxFrame).lane) (wUp 1000 8 7 0 0 [] : RxFrame).k (wUp 1000 8 7 0 0 [] : RxFrame).slot = true))) ∧ (match exec (.uplinkReceive) w_uplinkReceive_none with
    | .next t => decide ((t = w_uplinkReceive_none))
    | _ => false) = true := by decide +kernel

def w_uplinkReceive_malformed : State := { wMac [] with mac := { rx := [{ lane := 4, k := 1000, slot := 7, rssi := -60, mpdu := [9, 9] }] } }

theorem test_uplinkReceive_malformed : ((w_uplinkReceive_malformed.stopSafe = true) ∧ (w_uplinkReceive_malformed.mac.rx = ({ lane := 4, k := 1000, slot := 7, rssi := -60, mpdu := [9, 9] } : RxFrame) :: ([] : List RxFrame)) ∧ (assocSlot (w_uplinkReceive_malformed.prof ({ lane := 4, k := 1000, slot := 7, rssi := -60, mpdu := [9, 9] } : RxFrame).lane) ({ lane := 4, k := 1000, slot := 7, rssi := -60, mpdu := [9, 9] } : RxFrame).k ({ lane := 4, k := 1000, slot := 7, rssi := -60, mpdu := [9, 9] } : RxFrame).slot = false) ∧ (7 = (if w_uplinkReceive_malformed.prof ({ lane := 4, k := 1000, slot := 7, rssi := -60, mpdu := [9, 9] } : RxFrame).lane = 0 then ({ lane := 4, k := 1000, slot := 7, rssi := -60, mpdu := [9, 9] } : RxFrame).slot else 10 * (({ lane := 4, k := 1000, slot := 7, rssi := -60, mpdu := [9, 9] } : RxFrame).k % 10) + ({ lane := 4, k := 1000, slot := 7, rssi := -60, mpdu := [9, 9] } : RxFrame).slot)) ∧ (¬((slotCut (w_uplinkReceive_malformed.prof ({ lane := 4, k := 1000, slot := 7, rssi := -60, mpdu := [9, 9] } : RxFrame).lane) 7).isSome = true ∧ leAt ({ lane := 4, k := 1000, slot := 7, rssi := -60, mpdu := [9, 9] } : RxFrame).mpdu 0 1 % 16 = 1 ∧ leAt ({ lane := 4, k := 1000, slot := 7, rssi := -60, mpdu := [9, 9] } : RxFrame).mpdu 1 1 = 0xE0 + (1 - w_uplinkReceive_malformed.unitBit))) ∧ (slotKind (w_uplinkReceive_malformed.prof ({ lane := 4, k := 1000, slot := 7, rssi := -60, mpdu := [9, 9] } : RxFrame).lane) 7 ≠ 1 ∨ leAt ({ lane := 4, k := 1000, slot := 7, rssi := -60, mpdu := [9, 9] } : RxFrame).mpdu 0 1 % 16 ≠ 2)) ∧ (match exec (.uplinkReceive) w_uplinkReceive_malformed with
    | .next t => decide ((Reads t [(MAC_CNT_A_MALFORMED, w_uplinkReceive_malformed.adv MAC_CNT_A_MALFORMED)]) ∧ (t.mac = { w_uplinkReceive_malformed.mac with rx := ([] : List RxFrame) }))
    | _ => false) = true := by decide +kernel

def w_uplinkReceive_stray : State := { wMac [(SLOT_OWNER 4 7, 9)] with mac := { rx := [wUp 1000 8 7 0 0 []] } }

theorem test_uplinkReceive_stray : ((w_uplinkReceive_stray.stopSafe = true) ∧ (w_uplinkReceive_stray.mac.rx = (wUp 1000 8 7 0 0 [] : RxFrame) :: ([] : List RxFrame)) ∧ (assocSlot (w_uplinkReceive_stray.prof (wUp 1000 8 7 0 0 [] : RxFrame).lane) (wUp 1000 8 7 0 0 [] : RxFrame).k (wUp 1000 8 7 0 0 [] : RxFrame).slot = false) ∧ (7 = (if w_uplinkReceive_stray.prof (wUp 1000 8 7 0 0 [] : RxFrame).lane = 0 then (wUp 1000 8 7 0 0 [] : RxFrame).slot else 10 * ((wUp 1000 8 7 0 0 [] : RxFrame).k % 10) + (wUp 1000 8 7 0 0 [] : RxFrame).slot)) ∧ (¬((slotCut (w_uplinkReceive_stray.prof (wUp 1000 8 7 0 0 [] : RxFrame).lane) 7).isSome = true ∧ leAt (wUp 1000 8 7 0 0 [] : RxFrame).mpdu 0 1 % 16 = 1 ∧ leAt (wUp 1000 8 7 0 0 [] : RxFrame).mpdu 1 1 = 0xE0 + (1 - w_uplinkReceive_stray.unitBit))) ∧ (slotKind (w_uplinkReceive_stray.prof (wUp 1000 8 7 0 0 [] : RxFrame).lane) 7 = 1) ∧ (leAt (wUp 1000 8 7 0 0 [] : RxFrame).mpdu 0 1 % 16 = 2) ∧ ((wMac [(SLOT_OWNER 4 7, 9)] : State) = { w_uplinkReceive_stray with mac := { w_uplinkReceive_stray.mac with rx := ([] : List RxFrame) } }) ∧ (leAt (wUp 1000 8 7 0 0 [] : RxFrame).mpdu 1 1 = 0 ∨ w_uplinkReceive_stray.owner (w_uplinkReceive_stray.get SLOT_CTRL_BANK) (wUp 1000 8 7 0 0 [] : RxFrame).lane 7 ≠ leAt (wUp 1000 8 7 0 0 [] : RxFrame).mpdu 1 1)) ∧ (match exec (.uplinkReceive) w_uplinkReceive_stray with
    | .next t => decide ((Reads t [(MAC_CNT_C_STRAY, w_uplinkReceive_stray.adv MAC_CNT_C_STRAY)]) ∧ (t.mac = ((wMac [(SLOT_OWNER 4 7, 9)] : State).laneCount (wUp 1000 8 7 0 0 [] : RxFrame).lane (fun c => { c with stray := min (c.stray + 1) 255 })).mac))
    | _ => false) = true := by decide +kernel

def w_uplinkReceive_mic : State := { wMac [(SLOT_OWNER 4 7, 9)] with mac := { rx := [{ wUp 1000 9 7 0 0 [] with mpdu := [2, 9, 0xE0, 0, 0, 0, 0, 0] }] } }

theorem test_uplinkReceive_mic : ((w_uplinkReceive_mic.stopSafe = true) ∧ (w_uplinkReceive_mic.mac.rx = ({ wUp 1000 9 7 0 0 [] with mpdu := [2, 9, 0xE0, 0, 0, 0, 0, 0] } : RxFrame) :: ([] : List RxFrame)) ∧ (assocSlot (w_uplinkReceive_mic.prof ({ wUp 1000 9 7 0 0 [] with mpdu := [2, 9, 0xE0, 0, 0, 0, 0, 0] } : RxFrame).lane) ({ wUp 1000 9 7 0 0 [] with mpdu := [2, 9, 0xE0, 0, 0, 0, 0, 0] } : RxFrame).k ({ wUp 1000 9 7 0 0 [] with mpdu := [2, 9, 0xE0, 0, 0, 0, 0, 0] } : RxFrame).slot = false) ∧ (7 = (if w_uplinkReceive_mic.prof ({ wUp 1000 9 7 0 0 [] with mpdu := [2, 9, 0xE0, 0, 0, 0, 0, 0] } : RxFrame).lane = 0 then ({ wUp 1000 9 7 0 0 [] with mpdu := [2, 9, 0xE0, 0, 0, 0, 0, 0] } : RxFrame).slot else 10 * (({ wUp 1000 9 7 0 0 [] with mpdu := [2, 9, 0xE0, 0, 0, 0, 0, 0] } : RxFrame).k % 10) + ({ wUp 1000 9 7 0 0 [] with mpdu := [2, 9, 0xE0, 0, 0, 0, 0, 0] } : RxFrame).slot)) ∧ (¬((slotCut (w_uplinkReceive_mic.prof ({ wUp 1000 9 7 0 0 [] with mpdu := [2, 9, 0xE0, 0, 0, 0, 0, 0] } : RxFrame).lane) 7).isSome = true ∧ leAt ({ wUp 1000 9 7 0 0 [] with mpdu := [2, 9, 0xE0, 0, 0, 0, 0, 0] } : RxFrame).mpdu 0 1 % 16 = 1 ∧ leAt ({ wUp 1000 9 7 0 0 [] with mpdu := [2, 9, 0xE0, 0, 0, 0, 0, 0] } : RxFrame).mpdu 1 1 = 0xE0 + (1 - w_uplinkReceive_mic.unitBit))) ∧ (slotKind (w_uplinkReceive_mic.prof ({ wUp 1000 9 7 0 0 [] with mpdu := [2, 9, 0xE0, 0, 0, 0, 0, 0] } : RxFrame).lane) 7 = 1) ∧ (leAt ({ wUp 1000 9 7 0 0 [] with mpdu := [2, 9, 0xE0, 0, 0, 0, 0, 0] } : RxFrame).mpdu 0 1 % 16 = 2) ∧ (leAt ({ wUp 1000 9 7 0 0 [] with mpdu := [2, 9, 0xE0, 0, 0, 0, 0, 0] } : RxFrame).mpdu 1 1 ≠ 0) ∧ (w_uplinkReceive_mic.owner (w_uplinkReceive_mic.get SLOT_CTRL_BANK) ({ wUp 1000 9 7 0 0 [] with mpdu := [2, 9, 0xE0, 0, 0, 0, 0, 0] } : RxFrame).lane 7 = leAt ({ wUp 1000 9 7 0 0 [] with mpdu := [2, 9, 0xE0, 0, 0, 0, 0, 0] } : RxFrame).mpdu 1 1) ∧ ((wMac [(SLOT_OWNER 4 7, 9)] : State) = { w_uplinkReceive_mic with mac := { w_uplinkReceive_mic.mac with rx := ([] : List RxFrame) } }) ∧ (w_uplinkReceive_mic.useKey (w_uplinkReceive_mic.get MAC_KEYS_NWK_KEY_SLOT) 1 2 = some (List.replicate 16 7 : List Nat)) ∧ (w_uplinkReceive_mic.sfnAt ({ wUp 1000 9 7 0 0 [] with mpdu := [2, 9, 0xE0, 0, 0, 0, 0, 0] } : RxFrame).k = some 1000) ∧ (openMpdu (List.replicate 16 7 : List Nat) (nwkNonce 1000 ({ wUp 1000 9 7 0 0 [] with mpdu := [2, 9, 0xE0, 0, 0, 0, 0, 0] } : RxFrame).slot ({ wUp 1000 9 7 0 0 [] with mpdu := [2, 9, 0xE0, 0, 0, 0, 0, 0] } : RxFrame).lane 2 false (leAt ({ wUp 1000 9 7 0 0 [] with mpdu := [2, 9, 0xE0, 0, 0, 0, 0, 0] } : RxFrame).mpdu 1 1)) ({ wUp 1000 9 7 0 0 [] with mpdu := [2, 9, 0xE0, 0, 0, 0, 0, 0] } : RxFrame).mpdu = none)) ∧ (match exec (.uplinkReceive) w_uplinkReceive_mic with
    | .next t => decide ((Reads t [(MAC_CNT_A_MIC_FAIL, w_uplinkReceive_mic.adv MAC_CNT_A_MIC_FAIL)]) ∧ (t.mac = ((wMac [(SLOT_OWNER 4 7, 9)] : State).laneCount ({ wUp 1000 9 7 0 0 [] with mpdu := [2, 9, 0xE0, 0, 0, 0, 0, 0] } : RxFrame).lane (fun c => { c with micFail := min (c.micFail + 1) 255 })).mac))
    | _ => false) = true := by decide +kernel

def w_uplinkReceive_noKey : State := { wMac [(SLOT_OWNER 4 7, 9), (KS_SLOT_W0_TYPE 5, 0)] with mac := { rx := [wUp 1000 9 7 0 0 []] } }

theorem test_uplinkReceive_noKey : ((w_uplinkReceive_noKey.stopSafe = true) ∧ (w_uplinkReceive_noKey.mac.rx = (wUp 1000 9 7 0 0 [] : RxFrame) :: ([] : List RxFrame)) ∧ (assocSlot (w_uplinkReceive_noKey.prof (wUp 1000 9 7 0 0 [] : RxFrame).lane) (wUp 1000 9 7 0 0 [] : RxFrame).k (wUp 1000 9 7 0 0 [] : RxFrame).slot = false) ∧ (7 = (if w_uplinkReceive_noKey.prof (wUp 1000 9 7 0 0 [] : RxFrame).lane = 0 then (wUp 1000 9 7 0 0 [] : RxFrame).slot else 10 * ((wUp 1000 9 7 0 0 [] : RxFrame).k % 10) + (wUp 1000 9 7 0 0 [] : RxFrame).slot)) ∧ (¬((slotCut (w_uplinkReceive_noKey.prof (wUp 1000 9 7 0 0 [] : RxFrame).lane) 7).isSome = true ∧ leAt (wUp 1000 9 7 0 0 [] : RxFrame).mpdu 0 1 % 16 = 1 ∧ leAt (wUp 1000 9 7 0 0 [] : RxFrame).mpdu 1 1 = 0xE0 + (1 - w_uplinkReceive_noKey.unitBit))) ∧ (slotKind (w_uplinkReceive_noKey.prof (wUp 1000 9 7 0 0 [] : RxFrame).lane) 7 = 1) ∧ (leAt (wUp 1000 9 7 0 0 [] : RxFrame).mpdu 0 1 % 16 = 2) ∧ (leAt (wUp 1000 9 7 0 0 [] : RxFrame).mpdu 1 1 ≠ 0) ∧ (w_uplinkReceive_noKey.owner (w_uplinkReceive_noKey.get SLOT_CTRL_BANK) (wUp 1000 9 7 0 0 [] : RxFrame).lane 7 = leAt (wUp 1000 9 7 0 0 [] : RxFrame).mpdu 1 1) ∧ ((wMac [(SLOT_OWNER 4 7, 9), (KS_SLOT_W0_TYPE 5, 0)] : State) = { w_uplinkReceive_noKey with mac := { w_uplinkReceive_noKey.mac with rx := ([] : List RxFrame) } }) ∧ (w_uplinkReceive_noKey.useKey (w_uplinkReceive_noKey.get MAC_KEYS_NWK_KEY_SLOT) 1 2 = none ∨ w_uplinkReceive_noKey.sfnAt (wUp 1000 9 7 0 0 [] : RxFrame).k = none)) ∧ (match exec (.uplinkReceive) w_uplinkReceive_noKey with
    | .next t => decide ((Reads t [(MAC_CNT_A_MIC_FAIL, w_uplinkReceive_noKey.adv MAC_CNT_A_MIC_FAIL), (KS_CNT_ORPHAN_ABORTS, (w_uplinkReceive_noKey.keyAbort (w_uplinkReceive_noKey.get MAC_KEYS_NWK_KEY_SLOT) 1 2).get KS_CNT_ORPHAN_ABORTS)]) ∧ (t.mac = ((wMac [(SLOT_OWNER 4 7, 9), (KS_SLOT_W0_TYPE 5, 0)] : State).laneCount (wUp 1000 9 7 0 0 [] : RxFrame).lane (fun c => { c with micFail := min (c.micFail + 1) 255 })).mac))
    | _ => false) = true := by decide +kernel

def w_uplinkReceive_bad : State := { wMac [(SLOT_OWNER 4 7, 9)] with mac := { rx := [wUp 1000 9 7 0 0 [0x77]] } }

theorem test_uplinkReceive_bad : ((w_uplinkReceive_bad.stopSafe = true) ∧ (w_uplinkReceive_bad.mac.rx = (wUp 1000 9 7 0 0 [0x77] : RxFrame) :: ([] : List RxFrame)) ∧ (assocSlot (w_uplinkReceive_bad.prof (wUp 1000 9 7 0 0 [0x77] : RxFrame).lane) (wUp 1000 9 7 0 0 [0x77] : RxFrame).k (wUp 1000 9 7 0 0 [0x77] : RxFrame).slot = false) ∧ (7 = (if w_uplinkReceive_bad.prof (wUp 1000 9 7 0 0 [0x77] : RxFrame).lane = 0 then (wUp 1000 9 7 0 0 [0x77] : RxFrame).slot else 10 * ((wUp 1000 9 7 0 0 [0x77] : RxFrame).k % 10) + (wUp 1000 9 7 0 0 [0x77] : RxFrame).slot)) ∧ (¬((slotCut (w_uplinkReceive_bad.prof (wUp 1000 9 7 0 0 [0x77] : RxFrame).lane) 7).isSome = true ∧ leAt (wUp 1000 9 7 0 0 [0x77] : RxFrame).mpdu 0 1 % 16 = 1 ∧ leAt (wUp 1000 9 7 0 0 [0x77] : RxFrame).mpdu 1 1 = 0xE0 + (1 - w_uplinkReceive_bad.unitBit))) ∧ (slotKind (w_uplinkReceive_bad.prof (wUp 1000 9 7 0 0 [0x77] : RxFrame).lane) 7 = 1) ∧ (leAt (wUp 1000 9 7 0 0 [0x77] : RxFrame).mpdu 0 1 % 16 = 2) ∧ (leAt (wUp 1000 9 7 0 0 [0x77] : RxFrame).mpdu 1 1 ≠ 0) ∧ (w_uplinkReceive_bad.owner (w_uplinkReceive_bad.get SLOT_CTRL_BANK) (wUp 1000 9 7 0 0 [0x77] : RxFrame).lane 7 = leAt (wUp 1000 9 7 0 0 [0x77] : RxFrame).mpdu 1 1) ∧ (w_uplinkReceive_bad.useKey (w_uplinkReceive_bad.get MAC_KEYS_NWK_KEY_SLOT) 1 2 = some (List.replicate 16 7 : List Nat)) ∧ (w_uplinkReceive_bad.sfnAt (wUp 1000 9 7 0 0 [0x77] : RxFrame).k = some 1000) ∧ (openMpdu (List.replicate 16 7 : List Nat) (nwkNonce 1000 (wUp 1000 9 7 0 0 [0x77] : RxFrame).slot (wUp 1000 9 7 0 0 [0x77] : RxFrame).lane 2 false (leAt (wUp 1000 9 7 0 0 [0x77] : RxFrame).mpdu 1 1)) (wUp 1000 9 7 0 0 [0x77] : RxFrame).mpdu = some ([2, 9, 0xE0, 0, 0, 0, 0, 0, 0x77] : List Nat)) ∧ (parseUplink (w_uplinkReceive_bad.prof (wUp 1000 9 7 0 0 [0x77] : RxFrame).lane) ([2, 9, 0xE0, 0, 0, 0, 0, 0, 0x77] : List Nat) = none)) ∧ (match exec (.uplinkReceive) w_uplinkReceive_bad with
    | .next t => decide ((Reads t [(MAC_CNT_A_MALFORMED, w_uplinkReceive_bad.adv MAC_CNT_A_MALFORMED)]) ∧ (t.mac = { w_uplinkReceive_bad.mac with rx := ([] : List RxFrame) }))
    | _ => false) = true := by decide +kernel

def w_uplinkReceive_digest : State := { wMac [] with mac := { rx := [{ lane := 4, k := 1000, slot := 38, rssi := -60, mpdu := sealMpdu (List.replicate 16 7) (nwkNonce 1000 38 4 2 true 0xE1) 1 0xE1 (leBytes 4 2 ++ [1] ++ []) 0 }] } }

theorem test_uplinkReceive_digest : ((w_uplinkReceive_digest.stopSafe = true) ∧ (w_uplinkReceive_digest.mac.rx = ({ lane := 4, k := 1000, slot := 38, rssi := -60, mpdu := sealMpdu (List.replicate 16 7) (nwkNonce 1000 38 4 2 true 0xE1) 1 0xE1 (leBytes 4 2 ++ [1] ++ []) 0 } : RxFrame) :: ([] : List RxFrame)) ∧ (assocSlot (w_uplinkReceive_digest.prof ({ lane := 4, k := 1000, slot := 38, rssi := -60, mpdu := sealMpdu (List.replicate 16 7) (nwkNonce 1000 38 4 2 true 0xE1) 1 0xE1 (leBytes 4 2 ++ [1] ++ []) 0 } : RxFrame).lane) ({ lane := 4, k := 1000, slot := 38, rssi := -60, mpdu := sealMpdu (List.replicate 16 7) (nwkNonce 1000 38 4 2 true 0xE1) 1 0xE1 (leBytes 4 2 ++ [1] ++ []) 0 } : RxFrame).k ({ lane := 4, k := 1000, slot := 38, rssi := -60, mpdu := sealMpdu (List.replicate 16 7) (nwkNonce 1000 38 4 2 true 0xE1) 1 0xE1 (leBytes 4 2 ++ [1] ++ []) 0 } : RxFrame).slot = false) ∧ (38 = (if w_uplinkReceive_digest.prof ({ lane := 4, k := 1000, slot := 38, rssi := -60, mpdu := sealMpdu (List.replicate 16 7) (nwkNonce 1000 38 4 2 true 0xE1) 1 0xE1 (leBytes 4 2 ++ [1] ++ []) 0 } : RxFrame).lane = 0 then ({ lane := 4, k := 1000, slot := 38, rssi := -60, mpdu := sealMpdu (List.replicate 16 7) (nwkNonce 1000 38 4 2 true 0xE1) 1 0xE1 (leBytes 4 2 ++ [1] ++ []) 0 } : RxFrame).slot else 10 * (({ lane := 4, k := 1000, slot := 38, rssi := -60, mpdu := sealMpdu (List.replicate 16 7) (nwkNonce 1000 38 4 2 true 0xE1) 1 0xE1 (leBytes 4 2 ++ [1] ++ []) 0 } : RxFrame).k % 10) + ({ lane := 4, k := 1000, slot := 38, rssi := -60, mpdu := sealMpdu (List.replicate 16 7) (nwkNonce 1000 38 4 2 true 0xE1) 1 0xE1 (leBytes 4 2 ++ [1] ++ []) 0 } : RxFrame).slot)) ∧ ((slotCut (w_uplinkReceive_digest.prof ({ lane := 4, k := 1000, slot := 38, rssi := -60, mpdu := sealMpdu (List.replicate 16 7) (nwkNonce 1000 38 4 2 true 0xE1) 1 0xE1 (leBytes 4 2 ++ [1] ++ []) 0 } : RxFrame).lane) 38).isSome = true) ∧ (leAt ({ lane := 4, k := 1000, slot := 38, rssi := -60, mpdu := sealMpdu (List.replicate 16 7) (nwkNonce 1000 38 4 2 true 0xE1) 1 0xE1 (leBytes 4 2 ++ [1] ++ []) 0 } : RxFrame).mpdu 0 1 % 16 = 1) ∧ (leAt ({ lane := 4, k := 1000, slot := 38, rssi := -60, mpdu := sealMpdu (List.replicate 16 7) (nwkNonce 1000 38 4 2 true 0xE1) 1 0xE1 (leBytes 4 2 ++ [1] ++ []) 0 } : RxFrame).mpdu 1 1 = 0xE0 + (1 - w_uplinkReceive_digest.unitBit)) ∧ ((wMac [] : State) = { w_uplinkReceive_digest with mac := { w_uplinkReceive_digest.mac with rx := ([] : List RxFrame) } })) ∧ (match exec (.uplinkReceive) w_uplinkReceive_digest with
    | .next t => decide ((t = (wMac [] : State).takeDigest ({ lane := 4, k := 1000, slot := 38, rssi := -60, mpdu := sealMpdu (List.replicate 16 7) (nwkNonce 1000 38 4 2 true 0xE1) 1 0xE1 (leBytes 4 2 ++ [1] ++ []) 0 } : RxFrame) ((slotCut (w_uplinkReceive_digest.prof ({ lane := 4, k := 1000, slot := 38, rssi := -60, mpdu := sealMpdu (List.replicate 16 7) (nwkNonce 1000 38 4 2 true 0xE1) 1 0xE1 (leBytes 4 2 ++ [1] ++ []) 0 } : RxFrame).lane) 38).getD 0)) ∧ (t.mac.rx = ([] : List RxFrame)))
    | _ => false) = true := by decide +kernel

def w_uplinkReceive_standby : State := { wMac [(SLOT_OWNER 4 7, 9), (MEMBER_W2_STATE 9, 2), (MEMBER_W2_LANE 9, 4), (PAIR_STATUS_ACTIVE, 0)] with mac := { rx := [wUp 1000 9 7 0 8 []], members := [(9, {})] } }

theorem test_uplinkReceive_standby : ((w_uplinkReceive_standby.stopSafe = true) ∧ (w_uplinkReceive_standby.mac.rx = (wUp 1000 9 7 0 8 [] : RxFrame) :: ([] : List RxFrame)) ∧ (assocSlot (w_uplinkReceive_standby.prof (wUp 1000 9 7 0 8 [] : RxFrame).lane) (wUp 1000 9 7 0 8 [] : RxFrame).k (wUp 1000 9 7 0 8 [] : RxFrame).slot = false) ∧ (7 = (if w_uplinkReceive_standby.prof (wUp 1000 9 7 0 8 [] : RxFrame).lane = 0 then (wUp 1000 9 7 0 8 [] : RxFrame).slot else 10 * ((wUp 1000 9 7 0 8 [] : RxFrame).k % 10) + (wUp 1000 9 7 0 8 [] : RxFrame).slot)) ∧ (¬((slotCut (w_uplinkReceive_standby.prof (wUp 1000 9 7 0 8 [] : RxFrame).lane) 7).isSome = true ∧ leAt (wUp 1000 9 7 0 8 [] : RxFrame).mpdu 0 1 % 16 = 1 ∧ leAt (wUp 1000 9 7 0 8 [] : RxFrame).mpdu 1 1 = 0xE0 + (1 - w_uplinkReceive_standby.unitBit))) ∧ (slotKind (w_uplinkReceive_standby.prof (wUp 1000 9 7 0 8 [] : RxFrame).lane) 7 = 1) ∧ (leAt (wUp 1000 9 7 0 8 [] : RxFrame).mpdu 0 1 % 16 = 2) ∧ (leAt (wUp 1000 9 7 0 8 [] : RxFrame).mpdu 1 1 ≠ 0) ∧ (w_uplinkReceive_standby.owner (w_uplinkReceive_standby.get SLOT_CTRL_BANK) (wUp 1000 9 7 0 8 [] : RxFrame).lane 7 = leAt (wUp 1000 9 7 0 8 [] : RxFrame).mpdu 1 1) ∧ (w_uplinkReceive_standby.useKey (w_uplinkReceive_standby.get MAC_KEYS_NWK_KEY_SLOT) 1 2 = some (List.replicate 16 7 : List Nat)) ∧ (w_uplinkReceive_standby.sfnAt (wUp 1000 9 7 0 8 [] : RxFrame).k = some 1000) ∧ (openMpdu (List.replicate 16 7 : List Nat) (nwkNonce 1000 (wUp 1000 9 7 0 8 [] : RxFrame).slot (wUp 1000 9 7 0 8 [] : RxFrame).lane 2 false (leAt (wUp 1000 9 7 0 8 [] : RxFrame).mpdu 1 1)) (wUp 1000 9 7 0 8 [] : RxFrame).mpdu = some ([2, 9, 0xE0, 0, 0, 0, 0, 8] : List Nat)) ∧ (parseUplink (w_uplinkReceive_standby.prof (wUp 1000 9 7 0 8 [] : RxFrame).lane) ([2, 9, 0xE0, 0, 0, 0, 0, 8] : List Nat) = some ({ addr := 9, dst := 0xE0, seq := 0, dack := 0, mstate := 8, items := [] } : Uplink)) ∧ ((State.laneCount { ({ wMac [(SLOT_OWNER 4 7, 9), (MEMBER_W2_STATE 9, 2), (MEMBER_W2_LANE 9, 4), (PAIR_STATUS_ACTIVE, 0)] with mac := { rx := [wUp 1000 9 7 0 8 []], members := [(9, {})] } }) with mac := { ({ wMac [(SLOT_OWNER 4 7, 9), (MEMBER_W2_STATE 9, 2), (MEMBER_W2_LANE 9, 4), (PAIR_STATUS_ACTIVE, 0)] with mac := { rx := [wUp 1000 9 7 0 8 []], members := [(9, {})] } }).mac with rx := [], upFrom := [9] } } 4 (fun c => { c with upOk := min (c.upOk + 1) 255, rssiMin := if (-61 : Int) < c.rssiMin then -61 else c.rssiMin }) : State) = State.laneCount { w_uplinkReceive_standby with mac := { w_uplinkReceive_standby.mac with rx := ([] : List RxFrame), upFrom := w_uplinkReceive_standby.mac.upFrom ++ [({ addr := 9, dst := 0xE0, seq := 0, dack := 0, mstate := 8, items := [] } : Uplink).addr] } } (wUp 1000 9 7 0 8 [] : RxFrame).lane (fun c => { c with upOk := min (c.upOk + 1) 255, rssiMin := if (wUp 1000 9 7 0 8 [] : RxFrame).rssi < c.rssiMin then (wUp 1000 9 7 0 8 [] : RxFrame).rssi else c.rssiMin })) ∧ (w_uplinkReceive_standby.bit PAIR_STATUS_ACTIVE = false) ∧ (({ addr := 9, dst := 0xE0, seq := 0, dack := 0, mstate := 8, items := [] } : Uplink).items.all (fun i => !(i.1 == 0x24 && leAt i.2 0 1 == 2)) = true)) ∧ (match exec (.uplinkReceive) w_uplinkReceive_standby with
    | .next t => decide ((t = (State.laneCount { ({ wMac [(SLOT_OWNER 4 7, 9), (MEMBER_W2_STATE 9, 2), (MEMBER_W2_LANE 9, 4), (PAIR_STATUS_ACTIVE, 0)] with mac := { rx := [wUp 1000 9 7 0 8 []], members := [(9, {})] } }) with mac := { ({ wMac [(SLOT_OWNER 4 7, 9), (MEMBER_W2_STATE 9, 2), (MEMBER_W2_LANE 9, 4), (PAIR_STATUS_ACTIVE, 0)] with mac := { rx := [wUp 1000 9 7 0 8 []], members := [(9, {})] } }).mac with rx := [], upFrom := [9] } } 4 (fun c => { c with upOk := min (c.upOk + 1) 255, rssiMin := if (-61 : Int) < c.rssiMin then -61 else c.rssiMin }) : State)))
    | _ => false) = true := by decide +kernel

def w_uplinkReceive_good : State := { wMac [(SLOT_OWNER 4 7, 9), (MEMBER_W2_STATE 9, 2), (MEMBER_W2_LANE 9, 4)] with mac := { rx := [wUp 1000 9 7 0 8 []], members := [(9, {})] } }

theorem test_uplinkReceive_good : ((w_uplinkReceive_good.stopSafe = true) ∧ (w_uplinkReceive_good.mac.rx = (wUp 1000 9 7 0 8 [] : RxFrame) :: ([] : List RxFrame)) ∧ (assocSlot (w_uplinkReceive_good.prof (wUp 1000 9 7 0 8 [] : RxFrame).lane) (wUp 1000 9 7 0 8 [] : RxFrame).k (wUp 1000 9 7 0 8 [] : RxFrame).slot = false) ∧ (7 = (if w_uplinkReceive_good.prof (wUp 1000 9 7 0 8 [] : RxFrame).lane = 0 then (wUp 1000 9 7 0 8 [] : RxFrame).slot else 10 * ((wUp 1000 9 7 0 8 [] : RxFrame).k % 10) + (wUp 1000 9 7 0 8 [] : RxFrame).slot)) ∧ (¬((slotCut (w_uplinkReceive_good.prof (wUp 1000 9 7 0 8 [] : RxFrame).lane) 7).isSome = true ∧ leAt (wUp 1000 9 7 0 8 [] : RxFrame).mpdu 0 1 % 16 = 1 ∧ leAt (wUp 1000 9 7 0 8 [] : RxFrame).mpdu 1 1 = 0xE0 + (1 - w_uplinkReceive_good.unitBit))) ∧ (slotKind (w_uplinkReceive_good.prof (wUp 1000 9 7 0 8 [] : RxFrame).lane) 7 = 1) ∧ (leAt (wUp 1000 9 7 0 8 [] : RxFrame).mpdu 0 1 % 16 = 2) ∧ (leAt (wUp 1000 9 7 0 8 [] : RxFrame).mpdu 1 1 ≠ 0) ∧ (w_uplinkReceive_good.owner (w_uplinkReceive_good.get SLOT_CTRL_BANK) (wUp 1000 9 7 0 8 [] : RxFrame).lane 7 = leAt (wUp 1000 9 7 0 8 [] : RxFrame).mpdu 1 1) ∧ (w_uplinkReceive_good.useKey (w_uplinkReceive_good.get MAC_KEYS_NWK_KEY_SLOT) 1 2 = some (List.replicate 16 7 : List Nat)) ∧ (w_uplinkReceive_good.sfnAt (wUp 1000 9 7 0 8 [] : RxFrame).k = some 1000) ∧ (openMpdu (List.replicate 16 7 : List Nat) (nwkNonce 1000 (wUp 1000 9 7 0 8 [] : RxFrame).slot (wUp 1000 9 7 0 8 [] : RxFrame).lane 2 false (leAt (wUp 1000 9 7 0 8 [] : RxFrame).mpdu 1 1)) (wUp 1000 9 7 0 8 [] : RxFrame).mpdu = some ([2, 9, 0xE0, 0, 0, 0, 0, 8] : List Nat)) ∧ (parseUplink (w_uplinkReceive_good.prof (wUp 1000 9 7 0 8 [] : RxFrame).lane) ([2, 9, 0xE0, 0, 0, 0, 0, 8] : List Nat) = some ({ addr := 9, dst := 0xE0, seq := 0, dack := 0, mstate := 8, items := [] } : Uplink)) ∧ ((State.laneCount { ({ wMac [(SLOT_OWNER 4 7, 9), (MEMBER_W2_STATE 9, 2), (MEMBER_W2_LANE 9, 4)] with mac := { rx := [wUp 1000 9 7 0 8 []], members := [(9, {})] } }) with mac := { ({ wMac [(SLOT_OWNER 4 7, 9), (MEMBER_W2_STATE 9, 2), (MEMBER_W2_LANE 9, 4)] with mac := { rx := [wUp 1000 9 7 0 8 []], members := [(9, {})] } }).mac with rx := [], upFrom := [9] } } 4 (fun c => { c with upOk := min (c.upOk + 1) 255, rssiMin := if (-61 : Int) < c.rssiMin then -61 else c.rssiMin }) : State) = State.laneCount { w_uplinkReceive_good with mac := { w_uplinkReceive_good.mac with rx := ([] : List RxFrame), upFrom := w_uplinkReceive_good.mac.upFrom ++ [({ addr := 9, dst := 0xE0, seq := 0, dack := 0, mstate := 8, items := [] } : Uplink).addr] } } (wUp 1000 9 7 0 8 [] : RxFrame).lane (fun c => { c with upOk := min (c.upOk + 1) 255, rssiMin := if (wUp 1000 9 7 0 8 [] : RxFrame).rssi < c.rssiMin then (wUp 1000 9 7 0 8 [] : RxFrame).rssi else c.rssiMin }))) ∧ (match exec (.uplinkReceive) w_uplinkReceive_good with
    | .next t => decide ((t = (if w_uplinkReceive_good.bit PAIR_STATUS_ACTIVE then ((State.laneCount { ({ wMac [(SLOT_OWNER 4 7, 9), (MEMBER_W2_STATE 9, 2), (MEMBER_W2_LANE 9, 4)] with mac := { rx := [wUp 1000 9 7 0 8 []], members := [(9, {})] } }) with mac := { ({ wMac [(SLOT_OWNER 4 7, 9), (MEMBER_W2_STATE 9, 2), (MEMBER_W2_LANE 9, 4)] with mac := { rx := [wUp 1000 9 7 0 8 []], members := [(9, {})] } }).mac with rx := [], upFrom := [9] } } 4 (fun c => { c with upOk := min (c.upOk + 1) 255, rssiMin := if (-61 : Int) < c.rssiMin then -61 else c.rssiMin }) : State).stopReqs ({ addr := 9, dst := 0xE0, seq := 0, dack := 0, mstate := 8, items := [] } : Uplink)).takeUplink (wUp 1000 9 7 0 8 [] : RxFrame) ({ addr := 9, dst := 0xE0, seq := 0, dack := 0, mstate := 8, items := [] } : Uplink) else (State.laneCount { ({ wMac [(SLOT_OWNER 4 7, 9), (MEMBER_W2_STATE 9, 2), (MEMBER_W2_LANE 9, 4)] with mac := { rx := [wUp 1000 9 7 0 8 []], members := [(9, {})] } }) with mac := { ({ wMac [(SLOT_OWNER 4 7, 9), (MEMBER_W2_STATE 9, 2), (MEMBER_W2_LANE 9, 4)] with mac := { rx := [wUp 1000 9 7 0 8 []], members := [(9, {})] } }).mac with rx := [], upFrom := [9] } } 4 (fun c => { c with upOk := min (c.upOk + 1) 255, rssiMin := if (-61 : Int) < c.rssiMin then -61 else c.rssiMin }) : State).stopReqs ({ addr := 9, dst := 0xE0, seq := 0, dack := 0, mstate := 8, items := [] } : Uplink))))
    | _ => false) = true := by decide +kernel

def w_uplinkReceive : State := { wMac [(SLOT_OWNER 4 7, 9), (MEMBER_W2_STATE 9, 2), (MEMBER_W2_LANE 9, 4)] with mac := { rx := [wUp 1000 9 7 0 8 []], members := [(9, {})] } }

theorem test_uplinkReceive : ((w_uplinkReceive.stopSafe = true) ∧ (w_uplinkReceive.mac.rx = (wUp 1000 9 7 0 8 [] : RxFrame) :: ([] : List RxFrame)) ∧ (assocSlot (w_uplinkReceive.prof (wUp 1000 9 7 0 8 [] : RxFrame).lane) (wUp 1000 9 7 0 8 [] : RxFrame).k (wUp 1000 9 7 0 8 [] : RxFrame).slot = false) ∧ (7 = (if w_uplinkReceive.prof (wUp 1000 9 7 0 8 [] : RxFrame).lane = 0 then (wUp 1000 9 7 0 8 [] : RxFrame).slot else 10 * ((wUp 1000 9 7 0 8 [] : RxFrame).k % 10) + (wUp 1000 9 7 0 8 [] : RxFrame).slot)) ∧ (¬((slotCut (w_uplinkReceive.prof (wUp 1000 9 7 0 8 [] : RxFrame).lane) 7).isSome = true ∧ leAt (wUp 1000 9 7 0 8 [] : RxFrame).mpdu 0 1 % 16 = 1 ∧ leAt (wUp 1000 9 7 0 8 [] : RxFrame).mpdu 1 1 = 0xE0 + (1 - w_uplinkReceive.unitBit))) ∧ (slotKind (w_uplinkReceive.prof (wUp 1000 9 7 0 8 [] : RxFrame).lane) 7 = 1) ∧ (leAt (wUp 1000 9 7 0 8 [] : RxFrame).mpdu 0 1 % 16 = 2) ∧ (leAt (wUp 1000 9 7 0 8 [] : RxFrame).mpdu 1 1 ≠ 0) ∧ (w_uplinkReceive.owner (w_uplinkReceive.get SLOT_CTRL_BANK) (wUp 1000 9 7 0 8 [] : RxFrame).lane 7 = leAt (wUp 1000 9 7 0 8 [] : RxFrame).mpdu 1 1) ∧ (w_uplinkReceive.useKey (w_uplinkReceive.get MAC_KEYS_NWK_KEY_SLOT) 1 2 = some (List.replicate 16 7 : List Nat)) ∧ (w_uplinkReceive.sfnAt (wUp 1000 9 7 0 8 [] : RxFrame).k = some 1000) ∧ (openMpdu (List.replicate 16 7 : List Nat) (nwkNonce 1000 (wUp 1000 9 7 0 8 [] : RxFrame).slot (wUp 1000 9 7 0 8 [] : RxFrame).lane 2 false (leAt (wUp 1000 9 7 0 8 [] : RxFrame).mpdu 1 1)) (wUp 1000 9 7 0 8 [] : RxFrame).mpdu = some ([2, 9, 0xE0, 0, 0, 0, 0, 8] : List Nat)) ∧ (parseUplink (w_uplinkReceive.prof (wUp 1000 9 7 0 8 [] : RxFrame).lane) ([2, 9, 0xE0, 0, 0, 0, 0, 8] : List Nat) = some ({ addr := 9, dst := 0xE0, seq := 0, dack := 0, mstate := 8, items := [] } : Uplink)) ∧ ((State.laneCount { ({ wMac [(SLOT_OWNER 4 7, 9), (MEMBER_W2_STATE 9, 2), (MEMBER_W2_LANE 9, 4)] with mac := { rx := [wUp 1000 9 7 0 8 []], members := [(9, {})] } }) with mac := { ({ wMac [(SLOT_OWNER 4 7, 9), (MEMBER_W2_STATE 9, 2), (MEMBER_W2_LANE 9, 4)] with mac := { rx := [wUp 1000 9 7 0 8 []], members := [(9, {})] } }).mac with rx := [], upFrom := [9] } } 4 (fun c => { c with upOk := min (c.upOk + 1) 255, rssiMin := if (-61 : Int) < c.rssiMin then -61 else c.rssiMin }) : State) = State.laneCount { w_uplinkReceive with mac := { w_uplinkReceive.mac with rx := ([] : List RxFrame), upFrom := w_uplinkReceive.mac.upFrom ++ [({ addr := 9, dst := 0xE0, seq := 0, dack := 0, mstate := 8, items := [] } : Uplink).addr] } } (wUp 1000 9 7 0 8 [] : RxFrame).lane (fun c => { c with upOk := min (c.upOk + 1) 255, rssiMin := if (wUp 1000 9 7 0 8 [] : RxFrame).rssi < c.rssiMin then (wUp 1000 9 7 0 8 [] : RxFrame).rssi else c.rssiMin })) ∧ (isAddr ({ addr := 9, dst := 0xE0, seq := 0, dack := 0, mstate := 8, items := [] } : Uplink).addr = true) ∧ (({ addr := 9, dst := 0xE0, seq := 0, dack := 0, mstate := 8, items := [] } : Uplink).items = []) ∧ (({ addr := 9, dst := 0xE0, seq := 0, dack := 0, mstate := 8, items := [] } : Uplink).seq = 0) ∧ (({ addr := 9, dst := 0xE0, seq := 0, dack := 0, mstate := 8, items := [] } : Uplink).mstate % 4 = 0) ∧ (w_uplinkReceive.bit PAIR_STATUS_ACTIVE = true) ∧ (w_uplinkReceive.memState ({ addr := 9, dst := 0xE0, seq := 0, dack := 0, mstate := 8, items := [] } : Uplink).addr = 2) ∧ (({ addr := 9, dst := 0xE0, seq := 0, dack := 0, mstate := 8, items := [] } : Uplink).dst ≠ 0xE0 + w_uplinkReceive.unitBit ∨ (w_uplinkReceive.mem ({ addr := 9, dst := 0xE0, seq := 0, dack := 0, mstate := 8, items := [] } : Uplink).addr).cmds = [])) ∧ (match exec (.uplinkReceive) w_uplinkReceive with
    | .next t => decide ((Reads t [(MEMBER_W2_RSSI ({ addr := 9, dst := 0xE0, seq := 0, dack := 0, mstate := 8, items := [] } : Uplink).addr, usgn 8 (wUp 1000 9 7 0 8 [] : RxFrame).rssi)]) ∧ (t.mem ({ addr := 9, dst := 0xE0, seq := 0, dack := 0, mstate := 8, items := [] } : Uplink).addr = { w_uplinkReceive.mem ({ addr := 9, dst := 0xE0, seq := 0, dack := 0, mstate := 8, items := [] } : Uplink).addr with mstate := ({ addr := 9, dst := 0xE0, seq := 0, dack := 0, mstate := 8, items := [] } : Uplink).mstate, lastSfn := 1000, heard := w_uplinkReceive.ply }))
    | _ => false) = true := by decide +kernel

def w_uplinkReceive_cor : State := { wMac [(SLOT_OWNER 4 7, 9), (MEMBER_W2_STATE 9, 2), (MEMBER_W2_LANE 9, 4)] with mac := { rx := [wUp 1000 9 7 0 8 wCor], members := [(9, {})] } }

theorem test_uplinkReceive_cor : ((w_uplinkReceive_cor.stopSafe = true) ∧ (w_uplinkReceive_cor.mac.rx = (wUp 1000 9 7 0 8 wCor : RxFrame) :: ([] : List RxFrame)) ∧ (assocSlot (w_uplinkReceive_cor.prof (wUp 1000 9 7 0 8 wCor : RxFrame).lane) (wUp 1000 9 7 0 8 wCor : RxFrame).k (wUp 1000 9 7 0 8 wCor : RxFrame).slot = false) ∧ (7 = (if w_uplinkReceive_cor.prof (wUp 1000 9 7 0 8 wCor : RxFrame).lane = 0 then (wUp 1000 9 7 0 8 wCor : RxFrame).slot else 10 * ((wUp 1000 9 7 0 8 wCor : RxFrame).k % 10) + (wUp 1000 9 7 0 8 wCor : RxFrame).slot)) ∧ (¬((slotCut (w_uplinkReceive_cor.prof (wUp 1000 9 7 0 8 wCor : RxFrame).lane) 7).isSome = true ∧ leAt (wUp 1000 9 7 0 8 wCor : RxFrame).mpdu 0 1 % 16 = 1 ∧ leAt (wUp 1000 9 7 0 8 wCor : RxFrame).mpdu 1 1 = 0xE0 + (1 - w_uplinkReceive_cor.unitBit))) ∧ (slotKind (w_uplinkReceive_cor.prof (wUp 1000 9 7 0 8 wCor : RxFrame).lane) 7 = 1) ∧ (leAt (wUp 1000 9 7 0 8 wCor : RxFrame).mpdu 0 1 % 16 = 2) ∧ (leAt (wUp 1000 9 7 0 8 wCor : RxFrame).mpdu 1 1 ≠ 0) ∧ (w_uplinkReceive_cor.owner (w_uplinkReceive_cor.get SLOT_CTRL_BANK) (wUp 1000 9 7 0 8 wCor : RxFrame).lane 7 = leAt (wUp 1000 9 7 0 8 wCor : RxFrame).mpdu 1 1) ∧ (w_uplinkReceive_cor.useKey (w_uplinkReceive_cor.get MAC_KEYS_NWK_KEY_SLOT) 1 2 = some (List.replicate 16 7 : List Nat)) ∧ (w_uplinkReceive_cor.sfnAt (wUp 1000 9 7 0 8 wCor : RxFrame).k = some 1000) ∧ (openMpdu (List.replicate 16 7 : List Nat) (nwkNonce 1000 (wUp 1000 9 7 0 8 wCor : RxFrame).slot (wUp 1000 9 7 0 8 wCor : RxFrame).lane 2 false (leAt (wUp 1000 9 7 0 8 wCor : RxFrame).mpdu 1 1)) (wUp 1000 9 7 0 8 wCor : RxFrame).mpdu = some ([2, 9, 0xE0, 0, 0, 0, 0, 8] ++ wCor : List Nat)) ∧ (parseUplink (w_uplinkReceive_cor.prof (wUp 1000 9 7 0 8 wCor : RxFrame).lane) ([2, 9, 0xE0, 0, 0, 0, 0, 8] ++ wCor : List Nat) = some ({ addr := 9, dst := 0xE0, seq := 0, dack := 0, mstate := 8, items := [(0x20, wCor.drop 3)] } : Uplink)) ∧ ((State.laneCount { ({ wMac [(SLOT_OWNER 4 7, 9), (MEMBER_W2_STATE 9, 2), (MEMBER_W2_LANE 9, 4)] with mac := { rx := [wUp 1000 9 7 0 8 wCor], members := [(9, {})] } }) with mac := { ({ wMac [(SLOT_OWNER 4 7, 9), (MEMBER_W2_STATE 9, 2), (MEMBER_W2_LANE 9, 4)] with mac := { rx := [wUp 1000 9 7 0 8 wCor], members := [(9, {})] } }).mac with rx := [], upFrom := [9] } } 4 (fun c => { c with upOk := min (c.upOk + 1) 255, rssiMin := if (-61 : Int) < c.rssiMin then -61 else c.rssiMin }) : State) = State.laneCount { w_uplinkReceive_cor with mac := { w_uplinkReceive_cor.mac with rx := ([] : List RxFrame), upFrom := w_uplinkReceive_cor.mac.upFrom ++ [({ addr := 9, dst := 0xE0, seq := 0, dack := 0, mstate := 8, items := [(0x20, wCor.drop 3)] } : Uplink).addr] } } (wUp 1000 9 7 0 8 wCor : RxFrame).lane (fun c => { c with upOk := min (c.upOk + 1) 255, rssiMin := if (wUp 1000 9 7 0 8 wCor : RxFrame).rssi < c.rssiMin then (wUp 1000 9 7 0 8 wCor : RxFrame).rssi else c.rssiMin })) ∧ (isAddr ({ addr := 9, dst := 0xE0, seq := 0, dack := 0, mstate := 8, items := [(0x20, wCor.drop 3)] } : Uplink).addr = true) ∧ (({ addr := 9, dst := 0xE0, seq := 0, dack := 0, mstate := 8, items := [(0x20, wCor.drop 3)] } : Uplink).items = [(0x20, (wCor.drop 3 : List Nat))]) ∧ (({ addr := 9, dst := 0xE0, seq := 0, dack := 0, mstate := 8, items := [(0x20, wCor.drop 3)] } : Uplink).seq = 0) ∧ (({ addr := 9, dst := 0xE0, seq := 0, dack := 0, mstate := 8, items := [(0x20, wCor.drop 3)] } : Uplink).mstate % 4 = 0) ∧ (w_uplinkReceive_cor.bit PAIR_STATUS_ACTIVE = true) ∧ (w_uplinkReceive_cor.memState ({ addr := 9, dst := 0xE0, seq := 0, dack := 0, mstate := 8, items := [(0x20, wCor.drop 3)] } : Uplink).addr = 2) ∧ (w_uplinkReceive_cor.pair.idle = false) ∧ (parseCor (wCor.drop 3 : List Nat) = some (⟨true, false, 0, 100000, 0, 0, []⟩ : Cor)) ∧ ((⟨true, false, 0, 100000, 0, 0, []⟩ : Cor).week = (w_uplinkReceive_cor.startOf (wUp 1000 9 7 0 8 wCor : RxFrame).k).1) ∧ ((⟨true, false, 0, 100000, 0, 0, []⟩ : Cor).ms = (w_uplinkReceive_cor.startOf (wUp 1000 9 7 0 8 wCor : RxFrame).k).2) ∧ ((⟨true, false, 0, 100000, 0, 0, []⟩ : Cor).clkValid = true) ∧ (w_uplinkReceive_cor.fix.missing ≠ some ((⟨true, false, 0, 100000, 0, 0, []⟩ : Cor).week, (⟨true, false, 0, 100000, 0, 0, []⟩ : Cor).ms)) ∧ (({ addr := 9, dst := 0xE0, seq := 0, dack := 0, mstate := 8, items := [(0x20, wCor.drop 3)] } : Uplink).dst ≠ 0xE0 + w_uplinkReceive_cor.unitBit ∨ (w_uplinkReceive_cor.mem ({ addr := 9, dst := 0xE0, seq := 0, dack := 0, mstate := 8, items := [(0x20, wCor.drop 3)] } : Uplink).addr).cmds = [])) ∧ (match exec (.uplinkReceive) w_uplinkReceive_cor with
    | .next t => decide ((t.fix = { w_uplinkReceive_cor.fix with queue := w_uplinkReceive_cor.fix.queue ++ [(⟨({ addr := 9, dst := 0xE0, seq := 0, dack := 0, mstate := 8, items := [(0x20, wCor.drop 3)] } : Uplink).addr, w_uplinkReceive_cor.ply, w_uplinkReceive_cor.slotLate (wUp 1000 9 7 0 8 wCor : RxFrame).lane (wUp 1000 9 7 0 8 wCor : RxFrame).k (wUp 1000 9 7 0 8 wCor : RxFrame).slot, (⟨true, false, 0, 100000, 0, 0, []⟩ : Cor)⟩ : CorJob)] }) ∧ (t.mac.corOk = w_uplinkReceive_cor.mac.corOk ++ [({ addr := 9, dst := 0xE0, seq := 0, dack := 0, mstate := 8, items := [(0x20, wCor.drop 3)] } : Uplink).addr]) ∧ (Reads t [(MEMBER_W2_RSSI ({ addr := 9, dst := 0xE0, seq := 0, dack := 0, mstate := 8, items := [(0x20, wCor.drop 3)] } : Uplink).addr, usgn 8 (wUp 1000 9 7 0 8 wCor : RxFrame).rssi)]) ∧ (t.mem ({ addr := 9, dst := 0xE0, seq := 0, dack := 0, mstate := 8, items := [(0x20, wCor.drop 3)] } : Uplink).addr = { w_uplinkReceive_cor.mem ({ addr := 9, dst := 0xE0, seq := 0, dack := 0, mstate := 8, items := [(0x20, wCor.drop 3)] } : Uplink).addr with mstate := ({ addr := 9, dst := 0xE0, seq := 0, dack := 0, mstate := 8, items := [(0x20, wCor.drop 3)] } : Uplink).mstate, lastSfn := 1000, heard := w_uplinkReceive_cor.ply }))
    | _ => false) = true := by decide +kernel

def w_assocReqReceive_none : State := { wMac [] with mac := { rx := [wUp 1000 8 7 0 0 []] } }

theorem test_assocReqReceive_none : ((w_assocReqReceive_none.stopSafe = true) ∧ ((w_assocReqReceive_none.mac.rx = []) ∨ (w_assocReqReceive_none.mac.rx = (wUp 1000 8 7 0 0 [] : RxFrame) :: ([] : List RxFrame) ∧ assocSlot (w_assocReqReceive_none.prof (wUp 1000 8 7 0 0 [] : RxFrame).lane) (wUp 1000 8 7 0 0 [] : RxFrame).k (wUp 1000 8 7 0 0 [] : RxFrame).slot = false))) ∧ (match exec (.assocReqReceive) w_assocReqReceive_none with
    | .next t => decide ((t = w_assocReqReceive_none))
    | _ => false) = true := by decide +kernel

def w_assocReqReceive_malformed : State := { wMac [] with mac := { rx := [{ wJoin with k := 1001 }] } }

theorem test_assocReqReceive_malformed : ((w_assocReqReceive_malformed.stopSafe = true) ∧ (w_assocReqReceive_malformed.mac.rx = ({ wJoin with k := 1001 } : RxFrame) :: ([] : List RxFrame)) ∧ (assocSlot (w_assocReqReceive_malformed.prof ({ wJoin with k := 1001 } : RxFrame).lane) ({ wJoin with k := 1001 } : RxFrame).k ({ wJoin with k := 1001 } : RxFrame).slot = true) ∧ (5 = (if bitOf (leAt ({ wJoin with k := 1001 } : RxFrame).mpdu 0 1) 4 then 6 else 5)) ∧ (reqSlot (w_assocReqReceive_malformed.prof ({ wJoin with k := 1001 } : RxFrame).lane) ({ wJoin with k := 1001 } : RxFrame).k ({ wJoin with k := 1001 } : RxFrame).slot = false ∨ leAt ({ wJoin with k := 1001 } : RxFrame).mpdu 0 1 % 16 ≠ 3 ∨ leAt ({ wJoin with k := 1001 } : RxFrame).mpdu 1 1 ≠ 0 ∨ leAt ({ wJoin with k := 1001 } : RxFrame).mpdu 2 1 ≠ 0xFF ∨ leAt ({ wJoin with k := 1001 } : RxFrame).mpdu 3 2 ≠ 0 ∨ ({ wJoin with k := 1001 } : RxFrame).mpdu.length ≠ 5 + 40)) ∧ (match exec (.assocReqReceive) w_assocReqReceive_malformed with
    | .next t => decide ((Reads t [(MAC_CNT_A_MALFORMED, w_assocReqReceive_malformed.adv MAC_CNT_A_MALFORMED)]) ∧ (t.mac = { w_assocReqReceive_malformed.mac with rx := ([] : List RxFrame) }))
    | _ => false) = true := by decide +kernel

def w_assocReqReceive_noKey : State := { wMac [(KS_SLOT_W0_TYPE 6, 0)] with mac := { rx := [wJoin] } }

theorem test_assocReqReceive_noKey : ((w_assocReqReceive_noKey.stopSafe = true) ∧ (w_assocReqReceive_noKey.mac.rx = (wJoin : RxFrame) :: ([] : List RxFrame)) ∧ (assocSlot (w_assocReqReceive_noKey.prof (wJoin : RxFrame).lane) (wJoin : RxFrame).k (wJoin : RxFrame).slot = true) ∧ (5 = (if bitOf (leAt (wJoin : RxFrame).mpdu 0 1) 4 then 6 else 5)) ∧ (reqSlot (w_assocReqReceive_noKey.prof (wJoin : RxFrame).lane) (wJoin : RxFrame).k (wJoin : RxFrame).slot = true) ∧ (leAt (wJoin : RxFrame).mpdu 0 1 % 16 = 3) ∧ (leAt (wJoin : RxFrame).mpdu 1 1 = 0) ∧ (leAt (wJoin : RxFrame).mpdu 2 1 = 0xFF) ∧ (leAt (wJoin : RxFrame).mpdu 3 2 = 0) ∧ ((wJoin : RxFrame).mpdu.length = 5 + 40) ∧ ((wMac [(KS_SLOT_W0_TYPE 6, 0)] : State) = { w_assocReqReceive_noKey with mac := { w_assocReqReceive_noKey.mac with rx := ([] : List RxFrame) } }) ∧ (w_assocReqReceive_noKey.useKey (w_assocReqReceive_noKey.get MAC_KEYS_JOIN_KEY_SLOT) 1 2 = none)) ∧ (match exec (.assocReqReceive) w_assocReqReceive_noKey with
    | .next t => decide ((Reads t [(MAC_CNT_A_MIC_FAIL, w_assocReqReceive_noKey.adv MAC_CNT_A_MIC_FAIL), (KS_CNT_ORPHAN_ABORTS, (w_assocReqReceive_noKey.keyAbort (w_assocReqReceive_noKey.get MAC_KEYS_JOIN_KEY_SLOT) 1 2).get KS_CNT_ORPHAN_ABORTS)]) ∧ (t.mac = ((wMac [(KS_SLOT_W0_TYPE 6, 0)] : State).laneCount (wJoin : RxFrame).lane (fun c => { c with micFail := min (c.micFail + 1) 255 })).mac))
    | _ => false) = true := by decide +kernel

def w_assocReqReceive_mic : State := { wMac [] with mac := { rx := [{ wJoin with k := 1002 }] } }

theorem test_assocReqReceive_mic : ((w_assocReqReceive_mic.stopSafe = true) ∧ (w_assocReqReceive_mic.mac.rx = ({ wJoin with k := 1002 } : RxFrame) :: ([] : List RxFrame)) ∧ (assocSlot (w_assocReqReceive_mic.prof ({ wJoin with k := 1002 } : RxFrame).lane) ({ wJoin with k := 1002 } : RxFrame).k ({ wJoin with k := 1002 } : RxFrame).slot = true) ∧ (5 = (if bitOf (leAt ({ wJoin with k := 1002 } : RxFrame).mpdu 0 1) 4 then 6 else 5)) ∧ (reqSlot (w_assocReqReceive_mic.prof ({ wJoin with k := 1002 } : RxFrame).lane) ({ wJoin with k := 1002 } : RxFrame).k ({ wJoin with k := 1002 } : RxFrame).slot = true) ∧ (leAt ({ wJoin with k := 1002 } : RxFrame).mpdu 0 1 % 16 = 3) ∧ (leAt ({ wJoin with k := 1002 } : RxFrame).mpdu 1 1 = 0) ∧ (leAt ({ wJoin with k := 1002 } : RxFrame).mpdu 2 1 = 0xFF) ∧ (leAt ({ wJoin with k := 1002 } : RxFrame).mpdu 3 2 = 0) ∧ (({ wJoin with k := 1002 } : RxFrame).mpdu.length = 5 + 40) ∧ ((wMac [] : State) = { w_assocReqReceive_mic with mac := { w_assocReqReceive_mic.mac with rx := ([] : List RxFrame) } }) ∧ (([9, 8, 7, 6, 5, 4, 3, 2] : List Nat) = (({ wJoin with k := 1002 } : RxFrame).mpdu.drop 5).take 8) ∧ (w_assocReqReceive_mic.useKey (w_assocReqReceive_mic.get MAC_KEYS_JOIN_KEY_SLOT) 1 2 = some (List.replicate 16 9 : List Nat)) ∧ (openMpdu (List.replicate 16 9 : List Nat) (joinNonce (joinK (w_assocReqReceive_mic.prof ({ wJoin with k := 1002 } : RxFrame).lane) ({ wJoin with k := 1002 } : RxFrame).k) ({ wJoin with k := 1002 } : RxFrame).lane false 0 ([9, 8, 7, 6, 5, 4, 3, 2] : List Nat)) ({ wJoin with k := 1002 } : RxFrame).mpdu = none)) ∧ (match exec (.assocReqReceive) w_assocReqReceive_mic with
    | .next t => decide ((Reads t [(MAC_CNT_A_MIC_FAIL, w_assocReqReceive_mic.adv MAC_CNT_A_MIC_FAIL)]) ∧ (t.mac = ((wMac [] : State).laneCount ({ wJoin with k := 1002 } : RxFrame).lane (fun c => { c with micFail := min (c.micFail + 1) 255 })).mac))
    | _ => false) = true := by decide +kernel

def w_assocReqReceive_reserved : State := { wMac [] with mac := { rx := [wJoinCaps (wCaps.set 6 9)] } }

theorem test_assocReqReceive_reserved : ((w_assocReqReceive_reserved.stopSafe = true) ∧ (w_assocReqReceive_reserved.mac.rx = (wJoinCaps (wCaps.set 6 9) : RxFrame) :: ([] : List RxFrame)) ∧ (assocSlot (w_assocReqReceive_reserved.prof (wJoinCaps (wCaps.set 6 9) : RxFrame).lane) (wJoinCaps (wCaps.set 6 9) : RxFrame).k (wJoinCaps (wCaps.set 6 9) : RxFrame).slot = true) ∧ (5 = (if bitOf (leAt (wJoinCaps (wCaps.set 6 9) : RxFrame).mpdu 0 1) 4 then 6 else 5)) ∧ (reqSlot (w_assocReqReceive_reserved.prof (wJoinCaps (wCaps.set 6 9) : RxFrame).lane) (wJoinCaps (wCaps.set 6 9) : RxFrame).k (wJoinCaps (wCaps.set 6 9) : RxFrame).slot = true) ∧ (leAt (wJoinCaps (wCaps.set 6 9) : RxFrame).mpdu 0 1 % 16 = 3) ∧ (leAt (wJoinCaps (wCaps.set 6 9) : RxFrame).mpdu 1 1 = 0) ∧ (leAt (wJoinCaps (wCaps.set 6 9) : RxFrame).mpdu 2 1 = 0xFF) ∧ (leAt (wJoinCaps (wCaps.set 6 9) : RxFrame).mpdu 3 2 = 0) ∧ ((wJoinCaps (wCaps.set 6 9) : RxFrame).mpdu.length = 5 + 40) ∧ (([9, 8, 7, 6, 5, 4, 3, 2] : List Nat) = ((wJoinCaps (wCaps.set 6 9) : RxFrame).mpdu.drop 5).take 8) ∧ (w_assocReqReceive_reserved.useKey (w_assocReqReceive_reserved.get MAC_KEYS_JOIN_KEY_SLOT) 1 2 = some (List.replicate 16 9 : List Nat)) ∧ (openMpdu (List.replicate 16 9 : List Nat) (joinNonce (joinK (w_assocReqReceive_reserved.prof (wJoinCaps (wCaps.set 6 9) : RxFrame).lane) (wJoinCaps (wCaps.set 6 9) : RxFrame).k) (wJoinCaps (wCaps.set 6 9) : RxFrame).lane false 0 ([9, 8, 7, 6, 5, 4, 3, 2] : List Nat)) (wJoinCaps (wCaps.set 6 9) : RxFrame).mpdu = some ([3, 0, 0xFF, 0, 0, 9, 8, 7, 6, 5, 4, 3, 2] ++ wCaps.set 6 9 : List Nat)) ∧ ((wCaps.set 6 9 : List Nat) = (([3, 0, 0xFF, 0, 0, 9, 8, 7, 6, 5, 4, 3, 2] ++ wCaps.set 6 9 : List Nat).drop (5 + 8)).take 24) ∧ (capsOk (wCaps.set 6 9 : List Nat) = false)) ∧ (match exec (.assocReqReceive) w_assocReqReceive_reserved with
    | .next t => decide ((Reads t [(MAC_CNT_A_MALFORMED, w_assocReqReceive_reserved.adv MAC_CNT_A_MALFORMED)]) ∧ (t.mac = { w_assocReqReceive_reserved.mac with rx := ([] : List RxFrame) }))
    | _ => false) = true := by decide +kernel

def w_assocReqReceive_off : State := { wMac [(MAC_CTRL_ASSOC_EN, 0)] with mac := { rx := [wJoin] } }

theorem test_assocReqReceive_off : ((w_assocReqReceive_off.stopSafe = true) ∧ (w_assocReqReceive_off.mac.rx = (wJoin : RxFrame) :: ([] : List RxFrame)) ∧ (assocSlot (w_assocReqReceive_off.prof (wJoin : RxFrame).lane) (wJoin : RxFrame).k (wJoin : RxFrame).slot = true) ∧ (5 = (if bitOf (leAt (wJoin : RxFrame).mpdu 0 1) 4 then 6 else 5)) ∧ (reqSlot (w_assocReqReceive_off.prof (wJoin : RxFrame).lane) (wJoin : RxFrame).k (wJoin : RxFrame).slot = true) ∧ (leAt (wJoin : RxFrame).mpdu 0 1 % 16 = 3) ∧ (leAt (wJoin : RxFrame).mpdu 1 1 = 0) ∧ (leAt (wJoin : RxFrame).mpdu 2 1 = 0xFF) ∧ (leAt (wJoin : RxFrame).mpdu 3 2 = 0) ∧ ((wJoin : RxFrame).mpdu.length = 5 + 40) ∧ (([9, 8, 7, 6, 5, 4, 3, 2] : List Nat) = ((wJoin : RxFrame).mpdu.drop 5).take 8) ∧ (w_assocReqReceive_off.useKey (w_assocReqReceive_off.get MAC_KEYS_JOIN_KEY_SLOT) 1 2 = some (List.replicate 16 9 : List Nat)) ∧ (openMpdu (List.replicate 16 9 : List Nat) (joinNonce (joinK (w_assocReqReceive_off.prof (wJoin : RxFrame).lane) (wJoin : RxFrame).k) (wJoin : RxFrame).lane false 0 ([9, 8, 7, 6, 5, 4, 3, 2] : List Nat)) (wJoin : RxFrame).mpdu = some ([3, 0, 0xFF, 0, 0, 9, 8, 7, 6, 5, 4, 3, 2] ++ wCaps : List Nat)) ∧ ((wCaps : List Nat) = (([3, 0, 0xFF, 0, 0, 9, 8, 7, 6, 5, 4, 3, 2] ++ wCaps : List Nat).drop (5 + 8)).take 24) ∧ (capsOk (wCaps : List Nat) = true) ∧ (w_assocReqReceive_off.bit PAIR_STATUS_ACTIVE = false ∨ w_assocReqReceive_off.bit MAC_CTRL_ASSOC_EN = false ∨ w_assocReqReceive_off.bit MAC_CTRL_NET_EN = false)) ∧ (match exec (.assocReqReceive) w_assocReqReceive_off with
    | .next t => decide ((Reads t [(MAC_CNT_D_ASSOC_REQ, w_assocReqReceive_off.adv MAC_CNT_D_ASSOC_REQ)]) ∧ (t.mac = { w_assocReqReceive_off.mac with rx := ([] : List RxFrame) }))
    | _ => false) = true := by decide +kernel

def w_assocReqReceive_refused : State := { wMac [(LANE_STATUS_STATE 4, 4)] with mac := { rx := [wJoin] } }

theorem test_assocReqReceive_refused : ((w_assocReqReceive_refused.stopSafe = true) ∧ (w_assocReqReceive_refused.mac.rx = (wJoin : RxFrame) :: ([] : List RxFrame)) ∧ (assocSlot (w_assocReqReceive_refused.prof (wJoin : RxFrame).lane) (wJoin : RxFrame).k (wJoin : RxFrame).slot = true) ∧ (5 = (if bitOf (leAt (wJoin : RxFrame).mpdu 0 1) 4 then 6 else 5)) ∧ (reqSlot (w_assocReqReceive_refused.prof (wJoin : RxFrame).lane) (wJoin : RxFrame).k (wJoin : RxFrame).slot = true) ∧ (leAt (wJoin : RxFrame).mpdu 0 1 % 16 = 3) ∧ (leAt (wJoin : RxFrame).mpdu 1 1 = 0) ∧ (leAt (wJoin : RxFrame).mpdu 2 1 = 0xFF) ∧ (leAt (wJoin : RxFrame).mpdu 3 2 = 0) ∧ ((wJoin : RxFrame).mpdu.length = 5 + 40) ∧ (([9, 8, 7, 6, 5, 4, 3, 2] : List Nat) = ((wJoin : RxFrame).mpdu.drop 5).take 8) ∧ (w_assocReqReceive_refused.useKey (w_assocReqReceive_refused.get MAC_KEYS_JOIN_KEY_SLOT) 1 2 = some (List.replicate 16 9 : List Nat)) ∧ (openMpdu (List.replicate 16 9 : List Nat) (joinNonce (joinK (w_assocReqReceive_refused.prof (wJoin : RxFrame).lane) (wJoin : RxFrame).k) (wJoin : RxFrame).lane false 0 ([9, 8, 7, 6, 5, 4, 3, 2] : List Nat)) (wJoin : RxFrame).mpdu = some ([3, 0, 0xFF, 0, 0, 9, 8, 7, 6, 5, 4, 3, 2] ++ wCaps : List Nat)) ∧ ((wCaps : List Nat) = (([3, 0, 0xFF, 0, 0, 9, 8, 7, 6, 5, 4, 3, 2] ++ wCaps : List Nat).drop (5 + 8)).take 24) ∧ (capsOk (wCaps : List Nat) = true) ∧ (w_assocReqReceive_refused.bit PAIR_STATUS_ACTIVE = true) ∧ (w_assocReqReceive_refused.bit MAC_CTRL_ASSOC_EN = true) ∧ (w_assocReqReceive_refused.bit MAC_CTRL_NET_EN = true) ∧ ((State.bump { wMac [(LANE_STATUS_STATE 4, 4)] with mac := {  } } MAC_CNT_D_ASSOC_REQ : State) = State.bump { w_assocReqReceive_refused with mac := { w_assocReqReceive_refused.mac with rx := ([] : List RxFrame) } } MAC_CNT_D_ASSOC_REQ) ∧ (w_assocReqReceive_refused.addrOf ([9, 8, 7, 6, 5, 4, 3, 2] : List Nat) = none) ∧ (((State.bump { wMac [(LANE_STATUS_STATE 4, 4)] with mac := {  } } MAC_CNT_D_ASSOC_REQ : State).offerPlace (wCaps : List Nat) (allAddrs.find? w_assocReqReceive_refused.freeLong)).1 = 3) ∧ (3 ≠ 0)) ∧ (match exec (.assocReqReceive) w_assocReqReceive_refused with
    | .next t => decide ((Reads t [(MAC_CNT_D_ASSOC_REQ, w_assocReqReceive_refused.adv MAC_CNT_D_ASSOC_REQ)]) ∧ (t.mac = { w_assocReqReceive_refused.mac with rx := ([] : List RxFrame), resp := w_assocReqReceive_refused.mac.resp ++ [{ lane := (wJoin : RxFrame).lane, k := respBoundary (w_assocReqReceive_refused.prof (wJoin : RxFrame).lane) (wJoin : RxFrame).k, eui := ([9, 8, 7, 6, 5, 4, 3, 2] : List Nat), result := 3 }] }))
    | _ => false) = true := by decide +kernel

def w_assocReqReceive : State := { wMac [] with mac := { rx := [wJoin], freed := [(1, 0)] } }

theorem test_assocReqReceive : ((w_assocReqReceive.stopSafe = true) ∧ (w_assocReqReceive.mac.rx = (wJoin : RxFrame) :: ([] : List RxFrame)) ∧ (assocSlot (w_assocReqReceive.prof (wJoin : RxFrame).lane) (wJoin : RxFrame).k (wJoin : RxFrame).slot = true) ∧ (5 = (if bitOf (leAt (wJoin : RxFrame).mpdu 0 1) 4 then 6 else 5)) ∧ (reqSlot (w_assocReqReceive.prof (wJoin : RxFrame).lane) (wJoin : RxFrame).k (wJoin : RxFrame).slot = true) ∧ (leAt (wJoin : RxFrame).mpdu 0 1 % 16 = 3) ∧ (leAt (wJoin : RxFrame).mpdu 1 1 = 0) ∧ (leAt (wJoin : RxFrame).mpdu 2 1 = 0xFF) ∧ (leAt (wJoin : RxFrame).mpdu 3 2 = 0) ∧ ((wJoin : RxFrame).mpdu.length = 5 + 40) ∧ (([9, 8, 7, 6, 5, 4, 3, 2] : List Nat) = ((wJoin : RxFrame).mpdu.drop 5).take 8) ∧ (w_assocReqReceive.useKey (w_assocReqReceive.get MAC_KEYS_JOIN_KEY_SLOT) 1 2 = some (List.replicate 16 9 : List Nat)) ∧ (openMpdu (List.replicate 16 9 : List Nat) (joinNonce (joinK (w_assocReqReceive.prof (wJoin : RxFrame).lane) (wJoin : RxFrame).k) (wJoin : RxFrame).lane false 0 ([9, 8, 7, 6, 5, 4, 3, 2] : List Nat)) (wJoin : RxFrame).mpdu = some ([3, 0, 0xFF, 0, 0, 9, 8, 7, 6, 5, 4, 3, 2] ++ wCaps : List Nat)) ∧ ((wCaps : List Nat) = (([3, 0, 0xFF, 0, 0, 9, 8, 7, 6, 5, 4, 3, 2] ++ wCaps : List Nat).drop (5 + 8)).take 24) ∧ (capsOk (wCaps : List Nat) = true) ∧ (w_assocReqReceive.bit PAIR_STATUS_ACTIVE = true) ∧ (w_assocReqReceive.bit MAC_CTRL_ASSOC_EN = true) ∧ (w_assocReqReceive.bit MAC_CTRL_NET_EN = true) ∧ ((State.bump { wMac [] with mac := { freed := [(1, 0)] } } MAC_CNT_D_ASSOC_REQ : State) = State.bump { w_assocReqReceive with mac := { w_assocReqReceive.mac with rx := ([] : List RxFrame) } } MAC_CNT_D_ASSOC_REQ) ∧ (w_assocReqReceive.addrOf ([9, 8, 7, 6, 5, 4, 3, 2] : List Nat) = none) ∧ (allAddrs.find? w_assocReqReceive.freeLong = some 2) ∧ ((State.bump { wMac [] with mac := { freed := [(1, 0)] } } MAC_CNT_D_ASSOC_REQ : State).offerPlace (wCaps : List Nat) (some 2) = (0, 4, 3))) ∧ (match exec (.assocReqReceive) w_assocReqReceive with
    | .next t => decide ((t = ((State.bump { wMac [] with mac := { freed := [(1, 0)] } } MAC_CNT_D_ASSOC_REQ : State).offer 2 4 3 (respBoundary (w_assocReqReceive.prof (wJoin : RxFrame).lane) (wJoin : RxFrame).k) ([9, 8, 7, 6, 5, 4, 3, 2] : List Nat) (wCaps : List Nat)).respond { lane := (wJoin : RxFrame).lane, k := respBoundary (w_assocReqReceive.prof (wJoin : RxFrame).lane) (wJoin : RxFrame).k, eui := ([9, 8, 7, 6, 5, 4, 3, 2] : List Nat), result := 0, addr := 2, slane := 4, q := 3 }) ∧ (Reads t [(MEMBER_W2_STATE 2, 1), (MEMBER_W0_EUI 2, leAt ([9, 8, 7, 6, 5, 4, 3, 2] : List Nat) 0 4 % 2 ^ 32), (MEMBER_W1_EUI 2, leAt ([9, 8, 7, 6, 5, 4, 3, 2] : List Nat) 4 4 % 2 ^ 32), (MAC_CNT_D_ASSOC_REQ, w_assocReqReceive.adv MAC_CNT_D_ASSOC_REQ)]) ∧ ((t.mem 2).caps = (wCaps : List Nat)) ∧ (t.mac.rx = ([] : List RxFrame)))
    | _ => false) = true := by decide +kernel

def w_assocReqReceive_again : State := { wMac [(MEMBER_W2_STATE 9, 1), (MEMBER_W2_LANE 9, 4), (MEMBER_W0_EUI 9, 0x06070809), (MEMBER_W1_EUI 9, 0x02030405), (SLOT_OWNER 4 7, 9)] with mac := { rx := [wJoin] } }

theorem test_assocReqReceive_again : ((w_assocReqReceive_again.stopSafe = true) ∧ (w_assocReqReceive_again.mac.rx = (wJoin : RxFrame) :: ([] : List RxFrame)) ∧ (assocSlot (w_assocReqReceive_again.prof (wJoin : RxFrame).lane) (wJoin : RxFrame).k (wJoin : RxFrame).slot = true) ∧ (5 = (if bitOf (leAt (wJoin : RxFrame).mpdu 0 1) 4 then 6 else 5)) ∧ (reqSlot (w_assocReqReceive_again.prof (wJoin : RxFrame).lane) (wJoin : RxFrame).k (wJoin : RxFrame).slot = true) ∧ (leAt (wJoin : RxFrame).mpdu 0 1 % 16 = 3) ∧ (leAt (wJoin : RxFrame).mpdu 1 1 = 0) ∧ (leAt (wJoin : RxFrame).mpdu 2 1 = 0xFF) ∧ (leAt (wJoin : RxFrame).mpdu 3 2 = 0) ∧ ((wJoin : RxFrame).mpdu.length = 5 + 40) ∧ (([9, 8, 7, 6, 5, 4, 3, 2] : List Nat) = ((wJoin : RxFrame).mpdu.drop 5).take 8) ∧ (w_assocReqReceive_again.useKey (w_assocReqReceive_again.get MAC_KEYS_JOIN_KEY_SLOT) 1 2 = some (List.replicate 16 9 : List Nat)) ∧ (openMpdu (List.replicate 16 9 : List Nat) (joinNonce (joinK (w_assocReqReceive_again.prof (wJoin : RxFrame).lane) (wJoin : RxFrame).k) (wJoin : RxFrame).lane false 0 ([9, 8, 7, 6, 5, 4, 3, 2] : List Nat)) (wJoin : RxFrame).mpdu = some ([3, 0, 0xFF, 0, 0, 9, 8, 7, 6, 5, 4, 3, 2] ++ wCaps : List Nat)) ∧ ((wCaps : List Nat) = (([3, 0, 0xFF, 0, 0, 9, 8, 7, 6, 5, 4, 3, 2] ++ wCaps : List Nat).drop (5 + 8)).take 24) ∧ (capsOk (wCaps : List Nat) = true) ∧ (w_assocReqReceive_again.bit PAIR_STATUS_ACTIVE = true) ∧ (w_assocReqReceive_again.bit MAC_CTRL_ASSOC_EN = true) ∧ (w_assocReqReceive_again.bit MAC_CTRL_NET_EN = true) ∧ (w_assocReqReceive_again.addrOf ([9, 8, 7, 6, 5, 4, 3, 2] : List Nat) = some 9) ∧ (w_assocReqReceive_again.memState 9 = 1) ∧ (({ respK := 1001, dup := 1 } : MacMember) = { w_assocReqReceive_again.mem 9 with respK := respBoundary (w_assocReqReceive_again.prof (wJoin : RxFrame).lane) (wJoin : RxFrame).k, dup := min ((w_assocReqReceive_again.mem 9).dup + 1) 0xFFFF })) ∧ (match exec (.assocReqReceive) w_assocReqReceive_again with
    | .next t => decide ((Reads t [(MAC_CNT_D_ASSOC_REQ, w_assocReqReceive_again.adv MAC_CNT_D_ASSOC_REQ), (MAC_CNT_B_DUP, w_assocReqReceive_again.adv MAC_CNT_B_DUP)]) ∧ (t.mac = { (w_assocReqReceive_again.setMem 9 ({ respK := 1001, dup := 1 } : MacMember)).mac with rx := ([] : List RxFrame), resp := w_assocReqReceive_again.mac.resp ++ [{ lane := (wJoin : RxFrame).lane, k := respBoundary (w_assocReqReceive_again.prof (wJoin : RxFrame).lane) (wJoin : RxFrame).k, eui := ([9, 8, 7, 6, 5, 4, 3, 2] : List Nat), result := 0, addr := 9, slane := (w_assocReqReceive_again.entryOf (w_assocReqReceive_again.get SLOT_CTRL_BANK) 9).1, q := (w_assocReqReceive_again.entryOf (w_assocReqReceive_again.get SLOT_CTRL_BANK) 9).2 }] }))
    | _ => false) = true := by decide +kernel

def w_assocReqReceive_active : State := { wMac [(MEMBER_W2_STATE 9, 2), (MEMBER_W2_LANE 9, 4), (MEMBER_W0_EUI 9, 0x06070809), (MEMBER_W1_EUI 9, 0x02030405), (SLOT_OWNER 4 7, 9)] with mac := { rx := [wJoin] } }

theorem test_assocReqReceive_active : ((w_assocReqReceive_active.stopSafe = true) ∧ (w_assocReqReceive_active.mac.rx = (wJoin : RxFrame) :: ([] : List RxFrame)) ∧ (assocSlot (w_assocReqReceive_active.prof (wJoin : RxFrame).lane) (wJoin : RxFrame).k (wJoin : RxFrame).slot = true) ∧ (5 = (if bitOf (leAt (wJoin : RxFrame).mpdu 0 1) 4 then 6 else 5)) ∧ (reqSlot (w_assocReqReceive_active.prof (wJoin : RxFrame).lane) (wJoin : RxFrame).k (wJoin : RxFrame).slot = true) ∧ (leAt (wJoin : RxFrame).mpdu 0 1 % 16 = 3) ∧ (leAt (wJoin : RxFrame).mpdu 1 1 = 0) ∧ (leAt (wJoin : RxFrame).mpdu 2 1 = 0xFF) ∧ (leAt (wJoin : RxFrame).mpdu 3 2 = 0) ∧ ((wJoin : RxFrame).mpdu.length = 5 + 40) ∧ (([9, 8, 7, 6, 5, 4, 3, 2] : List Nat) = ((wJoin : RxFrame).mpdu.drop 5).take 8) ∧ (w_assocReqReceive_active.useKey (w_assocReqReceive_active.get MAC_KEYS_JOIN_KEY_SLOT) 1 2 = some (List.replicate 16 9 : List Nat)) ∧ (openMpdu (List.replicate 16 9 : List Nat) (joinNonce (joinK (w_assocReqReceive_active.prof (wJoin : RxFrame).lane) (wJoin : RxFrame).k) (wJoin : RxFrame).lane false 0 ([9, 8, 7, 6, 5, 4, 3, 2] : List Nat)) (wJoin : RxFrame).mpdu = some ([3, 0, 0xFF, 0, 0, 9, 8, 7, 6, 5, 4, 3, 2] ++ wCaps : List Nat)) ∧ ((wCaps : List Nat) = (([3, 0, 0xFF, 0, 0, 9, 8, 7, 6, 5, 4, 3, 2] ++ wCaps : List Nat).drop (5 + 8)).take 24) ∧ (capsOk (wCaps : List Nat) = true) ∧ (w_assocReqReceive_active.bit PAIR_STATUS_ACTIVE = true) ∧ (w_assocReqReceive_active.bit MAC_CTRL_ASSOC_EN = true) ∧ (w_assocReqReceive_active.bit MAC_CTRL_NET_EN = true) ∧ ((State.bump { wMac [(MEMBER_W2_STATE 9, 2), (MEMBER_W2_LANE 9, 4), (MEMBER_W0_EUI 9, 0x06070809), (MEMBER_W1_EUI 9, 0x02030405), (SLOT_OWNER 4 7, 9)] with mac := {  } } MAC_CNT_D_ASSOC_REQ : State) = State.bump { w_assocReqReceive_active with mac := { w_assocReqReceive_active.mac with rx := ([] : List RxFrame) } } MAC_CNT_D_ASSOC_REQ) ∧ (w_assocReqReceive_active.addrOf ([9, 8, 7, 6, 5, 4, 3, 2] : List Nat) = some 9) ∧ (w_assocReqReceive_active.memState 9 ≠ 1)) ∧ (match exec (.assocReqReceive) w_assocReqReceive_active with
    | .next t => decide ((t = ((State.bump { wMac [(MEMBER_W2_STATE 9, 2), (MEMBER_W2_LANE 9, 4), (MEMBER_W0_EUI 9, 0x06070809), (MEMBER_W1_EUI 9, 0x02030405), (SLOT_OWNER 4 7, 9)] with mac := {  } } MAC_CNT_D_ASSOC_REQ : State).releaseAddr 9 2).newOffer (wJoin : RxFrame).lane (wJoin : RxFrame).k ([9, 8, 7, 6, 5, 4, 3, 2] : List Nat) (wCaps : List Nat) (some 9)))
    | _ => false) = true := by decide +kernel

def w_memberSilenceTimeout : State := { wMac [(MEMBER_W2_STATE 9, 2), (MEMBER_W2_LANE 9, 4), (MEMBER_W0_EUI 9, 77), (FLOCK_MEMBERS 3 0, 0x100), (SLOT_OWNER 4 7, 9), (SLOT_OWNER 12 8, 9)] with ply := 7000000, mac := { members := [(9, { next := 5, caps := wCaps })] } }

theorem test_memberSilenceTimeout : ((w_memberSilenceTimeout.stopSafe = true) ∧ (isAddr 9 = true) ∧ (w_memberSilenceTimeout.memState 9 = 2) ∧ ((w_memberSilenceTimeout.mem 9).heard + w_memberSilenceTimeout.get MAC_CTRL_RELEASE_S * 100000 ≤ w_memberSilenceTimeout.ply)) ∧ (match exec (.memberSilenceTimeout 9) w_memberSilenceTimeout with
    | .next t => decide ((t = w_memberSilenceTimeout.releaseAddr 9 1) ∧ (Reads t [(MEMBER_W0_EUI 9, 0), (MEMBER_W1_EUI 9, 0), (MEMBER_W2_STATE 9, 0), (MEMBER_W2_LANE 9, 0), (MEMBER_W2_Q0 9, 0), (MEMBER_W2_Q1 9, 0), (MEMBER_W2_RSSI 9, 0), (MEMBER_W3_CAPS 9, 0)]) ∧ (w_memberSilenceTimeout.mac.once.isPrefixOf t.mac.once = true) ∧ (t.mac.once.getLast? = some (w_memberSilenceTimeout.get (MEMBER_W2_LANE 9), { dst := 9, dseq := (w_memberSilenceTimeout.mem 9).next, kind := 5, body := [1] })) ∧ (t.flocksOf 9 = 0) ∧ (t.mac.freed.getLast? = some (9, w_memberSilenceTimeout.ply)) ∧ (t.pchState 9 = 0) ∧ (t.fix.filters = w_memberSilenceTimeout.fix.filters.filter (fun e => e.1 ≠ 9)))
    | _ => false) = true := by decide +kernel

def w_memberSilenceTimeout_quiet : State := { wMac [(MEMBER_W2_STATE 9, 2), (MEMBER_W2_LANE 9, 4), (MEMBER_W0_EUI 9, 77), (FLOCK_MEMBERS 3 0, 0x100)] with ply := 7000000, mac := { members := [(9, { next := 5, caps := wCaps })] } }

theorem test_memberSilenceTimeout_quiet : ((w_memberSilenceTimeout_quiet.stopSafe = true) ∧ (isAddr 9 = true) ∧ (w_memberSilenceTimeout_quiet.memState 9 = 2) ∧ ((w_memberSilenceTimeout_quiet.mem 9).heard + w_memberSilenceTimeout_quiet.get MAC_CTRL_RELEASE_S * 100000 ≤ w_memberSilenceTimeout_quiet.ply) ∧ (({ dst := 9, dseq := 5, kind := 5, body := [1] } : MacCmd) = { dst := 9, dseq := (w_memberSilenceTimeout_quiet.mem 9).next, kind := 5, body := [1] }) ∧ (w_memberSilenceTimeout_quiet.disp.tasks = []) ∧ ((w_memberSilenceTimeout_quiet.pch 9).move = none) ∧ ((w_memberSilenceTimeout_quiet.pch 9).reqs = []) ∧ (w_memberSilenceTimeout_quiet.pairsOf 9 = []) ∧ (w_memberSilenceTimeout_quiet.entriesOf 0 9 = []) ∧ (w_memberSilenceTimeout_quiet.entriesOf 1 9 = [])) ∧ (match exec (.memberSilenceTimeout 9) w_memberSilenceTimeout_quiet with
    | .next t => decide ((t.mac = { w_memberSilenceTimeout_quiet.mac with members := w_memberSilenceTimeout_quiet.mac.members.filter (fun e => e.1 ≠ 9), freed := w_memberSilenceTimeout_quiet.mac.freed.filter (fun e => e.1 ≠ 9) ++ [(9, w_memberSilenceTimeout_quiet.ply)], once := w_memberSilenceTimeout_quiet.mac.once ++ [(w_memberSilenceTimeout_quiet.get (MEMBER_W2_LANE 9), ({ dst := 9, dseq := 5, kind := 5, body := [1] } : MacCmd))] }) ∧ (t.fix = { w_memberSilenceTimeout_quiet.fix with filters := w_memberSilenceTimeout_quiet.fix.filters.filter (fun e => e.1 ≠ 9) }) ∧ (t.mp = (w_memberSilenceTimeout_quiet.mpSend (.rel 9 (w_memberSilenceTimeout_quiet.eui 9))).mp) ∧ ((List.range 16).all (fun g => t.get (FLOCK_MEMBERS g ((9 - 1) / 32)) == putBit (w_memberSilenceTimeout_quiet.get (FLOCK_MEMBERS g ((9 - 1) / 32))) ((9 - 1) % 32) false % 2 ^ 32) = true))
    | _ => false) = true := by decide +kernel

def w_memberSilenceTimeout_none : State := wMac []

theorem test_memberSilenceTimeout_none : ((w_memberSilenceTimeout_none.stopSafe = true) ∧ (isAddr 9 = false ∨ w_memberSilenceTimeout_none.memState 9 ≠ 2 ∨ w_memberSilenceTimeout_none.ply < (w_memberSilenceTimeout_none.mem 9).heard + w_memberSilenceTimeout_none.get MAC_CTRL_RELEASE_S * 100000)) ∧ (match exec (.memberSilenceTimeout 9) w_memberSilenceTimeout_none with
    | .next t => decide ((t = w_memberSilenceTimeout_none))
    | _ => false) = true := by decide +kernel

def w_offerLapse : State := { wMac [(MEMBER_W2_STATE 9, 1), (MEMBER_W2_LANE 9, 4), (SLOT_OWNER 4 7, 9)] with mac := { members := [(9, { respK := 981 })] } }

theorem test_offerLapse : ((w_offerLapse.stopSafe = true) ∧ (isAddr 9 = true) ∧ (w_offerLapse.memState 9 = 1) ∧ ((w_offerLapse.mem 9).respK + (if w_offerLapse.prof (w_offerLapse.get (MEMBER_W2_LANE 9)) = 0 then 20 else 30) ≤ w_offerLapse.time.k)) ∧ (match exec (.offerLapse 9) w_offerLapse with
    | .next t => decide ((t = ((w_offerLapse.clearEntries 9).freeAddr 9).bump MAC_CNT_D_ASSOC_LAPSE) ∧ (Reads t [(MEMBER_W0_EUI 9, 0), (MEMBER_W1_EUI 9, 0), (MEMBER_W2_STATE 9, 0), (MEMBER_W2_LANE 9, 0), (MEMBER_W2_Q0 9, 0), (MEMBER_W2_Q1 9, 0), (MEMBER_W2_RSSI 9, 0), (MEMBER_W3_CAPS 9, 0)]) ∧ (Reads t [(MAC_CNT_D_ASSOC_LAPSE, w_offerLapse.adv MAC_CNT_D_ASSOC_LAPSE)]) ∧ (t.mac.freed.getLast? = some (9, w_offerLapse.ply)) ∧ ((List.range 16).all (fun i => (List.range 100).all (fun q => w_offerLapse.ownerEff (i / 8) (i % 8) q == 9 || t.get (SLOT_OWNER i q) == w_offerLapse.get (SLOT_OWNER i q))) = true))
    | _ => false) = true := by decide +kernel

def w_offerLapse_none : State := wMac []

theorem test_offerLapse_none : ((w_offerLapse_none.stopSafe = true) ∧ (isAddr 9 = false ∨ w_offerLapse_none.memState 9 ≠ 1 ∨ w_offerLapse_none.time.k < (w_offerLapse_none.mem 9).respK + (if w_offerLapse_none.prof (w_offerLapse_none.get (MEMBER_W2_LANE 9)) = 0 then 20 else 30))) ∧ (match exec (.offerLapse 9) w_offerLapse_none with
    | .next t => decide ((t = w_offerLapse_none))
    | _ => false) = true := by decide +kernel

def w_slotOwnerWrite : State := { wMac [(MEMBER_W2_STATE 9, 2)] with mac := { members := [(9, { caps := wCaps })] } }

theorem test_slotOwnerWrite : ((w_slotOwnerWrite.stopSafe = true) ∧ (1 < 2) ∧ (4 < 8) ∧ (7 < 100) ∧ (MayWrite w_slotOwnerWrite 0x10 (0x40311000 + 0x1000 * 1 + 0x200 * 4 + 4 * 7)) ∧ (9 = 265 % 256) ∧ (slotKind (w_slotOwnerWrite.prof 4) 7 = 1) ∧ (groupSlot (w_slotOwnerWrite.prof 4) 7 = 7) ∧ (9 = 0 ∨ isAddr 9 = true) ∧ (w_slotOwnerWrite.ownerRefused 1 4 7 9 = false) ∧ (w_slotOwnerWrite.ownerHeld 1 4 7 = false)) ∧ (match exec (.slotOwnerWrite 0x10 1 4 7 265) w_slotOwnerWrite with
    | .next t => decide ((Reads t [(SLOT_OWNER (8 * 1 + 4) 7, 9)]) ∧ (t = w_slotOwnerWrite.ownerApply 1 4 7 9))
    | _ => false) = true := by decide +kernel

def w_slotOwnerWrite_held : State := { wMacAt 17500000 [(MEMBER_W2_STATE 9, 2)] with mac := { members := [(9, { caps := wCaps })] } }

theorem test_slotOwnerWrite_held : ((w_slotOwnerWrite_held.stopSafe = true) ∧ (0 < 2) ∧ (4 < 8) ∧ (8 < 100) ∧ (MayWrite w_slotOwnerWrite_held 0x10 (0x40311000 + 0x1000 * 0 + 0x200 * 4 + 4 * 8)) ∧ (9 = 9 % 256) ∧ (slotKind (w_slotOwnerWrite_held.prof 4) 8 = 1) ∧ (groupSlot (w_slotOwnerWrite_held.prof 4) 8 = 8) ∧ (9 = 0 ∨ isAddr 9 = true) ∧ (w_slotOwnerWrite_held.ownerRefused 0 4 8 9 = false) ∧ (w_slotOwnerWrite_held.ownerHeld 0 4 8 = true) ∧ (([] : List (Nat × Nat × Nat × Nat)) = w_slotOwnerWrite_held.mac.held.filter (fun h => !(h.1 == 0 && h.2.1 == 4 && h.2.2.1 == 8))) ∧ (([] : List (Nat × Nat × Nat × Nat)).length < 16)) ∧ (match exec (.slotOwnerWrite 0x10 0 4 8 9) w_slotOwnerWrite_held with
    | .next t => decide ((t.mac = { w_slotOwnerWrite_held.mac with held := ([] : List (Nat × Nat × Nat × Nat)) ++ [(0, 4, 8, 9)] }) ∧ (Reads t [(SLOT_CTRL_HELD, ([] : List (Nat × Nat × Nat × Nat)).length + 1), (SLOT_CTRL_SLOT_WR_DEFERRED, 1)]))
    | _ => false) = true := by decide +kernel

def w_slotOwnerWrite_full : State := { wMacAt 17500000 [(MEMBER_W2_STATE 9, 2)] with mac := { held := List.replicate 16 (1, 4, 7, 9), members := [(9, { caps := wCaps })] } }

theorem test_slotOwnerWrite_full : ((w_slotOwnerWrite_full.stopSafe = true) ∧ (0 < 2) ∧ (4 < 8) ∧ (8 < 100) ∧ (MayWrite w_slotOwnerWrite_full 0x10 (0x40311000 + 0x1000 * 0 + 0x200 * 4 + 4 * 8)) ∧ (0 = 0 % 256) ∧ (slotKind (w_slotOwnerWrite_full.prof 4) 8 = 1) ∧ (groupSlot (w_slotOwnerWrite_full.prof 4) 8 = 8) ∧ (0 = 0 ∨ isAddr 0 = true) ∧ (w_slotOwnerWrite_full.ownerRefused 0 4 8 0 = false) ∧ (w_slotOwnerWrite_full.ownerHeld 0 4 8 = true) ∧ ((List.replicate 16 (1, 4, 7, 9) : List (Nat × Nat × Nat × Nat)) = w_slotOwnerWrite_full.mac.held.filter (fun h => !(h.1 == 0 && h.2.1 == 4 && h.2.2.1 == 8))) ∧ (16 ≤ (List.replicate 16 (1, 4, 7, 9) : List (Nat × Nat × Nat × Nat)).length)) ∧ (match exec (.slotOwnerWrite 0x10 0 4 8 0) w_slotOwnerWrite_full with
    | .next t => decide ((Reads t [(SLOT_CTRL_SLOT_WR_REFUSED, 1)]))
    | _ => false) = true := by decide +kernel

def w_slotOwnerWrite_refused : State := wMac []

theorem test_slotOwnerWrite_refused : ((w_slotOwnerWrite_refused.stopSafe = true) ∧ (MayWrite w_slotOwnerWrite_refused 0x10 (0x40311000 + 0x1000 * 0 + 0x200 * 4 + 4 * 38)) ∧ (9 = 9 % 256) ∧ (2 ≤ 0 ∨ 8 ≤ 4 ∨ 100 ≤ 38 ∨ slotKind (w_slotOwnerWrite_refused.prof 4) 38 ≠ 1 ∨ groupSlot (w_slotOwnerWrite_refused.prof 4) 38 ≠ 38 ∨ (9 ≠ 0 ∧ isAddr 9 = false) ∨ w_slotOwnerWrite_refused.ownerRefused 0 4 38 9 = true)) ∧ (match exec (.slotOwnerWrite 0x10 0 4 38 9) w_slotOwnerWrite_refused with
    | .next t => decide ((t = w_slotOwnerWrite_refused))
    | _ => false) = true := by decide +kernel

def w_flockWrite : State := wMac [(MEMBER_W2_STATE 9, 2)]

theorem test_flockWrite : ((w_flockWrite.stopSafe = true) ∧ (15 < 16) ∧ (0 < 6) ∧ (MayWrite w_flockWrite 0x10 (0x40310400 + 0x20 * 15 + 4 * 0))) ∧ (match exec (.flockWrite 0x10 15 0 0x100000100) w_flockWrite with
    | .next t => decide ((Reads t [(FLOCK_MEMBERS 15 0, 0x100000100 % 2 ^ 32)]) ∧ ((List.range 32).all (fun j => !(bitOf (w_flockWrite.get (FLOCK_MEMBERS 15 0)) j != bitOf (0x100000100 % 2 ^ 32) j && w_flockWrite.memState (32 * 0 + j + 1) != 0) || decide (t.mem (32 * 0 + j + 1) = { w_flockWrite.mem (32 * 0 + j + 1) with next := dseqNext (w_flockWrite.mem (32 * 0 + j + 1)).next, cmds := (w_flockWrite.mem (32 * 0 + j + 1)).cmds ++ [{ dst := 32 * 0 + j + 1, dseq := (w_flockWrite.mem (32 * 0 + j + 1)).next, kind := 2, body := leBytes 2 (t.flocksOf (32 * 0 + j + 1)) }] })) = true) ∧ ((List.range 256).all (fun c => (decide (32 * 0 < c ∧ c ≤ 32 * 0 + 32) && bitOf (w_flockWrite.get (FLOCK_MEMBERS 15 0)) (c - 32 * 0 - 1) != bitOf (0x100000100 % 2 ^ 32) (c - 32 * 0 - 1) && w_flockWrite.memState c != 0) || decide (t.mem c = w_flockWrite.mem c)) = true))
    | _ => false) = true := by decide +kernel

def w_uplinkSlotEnd : State := { wMacAt 19995000 [(MEMBER_W2_STATE 9, 2), (MEMBER_W2_LANE 9, 4), (SLOT_OWNER 4 7, 9), (PCH_W5_STATE 9, 1)] with mac := { upFrom := [9] } }

theorem test_uplinkSlotEnd : ((w_uplinkSlotEnd.stopSafe = true) ∧ (((4, 7) : Nat × Nat) = w_uplinkSlotEnd.entryOf (w_uplinkSlotEnd.get SLOT_CTRL_BANK) 9) ∧ (isAddr 9 = true) ∧ (w_uplinkSlotEnd.memState 9 = 2) ∧ (((4, 7) : Nat × Nat).2 ≠ 127) ∧ (w_uplinkSlotEnd.mac.slotDone.contains 9 = false) ∧ (w_uplinkSlotEnd.uplinkEnds ((4, 7) : Nat × Nat).1 ((4, 7) : Nat × Nat).2 = true) ∧ (({ { wMacAt 19995000 [(MEMBER_W2_STATE 9, 2), (MEMBER_W2_LANE 9, 4), (SLOT_OWNER 4 7, 9), (PCH_W5_STATE 9, 1)] with mac := {  } } with mac := { upFrom := [9], slotDone := [9] } } : State) = { w_uplinkSlotEnd with mac := { w_uplinkSlotEnd.mac with slotDone := w_uplinkSlotEnd.mac.slotDone ++ [9] } }) ∧ (({ { wMacAt 19995000 [(MEMBER_W2_STATE 9, 2), (MEMBER_W2_LANE 9, 4), (SLOT_OWNER 4 7, 9), (PCH_W5_STATE 9, 1)] with mac := {  } } with mac := { upFrom := [9], slotDone := [9] } } : State) = (if w_uplinkSlotEnd.mac.upFrom.contains 9 then ({ { wMacAt 19995000 [(MEMBER_W2_STATE 9, 2), (MEMBER_W2_LANE 9, 4), (SLOT_OWNER 4 7, 9), (PCH_W5_STATE 9, 1)] with mac := {  } } with mac := { upFrom := [9], slotDone := [9] } } : State) else ({ { wMacAt 19995000 [(MEMBER_W2_STATE 9, 2), (MEMBER_W2_LANE 9, 4), (SLOT_OWNER 4 7, 9), (PCH_W5_STATE 9, 1)] with mac := {  } } with mac := { upFrom := [9], slotDone := [9] } } : State).laneCount (w_uplinkSlotEnd.get (MEMBER_W2_LANE 9)) (fun c => { c with upEmpty := min (c.upEmpty + 1) 255 }))) ∧ (w_uplinkSlotEnd.active = true) ∧ (w_uplinkSlotEnd.pair.idle = false) ∧ (w_uplinkSlotEnd.mac.corOk.contains 9 = false) ∧ (((0, 100100) : Nat × Nat) = w_uplinkSlotEnd.startOf (if w_uplinkSlotEnd.prof ((4, 7) : Nat × Nat).1 = 0 then w_uplinkSlotEnd.time.k else w_uplinkSlotEnd.time.k / 10 * 10)) ∧ ((State.idleRec { wMacAt 19995000 [(MEMBER_W2_STATE 9, 2), (MEMBER_W2_LANE 9, 4), (SLOT_OWNER 4 7, 9)] with mac := {  } } 9 0 100100 32 0 false : SolRec) = ({ { wMacAt 19995000 [(MEMBER_W2_STATE 9, 2), (MEMBER_W2_LANE 9, 4), (SLOT_OWNER 4 7, 9), (PCH_W5_STATE 9, 1)] with mac := {  } } with mac := { upFrom := [9], slotDone := [9] } } : State).idleRec 9 ((0, 100100) : Nat × Nat).1 ((0, 100100) : Nat × Nat).2 32 0 false)) ∧ (match exec (.uplinkSlotEnd 9) w_uplinkSlotEnd with
    | .next t => decide ((t = ({ { wMacAt 19995000 [(MEMBER_W2_STATE 9, 2), (MEMBER_W2_LANE 9, 4), (SLOT_OWNER 4 7, 9), (PCH_W5_STATE 9, 1)] with mac := {  } } with mac := { upFrom := [9], slotDone := [9] } } : State).recorded [(State.idleRec { wMacAt 19995000 [(MEMBER_W2_STATE 9, 2), (MEMBER_W2_LANE 9, 4), (SLOT_OWNER 4 7, 9)] with mac := {  } } 9 0 100100 32 0 false : SolRec)]))
    | _ => false) = true := by decide +kernel

def w_uplinkSlotEnd_quiet : State := { wMacAt 19995000 [(MEMBER_W2_STATE 9, 2), (MEMBER_W2_LANE 9, 4), (SLOT_OWNER 4 7, 9)] with mac := { upFrom := [9] } }

theorem test_uplinkSlotEnd_quiet : ((w_uplinkSlotEnd_quiet.stopSafe = true) ∧ (((4, 7) : Nat × Nat) = w_uplinkSlotEnd_quiet.entryOf (w_uplinkSlotEnd_quiet.get SLOT_CTRL_BANK) 9) ∧ (isAddr 9 = true) ∧ (w_uplinkSlotEnd_quiet.memState 9 = 2) ∧ (((4, 7) : Nat × Nat).2 ≠ 127) ∧ (w_uplinkSlotEnd_quiet.mac.slotDone.contains 9 = false) ∧ (w_uplinkSlotEnd_quiet.uplinkEnds ((4, 7) : Nat × Nat).1 ((4, 7) : Nat × Nat).2 = true) ∧ (({ { wMacAt 19995000 [(MEMBER_W2_STATE 9, 2), (MEMBER_W2_LANE 9, 4), (SLOT_OWNER 4 7, 9)] with mac := {  } } with mac := { upFrom := [9], slotDone := [9] } } : State) = { w_uplinkSlotEnd_quiet with mac := { w_uplinkSlotEnd_quiet.mac with slotDone := w_uplinkSlotEnd_quiet.mac.slotDone ++ [9] } }) ∧ (({ { wMacAt 19995000 [(MEMBER_W2_STATE 9, 2), (MEMBER_W2_LANE 9, 4), (SLOT_OWNER 4 7, 9)] with mac := {  } } with mac := { upFrom := [9], slotDone := [9] } } : State) = (if w_uplinkSlotEnd_quiet.mac.upFrom.contains 9 then ({ { wMacAt 19995000 [(MEMBER_W2_STATE 9, 2), (MEMBER_W2_LANE 9, 4), (SLOT_OWNER 4 7, 9)] with mac := {  } } with mac := { upFrom := [9], slotDone := [9] } } : State) else ({ { wMacAt 19995000 [(MEMBER_W2_STATE 9, 2), (MEMBER_W2_LANE 9, 4), (SLOT_OWNER 4 7, 9)] with mac := {  } } with mac := { upFrom := [9], slotDone := [9] } } : State).laneCount (w_uplinkSlotEnd_quiet.get (MEMBER_W2_LANE 9)) (fun c => { c with upEmpty := min (c.upEmpty + 1) 255 }))) ∧ (w_uplinkSlotEnd_quiet.active = true) ∧ (w_uplinkSlotEnd_quiet.pair.idle = false) ∧ (w_uplinkSlotEnd_quiet.mac.corOk.contains 9 = false) ∧ (((0, 100100) : Nat × Nat) = w_uplinkSlotEnd_quiet.startOf (if w_uplinkSlotEnd_quiet.prof ((4, 7) : Nat × Nat).1 = 0 then w_uplinkSlotEnd_quiet.time.k else w_uplinkSlotEnd_quiet.time.k / 10 * 10)) ∧ ((State.idleRec { wMacAt 19995000 [(MEMBER_W2_STATE 9, 2), (MEMBER_W2_LANE 9, 4), (SLOT_OWNER 4 7, 9)] with mac := {  } } 9 0 100100 32 0 false : SolRec) = ({ { wMacAt 19995000 [(MEMBER_W2_STATE 9, 2), (MEMBER_W2_LANE 9, 4), (SLOT_OWNER 4 7, 9)] with mac := {  } } with mac := { upFrom := [9], slotDone := [9] } } : State).idleRec 9 ((0, 100100) : Nat × Nat).1 ((0, 100100) : Nat × Nat).2 32 0 false) ∧ (w_uplinkSlotEnd_quiet.pchState 9 = 0)) ∧ (match exec (.uplinkSlotEnd 9) w_uplinkSlotEnd_quiet with
    | .next t => decide ((t.fix = { w_uplinkSlotEnd_quiet.fix with recs := recsAfter w_uplinkSlotEnd_quiet.fix.recs [(State.idleRec { wMacAt 19995000 [(MEMBER_W2_STATE 9, 2), (MEMBER_W2_LANE 9, 4), (SLOT_OWNER 4 7, 9)] with mac := {  } } 9 0 100100 32 0 false : SolRec)], done := w_uplinkSlotEnd_quiet.fix.done ++ [(State.idleRec { wMacAt 19995000 [(MEMBER_W2_STATE 9, 2), (MEMBER_W2_LANE 9, 4), (SLOT_OWNER 4 7, 9)] with mac := {  } } 9 0 100100 32 0 false : SolRec).shown] }) ∧ (Reads t [(FIX_MEMBER_STATUS 9, (State.idleRec { wMacAt 19995000 [(MEMBER_W2_STATE 9, 2), (MEMBER_W2_LANE 9, 4), (SLOT_OWNER 4 7, 9)] with mac := {  } } 9 0 100100 32 0 false : SolRec).status), (FIX_MEMBER_NFIX 9, 0)]))
    | _ => false) = true := by decide +kernel

def w_uplinkSlotEnd_empty : State := { wMacAt 19995000 [(MEMBER_W2_STATE 9, 2), (MEMBER_W2_LANE 9, 4), (SLOT_OWNER 4 7, 9), (PAIR_STATUS_ACTIVE, 0)] with mac := {  } }

theorem test_uplinkSlotEnd_empty : ((w_uplinkSlotEnd_empty.stopSafe = true) ∧ (((4, 7) : Nat × Nat) = w_uplinkSlotEnd_empty.entryOf (w_uplinkSlotEnd_empty.get SLOT_CTRL_BANK) 9) ∧ (isAddr 9 = true) ∧ (w_uplinkSlotEnd_empty.memState 9 = 2) ∧ (((4, 7) : Nat × Nat).2 ≠ 127) ∧ (w_uplinkSlotEnd_empty.mac.slotDone.contains 9 = false) ∧ (w_uplinkSlotEnd_empty.uplinkEnds ((4, 7) : Nat × Nat).1 ((4, 7) : Nat × Nat).2 = true) ∧ (({ { wMacAt 19995000 [(MEMBER_W2_STATE 9, 2), (MEMBER_W2_LANE 9, 4), (SLOT_OWNER 4 7, 9), (PAIR_STATUS_ACTIVE, 0)] with mac := {  } } with mac := { slotDone := [9] } } : State) = { w_uplinkSlotEnd_empty with mac := { w_uplinkSlotEnd_empty.mac with slotDone := w_uplinkSlotEnd_empty.mac.slotDone ++ [9] } }) ∧ ((State.laneCount { { wMacAt 19995000 [(MEMBER_W2_STATE 9, 2), (MEMBER_W2_LANE 9, 4), (SLOT_OWNER 4 7, 9), (PAIR_STATUS_ACTIVE, 0)] with mac := {  } } with mac := { slotDone := [9] } } 4 (fun c => { c with upEmpty := min (c.upEmpty + 1) 255 }) : State) = (if w_uplinkSlotEnd_empty.mac.upFrom.contains 9 then ({ { wMacAt 19995000 [(MEMBER_W2_STATE 9, 2), (MEMBER_W2_LANE 9, 4), (SLOT_OWNER 4 7, 9), (PAIR_STATUS_ACTIVE, 0)] with mac := {  } } with mac := { slotDone := [9] } } : State) else ({ { wMacAt 19995000 [(MEMBER_W2_STATE 9, 2), (MEMBER_W2_LANE 9, 4), (SLOT_OWNER 4 7, 9), (PAIR_STATUS_ACTIVE, 0)] with mac := {  } } with mac := { slotDone := [9] } } : State).laneCount (w_uplinkSlotEnd_empty.get (MEMBER_W2_LANE 9)) (fun c => { c with upEmpty := min (c.upEmpty + 1) 255 }))) ∧ (w_uplinkSlotEnd_empty.active = false ∨ w_uplinkSlotEnd_empty.pair.idle = true ∨ w_uplinkSlotEnd_empty.mac.corOk.contains 9 = true)) ∧ (match exec (.uplinkSlotEnd 9) w_uplinkSlotEnd_empty with
    | .next t => decide ((t = (State.laneCount { { wMacAt 19995000 [(MEMBER_W2_STATE 9, 2), (MEMBER_W2_LANE 9, 4), (SLOT_OWNER 4 7, 9), (PAIR_STATUS_ACTIVE, 0)] with mac := {  } } with mac := { slotDone := [9] } } 4 (fun c => { c with upEmpty := min (c.upEmpty + 1) 255 }) : State)))
    | _ => false) = true := by decide +kernel

def w_uplinkSlotEnd_none : State := wMac []

theorem test_uplinkSlotEnd_none : ((w_uplinkSlotEnd_none.stopSafe = true) ∧ (((0, 127) : Nat × Nat) = w_uplinkSlotEnd_none.entryOf (w_uplinkSlotEnd_none.get SLOT_CTRL_BANK) 9) ∧ (isAddr 9 = false ∨ w_uplinkSlotEnd_none.memState 9 ≠ 2 ∨ ((0, 127) : Nat × Nat).2 = 127 ∨ w_uplinkSlotEnd_none.mac.slotDone.contains 9 = true ∨ w_uplinkSlotEnd_none.uplinkEnds ((0, 127) : Nat × Nat).1 ((0, 127) : Nat × Nat).2 = false)) ∧ (match exec (.uplinkSlotEnd 9) w_uplinkSlotEnd_none with
    | .next t => decide ((t = w_uplinkSlotEnd_none))
    | _ => false) = true := by decide +kernel

def w_netForm : State := wMac [(MAC_CTRL_NET_EN, 0), (MEMBER_W2_STATE 9, 2), (MEMBER_W2_STATE 192, 1)]

theorem test_netForm : ((w_netForm.accepts 0x0500 3 9 true = true) ∧ (w_netForm.bit MAC_CTRL_NET_EN = false) ∧ (w_netForm.time.grid = true) ∧ (1020 = ceil10 (w_netForm.time.k + 10)) ∧ (w_netForm.disp.tasks = []) ∧ (allAddrs.all (fun a => (w_netForm.pch a).move.isNone && (w_netForm.pch a).reqs.isEmpty) = true) ∧ ((State.put (State.setK0 (State.releaseAll (wMac [(MAC_CTRL_NET_EN, 0), (MEMBER_W2_STATE 9, 2), (MEMBER_W2_STATE 192, 1)]) 3) 1020) PAIR_CTR_CTR 1 : State) = ((w_netForm.releaseAll 3).setK0 1020).put PAIR_CTR_CTR 1)) ∧ (match exec (.netForm 3 9) w_netForm with
    | .next t => decide ((answers w_netForm t [] 0x0500 3 9 Ecp.OK (crc32c []) (leBytes 8 1020) = true) ∧ (t = { (State.put (State.setK0 (State.releaseAll (wMac [(MAC_CTRL_NET_EN, 0), (MEMBER_W2_STATE 9, 2), (MEMBER_W2_STATE 192, 1)]) 3) 1020) PAIR_CTR_CTR 1 : State) with ecp := t.ecp, out := t.out }) ∧ (Reads t [(NET_K0_LO_K0, 1020 % 2 ^ 32), (NET_K0_HI_VALID, 1), (PAIR_CTR_CTR, 1)]) ∧ (allAddrs.all (fun a => t.memState a == 0) = true))
    | _ => false) = true := by decide +kernel

def w_netForm_frees : State := wMac [(MAC_CTRL_NET_EN, 0), (MEMBER_W2_STATE 9, 2), (MEMBER_W2_STATE 192, 1)]

theorem test_netForm_frees : ((w_netForm_frees.stopSafe = true) ∧ (w_netForm_frees.accepts 0x0500 3 9 true = true) ∧ (w_netForm_frees.bit MAC_CTRL_NET_EN = false) ∧ (w_netForm_frees.time.grid = true) ∧ (1020 = ceil10 (w_netForm_frees.time.k + 10))) ∧ (match exec (.netForm 3 9) w_netForm_frees with
    | .next t => decide ((allAddrs.all (fun (a : Nat) => t.memState a == 0) = true) ∧ (Reads t [(NET_K0_LO_K0, 1020 % 2 ^ 32), (NET_K0_HI_VALID, 1), (PAIR_CTR_CTR, 1)]))
    | _ => false) = true := by decide +kernel

def w_netForm_denied : State := wMac []

theorem test_netForm_denied : ((w_netForm_denied.stopSafe = true) ∧ (w_netForm_denied.accepts 0x0500 3 9 true = true) ∧ (w_netForm_denied.bit MAC_CTRL_NET_EN = true)) ∧ (match exec (.netForm 3 9) w_netForm_denied with
    | .next t => decide ((answers w_netForm_denied t [] 0x0500 3 9 Ecp.DENIED (crc32c []) [] = true))
    | _ => false) = true := by decide +kernel

theorem test_netForm_noGrid : ((wAct.stopSafe = true) ∧ (wAct.accepts 0x0500 3 9 true = true) ∧ (wAct.bit MAC_CTRL_NET_EN = false) ∧ (wAct.time.grid = false)) ∧ (match exec (.netForm 3 9) wAct with
    | .next t => decide ((answers wAct t [] 0x0500 3 9 Ecp.NOT_READY (crc32c []) [] = true))
    | _ => false) = true := by decide +kernel

def w_memberGet : State := wMac [(MEMBER_W2_STATE 9, 2), (MEMBER_W2_LANE 9, 4)]

theorem test_memberGet : ((w_memberGet.stopSafe = true) ∧ (w_memberGet.accepts 0x0501 3 9 true = true) ∧ (isAddr 9 = true)) ∧ (match exec (.memberGet 3 9 ([9, 0, 0, 0])) w_memberGet with
    | .next t => decide ((answers w_memberGet t [] 0x0501 3 9 Ecp.OK (crc32c [9, 0, 0, 0]) (w_memberGet.memberBytes 9) = true))
    | _ => false) = true := by decide +kernel

def w_memberGet_bad : State := wMac [(MEMBER_W2_STATE 9, 2), (MEMBER_W2_LANE 9, 4)]

theorem test_memberGet_bad : ((w_memberGet_bad.stopSafe = true) ∧ (w_memberGet_bad.accepts 0x0501 3 9 true = true) ∧ (9 < 256) ∧ (1 < 256) ∧ (isAddr 9 = false ∨ 1 ≠ 0)) ∧ (match exec (.memberGet 3 9 ([9, 1, 0, 0])) w_memberGet_bad with
    | .next t => decide ((answers w_memberGet_bad t [] 0x0501 3 9 Ecp.BAD_PARAM (crc32c [9, 1, 0, 0]) [] = true))
    | _ => false) = true := by decide +kernel

def w_memberRelease : State := wMac [(MEMBER_W2_STATE 9, 2), (MEMBER_W2_LANE 9, 4)]

theorem test_memberRelease : ((w_memberRelease.accepts 0x0502 3 9 true = true) ∧ (isAddr 9 = true) ∧ (w_memberRelease.memState 9 ≠ 0) ∧ ((w_memberRelease.pch 9).move = none) ∧ ((w_memberRelease.pch 9).reqs = []) ∧ (w_memberRelease.disp.tasks = []) ∧ ((State.releaseAddr (wMac [(MEMBER_W2_STATE 9, 2), (MEMBER_W2_LANE 9, 4)]) 9 0 : State) = w_memberRelease.releaseAddr 9 0)) ∧ (match exec (.memberRelease 3 9 ([9, 0, 0, 0])) w_memberRelease with
    | .next t => decide ((answers w_memberRelease t [] 0x0502 3 9 Ecp.OK (crc32c [9, 0, 0, 0]) [] = true) ∧ (t = { (State.releaseAddr (wMac [(MEMBER_W2_STATE 9, 2), (MEMBER_W2_LANE 9, 4)]) 9 0 : State) with ecp := t.ecp, out := t.out }) ∧ (Reads t [(MEMBER_W0_EUI 9, 0), (MEMBER_W1_EUI 9, 0), (MEMBER_W2_STATE 9, 0), (MEMBER_W2_LANE 9, 0), (MEMBER_W2_Q0 9, 0), (MEMBER_W2_Q1 9, 0), (MEMBER_W2_RSSI 9, 0), (MEMBER_W3_CAPS 9, 0)]) ∧ (t.mac.freed.getLast? = some (9, w_memberRelease.ply)))
    | _ => false) = true := by decide +kernel

def w_memberRelease_tasks : State := wMac [(MEMBER_W2_STATE 9, 2), (MEMBER_W2_LANE 9, 4)]

theorem test_memberRelease_tasks : ((w_memberRelease_tasks.stopSafe = true) ∧ (w_memberRelease_tasks.accepts 0x0502 3 9 true = true) ∧ (isAddr 9 = true) ∧ (w_memberRelease_tasks.memState 9 ≠ 0)) ∧ (match exec (.memberRelease 3 9 [9, 0, 0, 0]) w_memberRelease_tasks with
    | .next t => decide ((Reads t [(MEMBER_W0_EUI 9, 0), (MEMBER_W1_EUI 9, 0), (MEMBER_W2_STATE 9, 0), (MEMBER_W2_LANE 9, 0), (MEMBER_W2_Q0 9, 0), (MEMBER_W2_Q1 9, 0), (MEMBER_W2_RSSI 9, 0), (MEMBER_W3_CAPS 9, 0)]) ∧ (t.mac.freed.getLast? = some (9, w_memberRelease_tasks.ply)) ∧ (t.mac.once.getLast? = some (w_memberRelease_tasks.get (MEMBER_W2_LANE 9), { dst := 9, dseq := (w_memberRelease_tasks.mem 9).next, kind := 5, body := [0] })) ∧ (t.pchState 9 = 0))
    | _ => false) = true := by decide +kernel

def w_memberRelease_free : State := wMac [(MEMBER_W2_STATE 9, 2), (MEMBER_W2_LANE 9, 4)]

theorem test_memberRelease_free : ((w_memberRelease_free.stopSafe = true) ∧ (w_memberRelease_free.accepts 0x0502 3 9 true = true) ∧ (isAddr 10 = true) ∧ (w_memberRelease_free.memState 10 = 0)) ∧ (match exec (.memberRelease 3 9 ([10, 0, 0, 0])) w_memberRelease_free with
    | .next t => decide ((answers w_memberRelease_free t [] 0x0502 3 9 Ecp.OK (crc32c [10, 0, 0, 0]) [] = true))
    | _ => false) = true := by decide +kernel

def w_memberRelease_bad : State := wMac [(MEMBER_W2_STATE 9, 2), (MEMBER_W2_LANE 9, 4)]

theorem test_memberRelease_bad : ((w_memberRelease_bad.stopSafe = true) ∧ (w_memberRelease_bad.accepts 0x0502 3 9 true = true) ∧ (0 < 256) ∧ (0 < 256) ∧ (isAddr 0 = false ∨ 0 ≠ 0)) ∧ (match exec (.memberRelease 3 9 ([0, 0, 0, 0])) w_memberRelease_bad with
    | .next t => decide ((answers w_memberRelease_bad t [] 0x0502 3 9 Ecp.BAD_PARAM (crc32c [0, 0, 0, 0]) [] = true))
    | _ => false) = true := by decide +kernel

def w_flockSet : State := wMac [(MEMBER_W2_STATE 9, 2), (MEMBER_W2_LANE 9, 4), (FLOCK_MEMBERS 3 0, 0xFF)]

theorem test_flockSet : ((w_flockSet.stopSafe = true) ∧ (w_flockSet.accepts 0x0503 3 9 true = true) ∧ (3 < 16) ∧ (0 < 3) ∧ (2 = ([192, 9] : List Nat).length) ∧ (2 ≤ 192) ∧ (([192, 9] : List Nat).all isAddr = true)) ∧ (match exec (.flockSet 3 9 (([3, 0, 2, 0] ++ ([192, 9] : List Nat)))) w_flockSet with
    | .next t => decide ((answers w_flockSet t [] 0x0503 3 9 Ecp.OK (crc32c ([3, 0, 2, 0] ++ ([192, 9] : List Nat))) [] = true) ∧ ((List.range 6).all (fun w => t.get (FLOCK_MEMBERS 3 w) == w_flockSet.flockNew 3 0 w ([192, 9] : List Nat) % 2 ^ 32) = true) ∧ (allAddrs.all (fun c => w_flockSet.memState c != 0 || decide (t.mem c = w_flockSet.mem c)) = true) ∧ (allAddrs.all (fun c => !(w_flockSet.memState c != 0 && w_flockSet.inFlock 3 c != t.inFlock 3 c) || decide (t.mem c = { w_flockSet.mem c with next := dseqNext (w_flockSet.mem c).next, cmds := (w_flockSet.mem c).cmds ++ [{ dst := c, dseq := (w_flockSet.mem c).next, kind := 2, body := leBytes 2 (t.flocksOf c) }] })) = true))
    | _ => false) = true := by decide +kernel

def w_flockSet_bad : State := wMac [(MEMBER_W2_STATE 9, 2), (MEMBER_W2_LANE 9, 4)]

theorem test_flockSet_bad : ((w_flockSet_bad.stopSafe = true) ∧ (w_flockSet_bad.accepts 0x0503 3 9 true = true) ∧ (3 < 256) ∧ (3 < 256) ∧ (0 < 256) ∧ (1 = ([192] : List Nat).length) ∧ (1 < 256) ∧ (16 ≤ 3 ∨ 3 ≤ 3 ∨ 192 < 1 ∨ 0 ≠ 0 ∨ ([192] : List Nat).all isAddr = false)) ∧ (match exec (.flockSet 3 9 (([3, 3, 1, 0] ++ ([192] : List Nat)))) w_flockSet_bad with
    | .next t => decide ((answers w_flockSet_bad t [] 0x0503 3 9 Ecp.BAD_PARAM (crc32c ([3, 3, 1, 0] ++ ([192] : List Nat))) [] = true))
    | _ => false) = true := by decide +kernel

def w_slotSet : State := { wMac [(MEMBER_W2_STATE 9, 2)] with mac := { members := [(9, { caps := wCaps })] } }

theorem test_slotSet : ((w_slotSet.accepts 0x0504 3 9 true = true) ∧ (1 < 2) ∧ (4 < 8) ∧ (37 < 100) ∧ (9 < 256) ∧ (((State.ownerWrite { wMac [(MEMBER_W2_STATE 9, 2)] with mac := { members := [(9, { caps := wCaps })] } } 1 4 37 9).1 : State) = (w_slotSet.ownerWrite 1 4 37 9).1)) ∧ (match exec (.slotSet 3 9 ([1, 4, 37, 9])) w_slotSet with
    | .next t => decide ((answers w_slotSet t [] 0x0504 3 9 (w_slotSet.ownerWrite 1 4 37 9).2 (crc32c [1, 4, 37, 9]) [] = true) ∧ (t = { ((State.ownerWrite { wMac [(MEMBER_W2_STATE 9, 2)] with mac := { members := [(9, { caps := wCaps })] } } 1 4 37 9).1 : State) with ecp := t.ecp, out := t.out }))
    | _ => false) = true := by decide +kernel

def w_slotSet_lands : State := { wMac [(MEMBER_W2_STATE 9, 2)] with mac := { members := [(9, { caps := wCaps })] } }

theorem test_slotSet_lands : ((w_slotSet_lands.accepts 0x0504 3 9 true = true) ∧ (1 < 2) ∧ (4 < 8) ∧ (37 < 100) ∧ (slotKind (w_slotSet_lands.prof 4) 37 = 1) ∧ (groupSlot (w_slotSet_lands.prof 4) 37 = 37) ∧ (9 = 0 ∨ isAddr 9 = true) ∧ (w_slotSet_lands.ownerRefused 1 4 37 9 = false) ∧ (w_slotSet_lands.ownerHeld 1 4 37 = false)) ∧ (match exec (.slotSet 3 9 ([1, 4, 37, 9])) w_slotSet_lands with
    | .next t => decide ((answers w_slotSet_lands t [] 0x0504 3 9 Ecp.OK (crc32c [1, 4, 37, 9]) [] = true) ∧ (Reads t [(SLOT_OWNER (8 * 1 + 4) 37, 9)]))
    | _ => false) = true := by decide +kernel

def w_slotSet_bad : State := wMac []

theorem test_slotSet_bad : ((w_slotSet_bad.stopSafe = true) ∧ (w_slotSet_bad.accepts 0x0504 3 9 true = true) ∧ (2 < 256) ∧ (4 < 256) ∧ (38 < 256) ∧ (9 < 256) ∧ (2 ≤ 2 ∨ 8 ≤ 4 ∨ 100 ≤ 38)) ∧ (match exec (.slotSet 3 9 ([2, 4, 38, 9])) w_slotSet_bad with
    | .next t => decide ((answers w_slotSet_bad t [] 0x0504 3 9 Ecp.BAD_PARAM (crc32c [2, 4, 38, 9]) [] = true))
    | _ => false) = true := by decide +kernel

def w_cutOffC1 : State := { wMacAt 94995000 [(LANE_STATUS_STATE 4, 3)] with fix := { State.reset.fix with done := [{ addr := 9, status := 4 }, { addr := 9, status := 3 }, { addr := 4 }] } }

theorem test_cutOffC1 : ((w_cutOffC1.stopSafe = true) ∧ (w_cutOffC1.instantNow 95000000 = true) ∧ (w_cutOffC1.active = true) ∧ (w_cutOffC1.pair.idle = false)) ∧ (match exec (.cutOffC1) w_cutOffC1 with
    | .next t => decide ((t.fix.done = []) ∧ (t.fix.queue = w_cutOffC1.fix.queue) ∧ (t.fix.cur = w_cutOffC1.fix.cur) ∧ ((!w_cutOffC1.bit PAIR_STATUS_ACTIVE || t.mp.wire.any (fun (x : Nat × MpItem) => x.2 == MpItem.cut (recsByAddr w_cutOffC1.fix.done))) = true) ∧ (w_cutOffC1.lanes0.all (fun (n : Nat) => (t.storedDigest n 1).isSome) = true) ∧ (t.time = w_cutOffC1.time) ∧ (t.rst = w_cutOffC1.rst) ∧ (t.gnss = w_cutOffC1.gnss) ∧ (t.pair = w_cutOffC1.pair) ∧ (t.memDevs = w_cutOffC1.memDevs))
    | _ => false) = true := by decide +kernel

def w_cutOffC1_all : State := { wMacAt 94995000 [(LANE_STATUS_STATE 4, 3)] with fix := { State.reset.fix with done := [{ addr := 9, status := 4 }, { addr := 9, status := 3 }, { addr := 4 }] } }

theorem test_cutOffC1_all : ((w_cutOffC1_all.stopSafe = true) ∧ (w_cutOffC1_all.instantNow 95000000 = true) ∧ (w_cutOffC1_all.active = true) ∧ (w_cutOffC1_all.pair.idle = false) ∧ (({ State.trkC1 { wMacAt 94995000 [(LANE_STATUS_STATE 4, 3)] with fix := { State.reset.fix with done := [{ addr := 9, status := 4 }, { addr := 9, status := 3 }, { addr := 4 }] } } with mac := { (State.trkC1 { wMacAt 94995000 [(LANE_STATUS_STATE 4, 3)] with fix := { State.reset.fix with done := [{ addr := 9, status := 4 }, { addr := 9, status := 3 }, { addr := 4 }] } }).mac with subWins := (State.trkC1 { wMacAt 94995000 [(LANE_STATUS_STATE 4, 3)] with fix := { State.reset.fix with done := [{ addr := 9, status := 4 }, { addr := 9, status := 3 }, { addr := 4 }] } }).mac.wins } } : State) = (if w_cutOffC1_all.time.k % 5 = 1 then { w_cutOffC1_all.trkC1 with mac := { w_cutOffC1_all.trkC1.mac with subWins := w_cutOffC1_all.trkC1.mac.wins } } else w_cutOffC1_all.trkC1)) ∧ ((State.renewAll (State.bindAll { State.trkC1 { wMacAt 94995000 [(LANE_STATUS_STATE 4, 3)] with fix := { State.reset.fix with done := [{ addr := 9, status := 4 }, { addr := 9, status := 3 }, { addr := 4 }] } } with mac := { (State.trkC1 { wMacAt 94995000 [(LANE_STATUS_STATE 4, 3)] with fix := { State.reset.fix with done := [{ addr := 9, status := 4 }, { addr := 9, status := 3 }, { addr := 4 }] } }).mac with subWins := (State.trkC1 { wMacAt 94995000 [(LANE_STATUS_STATE 4, 3)] with fix := { State.reset.fix with done := [{ addr := 9, status := 4 }, { addr := 9, status := 3 }, { addr := 4 }] } }).mac.wins } }) : State) = ({ State.trkC1 { wMacAt 94995000 [(LANE_STATUS_STATE 4, 3)] with fix := { State.reset.fix with done := [{ addr := 9, status := 4 }, { addr := 9, status := 3 }, { addr := 4 }] } } with mac := { (State.trkC1 { wMacAt 94995000 [(LANE_STATUS_STATE 4, 3)] with fix := { State.reset.fix with done := [{ addr := 9, status := 4 }, { addr := 9, status := 3 }, { addr := 4 }] } }).mac with subWins := (State.trkC1 { wMacAt 94995000 [(LANE_STATUS_STATE 4, 3)] with fix := { State.reset.fix with done := [{ addr := 9, status := 4 }, { addr := 9, status := 3 }, { addr := 4 }] } }).mac.wins } } : State).bindAll.renewAll)) ∧ (match exec (.cutOffC1) w_cutOffC1_all with
    | .next t => decide ((t = ((State.renewAll (State.bindAll { State.trkC1 { wMacAt 94995000 [(LANE_STATUS_STATE 4, 3)] with fix := { State.reset.fix with done := [{ addr := 9, status := 4 }, { addr := 9, status := 3 }, { addr := 4 }] } } with mac := { (State.trkC1 { wMacAt 94995000 [(LANE_STATUS_STATE 4, 3)] with fix := { State.reset.fix with done := [{ addr := 9, status := 4 }, { addr := 9, status := 3 }, { addr := 4 }] } }).mac with subWins := (State.trkC1 { wMacAt 94995000 [(LANE_STATUS_STATE 4, 3)] with fix := { State.reset.fix with done := [{ addr := 9, status := 4 }, { addr := 9, status := 3 }, { addr := 4 }] } }).mac.wins } }) : State).lanes0.foldl State.buildD1 (State.renewAll (State.bindAll { State.trkC1 { wMacAt 94995000 [(LANE_STATUS_STATE 4, 3)] with fix := { State.reset.fix with done := [{ addr := 9, status := 4 }, { addr := 9, status := 3 }, { addr := 4 }] } } with mac := { (State.trkC1 { wMacAt 94995000 [(LANE_STATUS_STATE 4, 3)] with fix := { State.reset.fix with done := [{ addr := 9, status := 4 }, { addr := 9, status := 3 }, { addr := 4 }] } }).mac with subWins := (State.trkC1 { wMacAt 94995000 [(LANE_STATUS_STATE 4, 3)] with fix := { State.reset.fix with done := [{ addr := 9, status := 4 }, { addr := 9, status := 3 }, { addr := 4 }] } }).mac.wins } }) : State)).sendCut 1))
    | _ => false) = true := by decide +kernel

theorem test_cutOffC1_none : ((wReset.stopSafe = true) ∧ (wReset.instantNow 95000000 = false ∨ wReset.active = false ∨ wReset.pair.idle = true)) ∧ (match exec (.cutOffC1) wReset with
    | .next t => decide ((t = wReset))
    | _ => false) = true := by decide +kernel

def w_cutOffC2 : State := { wMacAt 97495000 [] with fix := { State.reset.fix with cur := some ⟨5, 10, 0, ⟨true, false, 2200, 400, 0, 0, []⟩⟩, queue := [⟨7, 10, 0, ⟨true, false, 2200, 400, 0, 0, []⟩⟩] } }

theorem test_cutOffC2 : ((w_cutOffC2.stopSafe = true) ∧ (w_cutOffC2.instantNow 97500000 = true) ∧ (w_cutOffC2.active = true) ∧ (w_cutOffC2.pair.idle = false)) ∧ (match exec (.cutOffC2) w_cutOffC2 with
    | .next t => decide ((t.fix.done = []) ∧ (t.fix.cur = none) ∧ (t.fix.queue = []) ∧ ((!w_cutOffC2.bit PAIR_STATUS_ACTIVE || t.mp.wire.any (fun (x : Nat × MpItem) => x.2 == MpItem.cut (recsByAddr (w_cutOffC2.shedAll (97500000 - w_cutOffC2.sinceNs)).fix.done))) = true) ∧ (w_cutOffC2.lanes0.all (fun (n : Nat) => (t.storedDigest n 2).isSome) = true) ∧ (t.time = w_cutOffC2.time) ∧ (t.rst = w_cutOffC2.rst) ∧ (t.gnss = w_cutOffC2.gnss) ∧ (t.memDevs = w_cutOffC2.memDevs) ∧ (Reads t [(FIX_OVL_SHED, w_cutOffC2.adv FIX_OVL_SHED (w_cutOffC2.fix.cur.toList ++ w_cutOffC2.fix.queue).length)]))
    | _ => false) = true := by decide +kernel

def w_cutOffC2_all : State := { wMacAt 97495000 [] with fix := { State.reset.fix with cur := some ⟨5, 10, 0, ⟨true, false, 2200, 400, 0, 0, []⟩⟩, queue := [⟨7, 10, 0, ⟨true, false, 2200, 400, 0, 0, []⟩⟩] } }

theorem test_cutOffC2_all : (w_cutOffC2_all.stopSafe = true) ∧ (w_cutOffC2_all.instantNow 97500000 = true) ∧ (w_cutOffC2_all.active = true) ∧ (w_cutOffC2_all.pair.idle = false) ∧ ((State.trkNew ({ wMacAt 97495000 [] with fix := { State.reset.fix with cur := some ⟨5, 10, 0, ⟨true, false, 2200, 400, 0, 0, []⟩⟩, queue := [⟨7, 10, 0, ⟨true, false, 2200, 400, 0, 0, []⟩⟩] } }) (State.shedAll ({ wMacAt 97495000 [] with fix := { State.reset.fix with cur := some ⟨5, 10, 0, ⟨true, false, 2200, 400, 0, 0, []⟩⟩, queue := [⟨7, 10, 0, ⟨true, false, 2200, 400, 0, 0, []⟩⟩] } }) 5000) : State) = w_cutOffC2_all.trkNew (w_cutOffC2_all.shedAll (97500000 - w_cutOffC2_all.sinceNs))) := by decide +kernel

theorem test_cutOffC2_none : ((wReset.stopSafe = true) ∧ (wReset.instantNow 97500000 = false ∨ wReset.active = false ∨ wReset.pair.idle = true)) ∧ (match exec (.cutOffC2) wReset with
    | .next t => decide ((t = wReset))
    | _ => false) = true := by decide +kernel

def w_superframeBoundary : State := { wMacAt 99995000 [(MEMBER_W2_STATE 9, 2), (MEMBER_W2_LANE 9, 4)] with mac := { held := [(0, 4, 7, 9)], members := [(9, { caps := wCaps })], cnt := [(4, { upOk := 3 })] }, clk := { txEndPending := true } }

theorem test_superframeBoundary : ((w_superframeBoundary.stopSafe = true) ∧ (w_superframeBoundary.instantNow (w_superframeBoundary.superNs w_superframeBoundary.sfn) = true)) ∧ (match exec (.superframeBoundary) w_superframeBoundary with
    | .next t => decide ((t.time.k = w_superframeBoundary.time.k + 1) ∧ (t.time.gridNs = w_superframeBoundary.time.gridNs + w_superframeBoundary.superNs w_superframeBoundary.sfn) ∧ ((t.time.sec, t.time.fx, t.time.grid) = (w_superframeBoundary.time.sec, w_superframeBoundary.time.fx, w_superframeBoundary.time.grid)) ∧ (t.mac.held = []) ∧ (t.mac.cnt = []) ∧ (t.clk = { w_superframeBoundary.clk with txEnded := w_superframeBoundary.clk.txEnded || w_superframeBoundary.clk.txEndPending, txEndPending := false }) ∧ (t.cast = { w_superframeBoundary.cast with boundaryNow := true }) ∧ (t.ply = w_superframeBoundary.ply) ∧ (t.rst = w_superframeBoundary.rst) ∧ (t.gnss = w_superframeBoundary.gnss) ∧ (t.memDevs = w_superframeBoundary.memDevs) ∧ (t.pwr = w_superframeBoundary.pwr) ∧ (t.flash = w_superframeBoundary.flash))
    | _ => false) = true := by decide +kernel

def w_superframeBoundary_all : State := wMacAt 99995000 []

theorem test_superframeBoundary_all : (w_superframeBoundary_all.stopSafe = true) ∧ (w_superframeBoundary_all.instantNow (w_superframeBoundary_all.superNs w_superframeBoundary_all.sfn) = true) ∧ ((State.gridStep (State.applyHeld (State.linkMessage (State.missBoundary (wMacAt 99995000 [])))) : State) = w_superframeBoundary_all.missBoundary.linkMessage.applyHeld.gridStep) ∧ ((State.logNearEnd false (State.macBoundary (State.gridStep (State.applyHeld (State.linkMessage (State.missBoundary (wMacAt 99995000 []))))) 1002) : State) = State.logNearEnd w_superframeBoundary_all.sfnNearEnd ((State.gridStep (State.applyHeld (State.linkMessage (State.missBoundary (wMacAt 99995000 [])))) : State).macBoundary (State.gridStep (State.applyHeld (State.linkMessage (State.missBoundary (wMacAt 99995000 [])))) : State).time.k)) ∧ ((State.lapseDue (State.claimBoundary (State.hopBoundary (State.logNearEnd false (State.macBoundary (State.gridStep (State.applyHeld (State.linkMessage (State.missBoundary (wMacAt 99995000 []))))) 1002)))) : State) = State.lapseDue (State.claimBoundary (State.hopBoundary { (State.logNearEnd false (State.macBoundary (State.gridStep (State.applyHeld (State.linkMessage (State.missBoundary (wMacAt 99995000 []))))) 1002) : State) with clk := { w_superframeBoundary_all.clk with txEnded := w_superframeBoundary_all.clk.txEnded || w_superframeBoundary_all.clk.txEndPending, txEndPending := false } }))) := by decide +kernel

def w_superframeBoundary_held : State := { wMacAt 99995000 [(MEMBER_W2_STATE 9, 2), (MEMBER_W2_LANE 9, 4)] with mac := { held := [(0, 4, 7, 9)], members := [(9, { caps := wCaps })] } }

theorem test_superframeBoundary_held : ((w_superframeBoundary_held.stopSafe = true) ∧ (w_superframeBoundary_held.instantNow (w_superframeBoundary_held.superNs w_superframeBoundary_held.sfn) = true) ∧ (w_superframeBoundary_held.mac.held = [(0, 4, 7, 9)]) ∧ (9 < 256) ∧ (0 < 2) ∧ (4 < 8) ∧ (7 < 128) ∧ (w_superframeBoundary_held.pair.yield = false) ∧ (w_superframeBoundary_held.active = true) ∧ (w_superframeBoundary_held.bit PAIR_STATUS_HANDOVER_PEND = false) ∧ (w_superframeBoundary_held.pair.hoReq = none) ∧ (w_superframeBoundary_held.pair.become = false)) ∧ (match exec (.superframeBoundary) w_superframeBoundary_held with
    | .next t => decide ((Reads t [(SLOT_OWNER (8 * 0 + 4) 7, 9), (SLOT_CTRL_HELD, 0)]))
    | _ => false) = true := by decide +kernel

def w_superframeBoundary_hop : State := { wMacAt 99995000 [] with radio := { (wMac []).radio with pend := some ({ lanes := 0x90, keySlot := 5, iv := 1, excl := [7, 0, 0], profs := List.replicate 8 0, ver := 1 }, 1002) } }

theorem test_superframeBoundary_hop : ((w_superframeBoundary_hop.stopSafe = true) ∧ (w_superframeBoundary_hop.instantNow (w_superframeBoundary_hop.superNs w_superframeBoundary_hop.sfn) = true) ∧ (w_superframeBoundary_hop.radio.pend = some (({ lanes := 0x90, keySlot := 5, iv := 1, excl := [7, 0, 0], profs := List.replicate 8 0, ver := 1 } : HopSet), 1002)) ∧ (w_superframeBoundary_hop.hasSfn = true) ∧ (w_superframeBoundary_hop.sfn < 0xFFFFFFFF) ∧ (1002 ≤ w_superframeBoundary_hop.sfn + 1) ∧ (w_superframeBoundary_hop.pair.yield = false) ∧ (w_superframeBoundary_hop.active = true) ∧ (w_superframeBoundary_hop.bit PAIR_STATUS_HANDOVER_PEND = false) ∧ (w_superframeBoundary_hop.pair.hoReq = none) ∧ (w_superframeBoundary_hop.pair.become = false)) ∧ (match exec (.superframeBoundary) w_superframeBoundary_hop with
    | .next t => decide ((t.radio.hop = some ({ lanes := 0x90, keySlot := 5, iv := 1, excl := [7, 0, 0], profs := List.replicate 8 0, ver := 1 } : HopSet)) ∧ (t.radio.pend = none) ∧ (Reads t [(HOP_CTRL_PENDING, 0), (HOP_STATUS_N_0, (allowedOf 0 (({ lanes := 0x90, keySlot := 5, iv := 1, excl := [7, 0, 0], profs := List.replicate 8 0, ver := 1 } : HopSet).excl.getD 0 0)).length)]))
    | _ => false) = true := by decide +kernel

theorem test_superframeBoundary_none : ((wReset.stopSafe = true) ∧ (wReset.instantNow (wReset.superNs wReset.sfn) = false)) ∧ (match exec (.superframeBoundary) wReset with
    | .next t => decide ((t = wReset))
    | _ => false) = true := by decide +kernel

def w_memberAssocAttempt : State := { wMac [(LANE_CFG_PROFILE 4, 1)] with memDevs := [(2, { bornAt := some 0 })] }

theorem test_memberAssocAttempt : ((w_memberAssocAttempt.stopSafe = true) ∧ (w_memberAssocAttempt.memDev 2 = ({ bornAt := some 0 } : MemDev)) ∧ (({ bornAt := some 0 } : MemDev).st = 0) ∧ (4 < 8) ∧ (reqSlot (w_memberAssocAttempt.prof 4) 4000000000 2 = true) ∧ (([9, 8, 7, 6, 5, 4, 3, 2] : List Nat).length = 8) ∧ (capsOk (wCaps : List Nat) = true) ∧ (({ eui := [9, 8, 7, 6, 5, 4, 3, 2], caps := wCaps, joinKey := List.replicate 16 9, bornAt := some 0 } : MemDev) = (if ({ bornAt := some 0 } : MemDev).asked.isSome = true then { ({ bornAt := some 0 } : MemDev) with eui := ([9, 8, 7, 6, 5, 4, 3, 2] : List Nat), caps := (wCaps : List Nat), joinKey := (List.replicate 16 9 : List Nat), asked := none, half := false, wait := 77 % 2 ^ (min ({ bornAt := some 0 } : MemDev).tries 6) } else { ({ bornAt := some 0 } : MemDev) with eui := ([9, 8, 7, 6, 5, 4, 3, 2] : List Nat), caps := (wCaps : List Nat), joinKey := (List.replicate 16 9 : List Nat) })) ∧ (({ eui := [9, 8, 7, 6, 5, 4, 3, 2], caps := wCaps, joinKey := List.replicate 16 9, bornAt := some 0 } : MemDev).wait = 0) ∧ ((MemDev.budget { ({ eui := [9, 8, 7, 6, 5, 4, 3, 2], caps := wCaps, joinKey := List.replicate 16 9, bornAt := some 0 } : MemDev) with tries := ({ eui := [9, 8, 7, 6, 5, 4, 3, 2], caps := wCaps, joinKey := List.replicate 16 9, bornAt := some 0 } : MemDev).tries + 1, asked := some (4, 4000000000) } (w_memberAssocAttempt.prof 4) (w_memberAssocAttempt.memChan ({ eui := [9, 8, 7, 6, 5, 4, 3, 2], caps := wCaps, joinKey := List.replicate 16 9, bornAt := some 0 } : MemDev) 4 4000000000 2 true) (txenUs (w_memberAssocAttempt.prof 4) (w_memberAssocAttempt.get (LANE_CFG_RATE 4)) ivData (psduLen (w_memberAssocAttempt.prof 4) ([3, 0, 0xFF, 0, 0] ++ ([9, 8, 7, 6, 5, 4, 3, 2] : List Nat) ++ (wCaps : List Nat) ++ ccmMic (List.replicate 16 9 : List Nat) (joinNonce (joinK (w_memberAssocAttempt.prof 4) 4000000000) 4 false 0 ([9, 8, 7, 6, 5, 4, 3, 2] : List Nat)) ([3, 0, 0xFF, 0, 0] ++ ([9, 8, 7, 6, 5, 4, 3, 2] : List Nat) ++ (wCaps : List Nat)) [] : List Nat).length)) (4000000000 * 100000)).isSome = true)) ∧ (match exec (.memberAssocAttempt 2 4000000000 4 77 ([9, 8, 7, 6, 5, 4, 3, 2] : List Nat) (wCaps : List Nat) (List.replicate 16 9 : List Nat) true) w_memberAssocAttempt with
    | .next t => decide ((t.memDev 2 = { ({ eui := [9, 8, 7, 6, 5, 4, 3, 2], caps := wCaps, joinKey := List.replicate 16 9, bornAt := some 0 } : MemDev) with tries := ({ eui := [9, 8, 7, 6, 5, 4, 3, 2], caps := wCaps, joinKey := List.replicate 16 9, bornAt := some 0 } : MemDev).tries + 1, asked := some (4, 4000000000), bornAt := some (({ eui := [9, 8, 7, 6, 5, 4, 3, 2], caps := wCaps, joinKey := List.replicate 16 9, bornAt := some 0 } : MemDev).bornAt.getD (4000000000 * 100000)), sent := ((MemDev.budget { ({ eui := [9, 8, 7, 6, 5, 4, 3, 2], caps := wCaps, joinKey := List.replicate 16 9, bornAt := some 0 } : MemDev) with tries := ({ eui := [9, 8, 7, 6, 5, 4, 3, 2], caps := wCaps, joinKey := List.replicate 16 9, bornAt := some 0 } : MemDev).tries + 1, asked := some (4, 4000000000) } (w_memberAssocAttempt.prof 4) (w_memberAssocAttempt.memChan ({ eui := [9, 8, 7, 6, 5, 4, 3, 2], caps := wCaps, joinKey := List.replicate 16 9, bornAt := some 0 } : MemDev) 4 4000000000 2 true) (txenUs (w_memberAssocAttempt.prof 4) (w_memberAssocAttempt.get (LANE_CFG_RATE 4)) ivData (psduLen (w_memberAssocAttempt.prof 4) ([3, 0, 0xFF, 0, 0] ++ ([9, 8, 7, 6, 5, 4, 3, 2] : List Nat) ++ (wCaps : List Nat) ++ ccmMic (List.replicate 16 9 : List Nat) (joinNonce (joinK (w_memberAssocAttempt.prof 4) 4000000000) 4 false 0 ([9, 8, 7, 6, 5, 4, 3, 2] : List Nat)) ([3, 0, 0xFF, 0, 0] ++ ([9, 8, 7, 6, 5, 4, 3, 2] : List Nat) ++ (wCaps : List Nat)) [] : List Nat).length)) (4000000000 * 100000)).getD {}).sent }) ∧ (t.out = w_memberAssocAttempt.out ++ [Output.memberAir 2 4000000000 4 2 ([3, 0, 0xFF, 0, 0] ++ ([9, 8, 7, 6, 5, 4, 3, 2] : List Nat) ++ (wCaps : List Nat) ++ ccmMic (List.replicate 16 9 : List Nat) (joinNonce (joinK (w_memberAssocAttempt.prof 4) 4000000000) 4 false 0 ([9, 8, 7, 6, 5, 4, 3, 2] : List Nat)) ([3, 0, 0xFF, 0, 0] ++ ([9, 8, 7, 6, 5, 4, 3, 2] : List Nat) ++ (wCaps : List Nat)) [] : List Nat)]))
    | _ => false) = true := by decide +kernel

def w_memberAssocAttempt_spent : State := { wMac [(LANE_CFG_PROFILE 4, 1)] with memDevs := [(2, {})] }

theorem test_memberAssocAttempt_spent : ((w_memberAssocAttempt_spent.stopSafe = true) ∧ (w_memberAssocAttempt_spent.memDev 2 = ({} : MemDev)) ∧ (({} : MemDev).st = 0) ∧ (4 < 8) ∧ (reqSlot (w_memberAssocAttempt_spent.prof 4) 1000 2 = true) ∧ (([9, 8, 7, 6, 5, 4, 3, 2] : List Nat).length = 8) ∧ (capsOk (wCaps : List Nat) = true) ∧ (({ eui := [9, 8, 7, 6, 5, 4, 3, 2], caps := wCaps, joinKey := List.replicate 16 9 } : MemDev) = (if ({} : MemDev).asked.isSome = true then { ({} : MemDev) with eui := ([9, 8, 7, 6, 5, 4, 3, 2] : List Nat), caps := (wCaps : List Nat), joinKey := (List.replicate 16 9 : List Nat), asked := none, half := false, wait := 77 % 2 ^ (min ({} : MemDev).tries 6) } else { ({} : MemDev) with eui := ([9, 8, 7, 6, 5, 4, 3, 2] : List Nat), caps := (wCaps : List Nat), joinKey := (List.replicate 16 9 : List Nat) })) ∧ (({ eui := [9, 8, 7, 6, 5, 4, 3, 2], caps := wCaps, joinKey := List.replicate 16 9 } : MemDev).wait = 0) ∧ (MemDev.budget { ({ eui := [9, 8, 7, 6, 5, 4, 3, 2], caps := wCaps, joinKey := List.replicate 16 9 } : MemDev) with tries := ({ eui := [9, 8, 7, 6, 5, 4, 3, 2], caps := wCaps, joinKey := List.replicate 16 9 } : MemDev).tries + 1, asked := some (4, 1000) } (w_memberAssocAttempt_spent.prof 4) (w_memberAssocAttempt_spent.memChan ({ eui := [9, 8, 7, 6, 5, 4, 3, 2], caps := wCaps, joinKey := List.replicate 16 9 } : MemDev) 4 1000 2 true) (txenUs (w_memberAssocAttempt_spent.prof 4) (w_memberAssocAttempt_spent.get (LANE_CFG_RATE 4)) ivData (psduLen (w_memberAssocAttempt_spent.prof 4) ([3, 0, 0xFF, 0, 0] ++ ([9, 8, 7, 6, 5, 4, 3, 2] : List Nat) ++ (wCaps : List Nat) ++ ccmMic (List.replicate 16 9 : List Nat) (joinNonce (joinK (w_memberAssocAttempt_spent.prof 4) 1000) 4 false 0 ([9, 8, 7, 6, 5, 4, 3, 2] : List Nat)) ([3, 0, 0xFF, 0, 0] ++ ([9, 8, 7, 6, 5, 4, 3, 2] : List Nat) ++ (wCaps : List Nat)) [] : List Nat).length)) (1000 * 100000) = none)) ∧ (match exec (.memberAssocAttempt 2 1000 4 77 ([9, 8, 7, 6, 5, 4, 3, 2] : List Nat) (wCaps : List Nat) (List.replicate 16 9 : List Nat) true) w_memberAssocAttempt_spent with
    | .next t => decide ((t.memDev 2 = { ({ eui := [9, 8, 7, 6, 5, 4, 3, 2], caps := wCaps, joinKey := List.replicate 16 9 } : MemDev) with bornAt := some (({ eui := [9, 8, 7, 6, 5, 4, 3, 2], caps := wCaps, joinKey := List.replicate 16 9 } : MemDev).bornAt.getD (1000 * 100000)) }))
    | _ => false) = true := by decide +kernel

def w_memberAssocAttempt_wait : State := wMem ({ tries := 7, asked := some (4, 998) })

theorem test_memberAssocAttempt_wait : ((w_memberAssocAttempt_wait.stopSafe = true) ∧ (w_memberAssocAttempt_wait.memDev 2 = ({ tries := 7, asked := some (4, 998) } : MemDev)) ∧ (({ tries := 7, asked := some (4, 998) } : MemDev).st = 0) ∧ (4 < 8) ∧ (reqSlot (w_memberAssocAttempt_wait.prof 4) 1000 2 = true) ∧ (([9, 8, 7, 6, 5, 4, 3, 2] : List Nat).length = 8) ∧ (capsOk (wCaps : List Nat) = true) ∧ (({ tries := 7, eui := [9, 8, 7, 6, 5, 4, 3, 2], caps := wCaps, joinKey := List.replicate 16 9, wait := 63 } : MemDev) = (if ({ tries := 7, asked := some (4, 998) } : MemDev).asked.isSome = true then { ({ tries := 7, asked := some (4, 998) } : MemDev) with eui := ([9, 8, 7, 6, 5, 4, 3, 2] : List Nat), caps := (wCaps : List Nat), joinKey := (List.replicate 16 9 : List Nat), asked := none, half := false, wait := 0x1FF % 2 ^ (min ({ tries := 7, asked := some (4, 998) } : MemDev).tries 6) } else { ({ tries := 7, asked := some (4, 998) } : MemDev) with eui := ([9, 8, 7, 6, 5, 4, 3, 2] : List Nat), caps := (wCaps : List Nat), joinKey := (List.replicate 16 9 : List Nat) })) ∧ (({ tries := 7, eui := [9, 8, 7, 6, 5, 4, 3, 2], caps := wCaps, joinKey := List.replicate 16 9, wait := 63 } : MemDev).wait ≠ 0)) ∧ (match exec (.memberAssocAttempt 2 1000 4 0x1FF ([9, 8, 7, 6, 5, 4, 3, 2] : List Nat) (wCaps : List Nat) (List.replicate 16 9 : List Nat) true) w_memberAssocAttempt_wait with
    | .next t => decide ((t.memDev 2 = { ({ tries := 7, eui := [9, 8, 7, 6, 5, 4, 3, 2], caps := wCaps, joinKey := List.replicate 16 9, wait := 63 } : MemDev) with wait := ({ tries := 7, eui := [9, 8, 7, 6, 5, 4, 3, 2], caps := wCaps, joinKey := List.replicate 16 9, wait := 63 } : MemDev).wait - 1 }))
    | _ => false) = true := by decide +kernel

def w_memberAssocAttempt_blind : State := wMem ({})

theorem test_memberAssocAttempt_blind : ((w_memberAssocAttempt_blind.stopSafe = true) ∧ (w_memberAssocAttempt_blind.memDev 2 = ({} : MemDev)) ∧ (({} : MemDev).st = 0) ∧ (4 < 8) ∧ (reqSlot (w_memberAssocAttempt_blind.prof 4) 1000 2 = true) ∧ (([9, 8, 7, 6, 5, 4, 3, 2] : List Nat).length = 8) ∧ (capsOk (wCaps : List Nat) = true) ∧ (({ eui := [9, 8, 7, 6, 5, 4, 3, 2], caps := wCaps, joinKey := List.replicate 16 9 } : MemDev) = (if ({} : MemDev).asked.isSome = true then { ({} : MemDev) with eui := ([9, 8, 7, 6, 5, 4, 3, 2] : List Nat), caps := (wCaps : List Nat), joinKey := (List.replicate 16 9 : List Nat), asked := none, half := false, wait := 77 % 2 ^ (min ({} : MemDev).tries 6) } else { ({} : MemDev) with eui := ([9, 8, 7, 6, 5, 4, 3, 2] : List Nat), caps := (wCaps : List Nat), joinKey := (List.replicate 16 9 : List Nat) })) ∧ (({ eui := [9, 8, 7, 6, 5, 4, 3, 2], caps := wCaps, joinKey := List.replicate 16 9 } : MemDev).wait = 0)) ∧ (match exec (.memberAssocAttempt 2 1000 4 77 ([9, 8, 7, 6, 5, 4, 3, 2] : List Nat) (wCaps : List Nat) (List.replicate 16 9 : List Nat) false) w_memberAssocAttempt_blind with
    | .next t => decide ((t.memDev 2 = ({ eui := [9, 8, 7, 6, 5, 4, 3, 2], caps := wCaps, joinKey := List.replicate 16 9 } : MemDev)))
    | _ => false) = true := by decide +kernel

def w_memberAssocAttempt_none : State := wMem ({})

theorem test_memberAssocAttempt_none : ((w_memberAssocAttempt_none.stopSafe = true) ∧ (w_memberAssocAttempt_none.memDev 2 = ({} : MemDev)) ∧ (({} : MemDev).st ≠ 0 ∨ 8 ≤ 4 ∨ reqSlot (w_memberAssocAttempt_none.prof 4) 1001 2 = false ∨ ([9, 8, 7, 6, 5, 4, 3, 2] : List Nat).length ≠ 8 ∨ capsOk (wCaps : List Nat) = false)) ∧ (match exec (.memberAssocAttempt 2 1001 4 77 ([9, 8, 7, 6, 5, 4, 3, 2] : List Nat) (wCaps : List Nat) (List.replicate 16 9 : List Nat) true) w_memberAssocAttempt_none with
    | .next t => decide ((t = w_memberAssocAttempt_none))
    | _ => false) = true := by decide +kernel

def w_memberAssocResponse : State := wMem ({ eui := [9, 8, 7, 6, 5, 4, 3, 2], caps := wCaps, joinKey := List.replicate 16 9, asked := some (4, 1000), tries := 1 })

theorem test_memberAssocResponse : ((w_memberAssocResponse.stopSafe = true) ∧ (w_memberAssocResponse.memDev 2 = ({ eui := [9, 8, 7, 6, 5, 4, 3, 2], caps := wCaps, joinKey := List.replicate 16 9, asked := some (4, 1000), tries := 1 } : MemDev)) ∧ (({ eui := [9, 8, 7, 6, 5, 4, 3, 2], caps := wCaps, joinKey := List.replicate 16 9, asked := some (4, 1000), tries := 1 } : MemDev).st = 0) ∧ (({ eui := [9, 8, 7, 6, 5, 4, 3, 2], caps := wCaps, joinKey := List.replicate 16 9, asked := some (4, 1000), tries := 1 } : MemDev).asked = some (4, 1000)) ∧ (joinK (w_memberAssocResponse.prof 4) 1001 = respBoundary (w_memberAssocResponse.prof 4) 1000) ∧ (0 = (if w_memberAssocResponse.prof 4 ≠ 0 ∧ 2 = 9 then 1 else 0)) ∧ (2 = 2 ∨ 0 = 1) ∧ (openMpdu ({ eui := [9, 8, 7, 6, 5, 4, 3, 2], caps := wCaps, joinKey := List.replicate 16 9, asked := some (4, 1000), tries := 1 } : MemDev).joinKey (joinNonce (joinK (w_memberAssocResponse.prof 4) 1001) 4 true 0 ({ eui := [9, 8, 7, 6, 5, 4, 3, 2], caps := wCaps, joinKey := List.replicate 16 9, asked := some (4, 1000), tries := 1 } : MemDev).eui) (wResp : List Nat) = some ([20, 0xE0, 0xFF, 0, 0, 48] ++ respBody : List Nat)) ∧ ((respBody : List Nat) = ([20, 0xE0, 0xFF, 0, 0, 48] ++ respBody : List Nat).drop (if bitOf (leAt (wResp : List Nat) 0 1) 4 then 6 else 5)) ∧ (leAt (wResp : List Nat) 0 1 % 16 = 4) ∧ ((respBody : List Nat).take 8 = ({ eui := [9, 8, 7, 6, 5, 4, 3, 2], caps := wCaps, joinKey := List.replicate 16 9, asked := some (4, 1000), tries := 1 } : MemDev).eui) ∧ (assocBodyOk (w_memberAssocResponse.prof 4) (respBody : List Nat) = true) ∧ (leAt (respBody : List Nat) 8 1 = 0) ∧ (leAt (respBody : List Nat) 9 1 = 0) ∧ (w_memberAssocResponse.prof 4 = 0)) ∧ (match exec (.memberAssocResponse 2 1001 2 100100000 (wResp : List Nat)) w_memberAssocResponse with
    | .next t => decide ((t.memDev 2 = { ({ eui := [9, 8, 7, 6, 5, 4, 3, 2], caps := wCaps, joinKey := List.replicate 16 9, asked := some (4, 1000), tries := 1 } : MemDev) with addr := leAt (respBody : List Nat) 10 1, slot0 := (leAt (respBody : List Nat) 11 1, leAt (respBody : List Nat) 12 1), slot1 := (leAt (respBody : List Nat) 11 1, leAt (respBody : List Nat) 12 1), flocks := leAt (respBody : List Nat) 13 2, k0 := leAt (respBody : List Nat) 15 8, hopLanes := leAt (respBody : List Nat) 23 1, hopVer := leAt (respBody : List Nat) 24 2, excl := ((respBody : List Nat).drop 26).take 10, nwkKey := (((respBody : List Nat).drop 36).drop 9).take 16, hopKey := (((respBody : List Nat).drop 36).drop 25).take 16, hopIv := leAt ((respBody : List Nat).drop 36) 41 16, st := 1, joinAt := 100100000, asked := none, half := false, tries := 0, wait := 0, resync := true, acted := none, stopAt := 100100000, seq := 0, bank := 0 }))
    | _ => false) = true := by decide +kernel

def w_memberAssocResponse_part0 : State := { wMac [(LANE_CFG_PROFILE 4, 1)] with memDevs := [(2, ({ eui := [9, 8, 7, 6, 5, 4, 3, 2], caps := wCaps, joinKey := List.replicate 16 9, asked := some (4, 1000), tries := 1 }))] }

theorem test_memberAssocResponse_part0 : ((w_memberAssocResponse_part0.stopSafe = true) ∧ (w_memberAssocResponse_part0.memDev 2 = ({ eui := [9, 8, 7, 6, 5, 4, 3, 2], caps := wCaps, joinKey := List.replicate 16 9, asked := some (4, 1000), tries := 1 } : MemDev)) ∧ (({ eui := [9, 8, 7, 6, 5, 4, 3, 2], caps := wCaps, joinKey := List.replicate 16 9, asked := some (4, 1000), tries := 1 } : MemDev).st = 0) ∧ (({ eui := [9, 8, 7, 6, 5, 4, 3, 2], caps := wCaps, joinKey := List.replicate 16 9, asked := some (4, 1000), tries := 1 } : MemDev).asked = some (4, 1000)) ∧ (joinK (w_memberAssocResponse_part0.prof 4) 1010 = respBoundary (w_memberAssocResponse_part0.prof 4) 1000) ∧ (0 = (if w_memberAssocResponse_part0.prof 4 ≠ 0 ∧ 2 = 9 then 1 else 0)) ∧ (2 = 2 ∨ 0 = 1) ∧ (openMpdu ({ eui := [9, 8, 7, 6, 5, 4, 3, 2], caps := wCaps, joinKey := List.replicate 16 9, asked := some (4, 1000), tries := 1 } : MemDev).joinKey (joinNonce (joinK (w_memberAssocResponse_part0.prof 4) 1010) 4 true 0 ({ eui := [9, 8, 7, 6, 5, 4, 3, 2], caps := wCaps, joinKey := List.replicate 16 9, asked := some (4, 1000), tries := 1 } : MemDev).eui) (sealMpdu (List.replicate 16 9) (joinNonce 1010 4 true 0 [9, 8, 7, 6, 5, 4, 3, 2]) 4 0xE0 ([9, 8, 7, 6, 5, 4, 3, 2] ++ [0, 0] ++ ([9, 4, 7] ++ leBytes 2 5 ++ leBytes 8 0 ++ [0x10] ++ leBytes 2 3 ++ leBytes 10 0)) 0 : List Nat) = some ([4, 0xE0, 0xFF, 0, 0] ++ ([9, 8, 7, 6, 5, 4, 3, 2] ++ [0, 0] ++ ([9, 4, 7] ++ leBytes 2 5 ++ leBytes 8 0 ++ [0x10] ++ leBytes 2 3 ++ leBytes 10 0)) : List Nat)) ∧ (([9, 8, 7, 6, 5, 4, 3, 2] ++ [0, 0] ++ ([9, 4, 7] ++ leBytes 2 5 ++ leBytes 8 0 ++ [0x10] ++ leBytes 2 3 ++ leBytes 10 0) : List Nat) = ([4, 0xE0, 0xFF, 0, 0] ++ ([9, 8, 7, 6, 5, 4, 3, 2] ++ [0, 0] ++ ([9, 4, 7] ++ leBytes 2 5 ++ leBytes 8 0 ++ [0x10] ++ leBytes 2 3 ++ leBytes 10 0)) : List Nat).drop (if bitOf (leAt (sealMpdu (List.replicate 16 9) (joinNonce 1010 4 true 0 [9, 8, 7, 6, 5, 4, 3, 2]) 4 0xE0 ([9, 8, 7, 6, 5, 4, 3, 2] ++ [0, 0] ++ ([9, 4, 7] ++ leBytes 2 5 ++ leBytes 8 0 ++ [0x10] ++ leBytes 2 3 ++ leBytes 10 0)) 0 : List Nat) 0 1) 4 then 6 else 5)) ∧ (leAt (sealMpdu (List.replicate 16 9) (joinNonce 1010 4 true 0 [9, 8, 7, 6, 5, 4, 3, 2]) 4 0xE0 ([9, 8, 7, 6, 5, 4, 3, 2] ++ [0, 0] ++ ([9, 4, 7] ++ leBytes 2 5 ++ leBytes 8 0 ++ [0x10] ++ leBytes 2 3 ++ leBytes 10 0)) 0 : List Nat) 0 1 % 16 = 4) ∧ (([9, 8, 7, 6, 5, 4, 3, 2] ++ [0, 0] ++ ([9, 4, 7] ++ leBytes 2 5 ++ leBytes 8 0 ++ [0x10] ++ leBytes 2 3 ++ leBytes 10 0) : List Nat).take 8 = ({ eui := [9, 8, 7, 6, 5, 4, 3, 2], caps := wCaps, joinKey := List.replicate 16 9, asked := some (4, 1000), tries := 1 } : MemDev).eui) ∧ (assocBodyOk (w_memberAssocResponse_part0.prof 4) ([9, 8, 7, 6, 5, 4, 3, 2] ++ [0, 0] ++ ([9, 4, 7] ++ leBytes 2 5 ++ leBytes 8 0 ++ [0x10] ++ leBytes 2 3 ++ leBytes 10 0) : List Nat) = true) ∧ (leAt ([9, 8, 7, 6, 5, 4, 3, 2] ++ [0, 0] ++ ([9, 4, 7] ++ leBytes 2 5 ++ leBytes 8 0 ++ [0x10] ++ leBytes 2 3 ++ leBytes 10 0) : List Nat) 8 1 = 0) ∧ (leAt ([9, 8, 7, 6, 5, 4, 3, 2] ++ [0, 0] ++ ([9, 4, 7] ++ leBytes 2 5 ++ leBytes 8 0 ++ [0x10] ++ leBytes 2 3 ++ leBytes 10 0) : List Nat) 9 1 = 0) ∧ (w_memberAssocResponse_part0.prof 4 ≠ 0)) ∧ (match exec (.memberAssocResponse 2 1010 2 101000000 (sealMpdu (List.replicate 16 9) (joinNonce 1010 4 true 0 [9, 8, 7, 6, 5, 4, 3, 2]) 4 0xE0 ([9, 8, 7, 6, 5, 4, 3, 2] ++ [0, 0] ++ ([9, 4, 7] ++ leBytes 2 5 ++ leBytes 8 0 ++ [0x10] ++ leBytes 2 3 ++ leBytes 10 0)) 0 : List Nat)) w_memberAssocResponse_part0 with
    | .next t => decide ((t.memDev 2 = { ({ eui := [9, 8, 7, 6, 5, 4, 3, 2], caps := wCaps, joinKey := List.replicate 16 9, asked := some (4, 1000), tries := 1 } : MemDev) with addr := leAt ([9, 8, 7, 6, 5, 4, 3, 2] ++ [0, 0] ++ ([9, 4, 7] ++ leBytes 2 5 ++ leBytes 8 0 ++ [0x10] ++ leBytes 2 3 ++ leBytes 10 0) : List Nat) 10 1, slot0 := (leAt ([9, 8, 7, 6, 5, 4, 3, 2] ++ [0, 0] ++ ([9, 4, 7] ++ leBytes 2 5 ++ leBytes 8 0 ++ [0x10] ++ leBytes 2 3 ++ leBytes 10 0) : List Nat) 11 1, leAt ([9, 8, 7, 6, 5, 4, 3, 2] ++ [0, 0] ++ ([9, 4, 7] ++ leBytes 2 5 ++ leBytes 8 0 ++ [0x10] ++ leBytes 2 3 ++ leBytes 10 0) : List Nat) 12 1), slot1 := (leAt ([9, 8, 7, 6, 5, 4, 3, 2] ++ [0, 0] ++ ([9, 4, 7] ++ leBytes 2 5 ++ leBytes 8 0 ++ [0x10] ++ leBytes 2 3 ++ leBytes 10 0) : List Nat) 11 1, leAt ([9, 8, 7, 6, 5, 4, 3, 2] ++ [0, 0] ++ ([9, 4, 7] ++ leBytes 2 5 ++ leBytes 8 0 ++ [0x10] ++ leBytes 2 3 ++ leBytes 10 0) : List Nat) 12 1), flocks := leAt ([9, 8, 7, 6, 5, 4, 3, 2] ++ [0, 0] ++ ([9, 4, 7] ++ leBytes 2 5 ++ leBytes 8 0 ++ [0x10] ++ leBytes 2 3 ++ leBytes 10 0) : List Nat) 13 2, k0 := leAt ([9, 8, 7, 6, 5, 4, 3, 2] ++ [0, 0] ++ ([9, 4, 7] ++ leBytes 2 5 ++ leBytes 8 0 ++ [0x10] ++ leBytes 2 3 ++ leBytes 10 0) : List Nat) 15 8, hopLanes := leAt ([9, 8, 7, 6, 5, 4, 3, 2] ++ [0, 0] ++ ([9, 4, 7] ++ leBytes 2 5 ++ leBytes 8 0 ++ [0x10] ++ leBytes 2 3 ++ leBytes 10 0) : List Nat) 23 1, hopVer := leAt ([9, 8, 7, 6, 5, 4, 3, 2] ++ [0, 0] ++ ([9, 4, 7] ++ leBytes 2 5 ++ leBytes 8 0 ++ [0x10] ++ leBytes 2 3 ++ leBytes 10 0) : List Nat) 24 2, excl := (([9, 8, 7, 6, 5, 4, 3, 2] ++ [0, 0] ++ ([9, 4, 7] ++ leBytes 2 5 ++ leBytes 8 0 ++ [0x10] ++ leBytes 2 3 ++ leBytes 10 0) : List Nat).drop 26).take 10, half := true }))
    | _ => false) = true := by decide +kernel

def w_memberAssocResponse_part1 : State := { wMac [(LANE_CFG_PROFILE 4, 1)] with memDevs := [(2, ({ eui := [9, 8, 7, 6, 5, 4, 3, 2], caps := wCaps, joinKey := List.replicate 16 9, asked := some (4, 1000), tries := 1, half := true }))] }

theorem test_memberAssocResponse_part1 : ((w_memberAssocResponse_part1.stopSafe = true) ∧ (w_memberAssocResponse_part1.memDev 2 = ({ eui := [9, 8, 7, 6, 5, 4, 3, 2], caps := wCaps, joinKey := List.replicate 16 9, asked := some (4, 1000), tries := 1, half := true } : MemDev)) ∧ (({ eui := [9, 8, 7, 6, 5, 4, 3, 2], caps := wCaps, joinKey := List.replicate 16 9, asked := some (4, 1000), tries := 1, half := true } : MemDev).st = 0) ∧ (({ eui := [9, 8, 7, 6, 5, 4, 3, 2], caps := wCaps, joinKey := List.replicate 16 9, asked := some (4, 1000), tries := 1, half := true } : MemDev).asked = some (4, 1000)) ∧ (joinK (w_memberAssocResponse_part1.prof 4) 1010 = respBoundary (w_memberAssocResponse_part1.prof 4) 1000) ∧ (1 = (if w_memberAssocResponse_part1.prof 4 ≠ 0 ∧ 9 = 9 then 1 else 0)) ∧ (9 = 2 ∨ 1 = 1) ∧ (openMpdu ({ eui := [9, 8, 7, 6, 5, 4, 3, 2], caps := wCaps, joinKey := List.replicate 16 9, asked := some (4, 1000), tries := 1, half := true } : MemDev).joinKey (joinNonce (joinK (w_memberAssocResponse_part1.prof 4) 1010) 4 true 1 ({ eui := [9, 8, 7, 6, 5, 4, 3, 2], caps := wCaps, joinKey := List.replicate 16 9, asked := some (4, 1000), tries := 1, half := true } : MemDev).eui) (sealMpdu (List.replicate 16 9) (joinNonce 1010 4 true 1 [9, 8, 7, 6, 5, 4, 3, 2]) 4 0xE0 ([9, 8, 7, 6, 5, 4, 3, 2] ++ [1] ++ (List.replicate 16 7 ++ List.replicate 16 8 ++ List.replicate 16 6)) 48 : List Nat) = some ([20, 0xE0, 0xFF, 0, 0, 48] ++ ([9, 8, 7, 6, 5, 4, 3, 2] ++ [1] ++ (List.replicate 16 7 ++ List.replicate 16 8 ++ List.replicate 16 6)) : List Nat)) ∧ (([9, 8, 7, 6, 5, 4, 3, 2] ++ [1] ++ (List.replicate 16 7 ++ List.replicate 16 8 ++ List.replicate 16 6) : List Nat) = ([20, 0xE0, 0xFF, 0, 0, 48] ++ ([9, 8, 7, 6, 5, 4, 3, 2] ++ [1] ++ (List.replicate 16 7 ++ List.replicate 16 8 ++ List.replicate 16 6)) : List Nat).drop (if bitOf (leAt (sealMpdu (List.replicate 16 9) (joinNonce 1010 4 true 1 [9, 8, 7, 6, 5, 4, 3, 2]) 4 0xE0 ([9, 8, 7, 6, 5, 4, 3, 2] ++ [1] ++ (List.replicate 16 7 ++ List.replicate 16 8 ++ List.replicate 16 6)) 48 : List Nat) 0 1) 4 then 6 else 5)) ∧ (leAt (sealMpdu (List.replicate 16 9) (joinNonce 1010 4 true 1 [9, 8, 7, 6, 5, 4, 3, 2]) 4 0xE0 ([9, 8, 7, 6, 5, 4, 3, 2] ++ [1] ++ (List.replicate 16 7 ++ List.replicate 16 8 ++ List.replicate 16 6)) 48 : List Nat) 0 1 % 16 = 4) ∧ (([9, 8, 7, 6, 5, 4, 3, 2] ++ [1] ++ (List.replicate 16 7 ++ List.replicate 16 8 ++ List.replicate 16 6) : List Nat).take 8 = ({ eui := [9, 8, 7, 6, 5, 4, 3, 2], caps := wCaps, joinKey := List.replicate 16 9, asked := some (4, 1000), tries := 1, half := true } : MemDev).eui) ∧ (assocBodyOk (w_memberAssocResponse_part1.prof 4) ([9, 8, 7, 6, 5, 4, 3, 2] ++ [1] ++ (List.replicate 16 7 ++ List.replicate 16 8 ++ List.replicate 16 6) : List Nat) = true) ∧ (leAt ([9, 8, 7, 6, 5, 4, 3, 2] ++ [1] ++ (List.replicate 16 7 ++ List.replicate 16 8 ++ List.replicate 16 6) : List Nat) 8 1 = 1) ∧ (({ eui := [9, 8, 7, 6, 5, 4, 3, 2], caps := wCaps, joinKey := List.replicate 16 9, asked := some (4, 1000), tries := 1, half := true } : MemDev).half = true)) ∧ (match exec (.memberAssocResponse 2 1010 9 101000000 (sealMpdu (List.replicate 16 9) (joinNonce 1010 4 true 1 [9, 8, 7, 6, 5, 4, 3, 2]) 4 0xE0 ([9, 8, 7, 6, 5, 4, 3, 2] ++ [1] ++ (List.replicate 16 7 ++ List.replicate 16 8 ++ List.replicate 16 6)) 48 : List Nat)) w_memberAssocResponse_part1 with
    | .next t => decide ((t.memDev 2 = { ({ eui := [9, 8, 7, 6, 5, 4, 3, 2], caps := wCaps, joinKey := List.replicate 16 9, asked := some (4, 1000), tries := 1, half := true } : MemDev) with nwkKey := (([9, 8, 7, 6, 5, 4, 3, 2] ++ [1] ++ (List.replicate 16 7 ++ List.replicate 16 8 ++ List.replicate 16 6) : List Nat).drop 9).take 16, hopKey := (([9, 8, 7, 6, 5, 4, 3, 2] ++ [1] ++ (List.replicate 16 7 ++ List.replicate 16 8 ++ List.replicate 16 6) : List Nat).drop 25).take 16, hopIv := leAt ([9, 8, 7, 6, 5, 4, 3, 2] ++ [1] ++ (List.replicate 16 7 ++ List.replicate 16 8 ++ List.replicate 16 6) : List Nat) 41 16, st := 1, joinAt := 101000000, asked := none, half := false, tries := 0, wait := 0, resync := true, acted := none, stopAt := 101000000, seq := 0, bank := 0 }))
    | _ => false) = true := by decide +kernel

def w_memberAssocResponse_keep : State := { wMac [(LANE_CFG_PROFILE 4, 1)] with memDevs := [(2, ({ eui := [9, 8, 7, 6, 5, 4, 3, 2], caps := wCaps, joinKey := List.replicate 16 9, asked := some (4, 1000), tries := 1 }))] }

theorem test_memberAssocResponse_keep : ((w_memberAssocResponse_keep.stopSafe = true) ∧ (w_memberAssocResponse_keep.memDev 2 = ({ eui := [9, 8, 7, 6, 5, 4, 3, 2], caps := wCaps, joinKey := List.replicate 16 9, asked := some (4, 1000), tries := 1 } : MemDev)) ∧ (({ eui := [9, 8, 7, 6, 5, 4, 3, 2], caps := wCaps, joinKey := List.replicate 16 9, asked := some (4, 1000), tries := 1 } : MemDev).st = 0) ∧ (({ eui := [9, 8, 7, 6, 5, 4, 3, 2], caps := wCaps, joinKey := List.replicate 16 9, asked := some (4, 1000), tries := 1 } : MemDev).asked = some (4, 1000)) ∧ (joinK (w_memberAssocResponse_keep.prof 4) 1010 = respBoundary (w_memberAssocResponse_keep.prof 4) 1000) ∧ (1 = (if w_memberAssocResponse_keep.prof 4 ≠ 0 ∧ 9 = 9 then 1 else 0)) ∧ (9 = 2 ∨ 1 = 1) ∧ (openMpdu ({ eui := [9, 8, 7, 6, 5, 4, 3, 2], caps := wCaps, joinKey := List.replicate 16 9, asked := some (4, 1000), tries := 1 } : MemDev).joinKey (joinNonce (joinK (w_memberAssocResponse_keep.prof 4) 1010) 4 true 1 ({ eui := [9, 8, 7, 6, 5, 4, 3, 2], caps := wCaps, joinKey := List.replicate 16 9, asked := some (4, 1000), tries := 1 } : MemDev).eui) (sealMpdu (List.replicate 16 9) (joinNonce 1010 4 true 1 [9, 8, 7, 6, 5, 4, 3, 2]) 4 0xE0 ([9, 8, 7, 6, 5, 4, 3, 2] ++ [1] ++ (List.replicate 16 7 ++ List.replicate 16 8 ++ List.replicate 16 6)) 48 : List Nat) = some ([20, 0xE0, 0xFF, 0, 0, 48] ++ ([9, 8, 7, 6, 5, 4, 3, 2] ++ [1] ++ (List.replicate 16 7 ++ List.replicate 16 8 ++ List.replicate 16 6)) : List Nat)) ∧ (([9, 8, 7, 6, 5, 4, 3, 2] ++ [1] ++ (List.replicate 16 7 ++ List.replicate 16 8 ++ List.replicate 16 6) : List Nat) = ([20, 0xE0, 0xFF, 0, 0, 48] ++ ([9, 8, 7, 6, 5, 4, 3, 2] ++ [1] ++ (List.replicate 16 7 ++ List.replicate 16 8 ++ List.replicate 16 6)) : List Nat).drop (if bitOf (leAt (sealMpdu (List.replicate 16 9) (joinNonce 1010 4 true 1 [9, 8, 7, 6, 5, 4, 3, 2]) 4 0xE0 ([9, 8, 7, 6, 5, 4, 3, 2] ++ [1] ++ (List.replicate 16 7 ++ List.replicate 16 8 ++ List.replicate 16 6)) 48 : List Nat) 0 1) 4 then 6 else 5)) ∧ (leAt (sealMpdu (List.replicate 16 9) (joinNonce 1010 4 true 1 [9, 8, 7, 6, 5, 4, 3, 2]) 4 0xE0 ([9, 8, 7, 6, 5, 4, 3, 2] ++ [1] ++ (List.replicate 16 7 ++ List.replicate 16 8 ++ List.replicate 16 6)) 48 : List Nat) 0 1 % 16 = 4) ∧ (([9, 8, 7, 6, 5, 4, 3, 2] ++ [1] ++ (List.replicate 16 7 ++ List.replicate 16 8 ++ List.replicate 16 6) : List Nat).take 8 = ({ eui := [9, 8, 7, 6, 5, 4, 3, 2], caps := wCaps, joinKey := List.replicate 16 9, asked := some (4, 1000), tries := 1 } : MemDev).eui) ∧ (assocBodyOk (w_memberAssocResponse_keep.prof 4) ([9, 8, 7, 6, 5, 4, 3, 2] ++ [1] ++ (List.replicate 16 7 ++ List.replicate 16 8 ++ List.replicate 16 6) : List Nat) = true) ∧ ((leAt ([9, 8, 7, 6, 5, 4, 3, 2] ++ [1] ++ (List.replicate 16 7 ++ List.replicate 16 8 ++ List.replicate 16 6) : List Nat) 8 1 = 1 ∧ ({ eui := [9, 8, 7, 6, 5, 4, 3, 2], caps := wCaps, joinKey := List.replicate 16 9, asked := some (4, 1000), tries := 1 } : MemDev).half = false) ∨ (leAt ([9, 8, 7, 6, 5, 4, 3, 2] ++ [1] ++ (List.replicate 16 7 ++ List.replicate 16 8 ++ List.replicate 16 6) : List Nat) 8 1 = 0 ∧ leAt ([9, 8, 7, 6, 5, 4, 3, 2] ++ [1] ++ (List.replicate 16 7 ++ List.replicate 16 8 ++ List.replicate 16 6) : List Nat) 9 1 = 3))) ∧ (match exec (.memberAssocResponse 2 1010 9 101000000 (sealMpdu (List.replicate 16 9) (joinNonce 1010 4 true 1 [9, 8, 7, 6, 5, 4, 3, 2]) 4 0xE0 ([9, 8, 7, 6, 5, 4, 3, 2] ++ [1] ++ (List.replicate 16 7 ++ List.replicate 16 8 ++ List.replicate 16 6)) 48 : List Nat)) w_memberAssocResponse_keep with
    | .next t => decide ((t.memDev 2 = ({ eui := [9, 8, 7, 6, 5, 4, 3, 2], caps := wCaps, joinKey := List.replicate 16 9, asked := some (4, 1000), tries := 1 } : MemDev)))
    | _ => false) = true := by decide +kernel

def w_memberAssocResponse_refused : State := { wMac [(LANE_CFG_PROFILE 4, 1)] with memDevs := [(2, ({ eui := [9, 8, 7, 6, 5, 4, 3, 2], caps := wCaps, joinKey := List.replicate 16 9, asked := some (4, 1000), tries := 1 }))] }

theorem test_memberAssocResponse_refused : ((w_memberAssocResponse_refused.stopSafe = true) ∧ (w_memberAssocResponse_refused.memDev 2 = ({ eui := [9, 8, 7, 6, 5, 4, 3, 2], caps := wCaps, joinKey := List.replicate 16 9, asked := some (4, 1000), tries := 1 } : MemDev)) ∧ (({ eui := [9, 8, 7, 6, 5, 4, 3, 2], caps := wCaps, joinKey := List.replicate 16 9, asked := some (4, 1000), tries := 1 } : MemDev).st = 0) ∧ (({ eui := [9, 8, 7, 6, 5, 4, 3, 2], caps := wCaps, joinKey := List.replicate 16 9, asked := some (4, 1000), tries := 1 } : MemDev).asked = some (4, 1000)) ∧ (joinK (w_memberAssocResponse_refused.prof 4) 1010 = respBoundary (w_memberAssocResponse_refused.prof 4) 1000) ∧ (0 = (if w_memberAssocResponse_refused.prof 4 ≠ 0 ∧ 2 = 9 then 1 else 0)) ∧ (2 = 2 ∨ 0 = 1) ∧ (openMpdu ({ eui := [9, 8, 7, 6, 5, 4, 3, 2], caps := wCaps, joinKey := List.replicate 16 9, asked := some (4, 1000), tries := 1 } : MemDev).joinKey (joinNonce (joinK (w_memberAssocResponse_refused.prof 4) 1010) 4 true 0 ({ eui := [9, 8, 7, 6, 5, 4, 3, 2], caps := wCaps, joinKey := List.replicate 16 9, asked := some (4, 1000), tries := 1 } : MemDev).eui) (sealMpdu (List.replicate 16 9) (joinNonce 1010 4 true 0 [9, 8, 7, 6, 5, 4, 3, 2]) 4 0xE0 ([9, 8, 7, 6, 5, 4, 3, 2] ++ [0, 1] ++ List.replicate 26 0) 0 : List Nat) = some ([4, 0xE0, 0xFF, 0, 0] ++ ([9, 8, 7, 6, 5, 4, 3, 2] ++ [0, 1] ++ List.replicate 26 0) : List Nat)) ∧ (([9, 8, 7, 6, 5, 4, 3, 2] ++ [0, 1] ++ List.replicate 26 0 : List Nat) = ([4, 0xE0, 0xFF, 0, 0] ++ ([9, 8, 7, 6, 5, 4, 3, 2] ++ [0, 1] ++ List.replicate 26 0) : List Nat).drop (if bitOf (leAt (sealMpdu (List.replicate 16 9) (joinNonce 1010 4 true 0 [9, 8, 7, 6, 5, 4, 3, 2]) 4 0xE0 ([9, 8, 7, 6, 5, 4, 3, 2] ++ [0, 1] ++ List.replicate 26 0) 0 : List Nat) 0 1) 4 then 6 else 5)) ∧ (leAt (sealMpdu (List.replicate 16 9) (joinNonce 1010 4 true 0 [9, 8, 7, 6, 5, 4, 3, 2]) 4 0xE0 ([9, 8, 7, 6, 5, 4, 3, 2] ++ [0, 1] ++ List.replicate 26 0) 0 : List Nat) 0 1 % 16 = 4) ∧ (([9, 8, 7, 6, 5, 4, 3, 2] ++ [0, 1] ++ List.replicate 26 0 : List Nat).take 8 = ({ eui := [9, 8, 7, 6, 5, 4, 3, 2], caps := wCaps, joinKey := List.replicate 16 9, asked := some (4, 1000), tries := 1 } : MemDev).eui) ∧ (assocBodyOk (w_memberAssocResponse_refused.prof 4) ([9, 8, 7, 6, 5, 4, 3, 2] ++ [0, 1] ++ List.replicate 26 0 : List Nat) = true) ∧ (leAt ([9, 8, 7, 6, 5, 4, 3, 2] ++ [0, 1] ++ List.replicate 26 0 : List Nat) 8 1 = 0) ∧ (leAt ([9, 8, 7, 6, 5, 4, 3, 2] ++ [0, 1] ++ List.replicate 26 0 : List Nat) 9 1 ≠ 0) ∧ (leAt ([9, 8, 7, 6, 5, 4, 3, 2] ++ [0, 1] ++ List.replicate 26 0 : List Nat) 9 1 ≠ 3)) ∧ (match exec (.memberAssocResponse 2 1010 2 101000000 (sealMpdu (List.replicate 16 9) (joinNonce 1010 4 true 0 [9, 8, 7, 6, 5, 4, 3, 2]) 4 0xE0 ([9, 8, 7, 6, 5, 4, 3, 2] ++ [0, 1] ++ List.replicate 26 0) 0 : List Nat)) w_memberAssocResponse_refused with
    | .next t => decide ((t.memDev 2 = { ({ eui := [9, 8, 7, 6, 5, 4, 3, 2], caps := wCaps, joinKey := List.replicate 16 9, asked := some (4, 1000), tries := 1 } : MemDev) with tries := 6 }))
    | _ => false) = true := by decide +kernel

def w_memberAssocResponse_malformed : State := { wMac [(LANE_CFG_PROFILE 4, 1)] with memDevs := [(2, ({ eui := [9, 8, 7, 6, 5, 4, 3, 2], caps := wCaps, joinKey := List.replicate 16 9, asked := some (4, 1000), tries := 1 }))] }

theorem test_memberAssocResponse_malformed : ((w_memberAssocResponse_malformed.stopSafe = true) ∧ (w_memberAssocResponse_malformed.memDev 2 = ({ eui := [9, 8, 7, 6, 5, 4, 3, 2], caps := wCaps, joinKey := List.replicate 16 9, asked := some (4, 1000), tries := 1 } : MemDev)) ∧ (({ eui := [9, 8, 7, 6, 5, 4, 3, 2], caps := wCaps, joinKey := List.replicate 16 9, asked := some (4, 1000), tries := 1 } : MemDev).st = 0) ∧ (({ eui := [9, 8, 7, 6, 5, 4, 3, 2], caps := wCaps, joinKey := List.replicate 16 9, asked := some (4, 1000), tries := 1 } : MemDev).asked = some (4, 1000)) ∧ (joinK (w_memberAssocResponse_malformed.prof 4) 1010 = respBoundary (w_memberAssocResponse_malformed.prof 4) 1000) ∧ (0 = (if w_memberAssocResponse_malformed.prof 4 ≠ 0 ∧ 2 = 9 then 1 else 0)) ∧ (2 = 2 ∨ 0 = 1) ∧ (openMpdu ({ eui := [9, 8, 7, 6, 5, 4, 3, 2], caps := wCaps, joinKey := List.replicate 16 9, asked := some (4, 1000), tries := 1 } : MemDev).joinKey (joinNonce (joinK (w_memberAssocResponse_malformed.prof 4) 1010) 4 true 0 ({ eui := [9, 8, 7, 6, 5, 4, 3, 2], caps := wCaps, joinKey := List.replicate 16 9, asked := some (4, 1000), tries := 1 } : MemDev).eui) (sealMpdu (List.replicate 16 9) (joinNonce 1010 4 true 0 [9, 8, 7, 6, 5, 4, 3, 2]) 4 0xE0 ([9, 8, 7, 6, 5, 4, 3, 2] ++ [0, 5] ++ List.replicate 26 0) 0 : List Nat) = some ([4, 0xE0, 0xFF, 0, 0] ++ ([9, 8, 7, 6, 5, 4, 3, 2] ++ [0, 5] ++ List.replicate 26 0) : List Nat)) ∧ (([9, 8, 7, 6, 5, 4, 3, 2] ++ [0, 5] ++ List.replicate 26 0 : List Nat) = ([4, 0xE0, 0xFF, 0, 0] ++ ([9, 8, 7, 6, 5, 4, 3, 2] ++ [0, 5] ++ List.replicate 26 0) : List Nat).drop (if bitOf (leAt (sealMpdu (List.replicate 16 9) (joinNonce 1010 4 true 0 [9, 8, 7, 6, 5, 4, 3, 2]) 4 0xE0 ([9, 8, 7, 6, 5, 4, 3, 2] ++ [0, 5] ++ List.replicate 26 0) 0 : List Nat) 0 1) 4 then 6 else 5)) ∧ (leAt (sealMpdu (List.replicate 16 9) (joinNonce 1010 4 true 0 [9, 8, 7, 6, 5, 4, 3, 2]) 4 0xE0 ([9, 8, 7, 6, 5, 4, 3, 2] ++ [0, 5] ++ List.replicate 26 0) 0 : List Nat) 0 1 % 16 = 4) ∧ (([9, 8, 7, 6, 5, 4, 3, 2] ++ [0, 5] ++ List.replicate 26 0 : List Nat).take 8 = ({ eui := [9, 8, 7, 6, 5, 4, 3, 2], caps := wCaps, joinKey := List.replicate 16 9, asked := some (4, 1000), tries := 1 } : MemDev).eui) ∧ (assocBodyOk (w_memberAssocResponse_malformed.prof 4) ([9, 8, 7, 6, 5, 4, 3, 2] ++ [0, 5] ++ List.replicate 26 0 : List Nat) = false)) ∧ (match exec (.memberAssocResponse 2 1010 2 101000000 (sealMpdu (List.replicate 16 9) (joinNonce 1010 4 true 0 [9, 8, 7, 6, 5, 4, 3, 2]) 4 0xE0 ([9, 8, 7, 6, 5, 4, 3, 2] ++ [0, 5] ++ List.replicate 26 0) 0 : List Nat)) w_memberAssocResponse_malformed with
    | .next t => decide ((t.memDev 2 = { ({ eui := [9, 8, 7, 6, 5, 4, 3, 2], caps := wCaps, joinKey := List.replicate 16 9, asked := some (4, 1000), tries := 1 } : MemDev) with malformed := ({ eui := [9, 8, 7, 6, 5, 4, 3, 2], caps := wCaps, joinKey := List.replicate 16 9, asked := some (4, 1000), tries := 1 } : MemDev).malformed + 1 }))
    | _ => false) = true := by decide +kernel

def w_memberAssocResponse_other : State := { wMac [(LANE_CFG_PROFILE 4, 1)] with memDevs := [(2, ({ eui := [9, 8, 7, 6, 5, 4, 3, 2], caps := wCaps, joinKey := List.replicate 16 9, asked := some (4, 1000), tries := 1 }))] }

theorem test_memberAssocResponse_other : ((w_memberAssocResponse_other.stopSafe = true) ∧ (w_memberAssocResponse_other.memDev 2 = ({ eui := [9, 8, 7, 6, 5, 4, 3, 2], caps := wCaps, joinKey := List.replicate 16 9, asked := some (4, 1000), tries := 1 } : MemDev)) ∧ (({ eui := [9, 8, 7, 6, 5, 4, 3, 2], caps := wCaps, joinKey := List.replicate 16 9, asked := some (4, 1000), tries := 1 } : MemDev).st = 0) ∧ (({ eui := [9, 8, 7, 6, 5, 4, 3, 2], caps := wCaps, joinKey := List.replicate 16 9, asked := some (4, 1000), tries := 1 } : MemDev).asked = some (4, 1000)) ∧ (joinK (w_memberAssocResponse_other.prof 4) 1010 = respBoundary (w_memberAssocResponse_other.prof 4) 1000) ∧ (0 = (if w_memberAssocResponse_other.prof 4 ≠ 0 ∧ 2 = 9 then 1 else 0)) ∧ (2 = 2 ∨ 0 = 1) ∧ (openMpdu ({ eui := [9, 8, 7, 6, 5, 4, 3, 2], caps := wCaps, joinKey := List.replicate 16 9, asked := some (4, 1000), tries := 1 } : MemDev).joinKey (joinNonce (joinK (w_memberAssocResponse_other.prof 4) 1010) 4 true 0 ({ eui := [9, 8, 7, 6, 5, 4, 3, 2], caps := wCaps, joinKey := List.replicate 16 9, asked := some (4, 1000), tries := 1 } : MemDev).eui) (sealMpdu (List.replicate 16 9) (joinNonce 1010 4 true 0 [9, 8, 7, 6, 5, 4, 3, 2]) 5 0xE0 ([9, 8, 7, 6, 5, 4, 3, 2] ++ [0, 0] ++ ([9, 4, 7] ++ leBytes 2 5 ++ leBytes 8 0 ++ [0x10] ++ leBytes 2 3 ++ leBytes 10 0)) 0 : List Nat) = some ([5, 0xE0, 0xFF, 0, 0] ++ ([9, 8, 7, 6, 5, 4, 3, 2] ++ [0, 0] ++ ([9, 4, 7] ++ leBytes 2 5 ++ leBytes 8 0 ++ [0x10] ++ leBytes 2 3 ++ leBytes 10 0)) : List Nat)) ∧ (([9, 8, 7, 6, 5, 4, 3, 2] ++ [0, 0] ++ ([9, 4, 7] ++ leBytes 2 5 ++ leBytes 8 0 ++ [0x10] ++ leBytes 2 3 ++ leBytes 10 0) : List Nat) = ([5, 0xE0, 0xFF, 0, 0] ++ ([9, 8, 7, 6, 5, 4, 3, 2] ++ [0, 0] ++ ([9, 4, 7] ++ leBytes 2 5 ++ leBytes 8 0 ++ [0x10] ++ leBytes 2 3 ++ leBytes 10 0)) : List Nat).drop (if bitOf (leAt (sealMpdu (List.replicate 16 9) (joinNonce 1010 4 true 0 [9, 8, 7, 6, 5, 4, 3, 2]) 5 0xE0 ([9, 8, 7, 6, 5, 4, 3, 2] ++ [0, 0] ++ ([9, 4, 7] ++ leBytes 2 5 ++ leBytes 8 0 ++ [0x10] ++ leBytes 2 3 ++ leBytes 10 0)) 0 : List Nat) 0 1) 4 then 6 else 5)) ∧ (leAt (sealMpdu (List.replicate 16 9) (joinNonce 1010 4 true 0 [9, 8, 7, 6, 5, 4, 3, 2]) 5 0xE0 ([9, 8, 7, 6, 5, 4, 3, 2] ++ [0, 0] ++ ([9, 4, 7] ++ leBytes 2 5 ++ leBytes 8 0 ++ [0x10] ++ leBytes 2 3 ++ leBytes 10 0)) 0 : List Nat) 0 1 % 16 ≠ 4 ∨ ([9, 8, 7, 6, 5, 4, 3, 2] ++ [0, 0] ++ ([9, 4, 7] ++ leBytes 2 5 ++ leBytes 8 0 ++ [0x10] ++ leBytes 2 3 ++ leBytes 10 0) : List Nat).take 8 ≠ ({ eui := [9, 8, 7, 6, 5, 4, 3, 2], caps := wCaps, joinKey := List.replicate 16 9, asked := some (4, 1000), tries := 1 } : MemDev).eui)) ∧ (match exec (.memberAssocResponse 2 1010 2 101000000 (sealMpdu (List.replicate 16 9) (joinNonce 1010 4 true 0 [9, 8, 7, 6, 5, 4, 3, 2]) 5 0xE0 ([9, 8, 7, 6, 5, 4, 3, 2] ++ [0, 0] ++ ([9, 4, 7] ++ leBytes 2 5 ++ leBytes 8 0 ++ [0x10] ++ leBytes 2 3 ++ leBytes 10 0)) 0 : List Nat)) w_memberAssocResponse_other with
    | .next t => decide ((t = w_memberAssocResponse_other))
    | _ => false) = true := by decide +kernel

def w_memberAssocResponse_away : State := wMem ({ eui := [9, 8, 7, 6, 5, 4, 3, 2], caps := wCaps, joinKey := List.replicate 16 9, asked := some (4, 1000), tries := 1 })

theorem test_memberAssocResponse_away : ((w_memberAssocResponse_away.stopSafe = true) ∧ (w_memberAssocResponse_away.memDev 2 = ({ eui := [9, 8, 7, 6, 5, 4, 3, 2], caps := wCaps, joinKey := List.replicate 16 9, asked := some (4, 1000), tries := 1 } : MemDev)) ∧ (({ eui := [9, 8, 7, 6, 5, 4, 3, 2], caps := wCaps, joinKey := List.replicate 16 9, asked := some (4, 1000), tries := 1 } : MemDev).asked = some (4, 1000)) ∧ (0 = (if w_memberAssocResponse_away.prof 4 ≠ 0 ∧ 2 = 9 then 1 else 0)) ∧ (({ eui := [9, 8, 7, 6, 5, 4, 3, 2], caps := wCaps, joinKey := List.replicate 16 9, asked := some (4, 1000), tries := 1 } : MemDev).st ≠ 0 ∨ joinK (w_memberAssocResponse_away.prof 4) 1000 ≠ respBoundary (w_memberAssocResponse_away.prof 4) 1000 ∨ (2 ≠ 2 ∧ 0 ≠ 1) ∨ openMpdu ({ eui := [9, 8, 7, 6, 5, 4, 3, 2], caps := wCaps, joinKey := List.replicate 16 9, asked := some (4, 1000), tries := 1 } : MemDev).joinKey (joinNonce (joinK (w_memberAssocResponse_away.prof 4) 1000) 4 true 0 ({ eui := [9, 8, 7, 6, 5, 4, 3, 2], caps := wCaps, joinKey := List.replicate 16 9, asked := some (4, 1000), tries := 1 } : MemDev).eui) (wResp : List Nat) = none)) ∧ (match exec (.memberAssocResponse 2 1000 2 1 (wResp : List Nat)) w_memberAssocResponse_away with
    | .next t => decide ((t = w_memberAssocResponse_away))
    | _ => false) = true := by decide +kernel

def w_memberAssocResponse_unasked : State := wMem dMem

theorem test_memberAssocResponse_unasked : ((w_memberAssocResponse_unasked.stopSafe = true) ∧ (w_memberAssocResponse_unasked.memDev 2 = (dMem : MemDev)) ∧ ((dMem : MemDev).asked = none)) ∧ (match exec (.memberAssocResponse 2 1001 2 1 (wResp : List Nat)) w_memberAssocResponse_unasked with
    | .next t => decide ((t = w_memberAssocResponse_unasked))
    | _ => false) = true := by decide +kernel

def w_memberJoinTimeout : State := wMem ({ dMem with st := 1, joinAt := 100000000 })

theorem test_memberJoinTimeout : ((w_memberJoinTimeout.stopSafe = true) ∧ (w_memberJoinTimeout.memDev 2 = ({ dMem with st := 1, joinAt := 100000000 } : MemDev)) ∧ (({ dMem with st := 1, joinAt := 100000000 } : MemDev).st = 1) ∧ (({ dMem with st := 1, joinAt := 100000000 } : MemDev).joinAt + (if w_memberJoinTimeout.prof ({ dMem with st := 1, joinAt := 100000000 } : MemDev).slot.1 = 0 then 2000000 else 3000000) ≤ 102000000)) ∧ (match exec (.memberJoinTimeout 2 102000000) w_memberJoinTimeout with
    | .next t => decide ((t.memDev 2 = MemDev.leave (({ dMem with st := 1, joinAt := 100000000 } : MemDev))) ∧ (((t.memDev 2).st, (t.memDev 2).addr, (t.memDev 2).win, (t.memDev 2).claim0, (t.memDev 2).claim1) = (0, 0, none, none, none)))
    | _ => false) = true := by decide +kernel

def w_memberJoinTimeout_none : State := wMem dMem

theorem test_memberJoinTimeout_none : ((w_memberJoinTimeout_none.stopSafe = true) ∧ (w_memberJoinTimeout_none.memDev 2 = (dMem : MemDev)) ∧ ((dMem : MemDev).st ≠ 1 ∨ 102000000 < (dMem : MemDev).joinAt + (if w_memberJoinTimeout_none.prof (dMem : MemDev).slot.1 = 0 then 2000000 else 3000000))) ∧ (match exec (.memberJoinTimeout 2 102000000) w_memberJoinTimeout_none with
    | .next t => decide ((t = w_memberJoinTimeout_none))
    | _ => false) = true := by decide +kernel

def w_memberBellwetherReceive : State := wMem ({ dMem with st := 3 })

theorem test_memberBellwetherReceive : ((w_memberBellwetherReceive.stopSafe = true) ∧ (w_memberBellwetherReceive.memDev 2 = ({ dMem with st := 3 } : MemDev)) ∧ (bellSource (w_memberBellwetherReceive.prof ({ dMem with st := 3 } : MemDev).slot.1) 1001 0 = some 0) ∧ (({ dMem with st := 3 } : MemDev).st ≠ 0) ∧ (leAt (wBell 1001 0x407 5 0x100 : List Nat) 0 1 % 16 = 0) ∧ (leAt (wBell 1001 0x407 5 0x100 : List Nat) 1 1 = 0xE0 + 0) ∧ (openMpdu ({ dMem with st := 3 } : MemDev).nwkKey (nwkNonce (({ dMem with st := 3 } : MemDev).sfn 1001) 0 ({ dMem with st := 3 } : MemDev).slot.1 ivData true (0xE0 + 0)) (wBell 1001 0x407 5 0x100 : List Nat) = some ([0, 0xE0, 0xFF, 0, 0] ++ bellBody 1001 0x407 5 0x100 : List Nat)) ∧ ((bellBody 1001 0x407 5 0x100 : List Nat) = ([0, 0xE0, 0xFF, 0, 0] ++ bellBody 1001 0x407 5 0x100 : List Nat).drop (if bitOf (leAt (wBell 1001 0x407 5 0x100 : List Nat) 0 1) 4 then 6 else 5)) ∧ (parseItems (bellBody 1001 0x407 5 0x100 : List Nat).length ((bellBody 1001 0x407 5 0x100 : List Nat).drop 55) = some ([] : List (Nat × List Nat))) ∧ (bellOk (w_memberBellwetherReceive.prof ({ dMem with st := 3 } : MemDev).slot.1) (bellBody 1001 0x407 5 0x100 : List Nat) ([] : List (Nat × List Nat)) = true) ∧ (0x407 = leAt (bellBody 1001 0x407 5 0x100 : List Nat) 14 2) ∧ (({ ({ dMem with st := 3 }) with claim0 := some 4, at0 := 100100500, dseq := [], stateDue := true, st := 2, bellAt := 100100500, clear0 := true, resync := false, clearAt := 100100000 } : MemDev) = { ({ dMem with st := 3 } : MemDev) with claim0 := (if 0 = 0 then some (leAt (bellBody 1001 0x407 5 0x100 : List Nat) 0 4) else ({ dMem with st := 3 } : MemDev).claim0), at0 := (if 0 = 0 then 100100500 else ({ dMem with st := 3 } : MemDev).at0), claim1 := (if 0 = 0 then ({ dMem with st := 3 } : MemDev).claim1 else some (leAt (bellBody 1001 0x407 5 0x100 : List Nat) 0 4)), at1 := (if 0 = 0 then ({ dMem with st := 3 } : MemDev).at1 else 100100500), dseq := (if ({ dMem with st := 3 } : MemDev).claim 0 = some (leAt (bellBody 1001 0x407 5 0x100 : List Nat) 0 4) then ({ dMem with st := 3 } : MemDev).dseq else ({ dMem with st := 3 } : MemDev).dseq.filter (fun (x : (Nat × Nat) × Nat) => x.1.1 != 0)), stateDue := (({ dMem with st := 3 } : MemDev).stateDue || (if 0 = 0 then { ({ dMem with st := 3 } : MemDev) with claim0 := some (leAt (bellBody 1001 0x407 5 0x100 : List Nat) 0 4) } else { ({ dMem with st := 3 } : MemDev) with claim1 := some (leAt (bellBody 1001 0x407 5 0x100 : List Nat) 0 4) } : MemDev).topClaim != ({ dMem with st := 3 } : MemDev).topClaim), st := 2, bellAt := 100100500, clear0 := (if 0 = 0 then bitOf 0x407 0 else ({ dMem with st := 3 } : MemDev).clear0), clear1 := (if 0 = 0 then ({ dMem with st := 3 } : MemDev).clear1 else bitOf 0x407 0), acted := (if ({ dMem with st := 3 } : MemDev).resync = true then some (leAt (bellBody 1001 0x407 5 0x100 : List Nat) 16 1) else ({ dMem with st := 3 } : MemDev).acted), resync := false, stopAt := (if ({ dMem with st := 3 } : MemDev).resync = true then 100100500 else ({ dMem with st := 3 } : MemDev).stopAt), clearAt := (if bitOf 0x407 0 = true then joinK (w_memberBellwetherReceive.prof ({ dMem with st := 3 } : MemDev).slot.1) 1001 * 100000 else ({ dMem with st := 3 } : MemDev).clearAt), stopped := (({ dMem with st := 3 } : MemDev).stopped || !bitOf 0x407 0), win := (if bitOf 0x407 0 = true then ({ dMem with st := 3 } : MemDev).win else none) }) ∧ (({ ({ dMem with st := 3 }) with claim0 := some 4, at0 := 100100500, dseq := [], stateDue := true, st := 2, bellAt := 100100500, clear0 := true, resync := false, clearAt := 100100000 } : MemDev).higher = some 0) ∧ (bitOf (leAt (bellBody 1001 0x407 5 0x100 : List Nat) 31 24) (({ dMem with st := 3 } : MemDev).addr - 1) = true) ∧ (([] : List (Nat × List Nat)) = []) ∧ (({ dMem with st := 3 } : MemDev).part0 = none) ∧ (({ dMem with st := 3 } : MemDev).held = none)) ∧ (match exec (.memberBellwetherReceive 2 1001 0 100100500 (wBell 1001 0x407 5 0x100 : List Nat)) w_memberBellwetherReceive with
    | .next t => decide ((t.memDev 2 = { ({ ({ dMem with st := 3 }) with claim0 := some 4, at0 := 100100500, dseq := [], stateDue := true, st := 2, bellAt := 100100500, clear0 := true, resync := false, clearAt := 100100000 } : MemDev) with bank := b2n (bitOf 0x407 2), rate := bits 0x407 10 8, shift := (if bitOf 0x407 3 = true then some (leAt (bellBody 1001 0x407 5 0x100 : List Nat) 17 4, leAt (bellBody 1001 0x407 5 0x100 : List Nat) 21 4) else ({ dMem with st := 3 } : MemDev).shift), hopAnn := (if bitOf 0x407 4 = true then some (leAt (bellBody 1001 0x407 5 0x100 : List Nat) 29 2, leAt (bellBody 1001 0x407 5 0x100 : List Nat) 25 4) else ({ dMem with st := 3 } : MemDev).hopAnn) }))
    | _ => false) = true := by decide +kernel

def w_memberBellwetherReceive_gone : State := wMem dMem

theorem test_memberBellwetherReceive_gone : ((w_memberBellwetherReceive_gone.stopSafe = true) ∧ (w_memberBellwetherReceive_gone.memDev 2 = (dMem : MemDev)) ∧ (bellSource (w_memberBellwetherReceive_gone.prof (dMem : MemDev).slot.1) 1001 0 = some 0) ∧ ((dMem : MemDev).st ≠ 0) ∧ (leAt (wBell 1001 0x407 5 0x200 : List Nat) 0 1 % 16 = 0) ∧ (leAt (wBell 1001 0x407 5 0x200 : List Nat) 1 1 = 0xE0 + 0) ∧ (openMpdu (dMem : MemDev).nwkKey (nwkNonce ((dMem : MemDev).sfn 1001) 0 (dMem : MemDev).slot.1 ivData true (0xE0 + 0)) (wBell 1001 0x407 5 0x200 : List Nat) = some ([0, 0xE0, 0xFF, 0, 0] ++ bellBody 1001 0x407 5 0x200 : List Nat)) ∧ ((bellBody 1001 0x407 5 0x200 : List Nat) = ([0, 0xE0, 0xFF, 0, 0] ++ bellBody 1001 0x407 5 0x200 : List Nat).drop (if bitOf (leAt (wBell 1001 0x407 5 0x200 : List Nat) 0 1) 4 then 6 else 5)) ∧ (parseItems (bellBody 1001 0x407 5 0x200 : List Nat).length ((bellBody 1001 0x407 5 0x200 : List Nat).drop 55) = some ([] : List (Nat × List Nat))) ∧ (bellOk (w_memberBellwetherReceive_gone.prof (dMem : MemDev).slot.1) (bellBody 1001 0x407 5 0x200 : List Nat) ([] : List (Nat × List Nat)) = true) ∧ (0x407 = leAt (bellBody 1001 0x407 5 0x200 : List Nat) 14 2) ∧ (({ (dMem) with claim0 := some 4, at0 := 100100500, dseq := [], stateDue := true, st := 2, bellAt := 100100500, clear0 := true, resync := false, clearAt := 100100000 } : MemDev) = { (dMem : MemDev) with claim0 := (if 0 = 0 then some (leAt (bellBody 1001 0x407 5 0x200 : List Nat) 0 4) else (dMem : MemDev).claim0), at0 := (if 0 = 0 then 100100500 else (dMem : MemDev).at0), claim1 := (if 0 = 0 then (dMem : MemDev).claim1 else some (leAt (bellBody 1001 0x407 5 0x200 : List Nat) 0 4)), at1 := (if 0 = 0 then (dMem : MemDev).at1 else 100100500), dseq := (if (dMem : MemDev).claim 0 = some (leAt (bellBody 1001 0x407 5 0x200 : List Nat) 0 4) then (dMem : MemDev).dseq else (dMem : MemDev).dseq.filter (fun (x : (Nat × Nat) × Nat) => x.1.1 != 0)), stateDue := ((dMem : MemDev).stateDue || (if 0 = 0 then { (dMem : MemDev) with claim0 := some (leAt (bellBody 1001 0x407 5 0x200 : List Nat) 0 4) } else { (dMem : MemDev) with claim1 := some (leAt (bellBody 1001 0x407 5 0x200 : List Nat) 0 4) } : MemDev).topClaim != (dMem : MemDev).topClaim), st := 2, bellAt := 100100500, clear0 := (if 0 = 0 then bitOf 0x407 0 else (dMem : MemDev).clear0), clear1 := (if 0 = 0 then (dMem : MemDev).clear1 else bitOf 0x407 0), acted := (if (dMem : MemDev).resync = true then some (leAt (bellBody 1001 0x407 5 0x200 : List Nat) 16 1) else (dMem : MemDev).acted), resync := false, stopAt := (if (dMem : MemDev).resync = true then 100100500 else (dMem : MemDev).stopAt), clearAt := (if bitOf 0x407 0 = true then joinK (w_memberBellwetherReceive_gone.prof (dMem : MemDev).slot.1) 1001 * 100000 else (dMem : MemDev).clearAt), stopped := ((dMem : MemDev).stopped || !bitOf 0x407 0), win := (if bitOf 0x407 0 = true then (dMem : MemDev).win else none) }) ∧ (({ (dMem) with claim0 := some 4, at0 := 100100500, dseq := [], stateDue := true, st := 2, bellAt := 100100500, clear0 := true, resync := false, clearAt := 100100000 } : MemDev).higher = some 0) ∧ (bitOf (leAt (bellBody 1001 0x407 5 0x200 : List Nat) 31 24) ((dMem : MemDev).addr - 1) = false) ∧ ((dMem : MemDev).held = none)) ∧ (match exec (.memberBellwetherReceive 2 1001 0 100100500 (wBell 1001 0x407 5 0x200 : List Nat)) w_memberBellwetherReceive_gone with
    | .next t => decide ((t.memDev 2 = MemDev.leave ({ ({ (dMem) with claim0 := some 4, at0 := 100100500, dseq := [], stateDue := true, st := 2, bellAt := 100100500, clear0 := true, resync := false, clearAt := 100100000 } : MemDev) with bank := b2n (bitOf 0x407 2), rate := bits 0x407 10 8, shift := (if bitOf 0x407 3 = true then some (leAt (bellBody 1001 0x407 5 0x200 : List Nat) 17 4, leAt (bellBody 1001 0x407 5 0x200 : List Nat) 21 4) else (dMem : MemDev).shift), hopAnn := (if bitOf 0x407 4 = true then some (leAt (bellBody 1001 0x407 5 0x200 : List Nat) 29 2, leAt (bellBody 1001 0x407 5 0x200 : List Nat) 25 4) else (dMem : MemDev).hopAnn) })) ∧ (((t.memDev 2).st, (t.memDev 2).addr, (t.memDev 2).win, (t.memDev 2).claim0, (t.memDev 2).claim1) = (0, 0, none, none, none)))
    | _ => false) = true := by decide +kernel

def w_memberBellwetherReceive_stop : State := wMem ({ dMem with claim1 := some 9 })

theorem test_memberBellwetherReceive_stop : ((w_memberBellwetherReceive_stop.stopSafe = true) ∧ (w_memberBellwetherReceive_stop.memDev 2 = ({ dMem with claim1 := some 9 } : MemDev)) ∧ (bellSource (w_memberBellwetherReceive_stop.prof ({ dMem with claim1 := some 9 } : MemDev).slot.1) 1001 0 = some 0) ∧ (({ dMem with claim1 := some 9 } : MemDev).st ≠ 0) ∧ (leAt (wBell 1001 0x406 5 0 : List Nat) 0 1 % 16 = 0) ∧ (leAt (wBell 1001 0x406 5 0 : List Nat) 1 1 = 0xE0 + 0) ∧ (openMpdu ({ dMem with claim1 := some 9 } : MemDev).nwkKey (nwkNonce (({ dMem with claim1 := some 9 } : MemDev).sfn 1001) 0 ({ dMem with claim1 := some 9 } : MemDev).slot.1 ivData true (0xE0 + 0)) (wBell 1001 0x406 5 0 : List Nat) = some ([0, 0xE0, 0xFF, 0, 0] ++ bellBody 1001 0x406 5 0 : List Nat)) ∧ ((bellBody 1001 0x406 5 0 : List Nat) = ([0, 0xE0, 0xFF, 0, 0] ++ bellBody 1001 0x406 5 0 : List Nat).drop (if bitOf (leAt (wBell 1001 0x406 5 0 : List Nat) 0 1) 4 then 6 else 5)) ∧ (parseItems (bellBody 1001 0x406 5 0 : List Nat).length ((bellBody 1001 0x406 5 0 : List Nat).drop 55) = some ([] : List (Nat × List Nat))) ∧ (bellOk (w_memberBellwetherReceive_stop.prof ({ dMem with claim1 := some 9 } : MemDev).slot.1) (bellBody 1001 0x406 5 0 : List Nat) ([] : List (Nat × List Nat)) = true) ∧ (0x406 = leAt (bellBody 1001 0x406 5 0 : List Nat) 14 2) ∧ (({ ({ dMem with claim1 := some 9 }) with claim0 := some 4, at0 := 100100500, dseq := [], stateDue := false, st := 2, bellAt := 100100500, clear0 := false, resync := false, stopped := true, win := none } : MemDev) = { ({ dMem with claim1 := some 9 } : MemDev) with claim0 := (if 0 = 0 then some (leAt (bellBody 1001 0x406 5 0 : List Nat) 0 4) else ({ dMem with claim1 := some 9 } : MemDev).claim0), at0 := (if 0 = 0 then 100100500 else ({ dMem with claim1 := some 9 } : MemDev).at0), claim1 := (if 0 = 0 then ({ dMem with claim1 := some 9 } : MemDev).claim1 else some (leAt (bellBody 1001 0x406 5 0 : List Nat) 0 4)), at1 := (if 0 = 0 then ({ dMem with claim1 := some 9 } : MemDev).at1 else 100100500), dseq := (if ({ dMem with claim1 := some 9 } : MemDev).claim 0 = some (leAt (bellBody 1001 0x406 5 0 : List Nat) 0 4) then ({ dMem with claim1 := some 9 } : MemDev).dseq else ({ dMem with claim1 := some 9 } : MemDev).dseq.filter (fun (x : (Nat × Nat) × Nat) => x.1.1 != 0)), stateDue := (({ dMem with claim1 := some 9 } : MemDev).stateDue || (if 0 = 0 then { ({ dMem with claim1 := some 9 } : MemDev) with claim0 := some (leAt (bellBody 1001 0x406 5 0 : List Nat) 0 4) } else { ({ dMem with claim1 := some 9 } : MemDev) with claim1 := some (leAt (bellBody 1001 0x406 5 0 : List Nat) 0 4) } : MemDev).topClaim != ({ dMem with claim1 := some 9 } : MemDev).topClaim), st := 2, bellAt := 100100500, clear0 := (if 0 = 0 then bitOf 0x406 0 else ({ dMem with claim1 := some 9 } : MemDev).clear0), clear1 := (if 0 = 0 then ({ dMem with claim1 := some 9 } : MemDev).clear1 else bitOf 0x406 0), acted := (if ({ dMem with claim1 := some 9 } : MemDev).resync = true then some (leAt (bellBody 1001 0x406 5 0 : List Nat) 16 1) else ({ dMem with claim1 := some 9 } : MemDev).acted), resync := false, stopAt := (if ({ dMem with claim1 := some 9 } : MemDev).resync = true then 100100500 else ({ dMem with claim1 := some 9 } : MemDev).stopAt), clearAt := (if bitOf 0x406 0 = true then joinK (w_memberBellwetherReceive_stop.prof ({ dMem with claim1 := some 9 } : MemDev).slot.1) 1001 * 100000 else ({ dMem with claim1 := some 9 } : MemDev).clearAt), stopped := (({ dMem with claim1 := some 9 } : MemDev).stopped || !bitOf 0x406 0), win := (if bitOf 0x406 0 = true then ({ dMem with claim1 := some 9 } : MemDev).win else none) }) ∧ (({ ({ dMem with claim1 := some 9 }) with claim0 := some 4, at0 := 100100500, dseq := [], stateDue := false, st := 2, bellAt := 100100500, clear0 := false, resync := false, stopped := true, win := none } : MemDev).higher ≠ some 0) ∧ (({ dMem with claim1 := some 9 } : MemDev).part0 = none) ∧ (({ dMem with claim1 := some 9 } : MemDev).held = none)) ∧ (match exec (.memberBellwetherReceive 2 1001 0 100100500 (wBell 1001 0x406 5 0 : List Nat)) w_memberBellwetherReceive_stop with
    | .next t => decide ((t.memDev 2 = ({ ({ dMem with claim1 := some 9 }) with claim0 := some 4, at0 := 100100500, dseq := [], stateDue := false, st := 2, bellAt := 100100500, clear0 := false, resync := false, stopped := true, win := none } : MemDev)))
    | _ => false) = true := by decide +kernel

def w_memberBellwetherReceive_items : State := wMem ({ dMem with st := 3 })

theorem test_memberBellwetherReceive_items : ((w_memberBellwetherReceive_items.stopSafe = true) ∧ (w_memberBellwetherReceive_items.memDev 2 = ({ dMem with st := 3 } : MemDev)) ∧ (bellSource (w_memberBellwetherReceive_items.prof ({ dMem with st := 3 } : MemDev).slot.1) 1001 0 = some 0) ∧ (({ dMem with st := 3 } : MemDev).st ≠ 0) ∧ (leAt (wBell 1001 0x407 5 0x100 : List Nat) 0 1 % 16 = 0) ∧ (leAt (wBell 1001 0x407 5 0x100 : List Nat) 1 1 = 0xE0 + 0) ∧ (openMpdu ({ dMem with st := 3 } : MemDev).nwkKey (nwkNonce (({ dMem with st := 3 } : MemDev).sfn 1001) 0 ({ dMem with st := 3 } : MemDev).slot.1 ivData true (0xE0 + 0)) (wBell 1001 0x407 5 0x100 : List Nat) = some ([0, 0xE0, 0xFF, 0, 0] ++ bellBody 1001 0x407 5 0x100 : List Nat)) ∧ ((bellBody 1001 0x407 5 0x100 : List Nat) = ([0, 0xE0, 0xFF, 0, 0] ++ bellBody 1001 0x407 5 0x100 : List Nat).drop (if bitOf (leAt (wBell 1001 0x407 5 0x100 : List Nat) 0 1) 4 then 6 else 5)) ∧ (parseItems (bellBody 1001 0x407 5 0x100 : List Nat).length ((bellBody 1001 0x407 5 0x100 : List Nat).drop 55) = some ([] : List (Nat × List Nat))) ∧ (bellOk (w_memberBellwetherReceive_items.prof ({ dMem with st := 3 } : MemDev).slot.1) (bellBody 1001 0x407 5 0x100 : List Nat) ([] : List (Nat × List Nat)) = true) ∧ (0x407 = leAt (bellBody 1001 0x407 5 0x100 : List Nat) 14 2) ∧ (({ ({ dMem with st := 3 }) with claim0 := some 4, at0 := 100100500, dseq := [], stateDue := true, st := 2, bellAt := 100100500, clear0 := true, resync := false, clearAt := 100100000 } : MemDev) = { ({ dMem with st := 3 } : MemDev) with claim0 := (if 0 = 0 then some (leAt (bellBody 1001 0x407 5 0x100 : List Nat) 0 4) else ({ dMem with st := 3 } : MemDev).claim0), at0 := (if 0 = 0 then 100100500 else ({ dMem with st := 3 } : MemDev).at0), claim1 := (if 0 = 0 then ({ dMem with st := 3 } : MemDev).claim1 else some (leAt (bellBody 1001 0x407 5 0x100 : List Nat) 0 4)), at1 := (if 0 = 0 then ({ dMem with st := 3 } : MemDev).at1 else 100100500), dseq := (if ({ dMem with st := 3 } : MemDev).claim 0 = some (leAt (bellBody 1001 0x407 5 0x100 : List Nat) 0 4) then ({ dMem with st := 3 } : MemDev).dseq else ({ dMem with st := 3 } : MemDev).dseq.filter (fun (x : (Nat × Nat) × Nat) => x.1.1 != 0)), stateDue := (({ dMem with st := 3 } : MemDev).stateDue || (if 0 = 0 then { ({ dMem with st := 3 } : MemDev) with claim0 := some (leAt (bellBody 1001 0x407 5 0x100 : List Nat) 0 4) } else { ({ dMem with st := 3 } : MemDev) with claim1 := some (leAt (bellBody 1001 0x407 5 0x100 : List Nat) 0 4) } : MemDev).topClaim != ({ dMem with st := 3 } : MemDev).topClaim), st := 2, bellAt := 100100500, clear0 := (if 0 = 0 then bitOf 0x407 0 else ({ dMem with st := 3 } : MemDev).clear0), clear1 := (if 0 = 0 then ({ dMem with st := 3 } : MemDev).clear1 else bitOf 0x407 0), acted := (if ({ dMem with st := 3 } : MemDev).resync = true then some (leAt (bellBody 1001 0x407 5 0x100 : List Nat) 16 1) else ({ dMem with st := 3 } : MemDev).acted), resync := false, stopAt := (if ({ dMem with st := 3 } : MemDev).resync = true then 100100500 else ({ dMem with st := 3 } : MemDev).stopAt), clearAt := (if bitOf 0x407 0 = true then joinK (w_memberBellwetherReceive_items.prof ({ dMem with st := 3 } : MemDev).slot.1) 1001 * 100000 else ({ dMem with st := 3 } : MemDev).clearAt), stopped := (({ dMem with st := 3 } : MemDev).stopped || !bitOf 0x407 0), win := (if bitOf 0x407 0 = true then ({ dMem with st := 3 } : MemDev).win else none) }) ∧ (({ ({ dMem with st := 3 }) with claim0 := some 4, at0 := 100100500, dseq := [], stateDue := true, st := 2, bellAt := 100100500, clear0 := true, resync := false, clearAt := 100100000 } : MemDev).higher = some 0) ∧ (bitOf (leAt (bellBody 1001 0x407 5 0x100 : List Nat) 31 24) (({ dMem with st := 3 } : MemDev).addr - 1) = true)) ∧ (match exec (.memberBellwetherReceive 2 1001 0 100100500 (wBell 1001 0x407 5 0x100 : List Nat)) w_memberBellwetherReceive_items with
    | .next t => decide ((t.memDev 2 = ((([] : List (Nat × List Nat)).foldl (fun (y : MemDev) (i : Nat × List Nat) => MemDev.cmd 0 (({ dMem with st := 3 } : MemDev).sfn 1001) y i.2) { ({ ({ dMem with st := 3 }) with claim0 := some 4, at0 := 100100500, dseq := [], stateDue := true, st := 2, bellAt := 100100500, clear0 := true, resync := false, clearAt := 100100000 } : MemDev) with bank := b2n (bitOf 0x407 2), rate := bits 0x407 10 8, shift := (if bitOf 0x407 3 = true then some (leAt (bellBody 1001 0x407 5 0x100 : List Nat) 17 4, leAt (bellBody 1001 0x407 5 0x100 : List Nat) 21 4) else ({ dMem with st := 3 } : MemDev).shift), hopAnn := (if bitOf 0x407 4 = true then some (leAt (bellBody 1001 0x407 5 0x100 : List Nat) 29 2, leAt (bellBody 1001 0x407 5 0x100 : List Nat) 25 4) else ({ dMem with st := 3 } : MemDev).hopAnn) }).hopNow (({ dMem with st := 3 } : MemDev).sfn 1001)).expire (({ dMem with st := 3 } : MemDev).sfn 1001)))
    | _ => false) = true := by decide +kernel

def w_memberBellwetherReceive_hop : State := wMem ({ dMem with part0 := some { ver := 3, target := 1001, lanes := 16, data := List.replicate 32 4 }, part1 := some { ver := 3, target := 1001, lanes := 0, data := List.replicate 10 1 } })

theorem test_memberBellwetherReceive_hop : ((w_memberBellwetherReceive_hop.stopSafe = true) ∧ (w_memberBellwetherReceive_hop.memDev 2 = ({ dMem with part0 := some { ver := 3, target := 1001, lanes := 16, data := List.replicate 32 4 }, part1 := some { ver := 3, target := 1001, lanes := 0, data := List.replicate 10 1 } } : MemDev)) ∧ (bellSource (w_memberBellwetherReceive_hop.prof ({ dMem with part0 := some { ver := 3, target := 1001, lanes := 16, data := List.replicate 32 4 }, part1 := some { ver := 3, target := 1001, lanes := 0, data := List.replicate 10 1 } } : MemDev).slot.1) 1001 0 = some 0) ∧ (({ dMem with part0 := some { ver := 3, target := 1001, lanes := 16, data := List.replicate 32 4 }, part1 := some { ver := 3, target := 1001, lanes := 0, data := List.replicate 10 1 } } : MemDev).st ≠ 0) ∧ (leAt (wBell 1001 0x407 5 0x100 : List Nat) 0 1 % 16 = 0) ∧ (leAt (wBell 1001 0x407 5 0x100 : List Nat) 1 1 = 0xE0 + 0) ∧ (openMpdu ({ dMem with part0 := some { ver := 3, target := 1001, lanes := 16, data := List.replicate 32 4 }, part1 := some { ver := 3, target := 1001, lanes := 0, data := List.replicate 10 1 } } : MemDev).nwkKey (nwkNonce (({ dMem with part0 := some { ver := 3, target := 1001, lanes := 16, data := List.replicate 32 4 }, part1 := some { ver := 3, target := 1001, lanes := 0, data := List.replicate 10 1 } } : MemDev).sfn 1001) 0 ({ dMem with part0 := some { ver := 3, target := 1001, lanes := 16, data := List.replicate 32 4 }, part1 := some { ver := 3, target := 1001, lanes := 0, data := List.replicate 10 1 } } : MemDev).slot.1 ivData true (0xE0 + 0)) (wBell 1001 0x407 5 0x100 : List Nat) = some ([0, 0xE0, 0xFF, 0, 0] ++ bellBody 1001 0x407 5 0x100 : List Nat)) ∧ ((bellBody 1001 0x407 5 0x100 : List Nat) = ([0, 0xE0, 0xFF, 0, 0] ++ bellBody 1001 0x407 5 0x100 : List Nat).drop (if bitOf (leAt (wBell 1001 0x407 5 0x100 : List Nat) 0 1) 4 then 6 else 5)) ∧ (parseItems (bellBody 1001 0x407 5 0x100 : List Nat).length ((bellBody 1001 0x407 5 0x100 : List Nat).drop 55) = some ([] : List (Nat × List Nat))) ∧ (bellOk (w_memberBellwetherReceive_hop.prof ({ dMem with part0 := some { ver := 3, target := 1001, lanes := 16, data := List.replicate 32 4 }, part1 := some { ver := 3, target := 1001, lanes := 0, data := List.replicate 10 1 } } : MemDev).slot.1) (bellBody 1001 0x407 5 0x100 : List Nat) ([] : List (Nat × List Nat)) = true) ∧ (0x407 = leAt (bellBody 1001 0x407 5 0x100 : List Nat) 14 2) ∧ (({ ({ dMem with part0 := some { ver := 3, target := 1001, lanes := 16, data := List.replicate 32 4 }, part1 := some { ver := 3, target := 1001, lanes := 0, data := List.replicate 10 1 } }) with claim0 := some 4, at0 := 100100500, dseq := [], stateDue := true, st := 2, bellAt := 100100500, clear0 := true, resync := false, clearAt := 100100000 } : MemDev) = { ({ dMem with part0 := some { ver := 3, target := 1001, lanes := 16, data := List.replicate 32 4 }, part1 := some { ver := 3, target := 1001, lanes := 0, data := List.replicate 10 1 } } : MemDev) with claim0 := (if 0 = 0 then some (leAt (bellBody 1001 0x407 5 0x100 : List Nat) 0 4) else ({ dMem with part0 := some { ver := 3, target := 1001, lanes := 16, data := List.replicate 32 4 }, part1 := some { ver := 3, target := 1001, lanes := 0, data := List.replicate 10 1 } } : MemDev).claim0), at0 := (if 0 = 0 then 100100500 else ({ dMem with part0 := some { ver := 3, target := 1001, lanes := 16, data := List.replicate 32 4 }, part1 := some { ver := 3, target := 1001, lanes := 0, data := List.replicate 10 1 } } : MemDev).at0), claim1 := (if 0 = 0 then ({ dMem with part0 := some { ver := 3, target := 1001, lanes := 16, data := List.replicate 32 4 }, part1 := some { ver := 3, target := 1001, lanes := 0, data := List.replicate 10 1 } } : MemDev).claim1 else some (leAt (bellBody 1001 0x407 5 0x100 : List Nat) 0 4)), at1 := (if 0 = 0 then ({ dMem with part0 := some { ver := 3, target := 1001, lanes := 16, data := List.replicate 32 4 }, part1 := some { ver := 3, target := 1001, lanes := 0, data := List.replicate 10 1 } } : MemDev).at1 else 100100500), dseq := (if ({ dMem with part0 := some { ver := 3, target := 1001, lanes := 16, data := List.replicate 32 4 }, part1 := some { ver := 3, target := 1001, lanes := 0, data := List.replicate 10 1 } } : MemDev).claim 0 = some (leAt (bellBody 1001 0x407 5 0x100 : List Nat) 0 4) then ({ dMem with part0 := some { ver := 3, target := 1001, lanes := 16, data := List.replicate 32 4 }, part1 := some { ver := 3, target := 1001, lanes := 0, data := List.replicate 10 1 } } : MemDev).dseq else ({ dMem with part0 := some { ver := 3, target := 1001, lanes := 16, data := List.replicate 32 4 }, part1 := some { ver := 3, target := 1001, lanes := 0, data := List.replicate 10 1 } } : MemDev).dseq.filter (fun (x : (Nat × Nat) × Nat) => x.1.1 != 0)), stateDue := (({ dMem with part0 := some { ver := 3, target := 1001, lanes := 16, data := List.replicate 32 4 }, part1 := some { ver := 3, target := 1001, lanes := 0, data := List.replicate 10 1 } } : MemDev).stateDue || (if 0 = 0 then { ({ dMem with part0 := some { ver := 3, target := 1001, lanes := 16, data := List.replicate 32 4 }, part1 := some { ver := 3, target := 1001, lanes := 0, data := List.replicate 10 1 } } : MemDev) with claim0 := some (leAt (bellBody 1001 0x407 5 0x100 : List Nat) 0 4) } else { ({ dMem with part0 := some { ver := 3, target := 1001, lanes := 16, data := List.replicate 32 4 }, part1 := some { ver := 3, target := 1001, lanes := 0, data := List.replicate 10 1 } } : MemDev) with claim1 := some (leAt (bellBody 1001 0x407 5 0x100 : List Nat) 0 4) } : MemDev).topClaim != ({ dMem with part0 := some { ver := 3, target := 1001, lanes := 16, data := List.replicate 32 4 }, part1 := some { ver := 3, target := 1001, lanes := 0, data := List.replicate 10 1 } } : MemDev).topClaim), st := 2, bellAt := 100100500, clear0 := (if 0 = 0 then bitOf 0x407 0 else ({ dMem with part0 := some { ver := 3, target := 1001, lanes := 16, data := List.replicate 32 4 }, part1 := some { ver := 3, target := 1001, lanes := 0, data := List.replicate 10 1 } } : MemDev).clear0), clear1 := (if 0 = 0 then ({ dMem with part0 := some { ver := 3, target := 1001, lanes := 16, data := List.replicate 32 4 }, part1 := some { ver := 3, target := 1001, lanes := 0, data := List.replicate 10 1 } } : MemDev).clear1 else bitOf 0x407 0), acted := (if ({ dMem with part0 := some { ver := 3, target := 1001, lanes := 16, data := List.replicate 32 4 }, part1 := some { ver := 3, target := 1001, lanes := 0, data := List.replicate 10 1 } } : MemDev).resync = true then some (leAt (bellBody 1001 0x407 5 0x100 : List Nat) 16 1) else ({ dMem with part0 := some { ver := 3, target := 1001, lanes := 16, data := List.replicate 32 4 }, part1 := some { ver := 3, target := 1001, lanes := 0, data := List.replicate 10 1 } } : MemDev).acted), resync := false, stopAt := (if ({ dMem with part0 := some { ver := 3, target := 1001, lanes := 16, data := List.replicate 32 4 }, part1 := some { ver := 3, target := 1001, lanes := 0, data := List.replicate 10 1 } } : MemDev).resync = true then 100100500 else ({ dMem with part0 := some { ver := 3, target := 1001, lanes := 16, data := List.replicate 32 4 }, part1 := some { ver := 3, target := 1001, lanes := 0, data := List.replicate 10 1 } } : MemDev).stopAt), clearAt := (if bitOf 0x407 0 = true then joinK (w_memberBellwetherReceive_hop.prof ({ dMem with part0 := some { ver := 3, target := 1001, lanes := 16, data := List.replicate 32 4 }, part1 := some { ver := 3, target := 1001, lanes := 0, data := List.replicate 10 1 } } : MemDev).slot.1) 1001 * 100000 else ({ dMem with part0 := some { ver := 3, target := 1001, lanes := 16, data := List.replicate 32 4 }, part1 := some { ver := 3, target := 1001, lanes := 0, data := List.replicate 10 1 } } : MemDev).clearAt), stopped := (({ dMem with part0 := some { ver := 3, target := 1001, lanes := 16, data := List.replicate 32 4 }, part1 := some { ver := 3, target := 1001, lanes := 0, data := List.replicate 10 1 } } : MemDev).stopped || !bitOf 0x407 0), win := (if bitOf 0x407 0 = true then ({ dMem with part0 := some { ver := 3, target := 1001, lanes := 16, data := List.replicate 32 4 }, part1 := some { ver := 3, target := 1001, lanes := 0, data := List.replicate 10 1 } } : MemDev).win else none) }) ∧ (({ ({ dMem with part0 := some { ver := 3, target := 1001, lanes := 16, data := List.replicate 32 4 }, part1 := some { ver := 3, target := 1001, lanes := 0, data := List.replicate 10 1 } }) with claim0 := some 4, at0 := 100100500, dseq := [], stateDue := true, st := 2, bellAt := 100100500, clear0 := true, resync := false, clearAt := 100100000 } : MemDev).higher = some 0) ∧ (bitOf (leAt (bellBody 1001 0x407 5 0x100 : List Nat) 31 24) (({ dMem with part0 := some { ver := 3, target := 1001, lanes := 16, data := List.replicate 32 4 }, part1 := some { ver := 3, target := 1001, lanes := 0, data := List.replicate 10 1 } } : MemDev).addr - 1) = true) ∧ (([] : List (Nat × List Nat)) = []) ∧ (({ dMem with part0 := some { ver := 3, target := 1001, lanes := 16, data := List.replicate 32 4 }, part1 := some { ver := 3, target := 1001, lanes := 0, data := List.replicate 10 1 } } : MemDev).part0 = some ({ ver := 3, target := 1001, lanes := 16, data := List.replicate 32 4 } : MemHopPart)) ∧ (({ dMem with part0 := some { ver := 3, target := 1001, lanes := 16, data := List.replicate 32 4 }, part1 := some { ver := 3, target := 1001, lanes := 0, data := List.replicate 10 1 } } : MemDev).part1 = some ({ ver := 3, target := 1001, lanes := 0, data := List.replicate 10 1 } : MemHopPart)) ∧ (({ ver := 3, target := 1001, lanes := 16, data := List.replicate 32 4 } : MemHopPart).ver = ({ ver := 3, target := 1001, lanes := 0, data := List.replicate 10 1 } : MemHopPart).ver) ∧ (({ ver := 3, target := 1001, lanes := 16, data := List.replicate 32 4 } : MemHopPart).target ≤ ({ dMem with part0 := some { ver := 3, target := 1001, lanes := 16, data := List.replicate 32 4 }, part1 := some { ver := 3, target := 1001, lanes := 0, data := List.replicate 10 1 } } : MemDev).sfn 1001) ∧ (({ dMem with part0 := some { ver := 3, target := 1001, lanes := 16, data := List.replicate 32 4 }, part1 := some { ver := 3, target := 1001, lanes := 0, data := List.replicate 10 1 } } : MemDev).held = none)) ∧ (match exec (.memberBellwetherReceive 2 1001 0 100100500 (wBell 1001 0x407 5 0x100 : List Nat)) w_memberBellwetherReceive_hop with
    | .next t => decide ((t.memDev 2 = { ({ ({ dMem with part0 := some { ver := 3, target := 1001, lanes := 16, data := List.replicate 32 4 }, part1 := some { ver := 3, target := 1001, lanes := 0, data := List.replicate 10 1 } }) with claim0 := some 4, at0 := 100100500, dseq := [], stateDue := true, st := 2, bellAt := 100100500, clear0 := true, resync := false, clearAt := 100100000 } : MemDev) with bank := b2n (bitOf 0x407 2), rate := bits 0x407 10 8, shift := (if bitOf 0x407 3 = true then some (leAt (bellBody 1001 0x407 5 0x100 : List Nat) 17 4, leAt (bellBody 1001 0x407 5 0x100 : List Nat) 21 4) else ({ dMem with part0 := some { ver := 3, target := 1001, lanes := 16, data := List.replicate 32 4 }, part1 := some { ver := 3, target := 1001, lanes := 0, data := List.replicate 10 1 } } : MemDev).shift), hopVer := ({ ver := 3, target := 1001, lanes := 16, data := List.replicate 32 4 } : MemHopPart).ver, hopLanes := ({ ver := 3, target := 1001, lanes := 16, data := List.replicate 32 4 } : MemHopPart).lanes, hopKey := ({ ver := 3, target := 1001, lanes := 16, data := List.replicate 32 4 } : MemHopPart).data.take 16, hopIv := leAt ({ ver := 3, target := 1001, lanes := 16, data := List.replicate 32 4 } : MemHopPart).data 16 16, excl := ({ ver := 3, target := 1001, lanes := 0, data := List.replicate 10 1 } : MemHopPart).data, hopAnn := none, part0 := none, part1 := none }))
    | _ => false) = true := by decide +kernel

def w_memberBellwetherReceive_expired : State := wMem ({ dMem with claim1 := some 9, held := some { task := 12, startBy := 1000, level := 1, body := [] } })

theorem test_memberBellwetherReceive_expired : ((w_memberBellwetherReceive_expired.stopSafe = true) ∧ (w_memberBellwetherReceive_expired.memDev 2 = ({ dMem with claim1 := some 9, held := some { task := 12, startBy := 1000, level := 1, body := [] } } : MemDev)) ∧ (bellSource (w_memberBellwetherReceive_expired.prof ({ dMem with claim1 := some 9, held := some { task := 12, startBy := 1000, level := 1, body := [] } } : MemDev).slot.1) 1001 0 = some 0) ∧ (({ dMem with claim1 := some 9, held := some { task := 12, startBy := 1000, level := 1, body := [] } } : MemDev).st ≠ 0) ∧ (leAt (wBell 1001 0x406 5 0 : List Nat) 0 1 % 16 = 0) ∧ (leAt (wBell 1001 0x406 5 0 : List Nat) 1 1 = 0xE0 + 0) ∧ (openMpdu ({ dMem with claim1 := some 9, held := some { task := 12, startBy := 1000, level := 1, body := [] } } : MemDev).nwkKey (nwkNonce (({ dMem with claim1 := some 9, held := some { task := 12, startBy := 1000, level := 1, body := [] } } : MemDev).sfn 1001) 0 ({ dMem with claim1 := some 9, held := some { task := 12, startBy := 1000, level := 1, body := [] } } : MemDev).slot.1 ivData true (0xE0 + 0)) (wBell 1001 0x406 5 0 : List Nat) = some ([0, 0xE0, 0xFF, 0, 0] ++ bellBody 1001 0x406 5 0 : List Nat)) ∧ ((bellBody 1001 0x406 5 0 : List Nat) = ([0, 0xE0, 0xFF, 0, 0] ++ bellBody 1001 0x406 5 0 : List Nat).drop (if bitOf (leAt (wBell 1001 0x406 5 0 : List Nat) 0 1) 4 then 6 else 5)) ∧ (parseItems (bellBody 1001 0x406 5 0 : List Nat).length ((bellBody 1001 0x406 5 0 : List Nat).drop 55) = some ([] : List (Nat × List Nat))) ∧ (bellOk (w_memberBellwetherReceive_expired.prof ({ dMem with claim1 := some 9, held := some { task := 12, startBy := 1000, level := 1, body := [] } } : MemDev).slot.1) (bellBody 1001 0x406 5 0 : List Nat) ([] : List (Nat × List Nat)) = true) ∧ (0x406 = leAt (bellBody 1001 0x406 5 0 : List Nat) 14 2) ∧ (({ ({ dMem with claim1 := some 9, held := some { task := 12, startBy := 1000, level := 1, body := [] } }) with claim0 := some 4, at0 := 100100500, dseq := [], stateDue := false, st := 2, bellAt := 100100500, clear0 := false, resync := false, stopped := true, win := none } : MemDev) = { ({ dMem with claim1 := some 9, held := some { task := 12, startBy := 1000, level := 1, body := [] } } : MemDev) with claim0 := (if 0 = 0 then some (leAt (bellBody 1001 0x406 5 0 : List Nat) 0 4) else ({ dMem with claim1 := some 9, held := some { task := 12, startBy := 1000, level := 1, body := [] } } : MemDev).claim0), at0 := (if 0 = 0 then 100100500 else ({ dMem with claim1 := some 9, held := some { task := 12, startBy := 1000, level := 1, body := [] } } : MemDev).at0), claim1 := (if 0 = 0 then ({ dMem with claim1 := some 9, held := some { task := 12, startBy := 1000, level := 1, body := [] } } : MemDev).claim1 else some (leAt (bellBody 1001 0x406 5 0 : List Nat) 0 4)), at1 := (if 0 = 0 then ({ dMem with claim1 := some 9, held := some { task := 12, startBy := 1000, level := 1, body := [] } } : MemDev).at1 else 100100500), dseq := (if ({ dMem with claim1 := some 9, held := some { task := 12, startBy := 1000, level := 1, body := [] } } : MemDev).claim 0 = some (leAt (bellBody 1001 0x406 5 0 : List Nat) 0 4) then ({ dMem with claim1 := some 9, held := some { task := 12, startBy := 1000, level := 1, body := [] } } : MemDev).dseq else ({ dMem with claim1 := some 9, held := some { task := 12, startBy := 1000, level := 1, body := [] } } : MemDev).dseq.filter (fun (x : (Nat × Nat) × Nat) => x.1.1 != 0)), stateDue := (({ dMem with claim1 := some 9, held := some { task := 12, startBy := 1000, level := 1, body := [] } } : MemDev).stateDue || (if 0 = 0 then { ({ dMem with claim1 := some 9, held := some { task := 12, startBy := 1000, level := 1, body := [] } } : MemDev) with claim0 := some (leAt (bellBody 1001 0x406 5 0 : List Nat) 0 4) } else { ({ dMem with claim1 := some 9, held := some { task := 12, startBy := 1000, level := 1, body := [] } } : MemDev) with claim1 := some (leAt (bellBody 1001 0x406 5 0 : List Nat) 0 4) } : MemDev).topClaim != ({ dMem with claim1 := some 9, held := some { task := 12, startBy := 1000, level := 1, body := [] } } : MemDev).topClaim), st := 2, bellAt := 100100500, clear0 := (if 0 = 0 then bitOf 0x406 0 else ({ dMem with claim1 := some 9, held := some { task := 12, startBy := 1000, level := 1, body := [] } } : MemDev).clear0), clear1 := (if 0 = 0 then ({ dMem with claim1 := some 9, held := some { task := 12, startBy := 1000, level := 1, body := [] } } : MemDev).clear1 else bitOf 0x406 0), acted := (if ({ dMem with claim1 := some 9, held := some { task := 12, startBy := 1000, level := 1, body := [] } } : MemDev).resync = true then some (leAt (bellBody 1001 0x406 5 0 : List Nat) 16 1) else ({ dMem with claim1 := some 9, held := some { task := 12, startBy := 1000, level := 1, body := [] } } : MemDev).acted), resync := false, stopAt := (if ({ dMem with claim1 := some 9, held := some { task := 12, startBy := 1000, level := 1, body := [] } } : MemDev).resync = true then 100100500 else ({ dMem with claim1 := some 9, held := some { task := 12, startBy := 1000, level := 1, body := [] } } : MemDev).stopAt), clearAt := (if bitOf 0x406 0 = true then joinK (w_memberBellwetherReceive_expired.prof ({ dMem with claim1 := some 9, held := some { task := 12, startBy := 1000, level := 1, body := [] } } : MemDev).slot.1) 1001 * 100000 else ({ dMem with claim1 := some 9, held := some { task := 12, startBy := 1000, level := 1, body := [] } } : MemDev).clearAt), stopped := (({ dMem with claim1 := some 9, held := some { task := 12, startBy := 1000, level := 1, body := [] } } : MemDev).stopped || !bitOf 0x406 0), win := (if bitOf 0x406 0 = true then ({ dMem with claim1 := some 9, held := some { task := 12, startBy := 1000, level := 1, body := [] } } : MemDev).win else none) }) ∧ (({ ({ dMem with claim1 := some 9, held := some { task := 12, startBy := 1000, level := 1, body := [] } }) with claim0 := some 4, at0 := 100100500, dseq := [], stateDue := false, st := 2, bellAt := 100100500, clear0 := false, resync := false, stopped := true, win := none } : MemDev).higher ≠ some 0) ∧ (({ dMem with claim1 := some 9, held := some { task := 12, startBy := 1000, level := 1, body := [] } } : MemDev).part0 = none) ∧ (({ dMem with claim1 := some 9, held := some { task := 12, startBy := 1000, level := 1, body := [] } } : MemDev).held = some ({ task := 12, startBy := 1000, level := 1, body := [] } : MemOrder)) ∧ (({ task := 12, startBy := 1000, level := 1, body := [] } : MemOrder).startBy ≤ ({ dMem with claim1 := some 9, held := some { task := 12, startBy := 1000, level := 1, body := [] } } : MemDev).sfn 1001)) ∧ (match exec (.memberBellwetherReceive 2 1001 0 100100500 (wBell 1001 0x406 5 0 : List Nat)) w_memberBellwetherReceive_expired with
    | .next t => decide ((t.memDev 2 = MemDev.doneRpt { ({ ({ dMem with claim1 := some 9, held := some { task := 12, startBy := 1000, level := 1, body := [] } }) with claim0 := some 4, at0 := 100100500, dseq := [], stateDue := false, st := 2, bellAt := 100100500, clear0 := false, resync := false, stopped := true, win := none } : MemDev) with held := none } 6 0 ({ task := 12, startBy := 1000, level := 1, body := [] } : MemOrder).task 0 0 0 0))
    | _ => false) = true := by decide +kernel

def w_memberBellwetherReceive_badhead : State := wMem dMem

theorem test_memberBellwetherReceive_badhead : ((w_memberBellwetherReceive_badhead.stopSafe = true) ∧ (w_memberBellwetherReceive_badhead.memDev 2 = (dMem : MemDev)) ∧ (bellSource (w_memberBellwetherReceive_badhead.prof (dMem : MemDev).slot.1) 1001 0 = some 0) ∧ ((dMem : MemDev).st ≠ 0) ∧ (leAt ([1, 0xE0, 0, 0] : List Nat) 0 1 % 16 ≠ 0 ∨ leAt ([1, 0xE0, 0, 0] : List Nat) 1 1 ≠ 0xE0 + 0)) ∧ (match exec (.memberBellwetherReceive 2 1001 0 100100500 ([1, 0xE0, 0, 0] : List Nat)) w_memberBellwetherReceive_badhead with
    | .next t => decide ((t.memDev 2 = { (dMem : MemDev) with malformed := (dMem : MemDev).malformed + 1 }))
    | _ => false) = true := by decide +kernel

def w_memberBellwetherReceive_baditems : State := wMem dMem

theorem test_memberBellwetherReceive_baditems : ((w_memberBellwetherReceive_baditems.stopSafe = true) ∧ (w_memberBellwetherReceive_baditems.memDev 2 = (dMem : MemDev)) ∧ (bellSource (w_memberBellwetherReceive_baditems.prof (dMem : MemDev).slot.1) 1001 0 = some 0) ∧ ((dMem : MemDev).st ≠ 0) ∧ (leAt (sealMpdu (List.replicate 16 7) (nwkNonce 1001 0 4 2 true 0xE0) 0 0xE0 (bellBody 1001 0x407 5 1 ++ [9]) 0 : List Nat) 0 1 % 16 = 0) ∧ (leAt (sealMpdu (List.replicate 16 7) (nwkNonce 1001 0 4 2 true 0xE0) 0 0xE0 (bellBody 1001 0x407 5 1 ++ [9]) 0 : List Nat) 1 1 = 0xE0 + 0) ∧ (openMpdu (dMem : MemDev).nwkKey (nwkNonce ((dMem : MemDev).sfn 1001) 0 (dMem : MemDev).slot.1 ivData true (0xE0 + 0)) (sealMpdu (List.replicate 16 7) (nwkNonce 1001 0 4 2 true 0xE0) 0 0xE0 (bellBody 1001 0x407 5 1 ++ [9]) 0 : List Nat) = some ([0, 0xE0, 0xFF, 0, 0] ++ bellBody 1001 0x407 5 1 ++ [9] : List Nat)) ∧ ((bellBody 1001 0x407 5 1 ++ [9] : List Nat) = ([0, 0xE0, 0xFF, 0, 0] ++ bellBody 1001 0x407 5 1 ++ [9] : List Nat).drop (if bitOf (leAt (sealMpdu (List.replicate 16 7) (nwkNonce 1001 0 4 2 true 0xE0) 0 0xE0 (bellBody 1001 0x407 5 1 ++ [9]) 0 : List Nat) 0 1) 4 then 6 else 5)) ∧ (parseItems (bellBody 1001 0x407 5 1 ++ [9] : List Nat).length ((bellBody 1001 0x407 5 1 ++ [9] : List Nat).drop 55) = none)) ∧ (match exec (.memberBellwetherReceive 2 1001 0 100100500 (sealMpdu (List.replicate 16 7) (nwkNonce 1001 0 4 2 true 0xE0) 0 0xE0 (bellBody 1001 0x407 5 1 ++ [9]) 0 : List Nat)) w_memberBellwetherReceive_baditems with
    | .next t => decide ((t.memDev 2 = { (dMem : MemDev) with malformed := (dMem : MemDev).malformed + 1 }))
    | _ => false) = true := by decide +kernel

def w_memberBellwetherReceive_reserved : State := wMem dMem

theorem test_memberBellwetherReceive_reserved : ((w_memberBellwetherReceive_reserved.stopSafe = true) ∧ (w_memberBellwetherReceive_reserved.memDev 2 = (dMem : MemDev)) ∧ (bellSource (w_memberBellwetherReceive_reserved.prof (dMem : MemDev).slot.1) 1001 0 = some 0) ∧ ((dMem : MemDev).st ≠ 0) ∧ (leAt (wBell 1001 0x1707 5 1 : List Nat) 0 1 % 16 = 0) ∧ (leAt (wBell 1001 0x1707 5 1 : List Nat) 1 1 = 0xE0 + 0) ∧ (openMpdu (dMem : MemDev).nwkKey (nwkNonce ((dMem : MemDev).sfn 1001) 0 (dMem : MemDev).slot.1 ivData true (0xE0 + 0)) (wBell 1001 0x1707 5 1 : List Nat) = some ([0, 0xE0, 0xFF, 0, 0] ++ bellBody 1001 0x1707 5 1 : List Nat)) ∧ ((bellBody 1001 0x1707 5 1 : List Nat) = ([0, 0xE0, 0xFF, 0, 0] ++ bellBody 1001 0x1707 5 1 : List Nat).drop (if bitOf (leAt (wBell 1001 0x1707 5 1 : List Nat) 0 1) 4 then 6 else 5)) ∧ (parseItems (bellBody 1001 0x1707 5 1 : List Nat).length ((bellBody 1001 0x1707 5 1 : List Nat).drop 55) = some ([] : List (Nat × List Nat))) ∧ (bellOk (w_memberBellwetherReceive_reserved.prof (dMem : MemDev).slot.1) (bellBody 1001 0x1707 5 1 : List Nat) ([] : List (Nat × List Nat)) = false)) ∧ (match exec (.memberBellwetherReceive 2 1001 0 100100500 (wBell 1001 0x1707 5 1 : List Nat)) w_memberBellwetherReceive_reserved with
    | .next t => decide ((t.memDev 2 = { (dMem : MemDev) with malformed := (dMem : MemDev).malformed + 1 }))
    | _ => false) = true := by decide +kernel

def w_memberBellwetherReceive_none : State := wMem dMem

theorem test_memberBellwetherReceive_none : ((w_memberBellwetherReceive_none.stopSafe = true) ∧ (w_memberBellwetherReceive_none.memDev 2 = (dMem : MemDev)) ∧ (bellSource (w_memberBellwetherReceive_none.prof (dMem : MemDev).slot.1) 1001 2 = none ∨ (dMem : MemDev).st = 0)) ∧ (match exec (.memberBellwetherReceive 2 1001 2 1 ([] : List Nat)) w_memberBellwetherReceive_none with
    | .next t => decide ((t = w_memberBellwetherReceive_none))
    | _ => false) = true := by decide +kernel

def w_memberBellwetherReceive_forged : State := wMem dMem

theorem test_memberBellwetherReceive_forged : ((w_memberBellwetherReceive_forged.stopSafe = true) ∧ (w_memberBellwetherReceive_forged.memDev 2 = (dMem : MemDev)) ∧ (bellSource (w_memberBellwetherReceive_forged.prof (dMem : MemDev).slot.1) 1001 0 = some 0) ∧ (leAt (wBell 1002 0x407 5 1 : List Nat) 0 1 % 16 = 0) ∧ (leAt (wBell 1002 0x407 5 1 : List Nat) 1 1 = 0xE0 + 0) ∧ (openMpdu (dMem : MemDev).nwkKey (nwkNonce ((dMem : MemDev).sfn 1001) 0 (dMem : MemDev).slot.1 ivData true (0xE0 + 0)) (wBell 1002 0x407 5 1 : List Nat) = none)) ∧ (match exec (.memberBellwetherReceive 2 1001 0 100100500 (wBell 1002 0x407 5 1 : List Nat)) w_memberBellwetherReceive_forged with
    | .next t => decide ((t = w_memberBellwetherReceive_forged))
    | _ => false) = true := by decide +kernel

def w_memberClaimLapse : State := wMem ({ dMem with claim1 := some 1 })

theorem test_memberClaimLapse : ((w_memberClaimLapse.stopSafe = true) ∧ (w_memberClaimLapse.memDev 2 = ({ dMem with claim1 := some 1 } : MemDev)) ∧ (0 ≤ 1) ∧ ((({ dMem with claim1 := some 1 } : MemDev).claim 0).isSome = true) ∧ ((if 0 = 0 then ({ dMem with claim1 := some 1 } : MemDev).at0 else ({ dMem with claim1 := some 1 } : MemDev).at1) + (if w_memberClaimLapse.prof ({ dMem with claim1 := some 1 } : MemDev).slot.1 = 0 then 3000000 else 30000000) ≤ 103000000) ∧ (({ dMem with claim0 := none, claim1 := some 1 } : MemDev) = (if 0 = 0 then { ({ dMem with claim1 := some 1 } : MemDev) with claim0 := none } else { ({ dMem with claim1 := some 1 } : MemDev) with claim1 := none }))) ∧ (match exec (.memberClaimLapse 2 0 103000000) w_memberClaimLapse with
    | .next t => decide ((t.memDev 2 = { ({ dMem with claim0 := none, claim1 := some 1 } : MemDev) with stateDue := (({ dMem with claim1 := some 1 } : MemDev).stateDue || (({ dMem with claim0 := none, claim1 := some 1 } : MemDev).topClaim != ({ dMem with claim1 := some 1 } : MemDev).topClaim && ({ dMem with claim0 := none, claim1 := some 1 } : MemDev).topClaim.isSome)) }))
    | _ => false) = true := by decide +kernel

def w_memberClaimLapse_none : State := wMem dMem

theorem test_memberClaimLapse_none : ((w_memberClaimLapse_none.stopSafe = true) ∧ (w_memberClaimLapse_none.memDev 2 = (dMem : MemDev)) ∧ (1 < 0 ∨ (dMem : MemDev).claim 0 = none ∨ 102000000 < (if 0 = 0 then (dMem : MemDev).at0 else (dMem : MemDev).at1) + (if w_memberClaimLapse_none.prof (dMem : MemDev).slot.1 = 0 then 3000000 else 30000000))) ∧ (match exec (.memberClaimLapse 2 0 102000000) w_memberClaimLapse_none with
    | .next t => decide ((t = w_memberClaimLapse_none))
    | _ => false) = true := by decide +kernel

def w_memberGuardCap : State := wMem dMem

theorem test_memberGuardCap : ((w_memberGuardCap.stopSafe = true) ∧ (w_memberGuardCap.memDev 2 = (dMem : MemDev)) ∧ ((dMem : MemDev).st = 2) ∧ (2000 * 10000000 ≤ 40 * 10000000 + 2 * leAt (dMem : MemDev).caps 12 1 * (9900000000 - (dMem : MemDev).bellAt))) ∧ (match exec (.memberGuardCap 2 9900000000) w_memberGuardCap with
    | .next t => decide ((t.memDev 2 = { (dMem : MemDev) with st := 3 }))
    | _ => false) = true := by decide +kernel

def w_memberGuardCap_none : State := wMem dMem

theorem test_memberGuardCap_none : ((w_memberGuardCap_none.stopSafe = true) ∧ (w_memberGuardCap_none.memDev 2 = (dMem : MemDev)) ∧ ((dMem : MemDev).st ≠ 2 ∨ 40 * 10000000 + 2 * leAt (dMem : MemDev).caps 12 1 * (100000000 - (dMem : MemDev).bellAt) < 2000 * 10000000)) ∧ (match exec (.memberGuardCap 2 100000000) w_memberGuardCap_none with
    | .next t => decide ((t = w_memberGuardCap_none))
    | _ => false) = true := by decide +kernel

def w_memberBeaconTimeout : State := wMem dMem

theorem test_memberBeaconTimeout : ((w_memberBeaconTimeout.stopSafe = true) ∧ (w_memberBeaconTimeout.memDev 2 = (dMem : MemDev)) ∧ (2 ≤ (dMem : MemDev).st) ∧ ((dMem : MemDev).stopped = false) ∧ ((dMem : MemDev).clearAt + (if w_memberBeaconTimeout.prof (dMem : MemDev).slot.1 = 0 then 305000 else 3020000) ≤ 100305000)) ∧ (match exec (.memberBeaconTimeout 2 100305000) w_memberBeaconTimeout with
    | .next t => decide ((t.memDev 2 = { (dMem : MemDev) with stopped := true, win := none }))
    | _ => false) = true := by decide +kernel

def w_memberBeaconTimeout_none : State := wMem dMem

theorem test_memberBeaconTimeout_none : ((w_memberBeaconTimeout_none.stopSafe = true) ∧ (w_memberBeaconTimeout_none.memDev 2 = (dMem : MemDev)) ∧ ((dMem : MemDev).st < 2 ∨ (dMem : MemDev).stopped = true ∨ 100304999 < (dMem : MemDev).clearAt + (if w_memberBeaconTimeout_none.prof (dMem : MemDev).slot.1 = 0 then 305000 else 3020000))) ∧ (match exec (.memberBeaconTimeout 2 100304999) w_memberBeaconTimeout_none with
    | .next t => decide ((t = w_memberBeaconTimeout_none))
    | _ => false) = true := by decide +kernel

def w_memberHopTargetMissed : State := wMem ({ dMem with hopAnn := some (3, 1001) })

theorem test_memberHopTargetMissed : ((w_memberHopTargetMissed.stopSafe = true) ∧ (w_memberHopTargetMissed.memDev 2 = ({ dMem with hopAnn := some (3, 1001) } : MemDev)) ∧ (({ dMem with hopAnn := some (3, 1001) } : MemDev).hopAnn = some (3, 1001)) ∧ (1001 ≤ ({ dMem with hopAnn := some (3, 1001) } : MemDev).sfn 1001) ∧ ((∀ x ∈ ({ dMem with hopAnn := some (3, 1001) } : MemDev).part0, x.ver ≠ 3) ∨ (∀ x ∈ ({ dMem with hopAnn := some (3, 1001) } : MemDev).part1, x.ver ≠ 3))) ∧ (match exec (.memberHopTargetMissed 2 1001) w_memberHopTargetMissed with
    | .next t => decide ((t.memDev 2 = MemDev.leave (({ dMem with hopAnn := some (3, 1001) } : MemDev))) ∧ ((t.memDev 2).st = 0))
    | _ => false) = true := by decide +kernel

def w_memberHopTargetMissed_early : State := wMem ({ dMem with hopAnn := some (3, 1001) })

theorem test_memberHopTargetMissed_early : ((w_memberHopTargetMissed_early.stopSafe = true) ∧ (w_memberHopTargetMissed_early.memDev 2 = ({ dMem with hopAnn := some (3, 1001) } : MemDev)) ∧ (({ dMem with hopAnn := some (3, 1001) } : MemDev).hopAnn = some (3, 1001)) ∧ (({ dMem with hopAnn := some (3, 1001) } : MemDev).sfn 1000 < 1001 ∨ (({ dMem with hopAnn := some (3, 1001) } : MemDev).part0 = some ({ ver := 3, target := 1001, lanes := 16, data := [] } : MemHopPart) ∧ ({ dMem with hopAnn := some (3, 1001) } : MemDev).part1 = some ({ ver := 3, target := 1001, lanes := 16, data := [] } : MemHopPart) ∧ ({ ver := 3, target := 1001, lanes := 16, data := [] } : MemHopPart).ver = 3 ∧ ({ ver := 3, target := 1001, lanes := 16, data := [] } : MemHopPart).ver = 3))) ∧ (match exec (.memberHopTargetMissed 2 1000) w_memberHopTargetMissed_early with
    | .next t => decide ((t = w_memberHopTargetMissed_early))
    | _ => false) = true := by decide +kernel

def w_memberHopTargetMissed_none : State := wMem dMem

theorem test_memberHopTargetMissed_none : ((w_memberHopTargetMissed_none.stopSafe = true) ∧ (w_memberHopTargetMissed_none.memDev 2 = (dMem : MemDev)) ∧ ((dMem : MemDev).hopAnn = none)) ∧ (match exec (.memberHopTargetMissed 2 1000) w_memberHopTargetMissed_none with
    | .next t => decide ((t = w_memberHopTargetMissed_none))
    | _ => false) = true := by decide +kernel

def w_memberSseqResync : State := wMem dMem

theorem test_memberSseqResync : ((w_memberSseqResync.stopSafe = true) ∧ (w_memberSseqResync.memDev 2 = (dMem : MemDev)) ∧ (2 ≤ (dMem : MemDev).st) ∧ ((dMem : MemDev).stopAt + 3000000 ≤ 3000000)) ∧ (match exec (.memberSseqResync 2 3000000) w_memberSseqResync with
    | .next t => decide ((t.memDev 2 = { (dMem : MemDev) with resync := true }))
    | _ => false) = true := by decide +kernel

def w_memberSseqResync_none : State := wMem dMem

theorem test_memberSseqResync_none : ((w_memberSseqResync_none.stopSafe = true) ∧ (w_memberSseqResync_none.memDev 2 = (dMem : MemDev)) ∧ ((dMem : MemDev).st < 2 ∨ 2999999 < (dMem : MemDev).stopAt + 3000000)) ∧ (match exec (.memberSseqResync 2 2999999) w_memberSseqResync_none with
    | .next t => decide ((t = w_memberSseqResync_none))
    | _ => false) = true := by decide +kernel

def w_memberOrderEnd : State := wMem ({ dMem with running := some { task := 12, startBy := 2000, level := 1, body := [] }, doneA := 4 })

theorem test_memberOrderEnd : ((w_memberOrderEnd.stopSafe = true) ∧ (w_memberOrderEnd.memDev 2 = ({ dMem with running := some { task := 12, startBy := 2000, level := 1, body := [] }, doneA := 4 } : MemDev)) ∧ (3 = 2 ∨ 3 = 3) ∧ (({ dMem with running := some { task := 12, startBy := 2000, level := 1, body := [] }, doneA := 4 } : MemDev).running = some ({ task := 12, startBy := 2000, level := 1, body := [] } : MemOrder)) ∧ (({ dMem with running := some { task := 12, startBy := 2000, level := 1, body := [] }, doneA := 4 } : MemDev).held = none)) ∧ (match exec (.memberOrderEnd 2 1001 3 5 77) w_memberOrderEnd with
    | .next t => decide ((t.memDev 2 = { ({ dMem with running := some { task := 12, startBy := 2000, level := 1, body := [] }, doneA := 4 } : MemDev) with running := none, doneA := ({ task := 12, startBy := 2000, level := 1, body := [] } : MemOrder).task, doneB := ({ dMem with running := some { task := 12, startBy := 2000, level := 1, body := [] }, doneA := 4 } : MemDev).doneA, reports := ({ dMem with running := some { task := 12, startBy := 2000, level := 1, body := [] }, doneA := 4 } : MemDev).reports ++ [([0x24, 25, 3, 3, 5 % 256] : List Nat) ++ leBytes 4 ({ task := 12, startBy := 2000, level := 1, body := [] } : MemOrder).task ++ leBytes 4 0 ++ leBytes 4 0 ++ leBytes 4 0 ++ leBytes 4 77 ++ [0, 0]] }))
    | _ => false) = true := by decide +kernel

def w_memberOrderEnd_next : State := wMem ({ dMem with running := some { task := 12, startBy := 2000, level := 1, body := [] }, held := some { task := 13, startBy := 2000, level := 1, body := [] } })

theorem test_memberOrderEnd_next : ((w_memberOrderEnd_next.stopSafe = true) ∧ (w_memberOrderEnd_next.memDev 2 = ({ dMem with running := some { task := 12, startBy := 2000, level := 1, body := [] }, held := some { task := 13, startBy := 2000, level := 1, body := [] } } : MemDev)) ∧ (3 = 2 ∨ 3 = 3) ∧ (({ dMem with running := some { task := 12, startBy := 2000, level := 1, body := [] }, held := some { task := 13, startBy := 2000, level := 1, body := [] } } : MemDev).running = some ({ task := 12, startBy := 2000, level := 1, body := [] } : MemOrder)) ∧ (({ dMem with running := some { task := 12, startBy := 2000, level := 1, body := [] }, held := some { task := 13, startBy := 2000, level := 1, body := [] } } : MemDev).held = some ({ task := 13, startBy := 2000, level := 1, body := [] } : MemOrder)) ∧ (({ dMem with running := some { task := 12, startBy := 2000, level := 1, body := [] }, held := some { task := 13, startBy := 2000, level := 1, body := [] } } : MemDev).sfn 1001 < ({ task := 13, startBy := 2000, level := 1, body := [] } : MemOrder).startBy ∧ ({ dMem with running := some { task := 12, startBy := 2000, level := 1, body := [] }, held := some { task := 13, startBy := 2000, level := 1, body := [] } } : MemDev).stopped = false ∧ ({ dMem with running := some { task := 12, startBy := 2000, level := 1, body := [] }, held := some { task := 13, startBy := 2000, level := 1, body := [] } } : MemDev).holding = false)) ∧ (match exec (.memberOrderEnd 2 1001 3 5 77) w_memberOrderEnd_next with
    | .next t => decide ((t.memDev 2 = { ({ dMem with running := some { task := 12, startBy := 2000, level := 1, body := [] }, held := some { task := 13, startBy := 2000, level := 1, body := [] } } : MemDev) with running := some ({ task := 13, startBy := 2000, level := 1, body := [] } : MemOrder), held := none, doneA := ({ task := 12, startBy := 2000, level := 1, body := [] } : MemOrder).task, doneB := ({ dMem with running := some { task := 12, startBy := 2000, level := 1, body := [] }, held := some { task := 13, startBy := 2000, level := 1, body := [] } } : MemDev).doneA, reports := ({ dMem with running := some { task := 12, startBy := 2000, level := 1, body := [] }, held := some { task := 13, startBy := 2000, level := 1, body := [] } } : MemDev).reports ++ [([0x24, 25, 3, 3, 5 % 256] : List Nat) ++ leBytes 4 ({ task := 12, startBy := 2000, level := 1, body := [] } : MemOrder).task ++ leBytes 4 ({ task := 13, startBy := 2000, level := 1, body := [] } : MemOrder).task ++ leBytes 4 0 ++ leBytes 4 0 ++ leBytes 4 77 ++ [0, 0]] }))
    | _ => false) = true := by decide +kernel

def w_memberOrderEnd_waits : State := wMem ({ dMem with stopped := true, running := some { task := 12, startBy := 2000, level := 1, body := [] }, held := some { task := 13, startBy := 2000, level := 1, body := [] } })

theorem test_memberOrderEnd_waits : ((w_memberOrderEnd_waits.stopSafe = true) ∧ (w_memberOrderEnd_waits.memDev 2 = ({ dMem with stopped := true, running := some { task := 12, startBy := 2000, level := 1, body := [] }, held := some { task := 13, startBy := 2000, level := 1, body := [] } } : MemDev)) ∧ (3 = 2 ∨ 3 = 3) ∧ (({ dMem with stopped := true, running := some { task := 12, startBy := 2000, level := 1, body := [] }, held := some { task := 13, startBy := 2000, level := 1, body := [] } } : MemDev).running = some ({ task := 12, startBy := 2000, level := 1, body := [] } : MemOrder)) ∧ (({ dMem with stopped := true, running := some { task := 12, startBy := 2000, level := 1, body := [] }, held := some { task := 13, startBy := 2000, level := 1, body := [] } } : MemDev).held = some ({ task := 13, startBy := 2000, level := 1, body := [] } : MemOrder)) ∧ (({ dMem with stopped := true, running := some { task := 12, startBy := 2000, level := 1, body := [] }, held := some { task := 13, startBy := 2000, level := 1, body := [] } } : MemDev).sfn 1001 < ({ task := 13, startBy := 2000, level := 1, body := [] } : MemOrder).startBy) ∧ (({ dMem with stopped := true, running := some { task := 12, startBy := 2000, level := 1, body := [] }, held := some { task := 13, startBy := 2000, level := 1, body := [] } } : MemDev).stopped = true ∨ ({ dMem with stopped := true, running := some { task := 12, startBy := 2000, level := 1, body := [] }, held := some { task := 13, startBy := 2000, level := 1, body := [] } } : MemDev).holding = true)) ∧ (match exec (.memberOrderEnd 2 1001 3 5 77) w_memberOrderEnd_waits with
    | .next t => decide ((t.memDev 2 = { ({ dMem with stopped := true, running := some { task := 12, startBy := 2000, level := 1, body := [] }, held := some { task := 13, startBy := 2000, level := 1, body := [] } } : MemDev) with running := none, doneA := ({ task := 12, startBy := 2000, level := 1, body := [] } : MemOrder).task, doneB := ({ dMem with stopped := true, running := some { task := 12, startBy := 2000, level := 1, body := [] }, held := some { task := 13, startBy := 2000, level := 1, body := [] } } : MemDev).doneA, reports := ({ dMem with stopped := true, running := some { task := 12, startBy := 2000, level := 1, body := [] }, held := some { task := 13, startBy := 2000, level := 1, body := [] } } : MemDev).reports ++ [([0x24, 25, 3, 3, 5 % 256] : List Nat) ++ leBytes 4 ({ task := 12, startBy := 2000, level := 1, body := [] } : MemOrder).task ++ leBytes 4 0 ++ leBytes 4 0 ++ leBytes 4 0 ++ leBytes 4 77 ++ [0, 0]] }))
    | _ => false) = true := by decide +kernel

def w_memberOrderEnd_lapsed : State := wMem ({ dMem with running := some { task := 12, startBy := 2000, level := 1, body := [] }, held := some { task := 13, startBy := 1000, level := 1, body := [] } })

theorem test_memberOrderEnd_lapsed : ((w_memberOrderEnd_lapsed.stopSafe = true) ∧ (w_memberOrderEnd_lapsed.memDev 2 = ({ dMem with running := some { task := 12, startBy := 2000, level := 1, body := [] }, held := some { task := 13, startBy := 1000, level := 1, body := [] } } : MemDev)) ∧ (3 = 2 ∨ 3 = 3) ∧ (({ dMem with running := some { task := 12, startBy := 2000, level := 1, body := [] }, held := some { task := 13, startBy := 1000, level := 1, body := [] } } : MemDev).running = some ({ task := 12, startBy := 2000, level := 1, body := [] } : MemOrder)) ∧ (({ dMem with running := some { task := 12, startBy := 2000, level := 1, body := [] }, held := some { task := 13, startBy := 1000, level := 1, body := [] } } : MemDev).held = some ({ task := 13, startBy := 1000, level := 1, body := [] } : MemOrder)) ∧ (({ task := 13, startBy := 1000, level := 1, body := [] } : MemOrder).startBy ≤ ({ dMem with running := some { task := 12, startBy := 2000, level := 1, body := [] }, held := some { task := 13, startBy := 1000, level := 1, body := [] } } : MemDev).sfn 1001)) ∧ (match exec (.memberOrderEnd 2 1001 3 5 77) w_memberOrderEnd_lapsed with
    | .next t => decide ((t.memDev 2 = { ({ dMem with running := some { task := 12, startBy := 2000, level := 1, body := [] }, held := some { task := 13, startBy := 1000, level := 1, body := [] } } : MemDev) with running := none, held := none, doneA := ({ task := 12, startBy := 2000, level := 1, body := [] } : MemOrder).task, doneB := ({ dMem with running := some { task := 12, startBy := 2000, level := 1, body := [] }, held := some { task := 13, startBy := 1000, level := 1, body := [] } } : MemDev).doneA, reports := ({ dMem with running := some { task := 12, startBy := 2000, level := 1, body := [] }, held := some { task := 13, startBy := 1000, level := 1, body := [] } } : MemDev).reports ++ [([0x24, 25, 3, 3, 5 % 256] : List Nat) ++ leBytes 4 ({ task := 12, startBy := 2000, level := 1, body := [] } : MemOrder).task ++ leBytes 4 0 ++ leBytes 4 0 ++ leBytes 4 0 ++ leBytes 4 77 ++ [0, 0]] ++ [([0x24, 25, 3, 6, 0] : List Nat) ++ leBytes 4 ({ task := 13, startBy := 1000, level := 1, body := [] } : MemOrder).task ++ leBytes 4 0 ++ leBytes 4 0 ++ leBytes 4 0 ++ leBytes 4 0 ++ [0, 0]] }))
    | _ => false) = true := by decide +kernel

def w_memberOrderEnd_none : State := wMem dMem

theorem test_memberOrderEnd_none : ((w_memberOrderEnd_none.stopSafe = true) ∧ (w_memberOrderEnd_none.memDev 2 = (dMem : MemDev)) ∧ ((2 ≠ 2 ∧ 2 ≠ 3) ∨ (dMem : MemDev).running = none)) ∧ (match exec (.memberOrderEnd 2 1001 2 1 1) w_memberOrderEnd_none with
    | .next t => decide ((t = w_memberOrderEnd_none))
    | _ => false) = true := by decide +kernel

def w_memberWindowExhausted : State := wMem ({ dMem with win := some { base := 100000000, pts := [1], slot := 0, ended := false, home := false, hold := false } })

theorem test_memberWindowExhausted : ((w_memberWindowExhausted.stopSafe = true) ∧ (w_memberWindowExhausted.memDev 2 = ({ dMem with win := some { base := 100000000, pts := [1], slot := 0, ended := false, home := false, hold := false } } : MemDev)) ∧ (({ dMem with win := some { base := 100000000, pts := [1], slot := 0, ended := false, home := false, hold := false } } : MemDev).win = some ({ base := 100000000, pts := [1], slot := 0, ended := false, home := false, hold := false } : MemWindow)) ∧ (({ base := 100000000, pts := [1], slot := 0, ended := false, home := false, hold := false } : MemWindow).base + 1000000 ≤ 101000000)) ∧ (match exec (.memberWindowExhausted 2 101000000) w_memberWindowExhausted with
    | .next t => decide ((t.memDev 2 = { ({ dMem with win := some { base := 100000000, pts := [1], slot := 0, ended := false, home := false, hold := false } } : MemDev) with win := none }))
    | _ => false) = true := by decide +kernel

def w_memberWindowExhausted_none : State := wMem ({ dMem with win := some { base := 100000000, pts := [1], slot := 0, ended := false, home := false, hold := false } })

theorem test_memberWindowExhausted_none : ((w_memberWindowExhausted_none.stopSafe = true) ∧ (w_memberWindowExhausted_none.memDev 2 = ({ dMem with win := some { base := 100000000, pts := [1], slot := 0, ended := false, home := false, hold := false } } : MemDev)) ∧ (({ dMem with win := some { base := 100000000, pts := [1], slot := 0, ended := false, home := false, hold := false } } : MemDev).win = none ∨ (({ dMem with win := some { base := 100000000, pts := [1], slot := 0, ended := false, home := false, hold := false } } : MemDev).win.any (fun (w : MemWindow) => decide (100999999 < w.base + 1000000))) = true)) ∧ (match exec (.memberWindowExhausted 2 100999999) w_memberWindowExhausted_none with
    | .next t => decide ((t = w_memberWindowExhausted_none))
    | _ => false) = true := by decide +kernel

def w_memberStopFrameReceive : State := wMem dMem

theorem test_memberStopFrameReceive : ((w_memberStopFrameReceive.stopSafe = true) ∧ (w_memberStopFrameReceive.memDev 2 = (dMem : MemDev)) ∧ (2 ≤ (dMem : MemDev).st) ∧ (0 < 2) ∧ ((wStopFrame 1 3 255 : List Nat).length = 11) ∧ (ccmMic (dMem : MemDev).nwkKey (nwkNonce ((dMem : MemDev).sfn 1001) 7 (dMem : MemDev).slot.1 0 true (0xE0 + 0)) ((wStopFrame 1 3 255 : List Nat).take 3) [] = (wStopFrame 1 3 255 : List Nat).drop 3) ∧ (isDst (leAt (wStopFrame 1 3 255 : List Nat) 2 1) = true) ∧ ((dMem : MemDev).accepts (leAt (wStopFrame 1 3 255 : List Nat) 2 1) = true) ∧ (leAt (wStopFrame 1 3 255 : List Nat) 0 1 % 16 = 1)) ∧ (match exec (.memberStopFrameReceive 2 1001 7 0 100117500 (wStopFrame 1 3 255 : List Nat)) w_memberStopFrameReceive with
    | .next t => decide ((t.memDev 2 = { (dMem : MemDev) with stopAt := 100117500, resync := false, stopped := true, win := none }))
    | _ => false) = true := by decide +kernel

def w_memberStopFrameReceive_hold : State := wMem ({ dMem with acted := some 3 })

theorem test_memberStopFrameReceive_hold : ((w_memberStopFrameReceive_hold.stopSafe = true) ∧ (w_memberStopFrameReceive_hold.memDev 2 = ({ dMem with acted := some 3 } : MemDev)) ∧ (2 ≤ ({ dMem with acted := some 3 } : MemDev).st) ∧ (0 < 2) ∧ ((wStopFrame 2 4 9 : List Nat).length = 11) ∧ (ccmMic ({ dMem with acted := some 3 } : MemDev).nwkKey (nwkNonce (({ dMem with acted := some 3 } : MemDev).sfn 1001) 7 ({ dMem with acted := some 3 } : MemDev).slot.1 0 true (0xE0 + 0)) ((wStopFrame 2 4 9 : List Nat).take 3) [] = (wStopFrame 2 4 9 : List Nat).drop 3) ∧ (isDst (leAt (wStopFrame 2 4 9 : List Nat) 2 1) = true) ∧ (({ dMem with acted := some 3 } : MemDev).accepts (leAt (wStopFrame 2 4 9 : List Nat) 2 1) = true) ∧ (leAt (wStopFrame 2 4 9 : List Nat) 0 1 % 16 = 2) ∧ (({ dMem with acted := some 3 } : MemDev).ahead (leAt (wStopFrame 2 4 9 : List Nat) 1 1) = true) ∧ (({ dMem with acted := some 3 } : MemDev).stopped = false)) ∧ (match exec (.memberStopFrameReceive 2 1001 7 0 100117500 (wStopFrame 2 4 9 : List Nat)) w_memberStopFrameReceive_hold with
    | .next t => decide ((t.memDev 2 = { ({ dMem with acted := some 3 } : MemDev) with stopAt := 100117500, resync := false, win := none, holding := true, acted := some (leAt (wStopFrame 2 4 9 : List Nat) 1 1) }))
    | _ => false) = true := by decide +kernel

def w_memberStopFrameReceive_holdstopped : State := wMem ({ dMem with acted := some 3, stopped := true })

theorem test_memberStopFrameReceive_holdstopped : ((w_memberStopFrameReceive_holdstopped.stopSafe = true) ∧ (w_memberStopFrameReceive_holdstopped.memDev 2 = ({ dMem with acted := some 3, stopped := true } : MemDev)) ∧ (2 ≤ ({ dMem with acted := some 3, stopped := true } : MemDev).st) ∧ (0 < 2) ∧ ((wStopFrame 2 4 9 : List Nat).length = 11) ∧ (ccmMic ({ dMem with acted := some 3, stopped := true } : MemDev).nwkKey (nwkNonce (({ dMem with acted := some 3, stopped := true } : MemDev).sfn 1001) 7 ({ dMem with acted := some 3, stopped := true } : MemDev).slot.1 0 true (0xE0 + 0)) ((wStopFrame 2 4 9 : List Nat).take 3) [] = (wStopFrame 2 4 9 : List Nat).drop 3) ∧ (isDst (leAt (wStopFrame 2 4 9 : List Nat) 2 1) = true) ∧ (({ dMem with acted := some 3, stopped := true } : MemDev).accepts (leAt (wStopFrame 2 4 9 : List Nat) 2 1) = true) ∧ (leAt (wStopFrame 2 4 9 : List Nat) 0 1 % 16 = 2) ∧ (({ dMem with acted := some 3, stopped := true } : MemDev).ahead (leAt (wStopFrame 2 4 9 : List Nat) 1 1) = true) ∧ (({ dMem with acted := some 3, stopped := true } : MemDev).stopped = true)) ∧ (match exec (.memberStopFrameReceive 2 1001 7 0 100117500 (wStopFrame 2 4 9 : List Nat)) w_memberStopFrameReceive_holdstopped with
    | .next t => decide ((t.memDev 2 = { ({ dMem with acted := some 3, stopped := true } : MemDev) with stopAt := 100117500, resync := false, acted := some (leAt (wStopFrame 2 4 9 : List Nat) 1 1) }))
    | _ => false) = true := by decide +kernel

def w_memberStopFrameReceive_resume : State := wMem ({ dMem with stopped := true, acted := some 250, clear0 := true })

theorem test_memberStopFrameReceive_resume : ((w_memberStopFrameReceive_resume.stopSafe = true) ∧ (w_memberStopFrameReceive_resume.memDev 2 = ({ dMem with stopped := true, acted := some 250, clear0 := true } : MemDev)) ∧ (2 ≤ ({ dMem with stopped := true, acted := some 250, clear0 := true } : MemDev).st) ∧ (0 < 2) ∧ ((wStopFrame 3 4 9 : List Nat).length = 11) ∧ (ccmMic ({ dMem with stopped := true, acted := some 250, clear0 := true } : MemDev).nwkKey (nwkNonce (({ dMem with stopped := true, acted := some 250, clear0 := true } : MemDev).sfn 1001) 7 ({ dMem with stopped := true, acted := some 250, clear0 := true } : MemDev).slot.1 0 true (0xE0 + 0)) ((wStopFrame 3 4 9 : List Nat).take 3) [] = (wStopFrame 3 4 9 : List Nat).drop 3) ∧ (isDst (leAt (wStopFrame 3 4 9 : List Nat) 2 1) = true) ∧ (({ dMem with stopped := true, acted := some 250, clear0 := true } : MemDev).accepts (leAt (wStopFrame 3 4 9 : List Nat) 2 1) = true) ∧ (leAt (wStopFrame 3 4 9 : List Nat) 0 1 % 16 = 3) ∧ (({ dMem with stopped := true, acted := some 250, clear0 := true } : MemDev).ahead (leAt (wStopFrame 3 4 9 : List Nat) 1 1) = true) ∧ (({ dMem with stopped := true, acted := some 250, clear0 := true } : MemDev).topClear = true)) ∧ (match exec (.memberStopFrameReceive 2 1001 7 0 100117500 (wStopFrame 3 4 9 : List Nat)) w_memberStopFrameReceive_resume with
    | .next t => decide ((t.memDev 2 = { ({ dMem with stopped := true, acted := some 250, clear0 := true } : MemDev) with stopAt := 100117500, resync := false, stopped := false, holding := false, acted := some (leAt (wStopFrame 3 4 9 : List Nat) 1 1) }))
    | _ => false) = true := by decide +kernel

def w_memberStopFrameReceive_old : State := wMem ({ dMem with stopped := true, acted := some 4, clear0 := true })

theorem test_memberStopFrameReceive_old : ((w_memberStopFrameReceive_old.stopSafe = true) ∧ (w_memberStopFrameReceive_old.memDev 2 = ({ dMem with stopped := true, acted := some 4, clear0 := true } : MemDev)) ∧ (2 ≤ ({ dMem with stopped := true, acted := some 4, clear0 := true } : MemDev).st) ∧ (0 < 2) ∧ ((wStopFrame 3 4 9 : List Nat).length = 11) ∧ (ccmMic ({ dMem with stopped := true, acted := some 4, clear0 := true } : MemDev).nwkKey (nwkNonce (({ dMem with stopped := true, acted := some 4, clear0 := true } : MemDev).sfn 1001) 7 ({ dMem with stopped := true, acted := some 4, clear0 := true } : MemDev).slot.1 0 true (0xE0 + 0)) ((wStopFrame 3 4 9 : List Nat).take 3) [] = (wStopFrame 3 4 9 : List Nat).drop 3) ∧ (isDst (leAt (wStopFrame 3 4 9 : List Nat) 2 1) = true) ∧ (({ dMem with stopped := true, acted := some 4, clear0 := true } : MemDev).accepts (leAt (wStopFrame 3 4 9 : List Nat) 2 1) = true) ∧ ((leAt (wStopFrame 3 4 9 : List Nat) 0 1 % 16 = 2 ∧ ({ dMem with stopped := true, acted := some 4, clear0 := true } : MemDev).ahead (leAt (wStopFrame 3 4 9 : List Nat) 1 1) = false) ∨ (leAt (wStopFrame 3 4 9 : List Nat) 0 1 % 16 = 3 ∧ (({ dMem with stopped := true, acted := some 4, clear0 := true } : MemDev).ahead (leAt (wStopFrame 3 4 9 : List Nat) 1 1) = false ∨ ({ dMem with stopped := true, acted := some 4, clear0 := true } : MemDev).topClear = false)))) ∧ (match exec (.memberStopFrameReceive 2 1001 7 0 100117500 (wStopFrame 3 4 9 : List Nat)) w_memberStopFrameReceive_old with
    | .next t => decide ((t.memDev 2 = { ({ dMem with stopped := true, acted := some 4, clear0 := true } : MemDev) with stopAt := 100117500, resync := false }))
    | _ => false) = true := by decide +kernel

def w_memberStopFrameReceive_others : State := wMem dMem

theorem test_memberStopFrameReceive_others : ((w_memberStopFrameReceive_others.stopSafe = true) ∧ (w_memberStopFrameReceive_others.memDev 2 = (dMem : MemDev)) ∧ (2 ≤ (dMem : MemDev).st) ∧ (0 < 2) ∧ ((wStopFrame 1 3 10 : List Nat).length = 11) ∧ (ccmMic (dMem : MemDev).nwkKey (nwkNonce ((dMem : MemDev).sfn 1001) 7 (dMem : MemDev).slot.1 0 true (0xE0 + 0)) ((wStopFrame 1 3 10 : List Nat).take 3) [] = (wStopFrame 1 3 10 : List Nat).drop 3) ∧ (1 ≤ leAt (wStopFrame 1 3 10 : List Nat) 0 1 % 16 ∧ leAt (wStopFrame 1 3 10 : List Nat) 0 1 % 16 ≤ 3) ∧ (isDst (leAt (wStopFrame 1 3 10 : List Nat) 2 1) = true) ∧ ((dMem : MemDev).accepts (leAt (wStopFrame 1 3 10 : List Nat) 2 1) = false)) ∧ (match exec (.memberStopFrameReceive 2 1001 7 0 100117500 (wStopFrame 1 3 10 : List Nat)) w_memberStopFrameReceive_others with
    | .next t => decide ((t.memDev 2 = { (dMem : MemDev) with stopAt := 100117500, resync := false }))
    | _ => false) = true := by decide +kernel

def w_memberStopFrameReceive_malformed : State := wMem dMem

theorem test_memberStopFrameReceive_malformed : ((w_memberStopFrameReceive_malformed.stopSafe = true) ∧ (w_memberStopFrameReceive_malformed.memDev 2 = (dMem : MemDev)) ∧ (2 ≤ (dMem : MemDev).st) ∧ (0 < 2) ∧ ((wStopFrame 5 3 255 : List Nat).length = 11) ∧ (ccmMic (dMem : MemDev).nwkKey (nwkNonce ((dMem : MemDev).sfn 1001) 7 (dMem : MemDev).slot.1 0 true (0xE0 + 0)) ((wStopFrame 5 3 255 : List Nat).take 3) [] = (wStopFrame 5 3 255 : List Nat).drop 3) ∧ (leAt (wStopFrame 5 3 255 : List Nat) 0 1 % 16 = 0 ∨ 3 < leAt (wStopFrame 5 3 255 : List Nat) 0 1 % 16 ∨ isDst (leAt (wStopFrame 5 3 255 : List Nat) 2 1) = false)) ∧ (match exec (.memberStopFrameReceive 2 1001 7 0 100117500 (wStopFrame 5 3 255 : List Nat)) w_memberStopFrameReceive_malformed with
    | .next t => decide ((t.memDev 2 = { (dMem : MemDev) with malformed := (dMem : MemDev).malformed + 1 }))
    | _ => false) = true := by decide +kernel

def w_memberStopFrameReceive_none : State := wMem dMem

theorem test_memberStopFrameReceive_none : ((w_memberStopFrameReceive_none.stopSafe = true) ∧ (w_memberStopFrameReceive_none.memDev 2 = (dMem : MemDev)) ∧ ((dMem : MemDev).st < 2 ∨ 2 ≤ 0 ∨ (wStopFrame 1 3 255 : List Nat).length ≠ 11 ∨ ccmMic (dMem : MemDev).nwkKey (nwkNonce ((dMem : MemDev).sfn 1002) 7 (dMem : MemDev).slot.1 0 true (0xE0 + 0)) ((wStopFrame 1 3 255 : List Nat).take 3) [] ≠ (wStopFrame 1 3 255 : List Nat).drop 3)) ∧ (match exec (.memberStopFrameReceive 2 1002 7 0 100117500 (wStopFrame 1 3 255 : List Nat)) w_memberStopFrameReceive_none with
    | .next t => decide ((t = w_memberStopFrameReceive_none))
    | _ => false) = true := by decide +kernel

def w_memberDockConfirm : State := wMem ({ dMem with dockCount := 255, win := some { base := 100000000, pts := [1], slot := 0, ended := false, home := true, hold := false } })

theorem test_memberDockConfirm : ((w_memberDockConfirm.stopSafe = true) ∧ (w_memberDockConfirm.memDev 2 = ({ dMem with dockCount := 255, win := some { base := 100000000, pts := [1], slot := 0, ended := false, home := true, hold := false } } : MemDev)) ∧ (true ≠ ({ dMem with dockCount := 255, win := some { base := 100000000, pts := [1], slot := 0, ended := false, home := true, hold := false } } : MemDev).dock)) ∧ (match exec (.memberDockConfirm 2 true 4000) w_memberDockConfirm with
    | .next t => decide ((t.memDev 2 = { ({ dMem with dockCount := 255, win := some { base := 100000000, pts := [1], slot := 0, ended := false, home := true, hold := false } } : MemDev) with dock := true, dockCount := (({ dMem with dockCount := 255, win := some { base := 100000000, pts := [1], slot := 0, ended := false, home := true, hold := false } } : MemDev).dockCount + 1) % 256, win := (if true = true ∧ ({ dMem with dockCount := 255, win := some { base := 100000000, pts := [1], slot := 0, ended := false, home := true, hold := false } } : MemDev).win.any (fun (w : MemWindow) => w.home) = true then none else ({ dMem with dockCount := 255, win := some { base := 100000000, pts := [1], slot := 0, ended := false, home := true, hold := false } } : MemDev).win), reports := ({ dMem with dockCount := 255, win := some { base := 100000000, pts := [1], slot := 0, ended := false, home := true, hold := false } } : MemDev).reports ++ [([0x24, 9, 4, b2n true, (({ dMem with dockCount := 255, win := some { base := 100000000, pts := [1], slot := 0, ended := false, home := true, hold := false } } : MemDev).dockCount + 1) % 256] : List Nat) ++ leBytes 4 4000 ++ [0, 0]] }))
    | _ => false) = true := by decide +kernel

def w_memberDockConfirm_none : State := wMem dMem

theorem test_memberDockConfirm_none : ((w_memberDockConfirm_none.stopSafe = true) ∧ (w_memberDockConfirm_none.memDev 2 = (dMem : MemDev)) ∧ (false = (dMem : MemDev).dock)) ∧ (match exec (.memberDockConfirm 2 false 4000) w_memberDockConfirm_none with
    | .next t => decide ((t = w_memberDockConfirm_none))
    | _ => false) = true := by decide +kernel

def w_memberDigestReceive_lower : State := wMem ({ dMem with claim1 := some 9 })

theorem test_memberDigestReceive_lower : ((w_memberDigestReceive_lower.stopSafe = true) ∧ (w_memberDigestReceive_lower.memDev 2 = ({ dMem with claim1 := some 9 } : MemDev)) ∧ (slotCut (w_memberDigestReceive_lower.prof ({ dMem with claim1 := some 9 } : MemDev).slot.1) (if w_memberDigestReceive_lower.prof ({ dMem with claim1 := some 9 } : MemDev).slot.1 = 0 then 38 else 10 * (1001 % 10) + 38) = some 1) ∧ (2 ≤ ({ dMem with claim1 := some 9 } : MemDev).st) ∧ (leAt (wDigest 1001 [1, 5, 16, 0, 0, 0, 0] : List Nat) 0 1 % 16 = 1) ∧ (leAt (wDigest 1001 [1, 5, 16, 0, 0, 0, 0] : List Nat) 1 1 = 0xE0 + 0) ∧ (0 < 2) ∧ (openMpdu ({ dMem with claim1 := some 9 } : MemDev).nwkKey (nwkNonce (({ dMem with claim1 := some 9 } : MemDev).sfn 1001) 38 ({ dMem with claim1 := some 9 } : MemDev).slot.1 ivData true (0xE0 + 0)) (wDigest 1001 [1, 5, 16, 0, 0, 0, 0] : List Nat) = some ([1, 0xE0, 0xFF, 0, 0] ++ leBytes 4 2 ++ [1] ++ [1, 5, 16, 0, 0, 0, 0] : List Nat)) ∧ ((leBytes 4 2 ++ [1] ++ [1, 5, 16, 0, 0, 0, 0] : List Nat) = ([1, 0xE0, 0xFF, 0, 0] ++ leBytes 4 2 ++ [1] ++ [1, 5, 16, 0, 0, 0, 0] : List Nat).drop (if bitOf (leAt (wDigest 1001 [1, 5, 16, 0, 0, 0, 0] : List Nat) 0 1) 4 then 6 else 5)) ∧ (parseItems (leBytes 4 2 ++ [1] ++ [1, 5, 16, 0, 0, 0, 0] : List Nat).length ((leBytes 4 2 ++ [1] ++ [1, 5, 16, 0, 0, 0, 0] : List Nat).drop 5) = some ([(1, [16, 0, 0, 0, 0])] : List (Nat × List Nat))) ∧ (leAt (leBytes 4 2 ++ [1] ++ [1, 5, 16, 0, 0, 0, 0] : List Nat) 4 1 = 1) ∧ (([(1, [16, 0, 0, 0, 0])] : List (Nat × List Nat)).all (downItemOk (w_memberDigestReceive_lower.prof ({ dMem with claim1 := some 9 } : MemDev).slot.1) 1) = true) ∧ (({ ({ dMem with claim1 := some 9 }) with at0 := 100195000 } : MemDev) = { ({ dMem with claim1 := some 9 } : MemDev) with claim0 := (if 0 = 0 then some (leAt (leBytes 4 2 ++ [1] ++ [1, 5, 16, 0, 0, 0, 0] : List Nat) 0 4) else ({ dMem with claim1 := some 9 } : MemDev).claim0), at0 := (if 0 = 0 then 100195000 else ({ dMem with claim1 := some 9 } : MemDev).at0), claim1 := (if 0 = 0 then ({ dMem with claim1 := some 9 } : MemDev).claim1 else some (leAt (leBytes 4 2 ++ [1] ++ [1, 5, 16, 0, 0, 0, 0] : List Nat) 0 4)), at1 := (if 0 = 0 then ({ dMem with claim1 := some 9 } : MemDev).at1 else 100195000), dseq := (if ({ dMem with claim1 := some 9 } : MemDev).claim 0 = some (leAt (leBytes 4 2 ++ [1] ++ [1, 5, 16, 0, 0, 0, 0] : List Nat) 0 4) then ({ dMem with claim1 := some 9 } : MemDev).dseq else ({ dMem with claim1 := some 9 } : MemDev).dseq.filter (fun (x : (Nat × Nat) × Nat) => x.1.1 != 0)), stateDue := (({ dMem with claim1 := some 9 } : MemDev).stateDue || (if 0 = 0 then { ({ dMem with claim1 := some 9 } : MemDev) with claim0 := some (leAt (leBytes 4 2 ++ [1] ++ [1, 5, 16, 0, 0, 0, 0] : List Nat) 0 4) } else { ({ dMem with claim1 := some 9 } : MemDev) with claim1 := some (leAt (leBytes 4 2 ++ [1] ++ [1, 5, 16, 0, 0, 0, 0] : List Nat) 0 4) } : MemDev).topClaim != ({ dMem with claim1 := some 9 } : MemDev).topClaim) }) ∧ (({ ({ dMem with claim1 := some 9 }) with at0 := 100195000 } : MemDev).higher ≠ some 0) ∧ (({ dMem with claim1 := some 9 } : MemDev).part0 = none) ∧ (({ dMem with claim1 := some 9 } : MemDev).held = none)) ∧ (match exec (.memberDigestReceive 2 1001 38 100195000 (wDigest 1001 [1, 5, 16, 0, 0, 0, 0] : List Nat)) w_memberDigestReceive_lower with
    | .next t => decide ((t.memDev 2 = ({ ({ dMem with claim1 := some 9 }) with at0 := 100195000 } : MemDev)))
    | _ => false) = true := by decide +kernel

def w_memberDigestReceive_ack : State := wMem ({ dMem with flight := some (4, [[0x24, 1, 5]], 1001) })

theorem test_memberDigestReceive_ack : ((w_memberDigestReceive_ack.stopSafe = true) ∧ (w_memberDigestReceive_ack.memDev 2 = ({ dMem with flight := some (4, [[0x24, 1, 5]], 1001) } : MemDev)) ∧ (slotCut (w_memberDigestReceive_ack.prof ({ dMem with flight := some (4, [[0x24, 1, 5]], 1001) } : MemDev).slot.1) (if w_memberDigestReceive_ack.prof ({ dMem with flight := some (4, [[0x24, 1, 5]], 1001) } : MemDev).slot.1 = 0 then 38 else 10 * (1001 % 10) + 38) = some 1) ∧ (2 ≤ ({ dMem with flight := some (4, [[0x24, 1, 5]], 1001) } : MemDev).st) ∧ (leAt (wDigest 1001 [1, 5, 16, 0, 0, 0, 0] : List Nat) 0 1 % 16 = 1) ∧ (leAt (wDigest 1001 [1, 5, 16, 0, 0, 0, 0] : List Nat) 1 1 = 0xE0 + 0) ∧ (0 < 2) ∧ (openMpdu ({ dMem with flight := some (4, [[0x24, 1, 5]], 1001) } : MemDev).nwkKey (nwkNonce (({ dMem with flight := some (4, [[0x24, 1, 5]], 1001) } : MemDev).sfn 1001) 38 ({ dMem with flight := some (4, [[0x24, 1, 5]], 1001) } : MemDev).slot.1 ivData true (0xE0 + 0)) (wDigest 1001 [1, 5, 16, 0, 0, 0, 0] : List Nat) = some ([1, 0xE0, 0xFF, 0, 0] ++ leBytes 4 2 ++ [1] ++ [1, 5, 16, 0, 0, 0, 0] : List Nat)) ∧ ((leBytes 4 2 ++ [1] ++ [1, 5, 16, 0, 0, 0, 0] : List Nat) = ([1, 0xE0, 0xFF, 0, 0] ++ leBytes 4 2 ++ [1] ++ [1, 5, 16, 0, 0, 0, 0] : List Nat).drop (if bitOf (leAt (wDigest 1001 [1, 5, 16, 0, 0, 0, 0] : List Nat) 0 1) 4 then 6 else 5)) ∧ (parseItems (leBytes 4 2 ++ [1] ++ [1, 5, 16, 0, 0, 0, 0] : List Nat).length ((leBytes 4 2 ++ [1] ++ [1, 5, 16, 0, 0, 0, 0] : List Nat).drop 5) = some ([(1, [16, 0, 0, 0, 0])] : List (Nat × List Nat))) ∧ (leAt (leBytes 4 2 ++ [1] ++ [1, 5, 16, 0, 0, 0, 0] : List Nat) 4 1 = 1) ∧ (([(1, [16, 0, 0, 0, 0])] : List (Nat × List Nat)).all (downItemOk (w_memberDigestReceive_ack.prof ({ dMem with flight := some (4, [[0x24, 1, 5]], 1001) } : MemDev).slot.1) 1) = true) ∧ (({ ({ dMem with flight := some (4, [[0x24, 1, 5]], 1001) }) with at0 := 100195000 } : MemDev) = { ({ dMem with flight := some (4, [[0x24, 1, 5]], 1001) } : MemDev) with claim0 := (if 0 = 0 then some (leAt (leBytes 4 2 ++ [1] ++ [1, 5, 16, 0, 0, 0, 0] : List Nat) 0 4) else ({ dMem with flight := some (4, [[0x24, 1, 5]], 1001) } : MemDev).claim0), at0 := (if 0 = 0 then 100195000 else ({ dMem with flight := some (4, [[0x24, 1, 5]], 1001) } : MemDev).at0), claim1 := (if 0 = 0 then ({ dMem with flight := some (4, [[0x24, 1, 5]], 1001) } : MemDev).claim1 else some (leAt (leBytes 4 2 ++ [1] ++ [1, 5, 16, 0, 0, 0, 0] : List Nat) 0 4)), at1 := (if 0 = 0 then ({ dMem with flight := some (4, [[0x24, 1, 5]], 1001) } : MemDev).at1 else 100195000), dseq := (if ({ dMem with flight := some (4, [[0x24, 1, 5]], 1001) } : MemDev).claim 0 = some (leAt (leBytes 4 2 ++ [1] ++ [1, 5, 16, 0, 0, 0, 0] : List Nat) 0 4) then ({ dMem with flight := some (4, [[0x24, 1, 5]], 1001) } : MemDev).dseq else ({ dMem with flight := some (4, [[0x24, 1, 5]], 1001) } : MemDev).dseq.filter (fun (x : (Nat × Nat) × Nat) => x.1.1 != 0)), stateDue := (({ dMem with flight := some (4, [[0x24, 1, 5]], 1001) } : MemDev).stateDue || (if 0 = 0 then { ({ dMem with flight := some (4, [[0x24, 1, 5]], 1001) } : MemDev) with claim0 := some (leAt (leBytes 4 2 ++ [1] ++ [1, 5, 16, 0, 0, 0, 0] : List Nat) 0 4) } else { ({ dMem with flight := some (4, [[0x24, 1, 5]], 1001) } : MemDev) with claim1 := some (leAt (leBytes 4 2 ++ [1] ++ [1, 5, 16, 0, 0, 0, 0] : List Nat) 0 4) } : MemDev).topClaim != ({ dMem with flight := some (4, [[0x24, 1, 5]], 1001) } : MemDev).topClaim) }) ∧ (({ ({ dMem with flight := some (4, [[0x24, 1, 5]], 1001) }) with at0 := 100195000 } : MemDev).higher = some 0) ∧ (([(1, [16, 0, 0, 0, 0])] : List (Nat × List Nat)) = [(1, ([16, 0, 0, 0, 0] : List Nat))]) ∧ (({ dMem with flight := some (4, [[0x24, 1, 5]], 1001) } : MemDev).flight = some ((4, [[0x24, 1, 5]], 1001) : Nat × List (List Nat) × Nat)) ∧ ((if w_memberDigestReceive_ack.prof ({ dMem with flight := some (4, [[0x24, 1, 5]], 1001) } : MemDev).slot.1 = 0 then ((4, [[0x24, 1, 5]], 1001) : Nat × List (List Nat) × Nat).2.2 = 1001 else ((4, [[0x24, 1, 5]], 1001) : Nat × List (List Nat) × Nat).2.2 / 10 = 1001 / 10)) ∧ ((if w_memberDigestReceive_ack.prof ({ dMem with flight := some (4, [[0x24, 1, 5]], 1001) } : MemDev).slot.1 = 0 then bitOf (leAt ([16, 0, 0, 0, 0] : List Nat) 0 5) (({ dMem with flight := some (4, [[0x24, 1, 5]], 1001) } : MemDev).slot.2 - 3) else bitOf (leAt ([16, 0, 0, 0, 0] : List Nat) 0 1) (groupSlot 1 ({ dMem with flight := some (4, [[0x24, 1, 5]], 1001) } : MemDev).slot.2 / 3 - 1)) = true) ∧ (({ dMem with flight := some (4, [[0x24, 1, 5]], 1001) } : MemDev).part0 = none) ∧ (({ dMem with flight := some (4, [[0x24, 1, 5]], 1001) } : MemDev).held = none)) ∧ (match exec (.memberDigestReceive 2 1001 38 100195000 (wDigest 1001 [1, 5, 16, 0, 0, 0, 0] : List Nat)) w_memberDigestReceive_ack with
    | .next t => decide ((t.memDev 2 = { ({ ({ dMem with flight := some (4, [[0x24, 1, 5]], 1001) }) with at0 := 100195000 } : MemDev) with flight := none }))
    | _ => false) = true := by decide +kernel

def w_memberDigestReceive_window : State := wMem ({ dMem with trk0 := { verts := [(0, 0, 0), (1000, 0, 0)], closed := true } })

theorem test_memberDigestReceive_window : ((w_memberDigestReceive_window.stopSafe = true) ∧ (w_memberDigestReceive_window.memDev 2 = ({ dMem with trk0 := { verts := [(0, 0, 0), (1000, 0, 0)], closed := true } } : MemDev)) ∧ (slotCut (w_memberDigestReceive_window.prof ({ dMem with trk0 := { verts := [(0, 0, 0), (1000, 0, 0)], closed := true } } : MemDev).slot.1) (if w_memberDigestReceive_window.prof ({ dMem with trk0 := { verts := [(0, 0, 0), (1000, 0, 0)], closed := true } } : MemDev).slot.1 = 0 then 38 else 10 * (1001 % 10) + 38) = some 1) ∧ (2 ≤ ({ dMem with trk0 := { verts := [(0, 0, 0), (1000, 0, 0)], closed := true } } : MemDev).st) ∧ (leAt (wDigest 1001 [3, 17, 9, 15, 1, 0, 0xF0, 0xFF, 0xFF, 0xFF, 255, 1, 2, 3, 4, 5, 6, 7, 8] : List Nat) 0 1 % 16 = 1) ∧ (leAt (wDigest 1001 [3, 17, 9, 15, 1, 0, 0xF0, 0xFF, 0xFF, 0xFF, 255, 1, 2, 3, 4, 5, 6, 7, 8] : List Nat) 1 1 = 0xE0 + 0) ∧ (0 < 2) ∧ (openMpdu ({ dMem with trk0 := { verts := [(0, 0, 0), (1000, 0, 0)], closed := true } } : MemDev).nwkKey (nwkNonce (({ dMem with trk0 := { verts := [(0, 0, 0), (1000, 0, 0)], closed := true } } : MemDev).sfn 1001) 38 ({ dMem with trk0 := { verts := [(0, 0, 0), (1000, 0, 0)], closed := true } } : MemDev).slot.1 ivData true (0xE0 + 0)) (wDigest 1001 [3, 17, 9, 15, 1, 0, 0xF0, 0xFF, 0xFF, 0xFF, 255, 1, 2, 3, 4, 5, 6, 7, 8] : List Nat) = some ([1, 0xE0, 0xFF, 0, 0] ++ leBytes 4 2 ++ [1] ++ [3, 17, 9, 15, 1, 0, 0xF0, 0xFF, 0xFF, 0xFF, 255, 1, 2, 3, 4, 5, 6, 7, 8] : List Nat)) ∧ ((leBytes 4 2 ++ [1] ++ [3, 17, 9, 15, 1, 0, 0xF0, 0xFF, 0xFF, 0xFF, 255, 1, 2, 3, 4, 5, 6, 7, 8] : List Nat) = ([1, 0xE0, 0xFF, 0, 0] ++ leBytes 4 2 ++ [1] ++ [3, 17, 9, 15, 1, 0, 0xF0, 0xFF, 0xFF, 0xFF, 255, 1, 2, 3, 4, 5, 6, 7, 8] : List Nat).drop (if bitOf (leAt (wDigest 1001 [3, 17, 9, 15, 1, 0, 0xF0, 0xFF, 0xFF, 0xFF, 255, 1, 2, 3, 4, 5, 6, 7, 8] : List Nat) 0 1) 4 then 6 else 5)) ∧ (parseItems (leBytes 4 2 ++ [1] ++ [3, 17, 9, 15, 1, 0, 0xF0, 0xFF, 0xFF, 0xFF, 255, 1, 2, 3, 4, 5, 6, 7, 8] : List Nat).length ((leBytes 4 2 ++ [1] ++ [3, 17, 9, 15, 1, 0, 0xF0, 0xFF, 0xFF, 0xFF, 255, 1, 2, 3, 4, 5, 6, 7, 8] : List Nat).drop 5) = some ([(3, [9, 15, 1, 0, 0xF0, 0xFF, 0xFF, 0xFF, 255, 1, 2, 3, 4, 5, 6, 7, 8])] : List (Nat × List Nat))) ∧ (leAt (leBytes 4 2 ++ [1] ++ [3, 17, 9, 15, 1, 0, 0xF0, 0xFF, 0xFF, 0xFF, 255, 1, 2, 3, 4, 5, 6, 7, 8] : List Nat) 4 1 = 1) ∧ (([(3, [9, 15, 1, 0, 0xF0, 0xFF, 0xFF, 0xFF, 255, 1, 2, 3, 4, 5, 6, 7, 8])] : List (Nat × List Nat)).all (downItemOk (w_memberDigestReceive_window.prof ({ dMem with trk0 := { verts := [(0, 0, 0), (1000, 0, 0)], closed := true } } : MemDev).slot.1) 1) = true) ∧ (({ ({ dMem with trk0 := { verts := [(0, 0, 0), (1000, 0, 0)], closed := true } }) with at0 := 100195000 } : MemDev) = { ({ dMem with trk0 := { verts := [(0, 0, 0), (1000, 0, 0)], closed := true } } : MemDev) with claim0 := (if 0 = 0 then some (leAt (leBytes 4 2 ++ [1] ++ [3, 17, 9, 15, 1, 0, 0xF0, 0xFF, 0xFF, 0xFF, 255, 1, 2, 3, 4, 5, 6, 7, 8] : List Nat) 0 4) else ({ dMem with trk0 := { verts := [(0, 0, 0), (1000, 0, 0)], closed := true } } : MemDev).claim0), at0 := (if 0 = 0 then 100195000 else ({ dMem with trk0 := { verts := [(0, 0, 0), (1000, 0, 0)], closed := true } } : MemDev).at0), claim1 := (if 0 = 0 then ({ dMem with trk0 := { verts := [(0, 0, 0), (1000, 0, 0)], closed := true } } : MemDev).claim1 else some (leAt (leBytes 4 2 ++ [1] ++ [3, 17, 9, 15, 1, 0, 0xF0, 0xFF, 0xFF, 0xFF, 255, 1, 2, 3, 4, 5, 6, 7, 8] : List Nat) 0 4)), at1 := (if 0 = 0 then ({ dMem with trk0 := { verts := [(0, 0, 0), (1000, 0, 0)], closed := true } } : MemDev).at1 else 100195000), dseq := (if ({ dMem with trk0 := { verts := [(0, 0, 0), (1000, 0, 0)], closed := true } } : MemDev).claim 0 = some (leAt (leBytes 4 2 ++ [1] ++ [3, 17, 9, 15, 1, 0, 0xF0, 0xFF, 0xFF, 0xFF, 255, 1, 2, 3, 4, 5, 6, 7, 8] : List Nat) 0 4) then ({ dMem with trk0 := { verts := [(0, 0, 0), (1000, 0, 0)], closed := true } } : MemDev).dseq else ({ dMem with trk0 := { verts := [(0, 0, 0), (1000, 0, 0)], closed := true } } : MemDev).dseq.filter (fun (x : (Nat × Nat) × Nat) => x.1.1 != 0)), stateDue := (({ dMem with trk0 := { verts := [(0, 0, 0), (1000, 0, 0)], closed := true } } : MemDev).stateDue || (if 0 = 0 then { ({ dMem with trk0 := { verts := [(0, 0, 0), (1000, 0, 0)], closed := true } } : MemDev) with claim0 := some (leAt (leBytes 4 2 ++ [1] ++ [3, 17, 9, 15, 1, 0, 0xF0, 0xFF, 0xFF, 0xFF, 255, 1, 2, 3, 4, 5, 6, 7, 8] : List Nat) 0 4) } else { ({ dMem with trk0 := { verts := [(0, 0, 0), (1000, 0, 0)], closed := true } } : MemDev) with claim1 := some (leAt (leBytes 4 2 ++ [1] ++ [3, 17, 9, 15, 1, 0, 0xF0, 0xFF, 0xFF, 0xFF, 255, 1, 2, 3, 4, 5, 6, 7, 8] : List Nat) 0 4) } : MemDev).topClaim != ({ dMem with trk0 := { verts := [(0, 0, 0), (1000, 0, 0)], closed := true } } : MemDev).topClaim) }) ∧ (({ ({ dMem with trk0 := { verts := [(0, 0, 0), (1000, 0, 0)], closed := true } }) with at0 := 100195000 } : MemDev).higher = some 0) ∧ (([(3, [9, 15, 1, 0, 0xF0, 0xFF, 0xFF, 0xFF, 255, 1, 2, 3, 4, 5, 6, 7, 8])] : List (Nat × List Nat)) = [(3, ([9, 15, 1, 0, 0xF0, 0xFF, 0xFF, 0xFF, 255, 1, 2, 3, 4, 5, 6, 7, 8] : List Nat))]) ∧ (((parseWins ([9, 15, 1, 0, 0xF0, 0xFF, 0xFF, 0xFF, 255, 1, 2, 3, 4, 5, 6, 7, 8] : List Nat).length ([9, 15, 1, 0, 0xF0, 0xFF, 0xFF, 0xFF, 255, 1, 2, 3, 4, 5, 6, 7, 8] : List Nat)).getD []).find? (fun (y : Nat × List Nat) => y.1 == ({ dMem with trk0 := { verts := [(0, 0, 0), (1000, 0, 0)], closed := true } } : MemDev).addr) = some ((9, [1, 0, 0xF0, 0xFF, 0xFF, 0xFF, 255, 1, 2, 3, 4, 5, 6, 7, 8]) : Nat × List Nat)) ∧ (({ dMem with trk0 := { verts := [(0, 0, 0), (1000, 0, 0)], closed := true } } : MemDev).stopped = false) ∧ (({ dMem with trk0 := { verts := [(0, 0, 0), (1000, 0, 0)], closed := true } } : MemDev).holding = false) ∧ ((({ dMem with trk0 := { verts := [(0, 0, 0), (1000, 0, 0)], closed := true } } : MemDev).trk (leAt ((9, [1, 0, 0xF0, 0xFF, 0xFF, 0xFF, 255, 1, 2, 3, 4, 5, 6, 7, 8]) : Nat × List Nat).2 1 1 % 2)).closed = true) ∧ (({ dMem with trk0 := { verts := [(0, 0, 0), (1000, 0, 0)], closed := true } } : MemDev).part0 = none) ∧ (({ dMem with trk0 := { verts := [(0, 0, 0), (1000, 0, 0)], closed := true } } : MemDev).held = none)) ∧ (match exec (.memberDigestReceive 2 1001 38 100195000 (wDigest 1001 [3, 17, 9, 15, 1, 0, 0xF0, 0xFF, 0xFF, 0xFF, 255, 1, 2, 3, 4, 5, 6, 7, 8] : List Nat)) w_memberDigestReceive_window with
    | .next t => decide ((t.memDev 2 = { ({ ({ dMem with trk0 := { verts := [(0, 0, 0), (1000, 0, 0)], closed := true } }) with at0 := 100195000 } : MemDev) with win := some { base := (if w_memberDigestReceive_window.prof ({ dMem with trk0 := { verts := [(0, 0, 0), (1000, 0, 0)], closed := true } } : MemDev).slot.1 = 0 then 1001 else 1001 - 1) * 100000, pts := winPoints (winQuantum (leAt ((9, [1, 0, 0xF0, 0xFF, 0xFF, 0xFF, 255, 1, 2, 3, 4, 5, 6, 7, 8]) : Nat × List Nat).2 0 1)) (sgn 32 (leAt ((9, [1, 0, 0xF0, 0xFF, 0xFF, 0xFF, 255, 1, 2, 3, 4, 5, 6, 7, 8]) : Nat × List Nat).2 2 4)) ((((9, [1, 0, 0xF0, 0xFF, 0xFF, 0xFF, 255, 1, 2, 3, 4, 5, 6, 7, 8]) : Nat × List Nat).2.drop 6).take 9), slot := leAt ((9, [1, 0, 0xF0, 0xFF, 0xFF, 0xFF, 255, 1, 2, 3, 4, 5, 6, 7, 8]) : Nat × List Nat).2 1 1 % 2, ended := bitOf (leAt ((9, [1, 0, 0xF0, 0xFF, 0xFF, 0xFF, 255, 1, 2, 3, 4, 5, 6, 7, 8]) : Nat × List Nat).2 0 1) 2, home := bitOf (leAt ((9, [1, 0, 0xF0, 0xFF, 0xFF, 0xFF, 255, 1, 2, 3, 4, 5, 6, 7, 8]) : Nat × List Nat).2 0 1) 3, hold := bitOf (leAt ((9, [1, 0, 0xF0, 0xFF, 0xFF, 0xFF, 255, 1, 2, 3, 4, 5, 6, 7, 8]) : Nat × List Nat).2 0 1) 4 } }))
    | _ => false) = true := by decide +kernel

def w_memberDigestReceive_unfollowed : State := wMem dMem

theorem test_memberDigestReceive_unfollowed : ((w_memberDigestReceive_unfollowed.stopSafe = true) ∧ (w_memberDigestReceive_unfollowed.memDev 2 = (dMem : MemDev)) ∧ (slotCut (w_memberDigestReceive_unfollowed.prof (dMem : MemDev).slot.1) (if w_memberDigestReceive_unfollowed.prof (dMem : MemDev).slot.1 = 0 then 38 else 10 * (1001 % 10) + 38) = some 1) ∧ (2 ≤ (dMem : MemDev).st) ∧ (leAt (wDigest 1001 [3, 17, 9, 15, 1, 0, 0xF0, 0xFF, 0xFF, 0xFF, 255, 1, 2, 3, 4, 5, 6, 7, 8] : List Nat) 0 1 % 16 = 1) ∧ (leAt (wDigest 1001 [3, 17, 9, 15, 1, 0, 0xF0, 0xFF, 0xFF, 0xFF, 255, 1, 2, 3, 4, 5, 6, 7, 8] : List Nat) 1 1 = 0xE0 + 0) ∧ (0 < 2) ∧ (openMpdu (dMem : MemDev).nwkKey (nwkNonce ((dMem : MemDev).sfn 1001) 38 (dMem : MemDev).slot.1 ivData true (0xE0 + 0)) (wDigest 1001 [3, 17, 9, 15, 1, 0, 0xF0, 0xFF, 0xFF, 0xFF, 255, 1, 2, 3, 4, 5, 6, 7, 8] : List Nat) = some ([1, 0xE0, 0xFF, 0, 0] ++ leBytes 4 2 ++ [1] ++ [3, 17, 9, 15, 1, 0, 0xF0, 0xFF, 0xFF, 0xFF, 255, 1, 2, 3, 4, 5, 6, 7, 8] : List Nat)) ∧ ((leBytes 4 2 ++ [1] ++ [3, 17, 9, 15, 1, 0, 0xF0, 0xFF, 0xFF, 0xFF, 255, 1, 2, 3, 4, 5, 6, 7, 8] : List Nat) = ([1, 0xE0, 0xFF, 0, 0] ++ leBytes 4 2 ++ [1] ++ [3, 17, 9, 15, 1, 0, 0xF0, 0xFF, 0xFF, 0xFF, 255, 1, 2, 3, 4, 5, 6, 7, 8] : List Nat).drop (if bitOf (leAt (wDigest 1001 [3, 17, 9, 15, 1, 0, 0xF0, 0xFF, 0xFF, 0xFF, 255, 1, 2, 3, 4, 5, 6, 7, 8] : List Nat) 0 1) 4 then 6 else 5)) ∧ (parseItems (leBytes 4 2 ++ [1] ++ [3, 17, 9, 15, 1, 0, 0xF0, 0xFF, 0xFF, 0xFF, 255, 1, 2, 3, 4, 5, 6, 7, 8] : List Nat).length ((leBytes 4 2 ++ [1] ++ [3, 17, 9, 15, 1, 0, 0xF0, 0xFF, 0xFF, 0xFF, 255, 1, 2, 3, 4, 5, 6, 7, 8] : List Nat).drop 5) = some ([(3, [9, 15, 1, 0, 0xF0, 0xFF, 0xFF, 0xFF, 255, 1, 2, 3, 4, 5, 6, 7, 8])] : List (Nat × List Nat))) ∧ (leAt (leBytes 4 2 ++ [1] ++ [3, 17, 9, 15, 1, 0, 0xF0, 0xFF, 0xFF, 0xFF, 255, 1, 2, 3, 4, 5, 6, 7, 8] : List Nat) 4 1 = 1) ∧ (([(3, [9, 15, 1, 0, 0xF0, 0xFF, 0xFF, 0xFF, 255, 1, 2, 3, 4, 5, 6, 7, 8])] : List (Nat × List Nat)).all (downItemOk (w_memberDigestReceive_unfollowed.prof (dMem : MemDev).slot.1) 1) = true) ∧ (({ (dMem) with at0 := 100195000 } : MemDev) = { (dMem : MemDev) with claim0 := (if 0 = 0 then some (leAt (leBytes 4 2 ++ [1] ++ [3, 17, 9, 15, 1, 0, 0xF0, 0xFF, 0xFF, 0xFF, 255, 1, 2, 3, 4, 5, 6, 7, 8] : List Nat) 0 4) else (dMem : MemDev).claim0), at0 := (if 0 = 0 then 100195000 else (dMem : MemDev).at0), claim1 := (if 0 = 0 then (dMem : MemDev).claim1 else some (leAt (leBytes 4 2 ++ [1] ++ [3, 17, 9, 15, 1, 0, 0xF0, 0xFF, 0xFF, 0xFF, 255, 1, 2, 3, 4, 5, 6, 7, 8] : List Nat) 0 4)), at1 := (if 0 = 0 then (dMem : MemDev).at1 else 100195000), dseq := (if (dMem : MemDev).claim 0 = some (leAt (leBytes 4 2 ++ [1] ++ [3, 17, 9, 15, 1, 0, 0xF0, 0xFF, 0xFF, 0xFF, 255, 1, 2, 3, 4, 5, 6, 7, 8] : List Nat) 0 4) then (dMem : MemDev).dseq else (dMem : MemDev).dseq.filter (fun (x : (Nat × Nat) × Nat) => x.1.1 != 0)), stateDue := ((dMem : MemDev).stateDue || (if 0 = 0 then { (dMem : MemDev) with claim0 := some (leAt (leBytes 4 2 ++ [1] ++ [3, 17, 9, 15, 1, 0, 0xF0, 0xFF, 0xFF, 0xFF, 255, 1, 2, 3, 4, 5, 6, 7, 8] : List Nat) 0 4) } else { (dMem : MemDev) with claim1 := some (leAt (leBytes 4 2 ++ [1] ++ [3, 17, 9, 15, 1, 0, 0xF0, 0xFF, 0xFF, 0xFF, 255, 1, 2, 3, 4, 5, 6, 7, 8] : List Nat) 0 4) } : MemDev).topClaim != (dMem : MemDev).topClaim) }) ∧ (({ (dMem) with at0 := 100195000 } : MemDev).higher = some 0) ∧ (([(3, [9, 15, 1, 0, 0xF0, 0xFF, 0xFF, 0xFF, 255, 1, 2, 3, 4, 5, 6, 7, 8])] : List (Nat × List Nat)) = [(3, ([9, 15, 1, 0, 0xF0, 0xFF, 0xFF, 0xFF, 255, 1, 2, 3, 4, 5, 6, 7, 8] : List Nat))]) ∧ (((parseWins ([9, 15, 1, 0, 0xF0, 0xFF, 0xFF, 0xFF, 255, 1, 2, 3, 4, 5, 6, 7, 8] : List Nat).length ([9, 15, 1, 0, 0xF0, 0xFF, 0xFF, 0xFF, 255, 1, 2, 3, 4, 5, 6, 7, 8] : List Nat)).getD []).find? (fun (y : Nat × List Nat) => y.1 == (dMem : MemDev).addr) = some ((9, [1, 0, 0xF0, 0xFF, 0xFF, 0xFF, 255, 1, 2, 3, 4, 5, 6, 7, 8]) : Nat × List Nat)) ∧ ((dMem : MemDev).stopped = true ∨ (dMem : MemDev).holding = true ∨ ((dMem : MemDev).trk (leAt ((9, [1, 0, 0xF0, 0xFF, 0xFF, 0xFF, 255, 1, 2, 3, 4, 5, 6, 7, 8]) : Nat × List Nat).2 1 1 % 2)).closed = false) ∧ ((dMem : MemDev).part0 = none) ∧ ((dMem : MemDev).held = none)) ∧ (match exec (.memberDigestReceive 2 1001 38 100195000 (wDigest 1001 [3, 17, 9, 15, 1, 0, 0xF0, 0xFF, 0xFF, 0xFF, 255, 1, 2, 3, 4, 5, 6, 7, 8] : List Nat)) w_memberDigestReceive_unfollowed with
    | .next t => decide ((t.memDev 2 = ({ (dMem) with at0 := 100195000 } : MemDev)))
    | _ => false) = true := by decide +kernel

def w_memberDigestReceive_sol : State := wMem dMem

theorem test_memberDigestReceive_sol : ((w_memberDigestReceive_sol.stopSafe = true) ∧ (w_memberDigestReceive_sol.memDev 2 = (dMem : MemDev)) ∧ (slotCut (w_memberDigestReceive_sol.prof (dMem : MemDev).slot.1) (if w_memberDigestReceive_sol.prof (dMem : MemDev).slot.1 = 0 then 38 else 10 * (1001 % 10) + 38) = some 1) ∧ (2 ≤ (dMem : MemDev).st) ∧ (leAt (wDigest 1001 [2, 12, 9, 1, 2, 0, 0, 0, 0, 0, 0, 0, 0, 0] : List Nat) 0 1 % 16 = 1) ∧ (leAt (wDigest 1001 [2, 12, 9, 1, 2, 0, 0, 0, 0, 0, 0, 0, 0, 0] : List Nat) 1 1 = 0xE0 + 0) ∧ (0 < 2) ∧ (openMpdu (dMem : MemDev).nwkKey (nwkNonce ((dMem : MemDev).sfn 1001) 38 (dMem : MemDev).slot.1 ivData true (0xE0 + 0)) (wDigest 1001 [2, 12, 9, 1, 2, 0, 0, 0, 0, 0, 0, 0, 0, 0] : List Nat) = some ([1, 0xE0, 0xFF, 0, 0] ++ leBytes 4 2 ++ [1] ++ [2, 12, 9, 1, 2, 0, 0, 0, 0, 0, 0, 0, 0, 0] : List Nat)) ∧ ((leBytes 4 2 ++ [1] ++ [2, 12, 9, 1, 2, 0, 0, 0, 0, 0, 0, 0, 0, 0] : List Nat) = ([1, 0xE0, 0xFF, 0, 0] ++ leBytes 4 2 ++ [1] ++ [2, 12, 9, 1, 2, 0, 0, 0, 0, 0, 0, 0, 0, 0] : List Nat).drop (if bitOf (leAt (wDigest 1001 [2, 12, 9, 1, 2, 0, 0, 0, 0, 0, 0, 0, 0, 0] : List Nat) 0 1) 4 then 6 else 5)) ∧ (parseItems (leBytes 4 2 ++ [1] ++ [2, 12, 9, 1, 2, 0, 0, 0, 0, 0, 0, 0, 0, 0] : List Nat).length ((leBytes 4 2 ++ [1] ++ [2, 12, 9, 1, 2, 0, 0, 0, 0, 0, 0, 0, 0, 0] : List Nat).drop 5) = some ([(2, [9, 1, 2, 0, 0, 0, 0, 0, 0, 0, 0, 0])] : List (Nat × List Nat))) ∧ (leAt (leBytes 4 2 ++ [1] ++ [2, 12, 9, 1, 2, 0, 0, 0, 0, 0, 0, 0, 0, 0] : List Nat) 4 1 = 1) ∧ (([(2, [9, 1, 2, 0, 0, 0, 0, 0, 0, 0, 0, 0])] : List (Nat × List Nat)).all (downItemOk (w_memberDigestReceive_sol.prof (dMem : MemDev).slot.1) 1) = true) ∧ (({ (dMem) with at0 := 100195000 } : MemDev) = { (dMem : MemDev) with claim0 := (if 0 = 0 then some (leAt (leBytes 4 2 ++ [1] ++ [2, 12, 9, 1, 2, 0, 0, 0, 0, 0, 0, 0, 0, 0] : List Nat) 0 4) else (dMem : MemDev).claim0), at0 := (if 0 = 0 then 100195000 else (dMem : MemDev).at0), claim1 := (if 0 = 0 then (dMem : MemDev).claim1 else some (leAt (leBytes 4 2 ++ [1] ++ [2, 12, 9, 1, 2, 0, 0, 0, 0, 0, 0, 0, 0, 0] : List Nat) 0 4)), at1 := (if 0 = 0 then (dMem : MemDev).at1 else 100195000), dseq := (if (dMem : MemDev).claim 0 = some (leAt (leBytes 4 2 ++ [1] ++ [2, 12, 9, 1, 2, 0, 0, 0, 0, 0, 0, 0, 0, 0] : List Nat) 0 4) then (dMem : MemDev).dseq else (dMem : MemDev).dseq.filter (fun (x : (Nat × Nat) × Nat) => x.1.1 != 0)), stateDue := ((dMem : MemDev).stateDue || (if 0 = 0 then { (dMem : MemDev) with claim0 := some (leAt (leBytes 4 2 ++ [1] ++ [2, 12, 9, 1, 2, 0, 0, 0, 0, 0, 0, 0, 0, 0] : List Nat) 0 4) } else { (dMem : MemDev) with claim1 := some (leAt (leBytes 4 2 ++ [1] ++ [2, 12, 9, 1, 2, 0, 0, 0, 0, 0, 0, 0, 0, 0] : List Nat) 0 4) } : MemDev).topClaim != (dMem : MemDev).topClaim) }) ∧ (({ (dMem) with at0 := 100195000 } : MemDev).higher = some 0) ∧ (([(2, [9, 1, 2, 0, 0, 0, 0, 0, 0, 0, 0, 0])] : List (Nat × List Nat)) = [(2, ([9, 1, 2, 0, 0, 0, 0, 0, 0, 0, 0, 0] : List Nat))]) ∧ (((List.range (([9, 1, 2, 0, 0, 0, 0, 0, 0, 0, 0, 0] : List Nat).length / 12)).map (fun j => (([9, 1, 2, 0, 0, 0, 0, 0, 0, 0, 0, 0] : List Nat).drop (12 * j)).take 12)).find? (fun y => leAt y 0 1 == (dMem : MemDev).addr) = some ([9, 1, 2, 0, 0, 0, 0, 0, 0, 0, 0, 0] : List Nat)) ∧ ((dMem : MemDev).part0 = none) ∧ ((dMem : MemDev).held = none)) ∧ (match exec (.memberDigestReceive 2 1001 38 100195000 (wDigest 1001 [2, 12, 9, 1, 2, 0, 0, 0, 0, 0, 0, 0, 0, 0] : List Nat)) w_memberDigestReceive_sol with
    | .next t => decide ((t.memDev 2 = { ({ (dMem) with at0 := 100195000 } : MemDev) with sol := ([9, 1, 2, 0, 0, 0, 0, 0, 0, 0, 0, 0] : List Nat) }))
    | _ => false) = true := by decide +kernel

def w_memberDigestReceive_flocks : State := wMem dMem

theorem test_memberDigestReceive_flocks : ((w_memberDigestReceive_flocks.stopSafe = true) ∧ (w_memberDigestReceive_flocks.memDev 2 = (dMem : MemDev)) ∧ (slotCut (w_memberDigestReceive_flocks.prof (dMem : MemDev).slot.1) (if w_memberDigestReceive_flocks.prof (dMem : MemDev).slot.1 = 0 then 38 else 10 * (1001 % 10) + 38) = some 1) ∧ (2 ≤ (dMem : MemDev).st) ∧ (leAt (wDigest 1001 [4, 6, 9, 5, 0, 2, 3, 0] : List Nat) 0 1 % 16 = 1) ∧ (leAt (wDigest 1001 [4, 6, 9, 5, 0, 2, 3, 0] : List Nat) 1 1 = 0xE0 + 0) ∧ (0 < 2) ∧ (openMpdu (dMem : MemDev).nwkKey (nwkNonce ((dMem : MemDev).sfn 1001) 38 (dMem : MemDev).slot.1 ivData true (0xE0 + 0)) (wDigest 1001 [4, 6, 9, 5, 0, 2, 3, 0] : List Nat) = some ([1, 0xE0, 0xFF, 0, 0] ++ leBytes 4 2 ++ [1] ++ [4, 6, 9, 5, 0, 2, 3, 0] : List Nat)) ∧ ((leBytes 4 2 ++ [1] ++ [4, 6, 9, 5, 0, 2, 3, 0] : List Nat) = ([1, 0xE0, 0xFF, 0, 0] ++ leBytes 4 2 ++ [1] ++ [4, 6, 9, 5, 0, 2, 3, 0] : List Nat).drop (if bitOf (leAt (wDigest 1001 [4, 6, 9, 5, 0, 2, 3, 0] : List Nat) 0 1) 4 then 6 else 5)) ∧ (parseItems (leBytes 4 2 ++ [1] ++ [4, 6, 9, 5, 0, 2, 3, 0] : List Nat).length ((leBytes 4 2 ++ [1] ++ [4, 6, 9, 5, 0, 2, 3, 0] : List Nat).drop 5) = some ([(4, [9, 5, 0, 2, 3, 0])] : List (Nat × List Nat))) ∧ (leAt (leBytes 4 2 ++ [1] ++ [4, 6, 9, 5, 0, 2, 3, 0] : List Nat) 4 1 = 1) ∧ (([(4, [9, 5, 0, 2, 3, 0])] : List (Nat × List Nat)).all (downItemOk (w_memberDigestReceive_flocks.prof (dMem : MemDev).slot.1) 1) = true) ∧ (({ (dMem) with at0 := 100195000 } : MemDev) = { (dMem : MemDev) with claim0 := (if 0 = 0 then some (leAt (leBytes 4 2 ++ [1] ++ [4, 6, 9, 5, 0, 2, 3, 0] : List Nat) 0 4) else (dMem : MemDev).claim0), at0 := (if 0 = 0 then 100195000 else (dMem : MemDev).at0), claim1 := (if 0 = 0 then (dMem : MemDev).claim1 else some (leAt (leBytes 4 2 ++ [1] ++ [4, 6, 9, 5, 0, 2, 3, 0] : List Nat) 0 4)), at1 := (if 0 = 0 then (dMem : MemDev).at1 else 100195000), dseq := (if (dMem : MemDev).claim 0 = some (leAt (leBytes 4 2 ++ [1] ++ [4, 6, 9, 5, 0, 2, 3, 0] : List Nat) 0 4) then (dMem : MemDev).dseq else (dMem : MemDev).dseq.filter (fun (x : (Nat × Nat) × Nat) => x.1.1 != 0)), stateDue := ((dMem : MemDev).stateDue || (if 0 = 0 then { (dMem : MemDev) with claim0 := some (leAt (leBytes 4 2 ++ [1] ++ [4, 6, 9, 5, 0, 2, 3, 0] : List Nat) 0 4) } else { (dMem : MemDev) with claim1 := some (leAt (leBytes 4 2 ++ [1] ++ [4, 6, 9, 5, 0, 2, 3, 0] : List Nat) 0 4) } : MemDev).topClaim != (dMem : MemDev).topClaim) }) ∧ (({ (dMem) with at0 := 100195000 } : MemDev).higher = some 0) ∧ (([(4, [9, 5, 0, 2, 3, 0])] : List (Nat × List Nat)) = [(4, ([9, 5, 0, 2, 3, 0] : List Nat))]) ∧ (leAt ([9, 5, 0, 2, 3, 0] : List Nat) 0 1 = (dMem : MemDev).addr) ∧ ((dMem : MemDev).accepts (dMem : MemDev).addr = true) ∧ (({ (dMem) with at0 := 100195000 } : MemDev).fresh 0 (dMem : MemDev).addr (leAt ([9, 5, 0, 2, 3, 0] : List Nat) 1 2) = true) ∧ (leAt ([9, 5, 0, 2, 3, 0] : List Nat) 3 1 = 2) ∧ ((dMem : MemDev).part0 = none) ∧ ((dMem : MemDev).held = none)) ∧ (match exec (.memberDigestReceive 2 1001 38 100195000 (wDigest 1001 [4, 6, 9, 5, 0, 2, 3, 0] : List Nat)) w_memberDigestReceive_flocks with
    | .next t => decide ((t.memDev 2 = { ({ (dMem) with at0 := 100195000 } : MemDev) with dseq := ({ (dMem) with at0 := 100195000 } : MemDev).dseq.filter (fun (y : (Nat × Nat) × Nat) => y.1 != (0, (dMem : MemDev).addr)) ++ [((0, (dMem : MemDev).addr), leAt ([9, 5, 0, 2, 3, 0] : List Nat) 1 2)], flocks := leAt ([9, 5, 0, 2, 3, 0] : List Nat) 4 2 }))
    | _ => false) = true := by decide +kernel

def w_memberDigestReceive_discarded : State := wMem dMem

theorem test_memberDigestReceive_discarded : ((w_memberDigestReceive_discarded.stopSafe = true) ∧ (w_memberDigestReceive_discarded.memDev 2 = (dMem : MemDev)) ∧ (slotCut (w_memberDigestReceive_discarded.prof (dMem : MemDev).slot.1) (if w_memberDigestReceive_discarded.prof (dMem : MemDev).slot.1 = 0 then 38 else 10 * (1001 % 10) + 38) = some 1) ∧ (2 ≤ (dMem : MemDev).st) ∧ (leAt (wDigest 1001 [4, 6, 10, 5, 0, 2, 3, 0] : List Nat) 0 1 % 16 = 1) ∧ (leAt (wDigest 1001 [4, 6, 10, 5, 0, 2, 3, 0] : List Nat) 1 1 = 0xE0 + 0) ∧ (0 < 2) ∧ (openMpdu (dMem : MemDev).nwkKey (nwkNonce ((dMem : MemDev).sfn 1001) 38 (dMem : MemDev).slot.1 ivData true (0xE0 + 0)) (wDigest 1001 [4, 6, 10, 5, 0, 2, 3, 0] : List Nat) = some ([1, 0xE0, 0xFF, 0, 0] ++ leBytes 4 2 ++ [1] ++ [4, 6, 10, 5, 0, 2, 3, 0] : List Nat)) ∧ ((leBytes 4 2 ++ [1] ++ [4, 6, 10, 5, 0, 2, 3, 0] : List Nat) = ([1, 0xE0, 0xFF, 0, 0] ++ leBytes 4 2 ++ [1] ++ [4, 6, 10, 5, 0, 2, 3, 0] : List Nat).drop (if bitOf (leAt (wDigest 1001 [4, 6, 10, 5, 0, 2, 3, 0] : List Nat) 0 1) 4 then 6 else 5)) ∧ (parseItems (leBytes 4 2 ++ [1] ++ [4, 6, 10, 5, 0, 2, 3, 0] : List Nat).length ((leBytes 4 2 ++ [1] ++ [4, 6, 10, 5, 0, 2, 3, 0] : List Nat).drop 5) = some ([(4, [10, 5, 0, 2, 3, 0])] : List (Nat × List Nat))) ∧ (leAt (leBytes 4 2 ++ [1] ++ [4, 6, 10, 5, 0, 2, 3, 0] : List Nat) 4 1 = 1) ∧ (([(4, [10, 5, 0, 2, 3, 0])] : List (Nat × List Nat)).all (downItemOk (w_memberDigestReceive_discarded.prof (dMem : MemDev).slot.1) 1) = true) ∧ (({ (dMem) with at0 := 100195000 } : MemDev) = { (dMem : MemDev) with claim0 := (if 0 = 0 then some (leAt (leBytes 4 2 ++ [1] ++ [4, 6, 10, 5, 0, 2, 3, 0] : List Nat) 0 4) else (dMem : MemDev).claim0), at0 := (if 0 = 0 then 100195000 else (dMem : MemDev).at0), claim1 := (if 0 = 0 then (dMem : MemDev).claim1 else some (leAt (leBytes 4 2 ++ [1] ++ [4, 6, 10, 5, 0, 2, 3, 0] : List Nat) 0 4)), at1 := (if 0 = 0 then (dMem : MemDev).at1 else 100195000), dseq := (if (dMem : MemDev).claim 0 = some (leAt (leBytes 4 2 ++ [1] ++ [4, 6, 10, 5, 0, 2, 3, 0] : List Nat) 0 4) then (dMem : MemDev).dseq else (dMem : MemDev).dseq.filter (fun (x : (Nat × Nat) × Nat) => x.1.1 != 0)), stateDue := ((dMem : MemDev).stateDue || (if 0 = 0 then { (dMem : MemDev) with claim0 := some (leAt (leBytes 4 2 ++ [1] ++ [4, 6, 10, 5, 0, 2, 3, 0] : List Nat) 0 4) } else { (dMem : MemDev) with claim1 := some (leAt (leBytes 4 2 ++ [1] ++ [4, 6, 10, 5, 0, 2, 3, 0] : List Nat) 0 4) } : MemDev).topClaim != (dMem : MemDev).topClaim) }) ∧ (({ (dMem) with at0 := 100195000 } : MemDev).higher = some 0) ∧ (([(4, [10, 5, 0, 2, 3, 0])] : List (Nat × List Nat)) = [(4, ([10, 5, 0, 2, 3, 0] : List Nat))]) ∧ (({ (dMem) with at0 := 100195000 } : MemDev).accepts (leAt ([10, 5, 0, 2, 3, 0] : List Nat) 0 1) = false ∨ ({ (dMem) with at0 := 100195000 } : MemDev).fresh 0 (leAt ([10, 5, 0, 2, 3, 0] : List Nat) 0 1) (leAt ([10, 5, 0, 2, 3, 0] : List Nat) 1 2) = false) ∧ ((dMem : MemDev).part0 = none) ∧ ((dMem : MemDev).held = none)) ∧ (match exec (.memberDigestReceive 2 1001 38 100195000 (wDigest 1001 [4, 6, 10, 5, 0, 2, 3, 0] : List Nat)) w_memberDigestReceive_discarded with
    | .next t => decide ((t.memDev 2 = ({ (dMem) with at0 := 100195000 } : MemDev)))
    | _ => false) = true := by decide +kernel

def w_memberDigestReceive_items : State := wMem dMem

theorem test_memberDigestReceive_items : ((w_memberDigestReceive_items.stopSafe = true) ∧ (w_memberDigestReceive_items.memDev 2 = (dMem : MemDev)) ∧ (slotCut (w_memberDigestReceive_items.prof (dMem : MemDev).slot.1) (if w_memberDigestReceive_items.prof (dMem : MemDev).slot.1 = 0 then 38 else 10 * (1001 % 10) + 38) = some 1) ∧ (2 ≤ (dMem : MemDev).st) ∧ (leAt (wDigest 1001 [4, 6, 9, 5, 0, 2, 3, 0] : List Nat) 0 1 % 16 = 1) ∧ (leAt (wDigest 1001 [4, 6, 9, 5, 0, 2, 3, 0] : List Nat) 1 1 = 0xE0 + 0) ∧ (0 < 2) ∧ (openMpdu (dMem : MemDev).nwkKey (nwkNonce ((dMem : MemDev).sfn 1001) 38 (dMem : MemDev).slot.1 ivData true (0xE0 + 0)) (wDigest 1001 [4, 6, 9, 5, 0, 2, 3, 0] : List Nat) = some ([1, 0xE0, 0xFF, 0, 0] ++ leBytes 4 2 ++ [1] ++ [4, 6, 9, 5, 0, 2, 3, 0] : List Nat)) ∧ ((leBytes 4 2 ++ [1] ++ [4, 6, 9, 5, 0, 2, 3, 0] : List Nat) = ([1, 0xE0, 0xFF, 0, 0] ++ leBytes 4 2 ++ [1] ++ [4, 6, 9, 5, 0, 2, 3, 0] : List Nat).drop (if bitOf (leAt (wDigest 1001 [4, 6, 9, 5, 0, 2, 3, 0] : List Nat) 0 1) 4 then 6 else 5)) ∧ (parseItems (leBytes 4 2 ++ [1] ++ [4, 6, 9, 5, 0, 2, 3, 0] : List Nat).length ((leBytes 4 2 ++ [1] ++ [4, 6, 9, 5, 0, 2, 3, 0] : List Nat).drop 5) = some ([(4, [9, 5, 0, 2, 3, 0])] : List (Nat × List Nat))) ∧ (leAt (leBytes 4 2 ++ [1] ++ [4, 6, 9, 5, 0, 2, 3, 0] : List Nat) 4 1 = 1) ∧ (([(4, [9, 5, 0, 2, 3, 0])] : List (Nat × List Nat)).all (downItemOk (w_memberDigestReceive_items.prof (dMem : MemDev).slot.1) 1) = true) ∧ (({ (dMem) with at0 := 100195000 } : MemDev) = { (dMem : MemDev) with claim0 := (if 0 = 0 then some (leAt (leBytes 4 2 ++ [1] ++ [4, 6, 9, 5, 0, 2, 3, 0] : List Nat) 0 4) else (dMem : MemDev).claim0), at0 := (if 0 = 0 then 100195000 else (dMem : MemDev).at0), claim1 := (if 0 = 0 then (dMem : MemDev).claim1 else some (leAt (leBytes 4 2 ++ [1] ++ [4, 6, 9, 5, 0, 2, 3, 0] : List Nat) 0 4)), at1 := (if 0 = 0 then (dMem : MemDev).at1 else 100195000), dseq := (if (dMem : MemDev).claim 0 = some (leAt (leBytes 4 2 ++ [1] ++ [4, 6, 9, 5, 0, 2, 3, 0] : List Nat) 0 4) then (dMem : MemDev).dseq else (dMem : MemDev).dseq.filter (fun (x : (Nat × Nat) × Nat) => x.1.1 != 0)), stateDue := ((dMem : MemDev).stateDue || (if 0 = 0 then { (dMem : MemDev) with claim0 := some (leAt (leBytes 4 2 ++ [1] ++ [4, 6, 9, 5, 0, 2, 3, 0] : List Nat) 0 4) } else { (dMem : MemDev) with claim1 := some (leAt (leBytes 4 2 ++ [1] ++ [4, 6, 9, 5, 0, 2, 3, 0] : List Nat) 0 4) } : MemDev).topClaim != (dMem : MemDev).topClaim) }) ∧ (({ (dMem) with at0 := 100195000 } : MemDev).higher = some 0)) ∧ (match exec (.memberDigestReceive 2 1001 38 100195000 (wDigest 1001 [4, 6, 9, 5, 0, 2, 3, 0] : List Nat)) w_memberDigestReceive_items with
    | .next t => decide ((t.memDev 2 = ((([(4, [9, 5, 0, 2, 3, 0])] : List (Nat × List Nat)).foldl (MemDev.item (w_memberDigestReceive_items.prof (dMem : MemDev).slot.1) 0 1001 ((dMem : MemDev).sfn 1001)) ({ (dMem) with at0 := 100195000 } : MemDev)).hopNow ((dMem : MemDev).sfn 1001)).expire ((dMem : MemDev).sfn 1001)))
    | _ => false) = true := by decide +kernel

def w_memberDigestReceive_badhead : State := wMem dMem

theorem test_memberDigestReceive_badhead : ((w_memberDigestReceive_badhead.stopSafe = true) ∧ (w_memberDigestReceive_badhead.memDev 2 = (dMem : MemDev)) ∧ (slotCut (w_memberDigestReceive_badhead.prof (dMem : MemDev).slot.1) (if w_memberDigestReceive_badhead.prof (dMem : MemDev).slot.1 = 0 then 38 else 10 * (1001 % 10) + 38) = some 1) ∧ (2 ≤ (dMem : MemDev).st) ∧ (leAt ([2, 0xE0] : List Nat) 0 1 % 16 ≠ 1 ∨ (leAt ([2, 0xE0] : List Nat) 1 1 ≠ 0xE0 ∧ leAt ([2, 0xE0] : List Nat) 1 1 ≠ 0xE1))) ∧ (match exec (.memberDigestReceive 2 1001 38 1 ([2, 0xE0] : List Nat)) w_memberDigestReceive_badhead with
    | .next t => decide ((t.memDev 2 = { (dMem : MemDev) with malformed := (dMem : MemDev).malformed + 1 }))
    | _ => false) = true := by decide +kernel

def w_memberDigestReceive_baditems : State := wMem dMem

theorem test_memberDigestReceive_baditems : ((w_memberDigestReceive_baditems.stopSafe = true) ∧ (w_memberDigestReceive_baditems.memDev 2 = (dMem : MemDev)) ∧ (slotCut (w_memberDigestReceive_baditems.prof (dMem : MemDev).slot.1) (if w_memberDigestReceive_baditems.prof (dMem : MemDev).slot.1 = 0 then 38 else 10 * (1001 % 10) + 38) = some 1) ∧ (2 ≤ (dMem : MemDev).st) ∧ (leAt (wDigest 1001 [4, 6] : List Nat) 0 1 % 16 = 1) ∧ (leAt (wDigest 1001 [4, 6] : List Nat) 1 1 = 0xE0 + 0) ∧ (0 < 2) ∧ (openMpdu (dMem : MemDev).nwkKey (nwkNonce ((dMem : MemDev).sfn 1001) 38 (dMem : MemDev).slot.1 ivData true (0xE0 + 0)) (wDigest 1001 [4, 6] : List Nat) = some ([1, 0xE0, 0xFF, 0, 0] ++ leBytes 4 2 ++ [1] ++ [4, 6] : List Nat)) ∧ ((leBytes 4 2 ++ [1] ++ [4, 6] : List Nat) = ([1, 0xE0, 0xFF, 0, 0] ++ leBytes 4 2 ++ [1] ++ [4, 6] : List Nat).drop (if bitOf (leAt (wDigest 1001 [4, 6] : List Nat) 0 1) 4 then 6 else 5)) ∧ (parseItems (leBytes 4 2 ++ [1] ++ [4, 6] : List Nat).length ((leBytes 4 2 ++ [1] ++ [4, 6] : List Nat).drop 5) = none)) ∧ (match exec (.memberDigestReceive 2 1001 38 100195000 (wDigest 1001 [4, 6] : List Nat)) w_memberDigestReceive_baditems with
    | .next t => decide ((t.memDev 2 = { (dMem : MemDev) with malformed := (dMem : MemDev).malformed + 1 }))
    | _ => false) = true := by decide +kernel

def w_memberDigestReceive_reserved : State := wMem dMem

theorem test_memberDigestReceive_reserved : ((w_memberDigestReceive_reserved.stopSafe = true) ∧ (w_memberDigestReceive_reserved.memDev 2 = (dMem : MemDev)) ∧ (slotCut (w_memberDigestReceive_reserved.prof (dMem : MemDev).slot.1) (if w_memberDigestReceive_reserved.prof (dMem : MemDev).slot.1 = 0 then 38 else 10 * (1001 % 10) + 38) = some 1) ∧ (2 ≤ (dMem : MemDev).st) ∧ (leAt (wDigest 1001 [9, 1, 0] : List Nat) 0 1 % 16 = 1) ∧ (leAt (wDigest 1001 [9, 1, 0] : List Nat) 1 1 = 0xE0 + 0) ∧ (0 < 2) ∧ (openMpdu (dMem : MemDev).nwkKey (nwkNonce ((dMem : MemDev).sfn 1001) 38 (dMem : MemDev).slot.1 ivData true (0xE0 + 0)) (wDigest 1001 [9, 1, 0] : List Nat) = some ([1, 0xE0, 0xFF, 0, 0] ++ leBytes 4 2 ++ [1] ++ [9, 1, 0] : List Nat)) ∧ ((leBytes 4 2 ++ [1] ++ [9, 1, 0] : List Nat) = ([1, 0xE0, 0xFF, 0, 0] ++ leBytes 4 2 ++ [1] ++ [9, 1, 0] : List Nat).drop (if bitOf (leAt (wDigest 1001 [9, 1, 0] : List Nat) 0 1) 4 then 6 else 5)) ∧ (parseItems (leBytes 4 2 ++ [1] ++ [9, 1, 0] : List Nat).length ((leBytes 4 2 ++ [1] ++ [9, 1, 0] : List Nat).drop 5) = some ([(9, [0])] : List (Nat × List Nat))) ∧ (leAt (leBytes 4 2 ++ [1] ++ [9, 1, 0] : List Nat) 4 1 ≠ 1 ∨ ([(9, [0])] : List (Nat × List Nat)).all (downItemOk (w_memberDigestReceive_reserved.prof (dMem : MemDev).slot.1) 1) = false)) ∧ (match exec (.memberDigestReceive 2 1001 38 100195000 (wDigest 1001 [9, 1, 0] : List Nat)) w_memberDigestReceive_reserved with
    | .next t => decide ((t.memDev 2 = { (dMem : MemDev) with malformed := (dMem : MemDev).malformed + 1 }))
    | _ => false) = true := by decide +kernel

def w_memberDigestReceive_none : State := wMem dMem

theorem test_memberDigestReceive_none : ((w_memberDigestReceive_none.stopSafe = true) ∧ (w_memberDigestReceive_none.memDev 2 = (dMem : MemDev)) ∧ (slotCut (w_memberDigestReceive_none.prof (dMem : MemDev).slot.1) (if w_memberDigestReceive_none.prof (dMem : MemDev).slot.1 = 0 then 7 else 10 * (1001 % 10) + 7) = none ∨ (dMem : MemDev).st < 2)) ∧ (match exec (.memberDigestReceive 2 1001 7 1 ([] : List Nat)) w_memberDigestReceive_none with
    | .next t => decide ((t = w_memberDigestReceive_none))
    | _ => false) = true := by decide +kernel

def w_memberDigestReceive_forged : State := wMem dMem

theorem test_memberDigestReceive_forged : ((w_memberDigestReceive_forged.stopSafe = true) ∧ (w_memberDigestReceive_forged.memDev 2 = (dMem : MemDev)) ∧ (leAt (wDigest 1001 [] : List Nat) 0 1 % 16 = 1) ∧ (0 < 2) ∧ (leAt (wDigest 1001 [] : List Nat) 1 1 = 0xE0 + 0) ∧ (openMpdu (dMem : MemDev).nwkKey (nwkNonce ((dMem : MemDev).sfn 1002) 38 (dMem : MemDev).slot.1 ivData true (0xE0 + 0)) (wDigest 1001 [] : List Nat) = none)) ∧ (match exec (.memberDigestReceive 2 1002 38 1 (wDigest 1001 [] : List Nat)) w_memberDigestReceive_forged with
    | .next t => decide ((t = w_memberDigestReceive_forged))
    | _ => false) = true := by decide +kernel

def w_memberUplinkSend : State := { wMac [(LANE_CFG_PROFILE 4, 1)] with memDevs := [(2, ({ dMem with slot0 := (4, 3), slot1 := (4, 3), bornAt := some 0 }))] }

theorem test_memberUplinkSend : ((w_memberUplinkSend.stopSafe = true) ∧ (w_memberUplinkSend.memDev 2 = ({ dMem with slot0 := (4, 3), slot1 := (4, 3), bornAt := some 0 } : MemDev)) ∧ (({ dMem with slot0 := (4, 3), slot1 := (4, 3), bornAt := some 0 } : MemDev).st = 2) ∧ (({ dMem with slot0 := (4, 3), slot1 := (4, 3), bornAt := some 0 } : MemDev).higher = some 0) ∧ (({ dMem with slot0 := (4, 3), slot1 := (4, 3), bornAt := some 0 } : MemDev).slot.2 ≠ 255) ∧ (3 = (if w_memberUplinkSend.prof ({ dMem with slot0 := (4, 3), slot1 := (4, 3), bornAt := some 0 } : MemDev).slot.1 = 0 then 3 else 10 * (4000000000 % 10) + 3)) ∧ (({ dMem with slot0 := (4, 3), slot1 := (4, 3), bornAt := some 0 } : MemDev).slot.2 ≤ 3) ∧ (3 - ({ dMem with slot0 := (4, 3), slot1 := (4, 3), bornAt := some 0 } : MemDev).slot.2 ≤ (if w_memberUplinkSend.prof ({ dMem with slot0 := (4, 3), slot1 := (4, 3), bornAt := some 0 } : MemDev).slot.1 = 0 then 0 else 2)) ∧ (0 = (if w_memberUplinkSend.prof ({ dMem with slot0 := (4, 3), slot1 := (4, 3), bornAt := some 0 } : MemDev).slot.1 = 0 then 0 else 3 - ({ dMem with slot0 := (4, 3), slot1 := (4, 3), bornAt := some 0 } : MemDev).slot.2)) ∧ (slotSpan (w_memberUplinkSend.prof ({ dMem with slot0 := (4, 3), slot1 := (4, 3), bornAt := some 0 } : MemDev).slot.1) (({ dMem with slot0 := (4, 3), slot1 := (4, 3), bornAt := some 0 } : MemDev).superNs (({ dMem with slot0 := (4, 3), slot1 := (4, 3), bornAt := some 0 } : MemDev).sfn 4000000000)) 3 = some (slotNs (w_memberUplinkSend.prof ({ dMem with slot0 := (4, 3), slot1 := (4, 3), bornAt := some 0 } : MemDev).slot.1))) ∧ (true = true ∨ 2 * leAt ({ dMem with slot0 := (4, 3), slot1 := (4, 3), bornAt := some 0 } : MemDev).caps 12 1 * (100030000 - ({ dMem with slot0 := (4, 3), slot1 := (4, 3), bornAt := some 0 } : MemDev).bellAt) ≤ 300000000) ∧ ((({ dMem with slot0 := (4, 3), slot1 := (4, 3), bornAt := some 0 }, 0, []) : MemDev × Nat × List Nat) = ({ dMem with slot0 := (4, 3), slot1 := (4, 3), bornAt := some 0 } : MemDev).upItems (w_memberUplinkSend.prof ({ dMem with slot0 := (4, 3), slot1 := (4, 3), bornAt := some 0 } : MemDev).slot.1) 4000000000 0 (w_memberUplinkSend.mpduMax ({ dMem with slot0 := (4, 3), slot1 := (4, 3), bornAt := some 0 } : MemDev).slot.1 ivData) (if measures (w_memberUplinkSend.prof ({ dMem with slot0 := (4, 3), slot1 := (4, 3), bornAt := some 0 } : MemDev).slot.1) ({ dMem with slot0 := (4, 3), slot1 := (4, 3), bornAt := some 0 } : MemDev).rate (4000000000 - (if w_memberUplinkSend.prof ({ dMem with slot0 := (4, 3), slot1 := (4, 3), bornAt := some 0 } : MemDev).slot.1 = 0 then 0 else 4000000000 % 10)) = true then ([] : List Nat) else [])) ∧ ((MemDev.budget (({ dMem with slot0 := (4, 3), slot1 := (4, 3), bornAt := some 0 }, 0, []) : MemDev × Nat × List Nat).1 (w_memberUplinkSend.prof ({ dMem with slot0 := (4, 3), slot1 := (4, 3), bornAt := some 0 } : MemDev).slot.1) (w_memberUplinkSend.memChan ({ dMem with slot0 := (4, 3), slot1 := (4, 3), bornAt := some 0 } : MemDev) ({ dMem with slot0 := (4, 3), slot1 := (4, 3), bornAt := some 0 } : MemDev).slot.1 4000000000 3 false) (txenUs (w_memberUplinkSend.prof ({ dMem with slot0 := (4, 3), slot1 := (4, 3), bornAt := some 0 } : MemDev).slot.1) (w_memberUplinkSend.get (LANE_CFG_RATE ({ dMem with slot0 := (4, 3), slot1 := (4, 3), bornAt := some 0 } : MemDev).slot.1)) ivData (psduLen (w_memberUplinkSend.prof ({ dMem with slot0 := (4, 3), slot1 := (4, 3), bornAt := some 0 } : MemDev).slot.1) (([2, ({ dMem with slot0 := (4, 3), slot1 := (4, 3), bornAt := some 0 } : MemDev).addr, 0xE0 + 0] ++ leBytes 2 (({ dMem with slot0 := (4, 3), slot1 := (4, 3), bornAt := some 0 }, 0, []) : MemDev × Nat × List Nat).2.1 ++ leBytes 2 (({ dMem with slot0 := (4, 3), slot1 := (4, 3), bornAt := some 0 } : MemDev).dack 0) ++ [b2n ({ dMem with slot0 := (4, 3), slot1 := (4, 3), bornAt := some 0 } : MemDev).stopped + 2 * b2n ({ dMem with slot0 := (4, 3), slot1 := (4, 3), bornAt := some 0 } : MemDev).holding + 4 * b2n true + 16 * 0] ++ (({ dMem with slot0 := (4, 3), slot1 := (4, 3), bornAt := some 0 }, 0, []) : MemDev × Nat × List Nat).2.2 : List Nat) ++ ccmMic ({ dMem with slot0 := (4, 3), slot1 := (4, 3), bornAt := some 0 } : MemDev).nwkKey (nwkNonce (({ dMem with slot0 := (4, 3), slot1 := (4, 3), bornAt := some 0 } : MemDev).sfn 4000000000) 3 ({ dMem with slot0 := (4, 3), slot1 := (4, 3), bornAt := some 0 } : MemDev).slot.1 ivData false ({ dMem with slot0 := (4, 3), slot1 := (4, 3), bornAt := some 0 } : MemDev).addr) ([2, ({ dMem with slot0 := (4, 3), slot1 := (4, 3), bornAt := some 0 } : MemDev).addr, 0xE0 + 0] ++ leBytes 2 (({ dMem with slot0 := (4, 3), slot1 := (4, 3), bornAt := some 0 }, 0, []) : MemDev × Nat × List Nat).2.1 ++ leBytes 2 (({ dMem with slot0 := (4, 3), slot1 := (4, 3), bornAt := some 0 } : MemDev).dack 0) ++ [b2n ({ dMem with slot0 := (4, 3), slot1 := (4, 3), bornAt := some 0 } : MemDev).stopped + 2 * b2n ({ dMem with slot0 := (4, 3), slot1 := (4, 3), bornAt := some 0 } : MemDev).holding + 4 * b2n true + 16 * 0] ++ (({ dMem with slot0 := (4, 3), slot1 := (4, 3), bornAt := some 0 }, 0, []) : MemDev × Nat × List Nat).2.2 : List Nat) []).length)) 100030000).isSome = true)) ∧ (match exec (.memberUplinkSend 2 4000000000 3 100030000 true ([] : List Nat)) w_memberUplinkSend with
    | .next t => decide ((t.memDev 2 = { (({ dMem with slot0 := (4, 3), slot1 := (4, 3), bornAt := some 0 }, 0, []) : MemDev × Nat × List Nat).1 with bornAt := some ((({ dMem with slot0 := (4, 3), slot1 := (4, 3), bornAt := some 0 }, 0, []) : MemDev × Nat × List Nat).1.bornAt.getD 100030000), sent := ((MemDev.budget (({ dMem with slot0 := (4, 3), slot1 := (4, 3), bornAt := some 0 }, 0, []) : MemDev × Nat × List Nat).1 (w_memberUplinkSend.prof ({ dMem with slot0 := (4, 3), slot1 := (4, 3), bornAt := some 0 } : MemDev).slot.1) (w_memberUplinkSend.memChan ({ dMem with slot0 := (4, 3), slot1 := (4, 3), bornAt := some 0 } : MemDev) ({ dMem with slot0 := (4, 3), slot1 := (4, 3), bornAt := some 0 } : MemDev).slot.1 4000000000 3 false) (txenUs (w_memberUplinkSend.prof ({ dMem with slot0 := (4, 3), slot1 := (4, 3), bornAt := some 0 } : MemDev).slot.1) (w_memberUplinkSend.get (LANE_CFG_RATE ({ dMem with slot0 := (4, 3), slot1 := (4, 3), bornAt := some 0 } : MemDev).slot.1)) ivData (psduLen (w_memberUplinkSend.prof ({ dMem with slot0 := (4, 3), slot1 := (4, 3), bornAt := some 0 } : MemDev).slot.1) (([2, ({ dMem with slot0 := (4, 3), slot1 := (4, 3), bornAt := some 0 } : MemDev).addr, 0xE0 + 0] ++ leBytes 2 (({ dMem with slot0 := (4, 3), slot1 := (4, 3), bornAt := some 0 }, 0, []) : MemDev × Nat × List Nat).2.1 ++ leBytes 2 (({ dMem with slot0 := (4, 3), slot1 := (4, 3), bornAt := some 0 } : MemDev).dack 0) ++ [b2n ({ dMem with slot0 := (4, 3), slot1 := (4, 3), bornAt := some 0 } : MemDev).stopped + 2 * b2n ({ dMem with slot0 := (4, 3), slot1 := (4, 3), bornAt := some 0 } : MemDev).holding + 4 * b2n true + 16 * 0] ++ (({ dMem with slot0 := (4, 3), slot1 := (4, 3), bornAt := some 0 }, 0, []) : MemDev × Nat × List Nat).2.2 : List Nat) ++ ccmMic ({ dMem with slot0 := (4, 3), slot1 := (4, 3), bornAt := some 0 } : MemDev).nwkKey (nwkNonce (({ dMem with slot0 := (4, 3), slot1 := (4, 3), bornAt := some 0 } : MemDev).sfn 4000000000) 3 ({ dMem with slot0 := (4, 3), slot1 := (4, 3), bornAt := some 0 } : MemDev).slot.1 ivData false ({ dMem with slot0 := (4, 3), slot1 := (4, 3), bornAt := some 0 } : MemDev).addr) ([2, ({ dMem with slot0 := (4, 3), slot1 := (4, 3), bornAt := some 0 } : MemDev).addr, 0xE0 + 0] ++ leBytes 2 (({ dMem with slot0 := (4, 3), slot1 := (4, 3), bornAt := some 0 }, 0, []) : MemDev × Nat × List Nat).2.1 ++ leBytes 2 (({ dMem with slot0 := (4, 3), slot1 := (4, 3), bornAt := some 0 } : MemDev).dack 0) ++ [b2n ({ dMem with slot0 := (4, 3), slot1 := (4, 3), bornAt := some 0 } : MemDev).stopped + 2 * b2n ({ dMem with slot0 := (4, 3), slot1 := (4, 3), bornAt := some 0 } : MemDev).holding + 4 * b2n true + 16 * 0] ++ (({ dMem with slot0 := (4, 3), slot1 := (4, 3), bornAt := some 0 }, 0, []) : MemDev × Nat × List Nat).2.2 : List Nat) []).length)) 100030000).getD {}).sent }) ∧ (t.out = w_memberUplinkSend.out ++ [Output.memberAir 2 4000000000 ({ dMem with slot0 := (4, 3), slot1 := (4, 3), bornAt := some 0 } : MemDev).slot.1 3 (([2, ({ dMem with slot0 := (4, 3), slot1 := (4, 3), bornAt := some 0 } : MemDev).addr, 0xE0 + 0] ++ leBytes 2 (({ dMem with slot0 := (4, 3), slot1 := (4, 3), bornAt := some 0 }, 0, []) : MemDev × Nat × List Nat).2.1 ++ leBytes 2 (({ dMem with slot0 := (4, 3), slot1 := (4, 3), bornAt := some 0 } : MemDev).dack 0) ++ [b2n ({ dMem with slot0 := (4, 3), slot1 := (4, 3), bornAt := some 0 } : MemDev).stopped + 2 * b2n ({ dMem with slot0 := (4, 3), slot1 := (4, 3), bornAt := some 0 } : MemDev).holding + 4 * b2n true + 16 * 0] ++ (({ dMem with slot0 := (4, 3), slot1 := (4, 3), bornAt := some 0 }, 0, []) : MemDev × Nat × List Nat).2.2 : List Nat) ++ ccmMic ({ dMem with slot0 := (4, 3), slot1 := (4, 3), bornAt := some 0 } : MemDev).nwkKey (nwkNonce (({ dMem with slot0 := (4, 3), slot1 := (4, 3), bornAt := some 0 } : MemDev).sfn 4000000000) 3 ({ dMem with slot0 := (4, 3), slot1 := (4, 3), bornAt := some 0 } : MemDev).slot.1 ivData false ({ dMem with slot0 := (4, 3), slot1 := (4, 3), bornAt := some 0 } : MemDev).addr) ([2, ({ dMem with slot0 := (4, 3), slot1 := (4, 3), bornAt := some 0 } : MemDev).addr, 0xE0 + 0] ++ leBytes 2 (({ dMem with slot0 := (4, 3), slot1 := (4, 3), bornAt := some 0 }, 0, []) : MemDev × Nat × List Nat).2.1 ++ leBytes 2 (({ dMem with slot0 := (4, 3), slot1 := (4, 3), bornAt := some 0 } : MemDev).dack 0) ++ [b2n ({ dMem with slot0 := (4, 3), slot1 := (4, 3), bornAt := some 0 } : MemDev).stopped + 2 * b2n ({ dMem with slot0 := (4, 3), slot1 := (4, 3), bornAt := some 0 } : MemDev).holding + 4 * b2n true + 16 * 0] ++ (({ dMem with slot0 := (4, 3), slot1 := (4, 3), bornAt := some 0 }, 0, []) : MemDev × Nat × List Nat).2.2 : List Nat) [])]))
    | _ => false) = true := by decide +kernel

def w_memberUplinkSend_spent : State := { wMac [(LANE_CFG_PROFILE 4, 1)] with memDevs := [(2, ({ dMem with slot0 := (4, 3), slot1 := (4, 3) }))] }

theorem test_memberUplinkSend_spent : ((w_memberUplinkSend_spent.stopSafe = true) ∧ (w_memberUplinkSend_spent.memDev 2 = ({ dMem with slot0 := (4, 3), slot1 := (4, 3) } : MemDev)) ∧ (({ dMem with slot0 := (4, 3), slot1 := (4, 3) } : MemDev).st = 2) ∧ (({ dMem with slot0 := (4, 3), slot1 := (4, 3) } : MemDev).higher = some 0) ∧ (({ dMem with slot0 := (4, 3), slot1 := (4, 3) } : MemDev).slot.2 ≠ 255) ∧ (3 = (if w_memberUplinkSend_spent.prof ({ dMem with slot0 := (4, 3), slot1 := (4, 3) } : MemDev).slot.1 = 0 then 3 else 10 * (1000 % 10) + 3)) ∧ (({ dMem with slot0 := (4, 3), slot1 := (4, 3) } : MemDev).slot.2 ≤ 3) ∧ (3 - ({ dMem with slot0 := (4, 3), slot1 := (4, 3) } : MemDev).slot.2 ≤ (if w_memberUplinkSend_spent.prof ({ dMem with slot0 := (4, 3), slot1 := (4, 3) } : MemDev).slot.1 = 0 then 0 else 2)) ∧ (0 = (if w_memberUplinkSend_spent.prof ({ dMem with slot0 := (4, 3), slot1 := (4, 3) } : MemDev).slot.1 = 0 then 0 else 3 - ({ dMem with slot0 := (4, 3), slot1 := (4, 3) } : MemDev).slot.2)) ∧ (slotSpan (w_memberUplinkSend_spent.prof ({ dMem with slot0 := (4, 3), slot1 := (4, 3) } : MemDev).slot.1) (({ dMem with slot0 := (4, 3), slot1 := (4, 3) } : MemDev).superNs (({ dMem with slot0 := (4, 3), slot1 := (4, 3) } : MemDev).sfn 1000)) 3 = some (slotNs (w_memberUplinkSend_spent.prof ({ dMem with slot0 := (4, 3), slot1 := (4, 3) } : MemDev).slot.1))) ∧ (true = true ∨ 2 * leAt ({ dMem with slot0 := (4, 3), slot1 := (4, 3) } : MemDev).caps 12 1 * (100030000 - ({ dMem with slot0 := (4, 3), slot1 := (4, 3) } : MemDev).bellAt) ≤ 300000000) ∧ ((({ dMem with slot0 := (4, 3), slot1 := (4, 3) }, 0, []) : MemDev × Nat × List Nat) = ({ dMem with slot0 := (4, 3), slot1 := (4, 3) } : MemDev).upItems (w_memberUplinkSend_spent.prof ({ dMem with slot0 := (4, 3), slot1 := (4, 3) } : MemDev).slot.1) 1000 0 (w_memberUplinkSend_spent.mpduMax ({ dMem with slot0 := (4, 3), slot1 := (4, 3) } : MemDev).slot.1 ivData) (if measures (w_memberUplinkSend_spent.prof ({ dMem with slot0 := (4, 3), slot1 := (4, 3) } : MemDev).slot.1) ({ dMem with slot0 := (4, 3), slot1 := (4, 3) } : MemDev).rate (1000 - (if w_memberUplinkSend_spent.prof ({ dMem with slot0 := (4, 3), slot1 := (4, 3) } : MemDev).slot.1 = 0 then 0 else 1000 % 10)) = true then ([] : List Nat) else [])) ∧ (MemDev.budget (({ dMem with slot0 := (4, 3), slot1 := (4, 3) }, 0, []) : MemDev × Nat × List Nat).1 (w_memberUplinkSend_spent.prof ({ dMem with slot0 := (4, 3), slot1 := (4, 3) } : MemDev).slot.1) (w_memberUplinkSend_spent.memChan ({ dMem with slot0 := (4, 3), slot1 := (4, 3) } : MemDev) ({ dMem with slot0 := (4, 3), slot1 := (4, 3) } : MemDev).slot.1 1000 3 false) (txenUs (w_memberUplinkSend_spent.prof ({ dMem with slot0 := (4, 3), slot1 := (4, 3) } : MemDev).slot.1) (w_memberUplinkSend_spent.get (LANE_CFG_RATE ({ dMem with slot0 := (4, 3), slot1 := (4, 3) } : MemDev).slot.1)) ivData (psduLen (w_memberUplinkSend_spent.prof ({ dMem with slot0 := (4, 3), slot1 := (4, 3) } : MemDev).slot.1) (([2, ({ dMem with slot0 := (4, 3), slot1 := (4, 3) } : MemDev).addr, 0xE0 + 0] ++ leBytes 2 (({ dMem with slot0 := (4, 3), slot1 := (4, 3) }, 0, []) : MemDev × Nat × List Nat).2.1 ++ leBytes 2 (({ dMem with slot0 := (4, 3), slot1 := (4, 3) } : MemDev).dack 0) ++ [b2n ({ dMem with slot0 := (4, 3), slot1 := (4, 3) } : MemDev).stopped + 2 * b2n ({ dMem with slot0 := (4, 3), slot1 := (4, 3) } : MemDev).holding + 4 * b2n true + 16 * 0] ++ (({ dMem with slot0 := (4, 3), slot1 := (4, 3) }, 0, []) : MemDev × Nat × List Nat).2.2 : List Nat) ++ ccmMic ({ dMem with slot0 := (4, 3), slot1 := (4, 3) } : MemDev).nwkKey (nwkNonce (({ dMem with slot0 := (4, 3), slot1 := (4, 3) } : MemDev).sfn 1000) 3 ({ dMem with slot0 := (4, 3), slot1 := (4, 3) } : MemDev).slot.1 ivData false ({ dMem with slot0 := (4, 3), slot1 := (4, 3) } : MemDev).addr) ([2, ({ dMem with slot0 := (4, 3), slot1 := (4, 3) } : MemDev).addr, 0xE0 + 0] ++ leBytes 2 (({ dMem with slot0 := (4, 3), slot1 := (4, 3) }, 0, []) : MemDev × Nat × List Nat).2.1 ++ leBytes 2 (({ dMem with slot0 := (4, 3), slot1 := (4, 3) } : MemDev).dack 0) ++ [b2n ({ dMem with slot0 := (4, 3), slot1 := (4, 3) } : MemDev).stopped + 2 * b2n ({ dMem with slot0 := (4, 3), slot1 := (4, 3) } : MemDev).holding + 4 * b2n true + 16 * 0] ++ (({ dMem with slot0 := (4, 3), slot1 := (4, 3) }, 0, []) : MemDev × Nat × List Nat).2.2 : List Nat) []).length)) 100030000 = none)) ∧ (match exec (.memberUplinkSend 2 1000 3 100030000 true ([] : List Nat)) w_memberUplinkSend_spent with
    | .next t => decide ((t.memDev 2 = { ({ dMem with slot0 := (4, 3), slot1 := (4, 3) } : MemDev) with bornAt := some (({ dMem with slot0 := (4, 3), slot1 := (4, 3) } : MemDev).bornAt.getD 100030000) }))
    | _ => false) = true := by decide +kernel

def w_memberUplinkSend_none : State := wMem dMem

theorem test_memberUplinkSend_none : ((w_memberUplinkSend_none.stopSafe = true) ∧ (w_memberUplinkSend_none.memDev 2 = (dMem : MemDev)) ∧ (8 = (if w_memberUplinkSend_none.prof (dMem : MemDev).slot.1 = 0 then 8 else 10 * (1001 % 10) + 8)) ∧ ((dMem : MemDev).higher = none ∨ (dMem : MemDev).st ≠ 2 ∨ (dMem : MemDev).slot.2 = 255 ∨ 8 < (dMem : MemDev).slot.2 ∨ (if w_memberUplinkSend_none.prof (dMem : MemDev).slot.1 = 0 then 0 else 2) < 8 - (dMem : MemDev).slot.2 ∨ slotSpan (w_memberUplinkSend_none.prof (dMem : MemDev).slot.1) ((dMem : MemDev).superNs ((dMem : MemDev).sfn 1001)) 8 ≠ some (slotNs (w_memberUplinkSend_none.prof (dMem : MemDev).slot.1)) ∨ (true = false ∧ 300000000 < 2 * leAt (dMem : MemDev).caps 12 1 * (1 - (dMem : MemDev).bellAt)))) ∧ (match exec (.memberUplinkSend 2 1001 8 1 true ([] : List Nat)) w_memberUplinkSend_none with
    | .next t => decide ((t = w_memberUplinkSend_none))
    | _ => false) = true := by decide +kernel

def w_dispSubmit : State := at_ [(DISP_DESC_WORD 0x10 1, 0x00010105), (DISP_DESC_WORD 0x10 2, 0x00000200)]

theorem test_dispSubmit : ((w_dispSubmit.stopSafe = true) ∧ (MayWrite w_dispSubmit 0x10 0x40400140) ∧ (BankKind.disp.holds 0x10 = true) ∧ (descOk w_dispSubmit.ply (w_dispSubmit.bankDesc 0x10) = true) ∧ (w_dispSubmit.nextIx = some 0) ∧ (0 < 4096) ∧ (w_dispSubmit.nextGen 0 < 2 ^ 20)) ∧ (match exec (.dispSubmit 0x10) w_dispSubmit with
    | .next t => decide ((Reads t [(DISP_RESULT_ID 0x10, w_dispSubmit.nextGen 0 * 4096 + 0), (DISP_RESULT_CODE_CODE 0x10, 0)]) ∧ (t.disp = { w_dispSubmit.disp with tasks := w_dispSubmit.disp.tasks.filter (fun (e : Nat × Task) => e.1 ≠ 0) ++ [(0, descTask (0x10) w_dispSubmit.ply (w_dispSubmit.nextGen 0 * 4096 + 0) (w_dispSubmit.bankDesc 0x10))], fresh := (if 0 = w_dispSubmit.disp.fresh then 0 + 1 else w_dispSubmit.disp.fresh), freed := (if 0 = w_dispSubmit.disp.fresh then w_dispSubmit.disp.freed else w_dispSubmit.disp.freed.filter (fun (x : Nat) => x ≠ 0)), pend := w_dispSubmit.disp.pend ++ [0] }))
    | _ => false) = true := by decide +kernel

theorem test_dispSubmit_bad : ((wReset.stopSafe = true) ∧ (MayWrite wReset 0x1F 0x40400140) ∧ (BankKind.disp.holds 0x1F = true) ∧ (descOk wReset.ply (wReset.bankDesc 0x1F) = false)) ∧ (match exec (.dispSubmit 0x1F) wReset with
    | .next t => decide ((Reads t [(DISP_RESULT_ID 0x1F, 0), (DISP_RESULT_CODE_CODE 0x1F, 2)]))
    | _ => false) = true := by decide +kernel

def w_dispSubmit_stall : State := { at_ [(DISP_DESC_WORD 0x10 1, 0x00010105), (DISP_DESC_WORD 0x10 2, 0x00000200)] with disp := { fresh := 4096 } }

theorem test_dispSubmit_stall : ((w_dispSubmit_stall.stopSafe = true) ∧ (MayWrite w_dispSubmit_stall 0x10 0x40400140) ∧ (BankKind.disp.holds 0x10 = true) ∧ (descOk w_dispSubmit_stall.ply (w_dispSubmit_stall.bankDesc 0x10) = true) ∧ (w_dispSubmit_stall.nextIx = none)) ∧ (match exec (.dispSubmit 0x10) w_dispSubmit_stall with
    | .next t => decide ((t.disp = { w_dispSubmit_stall.disp with stalled := w_dispSubmit_stall.disp.stalled ++ [0x10] }))
    | _ => false) = true := by decide +kernel

theorem test_dispSubmit_none : ((wReset.stopSafe = true) ∧ (MayWrite wReset 0x3F 0x40400140) ∧ (BankKind.disp.holds 0x3F = false)) ∧ (match exec (.dispSubmit 0x3F) wReset with
    | .next t => decide ((t = wReset))
    | _ => false) = true := by decide +kernel

def w_dispSubmitStallExpiry : State := { wReset with disp := { stalled := [0x11, 0x10] } }

theorem test_dispSubmitStallExpiry : ((w_dispSubmitStallExpiry.stopSafe = true) ∧ (w_dispSubmitStallExpiry.disp.stalled.contains 0x10 = true)) ∧ (match exec (.dispSubmitStallExpiry 0x10) w_dispSubmitStallExpiry with
    | .next t => decide ((Reads t [(DISP_RESULT_ID 0x10, 0), (DISP_RESULT_CODE_CODE 0x10, 1), (DISP_CNT_FULL, w_dispSubmitStallExpiry.adv DISP_CNT_FULL)]) ∧ (t.disp = { w_dispSubmitStallExpiry.disp with stalled := w_dispSubmitStallExpiry.disp.stalled.filter (fun (x : Nat) => x ≠ 0x10) }))
    | _ => false) = true := by decide +kernel

theorem test_dispSubmitStallExpiry_none : ((wReset.stopSafe = true) ∧ (wReset.disp.stalled.contains 0x10 = false)) ∧ (match exec (.dispSubmitStallExpiry 0x10) wReset with
    | .next t => decide ((t = wReset))
    | _ => false) = true := by decide +kernel

def w_taskReady : State := { at_ ([(DISP_CTRL_EN, 1), (PAIR_STATUS_ACTIVE, 1), (DISP_CORE_EN 3, 1)]) with disp := { tasks := [(6, { id := 4102, level := 5, flags := 8, mask := 1, target := 0, origin := 0x10, readyPly := 0, body := [], state := 1 })], fresh := 7, pend := [6], ready := [2] } }

theorem test_taskReady : ((w_taskReady.stopSafe = true) ∧ (w_taskReady.dispRuns = true) ∧ (w_taskReady.disp.pend = [6]) ∧ (w_taskReady.task 6 = some ({ id := 4102, level := 5, flags := 8, mask := 1, target := 0, origin := 0x10, readyPly := 0, body := [], state := 1 } : Task)) ∧ (taskIx ({ id := 4102, level := 5, flags := 8, mask := 1, target := 0, origin := 0x10, readyPly := 0, body := [], state := 1 } : Task).id = 6) ∧ (({ id := 4102, level := 5, flags := 8, mask := 1, target := 0, origin := 0x10, readyPly := 0, body := [], state := 1 } : Task).state = 1) ∧ ((if bits ({ id := 4102, level := 5, flags := 8, mask := 1, target := 0, origin := 0x10, readyPly := 0, body := [], state := 1 } : Task).flags 3 2 = 0 then ({ id := 4102, level := 5, flags := 8, mask := 1, target := 0, origin := 0x10, readyPly := 0, body := [], state := 1 } : Task).sub < w_taskReady.ply else if bits ({ id := 4102, level := 5, flags := 8, mask := 1, target := 0, origin := 0x10, readyPly := 0, body := [], state := 1 } : Task).flags 3 2 = 1 then w_taskReady.cast.boundaryNow = true ∧ ({ id := 4102, level := 5, flags := 8, mask := 1, target := 0, origin := 0x10, readyPly := 0, body := [], state := 1 } : Task).sub < w_taskReady.ply else ({ id := 4102, level := 5, flags := 8, mask := 1, target := 0, origin := 0x10, readyPly := 0, body := [], state := 1 } : Task).readyPly ≤ w_taskReady.ply))) ∧ (match exec (.taskReady) w_taskReady with
    | .next t => decide ((t.task 6 = some { ({ id := 4102, level := 5, flags := 8, mask := 1, target := 0, origin := 0x10, readyPly := 0, body := [], state := 1 } : Task) with state := 2 }) ∧ (t.disp.pend = []) ∧ (t.disp.ready = w_taskReady.disp.ready ++ [6]) ∧ (t.out = w_taskReady.out ++ ((List.range 16).filter (fun i => t.dispIrq i && !w_taskReady.dispIrq i)).map (fun i => Output.irqOwner (0x10 + i) 0)))
    | _ => false) = true := by decide +kernel

def w_taskReady_all : State := { at_ ([(DISP_CTRL_EN, 1), (PAIR_STATUS_ACTIVE, 1), (DISP_CORE_EN 3, 1)]) with disp := { tasks := [(6, { id := 4102, level := 5, flags := 8, mask := 1, target := 0, origin := 0x10, readyPly := 0, body := [], state := 1 })], fresh := 7, pend := [6], ready := [2] } }

theorem test_taskReady_all : ((w_taskReady_all.stopSafe = true) ∧ (w_taskReady_all.dispRuns = true) ∧ ((State.makeReady ({ at_ ([(DISP_CTRL_EN, 1), (PAIR_STATUS_ACTIVE, 1), (DISP_CORE_EN 3, 1)]) with disp := { tasks := [(6, { id := 4102, level := 5, flags := 8, mask := 1, target := 0, origin := 0x10, readyPly := 0, body := [], state := 1 })], fresh := 7, pend := [6], ready := [2] } }) 6 : State) = w_taskReady_all.disp.pend.foldl State.makeReady w_taskReady_all)) ∧ (match exec (.taskReady) w_taskReady_all with
    | .next t => decide ((t.out = w_taskReady_all.out ++ ((List.range 16).filter (fun i => t.dispIrq i && !w_taskReady_all.dispIrq i)).map (fun i => Output.irqOwner (0x10 + i) 0)) ∧ (t = { (State.makeReady ({ at_ ([(DISP_CTRL_EN, 1), (PAIR_STATUS_ACTIVE, 1), (DISP_CORE_EN 3, 1)]) with disp := { tasks := [(6, { id := 4102, level := 5, flags := 8, mask := 1, target := 0, origin := 0x10, readyPly := 0, body := [], state := 1 })], fresh := 7, pend := [6], ready := [2] } }) 6 : State) with out := t.out }) ∧ ((State.makeReady ({ at_ ([(DISP_CTRL_EN, 1), (PAIR_STATUS_ACTIVE, 1), (DISP_CORE_EN 3, 1)]) with disp := { tasks := [(6, { id := 4102, level := 5, flags := 8, mask := 1, target := 0, origin := 0x10, readyPly := 0, body := [], state := 1 })], fresh := 7, pend := [6], ready := [2] } }) 6 : State).regs = w_taskReady_all.regs) ∧ ((State.makeReady ({ at_ ([(DISP_CTRL_EN, 1), (PAIR_STATUS_ACTIVE, 1), (DISP_CORE_EN 3, 1)]) with disp := { tasks := [(6, { id := 4102, level := 5, flags := 8, mask := 1, target := 0, origin := 0x10, readyPly := 0, body := [], state := 1 })], fresh := 7, pend := [6], ready := [2] } }) 6 : State) = { w_taskReady_all with disp := { w_taskReady_all.disp with tasks := (State.makeReady ({ at_ ([(DISP_CTRL_EN, 1), (PAIR_STATUS_ACTIVE, 1), (DISP_CORE_EN 3, 1)]) with disp := { tasks := [(6, { id := 4102, level := 5, flags := 8, mask := 1, target := 0, origin := 0x10, readyPly := 0, body := [], state := 1 })], fresh := 7, pend := [6], ready := [2] } }) 6 : State).disp.tasks, pend := (State.makeReady ({ at_ ([(DISP_CTRL_EN, 1), (PAIR_STATUS_ACTIVE, 1), (DISP_CORE_EN 3, 1)]) with disp := { tasks := [(6, { id := 4102, level := 5, flags := 8, mask := 1, target := 0, origin := 0x10, readyPly := 0, body := [], state := 1 })], fresh := 7, pend := [6], ready := [2] } }) 6 : State).disp.pend, ready := (State.makeReady ({ at_ ([(DISP_CTRL_EN, 1), (PAIR_STATUS_ACTIVE, 1), (DISP_CORE_EN 3, 1)]) with disp := { tasks := [(6, { id := 4102, level := 5, flags := 8, mask := 1, target := 0, origin := 0x10, readyPly := 0, body := [], state := 1 })], fresh := 7, pend := [6], ready := [2] } }) 6 : State).disp.ready } }))
    | _ => false) = true := by decide +kernel

theorem test_taskReady_none : ((wReset.stopSafe = true) ∧ (wReset.dispRuns = false ∨ wReset.disp.pend.any (fun (x : Nat) => (wReset.task x).any (fun (k : Task) => k.state == 1 && wReset.taskDue k)) = false)) ∧ (match exec (.taskReady) wReset with
    | .next t => decide ((t = wReset))
    | _ => false) = true := by decide +kernel

def w_dispTake : State := { at_ ([(DISP_CTRL_EN, 1), (PAIR_STATUS_ACTIVE, 1), (DISP_CORE_EN 3, 1), (DISP_CORE_RUN_LEVEL 3, 64)]) with disp := { tasks := [(6, { id := 4102, level := 5, flags := 0, mask := 8, target := 0, origin := 0x10, readyPly := 0, body := [], state := 2, susp := true })], fresh := 7, ready := [6] } }

theorem test_dispTake : ((w_dispTake.stopSafe = true) ∧ (3 < 16) ∧ (MayRead w_dispTake 0x13 (0x40400404 + 0x10 * 3)) ∧ (w_dispTake.dispRuns = true) ∧ (w_dispTake.bit (DISP_CORE_EN 3) = true) ∧ (w_dispTake.taskOf (w_dispTake.get (DISP_RUN_ID 3)) = none) ∧ (w_dispTake.bestReady 3 w_dispTake.disp.ready = some ({ id := 4102, level := 5, flags := 0, mask := 8, target := 0, origin := 0x10, readyPly := 0, body := [], state := 2, susp := true } : Task)) ∧ (({ id := 4102, level := 5, flags := 0, mask := 8, target := 0, origin := 0x10, readyPly := 0, body := [], state := 2, susp := true } : Task).id < 2 ^ 32) ∧ (({ id := 4102, level := 5, flags := 0, mask := 8, target := 0, origin := 0x10, readyPly := 0, body := [], state := 2, susp := true } : Task).level < 64)) ∧ (match exec (.dispTake 0x13 3) w_dispTake with
    | .next t => decide ((Reads t [(DISP_TAKE_ID 3, ({ id := 4102, level := 5, flags := 0, mask := 8, target := 0, origin := 0x10, readyPly := 0, body := [], state := 2, susp := true } : Task).id), (DISP_RUN_ID 3, ({ id := 4102, level := 5, flags := 0, mask := 8, target := 0, origin := 0x10, readyPly := 0, body := [], state := 2, susp := true } : Task).id), (DISP_CORE_RUN_LEVEL 3, ({ id := 4102, level := 5, flags := 0, mask := 8, target := 0, origin := 0x10, readyPly := 0, body := [], state := 2, susp := true } : Task).level), (DISP_CORE_TOOK_SUSP 3, b2n ({ id := 4102, level := 5, flags := 0, mask := 8, target := 0, origin := 0x10, readyPly := 0, body := [], state := 2, susp := true } : Task).susp)]) ∧ (t.disp = { w_dispTake.disp with ready := w_dispTake.disp.ready.filter (fun (x : Nat) => x ≠ taskIx ({ id := 4102, level := 5, flags := 0, mask := 8, target := 0, origin := 0x10, readyPly := 0, body := [], state := 2, susp := true } : Task).id), tasks := w_dispTake.disp.tasks.filter (fun (e : Nat × Task) => e.1 ≠ taskIx ({ id := 4102, level := 5, flags := 0, mask := 8, target := 0, origin := 0x10, readyPly := 0, body := [], state := 2, susp := true } : Task).id) ++ [(taskIx ({ id := 4102, level := 5, flags := 0, mask := 8, target := 0, origin := 0x10, readyPly := 0, body := [], state := 2, susp := true } : Task).id, { ({ id := 4102, level := 5, flags := 0, mask := 8, target := 0, origin := 0x10, readyPly := 0, body := [], state := 2, susp := true } : Task) with state := 5, exec := 0x10 + 3, susp := false })] }) ∧ (t.out = w_dispTake.out ++ ((List.range 16).filter (fun i => t.dispIrq i && !w_dispTake.dispIrq i)).map (fun i => Output.irqOwner (0x10 + i) 0)))
    | _ => false) = true := by decide +kernel

def w_dispTake_preempts : State := { at_ ([(DISP_CTRL_EN, 1), (PAIR_STATUS_ACTIVE, 1), (DISP_CORE_EN 3, 1), (DISP_CORE_RUN_LEVEL 3, 64)]) with disp := { tasks := [(6, { id := 4102, level := 5, flags := 0, mask := 8, target := 0, origin := 0x10, readyPly := 0, body := [], state := 2, susp := true })], fresh := 7, ready := [6] } }

theorem test_dispTake_preempts : ((w_dispTake_preempts.stopSafe = true) ∧ (3 < 16) ∧ (MayRead w_dispTake_preempts 0x13 (0x40400404 + 0x10 * 3)) ∧ (w_dispTake_preempts.dispRuns = true) ∧ (w_dispTake_preempts.bit (DISP_CORE_EN 3) = true) ∧ (w_dispTake_preempts.bestReady 3 w_dispTake_preempts.disp.ready = some ({ id := 4102, level := 5, flags := 0, mask := 8, target := 0, origin := 0x10, readyPly := 0, body := [], state := 2, susp := true } : Task)) ∧ (({ ({ at_ ([(DISP_CTRL_EN, 1), (PAIR_STATUS_ACTIVE, 1), (DISP_CORE_EN 3, 1), (DISP_CORE_RUN_LEVEL 3, 64)]) with disp := { tasks := [(6, { id := 4102, level := 5, flags := 0, mask := 8, target := 0, origin := 0x10, readyPly := 0, body := [], state := 2, susp := true })], fresh := 7, ready := [6] } } : State) with disp := { tasks := [(6, { id := 4102, level := 5, flags := 0, mask := 8, target := 0, origin := 0x10, readyPly := 0, body := [], state := 2, susp := true })], fresh := 7 } } : State) = State.suspendTask { w_dispTake_preempts with disp := { w_dispTake_preempts.disp with ready := w_dispTake_preempts.disp.ready.filter (fun (x : Nat) => x ≠ taskIx ({ id := 4102, level := 5, flags := 0, mask := 8, target := 0, origin := 0x10, readyPly := 0, body := [], state := 2, susp := true } : Task).id) } } 3 true) ∧ ((State.puts (State.setTask { ({ at_ ([(DISP_CTRL_EN, 1), (PAIR_STATUS_ACTIVE, 1), (DISP_CORE_EN 3, 1), (DISP_CORE_RUN_LEVEL 3, 64)]) with disp := { tasks := [(6, { id := 4102, level := 5, flags := 0, mask := 8, target := 0, origin := 0x10, readyPly := 0, body := [], state := 2, susp := true })], fresh := 7, ready := [6] } } : State) with disp := { tasks := [(6, { id := 4102, level := 5, flags := 0, mask := 8, target := 0, origin := 0x10, readyPly := 0, body := [], state := 2, susp := true })], fresh := 7 } } { ({ id := 4102, level := 5, flags := 0, mask := 8, target := 0, origin := 0x10, readyPly := 0, body := [], state := 2, susp := true } : Task) with state := 5, exec := 0x13, susp := false }) [(DISP_TAKE_ID 3, 4102), (DISP_RUN_ID 3, 4102), (DISP_CORE_RUN_LEVEL 3, 5), (DISP_CORE_TOOK_SUSP 3, 1)] : State) = State.puts (State.setTask ({ ({ at_ ([(DISP_CTRL_EN, 1), (PAIR_STATUS_ACTIVE, 1), (DISP_CORE_EN 3, 1), (DISP_CORE_RUN_LEVEL 3, 64)]) with disp := { tasks := [(6, { id := 4102, level := 5, flags := 0, mask := 8, target := 0, origin := 0x10, readyPly := 0, body := [], state := 2, susp := true })], fresh := 7, ready := [6] } } : State) with disp := { tasks := [(6, { id := 4102, level := 5, flags := 0, mask := 8, target := 0, origin := 0x10, readyPly := 0, body := [], state := 2, susp := true })], fresh := 7 } } : State) { ({ id := 4102, level := 5, flags := 0, mask := 8, target := 0, origin := 0x10, readyPly := 0, body := [], state := 2, susp := true } : Task) with state := 5, exec := 0x10 + 3, susp := false }) [(DISP_TAKE_ID 3, ({ id := 4102, level := 5, flags := 0, mask := 8, target := 0, origin := 0x10, readyPly := 0, body := [], state := 2, susp := true } : Task).id), (DISP_RUN_ID 3, ({ id := 4102, level := 5, flags := 0, mask := 8, target := 0, origin := 0x10, readyPly := 0, body := [], state := 2, susp := true } : Task).id), (DISP_CORE_RUN_LEVEL 3, ({ id := 4102, level := 5, flags := 0, mask := 8, target := 0, origin := 0x10, readyPly := 0, body := [], state := 2, susp := true } : Task).level), (DISP_CORE_TOOK_SUSP 3, b2n ({ id := 4102, level := 5, flags := 0, mask := 8, target := 0, origin := 0x10, readyPly := 0, body := [], state := 2, susp := true } : Task).susp)])) ∧ (match exec (.dispTake 0x13 3) w_dispTake_preempts with
    | .next t => decide ((t = { (State.puts (State.setTask { ({ at_ ([(DISP_CTRL_EN, 1), (PAIR_STATUS_ACTIVE, 1), (DISP_CORE_EN 3, 1), (DISP_CORE_RUN_LEVEL 3, 64)]) with disp := { tasks := [(6, { id := 4102, level := 5, flags := 0, mask := 8, target := 0, origin := 0x10, readyPly := 0, body := [], state := 2, susp := true })], fresh := 7, ready := [6] } } : State) with disp := { tasks := [(6, { id := 4102, level := 5, flags := 0, mask := 8, target := 0, origin := 0x10, readyPly := 0, body := [], state := 2, susp := true })], fresh := 7 } } { ({ id := 4102, level := 5, flags := 0, mask := 8, target := 0, origin := 0x10, readyPly := 0, body := [], state := 2, susp := true } : Task) with state := 5, exec := 0x13, susp := false }) [(DISP_TAKE_ID 3, 4102), (DISP_RUN_ID 3, 4102), (DISP_CORE_RUN_LEVEL 3, 5), (DISP_CORE_TOOK_SUSP 3, 1)] : State) with out := t.out }) ∧ (t.out = w_dispTake_preempts.out ++ ((List.range 16).filter (fun i => t.dispIrq i && !w_dispTake_preempts.dispIrq i)).map (fun i => Output.irqOwner (0x10 + i) 0)))
    | _ => false) = true := by decide +kernel

theorem test_dispTake_none : ((wReset.stopSafe = true) ∧ (15 < 16) ∧ (MayRead wReset 0x1F (0x40400404 + 0x10 * 15)) ∧ (wReset.dispRuns = false ∨ wReset.bit (DISP_CORE_EN 15) = false ∨ wReset.bestReady 15 wReset.disp.ready = none)) ∧ (match exec (.dispTake 0x1F 15) wReset with
    | .next t => decide ((Reads t [(DISP_TAKE_ID 15, 0)]))
    | _ => false) = true := by decide +kernel

def w_dispDone : State := { at_ ([(DISP_CTRL_EN, 1), (PAIR_STATUS_ACTIVE, 1), (DISP_CORE_EN 3, 1), (DISP_RUN_ID 3, 4102), (DISP_DESC_WORD 0x13 0, 99)]) with disp := { tasks := [(6, { id := 4102, level := 5, flags := 0, mask := 1, target := 0, origin := 0x10, readyPly := 0, body := [], state := 5, exec := 0x13 })], fresh := 7 } }

theorem test_dispDone : ((w_dispDone.stopSafe = true) ∧ (3 < 16) ∧ (MayWrite w_dispDone 0x13 (0x4040040C + 0x10 * 3)) ∧ (w_dispDone.taskOf (w_dispDone.get (DISP_RUN_ID 3)) = some ({ id := 4102, level := 5, flags := 0, mask := 1, target := 0, origin := 0x10, readyPly := 0, body := [], state := 5, exec := 0x13 } : Task)) ∧ (({ id := 4102, level := 5, flags := 0, mask := 1, target := 0, origin := 0x10, readyPly := 0, body := [], state := 5, exec := 0x13 } : Task).state = 5) ∧ (bits 0x105 9 8 ≠ 3) ∧ ((State.unstall (State.produce (State.setTask { (State.puts ({ at_ ([(DISP_CTRL_EN, 1), (PAIR_STATUS_ACTIVE, 1), (DISP_CORE_EN 3, 1), (DISP_RUN_ID 3, 4102), (DISP_DESC_WORD 0x13 0, 99)]) with disp := { tasks := [(6, { id := 4102, level := 5, flags := 0, mask := 1, target := 0, origin := 0x10, readyPly := 0, body := [], state := 5, exec := 0x13 })], fresh := 7 } } : State) [(DISP_RUN_ID 3, 0), (DISP_CORE_RUN_LEVEL 3, 64)]) with disp := { ({ at_ ([(DISP_CTRL_EN, 1), (PAIR_STATUS_ACTIVE, 1), (DISP_CORE_EN 3, 1), (DISP_RUN_ID 3, 4102), (DISP_DESC_WORD 0x13 0, 99)]) with disp := { tasks := [(6, { id := 4102, level := 5, flags := 0, mask := 1, target := 0, origin := 0x10, readyPly := 0, body := [], state := 5, exec := 0x13 })], fresh := 7 } } : State).disp with pend := ({ at_ ([(DISP_CTRL_EN, 1), (PAIR_STATUS_ACTIVE, 1), (DISP_CORE_EN 3, 1), (DISP_RUN_ID 3, 4102), (DISP_DESC_WORD 0x13 0, 99)]) with disp := { tasks := [(6, { id := 4102, level := 5, flags := 0, mask := 1, target := 0, origin := 0x10, readyPly := 0, body := [], state := 5, exec := 0x13 })], fresh := 7 } } : State).disp.pend.filter (fun (x : Nat) => x ≠ taskIx ({ id := 4102, level := 5, flags := 0, mask := 1, target := 0, origin := 0x10, readyPly := 0, body := [], state := 5, exec := 0x13 } : Task).id), ready := ({ at_ ([(DISP_CTRL_EN, 1), (PAIR_STATUS_ACTIVE, 1), (DISP_CORE_EN 3, 1), (DISP_RUN_ID 3, 4102), (DISP_DESC_WORD 0x13 0, 99)]) with disp := { tasks := [(6, { id := 4102, level := 5, flags := 0, mask := 1, target := 0, origin := 0x10, readyPly := 0, body := [], state := 5, exec := 0x13 })], fresh := 7 } } : State).disp.ready.filter (fun (x : Nat) => x ≠ taskIx ({ id := 4102, level := 5, flags := 0, mask := 1, target := 0, origin := 0x10, readyPly := 0, body := [], state := 5, exec := 0x13 } : Task).id), freed := ({ at_ ([(DISP_CTRL_EN, 1), (PAIR_STATUS_ACTIVE, 1), (DISP_CORE_EN 3, 1), (DISP_RUN_ID 3, 4102), (DISP_DESC_WORD 0x13 0, 99)]) with disp := { tasks := [(6, { id := 4102, level := 5, flags := 0, mask := 1, target := 0, origin := 0x10, readyPly := 0, body := [], state := 5, exec := 0x13 })], fresh := 7 } } : State).disp.freed ++ [taskIx ({ id := 4102, level := 5, flags := 0, mask := 1, target := 0, origin := 0x10, readyPly := 0, body := [], state := 5, exec := 0x13 } : Task).id] } } ({ ({ id := 4102, level := 5, flags := 0, mask := 1, target := 0, origin := 0x10, readyPly := 0, body := [], state := 5, exec := 0x13 } : Task) with result := bits 0x105 7 0, data := ({ at_ ([(DISP_CTRL_EN, 1), (PAIR_STATUS_ACTIVE, 1), (DISP_CORE_EN 3, 1), (DISP_RUN_ID 3, 4102), (DISP_DESC_WORD 0x13 0, 99)]) with disp := { tasks := [(6, { id := 4102, level := 5, flags := 0, mask := 1, target := 0, origin := 0x10, readyPly := 0, body := [], state := 5, exec := 0x13 })], fresh := 7 } } : State).get (DISP_DESC_WORD (0x10 + 3) 0), state := 6 + bits 0x105 9 8, endPly := ({ at_ ([(DISP_CTRL_EN, 1), (PAIR_STATUS_ACTIVE, 1), (DISP_CORE_EN 3, 1), (DISP_RUN_ID 3, 4102), (DISP_DESC_WORD 0x13 0, 99)]) with disp := { tasks := [(6, { id := 4102, level := 5, flags := 0, mask := 1, target := 0, origin := 0x10, readyPly := 0, body := [], state := 5, exec := 0x13 })], fresh := 7 } } : State).ply })) 5 (leBytes 4 ({ id := 4102, level := 5, flags := 0, mask := 1, target := 0, origin := 0x10, readyPly := 0, body := [], state := 5, exec := 0x13 } : Task).id ++ [6 + bits 0x105 9 8, bits 0x105 7 0, ({ id := 4102, level := 5, flags := 0, mask := 1, target := 0, origin := 0x10, readyPly := 0, body := [], state := 5, exec := 0x13 } : Task).exec, b2n ({ id := 4102, level := 5, flags := 0, mask := 1, target := 0, origin := 0x10, readyPly := 0, body := [], state := 5, exec := 0x13 } : Task).unknownEnd + 2 * b2n ({ id := 4102, level := 5, flags := 0, mask := 1, target := 0, origin := 0x10, readyPly := 0, body := [], state := 5, exec := 0x13 } : Task).requeued] ++ leBytes 4 (({ at_ ([(DISP_CTRL_EN, 1), (PAIR_STATUS_ACTIVE, 1), (DISP_CORE_EN 3, 1), (DISP_RUN_ID 3, 4102), (DISP_DESC_WORD 0x13 0, 99)]) with disp := { tasks := [(6, { id := 4102, level := 5, flags := 0, mask := 1, target := 0, origin := 0x10, readyPly := 0, body := [], state := 5, exec := 0x13 })], fresh := 7 } } : State).get (DISP_DESC_WORD (0x10 + 3) 0)) ++ leBytes 8 ({ at_ ([(DISP_CTRL_EN, 1), (PAIR_STATUS_ACTIVE, 1), (DISP_CORE_EN 3, 1), (DISP_RUN_ID 3, 4102), (DISP_DESC_WORD 0x13 0, 99)]) with disp := { tasks := [(6, { id := 4102, level := 5, flags := 0, mask := 1, target := 0, origin := 0x10, readyPly := 0, body := [], state := 5, exec := 0x13 })], fresh := 7 } } : State).ply) (some (({ at_ ([(DISP_CTRL_EN, 1), (PAIR_STATUS_ACTIVE, 1), (DISP_CORE_EN 3, 1), (DISP_RUN_ID 3, 4102), (DISP_DESC_WORD 0x13 0, 99)]) with disp := { tasks := [(6, { id := 4102, level := 5, flags := 0, mask := 1, target := 0, origin := 0x10, readyPly := 0, body := [], state := 5, exec := 0x13 })], fresh := 7 } } : State).ply + 10000))) : State) = State.unstall (State.produce (State.setTask { (State.puts w_dispDone [(DISP_RUN_ID 3, 0), (DISP_CORE_RUN_LEVEL 3, 64)]) with disp := { w_dispDone.disp with pend := w_dispDone.disp.pend.filter (fun (x : Nat) => x ≠ taskIx ({ id := 4102, level := 5, flags := 0, mask := 1, target := 0, origin := 0x10, readyPly := 0, body := [], state := 5, exec := 0x13 } : Task).id), ready := w_dispDone.disp.ready.filter (fun (x : Nat) => x ≠ taskIx ({ id := 4102, level := 5, flags := 0, mask := 1, target := 0, origin := 0x10, readyPly := 0, body := [], state := 5, exec := 0x13 } : Task).id), freed := w_dispDone.disp.freed ++ [taskIx ({ id := 4102, level := 5, flags := 0, mask := 1, target := 0, origin := 0x10, readyPly := 0, body := [], state := 5, exec := 0x13 } : Task).id] } } ({ ({ id := 4102, level := 5, flags := 0, mask := 1, target := 0, origin := 0x10, readyPly := 0, body := [], state := 5, exec := 0x13 } : Task) with result := bits 0x105 7 0, data := w_dispDone.get (DISP_DESC_WORD (0x10 + 3) 0), state := 6 + bits 0x105 9 8, endPly := w_dispDone.ply })) 5 (leBytes 4 ({ id := 4102, level := 5, flags := 0, mask := 1, target := 0, origin := 0x10, readyPly := 0, body := [], state := 5, exec := 0x13 } : Task).id ++ [6 + bits 0x105 9 8, bits 0x105 7 0, ({ id := 4102, level := 5, flags := 0, mask := 1, target := 0, origin := 0x10, readyPly := 0, body := [], state := 5, exec := 0x13 } : Task).exec, b2n ({ id := 4102, level := 5, flags := 0, mask := 1, target := 0, origin := 0x10, readyPly := 0, body := [], state := 5, exec := 0x13 } : Task).unknownEnd + 2 * b2n ({ id := 4102, level := 5, flags := 0, mask := 1, target := 0, origin := 0x10, readyPly := 0, body := [], state := 5, exec := 0x13 } : Task).requeued] ++ leBytes 4 (w_dispDone.get (DISP_DESC_WORD (0x10 + 3) 0)) ++ leBytes 8 w_dispDone.ply) (some (w_dispDone.ply + 10000))))) ∧ (match exec (.dispDone 0x13 3 0x105) w_dispDone with
    | .next t => decide ((t = { (State.unstall (State.produce (State.setTask { (State.puts ({ at_ ([(DISP_CTRL_EN, 1), (PAIR_STATUS_ACTIVE, 1), (DISP_CORE_EN 3, 1), (DISP_RUN_ID 3, 4102), (DISP_DESC_WORD 0x13 0, 99)]) with disp := { tasks := [(6, { id := 4102, level := 5, flags := 0, mask := 1, target := 0, origin := 0x10, readyPly := 0, body := [], state := 5, exec := 0x13 })], fresh := 7 } } : State) [(DISP_RUN_ID 3, 0), (DISP_CORE_RUN_LEVEL 3, 64)]) with disp := { ({ at_ ([(DISP_CTRL_EN, 1), (PAIR_STATUS_ACTIVE, 1), (DISP_CORE_EN 3, 1), (DISP_RUN_ID 3, 4102), (DISP_DESC_WORD 0x13 0, 99)]) with disp := { tasks := [(6, { id := 4102, level := 5, flags := 0, mask := 1, target := 0, origin := 0x10, readyPly := 0, body := [], state := 5, exec := 0x13 })], fresh := 7 } } : State).disp with pend := ({ at_ ([(DISP_CTRL_EN, 1), (PAIR_STATUS_ACTIVE, 1), (DISP_CORE_EN 3, 1), (DISP_RUN_ID 3, 4102), (DISP_DESC_WORD 0x13 0, 99)]) with disp := { tasks := [(6, { id := 4102, level := 5, flags := 0, mask := 1, target := 0, origin := 0x10, readyPly := 0, body := [], state := 5, exec := 0x13 })], fresh := 7 } } : State).disp.pend.filter (fun (x : Nat) => x ≠ taskIx ({ id := 4102, level := 5, flags := 0, mask := 1, target := 0, origin := 0x10, readyPly := 0, body := [], state := 5, exec := 0x13 } : Task).id), ready := ({ at_ ([(DISP_CTRL_EN, 1), (PAIR_STATUS_ACTIVE, 1), (DISP_CORE_EN 3, 1), (DISP_RUN_ID 3, 4102), (DISP_DESC_WORD 0x13 0, 99)]) with disp := { tasks := [(6, { id := 4102, level := 5, flags := 0, mask := 1, target := 0, origin := 0x10, readyPly := 0, body := [], state := 5, exec := 0x13 })], fresh := 7 } } : State).disp.ready.filter (fun (x : Nat) => x ≠ taskIx ({ id := 4102, level := 5, flags := 0, mask := 1, target := 0, origin := 0x10, readyPly := 0, body := [], state := 5, exec := 0x13 } : Task).id), freed := ({ at_ ([(DISP_CTRL_EN, 1), (PAIR_STATUS_ACTIVE, 1), (DISP_CORE_EN 3, 1), (DISP_RUN_ID 3, 4102), (DISP_DESC_WORD 0x13 0, 99)]) with disp := { tasks := [(6, { id := 4102, level := 5, flags := 0, mask := 1, target := 0, origin := 0x10, readyPly := 0, body := [], state := 5, exec := 0x13 })], fresh := 7 } } : State).disp.freed ++ [taskIx ({ id := 4102, level := 5, flags := 0, mask := 1, target := 0, origin := 0x10, readyPly := 0, body := [], state := 5, exec := 0x13 } : Task).id] } } ({ ({ id := 4102, level := 5, flags := 0, mask := 1, target := 0, origin := 0x10, readyPly := 0, body := [], state := 5, exec := 0x13 } : Task) with result := bits 0x105 7 0, data := ({ at_ ([(DISP_CTRL_EN, 1), (PAIR_STATUS_ACTIVE, 1), (DISP_CORE_EN 3, 1), (DISP_RUN_ID 3, 4102), (DISP_DESC_WORD 0x13 0, 99)]) with disp := { tasks := [(6, { id := 4102, level := 5, flags := 0, mask := 1, target := 0, origin := 0x10, readyPly := 0, body := [], state := 5, exec := 0x13 })], fresh := 7 } } : State).get (DISP_DESC_WORD (0x10 + 3) 0), state := 6 + bits 0x105 9 8, endPly := ({ at_ ([(DISP_CTRL_EN, 1), (PAIR_STATUS_ACTIVE, 1), (DISP_CORE_EN 3, 1), (DISP_RUN_ID 3, 4102), (DISP_DESC_WORD 0x13 0, 99)]) with disp := { tasks := [(6, { id := 4102, level := 5, flags := 0, mask := 1, target := 0, origin := 0x10, readyPly := 0, body := [], state := 5, exec := 0x13 })], fresh := 7 } } : State).ply })) 5 (leBytes 4 ({ id := 4102, level := 5, flags := 0, mask := 1, target := 0, origin := 0x10, readyPly := 0, body := [], state := 5, exec := 0x13 } : Task).id ++ [6 + bits 0x105 9 8, bits 0x105 7 0, ({ id := 4102, level := 5, flags := 0, mask := 1, target := 0, origin := 0x10, readyPly := 0, body := [], state := 5, exec := 0x13 } : Task).exec, b2n ({ id := 4102, level := 5, flags := 0, mask := 1, target := 0, origin := 0x10, readyPly := 0, body := [], state := 5, exec := 0x13 } : Task).unknownEnd + 2 * b2n ({ id := 4102, level := 5, flags := 0, mask := 1, target := 0, origin := 0x10, readyPly := 0, body := [], state := 5, exec := 0x13 } : Task).requeued] ++ leBytes 4 (({ at_ ([(DISP_CTRL_EN, 1), (PAIR_STATUS_ACTIVE, 1), (DISP_CORE_EN 3, 1), (DISP_RUN_ID 3, 4102), (DISP_DESC_WORD 0x13 0, 99)]) with disp := { tasks := [(6, { id := 4102, level := 5, flags := 0, mask := 1, target := 0, origin := 0x10, readyPly := 0, body := [], state := 5, exec := 0x13 })], fresh := 7 } } : State).get (DISP_DESC_WORD (0x10 + 3) 0)) ++ leBytes 8 ({ at_ ([(DISP_CTRL_EN, 1), (PAIR_STATUS_ACTIVE, 1), (DISP_CORE_EN 3, 1), (DISP_RUN_ID 3, 4102), (DISP_DESC_WORD 0x13 0, 99)]) with disp := { tasks := [(6, { id := 4102, level := 5, flags := 0, mask := 1, target := 0, origin := 0x10, readyPly := 0, body := [], state := 5, exec := 0x13 })], fresh := 7 } } : State).ply) (some (({ at_ ([(DISP_CTRL_EN, 1), (PAIR_STATUS_ACTIVE, 1), (DISP_CORE_EN 3, 1), (DISP_RUN_ID 3, 4102), (DISP_DESC_WORD 0x13 0, 99)]) with disp := { tasks := [(6, { id := 4102, level := 5, flags := 0, mask := 1, target := 0, origin := 0x10, readyPly := 0, body := [], state := 5, exec := 0x13 })], fresh := 7 } } : State).ply + 10000))) : State) with out := t.out }) ∧ (t.out = (State.unstall (State.produce (State.setTask { (State.puts ({ at_ ([(DISP_CTRL_EN, 1), (PAIR_STATUS_ACTIVE, 1), (DISP_CORE_EN 3, 1), (DISP_RUN_ID 3, 4102), (DISP_DESC_WORD 0x13 0, 99)]) with disp := { tasks := [(6, { id := 4102, level := 5, flags := 0, mask := 1, target := 0, origin := 0x10, readyPly := 0, body := [], state := 5, exec := 0x13 })], fresh := 7 } } : State) [(DISP_RUN_ID 3, 0), (DISP_CORE_RUN_LEVEL 3, 64)]) with disp := { ({ at_ ([(DISP_CTRL_EN, 1), (PAIR_STATUS_ACTIVE, 1), (DISP_CORE_EN 3, 1), (DISP_RUN_ID 3, 4102), (DISP_DESC_WORD 0x13 0, 99)]) with disp := { tasks := [(6, { id := 4102, level := 5, flags := 0, mask := 1, target := 0, origin := 0x10, readyPly := 0, body := [], state := 5, exec := 0x13 })], fresh := 7 } } : State).disp with pend := ({ at_ ([(DISP_CTRL_EN, 1), (PAIR_STATUS_ACTIVE, 1), (DISP_CORE_EN 3, 1), (DISP_RUN_ID 3, 4102), (DISP_DESC_WORD 0x13 0, 99)]) with disp := { tasks := [(6, { id := 4102, level := 5, flags := 0, mask := 1, target := 0, origin := 0x10, readyPly := 0, body := [], state := 5, exec := 0x13 })], fresh := 7 } } : State).disp.pend.filter (fun (x : Nat) => x ≠ taskIx ({ id := 4102, level := 5, flags := 0, mask := 1, target := 0, origin := 0x10, readyPly := 0, body := [], state := 5, exec := 0x13 } : Task).id), ready := ({ at_ ([(DISP_CTRL_EN, 1), (PAIR_STATUS_ACTIVE, 1), (DISP_CORE_EN 3, 1), (DISP_RUN_ID 3, 4102), (DISP_DESC_WORD 0x13 0, 99)]) with disp := { tasks := [(6, { id := 4102, level := 5, flags := 0, mask := 1, target := 0, origin := 0x10, readyPly := 0, body := [], state := 5, exec := 0x13 })], fresh := 7 } } : State).disp.ready.filter (fun (x : Nat) => x ≠ taskIx ({ id := 4102, level := 5, flags := 0, mask := 1, target := 0, origin := 0x10, readyPly := 0, body := [], state := 5, exec := 0x13 } : Task).id), freed := ({ at_ ([(DISP_CTRL_EN, 1), (PAIR_STATUS_ACTIVE, 1), (DISP_CORE_EN 3, 1), (DISP_RUN_ID 3, 4102), (DISP_DESC_WORD 0x13 0, 99)]) with disp := { tasks := [(6, { id := 4102, level := 5, flags := 0, mask := 1, target := 0, origin := 0x10, readyPly := 0, body := [], state := 5, exec := 0x13 })], fresh := 7 } } : State).disp.freed ++ [taskIx ({ id := 4102, level := 5, flags := 0, mask := 1, target := 0, origin := 0x10, readyPly := 0, body := [], state := 5, exec := 0x13 } : Task).id] } } ({ ({ id := 4102, level := 5, flags := 0, mask := 1, target := 0, origin := 0x10, readyPly := 0, body := [], state := 5, exec := 0x13 } : Task) with result := bits 0x105 7 0, data := ({ at_ ([(DISP_CTRL_EN, 1), (PAIR_STATUS_ACTIVE, 1), (DISP_CORE_EN 3, 1), (DISP_RUN_ID 3, 4102), (DISP_DESC_WORD 0x13 0, 99)]) with disp := { tasks := [(6, { id := 4102, level := 5, flags := 0, mask := 1, target := 0, origin := 0x10, readyPly := 0, body := [], state := 5, exec := 0x13 })], fresh := 7 } } : State).get (DISP_DESC_WORD (0x10 + 3) 0), state := 6 + bits 0x105 9 8, endPly := ({ at_ ([(DISP_CTRL_EN, 1), (PAIR_STATUS_ACTIVE, 1), (DISP_CORE_EN 3, 1), (DISP_RUN_ID 3, 4102), (DISP_DESC_WORD 0x13 0, 99)]) with disp := { tasks := [(6, { id := 4102, level := 5, flags := 0, mask := 1, target := 0, origin := 0x10, readyPly := 0, body := [], state := 5, exec := 0x13 })], fresh := 7 } } : State).ply })) 5 (leBytes 4 ({ id := 4102, level := 5, flags := 0, mask := 1, target := 0, origin := 0x10, readyPly := 0, body := [], state := 5, exec := 0x13 } : Task).id ++ [6 + bits 0x105 9 8, bits 0x105 7 0, ({ id := 4102, level := 5, flags := 0, mask := 1, target := 0, origin := 0x10, readyPly := 0, body := [], state := 5, exec := 0x13 } : Task).exec, b2n ({ id := 4102, level := 5, flags := 0, mask := 1, target := 0, origin := 0x10, readyPly := 0, body := [], state := 5, exec := 0x13 } : Task).unknownEnd + 2 * b2n ({ id := 4102, level := 5, flags := 0, mask := 1, target := 0, origin := 0x10, readyPly := 0, body := [], state := 5, exec := 0x13 } : Task).requeued] ++ leBytes 4 (({ at_ ([(DISP_CTRL_EN, 1), (PAIR_STATUS_ACTIVE, 1), (DISP_CORE_EN 3, 1), (DISP_RUN_ID 3, 4102), (DISP_DESC_WORD 0x13 0, 99)]) with disp := { tasks := [(6, { id := 4102, level := 5, flags := 0, mask := 1, target := 0, origin := 0x10, readyPly := 0, body := [], state := 5, exec := 0x13 })], fresh := 7 } } : State).get (DISP_DESC_WORD (0x10 + 3) 0)) ++ leBytes 8 ({ at_ ([(DISP_CTRL_EN, 1), (PAIR_STATUS_ACTIVE, 1), (DISP_CORE_EN 3, 1), (DISP_RUN_ID 3, 4102), (DISP_DESC_WORD 0x13 0, 99)]) with disp := { tasks := [(6, { id := 4102, level := 5, flags := 0, mask := 1, target := 0, origin := 0x10, readyPly := 0, body := [], state := 5, exec := 0x13 })], fresh := 7 } } : State).ply) (some (({ at_ ([(DISP_CTRL_EN, 1), (PAIR_STATUS_ACTIVE, 1), (DISP_CORE_EN 3, 1), (DISP_RUN_ID 3, 4102), (DISP_DESC_WORD 0x13 0, 99)]) with disp := { tasks := [(6, { id := 4102, level := 5, flags := 0, mask := 1, target := 0, origin := 0x10, readyPly := 0, body := [], state := 5, exec := 0x13 })], fresh := 7 } } : State).ply + 10000))) : State).out ++ ((List.range 16).filter (fun i => t.dispIrq i && !(State.puts w_dispDone [(DISP_RUN_ID 3, 0), (DISP_CORE_RUN_LEVEL 3, 64)]).dispIrq i)).map (fun i => Output.irqOwner (0x10 + i) 0)))
    | _ => false) = true := by decide +kernel

def w_dispDone_quiet : State := { at_ ([(DISP_CTRL_EN, 1), (PAIR_STATUS_ACTIVE, 1), (DISP_CORE_EN 3, 1), (DISP_RUN_ID 3, 4102), (DISP_DESC_WORD 0x13 0, 99)]) with disp := { tasks := [(6, { id := 4102, level := 5, flags := 0, mask := 1, target := 0, origin := 0x10, readyPly := 0, body := [], state := 5, exec := 0x13 })], fresh := 7 } }

theorem test_dispDone_quiet : ((w_dispDone_quiet.stopSafe = true) ∧ (3 < 16) ∧ (MayWrite w_dispDone_quiet 0x13 (0x4040040C + 0x10 * 3)) ∧ (w_dispDone_quiet.taskOf (w_dispDone_quiet.get (DISP_RUN_ID 3)) = some ({ id := 4102, level := 5, flags := 0, mask := 1, target := 0, origin := 0x10, readyPly := 0, body := [], state := 5, exec := 0x13 } : Task)) ∧ (({ id := 4102, level := 5, flags := 0, mask := 1, target := 0, origin := 0x10, readyPly := 0, body := [], state := 5, exec := 0x13 } : Task).state = 5) ∧ (bits 0x105 9 8 ≠ 3) ∧ (w_dispDone_quiet.disp.stalled = []) ∧ (w_dispDone_quiet.streamsOf 5 = [])) ∧ (match exec (.dispDone 0x13 3 0x105) w_dispDone_quiet with
    | .next t => decide ((Reads t [(DISP_RUN_ID 3, 0), (DISP_CORE_RUN_LEVEL 3, 64)]) ∧ (t.taskOf ({ id := 4102, level := 5, flags := 0, mask := 1, target := 0, origin := 0x10, readyPly := 0, body := [], state := 5, exec := 0x13 } : Task).id = some { ({ id := 4102, level := 5, flags := 0, mask := 1, target := 0, origin := 0x10, readyPly := 0, body := [], state := 5, exec := 0x13 } : Task) with result := bits 0x105 7 0, data := w_dispDone_quiet.get (DISP_DESC_WORD (0x10 + 3) 0), state := 6 + bits 0x105 9 8, endPly := w_dispDone_quiet.ply }) ∧ (t.disp.freed = w_dispDone_quiet.disp.freed ++ [taskIx ({ id := 4102, level := 5, flags := 0, mask := 1, target := 0, origin := 0x10, readyPly := 0, body := [], state := 5, exec := 0x13 } : Task).id]))
    | _ => false) = true := by decide +kernel

theorem test_dispDone_none : ((wReset.stopSafe = true) ∧ (3 < 16) ∧ (MayWrite wReset 0x13 (0x4040040C + 0x10 * 3)) ∧ (wReset.taskOf (wReset.get (DISP_RUN_ID 3)) = none ∨ bits 0x105 9 8 = 3 ∨ (wReset.taskOf (wReset.get (DISP_RUN_ID 3))).any (fun (k : Task) => k.state != 5) = true)) ∧ (match exec (.dispDone 0x13 3 0x105) wReset with
    | .next t => decide ((t = wReset))
    | _ => false) = true := by decide +kernel

def w_dispCancel : State := { at_ ([(DISP_CTRL_EN, 1), (PAIR_STATUS_ACTIVE, 1), (DISP_CORE_EN 3, 1)]) with disp := { tasks := [(6, { id := 4102, level := 5, flags := 0, mask := 1, target := 0, origin := 0x10, readyPly := 0, body := [], state := 1 })], fresh := 7, pend := [6, 9] } }

theorem test_dispCancel : ((w_dispCancel.stopSafe = true) ∧ (MayWrite w_dispCancel 0x10 0x40400144) ∧ (BankKind.disp.holds 0x10 = true) ∧ (w_dispCancel.taskOf 4102 = some ({ id := 4102, level := 5, flags := 0, mask := 1, target := 0, origin := 0x10, readyPly := 0, body := [], state := 1 } : Task)) ∧ (({ id := 4102, level := 5, flags := 0, mask := 1, target := 0, origin := 0x10, readyPly := 0, body := [], state := 1 } : Task).state = 1 ∨ ({ id := 4102, level := 5, flags := 0, mask := 1, target := 0, origin := 0x10, readyPly := 0, body := [], state := 1 } : Task).state = 2)) ∧ (match exec (.dispCancel 0x10 4102) w_dispCancel with
    | .next t => decide ((t = State.put (State.unstall (State.produce (State.setTask { w_dispCancel with disp := { w_dispCancel.disp with pend := w_dispCancel.disp.pend.filter (fun (x : Nat) => x ≠ taskIx ({ id := 4102, level := 5, flags := 0, mask := 1, target := 0, origin := 0x10, readyPly := 0, body := [], state := 1 } : Task).id), ready := w_dispCancel.disp.ready.filter (fun (x : Nat) => x ≠ taskIx ({ id := 4102, level := 5, flags := 0, mask := 1, target := 0, origin := 0x10, readyPly := 0, body := [], state := 1 } : Task).id), freed := w_dispCancel.disp.freed ++ [taskIx ({ id := 4102, level := 5, flags := 0, mask := 1, target := 0, origin := 0x10, readyPly := 0, body := [], state := 1 } : Task).id] } } ({ ({ id := 4102, level := 5, flags := 0, mask := 1, target := 0, origin := 0x10, readyPly := 0, body := [], state := 1 } : Task) with state := 8, endPly := w_dispCancel.ply })) 5 (leBytes 4 ({ id := 4102, level := 5, flags := 0, mask := 1, target := 0, origin := 0x10, readyPly := 0, body := [], state := 1 } : Task).id ++ [8, ({ id := 4102, level := 5, flags := 0, mask := 1, target := 0, origin := 0x10, readyPly := 0, body := [], state := 1 } : Task).result, ({ id := 4102, level := 5, flags := 0, mask := 1, target := 0, origin := 0x10, readyPly := 0, body := [], state := 1 } : Task).exec, b2n ({ id := 4102, level := 5, flags := 0, mask := 1, target := 0, origin := 0x10, readyPly := 0, body := [], state := 1 } : Task).unknownEnd + 2 * b2n ({ id := 4102, level := 5, flags := 0, mask := 1, target := 0, origin := 0x10, readyPly := 0, body := [], state := 1 } : Task).requeued] ++ leBytes 4 (({ id := 4102, level := 5, flags := 0, mask := 1, target := 0, origin := 0x10, readyPly := 0, body := [], state := 1 } : Task).data) ++ leBytes 8 w_dispCancel.ply) (some (w_dispCancel.ply + 10000)))) (DISP_RESULT_CODE_CODE 0x10) 0))
    | _ => false) = true := by decide +kernel

def w_dispCancel_quiet : State := { at_ ([(DISP_CTRL_EN, 1), (PAIR_STATUS_ACTIVE, 1), (DISP_CORE_EN 3, 1)]) with disp := { tasks := [(6, { id := 4102, level := 5, flags := 0, mask := 1, target := 0, origin := 0x10, readyPly := 0, body := [], state := 1 })], fresh := 7, pend := [6, 9] } }

theorem test_dispCancel_quiet : ((w_dispCancel_quiet.stopSafe = true) ∧ (MayWrite w_dispCancel_quiet 0x10 0x40400144) ∧ (BankKind.disp.holds 0x10 = true) ∧ (w_dispCancel_quiet.taskOf 4102 = some ({ id := 4102, level := 5, flags := 0, mask := 1, target := 0, origin := 0x10, readyPly := 0, body := [], state := 1 } : Task)) ∧ (({ id := 4102, level := 5, flags := 0, mask := 1, target := 0, origin := 0x10, readyPly := 0, body := [], state := 1 } : Task).state = 1 ∨ ({ id := 4102, level := 5, flags := 0, mask := 1, target := 0, origin := 0x10, readyPly := 0, body := [], state := 1 } : Task).state = 2) ∧ (w_dispCancel_quiet.disp.stalled = []) ∧ (w_dispCancel_quiet.streamsOf 5 = [])) ∧ (match exec (.dispCancel 0x10 4102) w_dispCancel_quiet with
    | .next t => decide ((Reads t [(DISP_RESULT_CODE_CODE 0x10, 0)]) ∧ (t.taskOf 4102 = some { ({ id := 4102, level := 5, flags := 0, mask := 1, target := 0, origin := 0x10, readyPly := 0, body := [], state := 1 } : Task) with state := 8, endPly := w_dispCancel_quiet.ply }) ∧ ((t.disp.pend.contains (taskIx 4102) || t.disp.ready.contains (taskIx 4102)) = false))
    | _ => false) = true := by decide +kernel

def w_dispCancel_running : State := { at_ ([(DISP_CTRL_EN, 1), (PAIR_STATUS_ACTIVE, 1), (DISP_CORE_EN 3, 1)]) with disp := { tasks := [(6, { id := 4102, level := 5, flags := 0, mask := 1, target := 0, origin := 0x10, readyPly := 0, body := [], state := 5, exec := 0x13 })], fresh := 7 } }

theorem test_dispCancel_running : ((w_dispCancel_running.stopSafe = true) ∧ (MayWrite w_dispCancel_running 0x10 0x40400144) ∧ (BankKind.disp.holds 0x10 = true) ∧ (w_dispCancel_running.taskOf 4102 = some ({ id := 4102, level := 5, flags := 0, mask := 1, target := 0, origin := 0x10, readyPly := 0, body := [], state := 5, exec := 0x13 } : Task)) ∧ (({ id := 4102, level := 5, flags := 0, mask := 1, target := 0, origin := 0x10, readyPly := 0, body := [], state := 5, exec := 0x13 } : Task).state = 5) ∧ (({ id := 4102, level := 5, flags := 0, mask := 1, target := 0, origin := 0x10, readyPly := 0, body := [], state := 5, exec := 0x13 } : Task).tierM = false) ∧ (({ id := 4102, level := 5, flags := 0, mask := 1, target := 0, origin := 0x10, readyPly := 0, body := [], state := 5, exec := 0x13 } : Task).exec = 0x10 + 3) ∧ (3 < 16)) ∧ (match exec (.dispCancel 0x10 4102) w_dispCancel_running with
    | .next t => decide ((Reads t [(DISP_RESULT_CODE_CODE 0x10, 0), (DISP_CORE_CANCEL 3, 1)]) ∧ (t.disp = { w_dispCancel_running.disp with tasks := w_dispCancel_running.disp.tasks.filter (fun (e : Nat × Task) => e.1 ≠ taskIx 4102) ++ [(taskIx 4102, { ({ id := 4102, level := 5, flags := 0, mask := 1, target := 0, origin := 0x10, readyPly := 0, body := [], state := 5, exec := 0x13 } : Task) with cancelReq := true })] }) ∧ (t.out = w_dispCancel_running.out ++ [Output.irqOwner (0x10 + 3) 0]))
    | _ => false) = true := by decide +kernel

def w_dispCancel_bound : State := { wMac [(MEMBER_W2_STATE 9, 2)] with disp := { tasks := [(6, { id := 4102, level := 5, flags := 1, mask := 1, target := 0, origin := 0x10, readyPly := 0, body := [], state := 4, exec := 9, ackedBy := 900 })], fresh := 7 } }

theorem test_dispCancel_bound : ((w_dispCancel_bound.stopSafe = true) ∧ (MayWrite w_dispCancel_bound 0x10 0x40400144) ∧ (BankKind.disp.holds 0x10 = true) ∧ (w_dispCancel_bound.taskOf 4102 = some ({ id := 4102, level := 5, flags := 1, mask := 1, target := 0, origin := 0x10, readyPly := 0, body := [], state := 4, exec := 9, ackedBy := 900 } : Task)) ∧ (({ id := 4102, level := 5, flags := 1, mask := 1, target := 0, origin := 0x10, readyPly := 0, body := [], state := 4, exec := 9, ackedBy := 900 } : Task).state = 3 ∨ ({ id := 4102, level := 5, flags := 1, mask := 1, target := 0, origin := 0x10, readyPly := 0, body := [], state := 4, exec := 9, ackedBy := 900 } : Task).state = 4 ∨ (({ id := 4102, level := 5, flags := 1, mask := 1, target := 0, origin := 0x10, readyPly := 0, body := [], state := 4, exec := 9, ackedBy := 900 } : Task).state = 5 ∧ ({ id := 4102, level := 5, flags := 1, mask := 1, target := 0, origin := 0x10, readyPly := 0, body := [], state := 4, exec := 9, ackedBy := 900 } : Task).tierM = true))) ∧ (match exec (.dispCancel 0x10 4102) w_dispCancel_bound with
    | .next t => decide ((t = State.put (State.sendCmd (State.setTask w_dispCancel_bound { ({ id := 4102, level := 5, flags := 1, mask := 1, target := 0, origin := 0x10, readyPly := 0, body := [], state := 4, exec := 9, ackedBy := 900 } : Task) with cancelReq := true }) ({ id := 4102, level := 5, flags := 1, mask := 1, target := 0, origin := 0x10, readyPly := 0, body := [], state := 4, exec := 9, ackedBy := 900 } : Task).exec 3 ([2, ({ id := 4102, level := 5, flags := 1, mask := 1, target := 0, origin := 0x10, readyPly := 0, body := [], state := 4, exec := 9, ackedBy := 900 } : Task).level] ++ leBytes 4 ({ id := 4102, level := 5, flags := 1, mask := 1, target := 0, origin := 0x10, readyPly := 0, body := [], state := 4, exec := 9, ackedBy := 900 } : Task).id ++ leBytes 4 0 ++ [0, 0])) (DISP_RESULT_CODE_CODE 0x10) 0))
    | _ => false) = true := by decide +kernel

theorem test_dispCancel_unknown : ((wReset.stopSafe = true) ∧ (MayWrite wReset 0x10 0x40400144) ∧ (BankKind.disp.holds 0x10 = true) ∧ (wReset.taskOf 4102 = none ∨ (wReset.taskOf 4102).any (fun (k : Task) => k.state == 0 || decide (5 < k.state)) = true)) ∧ (match exec (.dispCancel 0x10 4102) wReset with
    | .next t => decide ((Reads t [(DISP_RESULT_CODE_CODE 0x10, 3)]))
    | _ => false) = true := by decide +kernel

theorem test_dispCancel_none : ((wReset.stopSafe = true) ∧ (MayWrite wReset 0x3F 0x40400144) ∧ (BankKind.disp.holds 0x3F = false)) ∧ (match exec (.dispCancel 0x3F 4102) wReset with
    | .next t => decide ((t = wReset))
    | _ => false) = true := by decide +kernel

def w_taskSubmit : State := withSess (at_ [(PAIR_STATUS_ACTIVE, 1), (DISP_CTRL_HOST_MAX, 10)])

theorem test_taskSubmit : ((w_taskSubmit.stopSafe = true) ∧ (w_taskSubmit.accepts 0x0600 3 9 true = true) ∧ (([0, 0, 0, 0, 5, 1, 1, 0, 0, 2, 0, 0, 0, 0, 0, 0, 0, 0, 0, 0, 0, 0, 0, 0, 7, 8] ++ List.replicate 38 0 : List Nat).length = 64) ∧ (descOk w_taskSubmit.ply ([0, 0, 0, 0, 5, 1, 1, 0, 0, 2, 0, 0, 0, 0, 0, 0, 0, 0, 0, 0, 0, 0, 0, 0, 7, 8] ++ List.replicate 38 0 : List Nat) = true) ∧ (w_taskSubmit.hostTasks < w_taskSubmit.get DISP_CTRL_HOST_MAX) ∧ (w_taskSubmit.nextIx = some 0) ∧ (0 < 4096) ∧ (w_taskSubmit.nextGen 0 < 2 ^ 20)) ∧ (match exec (.taskSubmit 3 9 (([0, 0, 0, 0, 5, 1, 1, 0, 0, 2, 0, 0, 0, 0, 0, 0, 0, 0, 0, 0, 0, 0, 0, 0, 7, 8] ++ List.replicate 38 0 : List Nat))) w_taskSubmit with
    | .next t => decide ((answers w_taskSubmit t [] 0x0600 3 9 Ecp.OK (crc32c (([0, 0, 0, 0, 5, 1, 1, 0, 0, 2, 0, 0, 0, 0, 0, 0, 0, 0, 0, 0, 0, 0, 0, 0, 7, 8] ++ List.replicate 38 0 : List Nat))) (leBytes 4 (w_taskSubmit.nextGen 0 * 4096 + 0)) = true) ∧ (t.disp = { w_taskSubmit.disp with tasks := w_taskSubmit.disp.tasks.filter (fun (e : Nat × Task) => e.1 ≠ 0) ++ [(0, descTask (sessIni 3) w_taskSubmit.ply (w_taskSubmit.nextGen 0 * 4096 + 0) (([0, 0, 0, 0, 5, 1, 1, 0, 0, 2, 0, 0, 0, 0, 0, 0, 0, 0, 0, 0, 0, 0, 0, 0, 7, 8] ++ List.replicate 38 0 : List Nat)))], fresh := (if 0 = w_taskSubmit.disp.fresh then 0 + 1 else w_taskSubmit.disp.fresh), freed := (if 0 = w_taskSubmit.disp.fresh then w_taskSubmit.disp.freed else w_taskSubmit.disp.freed.filter (fun (x : Nat) => x ≠ 0)), pend := w_taskSubmit.disp.pend ++ [0] }))
    | _ => false) = true := by decide +kernel

def w_taskSubmit_full : State := withSess (at_ [(PAIR_STATUS_ACTIVE, 1), (DISP_CTRL_HOST_MAX, 0)])

theorem test_taskSubmit_full : ((w_taskSubmit_full.stopSafe = true) ∧ (w_taskSubmit_full.accepts 0x0600 3 9 true = true) ∧ (([0, 0, 0, 0, 5, 1, 1, 0, 0, 2, 0, 0, 0, 0, 0, 0, 0, 0, 0, 0, 0, 0, 0, 0, 7, 8] ++ List.replicate 38 0 : List Nat).length = 64) ∧ (descOk w_taskSubmit_full.ply ([0, 0, 0, 0, 5, 1, 1, 0, 0, 2, 0, 0, 0, 0, 0, 0, 0, 0, 0, 0, 0, 0, 0, 0, 7, 8] ++ List.replicate 38 0 : List Nat) = true) ∧ (w_taskSubmit_full.nextIx = none ∨ w_taskSubmit_full.get DISP_CTRL_HOST_MAX ≤ w_taskSubmit_full.hostTasks)) ∧ (match exec (.taskSubmit 3 9 (([0, 0, 0, 0, 5, 1, 1, 0, 0, 2, 0, 0, 0, 0, 0, 0, 0, 0, 0, 0, 0, 0, 0, 0, 7, 8] ++ List.replicate 38 0 : List Nat))) w_taskSubmit_full with
    | .next t => decide ((answers w_taskSubmit_full t [] 0x0600 3 9 Ecp.QUEUE_FULL (crc32c (([0, 0, 0, 0, 5, 1, 1, 0, 0, 2, 0, 0, 0, 0, 0, 0, 0, 0, 0, 0, 0, 0, 0, 0, 7, 8] ++ List.replicate 38 0 : List Nat))) [] = true) ∧ (Reads t [(DISP_CNT_QUEUE_FULL, w_taskSubmit_full.adv DISP_CNT_QUEUE_FULL)]))
    | _ => false) = true := by decide +kernel

theorem test_taskSubmit_bad : ((wAct.stopSafe = true) ∧ (wAct.accepts 0x0600 3 9 true = true) ∧ ((List.replicate 64 0 : List Nat).length = 64) ∧ (descOk wAct.ply (List.replicate 64 0 : List Nat) = false)) ∧ (match exec (.taskSubmit 3 9 ((List.replicate 64 0 : List Nat))) wAct with
    | .next t => decide ((answers wAct t [] 0x0600 3 9 Ecp.BAD_PARAM (crc32c ((List.replicate 64 0 : List Nat))) [] = true))
    | _ => false) = true := by decide +kernel

def w_taskCancel : State := { wAct with disp := { tasks := [(6, { id := 4102, level := 5, flags := 0, mask := 1, target := 0, origin := 0x10, readyPly := 0, body := [], state := 2 })], fresh := 7, ready := [6] } }

theorem test_taskCancel : ((w_taskCancel.accepts 0x0601 3 9 true = true) ∧ (4102 < 2 ^ 32) ∧ (w_taskCancel.taskOf 4102 = some ({ id := 4102, level := 5, flags := 0, mask := 1, target := 0, origin := 0x10, readyPly := 0, body := [], state := 2 } : Task)) ∧ (({ id := 4102, level := 5, flags := 0, mask := 1, target := 0, origin := 0x10, readyPly := 0, body := [], state := 2 } : Task).state = 1 ∨ ({ id := 4102, level := 5, flags := 0, mask := 1, target := 0, origin := 0x10, readyPly := 0, body := [], state := 2 } : Task).state = 2) ∧ ((State.unstall (State.produce (State.setTask { ({ wAct with disp := { tasks := [(6, { id := 4102, level := 5, flags := 0, mask := 1, target := 0, origin := 0x10, readyPly := 0, body := [], state := 2 })], fresh := 7, ready := [6] } } : State) with disp := { ({ wAct with disp := { tasks := [(6, { id := 4102, level := 5, flags := 0, mask := 1, target := 0, origin := 0x10, readyPly := 0, body := [], state := 2 })], fresh := 7, ready := [6] } } : State).disp with pend := ({ wAct with disp := { tasks := [(6, { id := 4102, level := 5, flags := 0, mask := 1, target := 0, origin := 0x10, readyPly := 0, body := [], state := 2 })], fresh := 7, ready := [6] } } : State).disp.pend.filter (fun (x : Nat) => x ≠ taskIx ({ id := 4102, level := 5, flags := 0, mask := 1, target := 0, origin := 0x10, readyPly := 0, body := [], state := 2 } : Task).id), ready := ({ wAct with disp := { tasks := [(6, { id := 4102, level := 5, flags := 0, mask := 1, target := 0, origin := 0x10, readyPly := 0, body := [], state := 2 })], fresh := 7, ready := [6] } } : State).disp.ready.filter (fun (x : Nat) => x ≠ taskIx ({ id := 4102, level := 5, flags := 0, mask := 1, target := 0, origin := 0x10, readyPly := 0, body := [], state := 2 } : Task).id), freed := ({ wAct with disp := { tasks := [(6, { id := 4102, level := 5, flags := 0, mask := 1, target := 0, origin := 0x10, readyPly := 0, body := [], state := 2 })], fresh := 7, ready := [6] } } : State).disp.freed ++ [taskIx ({ id := 4102, level := 5, flags := 0, mask := 1, target := 0, origin := 0x10, readyPly := 0, body := [], state := 2 } : Task).id] } } ({ ({ id := 4102, level := 5, flags := 0, mask := 1, target := 0, origin := 0x10, readyPly := 0, body := [], state := 2 } : Task) with state := 8, endPly := ({ wAct with disp := { tasks := [(6, { id := 4102, level := 5, flags := 0, mask := 1, target := 0, origin := 0x10, readyPly := 0, body := [], state := 2 })], fresh := 7, ready := [6] } } : State).ply })) 5 (leBytes 4 ({ id := 4102, level := 5, flags := 0, mask := 1, target := 0, origin := 0x10, readyPly := 0, body := [], state := 2 } : Task).id ++ [8, ({ id := 4102, level := 5, flags := 0, mask := 1, target := 0, origin := 0x10, readyPly := 0, body := [], state := 2 } : Task).result, ({ id := 4102, level := 5, flags := 0, mask := 1, target := 0, origin := 0x10, readyPly := 0, body := [], state := 2 } : Task).exec, b2n ({ id := 4102, level := 5, flags := 0, mask := 1, target := 0, origin := 0x10, readyPly := 0, body := [], state := 2 } : Task).unknownEnd + 2 * b2n ({ id := 4102, level := 5, flags := 0, mask := 1, target := 0, origin := 0x10, readyPly := 0, body := [], state := 2 } : Task).requeued] ++ leBytes 4 (({ id := 4102, level := 5, flags := 0, mask := 1, target := 0, origin := 0x10, readyPly := 0, body := [], state := 2 } : Task).data) ++ leBytes 8 ({ wAct with disp := { tasks := [(6, { id := 4102, level := 5, flags := 0, mask := 1, target := 0, origin := 0x10, readyPly := 0, body := [], state := 2 })], fresh := 7, ready := [6] } } : State).ply) (some (({ wAct with disp := { tasks := [(6, { id := 4102, level := 5, flags := 0, mask := 1, target := 0, origin := 0x10, readyPly := 0, body := [], state := 2 })], fresh := 7, ready := [6] } } : State).ply + 10000))) : State) = State.unstall (State.produce (State.setTask { w_taskCancel with disp := { w_taskCancel.disp with pend := w_taskCancel.disp.pend.filter (fun (x : Nat) => x ≠ taskIx ({ id := 4102, level := 5, flags := 0, mask := 1, target := 0, origin := 0x10, readyPly := 0, body := [], state := 2 } : Task).id), ready := w_taskCancel.disp.ready.filter (fun (x : Nat) => x ≠ taskIx ({ id := 4102, level := 5, flags := 0, mask := 1, target := 0, origin := 0x10, readyPly := 0, body := [], state := 2 } : Task).id), freed := w_taskCancel.disp.freed ++ [taskIx ({ id := 4102, level := 5, flags := 0, mask := 1, target := 0, origin := 0x10, readyPly := 0, body := [], state := 2 } : Task).id] } } ({ ({ id := 4102, level := 5, flags := 0, mask := 1, target := 0, origin := 0x10, readyPly := 0, body := [], state := 2 } : Task) with state := 8, endPly := w_taskCancel.ply })) 5 (leBytes 4 ({ id := 4102, level := 5, flags := 0, mask := 1, target := 0, origin := 0x10, readyPly := 0, body := [], state := 2 } : Task).id ++ [8, ({ id := 4102, level := 5, flags := 0, mask := 1, target := 0, origin := 0x10, readyPly := 0, body := [], state := 2 } : Task).result, ({ id := 4102, level := 5, flags := 0, mask := 1, target := 0, origin := 0x10, readyPly := 0, body := [], state := 2 } : Task).exec, b2n ({ id := 4102, level := 5, flags := 0, mask := 1, target := 0, origin := 0x10, readyPly := 0, body := [], state := 2 } : Task).unknownEnd + 2 * b2n ({ id := 4102, level := 5, flags := 0, mask := 1, target := 0, origin := 0x10, readyPly := 0, body := [], state := 2 } : Task).requeued] ++ leBytes 4 (({ id := 4102, level := 5, flags := 0, mask := 1, target := 0, origin := 0x10, readyPly := 0, body := [], state := 2 } : Task).data) ++ leBytes 8 w_taskCancel.ply) (some (w_taskCancel.ply + 10000)))) ∧ ((State.unstall (State.produce (State.setTask { ({ wAct with disp := { tasks := [(6, { id := 4102, level := 5, flags := 0, mask := 1, target := 0, origin := 0x10, readyPly := 0, body := [], state := 2 })], fresh := 7, ready := [6] } } : State) with disp := { ({ wAct with disp := { tasks := [(6, { id := 4102, level := 5, flags := 0, mask := 1, target := 0, origin := 0x10, readyPly := 0, body := [], state := 2 })], fresh := 7, ready := [6] } } : State).disp with pend := ({ wAct with disp := { tasks := [(6, { id := 4102, level := 5, flags := 0, mask := 1, target := 0, origin := 0x10, readyPly := 0, body := [], state := 2 })], fresh := 7, ready := [6] } } : State).disp.pend.filter (fun (x : Nat) => x ≠ taskIx ({ id := 4102, level := 5, flags := 0, mask := 1, target := 0, origin := 0x10, readyPly := 0, body := [], state := 2 } : Task).id), ready := ({ wAct with disp := { tasks := [(6, { id := 4102, level := 5, flags := 0, mask := 1, target := 0, origin := 0x10, readyPly := 0, body := [], state := 2 })], fresh := 7, ready := [6] } } : State).disp.ready.filter (fun (x : Nat) => x ≠ taskIx ({ id := 4102, level := 5, flags := 0, mask := 1, target := 0, origin := 0x10, readyPly := 0, body := [], state := 2 } : Task).id), freed := ({ wAct with disp := { tasks := [(6, { id := 4102, level := 5, flags := 0, mask := 1, target := 0, origin := 0x10, readyPly := 0, body := [], state := 2 })], fresh := 7, ready := [6] } } : State).disp.freed ++ [taskIx ({ id := 4102, level := 5, flags := 0, mask := 1, target := 0, origin := 0x10, readyPly := 0, body := [], state := 2 } : Task).id] } } ({ ({ id := 4102, level := 5, flags := 0, mask := 1, target := 0, origin := 0x10, readyPly := 0, body := [], state := 2 } : Task) with state := 8, endPly := ({ wAct with disp := { tasks := [(6, { id := 4102, level := 5, flags := 0, mask := 1, target := 0, origin := 0x10, readyPly := 0, body := [], state := 2 })], fresh := 7, ready := [6] } } : State).ply })) 5 (leBytes 4 ({ id := 4102, level := 5, flags := 0, mask := 1, target := 0, origin := 0x10, readyPly := 0, body := [], state := 2 } : Task).id ++ [8, ({ id := 4102, level := 5, flags := 0, mask := 1, target := 0, origin := 0x10, readyPly := 0, body := [], state := 2 } : Task).result, ({ id := 4102, level := 5, flags := 0, mask := 1, target := 0, origin := 0x10, readyPly := 0, body := [], state := 2 } : Task).exec, b2n ({ id := 4102, level := 5, flags := 0, mask := 1, target := 0, origin := 0x10, readyPly := 0, body := [], state := 2 } : Task).unknownEnd + 2 * b2n ({ id := 4102, level := 5, flags := 0, mask := 1, target := 0, origin := 0x10, readyPly := 0, body := [], state := 2 } : Task).requeued] ++ leBytes 4 (({ id := 4102, level := 5, flags := 0, mask := 1, target := 0, origin := 0x10, readyPly := 0, body := [], state := 2 } : Task).data) ++ leBytes 8 ({ wAct with disp := { tasks := [(6, { id := 4102, level := 5, flags := 0, mask := 1, target := 0, origin := 0x10, readyPly := 0, body := [], state := 2 })], fresh := 7, ready := [6] } } : State).ply) (some (({ wAct with disp := { tasks := [(6, { id := 4102, level := 5, flags := 0, mask := 1, target := 0, origin := 0x10, readyPly := 0, body := [], state := 2 })], fresh := 7, ready := [6] } } : State).ply + 10000))) : State).room 3 = true)) ∧ (match exec (.taskCancel 3 9 (leBytes 4 4102)) w_taskCancel with
    | .next t => decide ((answers (State.unstall (State.produce (State.setTask { ({ wAct with disp := { tasks := [(6, { id := 4102, level := 5, flags := 0, mask := 1, target := 0, origin := 0x10, readyPly := 0, body := [], state := 2 })], fresh := 7, ready := [6] } } : State) with disp := { ({ wAct with disp := { tasks := [(6, { id := 4102, level := 5, flags := 0, mask := 1, target := 0, origin := 0x10, readyPly := 0, body := [], state := 2 })], fresh := 7, ready := [6] } } : State).disp with pend := ({ wAct with disp := { tasks := [(6, { id := 4102, level := 5, flags := 0, mask := 1, target := 0, origin := 0x10, readyPly := 0, body := [], state := 2 })], fresh := 7, ready := [6] } } : State).disp.pend.filter (fun (x : Nat) => x ≠ taskIx ({ id := 4102, level := 5, flags := 0, mask := 1, target := 0, origin := 0x10, readyPly := 0, body := [], state := 2 } : Task).id), ready := ({ wAct with disp := { tasks := [(6, { id := 4102, level := 5, flags := 0, mask := 1, target := 0, origin := 0x10, readyPly := 0, body := [], state := 2 })], fresh := 7, ready := [6] } } : State).disp.ready.filter (fun (x : Nat) => x ≠ taskIx ({ id := 4102, level := 5, flags := 0, mask := 1, target := 0, origin := 0x10, readyPly := 0, body := [], state := 2 } : Task).id), freed := ({ wAct with disp := { tasks := [(6, { id := 4102, level := 5, flags := 0, mask := 1, target := 0, origin := 0x10, readyPly := 0, body := [], state := 2 })], fresh := 7, ready := [6] } } : State).disp.freed ++ [taskIx ({ id := 4102, level := 5, flags := 0, mask := 1, target := 0, origin := 0x10, readyPly := 0, body := [], state := 2 } : Task).id] } } ({ ({ id := 4102, level := 5, flags := 0, mask := 1, target := 0, origin := 0x10, readyPly := 0, body := [], state := 2 } : Task) with state := 8, endPly := ({ wAct with disp := { tasks := [(6, { id := 4102, level := 5, flags := 0, mask := 1, target := 0, origin := 0x10, readyPly := 0, body := [], state := 2 })], fresh := 7, ready := [6] } } : State).ply })) 5 (leBytes 4 ({ id := 4102, level := 5, flags := 0, mask := 1, target := 0, origin := 0x10, readyPly := 0, body := [], state := 2 } : Task).id ++ [8, ({ id := 4102, level := 5, flags := 0, mask := 1, target := 0, origin := 0x10, readyPly := 0, body := [], state := 2 } : Task).result, ({ id := 4102, level := 5, flags := 0, mask := 1, target := 0, origin := 0x10, readyPly := 0, body := [], state := 2 } : Task).exec, b2n ({ id := 4102, level := 5, flags := 0, mask := 1, target := 0, origin := 0x10, readyPly := 0, body := [], state := 2 } : Task).unknownEnd + 2 * b2n ({ id := 4102, level := 5, flags := 0, mask := 1, target := 0, origin := 0x10, readyPly := 0, body := [], state := 2 } : Task).requeued] ++ leBytes 4 (({ id := 4102, level := 5, flags := 0, mask := 1, target := 0, origin := 0x10, readyPly := 0, body := [], state := 2 } : Task).data) ++ leBytes 8 ({ wAct with disp := { tasks := [(6, { id := 4102, level := 5, flags := 0, mask := 1, target := 0, origin := 0x10, readyPly := 0, body := [], state := 2 })], fresh := 7, ready := [6] } } : State).ply) (some (({ wAct with disp := { tasks := [(6, { id := 4102, level := 5, flags := 0, mask := 1, target := 0, origin := 0x10, readyPly := 0, body := [], state := 2 })], fresh := 7, ready := [6] } } : State).ply + 10000))) : State) t [] 0x0601 3 9 Ecp.OK (crc32c (leBytes 4 4102)) [match (State.unstall (State.produce (State.setTask { ({ wAct with disp := { tasks := [(6, { id := 4102, level := 5, flags := 0, mask := 1, target := 0, origin := 0x10, readyPly := 0, body := [], state := 2 })], fresh := 7, ready := [6] } } : State) with disp := { ({ wAct with disp := { tasks := [(6, { id := 4102, level := 5, flags := 0, mask := 1, target := 0, origin := 0x10, readyPly := 0, body := [], state := 2 })], fresh := 7, ready := [6] } } : State).disp with pend := ({ wAct with disp := { tasks := [(6, { id := 4102, level := 5, flags := 0, mask := 1, target := 0, origin := 0x10, readyPly := 0, body := [], state := 2 })], fresh := 7, ready := [6] } } : State).disp.pend.filter (fun (x : Nat) => x ≠ taskIx ({ id := 4102, level := 5, flags := 0, mask := 1, target := 0, origin := 0x10, readyPly := 0, body := [], state := 2 } : Task).id), ready := ({ wAct with disp := { tasks := [(6, { id := 4102, level := 5, flags := 0, mask := 1, target := 0, origin := 0x10, readyPly := 0, body := [], state := 2 })], fresh := 7, ready := [6] } } : State).disp.ready.filter (fun (x : Nat) => x ≠ taskIx ({ id := 4102, level := 5, flags := 0, mask := 1, target := 0, origin := 0x10, readyPly := 0, body := [], state := 2 } : Task).id), freed := ({ wAct with disp := { tasks := [(6, { id := 4102, level := 5, flags := 0, mask := 1, target := 0, origin := 0x10, readyPly := 0, body := [], state := 2 })], fresh := 7, ready := [6] } } : State).disp.freed ++ [taskIx ({ id := 4102, level := 5, flags := 0, mask := 1, target := 0, origin := 0x10, readyPly := 0, body := [], state := 2 } : Task).id] } } ({ ({ id := 4102, level := 5, flags := 0, mask := 1, target := 0, origin := 0x10, readyPly := 0, body := [], state := 2 } : Task) with state := 8, endPly := ({ wAct with disp := { tasks := [(6, { id := 4102, level := 5, flags := 0, mask := 1, target := 0, origin := 0x10, readyPly := 0, body := [], state := 2 })], fresh := 7, ready := [6] } } : State).ply })) 5 (leBytes 4 ({ id := 4102, level := 5, flags := 0, mask := 1, target := 0, origin := 0x10, readyPly := 0, body := [], state := 2 } : Task).id ++ [8, ({ id := 4102, level := 5, flags := 0, mask := 1, target := 0, origin := 0x10, readyPly := 0, body := [], state := 2 } : Task).result, ({ id := 4102, level := 5, flags := 0, mask := 1, target := 0, origin := 0x10, readyPly := 0, body := [], state := 2 } : Task).exec, b2n ({ id := 4102, level := 5, flags := 0, mask := 1, target := 0, origin := 0x10, readyPly := 0, body := [], state := 2 } : Task).unknownEnd + 2 * b2n ({ id := 4102, level := 5, flags := 0, mask := 1, target := 0, origin := 0x10, readyPly := 0, body := [], state := 2 } : Task).requeued] ++ leBytes 4 (({ id := 4102, level := 5, flags := 0, mask := 1, target := 0, origin := 0x10, readyPly := 0, body := [], state := 2 } : Task).data) ++ leBytes 8 ({ wAct with disp := { tasks := [(6, { id := 4102, level := 5, flags := 0, mask := 1, target := 0, origin := 0x10, readyPly := 0, body := [], state := 2 })], fresh := 7, ready := [6] } } : State).ply) (some (({ wAct with disp := { tasks := [(6, { id := 4102, level := 5, flags := 0, mask := 1, target := 0, origin := 0x10, readyPly := 0, body := [], state := 2 })], fresh := 7, ready := [6] } } : State).ply + 10000))) : State).taskOf 4102 with | some x => x.state | none => 0, 0, 0, 0] = true) ∧ (t = { (State.unstall (State.produce (State.setTask { ({ wAct with disp := { tasks := [(6, { id := 4102, level := 5, flags := 0, mask := 1, target := 0, origin := 0x10, readyPly := 0, body := [], state := 2 })], fresh := 7, ready := [6] } } : State) with disp := { ({ wAct with disp := { tasks := [(6, { id := 4102, level := 5, flags := 0, mask := 1, target := 0, origin := 0x10, readyPly := 0, body := [], state := 2 })], fresh := 7, ready := [6] } } : State).disp with pend := ({ wAct with disp := { tasks := [(6, { id := 4102, level := 5, flags := 0, mask := 1, target := 0, origin := 0x10, readyPly := 0, body := [], state := 2 })], fresh := 7, ready := [6] } } : State).disp.pend.filter (fun (x : Nat) => x ≠ taskIx ({ id := 4102, level := 5, flags := 0, mask := 1, target := 0, origin := 0x10, readyPly := 0, body := [], state := 2 } : Task).id), ready := ({ wAct with disp := { tasks := [(6, { id := 4102, level := 5, flags := 0, mask := 1, target := 0, origin := 0x10, readyPly := 0, body := [], state := 2 })], fresh := 7, ready := [6] } } : State).disp.ready.filter (fun (x : Nat) => x ≠ taskIx ({ id := 4102, level := 5, flags := 0, mask := 1, target := 0, origin := 0x10, readyPly := 0, body := [], state := 2 } : Task).id), freed := ({ wAct with disp := { tasks := [(6, { id := 4102, level := 5, flags := 0, mask := 1, target := 0, origin := 0x10, readyPly := 0, body := [], state := 2 })], fresh := 7, ready := [6] } } : State).disp.freed ++ [taskIx ({ id := 4102, level := 5, flags := 0, mask := 1, target := 0, origin := 0x10, readyPly := 0, body := [], state := 2 } : Task).id] } } ({ ({ id := 4102, level := 5, flags := 0, mask := 1, target := 0, origin := 0x10, readyPly := 0, body := [], state := 2 } : Task) with state := 8, endPly := ({ wAct with disp := { tasks := [(6, { id := 4102, level := 5, flags := 0, mask := 1, target := 0, origin := 0x10, readyPly := 0, body := [], state := 2 })], fresh := 7, ready := [6] } } : State).ply })) 5 (leBytes 4 ({ id := 4102, level := 5, flags := 0, mask := 1, target := 0, origin := 0x10, readyPly := 0, body := [], state := 2 } : Task).id ++ [8, ({ id := 4102, level := 5, flags := 0, mask := 1, target := 0, origin := 0x10, readyPly := 0, body := [], state := 2 } : Task).result, ({ id := 4102, level := 5, flags := 0, mask := 1, target := 0, origin := 0x10, readyPly := 0, body := [], state := 2 } : Task).exec, b2n ({ id := 4102, level := 5, flags := 0, mask := 1, target := 0, origin := 0x10, readyPly := 0, body := [], state := 2 } : Task).unknownEnd + 2 * b2n ({ id := 4102, level := 5, flags := 0, mask := 1, target := 0, origin := 0x10, readyPly := 0, body := [], state := 2 } : Task).requeued] ++ leBytes 4 (({ id := 4102, level := 5, flags := 0, mask := 1, target := 0, origin := 0x10, readyPly := 0, body := [], state := 2 } : Task).data) ++ leBytes 8 ({ wAct with disp := { tasks := [(6, { id := 4102, level := 5, flags := 0, mask := 1, target := 0, origin := 0x10, readyPly := 0, body := [], state := 2 })], fresh := 7, ready := [6] } } : State).ply) (some (({ wAct with disp := { tasks := [(6, { id := 4102, level := 5, flags := 0, mask := 1, target := 0, origin := 0x10, readyPly := 0, body := [], state := 2 })], fresh := 7, ready := [6] } } : State).ply + 10000))) : State) with ecp := t.ecp, out := t.out }))
    | _ => false) = true := by decide +kernel

def w_taskCancel_quiet : State := { wAct with disp := { tasks := [(6, { id := 4102, level := 5, flags := 0, mask := 1, target := 0, origin := 0x10, readyPly := 0, body := [], state := 2 })], fresh := 7, ready := [6] } }

theorem test_taskCancel_quiet : ((w_taskCancel_quiet.stopSafe = true) ∧ (w_taskCancel_quiet.accepts 0x0601 3 9 true = true) ∧ (4102 < 2 ^ 32) ∧ (w_taskCancel_quiet.taskOf 4102 = some ({ id := 4102, level := 5, flags := 0, mask := 1, target := 0, origin := 0x10, readyPly := 0, body := [], state := 2 } : Task)) ∧ (({ id := 4102, level := 5, flags := 0, mask := 1, target := 0, origin := 0x10, readyPly := 0, body := [], state := 2 } : Task).state = 1 ∨ ({ id := 4102, level := 5, flags := 0, mask := 1, target := 0, origin := 0x10, readyPly := 0, body := [], state := 2 } : Task).state = 2) ∧ (w_taskCancel_quiet.disp.stalled = []) ∧ (w_taskCancel_quiet.streamsOf 5 = [])) ∧ (match exec (.taskCancel 3 9 (leBytes 4 4102)) w_taskCancel_quiet with
    | .next t => decide ((answers w_taskCancel_quiet t [] 0x0601 3 9 Ecp.OK (crc32c (leBytes 4 4102)) [8, 0, 0, 0] = true) ∧ (t.taskOf 4102 = some { ({ id := 4102, level := 5, flags := 0, mask := 1, target := 0, origin := 0x10, readyPly := 0, body := [], state := 2 } : Task) with state := 8, endPly := w_taskCancel_quiet.ply }))
    | _ => false) = true := by decide +kernel

def w_taskCancel_running : State := { wAct with disp := { tasks := [(6, { id := 4102, level := 5, flags := 0, mask := 1, target := 0, origin := 0x10, readyPly := 0, body := [], state := 5, exec := 0x13 })], fresh := 7 } }

theorem test_taskCancel_running : ((w_taskCancel_running.stopSafe = true) ∧ (w_taskCancel_running.accepts 0x0601 3 9 true = true) ∧ (4102 < 2 ^ 32) ∧ (w_taskCancel_running.taskOf 4102 = some ({ id := 4102, level := 5, flags := 0, mask := 1, target := 0, origin := 0x10, readyPly := 0, body := [], state := 5, exec := 0x13 } : Task)) ∧ (({ id := 4102, level := 5, flags := 0, mask := 1, target := 0, origin := 0x10, readyPly := 0, body := [], state := 5, exec := 0x13 } : Task).state = 5) ∧ (({ id := 4102, level := 5, flags := 0, mask := 1, target := 0, origin := 0x10, readyPly := 0, body := [], state := 5, exec := 0x13 } : Task).tierM = false) ∧ (({ id := 4102, level := 5, flags := 0, mask := 1, target := 0, origin := 0x10, readyPly := 0, body := [], state := 5, exec := 0x13 } : Task).exec = 0x10 + 3) ∧ (3 < 16)) ∧ (match exec (.taskCancel 3 9 (leBytes 4 4102)) w_taskCancel_running with
    | .next t => decide ((answers w_taskCancel_running t [Output.irqOwner (0x10 + 3) 0] 0x0601 3 9 Ecp.OK (crc32c (leBytes 4 4102)) [5, 0, 0, 0] = true) ∧ (t.taskOf 4102 = some { ({ id := 4102, level := 5, flags := 0, mask := 1, target := 0, origin := 0x10, readyPly := 0, body := [], state := 5, exec := 0x13 } : Task) with cancelReq := true }) ∧ (Reads t [(DISP_CORE_CANCEL 3, 1)]))
    | _ => false) = true := by decide +kernel

def w_taskCancel_bound : State := { wAct with disp := { tasks := [(6, { id := 4102, level := 5, flags := 1, mask := 1, target := 0, origin := 0x10, readyPly := 0, body := [], state := 4, exec := 9, ackedBy := 900 })], fresh := 7 } }

theorem test_taskCancel_bound : ((w_taskCancel_bound.accepts 0x0601 3 9 true = true) ∧ (4102 < 2 ^ 32) ∧ (w_taskCancel_bound.taskOf 4102 = some ({ id := 4102, level := 5, flags := 1, mask := 1, target := 0, origin := 0x10, readyPly := 0, body := [], state := 4, exec := 9, ackedBy := 900 } : Task)) ∧ (({ id := 4102, level := 5, flags := 1, mask := 1, target := 0, origin := 0x10, readyPly := 0, body := [], state := 4, exec := 9, ackedBy := 900 } : Task).state = 3 ∨ ({ id := 4102, level := 5, flags := 1, mask := 1, target := 0, origin := 0x10, readyPly := 0, body := [], state := 4, exec := 9, ackedBy := 900 } : Task).state = 4 ∨ (({ id := 4102, level := 5, flags := 1, mask := 1, target := 0, origin := 0x10, readyPly := 0, body := [], state := 4, exec := 9, ackedBy := 900 } : Task).state = 5 ∧ ({ id := 4102, level := 5, flags := 1, mask := 1, target := 0, origin := 0x10, readyPly := 0, body := [], state := 4, exec := 9, ackedBy := 900 } : Task).tierM = true)) ∧ ((State.sendCmd (State.setTask ({ wAct with disp := { tasks := [(6, { id := 4102, level := 5, flags := 1, mask := 1, target := 0, origin := 0x10, readyPly := 0, body := [], state := 4, exec := 9, ackedBy := 900 })], fresh := 7 } } : State) { ({ id := 4102, level := 5, flags := 1, mask := 1, target := 0, origin := 0x10, readyPly := 0, body := [], state := 4, exec := 9, ackedBy := 900 } : Task) with cancelReq := true }) ({ id := 4102, level := 5, flags := 1, mask := 1, target := 0, origin := 0x10, readyPly := 0, body := [], state := 4, exec := 9, ackedBy := 900 } : Task).exec 3 ([2, ({ id := 4102, level := 5, flags := 1, mask := 1, target := 0, origin := 0x10, readyPly := 0, body := [], state := 4, exec := 9, ackedBy := 900 } : Task).level] ++ leBytes 4 ({ id := 4102, level := 5, flags := 1, mask := 1, target := 0, origin := 0x10, readyPly := 0, body := [], state := 4, exec := 9, ackedBy := 900 } : Task).id ++ leBytes 4 0 ++ [0, 0]) : State) = State.sendCmd (State.setTask w_taskCancel_bound { ({ id := 4102, level := 5, flags := 1, mask := 1, target := 0, origin := 0x10, readyPly := 0, body := [], state := 4, exec := 9, ackedBy := 900 } : Task) with cancelReq := true }) ({ id := 4102, level := 5, flags := 1, mask := 1, target := 0, origin := 0x10, readyPly := 0, body := [], state := 4, exec := 9, ackedBy := 900 } : Task).exec 3 ([2, ({ id := 4102, level := 5, flags := 1, mask := 1, target := 0, origin := 0x10, readyPly := 0, body := [], state := 4, exec := 9, ackedBy := 900 } : Task).level] ++ leBytes 4 ({ id := 4102, level := 5, flags := 1, mask := 1, target := 0, origin := 0x10, readyPly := 0, body := [], state := 4, exec := 9, ackedBy := 900 } : Task).id ++ leBytes 4 0 ++ [0, 0]))) ∧ (match exec (.taskCancel 3 9 (leBytes 4 4102)) w_taskCancel_bound with
    | .next t => decide ((answers w_taskCancel_bound t [] 0x0601 3 9 Ecp.OK (crc32c (leBytes 4 4102)) [({ id := 4102, level := 5, flags := 1, mask := 1, target := 0, origin := 0x10, readyPly := 0, body := [], state := 4, exec := 9, ackedBy := 900 } : Task).state, 0, 0, 0] = true) ∧ (t = { (State.sendCmd (State.setTask ({ wAct with disp := { tasks := [(6, { id := 4102, level := 5, flags := 1, mask := 1, target := 0, origin := 0x10, readyPly := 0, body := [], state := 4, exec := 9, ackedBy := 900 })], fresh := 7 } } : State) { ({ id := 4102, level := 5, flags := 1, mask := 1, target := 0, origin := 0x10, readyPly := 0, body := [], state := 4, exec := 9, ackedBy := 900 } : Task) with cancelReq := true }) ({ id := 4102, level := 5, flags := 1, mask := 1, target := 0, origin := 0x10, readyPly := 0, body := [], state := 4, exec := 9, ackedBy := 900 } : Task).exec 3 ([2, ({ id := 4102, level := 5, flags := 1, mask := 1, target := 0, origin := 0x10, readyPly := 0, body := [], state := 4, exec := 9, ackedBy := 900 } : Task).level] ++ leBytes 4 ({ id := 4102, level := 5, flags := 1, mask := 1, target := 0, origin := 0x10, readyPly := 0, body := [], state := 4, exec := 9, ackedBy := 900 } : Task).id ++ leBytes 4 0 ++ [0, 0]) : State) with ecp := t.ecp, out := t.out }))
    | _ => false) = true := by decide +kernel

theorem test_taskCancel_unknown : ((wAct.stopSafe = true) ∧ (wAct.accepts 0x0601 3 9 true = true) ∧ (4102 < 2 ^ 32) ∧ (wAct.taskOf 4102 = none ∨ (wAct.taskOf 4102).any (fun (k : Task) => k.state == 0 || decide (5 < k.state)) = true)) ∧ (match exec (.taskCancel 3 9 (leBytes 4 4102)) wAct with
    | .next t => decide ((answers wAct t [] 0x0601 3 9 Ecp.BAD_PARAM (crc32c (leBytes 4 4102)) [] = true))
    | _ => false) = true := by decide +kernel

def w_taskGet : State := { wAct with disp := { tasks := [(6, { id := 4102, level := 5, flags := 0, mask := 1, target := 0, origin := 0x10, readyPly := 0, body := [], state := 2, exec := 3 })], fresh := 7 } }

theorem test_taskGet : ((w_taskGet.stopSafe = true) ∧ (w_taskGet.accepts 0x0602 3 9 true = true) ∧ (4102 < 2 ^ 32) ∧ (w_taskGet.task (taskIx 4102) = some ({ id := 4102, level := 5, flags := 0, mask := 1, target := 0, origin := 0x10, readyPly := 0, body := [], state := 2, exec := 3 } : Task)) ∧ (2 = (if ({ id := 4102, level := 5, flags := 0, mask := 1, target := 0, origin := 0x10, readyPly := 0, body := [], state := 2, exec := 3 } : Task).id = 4102 then ({ id := 4102, level := 5, flags := 0, mask := 1, target := 0, origin := 0x10, readyPly := 0, body := [], state := 2, exec := 3 } : Task).state else 0))) ∧ (match exec (.taskGet 3 9 (leBytes 4 4102)) w_taskGet with
    | .next t => decide ((answers w_taskGet t [] 0x0602 3 9 Ecp.OK (crc32c (leBytes 4 4102)) (leBytes 4 ({ id := 4102, level := 5, flags := 0, mask := 1, target := 0, origin := 0x10, readyPly := 0, body := [], state := 2, exec := 3 } : Task).id ++ [2, ({ id := 4102, level := 5, flags := 0, mask := 1, target := 0, origin := 0x10, readyPly := 0, body := [], state := 2, exec := 3 } : Task).level, ({ id := 4102, level := 5, flags := 0, mask := 1, target := 0, origin := 0x10, readyPly := 0, body := [], state := 2, exec := 3 } : Task).exec, ({ id := 4102, level := 5, flags := 0, mask := 1, target := 0, origin := 0x10, readyPly := 0, body := [], state := 2, exec := 3 } : Task).result] ++ leBytes 4 ({ id := 4102, level := 5, flags := 0, mask := 1, target := 0, origin := 0x10, readyPly := 0, body := [], state := 2, exec := 3 } : Task).data ++ leBytes 4 (if 2 = 3 ∨ 2 = 4 then ({ id := 4102, level := 5, flags := 0, mask := 1, target := 0, origin := 0x10, readyPly := 0, body := [], state := 2, exec := 3 } : Task).ackedBy else 0) ++ leBytes 8 (if 6 ≤ 2 then ({ id := 4102, level := 5, flags := 0, mask := 1, target := 0, origin := 0x10, readyPly := 0, body := [], state := 2, exec := 3 } : Task).endPly else 0)) = true))
    | _ => false) = true := by decide +kernel

theorem test_taskGet_never : ((wAct.stopSafe = true) ∧ (wAct.accepts 0x0602 3 9 true = true) ∧ (4103 < 2 ^ 32) ∧ (wAct.task (taskIx 4103) = none)) ∧ (match exec (.taskGet 3 9 (leBytes 4 4103)) wAct with
    | .next t => decide ((answers wAct t [] 0x0602 3 9 Ecp.OK (crc32c (leBytes 4 4103)) (leBytes 4 (taskIx 4103) ++ List.replicate 20 0) = true))
    | _ => false) = true := by decide +kernel

def w_taskLapse : State := { wMac [] with disp := { tasks := [(6, { id := 4102, level := 5, flags := 1, mask := 1, target := 0, origin := 0x10, readyPly := 0, body := [], state := 4, exec := 9, ackedBy := 900 })], fresh := 7 } }

theorem test_taskLapse : ((w_taskLapse.stopSafe = true) ∧ (w_taskLapse.task 6 = some ({ id := 4102, level := 5, flags := 1, mask := 1, target := 0, origin := 0x10, readyPly := 0, body := [], state := 4, exec := 9, ackedBy := 900 } : Task)) ∧ (({ id := 4102, level := 5, flags := 1, mask := 1, target := 0, origin := 0x10, readyPly := 0, body := [], state := 4, exec := 9, ackedBy := 900 } : Task).state = 4) ∧ (w_taskLapse.hasSfn = true) ∧ (({ id := 4102, level := 5, flags := 1, mask := 1, target := 0, origin := 0x10, readyPly := 0, body := [], state := 4, exec := 9, ackedBy := 900 } : Task).ackedBy + w_taskLapse.get DISP_CTRL_LAPSE_GRACE ≤ w_taskLapse.sfn) ∧ (bitOf ({ id := 4102, level := 5, flags := 1, mask := 1, target := 0, origin := 0x10, readyPly := 0, body := [], state := 4, exec := 9, ackedBy := 900 } : Task).flags 1 = false) ∧ ((State.slotEmptied (State.produce (State.setTask { State.bump ({ wMac [] with disp := { tasks := [(6, { id := 4102, level := 5, flags := 1, mask := 1, target := 0, origin := 0x10, readyPly := 0, body := [], state := 4, exec := 9, ackedBy := 900 })], fresh := 7 } } : State) DISP_CNT2_LAPSED with disp := { ({ wMac [] with disp := { tasks := [(6, { id := 4102, level := 5, flags := 1, mask := 1, target := 0, origin := 0x10, readyPly := 0, body := [], state := 4, exec := 9, ackedBy := 900 })], fresh := 7 } } : State).disp with pend := ({ wMac [] with disp := { tasks := [(6, { id := 4102, level := 5, flags := 1, mask := 1, target := 0, origin := 0x10, readyPly := 0, body := [], state := 4, exec := 9, ackedBy := 900 })], fresh := 7 } } : State).disp.pend.filter (fun (x : Nat) => x ≠ taskIx ({ id := 4102, level := 5, flags := 1, mask := 1, target := 0, origin := 0x10, readyPly := 0, body := [], state := 4, exec := 9, ackedBy := 900 } : Task).id), ready := ({ wMac [] with disp := { tasks := [(6, { id := 4102, level := 5, flags := 1, mask := 1, target := 0, origin := 0x10, readyPly := 0, body := [], state := 4, exec := 9, ackedBy := 900 })], fresh := 7 } } : State).disp.ready.filter (fun (x : Nat) => x ≠ taskIx ({ id := 4102, level := 5, flags := 1, mask := 1, target := 0, origin := 0x10, readyPly := 0, body := [], state := 4, exec := 9, ackedBy := 900 } : Task).id), freed := ({ wMac [] with disp := { tasks := [(6, { id := 4102, level := 5, flags := 1, mask := 1, target := 0, origin := 0x10, readyPly := 0, body := [], state := 4, exec := 9, ackedBy := 900 })], fresh := 7 } } : State).disp.freed ++ [taskIx ({ id := 4102, level := 5, flags := 1, mask := 1, target := 0, origin := 0x10, readyPly := 0, body := [], state := 4, exec := 9, ackedBy := 900 } : Task).id] } } ({ ({ id := 4102, level := 5, flags := 1, mask := 1, target := 0, origin := 0x10, readyPly := 0, body := [], state := 4, exec := 9, ackedBy := 900 } : Task) with requeued := bitOf ({ id := 4102, level := 5, flags := 1, mask := 1, target := 0, origin := 0x10, readyPly := 0, body := [], state := 4, exec := 9, ackedBy := 900 } : Task).flags 1, wasRequeued := bitOf ({ id := 4102, level := 5, flags := 1, mask := 1, target := 0, origin := 0x10, readyPly := 0, body := [], state := 4, exec := 9, ackedBy := 900 } : Task).flags 1, state := 9, endPly := ({ wMac [] with disp := { tasks := [(6, { id := 4102, level := 5, flags := 1, mask := 1, target := 0, origin := 0x10, readyPly := 0, body := [], state := 4, exec := 9, ackedBy := 900 })], fresh := 7 } } : State).ply })) 5 (leBytes 4 ({ id := 4102, level := 5, flags := 1, mask := 1, target := 0, origin := 0x10, readyPly := 0, body := [], state := 4, exec := 9, ackedBy := 900 } : Task).id ++ [9, ({ id := 4102, level := 5, flags := 1, mask := 1, target := 0, origin := 0x10, readyPly := 0, body := [], state := 4, exec := 9, ackedBy := 900 } : Task).result, ({ id := 4102, level := 5, flags := 1, mask := 1, target := 0, origin := 0x10, readyPly := 0, body := [], state := 4, exec := 9, ackedBy := 900 } : Task).exec, b2n ({ id := 4102, level := 5, flags := 1, mask := 1, target := 0, origin := 0x10, readyPly := 0, body := [], state := 4, exec := 9, ackedBy := 900 } : Task).unknownEnd + 2 * b2n (bitOf ({ id := 4102, level := 5, flags := 1, mask := 1, target := 0, origin := 0x10, readyPly := 0, body := [], state := 4, exec := 9, ackedBy := 900 } : Task).flags 1)] ++ leBytes 4 ({ id := 4102, level := 5, flags := 1, mask := 1, target := 0, origin := 0x10, readyPly := 0, body := [], state := 4, exec := 9, ackedBy := 900 } : Task).data ++ leBytes 8 ({ wMac [] with disp := { tasks := [(6, { id := 4102, level := 5, flags := 1, mask := 1, target := 0, origin := 0x10, readyPly := 0, body := [], state := 4, exec := 9, ackedBy := 900 })], fresh := 7 } } : State).ply) (some (({ wMac [] with disp := { tasks := [(6, { id := 4102, level := 5, flags := 1, mask := 1, target := 0, origin := 0x10, readyPly := 0, body := [], state := 4, exec := 9, ackedBy := 900 })], fresh := 7 } } : State).ply + 10000))) ({ id := 4102, level := 5, flags := 1, mask := 1, target := 0, origin := 0x10, readyPly := 0, body := [], state := 4, exec := 9, ackedBy := 900 } : Task).exec : State) = State.slotEmptied (State.produce (State.setTask { State.bump w_taskLapse DISP_CNT2_LAPSED with disp := { w_taskLapse.disp with pend := w_taskLapse.disp.pend.filter (fun (x : Nat) => x ≠ taskIx ({ id := 4102, level := 5, flags := 1, mask := 1, target := 0, origin := 0x10, readyPly := 0, body := [], state := 4, exec := 9, ackedBy := 900 } : Task).id), ready := w_taskLapse.disp.ready.filter (fun (x : Nat) => x ≠ taskIx ({ id := 4102, level := 5, flags := 1, mask := 1, target := 0, origin := 0x10, readyPly := 0, body := [], state := 4, exec := 9, ackedBy := 900 } : Task).id), freed := w_taskLapse.disp.freed ++ [taskIx ({ id := 4102, level := 5, flags := 1, mask := 1, target := 0, origin := 0x10, readyPly := 0, body := [], state := 4, exec := 9, ackedBy := 900 } : Task).id] } } ({ ({ id := 4102, level := 5, flags := 1, mask := 1, target := 0, origin := 0x10, readyPly := 0, body := [], state := 4, exec := 9, ackedBy := 900 } : Task) with requeued := bitOf ({ id := 4102, level := 5, flags := 1, mask := 1, target := 0, origin := 0x10, readyPly := 0, body := [], state := 4, exec := 9, ackedBy := 900 } : Task).flags 1, wasRequeued := bitOf ({ id := 4102, level := 5, flags := 1, mask := 1, target := 0, origin := 0x10, readyPly := 0, body := [], state := 4, exec := 9, ackedBy := 900 } : Task).flags 1, state := 9, endPly := w_taskLapse.ply })) 5 (leBytes 4 ({ id := 4102, level := 5, flags := 1, mask := 1, target := 0, origin := 0x10, readyPly := 0, body := [], state := 4, exec := 9, ackedBy := 900 } : Task).id ++ [9, ({ id := 4102, level := 5, flags := 1, mask := 1, target := 0, origin := 0x10, readyPly := 0, body := [], state := 4, exec := 9, ackedBy := 900 } : Task).result, ({ id := 4102, level := 5, flags := 1, mask := 1, target := 0, origin := 0x10, readyPly := 0, body := [], state := 4, exec := 9, ackedBy := 900 } : Task).exec, b2n ({ id := 4102, level := 5, flags := 1, mask := 1, target := 0, origin := 0x10, readyPly := 0, body := [], state := 4, exec := 9, ackedBy := 900 } : Task).unknownEnd + 2 * b2n (bitOf ({ id := 4102, level := 5, flags := 1, mask := 1, target := 0, origin := 0x10, readyPly := 0, body := [], state := 4, exec := 9, ackedBy := 900 } : Task).flags 1)] ++ leBytes 4 ({ id := 4102, level := 5, flags := 1, mask := 1, target := 0, origin := 0x10, readyPly := 0, body := [], state := 4, exec := 9, ackedBy := 900 } : Task).data ++ leBytes 8 w_taskLapse.ply) (some (w_taskLapse.ply + 10000))) ({ id := 4102, level := 5, flags := 1, mask := 1, target := 0, origin := 0x10, readyPly := 0, body := [], state := 4, exec := 9, ackedBy := 900 } : Task).exec)) ∧ (match exec (.taskLapse 6) w_taskLapse with
    | .next t => decide ((t = (State.slotEmptied (State.produce (State.setTask { State.bump ({ wMac [] with disp := { tasks := [(6, { id := 4102, level := 5, flags := 1, mask := 1, target := 0, origin := 0x10, readyPly := 0, body := [], state := 4, exec := 9, ackedBy := 900 })], fresh := 7 } } : State) DISP_CNT2_LAPSED with disp := { ({ wMac [] with disp := { tasks := [(6, { id := 4102, level := 5, flags := 1, mask := 1, target := 0, origin := 0x10, readyPly := 0, body := [], state := 4, exec := 9, ackedBy := 900 })], fresh := 7 } } : State).disp with pend := ({ wMac [] with disp := { tasks := [(6, { id := 4102, level := 5, flags := 1, mask := 1, target := 0, origin := 0x10, readyPly := 0, body := [], state := 4, exec := 9, ackedBy := 900 })], fresh := 7 } } : State).disp.pend.filter (fun (x : Nat) => x ≠ taskIx ({ id := 4102, level := 5, flags := 1, mask := 1, target := 0, origin := 0x10, readyPly := 0, body := [], state := 4, exec := 9, ackedBy := 900 } : Task).id), ready := ({ wMac [] with disp := { tasks := [(6, { id := 4102, level := 5, flags := 1, mask := 1, target := 0, origin := 0x10, readyPly := 0, body := [], state := 4, exec := 9, ackedBy := 900 })], fresh := 7 } } : State).disp.ready.filter (fun (x : Nat) => x ≠ taskIx ({ id := 4102, level := 5, flags := 1, mask := 1, target := 0, origin := 0x10, readyPly := 0, body := [], state := 4, exec := 9, ackedBy := 900 } : Task).id), freed := ({ wMac [] with disp := { tasks := [(6, { id := 4102, level := 5, flags := 1, mask := 1, target := 0, origin := 0x10, readyPly := 0, body := [], state := 4, exec := 9, ackedBy := 900 })], fresh := 7 } } : State).disp.freed ++ [taskIx ({ id := 4102, level := 5, flags := 1, mask := 1, target := 0, origin := 0x10, readyPly := 0, body := [], state := 4, exec := 9, ackedBy := 900 } : Task).id] } } ({ ({ id := 4102, level := 5, flags := 1, mask := 1, target := 0, origin := 0x10, readyPly := 0, body := [], state := 4, exec := 9, ackedBy := 900 } : Task) with requeued := bitOf ({ id := 4102, level := 5, flags := 1, mask := 1, target := 0, origin := 0x10, readyPly := 0, body := [], state := 4, exec := 9, ackedBy := 900 } : Task).flags 1, wasRequeued := bitOf ({ id := 4102, level := 5, flags := 1, mask := 1, target := 0, origin := 0x10, readyPly := 0, body := [], state := 4, exec := 9, ackedBy := 900 } : Task).flags 1, state := 9, endPly := ({ wMac [] with disp := { tasks := [(6, { id := 4102, level := 5, flags := 1, mask := 1, target := 0, origin := 0x10, readyPly := 0, body := [], state := 4, exec := 9, ackedBy := 900 })], fresh := 7 } } : State).ply })) 5 (leBytes 4 ({ id := 4102, level := 5, flags := 1, mask := 1, target := 0, origin := 0x10, readyPly := 0, body := [], state := 4, exec := 9, ackedBy := 900 } : Task).id ++ [9, ({ id := 4102, level := 5, flags := 1, mask := 1, target := 0, origin := 0x10, readyPly := 0, body := [], state := 4, exec := 9, ackedBy := 900 } : Task).result, ({ id := 4102, level := 5, flags := 1, mask := 1, target := 0, origin := 0x10, readyPly := 0, body := [], state := 4, exec := 9, ackedBy := 900 } : Task).exec, b2n ({ id := 4102, level := 5, flags := 1, mask := 1, target := 0, origin := 0x10, readyPly := 0, body := [], state := 4, exec := 9, ackedBy := 900 } : Task).unknownEnd + 2 * b2n (bitOf ({ id := 4102, level := 5, flags := 1, mask := 1, target := 0, origin := 0x10, readyPly := 0, body := [], state := 4, exec := 9, ackedBy := 900 } : Task).flags 1)] ++ leBytes 4 ({ id := 4102, level := 5, flags := 1, mask := 1, target := 0, origin := 0x10, readyPly := 0, body := [], state := 4, exec := 9, ackedBy := 900 } : Task).data ++ leBytes 8 ({ wMac [] with disp := { tasks := [(6, { id := 4102, level := 5, flags := 1, mask := 1, target := 0, origin := 0x10, readyPly := 0, body := [], state := 4, exec := 9, ackedBy := 900 })], fresh := 7 } } : State).ply) (some (({ wMac [] with disp := { tasks := [(6, { id := 4102, level := 5, flags := 1, mask := 1, target := 0, origin := 0x10, readyPly := 0, body := [], state := 4, exec := 9, ackedBy := 900 })], fresh := 7 } } : State).ply + 10000))) ({ id := 4102, level := 5, flags := 1, mask := 1, target := 0, origin := 0x10, readyPly := 0, body := [], state := 4, exec := 9, ackedBy := 900 } : Task).exec : State).unstall))
    | _ => false) = true := by decide +kernel

def w_taskLapse_requeue : State := { wMac [] with disp := { tasks := [(6, { id := 4102, level := 5, flags := 3, mask := 1, target := 0, origin := 0x10, readyPly := 0, body := [], state := 4, exec := 9, ackedBy := 900 })], fresh := 7 } }

theorem test_taskLapse_requeue : ((w_taskLapse_requeue.stopSafe = true) ∧ (w_taskLapse_requeue.task 6 = some ({ id := 4102, level := 5, flags := 3, mask := 1, target := 0, origin := 0x10, readyPly := 0, body := [], state := 4, exec := 9, ackedBy := 900 } : Task)) ∧ (({ id := 4102, level := 5, flags := 3, mask := 1, target := 0, origin := 0x10, readyPly := 0, body := [], state := 4, exec := 9, ackedBy := 900 } : Task).state = 4) ∧ (w_taskLapse_requeue.hasSfn = true) ∧ (({ id := 4102, level := 5, flags := 3, mask := 1, target := 0, origin := 0x10, readyPly := 0, body := [], state := 4, exec := 9, ackedBy := 900 } : Task).ackedBy + w_taskLapse_requeue.get DISP_CTRL_LAPSE_GRACE ≤ w_taskLapse_requeue.sfn) ∧ (bitOf ({ id := 4102, level := 5, flags := 3, mask := 1, target := 0, origin := 0x10, readyPly := 0, body := [], state := 4, exec := 9, ackedBy := 900 } : Task).flags 1 = true) ∧ ((State.slotEmptied (State.produce (State.setTask { State.bump ({ wMac [] with disp := { tasks := [(6, { id := 4102, level := 5, flags := 3, mask := 1, target := 0, origin := 0x10, readyPly := 0, body := [], state := 4, exec := 9, ackedBy := 900 })], fresh := 7 } } : State) DISP_CNT2_LAPSED with disp := { ({ wMac [] with disp := { tasks := [(6, { id := 4102, level := 5, flags := 3, mask := 1, target := 0, origin := 0x10, readyPly := 0, body := [], state := 4, exec := 9, ackedBy := 900 })], fresh := 7 } } : State).disp with pend := ({ wMac [] with disp := { tasks := [(6, { id := 4102, level := 5, flags := 3, mask := 1, target := 0, origin := 0x10, readyPly := 0, body := [], state := 4, exec := 9, ackedBy := 900 })], fresh := 7 } } : State).disp.pend.filter (fun (x : Nat) => x ≠ taskIx ({ id := 4102, level := 5, flags := 3, mask := 1, target := 0, origin := 0x10, readyPly := 0, body := [], state := 4, exec := 9, ackedBy := 900 } : Task).id), ready := ({ wMac [] with disp := { tasks := [(6, { id := 4102, level := 5, flags := 3, mask := 1, target := 0, origin := 0x10, readyPly := 0, body := [], state := 4, exec := 9, ackedBy := 900 })], fresh := 7 } } : State).disp.ready.filter (fun (x : Nat) => x ≠ taskIx ({ id := 4102, level := 5, flags := 3, mask := 1, target := 0, origin := 0x10, readyPly := 0, body := [], state := 4, exec := 9, ackedBy := 900 } : Task).id), freed := ({ wMac [] with disp := { tasks := [(6, { id := 4102, level := 5, flags := 3, mask := 1, target := 0, origin := 0x10, readyPly := 0, body := [], state := 4, exec := 9, ackedBy := 900 })], fresh := 7 } } : State).disp.freed ++ [taskIx ({ id := 4102, level := 5, flags := 3, mask := 1, target := 0, origin := 0x10, readyPly := 0, body := [], state := 4, exec := 9, ackedBy := 900 } : Task).id] } } ({ ({ id := 4102, level := 5, flags := 3, mask := 1, target := 0, origin := 0x10, readyPly := 0, body := [], state := 4, exec := 9, ackedBy := 900 } : Task) with requeued := bitOf ({ id := 4102, level := 5, flags := 3, mask := 1, target := 0, origin := 0x10, readyPly := 0, body := [], state := 4, exec := 9, ackedBy := 900 } : Task).flags 1, wasRequeued := bitOf ({ id := 4102, level := 5, flags := 3, mask := 1, target := 0, origin := 0x10, readyPly := 0, body := [], state := 4, exec := 9, ackedBy := 900 } : Task).flags 1, state := 9, endPly := ({ wMac [] with disp := { tasks := [(6, { id := 4102, level := 5, flags := 3, mask := 1, target := 0, origin := 0x10, readyPly := 0, body := [], state := 4, exec := 9, ackedBy := 900 })], fresh := 7 } } : State).ply })) 5 (leBytes 4 ({ id := 4102, level := 5, flags := 3, mask := 1, target := 0, origin := 0x10, readyPly := 0, body := [], state := 4, exec := 9, ackedBy := 900 } : Task).id ++ [9, ({ id := 4102, level := 5, flags := 3, mask := 1, target := 0, origin := 0x10, readyPly := 0, body := [], state := 4, exec := 9, ackedBy := 900 } : Task).result, ({ id := 4102, level := 5, flags := 3, mask := 1, target := 0, origin := 0x10, readyPly := 0, body := [], state := 4, exec := 9, ackedBy := 900 } : Task).exec, b2n ({ id := 4102, level := 5, flags := 3, mask := 1, target := 0, origin := 0x10, readyPly := 0, body := [], state := 4, exec := 9, ackedBy := 900 } : Task).unknownEnd + 2 * b2n (bitOf ({ id := 4102, level := 5, flags := 3, mask := 1, target := 0, origin := 0x10, readyPly := 0, body := [], state := 4, exec := 9, ackedBy := 900 } : Task).flags 1)] ++ leBytes 4 ({ id := 4102, level := 5, flags := 3, mask := 1, target := 0, origin := 0x10, readyPly := 0, body := [], state := 4, exec := 9, ackedBy := 900 } : Task).data ++ leBytes 8 ({ wMac [] with disp := { tasks := [(6, { id := 4102, level := 5, flags := 3, mask := 1, target := 0, origin := 0x10, readyPly := 0, body := [], state := 4, exec := 9, ackedBy := 900 })], fresh := 7 } } : State).ply) (some (({ wMac [] with disp := { tasks := [(6, { id := 4102, level := 5, flags := 3, mask := 1, target := 0, origin := 0x10, readyPly := 0, body := [], state := 4, exec := 9, ackedBy := 900 })], fresh := 7 } } : State).ply + 10000))) ({ id := 4102, level := 5, flags := 3, mask := 1, target := 0, origin := 0x10, readyPly := 0, body := [], state := 4, exec := 9, ackedBy := 900 } : Task).exec : State) = State.slotEmptied (State.produce (State.setTask { State.bump w_taskLapse_requeue DISP_CNT2_LAPSED with disp := { w_taskLapse_requeue.disp with pend := w_taskLapse_requeue.disp.pend.filter (fun (x : Nat) => x ≠ taskIx ({ id := 4102, level := 5, flags := 3, mask := 1, target := 0, origin := 0x10, readyPly := 0, body := [], state := 4, exec := 9, ackedBy := 900 } : Task).id), ready := w_taskLapse_requeue.disp.ready.filter (fun (x : Nat) => x ≠ taskIx ({ id := 4102, level := 5, flags := 3, mask := 1, target := 0, origin := 0x10, readyPly := 0, body := [], state := 4, exec := 9, ackedBy := 900 } : Task).id), freed := w_taskLapse_requeue.disp.freed ++ [taskIx ({ id := 4102, level := 5, flags := 3, mask := 1, target := 0, origin := 0x10, readyPly := 0, body := [], state := 4, exec := 9, ackedBy := 900 } : Task).id] } } ({ ({ id := 4102, level := 5, flags := 3, mask := 1, target := 0, origin := 0x10, readyPly := 0, body := [], state := 4, exec := 9, ackedBy := 900 } : Task) with requeued := bitOf ({ id := 4102, level := 5, flags := 3, mask := 1, target := 0, origin := 0x10, readyPly := 0, body := [], state := 4, exec := 9, ackedBy := 900 } : Task).flags 1, wasRequeued := bitOf ({ id := 4102, level := 5, flags := 3, mask := 1, target := 0, origin := 0x10, readyPly := 0, body := [], state := 4, exec := 9, ackedBy := 900 } : Task).flags 1, state := 9, endPly := w_taskLapse_requeue.ply })) 5 (leBytes 4 ({ id := 4102, level := 5, flags := 3, mask := 1, target := 0, origin := 0x10, readyPly := 0, body := [], state := 4, exec := 9, ackedBy := 900 } : Task).id ++ [9, ({ id := 4102, level := 5, flags := 3, mask := 1, target := 0, origin := 0x10, readyPly := 0, body := [], state := 4, exec := 9, ackedBy := 900 } : Task).result, ({ id := 4102, level := 5, flags := 3, mask := 1, target := 0, origin := 0x10, readyPly := 0, body := [], state := 4, exec := 9, ackedBy := 900 } : Task).exec, b2n ({ id := 4102, level := 5, flags := 3, mask := 1, target := 0, origin := 0x10, readyPly := 0, body := [], state := 4, exec := 9, ackedBy := 900 } : Task).unknownEnd + 2 * b2n (bitOf ({ id := 4102, level := 5, flags := 3, mask := 1, target := 0, origin := 0x10, readyPly := 0, body := [], state := 4, exec := 9, ackedBy := 900 } : Task).flags 1)] ++ leBytes 4 ({ id := 4102, level := 5, flags := 3, mask := 1, target := 0, origin := 0x10, readyPly := 0, body := [], state := 4, exec := 9, ackedBy := 900 } : Task).data ++ leBytes 8 w_taskLapse_requeue.ply) (some (w_taskLapse_requeue.ply + 10000))) ({ id := 4102, level := 5, flags := 3, mask := 1, target := 0, origin := 0x10, readyPly := 0, body := [], state := 4, exec := 9, ackedBy := 900 } : Task).exec) ∧ ((State.slotEmptied (State.produce (State.setTask { State.bump ({ wMac [] with disp := { tasks := [(6, { id := 4102, level := 5, flags := 3, mask := 1, target := 0, origin := 0x10, readyPly := 0, body := [], state := 4, exec := 9, ackedBy := 900 })], fresh := 7 } } : State) DISP_CNT2_LAPSED with disp := { ({ wMac [] with disp := { tasks := [(6, { id := 4102, level := 5, flags := 3, mask := 1, target := 0, origin := 0x10, readyPly := 0, body := [], state := 4, exec := 9, ackedBy := 900 })], fresh := 7 } } : State).disp with pend := ({ wMac [] with disp := { tasks := [(6, { id := 4102, level := 5, flags := 3, mask := 1, target := 0, origin := 0x10, readyPly := 0, body := [], state := 4, exec := 9, ackedBy := 900 })], fresh := 7 } } : State).disp.pend.filter (fun (x : Nat) => x ≠ taskIx ({ id := 4102, level := 5, flags := 3, mask := 1, target := 0, origin := 0x10, readyPly := 0, body := [], state := 4, exec := 9, ackedBy := 900 } : Task).id), ready := ({ wMac [] with disp := { tasks := [(6, { id := 4102, level := 5, flags := 3, mask := 1, target := 0, origin := 0x10, readyPly := 0, body := [], state := 4, exec := 9, ackedBy := 900 })], fresh := 7 } } : State).disp.ready.filter (fun (x : Nat) => x ≠ taskIx ({ id := 4102, level := 5, flags := 3, mask := 1, target := 0, origin := 0x10, readyPly := 0, body := [], state := 4, exec := 9, ackedBy := 900 } : Task).id), freed := ({ wMac [] with disp := { tasks := [(6, { id := 4102, level := 5, flags := 3, mask := 1, target := 0, origin := 0x10, readyPly := 0, body := [], state := 4, exec := 9, ackedBy := 900 })], fresh := 7 } } : State).disp.freed ++ [taskIx ({ id := 4102, level := 5, flags := 3, mask := 1, target := 0, origin := 0x10, readyPly := 0, body := [], state := 4, exec := 9, ackedBy := 900 } : Task).id] } } ({ ({ id := 4102, level := 5, flags := 3, mask := 1, target := 0, origin := 0x10, readyPly := 0, body := [], state := 4, exec := 9, ackedBy := 900 } : Task) with requeued := bitOf ({ id := 4102, level := 5, flags := 3, mask := 1, target := 0, origin := 0x10, readyPly := 0, body := [], state := 4, exec := 9, ackedBy := 900 } : Task).flags 1, wasRequeued := bitOf ({ id := 4102, level := 5, flags := 3, mask := 1, target := 0, origin := 0x10, readyPly := 0, body := [], state := 4, exec := 9, ackedBy := 900 } : Task).flags 1, state := 9, endPly := ({ wMac [] with disp := { tasks := [(6, { id := 4102, level := 5, flags := 3, mask := 1, target := 0, origin := 0x10, readyPly := 0, body := [], state := 4, exec := 9, ackedBy := 900 })], fresh := 7 } } : State).ply })) 5 (leBytes 4 ({ id := 4102, level := 5, flags := 3, mask := 1, target := 0, origin := 0x10, readyPly := 0, body := [], state := 4, exec := 9, ackedBy := 900 } : Task).id ++ [9, ({ id := 4102, level := 5, flags := 3, mask := 1, target := 0, origin := 0x10, readyPly := 0, body := [], state := 4, exec := 9, ackedBy := 900 } : Task).result, ({ id := 4102, level := 5, flags := 3, mask := 1, target := 0, origin := 0x10, readyPly := 0, body := [], state := 4, exec := 9, ackedBy := 900 } : Task).exec, b2n ({ id := 4102, level := 5, flags := 3, mask := 1, target := 0, origin := 0x10, readyPly := 0, body := [], state := 4, exec := 9, ackedBy := 900 } : Task).unknownEnd + 2 * b2n (bitOf ({ id := 4102, level := 5, flags := 3, mask := 1, target := 0, origin := 0x10, readyPly := 0, body := [], state := 4, exec := 9, ackedBy := 900 } : Task).flags 1)] ++ leBytes 4 ({ id := 4102, level := 5, flags := 3, mask := 1, target := 0, origin := 0x10, readyPly := 0, body := [], state := 4, exec := 9, ackedBy := 900 } : Task).data ++ leBytes 8 ({ wMac [] with disp := { tasks := [(6, { id := 4102, level := 5, flags := 3, mask := 1, target := 0, origin := 0x10, readyPly := 0, body := [], state := 4, exec := 9, ackedBy := 900 })], fresh := 7 } } : State).ply) (some (({ wMac [] with disp := { tasks := [(6, { id := 4102, level := 5, flags := 3, mask := 1, target := 0, origin := 0x10, readyPly := 0, body := [], state := 4, exec := 9, ackedBy := 900 })], fresh := 7 } } : State).ply + 10000))) ({ id := 4102, level := 5, flags := 3, mask := 1, target := 0, origin := 0x10, readyPly := 0, body := [], state := 4, exec := 9, ackedBy := 900 } : Task).exec : State).nextIx = some 7)) ∧ (match exec (.taskLapse 6) w_taskLapse_requeue with
    | .next t => decide ((t = State.unstall (let z : State := State.setTask { (State.slotEmptied (State.produce (State.setTask { State.bump ({ wMac [] with disp := { tasks := [(6, { id := 4102, level := 5, flags := 3, mask := 1, target := 0, origin := 0x10, readyPly := 0, body := [], state := 4, exec := 9, ackedBy := 900 })], fresh := 7 } } : State) DISP_CNT2_LAPSED with disp := { ({ wMac [] with disp := { tasks := [(6, { id := 4102, level := 5, flags := 3, mask := 1, target := 0, origin := 0x10, readyPly := 0, body := [], state := 4, exec := 9, ackedBy := 900 })], fresh := 7 } } : State).disp with pend := ({ wMac [] with disp := { tasks := [(6, { id := 4102, level := 5, flags := 3, mask := 1, target := 0, origin := 0x10, readyPly := 0, body := [], state := 4, exec := 9, ackedBy := 900 })], fresh := 7 } } : State).disp.pend.filter (fun (x : Nat) => x ≠ taskIx ({ id := 4102, level := 5, flags := 3, mask := 1, target := 0, origin := 0x10, readyPly := 0, body := [], state := 4, exec := 9, ackedBy := 900 } : Task).id), ready := ({ wMac [] with disp := { tasks := [(6, { id := 4102, level := 5, flags := 3, mask := 1, target := 0, origin := 0x10, readyPly := 0, body := [], state := 4, exec := 9, ackedBy := 900 })], fresh := 7 } } : State).disp.ready.filter (fun (x : Nat) => x ≠ taskIx ({ id := 4102, level := 5, flags := 3, mask := 1, target := 0, origin := 0x10, readyPly := 0, body := [], state := 4, exec := 9, ackedBy := 900 } : Task).id), freed := ({ wMac [] with disp := { tasks := [(6, { id := 4102, level := 5, flags := 3, mask := 1, target := 0, origin := 0x10, readyPly := 0, body := [], state := 4, exec := 9, ackedBy := 900 })], fresh := 7 } } : State).disp.freed ++ [taskIx ({ id := 4102, level := 5, flags := 3, mask := 1, target := 0, origin := 0x10, readyPly := 0, body := [], state := 4, exec := 9, ackedBy := 900 } : Task).id] } } ({ ({ id := 4102, level := 5, flags := 3, mask := 1, target := 0, origin := 0x10, readyPly := 0, body := [], state := 4, exec := 9, ackedBy := 900 } : Task) with requeued := bitOf ({ id := 4102, level := 5, flags := 3, mask := 1, target := 0, origin := 0x10, readyPly := 0, body := [], state := 4, exec := 9, ackedBy := 900 } : Task).flags 1, wasRequeued := bitOf ({ id := 4102, level := 5, flags := 3, mask := 1, target := 0, origin := 0x10, readyPly := 0, body := [], state := 4, exec := 9, ackedBy := 900 } : Task).flags 1, state := 9, endPly := ({ wMac [] with disp := { tasks := [(6, { id := 4102, level := 5, flags := 3, mask := 1, target := 0, origin := 0x10, readyPly := 0, body := [], state := 4, exec := 9, ackedBy := 900 })], fresh := 7 } } : State).ply })) 5 (leBytes 4 ({ id := 4102, level := 5, flags := 3, mask := 1, target := 0, origin := 0x10, readyPly := 0, body := [], state := 4, exec := 9, ackedBy := 900 } : Task).id ++ [9, ({ id := 4102, level := 5, flags := 3, mask := 1, target := 0, origin := 0x10, readyPly := 0, body := [], state := 4, exec := 9, ackedBy := 900 } : Task).result, ({ id := 4102, level := 5, flags := 3, mask := 1, target := 0, origin := 0x10, readyPly := 0, body := [], state := 4, exec := 9, ackedBy := 900 } : Task).exec, b2n ({ id := 4102, level := 5, flags := 3, mask := 1, target := 0, origin := 0x10, readyPly := 0, body := [], state := 4, exec := 9, ackedBy := 900 } : Task).unknownEnd + 2 * b2n (bitOf ({ id := 4102, level := 5, flags := 3, mask := 1, target := 0, origin := 0x10, readyPly := 0, body := [], state := 4, exec := 9, ackedBy := 900 } : Task).flags 1)] ++ leBytes 4 ({ id := 4102, level := 5, flags := 3, mask := 1, target := 0, origin := 0x10, readyPly := 0, body := [], state := 4, exec := 9, ackedBy := 900 } : Task).data ++ leBytes 8 ({ wMac [] with disp := { tasks := [(6, { id := 4102, level := 5, flags := 3, mask := 1, target := 0, origin := 0x10, readyPly := 0, body := [], state := 4, exec := 9, ackedBy := 900 })], fresh := 7 } } : State).ply) (some (({ wMac [] with disp := { tasks := [(6, { id := 4102, level := 5, flags := 3, mask := 1, target := 0, origin := 0x10, readyPly := 0, body := [], state := 4, exec := 9, ackedBy := 900 })], fresh := 7 } } : State).ply + 10000))) ({ id := 4102, level := 5, flags := 3, mask := 1, target := 0, origin := 0x10, readyPly := 0, body := [], state := 4, exec := 9, ackedBy := 900 } : Task).exec : State) with disp := { (State.slotEmptied (State.produce (State.setTask { State.bump ({ wMac [] with disp := { tasks := [(6, { id := 4102, level := 5, flags := 3, mask := 1, target := 0, origin := 0x10, readyPly := 0, body := [], state := 4, exec := 9, ackedBy := 900 })], fresh := 7 } } : State) DISP_CNT2_LAPSED with disp := { ({ wMac [] with disp := { tasks := [(6, { id := 4102, level := 5, flags := 3, mask := 1, target := 0, origin := 0x10, readyPly := 0, body := [], state := 4, exec := 9, ackedBy := 900 })], fresh := 7 } } : State).disp with pend := ({ wMac [] with disp := { tasks := [(6, { id := 4102, level := 5, flags := 3, mask := 1, target := 0, origin := 0x10, readyPly := 0, body := [], state := 4, exec := 9, ackedBy := 900 })], fresh := 7 } } : State).disp.pend.filter (fun (x : Nat) => x ≠ taskIx ({ id := 4102, level := 5, flags := 3, mask := 1, target := 0, origin := 0x10, readyPly := 0, body := [], state := 4, exec := 9, ackedBy := 900 } : Task).id), ready := ({ wMac [] with disp := { tasks := [(6, { id := 4102, level := 5, flags := 3, mask := 1, target := 0, origin := 0x10, readyPly := 0, body := [], state := 4, exec := 9, ackedBy := 900 })], fresh := 7 } } : State).disp.ready.filter (fun (x : Nat) => x ≠ taskIx ({ id := 4102, level := 5, flags := 3, mask := 1, target := 0, origin := 0x10, readyPly := 0, body := [], state := 4, exec := 9, ackedBy := 900 } : Task).id), freed := ({ wMac [] with disp := { tasks := [(6, { id := 4102, level := 5, flags := 3, mask := 1, target := 0, origin := 0x10, readyPly := 0, body := [], state := 4, exec := 9, ackedBy := 900 })], fresh := 7 } } : State).disp.freed ++ [taskIx ({ id := 4102, level := 5, flags := 3, mask := 1, target := 0, origin := 0x10, readyPly := 0, body := [], state := 4, exec := 9, ackedBy := 900 } : Task).id] } } ({ ({ id := 4102, level := 5, flags := 3, mask := 1, target := 0, origin := 0x10, readyPly := 0, body := [], state := 4, exec := 9, ackedBy := 900 } : Task) with requeued := bitOf ({ id := 4102, level := 5, flags := 3, mask := 1, target := 0, origin := 0x10, readyPly := 0, body := [], state := 4, exec := 9, ackedBy := 900 } : Task).flags 1, wasRequeued := bitOf ({ id := 4102, level := 5, flags := 3, mask := 1, target := 0, origin := 0x10, readyPly := 0, body := [], state := 4, exec := 9, ackedBy := 900 } : Task).flags 1, state := 9, endPly := ({ wMac [] with disp := { tasks := [(6, { id := 4102, level := 5, flags := 3, mask := 1, target := 0, origin := 0x10, readyPly := 0, body := [], state := 4, exec := 9, ackedBy := 900 })], fresh := 7 } } : State).ply })) 5 (leBytes 4 ({ id := 4102, level := 5, flags := 3, mask := 1, target := 0, origin := 0x10, readyPly := 0, body := [], state := 4, exec := 9, ackedBy := 900 } : Task).id ++ [9, ({ id := 4102, level := 5, flags := 3, mask := 1, target := 0, origin := 0x10, readyPly := 0, body := [], state := 4, exec := 9, ackedBy := 900 } : Task).result, ({ id := 4102, level := 5, flags := 3, mask := 1, target := 0, origin := 0x10, readyPly := 0, body := [], state := 4, exec := 9, ackedBy := 900 } : Task).exec, b2n ({ id := 4102, level := 5, flags := 3, mask := 1, target := 0, origin := 0x10, readyPly := 0, body := [], state := 4, exec := 9, ackedBy := 900 } : Task).unknownEnd + 2 * b2n (bitOf ({ id := 4102, level := 5, flags := 3, mask := 1, target := 0, origin := 0x10, readyPly := 0, body := [], state := 4, exec := 9, ackedBy := 900 } : Task).flags 1)] ++ leBytes 4 ({ id := 4102, level := 5, flags := 3, mask := 1, target := 0, origin := 0x10, readyPly := 0, body := [], state := 4, exec := 9, ackedBy := 900 } : Task).data ++ leBytes 8 ({ wMac [] with disp := { tasks := [(6, { id := 4102, level := 5, flags := 3, mask := 1, target := 0, origin := 0x10, readyPly := 0, body := [], state := 4, exec := 9, ackedBy := 900 })], fresh := 7 } } : State).ply) (some (({ wMac [] with disp := { tasks := [(6, { id := 4102, level := 5, flags := 3, mask := 1, target := 0, origin := 0x10, readyPly := 0, body := [], state := 4, exec := 9, ackedBy := 900 })], fresh := 7 } } : State).ply + 10000))) ({ id := 4102, level := 5, flags := 3, mask := 1, target := 0, origin := 0x10, readyPly := 0, body := [], state := 4, exec := 9, ackedBy := 900 } : Task).exec : State).disp with fresh := (if 7 = (State.slotEmptied (State.produce (State.setTask { State.bump ({ wMac [] with disp := { tasks := [(6, { id := 4102, level := 5, flags := 3, mask := 1, target := 0, origin := 0x10, readyPly := 0, body := [], state := 4, exec := 9, ackedBy := 900 })], fresh := 7 } } : State) DISP_CNT2_LAPSED with disp := { ({ wMac [] with disp := { tasks := [(6, { id := 4102, level := 5, flags := 3, mask := 1, target := 0, origin := 0x10, readyPly := 0, body := [], state := 4, exec := 9, ackedBy := 900 })], fresh := 7 } } : State).disp with pend := ({ wMac [] with disp := { tasks := [(6, { id := 4102, level := 5, flags := 3, mask := 1, target := 0, origin := 0x10, readyPly := 0, body := [], state := 4, exec := 9, ackedBy := 900 })], fresh := 7 } } : State).disp.pend.filter (fun (x : Nat) => x ≠ taskIx ({ id := 4102, level := 5, flags := 3, mask := 1, target := 0, origin := 0x10, readyPly := 0, body := [], state := 4, exec := 9, ackedBy := 900 } : Task).id), ready := ({ wMac [] with disp := { tasks := [(6, { id := 4102, level := 5, flags := 3, mask := 1, target := 0, origin := 0x10, readyPly := 0, body := [], state := 4, exec := 9, ackedBy := 900 })], fresh := 7 } } : State).disp.ready.filter (fun (x : Nat) => x ≠ taskIx ({ id := 4102, level := 5, flags := 3, mask := 1, target := 0, origin := 0x10, readyPly := 0, body := [], state := 4, exec := 9, ackedBy := 900 } : Task).id), freed := ({ wMac [] with disp := { tasks := [(6, { id := 4102, level := 5, flags := 3, mask := 1, target := 0, origin := 0x10, readyPly := 0, body := [], state := 4, exec := 9, ackedBy := 900 })], fresh := 7 } } : State).disp.freed ++ [taskIx ({ id := 4102, level := 5, flags := 3, mask := 1, target := 0, origin := 0x10, readyPly := 0, body := [], state := 4, exec := 9, ackedBy := 900 } : Task).id] } } ({ ({ id := 4102, level := 5, flags := 3, mask := 1, target := 0, origin := 0x10, readyPly := 0, body := [], state := 4, exec := 9, ackedBy := 900 } : Task) with requeued := bitOf ({ id := 4102, level := 5, flags := 3, mask := 1, target := 0, origin := 0x10, readyPly := 0, body := [], state := 4, exec := 9, ackedBy := 900 } : Task).flags 1, wasRequeued := bitOf ({ id := 4102, level := 5, flags := 3, mask := 1, target := 0, origin := 0x10, readyPly := 0, body := [], state := 4, exec := 9, ackedBy := 900 } : Task).flags 1, state := 9, endPly := ({ wMac [] with disp := { tasks := [(6, { id := 4102, level := 5, flags := 3, mask := 1, target := 0, origin := 0x10, readyPly := 0, body := [], state := 4, exec := 9, ackedBy := 900 })], fresh := 7 } } : State).ply })) 5 (leBytes 4 ({ id := 4102, level := 5, flags := 3, mask := 1, target := 0, origin := 0x10, readyPly := 0, body := [], state := 4, exec := 9, ackedBy := 900 } : Task).id ++ [9, ({ id := 4102, level := 5, flags := 3, mask := 1, target := 0, origin := 0x10, readyPly := 0, body := [], state := 4, exec := 9, ackedBy := 900 } : Task).result, ({ id := 4102, level := 5, flags := 3, mask := 1, target := 0, origin := 0x10, readyPly := 0, body := [], state := 4, exec := 9, ackedBy := 900 } : Task).exec, b2n ({ id := 4102, level := 5, flags := 3, mask := 1, target := 0, origin := 0x10, readyPly := 0, body := [], state := 4, exec := 9, ackedBy := 900 } : Task).unknownEnd + 2 * b2n (bitOf ({ id := 4102, level := 5, flags := 3, mask := 1, target := 0, origin := 0x10, readyPly := 0, body := [], state := 4, exec := 9, ackedBy := 900 } : Task).flags 1)] ++ leBytes 4 ({ id := 4102, level := 5, flags := 3, mask := 1, target := 0, origin := 0x10, readyPly := 0, body := [], state := 4, exec := 9, ackedBy := 900 } : Task).data ++ leBytes 8 ({ wMac [] with disp := { tasks := [(6, { id := 4102, level := 5, flags := 3, mask := 1, target := 0, origin := 0x10, readyPly := 0, body := [], state := 4, exec := 9, ackedBy := 900 })], fresh := 7 } } : State).ply) (some (({ wMac [] with disp := { tasks := [(6, { id := 4102, level := 5, flags := 3, mask := 1, target := 0, origin := 0x10, readyPly := 0, body := [], state := 4, exec := 9, ackedBy := 900 })], fresh := 7 } } : State).ply + 10000))) ({ id := 4102, level := 5, flags := 3, mask := 1, target := 0, origin := 0x10, readyPly := 0, body := [], state := 4, exec := 9, ackedBy := 900 } : Task).exec : State).disp.fresh then 7 + 1 else (State.slotEmptied (State.produce (State.setTask { State.bump ({ wMac [] with disp := { tasks := [(6, { id := 4102, level := 5, flags := 3, mask := 1, target := 0, origin := 0x10, readyPly := 0, body := [], state := 4, exec := 9, ackedBy := 900 })], fresh := 7 } } : State) DISP_CNT2_LAPSED with disp := { ({ wMac [] with disp := { tasks := [(6, { id := 4102, level := 5, flags := 3, mask := 1, target := 0, origin := 0x10, readyPly := 0, body := [], state := 4, exec := 9, ackedBy := 900 })], fresh := 7 } } : State).disp with pend := ({ wMac [] with disp := { tasks := [(6, { id := 4102, level := 5, flags := 3, mask := 1, target := 0, origin := 0x10, readyPly := 0, body := [], state := 4, exec := 9, ackedBy := 900 })], fresh := 7 } } : State).disp.pend.filter (fun (x : Nat) => x ≠ taskIx ({ id := 4102, level := 5, flags := 3, mask := 1, target := 0, origin := 0x10, readyPly := 0, body := [], state := 4, exec := 9, ackedBy := 900 } : Task).id), ready := ({ wMac [] with disp := { tasks := [(6, { id := 4102, level := 5, flags := 3, mask := 1, target := 0, origin := 0x10, readyPly := 0, body := [], state := 4, exec := 9, ackedBy := 900 })], fresh := 7 } } : State).disp.ready.filter (fun (x : Nat) => x ≠ taskIx ({ id := 4102, level := 5, flags := 3, mask := 1, target := 0, origin := 0x10, readyPly := 0, body := [], state := 4, exec := 9, ackedBy := 900 } : Task).id), freed := ({ wMac [] with disp := { tasks := [(6, { id := 4102, level := 5, flags := 3, mask := 1, target := 0, origin := 0x10, readyPly := 0, body := [], state := 4, exec := 9, ackedBy := 900 })], fresh := 7 } } : State).disp.freed ++ [taskIx ({ id := 4102, level := 5, flags := 3, mask := 1, target := 0, origin := 0x10, readyPly := 0, body := [], state := 4, exec := 9, ackedBy := 900 } : Task).id] } } ({ ({ id := 4102, level := 5, flags := 3, mask := 1, target := 0, origin := 0x10, readyPly := 0, body := [], state := 4, exec := 9, ackedBy := 900 } : Task) with requeued := bitOf ({ id := 4102, level := 5, flags := 3, mask := 1, target := 0, origin := 0x10, readyPly := 0, body := [], state := 4, exec := 9, ackedBy := 900 } : Task).flags 1, wasRequeued := bitOf ({ id := 4102, level := 5, flags := 3, mask := 1, target := 0, origin := 0x10, readyPly := 0, body := [], state := 4, exec := 9, ackedBy := 900 } : Task).flags 1, state := 9, endPly := ({ wMac [] with disp := { tasks := [(6, { id := 4102, level := 5, flags := 3, mask := 1, target := 0, origin := 0x10, readyPly := 0, body := [], state := 4, exec := 9, ackedBy := 900 })], fresh := 7 } } : State).ply })) 5 (leBytes 4 ({ id := 4102, level := 5, flags := 3, mask := 1, target := 0, origin := 0x10, readyPly := 0, body := [], state := 4, exec := 9, ackedBy := 900 } : Task).id ++ [9, ({ id := 4102, level := 5, flags := 3, mask := 1, target := 0, origin := 0x10, readyPly := 0, body := [], state := 4, exec := 9, ackedBy := 900 } : Task).result, ({ id := 4102, level := 5, flags := 3, mask := 1, target := 0, origin := 0x10, readyPly := 0, body := [], state := 4, exec := 9, ackedBy := 900 } : Task).exec, b2n ({ id := 4102, level := 5, flags := 3, mask := 1, target := 0, origin := 0x10, readyPly := 0, body := [], state := 4, exec := 9, ackedBy := 900 } : Task).unknownEnd + 2 * b2n (bitOf ({ id := 4102, level := 5, flags := 3, mask := 1, target := 0, origin := 0x10, readyPly := 0, body := [], state := 4, exec := 9, ackedBy := 900 } : Task).flags 1)] ++ leBytes 4 ({ id := 4102, level := 5, flags := 3, mask := 1, target := 0, origin := 0x10, readyPly := 0, body := [], state := 4, exec := 9, ackedBy := 900 } : Task).data ++ leBytes 8 ({ wMac [] with disp := { tasks := [(6, { id := 4102, level := 5, flags := 3, mask := 1, target := 0, origin := 0x10, readyPly := 0, body := [], state := 4, exec := 9, ackedBy := 900 })], fresh := 7 } } : State).ply) (some (({ wMac [] with disp := { tasks := [(6, { id := 4102, level := 5, flags := 3, mask := 1, target := 0, origin := 0x10, readyPly := 0, body := [], state := 4, exec := 9, ackedBy := 900 })], fresh := 7 } } : State).ply + 10000))) ({ id := 4102, level := 5, flags := 3, mask := 1, target := 0, origin := 0x10, readyPly := 0, body := [], state := 4, exec := 9, ackedBy := 900 } : Task).exec : State).disp.fresh), freed := (if 7 = (State.slotEmptied (State.produce (State.setTask { State.bump ({ wMac [] with disp := { tasks := [(6, { id := 4102, level := 5, flags := 3, mask := 1, target := 0, origin := 0x10, readyPly := 0, body := [], state := 4, exec := 9, ackedBy := 900 })], fresh := 7 } } : State) DISP_CNT2_LAPSED with disp := { ({ wMac [] with disp := { tasks := [(6, { id := 4102, level := 5, flags := 3, mask := 1, target := 0, origin := 0x10, readyPly := 0, body := [], state := 4, exec := 9, ackedBy := 900 })], fresh := 7 } } : State).disp with pend := ({ wMac [] with disp := { tasks := [(6, { id := 4102, level := 5, flags := 3, mask := 1, target := 0, origin := 0x10, readyPly := 0, body := [], state := 4, exec := 9, ackedBy := 900 })], fresh := 7 } } : State).disp.pend.filter (fun (x : Nat) => x ≠ taskIx ({ id := 4102, level := 5, flags := 3, mask := 1, target := 0, origin := 0x10, readyPly := 0, body := [], state := 4, exec := 9, ackedBy := 900 } : Task).id), ready := ({ wMac [] with disp := { tasks := [(6, { id := 4102, level := 5, flags := 3, mask := 1, target := 0, origin := 0x10, readyPly := 0, body := [], state := 4, exec := 9, ackedBy := 900 })], fresh := 7 } } : State).disp.ready.filter (fun (x : Nat) => x ≠ taskIx ({ id := 4102, level := 5, flags := 3, mask := 1, target := 0, origin := 0x10, readyPly := 0, body := [], state := 4, exec := 9, ackedBy := 900 } : Task).id), freed := ({ wMac [] with disp := { tasks := [(6, { id := 4102, level := 5, flags := 3, mask := 1, target := 0, origin := 0x10, readyPly := 0, body := [], state := 4, exec := 9, ackedBy := 900 })], fresh := 7 } } : State).disp.freed ++ [taskIx ({ id := 4102, level := 5, flags := 3, mask := 1, target := 0, origin := 0x10, readyPly := 0, body := [], state := 4, exec := 9, ackedBy := 900 } : Task).id] } } ({ ({ id := 4102, level := 5, flags := 3, mask := 1, target := 0, origin := 0x10, readyPly := 0, body := [], state := 4, exec := 9, ackedBy := 900 } : Task) with requeued := bitOf ({ id := 4102, level := 5, flags := 3, mask := 1, target := 0, origin := 0x10, readyPly := 0, body := [], state := 4, exec := 9, ackedBy := 900 } : Task).flags 1, wasRequeued := bitOf ({ id := 4102, level := 5, flags := 3, mask := 1, target := 0, origin := 0x10, readyPly := 0, body := [], state := 4, exec := 9, ackedBy := 900 } : Task).flags 1, state := 9, endPly := ({ wMac [] with disp := { tasks := [(6, { id := 4102, level := 5, flags := 3, mask := 1, target := 0, origin := 0x10, readyPly := 0, body := [], state := 4, exec := 9, ackedBy := 900 })], fresh := 7 } } : State).ply })) 5 (leBytes 4 ({ id := 4102, level := 5, flags := 3, mask := 1, target := 0, origin := 0x10, readyPly := 0, body := [], state := 4, exec := 9, ackedBy := 900 } : Task).id ++ [9, ({ id := 4102, level := 5, flags := 3, mask := 1, target := 0, origin := 0x10, readyPly := 0, body := [], state := 4, exec := 9, ackedBy := 900 } : Task).result, ({ id := 4102, level := 5, flags := 3, mask := 1, target := 0, origin := 0x10, readyPly := 0, body := [], state := 4, exec := 9, ackedBy := 900 } : Task).exec, b2n ({ id := 4102, level := 5, flags := 3, mask := 1, target := 0, origin := 0x10, readyPly := 0, body := [], state := 4, exec := 9, ackedBy := 900 } : Task).unknownEnd + 2 * b2n (bitOf ({ id := 4102, level := 5, flags := 3, mask := 1, target := 0, origin := 0x10, readyPly := 0, body := [], state := 4, exec := 9, ackedBy := 900 } : Task).flags 1)] ++ leBytes 4 ({ id := 4102, level := 5, flags := 3, mask := 1, target := 0, origin := 0x10, readyPly := 0, body := [], state := 4, exec := 9, ackedBy := 900 } : Task).data ++ leBytes 8 ({ wMac [] with disp := { tasks := [(6, { id := 4102, level := 5, flags := 3, mask := 1, target := 0, origin := 0x10, readyPly := 0, body := [], state := 4, exec := 9, ackedBy := 900 })], fresh := 7 } } : State).ply) (some (({ wMac [] with disp := { tasks := [(6, { id := 4102, level := 5, flags := 3, mask := 1, target := 0, origin := 0x10, readyPly := 0, body := [], state := 4, exec := 9, ackedBy := 900 })], fresh := 7 } } : State).ply + 10000))) ({ id := 4102, level := 5, flags := 3, mask := 1, target := 0, origin := 0x10, readyPly := 0, body := [], state := 4, exec := 9, ackedBy := 900 } : Task).exec : State).disp.fresh then (State.slotEmptied (State.produce (State.setTask { State.bump ({ wMac [] with disp := { tasks := [(6, { id := 4102, level := 5, flags := 3, mask := 1, target := 0, origin := 0x10, readyPly := 0, body := [], state := 4, exec := 9, ackedBy := 900 })], fresh := 7 } } : State) DISP_CNT2_LAPSED with disp := { ({ wMac [] with disp := { tasks := [(6, { id := 4102, level := 5, flags := 3, mask := 1, target := 0, origin := 0x10, readyPly := 0, body := [], state := 4, exec := 9, ackedBy := 900 })], fresh := 7 } } : State).disp with pend := ({ wMac [] with disp := { tasks := [(6, { id := 4102, level := 5, flags := 3, mask := 1, target := 0, origin := 0x10, readyPly := 0, body := [], state := 4, exec := 9, ackedBy := 900 })], fresh := 7 } } : State).disp.pend.filter (fun (x : Nat) => x ≠ taskIx ({ id := 4102, level := 5, flags := 3, mask := 1, target := 0, origin := 0x10, readyPly := 0, body := [], state := 4, exec := 9, ackedBy := 900 } : Task).id), ready := ({ wMac [] with disp := { tasks := [(6, { id := 4102, level := 5, flags := 3, mask := 1, target := 0, origin := 0x10, readyPly := 0, body := [], state := 4, exec := 9, ackedBy := 900 })], fresh := 7 } } : State).disp.ready.filter (fun (x : Nat) => x ≠ taskIx ({ id := 4102, level := 5, flags := 3, mask := 1, target := 0, origin := 0x10, readyPly := 0, body := [], state := 4, exec := 9, ackedBy := 900 } : Task).id), freed := ({ wMac [] with disp := { tasks := [(6, { id := 4102, level := 5, flags := 3, mask := 1, target := 0, origin := 0x10, readyPly := 0, body := [], state := 4, exec := 9, ackedBy := 900 })], fresh := 7 } } : State).disp.freed ++ [taskIx ({ id := 4102, level := 5, flags := 3, mask := 1, target := 0, origin := 0x10, readyPly := 0, body := [], state := 4, exec := 9, ackedBy := 900 } : Task).id] } } ({ ({ id := 4102, level := 5, flags := 3, mask := 1, target := 0, origin := 0x10, readyPly := 0, body := [], state := 4, exec := 9, ackedBy := 900 } : Task) with requeued := bitOf ({ id := 4102, level := 5, flags := 3, mask := 1, target := 0, origin := 0x10, readyPly := 0, body := [], state := 4, exec := 9, ackedBy := 900 } : Task).flags 1, wasRequeued := bitOf ({ id := 4102, level := 5, flags := 3, mask := 1, target := 0, origin := 0x10, readyPly := 0, body := [], state := 4, exec := 9, ackedBy := 900 } : Task).flags 1, state := 9, endPly := ({ wMac [] with disp := { tasks := [(6, { id := 4102, level := 5, flags := 3, mask := 1, target := 0, origin := 0x10, readyPly := 0, body := [], state := 4, exec := 9, ackedBy := 900 })], fresh := 7 } } : State).ply })) 5 (leBytes 4 ({ id := 4102, level := 5, flags := 3, mask := 1, target := 0, origin := 0x10, readyPly := 0, body := [], state := 4, exec := 9, ackedBy := 900 } : Task).id ++ [9, ({ id := 4102, level := 5, flags := 3, mask := 1, target := 0, origin := 0x10, readyPly := 0, body := [], state := 4, exec := 9, ackedBy := 900 } : Task).result, ({ id := 4102, level := 5, flags := 3, mask := 1, target := 0, origin := 0x10, readyPly := 0, body := [], state := 4, exec := 9, ackedBy := 900 } : Task).exec, b2n ({ id := 4102, level := 5, flags := 3, mask := 1, target := 0, origin := 0x10, readyPly := 0, body := [], state := 4, exec := 9, ackedBy := 900 } : Task).unknownEnd + 2 * b2n (bitOf ({ id := 4102, level := 5, flags := 3, mask := 1, target := 0, origin := 0x10, readyPly := 0, body := [], state := 4, exec := 9, ackedBy := 900 } : Task).flags 1)] ++ leBytes 4 ({ id := 4102, level := 5, flags := 3, mask := 1, target := 0, origin := 0x10, readyPly := 0, body := [], state := 4, exec := 9, ackedBy := 900 } : Task).data ++ leBytes 8 ({ wMac [] with disp := { tasks := [(6, { id := 4102, level := 5, flags := 3, mask := 1, target := 0, origin := 0x10, readyPly := 0, body := [], state := 4, exec := 9, ackedBy := 900 })], fresh := 7 } } : State).ply) (some (({ wMac [] with disp := { tasks := [(6, { id := 4102, level := 5, flags := 3, mask := 1, target := 0, origin := 0x10, readyPly := 0, body := [], state := 4, exec := 9, ackedBy := 900 })], fresh := 7 } } : State).ply + 10000))) ({ id := 4102, level := 5, flags := 3, mask := 1, target := 0, origin := 0x10, readyPly := 0, body := [], state := 4, exec := 9, ackedBy := 900 } : Task).exec : State).disp.freed else (State.slotEmptied (State.produce (State.setTask { State.bump ({ wMac [] with disp := { tasks := [(6, { id := 4102, level := 5, flags := 3, mask := 1, target := 0, origin := 0x10, readyPly := 0, body := [], state := 4, exec := 9, ackedBy := 900 })], fresh := 7 } } : State) DISP_CNT2_LAPSED with disp := { ({ wMac [] with disp := { tasks := [(6, { id := 4102, level := 5, flags := 3, mask := 1, target := 0, origin := 0x10, readyPly := 0, body := [], state := 4, exec := 9, ackedBy := 900 })], fresh := 7 } } : State).disp with pend := ({ wMac [] with disp := { tasks := [(6, { id := 4102, level := 5, flags := 3, mask := 1, target := 0, origin := 0x10, readyPly := 0, body := [], state := 4, exec := 9, ackedBy := 900 })], fresh := 7 } } : State).disp.pend.filter (fun (x : Nat) => x ≠ taskIx ({ id := 4102, level := 5, flags := 3, mask := 1, target := 0, origin := 0x10, readyPly := 0, body := [], state := 4, exec := 9, ackedBy := 900 } : Task).id), ready := ({ wMac [] with disp := { tasks := [(6, { id := 4102, level := 5, flags := 3, mask := 1, target := 0, origin := 0x10, readyPly := 0, body := [], state := 4, exec := 9, ackedBy := 900 })], fresh := 7 } } : State).disp.ready.filter (fun (x : Nat) => x ≠ taskIx ({ id := 4102, level := 5, flags := 3, mask := 1, target := 0, origin := 0x10, readyPly := 0, body := [], state := 4, exec := 9, ackedBy := 900 } : Task).id), freed := ({ wMac [] with disp := { tasks := [(6, { id := 4102, level := 5, flags := 3, mask := 1, target := 0, origin := 0x10, readyPly := 0, body := [], state := 4, exec := 9, ackedBy := 900 })], fresh := 7 } } : State).disp.freed ++ [taskIx ({ id := 4102, level := 5, flags := 3, mask := 1, target := 0, origin := 0x10, readyPly := 0, body := [], state := 4, exec := 9, ackedBy := 900 } : Task).id] } } ({ ({ id := 4102, level := 5, flags := 3, mask := 1, target := 0, origin := 0x10, readyPly := 0, body := [], state := 4, exec := 9, ackedBy := 900 } : Task) with requeued := bitOf ({ id := 4102, level := 5, flags := 3, mask := 1, target := 0, origin := 0x10, readyPly := 0, body := [], state := 4, exec := 9, ackedBy := 900 } : Task).flags 1, wasRequeued := bitOf ({ id := 4102, level := 5, flags := 3, mask := 1, target := 0, origin := 0x10, readyPly := 0, body := [], state := 4, exec := 9, ackedBy := 900 } : Task).flags 1, state := 9, endPly := ({ wMac [] with disp := { tasks := [(6, { id := 4102, level := 5, flags := 3, mask := 1, target := 0, origin := 0x10, readyPly := 0, body := [], state := 4, exec := 9, ackedBy := 900 })], fresh := 7 } } : State).ply })) 5 (leBytes 4 ({ id := 4102, level := 5, flags := 3, mask := 1, target := 0, origin := 0x10, readyPly := 0, body := [], state := 4, exec := 9, ackedBy := 900 } : Task).id ++ [9, ({ id := 4102, level := 5, flags := 3, mask := 1, target := 0, origin := 0x10, readyPly := 0, body := [], state := 4, exec := 9, ackedBy := 900 } : Task).result, ({ id := 4102, level := 5, flags := 3, mask := 1, target := 0, origin := 0x10, readyPly := 0, body := [], state := 4, exec := 9, ackedBy := 900 } : Task).exec, b2n ({ id := 4102, level := 5, flags := 3, mask := 1, target := 0, origin := 0x10, readyPly := 0, body := [], state := 4, exec := 9, ackedBy := 900 } : Task).unknownEnd + 2 * b2n (bitOf ({ id := 4102, level := 5, flags := 3, mask := 1, target := 0, origin := 0x10, readyPly := 0, body := [], state := 4, exec := 9, ackedBy := 900 } : Task).flags 1)] ++ leBytes 4 ({ id := 4102, level := 5, flags := 3, mask := 1, target := 0, origin := 0x10, readyPly := 0, body := [], state := 4, exec := 9, ackedBy := 900 } : Task).data ++ leBytes 8 ({ wMac [] with disp := { tasks := [(6, { id := 4102, level := 5, flags := 3, mask := 1, target := 0, origin := 0x10, readyPly := 0, body := [], state := 4, exec := 9, ackedBy := 900 })], fresh := 7 } } : State).ply) (some (({ wMac [] with disp := { tasks := [(6, { id := 4102, level := 5, flags := 3, mask := 1, target := 0, origin := 0x10, readyPly := 0, body := [], state := 4, exec := 9, ackedBy := 900 })], fresh := 7 } } : State).ply + 10000))) ({ id := 4102, level := 5, flags := 3, mask := 1, target := 0, origin := 0x10, readyPly := 0, body := [], state := 4, exec := 9, ackedBy := 900 } : Task).exec : State).disp.freed.filter (fun (x : Nat) => x ≠ 7)) } } { id := (State.slotEmptied (State.produce (State.setTask { State.bump ({ wMac [] with disp := { tasks := [(6, { id := 4102, level := 5, flags := 3, mask := 1, target := 0, origin := 0x10, readyPly := 0, body := [], state := 4, exec := 9, ackedBy := 900 })], fresh := 7 } } : State) DISP_CNT2_LAPSED with disp := { ({ wMac [] with disp := { tasks := [(6, { id := 4102, level := 5, flags := 3, mask := 1, target := 0, origin := 0x10, readyPly := 0, body := [], state := 4, exec := 9, ackedBy := 900 })], fresh := 7 } } : State).disp with pend := ({ wMac [] with disp := { tasks := [(6, { id := 4102, level := 5, flags := 3, mask := 1, target := 0, origin := 0x10, readyPly := 0, body := [], state := 4, exec := 9, ackedBy := 900 })], fresh := 7 } } : State).disp.pend.filter (fun (x : Nat) => x ≠ taskIx ({ id := 4102, level := 5, flags := 3, mask := 1, target := 0, origin := 0x10, readyPly := 0, body := [], state := 4, exec := 9, ackedBy := 900 } : Task).id), ready := ({ wMac [] with disp := { tasks := [(6, { id := 4102, level := 5, flags := 3, mask := 1, target := 0, origin := 0x10, readyPly := 0, body := [], state := 4, exec := 9, ackedBy := 900 })], fresh := 7 } } : State).disp.ready.filter (fun (x : Nat) => x ≠ taskIx ({ id := 4102, level := 5, flags := 3, mask := 1, target := 0, origin := 0x10, readyPly := 0, body := [], state := 4, exec := 9, ackedBy := 900 } : Task).id), freed := ({ wMac [] with disp := { tasks := [(6, { id := 4102, level := 5, flags := 3, mask := 1, target := 0, origin := 0x10, readyPly := 0, body := [], state := 4, exec := 9, ackedBy := 900 })], fresh := 7 } } : State).disp.freed ++ [taskIx ({ id := 4102, level := 5, flags := 3, mask := 1, target := 0, origin := 0x10, readyPly := 0, body := [], state := 4, exec := 9, ackedBy := 900 } : Task).id] } } ({ ({ id := 4102, level := 5, flags := 3, mask := 1, target := 0, origin := 0x10, readyPly := 0, body := [], state := 4, exec := 9, ackedBy := 900 } : Task) with requeued := bitOf ({ id := 4102, level := 5, flags := 3, mask := 1, target := 0, origin := 0x10, readyPly := 0, body := [], state := 4, exec := 9, ackedBy := 900 } : Task).flags 1, wasRequeued := bitOf ({ id := 4102, level := 5, flags := 3, mask := 1, target := 0, origin := 0x10, readyPly := 0, body := [], state := 4, exec := 9, ackedBy := 900 } : Task).flags 1, state := 9, endPly := ({ wMac [] with disp := { tasks := [(6, { id := 4102, level := 5, flags := 3, mask := 1, target := 0, origin := 0x10, readyPly := 0, body := [], state := 4, exec := 9, ackedBy := 900 })], fresh := 7 } } : State).ply })) 5 (leBytes 4 ({ id := 4102, level := 5, flags := 3, mask := 1, target := 0, origin := 0x10, readyPly := 0, body := [], state := 4, exec := 9, ackedBy := 900 } : Task).id ++ [9, ({ id := 4102, level := 5, flags := 3, mask := 1, target := 0, origin := 0x10, readyPly := 0, body := [], state := 4, exec := 9, ackedBy := 900 } : Task).result, ({ id := 4102, level := 5, flags := 3, mask := 1, target := 0, origin := 0x10, readyPly := 0, body := [], state := 4, exec := 9, ackedBy := 900 } : Task).exec, b2n ({ id := 4102, level := 5, flags := 3, mask := 1, target := 0, origin := 0x10, readyPly := 0, body := [], state := 4, exec := 9, ackedBy := 900 } : Task).unknownEnd + 2 * b2n (bitOf ({ id := 4102, level := 5, flags := 3, mask := 1, target := 0, origin := 0x10, readyPly := 0, body := [], state := 4, exec := 9, ackedBy := 900 } : Task).flags 1)] ++ leBytes 4 ({ id := 4102, level := 5, flags := 3, mask := 1, target := 0, origin := 0x10, readyPly := 0, body := [], state := 4, exec := 9, ackedBy := 900 } : Task).data ++ leBytes 8 ({ wMac [] with disp := { tasks := [(6, { id := 4102, level := 5, flags := 3, mask := 1, target := 0, origin := 0x10, readyPly := 0, body := [], state := 4, exec := 9, ackedBy := 900 })], fresh := 7 } } : State).ply) (some (({ wMac [] with disp := { tasks := [(6, { id := 4102, level := 5, flags := 3, mask := 1, target := 0, origin := 0x10, readyPly := 0, body := [], state := 4, exec := 9, ackedBy := 900 })], fresh := 7 } } : State).ply + 10000))) ({ id := 4102, level := 5, flags := 3, mask := 1, target := 0, origin := 0x10, readyPly := 0, body := [], state := 4, exec := 9, ackedBy := 900 } : Task).exec : State).nextGen 7 * 4096 + 7, level := ({ id := 4102, level := 5, flags := 3, mask := 1, target := 0, origin := 0x10, readyPly := 0, body := [], state := 4, exec := 9, ackedBy := 900 } : Task).level, flags := ({ id := 4102, level := 5, flags := 3, mask := 1, target := 0, origin := 0x10, readyPly := 0, body := [], state := 4, exec := 9, ackedBy := 900 } : Task).flags, mask := ({ id := 4102, level := 5, flags := 3, mask := 1, target := 0, origin := 0x10, readyPly := 0, body := [], state := 4, exec := 9, ackedBy := 900 } : Task).mask, target := ({ id := 4102, level := 5, flags := 3, mask := 1, target := 0, origin := 0x10, readyPly := 0, body := [], state := 4, exec := 9, ackedBy := 900 } : Task).target, origin := ({ id := 4102, level := 5, flags := 3, mask := 1, target := 0, origin := 0x10, readyPly := 0, body := [], state := 4, exec := 9, ackedBy := 900 } : Task).origin, readyPly := ({ id := 4102, level := 5, flags := 3, mask := 1, target := 0, origin := 0x10, readyPly := 0, body := [], state := 4, exec := 9, ackedBy := 900 } : Task).readyPly, body := ({ id := 4102, level := 5, flags := 3, mask := 1, target := 0, origin := 0x10, readyPly := 0, body := [], state := 4, exec := 9, ackedBy := 900 } : Task).body, state := 2, sub := w_taskLapse_requeue.ply }; { z with disp := { z.disp with ready := z.disp.ready ++ [taskIx ((State.slotEmptied (State.produce (State.setTask { State.bump ({ wMac [] with disp := { tasks := [(6, { id := 4102, level := 5, flags := 3, mask := 1, target := 0, origin := 0x10, readyPly := 0, body := [], state := 4, exec := 9, ackedBy := 900 })], fresh := 7 } } : State) DISP_CNT2_LAPSED with disp := { ({ wMac [] with disp := { tasks := [(6, { id := 4102, level := 5, flags := 3, mask := 1, target := 0, origin := 0x10, readyPly := 0, body := [], state := 4, exec := 9, ackedBy := 900 })], fresh := 7 } } : State).disp with pend := ({ wMac [] with disp := { tasks := [(6, { id := 4102, level := 5, flags := 3, mask := 1, target := 0, origin := 0x10, readyPly := 0, body := [], state := 4, exec := 9, ackedBy := 900 })], fresh := 7 } } : State).disp.pend.filter (fun (x : Nat) => x ≠ taskIx ({ id := 4102, level := 5, flags := 3, mask := 1, target := 0, origin := 0x10, readyPly := 0, body := [], state := 4, exec := 9, ackedBy := 900 } : Task).id), ready := ({ wMac [] with disp := { tasks := [(6, { id := 4102, level := 5, flags := 3, mask := 1, target := 0, origin := 0x10, readyPly := 0, body := [], state := 4, exec := 9, ackedBy := 900 })], fresh := 7 } } : State).disp.ready.filter (fun (x : Nat) => x ≠ taskIx ({ id := 4102, level := 5, flags := 3, mask := 1, target := 0, origin := 0x10, readyPly := 0, body := [], state := 4, exec := 9, ackedBy := 900 } : Task).id), freed := ({ wMac [] with disp := { tasks := [(6, { id := 4102, level := 5, flags := 3, mask := 1, target := 0, origin := 0x10, readyPly := 0, body := [], state := 4, exec := 9, ackedBy := 900 })], fresh := 7 } } : State).disp.freed ++ [taskIx ({ id := 4102, level := 5, flags := 3, mask := 1, target := 0, origin := 0x10, readyPly := 0, body := [], state := 4, exec := 9, ackedBy := 900 } : Task).id] } } ({ ({ id := 4102, level := 5, flags := 3, mask := 1, target := 0, origin := 0x10, readyPly := 0, body := [], state := 4, exec := 9, ackedBy := 900 } : Task) with requeued := bitOf ({ id := 4102, level := 5, flags := 3, mask := 1, target := 0, origin := 0x10, readyPly := 0, body := [], state := 4, exec := 9, ackedBy := 900 } : Task).flags 1, wasRequeued := bitOf ({ id := 4102, level := 5, flags := 3, mask := 1, target := 0, origin := 0x10, readyPly := 0, body := [], state := 4, exec := 9, ackedBy := 900 } : Task).flags 1, state := 9, endPly := ({ wMac [] with disp := { tasks := [(6, { id := 4102, level := 5, flags := 3, mask := 1, target := 0, origin := 0x10, readyPly := 0, body := [], state := 4, exec := 9, ackedBy := 900 })], fresh := 7 } } : State).ply })) 5 (leBytes 4 ({ id := 4102, level := 5, flags := 3, mask := 1, target := 0, origin := 0x10, readyPly := 0, body := [], state := 4, exec := 9, ackedBy := 900 } : Task).id ++ [9, ({ id := 4102, level := 5, flags := 3, mask := 1, target := 0, origin := 0x10, readyPly := 0, body := [], state := 4, exec := 9, ackedBy := 900 } : Task).result, ({ id := 4102, level := 5, flags := 3, mask := 1, target := 0, origin := 0x10, readyPly := 0, body := [], state := 4, exec := 9, ackedBy := 900 } : Task).exec, b2n ({ id := 4102, level := 5, flags := 3, mask := 1, target := 0, origin := 0x10, readyPly := 0, body := [], state := 4, exec := 9, ackedBy := 900 } : Task).unknownEnd + 2 * b2n (bitOf ({ id := 4102, level := 5, flags := 3, mask := 1, target := 0, origin := 0x10, readyPly := 0, body := [], state := 4, exec := 9, ackedBy := 900 } : Task).flags 1)] ++ leBytes 4 ({ id := 4102, level := 5, flags := 3, mask := 1, target := 0, origin := 0x10, readyPly := 0, body := [], state := 4, exec := 9, ackedBy := 900 } : Task).data ++ leBytes 8 ({ wMac [] with disp := { tasks := [(6, { id := 4102, level := 5, flags := 3, mask := 1, target := 0, origin := 0x10, readyPly := 0, body := [], state := 4, exec := 9, ackedBy := 900 })], fresh := 7 } } : State).ply) (some (({ wMac [] with disp := { tasks := [(6, { id := 4102, level := 5, flags := 3, mask := 1, target := 0, origin := 0x10, readyPly := 0, body := [], state := 4, exec := 9, ackedBy := 900 })], fresh := 7 } } : State).ply + 10000))) ({ id := 4102, level := 5, flags := 3, mask := 1, target := 0, origin := 0x10, readyPly := 0, body := [], state := 4, exec := 9, ackedBy := 900 } : Task).exec : State).nextGen 7 * 4096 + 7)] } })))
    | _ => false) = true := by decide +kernel

def w_taskLapse_quiet : State := { wMac [] with disp := { tasks := [(6, { id := 4102, level := 5, flags := 1, mask := 1, target := 0, origin := 0x10, readyPly := 0, body := [], state := 4, exec := 9, ackedBy := 900 })], fresh := 7 } }

theorem test_taskLapse_quiet : ((w_taskLapse_quiet.stopSafe = true) ∧ (w_taskLapse_quiet.task 6 = some ({ id := 4102, level := 5, flags := 1, mask := 1, target := 0, origin := 0x10, readyPly := 0, body := [], state := 4, exec := 9, ackedBy := 900 } : Task)) ∧ (({ id := 4102, level := 5, flags := 1, mask := 1, target := 0, origin := 0x10, readyPly := 0, body := [], state := 4, exec := 9, ackedBy := 900 } : Task).state = 4) ∧ (w_taskLapse_quiet.hasSfn = true) ∧ (({ id := 4102, level := 5, flags := 1, mask := 1, target := 0, origin := 0x10, readyPly := 0, body := [], state := 4, exec := 9, ackedBy := 900 } : Task).ackedBy + w_taskLapse_quiet.get DISP_CTRL_LAPSE_GRACE ≤ w_taskLapse_quiet.sfn) ∧ (taskIx ({ id := 4102, level := 5, flags := 1, mask := 1, target := 0, origin := 0x10, readyPly := 0, body := [], state := 4, exec := 9, ackedBy := 900 } : Task).id = 6) ∧ (bitOf ({ id := 4102, level := 5, flags := 1, mask := 1, target := 0, origin := 0x10, readyPly := 0, body := [], state := 4, exec := 9, ackedBy := 900 } : Task).flags 1 = false) ∧ (w_taskLapse_quiet.disp.stalled = []) ∧ (w_taskLapse_quiet.streamsOf 5 = [])) ∧ (match exec (.taskLapse 6) w_taskLapse_quiet with
    | .next t => decide ((Reads t [(DISP_CNT2_LAPSED, w_taskLapse_quiet.adv DISP_CNT2_LAPSED)]) ∧ (t.task 6 = some { ({ id := 4102, level := 5, flags := 1, mask := 1, target := 0, origin := 0x10, readyPly := 0, body := [], state := 4, exec := 9, ackedBy := 900 } : Task) with requeued := false, wasRequeued := false, state := 9, endPly := w_taskLapse_quiet.ply }) ∧ (t.disp.freed = w_taskLapse_quiet.disp.freed ++ [6]))
    | _ => false) = true := by decide +kernel

theorem test_taskLapse_none : ((wReset.stopSafe = true) ∧ (wReset.task 6 = none ∨ wReset.hasSfn = false ∨ (wReset.task 6).any (fun (k : Task) => decide (k.state ≠ 4 ∨ wReset.sfn < k.ackedBy + wReset.get DISP_CTRL_LAPSE_GRACE)) = true)) ∧ (match exec (.taskLapse 6) wReset with
    | .next t => decide ((t = wReset))
    | _ => false) = true := by decide +kernel

theorem test_trackLoad : ((wTrack.stopSafe = true) ∧ (wTrack.accepts 0x0700 3 9 true = true) ∧ (4 < 1024) ∧ (2 ≤ 2) ∧ (2 ≤ 4096) ∧ (1 ≤ ([(-1, 2, 3), (2147483647, -2147483648, 0)] : List (Int × Int × Int)).length) ∧ (([(-1, 2, 3), (2147483647, -2147483648, 0)] : List (Int × Int × Int)).length ≤ 116) ∧ (0 + ([(-1, 2, 3), (2147483647, -2147483648, 0)] : List (Int × Int × Int)).length ≤ 2) ∧ ((∀ p ∈ ([(-1, 2, 3), (2147483647, -2147483648, 0)] : List (Int × Int × Int)), -(2 ^ 31) ≤ p.1 ∧ p.1 < 2 ^ 31 ∧ -(2 ^ 31) ≤ p.2.1 ∧ p.2.1 < 2 ^ 31 ∧ -(2 ^ 31) ≤ p.2.2 ∧ p.2.2 < 2 ^ 31)) ∧ (wTrack.trkUsed 4 = false) ∧ (0 = 0) ∧ (lowestRun (wTrack.trkRuns 4) 2 = some 0) ∧ (0 + 2 ≤ 262144) ∧ (Mem.wf wTrack.trk.verts = true)) ∧ (match exec (.trackLoad 3 9 ((leBytes 2 4 ++ leBytes 2 2 ++ leBytes 2 0 ++ leBytes 2 ([(-1, 2, 3), (2147483647, -2147483648, 0)] : List (Int × Int × Int)).length ++ vertBytes ([(-1, 2, 3), (2147483647, -2147483648, 0)] : List (Int × Int × Int))))) wTrack with
    | .next t => decide ((answers wTrack t [] 0x0700 3 9 Ecp.OK (crc32c (leBytes 2 4 ++ leBytes 2 2 ++ leBytes 2 0 ++ leBytes 2 ([(-1, 2, 3), (2147483647, -2147483648, 0)] : List (Int × Int × Int)).length ++ vertBytes ([(-1, 2, 3), (2147483647, -2147483648, 0)] : List (Int × Int × Int)))) [] = true) ∧ (Reads t [(TRK_T_W1_STATE 4, 1), (TRK_T_W0_FIRST 4, 0), (TRK_T_W1_COUNT 4, 2), (TRK_T_W2_LENGTH 4, 0), (TRK_T_W3_CRC 4, 0)]) ∧ ((t.trkVerts 4).take ([(-1, 2, 3), (2147483647, -2147483648, 0)] : List (Int × Int × Int)).length = ([(-1, 2, 3), (2147483647, -2147483648, 0)] : List (Int × Int × Int))) ∧ (t.trk = { wTrack.trk with verts := t.trk.verts }))
    | _ => false) = true := by decide +kernel

def w_trackLoad_more : State := { wTrack with regs := State.regs (State.puts wTrack [(TRK_T_W1_STATE 4, 1), (TRK_T_W1_COUNT 4, 7), (TRK_T_W0_FIRST 4, 10)]) }

theorem test_trackLoad_more : ((w_trackLoad_more.stopSafe = true) ∧ (w_trackLoad_more.accepts 0x0700 3 9 true = true) ∧ (4 < 1024) ∧ (2 ≤ 7) ∧ (7 ≤ 4096) ∧ (1 ≤ ([(-1, 2, 3), (2147483647, -2147483648, 0)] : List (Int × Int × Int)).length) ∧ (([(-1, 2, 3), (2147483647, -2147483648, 0)] : List (Int × Int × Int)).length ≤ 116) ∧ (5 + ([(-1, 2, 3), (2147483647, -2147483648, 0)] : List (Int × Int × Int)).length ≤ 7) ∧ ((∀ p ∈ ([(-1, 2, 3), (2147483647, -2147483648, 0)] : List (Int × Int × Int)), -(2 ^ 31) ≤ p.1 ∧ p.1 < 2 ^ 31 ∧ -(2 ^ 31) ≤ p.2.1 ∧ p.2.1 < 2 ^ 31 ∧ -(2 ^ 31) ≤ p.2.2 ∧ p.2.2 < 2 ^ 31)) ∧ (w_trackLoad_more.trkUsed 4 = false) ∧ (5 ≠ 0) ∧ (w_trackLoad_more.trkState 4 = 1) ∧ (w_trackLoad_more.get (TRK_T_W1_COUNT 4) = 7) ∧ (Mem.wf w_trackLoad_more.trk.verts = true)) ∧ (match exec (.trackLoad 3 9 ((leBytes 2 4 ++ leBytes 2 7 ++ leBytes 2 5 ++ leBytes 2 ([(-1, 2, 3), (2147483647, -2147483648, 0)] : List (Int × Int × Int)).length ++ vertBytes ([(-1, 2, 3), (2147483647, -2147483648, 0)] : List (Int × Int × Int))))) w_trackLoad_more with
    | .next t => decide ((answers w_trackLoad_more t [] 0x0700 3 9 Ecp.OK (crc32c (leBytes 2 4 ++ leBytes 2 7 ++ leBytes 2 5 ++ leBytes 2 ([(-1, 2, 3), (2147483647, -2147483648, 0)] : List (Int × Int × Int)).length ++ vertBytes ([(-1, 2, 3), (2147483647, -2147483648, 0)] : List (Int × Int × Int)))) [] = true) ∧ (((t.trkVerts 4).drop 5).take ([(-1, 2, 3), (2147483647, -2147483648, 0)] : List (Int × Int × Int)).length = ([(-1, 2, 3), (2147483647, -2147483648, 0)] : List (Int × Int × Int))) ∧ (t.trk = { w_trackLoad_more.trk with verts := t.trk.verts }))
    | _ => false) = true := by decide +kernel

theorem test_trackLoad_used : ((wTrack.stopSafe = true) ∧ (wTrack.accepts 0x0700 3 9 true = true) ∧ (3 < 1024) ∧ (2 ≤ 7) ∧ (7 ≤ 4096) ∧ (1 ≤ ([(-1, 2, 3), (2147483647, -2147483648, 0)] : List (Int × Int × Int)).length) ∧ (([(-1, 2, 3), (2147483647, -2147483648, 0)] : List (Int × Int × Int)).length ≤ 116) ∧ (0 + ([(-1, 2, 3), (2147483647, -2147483648, 0)] : List (Int × Int × Int)).length ≤ 7) ∧ ((∀ p ∈ ([(-1, 2, 3), (2147483647, -2147483648, 0)] : List (Int × Int × Int)), -(2 ^ 31) ≤ p.1 ∧ p.1 < 2 ^ 31 ∧ -(2 ^ 31) ≤ p.2.1 ∧ p.2.1 < 2 ^ 31 ∧ -(2 ^ 31) ≤ p.2.2 ∧ p.2.2 < 2 ^ 31)) ∧ (wTrack.trkUsed 3 = true)) ∧ (match exec (.trackLoad 3 9 ((leBytes 2 3 ++ leBytes 2 7 ++ leBytes 2 0 ++ leBytes 2 ([(-1, 2, 3), (2147483647, -2147483648, 0)] : List (Int × Int × Int)).length ++ vertBytes ([(-1, 2, 3), (2147483647, -2147483648, 0)] : List (Int × Int × Int))))) wTrack with
    | .next t => decide ((answers wTrack t [] 0x0700 3 9 Ecp.DENIED (crc32c (leBytes 2 3 ++ leBytes 2 7 ++ leBytes 2 0 ++ leBytes 2 ([(-1, 2, 3), (2147483647, -2147483648, 0)] : List (Int × Int × Int)).length ++ vertBytes ([(-1, 2, 3), (2147483647, -2147483648, 0)] : List (Int × Int × Int)))) [] = true))
    | _ => false) = true := by decide +kernel

def w_trackLoad_full : State := withSess (at_ ([(PAIR_STATUS_ACTIVE, 1)] ++ (List.range 22).flatMap (fun i => [(TRK_T_W1_STATE (i + 8), 1), (TRK_T_W1_COUNT (i + 8), 8191), (TRK_T_W0_FIRST (i + 8), 4095 + 12286 * i)])))

theorem test_trackLoad_full : ((w_trackLoad_full.stopSafe = true) ∧ (w_trackLoad_full.accepts 0x0700 3 9 true = true) ∧ (4 < 1024) ∧ (2 ≤ 4096) ∧ (4096 ≤ 4096) ∧ (1 ≤ ([(-1, 2, 3), (2147483647, -2147483648, 0)] : List (Int × Int × Int)).length) ∧ (([(-1, 2, 3), (2147483647, -2147483648, 0)] : List (Int × Int × Int)).length ≤ 116) ∧ (0 + ([(-1, 2, 3), (2147483647, -2147483648, 0)] : List (Int × Int × Int)).length ≤ 4096) ∧ ((∀ p ∈ ([(-1, 2, 3), (2147483647, -2147483648, 0)] : List (Int × Int × Int)), -(2 ^ 31) ≤ p.1 ∧ p.1 < 2 ^ 31 ∧ -(2 ^ 31) ≤ p.2.1 ∧ p.2.1 < 2 ^ 31 ∧ -(2 ^ 31) ≤ p.2.2 ∧ p.2.2 < 2 ^ 31)) ∧ (w_trackLoad_full.trkUsed 4 = false) ∧ (0 = 0) ∧ (lowestRun (w_trackLoad_full.trkRuns 4) 4096 = none)) ∧ (match exec (.trackLoad 3 9 ((leBytes 2 4 ++ leBytes 2 4096 ++ leBytes 2 0 ++ leBytes 2 ([(-1, 2, 3), (2147483647, -2147483648, 0)] : List (Int × Int × Int)).length ++ vertBytes ([(-1, 2, 3), (2147483647, -2147483648, 0)] : List (Int × Int × Int))))) w_trackLoad_full with
    | .next t => decide ((answers w_trackLoad_full t [] 0x0700 3 9 Ecp.QUEUE_FULL (crc32c (leBytes 2 4 ++ leBytes 2 4096 ++ leBytes 2 0 ++ leBytes 2 ([(-1, 2, 3), (2147483647, -2147483648, 0)] : List (Int × Int × Int)).length ++ vertBytes ([(-1, 2, 3), (2147483647, -2147483648, 0)] : List (Int × Int × Int)))) [] = true) ∧ (Reads t [(ECP_CNT_B_QUEUE_FULL, w_trackLoad_full.adv ECP_CNT_B_QUEUE_FULL)]))
    | _ => false) = true := by decide +kernel

theorem test_trackLoad_astray : ((wTrack.stopSafe = true) ∧ (wTrack.accepts 0x0700 3 9 true = true) ∧ (4 < 1024) ∧ (2 ≤ 7) ∧ (7 ≤ 4096) ∧ (1 ≤ ([(-1, 2, 3), (2147483647, -2147483648, 0)] : List (Int × Int × Int)).length) ∧ (([(-1, 2, 3), (2147483647, -2147483648, 0)] : List (Int × Int × Int)).length ≤ 116) ∧ (1 + ([(-1, 2, 3), (2147483647, -2147483648, 0)] : List (Int × Int × Int)).length ≤ 7) ∧ ((∀ p ∈ ([(-1, 2, 3), (2147483647, -2147483648, 0)] : List (Int × Int × Int)), -(2 ^ 31) ≤ p.1 ∧ p.1 < 2 ^ 31 ∧ -(2 ^ 31) ≤ p.2.1 ∧ p.2.1 < 2 ^ 31 ∧ -(2 ^ 31) ≤ p.2.2 ∧ p.2.2 < 2 ^ 31)) ∧ (wTrack.trkUsed 4 = false) ∧ (1 ≠ 0) ∧ (wTrack.trkState 4 ≠ 1 ∨ wTrack.get (TRK_T_W1_COUNT 4) ≠ 7)) ∧ (match exec (.trackLoad 3 9 ((leBytes 2 4 ++ leBytes 2 7 ++ leBytes 2 1 ++ leBytes 2 ([(-1, 2, 3), (2147483647, -2147483648, 0)] : List (Int × Int × Int)).length ++ vertBytes ([(-1, 2, 3), (2147483647, -2147483648, 0)] : List (Int × Int × Int))))) wTrack with
    | .next t => decide ((answers wTrack t [] 0x0700 3 9 Ecp.BAD_PARAM (crc32c (leBytes 2 4 ++ leBytes 2 7 ++ leBytes 2 1 ++ leBytes 2 ([(-1, 2, 3), (2147483647, -2147483648, 0)] : List (Int × Int × Int)).length ++ vertBytes ([(-1, 2, 3), (2147483647, -2147483648, 0)] : List (Int × Int × Int)))) [] = true))
    | _ => false) = true := by decide +kernel

theorem test_trackLoad_bad : ((wTrack.stopSafe = true) ∧ (wTrack.accepts 0x0700 3 9 true = true) ∧ (1024 < 2 ^ 16) ∧ (7 < 2 ^ 16) ∧ (1 < 2 ^ 16) ∧ (([(-1, 2, 3), (2147483647, -2147483648, 0)] : List (Int × Int × Int)).length < 2 ^ 16) ∧ (1024 ≤ 1024 ∨ 7 < 2 ∨ 4096 < 7 ∨ ([(-1, 2, 3), (2147483647, -2147483648, 0)] : List (Int × Int × Int)).length < 1 ∨ 116 < ([(-1, 2, 3), (2147483647, -2147483648, 0)] : List (Int × Int × Int)).length ∨ 7 < 1 + ([(-1, 2, 3), (2147483647, -2147483648, 0)] : List (Int × Int × Int)).length)) ∧ (match exec (.trackLoad 3 9 ((leBytes 2 1024 ++ leBytes 2 7 ++ leBytes 2 1 ++ leBytes 2 ([(-1, 2, 3), (2147483647, -2147483648, 0)] : List (Int × Int × Int)).length ++ vertBytes ([(-1, 2, 3), (2147483647, -2147483648, 0)] : List (Int × Int × Int))))) wTrack with
    | .next t => decide ((answers wTrack t [] 0x0700 3 9 Ecp.BAD_PARAM (crc32c (leBytes 2 1024 ++ leBytes 2 7 ++ leBytes 2 1 ++ leBytes 2 ([(-1, 2, 3), (2147483647, -2147483648, 0)] : List (Int × Int × Int)).length ++ vertBytes ([(-1, 2, 3), (2147483647, -2147483648, 0)] : List (Int × Int × Int)))) [] = true))
    | _ => false) = true := by decide +kernel

theorem test_trackSeal : ((wTrack.stopSafe = true) ∧ (wTrack.accepts 0x0701 3 9 true = true) ∧ (3 < 1024) ∧ (wTrack.trkState 3 ≠ 0) ∧ (twinVerts (wTrack.trkVerts 3) = false) ∧ (5000 = (arcsOf (wTrack.trkVerts 3)).getLast?.getD 0) ∧ (5000 ≤ 2147483647)) ∧ (match exec (.trackSeal 3 9 ((leBytes 2 3 ++ [0, 0]))) wTrack with
    | .next t => decide ((answers wTrack t [] 0x0701 3 9 Ecp.OK (crc32c (leBytes 2 3 ++ [0, 0])) (leBytes 4 5000 ++ leBytes 4 (crc32c (vertBytes (wTrack.trkVerts 3)))) = true) ∧ (Reads t [(TRK_T_W1_STATE 3, 2), (TRK_T_W2_LENGTH 3, 5000), (TRK_T_W3_CRC 3, crc32c (vertBytes (wTrack.trkVerts 3)))]))
    | _ => false) = true := by decide +kernel

theorem test_trackSeal_bad : ((wTrack.stopSafe = true) ∧ (wTrack.accepts 0x0701 3 9 true = true) ∧ (4 < 2 ^ 16) ∧ (0 = (arcsOf (wTrack.trkVerts 4)).getLast?.getD 0) ∧ (1024 ≤ 4 ∨ wTrack.trkState 4 = 0 ∨ twinVerts (wTrack.trkVerts 4) = true ∨ 2147483647 < 0)) ∧ (match exec (.trackSeal 3 9 ((leBytes 2 4 ++ [0, 0]))) wTrack with
    | .next t => decide ((answers wTrack t [] 0x0701 3 9 Ecp.BAD_PARAM (crc32c (leBytes 2 4 ++ [0, 0])) [] = true))
    | _ => false) = true := by decide +kernel

def w_trackFree : State := withSess (at_ [(PAIR_STATUS_ACTIVE, 1), (TRK_T_W1_STATE 1023, 2)])

theorem test_trackFree : ((w_trackFree.stopSafe = true) ∧ (w_trackFree.accepts 0x0702 3 9 true = true) ∧ (1023 < 1024) ∧ (w_trackFree.trkUsed 1023 = false)) ∧ (match exec (.trackFree 3 9 ((leBytes 2 1023 ++ [0, 0]))) w_trackFree with
    | .next t => decide ((answers w_trackFree t [] 0x0702 3 9 Ecp.OK (crc32c (leBytes 2 1023 ++ [0, 0])) [] = true) ∧ (Reads t [(TRK_T_W0_FIRST 1023, 0), (TRK_T_W1_STATE 1023, 0), (TRK_T_W1_COUNT 1023, 0), (TRK_T_W2_LENGTH 1023, 0), (TRK_T_W3_CRC 1023, 0)]))
    | _ => false) = true := by decide +kernel

theorem test_trackFree_used : ((wTrack.stopSafe = true) ∧ (wTrack.accepts 0x0702 3 9 true = true) ∧ (3 < 1024) ∧ (wTrack.trkUsed 3 = true)) ∧ (match exec (.trackFree 3 9 ((leBytes 2 3 ++ [0, 0]))) wTrack with
    | .next t => decide ((answers wTrack t [] 0x0702 3 9 Ecp.DENIED (crc32c (leBytes 2 3 ++ [0, 0])) [] = true))
    | _ => false) = true := by decide +kernel

theorem test_trackFree_bad : ((wTrack.stopSafe = true) ∧ (wTrack.accepts 0x0702 3 9 true = true) ∧ (1024 < 2 ^ 16) ∧ (1024 ≤ 1024)) ∧ (match exec (.trackFree 3 9 ((leBytes 2 1024 ++ [0, 0]))) wTrack with
    | .next t => decide ((answers wTrack t [] 0x0702 3 9 Ecp.BAD_PARAM (crc32c (leBytes 2 1024 ++ [0, 0])) [] = true))
    | _ => false) = true := by decide +kernel

theorem test_move : ((wTrack.stopSafe = true) ∧ (wTrack.accepts 0x0703 3 9 true = true) ∧ (isAddr 9 = true) ∧ (1 ≤ 1) ∧ (8 ≤ 8) ∧ (3 < 1024) ∧ (5000 < 2 ^ 32) ∧ (wTrack.trkState 3 = 2) ∧ (5000 ≤ wTrack.get (TRK_T_W2_LENGTH 3)) ∧ (wTrack.limZero 9 = false) ∧ (wTrack.pchState 9 ≠ 7)) ∧ (match exec (.move 3 9 (([9, 1, 8, 0] ++ leBytes 2 3 ++ [0, 0] ++ leBytes 4 5000))) wTrack with
    | .next t => decide ((opens wTrack t [] 0x0703 3 9 (crc32c ([9, 1, 8, 0] ++ leBytes 2 3 ++ [0, 0] ++ leBytes 4 5000)) (some (t.progressBytes 3 9)) = true) ∧ (t.pch 9 = { wTrack.pch 9 with reqs := (wTrack.pch 9).reqs ++ [.move 3 9 (1 == 1) 8 3 (5000 : Int)] }))
    | _ => false) = true := by decide +kernel

theorem test_move_denied : ((wTrack.stopSafe = true) ∧ (wTrack.accepts 0x0703 3 9 true = true) ∧ (isAddr 9 = true) ∧ (1 ≤ 1) ∧ (8 ≤ 8) ∧ (4 < 1024) ∧ (5000 < 2 ^ 32) ∧ (wTrack.trkState 4 ≠ 2 ∨ (5000 ≤ wTrack.get (TRK_T_W2_LENGTH 4) ∧ (wTrack.limZero 9 = true ∨ wTrack.pchState 9 = 7)))) ∧ (match exec (.move 3 9 (([9, 1, 8, 0] ++ leBytes 2 4 ++ [0, 0] ++ leBytes 4 5000))) wTrack with
    | .next t => decide ((answers wTrack t [] 0x0703 3 9 Ecp.DENIED (crc32c ([9, 1, 8, 0] ++ leBytes 2 4 ++ [0, 0] ++ leBytes 4 5000)) [] = true))
    | _ => false) = true := by decide +kernel

theorem test_move_bad : ((wTrack.stopSafe = true) ∧ (wTrack.accepts 0x0703 3 9 true = true) ∧ (9 < 256) ∧ (1 < 256) ∧ (8 < 256) ∧ (3 < 2 ^ 16) ∧ (5001 < 2 ^ 32) ∧ (isAddr 9 = false ∨ 1 < 1 ∨ 8 < 8 ∨ 1024 ≤ 3 ∨ (wTrack.trkState 3 = 2 ∧ wTrack.get (TRK_T_W2_LENGTH 3) < 5001))) ∧ (match exec (.move 3 9 (([9, 1, 8, 0] ++ leBytes 2 3 ++ [0, 0] ++ leBytes 4 5001))) wTrack with
    | .next t => decide ((answers wTrack t [] 0x0703 3 9 Ecp.BAD_PARAM (crc32c ([9, 1, 8, 0] ++ leBytes 2 3 ++ [0, 0] ++ leBytes 4 5001)) [] = true))
    | _ => false) = true := by decide +kernel

theorem test_halt : ((wTrack.stopSafe = true) ∧ (wTrack.accepts 0x0704 3 9 true = true) ∧ (isAddr 192 = true)) ∧ (match exec (.halt 3 9 ([192, 0, 0, 0])) wTrack with
    | .next t => decide ((opens wTrack t [] 0x0704 3 9 (crc32c [192, 0, 0, 0]) (some (t.progressBytes 3 9)) = true) ∧ (t.pch 192 = { wTrack.pch 192 with reqs := (wTrack.pch 192).reqs ++ [.halt 3 9] }))
    | _ => false) = true := by decide +kernel

theorem test_halt_bad : ((wTrack.stopSafe = true) ∧ (wTrack.accepts 0x0704 3 9 true = true) ∧ (193 < 256) ∧ (isAddr 193 = false)) ∧ (match exec (.halt 3 9 ([193, 0, 0, 0])) wTrack with
    | .next t => decide ((answers wTrack t [] 0x0704 3 9 Ecp.BAD_PARAM (crc32c [193, 0, 0, 0]) [] = true))
    | _ => false) = true := by decide +kernel

def w_chanRelease : State := wCh 7 1000 { rest := 8, slot0 := some 3 }

theorem test_chanRelease : ((w_chanRelease.stopSafe = true) ∧ (w_chanRelease.accepts 0x0705 3 9 true = true) ∧ (isAddr 9 = true) ∧ (w_chanRelease.pchState 9 = 6 ∨ w_chanRelease.pchState 9 = 7)) ∧ (match exec (.chanRelease 3 9 ([9, 0, 0, 0])) w_chanRelease with
    | .next t => decide ((answers w_chanRelease t [] 0x0705 3 9 Ecp.OK (crc32c [9, 0, 0, 0]) [] = true) ∧ (Reads t [(PCH_W5_STATE 9, 0), (PCH_W5_REASON 9, 0), (PCH_W5_DOCKED 9, 0), (PCH_W5_Q 9, 0), (PCH_W5_GEAR_LIMITED 9, 0)]) ∧ (t.pch 9 = { slot0 := (w_chanRelease.pch 9).slot0, slot1 := (w_chanRelease.pch 9).slot1, load := (w_chanRelease.pch 9).load, reqs := (w_chanRelease.pch 9).reqs }))
    | _ => false) = true := by decide +kernel

def w_chanRelease_denied : State := wCh 2 1000 { rest := 8, slot0 := some 3 }

theorem test_chanRelease_denied : ((w_chanRelease_denied.stopSafe = true) ∧ (w_chanRelease_denied.accepts 0x0705 3 9 true = true) ∧ (isAddr 9 = true) ∧ (w_chanRelease_denied.pchState 9 ≠ 6) ∧ (w_chanRelease_denied.pchState 9 ≠ 7)) ∧ (match exec (.chanRelease 3 9 ([9, 0, 0, 0])) w_chanRelease_denied with
    | .next t => decide ((answers w_chanRelease_denied t [] 0x0705 3 9 Ecp.DENIED (crc32c [9, 0, 0, 0]) [] = true))
    | _ => false) = true := by decide +kernel

def w_chanRelease_bad : State := wCh 2 1000 { rest := 8, slot0 := some 3 }

theorem test_chanRelease_bad : ((w_chanRelease_bad.stopSafe = true) ∧ (w_chanRelease_bad.accepts 0x0705 3 9 true = true) ∧ (0 < 256) ∧ (isAddr 0 = false)) ∧ (match exec (.chanRelease 3 9 ([0, 0, 0, 0])) w_chanRelease_bad with
    | .next t => decide ((answers w_chanRelease_bad t [] 0x0705 3 9 Ecp.BAD_PARAM (crc32c [0, 0, 0, 0]) [] = true))
    | _ => false) = true := by decide +kernel

theorem test_gearEngage : ((wTrack.stopSafe = true) ∧ (wTrack.accepts 0x0706 3 9 true = true) ∧ (5 < 64) ∧ (wTrack.gearOk 5 = true)) ∧ (match exec (.gearEngage 3 9 ([5, 0, 0, 0])) wTrack with
    | .next t => decide ((opens wTrack t [] 0x0706 3 9 (crc32c [5, 0, 0, 0]) (some (t.progressBytes 3 9)) = true) ∧ (t.pch (wTrack.get (GEAR_W0_FOLLOWER 5)) = { wTrack.pch (wTrack.get (GEAR_W0_FOLLOWER 5)) with reqs := (wTrack.pch (wTrack.get (GEAR_W0_FOLLOWER 5))).reqs ++ [.engage 3 9 5] }))
    | _ => false) = true := by decide +kernel

theorem test_gearEngage_denied : ((wTrack.stopSafe = true) ∧ (wTrack.accepts 0x0706 3 9 true = true) ∧ (6 < 64) ∧ (wTrack.gearOk 6 = false)) ∧ (match exec (.gearEngage 3 9 ([6, 0, 0, 0])) wTrack with
    | .next t => decide ((answers wTrack t [] 0x0706 3 9 Ecp.DENIED (crc32c [6, 0, 0, 0]) [] = true))
    | _ => false) = true := by decide +kernel

theorem test_gearEngage_bad : ((wTrack.stopSafe = true) ∧ (wTrack.accepts 0x0706 3 9 true = true) ∧ (64 < 256) ∧ (64 ≤ 64)) ∧ (match exec (.gearEngage 3 9 ([64, 0, 0, 0])) wTrack with
    | .next t => decide ((answers wTrack t [] 0x0706 3 9 Ecp.BAD_PARAM (crc32c [64, 0, 0, 0]) [] = true))
    | _ => false) = true := by decide +kernel

theorem test_gearDisengage : ((wTrack.stopSafe = true) ∧ (wTrack.accepts 0x0707 3 9 true = true) ∧ (5 < 64)) ∧ (match exec (.gearDisengage 3 9 ([5, 0, 0, 0])) wTrack with
    | .next t => decide ((opens wTrack t [] 0x0707 3 9 (crc32c [5, 0, 0, 0]) (some (t.progressBytes 3 9)) = true) ∧ (t.pch (wTrack.get (GEAR_W0_FOLLOWER 5)) = { wTrack.pch (wTrack.get (GEAR_W0_FOLLOWER 5)) with reqs := (wTrack.pch (wTrack.get (GEAR_W0_FOLLOWER 5))).reqs ++ [.disengage 3 9 5] }))
    | _ => false) = true := by decide +kernel

theorem test_gearDisengage_bad : ((wTrack.stopSafe = true) ∧ (wTrack.accepts 0x0707 3 9 true = true) ∧ (64 < 256) ∧ (64 ≤ 64)) ∧ (match exec (.gearDisengage 3 9 ([64, 0, 0, 0])) wTrack with
    | .next t => decide ((answers wTrack t [] 0x0707 3 9 Ecp.BAD_PARAM (crc32c [64, 0, 0, 0]) [] = true))
    | _ => false) = true := by decide +kernel

def w_profileRestReached_none : State := wCh 2 1000 {}

theorem test_profileRestReached_none : ((w_profileRestReached_none.stopSafe = true) ∧ (isAddr 9 = false ∨ w_profileRestReached_none.atRest 9 = false ∨ (w_profileRestReached_none.pchState 9 ≠ 2 ∧ w_profileRestReached_none.pchState 9 ≠ 4 ∧ w_profileRestReached_none.pchState 9 ≠ 5))) ∧ (match exec (.profileRestReached 9) w_profileRestReached_none with
    | .next t => decide ((t = w_profileRestReached_none))
    | _ => false) = true := by decide +kernel

def w_dockInputConfirm : State := at_ [(DOCK_CFG_EN, 0x80), (DOCK_CFG_POLARITY, 0x80)]

theorem test_dockInputConfirm : ((w_dockInputConfirm.stopSafe = true) ∧ (7 < 8) ∧ (w_dockInputConfirm.getBit DOCK_CFG_EN 7 = true) ∧ (true = w_dockInputConfirm.getBit DOCK_CFG_POLARITY 7) ∧ ((true == true) ≠ w_dockInputConfirm.getBit DOCK_STATE_CLOSED 7) ∧ ((true == true) ≠ w_dockInputConfirm.getBit DOCK_STATE_CLOSED 7) ∧ (w_dockInputConfirm.trk.dockAt.any (fun (e : Nat × Nat) => e.1 == 7 && decide (w_dockInputConfirm.ply < e.2 + 3)) = false) ∧ (allAddrs.all (fun (a : Nat) => w_dockInputConfirm.pchState a == 0 || (w_dockInputConfirm.pch a).dock != 7) = true)) ∧ (match exec (.dockInputConfirm 7 true false true) w_dockInputConfirm with
    | .next t => decide ((t.getBit DOCK_STATE_CLOSED 7 = (true == true)) ∧ (t.getBit DOCK_STATE_CHANGED 7 = true) ∧ (t.evr = (w_dockInputConfirm.record .dockChange [7, b2n (true == true)]).evr) ∧ (t.trk = { w_dockInputConfirm.trk with dockAt := w_dockInputConfirm.trk.dockAt.filter (fun (e : Nat × Nat) => e.1 ≠ 7) ++ [(7, w_dockInputConfirm.ply)] }) ∧ ((List.range 8).all (fun j => j == 7 || t.getBit DOCK_STATE_CLOSED j == w_dockInputConfirm.getBit DOCK_STATE_CLOSED j && t.getBit DOCK_STATE_CHANGED j == w_dockInputConfirm.getBit DOCK_STATE_CHANGED j) = true))
    | _ => false) = true := by decide +kernel

def w_dockInputConfirm_channels : State := at_ [(DOCK_CFG_EN, 0x80), (DOCK_CFG_POLARITY, 0x80)]

theorem test_dockInputConfirm_channels : (w_dockInputConfirm_channels.stopSafe = true) ∧ (7 < 8) ∧ (w_dockInputConfirm_channels.getBit DOCK_CFG_EN 7 = true) ∧ (true = w_dockInputConfirm_channels.getBit DOCK_CFG_POLARITY 7) ∧ ((true == true) ≠ w_dockInputConfirm_channels.getBit DOCK_STATE_CLOSED 7) ∧ ((true == true) ≠ w_dockInputConfirm_channels.getBit DOCK_STATE_CLOSED 7) ∧ (w_dockInputConfirm_channels.trk.dockAt.any (fun (e : Nat × Nat) => e.1 == 7 && decide (w_dockInputConfirm_channels.ply < e.2 + 3)) = false) ∧ (({ at_ [(DOCK_CFG_EN, 0x80), (DOCK_CFG_POLARITY, 0x80)] with trk := { dockAt := [(7, 0)] } } : State) = { w_dockInputConfirm_channels with trk := { w_dockInputConfirm_channels.trk with dockAt := w_dockInputConfirm_channels.trk.dockAt.filter (fun (e : Nat × Nat) => e.1 ≠ 7) ++ [(7, w_dockInputConfirm_channels.ply)] } }) ∧ ((State.record (State.putBit (State.putBit { at_ [(DOCK_CFG_EN, 0x80), (DOCK_CFG_POLARITY, 0x80)] with trk := { dockAt := [(7, 0)] } } DOCK_STATE_CLOSED 7 true) DOCK_STATE_CHANGED 7 true) .dockChange [7, 1] : State) = State.record (State.putBit (State.putBit ({ at_ [(DOCK_CFG_EN, 0x80), (DOCK_CFG_POLARITY, 0x80)] with trk := { dockAt := [(7, 0)] } } : State) DOCK_STATE_CLOSED 7 (true == true)) DOCK_STATE_CHANGED 7 true) .dockChange [7, b2n (true == true)]) := by decide +kernel

def w_dockInputConfirm_bounce : State := at_ [(DOCK_CFG_EN, 0x80), (DOCK_CFG_POLARITY, 0x80)]

theorem test_dockInputConfirm_bounce : ((w_dockInputConfirm_bounce.stopSafe = true) ∧ (7 < 8) ∧ (w_dockInputConfirm_bounce.getBit DOCK_CFG_EN 7 = true) ∧ (true = w_dockInputConfirm_bounce.getBit DOCK_CFG_POLARITY 7) ∧ ((true == true) ≠ w_dockInputConfirm_bounce.getBit DOCK_STATE_CLOSED 7) ∧ ((false == true) = w_dockInputConfirm_bounce.getBit DOCK_STATE_CLOSED 7) ∧ (w_dockInputConfirm_bounce.trk.dockAt.any (fun (e : Nat × Nat) => e.1 == 7 && decide (w_dockInputConfirm_bounce.ply < e.2 + 3)) = false)) ∧ (match exec (.dockInputConfirm 7 true false false) w_dockInputConfirm_bounce with
    | .next t => decide ((t.trk = { w_dockInputConfirm_bounce.trk with dockAt := w_dockInputConfirm_bounce.trk.dockAt.filter (fun (e : Nat × Nat) => e.1 ≠ 7) ++ [(7, w_dockInputConfirm_bounce.ply)] }))
    | _ => false) = true := by decide +kernel

theorem test_dockInputConfirm_none : ((wReset.stopSafe = true) ∧ (8 ≤ 8 ∨ wReset.getBit DOCK_CFG_EN 8 = false ∨ (true == wReset.getBit DOCK_CFG_POLARITY 8) = wReset.getBit DOCK_STATE_CLOSED 8 ∨ wReset.trk.dockAt.any (fun (e : Nat × Nat) => e.1 == 8 && decide (wReset.ply < e.2 + 3)) = true)) ∧ (match exec (.dockInputConfirm 8 true false false) wReset with
    | .next t => decide ((t = wReset))
    | _ => false) = true := by decide +kernel

/-- Channel 9 in a state, its plan at its end: a plan's length rests on square roots of the reals, so the witness takes it as the boundary.
Session 3 has a request under TAG 9 in progress. -/
def wRest (p : Config.PlanIn) (st : Nat) (x : PchState) : State :=
  { wCh st (planMs p) x with
    ecp := { State.reset.ecp with sessions := [{ id := 3, port := 1, ip := 0x0A000001, udp := 5000, inProg := [⟨9, 0x703, 5⟩] }] } }

theorem rest_safe (p : Config.PlanIn) (st : Nat) (x : PchState) (h : st < 8) : (wRest p st x).stopSafe = true := by
  show (!State.bit (withSess (at_ [(PAIR_STATUS_ACTIVE, 1), (PCH_W5_STATE 9, st)])) ROOK_STATE_STOP ||
    State.get (withSess (at_ [(PAIR_STATUS_ACTIVE, 1), (PCH_W5_STATE 9, st)])) RELAY_STATUS_DRIVE == 0) = true
  match st, h with
  | 0, _ | 1, _ | 2, _ | 3, _ | 4, _ | 5, _ | 6, _ | 7, _ => decide +kernel

theorem rest_late (p : Config.PlanIn) (st : Nat) (x : PchState) :
    0 * 100 + planMs p ≤ (wRest p st x).time.k * 100 + (wRest p st x).sinceNs / 1000000 := by
  show 0 * 100 + planMs p ≤ planMs p * 100 + _; omega

theorem rest_state (p : Config.PlanIn) (st : Nat) (x : PchState) (h : st < 8) : (wRest p st x).pchState 9 = st := by
  show State.get (withSess (at_ [(PAIR_STATUS_ACTIVE, 1), (PCH_W5_STATE 9, st)])) (PCH_W5_STATE 9) = st
  match st, h with
  | 0, _ | 1, _ | 2, _ | 3, _ | 4, _ | 5, _ | 6, _ | 7, _ => decide +kernel

theorem rest_sends (p : Config.PlanIn) (st : Nat) (x : PchState) :
    (wRest p st x).sessSends { id := 3, port := 1, ip := 0x0A000001, udp := 5000, inProg := [⟨9, 0x703, 5⟩] } = true := rfl

theorem test_profileRestReached (p : Config.PlanIn) :
    (wRest p 2 { plan := some (p, 0) }).stopSafe = true ∧ isAddr 9 = true ∧ ((wRest p 2 { plan := some (p, 0) }).pch 9) = { plan := some (p, 0) } ∧
    0 * 100 + planMs p ≤ (wRest p 2 { plan := some (p, 0) }).time.k * 100 + (wRest p 2 { plan := some (p, 0) }).sinceNs / 1000000 ∧ (wRest p 2 { plan := some (p, 0) }).pchState 9 = 2 :=
  ⟨rest_safe p 2 _ (by decide), by decide, rfl, rest_late p 2 _, rest_state p 2 _ (by decide)⟩

theorem test_profileRestReached_homing (p : Config.PlanIn) :
    (wRest p 4 { plan := some (p, 0) }).stopSafe = true ∧ isAddr 9 = true ∧ ((wRest p 4 { plan := some (p, 0) }).pch 9) = { plan := some (p, 0) } ∧
    0 * 100 + planMs p ≤ (wRest p 4 { plan := some (p, 0) }).time.k * 100 + (wRest p 4 { plan := some (p, 0) }).sinceNs / 1000000 ∧ (wRest p 4 { plan := some (p, 0) }).pchState 9 = 4 :=
  ⟨rest_safe p 4 _ (by decide), by decide, rfl, rest_late p 4 _, rest_state p 4 _ (by decide)⟩

theorem test_profileRestReached_behind (p : Config.PlanIn) :
    (wRest p 5 { plan := some (p, 0), behind := true }).stopSafe = true ∧ isAddr 9 = true ∧ ((wRest p 5 { plan := some (p, 0), behind := true }).pch 9) = { plan := some (p, 0), behind := true } ∧
    0 * 100 + planMs p ≤ (wRest p 5 { plan := some (p, 0), behind := true }).time.k * 100 + (wRest p 5 { plan := some (p, 0), behind := true }).sinceNs / 1000000 ∧ (wRest p 5 { plan := some (p, 0), behind := true }).pchState 9 = 5 :=
  ⟨rest_safe p 5 _ (by decide), by decide, rfl, rest_late p 5 _, rest_state p 5 _ (by decide)⟩

theorem test_profileRestReached_docked (p : Config.PlanIn) :
    (wRest p 5 { plan := some (p, 0), docking := true }).stopSafe = true ∧ isAddr 9 = true ∧ ((wRest p 5 { plan := some (p, 0), docking := true }).pch 9) = { plan := some (p, 0), docking := true } ∧
    0 * 100 + planMs p ≤ (wRest p 5 { plan := some (p, 0), docking := true }).time.k * 100 + (wRest p 5 { plan := some (p, 0), docking := true }).sinceNs / 1000000 ∧ (wRest p 5 { plan := some (p, 0), docking := true }).pchState 9 = 5 :=
  ⟨rest_safe p 5 _ (by decide), by decide, rfl, rest_late p 5 _, rest_state p 5 _ (by decide)⟩

theorem test_profileRestReached_stopped (p : Config.PlanIn) :
    (wRest p 5 { plan := some (p, 0), reason := 4 }).stopSafe = true ∧ isAddr 9 = true ∧ ((wRest p 5 { plan := some (p, 0), reason := 4 }).pch 9) = { plan := some (p, 0), reason := 4 } ∧
    0 * 100 + planMs p ≤ (wRest p 5 { plan := some (p, 0), reason := 4 }).time.k * 100 + (wRest p 5 { plan := some (p, 0), reason := 4 }).sinceNs / 1000000 ∧ (wRest p 5 { plan := some (p, 0), reason := 4 }).pchState 9 = 5 :=
  ⟨rest_safe p 5 _ (by decide), by decide, rfl, rest_late p 5 _, rest_state p 5 _ (by decide)⟩

theorem test_profileRestReached_moveReached (p : Config.PlanIn) :
    (wRest p 2 { plan := some (p, 0), move := some ⟨3, 9, false, 0, 3, 0⟩ }).stopSafe = true ∧ isAddr 9 = true ∧ ((wRest p 2 { plan := some (p, 0), move := some ⟨3, 9, false, 0, 3, 0⟩ }).pch 9) = { plan := some (p, 0), move := some ⟨3, 9, false, 0, 3, 0⟩ } ∧
    0 * 100 + planMs p ≤ (wRest p 2 { plan := some (p, 0), move := some ⟨3, 9, false, 0, 3, 0⟩ }).time.k * 100 + (wRest p 2 { plan := some (p, 0), move := some ⟨3, 9, false, 0, 3, 0⟩ }).sinceNs / 1000000 ∧ (wRest p 2 { plan := some (p, 0), move := some ⟨3, 9, false, 0, 3, 0⟩ }).pchState 9 = 2 ∧
    (wRest p 2 { plan := some (p, 0), move := some ⟨3, 9, false, 0, 3, 0⟩ }).session 3 = some { id := 3, port := 1, ip := 0x0A000001, udp := 5000, inProg := [⟨9, 0x703, 5⟩] } ∧
    (wRest p 2 { plan := some (p, 0), move := some ⟨3, 9, false, 0, 3, 0⟩ }).sessSends { id := 3, port := 1, ip := 0x0A000001, udp := 5000, inProg := [⟨9, 0x703, 5⟩] } = true :=
  ⟨rest_safe p 2 _ (by decide), by decide, rfl, rest_late p 2 _, rest_state p 2 _ (by decide), rfl, rest_sends p 2 _⟩

theorem test_profileRestReached_moveHoming (p : Config.PlanIn) :
    (wRest p 4 { plan := some (p, 0), move := some ⟨3, 9, false, 0, 3, 0⟩ }).stopSafe = true ∧ isAddr 9 = true ∧ ((wRest p 4 { plan := some (p, 0), move := some ⟨3, 9, false, 0, 3, 0⟩ }).pch 9) = { plan := some (p, 0), move := some ⟨3, 9, false, 0, 3, 0⟩ } ∧
    0 * 100 + planMs p ≤ (wRest p 4 { plan := some (p, 0), move := some ⟨3, 9, false, 0, 3, 0⟩ }).time.k * 100 + (wRest p 4 { plan := some (p, 0), move := some ⟨3, 9, false, 0, 3, 0⟩ }).sinceNs / 1000000 ∧ (wRest p 4 { plan := some (p, 0), move := some ⟨3, 9, false, 0, 3, 0⟩ }).pchState 9 = 4 ∧
    (wRest p 4 { plan := some (p, 0), move := some ⟨3, 9, false, 0, 3, 0⟩ }).session 3 = some { id := 3, port := 1, ip := 0x0A000001, udp := 5000, inProg := [⟨9, 0x703, 5⟩] } ∧
    (wRest p 4 { plan := some (p, 0), move := some ⟨3, 9, false, 0, 3, 0⟩ }).sessSends { id := 3, port := 1, ip := 0x0A000001, udp := 5000, inProg := [⟨9, 0x703, 5⟩] } = true :=
  ⟨rest_safe p 4 _ (by decide), by decide, rfl, rest_late p 4 _, rest_state p 4 _ (by decide), rfl, rest_sends p 4 _⟩

theorem test_profileRestReached_moveBehind (p : Config.PlanIn) :
    (wRest p 5 { plan := some (p, 0), behind := true, move := some ⟨3, 9, false, 0, 3, 0⟩ }).stopSafe = true ∧ isAddr 9 = true ∧ ((wRest p 5 { plan := some (p, 0), behind := true, move := some ⟨3, 9, false, 0, 3, 0⟩ }).pch 9) = { plan := some (p, 0), behind := true, move := some ⟨3, 9, false, 0, 3, 0⟩ } ∧
    0 * 100 + planMs p ≤ (wRest p 5 { plan := some (p, 0), behind := true, move := some ⟨3, 9, false, 0, 3, 0⟩ }).time.k * 100 + (wRest p 5 { plan := some (p, 0), behind := true, move := some ⟨3, 9, false, 0, 3, 0⟩ }).sinceNs / 1000000 ∧ (wRest p 5 { plan := some (p, 0), behind := true, move := some ⟨3, 9, false, 0, 3, 0⟩ }).pchState 9 = 5 ∧
    (wRest p 5 { plan := some (p, 0), behind := true, move := some ⟨3, 9, false, 0, 3, 0⟩ }).session 3 = some { id := 3, port := 1, ip := 0x0A000001, udp := 5000, inProg := [⟨9, 0x703, 5⟩] } ∧
    (wRest p 5 { plan := some (p, 0), behind := true, move := some ⟨3, 9, false, 0, 3, 0⟩ }).sessSends { id := 3, port := 1, ip := 0x0A000001, udp := 5000, inProg := [⟨9, 0x703, 5⟩] } = true :=
  ⟨rest_safe p 5 _ (by decide), by decide, rfl, rest_late p 5 _, rest_state p 5 _ (by decide), rfl, rest_sends p 5 _⟩

theorem test_profileRestReached_moveDocked (p : Config.PlanIn) :
    (wRest p 5 { plan := some (p, 0), docking := true, move := some ⟨3, 9, false, 0, 3, 0⟩ }).stopSafe = true ∧ isAddr 9 = true ∧ ((wRest p 5 { plan := some (p, 0), docking := true, move := some ⟨3, 9, false, 0, 3, 0⟩ }).pch 9) = { plan := some (p, 0), docking := true, move := some ⟨3, 9, false, 0, 3, 0⟩ } ∧
    0 * 100 + planMs p ≤ (wRest p 5 { plan := some (p, 0), docking := true, move := some ⟨3, 9, false, 0, 3, 0⟩ }).time.k * 100 + (wRest p 5 { plan := some (p, 0), docking := true, move := some ⟨3, 9, false, 0, 3, 0⟩ }).sinceNs / 1000000 ∧ (wRest p 5 { plan := some (p, 0), docking := true, move := some ⟨3, 9, false, 0, 3, 0⟩ }).pchState 9 = 5 ∧
    (wRest p 5 { plan := some (p, 0), docking := true, move := some ⟨3, 9, false, 0, 3, 0⟩ }).session 3 = some { id := 3, port := 1, ip := 0x0A000001, udp := 5000, inProg := [⟨9, 0x703, 5⟩] } ∧
    (wRest p 5 { plan := some (p, 0), docking := true, move := some ⟨3, 9, false, 0, 3, 0⟩ }).sessSends { id := 3, port := 1, ip := 0x0A000001, udp := 5000, inProg := [⟨9, 0x703, 5⟩] } = true :=
  ⟨rest_safe p 5 _ (by decide), by decide, rfl, rest_late p 5 _, rest_state p 5 _ (by decide), rfl, rest_sends p 5 _⟩

theorem test_profileRestReached_moveStopped (p : Config.PlanIn) :
    (wRest p 5 { plan := some (p, 0), reason := 4, outcome := 7, move := some ⟨3, 9, false, 0, 3, 0⟩ }).stopSafe = true ∧ isAddr 9 = true ∧ ((wRest p 5 { plan := some (p, 0), reason := 4, outcome := 7, move := some ⟨3, 9, false, 0, 3, 0⟩ }).pch 9) = { plan := some (p, 0), reason := 4, outcome := 7, move := some ⟨3, 9, false, 0, 3, 0⟩ } ∧
    0 * 100 + planMs p ≤ (wRest p 5 { plan := some (p, 0), reason := 4, outcome := 7, move := some ⟨3, 9, false, 0, 3, 0⟩ }).time.k * 100 + (wRest p 5 { plan := some (p, 0), reason := 4, outcome := 7, move := some ⟨3, 9, false, 0, 3, 0⟩ }).sinceNs / 1000000 ∧ (wRest p 5 { plan := some (p, 0), reason := 4, outcome := 7, move := some ⟨3, 9, false, 0, 3, 0⟩ }).pchState 9 = 5 ∧
    (wRest p 5 { plan := some (p, 0), reason := 4, outcome := 7, move := some ⟨3, 9, false, 0, 3, 0⟩ }).session 3 = some { id := 3, port := 1, ip := 0x0A000001, udp := 5000, inProg := [⟨9, 0x703, 5⟩] } ∧
    (wRest p 5 { plan := some (p, 0), reason := 4, outcome := 7, move := some ⟨3, 9, false, 0, 3, 0⟩ }).sessSends { id := 3, port := 1, ip := 0x0A000001, udp := 5000, inProg := [⟨9, 0x703, 5⟩] } = true :=
  ⟨rest_safe p 5 _ (by decide), by decide, rfl, rest_late p 5 _, rest_state p 5 _ (by decide), rfl, rest_sends p 5 _⟩

def w_estopLoopOpen : State := { wRun [(LOOP_CFG_EN, 0x80), (ROOK_STATE_STOP, 0)] with ply := 5000, rook := { State.reset.rook with enAt := [(7, 10)], ch := [(15, { openRun := 1 })] } }

theorem test_estopLoopOpen : ((w_estopLoopOpen.stopSafe = true) ∧ (15 < 16) ∧ (w_estopLoopOpen.loopLive (15 / 2) = true) ∧ (w_estopLoopOpen.underTest 15 = false) ∧ (1 ≤ (w_estopLoopOpen.estop 15).openRun) ∧ ((w_estopLoopOpen.estop 15).conf ≠ 2)) ∧ (match exec (.estopLoopOpen 15) w_estopLoopOpen with
    | .next t => decide ((StopOn 0 w_estopLoopOpen t) ∧ (t = State.enterStop (State.dropTests (State.putBit (State.setEstop w_estopLoopOpen 15 { w_estopLoopOpen.estop 15 with openRun := 2, closedRun := 0, conf := 2, since := none }) LOOP_STATUS_OPEN (15 / 2) true) (15 / 2)) 0) ∧ (t.getBit LOOP_STATUS_OPEN (15 / 2) = true) ∧ (((t.estop 15).conf, (t.estop 15).tested, (t.estop 15).since) = (2, false, none)))
    | _ => false) = true := by decide +kernel

def w_estopLoopOpen_none : State := { wRun [(LOOP_CFG_EN, 0x80), (ROOK_STATE_STOP, 0), (PCH_W5_STATE 9, 2)] with ply := 5000, rook := { State.reset.rook with enAt := [(7, 10)] } }

theorem test_estopLoopOpen_none : ((w_estopLoopOpen_none.stopSafe = true) ∧ (16 ≤ 14 ∨ w_estopLoopOpen_none.loopLive (14 / 2) = false ∨ w_estopLoopOpen_none.underTest 14 = true ∨ (w_estopLoopOpen_none.estop 14).openRun = 0 ∨ (w_estopLoopOpen_none.estop 14).conf = 2)) ∧ (match exec (.estopLoopOpen 14) w_estopLoopOpen_none with
    | .next t => decide ((t = w_estopLoopOpen_none))
    | _ => false) = true := by decide +kernel

def w_loopTestPulse : State := { wRun [(LOOP_CFG_EN, 0x80), (ROOK_STATE_STOP, 0), (PCH_W5_STATE 9, 2)] with ply := 5000, rook := { State.reset.rook with enAt := [(7, 10)], ch := [(15, { test := some 4995 })] } }

theorem test_loopTestPulse : ((w_loopTestPulse.stopSafe = true) ∧ (15 < 16) ∧ (w_loopTestPulse.loopLive (15 / 2) = true) ∧ ((w_loopTestPulse.estop 15).test = some 4995) ∧ (w_loopTestPulse.ply = 4995 + 5) ∧ ((w_loopTestPulse.estop 15).testBad = false) ∧ (w_loopTestPulse.getBit LOOP_STATUS_OPEN (15 / 2) = false)) ∧ (match exec (.loopTestPulse 15 false) w_loopTestPulse with
    | .next t => decide ((t.estop 15 = { w_loopTestPulse.estop 15 with tested := true }) ∧ (t.rook = { w_loopTestPulse.rook with ch := t.rook.ch }))
    | _ => false) = true := by decide +kernel

def w_loopTestPulse_open : State := { wRun [(LOOP_CFG_EN, 0x80), (ROOK_STATE_STOP, 0), (PCH_W5_STATE 9, 2), (LOOP_STATUS_OPEN, 0x80)] with ply := 5000, rook := { State.reset.rook with enAt := [(7, 10)], ch := [(15, { test := some 4995 })] } }

theorem test_loopTestPulse_open : ((w_loopTestPulse_open.stopSafe = true) ∧ (15 < 16) ∧ (w_loopTestPulse_open.loopLive (15 / 2) = true) ∧ ((w_loopTestPulse_open.estop 15).test = some 4995) ∧ (w_loopTestPulse_open.ply = 4995 + 5) ∧ ((w_loopTestPulse_open.estop 15).testBad = false) ∧ (w_loopTestPulse_open.getBit LOOP_STATUS_OPEN (15 / 2) = true)) ∧ (match exec (.loopTestPulse 15 false) w_loopTestPulse_open with
    | .next t => decide ((t.estop 15 = w_loopTestPulse_open.estop 15) ∧ (t.rook = { w_loopTestPulse_open.rook with ch := t.rook.ch }))
    | _ => false) = true := by decide +kernel

def w_loopTestPulse_failed : State := { wRun [(LOOP_CFG_EN, 0x80), (ROOK_STATE_STOP, 0)] with ply := 5000, rook := { State.reset.rook with enAt := [(7, 10)], ch := [(15, { test := some 4995 })] } }

theorem test_loopTestPulse_failed : ((w_loopTestPulse_failed.stopSafe = true) ∧ (15 < 16) ∧ (w_loopTestPulse_failed.loopLive (15 / 2) = true) ∧ ((w_loopTestPulse_failed.estop 15).test = some 4995) ∧ (w_loopTestPulse_failed.ply = 4995 + 5) ∧ (((w_loopTestPulse_failed.estop 15).testBad || true) = true) ∧ (bitOf w_loopTestPulse_failed.rook.ltBits (15 / 2) = false)) ∧ (match exec (.loopTestPulse 15 true) w_loopTestPulse_failed with
    | .next t => decide ((StopOn 0 w_loopTestPulse_failed t) ∧ (StopOn 4 w_loopTestPulse_failed t) ∧ (t.rook.ltBits = setBit w_loopTestPulse_failed.rook.ltBits (15 / 2)) ∧ (t.rook.dcBits = w_loopTestPulse_failed.rook.dcBits) ∧ (Reads t [(ROOK_FAULT_LOOP_TEST, 1), (ROOK_STATE_FAULT, 1), (ROOK_FAULT_LOOP, t.rook.ltBits ||| t.rook.dcBits)]) ∧ ((w_loopTestPulse_failed.rst.held.contains .sys ∨ 64 ≤ w_loopTestPulse_failed.evr.queue.length ∨ (t.evr.queue.dropLast = w_loopTestPulse_failed.evr.queue ∧ t.evr.queue.getLast?.map (fun (r : Rec) => (r.ev, r.payload)) = some (Ev.rookFault, [1, 15 / 2])))) ∧ (t = (let z := State.setEstop w_loopTestPulse_failed 15 { w_loopTestPulse_failed.estop 15 with testBad := true }; State.faultLatched (State.enterStop (State.dropTests { z with rook := { z.rook with ltBits := setBit z.rook.ltBits (15 / 2) } } (15 / 2)) 0) 1 (15 / 2))))
    | _ => false) = true := by decide +kernel

def w_loopTestPulse_again : State := { wRun [(LOOP_CFG_EN, 0x80), (ROOK_STATE_STOP, 0)] with ply := 5000, rook := { State.reset.rook with enAt := [(7, 10)], ltBits := 0x80, ch := [(15, { test := some 4995, testBad := true })] } }

theorem test_loopTestPulse_again : ((w_loopTestPulse_again.stopSafe = true) ∧ (15 < 16) ∧ (w_loopTestPulse_again.loopLive (15 / 2) = true) ∧ ((w_loopTestPulse_again.estop 15).test = some 4995) ∧ (w_loopTestPulse_again.ply = 4995 + 5) ∧ (((w_loopTestPulse_again.estop 15).testBad || false) = true) ∧ (bitOf w_loopTestPulse_again.rook.ltBits (15 / 2) = true)) ∧ (match exec (.loopTestPulse 15 false) w_loopTestPulse_again with
    | .next t => decide ((t.estop 15 = { w_loopTestPulse_again.estop 15 with testBad := true }) ∧ (t.rook = { w_loopTestPulse_again.rook with ch := t.rook.ch }))
    | _ => false) = true := by decide +kernel

def w_loopTestPulse_none : State := { wRun [(LOOP_CFG_EN, 0x80), (ROOK_STATE_STOP, 0), (PCH_W5_STATE 9, 2)] with ply := 5000, rook := { State.reset.rook with enAt := [(7, 10)] } }

theorem test_loopTestPulse_none : ((w_loopTestPulse_none.stopSafe = true) ∧ (16 ≤ 15 ∨ w_loopTestPulse_none.loopLive (15 / 2) = false ∨ (w_loopTestPulse_none.estop 15).test = none ∨ (w_loopTestPulse_none.estop 15).test.any (fun (p : Nat) => w_loopTestPulse_none.ply != p + 5) = true)) ∧ (match exec (.loopTestPulse 15 true) w_loopTestPulse_none with
    | .next t => decide ((t = w_loopTestPulse_none))
    | _ => false) = true := by decide +kernel

def w_loopDiscrepancy : State := { wRun [(LOOP_CFG_EN, 0x80), (ROOK_STATE_STOP, 0), (ROOK_STATE_STOP, 1), (RELAY_STATUS_DRIVE, 0), (LOOP_CFG_DISC, 1)] with ply := 5000, rook := { State.reset.rook with enAt := [(7, 10)], disc := [(7, 4000)] } }

theorem test_loopDiscrepancy : ((w_loopDiscrepancy.stopSafe = true) ∧ (w_loopDiscrepancy.loopLive 7 = true) ∧ (heldFor w_loopDiscrepancy.rook.disc 7 w_loopDiscrepancy.ply (w_loopDiscrepancy.get LOOP_CFG_DISC * 1000) = true) ∧ (bitOf w_loopDiscrepancy.rook.dcBits 7 = false)) ∧ (match exec (.loopDiscrepancy 7) w_loopDiscrepancy with
    | .next t => decide ((StopOn 0 w_loopDiscrepancy t) ∧ (StopOn 4 w_loopDiscrepancy t) ∧ (t.rook.dcBits = setBit w_loopDiscrepancy.rook.dcBits 7) ∧ (t.rook.ltBits = w_loopDiscrepancy.rook.ltBits) ∧ (Reads t [(ROOK_FAULT_DISCREPANCY, 1), (ROOK_STATE_FAULT, 1), (ROOK_FAULT_LOOP, t.rook.ltBits ||| t.rook.dcBits)]) ∧ ((w_loopDiscrepancy.rst.held.contains .sys ∨ 64 ≤ w_loopDiscrepancy.evr.queue.length ∨ (t.evr.queue.dropLast = w_loopDiscrepancy.evr.queue ∧ t.evr.queue.getLast?.map (fun (r : Rec) => (r.ev, r.payload)) = some (Ev.rookFault, [2, 7])))) ∧ (t = State.faultLatched (State.enterStop (State.dropTests { w_loopDiscrepancy with rook := { w_loopDiscrepancy.rook with dcBits := setBit w_loopDiscrepancy.rook.dcBits 7 } } 7) 0) 2 7))
    | _ => false) = true := by decide +kernel

def w_loopDiscrepancy_none : State := { wRun [(LOOP_CFG_EN, 0x80), (ROOK_STATE_STOP, 0), (PCH_W5_STATE 9, 2)] with ply := 5000, rook := { State.reset.rook with enAt := [(7, 10)] } }

theorem test_loopDiscrepancy_none : ((w_loopDiscrepancy_none.stopSafe = true) ∧ (w_loopDiscrepancy_none.loopLive 7 = false ∨ heldFor w_loopDiscrepancy_none.rook.disc 7 w_loopDiscrepancy_none.ply (w_loopDiscrepancy_none.get LOOP_CFG_DISC * 1000) = false ∨ bitOf w_loopDiscrepancy_none.rook.dcBits 7 = true)) ∧ (match exec (.loopDiscrepancy 7) w_loopDiscrepancy_none with
    | .next t => decide ((t = w_loopDiscrepancy_none))
    | _ => false) = true := by decide +kernel

def w_relayFbMismatch : State := { wRun [(ROOK_STATE_STOP, 0), (RELAY_STATUS_DRIVE, 3), (RELAY_CFG_FB_MS, 50)] with ply := 5000, rook := { State.reset.rook with fbDiff := [(3, 0)] } }

theorem test_relayFbMismatch : ((w_relayFbMismatch.stopSafe = true) ∧ (3 < 4) ∧ (heldFor w_relayFbMismatch.rook.fbDiff 3 w_relayFbMismatch.ply (w_relayFbMismatch.get RELAY_CFG_FB_MS * 100) = true) ∧ (w_relayFbMismatch.rookHeld = false) ∧ (w_relayFbMismatch.getBit ROOK_FAULT_RELAY 3 = false)) ∧ (match exec (.relayFbMismatch 3) w_relayFbMismatch with
    | .next t => decide ((StopOn 4 w_relayFbMismatch t) ∧ (t.getBit ROOK_FAULT_RELAY 3 = true) ∧ (Reads t [(ROOK_FAULT_RELAY_FB, 1), (ROOK_STATE_FAULT, 1)]) ∧ ((w_relayFbMismatch.rst.held.contains .sys ∨ 64 ≤ w_relayFbMismatch.evr.queue.length ∨ (t.evr.queue.dropLast = w_relayFbMismatch.evr.queue ∧ t.evr.queue.getLast?.map (fun (r : Rec) => (r.ev, r.payload)) = some (Ev.rookFault, [3, 3])))) ∧ (t = State.faultLatched (State.putBit w_relayFbMismatch ROOK_FAULT_RELAY 3 true) 3 3))
    | _ => false) = true := by decide +kernel

theorem test_relayFbMismatch_none : ((wReset.stopSafe = true) ∧ (4 ≤ 3 ∨ heldFor wReset.rook.fbDiff 3 wReset.ply (wReset.get RELAY_CFG_FB_MS * 100) = false ∨ wReset.rookHeld = true ∨ wReset.getBit ROOK_FAULT_RELAY 3 = true)) ∧ (match exec (.relayFbMismatch 3) wReset with
    | .next t => decide ((t = wReset))
    | _ => false) = true := by decide +kernel

def w_rookSramUe : State := wRun [(ROOK_STATE_STOP, 0), (RELAY_STATUS_DRIVE, 3)]

theorem test_rookSramUe : ((w_rookSramUe.stopSafe = true) ∧ (2 < 3) ∧ (w_rookSramUe.rookHeld = false) ∧ (w_rookSramUe.bit ROOK_FAULT_SRAM_UE = false)) ∧ (match exec (.rookSramUe .rook 3) w_rookSramUe with
    | .next t => decide ((StopOn 4 w_rookSramUe t) ∧ (Reads t [(ROOK_FAULT_SRAM_UE, 1), (ROOK_STATE_FAULT, 1)]) ∧ ((w_rookSramUe.rst.held.contains .sys ∨ 64 ≤ w_rookSramUe.evr.queue.length ∨ (t.evr.queue.dropLast = w_rookSramUe.evr.queue ∧ t.evr.queue.getLast?.map (fun (r : Rec) => (r.ev, r.payload)) = some (Ev.rookFault, [0, 0])))) ∧ (t = State.faultLatched (w_rookSramUe.put ROOK_FAULT_SRAM_UE 1) 0 0))
    | _ => false) = true := by decide +kernel

def w_rookSramUe_corrected : State := wRun [(ROOK_STATE_STOP, 0), (RELAY_STATUS_DRIVE, 3)]

theorem test_rookSramUe_corrected : ((w_rookSramUe_corrected.stopSafe = true) ∧ (1 ≤ 2 ∧ 2 ≤ 2) ∧ (w_rookSramUe_corrected.rookHeld = false)) ∧ (match exec (.rookSramUe .rook 2) w_rookSramUe_corrected with
    | .next t => decide ((Reads t [(ROOK_CNT2_SRAM_CE, w_rookSramUe_corrected.adv ROOK_CNT2_SRAM_CE)]))
    | _ => false) = true := by decide +kernel

def w_rookSramUe_none : State := wRun [(ROOK_STATE_STOP, 0), (RELAY_STATUS_DRIVE, 3)]

theorem test_rookSramUe_none : ((w_rookSramUe_none.stopSafe = true) ∧ (0 = 0 ∨ w_rookSramUe_none.rookHeld = true ∨ (2 < 0 ∧ w_rookSramUe_none.bit ROOK_FAULT_SRAM_UE = true))) ∧ (match exec (.rookSramUe .rook 0) w_rookSramUe_none with
    | .next t => decide ((t = w_rookSramUe_none))
    | _ => false) = true := by decide +kernel

def w_rookSramUe_ce : State := wRun [(ROOK_STATE_STOP, 0), (RELAY_STATUS_DRIVE, 3)]

theorem test_rookSramUe_ce : ((w_rookSramUe_ce.stopSafe = true) ∧ ((.mp : SramMem) ≠ .rook) ∧ (1 ≤ 2 ∧ 2 ≤ 2)) ∧ (match exec (.rookSramUe (.mp : SramMem) 2) w_rookSramUe_ce with
    | .next t => decide ((Reads t [(ECC_SRAM_SRAM_CE, w_rookSramUe_ce.adv ECC_SRAM_SRAM_CE)]))
    | _ => false) = true := by decide +kernel

def w_rookSramUe_zero : State := wRun [(ROOK_STATE_STOP, 0), (RELAY_STATUS_DRIVE, 3)]

theorem test_rookSramUe_zero : ((w_rookSramUe_zero.stopSafe = true) ∧ ((.mp : SramMem) ≠ .rook)) ∧ (match exec (.rookSramUe (.mp : SramMem) 0) w_rookSramUe_zero with
    | .next t => decide ((t = w_rookSramUe_zero))
    | _ => false) = true := by decide +kernel

def w_rookSramUe_fix : State := wRun [(ROOK_STATE_STOP, 0), (RELAY_STATUS_DRIVE, 3)]

theorem test_rookSramUe_fix : ((w_rookSramUe_fix.stopSafe = true) ∧ (2 < 3)) ∧ (match exec (.rookSramUe (.fix (some 9 : Option Nat)) 3) w_rookSramUe_fix with
    | .next t => decide ((t.fix = { w_rookSramUe_fix.fix with resets := w_rookSramUe_fix.fix.resets ++ [(some 9 : Option Nat).getD 0xFF] }) ∧ (Reads t [(ECC_SRAM_SRAM_UE, w_rookSramUe_fix.adv ECC_SRAM_SRAM_UE)]) ∧ (t.evr = (w_rookSramUe_fix.record .sramUe ([1] ++ leBytes 2 ((some 9 : Option Nat).getD 0xFF))).evr))
    | _ => false) = true := by decide +kernel

def w_rookSramUe_hot : State := wRun [(ROOK_STATE_STOP, 0), (RELAY_STATUS_DRIVE, 3)]

theorem test_rookSramUe_hot : ((w_rookSramUe_hot.stopSafe = true) ∧ (2 < 3)) ∧ (match exec (.rookSramUe .hotStart 3) w_rookSramUe_hot with
    | .next t => decide ((t.pwr = { w_rookSramUe_hot.pwr with hotValid := false }) ∧ (Reads t [(ECC_SRAM_SRAM_UE, w_rookSramUe_hot.adv ECC_SRAM_SRAM_UE)]) ∧ (t.evr = (w_rookSramUe_hot.record .sramUe [2, 0, 0]).evr))
    | _ => false) = true := by decide +kernel

def w_rookSramUe_key : State := wRun [(KS_SLOT_W0_TYPE 7, 1)]

theorem test_rookSramUe_key : ((w_rookSramUe_key.stopSafe = true) ∧ (2 < 3) ∧ (7 < 128)) ∧ (match exec (.rookSramUe (.keySlot 7) 3) w_rookSramUe_key with
    | .next t => decide ((t = State.record (State.bump (State.emptySlot w_rookSramUe_key 7) ECC_SRAM_SRAM_UE) .sramUe ([3] ++ leBytes 2 7)) ∧ (Reads t [(KS_SLOT_W0_TYPE 7, 0)]))
    | _ => false) = true := by decide +kernel

def w_rookSramUe_mp : State := wRun [(ROOK_STATE_STOP, 0), (RELAY_STATUS_DRIVE, 3)]

theorem test_rookSramUe_mp : ((w_rookSramUe_mp.stopSafe = true) ∧ (2 < 3)) ∧ (match exec (.rookSramUe .mp 3) w_rookSramUe_mp with
    | .next t => decide ((Asserted 17 t) ∧ (t = State.record (State.bump (State.assertSource (ownerReset 0x31 w_rookSramUe_mp) 17 0) ECC_SRAM_SRAM_UE) .sramUe [4, 0, 0]))
    | _ => false) = true := by decide +kernel

def w_rookClockFault : State := { wRun [(ROOK_STATE_STOP, 0), (RELAY_STATUS_DRIVE, 3)] with rook := { State.reset.rook with rw1 := 111 } }

theorem test_rookClockFault : ((w_rookClockFault.stopSafe = true) ∧ (w_rookClockFault.rookHeld = false) ∧ (w_rookClockFault.rook.rw1 < 112 ∨ 208 < w_rookClockFault.rook.rw1) ∧ (209 < 112 ∨ 208 < 209) ∧ (w_rookClockFault.bit ROOK_FAULT_CLOCK = false)) ∧ (match exec (.rookClockFault 209) w_rookClockFault with
    | .next t => decide ((StopOn 4 w_rookClockFault t) ∧ (Reads t [(ROOK_FAULT_CLOCK, 1), (ROOK_STATE_FAULT, 1)]) ∧ ((w_rookClockFault.rst.held.contains .sys ∨ 64 ≤ w_rookClockFault.evr.queue.length ∨ (t.evr.queue.dropLast = w_rookClockFault.evr.queue ∧ t.evr.queue.getLast?.map (fun (r : Rec) => (r.ev, r.payload)) = some (Ev.rookFault, [5, 0])))) ∧ (t = State.faultLatched (w_rookClockFault.put ROOK_FAULT_CLOCK 1) 5 0))
    | _ => false) = true := by decide +kernel

def w_rookClockFault_once : State := { wRun [] with rook := { State.reset.rook with rw1 := 111 } }

theorem test_rookClockFault_once : ((w_rookClockFault_once.stopSafe = true) ∧ (w_rookClockFault_once.rookHeld = true ∨ (112 ≤ w_rookClockFault_once.rook.rw1 ∧ w_rookClockFault_once.rook.rw1 ≤ 208) ∨ (112 ≤ 208 ∧ 208 ≤ 208) ∨ w_rookClockFault_once.bit ROOK_FAULT_CLOCK = true)) ∧ (match exec (.rookClockFault 208) w_rookClockFault_once with
    | .next t => decide ((t = w_rookClockFault_once))
    | _ => false) = true := by decide +kernel

def w_lockstepMismatch : State := wRun [(ROOK_STATE_STOP, 0), (ROOK_STATE_HALTED, 0), (RELAY_STATUS_DRIVE, 3), (PCH_W5_STATE 9, 2)]

theorem test_lockstepMismatch : ((w_lockstepMismatch.stopSafe = true) ∧ (w_lockstepMismatch.rookHeld = false) ∧ (w_lockstepMismatch.bit ROOK_STATE_HALTED = false)) ∧ (match exec (.lockstepMismatch) w_lockstepMismatch with
    | .next t => decide ((Asserted 8 t) ∧ (Reads t [(ROOK_STATE_STOP, 1), (ROOK_STATE_SRC_LATCHED, 0x40), (RELAY_STATUS_DRIVE, 0), (ROOK_CNT_STOP_EVENTS, 0)]) ∧ (t.rook.rep = t.stopAllLeft) ∧ (allAddrs.all (fun a => w_lockstepMismatch.pchState a == 0 || w_lockstepMismatch.pchState a == 7 || t.pchState a == 6) = true) ∧ (t = (let z := w_lockstepMismatch.assertSource 8 0; State.stopAllChannels { z with rook := { z.rook with rep := z.stopAllLeft } })))
    | _ => false) = true := by decide +kernel

def w_lockstepMismatch_halted : State := wRun [(ROOK_STATE_HALTED, 1)]

theorem test_lockstepMismatch_halted : ((w_lockstepMismatch_halted.stopSafe = true) ∧ (w_lockstepMismatch_halted.rookHeld = true ∨ w_lockstepMismatch_halted.bit ROOK_STATE_HALTED = true)) ∧ (match exec (.lockstepMismatch) w_lockstepMismatch_halted with
    | .next t => decide ((t = w_lockstepMismatch_halted))
    | _ => false) = true := by decide +kernel

def w_rookWdogExpiry : State := { wRun [(ROOK_STATE_STOP, 0)] with rook := { State.reset.rook with wdogOn := true, wdog := 159000 } }

theorem test_rookWdogExpiry : ((w_rookWdogExpiry.stopSafe = true) ∧ (w_rookWdogExpiry.rookHeld = false) ∧ (w_rookWdogExpiry.rook.wdogOn = true) ∧ (w_rookWdogExpiry.get WDOG_CFG_TIMEOUT * 1024 ≤ w_rookWdogExpiry.rook.wdog + 744)) ∧ (match exec (.rookWdogExpiry 744) w_rookWdogExpiry with
    | .next t => decide ((Asserted 9 t) ∧ (Reads t [(ROOK_STATE_STOP, 1), (ROOK_STATE_SRC_LATCHED, 0x40), (RELAY_STATUS_DRIVE, 0), (ROOK_CNT_STOP_EVENTS, 0)]) ∧ (t.rook.rep = t.stopAllLeft) ∧ (allAddrs.all (fun a => w_rookWdogExpiry.pchState a == 0 || w_rookWdogExpiry.pchState a == 7 || t.pchState a == 6) = true) ∧ (t = (let z := w_rookWdogExpiry.assertSource 9 0; State.stopAllChannels { z with rook := { z.rook with rep := z.stopAllLeft } })))
    | _ => false) = true := by decide +kernel

def w_rookWdogExpiry_none : State := { wRun [(ROOK_STATE_STOP, 0)] with rook := { State.reset.rook with wdogOn := true, wdog := 159000 } }

theorem test_rookWdogExpiry_none : ((w_rookWdogExpiry_none.stopSafe = true) ∧ (w_rookWdogExpiry_none.rookHeld = true ∨ w_rookWdogExpiry_none.rook.wdogOn = false ∨ w_rookWdogExpiry_none.rook.wdog + 743 < w_rookWdogExpiry_none.get WDOG_CFG_TIMEOUT * 1024)) ∧ (match exec (.rookWdogExpiry 743) w_rookWdogExpiry_none with
    | .next t => decide ((t = w_rookWdogExpiry_none))
    | _ => false) = true := by decide +kernel

def w_wdogSvcWrite : State := { wRun [] with rook := { State.reset.rook with wdogOn := true } }

theorem test_wdogSvcWrite : ((w_wdogSvcWrite.stopSafe = true) ∧ (w_wdogSvcWrite.judge 0x30 0x40500034 true = .ok) ∧ (w_wdogSvcWrite.rook.wdogOn = true) ∧ (0x1C35A % 65536 = 0xC35A) ∧ (w_wdogSvcWrite.rook.svc = false)) ∧ (match exec (.wdogSvcWrite 0x30 0x1C35A) w_wdogSvcWrite with
    | .next t => decide ((t.rook = { w_wdogSvcWrite.rook with svc := true }))
    | _ => false) = true := by decide +kernel

def w_wdogSvcWrite_served : State := { wRun [(WDOG_CFG_MIN, 10)] with rook := { State.reset.rook with wdogOn := true, svc := true, wdog := 10240 } }

theorem test_wdogSvcWrite_served : ((w_wdogSvcWrite_served.stopSafe = true) ∧ (w_wdogSvcWrite_served.judge 0x30 0x40500034 true = .ok) ∧ (w_wdogSvcWrite_served.rook.wdogOn = true) ∧ (0x3CA5 % 65536 = 0x3CA5) ∧ (w_wdogSvcWrite_served.rook.svc = true) ∧ (w_wdogSvcWrite_served.get WDOG_CFG_MIN * 1024 ≤ w_wdogSvcWrite_served.rook.wdog)) ∧ (match exec (.wdogSvcWrite 0x30 0x3CA5) w_wdogSvcWrite_served with
    | .next t => decide ((t.rook = { w_wdogSvcWrite_served.rook with svc := false, wdog := 0 }))
    | _ => false) = true := by decide +kernel

def w_wdogSvcWrite_expired : State := { wRun [(WDOG_CFG_MIN, 10)] with rook := { State.reset.rook with wdogOn := true, svc := true, wdog := 10239 } }

theorem test_wdogSvcWrite_expired : ((w_wdogSvcWrite_expired.stopSafe = true) ∧ (w_wdogSvcWrite_expired.judge 0x30 0x40500034 true = .ok) ∧ (w_wdogSvcWrite_expired.rook.wdogOn = true) ∧ ((0x3CA5 % 65536 ≠ 0xC35A ∨ w_wdogSvcWrite_expired.rook.svc = true) ∧ (0x3CA5 % 65536 ≠ 0x3CA5 ∨ w_wdogSvcWrite_expired.rook.svc = false ∨ w_wdogSvcWrite_expired.rook.wdog < w_wdogSvcWrite_expired.get WDOG_CFG_MIN * 1024))) ∧ (match exec (.wdogSvcWrite 0x30 0x3CA5) w_wdogSvcWrite_expired with
    | .next t => decide ((Asserted 9 t) ∧ (Reads t [(ROOK_STATE_STOP, 1), (ROOK_STATE_SRC_LATCHED, 0x40), (RELAY_STATUS_DRIVE, 0), (ROOK_CNT_STOP_EVENTS, 0)]) ∧ (t.rook.rep = t.stopAllLeft) ∧ (allAddrs.all (fun a => w_wdogSvcWrite_expired.pchState a == 0 || w_wdogSvcWrite_expired.pchState a == 7 || t.pchState a == 6) = true) ∧ (t = (let z := w_wdogSvcWrite_expired.assertSource 9 0; State.stopAllChannels { z with rook := { z.rook with rep := z.stopAllLeft } })))
    | _ => false) = true := by decide +kernel

def w_wdogSvcWrite_off : State := wRun []

theorem test_wdogSvcWrite_off : ((w_wdogSvcWrite_off.stopSafe = true) ∧ (w_wdogSvcWrite_off.judge 0x30 0x40500034 true = .ok) ∧ (w_wdogSvcWrite_off.rook.wdogOn = false)) ∧ (match exec (.wdogSvcWrite 0x30 0x3CA5) w_wdogSvcWrite_off with
    | .next t => decide ((t = w_wdogSvcWrite_off))
    | _ => false) = true := by decide +kernel

def w_releaseEvaluation : State := { wRun [(ROOK_STATE_STOP, 1), (ROOK_STATE_SRC_LATCHED, 0x42), (ROOK_STATE_HALTED, 0), (RELAY_CFG_EN, 5)] with ply := 5000, rook := { State.reset.rook with rep := [(1, 2)], srcPly := some 4000, release := [⟨2, 4999, true, none, 0⟩, ⟨1, 5000, false, none, 1⟩] } }

theorem test_releaseEvaluation : ((w_releaseEvaluation.stopSafe = true) ∧ (w_releaseEvaluation.rook.release.filter (fun (q : StopReq) => decide (q.ply < w_releaseEvaluation.ply)) = [(⟨2, 4999, true, none, 0⟩ : StopReq)]) ∧ ((⟨2, 4999, true, none, 0⟩ : StopReq).req = none) ∧ ((⟨2, 4999, true, none, 0⟩ : StopReq).ini < 64) ∧ (w_releaseEvaluation.stopped = true) ∧ (w_releaseEvaluation.blockers (⟨2, 4999, true, none, 0⟩ : StopReq).ignorePair = 0)) ∧ (match exec (.releaseEvaluation) w_releaseEvaluation with
    | .next t => decide ((Reads t [(ROOK_STATE_STOP, 0), (ROOK_STATE_SRC_LATCHED, 0), (STOP_PORT_RES_RESULT (⟨2, 4999, true, none, 0⟩ : StopReq).ini, 0), (STOP_PORT_RES_BLOCKERS (⟨2, 4999, true, none, 0⟩ : StopReq).ini, 0), (RELAY_STATUS_DRIVE, w_releaseEvaluation.get RELAY_STATUS_DRIVE)]) ∧ (t.rook = { w_releaseEvaluation.rook with release := w_releaseEvaluation.rook.release.filter (fun (q : StopReq) => !decide (q.ply < w_releaseEvaluation.ply)), rep := [], raiseAt := some (w_releaseEvaluation.ply + 1) }) ∧ ((w_releaseEvaluation.rst.held.contains .sys ∨ 64 ≤ w_releaseEvaluation.evr.queue.length ∨ t.evr.queue.getLast?.map (fun (x : Rec) => x.ev) = some Ev.stopRelease)))
    | _ => false) = true := by decide +kernel

def w_releaseEvaluation_blocked : State := { wRun [(LOOP_CFG_EN, 0x81), (ROOK_FAULT_RELAY, 0x3), (ROOK_FAULT_LOG_MEDIA, 1), (ROOK_FAULT_CLOCK, 1), (ROOK_FAULT_SRAM_UE, 1), (RELAY_CFG_EN, 0)] with ply := 5000, rook := { State.reset.rook with sns := 0xC001, fb := 2, ltBits := 0x81, dcBits := 0x80, clear := [⟨2, 4999, false, none, 0⟩, ⟨1, 5000, false, none, 1⟩], release := [⟨2, 4999, false, none, 0⟩, ⟨1, 5000, false, none, 1⟩] } }

theorem test_releaseEvaluation_blocked : ((w_releaseEvaluation_blocked.stopSafe = true) ∧ (w_releaseEvaluation_blocked.rook.release.filter (fun (q : StopReq) => decide (q.ply < w_releaseEvaluation_blocked.ply)) = [(⟨2, 4999, false, none, 0⟩ : StopReq)]) ∧ ((⟨2, 4999, false, none, 0⟩ : StopReq).req = none) ∧ ((⟨2, 4999, false, none, 0⟩ : StopReq).ini < 64) ∧ (w_releaseEvaluation_blocked.blockers (⟨2, 4999, false, none, 0⟩ : StopReq).ignorePair ≠ 0)) ∧ (match exec (.releaseEvaluation) w_releaseEvaluation_blocked with
    | .next t => decide ((Reads t [(STOP_PORT_RES_RESULT (⟨2, 4999, false, none, 0⟩ : StopReq).ini, 2), (STOP_PORT_RES_BLOCKERS (⟨2, 4999, false, none, 0⟩ : StopReq).ini, w_releaseEvaluation_blocked.blockers (⟨2, 4999, false, none, 0⟩ : StopReq).ignorePair), (ROOK_STATE_STOP, w_releaseEvaluation_blocked.get ROOK_STATE_STOP)]) ∧ (t.rook = { w_releaseEvaluation_blocked.rook with release := w_releaseEvaluation_blocked.rook.release.filter (fun (q : StopReq) => !decide (q.ply < w_releaseEvaluation_blocked.ply)) }))
    | _ => false) = true := by decide +kernel

def w_releaseEvaluation_released : State := { wRun [(ROOK_STATE_STOP, 0), (ROOK_STATE_SRC_LATCHED, 0x42), (ROOK_STATE_HALTED, 0), (RELAY_CFG_EN, 5)] with ply := 5000, rook := { State.reset.rook with rep := [(1, 2)], srcPly := some 4000, release := [⟨2, 4999, true, none, 0⟩, ⟨1, 5000, false, none, 1⟩] } }

theorem test_releaseEvaluation_released : ((w_releaseEvaluation_released.stopSafe = true) ∧ (w_releaseEvaluation_released.rook.release.filter (fun (q : StopReq) => decide (q.ply < w_releaseEvaluation_released.ply)) = [(⟨2, 4999, true, none, 0⟩ : StopReq)]) ∧ ((⟨2, 4999, true, none, 0⟩ : StopReq).req = none) ∧ ((⟨2, 4999, true, none, 0⟩ : StopReq).ini < 64) ∧ (w_releaseEvaluation_released.blockers (⟨2, 4999, true, none, 0⟩ : StopReq).ignorePair = 0) ∧ (w_releaseEvaluation_released.stopped = false)) ∧ (match exec (.releaseEvaluation) w_releaseEvaluation_released with
    | .next t => decide ((Reads t [(STOP_PORT_RES_RESULT (⟨2, 4999, true, none, 0⟩ : StopReq).ini, 0), (STOP_PORT_RES_BLOCKERS (⟨2, 4999, true, none, 0⟩ : StopReq).ini, 0)]) ∧ (t.rook = { w_releaseEvaluation_released.rook with release := w_releaseEvaluation_released.rook.release.filter (fun (q : StopReq) => !decide (q.ply < w_releaseEvaluation_released.ply)) }))
    | _ => false) = true := by decide +kernel

def w_releaseEvaluation_all : State := { wRun [(LOOP_CFG_EN, 0x81), (ROOK_FAULT_RELAY, 0x3), (ROOK_FAULT_LOG_MEDIA, 1), (ROOK_FAULT_CLOCK, 1), (ROOK_FAULT_SRAM_UE, 1), (RELAY_CFG_EN, 0)] with ply := 5000, rook := { State.reset.rook with sns := 0xC001, fb := 2, ltBits := 0x81, dcBits := 0x80, clear := [⟨2, 4999, false, none, 0⟩, ⟨1, 5000, false, none, 1⟩], release := [⟨2, 4999, false, none, 0⟩, ⟨1, 5000, false, none, 1⟩] } }

theorem test_releaseEvaluation_all : ((w_releaseEvaluation_all.stopSafe = true)) ∧ (match exec (.releaseEvaluation) w_releaseEvaluation_all with
    | .next t => decide ((t = (w_releaseEvaluation_all.rook.release.filter (fun (q : StopReq) => decide (q.ply < w_releaseEvaluation_all.ply))).foldl State.evalRelease { w_releaseEvaluation_all with rook := { w_releaseEvaluation_all.rook with release := w_releaseEvaluation_all.rook.release.filter (fun (q : StopReq) => !decide (q.ply < w_releaseEvaluation_all.ply)) } }))
    | _ => false) = true := by decide +kernel

def w_relayRaise : State := { wRun [(ROOK_STATE_STOP, 0), (RELAY_CFG_EN, 5)] with ply := 5001, rook := { State.reset.rook with raiseAt := some 5001 } }

theorem test_relayRaise : ((w_relayRaise.stopSafe = true) ∧ (w_relayRaise.rook.raiseAt = some 5001) ∧ (5001 ≤ w_relayRaise.ply) ∧ (w_relayRaise.rookHeld = false) ∧ (w_relayRaise.stopped = false)) ∧ (match exec (.relayRaise) w_relayRaise with
    | .next t => decide ((Reads t [(RELAY_STATUS_DRIVE, w_relayRaise.get RELAY_CFG_EN)]) ∧ (t.rook = { w_relayRaise.rook with raiseAt := none }))
    | _ => false) = true := by decide +kernel

def w_relayRaise_stopped : State := { wRun [(ROOK_STATE_STOP, 1), (RELAY_CFG_EN, 5)] with ply := 5001, rook := { State.reset.rook with raiseAt := some 5001 } }

theorem test_relayRaise_stopped : ((w_relayRaise_stopped.stopSafe = true) ∧ (w_relayRaise_stopped.rook.raiseAt = some 5001) ∧ (5001 ≤ w_relayRaise_stopped.ply) ∧ (w_relayRaise_stopped.rookHeld = true ∨ w_relayRaise_stopped.stopped = true)) ∧ (match exec (.relayRaise) w_relayRaise_stopped with
    | .next t => decide ((t.rook = { w_relayRaise_stopped.rook with raiseAt := none }))
    | _ => false) = true := by decide +kernel

def w_relayRaise_early : State := { wRun [(ROOK_STATE_STOP, 0), (RELAY_CFG_EN, 5)] with ply := 5000, rook := { State.reset.rook with raiseAt := some 5001 } }

theorem test_relayRaise_early : ((w_relayRaise_early.stopSafe = true) ∧ (w_relayRaise_early.rook.raiseAt = none ∨ w_relayRaise_early.rook.raiseAt.any (fun (p : Nat) => decide (w_relayRaise_early.ply < p)) = true)) ∧ (match exec (.relayRaise) w_relayRaise_early with
    | .next t => decide ((t = w_relayRaise_early))
    | _ => false) = true := by decide +kernel

def w_faultClearEvaluation : State := { wRun [(LOOP_CFG_EN, 0x81), (ROOK_FAULT_RELAY, 0x3), (ROOK_FAULT_LOG_MEDIA, 1), (ROOK_FAULT_CLOCK, 1), (ROOK_FAULT_SRAM_UE, 1), (RELAY_CFG_EN, 0)] with ply := 5000, rook := { State.reset.rook with sns := 0xC001, fb := 2, ltBits := 0x81, dcBits := 0x80, clear := [⟨2, 4999, false, none, 0⟩, ⟨1, 5000, false, none, 1⟩], release := [⟨2, 4999, false, none, 0⟩, ⟨1, 5000, false, none, 1⟩] } }

theorem test_faultClearEvaluation : ((w_faultClearEvaluation.stopSafe = true) ∧ (w_faultClearEvaluation.rook.clear.filter (fun (q : StopReq) => decide (q.ply < w_faultClearEvaluation.ply)) = [(⟨2, 4999, false, none, 0⟩ : StopReq)]) ∧ ((⟨2, 4999, false, none, 0⟩ : StopReq).req = none) ∧ ((⟨2, 4999, false, none, 0⟩ : StopReq).ini < 64)) ∧ (match exec (.faultClearEvaluation) w_faultClearEvaluation with
    | .next t => decide ((((List.range 8).all (fun n => bitOf t.rook.ltBits n == (bitOf w_faultClearEvaluation.rook.ltBits n && !((bitOf 0xFFFFFFFF (8 + n) || bitOf 0xFFFFFFFF 1) && w_faultClearEvaluation.readsClosed (2 * n) && w_faultClearEvaluation.readsClosed (2 * n + 1)))) = true)) ∧ (((List.range 8).all (fun n => bitOf t.rook.dcBits n == (bitOf w_faultClearEvaluation.rook.dcBits n && !((bitOf 0xFFFFFFFF (8 + n) || bitOf 0xFFFFFFFF 2) && w_faultClearEvaluation.readsClosed (2 * n) == w_faultClearEvaluation.readsClosed (2 * n + 1)))) = true)) ∧ (((List.range 4).all (fun n => t.getBit ROOK_FAULT_RELAY n == (w_faultClearEvaluation.getBit ROOK_FAULT_RELAY n && !((bitOf 0xFFFFFFFF (16 + n) || bitOf 0xFFFFFFFF 3) && w_faultClearEvaluation.energised n == w_faultClearEvaluation.getBit RELAY_STATUS_DRIVE n))) = true)) ∧ (Reads t [(ROOK_FAULT_SRAM_UE, w_faultClearEvaluation.get ROOK_FAULT_SRAM_UE), (ROOK_FAULT_LOG_MEDIA, if bitOf 0xFFFFFFFF 4 && !w_faultClearEvaluation.bit REC_STATUS_MAIN_FAULT then 0 else w_faultClearEvaluation.get ROOK_FAULT_LOG_MEDIA), (ROOK_FAULT_CLOCK, if bitOf 0xFFFFFFFF 5 && !rwdogBad w_faultClearEvaluation.rook.rw0 && !rwdogBad w_faultClearEvaluation.rook.rw1 then 0 else w_faultClearEvaluation.get ROOK_FAULT_CLOCK), (ROOK_FAULT_LOOP, t.rook.ltBits ||| t.rook.dcBits), (ROOK_FAULT_LOOP_TEST, b2n (t.rook.ltBits != 0)), (ROOK_FAULT_DISCREPANCY, b2n (t.rook.dcBits != 0)), (ROOK_FAULT_RELAY_FB, b2n (t.get ROOK_FAULT_RELAY != 0)), (ROOK_STATE_FAULT, b2n t.anyFault)]) ∧ ((List.range 16).all (fun j => decide (t.estop j = { w_faultClearEvaluation.estop j with tested := (w_faultClearEvaluation.estop j).tested && bitOf t.rook.ltBits (j / 2) == bitOf w_faultClearEvaluation.rook.ltBits (j / 2) && bitOf t.rook.dcBits (j / 2) == bitOf w_faultClearEvaluation.rook.dcBits (j / 2) })) = true) ∧ (Reads t [(STOP_PORT_RES_RESULT (⟨2, 4999, false, none, 0⟩ : StopReq).ini, 0), (STOP_PORT_RES_BLOCKERS (⟨2, 4999, false, none, 0⟩ : StopReq).ini, 0)]) ∧ (t.rook = { w_faultClearEvaluation.rook with ltBits := t.rook.ltBits, dcBits := t.rook.dcBits, ch := t.rook.ch, clear := w_faultClearEvaluation.rook.clear.filter (fun (q : StopReq) => !decide (q.ply < w_faultClearEvaluation.ply)) }))
    | _ => false) = true := by decide +kernel

def w_faultClearEvaluation_all : State := { wRun [(LOOP_CFG_EN, 0x81), (ROOK_FAULT_RELAY, 0x3), (ROOK_FAULT_LOG_MEDIA, 1), (ROOK_FAULT_CLOCK, 1), (ROOK_FAULT_SRAM_UE, 1), (RELAY_CFG_EN, 0)] with ply := 5000, rook := { State.reset.rook with sns := 0xC001, fb := 2, ltBits := 0x81, dcBits := 0x80, clear := [⟨2, 4999, false, none, 0⟩, ⟨1, 5000, false, none, 1⟩], release := [⟨2, 4999, false, none, 0⟩, ⟨1, 5000, false, none, 1⟩] } }

theorem test_faultClearEvaluation_all : ((w_faultClearEvaluation_all.stopSafe = true)) ∧ (match exec (.faultClearEvaluation) w_faultClearEvaluation_all with
    | .next t => decide ((t = (w_faultClearEvaluation_all.rook.clear.filter (fun (q : StopReq) => decide (q.ply < w_faultClearEvaluation_all.ply))).foldl State.evalClear { w_faultClearEvaluation_all with rook := { w_faultClearEvaluation_all.rook with clear := w_faultClearEvaluation_all.rook.clear.filter (fun (q : StopReq) => !decide (q.ply < w_faultClearEvaluation_all.ply)) } }))
    | _ => false) = true := by decide +kernel

def w_rookFaultWrite : State := { wRun [(LOOP_CFG_EN, 0x81), (ROOK_FAULT_RELAY, 0x3), (ROOK_FAULT_LOG_MEDIA, 1), (ROOK_FAULT_CLOCK, 1), (ROOK_FAULT_SRAM_UE, 1), (RELAY_CFG_EN, 0)] with ply := 5000, rook := { State.reset.rook with sns := 0xC001, fb := 2, ltBits := 0x81, dcBits := 0x80, clear := [⟨2, 4999, false, none, 0⟩, ⟨1, 5000, false, none, 1⟩], release := [⟨2, 4999, false, none, 0⟩, ⟨1, 5000, false, none, 1⟩] } }

theorem test_rookFaultWrite : ((w_rookFaultWrite.stopSafe = true) ∧ (w_rookFaultWrite.judge 0x30 0x40500004 true = .ok)) ∧ (match exec (.rookFaultWrite 0x30 0x00010102) w_rookFaultWrite with
    | .next t => decide ((((List.range 8).all (fun n => bitOf t.rook.ltBits n == (bitOf w_rookFaultWrite.rook.ltBits n && !((bitOf 0x00010102 (8 + n) || bitOf 0x00010102 1) && w_rookFaultWrite.readsClosed (2 * n) && w_rookFaultWrite.readsClosed (2 * n + 1)))) = true)) ∧ (((List.range 8).all (fun n => bitOf t.rook.dcBits n == (bitOf w_rookFaultWrite.rook.dcBits n && !((bitOf 0x00010102 (8 + n) || bitOf 0x00010102 2) && w_rookFaultWrite.readsClosed (2 * n) == w_rookFaultWrite.readsClosed (2 * n + 1)))) = true)) ∧ (((List.range 4).all (fun n => t.getBit ROOK_FAULT_RELAY n == (w_rookFaultWrite.getBit ROOK_FAULT_RELAY n && !((bitOf 0x00010102 (16 + n) || bitOf 0x00010102 3) && w_rookFaultWrite.energised n == w_rookFaultWrite.getBit RELAY_STATUS_DRIVE n))) = true)) ∧ (Reads t [(ROOK_FAULT_SRAM_UE, w_rookFaultWrite.get ROOK_FAULT_SRAM_UE), (ROOK_FAULT_LOG_MEDIA, if bitOf 0x00010102 4 && !w_rookFaultWrite.bit REC_STATUS_MAIN_FAULT then 0 else w_rookFaultWrite.get ROOK_FAULT_LOG_MEDIA), (ROOK_FAULT_CLOCK, if bitOf 0x00010102 5 && !rwdogBad w_rookFaultWrite.rook.rw0 && !rwdogBad w_rookFaultWrite.rook.rw1 then 0 else w_rookFaultWrite.get ROOK_FAULT_CLOCK), (ROOK_FAULT_LOOP, t.rook.ltBits ||| t.rook.dcBits), (ROOK_FAULT_LOOP_TEST, b2n (t.rook.ltBits != 0)), (ROOK_FAULT_DISCREPANCY, b2n (t.rook.dcBits != 0)), (ROOK_FAULT_RELAY_FB, b2n (t.get ROOK_FAULT_RELAY != 0)), (ROOK_STATE_FAULT, b2n t.anyFault)]) ∧ ((List.range 16).all (fun j => decide (t.estop j = { w_rookFaultWrite.estop j with tested := (w_rookFaultWrite.estop j).tested && bitOf t.rook.ltBits (j / 2) == bitOf w_rookFaultWrite.rook.ltBits (j / 2) && bitOf t.rook.dcBits (j / 2) == bitOf w_rookFaultWrite.rook.dcBits (j / 2) })) = true) ∧ (t.rook = { w_rookFaultWrite.rook with ltBits := t.rook.ltBits, dcBits := t.rook.dcBits, ch := t.rook.ch, svc := (if 0x30 = 0x30 then false else w_rookFaultWrite.rook.svc) }))
    | _ => false) = true := by decide +kernel

def w_stopPortStop : State := wRun [(PAIR_STATUS_ACTIVE, 1), (ROOK_STATE_STOP, 0), (ROOK_STATE_SRC_LATCHED, 0), (RELAY_STATUS_DRIVE, 5), (LANE_CFG_EN 4, 1), (LANE_CFG_EN 2, 1), (LANE_CFG_RATE 4, 1), (ROOK_SEQ_SSEQ, 255), (PCH_W5_STATE 9, 2), (MSTOP_MEMBERS 0, 0x101), (STOP_PORT_RES_RESULT 2, 7)]

theorem test_stopPortStop : ((w_stopPortStop.stopSafe = true) ∧ (Own.stopPort.names 2 = true) ∧ (2 < 64) ∧ (w_stopPortStop.judge 2 0x40000900 true = .ok) ∧ (bits 0x4B52FF01 2 0 = 1) ∧ (bits 0x4B52FF01 31 16 = 0x4B52) ∧ (w_stopPortStop.rookHeld = false) ∧ (bits 0x4B52FF01 15 8 = 0xFF)) ∧ (match exec (.stopPortStop 2 0x4B52FF01) w_stopPortStop with
    | .next t => decide ((StopOn 1 w_stopPortStop t) ∧ (Reads t [(STOP_PORT_RES_RESULT 2, 0), (STOP_PORT_RES_BLOCKERS 2, 0)]) ∧ (t = State.puts (State.enterStop w_stopPortStop 1) [(STOP_PORT_RES_RESULT 2, 0), (STOP_PORT_RES_BLOCKERS 2, 0)]))
    | _ => false) = true := by decide +kernel

def w_stopPortStop_member : State := wRun [(PAIR_STATUS_ACTIVE, 1), (ROOK_STATE_STOP, 0), (ROOK_STATE_SRC_LATCHED, 0), (RELAY_STATUS_DRIVE, 5), (LANE_CFG_EN 4, 1), (LANE_CFG_EN 2, 1), (LANE_CFG_RATE 4, 1), (ROOK_SEQ_SSEQ, 255), (PCH_W5_STATE 9, 2), (MSTOP_MEMBERS 0, 0x101), (STOP_PORT_RES_RESULT 2, 7)]

theorem test_stopPortStop_member : ((w_stopPortStop_member.stopSafe = true) ∧ (Own.stopPort.names 2 = true) ∧ (2 < 64) ∧ (w_stopPortStop_member.judge 2 0x40000900 true = .ok) ∧ (bits 0x4B520901 2 0 = 1) ∧ (bits 0x4B520901 31 16 = 0x4B52) ∧ (w_stopPortStop_member.rookHeld = false) ∧ (bits 0x4B520901 15 8 ≠ 0xFF) ∧ (stopTargetOk (bits 0x4B520901 15 8) = true) ∧ (w_stopPortStop_member.targets (bits 0x4B520901 15 8) ≠ [])) ∧ (match exec (.stopPortStop 2 0x4B520901) w_stopPortStop_member with
    | .next t => decide (((w_stopPortStop_member.targets (bits 0x4B520901 15 8)).all t.mstop = true) ∧ (t.rook = { w_stopPortStop_member.rook with mstops := w_stopPortStop_member.rook.mstops ++ [{ cmd := 1, sseq := none, target := (bits 0x4B520901 15 8), members := w_stopPortStop_member.targets (bits 0x4B520901 15 8), left := w_stopPortStop_member.laneLeft w_stopPortStop_member.stopRepeat }], srcPly := some w_stopPortStop_member.ply, mstopPly := w_stopPortStop_member.rook.mstopPly.filter (fun (e : Nat × Nat) => e.2 == w_stopPortStop_member.ply) ++ (w_stopPortStop_member.targets (bits 0x4B520901 15 8)).map (fun (a : Nat) => (a, w_stopPortStop_member.ply)) }) ∧ (Reads t [(ROOK_STATE_STOP, w_stopPortStop_member.get ROOK_STATE_STOP), (ROOK_STATE_SRC_LATCHED, w_stopPortStop_member.get ROOK_STATE_SRC_LATCHED), (RELAY_STATUS_DRIVE, w_stopPortStop_member.get RELAY_STATUS_DRIVE), (ROOK_CNT_STOP_EVENTS, w_stopPortStop_member.get ROOK_CNT_STOP_EVENTS)]) ∧ ((w_stopPortStop_member.targets (bits 0x4B520901 15 8)).all (fun a => w_stopPortStop_member.pchState a == 0 || w_stopPortStop_member.pchState a == 7 || t.pchState a == 6) = true) ∧ (Reads t [(STOP_PORT_RES_RESULT 2, 0), (STOP_PORT_RES_BLOCKERS 2, 0)]) ∧ (t = State.puts (State.memberStop w_stopPortStop_member (bits 0x4B520901 15 8)) [(STOP_PORT_RES_RESULT 2, 0), (STOP_PORT_RES_BLOCKERS 2, 0)]))
    | _ => false) = true := by decide +kernel

def w_stopPortStop_nobody : State := wRun [(PAIR_STATUS_ACTIVE, 1), (ROOK_STATE_STOP, 0), (ROOK_STATE_SRC_LATCHED, 0), (RELAY_STATUS_DRIVE, 5), (LANE_CFG_EN 4, 1), (LANE_CFG_EN 2, 1), (LANE_CFG_RATE 4, 1), (ROOK_SEQ_SSEQ, 255), (PCH_W5_STATE 9, 2), (MSTOP_MEMBERS 0, 0x101), (STOP_PORT_RES_RESULT 2, 7)]

theorem test_stopPortStop_nobody : ((w_stopPortStop_nobody.stopSafe = true) ∧ (Own.stopPort.names 2 = true) ∧ (2 < 64) ∧ (w_stopPortStop_nobody.judge 2 0x40000900 true = .ok) ∧ (bits 0x4B52D301 2 0 = 1) ∧ (bits 0x4B52D301 31 16 = 0x4B52) ∧ (w_stopPortStop_nobody.rookHeld = false) ∧ (bits 0x4B52D301 15 8 ≠ 0xFF) ∧ (stopTargetOk (bits 0x4B52D301 15 8) = true) ∧ (w_stopPortStop_nobody.targets (bits 0x4B52D301 15 8) = [])) ∧ (match exec (.stopPortStop 2 0x4B52D301) w_stopPortStop_nobody with
    | .next t => decide ((Reads t [(STOP_PORT_RES_RESULT 2, 0), (STOP_PORT_RES_BLOCKERS 2, 0)]))
    | _ => false) = true := by decide +kernel

def w_stopPortStop_ignored : State := wRun [(PAIR_STATUS_ACTIVE, 1), (ROOK_STATE_STOP, 0), (ROOK_STATE_SRC_LATCHED, 0), (RELAY_STATUS_DRIVE, 5), (LANE_CFG_EN 4, 1), (LANE_CFG_EN 2, 1), (LANE_CFG_RATE 4, 1), (ROOK_SEQ_SSEQ, 255), (PCH_W5_STATE 9, 2), (MSTOP_MEMBERS 0, 0x101), (STOP_PORT_RES_RESULT 2, 7)]

theorem test_stopPortStop_ignored : ((w_stopPortStop_ignored.stopSafe = true) ∧ (0x1F ≠ 0x30) ∧ (Own.stopPort.names 0x1F = false ∨ bits 0x4B53FF01 2 0 ≠ 1 ∨ w_stopPortStop_ignored.judge 0x1F 0x40000900 true = .badAddr ∨ w_stopPortStop_ignored.judge 0x1F 0x40000900 true = .off ∨ (w_stopPortStop_ignored.judge 0x1F 0x40000900 true = .ok ∧ 0x1F ≠ 0x30 ∧ (bits 0x4B53FF01 31 16 ≠ 0x4B52 ∨ stopTargetOk (bits 0x4B53FF01 15 8) = false)))) ∧ (match exec (.stopPortStop 0x1F 0x4B53FF01) w_stopPortStop_ignored with
    | .next t => decide ((t = w_stopPortStop_ignored))
    | _ => false) = true := by decide +kernel

def w_stopPortStop_held : State := { State.reset with rst := { State.reset.rst with held := [.rook] } }

theorem test_stopPortStop_held : ((w_stopPortStop_held.stopSafe = true) ∧ (Own.stopPort.names 2 = true) ∧ (2 < 64) ∧ (w_stopPortStop_held.judge 2 0x40000900 true = .ok) ∧ (bits 0x4B52FF01 2 0 = 1) ∧ (bits 0x4B52FF01 31 16 = 0x4B52) ∧ (stopTargetOk (bits 0x4B52FF01 15 8) = true) ∧ (w_stopPortStop_held.rookHeld = true)) ∧ (match exec (.stopPortStop 2 0x4B52FF01) w_stopPortStop_held with
    | .next t => decide ((Reads t [(STOP_PORT_RES_RESULT 2, 5), (STOP_PORT_RES_BLOCKERS 2, 0)]))
    | _ => false) = true := by decide +kernel

def w_stopPortHold : State := wRun [(PAIR_STATUS_ACTIVE, 1), (ROOK_STATE_STOP, 0), (ROOK_STATE_SRC_LATCHED, 0), (RELAY_STATUS_DRIVE, 5), (LANE_CFG_EN 4, 1), (LANE_CFG_EN 2, 1), (LANE_CFG_RATE 4, 1), (ROOK_SEQ_SSEQ, 255), (PCH_W5_STATE 9, 2), (MSTOP_MEMBERS 0, 0x101), (STOP_PORT_RES_RESULT 2, 7)]

theorem test_stopPortHold : ((w_stopPortHold.stopSafe = true) ∧ (Own.stopPort.names 0x10 = true) ∧ (0x10 < 64) ∧ (w_stopPortHold.judge 0x10 0x40000900 true = .ok) ∧ (bits 0x4B52D502 2 0 = 2) ∧ (bits 0x4B52D502 31 16 = 0x4B52) ∧ (w_stopPortHold.rookHeld = false) ∧ (stopTargetOk (bits 0x4B52D502 15 8) = true) ∧ (w_stopPortHold.bit PAIR_STATUS_ACTIVE = true) ∧ (w_stopPortHold.rook.hr.length < 32)) ∧ (match exec (.stopPortHold 0x10 0x4B52D502) w_stopPortHold with
    | .next t => decide ((t = State.puts (State.safetySend (State.put { w_stopPortHold with rook := { w_stopPortHold.rook with hr := insertHr { cmd := 2, sseq := some ((w_stopPortHold.get ROOK_SEQ_SSEQ + 1) % 256), target := (bits 0x4B52D502 15 8), members := [], left := w_stopPortHold.laneLeft (fun _ => w_stopPortHold.get STOP_CFG_HR_REPEAT) } w_stopPortHold.rook.hr } } ROOK_SEQ_SSEQ ((w_stopPortHold.get ROOK_SEQ_SSEQ + 1) % 256)) 3 ((w_stopPortHold.get ROOK_SEQ_SSEQ + 1) % 256) (bits 0x4B52D502 15 8)) [(STOP_PORT_RES_RESULT 0x10, 0), (STOP_PORT_RES_BLOCKERS 0x10, 0)]) ∧ (t.rook.hr = insertHr { cmd := 2, sseq := some ((w_stopPortHold.get ROOK_SEQ_SSEQ + 1) % 256), target := (bits 0x4B52D502 15 8), members := [], left := w_stopPortHold.laneLeft (fun _ => w_stopPortHold.get STOP_CFG_HR_REPEAT) } w_stopPortHold.rook.hr) ∧ (Reads t [(ROOK_SEQ_SSEQ, (w_stopPortHold.get ROOK_SEQ_SSEQ + 1) % 256), (STOP_PORT_RES_RESULT 0x10, 0), (STOP_PORT_RES_BLOCKERS 0x10, 0)]))
    | _ => false) = true := by decide +kernel

def w_stopPortHold_inactive : State := wRun []

theorem test_stopPortHold_inactive : ((w_stopPortHold_inactive.stopSafe = true) ∧ (Own.stopPort.names 1 = true) ∧ (1 < 64) ∧ (w_stopPortHold_inactive.judge 1 0x40000900 true = .ok) ∧ (bits 0x4B520102 2 0 = 2) ∧ (bits 0x4B520102 31 16 = 0x4B52) ∧ (w_stopPortHold_inactive.rookHeld = false) ∧ (stopTargetOk (bits 0x4B520102 15 8) = true) ∧ (w_stopPortHold_inactive.bit PAIR_STATUS_ACTIVE = false)) ∧ (match exec (.stopPortHold 1 0x4B520102) w_stopPortHold_inactive with
    | .next t => decide ((Reads t [(STOP_PORT_RES_RESULT 1, 4), (STOP_PORT_RES_BLOCKERS 1, 0)]))
    | _ => false) = true := by decide +kernel

def w_stopPortHold_full : State := { wRun [(PAIR_STATUS_ACTIVE, 1)] with rook := { State.reset.rook with hr := List.replicate 32 ⟨2, some 7, 9, [], []⟩ } }

theorem test_stopPortHold_full : ((w_stopPortHold_full.stopSafe = true) ∧ (Own.stopPort.names 1 = true) ∧ (1 < 64) ∧ (w_stopPortHold_full.judge 1 0x40000900 true = .ok) ∧ (bits 0x4B52C002 2 0 = 2) ∧ (bits 0x4B52C002 31 16 = 0x4B52) ∧ (w_stopPortHold_full.rookHeld = false) ∧ (stopTargetOk (bits 0x4B52C002 15 8) = true) ∧ (w_stopPortHold_full.bit PAIR_STATUS_ACTIVE = true) ∧ (32 ≤ w_stopPortHold_full.rook.hr.length)) ∧ (match exec (.stopPortHold 1 0x4B52C002) w_stopPortHold_full with
    | .next t => decide ((Reads t [(STOP_PORT_RES_RESULT 1, 3), (STOP_PORT_RES_BLOCKERS 1, 0)]) ∧ (Reads t [(ROOK_CNT2_QUEUE_FULL, w_stopPortHold_full.adv ROOK_CNT2_QUEUE_FULL)]))
    | _ => false) = true := by decide +kernel

def w_stopPortHold_ignored : State := wRun [(PAIR_STATUS_ACTIVE, 1), (ROOK_STATE_STOP, 0), (ROOK_STATE_SRC_LATCHED, 0), (RELAY_STATUS_DRIVE, 5), (LANE_CFG_EN 4, 1), (LANE_CFG_EN 2, 1), (LANE_CFG_RATE 4, 1), (ROOK_SEQ_SSEQ, 255), (PCH_W5_STATE 9, 2), (MSTOP_MEMBERS 0, 0x101), (STOP_PORT_RES_RESULT 2, 7)]

theorem test_stopPortHold_ignored : ((w_stopPortHold_ignored.stopSafe = true) ∧ (0x1F ≠ 0x30) ∧ (Own.stopPort.names 0x1F = false ∨ bits 0x4B52F002 2 0 ≠ 2 ∨ w_stopPortHold_ignored.judge 0x1F 0x40000900 true = .badAddr ∨ w_stopPortHold_ignored.judge 0x1F 0x40000900 true = .off ∨ (w_stopPortHold_ignored.judge 0x1F 0x40000900 true = .ok ∧ 0x1F ≠ 0x30 ∧ (bits 0x4B52F002 31 16 ≠ 0x4B52 ∨ stopTargetOk (bits 0x4B52F002 15 8) = false)))) ∧ (match exec (.stopPortHold 0x1F 0x4B52F002) w_stopPortHold_ignored with
    | .next t => decide ((t = w_stopPortHold_ignored))
    | _ => false) = true := by decide +kernel

def w_stopPortHold_held : State := { State.reset with rst := { State.reset.rst with held := [.rook] } }

theorem test_stopPortHold_held : ((w_stopPortHold_held.stopSafe = true) ∧ (Own.stopPort.names 2 = true) ∧ (2 < 64) ∧ (w_stopPortHold_held.judge 2 0x40000900 true = .ok) ∧ (bits 0x4B520902 2 0 = 2) ∧ (bits 0x4B520902 31 16 = 0x4B52) ∧ (stopTargetOk (bits 0x4B520902 15 8) = true) ∧ (w_stopPortHold_held.rookHeld = true)) ∧ (match exec (.stopPortHold 2 0x4B520902) w_stopPortHold_held with
    | .next t => decide ((Reads t [(STOP_PORT_RES_RESULT 2, 5), (STOP_PORT_RES_BLOCKERS 2, 0)]))
    | _ => false) = true := by decide +kernel

def w_stopPortResume : State := wRun [(PAIR_STATUS_ACTIVE, 1), (ROOK_STATE_STOP, 0), (ROOK_STATE_SRC_LATCHED, 0), (RELAY_STATUS_DRIVE, 5), (LANE_CFG_EN 4, 1), (LANE_CFG_EN 2, 1), (LANE_CFG_RATE 4, 1), (ROOK_SEQ_SSEQ, 255), (PCH_W5_STATE 9, 2), (MSTOP_MEMBERS 0, 0x101), (STOP_PORT_RES_RESULT 2, 7)]

theorem test_stopPortResume : ((w_stopPortResume.stopSafe = true) ∧ (Own.stopPort.names 0x10 = true) ∧ (0x10 < 64) ∧ (w_stopPortResume.judge 0x10 0x40000900 true = .ok) ∧ (bits 0x4B520903 2 0 = 3) ∧ (bits 0x4B520903 31 16 = 0x4B52) ∧ (w_stopPortResume.rookHeld = false) ∧ (stopTargetOk (bits 0x4B520903 15 8) = true) ∧ (w_stopPortResume.bit PAIR_STATUS_ACTIVE = true) ∧ (w_stopPortResume.stopped = false) ∧ (w_stopPortResume.rook.hr.length < 32)) ∧ (match exec (.stopPortResume 0x10 0x4B520903) w_stopPortResume with
    | .next t => decide ((t = State.puts (State.safetySend (State.resumeClear (State.put { w_stopPortResume with rook := { w_stopPortResume.rook with hr := insertHr { cmd := 3, sseq := some ((w_stopPortResume.get ROOK_SEQ_SSEQ + 1) % 256), target := (bits 0x4B520903 15 8), members := [], left := w_stopPortResume.laneLeft (fun _ => w_stopPortResume.get STOP_CFG_HR_REPEAT) } w_stopPortResume.rook.hr } } ROOK_SEQ_SSEQ ((w_stopPortResume.get ROOK_SEQ_SSEQ + 1) % 256)) (bits 0x4B520903 15 8)) 4 ((w_stopPortResume.get ROOK_SEQ_SSEQ + 1) % 256) (bits 0x4B520903 15 8)) [(STOP_PORT_RES_RESULT 0x10, 0), (STOP_PORT_RES_BLOCKERS 0x10, 0)]) ∧ (t.rook.hr = insertHr { cmd := 3, sseq := some ((w_stopPortResume.get ROOK_SEQ_SSEQ + 1) % 256), target := (bits 0x4B520903 15 8), members := [], left := w_stopPortResume.laneLeft (fun _ => w_stopPortResume.get STOP_CFG_HR_REPEAT) } w_stopPortResume.rook.hr) ∧ (Reads t [(ROOK_SEQ_SSEQ, (w_stopPortResume.get ROOK_SEQ_SSEQ + 1) % 256), (STOP_PORT_RES_RESULT 0x10, 0), (STOP_PORT_RES_BLOCKERS 0x10, 0)]) ∧ (allAddrs.all (fun a => t.mstop a == (w_stopPortResume.mstop a && !((w_stopPortResume.targets (bits 0x4B520903 15 8)).contains a && !w_stopPortResume.rook.mstopPly.contains (a, w_stopPortResume.ply)))) = true))
    | _ => false) = true := by decide +kernel

def w_stopPortResume_stopped : State := wRun [(PAIR_STATUS_ACTIVE, 1)]

theorem test_stopPortResume_stopped : ((w_stopPortResume_stopped.stopSafe = true) ∧ (Own.stopPort.names 1 = true) ∧ (1 < 64) ∧ (w_stopPortResume_stopped.judge 1 0x40000900 true = .ok) ∧ (bits 0x4B520103 2 0 = 3) ∧ (bits 0x4B520103 31 16 = 0x4B52) ∧ (w_stopPortResume_stopped.rookHeld = false) ∧ (stopTargetOk (bits 0x4B520103 15 8) = true) ∧ (w_stopPortResume_stopped.bit PAIR_STATUS_ACTIVE = true) ∧ (w_stopPortResume_stopped.stopped = true)) ∧ (match exec (.stopPortResume 1 0x4B520103) w_stopPortResume_stopped with
    | .next t => decide ((Reads t [(STOP_PORT_RES_RESULT 1, 2), (STOP_PORT_RES_BLOCKERS 1, 0)]))
    | _ => false) = true := by decide +kernel

def w_stopPortResume_inactive : State := wRun []

theorem test_stopPortResume_inactive : ((w_stopPortResume_inactive.stopSafe = true) ∧ (Own.stopPort.names 1 = true) ∧ (1 < 64) ∧ (w_stopPortResume_inactive.judge 1 0x40000900 true = .ok) ∧ (bits 0x4B520103 2 0 = 3) ∧ (bits 0x4B520103 31 16 = 0x4B52) ∧ (w_stopPortResume_inactive.rookHeld = false) ∧ (stopTargetOk (bits 0x4B520103 15 8) = true) ∧ (w_stopPortResume_inactive.bit PAIR_STATUS_ACTIVE = false)) ∧ (match exec (.stopPortResume 1 0x4B520103) w_stopPortResume_inactive with
    | .next t => decide ((Reads t [(STOP_PORT_RES_RESULT 1, 4), (STOP_PORT_RES_BLOCKERS 1, 0)]))
    | _ => false) = true := by decide +kernel

def w_stopPortResume_full : State := { wRun [(PAIR_STATUS_ACTIVE, 1), (ROOK_STATE_STOP, 0)] with rook := { State.reset.rook with hr := List.replicate 32 ⟨2, some 7, 9, [], []⟩ } }

theorem test_stopPortResume_full : ((w_stopPortResume_full.stopSafe = true) ∧ (Own.stopPort.names 1 = true) ∧ (1 < 64) ∧ (w_stopPortResume_full.judge 1 0x40000900 true = .ok) ∧ (bits 0x4B52C003 2 0 = 3) ∧ (bits 0x4B52C003 31 16 = 0x4B52) ∧ (w_stopPortResume_full.rookHeld = false) ∧ (stopTargetOk (bits 0x4B52C003 15 8) = true) ∧ (w_stopPortResume_full.bit PAIR_STATUS_ACTIVE = true) ∧ (w_stopPortResume_full.stopped = false) ∧ (32 ≤ w_stopPortResume_full.rook.hr.length)) ∧ (match exec (.stopPortResume 1 0x4B52C003) w_stopPortResume_full with
    | .next t => decide ((Reads t [(STOP_PORT_RES_RESULT 1, 3), (STOP_PORT_RES_BLOCKERS 1, 0)]) ∧ (Reads t [(ROOK_CNT2_QUEUE_FULL, w_stopPortResume_full.adv ROOK_CNT2_QUEUE_FULL)]))
    | _ => false) = true := by decide +kernel

def w_stopPortResume_ignored : State := wRun [(PAIR_STATUS_ACTIVE, 1), (ROOK_STATE_STOP, 0), (ROOK_STATE_SRC_LATCHED, 0), (RELAY_STATUS_DRIVE, 5), (LANE_CFG_EN 4, 1), (LANE_CFG_EN 2, 1), (LANE_CFG_RATE 4, 1), (ROOK_SEQ_SSEQ, 255), (PCH_W5_STATE 9, 2), (MSTOP_MEMBERS 0, 0x101), (STOP_PORT_RES_RESULT 2, 7)]

theorem test_stopPortResume_ignored : ((w_stopPortResume_ignored.stopSafe = true) ∧ (0x1F ≠ 0x30) ∧ (Own.stopPort.names 0x1F = false ∨ bits 0x4B52F003 2 0 ≠ 3 ∨ w_stopPortResume_ignored.judge 0x1F 0x40000900 true = .badAddr ∨ w_stopPortResume_ignored.judge 0x1F 0x40000900 true = .off ∨ (w_stopPortResume_ignored.judge 0x1F 0x40000900 true = .ok ∧ 0x1F ≠ 0x30 ∧ (bits 0x4B52F003 31 16 ≠ 0x4B52 ∨ stopTargetOk (bits 0x4B52F003 15 8) = false)))) ∧ (match exec (.stopPortResume 0x1F 0x4B52F003) w_stopPortResume_ignored with
    | .next t => decide ((t = w_stopPortResume_ignored))
    | _ => false) = true := by decide +kernel

def w_stopPortResume_held : State := { State.reset with rst := { State.reset.rst with held := [.rook] } }

theorem test_stopPortResume_held : ((w_stopPortResume_held.stopSafe = true) ∧ (Own.stopPort.names 2 = true) ∧ (2 < 64) ∧ (w_stopPortResume_held.judge 2 0x40000900 true = .ok) ∧ (bits 0x4B520903 2 0 = 3) ∧ (bits 0x4B520903 31 16 = 0x4B52) ∧ (stopTargetOk (bits 0x4B520903 15 8) = true) ∧ (w_stopPortResume_held.rookHeld = true)) ∧ (match exec (.stopPortResume 2 0x4B520903) w_stopPortResume_held with
    | .next t => decide ((Reads t [(STOP_PORT_RES_RESULT 2, 5), (STOP_PORT_RES_BLOCKERS 2, 0)]))
    | _ => false) = true := by decide +kernel

def w_stopPortRelease : State := wRun [(PAIR_STATUS_ACTIVE, 1), (ROOK_STATE_STOP, 0), (ROOK_STATE_SRC_LATCHED, 0), (RELAY_STATUS_DRIVE, 5), (LANE_CFG_EN 4, 1), (LANE_CFG_EN 2, 1), (LANE_CFG_RATE 4, 1), (ROOK_SEQ_SSEQ, 255), (PCH_W5_STATE 9, 2), (MSTOP_MEMBERS 0, 0x101), (STOP_PORT_RES_RESULT 2, 7)]

theorem test_stopPortRelease : ((w_stopPortRelease.stopSafe = true) ∧ (Own.stopPort.names 2 = true) ∧ (2 < 64) ∧ (w_stopPortRelease.judge 2 0x40000900 true = .ok) ∧ (bits 0x4B52000C 2 0 = 4) ∧ (bits 0x4B52000C 31 16 = 0x4B52) ∧ (w_stopPortRelease.rookHeld = false)) ∧ (match exec (.stopPortRelease 2 0x4B52000C) w_stopPortRelease with
    | .next t => decide ((t.rook = { w_stopPortRelease.rook with release := w_stopPortRelease.rook.release ++ [{ ini := 2, ply := w_stopPortRelease.ply, ignorePair := bitOf 0x4B52000C 3, req := none, n := w_stopPortRelease.rook.asks }], asks := w_stopPortRelease.rook.asks + 1 }) ∧ (Reads t [(STOP_PORT_RES_RESULT 2, 1), (STOP_PORT_RES_BLOCKERS 2, 0)]))
    | _ => false) = true := by decide +kernel

def w_stopPortRelease_ignored : State := wRun [(PAIR_STATUS_ACTIVE, 1), (ROOK_STATE_STOP, 0), (ROOK_STATE_SRC_LATCHED, 0), (RELAY_STATUS_DRIVE, 5), (LANE_CFG_EN 4, 1), (LANE_CFG_EN 2, 1), (LANE_CFG_RATE 4, 1), (ROOK_SEQ_SSEQ, 255), (PCH_W5_STATE 9, 2), (MSTOP_MEMBERS 0, 0x101), (STOP_PORT_RES_RESULT 2, 7)]

theorem test_stopPortRelease_ignored : ((w_stopPortRelease_ignored.stopSafe = true) ∧ (0x1F ≠ 0x30) ∧ (Own.stopPort.names 0x1F = false ∨ bits 0x4B530004 2 0 ≠ 4 ∨ w_stopPortRelease_ignored.judge 0x1F 0x40000900 true = .badAddr ∨ w_stopPortRelease_ignored.judge 0x1F 0x40000900 true = .off ∨ (w_stopPortRelease_ignored.judge 0x1F 0x40000900 true = .ok ∧ 0x1F ≠ 0x30 ∧ (bits 0x4B530004 31 16 ≠ 0x4B52)))) ∧ (match exec (.stopPortRelease 0x1F 0x4B530004) w_stopPortRelease_ignored with
    | .next t => decide ((t = w_stopPortRelease_ignored))
    | _ => false) = true := by decide +kernel

def w_stopPortRelease_held : State := { State.reset with rst := { State.reset.rst with held := [.rook] } }

theorem test_stopPortRelease_held : ((w_stopPortRelease_held.stopSafe = true) ∧ (Own.stopPort.names 2 = true) ∧ (2 < 64) ∧ (w_stopPortRelease_held.judge 2 0x40000900 true = .ok) ∧ (bits 0x4B520004 2 0 = 4) ∧ (bits 0x4B520004 31 16 = 0x4B52) ∧ (w_stopPortRelease_held.rookHeld = true)) ∧ (match exec (.stopPortRelease 2 0x4B520004) w_stopPortRelease_held with
    | .next t => decide ((Reads t [(STOP_PORT_RES_RESULT 2, 5), (STOP_PORT_RES_BLOCKERS 2, 0)]))
    | _ => false) = true := by decide +kernel

def w_stopPortFaultClear : State := wRun [(PAIR_STATUS_ACTIVE, 1), (ROOK_STATE_STOP, 0), (ROOK_STATE_SRC_LATCHED, 0), (RELAY_STATUS_DRIVE, 5), (LANE_CFG_EN 4, 1), (LANE_CFG_EN 2, 1), (LANE_CFG_RATE 4, 1), (ROOK_SEQ_SSEQ, 255), (PCH_W5_STATE 9, 2), (MSTOP_MEMBERS 0, 0x101), (STOP_PORT_RES_RESULT 2, 7)]

theorem test_stopPortFaultClear : ((w_stopPortFaultClear.stopSafe = true) ∧ (Own.stopPort.names 2 = true) ∧ (2 < 64) ∧ (w_stopPortFaultClear.judge 2 0x40000900 true = .ok) ∧ (bits 0x4B520005 2 0 = 5) ∧ (bits 0x4B520005 31 16 = 0x4B52) ∧ (w_stopPortFaultClear.rookHeld = false)) ∧ (match exec (.stopPortFaultClear 2 0x4B520005) w_stopPortFaultClear with
    | .next t => decide ((t.rook = { w_stopPortFaultClear.rook with clear := w_stopPortFaultClear.rook.clear ++ [{ ini := 2, ply := w_stopPortFaultClear.ply, ignorePair := bitOf 0x4B520005 3, req := none, n := w_stopPortFaultClear.rook.asks }], asks := w_stopPortFaultClear.rook.asks + 1 }) ∧ (Reads t [(STOP_PORT_RES_RESULT 2, 1), (STOP_PORT_RES_BLOCKERS 2, 0)]))
    | _ => false) = true := by decide +kernel

def w_stopPortFaultClear_ignored : State := wRun [(PAIR_STATUS_ACTIVE, 1), (ROOK_STATE_STOP, 0), (ROOK_STATE_SRC_LATCHED, 0), (RELAY_STATUS_DRIVE, 5), (LANE_CFG_EN 4, 1), (LANE_CFG_EN 2, 1), (LANE_CFG_RATE 4, 1), (ROOK_SEQ_SSEQ, 255), (PCH_W5_STATE 9, 2), (MSTOP_MEMBERS 0, 0x101), (STOP_PORT_RES_RESULT 2, 7)]

theorem test_stopPortFaultClear_ignored : ((w_stopPortFaultClear_ignored.stopSafe = true) ∧ (0x1F ≠ 0x30) ∧ (Own.stopPort.names 0x1F = false ∨ bits 0x4B530005 2 0 ≠ 5 ∨ w_stopPortFaultClear_ignored.judge 0x1F 0x40000900 true = .badAddr ∨ w_stopPortFaultClear_ignored.judge 0x1F 0x40000900 true = .off ∨ (w_stopPortFaultClear_ignored.judge 0x1F 0x40000900 true = .ok ∧ 0x1F ≠ 0x30 ∧ (bits 0x4B530005 31 16 ≠ 0x4B52)))) ∧ (match exec (.stopPortFaultClear 0x1F 0x4B530005) w_stopPortFaultClear_ignored with
    | .next t => decide ((t = w_stopPortFaultClear_ignored))
    | _ => false) = true := by decide +kernel

def w_stopPortFaultClear_held : State := { State.reset with rst := { State.reset.rst with held := [.rook] } }

theorem test_stopPortFaultClear_held : ((w_stopPortFaultClear_held.stopSafe = true) ∧ (Own.stopPort.names 2 = true) ∧ (2 < 64) ∧ (w_stopPortFaultClear_held.judge 2 0x40000900 true = .ok) ∧ (bits 0x4B520005 2 0 = 5) ∧ (bits 0x4B520005 31 16 = 0x4B52) ∧ (w_stopPortFaultClear_held.rookHeld = true)) ∧ (match exec (.stopPortFaultClear 2 0x4B520005) w_stopPortFaultClear_held with
    | .next t => decide ((Reads t [(STOP_PORT_RES_RESULT 2, 5), (STOP_PORT_RES_BLOCKERS 2, 0)]))
    | _ => false) = true := by decide +kernel

def w_stop : State := withSess (wRun [(PAIR_STATUS_ACTIVE, 1), (ROOK_STATE_STOP, 0), (ROOK_STATE_SRC_LATCHED, 0), (RELAY_STATUS_DRIVE, 5), (LANE_CFG_EN 4, 1), (LANE_CFG_EN 2, 1), (LANE_CFG_RATE 4, 1), (ROOK_SEQ_SSEQ, 255), (PAIR_CTRL_EN, 1), (MSTOP_MEMBERS 0, 0x101), (STOP_PORT_RES_RESULT 2, 7)])

theorem test_stop : ((w_stop.accepts 0x0800 3 9 false = true) ∧ (w_stop.stopSafe = true) ∧ (w_stop.rookHeld = false) ∧ ((State.enterStop ((withSess (wRun [(PAIR_STATUS_ACTIVE, 1), (ROOK_STATE_STOP, 0), (ROOK_STATE_SRC_LATCHED, 0), (RELAY_STATUS_DRIVE, 5), (LANE_CFG_EN 4, 1), (LANE_CFG_EN 2, 1), (LANE_CFG_RATE 4, 1), (ROOK_SEQ_SSEQ, 255), (PAIR_CTRL_EN, 1), (MSTOP_MEMBERS 0, 0x101), (STOP_PORT_RES_RESULT 2, 7)])) : State) 1 : State) = State.enterStop w_stop 1) ∧ ((State.enterStop ((withSess (wRun [(PAIR_STATUS_ACTIVE, 1), (ROOK_STATE_STOP, 0), (ROOK_STATE_SRC_LATCHED, 0), (RELAY_STATUS_DRIVE, 5), (LANE_CFG_EN 4, 1), (LANE_CFG_EN 2, 1), (LANE_CFG_RATE 4, 1), (ROOK_SEQ_SSEQ, 255), (PAIR_CTRL_EN, 1), (MSTOP_MEMBERS 0, 0x101), (STOP_PORT_RES_RESULT 2, 7)])) : State) 1 : State).room 3 = true)) ∧ (match exec (.stop 3 9 ([0xFF, 0, 0, 0])) w_stop with
    | .next t => decide ((answers (State.enterStop ((withSess (wRun [(PAIR_STATUS_ACTIVE, 1), (ROOK_STATE_STOP, 0), (ROOK_STATE_SRC_LATCHED, 0), (RELAY_STATUS_DRIVE, 5), (LANE_CFG_EN 4, 1), (LANE_CFG_EN 2, 1), (LANE_CFG_RATE 4, 1), (ROOK_SEQ_SSEQ, 255), (PAIR_CTRL_EN, 1), (MSTOP_MEMBERS 0, 0x101), (STOP_PORT_RES_RESULT 2, 7)])) : State) 1 : State) t [] 0x0800 3 9 Ecp.OK (crc32c [0xFF, 0, 0, 0]) [] = true) ∧ (t = { (State.enterStop ((withSess (wRun [(PAIR_STATUS_ACTIVE, 1), (ROOK_STATE_STOP, 0), (ROOK_STATE_SRC_LATCHED, 0), (RELAY_STATUS_DRIVE, 5), (LANE_CFG_EN 4, 1), (LANE_CFG_EN 2, 1), (LANE_CFG_RATE 4, 1), (ROOK_SEQ_SSEQ, 255), (PAIR_CTRL_EN, 1), (MSTOP_MEMBERS 0, 0x101), (STOP_PORT_RES_RESULT 2, 7)])) : State) 1 : State) with ecp := t.ecp, out := t.out }) ∧ (StopOn 1 w_stop t))
    | _ => false) = true := by decide +kernel

def w_stop_member : State := withSess (wRun [(PAIR_STATUS_ACTIVE, 1), (ROOK_STATE_STOP, 0), (ROOK_STATE_SRC_LATCHED, 0), (RELAY_STATUS_DRIVE, 5), (LANE_CFG_EN 4, 1), (LANE_CFG_EN 2, 1), (LANE_CFG_RATE 4, 1), (ROOK_SEQ_SSEQ, 255), (PCH_W5_STATE 9, 2), (MSTOP_MEMBERS 0, 0x101), (STOP_PORT_RES_RESULT 2, 7)])

theorem test_stop_member : ((w_stop_member.accepts 0x0800 3 9 false = true) ∧ (w_stop_member.stopSafe = true) ∧ (w_stop_member.rookHeld = false) ∧ (stopTargetOk 8 = true) ∧ (8 ≠ 0xFF) ∧ ((State.memberStop ((withSess (wRun [(PAIR_STATUS_ACTIVE, 1), (ROOK_STATE_STOP, 0), (ROOK_STATE_SRC_LATCHED, 0), (RELAY_STATUS_DRIVE, 5), (LANE_CFG_EN 4, 1), (LANE_CFG_EN 2, 1), (LANE_CFG_RATE 4, 1), (ROOK_SEQ_SSEQ, 255), (PCH_W5_STATE 9, 2), (MSTOP_MEMBERS 0, 0x101), (STOP_PORT_RES_RESULT 2, 7)])) : State) 8 : State) = State.memberStop w_stop_member 8) ∧ ((State.memberStop ((withSess (wRun [(PAIR_STATUS_ACTIVE, 1), (ROOK_STATE_STOP, 0), (ROOK_STATE_SRC_LATCHED, 0), (RELAY_STATUS_DRIVE, 5), (LANE_CFG_EN 4, 1), (LANE_CFG_EN 2, 1), (LANE_CFG_RATE 4, 1), (ROOK_SEQ_SSEQ, 255), (PCH_W5_STATE 9, 2), (MSTOP_MEMBERS 0, 0x101), (STOP_PORT_RES_RESULT 2, 7)])) : State) 8 : State).room 3 = true)) ∧ (match exec (.stop 3 9 ([8, 0, 0, 0])) w_stop_member with
    | .next t => decide ((answers (State.memberStop ((withSess (wRun [(PAIR_STATUS_ACTIVE, 1), (ROOK_STATE_STOP, 0), (ROOK_STATE_SRC_LATCHED, 0), (RELAY_STATUS_DRIVE, 5), (LANE_CFG_EN 4, 1), (LANE_CFG_EN 2, 1), (LANE_CFG_RATE 4, 1), (ROOK_SEQ_SSEQ, 255), (PCH_W5_STATE 9, 2), (MSTOP_MEMBERS 0, 0x101), (STOP_PORT_RES_RESULT 2, 7)])) : State) 8 : State) t [] 0x0800 3 9 Ecp.OK (crc32c [8, 0, 0, 0]) [] = true) ∧ (t = { (State.memberStop ((withSess (wRun [(PAIR_STATUS_ACTIVE, 1), (ROOK_STATE_STOP, 0), (ROOK_STATE_SRC_LATCHED, 0), (RELAY_STATUS_DRIVE, 5), (LANE_CFG_EN 4, 1), (LANE_CFG_EN 2, 1), (LANE_CFG_RATE 4, 1), (ROOK_SEQ_SSEQ, 255), (PCH_W5_STATE 9, 2), (MSTOP_MEMBERS 0, 0x101), (STOP_PORT_RES_RESULT 2, 7)])) : State) 8 : State) with ecp := t.ecp, out := t.out }) ∧ ((w_stop_member.targets 8).all t.mstop = true) ∧ ((w_stop_member.targets 8 = [] ∨ t.rook.mstops = w_stop_member.rook.mstops ++ [{ cmd := 1, sseq := none, target := 8, members := w_stop_member.targets 8, left := w_stop_member.laneLeft w_stop_member.stopRepeat }])))
    | _ => false) = true := by decide +kernel

def w_stop_bad : State := withSess (wRun [(PAIR_STATUS_ACTIVE, 1), (ROOK_STATE_STOP, 0), (ROOK_STATE_SRC_LATCHED, 0), (RELAY_STATUS_DRIVE, 5), (LANE_CFG_EN 4, 1), (LANE_CFG_EN 2, 1), (LANE_CFG_RATE 4, 1), (ROOK_SEQ_SSEQ, 255), (PCH_W5_STATE 9, 2), (MSTOP_MEMBERS 0, 0x101), (STOP_PORT_RES_RESULT 2, 7)])

theorem test_stop_bad : ((w_stop_bad.stopSafe = true) ∧ (w_stop_bad.accepts 0x0800 3 9 false = true) ∧ (9 < 256) ∧ (0 < 256) ∧ (0 < 256) ∧ (1 < 256) ∧ (stopTargetOk 9 = false ∨ 0 ≠ 0 ∨ 0 ≠ 0 ∨ 1 ≠ 0)) ∧ (match exec (.stop 3 9 ([9, 0, 0, 1])) w_stop_bad with
    | .next t => decide ((answers w_stop_bad t [] 0x0800 3 9 Ecp.BAD_PARAM (crc32c [9, 0, 0, 1]) [] = true))
    | _ => false) = true := by decide +kernel

def w_stop_held : State := withSess { at_ [(PAIR_STATUS_ACTIVE, 1)] with rst := { State.reset.rst with held := [.rook] } }

theorem test_stop_held : ((w_stop_held.stopSafe = true) ∧ (w_stop_held.accepts 0x0800 3 9 false = true) ∧ (stopTargetOk 9 = true) ∧ (w_stop_held.rookHeld = true)) ∧ (match exec (.stop 3 9 ([9, 0, 0, 0])) w_stop_held with
    | .next t => decide ((answers w_stop_held t [] 0x0800 3 9 Ecp.NOT_READY (crc32c [9, 0, 0, 0]) [] = true))
    | _ => false) = true := by decide +kernel

def w_hold : State := withSess (wRun [(PAIR_STATUS_ACTIVE, 1), (ROOK_STATE_STOP, 0), (ROOK_STATE_SRC_LATCHED, 0), (RELAY_STATUS_DRIVE, 5), (LANE_CFG_EN 4, 1), (LANE_CFG_EN 2, 1), (LANE_CFG_RATE 4, 1), (ROOK_SEQ_SSEQ, 255), (PCH_W5_STATE 9, 2), (MSTOP_MEMBERS 0, 0x101), (STOP_PORT_RES_RESULT 2, 7)])

theorem test_hold : ((w_hold.accepts 0x0802 3 9 true = true) ∧ (w_hold.stopSafe = true) ∧ (w_hold.rookHeld = false) ∧ (stopTargetOk 0xDF = true) ∧ (w_hold.rook.hr.length < 32) ∧ ((State.safetySend (State.put { ((withSess (wRun [(PAIR_STATUS_ACTIVE, 1), (ROOK_STATE_STOP, 0), (ROOK_STATE_SRC_LATCHED, 0), (RELAY_STATUS_DRIVE, 5), (LANE_CFG_EN 4, 1), (LANE_CFG_EN 2, 1), (LANE_CFG_RATE 4, 1), (ROOK_SEQ_SSEQ, 255), (PCH_W5_STATE 9, 2), (MSTOP_MEMBERS 0, 0x101), (STOP_PORT_RES_RESULT 2, 7)])) : State) with rook := { ((withSess (wRun [(PAIR_STATUS_ACTIVE, 1), (ROOK_STATE_STOP, 0), (ROOK_STATE_SRC_LATCHED, 0), (RELAY_STATUS_DRIVE, 5), (LANE_CFG_EN 4, 1), (LANE_CFG_EN 2, 1), (LANE_CFG_RATE 4, 1), (ROOK_SEQ_SSEQ, 255), (PCH_W5_STATE 9, 2), (MSTOP_MEMBERS 0, 0x101), (STOP_PORT_RES_RESULT 2, 7)])) : State).rook with hr := insertHr { cmd := 2, sseq := some ((((withSess (wRun [(PAIR_STATUS_ACTIVE, 1), (ROOK_STATE_STOP, 0), (ROOK_STATE_SRC_LATCHED, 0), (RELAY_STATUS_DRIVE, 5), (LANE_CFG_EN 4, 1), (LANE_CFG_EN 2, 1), (LANE_CFG_RATE 4, 1), (ROOK_SEQ_SSEQ, 255), (PCH_W5_STATE 9, 2), (MSTOP_MEMBERS 0, 0x101), (STOP_PORT_RES_RESULT 2, 7)])) : State).get ROOK_SEQ_SSEQ + 1) % 256), target := 0xDF, members := [], left := ((withSess (wRun [(PAIR_STATUS_ACTIVE, 1), (ROOK_STATE_STOP, 0), (ROOK_STATE_SRC_LATCHED, 0), (RELAY_STATUS_DRIVE, 5), (LANE_CFG_EN 4, 1), (LANE_CFG_EN 2, 1), (LANE_CFG_RATE 4, 1), (ROOK_SEQ_SSEQ, 255), (PCH_W5_STATE 9, 2), (MSTOP_MEMBERS 0, 0x101), (STOP_PORT_RES_RESULT 2, 7)])) : State).laneLeft (fun _ => ((withSess (wRun [(PAIR_STATUS_ACTIVE, 1), (ROOK_STATE_STOP, 0), (ROOK_STATE_SRC_LATCHED, 0), (RELAY_STATUS_DRIVE, 5), (LANE_CFG_EN 4, 1), (LANE_CFG_EN 2, 1), (LANE_CFG_RATE 4, 1), (ROOK_SEQ_SSEQ, 255), (PCH_W5_STATE 9, 2), (MSTOP_MEMBERS 0, 0x101), (STOP_PORT_RES_RESULT 2, 7)])) : State).get STOP_CFG_HR_REPEAT) } ((withSess (wRun [(PAIR_STATUS_ACTIVE, 1), (ROOK_STATE_STOP, 0), (ROOK_STATE_SRC_LATCHED, 0), (RELAY_STATUS_DRIVE, 5), (LANE_CFG_EN 4, 1), (LANE_CFG_EN 2, 1), (LANE_CFG_RATE 4, 1), (ROOK_SEQ_SSEQ, 255), (PCH_W5_STATE 9, 2), (MSTOP_MEMBERS 0, 0x101), (STOP_PORT_RES_RESULT 2, 7)])) : State).rook.hr } } ROOK_SEQ_SSEQ ((((withSess (wRun [(PAIR_STATUS_ACTIVE, 1), (ROOK_STATE_STOP, 0), (ROOK_STATE_SRC_LATCHED, 0), (RELAY_STATUS_DRIVE, 5), (LANE_CFG_EN 4, 1), (LANE_CFG_EN 2, 1), (LANE_CFG_RATE 4, 1), (ROOK_SEQ_SSEQ, 255), (PCH_W5_STATE 9, 2), (MSTOP_MEMBERS 0, 0x101), (STOP_PORT_RES_RESULT 2, 7)])) : State).get ROOK_SEQ_SSEQ + 1) % 256)) 3 ((((withSess (wRun [(PAIR_STATUS_ACTIVE, 1), (ROOK_STATE_STOP, 0), (ROOK_STATE_SRC_LATCHED, 0), (RELAY_STATUS_DRIVE, 5), (LANE_CFG_EN 4, 1), (LANE_CFG_EN 2, 1), (LANE_CFG_RATE 4, 1), (ROOK_SEQ_SSEQ, 255), (PCH_W5_STATE 9, 2), (MSTOP_MEMBERS 0, 0x101), (STOP_PORT_RES_RESULT 2, 7)])) : State).get ROOK_SEQ_SSEQ + 1) % 256) 0xDF : State) = State.safetySend (State.put { w_hold with rook := { w_hold.rook with hr := insertHr { cmd := 2, sseq := some ((w_hold.get ROOK_SEQ_SSEQ + 1) % 256), target := 0xDF, members := [], left := w_hold.laneLeft (fun _ => w_hold.get STOP_CFG_HR_REPEAT) } w_hold.rook.hr } } ROOK_SEQ_SSEQ ((w_hold.get ROOK_SEQ_SSEQ + 1) % 256)) 3 ((w_hold.get ROOK_SEQ_SSEQ + 1) % 256) 0xDF) ∧ ((State.safetySend (State.put { ((withSess (wRun [(PAIR_STATUS_ACTIVE, 1), (ROOK_STATE_STOP, 0), (ROOK_STATE_SRC_LATCHED, 0), (RELAY_STATUS_DRIVE, 5), (LANE_CFG_EN 4, 1), (LANE_CFG_EN 2, 1), (LANE_CFG_RATE 4, 1), (ROOK_SEQ_SSEQ, 255), (PCH_W5_STATE 9, 2), (MSTOP_MEMBERS 0, 0x101), (STOP_PORT_RES_RESULT 2, 7)])) : State) with rook := { ((withSess (wRun [(PAIR_STATUS_ACTIVE, 1), (ROOK_STATE_STOP, 0), (ROOK_STATE_SRC_LATCHED, 0), (RELAY_STATUS_DRIVE, 5), (LANE_CFG_EN 4, 1), (LANE_CFG_EN 2, 1), (LANE_CFG_RATE 4, 1), (ROOK_SEQ_SSEQ, 255), (PCH_W5_STATE 9, 2), (MSTOP_MEMBERS 0, 0x101), (STOP_PORT_RES_RESULT 2, 7)])) : State).rook with hr := insertHr { cmd := 2, sseq := some ((((withSess (wRun [(PAIR_STATUS_ACTIVE, 1), (ROOK_STATE_STOP, 0), (ROOK_STATE_SRC_LATCHED, 0), (RELAY_STATUS_DRIVE, 5), (LANE_CFG_EN 4, 1), (LANE_CFG_EN 2, 1), (LANE_CFG_RATE 4, 1), (ROOK_SEQ_SSEQ, 255), (PCH_W5_STATE 9, 2), (MSTOP_MEMBERS 0, 0x101), (STOP_PORT_RES_RESULT 2, 7)])) : State).get ROOK_SEQ_SSEQ + 1) % 256), target := 0xDF, members := [], left := ((withSess (wRun [(PAIR_STATUS_ACTIVE, 1), (ROOK_STATE_STOP, 0), (ROOK_STATE_SRC_LATCHED, 0), (RELAY_STATUS_DRIVE, 5), (LANE_CFG_EN 4, 1), (LANE_CFG_EN 2, 1), (LANE_CFG_RATE 4, 1), (ROOK_SEQ_SSEQ, 255), (PCH_W5_STATE 9, 2), (MSTOP_MEMBERS 0, 0x101), (STOP_PORT_RES_RESULT 2, 7)])) : State).laneLeft (fun _ => ((withSess (wRun [(PAIR_STATUS_ACTIVE, 1), (ROOK_STATE_STOP, 0), (ROOK_STATE_SRC_LATCHED, 0), (RELAY_STATUS_DRIVE, 5), (LANE_CFG_EN 4, 1), (LANE_CFG_EN 2, 1), (LANE_CFG_RATE 4, 1), (ROOK_SEQ_SSEQ, 255), (PCH_W5_STATE 9, 2), (MSTOP_MEMBERS 0, 0x101), (STOP_PORT_RES_RESULT 2, 7)])) : State).get STOP_CFG_HR_REPEAT) } ((withSess (wRun [(PAIR_STATUS_ACTIVE, 1), (ROOK_STATE_STOP, 0), (ROOK_STATE_SRC_LATCHED, 0), (RELAY_STATUS_DRIVE, 5), (LANE_CFG_EN 4, 1), (LANE_CFG_EN 2, 1), (LANE_CFG_RATE 4, 1), (ROOK_SEQ_SSEQ, 255), (PCH_W5_STATE 9, 2), (MSTOP_MEMBERS 0, 0x101), (STOP_PORT_RES_RESULT 2, 7)])) : State).rook.hr } } ROOK_SEQ_SSEQ ((((withSess (wRun [(PAIR_STATUS_ACTIVE, 1), (ROOK_STATE_STOP, 0), (ROOK_STATE_SRC_LATCHED, 0), (RELAY_STATUS_DRIVE, 5), (LANE_CFG_EN 4, 1), (LANE_CFG_EN 2, 1), (LANE_CFG_RATE 4, 1), (ROOK_SEQ_SSEQ, 255), (PCH_W5_STATE 9, 2), (MSTOP_MEMBERS 0, 0x101), (STOP_PORT_RES_RESULT 2, 7)])) : State).get ROOK_SEQ_SSEQ + 1) % 256)) 3 ((((withSess (wRun [(PAIR_STATUS_ACTIVE, 1), (ROOK_STATE_STOP, 0), (ROOK_STATE_SRC_LATCHED, 0), (RELAY_STATUS_DRIVE, 5), (LANE_CFG_EN 4, 1), (LANE_CFG_EN 2, 1), (LANE_CFG_RATE 4, 1), (ROOK_SEQ_SSEQ, 255), (PCH_W5_STATE 9, 2), (MSTOP_MEMBERS 0, 0x101), (STOP_PORT_RES_RESULT 2, 7)])) : State).get ROOK_SEQ_SSEQ + 1) % 256) 0xDF : State).room 3 = true)) ∧ (match exec (.hold 3 9 ([0xDF, 0, 0, 0])) w_hold with
    | .next t => decide ((answers (State.safetySend (State.put { ((withSess (wRun [(PAIR_STATUS_ACTIVE, 1), (ROOK_STATE_STOP, 0), (ROOK_STATE_SRC_LATCHED, 0), (RELAY_STATUS_DRIVE, 5), (LANE_CFG_EN 4, 1), (LANE_CFG_EN 2, 1), (LANE_CFG_RATE 4, 1), (ROOK_SEQ_SSEQ, 255), (PCH_W5_STATE 9, 2), (MSTOP_MEMBERS 0, 0x101), (STOP_PORT_RES_RESULT 2, 7)])) : State) with rook := { ((withSess (wRun [(PAIR_STATUS_ACTIVE, 1), (ROOK_STATE_STOP, 0), (ROOK_STATE_SRC_LATCHED, 0), (RELAY_STATUS_DRIVE, 5), (LANE_CFG_EN 4, 1), (LANE_CFG_EN 2, 1), (LANE_CFG_RATE 4, 1), (ROOK_SEQ_SSEQ, 255), (PCH_W5_STATE 9, 2), (MSTOP_MEMBERS 0, 0x101), (STOP_PORT_RES_RESULT 2, 7)])) : State).rook with hr := insertHr { cmd := 2, sseq := some ((((withSess (wRun [(PAIR_STATUS_ACTIVE, 1), (ROOK_STATE_STOP, 0), (ROOK_STATE_SRC_LATCHED, 0), (RELAY_STATUS_DRIVE, 5), (LANE_CFG_EN 4, 1), (LANE_CFG_EN 2, 1), (LANE_CFG_RATE 4, 1), (ROOK_SEQ_SSEQ, 255), (PCH_W5_STATE 9, 2), (MSTOP_MEMBERS 0, 0x101), (STOP_PORT_RES_RESULT 2, 7)])) : State).get ROOK_SEQ_SSEQ + 1) % 256), target := 0xDF, members := [], left := ((withSess (wRun [(PAIR_STATUS_ACTIVE, 1), (ROOK_STATE_STOP, 0), (ROOK_STATE_SRC_LATCHED, 0), (RELAY_STATUS_DRIVE, 5), (LANE_CFG_EN 4, 1), (LANE_CFG_EN 2, 1), (LANE_CFG_RATE 4, 1), (ROOK_SEQ_SSEQ, 255), (PCH_W5_STATE 9, 2), (MSTOP_MEMBERS 0, 0x101), (STOP_PORT_RES_RESULT 2, 7)])) : State).laneLeft (fun _ => ((withSess (wRun [(PAIR_STATUS_ACTIVE, 1), (ROOK_STATE_STOP, 0), (ROOK_STATE_SRC_LATCHED, 0), (RELAY_STATUS_DRIVE, 5), (LANE_CFG_EN 4, 1), (LANE_CFG_EN 2, 1), (LANE_CFG_RATE 4, 1), (ROOK_SEQ_SSEQ, 255), (PCH_W5_STATE 9, 2), (MSTOP_MEMBERS 0, 0x101), (STOP_PORT_RES_RESULT 2, 7)])) : State).get STOP_CFG_HR_REPEAT) } ((withSess (wRun [(PAIR_STATUS_ACTIVE, 1), (ROOK_STATE_STOP, 0), (ROOK_STATE_SRC_LATCHED, 0), (RELAY_STATUS_DRIVE, 5), (LANE_CFG_EN 4, 1), (LANE_CFG_EN 2, 1), (LANE_CFG_RATE 4, 1), (ROOK_SEQ_SSEQ, 255), (PCH_W5_STATE 9, 2), (MSTOP_MEMBERS 0, 0x101), (STOP_PORT_RES_RESULT 2, 7)])) : State).rook.hr } } ROOK_SEQ_SSEQ ((((withSess (wRun [(PAIR_STATUS_ACTIVE, 1), (ROOK_STATE_STOP, 0), (ROOK_STATE_SRC_LATCHED, 0), (RELAY_STATUS_DRIVE, 5), (LANE_CFG_EN 4, 1), (LANE_CFG_EN 2, 1), (LANE_CFG_RATE 4, 1), (ROOK_SEQ_SSEQ, 255), (PCH_W5_STATE 9, 2), (MSTOP_MEMBERS 0, 0x101), (STOP_PORT_RES_RESULT 2, 7)])) : State).get ROOK_SEQ_SSEQ + 1) % 256)) 3 ((((withSess (wRun [(PAIR_STATUS_ACTIVE, 1), (ROOK_STATE_STOP, 0), (ROOK_STATE_SRC_LATCHED, 0), (RELAY_STATUS_DRIVE, 5), (LANE_CFG_EN 4, 1), (LANE_CFG_EN 2, 1), (LANE_CFG_RATE 4, 1), (ROOK_SEQ_SSEQ, 255), (PCH_W5_STATE 9, 2), (MSTOP_MEMBERS 0, 0x101), (STOP_PORT_RES_RESULT 2, 7)])) : State).get ROOK_SEQ_SSEQ + 1) % 256) 0xDF : State) t [] 0x0802 3 9 Ecp.OK (crc32c [0xDF, 0, 0, 0]) [] = true) ∧ (t = { (State.safetySend (State.put { ((withSess (wRun [(PAIR_STATUS_ACTIVE, 1), (ROOK_STATE_STOP, 0), (ROOK_STATE_SRC_LATCHED, 0), (RELAY_STATUS_DRIVE, 5), (LANE_CFG_EN 4, 1), (LANE_CFG_EN 2, 1), (LANE_CFG_RATE 4, 1), (ROOK_SEQ_SSEQ, 255), (PCH_W5_STATE 9, 2), (MSTOP_MEMBERS 0, 0x101), (STOP_PORT_RES_RESULT 2, 7)])) : State) with rook := { ((withSess (wRun [(PAIR_STATUS_ACTIVE, 1), (ROOK_STATE_STOP, 0), (ROOK_STATE_SRC_LATCHED, 0), (RELAY_STATUS_DRIVE, 5), (LANE_CFG_EN 4, 1), (LANE_CFG_EN 2, 1), (LANE_CFG_RATE 4, 1), (ROOK_SEQ_SSEQ, 255), (PCH_W5_STATE 9, 2), (MSTOP_MEMBERS 0, 0x101), (STOP_PORT_RES_RESULT 2, 7)])) : State).rook with hr := insertHr { cmd := 2, sseq := some ((((withSess (wRun [(PAIR_STATUS_ACTIVE, 1), (ROOK_STATE_STOP, 0), (ROOK_STATE_SRC_LATCHED, 0), (RELAY_STATUS_DRIVE, 5), (LANE_CFG_EN 4, 1), (LANE_CFG_EN 2, 1), (LANE_CFG_RATE 4, 1), (ROOK_SEQ_SSEQ, 255), (PCH_W5_STATE 9, 2), (MSTOP_MEMBERS 0, 0x101), (STOP_PORT_RES_RESULT 2, 7)])) : State).get ROOK_SEQ_SSEQ + 1) % 256), target := 0xDF, members := [], left := ((withSess (wRun [(PAIR_STATUS_ACTIVE, 1), (ROOK_STATE_STOP, 0), (ROOK_STATE_SRC_LATCHED, 0), (RELAY_STATUS_DRIVE, 5), (LANE_CFG_EN 4, 1), (LANE_CFG_EN 2, 1), (LANE_CFG_RATE 4, 1), (ROOK_SEQ_SSEQ, 255), (PCH_W5_STATE 9, 2), (MSTOP_MEMBERS 0, 0x101), (STOP_PORT_RES_RESULT 2, 7)])) : State).laneLeft (fun _ => ((withSess (wRun [(PAIR_STATUS_ACTIVE, 1), (ROOK_STATE_STOP, 0), (ROOK_STATE_SRC_LATCHED, 0), (RELAY_STATUS_DRIVE, 5), (LANE_CFG_EN 4, 1), (LANE_CFG_EN 2, 1), (LANE_CFG_RATE 4, 1), (ROOK_SEQ_SSEQ, 255), (PCH_W5_STATE 9, 2), (MSTOP_MEMBERS 0, 0x101), (STOP_PORT_RES_RESULT 2, 7)])) : State).get STOP_CFG_HR_REPEAT) } ((withSess (wRun [(PAIR_STATUS_ACTIVE, 1), (ROOK_STATE_STOP, 0), (ROOK_STATE_SRC_LATCHED, 0), (RELAY_STATUS_DRIVE, 5), (LANE_CFG_EN 4, 1), (LANE_CFG_EN 2, 1), (LANE_CFG_RATE 4, 1), (ROOK_SEQ_SSEQ, 255), (PCH_W5_STATE 9, 2), (MSTOP_MEMBERS 0, 0x101), (STOP_PORT_RES_RESULT 2, 7)])) : State).rook.hr } } ROOK_SEQ_SSEQ ((((withSess (wRun [(PAIR_STATUS_ACTIVE, 1), (ROOK_STATE_STOP, 0), (ROOK_STATE_SRC_LATCHED, 0), (RELAY_STATUS_DRIVE, 5), (LANE_CFG_EN 4, 1), (LANE_CFG_EN 2, 1), (LANE_CFG_RATE 4, 1), (ROOK_SEQ_SSEQ, 255), (PCH_W5_STATE 9, 2), (MSTOP_MEMBERS 0, 0x101), (STOP_PORT_RES_RESULT 2, 7)])) : State).get ROOK_SEQ_SSEQ + 1) % 256)) 3 ((((withSess (wRun [(PAIR_STATUS_ACTIVE, 1), (ROOK_STATE_STOP, 0), (ROOK_STATE_SRC_LATCHED, 0), (RELAY_STATUS_DRIVE, 5), (LANE_CFG_EN 4, 1), (LANE_CFG_EN 2, 1), (LANE_CFG_RATE 4, 1), (ROOK_SEQ_SSEQ, 255), (PCH_W5_STATE 9, 2), (MSTOP_MEMBERS 0, 0x101), (STOP_PORT_RES_RESULT 2, 7)])) : State).get ROOK_SEQ_SSEQ + 1) % 256) 0xDF : State) with ecp := t.ecp, out := t.out }) ∧ (t.rook.hr = insertHr { cmd := 2, sseq := some ((w_hold.get ROOK_SEQ_SSEQ + 1) % 256), target := 0xDF, members := [], left := w_hold.laneLeft (fun _ => w_hold.get STOP_CFG_HR_REPEAT) } w_hold.rook.hr) ∧ (Reads t [(ROOK_SEQ_SSEQ, (w_hold.get ROOK_SEQ_SSEQ + 1) % 256)]))
    | _ => false) = true := by decide +kernel

def w_hold_bad : State := withSess (wRun [(PAIR_STATUS_ACTIVE, 1), (ROOK_STATE_STOP, 0), (ROOK_STATE_SRC_LATCHED, 0), (RELAY_STATUS_DRIVE, 5), (LANE_CFG_EN 4, 1), (LANE_CFG_EN 2, 1), (LANE_CFG_RATE 4, 1), (ROOK_SEQ_SSEQ, 255), (PCH_W5_STATE 9, 2), (MSTOP_MEMBERS 0, 0x101), (STOP_PORT_RES_RESULT 2, 7)])

theorem test_hold_bad : ((w_hold_bad.stopSafe = true) ∧ (w_hold_bad.accepts 0x0802 3 9 true = true) ∧ (9 < 256) ∧ (0 < 256) ∧ (0 < 256) ∧ (1 < 256) ∧ (stopTargetOk 9 = false ∨ 0 ≠ 0 ∨ 0 ≠ 0 ∨ 1 ≠ 0)) ∧ (match exec (.hold 3 9 ([9, 0, 0, 1])) w_hold_bad with
    | .next t => decide ((answers w_hold_bad t [] 0x0802 3 9 Ecp.BAD_PARAM (crc32c [9, 0, 0, 1]) [] = true))
    | _ => false) = true := by decide +kernel

def w_hold_held : State := withSess { at_ [(PAIR_STATUS_ACTIVE, 1)] with rst := { State.reset.rst with held := [.rook] } }

theorem test_hold_held : ((w_hold_held.stopSafe = true) ∧ (w_hold_held.accepts 0x0802 3 9 true = true) ∧ (stopTargetOk 9 = true) ∧ (w_hold_held.rookHeld = true)) ∧ (match exec (.hold 3 9 ([9, 0, 0, 0])) w_hold_held with
    | .next t => decide ((answers w_hold_held t [] 0x0802 3 9 Ecp.NOT_READY (crc32c [9, 0, 0, 0]) [] = true))
    | _ => false) = true := by decide +kernel

def w_hold_full : State := withSess { wRun [(PAIR_STATUS_ACTIVE, 1), (ROOK_STATE_STOP, 0)] with rook := { State.reset.rook with hr := List.replicate 32 ⟨2, some 7, 9, [], []⟩ } }

theorem test_hold_full : ((w_hold_full.stopSafe = true) ∧ (w_hold_full.accepts 0x0802 3 9 true = true) ∧ (stopTargetOk 9 = true) ∧ (w_hold_full.rookHeld = false) ∧ (32 ≤ w_hold_full.rook.hr.length)) ∧ (match exec (.hold 3 9 ([9, 0, 0, 0])) w_hold_full with
    | .next t => decide ((answers w_hold_full t [] 0x0802 3 9 Ecp.QUEUE_FULL (crc32c [9, 0, 0, 0]) [] = true) ∧ (Reads t [(ROOK_CNT2_QUEUE_FULL, w_hold_full.adv ROOK_CNT2_QUEUE_FULL), (ECP_CNT_B_QUEUE_FULL, w_hold_full.adv ECP_CNT_B_QUEUE_FULL)]))
    | _ => false) = true := by decide +kernel

def w_resume : State := withSess (wRun [(PAIR_STATUS_ACTIVE, 1), (ROOK_STATE_STOP, 0), (ROOK_STATE_SRC_LATCHED, 0), (RELAY_STATUS_DRIVE, 5), (LANE_CFG_EN 4, 1), (LANE_CFG_EN 2, 1), (LANE_CFG_RATE 4, 1), (ROOK_SEQ_SSEQ, 255), (PCH_W5_STATE 9, 2), (MSTOP_MEMBERS 0, 0x101), (STOP_PORT_RES_RESULT 2, 7)])

theorem test_resume : ((w_resume.accepts 0x0803 3 9 true = true) ∧ (w_resume.stopSafe = true) ∧ (w_resume.rookHeld = false) ∧ (stopTargetOk 0xFF = true) ∧ (w_resume.stopped = false) ∧ (w_resume.rook.hr.length < 32) ∧ ((State.safetySend (State.resumeClear (State.put { ((withSess (wRun [(PAIR_STATUS_ACTIVE, 1), (ROOK_STATE_STOP, 0), (ROOK_STATE_SRC_LATCHED, 0), (RELAY_STATUS_DRIVE, 5), (LANE_CFG_EN 4, 1), (LANE_CFG_EN 2, 1), (LANE_CFG_RATE 4, 1), (ROOK_SEQ_SSEQ, 255), (PCH_W5_STATE 9, 2), (MSTOP_MEMBERS 0, 0x101), (STOP_PORT_RES_RESULT 2, 7)])) : State) with rook := { ((withSess (wRun [(PAIR_STATUS_ACTIVE, 1), (ROOK_STATE_STOP, 0), (ROOK_STATE_SRC_LATCHED, 0), (RELAY_STATUS_DRIVE, 5), (LANE_CFG_EN 4, 1), (LANE_CFG_EN 2, 1), (LANE_CFG_RATE 4, 1), (ROOK_SEQ_SSEQ, 255), (PCH_W5_STATE 9, 2), (MSTOP_MEMBERS 0, 0x101), (STOP_PORT_RES_RESULT 2, 7)])) : State).rook with hr := insertHr { cmd := 3, sseq := some ((((withSess (wRun [(PAIR_STATUS_ACTIVE, 1), (ROOK_STATE_STOP, 0), (ROOK_STATE_SRC_LATCHED, 0), (RELAY_STATUS_DRIVE, 5), (LANE_CFG_EN 4, 1), (LANE_CFG_EN 2, 1), (LANE_CFG_RATE 4, 1), (ROOK_SEQ_SSEQ, 255), (PCH_W5_STATE 9, 2), (MSTOP_MEMBERS 0, 0x101), (STOP_PORT_RES_RESULT 2, 7)])) : State).get ROOK_SEQ_SSEQ + 1) % 256), target := 0xFF, members := [], left := ((withSess (wRun [(PAIR_STATUS_ACTIVE, 1), (ROOK_STATE_STOP, 0), (ROOK_STATE_SRC_LATCHED, 0), (RELAY_STATUS_DRIVE, 5), (LANE_CFG_EN 4, 1), (LANE_CFG_EN 2, 1), (LANE_CFG_RATE 4, 1), (ROOK_SEQ_SSEQ, 255), (PCH_W5_STATE 9, 2), (MSTOP_MEMBERS 0, 0x101), (STOP_PORT_RES_RESULT 2, 7)])) : State).laneLeft (fun _ => ((withSess (wRun [(PAIR_STATUS_ACTIVE, 1), (ROOK_STATE_STOP, 0), (ROOK_STATE_SRC_LATCHED, 0), (RELAY_STATUS_DRIVE, 5), (LANE_CFG_EN 4, 1), (LANE_CFG_EN 2, 1), (LANE_CFG_RATE 4, 1), (ROOK_SEQ_SSEQ, 255), (PCH_W5_STATE 9, 2), (MSTOP_MEMBERS 0, 0x101), (STOP_PORT_RES_RESULT 2, 7)])) : State).get STOP_CFG_HR_REPEAT) } ((withSess (wRun [(PAIR_STATUS_ACTIVE, 1), (ROOK_STATE_STOP, 0), (ROOK_STATE_SRC_LATCHED, 0), (RELAY_STATUS_DRIVE, 5), (LANE_CFG_EN 4, 1), (LANE_CFG_EN 2, 1), (LANE_CFG_RATE 4, 1), (ROOK_SEQ_SSEQ, 255), (PCH_W5_STATE 9, 2), (MSTOP_MEMBERS 0, 0x101), (STOP_PORT_RES_RESULT 2, 7)])) : State).rook.hr } } ROOK_SEQ_SSEQ ((((withSess (wRun [(PAIR_STATUS_ACTIVE, 1), (ROOK_STATE_STOP, 0), (ROOK_STATE_SRC_LATCHED, 0), (RELAY_STATUS_DRIVE, 5), (LANE_CFG_EN 4, 1), (LANE_CFG_EN 2, 1), (LANE_CFG_RATE 4, 1), (ROOK_SEQ_SSEQ, 255), (PCH_W5_STATE 9, 2), (MSTOP_MEMBERS 0, 0x101), (STOP_PORT_RES_RESULT 2, 7)])) : State).get ROOK_SEQ_SSEQ + 1) % 256)) 0xFF) 4 ((((withSess (wRun [(PAIR_STATUS_ACTIVE, 1), (ROOK_STATE_STOP, 0), (ROOK_STATE_SRC_LATCHED, 0), (RELAY_STATUS_DRIVE, 5), (LANE_CFG_EN 4, 1), (LANE_CFG_EN 2, 1), (LANE_CFG_RATE 4, 1), (ROOK_SEQ_SSEQ, 255), (PCH_W5_STATE 9, 2), (MSTOP_MEMBERS 0, 0x101), (STOP_PORT_RES_RESULT 2, 7)])) : State).get ROOK_SEQ_SSEQ + 1) % 256) 0xFF : State) = State.safetySend (State.resumeClear (State.put { w_resume with rook := { w_resume.rook with hr := insertHr { cmd := 3, sseq := some ((w_resume.get ROOK_SEQ_SSEQ + 1) % 256), target := 0xFF, members := [], left := w_resume.laneLeft (fun _ => w_resume.get STOP_CFG_HR_REPEAT) } w_resume.rook.hr } } ROOK_SEQ_SSEQ ((w_resume.get ROOK_SEQ_SSEQ + 1) % 256)) 0xFF) 4 ((w_resume.get ROOK_SEQ_SSEQ + 1) % 256) 0xFF) ∧ ((State.safetySend (State.resumeClear (State.put { ((withSess (wRun [(PAIR_STATUS_ACTIVE, 1), (ROOK_STATE_STOP, 0), (ROOK_STATE_SRC_LATCHED, 0), (RELAY_STATUS_DRIVE, 5), (LANE_CFG_EN 4, 1), (LANE_CFG_EN 2, 1), (LANE_CFG_RATE 4, 1), (ROOK_SEQ_SSEQ, 255), (PCH_W5_STATE 9, 2), (MSTOP_MEMBERS 0, 0x101), (STOP_PORT_RES_RESULT 2, 7)])) : State) with rook := { ((withSess (wRun [(PAIR_STATUS_ACTIVE, 1), (ROOK_STATE_STOP, 0), (ROOK_STATE_SRC_LATCHED, 0), (RELAY_STATUS_DRIVE, 5), (LANE_CFG_EN 4, 1), (LANE_CFG_EN 2, 1), (LANE_CFG_RATE 4, 1), (ROOK_SEQ_SSEQ, 255), (PCH_W5_STATE 9, 2), (MSTOP_MEMBERS 0, 0x101), (STOP_PORT_RES_RESULT 2, 7)])) : State).rook with hr := insertHr { cmd := 3, sseq := some ((((withSess (wRun [(PAIR_STATUS_ACTIVE, 1), (ROOK_STATE_STOP, 0), (ROOK_STATE_SRC_LATCHED, 0), (RELAY_STATUS_DRIVE, 5), (LANE_CFG_EN 4, 1), (LANE_CFG_EN 2, 1), (LANE_CFG_RATE 4, 1), (ROOK_SEQ_SSEQ, 255), (PCH_W5_STATE 9, 2), (MSTOP_MEMBERS 0, 0x101), (STOP_PORT_RES_RESULT 2, 7)])) : State).get ROOK_SEQ_SSEQ + 1) % 256), target := 0xFF, members := [], left := ((withSess (wRun [(PAIR_STATUS_ACTIVE, 1), (ROOK_STATE_STOP, 0), (ROOK_STATE_SRC_LATCHED, 0), (RELAY_STATUS_DRIVE, 5), (LANE_CFG_EN 4, 1), (LANE_CFG_EN 2, 1), (LANE_CFG_RATE 4, 1), (ROOK_SEQ_SSEQ, 255), (PCH_W5_STATE 9, 2), (MSTOP_MEMBERS 0, 0x101), (STOP_PORT_RES_RESULT 2, 7)])) : State).laneLeft (fun _ => ((withSess (wRun [(PAIR_STATUS_ACTIVE, 1), (ROOK_STATE_STOP, 0), (ROOK_STATE_SRC_LATCHED, 0), (RELAY_STATUS_DRIVE, 5), (LANE_CFG_EN 4, 1), (LANE_CFG_EN 2, 1), (LANE_CFG_RATE 4, 1), (ROOK_SEQ_SSEQ, 255), (PCH_W5_STATE 9, 2), (MSTOP_MEMBERS 0, 0x101), (STOP_PORT_RES_RESULT 2, 7)])) : State).get STOP_CFG_HR_REPEAT) } ((withSess (wRun [(PAIR_STATUS_ACTIVE, 1), (ROOK_STATE_STOP, 0), (ROOK_STATE_SRC_LATCHED, 0), (RELAY_STATUS_DRIVE, 5), (LANE_CFG_EN 4, 1), (LANE_CFG_EN 2, 1), (LANE_CFG_RATE 4, 1), (ROOK_SEQ_SSEQ, 255), (PCH_W5_STATE 9, 2), (MSTOP_MEMBERS 0, 0x101), (STOP_PORT_RES_RESULT 2, 7)])) : State).rook.hr } } ROOK_SEQ_SSEQ ((((withSess (wRun [(PAIR_STATUS_ACTIVE, 1), (ROOK_STATE_STOP, 0), (ROOK_STATE_SRC_LATCHED, 0), (RELAY_STATUS_DRIVE, 5), (LANE_CFG_EN 4, 1), (LANE_CFG_EN 2, 1), (LANE_CFG_RATE 4, 1), (ROOK_SEQ_SSEQ, 255), (PCH_W5_STATE 9, 2), (MSTOP_MEMBERS 0, 0x101), (STOP_PORT_RES_RESULT 2, 7)])) : State).get ROOK_SEQ_SSEQ + 1) % 256)) 0xFF) 4 ((((withSess (wRun [(PAIR_STATUS_ACTIVE, 1), (ROOK_STATE_STOP, 0), (ROOK_STATE_SRC_LATCHED, 0), (RELAY_STATUS_DRIVE, 5), (LANE_CFG_EN 4, 1), (LANE_CFG_EN 2, 1), (LANE_CFG_RATE 4, 1), (ROOK_SEQ_SSEQ, 255), (PCH_W5_STATE 9, 2), (MSTOP_MEMBERS 0, 0x101), (STOP_PORT_RES_RESULT 2, 7)])) : State).get ROOK_SEQ_SSEQ + 1) % 256) 0xFF : State).room 3 = true)) ∧ (match exec (.resume 3 9 ([0xFF, 0, 0, 0])) w_resume with
    | .next t => decide ((answers (State.safetySend (State.resumeClear (State.put { ((withSess (wRun [(PAIR_STATUS_ACTIVE, 1), (ROOK_STATE_STOP, 0), (ROOK_STATE_SRC_LATCHED, 0), (RELAY_STATUS_DRIVE, 5), (LANE_CFG_EN 4, 1), (LANE_CFG_EN 2, 1), (LANE_CFG_RATE 4, 1), (ROOK_SEQ_SSEQ, 255), (PCH_W5_STATE 9, 2), (MSTOP_MEMBERS 0, 0x101), (STOP_PORT_RES_RESULT 2, 7)])) : State) with rook := { ((withSess (wRun [(PAIR_STATUS_ACTIVE, 1), (ROOK_STATE_STOP, 0), (ROOK_STATE_SRC_LATCHED, 0), (RELAY_STATUS_DRIVE, 5), (LANE_CFG_EN 4, 1), (LANE_CFG_EN 2, 1), (LANE_CFG_RATE 4, 1), (ROOK_SEQ_SSEQ, 255), (PCH_W5_STATE 9, 2), (MSTOP_MEMBERS 0, 0x101), (STOP_PORT_RES_RESULT 2, 7)])) : State).rook with hr := insertHr { cmd := 3, sseq := some ((((withSess (wRun [(PAIR_STATUS_ACTIVE, 1), (ROOK_STATE_STOP, 0), (ROOK_STATE_SRC_LATCHED, 0), (RELAY_STATUS_DRIVE, 5), (LANE_CFG_EN 4, 1), (LANE_CFG_EN 2, 1), (LANE_CFG_RATE 4, 1), (ROOK_SEQ_SSEQ, 255), (PCH_W5_STATE 9, 2), (MSTOP_MEMBERS 0, 0x101), (STOP_PORT_RES_RESULT 2, 7)])) : State).get ROOK_SEQ_SSEQ + 1) % 256), target := 0xFF, members := [], left := ((withSess (wRun [(PAIR_STATUS_ACTIVE, 1), (ROOK_STATE_STOP, 0), (ROOK_STATE_SRC_LATCHED, 0), (RELAY_STATUS_DRIVE, 5), (LANE_CFG_EN 4, 1), (LANE_CFG_EN 2, 1), (LANE_CFG_RATE 4, 1), (ROOK_SEQ_SSEQ, 255), (PCH_W5_STATE 9, 2), (MSTOP_MEMBERS 0, 0x101), (STOP_PORT_RES_RESULT 2, 7)])) : State).laneLeft (fun _ => ((withSess (wRun [(PAIR_STATUS_ACTIVE, 1), (ROOK_STATE_STOP, 0), (ROOK_STATE_SRC_LATCHED, 0), (RELAY_STATUS_DRIVE, 5), (LANE_CFG_EN 4, 1), (LANE_CFG_EN 2, 1), (LANE_CFG_RATE 4, 1), (ROOK_SEQ_SSEQ, 255), (PCH_W5_STATE 9, 2), (MSTOP_MEMBERS 0, 0x101), (STOP_PORT_RES_RESULT 2, 7)])) : State).get STOP_CFG_HR_REPEAT) } ((withSess (wRun [(PAIR_STATUS_ACTIVE, 1), (ROOK_STATE_STOP, 0), (ROOK_STATE_SRC_LATCHED, 0), (RELAY_STATUS_DRIVE, 5), (LANE_CFG_EN 4, 1), (LANE_CFG_EN 2, 1), (LANE_CFG_RATE 4, 1), (ROOK_SEQ_SSEQ, 255), (PCH_W5_STATE 9, 2), (MSTOP_MEMBERS 0, 0x101), (STOP_PORT_RES_RESULT 2, 7)])) : State).rook.hr } } ROOK_SEQ_SSEQ ((((withSess (wRun [(PAIR_STATUS_ACTIVE, 1), (ROOK_STATE_STOP, 0), (ROOK_STATE_SRC_LATCHED, 0), (RELAY_STATUS_DRIVE, 5), (LANE_CFG_EN 4, 1), (LANE_CFG_EN 2, 1), (LANE_CFG_RATE 4, 1), (ROOK_SEQ_SSEQ, 255), (PCH_W5_STATE 9, 2), (MSTOP_MEMBERS 0, 0x101), (STOP_PORT_RES_RESULT 2, 7)])) : State).get ROOK_SEQ_SSEQ + 1) % 256)) 0xFF) 4 ((((withSess (wRun [(PAIR_STATUS_ACTIVE, 1), (ROOK_STATE_STOP, 0), (ROOK_STATE_SRC_LATCHED, 0), (RELAY_STATUS_DRIVE, 5), (LANE_CFG_EN 4, 1), (LANE_CFG_EN 2, 1), (LANE_CFG_RATE 4, 1), (ROOK_SEQ_SSEQ, 255), (PCH_W5_STATE 9, 2), (MSTOP_MEMBERS 0, 0x101), (STOP_PORT_RES_RESULT 2, 7)])) : State).get ROOK_SEQ_SSEQ + 1) % 256) 0xFF : State) t [] 0x0803 3 9 Ecp.OK (crc32c [0xFF, 0, 0, 0]) [] = true) ∧ (t = { (State.safetySend (State.resumeClear (State.put { ((withSess (wRun [(PAIR_STATUS_ACTIVE, 1), (ROOK_STATE_STOP, 0), (ROOK_STATE_SRC_LATCHED, 0), (RELAY_STATUS_DRIVE, 5), (LANE_CFG_EN 4, 1), (LANE_CFG_EN 2, 1), (LANE_CFG_RATE 4, 1), (ROOK_SEQ_SSEQ, 255), (PCH_W5_STATE 9, 2), (MSTOP_MEMBERS 0, 0x101), (STOP_PORT_RES_RESULT 2, 7)])) : State) with rook := { ((withSess (wRun [(PAIR_STATUS_ACTIVE, 1), (ROOK_STATE_STOP, 0), (ROOK_STATE_SRC_LATCHED, 0), (RELAY_STATUS_DRIVE, 5), (LANE_CFG_EN 4, 1), (LANE_CFG_EN 2, 1), (LANE_CFG_RATE 4, 1), (ROOK_SEQ_SSEQ, 255), (PCH_W5_STATE 9, 2), (MSTOP_MEMBERS 0, 0x101), (STOP_PORT_RES_RESULT 2, 7)])) : State).rook with hr := insertHr { cmd := 3, sseq := some ((((withSess (wRun [(PAIR_STATUS_ACTIVE, 1), (ROOK_STATE_STOP, 0), (ROOK_STATE_SRC_LATCHED, 0), (RELAY_STATUS_DRIVE, 5), (LANE_CFG_EN 4, 1), (LANE_CFG_EN 2, 1), (LANE_CFG_RATE 4, 1), (ROOK_SEQ_SSEQ, 255), (PCH_W5_STATE 9, 2), (MSTOP_MEMBERS 0, 0x101), (STOP_PORT_RES_RESULT 2, 7)])) : State).get ROOK_SEQ_SSEQ + 1) % 256), target := 0xFF, members := [], left := ((withSess (wRun [(PAIR_STATUS_ACTIVE, 1), (ROOK_STATE_STOP, 0), (ROOK_STATE_SRC_LATCHED, 0), (RELAY_STATUS_DRIVE, 5), (LANE_CFG_EN 4, 1), (LANE_CFG_EN 2, 1), (LANE_CFG_RATE 4, 1), (ROOK_SEQ_SSEQ, 255), (PCH_W5_STATE 9, 2), (MSTOP_MEMBERS 0, 0x101), (STOP_PORT_RES_RESULT 2, 7)])) : State).laneLeft (fun _ => ((withSess (wRun [(PAIR_STATUS_ACTIVE, 1), (ROOK_STATE_STOP, 0), (ROOK_STATE_SRC_LATCHED, 0), (RELAY_STATUS_DRIVE, 5), (LANE_CFG_EN 4, 1), (LANE_CFG_EN 2, 1), (LANE_CFG_RATE 4, 1), (ROOK_SEQ_SSEQ, 255), (PCH_W5_STATE 9, 2), (MSTOP_MEMBERS 0, 0x101), (STOP_PORT_RES_RESULT 2, 7)])) : State).get STOP_CFG_HR_REPEAT) } ((withSess (wRun [(PAIR_STATUS_ACTIVE, 1), (ROOK_STATE_STOP, 0), (ROOK_STATE_SRC_LATCHED, 0), (RELAY_STATUS_DRIVE, 5), (LANE_CFG_EN 4, 1), (LANE_CFG_EN 2, 1), (LANE_CFG_RATE 4, 1), (ROOK_SEQ_SSEQ, 255), (PCH_W5_STATE 9, 2), (MSTOP_MEMBERS 0, 0x101), (STOP_PORT_RES_RESULT 2, 7)])) : State).rook.hr } } ROOK_SEQ_SSEQ ((((withSess (wRun [(PAIR_STATUS_ACTIVE, 1), (ROOK_STATE_STOP, 0), (ROOK_STATE_SRC_LATCHED, 0), (RELAY_STATUS_DRIVE, 5), (LANE_CFG_EN 4, 1), (LANE_CFG_EN 2, 1), (LANE_CFG_RATE 4, 1), (ROOK_SEQ_SSEQ, 255), (PCH_W5_STATE 9, 2), (MSTOP_MEMBERS 0, 0x101), (STOP_PORT_RES_RESULT 2, 7)])) : State).get ROOK_SEQ_SSEQ + 1) % 256)) 0xFF) 4 ((((withSess (wRun [(PAIR_STATUS_ACTIVE, 1), (ROOK_STATE_STOP, 0), (ROOK_STATE_SRC_LATCHED, 0), (RELAY_STATUS_DRIVE, 5), (LANE_CFG_EN 4, 1), (LANE_CFG_EN 2, 1), (LANE_CFG_RATE 4, 1), (ROOK_SEQ_SSEQ, 255), (PCH_W5_STATE 9, 2), (MSTOP_MEMBERS 0, 0x101), (STOP_PORT_RES_RESULT 2, 7)])) : State).get ROOK_SEQ_SSEQ + 1) % 256) 0xFF : State) with ecp := t.ecp, out := t.out }) ∧ (t.rook.hr = insertHr { cmd := 3, sseq := some ((w_resume.get ROOK_SEQ_SSEQ + 1) % 256), target := 0xFF, members := [], left := w_resume.laneLeft (fun _ => w_resume.get STOP_CFG_HR_REPEAT) } w_resume.rook.hr) ∧ (Reads t [(ROOK_SEQ_SSEQ, (w_resume.get ROOK_SEQ_SSEQ + 1) % 256)]) ∧ (allAddrs.all (fun a => t.mstop a == (w_resume.mstop a && !((w_resume.targets 0xFF).contains a && !w_resume.rook.mstopPly.contains (a, w_resume.ply)))) = true))
    | _ => false) = true := by decide +kernel

def w_resume_stopped : State := withSess (wRun [(PAIR_STATUS_ACTIVE, 1)])

theorem test_resume_stopped : ((w_resume_stopped.stopSafe = true) ∧ (w_resume_stopped.accepts 0x0803 3 9 true = true) ∧ (w_resume_stopped.rookHeld = false) ∧ (stopTargetOk 9 = true) ∧ (w_resume_stopped.stopped = true)) ∧ (match exec (.resume 3 9 ([9, 0, 0, 0])) w_resume_stopped with
    | .next t => decide ((answers w_resume_stopped t [] 0x0803 3 9 Ecp.DENIED (crc32c [9, 0, 0, 0]) [] = true))
    | _ => false) = true := by decide +kernel

def w_resume_bad : State := withSess (wRun [(PAIR_STATUS_ACTIVE, 1), (ROOK_STATE_STOP, 0), (ROOK_STATE_SRC_LATCHED, 0), (RELAY_STATUS_DRIVE, 5), (LANE_CFG_EN 4, 1), (LANE_CFG_EN 2, 1), (LANE_CFG_RATE 4, 1), (ROOK_SEQ_SSEQ, 255), (PCH_W5_STATE 9, 2), (MSTOP_MEMBERS 0, 0x101), (STOP_PORT_RES_RESULT 2, 7)])

theorem test_resume_bad : ((w_resume_bad.stopSafe = true) ∧ (w_resume_bad.accepts 0x0803 3 9 true = true) ∧ (9 < 256) ∧ (0 < 256) ∧ (0 < 256) ∧ (1 < 256) ∧ (stopTargetOk 9 = false ∨ 0 ≠ 0 ∨ 0 ≠ 0 ∨ 1 ≠ 0)) ∧ (match exec (.resume 3 9 ([9, 0, 0, 1])) w_resume_bad with
    | .next t => decide ((answers w_resume_bad t [] 0x0803 3 9 Ecp.BAD_PARAM (crc32c [9, 0, 0, 1]) [] = true))
    | _ => false) = true := by decide +kernel

def w_resume_held : State := withSess { at_ [(PAIR_STATUS_ACTIVE, 1)] with rst := { State.reset.rst with held := [.rook] } }

theorem test_resume_held : ((w_resume_held.stopSafe = true) ∧ (w_resume_held.accepts 0x0803 3 9 true = true) ∧ (stopTargetOk 9 = true) ∧ (w_resume_held.rookHeld = true)) ∧ (match exec (.resume 3 9 ([9, 0, 0, 0])) w_resume_held with
    | .next t => decide ((answers w_resume_held t [] 0x0803 3 9 Ecp.NOT_READY (crc32c [9, 0, 0, 0]) [] = true))
    | _ => false) = true := by decide +kernel

def w_resume_full : State := withSess { wRun [(PAIR_STATUS_ACTIVE, 1), (ROOK_STATE_STOP, 0)] with rook := { State.reset.rook with hr := List.replicate 32 ⟨2, some 7, 9, [], []⟩ } }

theorem test_resume_full : ((w_resume_full.stopSafe = true) ∧ (w_resume_full.accepts 0x0803 3 9 true = true) ∧ (stopTargetOk 9 = true) ∧ (w_resume_full.rookHeld = false) ∧ (32 ≤ w_resume_full.rook.hr.length) ∧ (w_resume_full.stopped = false)) ∧ (match exec (.resume 3 9 ([9, 0, 0, 0])) w_resume_full with
    | .next t => decide ((answers w_resume_full t [] 0x0803 3 9 Ecp.QUEUE_FULL (crc32c [9, 0, 0, 0]) [] = true) ∧ (Reads t [(ROOK_CNT2_QUEUE_FULL, w_resume_full.adv ROOK_CNT2_QUEUE_FULL), (ECP_CNT_B_QUEUE_FULL, w_resume_full.adv ECP_CNT_B_QUEUE_FULL)]))
    | _ => false) = true := by decide +kernel

def w_stopRelease : State := withSess (wRun [(PAIR_STATUS_ACTIVE, 1), (ROOK_STATE_STOP, 0), (ROOK_STATE_SRC_LATCHED, 0), (RELAY_STATUS_DRIVE, 5), (LANE_CFG_EN 4, 1), (LANE_CFG_EN 2, 1), (LANE_CFG_RATE 4, 1), (ROOK_SEQ_SSEQ, 255), (PCH_W5_STATE 9, 2), (MSTOP_MEMBERS 0, 0x101), (STOP_PORT_RES_RESULT 2, 7)])

theorem test_stopRelease : ((w_stopRelease.stopSafe = true) ∧ (w_stopRelease.accepts 0x0801 3 9 false = true) ∧ (1 < 2) ∧ (w_stopRelease.rookHeld = false)) ∧ (match exec (.stopRelease 3 9 ([1, 0, 0, 0])) w_stopRelease with
    | .next t => decide ((opens w_stopRelease t [] 0x0801 3 9 (crc32c [1, 0, 0, 0]) none = true) ∧ (t.rook = { w_stopRelease.rook with release := w_stopRelease.rook.release ++ [{ ini := (sessIni 3), ply := w_stopRelease.ply, ignorePair := bitOf 1 0, req := some (3, 9), n := w_stopRelease.rook.asks }], asks := w_stopRelease.rook.asks + 1 }))
    | _ => false) = true := by decide +kernel

def w_stopRelease_bad : State := withSess (wRun [(PAIR_STATUS_ACTIVE, 1), (ROOK_STATE_STOP, 0), (ROOK_STATE_SRC_LATCHED, 0), (RELAY_STATUS_DRIVE, 5), (LANE_CFG_EN 4, 1), (LANE_CFG_EN 2, 1), (LANE_CFG_RATE 4, 1), (ROOK_SEQ_SSEQ, 255), (PCH_W5_STATE 9, 2), (MSTOP_MEMBERS 0, 0x101), (STOP_PORT_RES_RESULT 2, 7)])

theorem test_stopRelease_bad : ((w_stopRelease_bad.stopSafe = true) ∧ (w_stopRelease_bad.accepts 0x0801 3 9 false = true) ∧ (2 < 256) ∧ (0 < 256) ∧ (0 < 256) ∧ (0 < 256) ∧ (2 ≤ 2 ∨ 0 ≠ 0 ∨ 0 ≠ 0 ∨ 0 ≠ 0)) ∧ (match exec (.stopRelease 3 9 ([2, 0, 0, 0])) w_stopRelease_bad with
    | .next t => decide ((answers w_stopRelease_bad t [] 0x0801 3 9 Ecp.BAD_PARAM (crc32c [2, 0, 0, 0]) [] = true))
    | _ => false) = true := by decide +kernel

def w_stopRelease_held : State := withSess { at_ [(PAIR_STATUS_ACTIVE, 1)] with rst := { State.reset.rst with held := [.rook] } }

theorem test_stopRelease_held : ((w_stopRelease_held.stopSafe = true) ∧ (w_stopRelease_held.accepts 0x0801 3 9 false = true) ∧ (0 < 2) ∧ (w_stopRelease_held.rookHeld = true)) ∧ (match exec (.stopRelease 3 9 ([0, 0, 0, 0])) w_stopRelease_held with
    | .next t => decide ((answers w_stopRelease_held t [] 0x0801 3 9 Ecp.NOT_READY (crc32c [0, 0, 0, 0]) [] = true))
    | _ => false) = true := by decide +kernel

def w_faultClear : State := withSess (wRun [(PAIR_STATUS_ACTIVE, 1), (ROOK_STATE_STOP, 0), (ROOK_STATE_SRC_LATCHED, 0), (RELAY_STATUS_DRIVE, 5), (LANE_CFG_EN 4, 1), (LANE_CFG_EN 2, 1), (LANE_CFG_RATE 4, 1), (ROOK_SEQ_SSEQ, 255), (PCH_W5_STATE 9, 2), (MSTOP_MEMBERS 0, 0x101), (STOP_PORT_RES_RESULT 2, 7)])

theorem test_faultClear : ((w_faultClear.stopSafe = true) ∧ (w_faultClear.accepts 0x0805 3 9 false = true) ∧ (w_faultClear.rookHeld = false)) ∧ (match exec (.faultClear 3 9) w_faultClear with
    | .next t => decide ((opens w_faultClear t [] 0x0805 3 9 (crc32c []) none = true) ∧ (t.rook = { w_faultClear.rook with clear := w_faultClear.rook.clear ++ [{ ini := (sessIni 3), ply := w_faultClear.ply, ignorePair := false, req := some (3, 9), n := w_faultClear.rook.asks }], asks := w_faultClear.rook.asks + 1 }))
    | _ => false) = true := by decide +kernel

def w_faultClear_held : State := withSess { at_ [(PAIR_STATUS_ACTIVE, 1)] with rst := { State.reset.rst with held := [.rook] } }

theorem test_faultClear_held : ((w_faultClear_held.stopSafe = true) ∧ (w_faultClear_held.accepts 0x0805 3 9 false = true) ∧ (w_faultClear_held.rookHeld = true)) ∧ (match exec (.faultClear 3 9) w_faultClear_held with
    | .next t => decide ((answers w_faultClear_held t [] 0x0805 3 9 Ecp.NOT_READY (crc32c []) [] = true))
    | _ => false) = true := by decide +kernel

def w_releaseEvaluation_ecp : State := { wRun [(ROOK_STATE_STOP, 1), (ROOK_STATE_HALTED, 0)] with ply := 5000, rook := { State.reset.rook with release := [⟨1, 4999, true, some (3, 9), 0⟩] }, ecp := { State.reset.ecp with sessions := [{ id := 3, port := 1, ip := 0x0A000001, udp := 5000, inProg := [⟨9, 0x801, 5⟩] }] } }

theorem test_releaseEvaluation_ecp : ((w_releaseEvaluation_ecp.stopSafe = true) ∧ (w_releaseEvaluation_ecp.rook.release.filter (fun (q : StopReq) => decide (q.ply < w_releaseEvaluation_ecp.ply)) = [(⟨1, 4999, true, some (3, 9), 0⟩ : StopReq)]) ∧ ((⟨1, 4999, true, some (3, 9), 0⟩ : StopReq).req = some (3, 9)) ∧ (w_releaseEvaluation_ecp.blockers (⟨1, 4999, true, some (3, 9), 0⟩ : StopReq).ignorePair = 0) ∧ (w_releaseEvaluation_ecp.stopped = true) ∧ ((State.safetySend (let z : State := State.record (State.puts { ({ wRun [(ROOK_STATE_STOP, 1), (ROOK_STATE_HALTED, 0)] with ply := 5000, rook := { State.reset.rook with release := [⟨1, 4999, true, some (3, 9), 0⟩] }, ecp := { State.reset.ecp with sessions := [{ id := 3, port := 1, ip := 0x0A000001, udp := 5000, inProg := [⟨9, 0x801, 5⟩] }] } } : State) with rook := { ({ wRun [(ROOK_STATE_STOP, 1), (ROOK_STATE_HALTED, 0)] with ply := 5000, rook := { State.reset.rook with release := [⟨1, 4999, true, some (3, 9), 0⟩] }, ecp := { State.reset.ecp with sessions := [{ id := 3, port := 1, ip := 0x0A000001, udp := 5000, inProg := [⟨9, 0x801, 5⟩] }] } } : State).rook with release := ({ wRun [(ROOK_STATE_STOP, 1), (ROOK_STATE_HALTED, 0)] with ply := 5000, rook := { State.reset.rook with release := [⟨1, 4999, true, some (3, 9), 0⟩] }, ecp := { State.reset.ecp with sessions := [{ id := 3, port := 1, ip := 0x0A000001, udp := 5000, inProg := [⟨9, 0x801, 5⟩] }] } } : State).rook.release.filter (fun (q : StopReq) => !decide (q.ply < ({ wRun [(ROOK_STATE_STOP, 1), (ROOK_STATE_HALTED, 0)] with ply := 5000, rook := { State.reset.rook with release := [⟨1, 4999, true, some (3, 9), 0⟩] }, ecp := { State.reset.ecp with sessions := [{ id := 3, port := 1, ip := 0x0A000001, udp := 5000, inProg := [⟨9, 0x801, 5⟩] }] } } : State).ply)) } } [(ROOK_STATE_STOP, 0), (ROOK_STATE_SRC_LATCHED, 0)]) .stopRelease; { z with rook := { z.rook with rep := [], raiseAt := some (({ wRun [(ROOK_STATE_STOP, 1), (ROOK_STATE_HALTED, 0)] with ply := 5000, rook := { State.reset.rook with release := [⟨1, 4999, true, some (3, 9), 0⟩] }, ecp := { State.reset.ecp with sessions := [{ id := 3, port := 1, ip := 0x0A000001, udp := 5000, inProg := [⟨9, 0x801, 5⟩] }] } } : State).ply + 1) } }) 2 (({ wRun [(ROOK_STATE_STOP, 1), (ROOK_STATE_HALTED, 0)] with ply := 5000, rook := { State.reset.rook with release := [⟨1, 4999, true, some (3, 9), 0⟩] }, ecp := { State.reset.ecp with sessions := [{ id := 3, port := 1, ip := 0x0A000001, udp := 5000, inProg := [⟨9, 0x801, 5⟩] }] } } : State).get ROOK_SEQ_SSEQ) 0xFF : State) = State.safetySend (let z : State := State.record (State.puts { w_releaseEvaluation_ecp with rook := { w_releaseEvaluation_ecp.rook with release := w_releaseEvaluation_ecp.rook.release.filter (fun (q : StopReq) => !decide (q.ply < w_releaseEvaluation_ecp.ply)) } } [(ROOK_STATE_STOP, 0), (ROOK_STATE_SRC_LATCHED, 0)]) .stopRelease; { z with rook := { z.rook with rep := [], raiseAt := some (w_releaseEvaluation_ecp.ply + 1) } }) 2 (w_releaseEvaluation_ecp.get ROOK_SEQ_SSEQ) 0xFF) ∧ (w_releaseEvaluation_ecp.session 3 = some ({ id := 3, port := 1, ip := 0x0A000001, udp := 5000, inProg := [⟨9, 0x801, 5⟩] } : EcpSession)) ∧ (({ id := 3, port := 1, ip := 0x0A000001, udp := 5000, inProg := [⟨9, 0x801, 5⟩] } : EcpSession).inProg.find? (fun (z : EcpOpen) => z.tag == 9) = some (⟨9, 0x801, 5⟩ : EcpOpen)) ∧ (({ id := 3, port := 1, ip := 0x0A000001, udp := 5000, inProg := [⟨9, 0x801, 5⟩] } : EcpSession).devSeq < 0xFFFFFFFF) ∧ (w_releaseEvaluation_ecp.sessSends ({ id := 3, port := 1, ip := 0x0A000001, udp := 5000, inProg := [⟨9, 0x801, 5⟩] } : EcpSession) = true) ∧ (3 ≠ 8 ∨ w_releaseEvaluation_ecp.ecp.spiOut.length < 16) ∧ (unheldOp (⟨9, 0x801, 5⟩ : EcpOpen).op = false)) ∧ (match exec (.releaseEvaluation) w_releaseEvaluation_ecp with
    | .next t => decide ((sends (State.safetySend (let z : State := State.record (State.puts { ({ wRun [(ROOK_STATE_STOP, 1), (ROOK_STATE_HALTED, 0)] with ply := 5000, rook := { State.reset.rook with release := [⟨1, 4999, true, some (3, 9), 0⟩] }, ecp := { State.reset.ecp with sessions := [{ id := 3, port := 1, ip := 0x0A000001, udp := 5000, inProg := [⟨9, 0x801, 5⟩] }] } } : State) with rook := { ({ wRun [(ROOK_STATE_STOP, 1), (ROOK_STATE_HALTED, 0)] with ply := 5000, rook := { State.reset.rook with release := [⟨1, 4999, true, some (3, 9), 0⟩] }, ecp := { State.reset.ecp with sessions := [{ id := 3, port := 1, ip := 0x0A000001, udp := 5000, inProg := [⟨9, 0x801, 5⟩] }] } } : State).rook with release := ({ wRun [(ROOK_STATE_STOP, 1), (ROOK_STATE_HALTED, 0)] with ply := 5000, rook := { State.reset.rook with release := [⟨1, 4999, true, some (3, 9), 0⟩] }, ecp := { State.reset.ecp with sessions := [{ id := 3, port := 1, ip := 0x0A000001, udp := 5000, inProg := [⟨9, 0x801, 5⟩] }] } } : State).rook.release.filter (fun (q : StopReq) => !decide (q.ply < ({ wRun [(ROOK_STATE_STOP, 1), (ROOK_STATE_HALTED, 0)] with ply := 5000, rook := { State.reset.rook with release := [⟨1, 4999, true, some (3, 9), 0⟩] }, ecp := { State.reset.ecp with sessions := [{ id := 3, port := 1, ip := 0x0A000001, udp := 5000, inProg := [⟨9, 0x801, 5⟩] }] } } : State).ply)) } } [(ROOK_STATE_STOP, 0), (ROOK_STATE_SRC_LATCHED, 0)]) .stopRelease; { z with rook := { z.rook with rep := [], raiseAt := some (({ wRun [(ROOK_STATE_STOP, 1), (ROOK_STATE_HALTED, 0)] with ply := 5000, rook := { State.reset.rook with release := [⟨1, 4999, true, some (3, 9), 0⟩] }, ecp := { State.reset.ecp with sessions := [{ id := 3, port := 1, ip := 0x0A000001, udp := 5000, inProg := [⟨9, 0x801, 5⟩] }] } } : State).ply + 1) } }) 2 (({ wRun [(ROOK_STATE_STOP, 1), (ROOK_STATE_HALTED, 0)] with ply := 5000, rook := { State.reset.rook with release := [⟨1, 4999, true, some (3, 9), 0⟩] }, ecp := { State.reset.ecp with sessions := [{ id := 3, port := 1, ip := 0x0A000001, udp := 5000, inProg := [⟨9, 0x801, 5⟩] }] } } : State).get ROOK_SEQ_SSEQ) 0xFF : State) t ({ id := 3, port := 1, ip := 0x0A000001, udp := 5000, inProg := [⟨9, 0x801, 5⟩] } : EcpSession) [] [⟨(⟨9, 0x801, 5⟩ : EcpOpen).op, 9, Ecp.OK, respFlags ({ id := 3, port := 1, ip := 0x0A000001, udp := 5000, inProg := [⟨9, 0x801, 5⟩] } : EcpSession), ({ id := 3, port := 1, ip := 0x0A000001, udp := 5000, inProg := [⟨9, 0x801, 5⟩] } : EcpSession).devSeq + 1, [0, 0, 0, 0], ({ id := 3, port := 1, ip := 0x0A000001, udp := 5000, inProg := [⟨9, 0x801, 5⟩] } : EcpSession).key⟩] = true) ∧ (t.session 3 = some { ({ id := 3, port := 1, ip := 0x0A000001, udp := 5000, inProg := [⟨9, 0x801, 5⟩] } : EcpSession) with devSeq := ({ id := 3, port := 1, ip := 0x0A000001, udp := 5000, inProg := [⟨9, 0x801, 5⟩] } : EcpSession).devSeq + 1, inProg := ({ id := 3, port := 1, ip := 0x0A000001, udp := 5000, inProg := [⟨9, 0x801, 5⟩] } : EcpSession).inProg.filter (fun z => z.tag ≠ 9), held := (holdResult ({ id := 3, port := 1, ip := 0x0A000001, udp := 5000, inProg := [⟨9, 0x801, 5⟩] } : EcpSession) ⟨9, (⟨9, 0x801, 5⟩ : EcpOpen).op, (⟨9, 0x801, 5⟩ : EcpOpen).crc, Ecp.OK, [0, 0, 0, 0], true⟩).held }) ∧ (onlySession (State.safetySend (let z : State := State.record (State.puts { ({ wRun [(ROOK_STATE_STOP, 1), (ROOK_STATE_HALTED, 0)] with ply := 5000, rook := { State.reset.rook with release := [⟨1, 4999, true, some (3, 9), 0⟩] }, ecp := { State.reset.ecp with sessions := [{ id := 3, port := 1, ip := 0x0A000001, udp := 5000, inProg := [⟨9, 0x801, 5⟩] }] } } : State) with rook := { ({ wRun [(ROOK_STATE_STOP, 1), (ROOK_STATE_HALTED, 0)] with ply := 5000, rook := { State.reset.rook with release := [⟨1, 4999, true, some (3, 9), 0⟩] }, ecp := { State.reset.ecp with sessions := [{ id := 3, port := 1, ip := 0x0A000001, udp := 5000, inProg := [⟨9, 0x801, 5⟩] }] } } : State).rook with release := ({ wRun [(ROOK_STATE_STOP, 1), (ROOK_STATE_HALTED, 0)] with ply := 5000, rook := { State.reset.rook with release := [⟨1, 4999, true, some (3, 9), 0⟩] }, ecp := { State.reset.ecp with sessions := [{ id := 3, port := 1, ip := 0x0A000001, udp := 5000, inProg := [⟨9, 0x801, 5⟩] }] } } : State).rook.release.filter (fun (q : StopReq) => !decide (q.ply < ({ wRun [(ROOK_STATE_STOP, 1), (ROOK_STATE_HALTED, 0)] with ply := 5000, rook := { State.reset.rook with release := [⟨1, 4999, true, some (3, 9), 0⟩] }, ecp := { State.reset.ecp with sessions := [{ id := 3, port := 1, ip := 0x0A000001, udp := 5000, inProg := [⟨9, 0x801, 5⟩] }] } } : State).ply)) } } [(ROOK_STATE_STOP, 0), (ROOK_STATE_SRC_LATCHED, 0)]) .stopRelease; { z with rook := { z.rook with rep := [], raiseAt := some (({ wRun [(ROOK_STATE_STOP, 1), (ROOK_STATE_HALTED, 0)] with ply := 5000, rook := { State.reset.rook with release := [⟨1, 4999, true, some (3, 9), 0⟩] }, ecp := { State.reset.ecp with sessions := [{ id := 3, port := 1, ip := 0x0A000001, udp := 5000, inProg := [⟨9, 0x801, 5⟩] }] } } : State).ply + 1) } }) 2 (({ wRun [(ROOK_STATE_STOP, 1), (ROOK_STATE_HALTED, 0)] with ply := 5000, rook := { State.reset.rook with release := [⟨1, 4999, true, some (3, 9), 0⟩] }, ecp := { State.reset.ecp with sessions := [{ id := 3, port := 1, ip := 0x0A000001, udp := 5000, inProg := [⟨9, 0x801, 5⟩] }] } } : State).get ROOK_SEQ_SSEQ) 0xFF : State) t 3 = true) ∧ (t = { (State.safetySend (let z : State := State.record (State.puts { ({ wRun [(ROOK_STATE_STOP, 1), (ROOK_STATE_HALTED, 0)] with ply := 5000, rook := { State.reset.rook with release := [⟨1, 4999, true, some (3, 9), 0⟩] }, ecp := { State.reset.ecp with sessions := [{ id := 3, port := 1, ip := 0x0A000001, udp := 5000, inProg := [⟨9, 0x801, 5⟩] }] } } : State) with rook := { ({ wRun [(ROOK_STATE_STOP, 1), (ROOK_STATE_HALTED, 0)] with ply := 5000, rook := { State.reset.rook with release := [⟨1, 4999, true, some (3, 9), 0⟩] }, ecp := { State.reset.ecp with sessions := [{ id := 3, port := 1, ip := 0x0A000001, udp := 5000, inProg := [⟨9, 0x801, 5⟩] }] } } : State).rook with release := ({ wRun [(ROOK_STATE_STOP, 1), (ROOK_STATE_HALTED, 0)] with ply := 5000, rook := { State.reset.rook with release := [⟨1, 4999, true, some (3, 9), 0⟩] }, ecp := { State.reset.ecp with sessions := [{ id := 3, port := 1, ip := 0x0A000001, udp := 5000, inProg := [⟨9, 0x801, 5⟩] }] } } : State).rook.release.filter (fun (q : StopReq) => !decide (q.ply < ({ wRun [(ROOK_STATE_STOP, 1), (ROOK_STATE_HALTED, 0)] with ply := 5000, rook := { State.reset.rook with release := [⟨1, 4999, true, some (3, 9), 0⟩] }, ecp := { State.reset.ecp with sessions := [{ id := 3, port := 1, ip := 0x0A000001, udp := 5000, inProg := [⟨9, 0x801, 5⟩] }] } } : State).ply)) } } [(ROOK_STATE_STOP, 0), (ROOK_STATE_SRC_LATCHED, 0)]) .stopRelease; { z with rook := { z.rook with rep := [], raiseAt := some (({ wRun [(ROOK_STATE_STOP, 1), (ROOK_STATE_HALTED, 0)] with ply := 5000, rook := { State.reset.rook with release := [⟨1, 4999, true, some (3, 9), 0⟩] }, ecp := { State.reset.ecp with sessions := [{ id := 3, port := 1, ip := 0x0A000001, udp := 5000, inProg := [⟨9, 0x801, 5⟩] }] } } : State).ply + 1) } }) 2 (({ wRun [(ROOK_STATE_STOP, 1), (ROOK_STATE_HALTED, 0)] with ply := 5000, rook := { State.reset.rook with release := [⟨1, 4999, true, some (3, 9), 0⟩] }, ecp := { State.reset.ecp with sessions := [{ id := 3, port := 1, ip := 0x0A000001, udp := 5000, inProg := [⟨9, 0x801, 5⟩] }] } } : State).get ROOK_SEQ_SSEQ) 0xFF : State) with ecp := t.ecp, out := t.out }))
    | _ => false) = true := by decide +kernel

def w_releaseEvaluation_ecpRun : State := { wRun [(ROOK_STATE_STOP, 0), (ROOK_STATE_HALTED, 0)] with ply := 5000, rook := { State.reset.rook with release := [⟨1, 4999, true, some (3, 9), 0⟩] }, ecp := { State.reset.ecp with sessions := [{ id := 3, port := 1, ip := 0x0A000001, udp := 5000, inProg := [⟨9, 0x801, 5⟩] }] } }

theorem test_releaseEvaluation_ecpRun : ((w_releaseEvaluation_ecpRun.stopSafe = true) ∧ (w_releaseEvaluation_ecpRun.rook.release.filter (fun (q : StopReq) => decide (q.ply < w_releaseEvaluation_ecpRun.ply)) = [(⟨1, 4999, true, some (3, 9), 0⟩ : StopReq)]) ∧ ((⟨1, 4999, true, some (3, 9), 0⟩ : StopReq).req = some (3, 9)) ∧ (w_releaseEvaluation_ecpRun.blockers (⟨1, 4999, true, some (3, 9), 0⟩ : StopReq).ignorePair = 0) ∧ (w_releaseEvaluation_ecpRun.stopped = false) ∧ (({ ({ wRun [(ROOK_STATE_STOP, 0), (ROOK_STATE_HALTED, 0)] with ply := 5000, rook := { State.reset.rook with release := [⟨1, 4999, true, some (3, 9), 0⟩] }, ecp := { State.reset.ecp with sessions := [{ id := 3, port := 1, ip := 0x0A000001, udp := 5000, inProg := [⟨9, 0x801, 5⟩] }] } } : State) with rook := { ({ wRun [(ROOK_STATE_STOP, 0), (ROOK_STATE_HALTED, 0)] with ply := 5000, rook := { State.reset.rook with release := [⟨1, 4999, true, some (3, 9), 0⟩] }, ecp := { State.reset.ecp with sessions := [{ id := 3, port := 1, ip := 0x0A000001, udp := 5000, inProg := [⟨9, 0x801, 5⟩] }] } } : State).rook with release := ({ wRun [(ROOK_STATE_STOP, 0), (ROOK_STATE_HALTED, 0)] with ply := 5000, rook := { State.reset.rook with release := [⟨1, 4999, true, some (3, 9), 0⟩] }, ecp := { State.reset.ecp with sessions := [{ id := 3, port := 1, ip := 0x0A000001, udp := 5000, inProg := [⟨9, 0x801, 5⟩] }] } } : State).rook.release.filter (fun (q : StopReq) => !decide (q.ply < ({ wRun [(ROOK_STATE_STOP, 0), (ROOK_STATE_HALTED, 0)] with ply := 5000, rook := { State.reset.rook with release := [⟨1, 4999, true, some (3, 9), 0⟩] }, ecp := { State.reset.ecp with sessions := [{ id := 3, port := 1, ip := 0x0A000001, udp := 5000, inProg := [⟨9, 0x801, 5⟩] }] } } : State).ply)) } } : State) = { w_releaseEvaluation_ecpRun with rook := { w_releaseEvaluation_ecpRun.rook with release := w_releaseEvaluation_ecpRun.rook.release.filter (fun (q : StopReq) => !decide (q.ply < w_releaseEvaluation_ecpRun.ply)) } }) ∧ (w_releaseEvaluation_ecpRun.session 3 = some ({ id := 3, port := 1, ip := 0x0A000001, udp := 5000, inProg := [⟨9, 0x801, 5⟩] } : EcpSession)) ∧ (({ id := 3, port := 1, ip := 0x0A000001, udp := 5000, inProg := [⟨9, 0x801, 5⟩] } : EcpSession).inProg.find? (fun (z : EcpOpen) => z.tag == 9) = some (⟨9, 0x801, 5⟩ : EcpOpen)) ∧ (({ id := 3, port := 1, ip := 0x0A000001, udp := 5000, inProg := [⟨9, 0x801, 5⟩] } : EcpSession).devSeq < 0xFFFFFFFF) ∧ (w_releaseEvaluation_ecpRun.sessSends ({ id := 3, port := 1, ip := 0x0A000001, udp := 5000, inProg := [⟨9, 0x801, 5⟩] } : EcpSession) = true) ∧ (3 ≠ 8 ∨ w_releaseEvaluation_ecpRun.ecp.spiOut.length < 16) ∧ (unheldOp (⟨9, 0x801, 5⟩ : EcpOpen).op = false)) ∧ (match exec (.releaseEvaluation) w_releaseEvaluation_ecpRun with
    | .next t => decide ((sends ({ ({ wRun [(ROOK_STATE_STOP, 0), (ROOK_STATE_HALTED, 0)] with ply := 5000, rook := { State.reset.rook with release := [⟨1, 4999, true, some (3, 9), 0⟩] }, ecp := { State.reset.ecp with sessions := [{ id := 3, port := 1, ip := 0x0A000001, udp := 5000, inProg := [⟨9, 0x801, 5⟩] }] } } : State) with rook := { ({ wRun [(ROOK_STATE_STOP, 0), (ROOK_STATE_HALTED, 0)] with ply := 5000, rook := { State.reset.rook with release := [⟨1, 4999, true, some (3, 9), 0⟩] }, ecp := { State.reset.ecp with sessions := [{ id := 3, port := 1, ip := 0x0A000001, udp := 5000, inProg := [⟨9, 0x801, 5⟩] }] } } : State).rook with release := ({ wRun [(ROOK_STATE_STOP, 0), (ROOK_STATE_HALTED, 0)] with ply := 5000, rook := { State.reset.rook with release := [⟨1, 4999, true, some (3, 9), 0⟩] }, ecp := { State.reset.ecp with sessions := [{ id := 3, port := 1, ip := 0x0A000001, udp := 5000, inProg := [⟨9, 0x801, 5⟩] }] } } : State).rook.release.filter (fun (q : StopReq) => !decide (q.ply < ({ wRun [(ROOK_STATE_STOP, 0), (ROOK_STATE_HALTED, 0)] with ply := 5000, rook := { State.reset.rook with release := [⟨1, 4999, true, some (3, 9), 0⟩] }, ecp := { State.reset.ecp with sessions := [{ id := 3, port := 1, ip := 0x0A000001, udp := 5000, inProg := [⟨9, 0x801, 5⟩] }] } } : State).ply)) } } : State) t ({ id := 3, port := 1, ip := 0x0A000001, udp := 5000, inProg := [⟨9, 0x801, 5⟩] } : EcpSession) [] [⟨(⟨9, 0x801, 5⟩ : EcpOpen).op, 9, Ecp.OK, respFlags ({ id := 3, port := 1, ip := 0x0A000001, udp := 5000, inProg := [⟨9, 0x801, 5⟩] } : EcpSession), ({ id := 3, port := 1, ip := 0x0A000001, udp := 5000, inProg := [⟨9, 0x801, 5⟩] } : EcpSession).devSeq + 1, [0, 0, 0, 0], ({ id := 3, port := 1, ip := 0x0A000001, udp := 5000, inProg := [⟨9, 0x801, 5⟩] } : EcpSession).key⟩] = true) ∧ (t.session 3 = some { ({ id := 3, port := 1, ip := 0x0A000001, udp := 5000, inProg := [⟨9, 0x801, 5⟩] } : EcpSession) with devSeq := ({ id := 3, port := 1, ip := 0x0A000001, udp := 5000, inProg := [⟨9, 0x801, 5⟩] } : EcpSession).devSeq + 1, inProg := ({ id := 3, port := 1, ip := 0x0A000001, udp := 5000, inProg := [⟨9, 0x801, 5⟩] } : EcpSession).inProg.filter (fun z => z.tag ≠ 9), held := (holdResult ({ id := 3, port := 1, ip := 0x0A000001, udp := 5000, inProg := [⟨9, 0x801, 5⟩] } : EcpSession) ⟨9, (⟨9, 0x801, 5⟩ : EcpOpen).op, (⟨9, 0x801, 5⟩ : EcpOpen).crc, Ecp.OK, [0, 0, 0, 0], true⟩).held }) ∧ (onlySession ({ ({ wRun [(ROOK_STATE_STOP, 0), (ROOK_STATE_HALTED, 0)] with ply := 5000, rook := { State.reset.rook with release := [⟨1, 4999, true, some (3, 9), 0⟩] }, ecp := { State.reset.ecp with sessions := [{ id := 3, port := 1, ip := 0x0A000001, udp := 5000, inProg := [⟨9, 0x801, 5⟩] }] } } : State) with rook := { ({ wRun [(ROOK_STATE_STOP, 0), (ROOK_STATE_HALTED, 0)] with ply := 5000, rook := { State.reset.rook with release := [⟨1, 4999, true, some (3, 9), 0⟩] }, ecp := { State.reset.ecp with sessions := [{ id := 3, port := 1, ip := 0x0A000001, udp := 5000, inProg := [⟨9, 0x801, 5⟩] }] } } : State).rook with release := ({ wRun [(ROOK_STATE_STOP, 0), (ROOK_STATE_HALTED, 0)] with ply := 5000, rook := { State.reset.rook with release := [⟨1, 4999, true, some (3, 9), 0⟩] }, ecp := { State.reset.ecp with sessions := [{ id := 3, port := 1, ip := 0x0A000001, udp := 5000, inProg := [⟨9, 0x801, 5⟩] }] } } : State).rook.release.filter (fun (q : StopReq) => !decide (q.ply < ({ wRun [(ROOK_STATE_STOP, 0), (ROOK_STATE_HALTED, 0)] with ply := 5000, rook := { State.reset.rook with release := [⟨1, 4999, true, some (3, 9), 0⟩] }, ecp := { State.reset.ecp with sessions := [{ id := 3, port := 1, ip := 0x0A000001, udp := 5000, inProg := [⟨9, 0x801, 5⟩] }] } } : State).ply)) } } : State) t 3 = true) ∧ (t = { ({ ({ wRun [(ROOK_STATE_STOP, 0), (ROOK_STATE_HALTED, 0)] with ply := 5000, rook := { State.reset.rook with release := [⟨1, 4999, true, some (3, 9), 0⟩] }, ecp := { State.reset.ecp with sessions := [{ id := 3, port := 1, ip := 0x0A000001, udp := 5000, inProg := [⟨9, 0x801, 5⟩] }] } } : State) with rook := { ({ wRun [(ROOK_STATE_STOP, 0), (ROOK_STATE_HALTED, 0)] with ply := 5000, rook := { State.reset.rook with release := [⟨1, 4999, true, some (3, 9), 0⟩] }, ecp := { State.reset.ecp with sessions := [{ id := 3, port := 1, ip := 0x0A000001, udp := 5000, inProg := [⟨9, 0x801, 5⟩] }] } } : State).rook with release := ({ wRun [(ROOK_STATE_STOP, 0), (ROOK_STATE_HALTED, 0)] with ply := 5000, rook := { State.reset.rook with release := [⟨1, 4999, true, some (3, 9), 0⟩] }, ecp := { State.reset.ecp with sessions := [{ id := 3, port := 1, ip := 0x0A000001, udp := 5000, inProg := [⟨9, 0x801, 5⟩] }] } } : State).rook.release.filter (fun (q : StopReq) => !decide (q.ply < ({ wRun [(ROOK_STATE_STOP, 0), (ROOK_STATE_HALTED, 0)] with ply := 5000, rook := { State.reset.rook with release := [⟨1, 4999, true, some (3, 9), 0⟩] }, ecp := { State.reset.ecp with sessions := [{ id := 3, port := 1, ip := 0x0A000001, udp := 5000, inProg := [⟨9, 0x801, 5⟩] }] } } : State).ply)) } } : State) with ecp := t.ecp, out := t.out }))
    | _ => false) = true := by decide +kernel

def w_faultClearEvaluation_ecp : State := { wRun [(ROOK_FAULT_SRAM_UE, 1)] with ply := 5000, rook := { State.reset.rook with clear := [⟨1, 4999, true, some (3, 9), 0⟩] }, ecp := { State.reset.ecp with sessions := [{ id := 3, port := 1, ip := 0x0A000001, udp := 5000, inProg := [⟨9, 0x801, 5⟩] }] } }

theorem test_faultClearEvaluation_ecp : ((w_faultClearEvaluation_ecp.stopSafe = true) ∧ (w_faultClearEvaluation_ecp.rook.clear.filter (fun (q : StopReq) => decide (q.ply < w_faultClearEvaluation_ecp.ply)) = [(⟨1, 4999, true, some (3, 9), 0⟩ : StopReq)]) ∧ ((⟨1, 4999, true, some (3, 9), 0⟩ : StopReq).req = some (3, 9)) ∧ ((State.clearFaults 0xFFFFFFFF ({ ({ wRun [(ROOK_FAULT_SRAM_UE, 1)] with ply := 5000, rook := { State.reset.rook with clear := [⟨1, 4999, true, some (3, 9), 0⟩] }, ecp := { State.reset.ecp with sessions := [{ id := 3, port := 1, ip := 0x0A000001, udp := 5000, inProg := [⟨9, 0x801, 5⟩] }] } } : State) with rook := { ({ wRun [(ROOK_FAULT_SRAM_UE, 1)] with ply := 5000, rook := { State.reset.rook with clear := [⟨1, 4999, true, some (3, 9), 0⟩] }, ecp := { State.reset.ecp with sessions := [{ id := 3, port := 1, ip := 0x0A000001, udp := 5000, inProg := [⟨9, 0x801, 5⟩] }] } } : State).rook with clear := ({ wRun [(ROOK_FAULT_SRAM_UE, 1)] with ply := 5000, rook := { State.reset.rook with clear := [⟨1, 4999, true, some (3, 9), 0⟩] }, ecp := { State.reset.ecp with sessions := [{ id := 3, port := 1, ip := 0x0A000001, udp := 5000, inProg := [⟨9, 0x801, 5⟩] }] } } : State).rook.clear.filter (fun (q : StopReq) => !decide (q.ply < ({ wRun [(ROOK_FAULT_SRAM_UE, 1)] with ply := 5000, rook := { State.reset.rook with clear := [⟨1, 4999, true, some (3, 9), 0⟩] }, ecp := { State.reset.ecp with sessions := [{ id := 3, port := 1, ip := 0x0A000001, udp := 5000, inProg := [⟨9, 0x801, 5⟩] }] } } : State).ply)) } }) : State) = State.clearFaults 0xFFFFFFFF ({ w_faultClearEvaluation_ecp with rook := { w_faultClearEvaluation_ecp.rook with clear := w_faultClearEvaluation_ecp.rook.clear.filter (fun (q : StopReq) => !decide (q.ply < w_faultClearEvaluation_ecp.ply)) } })) ∧ (w_faultClearEvaluation_ecp.session 3 = some ({ id := 3, port := 1, ip := 0x0A000001, udp := 5000, inProg := [⟨9, 0x801, 5⟩] } : EcpSession)) ∧ (({ id := 3, port := 1, ip := 0x0A000001, udp := 5000, inProg := [⟨9, 0x801, 5⟩] } : EcpSession).inProg.find? (fun (z : EcpOpen) => z.tag == 9) = some (⟨9, 0x801, 5⟩ : EcpOpen)) ∧ (({ id := 3, port := 1, ip := 0x0A000001, udp := 5000, inProg := [⟨9, 0x801, 5⟩] } : EcpSession).devSeq < 0xFFFFFFFF) ∧ (w_faultClearEvaluation_ecp.sessSends ({ id := 3, port := 1, ip := 0x0A000001, udp := 5000, inProg := [⟨9, 0x801, 5⟩] } : EcpSession) = true) ∧ (3 ≠ 8 ∨ w_faultClearEvaluation_ecp.ecp.spiOut.length < 16) ∧ (unheldOp (⟨9, 0x801, 5⟩ : EcpOpen).op = false)) ∧ (match exec (.faultClearEvaluation) w_faultClearEvaluation_ecp with
    | .next t => decide ((sends (State.clearFaults 0xFFFFFFFF ({ ({ wRun [(ROOK_FAULT_SRAM_UE, 1)] with ply := 5000, rook := { State.reset.rook with clear := [⟨1, 4999, true, some (3, 9), 0⟩] }, ecp := { State.reset.ecp with sessions := [{ id := 3, port := 1, ip := 0x0A000001, udp := 5000, inProg := [⟨9, 0x801, 5⟩] }] } } : State) with rook := { ({ wRun [(ROOK_FAULT_SRAM_UE, 1)] with ply := 5000, rook := { State.reset.rook with clear := [⟨1, 4999, true, some (3, 9), 0⟩] }, ecp := { State.reset.ecp with sessions := [{ id := 3, port := 1, ip := 0x0A000001, udp := 5000, inProg := [⟨9, 0x801, 5⟩] }] } } : State).rook with clear := ({ wRun [(ROOK_FAULT_SRAM_UE, 1)] with ply := 5000, rook := { State.reset.rook with clear := [⟨1, 4999, true, some (3, 9), 0⟩] }, ecp := { State.reset.ecp with sessions := [{ id := 3, port := 1, ip := 0x0A000001, udp := 5000, inProg := [⟨9, 0x801, 5⟩] }] } } : State).rook.clear.filter (fun (q : StopReq) => !decide (q.ply < ({ wRun [(ROOK_FAULT_SRAM_UE, 1)] with ply := 5000, rook := { State.reset.rook with clear := [⟨1, 4999, true, some (3, 9), 0⟩] }, ecp := { State.reset.ecp with sessions := [{ id := 3, port := 1, ip := 0x0A000001, udp := 5000, inProg := [⟨9, 0x801, 5⟩] }] } } : State).ply)) } }) : State) t ({ id := 3, port := 1, ip := 0x0A000001, udp := 5000, inProg := [⟨9, 0x801, 5⟩] } : EcpSession) [] [⟨(⟨9, 0x801, 5⟩ : EcpOpen).op, 9, Ecp.OK, respFlags ({ id := 3, port := 1, ip := 0x0A000001, udp := 5000, inProg := [⟨9, 0x801, 5⟩] } : EcpSession), ({ id := 3, port := 1, ip := 0x0A000001, udp := 5000, inProg := [⟨9, 0x801, 5⟩] } : EcpSession).devSeq + 1, (leBytes 4 (State.clearFaults 0xFFFFFFFF ({ ({ wRun [(ROOK_FAULT_SRAM_UE, 1)] with ply := 5000, rook := { State.reset.rook with clear := [⟨1, 4999, true, some (3, 9), 0⟩] }, ecp := { State.reset.ecp with sessions := [{ id := 3, port := 1, ip := 0x0A000001, udp := 5000, inProg := [⟨9, 0x801, 5⟩] }] } } : State) with rook := { ({ wRun [(ROOK_FAULT_SRAM_UE, 1)] with ply := 5000, rook := { State.reset.rook with clear := [⟨1, 4999, true, some (3, 9), 0⟩] }, ecp := { State.reset.ecp with sessions := [{ id := 3, port := 1, ip := 0x0A000001, udp := 5000, inProg := [⟨9, 0x801, 5⟩] }] } } : State).rook with clear := ({ wRun [(ROOK_FAULT_SRAM_UE, 1)] with ply := 5000, rook := { State.reset.rook with clear := [⟨1, 4999, true, some (3, 9), 0⟩] }, ecp := { State.reset.ecp with sessions := [{ id := 3, port := 1, ip := 0x0A000001, udp := 5000, inProg := [⟨9, 0x801, 5⟩] }] } } : State).rook.clear.filter (fun (q : StopReq) => !decide (q.ply < ({ wRun [(ROOK_FAULT_SRAM_UE, 1)] with ply := 5000, rook := { State.reset.rook with clear := [⟨1, 4999, true, some (3, 9), 0⟩] }, ecp := { State.reset.ecp with sessions := [{ id := 3, port := 1, ip := 0x0A000001, udp := 5000, inProg := [⟨9, 0x801, 5⟩] }] } } : State).ply)) } }) : State).faultWord), ({ id := 3, port := 1, ip := 0x0A000001, udp := 5000, inProg := [⟨9, 0x801, 5⟩] } : EcpSession).key⟩] = true) ∧ (t.session 3 = some { ({ id := 3, port := 1, ip := 0x0A000001, udp := 5000, inProg := [⟨9, 0x801, 5⟩] } : EcpSession) with devSeq := ({ id := 3, port := 1, ip := 0x0A000001, udp := 5000, inProg := [⟨9, 0x801, 5⟩] } : EcpSession).devSeq + 1, inProg := ({ id := 3, port := 1, ip := 0x0A000001, udp := 5000, inProg := [⟨9, 0x801, 5⟩] } : EcpSession).inProg.filter (fun z => z.tag ≠ 9), held := (holdResult ({ id := 3, port := 1, ip := 0x0A000001, udp := 5000, inProg := [⟨9, 0x801, 5⟩] } : EcpSession) ⟨9, (⟨9, 0x801, 5⟩ : EcpOpen).op, (⟨9, 0x801, 5⟩ : EcpOpen).crc, Ecp.OK, (leBytes 4 (State.clearFaults 0xFFFFFFFF ({ ({ wRun [(ROOK_FAULT_SRAM_UE, 1)] with ply := 5000, rook := { State.reset.rook with clear := [⟨1, 4999, true, some (3, 9), 0⟩] }, ecp := { State.reset.ecp with sessions := [{ id := 3, port := 1, ip := 0x0A000001, udp := 5000, inProg := [⟨9, 0x801, 5⟩] }] } } : State) with rook := { ({ wRun [(ROOK_FAULT_SRAM_UE, 1)] with ply := 5000, rook := { State.reset.rook with clear := [⟨1, 4999, true, some (3, 9), 0⟩] }, ecp := { State.reset.ecp with sessions := [{ id := 3, port := 1, ip := 0x0A000001, udp := 5000, inProg := [⟨9, 0x801, 5⟩] }] } } : State).rook with clear := ({ wRun [(ROOK_FAULT_SRAM_UE, 1)] with ply := 5000, rook := { State.reset.rook with clear := [⟨1, 4999, true, some (3, 9), 0⟩] }, ecp := { State.reset.ecp with sessions := [{ id := 3, port := 1, ip := 0x0A000001, udp := 5000, inProg := [⟨9, 0x801, 5⟩] }] } } : State).rook.clear.filter (fun (q : StopReq) => !decide (q.ply < ({ wRun [(ROOK_FAULT_SRAM_UE, 1)] with ply := 5000, rook := { State.reset.rook with clear := [⟨1, 4999, true, some (3, 9), 0⟩] }, ecp := { State.reset.ecp with sessions := [{ id := 3, port := 1, ip := 0x0A000001, udp := 5000, inProg := [⟨9, 0x801, 5⟩] }] } } : State).ply)) } }) : State).faultWord), true⟩).held }) ∧ (onlySession (State.clearFaults 0xFFFFFFFF ({ ({ wRun [(ROOK_FAULT_SRAM_UE, 1)] with ply := 5000, rook := { State.reset.rook with clear := [⟨1, 4999, true, some (3, 9), 0⟩] }, ecp := { State.reset.ecp with sessions := [{ id := 3, port := 1, ip := 0x0A000001, udp := 5000, inProg := [⟨9, 0x801, 5⟩] }] } } : State) with rook := { ({ wRun [(ROOK_FAULT_SRAM_UE, 1)] with ply := 5000, rook := { State.reset.rook with clear := [⟨1, 4999, true, some (3, 9), 0⟩] }, ecp := { State.reset.ecp with sessions := [{ id := 3, port := 1, ip := 0x0A000001, udp := 5000, inProg := [⟨9, 0x801, 5⟩] }] } } : State).rook with clear := ({ wRun [(ROOK_FAULT_SRAM_UE, 1)] with ply := 5000, rook := { State.reset.rook with clear := [⟨1, 4999, true, some (3, 9), 0⟩] }, ecp := { State.reset.ecp with sessions := [{ id := 3, port := 1, ip := 0x0A000001, udp := 5000, inProg := [⟨9, 0x801, 5⟩] }] } } : State).rook.clear.filter (fun (q : StopReq) => !decide (q.ply < ({ wRun [(ROOK_FAULT_SRAM_UE, 1)] with ply := 5000, rook := { State.reset.rook with clear := [⟨1, 4999, true, some (3, 9), 0⟩] }, ecp := { State.reset.ecp with sessions := [{ id := 3, port := 1, ip := 0x0A000001, udp := 5000, inProg := [⟨9, 0x801, 5⟩] }] } } : State).ply)) } }) : State) t 3 = true) ∧ (t = { (State.clearFaults 0xFFFFFFFF ({ ({ wRun [(ROOK_FAULT_SRAM_UE, 1)] with ply := 5000, rook := { State.reset.rook with clear := [⟨1, 4999, true, some (3, 9), 0⟩] }, ecp := { State.reset.ecp with sessions := [{ id := 3, port := 1, ip := 0x0A000001, udp := 5000, inProg := [⟨9, 0x801, 5⟩] }] } } : State) with rook := { ({ wRun [(ROOK_FAULT_SRAM_UE, 1)] with ply := 5000, rook := { State.reset.rook with clear := [⟨1, 4999, true, some (3, 9), 0⟩] }, ecp := { State.reset.ecp with sessions := [{ id := 3, port := 1, ip := 0x0A000001, udp := 5000, inProg := [⟨9, 0x801, 5⟩] }] } } : State).rook with clear := ({ wRun [(ROOK_FAULT_SRAM_UE, 1)] with ply := 5000, rook := { State.reset.rook with clear := [⟨1, 4999, true, some (3, 9), 0⟩] }, ecp := { State.reset.ecp with sessions := [{ id := 3, port := 1, ip := 0x0A000001, udp := 5000, inProg := [⟨9, 0x801, 5⟩] }] } } : State).rook.clear.filter (fun (q : StopReq) => !decide (q.ply < ({ wRun [(ROOK_FAULT_SRAM_UE, 1)] with ply := 5000, rook := { State.reset.rook with clear := [⟨1, 4999, true, some (3, 9), 0⟩] }, ecp := { State.reset.ecp with sessions := [{ id := 3, port := 1, ip := 0x0A000001, udp := 5000, inProg := [⟨9, 0x801, 5⟩] }] } } : State).ply)) } }) : State) with ecp := t.ecp, out := t.out }))
    | _ => false) = true := by decide +kernel

def w_releaseEvaluation_ecpDenied : State := { wRun [] with ply := 5000, rook := { State.reset.rook with release := [⟨1, 4999, true, some (3, 9), 0⟩] }, ecp := { State.reset.ecp with sessions := [{ id := 3, port := 1, ip := 0x0A000001, udp := 5000, inProg := [⟨9, 0x801, 5⟩] }] } }

theorem test_releaseEvaluation_ecpDenied : ((w_releaseEvaluation_ecpDenied.stopSafe = true) ∧ (w_releaseEvaluation_ecpDenied.rook.release.filter (fun (q : StopReq) => decide (q.ply < w_releaseEvaluation_ecpDenied.ply)) = [(⟨1, 4999, true, some (3, 9), 0⟩ : StopReq)]) ∧ ((⟨1, 4999, true, some (3, 9), 0⟩ : StopReq).req = some (3, 9)) ∧ (w_releaseEvaluation_ecpDenied.blockers (⟨1, 4999, true, some (3, 9), 0⟩ : StopReq).ignorePair ≠ 0) ∧ (({ ({ wRun [] with ply := 5000, rook := { State.reset.rook with release := [⟨1, 4999, true, some (3, 9), 0⟩] }, ecp := { State.reset.ecp with sessions := [{ id := 3, port := 1, ip := 0x0A000001, udp := 5000, inProg := [⟨9, 0x801, 5⟩] }] } } : State) with rook := State.reset.rook } : State) = { w_releaseEvaluation_ecpDenied with rook := { w_releaseEvaluation_ecpDenied.rook with release := w_releaseEvaluation_ecpDenied.rook.release.filter (fun (q : StopReq) => !decide (q.ply < w_releaseEvaluation_ecpDenied.ply)) } }) ∧ (w_releaseEvaluation_ecpDenied.session 3 = some ({ id := 3, port := 1, ip := 0x0A000001, udp := 5000, inProg := [⟨9, 0x801, 5⟩] } : EcpSession)) ∧ (({ id := 3, port := 1, ip := 0x0A000001, udp := 5000, inProg := [⟨9, 0x801, 5⟩] } : EcpSession).inProg.find? (fun (z : EcpOpen) => z.tag == 9) = some (⟨9, 0x801, 5⟩ : EcpOpen)) ∧ (({ id := 3, port := 1, ip := 0x0A000001, udp := 5000, inProg := [⟨9, 0x801, 5⟩] } : EcpSession).devSeq < 0xFFFFFFFF) ∧ (w_releaseEvaluation_ecpDenied.sessSends ({ id := 3, port := 1, ip := 0x0A000001, udp := 5000, inProg := [⟨9, 0x801, 5⟩] } : EcpSession) = true) ∧ (3 ≠ 8 ∨ w_releaseEvaluation_ecpDenied.ecp.spiOut.length < 16) ∧ (unheldOp (⟨9, 0x801, 5⟩ : EcpOpen).op = false)) ∧ (match exec (.releaseEvaluation) w_releaseEvaluation_ecpDenied with
    | .next t => decide ((sends ({ ({ wRun [] with ply := 5000, rook := { State.reset.rook with release := [⟨1, 4999, true, some (3, 9), 0⟩] }, ecp := { State.reset.ecp with sessions := [{ id := 3, port := 1, ip := 0x0A000001, udp := 5000, inProg := [⟨9, 0x801, 5⟩] }] } } : State) with rook := State.reset.rook } : State) t ({ id := 3, port := 1, ip := 0x0A000001, udp := 5000, inProg := [⟨9, 0x801, 5⟩] } : EcpSession) [] [⟨(⟨9, 0x801, 5⟩ : EcpOpen).op, 9, Ecp.DENIED, respFlags ({ id := 3, port := 1, ip := 0x0A000001, udp := 5000, inProg := [⟨9, 0x801, 5⟩] } : EcpSession), ({ id := 3, port := 1, ip := 0x0A000001, udp := 5000, inProg := [⟨9, 0x801, 5⟩] } : EcpSession).devSeq + 1, [w_releaseEvaluation_ecpDenied.blockers (⟨1, 4999, true, some (3, 9), 0⟩ : StopReq).ignorePair, 0, 0, 0], ({ id := 3, port := 1, ip := 0x0A000001, udp := 5000, inProg := [⟨9, 0x801, 5⟩] } : EcpSession).key⟩] = true) ∧ (t.session 3 = some { ({ id := 3, port := 1, ip := 0x0A000001, udp := 5000, inProg := [⟨9, 0x801, 5⟩] } : EcpSession) with devSeq := ({ id := 3, port := 1, ip := 0x0A000001, udp := 5000, inProg := [⟨9, 0x801, 5⟩] } : EcpSession).devSeq + 1, inProg := ({ id := 3, port := 1, ip := 0x0A000001, udp := 5000, inProg := [⟨9, 0x801, 5⟩] } : EcpSession).inProg.filter (fun z => z.tag ≠ 9), held := (holdResult ({ id := 3, port := 1, ip := 0x0A000001, udp := 5000, inProg := [⟨9, 0x801, 5⟩] } : EcpSession) ⟨9, (⟨9, 0x801, 5⟩ : EcpOpen).op, (⟨9, 0x801, 5⟩ : EcpOpen).crc, Ecp.DENIED, [w_releaseEvaluation_ecpDenied.blockers (⟨1, 4999, true, some (3, 9), 0⟩ : StopReq).ignorePair, 0, 0, 0], true⟩).held }) ∧ (onlySession ({ ({ wRun [] with ply := 5000, rook := { State.reset.rook with release := [⟨1, 4999, true, some (3, 9), 0⟩] }, ecp := { State.reset.ecp with sessions := [{ id := 3, port := 1, ip := 0x0A000001, udp := 5000, inProg := [⟨9, 0x801, 5⟩] }] } } : State) with rook := State.reset.rook } : State) t 3 = true) ∧ (t = { ({ ({ wRun [] with ply := 5000, rook := { State.reset.rook with release := [⟨1, 4999, true, some (3, 9), 0⟩] }, ecp := { State.reset.ecp with sessions := [{ id := 3, port := 1, ip := 0x0A000001, udp := 5000, inProg := [⟨9, 0x801, 5⟩] }] } } : State) with rook := State.reset.rook } : State) with ecp := t.ecp, out := t.out }))
    | _ => false) = true := by decide +kernel

def w_stopStatus : State := withSess (wRun [(PAIR_STATUS_ACTIVE, 1), (ROOK_STATE_STOP, 0), (ROOK_STATE_SRC_LATCHED, 0), (RELAY_STATUS_DRIVE, 5), (LANE_CFG_EN 4, 1), (LANE_CFG_EN 2, 1), (LANE_CFG_RATE 4, 1), (ROOK_SEQ_SSEQ, 255), (PCH_W5_STATE 9, 2), (MSTOP_MEMBERS 0, 0x101), (STOP_PORT_RES_RESULT 2, 7)])

theorem test_stopStatus : ((w_stopStatus.stopSafe = true) ∧ (w_stopStatus.accepts 0x0804 3 9 false = true) ∧ (w_stopStatus.rookHeld = false)) ∧ (match exec (.stopStatus 3 9) w_stopStatus with
    | .next t => decide ((answers w_stopStatus t [] 0x0804 3 9 Ecp.OK (crc32c []) w_stopStatus.stopStatus = true) ∧ (w_stopStatus.stopStatus.length = 32) ∧ (w_stopStatus.stopStatus.take 4 = [w_stopStatus.get ROOK_STATE_STOP + 2 * w_stopStatus.get ROOK_STATE_HALTED + 4 * w_stopStatus.get ROOK_STATE_FAULT + 8 * w_stopStatus.get ROOK_STATE_RESERVE_LOW, w_stopStatus.get ROOK_STATE_SRC_LATCHED, w_stopStatus.blockers false, w_stopStatus.get ROOK_SEQ_SSEQ]) ∧ ((w_stopStatus.stopStatus.drop 8).take 4 = [w_stopStatus.get LOOP_STATUS_OPEN, w_stopStatus.get ROOK_FAULT_LOOP, w_stopStatus.get RELAY_STATUS_DRIVE + 16 * w_stopStatus.get RELAY_STATUS_FB, (allAddrs.filter w_stopStatus.mstop).length]))
    | _ => false) = true := by decide +kernel

def w_stopStatus_held : State := withSess { at_ [(PAIR_STATUS_ACTIVE, 1)] with rst := { State.reset.rst with held := [.rook] } }

theorem test_stopStatus_held : ((w_stopStatus_held.stopSafe = true) ∧ (w_stopStatus_held.accepts 0x0804 3 9 false = true) ∧ (w_stopStatus_held.rookHeld = true)) ∧ (match exec (.stopStatus 3 9) w_stopStatus_held with
    | .next t => decide ((answers w_stopStatus_held t [] 0x0804 3 9 Ecp.NOT_READY (crc32c []) [] = true))
    | _ => false) = true := by decide +kernel

def w_pairEnable : State := { wRun [(ETH_CFG_LINK 5, 1), (ETH_CFG_SPEED 5, 1)] with ecp := { State.reset.ecp with sessions := [{ id := 3, port := 1 }, { id := 4, port := 5 }] } }

theorem test_pairEnable : ((w_pairEnable.stopSafe = true) ∧ (MayWrite w_pairEnable 0x10 0x40510000) ∧ (bits 0x40071E00 15 8 ≠ 0) ∧ (w_pairEnable.bit PAIR_CTRL_LOCK = false) ∧ (bitOf 0x40071E00 30 = true) ∧ (w_pairEnable.bit PAIR_CTRL_EN = false)) ∧ (match exec (.pairEnable 0x10 0x40071E00) w_pairEnable with
    | .next t => decide ((Reads t [(PAIR_CTRL_EN, 1), (PAIR_CTRL_KEY_SLOT, bits 0x40071E00 24 16 % 2 ^ PAIR_CTRL_KEY_SLOT.w), (PAIR_CTRL_DRILL_DAYS, bits 0x40071E00 15 8), (PAIR_CTRL_LOCK, b2n (bitOf 0x40071E00 31)), (PAIR_STATUS_LINK, w_pairEnable.get (ETH_CFG_LINK 5)), (PAIR_STATUS_PAIR_SLOW, b2n (w_pairEnable.bit (ETH_CFG_LINK 5) && decide (w_pairEnable.get (ETH_CFG_SPEED 5) < 2)))]) ∧ (t.ecp.sessions.all (fun y => y.id == 8 || y.port != 5) = true) ∧ (t.ecp.sessions = w_pairEnable.ecp.sessions.filter (fun y => y.id == 8 || y.port != 5)) ∧ (t.pair = (if w_pairEnable.active then w_pairEnable.pair else { w_pairEnable.pair with listen := true, heard := false, wait := false, since := w_pairEnable.ply })) ∧ (t.time = { w_pairEnable.time with ptp := ((w_pairEnable.time.ptp.set 10 (if leAt w_pairEnable.time.ptp 10 1 = 5 then 0xFF else leAt w_pairEnable.time.ptp 10 1)).set 12 (if leAt w_pairEnable.time.ptp 12 1 = 5 then 0xFF else leAt w_pairEnable.time.ptp 12 1)) }) ∧ (t = State.pairCtrl 0x40071E00 w_pairEnable))
    | _ => false) = true := by decide +kernel

def w_pairEnable_none : State := wRun [(PAIR_CTRL_LOCK, 1)]

theorem test_pairEnable_none : ((w_pairEnable_none.stopSafe = true) ∧ (bitOf 0xC0071E00 30 = false ∨ w_pairEnable_none.bit PAIR_CTRL_EN = true ∨ (MayWrite w_pairEnable_none 0x10 0x40510000 ∧ (bits 0xC0071E00 15 8 = 0 ∨ w_pairEnable_none.bit PAIR_CTRL_LOCK = true)))) ∧ (match exec (.pairEnable 0x10 0xC0071E00) w_pairEnable_none with
    | .next t => decide ((t = w_pairEnable_none))
    | _ => false) = true := by decide +kernel

def w_heartbeatSend : State := { wPair [(CLAIM, 8), (PAIR_STATUS_ACTIVE, 1), (PAIR_CTR_CTR, 4)] with pair := { State.reset.pair with epoch := some 77, seq := 4 }, time := { State.reset.time with grid := true, k := 1001, sec := 315964919, gridNs := 100100000000 } }

theorem test_heartbeatSend : ((w_heartbeatSend.stopSafe = true) ∧ (w_heartbeatSend.bit PAIR_CTRL_EN = true) ∧ (w_heartbeatSend.hbDue = true) ∧ (w_heartbeatSend.clk.refLost = false) ∧ (w_heartbeatSend.clk.txEndPending = false) ∧ (w_heartbeatSend.clk.txEnded = false) ∧ (w_heartbeatSend.pairKey = some (wKey7 : List Nat)) ∧ (w_heartbeatSend.pairUp = true) ∧ (w_heartbeatSend.pair.epoch = some 77)) ∧ (match exec (.heartbeatSend) w_heartbeatSend with
    | .next t => decide ((t.out = w_heartbeatSend.out ++ [Output.pair (pairBytes PairType.heartbeat w_heartbeatSend.unitBit 77 (w_heartbeatSend.pair.seq + 1) w_heartbeatSend.sfn (w_heartbeatSend.hbBody) ++ pairMac (wKey7 : List Nat) (pairBytes PairType.heartbeat w_heartbeatSend.unitBit 77 (w_heartbeatSend.pair.seq + 1) w_heartbeatSend.sfn (w_heartbeatSend.hbBody)))]) ∧ (t.pair = { w_heartbeatSend.pair with seq := w_heartbeatSend.pair.seq + 1, hbTx := some w_heartbeatSend.ply }) ∧ (w_heartbeatSend.hbBody.length = 32) ∧ (w_heartbeatSend.hbBody.take 8 = leBytes 4 (w_heartbeatSend.get CLAIM) ++ [w_heartbeatSend.hbState, w_heartbeatSend.get ROOK_SEQ_SSEQ, w_heartbeatSend.srcOwn, 0]) ∧ ((w_heartbeatSend.hbBody.drop 16).take 4 = leBytes 4 (w_heartbeatSend.get CKPT_SEQ_SEQ)) ∧ ((w_heartbeatSend.hbBody.drop 24).take 4 = leBytes 4 (w_heartbeatSend.get PAIR_CTR_CTR)))
    | _ => false) = true := by decide +kernel

def w_heartbeatSend_epoch : State := { wPair [(CLAIM, 8), (PAIR_STATUS_ACTIVE, 1), (PAIR_CTR_CTR, 4)] with pair := { State.reset.pair with seq := 4 }, time := { State.reset.time with grid := true, k := 1001, sec := 315964919, gridNs := 100100000000 } }

theorem test_heartbeatSend_epoch : (w_heartbeatSend_epoch.stopSafe = true) ∧ (w_heartbeatSend_epoch.bit PAIR_CTRL_EN = true) ∧ (w_heartbeatSend_epoch.hbDue = true) ∧ (w_heartbeatSend_epoch.clk.refLost = false) ∧ (w_heartbeatSend_epoch.clk.txEndPending = false) ∧ (w_heartbeatSend_epoch.clk.txEnded = false) ∧ (w_heartbeatSend_epoch.pairKey = some (wKey7 : List Nat)) ∧ (w_heartbeatSend_epoch.pairUp = true) ∧ (w_heartbeatSend_epoch.pair.epoch = none) := by decide +kernel

def w_heartbeatSend_down : State := { wPair [(PAIR_STATUS_LINK, 0)] with pair := { State.reset.pair with epoch := some 77, seq := 4 }, time := { State.reset.time with grid := true, k := 1001, sec := 315964919, gridNs := 100100000000 } }

theorem test_heartbeatSend_down : ((w_heartbeatSend_down.stopSafe = true) ∧ (w_heartbeatSend_down.bit PAIR_CTRL_EN = true) ∧ (w_heartbeatSend_down.hbDue = true) ∧ (w_heartbeatSend_down.clk.refLost = false) ∧ (w_heartbeatSend_down.clk.txEndPending = false) ∧ (w_heartbeatSend_down.clk.txEnded = false) ∧ (w_heartbeatSend_down.pairKey = some (wKey7 : List Nat)) ∧ (w_heartbeatSend_down.pairUp = false)) ∧ (match exec (.heartbeatSend) w_heartbeatSend_down with
    | .next t => decide ((t.pair = { w_heartbeatSend_down.pair with hbTx := some w_heartbeatSend_down.ply }))
    | _ => false) = true := by decide +kernel

def w_heartbeatSend_noKey : State := { wPair [(KS_SLOT_W0_TYPE 7, 0)] with pair := { State.reset.pair with epoch := some 77, seq := 4 }, time := { State.reset.time with grid := true, k := 1001, sec := 315964919, gridNs := 100100000000 } }

theorem test_heartbeatSend_noKey : ((w_heartbeatSend_noKey.stopSafe = true) ∧ (w_heartbeatSend_noKey.bit PAIR_CTRL_EN = true) ∧ (w_heartbeatSend_noKey.hbDue = true) ∧ (w_heartbeatSend_noKey.clk.refLost = false) ∧ (w_heartbeatSend_noKey.clk.txEndPending = false) ∧ (w_heartbeatSend_noKey.clk.txEnded = false) ∧ (w_heartbeatSend_noKey.pairKey = none)) ∧ (match exec (.heartbeatSend) w_heartbeatSend_noKey with
    | .next t => decide ((t = State.keyAbort { w_heartbeatSend_noKey with pair := { w_heartbeatSend_noKey.pair with hbTx := some w_heartbeatSend_noKey.ply } } (w_heartbeatSend_noKey.get PAIR_CTRL_KEY_SLOT) 3 5))
    | _ => false) = true := by decide +kernel

def w_heartbeatSend_none : State := wPair []

theorem test_heartbeatSend_none : ((w_heartbeatSend_none.stopSafe = true) ∧ (w_heartbeatSend_none.bit PAIR_CTRL_EN = false ∨ w_heartbeatSend_none.hbDue = false ∨ w_heartbeatSend_none.clk.refLost = true ∨ w_heartbeatSend_none.clk.txEndPending = true ∨ w_heartbeatSend_none.clk.txEnded = true)) ∧ (match exec (.heartbeatSend) w_heartbeatSend_none with
    | .next t => decide ((t = w_heartbeatSend_none))
    | _ => false) = true := by decide +kernel

def w_heartbeatReceive : State := wPair [(PAIR_CTR_CTR, 3), (CLAIM, 1)]

theorem test_heartbeatReceive : ((w_heartbeatReceive.stopSafe = true) ∧ (w_heartbeatReceive.bit PAIR_CTRL_EN = true) ∧ (w_heartbeatReceive.domOff 9 = false) ∧ (w_heartbeatReceive.pairKey = some (wKey7 : List Nat)) ∧ (w_heartbeatReceive.pairAccept (wKey7 : List Nat) (wPairMsg PairType.heartbeat (wHb 0xD 0) : List Nat) = some (⟨PairType.heartbeat, 88, 4, 0xFFFFFFFF, wHb 0xD 0⟩ : PairMsg)) ∧ ((⟨PairType.heartbeat, 88, 4, 0xFFFFFFFF, wHb 0xD 0⟩ : PairMsg).typ = PairType.heartbeat) ∧ (bitOf (leAt (⟨PairType.heartbeat, 88, 4, 0xFFFFFFFF, wHb 0xD 0⟩ : PairMsg).body 4 1) 1 = false) ∧ (w_heartbeatReceive.bit PAIR_STATUS_HANDOVER_PEND = false)) ∧ (match exec (.heartbeatReceive (wPairMsg PairType.heartbeat (wHb 0xD 0) : List Nat)) w_heartbeatReceive with
    | .next t => decide ((Reads t [(PARTNER_CLAIM_CLAIM, leAt (⟨PairType.heartbeat, 88, 4, 0xFFFFFFFF, wHb 0xD 0⟩ : PairMsg).body 0 4), (PAIR_STATUS_HB_OK, 1), (PAIR_STATUS_PARTNER_ACTIVE, b2n (bitOf (leAt (⟨PairType.heartbeat, 88, 4, 0xFFFFFFFF, wHb 0xD 0⟩ : PairMsg).body 4 1) 0)), (PAIR_STATUS_PARTNER_STOP, 0), (PAIR_CTR_CTR, if !w_heartbeatReceive.active && decide (w_heartbeatReceive.get PAIR_CTR_CTR < leAt (⟨PairType.heartbeat, 88, 4, 0xFFFFFFFF, wHb 0xD 0⟩ : PairMsg).body 24 4) then leAt (⟨PairType.heartbeat, 88, 4, 0xFFFFFFFF, wHb 0xD 0⟩ : PairMsg).body 24 4 % 2 ^ PAIR_CTR_CTR.w else w_heartbeatReceive.get PAIR_CTR_CTR), (PAIR_STATUS_KEY_MISMATCH, b2n (((⟨PairType.heartbeat, 88, 4, 0xFFFFFFFF, wHb 0xD 0⟩ : PairMsg).body.drop 20).take 4 != w_heartbeatReceive.keyChk)), (ROOK_SEQ_SSEQ, if bitOf (leAt (⟨PairType.heartbeat, 88, 4, 0xFFFFFFFF, wHb 0xD 0⟩ : PairMsg).body 4 1) 0 && !w_heartbeatReceive.rookHeld && sseqAhead (leAt (⟨PairType.heartbeat, 88, 4, 0xFFFFFFFF, wHb 0xD 0⟩ : PairMsg).body 5 1) (w_heartbeatReceive.get ROOK_SEQ_SSEQ) then leAt (⟨PairType.heartbeat, 88, 4, 0xFFFFFFFF, wHb 0xD 0⟩ : PairMsg).body 5 1 else w_heartbeatReceive.get ROOK_SEQ_SSEQ), (NET_K0_HI_VALID, if bitOf (leAt (⟨PairType.heartbeat, 88, 4, 0xFFFFFFFF, wHb 0xD 0⟩ : PairMsg).body 4 1) 0 then 1 else w_heartbeatReceive.get NET_K0_HI_VALID)]) ∧ (t.k0 = (if bitOf (leAt (⟨PairType.heartbeat, 88, 4, 0xFFFFFFFF, wHb 0xD 0⟩ : PairMsg).body 4 1) 0 && !w_heartbeatReceive.bit NET_K0_HI_VALID then leAt (⟨PairType.heartbeat, 88, 4, 0xFFFFFFFF, wHb 0xD 0⟩ : PairMsg).body 8 8 % 2 ^ 63 else w_heartbeatReceive.k0)) ∧ ((t.pair.hbPly, t.pair.pState, t.pair.pSrc, t.pair.pCtr, t.pair.pEpoch, t.pair.pSeq, t.pair.suspect) = (some w_heartbeatReceive.ply, leAt (⟨PairType.heartbeat, 88, 4, 0xFFFFFFFF, wHb 0xD 0⟩ : PairMsg).body 4 1, leAt (⟨PairType.heartbeat, 88, 4, 0xFFFFFFFF, wHb 0xD 0⟩ : PairMsg).body 6 1, leAt (⟨PairType.heartbeat, 88, 4, 0xFFFFFFFF, wHb 0xD 0⟩ : PairMsg).body 24 4, some (⟨PairType.heartbeat, 88, 4, 0xFFFFFFFF, wHb 0xD 0⟩ : PairMsg).epoch, (⟨PairType.heartbeat, 88, 4, 0xFFFFFFFF, wHb 0xD 0⟩ : PairMsg).seq, false)) ∧ (t.pair.heard = (w_heartbeatReceive.pair.heard || (bitOf (leAt (⟨PairType.heartbeat, 88, 4, 0xFFFFFFFF, wHb 0xD 0⟩ : PairMsg).body 4 1) 0 && (w_heartbeatReceive.pair.listen || w_heartbeatReceive.pair.wait)))) ∧ ((t.pair.copyBank, t.pair.copyVer) = (if bitOf (leAt (⟨PairType.heartbeat, 88, 4, 0xFFFFFFFF, wHb 0xD 0⟩ : PairMsg).body 4 1) 0 then (b2n (bitOf (leAt (⟨PairType.heartbeat, 88, 4, 0xFFFFFFFF, wHb 0xD 0⟩ : PairMsg).body 4 1) 4), leAt (⟨PairType.heartbeat, 88, 4, 0xFFFFFFFF, wHb 0xD 0⟩ : PairMsg).body 28 2) else (w_heartbeatReceive.pair.copyBank, w_heartbeatReceive.pair.copyVer))) ∧ (t.pair.yield = (w_heartbeatReceive.pair.yield || w_heartbeatReceive.active && bitOf (leAt (⟨PairType.heartbeat, 88, 4, 0xFFFFFFFF, wHb 0xD 0⟩ : PairMsg).body 4 1) 0 && decide (w_heartbeatReceive.get CLAIM < leAt (⟨PairType.heartbeat, 88, 4, 0xFFFFFFFF, wHb 0xD 0⟩ : PairMsg).body 0 4))) ∧ (t = State.takeHb { w_heartbeatReceive with pair := { w_heartbeatReceive.pair with pEpoch := some (⟨PairType.heartbeat, 88, 4, 0xFFFFFFFF, wHb 0xD 0⟩ : PairMsg).epoch, pSeq := (⟨PairType.heartbeat, 88, 4, 0xFFFFFFFF, wHb 0xD 0⟩ : PairMsg).seq } } (⟨PairType.heartbeat, 88, 4, 0xFFFFFFFF, wHb 0xD 0⟩ : PairMsg).body))
    | _ => false) = true := by decide +kernel

def w_heartbeatReceive_stop : State := wPair [(PAIR_STATUS_ACTIVE, 1), (CLAIM, 6), (ROOK_STATE_STOP, 0), (RELAY_STATUS_DRIVE, 3)]

theorem test_heartbeatReceive_stop : ((w_heartbeatReceive_stop.stopSafe = true) ∧ (w_heartbeatReceive_stop.bit PAIR_CTRL_EN = true) ∧ (w_heartbeatReceive_stop.domOff 9 = false) ∧ (w_heartbeatReceive_stop.pairKey = some (wKey7 : List Nat)) ∧ (w_heartbeatReceive_stop.pairAccept (wKey7 : List Nat) (wPairMsg PairType.heartbeat (wHb 3 1) : List Nat) = some (⟨PairType.heartbeat, 88, 4, 0xFFFFFFFF, wHb 3 1⟩ : PairMsg)) ∧ ((⟨PairType.heartbeat, 88, 4, 0xFFFFFFFF, wHb 3 1⟩ : PairMsg).typ = PairType.heartbeat) ∧ (bitOf (leAt (⟨PairType.heartbeat, 88, 4, 0xFFFFFFFF, wHb 3 1⟩ : PairMsg).body 4 1) 1 = true) ∧ (w_heartbeatReceive_stop.rookHeld = false) ∧ (w_heartbeatReceive_stop.bit PAIR_STATUS_HANDOVER_PEND = false)) ∧ (match exec (.heartbeatReceive (wPairMsg PairType.heartbeat (wHb 3 1) : List Nat)) w_heartbeatReceive_stop with
    | .next t => decide ((Reads t [(PARTNER_CLAIM_CLAIM, leAt (⟨PairType.heartbeat, 88, 4, 0xFFFFFFFF, wHb 3 1⟩ : PairMsg).body 0 4), (PAIR_STATUS_HB_OK, 1), (PAIR_STATUS_PARTNER_ACTIVE, b2n (bitOf (leAt (⟨PairType.heartbeat, 88, 4, 0xFFFFFFFF, wHb 3 1⟩ : PairMsg).body 4 1) 0)), (PAIR_STATUS_PARTNER_STOP, 1), (PAIR_CTR_CTR, if !w_heartbeatReceive_stop.active && decide (w_heartbeatReceive_stop.get PAIR_CTR_CTR < leAt (⟨PairType.heartbeat, 88, 4, 0xFFFFFFFF, wHb 3 1⟩ : PairMsg).body 24 4) then leAt (⟨PairType.heartbeat, 88, 4, 0xFFFFFFFF, wHb 3 1⟩ : PairMsg).body 24 4 % 2 ^ PAIR_CTR_CTR.w else w_heartbeatReceive_stop.get PAIR_CTR_CTR), (PAIR_STATUS_KEY_MISMATCH, b2n (((⟨PairType.heartbeat, 88, 4, 0xFFFFFFFF, wHb 3 1⟩ : PairMsg).body.drop 20).take 4 != w_heartbeatReceive_stop.keyChk)), (ROOK_SEQ_SSEQ, if bitOf (leAt (⟨PairType.heartbeat, 88, 4, 0xFFFFFFFF, wHb 3 1⟩ : PairMsg).body 4 1) 0 && !w_heartbeatReceive_stop.rookHeld && sseqAhead (leAt (⟨PairType.heartbeat, 88, 4, 0xFFFFFFFF, wHb 3 1⟩ : PairMsg).body 5 1) (w_heartbeatReceive_stop.get ROOK_SEQ_SSEQ) then leAt (⟨PairType.heartbeat, 88, 4, 0xFFFFFFFF, wHb 3 1⟩ : PairMsg).body 5 1 else w_heartbeatReceive_stop.get ROOK_SEQ_SSEQ), (NET_K0_HI_VALID, if bitOf (leAt (⟨PairType.heartbeat, 88, 4, 0xFFFFFFFF, wHb 3 1⟩ : PairMsg).body 4 1) 0 then 1 else w_heartbeatReceive_stop.get NET_K0_HI_VALID)]) ∧ (StopOn 5 w_heartbeatReceive_stop t))
    | _ => false) = true := by decide +kernel

def w_heartbeatReceive_handover : State := wPair [(PAIR_STATUS_HANDOVER_PEND, 1), (PAIR_STATUS_ACTIVE, 1)]

theorem test_heartbeatReceive_handover : ((w_heartbeatReceive_handover.stopSafe = true) ∧ (w_heartbeatReceive_handover.bit PAIR_CTRL_EN = true) ∧ (w_heartbeatReceive_handover.domOff 9 = false) ∧ (w_heartbeatReceive_handover.pairKey = some (wKey7 : List Nat)) ∧ (w_heartbeatReceive_handover.pairAccept (wKey7 : List Nat) (wPairMsg PairType.heartbeat (wHb 0xD 0) : List Nat) = some (⟨PairType.heartbeat, 88, 4, 0xFFFFFFFF, wHb 0xD 0⟩ : PairMsg)) ∧ ((⟨PairType.heartbeat, 88, 4, 0xFFFFFFFF, wHb 0xD 0⟩ : PairMsg).typ = PairType.heartbeat) ∧ (w_heartbeatReceive_handover.bit PAIR_STATUS_HANDOVER_PEND = true)) ∧ (match exec (.heartbeatReceive (wPairMsg PairType.heartbeat (wHb 0xD 0) : List Nat)) w_heartbeatReceive_handover with
    | .next t => decide ((t = State.takeHb { w_heartbeatReceive_handover with pair := { w_heartbeatReceive_handover.pair with pEpoch := some (⟨PairType.heartbeat, 88, 4, 0xFFFFFFFF, wHb 0xD 0⟩ : PairMsg).epoch, pSeq := (⟨PairType.heartbeat, 88, 4, 0xFFFFFFFF, wHb 0xD 0⟩ : PairMsg).seq } } (⟨PairType.heartbeat, 88, 4, 0xFFFFFFFF, wHb 0xD 0⟩ : PairMsg).body) ∧ (Reads t [(PARTNER_CLAIM_CLAIM, leAt (⟨PairType.heartbeat, 88, 4, 0xFFFFFFFF, wHb 0xD 0⟩ : PairMsg).body 0 4), (PAIR_STATUS_HB_OK, 1), (PAIR_STATUS_PARTNER_ACTIVE, b2n (bitOf (leAt (⟨PairType.heartbeat, 88, 4, 0xFFFFFFFF, wHb 0xD 0⟩ : PairMsg).body 4 1) 0)), (PAIR_STATUS_PARTNER_STOP, b2n (bitOf (leAt (⟨PairType.heartbeat, 88, 4, 0xFFFFFFFF, wHb 0xD 0⟩ : PairMsg).body 4 1) 1)), (PAIR_STATUS_HANDOVER_PEND, b2n (!(w_heartbeatReceive_handover.active && !bitOf (leAt (⟨PairType.heartbeat, 88, 4, 0xFFFFFFFF, wHb 0xD 0⟩ : PairMsg).body 4 1) 5)))]) ∧ ((w_heartbeatReceive_handover.active = true ∧ bitOf (leAt (⟨PairType.heartbeat, 88, 4, 0xFFFFFFFF, wHb 0xD 0⟩ : PairMsg).body 4 1) 5 = false → (t.pair.hoReq, t.pair.frozen, t.pair.hoLoaded) = (none, false, false))))
    | _ => false) = true := by decide +kernel

def w_heartbeatReceive_held : State := { wPair [(PAIR_STATUS_HANDOVER_PEND, 0)] with rst := { State.reset.rst with held := [.rook] } }

theorem test_heartbeatReceive_held : ((w_heartbeatReceive_held.stopSafe = true) ∧ (w_heartbeatReceive_held.bit PAIR_CTRL_EN = true) ∧ (w_heartbeatReceive_held.domOff 9 = false) ∧ (w_heartbeatReceive_held.pairKey = some (wKey7 : List Nat)) ∧ (w_heartbeatReceive_held.pairAccept (wKey7 : List Nat) (wPairMsg PairType.heartbeat (wHb 3 1) : List Nat) = some (⟨PairType.heartbeat, 88, 4, 0xFFFFFFFF, wHb 3 1⟩ : PairMsg)) ∧ ((⟨PairType.heartbeat, 88, 4, 0xFFFFFFFF, wHb 3 1⟩ : PairMsg).typ = PairType.heartbeat) ∧ (bitOf (leAt (⟨PairType.heartbeat, 88, 4, 0xFFFFFFFF, wHb 3 1⟩ : PairMsg).body 4 1) 1 = true) ∧ (w_heartbeatReceive_held.rookHeld = true)) ∧ (match exec (.heartbeatReceive (wPairMsg PairType.heartbeat (wHb 3 1) : List Nat)) w_heartbeatReceive_held with
    | .next t => decide ((t = State.takeHb { w_heartbeatReceive_held with pair := { w_heartbeatReceive_held.pair with pEpoch := some (⟨PairType.heartbeat, 88, 4, 0xFFFFFFFF, wHb 3 1⟩ : PairMsg).epoch, pSeq := (⟨PairType.heartbeat, 88, 4, 0xFFFFFFFF, wHb 3 1⟩ : PairMsg).seq } } (⟨PairType.heartbeat, 88, 4, 0xFFFFFFFF, wHb 3 1⟩ : PairMsg).body) ∧ (Reads t [(PARTNER_CLAIM_CLAIM, leAt (⟨PairType.heartbeat, 88, 4, 0xFFFFFFFF, wHb 3 1⟩ : PairMsg).body 0 4), (PAIR_STATUS_HB_OK, 1), (PAIR_STATUS_PARTNER_STOP, 1), (ROOK_STATE_STOP, w_heartbeatReceive_held.get ROOK_STATE_STOP), (ROOK_STATE_SRC_LATCHED, w_heartbeatReceive_held.get ROOK_STATE_SRC_LATCHED), (ROOK_SEQ_SSEQ, w_heartbeatReceive_held.get ROOK_SEQ_SSEQ)]))
    | _ => false) = true := by decide +kernel

theorem test_heartbeatReceive_disabled : ((wReset.stopSafe = true) ∧ (wReset.bit PAIR_CTRL_EN = false ∨ wReset.domOff 9 = true)) ∧ (match exec (.heartbeatReceive ([] : List Nat)) wReset with
    | .next t => decide ((t = wReset))
    | _ => false) = true := by decide +kernel

def w_heartbeatReceive_otherType : State := wPair []

theorem test_heartbeatReceive_otherType : ((w_heartbeatReceive_otherType.stopSafe = true) ∧ (w_heartbeatReceive_otherType.pairKey = some (wKey7 : List Nat)) ∧ (w_heartbeatReceive_otherType.pairAccept (wKey7 : List Nat) (wPairMsg PairType.safetyAck (leBytes 4 4) : List Nat) = some (⟨PairType.safetyAck, 88, 4, 0xFFFFFFFF, leBytes 4 4⟩ : PairMsg)) ∧ ((⟨PairType.safetyAck, 88, 4, 0xFFFFFFFF, leBytes 4 4⟩ : PairMsg).typ ≠ PairType.heartbeat)) ∧ (match exec (.heartbeatReceive (wPairMsg PairType.safetyAck (leBytes 4 4) : List Nat)) w_heartbeatReceive_otherType with
    | .next t => decide ((t = w_heartbeatReceive_otherType))
    | _ => false) = true := by decide +kernel

def w_heartbeatReceive_drop : State := wPair []

theorem test_heartbeatReceive_drop : ((w_heartbeatReceive_drop.stopSafe = true) ∧ (w_heartbeatReceive_drop.bit PAIR_CTRL_EN = true) ∧ (w_heartbeatReceive_drop.domOff 9 = false) ∧ (w_heartbeatReceive_drop.pairKey = some (wKey7 : List Nat)) ∧ (w_heartbeatReceive_drop.pairAccept (wKey7 : List Nat) ((wPairMsg PairType.heartbeat (wHb 3 1)).set 30 1 : List Nat) = none)) ∧ (match exec (.heartbeatReceive ((wPairMsg PairType.heartbeat (wHb 3 1)).set 30 1 : List Nat)) w_heartbeatReceive_drop with
    | .next t => decide ((Reads t [(PAIR_CNT_HB_DROP, w_heartbeatReceive_drop.adv PAIR_CNT_HB_DROP)]))
    | _ => false) = true := by decide +kernel

def w_heartbeatReceive_noKey : State := wPair [(KS_SLOT_W0_TYPE 7, 0)]

theorem test_heartbeatReceive_noKey : ((w_heartbeatReceive_noKey.stopSafe = true) ∧ (w_heartbeatReceive_noKey.bit PAIR_CTRL_EN = true) ∧ (w_heartbeatReceive_noKey.domOff 9 = false) ∧ (w_heartbeatReceive_noKey.pairKey = none)) ∧ (match exec (.heartbeatReceive (wPairMsg PairType.heartbeat (wHb 3 1) : List Nat)) w_heartbeatReceive_noKey with
    | .next t => decide ((t = State.bump (w_heartbeatReceive_noKey.keyAbort (w_heartbeatReceive_noKey.get PAIR_CTRL_KEY_SLOT) 3 5) PAIR_CNT_HB_DROP) ∧ (Reads t [(PAIR_CNT_HB_DROP, w_heartbeatReceive_noKey.adv PAIR_CNT_HB_DROP)]))
    | _ => false) = true := by decide +kernel

def w_heartbeatLost : State := wPair [(PAIR_STATUS_HB_OK, 1), (PAIR_STATUS_HANDOVER_PEND, 1)]

theorem test_heartbeatLost : ((w_heartbeatLost.stopSafe = true) ∧ (w_heartbeatLost.bit PAIR_STATUS_HB_OK = true) ∧ (w_heartbeatLost.pair.hbPly = some 20000) ∧ (20000 + 30000 ≤ w_heartbeatLost.ply) ∧ (w_heartbeatLost.pair.hoReq = none)) ∧ (match exec (.heartbeatLost) w_heartbeatLost with
    | .next t => decide ((Reads t [(PAIR_STATUS_HB_OK, 0), (PAIR_CNT2_HB_LOST, w_heartbeatLost.adv PAIR_CNT2_HB_LOST), (PAIR_STATUS_HANDOVER_PEND, 0)]) ∧ (t.pair = (if w_heartbeatLost.bit PAIR_STATUS_HANDOVER_PEND then { w_heartbeatLost.pair with frozen := false, hoReq := none, hoLoaded := false } else w_heartbeatLost.pair)) ∧ (t.evr = (if w_heartbeatLost.bit PAIR_STATUS_HANDOVER_PEND then State.record (State.handoverOver (State.record (State.bump (State.put w_heartbeatLost PAIR_STATUS_HB_OK 0) PAIR_CNT2_HB_LOST) .hbLost [])) .handoverAbort [] else State.record (State.bump (State.put w_heartbeatLost PAIR_STATUS_HB_OK 0) PAIR_CNT2_HB_LOST) .hbLost []).evr))
    | _ => false) = true := by decide +kernel

def w_heartbeatLost_handover : State := { wPair [(PAIR_STATUS_HB_OK, 1), (PAIR_STATUS_HANDOVER_PEND, 1), (PAIR_STATUS_ACTIVE, 1)] with pair := { hbPly := some 20000, frozen := true, hoReq := some (3, 9) }, ecp := { State.reset.ecp with sessions := [{ id := 3, port := 1, ip := 0x0A000001, udp := 5000, inProg := [⟨9, 0xE01, 5⟩] }] } }

theorem test_heartbeatLost_handover : ((w_heartbeatLost_handover.stopSafe = true) ∧ (w_heartbeatLost_handover.bit PAIR_STATUS_HB_OK = true) ∧ (w_heartbeatLost_handover.pair.hbPly = some 20000) ∧ (20000 + 30000 ≤ w_heartbeatLost_handover.ply) ∧ (w_heartbeatLost_handover.pair.hoReq = some (3, 9)) ∧ ((State.record (State.handoverOver (State.record (State.bump (State.put ({ wPair [(PAIR_STATUS_HB_OK, 1), (PAIR_STATUS_HANDOVER_PEND, 1), (PAIR_STATUS_ACTIVE, 1)] with pair := { hbPly := some 20000, frozen := true, hoReq := some (3, 9) }, ecp := { State.reset.ecp with sessions := [{ id := 3, port := 1, ip := 0x0A000001, udp := 5000, inProg := [⟨9, 0xE01, 5⟩] }] } } : State) PAIR_STATUS_HB_OK 0) PAIR_CNT2_HB_LOST) .hbLost [])) .handoverAbort [] : State) = State.record (State.handoverOver (State.record (State.bump (State.put w_heartbeatLost_handover PAIR_STATUS_HB_OK 0) PAIR_CNT2_HB_LOST) .hbLost [])) .handoverAbort []) ∧ (w_heartbeatLost_handover.session 3 = some ({ id := 3, port := 1, ip := 0x0A000001, udp := 5000, inProg := [⟨9, 0xE01, 5⟩] } : EcpSession)) ∧ (({ id := 3, port := 1, ip := 0x0A000001, udp := 5000, inProg := [⟨9, 0xE01, 5⟩] } : EcpSession).inProg.find? (fun (z : EcpOpen) => z.tag == 9) = some (⟨9, 0xE01, 5⟩ : EcpOpen)) ∧ (({ id := 3, port := 1, ip := 0x0A000001, udp := 5000, inProg := [⟨9, 0xE01, 5⟩] } : EcpSession).devSeq < 0xFFFFFFFF) ∧ (w_heartbeatLost_handover.sessSends ({ id := 3, port := 1, ip := 0x0A000001, udp := 5000, inProg := [⟨9, 0xE01, 5⟩] } : EcpSession) = true) ∧ (3 ≠ 8 ∨ w_heartbeatLost_handover.ecp.spiOut.length < 16) ∧ (unheldOp (⟨9, 0xE01, 5⟩ : EcpOpen).op = false)) ∧ (match exec (.heartbeatLost) w_heartbeatLost_handover with
    | .next t => decide ((sends (State.record (State.handoverOver (State.record (State.bump (State.put ({ wPair [(PAIR_STATUS_HB_OK, 1), (PAIR_STATUS_HANDOVER_PEND, 1), (PAIR_STATUS_ACTIVE, 1)] with pair := { hbPly := some 20000, frozen := true, hoReq := some (3, 9) }, ecp := { State.reset.ecp with sessions := [{ id := 3, port := 1, ip := 0x0A000001, udp := 5000, inProg := [⟨9, 0xE01, 5⟩] }] } } : State) PAIR_STATUS_HB_OK 0) PAIR_CNT2_HB_LOST) .hbLost [])) .handoverAbort [] : State) t ({ id := 3, port := 1, ip := 0x0A000001, udp := 5000, inProg := [⟨9, 0xE01, 5⟩] } : EcpSession) [] [⟨(⟨9, 0xE01, 5⟩ : EcpOpen).op, 9, Ecp.DENIED, respFlags ({ id := 3, port := 1, ip := 0x0A000001, udp := 5000, inProg := [⟨9, 0xE01, 5⟩] } : EcpSession), ({ id := 3, port := 1, ip := 0x0A000001, udp := 5000, inProg := [⟨9, 0xE01, 5⟩] } : EcpSession).devSeq + 1, [], ({ id := 3, port := 1, ip := 0x0A000001, udp := 5000, inProg := [⟨9, 0xE01, 5⟩] } : EcpSession).key⟩] = true) ∧ (t.session 3 = some { ({ id := 3, port := 1, ip := 0x0A000001, udp := 5000, inProg := [⟨9, 0xE01, 5⟩] } : EcpSession) with devSeq := ({ id := 3, port := 1, ip := 0x0A000001, udp := 5000, inProg := [⟨9, 0xE01, 5⟩] } : EcpSession).devSeq + 1, inProg := ({ id := 3, port := 1, ip := 0x0A000001, udp := 5000, inProg := [⟨9, 0xE01, 5⟩] } : EcpSession).inProg.filter (fun z => z.tag ≠ 9), held := (holdResult ({ id := 3, port := 1, ip := 0x0A000001, udp := 5000, inProg := [⟨9, 0xE01, 5⟩] } : EcpSession) ⟨9, (⟨9, 0xE01, 5⟩ : EcpOpen).op, (⟨9, 0xE01, 5⟩ : EcpOpen).crc, Ecp.DENIED, [], true⟩).held }) ∧ (onlySession (State.record (State.handoverOver (State.record (State.bump (State.put ({ wPair [(PAIR_STATUS_HB_OK, 1), (PAIR_STATUS_HANDOVER_PEND, 1), (PAIR_STATUS_ACTIVE, 1)] with pair := { hbPly := some 20000, frozen := true, hoReq := some (3, 9) }, ecp := { State.reset.ecp with sessions := [{ id := 3, port := 1, ip := 0x0A000001, udp := 5000, inProg := [⟨9, 0xE01, 5⟩] }] } } : State) PAIR_STATUS_HB_OK 0) PAIR_CNT2_HB_LOST) .hbLost [])) .handoverAbort [] : State) t 3 = true) ∧ (Reads t [(PAIR_STATUS_HB_OK, 0), (PAIR_CNT2_HB_LOST, w_heartbeatLost_handover.adv PAIR_CNT2_HB_LOST), (PAIR_STATUS_HANDOVER_PEND, 0)]) ∧ (t.pair = { w_heartbeatLost_handover.pair with frozen := false, hoReq := none, hoLoaded := false }) ∧ (t = { (State.record (State.handoverOver (State.record (State.bump (State.put ({ wPair [(PAIR_STATUS_HB_OK, 1), (PAIR_STATUS_HANDOVER_PEND, 1), (PAIR_STATUS_ACTIVE, 1)] with pair := { hbPly := some 20000, frozen := true, hoReq := some (3, 9) }, ecp := { State.reset.ecp with sessions := [{ id := 3, port := 1, ip := 0x0A000001, udp := 5000, inProg := [⟨9, 0xE01, 5⟩] }] } } : State) PAIR_STATUS_HB_OK 0) PAIR_CNT2_HB_LOST) .hbLost [])) .handoverAbort [] : State) with ecp := t.ecp, out := t.out }))
    | _ => false) = true := by decide +kernel

def w_heartbeatLost_none : State := wPair []

theorem test_heartbeatLost_none : ((w_heartbeatLost_none.stopSafe = true) ∧ (w_heartbeatLost_none.bit PAIR_STATUS_HB_OK = false ∨ w_heartbeatLost_none.pair.hbPly.any (fun (p : Nat) => decide (p + 30000 ≤ w_heartbeatLost_none.ply)) = false)) ∧ (match exec (.heartbeatLost) w_heartbeatLost_none with
    | .next t => decide ((t = w_heartbeatLost_none))
    | _ => false) = true := by decide +kernel

def w_safetyReceive : State := wPair [(ROOK_STATE_STOP, 0), (RELAY_STATUS_DRIVE, 3)]

theorem test_safetyReceive : ((w_safetyReceive.stopSafe = true) ∧ (w_safetyReceive.bit PAIR_CTRL_EN = true) ∧ (w_safetyReceive.domOff 9 = false) ∧ (w_safetyReceive.pairKey = some (wKey7 : List Nat)) ∧ (w_safetyReceive.pairAccept (wKey7 : List Nat) (wPairMsg PairType.safety ([1, 6, 0xFF, 1] ++ leBytes 8 99) : List Nat) = some (⟨PairType.safety, 88, 4, 0xFFFFFFFF, [1, 6, 0xFF, 1] ++ leBytes 8 99⟩ : PairMsg)) ∧ ((⟨PairType.safety, 88, 4, 0xFFFFFFFF, [1, 6, 0xFF, 1] ++ leBytes 8 99⟩ : PairMsg).typ = PairType.safety) ∧ (leAt (⟨PairType.safety, 88, 4, 0xFFFFFFFF, [1, 6, 0xFF, 1] ++ leBytes 8 99⟩ : PairMsg).body 0 1 = 1) ∧ (w_safetyReceive.rookHeld = false)) ∧ (match exec (.safetyReceive (wPairMsg PairType.safety ([1, 6, 0xFF, 1] ++ leBytes 8 99) : List Nat)) w_safetyReceive with
    | .next t => decide ((StopOn 5 w_safetyReceive t) ∧ (Reads t [(PAIR_STATUS_PARTNER_STOP, 1)]) ∧ (Reads t [(ROOK_SEQ_SSEQ, if !w_safetyReceive.rookHeld && sseqAhead (leAt (⟨PairType.safety, 88, 4, 0xFFFFFFFF, [1, 6, 0xFF, 1] ++ leBytes 8 99⟩ : PairMsg).body 1 1) (w_safetyReceive.get ROOK_SEQ_SSEQ) then leAt (⟨PairType.safety, 88, 4, 0xFFFFFFFF, [1, 6, 0xFF, 1] ++ leBytes 8 99⟩ : PairMsg).body 1 1 else w_safetyReceive.get ROOK_SEQ_SSEQ)]) ∧ (t.pair.pSrc = leAt (⟨PairType.safety, 88, 4, 0xFFFFFFFF, [1, 6, 0xFF, 1] ++ leBytes 8 99⟩ : PairMsg).body 3 1) ∧ (((w_safetyReceive.pairUp = true ∧ w_safetyReceive.pair.epoch = some 77) → (t.out.drop w_safetyReceive.out.length).head? = some (Output.pair (pairBytes PairType.safetyAck w_safetyReceive.unitBit 77 (w_safetyReceive.pair.seq + 1) w_safetyReceive.sfn (leBytes 4 (⟨PairType.safety, 88, 4, 0xFFFFFFFF, [1, 6, 0xFF, 1] ++ leBytes 8 99⟩ : PairMsg).seq) ++ pairMac (wKey7 : List Nat) (pairBytes PairType.safetyAck w_safetyReceive.unitBit 77 (w_safetyReceive.pair.seq + 1) w_safetyReceive.sfn (leBytes 4 (⟨PairType.safety, 88, 4, 0xFFFFFFFF, [1, 6, 0xFF, 1] ++ leBytes 8 99⟩ : PairMsg).seq)))))) ∧ (t = State.takeSafety { w_safetyReceive with pair := { w_safetyReceive.pair with pEpoch := some (⟨PairType.safety, 88, 4, 0xFFFFFFFF, [1, 6, 0xFF, 1] ++ leBytes 8 99⟩ : PairMsg).epoch, pSeq := (⟨PairType.safety, 88, 4, 0xFFFFFFFF, [1, 6, 0xFF, 1] ++ leBytes 8 99⟩ : PairMsg).seq } } (⟨PairType.safety, 88, 4, 0xFFFFFFFF, [1, 6, 0xFF, 1] ++ leBytes 8 99⟩ : PairMsg)))
    | _ => false) = true := by decide +kernel

def w_safetyReceive_release : State := wPair [(PAIR_STATUS_PARTNER_STOP, 1), (ROOK_STATE_STOP, 1), (ROOK_STATE_HALTED, 0), (ROOK_STATE_SRC_LATCHED, 0x20)]

theorem test_safetyReceive_release : ((w_safetyReceive_release.stopSafe = true) ∧ (w_safetyReceive_release.bit PAIR_CTRL_EN = true) ∧ (w_safetyReceive_release.domOff 9 = false) ∧ (w_safetyReceive_release.pairKey = some (wKey7 : List Nat)) ∧ (w_safetyReceive_release.pairAccept (wKey7 : List Nat) (wPairMsg PairType.safety ([2, 6, 0xFF, 1] ++ leBytes 8 99) : List Nat) = some (⟨PairType.safety, 88, 4, 0xFFFFFFFF, [2, 6, 0xFF, 1] ++ leBytes 8 99⟩ : PairMsg)) ∧ ((⟨PairType.safety, 88, 4, 0xFFFFFFFF, [2, 6, 0xFF, 1] ++ leBytes 8 99⟩ : PairMsg).typ = PairType.safety) ∧ (leAt (⟨PairType.safety, 88, 4, 0xFFFFFFFF, [2, 6, 0xFF, 1] ++ leBytes 8 99⟩ : PairMsg).body 0 1 = 2) ∧ (w_safetyReceive_release.rookHeld = false) ∧ (w_safetyReceive_release.stopped = true) ∧ (w_safetyReceive_release.get ROOK_STATE_SRC_LATCHED = 0x20) ∧ ((w_safetyReceive_release.put PAIR_STATUS_PARTNER_STOP 0).blockers false = 0)) ∧ (match exec (.safetyReceive (wPairMsg PairType.safety ([2, 6, 0xFF, 1] ++ leBytes 8 99) : List Nat)) w_safetyReceive_release with
    | .next t => decide ((Reads t [(PAIR_STATUS_PARTNER_STOP, 0), (ROOK_STATE_STOP, 0), (ROOK_STATE_SRC_LATCHED, 0), (RELAY_STATUS_DRIVE, w_safetyReceive_release.get RELAY_STATUS_DRIVE)]) ∧ (Reads t [(ROOK_SEQ_SSEQ, if !w_safetyReceive_release.rookHeld && sseqAhead (leAt (⟨PairType.safety, 88, 4, 0xFFFFFFFF, [2, 6, 0xFF, 1] ++ leBytes 8 99⟩ : PairMsg).body 1 1) (w_safetyReceive_release.get ROOK_SEQ_SSEQ) then leAt (⟨PairType.safety, 88, 4, 0xFFFFFFFF, [2, 6, 0xFF, 1] ++ leBytes 8 99⟩ : PairMsg).body 1 1 else w_safetyReceive_release.get ROOK_SEQ_SSEQ)]) ∧ (t.rook = { w_safetyReceive_release.rook with rep := [], raiseAt := some (w_safetyReceive_release.ply + 1) }) ∧ (t.pair.pSrc = leAt (⟨PairType.safety, 88, 4, 0xFFFFFFFF, [2, 6, 0xFF, 1] ++ leBytes 8 99⟩ : PairMsg).body 3 1) ∧ (((w_safetyReceive_release.pairUp = true ∧ w_safetyReceive_release.pair.epoch = some 77) → (t.out.drop w_safetyReceive_release.out.length).head? = some (Output.pair (pairBytes PairType.safetyAck w_safetyReceive_release.unitBit 77 (w_safetyReceive_release.pair.seq + 1) w_safetyReceive_release.sfn (leBytes 4 (⟨PairType.safety, 88, 4, 0xFFFFFFFF, [2, 6, 0xFF, 1] ++ leBytes 8 99⟩ : PairMsg).seq) ++ pairMac (wKey7 : List Nat) (pairBytes PairType.safetyAck w_safetyReceive_release.unitBit 77 (w_safetyReceive_release.pair.seq + 1) w_safetyReceive_release.sfn (leBytes 4 (⟨PairType.safety, 88, 4, 0xFFFFFFFF, [2, 6, 0xFF, 1] ++ leBytes 8 99⟩ : PairMsg).seq)))))) ∧ (t = State.takeSafety { w_safetyReceive_release with pair := { w_safetyReceive_release.pair with pEpoch := some (⟨PairType.safety, 88, 4, 0xFFFFFFFF, [2, 6, 0xFF, 1] ++ leBytes 8 99⟩ : PairMsg).epoch, pSeq := (⟨PairType.safety, 88, 4, 0xFFFFFFFF, [2, 6, 0xFF, 1] ++ leBytes 8 99⟩ : PairMsg).seq } } (⟨PairType.safety, 88, 4, 0xFFFFFFFF, [2, 6, 0xFF, 1] ++ leBytes 8 99⟩ : PairMsg)))
    | _ => false) = true := by decide +kernel

def w_safetyReceive_kept : State := wPair [(PAIR_STATUS_PARTNER_STOP, 1), (ROOK_STATE_STOP, 1), (ROOK_STATE_SRC_LATCHED, 0x21)]

theorem test_safetyReceive_kept : ((w_safetyReceive_kept.stopSafe = true) ∧ (w_safetyReceive_kept.bit PAIR_CTRL_EN = true) ∧ (w_safetyReceive_kept.domOff 9 = false) ∧ (w_safetyReceive_kept.pairKey = some (wKey7 : List Nat)) ∧ (w_safetyReceive_kept.pairAccept (wKey7 : List Nat) (wPairMsg PairType.safety ([2, 6, 0xFF, 1] ++ leBytes 8 99) : List Nat) = some (⟨PairType.safety, 88, 4, 0xFFFFFFFF, [2, 6, 0xFF, 1] ++ leBytes 8 99⟩ : PairMsg)) ∧ ((⟨PairType.safety, 88, 4, 0xFFFFFFFF, [2, 6, 0xFF, 1] ++ leBytes 8 99⟩ : PairMsg).typ = PairType.safety) ∧ (leAt (⟨PairType.safety, 88, 4, 0xFFFFFFFF, [2, 6, 0xFF, 1] ++ leBytes 8 99⟩ : PairMsg).body 0 1 = 2) ∧ (w_safetyReceive_kept.rookHeld = true ∨ w_safetyReceive_kept.stopped = false ∨ w_safetyReceive_kept.get ROOK_STATE_SRC_LATCHED ≠ 0x20)) ∧ (match exec (.safetyReceive (wPairMsg PairType.safety ([2, 6, 0xFF, 1] ++ leBytes 8 99) : List Nat)) w_safetyReceive_kept with
    | .next t => decide ((Reads t [(PAIR_STATUS_PARTNER_STOP, 0), (ROOK_STATE_STOP, w_safetyReceive_kept.get ROOK_STATE_STOP), (ROOK_STATE_SRC_LATCHED, w_safetyReceive_kept.get ROOK_STATE_SRC_LATCHED)]) ∧ (Reads t [(ROOK_SEQ_SSEQ, if !w_safetyReceive_kept.rookHeld && sseqAhead (leAt (⟨PairType.safety, 88, 4, 0xFFFFFFFF, [2, 6, 0xFF, 1] ++ leBytes 8 99⟩ : PairMsg).body 1 1) (w_safetyReceive_kept.get ROOK_SEQ_SSEQ) then leAt (⟨PairType.safety, 88, 4, 0xFFFFFFFF, [2, 6, 0xFF, 1] ++ leBytes 8 99⟩ : PairMsg).body 1 1 else w_safetyReceive_kept.get ROOK_SEQ_SSEQ)]) ∧ (t.pair.pSrc = leAt (⟨PairType.safety, 88, 4, 0xFFFFFFFF, [2, 6, 0xFF, 1] ++ leBytes 8 99⟩ : PairMsg).body 3 1) ∧ (((w_safetyReceive_kept.pairUp = true ∧ w_safetyReceive_kept.pair.epoch = some 77) → (t.out.drop w_safetyReceive_kept.out.length).head? = some (Output.pair (pairBytes PairType.safetyAck w_safetyReceive_kept.unitBit 77 (w_safetyReceive_kept.pair.seq + 1) w_safetyReceive_kept.sfn (leBytes 4 (⟨PairType.safety, 88, 4, 0xFFFFFFFF, [2, 6, 0xFF, 1] ++ leBytes 8 99⟩ : PairMsg).seq) ++ pairMac (wKey7 : List Nat) (pairBytes PairType.safetyAck w_safetyReceive_kept.unitBit 77 (w_safetyReceive_kept.pair.seq + 1) w_safetyReceive_kept.sfn (leBytes 4 (⟨PairType.safety, 88, 4, 0xFFFFFFFF, [2, 6, 0xFF, 1] ++ leBytes 8 99⟩ : PairMsg).seq)))))) ∧ (t = State.takeSafety { w_safetyReceive_kept with pair := { w_safetyReceive_kept.pair with pEpoch := some (⟨PairType.safety, 88, 4, 0xFFFFFFFF, [2, 6, 0xFF, 1] ++ leBytes 8 99⟩ : PairMsg).epoch, pSeq := (⟨PairType.safety, 88, 4, 0xFFFFFFFF, [2, 6, 0xFF, 1] ++ leBytes 8 99⟩ : PairMsg).seq } } (⟨PairType.safety, 88, 4, 0xFFFFFFFF, [2, 6, 0xFF, 1] ++ leBytes 8 99⟩ : PairMsg)))
    | _ => false) = true := by decide +kernel

def w_safetyReceive_blocked : State := wPair [(PAIR_STATUS_PARTNER_STOP, 1), (ROOK_STATE_STOP, 1), (ROOK_STATE_HALTED, 1), (ROOK_STATE_SRC_LATCHED, 0x20)]

theorem test_safetyReceive_blocked : ((w_safetyReceive_blocked.stopSafe = true) ∧ (w_safetyReceive_blocked.bit PAIR_CTRL_EN = true) ∧ (w_safetyReceive_blocked.domOff 9 = false) ∧ (w_safetyReceive_blocked.pairKey = some (wKey7 : List Nat)) ∧ (w_safetyReceive_blocked.pairAccept (wKey7 : List Nat) (wPairMsg PairType.safety ([2, 6, 0xFF, 1] ++ leBytes 8 99) : List Nat) = some (⟨PairType.safety, 88, 4, 0xFFFFFFFF, [2, 6, 0xFF, 1] ++ leBytes 8 99⟩ : PairMsg)) ∧ ((⟨PairType.safety, 88, 4, 0xFFFFFFFF, [2, 6, 0xFF, 1] ++ leBytes 8 99⟩ : PairMsg).typ = PairType.safety) ∧ (leAt (⟨PairType.safety, 88, 4, 0xFFFFFFFF, [2, 6, 0xFF, 1] ++ leBytes 8 99⟩ : PairMsg).body 0 1 = 2) ∧ (w_safetyReceive_blocked.rookHeld = false) ∧ (w_safetyReceive_blocked.stopped = true) ∧ (w_safetyReceive_blocked.get ROOK_STATE_SRC_LATCHED = 0x20) ∧ ((w_safetyReceive_blocked.put PAIR_STATUS_PARTNER_STOP 0).blockers false ≠ 0)) ∧ (match exec (.safetyReceive (wPairMsg PairType.safety ([2, 6, 0xFF, 1] ++ leBytes 8 99) : List Nat)) w_safetyReceive_blocked with
    | .next t => decide ((Reads t [(PAIR_STATUS_PARTNER_STOP, 0), (ROOK_STATE_STOP, 1), (ROOK_STATE_SRC_LATCHED, 0x20)]) ∧ (Reads t [(ROOK_SEQ_SSEQ, if !w_safetyReceive_blocked.rookHeld && sseqAhead (leAt (⟨PairType.safety, 88, 4, 0xFFFFFFFF, [2, 6, 0xFF, 1] ++ leBytes 8 99⟩ : PairMsg).body 1 1) (w_safetyReceive_blocked.get ROOK_SEQ_SSEQ) then leAt (⟨PairType.safety, 88, 4, 0xFFFFFFFF, [2, 6, 0xFF, 1] ++ leBytes 8 99⟩ : PairMsg).body 1 1 else w_safetyReceive_blocked.get ROOK_SEQ_SSEQ)]) ∧ (t.pair.pSrc = leAt (⟨PairType.safety, 88, 4, 0xFFFFFFFF, [2, 6, 0xFF, 1] ++ leBytes 8 99⟩ : PairMsg).body 3 1) ∧ (((w_safetyReceive_blocked.pairUp = true ∧ w_safetyReceive_blocked.pair.epoch = some 77) → (t.out.drop w_safetyReceive_blocked.out.length).head? = some (Output.pair (pairBytes PairType.safetyAck w_safetyReceive_blocked.unitBit 77 (w_safetyReceive_blocked.pair.seq + 1) w_safetyReceive_blocked.sfn (leBytes 4 (⟨PairType.safety, 88, 4, 0xFFFFFFFF, [2, 6, 0xFF, 1] ++ leBytes 8 99⟩ : PairMsg).seq) ++ pairMac (wKey7 : List Nat) (pairBytes PairType.safetyAck w_safetyReceive_blocked.unitBit 77 (w_safetyReceive_blocked.pair.seq + 1) w_safetyReceive_blocked.sfn (leBytes 4 (⟨PairType.safety, 88, 4, 0xFFFFFFFF, [2, 6, 0xFF, 1] ++ leBytes 8 99⟩ : PairMsg).seq)))))) ∧ (t = State.takeSafety { w_safetyReceive_blocked with pair := { w_safetyReceive_blocked.pair with pEpoch := some (⟨PairType.safety, 88, 4, 0xFFFFFFFF, [2, 6, 0xFF, 1] ++ leBytes 8 99⟩ : PairMsg).epoch, pSeq := (⟨PairType.safety, 88, 4, 0xFFFFFFFF, [2, 6, 0xFF, 1] ++ leBytes 8 99⟩ : PairMsg).seq } } (⟨PairType.safety, 88, 4, 0xFFFFFFFF, [2, 6, 0xFF, 1] ++ leBytes 8 99⟩ : PairMsg)))
    | _ => false) = true := by decide +kernel

def w_safetyReceive_hold : State := wPair [(LANE_CFG_EN 4, 1)]

theorem test_safetyReceive_hold : ((w_safetyReceive_hold.stopSafe = true) ∧ (w_safetyReceive_hold.bit PAIR_CTRL_EN = true) ∧ (w_safetyReceive_hold.domOff 9 = false) ∧ (w_safetyReceive_hold.pairKey = some (wKey7 : List Nat)) ∧ (w_safetyReceive_hold.pairAccept (wKey7 : List Nat) (wPairMsg PairType.safety ([3, 6, 9, 1] ++ leBytes 8 99) : List Nat) = some (⟨PairType.safety, 88, 4, 0xFFFFFFFF, [3, 6, 9, 1] ++ leBytes 8 99⟩ : PairMsg)) ∧ ((⟨PairType.safety, 88, 4, 0xFFFFFFFF, [3, 6, 9, 1] ++ leBytes 8 99⟩ : PairMsg).typ = PairType.safety) ∧ (leAt (⟨PairType.safety, 88, 4, 0xFFFFFFFF, [3, 6, 9, 1] ++ leBytes 8 99⟩ : PairMsg).body 0 1 = 3) ∧ (w_safetyReceive_hold.rookHeld = false) ∧ (w_safetyReceive_hold.pair.pHr.all (fun (q : Nat) => sseqAhead (leAt (⟨PairType.safety, 88, 4, 0xFFFFFFFF, [3, 6, 9, 1] ++ leBytes 8 99⟩ : PairMsg).body 1 1) q) = true) ∧ (w_safetyReceive_hold.rook.hr.length < 32)) ∧ (match exec (.safetyReceive (wPairMsg PairType.safety ([3, 6, 9, 1] ++ leBytes 8 99) : List Nat)) w_safetyReceive_hold with
    | .next t => decide ((t.rook.hr = insertHr { cmd := 2, sseq := some (leAt (⟨PairType.safety, 88, 4, 0xFFFFFFFF, [3, 6, 9, 1] ++ leBytes 8 99⟩ : PairMsg).body 1 1), target := leAt (⟨PairType.safety, 88, 4, 0xFFFFFFFF, [3, 6, 9, 1] ++ leBytes 8 99⟩ : PairMsg).body 2 1, members := [], left := w_safetyReceive_hold.laneLeft (fun _ => w_safetyReceive_hold.get STOP_CFG_HR_REPEAT) } w_safetyReceive_hold.rook.hr) ∧ (Reads t [(ROOK_SEQ_SSEQ, if !w_safetyReceive_hold.rookHeld && sseqAhead (leAt (⟨PairType.safety, 88, 4, 0xFFFFFFFF, [3, 6, 9, 1] ++ leBytes 8 99⟩ : PairMsg).body 1 1) (w_safetyReceive_hold.get ROOK_SEQ_SSEQ) then leAt (⟨PairType.safety, 88, 4, 0xFFFFFFFF, [3, 6, 9, 1] ++ leBytes 8 99⟩ : PairMsg).body 1 1 else w_safetyReceive_hold.get ROOK_SEQ_SSEQ)]) ∧ (t.pair.pSrc = leAt (⟨PairType.safety, 88, 4, 0xFFFFFFFF, [3, 6, 9, 1] ++ leBytes 8 99⟩ : PairMsg).body 3 1) ∧ (t.pair.pHr = some (leAt (⟨PairType.safety, 88, 4, 0xFFFFFFFF, [3, 6, 9, 1] ++ leBytes 8 99⟩ : PairMsg).body 1 1)) ∧ (((w_safetyReceive_hold.pairUp = true ∧ w_safetyReceive_hold.pair.epoch = some 77) → (t.out.drop w_safetyReceive_hold.out.length).head? = some (Output.pair (pairBytes PairType.safetyAck w_safetyReceive_hold.unitBit 77 (w_safetyReceive_hold.pair.seq + 1) w_safetyReceive_hold.sfn (leBytes 4 (⟨PairType.safety, 88, 4, 0xFFFFFFFF, [3, 6, 9, 1] ++ leBytes 8 99⟩ : PairMsg).seq) ++ pairMac (wKey7 : List Nat) (pairBytes PairType.safetyAck w_safetyReceive_hold.unitBit 77 (w_safetyReceive_hold.pair.seq + 1) w_safetyReceive_hold.sfn (leBytes 4 (⟨PairType.safety, 88, 4, 0xFFFFFFFF, [3, 6, 9, 1] ++ leBytes 8 99⟩ : PairMsg).seq)))))) ∧ (t = State.takeSafety { w_safetyReceive_hold with pair := { w_safetyReceive_hold.pair with pEpoch := some (⟨PairType.safety, 88, 4, 0xFFFFFFFF, [3, 6, 9, 1] ++ leBytes 8 99⟩ : PairMsg).epoch, pSeq := (⟨PairType.safety, 88, 4, 0xFFFFFFFF, [3, 6, 9, 1] ++ leBytes 8 99⟩ : PairMsg).seq } } (⟨PairType.safety, 88, 4, 0xFFFFFFFF, [3, 6, 9, 1] ++ leBytes 8 99⟩ : PairMsg)))
    | _ => false) = true := by decide +kernel

def w_safetyReceive_resume : State := wPair [(LANE_CFG_EN 4, 1), (MSTOP_MEMBERS 0, 0x101)]

theorem test_safetyReceive_resume : ((w_safetyReceive_resume.stopSafe = true) ∧ (w_safetyReceive_resume.bit PAIR_CTRL_EN = true) ∧ (w_safetyReceive_resume.domOff 9 = false) ∧ (w_safetyReceive_resume.pairKey = some (wKey7 : List Nat)) ∧ (w_safetyReceive_resume.pairAccept (wKey7 : List Nat) (wPairMsg PairType.safety ([4, 6, 9, 1] ++ leBytes 8 99) : List Nat) = some (⟨PairType.safety, 88, 4, 0xFFFFFFFF, [4, 6, 9, 1] ++ leBytes 8 99⟩ : PairMsg)) ∧ ((⟨PairType.safety, 88, 4, 0xFFFFFFFF, [4, 6, 9, 1] ++ leBytes 8 99⟩ : PairMsg).typ = PairType.safety) ∧ (leAt (⟨PairType.safety, 88, 4, 0xFFFFFFFF, [4, 6, 9, 1] ++ leBytes 8 99⟩ : PairMsg).body 0 1 = 4) ∧ (w_safetyReceive_resume.rookHeld = false) ∧ (w_safetyReceive_resume.pair.pHr.all (fun (q : Nat) => sseqAhead (leAt (⟨PairType.safety, 88, 4, 0xFFFFFFFF, [4, 6, 9, 1] ++ leBytes 8 99⟩ : PairMsg).body 1 1) q) = true) ∧ (w_safetyReceive_resume.rook.hr.length < 32)) ∧ (match exec (.safetyReceive (wPairMsg PairType.safety ([4, 6, 9, 1] ++ leBytes 8 99) : List Nat)) w_safetyReceive_resume with
    | .next t => decide ((t.rook.hr = insertHr { cmd := 3, sseq := some (leAt (⟨PairType.safety, 88, 4, 0xFFFFFFFF, [4, 6, 9, 1] ++ leBytes 8 99⟩ : PairMsg).body 1 1), target := leAt (⟨PairType.safety, 88, 4, 0xFFFFFFFF, [4, 6, 9, 1] ++ leBytes 8 99⟩ : PairMsg).body 2 1, members := [], left := w_safetyReceive_resume.laneLeft (fun _ => w_safetyReceive_resume.get STOP_CFG_HR_REPEAT) } w_safetyReceive_resume.rook.hr) ∧ (Reads t [(ROOK_SEQ_SSEQ, if !w_safetyReceive_resume.rookHeld && sseqAhead (leAt (⟨PairType.safety, 88, 4, 0xFFFFFFFF, [4, 6, 9, 1] ++ leBytes 8 99⟩ : PairMsg).body 1 1) (w_safetyReceive_resume.get ROOK_SEQ_SSEQ) then leAt (⟨PairType.safety, 88, 4, 0xFFFFFFFF, [4, 6, 9, 1] ++ leBytes 8 99⟩ : PairMsg).body 1 1 else w_safetyReceive_resume.get ROOK_SEQ_SSEQ)]) ∧ (t.pair.pSrc = leAt (⟨PairType.safety, 88, 4, 0xFFFFFFFF, [4, 6, 9, 1] ++ leBytes 8 99⟩ : PairMsg).body 3 1) ∧ (t.pair.pHr = some (leAt (⟨PairType.safety, 88, 4, 0xFFFFFFFF, [4, 6, 9, 1] ++ leBytes 8 99⟩ : PairMsg).body 1 1)) ∧ (allAddrs.all (fun a => t.mstop a == (w_safetyReceive_resume.mstop a && !((w_safetyReceive_resume.targets (leAt (⟨PairType.safety, 88, 4, 0xFFFFFFFF, [4, 6, 9, 1] ++ leBytes 8 99⟩ : PairMsg).body 2 1)).contains a && !w_safetyReceive_resume.rook.mstopPly.contains (a, w_safetyReceive_resume.ply)))) = true) ∧ (((w_safetyReceive_resume.pairUp = true ∧ w_safetyReceive_resume.pair.epoch = some 77) → (t.out.drop w_safetyReceive_resume.out.length).head? = some (Output.pair (pairBytes PairType.safetyAck w_safetyReceive_resume.unitBit 77 (w_safetyReceive_resume.pair.seq + 1) w_safetyReceive_resume.sfn (leBytes 4 (⟨PairType.safety, 88, 4, 0xFFFFFFFF, [4, 6, 9, 1] ++ leBytes 8 99⟩ : PairMsg).seq) ++ pairMac (wKey7 : List Nat) (pairBytes PairType.safetyAck w_safetyReceive_resume.unitBit 77 (w_safetyReceive_resume.pair.seq + 1) w_safetyReceive_resume.sfn (leBytes 4 (⟨PairType.safety, 88, 4, 0xFFFFFFFF, [4, 6, 9, 1] ++ leBytes 8 99⟩ : PairMsg).seq)))))) ∧ (t = State.takeSafety { w_safetyReceive_resume with pair := { w_safetyReceive_resume.pair with pEpoch := some (⟨PairType.safety, 88, 4, 0xFFFFFFFF, [4, 6, 9, 1] ++ leBytes 8 99⟩ : PairMsg).epoch, pSeq := (⟨PairType.safety, 88, 4, 0xFFFFFFFF, [4, 6, 9, 1] ++ leBytes 8 99⟩ : PairMsg).seq } } (⟨PairType.safety, 88, 4, 0xFFFFFFFF, [4, 6, 9, 1] ++ leBytes 8 99⟩ : PairMsg)))
    | _ => false) = true := by decide +kernel

def w_safetyReceive_seen : State := { wPair [] with pair := { State.reset.pair with epoch := some 77, seq := 4, pEpoch := some 88, pSeq := 3, pHr := some 6 } }

theorem test_safetyReceive_seen : ((w_safetyReceive_seen.stopSafe = true) ∧ (w_safetyReceive_seen.bit PAIR_CTRL_EN = true) ∧ (w_safetyReceive_seen.domOff 9 = false) ∧ (w_safetyReceive_seen.pairKey = some (wKey7 : List Nat)) ∧ (w_safetyReceive_seen.pairAccept (wKey7 : List Nat) (wPairMsg PairType.safety ([3, 6, 9, 1] ++ leBytes 8 99) : List Nat) = some (⟨PairType.safety, 88, 4, 0xFFFFFFFF, [3, 6, 9, 1] ++ leBytes 8 99⟩ : PairMsg)) ∧ ((⟨PairType.safety, 88, 4, 0xFFFFFFFF, [3, 6, 9, 1] ++ leBytes 8 99⟩ : PairMsg).typ = PairType.safety) ∧ (leAt (⟨PairType.safety, 88, 4, 0xFFFFFFFF, [3, 6, 9, 1] ++ leBytes 8 99⟩ : PairMsg).body 0 1 = 3 ∨ leAt (⟨PairType.safety, 88, 4, 0xFFFFFFFF, [3, 6, 9, 1] ++ leBytes 8 99⟩ : PairMsg).body 0 1 = 4) ∧ (w_safetyReceive_seen.rookHeld = true ∨ w_safetyReceive_seen.pair.pHr.any (fun (q : Nat) => !sseqAhead (leAt (⟨PairType.safety, 88, 4, 0xFFFFFFFF, [3, 6, 9, 1] ++ leBytes 8 99⟩ : PairMsg).body 1 1) q) = true)) ∧ (match exec (.safetyReceive (wPairMsg PairType.safety ([3, 6, 9, 1] ++ leBytes 8 99) : List Nat)) w_safetyReceive_seen with
    | .next t => decide ((t.rook = w_safetyReceive_seen.rook) ∧ (Reads t [(ROOK_SEQ_SSEQ, if !w_safetyReceive_seen.rookHeld && sseqAhead (leAt (⟨PairType.safety, 88, 4, 0xFFFFFFFF, [3, 6, 9, 1] ++ leBytes 8 99⟩ : PairMsg).body 1 1) (w_safetyReceive_seen.get ROOK_SEQ_SSEQ) then leAt (⟨PairType.safety, 88, 4, 0xFFFFFFFF, [3, 6, 9, 1] ++ leBytes 8 99⟩ : PairMsg).body 1 1 else w_safetyReceive_seen.get ROOK_SEQ_SSEQ)]) ∧ (t.pair.pSrc = leAt (⟨PairType.safety, 88, 4, 0xFFFFFFFF, [3, 6, 9, 1] ++ leBytes 8 99⟩ : PairMsg).body 3 1) ∧ (t.pair.pHr = w_safetyReceive_seen.pair.pHr) ∧ (((w_safetyReceive_seen.pairUp = true ∧ w_safetyReceive_seen.pair.epoch = some 77) → (t.out.drop w_safetyReceive_seen.out.length).head? = some (Output.pair (pairBytes PairType.safetyAck w_safetyReceive_seen.unitBit 77 (w_safetyReceive_seen.pair.seq + 1) w_safetyReceive_seen.sfn (leBytes 4 (⟨PairType.safety, 88, 4, 0xFFFFFFFF, [3, 6, 9, 1] ++ leBytes 8 99⟩ : PairMsg).seq) ++ pairMac (wKey7 : List Nat) (pairBytes PairType.safetyAck w_safetyReceive_seen.unitBit 77 (w_safetyReceive_seen.pair.seq + 1) w_safetyReceive_seen.sfn (leBytes 4 (⟨PairType.safety, 88, 4, 0xFFFFFFFF, [3, 6, 9, 1] ++ leBytes 8 99⟩ : PairMsg).seq)))))) ∧ (t = State.takeSafety { w_safetyReceive_seen with pair := { w_safetyReceive_seen.pair with pEpoch := some (⟨PairType.safety, 88, 4, 0xFFFFFFFF, [3, 6, 9, 1] ++ leBytes 8 99⟩ : PairMsg).epoch, pSeq := (⟨PairType.safety, 88, 4, 0xFFFFFFFF, [3, 6, 9, 1] ++ leBytes 8 99⟩ : PairMsg).seq } } (⟨PairType.safety, 88, 4, 0xFFFFFFFF, [3, 6, 9, 1] ++ leBytes 8 99⟩ : PairMsg)))
    | _ => false) = true := by decide +kernel

def w_safetyReceive_full : State := { wPair [] with rook := { State.reset.rook with hr := List.replicate 32 ⟨2, some 7, 9, [], []⟩ } }

theorem test_safetyReceive_full : ((w_safetyReceive_full.stopSafe = true) ∧ (w_safetyReceive_full.bit PAIR_CTRL_EN = true) ∧ (w_safetyReceive_full.domOff 9 = false) ∧ (w_safetyReceive_full.pairKey = some (wKey7 : List Nat)) ∧ (w_safetyReceive_full.pairAccept (wKey7 : List Nat) (wPairMsg PairType.safety ([3, 6, 9, 1] ++ leBytes 8 99) : List Nat) = some (⟨PairType.safety, 88, 4, 0xFFFFFFFF, [3, 6, 9, 1] ++ leBytes 8 99⟩ : PairMsg)) ∧ ((⟨PairType.safety, 88, 4, 0xFFFFFFFF, [3, 6, 9, 1] ++ leBytes 8 99⟩ : PairMsg).typ = PairType.safety) ∧ (leAt (⟨PairType.safety, 88, 4, 0xFFFFFFFF, [3, 6, 9, 1] ++ leBytes 8 99⟩ : PairMsg).body 0 1 = 3 ∨ leAt (⟨PairType.safety, 88, 4, 0xFFFFFFFF, [3, 6, 9, 1] ++ leBytes 8 99⟩ : PairMsg).body 0 1 = 4) ∧ (w_safetyReceive_full.rookHeld = false) ∧ (w_safetyReceive_full.pair.pHr.all (fun (q : Nat) => sseqAhead (leAt (⟨PairType.safety, 88, 4, 0xFFFFFFFF, [3, 6, 9, 1] ++ leBytes 8 99⟩ : PairMsg).body 1 1) q) = true) ∧ (32 ≤ w_safetyReceive_full.rook.hr.length)) ∧ (match exec (.safetyReceive (wPairMsg PairType.safety ([3, 6, 9, 1] ++ leBytes 8 99) : List Nat)) w_safetyReceive_full with
    | .next t => decide ((t.rook = w_safetyReceive_full.rook) ∧ (Reads t [(ROOK_SEQ_SSEQ, if !w_safetyReceive_full.rookHeld && sseqAhead (leAt (⟨PairType.safety, 88, 4, 0xFFFFFFFF, [3, 6, 9, 1] ++ leBytes 8 99⟩ : PairMsg).body 1 1) (w_safetyReceive_full.get ROOK_SEQ_SSEQ) then leAt (⟨PairType.safety, 88, 4, 0xFFFFFFFF, [3, 6, 9, 1] ++ leBytes 8 99⟩ : PairMsg).body 1 1 else w_safetyReceive_full.get ROOK_SEQ_SSEQ)]) ∧ (t.pair.pSrc = leAt (⟨PairType.safety, 88, 4, 0xFFFFFFFF, [3, 6, 9, 1] ++ leBytes 8 99⟩ : PairMsg).body 3 1) ∧ (t.pair.pHr = some (leAt (⟨PairType.safety, 88, 4, 0xFFFFFFFF, [3, 6, 9, 1] ++ leBytes 8 99⟩ : PairMsg).body 1 1)) ∧ (Reads t [(ROOK_CNT2_QUEUE_FULL, w_safetyReceive_full.adv ROOK_CNT2_QUEUE_FULL)]) ∧ (((w_safetyReceive_full.pairUp = true ∧ w_safetyReceive_full.pair.epoch = some 77) → (t.out.drop w_safetyReceive_full.out.length).head? = some (Output.pair (pairBytes PairType.safetyAck w_safetyReceive_full.unitBit 77 (w_safetyReceive_full.pair.seq + 1) w_safetyReceive_full.sfn (leBytes 4 (⟨PairType.safety, 88, 4, 0xFFFFFFFF, [3, 6, 9, 1] ++ leBytes 8 99⟩ : PairMsg).seq) ++ pairMac (wKey7 : List Nat) (pairBytes PairType.safetyAck w_safetyReceive_full.unitBit 77 (w_safetyReceive_full.pair.seq + 1) w_safetyReceive_full.sfn (leBytes 4 (⟨PairType.safety, 88, 4, 0xFFFFFFFF, [3, 6, 9, 1] ++ leBytes 8 99⟩ : PairMsg).seq)))))) ∧ (t = State.takeSafety { w_safetyReceive_full with pair := { w_safetyReceive_full.pair with pEpoch := some (⟨PairType.safety, 88, 4, 0xFFFFFFFF, [3, 6, 9, 1] ++ leBytes 8 99⟩ : PairMsg).epoch, pSeq := (⟨PairType.safety, 88, 4, 0xFFFFFFFF, [3, 6, 9, 1] ++ leBytes 8 99⟩ : PairMsg).seq } } (⟨PairType.safety, 88, 4, 0xFFFFFFFF, [3, 6, 9, 1] ++ leBytes 8 99⟩ : PairMsg)))
    | _ => false) = true := by decide +kernel

def w_safetyReceive_held : State := { wPair [] with rst := { State.reset.rst with held := [.rook] } }

theorem test_safetyReceive_held : ((w_safetyReceive_held.stopSafe = true) ∧ (w_safetyReceive_held.bit PAIR_CTRL_EN = true) ∧ (w_safetyReceive_held.domOff 9 = false) ∧ (w_safetyReceive_held.pairKey = some (wKey7 : List Nat)) ∧ (w_safetyReceive_held.pairAccept (wKey7 : List Nat) (wPairMsg PairType.safety ([1, 6, 0xFF, 1] ++ leBytes 8 99) : List Nat) = some (⟨PairType.safety, 88, 4, 0xFFFFFFFF, [1, 6, 0xFF, 1] ++ leBytes 8 99⟩ : PairMsg)) ∧ ((⟨PairType.safety, 88, 4, 0xFFFFFFFF, [1, 6, 0xFF, 1] ++ leBytes 8 99⟩ : PairMsg).typ = PairType.safety) ∧ (leAt (⟨PairType.safety, 88, 4, 0xFFFFFFFF, [1, 6, 0xFF, 1] ++ leBytes 8 99⟩ : PairMsg).body 0 1 = 1) ∧ (w_safetyReceive_held.rookHeld = true)) ∧ (match exec (.safetyReceive (wPairMsg PairType.safety ([1, 6, 0xFF, 1] ++ leBytes 8 99) : List Nat)) w_safetyReceive_held with
    | .next t => decide ((t = State.takeSafety { w_safetyReceive_held with pair := { w_safetyReceive_held.pair with pEpoch := some (⟨PairType.safety, 88, 4, 0xFFFFFFFF, [1, 6, 0xFF, 1] ++ leBytes 8 99⟩ : PairMsg).epoch, pSeq := (⟨PairType.safety, 88, 4, 0xFFFFFFFF, [1, 6, 0xFF, 1] ++ leBytes 8 99⟩ : PairMsg).seq } } (⟨PairType.safety, 88, 4, 0xFFFFFFFF, [1, 6, 0xFF, 1] ++ leBytes 8 99⟩ : PairMsg)) ∧ (Reads t [(PAIR_STATUS_PARTNER_STOP, 1), (ROOK_STATE_STOP, w_safetyReceive_held.get ROOK_STATE_STOP), (ROOK_SEQ_SSEQ, w_safetyReceive_held.get ROOK_SEQ_SSEQ)]) ∧ (t.rook = w_safetyReceive_held.rook) ∧ (t.pair.pSrc = leAt (⟨PairType.safety, 88, 4, 0xFFFFFFFF, [1, 6, 0xFF, 1] ++ leBytes 8 99⟩ : PairMsg).body 3 1))
    | _ => false) = true := by decide +kernel

def w_safetyReceive_event : State := wPair []

theorem test_safetyReceive_event : ((w_safetyReceive_event.stopSafe = true) ∧ (w_safetyReceive_event.bit PAIR_CTRL_EN = true) ∧ (w_safetyReceive_event.domOff 9 = false) ∧ (w_safetyReceive_event.pairKey = some (wKey7 : List Nat)) ∧ (w_safetyReceive_event.pairAccept (wKey7 : List Nat) (wPairMsg PairType.safety ([5, 6, 9, 1] ++ leBytes 8 99) : List Nat) = some (⟨PairType.safety, 88, 4, 0xFFFFFFFF, [5, 6, 9, 1] ++ leBytes 8 99⟩ : PairMsg)) ∧ ((⟨PairType.safety, 88, 4, 0xFFFFFFFF, [5, 6, 9, 1] ++ leBytes 8 99⟩ : PairMsg).typ = PairType.safety) ∧ (leAt (⟨PairType.safety, 88, 4, 0xFFFFFFFF, [5, 6, 9, 1] ++ leBytes 8 99⟩ : PairMsg).body 0 1 = 0 ∨ 4 < leAt (⟨PairType.safety, 88, 4, 0xFFFFFFFF, [5, 6, 9, 1] ++ leBytes 8 99⟩ : PairMsg).body 0 1)) ∧ (match exec (.safetyReceive (wPairMsg PairType.safety ([5, 6, 9, 1] ++ leBytes 8 99) : List Nat)) w_safetyReceive_event with
    | .next t => decide ((Reads t [(PAIR_CNT_HB_DROP, w_safetyReceive_event.adv PAIR_CNT_HB_DROP)]) ∧ (t.pair = { w_safetyReceive_event.pair with pEpoch := some (⟨PairType.safety, 88, 4, 0xFFFFFFFF, [5, 6, 9, 1] ++ leBytes 8 99⟩ : PairMsg).epoch, pSeq := (⟨PairType.safety, 88, 4, 0xFFFFFFFF, [5, 6, 9, 1] ++ leBytes 8 99⟩ : PairMsg).seq }))
    | _ => false) = true := by decide +kernel

theorem test_safetyReceive_disabled : ((wReset.stopSafe = true) ∧ (wReset.bit PAIR_CTRL_EN = false ∨ wReset.domOff 9 = true)) ∧ (match exec (.safetyReceive ([] : List Nat)) wReset with
    | .next t => decide ((t = wReset))
    | _ => false) = true := by decide +kernel

def w_safetyReceive_otherType : State := wPair []

theorem test_safetyReceive_otherType : ((w_safetyReceive_otherType.stopSafe = true) ∧ (w_safetyReceive_otherType.pairKey = some (wKey7 : List Nat)) ∧ (w_safetyReceive_otherType.pairAccept (wKey7 : List Nat) (wPairMsg PairType.safetyAck (leBytes 4 4) : List Nat) = some (⟨PairType.safetyAck, 88, 4, 0xFFFFFFFF, leBytes 4 4⟩ : PairMsg)) ∧ ((⟨PairType.safetyAck, 88, 4, 0xFFFFFFFF, leBytes 4 4⟩ : PairMsg).typ ≠ PairType.safety)) ∧ (match exec (.safetyReceive (wPairMsg PairType.safetyAck (leBytes 4 4) : List Nat)) w_safetyReceive_otherType with
    | .next t => decide ((t = w_safetyReceive_otherType))
    | _ => false) = true := by decide +kernel

def w_safetyReceive_drop : State := wPair []

theorem test_safetyReceive_drop : ((w_safetyReceive_drop.stopSafe = true) ∧ (w_safetyReceive_drop.bit PAIR_CTRL_EN = true) ∧ (w_safetyReceive_drop.domOff 9 = false) ∧ (w_safetyReceive_drop.pairKey = some (wKey7 : List Nat)) ∧ (w_safetyReceive_drop.pairAccept (wKey7 : List Nat) ((wPairMsg PairType.safety ([1, 6, 0xFF, 1] ++ leBytes 8 99)).set 30 1 : List Nat) = none)) ∧ (match exec (.safetyReceive ((wPairMsg PairType.safety ([1, 6, 0xFF, 1] ++ leBytes 8 99)).set 30 1 : List Nat)) w_safetyReceive_drop with
    | .next t => decide ((Reads t [(PAIR_CNT_HB_DROP, w_safetyReceive_drop.adv PAIR_CNT_HB_DROP)]))
    | _ => false) = true := by decide +kernel

def w_safetyReceive_noKey : State := wPair [(KS_SLOT_W0_TYPE 7, 0)]

theorem test_safetyReceive_noKey : ((w_safetyReceive_noKey.stopSafe = true) ∧ (w_safetyReceive_noKey.bit PAIR_CTRL_EN = true) ∧ (w_safetyReceive_noKey.domOff 9 = false) ∧ (w_safetyReceive_noKey.pairKey = none)) ∧ (match exec (.safetyReceive (wPairMsg PairType.safety ([1, 6, 0xFF, 1] ++ leBytes 8 99) : List Nat)) w_safetyReceive_noKey with
    | .next t => decide ((t = State.bump (w_safetyReceive_noKey.keyAbort (w_safetyReceive_noKey.get PAIR_CTRL_KEY_SLOT) 3 5) PAIR_CNT_HB_DROP) ∧ (Reads t [(PAIR_CNT_HB_DROP, w_safetyReceive_noKey.adv PAIR_CNT_HB_DROP)]))
    | _ => false) = true := by decide +kernel

def w_safetyAckReceive : State := { wPair [] with pair := { State.reset.pair with pEpoch := some 88, pSeq := 3, safety := [⟨[2, 4], [1], 1, 0⟩, ⟨[3], [2], 0, 0⟩] } }

theorem test_safetyAckReceive : ((w_safetyAckReceive.stopSafe = true) ∧ (w_safetyAckReceive.bit PAIR_CTRL_EN = true) ∧ (w_safetyAckReceive.domOff 9 = false) ∧ (w_safetyAckReceive.pairKey = some (wKey7 : List Nat)) ∧ (w_safetyAckReceive.pairAccept (wKey7 : List Nat) (wPairMsg PairType.safetyAck (leBytes 4 4) : List Nat) = some (⟨PairType.safetyAck, 88, 4, 0xFFFFFFFF, leBytes 4 4⟩ : PairMsg)) ∧ ((⟨PairType.safetyAck, 88, 4, 0xFFFFFFFF, leBytes 4 4⟩ : PairMsg).typ = PairType.safetyAck)) ∧ (match exec (.safetyAckReceive (wPairMsg PairType.safetyAck (leBytes 4 4) : List Nat)) w_safetyAckReceive with
    | .next t => decide ((t.pair = { w_safetyAckReceive.pair with pEpoch := some (⟨PairType.safetyAck, 88, 4, 0xFFFFFFFF, leBytes 4 4⟩ : PairMsg).epoch, pSeq := (⟨PairType.safetyAck, 88, 4, 0xFFFFFFFF, leBytes 4 4⟩ : PairMsg).seq, safety := w_safetyAckReceive.pair.safety.filter (fun y => !y.seqs.contains (leAt (⟨PairType.safetyAck, 88, 4, 0xFFFFFFFF, leBytes 4 4⟩ : PairMsg).body 0 4)) }))
    | _ => false) = true := by decide +kernel

theorem test_safetyAckReceive_disabled : ((wReset.stopSafe = true) ∧ (wReset.bit PAIR_CTRL_EN = false ∨ wReset.domOff 9 = true)) ∧ (match exec (.safetyAckReceive ([] : List Nat)) wReset with
    | .next t => decide ((t = wReset))
    | _ => false) = true := by decide +kernel

def w_safetyAckReceive_otherType : State := wPair []

theorem test_safetyAckReceive_otherType : ((w_safetyAckReceive_otherType.stopSafe = true) ∧ (w_safetyAckReceive_otherType.pairKey = some (wKey7 : List Nat)) ∧ (w_safetyAckReceive_otherType.pairAccept (wKey7 : List Nat) (wPairMsg PairType.handover (leBytes 4 1030) : List Nat) = some (⟨PairType.handover, 88, 4, 0xFFFFFFFF, leBytes 4 1030⟩ : PairMsg)) ∧ ((⟨PairType.handover, 88, 4, 0xFFFFFFFF, leBytes 4 1030⟩ : PairMsg).typ ≠ PairType.safetyAck)) ∧ (match exec (.safetyAckReceive (wPairMsg PairType.handover (leBytes 4 1030) : List Nat)) w_safetyAckReceive_otherType with
    | .next t => decide ((t = w_safetyAckReceive_otherType))
    | _ => false) = true := by decide +kernel

def w_safetyAckReceive_drop : State := wPair []

theorem test_safetyAckReceive_drop : ((w_safetyAckReceive_drop.stopSafe = true) ∧ (w_safetyAckReceive_drop.bit PAIR_CTRL_EN = true) ∧ (w_safetyAckReceive_drop.domOff 9 = false) ∧ (w_safetyAckReceive_drop.pairKey = some (wKey7 : List Nat)) ∧ (w_safetyAckReceive_drop.pairAccept (wKey7 : List Nat) ((wPairMsg PairType.safetyAck (leBytes 4 4)).set 30 1 : List Nat) = none)) ∧ (match exec (.safetyAckReceive ((wPairMsg PairType.safetyAck (leBytes 4 4)).set 30 1 : List Nat)) w_safetyAckReceive_drop with
    | .next t => decide ((Reads t [(PAIR_CNT_HB_DROP, w_safetyAckReceive_drop.adv PAIR_CNT_HB_DROP)]))
    | _ => false) = true := by decide +kernel

def w_safetyAckReceive_noKey : State := wPair [(KS_SLOT_W0_TYPE 7, 0)]

theorem test_safetyAckReceive_noKey : ((w_safetyAckReceive_noKey.stopSafe = true) ∧ (w_safetyAckReceive_noKey.bit PAIR_CTRL_EN = true) ∧ (w_safetyAckReceive_noKey.domOff 9 = false) ∧ (w_safetyAckReceive_noKey.pairKey = none)) ∧ (match exec (.safetyAckReceive (wPairMsg PairType.safetyAck (leBytes 4 4) : List Nat)) w_safetyAckReceive_noKey with
    | .next t => decide ((t = State.bump (w_safetyAckReceive_noKey.keyAbort (w_safetyAckReceive_noKey.get PAIR_CTRL_KEY_SLOT) 3 5) PAIR_CNT_HB_DROP) ∧ (Reads t [(PAIR_CNT_HB_DROP, w_safetyAckReceive_noKey.adv PAIR_CNT_HB_DROP)]))
    | _ => false) = true := by decide +kernel

def w_safetyRepeat : State := { wPair [] with pair := { State.reset.pair with epoch := some 77, seq := 4, safety := [⟨[2, 4], [1], 1, 0⟩, ⟨[3], [2], 299, 49900⟩, ⟨[5], [2], 300, 0⟩] } }

theorem test_safetyRepeat : ((w_safetyRepeat.stopSafe = true) ∧ (w_safetyRepeat.pair.safety[1]? = some (⟨[3], [2], 299, 49900⟩ : SafetyMsg)) ∧ ((⟨[3], [2], 299, 49900⟩ : SafetyMsg).ply + 100 ≤ w_safetyRepeat.ply) ∧ ((⟨[3], [2], 299, 49900⟩ : SafetyMsg).repeats < 300) ∧ (w_safetyRepeat.pairKey = some (wKey7 : List Nat)) ∧ (w_safetyRepeat.pairUp = true) ∧ (w_safetyRepeat.pair.epoch = some 77)) ∧ (match exec (.safetyRepeat 1) w_safetyRepeat with
    | .next t => decide ((t.out = w_safetyRepeat.out ++ [Output.pair (pairBytes PairType.safety w_safetyRepeat.unitBit 77 (w_safetyRepeat.pair.seq + 1) w_safetyRepeat.sfn ((⟨[3], [2], 299, 49900⟩ : SafetyMsg).body) ++ pairMac (wKey7 : List Nat) (pairBytes PairType.safety w_safetyRepeat.unitBit 77 (w_safetyRepeat.pair.seq + 1) w_safetyRepeat.sfn ((⟨[3], [2], 299, 49900⟩ : SafetyMsg).body)))]) ∧ (t.pair = { w_safetyRepeat.pair with seq := w_safetyRepeat.pair.seq + 1, safety := w_safetyRepeat.pair.safety.set 1 { (⟨[3], [2], 299, 49900⟩ : SafetyMsg) with seqs := (⟨[3], [2], 299, 49900⟩ : SafetyMsg).seqs ++ [w_safetyRepeat.pair.seq + 1], repeats := (⟨[3], [2], 299, 49900⟩ : SafetyMsg).repeats + 1, ply := w_safetyRepeat.ply } }))
    | _ => false) = true := by decide +kernel

def w_safetyRepeat_epoch : State := { wPair [] with pair := { State.reset.pair with seq := 4, safety := [⟨[2, 4], [1], 1, 0⟩, ⟨[3], [2], 299, 49900⟩, ⟨[5], [2], 300, 0⟩] } }

theorem test_safetyRepeat_epoch : (w_safetyRepeat_epoch.stopSafe = true) ∧ (w_safetyRepeat_epoch.pair.safety[1]? = some (⟨[3], [2], 299, 49900⟩ : SafetyMsg)) ∧ ((⟨[3], [2], 299, 49900⟩ : SafetyMsg).ply + 100 ≤ w_safetyRepeat_epoch.ply) ∧ ((⟨[3], [2], 299, 49900⟩ : SafetyMsg).repeats < 300) ∧ (w_safetyRepeat_epoch.pairKey = some (wKey7 : List Nat)) ∧ (w_safetyRepeat_epoch.pairUp = true) ∧ (w_safetyRepeat_epoch.pair.epoch = none) := by decide +kernel

def w_safetyRepeat_down : State := { wPair [(PAIR_STATUS_LINK, 0)] with pair := { State.reset.pair with epoch := some 77, seq := 4, safety := [⟨[2, 4], [1], 1, 0⟩, ⟨[3], [2], 299, 49900⟩, ⟨[5], [2], 300, 0⟩] } }

theorem test_safetyRepeat_down : ((w_safetyRepeat_down.stopSafe = true) ∧ (w_safetyRepeat_down.pair.safety[1]? = some (⟨[3], [2], 299, 49900⟩ : SafetyMsg)) ∧ ((⟨[3], [2], 299, 49900⟩ : SafetyMsg).ply + 100 ≤ w_safetyRepeat_down.ply) ∧ ((⟨[3], [2], 299, 49900⟩ : SafetyMsg).repeats < 300) ∧ (w_safetyRepeat_down.pairKey = some (wKey7 : List Nat)) ∧ (w_safetyRepeat_down.pairUp = false)) ∧ (match exec (.safetyRepeat 1) w_safetyRepeat_down with
    | .next t => decide ((t.pair = { w_safetyRepeat_down.pair with safety := w_safetyRepeat_down.pair.safety.set 1 { (⟨[3], [2], 299, 49900⟩ : SafetyMsg) with seqs := (⟨[3], [2], 299, 49900⟩ : SafetyMsg).seqs, repeats := (⟨[3], [2], 299, 49900⟩ : SafetyMsg).repeats + 1, ply := w_safetyRepeat_down.ply } }))
    | _ => false) = true := by decide +kernel

def w_safetyRepeat_noKey : State := { wPair [(KS_SLOT_W0_TYPE 7, 0)] with pair := { State.reset.pair with epoch := some 77, seq := 4, safety := [⟨[2, 4], [1], 1, 0⟩, ⟨[3], [2], 299, 49900⟩, ⟨[5], [2], 300, 0⟩] } }

theorem test_safetyRepeat_noKey : ((w_safetyRepeat_noKey.stopSafe = true) ∧ (w_safetyRepeat_noKey.pair.safety[1]? = some (⟨[3], [2], 299, 49900⟩ : SafetyMsg)) ∧ ((⟨[3], [2], 299, 49900⟩ : SafetyMsg).ply + 100 ≤ w_safetyRepeat_noKey.ply) ∧ ((⟨[3], [2], 299, 49900⟩ : SafetyMsg).repeats < 300) ∧ (w_safetyRepeat_noKey.pairKey = none)) ∧ (match exec (.safetyRepeat 1) w_safetyRepeat_noKey with
    | .next t => decide ((t = (let z := w_safetyRepeat_noKey.keyAbort (w_safetyRepeat_noKey.get PAIR_CTRL_KEY_SLOT) 3 5; { z with pair := { w_safetyRepeat_noKey.pair with safety := w_safetyRepeat_noKey.pair.safety.set 1 { (⟨[3], [2], 299, 49900⟩ : SafetyMsg) with seqs := (⟨[3], [2], 299, 49900⟩ : SafetyMsg).seqs, repeats := (⟨[3], [2], 299, 49900⟩ : SafetyMsg).repeats + 1, ply := w_safetyRepeat_noKey.ply } } })))
    | _ => false) = true := by decide +kernel

def w_safetyRepeat_ended : State := { wPair [] with pair := { State.reset.pair with epoch := some 77, seq := 4, safety := [⟨[2, 4], [1], 1, 0⟩, ⟨[3], [2], 299, 49900⟩, ⟨[5], [2], 300, 0⟩] } }

theorem test_safetyRepeat_ended : ((w_safetyRepeat_ended.stopSafe = true) ∧ (w_safetyRepeat_ended.pair.safety[2]? = some (⟨[5], [2], 300, 0⟩ : SafetyMsg)) ∧ ((⟨[5], [2], 300, 0⟩ : SafetyMsg).ply + 100 ≤ w_safetyRepeat_ended.ply) ∧ (300 ≤ (⟨[5], [2], 300, 0⟩ : SafetyMsg).repeats)) ∧ (match exec (.safetyRepeat 2) w_safetyRepeat_ended with
    | .next t => decide ((t.pair = { w_safetyRepeat_ended.pair with safety := w_safetyRepeat_ended.pair.safety.eraseIdx 2 }))
    | _ => false) = true := by decide +kernel

def w_safetyRepeat_none : State := { wPair [] with pair := { State.reset.pair with epoch := some 77, seq := 4, safety := [⟨[2, 4], [1], 1, 0⟩, ⟨[3], [2], 299, 49900⟩, ⟨[5], [2], 300, 0⟩] } }

theorem test_safetyRepeat_none : ((w_safetyRepeat_none.stopSafe = true) ∧ (w_safetyRepeat_none.pair.safety[3]?.all (fun (y : SafetyMsg) => decide (w_safetyRepeat_none.ply < y.ply + 100)) = true)) ∧ (match exec (.safetyRepeat 3) w_safetyRepeat_none with
    | .next t => decide ((t = w_safetyRepeat_none))
    | _ => false) = true := by decide +kernel

def w_startupListenExpiry_heard : State := { wPair [] with ply := 400000, pair := { State.reset.pair with listen := true, heard := true } }

theorem test_startupListenExpiry_heard : ((w_startupListenExpiry_heard.stopSafe = true) ∧ (w_startupListenExpiry_heard.pair.listen = true) ∧ (w_startupListenExpiry_heard.pair.since + (if (List.range 8).any (fun n => w_startupListenExpiry_heard.bit (LANE_CFG_EN n)) && (List.range 8).all (fun n => !w_startupListenExpiry_heard.bit (LANE_CFG_EN n) || w_startupListenExpiry_heard.prof n != 0) then 3000000 else 300000) ≤ w_startupListenExpiry_heard.ply) ∧ (w_startupListenExpiry_heard.pair.heard = true)) ∧ (match exec (.startupListenExpiry) w_startupListenExpiry_heard with
    | .next t => decide ((t.pair = { w_startupListenExpiry_heard.pair with listen := false }))
    | _ => false) = true := by decide +kernel

def w_startupListenExpiry_primary : State := { wPair [] with ply := 400000, pair := { State.reset.pair with listen := true } }

theorem test_startupListenExpiry_primary : ((w_startupListenExpiry_primary.stopSafe = true) ∧ (w_startupListenExpiry_primary.pair.listen = true) ∧ (w_startupListenExpiry_primary.pair.since + (if (List.range 8).any (fun n => w_startupListenExpiry_primary.bit (LANE_CFG_EN n)) && (List.range 8).all (fun n => !w_startupListenExpiry_primary.bit (LANE_CFG_EN n) || w_startupListenExpiry_primary.prof n != 0) then 3000000 else 300000) ≤ w_startupListenExpiry_primary.ply) ∧ (w_startupListenExpiry_primary.pair.heard = false) ∧ (w_startupListenExpiry_primary.unitBit = 0)) ∧ (match exec (.startupListenExpiry) w_startupListenExpiry_primary with
    | .next t => decide ((t.pair = { w_startupListenExpiry_primary.pair with listen := false, become := true }))
    | _ => false) = true := by decide +kernel

def w_startupListenExpiry : State := { wPair [(STRAP_ROLE, 1)] with ply := 400000, pair := { State.reset.pair with listen := true } }

theorem test_startupListenExpiry : ((w_startupListenExpiry.stopSafe = true) ∧ (w_startupListenExpiry.pair.listen = true) ∧ (w_startupListenExpiry.pair.since + (if (List.range 8).any (fun n => w_startupListenExpiry.bit (LANE_CFG_EN n)) && (List.range 8).all (fun n => !w_startupListenExpiry.bit (LANE_CFG_EN n) || w_startupListenExpiry.prof n != 0) then 3000000 else 300000) ≤ w_startupListenExpiry.ply) ∧ (w_startupListenExpiry.pair.heard = false) ∧ (w_startupListenExpiry.unitBit ≠ 0)) ∧ (match exec (.startupListenExpiry) w_startupListenExpiry with
    | .next t => decide ((t.pair = { w_startupListenExpiry.pair with listen := false, wait := true, since := w_startupListenExpiry.ply }))
    | _ => false) = true := by decide +kernel

def w_startupListenExpiry_none : State := { wPair [(LANE_CFG_EN 4, 1), (LANE_CFG_PROFILE 4, 2)] with ply := 400000, pair := { State.reset.pair with listen := true } }

theorem test_startupListenExpiry_none : ((w_startupListenExpiry_none.stopSafe = true) ∧ (w_startupListenExpiry_none.pair.listen = false ∨ w_startupListenExpiry_none.ply < w_startupListenExpiry_none.pair.since + (if (List.range 8).any (fun n => w_startupListenExpiry_none.bit (LANE_CFG_EN n)) && (List.range 8).all (fun n => !w_startupListenExpiry_none.bit (LANE_CFG_EN n) || w_startupListenExpiry_none.prof n != 0) then 3000000 else 300000))) ∧ (match exec (.startupListenExpiry) w_startupListenExpiry_none with
    | .next t => decide ((t = w_startupListenExpiry_none))
    | _ => false) = true := by decide +kernel

def w_secondaryWaitExpiry : State := { wPair [] with ply := 400000, pair := { State.reset.pair with wait := true, since := 200000 } }

theorem test_secondaryWaitExpiry : ((w_secondaryWaitExpiry.stopSafe = true) ∧ (w_secondaryWaitExpiry.pair.wait = true) ∧ (w_secondaryWaitExpiry.pair.since + 200000 ≤ w_secondaryWaitExpiry.ply)) ∧ (match exec (.secondaryWaitExpiry) w_secondaryWaitExpiry with
    | .next t => decide ((t.pair = { w_secondaryWaitExpiry.pair with wait := false, become := !w_secondaryWaitExpiry.pair.heard }))
    | _ => false) = true := by decide +kernel

def w_secondaryWaitExpiry_none : State := { wPair [] with ply := 400000, pair := { State.reset.pair with wait := true, since := 200001 } }

theorem test_secondaryWaitExpiry_none : ((w_secondaryWaitExpiry_none.stopSafe = true) ∧ (w_secondaryWaitExpiry_none.pair.wait = false ∨ w_secondaryWaitExpiry_none.ply < w_secondaryWaitExpiry_none.pair.since + 200000)) ∧ (match exec (.secondaryWaitExpiry) w_secondaryWaitExpiry_none with
    | .next t => decide ((t = w_secondaryWaitExpiry_none))
    | _ => false) = true := by decide +kernel

def w_standbyReadyTimeout : State := { wPair [(LANE_STATUS_STATE 3, 3)] with pair := { State.reset.pair with ckpt := some { seq := 1 }, ckptPly := some 49000 } }

theorem test_standbyReadyTimeout : ((w_standbyReadyTimeout.stopSafe = true)) ∧ (match exec (.standbyReadyTimeout) w_standbyReadyTimeout with
    | .next t => decide ((Reads t [(PAIR_STATUS_READY_STANDBY, b2n (w_standbyReadyTimeout.bit PAIR_CTRL_EN && !w_standbyReadyTimeout.active && w_standbyReadyTimeout.pair.ckpt.isSome && w_standbyReadyTimeout.ckptFresh && w_standbyReadyTimeout.refOk && (List.range 8).any w_standbyReadyTimeout.laneReady && !w_standbyReadyTimeout.bit PAIR_STATUS_KEY_MISMATCH && !w_standbyReadyTimeout.bit PAIR_STATUS_PAIR_SLOW))]))
    | _ => false) = true := by decide +kernel

def w_takeoverDetect : State := wPair []

theorem test_takeoverDetect : ((w_takeoverDetect.stopSafe = true) ∧ (w_takeoverDetect.bit PAIR_CTRL_EN = true) ∧ (w_takeoverDetect.active = false) ∧ (w_takeoverDetect.pair.listen = false) ∧ (w_takeoverDetect.pair.wait = false) ∧ (w_takeoverDetect.bit PAIR_STATUS_TAKEOVER_PEND = false) ∧ (w_takeoverDetect.pair.become = false) ∧ (w_takeoverDetect.bellsGone = true) ∧ (w_takeoverDetect.bit PAIR_STATUS_HB_OK = false)) ∧ (match exec (.takeoverDetect) w_takeoverDetect with
    | .next t => decide ((Reads t [(PAIR_STATUS_TAKEOVER_PEND, 1)]) ∧ (t.pair = { w_takeoverDetect.pair with become := true }) ∧ (t.evr = (w_takeoverDetect.record .takeover []).evr))
    | _ => false) = true := by decide +kernel

def w_takeoverDetect_suspect : State := wPair [(PAIR_STATUS_HB_OK, 1)]

theorem test_takeoverDetect_suspect : ((w_takeoverDetect_suspect.stopSafe = true) ∧ (w_takeoverDetect_suspect.bit PAIR_CTRL_EN = true) ∧ (w_takeoverDetect_suspect.active = false) ∧ (w_takeoverDetect_suspect.pair.listen = false) ∧ (w_takeoverDetect_suspect.pair.wait = false) ∧ (w_takeoverDetect_suspect.bit PAIR_STATUS_TAKEOVER_PEND = false) ∧ (w_takeoverDetect_suspect.pair.become = false) ∧ (w_takeoverDetect_suspect.bellsGone ≠ !w_takeoverDetect_suspect.bit PAIR_STATUS_HB_OK) ∧ (w_takeoverDetect_suspect.pair.suspect = false)) ∧ (match exec (.takeoverDetect) w_takeoverDetect_suspect with
    | .next t => decide ((t.pair = { w_takeoverDetect_suspect.pair with suspect := true }) ∧ (t.evr = (w_takeoverDetect_suspect.record .partnerSuspect []).evr))
    | _ => false) = true := by decide +kernel

def w_takeoverDetect_alive : State := { wPair [(PAIR_STATUS_HB_OK, 1), (LANE_STATUS_STATE 3, 3)] with pair := { State.reset.pair with suspect := true, bellHeard := [3] } }

theorem test_takeoverDetect_alive : ((w_takeoverDetect_alive.stopSafe = true) ∧ (w_takeoverDetect_alive.bit PAIR_CTRL_EN = true) ∧ (w_takeoverDetect_alive.active = false) ∧ (w_takeoverDetect_alive.pair.listen = false) ∧ (w_takeoverDetect_alive.pair.wait = false) ∧ (w_takeoverDetect_alive.bit PAIR_STATUS_TAKEOVER_PEND = false) ∧ (w_takeoverDetect_alive.pair.become = false) ∧ (w_takeoverDetect_alive.bellsGone = false) ∧ (w_takeoverDetect_alive.bit PAIR_STATUS_HB_OK = true)) ∧ (match exec (.takeoverDetect) w_takeoverDetect_alive with
    | .next t => decide ((t.pair = { w_takeoverDetect_alive.pair with suspect := false }))
    | _ => false) = true := by decide +kernel

def w_takeoverDetect_none : State := { wPair [(PAIR_STATUS_HB_OK, 1)] with pair := { State.reset.pair with suspect := true } }

theorem test_takeoverDetect_none : ((w_takeoverDetect_none.stopSafe = true) ∧ (w_takeoverDetect_none.bit PAIR_CTRL_EN = false ∨ w_takeoverDetect_none.active = true ∨ w_takeoverDetect_none.pair.listen = true ∨ w_takeoverDetect_none.pair.wait = true ∨ w_takeoverDetect_none.bit PAIR_STATUS_TAKEOVER_PEND = true ∨ w_takeoverDetect_none.pair.become = true ∨ (w_takeoverDetect_none.bellsGone ≠ !w_takeoverDetect_none.bit PAIR_STATUS_HB_OK ∧ w_takeoverDetect_none.pair.suspect = true))) ∧ (match exec (.takeoverDetect) w_takeoverDetect_none with
    | .next t => decide ((t = w_takeoverDetect_none))
    | _ => false) = true := by decide +kernel

def w_ckptDataReceive_first : State := { wPair [] with pair := { State.reset.pair with epoch := some 77, seq := 4, pEpoch := some 88, pSeq := 3, rx := some { seq := 3, chunks := [(0, [1, 2, 3])] } } }

theorem test_ckptDataReceive_first : ((w_ckptDataReceive_first.stopSafe = true) ∧ (w_ckptDataReceive_first.bit PAIR_CTRL_EN = true) ∧ (w_ckptDataReceive_first.domOff 9 = false) ∧ (w_ckptDataReceive_first.pairKey = some (wKey7 : List Nat)) ∧ (w_ckptDataReceive_first.pairAccept (wKey7 : List Nat) (wPairMsg PairType.ckptData (leBytes 4 4 ++ leBytes 4 1400 ++ [1, 2]) : List Nat) = some (⟨PairType.ckptData, 88, 4, 0xFFFFFFFF, leBytes 4 4 ++ leBytes 4 1400 ++ [1, 2]⟩ : PairMsg)) ∧ ((⟨PairType.ckptData, 88, 4, 0xFFFFFFFF, leBytes 4 4 ++ leBytes 4 1400 ++ [1, 2]⟩ : PairMsg).typ = PairType.ckptData) ∧ (w_ckptDataReceive_first.active = false) ∧ (w_ckptDataReceive_first.pair.rx.map (fun y => y.seq) ≠ some (leAt (⟨PairType.ckptData, 88, 4, 0xFFFFFFFF, leBytes 4 4 ++ leBytes 4 1400 ++ [1, 2]⟩ : PairMsg).body 0 4))) ∧ (match exec (.ckptDataReceive (wPairMsg PairType.ckptData (leBytes 4 4 ++ leBytes 4 1400 ++ [1, 2]) : List Nat)) w_ckptDataReceive_first with
    | .next t => decide ((t.pair = { w_ckptDataReceive_first.pair with pEpoch := some (⟨PairType.ckptData, 88, 4, 0xFFFFFFFF, leBytes 4 4 ++ leBytes 4 1400 ++ [1, 2]⟩ : PairMsg).epoch, pSeq := (⟨PairType.ckptData, 88, 4, 0xFFFFFFFF, leBytes 4 4 ++ leBytes 4 1400 ++ [1, 2]⟩ : PairMsg).seq, rx := some { seq := leAt (⟨PairType.ckptData, 88, 4, 0xFFFFFFFF, leBytes 4 4 ++ leBytes 4 1400 ++ [1, 2]⟩ : PairMsg).body 0 4, chunks := [(leAt (⟨PairType.ckptData, 88, 4, 0xFFFFFFFF, leBytes 4 4 ++ leBytes 4 1400 ++ [1, 2]⟩ : PairMsg).body 4 4, (⟨PairType.ckptData, 88, 4, 0xFFFFFFFF, leBytes 4 4 ++ leBytes 4 1400 ++ [1, 2]⟩ : PairMsg).body.drop 8)], sfn := 0, image := [] } }))
    | _ => false) = true := by decide +kernel

def w_ckptDataReceive : State := { wPair [] with pair := { State.reset.pair with epoch := some 77, seq := 4, pEpoch := some 88, pSeq := 3, rx := some { seq := 3, chunks := [(0, [1, 2, 3])] } } }

theorem test_ckptDataReceive : ((w_ckptDataReceive.stopSafe = true) ∧ (w_ckptDataReceive.bit PAIR_CTRL_EN = true) ∧ (w_ckptDataReceive.domOff 9 = false) ∧ (w_ckptDataReceive.pairKey = some (wKey7 : List Nat)) ∧ (w_ckptDataReceive.pairAccept (wKey7 : List Nat) (wPairMsg PairType.ckptData (leBytes 4 3 ++ leBytes 4 3 ++ [9, 8]) : List Nat) = some (⟨PairType.ckptData, 88, 4, 0xFFFFFFFF, leBytes 4 3 ++ leBytes 4 3 ++ [9, 8]⟩ : PairMsg)) ∧ ((⟨PairType.ckptData, 88, 4, 0xFFFFFFFF, leBytes 4 3 ++ leBytes 4 3 ++ [9, 8]⟩ : PairMsg).typ = PairType.ckptData) ∧ (w_ckptDataReceive.active = false) ∧ (w_ckptDataReceive.pair.rx = some ({ seq := 3, chunks := [(0, [1, 2, 3])] } : CkptBuf)) ∧ (({ seq := 3, chunks := [(0, [1, 2, 3])] } : CkptBuf).seq = leAt (⟨PairType.ckptData, 88, 4, 0xFFFFFFFF, leBytes 4 3 ++ leBytes 4 3 ++ [9, 8]⟩ : PairMsg).body 0 4)) ∧ (match exec (.ckptDataReceive (wPairMsg PairType.ckptData (leBytes 4 3 ++ leBytes 4 3 ++ [9, 8]) : List Nat)) w_ckptDataReceive with
    | .next t => decide ((t.pair = { w_ckptDataReceive.pair with pEpoch := some (⟨PairType.ckptData, 88, 4, 0xFFFFFFFF, leBytes 4 3 ++ leBytes 4 3 ++ [9, 8]⟩ : PairMsg).epoch, pSeq := (⟨PairType.ckptData, 88, 4, 0xFFFFFFFF, leBytes 4 3 ++ leBytes 4 3 ++ [9, 8]⟩ : PairMsg).seq, rx := some { ({ seq := 3, chunks := [(0, [1, 2, 3])] } : CkptBuf) with chunks := ({ seq := 3, chunks := [(0, [1, 2, 3])] } : CkptBuf).chunks ++ [(leAt (⟨PairType.ckptData, 88, 4, 0xFFFFFFFF, leBytes 4 3 ++ leBytes 4 3 ++ [9, 8]⟩ : PairMsg).body 4 4, (⟨PairType.ckptData, 88, 4, 0xFFFFFFFF, leBytes 4 3 ++ leBytes 4 3 ++ [9, 8]⟩ : PairMsg).body.drop 8)] } }))
    | _ => false) = true := by decide +kernel

def w_ckptDataReceive_active : State := wPair [(PAIR_STATUS_ACTIVE, 1)]

theorem test_ckptDataReceive_active : ((w_ckptDataReceive_active.stopSafe = true) ∧ (w_ckptDataReceive_active.bit PAIR_CTRL_EN = true) ∧ (w_ckptDataReceive_active.domOff 9 = false) ∧ (w_ckptDataReceive_active.pairKey = some (wKey7 : List Nat)) ∧ (w_ckptDataReceive_active.pairAccept (wKey7 : List Nat) (wPairMsg PairType.ckptData (leBytes 4 3 ++ leBytes 4 3 ++ [9, 8]) : List Nat) = some (⟨PairType.ckptData, 88, 4, 0xFFFFFFFF, leBytes 4 3 ++ leBytes 4 3 ++ [9, 8]⟩ : PairMsg)) ∧ ((⟨PairType.ckptData, 88, 4, 0xFFFFFFFF, leBytes 4 3 ++ leBytes 4 3 ++ [9, 8]⟩ : PairMsg).typ = PairType.ckptData) ∧ (w_ckptDataReceive_active.active = true)) ∧ (match exec (.ckptDataReceive (wPairMsg PairType.ckptData (leBytes 4 3 ++ leBytes 4 3 ++ [9, 8]) : List Nat)) w_ckptDataReceive_active with
    | .next t => decide ((t.pair = { w_ckptDataReceive_active.pair with pEpoch := some (⟨PairType.ckptData, 88, 4, 0xFFFFFFFF, leBytes 4 3 ++ leBytes 4 3 ++ [9, 8]⟩ : PairMsg).epoch, pSeq := (⟨PairType.ckptData, 88, 4, 0xFFFFFFFF, leBytes 4 3 ++ leBytes 4 3 ++ [9, 8]⟩ : PairMsg).seq }))
    | _ => false) = true := by decide +kernel

theorem test_ckptDataReceive_disabled : ((wReset.stopSafe = true) ∧ (wReset.bit PAIR_CTRL_EN = false ∨ wReset.domOff 9 = true)) ∧ (match exec (.ckptDataReceive ([] : List Nat)) wReset with
    | .next t => decide ((t = wReset))
    | _ => false) = true := by decide +kernel

def w_ckptDataReceive_otherType : State := wPair []

theorem test_ckptDataReceive_otherType : ((w_ckptDataReceive_otherType.stopSafe = true) ∧ (w_ckptDataReceive_otherType.pairKey = some (wKey7 : List Nat)) ∧ (w_ckptDataReceive_otherType.pairAccept (wKey7 : List Nat) (wPairMsg PairType.safetyAck (leBytes 4 4) : List Nat) = some (⟨PairType.safetyAck, 88, 4, 0xFFFFFFFF, leBytes 4 4⟩ : PairMsg)) ∧ ((⟨PairType.safetyAck, 88, 4, 0xFFFFFFFF, leBytes 4 4⟩ : PairMsg).typ ≠ PairType.ckptData)) ∧ (match exec (.ckptDataReceive (wPairMsg PairType.safetyAck (leBytes 4 4) : List Nat)) w_ckptDataReceive_otherType with
    | .next t => decide ((t = w_ckptDataReceive_otherType))
    | _ => false) = true := by decide +kernel

def w_ckptDataReceive_drop : State := wPair []

theorem test_ckptDataReceive_drop : ((w_ckptDataReceive_drop.stopSafe = true) ∧ (w_ckptDataReceive_drop.bit PAIR_CTRL_EN = true) ∧ (w_ckptDataReceive_drop.domOff 9 = false) ∧ (w_ckptDataReceive_drop.pairKey = some (wKey7 : List Nat)) ∧ (w_ckptDataReceive_drop.pairAccept (wKey7 : List Nat) ((wPairMsg PairType.ckptData (leBytes 4 3 ++ leBytes 4 3 ++ [9, 8])).set 30 1 : List Nat) = none)) ∧ (match exec (.ckptDataReceive ((wPairMsg PairType.ckptData (leBytes 4 3 ++ leBytes 4 3 ++ [9, 8])).set 30 1 : List Nat)) w_ckptDataReceive_drop with
    | .next t => decide ((Reads t [(PAIR_CNT_HB_DROP, w_ckptDataReceive_drop.adv PAIR_CNT_HB_DROP)]))
    | _ => false) = true := by decide +kernel

def w_ckptDataReceive_noKey : State := wPair [(KS_SLOT_W0_TYPE 7, 0)]

theorem test_ckptDataReceive_noKey : ((w_ckptDataReceive_noKey.stopSafe = true) ∧ (w_ckptDataReceive_noKey.bit PAIR_CTRL_EN = true) ∧ (w_ckptDataReceive_noKey.domOff 9 = false) ∧ (w_ckptDataReceive_noKey.pairKey = none)) ∧ (match exec (.ckptDataReceive (wPairMsg PairType.ckptData (leBytes 4 3 ++ leBytes 4 3 ++ [9, 8]) : List Nat)) w_ckptDataReceive_noKey with
    | .next t => decide ((t = State.bump (w_ckptDataReceive_noKey.keyAbort (w_ckptDataReceive_noKey.get PAIR_CTRL_KEY_SLOT) 3 5) PAIR_CNT_HB_DROP) ∧ (Reads t [(PAIR_CNT_HB_DROP, w_ckptDataReceive_noKey.adv PAIR_CNT_HB_DROP)]))
    | _ => false) = true := by decide +kernel

def w_ckptEndReceive_fail : State := { wPair [] with pair := { State.reset.pair with epoch := some 77, seq := 4, pEpoch := some 88, pSeq := 3, rx := some { seq := 3, chunks := [(0, [1, 2, 3])] } } }

theorem test_ckptEndReceive_fail : ((w_ckptEndReceive_fail.stopSafe = true) ∧ (w_ckptEndReceive_fail.bit PAIR_CTRL_EN = true) ∧ (w_ckptEndReceive_fail.domOff 9 = false) ∧ (w_ckptEndReceive_fail.pairKey = some (wKey7 : List Nat)) ∧ (w_ckptEndReceive_fail.pairAccept (wKey7 : List Nat) (wPairMsg PairType.ckptEnd (leBytes 4 3 ++ leBytes 4 4 ++ leBytes 4 0 ++ leBytes 4 20) : List Nat) = some (⟨PairType.ckptEnd, 88, 4, 0xFFFFFFFF, leBytes 4 3 ++ leBytes 4 4 ++ leBytes 4 0 ++ leBytes 4 20⟩ : PairMsg)) ∧ ((⟨PairType.ckptEnd, 88, 4, 0xFFFFFFFF, leBytes 4 3 ++ leBytes 4 4 ++ leBytes 4 0 ++ leBytes 4 20⟩ : PairMsg).typ = PairType.ckptEnd) ∧ (w_ckptEndReceive_fail.active = false) ∧ ((match w_ckptEndReceive_fail.pair.rx with | none => true | some b => (match joinParts b.chunks [] with | none => true | some img => b.seq != leAt (⟨PairType.ckptEnd, 88, 4, 0xFFFFFFFF, leBytes 4 3 ++ leBytes 4 4 ++ leBytes 4 0 ++ leBytes 4 20⟩ : PairMsg).body 0 4 || img.length != leAt (⟨PairType.ckptEnd, 88, 4, 0xFFFFFFFF, leBytes 4 3 ++ leBytes 4 4 ++ leBytes 4 0 ++ leBytes 4 20⟩ : PairMsg).body 4 4 || crc32c img != leAt (⟨PairType.ckptEnd, 88, 4, 0xFFFFFFFF, leBytes 4 3 ++ leBytes 4 4 ++ leBytes 4 0 ++ leBytes 4 20⟩ : PairMsg).body 8 4)) = true)) ∧ (match exec (.ckptEndReceive (wPairMsg PairType.ckptEnd (leBytes 4 3 ++ leBytes 4 4 ++ leBytes 4 0 ++ leBytes 4 20) : List Nat)) w_ckptEndReceive_fail with
    | .next t => decide ((t.pair = { w_ckptEndReceive_fail.pair with pEpoch := some (⟨PairType.ckptEnd, 88, 4, 0xFFFFFFFF, leBytes 4 3 ++ leBytes 4 4 ++ leBytes 4 0 ++ leBytes 4 20⟩ : PairMsg).epoch, pSeq := (⟨PairType.ckptEnd, 88, 4, 0xFFFFFFFF, leBytes 4 3 ++ leBytes 4 4 ++ leBytes 4 0 ++ leBytes 4 20⟩ : PairMsg).seq, rx := none }) ∧ (Reads t [(PAIR_CNT_CKPT_FAIL, w_ckptEndReceive_fail.adv PAIR_CNT_CKPT_FAIL)]))
    | _ => false) = true := by decide +kernel

def w_ckptEndReceive : State := { wPair [] with pair := { State.reset.pair with epoch := some 77, seq := 4, pEpoch := some 88, pSeq := 3, rx := some { seq := 3, chunks := [(0, [1, 2, 3])] } } }

theorem test_ckptEndReceive : (w_ckptEndReceive.stopSafe = true) ∧ (w_ckptEndReceive.bit PAIR_CTRL_EN = true) ∧ (w_ckptEndReceive.domOff 9 = false) ∧ (w_ckptEndReceive.pairKey = some (wKey7 : List Nat)) ∧ (w_ckptEndReceive.pairAccept (wKey7 : List Nat) (wPairMsg PairType.ckptEnd (leBytes 4 3 ++ leBytes 4 3 ++ leBytes 4 (crc32c [1, 2, 3]) ++ leBytes 4 20) : List Nat) = some (⟨PairType.ckptEnd, 88, 4, 0xFFFFFFFF, leBytes 4 3 ++ leBytes 4 3 ++ leBytes 4 (crc32c [1, 2, 3]) ++ leBytes 4 20⟩ : PairMsg)) ∧ ((⟨PairType.ckptEnd, 88, 4, 0xFFFFFFFF, leBytes 4 3 ++ leBytes 4 3 ++ leBytes 4 (crc32c [1, 2, 3]) ++ leBytes 4 20⟩ : PairMsg).typ = PairType.ckptEnd) ∧ (w_ckptEndReceive.active = false) ∧ (w_ckptEndReceive.pair.rx = some ({ seq := 3, chunks := [(0, [1, 2, 3])] } : CkptBuf)) ∧ (joinParts ({ seq := 3, chunks := [(0, [1, 2, 3])] } : CkptBuf).chunks [] = some ([1, 2, 3] : List Nat)) ∧ (({ seq := 3, chunks := [(0, [1, 2, 3])] } : CkptBuf).seq = leAt (⟨PairType.ckptEnd, 88, 4, 0xFFFFFFFF, leBytes 4 3 ++ leBytes 4 3 ++ leBytes 4 (crc32c [1, 2, 3]) ++ leBytes 4 20⟩ : PairMsg).body 0 4) ∧ (([1, 2, 3] : List Nat).length = leAt (⟨PairType.ckptEnd, 88, 4, 0xFFFFFFFF, leBytes 4 3 ++ leBytes 4 3 ++ leBytes 4 (crc32c [1, 2, 3]) ++ leBytes 4 20⟩ : PairMsg).body 4 4) ∧ (crc32c ([1, 2, 3] : List Nat) = leAt (⟨PairType.ckptEnd, 88, 4, 0xFFFFFFFF, leBytes 4 3 ++ leBytes 4 3 ++ leBytes 4 (crc32c [1, 2, 3]) ++ leBytes 4 20⟩ : PairMsg).body 8 4) := by decide +kernel

def w_ckptEndReceive_active : State := wPair [(PAIR_STATUS_ACTIVE, 1)]

theorem test_ckptEndReceive_active : ((w_ckptEndReceive_active.stopSafe = true) ∧ (w_ckptEndReceive_active.bit PAIR_CTRL_EN = true) ∧ (w_ckptEndReceive_active.domOff 9 = false) ∧ (w_ckptEndReceive_active.pairKey = some (wKey7 : List Nat)) ∧ (w_ckptEndReceive_active.pairAccept (wKey7 : List Nat) (wPairMsg PairType.ckptEnd (leBytes 4 3 ++ leBytes 4 3 ++ leBytes 4 0 ++ leBytes 4 20) : List Nat) = some (⟨PairType.ckptEnd, 88, 4, 0xFFFFFFFF, leBytes 4 3 ++ leBytes 4 3 ++ leBytes 4 0 ++ leBytes 4 20⟩ : PairMsg)) ∧ ((⟨PairType.ckptEnd, 88, 4, 0xFFFFFFFF, leBytes 4 3 ++ leBytes 4 3 ++ leBytes 4 0 ++ leBytes 4 20⟩ : PairMsg).typ = PairType.ckptEnd) ∧ (w_ckptEndReceive_active.active = true)) ∧ (match exec (.ckptEndReceive (wPairMsg PairType.ckptEnd (leBytes 4 3 ++ leBytes 4 3 ++ leBytes 4 0 ++ leBytes 4 20) : List Nat)) w_ckptEndReceive_active with
    | .next t => decide ((t.pair = { w_ckptEndReceive_active.pair with pEpoch := some (⟨PairType.ckptEnd, 88, 4, 0xFFFFFFFF, leBytes 4 3 ++ leBytes 4 3 ++ leBytes 4 0 ++ leBytes 4 20⟩ : PairMsg).epoch, pSeq := (⟨PairType.ckptEnd, 88, 4, 0xFFFFFFFF, leBytes 4 3 ++ leBytes 4 3 ++ leBytes 4 0 ++ leBytes 4 20⟩ : PairMsg).seq }))
    | _ => false) = true := by decide +kernel

theorem test_ckptEndReceive_disabled : ((wReset.stopSafe = true) ∧ (wReset.bit PAIR_CTRL_EN = false ∨ wReset.domOff 9 = true)) ∧ (match exec (.ckptEndReceive ([] : List Nat)) wReset with
    | .next t => decide ((t = wReset))
    | _ => false) = true := by decide +kernel

def w_ckptEndReceive_otherType : State := wPair []

theorem test_ckptEndReceive_otherType : ((w_ckptEndReceive_otherType.stopSafe = true) ∧ (w_ckptEndReceive_otherType.pairKey = some (wKey7 : List Nat)) ∧ (w_ckptEndReceive_otherType.pairAccept (wKey7 : List Nat) (wPairMsg PairType.safetyAck (leBytes 4 4) : List Nat) = some (⟨PairType.safetyAck, 88, 4, 0xFFFFFFFF, leBytes 4 4⟩ : PairMsg)) ∧ ((⟨PairType.safetyAck, 88, 4, 0xFFFFFFFF, leBytes 4 4⟩ : PairMsg).typ ≠ PairType.ckptEnd)) ∧ (match exec (.ckptEndReceive (wPairMsg PairType.safetyAck (leBytes 4 4) : List Nat)) w_ckptEndReceive_otherType with
    | .next t => decide ((t = w_ckptEndReceive_otherType))
    | _ => false) = true := by decide +kernel

def w_ckptEndReceive_drop : State := wPair []

theorem test_ckptEndReceive_drop : ((w_ckptEndReceive_drop.stopSafe = true) ∧ (w_ckptEndReceive_drop.bit PAIR_CTRL_EN = true) ∧ (w_ckptEndReceive_drop.domOff 9 = false) ∧ (w_ckptEndReceive_drop.pairKey = some (wKey7 : List Nat)) ∧ (w_ckptEndReceive_drop.pairAccept (wKey7 : List Nat) ((wPairMsg PairType.ckptEnd (leBytes 4 3 ++ leBytes 4 3 ++ leBytes 4 0 ++ leBytes 4 20)).set 30 1 : List Nat) = none)) ∧ (match exec (.ckptEndReceive ((wPairMsg PairType.ckptEnd (leBytes 4 3 ++ leBytes 4 3 ++ leBytes 4 0 ++ leBytes 4 20)).set 30 1 : List Nat)) w_ckptEndReceive_drop with
    | .next t => decide ((Reads t [(PAIR_CNT_HB_DROP, w_ckptEndReceive_drop.adv PAIR_CNT_HB_DROP)]))
    | _ => false) = true := by decide +kernel

def w_ckptEndReceive_noKey : State := wPair [(KS_SLOT_W0_TYPE 7, 0)]

theorem test_ckptEndReceive_noKey : ((w_ckptEndReceive_noKey.stopSafe = true) ∧ (w_ckptEndReceive_noKey.bit PAIR_CTRL_EN = true) ∧ (w_ckptEndReceive_noKey.domOff 9 = false) ∧ (w_ckptEndReceive_noKey.pairKey = none)) ∧ (match exec (.ckptEndReceive (wPairMsg PairType.ckptEnd (leBytes 4 3 ++ leBytes 4 3 ++ leBytes 4 0 ++ leBytes 4 20) : List Nat)) w_ckptEndReceive_noKey with
    | .next t => decide ((t = State.bump (w_ckptEndReceive_noKey.keyAbort (w_ckptEndReceive_noKey.get PAIR_CTRL_KEY_SLOT) 3 5) PAIR_CNT_HB_DROP) ∧ (Reads t [(PAIR_CNT_HB_DROP, w_ckptEndReceive_noKey.adv PAIR_CNT_HB_DROP)]))
    | _ => false) = true := by decide +kernel

def w_checkpointLoadComplete : State := { wPair [(PAIR_STATUS_ACTIVE, 1)] with pair := { State.reset.pair with loading := true, ckpt := some { seq := 1, image := [1] } } }

theorem test_checkpointLoadComplete : (w_checkpointLoadComplete.stopSafe = true) ∧ (w_checkpointLoadComplete.pair.loading = true) ∧ (w_checkpointLoadComplete.pair.ckpt = some ({ seq := 1, image := [1] } : CkptBuf)) := by decide +kernel

def w_checkpointLoadComplete_failed : State := { wPair [(PAIR_STATUS_ACTIVE, 1), (MEMBER_W2_STATE 9, 2), (SLOT_OWNER 0 7, 9), (NET_K0_HI_VALID, 1)] with pair := { State.reset.pair with loading := true } }

theorem test_checkpointLoadComplete_failed : ((w_checkpointLoadComplete_failed.stopSafe = true) ∧ (w_checkpointLoadComplete_failed.pair.loading = true) ∧ (w_checkpointLoadComplete_failed.active = true) ∧ (false = false ∨ w_checkpointLoadComplete_failed.pair.ckpt = none)) ∧ (match exec (.checkpointLoadComplete false) w_checkpointLoadComplete_failed with
    | .next t => decide ((t.pair = { w_checkpointLoadComplete_failed.pair with loading := false }) ∧ (t.mac = { w_checkpointLoadComplete_failed.mac with members := [], freed := [] }) ∧ ((List.range 192).all (fun a => t.get (MEMBER_W2_STATE a) == 0 && t.get (SLOT_OWNER 0 a) == 0 && t.get (SLOT_OWNER 1 a) == 0) = true) ∧ (Reads t [(NET_K0_HI_VALID, w_checkpointLoadComplete_failed.get NET_K0_HI_VALID), (NET_K0_LO_K0, w_checkpointLoadComplete_failed.get NET_K0_LO_K0), (SLOT_CTRL_BANK, w_checkpointLoadComplete_failed.get SLOT_CTRL_BANK)]))
    | _ => false) = true := by decide +kernel

def w_checkpointLoadComplete_abandoned : State := { wPair [(PAIR_STATUS_HANDOVER_PEND, 1)] with pair := { State.reset.pair with loading := true } }

theorem test_checkpointLoadComplete_abandoned : ((w_checkpointLoadComplete_abandoned.stopSafe = true) ∧ (w_checkpointLoadComplete_abandoned.pair.loading = true) ∧ (w_checkpointLoadComplete_abandoned.active = false) ∧ (false = false ∨ w_checkpointLoadComplete_abandoned.pair.ckpt = none) ∧ (w_checkpointLoadComplete_abandoned.bit PAIR_STATUS_HANDOVER_PEND = true) ∧ (w_checkpointLoadComplete_abandoned.pair.hoReq = none)) ∧ (match exec (.checkpointLoadComplete false) w_checkpointLoadComplete_abandoned with
    | .next t => decide ((t.pair = { w_checkpointLoadComplete_abandoned.pair with loading := false, frozen := false, hoReq := none, hoLoaded := false }) ∧ (Reads t [(PAIR_STATUS_HANDOVER_PEND, 0)]) ∧ (t.evr = (w_checkpointLoadComplete_abandoned.record .handoverAbort []).evr))
    | _ => false) = true := by decide +kernel

def w_checkpointLoadComplete_standby : State := { wPair [] with pair := { State.reset.pair with loading := true } }

theorem test_checkpointLoadComplete_standby : ((w_checkpointLoadComplete_standby.stopSafe = true) ∧ (w_checkpointLoadComplete_standby.pair.loading = true) ∧ (w_checkpointLoadComplete_standby.active = false) ∧ (true = false ∨ w_checkpointLoadComplete_standby.pair.ckpt = none) ∧ (w_checkpointLoadComplete_standby.bit PAIR_STATUS_HANDOVER_PEND = false) ∧ (w_checkpointLoadComplete_standby.pair.hoReq = none)) ∧ (match exec (.checkpointLoadComplete true) w_checkpointLoadComplete_standby with
    | .next t => decide ((t.pair = { w_checkpointLoadComplete_standby.pair with loading := false }))
    | _ => false) = true := by decide +kernel

theorem test_checkpointLoadComplete_none : ((wReset.stopSafe = true) ∧ (wReset.pair.loading = false)) ∧ (match exec (.checkpointLoadComplete true) wReset with
    | .next t => decide ((t = wReset))
    | _ => false) = true := by decide +kernel

def w_pairHandover : State := { wPair [(PAIR_STATUS_ACTIVE, 1), (PAIR_STATUS_HB_OK, 1), (NET_K0_HI_VALID, 1)] with time := { State.reset.time with grid := true, k := 1001 }, pair := { State.reset.pair with epoch := some 77, seq := 4, pState := 4 } }

theorem test_pairHandover : ((w_pairHandover.stopSafe = true) ∧ (w_pairHandover.accepts 0x0E01 3 9 true = true) ∧ (w_pairHandover.pairKey = some (wKey7 : List Nat)) ∧ (w_pairHandover.pairUp = true) ∧ (w_pairHandover.pair.epoch = some 77) ∧ (1005 < 2 ^ 32) ∧ (bitOf w_pairHandover.pair.pState 2 = true) ∧ (w_pairHandover.bit PAIR_STATUS_HB_OK = true) ∧ (w_pairHandover.bit PAIR_STATUS_PAIR_SLOW = false) ∧ (w_pairHandover.bit PAIR_STATUS_KEY_MISMATCH = false) ∧ (w_pairHandover.bit PAIR_STATUS_HANDOVER_PEND = false) ∧ (w_pairHandover.pair.hoReq = none) ∧ (w_pairHandover.handoverAt 1005 < 2 ^ 32)) ∧ (match exec (.pairHandover 3 9 (leBytes 4 1005)) w_pairHandover with
    | .next t => decide ((opens w_pairHandover t [Output.pair (pairBytes PairType.handover w_pairHandover.unitBit 77 (w_pairHandover.pair.seq + 1) w_pairHandover.sfn (leBytes 4 (w_pairHandover.handoverAt 1005)) ++ pairMac (wKey7 : List Nat) (pairBytes PairType.handover w_pairHandover.unitBit 77 (w_pairHandover.pair.seq + 1) w_pairHandover.sfn (leBytes 4 (w_pairHandover.handoverAt 1005))))] 0x0E01 3 9 (crc32c (leBytes 4 1005)) (some (t.progressBytes 3 9)) = true) ∧ (Reads t [(HANDOVER_SFN_H, w_pairHandover.handoverAt 1005)]) ∧ (t.pair = { w_pairHandover.pair with seq := w_pairHandover.pair.seq + 1, hoReq := some (3, 9), hoLoaded := false }) ∧ (w_pairHandover.handoverAt 1005 % 10 = 0 ∧ 1005 ≤ w_pairHandover.handoverAt 1005 ∧ w_pairHandover.sfn + 20 ≤ w_pairHandover.handoverAt 1005 ∧ w_pairHandover.handoverAt 1005 < max 1005 (w_pairHandover.sfn + 20) + 10) ∧ (t.ecp.sessions.any (fun (z : EcpSession) => z.id == 3 && z.inProg.any (fun (q : EcpOpen) => q.tag == 9 && q.op == 0x0E01)) = true))
    | _ => false) = true := by decide +kernel

def w_pairHandover_down : State := { wPair [(PAIR_STATUS_ACTIVE, 1), (PAIR_STATUS_HB_OK, 1), (NET_K0_HI_VALID, 1), (PAIR_STATUS_LINK, 0)] with time := { State.reset.time with grid := true, k := 1001 }, pair := { State.reset.pair with epoch := some 77, seq := 4, pState := 4 } }

theorem test_pairHandover_down : ((w_pairHandover_down.stopSafe = true) ∧ (w_pairHandover_down.accepts 0x0E01 3 9 true = true) ∧ (w_pairHandover_down.pairKey = some (wKey7 : List Nat)) ∧ (w_pairHandover_down.pairUp = false) ∧ (1005 < 2 ^ 32) ∧ (bitOf w_pairHandover_down.pair.pState 2 = true) ∧ (w_pairHandover_down.bit PAIR_STATUS_HB_OK = true) ∧ (w_pairHandover_down.bit PAIR_STATUS_PAIR_SLOW = false) ∧ (w_pairHandover_down.bit PAIR_STATUS_KEY_MISMATCH = false) ∧ (w_pairHandover_down.bit PAIR_STATUS_HANDOVER_PEND = false) ∧ (w_pairHandover_down.pair.hoReq = none) ∧ (w_pairHandover_down.handoverAt 1005 < 2 ^ 32)) ∧ (match exec (.pairHandover 3 9 (leBytes 4 1005)) w_pairHandover_down with
    | .next t => decide ((opens w_pairHandover_down t [] 0x0E01 3 9 (crc32c (leBytes 4 1005)) (some (t.progressBytes 3 9)) = true) ∧ (Reads t [(HANDOVER_SFN_H, w_pairHandover_down.handoverAt 1005)]) ∧ (t.pair = { w_pairHandover_down.pair with hoReq := some (3, 9), hoLoaded := false }) ∧ (w_pairHandover_down.handoverAt 1005 % 10 = 0 ∧ 1005 ≤ w_pairHandover_down.handoverAt 1005 ∧ w_pairHandover_down.sfn + 20 ≤ w_pairHandover_down.handoverAt 1005 ∧ w_pairHandover_down.handoverAt 1005 < max 1005 (w_pairHandover_down.sfn + 20) + 10) ∧ (t.ecp.sessions.any (fun (z : EcpSession) => z.id == 3 && z.inProg.any (fun (q : EcpOpen) => q.tag == 9 && q.op == 0x0E01)) = true))
    | _ => false) = true := by decide +kernel

theorem test_pairHandover_denied : ((wAct.stopSafe = true) ∧ (wAct.accepts 0x0E01 3 9 true = true) ∧ (bitOf wAct.pair.pState 2 = false ∨ wAct.bit PAIR_STATUS_HB_OK = false ∨ wAct.bit PAIR_STATUS_PAIR_SLOW = true ∨ wAct.bit PAIR_STATUS_KEY_MISMATCH = true ∨ wAct.bit PAIR_STATUS_HANDOVER_PEND = true ∨ wAct.pair.hoReq.isSome = true)) ∧ (match exec (.pairHandover 3 9 (leBytes 4 1005)) wAct with
    | .next t => decide ((answers wAct t [] 0x0E01 3 9 Ecp.DENIED (crc32c (leBytes 4 1005)) [] = true))
    | _ => false) = true := by decide +kernel

def w_handoverReceive : State := wPair []

theorem test_handoverReceive : ((w_handoverReceive.stopSafe = true) ∧ (w_handoverReceive.bit PAIR_CTRL_EN = true) ∧ (w_handoverReceive.domOff 9 = false) ∧ (w_handoverReceive.pairKey = some (wKey7 : List Nat)) ∧ (w_handoverReceive.pairAccept (wKey7 : List Nat) (wPairMsg PairType.handover (leBytes 4 1030) : List Nat) = some (⟨PairType.handover, 88, 4, 0xFFFFFFFF, leBytes 4 1030⟩ : PairMsg)) ∧ ((⟨PairType.handover, 88, 4, 0xFFFFFFFF, leBytes 4 1030⟩ : PairMsg).typ = PairType.handover) ∧ (w_handoverReceive.active = false) ∧ (w_handoverReceive.pairUp = true) ∧ (w_handoverReceive.pair.epoch = some 77)) ∧ (match exec (.handoverReceive (wPairMsg PairType.handover (leBytes 4 1030) : List Nat)) w_handoverReceive with
    | .next t => decide ((Reads t [(HANDOVER_SFN_H, leAt (⟨PairType.handover, 88, 4, 0xFFFFFFFF, leBytes 4 1030⟩ : PairMsg).body 0 4), (PAIR_STATUS_HANDOVER_PEND, 1)]) ∧ (t.pair = { w_handoverReceive.pair with pEpoch := some (⟨PairType.handover, 88, 4, 0xFFFFFFFF, leBytes 4 1030⟩ : PairMsg).epoch, pSeq := (⟨PairType.handover, 88, 4, 0xFFFFFFFF, leBytes 4 1030⟩ : PairMsg).seq, hoLoaded := false, seq := w_handoverReceive.pair.seq + 1 }) ∧ (t.out = w_handoverReceive.out ++ [Output.pair (pairBytes PairType.handoverAck w_handoverReceive.unitBit 77 (w_handoverReceive.pair.seq + 1) w_handoverReceive.sfn (leBytes 4 (leAt (⟨PairType.handover, 88, 4, 0xFFFFFFFF, leBytes 4 1030⟩ : PairMsg).body 0 4)) ++ pairMac (wKey7 : List Nat) (pairBytes PairType.handoverAck w_handoverReceive.unitBit 77 (w_handoverReceive.pair.seq + 1) w_handoverReceive.sfn (leBytes 4 (leAt (⟨PairType.handover, 88, 4, 0xFFFFFFFF, leBytes 4 1030⟩ : PairMsg).body 0 4))))]))
    | _ => false) = true := by decide +kernel

def w_handoverReceive_epoch : State := { wPair [] with pair := { State.reset.pair with pEpoch := some 88, pSeq := 3 } }

theorem test_handoverReceive_epoch : (w_handoverReceive_epoch.stopSafe = true) ∧ (w_handoverReceive_epoch.bit PAIR_CTRL_EN = true) ∧ (w_handoverReceive_epoch.domOff 9 = false) ∧ (w_handoverReceive_epoch.pairKey = some (wKey7 : List Nat)) ∧ (w_handoverReceive_epoch.pairAccept (wKey7 : List Nat) (wPairMsg PairType.handover (leBytes 4 1030) : List Nat) = some (⟨PairType.handover, 88, 4, 0xFFFFFFFF, leBytes 4 1030⟩ : PairMsg)) ∧ ((⟨PairType.handover, 88, 4, 0xFFFFFFFF, leBytes 4 1030⟩ : PairMsg).typ = PairType.handover) ∧ (w_handoverReceive_epoch.active = false) ∧ (w_handoverReceive_epoch.pairUp = true) ∧ (w_handoverReceive_epoch.pair.epoch = none) := by decide +kernel

def w_handoverReceive_down : State := wPair [(PAIR_STATUS_LINK, 0)]

theorem test_handoverReceive_down : ((w_handoverReceive_down.stopSafe = true) ∧ (w_handoverReceive_down.bit PAIR_CTRL_EN = true) ∧ (w_handoverReceive_down.domOff 9 = false) ∧ (w_handoverReceive_down.pairKey = some (wKey7 : List Nat)) ∧ (w_handoverReceive_down.pairAccept (wKey7 : List Nat) (wPairMsg PairType.handover (leBytes 4 1030) : List Nat) = some (⟨PairType.handover, 88, 4, 0xFFFFFFFF, leBytes 4 1030⟩ : PairMsg)) ∧ ((⟨PairType.handover, 88, 4, 0xFFFFFFFF, leBytes 4 1030⟩ : PairMsg).typ = PairType.handover) ∧ (w_handoverReceive_down.active = false) ∧ (w_handoverReceive_down.pairUp = false)) ∧ (match exec (.handoverReceive (wPairMsg PairType.handover (leBytes 4 1030) : List Nat)) w_handoverReceive_down with
    | .next t => decide ((Reads t [(HANDOVER_SFN_H, leAt (⟨PairType.handover, 88, 4, 0xFFFFFFFF, leBytes 4 1030⟩ : PairMsg).body 0 4), (PAIR_STATUS_HANDOVER_PEND, 1)]) ∧ (t.pair = { w_handoverReceive_down.pair with pEpoch := some (⟨PairType.handover, 88, 4, 0xFFFFFFFF, leBytes 4 1030⟩ : PairMsg).epoch, pSeq := (⟨PairType.handover, 88, 4, 0xFFFFFFFF, leBytes 4 1030⟩ : PairMsg).seq, hoLoaded := false }))
    | _ => false) = true := by decide +kernel

def w_handoverReceive_active : State := wPair [(PAIR_STATUS_ACTIVE, 1)]

theorem test_handoverReceive_active : ((w_handoverReceive_active.stopSafe = true) ∧ (w_handoverReceive_active.bit PAIR_CTRL_EN = true) ∧ (w_handoverReceive_active.domOff 9 = false) ∧ (w_handoverReceive_active.pairKey = some (wKey7 : List Nat)) ∧ (w_handoverReceive_active.pairAccept (wKey7 : List Nat) (wPairMsg PairType.handover (leBytes 4 1030) : List Nat) = some (⟨PairType.handover, 88, 4, 0xFFFFFFFF, leBytes 4 1030⟩ : PairMsg)) ∧ ((⟨PairType.handover, 88, 4, 0xFFFFFFFF, leBytes 4 1030⟩ : PairMsg).typ = PairType.handover) ∧ (w_handoverReceive_active.active = true)) ∧ (match exec (.handoverReceive (wPairMsg PairType.handover (leBytes 4 1030) : List Nat)) w_handoverReceive_active with
    | .next t => decide ((t.pair = { w_handoverReceive_active.pair with pEpoch := some (⟨PairType.handover, 88, 4, 0xFFFFFFFF, leBytes 4 1030⟩ : PairMsg).epoch, pSeq := (⟨PairType.handover, 88, 4, 0xFFFFFFFF, leBytes 4 1030⟩ : PairMsg).seq }))
    | _ => false) = true := by decide +kernel

theorem test_handoverReceive_disabled : ((wReset.stopSafe = true) ∧ (wReset.bit PAIR_CTRL_EN = false ∨ wReset.domOff 9 = true)) ∧ (match exec (.handoverReceive ([] : List Nat)) wReset with
    | .next t => decide ((t = wReset))
    | _ => false) = true := by decide +kernel

def w_handoverReceive_otherType : State := wPair []

theorem test_handoverReceive_otherType : ((w_handoverReceive_otherType.stopSafe = true) ∧ (w_handoverReceive_otherType.pairKey = some (wKey7 : List Nat)) ∧ (w_handoverReceive_otherType.pairAccept (wKey7 : List Nat) (wPairMsg PairType.safetyAck (leBytes 4 4) : List Nat) = some (⟨PairType.safetyAck, 88, 4, 0xFFFFFFFF, leBytes 4 4⟩ : PairMsg)) ∧ ((⟨PairType.safetyAck, 88, 4, 0xFFFFFFFF, leBytes 4 4⟩ : PairMsg).typ ≠ PairType.handover)) ∧ (match exec (.handoverReceive (wPairMsg PairType.safetyAck (leBytes 4 4) : List Nat)) w_handoverReceive_otherType with
    | .next t => decide ((t = w_handoverReceive_otherType))
    | _ => false) = true := by decide +kernel

def w_handoverReceive_drop : State := wPair []

theorem test_handoverReceive_drop : ((w_handoverReceive_drop.stopSafe = true) ∧ (w_handoverReceive_drop.bit PAIR_CTRL_EN = true) ∧ (w_handoverReceive_drop.domOff 9 = false) ∧ (w_handoverReceive_drop.pairKey = some (wKey7 : List Nat)) ∧ (w_handoverReceive_drop.pairAccept (wKey7 : List Nat) ((wPairMsg PairType.handover (leBytes 4 1030)).set 30 1 : List Nat) = none)) ∧ (match exec (.handoverReceive ((wPairMsg PairType.handover (leBytes 4 1030)).set 30 1 : List Nat)) w_handoverReceive_drop with
    | .next t => decide ((Reads t [(PAIR_CNT_HB_DROP, w_handoverReceive_drop.adv PAIR_CNT_HB_DROP)]))
    | _ => false) = true := by decide +kernel

def w_handoverReceive_noKey : State := wPair [(KS_SLOT_W0_TYPE 7, 0)]

theorem test_handoverReceive_noKey : ((w_handoverReceive_noKey.stopSafe = true) ∧ (w_handoverReceive_noKey.bit PAIR_CTRL_EN = true) ∧ (w_handoverReceive_noKey.domOff 9 = false) ∧ (w_handoverReceive_noKey.pairKey = none)) ∧ (match exec (.handoverReceive (wPairMsg PairType.handover (leBytes 4 1030) : List Nat)) w_handoverReceive_noKey with
    | .next t => decide ((t = State.bump (w_handoverReceive_noKey.keyAbort (w_handoverReceive_noKey.get PAIR_CTRL_KEY_SLOT) 3 5) PAIR_CNT_HB_DROP) ∧ (Reads t [(PAIR_CNT_HB_DROP, w_handoverReceive_noKey.adv PAIR_CNT_HB_DROP)]))
    | _ => false) = true := by decide +kernel

def w_handoverAckReceive : State := { wPair [(PAIR_STATUS_ACTIVE, 1), (HANDOVER_SFN_H, 1030)] with pair := { State.reset.pair with pEpoch := some 88, pSeq := 3, hoReq := some (3, 9) } }

theorem test_handoverAckReceive : ((w_handoverAckReceive.stopSafe = true) ∧ (w_handoverAckReceive.bit PAIR_CTRL_EN = true) ∧ (w_handoverAckReceive.domOff 9 = false) ∧ (w_handoverAckReceive.pairKey = some (wKey7 : List Nat)) ∧ (w_handoverAckReceive.pairAccept (wKey7 : List Nat) (wPairMsg PairType.handoverAck (leBytes 4 1030) : List Nat) = some (⟨PairType.handoverAck, 88, 4, 0xFFFFFFFF, leBytes 4 1030⟩ : PairMsg)) ∧ ((⟨PairType.handoverAck, 88, 4, 0xFFFFFFFF, leBytes 4 1030⟩ : PairMsg).typ = PairType.handoverAck) ∧ (w_handoverAckReceive.active = true) ∧ (w_handoverAckReceive.pair.hoReq.isSome = true) ∧ (leAt (⟨PairType.handoverAck, 88, 4, 0xFFFFFFFF, leBytes 4 1030⟩ : PairMsg).body 0 4 = w_handoverAckReceive.get HANDOVER_SFN_H)) ∧ (match exec (.handoverAckReceive (wPairMsg PairType.handoverAck (leBytes 4 1030) : List Nat)) w_handoverAckReceive with
    | .next t => decide ((Reads t [(PAIR_STATUS_HANDOVER_PEND, 1)]) ∧ (t.pair = { w_handoverAckReceive.pair with pEpoch := some (⟨PairType.handoverAck, 88, 4, 0xFFFFFFFF, leBytes 4 1030⟩ : PairMsg).epoch, pSeq := (⟨PairType.handoverAck, 88, 4, 0xFFFFFFFF, leBytes 4 1030⟩ : PairMsg).seq }))
    | _ => false) = true := by decide +kernel

def w_handoverAckReceive_stray : State := wPair [(PAIR_STATUS_ACTIVE, 1)]

theorem test_handoverAckReceive_stray : ((w_handoverAckReceive_stray.stopSafe = true) ∧ (w_handoverAckReceive_stray.bit PAIR_CTRL_EN = true) ∧ (w_handoverAckReceive_stray.domOff 9 = false) ∧ (w_handoverAckReceive_stray.pairKey = some (wKey7 : List Nat)) ∧ (w_handoverAckReceive_stray.pairAccept (wKey7 : List Nat) (wPairMsg PairType.handoverAck (leBytes 4 1030) : List Nat) = some (⟨PairType.handoverAck, 88, 4, 0xFFFFFFFF, leBytes 4 1030⟩ : PairMsg)) ∧ ((⟨PairType.handoverAck, 88, 4, 0xFFFFFFFF, leBytes 4 1030⟩ : PairMsg).typ = PairType.handoverAck) ∧ (w_handoverAckReceive_stray.active = false ∨ w_handoverAckReceive_stray.pair.hoReq = none ∨ leAt (⟨PairType.handoverAck, 88, 4, 0xFFFFFFFF, leBytes 4 1030⟩ : PairMsg).body 0 4 ≠ w_handoverAckReceive_stray.get HANDOVER_SFN_H)) ∧ (match exec (.handoverAckReceive (wPairMsg PairType.handoverAck (leBytes 4 1030) : List Nat)) w_handoverAckReceive_stray with
    | .next t => decide ((t.pair = { w_handoverAckReceive_stray.pair with pEpoch := some (⟨PairType.handoverAck, 88, 4, 0xFFFFFFFF, leBytes 4 1030⟩ : PairMsg).epoch, pSeq := (⟨PairType.handoverAck, 88, 4, 0xFFFFFFFF, leBytes 4 1030⟩ : PairMsg).seq }))
    | _ => false) = true := by decide +kernel

theorem test_handoverAckReceive_disabled : ((wReset.stopSafe = true) ∧ (wReset.bit PAIR_CTRL_EN = false ∨ wReset.domOff 9 = true)) ∧ (match exec (.handoverAckReceive ([] : List Nat)) wReset with
    | .next t => decide ((t = wReset))
    | _ => false) = true := by decide +kernel

def w_handoverAckReceive_otherType : State := wPair []

theorem test_handoverAckReceive_otherType : ((w_handoverAckReceive_otherType.stopSafe = true) ∧ (w_handoverAckReceive_otherType.pairKey = some (wKey7 : List Nat)) ∧ (w_handoverAckReceive_otherType.pairAccept (wKey7 : List Nat) (wPairMsg PairType.safetyAck (leBytes 4 4) : List Nat) = some (⟨PairType.safetyAck, 88, 4, 0xFFFFFFFF, leBytes 4 4⟩ : PairMsg)) ∧ ((⟨PairType.safetyAck, 88, 4, 0xFFFFFFFF, leBytes 4 4⟩ : PairMsg).typ ≠ PairType.handoverAck)) ∧ (match exec (.handoverAckReceive (wPairMsg PairType.safetyAck (leBytes 4 4) : List Nat)) w_handoverAckReceive_otherType with
    | .next t => decide ((t = w_handoverAckReceive_otherType))
    | _ => false) = true := by decide +kernel

def w_handoverAckReceive_drop : State := wPair []

theorem test_handoverAckReceive_drop : ((w_handoverAckReceive_drop.stopSafe = true) ∧ (w_handoverAckReceive_drop.bit PAIR_CTRL_EN = true) ∧ (w_handoverAckReceive_drop.domOff 9 = false) ∧ (w_handoverAckReceive_drop.pairKey = some (wKey7 : List Nat)) ∧ (w_handoverAckReceive_drop.pairAccept (wKey7 : List Nat) ((wPairMsg PairType.handoverAck (leBytes 4 1030)).set 30 1 : List Nat) = none)) ∧ (match exec (.handoverAckReceive ((wPairMsg PairType.handoverAck (leBytes 4 1030)).set 30 1 : List Nat)) w_handoverAckReceive_drop with
    | .next t => decide ((Reads t [(PAIR_CNT_HB_DROP, w_handoverAckReceive_drop.adv PAIR_CNT_HB_DROP)]))
    | _ => false) = true := by decide +kernel

def w_handoverAckReceive_noKey : State := wPair [(KS_SLOT_W0_TYPE 7, 0)]

theorem test_handoverAckReceive_noKey : ((w_handoverAckReceive_noKey.stopSafe = true) ∧ (w_handoverAckReceive_noKey.bit PAIR_CTRL_EN = true) ∧ (w_handoverAckReceive_noKey.domOff 9 = false) ∧ (w_handoverAckReceive_noKey.pairKey = none)) ∧ (match exec (.handoverAckReceive (wPairMsg PairType.handoverAck (leBytes 4 1030) : List Nat)) w_handoverAckReceive_noKey with
    | .next t => decide ((t = State.bump (w_handoverAckReceive_noKey.keyAbort (w_handoverAckReceive_noKey.get PAIR_CTRL_KEY_SLOT) 3 5) PAIR_CNT_HB_DROP) ∧ (Reads t [(PAIR_CNT_HB_DROP, w_handoverAckReceive_noKey.adv PAIR_CNT_HB_DROP)]))
    | _ => false) = true := by decide +kernel

def w_drillDayCount : State := { at_ [(PAIR_CTRL_DRILL_DAYS, 30), (PAIR_STATUS_DAYS_SINCE_ACTIVE, 29), (REC_AON_OH_SECONDS, 90000)] with pwr := { State.reset.pwr with dayFrom := 3600 } }

theorem test_drillDayCount : ((w_drillDayCount.stopSafe = true) ∧ (w_drillDayCount.active = false) ∧ (w_drillDayCount.pwr.dayFrom + 86400 ≤ w_drillDayCount.get REC_AON_OH_SECONDS) ∧ (w_drillDayCount.adv PAIR_STATUS_DAYS_SINCE_ACTIVE ≤ w_drillDayCount.get PAIR_CTRL_DRILL_DAYS)) ∧ (match exec (.drillDayCount) w_drillDayCount with
    | .next t => decide ((Reads t [(PAIR_STATUS_DAYS_SINCE_ACTIVE, w_drillDayCount.adv PAIR_STATUS_DAYS_SINCE_ACTIVE)]) ∧ (t.pwr = { w_drillDayCount.pwr with dayFrom := w_drillDayCount.pwr.dayFrom + 86400 }))
    | _ => false) = true := by decide +kernel

def w_drillDayCount_due : State := { at_ [(PAIR_CTRL_DRILL_DAYS, 30), (PAIR_STATUS_DAYS_SINCE_ACTIVE, 30), (REC_AON_OH_SECONDS, 90000)] with pwr := { State.reset.pwr with dayFrom := 3600 } }

theorem test_drillDayCount_due : ((w_drillDayCount_due.stopSafe = true) ∧ (w_drillDayCount_due.active = false) ∧ (w_drillDayCount_due.pwr.dayFrom + 86400 ≤ w_drillDayCount_due.get REC_AON_OH_SECONDS) ∧ (w_drillDayCount_due.get PAIR_CTRL_DRILL_DAYS < w_drillDayCount_due.adv PAIR_STATUS_DAYS_SINCE_ACTIVE)) ∧ (match exec (.drillDayCount) w_drillDayCount_due with
    | .next t => decide ((Reads t [(PAIR_STATUS_DAYS_SINCE_ACTIVE, w_drillDayCount_due.adv PAIR_STATUS_DAYS_SINCE_ACTIVE), (PAIR_STATUS_DRILL_DUE, 1)]) ∧ (t.evr = (w_drillDayCount_due.record .drillDue []).evr) ∧ (t.pwr = { w_drillDayCount_due.pwr with dayFrom := w_drillDayCount_due.pwr.dayFrom + 86400 }))
    | _ => false) = true := by decide +kernel

def w_drillDayCount_none : State := { at_ [(PAIR_CTRL_DRILL_DAYS, 30), (PAIR_STATUS_DAYS_SINCE_ACTIVE, 30), (REC_AON_OH_SECONDS, 89999)] with pwr := { State.reset.pwr with dayFrom := 3600 } }

theorem test_drillDayCount_none : ((w_drillDayCount_none.stopSafe = true) ∧ (w_drillDayCount_none.active = true ∨ w_drillDayCount_none.get REC_AON_OH_SECONDS < w_drillDayCount_none.pwr.dayFrom + 86400)) ∧ (match exec (.drillDayCount) w_drillDayCount_none with
    | .next t => decide ((t = w_drillDayCount_none))
    | _ => false) = true := by decide +kernel

theorem test_pairGet : ((wSess.stopSafe = true) ∧ (wSess.accepts 0x0E00 3 9 false = true)) ∧ (match exec (.pairGet 3 9) wSess with
    | .next t => decide ((answers wSess t [] 0x0E00 3 9 Ecp.OK (crc32c []) ([wSess.get CLAIM, wSess.get PARTNER_CLAIM_CLAIM, wSess.pairStatus, wSess.get CKPT_SEQ_SEQ, wSess.get CKPT_SFN_CAPTURE_SFN, wSess.get HANDOVER_SFN_H].flatMap (leBytes 4)) = true))
    | _ => false) = true := by decide +kernel

def w_keyGenerate : State := withSess { at_ [(KS_SLOT_W0_TYPE 200, 3), (KS_SLOT_W0_USE 200, 2), (KS_SLOT_W1_GEN 200, 7), (KS_SLOT_W1_GEN 300, 5), (KS_SLOT_W0_TYPE 9, 2), (KS_SLOT_W0_USE 9, 8), (KS_SLOT_W0_TYPE 10, 4), (KS_SLOT_W0_ORIGIN 10, 2), (KS_SLOT_W0_PARENT 10, 200), (KS_SLOT_W2_PGEN 10, 7), (KS_SLOT_W0_TYPE 11, 1), (KS_SLOT_W0_ORIGIN 11, 2), (KS_SLOT_W0_PARENT 11, 200), (KS_SLOT_W2_PGEN 11, 6)] with ks := { vals := [(200, List.replicate 32 3), (9, List.range 32), (10, List.replicate 31 0 ++ [1]), (11, List.replicate 16 1)] } }

theorem test_keyGenerate : ((w_keyGenerate.stopSafe = true) ∧ (w_keyGenerate.accepts 0x0901 3 9 false = true) ∧ (w_keyGenerate.tampered = false) ∧ (300 < 512) ∧ (1 ≤ 1 ∧ 1 ≤ 4) ∧ (63 < 64) ∧ (w_keyGenerate.get (KS_SLOT_W0_TYPE 300) = 0) ∧ (w_keyGenerate.get (KS_SLOT_W1_GEN 300) ≠ 0xFFFFFFFF) ∧ (w_keyGenerate.bit KS_STATUS_TRNG_FAIL = false)) ∧ (match exec (.keyGenerate 3 9 ((leBytes 2 300 ++ [1, 63]))) w_keyGenerate with
    | .next t => decide ((answers w_keyGenerate t [] 0x0901 3 9 Ecp.OK (crc32c (leBytes 2 300 ++ [1, 63])) (leBytes 4 (w_keyGenerate.get (KS_SLOT_W1_GEN 300))) = true) ∧ (Reads t [(KS_SLOT_W0_TYPE 300, 1), (KS_SLOT_W0_ORIGIN 300, 1), (KS_SLOT_W0_USE 300, 63), (KS_SLOT_W0_ROOT_PARENT 300, 0), (KS_SLOT_W0_PARENT 300, 0), (KS_SLOT_W0_DEPTH 300, 0), (KS_SLOT_W2_PGEN 300, 0)]))
    | _ => false) = true := by decide +kernel

def w_keyGenerate_refused : State := withSess { at_ [(KS_SLOT_W0_TYPE 200, 3), (KS_SLOT_W0_USE 200, 2), (KS_SLOT_W1_GEN 200, 7), (KS_SLOT_W1_GEN 300, 5), (KS_SLOT_W0_TYPE 9, 2), (KS_SLOT_W0_USE 9, 8), (KS_SLOT_W0_TYPE 10, 4), (KS_SLOT_W0_ORIGIN 10, 2), (KS_SLOT_W0_PARENT 10, 200), (KS_SLOT_W2_PGEN 10, 7), (KS_SLOT_W0_TYPE 11, 1), (KS_SLOT_W0_ORIGIN 11, 2), (KS_SLOT_W0_PARENT 11, 200), (KS_SLOT_W2_PGEN 11, 6)] with ks := { vals := [(200, List.replicate 32 3), (9, List.range 32), (10, List.replicate 31 0 ++ [1]), (11, List.replicate 16 1)] } }

theorem test_keyGenerate_refused : ((w_keyGenerate_refused.stopSafe = true) ∧ (w_keyGenerate_refused.accepts 0x0901 3 9 false = true) ∧ (200 < 65536) ∧ (4 < 256) ∧ (16 < 256) ∧ ((Ecp.DENIED) = (if w_keyGenerate_refused.tampered = true then Ecp.TAMPERED else if (512 ≤ 200 ∨ 4 = 0 ∨ 4 < 4 ∨ 64 ≤ 16) then Ecp.BAD_PARAM else if (w_keyGenerate_refused.get (KS_SLOT_W0_TYPE 200) ≠ 0 ∨ w_keyGenerate_refused.get (KS_SLOT_W1_GEN 200) = 0xFFFFFFFF) then Ecp.DENIED else if w_keyGenerate_refused.bit KS_STATUS_TRNG_FAIL = true then Ecp.NOT_READY else Ecp.OK)) ∧ ((Ecp.DENIED) ≠ Ecp.OK)) ∧ (match exec (.keyGenerate 3 9 ((leBytes 2 200 ++ [4, 16]))) w_keyGenerate_refused with
    | .next t => decide ((answers w_keyGenerate_refused t [] 0x0901 3 9 (Ecp.DENIED) (crc32c (leBytes 2 200 ++ [4, 16])) [] = true))
    | _ => false) = true := by decide +kernel

def w_keyDerive : State := withSess { at_ [(KS_SLOT_W0_TYPE 200, 3), (KS_SLOT_W0_USE 200, 2), (KS_SLOT_W1_GEN 200, 7), (KS_SLOT_W1_GEN 300, 5), (KS_SLOT_W0_TYPE 9, 2), (KS_SLOT_W0_USE 9, 8), (KS_SLOT_W0_TYPE 10, 4), (KS_SLOT_W0_ORIGIN 10, 2), (KS_SLOT_W0_PARENT 10, 200), (KS_SLOT_W2_PGEN 10, 7), (KS_SLOT_W0_TYPE 11, 1), (KS_SLOT_W0_ORIGIN 11, 2), (KS_SLOT_W0_PARENT 11, 200), (KS_SLOT_W2_PGEN 11, 6)] with ks := { vals := [(200, List.replicate 32 3), (9, List.range 32), (10, List.replicate 31 0 ++ [1]), (11, List.replicate 16 1)] } }

theorem test_keyDerive : ((w_keyDerive.stopSafe = true) ∧ (w_keyDerive.accepts 0x0902 3 9 false = true) ∧ (w_keyDerive.tampered = false) ∧ (300 < 512) ∧ (1 ≤ 1 ∧ 1 ≤ 4) ∧ (4 < 64) ∧ (w_keyDerive.get (KS_SLOT_W0_TYPE 300) = 0) ∧ (w_keyDerive.get (KS_SLOT_W1_GEN 300) ≠ 0xFFFFFFFF) ∧ (200 < 512) ∧ (1 ≤ ([65] : List Nat).length ∧ ([65] : List Nat).length ≤ 32) ∧ (([] : List Nat).length ≤ 64) ∧ (w_keyDerive.get (KS_SLOT_W0_TYPE 200) = 3) ∧ (bitOf (w_keyDerive.get (KS_SLOT_W0_USE 200)) 1 = true) ∧ (w_keyDerive.get (KS_SLOT_W1_GEN 200) ≠ 0xFFFFFFFF) ∧ (128 ≤ 300 ∨ 200 < 128) ∧ (w_keyDerive.get (KS_SLOT_W0_DEPTH 200) < 8) ∧ (w_keyDerive.orphaned 200 = false)) ∧ (match exec (.keyDerive 3 9 ((leBytes 2 200 ++ leBytes 2 300 ++ [1, 4, ([65] : List Nat).length, ([] : List Nat).length] ++ ([65] : List Nat) ++ ([] : List Nat)))) w_keyDerive with
    | .next t => decide ((answers w_keyDerive t [] 0x0902 3 9 Ecp.OK (crc32c (leBytes 2 200 ++ leBytes 2 300 ++ [1, 4, ([65] : List Nat).length, ([] : List Nat).length] ++ ([65] : List Nat) ++ ([] : List Nat))) (leBytes 4 (w_keyDerive.get (KS_SLOT_W1_GEN 300))) = true) ∧ (Reads t [(KS_SLOT_W0_TYPE 300, 1), (KS_SLOT_W0_ORIGIN 300, 2), (KS_SLOT_W0_USE 300, 4), (KS_SLOT_W0_ROOT_PARENT 300, 0), (KS_SLOT_W0_PARENT 300, 200), (KS_SLOT_W0_DEPTH 300, w_keyDerive.get (KS_SLOT_W0_DEPTH 200) + 1), (KS_SLOT_W2_PGEN 300, w_keyDerive.get (KS_SLOT_W1_GEN 200))]) ∧ (t.keyBytes 300 = keyForm 1 (kdf (w_keyDerive.keyBytes 200) ([65] : List Nat) ([] : List Nat) (keyBits 1))))
    | _ => false) = true := by decide +kernel

def w_keyDerive_root : State := withSess { at_ [(KS_SLOT_W0_TYPE 200, 3), (KS_SLOT_W0_USE 200, 2), (KS_SLOT_W1_GEN 200, 7), (KS_SLOT_W1_GEN 300, 5), (KS_SLOT_W0_TYPE 9, 2), (KS_SLOT_W0_USE 9, 8), (KS_SLOT_W0_TYPE 10, 4), (KS_SLOT_W0_ORIGIN 10, 2), (KS_SLOT_W0_PARENT 10, 200), (KS_SLOT_W2_PGEN 10, 7), (KS_SLOT_W0_TYPE 11, 1), (KS_SLOT_W0_ORIGIN 11, 2), (KS_SLOT_W0_PARENT 11, 200), (KS_SLOT_W2_PGEN 11, 6)] with ks := { vals := [(200, List.replicate 32 3), (9, List.range 32), (10, List.replicate 31 0 ++ [1]), (11, List.replicate 16 1)] } }

theorem test_keyDerive_root : (w_keyDerive_root.stopSafe = true) ∧ (w_keyDerive_root.accepts 0x0902 3 9 false = true) ∧ (w_keyDerive_root.tampered = false) ∧ (300 < 512) ∧ (1 ≤ 1 ∧ 1 ≤ 4) ∧ (4 < 64) ∧ (w_keyDerive_root.get (KS_SLOT_W0_TYPE 300) = 0) ∧ (w_keyDerive_root.get (KS_SLOT_W1_GEN 300) ≠ 0xFFFFFFFF) ∧ (1 ≤ ([65] : List Nat).length ∧ ([65] : List Nat).length ≤ 32) ∧ (([1, 2] : List Nat).length ≤ 64) := by decide +kernel

def w_keyDerive_refused : State := withSess { at_ [(KS_SLOT_W0_TYPE 200, 3), (KS_SLOT_W0_USE 200, 2), (KS_SLOT_W1_GEN 200, 7), (KS_SLOT_W1_GEN 300, 5), (KS_SLOT_W0_TYPE 9, 2), (KS_SLOT_W0_USE 9, 8), (KS_SLOT_W0_TYPE 10, 4), (KS_SLOT_W0_ORIGIN 10, 2), (KS_SLOT_W0_PARENT 10, 200), (KS_SLOT_W2_PGEN 10, 7), (KS_SLOT_W0_TYPE 11, 1), (KS_SLOT_W0_ORIGIN 11, 2), (KS_SLOT_W0_PARENT 11, 200), (KS_SLOT_W2_PGEN 11, 6)] with ks := { vals := [(200, List.replicate 32 3), (9, List.range 32), (10, List.replicate 31 0 ++ [1]), (11, List.replicate 16 1)] } }

theorem test_keyDerive_refused : ((w_keyDerive_refused.stopSafe = true) ∧ (w_keyDerive_refused.accepts 0x0902 3 9 false = true) ∧ (127 < 65536) ∧ (1 < 256) ∧ (4 < 256) ∧ (200 < 65536) ∧ (([65] : List Nat).length < 256) ∧ (([] : List Nat).length < 256) ∧ ((Ecp.BAD_PARAM) = (if w_keyDerive_refused.tampered = true then Ecp.TAMPERED else if (512 ≤ 127 ∨ (512 ≤ 200 ∧ 200 ≠ 0xFFFF) ∨ ([65] : List Nat).length = 0 ∨ 32 < ([65] : List Nat).length ∨ 64 < ([] : List Nat).length ∨ 1 = 0 ∨ 4 < 1 ∨ 64 ≤ 4) then Ecp.BAD_PARAM else if (200 ≠ 0xFFFF ∧ w_keyDerive_refused.get (KS_SLOT_W0_TYPE 200) ≠ 3) then Ecp.BAD_PARAM else if (w_keyDerive_refused.get (KS_SLOT_W0_TYPE 127) ≠ 0 ∨ w_keyDerive_refused.get (KS_SLOT_W1_GEN 127) = 0xFFFFFFFF) then Ecp.DENIED else if (200 ≠ 0xFFFF ∧ (bitOf (w_keyDerive_refused.get (KS_SLOT_W0_USE 200)) 1 = false ∨ w_keyDerive_refused.get (KS_SLOT_W1_GEN 200) = 0xFFFFFFFF)) then Ecp.DENIED else if (200 ≠ 0xFFFF ∧ ((127 < 128 ∧ 128 ≤ 200) ∨ 8 ≤ w_keyDerive_refused.get (KS_SLOT_W0_DEPTH 200))) then Ecp.BAD_PARAM else if (200 ≠ 0xFFFF ∧ w_keyDerive_refused.orphaned 200 = true) then Ecp.KEY_ORPHANED else Ecp.OK)) ∧ ((Ecp.BAD_PARAM) ≠ Ecp.OK)) ∧ (match exec (.keyDerive 3 9 ((leBytes 2 200 ++ leBytes 2 127 ++ [1, 4, ([65] : List Nat).length, ([] : List Nat).length] ++ ([65] : List Nat) ++ ([] : List Nat)))) w_keyDerive_refused with
    | .next t => decide ((answers w_keyDerive_refused t [] 0x0902 3 9 (Ecp.BAD_PARAM) (crc32c (leBytes 2 200 ++ leBytes 2 127 ++ [1, 4, ([65] : List Nat).length, ([] : List Nat).length] ++ ([65] : List Nat) ++ ([] : List Nat))) [] = true))
    | _ => false) = true := by decide +kernel

def w_keyWrapImport : State := withSess { at_ [(KS_SLOT_W0_TYPE 200, 3), (KS_SLOT_W0_USE 200, 2), (KS_SLOT_W1_GEN 200, 7), (KS_SLOT_W1_GEN 300, 5), (KS_SLOT_W0_TYPE 9, 2), (KS_SLOT_W0_USE 9, 8), (KS_SLOT_W0_TYPE 10, 4), (KS_SLOT_W0_ORIGIN 10, 2), (KS_SLOT_W0_PARENT 10, 200), (KS_SLOT_W2_PGEN 10, 7), (KS_SLOT_W0_TYPE 11, 1), (KS_SLOT_W0_ORIGIN 11, 2), (KS_SLOT_W0_PARENT 11, 200), (KS_SLOT_W2_PGEN 11, 6)] with ks := { vals := [(200, List.replicate 32 3), (9, List.range 32), (10, List.replicate 31 0 ++ [1]), (11, List.replicate 16 1)] } }

theorem test_keyWrapImport : ((w_keyWrapImport.stopSafe = true) ∧ (w_keyWrapImport.accepts 0x0903 3 9 false = true) ∧ (w_keyWrapImport.tampered = false) ∧ (300 < 512) ∧ (1 ≤ 1 ∧ 1 ≤ 4) ∧ (4 < 64) ∧ (w_keyWrapImport.get (KS_SLOT_W0_TYPE 300) = 0) ∧ (w_keyWrapImport.get (KS_SLOT_W1_GEN 300) ≠ 0xFFFFFFFF) ∧ (9 < 512) ∧ (([0x64, 0xE8, 0xC3, 0xF9, 0xCE, 0x0F, 0x5B, 0xA2, 0x63, 0xE9, 0x77, 0x79, 0x05, 0x81, 0x8A, 0x2A, 0x93, 0xC8, 0x19, 0x1E, 0x7D, 0x6E, 0x8A, 0xE7] : List Nat).length = keyLen 1 + 8) ∧ (w_keyWrapImport.get (KS_SLOT_W0_TYPE 9) = 2) ∧ (bitOf (w_keyWrapImport.get (KS_SLOT_W0_USE 9)) 3 = true) ∧ (w_keyWrapImport.get (KS_SLOT_W1_GEN 9) ≠ 0xFFFFFFFF) ∧ (w_keyWrapImport.orphaned 9 = false) ∧ (kwUnwrap (w_keyWrapImport.keyBytes 9) ([0x64, 0xE8, 0xC3, 0xF9, 0xCE, 0x0F, 0x5B, 0xA2, 0x63, 0xE9, 0x77, 0x79, 0x05, 0x81, 0x8A, 0x2A, 0x93, 0xC8, 0x19, 0x1E, 0x7D, 0x6E, 0x8A, 0xE7] : List Nat) = some ([0, 0x11, 0x22, 0x33, 0x44, 0x55, 0x66, 0x77, 0x88, 0x99, 0xAA, 0xBB, 0xCC, 0xDD, 0xEE, 0xFF] : List Nat))) ∧ (match exec (.keyWrapImport 3 9 ((leBytes 2 9 ++ leBytes 2 300 ++ [1, 4] ++ leBytes 2 ([0x64, 0xE8, 0xC3, 0xF9, 0xCE, 0x0F, 0x5B, 0xA2, 0x63, 0xE9, 0x77, 0x79, 0x05, 0x81, 0x8A, 0x2A, 0x93, 0xC8, 0x19, 0x1E, 0x7D, 0x6E, 0x8A, 0xE7] : List Nat).length ++ ([0x64, 0xE8, 0xC3, 0xF9, 0xCE, 0x0F, 0x5B, 0xA2, 0x63, 0xE9, 0x77, 0x79, 0x05, 0x81, 0x8A, 0x2A, 0x93, 0xC8, 0x19, 0x1E, 0x7D, 0x6E, 0x8A, 0xE7] : List Nat)))) w_keyWrapImport with
    | .next t => decide ((answers w_keyWrapImport t [] 0x0903 3 9 Ecp.OK (crc32c (leBytes 2 9 ++ leBytes 2 300 ++ [1, 4] ++ leBytes 2 ([0x64, 0xE8, 0xC3, 0xF9, 0xCE, 0x0F, 0x5B, 0xA2, 0x63, 0xE9, 0x77, 0x79, 0x05, 0x81, 0x8A, 0x2A, 0x93, 0xC8, 0x19, 0x1E, 0x7D, 0x6E, 0x8A, 0xE7] : List Nat).length ++ ([0x64, 0xE8, 0xC3, 0xF9, 0xCE, 0x0F, 0x5B, 0xA2, 0x63, 0xE9, 0x77, 0x79, 0x05, 0x81, 0x8A, 0x2A, 0x93, 0xC8, 0x19, 0x1E, 0x7D, 0x6E, 0x8A, 0xE7] : List Nat))) (leBytes 4 (w_keyWrapImport.get (KS_SLOT_W1_GEN 300))) = true) ∧ (Reads t [(KS_SLOT_W0_TYPE 300, 1), (KS_SLOT_W0_ORIGIN 300, 4), (KS_SLOT_W0_USE 300, 4), (KS_SLOT_W0_ROOT_PARENT 300, 0), (KS_SLOT_W0_PARENT 300, 0), (KS_SLOT_W0_DEPTH 300, 0), (KS_SLOT_W2_PGEN 300, 0)]) ∧ (t.keyBytes 300 = ([0, 0x11, 0x22, 0x33, 0x44, 0x55, 0x66, 0x77, 0x88, 0x99, 0xAA, 0xBB, 0xCC, 0xDD, 0xEE, 0xFF] : List Nat)))
    | _ => false) = true := by decide +kernel

def w_keyWrapImport_integrity : State := withSess { at_ [(KS_SLOT_W0_TYPE 200, 3), (KS_SLOT_W0_USE 200, 2), (KS_SLOT_W1_GEN 200, 7), (KS_SLOT_W1_GEN 300, 5), (KS_SLOT_W0_TYPE 9, 2), (KS_SLOT_W0_USE 9, 8), (KS_SLOT_W0_TYPE 10, 4), (KS_SLOT_W0_ORIGIN 10, 2), (KS_SLOT_W0_PARENT 10, 200), (KS_SLOT_W2_PGEN 10, 7), (KS_SLOT_W0_TYPE 11, 1), (KS_SLOT_W0_ORIGIN 11, 2), (KS_SLOT_W0_PARENT 11, 200), (KS_SLOT_W2_PGEN 11, 6)] with ks := { vals := [(200, List.replicate 32 3), (9, List.range 32), (10, List.replicate 31 0 ++ [1]), (11, List.replicate 16 1)] } }

theorem test_keyWrapImport_integrity : ((w_keyWrapImport_integrity.stopSafe = true) ∧ (w_keyWrapImport_integrity.accepts 0x0903 3 9 false = true) ∧ (w_keyWrapImport_integrity.tampered = false) ∧ (300 < 512) ∧ (1 ≤ 1 ∧ 1 ≤ 4) ∧ (4 < 64) ∧ (w_keyWrapImport_integrity.get (KS_SLOT_W0_TYPE 300) = 0) ∧ (w_keyWrapImport_integrity.get (KS_SLOT_W1_GEN 300) ≠ 0xFFFFFFFF) ∧ (9 < 512) ∧ ((List.replicate 24 1 : List Nat).length = keyLen 1 + 8) ∧ (w_keyWrapImport_integrity.get (KS_SLOT_W0_TYPE 9) = 2) ∧ (bitOf (w_keyWrapImport_integrity.get (KS_SLOT_W0_USE 9)) 3 = true) ∧ (w_keyWrapImport_integrity.get (KS_SLOT_W1_GEN 9) ≠ 0xFFFFFFFF) ∧ (w_keyWrapImport_integrity.orphaned 9 = false) ∧ (kwUnwrap (w_keyWrapImport_integrity.keyBytes 9) (List.replicate 24 1 : List Nat) = none)) ∧ (match exec (.keyWrapImport 3 9 ((leBytes 2 9 ++ leBytes 2 300 ++ [1, 4] ++ leBytes 2 (List.replicate 24 1 : List Nat).length ++ (List.replicate 24 1 : List Nat)))) w_keyWrapImport_integrity with
    | .next t => decide ((answers w_keyWrapImport_integrity t [] 0x0903 3 9 Ecp.BAD_PARAM (crc32c (leBytes 2 9 ++ leBytes 2 300 ++ [1, 4] ++ leBytes 2 (List.replicate 24 1 : List Nat).length ++ (List.replicate 24 1 : List Nat))) [] = true))
    | _ => false) = true := by decide +kernel

def w_keyWrapImport_refused : State := withSess { at_ [(KS_SLOT_W0_TYPE 200, 3), (KS_SLOT_W0_USE 200, 2), (KS_SLOT_W1_GEN 200, 7), (KS_SLOT_W1_GEN 300, 5), (KS_SLOT_W0_TYPE 9, 2), (KS_SLOT_W0_USE 9, 8), (KS_SLOT_W0_TYPE 10, 4), (KS_SLOT_W0_ORIGIN 10, 2), (KS_SLOT_W0_PARENT 10, 200), (KS_SLOT_W2_PGEN 10, 7), (KS_SLOT_W0_TYPE 11, 1), (KS_SLOT_W0_ORIGIN 11, 2), (KS_SLOT_W0_PARENT 11, 200), (KS_SLOT_W2_PGEN 11, 6)] with ks := { vals := [(200, List.replicate 32 3), (9, List.range 32), (10, List.replicate 31 0 ++ [1]), (11, List.replicate 16 1)] } }

theorem test_keyWrapImport_refused : ((w_keyWrapImport_refused.stopSafe = true) ∧ (w_keyWrapImport_refused.accepts 0x0903 3 9 false = true) ∧ (200 < 65536) ∧ (1 < 256) ∧ (4 < 256) ∧ (9 < 65536) ∧ ((List.replicate 24 1 : List Nat).length < 65536) ∧ ((Ecp.DENIED) = (if w_keyWrapImport_refused.tampered = true then Ecp.TAMPERED else if (512 ≤ 9 ∨ 512 ≤ 200 ∨ (List.replicate 24 1 : List Nat).length ≠ keyLen 1 + 8 ∨ 1 = 0 ∨ 4 < 1 ∨ 64 ≤ 4) then Ecp.BAD_PARAM else if w_keyWrapImport_refused.get (KS_SLOT_W0_TYPE 9) ≠ 2 then Ecp.BAD_PARAM else if (w_keyWrapImport_refused.get (KS_SLOT_W0_TYPE 200) ≠ 0 ∨ w_keyWrapImport_refused.get (KS_SLOT_W1_GEN 200) = 0xFFFFFFFF) then Ecp.DENIED else if (bitOf (w_keyWrapImport_refused.get (KS_SLOT_W0_USE 9)) 3 = false ∨ w_keyWrapImport_refused.get (KS_SLOT_W1_GEN 9) = 0xFFFFFFFF) then Ecp.DENIED else if w_keyWrapImport_refused.orphaned 9 = true then Ecp.KEY_ORPHANED else Ecp.OK)) ∧ ((Ecp.DENIED) ≠ Ecp.OK)) ∧ (match exec (.keyWrapImport 3 9 ((leBytes 2 9 ++ leBytes 2 200 ++ [1, 4] ++ leBytes 2 (List.replicate 24 1 : List Nat).length ++ (List.replicate 24 1 : List Nat)))) w_keyWrapImport_refused with
    | .next t => decide ((answers w_keyWrapImport_refused t [] 0x0903 3 9 (Ecp.DENIED) (crc32c (leBytes 2 9 ++ leBytes 2 200 ++ [1, 4] ++ leBytes 2 (List.replicate 24 1 : List Nat).length ++ (List.replicate 24 1 : List Nat))) [] = true))
    | _ => false) = true := by decide +kernel

def w_keyImportClear : State := withSess { at_ [(KS_SLOT_W0_TYPE 200, 3), (KS_SLOT_W0_USE 200, 2), (KS_SLOT_W1_GEN 200, 7), (KS_SLOT_W1_GEN 300, 5), (KS_SLOT_W0_TYPE 9, 2), (KS_SLOT_W0_USE 9, 8), (KS_SLOT_W0_TYPE 10, 4), (KS_SLOT_W0_ORIGIN 10, 2), (KS_SLOT_W0_PARENT 10, 200), (KS_SLOT_W2_PGEN 10, 7), (KS_SLOT_W0_TYPE 11, 1), (KS_SLOT_W0_ORIGIN 11, 2), (KS_SLOT_W0_PARENT 11, 200), (KS_SLOT_W2_PGEN 11, 6)] with ks := { vals := [(200, List.replicate 32 3), (9, List.range 32), (10, List.replicate 31 0 ++ [1]), (11, List.replicate 16 1)] } }

theorem test_keyImportClear : ((w_keyImportClear.stopSafe = true) ∧ (w_keyImportClear.tampered = false) ∧ (300 < 512) ∧ (1 ≤ 2 ∧ 2 ≤ 4) ∧ (8 < 64) ∧ (w_keyImportClear.get (KS_SLOT_W0_TYPE 300) = 0) ∧ (w_keyImportClear.get (KS_SLOT_W1_GEN 300) ≠ 0xFFFFFFFF) ∧ (importIni 0x3E = true) ∧ (w_keyImportClear.bit KS_CTRL_IMPORT_EN = true) ∧ ((List.replicate 32 4 : List Nat).length = keyLen 2)) ∧ (match exec (.keyImportClear 0x3E 300 2 8 (List.replicate 32 4 : List Nat)) w_keyImportClear with
    | .next t => decide ((Reads t [(KS_SLOT_W0_TYPE 300, 2), (KS_SLOT_W0_ORIGIN 300, 3), (KS_SLOT_W0_USE 300, 8), (KS_SLOT_W0_ROOT_PARENT 300, 0), (KS_SLOT_W0_PARENT 300, 0), (KS_SLOT_W0_DEPTH 300, 0), (KS_SLOT_W2_PGEN 300, 0)]) ∧ (t.keyBytes 300 = (List.replicate 32 4 : List Nat)) ∧ (Reads t [(KS_CNT2_IMPORTS, w_keyImportClear.adv KS_CNT2_IMPORTS)]) ∧ (t.evr = (w_keyImportClear.record .keyImported (leBytes 2 300 ++ [0x3E]) 0x3E).evr))
    | _ => false) = true := by decide +kernel

def w_keyImportClear_refused : State := withSess { at_ [(KS_SLOT_W0_TYPE 200, 3), (KS_SLOT_W0_USE 200, 2), (KS_SLOT_W1_GEN 200, 7), (KS_SLOT_W1_GEN 300, 5), (KS_SLOT_W0_TYPE 9, 2), (KS_SLOT_W0_USE 9, 8), (KS_SLOT_W0_TYPE 10, 4), (KS_SLOT_W0_ORIGIN 10, 2), (KS_SLOT_W0_PARENT 10, 200), (KS_SLOT_W2_PGEN 10, 7), (KS_SLOT_W0_TYPE 11, 1), (KS_SLOT_W0_ORIGIN 11, 2), (KS_SLOT_W0_PARENT 11, 200), (KS_SLOT_W2_PGEN 11, 6)] with ks := { vals := [(200, List.replicate 32 3), (9, List.range 32), (10, List.replicate 31 0 ++ [1]), (11, List.replicate 16 1)] } }

theorem test_keyImportClear_refused : ((w_keyImportClear_refused.stopSafe = true) ∧ (w_keyImportClear_refused.tampered = true ∨ 512 ≤ 300 ∨ 2 = 0 ∨ 4 < 2 ∨ 64 ≤ 8 ∨ (List.replicate 32 4 : List Nat).length ≠ keyLen 2 ∨ w_keyImportClear_refused.get (KS_SLOT_W0_TYPE 300) ≠ 0 ∨ w_keyImportClear_refused.get (KS_SLOT_W1_GEN 300) = 0xFFFFFFFF ∨ w_keyImportClear_refused.bit KS_CTRL_IMPORT_EN = false ∨ (isApp 0x20 = false ∧ 0x20 ≠ 0x3E))) ∧ (match exec (.keyImportClear 0x20 300 2 8 (List.replicate 32 4 : List Nat)) w_keyImportClear_refused with
    | .next t => decide ((t = w_keyImportClear_refused))
    | _ => false) = true := by decide +kernel

def w_keyInvalidate : State := withSess { at_ [(KS_SLOT_W0_TYPE 200, 3), (KS_SLOT_W0_USE 200, 2), (KS_SLOT_W1_GEN 200, 7), (KS_SLOT_W1_GEN 300, 5), (KS_SLOT_W0_TYPE 9, 2), (KS_SLOT_W0_USE 9, 8), (KS_SLOT_W0_TYPE 10, 4), (KS_SLOT_W0_ORIGIN 10, 2), (KS_SLOT_W0_PARENT 10, 200), (KS_SLOT_W2_PGEN 10, 7), (KS_SLOT_W0_TYPE 11, 1), (KS_SLOT_W0_ORIGIN 11, 2), (KS_SLOT_W0_PARENT 11, 200), (KS_SLOT_W2_PGEN 11, 6)] with ks := { vals := [(200, List.replicate 32 3), (9, List.range 32), (10, List.replicate 31 0 ++ [1]), (11, List.replicate 16 1)] } }

theorem test_keyInvalidate : ((w_keyInvalidate.stopSafe = true) ∧ (w_keyInvalidate.accepts 0x0904 3 9 false = true) ∧ (w_keyInvalidate.tampered = false) ∧ (200 < 512) ∧ (w_keyInvalidate.get (KS_SLOT_W1_GEN 200) ≠ 0xFFFFFFFF) ∧ ((w_keyInvalidate.session 3).all (fun (x : EcpSession) => (w_keyInvalidate.emptySlot 200).sessSends x) = true)) ∧ (match exec (.keyInvalidate 3 9 ((leBytes 2 200 ++ [0, 0]))) w_keyInvalidate with
    | .next t => decide ((answers w_keyInvalidate t [] 0x0904 3 9 Ecp.OK (crc32c (leBytes 2 200 ++ [0, 0])) (leBytes 4 (w_keyInvalidate.get (KS_SLOT_W1_GEN 200) + 1)) = true) ∧ (Reads t [(KS_SLOT_W0_TYPE 200, 0), (KS_SLOT_W0_ORIGIN 200, 0), (KS_SLOT_W0_USE 200, 0), (KS_SLOT_W0_ROOT_PARENT 200, 0), (KS_SLOT_W0_PARENT 200, 0), (KS_SLOT_W0_DEPTH 200, 0), (KS_SLOT_W2_PGEN 200, 0)]) ∧ (Reads t [(KS_SLOT_W1_GEN 200, w_keyInvalidate.get (KS_SLOT_W1_GEN 200) + 1), (KS_CNT2_INVALIDATIONS, w_keyInvalidate.adv KS_CNT2_INVALIDATIONS)]) ∧ (t.keyBytes 200 = []) ∧ (t.evr = (w_keyInvalidate.record .keyInvalidated (leBytes 2 200)).evr))
    | _ => false) = true := by decide +kernel

def w_keyInvalidate_own : State := { (withSess { at_ [(KS_SLOT_W0_TYPE 200, 3), (KS_SLOT_W0_USE 200, 2), (KS_SLOT_W1_GEN 200, 7), (KS_SLOT_W1_GEN 300, 5), (KS_SLOT_W0_TYPE 9, 2), (KS_SLOT_W0_USE 9, 8), (KS_SLOT_W0_TYPE 10, 4), (KS_SLOT_W0_ORIGIN 10, 2), (KS_SLOT_W0_PARENT 10, 200), (KS_SLOT_W2_PGEN 10, 7), (KS_SLOT_W0_TYPE 11, 1), (KS_SLOT_W0_ORIGIN 11, 2), (KS_SLOT_W0_PARENT 11, 200), (KS_SLOT_W2_PGEN 11, 6)] with ks := { vals := [(200, List.replicate 32 3), (9, List.range 32), (10, List.replicate 31 0 ++ [1]), (11, List.replicate 16 1)] } }) with ecp := { State.reset.ecp with sessions := [{ id := 3, port := 1, ip := 0x0A000001, udp := 5000, devSeq := 7, auth := true, keySlot := 200, keyGen := 7 }] } }

theorem test_keyInvalidate_own : ((w_keyInvalidate_own.stopSafe = true) ∧ (w_keyInvalidate_own.accepts 0x0904 3 9 false = true) ∧ (w_keyInvalidate_own.tampered = false) ∧ (200 < 512) ∧ (w_keyInvalidate_own.get (KS_SLOT_W1_GEN 200) ≠ 0xFFFFFFFF) ∧ ((w_keyInvalidate_own.session 3).any (fun (x : EcpSession) => !(w_keyInvalidate_own.emptySlot 200).sessSends x) = true)) ∧ (match exec (.keyInvalidate 3 9 ((leBytes 2 200 ++ [0, 0]))) w_keyInvalidate_own with
    | .next t => decide ((Reads t [(KS_SLOT_W0_TYPE 200, 0), (KS_SLOT_W0_ORIGIN 200, 0), (KS_SLOT_W0_USE 200, 0), (KS_SLOT_W0_ROOT_PARENT 200, 0), (KS_SLOT_W0_PARENT 200, 0), (KS_SLOT_W0_DEPTH 200, 0), (KS_SLOT_W2_PGEN 200, 0)]) ∧ (Reads t [(KS_SLOT_W1_GEN 200, w_keyInvalidate_own.get (KS_SLOT_W1_GEN 200) + 1), (KS_CNT2_INVALIDATIONS, w_keyInvalidate_own.adv KS_CNT2_INVALIDATIONS)]) ∧ (t.out = w_keyInvalidate_own.out ∧ t.ecp.spiOut = w_keyInvalidate_own.ecp.spiOut) ∧ (onlySession w_keyInvalidate_own t 3 = true))
    | _ => false) = true := by decide +kernel

def w_keyInvalidate_refused : State := withSess (at_ [(TAMPER_STATUS_TAMPERED, 1)])

theorem test_keyInvalidate_refused : ((w_keyInvalidate_refused.stopSafe = true) ∧ (w_keyInvalidate_refused.accepts 0x0904 3 9 false = true) ∧ (200 < 65536) ∧ (0 < 65536) ∧ ((Ecp.TAMPERED) = (if w_keyInvalidate_refused.tampered = true then Ecp.TAMPERED else if (512 ≤ 200 ∨ 0 ≠ 0) then Ecp.BAD_PARAM else if w_keyInvalidate_refused.get (KS_SLOT_W1_GEN 200) = 0xFFFFFFFF then Ecp.DENIED else Ecp.OK)) ∧ ((Ecp.TAMPERED) ≠ Ecp.OK)) ∧ (match exec (.keyInvalidate 3 9 ((leBytes 2 200 ++ leBytes 2 0))) w_keyInvalidate_refused with
    | .next t => decide ((answers w_keyInvalidate_refused t [] 0x0904 3 9 (Ecp.TAMPERED) (crc32c (leBytes 2 200 ++ leBytes 2 0)) [] = true))
    | _ => false) = true := by decide +kernel

def w_keyAttest : State := withSess { at_ [(KS_SLOT_W0_TYPE 200, 3), (KS_SLOT_W0_USE 200, 2), (KS_SLOT_W1_GEN 200, 7), (KS_SLOT_W1_GEN 300, 5), (KS_SLOT_W0_TYPE 9, 2), (KS_SLOT_W0_USE 9, 8), (KS_SLOT_W0_TYPE 10, 4), (KS_SLOT_W0_ORIGIN 10, 2), (KS_SLOT_W0_PARENT 10, 200), (KS_SLOT_W2_PGEN 10, 7), (KS_SLOT_W0_TYPE 11, 1), (KS_SLOT_W0_ORIGIN 11, 2), (KS_SLOT_W0_PARENT 11, 200), (KS_SLOT_W2_PGEN 11, 6)] with ks := { vals := [(200, List.replicate 32 3), (9, List.range 32), (10, List.replicate 31 0 ++ [1]), (11, List.replicate 16 1)] } }

theorem test_keyAttest : (w_keyAttest.stopSafe = true) ∧ (w_keyAttest.accepts 0x0905 3 9 false = true) ∧ (w_keyAttest.tampered = false) ∧ (200 < 512) ∧ ((List.replicate 16 5 : List Nat).length = 16) ∧ (w_keyAttest.get (KS_SLOT_W0_TYPE 200) ≠ 0) ∧ (w_keyAttest.get (KS_SLOT_W1_GEN 200) ≠ 0xFFFFFFFF) ∧ (w_keyAttest.orphaned 200 = false) ∧ (w_keyAttest.bit KS_STATUS_TRNG_FAIL = false) := by decide +kernel

def w_keyAttest_refused : State := withSess { at_ [(KS_SLOT_W0_TYPE 200, 3), (KS_SLOT_W0_USE 200, 2), (KS_SLOT_W1_GEN 200, 7), (KS_SLOT_W1_GEN 300, 5), (KS_SLOT_W0_TYPE 9, 2), (KS_SLOT_W0_USE 9, 8), (KS_SLOT_W0_TYPE 10, 4), (KS_SLOT_W0_ORIGIN 10, 2), (KS_SLOT_W0_PARENT 10, 200), (KS_SLOT_W2_PGEN 10, 7), (KS_SLOT_W0_TYPE 11, 1), (KS_SLOT_W0_ORIGIN 11, 2), (KS_SLOT_W0_PARENT 11, 200), (KS_SLOT_W2_PGEN 11, 6)] with ks := { vals := [(200, List.replicate 32 3), (9, List.range 32), (10, List.replicate 31 0 ++ [1]), (11, List.replicate 16 1)] } }

theorem test_keyAttest_refused : ((w_keyAttest_refused.stopSafe = true) ∧ (w_keyAttest_refused.accepts 0x0905 3 9 false = true) ∧ (11 < 65536) ∧ (0 < 65536) ∧ ((List.replicate 16 5 : List Nat).length = 16) ∧ ((Ecp.KEY_ORPHANED) = (if w_keyAttest_refused.tampered = true then Ecp.TAMPERED else if (512 ≤ 11 ∨ 0 ≠ 0 ∨ w_keyAttest_refused.get (KS_SLOT_W0_TYPE 11) = 0) then Ecp.BAD_PARAM else if w_keyAttest_refused.get (KS_SLOT_W1_GEN 11) = 0xFFFFFFFF then Ecp.DENIED else if w_keyAttest_refused.orphaned 11 = true then Ecp.KEY_ORPHANED else if w_keyAttest_refused.bit KS_STATUS_TRNG_FAIL = true then Ecp.NOT_READY else Ecp.OK)) ∧ ((Ecp.KEY_ORPHANED) ≠ Ecp.OK)) ∧ (match exec (.keyAttest 3 9 ((leBytes 2 11 ++ leBytes 2 0 ++ (List.replicate 16 5 : List Nat)))) w_keyAttest_refused with
    | .next t => decide ((answers w_keyAttest_refused t [] 0x0905 3 9 (Ecp.KEY_ORPHANED) (crc32c (leBytes 2 11 ++ leBytes 2 0 ++ (List.replicate 16 5 : List Nat))) [] = true))
    | _ => false) = true := by decide +kernel

def w_keyCert : State := withSess (at_ [(TAMPER_STATUS_TAMPERED, 1)])

theorem test_keyCert : (w_keyCert.stopSafe = true) ∧ (w_keyCert.accepts 0x0906 3 9 false = true) ∧ (1 < 65536) := by decide +kernel

def w_keyCert_bad : State := withSess (at_ [(TAMPER_STATUS_TAMPERED, 1)])

theorem test_keyCert_bad : ((w_keyCert_bad.stopSafe = true) ∧ (w_keyCert_bad.accepts 0x0906 3 9 false = true) ∧ (1 < 65536) ∧ (1 < 65536) ∧ (1 ≠ 0)) ∧ (match exec (.keyCert 3 9 ((leBytes 2 1 ++ leBytes 2 1))) w_keyCert_bad with
    | .next t => decide ((answers w_keyCert_bad t [] 0x0906 3 9 Ecp.BAD_PARAM (crc32c (leBytes 2 1 ++ leBytes 2 1)) [] = true))
    | _ => false) = true := by decide +kernel

def w_keyInfo : State := withSess { at_ [(KS_SLOT_W0_TYPE 200, 3), (KS_SLOT_W0_USE 200, 2), (KS_SLOT_W1_GEN 200, 7), (KS_SLOT_W1_GEN 300, 5), (KS_SLOT_W0_TYPE 9, 2), (KS_SLOT_W0_USE 9, 8), (KS_SLOT_W0_TYPE 10, 4), (KS_SLOT_W0_ORIGIN 10, 2), (KS_SLOT_W0_PARENT 10, 200), (KS_SLOT_W2_PGEN 10, 7), (KS_SLOT_W0_TYPE 11, 1), (KS_SLOT_W0_ORIGIN 11, 2), (KS_SLOT_W0_PARENT 11, 200), (KS_SLOT_W2_PGEN 11, 6)] with ks := { vals := [(200, List.replicate 32 3), (9, List.range 32), (10, List.replicate 31 0 ++ [1]), (11, List.replicate 16 1)] } }

theorem test_keyInfo : ((w_keyInfo.stopSafe = true) ∧ (w_keyInfo.accepts 0x0900 3 9 false = true) ∧ (11 < 512)) ∧ (match exec (.keyInfo 3 9 ((leBytes 2 11 ++ [0, 0]))) w_keyInfo with
    | .next t => decide ((answers w_keyInfo t [] 0x0900 3 9 Ecp.OK (crc32c (leBytes 2 11 ++ [0, 0])) (leBytes 4 (w_keyInfo.slotW0 11) ++ leBytes 4 (w_keyInfo.get (KS_SLOT_W1_GEN 11)) ++ leBytes 4 (w_keyInfo.get (KS_SLOT_W2_PGEN 11)) ++ [b2n (w_keyInfo.orphaned 11), 0, 0, 0]) = true))
    | _ => false) = true := by decide +kernel

def w_keyInfo_bad : State := withSess { at_ [(KS_SLOT_W0_TYPE 200, 3), (KS_SLOT_W0_USE 200, 2), (KS_SLOT_W1_GEN 200, 7), (KS_SLOT_W1_GEN 300, 5), (KS_SLOT_W0_TYPE 9, 2), (KS_SLOT_W0_USE 9, 8), (KS_SLOT_W0_TYPE 10, 4), (KS_SLOT_W0_ORIGIN 10, 2), (KS_SLOT_W0_PARENT 10, 200), (KS_SLOT_W2_PGEN 10, 7), (KS_SLOT_W0_TYPE 11, 1), (KS_SLOT_W0_ORIGIN 11, 2), (KS_SLOT_W0_PARENT 11, 200), (KS_SLOT_W2_PGEN 11, 6)] with ks := { vals := [(200, List.replicate 32 3), (9, List.range 32), (10, List.replicate 31 0 ++ [1]), (11, List.replicate 16 1)] } }

theorem test_keyInfo_bad : ((w_keyInfo_bad.stopSafe = true) ∧ (w_keyInfo_bad.accepts 0x0900 3 9 false = true) ∧ (512 < 65536) ∧ (0 < 65536) ∧ (512 ≤ 512 ∨ 0 ≠ 0)) ∧ (match exec (.keyInfo 3 9 ((leBytes 2 512 ++ leBytes 2 0))) w_keyInfo_bad with
    | .next t => decide ((answers w_keyInfo_bad t [] 0x0900 3 9 Ecp.BAD_PARAM (crc32c (leBytes 2 512 ++ leBytes 2 0)) [] = true))
    | _ => false) = true := by decide +kernel

def w_keyPublic : State := withSess { at_ [(KS_SLOT_W0_TYPE 200, 3), (KS_SLOT_W0_USE 200, 2), (KS_SLOT_W1_GEN 200, 7), (KS_SLOT_W1_GEN 300, 5), (KS_SLOT_W0_TYPE 9, 2), (KS_SLOT_W0_USE 9, 8), (KS_SLOT_W0_TYPE 10, 4), (KS_SLOT_W0_ORIGIN 10, 2), (KS_SLOT_W0_PARENT 10, 200), (KS_SLOT_W2_PGEN 10, 7), (KS_SLOT_W0_TYPE 11, 1), (KS_SLOT_W0_ORIGIN 11, 2), (KS_SLOT_W0_PARENT 11, 200), (KS_SLOT_W2_PGEN 11, 6)] with ks := { vals := [(200, List.replicate 32 3), (9, List.range 32), (10, List.replicate 31 0 ++ [1]), (11, List.replicate 16 1)] } }

theorem test_keyPublic : (w_keyPublic.stopSafe = true) ∧ (w_keyPublic.accepts 0x0907 3 9 false = true) ∧ (w_keyPublic.tampered = false) ∧ (10 < 512) ∧ (w_keyPublic.get (KS_SLOT_W0_TYPE 10) = 4) ∧ (w_keyPublic.get (KS_SLOT_W1_GEN 10) ≠ 0xFFFFFFFF) ∧ (w_keyPublic.orphaned 10 = false) := by decide +kernel

def w_keyPublic_refused : State := withSess { at_ [(KS_SLOT_W0_TYPE 200, 3), (KS_SLOT_W0_USE 200, 2), (KS_SLOT_W1_GEN 200, 7), (KS_SLOT_W1_GEN 300, 5), (KS_SLOT_W0_TYPE 9, 2), (KS_SLOT_W0_USE 9, 8), (KS_SLOT_W0_TYPE 10, 4), (KS_SLOT_W0_ORIGIN 10, 2), (KS_SLOT_W0_PARENT 10, 200), (KS_SLOT_W2_PGEN 10, 7), (KS_SLOT_W0_TYPE 11, 1), (KS_SLOT_W0_ORIGIN 11, 2), (KS_SLOT_W0_PARENT 11, 200), (KS_SLOT_W2_PGEN 11, 6)] with ks := { vals := [(200, List.replicate 32 3), (9, List.range 32), (10, List.replicate 31 0 ++ [1]), (11, List.replicate 16 1)] } }

theorem test_keyPublic_refused : ((w_keyPublic_refused.stopSafe = true) ∧ (w_keyPublic_refused.accepts 0x0907 3 9 false = true) ∧ (9 < 65536) ∧ (0 < 65536) ∧ ((Ecp.DENIED) = (if w_keyPublic_refused.tampered = true then Ecp.TAMPERED else if (512 ≤ 9 ∨ 0 ≠ 0) then Ecp.BAD_PARAM else if (w_keyPublic_refused.get (KS_SLOT_W0_TYPE 9) ≠ 4 ∨ w_keyPublic_refused.get (KS_SLOT_W1_GEN 9) = 0xFFFFFFFF) then Ecp.DENIED else if w_keyPublic_refused.orphaned 9 = true then Ecp.KEY_ORPHANED else Ecp.OK)) ∧ ((Ecp.DENIED) ≠ Ecp.OK)) ∧ (match exec (.keyPublic 3 9 ((leBytes 2 9 ++ leBytes 2 0))) w_keyPublic_refused with
    | .next t => decide ((answers w_keyPublic_refused t [] 0x0907 3 9 (Ecp.DENIED) (crc32c (leBytes 2 9 ++ leBytes 2 0)) [] = true))
    | _ => false) = true := by decide +kernel

def w_tamperConfirm : State := { wRun [(TAMPER_CFG_IN_EN, 8), (TAMPER_CFG_VBAT_EN, 1), (TAMPER_STATUS_IN, 1), (KS_SLOT_W0_TYPE 2, 3), (KS_SLOT_W1_GEN 2, 4), (KS_SLOT_W1_GEN 3, 9), (REC_AON_OH_SECONDS, 77), (REC_AON_SUB_MS, 88), (ROOK_STATE_STOP, 0), (RELAY_STATUS_DRIVE, 3)] with ks := { vals := [(2, [1])] }, ecp := { State.reset.ecp with sessions := [{ id := 3, port := 1, auth := true, key := [1, 2] }] } }

theorem test_tamperConfirm : ((w_tamperConfirm.stopSafe = true) ∧ (3 < 8) ∧ (w_tamperConfirm.pwr.night = false) ∧ ((if 3 < 4 then w_tamperConfirm.getBit TAMPER_CFG_IN_EN 3 = true else if 3 < 6 then w_tamperConfirm.bit TAMPER_CFG_VBAT_EN = true else w_tamperConfirm.bit TAMPER_CFG_TEMP_EN = true)) ∧ ((if 3 < 4 then (2 ≤ ([0, 1, 1] : List Int).length ∧ (([0, 1, 1] : List Int).drop (([0, 1, 1] : List Int).length - 2)).all (fun v => v == 1) = true) else if 3 = 4 then (8 ≤ ([0, 1, 1] : List Int).length ∧ (([0, 1, 1] : List Int).drop (([0, 1, 1] : List Int).length - 8)).all (fun v => decide (v < 2350)) = true) else if 3 = 5 then (8 ≤ ([0, 1, 1] : List Int).length ∧ (([0, 1, 1] : List Int).drop (([0, 1, 1] : List Int).length - 8)).all (fun v => decide (3850 < v)) = true) else if 3 = 6 then (2 ≤ ([0, 1, 1] : List Int).length ∧ (([0, 1, 1] : List Int).drop (([0, 1, 1] : List Int).length - 2)).all (fun v => decide (v < -550)) = true) else (2 ≤ ([0, 1, 1] : List Int).length ∧ (([0, 1, 1] : List Int).drop (([0, 1, 1] : List Int).length - 2)).all (fun v => decide (1250 < v)) = true)))) ∧ (match exec (.tamperConfirm 3 ([0, 1, 1] : List Int) 2) w_tamperConfirm with
    | .next t => decide ((Reads t [(TAMPER_STATUS_TAMPERED, 1), (TAMPER_MS_COUNT, w_tamperConfirm.adv TAMPER_MS_COUNT), (KS_CNT_TAMPER_ABORTS, w_tamperConfirm.adv KS_CNT_TAMPER_ABORTS 2), (TAMPER_OH_SECONDS, if w_tamperConfirm.tampered then w_tamperConfirm.get TAMPER_OH_SECONDS else w_tamperConfirm.get REC_AON_OH_SECONDS), (TAMPER_MS_MS, if w_tamperConfirm.tampered then w_tamperConfirm.get TAMPER_MS_MS else w_tamperConfirm.get REC_AON_SUB_MS), (ROOK_STATE_STOP, w_tamperConfirm.get ROOK_STATE_STOP), (RELAY_STATUS_DRIVE, w_tamperConfirm.get RELAY_STATUS_DRIVE)]) ∧ (bitOf (t.get (match 3 with | 4 => TAMPER_STATUS_VBAT_LO | 5 => TAMPER_STATUS_VBAT_HI | 6 => TAMPER_STATUS_TEMP_LO | 7 => TAMPER_STATUS_TEMP_HI | _ => TAMPER_STATUS_IN)) (if 3 < 4 then 3 else 0) = true) ∧ ((3 < 4 → t.getBit TAMPER_STATUS_LIVE 3 = true)) ∧ (((List.range 512).all (fun k => t.get (KS_SLOT_W0_TYPE k) == 0 && (t.get (KS_SLOT_W1_GEN k) == if w_tamperConfirm.get (KS_SLOT_W0_TYPE k) = 0 then w_tamperConfirm.get (KS_SLOT_W1_GEN k) else min (w_tamperConfirm.get (KS_SLOT_W1_GEN k) + 1) 0xFFFFFFFF))) = true) ∧ (t.ecp = { w_tamperConfirm.ecp with sessions := w_tamperConfirm.ecp.sessions.map (fun (x : EcpSession) => { x with key := [] }) }))
    | _ => false) = true := by decide +kernel

def w_tamperConfirm_night : State := { wRun [(TAMPER_CFG_IN_EN, 8), (TAMPER_CFG_VBAT_EN, 1), (TAMPER_STATUS_IN, 1), (KS_SLOT_W0_TYPE 2, 3), (KS_SLOT_W1_GEN 2, 4), (KS_SLOT_W1_GEN 3, 9), (REC_AON_OH_SECONDS, 77), (REC_AON_SUB_MS, 88), (ROOK_STATE_STOP, 0), (RELAY_STATUS_DRIVE, 3)] with pwr := { State.reset.pwr with night := true, mainEn := false, minHoldDone := false }, ks := { vals := [(2, [1])] }, ecp := { State.reset.ecp with sessions := [{ id := 3, port := 1, auth := true, key := [1, 2] }] } }

theorem test_tamperConfirm_night : ((w_tamperConfirm_night.stopSafe = true) ∧ (3 < 8) ∧ (w_tamperConfirm_night.pwr.night = true) ∧ ((if 3 < 4 then w_tamperConfirm_night.getBit TAMPER_CFG_IN_EN 3 = true else if 3 < 6 then w_tamperConfirm_night.bit TAMPER_CFG_VBAT_EN = true else w_tamperConfirm_night.bit TAMPER_CFG_TEMP_EN = true)) ∧ ((if 3 < 4 then (2 ≤ ([0, 1, 1] : List Int).length ∧ (([0, 1, 1] : List Int).drop (([0, 1, 1] : List Int).length - 2)).all (fun v => v == 1) = true) else if 3 = 4 then (8 ≤ ([0, 1, 1] : List Int).length ∧ (([0, 1, 1] : List Int).drop (([0, 1, 1] : List Int).length - 8)).all (fun v => decide (v < 2350)) = true) else if 3 = 5 then (8 ≤ ([0, 1, 1] : List Int).length ∧ (([0, 1, 1] : List Int).drop (([0, 1, 1] : List Int).length - 8)).all (fun v => decide (3850 < v)) = true) else if 3 = 6 then (2 ≤ ([0, 1, 1] : List Int).length ∧ (([0, 1, 1] : List Int).drop (([0, 1, 1] : List Int).length - 2)).all (fun v => decide (v < -550)) = true) else (2 ≤ ([0, 1, 1] : List Int).length ∧ (([0, 1, 1] : List Int).drop (([0, 1, 1] : List Int).length - 2)).all (fun v => decide (1250 < v)) = true)))) ∧ (match exec (.tamperConfirm 3 ([0, 1, 1] : List Int) 2) w_tamperConfirm_night with
    | .next t => decide ((t.pwr.night = true) ∧ (t.bit WAKE_CAUSE_TAMPER = true) ∧ ((w_tamperConfirm_night.pwr.mainEn = false ∧ w_tamperConfirm_night.pwr.minHoldDone = false → t.pwr = { w_tamperConfirm_night.pwr with wakeLatched := true })) ∧ ((w_tamperConfirm_night.pwr.mainEn = false ∧ w_tamperConfirm_night.pwr.minHoldDone = true → t.pwr.mainEn = true)) ∧ (Reads t [(TAMPER_STATUS_TAMPERED, 1), (TAMPER_MS_COUNT, w_tamperConfirm_night.adv TAMPER_MS_COUNT), (KS_CNT_TAMPER_ABORTS, w_tamperConfirm_night.adv KS_CNT_TAMPER_ABORTS 2), (TAMPER_OH_SECONDS, if w_tamperConfirm_night.tampered then w_tamperConfirm_night.get TAMPER_OH_SECONDS else w_tamperConfirm_night.get REC_AON_OH_SECONDS), (TAMPER_MS_MS, if w_tamperConfirm_night.tampered then w_tamperConfirm_night.get TAMPER_MS_MS else w_tamperConfirm_night.get REC_AON_SUB_MS), (ROOK_STATE_STOP, w_tamperConfirm_night.get ROOK_STATE_STOP), (RELAY_STATUS_DRIVE, w_tamperConfirm_night.get RELAY_STATUS_DRIVE)]) ∧ (((List.range 512).all (fun k => t.get (KS_SLOT_W0_TYPE k) == 0 && (t.get (KS_SLOT_W1_GEN k) == if w_tamperConfirm_night.get (KS_SLOT_W0_TYPE k) = 0 then w_tamperConfirm_night.get (KS_SLOT_W1_GEN k) else min (w_tamperConfirm_night.get (KS_SLOT_W1_GEN k) + 1) 0xFFFFFFFF))) = true) ∧ (t.ecp = { w_tamperConfirm_night.ecp with sessions := w_tamperConfirm_night.ecp.sessions.map (fun (x : EcpSession) => { x with key := [] }) }))
    | _ => false) = true := by decide +kernel

def w_tamperConfirm_level : State := { wRun [(TAMPER_CFG_IN_EN, 8), (TAMPER_CFG_VBAT_EN, 1), (TAMPER_STATUS_IN, 1), (KS_SLOT_W0_TYPE 2, 3), (KS_SLOT_W1_GEN 2, 4), (KS_SLOT_W1_GEN 3, 9), (REC_AON_OH_SECONDS, 77), (REC_AON_SUB_MS, 88), (ROOK_STATE_STOP, 0), (RELAY_STATUS_DRIVE, 3)] with ks := { vals := [(2, [1])] }, ecp := { State.reset.ecp with sessions := [{ id := 3, port := 1, auth := true, key := [1, 2] }] } }

theorem test_tamperConfirm_level : ((w_tamperConfirm_level.stopSafe = true) ∧ (1 < 4) ∧ (¬ ((if 1 < 4 then w_tamperConfirm_level.getBit TAMPER_CFG_IN_EN 1 = true else if 1 < 6 then w_tamperConfirm_level.bit TAMPER_CFG_VBAT_EN = true else w_tamperConfirm_level.bit TAMPER_CFG_TEMP_EN = true)) ∨ ¬ (if 1 < 4 then (2 ≤ ([1, 1] : List Int).length ∧ (([1, 1] : List Int).drop (([1, 1] : List Int).length - 2)).all (fun v => v == 1) = true) else if 1 = 4 then (8 ≤ ([1, 1] : List Int).length ∧ (([1, 1] : List Int).drop (([1, 1] : List Int).length - 8)).all (fun v => decide (v < 2350)) = true) else if 1 = 5 then (8 ≤ ([1, 1] : List Int).length ∧ (([1, 1] : List Int).drop (([1, 1] : List Int).length - 8)).all (fun v => decide (3850 < v)) = true) else if 1 = 6 then (2 ≤ ([1, 1] : List Int).length ∧ (([1, 1] : List Int).drop (([1, 1] : List Int).length - 2)).all (fun v => decide (v < -550)) = true) else (2 ≤ ([1, 1] : List Int).length ∧ (([1, 1] : List Int).drop (([1, 1] : List Int).length - 2)).all (fun v => decide (1250 < v)) = true)))) ∧ (match exec (.tamperConfirm 1 ([1, 1] : List Int) 0) w_tamperConfirm_level with
    | .next t => decide ((t.getBit TAMPER_STATUS_LIVE 1 = (([1, 1] : List Int).getLast? == some 1)))
    | _ => false) = true := by decide +kernel

def w_tamperConfirm_none : State := { wRun [(TAMPER_CFG_IN_EN, 8), (TAMPER_CFG_VBAT_EN, 1), (TAMPER_STATUS_IN, 1), (KS_SLOT_W0_TYPE 2, 3), (KS_SLOT_W1_GEN 2, 4), (KS_SLOT_W1_GEN 3, 9), (REC_AON_OH_SECONDS, 77), (REC_AON_SUB_MS, 88), (ROOK_STATE_STOP, 0), (RELAY_STATUS_DRIVE, 3)] with ks := { vals := [(2, [1])] }, ecp := { State.reset.ecp with sessions := [{ id := 3, port := 1, auth := true, key := [1, 2] }] } }

theorem test_tamperConfirm_none : ((w_tamperConfirm_none.stopSafe = true) ∧ (8 ≤ 4 ∨ (4 ≤ 4 ∧ (¬ (if 4 < 4 then w_tamperConfirm_none.getBit TAMPER_CFG_IN_EN 4 = true else if 4 < 6 then w_tamperConfirm_none.bit TAMPER_CFG_VBAT_EN = true else w_tamperConfirm_none.bit TAMPER_CFG_TEMP_EN = true) ∨ ¬ (if 4 < 4 then (2 ≤ ([2349, 2350] : List Int).length ∧ (([2349, 2350] : List Int).drop (([2349, 2350] : List Int).length - 2)).all (fun v => v == 1) = true) else if 4 = 4 then (8 ≤ ([2349, 2350] : List Int).length ∧ (([2349, 2350] : List Int).drop (([2349, 2350] : List Int).length - 8)).all (fun v => decide (v < 2350)) = true) else if 4 = 5 then (8 ≤ ([2349, 2350] : List Int).length ∧ (([2349, 2350] : List Int).drop (([2349, 2350] : List Int).length - 8)).all (fun v => decide (3850 < v)) = true) else if 4 = 6 then (2 ≤ ([2349, 2350] : List Int).length ∧ (([2349, 2350] : List Int).drop (([2349, 2350] : List Int).length - 2)).all (fun v => decide (v < -550)) = true) else (2 ≤ ([2349, 2350] : List Int).length ∧ (([2349, 2350] : List Int).drop (([2349, 2350] : List Int).length - 2)).all (fun v => decide (1250 < v)) = true)))))) ∧ (match exec (.tamperConfirm 4 ([2349, 2350] : List Int) 0) w_tamperConfirm_none with
    | .next t => decide ((t = w_tamperConfirm_none))
    | _ => false) = true := by decide +kernel

def w_tamperClear : State := { wRun [(TAMPER_CFG_IN_EN, 8), (TAMPER_CFG_VBAT_EN, 1), (TAMPER_STATUS_IN, 1), (KS_SLOT_W0_TYPE 2, 3), (KS_SLOT_W1_GEN 2, 4), (KS_SLOT_W1_GEN 3, 9), (REC_AON_OH_SECONDS, 77), (REC_AON_SUB_MS, 88), (ROOK_STATE_STOP, 0), (RELAY_STATUS_DRIVE, 3), (TAMPER_STATUS_TAMPERED, 1), (TAMPER_STATUS_TEMP_HI, 1)] with ks := { vals := [(2, [1])] }, ecp := { State.reset.ecp with sessions := [{ id := 3, port := 1, auth := true, key := [1, 2] }] } }

theorem test_tamperClear : ((w_tamperClear.stopSafe = true) ∧ (MayWrite w_tamperClear 0x1F 0x40710010) ∧ (isApp 0x1F = true) ∧ (bits 0x54430001 31 16 = 0x5443) ∧ (bitOf 0x54430001 0 = true) ∧ ((List.range 8).any (fun c => bitOf 0x7 c && w_tamperClear.causeEn c) = false)) ∧ (match exec (.tamperClear 0x1F 0x54430001 0x7) w_tamperClear with
    | .next t => decide ((Reads t [(TAMPER_STATUS_TAMPERED, 0), (TAMPER_STATUS_IN, 0), (TAMPER_STATUS_VBAT_LO, 0), (TAMPER_STATUS_VBAT_HI, 0), (TAMPER_STATUS_TEMP_LO, 0), (TAMPER_STATUS_TEMP_HI, 0), (TAMPER_STATUS_LIVE, 0x7 % 16)]))
    | _ => false) = true := by decide +kernel

def w_tamperClear_live : State := { wRun [(TAMPER_CFG_IN_EN, 8), (TAMPER_CFG_VBAT_EN, 1), (TAMPER_STATUS_IN, 1), (KS_SLOT_W0_TYPE 2, 3), (KS_SLOT_W1_GEN 2, 4), (KS_SLOT_W1_GEN 3, 9), (REC_AON_OH_SECONDS, 77), (REC_AON_SUB_MS, 88), (ROOK_STATE_STOP, 0), (RELAY_STATUS_DRIVE, 3), (TAMPER_STATUS_TAMPERED, 1)] with ks := { vals := [(2, [1])] }, ecp := { State.reset.ecp with sessions := [{ id := 3, port := 1, auth := true, key := [1, 2] }] } }

theorem test_tamperClear_live : ((w_tamperClear_live.stopSafe = true) ∧ (MayWrite w_tamperClear_live 0x10 0x40710010) ∧ (isApp 0x10 = true) ∧ (bits 0x54430001 31 16 = 0x5443) ∧ (bitOf 0x54430001 0 = true) ∧ ((List.range 8).any (fun c => bitOf 0x8 c && w_tamperClear_live.causeEn c) = true)) ∧ (match exec (.tamperClear 0x10 0x54430001 0x8) w_tamperClear_live with
    | .next t => decide ((Reads t [(TAMPER_STATUS_REFUSED, 1), (TAMPER_STATUS_LIVE, 0x8 % 16)]))
    | _ => false) = true := by decide +kernel

def w_tamperClear_key : State := { wRun [(TAMPER_CFG_IN_EN, 8), (TAMPER_CFG_VBAT_EN, 1), (TAMPER_STATUS_IN, 1), (KS_SLOT_W0_TYPE 2, 3), (KS_SLOT_W1_GEN 2, 4), (KS_SLOT_W1_GEN 3, 9), (REC_AON_OH_SECONDS, 77), (REC_AON_SUB_MS, 88), (ROOK_STATE_STOP, 0), (RELAY_STATUS_DRIVE, 3), (TAMPER_STATUS_TAMPERED, 1)] with ks := { vals := [(2, [1])] }, ecp := { State.reset.ecp with sessions := [{ id := 3, port := 1, auth := true, key := [1, 2] }] } }

theorem test_tamperClear_key : ((w_tamperClear_key.stopSafe = true) ∧ (MayWrite w_tamperClear_key 0x10 0x40710010) ∧ (bits 0x54420001 31 16 ≠ 0x5443 ∨ bitOf 0x54420001 0 = false ∨ isApp 0x10 = false)) ∧ (match exec (.tamperClear 0x10 0x54420001 0x8) w_tamperClear_key with
    | .next t => decide ((Reads t [(TAMPER_STATUS_LIVE, 0x8 % 16)]))
    | _ => false) = true := by decide +kernel

def w_tamperGet : State := withSess (at_ [(TAMPER_STATUS_TAMPERED, 1), (TAMPER_MS_COUNT, 3)])

theorem test_tamperGet : ((w_tamperGet.stopSafe = true) ∧ (w_tamperGet.accepts 0x0908 3 9 false = true)) ∧ (match exec (.tamperGet 3 9) w_tamperGet with
    | .next t => decide ((answers w_tamperGet t [] 0x0908 3 9 Ecp.OK (crc32c []) (leBytes 4 w_tamperGet.tamperWord ++ leBytes 4 (w_tamperGet.get TAMPER_OH_SECONDS) ++ leBytes 4 (w_tamperGet.get TAMPER_MS_COUNT * 65536 + w_tamperGet.get TAMPER_MS_MS)) = true) ∧ (w_tamperGet.tamperWord = w_tamperGet.get TAMPER_STATUS_TAMPERED * 2 ^ 31 + w_tamperGet.get TAMPER_STATUS_REFUSED * 2 ^ 30 + w_tamperGet.get TAMPER_STATUS_TEMP_HI * 2 ^ 11 + w_tamperGet.get TAMPER_STATUS_TEMP_LO * 2 ^ 10 + w_tamperGet.get TAMPER_STATUS_VBAT_HI * 2 ^ 9 + w_tamperGet.get TAMPER_STATUS_VBAT_LO * 2 ^ 8 + w_tamperGet.get TAMPER_STATUS_IN * 16 + w_tamperGet.get TAMPER_STATUS_LIVE))
    | _ => false) = true := by decide +kernel

def w_trngHealthFail : State := wRun []

theorem test_trngHealthFail : ((w_trngHealthFail.stopSafe = true) ∧ (w_trngHealthFail.domOff 3 = false) ∧ (w_trngHealthFail.bit KS_STATUS_TRNG_FAIL = false)) ∧ (match exec (.trngHealthFail false) w_trngHealthFail with
    | .next t => decide ((Reads t [(KS_STATUS_TRNG_FAIL, 1)]) ∧ (t.ks = { w_trngHealthFail.ks with trngBad := true }) ∧ (t.evr = (w_trngHealthFail.record .trngFail).evr))
    | _ => false) = true := by decide +kernel

def w_trngHealthFail_again : State := wRun [(KS_STATUS_TRNG_FAIL, 1)]

theorem test_trngHealthFail_again : ((w_trngHealthFail_again.stopSafe = true) ∧ (w_trngHealthFail_again.domOff 3 = false) ∧ (w_trngHealthFail_again.bit KS_STATUS_TRNG_FAIL = true)) ∧ (match exec (.trngHealthFail false) w_trngHealthFail_again with
    | .next t => decide ((t.ks = { w_trngHealthFail_again.ks with trngBad := true }))
    | _ => false) = true := by decide +kernel

def w_trngHealthFail_passed : State := { wRun [(KS_STATUS_TRNG_FAIL, 1)] with ks := { State.reset.ks with trngBad := true } }

theorem test_trngHealthFail_passed : ((w_trngHealthFail_passed.stopSafe = true) ∧ (w_trngHealthFail_passed.domOff 3 = false)) ∧ (match exec (.trngHealthFail true) w_trngHealthFail_passed with
    | .next t => decide ((t.ks = { w_trngHealthFail_passed.ks with trngBad := false }))
    | _ => false) = true := by decide +kernel

def w_trngHealthFail_off : State := { State.reset with rst := { State.reset.rst with held := [.sys] } }

theorem test_trngHealthFail_off : ((w_trngHealthFail_off.stopSafe = true) ∧ (w_trngHealthFail_off.domOff 3 = true)) ∧ (match exec (.trngHealthFail false) w_trngHealthFail_off with
    | .next t => decide ((t = w_trngHealthFail_off))
    | _ => false) = true := by decide +kernel

def w_sealConfirm : State := wRun []

theorem test_sealConfirm : ((w_sealConfirm.stopSafe = true) ∧ (true ≠ w_sealConfirm.bit MET_STATUS_SEAL_OPEN) ∧ (true ≠ w_sealConfirm.bit MET_STATUS_SEAL_OPEN)) ∧ (match exec (.sealConfirm true false true) w_sealConfirm with
    | .next t => decide ((Reads t [(MET_STATUS_SEAL_OPEN, b2n true)]) ∧ (t.mp = { w_sealConfirm.mp with sealSince := if true then some w_sealConfirm.ply else none }) ∧ (t.evr = (w_sealConfirm.record .sealChange [b2n true]).evr))
    | _ => false) = true := by decide +kernel

def w_sealConfirm_not : State := wRun []

theorem test_sealConfirm_not : ((w_sealConfirm_not.stopSafe = true) ∧ (true = w_sealConfirm_not.bit MET_STATUS_SEAL_OPEN ∨ false = w_sealConfirm_not.bit MET_STATUS_SEAL_OPEN)) ∧ (match exec (.sealConfirm true true false) w_sealConfirm_not with
    | .next t => decide ((t = w_sealConfirm_not))
    | _ => false) = true := by decide +kernel

def w_anchorWrite : State := { at_ [(REC_AON_OH_SECONDS, 7200), (REC_AON_MS_PCC, 4)] with boot := { State.reset.boot with core0Rom := false }, flash := { State.reset.flash with anchor0 := some (3599, 4), anchor1 := some (7199, 4) } }

theorem test_anchorWrite : ((w_anchorWrite.stopSafe = true) ∧ (w_anchorWrite.boot.core0Rom = false) ∧ ((match w_anchorWrite.flash.anchor with | some a => decide (a.1 / 3600 < w_anchorWrite.get REC_AON_OH_SECONDS / 3600 ∨ a.2 ≠ w_anchorWrite.get REC_AON_MS_PCC) | none => true) = true)) ∧ (match exec (.anchorWrite) w_anchorWrite with
    | .next t => decide ((t.flash = (if (match w_anchorWrite.flash.anchor0, w_anchorWrite.flash.anchor1 with | some a, some b => decide (a.1 ≤ b.1) | some _, none => false | none, _ => true) then { w_anchorWrite.flash with anchor0 := some (w_anchorWrite.get REC_AON_OH_SECONDS, w_anchorWrite.get REC_AON_MS_PCC) } else { w_anchorWrite.flash with anchor1 := some (w_anchorWrite.get REC_AON_OH_SECONDS, w_anchorWrite.get REC_AON_MS_PCC) })))
    | _ => false) = true := by decide +kernel

def w_anchorWrite_none : State := { at_ [(REC_AON_OH_SECONDS, 7199), (REC_AON_MS_PCC, 4)] with boot := { State.reset.boot with core0Rom := false }, flash := { State.reset.flash with anchor0 := some (3600, 4) } }

theorem test_anchorWrite_none : ((w_anchorWrite_none.stopSafe = true) ∧ (w_anchorWrite_none.boot.core0Rom = true ∨ (match w_anchorWrite_none.flash.anchor with | some a => decide (a.1 / 3600 < w_anchorWrite_none.get REC_AON_OH_SECONDS / 3600 ∨ a.2 ≠ w_anchorWrite_none.get REC_AON_MS_PCC) | none => true) = false)) ∧ (match exec (.anchorWrite) w_anchorWrite_none with
    | .next t => decide ((t = w_anchorWrite_none))
    | _ => false) = true := by decide +kernel

def w_hoursFuseStep : State := at_ [(REC_AON_OH_SECONDS, 3686400)]

theorem test_hoursFuseStep : ((w_hoursFuseStep.stopSafe = true) ∧ ((w_hoursFuseStep.flash.hoursFuses + 1) * 3686400 ≤ w_hoursFuseStep.get REC_AON_OH_SECONDS) ∧ (w_hoursFuseStep.flash.hoursFuses < 1024)) ∧ (match exec (.hoursFuseStep false) w_hoursFuseStep with
    | .next t => decide ((t.flash = { w_hoursFuseStep.flash with hoursFuses := w_hoursFuseStep.flash.hoursFuses + 1 }))
    | _ => false) = true := by decide +kernel

def w_hoursFuseStep_cycle : State := at_ [(REC_AON_MS_PCC, 16384)]

theorem test_hoursFuseStep_cycle : ((w_hoursFuseStep_cycle.stopSafe = true) ∧ ((w_hoursFuseStep_cycle.flash.cycleFuses + 1) * 16384 ≤ w_hoursFuseStep_cycle.get REC_AON_MS_PCC) ∧ (w_hoursFuseStep_cycle.flash.cycleFuses < 1024)) ∧ (match exec (.hoursFuseStep true) w_hoursFuseStep_cycle with
    | .next t => decide ((t.flash = { w_hoursFuseStep_cycle.flash with cycleFuses := w_hoursFuseStep_cycle.flash.cycleFuses + 1 }))
    | _ => false) = true := by decide +kernel

def w_hoursFuseStep_early : State := at_ [(REC_AON_OH_SECONDS, 3686399)]

theorem test_hoursFuseStep_early : ((w_hoursFuseStep_early.stopSafe = true) ∧ ((false = false ∧ (w_hoursFuseStep_early.get REC_AON_OH_SECONDS < (w_hoursFuseStep_early.flash.hoursFuses + 1) * 3686400 ∨ 1024 ≤ w_hoursFuseStep_early.flash.hoursFuses)) ∨ (false = true ∧ (w_hoursFuseStep_early.get REC_AON_MS_PCC < (w_hoursFuseStep_early.flash.cycleFuses + 1) * 16384 ∨ 1024 ≤ w_hoursFuseStep_early.flash.cycleFuses)))) ∧ (match exec (.hoursFuseStep false) w_hoursFuseStep_early with
    | .next t => decide ((t = w_hoursFuseStep_early))
    | _ => false) = true := by decide +kernel

def w_recordSubmit : State := wRun [(REC_AON_OH_SECONDS, 5), (REC_CTRL_CIVIL_EN, 1), (TIME_STATUS_VALID, 1)]

theorem test_recordSubmit : ((w_recordSubmit.stopSafe = true) ∧ (w_recordSubmit.domOff 3 = false) ∧ (w_recordSubmit.evr.queue.length < 64) ∧ (true = (w_recordSubmit.bit REC_CTRL_CIVIL_EN && w_recordSubmit.bit TIME_STATUS_VALID))) ∧ (match exec (.recordSubmit 0x0B05 0x10 (List.range 25 : List Nat)) w_recordSubmit with
    | .next t => decide ((t.evr = { w_recordSubmit.evr with queue := w_recordSubmit.evr.queue ++ [({ seq := 0, ohSec := w_recordSubmit.get REC_AON_OH_SECONDS, ohMs := w_recordSubmit.get REC_AON_SUB_MS, pcc := w_recordSubmit.get REC_AON_MS_PCC, civilValid := true, ev := .submitted 0x0B05, ply := w_recordSubmit.ply, civilSec := if true then w_recordSubmit.time.sec else 0, timeGen := w_recordSubmit.get TIME_STATUS_TIME_GEN, civilNs := if true then w_recordSubmit.time.ns else 0, source := 0x10, payload := (List.range 25 : List Nat).take 24 } : Rec)] }))
    | _ => false) = true := by decide +kernel

def w_recordSubmit_full : State := { wRun [] with evr := { State.reset.evr with queue := List.replicate 64 {} } }

theorem test_recordSubmit_full : ((w_recordSubmit_full.stopSafe = true) ∧ (w_recordSubmit_full.domOff 3 = false) ∧ (64 ≤ w_recordSubmit_full.evr.queue.length)) ∧ (match exec (.recordSubmit 0x0B05 0x10 ([1] : List Nat)) w_recordSubmit_full with
    | .next t => decide ((t.evr = { w_recordSubmit_full.evr with lostBefore := true }) ∧ (Reads t [(REC_CNT_QUEUE_DROP, w_recordSubmit_full.adv REC_CNT_QUEUE_DROP)]))
    | _ => false) = true := by decide +kernel

def w_recordSubmit_off : State := { State.reset with rst := { State.reset.rst with held := [.sys] } }

theorem test_recordSubmit_off : ((w_recordSubmit_off.stopSafe = true) ∧ (w_recordSubmit_off.domOff 3 = true)) ∧ (match exec (.recordSubmit 0x0B05 0x10 ([1] : List Nat)) w_recordSubmit_off with
    | .next t => decide ((t = w_recordSubmit_off))
    | _ => false) = true := by decide +kernel

def w_recordWrite : State := { wRun [(REC_LAST_SEQ_SEQ, 41), (REC_HEAD_INDEX, 32767), (REC_WRAP_WRAP, 2), (ROOK_STATE_STOP, 0), (RELAY_STATUS_DRIVE, 1)] with evr := { State.reset.evr with queue := [{ ohSec := 5, payload := [1] }, { ohSec := 6 }], lostBefore := true } }

theorem test_recordWrite : ((w_recordWrite.stopSafe = true) ∧ (w_recordWrite.domOff 3 = false) ∧ (w_recordWrite.evr.queue = ({ ohSec := 5, payload := [1] } : Rec) :: ([{ ohSec := 6 }] : List Rec)) ∧ (42 = w_recordWrite.get REC_LAST_SEQ_SEQ + 1) ∧ (42 ≤ 0xFFFFFFFF) ∧ (false = false) ∧ (2 ≤ 2) ∧ (w_recordWrite.bit REC_STATUS_MAIN_FAULT = false) ∧ (w_recordWrite.bit REC_STATUS_RETESTING = false)) ∧ (match exec (.recordWrite false 2) w_recordWrite with
    | .next t => decide ((t.evr.main = w_recordWrite.evr.main.filter (fun (x : Nat × Rec) => x.1 ≠ w_recordWrite.get REC_HEAD_INDEX) ++ [(w_recordWrite.get REC_HEAD_INDEX, ({ ({ ohSec := 5, payload := [1] } : Rec) with seq := 42, wrap := w_recordWrite.get REC_WRAP_WRAP, lostBefore := w_recordWrite.evr.lostBefore, mediaFault := w_recordWrite.bit REC_STATUS_MAIN_FAULT, back := ({ ohSec := 5, payload := [1] } : Rec).civilValid && decide (({ ohSec := 5, payload := [1] } : Rec).civilSec < w_recordWrite.evr.hwmSec ∨ (({ ohSec := 5, payload := [1] } : Rec).civilSec = w_recordWrite.evr.hwmSec ∧ ({ ohSec := 5, payload := [1] } : Rec).civilNs < w_recordWrite.evr.hwmNs)) } : Rec))]) ∧ (t.evr = { w_recordWrite.evr with main := t.evr.main, queue := ([{ ohSec := 6 }] : List Rec), lostBefore := false, hwmSec := t.evr.hwmSec, hwmNs := t.evr.hwmNs }) ∧ ((t.evr.hwmSec, t.evr.hwmNs) = (if (({ ohSec := 5, payload := [1] } : Rec).civilValid && decide (w_recordWrite.evr.hwmSec < ({ ohSec := 5, payload := [1] } : Rec).civilSec ∨ (({ ohSec := 5, payload := [1] } : Rec).civilSec = w_recordWrite.evr.hwmSec ∧ w_recordWrite.evr.hwmNs < ({ ohSec := 5, payload := [1] } : Rec).civilNs))) then (({ ohSec := 5, payload := [1] } : Rec).civilSec, ({ ohSec := 5, payload := [1] } : Rec).civilNs) else (w_recordWrite.evr.hwmSec, w_recordWrite.evr.hwmNs))) ∧ (Reads t [(REC_LAST_SEQ_SEQ, 42), (REC_HEAD_INDEX, (w_recordWrite.get REC_HEAD_INDEX + 1) % 32768), (REC_WRAP_WRAP, w_recordWrite.get REC_WRAP_WRAP), (REC_CNT_CE_COUNT, if 1 ≤ 2 ∧ 2 ≤ 2 then w_recordWrite.adv REC_CNT_CE_COUNT else w_recordWrite.get REC_CNT_CE_COUNT)]))
    | _ => false) = true := by decide +kernel

def w_recordWrite_media : State := { wRun [(REC_LAST_SEQ_SEQ, 41), (REC_HEAD_INDEX, 32767), (REC_WRAP_WRAP, 2), (ROOK_STATE_STOP, 0), (RELAY_STATUS_DRIVE, 1)] with evr := { State.reset.evr with queue := [{ ohSec := 5, payload := [1] }, { ohSec := 6 }], lostBefore := true } }

theorem test_recordWrite_media : ((w_recordWrite_media.stopSafe = true) ∧ (w_recordWrite_media.domOff 3 = false) ∧ (w_recordWrite_media.evr.queue = ({ ohSec := 5, payload := [1] } : Rec) :: ([{ ohSec := 6 }] : List Rec)) ∧ (42 = w_recordWrite_media.get REC_LAST_SEQ_SEQ + 1) ∧ (42 ≤ 0xFFFFFFFF) ∧ (true = true ∨ 3 ≤ 0) ∧ (42 < 0xFFFFFFFF) ∧ (w_recordWrite_media.bit REC_STATUS_MAIN_FAULT = false) ∧ (w_recordWrite_media.bit REC_STATUS_RETESTING = false) ∧ (w_recordWrite_media.bit REC_STATUS_RES_FAULT = false) ∧ (w_recordWrite_media.rookHeld = false) ∧ (w_recordWrite_media.bit ROOK_FAULT_LOG_MEDIA = false)) ∧ (match exec (.recordWrite true 0) w_recordWrite_media with
    | .next t => decide ((StopOn 4 w_recordWrite_media t) ∧ (Reads t [(REC_STATUS_MAIN_FAULT, 1), (ROOK_FAULT_LOG_MEDIA, 1), (REC_LAST_SEQ_SEQ, 42 + 1), (REC_HEAD_INDEX, (w_recordWrite_media.get REC_HEAD_INDEX + 1) % 32768), (REC_CNT_CE_COUNT, if 1 ≤ 0 ∧ 0 ≤ 2 then w_recordWrite_media.adv REC_CNT_CE_COUNT else w_recordWrite_media.get REC_CNT_CE_COUNT)]) ∧ (t.evr.main = w_recordWrite_media.evr.main.filter (fun (x : Nat × Rec) => x.1 ≠ w_recordWrite_media.get REC_HEAD_INDEX)) ∧ (t.evr.reserve.any (fun x => x.2.seq == 42 && x.2.reserve && x.2.mediaFault && x.2.ohSec == ({ ohSec := 5, payload := [1] } : Rec).ohSec && x.2.payload == ({ ohSec := 5, payload := [1] } : Rec).payload) = true) ∧ (t.evr.reserve.any (fun x => x.2.seq == 42 + 1 && x.2.ev == .logMedia && x.2.payload == leBytes 2 (w_recordWrite_media.get REC_HEAD_INDEX)) = true))
    | _ => false) = true := by decide +kernel

def w_recordWrite_reserve : State := { wRun [(REC_LAST_SEQ_SEQ, 41), (REC_HEAD_INDEX, 32767), (REC_WRAP_WRAP, 2), (ROOK_STATE_STOP, 0), (RELAY_STATUS_DRIVE, 1), (REC_STATUS_MAIN_FAULT, 1)] with evr := { State.reset.evr with queue := [{ ohSec := 5, payload := [1] }, { ohSec := 6 }], lostBefore := true, resHead := 255, resFirst := some 0 } }

theorem test_recordWrite_reserve : ((w_recordWrite_reserve.stopSafe = true) ∧ (w_recordWrite_reserve.domOff 3 = false) ∧ (w_recordWrite_reserve.evr.queue = ({ ohSec := 5, payload := [1] } : Rec) :: ([{ ohSec := 6 }] : List Rec)) ∧ (42 = w_recordWrite_reserve.get REC_LAST_SEQ_SEQ + 1) ∧ (42 ≤ 0xFFFFFFFF) ∧ (false = false) ∧ (0 ≤ 2) ∧ (w_recordWrite_reserve.bit REC_STATUS_MAIN_FAULT = true ∨ w_recordWrite_reserve.bit REC_STATUS_RETESTING = true) ∧ (w_recordWrite_reserve.bit REC_STATUS_RES_FAULT = false)) ∧ (match exec (.recordWrite false 0) w_recordWrite_reserve with
    | .next t => decide ((t.evr.reserve = w_recordWrite_reserve.evr.reserve.filter (fun (x : Nat × Rec) => x.1 ≠ w_recordWrite_reserve.evr.resHead) ++ [(w_recordWrite_reserve.evr.resHead, ({ ({ ohSec := 5, payload := [1] } : Rec) with seq := 42, wrap := w_recordWrite_reserve.get REC_WRAP_WRAP, lostBefore := w_recordWrite_reserve.evr.lostBefore, mediaFault := w_recordWrite_reserve.bit REC_STATUS_MAIN_FAULT, back := ({ ohSec := 5, payload := [1] } : Rec).civilValid && decide (({ ohSec := 5, payload := [1] } : Rec).civilSec < w_recordWrite_reserve.evr.hwmSec ∨ (({ ohSec := 5, payload := [1] } : Rec).civilSec = w_recordWrite_reserve.evr.hwmSec ∧ ({ ohSec := 5, payload := [1] } : Rec).civilNs < w_recordWrite_reserve.evr.hwmNs)), reserve := true } : Rec))]) ∧ (t.evr.resFirst = (if w_recordWrite_reserve.evr.resFirst.isNone then some w_recordWrite_reserve.evr.resHead else w_recordWrite_reserve.evr.resFirst)) ∧ (t.evr.resHead = (if t.evr.resFirst = some ((w_recordWrite_reserve.evr.resHead + 1) % 256) then ((w_recordWrite_reserve.evr.resHead + 1) % 256 + 1) % 256 else (w_recordWrite_reserve.evr.resHead + 1) % 256)) ∧ (t.evr = { w_recordWrite_reserve.evr with reserve := t.evr.reserve, resHead := t.evr.resHead, resFirst := t.evr.resFirst, queue := ([{ ohSec := 6 }] : List Rec), lostBefore := false, hwmSec := t.evr.hwmSec, hwmNs := t.evr.hwmNs }) ∧ ((t.evr.hwmSec, t.evr.hwmNs) = (if (({ ohSec := 5, payload := [1] } : Rec).civilValid && decide (w_recordWrite_reserve.evr.hwmSec < ({ ohSec := 5, payload := [1] } : Rec).civilSec ∨ (({ ohSec := 5, payload := [1] } : Rec).civilSec = w_recordWrite_reserve.evr.hwmSec ∧ w_recordWrite_reserve.evr.hwmNs < ({ ohSec := 5, payload := [1] } : Rec).civilNs))) then (({ ohSec := 5, payload := [1] } : Rec).civilSec, ({ ohSec := 5, payload := [1] } : Rec).civilNs) else (w_recordWrite_reserve.evr.hwmSec, w_recordWrite_reserve.evr.hwmNs))) ∧ (Reads t [(REC_LAST_SEQ_SEQ, 42), (REC_STATUS_RES_USED, t.evr.reserve.length % 2 ^ REC_STATUS_RES_USED.w), (REC_CNT_CE_COUNT, if 1 ≤ 0 ∧ 0 ≤ 2 then w_recordWrite_reserve.adv REC_CNT_CE_COUNT else w_recordWrite_reserve.get REC_CNT_CE_COUNT)]))
    | _ => false) = true := by decide +kernel

def w_recordWrite_lost : State := { wRun [(REC_LAST_SEQ_SEQ, 41), (REC_HEAD_INDEX, 32767), (REC_WRAP_WRAP, 2), (ROOK_STATE_STOP, 0), (RELAY_STATUS_DRIVE, 1), (REC_STATUS_MAIN_FAULT, 1), (REC_STATUS_RES_FAULT, 1), (REC_AON_LOST_LOST_EVENTS, 0xFFFFFFFF)] with evr := { State.reset.evr with queue := [{ ohSec := 5, payload := [1] }, { ohSec := 6 }], lostBefore := true } }

theorem test_recordWrite_lost : ((w_recordWrite_lost.stopSafe = true) ∧ (w_recordWrite_lost.domOff 3 = false) ∧ (w_recordWrite_lost.evr.queue = ({ ohSec := 5, payload := [1] } : Rec) :: ([{ ohSec := 6 }] : List Rec)) ∧ (42 = w_recordWrite_lost.get REC_LAST_SEQ_SEQ + 1) ∧ (42 ≤ 0xFFFFFFFF) ∧ (w_recordWrite_lost.bit REC_STATUS_MAIN_FAULT = true) ∧ (w_recordWrite_lost.bit REC_STATUS_RES_FAULT = true ∨ false = true ∨ 3 ≤ 0)) ∧ (match exec (.recordWrite false 0) w_recordWrite_lost with
    | .next t => decide ((t.evr = { w_recordWrite_lost.evr with queue := ([{ ohSec := 6 }] : List Rec) }) ∧ (Reads t [(REC_AON_LOST_LOST_EVENTS, w_recordWrite_lost.adv REC_AON_LOST_LOST_EVENTS), (REC_LAST_SEQ_SEQ, w_recordWrite_lost.get REC_LAST_SEQ_SEQ), (REC_STATUS_RES_FAULT, 1), (REC_CNT_CE_COUNT, if 1 ≤ 0 ∧ 0 ≤ 2 then w_recordWrite_lost.adv REC_CNT_CE_COUNT else w_recordWrite_lost.get REC_CNT_CE_COUNT)]))
    | _ => false) = true := by decide +kernel

def w_recordWrite_retesting : State := { wRun [(REC_LAST_SEQ_SEQ, 41), (REC_HEAD_INDEX, 32767), (REC_WRAP_WRAP, 2), (ROOK_STATE_STOP, 0), (RELAY_STATUS_DRIVE, 1), (REC_STATUS_RETESTING, 1)] with evr := { State.reset.evr with queue := [{ ohSec := 5, payload := [1] }, { ohSec := 6 }], lostBefore := true } }

theorem test_recordWrite_retesting : ((w_recordWrite_retesting.stopSafe = true) ∧ (w_recordWrite_retesting.domOff 3 = false) ∧ (w_recordWrite_retesting.evr.queue = ({ ohSec := 5, payload := [1] } : Rec) :: ([{ ohSec := 6 }] : List Rec)) ∧ (42 = w_recordWrite_retesting.get REC_LAST_SEQ_SEQ + 1) ∧ (42 ≤ 0xFFFFFFFF) ∧ (w_recordWrite_retesting.bit REC_STATUS_MAIN_FAULT = false) ∧ (w_recordWrite_retesting.bit REC_STATUS_RETESTING = true) ∧ (w_recordWrite_retesting.bit REC_STATUS_RES_FAULT = true ∨ false = true ∨ 3 ≤ 3)) ∧ (match exec (.recordWrite false 3) w_recordWrite_retesting with
    | .next t => decide ((t.evr = { w_recordWrite_retesting.evr with queue := ([{ ohSec := 6 }] : List Rec), lostBefore := true }) ∧ (Reads t [(REC_LAST_SEQ_SEQ, w_recordWrite_retesting.get REC_LAST_SEQ_SEQ), (REC_STATUS_RES_FAULT, 1), (REC_CNT_CE_COUNT, if 1 ≤ 3 ∧ 3 ≤ 2 then w_recordWrite_retesting.adv REC_CNT_CE_COUNT else w_recordWrite_retesting.get REC_CNT_CE_COUNT)]))
    | _ => false) = true := by decide +kernel

def w_recordWrite_wrap : State := { wRun [(REC_LAST_SEQ_SEQ, 41), (REC_HEAD_INDEX, 32767), (REC_WRAP_WRAP, 2), (ROOK_STATE_STOP, 0), (RELAY_STATUS_DRIVE, 1), (REC_LAST_SEQ_SEQ, 0xFFFFFFFF)] with evr := { State.reset.evr with queue := [{ ohSec := 5, payload := [1] }, { ohSec := 6 }], lostBefore := true } }

theorem test_recordWrite_wrap : ((w_recordWrite_wrap.stopSafe = true) ∧ (w_recordWrite_wrap.domOff 3 = false) ∧ (w_recordWrite_wrap.evr.queue = ({ ohSec := 5, payload := [1] } : Rec) :: ([{ ohSec := 6 }] : List Rec)) ∧ (w_recordWrite_wrap.get REC_LAST_SEQ_SEQ = 0xFFFFFFFF) ∧ (w_recordWrite_wrap.get REC_WRAP_WRAP < 0xFFFF) ∧ (w_recordWrite_wrap.bit REC_STATUS_MAIN_FAULT = false) ∧ (w_recordWrite_wrap.bit REC_STATUS_RETESTING = false) ∧ (false = false) ∧ (0 ≤ 2)) ∧ (match exec (.recordWrite false 0) w_recordWrite_wrap with
    | .next t => decide ((t.evr.main.getLast?.map (fun x => (x.1, x.2.seq, x.2.wrap, x.2.ev.code)) = some (w_recordWrite_wrap.get REC_HEAD_INDEX, 1, w_recordWrite_wrap.get REC_WRAP_WRAP + 1, 0x0A03)) ∧ (t.evr.queue = w_recordWrite_wrap.evr.queue) ∧ (Reads t [(REC_LAST_SEQ_SEQ, 1), (REC_WRAP_WRAP, w_recordWrite_wrap.get REC_WRAP_WRAP + 1), (REC_HEAD_INDEX, (w_recordWrite_wrap.get REC_HEAD_INDEX + 1) % 32768), (REC_CNT_CE_COUNT, if 1 ≤ 0 ∧ 0 ≤ 2 then w_recordWrite_wrap.adv REC_CNT_CE_COUNT else w_recordWrite_wrap.get REC_CNT_CE_COUNT)]))
    | _ => false) = true := by decide +kernel

def w_recordWrite_wraps : State := { wRun [(REC_LAST_SEQ_SEQ, 41), (REC_HEAD_INDEX, 32767), (REC_WRAP_WRAP, 2), (ROOK_STATE_STOP, 0), (RELAY_STATUS_DRIVE, 1), (REC_LAST_SEQ_SEQ, 0xFFFFFFFF), (REC_STATUS_MAIN_FAULT, 1)] with evr := { State.reset.evr with queue := [{ ohSec := 5, payload := [1] }, { ohSec := 6 }], lostBefore := true } }

theorem test_recordWrite_wraps : ((w_recordWrite_wraps.stopSafe = true) ∧ (w_recordWrite_wraps.domOff 3 = false) ∧ (w_recordWrite_wraps.evr.queue = ({ ohSec := 5, payload := [1] } : Rec) :: ([{ ohSec := 6 }] : List Rec)) ∧ (w_recordWrite_wraps.get REC_LAST_SEQ_SEQ = 0xFFFFFFFF)) ∧ (match exec (.recordWrite false 0) w_recordWrite_wraps with
    | .next t => decide ((t = State.writeRec (if 1 ≤ 0 ∧ 0 ≤ 2 then State.bump w_recordWrite_wraps REC_CNT_CE_COUNT else w_recordWrite_wraps) (w_recordWrite_wraps.recNow .seqWrap []) (false || decide (3 ≤ 0))) ∧ (t.evr.queue = w_recordWrite_wraps.evr.queue))
    | _ => false) = true := by decide +kernel

def w_recordWrite_all : State := { wRun [(REC_LAST_SEQ_SEQ, 41), (REC_HEAD_INDEX, 32767), (REC_WRAP_WRAP, 2), (ROOK_STATE_STOP, 0), (RELAY_STATUS_DRIVE, 1), (ROOK_FAULT_LOG_MEDIA, 1)] with evr := { State.reset.evr with queue := [{ ohSec := 5, payload := [1] }, { ohSec := 6 }], lostBefore := true } }

theorem test_recordWrite_all : ((w_recordWrite_all.stopSafe = true) ∧ (w_recordWrite_all.domOff 3 = false) ∧ (w_recordWrite_all.evr.queue = ({ ohSec := 5, payload := [1] } : Rec) :: ([{ ohSec := 6 }] : List Rec)) ∧ (42 = w_recordWrite_all.get REC_LAST_SEQ_SEQ + 1) ∧ (42 ≤ 0xFFFFFFFF)) ∧ (match exec (.recordWrite true 0) w_recordWrite_all with
    | .next t => decide ((t = State.writeRec (let z : State := (if 1 ≤ 0 ∧ 0 ≤ 2 then State.bump w_recordWrite_all REC_CNT_CE_COUNT else w_recordWrite_all); { z with evr := { z.evr with queue := ([{ ohSec := 6 }] : List Rec) } }) ({ ohSec := 5, payload := [1] } : Rec) (true || decide (3 ≤ 0))))
    | _ => false) = true := by decide +kernel

def w_recordWrite_none : State := wRun []

theorem test_recordWrite_none : ((w_recordWrite_none.stopSafe = true) ∧ (w_recordWrite_none.domOff 3 = true ∨ w_recordWrite_none.evr.queue = [])) ∧ (match exec (.recordWrite false 1) w_recordWrite_none with
    | .next t => decide ((t = w_recordWrite_none))
    | _ => false) = true := by decide +kernel

def w_recRetest : State := { wRun [] with ply := 77 }

theorem test_recRetest : ((w_recRetest.stopSafe = true) ∧ (MayWrite w_recRetest 0x10 0x40800000) ∧ (bitOf 0xC0000000 30 = true)) ∧ (match exec (.recRetest 0x10 0xC0000000) w_recRetest with
    | .next t => decide ((Reads t [(REC_STATUS_RETESTING, 1), (REC_CTRL_CIVIL_EN, b2n (bitOf 0xC0000000 31))]) ∧ (t.evr = { w_recRetest.evr with retestAt := w_recRetest.ply }))
    | _ => false) = true := by decide +kernel

def w_recRetest_none : State := wRun []

theorem test_recRetest_none : ((w_recRetest_none.stopSafe = true) ∧ (bitOf 0x80000000 30 = false)) ∧ (match exec (.recRetest 0x10 0x80000000) w_recRetest_none with
    | .next t => decide ((t = w_recRetest_none))
    | _ => false) = true := by decide +kernel

def w_recRetestComplete : State := { wRun [(REC_STATUS_RETESTING, 1), (REC_STATUS_MAIN_FAULT, 1)] with ply := 5400, evr := { State.reset.evr with main := [(3, {})], retestAt := 5000 } }

theorem test_recRetestComplete : ((w_recRetestComplete.stopSafe = true) ∧ (w_recRetestComplete.bit REC_STATUS_RETESTING = true) ∧ (w_recRetestComplete.evr.retestAt + 400 ≤ w_recRetestComplete.ply) ∧ (true = true)) ∧ (match exec (.recRetestComplete true) w_recRetestComplete with
    | .next t => decide ((Reads t [(REC_STATUS_RETESTING, 0), (REC_STATUS_MAIN_FAULT, 0)]) ∧ (t.evr = { (w_recRetestComplete.record .retestPass).evr with main := [] }))
    | _ => false) = true := by decide +kernel

def w_recRetestComplete_failed : State := { wRun [(REC_STATUS_RETESTING, 1), (REC_STATUS_MAIN_FAULT, 1)] with ply := 5400, evr := { State.reset.evr with main := [(3, {})], retestAt := 5000 } }

theorem test_recRetestComplete_failed : ((w_recRetestComplete_failed.stopSafe = true) ∧ (w_recRetestComplete_failed.bit REC_STATUS_RETESTING = true) ∧ (w_recRetestComplete_failed.evr.retestAt + 400 ≤ w_recRetestComplete_failed.ply) ∧ (false = false)) ∧ (match exec (.recRetestComplete false) w_recRetestComplete_failed with
    | .next t => decide ((Reads t [(REC_STATUS_RETESTING, 0), (REC_STATUS_MAIN_FAULT, w_recRetestComplete_failed.get REC_STATUS_MAIN_FAULT)]) ∧ (t.evr = (w_recRetestComplete_failed.record .retestFail).evr))
    | _ => false) = true := by decide +kernel

def w_recRetestComplete_early : State := { wRun [(REC_STATUS_RETESTING, 1), (REC_STATUS_MAIN_FAULT, 1)] with ply := 5400, evr := { State.reset.evr with main := [(3, {})], retestAt := 5001 } }

theorem test_recRetestComplete_early : ((w_recRetestComplete_early.stopSafe = true) ∧ (w_recRetestComplete_early.bit REC_STATUS_RETESTING = false ∨ w_recRetestComplete_early.ply < w_recRetestComplete_early.evr.retestAt + 400)) ∧ (match exec (.recRetestComplete true) w_recRetestComplete_early with
    | .next t => decide ((t = w_recRetestComplete_early))
    | _ => false) = true := by decide +kernel

def w_recRestoreWrite_hours : State := wRun [(REC_STATUS_RESTORE_OPEN, 1), (REC_AON_OH_SECONDS, 10)]

theorem test_recRestoreWrite_hours : ((w_recRestoreWrite_hours.stopSafe = true) ∧ (w_recRestoreWrite_hours.judge 0x3F 0x40800110 true = .ok) ∧ (w_recRestoreWrite_hours.bit REC_STATUS_RESTORE_OPEN = true) ∧ (w_recRestoreWrite_hours.evr.restoreHours = none) ∧ (w_recRestoreWrite_hours.get REC_AON_OH_SECONDS ≤ 10)) ∧ (match exec (.recRestoreWrite 0x3F 10) w_recRestoreWrite_hours with
    | .next t => decide ((t.evr = { w_recRestoreWrite_hours.evr with restoreHours := some 10 }))
    | _ => false) = true := by decide +kernel

def w_recRestoreWrite : State := { wRun [(REC_STATUS_RESTORE_OPEN, 1), (REC_AON_OH_SECONDS, 10)] with evr := { State.reset.evr with restoreHours := some 3600 } }

theorem test_recRestoreWrite : ((w_recRestoreWrite.stopSafe = true) ∧ (w_recRestoreWrite.judge 0x3F 0x40800110 true = .ok) ∧ (w_recRestoreWrite.bit REC_STATUS_RESTORE_OPEN = true) ∧ (w_recRestoreWrite.evr.restoreHours = some 3600) ∧ (3600 < 2 ^ 32) ∧ (w_recRestoreWrite.get REC_AON_MS_PCC ≤ 7 + 1)) ∧ (match exec (.recRestoreWrite 0x3F 7) w_recRestoreWrite with
    | .next t => decide ((Reads t [(REC_AON_OH_SECONDS, 3600), (REC_AON_SUB_MS, 0), (REC_AON_MS_PCC, min (7 + 1) 0xFFFFFF), (REC_STATUS_RESTORE_OPEN, 0)]) ∧ (t.pwr = { w_recRestoreWrite.pwr with aonCycles := 0, dayFrom := 3600 }) ∧ (t.evr = { w_recRestoreWrite.evr with restoreHours := none, queue := t.evr.queue }) ∧ ((w_recRestoreWrite.rst.held.contains .sys ∨ (t.evr.queue.map (fun (y : Rec) => (y.ev.code, y.ohSec)) = (0x0A02, 3600) :: w_recRestoreWrite.evr.queue.map (fun (y : Rec) => (y.ev.code, y.ohSec))))))
    | _ => false) = true := by decide +kernel

def w_recRestoreWrite_closed : State := wRun [(REC_STATUS_RESTORE_OPEN, 0)]

theorem test_recRestoreWrite_closed : ((w_recRestoreWrite_closed.stopSafe = true) ∧ (MayWrite w_recRestoreWrite_closed 0x3F 0x40800110) ∧ (0x3F ≠ 0x3F ∨ w_recRestoreWrite_closed.bit REC_STATUS_RESTORE_OPEN = false ∨ (w_recRestoreWrite_closed.evr.restoreHours = none ∧ 7 < w_recRestoreWrite_closed.get REC_AON_OH_SECONDS) ∨ (w_recRestoreWrite_closed.evr.restoreHours.isSome = true ∧ 7 + 1 < w_recRestoreWrite_closed.get REC_AON_MS_PCC))) ∧ (match exec (.recRestoreWrite 0x3F 7) w_recRestoreWrite_closed with
    | .next t => decide ((t = w_recRestoreWrite_closed))
    | _ => false) = true := by decide +kernel

def w_recCursorStep : State := wRun [(REC_CURSOR_RING 0x1F, 1), (REC_CURSOR_INDEX 0x1F, 255)]

theorem test_recCursorStep : ((w_recCursorStep.stopSafe = true) ∧ (MayWrite w_recCursorStep 0x1F 0x40800020)) ∧ (match exec (.recCursorStep 0x1F) w_recCursorStep with
    | .next t => decide ((Reads t [(REC_CURSOR_INDEX 0x1F, (w_recCursorStep.get (REC_CURSOR_INDEX 0x1F) + 1) % (if w_recCursorStep.bit (REC_CURSOR_RING 0x1F) then 256 else 32768))]))
    | _ => false) = true := by decide +kernel

def w_recRead : State := { wSess with regs := (wSess.puts [(REC_LAST_SEQ_SEQ, 9), (REC_WRAP_WRAP, 1)]).regs, evr := { State.reset.evr with main := [(0, { seq := 9, wrap := 1 }), (1, { seq := 6, wrap := 0 })], reserve := [(0, { seq := 7, wrap := 1 })] } }

theorem test_recRead : ((w_recRead.stopSafe = true) ∧ (w_recRead.accepts 0x0A00 3 9 false = true) ∧ (5 < 2 ^ 32) ∧ (1 ≤ 2 ∧ 2 ≤ 21)) ∧ (match exec (.recRead 3 9 ((leBytes 4 5 ++ [2, 0, 0, 0])) none) w_recRead with
    | .next t => decide ((answers w_recRead t [] 0x0A00 3 9 Ecp.OK (crc32c (leBytes 4 5 ++ [2, 0, 0, 0])) (w_recRead.recReadBytes 5 2) = true))
    | _ => false) = true := by decide +kernel

theorem test_recRead_bad : ((wSess.stopSafe = true) ∧ (wSess.accepts 0x0A00 3 9 false = true) ∧ (5 < 2 ^ 32) ∧ (22 < 256) ∧ (22 = 0 ∨ 21 < 22)) ∧ (match exec (.recRead 3 9 ((leBytes 4 5 ++ [22, 0, 0, 0])) (some (false, 1, 3) : Option (Bool × Nat × Nat))) wSess with
    | .next t => decide ((answers wSess t [] 0x0A00 3 9 Ecp.BAD_PARAM (crc32c (leBytes 4 5 ++ [22, 0, 0, 0])) [] = true))
    | _ => false) = true := by decide +kernel

def w_recRead_error : State := { wSess with regs := (wSess.puts [(PD_STATUS_ON, 0x3FF), (ROOK_STATE_STOP, 0), (REC_LAST_SEQ_SEQ, 9)]).regs, rst := { State.reset.rst with held := [], asserted := [] }, evr := { State.reset.evr with main := [(0, { seq := 9 }), (1, { seq := 6 })], reserve := [(1, { seq := 7 })] } }

theorem test_recRead_error : ((w_recRead_error.stopSafe = true) ∧ (w_recRead_error.accepts 0x0A00 3 9 false = true) ∧ (5 < 2 ^ 32) ∧ (1 ≤ 2 ∧ 2 ≤ 21) ∧ ((State.ringError ({ wSess with regs := (wSess.puts [(PD_STATUS_ON, 0x3FF), (ROOK_STATE_STOP, 0), (REC_LAST_SEQ_SEQ, 9)]).regs, rst := { State.reset.rst with held := [], asserted := [] }, evr := { State.reset.evr with main := [(0, { seq := 9 }), (1, { seq := 6 })], reserve := [(1, { seq := 7 })] } } : State) false 1 3 : State) = State.ringError w_recRead_error false 1 3) ∧ ((State.ringError ({ wSess with regs := (wSess.puts [(PD_STATUS_ON, 0x3FF), (ROOK_STATE_STOP, 0), (REC_LAST_SEQ_SEQ, 9)]).regs, rst := { State.reset.rst with held := [], asserted := [] }, evr := { State.reset.evr with main := [(0, { seq := 9 }), (1, { seq := 6 })], reserve := [(1, { seq := 7 })] } } : State) false 1 3 : State).room 3 = true) ∧ (false = false) ∧ (3 ≤ 3) ∧ (w_recRead_error.bit REC_STATUS_MAIN_FAULT = false) ∧ (w_recRead_error.bit REC_STATUS_RES_FAULT = false) ∧ (w_recRead_error.rookHeld = false) ∧ (w_recRead_error.bit ROOK_FAULT_LOG_MEDIA = false)) ∧ (match exec (.recRead 3 9 ((leBytes 4 5 ++ [2, 0, 0, 0])) (some (false, 1, 3))) w_recRead_error with
    | .next t => decide ((answers (State.ringError ({ wSess with regs := (wSess.puts [(PD_STATUS_ON, 0x3FF), (ROOK_STATE_STOP, 0), (REC_LAST_SEQ_SEQ, 9)]).regs, rst := { State.reset.rst with held := [], asserted := [] }, evr := { State.reset.evr with main := [(0, { seq := 9 }), (1, { seq := 6 })], reserve := [(1, { seq := 7 })] } } : State) false 1 3 : State) t [] 0x0A00 3 9 Ecp.OK (crc32c (leBytes 4 5 ++ [2, 0, 0, 0])) ((State.ringError ({ wSess with regs := (wSess.puts [(PD_STATUS_ON, 0x3FF), (ROOK_STATE_STOP, 0), (REC_LAST_SEQ_SEQ, 9)]).regs, rst := { State.reset.rst with held := [], asserted := [] }, evr := { State.reset.evr with main := [(0, { seq := 9 }), (1, { seq := 6 })], reserve := [(1, { seq := 7 })] } } : State) false 1 3 : State).recReadBytes 5 2) = true) ∧ (StopOn 4 w_recRead_error t) ∧ (Reads t [(REC_STATUS_MAIN_FAULT, 1), (ROOK_FAULT_LOG_MEDIA, 1)]) ∧ (t.evr.main = w_recRead_error.evr.main.filter (fun (x : Nat × Rec) => x.1 ≠ 1)))
    | _ => false) = true := by decide +kernel

def w_recRead_reserve : State := { wSess with regs := (wSess.puts [(PD_STATUS_ON, 0x3FF), (ROOK_STATE_STOP, 0), (REC_LAST_SEQ_SEQ, 9)]).regs, rst := { State.reset.rst with held := [], asserted := [] }, evr := { State.reset.evr with main := [(0, { seq := 9 }), (1, { seq := 6 })], reserve := [(1, { seq := 7 })] } }

theorem test_recRead_reserve : ((w_recRead_reserve.stopSafe = true) ∧ (w_recRead_reserve.accepts 0x0A00 3 9 false = true) ∧ (5 < 2 ^ 32) ∧ (1 ≤ 2 ∧ 2 ≤ 21) ∧ ((State.ringError ({ wSess with regs := (wSess.puts [(PD_STATUS_ON, 0x3FF), (ROOK_STATE_STOP, 0), (REC_LAST_SEQ_SEQ, 9)]).regs, rst := { State.reset.rst with held := [], asserted := [] }, evr := { State.reset.evr with main := [(0, { seq := 9 }), (1, { seq := 6 })], reserve := [(1, { seq := 7 })] } } : State) true 1 3 : State) = State.ringError w_recRead_reserve true 1 3) ∧ ((State.ringError ({ wSess with regs := (wSess.puts [(PD_STATUS_ON, 0x3FF), (ROOK_STATE_STOP, 0), (REC_LAST_SEQ_SEQ, 9)]).regs, rst := { State.reset.rst with held := [], asserted := [] }, evr := { State.reset.evr with main := [(0, { seq := 9 }), (1, { seq := 6 })], reserve := [(1, { seq := 7 })] } } : State) true 1 3 : State).room 3 = true) ∧ (true = true) ∧ (3 ≤ 3)) ∧ (match exec (.recRead 3 9 ((leBytes 4 5 ++ [2, 0, 0, 0])) (some (true, 1, 3))) w_recRead_reserve with
    | .next t => decide ((answers (State.ringError ({ wSess with regs := (wSess.puts [(PD_STATUS_ON, 0x3FF), (ROOK_STATE_STOP, 0), (REC_LAST_SEQ_SEQ, 9)]).regs, rst := { State.reset.rst with held := [], asserted := [] }, evr := { State.reset.evr with main := [(0, { seq := 9 }), (1, { seq := 6 })], reserve := [(1, { seq := 7 })] } } : State) true 1 3 : State) t [] 0x0A00 3 9 Ecp.OK (crc32c (leBytes 4 5 ++ [2, 0, 0, 0])) ((State.ringError ({ wSess with regs := (wSess.puts [(PD_STATUS_ON, 0x3FF), (ROOK_STATE_STOP, 0), (REC_LAST_SEQ_SEQ, 9)]).regs, rst := { State.reset.rst with held := [], asserted := [] }, evr := { State.reset.evr with main := [(0, { seq := 9 }), (1, { seq := 6 })], reserve := [(1, { seq := 7 })] } } : State) true 1 3 : State).recReadBytes 5 2) = true) ∧ (Reads t [(REC_STATUS_RES_FAULT, 1)]) ∧ (t.evr = { w_recRead_reserve.evr with reserve := w_recRead_reserve.evr.reserve.filter (fun (x : Nat × Rec) => x.1 ≠ 1) }))
    | _ => false) = true := by decide +kernel

def w_recRead_corrected : State := { wSess with regs := (wSess.puts [(PD_STATUS_ON, 0x3FF), (ROOK_STATE_STOP, 0), (REC_LAST_SEQ_SEQ, 9)]).regs, rst := { State.reset.rst with held := [], asserted := [] }, evr := { State.reset.evr with main := [(0, { seq := 9 }), (1, { seq := 6 })], reserve := [(1, { seq := 7 })] } }

theorem test_recRead_corrected : ((w_recRead_corrected.stopSafe = true) ∧ (w_recRead_corrected.accepts 0x0A00 3 9 false = true) ∧ (5 < 2 ^ 32) ∧ (1 ≤ 2 ∧ 2 ≤ 21) ∧ ((State.ringError ({ wSess with regs := (wSess.puts [(PD_STATUS_ON, 0x3FF), (ROOK_STATE_STOP, 0), (REC_LAST_SEQ_SEQ, 9)]).regs, rst := { State.reset.rst with held := [], asserted := [] }, evr := { State.reset.evr with main := [(0, { seq := 9 }), (1, { seq := 6 })], reserve := [(1, { seq := 7 })] } } : State) false 1 2 : State) = State.ringError w_recRead_corrected false 1 2) ∧ ((State.ringError ({ wSess with regs := (wSess.puts [(PD_STATUS_ON, 0x3FF), (ROOK_STATE_STOP, 0), (REC_LAST_SEQ_SEQ, 9)]).regs, rst := { State.reset.rst with held := [], asserted := [] }, evr := { State.reset.evr with main := [(0, { seq := 9 }), (1, { seq := 6 })], reserve := [(1, { seq := 7 })] } } : State) false 1 2 : State).room 3 = true) ∧ (2 ≤ 2)) ∧ (match exec (.recRead 3 9 ((leBytes 4 5 ++ [2, 0, 0, 0])) (some (false, 1, 2))) w_recRead_corrected with
    | .next t => decide ((answers (State.ringError ({ wSess with regs := (wSess.puts [(PD_STATUS_ON, 0x3FF), (ROOK_STATE_STOP, 0), (REC_LAST_SEQ_SEQ, 9)]).regs, rst := { State.reset.rst with held := [], asserted := [] }, evr := { State.reset.evr with main := [(0, { seq := 9 }), (1, { seq := 6 })], reserve := [(1, { seq := 7 })] } } : State) false 1 2 : State) t [] 0x0A00 3 9 Ecp.OK (crc32c (leBytes 4 5 ++ [2, 0, 0, 0])) ((State.ringError ({ wSess with regs := (wSess.puts [(PD_STATUS_ON, 0x3FF), (ROOK_STATE_STOP, 0), (REC_LAST_SEQ_SEQ, 9)]).regs, rst := { State.reset.rst with held := [], asserted := [] }, evr := { State.reset.evr with main := [(0, { seq := 9 }), (1, { seq := 6 })], reserve := [(1, { seq := 7 })] } } : State) false 1 2 : State).recReadBytes 5 2) = true) ∧ (Reads t [(REC_CNT_CE_COUNT, if 2 = 0 then w_recRead_corrected.get REC_CNT_CE_COUNT else w_recRead_corrected.adv REC_CNT_CE_COUNT)]))
    | _ => false) = true := by decide +kernel

def w_recRead_any : State := { wSess with regs := (wSess.puts [(PD_STATUS_ON, 0x3FF), (ROOK_STATE_STOP, 0), (REC_LAST_SEQ_SEQ, 9)]).regs, rst := { State.reset.rst with held := [], asserted := [] }, evr := { State.reset.evr with main := [(0, { seq := 9 }), (1, { seq := 6 })], reserve := [(1, { seq := 7 })] } }

theorem test_recRead_any : ((w_recRead_any.stopSafe = true) ∧ (w_recRead_any.accepts 0x0A00 3 9 false = true) ∧ (5 < 2 ^ 32) ∧ (1 ≤ 2 ∧ 2 ≤ 21) ∧ ((State.ringError ({ wSess with regs := (wSess.puts [(PD_STATUS_ON, 0x3FF), (ROOK_STATE_STOP, 0), (REC_LAST_SEQ_SEQ, 9)]).regs, rst := { State.reset.rst with held := [], asserted := [] }, evr := { State.reset.evr with main := [(0, { seq := 9 }), (1, { seq := 6 })], reserve := [(1, { seq := 7 })] } } : State) false 1 7 : State) = State.ringError w_recRead_any false 1 7) ∧ ((State.ringError ({ wSess with regs := (wSess.puts [(PD_STATUS_ON, 0x3FF), (ROOK_STATE_STOP, 0), (REC_LAST_SEQ_SEQ, 9)]).regs, rst := { State.reset.rst with held := [], asserted := [] }, evr := { State.reset.evr with main := [(0, { seq := 9 }), (1, { seq := 6 })], reserve := [(1, { seq := 7 })] } } : State) false 1 7 : State).room 3 = true)) ∧ (match exec (.recRead 3 9 ((leBytes 4 5 ++ [2, 0, 0, 0])) (some (false, 1, 7))) w_recRead_any with
    | .next t => decide ((answers (State.ringError ({ wSess with regs := (wSess.puts [(PD_STATUS_ON, 0x3FF), (ROOK_STATE_STOP, 0), (REC_LAST_SEQ_SEQ, 9)]).regs, rst := { State.reset.rst with held := [], asserted := [] }, evr := { State.reset.evr with main := [(0, { seq := 9 }), (1, { seq := 6 })], reserve := [(1, { seq := 7 })] } } : State) false 1 7 : State) t [] 0x0A00 3 9 Ecp.OK (crc32c (leBytes 4 5 ++ [2, 0, 0, 0])) ((State.ringError ({ wSess with regs := (wSess.puts [(PD_STATUS_ON, 0x3FF), (ROOK_STATE_STOP, 0), (REC_LAST_SEQ_SEQ, 9)]).regs, rst := { State.reset.rst with held := [], asserted := [] }, evr := { State.reset.evr with main := [(0, { seq := 9 }), (1, { seq := 6 })], reserve := [(1, { seq := 7 })] } } : State) false 1 7 : State).recReadBytes 5 2) = true))
    | _ => false) = true := by decide +kernel

theorem test_recStatus : ((wSess.stopSafe = true) ∧ (wSess.accepts 0x0A01 3 9 false = true)) ∧ (match exec (.recStatus 3 9) wSess with
    | .next t => decide ((answers wSess t [] 0x0A01 3 9 Ecp.OK (crc32c []) (leBytes 4 wSess.recStatusWord ++ leBytes 4 (wSess.get REC_HEAD_INDEX) ++ leBytes 4 (wSess.get REC_AON_LOST_LOST_EVENTS) ++ leBytes 4 (wSess.get REC_CNT_QUEUE_DROP)) = true) ∧ (wSess.recStatusWord = wSess.get REC_STATUS_MAIN_FAULT * 2 ^ 31 + wSess.get REC_STATUS_RES_FAULT * 2 ^ 30 + wSess.get REC_STATUS_RETESTING * 2 ^ 29 + wSess.get REC_STATUS_RESTORE_OPEN * 2 ^ 28 + wSess.get REC_STATUS_RES_USED))
    | _ => false) = true := by decide +kernel

def w_mpCopyReceive : State := { wRun [(ECP_CTRL_AUTH_REQ, 0), (MET_SESSION_SESSION, 0x101), (MET_STATUS_SEAL_OPEN, 1)] with ply := 500, mp := { running := true, image := [1, 2, 3], sealSince := some 490, wire := [(3, .cut [{ addr := 9 }])], dropping := true }, ecp := { State.reset.ecp with sessions := [{ id := 3, port := 1, ip := 0x0A000001, udp := 5000, devSeq := 7 }] } }

theorem test_mpCopyReceive : ((w_mpCopyReceive.stopSafe = true) ∧ (w_mpCopyReceive.mpDown = false) ∧ (w_mpCopyReceive.mp.wire = (3, .cut ([{ addr := 9 }] : List SolRec)) :: ([] : List (Nat × MpItem))) ∧ (w_mpCopyReceive.mpCuts < 8)) ∧ (match exec (.mpCopyReceive) w_mpCopyReceive with
    | .next t => decide ((t.mp = { w_mpCopyReceive.mp with wire := ([] : List (Nat × MpItem)), buf := w_mpCopyReceive.mp.buf ++ [.cut ([{ addr := 9 }] : List SolRec)], dropping := false }))
    | _ => false) = true := by decide +kernel

def w_mpCopyReceive_drop : State := { wRun [(ECP_CTRL_AUTH_REQ, 0), (MET_SESSION_SESSION, 0x101), (MET_STATUS_SEAL_OPEN, 1)] with ply := 500, mp := { running := true, image := [1, 2, 3], sealSince := some 490, wire := [(3, .cut [{ addr := 9 }, { addr := 8 }])], buf := List.replicate 8 (.cut []) }, ecp := { State.reset.ecp with sessions := [{ id := 3, port := 1, ip := 0x0A000001, udp := 5000, devSeq := 7 }] } }

theorem test_mpCopyReceive_drop : ((w_mpCopyReceive_drop.stopSafe = true) ∧ (w_mpCopyReceive_drop.mpDown = true ∨ 8 ≤ w_mpCopyReceive_drop.mpCuts) ∧ (w_mpCopyReceive_drop.mp.wire = (3, .cut ([{ addr := 9 }, { addr := 8 }] : List SolRec)) :: ([] : List (Nat × MpItem)))) ∧ (match exec (.mpCopyReceive) w_mpCopyReceive_drop with
    | .next t => decide ((t.mp = { w_mpCopyReceive_drop.mp with wire := ([] : List (Nat × MpItem)), dropping := true }) ∧ (Reads t [(MET_CNT_COPY_DROP, w_mpCopyReceive_drop.adv MET_CNT_COPY_DROP ([{ addr := 9 }, { addr := 8 }] : List SolRec).length)]))
    | _ => false) = true := by decide +kernel

def w_mpCopyReceive_event : State := { wRun [(ECP_CTRL_AUTH_REQ, 0), (MET_SESSION_SESSION, 0x101), (MET_STATUS_SEAL_OPEN, 1)] with ply := 500, mp := { running := true, image := [1, 2, 3], sealSince := some 490, wire := [(3, .act 9 [1, 2, 3, 4, 5, 6, 7, 8])] }, ecp := { State.reset.ecp with sessions := [{ id := 3, port := 1, ip := 0x0A000001, udp := 5000, devSeq := 7 }] } }

theorem test_mpCopyReceive_event : ((w_mpCopyReceive_event.stopSafe = true) ∧ (w_mpCopyReceive_event.mpDown = false) ∧ (w_mpCopyReceive_event.mp.wire = (3, .act 9 ([1, 2, 3, 4, 5, 6, 7, 8] : List Nat)) :: ([] : List (Nat × MpItem))) ∧ (w_mpCopyReceive_event.mp.dropping = false)) ∧ (match exec (.mpCopyReceive) w_mpCopyReceive_event with
    | .next t => decide ((t.mp = { w_mpCopyReceive_event.mp with wire := ([] : List (Nat × MpItem)), buf := w_mpCopyReceive_event.mp.buf ++ [.act 9 ([1, 2, 3, 4, 5, 6, 7, 8] : List Nat)] }))
    | _ => false) = true := by decide +kernel

def w_mpCopyReceive_release : State := { wRun [(ECP_CTRL_AUTH_REQ, 0), (MET_SESSION_SESSION, 0x101), (MET_STATUS_SEAL_OPEN, 1)] with ply := 500, mp := { running := true, image := [1, 2, 3], sealSince := some 490, wire := [(3, .rel 9 [1, 2, 3, 4, 5, 6, 7, 8])] }, ecp := { State.reset.ecp with sessions := [{ id := 3, port := 1, ip := 0x0A000001, udp := 5000, devSeq := 7 }] } }

theorem test_mpCopyReceive_release : ((w_mpCopyReceive_release.stopSafe = true) ∧ (w_mpCopyReceive_release.mpDown = false) ∧ (w_mpCopyReceive_release.mp.wire = (3, .rel 9 ([1, 2, 3, 4, 5, 6, 7, 8] : List Nat)) :: ([] : List (Nat × MpItem))) ∧ (w_mpCopyReceive_release.mp.dropping = false)) ∧ (match exec (.mpCopyReceive) w_mpCopyReceive_release with
    | .next t => decide ((t.mp = { w_mpCopyReceive_release.mp with wire := ([] : List (Nat × MpItem)), buf := w_mpCopyReceive_release.mp.buf ++ [.rel 9 ([1, 2, 3, 4, 5, 6, 7, 8] : List Nat)] }))
    | _ => false) = true := by decide +kernel

def w_mpCopyReceive_eventDrop : State := { wRun [(ECP_CTRL_AUTH_REQ, 0), (MET_SESSION_SESSION, 0x101), (MET_STATUS_SEAL_OPEN, 1)] with ply := 500, mp := { running := true, image := [1, 2, 3], sealSince := some 490, wire := [(3, .rel 9 [1, 2, 3, 4, 5, 6, 7, 8])], dropping := true }, ecp := { State.reset.ecp with sessions := [{ id := 3, port := 1, ip := 0x0A000001, udp := 5000, devSeq := 7 }] } }

theorem test_mpCopyReceive_eventDrop : ((w_mpCopyReceive_eventDrop.stopSafe = true) ∧ (w_mpCopyReceive_eventDrop.mpDown = true ∨ w_mpCopyReceive_eventDrop.mp.dropping = true) ∧ (w_mpCopyReceive_eventDrop.mp.wire = (3, (.rel 9 [1, 2, 3, 4, 5, 6, 7, 8] : MpItem)) :: ([] : List (Nat × MpItem))) ∧ ((match (.rel 9 [1, 2, 3, 4, 5, 6, 7, 8] : MpItem) with | .cut _ => false | _ => true) = true)) ∧ (match exec (.mpCopyReceive) w_mpCopyReceive_eventDrop with
    | .next t => decide ((t.mp = { w_mpCopyReceive_eventDrop.mp with wire := ([] : List (Nat × MpItem)) }))
    | _ => false) = true := by decide +kernel

def w_mpCopyReceive_none : State := { wRun [(ECP_CTRL_AUTH_REQ, 0), (MET_SESSION_SESSION, 0x101), (MET_STATUS_SEAL_OPEN, 1)] with ply := 500, mp := { running := true, image := [1, 2, 3], sealSince := some 490 }, ecp := { State.reset.ecp with sessions := [{ id := 3, port := 1, ip := 0x0A000001, udp := 5000, devSeq := 7 }] } }

theorem test_mpCopyReceive_none : ((w_mpCopyReceive_none.stopSafe = true) ∧ (w_mpCopyReceive_none.mp.wire = [])) ∧ (match exec (.mpCopyReceive) w_mpCopyReceive_none with
    | .next t => decide ((t = w_mpCopyReceive_none))
    | _ => false) = true := by decide +kernel

def w_mpAddressEvent_known : State := { wRun [(ECP_CTRL_AUTH_REQ, 0), (MET_SESSION_SESSION, 0x101), (MET_STATUS_SEAL_OPEN, 1)] with ply := 500, mp := { running := true, image := [1, 2, 3], sealSince := some 490, buf := [.act 8 [1, 2, 3, 4, 5, 6, 7, 8]], accts := [{ eui := [1, 2, 3, 4, 5, 6, 7, 8], dist := 5, last := some (604801000, 0, 0) }] }, ecp := { State.reset.ecp with sessions := [{ id := 3, port := 1, ip := 0x0A000001, udp := 5000, devSeq := 7 }] } }

theorem test_mpAddressEvent_known : ((w_mpAddressEvent_known.stopSafe = true) ∧ (w_mpAddressEvent_known.mpDown = false) ∧ (w_mpAddressEvent_known.mp.buf = .act 8 ([1, 2, 3, 4, 5, 6, 7, 8] : List Nat) :: ([] : List MpItem)) ∧ ((w_mpAddressEvent_known.acctOf ([1, 2, 3, 4, 5, 6, 7, 8] : List Nat)).isSome = true)) ∧ (match exec (.mpAddressEvent) w_mpAddressEvent_known with
    | .next t => decide ((t.mp = { w_mpAddressEvent_known.mp with buf := ([] : List MpItem), map := w_mpAddressEvent_known.mp.map.filter (fun (e : Nat × List Nat) => e.1 ≠ 8) ++ [(8, ([1, 2, 3, 4, 5, 6, 7, 8] : List Nat))] }))
    | _ => false) = true := by decide +kernel

def w_mpAddressEvent_none : State := { wRun [(ECP_CTRL_AUTH_REQ, 0), (MET_SESSION_SESSION, 0x101), (MET_STATUS_SEAL_OPEN, 1)] with ply := 500, mp := { running := true, image := [1, 2, 3], sealSince := some 490, buf := [.cut []] }, ecp := { State.reset.ecp with sessions := [{ id := 3, port := 1, ip := 0x0A000001, udp := 5000, devSeq := 7 }] } }

theorem test_mpAddressEvent_none : ((w_mpAddressEvent_none.stopSafe = true) ∧ (w_mpAddressEvent_none.mpDown = true ∨ (match w_mpAddressEvent_none.mp.buf with | .act _ _ :: _ => false | .rel _ _ :: _ => false | _ => true) = true)) ∧ (match exec (.mpAddressEvent) w_mpAddressEvent_none with
    | .next t => decide ((t = w_mpAddressEvent_none))
    | _ => false) = true := by decide +kernel

def w_mpAddressEvent : State := { wRun [(ECP_CTRL_AUTH_REQ, 0), (MET_SESSION_SESSION, 0x101), (MET_STATUS_SEAL_OPEN, 1)] with ply := 500, mp := { running := true, image := [1, 2, 3], sealSince := some 490, buf := [.act 9 [1, 2, 3, 4, 5, 6, 7, 8], .rel 9 [1, 2, 3, 4, 5, 6, 7, 8]], map := [(9, [1])] }, ecp := { State.reset.ecp with sessions := [{ id := 3, port := 1, ip := 0x0A000001, udp := 5000, devSeq := 7 }] } }

theorem test_mpAddressEvent : ((w_mpAddressEvent.stopSafe = true) ∧ (w_mpAddressEvent.mpDown = false) ∧ (w_mpAddressEvent.mp.buf = .act 9 ([1, 2, 3, 4, 5, 6, 7, 8] : List Nat) :: ([.rel 9 [1, 2, 3, 4, 5, 6, 7, 8]] : List MpItem)) ∧ (w_mpAddressEvent.acctOf ([1, 2, 3, 4, 5, 6, 7, 8] : List Nat) = none) ∧ (w_mpAddressEvent.mp.accts.length < 1024)) ∧ (match exec (.mpAddressEvent) w_mpAddressEvent with
    | .next t => decide ((t.mp = { w_mpAddressEvent.mp with buf := ([.rel 9 [1, 2, 3, 4, 5, 6, 7, 8]] : List MpItem), map := w_mpAddressEvent.mp.map.filter (fun (e : Nat × List Nat) => e.1 ≠ 9) ++ [(9, ([1, 2, 3, 4, 5, 6, 7, 8] : List Nat))], accts := w_mpAddressEvent.mp.accts ++ [{ eui := ([1, 2, 3, 4, 5, 6, 7, 8] : List Nat) }] }) ∧ (Reads t [(MET_STATUS2_ACCOUNTS, w_mpAddressEvent.mp.accts.length + 1)]))
    | _ => false) = true := by decide +kernel

def w_mpAddressEvent_full : State := { wRun [(ECP_CTRL_AUTH_REQ, 0), (MET_SESSION_SESSION, 0x101), (MET_STATUS_SEAL_OPEN, 1)] with ply := 500, mp := { running := true, image := [1, 2, 3], sealSince := some 490, buf := [.act 9 [1, 2, 3, 4, 5, 6, 7, 8]], accts := List.replicate 1024 { eui := [7] } }, ecp := { State.reset.ecp with sessions := [{ id := 3, port := 1, ip := 0x0A000001, udp := 5000, devSeq := 7 }] } }

theorem test_mpAddressEvent_full : ((w_mpAddressEvent_full.stopSafe = true) ∧ (w_mpAddressEvent_full.mpDown = false) ∧ (w_mpAddressEvent_full.mp.buf = .act 9 ([1, 2, 3, 4, 5, 6, 7, 8] : List Nat) :: ([] : List MpItem)) ∧ (w_mpAddressEvent_full.acctOf ([1, 2, 3, 4, 5, 6, 7, 8] : List Nat) = none) ∧ (1024 ≤ w_mpAddressEvent_full.mp.accts.length)) ∧ (match exec (.mpAddressEvent) w_mpAddressEvent_full with
    | .next t => decide ((t.mp = { w_mpAddressEvent_full.mp with buf := ([] : List MpItem), map := w_mpAddressEvent_full.mp.map.filter (fun (e : Nat × List Nat) => e.1 ≠ 9) ++ [(9, ([1, 2, 3, 4, 5, 6, 7, 8] : List Nat))] }) ∧ (Reads t [(MET_STATUS_ACCT_FULL, 1)]))
    | _ => false) = true := by decide +kernel

def w_mpAddressEvent_release : State := { wRun [(ECP_CTRL_AUTH_REQ, 0), (MET_SESSION_SESSION, 0x101), (MET_STATUS_SEAL_OPEN, 1)] with ply := 500, mp := { running := true, image := [1, 2, 3], sealSince := some 490, buf := [.rel 9 [1, 2, 3, 4, 5, 6, 7, 8]], map := [(9, [1, 2, 3, 4, 5, 6, 7, 8]), (8, [1])] }, ecp := { State.reset.ecp with sessions := [{ id := 3, port := 1, ip := 0x0A000001, udp := 5000, devSeq := 7 }] } }

theorem test_mpAddressEvent_release : ((w_mpAddressEvent_release.stopSafe = true) ∧ (w_mpAddressEvent_release.mpDown = false) ∧ (w_mpAddressEvent_release.mp.buf = .rel 9 ([1, 2, 3, 4, 5, 6, 7, 8] : List Nat) :: ([] : List MpItem))) ∧ (match exec (.mpAddressEvent) w_mpAddressEvent_release with
    | .next t => decide ((t.mp = { w_mpAddressEvent_release.mp with buf := ([] : List MpItem), map := w_mpAddressEvent_release.mp.map.filter (fun (e : Nat × List Nat) => e.1 ≠ 9) }))
    | _ => false) = true := by decide +kernel

def w_mpProcessCutoff : State := { wRun [(ECP_CTRL_AUTH_REQ, 0), (MET_SESSION_SESSION, 0x101), (MET_STATUS_SEAL_OPEN, 1)] with ply := 500, mp := { running := true, image := [1, 2, 3], sealSince := some 490, buf := [.cut [{ addr := 9, status := 4, flags := 0, ms := 1100, week := 1, pos := { e := 3, n := 4, sdH := 10 } }, { addr := 9, status := 4, flags := 0, ms := 1200, week := 1, pos := { e := 9, n := 12, sdH := 10 } }]], accts := [{ eui := [1, 2, 3, 4, 5, 6, 7, 8], dist := 5, last := some (604801000, 0, 0) }], map := [(9, [1, 2, 3, 4, 5, 6, 7, 8])] }, ecp := { State.reset.ecp with sessions := [{ id := 3, port := 1, ip := 0x0A000001, udp := 5000, devSeq := 7 }] } }

theorem test_mpProcessCutoff : ((w_mpProcessCutoff.stopSafe = true) ∧ (w_mpProcessCutoff.mpDown = false) ∧ (w_mpProcessCutoff.mp.buf = .cut ([{ addr := 9, status := 4, flags := 0, ms := 1100, week := 1, pos := { e := 3, n := 4, sdH := 10 } }, { addr := 9, status := 4, flags := 0, ms := 1200, week := 1, pos := { e := 9, n := 12, sdH := 10 } }] : List SolRec) :: ([] : List MpItem)) ∧ (w_mpProcessCutoff.bit MET_STATUS_IMAGE_MISMATCH = false)) ∧ (match exec (.mpProcessCutoff) w_mpProcessCutoff with
    | .next t => decide ((t = ([{ addr := 9, status := 4, flags := 0, ms := 1100, week := 1, pos := { e := 3, n := 4, sdH := 10 } }, { addr := 9, status := 4, flags := 0, ms := 1200, week := 1, pos := { e := 9, n := 12, sdH := 10 } }] : List SolRec).foldl State.mpRecord { w_mpProcessCutoff with mp := { w_mpProcessCutoff.mp with buf := ([] : List MpItem) } }))
    | _ => false) = true := by decide +kernel

def w_mpProcessCutoff_working : State := { wRun [(ECP_CTRL_AUTH_REQ, 0), (MET_SESSION_SESSION, 0x101), (MET_STATUS_SEAL_OPEN, 1)] with ply := 500, mp := { running := true, image := [1, 2, 3], sealSince := some 490, buf := [.cut [{ addr := 9, status := 4, flags := 0, ms := 1100, week := 1, pos := { e := 30, n := 40, sdH := 10 } }]], accts := [{ eui := [1, 2, 3, 4, 5, 6, 7, 8], dist := 5, last := some (604801000, 0, 0) }], map := [(9, [1, 2, 3, 4, 5, 6, 7, 8])] }, ecp := { State.reset.ecp with sessions := [{ id := 3, port := 1, ip := 0x0A000001, udp := 5000, devSeq := 7 }] } }

theorem test_mpProcessCutoff_working : ((w_mpProcessCutoff_working.stopSafe = true) ∧ (w_mpProcessCutoff_working.mpDown = false) ∧ (w_mpProcessCutoff_working.mp.buf = .cut [({ addr := 9, status := 4, flags := 0, ms := 1100, week := 1, pos := { e := 30, n := 40, sdH := 10 } } : SolRec)] :: ([] : List MpItem)) ∧ (w_mpProcessCutoff_working.bit MET_STATUS_IMAGE_MISMATCH = false) ∧ (w_mpProcessCutoff_working.mp.map.find? (fun (z : Nat × List Nat) => z.1 == ({ addr := 9, status := 4, flags := 0, ms := 1100, week := 1, pos := { e := 30, n := 40, sdH := 10 } } : SolRec).addr) = some (({ addr := 9, status := 4, flags := 0, ms := 1100, week := 1, pos := { e := 30, n := 40, sdH := 10 } } : SolRec).addr, ([1, 2, 3, 4, 5, 6, 7, 8] : List Nat))) ∧ (w_mpProcessCutoff_working.acctOf ([1, 2, 3, 4, 5, 6, 7, 8] : List Nat) = some ({ eui := [1, 2, 3, 4, 5, 6, 7, 8], dist := 5, last := some (604801000, 0, 0) } : MpAcct)) ∧ ((({ addr := 9, status := 4, flags := 0, ms := 1100, week := 1, pos := { e := 30, n := 40, sdH := 10 } } : SolRec).status = 4 ∨ (({ addr := 9, status := 4, flags := 0, ms := 1100, week := 1, pos := { e := 30, n := 40, sdH := 10 } } : SolRec).status = 3 ∧ w_mpProcessCutoff_working.param 4 [] = 1)) ∧ ({ addr := 9, status := 4, flags := 0, ms := 1100, week := 1, pos := { e := 30, n := 40, sdH := 10 } } : SolRec).pos.sdH ≤ w_mpProcessCutoff_working.param 5 [] ∧ ({ addr := 9, status := 4, flags := 0, ms := 1100, week := 1, pos := { e := 30, n := 40, sdH := 10 } } : SolRec).flags &&& 59 = 0) ∧ (w_mpProcessCutoff_working.mp.accts.all (fun b => b.eui != ([1, 2, 3, 4, 5, 6, 7, 8] : List Nat) || b == ({ eui := [1, 2, 3, 4, 5, 6, 7, 8], dist := 5, last := some (604801000, 0, 0) } : MpAcct)) = true) ∧ (({ eui := [1, 2, 3, 4, 5, 6, 7, 8], dist := 5, last := some (604801000, 0, 0) } : MpAcct).last = some (604801000, 0, 0)) ∧ (604801000 < (({ addr := 9, status := 4, flags := 0, ms := 1100, week := 1, pos := { e := 30, n := 40, sdH := 10 } } : SolRec).week * 604800000 + ({ addr := 9, status := 4, flags := 0, ms := 1100, week := 1, pos := { e := 30, n := 40, sdH := 10 } } : SolRec).ms)) ∧ ((({ addr := 9, status := 4, flags := 0, ms := 1100, week := 1, pos := { e := 30, n := 40, sdH := 10 } } : SolRec).week * 604800000 + ({ addr := 9, status := 4, flags := 0, ms := 1100, week := 1, pos := { e := 30, n := 40, sdH := 10 } } : SolRec).ms) - 604801000 ≤ w_mpProcessCutoff_working.param 3 []) ∧ (w_mpProcessCutoff_working.param 2 [] * ((({ addr := 9, status := 4, flags := 0, ms := 1100, week := 1, pos := { e := 30, n := 40, sdH := 10 } } : SolRec).week * 604800000 + ({ addr := 9, status := 4, flags := 0, ms := 1100, week := 1, pos := { e := 30, n := 40, sdH := 10 } } : SolRec).ms) - 604801000) ≤ (isqrtNear ((({ addr := 9, status := 4, flags := 0, ms := 1100, week := 1, pos := { e := 30, n := 40, sdH := 10 } } : SolRec).pos.e - 0) * (({ addr := 9, status := 4, flags := 0, ms := 1100, week := 1, pos := { e := 30, n := 40, sdH := 10 } } : SolRec).pos.e - 0) + (({ addr := 9, status := 4, flags := 0, ms := 1100, week := 1, pos := { e := 30, n := 40, sdH := 10 } } : SolRec).pos.n - 0) * (({ addr := 9, status := 4, flags := 0, ms := 1100, week := 1, pos := { e := 30, n := 40, sdH := 10 } } : SolRec).pos.n - 0)).toNat) * 1000)) ∧ (match exec (.mpProcessCutoff) w_mpProcessCutoff_working with
    | .next t => decide ((t.acctOf ([1, 2, 3, 4, 5, 6, 7, 8] : List Nat) = some { ({ eui := [1, 2, 3, 4, 5, 6, 7, 8], dist := 5, last := some (604801000, 0, 0) } : MpAcct) with dist := min (({ eui := [1, 2, 3, 4, 5, 6, 7, 8], dist := 5, last := some (604801000, 0, 0) } : MpAcct).dist + (isqrtNear ((({ addr := 9, status := 4, flags := 0, ms := 1100, week := 1, pos := { e := 30, n := 40, sdH := 10 } } : SolRec).pos.e - 0) * (({ addr := 9, status := 4, flags := 0, ms := 1100, week := 1, pos := { e := 30, n := 40, sdH := 10 } } : SolRec).pos.e - 0) + (({ addr := 9, status := 4, flags := 0, ms := 1100, week := 1, pos := { e := 30, n := 40, sdH := 10 } } : SolRec).pos.n - 0) * (({ addr := 9, status := 4, flags := 0, ms := 1100, week := 1, pos := { e := 30, n := 40, sdH := 10 } } : SolRec).pos.n - 0)).toNat)) (2 ^ 64 - 1), workDist := min (({ eui := [1, 2, 3, 4, 5, 6, 7, 8], dist := 5, last := some (604801000, 0, 0) } : MpAcct).workDist + (isqrtNear ((({ addr := 9, status := 4, flags := 0, ms := 1100, week := 1, pos := { e := 30, n := 40, sdH := 10 } } : SolRec).pos.e - 0) * (({ addr := 9, status := 4, flags := 0, ms := 1100, week := 1, pos := { e := 30, n := 40, sdH := 10 } } : SolRec).pos.e - 0) + (({ addr := 9, status := 4, flags := 0, ms := 1100, week := 1, pos := { e := 30, n := 40, sdH := 10 } } : SolRec).pos.n - 0) * (({ addr := 9, status := 4, flags := 0, ms := 1100, week := 1, pos := { e := 30, n := 40, sdH := 10 } } : SolRec).pos.n - 0)).toNat)) (2 ^ 64 - 1), workMs := min (({ eui := [1, 2, 3, 4, 5, 6, 7, 8], dist := 5, last := some (604801000, 0, 0) } : MpAcct).workMs + ((({ addr := 9, status := 4, flags := 0, ms := 1100, week := 1, pos := { e := 30, n := 40, sdH := 10 } } : SolRec).week * 604800000 + ({ addr := 9, status := 4, flags := 0, ms := 1100, week := 1, pos := { e := 30, n := 40, sdH := 10 } } : SolRec).ms) - 604801000)) (2 ^ 64 - 1), area := min (({ eui := [1, 2, 3, 4, 5, 6, 7, 8], dist := 5, last := some (604801000, 0, 0) } : MpAcct).area + (isqrtNear ((({ addr := 9, status := 4, flags := 0, ms := 1100, week := 1, pos := { e := 30, n := 40, sdH := 10 } } : SolRec).pos.e - 0) * (({ addr := 9, status := 4, flags := 0, ms := 1100, week := 1, pos := { e := 30, n := 40, sdH := 10 } } : SolRec).pos.e - 0) + (({ addr := 9, status := 4, flags := 0, ms := 1100, week := 1, pos := { e := 30, n := 40, sdH := 10 } } : SolRec).pos.n - 0) * (({ addr := 9, status := 4, flags := 0, ms := 1100, week := 1, pos := { e := 30, n := 40, sdH := 10 } } : SolRec).pos.n - 0)).toNat) * w_mpProcessCutoff_working.param 1 ([1, 2, 3, 4, 5, 6, 7, 8] : List Nat)) (2 ^ 64 - 1), last := some ((({ addr := 9, status := 4, flags := 0, ms := 1100, week := 1, pos := { e := 30, n := 40, sdH := 10 } } : SolRec).week * 604800000 + ({ addr := 9, status := 4, flags := 0, ms := 1100, week := 1, pos := { e := 30, n := 40, sdH := 10 } } : SolRec).ms), ({ addr := 9, status := 4, flags := 0, ms := 1100, week := 1, pos := { e := 30, n := 40, sdH := 10 } } : SolRec).pos.e, ({ addr := 9, status := 4, flags := 0, ms := 1100, week := 1, pos := { e := 30, n := 40, sdH := 10 } } : SolRec).pos.n) }) ∧ (t.mp = { w_mpProcessCutoff_working.mp with buf := ([] : List MpItem), accts := t.mp.accts }))
    | _ => false) = true := by decide +kernel

def w_mpProcessCutoff_slow : State := { wRun [(ECP_CTRL_AUTH_REQ, 0), (MET_SESSION_SESSION, 0x101), (MET_STATUS_SEAL_OPEN, 1)] with ply := 500, mp := { running := true, image := [1, 2, 3], sealSince := some 490, buf := [.cut [{ addr := 9, status := 4, flags := 0, ms := 1100, week := 1, pos := { e := 30, n := 39, sdH := 10 } }]], accts := [{ eui := [1, 2, 3, 4, 5, 6, 7, 8], dist := 5, last := some (604801000, 0, 0) }], map := [(9, [1, 2, 3, 4, 5, 6, 7, 8])] }, ecp := { State.reset.ecp with sessions := [{ id := 3, port := 1, ip := 0x0A000001, udp := 5000, devSeq := 7 }] } }

theorem test_mpProcessCutoff_slow : ((w_mpProcessCutoff_slow.stopSafe = true) ∧ (w_mpProcessCutoff_slow.mpDown = false) ∧ (w_mpProcessCutoff_slow.mp.buf = .cut [({ addr := 9, status := 4, flags := 0, ms := 1100, week := 1, pos := { e := 30, n := 39, sdH := 10 } } : SolRec)] :: ([] : List MpItem)) ∧ (w_mpProcessCutoff_slow.bit MET_STATUS_IMAGE_MISMATCH = false) ∧ (w_mpProcessCutoff_slow.mp.map.find? (fun (z : Nat × List Nat) => z.1 == ({ addr := 9, status := 4, flags := 0, ms := 1100, week := 1, pos := { e := 30, n := 39, sdH := 10 } } : SolRec).addr) = some (({ addr := 9, status := 4, flags := 0, ms := 1100, week := 1, pos := { e := 30, n := 39, sdH := 10 } } : SolRec).addr, ([1, 2, 3, 4, 5, 6, 7, 8] : List Nat))) ∧ (w_mpProcessCutoff_slow.acctOf ([1, 2, 3, 4, 5, 6, 7, 8] : List Nat) = some ({ eui := [1, 2, 3, 4, 5, 6, 7, 8], dist := 5, last := some (604801000, 0, 0) } : MpAcct)) ∧ ((({ addr := 9, status := 4, flags := 0, ms := 1100, week := 1, pos := { e := 30, n := 39, sdH := 10 } } : SolRec).status = 4 ∨ (({ addr := 9, status := 4, flags := 0, ms := 1100, week := 1, pos := { e := 30, n := 39, sdH := 10 } } : SolRec).status = 3 ∧ w_mpProcessCutoff_slow.param 4 [] = 1)) ∧ ({ addr := 9, status := 4, flags := 0, ms := 1100, week := 1, pos := { e := 30, n := 39, sdH := 10 } } : SolRec).pos.sdH ≤ w_mpProcessCutoff_slow.param 5 [] ∧ ({ addr := 9, status := 4, flags := 0, ms := 1100, week := 1, pos := { e := 30, n := 39, sdH := 10 } } : SolRec).flags &&& 59 = 0) ∧ (w_mpProcessCutoff_slow.mp.accts.all (fun b => b.eui != ([1, 2, 3, 4, 5, 6, 7, 8] : List Nat) || b == ({ eui := [1, 2, 3, 4, 5, 6, 7, 8], dist := 5, last := some (604801000, 0, 0) } : MpAcct)) = true) ∧ (({ eui := [1, 2, 3, 4, 5, 6, 7, 8], dist := 5, last := some (604801000, 0, 0) } : MpAcct).last = some (604801000, 0, 0)) ∧ (604801000 < (({ addr := 9, status := 4, flags := 0, ms := 1100, week := 1, pos := { e := 30, n := 39, sdH := 10 } } : SolRec).week * 604800000 + ({ addr := 9, status := 4, flags := 0, ms := 1100, week := 1, pos := { e := 30, n := 39, sdH := 10 } } : SolRec).ms)) ∧ ((({ addr := 9, status := 4, flags := 0, ms := 1100, week := 1, pos := { e := 30, n := 39, sdH := 10 } } : SolRec).week * 604800000 + ({ addr := 9, status := 4, flags := 0, ms := 1100, week := 1, pos := { e := 30, n := 39, sdH := 10 } } : SolRec).ms) - 604801000 ≤ w_mpProcessCutoff_slow.param 3 []) ∧ ((isqrtNear ((({ addr := 9, status := 4, flags := 0, ms := 1100, week := 1, pos := { e := 30, n := 39, sdH := 10 } } : SolRec).pos.e - 0) * (({ addr := 9, status := 4, flags := 0, ms := 1100, week := 1, pos := { e := 30, n := 39, sdH := 10 } } : SolRec).pos.e - 0) + (({ addr := 9, status := 4, flags := 0, ms := 1100, week := 1, pos := { e := 30, n := 39, sdH := 10 } } : SolRec).pos.n - 0) * (({ addr := 9, status := 4, flags := 0, ms := 1100, week := 1, pos := { e := 30, n := 39, sdH := 10 } } : SolRec).pos.n - 0)).toNat) * 1000 < w_mpProcessCutoff_slow.param 2 [] * ((({ addr := 9, status := 4, flags := 0, ms := 1100, week := 1, pos := { e := 30, n := 39, sdH := 10 } } : SolRec).week * 604800000 + ({ addr := 9, status := 4, flags := 0, ms := 1100, week := 1, pos := { e := 30, n := 39, sdH := 10 } } : SolRec).ms) - 604801000))) ∧ (match exec (.mpProcessCutoff) w_mpProcessCutoff_slow with
    | .next t => decide ((t.acctOf ([1, 2, 3, 4, 5, 6, 7, 8] : List Nat) = some { ({ eui := [1, 2, 3, 4, 5, 6, 7, 8], dist := 5, last := some (604801000, 0, 0) } : MpAcct) with dist := min (({ eui := [1, 2, 3, 4, 5, 6, 7, 8], dist := 5, last := some (604801000, 0, 0) } : MpAcct).dist + (isqrtNear ((({ addr := 9, status := 4, flags := 0, ms := 1100, week := 1, pos := { e := 30, n := 39, sdH := 10 } } : SolRec).pos.e - 0) * (({ addr := 9, status := 4, flags := 0, ms := 1100, week := 1, pos := { e := 30, n := 39, sdH := 10 } } : SolRec).pos.e - 0) + (({ addr := 9, status := 4, flags := 0, ms := 1100, week := 1, pos := { e := 30, n := 39, sdH := 10 } } : SolRec).pos.n - 0) * (({ addr := 9, status := 4, flags := 0, ms := 1100, week := 1, pos := { e := 30, n := 39, sdH := 10 } } : SolRec).pos.n - 0)).toNat)) (2 ^ 64 - 1), last := some ((({ addr := 9, status := 4, flags := 0, ms := 1100, week := 1, pos := { e := 30, n := 39, sdH := 10 } } : SolRec).week * 604800000 + ({ addr := 9, status := 4, flags := 0, ms := 1100, week := 1, pos := { e := 30, n := 39, sdH := 10 } } : SolRec).ms), ({ addr := 9, status := 4, flags := 0, ms := 1100, week := 1, pos := { e := 30, n := 39, sdH := 10 } } : SolRec).pos.e, ({ addr := 9, status := 4, flags := 0, ms := 1100, week := 1, pos := { e := 30, n := 39, sdH := 10 } } : SolRec).pos.n) }) ∧ (t.mp = { w_mpProcessCutoff_slow.mp with buf := ([] : List MpItem), accts := t.mp.accts }))
    | _ => false) = true := by decide +kernel

def w_mpProcessCutoff_gap : State := { wRun [(ECP_CTRL_AUTH_REQ, 0), (MET_SESSION_SESSION, 0x101), (MET_STATUS_SEAL_OPEN, 1)] with ply := 500, mp := { running := true, image := [1, 2, 3], sealSince := some 490, buf := [.cut [{ addr := 9, status := 4, flags := 0, ms := 2001, week := 1, pos := { e := 30, n := 40, sdH := 10 } }]], accts := [{ eui := [1, 2, 3, 4, 5, 6, 7, 8], dist := 5, last := some (604801000, 0, 0) }], map := [(9, [1, 2, 3, 4, 5, 6, 7, 8])] }, ecp := { State.reset.ecp with sessions := [{ id := 3, port := 1, ip := 0x0A000001, udp := 5000, devSeq := 7 }] } }

theorem test_mpProcessCutoff_gap : ((w_mpProcessCutoff_gap.stopSafe = true) ∧ (w_mpProcessCutoff_gap.mpDown = false) ∧ (w_mpProcessCutoff_gap.mp.buf = .cut [({ addr := 9, status := 4, flags := 0, ms := 2001, week := 1, pos := { e := 30, n := 40, sdH := 10 } } : SolRec)] :: ([] : List MpItem)) ∧ (w_mpProcessCutoff_gap.bit MET_STATUS_IMAGE_MISMATCH = false) ∧ (w_mpProcessCutoff_gap.mp.map.find? (fun (z : Nat × List Nat) => z.1 == ({ addr := 9, status := 4, flags := 0, ms := 2001, week := 1, pos := { e := 30, n := 40, sdH := 10 } } : SolRec).addr) = some (({ addr := 9, status := 4, flags := 0, ms := 2001, week := 1, pos := { e := 30, n := 40, sdH := 10 } } : SolRec).addr, ([1, 2, 3, 4, 5, 6, 7, 8] : List Nat))) ∧ (w_mpProcessCutoff_gap.acctOf ([1, 2, 3, 4, 5, 6, 7, 8] : List Nat) = some ({ eui := [1, 2, 3, 4, 5, 6, 7, 8], dist := 5, last := some (604801000, 0, 0) } : MpAcct)) ∧ ((({ addr := 9, status := 4, flags := 0, ms := 2001, week := 1, pos := { e := 30, n := 40, sdH := 10 } } : SolRec).status = 4 ∨ (({ addr := 9, status := 4, flags := 0, ms := 2001, week := 1, pos := { e := 30, n := 40, sdH := 10 } } : SolRec).status = 3 ∧ w_mpProcessCutoff_gap.param 4 [] = 1)) ∧ ({ addr := 9, status := 4, flags := 0, ms := 2001, week := 1, pos := { e := 30, n := 40, sdH := 10 } } : SolRec).pos.sdH ≤ w_mpProcessCutoff_gap.param 5 [] ∧ ({ addr := 9, status := 4, flags := 0, ms := 2001, week := 1, pos := { e := 30, n := 40, sdH := 10 } } : SolRec).flags &&& 59 = 0) ∧ (w_mpProcessCutoff_gap.mp.accts.all (fun b => b.eui != ([1, 2, 3, 4, 5, 6, 7, 8] : List Nat) || b == ({ eui := [1, 2, 3, 4, 5, 6, 7, 8], dist := 5, last := some (604801000, 0, 0) } : MpAcct)) = true) ∧ (({ eui := [1, 2, 3, 4, 5, 6, 7, 8], dist := 5, last := some (604801000, 0, 0) } : MpAcct).last = some (604801000, 0, 0)) ∧ (604801000 < (({ addr := 9, status := 4, flags := 0, ms := 2001, week := 1, pos := { e := 30, n := 40, sdH := 10 } } : SolRec).week * 604800000 + ({ addr := 9, status := 4, flags := 0, ms := 2001, week := 1, pos := { e := 30, n := 40, sdH := 10 } } : SolRec).ms)) ∧ (w_mpProcessCutoff_gap.param 3 [] < (({ addr := 9, status := 4, flags := 0, ms := 2001, week := 1, pos := { e := 30, n := 40, sdH := 10 } } : SolRec).week * 604800000 + ({ addr := 9, status := 4, flags := 0, ms := 2001, week := 1, pos := { e := 30, n := 40, sdH := 10 } } : SolRec).ms) - 604801000)) ∧ (match exec (.mpProcessCutoff) w_mpProcessCutoff_gap with
    | .next t => decide ((t.acctOf ([1, 2, 3, 4, 5, 6, 7, 8] : List Nat) = some { ({ eui := [1, 2, 3, 4, 5, 6, 7, 8], dist := 5, last := some (604801000, 0, 0) } : MpAcct) with last := some ((({ addr := 9, status := 4, flags := 0, ms := 2001, week := 1, pos := { e := 30, n := 40, sdH := 10 } } : SolRec).week * 604800000 + ({ addr := 9, status := 4, flags := 0, ms := 2001, week := 1, pos := { e := 30, n := 40, sdH := 10 } } : SolRec).ms), ({ addr := 9, status := 4, flags := 0, ms := 2001, week := 1, pos := { e := 30, n := 40, sdH := 10 } } : SolRec).pos.e, ({ addr := 9, status := 4, flags := 0, ms := 2001, week := 1, pos := { e := 30, n := 40, sdH := 10 } } : SolRec).pos.n) }) ∧ (Reads t [(MET_CNT2_GAPS, w_mpProcessCutoff_gap.adv MET_CNT2_GAPS)]) ∧ (t.mp = { w_mpProcessCutoff_gap.mp with buf := ([] : List MpItem), accts := t.mp.accts }))
    | _ => false) = true := by decide +kernel

def w_mpProcessCutoff_first : State := { wRun [(ECP_CTRL_AUTH_REQ, 0), (MET_SESSION_SESSION, 0x101), (MET_STATUS_SEAL_OPEN, 1)] with ply := 500, mp := { running := true, image := [1, 2, 3], sealSince := some 490, buf := [.cut [{ addr := 9, status := 4, flags := 0, ms := 1000, week := 1, pos := { e := 30, n := 40, sdH := 10 } }]], accts := [{ eui := [1, 2, 3, 4, 5, 6, 7, 8], dist := 5 }], map := [(9, [1, 2, 3, 4, 5, 6, 7, 8])] }, ecp := { State.reset.ecp with sessions := [{ id := 3, port := 1, ip := 0x0A000001, udp := 5000, devSeq := 7 }] } }

theorem test_mpProcessCutoff_first : ((w_mpProcessCutoff_first.stopSafe = true) ∧ (w_mpProcessCutoff_first.mpDown = false) ∧ (w_mpProcessCutoff_first.mp.buf = .cut [({ addr := 9, status := 4, flags := 0, ms := 1000, week := 1, pos := { e := 30, n := 40, sdH := 10 } } : SolRec)] :: ([] : List MpItem)) ∧ (w_mpProcessCutoff_first.bit MET_STATUS_IMAGE_MISMATCH = false) ∧ (w_mpProcessCutoff_first.mp.map.find? (fun (z : Nat × List Nat) => z.1 == ({ addr := 9, status := 4, flags := 0, ms := 1000, week := 1, pos := { e := 30, n := 40, sdH := 10 } } : SolRec).addr) = some (({ addr := 9, status := 4, flags := 0, ms := 1000, week := 1, pos := { e := 30, n := 40, sdH := 10 } } : SolRec).addr, ([1, 2, 3, 4, 5, 6, 7, 8] : List Nat))) ∧ (w_mpProcessCutoff_first.acctOf ([1, 2, 3, 4, 5, 6, 7, 8] : List Nat) = some ({ eui := [1, 2, 3, 4, 5, 6, 7, 8], dist := 5 } : MpAcct)) ∧ ((({ addr := 9, status := 4, flags := 0, ms := 1000, week := 1, pos := { e := 30, n := 40, sdH := 10 } } : SolRec).status = 4 ∨ (({ addr := 9, status := 4, flags := 0, ms := 1000, week := 1, pos := { e := 30, n := 40, sdH := 10 } } : SolRec).status = 3 ∧ w_mpProcessCutoff_first.param 4 [] = 1)) ∧ ({ addr := 9, status := 4, flags := 0, ms := 1000, week := 1, pos := { e := 30, n := 40, sdH := 10 } } : SolRec).pos.sdH ≤ w_mpProcessCutoff_first.param 5 [] ∧ ({ addr := 9, status := 4, flags := 0, ms := 1000, week := 1, pos := { e := 30, n := 40, sdH := 10 } } : SolRec).flags &&& 59 = 0) ∧ (w_mpProcessCutoff_first.mp.accts.all (fun b => b.eui != ([1, 2, 3, 4, 5, 6, 7, 8] : List Nat) || b == ({ eui := [1, 2, 3, 4, 5, 6, 7, 8], dist := 5 } : MpAcct)) = true) ∧ (({ eui := [1, 2, 3, 4, 5, 6, 7, 8], dist := 5 } : MpAcct).last = none)) ∧ (match exec (.mpProcessCutoff) w_mpProcessCutoff_first with
    | .next t => decide ((t.acctOf ([1, 2, 3, 4, 5, 6, 7, 8] : List Nat) = some { ({ eui := [1, 2, 3, 4, 5, 6, 7, 8], dist := 5 } : MpAcct) with last := some ((({ addr := 9, status := 4, flags := 0, ms := 1000, week := 1, pos := { e := 30, n := 40, sdH := 10 } } : SolRec).week * 604800000 + ({ addr := 9, status := 4, flags := 0, ms := 1000, week := 1, pos := { e := 30, n := 40, sdH := 10 } } : SolRec).ms), ({ addr := 9, status := 4, flags := 0, ms := 1000, week := 1, pos := { e := 30, n := 40, sdH := 10 } } : SolRec).pos.e, ({ addr := 9, status := 4, flags := 0, ms := 1000, week := 1, pos := { e := 30, n := 40, sdH := 10 } } : SolRec).pos.n) }) ∧ (t.mp = { w_mpProcessCutoff_first.mp with buf := ([] : List MpItem), accts := t.mp.accts }))
    | _ => false) = true := by decide +kernel

def w_mpProcessCutoff_ineligible : State := { wRun [(ECP_CTRL_AUTH_REQ, 0), (MET_SESSION_SESSION, 0x101), (MET_STATUS_SEAL_OPEN, 1)] with ply := 500, mp := { running := true, image := [1, 2, 3], sealSince := some 490, buf := [.cut [{ addr := 9, status := 3, flags := 0, ms := 1100, week := 1, pos := { e := 30, n := 40, sdH := 10 } }]], accts := [{ eui := [1, 2, 3, 4, 5, 6, 7, 8], dist := 5, last := some (604801000, 0, 0) }], map := [(9, [1, 2, 3, 4, 5, 6, 7, 8])] }, ecp := { State.reset.ecp with sessions := [{ id := 3, port := 1, ip := 0x0A000001, udp := 5000, devSeq := 7 }] } }

theorem test_mpProcessCutoff_ineligible : ((w_mpProcessCutoff_ineligible.stopSafe = true) ∧ (w_mpProcessCutoff_ineligible.mpDown = false) ∧ (w_mpProcessCutoff_ineligible.mp.buf = .cut [({ addr := 9, status := 3, flags := 0, ms := 1100, week := 1, pos := { e := 30, n := 40, sdH := 10 } } : SolRec)] :: ([] : List MpItem)) ∧ (w_mpProcessCutoff_ineligible.bit MET_STATUS_IMAGE_MISMATCH = false) ∧ (w_mpProcessCutoff_ineligible.mp.map.find? (fun (z : Nat × List Nat) => z.1 == ({ addr := 9, status := 3, flags := 0, ms := 1100, week := 1, pos := { e := 30, n := 40, sdH := 10 } } : SolRec).addr) = some (({ addr := 9, status := 3, flags := 0, ms := 1100, week := 1, pos := { e := 30, n := 40, sdH := 10 } } : SolRec).addr, ([1, 2, 3, 4, 5, 6, 7, 8] : List Nat))) ∧ (w_mpProcessCutoff_ineligible.acctOf ([1, 2, 3, 4, 5, 6, 7, 8] : List Nat) = some ({ eui := [1, 2, 3, 4, 5, 6, 7, 8], dist := 5, last := some (604801000, 0, 0) } : MpAcct)) ∧ (¬ ((({ addr := 9, status := 3, flags := 0, ms := 1100, week := 1, pos := { e := 30, n := 40, sdH := 10 } } : SolRec).status = 4 ∨ (({ addr := 9, status := 3, flags := 0, ms := 1100, week := 1, pos := { e := 30, n := 40, sdH := 10 } } : SolRec).status = 3 ∧ w_mpProcessCutoff_ineligible.param 4 [] = 1)) ∧ ({ addr := 9, status := 3, flags := 0, ms := 1100, week := 1, pos := { e := 30, n := 40, sdH := 10 } } : SolRec).pos.sdH ≤ w_mpProcessCutoff_ineligible.param 5 [] ∧ ({ addr := 9, status := 3, flags := 0, ms := 1100, week := 1, pos := { e := 30, n := 40, sdH := 10 } } : SolRec).flags &&& 59 = 0) ∨ ({ eui := [1, 2, 3, 4, 5, 6, 7, 8], dist := 5, last := some (604801000, 0, 0) } : MpAcct).last.any (fun (z : Nat × Int × Int) => decide ((({ addr := 9, status := 3, flags := 0, ms := 1100, week := 1, pos := { e := 30, n := 40, sdH := 10 } } : SolRec).week * 604800000 + ({ addr := 9, status := 3, flags := 0, ms := 1100, week := 1, pos := { e := 30, n := 40, sdH := 10 } } : SolRec).ms) ≤ z.1)) = true)) ∧ (match exec (.mpProcessCutoff) w_mpProcessCutoff_ineligible with
    | .next t => decide ((t.mp = { w_mpProcessCutoff_ineligible.mp with buf := ([] : List MpItem) }))
    | _ => false) = true := by decide +kernel

def w_mpProcessCutoff_unmeasured : State := { wRun [(ECP_CTRL_AUTH_REQ, 0), (MET_SESSION_SESSION, 0x101), (MET_STATUS_SEAL_OPEN, 1)] with ply := 500, mp := { running := true, image := [1, 2, 3], sealSince := some 490, buf := [.cut [{ addr := 9, status := 4, flags := 0, ms := 1000, week := 1, pos := { e := 1, n := 2, sdH := 10 } }]], map := [(9, [1, 2, 3, 4, 5, 6, 7, 8])] }, ecp := { State.reset.ecp with sessions := [{ id := 3, port := 1, ip := 0x0A000001, udp := 5000, devSeq := 7 }] } }

theorem test_mpProcessCutoff_unmeasured : ((w_mpProcessCutoff_unmeasured.stopSafe = true) ∧ (w_mpProcessCutoff_unmeasured.mpDown = false) ∧ (w_mpProcessCutoff_unmeasured.mp.buf = .cut [({ addr := 9, status := 4, flags := 0, ms := 1000, week := 1, pos := { e := 1, n := 2, sdH := 10 } } : SolRec)] :: ([] : List MpItem)) ∧ (w_mpProcessCutoff_unmeasured.bit MET_STATUS_IMAGE_MISMATCH = false) ∧ (w_mpProcessCutoff_unmeasured.mp.map.find? (fun (z : Nat × List Nat) => z.1 == ({ addr := 9, status := 4, flags := 0, ms := 1000, week := 1, pos := { e := 1, n := 2, sdH := 10 } } : SolRec).addr) = some (({ addr := 9, status := 4, flags := 0, ms := 1000, week := 1, pos := { e := 1, n := 2, sdH := 10 } } : SolRec).addr, ([1, 2, 3, 4, 5, 6, 7, 8] : List Nat))) ∧ (w_mpProcessCutoff_unmeasured.acctOf ([1, 2, 3, 4, 5, 6, 7, 8] : List Nat) = none)) ∧ (match exec (.mpProcessCutoff) w_mpProcessCutoff_unmeasured with
    | .next t => decide ((t.mp = { w_mpProcessCutoff_unmeasured.mp with buf := ([] : List MpItem) }) ∧ (Reads t [(MET_CNT2_UNMEASURED, w_mpProcessCutoff_unmeasured.adv MET_CNT2_UNMEASURED)]))
    | _ => false) = true := by decide +kernel

def w_mpProcessCutoff_unmapped : State := { wRun [(ECP_CTRL_AUTH_REQ, 0), (MET_SESSION_SESSION, 0x101), (MET_STATUS_SEAL_OPEN, 1)] with ply := 500, mp := { running := true, image := [1, 2, 3], sealSince := some 490, buf := [.cut [{ addr := 9, status := 4, flags := 0, ms := 1000, week := 1, pos := { e := 1, n := 2, sdH := 10 } }]], map := [(8, [1, 2, 3, 4, 5, 6, 7, 8])] }, ecp := { State.reset.ecp with sessions := [{ id := 3, port := 1, ip := 0x0A000001, udp := 5000, devSeq := 7 }] } }

theorem test_mpProcessCutoff_unmapped : ((w_mpProcessCutoff_unmapped.stopSafe = true) ∧ (w_mpProcessCutoff_unmapped.mpDown = false) ∧ (w_mpProcessCutoff_unmapped.mp.buf = .cut ([{ addr := 9, status := 4, flags := 0, ms := 1000, week := 1, pos := { e := 1, n := 2, sdH := 10 } }] : List SolRec) :: ([] : List MpItem)) ∧ (w_mpProcessCutoff_unmapped.bit MET_STATUS_IMAGE_MISMATCH = true ∨ ([{ addr := 9, status := 4, flags := 0, ms := 1000, week := 1, pos := { e := 1, n := 2, sdH := 10 } }] : List SolRec).all (fun r => !w_mpProcessCutoff_unmapped.mp.map.any (fun z => z.1 == r.addr)) = true)) ∧ (match exec (.mpProcessCutoff) w_mpProcessCutoff_unmapped with
    | .next t => decide ((t.mp = { w_mpProcessCutoff_unmapped.mp with buf := ([] : List MpItem) }))
    | _ => false) = true := by decide +kernel

def w_mpProcessCutoff_none : State := { wRun [(ECP_CTRL_AUTH_REQ, 0), (MET_SESSION_SESSION, 0x101), (MET_STATUS_SEAL_OPEN, 1)] with ply := 500, mp := { running := true, image := [1, 2, 3], sealSince := some 490, buf := [.act 9 [1, 2, 3, 4, 5, 6, 7, 8]] }, ecp := { State.reset.ecp with sessions := [{ id := 3, port := 1, ip := 0x0A000001, udp := 5000, devSeq := 7 }] } }

theorem test_mpProcessCutoff_none : ((w_mpProcessCutoff_none.stopSafe = true) ∧ (w_mpProcessCutoff_none.mpDown = true ∨ (match w_mpProcessCutoff_none.mp.buf with | .cut _ :: _ => false | _ => true) = true)) ∧ (match exec (.mpProcessCutoff) w_mpProcessCutoff_none with
    | .next t => decide ((t = w_mpProcessCutoff_none))
    | _ => false) = true := by decide +kernel

def w_metIdent : State := { wRun [(ECP_CTRL_AUTH_REQ, 0), (MET_SESSION_SESSION, 0x101), (MET_STATUS_SEAL_OPEN, 1), (MP_CRC_CRC, crc32c [1, 2, 3]), (MP_VERSION_TEXT 1, 0x41424344)] with ply := 500, mp := { running := true, image := [1, 2, 3], sealSince := some 490 }, ecp := { State.reset.ecp with sessions := [{ id := 3, port := 1, ip := 0x0A000001, udp := 5000, devSeq := 7 }] } }

theorem test_metIdent : ((w_metIdent.stopSafe = true) ∧ (w_metIdent.accepts 0x0C00 3 9 false = true) ∧ (w_metIdent.mpDown = false) ∧ (crc32c w_metIdent.mp.image = w_metIdent.get MP_CRC_CRC ∨ w_metIdent.bit MET_STATUS_IMAGE_MISMATCH = true) ∧ (w_metIdent.session 3 = some ({ id := 3, port := 1, ip := 0x0A000001, udp := 5000, devSeq := 7 } : EcpSession)) ∧ (({ id := 3, port := 1, ip := 0x0A000001, udp := 5000, devSeq := 7 } : EcpSession).devSeq + 1 < 0xFFFFFFFF) ∧ (3 ≠ 8 ∨ w_metIdent.ecp.spiOut.length < 15)) ∧ (match exec (.metIdent 3 9 none) w_metIdent with
    | .next t => decide ((answersLater w_metIdent t 0x0C00 3 9 Ecp.OK (crc32c []) ((List.range 4).flatMap (fun w => leBytes 4 (w_metIdent.get (MP_VERSION_TEXT w))) ++ leBytes 4 (crc32c w_metIdent.mp.image) ++ leBytes 2 w_metIdent.audit.length ++ [0, 0]) = true))
    | _ => false) = true := by decide +kernel

def w_metIdent_mismatch : State := { wRun [(ECP_CTRL_AUTH_REQ, 0), (MET_SESSION_SESSION, 0x101), (MET_STATUS_SEAL_OPEN, 1), (MP_CRC_CRC, crc32c [1, 2, 3])] with ply := 500, mp := { running := true, image := [1, 2, 3], sealSince := some 490 }, ecp := { State.reset.ecp with sessions := [{ id := 3, port := 1, ip := 0x0A000001, udp := 5000, devSeq := 7 }] } }

theorem test_metIdent_mismatch : ((w_metIdent_mismatch.stopSafe = true) ∧ (w_metIdent_mismatch.accepts 0x0C00 3 9 false = true) ∧ (w_metIdent_mismatch.mpDown = false) ∧ (crc32c ([1, 2, 4] : List Nat) ≠ w_metIdent_mismatch.get MP_CRC_CRC) ∧ (w_metIdent_mismatch.bit MET_STATUS_IMAGE_MISMATCH = false) ∧ (w_metIdent_mismatch.session 3 = some ({ id := 3, port := 1, ip := 0x0A000001, udp := 5000, devSeq := 7 } : EcpSession)) ∧ (({ id := 3, port := 1, ip := 0x0A000001, udp := 5000, devSeq := 7 } : EcpSession).devSeq + 1 < 0xFFFFFFFF) ∧ (3 ≠ 8 ∨ w_metIdent_mismatch.ecp.spiOut.length < 15)) ∧ (match exec (.metIdent 3 9 (some ([1, 2, 4] : List Nat))) w_metIdent_mismatch with
    | .next t => decide ((answersLater w_metIdent_mismatch t 0x0C00 3 9 Ecp.OK (crc32c []) ((List.range 4).flatMap (fun w => leBytes 4 (w_metIdent_mismatch.get (MP_VERSION_TEXT w))) ++ leBytes 4 (crc32c ([1, 2, 4] : List Nat)) ++ leBytes 2 w_metIdent_mismatch.audit.length ++ [0, 0]) = true) ∧ (Reads t [(MET_STATUS_IMAGE_MISMATCH, 1)]) ∧ (t.evr = (w_metIdent_mismatch.record .imageMismatch []).evr))
    | _ => false) = true := by decide +kernel

def w_metIdent_down : State := { { wRun [(ECP_CTRL_AUTH_REQ, 0), (MET_SESSION_SESSION, 0x101), (MET_STATUS_SEAL_OPEN, 1)] with ply := 500, mp := { running := true, image := [1, 2, 3], sealSince := some 490 }, ecp := { State.reset.ecp with sessions := [{ id := 3, port := 1, ip := 0x0A000001, udp := 5000, devSeq := 7 }] } } with rst := { State.reset.rst with held := [.mp] } }

theorem test_metIdent_down : ((w_metIdent_down.stopSafe = true) ∧ (w_metIdent_down.accepts 0x0C00 3 9 false = true) ∧ (w_metIdent_down.mpDown = true)) ∧ (match exec (.metIdent 3 9 (none : Option (List Nat))) w_metIdent_down with
    | .next t => decide ((answers w_metIdent_down t [] 0x0C00 3 9 Ecp.NOT_READY (crc32c []) [] = true))
    | _ => false) = true := by decide +kernel

def w_metRead_down : State := { { wRun [(ECP_CTRL_AUTH_REQ, 0), (MET_SESSION_SESSION, 0x101), (MET_STATUS_SEAL_OPEN, 1)] with ply := 500, mp := { running := true, image := [1, 2, 3], sealSince := some 490 }, ecp := { State.reset.ecp with sessions := [{ id := 3, port := 1, ip := 0x0A000001, udp := 5000, devSeq := 7 }] } } with rst := { State.reset.rst with held := [.mp] } }

theorem test_metRead_down : ((w_metRead_down.stopSafe = true) ∧ (w_metRead_down.accepts 0x0C01 3 9 false = true) ∧ (w_metRead_down.mpDown = true) ∧ (([1, 2, 3, 4, 5, 6, 7, 8] : List Nat).length = 8)) ∧ (match exec (.metRead 3 9 ([1, 2, 3, 4, 5, 6, 7, 8] : List Nat)) w_metRead_down with
    | .next t => decide ((answers w_metRead_down t [] 0x0C01 3 9 Ecp.NOT_READY (crc32c ([1, 2, 3, 4, 5, 6, 7, 8] : List Nat)) [] = true))
    | _ => false) = true := by decide +kernel

def w_metParamSet_down : State := { { wRun [(ECP_CTRL_AUTH_REQ, 0), (MET_SESSION_SESSION, 0x101), (MET_STATUS_SEAL_OPEN, 1)] with ply := 500, mp := { running := true, image := [1, 2, 3], sealSince := some 490 }, ecp := { State.reset.ecp with sessions := [{ id := 3, port := 1, ip := 0x0A000001, udp := 5000, devSeq := 7 }] } } with rst := { State.reset.rst with held := [.mp] } }

theorem test_metParamSet_down : ((w_metParamSet_down.stopSafe = true) ∧ (w_metParamSet_down.accepts 0x0C02 3 9 false = true) ∧ (w_metParamSet_down.mpDown = true) ∧ ((List.replicate 16 1 : List Nat).length = 16)) ∧ (match exec (.metParamSet 3 9 (List.replicate 16 1 : List Nat) true) w_metParamSet_down with
    | .next t => decide ((answers w_metParamSet_down t [] 0x0C02 3 9 Ecp.NOT_READY (crc32c (List.replicate 16 1 : List Nat)) [] = true))
    | _ => false) = true := by decide +kernel

def w_metAuditRead_down : State := { { wRun [(ECP_CTRL_AUTH_REQ, 0), (MET_SESSION_SESSION, 0x101), (MET_STATUS_SEAL_OPEN, 1)] with ply := 500, mp := { running := true, image := [1, 2, 3], sealSince := some 490 }, ecp := { State.reset.ecp with sessions := [{ id := 3, port := 1, ip := 0x0A000001, udp := 5000, devSeq := 7 }] } } with rst := { State.reset.rst with held := [.mp] } }

theorem test_metAuditRead_down : ((w_metAuditRead_down.stopSafe = true) ∧ (w_metAuditRead_down.accepts 0x0C03 3 9 false = true) ∧ (w_metAuditRead_down.mpDown = true) ∧ (([0, 0, 1, 0] : List Nat).length = 4)) ∧ (match exec (.metAuditRead 3 9 ([0, 0, 1, 0] : List Nat)) w_metAuditRead_down with
    | .next t => decide ((answers w_metAuditRead_down t [] 0x0C03 3 9 Ecp.NOT_READY (crc32c ([0, 0, 1, 0] : List Nat)) [] = true))
    | _ => false) = true := by decide +kernel

def w_metRead : State := { wRun [(ECP_CTRL_AUTH_REQ, 0), (MET_SESSION_SESSION, 0x101), (MET_STATUS_SEAL_OPEN, 1)] with ply := 500, mp := { running := true, image := [1, 2, 3], sealSince := some 490, accts := [{ eui := [1, 2, 3, 4, 5, 6, 7, 8], dist := 5, last := some (604801000, 0, 0) }], map := [(9, [1, 2, 3, 4, 5, 6, 7, 8])] }, ecp := { State.reset.ecp with sessions := [{ id := 3, port := 1, ip := 0x0A000001, udp := 5000, devSeq := 7 }] } }

theorem test_metRead : ((w_metRead.stopSafe = true) ∧ (w_metRead.accepts 0x0C01 3 9 false = true) ∧ (w_metRead.mpDown = false) ∧ (([1, 2, 3, 4, 5, 6, 7, 8] : List Nat).length = 8) ∧ (w_metRead.acctOf ([1, 2, 3, 4, 5, 6, 7, 8] : List Nat) = some ({ eui := [1, 2, 3, 4, 5, 6, 7, 8], dist := 5, last := some (604801000, 0, 0) } : MpAcct))) ∧ (match exec (.metRead 3 9 (([1, 2, 3, 4, 5, 6, 7, 8] : List Nat))) w_metRead with
    | .next t => decide ((answers w_metRead t [] 0x0C01 3 9 Ecp.OK (crc32c (([1, 2, 3, 4, 5, 6, 7, 8] : List Nat))) (w_metRead.metBytes ({ eui := [1, 2, 3, 4, 5, 6, 7, 8], dist := 5, last := some (604801000, 0, 0) } : MpAcct) ++ leBytes 4 (crc32c (w_metRead.metBytes ({ eui := [1, 2, 3, 4, 5, 6, 7, 8], dist := 5, last := some (604801000, 0, 0) } : MpAcct)))) = true) ∧ (((w_metRead.metBytes ({ eui := [1, 2, 3, 4, 5, 6, 7, 8], dist := 5, last := some (604801000, 0, 0) } : MpAcct)).drop 8).take 32 = [({ eui := [1, 2, 3, 4, 5, 6, 7, 8], dist := 5, last := some (604801000, 0, 0) } : MpAcct).dist, ({ eui := [1, 2, 3, 4, 5, 6, 7, 8], dist := 5, last := some (604801000, 0, 0) } : MpAcct).workDist, ({ eui := [1, 2, 3, 4, 5, 6, 7, 8], dist := 5, last := some (604801000, 0, 0) } : MpAcct).workMs, ({ eui := [1, 2, 3, 4, 5, 6, 7, 8], dist := 5, last := some (604801000, 0, 0) } : MpAcct).area].flatMap (leBytes 8)) ∧ ((w_metRead.metBytes ({ eui := [1, 2, 3, 4, 5, 6, 7, 8], dist := 5, last := some (604801000, 0, 0) } : MpAcct)).take 8 = leBytes 4 (w_metRead.get MET_SESSION_SESSION) ++ [b2n (w_metRead.mp.map.any (fun e => e.2 == ([1, 2, 3, 4, 5, 6, 7, 8] : List Nat))) + 2 * w_metRead.get MET_STATUS_IMAGE_MISMATCH, ((w_metRead.mp.map.find? (fun e => e.2 == ([1, 2, 3, 4, 5, 6, 7, 8] : List Nat))).map (·.1)).getD 0, 0, 0]) ∧ ((({ eui := [1, 2, 3, 4, 5, 6, 7, 8], dist := 5, last := some (604801000, 0, 0) } : MpAcct).area / (match w_metRead.param 6 [] with | 0 => 1000000 | 1 => 100000000 | _ => 10000000000) < 2 ^ 32 → ((w_metRead.metBytes ({ eui := [1, 2, 3, 4, 5, 6, 7, 8], dist := 5, last := some (604801000, 0, 0) } : MpAcct)).drop 40).take 4 = leBytes 4 (({ eui := [1, 2, 3, 4, 5, 6, 7, 8], dist := 5, last := some (604801000, 0, 0) } : MpAcct).area / (match w_metRead.param 6 [] with | 0 => 1000000 | 1 => 100000000 | _ => 10000000000)))) ∧ ((({ eui := [1, 2, 3, 4, 5, 6, 7, 8], dist := 5, last := some (604801000, 0, 0) } : MpAcct).workDist / (if w_metRead.param 7 [] = 0 then 1000 else 10000) < 2 ^ 32 → (w_metRead.metBytes ({ eui := [1, 2, 3, 4, 5, 6, 7, 8], dist := 5, last := some (604801000, 0, 0) } : MpAcct)).drop 44 = leBytes 4 (({ eui := [1, 2, 3, 4, 5, 6, 7, 8], dist := 5, last := some (604801000, 0, 0) } : MpAcct).workDist / (if w_metRead.param 7 [] = 0 then 1000 else 10000)))))
    | _ => false) = true := by decide +kernel

def w_metRead_unknown : State := { wRun [(ECP_CTRL_AUTH_REQ, 0), (MET_SESSION_SESSION, 0x101), (MET_STATUS_SEAL_OPEN, 1)] with ply := 500, mp := { running := true, image := [1, 2, 3], sealSince := some 490 }, ecp := { State.reset.ecp with sessions := [{ id := 3, port := 1, ip := 0x0A000001, udp := 5000, devSeq := 7 }] } }

theorem test_metRead_unknown : ((w_metRead_unknown.stopSafe = true) ∧ (w_metRead_unknown.accepts 0x0C01 3 9 false = true) ∧ (w_metRead_unknown.mpDown = false) ∧ (([1, 2, 3, 4, 5, 6, 7, 8] : List Nat).length = 8) ∧ (w_metRead_unknown.acctOf ([1, 2, 3, 4, 5, 6, 7, 8] : List Nat) = none)) ∧ (match exec (.metRead 3 9 (([1, 2, 3, 4, 5, 6, 7, 8] : List Nat))) w_metRead_unknown with
    | .next t => decide ((answers w_metRead_unknown t [] 0x0C01 3 9 Ecp.BAD_PARAM (crc32c (([1, 2, 3, 4, 5, 6, 7, 8] : List Nat))) [] = true))
    | _ => false) = true := by decide +kernel

def w_metParamSet : State := { wRun [(ECP_CTRL_AUTH_REQ, 0), (MET_SESSION_SESSION, 0x101), (MET_STATUS_SEAL_OPEN, 1)] with ply := 500, mp := { running := true, image := [1, 2, 3], sealSince := some 490 }, ecp := { State.reset.ecp with sessions := [{ id := 3, port := 1, ip := 0x0A000001, udp := 5000, devSeq := 7 }] } }

theorem test_metParamSet : ((w_metParamSet.stopSafe = true) ∧ (w_metParamSet.accepts 0x0C02 3 9 false = true) ∧ (w_metParamSet.mpDown = false) ∧ (5 < 8) ∧ (paramOk 5 1000 = true) ∧ (([1, 2, 3, 4, 5, 6, 7, 8] : List Nat).length = 8) ∧ (1000 < 2 ^ 32) ∧ (5 = 1 → (w_metParamSet.acctOf ([1, 2, 3, 4, 5, 6, 7, 8] : List Nat)).isSome = true) ∧ (w_metParamSet.sealOpen = true) ∧ (w_metParamSet.audit.length < 4096)) ∧ (match exec (.metParamSet 3 9 (([5, 0, 0, 0] ++ ([1, 2, 3, 4, 5, 6, 7, 8] : List Nat) ++ leBytes 4 1000)) true) w_metParamSet with
    | .next t => decide ((answers w_metParamSet t [] 0x0C02 3 9 Ecp.OK (crc32c ([5, 0, 0, 0] ++ ([1, 2, 3, 4, 5, 6, 7, 8] : List Nat) ++ leBytes 4 1000)) (leBytes 2 w_metParamSet.audit.length ++ [0, 0]) = true) ∧ (t.audit = w_metParamSet.audit ++ [(true, (leBytes 2 w_metParamSet.audit.length ++ [5, 0] ++ (if 5 = 1 ∨ 5 = 8 then ([1, 2, 3, 4, 5, 6, 7, 8] : List Nat) else List.replicate 8 0) ++ leBytes 4 (if 5 = 8 then 0 else w_metParamSet.param 5 ([1, 2, 3, 4, 5, 6, 7, 8] : List Nat)) ++ leBytes 4 1000 ++ leBytes 4 (w_metParamSet.get REC_AON_OH_SECONDS) ++ leBytes 4 (w_metParamSet.get MET_SESSION_SESSION)) ++ leBytes 4 (crc32c (leBytes 2 w_metParamSet.audit.length ++ [5, 0] ++ (if 5 = 1 ∨ 5 = 8 then ([1, 2, 3, 4, 5, 6, 7, 8] : List Nat) else List.replicate 8 0) ++ leBytes 4 (if 5 = 8 then 0 else w_metParamSet.param 5 ([1, 2, 3, 4, 5, 6, 7, 8] : List Nat)) ++ leBytes 4 1000 ++ leBytes 4 (w_metParamSet.get REC_AON_OH_SECONDS) ++ leBytes 4 (w_metParamSet.get MET_SESSION_SESSION))))]) ∧ (t.param 5 ([1, 2, 3, 4, 5, 6, 7, 8] : List Nat) = 1000) ∧ (Reads t [(MET_STATUS_AUDIT_CNT, min (w_metParamSet.audit.length + 1) 0xFFF), (MET_STATUS_AUDIT_LOW, b2n (decide (4000 ≤ w_metParamSet.audit.length + 1))), (MET_STATUS2_AUDIT_FULL, b2n (decide (4096 ≤ w_metParamSet.audit.length + 1)))]))
    | _ => false) = true := by decide +kernel

def w_metParamSet_free : State := { wRun [(ECP_CTRL_AUTH_REQ, 0), (MET_SESSION_SESSION, 0x101), (MET_STATUS_SEAL_OPEN, 1)] with ply := 500, mp := { running := true, image := [1, 2, 3], sealSince := some 490, accts := [{ eui := [1, 2, 3, 4, 5, 6, 7, 8], dist := 5, last := some (604801000, 0, 0) }] }, ecp := { State.reset.ecp with sessions := [{ id := 3, port := 1, ip := 0x0A000001, udp := 5000, devSeq := 7 }] } }

theorem test_metParamSet_free : ((w_metParamSet_free.stopSafe = true) ∧ (w_metParamSet_free.accepts 0x0C02 3 9 false = true) ∧ (w_metParamSet_free.mpDown = false) ∧ (([1, 2, 3, 4, 5, 6, 7, 8] : List Nat).length = 8) ∧ (0 < 2 ^ 32) ∧ ((w_metParamSet_free.acctOf ([1, 2, 3, 4, 5, 6, 7, 8] : List Nat)).isSome = true) ∧ (w_metParamSet_free.mp.map.any (fun e => e.2 == ([1, 2, 3, 4, 5, 6, 7, 8] : List Nat)) = false) ∧ (w_metParamSet_free.sealOpen = true) ∧ (w_metParamSet_free.audit.length < 4096)) ∧ (match exec (.metParamSet 3 9 (([8, 0, 0, 0] ++ ([1, 2, 3, 4, 5, 6, 7, 8] : List Nat) ++ leBytes 4 0)) true) w_metParamSet_free with
    | .next t => decide ((answers w_metParamSet_free t [] 0x0C02 3 9 Ecp.OK (crc32c ([8, 0, 0, 0] ++ ([1, 2, 3, 4, 5, 6, 7, 8] : List Nat) ++ leBytes 4 0)) (leBytes 2 w_metParamSet_free.audit.length ++ [0, 0]) = true) ∧ (t.audit = w_metParamSet_free.audit ++ [(true, (leBytes 2 w_metParamSet_free.audit.length ++ [8, 0] ++ ([1, 2, 3, 4, 5, 6, 7, 8] : List Nat) ++ leBytes 4 0 ++ leBytes 4 0 ++ leBytes 4 (w_metParamSet_free.get REC_AON_OH_SECONDS) ++ leBytes 4 (w_metParamSet_free.get MET_SESSION_SESSION)) ++ leBytes 4 (crc32c (leBytes 2 w_metParamSet_free.audit.length ++ [8, 0] ++ ([1, 2, 3, 4, 5, 6, 7, 8] : List Nat) ++ leBytes 4 0 ++ leBytes 4 0 ++ leBytes 4 (w_metParamSet_free.get REC_AON_OH_SECONDS) ++ leBytes 4 (w_metParamSet_free.get MET_SESSION_SESSION))))]) ∧ (t.mp = { w_metParamSet_free.mp with accts := w_metParamSet_free.mp.accts.filter (fun (a : MpAcct) => a.eui ≠ ([1, 2, 3, 4, 5, 6, 7, 8] : List Nat)) }) ∧ (Reads t [(MET_STATUS_AUDIT_CNT, min (w_metParamSet_free.audit.length + 1) 0xFFF), (MET_STATUS_AUDIT_LOW, b2n (decide (4000 ≤ w_metParamSet_free.audit.length + 1))), (MET_STATUS2_AUDIT_FULL, b2n (decide (4096 ≤ w_metParamSet_free.audit.length + 1)))]) ∧ (Reads t [(MET_STATUS2_ACCOUNTS, t.mp.accts.length % 2 ^ MET_STATUS2_ACCOUNTS.w), (MET_STATUS_ACCT_FULL, 0)]))
    | _ => false) = true := by decide +kernel

def w_metParamSet_sealed : State := { wRun [(ECP_CTRL_AUTH_REQ, 0), (MET_SESSION_SESSION, 0x101), (MET_STATUS_SEAL_OPEN, 1), (MET_STATUS_SEAL_OPEN, 0)] with ply := 500, mp := { running := true, image := [1, 2, 3], sealSince := some 490 }, ecp := { State.reset.ecp with sessions := [{ id := 3, port := 1, ip := 0x0A000001, udp := 5000, devSeq := 7 }] } }

theorem test_metParamSet_sealed : ((w_metParamSet_sealed.stopSafe = true) ∧ (w_metParamSet_sealed.accepts 0x0C02 3 9 false = true) ∧ (w_metParamSet_sealed.mpDown = false) ∧ (7 < 9) ∧ (paramOk 7 1 = true) ∧ (([1, 2, 3, 4, 5, 6, 7, 8] : List Nat).length = 8) ∧ (1 < 2 ^ 32) ∧ (7 = 1 ∨ 7 = 8 → (w_metParamSet_sealed.acctOf ([1, 2, 3, 4, 5, 6, 7, 8] : List Nat)).isSome = true) ∧ (7 = 8 → w_metParamSet_sealed.mp.map.any (fun e => e.2 == ([1, 2, 3, 4, 5, 6, 7, 8] : List Nat)) = false) ∧ (w_metParamSet_sealed.sealOpen = false)) ∧ (match exec (.metParamSet 3 9 (([7, 0, 0, 0] ++ ([1, 2, 3, 4, 5, 6, 7, 8] : List Nat) ++ leBytes 4 1)) true) w_metParamSet_sealed with
    | .next t => decide ((answers w_metParamSet_sealed t [] 0x0C02 3 9 Ecp.LOCKED (crc32c ([7, 0, 0, 0] ++ ([1, 2, 3, 4, 5, 6, 7, 8] : List Nat) ++ leBytes 4 1)) [] = true))
    | _ => false) = true := by decide +kernel

def w_metParamSet_full : State := { { wRun [(ECP_CTRL_AUTH_REQ, 0), (MET_SESSION_SESSION, 0x101), (MET_STATUS_SEAL_OPEN, 1)] with ply := 500, mp := { running := true, image := [1, 2, 3], sealSince := some 490 }, ecp := { State.reset.ecp with sessions := [{ id := 3, port := 1, ip := 0x0A000001, udp := 5000, devSeq := 7 }] } } with audit := List.replicate 4096 (true, []) }

theorem test_metParamSet_full : ((w_metParamSet_full.stopSafe = true) ∧ (w_metParamSet_full.accepts 0x0C02 3 9 false = true) ∧ (w_metParamSet_full.mpDown = false) ∧ (7 < 9) ∧ (paramOk 7 1 = true) ∧ (([1, 2, 3, 4, 5, 6, 7, 8] : List Nat).length = 8) ∧ (1 < 2 ^ 32) ∧ (7 = 1 ∨ 7 = 8 → (w_metParamSet_full.acctOf ([1, 2, 3, 4, 5, 6, 7, 8] : List Nat)).isSome = true) ∧ (7 = 8 → w_metParamSet_full.mp.map.any (fun e => e.2 == ([1, 2, 3, 4, 5, 6, 7, 8] : List Nat)) = false) ∧ (w_metParamSet_full.sealOpen = true) ∧ (4096 ≤ w_metParamSet_full.audit.length)) ∧ (match exec (.metParamSet 3 9 (([7, 0, 0, 0] ++ ([1, 2, 3, 4, 5, 6, 7, 8] : List Nat) ++ leBytes 4 1)) true) w_metParamSet_full with
    | .next t => decide ((answers w_metParamSet_full t [] 0x0C02 3 9 Ecp.DENIED (crc32c ([7, 0, 0, 0] ++ ([1, 2, 3, 4, 5, 6, 7, 8] : List Nat) ++ leBytes 4 1)) [] = true))
    | _ => false) = true := by decide +kernel

def w_metParamSet_bad : State := { wRun [(ECP_CTRL_AUTH_REQ, 0), (MET_SESSION_SESSION, 0x101), (MET_STATUS_SEAL_OPEN, 1)] with ply := 500, mp := { running := true, image := [1, 2, 3], sealSince := some 490 }, ecp := { State.reset.ecp with sessions := [{ id := 3, port := 1, ip := 0x0A000001, udp := 5000, devSeq := 7 }] } }

theorem test_metParamSet_bad : ((w_metParamSet_bad.stopSafe = true) ∧ (w_metParamSet_bad.accepts 0x0C02 3 9 false = true) ∧ (w_metParamSet_bad.mpDown = false) ∧ (9 < 256) ∧ (1 < 2 ^ 32) ∧ (0 < 2 ^ 24) ∧ (([1, 2, 3, 4, 5, 6, 7, 8] : List Nat).length = 8) ∧ (paramOk 9 1 = false ∨ 0 ≠ 0 ∨ ((9 = 1 ∨ 9 = 8) ∧ w_metParamSet_bad.acctOf ([1, 2, 3, 4, 5, 6, 7, 8] : List Nat) = none) ∨ (9 = 8 ∧ w_metParamSet_bad.mp.map.any (fun e => e.2 == ([1, 2, 3, 4, 5, 6, 7, 8] : List Nat)) = true))) ∧ (match exec (.metParamSet 3 9 (([9] ++ leBytes 3 0 ++ ([1, 2, 3, 4, 5, 6, 7, 8] : List Nat) ++ leBytes 4 1)) true) w_metParamSet_bad with
    | .next t => decide ((answers w_metParamSet_bad t [] 0x0C02 3 9 Ecp.BAD_PARAM (crc32c ([9] ++ leBytes 3 0 ++ ([1, 2, 3, 4, 5, 6, 7, 8] : List Nat) ++ leBytes 4 1)) [] = true))
    | _ => false) = true := by decide +kernel

def w_metParamSet_torn : State := { wRun [(ECP_CTRL_AUTH_REQ, 0), (MET_SESSION_SESSION, 0x101), (MET_STATUS_SEAL_OPEN, 1)] with ply := 500, mp := { running := true, image := [1, 2, 3], sealSince := some 490 }, ecp := { State.reset.ecp with sessions := [{ id := 3, port := 1, ip := 0x0A000001, udp := 5000, devSeq := 7 }] } }

theorem test_metParamSet_torn : ((w_metParamSet_torn.stopSafe = true) ∧ (w_metParamSet_torn.accepts 0x0C02 3 9 false = true) ∧ (w_metParamSet_torn.mpDown = false) ∧ (2 < 9) ∧ (paramOk 2 1 = true) ∧ (([1, 2, 3, 4, 5, 6, 7, 8] : List Nat).length = 8) ∧ (1 < 2 ^ 32) ∧ (2 = 1 ∨ 2 = 8 → (w_metParamSet_torn.acctOf ([1, 2, 3, 4, 5, 6, 7, 8] : List Nat)).isSome = true) ∧ (2 = 8 → w_metParamSet_torn.mp.map.any (fun e => e.2 == ([1, 2, 3, 4, 5, 6, 7, 8] : List Nat)) = false) ∧ (w_metParamSet_torn.sealOpen = true) ∧ (w_metParamSet_torn.audit.length < 4096)) ∧ (match exec (.metParamSet 3 9 (([2, 0, 0, 0] ++ ([1, 2, 3, 4, 5, 6, 7, 8] : List Nat) ++ leBytes 4 1)) false) w_metParamSet_torn with
    | .next t => decide ((answers w_metParamSet_torn t [] 0x0C02 3 9 Ecp.INTERNAL_ERROR (crc32c ([2, 0, 0, 0] ++ ([1, 2, 3, 4, 5, 6, 7, 8] : List Nat) ++ leBytes 4 1)) [] = true) ∧ (Reads t [(MET_STATUS_AUDIT_TORN, 1)]) ∧ (t.audit.length = w_metParamSet_torn.audit.length + 1) ∧ (t.audit.take w_metParamSet_torn.audit.length = w_metParamSet_torn.audit) ∧ (t.audit.getLast?.map (·.1) = some false) ∧ (t.evr = (w_metParamSet_torn.record .internalError (leBytes 2 0x0C02 ++ leBytes 2 9)).evr))
    | _ => false) = true := by decide +kernel

def w_metAuditRead : State := { { wRun [(ECP_CTRL_AUTH_REQ, 0), (MET_SESSION_SESSION, 0x101), (MET_STATUS_SEAL_OPEN, 1)] with ply := 500, mp := { running := true, image := [1, 2, 3], sealSince := some 490 }, ecp := { State.reset.ecp with sessions := [{ id := 3, port := 1, ip := 0x0A000001, udp := 5000, devSeq := 7 }] } } with audit := [(true, [1]), (true, [2, 3]), (false, [4])] }

theorem test_metAuditRead : ((w_metAuditRead.stopSafe = true) ∧ (w_metAuditRead.accepts 0x0C03 3 9 false = true) ∧ (w_metAuditRead.mpDown = false) ∧ (1 ≤ 2 ∧ 2 ≤ 40) ∧ (1 + 2 ≤ w_metAuditRead.audit.length) ∧ (1 < 65536)) ∧ (match exec (.metAuditRead 3 9 ((leBytes 2 1 ++ [2, 0]))) w_metAuditRead with
    | .next t => decide ((answers w_metAuditRead t [] 0x0C03 3 9 Ecp.OK (crc32c (leBytes 2 1 ++ [2, 0])) (((w_metAuditRead.audit.drop 1).take 2).flatMap (·.2)) = true))
    | _ => false) = true := by decide +kernel

def w_metAuditRead_bad : State := { wRun [(ECP_CTRL_AUTH_REQ, 0), (MET_SESSION_SESSION, 0x101), (MET_STATUS_SEAL_OPEN, 1)] with ply := 500, mp := { running := true, image := [1, 2, 3], sealSince := some 490 }, ecp := { State.reset.ecp with sessions := [{ id := 3, port := 1, ip := 0x0A000001, udp := 5000, devSeq := 7 }] } }

theorem test_metAuditRead_bad : ((w_metAuditRead_bad.stopSafe = true) ∧ (w_metAuditRead_bad.accepts 0x0C03 3 9 false = true) ∧ (w_metAuditRead_bad.mpDown = false) ∧ (1 < 65536) ∧ (2 < 256) ∧ (0 < 256) ∧ (2 = 0 ∨ 40 < 2 ∨ 0 ≠ 0 ∨ w_metAuditRead_bad.audit.length < 1 + 2)) ∧ (match exec (.metAuditRead 3 9 ((leBytes 2 1 ++ [2, 0]))) w_metAuditRead_bad with
    | .next t => decide ((answers w_metAuditRead_bad t [] 0x0C03 3 9 Ecp.BAD_PARAM (crc32c (leBytes 2 1 ++ [2, 0])) [] = true))
    | _ => false) = true := by decide +kernel

def w_crcTakeWrite : State := withSess (wRun [(CRC_CTRL_OWNER 3, 0), (CRC_CTRL_W 3, 32), (CRC_POLY_LO_POLY 3, 0x1EDC6F41), (CRC_INIT_LO_INIT 3, 0xFFFFFFFF), (CRC_XOR_LO_XOROUT 3, 0xFFFFFFFF), (CRC_CTRL_REFIN 3, 1), (CRC_CTRL_REFOUT 3, 1), (CRC_STATE_LO_STATE 3, 0xFFFFFFFF)])

theorem test_crcTakeWrite : ((w_crcTakeWrite.stopSafe = true) ∧ (3 < 16) ∧ (MayWrite w_crcTakeWrite 0x1F (crcAddr 3 0)) ∧ (3 < 12) ∧ (capable 0x1F = true) ∧ (w_crcTakeWrite.get (CRC_CTRL_OWNER 3) = 0)) ∧ (match exec (.crcTakeWrite 0x1F 3) w_crcTakeWrite with
    | .next t => decide ((Reads t [(CRC_CTRL_OWNER 3, 0x1F)]))
    | _ => false) = true := by decide +kernel

def w_crcTakeWrite_held : State := withSess (wRun [(CRC_CTRL_OWNER 3, 1), (CRC_CTRL_W 3, 32), (CRC_POLY_LO_POLY 3, 0x1EDC6F41), (CRC_INIT_LO_INIT 3, 0xFFFFFFFF), (CRC_XOR_LO_XOROUT 3, 0xFFFFFFFF), (CRC_CTRL_REFIN 3, 1), (CRC_CTRL_REFOUT 3, 1), (CRC_STATE_LO_STATE 3, 0xFFFFFFFF)])

theorem test_crcTakeWrite_held : ((w_crcTakeWrite_held.stopSafe = true) ∧ (16 ≤ 3 ∨ (MayWrite w_crcTakeWrite_held 0x1F (crcAddr 3 0) ∧ (12 ≤ 3 ∨ capable 0x1F = false ∨ w_crcTakeWrite_held.get (CRC_CTRL_OWNER 3) ≠ 0)))) ∧ (match exec (.crcTakeWrite 0x1F 3) w_crcTakeWrite_held with
    | .next t => decide ((t = w_crcTakeWrite_held))
    | _ => false) = true := by decide +kernel

def w_crcTakeWrite_rook : State := { wRun [] with rook := { State.reset.rook with svc := true } }

theorem test_crcTakeWrite_rook : ((w_crcTakeWrite_rook.stopSafe = true) ∧ (w_crcTakeWrite_rook.judge 0x30 (crcAddr 15 0) true = .ok)) ∧ (match exec (.crcTakeWrite 0x30 15) w_crcTakeWrite_rook with
    | .next t => decide ((t = w_crcTakeWrite_rook.rookWrote 0x30 (crcAddr 15 0)))
    | _ => false) = true := by decide +kernel

def w_crcReleaseWrite : State := withSess (wRun [(CRC_CTRL_OWNER 3, 0x10), (CRC_CTRL_W 3, 32), (CRC_POLY_LO_POLY 3, 0x1EDC6F41), (CRC_INIT_LO_INIT 3, 0xFFFFFFFF), (CRC_XOR_LO_XOROUT 3, 0xFFFFFFFF), (CRC_CTRL_REFIN 3, 1), (CRC_CTRL_REFOUT 3, 1), (CRC_STATE_LO_STATE 3, 0xFFFFFFFF)])

theorem test_crcReleaseWrite : ((w_crcReleaseWrite.stopSafe = true) ∧ (3 < 16) ∧ (MayWrite w_crcReleaseWrite 0x10 (crcAddr 3 0)) ∧ (3 < 12) ∧ (w_crcReleaseWrite.crcMay 0x10 3 = true)) ∧ (match exec (.crcReleaseWrite 0x10 3) w_crcReleaseWrite with
    | .next t => decide ((Reads t [(CRC_CTRL_OWNER 3, 0), (CRC_CTRL_SNOOP_SRC 3, 0)]))
    | _ => false) = true := by decide +kernel

def w_crcReleaseWrite_refused : State := withSess (wRun [(CRC_CTRL_OWNER 3, 1), (CRC_CTRL_W 3, 32), (CRC_POLY_LO_POLY 3, 0x1EDC6F41), (CRC_INIT_LO_INIT 3, 0xFFFFFFFF), (CRC_XOR_LO_XOROUT 3, 0xFFFFFFFF), (CRC_CTRL_REFIN 3, 1), (CRC_CTRL_REFOUT 3, 1), (CRC_STATE_LO_STATE 3, 0xFFFFFFFF)])

theorem test_crcReleaseWrite_refused : ((w_crcReleaseWrite_refused.stopSafe = true) ∧ (16 ≤ 3 ∨ (MayWrite w_crcReleaseWrite_refused 0x1F (crcAddr 3 0) ∧ (12 ≤ 3 ∨ w_crcReleaseWrite_refused.crcMay 0x1F 3 = false)))) ∧ (match exec (.crcReleaseWrite 0x1F 3) w_crcReleaseWrite_refused with
    | .next t => decide ((t = w_crcReleaseWrite_refused))
    | _ => false) = true := by decide +kernel

def w_crcReleaseWrite_rook : State := { wRun [] with rook := { State.reset.rook with svc := true } }

theorem test_crcReleaseWrite_rook : ((w_crcReleaseWrite_rook.stopSafe = true) ∧ (w_crcReleaseWrite_rook.judge 0x30 (crcAddr 15 0) true = .ok)) ∧ (match exec (.crcReleaseWrite 0x30 15) w_crcReleaseWrite_rook with
    | .next t => decide ((t = w_crcReleaseWrite_rook.rookWrote 0x30 (crcAddr 15 0)))
    | _ => false) = true := by decide +kernel

def w_crcClear : State := withSess (wRun [(CRC_CTRL_OWNER 3, 0x10), (CRC_CTRL_W 3, 32), (CRC_POLY_LO_POLY 3, 0x1EDC6F41), (CRC_INIT_LO_INIT 3, 0xFFFFFFFF), (CRC_XOR_LO_XOROUT 3, 0xFFFFFFFF), (CRC_CTRL_REFIN 3, 1), (CRC_CTRL_REFOUT 3, 1), (CRC_STATE_LO_STATE 3, 0xFFFFFFFF), (CRC_STATUS_DONE 3, 1), (CRC_BYTES_LO_BYTES 3, 8), (CRC_STATE_LO_STATE 3, 1)])

theorem test_crcClear : ((w_crcClear.stopSafe = true) ∧ (3 < 16) ∧ (MayWrite w_crcClear 0x10 (crcAddr 3 0)) ∧ (w_crcClear.crcMay 0x10 3 = true) ∧ (w_crcClear.crcBusy 3 = false)) ∧ (match exec (.crcClear 0x10 3) w_crcClear with
    | .next t => decide ((t.crcReg 3 = (w_crcClear.crcInit 3) % 2 ^ 64) ∧ (t.wide (CRC_RESULT_LO_RESULT 3) (CRC_RESULT_HI_RESULT 3) = (crcFinish (w_crcClear.get (CRC_CTRL_W 3)) (w_crcClear.bit (CRC_CTRL_REFOUT 3)) (w_crcClear.wide (CRC_XOR_LO_XOROUT 3) (CRC_XOR_HI_XOROUT 3)) (w_crcClear.crcInit 3)) % 2 ^ 64) ∧ (Reads t [(CRC_BYTES_LO_BYTES 3, 0), (CRC_BYTES_HI_BYTES 3, 0), (CRC_STATUS_DONE 3, 0), (CRC_STATUS_ERROR 3, 0)]))
    | _ => false) = true := by decide +kernel

def w_crcClear_refused : State := withSess (wRun [(CRC_CTRL_OWNER 3, 0x10), (CRC_CTRL_W 3, 32), (CRC_POLY_LO_POLY 3, 0x1EDC6F41), (CRC_INIT_LO_INIT 3, 0xFFFFFFFF), (CRC_XOR_LO_XOROUT 3, 0xFFFFFFFF), (CRC_CTRL_REFIN 3, 1), (CRC_CTRL_REFOUT 3, 1), (CRC_STATE_LO_STATE 3, 0xFFFFFFFF), (CRC_CTRL_SNOOP_SRC 3, 30)])

theorem test_crcClear_refused : ((w_crcClear_refused.stopSafe = true) ∧ (16 ≤ 3 ∨ (MayWrite w_crcClear_refused 0x10 (crcAddr 3 0) ∧ (w_crcClear_refused.crcMay 0x10 3 = false ∨ w_crcClear_refused.crcBusy 3 = true)))) ∧ (match exec (.crcClear 0x10 3) w_crcClear_refused with
    | .next t => decide ((t = w_crcClear_refused))
    | _ => false) = true := by decide +kernel

def w_crcClear_rook : State := { wRun [(CRC_STATE_LO_STATE 15, 3)] with rook := { State.reset.rook with svc := true } }

theorem test_crcClear_rook : ((w_crcClear_rook.stopSafe = true) ∧ (w_crcClear_rook.judge 0x30 (crcAddr 15 0) true = .ok)) ∧ (match exec (.crcClear 0x30 15) w_crcClear_rook with
    | .next t => decide ((t = (if w_crcClear_rook.crcBusy 15 = true then w_crcClear_rook.rookWrote 0x30 (crcAddr 15 0) else State.crcClear 15 (w_crcClear_rook.rookWrote 0x30 (crcAddr 15 0)))))
    | _ => false) = true := by decide +kernel

def w_crcFeedWrite : State := withSess (wRun [(CRC_CTRL_OWNER 3, 0x10), (CRC_CTRL_W 3, 32), (CRC_POLY_LO_POLY 3, 0x1EDC6F41), (CRC_INIT_LO_INIT 3, 0xFFFFFFFF), (CRC_XOR_LO_XOROUT 3, 0xFFFFFFFF), (CRC_CTRL_REFIN 3, 1), (CRC_CTRL_REFOUT 3, 1), (CRC_STATE_LO_STATE 3, 0xFFFFFFFF)])

theorem test_crcFeedWrite : ((w_crcFeedWrite.stopSafe = true) ∧ (3 < 16) ∧ (MayWrite w_crcFeedWrite 0x10 (crcAddr 3 0x48)) ∧ (w_crcFeedWrite.crcMay 0x10 3 = true) ∧ (w_crcFeedWrite.crcBusy 3 = false)) ∧ (match exec (.crcFeedWrite 0x10 3 false 0x34333231) w_crcFeedWrite with
    | .next t => decide ((t.crcReg 3 = (crcFeed (w_crcFeedWrite.get (CRC_CTRL_W 3)) (w_crcFeedWrite.wide (CRC_POLY_LO_POLY 3) (CRC_POLY_HI_POLY 3)) (w_crcFeedWrite.bit (CRC_CTRL_REFIN 3)) (w_crcFeedWrite.crcReg 3) (leBytes 4 0x34333231)) % 2 ^ 64) ∧ (t.wide (CRC_RESULT_LO_RESULT 3) (CRC_RESULT_HI_RESULT 3) = (crcFinish (w_crcFeedWrite.get (CRC_CTRL_W 3)) (w_crcFeedWrite.bit (CRC_CTRL_REFOUT 3)) (w_crcFeedWrite.wide (CRC_XOR_LO_XOROUT 3) (CRC_XOR_HI_XOROUT 3)) (crcFeed (w_crcFeedWrite.get (CRC_CTRL_W 3)) (w_crcFeedWrite.wide (CRC_POLY_LO_POLY 3) (CRC_POLY_HI_POLY 3)) (w_crcFeedWrite.bit (CRC_CTRL_REFIN 3)) (w_crcFeedWrite.crcReg 3) (leBytes 4 0x34333231))) % 2 ^ 64) ∧ (t.wide (CRC_BYTES_LO_BYTES 3) (CRC_BYTES_HI_BYTES 3) = (w_crcFeedWrite.wide (CRC_BYTES_LO_BYTES 3) (CRC_BYTES_HI_BYTES 3) + 4) % 2 ^ 64))
    | _ => false) = true := by decide +kernel

def w_crcFeedWrite_byte : State := withSess (wRun [(CRC_CTRL_OWNER 3, 0x10), (CRC_CTRL_W 3, 32), (CRC_POLY_LO_POLY 3, 0x1EDC6F41), (CRC_INIT_LO_INIT 3, 0xFFFFFFFF), (CRC_XOR_LO_XOROUT 3, 0xFFFFFFFF), (CRC_CTRL_REFIN 3, 1), (CRC_CTRL_REFOUT 3, 1), (CRC_STATE_LO_STATE 3, 0xFFFFFFFF), (CRC_BYTES_LO_BYTES 3, 0xFFFFFFFF)])

theorem test_crcFeedWrite_byte : ((w_crcFeedWrite_byte.stopSafe = true) ∧ (3 < 16) ∧ (MayWrite w_crcFeedWrite_byte 0x10 (crcAddr 3 0x4C)) ∧ (w_crcFeedWrite_byte.crcMay 0x10 3 = true) ∧ (w_crcFeedWrite_byte.crcBusy 3 = false)) ∧ (match exec (.crcFeedWrite 0x10 3 true 0x34333231) w_crcFeedWrite_byte with
    | .next t => decide ((t.crcReg 3 = (crcFeed (w_crcFeedWrite_byte.get (CRC_CTRL_W 3)) (w_crcFeedWrite_byte.wide (CRC_POLY_LO_POLY 3) (CRC_POLY_HI_POLY 3)) (w_crcFeedWrite_byte.bit (CRC_CTRL_REFIN 3)) (w_crcFeedWrite_byte.crcReg 3) [0x34333231 % 256]) % 2 ^ 64) ∧ (t.wide (CRC_RESULT_LO_RESULT 3) (CRC_RESULT_HI_RESULT 3) = (crcFinish (w_crcFeedWrite_byte.get (CRC_CTRL_W 3)) (w_crcFeedWrite_byte.bit (CRC_CTRL_REFOUT 3)) (w_crcFeedWrite_byte.wide (CRC_XOR_LO_XOROUT 3) (CRC_XOR_HI_XOROUT 3)) (crcFeed (w_crcFeedWrite_byte.get (CRC_CTRL_W 3)) (w_crcFeedWrite_byte.wide (CRC_POLY_LO_POLY 3) (CRC_POLY_HI_POLY 3)) (w_crcFeedWrite_byte.bit (CRC_CTRL_REFIN 3)) (w_crcFeedWrite_byte.crcReg 3) [0x34333231 % 256])) % 2 ^ 64) ∧ (t.wide (CRC_BYTES_LO_BYTES 3) (CRC_BYTES_HI_BYTES 3) = (w_crcFeedWrite_byte.wide (CRC_BYTES_LO_BYTES 3) (CRC_BYTES_HI_BYTES 3) + 1) % 2 ^ 64))
    | _ => false) = true := by decide +kernel

def w_crcFeedWrite_refused : State := withSess (wRun [(CRC_CTRL_OWNER 3, 0x10), (CRC_CTRL_W 3, 32), (CRC_POLY_LO_POLY 3, 0x1EDC6F41), (CRC_INIT_LO_INIT 3, 0xFFFFFFFF), (CRC_XOR_LO_XOROUT 3, 0xFFFFFFFF), (CRC_CTRL_REFIN 3, 1), (CRC_CTRL_REFOUT 3, 1), (CRC_STATE_LO_STATE 3, 0xFFFFFFFF), (CRC_CTRL_SNOOP_SRC 3, 30)])

theorem test_crcFeedWrite_refused : ((w_crcFeedWrite_refused.stopSafe = true) ∧ (16 ≤ 3 ∨ (MayWrite w_crcFeedWrite_refused 0x10 (crcAddr 3 (if true = true then 0x4C else 0x48)) ∧ (w_crcFeedWrite_refused.crcMay 0x10 3 = false ∨ w_crcFeedWrite_refused.crcBusy 3 = true)))) ∧ (match exec (.crcFeedWrite 0x10 3 true 1) w_crcFeedWrite_refused with
    | .next t => decide ((t = w_crcFeedWrite_refused))
    | _ => false) = true := by decide +kernel

def w_crcFeedWrite_rook : State := { wRun [(CRC_STATE_LO_STATE 15, 3)] with rook := { State.reset.rook with svc := true } }

theorem test_crcFeedWrite_rook : ((w_crcFeedWrite_rook.stopSafe = true) ∧ (w_crcFeedWrite_rook.judge 0x30 (crcAddr 15 (if true = true then 0x4C else 0x48)) true = .ok)) ∧ (match exec (.crcFeedWrite 0x30 15 true 7) w_crcFeedWrite_rook with
    | .next t => decide ((t = (if w_crcFeedWrite_rook.crcBusy 15 = true then w_crcFeedWrite_rook.rookWrote 0x30 (crcAddr 15 (if true = true then 0x4C else 0x48)) else State.crcTake 15 (if true = true then [7 % 256] else leBytes 4 7) (w_crcFeedWrite_rook.rookWrote 0x30 (crcAddr 15 (if true = true then 0x4C else 0x48))))))
    | _ => false) = true := by decide +kernel

def w_crcStateRestore : State := withSess (wRun [(CRC_CTRL_OWNER 3, 0x10), (CRC_CTRL_W 3, 32), (CRC_POLY_LO_POLY 3, 0x1EDC6F41), (CRC_INIT_LO_INIT 3, 0xFFFFFFFF), (CRC_XOR_LO_XOROUT 3, 0xFFFFFFFF), (CRC_CTRL_REFIN 3, 1), (CRC_CTRL_REFOUT 3, 1), (CRC_STATE_LO_STATE 3, 0xFFFFFFFF), (CRC_CTRL_W 3, 64)])

theorem test_crcStateRestore : ((w_crcStateRestore.stopSafe = true) ∧ (3 < 16) ∧ (MayWrite w_crcStateRestore 0x10 (crcAddr 3 0x20)) ∧ (w_crcStateRestore.crcMay 0x10 3 = true) ∧ (w_crcStateRestore.crcBusy 3 = false)) ∧ (match exec (.crcStateRestore 0x10 3 true 0x12345678) w_crcStateRestore with
    | .next t => decide ((t.crcReg 3 = (w_crcStateRestore.crcReg 3 % 2 ^ 32 + 0x12345678 % 2 ^ 32 * 2 ^ 32) % 2 ^ 64) ∧ (t.wide (CRC_RESULT_LO_RESULT 3) (CRC_RESULT_HI_RESULT 3) = (crcFinish (w_crcStateRestore.get (CRC_CTRL_W 3)) (w_crcStateRestore.bit (CRC_CTRL_REFOUT 3)) (w_crcStateRestore.wide (CRC_XOR_LO_XOROUT 3) (CRC_XOR_HI_XOROUT 3)) (w_crcStateRestore.crcReg 3 % 2 ^ 32 + 0x12345678 % 2 ^ 32 * 2 ^ 32)) % 2 ^ 64) ∧ (t.wide (CRC_BYTES_LO_BYTES 3) (CRC_BYTES_HI_BYTES 3) = (w_crcStateRestore.wide (CRC_BYTES_LO_BYTES 3) (CRC_BYTES_HI_BYTES 3) + 0) % 2 ^ 64))
    | _ => false) = true := by decide +kernel

def w_crcStateRestore_low : State := withSess (wRun [(CRC_CTRL_OWNER 3, 0x10), (CRC_CTRL_W 3, 32), (CRC_POLY_LO_POLY 3, 0x1EDC6F41), (CRC_INIT_LO_INIT 3, 0xFFFFFFFF), (CRC_XOR_LO_XOROUT 3, 0xFFFFFFFF), (CRC_CTRL_REFIN 3, 1), (CRC_CTRL_REFOUT 3, 1), (CRC_STATE_LO_STATE 3, 0xFFFFFFFF)])

theorem test_crcStateRestore_low : ((w_crcStateRestore_low.stopSafe = true) ∧ (3 < 16) ∧ (MayWrite w_crcStateRestore_low 0x10 (crcAddr 3 0x1C)) ∧ (w_crcStateRestore_low.crcMay 0x10 3 = true) ∧ (w_crcStateRestore_low.crcBusy 3 = false)) ∧ (match exec (.crcStateRestore 0x10 3 false 0x12345678) w_crcStateRestore_low with
    | .next t => decide ((t.crcReg 3 = (w_crcStateRestore_low.crcReg 3 / 2 ^ 32 * 2 ^ 32 + 0x12345678 % 2 ^ 32) % 2 ^ 64) ∧ (t.wide (CRC_RESULT_LO_RESULT 3) (CRC_RESULT_HI_RESULT 3) = (crcFinish (w_crcStateRestore_low.get (CRC_CTRL_W 3)) (w_crcStateRestore_low.bit (CRC_CTRL_REFOUT 3)) (w_crcStateRestore_low.wide (CRC_XOR_LO_XOROUT 3) (CRC_XOR_HI_XOROUT 3)) (w_crcStateRestore_low.crcReg 3 / 2 ^ 32 * 2 ^ 32 + 0x12345678 % 2 ^ 32)) % 2 ^ 64) ∧ (t.wide (CRC_BYTES_LO_BYTES 3) (CRC_BYTES_HI_BYTES 3) = (w_crcStateRestore_low.wide (CRC_BYTES_LO_BYTES 3) (CRC_BYTES_HI_BYTES 3) + 0) % 2 ^ 64))
    | _ => false) = true := by decide +kernel

def w_crcStateRestore_refused : State := withSess (wRun [(CRC_CTRL_OWNER 3, 0x10), (CRC_CTRL_W 3, 32), (CRC_POLY_LO_POLY 3, 0x1EDC6F41), (CRC_INIT_LO_INIT 3, 0xFFFFFFFF), (CRC_XOR_LO_XOROUT 3, 0xFFFFFFFF), (CRC_CTRL_REFIN 3, 1), (CRC_CTRL_REFOUT 3, 1), (CRC_STATE_LO_STATE 3, 0xFFFFFFFF), (CRC_CTRL_SNOOP_SRC 3, 30)])

theorem test_crcStateRestore_refused : ((w_crcStateRestore_refused.stopSafe = true) ∧ (16 ≤ 3 ∨ (MayWrite w_crcStateRestore_refused 0x10 (crcAddr 3 (if true = true then 0x20 else 0x1C)) ∧ (w_crcStateRestore_refused.crcMay 0x10 3 = false ∨ w_crcStateRestore_refused.crcBusy 3 = true)))) ∧ (match exec (.crcStateRestore 0x10 3 true 1) w_crcStateRestore_refused with
    | .next t => decide ((t = w_crcStateRestore_refused))
    | _ => false) = true := by decide +kernel

def w_crcStateRestore_rook : State := { wRun [(CRC_STATE_LO_STATE 15, 3)] with rook := { State.reset.rook with svc := true } }

theorem test_crcStateRestore_rook : ((w_crcStateRestore_rook.stopSafe = true) ∧ (w_crcStateRestore_rook.judge 0x30 (crcAddr 15 (if true = true then 0x20 else 0x1C)) true = .ok)) ∧ (match exec (.crcStateRestore 0x30 15 true 7) w_crcStateRestore_rook with
    | .next t => decide ((t = (if w_crcStateRestore_rook.crcBusy 15 = true then w_crcStateRestore_rook.rookWrote 0x30 (crcAddr 15 (if true = true then 0x20 else 0x1C)) else State.crcRestore 15 true 7 (w_crcStateRestore_rook.rookWrote 0x30 (crcAddr 15 (if true = true then 0x20 else 0x1C))))))
    | _ => false) = true := by decide +kernel

def w_crcScanGo : State := withSess (wRun [(CRC_CTRL_OWNER 3, 0x10), (CRC_CTRL_W 3, 32), (CRC_POLY_LO_POLY 3, 0x1EDC6F41), (CRC_INIT_LO_INIT 3, 0xFFFFFFFF), (CRC_XOR_LO_XOROUT 3, 0xFFFFFFFF), (CRC_CTRL_REFIN 3, 1), (CRC_CTRL_REFOUT 3, 1), (CRC_STATE_LO_STATE 3, 0xFFFFFFFF), (CRC_STATUS_CAUSE 3, 2)])

theorem test_crcScanGo : ((w_crcScanGo.stopSafe = true) ∧ (3 < 16) ∧ (MayWrite w_crcScanGo 0x10 (crcAddr 3 0x44)) ∧ (w_crcScanGo.crcMay 0x10 3 = true) ∧ (w_crcScanGo.crcBusy 3 = false)) ∧ (match exec (.crcScanGo 0x10 3) w_crcScanGo with
    | .next t => decide ((Reads t [(CRC_STATUS_BUSY 3, 1), (CRC_STATUS_CAUSE 3, 0)]))
    | _ => false) = true := by decide +kernel

def w_crcScanGo_refused : State := withSess (wRun [(CRC_CTRL_OWNER 3, 0x10), (CRC_CTRL_W 3, 32), (CRC_POLY_LO_POLY 3, 0x1EDC6F41), (CRC_INIT_LO_INIT 3, 0xFFFFFFFF), (CRC_XOR_LO_XOROUT 3, 0xFFFFFFFF), (CRC_CTRL_REFIN 3, 1), (CRC_CTRL_REFOUT 3, 1), (CRC_STATE_LO_STATE 3, 0xFFFFFFFF), (CRC_STATUS_BUSY 3, 1)])

theorem test_crcScanGo_refused : ((w_crcScanGo_refused.stopSafe = true) ∧ (16 ≤ 3 ∨ (MayWrite w_crcScanGo_refused 0x10 (crcAddr 3 0x44) ∧ (w_crcScanGo_refused.crcMay 0x10 3 = false ∨ w_crcScanGo_refused.crcBusy 3 = true)))) ∧ (match exec (.crcScanGo 0x10 3) w_crcScanGo_refused with
    | .next t => decide ((t = w_crcScanGo_refused))
    | _ => false) = true := by decide +kernel

def w_crcScanGo_rook : State := { wRun [(CRC_STATUS_CAUSE 15, 3)] with rook := { State.reset.rook with svc := true } }

theorem test_crcScanGo_rook : ((w_crcScanGo_rook.stopSafe = true) ∧ (w_crcScanGo_rook.judge 0x30 (crcAddr 15 0x44) true = .ok)) ∧ (match exec (.crcScanGo 0x30 15) w_crcScanGo_rook with
    | .next t => decide ((t = (if w_crcScanGo_rook.crcBusy 15 = true then w_crcScanGo_rook.rookWrote 0x30 (crcAddr 15 0x44) else State.crcScan 15 (w_crcScanGo_rook.rookWrote 0x30 (crcAddr 15 0x44)))))
    | _ => false) = true := by decide +kernel

def w_crcScanEnd : State := withSess (wRun [(CRC_CTRL_OWNER 3, 0x10), (CRC_CTRL_W 3, 32), (CRC_POLY_LO_POLY 3, 0x1EDC6F41), (CRC_INIT_LO_INIT 3, 0xFFFFFFFF), (CRC_XOR_LO_XOROUT 3, 0xFFFFFFFF), (CRC_CTRL_REFIN 3, 1), (CRC_CTRL_REFOUT 3, 1), (CRC_STATE_LO_STATE 3, 0xFFFFFFFF), (CRC_STATUS_BUSY 3, 1), (CRC_SCAN_LEN_LENGTH 3, 9)])

theorem test_crcScanEnd : ((w_crcScanEnd.stopSafe = true) ∧ (3 < 16) ∧ (w_crcScanEnd.bit (CRC_STATUS_BUSY 3) = true) ∧ (([0x31, 0x32, 0x33, 0x34, 0x35, 0x36, 0x37, 0x38, 0x39] : List Nat).length = w_crcScanEnd.get (CRC_SCAN_LEN_LENGTH 3)) ∧ (w_crcScanEnd.scanMiss 3 = none) ∧ ((w_crcScanEnd.unit.scans.find? (fun e => e.1 == 3)).all (fun e => (w_crcScanEnd.session e.2.1).all (fun x => (x.inProg.find? (fun (z : EcpOpen) => z.tag == e.2.2)).isNone)) = true)) ∧ (match exec (.crcScanEnd 3 0 0 ([0x31, 0x32, 0x33, 0x34, 0x35, 0x36, 0x37, 0x38, 0x39] : List Nat)) w_crcScanEnd with
    | .next t => decide ((t.crcReg 3 = (crcFeed (w_crcScanEnd.get (CRC_CTRL_W 3)) (w_crcScanEnd.wide (CRC_POLY_LO_POLY 3) (CRC_POLY_HI_POLY 3)) (w_crcScanEnd.bit (CRC_CTRL_REFIN 3)) (w_crcScanEnd.crcReg 3) ([0x31, 0x32, 0x33, 0x34, 0x35, 0x36, 0x37, 0x38, 0x39] : List Nat)) % 2 ^ 64) ∧ (t.wide (CRC_RESULT_LO_RESULT 3) (CRC_RESULT_HI_RESULT 3) = (crcFinish (w_crcScanEnd.get (CRC_CTRL_W 3)) (w_crcScanEnd.bit (CRC_CTRL_REFOUT 3)) (w_crcScanEnd.wide (CRC_XOR_LO_XOROUT 3) (CRC_XOR_HI_XOROUT 3)) (crcFeed (w_crcScanEnd.get (CRC_CTRL_W 3)) (w_crcScanEnd.wide (CRC_POLY_LO_POLY 3) (CRC_POLY_HI_POLY 3)) (w_crcScanEnd.bit (CRC_CTRL_REFIN 3)) (w_crcScanEnd.crcReg 3) ([0x31, 0x32, 0x33, 0x34, 0x35, 0x36, 0x37, 0x38, 0x39] : List Nat))) % 2 ^ 64) ∧ (t.wide (CRC_BYTES_LO_BYTES 3) (CRC_BYTES_HI_BYTES 3) = (w_crcScanEnd.wide (CRC_BYTES_LO_BYTES 3) (CRC_BYTES_HI_BYTES 3) + ([0x31, 0x32, 0x33, 0x34, 0x35, 0x36, 0x37, 0x38, 0x39] : List Nat).length) % 2 ^ 64) ∧ (Reads t [(CRC_STATUS_BUSY 3, 0), (CRC_STATUS_DONE 3, 1)]) ∧ (t.out = w_crcScanEnd.out ++ [Output.irqOwner (w_crcScanEnd.get (CRC_CTRL_OWNER 3)) 337]) ∧ (t.unit = { w_crcScanEnd.unit with scans := w_crcScanEnd.unit.scans.filter (fun (e : Nat × Nat × Nat) => e.1 ≠ 3) }))
    | _ => false) = true := by decide +kernel

def w_crcScanEnd_answer : State := { wRun [(CRC_CTRL_OWNER 3, 1), (CRC_CTRL_W 3, 24), (CRC_POLY_LO_POLY 3, 0x864CFB), (CRC_STATUS_BUSY 3, 1), (CRC_SCAN_LEN_LENGTH 3, 9)] with unit := { State.reset.unit with scans := [(3, 3, 9)] }, ecp := { State.reset.ecp with sessions := [{ id := 3, port := 1, ip := 0x0A000001, udp := 5000, inProg := [⟨9, 0xB03, 5⟩] }] } }

theorem test_crcScanEnd_answer : ((w_crcScanEnd_answer.stopSafe = true) ∧ (3 < 16) ∧ (w_crcScanEnd_answer.bit (CRC_STATUS_BUSY 3) = true) ∧ (([0x31, 0x32, 0x33, 0x34, 0x35, 0x36, 0x37, 0x38, 0x39] : List Nat).length = w_crcScanEnd_answer.get (CRC_SCAN_LEN_LENGTH 3)) ∧ (w_crcScanEnd_answer.scanMiss 3 = none) ∧ (w_crcScanEnd_answer.unit.scans.find? (fun e => e.1 == 3) = some (3, 3, 9)) ∧ (w_crcScanEnd_answer.session 3 = some ({ id := 3, port := 1, ip := 0x0A000001, udp := 5000, inProg := [⟨9, 0xB03, 5⟩] } : EcpSession)) ∧ (({ id := 3, port := 1, ip := 0x0A000001, udp := 5000, inProg := [⟨9, 0xB03, 5⟩] } : EcpSession).inProg.find? (fun (z : EcpOpen) => z.tag == 9) = some (⟨9, 0xB03, 5⟩ : EcpOpen)) ∧ (({ id := 3, port := 1, ip := 0x0A000001, udp := 5000, inProg := [⟨9, 0xB03, 5⟩] } : EcpSession).devSeq < 0xFFFFFFFF) ∧ (w_crcScanEnd_answer.sessSends ({ id := 3, port := 1, ip := 0x0A000001, udp := 5000, inProg := [⟨9, 0xB03, 5⟩] } : EcpSession) = true) ∧ (3 ≠ 8 ∨ w_crcScanEnd_answer.ecp.spiOut.length < 16) ∧ (unheldOp (⟨9, 0xB03, 5⟩ : EcpOpen).op = false)) ∧ (match exec (.crcScanEnd 3 0 0 ([0x31, 0x32, 0x33, 0x34, 0x35, 0x36, 0x37, 0x38, 0x39] : List Nat)) w_crcScanEnd_answer with
    | .next t => decide ((t.crcReg 3 = (crcFeed (w_crcScanEnd_answer.get (CRC_CTRL_W 3)) (w_crcScanEnd_answer.wide (CRC_POLY_LO_POLY 3) (CRC_POLY_HI_POLY 3)) (w_crcScanEnd_answer.bit (CRC_CTRL_REFIN 3)) (w_crcScanEnd_answer.crcReg 3) ([0x31, 0x32, 0x33, 0x34, 0x35, 0x36, 0x37, 0x38, 0x39] : List Nat)) % 2 ^ 64) ∧ (t.wide (CRC_RESULT_LO_RESULT 3) (CRC_RESULT_HI_RESULT 3) = (crcFinish (w_crcScanEnd_answer.get (CRC_CTRL_W 3)) (w_crcScanEnd_answer.bit (CRC_CTRL_REFOUT 3)) (w_crcScanEnd_answer.wide (CRC_XOR_LO_XOROUT 3) (CRC_XOR_HI_XOROUT 3)) (crcFeed (w_crcScanEnd_answer.get (CRC_CTRL_W 3)) (w_crcScanEnd_answer.wide (CRC_POLY_LO_POLY 3) (CRC_POLY_HI_POLY 3)) (w_crcScanEnd_answer.bit (CRC_CTRL_REFIN 3)) (w_crcScanEnd_answer.crcReg 3) ([0x31, 0x32, 0x33, 0x34, 0x35, 0x36, 0x37, 0x38, 0x39] : List Nat))) % 2 ^ 64) ∧ (t.wide (CRC_BYTES_LO_BYTES 3) (CRC_BYTES_HI_BYTES 3) = (w_crcScanEnd_answer.wide (CRC_BYTES_LO_BYTES 3) (CRC_BYTES_HI_BYTES 3) + ([0x31, 0x32, 0x33, 0x34, 0x35, 0x36, 0x37, 0x38, 0x39] : List Nat).length) % 2 ^ 64) ∧ (Reads t [(CRC_STATUS_BUSY 3, 0), (CRC_STATUS_DONE 3, 1)]) ∧ (t.unit = { w_crcScanEnd_answer.unit with scans := w_crcScanEnd_answer.unit.scans.filter (fun (e : Nat × Nat × Nat) => e.1 ≠ 3) }) ∧ (sends w_crcScanEnd_answer t ({ id := 3, port := 1, ip := 0x0A000001, udp := 5000, inProg := [⟨9, 0xB03, 5⟩] } : EcpSession) [Output.irqOwner (w_crcScanEnd_answer.get (CRC_CTRL_OWNER 3)) 337] [⟨(⟨9, 0xB03, 5⟩ : EcpOpen).op, 9, Ecp.OK, respFlags ({ id := 3, port := 1, ip := 0x0A000001, udp := 5000, inProg := [⟨9, 0xB03, 5⟩] } : EcpSession), ({ id := 3, port := 1, ip := 0x0A000001, udp := 5000, inProg := [⟨9, 0xB03, 5⟩] } : EcpSession).devSeq + 1, (leBytes 8 ((crcFinish (w_crcScanEnd_answer.get (CRC_CTRL_W 3)) (w_crcScanEnd_answer.bit (CRC_CTRL_REFOUT 3)) (w_crcScanEnd_answer.wide (CRC_XOR_LO_XOROUT 3) (CRC_XOR_HI_XOROUT 3)) (crcFeed (w_crcScanEnd_answer.get (CRC_CTRL_W 3)) (w_crcScanEnd_answer.wide (CRC_POLY_LO_POLY 3) (CRC_POLY_HI_POLY 3)) (w_crcScanEnd_answer.bit (CRC_CTRL_REFIN 3)) (w_crcScanEnd_answer.crcReg 3) ([0x31, 0x32, 0x33, 0x34, 0x35, 0x36, 0x37, 0x38, 0x39] : List Nat))) % 2 ^ 64)), ({ id := 3, port := 1, ip := 0x0A000001, udp := 5000, inProg := [⟨9, 0xB03, 5⟩] } : EcpSession).key⟩] = true) ∧ (t.session 3 = some { ({ id := 3, port := 1, ip := 0x0A000001, udp := 5000, inProg := [⟨9, 0xB03, 5⟩] } : EcpSession) with devSeq := ({ id := 3, port := 1, ip := 0x0A000001, udp := 5000, inProg := [⟨9, 0xB03, 5⟩] } : EcpSession).devSeq + 1, inProg := ({ id := 3, port := 1, ip := 0x0A000001, udp := 5000, inProg := [⟨9, 0xB03, 5⟩] } : EcpSession).inProg.filter (fun z => z.tag ≠ 9), held := (holdResult ({ id := 3, port := 1, ip := 0x0A000001, udp := 5000, inProg := [⟨9, 0xB03, 5⟩] } : EcpSession) ⟨9, (⟨9, 0xB03, 5⟩ : EcpOpen).op, (⟨9, 0xB03, 5⟩ : EcpOpen).crc, Ecp.OK, (leBytes 8 ((crcFinish (w_crcScanEnd_answer.get (CRC_CTRL_W 3)) (w_crcScanEnd_answer.bit (CRC_CTRL_REFOUT 3)) (w_crcScanEnd_answer.wide (CRC_XOR_LO_XOROUT 3) (CRC_XOR_HI_XOROUT 3)) (crcFeed (w_crcScanEnd_answer.get (CRC_CTRL_W 3)) (w_crcScanEnd_answer.wide (CRC_POLY_LO_POLY 3) (CRC_POLY_HI_POLY 3)) (w_crcScanEnd_answer.bit (CRC_CTRL_REFIN 3)) (w_crcScanEnd_answer.crcReg 3) ([0x31, 0x32, 0x33, 0x34, 0x35, 0x36, 0x37, 0x38, 0x39] : List Nat))) % 2 ^ 64)), true⟩).held }) ∧ (onlySession w_crcScanEnd_answer t 3 = true))
    | _ => false) = true := by decide +kernel

def w_crcScanEnd_error : State := withSess (wRun [(CRC_CTRL_OWNER 3, 0x10), (CRC_CTRL_W 3, 32), (CRC_POLY_LO_POLY 3, 0x1EDC6F41), (CRC_INIT_LO_INIT 3, 0xFFFFFFFF), (CRC_XOR_LO_XOROUT 3, 0xFFFFFFFF), (CRC_CTRL_REFIN 3, 1), (CRC_CTRL_REFOUT 3, 1), (CRC_STATE_LO_STATE 3, 0xFFFFFFFF), (CRC_STATUS_BUSY 3, 1), (CRC_SCAN_START_HI_START 3, 0x80), (CRC_SCAN_LEN_LENGTH 3, 9)])

theorem test_crcScanEnd_error : (w_crcScanEnd_error.stopSafe = true) ∧ (3 < 16) ∧ (w_crcScanEnd_error.bit (CRC_STATUS_BUSY 3) = true) ∧ ((0 = 0 ∧ ([0x31, 0x32, 0x33, 0x34, 0x35, 0x36, 0x37, 0x38, 0x39] : List Nat).length = w_crcScanEnd_error.get (CRC_SCAN_LEN_LENGTH 3) ∧ w_crcScanEnd_error.scanMiss 3 ≠ none) ∨ (1 ≤ 0 ∧ 0 ≤ 3)) ∧ (3 = (if 0 = 0 then 3 else 0)) ∧ (((((withSess (wRun [(CRC_CTRL_OWNER 3, 0x10), (CRC_CTRL_W 3, 32), (CRC_POLY_LO_POLY 3, 0x1EDC6F41), (CRC_INIT_LO_INIT 3, 0xFFFFFFFF), (CRC_XOR_LO_XOROUT 3, 0xFFFFFFFF), (CRC_CTRL_REFIN 3, 1), (CRC_CTRL_REFOUT 3, 1), (CRC_STATE_LO_STATE 3, 0xFFFFFFFF), (CRC_STATUS_BUSY 3, 1), (CRC_SCAN_START_HI_START 3, 0x80), (CRC_SCAN_LEN_LENGTH 3, 9)])) : State).record .unmapped (leBytes 5 ((((withSess (wRun [(CRC_CTRL_OWNER 3, 0x10), (CRC_CTRL_W 3, 32), (CRC_POLY_LO_POLY 3, 0x1EDC6F41), (CRC_INIT_LO_INIT 3, 0xFFFFFFFF), (CRC_XOR_LO_XOROUT 3, 0xFFFFFFFF), (CRC_CTRL_REFIN 3, 1), (CRC_CTRL_REFOUT 3, 1), (CRC_STATE_LO_STATE 3, 0xFFFFFFFF), (CRC_STATUS_BUSY 3, 1), (CRC_SCAN_START_HI_START 3, 0x80), (CRC_SCAN_LEN_LENGTH 3, 9)])) : State).scanMiss 3).getD 0))) : State) = (if 3 = 3 then (match w_crcScanEnd_error.scanMiss 3 with | some a => w_crcScanEnd_error.record .unmapped (leBytes 5 a) | none => w_crcScanEnd_error) else if 3 = 1 then (match w_crcScanEnd_error.dramAt 0x8000003040 with | some (c, _) => w_crcScanEnd_error.eccRead c 3 0x8000003040 | none => w_crcScanEnd_error) else w_crcScanEnd_error)) ∧ ((w_crcScanEnd_error.unit.scans.find? (fun e => e.1 == 3)).all (fun e => (w_crcScanEnd_error.session e.2.1).all (fun x => (x.inProg.find? (fun (z : EcpOpen) => z.tag == e.2.2)).isNone)) = true) := by decide +kernel

def w_crcScanEnd_errorAnswer : State := { wRun [(CRC_CTRL_OWNER 3, 1), (CRC_CTRL_W 3, 24), (CRC_POLY_LO_POLY 3, 0x864CFB), (CRC_STATUS_BUSY 3, 1), (DDR_CFG_RANKS 0, 1), (DDR_CFG_RANKS 1, 1)] with unit := { State.reset.unit with scans := [(3, 3, 9)] }, ecp := { State.reset.ecp with sessions := [{ id := 3, port := 1, ip := 0x0A000001, udp := 5000, inProg := [⟨9, 0xB03, 5⟩] }] } }

theorem test_crcScanEnd_errorAnswer : (w_crcScanEnd_errorAnswer.stopSafe = true) ∧ (3 < 16) ∧ (w_crcScanEnd_errorAnswer.bit (CRC_STATUS_BUSY 3) = true) ∧ ((2 = 0 ∧ ([] : List Nat).length = w_crcScanEnd_errorAnswer.get (CRC_SCAN_LEN_LENGTH 3) ∧ w_crcScanEnd_errorAnswer.scanMiss 3 ≠ none) ∨ (1 ≤ 2 ∧ 2 ≤ 3)) ∧ (2 = (if 2 = 0 then 3 else 2)) ∧ ((({ wRun [(CRC_CTRL_OWNER 3, 1), (CRC_CTRL_W 3, 24), (CRC_POLY_LO_POLY 3, 0x864CFB), (CRC_STATUS_BUSY 3, 1), (DDR_CFG_RANKS 0, 1), (DDR_CFG_RANKS 1, 1)] with unit := { State.reset.unit with scans := [(3, 3, 9)] }, ecp := { State.reset.ecp with sessions := [{ id := 3, port := 1, ip := 0x0A000001, udp := 5000, inProg := [⟨9, 0xB03, 5⟩] }] } } : State) : State) = (if 2 = 3 then (match w_crcScanEnd_errorAnswer.scanMiss 3 with | some a => w_crcScanEnd_errorAnswer.record .unmapped (leBytes 5 a) | none => w_crcScanEnd_errorAnswer) else if 2 = 1 then (match w_crcScanEnd_errorAnswer.dramAt 0x8000003040 with | some (c, _) => w_crcScanEnd_errorAnswer.eccRead c 3 0x8000003040 | none => w_crcScanEnd_errorAnswer) else w_crcScanEnd_errorAnswer)) ∧ (w_crcScanEnd_errorAnswer.unit.scans.find? (fun e => e.1 == 3) = some (3, 3, 9)) ∧ (w_crcScanEnd_errorAnswer.session 3 = some ({ id := 3, port := 1, ip := 0x0A000001, udp := 5000, inProg := [⟨9, 0xB03, 5⟩] } : EcpSession)) ∧ (({ id := 3, port := 1, ip := 0x0A000001, udp := 5000, inProg := [⟨9, 0xB03, 5⟩] } : EcpSession).inProg.find? (fun (z : EcpOpen) => z.tag == 9) = some (⟨9, 0xB03, 5⟩ : EcpOpen)) ∧ (({ id := 3, port := 1, ip := 0x0A000001, udp := 5000, inProg := [⟨9, 0xB03, 5⟩] } : EcpSession).devSeq < 0xFFFFFFFF) ∧ (w_crcScanEnd_errorAnswer.sessSends ({ id := 3, port := 1, ip := 0x0A000001, udp := 5000, inProg := [⟨9, 0xB03, 5⟩] } : EcpSession) = true) ∧ (3 ≠ 8 ∨ w_crcScanEnd_errorAnswer.ecp.spiOut.length < 16) ∧ (unheldOp (⟨9, 0xB03, 5⟩ : EcpOpen).op = false) ∧ (2 ≠ 1) := by decide +kernel

def w_crcScanEnd_ueAnswer : State := { wRun [(CRC_CTRL_OWNER 3, 1), (CRC_CTRL_W 3, 24), (CRC_POLY_LO_POLY 3, 0x864CFB), (CRC_STATUS_BUSY 3, 1), (DDR_CFG_RANKS 0, 1), (DDR_CFG_RANKS 1, 1)] with unit := { State.reset.unit with scans := [(3, 3, 9)] }, ecp := { State.reset.ecp with sessions := [{ id := 3, port := 1, ip := 0x0A000001, udp := 5000, inProg := [⟨9, 0xB03, 5⟩] }] } }

theorem test_crcScanEnd_ueAnswer : (w_crcScanEnd_ueAnswer.stopSafe = true) ∧ (3 < 16) ∧ (w_crcScanEnd_ueAnswer.bit (CRC_STATUS_BUSY 3) = true) ∧ ((1 = 0 ∧ ([] : List Nat).length = w_crcScanEnd_ueAnswer.get (CRC_SCAN_LEN_LENGTH 3) ∧ w_crcScanEnd_ueAnswer.scanMiss 3 ≠ none) ∨ (1 ≤ 1 ∧ 1 ≤ 3)) ∧ (1 = (if 1 = 0 then 3 else 1)) ∧ (((match ({ wRun [(CRC_CTRL_OWNER 3, 1), (CRC_CTRL_W 3, 24), (CRC_POLY_LO_POLY 3, 0x864CFB), (CRC_STATUS_BUSY 3, 1), (DDR_CFG_RANKS 0, 1), (DDR_CFG_RANKS 1, 1)] with unit := { State.reset.unit with scans := [(3, 3, 9)] }, ecp := { State.reset.ecp with sessions := [{ id := 3, port := 1, ip := 0x0A000001, udp := 5000, inProg := [⟨9, 0xB03, 5⟩] }] } } : State).dramAt 0x8000003040 with | some (c, _) => ({ wRun [(CRC_CTRL_OWNER 3, 1), (CRC_CTRL_W 3, 24), (CRC_POLY_LO_POLY 3, 0x864CFB), (CRC_STATUS_BUSY 3, 1), (DDR_CFG_RANKS 0, 1), (DDR_CFG_RANKS 1, 1)] with unit := { State.reset.unit with scans := [(3, 3, 9)] }, ecp := { State.reset.ecp with sessions := [{ id := 3, port := 1, ip := 0x0A000001, udp := 5000, inProg := [⟨9, 0xB03, 5⟩] }] } } : State).eccRead c 3 0x8000003040 | none => State.reset) : State) = (if 1 = 3 then (match w_crcScanEnd_ueAnswer.scanMiss 3 with | some a => w_crcScanEnd_ueAnswer.record .unmapped (leBytes 5 a) | none => w_crcScanEnd_ueAnswer) else if 1 = 1 then (match w_crcScanEnd_ueAnswer.dramAt 0x8000003040 with | some (c, _) => w_crcScanEnd_ueAnswer.eccRead c 3 0x8000003040 | none => w_crcScanEnd_ueAnswer) else w_crcScanEnd_ueAnswer)) ∧ (w_crcScanEnd_ueAnswer.unit.scans.find? (fun e => e.1 == 3) = some (3, 3, 9)) ∧ (w_crcScanEnd_ueAnswer.session 3 = some ({ id := 3, port := 1, ip := 0x0A000001, udp := 5000, inProg := [⟨9, 0xB03, 5⟩] } : EcpSession)) ∧ (({ id := 3, port := 1, ip := 0x0A000001, udp := 5000, inProg := [⟨9, 0xB03, 5⟩] } : EcpSession).inProg.find? (fun (z : EcpOpen) => z.tag == 9) = some (⟨9, 0xB03, 5⟩ : EcpOpen)) ∧ (({ id := 3, port := 1, ip := 0x0A000001, udp := 5000, inProg := [⟨9, 0xB03, 5⟩] } : EcpSession).devSeq < 0xFFFFFFFF) ∧ (w_crcScanEnd_ueAnswer.sessSends ({ id := 3, port := 1, ip := 0x0A000001, udp := 5000, inProg := [⟨9, 0xB03, 5⟩] } : EcpSession) = true) ∧ (3 ≠ 8 ∨ w_crcScanEnd_ueAnswer.ecp.spiOut.length < 16) ∧ (unheldOp (⟨9, 0xB03, 5⟩ : EcpOpen).op = false) ∧ (1 = 1) := by decide +kernel

def w_crcScanEnd_none : State := withSess (wRun [(CRC_CTRL_OWNER 3, 0x10), (CRC_CTRL_W 3, 32), (CRC_POLY_LO_POLY 3, 0x1EDC6F41), (CRC_INIT_LO_INIT 3, 0xFFFFFFFF), (CRC_XOR_LO_XOROUT 3, 0xFFFFFFFF), (CRC_CTRL_REFIN 3, 1), (CRC_CTRL_REFOUT 3, 1), (CRC_STATE_LO_STATE 3, 0xFFFFFFFF), (CRC_STATUS_BUSY 3, 1)])

theorem test_crcScanEnd_none : ((w_crcScanEnd_none.stopSafe = true) ∧ (16 ≤ 3 ∨ w_crcScanEnd_none.bit (CRC_STATUS_BUSY 3) = false ∨ 4 ≤ 0 ∨ (0 = 0 ∧ ([1] : List Nat).length ≠ w_crcScanEnd_none.get (CRC_SCAN_LEN_LENGTH 3)))) ∧ (match exec (.crcScanEnd 3 0 0 ([1] : List Nat)) w_crcScanEnd_none with
    | .next t => decide ((t = w_crcScanEnd_none))
    | _ => false) = true := by decide +kernel

def w_crcSnoopFrame : State := withSess (wRun [(CRC_CTRL_OWNER 3, 0x10), (CRC_CTRL_W 3, 32), (CRC_POLY_LO_POLY 3, 0x1EDC6F41), (CRC_INIT_LO_INIT 3, 0xFFFFFFFF), (CRC_XOR_LO_XOROUT 3, 0xFFFFFFFF), (CRC_CTRL_REFIN 3, 1), (CRC_CTRL_REFOUT 3, 1), (CRC_STATE_LO_STATE 3, 0xFFFFFFFF), (CRC_CTRL_SNOOP_SRC 3, 29)])

theorem test_crcSnoopFrame : ((w_crcSnoopFrame.stopSafe = true) ∧ (3 < 16) ∧ (w_crcSnoopFrame.get (CRC_CTRL_SNOOP_SRC 3) ≠ 0) ∧ (w_crcSnoopFrame.bit (CRC_CTRL_PER_FRAME 3) = false)) ∧ (match exec (.crcSnoopFrame 3 ([0x31, 0x32, 0x33, 0x34, 0x35, 0x36, 0x37, 0x38, 0x39] : List Nat)) w_crcSnoopFrame with
    | .next t => decide ((t.crcReg 3 = (crcFeed (w_crcSnoopFrame.get (CRC_CTRL_W 3)) (w_crcSnoopFrame.wide (CRC_POLY_LO_POLY 3) (CRC_POLY_HI_POLY 3)) (w_crcSnoopFrame.bit (CRC_CTRL_REFIN 3)) (w_crcSnoopFrame.crcReg 3) ([0x31, 0x32, 0x33, 0x34, 0x35, 0x36, 0x37, 0x38, 0x39] : List Nat)) % 2 ^ 64) ∧ (t.wide (CRC_RESULT_LO_RESULT 3) (CRC_RESULT_HI_RESULT 3) = (crcFinish (w_crcSnoopFrame.get (CRC_CTRL_W 3)) (w_crcSnoopFrame.bit (CRC_CTRL_REFOUT 3)) (w_crcSnoopFrame.wide (CRC_XOR_LO_XOROUT 3) (CRC_XOR_HI_XOROUT 3)) (crcFeed (w_crcSnoopFrame.get (CRC_CTRL_W 3)) (w_crcSnoopFrame.wide (CRC_POLY_LO_POLY 3) (CRC_POLY_HI_POLY 3)) (w_crcSnoopFrame.bit (CRC_CTRL_REFIN 3)) (w_crcSnoopFrame.crcReg 3) ([0x31, 0x32, 0x33, 0x34, 0x35, 0x36, 0x37, 0x38, 0x39] : List Nat))) % 2 ^ 64) ∧ (t.wide (CRC_BYTES_LO_BYTES 3) (CRC_BYTES_HI_BYTES 3) = (w_crcSnoopFrame.wide (CRC_BYTES_LO_BYTES 3) (CRC_BYTES_HI_BYTES 3) + ([0x31, 0x32, 0x33, 0x34, 0x35, 0x36, 0x37, 0x38, 0x39] : List Nat).length) % 2 ^ 64))
    | _ => false) = true := by decide +kernel

def w_crcSnoopFrame_frame : State := withSess (wRun [(CRC_CTRL_OWNER 3, 0x10), (CRC_CTRL_W 3, 32), (CRC_POLY_LO_POLY 3, 0x1EDC6F41), (CRC_INIT_LO_INIT 3, 0xFFFFFFFF), (CRC_XOR_LO_XOROUT 3, 0xFFFFFFFF), (CRC_CTRL_REFIN 3, 1), (CRC_CTRL_REFOUT 3, 1), (CRC_STATE_LO_STATE 3, 0xFFFFFFFF), (CRC_CTRL_SNOOP_SRC 3, 29), (CRC_CTRL_PER_FRAME 3, 1), (CRC_STATUS_FRAMES 3, 7)])

theorem test_crcSnoopFrame_frame : ((w_crcSnoopFrame_frame.stopSafe = true) ∧ (3 < 16) ∧ (w_crcSnoopFrame_frame.get (CRC_CTRL_SNOOP_SRC 3) ≠ 0) ∧ (w_crcSnoopFrame_frame.bit (CRC_CTRL_PER_FRAME 3) = true)) ∧ (match exec (.crcSnoopFrame 3 ([0x31, 0x32, 0x33, 0x34, 0x35, 0x36, 0x37, 0x38, 0x39] : List Nat)) w_crcSnoopFrame_frame with
    | .next t => decide ((t.crcReg 3 = w_crcSnoopFrame_frame.crcInit 3 % 2 ^ 64) ∧ (t.wide (CRC_RESULT_LO_RESULT 3) (CRC_RESULT_HI_RESULT 3) = (crcFinish (w_crcSnoopFrame_frame.get (CRC_CTRL_W 3)) (w_crcSnoopFrame_frame.bit (CRC_CTRL_REFOUT 3)) (w_crcSnoopFrame_frame.wide (CRC_XOR_LO_XOROUT 3) (CRC_XOR_HI_XOROUT 3)) (crcFeed (w_crcSnoopFrame_frame.get (CRC_CTRL_W 3)) (w_crcSnoopFrame_frame.wide (CRC_POLY_LO_POLY 3) (CRC_POLY_HI_POLY 3)) (w_crcSnoopFrame_frame.bit (CRC_CTRL_REFIN 3)) (w_crcSnoopFrame_frame.crcReg 3) ([0x31, 0x32, 0x33, 0x34, 0x35, 0x36, 0x37, 0x38, 0x39] : List Nat))) % 2 ^ 64) ∧ (t.wide (CRC_BYTES_LO_BYTES 3) (CRC_BYTES_HI_BYTES 3) = (w_crcSnoopFrame_frame.wide (CRC_BYTES_LO_BYTES 3) (CRC_BYTES_HI_BYTES 3) + ([0x31, 0x32, 0x33, 0x34, 0x35, 0x36, 0x37, 0x38, 0x39] : List Nat).length) % 2 ^ 64) ∧ (Reads t [(CRC_STATUS_FRAMES 3, (w_crcSnoopFrame_frame.get (CRC_STATUS_FRAMES 3) + 1) % 2 ^ (CRC_STATUS_FRAMES 3).w)]))
    | _ => false) = true := by decide +kernel

def w_crcSnoopFrame_none : State := withSess (wRun [(CRC_CTRL_OWNER 3, 0x10), (CRC_CTRL_W 3, 32), (CRC_POLY_LO_POLY 3, 0x1EDC6F41), (CRC_INIT_LO_INIT 3, 0xFFFFFFFF), (CRC_XOR_LO_XOROUT 3, 0xFFFFFFFF), (CRC_CTRL_REFIN 3, 1), (CRC_CTRL_REFOUT 3, 1), (CRC_STATE_LO_STATE 3, 0xFFFFFFFF)])

theorem test_crcSnoopFrame_none : ((w_crcSnoopFrame_none.stopSafe = true) ∧ (16 ≤ 3 ∨ w_crcSnoopFrame_none.get (CRC_CTRL_SNOOP_SRC 3) = 0)) ∧ (match exec (.crcSnoopFrame 3 ([0x31, 0x32, 0x33, 0x34, 0x35, 0x36, 0x37, 0x38, 0x39] : List Nat)) w_crcSnoopFrame_none with
    | .next t => decide ((t = w_crcSnoopFrame_none))
    | _ => false) = true := by decide +kernel

def w_crcTake : State := withSess (wRun [(CRC_CTRL_OWNER 3, 0), (CRC_CTRL_W 3, 32), (CRC_POLY_LO_POLY 3, 0x1EDC6F41), (CRC_INIT_LO_INIT 3, 0xFFFFFFFF), (CRC_XOR_LO_XOROUT 3, 0xFFFFFFFF), (CRC_CTRL_REFIN 3, 1), (CRC_CTRL_REFOUT 3, 1), (CRC_STATE_LO_STATE 3, 0xFFFFFFFF)])

theorem test_crcTake : ((w_crcTake.stopSafe = true) ∧ (w_crcTake.accepts 0x0B00 3 9 false = true) ∧ (11 < 12) ∧ (w_crcTake.get (CRC_CTRL_OWNER 11) = 0)) ∧ (match exec (.crcTake 3 9 ([11, 0, 0, 0])) w_crcTake with
    | .next t => decide ((answers w_crcTake t [] 0x0B00 3 9 Ecp.OK (crc32c [11, 0, 0, 0]) [] = true) ∧ (Reads t [(CRC_CTRL_OWNER 11, sessIni 3)]))
    | _ => false) = true := by decide +kernel

def w_crcTake_denied : State := withSess (wRun [(CRC_CTRL_OWNER 3, 0), (CRC_CTRL_W 3, 32), (CRC_POLY_LO_POLY 3, 0x1EDC6F41), (CRC_INIT_LO_INIT 3, 0xFFFFFFFF), (CRC_XOR_LO_XOROUT 3, 0xFFFFFFFF), (CRC_CTRL_REFIN 3, 1), (CRC_CTRL_REFOUT 3, 1), (CRC_STATE_LO_STATE 3, 0xFFFFFFFF)])

theorem test_crcTake_denied : ((w_crcTake_denied.stopSafe = true) ∧ (w_crcTake_denied.accepts 0x0B00 3 9 false = true) ∧ (12 ≤ 12 ∨ w_crcTake_denied.get (CRC_CTRL_OWNER 12) ≠ 0) ∧ (12 < 256)) ∧ (match exec (.crcTake 3 9 ([12, 0, 0, 0])) w_crcTake_denied with
    | .next t => decide ((answers w_crcTake_denied t [] 0x0B00 3 9 Ecp.DENIED (crc32c [12, 0, 0, 0]) [] = true))
    | _ => false) = true := by decide +kernel

def w_crcTake_zeros : State := withSess (wRun [(CRC_CTRL_OWNER 3, 1), (CRC_CTRL_W 3, 32), (CRC_POLY_LO_POLY 3, 0x1EDC6F41), (CRC_INIT_LO_INIT 3, 0xFFFFFFFF), (CRC_XOR_LO_XOROUT 3, 0xFFFFFFFF), (CRC_CTRL_REFIN 3, 1), (CRC_CTRL_REFOUT 3, 1), (CRC_STATE_LO_STATE 3, 0xFFFFFFFF)])

theorem test_crcTake_zeros : ((w_crcTake_zeros.stopSafe = true) ∧ (w_crcTake_zeros.accepts 0x0B00 3 9 false = true) ∧ (0 + 256 ≠ 0) ∧ (0 < 256) ∧ (256 < 65536)) ∧ (match exec (.crcTake 3 9 (([11, 0] ++ leBytes 2 256))) w_crcTake_zeros with
    | .next t => decide ((answers w_crcTake_zeros t [] 0x0B00 3 9 Ecp.BAD_PARAM (crc32c ([11, 0] ++ leBytes 2 256)) [] = true))
    | _ => false) = true := by decide +kernel

def w_crcConfig : State := withSess (wRun [(CRC_CTRL_OWNER 3, 1), (CRC_CTRL_W 3, 32), (CRC_POLY_LO_POLY 3, 0x1EDC6F41), (CRC_INIT_LO_INIT 3, 0xFFFFFFFF), (CRC_XOR_LO_XOROUT 3, 0xFFFFFFFF), (CRC_CTRL_REFIN 3, 1), (CRC_CTRL_REFOUT 3, 1), (CRC_STATE_LO_STATE 3, 0xFFFFFFFF)])

theorem test_crcConfig : ((w_crcConfig.stopSafe = true) ∧ (w_crcConfig.accepts 0x0B01 3 9 false = true) ∧ (3 < 12) ∧ (w_crcConfig.crcMay (sessIni 3) 3 = true) ∧ (1 ≤ 16 ∧ 16 ≤ 64) ∧ (5 < 8) ∧ (32 ≤ 32) ∧ (0x1021 < 2 ^ 64) ∧ (0xFFFFF < 2 ^ 64) ∧ (3 < 2 ^ 64) ∧ (w_crcConfig.bit (CRC_STATUS_BUSY 3) = false) ∧ (w_crcConfig.get (CRC_CTRL_SNOOP_SRC 3) = 0 ∨ 32 = 0)) ∧ (match exec (.crcConfig 3 9 (([3, 16, 5, 32] ++ leBytes 8 0x1021 ++ leBytes 8 0xFFFFF ++ leBytes 8 3))) w_crcConfig with
    | .next t => decide ((answers w_crcConfig t [] 0x0B01 3 9 Ecp.OK (crc32c ([3, 16, 5, 32] ++ leBytes 8 0x1021 ++ leBytes 8 0xFFFFF ++ leBytes 8 3)) [] = true) ∧ (Reads t [(CRC_CTRL_W 3, 16), (CRC_CTRL_REFIN 3, 5 % 2), (CRC_CTRL_REFOUT 3, 5 / 2 % 2), (CRC_CTRL_PER_FRAME 3, 5 / 4 % 2), (CRC_CTRL_SNOOP_SRC 3, 32), (CRC_BYTES_LO_BYTES 3, 0), (CRC_BYTES_HI_BYTES 3, 0), (CRC_STATUS_DONE 3, 0), (CRC_STATUS_ERROR 3, 0)]) ∧ ((t.wide (CRC_POLY_LO_POLY 3) (CRC_POLY_HI_POLY 3), t.wide (CRC_INIT_LO_INIT 3) (CRC_INIT_HI_INIT 3), t.wide (CRC_XOR_LO_XOROUT 3) (CRC_XOR_HI_XOROUT 3)) = (0x1021, 0xFFFFF, 3)) ∧ (t.crcReg 3 = 0xFFFFF % 2 ^ 16) ∧ (t.wide (CRC_RESULT_LO_RESULT 3) (CRC_RESULT_HI_RESULT 3) = crcFinish 16 (5 / 2 % 2 == 1) 3 (0xFFFFF % 2 ^ 16) % 2 ^ 64))
    | _ => false) = true := by decide +kernel

def w_crcConfig_bad : State := withSess (wRun [(CRC_CTRL_OWNER 3, 1), (CRC_CTRL_W 3, 32), (CRC_POLY_LO_POLY 3, 0x1EDC6F41), (CRC_INIT_LO_INIT 3, 0xFFFFFFFF), (CRC_XOR_LO_XOROUT 3, 0xFFFFFFFF), (CRC_CTRL_REFIN 3, 1), (CRC_CTRL_REFOUT 3, 1), (CRC_STATE_LO_STATE 3, 0xFFFFFFFF)])

theorem test_crcConfig_bad : ((w_crcConfig_bad.stopSafe = true) ∧ (w_crcConfig_bad.accepts 0x0B01 3 9 false = true) ∧ (3 < 12) ∧ (w_crcConfig_bad.crcMay (sessIni 3) 3 = true) ∧ (16 = 0 ∨ 64 < 16 ∨ 8 ≤ 5 ∨ 32 < 33) ∧ (16 < 256) ∧ (5 < 256) ∧ (33 < 256)) ∧ (match exec (.crcConfig 3 9 (([3, 16, 5, 33] ++ leBytes 8 0x1021 ++ leBytes 8 0xFFFFF ++ leBytes 8 3))) w_crcConfig_bad with
    | .next t => decide ((answers w_crcConfig_bad t [] 0x0B01 3 9 Ecp.BAD_PARAM (crc32c ([3, 16, 5, 33] ++ leBytes 8 0x1021 ++ leBytes 8 0xFFFFF ++ leBytes 8 3)) [] = true))
    | _ => false) = true := by decide +kernel

def w_crcConfig_busy : State := withSess (wRun [(CRC_CTRL_OWNER 3, 1), (CRC_CTRL_W 3, 32), (CRC_POLY_LO_POLY 3, 0x1EDC6F41), (CRC_INIT_LO_INIT 3, 0xFFFFFFFF), (CRC_XOR_LO_XOROUT 3, 0xFFFFFFFF), (CRC_CTRL_REFIN 3, 1), (CRC_CTRL_REFOUT 3, 1), (CRC_STATE_LO_STATE 3, 0xFFFFFFFF), (CRC_CTRL_SNOOP_SRC 3, 2)])

theorem test_crcConfig_busy : ((w_crcConfig_busy.stopSafe = true) ∧ (w_crcConfig_busy.accepts 0x0B01 3 9 false = true) ∧ (3 < 12) ∧ (w_crcConfig_busy.crcMay (sessIni 3) 3 = true) ∧ (1 ≤ 16 ∧ 16 ≤ 64) ∧ (5 < 8) ∧ (32 ≤ 32) ∧ (w_crcConfig_busy.bit (CRC_STATUS_BUSY 3) = true ∨ (w_crcConfig_busy.get (CRC_CTRL_SNOOP_SRC 3) ≠ 0 ∧ 32 ≠ 0))) ∧ (match exec (.crcConfig 3 9 (([3, 16, 5, 32] ++ leBytes 8 0x1021 ++ leBytes 8 0xFFFFF ++ leBytes 8 3))) w_crcConfig_busy with
    | .next t => decide ((answers w_crcConfig_busy t [] 0x0B01 3 9 Ecp.DENIED (crc32c ([3, 16, 5, 32] ++ leBytes 8 0x1021 ++ leBytes 8 0xFFFFF ++ leBytes 8 3)) [] = true))
    | _ => false) = true := by decide +kernel

def w_crcConfig_denied : State := withSess (wRun [(CRC_CTRL_OWNER 3, 2), (CRC_CTRL_W 3, 32), (CRC_POLY_LO_POLY 3, 0x1EDC6F41), (CRC_INIT_LO_INIT 3, 0xFFFFFFFF), (CRC_XOR_LO_XOROUT 3, 0xFFFFFFFF), (CRC_CTRL_REFIN 3, 1), (CRC_CTRL_REFOUT 3, 1), (CRC_STATE_LO_STATE 3, 0xFFFFFFFF)])

theorem test_crcConfig_denied : ((w_crcConfig_denied.stopSafe = true) ∧ (w_crcConfig_denied.accepts 0x0B01 3 9 false = true) ∧ (3 < 256) ∧ (12 ≤ 3 ∨ w_crcConfig_denied.crcMay (sessIni 3) 3 = false)) ∧ (match exec (.crcConfig 3 9 (([3, 16, 5, 32] ++ leBytes 8 0x1021 ++ leBytes 8 0xFFFFF ++ leBytes 8 3))) w_crcConfig_denied with
    | .next t => decide ((answers w_crcConfig_denied t [] 0x0B01 3 9 Ecp.DENIED (crc32c ([3, 16, 5, 32] ++ leBytes 8 0x1021 ++ leBytes 8 0xFFFFF ++ leBytes 8 3)) [] = true))
    | _ => false) = true := by decide +kernel

def w_crcFeed : State := withSess (wRun [(CRC_CTRL_OWNER 3, 1), (CRC_CTRL_W 3, 32), (CRC_POLY_LO_POLY 3, 0x1EDC6F41), (CRC_INIT_LO_INIT 3, 0xFFFFFFFF), (CRC_XOR_LO_XOROUT 3, 0xFFFFFFFF), (CRC_CTRL_REFIN 3, 1), (CRC_CTRL_REFOUT 3, 1), (CRC_STATE_LO_STATE 3, 0xFFFFFFFF)])

theorem test_crcFeed : ((w_crcFeed.stopSafe = true) ∧ (w_crcFeed.accepts 0x0B02 3 9 false = true) ∧ (3 < 12) ∧ (w_crcFeed.crcMay (sessIni 3) 3 = true) ∧ (1 ≤ ([0x31, 0x32, 0x33, 0x34, 0x35, 0x36, 0x37, 0x38, 0x39] : List Nat).length ∧ ([0x31, 0x32, 0x33, 0x34, 0x35, 0x36, 0x37, 0x38, 0x39] : List Nat).length ≤ 1400) ∧ (w_crcFeed.crcBusy 3 = false)) ∧ (match exec (.crcFeed 3 9 (([3, 0] ++ leBytes 2 ([0x31, 0x32, 0x33, 0x34, 0x35, 0x36, 0x37, 0x38, 0x39] : List Nat).length ++ ([0x31, 0x32, 0x33, 0x34, 0x35, 0x36, 0x37, 0x38, 0x39] : List Nat)))) w_crcFeed with
    | .next t => decide ((answers w_crcFeed t [] 0x0B02 3 9 Ecp.OK (crc32c ([3, 0] ++ leBytes 2 ([0x31, 0x32, 0x33, 0x34, 0x35, 0x36, 0x37, 0x38, 0x39] : List Nat).length ++ ([0x31, 0x32, 0x33, 0x34, 0x35, 0x36, 0x37, 0x38, 0x39] : List Nat))) [] = true) ∧ (t.crcReg 3 = (crcFeed (w_crcFeed.get (CRC_CTRL_W 3)) (w_crcFeed.wide (CRC_POLY_LO_POLY 3) (CRC_POLY_HI_POLY 3)) (w_crcFeed.bit (CRC_CTRL_REFIN 3)) (w_crcFeed.crcReg 3) ([0x31, 0x32, 0x33, 0x34, 0x35, 0x36, 0x37, 0x38, 0x39] : List Nat)) % 2 ^ 64) ∧ (t.wide (CRC_RESULT_LO_RESULT 3) (CRC_RESULT_HI_RESULT 3) = (crcFinish (w_crcFeed.get (CRC_CTRL_W 3)) (w_crcFeed.bit (CRC_CTRL_REFOUT 3)) (w_crcFeed.wide (CRC_XOR_LO_XOROUT 3) (CRC_XOR_HI_XOROUT 3)) (crcFeed (w_crcFeed.get (CRC_CTRL_W 3)) (w_crcFeed.wide (CRC_POLY_LO_POLY 3) (CRC_POLY_HI_POLY 3)) (w_crcFeed.bit (CRC_CTRL_REFIN 3)) (w_crcFeed.crcReg 3) ([0x31, 0x32, 0x33, 0x34, 0x35, 0x36, 0x37, 0x38, 0x39] : List Nat))) % 2 ^ 64) ∧ (t.wide (CRC_BYTES_LO_BYTES 3) (CRC_BYTES_HI_BYTES 3) = (w_crcFeed.wide (CRC_BYTES_LO_BYTES 3) (CRC_BYTES_HI_BYTES 3) + ([0x31, 0x32, 0x33, 0x34, 0x35, 0x36, 0x37, 0x38, 0x39] : List Nat).length) % 2 ^ 64))
    | _ => false) = true := by decide +kernel

def w_crcFeed_bad : State := withSess (wRun [(CRC_CTRL_OWNER 3, 1), (CRC_CTRL_W 3, 32), (CRC_POLY_LO_POLY 3, 0x1EDC6F41), (CRC_INIT_LO_INIT 3, 0xFFFFFFFF), (CRC_XOR_LO_XOROUT 3, 0xFFFFFFFF), (CRC_CTRL_REFIN 3, 1), (CRC_CTRL_REFOUT 3, 1), (CRC_STATE_LO_STATE 3, 0xFFFFFFFF)])

theorem test_crcFeed_bad : ((w_crcFeed_bad.stopSafe = true) ∧ (w_crcFeed_bad.accepts 0x0B02 3 9 false = true) ∧ (3 < 12) ∧ (w_crcFeed_bad.crcMay (sessIni 3) 3 = true) ∧ (([] : List Nat).length = 0 ∨ 1400 < ([] : List Nat).length) ∧ (([] : List Nat).length < 65536)) ∧ (match exec (.crcFeed 3 9 (([3, 0] ++ leBytes 2 ([] : List Nat).length ++ ([] : List Nat)))) w_crcFeed_bad with
    | .next t => decide ((answers w_crcFeed_bad t [] 0x0B02 3 9 Ecp.BAD_PARAM (crc32c ([3, 0] ++ leBytes 2 ([] : List Nat).length ++ ([] : List Nat))) [] = true))
    | _ => false) = true := by decide +kernel

def w_crcFeed_busy : State := withSess (wRun [(CRC_CTRL_OWNER 3, 1), (CRC_CTRL_W 3, 32), (CRC_POLY_LO_POLY 3, 0x1EDC6F41), (CRC_INIT_LO_INIT 3, 0xFFFFFFFF), (CRC_XOR_LO_XOROUT 3, 0xFFFFFFFF), (CRC_CTRL_REFIN 3, 1), (CRC_CTRL_REFOUT 3, 1), (CRC_STATE_LO_STATE 3, 0xFFFFFFFF), (CRC_STATUS_BUSY 3, 1)])

theorem test_crcFeed_busy : ((w_crcFeed_busy.stopSafe = true) ∧ (w_crcFeed_busy.accepts 0x0B02 3 9 false = true) ∧ (3 < 12) ∧ (w_crcFeed_busy.crcMay (sessIni 3) 3 = true) ∧ (1 ≤ ([0x31, 0x32, 0x33, 0x34, 0x35, 0x36, 0x37, 0x38, 0x39] : List Nat).length ∧ ([0x31, 0x32, 0x33, 0x34, 0x35, 0x36, 0x37, 0x38, 0x39] : List Nat).length ≤ 1400) ∧ (w_crcFeed_busy.crcBusy 3 = true)) ∧ (match exec (.crcFeed 3 9 (([3, 0] ++ leBytes 2 ([0x31, 0x32, 0x33, 0x34, 0x35, 0x36, 0x37, 0x38, 0x39] : List Nat).length ++ ([0x31, 0x32, 0x33, 0x34, 0x35, 0x36, 0x37, 0x38, 0x39] : List Nat)))) w_crcFeed_busy with
    | .next t => decide ((answers w_crcFeed_busy t [] 0x0B02 3 9 Ecp.DENIED (crc32c ([3, 0] ++ leBytes 2 ([0x31, 0x32, 0x33, 0x34, 0x35, 0x36, 0x37, 0x38, 0x39] : List Nat).length ++ ([0x31, 0x32, 0x33, 0x34, 0x35, 0x36, 0x37, 0x38, 0x39] : List Nat))) [] = true))
    | _ => false) = true := by decide +kernel

def w_crcFeed_denied : State := withSess (wRun [(CRC_CTRL_OWNER 3, 2), (CRC_CTRL_W 3, 32), (CRC_POLY_LO_POLY 3, 0x1EDC6F41), (CRC_INIT_LO_INIT 3, 0xFFFFFFFF), (CRC_XOR_LO_XOROUT 3, 0xFFFFFFFF), (CRC_CTRL_REFIN 3, 1), (CRC_CTRL_REFOUT 3, 1), (CRC_STATE_LO_STATE 3, 0xFFFFFFFF)])

theorem test_crcFeed_denied : ((w_crcFeed_denied.stopSafe = true) ∧ (w_crcFeed_denied.accepts 0x0B02 3 9 false = true) ∧ (3 < 256) ∧ (12 ≤ 3 ∨ w_crcFeed_denied.crcMay (sessIni 3) 3 = false) ∧ (([0x31, 0x32, 0x33, 0x34, 0x35, 0x36, 0x37, 0x38, 0x39] : List Nat).length < 65536)) ∧ (match exec (.crcFeed 3 9 (([3, 0] ++ leBytes 2 ([0x31, 0x32, 0x33, 0x34, 0x35, 0x36, 0x37, 0x38, 0x39] : List Nat).length ++ ([0x31, 0x32, 0x33, 0x34, 0x35, 0x36, 0x37, 0x38, 0x39] : List Nat)))) w_crcFeed_denied with
    | .next t => decide ((answers w_crcFeed_denied t [] 0x0B02 3 9 Ecp.DENIED (crc32c ([3, 0] ++ leBytes 2 ([0x31, 0x32, 0x33, 0x34, 0x35, 0x36, 0x37, 0x38, 0x39] : List Nat).length ++ ([0x31, 0x32, 0x33, 0x34, 0x35, 0x36, 0x37, 0x38, 0x39] : List Nat))) [] = true))
    | _ => false) = true := by decide +kernel

def w_crcFeed_zeros : State := withSess (wRun [(CRC_CTRL_OWNER 3, 1), (CRC_CTRL_W 3, 32), (CRC_POLY_LO_POLY 3, 0x1EDC6F41), (CRC_INIT_LO_INIT 3, 0xFFFFFFFF), (CRC_XOR_LO_XOROUT 3, 0xFFFFFFFF), (CRC_CTRL_REFIN 3, 1), (CRC_CTRL_REFOUT 3, 1), (CRC_STATE_LO_STATE 3, 0xFFFFFFFF)])

theorem test_crcFeed_zeros : ((w_crcFeed_zeros.stopSafe = true) ∧ (w_crcFeed_zeros.accepts 0x0B02 3 9 false = true) ∧ (0 < 1) ∧ (1 < 256) ∧ (([0x31, 0x32, 0x33, 0x34, 0x35, 0x36, 0x37, 0x38, 0x39] : List Nat).length < 65536)) ∧ (match exec (.crcFeed 3 9 (([3, 1] ++ leBytes 2 ([0x31, 0x32, 0x33, 0x34, 0x35, 0x36, 0x37, 0x38, 0x39] : List Nat).length ++ ([0x31, 0x32, 0x33, 0x34, 0x35, 0x36, 0x37, 0x38, 0x39] : List Nat)))) w_crcFeed_zeros with
    | .next t => decide ((answers w_crcFeed_zeros t [] 0x0B02 3 9 Ecp.BAD_PARAM (crc32c ([3, 1] ++ leBytes 2 ([0x31, 0x32, 0x33, 0x34, 0x35, 0x36, 0x37, 0x38, 0x39] : List Nat).length ++ ([0x31, 0x32, 0x33, 0x34, 0x35, 0x36, 0x37, 0x38, 0x39] : List Nat))) [] = true))
    | _ => false) = true := by decide +kernel

def w_crcScan : State := withSess (wRun [(CRC_CTRL_OWNER 3, 1), (CRC_CTRL_W 3, 32), (CRC_POLY_LO_POLY 3, 0x1EDC6F41), (CRC_INIT_LO_INIT 3, 0xFFFFFFFF), (CRC_XOR_LO_XOROUT 3, 0xFFFFFFFF), (CRC_CTRL_REFIN 3, 1), (CRC_CTRL_REFOUT 3, 1), (CRC_STATE_LO_STATE 3, 0xFFFFFFFF)])

theorem test_crcScan : ((w_crcScan.stopSafe = true) ∧ (w_crcScan.accepts 0x0B03 3 9 false = true) ∧ (3 < 12) ∧ (w_crcScan.crcMay (sessIni 3) 3 = true) ∧ (1 ≤ 0xFFFFFFFF ∧ 0xFFFFFFFF < 2 ^ 32) ∧ (0x123456789A < 2 ^ 40) ∧ (w_crcScan.crcBusy 3 = false)) ∧ (match exec (.crcScan 3 9 (([3, 0, 0, 0] ++ leBytes 8 0x123456789A ++ leBytes 4 0xFFFFFFFF))) w_crcScan with
    | .next t => decide ((opens w_crcScan t [] 0x0B03 3 9 (crc32c ([3, 0, 0, 0] ++ leBytes 8 0x123456789A ++ leBytes 4 0xFFFFFFFF)) (some (t.progressBytes 3 9)) = true) ∧ (Reads t [(CRC_STATUS_BUSY 3, 1), (CRC_STATUS_CAUSE 3, 0), (CRC_SCAN_START_LO_START 3, 0x123456789A % 2 ^ 32), (CRC_SCAN_START_HI_START 3, 0x123456789A / 2 ^ 32), (CRC_SCAN_LEN_LENGTH 3, 0xFFFFFFFF)]) ∧ (t.unit = { w_crcScan.unit with scans := w_crcScan.unit.scans ++ [(3, 3, 9)] }))
    | _ => false) = true := by decide +kernel

def w_crcScan_bad : State := withSess (wRun [(CRC_CTRL_OWNER 3, 1), (CRC_CTRL_W 3, 32), (CRC_POLY_LO_POLY 3, 0x1EDC6F41), (CRC_INIT_LO_INIT 3, 0xFFFFFFFF), (CRC_XOR_LO_XOROUT 3, 0xFFFFFFFF), (CRC_CTRL_REFIN 3, 1), (CRC_CTRL_REFOUT 3, 1), (CRC_STATE_LO_STATE 3, 0xFFFFFFFF)])

theorem test_crcScan_bad : ((w_crcScan_bad.stopSafe = true) ∧ (w_crcScan_bad.accepts 0x0B03 3 9 false = true) ∧ (3 < 12) ∧ (w_crcScan_bad.crcMay (sessIni 3) 3 = true) ∧ (0 = 0 ∨ 2 ^ 40 ≤ 0x123456789A) ∧ (0 < 2 ^ 32) ∧ (0x123456789A < 2 ^ 64)) ∧ (match exec (.crcScan 3 9 (([3, 0, 0, 0] ++ leBytes 8 0x123456789A ++ leBytes 4 0))) w_crcScan_bad with
    | .next t => decide ((answers w_crcScan_bad t [] 0x0B03 3 9 Ecp.BAD_PARAM (crc32c ([3, 0, 0, 0] ++ leBytes 8 0x123456789A ++ leBytes 4 0)) [] = true))
    | _ => false) = true := by decide +kernel

def w_crcScan_busy : State := withSess (wRun [(CRC_CTRL_OWNER 3, 1), (CRC_CTRL_W 3, 32), (CRC_POLY_LO_POLY 3, 0x1EDC6F41), (CRC_INIT_LO_INIT 3, 0xFFFFFFFF), (CRC_XOR_LO_XOROUT 3, 0xFFFFFFFF), (CRC_CTRL_REFIN 3, 1), (CRC_CTRL_REFOUT 3, 1), (CRC_STATE_LO_STATE 3, 0xFFFFFFFF), (CRC_STATUS_BUSY 3, 1)])

theorem test_crcScan_busy : ((w_crcScan_busy.stopSafe = true) ∧ (w_crcScan_busy.accepts 0x0B03 3 9 false = true) ∧ (3 < 12) ∧ (w_crcScan_busy.crcMay (sessIni 3) 3 = true) ∧ (1 ≤ 8 ∧ 8 < 2 ^ 32) ∧ (0x123456789A < 2 ^ 40) ∧ (w_crcScan_busy.crcBusy 3 = true)) ∧ (match exec (.crcScan 3 9 (([3, 0, 0, 0] ++ leBytes 8 0x123456789A ++ leBytes 4 8))) w_crcScan_busy with
    | .next t => decide ((answers w_crcScan_busy t [] 0x0B03 3 9 Ecp.DENIED (crc32c ([3, 0, 0, 0] ++ leBytes 8 0x123456789A ++ leBytes 4 8)) [] = true))
    | _ => false) = true := by decide +kernel

def w_crcScan_denied : State := withSess (wRun [(CRC_CTRL_OWNER 3, 2), (CRC_CTRL_W 3, 32), (CRC_POLY_LO_POLY 3, 0x1EDC6F41), (CRC_INIT_LO_INIT 3, 0xFFFFFFFF), (CRC_XOR_LO_XOROUT 3, 0xFFFFFFFF), (CRC_CTRL_REFIN 3, 1), (CRC_CTRL_REFOUT 3, 1), (CRC_STATE_LO_STATE 3, 0xFFFFFFFF)])

theorem test_crcScan_denied : ((w_crcScan_denied.stopSafe = true) ∧ (w_crcScan_denied.accepts 0x0B03 3 9 false = true) ∧ (3 < 256) ∧ (12 ≤ 3 ∨ w_crcScan_denied.crcMay (sessIni 3) 3 = false)) ∧ (match exec (.crcScan 3 9 (([3, 0, 0, 0] ++ leBytes 8 1 ++ leBytes 4 1))) w_crcScan_denied with
    | .next t => decide ((answers w_crcScan_denied t [] 0x0B03 3 9 Ecp.DENIED (crc32c ([3, 0, 0, 0] ++ leBytes 8 1 ++ leBytes 4 1)) [] = true))
    | _ => false) = true := by decide +kernel

def w_crcScan_zeros : State := withSess (wRun [(CRC_CTRL_OWNER 3, 1), (CRC_CTRL_W 3, 32), (CRC_POLY_LO_POLY 3, 0x1EDC6F41), (CRC_INIT_LO_INIT 3, 0xFFFFFFFF), (CRC_XOR_LO_XOROUT 3, 0xFFFFFFFF), (CRC_CTRL_REFIN 3, 1), (CRC_CTRL_REFOUT 3, 1), (CRC_STATE_LO_STATE 3, 0xFFFFFFFF)])

theorem test_crcScan_zeros : ((w_crcScan_zeros.stopSafe = true) ∧ (w_crcScan_zeros.accepts 0x0B03 3 9 false = true) ∧ (1 + 0 ≠ 0) ∧ (1 < 256) ∧ (0 < 65536)) ∧ (match exec (.crcScan 3 9 (([3, 1] ++ leBytes 2 0 ++ leBytes 8 1 ++ leBytes 4 1))) w_crcScan_zeros with
    | .next t => decide ((answers w_crcScan_zeros t [] 0x0B03 3 9 Ecp.BAD_PARAM (crc32c ([3, 1] ++ leBytes 2 0 ++ leBytes 8 1 ++ leBytes 4 1)) [] = true))
    | _ => false) = true := by decide +kernel

def w_crcGet : State := withSess (wRun [(CRC_CTRL_OWNER 3, 1), (CRC_CTRL_W 3, 32), (CRC_POLY_LO_POLY 3, 0x1EDC6F41), (CRC_INIT_LO_INIT 3, 0xFFFFFFFF), (CRC_XOR_LO_XOROUT 3, 0xFFFFFFFF), (CRC_CTRL_REFIN 3, 1), (CRC_CTRL_REFOUT 3, 1), (CRC_STATE_LO_STATE 3, 0xFFFFFFFF)])

theorem test_crcGet : ((w_crcGet.stopSafe = true) ∧ (w_crcGet.accepts 0x0B04 3 9 false = true) ∧ (3 < 12) ∧ (w_crcGet.crcMay (sessIni 3) 3 = true)) ∧ (match exec (.crcGet 3 9 ([3, 0, 0, 0])) w_crcGet with
    | .next t => decide ((answers w_crcGet t [] 0x0B04 3 9 Ecp.OK (crc32c [3, 0, 0, 0]) (leBytes 8 (w_crcGet.wide (CRC_RESULT_LO_RESULT 3) (CRC_RESULT_HI_RESULT 3)) ++ leBytes 8 (w_crcGet.crcReg 3) ++ leBytes 8 (w_crcGet.wide (CRC_BYTES_LO_BYTES 3) (CRC_BYTES_HI_BYTES 3)) ++ leBytes 4 (w_crcGet.get (CRC_STATUS_FRAMES 3)) ++ leBytes 4 (w_crcGet.crcStatus 3)) = true))
    | _ => false) = true := by decide +kernel

def w_crcGet_denied : State := withSess (wRun [(CRC_CTRL_OWNER 3, 2), (CRC_CTRL_W 3, 32), (CRC_POLY_LO_POLY 3, 0x1EDC6F41), (CRC_INIT_LO_INIT 3, 0xFFFFFFFF), (CRC_XOR_LO_XOROUT 3, 0xFFFFFFFF), (CRC_CTRL_REFIN 3, 1), (CRC_CTRL_REFOUT 3, 1), (CRC_STATE_LO_STATE 3, 0xFFFFFFFF)])

theorem test_crcGet_denied : ((w_crcGet_denied.stopSafe = true) ∧ (w_crcGet_denied.accepts 0x0B04 3 9 false = true) ∧ (3 < 256) ∧ (12 ≤ 3 ∨ w_crcGet_denied.crcMay (sessIni 3) 3 = false)) ∧ (match exec (.crcGet 3 9 ([3, 0, 0, 0])) w_crcGet_denied with
    | .next t => decide ((answers w_crcGet_denied t [] 0x0B04 3 9 Ecp.DENIED (crc32c [3, 0, 0, 0]) [] = true))
    | _ => false) = true := by decide +kernel

def w_crcGet_zeros : State := withSess (wRun [(CRC_CTRL_OWNER 3, 1), (CRC_CTRL_W 3, 32), (CRC_POLY_LO_POLY 3, 0x1EDC6F41), (CRC_INIT_LO_INIT 3, 0xFFFFFFFF), (CRC_XOR_LO_XOROUT 3, 0xFFFFFFFF), (CRC_CTRL_REFIN 3, 1), (CRC_CTRL_REFOUT 3, 1), (CRC_STATE_LO_STATE 3, 0xFFFFFFFF)])

theorem test_crcGet_zeros : ((w_crcGet_zeros.stopSafe = true) ∧ (w_crcGet_zeros.accepts 0x0B04 3 9 false = true) ∧ (0 + 256 ≠ 0) ∧ (0 < 256) ∧ (256 < 65536)) ∧ (match exec (.crcGet 3 9 (([3, 0] ++ leBytes 2 256))) w_crcGet_zeros with
    | .next t => decide ((answers w_crcGet_zeros t [] 0x0B04 3 9 Ecp.BAD_PARAM (crc32c ([3, 0] ++ leBytes 2 256)) [] = true))
    | _ => false) = true := by decide +kernel

def w_crcRelease : State := withSess (wRun [(CRC_CTRL_OWNER 3, 1), (CRC_CTRL_W 3, 32), (CRC_POLY_LO_POLY 3, 0x1EDC6F41), (CRC_INIT_LO_INIT 3, 0xFFFFFFFF), (CRC_XOR_LO_XOROUT 3, 0xFFFFFFFF), (CRC_CTRL_REFIN 3, 1), (CRC_CTRL_REFOUT 3, 1), (CRC_STATE_LO_STATE 3, 0xFFFFFFFF)])

theorem test_crcRelease : ((w_crcRelease.stopSafe = true) ∧ (w_crcRelease.accepts 0x0B05 3 9 false = true) ∧ (3 < 12) ∧ (w_crcRelease.crcMay (sessIni 3) 3 = true)) ∧ (match exec (.crcRelease 3 9 ([3, 0, 0, 0])) w_crcRelease with
    | .next t => decide ((answers w_crcRelease t [] 0x0B05 3 9 Ecp.OK (crc32c [3, 0, 0, 0]) [] = true) ∧ (Reads t [(CRC_CTRL_OWNER 3, 0), (CRC_CTRL_SNOOP_SRC 3, 0)]))
    | _ => false) = true := by decide +kernel

def w_crcRelease_denied : State := withSess (wRun [(CRC_CTRL_OWNER 3, 2), (CRC_CTRL_W 3, 32), (CRC_POLY_LO_POLY 3, 0x1EDC6F41), (CRC_INIT_LO_INIT 3, 0xFFFFFFFF), (CRC_XOR_LO_XOROUT 3, 0xFFFFFFFF), (CRC_CTRL_REFIN 3, 1), (CRC_CTRL_REFOUT 3, 1), (CRC_STATE_LO_STATE 3, 0xFFFFFFFF)])

theorem test_crcRelease_denied : ((w_crcRelease_denied.stopSafe = true) ∧ (w_crcRelease_denied.accepts 0x0B05 3 9 false = true) ∧ (3 < 256) ∧ (12 ≤ 3 ∨ w_crcRelease_denied.crcMay (sessIni 3) 3 = false)) ∧ (match exec (.crcRelease 3 9 ([3, 0, 0, 0])) w_crcRelease_denied with
    | .next t => decide ((answers w_crcRelease_denied t [] 0x0B05 3 9 Ecp.DENIED (crc32c [3, 0, 0, 0]) [] = true))
    | _ => false) = true := by decide +kernel

def w_crcRelease_zeros : State := withSess (wRun [(CRC_CTRL_OWNER 3, 1), (CRC_CTRL_W 3, 32), (CRC_POLY_LO_POLY 3, 0x1EDC6F41), (CRC_INIT_LO_INIT 3, 0xFFFFFFFF), (CRC_XOR_LO_XOROUT 3, 0xFFFFFFFF), (CRC_CTRL_REFIN 3, 1), (CRC_CTRL_REFOUT 3, 1), (CRC_STATE_LO_STATE 3, 0xFFFFFFFF)])

theorem test_crcRelease_zeros : ((w_crcRelease_zeros.stopSafe = true) ∧ (w_crcRelease_zeros.accepts 0x0B05 3 9 false = true) ∧ (0 + 256 ≠ 0) ∧ (0 < 256) ∧ (256 < 65536)) ∧ (match exec (.crcRelease 3 9 (([3, 0] ++ leBytes 2 256))) w_crcRelease_zeros with
    | .next t => decide ((answers w_crcRelease_zeros t [] 0x0B05 3 9 Ecp.BAD_PARAM (crc32c ([3, 0] ++ leBytes 2 256)) [] = true))
    | _ => false) = true := by decide +kernel

theorem test_crc_values : crc32c [0x31, 0x32, 0x33, 0x34, 0x35, 0x36, 0x37, 0x38, 0x39] = 0xE3069283 ∧
    crc24q [0x31, 0x32, 0x33, 0x34, 0x35, 0x36, 0x37, 0x38, 0x39] = 0xCDE703 ∧ crc16 [0x31, 0x32, 0x33, 0x34, 0x35, 0x36, 0x37, 0x38, 0x39] = 0x29B1 ∧
    crc8 [0x31, 0x32, 0x33, 0x34, 0x35, 0x36, 0x37, 0x38, 0x39] = 0xF4 := by decide +kernel

def w_dramTrainingComplete : State := wRun [(DDR_CFG_RANKS 1, 1), (DDR_CFG_STATE 1, 1)]

theorem test_dramTrainingComplete : ((w_dramTrainingComplete.stopSafe = true) ∧ (1 < 2) ∧ (w_dramTrainingComplete.domOff 3 = false) ∧ (w_dramTrainingComplete.get (DDR_CFG_RANKS 1) ≠ 0) ∧ (w_dramTrainingComplete.get (DDR_CFG_STATE 1) < 2)) ∧ (match exec (.dramTrainingComplete 1 true) w_dramTrainingComplete with
    | .next t => decide ((Reads t [(DDR_CFG_STATE 1, 2)]))
    | _ => false) = true := by decide +kernel

def w_dramTrainingComplete_failed : State := wRun [(DDR_CFG_RANKS 1, 1), (DDR_CFG_STATE 1, 1)]

theorem test_dramTrainingComplete_failed : ((w_dramTrainingComplete_failed.stopSafe = true) ∧ (1 < 2) ∧ (w_dramTrainingComplete_failed.domOff 3 = false) ∧ (w_dramTrainingComplete_failed.get (DDR_CFG_RANKS 1) ≠ 0) ∧ (w_dramTrainingComplete_failed.get (DDR_CFG_STATE 1) < 2)) ∧ (match exec (.dramTrainingComplete 1 false) w_dramTrainingComplete_failed with
    | .next t => decide ((Reads t [(DDR_CFG_STATE 1, 3)]))
    | _ => false) = true := by decide +kernel

def w_dramTrainingComplete_none : State := wRun []

theorem test_dramTrainingComplete_none : ((w_dramTrainingComplete_none.stopSafe = true) ∧ (2 ≤ 1 ∨ w_dramTrainingComplete_none.domOff 3 = true ∨ w_dramTrainingComplete_none.get (DDR_CFG_RANKS 1) = 0 ∨ 2 ≤ w_dramTrainingComplete_none.get (DDR_CFG_STATE 1))) ∧ (match exec (.dramTrainingComplete 1 true) w_dramTrainingComplete_none with
    | .next t => decide ((t = w_dramTrainingComplete_none))
    | _ => false) = true := by decide +kernel

def w_scrubRead : State := wRun [(DDR_CFG_RANKS 1, 1), (DDR_CFG_STATE 1, 2)]

theorem test_scrubRead : ((w_scrubRead.stopSafe = true) ∧ (w_scrubRead.scrubs 1 = true) ∧ (0 = w_scrubRead.get (SCRUB_POS_BURST 1)) ∧ (0 < w_scrubRead.bursts 1) ∧ (0x8000000008 = w_scrubRead.dramAddr 1 (0 * 64 + 9 % 8 * 8)) ∧ (0 = 0)) ∧ (match exec (.scrubRead 1 0 9) w_scrubRead with
    | .next t => decide ((Reads t [(SCRUB_POS_BURST 1, (0 + 1) % 2 ^ (SCRUB_POS_BURST 1).w)]) ∧ (t.unit = (if 0 = 0 ∧ w_scrubRead.unit.sweeps.any (fun e => e.1 == 1) = false then { w_scrubRead.unit with sweeps := w_scrubRead.unit.sweeps.filter (fun (e : Nat × Nat) => e.1 ≠ 1) ++ [(1, w_scrubRead.ply)] } else w_scrubRead.unit)))
    | _ => false) = true := by decide +kernel

def w_scrubRead_corrected : State := wRun [(DDR_CFG_RANKS 1, 1), (DDR_CFG_STATE 1, 2), (ECC_CNT_CE 1, 0xFFFF), (SCRUB_POS_BURST 1, 3)]

theorem test_scrubRead_corrected : ((w_scrubRead_corrected.stopSafe = true) ∧ (w_scrubRead_corrected.scrubs 1 = true) ∧ (3 = w_scrubRead_corrected.get (SCRUB_POS_BURST 1)) ∧ (3 < w_scrubRead_corrected.bursts 1) ∧ (0x80000000C8 = w_scrubRead_corrected.dramAddr 1 (3 * 64 + 9 % 8 * 8)) ∧ (1 ≤ 2 ∧ 2 ≤ 2)) ∧ (match exec (.scrubRead 1 2 9) w_scrubRead_corrected with
    | .next t => decide ((Reads t [(SCRUB_POS_BURST 1, (3 + 1) % 2 ^ (SCRUB_POS_BURST 1).w), (ECC_CNT_CE 1, w_scrubRead_corrected.adv (ECC_CNT_CE 1)), (ECC_CE_ADDR_LO_ADDR 1, 0x80000000C8 % 2 ^ 32), (ECC_CE_ADDR_HI_ADDR 1, 0x80000000C8 / 2 ^ 32)]) ∧ (t.unit = (if 3 = 0 ∧ w_scrubRead_corrected.unit.sweeps.any (fun e => e.1 == 1) = false then { w_scrubRead_corrected.unit with sweeps := w_scrubRead_corrected.unit.sweeps.filter (fun (e : Nat × Nat) => e.1 ≠ 1) ++ [(1, w_scrubRead_corrected.ply)] } else w_scrubRead_corrected.unit)))
    | _ => false) = true := by decide +kernel

def w_scrubRead_error : State := wRun [(DDR_CFG_RANKS 1, 1), (DDR_CFG_STATE 1, 2), (SCRUB_POS_BURST 1, 3)]

theorem test_scrubRead_error : ((w_scrubRead_error.stopSafe = true) ∧ (w_scrubRead_error.scrubs 1 = true) ∧ (3 = w_scrubRead_error.get (SCRUB_POS_BURST 1)) ∧ (3 < w_scrubRead_error.bursts 1) ∧ (0x80000000C8 = w_scrubRead_error.dramAddr 1 (3 * 64 + 9 % 8 * 8)) ∧ (3 ≤ 3)) ∧ (match exec (.scrubRead 1 3 9) w_scrubRead_error with
    | .next t => decide ((Reads t [(SCRUB_POS_BURST 1, (3 + 1) % 2 ^ (SCRUB_POS_BURST 1).w), (ECC_CNT_UE 1, w_scrubRead_error.adv (ECC_CNT_UE 1)), (ECC_UE_ADDR_LO_ADDR 1, 0x80000000C8 % 2 ^ 32), (ECC_UE_ADDR_HI_ADDR 1, 0x80000000C8 / 2 ^ 32), (ECC_STATUS_UE 1, 1)]) ∧ (t.out = w_scrubRead_error.out ++ [Output.irqApps 310]) ∧ (t.unit = (if 3 = 0 ∧ w_scrubRead_error.unit.sweeps.any (fun e => e.1 == 1) = false then { w_scrubRead_error.unit with sweeps := w_scrubRead_error.unit.sweeps.filter (fun (e : Nat × Nat) => e.1 ≠ 1) ++ [(1, w_scrubRead_error.ply)] } else w_scrubRead_error.unit)))
    | _ => false) = true := by decide +kernel

def w_scrubRead_none : State := wRun [(DDR_CFG_STATE 1, 2)]

theorem test_scrubRead_none : ((w_scrubRead_none.stopSafe = true) ∧ (w_scrubRead_none.scrubs 1 = false ∨ w_scrubRead_none.bursts 1 ≤ w_scrubRead_none.get (SCRUB_POS_BURST 1))) ∧ (match exec (.scrubRead 1 0 0) w_scrubRead_none with
    | .next t => decide ((t = w_scrubRead_none))
    | _ => false) = true := by decide +kernel

def w_scrubSweepEnd : State := wRun [(DDR_CFG_RANKS 0, 1), (DDR_CFG_STATE 0, 2), (SCRUB_POS_BURST 0, 0x8000000)]

theorem test_scrubSweepEnd : ((w_scrubSweepEnd.stopSafe = true) ∧ (w_scrubSweepEnd.scrubs 0 = true) ∧ (w_scrubSweepEnd.bursts 0 ≤ w_scrubSweepEnd.get (SCRUB_POS_BURST 0))) ∧ (match exec (.scrubSweepEnd 0) w_scrubSweepEnd with
    | .next t => decide ((Reads t [(ECC_STATUS_SWEEPS 0, w_scrubSweepEnd.adv (ECC_STATUS_SWEEPS 0)), (SCRUB_POS_BURST 0, 0)]) ∧ (t.unit = { w_scrubSweepEnd.unit with sweeps := w_scrubSweepEnd.unit.sweeps.filter (fun (e : Nat × Nat) => e.1 ≠ 0) ++ [(0, w_scrubSweepEnd.ply)] }))
    | _ => false) = true := by decide +kernel

def w_scrubSweepEnd_none : State := wRun [(DDR_CFG_RANKS 0, 1), (DDR_CFG_STATE 0, 2)]

theorem test_scrubSweepEnd_none : ((w_scrubSweepEnd_none.stopSafe = true) ∧ (w_scrubSweepEnd_none.scrubs 0 = false ∨ w_scrubSweepEnd_none.get (SCRUB_POS_BURST 0) < w_scrubSweepEnd_none.bursts 0)) ∧ (match exec (.scrubSweepEnd 0) w_scrubSweepEnd_none with
    | .next t => decide ((t = w_scrubSweepEnd_none))
    | _ => false) = true := by decide +kernel

def w_scrubLate : State := { wRun [(DDR_CFG_RANKS 0, 1), (DDR_CFG_STATE 0, 2), (SCRUB_CFG_HOURS 0, 1)] with ply := 360000007, unit := { State.reset.unit with sweeps := [(0, 7)] } }

theorem test_scrubLate : ((w_scrubLate.stopSafe = true) ∧ (w_scrubLate.unit.sweeps.find? (fun e => e.1 == 0) = some (0, 7)) ∧ (w_scrubLate.scrubs 0 = true) ∧ (w_scrubLate.get (SCRUB_POS_BURST 0) < w_scrubLate.bursts 0) ∧ (7 + w_scrubLate.get (SCRUB_CFG_HOURS 0) * 360000000 ≤ w_scrubLate.ply)) ∧ (match exec (.scrubLate 0) w_scrubLate with
    | .next t => decide ((Reads t [(ECC_STATUS_SCRUB_LATE 0, 1)]) ∧ (t.unit = { w_scrubLate.unit with sweeps := w_scrubLate.unit.sweeps.filter (fun (e : Nat × Nat) => e.1 ≠ 0) }))
    | _ => false) = true := by decide +kernel

def w_scrubLate_none : State := { wRun [(DDR_CFG_RANKS 0, 1), (DDR_CFG_STATE 0, 2), (SCRUB_CFG_HOURS 0, 1)] with ply := 360000006, unit := { State.reset.unit with sweeps := [(0, 7)] } }

theorem test_scrubLate_none : ((w_scrubLate_none.stopSafe = true) ∧ ((w_scrubLate_none.unit.sweeps.find? (fun e => e.1 == 0)).all (fun e => decide (w_scrubLate_none.scrubs 0 = false ∨ w_scrubLate_none.bursts 0 ≤ w_scrubLate_none.get (SCRUB_POS_BURST 0) ∨ w_scrubLate_none.ply < e.2 + w_scrubLate_none.get (SCRUB_CFG_HOURS 0) * 360000000)) = true)) ∧ (match exec (.scrubLate 0) w_scrubLate_none with
    | .next t => decide ((t = w_scrubLate_none))
    | _ => false) = true := by decide +kernel

def w_arbStarve : State := wRun [(ARB_CTRL_STARVE_LIMIT 1, 1000), (ARB_STARVE_STARVE 1, 5)]

theorem test_arbStarve : ((w_arbStarve.stopSafe = true) ∧ (1 < 2) ∧ (15 < 16) ∧ (w_arbStarve.domOff 3 = false) ∧ (0 = (w_arbStarve.arb 1).wait.getD 15 0) ∧ (1000 = w_arbStarve.get (ARB_CTRL_STARVE_LIMIT 1) - 0) ∧ (0 < w_arbStarve.get (ARB_CTRL_STARVE_LIMIT 1))) ∧ (match exec (.arbStarve 1 15) w_arbStarve with
    | .next t => decide ((t.wide (ARB_WAIT_LO_WAIT 1 15) (ARB_WAIT_HI_WAIT 1 15) = (w_arbStarve.wide (ARB_WAIT_LO_WAIT 1 15) (ARB_WAIT_HI_WAIT 1 15) + 1000) % 2 ^ 48) ∧ (Reads t [(ARB_LONGEST_LONGEST 1 15, max (w_arbStarve.get (ARB_LONGEST_LONGEST 1 15)) (min (0 + 1000) 0xFFFFFFFF))]) ∧ (t.unit = (w_arbStarve.setArb 1 { w_arbStarve.arb 1 with wait := (w_arbStarve.arb 1).wait.set 15 (0 + 1000) }).unit) ∧ (t.getBit (ARB_STARVE_STARVE 1) 15 = true) ∧ (t.out = w_arbStarve.out ++ [Output.irqApps 317]) ∧ ((List.range 16).all (fun x => x == 15 || t.getBit (ARB_STARVE_STARVE 1) x == w_arbStarve.getBit (ARB_STARVE_STARVE 1) x) = true))
    | _ => false) = true := by decide +kernel

def w_arbStarve_already : State := { wRun [(ARB_CTRL_STARVE_LIMIT 0, 1000)] with unit := { State.reset.unit with arb0 := { wait := [1, 1002] } } }

theorem test_arbStarve_already : ((w_arbStarve_already.stopSafe = true) ∧ (0 < 2) ∧ (1 < 16) ∧ (w_arbStarve_already.domOff 3 = false) ∧ (1002 = (w_arbStarve_already.arb 0).wait.getD 1 0) ∧ (0 = w_arbStarve_already.get (ARB_CTRL_STARVE_LIMIT 0) - 1002) ∧ (w_arbStarve_already.get (ARB_CTRL_STARVE_LIMIT 0) ≤ 1002)) ∧ (match exec (.arbStarve 0 1) w_arbStarve_already with
    | .next t => decide ((t.wide (ARB_WAIT_LO_WAIT 0 1) (ARB_WAIT_HI_WAIT 0 1) = (w_arbStarve_already.wide (ARB_WAIT_LO_WAIT 0 1) (ARB_WAIT_HI_WAIT 0 1) + 0) % 2 ^ 48) ∧ (Reads t [(ARB_LONGEST_LONGEST 0 1, max (w_arbStarve_already.get (ARB_LONGEST_LONGEST 0 1)) (min (1002 + 0) 0xFFFFFFFF))]) ∧ (t.unit = (w_arbStarve_already.setArb 0 { w_arbStarve_already.arb 0 with wait := (w_arbStarve_already.arb 0).wait.set 1 (1002 + 0) }).unit))
    | _ => false) = true := by decide +kernel

theorem test_arbStarve_none : ((wReset.stopSafe = true) ∧ (2 ≤ 2 ∨ 16 ≤ 0 ∨ wReset.domOff 3 = true)) ∧ (match exec (.arbStarve 2 0) wReset with
    | .next t => decide ((t = wReset))
    | _ => false) = true := by decide +kernel

def w_adcThresholdEntry : State := wRun [(ADC_CTRL_EN, 1), (ADC_CTRL_N, 2), (ADC_CH_W1_HIGH 0, 1000), (ADC_CH_W1_LOW 0, 500), (ADC_CH_W3_HYST 0, 10), (ADC_LIVE_LOW_NOW, 1)]

theorem test_adcThresholdEntry : ((w_adcThresholdEntry.stopSafe = true) ∧ (w_adcThresholdEntry.adcTakes 0 ([3500, 3600] : List Nat) = true) ∧ (([3500, 3600] : List Nat).head? = some 3500) ∧ (([3500, 3600] : List Nat).getLast? = some 3600) ∧ (w_adcThresholdEntry.getBit (adcLive true) 0 = false) ∧ (w_adcThresholdEntry.get ADC_CTRL_N ≤ ([3500, 3600] : List Nat).length) ∧ ((([3500, 3600] : List Nat).drop (([3500, 3600] : List Nat).length - w_adcThresholdEntry.get ADC_CTRL_N)).all (fun x => if true = true then decide (w_adcThresholdEntry.adcGet 0 (ADC_CH_W1_HIGH 0) < adcValue 0 x) else decide (adcValue 0 x < w_adcThresholdEntry.adcGet 0 (ADC_CH_W1_LOW 0))) = true)) ∧ (match exec (.adcThresholdEntry 0 true ([3500, 3600] : List Nat)) w_adcThresholdEntry with
    | .next t => decide ((Reads t [(ADC_CH_W0_CODE 0, 3600)]) ∧ (t.adcGet 0 (ADC_CH_W0_VALUE 0) = adcValue 0 3600) ∧ (t.adcGet 0 (ADC_CH_W2_MAX 0) = (([3500, 3600] : List Nat).map (adcValue 0)).foldl max (if w_adcThresholdEntry.site.adcLoaded.contains 0 then w_adcThresholdEntry.adcGet 0 (ADC_CH_W2_MAX 0) else adcValue 0 3500)) ∧ (t.adcGet 0 (ADC_CH_W2_MIN 0) = (([3500, 3600] : List Nat).map (adcValue 0)).foldl min (if w_adcThresholdEntry.site.adcLoaded.contains 0 then w_adcThresholdEntry.adcGet 0 (ADC_CH_W2_MIN 0) else adcValue 0 3500)) ∧ (t.site = { w_adcThresholdEntry.site with adcLoaded := 0 :: w_adcThresholdEntry.site.adcLoaded.filter (· ≠ 0) }) ∧ (t.getBit (adcLive true) 0 = true) ∧ (t.getBit (adcFlag true) 0 = true) ∧ ((List.range 15).all (fun x => x == 0 || t.getBit (adcLive true) x == w_adcThresholdEntry.getBit (adcLive true) x) = true) ∧ ((List.range 15).all (fun x => x == 0 || t.getBit (adcFlag true) x == w_adcThresholdEntry.getBit (adcFlag true) x) = true) ∧ (t.out = w_adcThresholdEntry.out ++ [Output.irqApps 370]))
    | _ => false) = true := by decide +kernel

def w_adcThresholdEntry_low : State := wRun [(ADC_CTRL_EN, 1), (ADC_CTRL_N, 1), (ADC_CH_W1_LOW 3, 700)]

theorem test_adcThresholdEntry_low : ((w_adcThresholdEntry_low.stopSafe = true) ∧ (w_adcThresholdEntry_low.adcTakes 3 ([3500, 0] : List Nat) = true) ∧ (w_adcThresholdEntry_low.getBit ADC_LIVE_LOW_NOW 3 = false) ∧ (([3500, 0] : List Nat).getLast? = some 0) ∧ (w_adcThresholdEntry_low.get ADC_CTRL_N = 1) ∧ (0 < w_adcThresholdEntry_low.adcGet 3 (ADC_CH_W1_LOW 3))) ∧ (match exec (.adcThresholdEntry 3 false ([3500, 0] : List Nat)) w_adcThresholdEntry_low with
    | .next t => decide ((t.getBit ADC_LIVE_LOW_NOW 3 = true) ∧ (t.getBit ADC_FLAGS_LOW 3 = true))
    | _ => false) = true := by decide +kernel

def w_adcThresholdEntry_sampled : State := wRun [(ADC_CTRL_EN, 1), (ADC_CTRL_N, 2), (ADC_CH_W1_HIGH 0, 1000), (ADC_CH_W1_LOW 0, 500), (ADC_CH_W3_HYST 0, 10), (ADC_LIVE_LOW_NOW, 1)]

theorem test_adcThresholdEntry_sampled : ((w_adcThresholdEntry_sampled.stopSafe = true) ∧ (w_adcThresholdEntry_sampled.adcTakes 0 ([3500, 1600] : List Nat) = true) ∧ (([3500, 1600] : List Nat).head? = some 3500) ∧ (([3500, 1600] : List Nat).getLast? = some 1600) ∧ (w_adcThresholdEntry_sampled.getBit (adcLive true) 0 = true ∨ ([3500, 1600] : List Nat).length < w_adcThresholdEntry_sampled.get ADC_CTRL_N ∨ (([3500, 1600] : List Nat).drop (([3500, 1600] : List Nat).length - w_adcThresholdEntry_sampled.get ADC_CTRL_N)).all (fun x => if true = true then decide (w_adcThresholdEntry_sampled.adcGet 0 (ADC_CH_W1_HIGH 0) < adcValue 0 x) else decide (adcValue 0 x < w_adcThresholdEntry_sampled.adcGet 0 (ADC_CH_W1_LOW 0))) = false)) ∧ (match exec (.adcThresholdEntry 0 true ([3500, 1600] : List Nat)) w_adcThresholdEntry_sampled with
    | .next t => decide ((Reads t [(ADC_CH_W0_CODE 0, 1600)]) ∧ (t.adcGet 0 (ADC_CH_W0_VALUE 0) = adcValue 0 1600) ∧ (t.adcGet 0 (ADC_CH_W2_MAX 0) = (([3500, 1600] : List Nat).map (adcValue 0)).foldl max (if w_adcThresholdEntry_sampled.site.adcLoaded.contains 0 then w_adcThresholdEntry_sampled.adcGet 0 (ADC_CH_W2_MAX 0) else adcValue 0 3500)) ∧ (t.adcGet 0 (ADC_CH_W2_MIN 0) = (([3500, 1600] : List Nat).map (adcValue 0)).foldl min (if w_adcThresholdEntry_sampled.site.adcLoaded.contains 0 then w_adcThresholdEntry_sampled.adcGet 0 (ADC_CH_W2_MIN 0) else adcValue 0 3500)) ∧ (t.site = { w_adcThresholdEntry_sampled.site with adcLoaded := 0 :: w_adcThresholdEntry_sampled.site.adcLoaded.filter (· ≠ 0) }))
    | _ => false) = true := by decide +kernel

def w_adcThresholdEntry_none : State := wRun [(ADC_CTRL_EN, 1), (ADC_CTRL_N, 2), (ADC_CH_W1_HIGH 0, 1000), (ADC_CH_W1_LOW 0, 500), (ADC_CH_W3_HYST 0, 10), (ADC_LIVE_LOW_NOW, 1)]

theorem test_adcThresholdEntry_none : ((w_adcThresholdEntry_none.stopSafe = true) ∧ (w_adcThresholdEntry_none.adcTakes 15 ([3500] : List Nat) = false ∨ ([3500] : List Nat) = [])) ∧ (match exec (.adcThresholdEntry 15 true ([3500] : List Nat)) w_adcThresholdEntry_none with
    | .next t => decide ((t = w_adcThresholdEntry_none))
    | _ => false) = true := by decide +kernel

def w_adcThresholdExit : State := wRun [(ADC_CTRL_EN, 1), (ADC_CTRL_N, 2), (ADC_CH_W1_HIGH 0, 1000), (ADC_CH_W1_LOW 0, 500), (ADC_CH_W3_HYST 0, 10), (ADC_LIVE_LOW_NOW, 1), (ADC_FLAGS_LOW, 1)]

theorem test_adcThresholdExit : ((w_adcThresholdExit.stopSafe = true) ∧ (w_adcThresholdExit.adcTakes 0 ([1800, 1801] : List Nat) = true) ∧ (([1800, 1801] : List Nat).head? = some 1800) ∧ (([1800, 1801] : List Nat).getLast? = some 1801) ∧ (w_adcThresholdExit.getBit (adcLive false) 0 = true) ∧ (w_adcThresholdExit.get ADC_CTRL_N ≤ ([1800, 1801] : List Nat).length) ∧ ((([1800, 1801] : List Nat).drop (([1800, 1801] : List Nat).length - w_adcThresholdExit.get ADC_CTRL_N)).all (fun x => if false = true then decide (adcValue 0 x < w_adcThresholdExit.adcGet 0 (ADC_CH_W1_HIGH 0) - (w_adcThresholdExit.get (ADC_CH_W3_HYST 0) : Int)) else decide (w_adcThresholdExit.adcGet 0 (ADC_CH_W1_LOW 0) + (w_adcThresholdExit.get (ADC_CH_W3_HYST 0) : Int) < adcValue 0 x)) = true)) ∧ (match exec (.adcThresholdExit 0 false ([1800, 1801] : List Nat)) w_adcThresholdExit with
    | .next t => decide ((Reads t [(ADC_CH_W0_CODE 0, 1801)]) ∧ (t.adcGet 0 (ADC_CH_W0_VALUE 0) = adcValue 0 1801) ∧ (t.adcGet 0 (ADC_CH_W2_MAX 0) = (([1800, 1801] : List Nat).map (adcValue 0)).foldl max (if w_adcThresholdExit.site.adcLoaded.contains 0 then w_adcThresholdExit.adcGet 0 (ADC_CH_W2_MAX 0) else adcValue 0 1800)) ∧ (t.adcGet 0 (ADC_CH_W2_MIN 0) = (([1800, 1801] : List Nat).map (adcValue 0)).foldl min (if w_adcThresholdExit.site.adcLoaded.contains 0 then w_adcThresholdExit.adcGet 0 (ADC_CH_W2_MIN 0) else adcValue 0 1800)) ∧ (t.site = { w_adcThresholdExit.site with adcLoaded := 0 :: w_adcThresholdExit.site.adcLoaded.filter (· ≠ 0) }) ∧ (t.getBit (adcLive false) 0 = false) ∧ ((List.range 15).all (fun x => x == 0 || t.getBit (adcLive false) x == w_adcThresholdExit.getBit (adcLive false) x) = true))
    | _ => false) = true := by decide +kernel

def w_adcThresholdExit_sampled : State := wRun [(ADC_CTRL_EN, 1), (ADC_CTRL_N, 2), (ADC_CH_W1_HIGH 0, 1000), (ADC_CH_W1_LOW 0, 500), (ADC_CH_W3_HYST 0, 10), (ADC_LIVE_LOW_NOW, 1), (ADC_LIVE_HIGH_NOW, 1)]

theorem test_adcThresholdExit_sampled : ((w_adcThresholdExit_sampled.stopSafe = true) ∧ (w_adcThresholdExit_sampled.adcTakes 0 ([1800] : List Nat) = true) ∧ (([1800] : List Nat).head? = some 1800) ∧ (([1800] : List Nat).getLast? = some 1800) ∧ (w_adcThresholdExit_sampled.getBit (adcLive true) 0 = false ∨ ([1800] : List Nat).length < w_adcThresholdExit_sampled.get ADC_CTRL_N ∨ (([1800] : List Nat).drop (([1800] : List Nat).length - w_adcThresholdExit_sampled.get ADC_CTRL_N)).all (fun x => if true = true then decide (adcValue 0 x < w_adcThresholdExit_sampled.adcGet 0 (ADC_CH_W1_HIGH 0) - (w_adcThresholdExit_sampled.get (ADC_CH_W3_HYST 0) : Int)) else decide (w_adcThresholdExit_sampled.adcGet 0 (ADC_CH_W1_LOW 0) + (w_adcThresholdExit_sampled.get (ADC_CH_W3_HYST 0) : Int) < adcValue 0 x)) = false)) ∧ (match exec (.adcThresholdExit 0 true ([1800] : List Nat)) w_adcThresholdExit_sampled with
    | .next t => decide ((Reads t [(ADC_CH_W0_CODE 0, 1800)]) ∧ (t.adcGet 0 (ADC_CH_W0_VALUE 0) = adcValue 0 1800) ∧ (t.adcGet 0 (ADC_CH_W2_MAX 0) = (([1800] : List Nat).map (adcValue 0)).foldl max (if w_adcThresholdExit_sampled.site.adcLoaded.contains 0 then w_adcThresholdExit_sampled.adcGet 0 (ADC_CH_W2_MAX 0) else adcValue 0 1800)) ∧ (t.adcGet 0 (ADC_CH_W2_MIN 0) = (([1800] : List Nat).map (adcValue 0)).foldl min (if w_adcThresholdExit_sampled.site.adcLoaded.contains 0 then w_adcThresholdExit_sampled.adcGet 0 (ADC_CH_W2_MIN 0) else adcValue 0 1800)) ∧ (t.site = { w_adcThresholdExit_sampled.site with adcLoaded := 0 :: w_adcThresholdExit_sampled.site.adcLoaded.filter (· ≠ 0) }))
    | _ => false) = true := by decide +kernel

def w_adcThresholdExit_none : State := wRun [(ADC_CTRL_EN, 1), (ADC_CTRL_N, 2), (ADC_CH_W1_HIGH 0, 1000), (ADC_CH_W1_LOW 0, 500), (ADC_CH_W3_HYST 0, 10), (ADC_LIVE_LOW_NOW, 1)]

theorem test_adcThresholdExit_none : ((w_adcThresholdExit_none.stopSafe = true) ∧ (w_adcThresholdExit_none.adcTakes 0 ([4096] : List Nat) = false ∨ ([4096] : List Nat) = [])) ∧ (match exec (.adcThresholdExit 0 true ([4096] : List Nat)) w_adcThresholdExit_none with
    | .next t => decide ((t = w_adcThresholdExit_none))
    | _ => false) = true := by decide +kernel

def w_mdioGo : State := wRun []

theorem test_mdioGo : ((w_mdioGo.stopSafe = true) ∧ (MayWrite w_mdioGo 0x10 0x40003200) ∧ (bitOf 0xA2C41234 31 = true) ∧ (w_mdioGo.mdioDenied = false) ∧ (bitOf 0xA2C41234 30 = true ∨ bits 0xA2C41234 29 28 = 1 ∨ bits 0xA2C41234 29 28 = 2)) ∧ (match exec (.mdioGo 0x10 0xA2C41234) w_mdioGo with
    | .next t => decide ((Reads t [(MDIO_STATUS_BUSY, 1), (MDIO_CMD_C45, bits 0xA2C41234 30 30), (MDIO_CMD_OP, bits 0xA2C41234 29 28), (MDIO_CMD_PHY, bits 0xA2C41234 27 23), (MDIO_CMD_REG, bits 0xA2C41234 22 18), (MDIO_CMD_DATA, bits 0xA2C41234 15 0)]) ∧ (t.out = w_mdioGo.out ++ [Output.mdio (bitOf 0xA2C41234 30) (bits 0xA2C41234 29 28) (bits 0xA2C41234 27 23) (bits 0xA2C41234 22 18) (bits 0xA2C41234 15 0)]))
    | _ => false) = true := by decide +kernel

def w_mdioGo_none : State := wRun [(MDIO_STATUS_BUSY, 1)]

theorem test_mdioGo_none : ((w_mdioGo_none.stopSafe = true) ∧ (bitOf 0xA2C41234 31 = false ∨ (MayWrite w_mdioGo_none 0x10 0x40003200 ∧ (w_mdioGo_none.mdioDenied = true ∨ (bitOf 0xA2C41234 30 = false ∧ (bits 0xA2C41234 29 28 = 0 ∨ bits 0xA2C41234 29 28 = 3)))))) ∧ (match exec (.mdioGo 0x10 0xA2C41234) w_mdioGo_none with
    | .next t => decide ((t = w_mdioGo_none))
    | _ => false) = true := by decide +kernel

def w_mdioComplete : State := wRun [(MDIO_STATUS_BUSY, 1), (MDIO_CMD_OP, 2)]

theorem test_mdioComplete : ((w_mdioComplete.stopSafe = true) ∧ (w_mdioComplete.bit MDIO_STATUS_BUSY = true)) ∧ (match exec (.mdioComplete 0xBEEF) w_mdioComplete with
    | .next t => decide ((Reads t [(MDIO_STATUS_BUSY, 0), (MDIO_STATUS_DONE, 1), (MDIO_STATUS_RDATA, if 2 ≤ w_mdioComplete.get MDIO_CMD_OP then 0xBEEF % 65536 else w_mdioComplete.get MDIO_STATUS_RDATA)]))
    | _ => false) = true := by decide +kernel

def w_mdioComplete_none : State := wRun []

theorem test_mdioComplete_none : ((w_mdioComplete_none.stopSafe = true) ∧ (w_mdioComplete_none.bit MDIO_STATUS_BUSY = false)) ∧ (match exec (.mdioComplete 1) w_mdioComplete_none with
    | .next t => decide ((t = w_mdioComplete_none))
    | _ => false) = true := by decide +kernel

def w_cableDiagGo : State := wRun [(ETH_CFG_LINK 5, 1)]

theorem test_cableDiagGo : ((w_cableDiagGo.stopSafe = true) ∧ (MayWrite w_cableDiagGo 0x10 0x40003210) ∧ (bitOf 0xC0000005 31 = true) ∧ (5 = bits 0xC0000005 2 0) ∧ (5 < 6) ∧ (true = bitOf 0xC0000005 30) ∧ (w_cableDiagGo.cableRefused 5 true true = false)) ∧ (match exec (.cableDiagGo 0x10 0xC0000005 true) w_cableDiagGo with
    | .next t => decide ((Reads t [(CABLE_W0_BUSY 5, 1), (ETH_CFG_LINK 5, 0)]) ∧ (t.site.cable = some 5) ∧ (t.linkDownAt 5 = (if w_cableDiagGo.site.downAt.any (fun e => e.1 == 5) = true then w_cableDiagGo.linkDownAt 5 else w_cableDiagGo.ply)) ∧ (t = (State.linkSet { w_cableDiagGo with site := { w_cableDiagGo.site with cable := some 5 } } 5 false 0).put (CABLE_W0_BUSY 5) 1))
    | _ => false) = true := by decide +kernel

def w_cableDiagGo_refused : State := wRun [(ETH_CFG_LINK 5, 1)]

theorem test_cableDiagGo_refused : ((w_cableDiagGo_refused.stopSafe = true) ∧ (MayWrite w_cableDiagGo_refused 0x10 0x40003210) ∧ (bitOf 0x80000005 31 = true) ∧ (5 = bits 0x80000005 2 0) ∧ (5 < 6) ∧ (false = bitOf 0x80000005 30) ∧ (w_cableDiagGo_refused.cableRefused 5 false true = true)) ∧ (match exec (.cableDiagGo 0x10 0x80000005 true) w_cableDiagGo_refused with
    | .next t => decide ((Reads t [(CABLE_W0_REFUSED 5, 1)]))
    | _ => false) = true := by decide +kernel

def w_cableDiagGo_none : State := wRun []

theorem test_cableDiagGo_none : ((w_cableDiagGo_none.stopSafe = true) ∧ (bitOf 0x80000006 31 = false ∨ (MayWrite w_cableDiagGo_none 0x10 0x40003210 ∧ 6 ≤ bits 0x80000006 2 0))) ∧ (match exec (.cableDiagGo 0x10 0x80000006 true) w_cableDiagGo_none with
    | .next t => decide ((t = w_cableDiagGo_none))
    | _ => false) = true := by decide +kernel

def w_cableLinkDownExpiry : State := { wRun [(ETH_CFG_EN 2, 1)] with ply := 1000005, site := { State.reset.site with downAt := [(2, 5)] } }

theorem test_cableLinkDownExpiry : ((w_cableLinkDownExpiry.stopSafe = true) ∧ (2 < 6) ∧ (w_cableLinkDownExpiry.domOff 9 = false) ∧ (w_cableLinkDownExpiry.bit (ETH_CFG_EN 2) = true) ∧ (w_cableLinkDownExpiry.bit (ETH_CFG_LINK 2) = false) ∧ (w_cableLinkDownExpiry.linkDownAt 2 + 1000000 ≤ w_cableLinkDownExpiry.ply) ∧ ((w_cableLinkDownExpiry.site.autoAt.find? (fun (e : Nat × Nat) => e.1 == 2)).all (fun e => decide (e.2 + 360000000 ≤ w_cableLinkDownExpiry.ply)) = true) ∧ (w_cableLinkDownExpiry.cableRefused 2 false true = false)) ∧ (match exec (.cableLinkDownExpiry 2 true) w_cableLinkDownExpiry with
    | .next t => decide ((Reads t [(CABLE_W0_BUSY 2, 1), (ETH_CFG_LINK 2, 0)]) ∧ (t.site.cable = some 2) ∧ (t.linkDownAt 2 = (if w_cableLinkDownExpiry.site.downAt.any (fun e => e.1 == 2) = true then w_cableLinkDownExpiry.linkDownAt 2 else w_cableLinkDownExpiry.ply)) ∧ (t = (State.linkSet { w_cableLinkDownExpiry with site := { w_cableLinkDownExpiry.site with cable := some 2, autoAt := w_cableLinkDownExpiry.site.autoAt.filter (fun (e : Nat × Nat) => e.1 ≠ 2) ++ [(2, w_cableLinkDownExpiry.ply)] } } 2 false 0).put (CABLE_W0_BUSY 2) 1))
    | _ => false) = true := by decide +kernel

def w_cableLinkDownExpiry_refused : State := { wRun [(ETH_CFG_EN 2, 1)] with ply := 1000005, site := { State.reset.site with downAt := [(2, 5)] } }

theorem test_cableLinkDownExpiry_refused : ((w_cableLinkDownExpiry_refused.stopSafe = true) ∧ (2 < 6) ∧ (w_cableLinkDownExpiry_refused.domOff 9 = false) ∧ (w_cableLinkDownExpiry_refused.bit (ETH_CFG_EN 2) = true) ∧ (w_cableLinkDownExpiry_refused.bit (ETH_CFG_LINK 2) = false) ∧ (w_cableLinkDownExpiry_refused.linkDownAt 2 + 1000000 ≤ w_cableLinkDownExpiry_refused.ply) ∧ ((w_cableLinkDownExpiry_refused.site.autoAt.find? (fun (e : Nat × Nat) => e.1 == 2)).all (fun e => decide (e.2 + 360000000 ≤ w_cableLinkDownExpiry_refused.ply)) = true) ∧ (w_cableLinkDownExpiry_refused.cableRefused 2 false false = true)) ∧ (match exec (.cableLinkDownExpiry 2 false) w_cableLinkDownExpiry_refused with
    | .next t => decide ((Reads t [(CABLE_W0_REFUSED 2, 1)]) ∧ (t.site = { w_cableLinkDownExpiry_refused.site with autoAt := w_cableLinkDownExpiry_refused.site.autoAt.filter (fun (e : Nat × Nat) => e.1 ≠ 2) ++ [(2, w_cableLinkDownExpiry_refused.ply)] }))
    | _ => false) = true := by decide +kernel

def w_cableLinkDownExpiry_none : State := { wRun [(ETH_CFG_EN 2, 1), (ETH_CFG_LINK 2, 1)] with ply := 1000005, site := { State.reset.site with downAt := [(2, 5)] } }

theorem test_cableLinkDownExpiry_none : ((w_cableLinkDownExpiry_none.stopSafe = true) ∧ (6 ≤ 2 ∨ w_cableLinkDownExpiry_none.domOff 9 = true ∨ w_cableLinkDownExpiry_none.bit (ETH_CFG_EN 2) = false ∨ w_cableLinkDownExpiry_none.bit (ETH_CFG_LINK 2) = true ∨ w_cableLinkDownExpiry_none.ply < w_cableLinkDownExpiry_none.linkDownAt 2 + 1000000 ∨ (w_cableLinkDownExpiry_none.site.autoAt.find? (fun (e : Nat × Nat) => e.1 == 2)).any (fun e => decide (w_cableLinkDownExpiry_none.ply < e.2 + 360000000)) = true)) ∧ (match exec (.cableLinkDownExpiry 2 true) w_cableLinkDownExpiry_none with
    | .next t => decide ((t = w_cableLinkDownExpiry_none))
    | _ => false) = true := by decide +kernel

def w_cableDiagComplete : State := { wRun [(CABLE_W0_BUSY 2, 1)] with site := { State.reset.site with cable := some 2 } }

theorem test_cableDiagComplete : ((w_cableDiagComplete.stopSafe = true) ∧ (w_cableDiagComplete.site.cable = some 2) ∧ (([0, 1, 5, 2] : List Nat).length = 4) ∧ (([65535, 2, 3, 4] : List Nat).length = 4) ∧ (([0, 1, 5, 2] : List Nat).all (fun x => decide (x ≤ 5)) = true)) ∧ (match exec (.cableDiagComplete ([0, 1, 5, 2] : List Nat) ([65535, 2, 3, 4] : List Nat)) w_cableDiagComplete with
    | .next t => decide ((Reads t [(CABLE_W0_ST_A 2, ([0, 1, 5, 2] : List Nat).getD 0 0), (CABLE_W0_ST_B 2, ([0, 1, 5, 2] : List Nat).getD 1 0), (CABLE_W0_ST_C 2, ([0, 1, 5, 2] : List Nat).getD 2 0), (CABLE_W0_ST_D 2, ([0, 1, 5, 2] : List Nat).getD 3 0), (CABLE_W1_LEN_A 2, ([65535, 2, 3, 4] : List Nat).getD 0 0 % 65536), (CABLE_W1_LEN_B 2, ([65535, 2, 3, 4] : List Nat).getD 1 0 % 65536), (CABLE_W2_LEN_C 2, ([65535, 2, 3, 4] : List Nat).getD 2 0 % 65536), (CABLE_W2_LEN_D 2, ([65535, 2, 3, 4] : List Nat).getD 3 0 % 65536), (CABLE_W3_OH_SEC 2, w_cableDiagComplete.get REC_AON_OH_SECONDS), (CABLE_W0_BUSY 2, 0), (CABLE_W0_DONE 2, 1)]) ∧ (t.site = { w_cableDiagComplete.site with cable := none }))
    | _ => false) = true := by decide +kernel

theorem test_cableDiagComplete_none : ((wReset.stopSafe = true) ∧ (wReset.site.cable = none ∨ ([0, 1, 5, 2] : List Nat).length ≠ 4 ∨ ([65535, 2, 3, 4] : List Nat).length ≠ 4 ∨ ([0, 1, 5, 2] : List Nat).all (fun x => decide (x ≤ 5)) = false)) ∧ (match exec (.cableDiagComplete ([0, 1, 5, 2] : List Nat) ([65535, 2, 3, 4] : List Nat)) wReset with
    | .next t => decide ((t = wReset))
    | _ => false) = true := by decide +kernel

def w_ethLinkChange : State := { wRun [] with site := { State.reset.site with downAt := [(2, 5)] } }

theorem test_ethLinkChange : ((w_ethLinkChange.stopSafe = true) ∧ (2 < 6) ∧ (w_ethLinkChange.domOff 9 = false) ∧ (2 < 3) ∧ (2 ≠ 5) ∧ ((State.puts { ({ wRun [] with site := { State.reset.site with downAt := [(2, 5)] } } : State) with site := { ({ wRun [] with site := { State.reset.site with downAt := [(2, 5)] } } : State).site with downAt := ({ wRun [] with site := { State.reset.site with downAt := [(2, 5)] } } : State).site.downAt.filter (fun (e : Nat × Nat) => e.1 ≠ 2) } } [(ETH_CFG_LINK 2, 1), (ETH_CFG_SPEED 2, 2), (ETH_CORR_EGRESS 2, if 2 = 2 then 96 else if 2 = 1 then 720 else 7200), (ETH_CORR_INGRESS 2, if 2 = 2 then 144 else if 2 = 1 then 1120 else 11200)] : State) = State.puts { w_ethLinkChange with site := { w_ethLinkChange.site with downAt := w_ethLinkChange.site.downAt.filter (fun (e : Nat × Nat) => e.1 ≠ 2) } } [(ETH_CFG_LINK 2, 1), (ETH_CFG_SPEED 2, 2), (ETH_CORR_EGRESS 2, if 2 = 2 then 96 else if 2 = 1 then 720 else 7200), (ETH_CORR_INGRESS 2, if 2 = 2 then 144 else if 2 = 1 then 1120 else 11200)])) ∧ (match exec (.ethLinkChange 2 true 2) w_ethLinkChange with
    | .next t => decide ((Reads t [(ETH_CFG_LINK 2, 1), (ETH_CFG_SPEED 2, 2), (ETH_CORR_EGRESS 2, if 2 = 2 then 96 else if 2 = 1 then 720 else 7200), (ETH_CORR_INGRESS 2, if 2 = 2 then 144 else if 2 = 1 then 1120 else 11200)]) ∧ (t = (State.puts { ({ wRun [] with site := { State.reset.site with downAt := [(2, 5)] } } : State) with site := { ({ wRun [] with site := { State.reset.site with downAt := [(2, 5)] } } : State).site with downAt := ({ wRun [] with site := { State.reset.site with downAt := [(2, 5)] } } : State).site.downAt.filter (fun (e : Nat × Nat) => e.1 ≠ 2) } } [(ETH_CFG_LINK 2, 1), (ETH_CFG_SPEED 2, 2), (ETH_CORR_EGRESS 2, if 2 = 2 then 96 else if 2 = 1 then 720 else 7200), (ETH_CORR_INGRESS 2, if 2 = 2 then 144 else if 2 = 1 then 1120 else 11200)] : State).drainAll))
    | _ => false) = true := by decide +kernel

def w_ethLinkChange_pair : State := { wRun [] with site := { State.reset.site with downAt := [(5, 5)] } }

theorem test_ethLinkChange_pair : ((w_ethLinkChange_pair.stopSafe = true) ∧ (5 < 6) ∧ (w_ethLinkChange_pair.domOff 9 = false) ∧ (1 < 3) ∧ (5 = 5) ∧ ((State.puts { ({ wRun [] with site := { State.reset.site with downAt := [(5, 5)] } } : State) with site := { ({ wRun [] with site := { State.reset.site with downAt := [(5, 5)] } } : State).site with downAt := ({ wRun [] with site := { State.reset.site with downAt := [(5, 5)] } } : State).site.downAt.filter (fun (e : Nat × Nat) => e.1 ≠ 5) } } [(ETH_CFG_LINK 5, 1), (ETH_CFG_SPEED 5, 1), (ETH_CORR_EGRESS 5, if 1 = 2 then 96 else if 1 = 1 then 720 else 7200), (ETH_CORR_INGRESS 5, if 1 = 2 then 144 else if 1 = 1 then 1120 else 11200)] : State) = State.puts { w_ethLinkChange_pair with site := { w_ethLinkChange_pair.site with downAt := w_ethLinkChange_pair.site.downAt.filter (fun (e : Nat × Nat) => e.1 ≠ 5) } } [(ETH_CFG_LINK 5, 1), (ETH_CFG_SPEED 5, 1), (ETH_CORR_EGRESS 5, if 1 = 2 then 96 else if 1 = 1 then 720 else 7200), (ETH_CORR_INGRESS 5, if 1 = 2 then 144 else if 1 = 1 then 1120 else 11200)])) ∧ (match exec (.ethLinkChange 5 true 1) w_ethLinkChange_pair with
    | .next t => decide ((Reads t [(ETH_CFG_LINK 5, 1), (ETH_CFG_SPEED 5, 1), (PAIR_STATUS_LINK, 1), (PAIR_STATUS_PAIR_SLOW, b2n (w_ethLinkChange_pair.bit PAIR_CTRL_EN && decide (1 < 2)))]) ∧ (t = (State.puts { ({ wRun [] with site := { State.reset.site with downAt := [(5, 5)] } } : State) with site := { ({ wRun [] with site := { State.reset.site with downAt := [(5, 5)] } } : State).site with downAt := ({ wRun [] with site := { State.reset.site with downAt := [(5, 5)] } } : State).site.downAt.filter (fun (e : Nat × Nat) => e.1 ≠ 5) } } [(ETH_CFG_LINK 5, 1), (ETH_CFG_SPEED 5, 1), (ETH_CORR_EGRESS 5, if 1 = 2 then 96 else if 1 = 1 then 720 else 7200), (ETH_CORR_INGRESS 5, if 1 = 2 then 144 else if 1 = 1 then 1120 else 11200)] : State).pairSlow.drainAll))
    | _ => false) = true := by decide +kernel

def w_ethLinkChange_down : State := wRun [(ETH_CFG_LINK 0, 1), (ETH_CFG_SPEED 0, 2)]

theorem test_ethLinkChange_down : ((w_ethLinkChange_down.stopSafe = true) ∧ (0 < 6) ∧ (w_ethLinkChange_down.domOff 9 = false) ∧ (0 < 3) ∧ (0 ≠ 5) ∧ ((State.put { ((wRun [(ETH_CFG_LINK 0, 1), (ETH_CFG_SPEED 0, 2)]) : State) with site := { ((wRun [(ETH_CFG_LINK 0, 1), (ETH_CFG_SPEED 0, 2)]) : State).site with downAt := ((wRun [(ETH_CFG_LINK 0, 1), (ETH_CFG_SPEED 0, 2)]) : State).site.downAt.filter (fun (e : Nat × Nat) => e.1 ≠ 0) ++ [(0, if ((wRun [(ETH_CFG_LINK 0, 1), (ETH_CFG_SPEED 0, 2)]) : State).site.downAt.any (fun e => e.1 == 0) = true then ((wRun [(ETH_CFG_LINK 0, 1), (ETH_CFG_SPEED 0, 2)]) : State).linkDownAt 0 else ((wRun [(ETH_CFG_LINK 0, 1), (ETH_CFG_SPEED 0, 2)]) : State).ply)] } } (ETH_CFG_LINK 0) 0 : State) = State.put { w_ethLinkChange_down with site := { w_ethLinkChange_down.site with downAt := w_ethLinkChange_down.site.downAt.filter (fun (e : Nat × Nat) => e.1 ≠ 0) ++ [(0, if w_ethLinkChange_down.site.downAt.any (fun e => e.1 == 0) = true then w_ethLinkChange_down.linkDownAt 0 else w_ethLinkChange_down.ply)] } } (ETH_CFG_LINK 0) 0)) ∧ (match exec (.ethLinkChange 0 false 0) w_ethLinkChange_down with
    | .next t => decide ((Reads t [(ETH_CFG_LINK 0, 0), (ETH_CFG_SPEED 0, w_ethLinkChange_down.get (ETH_CFG_SPEED 0))]) ∧ (t = (State.put { ((wRun [(ETH_CFG_LINK 0, 1), (ETH_CFG_SPEED 0, 2)]) : State) with site := { ((wRun [(ETH_CFG_LINK 0, 1), (ETH_CFG_SPEED 0, 2)]) : State).site with downAt := ((wRun [(ETH_CFG_LINK 0, 1), (ETH_CFG_SPEED 0, 2)]) : State).site.downAt.filter (fun (e : Nat × Nat) => e.1 ≠ 0) ++ [(0, if ((wRun [(ETH_CFG_LINK 0, 1), (ETH_CFG_SPEED 0, 2)]) : State).site.downAt.any (fun e => e.1 == 0) = true then ((wRun [(ETH_CFG_LINK 0, 1), (ETH_CFG_SPEED 0, 2)]) : State).linkDownAt 0 else ((wRun [(ETH_CFG_LINK 0, 1), (ETH_CFG_SPEED 0, 2)]) : State).ply)] } } (ETH_CFG_LINK 0) 0 : State)))
    | _ => false) = true := by decide +kernel

def w_ethLinkChange_pairDown : State := wRun [(ETH_CFG_LINK 5, 1), (PAIR_CTRL_EN, 1), (PAIR_STATUS_LINK, 1)]

theorem test_ethLinkChange_pairDown : ((w_ethLinkChange_pairDown.stopSafe = true) ∧ (5 < 6) ∧ (w_ethLinkChange_pairDown.domOff 9 = false) ∧ (0 < 3) ∧ (5 = 5) ∧ ((State.put { ((wRun [(ETH_CFG_LINK 5, 1), (PAIR_CTRL_EN, 1), (PAIR_STATUS_LINK, 1)]) : State) with site := { ((wRun [(ETH_CFG_LINK 5, 1), (PAIR_CTRL_EN, 1), (PAIR_STATUS_LINK, 1)]) : State).site with downAt := ((wRun [(ETH_CFG_LINK 5, 1), (PAIR_CTRL_EN, 1), (PAIR_STATUS_LINK, 1)]) : State).site.downAt.filter (fun (e : Nat × Nat) => e.1 ≠ 5) ++ [(5, if ((wRun [(ETH_CFG_LINK 5, 1), (PAIR_CTRL_EN, 1), (PAIR_STATUS_LINK, 1)]) : State).site.downAt.any (fun e => e.1 == 5) = true then ((wRun [(ETH_CFG_LINK 5, 1), (PAIR_CTRL_EN, 1), (PAIR_STATUS_LINK, 1)]) : State).linkDownAt 5 else ((wRun [(ETH_CFG_LINK 5, 1), (PAIR_CTRL_EN, 1), (PAIR_STATUS_LINK, 1)]) : State).ply)] } } (ETH_CFG_LINK 5) 0 : State) = State.put { w_ethLinkChange_pairDown with site := { w_ethLinkChange_pairDown.site with downAt := w_ethLinkChange_pairDown.site.downAt.filter (fun (e : Nat × Nat) => e.1 ≠ 5) ++ [(5, if w_ethLinkChange_pairDown.site.downAt.any (fun e => e.1 == 5) = true then w_ethLinkChange_pairDown.linkDownAt 5 else w_ethLinkChange_pairDown.ply)] } } (ETH_CFG_LINK 5) 0)) ∧ (match exec (.ethLinkChange 5 false 0) w_ethLinkChange_pairDown with
    | .next t => decide ((Reads t [(ETH_CFG_LINK 5, 0), (PAIR_STATUS_LINK, 0), (PAIR_STATUS_PAIR_SLOW, 0)]) ∧ (t = (State.put { ((wRun [(ETH_CFG_LINK 5, 1), (PAIR_CTRL_EN, 1), (PAIR_STATUS_LINK, 1)]) : State) with site := { ((wRun [(ETH_CFG_LINK 5, 1), (PAIR_CTRL_EN, 1), (PAIR_STATUS_LINK, 1)]) : State).site with downAt := ((wRun [(ETH_CFG_LINK 5, 1), (PAIR_CTRL_EN, 1), (PAIR_STATUS_LINK, 1)]) : State).site.downAt.filter (fun (e : Nat × Nat) => e.1 ≠ 5) ++ [(5, if ((wRun [(ETH_CFG_LINK 5, 1), (PAIR_CTRL_EN, 1), (PAIR_STATUS_LINK, 1)]) : State).site.downAt.any (fun e => e.1 == 5) = true then ((wRun [(ETH_CFG_LINK 5, 1), (PAIR_CTRL_EN, 1), (PAIR_STATUS_LINK, 1)]) : State).linkDownAt 5 else ((wRun [(ETH_CFG_LINK 5, 1), (PAIR_CTRL_EN, 1), (PAIR_STATUS_LINK, 1)]) : State).ply)] } } (ETH_CFG_LINK 5) 0 : State).pairSlow))
    | _ => false) = true := by decide +kernel

theorem test_ethLinkChange_none : ((wReset.stopSafe = true) ∧ (6 ≤ 6 ∨ wReset.domOff 9 = true ∨ 3 ≤ 0)) ∧ (match exec (.ethLinkChange 6 true 0) wReset with
    | .next t => decide ((t = wReset))
    | _ => false) = true := by decide +kernel

def w_uartRxByte : State := { wRun [(MON_STATUS_DBG_LOCK, 1), (UART_CFG_FUNC 3, 2)] with site := { State.reset.site with uarts := [(3, { rx := [(1, 0)] })] } }

theorem test_uartRxByte : ((w_uartRxByte.stopSafe = true) ∧ (3 < 4) ∧ (w_uartRxByte.domOff 3 = false) ∧ (w_uartRxByte.uartOwned 3 = false) ∧ (w_uartRxByte.get (UART_CFG_FUNC 3) = 2) ∧ ((w_uartRxByte.uart 3).rx.length < 1024)) ∧ (match exec (.uartRxByte 3 0x1FF 2) w_uartRxByte with
    | .next t => decide ((t.site = { w_uartRxByte.site with uarts := w_uartRxByte.site.uarts.filter (fun (e : Nat × UartState) => e.1 ≠ 3) ++ [(3, { w_uartRxByte.uart 3 with rx := (w_uartRxByte.uart 3).rx ++ [(0x1FF % 256, 2 % 4)] })] }) ∧ (Reads t [(UART_STATUS_TX_USED 3, (w_uartRxByte.uart 3).used % 2 ^ (UART_STATUS_TX_USED 3).w), (UART_STATUS_RX_USED 3, ((w_uartRxByte.uart 3).rx.length + 1) % 2 ^ (UART_STATUS_RX_USED 3).w)]) ∧ (Reads t [(UART_CNT_RX_ERR 3, if 2 % 4 = 0 then w_uartRxByte.get (UART_CNT_RX_ERR 3) else w_uartRxByte.adv (UART_CNT_RX_ERR 3))]))
    | _ => false) = true := by decide +kernel

def w_uartRxByte_full : State := { wRun [(MON_STATUS_DBG_LOCK, 1), (UART_CFG_FUNC 1, 2)] with site := { State.reset.site with uarts := [(1, { rx := List.replicate 1024 (1, 0) })] } }

theorem test_uartRxByte_full : ((w_uartRxByte_full.stopSafe = true) ∧ (1 < 4) ∧ (w_uartRxByte_full.domOff 3 = false) ∧ (w_uartRxByte_full.uartOwned 1 = false) ∧ (w_uartRxByte_full.get (UART_CFG_FUNC 1) = 2) ∧ (1024 ≤ (w_uartRxByte_full.uart 1).rx.length)) ∧ (match exec (.uartRxByte 1 0x1FF 1) w_uartRxByte_full with
    | .next t => decide ((Reads t [(UART_CNT_RX_OVR 1, w_uartRxByte_full.adv (UART_CNT_RX_OVR 1)), (UART_CNT_RX_ERR 1, if 1 % 4 = 0 then w_uartRxByte_full.get (UART_CNT_RX_ERR 1) else w_uartRxByte_full.adv (UART_CNT_RX_ERR 1))]))
    | _ => false) = true := by decide +kernel

def w_uartRxByte_none : State := { wRun [(MON_STATUS_DBG_LOCK, 1), (UART_CFG_FUNC 1, 1)] with site := { State.reset.site with uarts := [(1, {  })] } }

theorem test_uartRxByte_none : ((w_uartRxByte_none.stopSafe = true) ∧ (4 ≤ 1 ∨ w_uartRxByte_none.domOff 3 = true ∨ (w_uartRxByte_none.uartOwned 1 = false ∧ w_uartRxByte_none.get (UART_CFG_FUNC 1) ≠ 2))) ∧ (match exec (.uartRxByte 1 65 0) w_uartRxByte_none with
    | .next t => decide ((t = w_uartRxByte_none))
    | _ => false) = true := by decide +kernel

def w_uartRxByte_line : State := { wRun [] with boot := { State.reset.boot with line := [66] } }

theorem test_uartRxByte_line : ((w_uartRxByte_line.stopSafe = true) ∧ (w_uartRxByte_line.domOff 3 = false) ∧ (w_uartRxByte_line.uartOwned 0 = true) ∧ (w_uartRxByte_line.boot.slip = none) ∧ (0x41 % 256 ≠ 13) ∧ (0x41 % 256 ≠ 0xC0 ∨ ¬ (w_uartRxByte_line.bit BOOT_STATUS_RECOVERY = true ∧ w_uartRxByte_line.get STRAP_REC_IF = 0))) ∧ (match exec (.uartRxByte 0 0x41 0) w_uartRxByte_line with
    | .next t => decide ((t.boot = { w_uartRxByte_line.boot with line := w_uartRxByte_line.boot.line ++ [0x41 % 256] }))
    | _ => false) = true := by decide +kernel

def w_uartRxByte_lineEnd : State := { wRun [] with boot := { State.reset.boot with line := [66] } }

theorem test_uartRxByte_lineEnd : ((w_uartRxByte_lineEnd.stopSafe = true) ∧ (w_uartRxByte_lineEnd.domOff 3 = false) ∧ (w_uartRxByte_lineEnd.uartOwned 0 = true) ∧ (w_uartRxByte_lineEnd.boot.slip = none) ∧ (13 % 256 = 13)) ∧ (match exec (.uartRxByte 0 13 0) w_uartRxByte_lineEnd with
    | .next t => decide ((t.boot = { w_uartRxByte_lineEnd.boot with line := [], lastLine := w_uartRxByte_lineEnd.ply }))
    | _ => false) = true := by decide +kernel

def w_uartRxByte_packet : State := { wRun [(BOOT_STATUS_RECOVERY, 1)] with boot := { State.reset.boot with line := [66] } }

theorem test_uartRxByte_packet : ((w_uartRxByte_packet.stopSafe = true) ∧ (w_uartRxByte_packet.domOff 3 = false) ∧ (w_uartRxByte_packet.uartOwned 0 = true) ∧ (w_uartRxByte_packet.boot.slip = none) ∧ (0xC0 % 256 = 0xC0) ∧ (w_uartRxByte_packet.bit BOOT_STATUS_RECOVERY = true ∧ w_uartRxByte_packet.get STRAP_REC_IF = 0)) ∧ (match exec (.uartRxByte 0 0xC0 0) w_uartRxByte_packet with
    | .next t => decide ((t.boot = { w_uartRxByte_packet.boot with slip := some [] }))
    | _ => false) = true := by decide +kernel

def w_uartRxByte_inPacket : State := { wRun [(BOOT_STATUS_RECOVERY, 1)] with boot := { State.reset.boot with slip := some [1] } }

theorem test_uartRxByte_inPacket : ((w_uartRxByte_inPacket.stopSafe = true) ∧ (w_uartRxByte_inPacket.domOff 3 = false) ∧ (w_uartRxByte_inPacket.uartOwned 0 = true) ∧ (w_uartRxByte_inPacket.boot.slip = some ([1] : List Nat))) ∧ (match exec (.uartRxByte 0 0x0D 0) w_uartRxByte_inPacket with
    | .next t => decide ((t.boot = { w_uartRxByte_inPacket.boot with slip := if 0x0D % 256 = 0xC0 then none else some (([1] : List Nat) ++ [0x0D % 256]) }))
    | _ => false) = true := by decide +kernel

def w_uartDataWrite : State := { wRun [(MON_STATUS_DBG_LOCK, 1), (UART_CFG_FUNC 2, 2)] with site := { State.reset.site with uarts := [(2, { tx := [(true, List.replicate 4095 1)] })] } }

theorem test_uartDataWrite : ((w_uartDataWrite.stopSafe = true) ∧ (2 < 4) ∧ (MayWrite w_uartDataWrite 0x10 (0x40002008 + 0x40 * 2)) ∧ (w_uartDataWrite.get (UART_CFG_FUNC 2) ≠ 1 ∨ w_uartDataWrite.uartOwned 2 = true) ∧ ((w_uartDataWrite.uart 2).used < 4096)) ∧ (match exec (.uartDataWrite 0x10 2 300) w_uartDataWrite with
    | .next t => decide ((t.site = { w_uartDataWrite.site with uarts := w_uartDataWrite.site.uarts.filter (fun (e : Nat × UartState) => e.1 ≠ 2) ++ [(2, { w_uartDataWrite.uart 2 with tx := (w_uartDataWrite.uart 2).tx ++ [(false, [300 % 256])] })] }) ∧ (Reads t [(UART_STATUS_TX_USED 2, ((w_uartDataWrite.uart 2).used + 1) % 2 ^ (UART_STATUS_TX_USED 2).w), (UART_STATUS_RX_USED 2, (w_uartDataWrite.uart 2).rx.length % 2 ^ (UART_STATUS_RX_USED 2).w)]))
    | _ => false) = true := by decide +kernel

def w_uartDataWrite_full : State := { wRun [(MON_STATUS_DBG_LOCK, 1), (UART_CFG_FUNC 2, 2)] with site := { State.reset.site with uarts := [(2, { tx := [(true, List.replicate 4096 1)] })] } }

theorem test_uartDataWrite_full : ((w_uartDataWrite_full.stopSafe = true) ∧ (2 < 4) ∧ (MayWrite w_uartDataWrite_full 0x10 (0x40002008 + 0x40 * 2)) ∧ (w_uartDataWrite_full.get (UART_CFG_FUNC 2) ≠ 1 ∨ w_uartDataWrite_full.uartOwned 2 = true) ∧ (4096 ≤ (w_uartDataWrite_full.uart 2).used)) ∧ (match exec (.uartDataWrite 0x10 2 300) w_uartDataWrite_full with
    | .next t => decide ((Reads t [(UART_CNT_TX_DROP 2, w_uartDataWrite_full.adv (UART_CNT_TX_DROP 2))]))
    | _ => false) = true := by decide +kernel

def w_uartDataWrite_none : State := { wRun [(MON_STATUS_DBG_LOCK, 1), (UART_CFG_FUNC 2, 1)] with site := { State.reset.site with uarts := [(2, {  })] } }

theorem test_uartDataWrite_none : ((w_uartDataWrite_none.stopSafe = true) ∧ (4 ≤ 2 ∨ (MayWrite w_uartDataWrite_none 0x10 (0x40002008 + 0x40 * 2) ∧ w_uartDataWrite_none.get (UART_CFG_FUNC 2) = 1 ∧ w_uartDataWrite_none.uartOwned 2 = false))) ∧ (match exec (.uartDataWrite 0x10 2 300) w_uartDataWrite_none with
    | .next t => decide ((t = w_uartDataWrite_none))
    | _ => false) = true := by decide +kernel

def w_uartDataRead : State := { wRun [(MON_STATUS_DBG_LOCK, 1)] with site := { State.reset.site with uarts := [(0, { rx := [(1, 0), (2, 1)] })] } }

theorem test_uartDataRead : ((w_uartDataRead.stopSafe = true) ∧ (0 < 4) ∧ (MayRead w_uartDataRead 0x10 (0x40002008 + 0x40 * 0))) ∧ (match exec (.uartDataRead 0x10 0) w_uartDataRead with
    | .next t => decide ((t.site = { w_uartDataRead.site with uarts := w_uartDataRead.site.uarts.filter (fun (e : Nat × UartState) => e.1 ≠ 0) ++ [(0, { w_uartDataRead.uart 0 with rx := (w_uartDataRead.uart 0).rx.drop 1 })] }) ∧ (Reads t [(UART_STATUS_TX_USED 0, (w_uartDataRead.uart 0).used % 2 ^ (UART_STATUS_TX_USED 0).w), (UART_STATUS_RX_USED 0, ((w_uartDataRead.uart 0).rx.length - 1) % 2 ^ (UART_STATUS_RX_USED 0).w)]))
    | _ => false) = true := by decide +kernel

theorem test_uartDataRead_none : ((wReset.stopSafe = true) ∧ (4 ≤ 4)) ∧ (match exec (.uartDataRead 0x10 4) wReset with
    | .next t => decide ((t = wReset))
    | _ => false) = true := by decide +kernel

def w_uartMonitorTake : State := { wRun [(MON_STATUS_DBG_LOCK, 1), (MON_STATUS_DBG_LOCK, 0)] with site := { State.reset.site with uarts := [(0, { tx := [(true, [1]), (false, [2]), (true, [3, 4])] })] } }

theorem test_uartMonitorTake : ((w_uartMonitorTake.stopSafe = true) ∧ (w_uartMonitorTake.domOff 3 = false) ∧ (w_uartMonitorTake.bit BOOT_STATUS_RECOVERY = true ∨ (true = true ∧ (w_uartMonitorTake.bit MON_STATUS_DBG_LOCK = false ∨ w_uartMonitorTake.bit TRIM_STATUS_SAFE = true)))) ∧ (match exec (.uartMonitorTake true) w_uartMonitorTake with
    | .next t => decide ((t.site = { w_uartMonitorTake.site with uarts := w_uartMonitorTake.site.uarts.filter (fun (e : Nat × UartState) => e.1 ≠ 0) ++ [(0, { w_uartMonitorTake.uart 0 with tx := [] })] }) ∧ (Reads t [(UART_STATUS_OWNED 0, 1), (UART_STATUS_TX_USED 0, 0), (UART_STATUS_RX_USED 0, (w_uartMonitorTake.uart 0).rx.length % 2 ^ (UART_STATUS_RX_USED 0).w), (MON_STATUS_HELD, if true = true then 1 else w_uartMonitorTake.get MON_STATUS_HELD), (UART_CNT_RTCM_DROP 0, w_uartMonitorTake.adv (UART_CNT_RTCM_DROP 0) ((w_uartMonitorTake.uart 0).tx.filter (fun c => c.1)).length)]))
    | _ => false) = true := by decide +kernel

def w_uartMonitorTake_none : State := { wRun [(MON_STATUS_DBG_LOCK, 1)] with site := { State.reset.site with uarts := [(0, {  })] } }

theorem test_uartMonitorTake_none : ((w_uartMonitorTake_none.stopSafe = true) ∧ (w_uartMonitorTake_none.domOff 3 = true ∨ ¬ (w_uartMonitorTake_none.bit BOOT_STATUS_RECOVERY = true ∨ (true = true ∧ (w_uartMonitorTake_none.bit MON_STATUS_DBG_LOCK = false ∨ w_uartMonitorTake_none.bit TRIM_STATUS_SAFE = true))))) ∧ (match exec (.uartMonitorTake true) w_uartMonitorTake_none with
    | .next t => decide ((t = w_uartMonitorTake_none))
    | _ => false) = true := by decide +kernel

def w_uartMonitorRelease : State := { wRun [(MON_STATUS_DBG_LOCK, 1), (MON_STATUS_HELD, 1), (UART_STATUS_OWNED 0, 1)] with ply := 6000000 }

theorem test_uartMonitorRelease : ((w_uartMonitorRelease.stopSafe = true) ∧ (w_uartMonitorRelease.monIdle = true)) ∧ (match exec (.uartMonitorRelease) w_uartMonitorRelease with
    | .next t => decide ((Reads t [(MON_STATUS_HELD, 0), (UART_STATUS_OWNED 0, if (w_uartMonitorRelease.bit BOOT_STATUS_RECOVERY || w_uartMonitorRelease.bit TRIM_STATUS_SAFE) = true then w_uartMonitorRelease.get (UART_STATUS_OWNED 0) else 0)]))
    | _ => false) = true := by decide +kernel

theorem test_uartMonitorRelease_none : ((wReset.stopSafe = true) ∧ (wReset.monIdle = false)) ∧ (match exec (.uartMonitorRelease) wReset with
    | .next t => decide ((t = wReset))
    | _ => false) = true := by decide +kernel

def w_i2cGo : State := wRun []

theorem test_i2cGo : ((w_i2cGo.stopSafe = true) ∧ (1 < 2) ∧ (MayWrite w_i2cGo 0x10 (0x40002200 + 0x80 * 1)) ∧ (bitOf 0xD4020020 31 = true) ∧ (w_i2cGo.bit (I2C_STATUS_BUSY 1) = false) ∧ (bits 0xD4020020 30 29 ≠ 3) ∧ (bits 0xD4020020 17 12 ≤ 32 ∧ bits 0xD4020020 5 0 ≤ 32) ∧ (bits 0xD4020020 17 12 ≠ 0 ∨ bits 0xD4020020 5 0 ≠ 0)) ∧ (match exec (.i2cGo 0x10 1 0xD4020020) w_i2cGo with
    | .next t => decide ((Reads t [(I2C_STATUS_BUSY 1, 1), (I2C_CMD_SPEED 1, bits 0xD4020020 30 29), (I2C_CMD_ADDR 1, bits 0xD4020020 28 22), (I2C_CMD_WLEN 1, bits 0xD4020020 17 12), (I2C_CMD_RLEN 1, bits 0xD4020020 5 0)]))
    | _ => false) = true := by decide +kernel

def w_i2cGo_none : State := wRun []

theorem test_i2cGo_none : ((w_i2cGo_none.stopSafe = true) ∧ (2 ≤ 1 ∨ bitOf 0xD4000000 31 = false ∨ (MayWrite w_i2cGo_none 0x10 (0x40002200 + 0x80 * 1) ∧ (w_i2cGo_none.bit (I2C_STATUS_BUSY 1) = true ∨ (bits 0xD4000000 17 12 = 0 ∧ bits 0xD4000000 5 0 = 0) ∨ bits 0xD4000000 30 29 = 3 ∨ 32 < bits 0xD4000000 17 12 ∨ 32 < bits 0xD4000000 5 0)))) ∧ (match exec (.i2cGo 0x10 1 0xD4000000) w_i2cGo_none with
    | .next t => decide ((t = w_i2cGo_none))
    | _ => false) = true := by decide +kernel

def w_i2cTransactionEnd : State := wRun [(I2C_STATUS_BUSY 1, 1), (I2C_CMD_WLEN 1, 2), (I2C_CMD_RLEN 1, 6), (I2C_BUF_DATA 1 1, 0x11223344)]

theorem test_i2cTransactionEnd : ((w_i2cTransactionEnd.stopSafe = true) ∧ (1 < 2) ∧ (w_i2cTransactionEnd.bit (I2C_STATUS_BUSY 1) = true) ∧ (i2cEndOk (w_i2cTransactionEnd.get (I2C_CMD_WLEN 1)) (w_i2cTransactionEnd.get (I2C_CMD_RLEN 1)) 0 8 ([1, 2, 3, 4, 5, 6] : List Nat).length = true) ∧ (8 < 64)) ∧ (match exec (.i2cTransactionEnd 1 0 8 ([1, 2, 3, 4, 5, 6] : List Nat)) w_i2cTransactionEnd with
    | .next t => decide ((Reads t [(I2C_STATUS_BUSY 1, 0), (I2C_STATUS_DONE 1, 1), (I2C_STATUS_RESULT 1, 0), (I2C_STATUS_COUNT 1, 8)]) ∧ ((List.range 32).all (fun i => t.get (I2C_BUF_DATA 1 (i / 4)) / 256 ^ (i % 4) % 256 == (if i < ([1, 2, 3, 4, 5, 6] : List Nat).length then ([1, 2, 3, 4, 5, 6] : List Nat).getD i 0 % 256 else w_i2cTransactionEnd.get (I2C_BUF_DATA 1 (i / 4)) / 256 ^ (i % 4) % 256)) = true) ∧ (t.out = (if 0 = 5 then w_i2cTransactionEnd.out else w_i2cTransactionEnd.out ++ [Output.i2c 1 (w_i2cTransactionEnd.get (I2C_CMD_ADDR 1)) (w_i2cTransactionEnd.i2cBytes 1 (min 8 (w_i2cTransactionEnd.get (I2C_CMD_WLEN 1)))) ([1, 2, 3, 4, 5, 6] : List Nat).length])))
    | _ => false) = true := by decide +kernel

def w_i2cTransactionEnd_all : State := wRun [(I2C_STATUS_BUSY 1, 1), (I2C_CMD_RLEN 1, 32), (I2C_CMD_WLEN 1, 32)]

theorem test_i2cTransactionEnd_all : (w_i2cTransactionEnd_all.stopSafe = true) ∧ (1 < 2) ∧ (w_i2cTransactionEnd_all.bit (I2C_STATUS_BUSY 1) = true) ∧ (i2cEndOk (w_i2cTransactionEnd_all.get (I2C_CMD_WLEN 1)) (w_i2cTransactionEnd_all.get (I2C_CMD_RLEN 1)) 0 64 (List.range 32 : List Nat).length = true) ∧ (64 ≤ 64) := by decide +kernel

def w_i2cTransactionEnd_none : State := wRun [(I2C_STATUS_BUSY 1, 1), (I2C_CMD_RLEN 1, 32), (I2C_CMD_WLEN 1, 32)]

theorem test_i2cTransactionEnd_none : ((w_i2cTransactionEnd_none.stopSafe = true) ∧ (2 ≤ 1 ∨ w_i2cTransactionEnd_none.bit (I2C_STATUS_BUSY 1) = false ∨ i2cEndOk (w_i2cTransactionEnd_none.get (I2C_CMD_WLEN 1)) (w_i2cTransactionEnd_none.get (I2C_CMD_RLEN 1)) 0 63 (List.range 31 : List Nat).length = false)) ∧ (match exec (.i2cTransactionEnd 1 0 63 (List.range 31 : List Nat)) w_i2cTransactionEnd_none with
    | .next t => decide ((t = w_i2cTransactionEnd_none))
    | _ => false) = true := by decide +kernel

def w_canFrameReceive : State := { wRun [(CAN_CFG_EN 1, 1), (CAN_CFG_FD 1, 1), (CAN_STATUS_STATE 1, 0), (CAN_FILT_ID_EN 1 3, 1), (CAN_FILT_ID_EN 1 9, 1), (CAN_FILT_MASK_MASK 1 9, 0), (CAN_FILT_ID_ID 1 3, 0x120), (CAN_FILT_MASK_MASK 1 3, 0x1FFFFFF0)] with ply := 0x100000007, site := { State.reset.site with cans := [(1, { rx := [], tx := [], goes := 5 })] } }

theorem test_canFrameReceive : ((w_canFrameReceive.stopSafe = true) ∧ (w_canFrameReceive.canOn 1 = true) ∧ (0 < 2) ∧ (1 < 2) ∧ (1 < 2) ∧ (0x123 < 2 ^ 29) ∧ ((List.range 12 : List Nat).length = dlcBytes 1 9) ∧ (1 = 0 ∨ w_canFrameReceive.bit (CAN_CFG_FD 1) = true) ∧ (w_canFrameReceive.canFilter 1 0 0x123 = some 3) ∧ ((w_canFrameReceive.can 1).rx.length < 64)) ∧ (match exec (.canFrameReceive 1 0 1 1 0x123 9 (List.range 12 : List Nat)) w_canFrameReceive with
    | .next t => decide ((t.site = { w_canFrameReceive.site with cans := w_canFrameReceive.site.cans.filter (fun (e : Nat × CanState) => e.1 ≠ 1) ++ [(1, { w_canFrameReceive.can 1 with rx := (w_canFrameReceive.can 1).rx ++ [(⟨0, 1, 1, 0x123, 9, (List.range 12 : List Nat)⟩, 3, w_canFrameReceive.ply % 2 ^ 32)] })] }) ∧ (Reads t [(CAN_STATUS_RX_USED 1, (w_canFrameReceive.can 1).rx.length + 1)]) ∧ (canShows t 1 ((w_canFrameReceive.can 1).rx ++ [(⟨0, 1, 1, 0x123, 9, (List.range 12 : List Nat)⟩, 3, w_canFrameReceive.ply % 2 ^ 32)]) = true))
    | _ => false) = true := by decide +kernel

def w_canFrameReceive_full : State := { wRun [(CAN_CFG_EN 1, 1), (CAN_CFG_FD 1, 1), (CAN_STATUS_STATE 1, 0), (CAN_FILT_ID_EN 1 3, 1), (CAN_FILT_ID_EN 1 9, 1), (CAN_FILT_MASK_MASK 1 9, 0), (CAN_FILT_ID_ID 1 3, 0x120), (CAN_FILT_MASK_MASK 1 3, 0x1FFFFFF0)] with ply := 0x100000007, site := { State.reset.site with cans := [(1, { rx := List.replicate 64 (⟨0, 0, 0, 5, 1, [7]⟩, 3, 1), tx := [], goes := 5 })] } }

theorem test_canFrameReceive_full : ((w_canFrameReceive_full.stopSafe = true) ∧ (w_canFrameReceive_full.canOn 1 = true) ∧ (0 < 2) ∧ (1 < 2) ∧ (1 < 2) ∧ (0x123 < 2 ^ 29) ∧ ((List.range 12 : List Nat).length = dlcBytes 1 9) ∧ (1 = 0 ∨ w_canFrameReceive_full.bit (CAN_CFG_FD 1) = true) ∧ (w_canFrameReceive_full.canFilter 1 0 0x123 = some 3) ∧ (64 ≤ (w_canFrameReceive_full.can 1).rx.length)) ∧ (match exec (.canFrameReceive 1 0 1 1 0x123 9 (List.range 12 : List Nat)) w_canFrameReceive_full with
    | .next t => decide ((Reads t [(CAN_CNT_RX_OVR 1, w_canFrameReceive_full.adv (CAN_CNT_RX_OVR 1))]))
    | _ => false) = true := by decide +kernel

def w_canFrameReceive_none : State := { wRun [(CAN_CFG_EN 1, 1), (CAN_CFG_FD 1, 1), (CAN_STATUS_STATE 1, 0), (CAN_FILT_ID_EN 1 3, 1), (CAN_FILT_ID_EN 1 9, 1), (CAN_FILT_MASK_MASK 1 9, 0), (CAN_FILT_ID_ID 1 3, 0x120), (CAN_FILT_MASK_MASK 1 3, 0x1FFFFFF0)] with ply := 0x100000007, site := { State.reset.site with cans := [(1, { rx := [], tx := [], goes := 5 })] } }

theorem test_canFrameReceive_none : ((w_canFrameReceive_none.stopSafe = true) ∧ (w_canFrameReceive_none.canOn 1 = false ∨ 2 ≤ 1 ∨ 2 ≤ 1 ∨ 2 ≤ 1 ∨ 2 ^ 29 ≤ 0x123 ∨ (List.range 12 : List Nat).length ≠ dlcBytes 1 9 ∨ (1 = 1 ∧ w_canFrameReceive_none.bit (CAN_CFG_FD 1) = false) ∨ w_canFrameReceive_none.canFilter 1 1 0x123 = none)) ∧ (match exec (.canFrameReceive 1 1 1 1 0x123 9 (List.range 12 : List Nat)) w_canFrameReceive_none with
    | .next t => decide ((t = w_canFrameReceive_none))
    | _ => false) = true := by decide +kernel

def w_canRxPop : State := { wRun [(CAN_CFG_EN 1, 1), (CAN_CFG_FD 1, 1), (CAN_STATUS_STATE 1, 0), (CAN_FILT_ID_EN 1 3, 1), (CAN_FILT_ID_EN 1 9, 1), (CAN_FILT_MASK_MASK 1 9, 0), (CAN_FILT_ID_ID 1 3, 0x120), (CAN_FILT_MASK_MASK 1 3, 0x1FFFFFF0)] with ply := 0x100000007, site := { State.reset.site with cans := [(1, { rx := [(⟨0, 0, 0, 5, 1, [7]⟩, 3, 1), (⟨0, 0, 0, 5, 1, [7]⟩, 3, 2)], tx := [], goes := 5 })] } }

theorem test_canRxPop : ((w_canRxPop.stopSafe = true) ∧ (1 < 2) ∧ (MayWrite w_canRxPop 0x10 (0x4000264C + 0x400 * 1))) ∧ (match exec (.canRxPop 0x10 1) w_canRxPop with
    | .next t => decide ((t.site = { w_canRxPop.site with cans := w_canRxPop.site.cans.filter (fun (e : Nat × CanState) => e.1 ≠ 1) ++ [(1, { w_canRxPop.can 1 with rx := (w_canRxPop.can 1).rx.drop 1 })] }) ∧ (Reads t [(CAN_STATUS_RX_USED 1, ((w_canRxPop.can 1).rx.length - 1) % 2 ^ (CAN_STATUS_RX_USED 1).w)]) ∧ (canShows t 1 ((w_canRxPop.can 1).rx.drop 1) = true))
    | _ => false) = true := by decide +kernel

theorem test_canRxPop_none : ((wReset.stopSafe = true) ∧ (2 ≤ 2)) ∧ (match exec (.canRxPop 0x10 2) wReset with
    | .next t => decide ((t = wReset))
    | _ => false) = true := by decide +kernel

def w_canTxGo : State := { wRun [(CAN_CFG_EN 1, 1), (CAN_CFG_FD 1, 1), (CAN_STATUS_STATE 1, 0), (CAN_FILT_ID_EN 1 3, 1), (CAN_FILT_ID_EN 1 9, 1), (CAN_FILT_MASK_MASK 1 9, 0), (CAN_FILT_ID_ID 1 3, 0x120), (CAN_FILT_MASK_MASK 1 3, 0x1FFFFFF0), (CAN_TX_W1_DLC 1, 8), (CAN_TX_W0_ID 1, 7), (CAN_TX_D_DATA 1 1, 0x01020304)] with ply := 0x100000007, site := { State.reset.site with cans := [(1, { rx := [], tx := [(31, ⟨0, 0, 0, 5, 1, [7]⟩, 4)], goes := 5 })] } }

theorem test_canTxGo : ((w_canTxGo.stopSafe = true) ∧ (1 < 2) ∧ (31 < 32) ∧ (MayWrite w_canTxGo 0x10 (0x40002748 + 0x400 * 1))) ∧ (match exec (.canTxGo 0x10 1 31) w_canTxGo with
    | .next t => decide ((t.getBit (CAN_TXPEND_PENDING 1) 31 = true) ∧ ((List.range 32).all (fun x => x == 31 || t.getBit (CAN_TXPEND_PENDING 1) x == w_canTxGo.getBit (CAN_TXPEND_PENDING 1) x) = true) ∧ (t.site = { w_canTxGo.site with cans := w_canTxGo.site.cans.filter (fun (e : Nat × CanState) => e.1 ≠ 1) ++ [(1, { w_canTxGo.can 1 with tx := (w_canTxGo.can 1).tx.filter (fun (e : Nat × CanFrame × Nat) => e.1 ≠ 31) ++ [(31, ({ ide := w_canTxGo.get (CAN_TX_W0_IDE 1), fdf := w_canTxGo.get (CAN_TX_W0_FDF 1), brs := w_canTxGo.get (CAN_TX_W0_BRS 1), id := w_canTxGo.get (CAN_TX_W0_ID 1), dlc := w_canTxGo.get (CAN_TX_W1_DLC 1), data := ((List.range 16).flatMap (fun w => leBytes 4 (w_canTxGo.get (CAN_TX_D_DATA 1 w)))).take (dlcBytes (w_canTxGo.get (CAN_TX_W0_FDF 1)) (w_canTxGo.get (CAN_TX_W1_DLC 1))) } : CanFrame), (w_canTxGo.can 1).goes)], goes := (w_canTxGo.can 1).goes + 1 })] }) ∧ (Reads t [(CAN_STATUS_RX_USED 1, (w_canTxGo.can 1).rx.length % 2 ^ (CAN_STATUS_RX_USED 1).w)]) ∧ (canShows t 1 (w_canTxGo.can 1).rx = true))
    | _ => false) = true := by decide +kernel

theorem test_canTxGo_none : ((wReset.stopSafe = true) ∧ (2 ≤ 1 ∨ 32 ≤ 32)) ∧ (match exec (.canTxGo 0x10 1 32) wReset with
    | .next t => decide ((t = wReset))
    | _ => false) = true := by decide +kernel

def w_canTxAbort : State := { wRun [(CAN_CFG_EN 1, 1), (CAN_CFG_FD 1, 1), (CAN_STATUS_STATE 1, 0), (CAN_FILT_ID_EN 1 3, 1), (CAN_FILT_ID_EN 1 9, 1), (CAN_FILT_MASK_MASK 1 9, 0), (CAN_FILT_ID_ID 1 3, 0x120), (CAN_FILT_MASK_MASK 1 3, 0x1FFFFFF0), (CAN_TXPEND_PENDING 1, 0xC0000000)] with ply := 0x100000007, site := { State.reset.site with cans := [(1, { rx := [], tx := [(31, ⟨0, 0, 0, 5, 1, [7]⟩, 4)], goes := 5 })] } }

theorem test_canTxAbort : ((w_canTxAbort.stopSafe = true) ∧ (1 < 2) ∧ (31 < 32) ∧ (MayWrite w_canTxAbort 0x10 (0x40002748 + 0x400 * 1))) ∧ (match exec (.canTxAbort 0x10 1 31 false) w_canTxAbort with
    | .next t => decide ((t.getBit (CAN_TXPEND_PENDING 1) 31 = false) ∧ ((List.range 32).all (fun x => x == 31 || t.getBit (CAN_TXPEND_PENDING 1) x == w_canTxAbort.getBit (CAN_TXPEND_PENDING 1) x) = true))
    | _ => false) = true := by decide +kernel

def w_canTxAbort_none : State := { wRun [(CAN_CFG_EN 1, 1), (CAN_CFG_FD 1, 1), (CAN_STATUS_STATE 1, 0), (CAN_FILT_ID_EN 1 3, 1), (CAN_FILT_ID_EN 1 9, 1), (CAN_FILT_MASK_MASK 1 9, 0), (CAN_FILT_ID_ID 1 3, 0x120), (CAN_FILT_MASK_MASK 1 3, 0x1FFFFFF0), (CAN_TXPEND_PENDING 1, 0xC0000000)] with ply := 0x100000007, site := { State.reset.site with cans := [(1, { rx := [], tx := [(31, ⟨0, 0, 0, 5, 1, [7]⟩, 4)], goes := 5 })] } }

theorem test_canTxAbort_none : ((w_canTxAbort_none.stopSafe = true) ∧ (2 ≤ 1 ∨ 32 ≤ 31 ∨ (MayWrite w_canTxAbort_none 0x10 (0x40002748 + 0x400 * 1) ∧ true = true))) ∧ (match exec (.canTxAbort 0x10 1 31 true) w_canTxAbort_none with
    | .next t => decide ((t = w_canTxAbort_none))
    | _ => false) = true := by decide +kernel

def w_canTxComplete : State := { wRun [(CAN_CFG_EN 1, 1), (CAN_CFG_FD 1, 1), (CAN_STATUS_STATE 1, 0), (CAN_FILT_ID_EN 1 3, 1), (CAN_FILT_ID_EN 1 9, 1), (CAN_FILT_MASK_MASK 1 9, 0), (CAN_FILT_ID_ID 1 3, 0x120), (CAN_FILT_MASK_MASK 1 3, 0x1FFFFFF0), (CAN_TXPEND_PENDING 1, 0xC0000004)] with ply := 0x100000007, site := { State.reset.site with cans := [(1, { rx := [], tx := [(31, ⟨0, 0, 0, 5, 1, [7]⟩, 2), (30, ⟨0, 0, 0, 5, 1, [7]⟩, 1), (2, ⟨0, 0, 0, 4, 1, [7]⟩, 4)], goes := 5 })] } }

theorem test_canTxComplete : ((w_canTxComplete.stopSafe = true) ∧ (w_canTxComplete.canOn 1 = true) ∧ (30 < 32) ∧ (w_canTxComplete.canOffer 1 4 = some (30, (⟨0, 0, 0, 5, 1, [7]⟩ : CanFrame), 1))) ∧ (match exec (.canTxComplete 1 30 4) w_canTxComplete with
    | .next t => decide ((t.getBit (CAN_TXPEND_PENDING 1) 30 = false) ∧ (t.getBit (CAN_TXDONE_SENT 1) 30 = true) ∧ (t.out = w_canTxComplete.out ++ [Output.can 1 (⟨0, 0, 0, 5, 1, [7]⟩ : CanFrame).ide (⟨0, 0, 0, 5, 1, [7]⟩ : CanFrame).fdf (⟨0, 0, 0, 5, 1, [7]⟩ : CanFrame).brs (⟨0, 0, 0, 5, 1, [7]⟩ : CanFrame).id (⟨0, 0, 0, 5, 1, [7]⟩ : CanFrame).dlc (⟨0, 0, 0, 5, 1, [7]⟩ : CanFrame).data]) ∧ ((List.range 32).all (fun x => x == 30 || t.getBit (CAN_TXPEND_PENDING 1) x == w_canTxComplete.getBit (CAN_TXPEND_PENDING 1) x) = true) ∧ ((List.range 32).all (fun x => x == 30 || t.getBit (CAN_TXDONE_SENT 1) x == w_canTxComplete.getBit (CAN_TXDONE_SENT 1) x) = true))
    | _ => false) = true := by decide +kernel

def w_canTxComplete_none : State := { wRun [(CAN_CFG_EN 1, 1), (CAN_CFG_FD 1, 1), (CAN_STATUS_STATE 1, 0), (CAN_FILT_ID_EN 1 3, 1), (CAN_FILT_ID_EN 1 9, 1), (CAN_FILT_MASK_MASK 1 9, 0), (CAN_FILT_ID_ID 1 3, 0x120), (CAN_FILT_MASK_MASK 1 3, 0x1FFFFFF0), (CAN_TXPEND_PENDING 1, 0xC0000000)] with ply := 0x100000007, site := { State.reset.site with cans := [(1, { rx := [], tx := [(31, ⟨0, 0, 0, 5, 1, [7]⟩, 2), (30, ⟨0, 0, 0, 5, 1, [7]⟩, 1)], goes := 5 })] } }

theorem test_canTxComplete_none : ((w_canTxComplete_none.stopSafe = true) ∧ (w_canTxComplete_none.canOn 1 = false ∨ 32 ≤ 31 ∨ (w_canTxComplete_none.canOffer 1 4).all (fun e => e.1 != 31) = true)) ∧ (match exec (.canTxComplete 1 31 4) w_canTxComplete_none with
    | .next t => decide ((t = w_canTxComplete_none))
    | _ => false) = true := by decide +kernel

def w_canBusOff : State := { wRun [(CAN_CFG_EN 1, 1), (CAN_CFG_FD 1, 1), (CAN_STATUS_STATE 1, 0), (CAN_FILT_ID_EN 1 3, 1), (CAN_FILT_ID_EN 1 9, 1), (CAN_FILT_MASK_MASK 1 9, 0), (CAN_FILT_ID_ID 1 3, 0x120), (CAN_FILT_MASK_MASK 1 3, 0x1FFFFFF0)] with ply := 0x100000007, site := { State.reset.site with cans := [(1, { rx := [], tx := [], goes := 5 })] } }

theorem test_canBusOff : ((w_canBusOff.stopSafe = true) ∧ (w_canBusOff.canOn 1 = true) ∧ (256 ≤ 256)) ∧ (match exec (.canBusOff 1 3 256) w_canBusOff with
    | .next t => decide ((Reads t [(CAN_STATUS_STATE 1, 2), (CAN_STATUS_REC 1, 3 % 2 ^ (CAN_STATUS_REC 1).w), (CAN_STATUS_TEC 1, 255), (CAN_CNT_BUS_OFF 1, w_canBusOff.adv (CAN_CNT_BUS_OFF 1))]))
    | _ => false) = true := by decide +kernel

def w_canBusOff_none : State := { wRun [(CAN_CFG_EN 1, 1), (CAN_CFG_FD 1, 1), (CAN_STATUS_STATE 1, 0), (CAN_FILT_ID_EN 1 3, 1), (CAN_FILT_ID_EN 1 9, 1), (CAN_FILT_MASK_MASK 1 9, 0), (CAN_FILT_ID_ID 1 3, 0x120), (CAN_FILT_MASK_MASK 1 3, 0x1FFFFFF0)] with ply := 0x100000007, site := { State.reset.site with cans := [(1, { rx := [], tx := [], goes := 5 })] } }

theorem test_canBusOff_none : ((w_canBusOff_none.stopSafe = true) ∧ (w_canBusOff_none.canOn 1 = false ∨ 255 < 256)) ∧ (match exec (.canBusOff 1 3 255) w_canBusOff_none with
    | .next t => decide ((t = w_canBusOff_none))
    | _ => false) = true := by decide +kernel

def w_canBusOffRecovery : State := wRun [(CAN_CFG_EN 0, 1), (CAN_CFG_AUTO_RECOVER 0, 1), (CAN_STATUS_STATE 0, 2), (CAN_STATUS_TEC 0, 200)]

theorem test_canBusOffRecovery : ((w_canBusOffRecovery.stopSafe = true) ∧ (0 < 2) ∧ (128 ≤ 128) ∧ (w_canBusOffRecovery.bit (CAN_CFG_EN 0) = true) ∧ (w_canBusOffRecovery.get (CAN_STATUS_STATE 0) = 2) ∧ (w_canBusOffRecovery.bit (CAN_CFG_AUTO_RECOVER 0) = true)) ∧ (match exec (.canBusOffRecovery 0 128) w_canBusOffRecovery with
    | .next t => decide ((Reads t [(CAN_STATUS_STATE 0, 0), (CAN_STATUS_REC 0, 0), (CAN_STATUS_TEC 0, 0)]))
    | _ => false) = true := by decide +kernel

def w_canBusOffRecovery_none : State := wRun [(CAN_CFG_EN 0, 1), (CAN_CFG_AUTO_RECOVER 0, 1), (CAN_STATUS_STATE 0, 2)]

theorem test_canBusOffRecovery_none : ((w_canBusOffRecovery_none.stopSafe = true) ∧ (2 ≤ 0 ∨ 127 < 128 ∨ w_canBusOffRecovery_none.bit (CAN_CFG_EN 0) = false ∨ w_canBusOffRecovery_none.get (CAN_STATUS_STATE 0) ≠ 2 ∨ w_canBusOffRecovery_none.bit (CAN_CFG_AUTO_RECOVER 0) = false)) ∧ (match exec (.canBusOffRecovery 0 127) w_canBusOffRecovery_none with
    | .next t => decide ((t = w_canBusOffRecovery_none))
    | _ => false) = true := by decide +kernel

def w_canErrorPassive : State := { wRun [(CAN_CFG_EN 1, 1), (CAN_CFG_FD 1, 1), (CAN_STATUS_STATE 1, 0), (CAN_FILT_ID_EN 1 3, 1), (CAN_FILT_ID_EN 1 9, 1), (CAN_FILT_MASK_MASK 1 9, 0), (CAN_FILT_ID_ID 1 3, 0x120), (CAN_FILT_MASK_MASK 1 3, 0x1FFFFFF0)] with ply := 0x100000007, site := { State.reset.site with cans := [(1, { rx := [], tx := [], goes := 5 })] } }

theorem test_canErrorPassive : ((w_canErrorPassive.stopSafe = true) ∧ (w_canErrorPassive.canOn 1 = true) ∧ (128 ≤ 128 ∨ 128 ≤ 5) ∧ (w_canErrorPassive.get (CAN_STATUS_STATE 1) = 0)) ∧ (match exec (.canErrorPassive 1 128 5) w_canErrorPassive with
    | .next t => decide ((Reads t [(CAN_STATUS_STATE 1, 1), (CAN_STATUS_REC 1, 128 % 2 ^ (CAN_STATUS_REC 1).w), (CAN_STATUS_TEC 1, 5 % 2 ^ (CAN_STATUS_TEC 1).w)]))
    | _ => false) = true := by decide +kernel

def w_canErrorPassive_back : State := { wRun [(CAN_CFG_EN 1, 1), (CAN_CFG_FD 1, 1), (CAN_STATUS_STATE 1, 0), (CAN_FILT_ID_EN 1 3, 1), (CAN_FILT_ID_EN 1 9, 1), (CAN_FILT_MASK_MASK 1 9, 0), (CAN_FILT_ID_ID 1 3, 0x120), (CAN_FILT_MASK_MASK 1 3, 0x1FFFFFF0), (CAN_STATUS_STATE 1, 1)] with ply := 0x100000007, site := { State.reset.site with cans := [(1, { rx := [], tx := [], goes := 5 })] } }

theorem test_canErrorPassive_back : ((w_canErrorPassive_back.stopSafe = true) ∧ (w_canErrorPassive_back.canOn 1 = true) ∧ ((127 < 128 ∧ 5 < 128) ∨ w_canErrorPassive_back.get (CAN_STATUS_STATE 1) = 1)) ∧ (match exec (.canErrorPassive 1 127 5) w_canErrorPassive_back with
    | .next t => decide ((Reads t [(CAN_STATUS_STATE 1, if 128 ≤ 127 ∨ 128 ≤ 5 then 1 else 0), (CAN_STATUS_REC 1, 127 % 2 ^ (CAN_STATUS_REC 1).w), (CAN_STATUS_TEC 1, 5 % 2 ^ (CAN_STATUS_TEC 1).w)]))
    | _ => false) = true := by decide +kernel

theorem test_canErrorPassive_none : ((wReset.stopSafe = true) ∧ (wReset.canOn 1 = false)) ∧ (match exec (.canErrorPassive 1 127 5) wReset with
    | .next t => decide ((t = wReset))
    | _ => false) = true := by decide +kernel

def w_bootRomStart_safe : State := wRun [(TRIM_STATUS_SAFE, 1)]

theorem test_bootRomStart_safe : ((w_bootRomStart_safe.stopSafe = true) ∧ (w_bootRomStart_safe.boot.core0Rom = true) ∧ (w_bootRomStart_safe.domOff 4 = false) ∧ (w_bootRomStart_safe.bit BOOT_STATUS_RECOVERY = false) ∧ (((((wRun [(TRIM_STATUS_SAFE, 1)]) : State).restoreCounters) : State) = w_bootRomStart_safe.restoreCounters) ∧ (w_bootRomStart_safe.bit TRIM_STATUS_SAFE = true)) ∧ (match exec (.bootRomStart) w_bootRomStart_safe with
    | .next t => decide ((Reads t [(BOOT_STATUS_RECOVERY, 1), (BOOT_STATUS_CAUSE, 3), (ROOK_STATE_HALTED, 1), (MON_STATUS_HELD, 1), (UART_STATUS_OWNED 0, 1), (ROOK_STATE_STOP, w_bootRomStart_safe.get ROOK_STATE_STOP)]) ∧ (t = ((((wRun [(TRIM_STATUS_SAFE, 1)]) : State).restoreCounters) : State).enterRecovery 3))
    | _ => false) = true := by decide +kernel

def w_bootRomStart_request : State := { wRun [(STRAP_BOOT, 1)] with flash := { desc1 := some { seq := 9, st0 := 2, req := 1 } } }

theorem test_bootRomStart_request : ((w_bootRomStart_request.stopSafe = true) ∧ (w_bootRomStart_request.boot.core0Rom = true) ∧ (w_bootRomStart_request.domOff 4 = false) ∧ (w_bootRomStart_request.bit BOOT_STATUS_RECOVERY = false) ∧ (((({ wRun [(STRAP_BOOT, 1)] with flash := { desc1 := some { seq := 9, st0 := 2, req := 1 } } } : State).restoreCounters) : State) = w_bootRomStart_request.restoreCounters) ∧ (w_bootRomStart_request.bit TRIM_STATUS_SAFE = false) ∧ (w_bootRomStart_request.bit ROOK_STATE_HALTED = true) ∧ (w_bootRomStart_request.flash.desc.req = 1)) ∧ (match exec (.bootRomStart) w_bootRomStart_request with
    | .next t => decide ((Reads t [(BOOT_STATUS_RECOVERY, 1), (BOOT_STATUS_CAUSE, 4), (ROOK_STATE_HALTED, 1), (MON_STATUS_HELD, 1), (UART_STATUS_OWNED 0, 1), (ROOK_STATE_STOP, w_bootRomStart_request.get ROOK_STATE_STOP)]) ∧ (t.flash.desc = { w_bootRomStart_request.flash.desc with req := 0, seq := w_bootRomStart_request.flash.desc.seq + 1 }) ∧ (t = State.enterRecovery (((({ wRun [(STRAP_BOOT, 1)] with flash := { desc1 := some { seq := 9, st0 := 2, req := 1 } } } : State).restoreCounters) : State).writeDesc (fun d => { d with req := 0 })) 4))
    | _ => false) = true := by decide +kernel

def w_bootRomStart_strap0 : State := { wRun [(STRAP_BOOT, 0)] with flash := { desc1 := some { seq := 9, st0 := 2 } } }

theorem test_bootRomStart_strap0 : ((w_bootRomStart_strap0.stopSafe = true) ∧ (w_bootRomStart_strap0.boot.core0Rom = true) ∧ (w_bootRomStart_strap0.domOff 4 = false) ∧ (w_bootRomStart_strap0.bit BOOT_STATUS_RECOVERY = false) ∧ (((({ wRun [(STRAP_BOOT, 0)] with flash := { desc1 := some { seq := 9, st0 := 2 } } } : State).restoreCounters) : State) = w_bootRomStart_strap0.restoreCounters) ∧ (w_bootRomStart_strap0.bit TRIM_STATUS_SAFE = false) ∧ (w_bootRomStart_strap0.bit ROOK_STATE_HALTED = true) ∧ (w_bootRomStart_strap0.flash.desc.req ≠ 1) ∧ (w_bootRomStart_strap0.get STRAP_BOOT = 0)) ∧ (match exec (.bootRomStart) w_bootRomStart_strap0 with
    | .next t => decide ((Reads t [(BOOT_STATUS_RECOVERY, 1), (BOOT_STATUS_CAUSE, 1), (ROOK_STATE_HALTED, 1), (MON_STATUS_HELD, 1), (UART_STATUS_OWNED 0, 1), (ROOK_STATE_STOP, w_bootRomStart_strap0.get ROOK_STATE_STOP)]) ∧ (t.flash = w_bootRomStart_strap0.flash) ∧ (t = ((({ wRun [(STRAP_BOOT, 0)] with flash := { desc1 := some { seq := 9, st0 := 2 } } } : State).restoreCounters) : State).enterRecovery 1))
    | _ => false) = true := by decide +kernel

def w_bootRomStart_empty : State := { wRun [(STRAP_BOOT, 1)] with flash := { desc1 := some { seq := 9, st0 := 3 } } }

theorem test_bootRomStart_empty : ((w_bootRomStart_empty.stopSafe = true) ∧ (w_bootRomStart_empty.boot.core0Rom = true) ∧ (w_bootRomStart_empty.domOff 4 = false) ∧ (w_bootRomStart_empty.bit BOOT_STATUS_RECOVERY = false) ∧ (((({ wRun [(STRAP_BOOT, 1)] with flash := { desc1 := some { seq := 9, st0 := 3 } } } : State).restoreCounters) : State) = w_bootRomStart_empty.restoreCounters) ∧ (w_bootRomStart_empty.bit TRIM_STATUS_SAFE = false) ∧ (w_bootRomStart_empty.bit ROOK_STATE_HALTED = true) ∧ (w_bootRomStart_empty.flash.desc.req ≠ 1) ∧ (w_bootRomStart_empty.get STRAP_BOOT ≠ 0) ∧ (((({ wRun [(STRAP_BOOT, 1)] with flash := { desc1 := some { seq := 9, st0 := 3 } } } : State).restoreCounters) : State).selectSlot.2 = none)) ∧ (match exec (.bootRomStart) w_bootRomStart_empty with
    | .next t => decide ((Reads t [(BOOT_STATUS_RECOVERY, 1), (BOOT_STATUS_CAUSE, 2), (ROOK_STATE_HALTED, 1), (MON_STATUS_HELD, 1), (UART_STATUS_OWNED 0, 1), (ROOK_STATE_STOP, w_bootRomStart_empty.get ROOK_STATE_STOP)]) ∧ (t = ((({ wRun [(STRAP_BOOT, 1)] with flash := { desc1 := some { seq := 9, st0 := 3 } } } : State).restoreCounters) : State).selectSlot.1.enterRecovery 2))
    | _ => false) = true := by decide +kernel

def w_bootRomStart : State := { wRun [(STRAP_BOOT, 3)] with flash := { desc1 := some { seq := 9, st1 := 2 } } }

theorem test_bootRomStart : ((w_bootRomStart.stopSafe = true) ∧ (w_bootRomStart.boot.core0Rom = true) ∧ (w_bootRomStart.domOff 4 = false) ∧ (w_bootRomStart.bit BOOT_STATUS_RECOVERY = false) ∧ (((({ wRun [(STRAP_BOOT, 3)] with flash := { desc1 := some { seq := 9, st1 := 2 } } } : State).restoreCounters) : State) = w_bootRomStart.restoreCounters) ∧ (w_bootRomStart.bit TRIM_STATUS_SAFE = false) ∧ (w_bootRomStart.bit ROOK_STATE_HALTED = true) ∧ (w_bootRomStart.flash.desc.req ≠ 1) ∧ (1 < 2) ∧ (w_bootRomStart.get STRAP_BOOT = 1 + 2) ∧ (w_bootRomStart.flash.desc.st 1 ≠ 0 ∧ w_bootRomStart.flash.desc.st 1 ≠ 3)) ∧ (match exec (.bootRomStart) w_bootRomStart with
    | .next t => decide ((t = (if (((({ wRun [(STRAP_BOOT, 3)] with flash := { desc1 := some { seq := 9, st1 := 2 } } } : State).restoreCounters) : State).bootSlot true 1).2 = true then (((({ wRun [(STRAP_BOOT, 3)] with flash := { desc1 := some { seq := 9, st1 := 2 } } } : State).restoreCounters) : State).bootSlot true 1).1 else State.enterRecovery ((((({ wRun [(STRAP_BOOT, 3)] with flash := { desc1 := some { seq := 9, st1 := 2 } } } : State).restoreCounters) : State).bootSlot true 1).1.writeSt 1 3) 2)) ∧ ((if (w_bootRomStart.headerOk (w_bootRomStart.slotHeader 1) && typeOk (w_bootRomStart.slotBytes 1) (w_bootRomStart.slotHeader 1) 1 && typeOk (w_bootRomStart.slotBytes 1) (w_bootRomStart.slotHeader 1) 2 && typeOk (w_bootRomStart.slotBytes 1) (w_bootRomStart.slotHeader 1) 3) = true then (t.boot.core0Rom = false ∧ t.boot.header = some (w_bootRomStart.slotHeader 1) ∧ t.boot.started = false ∧ t.boot.loaded = [] ∧ Reads t [(BOOT_STATUS_SLOT, 1), (BOOT_STATUS_TRIAL, b2n (w_bootRomStart.flash.desc.st 1 == 1)), (REC_STATUS_RESTORE_OPEN, 0)] ∧ t.flash = w_bootRomStart.flash) else (t.flash.desc.st 1 = 3 ∧ Reads t [(BOOT_STATUS_RECOVERY, 1), (BOOT_STATUS_CAUSE, 2)]))))
    | _ => false) = true := by decide +kernel

def w_bootRomStart_selected : State := { wRun [(STRAP_BOOT, 1)] with flash := { desc1 := some { seq := 9, st0 := 1, tries0 := 2, st1 := 2 } } }

theorem test_bootRomStart_selected : ((w_bootRomStart_selected.stopSafe = true) ∧ (w_bootRomStart_selected.boot.core0Rom = true) ∧ (w_bootRomStart_selected.domOff 4 = false) ∧ (w_bootRomStart_selected.bit BOOT_STATUS_RECOVERY = false) ∧ (((({ wRun [(STRAP_BOOT, 1)] with flash := { desc1 := some { seq := 9, st0 := 1, tries0 := 2, st1 := 2 } } } : State).restoreCounters) : State) = w_bootRomStart_selected.restoreCounters) ∧ (w_bootRomStart_selected.bit TRIM_STATUS_SAFE = false) ∧ (w_bootRomStart_selected.bit ROOK_STATE_HALTED = true) ∧ (w_bootRomStart_selected.flash.desc.req ≠ 1) ∧ (((({ wRun [(STRAP_BOOT, 1)] with flash := { desc1 := some { seq := 9, st0 := 1, tries0 := 2, st1 := 2 } } } : State).restoreCounters) : State).selectSlot.2 = some 0) ∧ ((((({ wRun [(STRAP_BOOT, 1)] with flash := { desc1 := some { seq := 9, st0 := 1, tries0 := 2, st1 := 2 } } } : State).restoreCounters)).selectSlot.1 : State) = ((({ wRun [(STRAP_BOOT, 1)] with flash := { desc1 := some { seq := 9, st0 := 1, tries0 := 2, st1 := 2 } } } : State).restoreCounters) : State).selectSlot.1)) ∧ (match exec (.bootRomStart) w_bootRomStart_selected with
    | .next t => decide ((t = (if ((((({ wRun [(STRAP_BOOT, 1)] with flash := { desc1 := some { seq := 9, st0 := 1, tries0 := 2, st1 := 2 } } } : State).restoreCounters)).selectSlot.1 : State).bootSlot true 0).2 = true then ((((({ wRun [(STRAP_BOOT, 1)] with flash := { desc1 := some { seq := 9, st0 := 1, tries0 := 2, st1 := 2 } } } : State).restoreCounters)).selectSlot.1 : State).bootSlot true 0).1 else State.bootLoop 2 (((((({ wRun [(STRAP_BOOT, 1)] with flash := { desc1 := some { seq := 9, st0 := 1, tries0 := 2, st1 := 2 } } } : State).restoreCounters)).selectSlot.1 : State).bootSlot true 0).1.writeSt 0 3))))
    | _ => false) = true := by decide +kernel

def w_bootRomStart_spent : State := { wRun [(RST_CAUSE_CAUSE, 10), (ROOK_STATE_HALTED, 0)] with flash := { desc1 := some { seq := 9, st0 := 1, tries0 := 2 } } }

theorem test_bootRomStart_spent : ((w_bootRomStart_spent.stopSafe = true) ∧ (w_bootRomStart_spent.boot.core0Rom = true) ∧ (w_bootRomStart_spent.domOff 4 = false) ∧ (w_bootRomStart_spent.bit BOOT_STATUS_RECOVERY = false) ∧ (((({ wRun [(RST_CAUSE_CAUSE, 10), (ROOK_STATE_HALTED, 0)] with flash := { desc1 := some { seq := 9, st0 := 1, tries0 := 2 } } } : State).restoreCounters) : State) = w_bootRomStart_spent.restoreCounters) ∧ (w_bootRomStart_spent.bit TRIM_STATUS_SAFE = false) ∧ (w_bootRomStart_spent.bit ROOK_STATE_HALTED = false) ∧ (0 = w_bootRomStart_spent.get BOOT_STATUS_SLOT) ∧ (w_bootRomStart_spent.flash.desc.st 0 = 1) ∧ (((({ wRun [(RST_CAUSE_CAUSE, 10), (ROOK_STATE_HALTED, 0)] with flash := { desc1 := some { seq := 9, st0 := 1, tries0 := 2 } } } : State).restoreCounters) : State).get RST_CAUSE_CAUSE = 10)) ∧ (match exec (.bootRomStart) w_bootRomStart_spent with
    | .next t => decide ((t.flash.desc = { w_bootRomStart_spent.flash.desc.slot 0 1 (w_bootRomStart_spent.flash.desc.tries 0 - 1) (w_bootRomStart_spent.flash.desc.img 0) with seq := w_bootRomStart_spent.flash.desc.seq + 1 }) ∧ (Asserted 7 t) ∧ (t = State.relayGate (State.assertSource (((({ wRun [(RST_CAUSE_CAUSE, 10), (ROOK_STATE_HALTED, 0)] with flash := { desc1 := some { seq := 9, st0 := 1, tries0 := 2 } } } : State).restoreCounters) : State).writeDesc (fun d => d.slot 0 1 (d.tries 0 - 1) (d.img 0))) 7 0)))
    | _ => false) = true := by decide +kernel

def w_bootRomStart_again : State := { wRun [(ROOK_STATE_HALTED, 0)] with flash := { desc1 := some { seq := 9, st0 := 1, tries0 := 2 } } }

theorem test_bootRomStart_again : ((w_bootRomStart_again.stopSafe = true) ∧ (w_bootRomStart_again.boot.core0Rom = true) ∧ (w_bootRomStart_again.domOff 4 = false) ∧ (w_bootRomStart_again.bit BOOT_STATUS_RECOVERY = false) ∧ (((({ wRun [(ROOK_STATE_HALTED, 0)] with flash := { desc1 := some { seq := 9, st0 := 1, tries0 := 2 } } } : State).restoreCounters) : State) = w_bootRomStart_again.restoreCounters) ∧ (w_bootRomStart_again.bit TRIM_STATUS_SAFE = false) ∧ (w_bootRomStart_again.bit ROOK_STATE_HALTED = false) ∧ (0 = w_bootRomStart_again.get BOOT_STATUS_SLOT) ∧ (w_bootRomStart_again.flash.desc.st 0 ≠ 1 ∨ ((({ wRun [(ROOK_STATE_HALTED, 0)] with flash := { desc1 := some { seq := 9, st0 := 1, tries0 := 2 } } } : State).restoreCounters) : State).get RST_CAUSE_CAUSE ≠ 10)) ∧ (match exec (.bootRomStart) w_bootRomStart_again with
    | .next t => decide ((t = (if (((({ wRun [(ROOK_STATE_HALTED, 0)] with flash := { desc1 := some { seq := 9, st0 := 1, tries0 := 2 } } } : State).restoreCounters) : State).bootSlot false 0).2 = true then (((({ wRun [(ROOK_STATE_HALTED, 0)] with flash := { desc1 := some { seq := 9, st0 := 1, tries0 := 2 } } } : State).restoreCounters) : State).bootSlot false 0).1 else State.bootSelect ((((({ wRun [(ROOK_STATE_HALTED, 0)] with flash := { desc1 := some { seq := 9, st0 := 1, tries0 := 2 } } } : State).restoreCounters) : State).bootSlot false 0).1.writeSt 0 3))))
    | _ => false) = true := by decide +kernel

theorem test_bootRomStart_none : ((wRecov.stopSafe = true) ∧ (wRecov.boot.core0Rom = false ∨ wRecov.domOff 4 = true ∨ wRecov.bit BOOT_STATUS_RECOVERY = true)) ∧ (match exec (.bootRomStart) wRecov with
    | .next t => decide ((t = wRecov))
    | _ => false) = true := by decide +kernel

def w_mainFirmwareStart : State := { wRun [(MAC_CTRL_NET_EN, 1)] with boot := { core0Rom := false, header := some (wHdr 5) }, rst := { State.reset.rst with held := [], asserted := [], halted := [0, 9] } }

theorem test_mainFirmwareStart : (w_mainFirmwareStart.stopSafe = true) ∧ (w_mainFirmwareStart.boot.core0Rom = false) ∧ (w_mainFirmwareStart.boot.started = false) ∧ (w_mainFirmwareStart.domOff 4 = false) ∧ (w_mainFirmwareStart.settingsPick = none) ∧ (((State.record { ({ wRun [(MAC_CTRL_NET_EN, 1)] with boot := { core0Rom := false, header := some (wHdr 5) }, rst := { State.reset.rst with held := [], asserted := [], halted := [0, 9] } } : State).put MAC_CTRL_NET_EN 0 with boot := { ({ wRun [(MAC_CTRL_NET_EN, 1)] with boot := { core0Rom := false, header := some (wHdr 5) }, rst := { State.reset.rst with held := [], asserted := [], halted := [0, 9] } } : State).boot with settings := none, settingsRole := none } } .settingsNone) : State) = State.record { w_mainFirmwareStart.put MAC_CTRL_NET_EN 0 with boot := { w_mainFirmwareStart.boot with settings := none, settingsRole := none } } .settingsNone) ∧ (({ (State.record { ({ wRun [(MAC_CTRL_NET_EN, 1)] with boot := { core0Rom := false, header := some (wHdr 5) }, rst := { State.reset.rst with held := [], asserted := [], halted := [0, 9] } } : State).put MAC_CTRL_NET_EN 0 with boot := { ({ wRun [(MAC_CTRL_NET_EN, 1)] with boot := { core0Rom := false, header := some (wHdr 5) }, rst := { State.reset.rst with held := [], asserted := [], halted := [0, 9] } } : State).boot with settings := none, settingsRole := none } } .settingsNone) with boot := { (State.record { ({ wRun [(MAC_CTRL_NET_EN, 1)] with boot := { core0Rom := false, header := some (wHdr 5) }, rst := { State.reset.rst with held := [], asserted := [], halted := [0, 9] } } : State).put MAC_CTRL_NET_EN 0 with boot := { ({ wRun [(MAC_CTRL_NET_EN, 1)] with boot := { core0Rom := false, header := some (wHdr 5) }, rst := { State.reset.rst with held := [], asserted := [], halted := [0, 9] } } : State).boot with settings := none, settingsRole := none } } .settingsNone).boot with started := true }, rst := { (State.record { ({ wRun [(MAC_CTRL_NET_EN, 1)] with boot := { core0Rom := false, header := some (wHdr 5) }, rst := { State.reset.rst with held := [], asserted := [], halted := [0, 9] } } : State).put MAC_CTRL_NET_EN 0 with boot := { ({ wRun [(MAC_CTRL_NET_EN, 1)] with boot := { core0Rom := false, header := some (wHdr 5) }, rst := { State.reset.rst with held := [], asserted := [], halted := [0, 9] } } : State).boot with settings := none, settingsRole := none } } .settingsNone).rst with halted := (State.record { ({ wRun [(MAC_CTRL_NET_EN, 1)] with boot := { core0Rom := false, header := some (wHdr 5) }, rst := { State.reset.rst with held := [], asserted := [], halted := [0, 9] } } : State).put MAC_CTRL_NET_EN 0 with boot := { ({ wRun [(MAC_CTRL_NET_EN, 1)] with boot := { core0Rom := false, header := some (wHdr 5) }, rst := { State.reset.rst with held := [], asserted := [], halted := [0, 9] } } : State).boot with settings := none, settingsRole := none } } .settingsNone).rst.halted.filter (fun x => ({ wRun [(MAC_CTRL_NET_EN, 1)] with boot := { core0Rom := false, header := some (wHdr 5) }, rst := { State.reset.rst with held := [], asserted := [], halted := [0, 9] } } : State).domOff 5 && decide (8 ≤ x)) } } : State) = { ((State.record { ({ wRun [(MAC_CTRL_NET_EN, 1)] with boot := { core0Rom := false, header := some (wHdr 5) }, rst := { State.reset.rst with held := [], asserted := [], halted := [0, 9] } } : State).put MAC_CTRL_NET_EN 0 with boot := { ({ wRun [(MAC_CTRL_NET_EN, 1)] with boot := { core0Rom := false, header := some (wHdr 5) }, rst := { State.reset.rst with held := [], asserted := [], halted := [0, 9] } } : State).boot with settings := none, settingsRole := none } } .settingsNone) : State) with boot := { ((State.record { ({ wRun [(MAC_CTRL_NET_EN, 1)] with boot := { core0Rom := false, header := some (wHdr 5) }, rst := { State.reset.rst with held := [], asserted := [], halted := [0, 9] } } : State).put MAC_CTRL_NET_EN 0 with boot := { ({ wRun [(MAC_CTRL_NET_EN, 1)] with boot := { core0Rom := false, header := some (wHdr 5) }, rst := { State.reset.rst with held := [], asserted := [], halted := [0, 9] } } : State).boot with settings := none, settingsRole := none } } .settingsNone) : State).boot with started := true }, rst := { ((State.record { ({ wRun [(MAC_CTRL_NET_EN, 1)] with boot := { core0Rom := false, header := some (wHdr 5) }, rst := { State.reset.rst with held := [], asserted := [], halted := [0, 9] } } : State).put MAC_CTRL_NET_EN 0 with boot := { ({ wRun [(MAC_CTRL_NET_EN, 1)] with boot := { core0Rom := false, header := some (wHdr 5) }, rst := { State.reset.rst with held := [], asserted := [], halted := [0, 9] } } : State).boot with settings := none, settingsRole := none } } .settingsNone) : State).rst with halted := ((State.record { ({ wRun [(MAC_CTRL_NET_EN, 1)] with boot := { core0Rom := false, header := some (wHdr 5) }, rst := { State.reset.rst with held := [], asserted := [], halted := [0, 9] } } : State).put MAC_CTRL_NET_EN 0 with boot := { ({ wRun [(MAC_CTRL_NET_EN, 1)] with boot := { core0Rom := false, header := some (wHdr 5) }, rst := { State.reset.rst with held := [], asserted := [], halted := [0, 9] } } : State).boot with settings := none, settingsRole := none } } .settingsNone) : State).rst.halted.filter (fun x => w_mainFirmwareStart.domOff 5 && decide (8 ≤ x)) } }) := by decide +kernel

def w_mainFirmwareStart_settings : State := { wRun [] with boot := { core0Rom := false }, flash := { set1 := some { format := 0, state := 2, gen := 4, writer := [], body := [] } } }

theorem test_mainFirmwareStart_settings : (w_mainFirmwareStart_settings.stopSafe = true) ∧ (w_mainFirmwareStart_settings.boot.core0Rom = false) ∧ (w_mainFirmwareStart_settings.boot.started = false) ∧ (w_mainFirmwareStart_settings.domOff 4 = false) ∧ (w_mainFirmwareStart_settings.settingsPick = some (1, ({ format := 0, state := 2, gen := 4, writer := [], body := [] } : SetCopy))) := by decide +kernel

theorem test_mainFirmwareStart_none : ((wReset.stopSafe = true) ∧ (wReset.boot.core0Rom = true ∨ wReset.boot.started = true ∨ wReset.domOff 4 = true)) ∧ (match exec (.mainFirmwareStart 0 0 ([] : List SkySig)) wReset with
    | .next t => decide ((t = wReset))
    | _ => false) = true := by decide +kernel

def w_componentLoad : State := wFirm 5 []

theorem test_componentLoad : ((w_componentLoad.stopSafe = true) ∧ (3 ≤ 5) ∧ (w_componentLoad.boot.started = true) ∧ (w_componentLoad.loadDue 5 = true) ∧ (w_componentLoad.boot.header = some (wHdr 5 : List Nat)) ∧ (((wFirm 5 []).slotBytes ((wFirm 5 []).get BOOT_STATUS_SLOT) : List Nat) = w_componentLoad.slotBytes (w_componentLoad.get BOOT_STATUS_SLOT)) ∧ (typeOk ((wFirm 5 []).slotBytes ((wFirm 5 []).get BOOT_STATUS_SLOT) : List Nat) (wHdr 5 : List Nat) 5 = true)) ∧ (match exec (.componentLoad 5) w_componentLoad with
    | .next t => decide ((t.boot = { w_componentLoad.boot with loaded := 5 :: w_componentLoad.boot.loaded.filter (· ≠ 5) }))
    | _ => false) = true := by decide +kernel

def w_componentLoad_rook : State := wFirm 1 [(ROOK_STATE_HALTED, 1)]

theorem test_componentLoad_rook : ((w_componentLoad_rook.stopSafe = true) ∧ (1 = 1) ∧ (w_componentLoad_rook.boot.started = true) ∧ (w_componentLoad_rook.loadDue 1 = true) ∧ (w_componentLoad_rook.boot.header = some (wHdr 1 : List Nat)) ∧ (((wFirm 1 []).slotBytes ((wFirm 1 []).get BOOT_STATUS_SLOT) : List Nat) = w_componentLoad_rook.slotBytes (w_componentLoad_rook.get BOOT_STATUS_SLOT)) ∧ (typeOk ((wFirm 1 []).slotBytes ((wFirm 1 []).get BOOT_STATUS_SLOT) : List Nat) (wHdr 1 : List Nat) 1 = true)) ∧ (match exec (.componentLoad 1) w_componentLoad_rook with
    | .next t => decide ((Reads t [(ROOK_STATE_HALTED, 0), (ROOK_STATE_STOP, w_componentLoad_rook.get ROOK_STATE_STOP)]) ∧ (t.rook.wdogOn = true) ∧ (t = w_componentLoad_rook.rookStart))
    | _ => false) = true := by decide +kernel

def w_componentLoad_mp : State := { wFirm 2 [] with mp := { (wFirm 2 []).mp with running := false } }

theorem test_componentLoad_mp : ((w_componentLoad_mp.stopSafe = true) ∧ (2 = 2) ∧ (w_componentLoad_mp.boot.started = true) ∧ (w_componentLoad_mp.loadDue 2 = true) ∧ (w_componentLoad_mp.boot.header = some (wHdr 2 : List Nat)) ∧ (((wFirm 2 []).slotBytes ((wFirm 2 []).get BOOT_STATUS_SLOT) : List Nat) = w_componentLoad_mp.slotBytes (w_componentLoad_mp.get BOOT_STATUS_SLOT)) ∧ (typeOk ((wFirm 2 []).slotBytes ((wFirm 2 []).get BOOT_STATUS_SLOT) : List Nat) (wHdr 2 : List Nat) 2 = true) ∧ (compIdx (wHdr 2 : List Nat) 2 = some 0)) ∧ (match exec (.componentLoad 2) w_componentLoad_mp with
    | .next t => decide ((t.mp = { w_componentLoad_mp.mp with running := true, image := compBytes ((wFirm 2 []).slotBytes ((wFirm 2 []).get BOOT_STATUS_SLOT) : List Nat) (wHdr 2 : List Nat) 0 }) ∧ (Reads t [(MP_CRC_CRC, crc32c (compBytes ((wFirm 2 []).slotBytes ((wFirm 2 []).get BOOT_STATUS_SLOT) : List Nat) (wHdr 2 : List Nat) 0) % 2 ^ 32)]) ∧ ((List.range 4).all (fun w => t.get (MP_VERSION_TEXT w) == leAt (imgVersion (wHdr 2 : List Nat)) (4 * w) 4) = true))
    | _ => false) = true := by decide +kernel

def w_componentLoad_failed : State := wFirm 5 []

theorem test_componentLoad_failed : ((w_componentLoad_failed.stopSafe = true) ∧ (w_componentLoad_failed.boot.started = true) ∧ (w_componentLoad_failed.loadDue 6 = true) ∧ (w_componentLoad_failed.boot.header = some (wHdr 5 : List Nat)) ∧ (((wFirm 5 []).slotBytes ((wFirm 5 []).get BOOT_STATUS_SLOT) : List Nat) = w_componentLoad_failed.slotBytes (w_componentLoad_failed.get BOOT_STATUS_SLOT)) ∧ (typeOk ((wFirm 5 []).slotBytes ((wFirm 5 []).get BOOT_STATUS_SLOT) : List Nat) (wHdr 5 : List Nat) 6 = false)) ∧ (match exec (.componentLoad 6) w_componentLoad_failed with
    | .next t => decide ((Reads t [(BOOT_STATUS_LOAD_FAIL, 1)]))
    | _ => false) = true := by decide +kernel

def w_componentLoad_none : State := wFirm 5 []

theorem test_componentLoad_none : ((w_componentLoad_none.stopSafe = true) ∧ (w_componentLoad_none.boot.started = false ∨ w_componentLoad_none.loadDue 3 = false ∨ w_componentLoad_none.boot.header = none)) ∧ (match exec (.componentLoad 3) w_componentLoad_none with
    | .next t => decide ((t = w_componentLoad_none))
    | _ => false) = true := by decide +kernel

def w_unrecoverableFault : State := { wRun [(SEM_HELD 3, 1), (SEM_OWNER 3, 0x1F), (CRC_CTRL_OWNER 2, 0x1F), (SEM_HELD 4, 1), (SEM_OWNER 4, 0x10)] with rst := { (wRun []).rst with halted := [] } }

theorem test_unrecoverableFault : ((w_unrecoverableFault.stopSafe = true) ∧ (15 < 16) ∧ (w_unrecoverableFault.rst.halted.contains 15 = false) ∧ ((ownerReset 0x1F { wRun [(SEM_HELD 3, 1), (SEM_OWNER 3, 0x1F), (CRC_CTRL_OWNER 2, 0x1F), (SEM_HELD 4, 1), (SEM_OWNER 4, 0x10)] with rst := { (wRun []).rst with halted := [] } } : State) = ownerReset (0x10 + 15) w_unrecoverableFault)) ∧ (match exec (.unrecoverableFault 15) w_unrecoverableFault with
    | .next t => decide (((List.range 64).all (fun n => !(w_unrecoverableFault.bit (SEM_HELD n) && w_unrecoverableFault.get (SEM_OWNER n) == 0x10 + 15) || (t.get (SEM_HELD n) == 0 && t.get (SEM_OWNER_RESET n) == 1)) = true) ∧ ((List.range 12).all (fun k => w_unrecoverableFault.get (CRC_CTRL_OWNER k) != 0x10 + 15 || t.get (CRC_CTRL_OWNER k) == 0) = true) ∧ (t = { (ownerReset 0x1F { wRun [(SEM_HELD 3, 1), (SEM_OWNER 3, 0x1F), (CRC_CTRL_OWNER 2, 0x1F), (SEM_HELD 4, 1), (SEM_OWNER 4, 0x10)] with rst := { (wRun []).rst with halted := [] } } : State) with rst := { (ownerReset 0x1F { wRun [(SEM_HELD 3, 1), (SEM_OWNER 3, 0x1F), (CRC_CTRL_OWNER 2, 0x1F), (SEM_HELD 4, 1), (SEM_OWNER 4, 0x10)] with rst := { (wRun []).rst with halted := [] } } : State).rst with halted := (ownerReset 0x1F { wRun [(SEM_HELD 3, 1), (SEM_OWNER 3, 0x1F), (CRC_CTRL_OWNER 2, 0x1F), (SEM_HELD 4, 1), (SEM_OWNER 4, 0x10)] with rst := { (wRun []).rst with halted := [] } } : State).rst.halted ++ [15] } }))
    | _ => false) = true := by decide +kernel

def w_unrecoverableFault_mp : State := { wRun [(SEM_HELD 3, 1), (SEM_OWNER 3, 0x31)] with mp := { running := true } }

theorem test_unrecoverableFault_mp : ((w_unrecoverableFault_mp.stopSafe = true) ∧ (w_unrecoverableFault_mp.mp.running = true) ∧ ((ownerReset 0x31 { wRun [(SEM_HELD 3, 1), (SEM_OWNER 3, 0x31)] with mp := { running := true } } : State) = ownerReset 0x31 w_unrecoverableFault_mp)) ∧ (match exec (.unrecoverableFault 16) w_unrecoverableFault_mp with
    | .next t => decide (((List.range 64).all (fun n => !(w_unrecoverableFault_mp.bit (SEM_HELD n) && w_unrecoverableFault_mp.get (SEM_OWNER n) == 0x31) || (t.get (SEM_HELD n) == 0 && t.get (SEM_OWNER_RESET n) == 1)) = true) ∧ ((List.range 12).all (fun k => w_unrecoverableFault_mp.get (CRC_CTRL_OWNER k) != 0x31 || t.get (CRC_CTRL_OWNER k) == 0) = true) ∧ (t = { (ownerReset 0x31 { wRun [(SEM_HELD 3, 1), (SEM_OWNER 3, 0x31)] with mp := { running := true } } : State) with mp := { (ownerReset 0x31 { wRun [(SEM_HELD 3, 1), (SEM_OWNER 3, 0x31)] with mp := { running := true } } : State).mp with running := false } }))
    | _ => false) = true := by decide +kernel

theorem test_unrecoverableFault_none : ((wReset.stopSafe = true) ∧ ((17 < 16 ∧ wReset.rst.halted.contains 17 = true) ∨ (17 = 16 ∧ wReset.mp.running = false) ∨ 16 < 17)) ∧ (match exec (.unrecoverableFault 17) wReset with
    | .next t => decide ((t = wReset))
    | _ => false) = true := by decide +kernel

theorem test_recoveryHello : (wRecov.stopSafe = true) ∧ (wRecov.recTakes 1 (wPkt 1 0 [] : List Nat) = true) := by decide +kernel

def w_recoveryWrite : State := { wRecov with boot := { recNext := 2 } }

theorem test_recoveryWrite : ((w_recoveryWrite.stopSafe = true) ∧ (w_recoveryWrite.recTakes 2 (wPkt 2 2 [7, 8, 9] : List Nat) = true) ∧ (2 = leAt (wPkt 2 2 [7, 8, 9] : List Nat) 8 4) ∧ (3 = leAt (wPkt 2 2 [7, 8, 9] : List Nat) 12 2) ∧ (2 = w_recoveryWrite.boot.recNext ∨ 2 = 0) ∧ (2 + 3 ≤ 25165824)) ∧ (match exec (.recoveryWrite (wPkt 2 2 [7, 8, 9] : List Nat)) w_recoveryWrite with
    | .next t => decide ((t.slotBytes w_recoveryWrite.recTarget = (w_recoveryWrite.slotBytes w_recoveryWrite.recTarget).take 2 ++ byteRun (wPkt 2 2 [7, 8, 9] : List Nat) 16 3) ∧ (t.slotBytes (1 - w_recoveryWrite.recTarget) = w_recoveryWrite.slotBytes (1 - w_recoveryWrite.recTarget)) ∧ (t.boot = { w_recoveryWrite.boot with recNext := 2 + 3, recOk := false }) ∧ (t.flash = { w_recoveryWrite.flash with slot0 := t.flash.slot0, slot1 := t.flash.slot1 }) ∧ (t.out = w_recoveryWrite.out ++ [Output.recovery (recAnswer (wPkt 2 2 [7, 8, 9] : List Nat) (0) [])]))
    | _ => false) = true := by decide +kernel

def w_recoveryWrite_refused : State := { wRecov with boot := { recNext := 2 } }

theorem test_recoveryWrite_refused : (w_recoveryWrite_refused.stopSafe = true) ∧ (w_recoveryWrite_refused.recTakes 2 (wPkt 2 3 [7, 8, 9] : List Nat) = true) ∧ (3 = leAt (wPkt 2 3 [7, 8, 9] : List Nat) 8 4) ∧ (3 = leAt (wPkt 2 3 [7, 8, 9] : List Nat) 12 2) ∧ ((3 ≠ w_recoveryWrite_refused.boot.recNext ∧ 3 ≠ 0) ∨ 25165824 < 3 + 3) := by decide +kernel

theorem test_recoveryHello_none : ((wRecov.stopSafe = true) ∧ (wRecov.recTakes 1 (wPkt 2 0 [] : List Nat) = false)) ∧ (match exec (.recoveryHello (wPkt 2 0 [] : List Nat)) wRecov with
    | .next t => decide ((t = wRecov))
    | _ => false) = true := by decide +kernel

theorem test_recoveryWrite_none : ((wRecov.stopSafe = true) ∧ (wRecov.recTakes 2 (wPkt 3 0 [] : List Nat) = false)) ∧ (match exec (.recoveryWrite (wPkt 3 0 [] : List Nat)) wRecov with
    | .next t => decide ((t = wRecov))
    | _ => false) = true := by decide +kernel

theorem test_recoveryVerify_none : ((wRecov.stopSafe = true) ∧ (wRecov.recTakes 3 (wPkt 4 0 [] : List Nat) = false)) ∧ (match exec (.recoveryVerify (wPkt 4 0 [] : List Nat)) wRecov with
    | .next t => decide ((t = wRecov))
    | _ => false) = true := by decide +kernel

theorem test_recoveryCommit_none : ((wRecov.stopSafe = true) ∧ (wRecov.recTakes 4 (wPkt 5 0 [] : List Nat) = false)) ∧ (match exec (.recoveryCommit (wPkt 5 0 [] : List Nat)) wRecov with
    | .next t => decide ((t = wRecov))
    | _ => false) = true := by decide +kernel

theorem test_recoveryReset_none : ((wRecov.stopSafe = true) ∧ (wRecov.recTakes 5 (wPkt 6 0 [] : List Nat) = false)) ∧ (match exec (.recoveryReset (wPkt 6 0 [] : List Nat)) wRecov with
    | .next t => decide ((t = wRecov))
    | _ => false) = true := by decide +kernel

theorem test_recoveryVerify : (wRecov.stopSafe = true) ∧ (wRecov.recTakes 3 (wPkt 3 0 [] : List Nat) = true) := by decide +kernel

def w_recoveryCommit : State := { wRecov with boot := { recOk := true } }

theorem test_recoveryCommit : ((w_recoveryCommit.stopSafe = true) ∧ (w_recoveryCommit.recTakes 4 (wPkt 4 0 [] : List Nat) = true) ∧ (w_recoveryCommit.boot.recOk = true)) ∧ (match exec (.recoveryCommit (wPkt 4 0 [] : List Nat)) w_recoveryCommit with
    | .next t => decide ((t.flash.desc = { w_recoveryCommit.flash.desc.slot w_recoveryCommit.recTarget 1 3 (max w_recoveryCommit.flash.desc.img0 w_recoveryCommit.flash.desc.img1 + 1) with seq := w_recoveryCommit.flash.desc.seq + 1 }) ∧ (t.flash = (w_recoveryCommit.writeNew w_recoveryCommit.recTarget).flash) ∧ (t.out = w_recoveryCommit.out ++ [Output.recovery (recAnswer (wPkt 4 0 [] : List Nat) (0) [])]))
    | _ => false) = true := by decide +kernel

theorem test_recoveryCommit_unverified : (wRecov.stopSafe = true) ∧ (wRecov.recTakes 4 (wPkt 4 0 [] : List Nat) = true) ∧ (wRecov.boot.recOk = false) := by decide +kernel

theorem test_recoveryReset : ((wRecov.stopSafe = true) ∧ (wRecov.recTakes 5 (wPkt 5 0 [] : List Nat) = true)) ∧ (match exec (.recoveryReset (wPkt 5 0 [] : List Nat)) wRecov with
    | .next t => decide ((Asserted 12 t) ∧ (t.out = wRecov.out ++ [Output.recovery (recAnswer (wPkt 5 0 [] : List Nat) (0) [])]))
    | _ => false) = true := by decide +kernel

def w_updBegin : State := wFirm 5 []

theorem test_updBegin : ((w_updBegin.stopSafe = true) ∧ (w_updBegin.accepts 0x0D00 3 9 false = true) ∧ ((w_updBegin.session 3).map (fun (y : EcpSession) => y.auth) = some true) ∧ (1 ≤ 25165824 ∧ 25165824 ≤ 25165824) ∧ ((w_updBegin.boot.upd.all (fun (u : Transfer) => u.sess == 3)) = true)) ∧ (match exec (.updBegin 3 9 (([0, 0, 0, 0] ++ leBytes 4 25165824))) w_updBegin with
    | .next t => decide ((answers w_updBegin t [] 0x0D00 3 9 Ecp.OK (crc32c ([0, 0, 0, 0] ++ leBytes 4 25165824)) [w_updBegin.updSlot, 0, 0, 0] = true) ∧ (t.boot = { w_updBegin.boot with upd := some { sess := 3, settings := false, slot := w_updBegin.updSlot, len := 25165824 } }) ∧ (t.flash.desc = { w_updBegin.flash.desc.slot w_updBegin.updSlot 0 0 (w_updBegin.flash.desc.img w_updBegin.updSlot) with seq := w_updBegin.flash.desc.seq + 1 }) ∧ (t.slotBytes w_updBegin.updSlot = []) ∧ (t.slotBytes (1 - w_updBegin.updSlot) = w_updBegin.slotBytes (1 - w_updBegin.updSlot)) ∧ (t.flash = { w_updBegin.flash with desc0 := t.flash.desc0, desc1 := t.flash.desc1, slot0 := t.flash.slot0, slot1 := t.flash.slot1 }))
    | _ => false) = true := by decide +kernel

def w_updBegin_settings : State := wFirm 5 []

theorem test_updBegin_settings : ((w_updBegin_settings.stopSafe = true) ∧ (w_updBegin_settings.accepts 0x0D00 3 9 false = true) ∧ ((w_updBegin_settings.session 3).map (fun (y : EcpSession) => y.auth) = some true) ∧ (1 ≤ 1 ∧ 1 ≤ 1048576) ∧ ((w_updBegin_settings.boot.upd.all (fun (u : Transfer) => u.sess == 3)) = true)) ∧ (match exec (.updBegin 3 9 (([1, 0, 0, 0] ++ leBytes 4 1))) w_updBegin_settings with
    | .next t => decide ((answers w_updBegin_settings t [] 0x0D00 3 9 Ecp.OK (crc32c ([1, 0, 0, 0] ++ leBytes 4 1)) [w_updBegin_settings.updCopy, 0, 0, 0] = true) ∧ (t.boot = { w_updBegin_settings.boot with upd := some { sess := 3, settings := true, slot := w_updBegin_settings.updCopy, len := 1 } }))
    | _ => false) = true := by decide +kernel

def w_updBegin_bad : State := wFirm 5 []

theorem test_updBegin_bad : ((w_updBegin_bad.stopSafe = true) ∧ (w_updBegin_bad.accepts 0x0D00 3 9 false = true) ∧ ((w_updBegin_bad.session 3).map (fun (y : EcpSession) => y.auth) = some true) ∧ (1 < 256) ∧ (1048577 < 2 ^ 32) ∧ (2 ≤ 1 ∨ 1048577 = 0 ∨ (if 1 = 0 then 25165824 else 1048576) < 1048577)) ∧ (match exec (.updBegin 3 9 (([1, 0, 0, 0] ++ leBytes 4 1048577))) w_updBegin_bad with
    | .next t => decide ((answers w_updBegin_bad t [] 0x0D00 3 9 Ecp.BAD_PARAM (crc32c ([1, 0, 0, 0] ++ leBytes 4 1048577)) [] = true))
    | _ => false) = true := by decide +kernel

def w_updBegin_zeros : State := wFirm 5 []

theorem test_updBegin_zeros : ((w_updBegin_zeros.stopSafe = true) ∧ (w_updBegin_zeros.accepts 0x0D00 3 9 false = true) ∧ ((w_updBegin_zeros.session 3).map (fun (y : EcpSession) => y.auth) = some true) ∧ (0 + 256 ≠ 0) ∧ (0 < 256) ∧ (256 < 65536)) ∧ (match exec (.updBegin 3 9 (([1, 0] ++ leBytes 2 256 ++ leBytes 4 1))) w_updBegin_zeros with
    | .next t => decide ((answers w_updBegin_zeros t [] 0x0D00 3 9 Ecp.BAD_PARAM (crc32c ([1, 0] ++ leBytes 2 256 ++ leBytes 4 1)) [] = true))
    | _ => false) = true := by decide +kernel

def w_updBegin_open : State := { wFirm 5 [] with boot := { (wFirm 5 []).boot with upd := some { sess := 4, settings := true, slot := 0, len := 3 } } }

theorem test_updBegin_open : ((w_updBegin_open.stopSafe = true) ∧ (w_updBegin_open.accepts 0x0D00 3 9 false = true) ∧ ((w_updBegin_open.session 3).map (fun (y : EcpSession) => y.auth) = some true) ∧ (1 < 2) ∧ (1 ≤ 1 ∧ 1 ≤ (if 1 = 0 then 25165824 else 1048576)) ∧ (w_updBegin_open.boot.upd.any (fun (u : Transfer) => u.sess != 3) = true)) ∧ (match exec (.updBegin 3 9 (([1, 0, 0, 0] ++ leBytes 4 1))) w_updBegin_open with
    | .next t => decide ((answers w_updBegin_open t [] 0x0D00 3 9 Ecp.DENIED (crc32c ([1, 0, 0, 0] ++ leBytes 4 1)) [] = true))
    | _ => false) = true := by decide +kernel

def w_updData : State := { wFirm 5 [] with boot := { (wFirm 5 []).boot with upd := some { sess := 3, settings := false, slot := 0, len := 5, data := [1, 2] } } }

theorem test_updData : ((w_updData.stopSafe = true) ∧ (w_updData.accepts 0x0D01 3 9 false = true) ∧ ((w_updData.session 3).map (fun (y : EcpSession) => y.auth) = some true) ∧ (w_updData.updOf 3 = some ({ sess := 3, settings := false, slot := 0, len := 5, data := [1, 2] } : Transfer)) ∧ (({ sess := 3, settings := false, slot := 0, len := 5, data := [1, 2] } : Transfer).settings = false) ∧ (1 ≤ ([3, 4, 5] : List Nat).length ∧ ([3, 4, 5] : List Nat).length ≤ 1400) ∧ (({ sess := 3, settings := false, slot := 0, len := 5, data := [1, 2] } : Transfer).data.length + ([3, 4, 5] : List Nat).length ≤ ({ sess := 3, settings := false, slot := 0, len := 5, data := [1, 2] } : Transfer).len) ∧ (({ sess := 3, settings := false, slot := 0, len := 5, data := [1, 2] } : Transfer).len < 2 ^ 32)) ∧ (match exec (.updData 3 9 ((leBytes 4 ({ sess := 3, settings := false, slot := 0, len := 5, data := [1, 2] } : Transfer).data.length ++ leBytes 2 ([3, 4, 5] : List Nat).length ++ [0, 0] ++ ([3, 4, 5] : List Nat)))) w_updData with
    | .next t => decide ((answers w_updData t [] 0x0D01 3 9 Ecp.OK (crc32c (leBytes 4 ({ sess := 3, settings := false, slot := 0, len := 5, data := [1, 2] } : Transfer).data.length ++ leBytes 2 ([3, 4, 5] : List Nat).length ++ [0, 0] ++ ([3, 4, 5] : List Nat))) [] = true) ∧ (t.boot = { w_updData.boot with upd := some { ({ sess := 3, settings := false, slot := 0, len := 5, data := [1, 2] } : Transfer) with data := ({ sess := 3, settings := false, slot := 0, len := 5, data := [1, 2] } : Transfer).data ++ ([3, 4, 5] : List Nat) } }) ∧ (t.flash = (if ({ sess := 3, settings := false, slot := 0, len := 5, data := [1, 2] } : Transfer).slot = 0 then { w_updData.flash with slot0 := ({ sess := 3, settings := false, slot := 0, len := 5, data := [1, 2] } : Transfer).data ++ ([3, 4, 5] : List Nat) } else { w_updData.flash with slot1 := ({ sess := 3, settings := false, slot := 0, len := 5, data := [1, 2] } : Transfer).data ++ ([3, 4, 5] : List Nat) })))
    | _ => false) = true := by decide +kernel

def w_updData_settings : State := { wFirm 5 [] with boot := { (wFirm 5 []).boot with upd := some { sess := 3, settings := true, slot := 0, len := 5, data := [1, 2] } } }

theorem test_updData_settings : ((w_updData_settings.stopSafe = true) ∧ (w_updData_settings.accepts 0x0D01 3 9 false = true) ∧ ((w_updData_settings.session 3).map (fun (y : EcpSession) => y.auth) = some true) ∧ (w_updData_settings.updOf 3 = some ({ sess := 3, settings := true, slot := 0, len := 5, data := [1, 2] } : Transfer)) ∧ (({ sess := 3, settings := true, slot := 0, len := 5, data := [1, 2] } : Transfer).settings = true) ∧ (1 ≤ ([3, 4, 5] : List Nat).length ∧ ([3, 4, 5] : List Nat).length ≤ 1400) ∧ (({ sess := 3, settings := true, slot := 0, len := 5, data := [1, 2] } : Transfer).data.length + ([3, 4, 5] : List Nat).length ≤ ({ sess := 3, settings := true, slot := 0, len := 5, data := [1, 2] } : Transfer).len) ∧ (({ sess := 3, settings := true, slot := 0, len := 5, data := [1, 2] } : Transfer).len < 2 ^ 32)) ∧ (match exec (.updData 3 9 ((leBytes 4 ({ sess := 3, settings := true, slot := 0, len := 5, data := [1, 2] } : Transfer).data.length ++ leBytes 2 ([3, 4, 5] : List Nat).length ++ [0, 0] ++ ([3, 4, 5] : List Nat)))) w_updData_settings with
    | .next t => decide ((answers w_updData_settings t [] 0x0D01 3 9 Ecp.OK (crc32c (leBytes 4 ({ sess := 3, settings := true, slot := 0, len := 5, data := [1, 2] } : Transfer).data.length ++ leBytes 2 ([3, 4, 5] : List Nat).length ++ [0, 0] ++ ([3, 4, 5] : List Nat))) [] = true) ∧ (t.boot = { w_updData_settings.boot with upd := some { ({ sess := 3, settings := true, slot := 0, len := 5, data := [1, 2] } : Transfer) with data := ({ sess := 3, settings := true, slot := 0, len := 5, data := [1, 2] } : Transfer).data ++ ([3, 4, 5] : List Nat) } }))
    | _ => false) = true := by decide +kernel

def w_updData_gap : State := { wFirm 5 [] with boot := { (wFirm 5 []).boot with upd := some { sess := 3, settings := false, slot := 0, len := 5, data := [1, 2] } } }

theorem test_updData_gap : ((w_updData_gap.stopSafe = true) ∧ (w_updData_gap.accepts 0x0D01 3 9 false = true) ∧ ((w_updData_gap.session 3).map (fun (y : EcpSession) => y.auth) = some true) ∧ (w_updData_gap.updOf 3 = some ({ sess := 3, settings := false, slot := 0, len := 5, data := [1, 2] } : Transfer)) ∧ (([3, 4, 5] : List Nat).length < 65536) ∧ (3 < 2 ^ 32) ∧ (([3, 4, 5] : List Nat).length = 0 ∨ 1400 < ([3, 4, 5] : List Nat).length ∨ 3 ≠ ({ sess := 3, settings := false, slot := 0, len := 5, data := [1, 2] } : Transfer).data.length ∨ ({ sess := 3, settings := false, slot := 0, len := 5, data := [1, 2] } : Transfer).len < 3 + ([3, 4, 5] : List Nat).length)) ∧ (match exec (.updData 3 9 ((leBytes 4 3 ++ leBytes 2 ([3, 4, 5] : List Nat).length ++ [0, 0] ++ ([3, 4, 5] : List Nat)))) w_updData_gap with
    | .next t => decide ((answers w_updData_gap t [] 0x0D01 3 9 Ecp.BAD_PARAM (crc32c (leBytes 4 3 ++ leBytes 2 ([3, 4, 5] : List Nat).length ++ [0, 0] ++ ([3, 4, 5] : List Nat))) [] = true))
    | _ => false) = true := by decide +kernel

def w_updData_zeros : State := { wFirm 5 [] with boot := { (wFirm 5 []).boot with upd := some { sess := 3, settings := false, slot := 0, len := 5, data := [1, 2] } } }

theorem test_updData_zeros : ((w_updData_zeros.stopSafe = true) ∧ (w_updData_zeros.accepts 0x0D01 3 9 false = true) ∧ ((w_updData_zeros.session 3).map (fun (y : EcpSession) => y.auth) = some true) ∧ (([3, 4, 5] : List Nat).length < 65536) ∧ (1 ≠ 0) ∧ (1 < 65536)) ∧ (match exec (.updData 3 9 ((leBytes 4 3 ++ leBytes 2 ([3, 4, 5] : List Nat).length ++ leBytes 2 1 ++ ([3, 4, 5] : List Nat)))) w_updData_zeros with
    | .next t => decide ((answers w_updData_zeros t [] 0x0D01 3 9 Ecp.BAD_PARAM (crc32c (leBytes 4 3 ++ leBytes 2 ([3, 4, 5] : List Nat).length ++ leBytes 2 1 ++ ([3, 4, 5] : List Nat))) [] = true))
    | _ => false) = true := by decide +kernel

def w_updData_denied : State := wFirm 5 []

theorem test_updData_denied : ((w_updData_denied.stopSafe = true) ∧ (w_updData_denied.accepts 0x0D01 3 9 false = true) ∧ ((w_updData_denied.session 3).map (fun (y : EcpSession) => y.auth) = some true) ∧ (w_updData_denied.updOf 3 = none) ∧ (([3, 4, 5] : List Nat).length < 65536)) ∧ (match exec (.updData 3 9 ((leBytes 4 0 ++ leBytes 2 ([3, 4, 5] : List Nat).length ++ [0, 0] ++ ([3, 4, 5] : List Nat)))) w_updData_denied with
    | .next t => decide ((answers w_updData_denied t [] 0x0D01 3 9 Ecp.DENIED (crc32c (leBytes 4 0 ++ leBytes 2 ([3, 4, 5] : List Nat).length ++ [0, 0] ++ ([3, 4, 5] : List Nat))) [] = true))
    | _ => false) = true := by decide +kernel

def w_updEnd : State := { wFirm 5 [] with boot := { (wFirm 5 []).boot with upd := some { sess := 3, settings := false, slot := 0, len := 2, data := [1, 2] } } }

theorem test_updEnd : (w_updEnd.stopSafe = true) ∧ (w_updEnd.accepts 0x0D02 3 9 false = true) ∧ ((w_updEnd.session 3).map (fun (y : EcpSession) => y.auth) = some true) ∧ (w_updEnd.session 3 = some ({ id := 3, port := 1, ip := 0x0A000001, udp := 5000, devSeq := 7, auth := true, key := [1, 2], keySlot := 7 } : EcpSession)) ∧ (({ id := 3, port := 1, ip := 0x0A000001, udp := 5000, devSeq := 7, auth := true, key := [1, 2], keySlot := 7 } : EcpSession).devSeq + 1 < 0xFFFFFFFF) ∧ (3 ≠ 8 ∨ w_updEnd.ecp.spiOut.length < 15) ∧ (w_updEnd.updOf 3 = some ({ sess := 3, settings := false, slot := 0, len := 2, data := [1, 2] } : Transfer)) ∧ ((crc32c [1, 2]) < 2 ^ 32) ∧ (({ sess := 3, settings := false, slot := 0, len := 2, data := [1, 2] } : Transfer).settings = false) ∧ (({ sess := 3, settings := false, slot := 0, len := 2, data := [1, 2] } : Transfer).data.length = ({ sess := 3, settings := false, slot := 0, len := 2, data := [1, 2] } : Transfer).len) ∧ (crc32c ({ sess := 3, settings := false, slot := 0, len := 2, data := [1, 2] } : Transfer).data = (crc32c [1, 2])) := by decide +kernel

def w_updEnd_bad : State := { wFirm 5 [] with boot := { (wFirm 5 []).boot with upd := some { sess := 3, settings := false, slot := 0, len := 2, data := [1, 2] } } }

theorem test_updEnd_bad : (w_updEnd_bad.stopSafe = true) ∧ (w_updEnd_bad.accepts 0x0D02 3 9 false = true) ∧ ((w_updEnd_bad.session 3).map (fun (y : EcpSession) => y.auth) = some true) ∧ (w_updEnd_bad.session 3 = some ({ id := 3, port := 1, ip := 0x0A000001, udp := 5000, devSeq := 7, auth := true, key := [1, 2], keySlot := 7 } : EcpSession)) ∧ (({ id := 3, port := 1, ip := 0x0A000001, udp := 5000, devSeq := 7, auth := true, key := [1, 2], keySlot := 7 } : EcpSession).devSeq + 1 < 0xFFFFFFFF) ∧ (3 ≠ 8 ∨ w_updEnd_bad.ecp.spiOut.length < 15) ∧ (w_updEnd_bad.updOf 3 = some ({ sess := 3, settings := false, slot := 0, len := 2, data := [1, 2] } : Transfer)) ∧ (7 < 2 ^ 32) ∧ (({ sess := 3, settings := false, slot := 0, len := 2, data := [1, 2] } : Transfer).data.length ≠ ({ sess := 3, settings := false, slot := 0, len := 2, data := [1, 2] } : Transfer).len ∨ crc32c ({ sess := 3, settings := false, slot := 0, len := 2, data := [1, 2] } : Transfer).data ≠ 7) := by decide +kernel

def w_updEnd_settings : State := { wFirm 5 [] with boot := { (wFirm 5 []).boot with upd := some { sess := 3, settings := true, slot := 0, len := 2, data := [1, 2] } } }

theorem test_updEnd_settings : (w_updEnd_settings.stopSafe = true) ∧ (w_updEnd_settings.accepts 0x0D02 3 9 false = true) ∧ ((w_updEnd_settings.session 3).map (fun (y : EcpSession) => y.auth) = some true) ∧ (w_updEnd_settings.session 3 = some ({ id := 3, port := 1, ip := 0x0A000001, udp := 5000, devSeq := 7, auth := true, key := [1, 2], keySlot := 7 } : EcpSession)) ∧ (({ id := 3, port := 1, ip := 0x0A000001, udp := 5000, devSeq := 7, auth := true, key := [1, 2], keySlot := 7 } : EcpSession).devSeq + 1 < 0xFFFFFFFF) ∧ (3 ≠ 8 ∨ w_updEnd_settings.ecp.spiOut.length < 15) ∧ (w_updEnd_settings.updOf 3 = some ({ sess := 3, settings := true, slot := 0, len := 2, data := [1, 2] } : Transfer)) ∧ ((crc32c [1, 2]) < 2 ^ 32) ∧ (({ sess := 3, settings := true, slot := 0, len := 2, data := [1, 2] } : Transfer).settings = true) ∧ (({ sess := 3, settings := true, slot := 0, len := 2, data := [1, 2] } : Transfer).data.length = ({ sess := 3, settings := true, slot := 0, len := 2, data := [1, 2] } : Transfer).len) ∧ (crc32c ({ sess := 3, settings := true, slot := 0, len := 2, data := [1, 2] } : Transfer).data = (crc32c [1, 2])) := by decide +kernel

def w_updEnd_denied : State := wFirm 5 []

theorem test_updEnd_denied : ((w_updEnd_denied.stopSafe = true) ∧ (w_updEnd_denied.accepts 0x0D02 3 9 false = true) ∧ ((w_updEnd_denied.session 3).map (fun (y : EcpSession) => y.auth) = some true) ∧ (w_updEnd_denied.updOf 3 = none)) ∧ (match exec (.updEnd 3 9 (leBytes 4 7)) w_updEnd_denied with
    | .next t => decide ((answers w_updEnd_denied t [] 0x0D02 3 9 Ecp.DENIED (crc32c (leBytes 4 7)) [] = true))
    | _ => false) = true := by decide +kernel

def w_updActivate : State := wFirm 5 []

theorem test_updActivate : ((w_updActivate.stopSafe = true) ∧ (w_updActivate.accepts 0x0D03 3 9 false = true) ∧ ((w_updActivate.session 3).map (fun (y : EcpSession) => y.auth) = some true) ∧ (w_updActivate.flash.desc.st0 = 1 ∨ w_updActivate.flash.desc.st1 = 1) ∧ (w_updActivate.bit PAIR_STATUS_HANDOVER_PEND = false)) ∧ (match exec (.updActivate 3 9) w_updActivate with
    | .next t => decide ((answers w_updActivate t [] 0x0D03 3 9 Ecp.OK (crc32c []) [] = true) ∧ (t.boot = { w_updActivate.boot with coldAt := some (w_updActivate.ply + 100) }))
    | _ => false) = true := by decide +kernel

def w_updActivate_denied : State := wFirm 5 [(PAIR_STATUS_HANDOVER_PEND, 1)]

theorem test_updActivate_denied : ((w_updActivate_denied.stopSafe = true) ∧ (w_updActivate_denied.accepts 0x0D03 3 9 false = true) ∧ ((w_updActivate_denied.session 3).map (fun (y : EcpSession) => y.auth) = some true) ∧ ((w_updActivate_denied.flash.desc.st0 ≠ 1 ∧ w_updActivate_denied.flash.desc.st1 ≠ 1) ∨ w_updActivate_denied.bit PAIR_STATUS_HANDOVER_PEND = true)) ∧ (match exec (.updActivate 3 9) w_updActivate_denied with
    | .next t => decide ((answers w_updActivate_denied t [] 0x0D03 3 9 Ecp.DENIED (crc32c []) [] = true))
    | _ => false) = true := by decide +kernel

def w_updConfirm : State := wFirm 5 [(BOOT_STATUS_MIN_SVN, 3)]

theorem test_updConfirm : ((w_updConfirm.stopSafe = true) ∧ (w_updConfirm.accepts 0x0D04 3 9 false = true) ∧ ((w_updConfirm.session 3).map (fun (y : EcpSession) => y.auth) = some true) ∧ (1 = w_updConfirm.get BOOT_STATUS_SLOT) ∧ (w_updConfirm.flash.desc.st 1 = 1) ∧ (3 = max (w_updConfirm.get BOOT_STATUS_MIN_SVN) (min ((w_updConfirm.boot.header.map imgSvn).getD 0) 32))) ∧ (match exec (.updConfirm 3 9) w_updConfirm with
    | .next t => decide ((answers w_updConfirm t [] 0x0D04 3 9 Ecp.OK (crc32c []) [3, 0, 0, 0] = true) ∧ (Reads t [(BOOT_STATUS_TRIAL, 0), (BOOT_STATUS_MIN_SVN, 3)]) ∧ (t.flash.desc = { w_updConfirm.flash.desc.slot 1 2 (w_updConfirm.flash.desc.tries 1) (w_updConfirm.flash.desc.img 1) with seq := w_updConfirm.flash.desc.seq + 1 }) ∧ (t.setCopy 0 = (w_updConfirm.setCopy 0).map (fun (c : SetCopy) => if c.state = 1 ∧ c.writer = w_updConfirm.ownVersion then { c with state := 2 } else c)) ∧ (t.setCopy 1 = (w_updConfirm.setCopy 1).map (fun (c : SetCopy) => if c.state = 1 ∧ c.writer = w_updConfirm.ownVersion then { c with state := 2 } else c)) ∧ (t.flash = { w_updConfirm.flash with desc0 := t.flash.desc0, desc1 := t.flash.desc1, set0 := t.flash.set0, set1 := t.flash.set1 }))
    | _ => false) = true := by decide +kernel

def w_updConfirm_denied : State := wFirm 5 [(BOOT_STATUS_SLOT, 0)]

theorem test_updConfirm_denied : ((w_updConfirm_denied.stopSafe = true) ∧ (w_updConfirm_denied.accepts 0x0D04 3 9 false = true) ∧ ((w_updConfirm_denied.session 3).map (fun (y : EcpSession) => y.auth) = some true) ∧ (w_updConfirm_denied.flash.desc.st (w_updConfirm_denied.get BOOT_STATUS_SLOT) ≠ 1)) ∧ (match exec (.updConfirm 3 9) w_updConfirm_denied with
    | .next t => decide ((answers w_updConfirm_denied t [] 0x0D04 3 9 Ecp.DENIED (crc32c []) [] = true))
    | _ => false) = true := by decide +kernel

def w_updStatus : State := wFirm 5 []

theorem test_updStatus : ((w_updStatus.stopSafe = true) ∧ (w_updStatus.accepts 0x0D05 3 9 false = true) ∧ ((w_updStatus.session 3).map (fun (y : EcpSession) => y.auth) = some true)) ∧ (match exec (.updStatus 3 9) w_updStatus with
    | .next t => decide ((answers w_updStatus t [] 0x0D05 3 9 Ecp.OK (crc32c []) (w_updStatus.flash.desc.bytes ++ leBytes 4 w_updStatus.bootWord) = true))
    | _ => false) = true := by decide +kernel

theorem test_updBegin_auth : ((wSess.stopSafe = true) ∧ (wSess.accepts 0x0D00 3 9 false = true) ∧ ((wSess.session 3).map (fun (y : EcpSession) => y.auth) = some false)) ∧ (match exec (.updBegin 3 9 (([1, 0] ++ leBytes 2 0 ++ leBytes 4 1))) wSess with
    | .next t => decide ((answers wSess t [] 0x0D00 3 9 Ecp.AUTH_FAIL (crc32c ([1, 0] ++ leBytes 2 0 ++ leBytes 4 1)) [] = true))
    | _ => false) = true := by decide +kernel

theorem test_updData_auth : ((wSess.stopSafe = true) ∧ (wSess.accepts 0x0D01 3 9 false = true) ∧ ((wSess.session 3).map (fun (y : EcpSession) => y.auth) = some false) ∧ (([1] : List Nat).length < 65536)) ∧ (match exec (.updData 3 9 ((leBytes 4 0 ++ leBytes 2 ([1] : List Nat).length ++ leBytes 2 0 ++ ([1] : List Nat)))) wSess with
    | .next t => decide ((answers wSess t [] 0x0D01 3 9 Ecp.AUTH_FAIL (crc32c (leBytes 4 0 ++ leBytes 2 ([1] : List Nat).length ++ leBytes 2 0 ++ ([1] : List Nat))) [] = true))
    | _ => false) = true := by decide +kernel

theorem test_updEnd_auth : ((wSess.stopSafe = true) ∧ (wSess.accepts 0x0D02 3 9 false = true) ∧ ((wSess.session 3).map (fun (y : EcpSession) => y.auth) = some false)) ∧ (match exec (.updEnd 3 9 (leBytes 4 0)) wSess with
    | .next t => decide ((answers wSess t [] 0x0D02 3 9 Ecp.AUTH_FAIL (crc32c (leBytes 4 0)) [] = true))
    | _ => false) = true := by decide +kernel

theorem test_updActivate_auth : ((wSess.stopSafe = true) ∧ (wSess.accepts 0x0D03 3 9 false = true) ∧ ((wSess.session 3).map (fun (y : EcpSession) => y.auth) = some false)) ∧ (match exec (.updActivate 3 9) wSess with
    | .next t => decide ((answers wSess t [] 0x0D03 3 9 Ecp.AUTH_FAIL (crc32c []) [] = true))
    | _ => false) = true := by decide +kernel

theorem test_updConfirm_auth : ((wSess.stopSafe = true) ∧ (wSess.accepts 0x0D04 3 9 false = true) ∧ ((wSess.session 3).map (fun (y : EcpSession) => y.auth) = some false)) ∧ (match exec (.updConfirm 3 9) wSess with
    | .next t => decide ((answers wSess t [] 0x0D04 3 9 Ecp.AUTH_FAIL (crc32c []) [] = true))
    | _ => false) = true := by decide +kernel

theorem test_updStatus_auth : ((wSess.stopSafe = true) ∧ (wSess.accepts 0x0D05 3 9 false = true) ∧ ((wSess.session 3).map (fun (y : EcpSession) => y.auth) = some false)) ∧ (match exec (.updStatus 3 9) wSess with
    | .next t => decide ((answers wSess t [] 0x0D05 3 9 Ecp.AUTH_FAIL (crc32c []) [] = true))
    | _ => false) = true := by decide +kernel

def w_monInfo : State := { wFirm 5 ([(MON_STATUS_DBG_LOCK, 1)] ++ []) with boot := { (wFirm 5 []).boot with nonce := some [9], fails := 2 } }

theorem test_monInfo : (w_monInfo.stopSafe = true) ∧ (w_monInfo.monServes = true) := by decide +kernel

def w_monInfo_none : State := { wFirm 5 [(MON_STATUS_DBG_LOCK, 1), (MON_STATUS_HELD, 0)] with boot := { (wFirm 5 []).boot with fails := 2 } }

theorem test_monInfo_none : ((w_monInfo_none.stopSafe = true) ∧ (w_monInfo_none.monServes = false)) ∧ (match exec (.monInfo) w_monInfo_none with
    | .next t => decide ((t = w_monInfo_none))
    | _ => false) = true := by decide +kernel

def w_monOpen : State := { wFirm 5 ([(MON_STATUS_DBG_LOCK, 1)] ++ []) with boot := { (wFirm 5 []).boot with nonce := some [9], fails := 2 } }

theorem test_monOpen : (w_monOpen.stopSafe = true) ∧ (w_monOpen.monServes = true) ∧ (w_monOpen.bit MON_STATUS_LOCKOUT = false) ∧ (w_monOpen.bit KS_STATUS_TRNG_FAIL = false) := by decide +kernel

def w_monOpen_refused : State := { wFirm 5 ([(MON_STATUS_DBG_LOCK, 1)] ++ [(MON_STATUS_LOCKOUT, 1)]) with boot := { (wFirm 5 []).boot with nonce := some [9], fails := 2 } }

theorem test_monOpen_refused : ((w_monOpen_refused.stopSafe = true) ∧ (w_monOpen_refused.monServes = true) ∧ (w_monOpen_refused.bit MON_STATUS_LOCKOUT = true ∨ w_monOpen_refused.bit KS_STATUS_TRNG_FAIL = true)) ∧ (match exec (.monOpen) w_monOpen_refused with
    | .next t => decide ((t.boot = { w_monOpen_refused.boot with lastLine := w_monOpen_refused.ply }))
    | _ => false) = true := by decide +kernel

def w_monOpen_none : State := { wFirm 5 [(MON_STATUS_DBG_LOCK, 1), (MON_STATUS_HELD, 0)] with boot := { (wFirm 5 []).boot with fails := 2 } }

theorem test_monOpen_none : ((w_monOpen_none.stopSafe = true) ∧ (w_monOpen_none.monServes = false)) ∧ (match exec (.monOpen) w_monOpen_none with
    | .next t => decide ((t = w_monOpen_none))
    | _ => false) = true := by decide +kernel

def w_monResp : State := { wFirm 5 ([(MON_STATUS_DBG_LOCK, 1)] ++ []) with boot := { (wFirm 5 []).boot with nonce := some [9], fails := 2 } }

theorem test_monResp : (w_monResp.stopSafe = true) ∧ (w_monResp.monServes = true) ∧ (w_monResp.bit MON_STATUS_LOCKOUT = false) ∧ (w_monResp.boot.nonce = some ([9] : List Nat)) := by decide +kernel

def w_monResp_bad : State := { wFirm 5 ([(MON_STATUS_DBG_LOCK, 1)] ++ []) with boot := { (wFirm 5 []).boot with nonce := some [9], fails := 2 } }

theorem test_monResp_bad : ((w_monResp_bad.stopSafe = true) ∧ (w_monResp_bad.monServes = true) ∧ (w_monResp_bad.bit MON_STATUS_LOCKOUT = false) ∧ (w_monResp_bad.boot.nonce = none ∨ 481 = 0 ∨ 480 < 481)) ∧ (match exec (.monResp ([] : List Nat) ([] : List Nat) 481) w_monResp_bad with
    | .next t => decide ((t.boot = { w_monResp_bad.boot with lastLine := w_monResp_bad.ply, nonce := none, fails := w_monResp_bad.boot.fails + 1 }) ∧ (Reads t [(MON_STATUS_OPEN, w_monResp_bad.get MON_STATUS_OPEN), (MON_STATUS_LOCKOUT, if 3 ≤ w_monResp_bad.boot.fails + 1 then 1 else w_monResp_bad.get MON_STATUS_LOCKOUT)]))
    | _ => false) = true := by decide +kernel

def w_monResp_lockedOut : State := { wFirm 5 ([(MON_STATUS_DBG_LOCK, 1)] ++ [(MON_STATUS_LOCKOUT, 1)]) with boot := { (wFirm 5 []).boot with nonce := some [9], fails := 2 } }

theorem test_monResp_lockedOut : ((w_monResp_lockedOut.stopSafe = true) ∧ (w_monResp_lockedOut.monServes = true) ∧ (w_monResp_lockedOut.bit MON_STATUS_LOCKOUT = true)) ∧ (match exec (.monResp ([] : List Nat) ([] : List Nat) 5) w_monResp_lockedOut with
    | .next t => decide ((t.boot = { w_monResp_lockedOut.boot with lastLine := w_monResp_lockedOut.ply }))
    | _ => false) = true := by decide +kernel

def w_monResp_none : State := { wFirm 5 [(MON_STATUS_DBG_LOCK, 1), (MON_STATUS_HELD, 0)] with boot := { (wFirm 5 []).boot with fails := 2 } }

theorem test_monResp_none : ((w_monResp_none.stopSafe = true) ∧ (w_monResp_none.monServes = false)) ∧ (match exec (.monResp ([] : List Nat) ([] : List Nat) 5) w_monResp_none with
    | .next t => decide ((t = w_monResp_none))
    | _ => false) = true := by decide +kernel

def w_monRecover : State := { wFirm 5 ([(MON_STATUS_DBG_LOCK, 1)] ++ [(ROOK_STATE_HALTED, 0)]) with boot := { (wFirm 5 []).boot with nonce := some [9], fails := 2 } }

theorem test_monRecover : ((w_monRecover.stopSafe = true) ∧ (w_monRecover.monServes = true) ∧ (w_monRecover.boot.core0Rom = false) ∧ (7 = (if w_monRecover.rookHeld ∨ w_monRecover.bit ROOK_STATE_HALTED then 12 else 7))) ∧ (match exec (.monRecover) w_monRecover with
    | .next t => decide ((Asserted 7 t) ∧ (t.flash.desc = { w_monRecover.flash.desc with req := 1, seq := w_monRecover.flash.desc.seq + 1 }))
    | _ => false) = true := by decide +kernel

def w_monRecover_rom : State := wRun [(TRIM_STATUS_SAFE, 1)]

theorem test_monRecover_rom : ((w_monRecover_rom.stopSafe = true) ∧ (w_monRecover_rom.monServes = true) ∧ (w_monRecover_rom.boot.core0Rom = true)) ∧ (match exec (.monRecover) w_monRecover_rom with
    | .next t => decide ((t.boot = { w_monRecover_rom.boot with lastLine := w_monRecover_rom.ply }))
    | _ => false) = true := by decide +kernel

def w_monRecover_none : State := { wFirm 5 [(MON_STATUS_DBG_LOCK, 1), (MON_STATUS_HELD, 0)] with boot := { (wFirm 5 []).boot with fails := 2 } }

theorem test_monRecover_none : ((w_monRecover_none.stopSafe = true) ∧ (w_monRecover_none.monServes = false)) ∧ (match exec (.monRecover) w_monRecover_none with
    | .next t => decide ((t = w_monRecover_none))
    | _ => false) = true := by decide +kernel

def w_monClose : State := { wFirm 5 ([(MON_STATUS_DBG_LOCK, 1)] ++ [(MON_STATUS_OPEN, 1)]) with boot := { (wFirm 5 []).boot with nonce := some [9], fails := 2 } }

theorem test_monClose : ((w_monClose.stopSafe = true) ∧ (w_monClose.monServes = true)) ∧ (match exec (.monClose) w_monClose with
    | .next t => decide ((Reads t [(MON_STATUS_OPEN, 0), (MON_STATUS_HELD, 0), (UART_STATUS_OWNED 0, if (w_monClose.put MON_STATUS_HELD 0).monHolds = true then w_monClose.get (UART_STATUS_OWNED 0) else 0)]) ∧ (t.boot = { w_monClose.boot with lastLine := w_monClose.ply }))
    | _ => false) = true := by decide +kernel

def w_monClose_none : State := { wFirm 5 [(MON_STATUS_DBG_LOCK, 1), (MON_STATUS_HELD, 0)] with boot := { (wFirm 5 []).boot with fails := 2 } }

theorem test_monClose_none : ((w_monClose_none.stopSafe = true) ∧ (w_monClose_none.monServes = false)) ∧ (match exec (.monClose) w_monClose_none with
    | .next t => decide ((t = w_monClose_none))
    | _ => false) = true := by decide +kernel

def w_monRd : State := { wFirm 5 ([(MON_STATUS_DBG_LOCK, 1)] ++ [(MON_STATUS_OPEN, 1)]) with boot := { (wFirm 5 []).boot with nonce := some [9], fails := 2 } }

theorem test_monRd : ((w_monRd.stopSafe = true) ∧ (w_monRd.monServes = true) ∧ (w_monRd.monOpen = true)) ∧ (match exec (.monRd 0x40000808 0) w_monRd with
    | .next t => decide ((t = { (w_monRd.monLine.regRead 0x3E 0x40000808 0).1 with out := (w_monRd.monLine.regRead 0x3E 0x40000808 0).1.out ++ [Output.mon 6 [(w_monRd.monLine.regRead 0x3E 0x40000808 0).2.1]] }))
    | _ => false) = true := by decide +kernel

def w_monRd_none : State := { wFirm 5 ([(MON_STATUS_DBG_LOCK, 1)] ++ []) with boot := { (wFirm 5 []).boot with nonce := some [9], fails := 2 } }

theorem test_monRd_none : ((w_monRd_none.stopSafe = true) ∧ (w_monRd_none.monServes = false ∨ w_monRd_none.monOpen = false)) ∧ (match exec (.monRd 0x40000808 0) w_monRd_none with
    | .next t => decide ((t = w_monRd_none))
    | _ => false) = true := by decide +kernel

def w_monWr : State := { wFirm 5 ([(MON_STATUS_DBG_LOCK, 1)] ++ [(MON_STATUS_OPEN, 1)]) with boot := { (wFirm 5 []).boot with nonce := some [9], fails := 2 } }

theorem test_monWr : (w_monWr.stopSafe = true) ∧ (w_monWr.monServes = true) ∧ (w_monWr.monOpen = true) := by decide +kernel

def w_monWr_none : State := { wFirm 5 ([(MON_STATUS_DBG_LOCK, 1)] ++ []) with boot := { (wFirm 5 []).boot with nonce := some [9], fails := 2 } }

theorem test_monWr_none : ((w_monWr_none.stopSafe = true) ∧ (w_monWr_none.monServes = false ∨ w_monWr_none.monOpen = false)) ∧ (match exec (.monWr 0x40000808 7) w_monWr_none with
    | .next t => decide ((t = w_monWr_none))
    | _ => false) = true := by decide +kernel

def w_monLog : State := { { wFirm 5 ([(MON_STATUS_DBG_LOCK, 1)] ++ [(MON_STATUS_OPEN, 1)]) with boot := { (wFirm 5 []).boot with nonce := some [9], fails := 2 } } with evr := { State.reset.evr with main := [(0, { seq := 4 }), (1, { seq := 3 })] } }

theorem test_monLog : ((w_monLog.stopSafe = true) ∧ (w_monLog.monServes = true) ∧ (w_monLog.monOpen = true)) ∧ (match exec (.monLog 3 9) w_monLog with
    | .next t => decide ((t.boot = { w_monLog.boot with lastLine := w_monLog.ply }) ∧ (t.out = w_monLog.out ++ [Output.mon 8 (((w_monLog.heldRecs 3).take 9).flatMap Rec.bytes)]))
    | _ => false) = true := by decide +kernel

def w_monLog_none : State := { wFirm 5 ([(MON_STATUS_DBG_LOCK, 1)] ++ []) with boot := { (wFirm 5 []).boot with nonce := some [9], fails := 2 } }

theorem test_monLog_none : ((w_monLog_none.stopSafe = true) ∧ (w_monLog_none.monServes = false ∨ w_monLog_none.monOpen = false)) ∧ (match exec (.monLog 3 9) w_monLog_none with
    | .next t => decide ((t = w_monLog_none))
    | _ => false) = true := by decide +kernel

def w_monKeyimport : State := { wFirm 5 ([(MON_STATUS_DBG_LOCK, 1)] ++ [(MON_STATUS_OPEN, 1)]) with boot := { (wFirm 5 []).boot with nonce := some [9], fails := 2 } }

theorem test_monKeyimport : (w_monKeyimport.stopSafe = true) ∧ (w_monKeyimport.monServes = true) ∧ (w_monKeyimport.monOpen = true) := by decide +kernel

def w_monKeyimport_none : State := { wFirm 5 ([(MON_STATUS_DBG_LOCK, 1)] ++ []) with boot := { (wFirm 5 []).boot with nonce := some [9], fails := 2 } }

theorem test_monKeyimport_none : ((w_monKeyimport_none.stopSafe = true) ∧ (w_monKeyimport_none.monServes = false ∨ w_monKeyimport_none.monOpen = false)) ∧ (match exec (.monKeyimport 3 1 4 (List.replicate 16 1 : List Nat)) w_monKeyimport_none with
    | .next t => decide ((t = w_monKeyimport_none))
    | _ => false) = true := by decide +kernel

def w_monTamperclr : State := { wFirm 5 ([(MON_STATUS_DBG_LOCK, 1)] ++ [(MON_STATUS_OPEN, 1), (TAMPER_STATUS_TAMPERED, 1), (TAMPER_STATUS_VBAT_LO, 1)]) with boot := { (wFirm 5 []).boot with nonce := some [9], fails := 2 } }

theorem test_monTamperclr : ((w_monTamperclr.stopSafe = true) ∧ (w_monTamperclr.monServes = true) ∧ (w_monTamperclr.monOpen = true) ∧ (w_monTamperclr.boot.core0Rom = false) ∧ (w_monTamperclr.boot.started = true) ∧ (w_monTamperclr.judge 0x10 tamperCtrlAddr true = .ok) ∧ ((List.range 8).any (fun c => bitOf 0 c && w_monTamperclr.causeEn c) = false)) ∧ (match exec (.monTamperclr 0) w_monTamperclr with
    | .next t => decide ((Reads t [(TAMPER_STATUS_TAMPERED, 0), (TAMPER_STATUS_IN, 0), (TAMPER_STATUS_VBAT_LO, 0), (TAMPER_STATUS_VBAT_HI, 0), (TAMPER_STATUS_TEMP_LO, 0), (TAMPER_STATUS_TEMP_HI, 0), (TAMPER_STATUS_LIVE, 0 % 16)]) ∧ (t.boot = { w_monTamperclr.boot with lastLine := w_monTamperclr.ply }))
    | _ => false) = true := by decide +kernel

def w_monTamperclr_write : State := { wFirm 5 ([(MON_STATUS_DBG_LOCK, 1)] ++ [(MON_STATUS_OPEN, 1), (TAMPER_STATUS_TAMPERED, 1), (TAMPER_STATUS_VBAT_LO, 1)]) with boot := { (wFirm 5 []).boot with nonce := some [9], fails := 2 } }

theorem test_monTamperclr_write : ((w_monTamperclr_write.stopSafe = true) ∧ (w_monTamperclr_write.monServes = true) ∧ (w_monTamperclr_write.monOpen = true) ∧ (w_monTamperclr_write.boot.core0Rom = false) ∧ (w_monTamperclr_write.boot.started = true)) ∧ (match exec (.monTamperclr 1) w_monTamperclr_write with
    | .next t => decide ((t = (w_monTamperclr_write.monLine.regWrite 0x10 tamperCtrlAddr 0x54430001 0xFFFFFFFF 1 false).1))
    | _ => false) = true := by decide +kernel

def w_monTamperclr_rom : State := wRun [(MON_STATUS_DBG_LOCK, 0), (TRIM_STATUS_SAFE, 1)]

theorem test_monTamperclr_rom : ((w_monTamperclr_rom.stopSafe = true) ∧ (w_monTamperclr_rom.monServes = true) ∧ (w_monTamperclr_rom.monOpen = true) ∧ (w_monTamperclr_rom.boot.core0Rom = true ∨ w_monTamperclr_rom.boot.started = false)) ∧ (match exec (.monTamperclr 1) w_monTamperclr_rom with
    | .next t => decide ((t.boot = { w_monTamperclr_rom.boot with lastLine := w_monTamperclr_rom.ply }))
    | _ => false) = true := by decide +kernel

def w_monTamperclr_none : State := { wFirm 5 ([(MON_STATUS_DBG_LOCK, 1)] ++ []) with boot := { (wFirm 5 []).boot with nonce := some [9], fails := 2 } }

theorem test_monTamperclr_none : ((w_monTamperclr_none.stopSafe = true) ∧ (w_monTamperclr_none.monServes = false ∨ w_monTamperclr_none.monOpen = false)) ∧ (match exec (.monTamperclr 0) w_monTamperclr_none with
    | .next t => decide ((t = w_monTamperclr_none))
    | _ => false) = true := by decide +kernel

def w_monReset : State := { wFirm 5 ([(MON_STATUS_DBG_LOCK, 1)] ++ [(MON_STATUS_OPEN, 1)]) with boot := { (wFirm 5 []).boot with nonce := some [9], fails := 2 } }

theorem test_monReset : ((w_monReset.stopSafe = true) ∧ (w_monReset.monServes = true) ∧ (w_monReset.monOpen = true)) ∧ (match exec (.monReset) w_monReset with
    | .next t => decide ((Asserted 12 t))
    | _ => false) = true := by decide +kernel

def w_monReset_none : State := { wFirm 5 ([(MON_STATUS_DBG_LOCK, 1)] ++ []) with boot := { (wFirm 5 []).boot with nonce := some [9], fails := 2 } }

theorem test_monReset_none : ((w_monReset_none.stopSafe = true) ∧ (w_monReset_none.monServes = false ∨ w_monReset_none.monOpen = false)) ∧ (match exec (.monReset) w_monReset_none with
    | .next t => decide ((t = w_monReset_none))
    | _ => false) = true := by decide +kernel

def w_monOpenExpiry : State := { wFirm 5 ([(MON_STATUS_DBG_LOCK, 1)] ++ [(MON_STATUS_OPEN, 1)]) with boot := { (wFirm 5 []).boot with nonce := some [9], fails := 2 } }

theorem test_monOpenExpiry : ((w_monOpenExpiry.stopSafe = true) ∧ (w_monOpenExpiry.bit MON_STATUS_OPEN = true) ∧ (w_monOpenExpiry.boot.openEnd ≤ w_monOpenExpiry.ply)) ∧ (match exec (.monOpenExpiry) w_monOpenExpiry with
    | .next t => decide ((Reads t [(MON_STATUS_OPEN, 0)]))
    | _ => false) = true := by decide +kernel

def w_monOpenExpiry_none : State := { wFirm 5 ([(MON_STATUS_DBG_LOCK, 1)] ++ [(MON_STATUS_OPEN, 1)]) with boot := { (wFirm 5 []).boot with nonce := some [9], fails := 2, openEnd := 7000001 } }

theorem test_monOpenExpiry_none : ((w_monOpenExpiry_none.stopSafe = true) ∧ (w_monOpenExpiry_none.bit MON_STATUS_OPEN = false ∨ w_monOpenExpiry_none.ply < w_monOpenExpiry_none.boot.openEnd)) ∧ (match exec (.monOpenExpiry) w_monOpenExpiry_none with
    | .next t => decide ((t = w_monOpenExpiry_none))
    | _ => false) = true := by decide +kernel

def w_monIdleRelease : State := { wFirm 5 ([(MON_STATUS_DBG_LOCK, 1)] ++ []) with boot := { (wFirm 5 []).boot with nonce := some [9], fails := 2, lastLine := 1000000 } }

theorem test_monIdleRelease : ((w_monIdleRelease.stopSafe = true) ∧ (w_monIdleRelease.bit MON_STATUS_DBG_LOCK = true) ∧ (w_monIdleRelease.bit MON_STATUS_OPEN = false) ∧ (w_monIdleRelease.bit MON_STATUS_HELD = true) ∧ (w_monIdleRelease.boot.lastLine + 6000000 ≤ w_monIdleRelease.ply)) ∧ (match exec (.monIdleRelease) w_monIdleRelease with
    | .next t => decide ((Reads t [(MON_STATUS_HELD, 0), (UART_STATUS_OWNED 0, if (w_monIdleRelease.put MON_STATUS_HELD 0).monHolds = true then w_monIdleRelease.get (UART_STATUS_OWNED 0) else 0)]))
    | _ => false) = true := by decide +kernel

def w_monIdleRelease_none : State := { wFirm 5 ([(MON_STATUS_DBG_LOCK, 1)] ++ []) with boot := { (wFirm 5 []).boot with nonce := some [9], fails := 2, lastLine := 1000001 } }

theorem test_monIdleRelease_none : ((w_monIdleRelease_none.stopSafe = true) ∧ (w_monIdleRelease_none.bit MON_STATUS_DBG_LOCK = false ∨ w_monIdleRelease_none.bit MON_STATUS_OPEN = true ∨ w_monIdleRelease_none.bit MON_STATUS_HELD = false ∨ w_monIdleRelease_none.ply < w_monIdleRelease_none.boot.lastLine + 6000000)) ∧ (match exec (.monIdleRelease) w_monIdleRelease_none with
    | .next t => decide ((t = w_monIdleRelease_none))
    | _ => false) = true := by decide +kernel

def w_monBreakTake : State := { wFirm 5 ([(MON_STATUS_DBG_LOCK, 1)] ++ [(MON_STATUS_HELD, 0)]) with boot := { (wFirm 5 []).boot with nonce := some [9], fails := 2 } }

theorem test_monBreakTake : ((w_monBreakTake.stopSafe = true) ∧ (w_monBreakTake.domOff 3 = false) ∧ (w_monBreakTake.bit MON_STATUS_DBG_LOCK = true) ∧ (w_monBreakTake.monHolds = false) ∧ (100 ≤ 100) ∧ (w_monBreakTake.boot.started = true)) ∧ (match exec (.monBreakTake 100) w_monBreakTake with
    | .next t => decide ((Reads t [(MON_STATUS_HELD, 1), (UART_STATUS_OWNED 0, 1), (UART_STATUS_TX_USED 0, 0), (UART_STATUS_RX_USED 0, (w_monBreakTake.uart 0).rx.length % 2 ^ (UART_STATUS_RX_USED 0).w), (UART_CNT_RTCM_DROP 0, w_monBreakTake.adv (UART_CNT_RTCM_DROP 0) ((w_monBreakTake.uart 0).tx.filter (fun c => c.1)).length)]) ∧ (t.site = { w_monBreakTake.site with uarts := w_monBreakTake.site.uarts.filter (fun (e : Nat × UartState) => e.1 ≠ 0) ++ [(0, { w_monBreakTake.uart 0 with tx := [] })] }) ∧ (t.boot = { w_monBreakTake.boot with lastLine := w_monBreakTake.ply }))
    | _ => false) = true := by decide +kernel

def w_monBreakTake_none : State := { wFirm 5 ([(MON_STATUS_DBG_LOCK, 1)] ++ [(MON_STATUS_HELD, 0)]) with boot := { (wFirm 5 []).boot with nonce := some [9], fails := 2 } }

theorem test_monBreakTake_none : ((w_monBreakTake_none.stopSafe = true) ∧ (w_monBreakTake_none.domOff 3 = true ∨ w_monBreakTake_none.bit MON_STATUS_DBG_LOCK = false ∨ w_monBreakTake_none.monHolds = true ∨ 99 < 100 ∨ w_monBreakTake_none.boot.started = false)) ∧ (match exec (.monBreakTake 99) w_monBreakTake_none with
    | .next t => decide ((t = w_monBreakTake_none))
    | _ => false) = true := by decide +kernel

theorem test_streamClose_zeros : ((wSess.stopSafe = true) ∧ (wSess.accepts 0x0F11 3 9 false = true) ∧ (0 + 256 ≠ 0) ∧ (0 < 256) ∧ (256 < 65536)) ∧ (match exec (.streamClose 3 9 (([1, 0] ++ leBytes 2 256))) wSess with
    | .next t => decide ((answers wSess t [] 0x0F11 3 9 Ecp.BAD_PARAM (crc32c ([1, 0] ++ leBytes 2 256)) [] = true))
    | _ => false) = true := by decide +kernel

theorem test_solGet_zeros : ((wAct.stopSafe = true) ∧ (wAct.accepts 0x0400 3 9 true = true) ∧ (0 + 256 ≠ 0) ∧ (0 < 256) ∧ (256 < 65536)) ∧ (match exec (.solGet 3 9 (([1, 0] ++ leBytes 2 256))) wAct with
    | .next t => decide ((answers wAct t [] 0x0400 3 9 Ecp.BAD_PARAM (crc32c ([1, 0] ++ leBytes 2 256)) [] = true))
    | _ => false) = true := by decide +kernel

theorem test_filterReset_zeros : ((wAct.stopSafe = true) ∧ (wAct.accepts 0x0402 3 9 true = true) ∧ (0 + 256 ≠ 0) ∧ (0 < 256) ∧ (256 < 65536)) ∧ (match exec (.filterReset 3 9 (([1, 0] ++ leBytes 2 256))) wAct with
    | .next t => decide ((answers wAct t [] 0x0402 3 9 Ecp.BAD_PARAM (crc32c ([1, 0] ++ leBytes 2 256)) [] = true))
    | _ => false) = true := by decide +kernel

theorem test_halt_zeros : ((wAct.stopSafe = true) ∧ (wAct.accepts 0x0704 3 9 true = true) ∧ (0 + 256 ≠ 0) ∧ (0 < 256) ∧ (256 < 65536)) ∧ (match exec (.halt 3 9 (([1, 0] ++ leBytes 2 256))) wAct with
    | .next t => decide ((answers wAct t [] 0x0704 3 9 Ecp.BAD_PARAM (crc32c ([1, 0] ++ leBytes 2 256)) [] = true))
    | _ => false) = true := by decide +kernel

theorem test_chanRelease_zeros : ((wAct.stopSafe = true) ∧ (wAct.accepts 0x0705 3 9 true = true) ∧ (0 + 256 ≠ 0) ∧ (0 < 256) ∧ (256 < 65536)) ∧ (match exec (.chanRelease 3 9 (([1, 0] ++ leBytes 2 256))) wAct with
    | .next t => decide ((answers wAct t [] 0x0705 3 9 Ecp.BAD_PARAM (crc32c ([1, 0] ++ leBytes 2 256)) [] = true))
    | _ => false) = true := by decide +kernel

theorem test_gearEngage_zeros : ((wAct.stopSafe = true) ∧ (wAct.accepts 0x0706 3 9 true = true) ∧ (0 + 256 ≠ 0) ∧ (0 < 256) ∧ (256 < 65536)) ∧ (match exec (.gearEngage 3 9 (([1, 0] ++ leBytes 2 256))) wAct with
    | .next t => decide ((answers wAct t [] 0x0706 3 9 Ecp.BAD_PARAM (crc32c ([1, 0] ++ leBytes 2 256)) [] = true))
    | _ => false) = true := by decide +kernel

theorem test_gearDisengage_zeros : ((wAct.stopSafe = true) ∧ (wAct.accepts 0x0707 3 9 true = true) ∧ (0 + 256 ≠ 0) ∧ (0 < 256) ∧ (256 < 65536)) ∧ (match exec (.gearDisengage 3 9 (([1, 0] ++ leBytes 2 256))) wAct with
    | .next t => decide ((answers wAct t [] 0x0707 3 9 Ecp.BAD_PARAM (crc32c ([1, 0] ++ leBytes 2 256)) [] = true))
    | _ => false) = true := by decide +kernel

theorem test_prioSet_zeros : ((wAct.stopSafe = true) ∧ (wAct.accepts 0x0401 3 9 true = true) ∧ (0 < 1) ∧ (1 < 256) ∧ (([1, 2] : List Nat).length = 2 * 1) ∧ (1 < 256)) ∧ (match exec (.prioSet 3 9 (([1, 1] ++ ([1, 2] : List Nat)))) wAct with
    | .next t => decide ((answers wAct t [] 0x0401 3 9 Ecp.BAD_PARAM (crc32c ([1, 1] ++ ([1, 2] : List Nat))) [] = true))
    | _ => false) = true := by decide +kernel

theorem test_trackSeal_zeros : ((wAct.stopSafe = true) ∧ (wAct.accepts 0x0701 3 9 true = true) ∧ (0 < 256) ∧ (256 < 65536)) ∧ (match exec (.trackSeal 3 9 ((leBytes 2 1 ++ leBytes 2 256))) wAct with
    | .next t => decide ((answers wAct t [] 0x0701 3 9 Ecp.BAD_PARAM (crc32c (leBytes 2 1 ++ leBytes 2 256)) [] = true))
    | _ => false) = true := by decide +kernel

theorem test_trackFree_zeros : ((wAct.stopSafe = true) ∧ (wAct.accepts 0x0702 3 9 true = true) ∧ (0 < 256) ∧ (256 < 65536)) ∧ (match exec (.trackFree 3 9 ((leBytes 2 1 ++ leBytes 2 256))) wAct with
    | .next t => decide ((answers wAct t [] 0x0702 3 9 Ecp.BAD_PARAM (crc32c (leBytes 2 1 ++ leBytes 2 256)) [] = true))
    | _ => false) = true := by decide +kernel

theorem test_move_zeros : ((wAct.stopSafe = true) ∧ (wAct.accepts 0x0703 3 9 true = true) ∧ (0 + 1 ≠ 0) ∧ (0 < 256) ∧ (1 < 65536)) ∧ (match exec (.move 3 9 (([1, 0, 8, 0] ++ leBytes 2 3 ++ leBytes 2 1 ++ leBytes 4 5))) wAct with
    | .next t => decide ((answers wAct t [] 0x0703 3 9 Ecp.BAD_PARAM (crc32c ([1, 0, 8, 0] ++ leBytes 2 3 ++ leBytes 2 1 ++ leBytes 4 5)) [] = true))
    | _ => false) = true := by decide +kernel

theorem test_recRead_zeros : ((wSess.stopSafe = true) ∧ (wSess.accepts 0x0A00 3 9 false = true) ∧ (1 + 0 ≠ 0) ∧ (1 < 256) ∧ (0 < 65536)) ∧ (match exec (.recRead 3 9 ((leBytes 4 1 ++ [3, 1] ++ leBytes 2 0)) (none : Option (Bool × Nat × Nat))) wSess with
    | .next t => decide ((answers wSess t [] 0x0A00 3 9 Ecp.BAD_PARAM (crc32c (leBytes 4 1 ++ [3, 1] ++ leBytes 2 0)) [] = true))
    | _ => false) = true := by decide +kernel

/-! ## Well-formed commands -/

/-- A well-formed command of every kind. -/
theorem test_wfGood_0 : ([
    .aonPor 0 0,  .mainPor 0 0 0,  .brownout 0 0 0,  .testModeAssert 0,  .thermalTrip 0 0,  .resetPin 0,  .warmPin 0,
    .resetSourceDeassert 0 [] 0 0,  .resetRelease,  .trimLoadComplete [] 0,  .strapSample [],  .rstCtrlSys 0x01 0,
    .rstCtrlWarm 0x01 0,  .rstCtrlCold 0x01 0,  .jtagResetRequest 0,  .appWdogExpiry,  .mpWdogExpiry,  .mpSwReset,
    .syspllLock,  .syspllUnlock 0,  .netpllUnlock,  .netpllLockRetry false,  .pllHoldoverEntry 0,  .pllHoldoverExit 0 0,
    .refLost 0 0,  .refRestored,  .refFreqCheck 0 false,  .pdCtrlWrite 0x01 0,  .pdSwitchComplete,  .nightGo 0x01 0 [] 0,
    .mainEnDrop,  .nightMinHoldExpiry,  .wakePin 0,  .wakeTimerExpiry,  .railWakeTimeout,  .railWakeRetry,
    .plyResolution 0 0 0 0 [] [],  .plyLoRead 0x01,  .castOpen 0x01,  .castStage 0x01 0,  .castCommit 0x01 0 0,
    .castAbort 0x01 0,  .castlingLand,  .semTake 0x01 0,  .semRelease 0x01 0,  .registerWrite 0x01 0 0 0,
    .lockBitSet 0x01 0 0,  .ecpFrameReceive false 0 0 0 0 false [] 0 none false none,  .spiWriteFrame [],  .spiReadStatus] : List Instr).all (fun i => WellFormed i) = true := by decide +kernel

/-- A well-formed command of every kind. -/
theorem test_wfGood_1 : ([
    .spiReadFrame 0,  .nop 0 0 [],  .status 0 0,  .sessionOpen 0 0 [],  .sessionClose 0 0,  .sessionIdleTimeout 0,
    .ecpReset 0 0,  .hostSysAssert,  .night 0 0,  .resultGet 0 0,  .tagRetire 0 0 [],  .regRead 0 0 [] 0,  .regWrite 0 0 [] 0,
    .streamOpen 0 0 [],  .streamClose 0 0 [],  .requestFinalResponse 0 0 0 [],  .streamMessageLost 0 0,  .feLinkDown 0 false,
    .feLinkLocked 0 0,  .feStatusFrame 0 [],  .feCtlFrameApply 0 0,  .antWindowEnd 0 [],  .antBiasRetry 0,
    .calSecond 0 ⟨false, [], 0⟩ ⟨false, [], 0⟩,  .acqEntrySubmit 0x01 0,  .acqEntryCancel 0x01 0,  .acqEntryClear 0x01 0,
    .acqEntrySelect,  .acqDwellEnd [],  .acqLinkWaitExpiry,  .acqEngineDisable 0x01 0,
    .loopUpdate 0 false ⟨0, 0, 0, 0, 0, 0, 0, 0, 0, 0, 0, 0, 0, 0, 0, 0⟩ 0,  .chStart 0x01 0,  .chStop 0x01 0,
    .pullInPllOn 0,  .pullInTimeout 0,  .cn0LossTimeout 0,  .epochStrobe 0 [] [],  .obsFormDeadline [],
    .obsRecordPublish none,  .navUnitDecode 0 0 0 0 false false none none [],  .obsGet 0 0 [],  .navGet 0 0 [],
    .signalsSet 0 0 [],  .rtcmSet 0 0 [],  .refSelection 0 0 0,  .domainOffsetSample 0 0 0 false 0 0 0,
    .domainFaultRecovery 0,  .domainTracking 0,  .ptpForeignMaster 0] : List Instr).all (fun i => WellFormed i) = true := by decide +kernel

/-- A well-formed command of every kind. -/
theorem test_wfGood_2 : ([
    .stepAnnounce,  .stepLand,  .stepCtrlArm 0x01 0,  .stepCtrlAccept 0x01 0,  .timeGet 0 0,  .timeStep 0 0 [],
    .ptpSet 0 0 [],  .leapFlagSet,  .leapFlagClear,  .ppsOutEdge 0,  .ppsInEdge 0,  .ethFrameReceive 0 0 [],
    .ethFrameTransmit 0 0 none none [],  .txtsRead 0x01 0,  .applyRef 0x01 0,  .applyOrg 0x01 0,  .fixSolveStart,
    .fixSolveComplete 0,  .baseMissingDecision,  .ifbAgeExpiry,  .uplinkSlotEnd 1,  .solGet 0 0 [],  .prioSet 0 0 [],
    .filterReset 0 0 [],  .superframeBoundary,  .cutOffC1,  .cutOffC2,  .laneEnable 0x01 0 0,  .laneDisable 0x01 0 0,
    .laneLinkLocked 0,  .laneLinkLost 0 false,  .laneStatusFrame 0 [],  .laneCapsCheck 0,  .trxControlApply 0 0,
    .laneFrameDecision 0 0 0,  .budgetBucketRoll 0,  .accountEnable 0x01 0 0,  .accountDisable 0x01 0 0,
    .airFrameReceive 0 0 [] 0 0 0 0,  .hopCompute false,  .hopApply 0x01 0,  .uplinkReceive,  .assocReqReceive,
    .offerLapse 1,  .memberSilenceTimeout 1,  .slotOwnerWrite 0x01 0 0 0 0,  .flockWrite 0x01 0 0 0,  .netForm 0 0,
    .memberGet 0 0 [],  .memberRelease 0 0 []] : List Instr).all (fun i => WellFormed i) = true := by decide +kernel

/-- A well-formed command of every kind. -/
theorem test_wfGood_3 : ([
    .flockSet 0 0 [],  .slotSet 0 0 [],  .memberAssocAttempt 0 0 0 0 [] [] [] false,  .memberAssocResponse 0 0 0 0 [],
    .memberJoinTimeout 0 0,  .memberBellwetherReceive 0 0 0 0 [],  .memberGuardCap 0 0,  .memberBeaconTimeout 0 0,
    .memberDigestReceive 0 0 0 0 [],  .memberOrderEnd 0 0 2 0 0,  .memberWindowExhausted 0 0,
    .memberStopFrameReceive 0 0 0 0 0 [],  .memberSseqResync 0 0,  .memberHopTargetMissed 0 0,
    .memberUplinkSend 0 0 0 0 false [],  .memberClaimLapse 0 0 0,  .memberDockConfirm 0 false 0,  .dispSubmit 0x01,
    .dispSubmitStallExpiry 0x01,  .taskSubmit 0 0 [],  .dispCancel 0x01 0,  .taskCancel 0 0 [],  .taskGet 0 0 [],  .taskReady,
    .dispTake 0x01 0,  .dispDone 0x01 0 0,  .taskLapse 0,  .trackLoad 0 0 [],  .trackSeal 0 0 [],  .trackFree 0 0 [],
    .move 0 0 [],  .halt 0 0 [],  .chanRelease 0 0 [],  .gearEngage 0 0 [],  .gearDisengage 0 0 [],  .profileRestReached 1,
    .dockInputConfirm 0 false false false,  .estopLoopOpen 0,  .loopTestPulse 0 false,  .loopDiscrepancy 0,
    .relayFbMismatch 0,  .rookSramUe .rook 0,  .rookClockFault 0,  .lockstepMismatch,  .wdogSvcWrite 0x01 0,
    .rookWdogExpiry 0,  .stopPortStop 0x01 0,  .stopPortHold 0x01 0,  .stopPortResume 0x01 0,  .stopPortRelease 0x01 0] : List Instr).all (fun i => WellFormed i) = true := by decide +kernel

/-- A well-formed command of every kind. -/
theorem test_wfGood_4 : ([
    .stopPortFaultClear 0x01 0,  .releaseEvaluation,  .faultClearEvaluation,  .relayRaise,  .rookFaultWrite 0x01 0,
    .stop 0 0 [],  .stopRelease 0 0 [],  .hold 0 0 [],  .resume 0 0 [],  .stopStatus 0 0,  .faultClear 0 0,
    .pairEnable 0x01 0,  .heartbeatSend,  .heartbeatReceive [],  .heartbeatLost,  .safetyReceive [],  .safetyAckReceive [],
    .safetyRepeat 0,  .ckptDataReceive [],  .ckptEndReceive [],  .standbyReadyTimeout,  .startupListenExpiry,
    .secondaryWaitExpiry,  .takeoverDetect,  .checkpointLoadComplete false,  .pairHandover 0 0 [],  .handoverReceive [],
    .handoverAckReceive [],  .drillDayCount,  .pairGet 0 0,  .keyInfo 0 0 [],  .keyGenerate 0 0 [],  .keyDerive 0 0 [],
    .keyWrapImport 0 0 [],  .keyImportClear 0x01 0 0 0 [],  .keyInvalidate 0 0 [],  .keyAttest 0 0 [],  .keyCert 0 0 [],
    .keyPublic 0 0 [],  .trngHealthFail false,  .tamperConfirm 0 [] 0,  .tamperClear 0x01 0 0,  .tamperGet 0 0,
    .recordSubmit 0 0 [],  .recordWrite false 0,  .recRetest 0x01 0,  .recRetestComplete false,  .recRestoreWrite 0x01 0,
    .anchorWrite,  .hoursFuseStep false] : List Instr).all (fun i => WellFormed i) = true := by decide +kernel

/-- A well-formed command of every kind. -/
theorem test_wfGood_5 : ([
    .recCursorStep 0x01,  .recRead 0 0 [] none,  .recStatus 0 0,  .mpCopyReceive,  .mpProcessCutoff,  .mpAddressEvent,
    .sealConfirm false false false,  .metIdent 0 0 none,  .metRead 0 0 [],  .metParamSet 0 0 [] false,  .metAuditRead 0 0 [],
    .dramTrainingComplete 0 false,  .scrubRead 0 0 0,  .scrubSweepEnd 0,  .scrubLate 0,  .arbStarve 0 0,
    .crcTakeWrite 0x01 0,  .crcReleaseWrite 0x01 0,  .crcClear 0x01 0,  .crcFeedWrite 0x01 0 false 0,
    .crcStateRestore 0x01 0 false 0,  .crcScanGo 0x01 0,  .crcScanEnd 0 0 0 [],  .crcSnoopFrame 0 [],  .crcTake 0 0 [],
    .crcConfig 0 0 [],  .crcFeed 0 0 [],  .crcScan 0 0 [],  .crcGet 0 0 [],  .crcRelease 0 0 [],  .uartRxByte 0 0 0,
    .uartDataWrite 0x01 0 0,  .uartDataRead 0x01 0,  .uartMonitorTake false,  .uartMonitorRelease,  .i2cGo 0x01 0 0,
    .i2cTransactionEnd 0 0 0 [],  .canFrameReceive 0 0 0 0 0 0 [],  .canRxPop 0x01 0,  .canTxGo 0x01 0 0,
    .canTxAbort 0x01 0 0 false,  .canTxComplete 0 0 0,  .canBusOff 0 0 0,  .canBusOffRecovery 0 0,
    .adcThresholdEntry 0 false [],  .adcThresholdExit 0 false [],  .mdioGo 0x01 0,  .mdioComplete 0,
    .cableDiagGo 0x01 0 false,  .cableLinkDownExpiry 0 false] : List Instr).all (fun i => WellFormed i) = true := by decide +kernel

/-- A well-formed command of every kind. -/
theorem test_wfGood_6 : ([
    .cableDiagComplete [] [],  .bootRomStart,  .mainFirmwareStart 0 0 [],  .componentLoad 1,  .updBegin 0 0 [],
    .updData 0 0 [],  .updEnd 0 0 [],  .updActivate 0 0,  .updConfirm 0 0,  .updStatus 0 0,  .recoveryHello [],
    .recoveryWrite [],  .recoveryVerify [],  .recoveryCommit [],  .recoveryReset [],  .monInfo,  .monOpen,  .monResp [] [] 0,
    .monRecover,  .monClose,  .monRd 0 0,  .monWr 0 0,  .monLog 0 0,  .monKeyimport 0 0 0 [],  .monTamperclr 0,  .monReset,
    .monOpenExpiry,  .monIdleRelease,  .monBreakTake 0,  .pllPullRangeEdge 0,  .ethLinkChange 0 false 0,
    .unrecoverableFault 0,  .canErrorPassive 0 0 0,  .registerRead 0x01 0 0] : List Instr).all (fun i => WellFormed i) = true := by decide +kernel

/-- Commands with one operand outside the range the spec gives it: each check of WellFormed refuses its own. -/
theorem test_wfBad_0 : ([
    .mainPor 10 0 0,  .brownout 10 0 0,  .resetSourceDeassert 19 [] 0 0,  .strapSample [4096],  .rstCtrlSys 0x40 0,
    .rstCtrlSys 0x01 4294967296,  .rstCtrlWarm 0x40 0,  .rstCtrlWarm 0x01 4294967296,  .rstCtrlCold 0x40 0,
    .rstCtrlCold 0x01 4294967296,  .pllHoldoverEntry 2,  .pllHoldoverExit 2 0,  .pdCtrlWrite 0x40 0,
    .pdCtrlWrite 0x01 4294967296,  .nightGo 0x40 0 [] 0,  .nightGo 0x01 4294967296 [] 0,  .nightGo 0x01 0 [256] 0,
    .nightGo 0x01 0 [] 4294967296,  .plyResolution 65536 0 0 0 [] [],  .plyResolution 0 16 0 0 [] [],
    .plyResolution 0 0 0 0 [4] [],  .plyLoRead 0x40,  .castOpen 0x40,  .castStage 0x40 0,  .castStage 0x01 65536,
    .castCommit 0x40 0 0,  .castCommit 0x01 65536 0,  .castCommit 0x01 0 4,  .castAbort 0x40 0,  .castAbort 0x01 65536,
    .semTake 0x40 0,  .semTake 0x01 64,  .semRelease 0x40 0,  .semRelease 0x01 64,  .registerWrite 0x40 0 0 0,
    .registerWrite 0x01 4294967296 0 0,  .registerWrite 0x01 0 4294967296 0,  .lockBitSet 0x40 0 0,
    .lockBitSet 0x01 4294967296 0,  .lockBitSet 0x01 0 4294967296,
    .ecpFrameReceive false 0 4294967296 0 0 false [] 0 none false none,
    .ecpFrameReceive false 0 0 65536 0 false [] 0 none false none,
    .ecpFrameReceive false 0 0 0 65536 false [] 0 none false none,
    .ecpFrameReceive false 0 0 0 0 false [256] 0 none false none,  .spiWriteFrame [256],  .nop 9 0 [],  .nop 0 65536 [],
    .nop 0 0 [256],  .status 9 0,  .status 0 65536] : List Instr).all (fun i => !WellFormed i) = true := by decide +kernel

/-- Commands with one operand outside the range the spec gives it: each check of WellFormed refuses its own. -/
theorem test_wfBad_1 : ([
    .sessionOpen 9 0 [],  .sessionOpen 0 65536 [],  .sessionOpen 0 0 [256],  .sessionClose 9 0,  .sessionClose 0 65536,
    .sessionIdleTimeout 9,  .ecpReset 9 0,  .ecpReset 0 65536,  .night 9 0,  .night 0 65536,  .resultGet 9 0,
    .resultGet 0 65536,  .tagRetire 9 0 [],  .tagRetire 0 65536 [],  .tagRetire 0 0 [256],  .regRead 9 0 [] 0,
    .regRead 0 65536 [] 0,  .regRead 0 0 [256] 0,  .regWrite 9 0 [] 0,  .regWrite 0 65536 [] 0,  .regWrite 0 0 [256] 0,
    .streamOpen 9 0 [],  .streamOpen 0 65536 [],  .streamOpen 0 0 [256],  .streamClose 9 0 [],  .streamClose 0 65536 [],
    .streamClose 0 0 [256],  .requestFinalResponse 9 0 0 [],  .requestFinalResponse 0 65536 0 [],
    .requestFinalResponse 0 0 65536 [],  .requestFinalResponse 0 0 0 [256],  .streamMessageLost 9 0,
    .streamMessageLost 0 256,  .feLinkDown 2 false,  .feLinkLocked 2 0,  .feStatusFrame 2 [],  .feStatusFrame 0 [32],
    .feCtlFrameApply 2 0,  .antWindowEnd 2 [],  .antWindowEnd 0 [4096],  .antBiasRetry 2,
    .calSecond 2 ⟨false, [], 0⟩ ⟨false, [], 0⟩,  .acqEntrySubmit 0x40 0,  .acqEntrySubmit 0x01 64,  .acqEntryCancel 0x40 0,
    .acqEntryCancel 0x01 64,  .acqEntryClear 0x40 0,  .acqEntryClear 0x01 64,  .acqEngineDisable 0x40 0,
    .acqEngineDisable 0x01 4294967296] : List Instr).all (fun i => !WellFormed i) = true := by decide +kernel

/-- Commands with one operand outside the range the spec gives it: each check of WellFormed refuses its own. -/
theorem test_wfBad_2 : ([
    .loopUpdate 256 false ⟨0, 0, 0, 0, 0, 0, 0, 0, 0, 0, 0, 0, 0, 0, 0, 0⟩ 0,  .chStart 0x40 0,  .chStart 0x01 256,
    .chStop 0x40 0,  .chStop 0x01 256,  .pullInPllOn 256,  .pullInTimeout 256,  .cn0LossTimeout 256,  .obsFormDeadline [256],
    .navUnitDecode 256 0 0 0 false false none none [],  .navUnitDecode 0 0 0 0 false false none none [256],  .obsGet 9 0 [],
    .obsGet 0 65536 [],  .obsGet 0 0 [256],  .navGet 9 0 [],  .navGet 0 65536 [],  .navGet 0 0 [256],  .signalsSet 9 0 [],
    .signalsSet 0 65536 [],  .signalsSet 0 0 [256],  .rtcmSet 9 0 [],  .rtcmSet 0 65536 [],  .rtcmSet 0 0 [256],
    .domainOffsetSample 2 0 0 false 0 0 0,  .domainFaultRecovery 2,  .domainTracking 2,  .ptpForeignMaster 6,
    .stepCtrlArm 0x40 0,  .stepCtrlArm 0x01 4294967296,  .stepCtrlAccept 0x40 0,  .stepCtrlAccept 0x01 4294967296,
    .timeGet 9 0,  .timeGet 0 65536,  .timeStep 9 0 [],  .timeStep 0 65536 [],  .timeStep 0 0 [256],  .ptpSet 9 0 [],
    .ptpSet 0 65536 [],  .ptpSet 0 0 [256],  .ppsOutEdge 2,  .ethFrameReceive 6 0 [],  .ethFrameReceive 0 0 [256],
    .ethFrameTransmit 6 0 none none [],  .ethFrameTransmit 0 0 none none [256],  .txtsRead 0x40 0,  .txtsRead 0x01 6,
    .applyRef 0x40 0,  .applyRef 0x01 4294967296,  .applyOrg 0x40 0,  .applyOrg 0x01 4294967296] : List Instr).all (fun i => !WellFormed i) = true := by decide +kernel

/-- Commands with one operand outside the range the spec gives it: each check of WellFormed refuses its own. -/
theorem test_wfBad_3 : ([
    .uplinkSlotEnd 0,  .solGet 9 0 [],  .solGet 0 65536 [],  .solGet 0 0 [256],  .prioSet 9 0 [],  .prioSet 0 65536 [],
    .prioSet 0 0 [256],  .filterReset 9 0 [],  .filterReset 0 65536 [],  .filterReset 0 0 [256],  .laneEnable 0x40 0 0,
    .laneEnable 0x01 8 0,  .laneEnable 0x01 0 4294967296,  .laneDisable 0x40 0 0,  .laneDisable 0x01 8 0,
    .laneDisable 0x01 0 4294967296,  .laneLinkLocked 8,  .laneLinkLost 8 false,  .laneStatusFrame 8 [],
    .laneStatusFrame 0 [1125899906842624],  .laneCapsCheck 8,  .trxControlApply 8 0,  .laneFrameDecision 8 0 0,
    .laneFrameDecision 0 0 3,  .budgetBucketRoll 128,  .accountEnable 0x40 0 0,  .accountEnable 0x01 128 0,
    .accountEnable 0x01 0 4294967296,  .accountDisable 0x40 0 0,  .accountDisable 0x01 128 0,
    .accountDisable 0x01 0 4294967296,  .airFrameReceive 8 0 [] 0 0 0 0,  .airFrameReceive 0 0 [256] 0 0 0 0,
    .hopApply 0x40 0,  .hopApply 0x01 4294967296,  .offerLapse 0,  .memberSilenceTimeout 0,  .slotOwnerWrite 0x40 0 0 0 0,
    .slotOwnerWrite 0x01 2 0 0 0,  .slotOwnerWrite 0x01 0 8 0 0,  .slotOwnerWrite 0x01 0 0 100 0,
    .slotOwnerWrite 0x01 0 0 0 4294967296,  .flockWrite 0x40 0 0 0,  .flockWrite 0x01 16 0 0,  .flockWrite 0x01 0 6 0,
    .flockWrite 0x01 0 0 4294967296,  .netForm 9 0,  .netForm 0 65536,  .memberGet 9 0 [],  .memberGet 0 65536 []] : List Instr).all (fun i => !WellFormed i) = true := by decide +kernel

/-- Commands with one operand outside the range the spec gives it: each check of WellFormed refuses its own. -/
theorem test_wfBad_4 : ([
    .memberGet 0 0 [256],  .memberRelease 9 0 [],  .memberRelease 0 65536 [],  .memberRelease 0 0 [256],  .flockSet 9 0 [],
    .flockSet 0 65536 [],  .flockSet 0 0 [256],  .slotSet 9 0 [],  .slotSet 0 65536 [],  .slotSet 0 0 [256],
    .memberAssocAttempt 0 0 8 0 [] [] [] false,  .memberAssocAttempt 0 0 0 0 [256] [] [] false,
    .memberAssocAttempt 0 0 0 0 [] [256] [] false,  .memberAssocAttempt 0 0 0 0 [] [] [256] false,
    .memberAssocResponse 0 0 0 0 [256],  .memberBellwetherReceive 0 0 0 0 [256],  .memberDigestReceive 0 0 0 0 [256],
    .memberOrderEnd 0 0 4 0 0,  .memberOrderEnd 0 0 2 0 4294967296,  .memberStopFrameReceive 0 0 0 2 0 [],
    .memberStopFrameReceive 0 0 0 0 0 [256],  .memberUplinkSend 0 0 0 0 false [256],  .memberClaimLapse 0 2 0,
    .dispSubmit 0x40,  .dispSubmitStallExpiry 0x40,  .taskSubmit 9 0 [],  .taskSubmit 0 65536 [],  .taskSubmit 0 0 [256],
    .dispCancel 0x40 0,  .dispCancel 0x01 4294967296,  .taskCancel 9 0 [],  .taskCancel 0 65536 [],  .taskCancel 0 0 [256],
    .taskGet 9 0 [],  .taskGet 0 65536 [],  .taskGet 0 0 [256],  .dispTake 0x40 0,  .dispTake 0x01 16,  .dispDone 0x40 0 0,
    .dispDone 0x01 16 0,  .dispDone 0x01 0 4294967296,  .taskLapse 4096,  .trackLoad 9 0 [],  .trackLoad 0 65536 [],
    .trackLoad 0 0 [256],  .trackSeal 9 0 [],  .trackSeal 0 65536 [],  .trackSeal 0 0 [256],  .trackFree 9 0 [],
    .trackFree 0 65536 []] : List Instr).all (fun i => !WellFormed i) = true := by decide +kernel

/-- Commands with one operand outside the range the spec gives it: each check of WellFormed refuses its own. -/
theorem test_wfBad_5 : ([
    .trackFree 0 0 [256],  .move 9 0 [],  .move 0 65536 [],  .move 0 0 [256],  .halt 9 0 [],  .halt 0 65536 [],
    .halt 0 0 [256],  .chanRelease 9 0 [],  .chanRelease 0 65536 [],  .chanRelease 0 0 [256],  .gearEngage 9 0 [],
    .gearEngage 0 65536 [],  .gearEngage 0 0 [256],  .gearDisengage 9 0 [],  .gearDisengage 0 65536 [],
    .gearDisengage 0 0 [256],  .profileRestReached 0,  .dockInputConfirm 8 false false false,  .estopLoopOpen 16,
    .loopTestPulse 16 false,  .loopDiscrepancy 8,  .relayFbMismatch 4,  .rookSramUe .rook 4,  .wdogSvcWrite 0x40 0,
    .wdogSvcWrite 0x01 4294967296,  .stopPortStop 0x40 0,  .stopPortStop 0x01 4294967296,  .stopPortHold 0x40 0,
    .stopPortHold 0x01 4294967296,  .stopPortResume 0x40 0,  .stopPortResume 0x01 4294967296,  .stopPortRelease 0x40 0,
    .stopPortRelease 0x01 4294967296,  .stopPortFaultClear 0x40 0,  .stopPortFaultClear 0x01 4294967296,
    .rookFaultWrite 0x40 0,  .rookFaultWrite 0x01 4294967296,  .stop 9 0 [],  .stop 0 65536 [],  .stop 0 0 [256],
    .stopRelease 9 0 [],  .stopRelease 0 65536 [],  .stopRelease 0 0 [256],  .hold 9 0 [],  .hold 0 65536 [],
    .hold 0 0 [256],  .resume 9 0 [],  .resume 0 65536 [],  .resume 0 0 [256],  .stopStatus 9 0] : List Instr).all (fun i => !WellFormed i) = true := by decide +kernel

/-- Commands with one operand outside the range the spec gives it: each check of WellFormed refuses its own. -/
theorem test_wfBad_6 : ([
    .stopStatus 0 65536,  .faultClear 9 0,  .faultClear 0 65536,  .pairEnable 0x40 0,  .pairEnable 0x01 4294967296,
    .heartbeatReceive [256],  .safetyReceive [256],  .safetyAckReceive [256],  .ckptDataReceive [256],  .ckptEndReceive [256],
    .pairHandover 9 0 [],  .pairHandover 0 65536 [],  .pairHandover 0 0 [256],  .handoverReceive [256],
    .handoverAckReceive [256],  .pairGet 9 0,  .pairGet 0 65536,  .keyInfo 9 0 [],  .keyInfo 0 65536 [],  .keyInfo 0 0 [256],
    .keyGenerate 9 0 [],  .keyGenerate 0 65536 [],  .keyGenerate 0 0 [256],  .keyDerive 9 0 [],  .keyDerive 0 65536 [],
    .keyDerive 0 0 [256],  .keyWrapImport 9 0 [],  .keyWrapImport 0 65536 [],  .keyWrapImport 0 0 [256],
    .keyImportClear 0x40 0 0 0 [],  .keyImportClear 0x01 512 0 0 [],  .keyImportClear 0x01 0 0 0 [256],
    .keyInvalidate 9 0 [],  .keyInvalidate 0 65536 [],  .keyInvalidate 0 0 [256],  .keyAttest 9 0 [],  .keyAttest 0 65536 [],
    .keyAttest 0 0 [256],  .keyCert 9 0 [],  .keyCert 0 65536 [],  .keyCert 0 0 [256],  .keyPublic 9 0 [],
    .keyPublic 0 65536 [],  .keyPublic 0 0 [256],  .tamperConfirm 8 [] 0,  .tamperClear 0x40 0 0,
    .tamperClear 0x01 4294967296 0,  .tamperGet 9 0,  .tamperGet 0 65536,  .recordSubmit 65536 0 []] : List Instr).all (fun i => !WellFormed i) = true := by decide +kernel

/-- Commands with one operand outside the range the spec gives it: each check of WellFormed refuses its own. -/
theorem test_wfBad_7 : ([
    .recordSubmit 0 256 [],  .recordSubmit 0 0 [256],  .recordWrite false 4,  .recRetest 0x40 0,  .recRetest 0x01 4294967296,
    .recRestoreWrite 0x40 0,  .recRestoreWrite 0x01 4294967296,  .recCursorStep 0x40,  .recRead 9 0 [] none,
    .recRead 0 65536 [] none,  .recRead 0 0 [256] none,  .recStatus 9 0,  .recStatus 0 65536,  .metIdent 9 0 none,
    .metIdent 0 65536 none,  .metRead 9 0 [],  .metRead 0 65536 [],  .metRead 0 0 [256],  .metParamSet 9 0 [] false,
    .metParamSet 0 65536 [] false,  .metParamSet 0 0 [256] false,  .metAuditRead 9 0 [],  .metAuditRead 0 65536 [],
    .metAuditRead 0 0 [256],  .dramTrainingComplete 2 false,  .scrubRead 2 0 0,  .scrubRead 0 4 0,  .scrubRead 0 0 8,
    .scrubSweepEnd 2,  .scrubLate 2,  .arbStarve 2 0,  .arbStarve 0 16,  .crcTakeWrite 0x40 0,  .crcTakeWrite 0x01 16,
    .crcReleaseWrite 0x40 0,  .crcReleaseWrite 0x01 16,  .crcClear 0x40 0,  .crcClear 0x01 16,  .crcFeedWrite 0x40 0 false 0,
    .crcFeedWrite 0x01 16 false 0,  .crcFeedWrite 0x01 0 false 4294967296,  .crcStateRestore 0x40 0 false 0,
    .crcStateRestore 0x01 16 false 0,  .crcStateRestore 0x01 0 false 4294967296,  .crcScanGo 0x40 0,  .crcScanGo 0x01 16,
    .crcScanEnd 16 0 0 [],  .crcScanEnd 0 4 0 [],  .crcScanEnd 0 0 1099511627776 [],  .crcScanEnd 0 0 0 [256]] : List Instr).all (fun i => !WellFormed i) = true := by decide +kernel

/-- Commands with one operand outside the range the spec gives it: each check of WellFormed refuses its own. -/
theorem test_wfBad_8 : ([
    .crcSnoopFrame 16 [],  .crcSnoopFrame 0 [256],  .crcTake 9 0 [],  .crcTake 0 65536 [],  .crcTake 0 0 [256],
    .crcConfig 9 0 [],  .crcConfig 0 65536 [],  .crcConfig 0 0 [256],  .crcFeed 9 0 [],  .crcFeed 0 65536 [],
    .crcFeed 0 0 [256],  .crcScan 9 0 [],  .crcScan 0 65536 [],  .crcScan 0 0 [256],  .crcGet 9 0 [],  .crcGet 0 65536 [],
    .crcGet 0 0 [256],  .crcRelease 9 0 [],  .crcRelease 0 65536 [],  .crcRelease 0 0 [256],  .uartRxByte 4 0 0,
    .uartRxByte 0 256 0,  .uartRxByte 0 0 4,  .uartDataWrite 0x40 0 0,  .uartDataWrite 0x01 4 0,  .uartDataWrite 0x01 0 256,
    .uartDataRead 0x40 0,  .uartDataRead 0x01 4,  .i2cGo 0x40 0 0,  .i2cGo 0x01 2 0,  .i2cGo 0x01 0 4294967296,
    .i2cTransactionEnd 2 0 0 [],  .i2cTransactionEnd 0 6 0 [],  .i2cTransactionEnd 0 0 0 [256],
    .canFrameReceive 2 0 0 0 0 0 [],  .canFrameReceive 0 2 0 0 0 0 [],  .canFrameReceive 0 0 2 0 0 0 [],
    .canFrameReceive 0 0 0 2 0 0 [],  .canFrameReceive 0 0 0 0 536870912 0 [],  .canFrameReceive 0 0 0 0 0 16 [],
    .canFrameReceive 0 0 0 0 0 0 [256],  .canRxPop 0x40 0,  .canRxPop 0x01 2,  .canTxGo 0x40 0 0,  .canTxGo 0x01 2 0,
    .canTxGo 0x01 0 32,  .canTxAbort 0x40 0 0 false,  .canTxAbort 0x01 2 0 false,  .canTxAbort 0x01 0 32 false,
    .canTxComplete 2 0 0] : List Instr).all (fun i => !WellFormed i) = true := by decide +kernel

/-- Commands with one operand outside the range the spec gives it: each check of WellFormed refuses its own. -/
theorem test_wfBad_9 : ([
    .canTxComplete 0 32 0,  .canBusOff 2 0 0,  .canBusOffRecovery 2 0,  .adcThresholdEntry 15 false [],
    .adcThresholdEntry 0 false [4096],  .adcThresholdExit 15 false [],  .adcThresholdExit 0 false [4096],  .mdioGo 0x40 0,
    .mdioGo 0x01 4294967296,  .mdioComplete 65536,  .cableDiagGo 0x40 0 false,  .cableDiagGo 0x01 4294967296 false,
    .cableLinkDownExpiry 6 false,  .componentLoad 9,  .updBegin 9 0 [],  .updBegin 0 65536 [],  .updBegin 0 0 [256],
    .updData 9 0 [],  .updData 0 65536 [],  .updData 0 0 [256],  .updEnd 9 0 [],  .updEnd 0 65536 [],  .updEnd 0 0 [256],
    .updActivate 9 0,  .updActivate 0 65536,  .updConfirm 9 0,  .updConfirm 0 65536,  .updStatus 9 0,  .updStatus 0 65536,
    .recoveryHello [256],  .recoveryWrite [256],  .recoveryVerify [256],  .recoveryCommit [256],  .recoveryReset [256],
    .monResp [256] [] 0,  .monResp [] [256] 0,  .monRd 4294967296 0,  .monWr 4294967296 0,  .monWr 0 4294967296,
    .monKeyimport 512 0 0 [],  .monKeyimport 0 0 0 [256],  .pllPullRangeEdge 2,  .ethLinkChange 6 false 0,
    .ethLinkChange 0 false 3,  .unrecoverableFault 16,  .canErrorPassive 2 0 0,  .registerRead 0x40 0 0,
    .registerRead 0x01 4294967296 0] : List Instr).all (fun i => !WellFormed i) = true := by decide +kernel

end Sys2Proof.Tests
end

section
/-!
SUPPORT. Every command's meaning answers a next state that has passed the relay gate (R523): said once, for every command.
-/

namespace Sys2Proof.Machine

open R

/-- A meaning's answer is a next state that has passed the relay gate. -/
def Finished (o : Out) : Prop := ∃ u : State, o = fin u

theorem fin_finished (s : State) : Finished (fin s) := ⟨s, rfl⟩

/-! ## Requests over ECP (R172 to R189)

The only command whose meaning calls other meanings is ECP_FRAME_RECEIVE. In each group of opcodes below, the opcodes without a
payload go through State.noPay, and each of the others calls its meaning at once. -/

theorem State.noPay_finished (s : State) (sess op tag : Nat) (pay : List Nat) (f : State → Out) (h : ∀ s, Finished (f s)) :
    Finished (s.noPay sess op tag pay f) := by
  unfold State.noPay
  split
  · exact h s
  · exact fin_finished _

theorem State.ecpGroupA_finished (s : State) (op sess tag : Nat) (pay : List Nat) :
    ∀ r ∈ s.ecpGroupA op sess tag pay, Finished r := by
  unfold State.ecpGroupA
  split <;> rintro r ⟨⟩
  any_goals exact s.noPay_finished sess _ tag pay _ (fun _ => fin_finished _)
  all_goals exact fin_finished _

theorem State.ecpGroupB_finished (s : State) (op sess tag : Nat) (pay : List Nat) :
    ∀ r ∈ s.ecpGroupB op sess tag pay, Finished r := by
  unfold State.ecpGroupB
  split <;> rintro r ⟨⟩
  any_goals exact s.noPay_finished sess _ tag pay _ (fun _ => fin_finished _)
  all_goals exact fin_finished _

theorem State.ecpGroupC_finished (s : State) (x : EcpFacts) (op sess tag : Nat) (pay : List Nat) :
    ∀ r ∈ s.ecpGroupC x op sess tag pay, Finished r := by
  unfold State.ecpGroupC
  split <;> rintro r ⟨⟩
  any_goals exact s.noPay_finished sess _ tag pay _ (fun _ => fin_finished _)
  all_goals exact fin_finished _

theorem State.ecpDispatch_finished (s : State) (x : EcpFacts) (op sess tag : Nat) (pay : List Nat) :
    Finished (s.ecpDispatch x op sess tag pay) := by
  unfold State.ecpDispatch
  split
  next r hA => exact s.ecpGroupA_finished op sess tag pay r hA
  next =>
    split
    next r hB => exact s.ecpGroupB_finished op sess tag pay r hB
    next =>
      split
      next r hC => exact s.ecpGroupC_finished x op sess tag pay r hC
      next => exact fin_finished _

theorem State.ecpAccept_finished (s : State) (facts : EcpFacts) (x : EcpSession) (f : List Nat) :
    Finished (s.ecpAccept facts x f) := by
  unfold State.ecpAccept
  dsimp only
  split
  · exact fin_finished _
  · split
    · exact fin_finished _
    · exact State.ecpDispatch_finished ..

theorem State.ecpFirst_finished (s : State) (facts : EcpFacts) (e : EcpSource) (f : List Nat) :
    Finished (s.ecpFirst facts e f) := by
  unfold State.ecpFirst
  dsimp only
  split
  · exact fin_finished _
  · split
    · exact fin_finished _
    · exact State.ecpAccept_finished ..

theorem State.ecpFrame_finished (s : State) (facts : EcpFacts) (e : EcpSource) (f : List Nat) :
    Finished (s.ecpFrame facts e f) := by
  unfold State.ecpFrame
  split
  · exact fin_finished _
  · dsimp only
    split
    case h_1 => exact fin_finished _
    case h_2 => exact fin_finished _
    case h_3 => split <;> exact fin_finished _
    case h_4 =>
      split
      · exact State.ecpAccept_finished ..
      · exact State.ecpFirst_finished ..

theorem execEcpFrameReceive_finished (spi : Bool) (port ip udp dst : Nat) (frag : Bool) (frame : List Nat) (live : Nat)
    (sram : Option (List Nat)) (readBack : Bool) (err : Option (Bool × Nat × Nat)) (s : State) :
    Finished (execEcpFrameReceive spi port ip udp dst frag frame live sram readBack err s) := by
  unfold execEcpFrameReceive
  dsimp only
  split
  · exact fin_finished _
  · split
    · split
      · exact fin_finished _
      · exact State.ecpFrame_finished ..
    · split
      · exact fin_finished _
      · split
        · exact fin_finished _
        · exact State.ecpFrame_finished ..

/-! ## Every command -/

/-- Every command's meaning is a call of `fin`, but for that of ECP_FRAME_RECEIVE, which ends in one on each of its paths. -/
theorem exec_finished (c : Instr) (s : State) : Finished (exec c s) := by
  cases c with
  | ecpFrameReceive => exact execEcpFrameReceive_finished ..
  | _ => exact fin_finished _

/-- A step with a command waiting runs it on the state with the rest of the queue. -/
theorem step_of_pending_cons {s : State} {c : Instr} {rest : List Instr} (h : s.pending = c :: rest) :
    step s = exec c { s with pending := rest } := by
  simp only [step, h]

/-- A step with no command waiting leaves the state. -/
theorem step_of_pending_nil {s : State} (h : s.pending = []) : step s = .next s := by
  simp only [step, h]

/-- All that a step can do: idle, or answer a next state that has passed the relay gate. -/
theorem State.step_idle_or_finished (s : State) : step s = .next s ∨ Finished (step s) := by
  cases h : s.pending with
  | nil => exact .inl (step_of_pending_nil h)
  | cons c rest =>
    rw [step_of_pending_cons h]
    exact .inr (exec_finished c _)

/-- After the relay gate no relay is driven in the stop state (R523), whatever the state was before. -/
theorem State.relayGate_stopSafe (s : State) : s.relayGate.stopSafe = true := by
  cases h : s.relayGate.bit ROOK_STATE_STOP with
  | false => simp [State.stopSafe, h]
  | true => simp [State.stopSafe, s.relayGate_drive h]

end Sys2Proof.Machine
end

section
/-!
The statements about a step of any command, and the reset state.
-/

namespace Sys2Proof.Machine

open R

/-- Settles O4: an idle step leaves the state, and any other next state has passed the relay gate. -/
theorem stopStateKeepsRelaysDown : Obligations.StopStateKeepsRelaysDown := by
  intro s t hstep hsafe
  rcases s.step_idle_or_finished with hidle | ⟨u, hfin⟩
  · cases hidle.symm.trans hstep
    exact hsafe
  · cases hfin.symm.trans hstep
    exact u.relayGate_stopSafe

/-- Settles O3: every meaning ends in `fin`, and an empty queue idles. -/
theorem everyCommandCompletes : Obligations.EveryCommandCompletes := by
  intro s
  rcases s.step_idle_or_finished with hidle | ⟨u, hfin⟩
  · exact ⟨s, hidle⟩
  · exact ⟨u.relayGate, hfin⟩

/-- Settles O1. -/
theorem stepRunsTheFrontCommand : Obligations.StepRunsTheFrontCommand :=
  fun _ _ _ => step_of_pending_cons

/-- Settles O2. -/
theorem emptyQueueIdles : Obligations.EmptyQueueIdles :=
  fun _ => step_of_pending_nil

/-- Settles O5: the reset state lists STOP and no relay drive. -/
theorem resetStateIsStopSafe : Obligations.ResetStateIsStopSafe := by
  have hstop : State.reset.bit ROOK_STATE_STOP = true := by decide
  have hdrive : State.reset.get RELAY_STATUS_DRIVE = 0 := by decide
  exact ⟨by simp [State.stopSafe, hdrive], hstop, hdrive⟩

end Sys2Proof.Machine
end

section
/-!
SUPPORT. The frame of asserting a reset source as a relation (AssertFrame): how it composes, which updates keep it, and what an
assertion does to the power state (R54, R104, R110, R113).
-/

namespace Sys2Proof.Machine

open R

/-! ## The frame of an assertion -/

theorem AssertFrame.refl (src : Nat) (s : State) : AssertFrame src s s :=
  ⟨fun _ h => h, fun _ h => h, rfl, rfl, rfl, rfl, rfl, rfl, rfl, fun _ _ _ => rfl⟩

theorem AssertFrame.trans {src : Nat} {a b c : State} (h : AssertFrame src a b) (g : AssertFrame src b c) :
    AssertFrame src a c := by
  obtain ⟨hasserted, hheld, hpend, hout, hflash, haudit, hdevs, htrx, hfe, haon⟩ := h
  obtain ⟨gasserted, gheld, gpend, gout, gflash, gaudit, gdevs, gtrx, gfe, gaon⟩ := g
  exact ⟨fun x hx => gasserted x (hasserted x hx), fun p hp => gheld p (hheld p hp), gpend.trans hpend, gout.trans hout,
    gflash.trans hflash, gaudit.trans haudit, gdevs.trans hdevs, gtrx.trans htrx, gfe.trans hfe,
    fun hr f hf => (gaon hr f hf).trans (haon hr f hf)⟩

/-- The frame of a source is that of another whose reach covers PD_AON too, where the first one's does. -/
theorem AssertFrame.mono {a b : Nat} {s t : State} (h : AssertFrame a s t)
    (hab : Part.aon ∈ (reachOf a).parts → Part.aon ∈ (reachOf b).parts) : AssertFrame b s t := by
  obtain ⟨hasserted, hheld, hpend, hout, hflash, haudit, hdevs, htrx, hfe, haon⟩ := h
  exact ⟨hasserted, hheld, hpend, hout, hflash, haudit, hdevs, htrx, hfe, fun hr => haon (fun ha => hr (hab ha))⟩

/-- What an initiator's reset may change lies outside every source's frame. -/
theorem AssertFrame.of_owner {s t : State} (src : Nat) (h : OwnerKeeps s t) : AssertFrame src s t := by
  obtain ⟨hpend, hout, hflash, haudit, hdevs, htrx, hfe⟩ := (ResetKeeps.of_owner h).outside
  refine ⟨fun x hx => ?_, (ResetKeeps.of_owner h).held, hpend, hout, hflash, haudit, hdevs, htrx, hfe, fun _ => h.aon⟩
  rw [(ResetKeeps.of_owner h).asserted]
  exact hx

/-- The power state after AON_POR: only the rails, the thermal trip and the fallen rails are left (R54, R100). -/
def PwrState.afterAonPor (p : PwrState) : PwrState := { railValid := p.railValid, thermTrip := p.thermTrip, brown := p.brown }

@[simp] theorem PwrState.afterAonPor_railValid (p : PwrState) : p.afterAonPor.railValid = p.railValid := rfl

/-- The power state with THERMTRIP_N driven (R73). -/
def PwrState.tripped (p : PwrState) : PwrState := { p with thermTrip := true }

@[simp] theorem PwrState.tripped_thermTrip (p : PwrState) : p.tripped.thermTrip = true := rfl

/-- The state with another power state. -/
def State.withPwr (s : State) (p : PwrState) : State := { s with pwr := p }

@[simp] theorem State.withPwr_pwr (s : State) (p : PwrState) : (s.withPwr p).pwr = p := rfl

/-- The power state lies outside every source's frame. -/
theorem AssertFrame.pwr (src : Nat) (s : State) (p : PwrState) : AssertFrame src s (s.withPwr p) :=
  AssertFrame.refl src s

theorem State.rookWrote_frame (src : Nat) (s : State) (ini a : Nat) : AssertFrame src s (s.rookWrote ini a) := by
  unfold State.rookWrote
  split
  · exact AssertFrame.refl src s
  · exact AssertFrame.refl src s

theorem State.relayGate_frame (src : Nat) (s : State) : AssertFrame src s s.relayGate := by
  rcases s.relayGate_cases with ⟨_, h⟩ | ⟨_, h⟩
  · rw [h]
    exact AssertFrame.refl src s
  · rw [h]
    exact .of_owner src (OwnerKeeps.put s RELAY_STATUS_DRIVE 0 (by simp [regPart, regPartNum]))

theorem State.assertSource_frame (src : Nat) (s : State) (cyc : Nat) : AssertFrame src s (s.assertSource src cyc) := by
  obtain ⟨_, hasserted, _, hheld, hpend, hout, hflash, haudit, hdevs, htrx, hfe⟩ := s.assertSource_spec src cyc
  exact ⟨hasserted, hheld, hpend, hout, hflash, haudit, hdevs, htrx, hfe, fun hr f hf => s.assertSource_aon src cyc f hr hf⟩

/-! ## A source is asserted -/

theorem State.assertSource_asserted (s : State) (src cyc : Nat) : Asserted src (s.assertSource src cyc) := by
  obtain ⟨hsrc, _, hparts, _⟩ := s.assertSource_spec src cyc
  exact ⟨by simpa using hsrc, by simpa using hparts⟩

/-- What keeps a frame leaves a source asserted and its reach held. -/
theorem Asserted.keep {src x : Nat} {s t : State} (h : Asserted src s) (g : AssertFrame x s t) : Asserted src t := by
  obtain ⟨hsrc, hparts⟩ := h
  obtain ⟨gasserted, gheld, _⟩ := g
  simp only [Asserted, List.contains_iff_mem, List.all_eq_true] at *
  exact ⟨gasserted src hsrc, fun p hp => gheld p (hparts p hp)⟩

/-- From `s` to `t` the source is asserted, its reach is held, and its frame stays. -/
def AssertsSource (src : Nat) (s t : State) : Prop := Asserted src t ∧ AssertFrame src s t

theorem State.assertSource_asserts (s : State) (src cyc : Nat) : AssertsSource src s (s.assertSource src cyc) :=
  ⟨s.assertSource_asserted src cyc, s.assertSource_frame src cyc⟩

theorem AssertFrame.then_asserts {src : Nat} {s t u : State} (h : AssertFrame src s t) (g : AssertsSource src t u) :
    AssertsSource src s u :=
  ⟨g.1, h.trans g.2⟩

theorem AssertsSource.then_frame {src : Nat} {s t u : State} (h : AssertsSource src s t) (g : AssertFrame src t u) :
    AssertsSource src s u :=
  ⟨h.1.keep g, h.2.trans g⟩

/-- The relay gate leaves a source asserted. -/
theorem AssertsSource.gated {src : Nat} {s u : State} (h : AssertsSource src s u) : AssertsSource src s u.relayGate :=
  h.then_frame (u.relayGate_frame src)

theorem does_of_fin {c : Instr} {s u : State} {P : State → Prop} (hexec : exec c s = fin u) (h : P u.relayGate) : Does c s P :=
  ⟨u.relayGate, hexec, h⟩

/-- A meaning that asserts a source before the gate asserts it. -/
theorem does_of_asserts {c : Instr} {s u : State} {src : Nat} (hexec : exec c s = fin u) (h : AssertsSource src s u) :
    Does c s (fun t => Asserted src t ∧ AssertFrame src s t) :=
  does_of_fin hexec h.gated

/-! ## The power state at an assertion -/

/-- The rails above their release levels stay what they are through an update. -/
abbrev KeepsRails (s t : State) : Prop := t.pwr.railValid = s.pwr.railValid

theorem OwnerKeeps.keepsRails {s t : State} (h : OwnerKeeps s t) : KeepsRails s t := by
  unfold KeepsRails
  rw [h.rest]

theorem ownerResets_keepRails (l : List Nat) (s : State) : KeepsRails s (l.foldl (fun s i => ownerReset i s) s) :=
  foldl_rel KeepsRails (fun _ => rfl) (fun _ _ _ h g => g.trans h) _ (fun a i => (ownerReset_keeps i a).keepsRails) l s

theorem cableEnd_keepsRails (s : State) (st len : List Nat) : KeepsRails s (s.cableEnd st len) := by
  unfold State.cableEnd
  split
  · rfl
  · refine (OwnerKeeps.record _ _ _ _).keepsRails.trans ?_
    simp [State.cableResult]

theorem enterReset_keepsRails (s : State) (p : Part) : KeepsRails s (s.enterReset p) := by
  cases p with
  | net => exact cableEnd_keepsRails _ [5, 5, 5, 5] [0, 0, 0, 0]
  | _ => rfl

theorem State.holdReset_keepsRails (s : State) (p : Part) : KeepsRails s (s.holdReset p) := by
  have hhold : ∀ u : State, KeepsRails u (u.hold p) := by
    intro u
    unfold State.hold
    split <;> rfl
  exact ((hhold _).trans (enterReset_keepsRails _ p)).trans (ownerResets_keepRails (partOwners p) s)

theorem State.beginEpisode_keepsRails (s : State) : KeepsRails s s.beginEpisode := by
  unfold State.beginEpisode
  split
  · rfl
  · dsimp only
    split <;> rfl

theorem State.coverTrims_keepsRails (s : State) (r : Reach) (cyc : Nat) : KeepsRails s (s.coverTrims r cyc) := by
  unfold State.coverTrims
  split
  · dsimp only
    split <;> simp [KeepsRails, State.bump]
  · rfl

/-- Asserting a source leaves what the monitors have seen of the rails. -/
@[simp] theorem State.assertSource_railValid (s : State) (src cyc : Nat) :
    (s.assertSource src cyc).pwr.railValid = s.pwr.railValid := by
  unfold State.assertSource
  dsimp only
  refine (foldl_rel KeepsRails (fun _ => rfl) (fun _ _ _ h g => g.trans h) _ State.holdReset_keepsRails _ _).trans ?_
  refine (State.coverTrims_keepsRails _ _ _).trans ?_
  exact s.beginEpisode_keepsRails

/-- A rail that has fallen is not above its release level. -/
@[simp] theorem State.railDown_not_valid (s : State) (rail : Nat) : (s.railDown rail).pwr.railValid.contains rail = false := by
  simp [State.railDown]

theorem State.railDown_frame (src : Nat) (s : State) (rail : Nat) : AssertFrame src s (s.railDown rail) :=
  .pwr src s _

/-- The rail falls, and BROWNOUT waits for it (R54, R112). -/
def State.brownDown (s : State) (rail : Nat) : State :=
  { s.railDown rail with pwr := { (s.railDown rail).pwr with brown := (s.railDown rail).pwr.brown ++ [rail] } }

theorem State.brownFall_eq (s : State) (rail cyc : Nat) (hvalid : s.pwr.railValid.contains rail = true)
    (hen : s.pwr.mainEn = true) : s.brownFall rail cyc = (s.brownDown rail).assertSource 4 cyc := by
  unfold State.brownFall
  rw [hvalid, hen]
  rfl

/-- The fall of a valid rail with MAIN_EN high asserts BROWNOUT, and the rail is no longer valid (R54, R56). -/
theorem State.brownFall_asserts (s : State) (rail cyc : Nat) (hvalid : s.pwr.railValid.contains rail = true)
    (hen : s.pwr.mainEn = true) :
    AssertsSource 4 s (s.brownFall rail cyc) ∧ (s.brownFall rail cyc).pwr.railValid.contains rail = false := by
  rw [s.brownFall_eq rail cyc hvalid hen]
  constructor
  · exact (AssertFrame.pwr 4 s (s.brownDown rail).pwr).then_asserts ((s.brownDown rail).assertSource_asserts 4 cyc)
  · rw [State.assertSource_railValid]
    exact s.railDown_not_valid rail

/-- The fall of a rail keeps the frame of BROWNOUT, whether it asserts it or not. -/
theorem State.brownFall_frame (s : State) (rail cyc : Nat) : AssertFrame 4 s (s.brownFall rail cyc) := by
  cases h : s.pwr.railValid.contains rail && s.pwr.mainEn with
  | true =>
    rw [Bool.and_eq_true] at h
    obtain ⟨⟨_, hframe⟩, _⟩ := s.brownFall_asserts rail cyc h.1 h.2
    exact hframe
  | false =>
    unfold State.brownFall
    rw [h]
    exact .refl 4 s

/-! ## The meanings of the supplies and pins, where their conditions hold (R45, R54, R55, R73) -/

theorem exec_aonPor_low (s : State) (mv cyc : Nat) (h : mv < 2200) :
    exec (.aonPor mv cyc) s =
      fin (((s.railDown 9).assertSource 0 cyc).withPwr ((s.railDown 9).assertSource 0 cyc).pwr.afterAonPor) :=
  congrArg fin (if_pos h)

theorem exec_mainPor_low (s : State) (rail mv cyc : Nat) (hrail : rail < 9) (hmv : mv < powerOnMv rail) :
    exec (.mainPor rail mv cyc) s = fin (((s.brownFall rail cyc).railDown rail).assertSource 1 cyc) :=
  congrArg fin (if_pos ⟨hrail, hmv⟩)

theorem exec_brownout_low (s : State) (rail mv cyc : Nat) (hrail : rail < 9) (hmv : mv < brownoutMv rail) :
    exec (.brownout rail mv cyc) s = fin (s.brownFall rail cyc) :=
  congrArg fin (if_pos ⟨hrail, hmv⟩)

theorem exec_thermalTrip_hot (s : State) (celsius : Int) (cyc : Nat) (h : 115 ≤ celsius) :
    exec (.thermalTrip celsius cyc) s =
      fin ((s.assertSource 5 cyc).withPwr (s.assertSource 5 cyc).pwr.tripped) :=
  congrArg fin (if_neg (by omega))

/-! ## Granted writes of RST_CTRL (R127) -/

/-- SYS by an application core, with COLD clear, asserts SW_SYS, and then SW_WARM where WARM is set too. -/
theorem State.rstCtrl_sys (s : State) (ini data : Nat) (happ : isApp ini = true) (hkey : bits data 31 16 = 0x5E7A)
    (hsys : bitOf data 0 = true) (hcold : bitOf data 2 = false) :
    s.rstCtrl ini data =
      if bitOf data 1 then (s.assertSource 14 0).assertSource 16 0 else s.assertSource 14 0 := by
  simp [State.rstCtrl, happ, hkey, hsys, hcold]

/-- WARM by an application core, with COLD clear, asserts SW_WARM, after SW_SYS where SYS is set too. -/
theorem State.rstCtrl_warm (s : State) (ini data : Nat) (happ : isApp ini = true) (hkey : bits data 31 16 = 0x5E7A)
    (hwarm : bitOf data 1 = true) (hcold : bitOf data 2 = false) :
    s.rstCtrl ini data = (if bitOf data 0 then s.assertSource 14 0 else s).assertSource 16 0 := by
  simp [State.rstCtrl, happ, hkey, hwarm, hcold]

/-- COLD alone by Rook asserts ROOK_COLD. -/
theorem State.rstCtrl_cold (s : State) (data : Nat) (hkey : bits data 31 16 = 0x5E7A) (hsys : bitOf data 0 = false)
    (hwarm : bitOf data 1 = false) (hcold : bitOf data 2 = true) : s.rstCtrl 0x30 data = s.assertSource 7 0 := by
  simp [State.rstCtrl, hkey, hsys, hwarm, hcold]

theorem State.rstCtrl_sys_asserts (s : State) (ini data : Nat) (happ : isApp ini = true) (hkey : bits data 31 16 = 0x5E7A)
    (hsys : bitOf data 0 = true) (hcold : bitOf data 2 = false) : AssertsSource 14 s (s.rstCtrl ini data) := by
  rw [s.rstCtrl_sys ini data happ hkey hsys hcold]
  split
  · exact (s.assertSource_asserts 14 0).then_frame ((State.assertSource_frame 16 _ 0).mono (by decide))
  · exact s.assertSource_asserts 14 0

theorem State.rstCtrl_warm_asserts (s : State) (ini data : Nat) (happ : isApp ini = true) (hkey : bits data 31 16 = 0x5E7A)
    (hwarm : bitOf data 1 = true) (hcold : bitOf data 2 = false) : AssertsSource 16 s (s.rstCtrl ini data) := by
  rw [s.rstCtrl_warm ini data happ hkey hwarm hcold]
  split
  · exact ((State.assertSource_frame 14 s 0).mono (by decide)).then_asserts (State.assertSource_asserts _ 16 0)
  · exact s.assertSource_asserts 16 0

theorem State.rstCtrl_cold_asserts (s : State) (data : Nat) (hkey : bits data 31 16 = 0x5E7A) (hsys : bitOf data 0 = false)
    (hwarm : bitOf data 1 = false) (hcold : bitOf data 2 = true) : AssertsSource 7 s (s.rstCtrl 0x30 data) := by
  rw [s.rstCtrl_cold data hkey hsys hwarm hcold]
  exact s.assertSource_asserts 7 0

/-- A granted write whose effect asserts a source asserts it: that it cancels a pending service (R513) lies within the frame. -/
theorem State.asWrite_asserts {s : State} {ini a src : Nat} {k : State → State} (hok : s.judge ini a true = .ok)
    (hk : ∀ u : State, AssertsSource src u (k u)) : AssertsSource src s (s.asWrite ini a k) := by
  rw [s.asWrite_ok ini a k hok]
  exact (s.rookWrote_frame src ini a).then_asserts (hk _)

end Sys2Proof.Machine
end

section
/-!
The statements about the reset sources: supplies, pins, software, watchdogs and SYSPLL.
-/

namespace Sys2Proof.Machine

open R

/-! ## Supplies and the sensor (R54, R55, R73) -/

/-- AON_POR below 2.2 V asserts its source, and VBAT is no longer valid. -/
theorem aonPor_asserts (s : State) (mv cyc : Nat) (hmv : mv < 2200) :
    Does (.aonPor mv cyc) s (fun t => Asserted 0 t ∧ t.pwr.railValid.contains 9 = false ∧ AssertFrame 0 s t) := by
  have hu : AssertsSource 0 s (((s.railDown 9).assertSource 0 cyc).withPwr ((s.railDown 9).assertSource 0 cyc).pwr.afterAonPor) :=
    ((s.railDown_frame 0 9).then_asserts (State.assertSource_asserts _ 0 cyc)).then_frame (.pwr 0 _ _)
  refine does_of_fin (exec_aonPor_low s mv cyc hmv) ⟨hu.gated.1, ?_, hu.gated.2⟩
  rw [State.relayGate_pwr, State.withPwr_pwr, PwrState.afterAonPor_railValid, State.assertSource_railValid]
  exact s.railDown_not_valid 9

/-- MAIN_POR below the power-on level asserts its source, after BROWNOUT where the rail was valid with MAIN_EN high. -/
theorem mainPor_asserts (s : State) (rail mv cyc : Nat) (hrail : rail < 9) (hmv : mv < powerOnMv rail) :
    Does (.mainPor rail mv cyc) s (fun t => Asserted 1 t ∧ t.pwr.railValid.contains rail = false ∧
      (s.pwr.railValid.contains rail = true ∧ s.pwr.mainEn = true → Asserted 4 t) ∧ AssertFrame 1 s t) := by
  have hfall : AssertFrame 1 s (s.brownFall rail cyc) := (s.brownFall_frame rail cyc).mono (by decide)
  have hu := (((s.brownFall rail cyc).railDown_frame 1 rail).then_asserts (State.assertSource_asserts _ 1 cyc)).gated
  refine does_of_fin (exec_mainPor_low s rail mv cyc hrail hmv) ⟨hu.1, ?_, ?_, hfall.trans hu.2⟩
  · rw [State.relayGate_pwr, State.assertSource_railValid]
    exact (s.brownFall rail cyc).railDown_not_valid rail
  · rintro ⟨hvalid, hen⟩
    obtain ⟨⟨hbrown, _⟩, _⟩ := s.brownFall_asserts rail cyc hvalid hen
    exact hbrown.keep hu.2

/-- BROWNOUT of a valid rail with MAIN_EN high asserts its source, and the rail is no longer valid. -/
theorem brownout_asserts (s : State) (rail mv cyc : Nat) (hrail : rail < 9) (hmv : mv < brownoutMv rail)
    (hvalid : s.pwr.railValid.contains rail = true) (hen : s.pwr.mainEn = true) :
    Does (.brownout rail mv cyc) s (fun t => Asserted 4 t ∧ t.pwr.railValid.contains rail = false ∧ AssertFrame 4 s t) := by
  obtain ⟨hfall, hdown⟩ := s.brownFall_asserts rail cyc hvalid hen
  refine does_of_fin (exec_brownout_low s rail mv cyc hrail hmv) ⟨hfall.gated.1, ?_, hfall.gated.2⟩
  rw [State.relayGate_pwr]
  exact hdown

/-- A reading of 115 °C or more asserts THERMAL and drives THERMTRIP_N. -/
theorem thermalTrip_asserts (s : State) (celsius : Int) (cyc : Nat) (hhot : 115 ≤ celsius) :
    Does (.thermalTrip celsius cyc) s (fun t => Asserted 5 t ∧ t.pwr.thermTrip = true ∧ AssertFrame 5 s t) := by
  have hu : AssertsSource 5 s ((s.assertSource 5 cyc).withPwr (s.assertSource 5 cyc).pwr.tripped) :=
    (s.assertSource_asserts 5 cyc).then_frame (.pwr 5 _ _)
  refine does_of_fin (exec_thermalTrip_hot s celsius cyc hhot) ⟨hu.gated.1, ?_, hu.gated.2⟩
  rw [State.relayGate_pwr, State.withPwr_pwr, PwrState.tripped_thermTrip]

/-- Settles O6: each meaning is an assertion of its source between updates within its frame. -/
theorem supplyAndPinSourcesAssertTheirReach : Obligations.SupplyAndPinSourcesAssertTheirReach := by
  refine ⟨aonPor_asserts, mainPor_asserts, brownout_asserts, ?testMode, thermalTrip_asserts, ?resetPin, ?warmPin⟩
  case testMode => exact fun s cyc => does_of_asserts rfl (s.assertSource_asserts 3 cyc)
  case resetPin => exact fun s cyc => does_of_asserts rfl (s.assertSource_asserts 6 cyc)
  case warmPin => exact fun s cyc => does_of_asserts rfl (s.assertSource_asserts 15 cyc)

/-! ## Software, watchdogs and SYSPLL (R82, R110, R111, R127) -/

/-- Settles O7: each meaning, where its condition holds, is an assertion of its source, or two whose frames agree. -/
theorem softwareAndWatchdogResetsAssertTheirReach : Obligations.SoftwareAndWatchdogResetsAssertTheirReach := by
  refine ⟨?sys, ?warm, ?cold, ?jtag, ?appWdog, ?mpWdog, ?mpSw, ?syspll⟩
  case sys =>
    intro s ini data happ hok hkey hsys hcold
    exact does_of_asserts (congrArg fin (if_pos hsys))
      (State.asWrite_asserts hok (fun u => u.rstCtrl_sys_asserts ini data happ hkey hsys hcold))
  case warm =>
    intro s ini data happ hok hkey hwarm hcold
    exact does_of_asserts (congrArg fin (if_pos hwarm))
      (State.asWrite_asserts hok (fun u => u.rstCtrl_warm_asserts ini data happ hkey hwarm hcold))
  case cold =>
    intro s data hok hkey hsys hwarm hcold
    exact does_of_asserts (congrArg fin (if_pos hcold))
      (State.asWrite_asserts hok (fun u => u.rstCtrl_cold_asserts data hkey hsys hwarm hcold))
  case jtag =>
    intro s cyc hopen
    exact does_of_asserts (congrArg fin (if_pos (by simpa using hopen))) (s.assertSource_asserts 11 cyc)
  case appWdog => exact fun s => does_of_asserts rfl (s.assertSource_asserts 10 0)
  case mpWdog => exact fun s => does_of_asserts rfl (s.assertSource_asserts 17 0)
  case mpSw => exact fun s => does_of_asserts rfl (s.assertSource_asserts 18 0)
  case syspll =>
    intro s cyc hhold href
    have hunlock : AssertFrame 7 s (s.put CLK_STATUS_SYSPLL_LOCK 0) :=
      .of_owner 7 (OwnerKeeps.put s CLK_STATUS_SYSPLL_LOCK 0 (by simp [regPart, regPartNum]))
    exact does_of_asserts (congrArg fin (if_pos (by simp [hhold, href])))
      (hunlock.then_asserts (State.assertSource_asserts _ 7 cyc))

end Sys2Proof.Machine
end
